-- ==== Sys2Proof/Word.lean ====
section
/-! DEFINITION. The word types of the block: a register word is 32 bits (spec/ file 00, "Registers"), a byte is 8. -/

namespace Sys2Proof

/-- A register or table word. -/
abbrev Word := BitVec 32

/-- A byte of a packet or of a byte-addressed memory. -/
abbrev Byte := BitVec 8

end Sys2Proof
end

