-- ==== Sys2Proof/Syntax.lean ====
section
/-! DEFINITION. The commands of the block: one constructor of `Instr` for each row of spec/opcode_table.json, with
the operands the spec gives it (a requester, an index, a value written), or, for a row that is a happening, what the
happening brings from outside the block (readings, received words). -/

namespace Sys2Proof

/-- Who reaches the register space and the memories (R312, R319, R321, R343): the management core, an application hart,
the serial slave port, the firmware's own window that Baind table commands use, and the cluster's DMA engine. -/
inductive Requester where
  | mgmt
  | hart (h : Nat)
  | ssp
  | fw
  | dma
  deriving DecidableEq, Repr

/-- The size of a store (R341): `hi` is the high word of an aligned 64-bit one. -/
inductive StoreSize where
  | byte
  | half
  | word
  | double (hi : Word)
  deriving DecidableEq, Repr

/-- The two dies that carry thermal management sensors (R282). -/
inductive Die where
  | logic
  | power
  deriving DecidableEq, Repr

/-- The levels of a die (R283). -/
inductive Level where
  | warning
  | throttle
  | shutdown
  deriving DecidableEq, Repr

/-- The conditions of the VVAL monitor (R277). -/
inductive VvalCond where
  | warn
  | low
  | high
  deriving DecidableEq, Repr

/-- The retention groups (R330). -/
inductive RetGroup where
  | pb
  | ub
  | bb
  | kb
  | sp (i : Nat)
  deriving DecidableEq, Repr

/-- The two directions of a mailbox channel (R345). -/
inductive MbxDir where
  | up
  | down
  deriving DecidableEq, Repr

/-- The two chain ports (spec/ file 16). -/
inductive ChainPort where
  | low
  | high
  deriving DecidableEq, Repr

/-- The header of a row group, H0 and H1 of R67. -/
structure Header where
  stamp : Nat
  rgrp : Nat
  tile : Nat
  gain : Nat
  settle : Bool
  swap : Bool
  partialF : Bool
  unsync : Bool
  invalid : Bool
  scnt : Nat
  swslice : Nat
  swlane : Nat
  swspare : Nat
  swdir : Bool
  frame : Nat
  crc : Nat
  deriving DecidableEq, Repr

/-- A row group: its header and 256 sample words (R66, R67); word `4 * j + s` is slice `s` of lane `j`. -/
structure RowGroup where
  hdr : Header
  words : List Nat
  deriving DecidableEq, Repr

/-- A memory error that has appeared in a word of a bank of R312 (57 is the table memories, 58 the LPDDR4X in words of 8
bytes), seen by the next read of the word: correctable or not (R314, R315, R333). -/
structure MemErr where
  bank : Nat
  word : Nat
  ue : Bool
  deriving DecidableEq, Repr

/-- Where a Baind packet came from (R363): a UDP endpoint, the serial slave port, a mailbox channel, or another
member of the chain that forwards it (R365). -/
inductive Source where
  | udp (ip port : Nat)
  | ssp
  | mbx (c : Nat)
  | chain (index : Nat)
  deriving DecidableEq, Repr

/-- What a Baind packet carries beside its opcode and payload (R359): its source, version, the AUTH trailer when
FLAGS.AUTH is 1, its sequence number and its target. -/
structure Hdr where
  src : Source
  version : Nat
  trailer : Option (List Byte)
  seq : Nat
  target : Nat
  deriving DecidableEq, Repr

/-- A received Ethernet frame, with the header fields that R380 classifies it by. -/
inductive EthFrame where
  /-- an IPv4 UDP datagram -/
  | udp (tagged fragment : Bool) (srcIp srcPort dstIp dstPort : Nat) (payload : List Byte)
  | arp (targetIp : Nat)
  | icmpEcho (srcIp dstIp : Nat)
  /-- a PTP event or general message over EtherType 0x88F7 -/
  | ptpL2
  | other
  /-- longer than 1,522 bytes (R379) -/
  | oversize
  /-- damaged in reception -/
  | bad
  deriving DecidableEq, Repr

/-- What shows LY's movement: a kink, or LYPOS at a level (R268). -/
inductive LySense where
  | kink
  | lypos (level : Bool)
  deriving DecidableEq, Repr

/-- A DHCP message of RFC 2131 to the client (R381). -/
inductive DhcpMsg where
  | offer (ip : Nat)
  | ack (ip mask gw : Nat)
  | nak
  deriving DecidableEq, Repr

/-- A timer of the DHCP client (R381). -/
inductive DhcpTimer where
  | renew
  | rebind
  | expire
  deriving DecidableEq, Repr

/-- A TIME message (R411): the chain time of the next pulse, frame count, rate, the sender's index and its state in the
codes of CHN_STAT.STATE, a pending rate change and RUN. -/
structure TimeMsg where
  port : ChainPort
  time : Nat
  frameCount : Nat
  rate : Nat
  sender : Nat
  state : Nat
  master : Nat
  pendingRate : Option Nat
  run : Nat
  deriving DecidableEq, Repr

/-- What the old master leaves to the new one (R413): its grant queue as stamps and indices, the grant in force as its
holder and since when, the moment of the last RELEASE plus one, and its ETH_PTPOFS with OFSVALID. -/
structure Mastership where
  grants : List (Nat × Nat)
  holder : Option (Nat × Nat)
  released : Nat
  ofs : Nat
  ofsValid : Bool
  deriving DecidableEq, Repr

/-- A SPLICE firing request (R425). -/
structure SpliceReq where
  sender : Nat
  vseq : Nat
  row : Bool
  tL : Nat
  tT : Nat
  first : Nat
  last : Nat
  deriving DecidableEq, Repr

/-- What a chain neighbour tells when a link comes up (R412 to R414): its index, overlap, lanes and offset, whether it
is an orphan, and the straps set beyond this port, bit i for module i. -/
structure LinkInfo where
  index : Option Nat
  straps : Nat
  overlap : Nat
  lanes : Nat
  offset : Nat
  orphan : Bool
  deriving DecidableEq, Repr

/-- A TAP instruction of R455. -/
inductive JtagInstr where
  | bypass
  | idcode
  | samplePreload
  | extest
  | clamp
  | highz
  deriving DecidableEq, Repr

/-- The commands, in the order of spec/opcode_table.json. -/
inductive Instr where
  -- start-up and resets
  | powerOn (vio33 : Bool)
  | railGood
  | railFault (rail : Nat)
  | vinPowerFail
  | dipSet (vinMv : Nat)
  | dipClear
  | watchdogExpiry
  | swrst (req : Requester) (key : Nat)
  | debugReset
  | resetRelease
  | bootSlotCheck
  | configLoadDone
  | chainListenTimeout
  | readyEntry
  | powerupCalStart
  | powerupCalRetry
  | glbRunWrite (req : Requester) (run : Bool)
  | glbCtrlSafe (req : Requester)
  -- frames, tiles and the tether
  | frameBoundary
  | rowGroupSlot (tile : Nat) (raw : List Int)
  | spareHandover (tile spare : Nat) (sliceCode spareCode : Int) (newGain newOfs : Int)
  | rowGroupReceive (tile : Nat) (rx : Option RowGroup) (overflow : Bool)
  | alignBlock (tile frame : Nat) (headerOk : Bool)
  | tetherRealign (tile : Nat)
  | tetherRealignTimeout (tile : Nat)
  | rowGroupRelease (tile occ : Nat) (errs : List MemErr)
  | controlLaneMessage
  | controlLaneLoss
  | controlLaneRelock
  | stageSensorRead (readings : List (Option Nat))
  | tsExclude (i : Nat)
  | tsReadmit (i : Nat)
  | stageLock
  | stageUnreg
  | stageUnregClear
  | stgCtrlWrite (req : Requester) (v : Word)
  | stgFrateWrite (req : Requester) (v : Word)
  | stgBiasWrite (req : Requester) (v : Word)
  | stgSetptWrite (req : Requester) (v : Word)
  | tilGainWrite (req : Requester) (tile : Nat) (v : Word)
  | tilPtdataWrite (req : Requester) (tile : Nat) (v : Word)
  | tilSkimWrite (req : Requester) (tile i : Nat) (v : Word)
  | tilScal (req : Requester) (tile : Nat)
  | scalComplete (tile : Nat) (factors : List (Int × Int))
  | tilRotenWrite (req : Requester) (tile : Nat) (en : Bool)
  | tilCfdataWrite (req : Requester) (tile : Nat) (v : Word)
  | tilPark (req : Requester) (tile slice spare : Nat)
  | tilRelease (req : Requester) (tile spare : Nat)
  | tilResync (req : Requester) (tile : Nat)
  -- correction and calibration
  | corV0Write (req : Requester) (v : Word)
  | corOflip (req : Requester) (v : Word)
  | corBlendStart (req : Requester) (frames : Nat)
  | corBlendAbort (req : Requester)
  | corLanexWrite (req : Requester) (j : Nat) (v : Word)
  | calTriggerEval
  | calGo (req : Requester)
  | calGrantTimeout
  | calDeferredRetry
  | lyFlagClosed (w : LySense)
  | lyFlagOpen (w : LySense)
  | flagCloseTimeout
  | calSettleEnd
  | calCaptureEnd
  | calComputeDone
  | flagStuck
  | calResumeEnd
  | calSlotCopyDone
  | trimHandoffTimeout
  | calAbort (req : Requester)
  | grefStart (req : Requester)
  | grefWindow1End
  | grefSettled
  | grefSettleTimeout
  | grefWindow2End
  | grefDone
  | gapply (req : Requester)
  -- braid, knots, verdicts, scheduling
  | sliceComplete (errs : List MemErr)
  | verdictIssue (errs : List MemErr) (refused : List ChainPort)
  | brdParamWrite (req : Requester) (addr : Nat) (v : Word)
  | brdTableComputeDone
  | brdUnlayWrite (req : Requester) (v : Word)
  | brdSwitch (req : Requester) (v : Word)
  | brdRestart (req : Requester)
  | brdTrackEval
  | kntThrWrite (req : Requester) (v : Word)
  | vrdSwitch (req : Requester)
  | mapsw (req : Requester)
  | qflush (req : Requester)
  | ejsStagedWrite (req : Requester) (addr : Nat) (v : Word)
  -- valve and lanyard drive
  | firingOpen (ch : Nat)
  | tokenGrant
  | tokenDeadline (ch : Nat)
  | peakEnd (ch : Nat)
  | peakTimeout (ch imeas : Nat)
  | holdEntry (ch : Nat)
  | chopPeriod (bank : Nat) (currents : List Nat)
  | firingClose (ch : Nat)
  | currentZero (ch : Nat)
  | coilThermalUpdate (i2 : List Nat)
  | openingKink (ch t fall : Nat)
  | closingKink (ch t reversal : Nat)
  | positionEdge (input : Nat) (level : Bool)
  | openingWindowEnd (ch : Nat)
  | closingWindowEnd (ch : Nat)
  | overcurrent (ch : Nat)
  | drainShort (ch : Nat)
  | railNodeShort (bank : Nat)
  | railStuckHigh (bank : Nat)
  | boostMeasure (vbst : Nat)
  | vlvClrflt (req : Requester) (ch : Nat)
  | vbkClrflt (req : Requester) (bank : Nat)
  | driveEnableWrite (req : Requester) (addr : Nat) (v : Word)
  | lyEnergise (req : Requester) (on : Bool)
  | lyClrflt (req : Requester)
  -- supplies, budget, thermal, housekeeping, loops
  | vvalThreshold (cond : VvalCond) (set : Bool)
  | budgetEval (iBase iTotal : Nat)
  | overbudgetRelease
  | pwrBudprioWrite (req : Requester) (v : Word)
  | thermalSample (tl tp : List Nat)
  | thermalLevelEnter (die : Die) (level : Level)
  | thermalLevelLeave (die : Die) (level : Level)
  | throttleStep2 (die : Die)
  | thmRestart (req : Requester)
  | autoRestart
  | thermalSensorExclude (die : Die) (i : Nat)
  | thermalSensorReadmit (die : Die) (i : Nat)
  | dramTempRead (rate : Nat)
  | hkaConversion (codes : List Int)
  | rtdStale
  | hkaScalStart (req : Requester)
  | hkaScalDone (gain ofs : Nat)
  | heaterPeriodStart (out : Nat)
  | heaterOutputOff (out : Nat)
  | preheatWindowEnd
  | backdropLoopUpdate
  | loopCtrlWrite (req : Requester) (v : Word)
  | loopClear (req : Requester) (ph bk : Bool)
  -- memories
  | scrubWriteback
  | bightStart (errs : List MemErr)
  | bightDone (fail : Option Nat)
  | bightRestoreDone
  | bightSkip
  | memRetctlWrite (req : Requester) (v : Word)
  | retentionWake (group : RetGroup)
  | tableMemoryReload (table : Nat) (ok : Bool)
  -- processors, register space, events
  | hartenWrite (req : Requester) (harten : Nat)
  | hartOffline (h : Nat)
  | appweWrite (req : Requester) (v : Word)
  | registerWrite (req : Requester) (addr : Nat) (size : StoreSize) (v : Word) (also : Option (Requester × Word))
    (hwSet : Word)
  | loWordRead (req : Requester) (addr : Nat) (wide : Bool) (also : Option (Requester × Word))
  | tableDataRead (req : Requester)
  | tableDataWrite (req : Requester) (v : Word) (also : Option (Requester × Word))
  | counterClear (req : Requester) (addr : Nat)
  | mbxSend (req : Requester) (c : Nat) (dir : MbxDir)
  | mbxPop (req : Requester) (c : Nat) (dir : MbxDir)
  | evtForce (req : Requester) (g : Nat) (v : Word)
  | evtCntclr (req : Requester)
  | evtClrall (req : Requester) (same : List Nat)
  | evtPinPulseEnd (i : Nat)
  | logPageCopy
  -- Baind commands
  | regRead (h : Hdr) (addr count : Nat)
  | regWrite (h : Hdr) (addr : Nat) (words : List Word)
  | regModify (h : Hdr) (addr : Nat) (mask value : Word)
  | start (h : Hdr)
  | stop (h : Hdr)
  | safe (h : Hdr)
  | restart (h : Hdr)
  | reset (h : Hdr) (key : Nat)
  | status (h : Hdr)
  | opQuery (h : Hdr)
  | identify (h : Hdr)
  | calRun (h : Hdr)
  | calGref (h : Hdr)
  | calGapply (h : Hdr)
  | convScal (h : Hdr) (tiles : Word)
  | hkaScal (h : Hdr)
  | loadTable (h : Hdr) (id addr : Nat) (words : List Word)
  | readTable (h : Hdr) (id addr count : Nat)
  | saveTables (h : Hdr)
  | saveTablesDone
  | restoreTables (h : Hdr)
  | restoreTablesDone
  | tapGrab (h : Hdr) (count : Nat)
  | tapRead (h : Hdr) (index offset len : Nat)
  | sessionOpen (h : Hdr) (nonce : List Byte)
  | sessionClose (h : Hdr)
  | sessionIdleExpiry (src : Source)
  | setDevkey (h : Hdr) (key : List Byte)
  | updBegin (h : Hdr) (size : Nat)
  | updEraseDone
  | updData (h : Hdr) (offset : Nat) (data : List Byte)
  | updVerify (h : Hdr)
  | updVerifyDone
  | updActivate (h : Hdr) (slot : Nat)
  | updStatus (h : Hdr)
  | logInfo (h : Hdr)
  | logRead (h : Hdr) (seq count : Nat)
  | chnInfo (h : Hdr)
  | chnMaster (h : Hdr)
  | abort (h : Hdr) (opcode seq : Nat)
  | replyCacheExpiry (src : Source)
  | forwardTimeout (src : Source) (seq : Nat)
  -- management port
  | ethFrameReceive (f : EthFrame) (errs : List MemErr)
  | dhcpMessage (m : DhcpMsg)
  | ptpMessage (residual : Int) (ptpTime : Nat)
  | ptpSyncTimeout
  | ptpReofs (req : Requester)
  | phyStatusPoll (link : Bool) (speed : Nat) (fdx : Bool)
  | mdioGo (req : Requester) (v : Word)
  | mdioAccessDone (data : Nat)
  -- serial slave port and flash
  | sspRegisterReadFrame (mode3 : Bool) (rsv : Nat) (inc : Bool) (addr words : Nat)
  | sspRegisterWriteFrame (mode3 : Bool) (rsv : Nat) (inc : Bool) (bytes : List Byte) (bits : Nat)
  | sspStreamWriteFrame (mode3 : Bool) (rsv : Nat) (bytes : List Byte) (bits : Nat) (partialByte : Nat)
  | sspStreamReadFrame (mode3 : Bool) (rsv : Nat) (bytes : Nat)
  | xipRead (cluster : Bool) (addr : Nat)
  | xipLineFetchDone
  | flashResume
  | flashOperationDone
  -- chain
  | chainLinkUp (port : ChainPort) (info : Option LinkInfo)
  | chainLinkDown (port : ChainPort)
  | timeMessage (crc : Bool) (m : TimeMsg)
  | chainSyncPulse (port : ChainPort)
  | hitchSlewStep
  | chainPulseMissing
  | chainRejoin
  | handover (crc : Bool) (sender : Nat) (give : Option Mastership)
  | grantReq (crc : Bool) (sender stamp : Nat)
  | grant (crc : Bool) (target boundary : Nat)
  | release (crc : Bool) (sender : Nat)
  | grantMaxTimeout
  | echo (crc : Bool) (port : ChainPort) (roundTrip : Nat)
  | echoPeriod
  | baindForward (crc reply : Bool) (h : Hdr) (opcode : Nat) (payload : List Byte)
  | splice (crc : Bool) (r : SpliceReq)
  | takemst (req : Requester)
  | chnResync (req : Requester)
  -- test, bypass, debug
  | tmxBlindWrite (req : Requester) (v : Word)
  | tmxTpctlWrite (req : Requester) (v : Word)
  | tmxTpdataWrite (req : Requester) (v : Word)
  | bscanenWrite (req : Requester) (v : Word)
  | jtagInstruction (i : JtagInstr)
  | debugHalt (h : Nat) (step : Bool)
  -- added rows
  | tetherBlockLockLoss (tile : Nat)
  | firmwareFault
  | dhcpLeaseTimer (t : DhcpTimer)
  | causeLatchLoss
  deriving DecidableEq, Repr

end Sys2Proof
end

