-- ==== Sys2Proof/Decode.lean ====
section
/-! DEFINITION. The command that a table word spells: no row of spec/opcode_table.json gives bits, so none does. -/

namespace Sys2Proof

/-- No row of the table has bits. -/
def decodeTableWord (_nbits _w : Nat) : Option Instr := none

end Sys2Proof
end

