-- ==== Sys2Proof/Config.lean ====
section
/-! DEFINITION. What the spec leaves open, as constants without a body: nothing in Lean can evaluate them, so a
claim holds whatever they are. Each is named by a row of the assumption log. -/

namespace Sys2Proof.Config

/-- A value the spec leaves wholly open, drawn in turn by `State.free` (log entry 2). -/
opaque freeValue : Nat → Nat

/-- The arithmetic error of one corrected sample, R91: at most 1 code either way (log entry 3). Its argument lists
the operands of R90. -/
opaque tcError : List Int → Nat

/-- The arithmetic error of one unlayed sample, R147: at most 1 code either way (log entry 3). -/
opaque unlayError : List Int → Nat

/-- Whether an unlay coefficient of R148 is rounded up from its exact value: the spec does not say how the firmware
rounds an entry to its format (log entry 21). -/
opaque coefRound : List Nat → Nat

/-- The arithmetic error of SDEV, R203: at most 1 LSB either way (log entry 3). -/
opaque sdevError : List Int → Nat

/-- The arithmetic error of an arrival time in nanoseconds, R217: at most 1 µs either way (log entry 3). -/
opaque arrivalError : List Int → Nat

/-- The factory compensation table of R292, by its point: the correction of the bolometer bias, and the column reference
level. Host software cannot reach it and the spec lists none of its values (log entry 87). -/
opaque compBias : Nat → Int

opaque compRef : Nat → Int

/-- The factory trim table of R293, by its entry, in 0.001% (log entry 87). -/
opaque oscTrim : Nat → Int

/-- What a housekeeping result reads as in its own unit: VIN in mV, VVAL in 10 mV, the RTD's resistance in mΩ. The spec gives no full scale of the converter (log entry 7). Its argument lists the channel, the
result and the settings it was made with. -/
opaque hkaReading : List Nat → Nat

/-- The word of the L2 that holds 8 bytes of the LPDDR4X while they are cached: the spec gives no mapping (log entry 92). -/
opaque l2Word : Nat → Nat

/-- Where the tap stages a record in FB: 0 where the record of an index does not pass a word of FB, else 1 plus the
data unit that does: the spec gives no allocation (log entry 97). -/
opaque tapStaging : Nat → Nat → Nat

end Sys2Proof.Config
end

