-- ==== Sys2Proof/Machine/Arith.lean ====
section
/-! DEFINITION. Exact arithmetic the meanings share: rounding, clamping, two's complement, bits, roots. -/

namespace Sys2Proof.Machine

/-- The quotient rounded to the nearest whole number, halves away from zero. -/
def roundDiv (n : Int) (d : Nat) : Int :=
  if 0 ≤ n then ((2 * n.toNat + d) / (2 * d) : Nat) else -(((2 * (-n).toNat + d) / (2 * d) : Nat) : Int)

def clampI (lo hi x : Int) : Int := if x < lo then lo else if hi < x then hi else x

/-- A whole number as a natural one, 0 below zero. -/
def clampN (hi : Nat) (x : Int) : Nat := (clampI 0 hi x).toNat

/-- The grid point of chain time at or below (R8, R36). -/
def floor2 (t : Nat) : Nat := t / 2 * 2

/-- Bits [lo + w - 1 : lo]. -/
def bits (v lo w : Nat) : Nat := v / 2 ^ lo % 2 ^ w

def bitOf (v i : Nat) : Bool := bits v i 1 == 1

def b2n (b : Bool) : Nat := if b then 1 else 0

/-- The two's complement value of a `w`-bit field. -/
def sgn (w v : Nat) : Int := if v < 2 ^ (w - 1) then (v : Int) else (v : Int) - ((2 ^ w : Nat) : Int)

/-- The `w`-bit two's complement field of a value. -/
def unsgn (w : Nat) (x : Int) : Nat := (x % ((2 ^ w : Nat) : Int)).toNat

def popcount : Nat → Nat → Nat
  | 0, _ => 0
  | n + 1, v => v % 2 + popcount n (v / 2)

/-- The positions below `n` of the 1 bits of `v`. -/
def onesOf (n v : Nat) : List Nat := (List.range n).filter fun i => bitOf v i

/-- The mask of the low `w` bits cleared in `v` where `m` has ones. -/
def andNot (v m : Nat) : Nat := v - (v &&& m)

/-- Square root rounded down, by `n` bits from the highest. -/
def isqrtAux : Nat → Nat → Nat → Nat
  | 0, _, r => r
  | n + 1, x, r => if (r + 2 ^ n) * (r + 2 ^ n) ≤ x then isqrtAux n x (r + 2 ^ n) else isqrtAux n x r

def isqrt (n x : Nat) : Nat := isqrtAux n x 0

def satAdd (w a b : Nat) : Nat := if a + b < 2 ^ w then a + b else 2 ^ w - 1

def sumI (l : List Int) : Int := l.foldl (· + ·) 0

def sumN (l : List Nat) : Nat := l.foldl (· + ·) 0

def insertSorted (x : Int) : List Int → List Int
  | [] => [x]
  | y :: r => if x ≤ y then x :: y :: r else y :: insertSorted x r

def sortI (l : List Int) : List Int := l.foldr insertSorted []

/-- Twice the median: the middle two of an even number count as their mean (R57). -/
def median2 (l : List Int) : Int :=
  let s := sortI l
  let n := s.length
  if n % 2 = 1 then 2 * (s.getD (n / 2) 0) else s.getD (n / 2 - 1) 0 + s.getD (n / 2) 0

end Sys2Proof.Machine
end

