-- ==== Sys2Proof/Machine/Fields.lean ====
section
/-! DEFINITION. Register fields (R12, R14), the rows of the register tables, and sparse maps: lists of key and
value pairs in one canonical form, keys strictly rising and no entry equal to what an unlisted key reads as. -/

namespace Sys2Proof.Machine

/-- The field types of R12. -/
inductive FTy where
  | ro
  | rw
  | wo
  | w1c
  | w1s
  deriving DecidableEq, Repr

/-- A register field: the byte offset of its register in the register space, its lowest bit, its width, its type,
its reset value, and whether that value is loaded from flash or fuses (R13). -/
structure Fld where
  addr : Nat
  lo : Nat
  width : Nat
  ty : FTy
  reset : Nat
  load : Bool
  deriving DecidableEq, Repr

/-- The key of a field in the field store; a register has 32 bits, so keys of two registers never meet. -/
def Fld.key (f : Fld) : Nat := 32 * f.addr + f.lo

/-- A family of registers: name, byte offset of the first, stride and count of its two indices, and the fields of
the first instance. -/
structure RegFam where
  name : String
  base : Nat
  stride1 : Nat
  count1 : Nat
  stride2 : Nat
  count2 : Nat
  fields : List Fld
  deriving DecidableEq, Repr

/-! ### Sparse maps -/

/-- The value at key `k`; an unlisted key reads as `d`. -/
def mget {α : Type} (d : α) : List (Nat × α) → Nat → α
  | [], _ => d
  | (k', v) :: r, k => if k = k' then v else mget d r k

/-- Take every entry of key `k` out. -/
def merase {α : Type} (m : List (Nat × α)) (k : Nat) : List (Nat × α) := m.filter fun p => p.1 != k

/-- Put an entry before the first one of a larger key. -/
def minsert {α : Type} (k : Nat) (v : α) : List (Nat × α) → List (Nat × α)
  | [] => [(k, v)]
  | (k', v') :: r => if k < k' then (k, v) :: (k', v') :: r else (k', v') :: minsert k v r

/-- Write `v` at key `k`; writing `d` leaves no entry, so the canonical form stays. -/
def mset {α : Type} [DecidableEq α] (d : α) (m : List (Nat × α)) (k : Nat) (v : α) : List (Nat × α) :=
  if v = d then merase m k else minsert k v (merase m k)

/-- Change the value at key `k`. -/
def mupd {α : Type} [DecidableEq α] (d : α) (m : List (Nat × α)) (k : Nat) (f : α → α) : List (Nat × α) :=
  mset d m k (f (mget d m k))

/-- Write a list of numbers, bytes say, at ascending keys; unlisted keys read 0. -/
def putAll (m : List (Nat × Nat)) (k : Nat) (l : List Nat) : List (Nat × Nat) :=
  (List.range l.length).foldl (fun m i => mset 0 m (k + i) (l.getD i 0)) m

/-- Keys are strictly rising. -/
def mkeysRising {α : Type} : List (Nat × α) → Bool
  | [] => true
  | [_] => true
  | (k, _) :: (k', v') :: r => decide (k < k') && mkeysRising ((k', v') :: r)

/-- The canonical form of a sparse map whose unlisted keys read as `d`. -/
def mwf {α : Type} [DecidableEq α] (d : α) (m : List (Nat × α)) : Bool :=
  mkeysRising m && m.all fun p => decide (p.2 ≠ d)

end Sys2Proof.Machine
end

