-- ==== Sys2Proof/Machine/RegsA.lean ====
section
/-! DEFINITION. The registers of the blocks GLB, EVT, PWR, THM, HKA, STG, TIL: the fields of the spec's field tables, bit for bit, and one
table row for each register family (R12, R13, R342). An index is read modulo its count. -/

namespace Sys2Proof.Machine.Reg

/-! ### GLB (spec/ file 13, 17) -/

def GLB_IDENT_PART : Fld := ⟨0x0, 0, 16, .ro, 0x0, true⟩
def GLB_IDENT_SREV : Fld := ⟨0x0, 16, 8, .ro, 0x0, true⟩
def GLB_IDENT_LREV : Fld := ⟨0x0, 24, 8, .ro, 0x0, true⟩
def GLB_SERIAL_LO_SN : Fld := ⟨0x4, 0, 32, .ro, 0x0, true⟩
def GLB_SERIAL_HI_SN : Fld := ⟨0x8, 0, 32, .ro, 0x0, true⟩
def GLB_FWVER_VER : Fld := ⟨0xC, 0, 24, .ro, 0x0, true⟩
def GLB_FWVER_SLOT : Fld := ⟨0xC, 24, 1, .ro, 0x0, true⟩
def GLB_CTRL_RUN : Fld := ⟨0x10, 0, 1, .rw, 0x0, false⟩
def GLB_CTRL_SWRST : Fld := ⟨0x10, 1, 1, .wo, 0x0, false⟩
def GLB_CTRL_SAFE : Fld := ⟨0x10, 2, 1, .wo, 0x0, false⟩
def GLB_CTRL_KEY : Fld := ⟨0x10, 8, 8, .wo, 0x0, false⟩
def GLB_STAT_STATE : Fld := ⟨0x14, 0, 4, .ro, 0x0, false⟩
def GLB_STAT_UNSYNC : Fld := ⟨0x14, 4, 1, .ro, 0x0, false⟩
def GLB_STAT_FAULT : Fld := ⟨0x14, 5, 1, .ro, 0x0, false⟩
def GLB_STAT_PROTERR : Fld := ⟨0x14, 6, 1, .w1c, 0x0, false⟩
def GLB_STAT_WRERR : Fld := ⟨0x14, 7, 1, .w1c, 0x0, false⟩
def GLB_STAT_CHIDX : Fld := ⟨0x14, 8, 3, .ro, 0x0, false⟩
def GLB_RSTCAUSE_CAUSE : Fld := ⟨0x18, 0, 4, .ro, 0x0, true⟩
def GLB_RSTCAUSE_BOOTS : Fld := ⟨0x18, 16, 16, .ro, 0x0, true⟩
def GLB_TIME_LO_TIME : Fld := ⟨0x1C, 0, 32, .ro, 0x0, false⟩
def GLB_TIME_HI_TIME : Fld := ⟨0x20, 0, 32, .ro, 0x0, false⟩
def GLB_APPWE_WE : Fld := ⟨0x24, 0, 23, .rw, 0x7FFFFF, true⟩
def GLB_CORECTL_HARTEN : Fld := ⟨0x28, 0, 4, .rw, 0x0, true⟩
def GLB_CORECTL_HARTON : Fld := ⟨0x28, 4, 4, .ro, 0x0, false⟩
def GLB_SAFECAUSE_CAUSES : Fld := ⟨0x2C, 0, 4, .ro, 0x0, false⟩
def GLB_SAFECAUSE_COUNT : Fld := ⟨0x2C, 16, 16, .ro, 0x0, false⟩
def GLB_TBL_SEL_TABLE : Fld := ⟨0x30, 0, 8, .rw, 0x0, false⟩
def GLB_TBL_SEL_AUTOINC : Fld := ⟨0x30, 8, 1, .rw, 0x0, false⟩
def GLB_TBL_ADDR_ADDR : Fld := ⟨0x34, 0, 20, .rw, 0x0, false⟩
def GLB_TBL_DATA_DATA : Fld := ⟨0x38, 0, 32, .rw, 0x0, false⟩
def GLB_TBL_STAT_REFUSED : Fld := ⟨0x3C, 0, 1, .w1c, 0x0, false⟩
def GLB_TBL_STAT_RANGE : Fld := ⟨0x3C, 1, 1, .w1c, 0x0, false⟩

/-- The register families of block GLB. -/
def famsGLB_0 : List RegFam := [
  ⟨"GLB_IDENT", 0x0, 0x0, 1, 0x0, 1, [GLB_IDENT_PART, GLB_IDENT_SREV, GLB_IDENT_LREV]⟩,
  ⟨"GLB_SERIAL_LO", 0x4, 0x0, 1, 0x0, 1, [GLB_SERIAL_LO_SN]⟩,
  ⟨"GLB_SERIAL_HI", 0x8, 0x0, 1, 0x0, 1, [GLB_SERIAL_HI_SN]⟩,
  ⟨"GLB_FWVER", 0xC, 0x0, 1, 0x0, 1, [GLB_FWVER_VER, GLB_FWVER_SLOT]⟩,
  ⟨"GLB_CTRL", 0x10, 0x0, 1, 0x0, 1, [GLB_CTRL_RUN, GLB_CTRL_SWRST, GLB_CTRL_SAFE, GLB_CTRL_KEY]⟩,
  ⟨"GLB_STAT", 0x14, 0x0, 1, 0x0, 1, [GLB_STAT_STATE, GLB_STAT_UNSYNC, GLB_STAT_FAULT, GLB_STAT_PROTERR, GLB_STAT_WRERR, GLB_STAT_CHIDX]⟩,
  ⟨"GLB_RSTCAUSE", 0x18, 0x0, 1, 0x0, 1, [GLB_RSTCAUSE_CAUSE, GLB_RSTCAUSE_BOOTS]⟩,
  ⟨"GLB_TIME_LO", 0x1C, 0x0, 1, 0x0, 1, [GLB_TIME_LO_TIME]⟩,
  ⟨"GLB_TIME_HI", 0x20, 0x0, 1, 0x0, 1, [GLB_TIME_HI_TIME]⟩,
  ⟨"GLB_APPWE", 0x24, 0x0, 1, 0x0, 1, [GLB_APPWE_WE]⟩,
  ⟨"GLB_CORECTL", 0x28, 0x0, 1, 0x0, 1, [GLB_CORECTL_HARTEN, GLB_CORECTL_HARTON]⟩,
  ⟨"GLB_SAFECAUSE", 0x2C, 0x0, 1, 0x0, 1, [GLB_SAFECAUSE_CAUSES, GLB_SAFECAUSE_COUNT]⟩]
def famsGLB_1 : List RegFam := [
  ⟨"GLB_TBL_SEL", 0x30, 0x0, 1, 0x0, 1, [GLB_TBL_SEL_TABLE, GLB_TBL_SEL_AUTOINC]⟩,
  ⟨"GLB_TBL_ADDR", 0x34, 0x0, 1, 0x0, 1, [GLB_TBL_ADDR_ADDR]⟩,
  ⟨"GLB_TBL_DATA", 0x38, 0x0, 1, 0x0, 1, [GLB_TBL_DATA_DATA]⟩,
  ⟨"GLB_TBL_STAT", 0x3C, 0x0, 1, 0x0, 1, [GLB_TBL_STAT_REFUSED, GLB_TBL_STAT_RANGE]⟩]
def famsGLB : List RegFam := famsGLB_0 ++ famsGLB_1

/-! ### EVT (spec/ file 13) -/

def EVT_CTRL_CNTCLR : Fld := ⟨0x400, 0, 1, .wo, 0x0, false⟩
def EVT_CTRL_CLRALL : Fld := ⟨0x400, 1, 1, .wo, 0x0, false⟩
def EVT_CAPSEL_SRC : Fld := ⟨0x408, 0, 10, .rw, 0x0, false⟩
def EVT_CAPSEL_VALID : Fld := ⟨0x408, 31, 1, .ro, 0x0, false⟩
def EVT_CAPLO_STAMP : Fld := ⟨0x40C, 0, 32, .ro, 0x0, false⟩
def EVT_CAPHI_STAMP : Fld := ⟨0x410, 0, 32, .ro, 0x0, false⟩
def EVT_PINCFG_EN0 : Fld := ⟨0x414, 0, 1, .rw, 0x0, true⟩
def EVT_PINCFG_POL0 : Fld := ⟨0x414, 1, 1, .rw, 0x0, true⟩
def EVT_PINCFG_PULSE0 : Fld := ⟨0x414, 2, 1, .rw, 0x0, true⟩
def EVT_PINCFG_EN1 : Fld := ⟨0x414, 4, 1, .rw, 0x0, true⟩
def EVT_PINCFG_POL1 : Fld := ⟨0x414, 5, 1, .rw, 0x0, true⟩
def EVT_PINCFG_PULSE1 : Fld := ⟨0x414, 6, 1, .rw, 0x0, true⟩
def EVT_PINCFG_EN2 : Fld := ⟨0x414, 8, 1, .rw, 0x0, true⟩
def EVT_PINCFG_POL2 : Fld := ⟨0x414, 9, 1, .rw, 0x0, true⟩
def EVT_PINCFG_PULSE2 : Fld := ⟨0x414, 10, 1, .rw, 0x0, true⟩
def EVT_PINCFG_EN3 : Fld := ⟨0x414, 12, 1, .rw, 0x0, true⟩
def EVT_PINCFG_POL3 : Fld := ⟨0x414, 13, 1, .rw, 0x0, true⟩
def EVT_PINCFG_PULSE3 : Fld := ⟨0x414, 14, 1, .rw, 0x0, true⟩
def EVT_PINSTAT_ACTIVE : Fld := ⟨0x418, 0, 4, .ro, 0x0, false⟩
def EVT_LOGCTL_HOLDOFF : Fld := ⟨0x41C, 0, 8, .rw, 0xA, false⟩
def EVT_LOGCTL_MIRROR : Fld := ⟨0x41C, 8, 1, .rw, 0x1, false⟩
def EVT_LOGCTL_CMDLOG : Fld := ⟨0x41C, 9, 1, .rw, 0x0, false⟩
def EVT_LOGHEAD_NEXT : Fld := ⟨0x420, 0, 12, .ro, 0x0, false⟩
def EVT_LOGSEQ_SEQ : Fld := ⟨0x424, 0, 32, .ro, 0x0, true⟩
def EVT_LOGLOST_COUNT : Fld := ⟨0x428, 0, 31, .ro, 0x0, false⟩
def EVT_LOGLOST_CLR : Fld := ⟨0x428, 31, 1, .wo, 0x0, false⟩
def EVT_FLASHPOS_NEXT : Fld := ⟨0x42C, 0, 15, .ro, 0x0, true⟩
def EVT_FLASHPOS_PEND : Fld := ⟨0x42C, 16, 12, .ro, 0x0, false⟩
def EVT_SUM_GROUP (n : Nat) : Fld := ⟨(0x440 + 0x4 * (n % 6)), 0, 24, .ro, 0x0, false⟩
def EVT_EN_EN (n : Nat) : Fld := ⟨(0x480 + 0x4 * (n % 24)), 0, 32, .rw, 0xFFFFFFFF, false⟩
def EVT_STAT_STAT (n : Nat) : Fld := ⟨(0x500 + 0x4 * (n % 24)), 0, 32, .w1c, 0x0, false⟩
def EVT_FORCE_FORCE (n : Nat) : Fld := ⟨(0x580 + 0x4 * (n % 24)), 0, 32, .wo, 0x0, false⟩
def EVT_ROUTE_ROUTE0 (n : Nat) : Fld := ⟨(0x600 + 0x4 * (n % 192)), 0, 7, .rw, 0x41, true⟩
def EVT_ROUTE_ROUTE1 (n : Nat) : Fld := ⟨(0x600 + 0x4 * (n % 192)), 8, 7, .rw, 0x41, true⟩
def EVT_ROUTE_ROUTE2 (n : Nat) : Fld := ⟨(0x600 + 0x4 * (n % 192)), 16, 7, .rw, 0x41, true⟩
def EVT_ROUTE_ROUTE3 (n : Nat) : Fld := ⟨(0x600 + 0x4 * (n % 192)), 24, 7, .rw, 0x41, true⟩
def EVT_CNT_CNT0 (n : Nat) : Fld := ⟨(0x900 + 0x4 * (n % 192)), 0, 8, .ro, 0x0, false⟩
def EVT_CNT_CNT1 (n : Nat) : Fld := ⟨(0x900 + 0x4 * (n % 192)), 8, 8, .ro, 0x0, false⟩
def EVT_CNT_CNT2 (n : Nat) : Fld := ⟨(0x900 + 0x4 * (n % 192)), 16, 8, .ro, 0x0, false⟩
def EVT_CNT_CNT3 (n : Nat) : Fld := ⟨(0x900 + 0x4 * (n % 192)), 24, 8, .ro, 0x0, false⟩

/-- The register families of block EVT. -/
def famsEVT_0 : List RegFam := [
  ⟨"EVT_CTRL", 0x400, 0x0, 1, 0x0, 1, [EVT_CTRL_CNTCLR, EVT_CTRL_CLRALL]⟩,
  ⟨"EVT_CAPSEL", 0x408, 0x0, 1, 0x0, 1, [EVT_CAPSEL_SRC, EVT_CAPSEL_VALID]⟩,
  ⟨"EVT_CAPLO", 0x40C, 0x0, 1, 0x0, 1, [EVT_CAPLO_STAMP]⟩,
  ⟨"EVT_CAPHI", 0x410, 0x0, 1, 0x0, 1, [EVT_CAPHI_STAMP]⟩,
  ⟨"EVT_PINCFG", 0x414, 0x0, 1, 0x0, 1, [EVT_PINCFG_EN0, EVT_PINCFG_POL0, EVT_PINCFG_PULSE0, EVT_PINCFG_EN1, EVT_PINCFG_POL1, EVT_PINCFG_PULSE1, EVT_PINCFG_EN2, EVT_PINCFG_POL2, EVT_PINCFG_PULSE2, EVT_PINCFG_EN3, EVT_PINCFG_POL3, EVT_PINCFG_PULSE3]⟩,
  ⟨"EVT_PINSTAT", 0x418, 0x0, 1, 0x0, 1, [EVT_PINSTAT_ACTIVE]⟩,
  ⟨"EVT_LOGCTL", 0x41C, 0x0, 1, 0x0, 1, [EVT_LOGCTL_HOLDOFF, EVT_LOGCTL_MIRROR, EVT_LOGCTL_CMDLOG]⟩,
  ⟨"EVT_LOGHEAD", 0x420, 0x0, 1, 0x0, 1, [EVT_LOGHEAD_NEXT]⟩,
  ⟨"EVT_LOGSEQ", 0x424, 0x0, 1, 0x0, 1, [EVT_LOGSEQ_SEQ]⟩,
  ⟨"EVT_LOGLOST", 0x428, 0x0, 1, 0x0, 1, [EVT_LOGLOST_COUNT, EVT_LOGLOST_CLR]⟩,
  ⟨"EVT_FLASHPOS", 0x42C, 0x0, 1, 0x0, 1, [EVT_FLASHPOS_NEXT, EVT_FLASHPOS_PEND]⟩,
  ⟨"EVT_SUM", 0x440, 0x4, 6, 0x0, 1, [EVT_SUM_GROUP 0]⟩]
def famsEVT_1 : List RegFam := [
  ⟨"EVT_EN", 0x480, 0x4, 24, 0x0, 1, [EVT_EN_EN 0]⟩,
  ⟨"EVT_STAT", 0x500, 0x4, 24, 0x0, 1, [EVT_STAT_STAT 0]⟩,
  ⟨"EVT_FORCE", 0x580, 0x4, 24, 0x0, 1, [EVT_FORCE_FORCE 0]⟩,
  ⟨"EVT_ROUTE", 0x600, 0x4, 192, 0x0, 1, [EVT_ROUTE_ROUTE0 0, EVT_ROUTE_ROUTE1 0, EVT_ROUTE_ROUTE2 0, EVT_ROUTE_ROUTE3 0]⟩,
  ⟨"EVT_CNT", 0x900, 0x4, 192, 0x0, 1, [EVT_CNT_CNT0 0, EVT_CNT_CNT1 0, EVT_CNT_CNT2 0, EVT_CNT_CNT3 0]⟩]
def famsEVT : List RegFam := famsEVT_0 ++ famsEVT_1

/-! ### PWR (spec/ file 10) -/

def PWR_STAT_DIP : Fld := ⟨0x1000, 0, 1, .ro, 0x0, false⟩
def PWR_STAT_DIPSEEN : Fld := ⟨0x1000, 1, 1, .w1c, 0x0, false⟩
def PWR_STAT_VVALWARN : Fld := ⟨0x1000, 2, 1, .ro, 0x0, false⟩
def PWR_STAT_VVALLOW : Fld := ⟨0x1000, 3, 1, .ro, 0x0, false⟩
def PWR_STAT_VVALHIGH : Fld := ⟨0x1000, 4, 1, .ro, 0x0, false⟩
def PWR_STAT_OVERBUD : Fld := ⟨0x1000, 5, 1, .ro, 0x0, false⟩
def PWR_STAT_OVBSEEN : Fld := ⟨0x1000, 6, 1, .w1c, 0x0, false⟩
def PWR_STAT_VIO33 : Fld := ⟨0x1000, 7, 1, .ro, 0x0, false⟩
def PWR_STAT_WRERR : Fld := ⟨0x1000, 8, 1, .w1c, 0x0, false⟩
def PWR_VIN_VIN : Fld := ⟨0x1004, 0, 16, .ro, 0x0, false⟩
def PWR_VIN_VVAL : Fld := ⟨0x1004, 16, 16, .ro, 0x0, false⟩
def PWR_IVIN_MA : Fld := ⟨0x1008, 0, 12, .ro, 0x0, false⟩
def PWR_IVIN_MAX : Fld := ⟨0x1008, 16, 12, .ro, 0x0, false⟩
def PWR_IVIN_CLR : Fld := ⟨0x1008, 31, 1, .wo, 0x0, false⟩
def PWR_DIPCNT_COUNT : Fld := ⟨0x100C, 0, 31, .ro, 0x0, false⟩
def PWR_DIPCNT_CLR : Fld := ⟨0x100C, 31, 1, .wo, 0x0, false⟩
def PWR_DIPLAST_LO_STAMP : Fld := ⟨0x1010, 0, 32, .ro, 0x0, false⟩
def PWR_DIPLAST_HI_STAMP : Fld := ⟨0x1014, 0, 32, .ro, 0x0, false⟩
def PWR_DIPMIN_V : Fld := ⟨0x1018, 0, 8, .ro, 0xFF, false⟩
def PWR_DIPMIN_CLR : Fld := ⟨0x1018, 31, 1, .wo, 0x0, false⟩
def PWR_RAILSTAT_PG : Fld := ⟨0x101C, 0, 9, .ro, 0x1FF, false⟩
def PWR_BUDPRIO_FIRST : Fld := ⟨0x1020, 0, 2, .rw, 0x0, false⟩
def PWR_BUDPRIO_SECOND : Fld := ⟨0x1020, 2, 2, .rw, 0x1, false⟩
def PWR_BUDPRIO_THIRD : Fld := ⟨0x1020, 4, 2, .rw, 0x2, false⟩
def PWR_BUDFLOOR_TAP : Fld := ⟨0x1024, 0, 10, .rw, 0x0, false⟩
def PWR_BUDFLOOR_HEATER : Fld := ⟨0x1024, 10, 10, .rw, 0x14, false⟩
def PWR_CLLEVEL_FULL : Fld := ⟨0x1028, 0, 10, .ro, 0x0, true⟩
def PWR_CLLEVEL_DIV2 : Fld := ⟨0x1028, 10, 10, .ro, 0x0, true⟩
def PWR_CLLEVEL_DIV4 : Fld := ⟨0x1028, 20, 10, .ro, 0x0, true⟩
def PWR_TAPMAX_MAX : Fld := ⟨0x102C, 0, 10, .ro, 0x0, true⟩
def PWR_CLKDIV_DIV : Fld := ⟨0x1030, 0, 2, .ro, 0x2, false⟩
def PWR_CLKDIV_BUDDIV : Fld := ⟨0x1030, 2, 2, .ro, 0x2, false⟩
def PWR_CLKDIV_THMDIV : Fld := ⟨0x1030, 4, 2, .ro, 0x0, false⟩
def PWR_CLKDIV_TAPSKIP : Fld := ⟨0x1030, 8, 8, .ro, 0xFF, false⟩
def PWR_CLKDIV_MGTSKIP : Fld := ⟨0x1030, 16, 1, .ro, 0x0, false⟩

/-- The register families of block PWR. -/
def famsPWR_0 : List RegFam := [
  ⟨"PWR_STAT", 0x1000, 0x0, 1, 0x0, 1, [PWR_STAT_DIP, PWR_STAT_DIPSEEN, PWR_STAT_VVALWARN, PWR_STAT_VVALLOW, PWR_STAT_VVALHIGH, PWR_STAT_OVERBUD, PWR_STAT_OVBSEEN, PWR_STAT_VIO33, PWR_STAT_WRERR]⟩,
  ⟨"PWR_VIN", 0x1004, 0x0, 1, 0x0, 1, [PWR_VIN_VIN, PWR_VIN_VVAL]⟩,
  ⟨"PWR_IVIN", 0x1008, 0x0, 1, 0x0, 1, [PWR_IVIN_MA, PWR_IVIN_MAX, PWR_IVIN_CLR]⟩,
  ⟨"PWR_DIPCNT", 0x100C, 0x0, 1, 0x0, 1, [PWR_DIPCNT_COUNT, PWR_DIPCNT_CLR]⟩,
  ⟨"PWR_DIPLAST_LO", 0x1010, 0x0, 1, 0x0, 1, [PWR_DIPLAST_LO_STAMP]⟩,
  ⟨"PWR_DIPLAST_HI", 0x1014, 0x0, 1, 0x0, 1, [PWR_DIPLAST_HI_STAMP]⟩,
  ⟨"PWR_DIPMIN", 0x1018, 0x0, 1, 0x0, 1, [PWR_DIPMIN_V, PWR_DIPMIN_CLR]⟩,
  ⟨"PWR_RAILSTAT", 0x101C, 0x0, 1, 0x0, 1, [PWR_RAILSTAT_PG]⟩,
  ⟨"PWR_BUDPRIO", 0x1020, 0x0, 1, 0x0, 1, [PWR_BUDPRIO_FIRST, PWR_BUDPRIO_SECOND, PWR_BUDPRIO_THIRD]⟩,
  ⟨"PWR_BUDFLOOR", 0x1024, 0x0, 1, 0x0, 1, [PWR_BUDFLOOR_TAP, PWR_BUDFLOOR_HEATER]⟩,
  ⟨"PWR_CLLEVEL", 0x1028, 0x0, 1, 0x0, 1, [PWR_CLLEVEL_FULL, PWR_CLLEVEL_DIV2, PWR_CLLEVEL_DIV4]⟩,
  ⟨"PWR_TAPMAX", 0x102C, 0x0, 1, 0x0, 1, [PWR_TAPMAX_MAX]⟩]
def famsPWR_1 : List RegFam := [
  ⟨"PWR_CLKDIV", 0x1030, 0x0, 1, 0x0, 1, [PWR_CLKDIV_DIV, PWR_CLKDIV_BUDDIV, PWR_CLKDIV_THMDIV, PWR_CLKDIV_TAPSKIP, PWR_CLKDIV_MGTSKIP]⟩]
def famsPWR : List RegFam := famsPWR_0 ++ famsPWR_1

/-! ### THM (spec/ file 10) -/

def THM_CTRL_AUTORST : Fld := ⟨0x1400, 0, 1, .rw, 0x0, false⟩
def THM_CTRL_RESTART : Fld := ⟨0x1400, 1, 1, .wo, 0x0, false⟩
def THM_CTRL_AUTOMAX : Fld := ⟨0x1400, 4, 4, .rw, 0x3, false⟩
def THM_CTRL_TSTEP : Fld := ⟨0x1400, 8, 8, .rw, 0xA, false⟩
def THM_STAT_LSTATE : Fld := ⟨0x1404, 0, 2, .ro, 0x0, false⟩
def THM_STAT_PSTATE : Fld := ⟨0x1404, 2, 2, .ro, 0x0, false⟩
def THM_STAT_STEP : Fld := ⟨0x1404, 4, 2, .ro, 0x0, false⟩
def THM_STAT_LFORCED : Fld := ⟨0x1404, 6, 1, .ro, 0x0, false⟩
def THM_STAT_PFORCED : Fld := ⟨0x1404, 7, 1, .ro, 0x0, false⟩
def THM_STAT_SDSEEN : Fld := ⟨0x1404, 8, 1, .w1c, 0x0, false⟩
def THM_STAT_EXCLSEEN : Fld := ⟨0x1404, 9, 1, .w1c, 0x0, false⟩
def THM_STAT_WRERR : Fld := ⟨0x1404, 10, 1, .w1c, 0x0, false⟩
def THM_STAT_LVALID : Fld := ⟨0x1404, 12, 4, .ro, 0x0, false⟩
def THM_STAT_PVALID : Fld := ⟨0x1404, 16, 3, .ro, 0x0, false⟩
def THM_LMAX_MAX : Fld := ⟨0x1408, 0, 10, .ro, 0x0, false⟩
def THM_LMAX_PEAK : Fld := ⟨0x1408, 16, 10, .ro, 0x0, false⟩
def THM_LMAX_CLR : Fld := ⟨0x1408, 31, 1, .wo, 0x0, false⟩
def THM_PMAX_MAX : Fld := ⟨0x140C, 0, 10, .ro, 0x0, false⟩
def THM_PMAX_PEAK : Fld := ⟨0x140C, 16, 10, .ro, 0x0, false⟩
def THM_PMAX_CLR : Fld := ⟨0x140C, 31, 1, .wo, 0x0, false⟩
def THM_DRAM_RATE : Fld := ⟨0x1410, 0, 3, .ro, 0x0, false⟩
def THM_DRAM_VALID : Fld := ⟨0x1410, 31, 1, .ro, 0x0, false⟩
def THM_SDCNT_AUTO : Fld := ⟨0x1414, 0, 8, .ro, 0x0, false⟩
def THM_SDCNT_COUNT : Fld := ⟨0x1414, 8, 16, .ro, 0x0, false⟩
def THM_TL_TEMP (n : Nat) : Fld := ⟨(0x1420 + 0x4 * (n % 8)), 0, 10, .ro, 0x0, false⟩
def THM_TL_SUSPECT (n : Nat) : Fld := ⟨(0x1420 + 0x4 * (n % 8)), 29, 1, .ro, 0x0, false⟩
def THM_TL_EXCL (n : Nat) : Fld := ⟨(0x1420 + 0x4 * (n % 8)), 30, 1, .ro, 0x0, false⟩
def THM_TL_VALID (n : Nat) : Fld := ⟨(0x1420 + 0x4 * (n % 8)), 31, 1, .ro, 0x0, false⟩
def THM_TP_TEMP (n : Nat) : Fld := ⟨(0x1440 + 0x4 * (n % 6)), 0, 10, .ro, 0x0, false⟩
def THM_TP_SUSPECT (n : Nat) : Fld := ⟨(0x1440 + 0x4 * (n % 6)), 29, 1, .ro, 0x0, false⟩
def THM_TP_EXCL (n : Nat) : Fld := ⟨(0x1440 + 0x4 * (n % 6)), 30, 1, .ro, 0x0, false⟩
def THM_TP_VALID (n : Nat) : Fld := ⟨(0x1440 + 0x4 * (n % 6)), 31, 1, .ro, 0x0, false⟩

/-- The register families of block THM. -/
def famsTHM : List RegFam := [
  ⟨"THM_CTRL", 0x1400, 0x0, 1, 0x0, 1, [THM_CTRL_AUTORST, THM_CTRL_RESTART, THM_CTRL_AUTOMAX, THM_CTRL_TSTEP]⟩,
  ⟨"THM_STAT", 0x1404, 0x0, 1, 0x0, 1, [THM_STAT_LSTATE, THM_STAT_PSTATE, THM_STAT_STEP, THM_STAT_LFORCED, THM_STAT_PFORCED, THM_STAT_SDSEEN, THM_STAT_EXCLSEEN, THM_STAT_WRERR, THM_STAT_LVALID, THM_STAT_PVALID]⟩,
  ⟨"THM_LMAX", 0x1408, 0x0, 1, 0x0, 1, [THM_LMAX_MAX, THM_LMAX_PEAK, THM_LMAX_CLR]⟩,
  ⟨"THM_PMAX", 0x140C, 0x0, 1, 0x0, 1, [THM_PMAX_MAX, THM_PMAX_PEAK, THM_PMAX_CLR]⟩,
  ⟨"THM_DRAM", 0x1410, 0x0, 1, 0x0, 1, [THM_DRAM_RATE, THM_DRAM_VALID]⟩,
  ⟨"THM_SDCNT", 0x1414, 0x0, 1, 0x0, 1, [THM_SDCNT_AUTO, THM_SDCNT_COUNT]⟩,
  ⟨"THM_TL", 0x1420, 0x4, 8, 0x0, 1, [THM_TL_TEMP 0, THM_TL_SUSPECT 0, THM_TL_EXCL 0, THM_TL_VALID 0]⟩,
  ⟨"THM_TP", 0x1440, 0x4, 6, 0x0, 1, [THM_TP_TEMP 0, THM_TP_SUSPECT 0, THM_TP_EXCL 0, THM_TP_VALID 0]⟩]

/-! ### HKA (spec/ file 10) -/

def HKA_CTRL_EN : Fld := ⟨0x1800, 0, 1, .rw, 0x1, false⟩
def HKA_CTRL_SCAL : Fld := ⟨0x1800, 1, 1, .wo, 0x0, false⟩
def HKA_CTRL_LAST : Fld := ⟨0x1800, 8, 6, .rw, 0x0, true⟩
def HKA_STAT_SCALBUSY : Fld := ⟨0x1804, 0, 1, .ro, 0x0, false⟩
def HKA_STAT_SCALDONE : Fld := ⟨0x1804, 1, 1, .w1c, 0x0, false⟩
def HKA_STAT_INVSEEN : Fld := ⟨0x1804, 2, 1, .w1c, 0x0, false⟩
def HKA_STAT_POS : Fld := ⟨0x1804, 8, 6, .ro, 0x0, false⟩
def HKA_CALGAIN_GAIN : Fld := ⟨0x1808, 0, 16, .ro, 0x4000, false⟩
def HKA_CALOFS_OFS : Fld := ⟨0x180C, 0, 12, .ro, 0x0, false⟩
def HKA_RTD_EN : Fld := ⟨0x1810, 0, 1, .rw, 0x0, true⟩
def HKA_RTD_TYPE : Fld := ⟨0x1810, 1, 1, .rw, 0x0, true⟩
def HKA_RTD_FOURW : Fld := ⟨0x1810, 2, 1, .rw, 0x0, true⟩
def HKA_RTDTEMP_TEMP : Fld := ⟨0x1814, 0, 20, .ro, 0x0, false⟩
def HKA_RTDTEMP_RANGE : Fld := ⟨0x1814, 30, 1, .ro, 0x0, false⟩
def HKA_RTDTEMP_VALID : Fld := ⟨0x1814, 31, 1, .ro, 0x0, false⟩
def HKA_SEQ_CH (n : Nat) : Fld := ⟨(0x1900 + 0x4 * (n % 64)), 0, 5, .rw, 0x0, true⟩
def HKA_SEQ_REP (n : Nat) : Fld := ⟨(0x1900 + 0x4 * (n % 64)), 5, 8, .rw, 0x0, true⟩
def HKA_SEQ_DELAY (n : Nat) : Fld := ⟨(0x1900 + 0x4 * (n % 64)), 13, 10, .rw, 0x0, true⟩
def HKA_SEQ_AVG (n : Nat) : Fld := ⟨(0x1900 + 0x4 * (n % 64)), 23, 3, .rw, 0x0, true⟩
def HKA_SEQ_GAIN (n : Nat) : Fld := ⟨(0x1900 + 0x4 * (n % 64)), 26, 2, .rw, 0x0, true⟩
def HKA_RES_VALUE (n : Nat) : Fld := ⟨(0x1A00 + 0x4 * (n % 32)), 0, 16, .ro, 0x0, false⟩
def HKA_RES_COUNT (n : Nat) : Fld := ⟨(0x1A00 + 0x4 * (n % 32)), 16, 12, .ro, 0x0, false⟩
def HKA_RES_LASTINV (n : Nat) : Fld := ⟨(0x1A00 + 0x4 * (n % 32)), 30, 1, .ro, 0x0, false⟩
def HKA_RES_VALID (n : Nat) : Fld := ⟨(0x1A00 + 0x4 * (n % 32)), 31, 1, .ro, 0x0, false⟩
def HKA_MINSETTLE_US (n : Nat) : Fld := ⟨(0x1A80 + 0x4 * (n % 32)), 0, 10, .rw, 0x0, true⟩
def HKA_AINSC_SCALE (n : Nat) : Fld := ⟨(0x1B00 + 0x4 * (n % 8)), 0, 16, .rw, 0x0, true⟩
def HKA_AINSC_OFS (n : Nat) : Fld := ⟨(0x1B00 + 0x4 * (n % 8)), 16, 16, .rw, 0x0, true⟩
def HKA_AINENG_VALUE (n : Nat) : Fld := ⟨(0x1B20 + 0x4 * (n % 8)), 0, 16, .ro, 0x0, false⟩

/-- The register families of block HKA. -/
def famsHKA : List RegFam := [
  ⟨"HKA_CTRL", 0x1800, 0x0, 1, 0x0, 1, [HKA_CTRL_EN, HKA_CTRL_SCAL, HKA_CTRL_LAST]⟩,
  ⟨"HKA_STAT", 0x1804, 0x0, 1, 0x0, 1, [HKA_STAT_SCALBUSY, HKA_STAT_SCALDONE, HKA_STAT_INVSEEN, HKA_STAT_POS]⟩,
  ⟨"HKA_CALGAIN", 0x1808, 0x0, 1, 0x0, 1, [HKA_CALGAIN_GAIN]⟩,
  ⟨"HKA_CALOFS", 0x180C, 0x0, 1, 0x0, 1, [HKA_CALOFS_OFS]⟩,
  ⟨"HKA_RTD", 0x1810, 0x0, 1, 0x0, 1, [HKA_RTD_EN, HKA_RTD_TYPE, HKA_RTD_FOURW]⟩,
  ⟨"HKA_RTDTEMP", 0x1814, 0x0, 1, 0x0, 1, [HKA_RTDTEMP_TEMP, HKA_RTDTEMP_RANGE, HKA_RTDTEMP_VALID]⟩,
  ⟨"HKA_SEQ", 0x1900, 0x4, 64, 0x0, 1, [HKA_SEQ_CH 0, HKA_SEQ_REP 0, HKA_SEQ_DELAY 0, HKA_SEQ_AVG 0, HKA_SEQ_GAIN 0]⟩,
  ⟨"HKA_RES", 0x1A00, 0x4, 32, 0x0, 1, [HKA_RES_VALUE 0, HKA_RES_COUNT 0, HKA_RES_LASTINV 0, HKA_RES_VALID 0]⟩,
  ⟨"HKA_MINSETTLE", 0x1A80, 0x4, 32, 0x0, 1, [HKA_MINSETTLE_US 0]⟩,
  ⟨"HKA_AINSC", 0x1B00, 0x4, 8, 0x0, 1, [HKA_AINSC_SCALE 0, HKA_AINSC_OFS 0]⟩,
  ⟨"HKA_AINENG", 0x1B20, 0x4, 8, 0x0, 1, [HKA_AINENG_VALUE 0]⟩]

/-! ### STG (spec/ file 02) -/

def STG_CTRL_BIAS_EN : Fld := ⟨0x2000, 0, 1, .rw, 0x0, false⟩
def STG_CTRL_HTR_EN : Fld := ⟨0x2000, 1, 1, .rw, 0x0, false⟩
def STG_CTRL_ROWREV : Fld := ⟨0x2000, 2, 1, .rw, 0x0, true⟩
def STG_CTRL_COLREV : Fld := ⟨0x2000, 3, 1, .rw, 0x0, true⟩
def STG_FRATE_RATE : Fld := ⟨0x2004, 0, 14, .rw, 0x1B58, true⟩
def STG_FRATE_PEND : Fld := ⟨0x2004, 31, 1, .ro, 0x0, false⟩
def STG_BIAS_LEVEL : Fld := ⟨0x2008, 0, 8, .rw, 0x0, true⟩
def STG_BIAS_APPLIED : Fld := ⟨0x2008, 8, 8, .ro, 0x0, false⟩
def STG_BIAS_PEND : Fld := ⟨0x2008, 31, 1, .ro, 0x0, false⟩
def STG_SETPT_SETPT : Fld := ⟨0x200C, 0, 16, .rw, 0xC350, false⟩
def STG_SETPT_TARGET : Fld := ⟨0x200C, 16, 16, .ro, 0xC350, false⟩
def STG_TEMP_TEMP : Fld := ⟨0x2010, 0, 20, .ro, 0x0, false⟩
def STG_TEMP_VALID : Fld := ⟨0x2010, 31, 1, .ro, 0x0, false⟩
def STG_TS_TEMP (n : Nat) : Fld := ⟨(0x2014 + 0x4 * (n % 4)), 0, 20, .ro, 0x0, false⟩
def STG_TS_EXCL (n : Nat) : Fld := ⟨(0x2014 + 0x4 * (n % 4)), 30, 1, .ro, 0x0, false⟩
def STG_TS_VALID (n : Nat) : Fld := ⟨(0x2014 + 0x4 * (n % 4)), 31, 1, .ro, 0x0, false⟩
def STG_HTRPWR_POWER : Fld := ⟨0x2024, 0, 12, .ro, 0x0, false⟩
def STG_HTRPWR_LIMIT : Fld := ⟨0x2024, 16, 12, .ro, 0x5DC, false⟩
def STG_STAT_LOCK : Fld := ⟨0x2028, 0, 1, .ro, 0x0, false⟩
def STG_STAT_UNREG : Fld := ⟨0x2028, 1, 1, .ro, 0x0, false⟩
def STG_STAT_OVERTEMP : Fld := ⟨0x2028, 2, 1, .ro, 0x0, false⟩
def STG_STAT_TSDEG : Fld := ⟨0x2028, 3, 1, .ro, 0x0, false⟩
def STG_STAT_BIAS_RAMP : Fld := ⟨0x2028, 4, 1, .ro, 0x0, false⟩
def STG_STAT_CFGERR : Fld := ⟨0x2028, 5, 1, .w1c, 0x0, false⟩
def STG_STAT_TSVALID : Fld := ⟨0x2028, 8, 3, .ro, 0x0, false⟩
def STG_STAT_SETTLE : Fld := ⟨0x2028, 16, 4, .ro, 0x0, false⟩
def STG_FRAMECNT_COUNT : Fld := ⟨0x202C, 0, 32, .ro, 0x0, false⟩
def STG_CFGFRAME_FRAME : Fld := ⟨0x2030, 0, 32, .ro, 0x0, false⟩
def STG_LOCKBAND_BAND : Fld := ⟨0x2034, 0, 8, .rw, 0x14, false⟩

/-- The register families of block STG. -/
def famsSTG : List RegFam := [
  ⟨"STG_CTRL", 0x2000, 0x0, 1, 0x0, 1, [STG_CTRL_BIAS_EN, STG_CTRL_HTR_EN, STG_CTRL_ROWREV, STG_CTRL_COLREV]⟩,
  ⟨"STG_FRATE", 0x2004, 0x0, 1, 0x0, 1, [STG_FRATE_RATE, STG_FRATE_PEND]⟩,
  ⟨"STG_BIAS", 0x2008, 0x0, 1, 0x0, 1, [STG_BIAS_LEVEL, STG_BIAS_APPLIED, STG_BIAS_PEND]⟩,
  ⟨"STG_SETPT", 0x200C, 0x0, 1, 0x0, 1, [STG_SETPT_SETPT, STG_SETPT_TARGET]⟩,
  ⟨"STG_TEMP", 0x2010, 0x0, 1, 0x0, 1, [STG_TEMP_TEMP, STG_TEMP_VALID]⟩,
  ⟨"STG_TS", 0x2014, 0x4, 4, 0x0, 1, [STG_TS_TEMP 0, STG_TS_EXCL 0, STG_TS_VALID 0]⟩,
  ⟨"STG_HTRPWR", 0x2024, 0x0, 1, 0x0, 1, [STG_HTRPWR_POWER, STG_HTRPWR_LIMIT]⟩,
  ⟨"STG_STAT", 0x2028, 0x0, 1, 0x0, 1, [STG_STAT_LOCK, STG_STAT_UNREG, STG_STAT_OVERTEMP, STG_STAT_TSDEG, STG_STAT_BIAS_RAMP, STG_STAT_CFGERR, STG_STAT_TSVALID, STG_STAT_SETTLE]⟩,
  ⟨"STG_FRAMECNT", 0x202C, 0x0, 1, 0x0, 1, [STG_FRAMECNT_COUNT]⟩,
  ⟨"STG_CFGFRAME", 0x2030, 0x0, 1, 0x0, 1, [STG_CFGFRAME_FRAME]⟩,
  ⟨"STG_LOCKBAND", 0x2034, 0x0, 1, 0x0, 1, [STG_LOCKBAND_BAND]⟩]

/-! ### TIL (spec/ file 02, 03) -/

def TIL_GAIN_GAIN (n : Nat) : Fld := ⟨(0x4000 + 0x100 * (n % 32)), 0, 2, .rw, 0x2, true⟩
def TIL_GAIN_PEND (n : Nat) : Fld := ⟨(0x4000 + 0x100 * (n % 32)), 31, 1, .ro, 0x0, false⟩
def TIL_PTSEL_INDEX (n : Nat) : Fld := ⟨(0x4004 + 0x100 * (n % 32)), 0, 12, .rw, 0x0, false⟩
def TIL_PTSEL_AUTOINC (n : Nat) : Fld := ⟨(0x4004 + 0x100 * (n % 32)), 16, 1, .rw, 0x0, false⟩
def TIL_PTDATA_TRIM (n : Nat) : Fld := ⟨(0x4008 + 0x100 * (n % 32)), 0, 5, .rw, 0x0, true⟩
def TIL_PTDATA_PEND (n : Nat) : Fld := ⟨(0x4008 + 0x100 * (n % 32)), 31, 1, .ro, 0x0, false⟩
def TIL_TRIMSTEP_PIXSTEP (n : Nat) : Fld := ⟨(0x400C + 0x100 * (n % 32)), 0, 16, .ro, 0x0, true⟩
def TIL_TRIMSTEP_SKIMSTEP (n : Nat) : Fld := ⟨(0x400C + 0x100 * (n % 32)), 16, 16, .ro, 0x0, true⟩
def TIL_OVRCNT_COUNT (n : Nat) : Fld := ⟨(0x4010 + 0x100 * (n % 32)), 0, 16, .ro, 0x0, false⟩
def TIL_OVRCNT_CLR (n : Nat) : Fld := ⟨(0x4010 + 0x100 * (n % 32)), 31, 1, .wo, 0x0, false⟩
def TIL_OVRLAST_LANE (n : Nat) : Fld := ⟨(0x4014 + 0x100 * (n % 32)), 0, 6, .ro, 0x0, false⟩
def TIL_OVRLAST_RGRP (n : Nat) : Fld := ⟨(0x4014 + 0x100 * (n % 32)), 6, 4, .ro, 0x0, false⟩
def TIL_OVRLAST_SLICE (n : Nat) : Fld := ⟨(0x4014 + 0x100 * (n % 32)), 10, 2, .ro, 0x0, false⟩
def TIL_OVRLAST_LOW (n : Nat) : Fld := ⟨(0x4014 + 0x100 * (n % 32)), 12, 1, .ro, 0x0, false⟩
def TIL_REFDCNT_COUNT (n : Nat) : Fld := ⟨(0x4018 + 0x100 * (n % 32)), 0, 16, .ro, 0x0, false⟩
def TIL_SKIM_TRIM0 (n m : Nat) : Fld := ⟨(0x4020 + 0x100 * (n % 32) + 0x4 * (m % 16)), 0, 8, .rw, 0x0, true⟩
def TIL_SKIM_TRIM1 (n m : Nat) : Fld := ⟨(0x4020 + 0x100 * (n % 32) + 0x4 * (m % 16)), 8, 8, .rw, 0x0, true⟩
def TIL_SKIM_TRIM2 (n m : Nat) : Fld := ⟨(0x4020 + 0x100 * (n % 32) + 0x4 * (m % 16)), 16, 8, .rw, 0x0, true⟩
def TIL_SKIM_TRIM3 (n m : Nat) : Fld := ⟨(0x4020 + 0x100 * (n % 32) + 0x4 * (m % 16)), 24, 8, .rw, 0x0, true⟩
def TIL_CVCTRL_SCAL (n : Nat) : Fld := ⟨(0x4060 + 0x100 * (n % 32)), 0, 1, .wo, 0x0, false⟩
def TIL_CVCTRL_ROTEN (n : Nat) : Fld := ⟨(0x4060 + 0x100 * (n % 32)), 1, 1, .rw, 0x1, false⟩
def TIL_CVSTAT_SCAL_BUSY (n : Nat) : Fld := ⟨(0x4064 + 0x100 * (n % 32)), 0, 1, .ro, 0x0, false⟩
def TIL_CVSTAT_SCAL_DONE (n : Nat) : Fld := ⟨(0x4064 + 0x100 * (n % 32)), 1, 1, .w1c, 0x0, false⟩
def TIL_CVSTAT_SCAL_FAIL (n : Nat) : Fld := ⟨(0x4064 + 0x100 * (n % 32)), 2, 1, .w1c, 0x0, false⟩
def TIL_CVSTAT_FAILCNT (n : Nat) : Fld := ⟨(0x4064 + 0x100 * (n % 32)), 8, 8, .ro, 0x0, false⟩
def TIL_CVSTAT_ROTSP (n : Nat) : Fld := ⟨(0x4064 + 0x100 * (n % 32)), 16, 3, .ro, 0x0, false⟩
def TIL_CVSTAT_PARKED (n : Nat) : Fld := ⟨(0x4064 + 0x100 * (n % 32)), 20, 4, .ro, 0x0, false⟩
def TIL_CFSEL_INDEX (n : Nat) : Fld := ⟨(0x4068 + 0x100 * (n % 32)), 0, 8, .rw, 0x0, false⟩
def TIL_CFSEL_SPARE (n : Nat) : Fld := ⟨(0x4068 + 0x100 * (n % 32)), 8, 1, .rw, 0x0, false⟩
def TIL_CFSEL_AUTOINC (n : Nat) : Fld := ⟨(0x4068 + 0x100 * (n % 32)), 16, 1, .rw, 0x0, false⟩
def TIL_CFDATA_GAINF (n : Nat) : Fld := ⟨(0x406C + 0x100 * (n % 32)), 0, 16, .rw, 0x0, true⟩
def TIL_CFDATA_OFSF (n : Nat) : Fld := ⟨(0x406C + 0x100 * (n % 32)), 16, 12, .rw, 0x0, true⟩
def TIL_CFDATA_FAIL (n : Nat) : Fld := ⟨(0x406C + 0x100 * (n % 32)), 30, 1, .ro, 0x0, false⟩
def TIL_ROTPOS_SP0 (n : Nat) : Fld := ⟨(0x4070 + 0x100 * (n % 32)), 0, 8, .ro, 0x0, false⟩
def TIL_ROTPOS_SP1 (n : Nat) : Fld := ⟨(0x4070 + 0x100 * (n % 32)), 8, 8, .ro, 0x0, false⟩
def TIL_ROTPOS_SP2 (n : Nat) : Fld := ⟨(0x4070 + 0x100 * (n % 32)), 16, 8, .ro, 0x0, false⟩
def TIL_ROTPOS_SP3 (n : Nat) : Fld := ⟨(0x4070 + 0x100 * (n % 32)), 24, 8, .ro, 0x0, false⟩
def TIL_SWAPDIFF_LAST (n : Nat) : Fld := ⟨(0x4074 + 0x100 * (n % 32)), 0, 16, .ro, 0x0, false⟩
def TIL_SWAPDIFF_MAXABS (n : Nat) : Fld := ⟨(0x4074 + 0x100 * (n % 32)), 16, 15, .ro, 0x0, false⟩
def TIL_SWAPDIFF_CLR (n : Nat) : Fld := ⟨(0x4074 + 0x100 * (n % 32)), 31, 1, .wo, 0x0, false⟩
def TIL_SWAPLIM_LIMIT (n : Nat) : Fld := ⟨(0x4078 + 0x100 * (n % 32)), 0, 8, .rw, 0x18, false⟩
def TIL_SUBST_SLICE (n : Nat) : Fld := ⟨(0x407C + 0x100 * (n % 32)), 0, 8, .rw, 0x0, false⟩
def TIL_SUBST_SPARE (n : Nat) : Fld := ⟨(0x407C + 0x100 * (n % 32)), 8, 2, .rw, 0x0, false⟩
def TIL_SUBST_PARK (n : Nat) : Fld := ⟨(0x407C + 0x100 * (n % 32)), 16, 1, .wo, 0x0, false⟩
def TIL_SUBST_RELEASE (n : Nat) : Fld := ⟨(0x407C + 0x100 * (n % 32)), 17, 1, .wo, 0x0, false⟩
def TIL_TXCTL_EN (n : Nat) : Fld := ⟨(0x4080 + 0x100 * (n % 32)), 0, 1, .rw, 0x1, false⟩
def TIL_TXCTL_RESYNC (n : Nat) : Fld := ⟨(0x4080 + 0x100 * (n % 32)), 1, 1, .wo, 0x0, false⟩
def TIL_TXSTAT_LOCK (n : Nat) : Fld := ⟨(0x4084 + 0x100 * (n % 32)), 0, 1, .ro, 0x0, false⟩
def TIL_TXSTAT_ALIGNED (n : Nat) : Fld := ⟨(0x4084 + 0x100 * (n % 32)), 1, 1, .ro, 0x0, false⟩
def TIL_TXSTAT_OCC (n : Nat) : Fld := ⟨(0x4084 + 0x100 * (n % 32)), 2, 6, .ro, 0x0, false⟩
def TIL_TXSTAT_OCCMIN (n : Nat) : Fld := ⟨(0x4084 + 0x100 * (n % 32)), 8, 6, .ro, 0x3F, false⟩
def TIL_TXSTAT_OCCMAX (n : Nat) : Fld := ⟨(0x4084 + 0x100 * (n % 32)), 14, 6, .ro, 0x0, false⟩
def TIL_TXSTAT_CAUSE (n : Nat) : Fld := ⟨(0x4084 + 0x100 * (n % 32)), 20, 3, .ro, 0x0, false⟩
def TIL_TXSTAT_CLR (n : Nat) : Fld := ⟨(0x4084 + 0x100 * (n % 32)), 31, 1, .wo, 0x0, false⟩
def TIL_TXSLIPCNT_COUNT (n : Nat) : Fld := ⟨(0x4088 + 0x100 * (n % 32)), 0, 16, .ro, 0x0, false⟩
def TIL_TXCRCCNT_COUNT (n : Nat) : Fld := ⟨(0x408C + 0x100 * (n % 32)), 0, 16, .ro, 0x0, false⟩
def TIL_TXINVCNT_COUNT (n : Nat) : Fld := ⟨(0x4090 + 0x100 * (n % 32)), 0, 16, .ro, 0x0, false⟩
def TIL_TXLASTSLIP_LO_STAMP (n : Nat) : Fld := ⟨(0x4094 + 0x100 * (n % 32)), 0, 32, .ro, 0x0, false⟩
def TIL_TXLASTSLIP_HI_STAMP (n : Nat) : Fld := ⟨(0x4098 + 0x100 * (n % 32)), 0, 32, .ro, 0x0, false⟩

/-- The register families of block TIL. -/
def famsTIL_0 : List RegFam := [
  ⟨"TIL_GAIN", 0x4000, 0x100, 32, 0x0, 1, [TIL_GAIN_GAIN 0, TIL_GAIN_PEND 0]⟩,
  ⟨"TIL_PTSEL", 0x4004, 0x100, 32, 0x0, 1, [TIL_PTSEL_INDEX 0, TIL_PTSEL_AUTOINC 0]⟩,
  ⟨"TIL_PTDATA", 0x4008, 0x100, 32, 0x0, 1, [TIL_PTDATA_TRIM 0, TIL_PTDATA_PEND 0]⟩,
  ⟨"TIL_TRIMSTEP", 0x400C, 0x100, 32, 0x0, 1, [TIL_TRIMSTEP_PIXSTEP 0, TIL_TRIMSTEP_SKIMSTEP 0]⟩,
  ⟨"TIL_OVRCNT", 0x4010, 0x100, 32, 0x0, 1, [TIL_OVRCNT_COUNT 0, TIL_OVRCNT_CLR 0]⟩,
  ⟨"TIL_OVRLAST", 0x4014, 0x100, 32, 0x0, 1, [TIL_OVRLAST_LANE 0, TIL_OVRLAST_RGRP 0, TIL_OVRLAST_SLICE 0, TIL_OVRLAST_LOW 0]⟩,
  ⟨"TIL_REFDCNT", 0x4018, 0x100, 32, 0x0, 1, [TIL_REFDCNT_COUNT 0]⟩,
  ⟨"TIL_SKIM", 0x4020, 0x100, 32, 0x4, 16, [TIL_SKIM_TRIM0 0 0, TIL_SKIM_TRIM1 0 0, TIL_SKIM_TRIM2 0 0, TIL_SKIM_TRIM3 0 0]⟩,
  ⟨"TIL_CVCTRL", 0x4060, 0x100, 32, 0x0, 1, [TIL_CVCTRL_SCAL 0, TIL_CVCTRL_ROTEN 0]⟩,
  ⟨"TIL_CVSTAT", 0x4064, 0x100, 32, 0x0, 1, [TIL_CVSTAT_SCAL_BUSY 0, TIL_CVSTAT_SCAL_DONE 0, TIL_CVSTAT_SCAL_FAIL 0, TIL_CVSTAT_FAILCNT 0, TIL_CVSTAT_ROTSP 0, TIL_CVSTAT_PARKED 0]⟩,
  ⟨"TIL_CFSEL", 0x4068, 0x100, 32, 0x0, 1, [TIL_CFSEL_INDEX 0, TIL_CFSEL_SPARE 0, TIL_CFSEL_AUTOINC 0]⟩,
  ⟨"TIL_CFDATA", 0x406C, 0x100, 32, 0x0, 1, [TIL_CFDATA_GAINF 0, TIL_CFDATA_OFSF 0, TIL_CFDATA_FAIL 0]⟩]
def famsTIL_1 : List RegFam := [
  ⟨"TIL_ROTPOS", 0x4070, 0x100, 32, 0x0, 1, [TIL_ROTPOS_SP0 0, TIL_ROTPOS_SP1 0, TIL_ROTPOS_SP2 0, TIL_ROTPOS_SP3 0]⟩,
  ⟨"TIL_SWAPDIFF", 0x4074, 0x100, 32, 0x0, 1, [TIL_SWAPDIFF_LAST 0, TIL_SWAPDIFF_MAXABS 0, TIL_SWAPDIFF_CLR 0]⟩,
  ⟨"TIL_SWAPLIM", 0x4078, 0x100, 32, 0x0, 1, [TIL_SWAPLIM_LIMIT 0]⟩,
  ⟨"TIL_SUBST", 0x407C, 0x100, 32, 0x0, 1, [TIL_SUBST_SLICE 0, TIL_SUBST_SPARE 0, TIL_SUBST_PARK 0, TIL_SUBST_RELEASE 0]⟩,
  ⟨"TIL_TXCTL", 0x4080, 0x100, 32, 0x0, 1, [TIL_TXCTL_EN 0, TIL_TXCTL_RESYNC 0]⟩,
  ⟨"TIL_TXSTAT", 0x4084, 0x100, 32, 0x0, 1, [TIL_TXSTAT_LOCK 0, TIL_TXSTAT_ALIGNED 0, TIL_TXSTAT_OCC 0, TIL_TXSTAT_OCCMIN 0, TIL_TXSTAT_OCCMAX 0, TIL_TXSTAT_CAUSE 0, TIL_TXSTAT_CLR 0]⟩,
  ⟨"TIL_TXSLIPCNT", 0x4088, 0x100, 32, 0x0, 1, [TIL_TXSLIPCNT_COUNT 0]⟩,
  ⟨"TIL_TXCRCCNT", 0x408C, 0x100, 32, 0x0, 1, [TIL_TXCRCCNT_COUNT 0]⟩,
  ⟨"TIL_TXINVCNT", 0x4090, 0x100, 32, 0x0, 1, [TIL_TXINVCNT_COUNT 0]⟩,
  ⟨"TIL_TXLASTSLIP_LO", 0x4094, 0x100, 32, 0x0, 1, [TIL_TXLASTSLIP_LO_STAMP 0]⟩,
  ⟨"TIL_TXLASTSLIP_HI", 0x4098, 0x100, 32, 0x0, 1, [TIL_TXLASTSLIP_HI_STAMP 0]⟩]
def famsTIL : List RegFam := famsTIL_0 ++ famsTIL_1

end Sys2Proof.Machine.Reg
end

