-- ==== Sys2Proof/Machine/RegsB.lean ====
section
/-! DEFINITION. The registers of the blocks COR, CAL, BRD, KNT, VRD, EJS: the fields of the spec's field tables, bit for bit, and one
table row for each register family (R12, R13, R342). An index is read modulo its count. -/

namespace Sys2Proof.Machine.Reg

/-! ### COR (spec/ file 04) -/

def COR_CTRL_INTERP_EN : Fld := ⟨0x6000, 0, 1, .rw, 0x1, false⟩
def COR_CTRL_AUTOLANE : Fld := ⟨0x6000, 1, 1, .rw, 0x1, false⟩
def COR_CTRL_TIE : Fld := ⟨0x6000, 2, 1, .rw, 0x1, false⟩
def COR_CTRL_MINGOOD : Fld := ⟨0x6000, 8, 5, .rw, 0x8, false⟩
def COR_STAT_BLENDING : Fld := ⟨0x6004, 0, 1, .ro, 0x0, false⟩
def COR_STAT_REVERSING : Fld := ⟨0x6004, 1, 1, .ro, 0x0, false⟩
def COR_STAT_DTCLAMP : Fld := ⟨0x6004, 2, 1, .ro, 0x0, false⟩
def COR_STAT_DTCLAMPED : Fld := ⟨0x6004, 3, 1, .w1c, 0x0, false⟩
def COR_STAT_WRERR : Fld := ⟨0x6004, 4, 1, .w1c, 0x0, false⟩
def COR_STAT_LANECHG : Fld := ⟨0x6004, 5, 1, .w1c, 0x0, false⟩
def COR_V0_V0 : Fld := ⟨0x6008, 0, 16, .rw, 0x2D00, true⟩
def COR_OSEL_ACT : Fld := ⟨0x600C, 0, 32, .ro, 0x0, true⟩
def COR_OFLIP_FLIP : Fld := ⟨0x6010, 0, 32, .w1s, 0x0, false⟩
def COR_BLEND_FRAMES : Fld := ⟨0x6014, 0, 13, .rw, 0x200, false⟩
def COR_BLEND_K : Fld := ⟨0x6014, 16, 13, .ro, 0x0, false⟩
def COR_BLEND_START : Fld := ⟨0x6014, 29, 1, .wo, 0x0, false⟩
def COR_BLEND_ABORT : Fld := ⟨0x6014, 30, 1, .wo, 0x0, false⟩
def COR_BLEND_BUSY : Fld := ⟨0x6014, 31, 1, .ro, 0x0, false⟩
def COR_TREF_A_TEMP : Fld := ⟨0x6018, 0, 20, .rw, 0x0, true⟩
def COR_TREF_B_TEMP : Fld := ⟨0x601C, 0, 20, .rw, 0x0, true⟩
def COR_DT_DT : Fld := ⟨0x6020, 0, 21, .ro, 0x0, false⟩
def COR_DT_CLAMP : Fld := ⟨0x6020, 31, 1, .ro, 0x0, false⟩
def COR_BADCNT_PIXELS : Fld := ⟨0x6024, 0, 18, .ro, 0x0, false⟩
def COR_BADCNT_LANES : Fld := ⟨0x6024, 20, 12, .ro, 0x0, false⟩
def COR_ECCBAD_COUNT : Fld := ⟨0x6028, 0, 16, .ro, 0x0, false⟩
def COR_ECCBAD_CLR : Fld := ⟨0x6028, 31, 1, .wo, 0x0, false⟩
def COR_CLIPCNT_COUNT : Fld := ⟨0x602C, 0, 31, .ro, 0x0, false⟩
def COR_CLIPCNT_CLR : Fld := ⟨0x602C, 31, 1, .wo, 0x0, false⟩
def COR_LANEX_EXCL (n : Nat) : Fld := ⟨(0x6100 + 0x4 * (n % 64)), 0, 32, .rw, 0x0, true⟩
def COR_LANEBAD_BAD (n : Nat) : Fld := ⟨(0x6200 + 0x4 * (n % 64)), 0, 32, .ro, 0x0, false⟩

/-- The register families of block COR. -/
def famsCOR_0 : List RegFam := [
  ⟨"COR_CTRL", 0x6000, 0x0, 1, 0x0, 1, [COR_CTRL_INTERP_EN, COR_CTRL_AUTOLANE, COR_CTRL_TIE, COR_CTRL_MINGOOD]⟩,
  ⟨"COR_STAT", 0x6004, 0x0, 1, 0x0, 1, [COR_STAT_BLENDING, COR_STAT_REVERSING, COR_STAT_DTCLAMP, COR_STAT_DTCLAMPED, COR_STAT_WRERR, COR_STAT_LANECHG]⟩,
  ⟨"COR_V0", 0x6008, 0x0, 1, 0x0, 1, [COR_V0_V0]⟩,
  ⟨"COR_OSEL", 0x600C, 0x0, 1, 0x0, 1, [COR_OSEL_ACT]⟩,
  ⟨"COR_OFLIP", 0x6010, 0x0, 1, 0x0, 1, [COR_OFLIP_FLIP]⟩,
  ⟨"COR_BLEND", 0x6014, 0x0, 1, 0x0, 1, [COR_BLEND_FRAMES, COR_BLEND_K, COR_BLEND_START, COR_BLEND_ABORT, COR_BLEND_BUSY]⟩,
  ⟨"COR_TREF_A", 0x6018, 0x0, 1, 0x0, 1, [COR_TREF_A_TEMP]⟩,
  ⟨"COR_TREF_B", 0x601C, 0x0, 1, 0x0, 1, [COR_TREF_B_TEMP]⟩,
  ⟨"COR_DT", 0x6020, 0x0, 1, 0x0, 1, [COR_DT_DT, COR_DT_CLAMP]⟩,
  ⟨"COR_BADCNT", 0x6024, 0x0, 1, 0x0, 1, [COR_BADCNT_PIXELS, COR_BADCNT_LANES]⟩,
  ⟨"COR_ECCBAD", 0x6028, 0x0, 1, 0x0, 1, [COR_ECCBAD_COUNT, COR_ECCBAD_CLR]⟩,
  ⟨"COR_CLIPCNT", 0x602C, 0x0, 1, 0x0, 1, [COR_CLIPCNT_COUNT, COR_CLIPCNT_CLR]⟩]
def famsCOR_1 : List RegFam := [
  ⟨"COR_LANEX", 0x6100, 0x4, 64, 0x0, 1, [COR_LANEX_EXCL 0]⟩,
  ⟨"COR_LANEBAD", 0x6200, 0x4, 64, 0x0, 1, [COR_LANEBAD_BAD 0]⟩]
def famsCOR : List RegFam := famsCOR_0 ++ famsCOR_1

/-! ### CAL (spec/ file 05) -/

def CAL_CTRL_GO : Fld := ⟨0x6400, 0, 1, .wo, 0x0, false⟩
def CAL_CTRL_ABORT : Fld := ⟨0x6400, 1, 1, .wo, 0x0, false⟩
def CAL_CTRL_DRIFT_EN : Fld := ⟨0x6400, 2, 1, .rw, 0x1, false⟩
def CAL_CTRL_POLICY : Fld := ⟨0x6400, 3, 1, .rw, 0x0, false⟩
def CAL_CTRL_REJROW : Fld := ⟨0x6400, 4, 1, .rw, 0x0, false⟩
def CAL_CTRL_GREF : Fld := ⟨0x6400, 8, 1, .wo, 0x0, false⟩
def CAL_CTRL_GAPPLY : Fld := ⟨0x6400, 9, 1, .wo, 0x0, false⟩
def CAL_STATUS_PHASE : Fld := ⟨0x6404, 0, 4, .ro, 0x0, false⟩
def CAL_STATUS_COMPUTE : Fld := ⟨0x6404, 4, 1, .ro, 0x0, false⟩
def CAL_STATUS_BLIND : Fld := ⟨0x6404, 5, 1, .ro, 0x0, false⟩
def CAL_STATUS_PENDING : Fld := ⟨0x6404, 6, 5, .ro, 0x0, false⟩
def CAL_STATUS_DEFERRED : Fld := ⟨0x6404, 11, 1, .w1c, 0x0, false⟩
def CAL_STATUS_STUCK : Fld := ⟨0x6404, 12, 1, .ro, 0x0, false⟩
def CAL_STATUS_REFUSED : Fld := ⟨0x6404, 13, 1, .w1c, 0x0, false⟩
def CAL_STATUS_SUSPENDED : Fld := ⟨0x6404, 14, 1, .ro, 0x0, false⟩
def CAL_STATUS_BACKOFF : Fld := ⟨0x6404, 16, 3, .ro, 0x0, false⟩
def CAL_DT_DT : Fld := ⟨0x6408, 0, 11, .rw, 0xC8, false⟩
def CAL_MAXINT_SEC : Fld := ⟨0x640C, 0, 16, .rw, 0x708, false⟩
def CAL_MININT_SEC : Fld := ⟨0x6410, 0, 16, .rw, 0x14, false⟩
def CAL_FRAMES_VALUE : Fld := ⟨0x6414, 0, 13, .rw, 0x400, false⟩
def CAL_SETTLE_VALUE : Fld := ⟨0x6418, 0, 13, .rw, 0x28, false⟩
def CAL_RAMP_VALUE : Fld := ⟨0x641C, 0, 13, .rw, 0x200, false⟩
def CAL_LIMOFS_LIMIT : Fld := ⟨0x6420, 0, 14, .rw, 0x5DC, false⟩
def CAL_LIMITS_FRAC : Fld := ⟨0x6424, 0, 8, .rw, 0x5, false⟩
def CAL_LIMITS_NEWBAD : Fld := ⟨0x6424, 8, 8, .rw, 0x40, false⟩
def CAL_LIMITS_DRIFT : Fld := ⟨0x6424, 16, 8, .rw, 0x14, false⟩
def CAL_LIMITS_NOISE : Fld := ⟨0x6424, 24, 8, .rw, 0xC, false⟩
def CAL_COUNT_COUNT : Fld := ⟨0x6428, 0, 32, .ro, 0x0, false⟩
def CAL_FAILS_COUNT : Fld := ⟨0x642C, 0, 32, .ro, 0x0, false⟩
def CAL_ABORTS_COUNT : Fld := ⟨0x6430, 0, 32, .ro, 0x0, false⟩
def CAL_LASTTIME_LO_STAMP : Fld := ⟨0x6434, 0, 32, .ro, 0x0, false⟩
def CAL_LASTTIME_HI_STAMP : Fld := ⟨0x6438, 0, 32, .ro, 0x0, false⟩
def CAL_LASTSTAGE_TEMP : Fld := ⟨0x643C, 0, 20, .ro, 0x0, true⟩
def CAL_LASTRESULT_CODE : Fld := ⟨0x6440, 0, 4, .ro, 0x0, false⟩
def CAL_LASTRESULT_TRIG : Fld := ⟨0x6440, 4, 5, .ro, 0x0, false⟩
def CAL_LASTRESULT_ORPHAN : Fld := ⟨0x6440, 9, 1, .ro, 0x0, false⟩
def CAL_LASTRESULT_TRIMDROP : Fld := ⟨0x6440, 10, 1, .ro, 0x0, false⟩
def CAL_LASTSTATS_OUTLIM : Fld := ⟨0x6444, 0, 18, .ro, 0x0, false⟩
def CAL_LASTSTATS_NEWBAD : Fld := ⟨0x6444, 18, 10, .ro, 0x0, false⟩
def CAL_BLIND_US : Fld := ⟨0x6448, 0, 24, .ro, 0x0, false⟩
def CAL_GRANTTO_VALUE : Fld := ⟨0x644C, 0, 16, .rw, 0x7D0, false⟩
def CAL_RESUME_VALUE : Fld := ⟨0x6450, 0, 16, .rw, 0x578, false⟩
def CAL_TRIMWIN_VALUE : Fld := ⟨0x6454, 0, 16, .rw, 0x3E8, false⟩
def CAL_TRK_EN : Fld := ⟨0x6458, 0, 1, .rw, 0x1, false⟩
def CAL_TRK_ANCHOR : Fld := ⟨0x6458, 1, 1, .rw, 0x1, false⟩
def CAL_TRK_LANES : Fld := ⟨0x6458, 2, 4, .rw, 0x2, false⟩
def CAL_TRK_TAIL : Fld := ⟨0x6458, 6, 8, .rw, 0x10, false⟩
def CAL_TRK_MINSHARE : Fld := ⟨0x6458, 14, 7, .rw, 0x19, false⟩
def CAL_TRK_STEP : Fld := ⟨0x6458, 21, 4, .rw, 0x1, false⟩
def CAL_BKDOFS_OFS : Fld := ⟨0x645C, 0, 16, .rw, 0x0, true⟩
def CAL_ANCHOR_A : Fld := ⟨0x6460, 0, 16, .ro, 0x0, false⟩
def CAL_ANCHOR_VALID : Fld := ⟨0x6460, 31, 1, .ro, 0x0, false⟩
def CAL_TRKSTAT_FROZEN : Fld := ⟨0x6464, 0, 18, .ro, 0x0, false⟩
def CAL_TRKSTAT_SATCNT : Fld := ⟨0x6464, 18, 12, .ro, 0x0, false⟩
def CAL_TRKSTAT_CLR : Fld := ⟨0x6464, 31, 1, .wo, 0x0, false⟩
def CAL_REFSEL_LANE : Fld := ⟨0x6468, 0, 11, .rw, 0x0, false⟩
def CAL_REFSEL_AUTOINC : Fld := ⟨0x6468, 16, 1, .rw, 0x0, false⟩
def CAL_REFDATA_REF : Fld := ⟨0x646C, 0, 16, .ro, 0x0, false⟩
def CAL_GREF_BUSY : Fld := ⟨0x6470, 0, 1, .ro, 0x0, false⟩
def CAL_GREF_DONE : Fld := ⟨0x6470, 1, 1, .w1c, 0x0, false⟩
def CAL_GREF_FAIL : Fld := ⟨0x6470, 2, 1, .w1c, 0x0, false⟩
def CAL_GREF_PENDAPPLY : Fld := ⟨0x6470, 3, 1, .ro, 0x0, false⟩
def CAL_GREF_OUTLIM : Fld := ⟨0x6470, 4, 18, .ro, 0x0, false⟩
def CAL_TNOISE_FACT (n : Nat) : Fld := ⟨(0x6480 + 0x4 * (n % 32)), 0, 16, .ro, 0x268, true⟩
def CAL_TNOISE_LAST (n : Nat) : Fld := ⟨(0x6480 + 0x4 * (n % 32)), 16, 16, .ro, 0x0, false⟩

/-- The register families of block CAL. -/
def famsCAL_0 : List RegFam := [
  ⟨"CAL_CTRL", 0x6400, 0x0, 1, 0x0, 1, [CAL_CTRL_GO, CAL_CTRL_ABORT, CAL_CTRL_DRIFT_EN, CAL_CTRL_POLICY, CAL_CTRL_REJROW, CAL_CTRL_GREF, CAL_CTRL_GAPPLY]⟩,
  ⟨"CAL_STATUS", 0x6404, 0x0, 1, 0x0, 1, [CAL_STATUS_PHASE, CAL_STATUS_COMPUTE, CAL_STATUS_BLIND, CAL_STATUS_PENDING, CAL_STATUS_DEFERRED, CAL_STATUS_STUCK, CAL_STATUS_REFUSED, CAL_STATUS_SUSPENDED, CAL_STATUS_BACKOFF]⟩,
  ⟨"CAL_DT", 0x6408, 0x0, 1, 0x0, 1, [CAL_DT_DT]⟩,
  ⟨"CAL_MAXINT", 0x640C, 0x0, 1, 0x0, 1, [CAL_MAXINT_SEC]⟩,
  ⟨"CAL_MININT", 0x6410, 0x0, 1, 0x0, 1, [CAL_MININT_SEC]⟩,
  ⟨"CAL_FRAMES", 0x6414, 0x0, 1, 0x0, 1, [CAL_FRAMES_VALUE]⟩,
  ⟨"CAL_SETTLE", 0x6418, 0x0, 1, 0x0, 1, [CAL_SETTLE_VALUE]⟩,
  ⟨"CAL_RAMP", 0x641C, 0x0, 1, 0x0, 1, [CAL_RAMP_VALUE]⟩,
  ⟨"CAL_LIMOFS", 0x6420, 0x0, 1, 0x0, 1, [CAL_LIMOFS_LIMIT]⟩,
  ⟨"CAL_LIMITS", 0x6424, 0x0, 1, 0x0, 1, [CAL_LIMITS_FRAC, CAL_LIMITS_NEWBAD, CAL_LIMITS_DRIFT, CAL_LIMITS_NOISE]⟩,
  ⟨"CAL_COUNT", 0x6428, 0x0, 1, 0x0, 1, [CAL_COUNT_COUNT]⟩,
  ⟨"CAL_FAILS", 0x642C, 0x0, 1, 0x0, 1, [CAL_FAILS_COUNT]⟩]
def famsCAL_1 : List RegFam := [
  ⟨"CAL_ABORTS", 0x6430, 0x0, 1, 0x0, 1, [CAL_ABORTS_COUNT]⟩,
  ⟨"CAL_LASTTIME_LO", 0x6434, 0x0, 1, 0x0, 1, [CAL_LASTTIME_LO_STAMP]⟩,
  ⟨"CAL_LASTTIME_HI", 0x6438, 0x0, 1, 0x0, 1, [CAL_LASTTIME_HI_STAMP]⟩,
  ⟨"CAL_LASTSTAGE", 0x643C, 0x0, 1, 0x0, 1, [CAL_LASTSTAGE_TEMP]⟩,
  ⟨"CAL_LASTRESULT", 0x6440, 0x0, 1, 0x0, 1, [CAL_LASTRESULT_CODE, CAL_LASTRESULT_TRIG, CAL_LASTRESULT_ORPHAN, CAL_LASTRESULT_TRIMDROP]⟩,
  ⟨"CAL_LASTSTATS", 0x6444, 0x0, 1, 0x0, 1, [CAL_LASTSTATS_OUTLIM, CAL_LASTSTATS_NEWBAD]⟩,
  ⟨"CAL_BLIND", 0x6448, 0x0, 1, 0x0, 1, [CAL_BLIND_US]⟩,
  ⟨"CAL_GRANTTO", 0x644C, 0x0, 1, 0x0, 1, [CAL_GRANTTO_VALUE]⟩,
  ⟨"CAL_RESUME", 0x6450, 0x0, 1, 0x0, 1, [CAL_RESUME_VALUE]⟩,
  ⟨"CAL_TRIMWIN", 0x6454, 0x0, 1, 0x0, 1, [CAL_TRIMWIN_VALUE]⟩,
  ⟨"CAL_TRK", 0x6458, 0x0, 1, 0x0, 1, [CAL_TRK_EN, CAL_TRK_ANCHOR, CAL_TRK_LANES, CAL_TRK_TAIL, CAL_TRK_MINSHARE, CAL_TRK_STEP]⟩,
  ⟨"CAL_BKDOFS", 0x645C, 0x0, 1, 0x0, 1, [CAL_BKDOFS_OFS]⟩]
def famsCAL_2 : List RegFam := [
  ⟨"CAL_ANCHOR", 0x6460, 0x0, 1, 0x0, 1, [CAL_ANCHOR_A, CAL_ANCHOR_VALID]⟩,
  ⟨"CAL_TRKSTAT", 0x6464, 0x0, 1, 0x0, 1, [CAL_TRKSTAT_FROZEN, CAL_TRKSTAT_SATCNT, CAL_TRKSTAT_CLR]⟩,
  ⟨"CAL_REFSEL", 0x6468, 0x0, 1, 0x0, 1, [CAL_REFSEL_LANE, CAL_REFSEL_AUTOINC]⟩,
  ⟨"CAL_REFDATA", 0x646C, 0x0, 1, 0x0, 1, [CAL_REFDATA_REF]⟩,
  ⟨"CAL_GREF", 0x6470, 0x0, 1, 0x0, 1, [CAL_GREF_BUSY, CAL_GREF_DONE, CAL_GREF_FAIL, CAL_GREF_PENDAPPLY, CAL_GREF_OUTLIM]⟩,
  ⟨"CAL_TNOISE", 0x6480, 0x4, 32, 0x0, 1, [CAL_TNOISE_FACT 0, CAL_TNOISE_LAST 0]⟩]
def famsCAL : List RegFam := famsCAL_0 ++ famsCAL_1 ++ famsCAL_2

/-! ### BRD (spec/ file 06) -/

def BRD_CTRL_AUTO : Fld := ⟨0x6800, 0, 1, .rw, 0x1, false⟩
def BRD_CTRL_TRACK : Fld := ⟨0x6800, 1, 1, .rw, 0x0, false⟩
def BRD_CTRL_RESTART : Fld := ⟨0x6800, 2, 1, .wo, 0x0, false⟩
def BRD_STAT_RUN : Fld := ⟨0x6804, 0, 1, .ro, 0x0, false⟩
def BRD_STAT_KRED : Fld := ⟨0x6804, 1, 1, .w1c, 0x0, false⟩
def BRD_STAT_WRERR : Fld := ⟨0x6804, 2, 1, .w1c, 0x0, false⟩
def BRD_STAT_DEPTHERR : Fld := ⟨0x6804, 3, 1, .w1c, 0x0, false⟩
def BRD_STAT_ORDERR : Fld := ⟨0x6804, 4, 1, .w1c, 0x0, false⟩
def BRD_STAT_TRACKED : Fld := ⟨0x6804, 5, 1, .w1c, 0x0, false⟩
def BRD_STAT_LATE : Fld := ⟨0x6804, 6, 1, .w1c, 0x0, false⟩
def BRD_STAT_PCAUSE : Fld := ⟨0x6804, 8, 2, .ro, 0x0, false⟩
def BRD_STAT_UNLFR : Fld := ⟨0x6804, 10, 3, .ro, 0x0, false⟩
def BRD_UNLAY_BETA : Fld := ⟨0x6808, 0, 5, .rw, 0xA, false⟩
def BRD_UNLAY_BYPASS : Fld := ⟨0x6808, 8, 1, .rw, 0x0, false⟩
def BRD_UNLAY_PEND : Fld := ⟨0x6808, 31, 1, .ro, 0x0, false⟩
def BRD_FLAGW_REFD : Fld := ⟨0x680C, 0, 2, .rw, 0x0, false⟩
def BRD_FLAGW_SETTLE : Fld := ⟨0x680C, 2, 2, .rw, 0x0, false⟩
def BRD_FLAGW_UNL : Fld := ⟨0x680C, 4, 2, .rw, 0x1, false⟩
def BRD_VNOM_V : Fld := ⟨0x6810, 0, 16, .rw, 0xD48, true⟩
def BRD_VLIM_VMIN : Fld := ⟨0x6814, 0, 16, .rw, 0x1F4, false⟩
def BRD_VLIM_VMAX : Fld := ⟨0x6814, 16, 16, .rw, 0x1F40, false⟩
def BRD_GEOM_PITCH : Fld := ⟨0x6818, 0, 16, .rw, 0x1324, true⟩
def BRD_GEOM_TILT : Fld := ⟨0x6818, 16, 12, .rw, 0x0, true⟩
def BRD_GRAV_G : Fld := ⟨0x681C, 0, 16, .rw, 0x2652, false⟩
def BRD_HYPSET_K : Fld := ⟨0x6820, 0, 3, .rw, 0x3, false⟩
def BRD_HYPSET_SPACING : Fld := ⟨0x6820, 4, 8, .rw, 0x20, false⟩
def BRD_HYPSET_REFK : Fld := ⟨0x6820, 16, 3, .ro, 0x1, false⟩
def BRD_TRACK_PERIOD : Fld := ⟨0x6824, 0, 12, .rw, 0x1E, false⟩
def BRD_TRACK_MINCNT : Fld := ⟨0x6824, 12, 16, .rw, 0x3E8, false⟩
def BRD_TRACK_THRESH : Fld := ⟨0x6824, 28, 4, .rw, 0x4, false⟩
def BRD_TSTAT_ACTGEN : Fld := ⟨0x6828, 0, 8, .ro, 0x0, false⟩
def BRD_TSTAT_SHADGEN : Fld := ⟨0x6828, 8, 8, .ro, 0x1, false⟩
def BRD_TSTAT_SHADFREE : Fld := ⟨0x6828, 16, 1, .ro, 0x1, false⟩
def BRD_TSTAT_SWPEND : Fld := ⟨0x6828, 17, 1, .ro, 0x0, false⟩
def BRD_TSTAT_DEPTHSUM : Fld := ⟨0x6828, 18, 10, .ro, 0x0, false⟩
def BRD_TCMD_SWITCH : Fld := ⟨0x682C, 0, 1, .wo, 0x0, false⟩
def BRD_TCMD_NEWK : Fld := ⟨0x682C, 4, 3, .rw, 0x3, false⟩
def BRD_PARTCNT_COUNT : Fld := ⟨0x6830, 0, 31, .ro, 0x0, false⟩
def BRD_PARTCNT_CLR : Fld := ⟨0x6830, 31, 1, .wo, 0x0, false⟩
def BRD_UNLRST_COUNT : Fld := ⟨0x6834, 0, 31, .ro, 0x0, false⟩
def BRD_UNLRST_CLR : Fld := ⟨0x6834, 31, 1, .wo, 0x0, false⟩
def BRD_UCLIPCNT_COUNT : Fld := ⟨0x6838, 0, 31, .ro, 0x0, false⟩
def BRD_UCLIPCNT_CLR : Fld := ⟨0x6838, 31, 1, .wo, 0x0, false⟩
def BRD_HYP_SPEED_VROW0 (n : Nat) : Fld := ⟨(0x6840 + 0x10 * (n % 5)), 0, 16, .ro, 0x0, false⟩
def BRD_HYP_SPEED_VCTR (n : Nat) : Fld := ⟨(0x6840 + 0x10 * (n % 5)), 16, 16, .ro, 0x0, false⟩
def BRD_HYP_TAU63_TAU (n : Nat) : Fld := ⟨(0x6844 + 0x10 * (n % 5)), 0, 24, .ro, 0x0, false⟩
def BRD_HYP_HALFDT_DT (n : Nat) : Fld := ⟨(0x6848 + 0x10 * (n % 5)), 0, 24, .ro, 0x0, false⟩
def BRD_HYP_DEPTH_D (n : Nat) : Fld := ⟨(0x684C + 0x10 * (n % 5)), 0, 10, .ro, 0x0, false⟩
def BRD_HYP_DEPTH_USED (n : Nat) : Fld := ⟨(0x684C + 0x10 * (n % 5)), 16, 1, .ro, 0x0, false⟩
def BRD_HYP_DEPTH_TAG (n : Nat) : Fld := ⟨(0x684C + 0x10 * (n % 5)), 24, 8, .ro, 0x0, false⟩
def BRD_HYPCNT_COUNT (n : Nat) : Fld := ⟨(0x68A0 + 0x4 * (n % 5)), 0, 31, .ro, 0x0, false⟩
def BRD_HYPCNT_CLR (n : Nat) : Fld := ⟨(0x68A0 + 0x4 * (n % 5)), 31, 1, .wo, 0x0, false⟩

/-- The register families of block BRD. -/
def famsBRD_0 : List RegFam := [
  ⟨"BRD_CTRL", 0x6800, 0x0, 1, 0x0, 1, [BRD_CTRL_AUTO, BRD_CTRL_TRACK, BRD_CTRL_RESTART]⟩,
  ⟨"BRD_STAT", 0x6804, 0x0, 1, 0x0, 1, [BRD_STAT_RUN, BRD_STAT_KRED, BRD_STAT_WRERR, BRD_STAT_DEPTHERR, BRD_STAT_ORDERR, BRD_STAT_TRACKED, BRD_STAT_LATE, BRD_STAT_PCAUSE, BRD_STAT_UNLFR]⟩,
  ⟨"BRD_UNLAY", 0x6808, 0x0, 1, 0x0, 1, [BRD_UNLAY_BETA, BRD_UNLAY_BYPASS, BRD_UNLAY_PEND]⟩,
  ⟨"BRD_FLAGW", 0x680C, 0x0, 1, 0x0, 1, [BRD_FLAGW_REFD, BRD_FLAGW_SETTLE, BRD_FLAGW_UNL]⟩,
  ⟨"BRD_VNOM", 0x6810, 0x0, 1, 0x0, 1, [BRD_VNOM_V]⟩,
  ⟨"BRD_VLIM", 0x6814, 0x0, 1, 0x0, 1, [BRD_VLIM_VMIN, BRD_VLIM_VMAX]⟩,
  ⟨"BRD_GEOM", 0x6818, 0x0, 1, 0x0, 1, [BRD_GEOM_PITCH, BRD_GEOM_TILT]⟩,
  ⟨"BRD_GRAV", 0x681C, 0x0, 1, 0x0, 1, [BRD_GRAV_G]⟩,
  ⟨"BRD_HYPSET", 0x6820, 0x0, 1, 0x0, 1, [BRD_HYPSET_K, BRD_HYPSET_SPACING, BRD_HYPSET_REFK]⟩,
  ⟨"BRD_TRACK", 0x6824, 0x0, 1, 0x0, 1, [BRD_TRACK_PERIOD, BRD_TRACK_MINCNT, BRD_TRACK_THRESH]⟩,
  ⟨"BRD_TSTAT", 0x6828, 0x0, 1, 0x0, 1, [BRD_TSTAT_ACTGEN, BRD_TSTAT_SHADGEN, BRD_TSTAT_SHADFREE, BRD_TSTAT_SWPEND, BRD_TSTAT_DEPTHSUM]⟩,
  ⟨"BRD_TCMD", 0x682C, 0x0, 1, 0x0, 1, [BRD_TCMD_SWITCH, BRD_TCMD_NEWK]⟩]
def famsBRD_1 : List RegFam := [
  ⟨"BRD_PARTCNT", 0x6830, 0x0, 1, 0x0, 1, [BRD_PARTCNT_COUNT, BRD_PARTCNT_CLR]⟩,
  ⟨"BRD_UNLRST", 0x6834, 0x0, 1, 0x0, 1, [BRD_UNLRST_COUNT, BRD_UNLRST_CLR]⟩,
  ⟨"BRD_UCLIPCNT", 0x6838, 0x0, 1, 0x0, 1, [BRD_UCLIPCNT_COUNT, BRD_UCLIPCNT_CLR]⟩,
  ⟨"BRD_HYP_SPEED", 0x6840, 0x10, 5, 0x0, 1, [BRD_HYP_SPEED_VROW0 0, BRD_HYP_SPEED_VCTR 0]⟩,
  ⟨"BRD_HYP_TAU63", 0x6844, 0x10, 5, 0x0, 1, [BRD_HYP_TAU63_TAU 0]⟩,
  ⟨"BRD_HYP_HALFDT", 0x6848, 0x10, 5, 0x0, 1, [BRD_HYP_HALFDT_DT 0]⟩,
  ⟨"BRD_HYP_DEPTH", 0x684C, 0x10, 5, 0x0, 1, [BRD_HYP_DEPTH_D 0, BRD_HYP_DEPTH_USED 0, BRD_HYP_DEPTH_TAG 0]⟩,
  ⟨"BRD_HYPCNT", 0x68A0, 0x4, 5, 0x0, 1, [BRD_HYPCNT_COUNT 0, BRD_HYPCNT_CLR 0]⟩]
def famsBRD : List RegFam := famsBRD_0 ++ famsBRD_1

/-! ### KNT (spec/ file 07) -/

def KNT_CTRL_EN : Fld := ⟨0x7000, 0, 1, .rw, 0x1, false⟩
def KNT_CTRL_FIXEN : Fld := ⟨0x7000, 1, 1, .rw, 0x0, false⟩
def KNT_CTRL_FIXK : Fld := ⟨0x7000, 2, 3, .rw, 0x1, false⟩
def KNT_CTRL_POL : Fld := ⟨0x7000, 5, 2, .rw, 0x0, false⟩
def KNT_STAT_FULL : Fld := ⟨0x7004, 0, 1, .ro, 0x0, false⟩
def KNT_STAT_WRERR : Fld := ⟨0x7004, 1, 1, .w1c, 0x0, false⟩
def KNT_STAT_FULLSEEN : Fld := ⟨0x7004, 2, 1, .w1c, 0x0, false⟩
def KNT_STAT_SPLIT : Fld := ⟨0x7004, 3, 1, .w1c, 0x0, false⟩
def KNT_THR_OPEN : Fld := ⟨0x7008, 0, 13, .rw, 0x100, false⟩
def KNT_THR_CLOSE : Fld := ⟨0x7008, 16, 13, .rw, 0x80, false⟩
def KNT_CHOICE_DEPTH : Fld := ⟨0x700C, 0, 4, .rw, 0x4, false⟩
def KNT_MINW_MINW : Fld := ⟨0x7010, 0, 11, .rw, 0x40, false⟩
def KNT_GEOM_CPITCH : Fld := ⟨0x7014, 0, 16, .rw, 0x1324, true⟩
def KNT_HOT_DELTA : Fld := ⟨0x7018, 0, 13, .rw, 0x200, false⟩
def KNT_MINAREA_AREA : Fld := ⟨0x701C, 0, 8, .rw, 0x2, false⟩
def KNT_OPEN_NOW : Fld := ⟨0x7020, 0, 11, .ro, 0x0, false⟩
def KNT_OPEN_MAX : Fld := ⟨0x7020, 16, 11, .ro, 0x0, false⟩
def KNT_OPEN_CLR : Fld := ⟨0x7020, 31, 1, .wo, 0x0, false⟩
def KNT_CLOSED_COUNT : Fld := ⟨0x7024, 0, 31, .ro, 0x0, false⟩
def KNT_CLOSED_CLR : Fld := ⟨0x7024, 31, 1, .wo, 0x0, false⟩
def KNT_LOSTCNT_COUNT : Fld := ⟨0x7028, 0, 31, .ro, 0x0, false⟩
def KNT_LOSTCNT_CLR : Fld := ⟨0x7028, 31, 1, .wo, 0x0, false⟩
def KNT_SPLITCNT_COUNT : Fld := ⟨0x702C, 0, 31, .ro, 0x0, false⟩
def KNT_SPLITCNT_CLR : Fld := ⟨0x702C, 31, 1, .wo, 0x0, false⟩
def KNT_DROPCNT_COUNT : Fld := ⟨0x7030, 0, 31, .ro, 0x0, false⟩
def KNT_DROPCNT_CLR : Fld := ⟨0x7030, 31, 1, .wo, 0x0, false⟩

/-- The register families of block KNT. -/
def famsKNT_0 : List RegFam := [
  ⟨"KNT_CTRL", 0x7000, 0x0, 1, 0x0, 1, [KNT_CTRL_EN, KNT_CTRL_FIXEN, KNT_CTRL_FIXK, KNT_CTRL_POL]⟩,
  ⟨"KNT_STAT", 0x7004, 0x0, 1, 0x0, 1, [KNT_STAT_FULL, KNT_STAT_WRERR, KNT_STAT_FULLSEEN, KNT_STAT_SPLIT]⟩,
  ⟨"KNT_THR", 0x7008, 0x0, 1, 0x0, 1, [KNT_THR_OPEN, KNT_THR_CLOSE]⟩,
  ⟨"KNT_CHOICE", 0x700C, 0x0, 1, 0x0, 1, [KNT_CHOICE_DEPTH]⟩,
  ⟨"KNT_MINW", 0x7010, 0x0, 1, 0x0, 1, [KNT_MINW_MINW]⟩,
  ⟨"KNT_GEOM", 0x7014, 0x0, 1, 0x0, 1, [KNT_GEOM_CPITCH]⟩,
  ⟨"KNT_HOT", 0x7018, 0x0, 1, 0x0, 1, [KNT_HOT_DELTA]⟩,
  ⟨"KNT_MINAREA", 0x701C, 0x0, 1, 0x0, 1, [KNT_MINAREA_AREA]⟩,
  ⟨"KNT_OPEN", 0x7020, 0x0, 1, 0x0, 1, [KNT_OPEN_NOW, KNT_OPEN_MAX, KNT_OPEN_CLR]⟩,
  ⟨"KNT_CLOSED", 0x7024, 0x0, 1, 0x0, 1, [KNT_CLOSED_COUNT, KNT_CLOSED_CLR]⟩,
  ⟨"KNT_LOSTCNT", 0x7028, 0x0, 1, 0x0, 1, [KNT_LOSTCNT_COUNT, KNT_LOSTCNT_CLR]⟩,
  ⟨"KNT_SPLITCNT", 0x702C, 0x0, 1, 0x0, 1, [KNT_SPLITCNT_COUNT, KNT_SPLITCNT_CLR]⟩]
def famsKNT_1 : List RegFam := [
  ⟨"KNT_DROPCNT", 0x7030, 0x0, 1, 0x0, 1, [KNT_DROPCNT_COUNT, KNT_DROPCNT_CLR]⟩]
def famsKNT : List RegFam := famsKNT_0 ++ famsKNT_1

/-! ### VRD (spec/ file 07) -/

def VRD_CTRL_SWITCH : Fld := ⟨0x7400, 0, 1, .wo, 0x0, false⟩
def VRD_CTRL_ACTBANK : Fld := ⟨0x7400, 1, 1, .ro, 0x0, false⟩
def VRD_CTRL_SWPEND : Fld := ⟨0x7400, 2, 1, .ro, 0x0, false⟩
def VRD_STAT_WRERR : Fld := ⟨0x7404, 0, 1, .w1c, 0x0, false⟩
def VRD_STAT_NOELIG : Fld := ⟨0x7404, 1, 1, .w1c, 0x0, false⟩
def VRD_STAT_FORCED : Fld := ⟨0x7404, 2, 1, .w1c, 0x0, false⟩
def VRD_FORCEEN_EN : Fld := ⟨0x7408, 0, 6, .rw, 0x0, false⟩
def VRD_FORCECLS_CLS : Fld := ⟨0x740C, 0, 24, .rw, 0x0, false⟩
def VRD_QMIN_QMIN : Fld := ⟨0x7410, 0, 16, .rw, 0x0, false⟩
def VRD_LOGCTL_MODE : Fld := ⟨0x7414, 0, 2, .rw, 0x0, false⟩
def VRD_LOGCTL_N : Fld := ⟨0x7414, 4, 12, .rw, 0x10, false⟩
def VRD_LOGHEAD_NEXT : Fld := ⟨0x7418, 0, 8, .ro, 0x0, false⟩
def VRD_LOGHEAD_TOTAL : Fld := ⟨0x7418, 8, 24, .ro, 0x0, false⟩
def VRD_SEQ_NEXT : Fld := ⟨0x741C, 0, 16, .ro, 0x0, false⟩
def VRD_NOELIGCNT_COUNT : Fld := ⟨0x7420, 0, 31, .ro, 0x0, false⟩
def VRD_NOELIGCNT_CLR : Fld := ⟨0x7420, 31, 1, .wo, 0x0, false⟩
def VRD_FORCECNT_COUNT : Fld := ⟨0x7424, 0, 31, .ro, 0x0, false⟩
def VRD_FORCECNT_CLR : Fld := ⟨0x7424, 31, 1, .wo, 0x0, false⟩
def VRD_CLSCNT_COUNT (n : Nat) : Fld := ⟨(0x7440 + 0x4 * (n % 16)), 0, 31, .ro, 0x0, false⟩
def VRD_CLSCNT_CLR (n : Nat) : Fld := ⟨(0x7440 + 0x4 * (n % 16)), 31, 1, .wo, 0x0, false⟩

/-- The register families of block VRD. -/
def famsVRD : List RegFam := [
  ⟨"VRD_CTRL", 0x7400, 0x0, 1, 0x0, 1, [VRD_CTRL_SWITCH, VRD_CTRL_ACTBANK, VRD_CTRL_SWPEND]⟩,
  ⟨"VRD_STAT", 0x7404, 0x0, 1, 0x0, 1, [VRD_STAT_WRERR, VRD_STAT_NOELIG, VRD_STAT_FORCED]⟩,
  ⟨"VRD_FORCEEN", 0x7408, 0x0, 1, 0x0, 1, [VRD_FORCEEN_EN]⟩,
  ⟨"VRD_FORCECLS", 0x740C, 0x0, 1, 0x0, 1, [VRD_FORCECLS_CLS]⟩,
  ⟨"VRD_QMIN", 0x7410, 0x0, 1, 0x0, 1, [VRD_QMIN_QMIN]⟩,
  ⟨"VRD_LOGCTL", 0x7414, 0x0, 1, 0x0, 1, [VRD_LOGCTL_MODE, VRD_LOGCTL_N]⟩,
  ⟨"VRD_LOGHEAD", 0x7418, 0x0, 1, 0x0, 1, [VRD_LOGHEAD_NEXT, VRD_LOGHEAD_TOTAL]⟩,
  ⟨"VRD_SEQ", 0x741C, 0x0, 1, 0x0, 1, [VRD_SEQ_NEXT]⟩,
  ⟨"VRD_NOELIGCNT", 0x7420, 0x0, 1, 0x0, 1, [VRD_NOELIGCNT_COUNT, VRD_NOELIGCNT_CLR]⟩,
  ⟨"VRD_FORCECNT", 0x7424, 0x0, 1, 0x0, 1, [VRD_FORCECNT_COUNT, VRD_FORCECNT_CLR]⟩,
  ⟨"VRD_CLSCNT", 0x7440, 0x4, 16, 0x0, 1, [VRD_CLSCNT_COUNT 0, VRD_CLSCNT_CLR 0]⟩]

/-! ### EJS (spec/ file 08) -/

def EJS_CTRL_ROWS : Fld := ⟨0x7800, 0, 1, .rw, 0x0, true⟩
def EJS_CTRL_BONE : Fld := ⟨0x7800, 1, 1, .rw, 0x0, false⟩
def EJS_CTRL_LATEPOL : Fld := ⟨0x7800, 2, 1, .rw, 0x1, false⟩
def EJS_CTRL_LEADAUTO : Fld := ⟨0x7800, 3, 1, .rw, 0x0, false⟩
def EJS_CTRL_MAPSW : Fld := ⟨0x7800, 4, 1, .wo, 0x0, false⟩
def EJS_CTRL_MAPACT : Fld := ⟨0x7800, 5, 1, .ro, 0x0, false⟩
def EJS_CTRL_MAPPEND : Fld := ⟨0x7800, 6, 1, .ro, 0x0, false⟩
def EJS_CTRL_QFLUSH : Fld := ⟨0x7800, 7, 1, .wo, 0x0, false⟩
def EJS_STAT_WRERR : Fld := ⟨0x7804, 0, 1, .w1c, 0x0, false⟩
def EJS_STAT_DROP : Fld := ⟨0x7804, 1, 1, .w1c, 0x0, false⟩
def EJS_STAT_LATE : Fld := ⟨0x7804, 2, 1, .w1c, 0x0, false⟩
def EJS_STAT_CLIP : Fld := ⟨0x7804, 3, 1, .w1c, 0x0, false⟩
def EJS_STAT_NOVALVE : Fld := ⟨0x7804, 4, 1, .w1c, 0x0, false⟩
def EJS_DISTA_D : Fld := ⟨0x7808, 0, 16, .rw, 0x0, true⟩
def EJS_DISTB_D : Fld := ⟨0x780C, 0, 16, .rw, 0x0, true⟩
def EJS_MARGIN_TMARG : Fld := ⟨0x7810, 0, 13, .rw, 0x1F4, false⟩
def EJS_MARGIN_LMARG : Fld := ⟨0x7810, 16, 4, .rw, 0x2, false⟩
def EJS_MERGE_GAP : Fld := ⟨0x7814, 0, 13, .rw, 0x1F4, false⟩
def EJS_LEAD_OFS : Fld := ⟨0x7818, 0, 16, .rw, 0x0, false⟩
def EJS_LEAD_MINAVG : Fld := ⟨0x7818, 16, 8, .rw, 0x10, false⟩
def EJS_FIRECNT_COUNT : Fld := ⟨0x781C, 0, 31, .ro, 0x0, false⟩
def EJS_FIRECNT_CLR : Fld := ⟨0x781C, 31, 1, .wo, 0x0, false⟩
def EJS_MERGECNT_COUNT : Fld := ⟨0x7820, 0, 31, .ro, 0x0, false⟩
def EJS_MERGECNT_CLR : Fld := ⟨0x7820, 31, 1, .wo, 0x0, false⟩
def EJS_DROPCNT_COUNT : Fld := ⟨0x7824, 0, 31, .ro, 0x0, false⟩
def EJS_DROPCNT_CLR : Fld := ⟨0x7824, 31, 1, .wo, 0x0, false⟩
def EJS_LATECNT_COUNT : Fld := ⟨0x7828, 0, 31, .ro, 0x0, false⟩
def EJS_LATECNT_CLR : Fld := ⟨0x7828, 31, 1, .wo, 0x0, false⟩
def EJS_CLIPCNT_COUNT : Fld := ⟨0x782C, 0, 31, .ro, 0x0, false⟩
def EJS_CLIPCNT_CLR : Fld := ⟨0x782C, 31, 1, .wo, 0x0, false⟩
def EJS_NOVALVE_COUNT : Fld := ⟨0x7830, 0, 31, .ro, 0x0, false⟩
def EJS_NOVALVE_CLR : Fld := ⟨0x7830, 31, 1, .wo, 0x0, false⟩
def EJS_BLINDCNT_COUNT : Fld := ⟨0x7834, 0, 31, .ro, 0x0, false⟩
def EJS_BLINDCNT_CLR : Fld := ⟨0x7834, 31, 1, .wo, 0x0, false⟩
def EJS_NOTOWNED_COUNT : Fld := ⟨0x7838, 0, 31, .ro, 0x0, false⟩
def EJS_NOTOWNED_CLR : Fld := ⟨0x7838, 31, 1, .wo, 0x0, false⟩
def EJS_BONECNT_COUNT : Fld := ⟨0x783C, 0, 31, .ro, 0x0, false⟩
def EJS_BONECNT_CLR : Fld := ⟨0x783C, 31, 1, .wo, 0x0, false⟩
def EJS_QOCC_MAX : Fld := ⟨0x7840, 0, 4, .ro, 0x0, false⟩
def EJS_QOCC_MAXCH : Fld := ⟨0x7840, 8, 7, .ro, 0x0, false⟩
def EJS_QOCC_CLR : Fld := ⟨0x7840, 31, 1, .wo, 0x0, false⟩

/-- The register families of block EJS. -/
def famsEJS_0 : List RegFam := [
  ⟨"EJS_CTRL", 0x7800, 0x0, 1, 0x0, 1, [EJS_CTRL_ROWS, EJS_CTRL_BONE, EJS_CTRL_LATEPOL, EJS_CTRL_LEADAUTO, EJS_CTRL_MAPSW, EJS_CTRL_MAPACT, EJS_CTRL_MAPPEND, EJS_CTRL_QFLUSH]⟩,
  ⟨"EJS_STAT", 0x7804, 0x0, 1, 0x0, 1, [EJS_STAT_WRERR, EJS_STAT_DROP, EJS_STAT_LATE, EJS_STAT_CLIP, EJS_STAT_NOVALVE]⟩,
  ⟨"EJS_DISTA", 0x7808, 0x0, 1, 0x0, 1, [EJS_DISTA_D]⟩,
  ⟨"EJS_DISTB", 0x780C, 0x0, 1, 0x0, 1, [EJS_DISTB_D]⟩,
  ⟨"EJS_MARGIN", 0x7810, 0x0, 1, 0x0, 1, [EJS_MARGIN_TMARG, EJS_MARGIN_LMARG]⟩,
  ⟨"EJS_MERGE", 0x7814, 0x0, 1, 0x0, 1, [EJS_MERGE_GAP]⟩,
  ⟨"EJS_LEAD", 0x7818, 0x0, 1, 0x0, 1, [EJS_LEAD_OFS, EJS_LEAD_MINAVG]⟩,
  ⟨"EJS_FIRECNT", 0x781C, 0x0, 1, 0x0, 1, [EJS_FIRECNT_COUNT, EJS_FIRECNT_CLR]⟩,
  ⟨"EJS_MERGECNT", 0x7820, 0x0, 1, 0x0, 1, [EJS_MERGECNT_COUNT, EJS_MERGECNT_CLR]⟩,
  ⟨"EJS_DROPCNT", 0x7824, 0x0, 1, 0x0, 1, [EJS_DROPCNT_COUNT, EJS_DROPCNT_CLR]⟩,
  ⟨"EJS_LATECNT", 0x7828, 0x0, 1, 0x0, 1, [EJS_LATECNT_COUNT, EJS_LATECNT_CLR]⟩,
  ⟨"EJS_CLIPCNT", 0x782C, 0x0, 1, 0x0, 1, [EJS_CLIPCNT_COUNT, EJS_CLIPCNT_CLR]⟩]
def famsEJS_1 : List RegFam := [
  ⟨"EJS_NOVALVE", 0x7830, 0x0, 1, 0x0, 1, [EJS_NOVALVE_COUNT, EJS_NOVALVE_CLR]⟩,
  ⟨"EJS_BLINDCNT", 0x7834, 0x0, 1, 0x0, 1, [EJS_BLINDCNT_COUNT, EJS_BLINDCNT_CLR]⟩,
  ⟨"EJS_NOTOWNED", 0x7838, 0x0, 1, 0x0, 1, [EJS_NOTOWNED_COUNT, EJS_NOTOWNED_CLR]⟩,
  ⟨"EJS_BONECNT", 0x783C, 0x0, 1, 0x0, 1, [EJS_BONECNT_COUNT, EJS_BONECNT_CLR]⟩,
  ⟨"EJS_QOCC", 0x7840, 0x0, 1, 0x0, 1, [EJS_QOCC_MAX, EJS_QOCC_MAXCH, EJS_QOCC_CLR]⟩]
def famsEJS : List RegFam := famsEJS_0 ++ famsEJS_1

end Sys2Proof.Machine.Reg
end

