-- ==== Sys2Proof/Machine/RegsC.lean ====
section
/-! DEFINITION. The registers of the blocks VLV, VBK, ARB, MEM, SSP, FLS: the fields of the spec's field tables, bit for bit, and one
table row for each register family (R12, R13, R342). An index is read modulo its count. -/

namespace Sys2Proof.Machine.Reg

/-! ### VLV (spec/ file 09) -/

def VLV_CTRL_EN (n : Nat) : Fld := ⟨(0x8000 + 0x40 * (n % 128)), 0, 1, .rw, 0x0, true⟩
def VLV_CTRL_PROF (n : Nat) : Fld := ⟨(0x8000 + 0x40 * (n % 128)), 1, 3, .rw, 0x0, true⟩
def VLV_CTRL_POLICY (n : Nat) : Fld := ⟨(0x8000 + 0x40 * (n % 128)), 4, 1, .rw, 0x0, false⟩
def VLV_CTRL_CLRFLT (n : Nat) : Fld := ⟨(0x8000 + 0x40 * (n % 128)), 5, 1, .wo, 0x0, false⟩
def VLV_STAT_STATE (n : Nat) : Fld := ⟨(0x8004 + 0x40 * (n % 128)), 0, 3, .ro, 0x0, false⟩
def VLV_STAT_CHFLT (n : Nat) : Fld := ⟨(0x8004 + 0x40 * (n % 128)), 3, 1, .ro, 0x0, false⟩
def VLV_STAT_FLTCAUSE (n : Nat) : Fld := ⟨(0x8004 + 0x40 * (n % 128)), 4, 2, .ro, 0x0, false⟩
def VLV_STAT_CWARN (n : Nat) : Fld := ⟨(0x8004 + 0x40 * (n % 128)), 6, 1, .ro, 0x0, false⟩
def VLV_STAT_CLIMIT (n : Nat) : Fld := ⟨(0x8004 + 0x40 * (n % 128)), 7, 1, .ro, 0x0, false⟩
def VLV_STAT_LASTDROP (n : Nat) : Fld := ⟨(0x8004 + 0x40 * (n % 128)), 8, 4, .ro, 0x0, false⟩
def VLV_STAT_UNMEAS (n : Nat) : Fld := ⟨(0x8004 + 0x40 * (n % 128)), 12, 1, .ro, 0x0, false⟩
def VLV_STAT_QOCC (n : Nat) : Fld := ⟨(0x8004 + 0x40 * (n % 128)), 16, 4, .ro, 0x0, false⟩
def VLV_MOVE_SRC (n : Nat) : Fld := ⟨(0x8008 + 0x40 * (n % 128)), 0, 2, .rw, 0x0, true⟩
def VLV_MOVE_POS (n : Nat) : Fld := ⟨(0x8008 + 0x40 * (n % 128)), 2, 4, .rw, 0x0, true⟩
def VLV_MOVE_POL (n : Nat) : Fld := ⟨(0x8008 + 0x40 * (n % 128)), 6, 1, .rw, 0x0, true⟩
def VLV_MOVE_OPENREQ (n : Nat) : Fld := ⟨(0x8008 + 0x40 * (n % 128)), 7, 1, .rw, 0x0, false⟩
def VLV_COIL_TEMP (n : Nat) : Fld := ⟨(0x800C + 0x40 * (n % 128)), 0, 12, .ro, 0x280, true⟩
def VLV_COIL_PEAK (n : Nat) : Fld := ⟨(0x800C + 0x40 * (n % 128)), 16, 12, .ro, 0x0, false⟩
def VLV_COIL_CLR (n : Nat) : Fld := ⟨(0x800C + 0x40 * (n % 128)), 31, 1, .wo, 0x0, false⟩
def VLV_TOPEN_LAST (n : Nat) : Fld := ⟨(0x8010 + 0x40 * (n % 128)), 0, 16, .ro, 0x0, false⟩
def VLV_TOPEN_MEAN (n : Nat) : Fld := ⟨(0x8010 + 0x40 * (n % 128)), 16, 16, .ro, 0x0, false⟩
def VLV_TCLOSE_LAST (n : Nat) : Fld := ⟨(0x8014 + 0x40 * (n % 128)), 0, 16, .ro, 0x0, false⟩
def VLV_TCLOSE_MEAN (n : Nat) : Fld := ⟨(0x8014 + 0x40 * (n % 128)), 16, 16, .ro, 0x0, false⟩
def VLV_MOVCNT_OPNCNT (n : Nat) : Fld := ⟨(0x8018 + 0x40 * (n % 128)), 0, 16, .ro, 0x0, false⟩
def VLV_MOVCNT_CLSCNT (n : Nat) : Fld := ⟨(0x8018 + 0x40 * (n % 128)), 16, 16, .ro, 0x0, false⟩
def VLV_IMEAS_IPK (n : Nat) : Fld := ⟨(0x801C + 0x40 * (n % 128)), 0, 8, .ro, 0x0, false⟩
def VLV_IMEAS_TPK (n : Nat) : Fld := ⟨(0x801C + 0x40 * (n % 128)), 8, 14, .ro, 0x0, false⟩
def VLV_IMEAS_PKTO (n : Nat) : Fld := ⟨(0x801C + 0x40 * (n % 128)), 22, 1, .ro, 0x0, false⟩
def VLV_IMEAS_FB (n : Nat) : Fld := ⟨(0x801C + 0x40 * (n % 128)), 23, 1, .ro, 0x0, false⟩
def VLV_FIRECNT_COUNT (n : Nat) : Fld := ⟨(0x8020 + 0x40 * (n % 128)), 0, 31, .ro, 0x0, false⟩
def VLV_FIRECNT_CLR (n : Nat) : Fld := ⟨(0x8020 + 0x40 * (n % 128)), 31, 1, .wo, 0x0, false⟩
def VLV_DROPCNT_COUNT (n : Nat) : Fld := ⟨(0x8024 + 0x40 * (n % 128)), 0, 31, .ro, 0x0, false⟩
def VLV_DROPCNT_CLR (n : Nat) : Fld := ⟨(0x8024 + 0x40 * (n % 128)), 31, 1, .wo, 0x0, false⟩
def VLV_TOKDROP_COUNT (n : Nat) : Fld := ⟨(0x8028 + 0x40 * (n % 128)), 0, 31, .ro, 0x0, false⟩
def VLV_TOKDROP_CLR (n : Nat) : Fld := ⟨(0x8028 + 0x40 * (n % 128)), 31, 1, .wo, 0x0, false⟩
def VLV_NMCNT_NOTMOVED (n : Nat) : Fld := ⟨(0x802C + 0x40 * (n % 128)), 0, 15, .ro, 0x0, false⟩
def VLV_NMCNT_UNMEAS (n : Nat) : Fld := ⟨(0x802C + 0x40 * (n % 128)), 16, 15, .ro, 0x0, false⟩
def VLV_NMCNT_CLR (n : Nat) : Fld := ⟨(0x802C + 0x40 * (n % 128)), 31, 1, .wo, 0x0, false⟩
def VLV_SHIFTCNT_COUNT (n : Nat) : Fld := ⟨(0x8030 + 0x40 * (n % 128)), 0, 31, .ro, 0x0, false⟩
def VLV_SHIFTCNT_CLR (n : Nat) : Fld := ⟨(0x8030 + 0x40 * (n % 128)), 31, 1, .wo, 0x0, false⟩
def VLV_FLTCNT_COUNT (n : Nat) : Fld := ⟨(0x8034 + 0x40 * (n % 128)), 0, 31, .ro, 0x0, false⟩
def VLV_FLTCNT_CLR (n : Nat) : Fld := ⟨(0x8034 + 0x40 * (n % 128)), 31, 1, .wo, 0x0, false⟩
def VLV_LASTON_LO_STAMP (n : Nat) : Fld := ⟨(0x8038 + 0x40 * (n % 128)), 0, 32, .ro, 0x0, false⟩
def VLV_LASTON_HI_STAMP (n : Nat) : Fld := ⟨(0x803C + 0x40 * (n % 128)), 0, 32, .ro, 0x0, false⟩

/-- The register families of block VLV. -/
def famsVLV_0 : List RegFam := [
  ⟨"VLV_CTRL", 0x8000, 0x40, 128, 0x0, 1, [VLV_CTRL_EN 0, VLV_CTRL_PROF 0, VLV_CTRL_POLICY 0, VLV_CTRL_CLRFLT 0]⟩,
  ⟨"VLV_STAT", 0x8004, 0x40, 128, 0x0, 1, [VLV_STAT_STATE 0, VLV_STAT_CHFLT 0, VLV_STAT_FLTCAUSE 0, VLV_STAT_CWARN 0, VLV_STAT_CLIMIT 0, VLV_STAT_LASTDROP 0, VLV_STAT_UNMEAS 0, VLV_STAT_QOCC 0]⟩,
  ⟨"VLV_MOVE", 0x8008, 0x40, 128, 0x0, 1, [VLV_MOVE_SRC 0, VLV_MOVE_POS 0, VLV_MOVE_POL 0, VLV_MOVE_OPENREQ 0]⟩,
  ⟨"VLV_COIL", 0x800C, 0x40, 128, 0x0, 1, [VLV_COIL_TEMP 0, VLV_COIL_PEAK 0, VLV_COIL_CLR 0]⟩,
  ⟨"VLV_TOPEN", 0x8010, 0x40, 128, 0x0, 1, [VLV_TOPEN_LAST 0, VLV_TOPEN_MEAN 0]⟩,
  ⟨"VLV_TCLOSE", 0x8014, 0x40, 128, 0x0, 1, [VLV_TCLOSE_LAST 0, VLV_TCLOSE_MEAN 0]⟩,
  ⟨"VLV_MOVCNT", 0x8018, 0x40, 128, 0x0, 1, [VLV_MOVCNT_OPNCNT 0, VLV_MOVCNT_CLSCNT 0]⟩,
  ⟨"VLV_IMEAS", 0x801C, 0x40, 128, 0x0, 1, [VLV_IMEAS_IPK 0, VLV_IMEAS_TPK 0, VLV_IMEAS_PKTO 0, VLV_IMEAS_FB 0]⟩,
  ⟨"VLV_FIRECNT", 0x8020, 0x40, 128, 0x0, 1, [VLV_FIRECNT_COUNT 0, VLV_FIRECNT_CLR 0]⟩,
  ⟨"VLV_DROPCNT", 0x8024, 0x40, 128, 0x0, 1, [VLV_DROPCNT_COUNT 0, VLV_DROPCNT_CLR 0]⟩,
  ⟨"VLV_TOKDROP", 0x8028, 0x40, 128, 0x0, 1, [VLV_TOKDROP_COUNT 0, VLV_TOKDROP_CLR 0]⟩,
  ⟨"VLV_NMCNT", 0x802C, 0x40, 128, 0x0, 1, [VLV_NMCNT_NOTMOVED 0, VLV_NMCNT_UNMEAS 0, VLV_NMCNT_CLR 0]⟩]
def famsVLV_1 : List RegFam := [
  ⟨"VLV_SHIFTCNT", 0x8030, 0x40, 128, 0x0, 1, [VLV_SHIFTCNT_COUNT 0, VLV_SHIFTCNT_CLR 0]⟩,
  ⟨"VLV_FLTCNT", 0x8034, 0x40, 128, 0x0, 1, [VLV_FLTCNT_COUNT 0, VLV_FLTCNT_CLR 0]⟩,
  ⟨"VLV_LASTON_LO", 0x8038, 0x40, 128, 0x0, 1, [VLV_LASTON_LO_STAMP 0]⟩,
  ⟨"VLV_LASTON_HI", 0x803C, 0x40, 128, 0x0, 1, [VLV_LASTON_HI_STAMP 0]⟩]
def famsVLV : List RegFam := famsVLV_0 ++ famsVLV_1

/-! ### VBK (spec/ file 09) -/

def VBK_CTRL_EN (n : Nat) : Fld := ⟨(0xA000 + 0x80 * (n % 16)), 0, 1, .rw, 0x0, true⟩
def VBK_CTRL_CLRFLT (n : Nat) : Fld := ⟨(0xA000 + 0x80 * (n % 16)), 1, 1, .wo, 0x0, false⟩
def VBK_STAT_RAIL (n : Nat) : Fld := ⟨(0xA004 + 0x80 * (n % 16)), 0, 2, .ro, 0x0, false⟩
def VBK_STAT_BKFLT (n : Nat) : Fld := ⟨(0xA004 + 0x80 * (n % 16)), 2, 1, .ro, 0x0, false⟩
def VBK_STAT_PEAKING (n : Nat) : Fld := ⟨(0xA004 + 0x80 * (n % 16)), 8, 8, .ro, 0x0, false⟩
def VBK_STAT_HOLDING (n : Nat) : Fld := ⟨(0xA004 + 0x80 * (n % 16)), 16, 8, .ro, 0x0, false⟩
def VBK_STAT_LEADER (n : Nat) : Fld := ⟨(0xA004 + 0x80 * (n % 16)), 24, 3, .ro, 0x0, false⟩
def VBK_STAT_LEADVALID (n : Nat) : Fld := ⟨(0xA004 + 0x80 * (n % 16)), 27, 1, .ro, 0x0, false⟩
def VBK_KINK_ITHR (n : Nat) : Fld := ⟨(0xA008 + 0x80 * (n % 16)), 0, 8, .rw, 0x1E, false⟩
def VBK_KINK_VTHR (n : Nat) : Fld := ⟨(0xA008 + 0x80 * (n % 16)), 8, 12, .rw, 0x12C, false⟩
def VBK_TRCTL_CH (n : Nat) : Fld := ⟨(0xA00C + 0x80 * (n % 16)), 0, 3, .rw, 0x0, false⟩
def VBK_TRCTL_ANY (n : Nat) : Fld := ⟨(0xA00C + 0x80 * (n % 16)), 3, 1, .rw, 0x0, false⟩
def VBK_TRCTL_DIV (n : Nat) : Fld := ⟨(0xA00C + 0x80 * (n % 16)), 4, 10, .rw, 0x1, false⟩
def VBK_TRCTL_ARM (n : Nat) : Fld := ⟨(0xA00C + 0x80 * (n % 16)), 16, 1, .w1s, 0x0, false⟩
def VBK_TRCTL_DONE (n : Nat) : Fld := ⟨(0xA00C + 0x80 * (n % 16)), 17, 1, .w1c, 0x0, false⟩
def VBK_PKTOCNT_COUNT (n : Nat) : Fld := ⟨(0xA010 + 0x80 * (n % 16)), 0, 31, .ro, 0x0, false⟩
def VBK_PKTOCNT_CLR (n : Nat) : Fld := ⟨(0xA010 + 0x80 * (n % 16)), 31, 1, .wo, 0x0, false⟩
def VBK_OLCNT_COUNT (n : Nat) : Fld := ⟨(0xA014 + 0x80 * (n % 16)), 0, 31, .ro, 0x0, false⟩
def VBK_OLCNT_CLR (n : Nat) : Fld := ⟨(0xA014 + 0x80 * (n % 16)), 31, 1, .wo, 0x0, false⟩
def VBK_RSCNT_COUNT (n : Nat) : Fld := ⟨(0xA018 + 0x80 * (n % 16)), 0, 31, .ro, 0x0, false⟩
def VBK_RSCNT_CLR (n : Nat) : Fld := ⟨(0xA018 + 0x80 * (n % 16)), 31, 1, .wo, 0x0, false⟩
def VBK_PEAKMAX_MAX (n : Nat) : Fld := ⟨(0xA01C + 0x80 * (n % 16)), 0, 4, .ro, 0x0, false⟩
def VBK_PEAKMAX_CLR (n : Nat) : Fld := ⟨(0xA01C + 0x80 * (n % 16)), 31, 1, .wo, 0x0, false⟩
def VBK_TRACE_S0 (n m : Nat) : Fld := ⟨(0xA020 + 0x80 * (n % 16) + 0x4 * (m % 16)), 0, 12, .ro, 0x0, false⟩
def VBK_TRACE_S1 (n m : Nat) : Fld := ⟨(0xA020 + 0x80 * (n % 16) + 0x4 * (m % 16)), 16, 12, .ro, 0x0, false⟩

/-- The register families of block VBK. -/
def famsVBK : List RegFam := [
  ⟨"VBK_CTRL", 0xA000, 0x80, 16, 0x0, 1, [VBK_CTRL_EN 0, VBK_CTRL_CLRFLT 0]⟩,
  ⟨"VBK_STAT", 0xA004, 0x80, 16, 0x0, 1, [VBK_STAT_RAIL 0, VBK_STAT_BKFLT 0, VBK_STAT_PEAKING 0, VBK_STAT_HOLDING 0, VBK_STAT_LEADER 0, VBK_STAT_LEADVALID 0]⟩,
  ⟨"VBK_KINK", 0xA008, 0x80, 16, 0x0, 1, [VBK_KINK_ITHR 0, VBK_KINK_VTHR 0]⟩,
  ⟨"VBK_TRCTL", 0xA00C, 0x80, 16, 0x0, 1, [VBK_TRCTL_CH 0, VBK_TRCTL_ANY 0, VBK_TRCTL_DIV 0, VBK_TRCTL_ARM 0, VBK_TRCTL_DONE 0]⟩,
  ⟨"VBK_PKTOCNT", 0xA010, 0x80, 16, 0x0, 1, [VBK_PKTOCNT_COUNT 0, VBK_PKTOCNT_CLR 0]⟩,
  ⟨"VBK_OLCNT", 0xA014, 0x80, 16, 0x0, 1, [VBK_OLCNT_COUNT 0, VBK_OLCNT_CLR 0]⟩,
  ⟨"VBK_RSCNT", 0xA018, 0x80, 16, 0x0, 1, [VBK_RSCNT_COUNT 0, VBK_RSCNT_CLR 0]⟩,
  ⟨"VBK_PEAKMAX", 0xA01C, 0x80, 16, 0x0, 1, [VBK_PEAKMAX_MAX 0, VBK_PEAKMAX_CLR 0]⟩,
  ⟨"VBK_TRACE", 0xA020, 0x80, 16, 0x4, 16, [VBK_TRACE_S0 0 0, VBK_TRACE_S1 0 0]⟩]

/-! ### ARB (spec/ file 09, 10) -/

def ARB_CTRL_EN : Fld := ⟨0xA800, 0, 1, .rw, 0x0, false⟩
def ARB_STAT_TOKENS : Fld := ⟨0xA804, 0, 6, .ro, 0x0, false⟩
def ARB_STAT_FBUSED : Fld := ⟨0xA804, 6, 6, .ro, 0x0, false⟩
def ARB_STAT_NEFF : Fld := ⟨0xA804, 12, 6, .ro, 0x0, false⟩
def ARB_STAT_DIPCUT : Fld := ⟨0xA804, 18, 1, .ro, 0x0, false⟩
def ARB_STAT_VVALLOW : Fld := ⟨0xA804, 19, 1, .ro, 0x0, false⟩
def ARB_STAT_WRERR : Fld := ⟨0xA804, 20, 1, .w1c, 0x0, false⟩
def ARB_PEAKN_N : Fld := ⟨0xA808, 0, 6, .rw, 0xC, false⟩
def ARB_PEAKN_FBN : Fld := ⟨0xA808, 8, 6, .rw, 0x4, false⟩
def ARB_PEAKN_DIPN : Fld := ⟨0xA808, 16, 6, .rw, 0x2, false⟩
def ARB_WAIT_US : Fld := ⟨0xA80C, 0, 10, .rw, 0x28, false⟩
def ARB_DROOP_HI : Fld := ⟨0xA810, 0, 7, .rw, 0x5F, false⟩
def ARB_TOKMAX_MAX : Fld := ⟨0xA814, 0, 6, .ro, 0x0, false⟩
def ARB_TOKMAX_CLR : Fld := ⟨0xA814, 31, 1, .wo, 0x0, false⟩
def ARB_BOOST_SET : Fld := ⟨0xA818, 0, 10, .rw, 0x258, true⟩
def ARB_BOOST_READY : Fld := ⟨0xA818, 16, 7, .rw, 0x5A, false⟩
def ARB_BOOST_EN : Fld := ⟨0xA818, 24, 1, .rw, 0x1, false⟩
def ARB_BSTMEAS_VBST : Fld := ⟨0xA81C, 0, 10, .ro, 0x0, false⟩
def ARB_BSTMEAS_READY : Fld := ⟨0xA81C, 16, 1, .ro, 0x0, false⟩
def ARB_BSTMEAS_OV : Fld := ⟨0xA81C, 17, 1, .ro, 0x0, false⟩
def ARB_BSTMEAS_OVSEEN : Fld := ⟨0xA81C, 18, 1, .w1c, 0x0, false⟩
def ARB_COILLIM_WARN : Fld := ⟨0xA820, 0, 8, .rw, 0x82, false⟩
def ARB_COILLIM_LIMIT : Fld := ⟨0xA820, 8, 8, .rw, 0x9B, false⟩
def ARB_COILLIM_HYS : Fld := ⟨0xA820, 16, 4, .rw, 0xA, false⟩
def ARB_AMB_TAMB : Fld := ⟨0xA824, 0, 8, .rw, 0x28, false⟩
def ARB_AMB_SRC : Fld := ⟨0xA824, 8, 4, .rw, 0x0, false⟩
def ARB_PROT_IOC : Fld := ⟨0xA828, 0, 9, .rw, 0x126, false⟩
def ARB_VINLIM_MA : Fld := ⟨0xA82C, 0, 12, .rw, 0x578, false⟩
def ARB_PIXRES_MA : Fld := ⟨0xA830, 0, 12, .ro, 0x0, true⟩
def ARB_GRANT_CLUSTER : Fld := ⟨0xA834, 0, 10, .ro, 0x0, false⟩
def ARB_GRANT_TAP : Fld := ⟨0xA834, 10, 10, .ro, 0x0, false⟩
def ARB_GRANT_HEATER : Fld := ⟨0xA834, 20, 10, .ro, 0x0, false⟩
def ARB_PROF_PEAK_IPEAK (n : Nat) : Fld := ⟨(0xA900 + 0x20 * (n % 8)), 0, 8, .rw, 0x0, true⟩
def ARB_PROF_PEAK_TPMAX (n : Nat) : Fld := ⟨(0xA900 + 0x20 * (n % 8)), 8, 13, .rw, 0x0, true⟩
def ARB_PROF_PEAK_FALLBACK (n : Nat) : Fld := ⟨(0xA900 + 0x20 * (n % 8)), 21, 1, .rw, 0x0, true⟩
def ARB_PROF_HOLD_IHOLD (n : Nat) : Fld := ⟨(0xA904 + 0x20 * (n % 8)), 0, 10, .rw, 0x0, true⟩
def ARB_PROF_HOLD_FCHOP (n : Nat) : Fld := ⟨(0xA904 + 0x20 * (n % 8)), 16, 6, .rw, 0x0, true⟩
def ARB_PROF_TIME_LEAD (n : Nat) : Fld := ⟨(0xA908 + 0x20 * (n % 8)), 0, 14, .rw, 0x0, true⟩
def ARB_PROF_TIME_FBTPMAX (n : Nat) : Fld := ⟨(0xA908 + 0x20 * (n % 8)), 16, 14, .rw, 0x0, true⟩
def ARB_PROF_WIN_OWSTART (n : Nat) : Fld := ⟨(0xA90C + 0x20 * (n % 8)), 0, 8, .rw, 0x0, true⟩
def ARB_PROF_WIN_OWEND (n : Nat) : Fld := ⟨(0xA90C + 0x20 * (n % 8)), 8, 8, .rw, 0x0, true⟩
def ARB_PROF_WIN_CWSTART (n : Nat) : Fld := ⟨(0xA90C + 0x20 * (n % 8)), 16, 8, .rw, 0x0, true⟩
def ARB_PROF_WIN_CWEND (n : Nat) : Fld := ⟨(0xA90C + 0x20 * (n % 8)), 24, 8, .rw, 0x0, true⟩
def ARB_PROF_COIL_R20 (n : Nat) : Fld := ⟨(0xA910 + 0x20 * (n % 8)), 0, 12, .rw, 0x0, true⟩
def ARB_PROF_COIL_RTH (n : Nat) : Fld := ⟨(0xA910 + 0x20 * (n % 8)), 12, 12, .rw, 0x0, true⟩
def ARB_PROF_COIL_TAUTH (n : Nat) : Fld := ⟨(0xA910 + 0x20 * (n % 8)), 24, 8, .rw, 0x0, true⟩
def ARB_LYCTRL_ENERGISE : Fld := ⟨0xAA00, 0, 1, .rw, 0x0, false⟩
def ARB_LYCTRL_CLRFLT : Fld := ⟨0xAA00, 1, 1, .wo, 0x0, false⟩
def ARB_LYCFG_PROF : Fld := ⟨0xAA04, 0, 3, .rw, 0x0, true⟩
def ARB_LYCFG_SRC : Fld := ⟨0xAA04, 3, 2, .rw, 0x0, true⟩
def ARB_LYCFG_POL : Fld := ⟨0xAA04, 5, 1, .rw, 0x0, true⟩
def ARB_LYSTAT_STATE : Fld := ⟨0xAA08, 0, 3, .ro, 0x0, false⟩
def ARB_LYSTAT_FLT : Fld := ⟨0xAA08, 3, 1, .ro, 0x0, false⟩
def ARB_LYSTAT_FLTCAUSE : Fld := ⟨0xAA08, 4, 2, .ro, 0x0, false⟩
def ARB_LYSTAT_CLOSED : Fld := ⟨0xAA08, 6, 1, .ro, 0x0, false⟩
def ARB_LYSTAT_OPEN : Fld := ⟨0xAA08, 7, 1, .ro, 0x0, false⟩
def ARB_LYSTAT_CLIMIT : Fld := ⟨0xAA08, 8, 1, .ro, 0x0, false⟩
def ARB_LYSTAT_TEMP : Fld := ⟨0xAA08, 16, 12, .ro, 0x280, true⟩
def ARB_LYTIME_TCLOSED : Fld := ⟨0xAA0C, 0, 16, .ro, 0x0, false⟩
def ARB_LYTIME_TOPENED : Fld := ⟨0xAA0C, 16, 16, .ro, 0x0, false⟩

/-- The register families of block ARB. -/
def famsARB_0 : List RegFam := [
  ⟨"ARB_CTRL", 0xA800, 0x0, 1, 0x0, 1, [ARB_CTRL_EN]⟩,
  ⟨"ARB_STAT", 0xA804, 0x0, 1, 0x0, 1, [ARB_STAT_TOKENS, ARB_STAT_FBUSED, ARB_STAT_NEFF, ARB_STAT_DIPCUT, ARB_STAT_VVALLOW, ARB_STAT_WRERR]⟩,
  ⟨"ARB_PEAKN", 0xA808, 0x0, 1, 0x0, 1, [ARB_PEAKN_N, ARB_PEAKN_FBN, ARB_PEAKN_DIPN]⟩,
  ⟨"ARB_WAIT", 0xA80C, 0x0, 1, 0x0, 1, [ARB_WAIT_US]⟩,
  ⟨"ARB_DROOP", 0xA810, 0x0, 1, 0x0, 1, [ARB_DROOP_HI]⟩,
  ⟨"ARB_TOKMAX", 0xA814, 0x0, 1, 0x0, 1, [ARB_TOKMAX_MAX, ARB_TOKMAX_CLR]⟩,
  ⟨"ARB_BOOST", 0xA818, 0x0, 1, 0x0, 1, [ARB_BOOST_SET, ARB_BOOST_READY, ARB_BOOST_EN]⟩,
  ⟨"ARB_BSTMEAS", 0xA81C, 0x0, 1, 0x0, 1, [ARB_BSTMEAS_VBST, ARB_BSTMEAS_READY, ARB_BSTMEAS_OV, ARB_BSTMEAS_OVSEEN]⟩,
  ⟨"ARB_COILLIM", 0xA820, 0x0, 1, 0x0, 1, [ARB_COILLIM_WARN, ARB_COILLIM_LIMIT, ARB_COILLIM_HYS]⟩,
  ⟨"ARB_AMB", 0xA824, 0x0, 1, 0x0, 1, [ARB_AMB_TAMB, ARB_AMB_SRC]⟩,
  ⟨"ARB_PROT", 0xA828, 0x0, 1, 0x0, 1, [ARB_PROT_IOC]⟩,
  ⟨"ARB_VINLIM", 0xA82C, 0x0, 1, 0x0, 1, [ARB_VINLIM_MA]⟩]
def famsARB_1 : List RegFam := [
  ⟨"ARB_PIXRES", 0xA830, 0x0, 1, 0x0, 1, [ARB_PIXRES_MA]⟩,
  ⟨"ARB_GRANT", 0xA834, 0x0, 1, 0x0, 1, [ARB_GRANT_CLUSTER, ARB_GRANT_TAP, ARB_GRANT_HEATER]⟩,
  ⟨"ARB_PROF_PEAK", 0xA900, 0x20, 8, 0x0, 1, [ARB_PROF_PEAK_IPEAK 0, ARB_PROF_PEAK_TPMAX 0, ARB_PROF_PEAK_FALLBACK 0]⟩,
  ⟨"ARB_PROF_HOLD", 0xA904, 0x20, 8, 0x0, 1, [ARB_PROF_HOLD_IHOLD 0, ARB_PROF_HOLD_FCHOP 0]⟩,
  ⟨"ARB_PROF_TIME", 0xA908, 0x20, 8, 0x0, 1, [ARB_PROF_TIME_LEAD 0, ARB_PROF_TIME_FBTPMAX 0]⟩,
  ⟨"ARB_PROF_WIN", 0xA90C, 0x20, 8, 0x0, 1, [ARB_PROF_WIN_OWSTART 0, ARB_PROF_WIN_OWEND 0, ARB_PROF_WIN_CWSTART 0, ARB_PROF_WIN_CWEND 0]⟩,
  ⟨"ARB_PROF_COIL", 0xA910, 0x20, 8, 0x0, 1, [ARB_PROF_COIL_R20 0, ARB_PROF_COIL_RTH 0, ARB_PROF_COIL_TAUTH 0]⟩,
  ⟨"ARB_LYCTRL", 0xAA00, 0x0, 1, 0x0, 1, [ARB_LYCTRL_ENERGISE, ARB_LYCTRL_CLRFLT]⟩,
  ⟨"ARB_LYCFG", 0xAA04, 0x0, 1, 0x0, 1, [ARB_LYCFG_PROF, ARB_LYCFG_SRC, ARB_LYCFG_POL]⟩,
  ⟨"ARB_LYSTAT", 0xAA08, 0x0, 1, 0x0, 1, [ARB_LYSTAT_STATE, ARB_LYSTAT_FLT, ARB_LYSTAT_FLTCAUSE, ARB_LYSTAT_CLOSED, ARB_LYSTAT_OPEN, ARB_LYSTAT_CLIMIT, ARB_LYSTAT_TEMP]⟩,
  ⟨"ARB_LYTIME", 0xAA0C, 0x0, 1, 0x0, 1, [ARB_LYTIME_TCLOSED, ARB_LYTIME_TOPENED]⟩]
def famsARB : List RegFam := famsARB_0 ++ famsARB_1

/-! ### MEM (spec/ file 12) -/

def MEM_CTRL_TESTEN : Fld := ⟨0xB000, 0, 1, .rw, 0x1, false⟩
def MEM_CTRL_SCRUB : Fld := ⟨0xB000, 1, 1, .rw, 0x1, false⟩
def MEM_CTRL_CEEVT : Fld := ⟨0xB000, 2, 1, .rw, 0x0, false⟩
def MEM_STAT_TESTRUN : Fld := ⟨0xB004, 0, 1, .ro, 0x0, false⟩
def MEM_STAT_FAILSEEN : Fld := ⟨0xB004, 1, 1, .w1c, 0x0, false⟩
def MEM_STAT_OVLSEEN : Fld := ⟨0xB004, 2, 1, .w1c, 0x0, false⟩
def MEM_STAT_UESEEN : Fld := ⟨0xB004, 3, 1, .w1c, 0x0, false⟩
def MEM_STAT_WRERR : Fld := ⟨0xB004, 4, 1, .w1c, 0x0, false⟩
def MEM_STAT_TBLERR : Fld := ⟨0xB004, 5, 1, .w1c, 0x0, false⟩
def MEM_TESTCTL_PERIOD : Fld := ⟨0xB008, 0, 16, .rw, 0x64, false⟩
def MEM_TESTCTL_SKIPTO : Fld := ⟨0xB008, 16, 8, .rw, 0xA, false⟩
def MEM_TESTPOS_BANK : Fld := ⟨0xB00C, 0, 6, .ro, 0x0, false⟩
def MEM_TESTPOS_BIGHT : Fld := ⟨0xB00C, 8, 14, .ro, 0x0, false⟩
def MEM_TESTPOS_ACTIVE : Fld := ⟨0xB00C, 31, 1, .ro, 0x0, false⟩
def MEM_TESTMASK_LO_EN : Fld := ⟨0xB010, 0, 32, .rw, 0xFFFFFFFF, false⟩
def MEM_TESTMASK_HI_EN : Fld := ⟨0xB014, 0, 25, .rw, 0x1FFFFFF, false⟩
def MEM_TESTPASS_COUNT : Fld := ⟨0xB018, 0, 32, .ro, 0x0, false⟩
def MEM_TESTABORTS_COUNT : Fld := ⟨0xB01C, 0, 31, .ro, 0x0, false⟩
def MEM_TESTABORTS_CLR : Fld := ⟨0xB01C, 31, 1, .wo, 0x0, false⟩
def MEM_TESTSKIP_COUNT : Fld := ⟨0xB020, 0, 31, .ro, 0x0, false⟩
def MEM_TESTSKIP_CLR : Fld := ⟨0xB020, 31, 1, .wo, 0x0, false⟩
def MEM_TESTFAIL_COUNT : Fld := ⟨0xB024, 0, 31, .ro, 0x0, false⟩
def MEM_TESTFAIL_CLR : Fld := ⟨0xB024, 31, 1, .wo, 0x0, false⟩
def MEM_FAILADDR_BANK : Fld := ⟨0xB028, 0, 6, .ro, 0x0, false⟩
def MEM_FAILADDR_BIGHT : Fld := ⟨0xB028, 6, 14, .ro, 0x0, false⟩
def MEM_FAILADDR_BIT : Fld := ⟨0xB028, 20, 7, .ro, 0x0, false⟩
def MEM_FAILADDR_VALID : Fld := ⟨0xB028, 31, 1, .ro, 0x0, false⟩
def MEM_OVLCNT_COUNT : Fld := ⟨0xB02C, 0, 31, .ro, 0x0, false⟩
def MEM_OVLCNT_CLR : Fld := ⟨0xB02C, 31, 1, .wo, 0x0, false⟩
def MEM_OVLLAST_WORD : Fld := ⟨0xB030, 0, 18, .ro, 0x0, false⟩
def MEM_OVLLAST_BANK : Fld := ⟨0xB030, 18, 6, .ro, 0x0, false⟩
def MEM_OVLLAST_FIRST : Fld := ⟨0xB030, 24, 3, .ro, 0x0, false⟩
def MEM_OVLLAST_LAST : Fld := ⟨0xB030, 27, 3, .ro, 0x0, false⟩
def MEM_ERRADDR_WORD : Fld := ⟨0xB034, 0, 18, .ro, 0x0, false⟩
def MEM_ERRADDR_BANK : Fld := ⟨0xB034, 18, 6, .ro, 0x0, false⟩
def MEM_ERRADDR_PORT : Fld := ⟨0xB034, 24, 3, .ro, 0x0, false⟩
def MEM_ERRADDR_VALID : Fld := ⟨0xB034, 31, 1, .ro, 0x0, false⟩
def MEM_ERRTIME_LO_STAMP : Fld := ⟨0xB038, 0, 32, .ro, 0x0, false⟩
def MEM_ERRTIME_HI_STAMP : Fld := ⟨0xB03C, 0, 32, .ro, 0x0, false⟩
def MEM_RETCTL_PB : Fld := ⟨0xB040, 0, 1, .rw, 0x0, false⟩
def MEM_RETCTL_UB : Fld := ⟨0xB040, 1, 1, .rw, 0x0, false⟩
def MEM_RETCTL_BB : Fld := ⟨0xB040, 2, 1, .rw, 0x0, false⟩
def MEM_RETCTL_KB : Fld := ⟨0xB040, 3, 1, .rw, 0x0, false⟩
def MEM_RETCTL_SP : Fld := ⟨0xB040, 4, 4, .rw, 0x0, false⟩
def MEM_RETSTAT_RET : Fld := ⟨0xB044, 0, 8, .ro, 0x0, false⟩
def MEM_RETSTAT_WAKES : Fld := ⟨0xB044, 16, 16, .ro, 0x0, false⟩
def MEM_DDRCTL_IECC : Fld := ⟨0xB050, 0, 1, .rw, 0x0, true⟩
def MEM_DDRCTL_TAPSHARE : Fld := ⟨0xB050, 4, 8, .rw, 0x19, false⟩
def MEM_DDRSTAT_TRAINED : Fld := ⟨0xB054, 0, 1, .ro, 0x0, false⟩
def MEM_DDRSTAT_SELFREF : Fld := ⟨0xB054, 1, 1, .ro, 0x0, false⟩
def MEM_DDRSTAT_IECCACT : Fld := ⟨0xB054, 2, 1, .ro, 0x0, false⟩
def MEM_DDRSTAT_CAPMB : Fld := ⟨0xB054, 16, 16, .ro, 0x0, false⟩
def MEM_DDRECC_CE : Fld := ⟨0xB058, 0, 16, .ro, 0x0, false⟩
def MEM_DDRECC_UE : Fld := ⟨0xB058, 16, 15, .ro, 0x0, false⟩
def MEM_DDRECC_CLR : Fld := ⟨0xB058, 31, 1, .wo, 0x0, false⟩
def MEM_ECC_CE (n : Nat) : Fld := ⟨(0xB100 + 0x4 * (n % 58)), 0, 16, .ro, 0x0, false⟩
def MEM_ECC_UE (n : Nat) : Fld := ⟨(0xB100 + 0x4 * (n % 58)), 16, 15, .ro, 0x0, false⟩
def MEM_ECC_CLR (n : Nat) : Fld := ⟨(0xB100 + 0x4 * (n % 58)), 31, 1, .wo, 0x0, false⟩

/-- The register families of block MEM. -/
def famsMEM_0 : List RegFam := [
  ⟨"MEM_CTRL", 0xB000, 0x0, 1, 0x0, 1, [MEM_CTRL_TESTEN, MEM_CTRL_SCRUB, MEM_CTRL_CEEVT]⟩,
  ⟨"MEM_STAT", 0xB004, 0x0, 1, 0x0, 1, [MEM_STAT_TESTRUN, MEM_STAT_FAILSEEN, MEM_STAT_OVLSEEN, MEM_STAT_UESEEN, MEM_STAT_WRERR, MEM_STAT_TBLERR]⟩,
  ⟨"MEM_TESTCTL", 0xB008, 0x0, 1, 0x0, 1, [MEM_TESTCTL_PERIOD, MEM_TESTCTL_SKIPTO]⟩,
  ⟨"MEM_TESTPOS", 0xB00C, 0x0, 1, 0x0, 1, [MEM_TESTPOS_BANK, MEM_TESTPOS_BIGHT, MEM_TESTPOS_ACTIVE]⟩,
  ⟨"MEM_TESTMASK_LO", 0xB010, 0x0, 1, 0x0, 1, [MEM_TESTMASK_LO_EN]⟩,
  ⟨"MEM_TESTMASK_HI", 0xB014, 0x0, 1, 0x0, 1, [MEM_TESTMASK_HI_EN]⟩,
  ⟨"MEM_TESTPASS", 0xB018, 0x0, 1, 0x0, 1, [MEM_TESTPASS_COUNT]⟩,
  ⟨"MEM_TESTABORTS", 0xB01C, 0x0, 1, 0x0, 1, [MEM_TESTABORTS_COUNT, MEM_TESTABORTS_CLR]⟩,
  ⟨"MEM_TESTSKIP", 0xB020, 0x0, 1, 0x0, 1, [MEM_TESTSKIP_COUNT, MEM_TESTSKIP_CLR]⟩,
  ⟨"MEM_TESTFAIL", 0xB024, 0x0, 1, 0x0, 1, [MEM_TESTFAIL_COUNT, MEM_TESTFAIL_CLR]⟩,
  ⟨"MEM_FAILADDR", 0xB028, 0x0, 1, 0x0, 1, [MEM_FAILADDR_BANK, MEM_FAILADDR_BIGHT, MEM_FAILADDR_BIT, MEM_FAILADDR_VALID]⟩,
  ⟨"MEM_OVLCNT", 0xB02C, 0x0, 1, 0x0, 1, [MEM_OVLCNT_COUNT, MEM_OVLCNT_CLR]⟩]
def famsMEM_1 : List RegFam := [
  ⟨"MEM_OVLLAST", 0xB030, 0x0, 1, 0x0, 1, [MEM_OVLLAST_WORD, MEM_OVLLAST_BANK, MEM_OVLLAST_FIRST, MEM_OVLLAST_LAST]⟩,
  ⟨"MEM_ERRADDR", 0xB034, 0x0, 1, 0x0, 1, [MEM_ERRADDR_WORD, MEM_ERRADDR_BANK, MEM_ERRADDR_PORT, MEM_ERRADDR_VALID]⟩,
  ⟨"MEM_ERRTIME_LO", 0xB038, 0x0, 1, 0x0, 1, [MEM_ERRTIME_LO_STAMP]⟩,
  ⟨"MEM_ERRTIME_HI", 0xB03C, 0x0, 1, 0x0, 1, [MEM_ERRTIME_HI_STAMP]⟩,
  ⟨"MEM_RETCTL", 0xB040, 0x0, 1, 0x0, 1, [MEM_RETCTL_PB, MEM_RETCTL_UB, MEM_RETCTL_BB, MEM_RETCTL_KB, MEM_RETCTL_SP]⟩,
  ⟨"MEM_RETSTAT", 0xB044, 0x0, 1, 0x0, 1, [MEM_RETSTAT_RET, MEM_RETSTAT_WAKES]⟩,
  ⟨"MEM_DDRCTL", 0xB050, 0x0, 1, 0x0, 1, [MEM_DDRCTL_IECC, MEM_DDRCTL_TAPSHARE]⟩,
  ⟨"MEM_DDRSTAT", 0xB054, 0x0, 1, 0x0, 1, [MEM_DDRSTAT_TRAINED, MEM_DDRSTAT_SELFREF, MEM_DDRSTAT_IECCACT, MEM_DDRSTAT_CAPMB]⟩,
  ⟨"MEM_DDRECC", 0xB058, 0x0, 1, 0x0, 1, [MEM_DDRECC_CE, MEM_DDRECC_UE, MEM_DDRECC_CLR]⟩,
  ⟨"MEM_ECC", 0xB100, 0x4, 58, 0x0, 1, [MEM_ECC_CE 0, MEM_ECC_UE 0, MEM_ECC_CLR 0]⟩]
def famsMEM : List RegFam := famsMEM_0 ++ famsMEM_1

/-! ### SSP (spec/ file 15) -/

def SSP_CTRL_EN : Fld := ⟨0xB800, 0, 1, .rw, 0x1, false⟩
def SSP_CTRL_EVTMASK : Fld := ⟨0xB800, 8, 6, .rw, 0x3F, false⟩
def SSP_STAT_ERRSEEN : Fld := ⟨0xB804, 0, 1, .w1c, 0x0, false⟩
def SSP_STAT_ENDSEEN : Fld := ⟨0xB804, 1, 1, .w1c, 0x0, false⟩
def SSP_STAT_COLLSEEN : Fld := ⟨0xB804, 2, 1, .w1c, 0x0, false⟩
def SSP_STAT_MODE3 : Fld := ⟨0xB804, 4, 1, .ro, 0x0, false⟩
def SSP_STAT_LASTERR : Fld := ⟨0xB804, 5, 3, .ro, 0x0, false⟩
def SSP_FRAMECNT_COUNT : Fld := ⟨0xB808, 0, 31, .ro, 0x0, false⟩
def SSP_FRAMECNT_CLR : Fld := ⟨0xB808, 31, 1, .wo, 0x0, false⟩
def SSP_ERRCNT_COUNT : Fld := ⟨0xB80C, 0, 31, .ro, 0x0, false⟩
def SSP_ERRCNT_CLR : Fld := ⟨0xB80C, 31, 1, .wo, 0x0, false⟩
def SSP_RXDROP_COUNT : Fld := ⟨0xB810, 0, 31, .ro, 0x0, false⟩
def SSP_RXDROP_CLR : Fld := ⟨0xB810, 31, 1, .wo, 0x0, false⟩
def SSP_BOX_INSLOTS : Fld := ⟨0xB814, 0, 2, .ro, 0x0, false⟩
def SSP_BOX_ABSLOT : Fld := ⟨0xB814, 2, 1, .ro, 0x0, false⟩
def SSP_BOX_OUTBYTES : Fld := ⟨0xB814, 16, 13, .ro, 0x0, false⟩

/-- The register families of block SSP. -/
def famsSSP : List RegFam := [
  ⟨"SSP_CTRL", 0xB800, 0x0, 1, 0x0, 1, [SSP_CTRL_EN, SSP_CTRL_EVTMASK]⟩,
  ⟨"SSP_STAT", 0xB804, 0x0, 1, 0x0, 1, [SSP_STAT_ERRSEEN, SSP_STAT_ENDSEEN, SSP_STAT_COLLSEEN, SSP_STAT_MODE3, SSP_STAT_LASTERR]⟩,
  ⟨"SSP_FRAMECNT", 0xB808, 0x0, 1, 0x0, 1, [SSP_FRAMECNT_COUNT, SSP_FRAMECNT_CLR]⟩,
  ⟨"SSP_ERRCNT", 0xB80C, 0x0, 1, 0x0, 1, [SSP_ERRCNT_COUNT, SSP_ERRCNT_CLR]⟩,
  ⟨"SSP_RXDROP", 0xB810, 0x0, 1, 0x0, 1, [SSP_RXDROP_COUNT, SSP_RXDROP_CLR]⟩,
  ⟨"SSP_BOX", 0xB814, 0x0, 1, 0x0, 1, [SSP_BOX_INSLOTS, SSP_BOX_ABSLOT, SSP_BOX_OUTBYTES]⟩]

/-! ### FLS (spec/ file 15) -/

def FLS_CTRL_DIV : Fld := ⟨0xB900, 0, 4, .rw, 0x2, true⟩
def FLS_CTRL_SEQ : Fld := ⟨0xB900, 4, 1, .rw, 0x1, false⟩
def FLS_STAT_READ : Fld := ⟨0xB904, 0, 2, .ro, 0x0, false⟩
def FLS_STAT_ADDR4 : Fld := ⟨0xB904, 2, 1, .ro, 0x0, false⟩
def FLS_STAT_CONT : Fld := ⟨0xB904, 3, 1, .ro, 0x0, false⟩
def FLS_STAT_BUSY : Fld := ⟨0xB904, 4, 1, .ro, 0x0, false⟩
def FLS_STAT_SUSPOK : Fld := ⟨0xB904, 5, 1, .ro, 0x0, false⟩
def FLS_STAT_DISCERR : Fld := ⟨0xB904, 6, 1, .ro, 0x0, false⟩
def FLS_STAT_RANGE : Fld := ⟨0xB904, 7, 1, .w1c, 0x0, false⟩
def FLS_STAT_SUSPSEEN : Fld := ⟨0xB904, 8, 1, .w1c, 0x0, false⟩
def FLS_STAT_WAITSEEN : Fld := ⟨0xB904, 9, 1, .w1c, 0x0, false⟩
def FLS_STAT_WRERR : Fld := ⟨0xB904, 10, 1, .w1c, 0x0, false⟩
def FLS_ID_JEDEC : Fld := ⟨0xB908, 0, 24, .ro, 0x0, false⟩
def FLS_SIZE_MIB : Fld := ⟨0xB90C, 0, 8, .ro, 0x0, false⟩
def FLS_HITCNT_COUNT : Fld := ⟨0xB910, 0, 31, .ro, 0x0, false⟩
def FLS_HITCNT_CLR : Fld := ⟨0xB910, 31, 1, .wo, 0x0, false⟩
def FLS_MISSCNT_COUNT : Fld := ⟨0xB914, 0, 31, .ro, 0x0, false⟩
def FLS_MISSCNT_CLR : Fld := ⟨0xB914, 31, 1, .wo, 0x0, false⟩
def FLS_ERRCNT_COUNT : Fld := ⟨0xB918, 0, 31, .ro, 0x0, false⟩
def FLS_ERRCNT_CLR : Fld := ⟨0xB918, 31, 1, .wo, 0x0, false⟩

/-- The register families of block FLS. -/
def famsFLS : List RegFam := [
  ⟨"FLS_CTRL", 0xB900, 0x0, 1, 0x0, 1, [FLS_CTRL_DIV, FLS_CTRL_SEQ]⟩,
  ⟨"FLS_STAT", 0xB904, 0x0, 1, 0x0, 1, [FLS_STAT_READ, FLS_STAT_ADDR4, FLS_STAT_CONT, FLS_STAT_BUSY, FLS_STAT_SUSPOK, FLS_STAT_DISCERR, FLS_STAT_RANGE, FLS_STAT_SUSPSEEN, FLS_STAT_WAITSEEN, FLS_STAT_WRERR]⟩,
  ⟨"FLS_ID", 0xB908, 0x0, 1, 0x0, 1, [FLS_ID_JEDEC]⟩,
  ⟨"FLS_SIZE", 0xB90C, 0x0, 1, 0x0, 1, [FLS_SIZE_MIB]⟩,
  ⟨"FLS_HITCNT", 0xB910, 0x0, 1, 0x0, 1, [FLS_HITCNT_COUNT, FLS_HITCNT_CLR]⟩,
  ⟨"FLS_MISSCNT", 0xB914, 0x0, 1, 0x0, 1, [FLS_MISSCNT_COUNT, FLS_MISSCNT_CLR]⟩,
  ⟨"FLS_ERRCNT", 0xB918, 0x0, 1, 0x0, 1, [FLS_ERRCNT_COUNT, FLS_ERRCNT_CLR]⟩]

end Sys2Proof.Machine.Reg
end

