-- ==== Sys2Proof/Machine/RegsD.lean ====
section
/-! DEFINITION. The registers of the blocks ETH, CHN, LOOP, TMX, MBX: the fields of the spec's field tables, bit for bit, and one
table row for each register family (R12, R13, R342). An index is read modulo its count. -/

namespace Sys2Proof.Machine.Reg

/-! ### ETH (spec/ file 14) -/

def ETH_CTRL_EN : Fld := ⟨0xC000, 0, 1, .rw, 0x1, false⟩
def ETH_CTRL_DHCP : Fld := ⟨0xC000, 1, 1, .rw, 0x0, true⟩
def ETH_CTRL_AUTHUDP : Fld := ⟨0xC000, 2, 1, .rw, 0x0, true⟩
def ETH_CTRL_AUTHSSP : Fld := ⟨0xC000, 3, 1, .rw, 0x0, false⟩
def ETH_CTRL_AUTHMBX : Fld := ⟨0xC000, 4, 1, .rw, 0x0, false⟩
def ETH_CTRL_IDLE : Fld := ⟨0xC000, 8, 8, .rw, 0x1E, false⟩
def ETH_STAT_LINK : Fld := ⟨0xC004, 0, 1, .ro, 0x0, false⟩
def ETH_STAT_SPEED : Fld := ⟨0xC004, 1, 2, .ro, 0x0, false⟩
def ETH_STAT_FDX : Fld := ⟨0xC004, 3, 1, .ro, 0x0, false⟩
def ETH_STAT_BOUND : Fld := ⟨0xC004, 4, 1, .ro, 0x0, false⟩
def ETH_STAT_RXERR : Fld := ⟨0xC004, 5, 1, .w1c, 0x0, false⟩
def ETH_STAT_KEYSET : Fld := ⟨0xC004, 6, 1, .ro, 0x0, true⟩
def ETH_STAT_SESSIONS : Fld := ⟨0xC004, 8, 4, .ro, 0x0, false⟩
def ETH_MAC_LO_MAC : Fld := ⟨0xC008, 0, 32, .ro, 0x0, true⟩
def ETH_MAC_HI_MAC : Fld := ⟨0xC00C, 0, 16, .ro, 0x0, true⟩
def ETH_IP_ADDR : Fld := ⟨0xC010, 0, 32, .rw, 0x0, true⟩
def ETH_MASK_ADDR : Fld := ⟨0xC014, 0, 32, .rw, 0x0, true⟩
def ETH_GW_ADDR : Fld := ⟨0xC018, 0, 32, .rw, 0x0, true⟩
def ETH_RGMII_TXDLY : Fld := ⟨0xC01C, 0, 4, .rw, 0x8, true⟩
def ETH_RGMII_RXDLY : Fld := ⟨0xC01C, 4, 4, .rw, 0x0, true⟩
def ETH_MDIOCMD_PHYAD : Fld := ⟨0xC020, 0, 5, .rw, 0x0, true⟩
def ETH_MDIOCMD_REG : Fld := ⟨0xC020, 5, 5, .rw, 0x0, false⟩
def ETH_MDIOCMD_OP : Fld := ⟨0xC020, 10, 1, .rw, 0x0, false⟩
def ETH_MDIOCMD_GO : Fld := ⟨0xC020, 11, 1, .wo, 0x0, false⟩
def ETH_MDIOCMD_BUSY : Fld := ⟨0xC020, 12, 1, .ro, 0x0, false⟩
def ETH_MDIOCMD_DATA : Fld := ⟨0xC020, 16, 16, .rw, 0x0, false⟩
def ETH_RXCNT_COUNT : Fld := ⟨0xC030, 0, 31, .ro, 0x0, false⟩
def ETH_RXCNT_CLR : Fld := ⟨0xC030, 31, 1, .wo, 0x0, false⟩
def ETH_TXCNT_COUNT : Fld := ⟨0xC034, 0, 31, .ro, 0x0, false⟩
def ETH_TXCNT_CLR : Fld := ⟨0xC034, 31, 1, .wo, 0x0, false⟩
def ETH_RXERRCNT_COUNT : Fld := ⟨0xC038, 0, 31, .ro, 0x0, false⟩
def ETH_RXERRCNT_CLR : Fld := ⟨0xC038, 31, 1, .wo, 0x0, false⟩
def ETH_DROPCNT_COUNT : Fld := ⟨0xC03C, 0, 31, .ro, 0x0, false⟩
def ETH_DROPCNT_CLR : Fld := ⟨0xC03C, 31, 1, .wo, 0x0, false⟩
def ETH_BAINDCNT_COUNT : Fld := ⟨0xC040, 0, 31, .ro, 0x0, false⟩
def ETH_BAINDCNT_CLR : Fld := ⟨0xC040, 31, 1, .wo, 0x0, false⟩
def ETH_BAINDERR_COUNT : Fld := ⟨0xC044, 0, 31, .ro, 0x0, false⟩
def ETH_BAINDERR_CLR : Fld := ⟨0xC044, 31, 1, .wo, 0x0, false⟩
def ETH_AUTHFAIL_COUNT : Fld := ⟨0xC048, 0, 31, .ro, 0x0, false⟩
def ETH_AUTHFAIL_CLR : Fld := ⟨0xC048, 31, 1, .wo, 0x0, false⟩
def ETH_PTPCTL_EN : Fld := ⟨0xC050, 0, 1, .rw, 0x0, true⟩
def ETH_PTPCTL_L2 : Fld := ⟨0xC050, 1, 1, .rw, 0x0, true⟩
def ETH_PTPCTL_DOMAIN : Fld := ⟨0xC050, 2, 8, .rw, 0x0, true⟩
def ETH_PTPCTL_REOFS : Fld := ⟨0xC050, 10, 1, .wo, 0x0, false⟩
def ETH_PTPCTL_LOCKTH : Fld := ⟨0xC050, 16, 8, .rw, 0xA, false⟩
def ETH_PTPSTAT_LOCK : Fld := ⟨0xC054, 0, 1, .ro, 0x0, false⟩
def ETH_PTPSTAT_ACTIVE : Fld := ⟨0xC054, 1, 1, .ro, 0x0, false⟩
def ETH_PTPSTAT_OFSVALID : Fld := ⟨0xC054, 2, 1, .ro, 0x0, false⟩
def ETH_PTPSTAT_LOSTSEEN : Fld := ⟨0xC054, 3, 1, .w1c, 0x0, false⟩
def ETH_PTPSTAT_ADJ : Fld := ⟨0xC054, 16, 16, .ro, 0x0, false⟩
def ETH_PTPOFS_LO_OFS : Fld := ⟨0xC058, 0, 32, .ro, 0x0, false⟩
def ETH_PTPOFS_HI_OFS : Fld := ⟨0xC05C, 0, 32, .ro, 0x0, false⟩
def ETH_PTPRES_RES : Fld := ⟨0xC060, 0, 32, .ro, 0x0, false⟩
def ETH_PTPLAT_RX : Fld := ⟨0xC064, 0, 16, .rw, 0x0, true⟩
def ETH_PTPLAT_TX : Fld := ⟨0xC064, 16, 16, .rw, 0x0, true⟩
def ETH_TAPCTL_EN : Fld := ⟨0xC080, 0, 1, .rw, 0x0, false⟩
def ETH_TAPCTL_SRC : Fld := ⟨0xC080, 1, 2, .rw, 0x0, false⟩
def ETH_TAPCTL_HYP : Fld := ⟨0xC080, 3, 3, .rw, 0x1, false⟩
def ETH_TAPCTL_FMT : Fld := ⟨0xC080, 6, 1, .rw, 0x0, false⟩
def ETH_TAPCTL_DECIM : Fld := ⟨0xC080, 8, 12, .rw, 0x1, false⟩
def ETH_TAPCTL_BUSY : Fld := ⟨0xC080, 20, 1, .ro, 0x0, false⟩
def ETH_TAPLANES_FIRST : Fld := ⟨0xC084, 0, 11, .rw, 0x0, false⟩
def ETH_TAPLANES_COUNT : Fld := ⟨0xC084, 16, 12, .rw, 0x800, false⟩
def ETH_TAPBASE_OFS : Fld := ⟨0xC088, 0, 30, .rw, 0x30000000, false⟩
def ETH_TAPSIZE_BYTES : Fld := ⟨0xC08C, 0, 30, .rw, 0x4000000, false⟩
def ETH_TAPWR_INDEX : Fld := ⟨0xC090, 0, 32, .ro, 0x0, false⟩
def ETH_TAPRD_INDEX : Fld := ⟨0xC094, 0, 32, .rw, 0x0, false⟩
def ETH_TAPSTAT_RECSIZE : Fld := ⟨0xC098, 0, 24, .ro, 0x0, false⟩
def ETH_TAPSTAT_HALT : Fld := ⟨0xC098, 24, 1, .ro, 0x0, false⟩
def ETH_TAPSTAT_OVRSEEN : Fld := ⟨0xC098, 25, 1, .w1c, 0x0, false⟩
def ETH_TAPDROP_OVERRUN : Fld := ⟨0xC09C, 0, 16, .ro, 0x0, false⟩
def ETH_TAPDROP_MISSED : Fld := ⟨0xC09C, 16, 15, .ro, 0x0, false⟩
def ETH_TAPDROP_CLR : Fld := ⟨0xC09C, 31, 1, .wo, 0x0, false⟩

/-- The register families of block ETH. -/
def famsETH_0 : List RegFam := [
  ⟨"ETH_CTRL", 0xC000, 0x0, 1, 0x0, 1, [ETH_CTRL_EN, ETH_CTRL_DHCP, ETH_CTRL_AUTHUDP, ETH_CTRL_AUTHSSP, ETH_CTRL_AUTHMBX, ETH_CTRL_IDLE]⟩,
  ⟨"ETH_STAT", 0xC004, 0x0, 1, 0x0, 1, [ETH_STAT_LINK, ETH_STAT_SPEED, ETH_STAT_FDX, ETH_STAT_BOUND, ETH_STAT_RXERR, ETH_STAT_KEYSET, ETH_STAT_SESSIONS]⟩,
  ⟨"ETH_MAC_LO", 0xC008, 0x0, 1, 0x0, 1, [ETH_MAC_LO_MAC]⟩,
  ⟨"ETH_MAC_HI", 0xC00C, 0x0, 1, 0x0, 1, [ETH_MAC_HI_MAC]⟩,
  ⟨"ETH_IP", 0xC010, 0x0, 1, 0x0, 1, [ETH_IP_ADDR]⟩,
  ⟨"ETH_MASK", 0xC014, 0x0, 1, 0x0, 1, [ETH_MASK_ADDR]⟩,
  ⟨"ETH_GW", 0xC018, 0x0, 1, 0x0, 1, [ETH_GW_ADDR]⟩,
  ⟨"ETH_RGMII", 0xC01C, 0x0, 1, 0x0, 1, [ETH_RGMII_TXDLY, ETH_RGMII_RXDLY]⟩,
  ⟨"ETH_MDIOCMD", 0xC020, 0x0, 1, 0x0, 1, [ETH_MDIOCMD_PHYAD, ETH_MDIOCMD_REG, ETH_MDIOCMD_OP, ETH_MDIOCMD_GO, ETH_MDIOCMD_BUSY, ETH_MDIOCMD_DATA]⟩,
  ⟨"ETH_RXCNT", 0xC030, 0x0, 1, 0x0, 1, [ETH_RXCNT_COUNT, ETH_RXCNT_CLR]⟩,
  ⟨"ETH_TXCNT", 0xC034, 0x0, 1, 0x0, 1, [ETH_TXCNT_COUNT, ETH_TXCNT_CLR]⟩,
  ⟨"ETH_RXERRCNT", 0xC038, 0x0, 1, 0x0, 1, [ETH_RXERRCNT_COUNT, ETH_RXERRCNT_CLR]⟩]
def famsETH_1 : List RegFam := [
  ⟨"ETH_DROPCNT", 0xC03C, 0x0, 1, 0x0, 1, [ETH_DROPCNT_COUNT, ETH_DROPCNT_CLR]⟩,
  ⟨"ETH_BAINDCNT", 0xC040, 0x0, 1, 0x0, 1, [ETH_BAINDCNT_COUNT, ETH_BAINDCNT_CLR]⟩,
  ⟨"ETH_BAINDERR", 0xC044, 0x0, 1, 0x0, 1, [ETH_BAINDERR_COUNT, ETH_BAINDERR_CLR]⟩,
  ⟨"ETH_AUTHFAIL", 0xC048, 0x0, 1, 0x0, 1, [ETH_AUTHFAIL_COUNT, ETH_AUTHFAIL_CLR]⟩,
  ⟨"ETH_PTPCTL", 0xC050, 0x0, 1, 0x0, 1, [ETH_PTPCTL_EN, ETH_PTPCTL_L2, ETH_PTPCTL_DOMAIN, ETH_PTPCTL_REOFS, ETH_PTPCTL_LOCKTH]⟩,
  ⟨"ETH_PTPSTAT", 0xC054, 0x0, 1, 0x0, 1, [ETH_PTPSTAT_LOCK, ETH_PTPSTAT_ACTIVE, ETH_PTPSTAT_OFSVALID, ETH_PTPSTAT_LOSTSEEN, ETH_PTPSTAT_ADJ]⟩,
  ⟨"ETH_PTPOFS_LO", 0xC058, 0x0, 1, 0x0, 1, [ETH_PTPOFS_LO_OFS]⟩,
  ⟨"ETH_PTPOFS_HI", 0xC05C, 0x0, 1, 0x0, 1, [ETH_PTPOFS_HI_OFS]⟩,
  ⟨"ETH_PTPRES", 0xC060, 0x0, 1, 0x0, 1, [ETH_PTPRES_RES]⟩,
  ⟨"ETH_PTPLAT", 0xC064, 0x0, 1, 0x0, 1, [ETH_PTPLAT_RX, ETH_PTPLAT_TX]⟩,
  ⟨"ETH_TAPCTL", 0xC080, 0x0, 1, 0x0, 1, [ETH_TAPCTL_EN, ETH_TAPCTL_SRC, ETH_TAPCTL_HYP, ETH_TAPCTL_FMT, ETH_TAPCTL_DECIM, ETH_TAPCTL_BUSY]⟩,
  ⟨"ETH_TAPLANES", 0xC084, 0x0, 1, 0x0, 1, [ETH_TAPLANES_FIRST, ETH_TAPLANES_COUNT]⟩]
def famsETH_2 : List RegFam := [
  ⟨"ETH_TAPBASE", 0xC088, 0x0, 1, 0x0, 1, [ETH_TAPBASE_OFS]⟩,
  ⟨"ETH_TAPSIZE", 0xC08C, 0x0, 1, 0x0, 1, [ETH_TAPSIZE_BYTES]⟩,
  ⟨"ETH_TAPWR", 0xC090, 0x0, 1, 0x0, 1, [ETH_TAPWR_INDEX]⟩,
  ⟨"ETH_TAPRD", 0xC094, 0x0, 1, 0x0, 1, [ETH_TAPRD_INDEX]⟩,
  ⟨"ETH_TAPSTAT", 0xC098, 0x0, 1, 0x0, 1, [ETH_TAPSTAT_RECSIZE, ETH_TAPSTAT_HALT, ETH_TAPSTAT_OVRSEEN]⟩,
  ⟨"ETH_TAPDROP", 0xC09C, 0x0, 1, 0x0, 1, [ETH_TAPDROP_OVERRUN, ETH_TAPDROP_MISSED, ETH_TAPDROP_CLR]⟩]
def famsETH : List RegFam := famsETH_0 ++ famsETH_1 ++ famsETH_2

/-! ### CHN (spec/ file 16) -/

def CHN_CTRL_TAKEMST : Fld := ⟨0xC800, 0, 1, .wo, 0x0, false⟩
def CHN_CTRL_RESYNC : Fld := ⟨0xC800, 1, 1, .wo, 0x0, false⟩
def CHN_STAT_STATE : Fld := ⟨0xC804, 0, 2, .ro, 0x3, false⟩
def CHN_STAT_INDEX : Fld := ⟨0xC804, 4, 3, .ro, 0x0, false⟩
def CHN_STAT_MSTIDX : Fld := ⟨0xC804, 8, 3, .ro, 0x0, false⟩
def CHN_STAT_STRAP : Fld := ⟨0xC804, 11, 1, .ro, 0x0, true⟩
def CHN_STAT_MEMBERS : Fld := ⟨0xC804, 16, 8, .ro, 0x0, false⟩
def CHN_STAT_LLINK : Fld := ⟨0xC804, 24, 1, .ro, 0x0, false⟩
def CHN_STAT_HLINK : Fld := ⟨0xC804, 25, 1, .ro, 0x0, false⟩
def CHN_STAT_HITCH : Fld := ⟨0xC804, 26, 1, .ro, 0x0, false⟩
def CHN_STAT_MSTCONF : Fld := ⟨0xC804, 27, 1, .w1c, 0x0, false⟩
def CHN_STAT_SPLICEERR : Fld := ⟨0xC804, 28, 1, .w1c, 0x0, false⟩
def CHN_CFG_SIZE : Fld := ⟨0xC808, 0, 4, .rw, 0x1, true⟩
def CHN_SPLICE_LW : Fld := ⟨0xC80C, 0, 8, .rw, 0x0, true⟩
def CHN_SPLICE_HW : Fld := ⟨0xC80C, 8, 8, .rw, 0x0, true⟩
def CHN_OFFSET_LANE0 : Fld := ⟨0xC810, 0, 14, .ro, 0x0, false⟩
def CHN_GRANTCFG_GAP : Fld := ⟨0xC814, 0, 8, .rw, 0x14, false⟩
def CHN_GRANTCFG_MAX : Fld := ⟨0xC814, 8, 16, .rw, 0x7D0, false⟩
def CHN_GRANTSTAT_HOLDER : Fld := ⟨0xC818, 0, 3, .ro, 0x0, false⟩
def CHN_GRANTSTAT_HELD : Fld := ⟨0xC818, 3, 1, .ro, 0x0, false⟩
def CHN_GRANTSTAT_QUEUE : Fld := ⟨0xC818, 8, 8, .ro, 0x0, false⟩
def CHN_DELAY_L : Fld := ⟨0xC81C, 0, 16, .ro, 0x0, false⟩
def CHN_DELAY_H : Fld := ⟨0xC81C, 16, 16, .ro, 0x0, false⟩
def CHN_HITCHD_D : Fld := ⟨0xC820, 0, 32, .ro, 0x0, false⟩
def CHN_HITCHCNT_COUNT : Fld := ⟨0xC824, 0, 31, .ro, 0x0, false⟩
def CHN_HITCHCNT_CLR : Fld := ⟨0xC824, 31, 1, .wo, 0x0, false⟩
def CHN_ORPHANCNT_COUNT : Fld := ⟨0xC828, 0, 31, .ro, 0x0, false⟩
def CHN_ORPHANCNT_CLR : Fld := ⟨0xC828, 31, 1, .wo, 0x0, false⟩
def CHN_SPLTX_COUNT : Fld := ⟨0xC82C, 0, 31, .ro, 0x0, false⟩
def CHN_SPLTX_CLR : Fld := ⟨0xC82C, 31, 1, .wo, 0x0, false⟩
def CHN_SPLRX_COUNT : Fld := ⟨0xC830, 0, 31, .ro, 0x0, false⟩
def CHN_SPLRX_CLR : Fld := ⟨0xC830, 31, 1, .wo, 0x0, false⟩
def CHN_SPLDROP_COUNT : Fld := ⟨0xC834, 0, 31, .ro, 0x0, false⟩
def CHN_SPLDROP_CLR : Fld := ⟨0xC834, 31, 1, .wo, 0x0, false⟩
def CHN_LINKERRCNT_COUNT : Fld := ⟨0xC838, 0, 31, .ro, 0x0, false⟩
def CHN_LINKERRCNT_CLR : Fld := ⟨0xC838, 31, 1, .wo, 0x0, false⟩
def CHN_REJOIN_LO_STAMP : Fld := ⟨0xC83C, 0, 32, .ro, 0x0, false⟩
def CHN_REJOIN_HI_STAMP : Fld := ⟨0xC840, 0, 32, .ro, 0x0, false⟩
def CHN_RUN_RUN : Fld := ⟨0xC844, 0, 8, .ro, 0x0, false⟩

/-- The register families of block CHN. -/
def famsCHN_0 : List RegFam := [
  ⟨"CHN_CTRL", 0xC800, 0x0, 1, 0x0, 1, [CHN_CTRL_TAKEMST, CHN_CTRL_RESYNC]⟩,
  ⟨"CHN_STAT", 0xC804, 0x0, 1, 0x0, 1, [CHN_STAT_STATE, CHN_STAT_INDEX, CHN_STAT_MSTIDX, CHN_STAT_STRAP, CHN_STAT_MEMBERS, CHN_STAT_LLINK, CHN_STAT_HLINK, CHN_STAT_HITCH, CHN_STAT_MSTCONF, CHN_STAT_SPLICEERR]⟩,
  ⟨"CHN_CFG", 0xC808, 0x0, 1, 0x0, 1, [CHN_CFG_SIZE]⟩,
  ⟨"CHN_SPLICE", 0xC80C, 0x0, 1, 0x0, 1, [CHN_SPLICE_LW, CHN_SPLICE_HW]⟩,
  ⟨"CHN_OFFSET", 0xC810, 0x0, 1, 0x0, 1, [CHN_OFFSET_LANE0]⟩,
  ⟨"CHN_GRANTCFG", 0xC814, 0x0, 1, 0x0, 1, [CHN_GRANTCFG_GAP, CHN_GRANTCFG_MAX]⟩,
  ⟨"CHN_GRANTSTAT", 0xC818, 0x0, 1, 0x0, 1, [CHN_GRANTSTAT_HOLDER, CHN_GRANTSTAT_HELD, CHN_GRANTSTAT_QUEUE]⟩,
  ⟨"CHN_DELAY", 0xC81C, 0x0, 1, 0x0, 1, [CHN_DELAY_L, CHN_DELAY_H]⟩,
  ⟨"CHN_HITCHD", 0xC820, 0x0, 1, 0x0, 1, [CHN_HITCHD_D]⟩,
  ⟨"CHN_HITCHCNT", 0xC824, 0x0, 1, 0x0, 1, [CHN_HITCHCNT_COUNT, CHN_HITCHCNT_CLR]⟩,
  ⟨"CHN_ORPHANCNT", 0xC828, 0x0, 1, 0x0, 1, [CHN_ORPHANCNT_COUNT, CHN_ORPHANCNT_CLR]⟩,
  ⟨"CHN_SPLTX", 0xC82C, 0x0, 1, 0x0, 1, [CHN_SPLTX_COUNT, CHN_SPLTX_CLR]⟩]
def famsCHN_1 : List RegFam := [
  ⟨"CHN_SPLRX", 0xC830, 0x0, 1, 0x0, 1, [CHN_SPLRX_COUNT, CHN_SPLRX_CLR]⟩,
  ⟨"CHN_SPLDROP", 0xC834, 0x0, 1, 0x0, 1, [CHN_SPLDROP_COUNT, CHN_SPLDROP_CLR]⟩,
  ⟨"CHN_LINKERRCNT", 0xC838, 0x0, 1, 0x0, 1, [CHN_LINKERRCNT_COUNT, CHN_LINKERRCNT_CLR]⟩,
  ⟨"CHN_REJOIN_LO", 0xC83C, 0x0, 1, 0x0, 1, [CHN_REJOIN_LO_STAMP]⟩,
  ⟨"CHN_REJOIN_HI", 0xC840, 0x0, 1, 0x0, 1, [CHN_REJOIN_HI_STAMP]⟩,
  ⟨"CHN_RUN", 0xC844, 0x0, 1, 0x0, 1, [CHN_RUN_RUN]⟩]
def famsCHN : List RegFam := famsCHN_0 ++ famsCHN_1

/-! ### LOOP (spec/ file 11) -/

def LOOP_CTRL_PHEN : Fld := ⟨0xD000, 0, 1, .rw, 0x0, true⟩
def LOOP_CTRL_BKEN : Fld := ⟨0xD000, 1, 1, .rw, 0x0, true⟩
def LOOP_CTRL_PHMAN : Fld := ⟨0xD000, 2, 1, .rw, 0x0, false⟩
def LOOP_CTRL_BKMAN : Fld := ⟨0xD000, 3, 1, .rw, 0x0, false⟩
def LOOP_CTRL_PHCLR : Fld := ⟨0xD000, 4, 1, .wo, 0x0, false⟩
def LOOP_CTRL_BKCLR : Fld := ⟨0xD000, 5, 1, .wo, 0x0, false⟩
def LOOP_CTRL_MINON : Fld := ⟨0xD000, 8, 8, .rw, 0x2, false⟩
def LOOP_STAT_PHVALID : Fld := ⟨0xD004, 0, 1, .ro, 0x0, false⟩
def LOOP_STAT_PHSTALE : Fld := ⟨0xD004, 1, 1, .ro, 0x0, false⟩
def LOOP_STAT_PHSAT : Fld := ⟨0xD004, 2, 1, .ro, 0x0, false⟩
def LOOP_STAT_BKVALID : Fld := ⟨0xD004, 3, 1, .ro, 0x0, false⟩
def LOOP_STAT_BKOVER : Fld := ⟨0xD004, 4, 1, .ro, 0x0, false⟩
def LOOP_STAT_BKSAT : Fld := ⟨0xD004, 5, 1, .ro, 0x0, false⟩
def LOOP_STAT_GREF : Fld := ⟨0xD004, 6, 1, .ro, 0x0, false⟩
def LOOP_STAT_WRERR : Fld := ⟨0xD004, 7, 1, .w1c, 0x0, false⟩
def LOOP_STAT_PHINV : Fld := ⟨0xD004, 8, 8, .ro, 0x0, false⟩
def LOOP_PHSP_SP : Fld := ⟨0xD008, 0, 16, .rw, 0x0, true⟩
def LOOP_PHGAIN_KP : Fld := ⟨0xD00C, 0, 16, .rw, 0x0, true⟩
def LOOP_PHGAIN_KI : Fld := ⟨0xD00C, 16, 16, .rw, 0x0, true⟩
def LOOP_PHLIM_UMIN : Fld := ⟨0xD010, 0, 10, .rw, 0x0, false⟩
def LOOP_PHLIM_UMAX : Fld := ⟨0xD010, 16, 10, .rw, 0x3E8, false⟩
def LOOP_PHWIN_CLASSES : Fld := ⟨0xD014, 0, 16, .rw, 0x1, false⟩
def LOOP_PHWIN_MINN : Fld := ⟨0xD014, 16, 16, .rw, 0x32, false⟩
def LOOP_PHPV_PV : Fld := ⟨0xD018, 0, 16, .ro, 0x0, false⟩
def LOOP_PHPV_N : Fld := ⟨0xD018, 16, 16, .ro, 0x0, false⟩
def LOOP_PHU_U : Fld := ⟨0xD01C, 0, 10, .ro, 0x0, false⟩
def LOOP_PHU_I : Fld := ⟨0xD01C, 16, 10, .ro, 0x0, false⟩
def LOOP_PHCFG_SAFE : Fld := ⟨0xD020, 0, 10, .rw, 0x0, false⟩
def LOOP_PHCFG_MAN : Fld := ⟨0xD020, 10, 10, .rw, 0x0, false⟩
def LOOP_PHCFG_STALE : Fld := ⟨0xD020, 20, 8, .rw, 0x1E, false⟩
def LOOP_PHOUT_WEIGHT (n : Nat) : Fld := ⟨(0xD030 + 0x4 * (n % 4)), 0, 10, .rw, 0x0, true⟩
def LOOP_PHOUT_EN (n : Nat) : Fld := ⟨(0xD030 + 0x4 * (n % 4)), 16, 1, .rw, 0x0, true⟩
def LOOP_BKSP_SP : Fld := ⟨0xD040, 0, 20, .rw, 0x0, true⟩
def LOOP_BKGAIN_KP : Fld := ⟨0xD044, 0, 16, .rw, 0x0, true⟩
def LOOP_BKGAIN_KI : Fld := ⟨0xD044, 16, 16, .rw, 0x0, true⟩
def LOOP_BKLIM_UMIN : Fld := ⟨0xD048, 0, 10, .rw, 0x0, false⟩
def LOOP_BKLIM_UMAX : Fld := ⟨0xD048, 16, 10, .rw, 0x3E8, false⟩
def LOOP_BKCFG_SAFE : Fld := ⟨0xD04C, 0, 10, .rw, 0x0, false⟩
def LOOP_BKCFG_MAN : Fld := ⟨0xD04C, 10, 10, .rw, 0x0, false⟩
def LOOP_BKCFG_HILIM : Fld := ⟨0xD04C, 20, 8, .rw, 0x5A, false⟩
def LOOP_BKPV_PV : Fld := ⟨0xD050, 0, 20, .ro, 0x0, false⟩
def LOOP_BKU_U : Fld := ⟨0xD054, 0, 10, .ro, 0x0, false⟩
def LOOP_BKU_I : Fld := ⟨0xD054, 16, 10, .ro, 0x0, false⟩

/-- The register families of block LOOP. -/
def famsLOOP_0 : List RegFam := [
  ⟨"LOOP_CTRL", 0xD000, 0x0, 1, 0x0, 1, [LOOP_CTRL_PHEN, LOOP_CTRL_BKEN, LOOP_CTRL_PHMAN, LOOP_CTRL_BKMAN, LOOP_CTRL_PHCLR, LOOP_CTRL_BKCLR, LOOP_CTRL_MINON]⟩,
  ⟨"LOOP_STAT", 0xD004, 0x0, 1, 0x0, 1, [LOOP_STAT_PHVALID, LOOP_STAT_PHSTALE, LOOP_STAT_PHSAT, LOOP_STAT_BKVALID, LOOP_STAT_BKOVER, LOOP_STAT_BKSAT, LOOP_STAT_GREF, LOOP_STAT_WRERR, LOOP_STAT_PHINV]⟩,
  ⟨"LOOP_PHSP", 0xD008, 0x0, 1, 0x0, 1, [LOOP_PHSP_SP]⟩,
  ⟨"LOOP_PHGAIN", 0xD00C, 0x0, 1, 0x0, 1, [LOOP_PHGAIN_KP, LOOP_PHGAIN_KI]⟩,
  ⟨"LOOP_PHLIM", 0xD010, 0x0, 1, 0x0, 1, [LOOP_PHLIM_UMIN, LOOP_PHLIM_UMAX]⟩,
  ⟨"LOOP_PHWIN", 0xD014, 0x0, 1, 0x0, 1, [LOOP_PHWIN_CLASSES, LOOP_PHWIN_MINN]⟩,
  ⟨"LOOP_PHPV", 0xD018, 0x0, 1, 0x0, 1, [LOOP_PHPV_PV, LOOP_PHPV_N]⟩,
  ⟨"LOOP_PHU", 0xD01C, 0x0, 1, 0x0, 1, [LOOP_PHU_U, LOOP_PHU_I]⟩,
  ⟨"LOOP_PHCFG", 0xD020, 0x0, 1, 0x0, 1, [LOOP_PHCFG_SAFE, LOOP_PHCFG_MAN, LOOP_PHCFG_STALE]⟩,
  ⟨"LOOP_PHOUT", 0xD030, 0x4, 4, 0x0, 1, [LOOP_PHOUT_WEIGHT 0, LOOP_PHOUT_EN 0]⟩,
  ⟨"LOOP_BKSP", 0xD040, 0x0, 1, 0x0, 1, [LOOP_BKSP_SP]⟩,
  ⟨"LOOP_BKGAIN", 0xD044, 0x0, 1, 0x0, 1, [LOOP_BKGAIN_KP, LOOP_BKGAIN_KI]⟩]
def famsLOOP_1 : List RegFam := [
  ⟨"LOOP_BKLIM", 0xD048, 0x0, 1, 0x0, 1, [LOOP_BKLIM_UMIN, LOOP_BKLIM_UMAX]⟩,
  ⟨"LOOP_BKCFG", 0xD04C, 0x0, 1, 0x0, 1, [LOOP_BKCFG_SAFE, LOOP_BKCFG_MAN, LOOP_BKCFG_HILIM]⟩,
  ⟨"LOOP_BKPV", 0xD050, 0x0, 1, 0x0, 1, [LOOP_BKPV_PV]⟩,
  ⟨"LOOP_BKU", 0xD054, 0x0, 1, 0x0, 1, [LOOP_BKU_U, LOOP_BKU_I]⟩]
def famsLOOP : List RegFam := famsLOOP_0 ++ famsLOOP_1

/-! ### TMX (spec/ file 18) -/

def TMX_CTRL_BSCANEN : Fld := ⟨0xD800, 0, 1, .rw, 0x0, false⟩
def TMX_CTRL_DBGEN : Fld := ⟨0xD800, 1, 1, .ro, 0x0, true⟩
def TMX_ASEL_NODE0 : Fld := ⟨0xD804, 0, 6, .rw, 0x0, false⟩
def TMX_ASEL_EN0 : Fld := ⟨0xD804, 7, 1, .rw, 0x0, false⟩
def TMX_ASEL_NODE1 : Fld := ⟨0xD804, 8, 6, .rw, 0x0, false⟩
def TMX_ASEL_EN1 : Fld := ⟨0xD804, 15, 1, .rw, 0x0, false⟩
def TMX_OBJ_TILE : Fld := ⟨0xD808, 0, 5, .rw, 0x0, false⟩
def TMX_OBJ_LANE : Fld := ⟨0xD808, 5, 6, .rw, 0x0, false⟩
def TMX_OBJ_SLICE : Fld := ⟨0xD808, 11, 2, .rw, 0x0, false⟩
def TMX_OBJ_BANK : Fld := ⟨0xD808, 16, 4, .rw, 0x0, false⟩
def TMX_OBJ_CH : Fld := ⟨0xD808, 20, 7, .rw, 0x0, false⟩
def TMX_DSEL_GROUP : Fld := ⟨0xD80C, 0, 3, .rw, 0x0, false⟩
def TMX_DSEL_EN : Fld := ⟨0xD80C, 8, 1, .rw, 0x0, false⟩
def TMX_BLIND_TILES : Fld := ⟨0xD810, 0, 32, .rw, 0x0, false⟩
def TMX_BLINDACT_TILES : Fld := ⟨0xD814, 0, 32, .ro, 0x0, false⟩
def TMX_TPCTL_MODE : Fld := ⟨0xD820, 0, 2, .rw, 0x0, false⟩
def TMX_TPCTL_PAT : Fld := ⟨0xD820, 2, 2, .rw, 0x0, false⟩
def TMX_TPCTL_DRIVE : Fld := ⟨0xD820, 4, 1, .rw, 0x0, false⟩
def TMX_TPCTL_TILE : Fld := ⟨0xD820, 8, 5, .rw, 0x0, false⟩
def TMX_TPCTL_PEND : Fld := ⟨0xD820, 31, 1, .ro, 0x0, false⟩
def TMX_TPTILES_TILES : Fld := ⟨0xD824, 0, 32, .rw, 0x0, false⟩
def TMX_TPWORD_WORD : Fld := ⟨0xD828, 0, 16, .rw, 0x0, false⟩
def TMX_TPSTAT_ACTIVE : Fld := ⟨0xD82C, 0, 1, .ro, 0x0, false⟩
def TMX_TPSTAT_CAPDONE : Fld := ⟨0xD82C, 1, 1, .w1c, 0x0, false⟩
def TMX_TPSTAT_WRERR : Fld := ⟨0xD82C, 2, 1, .w1c, 0x0, false⟩
def TMX_TPERR_COUNT : Fld := ⟨0xD830, 0, 16, .ro, 0x0, false⟩
def TMX_TPERR_TILE : Fld := ⟨0xD830, 16, 5, .ro, 0x0, false⟩
def TMX_TPERR_LANE : Fld := ⟨0xD830, 21, 6, .ro, 0x0, false⟩
def TMX_TPERR_RGRP : Fld := ⟨0xD830, 27, 4, .ro, 0x0, false⟩
def TMX_TPERR_CLR : Fld := ⟨0xD830, 31, 1, .wo, 0x0, false⟩
def TMX_TPSEL_INDEX : Fld := ⟨0xD834, 0, 12, .rw, 0x0, false⟩
def TMX_TPSEL_AUTOINC : Fld := ⟨0xD834, 16, 1, .rw, 0x0, false⟩
def TMX_TPDATA_DATA : Fld := ⟨0xD838, 0, 32, .rw, 0x0, false⟩
def TMX_IDCODE_IDCODE : Fld := ⟨0xD83C, 0, 32, .ro, 0x0, true⟩

/-- The register families of block TMX. -/
def famsTMX_0 : List RegFam := [
  ⟨"TMX_CTRL", 0xD800, 0x0, 1, 0x0, 1, [TMX_CTRL_BSCANEN, TMX_CTRL_DBGEN]⟩,
  ⟨"TMX_ASEL", 0xD804, 0x0, 1, 0x0, 1, [TMX_ASEL_NODE0, TMX_ASEL_EN0, TMX_ASEL_NODE1, TMX_ASEL_EN1]⟩,
  ⟨"TMX_OBJ", 0xD808, 0x0, 1, 0x0, 1, [TMX_OBJ_TILE, TMX_OBJ_LANE, TMX_OBJ_SLICE, TMX_OBJ_BANK, TMX_OBJ_CH]⟩,
  ⟨"TMX_DSEL", 0xD80C, 0x0, 1, 0x0, 1, [TMX_DSEL_GROUP, TMX_DSEL_EN]⟩,
  ⟨"TMX_BLIND", 0xD810, 0x0, 1, 0x0, 1, [TMX_BLIND_TILES]⟩,
  ⟨"TMX_BLINDACT", 0xD814, 0x0, 1, 0x0, 1, [TMX_BLINDACT_TILES]⟩,
  ⟨"TMX_TPCTL", 0xD820, 0x0, 1, 0x0, 1, [TMX_TPCTL_MODE, TMX_TPCTL_PAT, TMX_TPCTL_DRIVE, TMX_TPCTL_TILE, TMX_TPCTL_PEND]⟩,
  ⟨"TMX_TPTILES", 0xD824, 0x0, 1, 0x0, 1, [TMX_TPTILES_TILES]⟩,
  ⟨"TMX_TPWORD", 0xD828, 0x0, 1, 0x0, 1, [TMX_TPWORD_WORD]⟩,
  ⟨"TMX_TPSTAT", 0xD82C, 0x0, 1, 0x0, 1, [TMX_TPSTAT_ACTIVE, TMX_TPSTAT_CAPDONE, TMX_TPSTAT_WRERR]⟩,
  ⟨"TMX_TPERR", 0xD830, 0x0, 1, 0x0, 1, [TMX_TPERR_COUNT, TMX_TPERR_TILE, TMX_TPERR_LANE, TMX_TPERR_RGRP, TMX_TPERR_CLR]⟩,
  ⟨"TMX_TPSEL", 0xD834, 0x0, 1, 0x0, 1, [TMX_TPSEL_INDEX, TMX_TPSEL_AUTOINC]⟩]
def famsTMX_1 : List RegFam := [
  ⟨"TMX_TPDATA", 0xD838, 0x0, 1, 0x0, 1, [TMX_TPDATA_DATA]⟩,
  ⟨"TMX_IDCODE", 0xD83C, 0x0, 1, 0x0, 1, [TMX_IDCODE_IDCODE]⟩]
def famsTMX : List RegFam := famsTMX_0 ++ famsTMX_1

/-! ### MBX (spec/ file 13) -/

def MBX_UPTX_WORD (n m : Nat) : Fld := ⟨(0xE000 + 0x80 * (n % 4) + 0x4 * (m % 4)), 0, 32, .rw, 0x0, false⟩
def MBX_UPCTL_SEND (n : Nat) : Fld := ⟨(0xE010 + 0x80 * (n % 4)), 0, 1, .wo, 0x0, false⟩
def MBX_UPCTL_COUNT (n : Nat) : Fld := ⟨(0xE010 + 0x80 * (n % 4)), 8, 4, .ro, 0x0, false⟩
def MBX_UPCTL_FULL (n : Nat) : Fld := ⟨(0xE010 + 0x80 * (n % 4)), 12, 1, .ro, 0x0, false⟩
def MBX_UPCTL_OVF (n : Nat) : Fld := ⟨(0xE010 + 0x80 * (n % 4)), 13, 1, .w1c, 0x0, false⟩
def MBX_UPRX_WORD (n m : Nat) : Fld := ⟨(0xE020 + 0x80 * (n % 4) + 0x4 * (m % 4)), 0, 32, .ro, 0x0, false⟩
def MBX_UPPOP_POP (n : Nat) : Fld := ⟨(0xE030 + 0x80 * (n % 4)), 0, 1, .wo, 0x0, false⟩
def MBX_DNTX_WORD (n m : Nat) : Fld := ⟨(0xE040 + 0x80 * (n % 4) + 0x4 * (m % 4)), 0, 32, .rw, 0x0, false⟩
def MBX_DNCTL_SEND (n : Nat) : Fld := ⟨(0xE050 + 0x80 * (n % 4)), 0, 1, .wo, 0x0, false⟩
def MBX_DNCTL_COUNT (n : Nat) : Fld := ⟨(0xE050 + 0x80 * (n % 4)), 8, 4, .ro, 0x0, false⟩
def MBX_DNCTL_FULL (n : Nat) : Fld := ⟨(0xE050 + 0x80 * (n % 4)), 12, 1, .ro, 0x0, false⟩
def MBX_DNCTL_OVF (n : Nat) : Fld := ⟨(0xE050 + 0x80 * (n % 4)), 13, 1, .w1c, 0x0, false⟩
def MBX_DNCTL_IE (n : Nat) : Fld := ⟨(0xE050 + 0x80 * (n % 4)), 16, 1, .rw, 0x0, false⟩
def MBX_DNRX_WORD (n m : Nat) : Fld := ⟨(0xE060 + 0x80 * (n % 4) + 0x4 * (m % 4)), 0, 32, .ro, 0x0, false⟩
def MBX_DNPOP_POP (n : Nat) : Fld := ⟨(0xE070 + 0x80 * (n % 4)), 0, 1, .wo, 0x0, false⟩

/-- The register families of block MBX. -/
def famsMBX : List RegFam := [
  ⟨"MBX_UPTX", 0xE000, 0x80, 4, 0x4, 4, [MBX_UPTX_WORD 0 0]⟩,
  ⟨"MBX_UPCTL", 0xE010, 0x80, 4, 0x0, 1, [MBX_UPCTL_SEND 0, MBX_UPCTL_COUNT 0, MBX_UPCTL_FULL 0, MBX_UPCTL_OVF 0]⟩,
  ⟨"MBX_UPRX", 0xE020, 0x80, 4, 0x4, 4, [MBX_UPRX_WORD 0 0]⟩,
  ⟨"MBX_UPPOP", 0xE030, 0x80, 4, 0x0, 1, [MBX_UPPOP_POP 0]⟩,
  ⟨"MBX_DNTX", 0xE040, 0x80, 4, 0x4, 4, [MBX_DNTX_WORD 0 0]⟩,
  ⟨"MBX_DNCTL", 0xE050, 0x80, 4, 0x0, 1, [MBX_DNCTL_SEND 0, MBX_DNCTL_COUNT 0, MBX_DNCTL_FULL 0, MBX_DNCTL_OVF 0, MBX_DNCTL_IE 0]⟩,
  ⟨"MBX_DNRX", 0xE060, 0x80, 4, 0x4, 4, [MBX_DNRX_WORD 0 0]⟩,
  ⟨"MBX_DNPOP", 0xE070, 0x80, 4, 0x0, 1, [MBX_DNPOP_POP 0]⟩]

end Sys2Proof.Machine.Reg
end

