-- ==== Sys2Proof/Machine/PartsBraid.lean ====
section
/-! DEFINITION. State that no register shows, of unlay and braid, of the knot stage, the verdicts and the scheduler
(spec/ files 06, 07, 08). -/

namespace Sys2Proof.Machine

/-- Register fields that apply at a frame boundary under R38 inside the logic die: the values in force, by field
key, and the writes that wait, as boundary count, field key and value. -/
structure Live where
  force : List (Nat × Nat)
  pend : List (Nat × Nat × Nat)
  deriving DecidableEq, Repr

def Live.init : Live := ⟨[], []⟩

/-! ### Braid -/

/-- One half-sum record of a slice lane (R163, R166, R170). -/
structure LaneSum where
  us : Nat
  ls : Nat
  uw : Nat
  lw : Nat
  ovrh : Bool
  ovrl : Bool
  blind : Bool
  ecc : Bool
  deriving DecidableEq, Repr

def LaneSum.zero : LaneSum := ⟨0, 0, 0, 0, false, false, false, false⟩

/-- A slice in flight (R161 to R172). -/
structure Slice where
  hyp : Nat
  start : Nat
  stamp : Nat
  rate : Nat
  tag : Nat
  /-- the boundary at which it completes (R165), moved by a truncation (R172) -/
  due : Nat
  /-- truncated: samples of this frame and later are discarded -/
  cut : Option Nat
  pcause : Nat
  dip : Bool
  unsync : Bool
  /-- its record in the braid banks (R170; log entry 20) -/
  slot : Nat
  lanes : List (Nat × LaneSum)
  deriving DecidableEq, Repr

/-- A table set (R156, R171, R180): words by 128 · k + w; k is 0 where no set has been installed. -/
structure TSet where
  gen : Nat
  k : Nat
  words : List (Nat × Nat)
  deriving DecidableEq, Repr

def TSet.none : TSet := ⟨0, 0, []⟩

structure Braid where
  active : TSet
  shadow : TSet
  /-- the boundary of a switch asked for, and its K -/
  swDue : Option Nat
  swK : Nat
  /-- the inputs of the computation that finished last and is not yet installed, rate first (R159) -/
  ready : Option (List Nat)
  /-- a computation runs -/
  busy : Bool
  /-- no slice starts until the new-rate set is installed (R173) -/
  late : Bool
  /-- boundaries of the restarts asked for (R172) -/
  restartDue : List Nat
  /-- sets that both buffers have given up while truncated slices still complete under them (R168, R173) -/
  kept : List TSet
  /-- words and K of a set from flash that waits for the shadow buffer (R171, R313, R450) -/
  waitSet : Option (List (Nat × Nat) × Nat)
  /-- causes of a truncation at the boundary that is being carried out -/
  causes : List Nat
  /-- the slices completing next include those of a truncation (R198) -/
  truncated : Bool
  slices : List Slice
  /-- records of the slices that carried DIP before the last boundary (R276) -/
  dipWas : List Nat
  /-- history words that are not 0xFFFF, by pixel (R151, R154) -/
  ub : List (Nat × Nat)
  deriving DecidableEq, Repr

def Braid.init : Braid := ⟨TSet.none, TSet.none, none, 3, none, false, false, [], [], none, [], false, [], [], []⟩

/-! ### Knots (file 07) -/

/-- One lane of a completed slice: the lane record of R166, and what R182 and R183 make of it. -/
structure Cell where
  um : Nat
  lm : Nat
  uw : Nat
  lw : Nat
  ovrh : Bool
  ovrl : Bool
  interp : Bool
  blank : Bool
  blind : Bool
  ecc : Bool
  v : Nat
  d : Int
  /-- 0 backdrop, 1 void, 2 weak, 3 strong -/
  cls : Nat
  deriving DecidableEq, Repr

/-- A completed slice that the knot stage still needs; `runs` are its member runs. -/
structure Row where
  hyp : Nat
  start : Nat
  stamp : Nat
  rate : Nat
  tag : Nat
  partialF : Bool
  pcause : Nat
  dip : Bool
  unsync : Bool
  depth : Nat
  /-- v at row 0 and HALFDT of its table set (R168) -/
  v0 : Nat
  halfdt : Nat
  /-- delivery order (R167) -/
  seq : Nat
  cells : List Cell
  runs : List (Nat × Nat)
  deriving DecidableEq, Repr

/-- A candidate (R187): its member runs as slice, lowest lane and highest lane. -/
structure Cand where
  id : Nat
  hyp : Nat
  first : Nat
  last : Nat
  /-- lowest lane in its first slice, for the order of R187 -/
  lane0 : Nat
  runs : List (Nat × Nat × Nat)
  /-- closed: the delivery order of its closing slice -/
  closed : Option Nat
  closeAt : Nat
  splitL : Bool
  splitW : Bool
  trunc : Bool
  deriving DecidableEq, Repr

structure Knot where
  slot : Nat
  cands : List Nat
  chosen : Option Nat
  /-- its chosen candidate has gone (R192), or its verdict is dropped (R200) -/
  mute : Bool
  /-- closed: its verdict is queued or given up -/
  closed : Bool
  trunc : Bool
  /-- contrasts at the choice: hypothesis, sum and number of pairs (R194) -/
  es : List (Nat × Nat × Nat)
  deriving DecidableEq, Repr

/-- A closed knot that waits for its verdict (R202, R210). -/
structure Closed where
  slot : Nat
  hyp : Nat
  tag : Nat
  kstamp : Nat
  sstamp : Nat
  s0 : Nat
  rate : Nat
  v0 : Nat
  lane1 : Nat
  lane2 : Nat
  flags : Nat
  bank : Nat
  feats : List Nat
  /-- member cells in each splice band: number and sum of chain lanes (R422), low side then high side -/
  bandN : Nat × Nat
  bandS : Nat × Nat
  seq : Nat
  deriving DecidableEq, Repr

structure KStage where
  rows : List Row
  cands : List Cand
  knots : List Knot
  nextId : Nat
  seq : Nat
  /-- lost runs: hypothesis, slice, lowest and highest lane (R197) -/
  lost : List (Nat × Nat × Nat × Nat)
  /-- last runs of candidates that closed on their 512th slice: hypothesis, slice, lowest and highest lane (R189) -/
  full : List (Nat × Nat × Nat × Nat)
  /-- latest completed slice of each hypothesis, plus one -/
  done : List (Nat × Nat)
  queue : List Closed
  deriving DecidableEq, Repr

def KStage.init : KStage := ⟨[], [], [], 0, 0, [], [], [], []⟩

/-! ### Verdicts and scheduling (files 07, 08) -/

/-- An entry of a valve queue (R224, R234); times in ns. -/
structure Entry where
  opn : Nat
  /-- none while open-ended (R230) -/
  cls : Option Nat
  vseq : Nat
  merged : Nat
  row : Bool
  blindF : Bool
  late : Bool
  clipped : Bool
  splice : Bool
  lead : Nat
  /-- the lane extent: the union of what its windows cover (R264) -/
  lanes : Nat × Nat
  /-- open-ended: the latest close of the windows merged into it (R230) -/
  least : Nat
  /-- valve drive has started it: it was given its open (FIRING_OPEN) -/
  began : Bool
  deriving DecidableEq, Repr

/-- The blind time of a channel (R458): its owners (tiles, and 32 for the shutter), the policy latched at the
earliest B0, and the row of its blind firing with what its close adds to B1: A_0 − lead + margin. -/
structure BlindCh where
  owners : List Nat
  policy : Bool
  row : Bool
  a0 : Int
  /-- the firing is an entry of the queue, not given up -/
  fired : Bool
  deriving DecidableEq, Repr

def BlindCh.none : BlindCh := ⟨[], false, false, 0, false⟩

structure Sched where
  queues : List (Nat × List Entry)
  blind : List (Nat × BlindCh)
  /-- the policy latched at the most recent B0 (R230), and REJROW; none before the first -/
  policy : Option (Bool × Bool)
  /-- classifier words by 512 · bank + 32 · c + w (R213), as they differ from their reset values -/
  cls : List (Nat × Nat)
  clsDue : Option Nat
  /-- map entries by 2,048 · bank + lane (R233) -/
  map : List (Nat × Nat)
  mapDue : Option Nat
  /-- verdict log ring (R211), by 32 · e + w -/
  log : List (Nat × Nat)
  deriving DecidableEq, Repr

def Sched.init : Sched := ⟨[], [], none, [], none, [], none, []⟩

end Sys2Proof.Machine
end

