-- ==== Sys2Proof/Machine/PartsChain.lean ====
section
/-! DEFINITION. State that no register shows, of the chain (spec/ file 16), and what the block sends out of itself:
replies, chain messages, words read, Ethernet frames. -/

namespace Sys2Proof.Machine

/-- A message on the chain link (R411). -/
inductive ChainMsg where
  | time (m : TimeMsg)
  /-- the pulse on the sync line (R415) -/
  | pulse
  | handover (sender : Nat) (give : Option Mastership)
  | splice (r : SpliceReq)
  | grantReq (sender stamp : Nat)
  | grant (target boundary : Nat)
  | release (sender : Nat)
  | echo
  | baind (reply : Bool) (target : Nat) (bytes : List Byte)
  deriving DecidableEq, Repr

/-- What the block has sent or given back, oldest first: the model's own field (log entry 30). -/
inductive Out where
  /-- a Baind reply or completion to its source (R359) -/
  | baind (dst : Source) (bytes : List Byte)
  | chain (port : ChainPort) (m : ChainMsg)
  /-- the word that a read gives its requester -/
  | word (r : Requester) (v : Nat)
  /-- an access fault of a core (R315, R340, R341) -/
  | busError (r : Requester)
  /-- an error status to a channel of the cluster's DMA engine (R315) -/
  | dmaError
  /-- bytes shifted out of the serial slave port -/
  | ssp (bytes : List Byte)
  | arpReply
  | icmpReply
  | dhcp (kind : Nat)
  /-- bytes of a processor's read of the flash window (R405) -/
  | xip (line : Nat)
  /-- an interrupt to an application hart (R345) -/
  | hartIrq (c : Nat)
  deriving DecidableEq, Repr

structure Chain where
  /-- neighbours at ports L and H with a formed link (R412, R414) -/
  low : Option LinkInfo
  high : Option LinkInfo
  /-- links up but not formed, for their overlaps differ -/
  lowBad : Bool
  highBad : Bool
  /-- the TIME message of the pulse to come, with the port it came by -/
  next : Option TimeMsg
  /-- a TIME message has come since the last pulse -/
  heard : Bool
  /-- pulses with valid TIME messages in a row (R419) -/
  good : Nat
  /-- 2 ns steps still to slew, signed (R416) -/
  slew : Int
  /-- a HANDOVER in progress: the boundary count and the new master's index (R413) -/
  handover : Option (Nat × Nat)
  /-- what the old master has left to this module, until the transfer applies (R413) -/
  given : Option Mastership
  /-- this module has asked for a grant and not released it (R420) -/
  asked : Bool
  /-- the grant queue: stamp and index, and the holder since when (R420) -/
  grants : List (Nat × Nat)
  holder : Option (Nat × Nat)
  /-- chain time of the last RELEASE, plus one -/
  released : Nat
  /-- a rate of the master's, and the chain time after which the first boundary applies it (R417) -/
  rateNext : Option (Nat × Nat)
  /-- listening for TIME after a reset (R436) -/
  listening : Bool
  /-- the size in force, loaded at start-up (R412) -/
  size : Nat
  deriving DecidableEq, Repr

def Chain.init : Chain :=
  { low := none, high := none, lowBad := false, highBad := false, next := none, heard := false, good := 0,
    slew := 0, handover := none, given := none, asked := false, grants := [], holder := none, released := 0, rateNext := none,
    listening := false, size := 1 }

end Sys2Proof.Machine
end

