-- ==== Sys2Proof/Machine/PartsCore.lean ====
section
/-! DEFINITION. State that no register shows, of the module as a whole: fuses, supplies and resets, events and their
log, the memories' tester and errors, the requesters' windows, the mailbox. -/

namespace Sys2Proof.Machine

/-- The serial flash that the module is fitted with, as its SFDP tells (R401, R402). -/
structure Device where
  jedec : Nat
  mib : Nat
  sfdp : Bool
  /-- the fast quad read listed: 0 none, 1 1-1-4, 2 1-4-4 -/
  quad : Nat
  suspend : Bool
  deriving DecidableEq, Repr

/-- What the fuses and straps of one part hold, and its flash device; no step changes it (R6, file 13 GLB registers,
R401, R413). -/
structure Fuses where
  /-- true: NK1024, false: NK2048 (R3) -/
  nk1024 : Bool
  srev : Nat
  lrev : Nat
  serial : Nat
  /-- the CHN_MST strap (R413) -/
  strap : Bool
  mac : Nat
  /-- the key hash of R378, as a number; 0: the fuses are blank -/
  keyHash : Nat
  dev : Device
  deriving DecidableEq, Repr

/-- Where the module stands between no supply and running (R272, R428, R432). -/
inductive PowerPhase where
  /-- no rail is on -/
  | unpowered
  /-- rails rise in the order of R272; `good` of them are good -/
  | sequencing (good : Nat)
  /-- a reset is held, every rail on -/
  | held
  /-- out of reset -/
  | on
  deriving DecidableEq, Repr

structure Power where
  phase : PowerPhase
  /-- the cause latch of the power die (R432); 0 after it has lost its value -/
  latch : Nat
  /-- chain time at which the present phase began -/
  since : Nat
  /-- the management firmware runs (R428) -/
  fw : Bool
  /-- VIO is 3.3 V, as detected at power-up (R271) -/
  vio33 : Bool
  deriving DecidableEq, Repr

/-! ### Events and their log -/

/-- One entry of the event log (R355). -/
structure LogEntry where
  stamp : Nat
  src : Nat
  fw : Bool
  forced : Bool
  unsync : Bool
  rep : Nat
  seq : Nat
  chidx : Nat
  run : Nat
  boot : Nat
  d5 : Nat
  d6 : Nat
  d7 : Nat
  deriving DecidableEq, Repr

def LogEntry.zero : LogEntry := ⟨0, 0, false, false, false, 0, 0, 0, 0, 0, 0, 0, 0⟩

/-- The pulse of an event pin (R354): `gap` is the 1 µs after a pulse. -/
inductive PinPhase where
  | idle
  | pulse
  | gap
  deriving DecidableEq, Repr

structure PinState where
  phase : PinPhase
  /-- an occurrence arrived during the pulse or its gap -/
  again : Bool
  /-- chain time at which the phase began -/
  since : Nat
  deriving DecidableEq, Repr

def PinState.idleP : PinState := ⟨.idle, false, 0⟩

structure Evt where
  /-- captured stamps by source (R350) -/
  caps : List (Nat × Nat)
  /-- chain time of each source's last log entry, plus one (R356) -/
  lastLog : List (Nat × Nat)
  /-- occurrences suppressed since that entry -/
  rep : List (Nat × Nat)
  /-- the FB ring (R357) -/
  ring : List (Nat × LogEntry)
  /-- ring indices of the entries not yet copied to flash, oldest first -/
  pend : List Nat
  pins : List (Nat × PinState)
  deriving DecidableEq, Repr

def Evt.init : Evt := ⟨[], [], [], [], [], []⟩

/-! ### Memories -/

/-- What the background tester is doing (R324, R327). -/
inductive TestPhase where
  | idle
  /-- a bight is under test -/
  | test
  /-- an aborted bight's codewords are written back -/
  | restore
  deriving DecidableEq, Repr

structure MemSys where
  /-- errors that have appeared in words, not yet corrected or rewritten -/
  errs : List MemErr
  /-- bank and bight that the tester takes next (R326) -/
  bank : Nat
  bight : Nat
  phase : TestPhase
  /-- aborts of this bight in this pass (R327) -/
  aborts : Nat
  /-- groups in retention that an access is waking -/
  waking : List Nat
  /-- a sorting start waits until all groups are awake (R331) -/
  startWait : Bool
  /-- corrected words whose write-back is still to come (R314): bank and word -/
  scrubQ : List (Nat × Nat)
  deriving DecidableEq, Repr

def MemSys.init : MemSys := ⟨[], 0, 0, .idle, 0, [], false, []⟩

/-- What the processors reach beside the register space (R332, R337, R353). -/
structure Bus where
  /-- bytes of SP0 to SP3, MGT and the LPDDR4X (bank 58), at 2^32 · bank + offset; unlisted bytes read 0 (log entry 32) -/
  ram : List (Nat × Nat)
  /-- mtimecmp by hart (R337) -/
  timers : List (Nat × Nat)
  /-- priorities by interrupt source (R353) -/
  prio : List (Nat × Nat)
  /-- enabled sources by context, bit i for source i -/
  enable : List (Nat × Nat)
  /-- thresholds by context -/
  thresh : List (Nat × Nat)
  /-- sources in service -/
  claimed : List Nat
  deriving DecidableEq, Repr

def Bus.init : Bus := ⟨[], [], [], [], [], []⟩

/-! ### Requesters -/

/-- One requester's table window (R343), high-word latch (R321) and record latch (R113, R214, R234, R357): the
latched tables, each with its first word's address and words. -/
structure Win where
  sel : Nat
  autoinc : Bool
  addr : Nat
  latch : Option (Nat × Nat)
  recd : List (Nat × Nat × List Nat)
  deriving DecidableEq, Repr

def Win.init : Win := ⟨0, false, 0, none, []⟩

/-- The two queues of a mailbox channel (R345): messages of four words, oldest first. -/
structure MbxChan where
  up : List (List Nat)
  down : List (List Nat)
  deriving DecidableEq, Repr

def MbxChan.init : MbxChan := ⟨[], []⟩

end Sys2Proof.Machine
end

