-- ==== Sys2Proof/Machine/PartsHouse.lean ====
section
/-! DEFINITION. State that no register shows, of the supplies' budget, thermal management and the housekeeping
converter (spec/ file 10). Dies: 0 logic, 1 power; levels: 0 warning, 1 throttle, 2 shutdown. -/

namespace Sys2Proof.Machine

/-- The sequencer entry that runs (R295, R296), as latched when the sequencer reached it. -/
structure HkaEntry where
  ch : Nat
  rep : Nat
  delay : Nat
  avg : Nat
  gain : Nat
  deriving DecidableEq, Repr

structure House where
  /-- evaluations in a row with the total 5% below the limit (R281) -/
  under : Nat
  /-- the heater's grant in mA, and the tap skip that the budget asks for (R279, R280) -/
  heaterMa : Nat
  tapSkip : Nat
  /-- samples in a row at or above each level, and at or below it minus 4 K, by 3 * die + level (R284) -/
  ups : List (Nat × Nat)
  downs : List (Nat × Nat)
  /-- the levels that each die has entered, as bits 3 * die + level -/
  entered : Nat
  /-- each die's throttle step, and the chain time at which it entered throttle (R285) -/
  steps : List (Nat × Nat)
  since : List (Nat × Nat)
  /-- samples in a row suspect, and in agreement within 5 K, by 8 * die + sensor (R289) -/
  suspect : List (Nat × Nat)
  agree : List (Nat × Nat)
  /-- a sample has been taken since reset -/
  sampled : Bool
  /-- a thermal shutdown waits for its restart (R287, R288) -/
  shutdown : Bool
  /-- chain times of automatic restarts, oldest first (R288) -/
  autos : List Nat
  /-- tables whose reload from flash has failed, and that no later load has mended (R313, R440) -/
  badTables : List Nat
  /-- the trim-table bin of the power die's oscillator, and its trim in force in 0.001% (R293) -/
  trimBin : Option Nat
  trim : Int
  /-- the place in the compensation table in 1/1,000 of its spacing, and the correction of the bolometer bias and the
  column reference level that it gives, in 1/1,000 of their units (R292) -/
  comp : Nat
  compBias : Int
  compRef : Int
  /-- the housekeeping sequencer: the entry that runs, results produced in it, the channel and gain before it, and
  the LAST in force (R295, R296) -/
  entry : Option HkaEntry
  reps : Nat
  prev : Option (Nat × Nat)
  last : Option Nat
  deriving DecidableEq, Repr

def House.init : House :=
  { under := 0, heaterMa := 0, tapSkip := 255, ups := [], downs := [], entered := 0, steps := [], since := [],
    suspect := [], agree := [], sampled := false, shutdown := false, autos := [], badTables := [], trimBin := none, trim := 0, comp := 0,
    compBias := 0, compRef := 0,
    entry := none, reps := 0, prev := none, last := none }

end Sys2Proof.Machine
end

