-- ==== Sys2Proof/Machine/PartsLoop.lean ====
section
/-! DEFINITION. State that no register shows, of the preheat and backdrop loops (spec/ file 11). -/

namespace Sys2Proof.Machine

structure Loops where
  /-- the preheat windows that have not closed, by the second of chain time that each takes: contributing knots by
  16-TC bin (R301) -/
  hist : List (Nat × List (Nat × Nat))
  /-- the seconds whose windows have closed: all below this one -/
  phDone : Nat
  /-- valid RTD readings by the second of chain time they came in: number and sum (R305) -/
  rtd : List (Nat × Nat × Nat)
  /-- the seconds whose backdrop update is done: all below this one -/
  bkDone : Nat
  /-- seconds in a row without a valid reading (R306) -/
  rtdLost : Nat
  /-- BK_RTD has been raised for them -/
  rtdOut : Bool
  /-- outputs high now, PHT0 to PHT3 and BKD0 as bit 4, each one's on-time in ms, and the chain time at which its period
  began (R299) -/
  high : Nat
  onMs : List (Nat × Nat)
  began : List (Nat × Nat)
  deriving DecidableEq, Repr

def Loops.init : Loops := ⟨[], 0, [], 0, 0, false, 0, [], []⟩

end Sys2Proof.Machine
end

