-- ==== Sys2Proof/Machine/PartsNet.lean ====
section
/-! DEFINITION. State that no register shows, of Baind, the ports, the flash and the image tap (spec/ files 13 to 15,
17). Bytes are natural numbers below 256. -/

namespace Sys2Proof.Machine

/-! ### Baind (file 14) -/

/-- A session (R375): its key, the last authenticated sequence number, and when it was last used. -/
structure Session where
  key : List Nat
  seq : Option Nat
  last : Nat
  deriving DecidableEq, Repr

/-- A long operation (R370, OP_QUERY): status 1 while it runs. -/
structure LongOp where
  opcode : Nat
  seq : Nat
  src : Source
  status : Nat
  /-- the session key that its replies are authenticated with -/
  key : Option (List Nat)
  /-- the TAG of a mailbox request (R347) -/
  tag : Nat
  /-- a CAL_RUN whose host trigger is pending, not yet served by a calibration (R116, R371) -/
  wait : Bool
  deriving DecidableEq, Repr

/-- A reply kept for duplicates (R364): the request's bytes, the reply's bytes, and when it was sent. -/
structure CachedReply where
  src : Source
  seq : Nat
  opcode : Nat
  req : List Nat
  reply : List Nat
  sent : Nat
  deriving DecidableEq, Repr

/-- A request forwarded to other members that has not been answered by all of them (R365). -/
structure Forwarded where
  src : Source
  seq : Nat
  opcode : Nat
  waits : List Nat
  /-- members that have accepted a long operation and owe its completion -/
  owes : List Nat
  sent : Nat
  key : Option (List Nat)
  tag : Nat
  /-- the request's bytes -/
  req : List Nat
  deriving DecidableEq, Repr

structure Baind where
  sessions : List (Source × Session)
  /-- the 8 most recent, oldest first -/
  ops : List LongOp
  cache : List CachedReply
  fwd : List Forwarded
  /-- the TAG of the mailbox request being executed -/
  tag : Nat
  /-- replies to mailbox channels whose queue is full, by channel: type and tag, then bytes -/
  mbxWait : List (Nat × Nat × List Nat)
  /-- number of payloads placed in each channel's downward area -/
  mbxPut : List (Nat × Nat)
  deriving DecidableEq, Repr

def Baind.init : Baind := ⟨[], [], [], [], 0, [], []⟩

/-! ### Serial slave port (file 15) -/

structure Ssp where
  /-- READY (R391) -/
  ready : Bool
  /-- replies in the outbox, oldest first, and those that do not fit yet (R400) -/
  outbox : List (List Nat)
  waiting : List (List Nat)
  /-- ERR, END and COLL of the most recent frame (R390) -/
  err : Bool
  ended : Bool
  coll : Bool
  /-- packets in the two ordinary inbox slots, oldest first, and in the reserved slot, that the firmware has not yet
  taken (R398) -/
  inbox : List (List Nat)
  abox : Option (List Nat)
  deriving DecidableEq, Repr

def Ssp.init : Ssp := ⟨false, [], [], false, false, false, [], none⟩

/-! ### Management port -/

structure Net where
  /-- DHCP client (R381): 0 off or starting, 1 selecting, 2 requesting, 3 bound, 4 renewing, 5 rebinding -/
  dhcp : Nat
  /-- Sync messages in a row below LOCKTH (R384) -/
  good : Nat
  /-- ETH_PTPOFS is to be set at the next lock (R383) -/
  askOfs : Bool
  /-- the servo holds its rate: the residual passed 1 ms (R384) -/
  hold : Bool
  /-- an MDIO access of the host: a write's data, or none for a read -/
  mdio : Option (Option Nat)
  deriving DecidableEq, Repr

def Net.init : Net := ⟨0, 0, false, false, none⟩

/-! ### Flash, image slots, table sets (files 15, 17) -/

/-- An image slot: 0 empty, 1 writing, 2 verified, 3 committed (R366), its bytes by offset, and whether its hash
matches its commit record (R444). -/
structure Slot where
  state : Nat
  version : Nat
  size : Nat
  bytes : List (Nat × Nat)
  /-- programmed extents: offset and length -/
  progs : List (Nat × Nat)
  valid : Bool
  deriving DecidableEq, Repr

def Slot.empty : Slot := ⟨0, 0, 0, [], [], false⟩

/-- What a set of saved tables keeps of a tile: trims, skimming trims, slice factors. -/
structure SavedTile where
  tile : Nat
  trims : List (Nat × Nat)
  skims : List (Nat × Nat)
  factors : List (Nat × Int × Int)
  deriving DecidableEq, Repr

/-- One complete set of saved tables (R448). -/
structure SavedSet where
  loads : List (Nat × Nat)
  pb : List (Nat × Nat)
  tref : Nat
  osel : Nat
  tiles : List SavedTile
  cls : List (Nat × Nat)
  map : List (Nat × Nat)
  braid : List (Nat × Nat)
  braidK : Nat
  auto : Bool
  deriving DecidableEq, Repr

structure Flash where
  slotA : Slot
  slotB : Slot
  /-- the slot that booted, and what the activation record names (R444, R445) -/
  booted : Nat
  active : Nat
  trial : Bool
  tries : Nat
  prev : Nat
  /-- in recovery (R446) -/
  recovery : Bool
  /-- BOOTS as the boot record keeps it (R433) -/
  boots : Nat
  saved : Option SavedSet
  /-- the journal slot pair that holds the newest complete set (R448) -/
  pair : Nat
  /-- the device key in the flash configuration; none set when empty (R374) -/
  devkey : List Nat
  /-- TMX_CTRL.DBGEN as the flash configuration has it (R456) -/
  dbgen : Bool
  /-- the set that a save has read and is writing -/
  saving : Option SavedSet
  /-- prefetch lines held, least recently used first (R406), and misses that wait, management core first -/
  lines : List Nat
  misses : List (Bool × Nat)
  /-- a sequential line that is to follow -/
  seqLine : Option Nat
  suspended : Bool
  /-- address and length of each program or erase in progress, oldest first (R409) -/
  op : List (Nat × Nat)
  /-- the log ring of 32,768 entries by place, the place written next, and the SEQ after the newest entry (R355,
  R357) -/
  log : List (Nat × LogEntry)
  logNext : Nat
  logSeq : Nat
  deriving DecidableEq, Repr

def Flash.init : Flash :=
  { slotA := { Slot.empty with state := 3, valid := true }, slotB := Slot.empty, booted := 0, active := 0,
    trial := false, tries := 0, prev := 0, recovery := false, boots := 0, saved := none, pair := 0, devkey := [],
    dbgen := false, saving := none, lines := [], misses := [], seqLine := none, suspended := false, op := [], log := [], logNext := 0, logSeq := 0 }

/-! ### Image tap (R385, R386) -/

/-- A tap record: header words 0 to 15, and its data as units of 1, 2, 4 or 8 bytes by unit index (unlisted: 0). -/
structure TapRec where
  hdr : List Nat
  unit : Nat
  units : Nat
  data : List (Nat × Nat)
  deriving DecidableEq, Repr

/-- A frame record being filled: frame, its stamp, row groups still to come, and the record. -/
structure TapOpen where
  frame : Nat
  left : Nat
  record : TapRec
  deriving DecidableEq, Repr

structure Tap where
  /-- items seen since the last one taken -/
  count : Nat
  opened : List TapOpen
  /-- records that the ring still holds, by record index -/
  ring : List (Nat × TapRec)
  /-- a TAP_GRAB: records still to take, first index, taken, missed -/
  grab : Option (Nat × Nat × Nat × Nat)
  /-- staging words in error that were passed on (R315): the tap's error count -/
  errs : Nat
  deriving DecidableEq, Repr

def TapRec.none : TapRec := ⟨[], 2, 0, []⟩
def Tap.init : Tap := ⟨0, [], [], .none, 0⟩

end Sys2Proof.Machine
end

