-- ==== Sys2Proof/Machine/PartsPixel.lean ====
section
/-! DEFINITION. State that no register shows, of correction, calibration, the backdrop tracker and the test modes
(spec/ files 04, 05, 18). -/

namespace Sys2Proof.Machine

/-- Marks posted for a pixel record, held until the pipeline's next read applies them (R97, R98). -/
structure Mark where
  /-- calibration: BADSRC becomes 2 or 0 -/
  bad : Option Nat
  frz : Option Bool
  /-- a memory-error mark, with the sub-word in error, while its tile is blind -/
  mem : Option Nat
  deriving DecidableEq, Repr

def Mark.empty : Mark := ⟨none, none, none⟩

/-- The offset blend (R101 to R103). -/
inductive BlendPhase where
  | idle
  /-- started, applies at the boundary of this count -/
  | waiting (due : Nat)
  | running
  | reversing
  deriving DecidableEq, Repr

/-- A flip asked for, not yet applied: the boundary of R100, and whether it waits for the tile's trims (R104). -/
structure FlipReq where
  due : Nat
  tied : Bool
  deriving DecidableEq, Repr

/-- What the pipeline corrects, unlays and braids one frame with, fixed at its boundary (R93). -/
structure FrameCtx where
  frame : Nat
  start : Nat
  rate : Nat
  stage : Nat
  trefA : Nat
  trefB : Nat
  osel : Nat
  /-- blend weight in 1/65,536 (R101) -/
  w : Nat
  v0 : Nat
  /-- bad lanes, 32 to a word (R108) -/
  badLanes : List Nat
  /-- tile and slice with FAIL and no spare parked (R81), as 256 * tile + slice -/
  badSlices : List Nat
  /-- tiles blind in the frame (R457) -/
  blindTiles : Nat
  /-- shutter blind time (R120) -/
  blind : Bool
  dip : Bool
  /-- the tracker is held (R143, R144, R461) -/
  trkHeld : Bool
  anchor : Nat
  anchorEver : Bool
  /-- unlay: strength, bypass and the coefficient set (R147, R155) -/
  lambda : Nat
  bypass : Bool
  /-- UNL frames left over from a change of unlay settings (R153) -/
  unlAll : Bool
  /-- flag factors, coded as BRD_FLAGW (R164, R175) -/
  flagw : Nat
  deriving DecidableEq, Repr

structure Corr where
  /-- pixel records by table address (R112) -/
  pb : List (Nat × Nat)
  marks : List (Nat × Mark)
  blend : BlendPhase
  /-- N of the blend that waits or runs -/
  blendN : Nat
  flips : List (Nat × Option FlipReq)
  ctx : List FrameCtx
  /-- ΔT was clamped in the last frame (R92) -/
  clamped : Bool
  deriving DecidableEq, Repr

def Corr.init : Corr := ⟨[], [], .idle, 0, [], [], false⟩

/-- The settings a calibration latches at its grant or start (file 05, CAL registers). -/
structure CalCfg where
  policy : Bool
  rejrow : Bool
  frames : Nat
  settle : Nat
  ramp : Nat
  limofs : Nat
  frac : Nat
  newbad : Nat
  drift : Nat
  noise : Nat
  resume : Nat
  trimwin : Nat
  deriving DecidableEq, Repr

def CalCfg.init : CalCfg := ⟨false, false, 1024, 40, 512, 1500, 5, 64, 20, 12, 1400, 1000⟩

/-- The capture sums of one pixel: usable samples, their sum and sum of squares, in half codes (R124). -/
structure CapSum where
  n : Nat
  sum : Int
  sq : Nat
  deriving DecidableEq, Repr

def CapSum.zero : CapSum := ⟨0, 0, 0⟩

structure Cal where
  cfg : CalCfg
  /-- triggers this calibration serves, bit order of CAL_STATUS.PENDING -/
  served : Nat
  orphan : Bool
  /-- grant received: the boundary's chain time from which closing may begin -/
  grantAt : Option Nat
  /-- chain time at which the request was made -/
  asked : Nat
  /-- B0 of this calibration, plus one; 0: not blind -/
  blindFrom : Nat
  /-- settling ended: capture begins at the next boundary (R120) -/
  settled : Bool
  capLeft : Nat
  capStamp : Nat
  /-- the first frame of the capture -/
  capFirst : Nat
  caps : List (Nat × CapSum)
  stMin : Nat
  stMax : Nat
  /-- tiles blind at any time in the capture -/
  blindTiles : Nat
  /-- results: failing code of R131 or none; ready means computed -/
  ready : Bool
  failCode : Nat
  tcap : Nat
  /-- O_new of the pixels that passed, in quarter codes -/
  onew : List (Nat × Nat)
  /-- BADSRC candidates: pixel, new value -/
  cands : List (Nat × Nat)
  /-- pixels that failed the offset check in this and in the last calibration that passed -/
  ofsFail : List Nat
  ofsFailPrev : List Nat
  /-- m_p of the captured pixels in 1/16 code, as the trim steps move it (R136) -/
  mp : List (Nat × Nat)
  /-- the attempt has ended; only its blind time or its pending flips remain -/
  dead : Bool
  /-- the idle slots hold the new offsets (R133) -/
  written : Bool
  /-- the blend has reached its flip: this calibration has succeeded (R135) -/
  success : Bool
  /-- the slot copy after the flip is under way (R135) -/
  copying : Bool
  /-- chain time of the flag's closing confirmation -/
  closedAt : Nat
  /-- chain time of the release of LY, for the open timeout -/
  releasedAt : Nat
  /-- flag confirmed open at this chain time plus one; 0: not yet -/
  openAt : Nat
  /-- trim hand-off: frames used, and steps outstanding -/
  handFrames : Nat
  /-- offsets to rewrite in both slots once the steps have applied: pixel and quarter codes -/
  steps : List (Nat × Nat)
  /-- chain time of the last attempt's end plus one, and of the end of the last successful calibration -/
  lastEnd : Nat
  lastOk : Nat
  /-- the drift and interval conditions at the last evaluation, as trigger bits (R115, R116) -/
  conds : Nat
  /-- triggers whose grant timed out, and the chain time at which they are retried (R121) -/
  deferred : Nat
  deferAt : Nat
  /-- power-up attempts that failed (R430), and the chain time before which none starts -/
  tries : Nat
  retryAt : Nat
  /-- the power-up calibration has succeeded since warm-up began (R429, R430) -/
  powered : Bool
  /-- triggers interrupted by a dip, retried without the wait of R117 (R137) -/
  dipRetry : Nat
  deriving DecidableEq, Repr

def Cal.init : Cal :=
  { cfg := CalCfg.init, served := 0, orphan := false, grantAt := none, asked := 0, blindFrom := 0, settled := false,
    capLeft := 0, capStamp := 0, capFirst := 0, caps := [], stMin := 0, stMax := 0, blindTiles := 0,
    ready := false, failCode := 0, tcap := 0, onew := [], cands := [], ofsFail := [], ofsFailPrev := [],
    mp := [], dead := false, written := false, success := false, copying := false, closedAt := 0, releasedAt := 0,
    openAt := 0, handFrames := 0, steps := [], lastEnd := 0, lastOk := 0, conds := 0, deferred := 0, deferAt := 0,
    tries := 0, retryAt := 0, powered := false, dipRetry := 0 }

/-- The steps of a backdrop gain refresh (R144). -/
inductive GrefPhase where
  | idle
  | window1
  | wait
  | window2
  | back
  deriving DecidableEq, Repr

structure Gref where
  phase : GrefPhase
  /-- per-pixel backdrop samples of the windows: count and sum of r_n in half codes -/
  w1 : List (Nat × CapSum)
  w2 : List (Nat × CapSum)
  /-- frames counted in each window -/
  n1 : Nat
  n2 : Nat
  /-- RTD readings in each window, and their sums: the window's mean T_RTD (R144) -/
  rtdN1 : Nat
  rtdSum1 : Nat
  rtdN2 : Nat
  rtdSum2 : Nat
  /-- the refresh offset of 5 K is in force (R308) -/
  raised : Bool
  /-- refreshed gains held (R146) -/
  held : List (Nat × Nat)
  deriving DecidableEq, Repr

def Gref.init : Gref := ⟨.idle, [], [], 0, 0, 0, 0, 0, 0, false, []⟩

/-- One sample of a row group for the tracker: pixel, TC, normalised code in half codes, and whether every condition of
R138 but the last holds. -/
structure TrkSample where
  pix : Nat
  tc : Nat
  r2 : Int
  fit : Bool
  deriving DecidableEq, Repr

/-- A tile's corrected row group that waits for its neighbours' before the hot test (R138), with the frame's anchor,
whether one has ever been valid, and whether the tracker is held (R141, R143, R461). -/
structure TrkItem where
  tile : Nat
  frame : Nat
  rgrp : Nat
  anchor : Nat
  ever : Bool
  held : Bool
  samples : List TrkSample
  deriving DecidableEq, Repr

structure Trk where
  /-- backdrop samples of this share window by pixel (R140) -/
  share : List (Nat × Nat)
  /-- sums of backdrop TC in this window, for the median of R141 -/
  tcSum : List (Nat × Nat)
  /-- a full window is open -/
  full : Bool
  /-- last frame in which a row group of a lane was hot, plus one, by 16 * lane + row group -/
  hot : List (Nat × Nat)
  wait : List TrkItem
  /-- the last row group released by each tile, as 16 * frame + row group plus one -/
  released : List (Nat × Nat)
  /-- REF_l by lane, and whether the first completed slice has set it (R142) -/
  refs : List (Nat × Nat)
  refSet : Bool
  /-- A has once been valid -/
  ever : Bool
  deriving DecidableEq, Repr

def Trk.init : Trk := ⟨[], [], false, [], [], [], [], false, false⟩

structure Tmx where
  /-- the mode in force, and one staged with its boundary (R461) -/
  mode : Nat
  modeDue : Option (Nat × Nat)
  /-- blind bits in force and staged writes with their boundaries (R457) -/
  blind : Nat
  blindDue : List (Nat × Nat)
  /-- the replay buffer (R463) -/
  buf : List (Nat × Nat)
  /-- frame being captured, once it has begun -/
  capFrame : Option Nat
  capGot : Nat
  /-- the boundary-scan instruction in force (R455) -/
  jtag : JtagInstr
  /-- harts halted by the debug module (R456) -/
  halted : List Nat
  deriving DecidableEq, Repr

def Tmx.init : Tmx := ⟨0, none, 0, [], [], none, 0, .bypass, []⟩

end Sys2Proof.Machine
end

