-- ==== Sys2Proof/Machine/PartsSensor.lean ====
section
/-! DEFINITION. State that no register shows, of the sensor tier and the tether (spec/ files 02, 03). -/

namespace Sys2Proof.Machine

/-- What a spare slice is doing (R72, R73). -/
inductive SparePhase where
  | idle
  | serving
  | parked
  deriving DecidableEq, Repr

structure Spare where
  phase : SparePhase
  /-- the slice served or parked on -/
  slice : Nat
  /-- chain time of its next scheduled hand-over -/
  due : Nat
  /-- a park asked for, taken at the next exit or row-group boundary (R460) -/
  parkOn : Option Nat
  /-- the spare takes part in the rotation (R72, R77) -/
  rot : Bool
  /-- a release asked for, taken at the next row-group boundary (R460) -/
  release : Bool
  deriving DecidableEq, Repr

def Spare.init : Spare := ⟨.idle, 0, 0, none, false, false⟩

/-- A factor entry (R63) with what R76 keeps beside it. -/
structure Factor where
  gain : Int
  ofs : Int
  fail : Bool
  /-- visits in a row whose exit difference exceeded SWAPLIM -/
  overs : Nat
  deriving DecidableEq, Repr

/-- Gain 1.0 and offset 0: what an entry holds for want of the factory's own (log entry 4). -/
def Factor.unity : Factor := ⟨0x4000, 0, false, 0⟩

/-- A hand-over at the row-group boundary now due (R74): spare, slice, direction. -/
structure SwapNow where
  spare : Nat
  slice : Nat
  exit : Bool
  deriving DecidableEq, Repr

/-- What a tile of the sensor tier holds. -/
structure Tile where
  /-- gain in force -/
  gain : Nat
  /-- settling frames remaining, this one included (R40, R68) -/
  settle : Nat
  /-- SETTLE frames owed from the next boundary on, after self-calibration (R79) -/
  owed : Nat
  /-- header of the row group that integrates now -/
  integ : Option Header
  /-- lanes that carried OVR in the last row group and the one before (R46) -/
  ovr1 : List Nat
  ovr2 : List Nat
  swap : Option SwapNow
  /-- row groups on the lane, oldest first -/
  sent : List RowGroup
  spares : List (Nat × Spare)
  /-- the slice the next entering spare takes (R72) -/
  next : Nat
  /-- factor entries: slices 0 to 255, spare i at 256 + i -/
  factors : List (Nat × Factor)
  /-- pixel trims in force and as last written -/
  trims : List (Nat × Nat)
  trimsW : List (Nat × Nat)
  /-- skimming trims in force, by lane of the tile -/
  skims : List (Nat × Nat)
  deriving DecidableEq, Repr

def Tile.init : Tile := ⟨2, 7, 0, none, [], [], none, [], [], 0, [], [], [], []⟩

/-- A tile's tether receiver (R84 to R89). -/
structure Rx where
  /-- a slip was detected and the lane has not realigned -/
  slipped : Bool
  /-- row groups up to the end of this frame are INVALID -/
  through : Option Nat
  /-- the place of the next row group: frame and row group -/
  frame : Nat
  rgrp : Nat
  /-- frame in which the present slip was detected or last reported again -/
  slipFrame : Nat
  /-- row groups received and not yet released, oldest first -/
  fifo : List RowGroup
  /-- a frame that a rejoin has ended, and its first row group that never began (R419) -/
  cut : Option (Nat × Nat)
  deriving DecidableEq, Repr

def Rx.init : Rx := ⟨false, none, 0, 0, 0, [], none⟩

/-- A setting staged for the sensor tier (R38). -/
inductive Setting where
  | frate (v : Nat)
  | biasEn (on : Bool)
  | level (v : Nat)
  | gain (tile v : Nat)
  | trim (tile i v : Nat)
  | skim (tile i : Nat) (v : Nat)
  /-- the calibration manager's trim steps of one tile (R136) -/
  | handoff (tile : Nat) (steps : List (Nat × Nat))
  /-- a slice factor pair and a self-calibration command that a lost control lane holds up (R83, R88) -/
  | factor (tile k : Nat) (gain ofs : Int)
  | scal (tile : Nat)
  deriving DecidableEq, Repr

/-- A staged setting: chain time of the write, and the count of the boundary at which it applies once it has
arrived. -/
structure Staged where
  what : Setting
  written : Nat
  due : Option Nat
  /-- a flip of its tile waits for this trim (R104) -/
  tied : Bool
  deriving DecidableEq, Repr

structure Sensor where
  /-- chain time of boundary number 0 of the present grid, and the present frame's number on it (R36) -/
  gridBase : Nat
  gridK : Nat
  rate : Nat
  /-- this frame is the first at a new rate (R69) -/
  partialF : Bool
  level : Nat
  biasEn : Bool
  /-- boundaries of the bias ramp passed; 0: no ramp (R60) -/
  rampJ : Nat
  /-- the module removes bias at the next boundary (R59, R287, R439) -/
  removeBias : Bool
  staged : List Staged
  /-- the downward control lane has lost lock (R88) -/
  laneLost : Bool
  /-- after relock: row groups up to this frame are INVALID -/
  lostThrough : Option Nat
  tiles : List (Nat × Tile)
  rx : List (Nat × Rx)
  deriving DecidableEq, Repr

def Sensor.init : Sensor :=
  { gridBase := 0, gridK := 0, rate := 7000, partialF := false, level := 0, biasEn := false, rampJ := 0,
    removeBias := false, staged := [], laneLost := false, lostThrough := none, tiles := [], rx := [] }

/-- The stage loop (R51 to R58). -/
structure Stage where
  /-- chain time since which the stage has stayed inside the lock band, plus one; 0: it is outside -/
  inBand : Nat
  /-- the loop target in µK, as it moves at 0.2 K/s -/
  targetUk : Nat
  /-- the precision sensors have been read since the reset -/
  seen : Bool
  /-- consecutive reads in which a sensor differed by more than 50 mK from its reference, by sensor (R57) -/
  dis : List (Nat × Nat)
  /-- chain time since which an excluded sensor agrees within 10 mK, plus one, by sensor (R57) -/
  agree : List (Nat × Nat)
  deriving DecidableEq, Repr

def Stage.init : Stage := ⟨0, 50000000, false, [], []⟩

end Sys2Proof.Machine
end

