-- ==== Sys2Proof/Machine/PartsValve.lean ====
section
/-! DEFINITION. State that no register shows, of valve and lanyard drive (spec/ file 09). -/

namespace Sys2Proof.Machine

/-- One channel's drive; LY is channel 128. -/
structure Drive where
  /-- chain time at which a waiting request's ARB_WAIT runs out (R251) -/
  waitEnd : Nat
  /-- the profile that the firing took at its gate-on (R245), as IPEAK, TPMAX, FALLBACK, IHOLD, FCHOP, FBTPMAX,
  OWSTART, OWEND, CWSTART, CWEND, R20, RTH, TAUTH -/
  prof : List Nat
  on : Nat
  off : Nat
  /-- the decay follows a close, so it ends at current zero (R240) -/
  after : Bool
  /-- opening detection is under way, and closing detection (R257 to R260) -/
  openW : Bool
  closeW : Bool
  /-- consecutive firings that ended by open load, and whether this one did not (R266) -/
  loads : Nat
  /-- coil temperature above 40 °C, in 1/2^24 K (R262) -/
  theta : Int
  /-- the blind firing is held closed by the coil limit (R128) -/
  held : Bool
  /-- how the coil is chopped in hold: 0 not, 1 by its own low side, 2 by the bank supply switch with the low side on
  (R242, R248) -/
  chop : Nat
  /-- in hold since before the chop period that runs now (R266) -/
  whole : Bool
  /-- decays slowly with its low side kept on, as it closed during boost overvoltage (R239) -/
  slow : Bool
  deriving DecidableEq, Repr

def Drive.init : Drive := ⟨0, [], 0, 0, false, false, false, 0, 0, false, 0, false, false⟩

/-- A bank's supply switch while it chops: the channel whose hold it regulates, as the channel plus one (0 while it does
not chop), its frequency in kHz and the current it regulates to, in 2 mA (R246, R247). -/
structure Supply where
  lead : Nat
  freq : Nat
  hold : Nat
  deriving DecidableEq, Repr

def Supply.off : Supply := ⟨0, 0, 0⟩

structure Valves where
  drives : List (Nat × Drive)
  /-- the closing that each bank's drain converter observes, as the channel plus one (R259) -/
  obs : List (Nat × Nat)
  /-- the supply switches of the banks; bank 16 is LY's (R246) -/
  supply : List (Nat × Supply)
  /-- the last tick, as chain time in ns, at which tokens were freed, and how many boost and fallback tokens (R251) -/
  freedAt : Nat
  freed : Nat × Nat
  deriving DecidableEq, Repr

def Valves.init : Valves := ⟨[], [], [], 0, (0, 0)⟩

end Sys2Proof.Machine
end

