-- ==== Sys2Proof/Machine/State.lean ====
section
/-! DEFINITION. The state of the block as plain data, the reasons a step can stop, and the state after reset. -/

namespace Sys2Proof.Machine

/-- Why the block stops: it never does. A requester's access that is not carried out faults that requester alone (R315,
R340, R341), which `Out.busError` and `Out.dmaError` tell. -/
inductive Fault where
  deriving DecidableEq, Repr

/-- Why a command has no meaning. -/
inductive Refusal where
  /-- raised by an arm of `exec` whose command has no meaning yet. Safe. -/
  | notModelled (mnemonic : String)
  deriving DecidableEq, Repr

structure State where
  /-- the commands that wait, first in, first out -/
  pending : List Instr
  fuses : Fuses
  /-- chain time in ns (R8) -/
  time : Nat
  /-- the register fields that differ from their reset values, by field key -/
  regs : List (Nat × Nat)
  /-- how many free values have been drawn (log entry 2): the model's own field -/
  free : Nat
  power : Power
  evt : Evt
  mem : MemSys
  wins : List (Nat × Win)
  mbx : List (Nat × MbxChan)
  sensor : Sensor
  stage : Stage
  corr : Corr
  cal : Cal
  gref : Gref
  trk : Trk
  tmx : Tmx
  loops : Loops
  live : Live
  braid : Braid
  knots : KStage
  sched : Sched
  valves : Valves
  chain : Chain
  baind : Baind
  ssp : Ssp
  net : Net
  flash : Flash
  tap : Tap
  house : House
  /-- bytes of FB, by offset (R340, R347); unlisted bytes read 0 (log entry 32) -/
  fb : List (Nat × Nat)
  bus : Bus
  /-- what the block has sent or given back, oldest first (log entry 30): the model's own field -/
  outs : List Out
  deriving DecidableEq, Repr

/-- The fuses and straps that the model's own part has: an NK2048 with every identity field 0 and no strap set (log
entry 4). -/
def Fuses.init : Fuses :=
  { nk1024 := false, srev := 0, lrev := 0, serial := 0, strap := false, mac := 0, keyHash := 0,
    dev := ⟨0, 32, true, 2, true⟩ }

def b2nF (b : Bool) : Nat := if b then 1 else 0

/-- The registers that differ from their field resets at the release of a reset: the identity that the fuses give
(file 13, GLB registers), the reset cause (R432), FAULT_N low in boot (R428), the place in the log (R355). -/
def resetRegs (f : Fuses) (fl : Flash) (cause : Nat) : List (Nat × Nat) :=
  let put := fun (m : List (Nat × Nat)) (p : Fld × Nat) => mset p.1.reset m p.1.key (p.2 % 2 ^ p.1.width)
  [(Reg.GLB_IDENT_PART, if f.nk1024 then 0x1024 else 0x2048), (Reg.GLB_IDENT_SREV, f.srev),
   (Reg.GLB_IDENT_LREV, f.lrev), (Reg.GLB_SERIAL_LO_SN, f.serial), (Reg.GLB_SERIAL_HI_SN, f.serial / 2 ^ 32),
   (Reg.GLB_STAT_FAULT, 1), (Reg.GLB_RSTCAUSE_CAUSE, cause), (Reg.CHN_STAT_STRAP, b2nF f.strap),
   (Reg.TMX_IDCODE_IDCODE, f.lrev % 16 * 2 ^ 28 + (if f.nk1024 then 0x1024 else 0x2048) * 2 ^ 12 + 0x5B3 * 2 + 1),
   (Reg.ETH_MAC_LO_MAC, f.mac), (Reg.ETH_MAC_HI_MAC, f.mac / 2 ^ 32), (Reg.ETH_STAT_KEYSET, b2nF (fl.devkey != [])),
   (Reg.EVT_LOGSEQ_SEQ, fl.logSeq), (Reg.EVT_FLASHPOS_NEXT, fl.logNext)].foldl put []

/-- The state at the release of a reset (R428, R433, R436): what survives is the fuses, the flash and the cause latch. -/
def State.fresh (f : Fuses) (fl : Flash) (cause free : Nat) (outs : List Out) : State :=
  { pending := [], fuses := f, time := 0, regs := resetRegs f fl cause, free := free,
    power := ⟨.on, cause, 0, false, false⟩, evt := Evt.init, mem := MemSys.init, wins := [], mbx := [], sensor := Sensor.init,
    stage := Stage.init, corr := Corr.init, cal := Cal.init, gref := Gref.init, trk := Trk.init, tmx := Tmx.init,
    loops := Loops.init, live := Live.init, braid := Braid.init, knots := KStage.init, sched := Sched.init,
    valves := Valves.init, chain := Chain.init, baind := Baind.init, ssp := Ssp.init, net := Net.init, flash := fl,
    tap := Tap.init, house := House.init, fb := [], bus := Bus.init, outs := outs }

/-- The machine right after reset: the release of the reset of a first power-on (R428, R432). -/
def State.reset : State := State.fresh Fuses.init Flash.init 1 0 []

end Sys2Proof.Machine
end

