-- ==== Sys2Proof/Machine/Ops.lean ====
section
/-! DEFINITION. The named operations over State that every meaning is made of: register fields, free values, chain
time, event occurrences and log entries. -/

namespace Sys2Proof.Machine

/-- The next state of a command that completes. -/
abbrev ok (s : State) : Host.Outcome State Fault Refusal := .next s

/-! ### Register fields -/

def State.get (s : State) (f : Fld) : Nat := mget f.reset s.regs f.key

/-- Write a field, cut to its width. -/
def State.set (s : State) (f : Fld) (v : Nat) : State :=
  { s with regs := mset f.reset s.regs f.key (v % 2 ^ f.width) }

def State.flag (s : State) (f : Fld) : Bool := s.get f == 1

def State.setB (s : State) (f : Fld) (b : Bool) : State := s.set f (b2n b)

/-- Read a field as two's complement. -/
def State.getS (s : State) (f : Fld) : Int := sgn f.width (s.get f)

def State.setS (s : State) (f : Fld) (v : Int) : State := s.set f (unsgn f.width v)

/-- Count up, saturating at the field's width. -/
def State.bumpBy (s : State) (f : Fld) (n : Nat) : State := s.set f (satAdd f.width (s.get f) n)

def State.bump (s : State) (f : Fld) : State := s.bumpBy f 1

/-- Count up, wrapping. -/
def State.incr (s : State) (f : Fld) : State := s.set f (s.get f + 1)

/-- Write the halves of a 64-bit value. -/
def State.setPair (s : State) (lo hi : Fld) (v : Nat) : State :=
  (s.set lo (v % 2 ^ 32)).set hi (v / 2 ^ 32)

/-- Set bit `i` of a field. -/
def State.setBit (s : State) (f : Fld) (i : Nat) : State := s.set f (s.get f ||| 2 ^ i)

def State.clrBit (s : State) (f : Fld) (i : Nat) : State := s.set f (andNot (s.get f) (2 ^ i))

/-! ### Free values -/

/-- Draw a free value (log entry 2). -/
def State.draw (s : State) : Nat × State := (Config.freeValue s.free, { s with free := s.free + 1 })

/-! ### The variant (R3) -/

def State.nTiles (s : State) : Nat := if s.fuses.nk1024 then 16 else 32
def State.nLanes (s : State) : Nat := if s.fuses.nk1024 then 1024 else 2048
def State.nChans (s : State) : Nat := if s.fuses.nk1024 then 64 else 128
def State.nBanks (s : State) : Nat := if s.fuses.nk1024 then 8 else 16

/-! ### Module state (R427) -/

open Reg

def State.mode (s : State) : Nat := s.get GLB_STAT_STATE

/-- Sorting runs: STATE is 3 (R427). -/
def State.sorting (s : State) : Bool := s.mode == 3

/-- Out of reset. -/
def State.isOn (s : State) : Bool := s.power.phase == .on

/-- Chain time goes forward to an instant, never back. -/
def State.advance (s : State) (t : Nat) : State := { s with time := max s.time t }

/-- A GLB_TBL window or latch of a requester (R321, R343). -/
def reqIndex : Requester → Nat
  | .mgmt => 0
  | .hart h => 1 + h % 4
  | .ssp => 5
  | .fw => 6
  | .dma => 7

/-- The port code of R318. -/
def reqPort : Requester → Nat
  | .hart _ | .dma => 4
  | .ssp => 6
  | .mgmt | .fw => 5

/-- The application cluster: its cores and its DMA engine (R312). -/
def isCluster : Requester → Bool
  | .hart _ | .dma => true
  | .mgmt | .ssp | .fw => false

def State.win (s : State) (r : Requester) : Win := mget Win.init s.wins (reqIndex r)

def State.setWin (s : State) (r : Requester) (w : Win) : State :=
  { s with wins := mset Win.init s.wins (reqIndex r) w }

/-! ### Events (R348 to R354) -/

namespace Src

def drop (n : Nat) : Nat := 3 * n
def notMoved (n : Nat) : Nat := 3 * n + 1
def coilLimit (n : Nat) : Nat := 3 * n + 2
def overrange (n : Nat) : Nat := 384 + 4 * n
def tetherSlip (n : Nat) : Nat := 385 + 4 * n
def convFault (n : Nat) : Nat := 386 + 4 * n
def convCal (n : Nat) : Nat := 387 + 4 * n
def bkRailShort (b : Nat) : Nat := 512 + 4 * b
def bkChFault (b : Nat) : Nat := 513 + 4 * b
def bkOpenLoad (b : Nat) : Nat := 514 + 4 * b
def bkPeakTo (b : Nat) : Nat := 515 + 4 * b
def memTable : Nat := 617
def memMgt : Nat := 619
def ddrEcc : Nat := 621
def memTestFail : Nat := 622
def writeOverlap : Nat := 623
def tetherCtl : Nat := 624
def corDtclamp : Nat := 625
def corLaneBad : Nat := 626
def brdCfg : Nat := 627
def brdLate : Nat := 628
def brdTracked : Nat := 629
def kntFull : Nat := 630
def kntSplit : Nat := 631
def vrdNoElig : Nat := 632
def ejsLate : Nat := 633
def calDone : Nat := 634
def calFail : Nat := 635
def calAbort : Nat := 636
def lanyardFault : Nat := 637
def trkAnchor : Nat := 638
def grefDone : Nat := 639
def tapOverrun : Nat := 640
def tapHalt : Nat := 641
def thm (power : Bool) (level : Nat) : Nat := 664 + 3 * b2n power + level
def thmSensor : Nat := 670
def stageUnreg : Nat := 671
def stageSensor : Nat := 672
def stageOvertemp : Nat := 673
def vinDip : Nat := 688
def vinOverbudget : Nat := 689
def vvalWarn : Nat := 690
def vvalLow : Nat := 691
def vvalHigh : Nat := 692
def boostOv : Nat := 693
def ethLink : Nat := 720
def ethRxErr : Nat := 721
def ptpLock : Nat := 722
def baindErr : Nat := 723
def baindAuth : Nat := 724
def sspErr : Nat := 725
def flsErr : Nat := 726
def hitch : Nat := 744
def orphan : Nat := 745
def rejoin : Nat := 746
def spliceDrop : Nat := 747
def grantTo : Nat := 748
def chnLinkErr : Nat := 749
def phStale : Nat := 760
def bkRtd : Nat := 761
def bkOver : Nat := 762
def opDone : Nat := 763
def logLost : Nat := 764
def imgFail : Nat := 765
def coreOffline : Nat := 766
def fwFault : Nat := 767

/-- The event source of a memory bank of R312 (R334); 57 is the table memories. -/
def ofBank (b : Nat) : Nat :=
  if b < 32 then 576 + b else if b < 48 then 608 + (b - 32) / 2 else if b = 48 then 616 else if b = 49 then 617
  else if b < 55 then 618 else if b = 55 then 619 else if b = 56 then 620 else 617

end Src

/-- Whether a source can assert: not reserved (R348), not of an absent tile, channel or bank (R4, R312). -/
def State.srcExists (s : State) (src : Nat) : Bool :=
  if src < 384 then decide (src / 3 < s.nChans)
  else if src < 512 then decide ((src - 384) / 4 < s.nTiles)
  else if src < 576 then decide ((src - 512) / 4 < s.nBanks)
  else if src < 608 then decide (src - 576 < s.nTiles)
  else decide (src < 642 ∨ (664 ≤ src ∧ src < 674) ∨ (688 ≤ src ∧ src < 694) ∨ (720 ≤ src ∧ src < 727)
    ∨ (744 ≤ src ∧ src < 750) ∨ (760 ≤ src ∧ src < 768))

/-- The ROUTE field of a source (R352). -/
def routeFld (src : Nat) : Fld :=
  match src % 4 with
  | 0 => EVT_ROUTE_ROUTE0 (src / 4)
  | 1 => EVT_ROUTE_ROUTE1 (src / 4)
  | 2 => EVT_ROUTE_ROUTE2 (src / 4)
  | _ => EVT_ROUTE_ROUTE3 (src / 4)

/-- The CNT field of a source (R349). -/
def cntFld (src : Nat) : Fld :=
  match src % 4 with
  | 0 => EVT_CNT_CNT0 (src / 4)
  | 1 => EVT_CNT_CNT1 (src / 4)
  | 2 => EVT_CNT_CNT2 (src / 4)
  | _ => EVT_CNT_CNT3 (src / 4)

/-- EVT_EN[19] resets to 0xFFFF_7FFF, so that WRITE_OVERLAP is off (file 13, EVT registers). -/
def enFld (g : Nat) : Fld :=
  if g = 19 then { EVT_EN_EN 19 with reset := 0xFFFF7FFF } else EVT_EN_EN g

def State.srcEnabled (s : State) (src : Nat) : Bool := bitOf (s.get (enFld (src / 32))) (src % 32)

def State.srcStatus (s : State) (src : Nat) : Bool := bitOf (s.get (EVT_STAT_STAT (src / 32))) (src % 32)

/-- A source is active for destination `d` (R352). -/
def State.srcActive (s : State) (d src : Nat) : Bool :=
  s.srcStatus src && s.srcEnabled src && bitOf (s.get (routeFld src)) d

/-- EVT_SUM[d] (R352). -/
def State.evtSum (s : State) (d : Nat) : Nat :=
  sumN ((List.range 24).map fun g =>
    if s.get (EVT_STAT_STAT g) ≠ 0 ∧ (List.range 32).any (fun b => s.srcActive d (32 * g + b)) then 2 ^ g else 0)

/-- EN and PULSE of pin EVTi (R354). -/
def pinEn (i : Nat) : Fld := { EVT_PINCFG_EN0 with lo := 4 * i }
def pinPulse (i : Nat) : Fld := { EVT_PINCFG_PULSE0 with lo := 4 * i + 2 }

def State.pin (s : State) (i : Nat) : PinState := mget PinState.idleP s.evt.pins i

def State.setPin (s : State) (i : Nat) (p : PinState) : State :=
  { s with evt := { s.evt with pins := mset PinState.idleP s.evt.pins i p } }

/-- EVTi is asserted (R354). -/
def State.pinActive (s : State) (i : Nat) : Bool :=
  s.flag (pinEn i) && (if s.flag (pinPulse i) then (s.pin i).phase == .pulse else s.evtSum (2 + i) != 0)

/-- An occurrence reaches pin EVTi in pulse mode: a pulse of 1 µs starts, or one further pulse is owed (R354). -/
def State.pinOccur (s : State) (i : Nat) : State :=
  if s.flag (pinEn i) && s.flag (pinPulse i) then
    let p := s.pin i
    if p.phase = .idle ∨ (p.phase = .gap ∧ p.again = false ∧ p.since + 1000 ≤ s.time) then
      s.setPin i ⟨.pulse, false, s.time⟩
    else s.setPin i { p with again := true }
  else s

/-! ### Accesses to memory banks (R327, R331) -/

/-- The retention group of a bank of R312, by bit of MEM_RETCTL. -/
def retGroupOf (bank : Nat) : Option Nat :=
  if bank < 32 then some 0 else if bank < 48 then some 2 else if bank = 48 then some 1 else if bank = 49 then some 3
  else if 51 ≤ bank ∧ bank ≤ 54 then some (bank - 47) else none

/-- A port other than the tester accesses a word: a test of its bight aborts, a retained group begins to wake. -/
def State.touch (s : State) (bank word : Nat) : State :=
  let s := match retGroupOf bank with
    | some g => if bitOf (s.get MEM_RETSTAT_RET) g && !s.mem.waking.contains g then
        { s with mem := { s.mem with waking := s.mem.waking ++ [g] } } else s
    | none => s
  if s.mem.phase = .test ∧ s.mem.bank = bank ∧ s.mem.bight = word / 32 then
    { s with mem := { s.mem with phase := .restore, aborts := s.mem.aborts + 1 } }.bump MEM_TESTABORTS_COUNT
  else s

/-- A write of a word gives it fresh check bits, and cancels a write-back still to come (R314). -/
def State.wordWritten (s : State) (bank word : Nat) : State :=
  let s := s.touch bank word
  { s with mem := { s.mem with errs := s.mem.errs.filter (fun e => !(e.bank == bank && e.word == word)),
                               scrubQ := s.mem.scrubQ.filter (· ≠ (bank, word)) } }

/-- Put an entry into the FB ring (R355, R357); the flag says that it overwrote an entry not yet copied. -/
def State.pushLog (s : State) (src : Nat) (fw forced : Bool) (rep stamp d5 d6 d7 : Nat) : State × Bool :=
  let e : LogEntry := ⟨stamp, src, fw, forced, s.flag GLB_STAT_UNSYNC, min rep 0xFFFF, s.get EVT_LOGSEQ_SEQ,
    s.get GLB_STAT_CHIDX, s.get CHN_RUN_RUN, s.get GLB_RSTCAUSE_BOOTS, d5, d6, d7⟩
  let i := s.get EVT_LOGHEAD_NEXT
  let lost := s.evt.pend.contains i
  let pend := s.evt.pend.filter (· ≠ i)
  let pend := if s.flag EVT_LOGCTL_MIRROR then pend ++ [i] else pend
  let s := { s with evt := { s.evt with ring := mset LogEntry.zero s.evt.ring i e, pend := pend } }
  let s := (List.range 4).foldl (fun (s : State) w => s.wordWritten 56 (4 * i + w)) s
  let s := (s.incr EVT_LOGHEAD_NEXT).incr EVT_LOGSEQ_SEQ
  let s := s.set EVT_FLASHPOS_PEND pend.length
  (if lost then s.bump EVT_LOGLOST_COUNT else s, lost)

/-- The log takes an occurrence unless its source's holdoff runs (R352, R356). -/
def State.logOccur (s : State) (src : Nat) (forced : Bool) (stamp : Nat) : State × Bool :=
  let hold := s.get EVT_LOGCTL_HOLDOFF * 1000000
  let last := mget 0 s.evt.lastLog src
  if last ≠ 0 ∧ s.time < last - 1 + hold then
    ({ s with evt := { s.evt with rep := mupd 0 s.evt.rep src (· + 1) } }, false)
  else
    let rep := mget 0 s.evt.rep src
    let s := { s with evt := { s.evt with lastLog := mset 0 s.evt.lastLog src (s.time + 1),
                                          rep := mset 0 s.evt.rep src 0 } }
    s.pushLog src false forced rep stamp 0 0 0

/-- An occurrence of a source (R349 to R352, R354), but for LOG_LOST that its log entry may cause. -/
def State.occurCore (s : State) (src : Nat) (forced : Bool) (stamp : Nat) : State × Bool :=
  if s.srcExists src && (forced || s.srcEnabled src) then
    let was := s.srcStatus src
    let s := (s.setBit (EVT_STAT_STAT (src / 32)) (src % 32)).bump (cntFld src)
    let s := if was then s else { s with evt := { s.evt with caps := mset 0 s.evt.caps src stamp } }
    let r := s.get (routeFld src)
    let s := (List.range 4).foldl (fun s i => if bitOf r (2 + i) then s.pinOccur i else s) s
    if bitOf r 6 then s.logOccur src forced stamp else (s, false)
  else (s, false)

/-- An occurrence with its own stamp; an uncopied log entry that is overwritten raises LOG_LOST (R357). -/
def State.occurAt (s : State) (src : Nat) (forced : Bool) (stamp : Nat) : State :=
  let p := s.occurCore src forced stamp
  if p.2 then (p.1.occurCore Src.logLost false s.time).1 else p.1

/-- An occurrence now. -/
def State.raise (s : State) (src : Nat) : State := s.occurAt src false s.time

/-- A firmware record (R358). -/
def State.record (s : State) (code d5 d6 d7 : Nat) : State :=
  let p := s.pushLog code true false 0 s.time d5 d6 d7
  if p.2 then (p.1.occurCore Src.logLost false s.time).1 else p.1

/-- The block sends or gives something. -/
def State.emit (s : State) (o : Out) : State := { s with outs := s.outs ++ [o] }

/-! ### Lists of things -/

/-- Fold an action over indices. -/
def State.forEach (s : State) (l : List Nat) (f : State → Nat → State) : State := l.foldl f s

end Sys2Proof.Machine
end

