-- ==== Sys2Proof/Machine/RegOps.lean ====
section
/-! DEFINITION. Register words over the field store: the block table, absent registers, the generic effect of a write
by field type, and the protection of R339. -/

namespace Sys2Proof.Machine

open Reg

/-- The blocks of R342: lowest byte offset and families, in ascending order; the index is the bit of GLB_APPWE. -/
def blocks : List (Nat × List RegFam) := [
  (0x0000, famsGLB), (0x0400, famsEVT), (0x1000, famsPWR), (0x1400, famsTHM), (0x1800, famsHKA), (0x2000, famsSTG),
  (0x4000, famsTIL), (0x6000, famsCOR), (0x6400, famsCAL), (0x6800, famsBRD), (0x7000, famsKNT), (0x7400, famsVRD),
  (0x7800, famsEJS), (0x8000, famsVLV), (0xA000, famsVBK), (0xA800, famsARB), (0xB000, famsMEM),
  (0xB800, famsSSP ++ famsFLS), (0xC000, famsETH), (0xC800, famsCHN), (0xD000, famsLOOP), (0xD800, famsTMX),
  (0xE000, famsMBX)]

/-- The index of the block that holds a byte offset (R342). -/
def blockOf (a : Nat) : Nat := (blocks.filter fun b => decide (b.1 ≤ a)).length - 1

/-- Whether a family has an instance at byte offset `a`. -/
def RegFam.has (f : RegFam) (a : Nat) : Bool :=
  if a < f.base then false
  else
    let o := a - f.base
    if f.stride1 = 0 then o == 0
    else if f.stride2 = 0 then o % f.stride1 == 0 && decide (o / f.stride1 < f.count1)
    else decide (o / f.stride1 < f.count1) && o % f.stride1 % f.stride2 == 0
      && decide (o % f.stride1 / f.stride2 < f.count2)

/-- The fields of the register at byte offset `a`; none where nothing is implemented (R14). -/
def fieldsAt (a : Nat) : List Fld :=
  match (blocks.getD (blockOf a) (0, [])).2.find? (fun f => f.has a) with
  | some f => f.fields.map fun x => { x with addr := a, reset := if a = 0x4CC then 0xFFFF7FFF else x.reset }
  | none => []

/-- The bits of a register that the variant implements (R4, and the notes at the NK1024's registers). -/
def State.implMask (s : State) (a : Nat) : Nat :=
  let all := 0xFFFFFFFF
  if s.fuses.nk1024 = false then all
  else if (0x5000 ≤ a ∧ a < 0x6000) ∨ (0x9000 ≤ a ∧ a < 0xA000) ∨ (0xA400 ≤ a ∧ a < 0xA800) then 0
  else if (0x6180 ≤ a ∧ a < 0x6200) ∨ (0x6280 ≤ a ∧ a < 0x6300) ∨ (0x64C0 ≤ a ∧ a < 0x6500) then 0
  else if a = 0x600C ∨ a = 0x6010 ∨ a = 0xB010 ∨ a = 0xD810 ∨ a = 0xD814 ∨ a = 0xD824 then 0xFFFF
  else if 0x4000 ≤ a ∧ a < 0x5000 then
    let o := a % 0x100
    if o = 0x60 then 1 else if o = 0x70 ∨ o = 0x74 ∨ o = 0x78 ∨ o = 0x7C then 0 else all
  else all

/-- The stored word of a register: every field but the WO ones, which read 0 (R12). -/
def State.word (s : State) (a : Nat) : Nat :=
  sumN ((fieldsAt a).map fun f => if f.ty = .wo then 0 else s.get f * 2 ^ f.lo) &&& s.implMask a

/-- The effect of a write on one field by its type (R12); `hw` has the bits that hardware sets in the same cycle,
which stay set (R15). -/
def State.writeFld (s : State) (v hw : Nat) (f : Fld) : State :=
  let x := bits v f.lo f.width
  match f.ty with
  | .rw => s.set f x
  | .w1c => s.set f (andNot (s.get f) x ||| bits hw f.lo f.width)
  | .w1s => s.set f (s.get f ||| x)
  | .ro => s
  | .wo => s

/-- A plain register write: every field by its type. -/
def State.writeFlds (s : State) (a v hw : Nat) : State :=
  (fieldsAt a).foldl (fun s f => s.writeFld (v &&& s.implMask a) (hw &&& s.implMask a) f) s

/-- A write that R339 turns away: the cluster to a block whose APPWE bit is 0, and to GLB_APPWE itself by the cluster
or the serial slave port. -/
def State.protected (s : State) (r : Requester) (a : Nat) : Bool :=
  (isCluster r && !(bitOf (s.get GLB_APPWE_WE) (blockOf a))) || (a == 0x24 && (isCluster r || r == .ssp))

/-- Carry out a register write unless R339 turns it away, which sets PROTERR. -/
def State.guardW (s : State) (r : Requester) (a : Nat) (f : State → State) : State :=
  if s.protected r a then s.set GLB_STAT_PROTERR 1 else f s

/-- A field's part of a written word. -/
def fldOf (f : Fld) (v : Word) : Nat := bits v.toNat f.lo f.width

end Sys2Proof.Machine
end

