-- ==== Sys2Proof/Machine/MemOps.lean ====
section
/-! DEFINITION. Errors in memory words: what a read meets and what it counts (R313 to R315, R328). -/

namespace Sys2Proof.Machine

open Reg

/-- Errors that appear in words before the next reads. -/
def State.addErrs (s : State) (es : List MemErr) : State := { s with mem := { s.mem with errs := s.mem.errs ++ es } }

/-- What a read of a word meets: no error, a correctable one (false) or an uncorrectable one (true). -/
def State.errAt (s : State) (bank word : Nat) : Option Bool :=
  match (s.mem.errs.filter fun e => e.bank == bank && e.word == word) with
  | [] => none
  | es => some (es.any (·.ue))

/-- A corrected single-bit error (R314). -/
def State.memCE (s : State) (bank word : Nat) : State :=
  let s := s.bump (MEM_ECC_CE bank)
  let s := if s.flag MEM_CTRL_CEEVT then s.raise (Src.ofBank bank) else s
  if s.flag MEM_CTRL_SCRUB && !s.mem.scrubQ.contains (bank, word) then
    { s with mem := { s.mem with scrubQ := s.mem.scrubQ ++ [(bank, word)] } }
  else s

/-- An uncorrectable error (R315). -/
def State.memUE (s : State) (bank word port : Nat) : State :=
  let s := (s.bump (MEM_ECC_UE bank)).set MEM_STAT_UESEEN 1
  let s := (((s.set MEM_ERRADDR_WORD word).set MEM_ERRADDR_BANK bank).set MEM_ERRADDR_PORT port).set MEM_ERRADDR_VALID 1
  (s.setPair MEM_ERRTIME_LO_STAMP MEM_ERRTIME_HI_STAMP s.time).raise (Src.ofBank bank)

/-- A pipeline or port read of a word: counts what it meets; the flag says that the word is uncorrectable. -/
def State.memRead (s : State) (bank word port : Nat) : State × Bool :=
  let s := s.touch bank word
  match s.errAt bank word with
  | none => (s, false)
  | some false => (s.memCE bank word, false)
  | some true => (s.memUE bank word port, true)

/-- A read of a word of the table memories: an uncorrectable error sets TBLERR (R313). -/
def State.tableRead (s : State) (word : Nat) : State × Bool :=
  let p := s.memRead 57 word 1
  if p.2 then (p.1.set MEM_STAT_TBLERR 1, true) else p

/-- A read of a word of the LPDDR4X: with inline ECC an error is counted and raises event 621, and the flag says that it
cannot be corrected (R333). -/
def State.ddrRead (s : State) (w : Nat) : State × Bool :=
  match s.errAt 58 w with
  | none => (s, false)
  | some ue =>
    if s.flag MEM_DDRSTAT_IECCACT then
      ((if ue then s.bump MEM_DDRECC_UE else s.bump MEM_DDRECC_CE).raise Src.ddrEcc, ue)
    else (s, false)

/-- The listed words of a bank that hold an error. -/
def State.errWords (s : State) (bank : Nat) (inside : Nat → Bool) : List Nat :=
  ((s.mem.errs.filter fun e => e.bank == bank && inside e.word).map (·.word)).dedup

/-- Reads of words of the table memories; the flag says that one of them is in error (R313). -/
def State.tableReads (s : State) (ws : List Nat) : State × Bool :=
  ws.foldl (fun p w => let q := p.1.tableRead w; (q.1, p.2 || q.2)) (s, false)

/-- The next corrected codeword is written back (R314). -/
def State.scrubOne (s : State) : State :=
  match s.mem.scrubQ with
  | [] => s
  | (b, w) :: r =>
    { s with mem := { s.mem with errs := s.mem.errs.filter (fun e => !(e.bank == b && e.word == w && !e.ue)),
                                 scrubQ := r } }

def execScrubWriteback (s : State) : Host.Outcome State Fault Refusal := ok s.scrubOne

/-! ### Flash operations (R409) -/

/-- Lines of the prefetch buffer that a program or erase touched are given up (R409). -/
def State.dropLines (s : State) (a n : Nat) : State :=
  { s with flash := { s.flash with lines := s.flash.lines.filter fun l => !decide (a < l + 64 ∧ l < a + n) } }

/-- A program or erase that is done at once: its lines go, and its command ended continuous read (R407, R409). -/
def State.flashTouched (s : State) (a n : Nat) : State := (s.dropLines a n).set FLS_STAT_CONT 0

end Sys2Proof.Machine
end

