-- ==== Sys2Proof/Machine/Operands.lean ====
section
/-! DEFINITION. The operand formats of the pixel path: the pixel record (R96), the sample word (R66), the normalised
code (R90), and a corrected sample. -/

namespace Sys2Proof.Machine

/-- The table address of a sub-word (R112). -/
def pbAddr (tile i w : Nat) : Nat := 16384 * tile + 4 * i + w

def State.pb (s : State) (a : Nat) : Nat := mget 0 s.corr.pb a

/-- A write of a sub-word, which is an access to its bank and gives the word fresh check bits (R314, R327). -/
def State.setPb (s : State) (a v : Nat) : State :=
  let s := s.wordWritten (a / 16384) (3 * (a % 16384 / 4) + a % 4)
  { s with corr := { s.corr with pb := mset 0 s.corr.pb a (v % 2 ^ 32) } }

/-- The pixel that a record address belongs to, numbered 4,096 · tile + i. -/
def pixOf (a : Nat) : Nat := a / 4

namespace Rec

/-- The offset of slot B or A, in quarter codes. -/
def ofs (w0 : Nat) (b : Bool) : Nat := if b then bits w0 16 16 else bits w0 0 16
/-- Sub-word 0 with one slot replaced. -/
def putOfs (w0 : Nat) (b : Bool) (v : Nat) : Nat :=
  if b then bits w0 0 16 + v % 65536 * 65536 else v % 65536 + bits w0 16 16 * 65536
def gain (w1 : Nat) : Nat := bits w1 0 14
def d1 (w1 : Nat) : Int := sgn 10 (bits w1 14 10)
def d2 (w1 : Nat) : Int := sgn 8 (bits w1 24 8)
def bkd (w2 : Nat) : Int := sgn 16 (bits w2 0 16)
def tau (w2 : Nat) : Nat := bits w2 16 9
def badsrc (w2 : Nat) : Nat := bits w2 25 2
def frz (w2 : Nat) : Bool := bitOf w2 27
def putBkd (w2 : Nat) (b : Int) : Nat := w2 / 65536 * 65536 + unsgn 16 b
def putBad (w2 v : Nat) : Nat := w2 / 2 ^ 27 * 2 ^ 27 + v % 4 * 2 ^ 25 + w2 % 2 ^ 25
def putFrz (w2 : Nat) (b : Bool) : Nat := w2 / 2 ^ 28 * 2 ^ 28 + b2n b * 2 ^ 27 + w2 % 2 ^ 27

end Rec

namespace Smp

def code (w : Nat) : Nat := bits w 0 14
def ovr (w : Nat) : Bool := bitOf w 14
def refd (w : Nat) : Bool := bitOf w 15

end Smp

/-- The normalised code r_n in half codes (R90): 8,192 + (CODE − 8,192) · 2^(2 − GAIN). -/
def normCode2 (code gain : Nat) : Int := 16384 + ((code : Int) - 8192) * ((2 ^ (3 - gain % 4) : Nat) : Int)

/-- A sample as it leaves correction (R105). -/
structure Samp where
  tc : Nat
  ovr : Bool
  refd : Bool
  bad : Bool
  /-- normalised code in half codes -/
  r2 : Int
  deriving DecidableEq, Repr

/-- The correction operands of one frame for one tile: both slots' references and the weight (R90, R101). -/
structure TcFrame where
  act : Bool
  w : Nat
  stage : Nat
  trefA : Nat
  trefB : Nat
  v0 : Nat
  deriving DecidableEq, Repr

def TcFrame.tref (f : TcFrame) (b : Bool) : Nat := if b then f.trefB else f.trefA

/-- ΔT in 1/65,536 of 0.5 mK, clamped to ±16,000 units, and whether it was clamped (R92, R101). -/
def TcFrame.dt (f : TcFrame) : Int × Bool :=
  let t0 : Int := f.tref f.act
  let t1 : Int := f.tref (!f.act)
  let d := (65536 : Int) * f.stage - (65536 * t0 + f.w * (t1 - t0))
  let lim : Int := 65536 * 16000
  (clampI (-lim) lim d, decide (d < -lim ∨ lim < d))

/-- The effective offset in 1/65,536 of a quarter code (R101). -/
def TcFrame.oeff (f : TcFrame) (w0 : Nat) : Int :=
  let a : Int := Rec.ofs w0 f.act
  let b : Int := Rec.ofs w0 (!f.act)
  65536 * a + f.w * (b - a)

/-- The denominator of ΔT in K. -/
def dtDen : Int := 2000 * 65536

/-- The bracket of R90 times 64 · 65,536 · dtDen². -/
def bracket (f : TcFrame) (w0 w1 w2 : Nat) (r2 : Int) : Int :=
  let dt := f.dt.1
  let k : Int := 64 * 65536 * dtDen * dtDen
  r2 * (k / 2) - f.oeff w0 * (16 * dtDen * dtDen) - Rec.d1 w1 * dt * (4 * 65536 * dtDen)
    - Rec.d2 w1 * dt * dt * (4 * 65536) - Rec.bkd w2 * (65536 * dtDen * dtDen)

/-- The exact R90 before clamping, rounded half away from zero. -/
def tcExact (f : TcFrame) (w0 w1 w2 : Nat) (r2 : Int) : Int :=
  let den : Nat := (4096 * 64 * 65536 * dtDen * dtDen).toNat
  roundDiv (Rec.gain w1 * bracket f w0 w1 w2 r2 + f.v0 * den) den

/-- The thermal code before clamping: at most 1 code off the exact one (R91, log entry 3). -/
def tcValue (f : TcFrame) (w0 w1 w2 : Nat) (r2 : Int) : Int :=
  tcExact f w0 w1 w2 r2
    + ((Config.tcError [w0, w1, w2, r2, f.stage, f.trefA, f.trefB, f.w, f.v0, b2n f.act] % 3 : Nat) : Int) - 1

end Sys2Proof.Machine
end

