-- ==== Sys2Proof/Machine/Tiles.lean ====
section
/-! DEFINITION. The operations of the sensor tier and the tether that several meanings share: the frame grid, staged
settings, tiles, slice factors, receivers (spec/ files 02, 03). -/

namespace Sys2Proof.Machine

open Reg

/-! ### The frame grid (R32, R36) -/

/-- The grid point of slot `j` of frame `k` on the present grid, at or below its exact time. -/
def State.slotAt (s : State) (k j : Nat) : Nat :=
  floor2 (s.sensor.gridBase + (16 * k + j) * 1000000000 / (16 * max 1 s.sensor.rate))

/-- The start of the present frame. -/
def State.frameStart (s : State) : Nat := s.slotAt s.sensor.gridK 0

/-- The next frame boundary. -/
def State.nextBoundary (s : State) : Nat := s.slotAt (s.sensor.gridK + 1) 0

def State.frameCnt (s : State) : Nat := s.get STG_FRAMECNT_COUNT

/-- How far frame count `a` lies after frame count `b`: STG_FRAMECNT counts modulo 2^32. -/
def frameDiff (a b : Nat) : Int := sgn 32 ((a + 2 ^ 32 - b % 2 ^ 32) % 2 ^ 32)

/-- The frame count `k` boundaries from now. -/
def State.frameAfter (s : State) (k : Nat) : Nat := (s.frameCnt + k) % 2 ^ 32

/-- The boundary of frame count `d` has come. -/
def State.reached (s : State) (d : Nat) : Bool := decide (frameDiff d s.frameCnt ≤ 0)

/-- The slot of the present frame that runs now, 0 to 15. -/
def State.slotNow (s : State) : Nat :=
  min 15 ((s.time - s.frameStart) * 16 * s.sensor.rate / 1000000000)

/-- A tile has released the row group at a place or a later one. -/
def State.tileReached (s : State) (n frame g : Nat) : Bool :=
  let r := mget 0 s.trk.released n
  r != 0 && (let d := frameDiff ((r - 1) / 16) frame; decide (0 < d ∨ (d = 0 ∧ g ≤ (r - 1) % 16)))

/-- The pixel pipeline stands still: it has stopped at a frame boundary for the safe state or for thermal shutdown
(R287, R439; log entry 48). -/
def State.pipeStopped (s : State) : Bool := (s.mode == 4 || s.mode == 5) && !s.sensor.removeBias

def State.tile (s : State) (n : Nat) : Tile := mget Tile.init s.sensor.tiles n

def State.setTile (s : State) (n : Nat) (t : Tile) : State :=
  { s with sensor := { s.sensor with tiles := mset Tile.init s.sensor.tiles n t } }

def State.rx (s : State) (n : Nat) : Rx := mget Rx.init s.sensor.rx n

def State.setRx (s : State) (n : Nat) (r : Rx) : State :=
  { s with sensor := { s.sensor with rx := mset Rx.init s.sensor.rx n r } }

def State.tileList (s : State) : List Nat := List.range s.nTiles

def State.cfgErr (s : State) : State := s.set STG_STAT_CFGERR 1

/-- The module is not the master of a chain: its STATE is member or orphan (R42, R412). -/
def State.notMaster (s : State) : Bool :=
  let c := s.get CHN_STAT_STATE
  c == 1 || c == 3

/-! ### Staged settings (R38, R83) -/

def State.stagePut (s : State) (w : Setting) : State :=
  { s with sensor := { s.sensor with staged := s.sensor.staged ++ [⟨w, s.time, none, false⟩] } }

/-- The boundary at which a setting applies that arrives at chain time `t` in the present frame (R38). -/
def State.dueOf (s : State) (t : Nat) : Nat :=
  if t < s.slotAt s.sensor.gridK 14 then s.frameAfter 1 else s.frameAfter 2

/-- A setting arrives 4 µs after its write at the latest (R83), unless the control lane is lost (R88). -/
def State.arrive (s : State) (x : Staged) : Staged :=
  match x.due with
  | some _ => x
  | none =>
    if s.sensor.laneLost = false ∧ x.written + 4000 < s.time then { x with due := some (s.dueOf (x.written + 4000)) }
    else x

/-- The settings that reached the sensor tier in the frame that ends now, with the boundary each applies at (R38). -/
def State.takeArrivals (s : State) : State :=
  { s with sensor := { s.sensor with staged := s.sensor.staged.map s.arrive } }

/-- The oldest setting still crossing the control lane arrives now. -/
def arriveFirst (due : Nat) : List Staged → List Staged
  | [] => []
  | x :: r => if x.due.isNone then { x with due := some due } :: r else x :: arriveFirst due r

/-- The kinds of setting whose PEND bits the registers show. -/
def Setting.pend : Setting → Option Fld
  | .frate _ => some STG_FRATE_PEND
  | .biasEn _ => none
  | .level _ => some STG_BIAS_PEND
  | .gain n _ => some (TIL_GAIN_PEND n)
  | .trim n _ _ => some (TIL_PTDATA_PEND n)
  | .skim _ _ _ => none
  | .handoff n _ => some (TIL_PTDATA_PEND n)
  | .factor _ _ _ _ => none
  | .scal _ => none

/-- A trim of tile `n`. -/
def Setting.trims (w : Setting) (n : Nat) : Bool :=
  match w with
  | .trim m _ _ => m == n
  | .skim m _ _ => m == n
  | .handoff m _ => m == n
  | _ => false

/-- Trims of tile `n` wait to apply (R104). -/
def State.trimsPending (s : State) (n : Nat) : Bool := s.sensor.staged.any fun x => x.what.trims n

/-- A flip of tile `n` waits for the trims that are pending now (R104). -/
def State.tieTrims (s : State) (n : Nat) : State :=
  let tie := fun (x : Staged) => if x.what.trims n then { x with tied := true } else x
  { s with sensor := { s.sensor with staged := s.sensor.staged.map tie } }

/-- A trim of tile `n` that its flip waits for is still pending. -/
def State.trimsTied (s : State) (n : Nat) : Bool := s.sensor.staged.any fun x => x.tied && x.what.trims n

/-- A host trim write is ignored while a capture or a trim hand-off runs (R41). -/
def State.trimsHeld (s : State) : Bool :=
  let p := s.get CAL_STATUS_PHASE
  p == 4 || p == 8

/-! ### Settling (R39, R40, R60) -/

/-- Bias is off or ramping. -/
def State.biasOff (s : State) : Bool := !s.sensor.biasEn || s.sensor.rampJ != 0

/-- SCNT of a tile's headers (R67, R68). -/
def State.scnt (s : State) (n : Nat) : Nat := if s.biasOff then 7 else min 7 (s.tile n).settle

def State.settleTile (s : State) (n k : Nat) : State :=
  let t := s.tile n
  s.setTile n { t with settle := max t.settle k }

def State.settleAll (s : State) (k : Nat) : State := s.tileList.foldl (fun s n => s.settleTile n k) s

/-- Every tile counts down at a frame boundary; SETTLE owed after self-calibration begins (R68, R79). -/
def State.settleTick (s : State) : State :=
  s.tileList.foldl (fun s n =>
    let t := s.tile n
    s.setTile n { t with settle := max (t.settle - 1) t.owed, owed := 0 }) s

/-- STG_STAT.SETTLE: the largest count of any tile. -/
def State.settleReport (s : State) : State :=
  s.set STG_STAT_SETTLE (s.tileList.foldl (fun m n => max m (s.scnt n)) 0)

/-- An applied change is recorded (R38). -/
def State.cfgFrame (s : State) : State := s.set STG_CFGFRAME_FRAME s.frameCnt

/-- The applied bias of the ramp's j-th boundary, rounded half away from zero (R60). -/
def rampLevel (level j : Nat) : Nat := (2 * level * j + 64) / 128

/-- The field of skimming trim `k` of a tile: byte k mod 4 of TIL[n]_SKIM[k / 4]. -/
def skimFld (n k : Nat) : Fld := { TIL_SKIM_TRIM0 n (k / 4) with lo := 8 * (k % 4) }

/-! ### Slice factors (R63, R64, R81) -/

def Tile.factor (t : Tile) (k : Nat) : Factor := mget Factor.unity t.factors k

def Tile.setFactor (t : Tile) (k : Nat) (f : Factor) : Tile :=
  { t with factors := mset Factor.unity t.factors k f }

def Tile.spare (t : Tile) (i : Nat) : Spare := mget Spare.init t.spares i

def Tile.setSpare (t : Tile) (i : Nat) (x : Spare) : Tile := { t with spares := mset Spare.init t.spares i x }

/-- Plausible factors (R64). -/
def plausible (gain ofs : Int) : Bool :=
  decide (0x3800 ≤ gain ∧ gain ≤ 0x4800 ∧ -512 ≤ ofs ∧ ofs ≤ 511)

/-- The spare that stands in for slice `k`, if one does. -/
def Tile.spareOf (t : Tile) (k : Nat) : Option Nat :=
  (List.range 4).find? fun i => (t.spare i).phase != .idle && (t.spare i).slice == k

/-- The slice has a spare parked on it (R73, R460). -/
def Tile.parkedOn (t : Tile) (k : Nat) : Bool :=
  (List.range 4).any fun i => (t.spare i).phase == .parked && (t.spare i).slice == k

/-- The code a converter result gives: clamping and both ends of the range set OVR (R45, R63). -/
def convCode (f : Factor) (c : Int) : Nat × Bool :=
  if c < 0 then (0, true)
  else if 0x3FFF < c then (0x3FFF, true)
  else
    let x := roundDiv (f.gain * (c - 8192) + 16384 * (8192 + f.ofs)) 16384
    if x < 0 then (0, true) else if 0x3FFF < x then (0x3FFF, true) else (x.toNat, false)

/-- FAILCNT, ROTSP, PARKED and ROTPOS follow the tile's entries and spares. -/
def State.tileReport (s : State) (n : Nat) : State :=
  let t := s.tile n
  let fails := (t.factors.filter fun p => p.2.fail).length
  let rot := ((List.range 4).filter fun i => (t.spare i).phase == .serving || (t.spare i).rot).length
  let parked := sumN ((List.range 4).map fun i => if (t.spare i).phase = .parked then 2 ^ i else 0)
  let s := ((s.set (TIL_CVSTAT_FAILCNT n) (min 255 fails)).set (TIL_CVSTAT_ROTSP n) rot).set
    (TIL_CVSTAT_PARKED n) parked
  (((s.set (TIL_ROTPOS_SP0 n) (t.spare 0).slice).set (TIL_ROTPOS_SP1 n) (t.spare 1).slice).set
    (TIL_ROTPOS_SP2 n) (t.spare 2).slice).set (TIL_ROTPOS_SP3 n) (t.spare 3).slice

/-- Spare rotation of a tile starts: the four spares start 1.953 ms apart (R72, R77). -/
def State.startRotation (s : State) (n : Nat) : State :=
  if s.fuses.nk1024 then s
  else
    let t := s.tile n
    let t' := (List.range 4).foldl (fun (t : Tile) i =>
      let x := t.spare i
      if x.phase = .parked ∨ x.rot then t
      else t.setSpare i { x with rot := true, due := if x.phase = .idle then s.time + i * 1953125 else x.due }) t
    (s.setTile n t').tileReport n

/-- Rotation stops: each spare finishes its visit and then stays idle (R77). -/
def State.stopRotation (s : State) (n : Nat) : State :=
  let t := s.tile n
  let t' := (List.range 4).foldl (fun (t : Tile) i => t.setSpare i { t.spare i with rot := false }) t
  (s.setTile n t').tileReport n

/-- Self-calibration of a tile begins: rotation ends as under ROTEN = 0, and the tile sends nothing, so no overrange of
before lies within two row groups of what it sends next (R46, R78, R79). -/
def State.scalBegin (s : State) (n : Nat) : State :=
  let s := s.stopRotation n
  (s.setTile n { s.tile n with integ := none, swap := none, ovr1 := [], ovr2 := [] }).set (TIL_CVSTAT_SCAL_BUSY n) 1

/-! ### Settings apply -/

/-- The bias is off from this boundary (R60). -/
def State.biasOut (s : State) : State :=
  ({ s with sensor := { s.sensor with biasEn := false, rampJ := 0 } }.set STG_BIAS_APPLIED 0).set STG_STAT_BIAS_RAMP 0

/-- One staged setting applies at the boundary that has just begun (R38, R39, R60, R61). -/
def State.applySetting (s : State) (w : Setting) : State :=
  match w with
  | .frate v =>
    if v = s.sensor.rate then s
    else
      let s := { s with sensor := { s.sensor with rate := v, gridBase := s.frameStart, gridK := 0, partialF := true } }
      (s.settleAll 4).cfgFrame
  | .biasEn on =>
    if on = s.sensor.biasEn then s
    else if on then { s with sensor := { s.sensor with biasEn := true, rampJ := 1 } }.cfgFrame
    else s.biasOut.cfgFrame
  | .level v =>
    if v = s.sensor.level then s
    else
      let s := { s with sensor := { s.sensor with level := v } }
      let s := if s.sensor.biasEn && s.sensor.rampJ == 0 then s.set STG_BIAS_APPLIED v else s
      (s.settleAll 4).cfgFrame
  | .gain n v =>
    let t := s.tile n
    if v = t.gain then s else ((s.setTile n { t with gain := v }).settleTile n 2).cfgFrame
  | .trim n i v =>
    let t := s.tile n
    if mget 0 t.trims i = v then s
    else ((s.setTile n { t with trims := mset 0 t.trims i v }).settleTile n 4).cfgFrame
  | .skim n i v =>
    let t := s.tile n
    let new := (List.range 4).foldl (fun m b => mset 0 m (4 * i + b) (bits v (8 * b) 8)) t.skims
    if new = t.skims then s else ((s.setTile n { t with skims := new }).settleTile n 4).cfgFrame
  | .handoff n steps =>
    let t := s.tile n
    let t' := steps.foldl (fun (t : Tile) p =>
      if p.1 < 4096 then { t with trims := mset 0 t.trims p.1 p.2, trimsW := mset 0 t.trimsW p.1 p.2 }
      else { t with skims := mset 0 t.skims (p.1 - 4096) p.2 }) t
    let s := steps.foldl (fun (s : State) p =>
      if p.1 < 4096 then s else s.set (skimFld n (p.1 - 4096)) p.2) s
    if t'.trims = t.trims ∧ t'.skims = t.skims then s.setTile n t' else (s.setTile n t').cfgFrame
  | .factor n k gain ofs => s.setTile n ((s.tile n).setFactor k { (s.tile n).factor k with gain := gain, ofs := ofs })
  | .scal n => s.scalBegin n

/-- The ramp's boundary j: APPLIED follows LEVEL, and the ramp ends on its 64th boundary (R60, R61). -/
def State.rampStep (s : State) : State :=
  let j := s.sensor.rampJ
  if j = 0 then s
  else
    let s := s.set STG_BIAS_APPLIED (rampLevel s.sensor.level j)
    if j < 64 then { s with sensor := { s.sensor with rampJ := j + 1 } }.set STG_STAT_BIAS_RAMP 1
    else ({ s with sensor := { s.sensor with rampJ := 0 } }.set STG_STAT_BIAS_RAMP 0).settleAll 4

/-! ### Bad slices -/

/-- Pixels BAD for a failed slice at a frame boundary: tile and slice with FAIL and no spare parked (R81, R106). -/
def State.badSlices (s : State) : List Nat :=
  s.tileList.flatMap fun n =>
    let t := s.tile n
    (t.factors.filter fun p => decide (p.1 < 256) && p.2.fail && !t.parkedOn p.1).map fun p => 256 * n + p.1

/-! ### CRC-16 of the sample blocks (R67) -/

def crc16Bit (c : Nat) (b : Bool) : Nat :=
  let x := bitOf c 15 != b
  let c := c * 2 % 65536
  if x then c ^^^ 0x1021 else c

def crc16Word (c w : Nat) : Nat :=
  (List.range 16).foldl (fun c i => crc16Bit c (bitOf w (15 - i))) c

/-- Blocks in order, each from bit 63 downwards: slice 3 first. -/
def crc16Blocks : List Nat → Nat → Nat
  | a :: b :: c :: d :: r, x => crc16Blocks r (crc16Word (crc16Word (crc16Word (crc16Word x d) c) b) a)
  | _, x => x

def rowCrc (words : List Nat) : Nat := crc16Blocks words 0xFFFF

/-! ### Receivers (R86) -/

/-- The frame in which a row group's header lies, from its low 16 bits, at or just before the present one. -/
def State.fullFrame (s : State) (f16 : Nat) : Nat :=
  let c := s.frameCnt
  (c + 2 ^ 32 - (c + 65536 - f16 % 65536) % 65536) % 2 ^ 32

/-- A row group carries INVALID while its lane or the control lane has a fault that covers its frame (R86, R88). -/
def State.rxInvalid (s : State) (n frame : Nat) : Bool :=
  let r := s.rx n
  s.get (TIL_TXCTL_EN n) == 0 || r.slipped || s.sensor.laneLost
    || (match r.through with | some f => decide (frameDiff frame f ≤ 0) | none => false)
    || (match s.sensor.lostThrough with | some f => decide (frameDiff frame f ≤ 0) | none => false)

def groupInvalid (g : RowGroup) : RowGroup := { g with hdr := { g.hdr with invalid := true } }

/-- Every fault of R86 sets the event, its cause and its stamp. -/
def State.rxFault (s : State) (n cause stamp : Nat) : State :=
  (((s.set (TIL_TXSTAT_CAUSE n) cause).setPair (TIL_TXLASTSLIP_LO_STAMP n) (TIL_TXLASTSLIP_HI_STAMP n) stamp).raise
    (Src.tetherSlip n))

/-- A slip (R25, R86) in a row group of frame `frame`: from it until realignment row groups are INVALID, and with them
those of that frame which are received and not yet released. -/
def State.slip (s : State) (n cause : Nat) (counted : Bool) (stamp frame : Nat) : State :=
  let s := s.rxFault n cause stamp
  let s := if counted then s.bump (TIL_TXSLIPCNT_COUNT n) else s
  let s := (s.set (TIL_TXSTAT_ALIGNED n) 0).set (TIL_TXSTAT_LOCK n) (if cause = 3 then 0 else s.get (TIL_TXSTAT_LOCK n))
  let r := s.rx n
  let now := fun (g : RowGroup) => g.hdr.frame == frame % 65536
  let fresh := (r.fifo.filter fun g => now g && !g.hdr.invalid).length
  let s := s.bumpBy (TIL_TXINVCNT_COUNT n) fresh
  s.setRx n { r with slipped := true, slipFrame := s.frameCnt,
                     fifo := r.fifo.map fun g => if now g then groupInvalid g else g }

/-- The place of the next row group that the lane carries, by what the tile sent; with nothing on it, the receiver's
own. -/
def State.lanePlace (s : State) (n : Nat) : Nat × Nat :=
  match (s.tile n).sent.head? with
  | some g => (s.fullFrame g.hdr.frame, g.hdr.rgrp)
  | none => ((s.rx n).frame, (s.rx n).rgrp)

/-- The lane realigns with its next row group (R87): row groups to the end of the frame it realigns in stay INVALID
(log entry 67). -/
def State.realign (s : State) (n : Nat) : State :=
  ((s.setRx n { s.rx n with slipped := false, through := some (s.lanePlace n).1 }).set (TIL_TXSTAT_LOCK n) 1).set
    (TIL_TXSTAT_ALIGNED n) 1

end Sys2Proof.Machine
end

