-- ==== Sys2Proof/Machine/Correct.lean ====
section
/-! DEFINITION. Per-pixel correction: records, marks, offset slots and blends, bad lanes (spec/ file 04). -/

namespace Sys2Proof.Machine

open Reg

def State.mark (s : State) (pix : Nat) : Mark := mget Mark.empty s.corr.marks pix

def State.setMark (s : State) (pix : Nat) (m : Mark) : State :=
  { s with corr := { s.corr with marks := mset Mark.empty s.corr.marks pix m } }

def State.corWrErr (s : State) : State := s.set COR_STAT_WRERR 1

/-- A tile is blind now by declaration (R457). -/
def State.tileBlind (s : State) (n : Nat) : Bool := bitOf s.tmx.blind n

/-! ### Reading a record (R97, R98, R106, R107, R111) -/

/-- Sub-word 2 after the marks posted for the pixel; a calibration mark never replaces 1 or 3 (R107). -/
def applyMark (w2 : Nat) (m : Mark) : Nat :=
  let w2 := match m.mem with
    | some k => Rec.putFrz (Rec.putBad (if k = 2 then 0 else w2) 3) true
    | none => w2
  let w2 := match m.bad with
    | some b => if Rec.badsrc w2 = 0 ∨ Rec.badsrc w2 = 2 then Rec.putBad w2 b else w2
    | none => w2
  match m.frz with
  | some f => Rec.putFrz w2 f
  | none => w2

/-- The sub-words of a pixel's record that hold an uncorrectable error; corrected errors are counted (R110). -/
def State.recordErrs (s : State) (n i : Nat) : State × List Nat :=
  (List.range 3).foldl (fun p w =>
    let s := p.1.touch n (3 * i + w)
    match s.errAt n (3 * i + w) with
    | none => (s, p.2)
    | some false => (s.memCE n (3 * i + w), p.2)
    | some true => (s, p.2 ++ [w])) (s, [])

/-- The pipeline's read of a record: posted marks apply unless the tile is blind now, and an uncorrectable error marks
the pixel (R97, R98, R111). Answers sub-word 2 as the read leaves it, the words in error, and whether the pixel is
marked bad for this sample. -/
def State.readRecord (s : State) (n i : Nat) (blind : Bool) : State × List Nat × Bool :=
  let pix := 4096 * n + i
  let a := pbAddr n i 2
  let p := s.recordErrs n i
  let s := p.1
  let m := s.mark pix
  let s := if blind ∨ m = Mark.empty then s else (s.setPb a (applyMark (s.pb a) m)).setMark pix Mark.empty
  match p.2 with
  | [] => (s, [], false)
  | w :: _ =>
    if Rec.badsrc (s.pb a) = 3 ∨ (s.mark pix).mem.isSome then (s, p.2, true)
    else
      let s := (s.memUE n (3 * i + w) 1).bump COR_ECCBAD_COUNT
      let last := if p.2.contains 2 then 2 else w
      if blind then (s.setMark pix { s.mark pix with mem := some last }, p.2, true)
      else
        (s.setPb a (applyMark (s.pb a) ⟨none, none, some last⟩), p.2, true)

/-! ### Correcting a row group (R90 to R93, R105, R106) -/

def FrameCtx.tcFrame (c : FrameCtx) (n : Nat) : TcFrame := ⟨bitOf c.osel n, c.w, c.stage, c.trefA, c.trefB, c.v0⟩

/-- The context of a frame (R93); for want of one the latest. -/
def State.ctxOf (s : State) (frame : Nat) : Option FrameCtx :=
  match s.corr.ctx.find? (fun c => c.frame == frame) with
  | some c => some c
  | none => s.corr.ctx.getLast?

def FrameCtx.laneBad (c : FrameCtx) (l : Nat) : Bool := bitOf (c.badLanes.getD (l / 32) 0) (l % 32)

/-- One sample through correction (R105). -/
def State.correctSample (s : State) (c : FrameCtx) (n : Nat) (h : Header) (k w : Nat) : State × Samp :=
  let i := 64 * (4 * h.rgrp + k % 4) + k / 4
  let p := s.readRecord n i (s.tileBlind n)
  let s := p.1
  let w2 := s.pb (pbAddr n i 2)
  let bad := Rec.badsrc w2 != 0 || p.2.2 || c.badSlices.contains (256 * n + k) || c.laneBad (64 * n + k / 4)
  let r2 := normCode2 (Smp.code w) h.gain
  if h.invalid then (s, ⟨0, Smp.ovr w, Smp.refd w, bad, r2⟩)
  else if Smp.ovr w then
    if Smp.code w = 0x3FFF then (s, ⟨0xFFFF, true, Smp.refd w, bad, r2⟩)
    else if Smp.code w = 0 then (s, ⟨0, true, Smp.refd w, bad, r2⟩)
    else
      -- OVR at another code: R105 states no TC (log entry 5)
      let f := s.draw
      (f.2, ⟨f.1 % 65536, true, Smp.refd w, bad, r2⟩)
  else if p.2.1.any (· < 2) then (s, ⟨0, false, Smp.refd w, true, r2⟩)
  else
    let x := tcValue (c.tcFrame n) (s.pb (pbAddr n i 0)) (s.pb (pbAddr n i 1)) w2 r2
    if x < 0 ∨ 0xFFFF < x then (s.bump COR_CLIPCNT_COUNT, ⟨clampN 0xFFFF x, true, Smp.refd w, bad, r2⟩)
    else (s, ⟨x.toNat, false, Smp.refd w, bad, r2⟩)

/-- The 256 samples of a row group. -/
def State.correctWords (c : FrameCtx) (n : Nat) (h : Header) : State → Nat → List Nat → State × List Samp
  | s, _, [] => (s, [])
  | s, k, w :: r =>
    let p := s.correctSample c n h k w
    let q := State.correctWords c n h p.1 (k + 1) r
    (q.1, p.2 :: q.2)

def State.correctGroup (s : State) (c : FrameCtx) (n : Nat) (g : RowGroup) : State × List Samp :=
  State.correctWords c n g.hdr s 0 g.words

/-! ### Host writes of records (R98, R99, R112) -/

/-- A blend by host software counts while COR_BLEND.BUSY is 1; capture, blend, reversal and hand-off by phase (R99). -/
def State.pbBusy (s : State) : Bool :=
  let p := s.get CAL_STATUS_PHASE
  p == 4 || p == 7 || p == 8 || p == 9 || s.flag COR_BLEND_BUSY

/-- R99 accepts a host write of a record of tile `n`. -/
def State.pbWritable (s : State) (n : Nat) : Bool := (!s.sorting || s.tileBlind n) && !s.pbBusy

/-- A host write of a record's sub-word; the flag says refused (R98, R99, R112). Bits [31:28] of sub-word 2 keep and
return what the write puts there (log entry 76). -/
def State.pbHostWrite (s : State) (a v : Nat) : State × Bool :=
  let n := a / 16384
  let w := a % 4
  if s.nTiles ≤ n ∨ w = 3 then (s, false)
  else if s.pbWritable n then
    let pix := pixOf a
    let m := s.mark pix
    let s := if m.mem = some w then s.setMark pix { m with mem := none } else s
    (s.setPb a v, false)
  else (s.corWrErr, true)

/-! ### V0, flips and blends (R94, R100 to R104) -/

def State.corV0W (s : State) (v : Word) : State :=
  if s.sorting then s.corWrErr else s.set COR_V0_V0 (fldOf COR_V0_V0 v)

/-- COR_TREF_A and COR_TREF_B belong to every tile, so R99 accepts a host write of them only while sorting is stopped
(R99, R486; log entry 77). -/
def State.corTrefW (s : State) (f : Fld) (v : Word) : State :=
  if s.sorting || s.pbBusy then s.corWrErr else s.set f (fldOf f v)

def execCorV0Write (r : Requester) (v : Word) (s : State) : Host.Outcome State Fault Refusal :=
  ok (s.guardW r 0x6008 (·.corV0W v))

/-- Ask for a flip of tile `n` (R100), tied to its pending trims while TIE is 1 (R104). A flip that is already asked for
keeps its boundary. -/
def State.askFlip (s : State) (n : Nat) : State :=
  match mget none s.corr.flips n with
  | some _ => s
  | none =>
    let tied := s.flag COR_CTRL_TIE && s.trimsPending n
    let s := if tied then s.tieTrims n else s
    { s with corr := { s.corr with flips := mset none s.corr.flips n (some ⟨s.dueOf s.time, tied⟩) } }.setBit
      COR_OFLIP_FLIP n

def State.flipTile (s : State) (n : Nat) : State :=
  let s := s.set COR_OSEL_ACT (s.get COR_OSEL_ACT ^^^ 2 ^ n)
  { s with corr := { s.corr with flips := mset none s.corr.flips n none } }.clrBit COR_OFLIP_FLIP n

/-- COR_OFLIP by the host: only while sorting is stopped and no blend waits, runs or reverses (R103). -/
def State.corOflipW (s : State) (v : Word) : State :=
  if v.toNat &&& s.implMask 0x6010 = 0 then s
  else if s.sorting || s.flag COR_BLEND_BUSY then s.corWrErr
  else (onesOf s.nTiles v.toNat).foldl (fun s n => s.askFlip n) s

def execCorOflip (r : Requester) (v : Word) (s : State) : Host.Outcome State Fault Refusal :=
  ok (s.guardW r 0x6010 (·.corOflipW v))

/-- Start a blend over FRAMES frames at the boundary of R100 (R101). -/
def State.blendStart (s : State) : State :=
  let n := s.get COR_BLEND_FRAMES
  { s with corr := { s.corr with blend := .waiting (s.dueOf s.time), blendN := n } }.set COR_BLEND_BUSY 1

def State.blendEnd (s : State) : State :=
  ((({ s with corr := { s.corr with blend := .idle } }.set COR_BLEND_BUSY 0).set COR_BLEND_K 0).set
    COR_STAT_BLENDING 0).set COR_STAT_REVERSING 0

/-- ABORT: cancels a blend that waits, reverses one that runs (R102). -/
def State.blendAbort (s : State) : State :=
  match s.corr.blend with
  | .waiting _ => s.blendEnd
  | .running =>
    ({ s with corr := { s.corr with blend := .reversing } }.set COR_STAT_BLENDING 0).set COR_STAT_REVERSING 1
  | _ => s

/-- A write of START with FRAMES: one that is refused changes nothing else (R103). -/
def State.corBlendStartW (s : State) (n : Nat) : State :=
  if s.sorting || s.flag COR_BLEND_BUSY then s.corWrErr else (s.set COR_BLEND_FRAMES n).blendStart

def execCorBlendStart (r : Requester) (n : Nat) (s : State) : Host.Outcome State Fault Refusal :=
  ok (s.guardW r 0x6014 (·.corBlendStartW n))

def State.corBlendAbortW (s : State) : State := if s.sorting then s.corWrErr else s.blendAbort

def execCorBlendAbort (r : Requester) (s : State) : Host.Outcome State Fault Refusal :=
  ok (s.guardW r 0x6014 (·.corBlendAbortW))

/-- The blend at a frame boundary: k moves, and at N every tile flips; the flag says that it reached its flip (R101,
R102). -/
def State.blendStep (s : State) : State × Bool :=
  let flipAll := fun (s : State) => (s.tileList.foldl (fun s n => s.flipTile n) s).blendEnd
  match s.corr.blend with
  | .idle => (s, false)
  | .waiting due =>
    if !s.reached due then (s, false)
    else if s.corr.blendN ≤ 1 then (flipAll s, true)
    else
      (({ s with corr := { s.corr with blend := .running } }.set COR_BLEND_K 1).set COR_STAT_BLENDING 1, false)
  | .running =>
    let k := s.get COR_BLEND_K + 1
    if k < s.corr.blendN then (s.set COR_BLEND_K k, false) else (flipAll s, true)
  | .reversing =>
    let k := s.get COR_BLEND_K - 1
    if k = 0 then (s.blendEnd, false) else (s.set COR_BLEND_K k, false)

/-- The weight w of R101 in 1/65,536. -/
def State.blendW (s : State) : Nat :=
  let k := s.get COR_BLEND_K
  let n := max 1 s.corr.blendN
  (2 * 65536 * k + n) / (2 * n)

/-- Flips asked for apply at their boundary; tied ones with the trims that were pending at the request (R100, R104). -/
def State.flipStep (s : State) : State :=
  s.tileList.foldl (fun s n =>
    match mget none s.corr.flips n with
    | none => s
    | some f =>
      if f.tied then (if s.trimsTied n then s else s.flipTile n)
      else if s.reached f.due then s.flipTile n else s) s

/-! ### Bad lanes (R81, R106, R108) -/

/-- Pixels whose BADSRC is not 0, as 4,096 · tile + i. -/
def State.badPixels (s : State) : List Nat :=
  (s.corr.pb.filter fun p => p.1 % 4 == 2 && Rec.badsrc p.2 != 0).map fun p => p.1 / 4

/-- Rows of lane `l`, from those bad by record and by failed slices. -/
def badRows (pix slices : List Nat) (l : Nat) : List Nat :=
  (List.range 64).filter fun r =>
    pix.contains (4096 * (l / 64) + 64 * r + l % 64) || slices.contains (256 * (l / 64) + 4 * (l % 64) + r % 4)

/-- The automatic rule of R108: an upper or lower half with too few good pixels. -/
def State.autoBad (s : State) (pix slices : List Nat) (l : Nat) : Bool :=
  let b := badRows pix slices l
  let up := 32 - (b.filter (· < 32)).length
  let low := 32 - (b.filter (32 ≤ ·)).length
  s.flag COR_CTRL_AUTOLANE && decide (up < s.get COR_CTRL_MINGOOD ∨ low < s.get COR_CTRL_MINGOOD)

/-- The lanes' bad status at a frame boundary (R108), and the counts of COR_BADCNT. -/
def State.laneStep (s : State) : State × List Nat :=
  let pix := s.badPixels
  let slices := s.badSlices
  let cand := (pix.map (fun p => 64 * (p / 4096) + p % 64) ++ slices.map (fun x => 64 * (x / 256) + x % 256 / 4)).dedup
  let auto := cand.filter fun l => s.autoBad pix slices l
  let words := (List.range (s.nLanes / 32)).map fun j =>
    (auto.filter fun l => l / 32 == j).foldl (fun w l => w ||| 2 ^ (l % 32)) (s.get (COR_LANEX_EXCL j))
  let s := (List.range words.length).foldl (fun s j =>
    let w := words.getD j 0
    let d := popcount 32 (s.get (COR_LANEBAD_BAD j) ^^^ w)
    if d = 0 then s
    else (List.range d).foldl (fun s _ => s.raise Src.corLaneBad) ((s.set (COR_LANEBAD_BAD j) w).set COR_STAT_LANECHG 1)) s
  let s := (s.set COR_BADCNT_PIXELS pix.length).set COR_BADCNT_LANES (sumN (words.map (popcount 32)))
  (s, words)

/-- COR_LANEX[j] applies at the next frame boundary, which reads it (R108). -/
def State.laneXW (s : State) (j : Nat) (v : Word) : State :=
  if j < s.nLanes / 32 then s.set (COR_LANEX_EXCL j) v.toNat else s

def execCorLanexWrite (r : Requester) (j : Nat) (v : Word) (s : State) : Host.Outcome State Fault Refusal :=
  ok (s.guardW r (0x6100 + 4 * j) (·.laneXW j v))

/-- ΔT of the frame in the registers, formed for tile 0's active slot (R92, R486). In a blend it can hold a fraction of
a unit, which COR_DT rounds half away from zero (log entry 76). -/
def State.dtStep (s : State) : State :=
  let f : TcFrame := ⟨bitOf (s.get COR_OSEL_ACT) 0, s.blendW, s.get STG_TEMP_TEMP, s.get COR_TREF_A_TEMP,
    s.get COR_TREF_B_TEMP, 0⟩
  let d := f.dt
  let s := (s.setS COR_DT_DT (roundDiv d.1 65536)).setB COR_DT_CLAMP d.2
  let s := s.setB COR_STAT_DTCLAMP d.2
  let s := if d.2 then s.set COR_STAT_DTCLAMPED 1 else s
  let s := if d.2 && !s.corr.clamped then s.raise Src.corDtclamp else s
  { s with corr := { s.corr with clamped := d.2 } }

end Sys2Proof.Machine
end

