-- ==== Sys2Proof/Machine/Loops.lean ====
section
/-! DEFINITION. The preheat and backdrop loops: windows, controllers, time-proportioned outputs (spec/ file 11). -/

namespace Sys2Proof.Machine

open Reg

/-- Both loops' outputs may act: warm-up, ready and sorting (R311); the backdrop output also in thermal shutdown. -/
def State.phLive (s : State) : Bool := s.mode == 1 || s.mode == 2 || s.mode == 3
def State.bkLive (s : State) : Bool := s.phLive || s.mode == 5

/-- One update of R302 in 0.1% units: error numerator over `den` K, gains, limits, integrator; duty, integrator, and
whether u was clamped. -/
def piStep (e den : Int) (kp ki umin umax i : Nat) : Nat × Nat × Bool :=
  let d := den.toNat
  -- KP in 0.01 %/K is 0.1 units/K; KI in 0.001 %/(K·s) is 0.01 units
  let i' : Int := i + roundDiv (ki * e) (100 * d)
  let u := roundDiv (kp * e) (10 * d) + i'
  let uc := clampI umin umax u
  let keep := (decide ((umax : Int) < u) && decide (0 < e)) || (decide (u < umin) && decide (e < 0))
  let ik := clampI umin umax (if keep then (i : Int) else i')
  (uc.toNat, ik.toNat, uc != u)

/-- The second of chain time that a command at a whole second concludes, of which those below `done` are concluded: the
last that has ended, or the present one, which the command then waits for. -/
def State.secondOf (s : State) (done : Nat) : Nat :=
  let now := s.time / 1000000000
  if done < now then now - 1 else now

/-- Chain time stands no earlier than the end of a second. -/
def State.atSecond (s : State) (k : Nat) : State := s.advance (1000000000 * (k + 1))

/-! ### Preheat (R301 to R303, R309) -/

/-- A knot contributes to the window in which its KSTAMP falls, while that window has not closed (R301; log entry 89). -/
def State.phContribute (s : State) (kstamp mean : Nat) : State :=
  let k := kstamp / 1000000000
  if k < s.loops.phDone then s
  else
    let h := mget [] s.loops.hist k
    { s with loops := { s.loops with hist := mset [] s.loops.hist k (mupd 0 h (mean / 16) (· + 1)) } }

/-- The median of the histogram: linear within the 16-TC bin that holds the middle knot (R301). -/
def binMedian (n : Nat) : List (Nat × Nat) → Nat → Nat
  | [], _ => 0
  | (b, c) :: r, seen =>
    if n ≤ 2 * (seen + c) then
      let x := roundDiv (16 * ((n : Int) - 2 * seen)) (2 * max 1 c)
      16 * b + x.toNat
    else binMedian n r (seen + c)

/-- The preheat controller updates: it runs, not in manual mode, and no state holds it (R309 to R311). -/
def State.phAuto (s : State) : Bool := s.flag LOOP_CTRL_PHEN && !s.flag LOOP_CTRL_PHMAN && s.phLive

/-- A valid window with measured value `pv` (R302, R303). -/
def State.phValid (s : State) (pv : Nat) : State :=
  let s := ((s.set LOOP_STAT_PHVALID 1).set LOOP_STAT_PHSTALE 0).set LOOP_STAT_PHINV 0
  if s.phAuto then
    let e : Int := (s.get LOOP_PHSP_SP : Int) - pv
    let r := piStep e 128 (s.get LOOP_PHGAIN_KP) (s.get LOOP_PHGAIN_KI) (s.get LOOP_PHLIM_UMIN) (s.get LOOP_PHLIM_UMAX)
      (s.get LOOP_PHU_I)
    ((s.set LOOP_PHU_U r.1).set LOOP_PHU_I r.2.1).setB LOOP_STAT_PHSAT r.2.2
  else s

/-- An invalid window: after STALE in a row the loop, if it runs, is stale, and its duty is SAFE while the controller has
it (R303; log entry 89). -/
def State.phInvalid (s : State) : State :=
  let s := (s.set LOOP_STAT_PHVALID 0).bump LOOP_STAT_PHINV
  let s :=
    if s.get LOOP_PHCFG_STALE ≤ s.get LOOP_STAT_PHINV ∧ s.flag LOOP_CTRL_PHEN ∧ !s.flag LOOP_STAT_PHSTALE then
      (s.set LOOP_STAT_PHSTALE 1).raise Src.phStale
    else s
  if s.flag LOOP_STAT_PHSTALE && s.phAuto then s.set LOOP_PHU_U (s.get LOOP_PHCFG_SAFE) else s

/-- A preheat window closes at its whole second (R301 to R303). -/
def State.phWindow (s : State) : State :=
  let k := s.secondOf s.loops.phDone
  let h := mget [] s.loops.hist k
  let n := sumN (h.map (·.2))
  let pv := binMedian n h 0
  let s := s.atSecond k
  let s := { s with loops := { s.loops with hist := s.loops.hist.filter (fun p => decide (k < p.1)), phDone := k + 1 } }
  let s := (s.set LOOP_PHPV_PV (min 65535 pv)).set LOOP_PHPV_N (min 65535 n)
  if s.get LOOP_PHWIN_MINN ≤ n then s.phValid pv else s.phInvalid

def execPreheatWindowEnd (s : State) : Host.Outcome State Fault Refusal := ok s.phWindow

/-! ### Backdrop (R305 to R309) -/

/-- A valid RTD reading enters the second in which it comes (R305). -/
def State.bkReading (s : State) (t : Nat) : State :=
  let k := s.time / 1000000000
  let r := mget (0, 0) s.loops.rtd k
  { s with loops := { s.loops with rtd := mset (0, 0) s.loops.rtd k (r.1 + 1, r.2 + t) } }

/-- The backdrop controller updates (R309 to R311). -/
def State.bkAuto (s : State) : Bool := s.flag LOOP_CTRL_BKEN && !s.flag LOOP_CTRL_BKMAN && s.bkLive

/-- A second with the mean reading `pv` (R302, R305, R307). -/
def State.bkValid (s : State) (pv : Nat) : State :=
  let s := { s with loops := { s.loops with rtdLost := 0, rtdOut := false } }
  let s := (s.set LOOP_STAT_BKVALID 1).set LOOP_BKPV_PV pv
  if s.bkAuto then
    let e : Int := (s.get LOOP_BKSP_SP : Int) + (if s.gref.raised then 5000 else 0) - pv
    let r := piStep e 1000 (s.get LOOP_BKGAIN_KP) (s.get LOOP_BKGAIN_KI) (s.get LOOP_BKLIM_UMIN)
      (s.get LOOP_BKLIM_UMAX) (s.get LOOP_BKU_I)
    let s := ((s.set LOOP_BKU_U r.1).set LOOP_BKU_I r.2.1).setB LOOP_STAT_BKSAT r.2.2
    if s.flag LOOP_STAT_BKOVER then s.set LOOP_BKU_U 0 else s
  else s

/-- A second without a reading: after 5 in a row the duty is SAFE and BK_RTD is raised, as soon as the controller has the
loop (R306, R307). -/
def State.bkInvalid (s : State) : State :=
  let s := { s with loops := { s.loops with rtdLost := s.loops.rtdLost + 1 } }.set LOOP_STAT_BKVALID 0
  if 5 ≤ s.loops.rtdLost ∧ s.bkAuto then
    let s := s.set LOOP_BKU_U (if s.flag LOOP_STAT_BKOVER then 0 else s.get LOOP_BKCFG_SAFE)
    if s.loops.rtdOut then s else { s with loops := { s.loops with rtdOut := true } }.raise Src.bkRtd
  else s

/-- The backdrop loop at a whole second, from the readings of the second just ended (R305, R306). -/
def State.bkUpdate (s : State) : State :=
  let k := s.secondOf s.loops.bkDone
  let r := mget (0, 0) s.loops.rtd k
  let s := s.atSecond k
  let s := { s with loops := { s.loops with rtd := s.loops.rtd.filter (fun p => decide (k < p.1)), bkDone := k + 1 } }
  if r.1 = 0 then s.bkInvalid else s.bkValid (roundDiv r.2 r.1).toNat

def execBackdropLoopUpdate (s : State) : Host.Outcome State Fault Refusal := ok s.bkUpdate

/-- An RTD reading against HILIM (R307): codes of 1/1,000 K from −100 °C. In manual mode the manual duty comes back when
BKOVER clears (R309). -/
def State.bkLimit (s : State) (code : Nat) : State :=
  let hi := (s.get LOOP_BKCFG_HILIM + 100) * 1000
  if hi ≤ code then
    let s := { s.set LOOP_BKU_U 0 with loops := { s.loops with high := andNot s.loops.high 16 } }
    if s.flag LOOP_STAT_BKOVER then s else (s.set LOOP_STAT_BKOVER 1).raise Src.bkOver
  else if code ≤ hi - 5000 then
    let was := s.flag LOOP_STAT_BKOVER
    let s := s.set LOOP_STAT_BKOVER 0
    if was && s.flag LOOP_CTRL_BKMAN then s.set LOOP_BKU_U (s.get LOOP_BKCFG_MAN) else s
  else s

/-! ### Outputs (R299, R300) -/

/-- The duty in force of an output's loop, the manual one in manual mode (R309); 0 above HILIM (R307). -/
def State.duty (s : State) (o : Nat) : Nat :=
  if o < 4 then s.get LOOP_PHU_U else if s.flag LOOP_STAT_BKOVER then 0 else s.get LOOP_BKU_U

/-- The on-time of a period in ms (R299). -/
def State.onTime (s : State) (o : Nat) : Nat :=
  let w := if o < 4 then s.get (LOOP_PHOUT_WEIGHT o) else 1000
  let t := (roundDiv (s.duty o * w) 10000).toNat * 10
  let m := s.get LOOP_CTRL_MINON * 10
  if t < m then 0 else if 1000 - m < t then 1000 else t

def State.outEnabled (s : State) (o : Nat) : Bool :=
  if o < 4 then s.flag LOOP_CTRL_PHEN && s.flag (LOOP_PHOUT_EN o) && s.phLive
  else s.flag LOOP_CTRL_BKEN && s.bkLive

/-- How far after a whole second the periods of output `o` start, in ns (R299). -/
def phaseOf (o : Nat) : Nat := 100000000 + (if o < 4 then 250000000 * o else 0)

/-- The start of the period that output `o` begins next: the last start that has passed, or the one to come if that
period has begun (R299). -/
def State.nextPeriod (s : State) (o : Nat) : Nat :=
  let f := phaseOf o
  let last := f + (s.time - f) / 1000000000 * 1000000000
  if s.time < f ∨ mget 0 s.loops.began o < last then last else last + 1000000000

/-- A period of output `o` begins: 0 to 3 PHT, 4 BKD0 (R299). -/
def State.periodStart (s : State) (o : Nat) : State :=
  if 4 < o then s
  else
    let at' := s.nextPeriod o
    let s := s.advance at'
    let t := if s.outEnabled o then s.onTime o else 0
    let h := andNot s.loops.high (2 ^ o)
    { s with loops := { s.loops with onMs := mset 0 s.loops.onMs o t, high := if t = 0 then h else h + 2 ^ o,
                                     began := mset 0 s.loops.began o at' } }

def execHeaterPeriodStart (o : Nat) (s : State) : Host.Outcome State Fault Refusal := ok (s.periodStart o)

/-- The on-time of the period passes and the output goes low; an on-time of the whole period stays high (R299). -/
def State.outputOff (s : State) (o : Nat) : State :=
  let t := mget 0 s.loops.onMs o
  if t = 1000 ∨ bitOf s.loops.high o = false then s
  else
    let s := s.advance (mget 0 s.loops.began o + 1000000 * t)
    { s with loops := { s.loops with high := andNot s.loops.high (2 ^ o) } }

def execHeaterOutputOff (o : Nat) (s : State) : Host.Outcome State Fault Refusal := ok (s.outputOff o)

/-! ### Control (R308 to R310) -/

/-- PHCLR and BKCLR set I to UMIN (R310). -/
def State.loopClr (s : State) (ph bk : Bool) : State :=
  let s := if ph then s.set LOOP_PHU_I (s.get LOOP_PHLIM_UMIN) else s
  if bk then s.set LOOP_BKU_I (s.get LOOP_BKLIM_UMIN) else s

def execLoopClear (r : Requester) (ph bk : Bool) (s : State) : Host.Outcome State Fault Refusal :=
  ok (s.guardW r 0xD000 (·.loopClr ph bk))

/-- In manual mode the duty in force is the manual one (R309); HILIM overrides it (R307). -/
def State.manShow (s : State) : State :=
  let s := if s.flag LOOP_CTRL_PHMAN then s.set LOOP_PHU_U (s.get LOOP_PHCFG_MAN) else s
  if s.flag LOOP_CTRL_BKMAN && !s.flag LOOP_STAT_BKOVER then s.set LOOP_BKU_U (s.get LOOP_BKCFG_MAN) else s

/-- LOOP_CTRL: BKEN to 0 or BKMAN to 1 is ignored in a refresh (R308); leaving manual sets I (R309); a disabled
loop's outputs are low (R310); a MINON above 50 is ignored. -/
def State.loopCtrlW (s : State) (v : Word) : State :=
  let bad := s.flag LOOP_STAT_GREF && (fldOf LOOP_CTRL_BKEN v == 0 || fldOf LOOP_CTRL_BKMAN v == 1)
  if bad ∨ 50 < fldOf LOOP_CTRL_MINON v then s.set LOOP_STAT_WRERR 1
  else
    let phMan := s.flag LOOP_CTRL_PHMAN && fldOf LOOP_CTRL_PHMAN v == 0
    let bkMan := s.flag LOOP_CTRL_BKMAN && fldOf LOOP_CTRL_BKMAN v == 0
    let s := s.writeFlds 0xD000 v.toNat 0
    let s := if phMan then s.set LOOP_PHU_I (min (max (s.get LOOP_PHCFG_MAN) (s.get LOOP_PHLIM_UMIN))
      (s.get LOOP_PHLIM_UMAX)) else s
    let s := if bkMan then s.set LOOP_BKU_I (min (max (s.get LOOP_BKCFG_MAN) (s.get LOOP_BKLIM_UMIN))
      (s.get LOOP_BKLIM_UMAX)) else s
    let h := s.loops.high
    let h := if s.flag LOOP_CTRL_PHEN then h else h / 16 * 16
    let h := if s.flag LOOP_CTRL_BKEN then h else h % 16
    let s := { s with loops := { s.loops with high := h } }.manShow
    s.loopClr (fldOf LOOP_CTRL_PHCLR v == 1) (fldOf LOOP_CTRL_BKCLR v == 1)

def execLoopCtrlWrite (r : Requester) (v : Word) (s : State) : Host.Outcome State Fault Refusal :=
  ok (s.guardW r 0xD000 (·.loopCtrlW v))

/-- Set points, gains and limits: duties above 1,000 and UMIN above UMAX are ignored, as is LOOP_BKSP in a refresh
(file 11, LOOP registers; R308). -/
def State.loopSetW (s : State) (a : Nat) (v : Nat) : State :=
  let bad :=
    if a = 0xD010 ∨ a = 0xD048 then decide (1000 < bits v 0 10 ∨ 1000 < bits v 16 10 ∨ bits v 16 10 < bits v 0 10)
    else if a = 0xD020 ∨ a = 0xD04C then decide (1000 < bits v 0 10 ∨ 1000 < bits v 10 10)
    else if 0xD030 ≤ a ∧ a ≤ 0xD03C then decide (1000 < bits v 0 10)
    else a == 0xD040 && s.flag LOOP_STAT_GREF
  if bad then s.set LOOP_STAT_WRERR 1
  else
    let s := s.writeFlds a v 0
    let s := if s.get LOOP_PHWIN_MINN = 0 then s.set LOOP_PHWIN_MINN 1 else s
    (if s.get LOOP_PHCFG_STALE = 0 then s.set LOOP_PHCFG_STALE 1 else s).manShow

end Sys2Proof.Machine
end

