-- ==== Sys2Proof/Machine/Grants.lean ====
section
/-! DEFINITION. Blind grants in a chain: the master's queue, requests and releases (spec/ file 16, R420, R421). -/

namespace Sys2Proof.Machine

open Reg

/-- A message of the chain link, whose CRC is right or which is discarded and counted; a module of SIZE 1 ignores its
ports (R410, R412). -/
def State.chainMsg (s : State) (crc : Bool) (f : State → State) : State :=
  if crc then f s else if s.chain.size ≤ 1 then s else s.bump CHN_LINKERRCNT_COUNT

/-- The settings latched at the grant or start. -/
def State.calLatch (s : State) : CalCfg :=
  ⟨s.flag CAL_CTRL_POLICY, s.flag CAL_CTRL_REJROW, s.get CAL_FRAMES_VALUE, s.get CAL_SETTLE_VALUE,
   s.get CAL_RAMP_VALUE, s.get CAL_LIMOFS_LIMIT, s.get CAL_LIMITS_FRAC, s.get CAL_LIMITS_NEWBAD,
   s.get CAL_LIMITS_DRIFT, s.get CAL_LIMITS_NOISE, s.get CAL_RESUME_VALUE, s.get CAL_TRIMWIN_VALUE⟩

/-- The first frame boundary at or after chain time `t` on the present grid, and after the present frame. -/
def State.boundaryFrom (s : State) (t : Nat) : Nat :=
  let k := ((t - s.sensor.gridBase) * s.sensor.rate + 999999999) / 1000000000
  let k := max k (s.sensor.gridK + 1)
  if s.slotAt k 0 < t then s.slotAt (k + 1) 0 else s.slotAt k 0

/-- The module itself may begin blind time at a boundary (R118, R420). -/
def State.takeGrant (s : State) (boundary : Nat) : State :=
  if s.get CAL_STATUS_PHASE = 1 ∧ s.cal.grantAt = none then
    { s with cal := { s.cal with grantAt := some boundary, cfg := s.calLatch } }
  else s

/-- CHN_GRANTSTAT follows the queue. -/
def State.grantShow (s : State) : State :=
  let q := sumN ((List.range 8).map fun i => if s.chain.grants.any (fun g => g.2 == i) then 2 ^ i else 0)
  ((s.set CHN_GRANTSTAT_HOLDER ((s.chain.holder.map (·.1)).getD 0)).setB CHN_GRANTSTAT_HELD s.chain.holder.isSome).set
    CHN_GRANTSTAT_QUEUE q

def insertGrant (g : Nat × Nat) : List (Nat × Nat) → List (Nat × Nat)
  | [] => [g]
  | x :: r => if g.1 < x.1 ∨ (g.1 = x.1 ∧ g.2 < x.2) then g :: x :: r else x :: insertGrant g r

/-- The master grants the first request when none holds a grant (R420). -/
def State.grantPump (s : State) : State :=
  match s.chain.holder, s.chain.grants with
  | none, (_, i) :: r =>
    let period := 1000000000 / max 1 s.sensor.rate
    let gap := if s.chain.released = 0 then 0 else s.chain.released - 1 + s.get CHN_GRANTCFG_GAP * 1000000
    let b := s.boundaryFrom (max (s.time + period) gap)
    let s := { s with chain := { s.chain with holder := some (i, s.time), grants := r } }.grantShow
    if i = s.get CHN_STAT_INDEX then s.takeGrant b
    else s.emit (.chain (if i < s.get CHN_STAT_INDEX then .low else .high) (.grant i b))
  | _, _ => s.grantShow

/-- A request joins the master's queue in stamp order (R420). -/
def State.queueGrant (s : State) (i stamp : Nat) : State :=
  let g := s.chain.grants.filter fun g => g.2 != i
  { s with chain := { s.chain with grants := insertGrant (stamp, i) g } }.grantPump

/-- The holder releases its grant, or a waiting module withdraws (R420). -/
def State.endGrant (s : State) (i : Nat) : State :=
  if s.chain.holder.any fun h => h.1 == i then
    { s with chain := { s.chain with holder := none, released := s.time + 1 } }.grantPump
  else { s with chain := { s.chain with grants := s.chain.grants.filter fun g => g.2 != i } }.grantPump

/-- The port toward the master. -/
def State.portMaster (s : State) : ChainPort := if s.get CHN_STAT_MSTIDX < s.get CHN_STAT_INDEX then .low else .high

/-- This module asks for a grant (R118, R420). -/
def State.askGrant (s : State) : State :=
  let s := { s with chain := { s.chain with asked := true } }
  if s.get CHN_STAT_STATE = 2 then s.queueGrant (s.get CHN_STAT_INDEX) s.time
  else s.emit (.chain s.portMaster (.grantReq (s.get CHN_STAT_INDEX) s.time))

/-- This module releases its grant or withdraws its request (R120, R121, R420). -/
def State.dropGrant (s : State) : State :=
  if s.chain.asked then
    let s := { s with chain := { s.chain with asked := false } }
    let c := s.get CHN_STAT_STATE
    if c = 2 then s.endGrant (s.get CHN_STAT_INDEX)
    else if c = 1 then s.emit (.chain s.portMaster (.release (s.get CHN_STAT_INDEX)))
    else s
  else s

end Sys2Proof.Machine
end

