-- ==== Sys2Proof/Machine/Live.lean ====
section
/-! DEFINITION. Register fields of the logic die that apply at a frame boundary under R38: the value written shows in
the register, the value in force is kept beside it. -/

namespace Sys2Proof.Machine

/-- The value in force of a field that applies at a boundary. -/
def State.inForce (s : State) (f : Fld) : Nat := mget f.reset s.live.force f.key

def State.isForce (s : State) (f : Fld) : Bool := s.inForce f == 1

/-- Write a field: the register takes the value now, its effect comes at the boundary of R38. -/
def State.stageFld (s : State) (f : Fld) (v : Nat) : State :=
  let v := v % 2 ^ f.width
  { s.set f v with live := { s.live with pend := s.live.pend ++ [(s.dueOf s.time, f.key, v)] } }

/-- Put a field at a value in the register and in force at once, as a load does. -/
def State.setForce (s : State) (f : Fld) (v : Nat) : State :=
  { s.set f v with live := { s.live with force := mset f.reset s.live.force f.key (v % 2 ^ f.width) } }

def State.isStaged (s : State) (f : Fld) : Bool := s.live.pend.any fun p => p.2.1 == f.key

/-- The reset value of the field with a given key. -/
def resetOf (fs : List Fld) (key : Nat) : Nat :=
  match fs.find? (fun f => f.key == key) with
  | some f => f.reset
  | none => 0

/-- Every staged field whose boundary has come applies; `fs` are the fields that stage in this way. -/
def State.applyLive (s : State) (fs : List Fld) : State :=
  let due := s.live.pend.filter fun p => s.reached p.1
  let force := due.foldl (fun m p => mset (resetOf fs p.2.1) m p.2.1 p.2.2) s.live.force
  { s with live := ⟨force, s.live.pend.filter fun p => !s.reached p.1⟩ }

end Sys2Proof.Machine
end

