-- ==== Sys2Proof/Machine/Braid.lean ====
section
/-! DEFINITION. Unlay and braid: lag inversion, arrival-time tables, placing samples in slices, truncation, table
sets (spec/ file 06). -/

namespace Sys2Proof.Machine

open Reg

/-! ### Unlay coefficients (R147 to R149) -/

/-- exp(−num/den) in 1/2^96, by its series on a 128th of the argument. -/
def expNeg (num den : Nat) : Nat :=
  let y : Int := ((num * 2 ^ 96 / (128 * max 1 den) : Nat) : Int)
  let p := (List.range 60).foldl (fun (p : Int × Int) i =>
    let t := -(p.2 * y / (((i + 1) * 2 ^ 96 : Nat) : Int))
    (p.1 + t, t)) (((2 ^ 96 : Nat) : Int), ((2 ^ 96 : Nat) : Int))
  (List.range 7).foldl (fun e _ => e * e / 2 ^ 96) p.1.toNat

/-- β · a_p in 1/2^96, for β = BETA/16, the frame rate and TAU in 8 µs units. -/
def betaA (beta rate tau : Nat) : Nat := beta * expNeg 125000 (max 1 tau * max 1 rate) / 16

/-- Cut an exact quotient to a 16-bit entry; the way it is rounded is open (log entry 21). -/
def coefCut (n d : Nat) (key : List Nat) : Nat := min 0xFFFF (n / d + (if n % d = 0 then 0 else Config.coefRound key % 2))

/-- C_u in Q0.16. -/
def coefC (beta rate tau : Nat) : Nat :=
  if tau = 0 ∨ beta = 0 then 0 else coefCut (betaA beta rate tau * 65536) (2 ^ 96) [0, beta, rate, tau]

/-- G_u in Q6.10. -/
def coefG (beta rate tau : Nat) : Nat :=
  if tau = 0 ∨ beta = 0 then 1024
  else coefCut (1024 * 2 ^ 96) (max 1 (2 ^ 96 - betaA beta rate tau)) [1, beta, rate, tau]

/-- An entry of table 0x05 (R148, R181). -/
def State.coefWord (s : State) (tau : Nat) : Nat :=
  let b := s.inForce BRD_UNLAY_BETA
  coefC b s.sensor.rate tau + coefG b s.sensor.rate tau * 65536

/-- The exact x_n of R147 before clamping, with the coefficients of the table. -/
def unlayExact (c g y h : Nat) : Int := roundDiv ((g : Int) * ((y : Int) * 65536 - (c : Int) * h)) (1024 * 65536)

/-! ### Unlay (R150 to R154) -/

def State.ubWord (s : State) (pix : Nat) : Nat := mget 0xFFFF s.braid.ub pix

/-- The word that unlay writes to the history (R151): the largest candidate. -/
def historyWord (y h : Nat) (invalid ovr partialF refd settle : Bool) : Nat :=
  let a := min y 0xFFFC
  let a := if invalid || ovr then max a 0xFFFF else a
  let a := if partialF || h == 0xFFFF then max a 0xFFFE else a
  if h == 0xFFFE || refd || settle then max a 0xFFFD else a

/-- A sample as it leaves unlay, with its braid factor in halves (R164). -/
structure Unlayed where
  x : Nat
  factor : Nat
  high : Bool
  low : Bool
  blind : Bool
  ovr : Bool
  unl : Bool
  deriving DecidableEq, Repr

/-- A flag factor of BRD_FLAGW in halves. -/
def factorOf (v : Nat) : Nat := min v 2

/-- The factor of a sample in halves: the smallest that applies (R164). -/
def sampleFactor (fw : Nat) (invalid blind bad ovr refd settle unl : Bool) : Nat :=
  if invalid || blind || bad || ovr then 0
  else
    let a := if refd then factorOf (bits fw 0 2) else 2
    let a := if settle then min a (factorOf (bits fw 2 2)) else a
    if unl then min a (factorOf (bits fw 4 2)) else a

/-- The read of the coefficient word of a TAU, word 65,536 · 5 + TAU of the table memories (R148, R313; log entries 22
and 83): the flag says that it is in error. -/
def State.coefRead (s : State) (tau : Nat) : State × Bool := s.tableRead (65536 * 5 + tau)

/-- Unlay of one corrected sample (R147 to R154). -/
def State.unlaySample (s : State) (c : FrameCtx) (h : Header) (pix : Nat) (y : Samp) : State × Unlayed :=
  let m := s.memRead 48 pix 1
  let s := m.1
  let hist := if m.2 then 0xFFFF else s.ubWord pix
  let w := historyWord y.tc hist h.invalid y.ovr h.partialF y.refd h.settle
  let s := { s with braid := { s.braid with ub := mset 0xFFFF s.braid.ub pix w } }
  let s := s.wordWritten 48 pix
  let s := if w = 0xFFFF ∨ m.2 then s.bump BRD_UNLRST_COUNT else s
  let tau := Rec.tau (s.pb (4 * pix + 2))
  let token := decide (0xFFFD ≤ hist)
  let plain := h.invalid || y.ovr || token || h.partialF || c.bypass || tau == 0 || c.lambda == 0
  let cc := coefC c.lambda c.rate tau
  let g := coefG c.lambda c.rate tau
  let e : Int := ((Config.unlayError [cc, g, y.tc, hist] % 3 : Nat) : Int) - 1
  let r := if plain then (s, false) else s.coefRead tau
  -- with the coefficient word in error the spec states no output (log entry 83)
  let f := if r.2 then r.1.draw else (0, r.1)
  let s := f.2
  let x : Int := if plain then y.tc else if r.2 then ((f.1 % 65536 : Nat) : Int) else unlayExact cc g y.tc hist + e
  let clip := decide (x < 0 ∨ 0xFFFF < x)
  let s := if clip then s.bump BRD_UCLIPCNT_COUNT else s
  let v := clampN 0xFFFF x
  let ovr := y.ovr || clip
  let unl := !h.invalid && (c.unlAll || (!y.ovr && tau != 0 && (token || h.partialF)))
  let blind := bitOf c.blindTiles h.tile
  (s, ⟨v, sampleFactor c.flagw h.invalid blind y.bad ovr y.refd h.settle unl,
    !h.invalid && ovr && v == 0xFFFF, !h.invalid && ovr && v == 0, blind, ovr, unl⟩)

def State.unlayGroup (c : FrameCtx) (h : Header) : State → Nat → List Samp → State × List Unlayed
  | s, _, [] => (s, [])
  | s, k, y :: r =>
    let pix := 4096 * h.tile + 64 * (4 * h.rgrp + k % 4) + k / 4
    let p := s.unlaySample c h pix y
    let q := State.unlayGroup c h p.1 (k + 1) r
    (q.1, p.2 :: q.2)

/-! ### Table sets (R156 to R160, R170) -/

def TSet.word (t : TSet) (k w : Nat) : Nat := mget 0 t.words (128 * k + w)

/-- τ_k(r) in 1/4,096 frame. -/
def TSet.tau (t : TSet) (k r : Nat) : Nat := t.word k r % 2 ^ 24

def ceilDiv (a b : Nat) : Nat := (a + b - 1) / b

/-- D_k (R170); 0 for a hypothesis absent from the set. -/
def TSet.depth (t : TSet) (k : Nat) : Nat := if k < t.k then ceilDiv (t.tau k 63) 4096 + 2 else 0

/-- R156: K from 1 to 5, every table starting at 0 and never falling. -/
def TSet.ordered (t : TSet) : Bool :=
  decide (1 ≤ t.k ∧ t.k ≤ 5) && (List.range t.k).all fun k =>
    t.tau k 0 == 0 && (List.range 63).all fun r => decide (t.tau k r ≤ t.tau k (r + 1))

def State.depthCap (s : State) : Nat := if s.fuses.nk1024 then 682 else 341

/-- The depth check of R170; at a truncation the active set counts 0. -/
def State.fits (s : State) (t : TSet) (trunc : Bool) : Bool :=
  decide (sumN ((List.range 5).map fun k => max (if trunc then 0 else s.braid.active.depth k) (t.depth k)) ≤ s.depthCap)

/-- π in 1/2^64. -/
def piFix : Nat := 57952155664616982739

/-- cos of an angle in 0.1°, in 1/2^64 (R159). -/
def cosFix (tilt : Nat) : Nat :=
  if tilt = 0 then 2 ^ 64
  else
    let x : Int := ((tilt * piFix / 1800 : Nat) : Int)
    let one : Int := ((2 ^ 64 : Nat) : Int)
    let p := (List.range 20).foldl (fun (p : Int × Int) i =>
      let t := -(p.2 * x / one * x / (one * (((2 * i + 1) * (2 * i + 2) : Nat) : Int)))
      (p.1 + t, t)) (one, one)
    p.1.toNat

/-- v_k in 1/(800 · 2^64) mm/s times 800 · 2^64, as a number of 1/2^64 mm/s (R157). -/
def hypSpeed (vnom k kk spacing : Nat) : Nat :=
  (vnom * 2 ^ 64 * ((800 : Int) + (2 * k - (kk - 1 : Int)) * spacing).toNat) / 800

/-- √(v² + 2 · g′ · r · p) in 1/2^64 mm/s: v and g in that scale, `r2` half rows, the pitch in 0.1 µm. -/
def speedAt (v g r2 pitch : Nat) : Nat := isqrt 96 (v * v + g * 2 ^ 64 * r2 * pitch / 10000)

/-- τ in 1/4,096 frame at half row `r2`, rounded half away from zero. -/
def tauFix (rate v g r2 pitch : Nat) : Nat :=
  (roundDiv (4096 * rate * ((speedAt v g r2 pitch : Int) - v)) (max 1 g)).toNat

/-- The words of one hypothesis of a computed set (R159, R160). -/
def hypWords (rate vnom kk spacing pitch tilt grav k : Nat) : List (Nat × Nat) :=
  let g := grav * cosFix tilt
  let v := hypSpeed vnom k kk spacing
  let one : Nat := 2 ^ 64
  let taus := (List.range 64).map fun r => (128 * k + r, min (2 ^ 24 - 1) (tauFix rate v g (2 * r) pitch))
  let v0 := (roundDiv v one).toNat
  let vc := (roundDiv (speedAt v g 63 pitch) one).toNat
  let dt := (roundDiv (256000000 * ((speedAt v g 95 pitch : Int) - speedAt v g 31 pitch)) (max 1 g)).toNat
  taus ++ [(128 * k + 64, min v0 65535 + min vc 65535 * 65536), (128 * k + 65, min dt (2 ^ 24 - 1))]

/-- A computed set (R159): inputs as rate, VNOM, K, SPACING, PITCH, TILT, G. -/
def computedSet (inp : List Nat) (kk : Nat) : TSet :=
  let i := fun n => inp.getD n 0
  let ws := (List.range kk).flatMap fun k => hypWords (i 0) (i 1) kk (i 3) (i 4) (i 5) (i 6) k
  ⟨0, kk, ws.foldl (fun m p => mset 0 m p.1 p.2) []⟩

/-- The inputs of R159 as the registers hold them. -/
def State.tableInputs (s : State) (rate : Nat) : List Nat :=
  [rate, s.get BRD_VNOM_V, s.get BRD_HYPSET_K, s.get BRD_HYPSET_SPACING, s.get BRD_GEOM_PITCH, s.get BRD_GEOM_TILT,
   s.get BRD_GRAV_G]

/-- A bit of BRD_STAT with the event BRD_CFG (file 13, after R348). -/
def State.brdCfgErr (s : State) (f : Fld) : State := (s.set f 1).raise Src.brdCfg

def State.brdWrErr (s : State) : State := s.set BRD_STAT_WRERR 1

/-- Reduce K until the set fits (R170): by 2, or from 2 to 1. -/
def State.fitSet (s : State) (inp : List Nat) (trunc : Bool) : Nat → Nat → Option TSet
  | 0, _ => none
  | n + 1, kk =>
    let t := computedSet inp kk
    if s.fits t trunc then some t
    else if kk ≤ 1 then none
    else s.fitSet inp trunc n (if kk = 2 then 1 else kk - 2)

/-- The firmware's set for the inputs, with DEPTHERR and KRED as R170 says. -/
def State.autoSet (s : State) (inp : List Nat) (trunc : Bool) : State × Option TSet :=
  let kk := inp.getD 2 0
  let t := s.fitSet inp trunc 5 kk
  match t with
  | some t => if t.k = kk then (s, some t) else ((s.brdCfgErr BRD_STAT_DEPTHERR).brdCfgErr BRD_STAT_KRED, some t)
  | none => (s.brdCfgErr BRD_STAT_DEPTHERR, none)

/-- A slice has started: those of the next frame are kept ready for shares that reach them early (R170). -/
def State.started (s : State) (x : Slice) : Bool := decide (frameDiff x.start s.frameCnt ≤ 0)

/-- The shadow buffer holds the set that slices in flight still use (R171). -/
def State.shadowBusy (s : State) : Bool :=
  s.braid.slices.any fun x => s.started x && x.tag != s.braid.active.gen && x.tag == s.braid.shadow.gen

/-- What the BRD registers show of the sets (R158, R168, R171). -/
def State.brdShow (s : State) : State :=
  let a := s.braid.active
  let s := (List.range 5).foldl (fun s k =>
    let used := decide (k < a.k)
    let z := fun v => if used then v else 0
    let w := a.word k 64
    let s := (s.set (BRD_HYP_SPEED_VROW0 k) (z (w % 65536))).set (BRD_HYP_SPEED_VCTR k) (z (w / 65536))
    let s := (s.set (BRD_HYP_TAU63_TAU k) (z (a.tau k 63))).set (BRD_HYP_HALFDT_DT k) (z (a.word k 65))
    ((s.set (BRD_HYP_DEPTH_D k) (min 1023 (a.depth k))).setB (BRD_HYP_DEPTH_USED k) used).set (BRD_HYP_DEPTH_TAG k) a.gen) s
  let s := (s.set BRD_HYPSET_REFK (a.k / 2)).set BRD_TSTAT_ACTGEN a.gen
  let s := s.set BRD_TSTAT_DEPTHSUM (min 1023 (sumN ((List.range 5).map a.depth)))
  s.setB BRD_TSTAT_SHADFREE (!s.shadowBusy)

/-- The boundary at which a staged setting will apply, one that still crosses the control lane by its latest arrival
(R38, R83). -/
def State.dueOfStaged (s : State) (x : Staged) : Option Nat :=
  match x.due with
  | some d => some d
  | none => if s.sensor.laneLost then none else some (s.dueOf (x.written + 4000))

/-- A frame rate other than the present one applies at the boundary of count `d`, whose chain time is `t` (R38, R417). -/
def State.rateAt (s : State) (d t : Nat) : Bool :=
  (s.sensor.staged.any fun x => match x.what with
    | .frate v => v != s.sensor.rate && s.dueOfStaged x == some d
    | _ => false)
  || (match s.chain.rateNext with
    | some (v, after) => v != s.sensor.rate && s.boundaryFrom (after + 1) == t
    | none => false)

/-- Blind time begins at the boundary at chain time `t` (R120). -/
def State.blindAt (s : State) (t : Nat) : Bool :=
  s.get CAL_STATUS_PHASE == 1 && s.cal.grantAt.any fun g => s.boundaryFrom g == t

/-- A truncation is due at the boundary at which a switch asked for now would apply (R170, R172). -/
def State.truncDue (s : State) : Bool :=
  let d := s.dueOf s.time
  let t := s.slotAt (s.sensor.gridK + (frameDiff d s.frameCnt).toNat) 0
  s.braid.restartDue.contains d || s.rateAt d t || s.blindAt t

/-- Ask for the switch of the set in the shadow buffer, with its K (R171). -/
def State.askSwitch (s : State) (kk : Nat) : State :=
  { s with braid := { s.braid with swDue := some (s.dueOf s.time), swK := kk } }.set BRD_TSTAT_SWPEND 1

/-- The memory words of the braid tables: 65,536 · 4 + 1,024 for the active set, less 1,024 for the shadow (log entry
22). -/
def isBraidWord (e : MemErr) : Bool := e.bank == 57 && e.word / 2048 == 128

/-- The words of the shadow buffer are written afresh. -/
def State.shadowFresh (s : State) : State :=
  { s with mem := { s.mem with errs := s.mem.errs.filter fun e =>
                      !(isBraidWord e && decide (e.word < 65536 * 4 + 1024)) } }

/-- A set from flash goes into the shadow buffer, and its switch is asked for, once the buffer is free (R171). -/
def State.loadPump (s : State) : State :=
  match s.braid.waitSet with
  | some (ws, kk) =>
    if s.shadowBusy || s.braid.swDue.isSome then s
    else
      { s.shadowFresh with braid := { s.braid with shadow := { s.braid.shadow with words := ws },
                                                   waitSet := none } }.askSwitch kk
  | none => s

/-- The firmware gives the braid a set from flash (R313, R450). -/
def State.giveSet (s : State) (ws : List (Nat × Nat)) (kk : Nat) : State :=
  { s with braid := { s.braid with waitSet := some (ws, kk) } }.loadPump

/-- The firmware writes a finished set to the shadow buffer and asks for its switch, once the buffer is free and the
set is one for the rate in force (R159, R171, R173). -/
def State.autoPump (s : State) : State :=
  let s := s.loadPump
  match s.braid.ready with
  | some inp =>
    if s.flag BRD_CTRL_AUTO && !s.braid.busy && !s.braid.late && !s.shadowBusy && s.braid.swDue.isNone
        && inp.getD 0 0 == s.sensor.rate then
      let s := { s with braid := { s.braid with ready := none } }
      let p := s.autoSet inp s.truncDue
      match p.2 with
      | some t =>
        let s := p.1.shadowFresh
        { s with braid := { s.braid with shadow := { t with gen := s.braid.shadow.gen } } }.askSwitch t.k
      | none => p.1
    else s
  | none => s

/-- What the switch makes of errors in the two buffers: they stay with their buffer. -/
def swapErr (e : MemErr) : MemErr := if isBraidWord e then { e with word := e.word ^^^ 1024 } else e

/-- A set becomes active for slices that start from now on; the old one becomes the shadow (R171). A shadow that slices
truncated at this boundary still use stays kept for them (R168, R173). -/
def State.install (s : State) (t : TSet) : State :=
  let old := s.braid.active
  let gen := s.get BRD_TSTAT_SHADGEN
  let kept := if s.shadowBusy then s.braid.kept ++ [s.braid.shadow] else s.braid.kept
  let s := { s with braid := { s.braid with active := { t with gen := gen }, shadow := old, kept := kept, swDue := none },
                    mem := { s.mem with errs := s.mem.errs.map swapErr } }
  ((s.set BRD_TSTAT_SWPEND 0).set BRD_TSTAT_SHADGEN (gen + 1)).brdShow

/-- A switch asked for reaches its boundary: the set is checked once more, as it stands (R156, R170, R171). -/
def State.applySwitch (s : State) (trunc : Bool) : State :=
  let t := { s.braid.shadow with k := s.braid.swK }
  if t.ordered = false then
    { s with braid := { s.braid with swDue := none } }.set BRD_TSTAT_SWPEND 0 |>.brdCfgErr BRD_STAT_ORDERR
  else if s.fits t trunc = false then
    { s with braid := { s.braid with swDue := none } }.set BRD_TSTAT_SWPEND 0 |>.brdCfgErr BRD_STAT_DEPTHERR
  else s.install t

/-! ### BRD commands -/

/-- The computation of R159 starts, or takes up the new values. -/
def State.askTables (s : State) : State :=
  if s.flag BRD_CTRL_AUTO then { s with braid := { s.braid with busy := true } } else s

/-- BRD_VNOM, BRD_GEOM, BRD_GRAV and BRD_HYPSET: out of range, the write is ignored as a whole (R159). -/
def State.brdParamW (s : State) (a : Nat) (v : Word) : State :=
  let i := fun (f : Fld) => fldOf f v
  let within := fun lo hi x => decide (lo ≤ x ∧ x ≤ hi)
  if a = 0x6810 then
    if within 500 8000 (i BRD_VNOM_V) then (s.set BRD_VNOM_V (i BRD_VNOM_V)).askTables else s.brdWrErr
  else if a = 0x6818 then
    if within 100 20000 (i BRD_GEOM_PITCH) && within 0 600 (i BRD_GEOM_TILT) then
      ((s.set BRD_GEOM_PITCH (i BRD_GEOM_PITCH)).set BRD_GEOM_TILT (i BRD_GEOM_TILT)).askTables
    else s.brdWrErr
  else if a = 0x681C then
    if within 9760 9840 (i BRD_GRAV_G) then (s.set BRD_GRAV_G (i BRD_GRAV_G)).askTables else s.brdWrErr
  else if a = 0x6820 then
    if within 1 5 (i BRD_HYPSET_K) && within 4 64 (i BRD_HYPSET_SPACING) then
      ((s.set BRD_HYPSET_K (i BRD_HYPSET_K)).set BRD_HYPSET_SPACING (i BRD_HYPSET_SPACING)).askTables
    else s.brdWrErr
  else s

def execBrdParamWrite (r : Requester) (a : Nat) (v : Word) (s : State) : Host.Outcome State Fault Refusal :=
  ok (s.guardW r a (·.brdParamW a v))

/-- The rate that the last write of STG_FRATE asks for (R159, R173). -/
def State.rateAsked (s : State) : Nat := s.get STG_FRATE_RATE

/-- The computation ends: its set is installed under R171 or R173. -/
def State.tablesDone (s : State) : State :=
  if s.braid.busy then
    { s with braid := { s.braid with busy := false, ready := some (s.tableInputs s.rateAsked) } }.autoPump
  else s

def execBrdTableComputeDone (s : State) : Host.Outcome State Fault Refusal := ok s.tablesDone

/-- BRD_UNLAY (R155). -/
def State.brdUnlayW (s : State) (v : Word) : State :=
  if 16 < fldOf BRD_UNLAY_BETA v then s.brdWrErr
  else
    ((s.stageFld BRD_UNLAY_BETA (fldOf BRD_UNLAY_BETA v)).stageFld BRD_UNLAY_BYPASS (fldOf BRD_UNLAY_BYPASS v)).set
      BRD_UNLAY_PEND 1

def execBrdUnlayWrite (r : Requester) (v : Word) (s : State) : Host.Outcome State Fault Refusal :=
  ok (s.guardW r 0x6808 (·.brdUnlayW v))

/-- BRD_TCMD: NEWK, and a switch request (R156, R170, R171). -/
def State.brdSwitchW (s : State) (v : Word) : State :=
  let s := s.set BRD_TCMD_NEWK (fldOf BRD_TCMD_NEWK v)
  if fldOf BRD_TCMD_SWITCH v = 0 then s
  else if s.flag BRD_CTRL_AUTO || s.shadowBusy then s.brdWrErr
  else
    let t := { s.braid.shadow with k := s.get BRD_TCMD_NEWK }
    if t.ordered = false then s.brdCfgErr BRD_STAT_ORDERR
    else if s.fits t s.truncDue = false then s.brdCfgErr BRD_STAT_DEPTHERR
    else s.askSwitch t.k

def execBrdSwitch (r : Requester) (v : Word) (s : State) : Host.Outcome State Fault Refusal :=
  ok (s.guardW r 0x682C (·.brdSwitchW v))

/-- BRD_CTRL.RESTART: truncation at the boundary of R38 (R172). -/
def State.brdRestartS (s : State) : State :=
  { s with braid := { s.braid with restartDue := s.braid.restartDue ++ [s.dueOf s.time] } }

def execBrdRestart (r : Requester) (s : State) : Host.Outcome State Fault Refusal := ok (s.guardW r 0x6800 (·.brdRestartS))

/-- Speed tracking (R177): m in units of 1/(2n), σ in 1/400. -/
def State.trackEval (s : State) : State :=
  if s.flag BRD_CTRL_TRACK && s.flag BRD_CTRL_AUTO && decide (2 ≤ s.braid.active.k) then
    let kk := s.braid.active.k
    let cnt := fun k => s.get (BRD_HYPCNT_COUNT k)
    let n := sumN ((List.range kk).map cnt)
    let m2 : Int := sumI ((List.range kk).map fun (k : Nat) => (2 * (k : Int) - ((kk : Int) - 1)) * ((cnt k : Nat) : Int))
    let s' := (List.range 5).foldl (fun s k => s.set (BRD_HYPCNT_COUNT k) 0) s
    if s.get BRD_TRACK_MINCNT ≤ n ∧ 0 < n ∧ s.get BRD_TRACK_THRESH * 2 * n < m2.natAbs * 16 then
      let v := roundDiv ((s.get BRD_VNOM_V : Int) * (1600 * n + m2 * s.get BRD_HYPSET_SPACING)) (1600 * n)
      let v := clampI (s.get BRD_VLIM_VMIN) (s.get BRD_VLIM_VMAX) v
      let old := s.get BRD_VNOM_V
      let s := (s'.set BRD_VNOM_V v.toNat).askTables
      ((s.set BRD_STAT_TRACKED 1).raise Src.brdTracked).record 0x804 old v.toNat 0
    else s'
  else s

def execBrdTrackEval (s : State) : Host.Outcome State Fault Refusal := ok s.trackEval

/-! ### The frame boundary (R153, R165, R169, R172, R173, R175) -/

/-- The fields that apply at a boundary under R38 inside the logic die. -/
def liveFlds : List Fld := [BRD_UNLAY_BETA, BRD_UNLAY_BYPASS, BRD_FLAGW_REFD, BRD_FLAGW_SETTLE, BRD_FLAGW_UNL,
  KNT_CTRL_FIXEN, KNT_CTRL_FIXK, KNT_THR_OPEN, KNT_THR_CLOSE, EJS_CTRL_ROWS, EJS_CTRL_BONE, EJS_CTRL_LATEPOL,
  EJS_CTRL_LEADAUTO, EJS_DISTA_D, EJS_DISTB_D, EJS_MARGIN_TMARG, EJS_MARGIN_LMARG, EJS_MERGE_GAP, EJS_LEAD_OFS,
  EJS_LEAD_MINAVG, ETH_TAPCTL_EN, ETH_TAPCTL_SRC, ETH_TAPCTL_HYP, ETH_TAPCTL_FMT, ETH_TAPCTL_DECIM, ETH_TAPLANES_FIRST, ETH_TAPLANES_COUNT]

/-- Staged fields apply; a change of β or BYPASS starts three UNL frames (R153). -/
def State.liveStep (s : State) : State :=
  let old := (s.inForce BRD_UNLAY_BETA, s.inForce BRD_UNLAY_BYPASS)
  let s := s.set BRD_STAT_UNLFR (s.get BRD_STAT_UNLFR - 1)
  let s := s.applyLive liveFlds
  let s := s.setB BRD_UNLAY_PEND (s.isStaged BRD_UNLAY_BETA)
  if (s.inForce BRD_UNLAY_BETA, s.inForce BRD_UNLAY_BYPASS) = old then s else s.set BRD_STAT_UNLFR 3

/-- A cause of truncation at the boundary that is being carried out (R172). -/
def State.braidTruncate (s : State) (cause : Nat) : State :=
  { s with braid := { s.braid with causes := s.braid.causes ++ [cause] } }

/-- Truncate a slice at boundary `x` (R172). -/
def cutSlice (x cause : Nat) (v : Slice) : Slice :=
  if 0 ≤ frameDiff v.start x then v
  else if 0 < frameDiff v.due x then { v with due := x, cut := some x, pcause := cause }
  else v

/-- Truncation (R172): the lowest cause, the marks and the count. -/
def State.truncate (s : State) : State :=
  match s.braid.causes with
  | [] => s
  | c :: r =>
    let cause := r.foldl min c
    let x := s.frameCnt
    let cuts := s.braid.slices.filter fun v => decide (frameDiff v.start x < 0) && decide (0 < frameDiff v.due x)
    let s := (s.bumpBy BRD_PARTCNT_COUNT cuts.length).set BRD_STAT_PCAUSE cause
    { s with braid := { s.braid with slices := s.braid.slices.map (cutSlice x cause), causes := [], truncated := true } }

/-- The lowest record of a lane in the braid banks that no slice holds (log entry 20). -/
def State.freeSlot (s : State) : Nat :=
  let used := s.braid.slices.map (·.slot)
  ((List.range s.depthCap).find? fun i => !used.contains i).getD 0

/-- A slice of hypothesis `k` that starts at frame `n` (R161, R165). -/
def State.newSlice (s : State) (k n : Nat) : Slice :=
  let a := s.braid.active
  let t := s.slotAt (s.sensor.gridK + (frameDiff n s.frameCnt).toNat) 0 + 550
  { hyp := k, start := n % 2 ^ 32, stamp := t, rate := s.sensor.rate, tag := a.gen,
    due := (n + 1 + ceilDiv (a.tau k 63) 4096) % 2 ^ 32, cut := none, pcause := 0, dip := false, unsync := false,
    slot := s.freeSlot, lanes := [] }

/-- Slices that start at this boundary, and those of the next frame kept ready (R161, R170). -/
def State.startSlices (s : State) : State :=
  let n := s.frameCnt
  let run := s.sorting && !s.flag CAL_STATUS_BLIND && !s.braid.late && decide (0 < s.braid.active.k)
  let s := s.setB BRD_STAT_RUN run
  let s := if s.pipeStopped then { s with braid := { s.braid with slices := [] } } else s
  let gen := s.braid.active.gen
  let keep := s.braid.slices.filter fun v =>
    decide (frameDiff v.start n < 0) || (run && v.tag == gen && decide (v.hyp < s.braid.active.k))
  let s := { s with braid := { s.braid with slices := keep } }
  if run then
    (List.range s.braid.active.k).foldl (fun s k =>
      [n, (n + 1) % 2 ^ 32].foldl (fun s f =>
        let x := s.newSlice k f
        let already := s.braid.slices.any fun v => v.hyp == k && v.start == x.start
        if already then
          let un := f == n && s.flag GLB_STAT_UNSYNC
          let xs := s.braid.slices.map fun v =>
            if v.hyp == k && v.start == x.start then { v with stamp := x.stamp, rate := x.rate, unsync := v.unsync || un }
            else v
          { s with braid := { s.braid with slices := xs } }
        else
          let x := { x with unsync := f == n && s.flag GLB_STAT_UNSYNC }
          { s with braid := { s.braid with slices := s.braid.slices ++ [x] } }) s) s
  else s

/-- The dip flag at this boundary marks the slices it falls in (R169). -/
def State.dipSlices (s : State) : State :=
  let was := (s.braid.slices.filter (·.dip)).map (·.slot)
  let s := { s with braid := { s.braid with dipWas := was } }
  if s.flag PWR_STAT_DIP then
    let xs := s.braid.slices.map fun v => if s.started v then { v with dip := true } else v
    { s with braid := { s.braid with slices := xs } }
  else s

/-- The braid at a frame boundary; `rateChg`: a frame-rate change applies at it, with which a pending switch applies too
(R173). -/
def State.braidBoundary (s : State) (rateChg : Bool) : State :=
  let s := if rateChg then s.braidTruncate 1 else s
  let restart := s.braid.restartDue.any s.reached
  let s := { s with braid := { s.braid with restartDue := s.braid.restartDue.filter fun d => !s.reached d } }
  let s := if restart then s.braidTruncate 3 else s
  let trunc := s.braid.causes != []
  let s := s.truncate
  let auto := s.flag BRD_CTRL_AUTO
  let fit := s.braid.ready.any fun inp => inp.getD 0 0 == s.sensor.rate
  let s :=
    if auto && (rateChg || s.braid.late) then
      if fit && !s.braid.busy then
        let p := s.autoSet (s.braid.ready.getD []) true
        let s := { p.1 with braid := { p.1.braid with ready := none, late := false } }
        match p.2 with
        | some t => s.install t
        | none => s
      else
        let first := !s.braid.late
        let s := { s with braid := { s.braid with late := true, swDue := none, busy := true } }.set BRD_TSTAT_SWPEND 0
        if first then (s.set BRD_STAT_LATE 1).raise Src.brdLate else s
    else match s.braid.swDue with
      | some d => if rateChg || s.reached d then s.applySwitch trunc else s
      | none => s
  (s.startSlices.dipSlices.autoPump).brdShow

/-! ### Placing samples (R161 to R164, R179) -/

/-- The share in eighths that a sample of row `r` and frame `n` gives a slice whose set is `t` (R161). -/
def shareOf (t : TSet) (x : Slice) (n r : Nat) : Nat :=
  let p : Int := 4096 * frameDiff n x.start + 256 * ((r / 4 : Nat) : Int) - t.tau x.hyp r
  let phi := ((p % 4096).toNat + 256) / 512
  if 0 ≤ p ∧ p < 4096 then 8 - phi else if -4096 ≤ p ∧ p < 0 then phi else 0

/-- Add one sample's share to a slice lane (R163, R164, R166). -/
def LaneSum.add (z : LaneSum) (r share : Nat) (u : Unlayed) : LaneSum :=
  let w := share * u.factor
  let z := if r < 32 then { z with us := z.us + w * u.x, uw := z.uw + w } else { z with ls := z.ls + w * u.x, lw := z.lw + w }
  { z with ovrh := z.ovrh || u.high, ovrl := z.ovrl || u.low, blind := z.blind || u.blind }

/-- An uncorrectable error in the record: nothing of it is kept but BLIND (R179). -/
def LaneSum.lostRec (z : LaneSum) : LaneSum := { LaneSum.zero with blind := z.blind, ecc := true }

/-- The braid bank and word of a lane's record (R170, R312). -/
def State.bbWord (s : State) (lane slot : Nat) : Nat × Nat :=
  let per := if s.fuses.nk1024 then 64 else 128
  (32 + lane / per, lane % per * s.depthCap + slot)

/-- Read a slice lane's record through its error check (R178, R179). -/
def State.readLane (s : State) (x : Slice) (lane : Nat) : State × LaneSum :=
  let w := s.bbWord lane x.slot
  let z := mget LaneSum.zero x.lanes lane
  let p := s.memRead w.1 w.2 1
  if p.2 then (p.1.wordWritten w.1 w.2, z.lostRec) else (p.1, z)

/-- The set that a slice runs under (R168). -/
def State.setOf (s : State) (tag : Nat) : TSet :=
  if s.braid.active.gen = tag then s.braid.active
  else if s.braid.shadow.gen = tag then s.braid.shadow
  else (s.braid.kept.find? fun t => t.gen == tag).getD s.braid.shadow

/-- Kept sets that no slice uses any more go. -/
def State.pruneSets (s : State) : State :=
  { s with braid := { s.braid with kept := s.braid.kept.filter fun t => s.braid.slices.any fun x => x.tag == t.gen } }

/-- One slice takes the shares of a row group. -/
def State.braidSlice (s : State) (h : Header) (n : Nat) (us : List Unlayed) (x : Slice) : State × Slice :=
  let t := s.setOf x.tag
  let shares := (List.range 4).map fun i => shareOf t x n (4 * h.rgrp + i)
  let takes := match x.cut with
    | some c => decide (frameDiff n c < 0)
    | none => true
  if takes && shares.any (· != 0) then
    let x := { x with unsync := x.unsync || h.unsync }
    (List.range us.length).foldl (fun (p : State × Slice) k =>
      let share := shares.getD (k % 4) 0
      if share = 0 then p
      else
        match us[k]? with
        | some u =>
          let lane := 64 * h.tile + k / 4
          let q := p.1.readLane p.2 lane
          let w := s.bbWord lane x.slot
          (q.1.wordWritten w.1 w.2, { p.2 with lanes := mset LaneSum.zero p.2.lanes lane (q.2.add (4 * h.rgrp + k % 4) share u) })
        | none => p) (s, x)
  else (s, x)

/-- Place the samples of a row group of frame `n` in every slice they reach (R161). -/
def State.braidGroup (s : State) (h : Header) (n : Nat) (us : List Unlayed) : State :=
  let p := s.braid.slices.foldl (fun (p : State × List Slice) x =>
    let q := p.1.braidSlice h n us x
    (q.1, p.2 ++ [q.2])) (s, [])
  { p.1 with braid := { p.1.braid with slices := p.2 } }

end Sys2Proof.Machine
end

