-- ==== Sys2Proof/Machine/Knots.lean ====
section
/-! DEFINITION. Completed slices and the knot stage: means, bad lanes, cells, runs, candidates, knots, the choice of
hypothesis and features (spec/ file 04 R109, file 06 R165 to R169, file 07 R182 to R203). -/

namespace Sys2Proof.Machine

open Reg

/-! ### Completion (R165, R109, R182, R183) -/

/-- The quotient of two natural numbers rounded half away from zero; 0 for no divisor. -/
def rnd (n d : Nat) : Nat := if d = 0 then 0 else (2 * n + d) / (2 * d)

def Cell.empty : Cell := ⟨0, 0, 0, 0, false, false, false, false, false, false, 0, 0, 0⟩

def Cell.w (c : Cell) : Nat := c.uw + c.lw

/-- The lane record of R166 before replacement. -/
def cellOf (z : LaneSum) : Cell :=
  { Cell.empty with um := rnd z.us z.uw, lm := rnd z.ls z.lw, uw := z.uw, lw := z.lw, ovrh := z.ovrh, ovrl := z.ovrl,
                    blind := z.blind, ecc := z.ecc }

/-- Bad status of a lane at the boundary (R108). -/
def State.badLane (s : State) (l : Nat) : Bool := bitOf (s.get (COR_LANEBAD_BAD (l / 32))) (l % 32)

/-- The runs of adjacent lanes for which `p` holds, lowest and highest lane, ascending. -/
def runsOf (p : Nat → Bool) (n : Nat) : List (Nat × Nat) :=
  ((List.range n).foldl (fun (acc : List (Nat × Nat)) l =>
    if p l then
      match acc with
      | (a, b) :: r => if b + 1 = l then (a, l) :: r else (l, l) :: acc
      | [] => [(l, l)]
    else acc) []).reverse

/-- Linear interpolation by lane distance, rounded half away from zero. -/
def lerp (a b l0 l l1 : Nat) : Nat := rnd (a * (l1 - l) + b * (l - l0)) (l1 - l0)

/-- The replacement of one bad lane in the run from `a` to `b` (R109). -/
def replaced (interp : Bool) (n : Nat) (cs : List Cell) (a b l : Nat) : Cell :=
  let o := cs.getD l Cell.empty
  if !interp || decide (5 ≤ b + 1 - a) || (a == 0 && b + 1 == n) then
    { Cell.empty with blank := true, blind := o.blind, ecc := o.ecc }
  else if a = 0 ∨ b + 1 = n then
    let g := cs.getD (if a = 0 then b + 1 else a - 1) Cell.empty
    { Cell.empty with um := g.um, lm := g.lm, uw := g.uw, lw := g.lw, interp := true, blind := o.blind, ecc := o.ecc }
  else
    let x := cs.getD (a - 1) Cell.empty
    let y := cs.getD (b + 1) Cell.empty
    let um := lerp x.um y.um (a - 1) l (b + 1)
    let lm := lerp x.lm y.lm (a - 1) l (b + 1)
    { Cell.empty with um := um, lm := lm, uw := min x.uw y.uw, lw := min x.lw y.lw, interp := true, blind := o.blind,
                      ecc := o.ecc }

/-- Bad lanes of a completed slice are interpolated, copied or marked BLANK (R109). -/
def State.replaceBad (s : State) (cs : List Cell) : List Cell :=
  let runs := runsOf s.badLane s.nLanes
  runs.foldl (fun (out : List Cell) r =>
    (List.range (r.2 + 1 - r.1)).foldl (fun (out : List Cell) i =>
      out.set (r.1 + i) (replaced (s.flag COR_CTRL_INTERP_EN) s.nLanes cs r.1 r.2 (r.1 + i))) out) cs

/-- REF_l (R142). -/
def State.refOf (s : State) (l : Nat) : Nat := mget 0 s.trk.refs l

/-- POL of R182; 3 is treated as 0. -/
def State.pol (s : State) : Nat := s.get KNT_CTRL_POL % 3

/-- The combined mean V of a lane (R182). -/
def Cell.mean (c : Cell) : Nat := rnd (c.uw * c.um + c.lw * c.lm) c.w

/-- The first completed slice after start-up sets REF_l of every lane before its own cells are formed (R142; log entry
65); a test mode holds REF_l (R461). -/
def State.refInit (s : State) (cs : List Cell) : State :=
  if s.trk.refSet || s.flag CAL_STATUS_BLIND || s.tmx.mode != 0 then s
  else
    let good := (cs.filter fun c => decide (0 < c.w) && !c.blank).map fun c => (c.mean : Int)
    let a := if s.flag CAL_ANCHOR_VALID then s.get CAL_ANCHOR_A
      else (roundDiv (if good = [] then 0 else median2 good) 2).toNat
    let refs := (List.range cs.length).foldl (fun m l => mset 0 m l a) []
    { s with trk := { s.trk with refSet := true, refs := refs } }

/-- V and d of R182 and the class of R183. -/
def State.classCell (s : State) (l : Nat) (c : Cell) : Cell :=
  let v := c.mean
  let ref := s.refOf l
  let pol := s.pol
  let d : Int := if pol = 0 then (((v : Int) - ref).natAbs : Int) else if pol = 1 then (v : Int) - ref else (ref : Int) - v
  let cls :=
    if c.blank then 0
    else if (c.ovrh && pol != 2) || (c.ovrl && pol != 1) then 3
    else if c.w < s.get KNT_MINW_MINW then 1
    else if (s.inForce KNT_THR_OPEN : Int) < d then 3
    else if (s.inForce KNT_THR_CLOSE : Int) ≤ d then 2
    else 0
  { c with v := v, d := d, cls := cls }

/-- The words of the set that a slice runs under that hold an error (R313); table words of memory 57 are numbered
65,536 · table + address (log entry 22). -/
def State.tableErr (s : State) (x : Slice) : List Nat :=
  let at' := fun b => s.errWords 57 fun w =>
    let lo := 65536 * 4 + 1024 * b + 128 * x.hyp
    decide (lo ≤ w ∧ w < lo + 128)
  if s.braid.active.gen = x.tag then at' 1 else if s.braid.shadow.gen = x.tag then at' 0 else []

/-- An unlay coefficient is in error as a slice completes (R313). -/
def State.coefErr (s : State) : Bool :=
  s.mem.errs.any fun e => e.bank == 57 && e.ue && e.word / 65536 == 5

/-- A slice forms its means (R165), is replaced where its lanes are bad, and gets the classes of its cells. Completed
with a table word in error it carries ECC on every lane (R313). -/
def State.completeSlice (s : State) (x : Slice) : State × Row :=
  let p := (List.range s.nLanes).foldl (fun (p : State × List Cell) l =>
    let q := p.1.readLane x l
    (q.1, p.2 ++ [cellOf q.2])) (s, [])
  let q := p.1.tableReads (s.tableErr x)
  let ecc := q.2 || s.coefErr
  let s := q.1
  let cs := s.replaceBad (if ecc then p.2.map (fun (c : Cell) => { c with ecc := true }) else p.2)
  let s := s.refInit cs
  let cells := (List.range cs.length).map fun l => s.classCell l (cs.getD l Cell.empty)
  let t := s.setOf x.tag
  let row : Row :=
  { hyp := x.hyp, start := x.start, stamp := x.stamp, rate := x.rate, tag := x.tag,
    partialF := x.cut.isSome, pcause := x.pcause, dip := x.dip, unsync := x.unsync, depth := t.depth x.hyp,
    v0 := t.word x.hyp 64 % 65536, halfdt := t.word x.hyp 65 % 2 ^ 24, seq := s.knots.seq, cells := cells, runs := [] }
  ({ s with knots := { s.knots with seq := s.knots.seq + 1 } }, row)

/-! ### Helpers over the stage's lists -/

def State.setKnots (s : State) (k : KStage) : State := { s with knots := k }

def KStage.cand (k : KStage) (id : Nat) : Option Cand := k.cands.find? (fun c => c.id == id)

def KStage.putCand (k : KStage) (c : Cand) : KStage :=
  { k with cands := k.cands.map fun x => if x.id == c.id then c else x }

def KStage.putKnot (k : KStage) (n : Knot) : KStage :=
  { k with knots := k.knots.map fun x => if x.slot == n.slot then n else x }

def KStage.knotOf (k : KStage) (id : Nat) : Option Knot := k.knots.find? (fun n => n.cands.contains id)

def KStage.row (k : KStage) (hyp start : Nat) : Option Row := k.rows.find? (fun r => r.hyp == hyp && r.start == start)

def Cand.isOpen (c : Cand) : Bool := c.closed.isNone

def Cand.lo (c : Cand) : Nat := c.runs.foldl (fun m r => min m r.2.1) 65535
def Cand.hi (c : Cand) : Nat := c.runs.foldl (fun m r => max m r.2.2) 0

/-- Slices a candidate spans: its first to its last member slice. -/
def Cand.len (c : Cand) : Nat := (frameDiff c.last c.first).toNat + 1

def prevF (n : Nat) : Nat := (n + 2 ^ 32 - 1) % 2 ^ 32
def nextF (n : Nat) : Nat := (n + 1) % 2 ^ 32

/-- Lane ranges that overlap or are separated by no lane (R186). -/
def touches (a b : Nat × Nat) : Bool := decide (a.1 ≤ b.2 + 1 ∧ b.1 ≤ a.2 + 1)

/-- A candidate has a run in slice `s` that touches a range. -/
def Cand.touchesRun (c : Cand) (s : Nat) (r : Nat × Nat) : Bool := c.runs.any fun x => x.1 == s && touches x.2 r

/-- The candidate would span at most 256 lanes with a range added (R188). -/
def Cand.takes (c : Cand) (lo hi : Nat) : Bool := decide (max c.hi hi + 1 - min c.lo lo ≤ 256)

/-- Age order of R187. -/
def Cand.older (a b : Cand) : Bool :=
  decide (frameDiff a.first b.first < 0) || (a.first == b.first && decide (a.lane0 < b.lane0))

def insertCand (c : Cand) : List Cand → List Cand
  | [] => [c]
  | x :: r => if c.older x then c :: x :: r else x :: insertCand c r

def sortCands (l : List Cand) : List Cand := l.foldr insertCand []

/-! ### Counters and slots (R189, R192, R197) -/

/-- A split of any kind (R185, R188, R189). -/
def State.splitOne (s : State) : State :=
  let s := s.bump KNT_SPLITCNT_COUNT
  if s.flag KNT_STAT_SPLIT then s else (s.set KNT_STAT_SPLIT 1).raise Src.kntSplit

/-- The registers of slot occupancy; entering the full state raises KNT_FULL (R197). -/
def State.occShow (s : State) : State :=
  let n := s.knots.knots.length
  let was := s.flag KNT_STAT_FULL
  let s := (s.set KNT_OPEN_NOW n).set KNT_OPEN_MAX (max n (s.get KNT_OPEN_MAX))
  let s := s.setB KNT_STAT_FULL (decide (1024 ≤ n))
  if decide (1024 ≤ n) && !was then (s.set KNT_STAT_FULLSEEN 1).raise Src.kntFull else s

/-- An access of the knot stage to a knot's record: words 64 · slot to 64 · slot + 63 of KB, which are two bights (R327;
log entry 22). -/
def State.kbTouch (s : State) (slot : Nat) : State := (s.touch 49 (64 * slot)).touch 49 (64 * slot + 32)

/-- The record's words in error are rewritten as the slot is freed (R315). -/
def State.kbFresh (s : State) (slot : Nat) : State :=
  (s.errWords 49 fun w => w / 64 == slot).foldl (fun s w => s.wordWritten 49 w) (s.kbTouch slot)

/-- A knot goes: its slot and its candidates that have closed are given up. -/
def State.freeKnot (s : State) (n : Knot) : State :=
  let s := s.kbFresh n.slot
  let k := s.knots
  (s.setKnots { k with knots := k.knots.filter (fun x => x.slot != n.slot),
                       cands := k.cands.filter (fun c => !n.cands.contains c.id) }).occShow

/-- A knot is over when its verdict is issued or given up and no candidate of it is open (R192, R195). -/
def State.sweepKnot (s : State) (n : Knot) : State :=
  let isOpen := n.cands.any fun id => (s.knots.cand id).any Cand.isOpen
  let queued := s.knots.queue.any fun q => q.slot == n.slot
  if isOpen || queued then s
  else if n.closed then s.freeKnot n
  else if n.mute || n.cands == [] then (s.bump KNT_DROPCNT_COUNT).freeKnot n
  else s

def State.sweepKnots (s : State) : State := s.knots.knots.foldl (fun s n => s.sweepKnot n) s

/-! ### Contrast (R194) -/

def Row.cell (r : Row) (l : Nat) : Option Cell := r.cells[l]?

def Row.isMember (r : Row) (l : Nat) : Bool := r.runs.any fun x => decide (x.1 ≤ l ∧ l ≤ x.2)

/-- |V_in − V_out| of a pair, when it is one: the inner cell has a mean, the outer one is no member, not void and
not BLANK. -/
def pairDiff (minw : Nat) (a : Cell) (row : Row) (l : Nat) : Option Nat :=
  match row.cell l with
  | some b =>
    if row.isMember l || b.cls == 1 || b.blank || decide (b.w < minw) || b.w == 0 then none
    else some (((a.v : Int) - b.v).natAbs)
  | none => none

/-- Sum and number of the pairs of a candidate's member cells in slices `first` to `first + n − 1`, with neighbours in
the slice before and in up to `tail` slices after (R194). -/
def KStage.contrast (k : KStage) (minw : Nat) (c : Cand) (n tail : Nat) : Nat × Nat :=
  let runs := c.runs.filter fun r => decide (frameDiff r.1 c.first < n)
  runs.foldl (fun (acc : Nat × Nat) r =>
    match k.row c.hyp r.1 with
    | none => acc
    | some row =>
      let before := k.row c.hyp (prevF r.1)
      let after := if frameDiff (nextF r.1) c.first < ((n + tail : Nat) : Int) then k.row c.hyp (nextF r.1) else none
      (List.range (r.2.2 + 1 - r.2.1)).foldl (fun (acc : Nat × Nat) i =>
        let l := r.2.1 + i
        match row.cell l with
        | none => acc
        | some a =>
          if a.w < minw ∨ a.w = 0 then acc
          else
            let ds := [if l = 0 then none else pairDiff minw a row (l - 1), pairDiff minw a row (l + 1),
                       before.bind (fun b => pairDiff minw a b l), after.bind (fun b => pairDiff minw a b l)]
            ds.foldl (fun (acc : Nat × Nat) d => match d with
              | some x => (acc.1 + x, acc.2 + 1)
              | none => acc) acc) acc) (0, 0)

def State.choiceDepth (s : State) : Nat := max 1 (s.get KNT_CHOICE_DEPTH)

/-- The window's contrast of a candidate at the choice: DEPTH slices, or all of them with the closing slice. -/
def State.windowE (s : State) (c : Cand) : Nat × Nat :=
  let d := s.choiceDepth
  let minw := s.get KNT_MINW_MINW
  match c.closed with
  | some _ =>
    let all := (frameDiff c.closeAt c.first).toNat + 1
    if all ≤ d then s.knots.contrast minw c all 0 else s.knots.contrast minw c d 0
  | none => s.knots.contrast minw c d 0

/-- a/b > c/d, an empty mean counting 0. -/
def ratioGt (a b : Nat × Nat) : Bool := decide (b.1 * max 1 a.2 < a.1 * max 1 b.2)

/-! ### Features (R202, R203) -/

def satU (w v : Nat) : Nat := min v (2 ^ w - 1)
def satS (w : Nat) (v : Int) : Nat := unsgn w (clampI (-((2 ^ (w - 1) : Nat) : Int)) (((2 ^ (w - 1) : Nat) : Int) - 1) v)

/-- The member cells of a candidate, as slice, lane and cell. -/
def KStage.members (k : KStage) (c : Cand) : List (Nat × Nat × Cell) :=
  c.runs.flatMap fun r =>
    match k.row c.hyp r.1 with
    | some row => (List.range (r.2.2 + 1 - r.2.1)).filterMap fun i =>
        (row.cell (r.2.1 + i)).map fun x => (r.1, r.2.1 + i, x)
    | none => []

/-- Whether some four-neighbour of a member cell satisfies `p` (R201). -/
def KStage.neighbour (k : KStage) (c : Cand) (ms : List (Nat × Nat × Cell)) (p : Cell → Bool) : Bool :=
  ms.any fun m =>
    let at' := fun st l => match k.row c.hyp st with
      | some row => (row.cell l).any p
      | none => false
    (decide (0 < m.2.1) && at' m.1 (m.2.1 - 1)) || at' m.1 (m.2.1 + 1) || at' (prevF m.1) m.2.1 || at' (nextF m.1) m.2.1

/-- Mean |V − V'| over pairs of weighted member cells one lane apart, or one slice apart. -/
def gradient (ws : List (Nat × Nat × Cell)) (vert : Bool) : Nat × Nat :=
  ws.foldl (fun (acc : Nat × Nat) a =>
    match ws.find? (fun b => if vert then b.1 == nextF a.1 && b.2.1 == a.2.1 else b.1 == a.1 && b.2.1 == a.2.1 + 1) with
    | some b => (acc.1 + (((a.2.2.v : Nat) : Int) - b.2.2.v).natAbs, acc.2 + 1)
    | none => acc) (0, 0)

/-- The largest and second largest contrast of the choice give HMARGIN, Q4.12. -/
def hmargin (es : List (Nat × Nat × Nat)) : Nat :=
  let vs := es.map (·.2)
  let best := vs.foldl (fun m e => if ratioGt e m then e else m) (0, 1)
  let rest := vs.erase best
  let second := rest.foldl (fun m e => if ratioGt e m then e else m) (0, 1)
  if second.1 = 0 then 4096 else satU 16 (rnd (4096 * best.1 * second.2) (best.2 * second.1))

/-- SLOPE in 1/16 K/s: HALFDT is in 1/256 µs; with a HALFDT of 0 no value is stated (log entry 2). -/
def State.slope (s : State) (early late halfdt : Nat) : State × Nat :=
  if halfdt = 0 then
    let f := s.draw
    (f.2, f.1 % 65536)
  else (s, satS 16 (roundDiv (32000000 * ((late : Int) - early)) halfdt))

/-- The 24 features of a closed knot's chosen candidate (R202). -/
def State.features (s : State) (n : Knot) (c : Cand) (s0 : Nat) (row0 : Row) : State × List Nat :=
  let k := s.knots
  let minw := s.get KNT_MINW_MINW
  let ms := k.members c
  let ws := ms.filter fun m => decide (minw ≤ m.2.2.w)
  let area := ms.length
  let ns := c.len
  let nl := c.hi + 1 - c.lo
  let sum := fun (f : Cell → Nat) => sumN (ws.map fun m => f m.2.2)
  let uw := sum (·.uw)
  let lw := sum (·.lw)
  let noslope := uw == 0 || lw == 0
  let wt := uw + lw
  let usum := sum fun x => x.uw * x.um
  let lsum := sum fun x => x.lw * x.lm
  let mean := rnd (usum + lsum) wt
  let vs := ws.map fun m => m.2.2.v
  let lowO := ms.any fun m => m.2.2.ovrl
  let highO := ms.any fun m => m.2.2.ovrh
  let vmin := if lowO then 0 else match vs with
    | [] => 0
    | v :: r => r.foldl min v
  let vmax := if highO then 0xFFFF else vs.foldl max 0
  let early := if noslope then 0 else rnd usum uw
  let late := if noslope then 0 else rnd lsum lw
  let p := if noslope then (s, 0) else s.slope early late row0.halfdt
  let s := p.1
  let con := k.contrast minw c ns 1
  let lanes := (ms.map (·.2.1)).dedup
  let refm : Int := rnd (sumN (lanes.map s.refOf)) lanes.length
  let nw := ws.length
  let sq := sumN (vs.map fun v => v * v)
  let sm := sumN vs
  let var16 := 256 * (nw * sq - sm * sm)
  let sd : Int := ((isqrt 40 (4 * var16 / max 1 (nw * nw)) + 1) / 2 : Nat)
  let sde := clampN 0xFFFF (sd + ((Config.sdevError [nw, sq, sm] % 3 : Nat) : Int) - 1)
  let lg := gradient ws false
  let sg := gradient ws true
  let hot := (ws.filter fun m => decide ((s.get KNT_HOT_DELTA : Int) < m.2.2.d)).length
  let lenmm := satU 16 (rnd (256 * ns * row0.v0) row0.rate)
  let widmm := satU 16 (rnd (256 * nl * s.get KNT_GEOM_CPITCH) 10000)
  let ovr := (ms.filter fun m => m.2.2.ovrh || m.2.2.ovrl).length
  let wall := sumN (ms.map fun m => m.2.2.w)
  (s, [satU 16 area, satU 16 ns, satU 16 nl, lenmm, widmm, satU 16 (rnd (65536 * area) (ns * nl)),
    if ws = [] then 0 else mean, vmin, vmax, early, late, p.2,
    satU 16 (rnd (8 * con.1) con.2), satS 16 ((if ws = [] then 0 else (mean : Int)) - refm),
    if nw = 0 then 0 else sde, satU 16 (rnd (16 * lg.1) lg.2), satU 16 (rnd (16 * sg.1) sg.2),
    satU 16 (rnd (65536 * hot) nw), satU 16 (rnd (32 * sumN (ms.map (·.2.1))) area),
    satU 16 (rnd (64 * (sumI (ms.map fun m => frameDiff m.1 s0)).toNat) area), hmargin n.es, satU 16 ovr,
    satU 16 (rnd (65536 * wall) (1024 * area)), satU 16 (rnd (256 * lenmm) widmm)])

/-- KFLAGS of R201, but for NOELIG and FORCED; EDGE is the knot's, of all its candidates. -/
def State.kflags (s : State) (n : Knot) (c : Cand) (qual : Nat) : Nat :=
  let k := s.knots
  let all := c :: n.cands.filterMap fun id => k.cand id
  let edge := all.any fun x => x.lo == 0 || x.hi + 1 == s.nLanes
  let ms := k.members c
  let minw := s.get KNT_MINW_MINW
  let ws := ms.filter fun m => decide (minw ≤ m.2.2.w)
  let rows := (ms.map (·.1)).dedup.filterMap fun st => k.row c.hyp st
  let tags := (rows.map (·.tag)).dedup
  let recErr := s.mem.errs.any fun e => e.bank == 49 && e.ue && e.word / 64 == n.slot
  let b := fun (x : Bool) (i : Nat) => if x then 2 ^ i else 0
  b (n.trunc || c.trunc || rows.any (·.partialF)) 0 + b (rows.any (·.dip)) 1 + b (rows.any (·.unsync)) 2
    + b (ms.any (fun m => m.2.2.blind) || k.neighbour c ms (·.blind)) 3
    + b (ms.any fun m => m.2.2.ovrh || m.2.2.ovrl) 4 + b (ms.any fun m => m.2.2.interp) 5
    + b (ms.any (fun m => m.2.2.ecc) || k.neighbour c ms (·.ecc) || recErr) 6 + b c.splitL 7 + b c.splitW 8
    + b edge 9 + b (decide (1 < tags.length)) 10
    + b (sumN (ws.map fun m => m.2.2.uw) == 0 || sumN (ws.map fun m => m.2.2.lw) == 0) 11
    + b (decide (qual < s.get VRD_QMIN_QMIN)) 12 + b (k.neighbour c ms (·.blank)) 15

/-- Member cells in a splice band: their number and the sum of their chain lanes (R422). -/
def bandSum (ms : List (Nat × Nat × Cell)) (ofs lo hi : Nat) : Nat × Nat :=
  let b := ms.filter fun m => decide (lo ≤ m.2.1 ∧ m.2.1 < hi)
  (b.length, sumN (b.map fun m => m.2.1 + ofs))

/-- Overlaps at ports L and H (R414): the formed link's, else the register's, even. -/
def State.overlapL (s : State) : Nat :=
  match s.chain.low with
  | some i => i.overlap
  | none => s.get CHN_SPLICE_LW / 2 * 2

def State.overlapH (s : State) : Nat :=
  match s.chain.high with
  | some i => i.overlap
  | none => s.get CHN_SPLICE_HW / 2 * 2

/-- The knot's first slice: the earliest among its candidates (R191). -/
def KStage.firstOf (k : KStage) (n : Knot) : Nat :=
  let fs := n.cands.filterMap fun id => (k.cand id).map (·.first)
  match fs with
  | [] => 0
  | f :: r => r.foldl (fun m x => if frameDiff x m < 0 then x else m) f

/-- Verdicts leave in the order in which their closing slices were delivered, then by lowest lane (R210). -/
def insertClosed (q : Closed) : List Closed → List Closed
  | [] => [q]
  | x :: r => if q.seq < x.seq ∨ (q.seq = x.seq ∧ q.lane1 < x.lane1) then q :: x :: r else x :: insertClosed q r

/-- The chosen candidate has closed: the knot closes, and its features are measured (R195, R200, R202). -/
def State.closeKnot (s : State) (n : Knot) (c : Cand) : State :=
  let s := s.kbTouch n.slot
  let k := s.knots
  let area := (k.members c).length
  if area < s.get KNT_MINAREA_AREA then
    (s.setKnots (k.putKnot { n with closed := true, mute := true })).bump KNT_DROPCNT_COUNT
  else
    match k.row c.hyp c.first with
    | none => s.setKnots (k.putKnot { n with closed := true, mute := true })
    | some row0 =>
      let s0 := k.firstOf n
      let sst := match (k.rows.find? fun r => r.start == s0) with
        | some r => r.stamp
        | none => row0.stamp
      let p := s.features n c s0 row0
      let s := p.1
      let ms := k.members c
      let ofs := s.get CHN_OFFSET_LANE0
      let lowBand := bandSum ms ofs 0 s.overlapL
      let highBand := bandSum ms ofs (s.nLanes - s.overlapH) s.nLanes
      let q : Closed :=
      { slot := n.slot, hyp := c.hyp, tag := row0.tag, kstamp := floor2 s.time, sstamp := sst, s0 := s0,
        rate := row0.rate, v0 := row0.v0, lane1 := c.lo, lane2 := c.hi, flags := s.kflags n c (p.2.getD 22 0),
        bank := s.get VRD_CTRL_ACTBANK, feats := p.2, bandN := (lowBand.1, highBand.1),
        bandS := (lowBand.2, highBand.2), seq := c.closed.getD 0 }
      s.setKnots { (s.knots.putKnot { n with closed := true }) with queue := insertClosed q s.knots.queue }

/-! ### The choice (R193, R194) -/

/-- Hypotheses in the order that breaks ties: the reference first, then by distance from it, then the lower. -/
def tieOrder (kref : Nat) : List Nat :=
  kref :: ((List.range 5).flatMap fun d => if d = 0 then [] else
    (if d ≤ kref then [kref - d] else []) ++ [kref + d])

/-- The knot chooses, among the hypotheses that hold a candidate in it (R194). -/
def State.choose (s : State) (n : Knot) : State :=
  let k := s.knots
  let cs := n.cands.filterMap fun id => k.cand id
  let es := cs.map fun c => (c.hyp, s.windowE c)
  let order := (tieOrder (s.braid.active.k / 2)).filterMap fun h => es.find? fun e => e.1 == h
  match order with
  | [] => s
  | e :: r =>
    let best := r.foldl (fun m x => if ratioGt x.2 m.2 then x else m) e
    match cs.find? (fun c => c.hyp == best.1) with
    | none => s
    | some c =>
      let n := { n with chosen := some c.id, es := es }
      let s := (s.setKnots (k.putKnot n)).bump (BRD_HYPCNT_COUNT best.1)
      if c.isOpen then s else s.closeKnot n c

/-- Hypothesis `h` is absent from the active set and has no slice in flight (R193). -/
def State.hypGone (s : State) (h : Nat) : Bool :=
  decide (s.braid.active.k ≤ h) && !s.braid.slices.any fun x => x.hyp == h && s.started x

/-- Hypothesis `h` is ready for a knot (R193). -/
def State.hypReady (s : State) (n : Knot) (h : Nat) : Bool :=
  let k := s.knots
  s.hypGone h || match (n.cands.filterMap fun id => k.cand id).find? (fun c => c.hyp == h) with
    | some c => !c.isOpen || decide (s.choiceDepth ≤ c.len)
    | none =>
      let d := mget 0 k.done h
      decide (0 < d) && decide (0 ≤ frameDiff (d - 1) (nextF (k.firstOf n)))

/-- Knots whose last hypothesis is ready choose; `force`: at a truncation every knot does, and carries PARTIAL (R198). -/
def State.chooseAll (s : State) (force : Bool) : State :=
  s.knots.knots.foldl (fun s n =>
    match s.knots.knots.find? (fun x => x.slot == n.slot) with
    | some n =>
      if n.chosen.isNone && !n.mute && (force || (List.range 5).all fun h => s.hypReady n h) then
        s.choose { n with trunc := n.trunc || force }
      else s
    | none => s) s

/-! ### Candidates and knots (R187 to R192, R196, R197) -/

/-- The hypothesis that FIXEN fixes; the reference one where FIXK is not in the set (R196). -/
def State.fixedHyp (s : State) : Option Nat :=
  if s.isForce KNT_CTRL_FIXEN then
    some (if s.inForce KNT_CTRL_FIXK < s.braid.active.k then s.inForce KNT_CTRL_FIXK else s.braid.active.k / 2)
  else none

/-- The open knot that a new candidate joins (R191): the one opened first among those that qualify. -/
def State.joinsKnot (s : State) (hyp start lo hi : Nat) : Option Knot :=
  let k := s.knots
  k.knots.find? fun n =>
    let cs := n.cands.filterMap fun id => k.cand id
    n.chosen.isNone && !n.mute && !n.closed && !(cs.any fun c => c.hyp == hyp)
      && cs.any fun c =>
        let d := frameDiff c.first start
        decide (-1 ≤ d ∧ d ≤ 1) && c.runs.any fun r => r.1 == c.first && touches r.2 (lo, hi)

/-- A bight of a slot is under test (R325). -/
def State.slotTested (s : State) (slot : Nat) : Bool :=
  s.mem.phase != .idle && s.mem.bank == 49 && s.mem.bight / 2 == slot

/-- The slot a knot takes: the lowest free one, passing over slots under test while another is free (R325). -/
def State.takeSlot (s : State) : Nat :=
  let used := s.knots.knots.map (·.slot)
  let free := (List.range 1024).filter fun i => !used.contains i
  match free.find? fun i => !s.slotTested i with
  | some i => i
  | none => free.headD 0

/-- A member run that touches no open candidate starts one, or is lost (R187, R191, R196, R197). -/
def State.startCand (s : State) (row : Row) (lo hi : Nat) (splitW splitL : Bool) : State × Bool :=
  let fixed := s.fixedHyp
  let c : Cand := ⟨s.knots.nextId, row.hyp, row.start, row.start, lo, [(row.start, lo, hi)], none, 0, splitL, splitW, false⟩
  let add := fun (k : KStage) => { k with cands := k.cands ++ [c], nextId := k.nextId + 1 }
  if !s.flag KNT_CTRL_EN then (s, false)
  else
    match s.joinsKnot row.hyp row.start lo hi with
    | some n => ((s.kbTouch n.slot).setKnots ((add s.knots).putKnot { n with cands := n.cands ++ [c.id] }), true)
    | none =>
      if fixed.any (· != row.hyp) then (s, false)
      else if s.flag KNT_STAT_FULL then
        let k := s.knots
        let s := s.setKnots { k with lost := k.lost ++ [(row.hyp, row.start, lo, hi)] }
        (s.bump KNT_LOSTCNT_COUNT, false)
      else
        let slot := s.takeSlot
        let s := s.kbTouch slot
        let n : Knot := ⟨slot, [c.id], if fixed.isSome then some c.id else none, false, false, false, []⟩
        let k := add s.knots
        let s := (s.setKnots { k with knots := k.knots ++ [n] }).occShow
        (if fixed.isSome then s.bump (BRD_HYPCNT_COUNT row.hyp) else s, true)

/-- A candidate merges into another (R187, R192). -/
def State.mergeCand (s : State) (a b : Cand) : State :=
  let k := s.knots
  let m := { a with runs := a.runs ++ b.runs, splitW := a.splitW || b.splitW, splitL := a.splitL || b.splitL,
                    last := if frameDiff a.last b.last < 0 then b.last else a.last, trunc := a.trunc || b.trunc }
  let k := (k.putCand m)
  let k := { k with cands := k.cands.filter fun c => c.id != b.id }
  match k.knotOf b.id with
  | none => s.setKnots k
  | some n =>
    let n := { n with cands := n.cands.filter (· != b.id), mute := n.mute || n.chosen == some b.id }
    (s.setKnots (k.putKnot n)).sweepKnot n

/-- A run joins the oldest candidate that can take it, and the others merge where they may (R187, R188). -/
def State.joinRun (s : State) (row : Row) (lo hi : Nat) (cut : Bool) (ids : List Nat) : State × Bool :=
  let cs := sortCands (ids.filterMap fun id => s.knots.cand id)
  match cs.find? (fun c => c.takes lo hi) with
  | none =>
    let s := cs.foldl (fun s c => (s.setKnots (s.knots.putCand { c with splitW := true })).splitOne) s
    s.startCand row lo hi true false
  | some a =>
    let refused := cs.takeWhile fun c => c.id != a.id
    let a := { a with runs := a.runs ++ [(row.start, lo, hi)], last := row.start,
                      splitW := a.splitW || cut || refused != [] }
    let s := match s.knots.knotOf a.id with
      | some n => s.kbTouch n.slot
      | none => s
    let s := s.setKnots (s.knots.putCand a)
    let s := refused.foldl (fun s c => (s.setKnots (s.knots.putCand { c with splitW := true })).splitOne) s
    let rest := (cs.dropWhile fun c => c.id != a.id).drop 1
    (rest.foldl (fun s c =>
      match s.knots.cand a.id, s.knots.cand c.id with
      | some a, some c =>
        if a.takes c.lo c.hi then s.mergeCand a c
        else
          let k := (s.knots.putCand { a with splitW := true }).putCand { c with splitW := true }
          (s.setKnots k).splitOne
      | _, _ => s) s, true)

/-- One run of a slice (R186, R187, R189, R197); the flag says that it is a member. -/
def State.runStep (s : State) (row : Row) (lo hi : Nat) (cut strong : Bool) : State × Bool :=
  let k := s.knots
  let p := prevF row.start
  let joined := mget 0 k.done row.hyp == p + 1
  let ids := (k.cands.filter fun c => c.hyp == row.hyp && c.isOpen && joined && c.touchesRun p (lo, hi)).map (·.id)
  let lost := joined && k.lost.any fun x => x.1 == row.hyp && x.2.1 == p && touches x.2.2 (lo, hi)
  let full := joined && k.full.any fun x => x.1 == row.hyp && x.2.1 == p && touches x.2.2 (lo, hi)
  if ids != [] then s.joinRun row lo hi cut ids
  else if lost then (s.setKnots { k with lost := k.lost ++ [(row.hyp, row.start, lo, hi)] }, false)
  else if strong || full then s.startCand row lo hi cut full
  else (s, false)

/-- The runs of a slice, cut at 256 lanes: lowest and highest lane, cut, holds a strong cell (R185). -/
def Row.findRuns (r : Row) : List (Nat × Nat × Bool × Bool) :=
  (runsOf (fun l => (r.cell l).any fun c => decide (2 ≤ c.cls)) r.cells.length).flatMap fun x =>
    let n := x.2 + 1 - x.1
    (List.range (ceilDiv n 256)).map fun i =>
      let lo := x.1 + 256 * i
      let hi := min x.2 (lo + 255)
      (lo, hi, decide (256 < n), (List.range (hi + 1 - lo)).any fun j => (r.cell (lo + j)).any fun c => c.cls == 3)

/-- A candidate closes on a slice: the delivery order of that slice is kept (R190). -/
def State.closeCand (s : State) (c : Cand) (row : Row) (splitL trunc : Bool) : State :=
  let c := { c with closed := some row.seq, closeAt := row.start, splitL := c.splitL || splitL, trunc := c.trunc || trunc }
  let s := s.setKnots (s.knots.putCand c)
  match s.knots.knotOf c.id with
  | some n =>
    let n := { n with trunc := n.trunc || trunc }
    let s := s.setKnots (s.knots.putKnot n)
    if n.chosen == some c.id && !n.closed && !n.mute then s.closeKnot n c else s
  | none => s

/-- A candidate's runs in its 512th slice, which make the runs that touch them in the next slice members (R189). -/
def State.fullRuns (s : State) (c : Cand) (start : Nat) : State :=
  let rs := (c.runs.filter fun r => r.1 == start).map fun r => (c.hyp, r)
  s.setKnots { s.knots with full := s.knots.full ++ rs }

/-- Segmentation of one completed slice (R185 to R190); a candidate that closes on a truncated slice does so under
R198. -/
def State.segment (s : State) (row : Row) : State :=
  let runs := row.findRuns
  let s := (runs.filter fun r => r.2.2.1).foldl (fun (p : State × Option Nat) r =>
    (if p.2 == some r.1 then p.1.splitOne else p.1, some (r.2.1 + 1))) (s, none) |>.1
  let k := s.knots
  let s := s.setKnots { k with rows := k.rows ++ [row] }
  let p := runs.foldl (fun (p : State × List (Nat × Nat)) r =>
    let q := p.1.runStep row r.1 r.2.1 r.2.2.1 r.2.2.2
    (q.1, if q.2 then p.2 ++ [(r.1, r.2.1)] else p.2)) (s, [])
  let s := p.1
  let k := s.knots
  let rows := k.rows.map fun r => if r.hyp == row.hyp && r.start == row.start then { r with runs := p.2 } else r
  let s := s.setKnots { k with rows := rows, done := mset 0 k.done row.hyp (row.start + 1),
                               lost := k.lost.filter fun x => x.1 != row.hyp || x.2.1 == row.start,
                               full := k.full.filter fun x => x.1 != row.hyp }
  let mine := (s.knots.cands.filter fun c => c.hyp == row.hyp && c.isOpen).map (·.id)
  mine.foldl (fun s id =>
    match s.knots.cand id with
    | some c =>
      if c.last != row.start then s.closeCand c row false row.partialF
      else if 512 ≤ c.len then ((s.fullRuns c row.start).closeCand c row true row.partialF).splitOne
      else s
    | none => s) s

/-- At a truncation every open candidate closes on the burst (R198). -/
def State.closeAllOpen (s : State) : State :=
  let ids := (s.knots.cands.filter Cand.isOpen).map (·.id)
  let s := s.setKnots { s.knots with done := [], full := [] }
  ids.foldl (fun s id =>
    match s.knots.cand id with
    | some c =>
      let rows := s.knots.rows.filter fun r => r.hyp == c.hyp
      match rows.getLast? with
      | some r => s.closeCand c r false true
      | none => s
    | none => s) s

/-- Rows that no candidate needs any more, and that lie more than TAIL slices back, go. -/
def State.pruneRows (s : State) : State :=
  let k := s.knots
  let newest := fun (h : Nat) => ((k.rows.filter fun r => r.hyp == h).getLast?.map (·.start)).getD 0
  let need := fun (r : Row) =>
    decide (frameDiff (newest r.hyp) r.start ≤ s.get CAL_TRK_TAIL) || k.cands.any fun c => c.hyp == r.hyp && decide (frameDiff (prevF c.first) r.start ≤ 0)
  s.setKnots { k with rows := k.rows.filter need }

/-- When sorting stops, open knots are freed without verdicts (R198). -/
def State.dropKnots (s : State) : State :=
  let k := s.knots
  let gone := k.knots.filter fun n => !n.closed
  let s := s.bumpBy KNT_DROPCNT_COUNT gone.length
  let keep := k.knots.filter fun n => n.closed && k.queue.any fun q => q.slot == n.slot
  (s.setKnots { k with knots := keep, cands := [], rows := [], lost := [], done := [], full := [] }).occShow

/-! ### REF_l (R142) -/

/-- A slice lane's distance from the member cells of its hypothesis: more than TAIL slices and LANES lanes. -/
def State.refFree (s : State) (row : Row) (l : Nat) : Bool :=
  let tail := s.get CAL_TRK_TAIL
  let lanes := s.get CAL_TRK_LANES
  !s.knots.rows.any fun r => r.hyp == row.hyp
    && (let d := frameDiff row.start r.start; decide (0 ≤ d ∧ d ≤ tail))
    && r.runs.any fun x => decide (x.1 ≤ l + lanes ∧ l ≤ x.2 + lanes)

/-- REF_l follows a completed slice of the reference hypothesis (R142); a test mode holds it (R461). -/
def State.refUpdate (s : State) (row : Row) : State :=
  let k := match s.fixedHyp with
    | some k => k
    | none => s.braid.active.k / 2
  if row.hyp ≠ k ∨ s.flag CAL_STATUS_BLIND ∨ s.tmx.mode ≠ 0 then s
  else
    let n := row.cells.length
    let refs := (List.range n).foldl (fun m l =>
      match row.cell l with
      | some c =>
        if row.partialF || row.dip || c.blank || c.w == 0 || !s.refFree row l then m
        else
          let r := mget 0 m l
          mset 0 m l ((r : Int) + roundDiv ((c.v : Int) - r) 256).toNat
      | none => m) s.trk.refs
    { s with trk := { s.trk with refs := refs } }

end Sys2Proof.Machine
end

