-- ==== Sys2Proof/Machine/Verdict.lean ====
section
/-! DEFINITION. Scoring, verdict records and the verdict log (spec/ file 07, R204 to R214). -/

namespace Sys2Proof.Machine

open Reg

/-! ### Classifier table (R204, R208, R213) -/

/-- What an unlisted classifier word reads as: class 0 of each bank is enabled with action accept (R208). -/
def clsReset (k : Nat) : Nat := if k % 512 = 17 then 1 else 0

/-- Classifier words are kept as their difference by exclusive or from their reset values. -/
def State.clsWord (s : State) (bank c w : Nat) : Nat :=
  let k := 512 * bank + 32 * c + w
  mget 0 s.sched.cls k ^^^ clsReset k

def State.setClsWord (s : State) (bank c w v : Nat) : State :=
  let k := 512 * bank + 32 * c + w
  { s with sched := { s.sched with cls := mset 0 s.sched.cls k (v % 2 ^ 32 ^^^ clsReset k) } }

/-- The implemented bits of a classifier word (R213). -/
def clsMask (w : Nat) : Nat :=
  if w < 13 then 0xFFFFFFFF else if w < 17 then 0xFFFF007F else if w = 17 then 0x107 else 0

/-- Feature `i` as a number: SLOPE and DMEAN are signed (R203). -/
def featVal (feats : List Nat) (i : Nat) : Int :=
  let v := feats.getD i 0
  if i = 11 ∨ i = 13 then sgn 16 v else v

/-- A gating rule holds (R205). -/
def ruleHolds (feats : List Nat) (w : Nat) : Bool :=
  let f := bits w 0 5
  let t := bits w 16 16
  let op := bits w 5 2
  let tv : Int := if f = 11 ∨ f = 13 then sgn 16 t else t
  if 23 < f ∨ op = 0 ∨ op = 3 then true
  else if op = 1 then decide (tv ≤ featVal feats f) else decide (featVal feats f < tv)

def State.classEn (s : State) (bank c : Nat) : Bool := bitOf (s.clsWord bank c 17) 0
def State.classAction (s : State) (bank c : Nat) : Nat := bits (s.clsWord bank c 17) 1 2
def State.classLog (s : State) (bank c : Nat) : Bool := bitOf (s.clsWord bank c 17) 8

def State.eligible (s : State) (bank c : Nat) (feats : List Nat) : Bool :=
  s.classEn bank c && (List.range 4).all fun i => ruleHolds feats (s.clsWord bank c (13 + i))

/-- 256 · S_c (R206). -/
def State.score (s : State) (bank c : Nat) (feats : List Nat) : Int :=
  256 * sgn 32 (s.clsWord bank c 12) + sumI ((List.range 24).map fun i =>
    sgn 16 (bits (s.clsWord bank c (i / 2)) (16 * (i % 2)) 16) * featVal feats i)

/-- The best of scored classes: the highest score, ties to the lowest class. -/
def bestClass (l : List (Nat × Int)) : Option (Nat × Int) :=
  l.foldl (fun m x => match m with
    | none => some x
    | some y => if y.2 < x.2 then some x else some y) none

/-- The forced conditions of R207 in bit order. -/
def forcedConds (flags : Nat) : List Bool :=
  [bitOf flags 6, bitOf flags 0, bitOf flags 1, bitOf flags 4, bitOf flags 7 || bitOf flags 8, bitOf flags 12]

/-- A verdict (R209). -/
structure Verdict where
  vseq : Nat
  cls : Nat
  action : Nat
  kflags : Nat
  score : Int
  runner : Option (Nat × Int)
  deriving DecidableEq, Repr

/-- Scoring of one knot (R205 to R208), with the counters it moves. -/
def State.scoreKnot (s : State) (q : Closed) (flags : Nat) : State × Verdict :=
  let b := q.bank
  let vseq := s.get VRD_SEQ_NEXT
  match (List.range 6).find? fun i => bitOf (s.get VRD_FORCEEN_EN) i && (forcedConds flags).getD i false with
  | some i =>
    let c := bits (s.get VRD_FORCECLS_CLS) (4 * i) 4
    ((s.set VRD_STAT_FORCED 1).bump VRD_FORCECNT_COUNT, ⟨vseq, c, s.classAction b c % 3, flags ||| 2 ^ 14, 0, none⟩)
  | none =>
    let l := ((List.range 16).filter fun c => s.eligible b c q.feats).map fun c => (c, s.score b c q.feats)
    match bestClass l with
    | some w => (s, ⟨vseq, w.1, s.classAction b w.1 % 3, flags, w.2, bestClass (l.filter fun x => x.1 != w.1)⟩)
    | none =>
      let first := !s.flag VRD_STAT_NOELIG
      let f := s.draw
      let s := (f.2.set VRD_STAT_NOELIG 1).bump VRD_NOELIGCNT_COUNT
      ((if first then s.raise Src.vrdNoElig else s),
        ⟨vseq, 0, s.classAction b 0 % 3, flags ||| 2 ^ 13, sgn 32 (f.1 % 2 ^ 32), none⟩)

/-- The integer part of (S_win − S_runner), saturated (R209). -/
def Verdict.margin (v : Verdict) : Nat :=
  match v.runner with
  | some r => clampN 0xFFFF ((v.score - r.2) / 256)
  | none => 0

/-- The 24 words of a verdict record (R209). -/
def recordWords (vstamp : Nat) (q : Closed) (v : Verdict) : List Nat :=
  let f := fun i => q.feats.getD i 0
  let sc := unsgn 32 (clampI (-2147483648) 2147483647 v.score)
  let run := match v.runner with
    | some r => r.1 + 16
    | none => 0
  [vstamp % 2 ^ 32, vstamp / 2 ^ 32, q.kstamp % 2 ^ 32, q.kstamp / 2 ^ 32, q.sstamp % 2 ^ 32, q.sstamp / 2 ^ 32,
   v.vseq + q.slot % 1024 * 2 ^ 16 + q.bank % 2 * 2 ^ 26 + q.hyp % 8 * 2 ^ 27,
   v.cls + v.action * 2 ^ 4 + q.tag % 256 * 2 ^ 8 + f 1 % 1024 * 2 ^ 16,
   q.lane1 + q.lane2 * 2 ^ 16, v.kflags % 2 ^ 16 + q.s0 % 65536 * 2 ^ 16]
  ++ (List.range 12).map (fun j => f (2 * j) + f (2 * j + 1) * 2 ^ 16) ++ [sc, run + v.margin * 2 ^ 16]

/-- Whether the log takes a verdict (R211). -/
def State.logsVerdict (s : State) (q : Closed) (v : Verdict) : Bool :=
  let m := s.get VRD_LOGCTL_MODE
  m != 0 && (m == 1 || (m == 2 && (v.action == 1 || v.action == 2))
    || (m == 3 && v.vseq % max 1 (s.get VRD_LOGCTL_N) == 0) || s.classLog q.bank v.cls)

/-- The verdict log takes a record (R211). -/
def State.logVerdict (s : State) (ws : List Nat) : State :=
  let e := s.get VRD_LOGHEAD_NEXT
  let log := (List.range ws.length).foldl (fun m i => mset 0 m (32 * e + i) (ws.getD i 0)) s.sched.log
  let s := (List.range 12).foldl (fun (s : State) i => s.wordWritten 56 (0x4000 + 16 * e + i)) s
  ({ s with sched := { s.sched with log := log } }.incr VRD_LOGHEAD_NEXT).bump VRD_LOGHEAD_TOTAL

/-- The words in error of the classifier bank used (R313; log entry 22). -/
def State.clsErr (s : State) (bank : Nat) : List Nat :=
  let lo := 65536 * 6 + 512 * bank
  s.errWords 57 fun w => decide (lo ≤ w ∧ w < lo + 512)

/-- The reads of the knot's record in KB (R201, R315). -/
def State.kbRead (s : State) (slot : Nat) : State × Bool :=
  (s.errWords 49 fun w => w / 64 == slot).foldl (fun p w =>
    let q := p.1.memRead 49 w 1
    (q.1, p.2 || q.2)) (s.kbTouch slot, false)

/-- KFLAGS as the verdict carries them: a memory error met now sets ECC (R201, R313). -/
def State.finalFlags (s : State) (q : Closed) : State × Nat :=
  let a := s.kbRead q.slot
  let b := a.1.tableReads (a.1.clsErr q.bank)
  (b.1, if a.2 || b.2 then q.flags ||| 2 ^ 6 else q.flags)

/-- The first waiting knot's verdict and record, its slot given up (R195, R206 to R211). -/
def State.verdictOf (s : State) (q : Closed) : State × Verdict :=
  let p := s.finalFlags q
  let r := p.1.scoreKnot q p.2
  let v := r.2
  let s := ((r.1.incr VRD_SEQ_NEXT).bump (VRD_CLSCNT_COUNT v.cls)).bump KNT_CLOSED_COUNT
  let ws := recordWords (floor2 s.time) q v
  let s := if s.logsVerdict q v then s.logVerdict ws else s
  let k := s.knots
  ((s.setKnots { k with queue := k.queue.drop 1 }).sweepKnots, v)

/-! ### Commands -/

/-- VRD_CTRL.SWITCH (R204). -/
def State.vrdSwitchS (s : State) : State :=
  if s.flag VRD_CTRL_SWPEND then s.set VRD_STAT_WRERR 1
  else { s with sched := { s.sched with clsDue := some (s.dueOf s.time) } }.set VRD_CTRL_SWPEND 1

def execVrdSwitch (r : Requester) (s : State) : Host.Outcome State Fault Refusal := ok (s.guardW r 0x7400 (·.vrdSwitchS))

/-- The banks exchange at their boundary (R204, R220). -/
def State.bankBoundary (s : State) : State :=
  let s := match s.sched.clsDue with
    | some d =>
      if s.reached d then
        ({ s with sched := { s.sched with clsDue := none } }.set VRD_CTRL_SWPEND 0).set VRD_CTRL_ACTBANK
          (1 - s.get VRD_CTRL_ACTBANK)
      else s
    | none => s
  match s.sched.mapDue with
    | some d =>
      if s.reached d then
        ({ s with sched := { s.sched with mapDue := none } }.set EJS_CTRL_MAPPEND 0).set EJS_CTRL_MAPACT
          (1 - s.get EJS_CTRL_MAPACT)
      else s
    | none => s

/-- KNT_THR (R184): a write with CLOSE above OPEN is ignored. -/
def State.kntThrW (s : State) (v : Word) : State :=
  if fldOf KNT_THR_OPEN v < fldOf KNT_THR_CLOSE v then s.set KNT_STAT_WRERR 1
  else (s.stageFld KNT_THR_OPEN (fldOf KNT_THR_OPEN v)).stageFld KNT_THR_CLOSE (fldOf KNT_THR_CLOSE v)

def execKntThrWrite (r : Requester) (v : Word) (s : State) : Host.Outcome State Fault Refusal :=
  ok (s.guardW r 0x7008 (·.kntThrW v))

end Sys2Proof.Machine
end

