-- ==== Sys2Proof/Machine/Schedule.lean ====
section
/-! DEFINITION. Ejection scheduling: arrival, windows, valve queues, blind firings, ownership across a splice
(spec/ file 08; R126 to R129, R422 to R426, R457, R458). -/

namespace Sys2Proof.Machine

open Reg

/-! ### The map (R219, R220, R233) -/

def State.mapWord (s : State) (bank l : Nat) : Nat := mget 0 s.sched.map (2048 * bank + l)

/-- Table-memory words of the map, numbered as log entry 22 says. -/
def mapMem (bank l : Nat) : Nat := 65536 * 8 + 2048 * bank + l

/-- The channel of a lane for a row, when its entry in the active bank is valid; an entry in error is not (R313). -/
def State.laneChan (s : State) (row : Bool) (l : Nat) : Option Nat :=
  let b := s.get EJS_CTRL_MAPACT
  let w := if s.errAt 57 (mapMem b l) = some true then 0 else s.mapWord b l
  let c := bits w (if row then 8 else 0) 7
  if bitOf w (if row then 15 else 7) && decide (c < s.nChans) then some c else none

/-- The distinct channels of a lane extent, ascending. -/
def State.chansOf (s : State) (row : Bool) (lo hi : Nat) : List Nat :=
  let cs := (List.range (hi + 1 - lo)).filterMap fun i => s.laneChan row (lo + i)
  (List.range s.nChans).filter fun c => cs.contains c

/-- The lanes that the active map gives a channel for a row. -/
def State.lanesOf (s : State) (row : Bool) (c : Nat) : List Nat :=
  (List.range s.nLanes).filter fun l => s.laneChan row l == some c

/-- Two rows are in use (R218). -/
def State.twoRows (s : State) : Bool := s.isForce EJS_CTRL_ROWS

/-- Errors in the map entries of a lane extent are counted as the entries are read (R313). -/
def State.mapReads (s : State) (lo hi : Nat) : State :=
  let b := s.get EJS_CTRL_MAPACT
  let ws := (s.mem.errs.filter fun e => e.bank == 57 && decide (mapMem b lo ≤ e.word ∧ e.word ≤ mapMem b hi)).map (·.word)
  ws.dedup.foldl (fun s w => (s.tableRead w).1) s

/-! ### Arrival (R215 to R217) -/

/-- g′ in 1/2^64 mm/s². -/
def State.gEff (s : State) : Nat := s.get BRD_GRAV_G * cosFix (s.get BRD_GEOM_TILT)

/-- Twice D′ of a row, in 0.1 µm (R216). -/
def State.rowDist2 (s : State) (row : Bool) : Nat :=
  2000 * (if row then s.inForce EJS_DISTB_D else s.inForce EJS_DISTA_D) + 63 * s.get BRD_GEOM_PITCH

/-- v_D in 1/2^64 mm/s for a row-0 speed in mm/s. -/
def State.rowSpeed (s : State) (row : Bool) (v0 : Nat) : Nat :=
  speedAt (v0 * 2 ^ 64) s.gEff (s.rowDist2 row) 1

/-- A(v, D′) of R215 in 1/65,536 ns. -/
def State.fallTime (s : State) (row : Bool) (v0 : Nat) : Int :=
  roundDiv (65536000000000 * ((s.rowSpeed row v0 : Int) - ((v0 * 2 ^ 64 : Nat) : Int))) (max 1 s.gEff)

/-- An arrival time in 1/65,536 ns with the error that R217 allows: at most 1 µs (log entry 3). -/
def withArrivalError (x : Int) (tag : Nat) : Int :=
  x + 65536 * ((((Config.arrivalError [x, tag] % 2001 : Nat) : Int)) - 1000)

/-- t_L and t_T of R216 in 1/65,536 ns. -/
def State.arrivals (s : State) (q : Closed) (row : Bool) : Int × Int :=
  let rate := max 1 q.rate
  let t0 : Int := 65536 * ((q.sstamp : Int) - 275) + ((2048000000000 / rate : Nat) : Int)
  let tl := t0 + s.fallTime row q.v0
  let len := q.feats.getD 1 1
  let d : Int := roundDiv ((65536000000000 * (len - 1) * q.v0 * 2 ^ 64 : Nat) : Int) (max 1 (rate * s.rowSpeed row q.v0))
  (withArrivalError tl 0, withArrivalError (tl + d) 1)

/-- A window edge in 1/65,536 ns, rounded to 10 ns (R217). -/
def edge10 (x : Int) : Nat := (10 * roundDiv x 655360).toNat

/-! ### Leads (R221) -/

/-- λ_c in 0.1 µs. -/
def State.leadOf (s : State) (c : Nat) : Nat :=
  if s.isForce EJS_CTRL_LEADAUTO && decide (max 1 (s.inForce EJS_LEAD_MINAVG) ≤ s.get (VLV_MOVCNT_OPNCNT c)) then
    clampN 100000 ((s.get (VLV_TOPEN_MEAN c) : Int) + 10 * sgn 16 (s.inForce EJS_LEAD_OFS))
  else 10 * s.get (ARB_PROF_TIME_LEAD (s.get (VLV_CTRL_PROF c)))

/-! ### Queues (R224 to R229) -/

def State.queueOf (s : State) (c : Nat) : List Entry := mget [] s.sched.queues c

/-- The queue of a channel changes: its occupancy shows (R234). -/
def State.setQueue (s : State) (c : Nat) (q : List Entry) : State :=
  let s := { s with sched := { s.sched with queues := mset [] s.sched.queues c q } }
  let n := q.length
  let s := s.set (VLV_STAT_QOCC c) n
  if s.get EJS_QOCC_MAX < n then (s.set EJS_QOCC_MAX n).set EJS_QOCC_MAXCH c else s

/-- The close of an entry, an open-ended one later than any (R230). -/
def Entry.fin (e : Entry) : Nat := e.cls.getD (2 ^ 80)

/-- An entry whose open has passed is executing (R224, R226). -/
def State.executing (s : State) (e : Entry) : Bool := e.began || decide (e.opn ≤ s.time)

def insertEntry (e : Entry) : List Entry → List Entry
  | [] => [e]
  | x :: r => if e.opn < x.opn then e :: x :: r else x :: insertEntry e r

def sortEntries (l : List Entry) : List Entry := l.foldl (fun acc e => insertEntry e acc) []

/-- A window dropped by scheduling (R225 to R228). -/
def State.schedDrop (s : State) (c : Nat) : State :=
  (((s.bump EJS_DROPCNT_COUNT).set EJS_STAT_DROP 1).set (VLV_STAT_LASTDROP c) 7).raise (Src.drop c)

def State.clipOne (s : State) : State := (s.bump EJS_CLIPCNT_COUNT).set EJS_STAT_CLIP 1

/-- The entry that a window and the entries it meets become (R225, R226); `k` is the one with the earliest open. -/
def mergedEntry (k w : Entry) (hits : List Entry) (keepOpen : Bool) : Entry :=
  let all := w :: hits
  let opn := if keepOpen then k.opn else all.foldl (fun m e => min m e.opn) k.opn
  let fin := all.foldl (fun m e => max m e.fin) 0
  let least := all.foldl (fun m e => max m (max e.least (e.cls.getD 0))) 0
  let any := fun (f : Entry → Bool) => all.any f
  { k with opn := opn, cls := if any (·.cls.isNone) then none else some fin,
           merged := min 15 (sumN (hits.map (·.merged)) + hits.length + w.merged),
           late := any (·.late), clipped := any (·.clipped), splice := any (·.splice), blindF := any (·.blindF),
           lanes := (all.foldl (fun m e => min m e.lanes.1) k.lanes.1, all.foldl (fun m e => max m e.lanes.2) k.lanes.2),
           least := least, began := any (·.began) }

/-- A new entry takes a place, or the window is dropped; the blind firing displaces the latest open (R227). -/
def State.placeEntry (s : State) (c : Nat) (w : Entry) : State × Bool :=
  let q := s.queueOf c
  if q.length < 8 then ((s.setQueue c (insertEntry w q)).bump EJS_FIRECNT_COUNT, true)
  else if w.blindF then
    (((s.schedDrop c).setQueue c (insertEntry w (q.take 7))).bump EJS_FIRECNT_COUNT, true)
  else (s.schedDrop c, false)

/-- A window enters a channel's queue (R225 to R227); the flag says that it is in it, merged or not. -/
def State.insertWin (s : State) (c : Nat) (w : Entry) : State × Bool :=
  let q := s.queueOf c
  let gap := s.inForce EJS_MERGE_GAP * 1000
  let hits := q.filter fun e => decide (w.opn ≤ e.fin + gap ∧ e.opn ≤ w.fin + gap)
  match hits with
  | [] => s.placeEntry c w
  | k :: _ =>
    let short := hits.filter fun e => s.executing e && decide (e.fin < w.fin) && decide (e.fin < s.time + 20000)
    let m := mergedEntry k w hits (s.executing k)
    let fits := m.blindF || decide (m.fin - m.opn ≤ 20000000)
    if short = [] ∧ fits then
      let rest := q.filter fun e => !hits.contains e
      ((s.setQueue c (insertEntry m rest)).bump EJS_MERGECNT_COUNT, true)
    else
      let after := if short = [] then hits.foldl (fun x e => max x e.fin) 0 else short.foldl (fun x e => max x e.fin) 0
      let clip := decide (short = [])
      let s := if clip then s.clipOne else s
      let w : Entry := { w with opn := max w.opn after, clipped := w.clipped || clip }
      if w.fin ≤ w.opn then (s.schedDrop c, false) else s.placeEntry c w

/-- A fire window of one channel (R222, R223, R228), then its queue entry. -/
def State.fireWindow (s : State) (c : Nat) (tl tt : Int) (vseq : Nat) (row splice : Bool) (lanes : Nat × Nat) : State :=
  let lead := s.leadOf c
  let m : Int := 65536 * 1000 * s.inForce EJS_MARGIN_TMARG
  let l : Int := 65536 * 100 * lead
  let o := edge10 (tl - l - m)
  let f := edge10 (tt - l + m)
  let clip := decide (o + 20000000 < f)
  let f := if f < o + 200000 then o + 200000 else if clip then o + 20000000 else f
  let s := if clip then s.clipOne else s
  let late := decide (o < s.time + 10000)
  let moved := (s.time + 10000 + 9) / 10 * 10
  if late && !(s.isForce EJS_CTRL_LATEPOL && decide (moved + 200000 ≤ f)) then s.schedDrop c
  else
    let w : Entry :=
    { opn := if late then moved else o, cls := some f, vseq := vseq, merged := 0, row := row, blindF := false,
      late := late, clipped := clip, splice := splice, lead := lead, lanes := lanes, least := 0, began := false }
    let p := s.insertWin c w
    if late && p.2 then ((p.1.bump EJS_LATECNT_COUNT).set EJS_STAT_LATE 1).raise Src.ejsLate else p.1

/-! ### Ownership and splice requests (R231, R422 to R426) -/

/-- A side's neighbour takes part in the splice: the link is up, and neither module is an orphan (R424). -/
def State.sideOn (s : State) (n : Option LinkInfo) : Bool :=
  s.get CHN_STAT_STATE != 0 && s.get CHN_STAT_STATE != 3 && n.any fun i => !i.orphan

/-- The lower-index module owns a knot with `n` band cells of lane sum `sum` at the join whose higher module starts at
chain lane `b0`, with overlap `w` (R422). -/
def lowerOwns (n sum b0 w : Nat) : Bool := decide (2 * sum + n < n * (2 * b0 + w))

/-- This module owns a knot (R422 to R424). -/
def State.owns (s : State) (q : Closed) : Bool :=
  let ofs := s.get CHN_OFFSET_LANE0
  let lowOk := !(s.sideOn s.chain.low && decide (0 < q.bandN.1)) || !lowerOwns q.bandN.1 q.bandS.1 ofs s.overlapL
  let highOk := !(s.sideOn s.chain.high && decide (0 < q.bandN.2))
    || lowerOwns q.bandN.2 q.bandS.2 (ofs + s.nLanes - s.overlapH) s.overlapH
  lowOk && highOk

/-- The lanes of a widened extent that a side's neighbour must cover: beyond the edge, and, when the extent reaches that
edge or its splice band, every lane whose entry is not valid (R231); in module numbering, lane 0 as 4,096. -/
def State.askLanes (s : State) (row high : Bool) (lo hi : Int) : List Nat :=
  let a := (lo + 4096).toNat
  let ext := (List.range ((hi - lo).toNat + 1)).map (a + ·)
  let meets := if high then decide ((s.nLanes : Int) - max 1 s.overlapH ≤ hi) else decide (lo < max 1 s.overlapL)
  ext.filter fun x =>
    if x < 4096 then !high
    else if 4096 + s.nLanes ≤ x then high
    else meets && (s.laneChan row (x - 4096)).isNone

/-- A request that cannot be sent, or that its receiver refuses (R426). -/
def State.spliceDropped (s : State) : State := (s.bump CHN_SPLDROP_COUNT).raise Src.spliceDrop

def portOf (high : Bool) : ChainPort := if high then .high else .low

/-- Ask one neighbour to cover the lanes it must, or drop the request for want of a link (R231, R425, R426). The
neighbours of `refused` have become orphans of which this module knows nothing yet. -/
def State.askSide (s : State) (refused : List ChainPort) (vseq : Nat) (row high : Bool) (t : Int × Int) (lo hi : Int) : State :=
  let ls := s.askLanes row high lo hi
  let ofs := s.get CHN_OFFSET_LANE0
  let n := if high then s.chain.high else s.chain.low
  let idx := s.get CHN_STAT_INDEX
  let outer := if high then decide (s.chain.size ≤ idx + 1) else idx == 0
  if ls = [] ∨ s.get CHN_STAT_STATE = 0 ∨ s.get CHN_STAT_STATE = 3 ∨ outer then s
  else
    match n with
    | none => s.spliceDropped
    | some i =>
      if i.orphan then s
      else
        let c := fun (x : Nat) => ((x : Int) - 4096 + ofs).toNat
        let r : SpliceReq :=
        { sender := idx, vseq := vseq, row := row, tL := (roundDiv t.1 65536).toNat, tT := (roundDiv t.2 65536).toNat,
          first := c (ls.getD 0 0), last := c (ls.getLast?.getD 0) }
        let s := (s.bump CHN_SPLTX_COUNT).emit (.chain (portOf high) (.splice r))
        if refused.contains (portOf high) then s.spliceDropped else s

/-! ### Scheduling a verdict -/

/-- The policy that applies to knots (R230): of the most recent blind time, or the current one before the first. -/
def State.rejectAll (s : State) : Bool :=
  match s.sched.policy with
  | some p => p.1
  | none => s.flag CAL_CTRL_POLICY

/-- The row of an eject verdict: none where BONE accepts it (R218). -/
def State.rowOf (s : State) (action : Nat) : Option Bool :=
  if action = 1 then some false
  else if s.twoRows then some true
  else if s.isForce EJS_CTRL_BONE then none
  else some false

/-- A verdict of eject becomes firings (R216 to R231, R422 to R426). -/
def State.schedule (s : State) (refused : List ChainPort) (q : Closed) (v : Verdict) : State :=
  if v.action ≠ 1 ∧ v.action ≠ 2 then s
  else
    match s.rowOf v.action with
    | none => s.bump EJS_BONECNT_COUNT
    | some row =>
      if !s.owns q then s.bump EJS_NOTOWNED_COUNT
      else if !s.rejectAll && bitOf v.kflags 3 then s.bump EJS_BLINDCNT_COUNT
      else
        let m := s.inForce EJS_MARGIN_LMARG
        let lo : Int := (q.lane1 : Int) - m
        let hi : Int := ((q.lane2 + m : Nat) : Int)
        let lo' := lo.toNat
        let hi' := min hi.toNat (s.nLanes - 1)
        let t := s.arrivals q row
        let s := s.mapReads lo' hi'
        let cs := s.chansOf row lo' hi'
        let s := cs.foldl (fun s c => s.fireWindow c t.1 t.2 v.vseq row false (lo', hi')) s
        let s := if cs = [] then (s.bump EJS_NOVALVE_COUNT).set EJS_STAT_NOVALVE 1 else s
        let edge := bitOf v.kflags 9 || decide (0 < q.bandN.1 + q.bandN.2)
        if edge then (s.askSide refused v.vseq row false t lo hi).askSide refused v.vseq row true t lo hi else s

/-- A neighbour's firing request (R425, R426): refused by an orphan. The one-row geometry has row A alone, and BONE
applies to verdicts only, so it takes a request for row B on row A (R218, R233; log entry 82). -/
def State.takeSplice (s : State) (r : SpliceReq) : State :=
  let c := s.get CHN_STAT_STATE
  if c = 0 ∨ c = 3 then s
  else
    let s := s.bump CHN_SPLRX_COUNT
    let ofs := s.get CHN_OFFSET_LANE0
    if r.last < ofs ∨ ofs + s.nLanes ≤ r.first then s
    else
      let lo := r.first - ofs
      let hi := min (r.last - ofs) (s.nLanes - 1)
      let s := s.mapReads lo hi
      let row := r.row && s.twoRows
      (s.chansOf row lo hi).foldl (fun s ch =>
        s.fireWindow ch (65536 * r.tL) (65536 * r.tT) r.vseq row true (lo, hi)) s

def execSplice (crc : Bool) (r : SpliceReq) (s : State) : Host.Outcome State Fault Refusal :=
  ok (s.chainMsg crc (·.takeSplice r))

/-! ### Blind time (R126 to R129, R230, R457, R458) -/

def State.blindCh (s : State) (c : Nat) : BlindCh := mget BlindCh.none s.sched.blind c

def State.setBlindCh (s : State) (c : Nat) (b : BlindCh) : State :=
  { s with sched := { s.sched with blind := mset BlindCh.none s.sched.blind c b } }

/-- A_0 in 1/65,536 ns: the row-0 speed of the reference hypothesis of the active set (R127). -/
def State.nominalFall (s : State) (row : Bool) : Int :=
  s.fallTime row (s.braid.active.word (s.braid.active.k / 2) 64 % 65536)

/-- Blind time of one channel begins (R127, R458). -/
def State.blindOpen (s : State) (owner : Nat) (policy row : Bool) (c : Nat) : State :=
  let b := s.blindCh c
  if b.owners != [] then s.setBlindCh c { b with owners := b.owners ++ [owner] }
  else
    let lead := s.leadOf c
    let l : Int := 65536 * 100 * lead
    let m : Int := 65536 * 1000 * s.inForce EJS_MARGIN_TMARG
    let a := s.nominalFall row
    let b : BlindCh := ⟨[owner], policy, row, a - l + m, policy⟩
    let s := s.setBlindCh c b
    if !policy then s
    else
      let ls := s.lanesOf row c
      let w : Entry :=
      { opn := edge10 (65536 * s.time + a - l - m), cls := none, vseq := 0, merged := 0, row := row, blindF := true,
        late := false, clipped := false, splice := false, lead := lead,
        lanes := (ls.getD 0 0, ls.getLast?.getD 0), least := 0, began := false }
      (s.insertWin c w).1

/-- Blind time begins at this boundary: of tile `owner`, or for 32 of the whole view. Its policy is latched (R126, R230,
R457); while sorting is stopped it has no effect on the valves (R118; log entry 81). -/
def State.blindBegin (s : State) (owner tiles : Nat) (policy rejrow : Bool) : State :=
  let row := rejrow && s.twoRows
  let s := { s with sched := { s.sched with policy := some (policy, rejrow) } }
  if !s.sorting then s
  else
    let lanes := (List.range s.nLanes).filter fun l => bitOf tiles (l / 64)
    let cs := lanes.filterMap fun l => s.laneChan row l
    ((List.range s.nChans).filter fun c => cs.contains c).foldl (fun s c => s.blindOpen owner policy row c) s

/-- The close of a channel's blind firing is fixed (R127, R129, R230). -/
def State.blindFix (s : State) (c : Nat) (b : BlindCh) : State :=
  let t := edge10 (65536 * s.time + b.a0)
  let q := (s.queueOf c).map fun e => if e.blindF && e.cls.isNone then { e with cls := some (max t e.least) } else e
  s.setQueue c q

/-- Blind time of an owner ends at this boundary (R127, R458). -/
def State.blindEnd (s : State) (owner : Nat) : State :=
  s.sched.blind.foldl (fun s p =>
    let c := p.1
    let b := s.blindCh c
    if b.owners.contains owner then
      let o := b.owners.filter (· != owner)
      if o != [] then s.setBlindCh c { b with owners := o }
      else
        let s := s.setBlindCh c BlindCh.none
        if b.fired then s.blindFix c b else s
    else s) s

/-! ### Commands -/

/-- EJS_CTRL.QFLUSH (R229). -/
def State.flushQueues (s : State) : State :=
  (List.range s.nChans).foldl (fun s c => s.setQueue c ((s.queueOf c).filter fun e => s.executing e)) s

def execQflush (r : Requester) (s : State) : Host.Outcome State Fault Refusal := ok (s.guardW r 0x7800 (·.flushQueues))

/-- EJS_CTRL.MAPSW (R220); a request while one waits adds nothing. -/
def State.mapswS (s : State) : State :=
  if s.flag EJS_CTRL_MAPPEND then s
  else { s with sched := { s.sched with mapDue := some (s.dueOf s.time) } }.set EJS_CTRL_MAPPEND 1

def execMapsw (r : Requester) (s : State) : Host.Outcome State Fault Refusal := ok (s.guardW r 0x7800 (·.mapswS))

def State.ejsWrErr (s : State) : State := s.set EJS_STAT_WRERR 1

/-- The staged EJS registers and fields (R232). -/
def State.ejsStagedW (s : State) (a : Nat) (v : Word) : State :=
  let st := fun (s : State) (f : Fld) => s.stageFld f (fldOf f v)
  if a = 0x7800 then [EJS_CTRL_ROWS, EJS_CTRL_BONE, EJS_CTRL_LATEPOL, EJS_CTRL_LEADAUTO].foldl st s
  else if a = 0x7808 then
    if fldOf EJS_DISTA_D v < 100 ∨ 20000 < fldOf EJS_DISTA_D v then s.ejsWrErr else st s EJS_DISTA_D
  else if a = 0x780C then
    if fldOf EJS_DISTB_D v < 100 ∨ 20000 < fldOf EJS_DISTB_D v then s.ejsWrErr else st s EJS_DISTB_D
  else if a = 0x7810 then
    if 5000 < fldOf EJS_MARGIN_TMARG v then s.ejsWrErr else [EJS_MARGIN_TMARG, EJS_MARGIN_LMARG].foldl st s
  else if a = 0x7814 then
    if 8000 < fldOf EJS_MERGE_GAP v then s.ejsWrErr else st s EJS_MERGE_GAP
  else if a = 0x7818 then (st s EJS_LEAD_OFS).stageFld EJS_LEAD_MINAVG (max 1 (fldOf EJS_LEAD_MINAVG v))
  else s

def execEjsStagedWrite (r : Requester) (a : Nat) (v : Word) (s : State) : Host.Outcome State Fault Refusal :=
  ok (s.guardW r a (·.ejsStagedW a v))

/-! ### The preheat window -/

/-- Flags that keep a knot out of the preheat window (R301): PARTIAL, DIP, BLIND, OVR, ECC, SPLITL, SPLITW, FORCED. -/
def phBarred : List Nat := [0, 1, 3, 4, 6, 7, 8, 14]

/-- A verdict's contribution to the preheat loop (R301). -/
def State.phVerdict (s : State) (q : Closed) (v : Verdict) : State :=
  if bitOf (s.get LOOP_PHWIN_CLASSES) v.cls && phBarred.all (fun i => !bitOf v.kflags i) then
    s.phContribute q.kstamp (q.feats.getD 6 0)
  else s

/-! ### Tables 0x08 and 0x09 (R233, R234) -/

/-- The eight words of a queue entry. -/
def State.entryWords (s : State) (e : Entry) : List Nat :=
  let c := e.cls.getD (2 ^ 64 - 1)
  [e.opn % 2 ^ 32, e.opn / 2 ^ 32, c % 2 ^ 32, c / 2 ^ 32,
   e.vseq % 65536 + e.merged * 2 ^ 16 + b2n e.row * 2 ^ 20 + b2n e.blindF * 2 ^ 21 + b2n e.late * 2 ^ 22
     + b2n e.clipped * 2 ^ 23 + b2n e.splice * 2 ^ 24 + b2n (s.executing e) * 2 ^ 25,
   (e.lead + 5) / 10, 0, 0]

def State.queueWords (s : State) (c q : Nat) : List Nat :=
  match (s.queueOf c)[q]? with
  | some e => s.entryWords e
  | none => [0, 0, 0, 0, 0, 0, 0, 0]

end Sys2Proof.Machine
end

