-- ==== Sys2Proof/Machine/Drive.lean ====
section
/-! DEFINITION. Valve and lanyard drive: channel states, tokens, bank rails, drops, shifts, movement detection, coil
temperatures (spec/ file 09). Channel 128 is LY. -/

namespace Sys2Proof.Machine

open Reg

/-! ### Channels -/

/-- The number of LY. -/
def ly : Nat := 128

def State.drive (s : State) (c : Nat) : Drive := mget Drive.init s.valves.drives c

def State.setDrive (s : State) (c : Nat) (d : Drive) : State :=
  { s with valves := { s.valves with drives := mset Drive.init s.valves.drives c d } }

/-- The STATE field of a channel: 0 idle, 1 wait, 2 peak, 3 fallback peak, 4 hold, 5 decay (R240). -/
def stateFld (c : Nat) : Fld := if c = ly then ARB_LYSTAT_STATE else VLV_STAT_STATE c

def State.chState (s : State) (c : Nat) : Nat := s.get (stateFld c)

def bankOf (c : Nat) : Nat := c / 8

def bankChans (b : Nat) : List Nat := (List.range 8).map (8 * b + ·)

/-- The profile that a channel's next firing takes. -/
def State.profOf (s : State) (c : Nat) : Nat := if c = ly then s.get ARB_LYCFG_PROF else s.get (VLV_CTRL_PROF c)

/-- The profile values that a firing keeps (R245). -/
def State.profVals (s : State) (p : Nat) : List Nat :=
  [s.get (ARB_PROF_PEAK_IPEAK p), s.get (ARB_PROF_PEAK_TPMAX p), s.get (ARB_PROF_PEAK_FALLBACK p),
   s.get (ARB_PROF_HOLD_IHOLD p), s.get (ARB_PROF_HOLD_FCHOP p), s.get (ARB_PROF_TIME_FBTPMAX p),
   s.get (ARB_PROF_WIN_OWSTART p), s.get (ARB_PROF_WIN_OWEND p), s.get (ARB_PROF_WIN_CWSTART p),
   s.get (ARB_PROF_WIN_CWEND p), s.get (ARB_PROF_COIL_R20 p), s.get (ARB_PROF_COIL_RTH p),
   s.get (ARB_PROF_COIL_TAUTH p)]

def Drive.ipeak (d : Drive) : Nat := d.prof.getD 0 0
def Drive.tpmax (d : Drive) : Nat := d.prof.getD 1 0
def Drive.ihold (d : Drive) : Nat := d.prof.getD 3 0
def Drive.fchop (d : Drive) : Nat := d.prof.getD 4 0
def Drive.fbtpmax (d : Drive) : Nat := d.prof.getD 5 0
def Drive.ow (d : Drive) : Nat × Nat := (d.prof.getD 6 0, d.prof.getD 7 0)
def Drive.cw (d : Drive) : Nat × Nat := (d.prof.getD 8 0, d.prof.getD 9 0)

/-- R20, RTH and TAUTH that θ of channel `c` uses: those its firing took at gate-on, until the coil's current is zero,
else those of its profile now (R245, R262; log entry 84). -/
def State.coilParams (s : State) (c : Nat) : Nat × Nat × Nat :=
  let d := s.drive c
  if 2 ≤ s.chState c then (d.prof.getD 10 0, d.prof.getD 11 0, d.prof.getD 12 0)
  else
    let p := s.profOf c
    (s.get (ARB_PROF_COIL_R20 p), s.get (ARB_PROF_COIL_RTH p), s.get (ARB_PROF_COIL_TAUTH p))

/-- A channel's movement source: 0 none, 1 position input, 2 kinks (R256). -/
def State.moveSrc (s : State) (c : Nat) : Nat :=
  let x := s.get (VLV_MOVE_SRC c)
  if x = 3 then 0 else x

/-! ### Tokens (R239, R250 to R254) -/

def State.inState (s : State) (k : Nat) : List Nat := (List.range s.nChans).filter fun c => s.chState c == k

/-- Tokens freed at this 10 ns tick, which are granted at the next (R251). -/
def State.freedNow (s : State) : Nat × Nat :=
  if s.valves.freedAt / 10 = s.time / 10 then s.valves.freed else (0, 0)

/-- A channel that leaves a peak frees its token (R241, R251). -/
def State.freeToken (s : State) (k : Nat) : State :=
  let f := s.freedNow
  let f := if k = 2 then (f.1 + 1, f.2) else (f.1, f.2 + 1)
  { s with valves := { s.valves with freedAt := s.time, freed := f } }

def State.boostReady (s : State) : Bool := s.flag ARB_BSTMEAS_READY

/-- N_eff and FB_eff (R250). -/
def State.limits (s : State) : Nat × Nat :=
  let n := s.get ARB_PEAKN_N
  let set := s.get ARB_BOOST_SET
  let full := decide (s.get ARB_DROOP_HI * set ≤ 100 * s.get ARB_BSTMEAS_VBST)
  let n := if full then n else if s.boostReady then (n + 1) / 2 else 0
  let f := s.get ARB_PEAKN_FBN
  if s.flag PWR_STAT_DIP then (min n (s.get ARB_PEAKN_DIPN), min f (s.get ARB_PEAKN_DIPN)) else (n, f)

/-- The arbiter's registers (ARB_STAT, ARB_TOKMAX). -/
def State.arbShow (s : State) : State :=
  let t := (s.inState 2).length
  let s := (((s.set ARB_STAT_TOKENS t).set ARB_STAT_FBUSED (s.inState 3).length).set ARB_STAT_NEFF s.limits.1).setB
    ARB_STAT_DIPCUT (s.flag PWR_STAT_DIP)
  s.set ARB_TOKMAX_MAX (max t (s.get ARB_TOKMAX_MAX))

/-- The channels that a bank has; bank 16 is LY's. -/
def State.chansOn (s : State) (b : Nat) : List Nat :=
  if b = 16 then [ly] else (bankChans b).filter fun c => decide (c < s.nChans)

/-- The line of R246 in force: 0 off, 1 chopped from VVAL, 2 VBST, 3 VVAL continuous. -/
def State.rail (s : State) (b : Nat) : Nat :=
  let any := fun k => (s.chansOn b).any fun c => s.chState c == k
  if any 2 then 2 else if any 3 then 3 else if any 4 then 1 else 0

/-- The leader of a bank: the holding channel with the highest IHOLD, ties to the lower index (R247). -/
def State.leader (s : State) (b : Nat) : Option Nat :=
  ((s.chansOn b).filter fun c => s.chState c == 4).foldl (fun m c => match m with
    | none => some c
    | some x => if (s.drive x).ihold < (s.drive c).ihold then some c else some x) none

/-- A bank's rail and channel states (R246, R247). -/
def State.bankShow (s : State) (b : Nat) : State :=
  if s.nBanks ≤ b then s
  else
    let bitsOf := fun (p : Nat → Bool) => sumN ((List.range 8).map fun i => if p (8 * b + i) then 2 ^ i else 0)
    let pk := bitsOf fun c => s.chState c == 2 || s.chState c == 3
    let l := s.leader b
    let s := (((s.set (VBK_STAT_RAIL b) (s.rail b)).set (VBK_STAT_PEAKING b) pk).set (VBK_STAT_HOLDING b)
      (bitsOf fun c => s.chState c == 4)).set (VBK_STAT_LEADER b) (l.getD 0 % 8)
    (s.setB (VBK_STAT_LEADVALID b) l.isSome).set (VBK_PEAKMAX_MAX b) (max (popcount 8 pk) (s.get (VBK_PEAKMAX_MAX b)))

def State.supplyOf (s : State) (b : Nat) : Supply := mget Supply.off s.valves.supply b

def State.setSupply (s : State) (b : Nat) (x : Supply) : State :=
  { s with valves := { s.valves with supply := mset Supply.off s.valves.supply b x } }

/-- What the supply switch takes up from a leader: its FCHOP, and its hold current, which sets the duty (R242, R247). -/
def State.lead (s : State) (l : Option Nat) : Supply :=
  match l with
  | some c => ⟨c + 1, (s.drive c).fchop, (s.drive c).ihold⟩
  | none => Supply.off

/-- How a channel chops by its bank's rail and leader: 2 by the supply switch, 1 by its own low side (R246). -/
def State.chopWant (s : State) (b c : Nat) : Nat :=
  if s.chState c ≠ 4 then 0 else if s.rail b = 1 ∧ s.leader b = some c then 2 else 1

/-- One channel's chop mode. A channel that enters or leaves hold, or stops being leader, changes at once; any other
change waits for a chop period's end, `edge` (R247, R248; log entry 85). -/
def State.chopStep (s : State) (b : Nat) (edge : Bool) (c : Nat) : State :=
  let d := s.drive c
  let w := s.chopWant b c
  let m := if edge || w == 0 || d.chop == 0 then w else if s.leader b = some c then d.chop else 1
  if m = d.chop then s else s.setDrive c { d with chop := m }

/-- A bank's chopping follows its rail and leader. The supply switch takes up a new leader at the start of its next chop
period; a period starts when it begins to chop (R246 to R248). -/
def State.chopShow (s : State) (b : Nat) (edge : Bool) : State :=
  let x := s.supplyOf b
  let y := if s.rail b ≠ 1 then Supply.off else if edge || x.lead == 0 then s.lead (s.leader b) else x
  let s := if y = x then s else s.setSupply b y
  (s.chansOn b).foldl (fun s c => s.chopStep b edge c) s

/-- The chop frequency of a channel in hold, in kHz (R242). -/
def State.chopFreq (s : State) (c : Nat) : Nat :=
  let d := s.drive c
  if d.chop = 2 then (s.supplyOf (bankOf c)).freq else if d.chop = 1 then min (2 * d.fchop) 100 else 0

/-- The off-phase of a channel in hold: slow decay through the freewheel diode under the supply switch, else fast decay
into VBST (R242). -/
def State.slowOff (s : State) (c : Nat) : Bool := (s.drive c).chop == 2

/-- A channel enters a state (R240); its token, its bank and the arbiter follow. -/
def State.enter (s : State) (c k : Nat) : State :=
  let was := s.chState c
  let s := if c ≠ ly ∧ (was = 2 ∨ was = 3) ∧ k ≠ was then s.freeToken was else s
  let s := s.set (stateFld c) k
  let d := s.drive c
  let s := if d.whole || d.slow then s.setDrive c { d with whole := false, slow := false } else s
  if c = ly then s.chopShow 16 false else ((s.bankShow (bankOf c)).chopShow (bankOf c) false).arbShow

/-- A request peaks from VVAL: boost is not ready and its profile allows it (R253). -/
def State.wantsFallback (s : State) (c : Nat) : Bool :=
  !s.boostReady && s.flag (ARB_PROF_PEAK_FALLBACK (s.profOf c))

/-- A token is free for a request now, with `n` boost and `f` fallback peaks in progress, those that ended at this tick
apart (R239, R250, R251, R253). -/
def State.tokenFree (s : State) (c n f : Nat) : Bool :=
  if s.boostReady then decide (n + s.freedNow.1 < s.limits.1) && !s.flag ARB_BSTMEAS_OV
  else s.wantsFallback c && decide (f + s.freedNow.2 < s.limits.2)

/-! ### Entries and drops (R252, R255, R264, R267) -/

/-- The entry that a channel executes or waits with. -/
def State.current (s : State) (c : Nat) : Option Entry := (s.queueOf c).find? (·.began)

def State.removeCurrent (s : State) (c : Nat) : State := s.setQueue c ((s.queueOf c).filter fun e => !e.began)

/-- A drop at the drive (R252, R264 to R267). -/
def State.driveDrop (s : State) (c cause : Nat) : State :=
  let s := (s.bump (VLV_DROPCNT_COUNT c)).set (VLV_STAT_LASTDROP c) cause
  let s := if cause = 1 ∨ cause = 2 ∨ cause = 6 then s.bump (VLV_TOKDROP_COUNT c) else s
  s.raise (Src.drop c)

/-- Drive, bank or channel disabled (R267). -/
def State.driveOff (s : State) (c : Nat) : Bool :=
  !s.flag ARB_CTRL_EN || !s.flag (VLV_CTRL_EN c) || !s.flag (VBK_CTRL_EN (bankOf c))

def State.latched (s : State) (c : Nat) : Bool := s.flag (VLV_STAT_CHFLT c) || s.flag (VBK_STAT_BKFLT (bankOf c))

/-- The drop cause of a firing whose open arrives, but for the coil limit: 8, 4, 5 in this order (R267). -/
def State.openCause (s : State) (c : Nat) : Option Nat :=
  if s.driveOff c then some 8 else if s.latched c then some 4 else if s.flag PWR_STAT_VVALLOW then some 5 else none

/-- The neighbour that a firing shifts to (R264). -/
def State.shiftTo (s : State) (c : Nat) (e : Entry) : Option Nat :=
  let cs := (if c = 0 then [] else [c - 1]) ++ [c + 1]
  let good := cs.filter fun n => decide (n < s.nChans) && !s.driveOff n && !s.latched n && !s.flag (VLV_STAT_CLIMIT n)
    && (s.lanesOf e.row n).any fun l => decide (e.lanes.1 ≤ l + 4 ∧ l ≤ e.lanes.2 + 4)
  good.foldl (fun m n => match m with
    | none => some n
    | some x => if (s.drive n).theta < (s.drive x).theta then some n else some x) none

/-- A firing that meets the coil limit, already out of its queue: shifted, or dropped with cause 3 (R264, R265). -/
def State.shiftOrDrop (s : State) (c : Nat) (e : Entry) (may : Bool) : State :=
  if may && s.flag (VLV_CTRL_POLICY c) then
    match s.shiftTo c e with
    | some n => ((s.bump (VLV_SHIFTCNT_COUNT c)).insertWin n { e with began := false }).1
    | none => s.driveDrop c 3
  else s.driveDrop c 3

/-! ### Gate on and off (R240, R243, R244, R256 to R259) -/

/-- A bank's drain converter stops observing a channel; an armed trace of it ends (R259). -/
def State.obsEnd (s : State) (c : Nat) : State :=
  let b := bankOf c
  if mget 0 s.valves.obs b ≠ c + 1 then s
  else
    let s := { s with valves := { s.valves with obs := mset 0 s.valves.obs b 0 } }
    if s.flag (VBK_TRCTL_ARM b) && (s.flag (VBK_TRCTL_ANY b) || s.get (VBK_TRCTL_CH b) == c % 8) then
      let s := (List.range 16).foldl (fun s i =>
        let x := s.draw
        let y := x.2.draw
        (y.2.set (VBK_TRACE_S0 b i) x.1).set (VBK_TRACE_S1 b i) y.1) s
      (s.set (VBK_TRCTL_ARM b) 0).set (VBK_TRCTL_DONE b) 1
    else s

/-- The low side turns on: entry to peak, fallback peak or hold (R240, R245). -/
def State.gateOn (s : State) (c k : Nat) : State :=
  let d := s.drive c
  let s := if d.closeW then s.obsEnd c else s
  let watch := if c = ly then true else s.moveSrc c != 0
  let s := s.setDrive c { d with prof := s.profVals (s.profOf c), on := s.time, after := false, openW := watch,
                                 closeW := false, held := false }
  let s := s.enter c k
  if c = ly then s
  else (s.bump (VLV_FIRECNT_COUNT c)).setPair (VLV_LASTON_LO_STAMP c) (VLV_LASTON_HI_STAMP c) s.time

/-- Closing detection begins at gate-off (R256, R259). -/
def State.watchClose (s : State) (c : Nat) : State :=
  let d := s.drive c
  let b := bankOf c
  if s.moveSrc c = 0 then s
  else if s.moveSrc c = 1 then s.setDrive c { d with closeW := true }
  else if mget 0 s.valves.obs b ≠ 0 then (s.set (VLV_STAT_UNMEAS c) 1).bump (VLV_NMCNT_UNMEAS c)
  else
    let s := { s with valves := { s.valves with obs := mset 0 s.valves.obs b (c + 1) } }
    (s.setDrive c { d with closeW := true }).set (VLV_STAT_UNMEAS c) 0

/-- Boost overvoltage holds and no channel of the bank holds: a closing decays slowly, low side on (R239). -/
def State.closesSlow (s : State) (c : Nat) : Bool :=
  s.flag ARB_BSTMEAS_OV && !((s.chansOn (bankOf c)).any fun x => s.chState x == 4)

/-- The low side turns off for good: the coil decays to zero (R240, R243), slowly during boost overvoltage (R239).
Opening detection goes on to its window's end (R260). -/
def State.gateOff (s : State) (c : Nat) : State :=
  let k := s.chState c
  let d := s.drive c
  if k = 0 ∨ (k = 5 ∧ d.after) then s
  else if k = 1 then s.enter c 0
  else
    let s := (s.setDrive c { d with off := s.time, after := true }).enter c 5
    let s := if s.closesSlow c then s.setDrive c { s.drive c with slow := true } else s
    if c = ly then s.set ARB_LYSTAT_CLOSED 0 else s.watchClose c

/-- A firing ends at once, without a drop: the low side off, its token returned, its entry gone. -/
def State.cutFiring (s : State) (c : Nat) : State := (s.gateOff c).removeCurrent c

/-- Every firing executing on a channel ends and counts as a drop with cause 8 (R267). -/
def State.disable (s : State) (c : Nat) : State :=
  if (s.current c).isSome then (s.cutFiring c).driveDrop c 8 else s

/-- Every valve closes, LY is released, and the queues empty (R434, R439). -/
def State.allOff (s : State) : State :=
  let s := (List.range s.nChans).foldl (fun s c => (s.gateOff c).setQueue c []) s
  { s with sched := { s.sched with blind := [] } }

/-! ### LY (R254, R268, R269) -/

/-- LY is energised. -/
def State.lyOn (s : State) : State :=
  let s := s.set ARB_LYCTRL_ENERGISE 1
  let k := s.get ARB_LYSTAT_STATE
  if s.flag ARB_LYSTAT_FLT ∨ (0 < k ∧ k < 5) then s
  else
    let p := s.profOf ly
    let s := s.set ARB_LYSTAT_OPEN 0
    s.gateOn ly (if s.get (ARB_PROF_PEAK_IPEAK p) = 0 then 4 else if s.boostReady && !s.flag ARB_BSTMEAS_OV then 2 else 3)

/-- LY's low side conducts or is about to hold: it is energised and has not ended. -/
def State.lyDriven (s : State) : Bool :=
  let k := s.get ARB_LYSTAT_STATE
  decide (2 ≤ k) && !(k == 5 && (s.drive ly).after)

/-- LY is released; a drive without an open load starts the count of consecutive ones again (R266). -/
def State.lyOff (s : State) : State :=
  let s := s.set ARB_LYCTRL_ENERGISE 0
  if s.lyDriven then (s.setDrive ly { s.drive ly with loads := 0 }).gateOff ly else s

/-- What LY's movement detection sees is the source that ARB_LYCFG.SRC selects, and shows the flag closed, or open:
an opening or closing kink, or LYPOS active or inactive (R268). -/
def State.lySees (s : State) (w : LySense) (closed : Bool) : Bool :=
  match w with
  | .kink => s.get ARB_LYCFG_SRC != 1
  | .lypos level => s.get ARB_LYCFG_SRC == 1 && (level != s.flag ARB_LYCFG_POL) == closed

/-- The search is under way: within 30 ms of energising, while driven; or from release on (R122, R123, R268). -/
def State.lySearch (s : State) (closed : Bool) : Bool :=
  if closed then s.lyDriven && decide (s.time ≤ (s.drive ly).on + 30000000)
  else (s.drive ly).after && !s.lyDriven

/-- The flag is confirmed closed, or open (R268); times in 10 µs. -/
def State.lyConfirm (s : State) (closed : Bool) : State :=
  let d := s.drive ly
  let t := fun (a : Nat) => min 65535 (rnd (s.time - a) 10000)
  if closed then ((s.set ARB_LYSTAT_CLOSED 1).set ARB_LYSTAT_OPEN 0).set ARB_LYTIME_TCLOSED (t d.on)
  else ((s.set ARB_LYSTAT_OPEN 1).set ARB_LYSTAT_CLOSED 0).set ARB_LYTIME_TOPENED (t d.off)

/-! ### Movement times (R257 to R261) -/

/-- A measured time in 0.1 µs enters LAST and MEAN (R261). -/
def State.movement (s : State) (last mean cnt : Fld) (t : Nat) : State :=
  let t := min 65535 t
  let s := s.set last t
  let m := s.get mean
  let m' := if s.get cnt = 0 then (t : Int) else (m : Int) + roundDiv ((t : Int) - m) 16
  (s.set mean m'.toNat).bump cnt

def State.openMoved (s : State) (c t : Nat) : State :=
  (s.setDrive c { s.drive c with openW := false }).movement (VLV_TOPEN_LAST c) (VLV_TOPEN_MEAN c) (VLV_MOVCNT_OPNCNT c) t

def State.closeMoved (s : State) (c t : Nat) : State :=
  ((s.obsEnd c).setDrive c { s.drive c with closeW := false }).movement (VLV_TCLOSE_LAST c) (VLV_TCLOSE_MEAN c)
    (VLV_MOVCNT_CLSCNT c) t

/-- The not-moved event (R260). -/
def State.notMoved (s : State) (c : Nat) : State := (s.bump (VLV_NMCNT_NOTMOVED c)).raise (Src.notMoved c)

/-! ### Coil temperature (R262, R263) -/

/-- θ_amb above 40 °C, in 1/2^24 K: TAMB, or a housekeeping input in 0.1 °C. -/
def State.ambient (s : State) : Int :=
  let src := s.get ARB_AMB_SRC
  if src = 0 ∨ 8 < src then (s.getS ARB_AMB_TAMB - 40) * 16777216
  else (sgn 16 (s.get (HKA_AINENG_VALUE (src - 1))) - 400) * 16777216 / 10

/-- θ after 100 µs at a mean square current of `i2` mA² (R262), in 1/2^24 K above 40 °C, rounded (log entry 31). -/
def coilNext (amb theta : Int) (i2 r20 rth tau : Nat) : Int :=
  let hot : Int := 100000 * 16777216 + 393 * (theta + 20 * 16777216)
  let p : Int := i2 * r20 * rth * hot
  let den : Nat := 100000 * 1000000 * 1000
  theta + roundDiv (p - den * (theta - amb)) (den * (1000 * max 1 tau))

/-- θ as VLV_COIL.TEMP codes it: T = TEMP/8 − 40. -/
def thetaCode (theta : Int) : Nat := clampN 4095 (roundDiv (8 * theta) 16777216 + 640)

/-- A level of R263 with its hysteresis: `now` holds if it did before until the code falls far enough. -/
def coilLevel (was : Bool) (code th hys : Nat) : Bool :=
  decide (8 * (th + 40) ≤ code) || (was && decide (8 * (th + 40) < code + 8 * hys))

end Sys2Proof.Machine
end

