-- ==== Sys2Proof/Machine/Crypto.lean ====
section
/-! DEFINITION. The checks that packets and images carry: CRC-32C (R360), SHA-256 and HMAC-SHA-256 (R375, R377; FIPS
180-4 and 198-1), ECDSA on P-256 (R378; FIPS 186-4). Bytes are natural numbers below 256. -/

namespace Sys2Proof.Machine

/-! ### Bytes -/

/-- The `n` bytes of a value, lowest first. -/
def leBytes : Nat → Nat → List Nat
  | 0, _ => []
  | n + 1, v => v % 256 :: leBytes n (v / 256)

/-- The value of bytes, lowest first. -/
def leVal : List Nat → Nat
  | [] => 0
  | b :: r => b % 256 + 256 * leVal r

def beBytes (n v : Nat) : List Nat := (leBytes n v).reverse

def beVal (l : List Nat) : Nat := leVal l.reverse

/-- Bytes `a` to `a + n − 1` of a list. -/
def slice (l : List Nat) (a n : Nat) : List Nat := (l.drop a).take n

/-! ### CRC-32C (R360) -/

/-- One bit of the reflected division by 0x1EDC_6F41. -/
def crc32cBit (c : Nat) : Nat := if c % 2 = 1 then c / 2 ^^^ 0x82F63B78 else c / 2

def crc32cByte (c b : Nat) : Nat := (List.range 8).foldl (fun c _ => crc32cBit c) (c ^^^ b % 256)

def crc32c (l : List Nat) : Nat := l.foldl crc32cByte 0xFFFFFFFF ^^^ 0xFFFFFFFF

/-! ### SHA-256 -/

def add32 (a b : Nat) : Nat := (a + b) % 2 ^ 32

def rotr32 (n x : Nat) : Nat := x / 2 ^ n + x % 2 ^ n * 2 ^ (32 - n)

/-- The primes below `n`. -/
def primesBelow (n : Nat) : List Nat :=
  (List.range n).filter fun p => decide (2 ≤ p) && (List.range p).all fun d => decide (d < 2) || p % d != 0

/-- The first 32 bits of the fractional part of the k-th root of a number below 2^8 for squares, 2^12 for cubes. -/
def rootFraction (k p : Nat) : Nat :=
  ((List.range 36).reverse).foldl (fun r i => if (r + 2 ^ i) ^ k ≤ p * 2 ^ (32 * k) then r + 2 ^ i else r) 0 % 2 ^ 32

/-- The round constants: cube roots of the first 64 primes, of which the last is 311. -/
def shaRoundConsts : List Nat := (primesBelow 312).map (rootFraction 3)

/-- The initial hash: square roots of the first 8 primes, of which the last is 19. -/
def shaInit : List Nat := (primesBelow 20).map (rootFraction 2)

/-- The message schedule: words are kept newest first. -/
def shaSchedule (block : List Nat) : List Nat :=
  ((List.range 48).foldl (fun (w : List Nat) _ =>
    let a := w.getD 14 0
    let b := w.getD 1 0
    let s0 := rotr32 7 a ^^^ rotr32 18 a ^^^ a / 2 ^ 3
    let s1 := rotr32 17 b ^^^ rotr32 19 b ^^^ b / 2 ^ 10
    add32 (add32 s1 (w.getD 6 0)) (add32 s0 (w.getD 15 0)) :: w) block.reverse).reverse

def shaRound (st : List Nat) (kw : Nat) : List Nat :=
  match st with
  | [a, b, c, d, e, f, g, h] =>
    let s1 := rotr32 6 e ^^^ rotr32 11 e ^^^ rotr32 25 e
    let ch := (e &&& f) ^^^ ((0xFFFFFFFF - e) &&& g)
    let t1 := add32 (add32 h s1) (add32 ch kw)
    let s0 := rotr32 2 a ^^^ rotr32 13 a ^^^ rotr32 22 a
    let maj := (a &&& b) ^^^ (a &&& c) ^^^ (b &&& c)
    [add32 t1 (add32 s0 maj), a, b, c, add32 d t1, e, f, g]
  | _ => st

def shaBlock (st block : List Nat) : List Nat :=
  let kw := List.zipWith add32 shaRoundConsts (shaSchedule block)
  List.zipWith add32 st (kw.foldl shaRound st)

/-- The 32-bit words of `n` blocks, and the hash over them. -/
def shaBlocks : Nat → List Nat → List Nat → List Nat
  | 0, st, _ => st
  | n + 1, st, l => shaBlocks n (shaBlock st ((List.range 16).map fun i => beVal (slice l (4 * i) 4))) (l.drop 64)

def shaPad (l : List Nat) : List Nat :=
  let n := l.length
  l ++ [0x80] ++ List.replicate ((119 - n % 64) % 64) 0 ++ beBytes 8 (8 * n)

def sha256 (l : List Nat) : List Nat :=
  let p := shaPad l
  (shaBlocks (p.length / 64) shaInit p).flatMap (beBytes 4)

def hmac256 (key msg : List Nat) : List Nat :=
  let k := if 64 < key.length then sha256 key else key
  let k := k ++ List.replicate (64 - k.length) 0
  sha256 (k.map (· ^^^ 0x5C) ++ sha256 (k.map (· ^^^ 0x36) ++ msg))

/-! ### P-256 -/

def pP : Nat := 0xffffffff00000001000000000000000000000000ffffffffffffffffffffffff
def pN : Nat := 0xffffffff00000000ffffffffffffffffbce6faada7179e84f3b9cac2fc632551
def pB : Nat := 0x5ac635d8aa3a93e7b3ebbd55769886bc651d06b0cc53b0f63bce3c3e27d2604b
def pG : Nat × Nat :=
  (0x6b17d1f2e12c4247f8bce6e563a440f277037d812deb33a0f4a13945d898c296,
   0x4fe342e2fe1a7f9b8ee7eb4a7c0f9e162bce33576b315ececbb6406837bf51f5)

/-- a^e mod m over the low `n` bits of e. -/
def powMod : Nat → Nat → Nat → Nat → Nat
  | 0, _, _, _ => 1
  | n + 1, a, e, m => (if e % 2 = 1 then a else 1) * powMod n (a * a % m) (e / 2) m % m

def invMod (a m : Nat) : Nat := powMod 256 a (m - 2) m

/-- A point in the affine plane, none at infinity. -/
def ecAdd (a b : Option (Nat × Nat)) : Option (Nat × Nat) :=
  match a, b with
  | none, x => x
  | x, none => x
  | some p, some q =>
    let line := fun (num den : Nat) =>
      let l := num * invMod (den % pP) pP % pP
      let x := (l * l + 2 * pP - p.1 - q.1) % pP
      some (x, (l * (p.1 + pP - x) + pP - p.2) % pP)
    if p.1 = q.1 then
      if (p.2 + q.2) % pP = 0 then none else line (3 * p.1 * p.1 + pP - 3) (2 * p.2)
    else line (q.2 + pP - p.2) (q.1 + pP - p.1)

def ecMul : Nat → Nat → Option (Nat × Nat) → Option (Nat × Nat)
  | 0, _, _ => none
  | n + 1, k, p => ecAdd (if k % 2 = 1 then p else none) (ecMul n (k / 2) (ecAdd p p))

def onCurve (q : Nat × Nat) : Bool :=
  decide (q.1 < pP ∧ q.2 < pP) && q.2 * q.2 % pP == (q.1 * q.1 * q.1 + (pP - 3) * q.1 + pB) % pP

/-- The signature (r, s) of the hash `z` verifies under the key `q` (FIPS 186-4). -/
def ecdsaOk (q : Nat × Nat) (z r s : Nat) : Bool :=
  if !onCurve q || r == 0 || s == 0 || decide (pN ≤ r) || decide (pN ≤ s) then false
  else
    let w := invMod s pN
    match ecAdd (ecMul 256 (z * w % pN) (some pG)) (ecMul 256 (r * w % pN) (some q)) with
    | none => false
    | some x => x.1 % pN == r

end Sys2Proof.Machine
end

