-- ==== Sys2Proof/Machine/Reply.lean ====
section
/-! DEFINITION. Baind replies and the completion of long operations (spec/ file 14, R359, R364, R370; R347, R400). -/

namespace Sys2Proof.Machine

open Reg

def toBytes (l : List Nat) : List Byte := l.map (BitVec.ofNat 8)

def ofBytes (l : List Byte) : List Nat := l.map (·.toNat)

/-- A packet from its header fields, flags and what follows byte 15, without trailer (R359, R360). -/
def packetOf (version flags opcode seq len target : Nat) (rest : List Nat) : List Nat :=
  let head := [version % 256, flags] ++ leBytes 2 opcode ++ leBytes 2 seq ++ leBytes 2 len ++ [target % 256, 0, 0, 0]
  head ++ leBytes 4 (crc32c (head ++ rest)) ++ rest

/-- The stamp of a reply: chain time with UNSYNC in bit 0 (R359). -/
def State.replyStamp (s : State) : Nat := floor2 s.time + s.get GLB_STAT_UNSYNC

/-- A reply (R359): `fl` is COMPL (4) and FWD (8); an error status carries no payload (R362). -/
def State.replyBytes (s : State) (opcode seq target fl status : Nat) (pay : List Nat) (key : Option (List Nat)) : List Nat :=
  let block := leBytes 2 status ++ [0, 0] ++ leBytes 8 s.replyStamp
  let flags := 1 + fl + (if key.isSome then 2 else 0)
  let p := packetOf 1 flags opcode seq pay.length target (block ++ pay)
  match key with
  | some k => p ++ hmac256 k p
  | none => p

/-! ### Where replies go -/

/-- Bytes held in the outbox of the serial slave port (R400). -/
def Ssp.held (x : Ssp) : Nat := sumN (x.outbox.map (·.length))

/-- Waiting replies enter the outbox while they fit (R400). -/
def Ssp.pump : Nat → Ssp → Ssp
  | 0, x => x
  | n + 1, x =>
    match x.waiting with
    | p :: r => if x.held + p.length ≤ 4096 then Ssp.pump n { x with outbox := x.outbox ++ [p], waiting := r } else x
    | [] => x

def State.sspShow (s : State) : State :=
  ((s.set SSP_BOX_OUTBYTES (min 4096 s.ssp.held)).set SSP_BOX_INSLOTS s.ssp.inbox.length).setB SSP_BOX_ABSLOT
    s.ssp.abox.isSome

def State.sspReply (s : State) (p : List Nat) : State :=
  let x := { s.ssp with waiting := s.ssp.waiting ++ [p] }
  { s with ssp := x.pump x.waiting.length }.sspShow

def State.mbxChan (s : State) (c : Nat) : MbxChan := mget MbxChan.init s.mbx c

/-- COUNT, FULL and the words of the oldest message of a channel's queues (file 13, MBX registers). -/
def State.mbxShow (s : State) (c : Nat) : State :=
  let m := s.mbxChan c
  let s := (List.range 4).foldl (fun s i =>
    (s.set (MBX_UPRX_WORD c i) ((m.up.headD []).getD i 0)).set (MBX_DNRX_WORD c i) ((m.down.headD []).getD i 0)) s
  (((s.set (MBX_UPCTL_COUNT c) m.up.length).setB (MBX_UPCTL_FULL c) (m.up.length == 8)).set (MBX_DNCTL_COUNT c)
    m.down.length).setB (MBX_DNCTL_FULL c) (m.down.length == 8)

def State.setMbx (s : State) (c : Nat) (m : MbxChan) : State :=
  { s with mbx := mset MbxChan.init s.mbx c m }.mbxShow c

/-- The words of FB that bytes lie in. -/
def fbWords (a n : Nat) : List Nat := (List.range ((a + n + 7) / 8 - a / 8)).map (a / 8 + ·)

/-- Write bytes to FB. -/
def State.fbWrite (s : State) (a : Nat) (l : List Nat) : State :=
  let s := (fbWords a l.length).foldl (fun (s : State) w => s.wordWritten 56 w) s
  { s with fb := putAll s.fb a (l.map (· % 256)) }

def State.fbRead (s : State) (a n : Nat) : List Nat := (List.range n).map fun i => mget 0 s.fb (a + i)

/-- The firmware's read of bytes of FB: those of a word in error read as free values (R315; log entry 2). -/
def State.fbFetch (s : State) (a n : Nat) : State × List Nat :=
  (fbWords a n).foldl (fun p w =>
    let q := p.1.memRead 56 w 5
    if q.2 then
      (List.range n).foldl (fun p i =>
        if (a + i) / 8 = w then (p.1.draw.2, p.2.set i (p.1.draw.1 % 256)) else p) (q.1, p.2)
    else (q.1, p.2)) (s, s.fbRead a n)

/-- The firmware sends a message down a mailbox channel: word 0, and the bytes it locates, if any. Each payload takes
one of eight places in the downward area (log entry 33). -/
def State.mbxDown (s : State) (c w0 : Nat) (p : List Nat) : State :=
  let m := s.mbxChan c
  let k := mget 0 s.baind.mbxPut c
  let at' := 0xC0000 + 0x10000 * c + 0x2000 * (k % 8)
  let msg := [w0, if p = [] then w0 else at', p.length, 0]
  let s := if p = [] then s
    else { s.fbWrite at' p with baind := { s.baind with mbxPut := mset 0 s.baind.mbxPut c (k + 1) } }
  let s := s.setMbx c { m with down := m.down ++ [if w0 % 256 = 4 then [4, w0 / 256, 0, 0] else msg] }
  if s.flag (MBX_DNCTL_IE c) then s.emit (.hartIrq c) else s

/-- Messages that wait for room go down, oldest first, while the queue has room. -/
def State.mbxPump (s : State) (c : Nat) : Nat → State
  | 0 => s
  | n + 1 =>
    match s.baind.mbxWait.find? (fun x => x.1 == c) with
    | some x =>
      if (s.mbxChan c).down.length < 8 then
        let s := { s with baind := { s.baind with mbxWait := s.baind.mbxWait.erase x } }
        State.mbxPump (s.mbxDown c x.2.1 x.2.2) c n
      else s
    | none => s

def State.mbxReply (s : State) (c w0 : Nat) (p : List Nat) : State :=
  let s := { s with baind := { s.baind with mbxWait := s.baind.mbxWait ++ [(c, w0, p)] } }
  s.mbxPump c 8

/-- The port toward another member of the chain (R411): away from index 0 by port H. -/
def State.portTo (s : State) (idx : Nat) : ChainPort := if idx < s.get CHN_STAT_INDEX then .low else .high

/-- Send a reply on the path of its source. -/
def State.sendReply (s : State) (src : Source) (tag : Nat) (compl : Bool) (p : List Nat) : State :=
  match src with
  | .udp _ _ => (s.emit (.baind src (toBytes p))).bump ETH_TXCNT_COUNT
  | .ssp => (s.emit (.baind src (toBytes p))).sspReply p
  | .mbx c => (s.emit (.baind src (toBytes p))).mbxReply c ((if compl then 3 else 2) + 256 * tag) p
  | .chain i => s.emit (.chain (s.portTo i) (.baind true i (toBytes p)))

/-! ### Long operations (R370) -/

/-- The completion payload of an operation (R366). -/
def State.opPayload (s : State) (opcode : Nat) (det : List Nat) : List Nat :=
  let w := fun a => leBytes 4 (s.word a)
  if opcode = 0x0301 then w 0x6440 ++ w 0x6428 ++ w 0x642C ++ w 0x6430
  else if opcode = 0x0302 then w 0x6470
  else if opcode = 0x0305 then w 0x1808 ++ w 0x180C
  else det

/-- Every running request of an operation completes (R370, R371): OP_DONE is raised for each. -/
def State.opFinish (s : State) (opcode status : Nat) (det : List Nat) : State :=
  let code := if status = 0 then 0 else if status = 2 then 0x41 else 0x40
  let ends := fun (o : LongOp) => o.opcode == opcode && o.status == 1 && !o.wait
  let mine := s.baind.ops.filter ends
  let ops := s.baind.ops.map fun o => if ends o then { o with status := code } else o
  let s := { s with baind := { s.baind with ops := ops } }
  mine.foldl (fun s o =>
    let p := s.replyBytes opcode o.seq (s.get GLB_STAT_CHIDX) 4 code (s.opPayload opcode det) o.key
    (s.sendReply o.src o.tag true p).raise Src.opDone) s

/-- A calibration takes up every pending trigger, so that each CAL_RUN that runs completes with it (R116, R371). -/
def State.opsServed (s : State) : State :=
  { s with baind := { s.baind with ops := s.baind.ops.map fun o => { o with wait := false } } }

/-- A long operation of an opcode runs. -/
def State.opRuns (s : State) (opcode : Nat) : Bool := s.baind.ops.any fun o => o.opcode == opcode && o.status == 1

end Sys2Proof.Machine
end

