-- ==== Sys2Proof/Machine/CalOps.lean ====
section
/-! DEFINITION. The calibration manager's operations: triggers, phases, results, interruptions, trim hand-off (spec/
file 05). -/

namespace Sys2Proof.Machine

open Reg

/-- Trigger bits of CAL_STATUS.PENDING. -/
def trigDrift : Nat := 1
def trigPower : Nat := 2
def trigHost : Nat := 4
def trigInterval : Nat := 8
def trigGain : Nat := 16

def State.calPhase (s : State) : Nat := s.get CAL_STATUS_PHASE

def State.setPhase (s : State) (p : Nat) : State := s.set CAL_STATUS_PHASE p

def State.isOrphan (s : State) : Bool := s.get CHN_STAT_STATE == 3

/-- |STG_TEMP − CAL_LASTSTAGE| in 0.5 mK units (R115). -/
def State.driftNow (s : State) : Nat := ((s.get STG_TEMP_TEMP : Int) - s.get CAL_LASTSTAGE_TEMP).natAbs

def State.pendTrig (s : State) (b : Nat) : State := s.set CAL_STATUS_PENDING (s.get CAL_STATUS_PENDING ||| b)

/-- The triggers an orphan's calibration serves: the others are held until the chain is regained (R119). -/
def orphanBits : Nat := trigDrift + trigPower

/-- The part of the pending triggers that may start a calibration now (R117, R119, R121, R276, R430, R461). -/
def State.startable (s : State) (bits : Nat) : Nat :=
  if s.calPhase ≠ 0 ∨ s.flag PWR_STAT_DIP ∨ s.tmx.mode ≠ 0 ∨ (s.mode ≠ 1 ∧ s.mode ≠ 2 ∧ s.mode ≠ 3) then 0
  else
    let wait := s.get CAL_MININT_SEC * 2 ^ s.get CAL_STATUS_BACKOFF * 1000000000
    let early := s.cal.lastEnd ≠ 0 ∧ s.time < s.cal.lastEnd - 1 + wait
    let bits := if s.time < s.cal.deferAt then andNot bits s.cal.deferred else bits
    let slow := if early then bits &&& (s.cal.dipRetry ||| s.cal.deferred) else bits
    let bits := (bits &&& (trigPower + trigHost + trigGain)) ||| (slow &&& (trigDrift + trigInterval))
    if s.isOrphan then
      (bits &&& trigPower) ||| (if 2 * (2 * s.get CAL_DT_DT) ≤ s.driftNow then bits &&& trigDrift else 0)
    else bits

/-- Begin a calibration for the triggers `bits` (R116, R118, R119). -/
def State.calBegin (s : State) (bits : Nat) : State :=
  let needs := s.sorting && (s.get CHN_STAT_STATE == 1 || s.get CHN_STAT_STATE == 2)
  let p := s.get CAL_STATUS_PENDING
  let served := bits ||| (if s.isOrphan then p &&& orphanBits else p)
  let c := { s.cal with served := served, orphan := s.isOrphan, asked := s.time, blindFrom := 0, settled := false,
                        ready := false, failCode := 0, dead := false, written := false, success := false,
                        copying := false, openAt := 0, deferred := 0, dipRetry := 0, grantAt := none }
  let s := (({ s with cal := c }.opsServed.set CAL_STATUS_PENDING (andNot p served)).set CAL_STATUS_COMPUTE 0).setPhase 1
  if needs then s.askGrant
  else { s with cal := { s.cal with grantAt := some s.time, cfg := s.calLatch } }

/-- Start a calibration if a pending trigger may (R116). -/
def State.calNext (s : State) : State :=
  let b := s.startable (s.get CAL_STATUS_PENDING)
  if b = 0 then s else s.calBegin b

/-- A trigger arrives (R116); an orphan's calibration serves no host, interval or gain trigger (R119). -/
def State.trigger (s : State) (b : Nat) : State :=
  let p := s.calPhase
  if (p = 1 ∨ p = 2 ∨ p = 3) ∧ s.cal.dead = false ∧ (s.isOrphan && andNot b orphanBits != 0) = false then
    { s with cal := { s.cal with served := s.cal.served ||| b } }.opsServed
  else
    -- a new host or gain trigger does not wait for a deferred one (R121)
    let left := andNot s.cal.deferred (b &&& (trigHost + trigGain))
    ({ s with cal := { s.cal with deferred := left } }.pendTrig b).calNext

/-- The attempt has its outcome (R122, R134, R135, R137). -/
def State.calResult (s : State) (code : Nat) : State :=
  (((s.set CAL_LASTRESULT_CODE code).set CAL_LASTRESULT_TRIG s.cal.served).setB CAL_LASTRESULT_ORPHAN
    s.cal.orphan).set CAL_LASTRESULT_TRIMDROP 0

/-- The calibration ends as it returns to idle: the times of R115 and R117, the retry of a failed power-up attempt, and the
record (R116, R358, R430; log entry 66). -/
def State.calEnded (s : State) : State :=
  let code := s.get CAL_LASTRESULT_CODE
  let again := if decide (2 ≤ code ∧ code ≤ 6) && bitOf s.cal.served 1 then s.time + 5000000000 else s.cal.retryAt
  let done := if s.cal.success then s.time else s.cal.lastOk
  let s := { s with cal := { s.cal with lastEnd := s.time + 1, lastOk := done, retryAt := again } }
  s.record 0x801 (s.word 0x6440) (s.word 0x6444) (s.word 0x6448)

/-- A failed calibration (R117, R122, R134). -/
def State.calFailed (s : State) (code : Nat) : State :=
  let s := (s.bump CAL_FAILS_COUNT).calResult code
  let s := s.set CAL_STATUS_BACKOFF (min 3 (s.get CAL_STATUS_BACKOFF + 1))
  let s := if bitOf s.cal.served 1 then { s with cal := { s.cal with tries := s.cal.tries + 1 } } else s
  ({ s with cal := { s.cal with dead := true, ready := false } }.set CAL_STATUS_COMPUTE 0).opFinish 0x0301 2 []

/-- LY is released (R120, R122). -/
def State.calRelease (s : State) : State := { s with cal := { s.cal with releasedAt := s.time, openAt := 0 } }.lyOff

/-- The calibration returns to idle; pending triggers may start the next one. -/
def State.calIdle (s : State) : State := (s.calEnded.setPhase 0).calNext

/-- Abort (R137): code 7 for a dip, 8 for the host. In the slot copy and the trim hand-off the calibration has already
succeeded: a dip is recorded nowhere, a host abort as any other. -/
def State.calAbort (s : State) (code : Nat) : State :=
  let p := s.calPhase
  let note := fun (s : State) =>
    let s := ((s.bump CAL_ABORTS_COUNT).calResult code).raise Src.calAbort
    let s := if code = 7 then
        { s with cal := { s.cal with dipRetry := s.cal.served } }.pendTrig s.cal.served else s
    ({ s with cal := { s.cal with dead := true, ready := false } }.set CAL_STATUS_COMPUTE 0).opFinish 0x0301 3 []
  if p = 1 then (note s.dropGrant).calEnded.setPhase 0
  else if (p = 2 ∨ p = 3 ∨ p = 4) ∧ s.cal.dead = false then (note s.calRelease).setPhase 5
  else if p = 5 ∧ s.cal.dead = false then
    let s := note s
    if s.flag CAL_STATUS_BLIND then s else s.calEnded.setPhase 0
  else if p = 7 ∧ s.cal.copying = false then (note s.blendAbort).setPhase 9
  else if p = 7 ∨ p = 8 then
    let s := { s with cal := { s.cal with dead := true } }
    if code = 8 then ((s.bump CAL_ABORTS_COUNT).set CAL_LASTRESULT_CODE 8).raise Src.calAbort else s
  else s

/-! ### Capture and compute (R124, R130 to R132) -/

/-- One more usable sample, in half codes. -/
def CapSum.add (c : CapSum) (r : Int) : CapSum := ⟨c.n + 1, c.sum + r, c.sq + (r * r).toNat⟩

/-- A sample is bad by nothing but a calibration's own mark, BADSRC 2 (R106, R107). -/
def State.markedOnly (s : State) (c : FrameCtx) (n k pix : Nat) : Bool :=
  Rec.badsrc (s.pb (4 * pix + 2)) == 2 && !c.badSlices.contains (256 * n + k) && !c.laneBad (64 * n + k / 4)

/-- A corrected row group of a frame of the capture adds to the capture sums (R124). Pixels with BADSRC 2 are measured
too, for the recovery of R132 alone: `calCompute` leaves them out of every median and count (log entry 34). -/
def State.calCollect (s : State) (c : FrameCtx) (n : Nat) (h : Header) (xs : List Samp) : State :=
  if h.invalid || h.settle || bitOf s.cal.blindTiles n then s
  else
    let caps := (List.range xs.length).foldl (fun m k =>
      match xs[k]? with
      | some x =>
        let i := 4096 * n + 64 * (4 * h.rgrp + k % 4) + k / 4
        if x.ovr || x.refd || (x.bad && !s.markedOnly c n k i) then m
        else mupd CapSum.zero m i fun c => c.add x.r2
      | none => m) s.cal.caps
    { s with cal := { s.cal with caps := caps } }

/-- A frame belongs to the capture whose sums are open: its row groups count whenever they leave the receiver, the last
ones after the boundary that ends the capture (R120, R124). -/
def State.inCapture (s : State) (frame : Nat) : Bool :=
  let d := frameDiff frame s.cal.capFirst
  (s.calPhase == 4 || (s.calPhase == 5 && s.flag CAL_STATUS_COMPUTE))
    && decide (0 ≤ d ∧ d < s.cal.cfg.frames)

/-- Scale of the exact quantities of R130: 2^32 to a raw code. -/
def qs : Int := 4294967296

/-- m_p scaled. -/
def CapSum.mean (c : CapSum) : Int := qs * c.sum / (2 * max 1 c.n : Nat)

/-- s_p in 1/256 code. -/
def CapSum.dev88 (c : CapSum) : Nat :=
  let v := ((c.n * c.sq : Nat) - c.sum * c.sum).toNat
  isqrt 40 (v * 65536 / (4 * max 1 (c.n * c.n)))

/-- O_pred scaled (R130). -/
def State.oPred (s : State) (pix : Nat) (dtc : Int) : Int :=
  let w0 := s.pb (4 * pix)
  let w1 := s.pb (4 * pix + 1)
  let act := bitOf (s.get COR_OSEL_ACT) (pix / 4096)
  qs * Rec.ofs w0 act / 4 + Rec.d1 w1 * dtc * qs / (16 * 2000) + Rec.d2 w1 * dtc * dtc * qs / (16 * 2000 * 2000)

/-- Median of a list, scaled values; 0 of none. -/
def medianI (l : List Int) : Int := median2 l / 2

/-- A pixel carries BAD as the boundary status stands. -/
def State.pixBad (s : State) (pix : Nat) : Bool :=
  let l := 64 * (pix / 4096) + pix % 64
  Rec.badsrc (s.pb (4 * pix + 2)) != 0 || bitOf (s.get (COR_LANEBAD_BAD (l / 32))) (l % 32)
    || s.badSlices.contains (256 * (pix / 4096) + 4 * (pix % 64) + pix % 4096 / 64 % 4)

/-- Pixels outside the tiles `blind` that are free of BAD: lanes that are bad count whole, then failed slices and bad
records outside them. -/
def State.goodPixels (s : State) (blind : Nat) : Nat :=
  let lanes := (List.range s.nLanes).filter fun l =>
    !bitOf blind (l / 64) && !bitOf (s.get (COR_LANEBAD_BAD (l / 32))) (l % 32)
  let sl := s.badSlices
  let px := s.badPixels
  sumN (lanes.map fun l => 64 - (badRows px sl l).length)

/-- What the computation makes of one captured pixel: BAD, offset, whether it passed, noise, mean. -/
structure PixRes where
  pix : Nat
  bad : Bool
  onew : Int
  pass : Bool
  usable : Bool
  dev : Nat
  mean : Int
  deriving DecidableEq, Repr

def State.pixRes (s : State) (dtc cm : Int) (p : Nat × CapSum) : PixRes :=
  let b := qs * Rec.bkd (s.pb (4 * p.1 + 2)) / 64
  let m := p.2.mean
  let o := roundDiv ((m - cm - b) * 4) qs.toNat
  let d := qs * o / 4 - s.oPred p.1 dtc
  let inRange := decide (0 ≤ o ∧ o ≤ 65535)
  ⟨p.1, s.pixBad p.1, o, inRange && decide (d.natAbs ≤ s.cal.cfg.limofs * qs.toNat),
   decide (s.cal.cfg.frames ≤ 2 * p.2.n), p.2.dev88, m⟩

/-- The candidate value of BADSRC that R132 gives a captured pixel, if any. -/
def State.candidate (s : State) (r : PixRes) : Option Nat :=
  let n := r.pix / 4096
  let noisy := decide (s.cal.cfg.noise * s.get (CAL_TNOISE_FACT n) < 2 * r.dev)
  let twice := !r.pass && s.cal.ofsFailPrev.contains r.pix
  let trim := mget 0 (s.tile n).trims (r.pix % 4096)
  let stuck := (trim == 0 || trim == 31) && decide (s.cal.cfg.trimwin * qs.toNat < (r.mean - 8192 * qs).natAbs)
  let src := Rec.badsrc (s.pb (4 * r.pix + 2))
  if src = 0 ∧ (noisy || twice || stuck) then some 2
  else if src = 2 ∧ !(noisy || twice || stuck) ∧ r.pass then some 0
  else none

/-- The median s_p of each tile that was captured, into CAL_TNOISE.LAST; true when one exceeds the limit (R131). -/
def State.noiseCheck (s : State) (rs : List PixRes) : State × Bool :=
  s.tileList.foldl (fun p n =>
    let ds := (rs.filter fun r => r.pix / 4096 == n && !r.bad).map fun r => (r.dev : Int)
    if ds = [] then p
    else
      let m := (medianI ds).toNat
      (p.1.set (CAL_TNOISE_LAST n) (min 65535 m),
       p.2 || decide (s.cal.cfg.noise * s.get (CAL_TNOISE_FACT n) < 4 * m))) (s, false)

/-- New offsets and the checks of R131, in the order of its table. Pixels of a tile that was blind at any time in the
capture keep out of all of it (R130, R137). -/
def State.calCompute (s : State) : State :=
  let tcap := (roundDiv ((s.cal.stMin + s.cal.stMax : Nat) : Int) 2).toNat
  let act := bitOf (s.get COR_OSEL_ACT) 0
  let dtc := (tcap : Int) - (s.get (if act then COR_TREF_B_TEMP else COR_TREF_A_TEMP) : Int)
  let caps := s.cal.caps.filter fun p => !bitOf s.cal.blindTiles (p.1 / 4096)
  let cm := medianI ((caps.filter fun p => !s.pixBad p.1).map fun p =>
    p.2.mean - s.oPred p.1 dtc - qs * Rec.bkd (s.pb (4 * p.1 + 2)) / 64)
  let rs := caps.map (s.pixRes dtc cm)
  let good := s.goodPixels s.cal.blindTiles
  let okN := (rs.filter fun r => !r.bad && r.pass && r.usable).length
  let outlim := good - okN
  let cands := rs.filterMap fun r => (s.candidate r).map fun v => (r.pix, v)
  let newbad := (cands.filter fun c => c.2 == 2).length
  let p := s.noiseCheck rs
  let s := (p.1.set CAL_LASTSTATS_OUTLIM outlim).set CAL_LASTSTATS_NEWBAD (min 1023 newbad)
  let c := s.cal.cfg
  let code :=
    if c.frac * good < 1000 * outlim then 3
    else if c.newbad < newbad then 4
    else if 2 * c.drift < s.cal.stMax - s.cal.stMin then 5
    else if p.2 then 6 else 0
  let fails := (rs.filter fun r => !r.pass).map (·.pix)
  let onew := (rs.filter (·.pass)).foldl (fun m r => mset 0 m r.pix r.onew.toNat) []
  let mp := rs.foldl (fun m r => mset 0 m r.pix (roundDiv (16 * r.mean) qs.toNat).toNat) []
  { s with cal := { s.cal with failCode := code, tcap := tcap, onew := onew, cands := cands, mp := mp,
                               ofsFail := fails, ready := code == 0 } }

/-! ### The blend and after (R133, R135, R136) -/

/-- The idle slots and the idle reference are written, with the active offset for every pixel that has no new one, and
the marks are posted (R132, R133). -/
def State.calWrite (s : State) : State :=
  let pixels := ((s.corr.pb.filter fun p => p.1 % 4 == 0).map fun p => p.1 / 4) ++ s.cal.onew.map (·.1)
  let s := pixels.dedup.foldl (fun s pix =>
    let act := bitOf (s.get COR_OSEL_ACT) (pix / 4096)
    let w0 := s.pb (4 * pix)
    let v := match s.cal.onew.find? (fun p => p.1 == pix) with
      | some p => p.2
      | none => Rec.ofs w0 act
    s.setPb (4 * pix) (Rec.putOfs w0 (!act) v)) s
  let act := bitOf (s.get COR_OSEL_ACT) 0
  let s := s.set (if act then COR_TREF_A_TEMP else COR_TREF_B_TEMP) s.cal.tcap
  let s := s.cal.cands.foldl (fun s c => s.setMark c.1 { s.mark c.1 with bad := some c.2 }) s
  { s with cal := { s.cal with ofsFailPrev := s.cal.ofsFail, written := true } }

/-- A passed calibration writes its results as soon as no blend of the host's waits or runs (R103, R133). -/
def State.calStore (s : State) : State :=
  if s.cal.ready && !s.cal.written && !s.flag COR_BLEND_BUSY then s.calWrite else s

/-- The blend starts. A blend of the host's that waits or runs ends first: it is never restarted (R103, R133; log entry
79). -/
def State.calBlend (s : State) : State :=
  if s.flag COR_BLEND_BUSY then s
  else (((s.calStore).set COR_BLEND_FRAMES s.cal.cfg.ramp).blendStart).setPhase 7

/-- The flip: the calibration is successful (R117, R135). -/
def State.calSuccess (s : State) : State :=
  let s := (s.bump CAL_COUNT_COUNT).setPair CAL_LASTTIME_LO_STAMP CAL_LASTTIME_HI_STAMP s.cal.capStamp
  let s := ((s.set CAL_LASTSTAGE_TEMP s.cal.tcap).calResult 1).raise Src.calDone
  let s := s.set CAL_STATUS_BACKOFF 0
  let pw := s.cal.powered || bitOf s.cal.served 1
  { s with cal := { s.cal with success := true, copying := true, ready := false, powered := pw } }.opFinish 0x0301 0 []

/-- Both slots of every record hold the active offset, and both references the active one (R114, R135). -/
def State.slotCopy (s : State) : State :=
  let s := (s.corr.pb.filter fun p => p.1 % 4 == 0).foldl (fun s p =>
    let v := Rec.ofs p.2 (bitOf (s.get COR_OSEL_ACT) (p.1 / 16384))
    s.setPb p.1 (v + v * 65536)) s
  if bitOf (s.get COR_OSEL_ACT) 0 then s.set COR_TREF_A_TEMP (s.get COR_TREF_B_TEMP)
  else s.set COR_TREF_B_TEMP (s.get COR_TREF_A_TEMP)

/-- m_p in 1/16 code lies outside the trim window: above (true) or below (R136). -/
def State.outside (s : State) (m : Int) : Option Bool :=
  let w : Int := 16 * s.cal.cfg.trimwin
  if m - 131072 < -w then some false else if w < m - 131072 then some true else none

/-- The skimming steps of a tile: lane and direction down (R136). -/
def State.skimSteps (s : State) (n : Nat) : List (Nat × Bool) :=
  (List.range 64).filterMap fun j =>
    let ms := (s.cal.mp.filter fun p => p.1 / 4096 == n && p.1 % 64 == j && !s.pixBad p.1).map fun p => (p.2 : Int)
    if ms = [] then none
    else match s.outside (medianI ms) with
      | some down =>
        let c := mget 0 (s.tile n).skims j
        if (down && c == 0) || (!down && c == 255) then none else some (j, down)
      | none => none

/-- The pixel-trim steps of a tile. -/
def State.pixSteps (s : State) (n : Nat) : List (Nat × Bool) :=
  (s.cal.mp.filter fun p => p.1 / 4096 == n).filterMap fun p =>
    match s.outside (p.2 : Int) with
    | some down =>
      let c := mget 0 (s.tile n).trims (p.1 % 4096)
      if (down && c == 0) || (!down && c == 31) then none else some (p.1 % 4096, down)
    | none => none

/-- The offset of one pixel moves with a trim step: idle slot, and m_p (R136 step 2); Q12.4 to quarter codes. -/
def State.stepOffset (s : State) (pix stepQ4 : Nat) (down : Bool) : State :=
  let act := bitOf (s.get COR_OSEL_ACT) (pix / 4096)
  let w0 := s.pb (4 * pix)
  let d : Int := if down then -(stepQ4 : Int) else stepQ4
  let v := clampN 65535 ((Rec.ofs w0 act : Int) + roundDiv d 4)
  let s := s.setPb (4 * pix) (Rec.putOfs w0 (!act) v)
  let m := clampN (2 ^ 20) (((mget 0 s.cal.mp pix : Nat) : Int) + d)
  { s with cal := { s.cal with mp := if s.cal.mp.any (·.1 == pix) then mset 0 s.cal.mp pix m else s.cal.mp,
                               steps := s.cal.steps ++ [(pix, v)] } }

/-- One frame's step of one tile (R136): skimming first; the flip is tied to the trims (R104). -/
def State.tileHandoff (s : State) (n : Nat) : State :=
  let sk := s.skimSteps n
  let px := if sk = [] then s.pixSteps n else []
  if sk = [] ∧ px = [] then s
  else
    let t := s.tile n
    let s := sk.foldl (fun s p =>
      (List.range 64).foldl (fun s r => s.stepOffset (4096 * n + 64 * r + p.1) (s.get (TIL_TRIMSTEP_SKIMSTEP n)) p.2) s) s
    let s := px.foldl (fun s p => s.stepOffset (4096 * n + p.1) (s.get (TIL_TRIMSTEP_PIXSTEP n)) p.2) s
    let new := sk.map (fun p => (4096 + p.1, if p.2 then mget 0 t.skims p.1 - 1 else mget 0 t.skims p.1 + 1))
      ++ px.map (fun p => (p.1, if p.2 then mget 0 t.trims p.1 - 1 else mget 0 t.trims p.1 + 1))
    (s.stagePut (.handoff n new)).askFlip n

def State.handoffLeft (s : State) : Bool :=
  s.tileList.any fun n => s.skimSteps n != [] || s.pixSteps n != []

/-- The steps that have applied with their flips: both slots hold the new active value (R136 step 4). -/
def State.settleSteps (s : State) : State :=
  let waits := fun (p : Nat × Nat) => (mget none s.corr.flips (p.1 / 4096)).isSome
  let done := s.cal.steps.filter fun p => !waits p
  let rest := s.cal.steps.filter waits
  let s := done.foldl (fun s p => s.setPb (4 * p.1) (p.2 + p.2 * 65536)) s
  { s with cal := { s.cal with steps := rest } }

/-- A tile's steps that have been requested and have not applied. -/
def State.stepsWait (s : State) (n : Nat) : Bool := s.cal.steps.any fun p => p.1 / 4096 == n

/-- Every tile whose last step has applied takes its next one (R136). -/
def State.handoffTiles (s : State) : State :=
  s.tileList.foldl (fun s n => if s.stepsWait n then s else s.tileHandoff n) s

/-- The hand-off ends; steps still outstanding are dropped (R136). -/
def State.handoffEnd (s : State) : State :=
  (if s.cal.dead = false ∧ s.handoffLeft then s.set CAL_LASTRESULT_TRIMDROP 1 else s).calIdle

/-- A frame of the hand-off: it ends when nothing is outstanding, or after 64 frames (R136). -/
def State.handoffStep (s : State) : State :=
  if 64 ≤ s.cal.handFrames ∨ ((s.cal.dead || !s.handoffLeft) ∧ s.cal.steps = []) then s.handoffEnd
  else
    let s := { s with cal := { s.cal with handFrames := s.cal.handFrames + 1 } }
    if s.cal.dead then s else s.handoffTiles

/-! ### The frame boundary (R120, R133, R135) -/

/-- The end of capture: LY is released and the results are computed in parallel with opening (R120). -/
def State.captureEnd (s : State) : State := ((s.calRelease.setPhase 5).set CAL_STATUS_COMPUTE 1)

/-- Blind time ends at this boundary. -/
def State.calUnblind (s : State) : State :=
  let us := (s.time + 1 - s.cal.blindFrom) / 1000
  let s := (s.set CAL_STATUS_BLIND 0).set CAL_BLIND_US (min (2 ^ 24 - 1) us)
  ({ s with cal := { s.cal with blindFrom := 0 } }.blindEnd 32).dropGrant

/-- Blind time begins at this boundary, and the policy is latched for it (R120, R126). -/
def State.calBlind (s : State) : State :=
  let s := (s.setPhase 2).set CAL_STATUS_BLIND 1
  let cfg := { s.cal.cfg with policy := s.flag CAL_CTRL_POLICY, rejrow := s.flag CAL_CTRL_REJROW }
  let s := { s with cal := { s.cal with blindFrom := s.time + 1, cfg := cfg } }
  ((s.blindBegin 32 (2 ^ 32 - 1) cfg.policy cfg.rejrow).braidTruncate 2).lyOn

/-- The calibration at a frame boundary; `flip` says that the blend reached its flip at it. -/
def State.calBoundary (s : State) (flip : Bool) : State :=
  let s := s.settleSteps
  match s.calPhase with
  | 1 =>
    match s.cal.grantAt with
    | some t =>
      if t ≤ s.time then s.calBlind else s
    | none => s
  | 3 =>
    if s.cal.settled then
      let t := s.get STG_TEMP_TEMP
      { s with cal := { s.cal with capLeft := s.cal.cfg.frames, capStamp := s.time, capFirst := s.frameCnt, caps := [],
                                   stMin := t, stMax := t, blindTiles := s.tmx.blind } }.setPhase 4
    else s
  | 4 =>
    let t := s.get STG_TEMP_TEMP
    let left := s.cal.capLeft - 1
    if left = 0 then { s with cal := { s.cal with capLeft := 0 } }.captureEnd
    else
      { s with cal := { s.cal with capLeft := left, stMin := min s.cal.stMin t, stMax := max s.cal.stMax t,
                                   blindTiles := s.cal.blindTiles ||| s.tmx.blind } }
  | 5 =>
    let opened := s.cal.openAt ≠ 0 ∧ s.cal.openAt - 1 + s.cal.cfg.resume * 1000 ≤ s.time
    let s := if s.flag CAL_STATUS_BLIND ∧ opened then s.calUnblind else s
    if s.flag CAL_STATUS_BLIND then s
    else if s.cal.dead then s.calIdle
    else if s.cal.ready then s.calBlend
    else s
  | 7 => if flip then s.calSuccess else s
  | 8 => s.handoffStep
  | 9 => if s.flag COR_BLEND_BUSY then s else s.calIdle
  | _ => s

end Sys2Proof.Machine
end

