-- ==== Sys2Proof/Machine/Calib.lean ====
section
/-! DEFINITION. The calibration commands: triggers, flag, capture, results, gain refresh (spec/ file 05). -/

namespace Sys2Proof.Machine

open Reg

/-! ### Triggers (R115 to R119, R430) -/

/-- The drift condition; an orphan needs twice the drift (R115, R119). -/
def State.driftTrig (s : State) : Bool :=
  let lim := 2 * s.get CAL_DT_DT
  s.flag CAL_CTRL_DRIFT_EN && decide (2 ≤ s.get STG_STAT_TSVALID)
    && (if s.isOrphan then decide (2 * lim ≤ s.driftNow) else decide (lim < s.driftNow))

/-- The interval condition (R115): MAXINT seconds since the end of the last successful calibration. -/
def State.intervalTrig (s : State) : Bool :=
  let m := s.get CAL_MAXINT_SEC
  m != 0 && decide (s.cal.lastOk + m * 1000000000 ≤ s.time)

/-- A condition gives a trigger: while a calibration is past its settling, only one that has begun to hold since the
last evaluation, since the calibration may answer one that already held (R116; log entry 11). -/
def State.condTrig (s : State) (was b : Nat) (on : Bool) : State :=
  if on && !(decide (4 ≤ s.calPhase) && was &&& b != 0) then s.trigger b else s

/-- The 1 ms evaluation (R115). -/
def State.trigEval (s : State) : State :=
  let s := s.setB CAL_STATUS_SUSPENDED (decide (s.get STG_STAT_TSVALID < 2) || s.isOrphan)
  let was := s.cal.conds
  let d := s.driftTrig
  let i := s.intervalTrig
  let s := { s with cal := { s.cal with conds := (if d then trigDrift else 0) + (if i then trigInterval else 0) } }
  ((s.condTrig was trigDrift d).condTrig was trigInterval i).calNext

def execCalTriggerEval (s : State) : Host.Outcome State Fault Refusal := ok s.trigEval

def execCalGo (r : Requester) (s : State) : Host.Outcome State Fault Refusal :=
  ok (s.guardW r 0x6400 (·.trigger trigHost))

/-- The power-up calibration begins at the first evaluation at which LOCK is 1 (R430), with the bias ramp and its
SETTLE frames ended, since a settling frame has no usable sample (log entry 12). -/
def State.powerupStart (s : State) : State :=
  if s.mode = 1 ∧ s.flag STG_STAT_LOCK ∧ s.calPhase = 0 ∧ s.get STG_STAT_SETTLE = 0 ∧ s.cal.tries < 3
      ∧ s.cal.retryAt ≤ s.time then s.trigger trigPower else s

def execPowerupCalStart (s : State) : Host.Outcome State Fault Refusal := ok s.powerupStart

/-- The retry 5 s after a failed power-up attempt ended (R430). -/
def execPowerupCalRetry (s : State) : Host.Outcome State Fault Refusal :=
  ok (if s.mode = 1 ∧ 0 < s.cal.tries ∧ s.cal.tries < 3 then (s.advance (floor2 s.cal.retryAt)).powerupStart else s)

/-- The grant has not arrived within CAL_GRANTTO (R121). -/
def State.grantTimeoutS (s : State) : State :=
  if s.calPhase = 1 ∧ s.cal.grantAt = none then
    let s := (s.advance (floor2 (s.cal.asked + s.get CAL_GRANTTO_VALUE * 1000000))).dropGrant
    let s := { s with cal := { s.cal with deferred := s.cal.served,
                                          deferAt := s.time + s.get CAL_MININT_SEC * 1000000000 } }
    ((s.set CAL_STATUS_DEFERRED 1).pendTrig s.cal.served).setPhase 0
  else s

def execCalGrantTimeout (s : State) : Host.Outcome State Fault Refusal := ok s.grantTimeoutS

/-- The deferred trigger is retried after CAL_MININT without back-off (R121). -/
def execCalDeferredRetry (s : State) : Host.Outcome State Fault Refusal :=
  ok (if s.calPhase = 0 ∧ s.cal.deferred ≠ 0 then (s.advance (floor2 s.cal.deferAt)).calNext else s)

/-! ### The flag (R120, R122, R123) -/

/-- FAULT_N is driven low: in boot, by safe-state causes 1 to 3, in thermal shutdown, by a stuck flag (R123, R287,
R428, R438). -/
def State.faultHeld (s : State) : Bool :=
  s.mode == 0 || (s.mode == 4 && s.get GLB_SAFECAUSE_CAUSES / 2 != 0) || s.mode == 5
    || s.house.shutdown || s.flag CAL_STATUS_STUCK

def State.faultShow (s : State) : State := s.setB GLB_STAT_FAULT s.faultHeld

/-- The flag is confirmed closed: settling begins, and tiles off the common slot are asked to flip (R120, R486). -/
def State.flagClosed (s : State) : State :=
  if s.calPhase = 2 then
    let s := { s with cal := { s.cal with closedAt := s.time, settled := false } }.setPhase 3
    let act := s.get COR_OSEL_ACT
    s.tileList.foldl (fun s n => if bitOf act n = bitOf act 0 then s else s.askFlip n) s
  else s

def execLyFlagClosed (w : LySense) (s : State) : Host.Outcome State Fault Refusal :=
  ok (if s.lySees w true && s.lySearch true then (s.lyConfirm true).flagClosed else s)

/-- The calibration fails for its flag: LY is released, and blind time ends as in the opening phase (R122). -/
def State.flagFailed (s : State) : State := ((s.calRelease.calFailed 2).raise Src.lanyardFault).setPhase 5

/-- The flag is not confirmed closed within 30 ms (R122). -/
def State.closeTimeout (s : State) : State := if s.calPhase = 2 then s.flagFailed else s

/-- LY is released by its coil limit or a latched fault: the calibration takes the flag as not confirmed closed
(R269). -/
def State.lyFailed (s : State) : State :=
  if s.calPhase = 2 ∨ s.calPhase = 3 ∨ s.calPhase = 4 then s.flagFailed
  else s.lyOff.raise Src.lanyardFault

def execFlagCloseTimeout (s : State) : Host.Outcome State Fault Refusal := ok s.closeTimeout

/-- The flag is confirmed open (R120, R123). -/
def State.flagOpen (s : State) : State :=
  let s := (s.set CAL_STATUS_STUCK 0).faultShow
  if s.calPhase = 5 then { s with cal := { s.cal with openAt := s.time + 1 } } else s

def execLyFlagOpen (w : LySense) (s : State) : Host.Outcome State Fault Refusal :=
  ok (if s.lySees w false && s.lySearch false then (s.lyConfirm false).flagOpen else s)

/-- The flag is not confirmed open 1 s after its release (R123). -/
def State.flagStuckS (s : State) : State :=
  if s.calPhase = 5 ∧ s.cal.openAt = 0 then
    (((s.advance (floor2 (s.cal.releasedAt + 1000000000))).set CAL_STATUS_STUCK 1).raise Src.lanyardFault).faultShow
  else s

def execFlagStuck (s : State) : Host.Outcome State Fault Refusal := ok s.flagStuckS

/-- CAL_SETTLE ms after the confirmation (R120): capture begins at the next boundary. -/
def execCalSettleEnd (s : State) : Host.Outcome State Fault Refusal :=
  ok (if s.calPhase = 3 then
      let s := s.advance (floor2 (s.cal.closedAt + s.cal.cfg.settle * 1000000))
      { s with cal := { s.cal with settled := true } }
    else s)

/-- The end of the capture (R120). -/
def execCalCaptureEnd (s : State) : Host.Outcome State Fault Refusal :=
  ok (if s.calPhase = 4 then s.captureEnd else s)

/-- New offsets and checks are ready; passed ones go to the idle slots (R131 to R134). -/
def State.computeDone (s : State) : State :=
  if s.calPhase = 5 ∧ s.flag CAL_STATUS_COMPUTE ∧ s.cal.dead = false then
    let s := s.calCompute.set CAL_STATUS_COMPUTE 0
    if s.cal.failCode = 0 then s.calStore else (s.calFailed s.cal.failCode).raise Src.calFail
  else s

def execCalComputeDone (s : State) : Host.Outcome State Fault Refusal := ok s.computeDone

/-- CAL_RESUME µs after the flag's opening; blind time ends at the next boundary (R120). -/
def execCalResumeEnd (s : State) : Host.Outcome State Fault Refusal :=
  ok (if s.calPhase = 5 ∧ s.cal.openAt ≠ 0 then
      s.advance (floor2 (s.cal.openAt - 1 + s.cal.cfg.resume * 1000)) else s)

/-- The slot copy is done; the trim hand-off begins, if a step is outstanding (R135, R136). -/
def State.copyDone (s : State) : State :=
  if s.calPhase = 7 ∧ s.cal.copying then
    let s := s.slotCopy
    let s := { s with cal := { s.cal with copying := false, handFrames := 0 } }
    if s.cal.dead || !s.handoffLeft then s.calIdle
    else
      { s.setPhase 8 with cal := { s.cal with handFrames := 1 } }.handoffTiles
  else s

def execCalSlotCopyDone (s : State) : Host.Outcome State Fault Refusal := ok s.copyDone

/-- 64 frames of hand-off have passed: steps still outstanding are dropped (R136). -/
def execTrimHandoffTimeout (s : State) : Host.Outcome State Fault Refusal :=
  ok (if s.calPhase = 8 then s.settleSteps.handoffEnd else s)

/-! ### Backdrop gain refresh (R143 to R146) -/

def State.setGref (s : State) (g : Gref) : State := { s with gref := g }

/-- The refresh ends: the refresh offset returns to 0 and the tracker is released (R143, R308). -/
def State.grefEnd (s : State) : State :=
  (({ s with gref := { s.gref with phase := .idle, raised := false } }.set CAL_GREF_BUSY 0).set LOOP_STAT_GREF 0).setPhase 0

/-- A calibration that still waits for its grant gives way to a refresh: its request is withdrawn and its triggers wait
for the refresh's end (R144; log entry 80). -/
def State.calWithdraw (s : State) : State :=
  if s.calPhase = 1 then (s.dropGrant.pendTrig s.cal.served).setPhase 0 else s

/-- GREF: refused past a calibration's grant, without the backdrop loop, or without LOCK (R144). A second GREF while a
refresh runs is refused too (log entry 80). -/
def State.grefStartS (s : State) : State :=
  if (2 ≤ s.calPhase ∨ (s.calPhase = 1 ∧ s.cal.grantAt.isSome)) ∨ !s.flag LOOP_CTRL_BKEN ∨ !s.flag STG_STAT_LOCK then
    s.set CAL_STATUS_REFUSED 1
  else
    let s := s.calWithdraw
    let g : Gref := { Gref.init with phase := .window1, held := s.gref.held }
    (((s.setGref g).set CAL_GREF_BUSY 1).set LOOP_STAT_GREF 1).setPhase 10

def execGrefStart (r : Requester) (s : State) : Host.Outcome State Fault Refusal :=
  ok (s.guardW r 0x6400 (·.grefStartS))

/-- +10 s: window 1 ends and the backdrop set point rises by 5 K (R144). -/
def State.grefW1 (s : State) : State :=
  if s.gref.phase = .window1 then
    { s with gref := { s.gref with phase := .wait, raised := true } }
  else s

def execGrefWindow1End (s : State) : Host.Outcome State Fault Refusal := ok s.grefW1

/-- T_RTD has stayed within 0.1 K of the new set point for 5 s: window 2 (R144). -/
def execGrefSettled (s : State) : Host.Outcome State Fault Refusal :=
  ok (if s.gref.phase = .wait then { s with gref := { s.gref with phase := .window2 } } else s)

/-- A failed refresh: set point restored, nothing kept. -/
def State.grefFail (s : State) : State :=
  (s.set CAL_GREF_FAIL 1).grefEnd.opFinish 0x0302 2 []

/-- The new set point was not reached by +70 s (R144). -/
def execGrefSettleTimeout (s : State) : Host.Outcome State Fault Refusal :=
  ok (if s.gref.phase = .wait then s.grefFail.calNext else s)

/-- The mean of a window in half codes, scaled. -/
def winMean (c : CapSum) : Int := qs * c.sum / (max 1 c.n : Nat)

/-- A pixel's share of a window is at least MINSHARE. -/
def State.shareOk (s : State) (c : CapSum) (frames : Nat) : Bool :=
  decide (s.get CAL_TRK_MINSHARE * frames ≤ 100 * c.n ∧ 0 < c.n)

/-- The new gains (R145): q is the median of G·Δr; a pixel keeps its gain on a low share or a change beyond 5%. -/
def State.grefGains (s : State) : List (Nat × Nat) × Nat :=
  let ps := s.gref.w1.filterMap fun p =>
    let c2 := mget CapSum.zero s.gref.w2 p.1
    if s.pixBad p.1 then none
    else some (p.1, winMean c2 - winMean p.2, s.shareOk p.2 s.gref.n1 && s.shareOk c2 s.gref.n2)
  let gain := fun pix => (Rec.gain (s.pb (4 * pix + 1)) : Int)
  let q := medianI (ps.map fun p => gain p.1 * p.2.1)
  let new := ps.map fun p =>
    let d := p.2.1
    let g := if d ≤ 0 then -1 else roundDiv q d.toNat
    (p.1, g, p.2.2 && decide (95 * gain p.1 ≤ 100 * g ∧ 100 * g ≤ 105 * gain p.1 ∧ 0 ≤ g ∧ g < 16384))
  let good := s.goodPixels 0
  let kept := new.filter fun p => p.2.2
  (kept.map fun p => (p.1, p.2.1.toNat), good - kept.length)

/-- Window 2 ends: set point restored, new gains computed and held, or the refresh fails (R144 to R146). -/
def State.grefW2 (s : State) : State :=
  if s.gref.phase = .window2 then
    let s := { s with gref := { s.gref with raised := false } }
    let p := s.grefGains
    let s := s.set CAL_GREF_OUTLIM p.2
    if s.get CAL_LIMITS_FRAC * s.goodPixels 0 < 1000 * p.2 then s.grefFail.calNext
    else { s with gref := { s.gref with phase := .back, held := p.1 } }.set CAL_GREF_PENDAPPLY 1
  else s

def execGrefWindow2End (s : State) : Host.Outcome State Fault Refusal := ok s.grefW2

/-- T_RTD is back within 0.2 K of its set point: the tracker is released and GREF_DONE raised (R144). -/
def State.grefDoneS (s : State) : State :=
  if s.gref.phase = .back then
    let s := (s.set CAL_GREF_DONE 1).raise Src.grefDone
    (s.grefEnd.opFinish 0x0302 0 []).calNext
  else s

def execGrefDone (s : State) : Host.Outcome State Fault Refusal := ok s.grefDoneS

/-- GAPPLY: the held gains go to sub-word 1 under R99, and a gain-applied trigger follows (R146). -/
def State.gapplyS (s : State) : State :=
  if s.sorting then s.set CAL_STATUS_REFUSED 1
  else if !s.flag CAL_GREF_PENDAPPLY then s
  else if s.pbBusy then s.corWrErr
  else
    let s := s.gref.held.foldl (fun s p =>
      let a := 4 * p.1 + 1
      s.setPb a (s.pb a / 16384 * 16384 + p.2 % 16384)) s
    (({ s with gref := { s.gref with held := [] } }.set CAL_GREF_PENDAPPLY 0)).trigger trigGain

def execGapply (r : Requester) (s : State) : Host.Outcome State Fault Refusal :=
  ok (s.guardW r 0x6400 (·.gapplyS))

/-- CAL_CTRL.ABORT: a running calibration, or a refresh (R137). -/
def State.calAbortW (s : State) : State :=
  if s.calPhase = 10 then (s.grefEnd.opFinish 0x0302 3 []).calNext
  else s.calAbort 8

def execCalAbort (r : Requester) (s : State) : Host.Outcome State Fault Refusal :=
  ok (s.guardW r 0x6400 (·.calAbortW))

end Sys2Proof.Machine
end

