-- ==== Sys2Proof/Machine/Valves.lean ====
section
/-! DEFINITION. The valve and lanyard commands (spec/ file 09). -/

namespace Sys2Proof.Machine

open Reg

/-! ### Opening (R240, R251 to R255, R264, R267) -/

/-- The earliest entry of a channel that the drive has not started. -/
def State.nextEntry (s : State) (c : Nat) : Option Entry := (s.queueOf c).find? fun e => !e.began

def State.startEntry (s : State) (c : Nat) (e : Entry) : State :=
  s.setQueue c ((s.queueOf c).map fun x => if x = e then { x with began := true } else x)

def State.dropEntry (s : State) (c : Nat) (e : Entry) : State := s.setQueue c ((s.queueOf c).filter fun x => x != e)

/-- The deadline of a waiting request: its ARB_WAIT, or its close if that comes no later (R251, R252). -/
def State.deadline (s : State) (c : Nat) : Nat :=
  let w := (s.drive c).waitEnd
  match s.current c with
  | some e => min w e.fin
  | none => w

/-- Waiting requests in the order of their grants: by deadline, then by channel (R251). -/
def State.waiting (s : State) : List Nat :=
  ((List.range s.nChans).filter fun c => s.chState c == 1).foldl (fun acc c =>
    let d := s.deadline c
    acc.takeWhile (fun x => decide (s.deadline x ≤ d)) ++ c :: acc.dropWhile (fun x => decide (s.deadline x ≤ d))) []

/-- With ARB_WAIT = 0 a request that cannot be granted in its own tick is dropped at once (R252). -/
def State.grantable (s : State) (c : Nat) : Bool :=
  let ahead := s.waiting.takeWhile (· != c)
  let boost := (ahead.filter fun x => s.boostReady && x != c).length
  let fb := (ahead.filter fun x => s.wantsFallback x).length
  s.tokenFree c ((s.inState 2).length + boost) ((s.inState 3).length + fb)

/-- The memory words of a queue entry that hold an error (R313; log entry 22). -/
def State.entryErrs (s : State) (c : Nat) (e : Entry) : List Nat :=
  let lo := 65536 * 9 + 64 * c + 8 * (s.queueOf c).idxOf e
  s.errWords 57 fun w => decide (lo ≤ w ∧ w < lo + 8)

/-- The read of a queue entry; the flag says that it cannot be used, and its words are then written again. -/
def State.entryRead (s : State) (c : Nat) (e : Entry) : State × Bool :=
  let ws := s.entryErrs c e
  let p := s.tableReads ws
  if p.2 then (ws.foldl (fun s w => s.wordWritten 57 w) p.1, true) else p

/-- A firing's open arrives (R240, R251, R252, R255, R264, R267); an entry in error is dropped (R313). -/
def State.openFiring (s : State) (c : Nat) : State :=
  match s.nextEntry c with
  | none => s
  | some e =>
    if s.nChans ≤ c ∨ (s.current c).isSome then s
    else
      let s := s.advance (floor2 e.opn)
      let s := if (s.drive c).closeW then (s.obsEnd c).setDrive c { s.drive c with closeW := false } else s
      let r := s.entryRead c e
      if r.2 then (r.1.dropEntry c e).schedDrop c
      else
      let s := r.1
      match s.openCause c with
      | some k => (s.dropEntry c e).driveDrop c k
      | none =>
        if s.flag (VLV_STAT_CLIMIT c) then
          if e.blindF then (s.startEntry c e).setDrive c { s.drive c with held := true }
          else (s.dropEntry c e).shiftOrDrop c e true
        else
          let s := s.startEntry c e
          if s.get (ARB_PROF_PEAK_IPEAK (s.profOf c)) = 0 then s.gateOn c 4
          else
            let w := s.get ARB_WAIT_US
            let s := (s.setDrive c { s.drive c with waitEnd := s.time + 1000 * w }).enter c 1
            if w = 0 ∧ s.grantable c = false then
              ((s.enter c 0).removeCurrent c).driveDrop c (if s.boostReady then 1 else 2)
            else s

def execFiringOpen (ch : Nat) (s : State) : Host.Outcome State Fault Refusal := ok (s.openFiring ch)

/-- The next waiting request for which a token is free gets it (R250, R251, R253). -/
def State.grantToken (s : State) : State :=
  match s.waiting.find? fun c => s.tokenFree c (s.inState 2).length (s.inState 3).length with
  | some c => s.gateOn c (if s.boostReady then 2 else 3)
  | none => s

def execTokenGrant (s : State) : Host.Outcome State Fault Refusal := ok s.grantToken

/-- A request at its deadline: a token that a tick before has left free is granted, else the firing is dropped (R251,
R252). -/
def State.atDeadline (s : State) (c : Nat) : State :=
  if s.grantable c then s.gateOn c (if s.boostReady then 2 else 3)
  else
    let closed := (s.current c).any fun e => decide (e.fin ≤ (s.drive c).waitEnd)
    ((s.enter c 0).removeCurrent c).driveDrop c (if closed then 6 else if s.boostReady then 1 else 2)

def State.tokenLate (s : State) (c : Nat) : State :=
  if s.chState c = 1 ∧ c < s.nChans then (s.advance (floor2 (s.deadline c))).atDeadline c else s

def execTokenDeadline (ch : Nat) (s : State) : Host.Outcome State Fault Refusal := ok (s.tokenLate ch)

/-! ### Peak and hold (R240 to R242, R266) -/

/-- A peak ends: its token is returned, and its length and highest current are kept. -/
def State.endPeak (s : State) (c ipk : Nat) (pkto : Bool) : State :=
  let k := s.chState c
  let d := s.drive c
  let s := if c = ly then s
    else
      let s := (s.set (VLV_IMEAS_IPK c) (min 255 ipk)).set (VLV_IMEAS_TPK c) (min 10000 (rnd (s.time - d.on) 1000))
      (s.setB (VLV_IMEAS_PKTO c) pkto).setB (VLV_IMEAS_FB c) (k == 3)
  (s.setDrive c { d with after := false }).enter c 5

/-- The current reaches IPEAK (R241). -/
def State.peakDone (s : State) (c : Nat) : State :=
  if s.chState c = 2 ∨ s.chState c = 3 then s.endPeak c (s.drive c).ipeak false else s

def execPeakEnd (ch : Nat) (s : State) : Host.Outcome State Fault Refusal := ok (s.peakDone ch)

/-- An open load ends the firing at once; the third in a row latches the channel (R266). -/
def State.openLoad (s : State) (c : Nat) : State :=
  let d := s.drive c
  let s := s.setDrive c { d with loads := d.loads + 1 }
  let latch := decide (3 ≤ d.loads + 1)
  if c = ly then
    let s := s.gateOff c
    if latch then ((s.set ARB_LYSTAT_FLT 1).set ARB_LYSTAT_FLTCAUSE 3).lyFailed else s
  else
    let s := (s.cutFiring c).bump (VBK_OLCNT_COUNT (bankOf c))
    let s := s.raise (Src.bkOpenLoad (bankOf c))
    if latch then
      ((s.set (VLV_STAT_CHFLT c) 1).set (VLV_STAT_FLTCAUSE c) 3).bump (VLV_FLTCNT_COUNT c)
    else s

/-- A peak reaches its time limit with the highest current `imeas` in 15.625 mA (R241, R266). -/
def State.peakLimit (s : State) (c imeas : Nat) : State :=
  let k := s.chState c
  if k = 2 ∨ k = 3 then
    let d := s.drive c
    let s := s.advance (floor2 (d.on + 1000 * (if k = 3 then d.fbtpmax else d.tpmax)))
    let s := s.endPeak c imeas true
    if 4 * imeas < d.ipeak then s.openLoad c
    else if c = ly then s
    else (s.bump (VBK_PKTOCNT_COUNT (bankOf c))).raise (Src.bkPeakTo (bankOf c))
  else s

def execPeakTimeout (ch imeas : Nat) (s : State) : Host.Outcome State Fault Refusal := ok (s.peakLimit ch imeas)

/-- The decaying current reaches IHOLD (R240, R247). -/
def State.toHold (s : State) (c : Nat) : State :=
  let d := s.drive c
  if s.chState c = 5 ∧ d.after = false then s.enter c 4 else s

def execHoldEntry (ch : Nat) (s : State) : Host.Outcome State Fault Refusal := ok (s.toHold ch)

/-- One channel at the end of a chop period, in which its highest current was `i`: an open load if it held through the
whole period (R266). -/
def State.chopLoad (s : State) (c i : Nat) : State :=
  let d := s.drive c
  if s.chState c ≠ 4 then s
  else if d.whole ∧ 4 * i < d.ihold then s.openLoad c
  else s.setDrive c { d with whole := true }

/-- A chop period of a bank ends and the next begins; `currents` are the highest currents of its channels in the period
that ends, in 2 mA. The supply switch takes up its leader's frequency and duty, and each channel its chop mode (R242,
R247, R248, R266). Bank 16 is LY's. -/
def State.chopEnd (s : State) (b : Nat) (currents : List Nat) : State :=
  let s := (s.chansOn b).foldl (fun s c => s.chopLoad c (currents.getD (c % 8) 0)) s
  s.chopShow b true

def execChopPeriod (bank : Nat) (currents : List Nat) (s : State) : Host.Outcome State Fault Refusal :=
  ok (s.chopEnd bank currents)

/-! ### Closing (R243, R244) -/

/-- A firing has run without an open load: the count of consecutive ones starts again (R266). -/
def State.loadOk (s : State) (c : Nat) : State := s.setDrive c { s.drive c with loads := 0 }

/-- The next entry opens as the executing one closes, and nothing drops it: the channel does not turn off (R244). -/
def State.joins (s : State) (c t : Nat) (n : Entry) : Bool :=
  decide (n.opn = t ∧ s.chState c ≠ 0 ∧ ¬(s.chState c = 5 ∧ (s.drive c).after) ∧ s.openCause c = none)
    && !s.flag (VLV_STAT_CLIMIT c)

/-- The executing entry closes at `t`. A joined entry has no opening detection of its own; the first entry's goes on
(R240, R241, R243, R244). -/
def State.closeAt (s : State) (c t : Nat) : State :=
  let s := s.removeCurrent c
  match s.nextEntry c with
  | some n =>
    if s.joins c t n then (s.startEntry c n).bump (VLV_FIRECNT_COUNT c) else (s.loadOk c).gateOff c
  | none => (s.loadOk c).gateOff c

/-- The close of the executing entry arrives; one that still waits meets its deadline (R240, R243, R252). -/
def State.closeFiring (s : State) (c : Nat) : State :=
  match (s.current c).bind (·.cls) with
  | none => s
  | some t =>
    let s := s.advance (floor2 t)
    let s := if s.chState c = 1 then s.atDeadline c else s
    if (s.current c).isSome then s.closeAt c t else s

def execFiringClose (ch : Nat) (s : State) : Host.Outcome State Fault Refusal := ok (s.closeFiring ch)

/-- The current of a closed channel reaches zero (R240, R243). -/
def State.coilEmpty (s : State) (c : Nat) : State :=
  if s.chState c = 5 ∧ (s.drive c).after then s.enter c 0 else s

def execCurrentZero (ch : Nat) (s : State) : Host.Outcome State Fault Refusal := ok (s.coilEmpty ch)

/-! ### Movement (R256 to R261) -/

def inWindow (t : Nat) (w : Nat × Nat) : Bool := decide (200 * w.1 ≤ t ∧ t ≤ 200 * w.2)

/-- A fall of the coil current after a maximum at `t` (0.1 µs after gate-on), by `fall` mA (R258). -/
def State.openKink (s : State) (c t fall : Nat) : State :=
  let d := s.drive c
  if c < s.nChans ∧ s.moveSrc c = 2 ∧ d.openW ∧ inWindow t d.ow ∧ s.get (VBK_KINK_ITHR (bankOf c)) ≤ fall then
    (s.advance (floor2 (d.on + 100 * t))).openMoved c t
  else s

def execOpeningKink (ch t fall : Nat) (s : State) : Host.Outcome State Fault Refusal := ok (s.openKink ch t fall)

/-- A reversal of the drain voltage's slope at `t` (0.1 µs after gate-off), of `reversal` mV (R258, R259). -/
def State.closeKink (s : State) (c t reversal : Nat) : State :=
  let d := s.drive c
  if c < s.nChans ∧ s.moveSrc c = 2 ∧ d.closeW ∧ inWindow t d.cw ∧ s.get (VBK_KINK_VTHR (bankOf c)) ≤ reversal then
    (s.advance (floor2 (d.off + 100 * t))).closeMoved c t
  else s

def execClosingKink (ch t reversal : Nat) (s : State) : Host.Outcome State Fault Refusal :=
  ok (s.closeKink ch t reversal)

/-- A filtered edge of a position input, seen by every channel that selects it (R257); one outside the window of a
channel's detection is not that detection's (R260; log entry 86). -/
def State.posEdge (s : State) (input : Nat) (level : Bool) : State :=
  let cs := (List.range s.nChans).filter fun c => s.moveSrc c == 1 && s.get (VLV_MOVE_POS c) == input
  cs.foldl (fun s c =>
    let active := level != s.flag (VLV_MOVE_POL c)
    let d := s.drive c
    if active && d.openW && inWindow ((s.time - d.on) / 100) d.ow then s.openMoved c ((s.time - d.on) / 100)
    else if !active && d.closeW && inWindow ((s.time - d.off) / 100) d.cw then s.closeMoved c ((s.time - d.off) / 100)
    else s) s

def execPositionEdge (input : Nat) (level : Bool) (s : State) : Host.Outcome State Fault Refusal :=
  ok (s.posEdge input level)

/-- The opening window ends (R260). -/
def State.openWindow (s : State) (c : Nat) : State :=
  let d := s.drive c
  if c < s.nChans ∧ d.openW then
    let s := (s.advance (floor2 (d.on + 20000 * d.ow.2))).setDrive c { d with openW := false }
    if s.flag (VLV_MOVE_OPENREQ c) then s.notMoved c else s
  else s

def execOpeningWindowEnd (ch : Nat) (s : State) : Host.Outcome State Fault Refusal := ok (s.openWindow ch)

/-- The closing window ends (R259, R260). -/
def State.closeWindow (s : State) (c : Nat) : State :=
  let d := s.drive c
  if c < s.nChans ∧ d.closeW then
    (((s.advance (floor2 (d.off + 20000 * d.cw.2))).obsEnd c).setDrive c { d with closeW := false }).notMoved c
  else s

def execClosingWindowEnd (ch : Nat) (s : State) : Host.Outcome State Fault Refusal := ok (s.closeWindow ch)

/-! ### Coil temperatures (R128, R262 to R265, R269) -/

/-- A channel at its limit during a firing: its gate turns off; the remainder moves or is dropped (R265), or a blind
firing stays closed (R128). -/
def State.limitFiring (s : State) (c : Nat) : State :=
  match s.current c with
  | none => s
  | some e =>
    if e.blindF then (s.gateOff c).setDrive c { (s.gateOff c).drive c with held := true }
    else
      let s := s.cutFiring c
      let o := s.time + 10000
      s.shiftOrDrop c { e with opn := o } (decide (o + 200000 ≤ e.fin))

/-- One channel's temperature, warning and limit (R262, R263). -/
def State.coilStep (s : State) (amb : Int) (c i2 : Nat) : State :=
  let d := s.drive c
  let p := s.coilParams c
  let th := coilNext amb d.theta i2 p.1 p.2.1 p.2.2
  let code := thetaCode th
  let hys := s.get ARB_COILLIM_HYS
  let s := s.setDrive c { d with theta := th }
  if c = ly then
    let was := s.flag ARB_LYSTAT_CLIMIT
    let lim := coilLevel was code (s.get ARB_COILLIM_LIMIT) hys
    let s := (s.set ARB_LYSTAT_TEMP code).setB ARB_LYSTAT_CLIMIT lim
    if lim && s.flag ARB_LYCTRL_ENERGISE then s.lyFailed else s
  else
    let s := (s.set (VLV_COIL_TEMP c) code).set (VLV_COIL_PEAK c) (max code (s.get (VLV_COIL_PEAK c)))
    let s := s.setB (VLV_STAT_CWARN c) (coilLevel (s.flag (VLV_STAT_CWARN c)) code (s.get ARB_COILLIM_WARN) hys)
    let was := s.flag (VLV_STAT_CLIMIT c)
    let lim := coilLevel was code (s.get ARB_COILLIM_LIMIT) hys
    let s := s.setB (VLV_STAT_CLIMIT c) lim
    if lim && !was then (s.raise (Src.coilLimit c)).limitFiring c else s

/-- The 100 µs update; `i2` are the mean square currents of the channels and, last, of LY, in mA². -/
def State.coilUpdate (s : State) (i2 : List Nat) : State :=
  let amb := s.ambient
  let s := (List.range s.nChans).foldl (fun s c => s.coilStep amb c (i2.getD c 0)) s
  s.coilStep amb ly (i2.getD s.nChans 0)

def execCoilThermalUpdate (i2 : List Nat) (s : State) : Host.Outcome State Fault Refusal := ok (s.coilUpdate i2)

/-! ### Protection (R266, R267, R269) -/

/-- A channel fault latches the channel; of LY, it releases the flag (R266, R269). -/
def State.chFault (s : State) (c cause : Nat) : State :=
  if c = ly then (((s.set ARB_LYSTAT_FLT 1).set ARB_LYSTAT_FLTCAUSE cause).gateOff ly).lyFailed
  else if s.nChans ≤ c then s
  else
    let s := ((s.cutFiring c).set (VLV_STAT_CHFLT c) 1).set (VLV_STAT_FLTCAUSE c) cause
    (s.bump (VLV_FLTCNT_COUNT c)).raise (Src.bkChFault (bankOf c))

/-- The low side of a channel is on: peak, fallback peak, hold, or a slow decay (R239). -/
def State.lowOn (s : State) (c : Nat) : Bool := decide (2 ≤ s.chState c ∧ s.chState c ≤ 4) || (s.drive c).slow

def execOvercurrent (ch : Nat) (s : State) : Host.Outcome State Fault Refusal :=
  ok (if s.lowOn ch then s.chFault ch 1 else s)

def execDrainShort (ch : Nat) (s : State) : Host.Outcome State Fault Refusal :=
  ok (if s.lowOn ch then s.chFault ch 2 else s)

/-- A rail fault latches the bank: both switches off, its firings end (R266, R267). Bank 16 is LY's. -/
def State.railFault (s : State) (b : Nat) : State :=
  if b = 16 then ((s.set ARB_LYSTAT_FLT 1).gateOff ly).lyFailed
  else if s.nBanks ≤ b then s
  else
    let s := (s.set (VBK_STAT_BKFLT b) 1).bump (VBK_RSCNT_COUNT b)
    ((bankChans b).foldl (fun s c => if (s.current c).isSome then s.cutFiring c else s) s).raise (Src.bkRailShort b)

/-- The rail is below 70% of its source: a high-side switch is on (R266). -/
def execRailNodeShort (bank : Nat) (s : State) : Host.Outcome State Fault Refusal :=
  ok (if s.rail bank = 0 then s else s.railFault bank)

/-- The rail is above 50% of VVAL with both switches off and no channel of the bank in decay (R266). -/
def execRailStuckHigh (bank : Nat) (s : State) : Host.Outcome State Fault Refusal :=
  ok (if s.rail bank = 0 ∧ (s.chansOn bank).all (fun c => s.chState c != 5) then s.railFault bank else s)

/-- VBST is measured, in 0.1 V (R238, R239); the controller switches by `State.boostRuns`. -/
def State.boostMeas (s : State) (v : Nat) : State :=
  let set := s.get ARB_BOOST_SET
  let was := s.flag ARB_BSTMEAS_OV
  let ov := decide (set + 70 ≤ v) || (was && decide (set + 20 ≤ v))
  let s := ((s.set ARB_BSTMEAS_VBST (min 1023 v)).setB ARB_BSTMEAS_READY
    (decide (s.get ARB_BOOST_READY * set ≤ 100 * v))).setB ARB_BSTMEAS_OV ov
  let s := if ov && !was then (s.set ARB_BSTMEAS_OVSEEN 1).raise Src.boostOv else s
  s.arbShow

def execBoostMeasure (vbst : Nat) (s : State) : Host.Outcome State Fault Refusal := ok (s.boostMeas vbst)

/-! ### Host writes (R245, R267, R269, R270) -/

def State.clearCh (s : State) (c : Nat) : State := (s.set (VLV_STAT_CHFLT c) 0).set (VLV_STAT_FLTCAUSE c) 0

def execVlvClrflt (r : Requester) (ch : Nat) (s : State) : Host.Outcome State Fault Refusal :=
  ok (if ch < s.nChans then s.guardW r (0x8000 + 0x40 * ch) (·.clearCh ch) else s)

def execVbkClrflt (r : Requester) (bank : Nat) (s : State) : Host.Outcome State Fault Refusal :=
  ok (if bank < s.nBanks then s.guardW r (0xA000 + 0x80 * bank) (·.set (VBK_STAT_BKFLT bank) 0) else s)

/-- A test mode without DRIVE holds ARB_CTRL.EN at 0 (R461). -/
def State.testHold (s : State) : State :=
  if s.tmx.mode ≠ 0 ∧ s.flag TMX_TPCTL_DRIVE = false then s.set ARB_CTRL_EN 0 else s

/-- A write of VLV[n]_CTRL, VBK[b]_CTRL or ARB_CTRL; a cleared enable ends the firings concerned (R267). -/
def State.driveEnableW (s : State) (a : Nat) (v : Word) : State :=
  let s := s.writeFlds a v.toNat 0
  let clr := bitOf v.toNat 5
  if 0x8000 ≤ a ∧ a < 0xA000 ∧ a % 0x40 = 0 then
    let c := (a - 0x8000) / 0x40
    if s.nChans ≤ c then s
    else
      let s := if clr then s.clearCh c else s
      if s.flag (VLV_CTRL_EN c) then s else s.disable c
  else if 0xA000 ≤ a ∧ a < 0xA800 ∧ a % 0x80 = 0 then
    let b := (a - 0xA000) / 0x80
    if s.nBanks ≤ b then s
    else
      let s := if bitOf v.toNat 1 then s.set (VBK_STAT_BKFLT b) 0 else s
      if s.flag (VBK_CTRL_EN b) then s else (bankChans b).foldl (fun s c => s.disable c) s
  else if a = 0xA800 then
    let s := s.testHold
    if s.flag ARB_CTRL_EN then s else (List.range s.nChans).foldl (fun s c => s.disable c) s
  else s

/-- DRIVE_ENABLE_WRITE names one of the registers with an enable. -/
def isEnableReg (a : Nat) : Bool :=
  decide ((0x8000 ≤ a ∧ a < 0xA000 ∧ a % 0x40 = 0) ∨ (0xA000 ≤ a ∧ a < 0xA800 ∧ a % 0x80 = 0) ∨ a = 0xA800)

def execDriveEnableWrite (r : Requester) (a : Nat) (v : Word) (s : State) : Host.Outcome State Fault Refusal :=
  ok (if isEnableReg a then s.guardW r a (·.driveEnableW a v) else s)

/-- ARB_LYCTRL.ENERGISE by host software (R270). -/
def State.lyHost (s : State) (on : Bool) : State :=
  if s.sorting then s.set ARB_STAT_WRERR 1 else if on then s.lyOn else s.lyOff

def execLyEnergise (r : Requester) (on : Bool) (s : State) : Host.Outcome State Fault Refusal :=
  ok (s.guardW r 0xAA00 (·.lyHost on))

def execLyClrflt (r : Requester) (s : State) : Host.Outcome State Fault Refusal :=
  ok (s.guardW r 0xAA00 fun s => (s.set ARB_LYSTAT_FLT 0).set ARB_LYSTAT_FLTCAUSE 0)

end Sys2Proof.Machine
end

