-- ==== Sys2Proof/Machine/Supply.lean ====
section
/-! DEFINITION. The VIN and VVAL monitors, the VIN current budget, and the clocks that budget and throttling set (spec/
file 10, R274 to R281, R285, R286). -/

namespace Sys2Proof.Machine

open Reg

def State.setHouse (s : State) (h : House) : State := { s with house := h }

/-! ### Monitors (R274 to R277) -/

/-- A VIN reading in mV as PWR_DIPMIN codes it: 50 mV units above 8.0 V. -/
def dipCode (mv : Nat) : Nat := min 255 ((mv - 8000) / 50)

/-- A VIN reading taken while DIP is set. -/
def State.dipLow (s : State) (mv : Nat) : State := s.set PWR_DIPMIN_V (min (s.get PWR_DIPMIN_V) (dipCode mv))

/-- A change of DIP at the very tick of a frame boundary counts as already made: the frame that began there, and the
slices marked there, take it (R169, R276). -/
def State.dipRedo (s : State) : State :=
  if s.time / 2 = s.frameStart / 2 then
    let d := s.flag PWR_STAT_DIP
    let ctx := s.corr.ctx.map fun c => if c.frame = s.frameCnt then { c with dip := d } else c
    let xs := s.braid.slices.map fun v =>
      if s.started v then { v with dip := d || s.braid.dipWas.contains v.slot } else v
    { s with corr := { s.corr with ctx := ctx }, braid := { s.braid with slices := xs } }
  else s

/-- DIP is set (R275, R276): peak limits are capped and a calibration aborts. -/
def State.dipSetS (s : State) (mv : Nat) : State :=
  if s.flag PWR_STAT_DIP then s.dipLow mv
  else
    let s := (((s.set PWR_STAT_DIP 1).set PWR_STAT_DIPSEEN 1).bump PWR_DIPCNT_COUNT).setPair PWR_DIPLAST_LO_STAMP
      PWR_DIPLAST_HI_STAMP s.time
    ((((s.dipLow mv).raise Src.vinDip).arbShow).dipRedo).calAbort 7

def execDipSet (mv : Nat) (s : State) : Host.Outcome State Fault Refusal := ok (s.dipSetS mv)

/-- DIP clears after 1 ms above the warning-clear threshold; pending triggers are retried (R137, R275). -/
def State.dipClearS (s : State) : State :=
  if s.flag PWR_STAT_DIP then ((s.set PWR_STAT_DIP 0).arbShow).dipRedo.calNext else s

def execDipClear (s : State) : Host.Outcome State Fault Refusal := ok s.dipClearS

def vvalFld : VvalCond → Fld
  | .warn => PWR_STAT_VVALWARN
  | .low => PWR_STAT_VVALLOW
  | .high => PWR_STAT_VVALHIGH

def vvalSrc : VvalCond → Nat
  | .warn => Src.vvalWarn
  | .low => Src.vvalLow
  | .high => Src.vvalHigh

/-- A VVAL condition sets, with its event, or clears (R277). While VVAL is low, firings are dropped, as ARB_STAT shows
(R255). -/
def State.vval (s : State) (c : VvalCond) (on : Bool) : State :=
  let was := s.flag (vvalFld c)
  let s := s.setB (vvalFld c) on
  let s := if c = .low then s.setB ARB_STAT_VVALLOW on else s
  if on && !was then s.raise (vvalSrc c) else s

def execVvalThreshold (c : VvalCond) (on : Bool) (s : State) : Host.Outcome State Fault Refusal := ok (s.vval c on)

/-! ### Clocks (R280, R285, R286) -/

def State.dieStep (s : State) (d : Nat) : Nat := mget 0 s.house.steps d

/-- The module's throttle step: the higher of the two dies' (R285). -/
def State.thermStep (s : State) : Nat := max (s.dieStep 0) (s.dieStep 1)

/-- The heater's power limit in mW: its grant times VIN, at most its floor while throttled, at most 1,500 mW (R55,
R280, R285). -/
def State.heaterLimit (s : State) : State :=
  let floor := 2 * s.get PWR_BUDFLOOR_HEATER
  let ma := if s.thermStep = 0 then s.house.heaterMa else min floor s.house.heaterMa
  let mw := min 1500 (roundDiv (ma * s.get PWR_VIN_VIN) 1000).toNat
  let s := s.set STG_HTRPWR_LIMIT mw
  if mw < s.get STG_HTRPWR_POWER then s.set STG_HTRPWR_POWER mw else s

/-- The tap is enabled, or a TAP_GRAB runs (R385). -/
def State.tapOn (s : State) : Bool := s.isForce ETH_TAPCTL_EN || s.tap.grab.isSome

/-- The clock of the application cluster is stopped, with its state kept: by a thermal shutdown, until its restart
(R287, R288). -/
def State.clusterStopped (s : State) : Bool := s.house.shutdown && s.mode != 0

/-- The LPDDR4X is in self-refresh while the cluster's clock is stopped and the tap is idle (R287, R333). -/
def State.ddrShow (s : State) : State := s.setB MEM_DDRSTAT_SELFREF (s.clusterStopped && !s.tapOn)

/-- The tap is halted: TAP_HALT is raised once on entry (R280, R386). -/
def State.tapHaltShow (s : State) : State :=
  let h := s.tapOn && s.get PWR_CLKDIV_TAPSKIP == 255
  let was := s.flag ETH_TAPSTAT_HALT
  let s := s.setB ETH_TAPSTAT_HALT h
  if h && !was then s.raise Src.tapHalt else s

/-- What budget and throttle step make of the clocks. -/
def State.clockShow (s : State) : State :=
  let k := s.thermStep
  let skip := if k = 2 then max 128 s.house.tapSkip else s.house.tapSkip
  let s := (s.set THM_STAT_STEP k).set PWR_CLKDIV_THMDIV k
  let s := (s.set PWR_CLKDIV_DIV (max k (s.get PWR_CLKDIV_BUDDIV))).set PWR_CLKDIV_TAPSKIP skip
  ((s.setB PWR_CLKDIV_MGTSKIP (k == 2)).heaterLimit).tapHaltShow

/-! ### The budget (R278 to R281) -/

/-- The current of a cluster level in mA: 0 full, 1 ÷2, 2 ÷4. -/
def State.clusterMa (s : State) (k : Nat) : Nat :=
  2 * (if k = 0 then s.get PWR_CLLEVEL_FULL else if k = 1 then s.get PWR_CLLEVEL_DIV2 else s.get PWR_CLLEVEL_DIV4)

/-- The heater's request in mA: 1,500 mW over the measured VIN; with no VIN reading the spec states none (log entry
2). -/
def State.heaterRequest (s : State) : State × Nat :=
  let v := s.get PWR_VIN_VIN
  if v = 0 then
    let p := s.draw
    (p.2, p.1 % 2048)
  else (s, (roundDiv 1500000 v).toNat)

/-- Grants of cluster, tap and heater in mA out of `a` (R279): floors first, then the rests in order. -/
def grantAll (a : Nat) (req floors : List Nat) (order : List Nat) : List Nat :=
  let r := fun i => req.getD i 0
  let f := fun i => min (r i) (floors.getD i 0)
  let p := [0, 2, 1].foldl (fun (p : Nat × List Nat) i =>
    let g := min p.1 (f i)
    (p.1 - g, p.2.set i g)) (a, [0, 0, 0])
  (order.foldl (fun (p : Nat × List Nat) i =>
    let g := min p.1 (r i - p.2.getD i 0)
    (p.1 - g, p.2.set i (p.2.getD i 0 + g))) p).2

/-- What a tap grant becomes (R280): the skip in 1/256, rounded up; 255 is the halt. -/
def tapSkipOf (grant full : Nat) : Nat := if grant = 0 then 255 else min 255 ((256 * (full - grant) + full - 1) / max 1 full)

/-- The fastest cluster level that a grant allows; ÷4 if none fits (R280). -/
def State.levelOf (s : State) (grant : Nat) : Nat :=
  if s.clusterMa 0 ≤ grant then 0 else if s.clusterMa 1 ≤ grant then 1 else 2

/-- The grants in force: over budget the cluster at ÷4, the tap halted, the heater at its floor (R281). -/
def State.applyGrants (s : State) (g : List Nat) : State :=
  let c := g.getD 0 0
  let t := g.getD 1 0
  let h := g.getD 2 0
  let s := ((s.set ARB_GRANT_CLUSTER (min 1023 (c / 2))).set ARB_GRANT_TAP (min 1023 (t / 2))).set ARB_GRANT_HEATER
    (min 1023 (h / 2))
  let s := s.set PWR_CLKDIV_BUDDIV (if s.flag PWR_STAT_OVERBUD then 2 else s.levelOf c)
  (s.setHouse { s.house with heaterMa := h, tapSkip := tapSkipOf t (2 * s.get PWR_TAPMAX_MAX) }).clockShow

/-- The 1 ms evaluation of the budget (R278 to R281); currents in mA. -/
def State.budget (s : State) (iBase iTotal : Nat) : State :=
  let lim := s.get ARB_VINLIM_MA
  let ma := min 4095 iTotal
  let s := (s.set PWR_IVIN_MA ma).set PWR_IVIN_MAX (max ma (s.get PWR_IVIN_MAX))
  let s := s.setHouse { s.house with under := if 100 * iTotal ≤ 95 * lim then s.house.under + 1 else 0 }
  let s :=
    if lim < iTotal then
      let was := s.flag PWR_STAT_OVERBUD
      let s := (s.set PWR_STAT_OVERBUD 1).set PWR_STAT_OVBSEEN 1
      if was then s else s.raise Src.vinOverbudget
    else s
  if s.flag PWR_STAT_OVERBUD then s.applyGrants [s.clusterMa 2, 0, 2 * s.get PWR_BUDFLOOR_HEATER]
  else
    let p := s.heaterRequest
    let s := p.1
    let tap := if s.tapOn then 2 * s.get PWR_TAPMAX_MAX else 0
    let req := [s.clusterMa s.thermStep, tap, p.2]
    let floors := [s.clusterMa 2, 2 * s.get PWR_BUDFLOOR_TAP, 2 * s.get PWR_BUDFLOOR_HEATER]
    s.applyGrants (grantAll (lim - s.get ARB_PIXRES_MA - iBase) req floors
      [s.get PWR_BUDPRIO_FIRST, s.get PWR_BUDPRIO_SECOND, s.get PWR_BUDPRIO_THIRD])

def execBudgetEval (iBase iTotal : Nat) (s : State) : Host.Outcome State Fault Refusal := ok (s.budget iBase iTotal)

/-- The total has stayed 5% below the limit for 10 ms (R281); grants resume at the next evaluation. -/
def State.overRelease (s : State) : State :=
  if s.flag PWR_STAT_OVERBUD && decide (10 ≤ s.house.under) then s.set PWR_STAT_OVERBUD 0 else s

def execOverbudgetRelease (s : State) : Host.Outcome State Fault Refusal := ok s.overRelease

/-- PWR_BUDPRIO: each consumer once (R279, file 10). -/
def State.budprioW (s : State) (v : Word) : State :=
  let a := fldOf PWR_BUDPRIO_FIRST v
  let b := fldOf PWR_BUDPRIO_SECOND v
  let c := fldOf PWR_BUDPRIO_THIRD v
  if a = 3 ∨ b = 3 ∨ c = 3 ∨ a = b ∨ b = c ∨ a = c then s.set PWR_STAT_WRERR 1
  else ((s.set PWR_BUDPRIO_FIRST a).set PWR_BUDPRIO_SECOND b).set PWR_BUDPRIO_THIRD c

def execPwrBudprioWrite (r : Requester) (v : Word) (s : State) : Host.Outcome State Fault Refusal :=
  ok (s.guardW r 0x1020 (·.budprioW v))

end Sys2Proof.Machine
end

