-- ==== Sys2Proof/Machine/Safe.lean ====
section
/-! DEFINITION. The safe state, thermal shutdown, and what FAULT_N shows (spec/ file 17, R438 to R441; R287). -/

namespace Sys2Proof.Machine

open Reg

/-- Valves, LY, bank switches and boost go off, queues empty (R287, R439); RUN and ARB_CTRL.EN clear (R427). -/
def State.driveDown (s : State) : State := ((s.allOff.lyOff.set GLB_CTRL_RUN 0).set ARB_CTRL_EN 0).arbShow

/-- The pipeline stops and bias goes at the next frame boundary. -/
def State.pipelineDown (s : State) : State := { s with sensor := { s.sensor with removeBias := true } }

/-- The outputs of the loops that a state holds low (R311): both in the safe state, the preheat ones in shutdown. -/
def State.loopsDown (s : State) (both : Bool) : State :=
  { s with loops := { s.loops with high := if both then 0 else andNot s.loops.high 15 } }

/-- The safe state is entered, or gets a further cause (R438, R439, R441). -/
def State.enterSafe (s : State) (cause : Nat) : State :=
  let s := s.setBit GLB_SAFECAUSE_CAUSES cause
  if s.mode = 4 then s.faultShow
  else
    let s := (s.set GLB_STAT_STATE 4).bump GLB_SAFECAUSE_COUNT
    (((s.driveDown.loopsDown true).calAbortW).pipelineDown).faultShow

/-- A die enters shutdown (R287). STATE is 4 when the safe state applies too (R441). -/
def State.thermalDown (s : State) : State :=
  let s := { s with house := { s.house with shutdown := true } }
  let s := ((s.set THM_STAT_SDSEEN 1).bump THM_SDCNT_COUNT).ddrShow
  let s := s.record 0x808 0 (s.word 0x1404) 0
  if s.mode = 1 ∨ s.mode = 2 ∨ s.mode = 3 then
    ((((s.set GLB_STAT_STATE 5).driveDown.loopsDown false).calAbortW).pipelineDown).faultShow
  else s.faultShow

def execGlbCtrlSafe (r : Requester) (s : State) : Host.Outcome State Fault Refusal := ok (s.guardW r 0x10 (·.enterSafe 0))

/-- A firmware fault (R438 bit 3). -/
def State.fwFault (s : State) : State := (s.raise Src.fwFault).enterSafe 3

def execFirmwareFault (s : State) : Host.Outcome State Fault Refusal := ok s.fwFault

end Sys2Proof.Machine
end

