-- ==== Sys2Proof/Machine/ChainOps.lean ====
section
/-! DEFINITION. The chain: links, TIME and pulses, orphans, mastership, grants, echoes (spec/ file 16; R436, R437). -/

namespace Sys2Proof.Machine

open Reg

def State.setChain (s : State) (c : Chain) : State := { s with chain := c }

def State.chainState (s : State) : Nat := s.get CHN_STAT_STATE
def State.chainIndex (s : State) : Nat := s.get CHN_STAT_INDEX

/-- The neighbour over a formed link. -/
def State.side (s : State) (p : ChainPort) : Option LinkInfo :=
  match p with
  | .low => s.chain.low
  | .high => s.chain.high

def otherPort : ChainPort → ChainPort
  | .low => .high
  | .high => .low

/-- Send a message where a link is formed. -/
def State.chainSend (s : State) (p : ChainPort) (m : ChainMsg) : State :=
  if (s.side p).isSome then s.emit (.chain p m) else s

/-- CHN_STAT.MEMBERS: what this module knows, itself, its master and its neighbours (log entry 41). -/
def State.membersShow (s : State) : State :=
  let live := s.chainState = 1 ∨ s.chainState = 2
  let near := fun (n : Option LinkInfo) => match n with
    | some i => if i.orphan then 0 else (match i.index with
      | some k => 2 ^ k
      | none => 0)
    | none => 0
  s.set CHN_STAT_MEMBERS (if live then
    2 ^ s.chainIndex ||| 2 ^ s.get CHN_STAT_MSTIDX ||| near s.chain.low ||| near s.chain.high else 0)

def State.setChainState (s : State) (v : Nat) : State := (s.set CHN_STAT_STATE v).membersShow

/-! ### Start of the chain ports (R412, R413, R436, R437) -/

/-- A run of chain time begins with this module (R437). -/
def State.ownRun (s : State) : State := s.set CHN_RUN_RUN (s.get GLB_RSTCAUSE_BOOTS)

/-- The chain ports start: a module of SIZE 1 is alone, any other listens for 100 ms as an orphan. -/
def State.chainStart (s : State) : State :=
  let n := s.get CHN_CFG_SIZE
  let n := if n = 0 ∨ 8 < n then 1 else n
  let s := s.setChain { s.chain with size := n, listening := n != 1 }
  let s := s.ownRun
  if n = 1 then (s.set GLB_STAT_UNSYNC 0).setChainState 0 else (s.set GLB_STAT_UNSYNC 1).setChainState 3

/-- Straps set in the chain, as far as the links tell. -/
def State.strapsSeen (s : State) : Nat :=
  let of := fun (n : Option LinkInfo) => (n.map LinkInfo.straps).getD 0
  (if s.fuses.strap then 2 ^ s.chainIndex else 0) ||| of s.chain.low ||| of s.chain.high

/-- This module becomes the master of R413. -/
def State.becomeMaster (s : State) : State :=
  (((s.set CHN_STAT_MSTIDX s.chainIndex).set GLB_STAT_UNSYNC 0).setChainState 2).grantShow

/-- 100 ms have passed without TIME messages: the master is chosen by the straps (R413, R436). -/
def State.listenEnd (s : State) : State :=
  if !s.chain.listening then s
  else
    let s := s.setChain { s.chain with listening := false }
    if s.chain.next.isSome then s
    else
      let straps := onesOf 8 s.strapsSeen
      match straps.head? with
      | none => if s.chainIndex = 0 then s.ownRun.becomeMaster else s
      | some i =>
        if i = s.chainIndex then s.ownRun.becomeMaster
        else if s.fuses.strap then s.set CHN_STAT_MSTCONF 1 else s

def execChainListenTimeout (s : State) : Host.Outcome State Fault Refusal := ok s.listenEnd

/-! ### Losing the chain (R137, R418) -/

/-- A calibration that loses the chain: in the grant phase its request is withdrawn, later its result carries ORPHAN
(R119, R137). -/
def State.calOrphaned (s : State) : State :=
  let p := s.calPhase
  if p = 1 then ((s.dropGrant.pendTrig s.cal.served).setPhase 0).calNext
  else if 2 ≤ p ∧ p ≤ 7 then { s with cal := { s.cal with orphan := true } }
  else s

/-- A member becomes an orphan (R418). -/
def State.becomeOrphan (s : State) : State :=
  if s.chainState ≠ 1 then s
  else
    let s := s.setChain { s.chain with next := none, heard := false, good := 0, slew := 0, handover := none, given := none,
                                       rateNext := none }
    let s := ((s.set CHN_STAT_HITCH 0).set GLB_STAT_UNSYNC 1).setChainState 3
    ((s.raise Src.orphan).bump CHN_ORPHANCNT_COUNT).calOrphaned

def execChnResync (r : Requester) (s : State) : Host.Outcome State Fault Refusal := ok (s.guardW r 0xC800 (·.becomeOrphan))

/-- Two consecutive pulses are missing (R418); an orphan counts its valid pulses anew. -/
def execChainPulseMissing (s : State) : Host.Outcome State Fault Refusal :=
  ok (if s.chainState = 1 then s.becomeOrphan else s.setChain { s.chain with good := 0, heard := false })

/-! ### Links (R412, R414) -/

/-- This module's overlap at a port; an odd value is reduced by 1. -/
def State.overlapAt (s : State) (p : ChainPort) : Nat :=
  match p with
  | .low => s.get CHN_SPLICE_LW / 2 * 2
  | .high => s.get CHN_SPLICE_HW / 2 * 2

/-- The index and offset that the neighbour at port L gives (R412, R414). -/
def State.takeIndex (s : State) (i : LinkInfo) : State :=
  match i.index with
  | some k =>
    if 7 ≤ k then s.raise Src.chnLinkErr
    else ((s.set CHN_STAT_INDEX (k + 1)).set GLB_STAT_CHIDX (k + 1)).set CHN_OFFSET_LANE0 (i.offset + i.lanes - i.overlap)
  | none => s

/-- A link comes up: overlaps are compared, the index taken, the delay measured (R412, R414, R415). -/
def State.linkUp (s : State) (p : ChainPort) (i : LinkInfo) : State :=
  if s.chain.size ≤ 1 then s
  else
    let s := match p with
      | .low => s.set CHN_STAT_LLINK 1
      | .high => s.set CHN_STAT_HLINK 1
    if i.overlap = s.overlapAt p then
      match p with
      | .low =>
        let s := s.setChain { s.chain with low := some i, lowBad := false }
        ((s.takeIndex i).chainSend .low .echo).membersShow
      | .high =>
        let s := s.setChain { s.chain with high := some i, highBad := false }
        (s.chainSend .high .echo).membersShow
    else
      let s := match p with
        | .low => s.setChain { s.chain with low := none, lowBad := true }
        | .high => s.setChain { s.chain with high := none, highBad := true }
      (s.set CHN_STAT_SPLICEERR 1).raise Src.chnLinkErr

/-- A link that comes up is trained first; one that fails training stays down and raises CHN_LINKERR (R479). -/
def State.linkTrain (s : State) (p : ChainPort) (i : Option LinkInfo) : State :=
  match i with
  | some i => s.linkUp p i
  | none => if s.chain.size ≤ 1 then s else s.raise Src.chnLinkErr

def execChainLinkUp (p : ChainPort) (i : Option LinkInfo) (s : State) : Host.Outcome State Fault Refusal :=
  ok (s.linkTrain p i)

/-- The requests of modules beyond a lost link leave the master's queue (R421). -/
def State.dropBeyond (s : State) (p : ChainPort) : State :=
  let keep := s.chain.grants.filter fun g => match p with
    | .low => decide (s.chainIndex ≤ g.2)
    | .high => decide (g.2 ≤ s.chainIndex)
  (s.setChain { s.chain with grants := keep }).grantShow

/-- A port loses its link (R412, R418, R421). -/
def State.linkDown (s : State) (p : ChainPort) : State :=
  if s.chain.size ≤ 1 then s
  else
    let toMaster := p == s.portMaster
    let s := match p with
      | .low => (s.setChain { s.chain with low := none, lowBad := false }).set CHN_STAT_LLINK 0
      | .high => (s.setChain { s.chain with high := none, highBad := false }).set CHN_STAT_HLINK 0
    let s := if s.chainState = 2 then s.dropBeyond p else if toMaster then s.becomeOrphan else s
    s.membersShow

def execChainLinkDown (p : ChainPort) (s : State) : Host.Outcome State Fault Refusal := ok (s.linkDown p)

/-! ### TIME and pulses (R415 to R417) -/

/-- The measured delay of a link in ns. -/
def State.linkDelay (s : State) (p : ChainPort) : Nat :=
  match p with
  | .low => s.get CHN_DELAY_L
  | .high => s.get CHN_DELAY_H

/-- A rate that the master announces or runs at; a new one starts a computation of the tables (R42, R159, R417). -/
def State.takeRate (s : State) (m : TimeMsg) : State :=
  let asked := s.get STG_FRATE_RATE
  let s := match m.pendingRate with
    | some v => (s.setChain { s.chain with rateNext := some (v, m.time + 1000) }).set STG_FRATE_RATE v
    | none =>
      if m.rate = s.sensor.rate then s.set STG_FRATE_RATE m.rate
      else (s.setChain { s.chain with rateNext := some (m.rate, m.time - 2000) }).set STG_FRATE_RATE m.rate
  if s.get STG_FRATE_RATE = asked then s else s.askTables

/-- The neighbour at a port tells whether it is an orphan (R411, R424). -/
def State.markOrphan (s : State) (p : ChainPort) (orphan : Bool) : State :=
  match p with
  | .low => s.setChain { s.chain with low := s.chain.low.map fun i => { i with orphan := orphan } }
  | .high => s.setChain { s.chain with high := s.chain.high.map fun i => { i with orphan := orphan } }

/-- A TIME message arrives over a formed link; a member adopts RUN and the rate and passes the message on (R415,
R417, R437). One from an orphan gives no timing (R418). -/
def State.timeMsg (s : State) (m : TimeMsg) : State :=
  if s.chain.size ≤ 1 ∨ (s.side m.port).isNone then s
  else if m.state = 3 ∨ s.chainState = 2 then (s.markOrphan m.port (m.state == 3)).membersShow
  else
    let s := s.markOrphan m.port false
    let s := s.setChain { s.chain with next := some m, heard := true }
    if s.chainState = 1 then
      let s := ((s.set CHN_STAT_MSTIDX m.master).set CHN_RUN_RUN m.run).takeRate m
      let p := otherPort m.port
      (s.chainSend p (.time { m with port := p, sender := s.chainIndex, state := 1 })).membersShow
    else s

def execTimeMessage (crc : Bool) (m : TimeMsg) (s : State) : Host.Outcome State Fault Refusal :=
  ok (s.chainMsg crc (·.timeMsg m))

/-- A difference of more than 6 ns and up to 1 µs (R416). -/
def State.hitch (s : State) (d : Int) : State :=
  let s := s.setChain { s.chain with slew := -(d / 2) }
  (((s.bump CHN_HITCHCNT_COUNT).setS CHN_HITCHD_D d).set CHN_STAT_HITCH 1).raise Src.hitch

/-- A member compares its counter with the compensated chain time (R416); d is its own time less that of the chain. -/
def State.compareTime (s : State) (t : Nat) : State :=
  let d : Int := (floor2 s.time : Int) - floor2 t
  if d.natAbs ≤ 6 then { s with time := floor2 t }
  else if d.natAbs ≤ 1000 then s.hitch d
  else s.becomeOrphan

/-- A pulse arrives: with no TIME message before it, it tells nothing (R415, R416, R419). -/
def State.syncPulse (s : State) (p : ChainPort) : State :=
  match s.chain.next with
  | none => s
  | some m =>
    if s.chain.size ≤ 1 ∨ s.chainState = 2 ∨ m.port ≠ p then s
    else if !s.chain.heard then s.setChain { s.chain with good := 0 }
    else
      let s := s.setChain { s.chain with heard := false, good := s.chain.good + 1 }
      if s.chainState = 1 then (s.compareTime (m.time + s.linkDelay p)).chainSend (otherPort p) .pulse
      else s

def execChainSyncPulse (p : ChainPort) (s : State) : Host.Outcome State Fault Refusal := ok (s.syncPulse p)

/-- 1 µs of a slew: one 2 ns step (R416). -/
def State.slewStep (s : State) : State :=
  let k := s.chain.slew
  if k = 0 then s
  else
    let s := { s with time := if 0 < k then s.time + 1002 else s.time + 998 }
    let k' := if 0 < k then k - 1 else k + 1
    let s := s.setChain { s.chain with slew := k' }
    if k' = 0 then s.set CHN_STAT_HITCH 0 else s

def execHitchSlewStep (s : State) : Host.Outcome State Fault Refusal := ok s.slewStep

/-- The ECHO that this module sent is back: half its round trip, to 2 ns (R415). -/
def State.echoBack (s : State) (p : ChainPort) (roundTrip : Nat) : State :=
  if (s.side p).isNone then s
  else
    match p with
    | .low => s.set CHN_DELAY_L (floor2 (roundTrip / 2))
    | .high => s.set CHN_DELAY_H (floor2 (roundTrip / 2))

def execEcho (crc : Bool) (p : ChainPort) (roundTrip : Nat) (s : State) : Host.Outcome State Fault Refusal :=
  ok (s.chainMsg crc (·.echoBack p roundTrip))

/-- Every second each link's delay is measured again (R415). -/
def execEchoPeriod (s : State) : Host.Outcome State Fault Refusal := ok ((s.chainSend .low .echo).chainSend .high .echo)

/-! ### Mastership (R413) -/

/-- This module asks for mastership; refused unless it is a member and no HANDOVER is in progress. -/
def State.askMaster (s : State) : State × Bool :=
  if s.chainState ≠ 1 ∨ s.chain.handover.isSome then (s, false)
  else
    let s := s.setChain { s.chain with handover := some (s.frameAfter 2, s.chainIndex) }
    (s.chainSend s.portMaster (.handover s.chainIndex none), true)

def execTakemst (r : Requester) (s : State) : Host.Outcome State Fault Refusal :=
  ok (s.guardW r 0xC800 fun s => s.askMaster.1)

/-- The new master takes over the grant queue, the grant in force and ETH_PTPOFS (R413). -/
def State.takeGiven (s : State) : State :=
  match s.chain.given with
  | none => s
  | some g =>
    let s := s.setChain { s.chain with given := none, grants := g.grants, holder := g.holder, released := g.released }
    let s := (s.set ETH_PTPOFS_LO_OFS (g.ofs % 2 ^ 32)).set ETH_PTPOFS_HI_OFS (g.ofs / 2 ^ 32)
    (s.setB ETH_PTPSTAT_OFSVALID g.ofsValid).grantPump

/-- What this module leaves to the next master. -/
def State.givesUp (s : State) : Mastership :=
  ⟨s.chain.grants, s.chain.holder, s.chain.released, s.get ETH_PTPOFS_LO_OFS + 2 ^ 32 * s.get ETH_PTPOFS_HI_OFS,
   s.flag ETH_PTPSTAT_OFSVALID⟩

/-- HANDOVER reaches the master, or passes a member on its way; what the old master leaves comes back with it to the
module that asked (R411, R413; log entry 99). -/
def State.handoverMsg (s : State) (sender : Nat) (give : Option Mastership) : State :=
  match give with
  | some g =>
    if sender = s.chainIndex then
      let s := s.setChain { s.chain with given := some g }
      if s.chainState = 2 then s.takeGiven else s
    else if s.chainState = 1 then s.chainSend (s.portTo sender) (.handover sender give)
    else s
  | none =>
    if s.chainState = 2 then
      if s.chain.handover.isSome then s else s.setChain { s.chain with handover := some (s.frameAfter 2, sender) }
    else if s.chainState = 1 then s.chainSend s.portMaster (.handover sender none)
    else s

def execHandover (crc : Bool) (sender : Nat) (give : Option Mastership) (s : State) :
    Host.Outcome State Fault Refusal := ok (s.chainMsg crc (·.handoverMsg sender give))

/-- The transfer at a frame boundary (R413). -/
def State.masterStep (s : State) : State :=
  match s.chain.handover with
  | none => s
  | some (due, i) =>
    if !s.reached due then s
    else
      let s := s.setChain { s.chain with handover := none }
      if i = s.chainIndex then s.becomeMaster.takeGiven
      else
        let s := s.chainSend (s.portTo i) (.handover i (some s.givesUp))
        let s := s.setChain { s.chain with grants := [], holder := none }
        ((s.set CHN_STAT_MSTIDX i).setChainState 1).grantShow

/-- The master sends TIME and then the pulse on both ports at a frame boundary (R415, R417). -/
def State.masterSend (s : State) : State :=
  if s.chainState ≠ 2 then s
  else
    let rate := s.sensor.staged.findSome? fun x => match x.what with
      | .frate v => if x.due = some (s.frameAfter 1) then some v else none
      | _ => none
    let m := fun p => ChainMsg.time
      { port := p, time := s.time, frameCount := s.frameCnt, rate := s.sensor.rate, sender := s.chainIndex, state := 2,
        master := s.chainIndex, pendingRate := rate, run := s.get CHN_RUN_RUN }
    (((s.chainSend .low (m .low)).chainSend .high (m .high)).chainSend .low .pulse).chainSend .high .pulse

/-! ### Grants (R420, R421) -/

/-- A message for the master, or one that this module passes on toward it. -/
def State.toMaster (s : State) (m : ChainMsg) (f : State → State) : State :=
  if s.chainState = 2 then f s else if s.chainState = 1 then s.chainSend s.portMaster m else s

def execGrantReq (crc : Bool) (sender stamp : Nat) (s : State) : Host.Outcome State Fault Refusal :=
  ok (s.chainMsg crc (·.toMaster (.grantReq sender stamp) (·.queueGrant sender stamp)))

def execRelease (crc : Bool) (sender : Nat) (s : State) : Host.Outcome State Fault Refusal :=
  ok (s.chainMsg crc (·.toMaster (.release sender) (·.endGrant sender)))

/-- A GRANT for this module, or for one further on. -/
def State.grantMsg (s : State) (target boundary : Nat) : State :=
  if target = s.chainIndex then (if s.chain.asked then s.takeGrant boundary else s)
  else if s.chainState = 1 then s.chainSend (s.portTo target) (.grant target boundary)
  else s

def execGrant (crc : Bool) (target boundary : Nat) (s : State) : Host.Outcome State Fault Refusal :=
  ok (s.chainMsg crc (·.grantMsg target boundary))

/-- A grant held longer than MAX is freed (R421). -/
def State.grantMax (s : State) : State :=
  match s.chain.holder with
  | some (_, since) =>
    let s := s.advance (floor2 (since + s.get CHN_GRANTCFG_MAX * 1000000))
    let s := s.setChain { s.chain with holder := none, released := s.time + 1 }
    (s.raise Src.grantTo).grantPump
  | none => s

def execGrantMaxTimeout (s : State) : Host.Outcome State Fault Refusal := ok s.grantMax

end Sys2Proof.Machine
end

