-- ==== Sys2Proof/Machine/Hka.lean ====
section
/-! DEFINITION. The housekeeping converter: sequencer, results, engineering values, RTD, self-calibration (spec/ file
10, R294 to R298). -/

namespace Sys2Proof.Machine

open Reg

/-- An entry as its register holds it now (R295). -/
def State.hkaSeq (s : State) (e : Nat) : HkaEntry :=
  ⟨s.get (HKA_SEQ_CH e), s.get (HKA_SEQ_REP e), s.get (HKA_SEQ_DELAY e), s.get (HKA_SEQ_AVG e), s.get (HKA_SEQ_GAIN e)⟩

/-- The entry that runs, as it stood when the sequencer reached it: the first one when EN was set (R295). -/
def State.hkaEntry (s : State) : HkaEntry := s.house.entry.getD (s.hkaSeq (s.get HKA_STAT_POS))

/-- The sequencer goes to its next entry, or counts a result of this one (R295). -/
def State.hkaNext (s : State) (e : HkaEntry) : State :=
  if s.house.reps < e.rep then s.setHouse { s.house with entry := some e, reps := s.house.reps + 1 }
  else
    let p := s.get HKA_STAT_POS
    let last := s.house.last.getD (s.get HKA_CTRL_LAST)
    let wrap := decide (last ≤ p)
    let p := if wrap then 0 else p + 1
    let s := s.set HKA_STAT_POS p
    s.setHouse { s.house with entry := some (s.hkaSeq p), reps := 0, prev := some (e.ch, e.gain),
                              last := if wrap then some (s.get HKA_CTRL_LAST) else some last }

/-- A result that includes an invalid conversion (R296): `reps` results of the entry came before it. -/
def State.hkaInvalid (s : State) (e : HkaEntry) : Bool :=
  let before := s.house.reps * 2 ^ e.avg
  let chNew := s.house.prev.all fun p => p.1 != e.ch
  let gainNew := s.house.prev.all fun p => p.2 != e.gain
  (chNew && decide (e.delay < s.get (HKA_MINSETTLE_US e.ch)) && before == 0) || (gainNew && decide (before < 2))

/-- The mean of the conversions in Q12.4, gain and offset factors applied, cut to the format (R295; log entry 8). -/
def State.hkaValue (s : State) (codes : List Int) : Nat :=
  let n := max 1 codes.length
  let g : Int := s.get HKA_CALGAIN_GAIN
  clampN 65535 (roundDiv (16 * (g * sumI codes + 16384 * n * s.getS HKA_CALOFS_OFS)) (16384 * n))

/-- AINi's engineering value: VALUE × SCALE + OFS; a value outside the format is open (log entry 2). -/
def State.ainShow (s : State) (i v : Nat) : State :=
  let x := roundDiv ((v : Int) * s.getS (HKA_AINSC_SCALE i)) 65536 + s.getS (HKA_AINSC_OFS i)
  if -32768 ≤ x ∧ x ≤ 32767 then s.set (HKA_AINENG_VALUE i) (unsgn 16 x)
  else
    let p := s.draw
    p.2.set (HKA_AINENG_VALUE i) p.1

/-- A measurement window of the gain refresh records T_RTD (R144). -/
def State.grefRtd (s : State) (t : Nat) : State :=
  let g := s.gref
  match g.phase with
  | .window1 => { s with gref := { g with rtdN1 := g.rtdN1 + 1, rtdSum1 := g.rtdSum1 + t } }
  | .window2 => { s with gref := { g with rtdN2 := g.rtdN2 + 1, rtdSum2 := g.rtdSum2 + t } }
  | _ => s

/-- A valid RTD result (R144, R298, R305, R307). -/
def State.rtdResult (s : State) (t : Nat) : State :=
  let range := decide (t < 50000 ∨ 350000 < t)
  let s := ((s.set HKA_RTDTEMP_TEMP t).setB HKA_RTDTEMP_RANGE range).setB HKA_RTDTEMP_VALID (!range)
  if range then s
  else ((s.bkReading t).grefRtd t).bkLimit t

/-- The resistance of a platinum sensor at `t` m°C over that at 0 °C, times 10^27, by the Callendar-Van Dusen equation of
IEC 60751 (R298; log entry 88). -/
def rtdRatio (t : Int) : Int :=
  let c : Int := if t < 0 then 4183 * (t - 100000) * t ^ 3 else 0
  10 ^ 27 + 39083 * t * 10 ^ 17 - 5775 * t ^ 2 * 10 ^ 11 - c

/-- The highest code of HKA_RTDTEMP, from 20 bits down, whose resistance does not exceed `r` mΩ; `r0` is the resistance
at 0 °C in Ω. Codes count m°C from −100 °C. -/
def rtdCode (r r0 : Nat) : Nat :=
  ((List.range 20).reverse).foldl (fun (c i : Nat) =>
    let d : Nat := c + 2 ^ i
    if ((r0 * 1000 : Nat) : Int) * rtdRatio ((d : Int) - 100000) ≤ (r : Int) * 10 ^ 27 then d else c) 0

/-- What a valid result of a channel gives beside HKA_RES (R294, R298). -/
def State.hkaUse (s : State) (e : HkaEntry) (v : Nat) : State :=
  if e.ch = 0 then
    let mv := Config.hkaReading [0, v, e.gain] % 65536
    let s := s.set PWR_VIN_VIN mv
    if s.flag PWR_STAT_DIP then s.dipLow mv else s
  else if e.ch = 1 then s.set PWR_VIN_VVAL (Config.hkaReading [1, v, e.gain])
  else if e.ch = 23 then
    if s.flag HKA_RTD_EN then
      s.rtdResult (rtdCode (Config.hkaReading [23, v, e.gain, s.get HKA_RTD_TYPE, s.get HKA_RTD_FOURW])
        (if s.flag HKA_RTD_TYPE then 1000 else 100))
    else s
  else if 24 ≤ e.ch then s.ainShow (e.ch - 24) v
  else s

/-- A result of the sequencer (R295, R296). -/
def State.hkaResult (s : State) (codes : List Int) : State :=
  if !s.flag HKA_CTRL_EN || s.flag HKA_STAT_SCALBUSY then s
  else
    let e := s.hkaEntry
    let inv := s.hkaInvalid e
    let s := (s.incr (HKA_RES_COUNT e.ch)).setB (HKA_RES_LASTINV e.ch) inv
    let s :=
      if inv then s.set HKA_STAT_INVSEEN 1
      else
        let v := s.hkaValue codes
        ((s.set (HKA_RES_VALUE e.ch) v).set (HKA_RES_VALID e.ch) 1).hkaUse e v
    s.hkaNext e

def execHkaConversion (codes : List Int) (s : State) : Host.Outcome State Fault Refusal := ok (s.hkaResult codes)

/-- No valid RTD result for 100 ms (R298). -/
def execRtdStale (s : State) : Host.Outcome State Fault Refusal := ok (s.set HKA_RTDTEMP_VALID 0)

/-- The sequencer resumes its entry from the start, which counts as changing channel and gain (R296). -/
def State.hkaFresh (s : State) : State :=
  s.setHouse { s.house with entry := some s.hkaEntry, reps := 0, prev := none,
                            last := some (s.house.last.getD (s.get HKA_CTRL_LAST)) }

/-- Self-calibration begins: the sequencer pauses (R297). -/
def State.hkaScal (s : State) : State :=
  if s.flag HKA_STAT_SCALBUSY then s else s.set HKA_STAT_SCALBUSY 1

def execHkaScalStart (r : Requester) (s : State) : Host.Outcome State Fault Refusal := ok (s.guardW r 0x1800 (·.hkaScal))

/-- Self-calibration ends (R297). -/
def State.hkaScalEnd (s : State) (gain ofs : Nat) : State :=
  if s.flag HKA_STAT_SCALBUSY then
    let s := ((s.set HKA_CALGAIN_GAIN gain).set HKA_CALOFS_OFS ofs).set HKA_STAT_SCALBUSY 0
    ((s.set HKA_STAT_SCALDONE 1).hkaFresh).opFinish 0x0305 0 []
  else s

def execHkaScalDone (gain ofs : Nat) (s : State) : Host.Outcome State Fault Refusal := ok (s.hkaScalEnd gain ofs)

/-- An aborted self-calibration keeps the factors, and the sequencer resumes (R372). -/
def State.hkaScalAbort (s : State) : State := ((s.set HKA_STAT_SCALBUSY 0).hkaFresh).opFinish 0x0305 3 []

/-- HKA_CTRL (R295, R297). -/
def State.hkaCtrlW (s : State) (v : Nat) : State :=
  let was := s.flag HKA_CTRL_EN
  let s := s.writeFlds 0x1800 v 0
  let s := if s.flag HKA_CTRL_EN && !was then
      (s.set HKA_STAT_POS 0).setHouse { s.house with entry := some (s.hkaSeq 0), reps := 0, prev := none,
                                                     last := some (s.get HKA_CTRL_LAST) } else s
  if bitOf v 1 then s.hkaScal else s

end Sys2Proof.Machine
end

