-- ==== Sys2Proof/Machine/MemTest.lean ====
section
/-! DEFINITION. The background memory test and retention (spec/ file 12, R324 to R331). -/

namespace Sys2Proof.Machine

open Reg

/-- Words of a bank (R312). -/
def bankWords (b : Nat) : Nat :=
  if b < 32 then 12288 else if b < 48 then 43648 else if b = 48 then 131072 else if b = 49 then 65536
  else if b = 50 then 262144 else if b < 55 then 16384 else if b = 55 then 65536 else 131072

/-- Data bits of a bank's word, and check bits (R312). -/
def bankData (b : Nat) : Nat :=
  if b < 32 ∨ b = 55 then 32 else if b < 48 then 72 else if b = 48 then 16 else 64

def bankCheck (b : Nat) : Nat := if b < 32 ∨ b = 55 then 7 else if b = 48 then 6 else 8

def bankBights (b : Nat) : Nat := bankWords b / 32

/-- The tester passes over a bank: masked, in retention, or absent on the variant (R326). -/
def State.bankSkipped (s : State) (b : Nat) : Bool :=
  let masked := if b < 32 then !bitOf (s.get MEM_TESTMASK_LO_EN) b else !bitOf (s.get MEM_TESTMASK_HI_EN) (b - 32)
  let kept := match retGroupOf b with
    | some g => bitOf (s.get MEM_RETSTAT_RET) g
    | none => false
  masked || kept || (s.fuses.nk1024 && decide (16 ≤ b ∧ b < 32))

def State.testAt (s : State) (bank bight : Nat) : State :=
  { s with mem := { s.mem with bank := bank, bight := bight, aborts := 0 } }

/-- On to the next bank; after the last one a pass is complete (R326). -/
def State.nextBank (s : State) : State :=
  if s.mem.bank < 56 then s.testAt (s.mem.bank + 1) 0 else (s.testAt 0 0).incr MEM_TESTPASS_COUNT

/-- On to the first bank at or after the present one that is tested. -/
def State.skipBanks (s : State) : Nat → State
  | 0 => s
  | n + 1 => if s.bankSkipped s.mem.bank then State.skipBanks s.nextBank n else s

/-- On to the next bight. -/
def State.nextBight (s : State) : State :=
  if s.mem.bight + 1 < bankBights s.mem.bank then s.testAt s.mem.bank (s.mem.bight + 1) else s.nextBank

/-! ### Conditions (R325) -/

/-- The next release of row group `g` of a tile: the end of its transmit slot in this frame or the next, plus TXDLY
(180 ns, its typical value: log entry 42) and 16 word times (R84). -/
def State.nextRelease (s : State) (g : Nat) : Nat :=
  let at' := fun k => s.slotAt k (g + 2) + 180 + 211
  if s.time < at' s.sensor.gridK then at' s.sensor.gridK else at' (s.sensor.gridK + 1)

/-- The pipeline has visited a tile's row group in this frame, and its next release is at least 2 µs away. -/
def State.groupAway (s : State) (n g : Nat) : Bool :=
  s.tileReached n s.frameCnt g && decide (s.time + 2000 ≤ s.nextRelease g)

/-- Record slots of the braid banks in use, or taken within 2 µs (R325; log entry 20). -/
def State.busySlots (s : State) : List Nat :=
  let live := s.braid.slices.map (·.slot)
  if s.time + 2000 < s.nextBoundary then live
  else live ++ ((List.range s.depthCap).filter fun i => !live.contains i).take s.braid.active.k

/-- The condition of a bight. -/
def State.bightFree (s : State) (bank bight : Nat) : Bool :=
  if !s.sorting then true
  else
    let ws := (List.range 32).map (32 * bight + ·)
    if bank < 32 then s.groupAway bank (bight / 24)
    else if bank < 48 then
      s.calPhase != 4 && ws.all fun w => !s.busySlots.contains (w % s.depthCap)
    else if bank = 48 then s.groupAway (32 * bight / 4096) (32 * bight % 4096 / 256)
    else if bank = 49 then !(s.knots.knots.any fun n => n.slot == bight / 2)
    else true

/-! ### Bights (R324, R326 to R329) -/

/-- The tester's check of the codewords it saves (R328): a corrected one is written back corrected. -/
def State.checkBight (s : State) : State :=
  let b := s.mem.bank
  let hit := s.mem.errs.filter fun e => e.bank == b && e.word / 32 == s.mem.bight
  let words := (hit.map (·.word)).dedup
  words.foldl (fun (s : State) w =>
    match s.errAt b w with
    | none => s
    | some true => s.memUE b w 3
    | some false =>
      let s := s.memCE b w
      { s with mem := { s.mem with errs := s.mem.errs.filter (fun e => !(e.bank == b && e.word == w)),
                                   scrubQ := s.mem.scrubQ.filter (· ≠ (b, w)) } }) s

/-- The bight now due starts if its condition holds (R325, R326). -/
def State.bightStartS (s : State) (errs : List MemErr) : State :=
  let s := s.addErrs errs
  if s.mem.phase ≠ .idle ∨ s.flag MEM_CTRL_TESTEN = false then s
  else
    let s := s.skipBanks 57
    if s.bankSkipped s.mem.bank || !s.bightFree s.mem.bank s.mem.bight then s
    else
      let s := { s with mem := { s.mem with phase := .test } }
      let s := ((s.set MEM_TESTPOS_BANK s.mem.bank).set MEM_TESTPOS_BIGHT s.mem.bight).set MEM_TESTPOS_ACTIVE 1
      (s.set MEM_STAT_TESTRUN 1).checkBight

def execBightStart (errs : List MemErr) (s : State) : Host.Outcome State Fault Refusal := ok (s.bightStartS errs)

/-- No bight is under test. -/
def State.testIdle (s : State) : State :=
  ({ s with mem := { s.mem with phase := .idle } }.set MEM_TESTPOS_ACTIVE 0).set MEM_STAT_TESTRUN 0

/-- A march failure at a bit of the codeword is recorded, check bits lying above data bits (R329, MEM_FAILADDR). -/
def State.marchFail (s : State) (bit : Nat) : State :=
  let s := (s.bump MEM_TESTFAIL_COUNT).set MEM_STAT_FAILSEEN 1
  let s := (s.set MEM_FAILADDR_BANK s.mem.bank).set MEM_FAILADDR_BIGHT s.mem.bight
  ((s.set MEM_FAILADDR_BIT bit).set MEM_FAILADDR_VALID 1).raise Src.memTestFail

/-- The bight's test ends, its codewords written back (R324, R329). -/
def State.bightDoneS (s : State) (fail : Option Nat) : State :=
  if s.mem.phase ≠ .test then s
  else
    let s := match fail with
      | some b => if b < bankData s.mem.bank + bankCheck s.mem.bank then s.marchFail b else s
      | none => s
    s.testIdle.nextBight

def execBightDone (fail : Option Nat) (s : State) : Host.Outcome State Fault Refusal := ok (s.bightDoneS fail)

/-- The restore of an aborted bight completes; after 4 aborts in a pass the bight is skipped (R327). -/
def State.restoreDone (s : State) : State :=
  if s.mem.phase ≠ .restore then s
  else
    let s := s.testIdle
    if 4 ≤ s.mem.aborts then (s.bump MEM_TESTSKIP_COUNT).nextBight else s

def execBightRestoreDone (s : State) : Host.Outcome State Fault Refusal := ok s.restoreDone

/-- A bight whose condition has not held for SKIPTO is skipped for this pass (R326). -/
def State.bightSkipS (s : State) : State :=
  if s.mem.phase ≠ .idle ∨ s.flag MEM_CTRL_TESTEN = false then s
  else
    let s := s.skipBanks 57
    if s.bankSkipped s.mem.bank || s.bightFree s.mem.bank s.mem.bight then s
    else (s.bump MEM_TESTSKIP_COUNT).nextBight

def execBightSkip (s : State) : Host.Outcome State Fault Refusal := ok s.bightSkipS

/-! ### Retention (R330, R331) -/

/-- Groups that RETCTL holds become the groups in retention. -/
def State.setRet (s : State) (v : Nat) : State :=
  let s := ((s.set MEM_RETCTL_PB (bits v 0 1)).set MEM_RETCTL_UB (bits v 1 1)).set MEM_RETCTL_BB (bits v 2 1)
  let s := ((s.set MEM_RETCTL_KB (bits v 3 1)).set MEM_RETCTL_SP (bits v 4 4)).set MEM_RETSTAT_RET (v % 256)
  { s with mem := { s.mem with waking := s.mem.waking.filter fun g => bitOf v g } }

/-- MEM_RETCTL (R330): ignored while sorting runs, or for the SP group of a core that is on. -/
def State.retctlW (s : State) (v : Word) : State :=
  let new := v.toNat % 256
  let place := andNot new (s.get MEM_RETSTAT_RET)
  if place ≠ 0 ∧ (s.sorting ∨ place / 16 &&& s.get GLB_CORECTL_HARTON ≠ 0) then s.set MEM_STAT_WRERR 1
  else s.setRet new

def execMemRetctlWrite (r : Requester) (v : Word) (s : State) : Host.Outcome State Fault Refusal :=
  ok (s.guardW r 0xB040 (·.retctlW v))

/-- The bit of a retention group in MEM_RETCTL. -/
def retBit : RetGroup → Nat
  | .pb => 0
  | .ub => 1
  | .bb => 2
  | .kb => 3
  | .sp i => 4 + i % 4

/-- A retained group is awake, 4 µs after an access or as a sorting start asked; only the former counts (R331). -/
def State.wake (s : State) (g : Nat) : State :=
  if bitOf (s.get MEM_RETSTAT_RET) g then
    let byAccess := s.mem.waking.contains g
    let s := s.setRet (andNot (s.get MEM_RETSTAT_RET) (2 ^ g))
    if byAccess then s.bump MEM_RETSTAT_WAKES else s
  else s

end Sys2Proof.Machine
end

