-- ==== Sys2Proof/Machine/Reset.lean ====
section
/-! DEFINITION. The start of a reset (spec/ file 17, R432 to R434), and the management memory's error (R315). -/

namespace Sys2Proof.Machine

open Reg

/-- A reset begins: outputs go high-impedance, firings end, LY is released; the latch takes the cause (R432, R434). -/
def State.resetStart (s : State) (cause : Nat) (phase : PowerPhase) : State :=
  let s := s.allOff.lyOff
  { s with power := ⟨phase, cause, s.time, false, s.power.vio33⟩, loops := { s.loops with high := 0 } }

/-- A warm reset: the rails stay on, and the release follows after 1 ms (R432). -/
def State.resetNow (s : State) (cause : Nat) : State := s.resetStart cause .held

/-- The management core reads the words of MGT in error: an uncorrectable one resets the module with cause 6 (R315,
R432). -/
def State.mgtCheck (s : State) : State :=
  let p := (s.errWords 55 fun _ => true).foldl (fun (p : State × Bool) w =>
    let q := p.1.memRead 55 w 5
    (q.1, p.2 || q.2)) (s, false)
  if p.2 then p.1.resetNow 6 else p.1

end Sys2Proof.Machine
end

