-- ==== Sys2Proof/Machine/Stage.lean ====
section
/-! DEFINITION. The focal-plane tier and the stage: staged settings, precision sensors, the stage loop (spec/ file
02). -/

namespace Sys2Proof.Machine

open Reg

/-! ### Writes of staged settings -/

/-- STG_CTRL: BIAS_EN is staged, HTR_EN acts at once, the reversal bits change only while sorting is stopped (R29,
R31, R60). -/
def State.stgCtrlW (s : State) (v : Word) : State :=
  let s := (s.set STG_CTRL_BIAS_EN (fldOf STG_CTRL_BIAS_EN v)).stagePut (.biasEn (fldOf STG_CTRL_BIAS_EN v == 1))
  let s := s.set STG_CTRL_HTR_EN (fldOf STG_CTRL_HTR_EN v)
  let row := fldOf STG_CTRL_ROWREV v
  let col := fldOf STG_CTRL_COLREV v
  let s := if s.flag STG_CTRL_HTR_EN then s else s.set STG_HTRPWR_POWER 0
  if row = s.get STG_CTRL_ROWREV ∧ col = s.get STG_CTRL_COLREV then s
  else if s.sorting then s.cfgErr
  else (s.set STG_CTRL_ROWREV row).set STG_CTRL_COLREV col

def execStgCtrlWrite (r : Requester) (v : Word) (s : State) : Host.Outcome State Fault Refusal :=
  ok (s.guardW r 0x2000 (·.stgCtrlW v))

/-- STG_FRATE: only the master's write counts, and only in range (R35, R42); the tables are computed for it (R159). -/
def State.stgFrateW (s : State) (v : Word) : State :=
  let x := fldOf STG_FRATE_RATE v
  if s.notMaster || decide (x < 2000 ∨ 12000 < x) then s.cfgErr
  else (((s.set STG_FRATE_RATE x).set STG_FRATE_PEND 1).stagePut (.frate x)).askTables

def execStgFrateWrite (r : Requester) (v : Word) (s : State) : Host.Outcome State Fault Refusal :=
  ok (s.guardW r 0x2004 (·.stgFrateW v))

/-- STG_BIAS.LEVEL is staged (R38, R61). -/
def State.stgBiasW (s : State) (v : Word) : State :=
  let x := fldOf STG_BIAS_LEVEL v
  ((s.set STG_BIAS_LEVEL x).set STG_BIAS_PEND 1).stagePut (.level x)

def execStgBiasWrite (r : Requester) (v : Word) (s : State) : Host.Outcome State Fault Refusal :=
  ok (s.guardW r 0x2008 (·.stgBiasW v))

/-- STG_SETPT: 35,000 to 65,000 mK (R53). -/
def State.stgSetptW (s : State) (v : Word) : State :=
  let x := fldOf STG_SETPT_SETPT v
  if x < 35000 ∨ 65000 < x then s.cfgErr else s.set STG_SETPT_SETPT x

def execStgSetptWrite (r : Requester) (v : Word) (s : State) : Host.Outcome State Fault Refusal :=
  ok (s.guardW r 0x200C (·.stgSetptW v))

/-- A tile of the variant carries out a write to its window; an absent one ignores it (R4). -/
def State.guardTile (s : State) (r : Requester) (n off : Nat) (f : State → State) : State :=
  s.guardW r (0x4000 + 0x100 * n + off) fun s => if n < s.nTiles then f s else s

def State.tilGainW (s : State) (n : Nat) (v : Word) : State :=
  let x := fldOf (TIL_GAIN_GAIN n) v
  ((s.set (TIL_GAIN_GAIN n) x).set (TIL_GAIN_PEND n) 1).stagePut (.gain n x)

def execTilGainWrite (r : Requester) (n : Nat) (v : Word) (s : State) : Host.Outcome State Fault Refusal :=
  ok (s.guardTile r n 0x00 (·.tilGainW n v))

/-- Each access to PTDATA advances INDEX under AUTOINC, from 4,095 to 0. -/
def State.ptAdvance (s : State) (n : Nat) : State :=
  if s.flag (TIL_PTSEL_AUTOINC n) then s.incr (TIL_PTSEL_INDEX n) else s

/-- TIL[n]_PTDATA: staged, and ignored while the calibration manager holds the trims (R38, R41). -/
def State.tilPtdataW (s : State) (n : Nat) (v : Word) : State :=
  let i := s.get (TIL_PTSEL_INDEX n)
  let x := fldOf (TIL_PTDATA_TRIM n) v
  let s :=
    if s.trimsHeld then s.cfgErr
    else
      let t := s.tile n
      ((s.setTile n { t with trimsW := mset 0 t.trimsW i x }).set (TIL_PTDATA_PEND n) 1).stagePut (.trim n i x)
  s.ptAdvance n

def execTilPtdataWrite (r : Requester) (n : Nat) (v : Word) (s : State) : Host.Outcome State Fault Refusal :=
  ok (s.guardTile r n 0x08 (·.tilPtdataW n v))

/-- TIL[n]_SKIM[i]: four lanes' skimming trims, staged (R38, R41). -/
def State.tilSkimW (s : State) (n i : Nat) (v : Word) : State :=
  if 16 ≤ i then s
  else if s.trimsHeld then s.cfgErr
  else (s.writeFlds (0x4020 + 0x100 * n + 4 * i) v.toNat 0).stagePut (.skim n i v.toNat)

def execTilSkimWrite (r : Requester) (n i : Nat) (v : Word) (s : State) : Host.Outcome State Fault Refusal :=
  ok (s.guardTile r n (0x20 + 4 * i) (·.tilSkimW n i v))

/-! ### Precision sensors (R56 to R59) -/

/-- 80 °C and 75 °C in codes of STG_TEMP. -/
def code80 : Nat := 240000
def code75 : Nat := 230000

def State.tsUsed (s : State) (i : Nat) : Bool := s.flag (STG_TS_VALID i) && !s.flag (STG_TS_EXCL i)

/-- The valid sensors in the sense of R57. -/
def State.tsValid (s : State) : List Nat := (List.range 4).filter fun i => s.tsUsed i

/-- The readings that make up the reference of sensor `i` (R57). -/
def State.tsRef (s : State) (i : Nat) : List Int :=
  ((List.range 4).filter fun j => j != i && s.tsUsed j).map fun j => (s.get (STG_TS_TEMP j) : Int)

/-- Twice the absolute difference of sensor `i` from its reference, in 0.5 mK units. -/
def State.tsDiff2 (s : State) (i : Nat) : Nat :=
  (2 * (s.get (STG_TS_TEMP i) : Int) - median2 (s.tsRef i)).natAbs

/-- What the number of valid sensors brings about (R56, R58): the mean rounds to the nearest code of 0.5 mK, and the
event comes with a loss, a sensor that the first read after a reset lacks included (log entry 73). -/
def State.tsConsequences (s : State) : State :=
  let was := if s.stage.seen then s.get STG_STAT_TSVALID else 4
  let s := { s with stage := { s.stage with seen := true } }
  let v := s.tsValid
  let k := v.length
  let s := (s.set STG_STAT_TSVALID k).setB STG_STAT_TSDEG (decide (k < 3))
  let s :=
    if 2 ≤ k then
      (s.set STG_TEMP_TEMP (roundDiv (sumN (v.map fun i => s.get (STG_TS_TEMP i))) k).toNat).set STG_TEMP_VALID 1
    else s.set STG_TEMP_VALID 0
  let s := if k < was ∧ (k = 2 ∨ k = 1) then s.raise Src.stageSensor else s
  if k = 0 then (s.set STG_HTRPWR_POWER 0).enterSafe 1 else s

/-- A stage reading of 80 °C or above (R59). -/
def State.overtempCheck (s : State) : State :=
  let hot := (decide (code80 ≤ s.get STG_TEMP_TEMP) && s.flag STG_TEMP_VALID)
    || s.tsValid.any fun i => decide (code80 ≤ s.get (STG_TS_TEMP i))
  if hot then
    let s := s.set STG_HTRPWR_POWER 0
    let s := { s with sensor := { s.sensor with removeBias := true } }
    let s := if s.flag STG_STAT_OVERTEMP then s else (s.set STG_STAT_OVERTEMP 1).raise Src.stageOvertemp
    s.enterSafe 2
  else s

/-- The temperature the loop regulates on: the mean, or the single sensor left (R58). -/
def State.loopTemp (s : State) : Nat :=
  match s.tsValid with
  | [i] => s.get (STG_TS_TEMP i)
  | _ => s.get STG_TEMP_TEMP

/-- The loop's target moves toward the set point at 0.2 K/s, 200 µK in 1 ms (R53). -/
def State.moveTarget (s : State) : State :=
  let goal := s.get STG_SETPT_SETPT * 1000
  let t := s.stage.targetUk
  let t := if t < goal then min goal (t + 200) else max goal (t - 200)
  { s with stage := { s.stage with targetUk := t } }.set STG_SETPT_TARGET (t / 1000)

/-- The stage lies within the lock band of the set point (R52). -/
def State.inLockBand (s : State) : Bool :=
  decide (((s.get STG_TEMP_TEMP : Int) - (2 * s.get STG_SETPT_SETPT + 80000 : Nat)).natAbs ≤ 2 * s.get STG_LOCKBAND_BAND)

/-- LOCK after a read: within the band for the preceding 2 s (R52). -/
def State.lockEval (s : State) : State :=
  if s.inLockBand then
    let b := if s.stage.inBand = 0 then s.time + 1 else s.stage.inBand
    { s with stage := { s.stage with inBand := b } }.setB STG_STAT_LOCK (decide (b - 1 + 2000000000 ≤ s.time))
  else { s with stage := { s.stage with inBand := 0 } }.set STG_STAT_LOCK 0

/-- The heater is off whatever the loop asks (R51, R58, R59): a safe state that a sensor loss or an overtemperature caused
keeps it off (R438). -/
def State.heaterOff (s : State) : Bool :=
  !s.flag STG_CTRL_HTR_EN || s.tsValid == [] || s.flag STG_STAT_OVERTEMP
    || s.mode == 4 && (s.get GLB_SAFECAUSE_CAUSES) &&& 6 != 0

/-- The heater: the granted power below 0.5 K under the target; near the target what the PI controller gives, a free
value up to the grant, since its gains are factory values (R51, log entry 6). -/
def State.heaterEval (s : State) : State :=
  if s.heaterOff then s.set STG_HTRPWR_POWER 0
  else
    let lim := s.get STG_HTRPWR_LIMIT
    if 1000 * s.loopTemp + 1000000 < 2 * s.stage.targetUk + 80000000 then s.set STG_HTRPWR_POWER lim
    else
      let p := s.draw
      p.2.set STG_HTRPWR_POWER (p.1 % (lim + 1))

/-- Sensor `i` differs from its reference by more than 50 mK, and may be excluded for it (R57). -/
def State.tsFar (s : State) (i : Nat) : Bool :=
  s.tsUsed i && decide (i < 4 ∧ 2 ≤ (s.tsRef i).length ∧ 200 < s.tsDiff2 i)

/-- Sensor `i` is excluded and agrees with its reference within 10 mK (R57). -/
def State.tsNear (s : State) (i : Nat) : Bool :=
  s.flag (STG_TS_VALID i) && s.flag (STG_TS_EXCL i) && decide (i < 4 ∧ 1 ≤ (s.tsRef i).length ∧ s.tsDiff2 i ≤ 40)

/-- A read counts for or against each sensor (R57). -/
def State.tsCount (s : State) : State :=
  let dis := (List.range 4).foldl (fun m i => mset 0 m i (if s.tsFar i then mget 0 s.stage.dis i + 1 else 0)) s.stage.dis
  let agree := (List.range 4).foldl (fun m i =>
    mset 0 m i (if s.tsNear i then (if mget 0 s.stage.agree i = 0 then s.time + 1 else mget 0 s.stage.agree i) else 0))
    s.stage.agree
  { s with stage := { s.stage with dis := dis, agree := agree } }

/-- The 1 kHz read of the precision sensors (R51 to R59); a reading that is absent clears VALID. -/
def State.stageRead (s : State) (rs : List (Option Nat)) : State :=
  let s := (List.range 4).foldl (fun s i =>
    match rs.getD i none with
    | some c => (s.set (STG_TS_TEMP i) c).set (STG_TS_VALID i) 1
    | none => s.set (STG_TS_VALID i) 0) s
  s.tsCount.tsConsequences.moveTarget.lockEval.heaterEval.overtempCheck

def execStageSensorRead (rs : List (Option Nat)) (s : State) : Host.Outcome State Fault Refusal :=
  ok (s.stageRead rs)

/-- Exclusion after 1,000 consecutive reads that differ by more than 50 mK from at least 2 others (R57). -/
def State.tsExcludeS (s : State) (i : Nat) : State :=
  if s.tsFar i && decide (1000 ≤ mget 0 s.stage.dis i) then
    let s := (s.set (STG_TS_EXCL i) 1).record 0x802 i 1 (s.word 0x2010)
    { s with stage := { s.stage with dis := mset 0 s.stage.dis i 0 } }.tsConsequences
  else s

def execTsExclude (i : Nat) (s : State) : Host.Outcome State Fault Refusal := ok (s.tsExcludeS i)

/-- Readmission after 10 s of agreement within 10 mK with at least 1 other (R57). -/
def State.tsReadmitS (s : State) (i : Nat) : State :=
  let a := mget 0 s.stage.agree i
  if s.tsNear i && a != 0 then
    let s := s.advance (floor2 (a - 1) + 10000000000)
    let s := (s.set (STG_TS_EXCL i) 0).record 0x802 i 0 (s.word 0x2010)
    { s with stage := { s.stage with agree := mset 0 s.stage.agree i 0 } }.tsConsequences
  else s

def execTsReadmit (i : Nat) (s : State) : Host.Outcome State Fault Refusal := ok (s.tsReadmitS i)

/-- 2 s inside the lock band have passed (R52). -/
def State.stageLockS (s : State) : State :=
  if s.stage.inBand = 0 then s
  else (s.advance (floor2 (s.stage.inBand - 1) + 2000000000)).set STG_STAT_LOCK 1

def execStageLock (s : State) : Host.Outcome State Fault Refusal := ok s.stageLockS

/-- The loop's demand has stayed at 0 for 1 s (R54). -/
def State.stageUnregS (s : State) : State :=
  if s.flag STG_CTRL_HTR_EN && !s.flag STG_STAT_UNREG then
    ((s.set STG_HTRPWR_POWER 0).set STG_STAT_UNREG 1).raise Src.stageUnreg
  else s

def execStageUnreg (s : State) : Host.Outcome State Fault Refusal := ok s.stageUnregS

/-- The demand has stayed above 2% of the granted power for 1 s (R54), which a heater kept off or without a grant never
does: what it asks is a free value above that (log entry 6). -/
def State.stageUnregClearS (s : State) : State :=
  let lim := s.get STG_HTRPWR_LIMIT
  if s.heaterOff || lim == 0 then s
  else
    let p := s.draw
    let least := lim / 50 + 1
    (p.2.set STG_HTRPWR_POWER (least + p.1 % (lim + 1 - least))).set STG_STAT_UNREG 0

def execStageUnregClear (s : State) : Host.Outcome State Fault Refusal := ok s.stageUnregClearS

end Sys2Proof.Machine
end

