-- ==== Sys2Proof/Machine/TestOps.lean ====
section
/-! DEFINITION. Blinding, test modes, boundary scan and core debug (spec/ file 18). -/

namespace Sys2Proof.Machine

open Reg

/-- TMX_BLIND: staged under R38 (R457). -/
def State.blindW (s : State) (v : Word) : State :=
  let x := v.toNat &&& s.implMask 0xD810
  { s.set TMX_BLIND_TILES x with tmx := { s.tmx with blindDue := s.tmx.blindDue ++ [(x, s.dueOf s.time)] } }

def execTmxBlindWrite (r : Requester) (v : Word) (s : State) : Host.Outcome State Fault Refusal :=
  ok (s.guardW r 0xD810 (·.blindW v))

/-- TMX_TPCTL: MODE changes only from 0 or to 0, and only in ready; any other change of MODE is ignored with the whole
write (R461). -/
def State.tpctlW (s : State) (v : Word) : State :=
  let m := fldOf TMX_TPCTL_MODE v
  let was := s.get TMX_TPCTL_MODE
  if m ≠ was ∧ (s.mode ≠ 2 ∨ (m ≠ 0 ∧ was ≠ 0)) then s.set TMX_TPSTAT_WRERR 1
  else
    let s := s.writeFlds 0xD820 v.toNat 0
    if m = was then
      let s := s.testHold
      if s.flag ARB_CTRL_EN then s else (List.range s.nChans).foldl (fun s c => s.disable c) s
    else { s with tmx := { s.tmx with modeDue := some (m, s.dueOf s.time) } }.set TMX_TPCTL_PEND 1

def execTmxTpctlWrite (r : Requester) (v : Word) (s : State) : Host.Outcome State Fault Refusal :=
  ok (s.guardW r 0xD820 (·.tpctlW v))

/-- Words of the replay buffer (R463). -/
def tpWords : Nat := 2112

/-- Each access to TPDATA advances INDEX under AUTOINC, from 2,111 to 0. -/
def State.tpAdvance (s : State) : State :=
  if s.flag TMX_TPSEL_AUTOINC then
    let i := s.get TMX_TPSEL_INDEX
    s.set TMX_TPSEL_INDEX (if tpWords ≤ i + 1 then 0 else i + 1)
  else s

/-- TMX_TPDATA: accepted while MODE is 0 or 3 (R463). -/
def State.tpdataW (s : State) (v : Word) : State :=
  let i := s.get TMX_TPSEL_INDEX
  let s :=
    if s.tmx.mode ≠ 0 ∧ s.tmx.mode ≠ 3 then s.set TMX_TPSTAT_WRERR 1
    else if tpWords ≤ i then s
    else { s with tmx := { s.tmx with buf := mset 0 s.tmx.buf i v.toNat } }
  s.tpAdvance

def execTmxTpdataWrite (r : Requester) (v : Word) (s : State) : Host.Outcome State Fault Refusal :=
  ok (s.guardW r 0xD838 (·.tpdataW v))

/-- BSCANEN falls: an instruction that drives the pads is replaced by BYPASS (R455). -/
def State.bscanOff (s : State) : State :=
  let s := s.set TMX_CTRL_BSCANEN 0
  match s.tmx.jtag with
  | .extest | .clamp | .highz => { s with tmx := { s.tmx with jtag := .bypass } }
  | _ => s

/-- TMX_CTRL (R455): writing 1 to BSCANEN enters the safe state with cause bit 0. -/
def State.bscanW (s : State) (v : Word) : State :=
  if fldOf TMX_CTRL_BSCANEN v = 1 then (s.set TMX_CTRL_BSCANEN 1).enterSafe 0 else s.bscanOff

def execBscanenWrite (r : Requester) (v : Word) (s : State) : Host.Outcome State Fault Refusal :=
  ok (s.guardW r 0xD800 (·.bscanW v))

/-- A TAP instruction takes effect; EXTEST, CLAMP and HIGHZ are BYPASS without BSCANEN (R455). -/
def State.jtagS (s : State) (i : JtagInstr) : State :=
  let drives := i == .extest || i == .clamp || i == .highz
  { s with tmx := { s.tmx with jtag := if drives && !s.flag TMX_CTRL_BSCANEN then .bypass else i } }

def execJtagInstruction (i : JtagInstr) (s : State) : Host.Outcome State Fault Refusal := ok (s.jtagS i)

/-- The debug module halts a hart, or steps a halted one; without DBGEN it is not reached (R456). -/
def State.debugHaltS (s : State) (h : Nat) : State :=
  if s.flag TMX_CTRL_DBGEN && decide (h < 4) && bitOf (s.get GLB_CORECTL_HARTON) h && !s.tmx.halted.contains h then
    { s with tmx := { s.tmx with halted := s.tmx.halted ++ [h] } }
  else s

/-- A step leaves the hart halted as a halt does; what its instruction does comes as commands of its own. -/
def execDebugHalt (h : Nat) (_step : Bool) (s : State) : Host.Outcome State Fault Refusal := ok (s.debugHaltS h)

end Sys2Proof.Machine
end

