-- ==== Sys2Proof/Machine/Thermal.lean ====
section
/-! DEFINITION. Thermal management: sensors, die levels, throttle steps, shutdown (spec/ file 10, R282 to R293).
Temperatures are codes of T = TEMP/4 − 64. -/

namespace Sys2Proof.Machine

open Reg

def dieNum : Die → Nat
  | .logic => 0
  | .power => 1

def levelNum : Level → Nat
  | .warning => 0
  | .throttle => 1
  | .shutdown => 2

/-- Sensors of a die (R282). -/
def dieCount (d : Nat) : Nat := if d = 0 then 8 else 6

def tempFld (d i : Nat) : Fld := if d = 0 then THM_TL_TEMP i else THM_TP_TEMP i
def suspFld (d i : Nat) : Fld := if d = 0 then THM_TL_SUSPECT i else THM_TP_SUSPECT i
def exclFld (d i : Nat) : Fld := if d = 0 then THM_TL_EXCL i else THM_TP_EXCL i
def validFld (d i : Nat) : Fld := if d = 0 then THM_TL_VALID i else THM_TP_VALID i

/-- The level's temperature as a code (R283). -/
def levelCode (d l : Nat) : Nat :=
  4 * (64 + (if d = 0 then (if l = 0 then 100 else if l = 1 then 108 else 120)
    else (if l = 0 then 115 else if l = 1 then 125 else 140)))

def State.dieValid (s : State) (d : Nat) : List Nat := (List.range (dieCount d)).filter fun i => s.flag (validFld d i)

/-- The largest reading among valid sensors; `clean`: among those not suspect (R282, R290). -/
def State.dieMax (s : State) (d : Nat) (clean : Bool) : Nat :=
  ((s.dieValid d).filter fun i => !clean || !s.flag (suspFld d i)).foldl (fun m i => max m (s.get (tempFld d i))) 0

/-- Twice the distance of a sensor from the median of the other valid sensors of its die, if there are any (R289). -/
def State.thmDiff2 (s : State) (d i : Nat) : Option Nat :=
  match (s.dieValid d).filter (· != i) with
  | [] => none
  | o => some (2 * (s.get (tempFld d i) : Int) - median2 (o.map fun j => (s.get (tempFld d j) : Int))).natAbs

def State.hasLevel (s : State) (d l : Nat) : Bool := bitOf s.house.entered (3 * d + l)

/-- Fewer than 3 valid sensors (R291). -/
def State.forced (s : State) (d : Nat) : Bool := s.house.sampled && decide ((s.dieValid d).length < 3)

def State.blindDie (s : State) (d : Nat) : Bool := s.house.sampled && s.dieValid d == []

/-- The die is in throttle: entered, or forced (R284, R291). -/
def State.inThrottle (s : State) (d : Nat) : Bool := s.hasLevel d 1 || s.forced d

/-- The die is in shutdown: entered, or without a valid sensor (R284, R291). -/
def State.inShutdown (s : State) (d : Nat) : Bool := s.hasLevel d 2 || s.blindDie d

/-- The highest level in force. -/
def State.dieState (s : State) (d : Nat) : Nat :=
  if s.inShutdown d then 3 else if s.inThrottle d then 2 else if s.hasLevel d 0 then 1 else 0

/-- A die's throttle step follows its throttle (R285). -/
def State.stepFollow (s : State) (d : Nat) : State :=
  if s.inThrottle d then
    if s.dieStep d = 0 then
      s.setHouse { s.house with steps := mset 0 s.house.steps d 1, since := mset 0 s.house.since d s.time }
    else s
  else s.setHouse { s.house with steps := mset 0 s.house.steps d 0, since := mset 0 s.house.since d 0 }

/-- THM_STAT, the steps and the clocks. -/
def State.thmShow (s : State) : State :=
  let s := (((s.set THM_STAT_LSTATE (s.dieState 0)).set THM_STAT_PSTATE (s.dieState 1)).setB THM_STAT_LFORCED
    (s.forced 0)).setB THM_STAT_PFORCED (s.forced 1)
  let s := (s.set THM_STAT_LVALID (s.dieValid 0).length).set THM_STAT_PVALID (s.dieValid 1).length
  ((s.stepFollow 0).stepFollow 1).clockShow

/-- What a change of the valid sensors of a die brings about: forced throttle and shutdown raise their events as the
die enters them (R284, R291). -/
def State.thmChange (s : State) (d : Nat) (f : State → State) : State :=
  let t := s.inThrottle d
  let x := s.inShutdown d
  let s := f s
  let s := if s.inThrottle d && !t then s.raise (Src.thm (d == 1) 1) else s
  let new := s.inShutdown d && !x
  let s := if new then s.raise (Src.thm (d == 1) 2) else s
  let s := s.thmShow
  if new then s.thermalDown else s

/-- Count on while a condition holds, else start again. -/
def State.runs (m : List (Nat × Nat)) (k : Nat) (c : Bool) : List (Nat × Nat) := mset 0 m k (if c then mget 0 m k + 1 else 0)

/-- Readings of one die enter its registers. -/
def State.dieRead (s : State) (d : Nat) (ts : List Nat) : State :=
  (List.range (dieCount d)).foldl (fun s i =>
    match ts[i]? with
    | some t => (s.set (tempFld d i) t).setB (validFld d i) (!s.flag (exclFld d i))
    | none => s.set (validFld d i) 0) s

/-- Suspect and agreement counts of one die (R289). -/
def State.dieSuspect (s : State) (d : Nat) : State :=
  let s0 := s
  (List.range (dieCount d)).foldl (fun s i =>
    let x := s0.thmDiff2 d i
    let sus := s0.flag (validFld d i) && x.any fun y => decide (120 < y)
    let agr := s0.flag (exclFld d i) && x.any fun y => decide (y ≤ 40)
    (s.setHouse { s.house with suspect := State.runs s.house.suspect (8 * d + i) sus,
                               agree := State.runs s.house.agree (8 * d + i) agr }).setB (suspFld d i) sus) s

/-- Maximum and level counters of one die (R282, R284, R290). -/
def State.dieLevels (s : State) (d : Nat) : State :=
  let m := s.dieMax d false
  let mx := if d = 0 then THM_LMAX_MAX else THM_PMAX_MAX
  let pk := if d = 0 then THM_LMAX_PEAK else THM_PMAX_PEAK
  let s := (s.set mx m).set pk (max m (s.get pk))
  (List.range 3).foldl (fun s l =>
    let t := s.dieMax d (l == 2)
    s.setHouse { s.house with ups := State.runs s.house.ups (3 * d + l) (decide (levelCode d l ≤ t)),
                              downs := State.runs s.house.downs (3 * d + l) (decide (t + 16 ≤ levelCode d l)) }) s

/-- The trim-table bin for a mean of `n` readings whose sum is `sum`: 8 K bins from −40 °C. One kept stays until the mean
has crossed its edge by 2 K (R293). -/
def oscBin (now : Option Nat) (sum n : Nat) : Nat :=
  let bin := min 23 ((sum / n - 96) / 32)
  match now with
  | some b => if n * (96 + 32 * b) < sum + 8 * n ∧ sum < n * (96 + 32 * (b + 1) + 8) then b else bin
  | none => bin

/-- The oscillator's trim goes toward its bin's entry by at most 0.2% a sample; the first reading sets it at once (R293;
log entry 87). -/
def State.oscTrim (s : State) : State :=
  let v := s.dieValid 1
  if v = [] then s
  else
    let bin := oscBin s.house.trimBin (sumN (v.map fun i => s.get (THM_TP_TEMP i))) v.length
    let want := Config.oscTrim bin
    let trim := if s.house.trimBin = none then want else s.house.trim + clampI (-200) 200 (want - s.house.trim)
    s.setHouse { s.house with trimBin := some bin, trim := trim }

/-- The 125 µs sample (R282). -/
def State.thermal (s : State) (tl tp : List Nat) : State :=
  let s := (s.dieRead 0 tl).dieRead 1 tp
  let s := s.setHouse { s.house with sampled := true }
  let s := (s.dieSuspect 0).dieSuspect 1
  ((s.dieLevels 0).dieLevels 1).oscTrim

/-- A sample with the forced levels that missing readings bring about (R291). -/
def execThermalSample (tl tp : List Nat) (s : State) : Host.Outcome State Fault Refusal :=
  ok (s.thmChange 0 fun s => s.thmChange 1 fun s => s.thermal tl tp)

/-- A die enters a level after 8 samples at or above it (R284). -/
def State.levelEnter (s : State) (d l : Nat) : State :=
  if s.hasLevel d l ∨ mget 0 s.house.ups (3 * d + l) < 8 then s
  else
    let was := if l = 1 then s.inThrottle d else if l = 2 then s.inShutdown d else false
    let s := s.setHouse { s.house with entered := s.house.entered ||| 2 ^ (3 * d + l) }
    let s := (if was then s else s.raise (Src.thm (d == 1) l)).thmShow
    if l = 2 ∧ was = false then s.thermalDown else s

def execThermalLevelEnter (d : Die) (l : Level) (s : State) : Host.Outcome State Fault Refusal :=
  ok (s.levelEnter (dieNum d) (levelNum l))

/-- A die leaves a level after 8 samples at or below it minus 4 K (R284, R285). -/
def State.levelLeave (s : State) (d l : Nat) : State :=
  if s.hasLevel d l = false ∨ mget 0 s.house.downs (3 * d + l) < 8 then s
  else (s.setHouse { s.house with entered := andNot s.house.entered (2 ^ (3 * d + l)) }).thmShow

def execThermalLevelLeave (d : Die) (l : Level) (s : State) : Host.Outcome State Fault Refusal :=
  ok (s.levelLeave (dieNum d) (levelNum l))

/-- TSTEP in throttle: step 2 (R285). -/
def State.step2 (s : State) (d : Nat) : State :=
  if s.dieStep d = 1 then
    let s := s.advance (floor2 (mget 0 s.house.since d + s.get THM_CTRL_TSTEP * 10000000))
    (s.setHouse { s.house with steps := mset 0 s.house.steps d 2 }).clockShow
  else s

def execThrottleStep2 (d : Die) (s : State) : Host.Outcome State Fault Refusal := ok (s.step2 (dieNum d))

/-- A sensor suspect for 16 samples is excluded (R289). -/
def State.thmExclude (s : State) (d i : Nat) : State :=
  if dieCount d ≤ i ∨ s.flag (validFld d i) = false ∨ mget 0 s.house.suspect (8 * d + i) < 16 then s
  else
    s.thmChange d fun s =>
      let s := ((s.set (exclFld d i) 1).set (validFld d i) 0).set (suspFld d i) 0
      let s := s.setHouse { s.house with suspect := mset 0 s.house.suspect (8 * d + i) 0 }
      ((s.set THM_STAT_EXCLSEEN 1).record 0x803 d i 1).raise Src.thmSensor

def execThermalSensorExclude (d : Die) (i : Nat) (s : State) : Host.Outcome State Fault Refusal :=
  ok (s.thmExclude (dieNum d) i)

/-- An excluded sensor that has agreed for 8,000 samples is readmitted (R289). -/
def State.thmReadmit (s : State) (d i : Nat) : State :=
  if dieCount d ≤ i ∨ s.flag (exclFld d i) = false ∨ mget 0 s.house.agree (8 * d + i) < 8000 then s
  else
    s.thmChange d fun s =>
      let s := (s.set (exclFld d i) 0).set (validFld d i) 1
      let s := s.setHouse { s.house with agree := mset 0 s.house.agree (8 * d + i) 0 }
      s.record 0x803 d i 0

def execThermalSensorReadmit (d : Die) (i : Nat) (s : State) : Host.Outcome State Fault Refusal :=
  ok (s.thmReadmit (dieNum d) i)

/-- The refresh-rate field of the memory (R282). -/
def execDramTempRead (rate : Nat) (s : State) : Host.Outcome State Fault Refusal :=
  ok ((s.set THM_DRAM_RATE rate).set THM_DRAM_VALID 1)

/-- Both dies are below their shutdown level minus 4 K, with a valid sensor each (R288, R291). -/
def State.coolEnough (s : State) : Bool :=
  (List.range 2).all fun d => !s.blindDie d && decide (s.dieMax d true + 16 < levelCode d 2)

end Sys2Proof.Machine
end

