-- ==== Sys2Proof/Machine/Restart.lean ====
section
/-! DEFINITION. The flash copy of the event log, sorting, warm-up and restarts (spec/ file 13, R357; file 17, R427 to
R431, R440, R441; file 10, R288). -/

namespace Sys2Proof.Machine

open Reg

/-! ### The flash ring of the log (R357) -/

/-- Where the log ring lies in the flash (R403). -/
def logArea : Nat := 0x1D00000

/-- A sector of 128 places is erased before the head enters it (R357, R403, R409). -/
def State.logSector (s : State) : State :=
  let n := s.flash.logNext
  if n % 128 = 0 then
    { s with flash := { s.flash with log := s.flash.log.filter fun p => !decide (n ≤ p.1 ∧ p.1 < n + 128) } }.flashTouched
      (logArea + 32 * n) 4096
  else s

/-- The firmware's read of an FB log entry; one in error reads as all zero (R315). -/
def State.readEntry (s : State) (i : Nat) : State × LogEntry :=
  let p := (List.range 4).foldl (fun (p : State × Bool) w =>
    let q := p.1.memRead 56 (4 * i + w) 5
    (q.1, p.2 || q.2)) (s, false)
  (p.1, if p.2 then LogEntry.zero else mget LogEntry.zero s.evt.ring i)

/-- The oldest pending entry goes to the flash ring. -/
def State.copyOne (s : State) : State :=
  match s.evt.pend with
  | [] => s
  | i :: r =>
    let p := s.logSector.readEntry i
    let s := p.1
    let f := s.flash
    let next := (f.logNext + 1) % 32768
    let seq := if p.2 = LogEntry.zero then f.logSeq else (p.2.seq + 1) % 2 ^ 32
    let s := { s with flash := { f with log := mset LogEntry.zero f.log f.logNext p.2, logNext := next, logSeq := seq },
                      evt := { s.evt with pend := r } }.flashTouched (logArea + 32 * f.logNext) 32
    (s.set EVT_FLASHPOS_NEXT next).set EVT_FLASHPOS_PEND r.length

def State.copyLog (s : State) : Nat → State
  | 0 => s
  | n + 1 => (s.copyOne).copyLog n

/-- One page: the entries that the page of 8 still takes (R357). -/
def State.logPage (s : State) : State := s.copyLog (8 - s.flash.logNext % 8)

def execLogPageCopy (s : State) : Host.Outcome State Fault Refusal := ok s.logPage

/-- A commanded reset flushes every pending entry first (R357). -/
def State.commandedReset (s : State) (cause : Nat) : State := (s.copyLog s.evt.pend.length).resetNow cause

/-! ### Sorting (R427) -/

/-- Sorting begins (R427). -/
def State.sortBegin (s : State) : State := (s.set GLB_STAT_STATE 3).set GLB_CTRL_RUN 1

def State.setStartWait (s : State) (b : Bool) : State := { s with mem := { s.mem with startWait := b } }

/-- A sorting start clears MEM_RETCTL, and sorting begins once all groups are awake (R331). -/
def State.sortStart (s : State) : State :=
  if s.get MEM_RETSTAT_RET = 0 then s.sortBegin
  else
    let s := ((s.set MEM_RETCTL_PB 0).set MEM_RETCTL_UB 0).set MEM_RETCTL_BB 0
    ((s.set MEM_RETCTL_KB 0).set MEM_RETCTL_SP 0).setStartWait true

/-- A group is awake; the last one lets a waiting start begin (R331). -/
def State.wakeUp (s : State) (g : Nat) : State :=
  let s := s.wake g
  if s.mem.startWait && s.get MEM_RETSTAT_RET == 0 then
    let s := s.setStartWait false
    if s.mode = 2 then s.sortBegin else s
  else s

def execRetentionWake (group : RetGroup) (s : State) : Host.Outcome State Fault Refusal := ok (s.wakeUp (retBit group))

/-- Sorting ends (R198, R427). -/
def State.sortStop (s : State) : State := ((s.set GLB_STAT_STATE 2).set GLB_CTRL_RUN 0).dropKnots

/-- GLB_CTRL.RUN (R427): setting it is refused unless STATE is 2. -/
def State.runW (s : State) (run : Bool) : State :=
  if run then (if s.mode = 2 then s.sortStart else if s.sorting then s else s.set GLB_STAT_WRERR 1)
  else if s.sorting then s.sortStop else s.setStartWait false

def execGlbRunWrite (r : Requester) (run : Bool) (s : State) : Host.Outcome State Fault Refusal :=
  ok (s.guardW r 0x10 (·.runW run))

/-- SWRST with its key resets with cause 5; with another key it sets WRERR (R432). -/
def State.swrstW (s : State) (key : Nat) : State :=
  if key % 256 = 0x5A then s.commandedReset 5 else s.set GLB_STAT_WRERR 1

def execSwrst (r : Requester) (key : Nat) (s : State) : Host.Outcome State Fault Refusal :=
  ok (s.guardW r 0x10 (·.swrstW key))

/-! ### Warm-up and restarts (R288, R427, R431, R440, R441) -/

/-- Warm-up begins with HTR_EN and BIAS_EN (R428), and the power-up calibration is owed (R430). -/
def State.warmUp (s : State) : State :=
  let s := (s.set GLB_STAT_STATE 1).set STG_CTRL_HTR_EN 1
  let s := { s with cal := { s.cal with tries := 0, retryAt := 0, powered := false },
                    sensor := { s.sensor with removeBias := false } }
  ((s.set STG_CTRL_BIAS_EN 1).stagePut (.biasEn true)).faultShow

/-- Every cause of the safe state has its condition met (R440). -/
def State.safeCleared (s : State) : Bool :=
  let c := s.get GLB_SAFECAUSE_CAUSES
  let cool := s.get STG_STAT_TSVALID != 0 && decide (s.loopTemp < code75)
    && s.tsValid.all fun i => decide (s.get (STG_TS_TEMP i) < code75)
  (!bitOf c 1 || decide (2 ≤ s.get STG_STAT_TSVALID)) && (!bitOf c 2 || cool) && (!bitOf c 3 || s.house.badTables == [])

/-- A restart would be accepted now: from state 4 or 5, every condition met, the dies cool where a thermal shutdown
waits (R288, R440). -/
def State.mayRestart (s : State) : Bool :=
  (s.mode == 4 || s.mode == 5) && (s.mode != 4 || s.safeCleared) && (!s.house.shutdown || s.coolEnough)

/-- An accepted restart (R288, R431, R440, R455, R59). -/
def State.restartGo (s : State) : State :=
  let thermal := s.house.shutdown
  let s := { s with house := { s.house with shutdown := false } }
  let s := ((s.set GLB_SAFECAUSE_CAUSES 0).set STG_STAT_OVERTEMP 0).bscanOff
  let s := s.warmUp.ddrShow
  if thermal then s.record 0x808 1 (s.word 0x1404) 0 else s

/-- A request for a restart; the flag says accepted. A refused one sets THM_STAT.WRERR (R288, R440). -/
def State.restartReq (s : State) : State × Bool :=
  if s.mayRestart then (s.restartGo, true) else (s.set THM_STAT_WRERR 1, false)

def execThmRestart (r : Requester) (s : State) : Host.Outcome State Fault Refusal :=
  ok (s.guardW r 0x1400 fun s => s.restartReq.1)

/-- Automatic restarts of the last 60 min (R288). -/
def State.recentAutos (s : State) : List Nat := s.house.autos.filter fun t => decide (s.time < t + 3600000000000)

/-- The module's own request once both dies are cool, up to AUTOMAX in any 60 min (R288). -/
def State.autoReq (s : State) : State :=
  let l := s.recentAutos
  if s.flag THM_CTRL_AUTORST && s.mode == 5 && s.house.shutdown && s.coolEnough && decide (l.length < s.get THM_CTRL_AUTOMAX)
      && s.mayRestart then
    { s with house := { s.house with autos := l ++ [s.time] } }.restartGo
  else s

def execAutoRestart (s : State) : Host.Outcome State Fault Refusal := ok s.autoReq

/-- Ready is entered once everything of R429 holds; the firmware then sets ARB_CTRL.EN (R427). -/
def State.mayReady (s : State) : Bool :=
  s.mode == 1 && s.flag STG_STAT_LOCK && s.sensor.biasEn && s.sensor.rampJ == 0 && s.get STG_STAT_SETTLE == 0
    && !(s.fuses.nk1024 && s.tileList.any fun n => s.flag (TIL_CVSTAT_SCAL_BUSY n))
    && (s.cal.powered || decide (3 ≤ s.cal.tries))

def State.readyGo (s : State) : State :=
  if s.mayReady then (((s.set GLB_STAT_STATE 2).set ARB_CTRL_EN 1).testHold).arbShow else s

def execReadyEntry (s : State) : Host.Outcome State Fault Refusal := ok s.readyGo

end Sys2Proof.Machine
end

