-- ==== Sys2Proof/Machine/Tables.lean ====
section
/-! DEFINITION. The table window (spec/ file 13, R343, R344; the tables' own rules R112, R113, R180, R181, R213, R214,
R233, R234, R357). -/

namespace Sys2Proof.Machine

open Reg

/-- Words of a table; none where the ID is not listed (R344). -/
def tableSize (id : Nat) : Nat :=
  if id = 1 then 524288 else if id = 4 then 2048 else if id = 5 then 512 else if id = 6 then 1024
  else if id = 7 then 8192 else if id = 8 then 4096 else if id = 9 then 8192 else if id = 10 then 32768 else 0

/-! ### Reads -/

/-- The bank and word of memory that a table word lies in (log entry 22); none where nothing is stored. -/
def State.tableMem (s : State) (id a : Nat) : Option (Nat × Nat) :=
  if id = 1 then if s.nTiles ≤ a / 16384 ∨ a % 4 = 3 then none else some (a / 16384, 3 * (a % 16384 / 4) + a % 4)
  else if id = 6 then some (57, 65536 * 6 + 512 * (if a < 512 then 1 - s.get VRD_CTRL_ACTBANK else s.get VRD_CTRL_ACTBANK)
    + a % 512)
  else if id = 7 then if 24 ≤ a % 32 then none else some (56, 0x4000 + 16 * (a / 32) + a % 32 / 2)
  else if id = 8 then
    some (57, 65536 * 8 + 2048 * (if a < 2048 then 1 - s.get EJS_CTRL_MAPACT else s.get EJS_CTRL_MAPACT) + a % 2048)
  else if id = 10 then some (56, 4 * (a / 8) + a % 8 / 2)
  else some (57, 65536 * id + a)

/-- Word `w` of a log entry (R355). -/
def LogEntry.word (e : LogEntry) (w : Nat) : Nat :=
  if w = 0 then e.stamp % 2 ^ 32
  else if w = 1 then e.stamp / 2 ^ 32 % 2 ^ 32
  else if w = 2 then
    e.src % 4096 + b2n e.fw * 2 ^ 12 + b2n e.forced * 2 ^ 13 + b2n e.unsync * 2 ^ 14 + e.rep % 65536 * 2 ^ 16
  else if w = 3 then e.seq % 2 ^ 32
  else if w = 4 then e.chidx % 8 + e.run % 256 * 2 ^ 8 + e.boot % 65536 * 2 ^ 16
  else if w = 5 then e.d5 % 2 ^ 32 else if w = 6 then e.d6 % 2 ^ 32 else e.d7 % 2 ^ 32

def State.logEntry (s : State) (i : Nat) : LogEntry := mget LogEntry.zero s.evt.ring i

/-- What a table holds at an address. -/
def State.tableWord (s : State) (id a : Nat) : Nat :=
  if id = 1 then (if s.nTiles ≤ a / 16384 ∨ a % 4 = 3 then 0 else s.pb a)
  else if id = 4 then
    let t := if a < 1024 then s.braid.shadow else s.braid.active
    t.word (a % 1024 / 128) (a % 128)
  else if id = 5 then s.coefWord a
  else if id = 6 then
    let b := s.get VRD_CTRL_ACTBANK
    s.clsWord (if a < 512 then 1 - b else b) (a % 512 / 32) (a % 32)
  else if id = 7 then (if 24 ≤ a % 32 then 0 else mget 0 s.sched.log a)
  else if id = 8 then
    let b := s.get EJS_CTRL_MAPACT
    if s.nLanes ≤ a % 2048 then 0 else s.mapWord (if a < 2048 then 1 - b else b) (a % 2048)
  else if id = 9 then (s.queueWords (a / 64) (a / 8 % 8)).getD (a % 8) 0
  else (s.logEntry (a / 8)).word (a % 8)

/-- The words of a record that its first word latches: table and address; none elsewhere (R113, R214, R234, R357). -/
def recordSpan (id a : Nat) : Nat :=
  if id = 1 then (if a % 4 = 0 then 2 else 0)
  else if id = 7 then (if a % 32 = 0 then 23 else 0)
  else if id = 9 ∨ id = 10 then (if a % 8 = 0 then 7 else 0)
  else 0

/-- The first address of the log entry that a FB table address lies in. -/
def entryBase (id a : Nat) : Nat := if id = 7 then a / 32 * 32 else a / 8 * 8

/-- Reads of memory words in order by a port; the flag says that one is uncorrectable (R315). -/
def State.readWords (s : State) (port : Nat) (ws : List (Nat × Nat)) : State × Bool :=
  ws.foldl (fun p w =>
    let q := if w.1 = 57 then p.1.tableRead w.2 else p.1.memRead w.1 w.2 port
    (q.1, p.2 || q.2)) (s, false)

/-- A read of one word with the errors it meets: a log entry in error reads as all zero (R315), any other word in
error reads a free value (log entry 2). -/
def State.tableFetch (s : State) (port id a : Nat) : State × Nat :=
  let v := s.tableWord id a
  match s.tableMem id a with
  | none => (s, v)
  | some (b, w) =>
    if b = 56 then
      let base := entryBase id a
      let p := s.readWords port ((List.range (if id = 7 then 12 else 4)).filterMap fun i => s.tableMem id (base + 2 * i))
      (p.1, if p.2 then 0 else v)
    else
      let p := s.readWords port [(b, w)]
      if p.2 then
        let d := p.1.draw
        (d.2, d.1 % 2 ^ 32)
      else (p.1, v)

/-- A read of a word and of what it latches. -/
def State.tableFetches (s : State) (id a n : Nat) : State × List Nat :=
  (List.range n).foldl (fun p i =>
    let q := p.1.tableFetch 5 id (a + i)
    (q.1, p.2 ++ [q.2])) (s, [])

/-- A window without the latch of a table. -/
def Win.drop (w : Win) (id : Nat) : Win := { w with recd := w.recd.filter fun x => x.1 != id }

def Win.next (w : Win) : Win := if w.autoinc then { w with addr := (w.addr + 1) % 2 ^ 20 } else w

/-- A latched word of a record. -/
def Win.latched (w : Win) (id a : Nat) : Option Nat :=
  match w.recd.find? fun x => x.1 == id with
  | some (_, base, ws) => if base < a then ws[a - base - 1]? else none
  | none => none

/-- A read of GLB_TBL_DATA (R344). -/
def State.tableReadBy (s : State) (r : Requester) : State × Nat :=
  let w := s.win r
  if tableSize w.sel ≤ w.addr then ((s.set GLB_TBL_STAT_RANGE 1).setWin r (w.next.drop w.sel), 0)
  else match w.latched w.sel w.addr with
    | some v => (s.setWin r w.next, v)
    | none =>
      let p := s.tableFetches w.sel w.addr (1 + recordSpan w.sel w.addr)
      let rest := p.2.drop 1
      let w' := w.next.drop w.sel
      (p.1.setWin r (if rest = [] then w' else { w' with recd := w'.recd ++ [(w.sel, w.addr, rest)] }), p.2.headD 0)

/-! ### Writes -/

/-- The implemented bits of a word of a braid table set (R180). -/
def braidMask (w : Nat) : Nat := if w < 64 ∨ w = 65 then 0xFFFFFF else if w = 64 then 0xFFFFFFFF else 0

/-- A write of a table word; the flag says that the owning chapter refuses it (R99, R180, R181, R213, R214, R220, R234,
R357). -/
def State.tablePut (s : State) (id a v : Nat) : State × Bool :=
  if id = 1 then s.pbHostWrite a v
  else if id = 4 then
    if s.flag BRD_CTRL_AUTO || decide (1024 ≤ a) || s.shadowBusy then (s.brdWrErr, true)
    else
      let t := s.braid.shadow
      let t := { t with words := mset 0 t.words (128 * (a / 128) + a % 128) (v &&& braidMask (a % 128)) }
      ({ s with braid := { s.braid with shadow := t } }.wordWritten 57 (65536 * 4 + a), false)
  else if id = 5 then (s.brdWrErr, true)
  else if id = 6 then
    if decide (512 ≤ a) || s.flag VRD_CTRL_SWPEND then (s.set VRD_STAT_WRERR 1, true)
    else
      let b := 1 - s.get VRD_CTRL_ACTBANK
      ((s.setClsWord b (a / 32) (a % 32) (v &&& clsMask (a % 32))).wordWritten 57 (65536 * 6 + 512 * b + a), false)
  else if id = 7 then (s.set VRD_STAT_WRERR 1, true)
  else if id = 8 then
    if s.nLanes ≤ a % 2048 then (s, false)
    else if decide (2048 ≤ a) || s.flag EJS_CTRL_MAPPEND then (s.set EJS_STAT_WRERR 1, true)
    else
      let b := 1 - s.get EJS_CTRL_MAPACT
      ({ s with sched := { s.sched with map := mset 0 s.sched.map (2048 * b + a) (v % 65536) } }.wordWritten 57
        (mapMem b a), false)
  else if id = 9 then (s.set EJS_STAT_WRERR 1, true)
  else (s, true)

/-- A write of GLB_TBL_DATA; the flag says refused (R344). -/
def State.tableWriteBy (s : State) (r : Requester) (v : Nat) : State × Bool :=
  let w := s.win r
  let s := s.setWin r (w.next.drop w.sel)
  if tableSize w.sel ≤ w.addr then (s.set GLB_TBL_STAT_RANGE 1, false)
  else
    let p := s.tablePut w.sel w.addr (v % 2 ^ 32)
    if p.2 then (p.1.set GLB_TBL_STAT_REFUSED 1, true) else p

end Sys2Proof.Machine
end

