-- ==== Sys2Proof/Machine/Tap.lean ====
section
/-! DEFINITION. The image tap: items, records, the ring, grabs (spec/ file 14, R385, R386). -/

namespace Sys2Proof.Machine

open Reg

/-- Lanes a record takes. -/
def State.tapLanes (s : State) : Nat :=
  min (s.inForce ETH_TAPLANES_FIRST + s.inForce ETH_TAPLANES_COUNT) s.nLanes - s.inForce ETH_TAPLANES_FIRST

def State.tapSrc (s : State) : Nat := s.inForce ETH_TAPCTL_SRC

/-- Bytes of a data unit of the source in force. -/
def State.tapUnit (s : State) : Nat :=
  if s.tapSrc = 2 then 8 else if s.tapSrc = 3 then 2 else if s.isForce ETH_TAPCTL_FMT then 4 else 2

/-- Data units of a record. -/
def State.tapUnits (s : State) : Nat := if s.tapSrc = 2 then s.tapLanes else 64 * s.tapLanes

def State.tapRecSize (s : State) : Nat := 64 + s.tapUnits * s.tapUnit

/-- Records that the ring holds (R386). -/
def State.tapN (s : State) : Nat := s.get ETH_TAPSIZE_BYTES / s.tapRecSize

def State.setTap (s : State) (t : Tap) : State := { s with tap := t }

/-- RECSIZE, BUSY and HALT. -/
def State.tapShow (s : State) : State :=
  (((s.set ETH_TAPSTAT_RECSIZE s.tapRecSize).setB ETH_TAPCTL_BUSY s.tapOn).tapHaltShow).ddrShow

/-- A TAP_GRAB whose count is reached completes (R370). -/
def State.grabDone (s : State) : State :=
  match s.tap.grab with
  | some (0, first, taken, missed) =>
    (s.setTap { s.tap with grab := none }).tapShow.opFinish 0x0501 0 (leBytes 4 first ++ leBytes 2 taken ++ leBytes 2 missed)
  | _ => s

/-- A grab takes note of one of its items: taken as record `i`, or missed. -/
def State.grabCount (s : State) (took : Option Nat) : State :=
  match s.tap.grab with
  | some (left, first, taken, missed) =>
    let g := match took with
      | some i => (left - 1, if taken = 0 then i else first, taken + 1, missed)
      | none => (left - 1, first, taken, missed + 1)
    (s.setTap { s.tap with grab := some g }).grabDone
  | none => s

/-- A record passes through its staging words in FB: one in error is passed on as read, so that the data unit it holds is
open, and counted (R315; log entry 97). -/
def State.tapStage (s : State) (r : TapRec) : State × TapRec :=
  (s.errWords 56 fun w => decide (0x5000 ≤ w ∧ w < 0x10000)).foldl (fun p w =>
    let k := Config.tapStaging (p.1.get ETH_TAPWR_INDEX) w
    if k = 0 then p
    else
      let q := p.1.memRead 56 w 4
      if q.2 then
        let d := q.1.draw
        let s := d.2.setTap { d.2.tap with errs := d.2.tap.errs + 1 }
        (s, { p.2 with data := mset 0 p.2.data (k - 1) (d.1 % 2 ^ (8 * p.2.unit)) })
      else (q.1, p.2)) (s, r)

/-- A complete record enters the ring, or is dropped on overrun (R386). -/
def State.tapCommit (s : State) (r : TapRec) : State :=
  let i := s.get ETH_TAPWR_INDEX
  let ahead := (i + 2 ^ 32 - s.get ETH_TAPRD_INDEX) % 2 ^ 32
  if s.tapN < ahead + 1 then
    (((s.bump ETH_TAPDROP_OVERRUN).set ETH_TAPSTAT_OVRSEEN 1).raise Src.tapOverrun).grabCount none
  else
    let p := s.tapStage { r with hdr := r.hdr.set 5 i }
    let s := p.1
    let r := p.2
    let ring := (s.tap.ring.filter fun p => decide (i < p.1 + s.tapN)) ++ [(i, r)]
    ((s.setTap { s.tap with ring := ring }).incr ETH_TAPWR_INDEX).grabCount (some i)

/-- Whether the item now due is one to take: every DECIM-th. -/
def State.tapCount (s : State) : State × Bool :=
  let c := s.tap.count + 1
  if max 1 (s.inForce ETH_TAPCTL_DECIM) ≤ c then (s.setTap { s.tap with count := 0 }, true)
  else (s.setTap { s.tap with count := c }, false)

/-- An item is due: taken, not in turn, or missed while the tap is halted. -/
def State.tapItem (s : State) (take : State → State) : State :=
  if !s.tapOn then s
  else
    let p := s.tapCount
    if !p.2 then p.1
    else if p.1.flag ETH_TAPSTAT_HALT then (p.1.bump ETH_TAPDROP_MISSED).grabCount none
    else take p.1

/-- Header words 2 and 3 (R385). -/
def State.tapHead (s : State) (stamp frame : Nat) (extra : List Nat) : List Nat :=
  [stamp % 2 ^ 32, stamp / 2 ^ 32,
   frame % 65536 + s.tapSrc * 2 ^ 16 + s.inForce ETH_TAPCTL_HYP * 2 ^ 18 + s.inForce ETH_TAPCTL_FMT * 2 ^ 21,
   s.inForce ETH_TAPLANES_FIRST + s.inForce ETH_TAPLANES_COUNT * 2 ^ 16, 0, 0, 0, 0] ++ extra ++ [0, 0, 0, 0]

/-- A frame item at its boundary: a record is opened for it. -/
def State.tapFrame (s : State) : State :=
  if s.tapSrc = 2 then s
  else
    s.tapItem fun s =>
      let h := s.tapHead (s.frameStart + 550) s.frameCnt [0, 0, 0, 0]
      let h := h.set 4 (b2n (s.flag PWR_STAT_DIP) * 32)
      let o : TapOpen := ⟨s.frameCnt, 16 * s.nTiles, ⟨h, s.tapUnit, s.tapUnits, []⟩⟩
      s.setTap { s.tap with opened := s.tap.opened ++ [o] }

/-- The flag bits of a sample in a FMT 1 record, from bit 16 up. -/
def tapFlags (h : Header) (ovr refd bad unl : Bool) : Nat :=
  65536 * (b2n ovr + 2 * b2n refd + 4 * b2n bad + 8 * b2n unl + 16 * b2n h.invalid + 32 * b2n h.settle + 64 * b2n h.swap
    + 128 * b2n h.partialF)

/-- What the record takes of sample `k` of a row group. -/
def tapValue (src unit : Nat) (h : Header) (w : Nat) (y : Samp) (u : Unlayed) : Nat :=
  if src = 3 then w
  else if src = 1 then u.x + (if unit = 4 then tapFlags h u.ovr y.refd y.bad u.unl else 0)
  else y.tc + (if unit = 4 then tapFlags h y.ovr y.refd y.bad false else 0)

/-- A row group adds its samples to the record of its frame. -/
def State.tapGroup (s : State) (h : Header) (frame : Nat) (ws : List Nat) (ys : List Samp) (us : List Unlayed) : State :=
  match s.tap.opened.find? (fun o => o.frame == frame) with
  | none => s
  | some o =>
    let first := bits (o.record.hdr.getD 3 0) 0 11
    let lanes := o.record.units / 64
    let src := bits (o.record.hdr.getD 2 0) 16 2
    let data := (List.range 256).foldl (fun m k =>
      let l := 64 * h.tile + k / 4
      if l < first ∨ first + lanes ≤ l then m
      else
        match ws[k]?, ys[k]?, us[k]? with
        | some w, some y, some u =>
          mset 0 m ((4 * h.rgrp + k % 4) * lanes + (l - first)) (tapValue src o.record.unit h w y u)
        | _, _, _ => m) o.record.data
    let f := b2n h.invalid + 2 * b2n h.settle + 4 * b2n h.swap + 8 * b2n h.partialF + 16 * b2n h.unsync
    let r : TapRec := { o.record with data := data, hdr := o.record.hdr.set 4 (o.record.hdr.getD 4 0 ||| f) }
    let rest := s.tap.opened.filter fun x => x.frame != frame
    if o.left ≤ 1 then (s.setTap { s.tap with opened := rest }).tapCommit r
    else s.setTap { s.tap with opened := rest ++ [{ o with left := o.left - 1, record := r }] }

/-- The header words of a completed slice (R166). -/
def Row.header (r : Row) : List Nat :=
  [r.stamp % 2 ^ 32, r.stamp / 2 ^ 32,
   r.start % 65536 + r.hyp * 2 ^ 16 + b2n r.partialF * 2 ^ 19 + r.pcause * 2 ^ 20 + b2n r.dip * 2 ^ 22
     + b2n r.unsync * 2 ^ 23 + r.tag % 256 * 2 ^ 24, r.depth % 1024]

/-- The 64-bit lane record of a completed slice (R166). -/
def Cell.record (c : Cell) : Nat :=
  c.um + c.lm * 2 ^ 16 + c.uw * 2 ^ 32 + c.lw * 2 ^ 42 + b2n c.ovrh * 2 ^ 52 + b2n c.ovrl * 2 ^ 53
    + b2n c.interp * 2 ^ 54 + b2n c.blank * 2 ^ 55 + b2n c.blind * 2 ^ 56 + b2n c.ecc * 2 ^ 57

/-- A completed slice of HYP is an item of source 2. -/
def State.tapSlice (s : State) (r : Row) : State :=
  if s.tapSrc ≠ 2 ∨ r.hyp ≠ s.inForce ETH_TAPCTL_HYP then s
  else
    s.tapItem fun s =>
      let first := s.inForce ETH_TAPLANES_FIRST
      let data := (List.range s.tapLanes).foldl (fun m i =>
        mset 0 m i (((r.cell (first + i)).map Cell.record).getD 0)) []
      s.tapCommit ⟨s.tapHead r.stamp r.start r.header, 8, s.tapLanes, data⟩

/-- The bytes of a record (R385). -/
def TapRec.bytesAt (r : TapRec) (ofs n : Nat) : List Nat :=
  (List.range n).map fun i =>
    let a := ofs + i
    if a < 64 then bits (r.hdr.getD (a / 4) 0) (8 * (a % 4)) 8
    else
      let b := a - 64
      bits (mget 0 r.data (b / max 1 r.unit)) (8 * (b % max 1 r.unit)) 8

/-- A TAP_GRAB of `n` records starts (R366, R371). -/
def State.grabStart (s : State) (n : Nat) : State :=
  (s.setTap { s.tap with grab := some (n, 0, 0, 0) }).tapShow

/-- A TAP_GRAB that is aborted; records already written stay (R372). -/
def State.grabAbort (s : State) : State :=
  let det := match s.tap.grab with
    | some (_, first, taken, missed) => leBytes 4 first ++ leBytes 2 taken ++ leBytes 2 missed
    | none => []
  ((s.setTap { s.tap with grab := none }).tapShow).opFinish 0x0501 3 det

end Sys2Proof.Machine
end

