-- ==== Sys2Proof/Machine/Tether.lean ====
section
/-! DEFINITION. Column conversion and the tether: row groups, spare hand-overs, self-calibration, receivers, the
control lane (spec/ file 03; test patterns of file 18). -/

namespace Sys2Proof.Machine

open Reg

/-! ### Test patterns (R462) -/

/-- PRBS-15 of 1 + x^14 + x^15: `n` steps from a 15-bit register, the new bits shifted in at the low end (log entry
9). -/
def prbsStep : Nat → Nat → Nat
  | 0, r => r
  | n + 1, r => prbsStep n (r * 2 % 32768 + (bits r 14 1 + bits r 13 1) % 2)

/-- The words of PAT 1: 14 bits each, from all ones at each row group. -/
def prbsWords : Nat → Nat → List Nat
  | 0, _ => []
  | n + 1, r => let r' := prbsStep 14 r; r' % 16384 :: prbsWords n r'

/-- The pattern of a row group (R462); PAT 3 counts as 0. -/
def State.pattern (s : State) (g frame : Nat) : List Nat :=
  let p := s.get TMX_TPCTL_PAT
  if p = 1 then prbsWords 256 0x7FFF
  else if p = 2 then List.replicate 256 (s.get TMX_TPWORD_WORD)
  else (List.range 256).map fun i => ((64 * g + i / 4) * 4 + i % 4 + frame) % 16384

/-- A tile takes part in the test mode in force. -/
def State.underTest (s : State) (mode n : Nat) : Bool := s.tmx.mode == mode && bitOf (s.get TMX_TPTILES_TILES) n

/-! ### Conversion (R32, R45 to R50, R63, R66 to R70) -/

/-- The header of the row group whose integration begins in slot `g` of the present frame (R33, R67 to R69). -/
def State.newHeader (s : State) (n g : Nat) : Header :=
  let c := s.scnt n
  { stamp := s.slotAt s.sensor.gridK g + 550, rgrp := g, tile := n, gain := (s.tile n).gain, settle := c != 0,
    swap := false, partialF := s.sensor.partialF, unsync := s.flag GLB_STAT_UNSYNC, invalid := false, scnt := c,
    swslice := 0, swlane := 0, swspare := 0, swdir := false, frame := s.frameCnt % 65536, crc := 0 }

/-- The factor entry that converts slice `k`: its own in a hand-over, else that of a spare standing in (R74). -/
def Tile.convFactor (t : Tile) (k : Nat) : Factor :=
  let own := match t.swap with
    | some w => w.slice == k
    | none => false
  match t.spareOf k with
  | some i => if own then t.factor k else t.factor (256 + i)
  | none => t.factor k

/-- The place among a row group's results, as the array reads them, of the sample that is slice `k` of the logical row
group: ROWREV turns the rows of the array over and COLREV its lanes (R29, R67; log entry 68). -/
def State.physical (s : State) (k : Nat) : Nat :=
  let j := if s.flag STG_CTRL_COLREV then 63 - k / 4 else k / 4
  let i := if s.flag STG_CTRL_ROWREV then 3 - k % 4 else k % 4
  4 * j + i

/-- What the trims in force add to the raw code of slice `k` of row group `g`: a step of each is TRIMSTEP, in 1/16 code
at GAIN = 2, times 2^(GAIN − 2) (R43, R136; log entry 69). -/
def State.trimCode (s : State) (n g k : Nat) : Int :=
  let t := s.tile n
  let px := s.get (TIL_TRIMSTEP_PIXSTEP n) * mget 0 t.trims (64 * (4 * g + k % 4) + k / 4)
  let sk := s.get (TIL_TRIMSTEP_SKIMSTEP n) * mget 0 t.skims (k / 4)
  roundDiv ((px + sk) * 2 ^ t.gain) 64

/-- The sample words of a row group before REFD, and the lanes that overranged. `raw` holds the results of the array
with every trim at code 0. -/
def State.convert (s : State) (n g : Nat) (raw : List Int) : List (Nat × Bool) :=
  (List.range 256).map fun k =>
    convCode ((s.tile n).convFactor k) (raw.getD (s.physical k) 0 + s.trimCode n g k)

def lanesOvr (xs : List (Nat × Bool)) : List Nat :=
  (List.range 64).filter fun j => (List.range 4).any fun i => (xs.getD (4 * j + i) (0, false)).2

/-- A sample word with OVR or REFD (R46, R66): REFD when another lane overranged in either row group before. -/
def sampleWord (prior : List Nat) (k : Nat) (x : Nat × Bool) : Nat :=
  if x.2 then x.1 + 2 ^ 14
  else if prior.any (fun l => l != k / 4) then x.1 + 2 ^ 15
  else x.1

/-- The counters of a converted row group (R50): OVRLAST takes the highest slice of the highest lane (log entry 10). -/
def State.countOvr (s : State) (n g : Nat) (xs : List (Nat × Bool)) (words : List Nat) : State :=
  let hits := (List.range 256).filter fun k => (xs.getD k (0, false)).2
  let s := s.bumpBy (TIL_OVRCNT_COUNT n) hits.length
  let s := match hits.getLast? with
    | some k =>
      (((s.set (TIL_OVRLAST_LANE n) (k / 4)).set (TIL_OVRLAST_RGRP n) g).set (TIL_OVRLAST_SLICE n) (k % 4)).setB
        (TIL_OVRLAST_LOW n) ((xs.getD k (0, false)).1 == 0)
    | none => s
  if words.any (fun w => bitOf w 15) then s.bump (TIL_REFDCNT_COUNT n) else s

/-- Put the row group that integrated last on the lane, converted. -/
def State.sendGroup (s : State) (n : Nat) (h : Header) (raw : List Int) : State :=
  let t := s.tile n
  let h := match t.swap with
    | some w => { h with swap := true, swslice := w.slice % 4, swlane := w.slice / 4, swspare := w.spare,
                         swdir := w.exit }
    | none => h
  let inject := s.underTest 1 n
  let xs := s.convert n h.rgrp raw
  let words := if inject then s.pattern h.rgrp h.frame
    else (List.range 256).map fun k => sampleWord (t.ovr1 ++ t.ovr2) k (xs.getD k (0, false))
  let h := if inject then { h with settle := false, scnt := 0 } else h
  let s := if inject then s else s.countOvr n h.rgrp xs words
  let g : RowGroup := ⟨{ h with crc := rowCrc words }, words⟩
  s.setTile n { t with integ := none, swap := none, sent := t.sent ++ [g],
                       ovr1 := if inject then [] else lanesOvr xs, ovr2 := t.ovr1 }

/-- A row-group slot of a tile begins: the row group before is converted, from the results given, and sent; the
next one integrates (R32). A tile in self-calibration sends nothing (R79). -/
def State.rowSlot (s : State) (n : Nat) (raw : List Int) : State :=
  if n < s.nTiles then
    if s.flag (TIL_CVSTAT_SCAL_BUSY n) then s.setTile n { s.tile n with integ := none }
    else
      let prev := (s.tile n).integ
      let g := match prev with
        | some h => if h.frame = s.frameCnt % 65536 then h.rgrp + 1 else 0
        | none => s.slotNow
      let s := if g < 16 then s.advance (s.slotAt s.sensor.gridK g) else s
      let s := match prev with
        | some h => s.sendGroup n h raw
        | none => s
      if g < 16 then s.setTile n { s.tile n with integ := some (s.newHeader n g) } else s
  else s

def execRowGroupSlot (n : Nat) (raw : List Int) (s : State) : Host.Outcome State Fault Refusal := ok (s.rowSlot n raw)

/-! ### Spare hand-overs (R72 to R76, R460) -/

/-- A visit leaves a slice its factors, and raises CONV_FAULT where it shows the slice at fault (R76). -/
def State.putFactor (s : State) (n k : Nat) (f : Factor) (fault : Bool) : State :=
  let s := s.setTile n ((s.tile n).setFactor k f)
  if fault then s.raise (Src.convFault n) else s

/-- The next slice of the queue at or after `k` with no spare parked on it (R72). -/
def Tile.nextSlice (t : Tile) (k : Nat) : Nat :=
  match (List.range 256).find? (fun d => !t.parkedOn ((k + d) % 256)) with
  | some d => (k + d) % 256
  | none => k

/-- An entry: the spare's offset factor takes the difference, and it stands in from the next row group (R74). The header
has room for one hand-over: of two in one row group it shows the later (log entry 70). -/
def State.swapEntry (s : State) (n i k : Nat) (park : Bool) (cSlice cSpare : Int) : State :=
  let t := s.tile n
  let f := t.factor (256 + i)
  let d := ((convCode (t.factor k) cSlice).1 : Int) - ((convCode f cSpare).1 : Int)
  let x := t.spare i
  let t := t.setFactor (256 + i) { f with ofs := f.ofs + d }
  let t := t.setSpare i { x with phase := if park then .parked else .serving, slice := k, parkOn := none,
                                 due := x.due + 7812500, rot := if park then false else x.rot }
  let t := { t with swap := some ⟨i, k, false⟩, next := if park then t.next else (k + 1) % 256 }
  (s.setTile n t).tileReport n

/-- One visit's step toward the computed factors (R75). -/
def visitStep (f : Factor) (gain ofs : Int) : Factor :=
  { f with gain := f.gain + clampI (-4) 4 (gain - f.gain), ofs := f.ofs + clampI (-2) 2 (ofs - f.ofs) }

/-- An exit: the slice returns with its new factors, and the difference is recorded and judged (R74 to R76). The next
visit counts from the scheduled exit, so that the visits keep their period (R72); a tile in self-calibration sends no row
group that could show the hand-over (R79). -/
def State.swapExit (s : State) (n i : Nat) (cSlice cSpare gain ofs : Int) : State :=
  let t := s.tile n
  let x := t.spare i
  let k := x.slice
  let f := t.factor k
  let visit := x.phase == .serving
  let good := plausible gain ofs
  let f' := if visit && good then visitStep f gain ofs else f
  let d := ((convCode f' cSlice).1 : Int) - ((convCode (t.factor (256 + i)) cSpare).1 : Int)
  let big := decide (s.get (TIL_SWAPLIM_LIMIT n) < d.natAbs)
  let o := if big then f.overs + 1 else 0
  let fault := visit && (!good || decide (3 ≤ o))
  let f' := if visit then { f' with overs := o, fail := fault || big && f.fail } else f'
  let s := (s.setS (TIL_SWAPDIFF_LAST n) d).set (TIL_SWAPDIFF_MAXABS n) (max (s.get (TIL_SWAPDIFF_MAXABS n)) d.natAbs)
  let s := s.putFactor n k f' fault
  let t := s.tile n
  let busy := s.flag (TIL_CVSTAT_SCAL_BUSY n)
  let rot := if visit then x.rot else s.flag (TIL_CVCTRL_ROTEN n) && !busy
  let t := t.setSpare i { x with phase := .idle, rot := rot, release := false, due := if visit then x.due else s.time }
  (s.setTile n { t with swap := if busy then none else some ⟨i, k, true⟩ }).tileReport n

/-- A hand-over of a spare at the first row-group boundary at or after its scheduled time (R74): an entry while it
is idle and rotates or has been asked to park, an exit while it serves or its release was asked for. -/
def State.handover (s : State) (n i : Nat) (cSlice cSpare gain ofs : Int) : State :=
  if s.fuses.nk1024 || decide (s.nTiles ≤ n ∨ 4 ≤ i) then s
  else
    let t := s.tile n
    let x := t.spare i
    match x.phase with
    | .idle =>
      match x.parkOn with
      | some k => s.swapEntry n i k true cSlice cSpare
      | none => if x.rot then (s.advance (floor2 x.due)).swapEntry n i (t.nextSlice t.next) false cSlice cSpare else s
    | .serving => (s.advance (floor2 x.due)).swapExit n i cSlice cSpare gain ofs
    | .parked => if x.release then s.swapExit n i cSlice cSpare gain ofs else s

def execSpareHandover (n i : Nat) (cSlice cSpare gain ofs : Int) (s : State) : Host.Outcome State Fault Refusal :=
  ok (s.handover n i cSlice cSpare gain ofs)

/-- ROTEN: rotation starts or stops (R72, R77), in self-calibration only as that ends (R80); the NK1024 has none. -/
def State.rotenW (s : State) (n : Nat) (en : Bool) : State :=
  if s.fuses.nk1024 then s
  else
    let s := s.setB (TIL_CVCTRL_ROTEN n) en
    if en then (if s.biasOff || s.flag (TIL_CVSTAT_SCAL_BUSY n) then s else s.startRotation n) else s.stopRotation n

def execTilRotenWrite (r : Requester) (n : Nat) (en : Bool) (s : State) : Host.Outcome State Fault Refusal :=
  ok (if n < s.nTiles then s.guardW r (0x4060 + 0x100 * n) (·.rotenW n en) else s)

/-- A park of SPARE on SLICE; ignored with CFGERR when either is taken (R460). -/
def State.parkS (s : State) (n k i : Nat) : State :=
  if s.fuses.nk1024 then s
  else
    let s := (s.set (TIL_SUBST_SLICE n) k).set (TIL_SUBST_SPARE n) i
    let i := i % 4
    let k := k % 256
    let t := s.tile n
    if (t.spare i).phase = .parked ∨ t.parkedOn k then s.cfgErr
    else s.setTile n (t.setSpare i { t.spare i with parkOn := some k })

def execTilPark (r : Requester) (n k i : Nat) (s : State) : Host.Outcome State Fault Refusal :=
  ok (if n < s.nTiles then s.guardW r (0x407C + 0x100 * n) (·.parkS n k i) else s)

/-- A release of a parked spare (R460); one that is not parked only forgets a park still to come. -/
def State.releaseS (s : State) (n i : Nat) : State :=
  if s.fuses.nk1024 then s
  else
    let s := s.set (TIL_SUBST_SPARE n) i
    let i := i % 4
    let t := s.tile n
    if (t.spare i).phase = .parked then s.setTile n (t.setSpare i { t.spare i with release := true }) else s

def execTilRelease (r : Requester) (n i : Nat) (s : State) : Host.Outcome State Fault Refusal :=
  ok (if n < s.nTiles then s.guardW r (0x407C + 0x100 * n) (·.releaseS n i) else s)

/-! ### Self-calibration (R65, R78 to R80) -/

/-- Start self-calibration of a tile; ignored while sorting runs or the tile calibrates (R78). The command crosses the
control lane, and waits while that is lost (R83, R88). -/
def State.scalStart (s : State) (n : Nat) : State :=
  if s.sorting || s.flag (TIL_CVSTAT_SCAL_BUSY n) then s.cfgErr
  else if s.sensor.laneLost then s.stagePut (.scal n)
  else s.scalBegin n

def execTilScal (r : Requester) (n : Nat) (s : State) : Host.Outcome State Fault Refusal :=
  ok (if n < s.nTiles then s.guardW r (0x4060 + 0x100 * n) (·.scalStart n) else s)

/-- The fitted factors are stored where plausible (R64, R80); the tile settles for the rest of this frame and 4 whole
ones (R79; log entry 71). Rotation resumes unless bias is off or ramping: then it starts with the ramp's end (R77, R80;
log entry 71). -/
def State.scalDone (s : State) (n : Nat) (fs : List (Int × Int)) : State :=
  if s.flag (TIL_CVSTAT_SCAL_BUSY n) then
    let count := if s.fuses.nk1024 then 256 else 260
    let t := (List.range count).foldl (fun (t : Tile) k =>
      let f := t.factor k
      let p := fs.getD k (f.gain, f.ofs)
      t.setFactor k (if plausible p.1 p.2 then ⟨p.1, p.2, false, 0⟩ else { f with fail := true })) (s.tile n)
    let anyFail := t.factors.any fun p => p.2.fail
    let s := s.setTile n { t with settle := max t.settle 4, owed := 4 }
    let s := (s.set (TIL_CVSTAT_SCAL_BUSY n) 0).set (TIL_CVSTAT_SCAL_DONE n) 1
    let s := if anyFail then s.set (TIL_CVSTAT_SCAL_FAIL n) 1 else s
    let s := (s.tileReport n).raise (Src.convCal n)
    if s.flag (TIL_CVCTRL_ROTEN n) && !s.biasOff then s.startRotation n else s
  else s

/-- The slice or spare that CFSEL selects. -/
def State.cfIndex (s : State) (n : Nat) : Nat :=
  if s.flag (TIL_CFSEL_SPARE n) then 256 + s.get (TIL_CFSEL_INDEX n) % 4 else s.get (TIL_CFSEL_INDEX n)

def State.cfAdvance (s : State) (n : Nat) : State :=
  if s.flag (TIL_CFSEL_AUTOINC n) then s.incr (TIL_CFSEL_INDEX n) else s

/-- CFDATA: writable only while sorting is stopped and no self-calibration runs (R65). The factors cross the control
lane, and wait while that is lost (R83, R88). -/
def State.cfdataW (s : State) (n : Nat) (v : Word) : State :=
  let k := s.cfIndex n
  let s :=
    if s.sorting || s.tileList.any (fun m => s.flag (TIL_CVSTAT_SCAL_BUSY m)) then s.cfgErr
    else
      let w := Setting.factor n k (fldOf (TIL_CFDATA_GAINF n) v) (sgn 12 (fldOf (TIL_CFDATA_OFSF n) v))
      if s.sensor.laneLost then s.stagePut w else s.applySetting w
  s.cfAdvance n

def execTilCfdataWrite (r : Requester) (n : Nat) (v : Word) (s : State) : Host.Outcome State Fault Refusal :=
  ok (if n < s.nTiles then s.guardW r (0x406C + 0x100 * n) (·.cfdataW n v) else s)

/-! ### The receiver (R71, R79, R86 to R89) -/

/-- The stamp a row group must carry, by the start and rate of its frame (R33): the present frame and the one before
by their slots of the present grid. -/
def State.expectedStamp (s : State) (frame g : Nat) : Nat :=
  let k := s.sensor.gridK
  match s.corr.ctx.find? (fun c => c.frame == frame) with
  | some c =>
    if c.rate = s.sensor.rate ∧ c.start = s.slotAt k 0 then s.slotAt k g + 550
    else if c.rate = s.sensor.rate ∧ c.start = s.slotAt (k - 1) 0 then s.slotAt (k - 1) g + 550
    else floor2 (c.start + g * 1000000000 / (16 * max 1 c.rate)) + 550
  | none => s.slotAt k g + 550

/-- A row group that stands in where none arrived: every word 0, INVALID (R71, R79). SCNT is 7 and SETTLE 0 whatever the
reason, and its stamp that of its place (log entry 72). -/
def State.blankGroup (s : State) (n frame g : Nat) : RowGroup :=
  ⟨{ stamp := s.expectedStamp frame g, rgrp := g, tile := n, gain := (s.tile n).gain, settle := false,
     swap := false, partialF := false, unsync := false, invalid := true, scnt := 7, swslice := 0, swlane := 0,
     swspare := 0, swdir := false, frame := frame % 65536, crc := 0 }, List.replicate 256 0⟩

/-- A header mismatch of R86. -/
def State.headerBad (s : State) (n frame g : Nat) (h : Header) : Bool :=
  let e := s.expectedStamp frame g
  h.rgrp != g || h.tile != n || h.frame != frame % 65536 || decide (20 < ((h.stamp : Int) - e).natAbs)

/-- The pattern check of inject mode (R462). -/
def State.tpCheck (s : State) (n : Nat) (g : RowGroup) : State :=
  let p := s.pattern g.hdr.rgrp g.hdr.frame
  (List.range 256).foldl (fun s k =>
    if g.words.getD k 0 = p.getD k 0 then s
    else (((s.bump TMX_TPERR_COUNT).set TMX_TPERR_TILE n).set TMX_TPERR_LANE (k / 4)).set TMX_TPERR_RGRP g.hdr.rgrp) s

def b2w (b : Bool) (i : Nat) : Nat := if b then 2 ^ i else 0

/-- H1 as a 64-bit block (R67). -/
def headerH1 (h : Header) : Nat :=
  h.rgrp % 16 + h.tile % 32 * 2 ^ 4 + h.gain % 4 * 2 ^ 9 + b2w h.settle 11 + b2w h.swap 12 + b2w h.partialF 13
    + b2w h.unsync 14 + b2w h.invalid 15 + h.scnt % 8 * 2 ^ 16 + h.swslice % 4 * 2 ^ 20 + h.swlane % 64 * 2 ^ 22
    + h.swspare % 4 * 2 ^ 28 + b2w h.swdir 30 + h.frame % 65536 * 2 ^ 32 + h.crc % 65536 * 2 ^ 48

/-- A header from its two blocks. -/
def headerOf (h0 h1 : Nat) : Header :=
  { stamp := h0, rgrp := bits h1 0 4, tile := bits h1 4 5, gain := bits h1 9 2, settle := bitOf h1 11,
    swap := bitOf h1 12, partialF := bitOf h1 13, unsync := bitOf h1 14, invalid := bitOf h1 15, scnt := bits h1 16 3,
    swslice := bits h1 20 2, swlane := bits h1 22 6, swspare := bits h1 28 2, swdir := bitOf h1 30,
    frame := bits h1 32 16, crc := bits h1 48 16 }

/-- The 132 words of a row group in the replay buffer (R463). -/
def groupWords (g : RowGroup) : List Nat :=
  let h1 := headerH1 g.hdr
  [g.hdr.stamp % 2 ^ 32, g.hdr.stamp / 2 ^ 32 % 2 ^ 32, h1 % 2 ^ 32, h1 / 2 ^ 32]
    ++ (List.range 128).map fun i => g.words.getD (2 * i) 0 + g.words.getD (2 * i + 1) 0 * 65536

/-- Capture mode: the next whole frame of the capture tile goes to the replay buffer (R463). -/
def State.tpCapture (s : State) (n frame : Nat) (g : RowGroup) : State :=
  if s.tmx.mode ≠ 2 ∨ s.get TMX_TPCTL_TILE ≠ n ∨ s.tmx.capGot ≥ 16 then s
  else
    let start := g.hdr.rgrp = 0 ∧ s.tmx.capGot = 0
    if start ∨ s.tmx.capFrame = some frame then
      let ws := groupWords g
      let buf := (List.range 132).foldl (fun m w => mset 0 m (132 * g.hdr.rgrp + w) (ws.getD w 0)) s.tmx.buf
      let got := s.tmx.capGot + 1
      let s := { s with tmx := { s.tmx with buf := buf, capFrame := some frame, capGot := got } }
      if got = 16 then s.set TMX_TPSTAT_CAPDONE 1 else s
    else s

/-- Replay: the buffer's header and samples under the live RGRP, TILE, FRAME and stamp (R463). -/
def State.tpReplay (s : State) (n frame g : Nat) : RowGroup :=
  let w := fun i => mget 0 s.tmx.buf (132 * g + i)
  let h := headerOf 0 (w 2 + w 3 * 2 ^ 32)
  ⟨{ h with stamp := s.expectedStamp frame g, rgrp := g, tile := n, frame := frame % 65536 },
   (List.range 256).map fun i => bits (w (4 + i / 2)) (16 * (i % 2)) 16⟩

/-- The place of the receiver's next row group; marks that a past frame has used up go. -/
def Rx.step (r : Rx) : Rx :=
  if r.rgrp = 15 then
    { r with frame := (r.frame + 1) % 2 ^ 32, rgrp := 0,
             through := r.through.filter fun f => decide (0 < frameDiff f r.frame) }
  else { r with rgrp := r.rgrp + 1 }

/-- The row group at the receiver's place never began: its frame was ended by a rejoin (R419). -/
def Rx.missing (r : Rx) : Bool :=
  match r.cut with
  | some p => p.1 == r.frame && decide (p.2 ≤ r.rgrp)
  | none => false

/-- An INVALID row group at the receiver's place. -/
def placed (n : Nat) (r : Rx) (g : RowGroup) : RowGroup :=
  ⟨{ g.hdr with invalid := true, rgrp := r.rgrp, tile := n, frame := r.frame % 65536 }, g.words⟩

/-- A row group comes to the receiver's place, INVALID or not. -/
def State.take (s : State) (n : Nat) (g : RowGroup) (inv : Bool) : State :=
  let r := s.rx n
  let g := if inv then placed n r g else g
  let s := (if inv then s.bump (TIL_TXINVCNT_COUNT n) else s).tpCapture n r.frame g
  s.setRx n { (s.rx n).step with fifo := (s.rx n).fifo ++ [g] }

/-- The receiver supplies the row group of its place as INVALID (R71, R79). -/
def State.supply (s : State) (n : Nat) : State := s.take n (s.blankGroup n (s.rx n).frame (s.rx n).rgrp) true

/-- How many row groups place `a` lies after place `b`. -/
def placeDiff (a b : Nat × Nat) : Int := 16 * frameDiff a.1 b.1 + (a.2 : Int) - b.2

/-- The receiver comes to a place: those before it that it has not had it supplies as INVALID (R71). A receiver that has
not yet aligned takes its first place so. -/
def State.anchor (s : State) (n : Nat) (p : Nat × Nat) : State :=
  let r := s.rx n
  if !r.slipped && !s.flag (TIL_TXSTAT_ALIGNED n) then s.setRx n { r with frame := p.1, rgrp := p.2 }
  else (List.range (placeDiff p (r.frame, r.rgrp)).toNat).foldl (fun s _ => s.supply n) s

/-- The faults that a row group of frame `frame` meets, each with its event and counter (R86). -/
def State.groupFaults (s : State) (n frame stamp : Nat) (overflow crcBad hdrBad : Bool) : State :=
  let s := if overflow then s.slip n 2 true stamp frame else s
  let s := if crcBad then (s.rxFault n 4 stamp).bump (TIL_TXCRCCNT_COUNT n) else s
  if hdrBad then (s.rxFault n 5 stamp).bump (TIL_TXCRCCNT_COUNT n) else s

/-- The tether receiver takes a row group, as sent or as given; with none on the lane its place is filled with an
INVALID one (R71, R86). One whose place has been filled is checked and goes no further. -/
def State.receive (s : State) (n : Nat) (given : Option RowGroup) (overflow : Bool) : State :=
  if s.nTiles ≤ n then s
  else
    let r := s.rx n
    let t := s.tile n
    let none' := s.flag (TIL_CVSTAT_SCAL_BUSY n) || r.missing
    let replay := s.underTest 3 n
    let arrived := if none' then none else match given with
      | some g => some ⟨g.hdr, (List.range 256).map fun k => g.words.getD k 0 % 65536⟩
      | none => t.sent.head?
    let p := if none' then (r.frame, r.rgrp) else s.lanePlace n
    let late := decide (placeDiff p (r.frame, r.rgrp) < 0) && (r.slipped || s.flag (TIL_TXSTAT_ALIGNED n))
    let s := (if r.missing then s else s.setTile n { t with sent := t.sent.tail }).anchor n p
    -- OVERRANGE is raised once the row group has reached the logic die, with the header's stamp (R50)
    let s := match arrived with
      | some g => if g.words.any (fun w => bitOf w 14) && !s.srcStatus (Src.overrange n)
          then s.occurAt (Src.overrange n) false g.hdr.stamp else s
      | none => s
    let g := if replay then s.tpReplay n p.1 p.2 else arrived.getD (s.blankGroup n p.1 p.2)
    let checked := !replay && arrived.isSome
    let crcBad := checked && rowCrc g.words != g.hdr.crc
    let hdrBad := checked && s.headerBad n p.1 p.2 g.hdr
    let s := s.groupFaults n p.1 g.hdr.stamp overflow crcBad hdrBad
    let s := if arrived.isSome && !overflow && !crcBad && !hdrBad && !(s.rx n).slipped
      then (s.set (TIL_TXSTAT_LOCK n) 1).set (TIL_TXSTAT_ALIGNED n) 1 else s
    let s := if s.underTest 1 n && arrived.isSome then s.tpCheck n g else s
    if late then s
    else s.take n g (s.rxInvalid n p.1 || crcBad || hdrBad || arrived.isNone && !replay)

def execRowGroupReceive (n : Nat) (g : Option RowGroup) (ov : Bool) (s : State) : Host.Outcome State Fault Refusal :=
  ok (s.receive n g ov)

/-- The stamp of the row group whose place is next. -/
def State.rxStamp (s : State) (n : Nat) : Nat := s.expectedStamp (s.rx n).frame (s.rx n).rgrp

/-- The lane regains lock and the next SOG's header passes (R87). -/
def State.tetherRealignS (s : State) (n : Nat) : State :=
  if n < s.nTiles && (s.rx n).slipped then s.realign n else s

def execTetherRealign (n : Nat) (s : State) : Host.Outcome State Fault Refusal := ok (s.tetherRealignS n)

/-- A further 16 frames have passed without realignment (R87). -/
def State.realignTimeout (s : State) (n : Nat) : State :=
  if n < s.nTiles && (s.rx n).slipped then
    (s.setRx n { s.rx n with slipFrame := s.frameCnt }).raise (Src.tetherSlip n)
  else s

def execTetherRealignTimeout (n : Nat) (s : State) : Host.Outcome State Fault Refusal := ok (s.realignTimeout n)

/-- The ALIGN block after row group 15 carries the frame count of the row groups before it (R82): the receiver's place
is row group 0 of the frame after, and a slipped lane is retried (R87). -/
def State.alignS (s : State) (n frame : Nat) (headerOk : Bool) : State :=
  if s.nTiles ≤ n then s
  else
    let s := s.anchor n ((s.fullFrame frame + 1) % 2 ^ 32, 0)
    if (s.rx n).slipped && headerOk then s.realign n else s

def execAlignBlock (n frame : Nat) (headerOk : Bool) (s : State) : Host.Outcome State Fault Refusal :=
  ok (s.alignS n frame headerOk)

/-- 16 invalid sync headers among 64 blocks (R86). -/
def State.lockLoss (s : State) (n : Nat) (counted : Bool) : State :=
  if n < s.nTiles then s.slip n 3 counted (s.rxStamp n) (s.rx n).frame else s

def execTetherBlockLockLoss (n : Nat) (s : State) : Host.Outcome State Fault Refusal := ok (s.lockLoss n true)

/-- RESYNC: as a loss of block lock, not counted in TXSLIPCNT (R89). -/
def execTilResync (r : Requester) (n : Nat) (s : State) : Host.Outcome State Fault Refusal :=
  ok (if n < s.nTiles then s.guardW r (0x4080 + 0x100 * n) (·.lockLoss n false) else s)

/-! ### The control lane (R83, R88) -/

/-- The oldest setting still on the downward lane reaches the sensor tier now. -/
def State.laneMessage (s : State) : State :=
  if s.sensor.laneLost then s
  else { s with sensor := { s.sensor with staged := arriveFirst (s.dueOf s.time) s.sensor.staged } }

def execControlLaneMessage (s : State) : Host.Outcome State Fault Refusal := ok s.laneMessage

def State.laneLoss (s : State) : State :=
  { s with sensor := { s.sensor with laneLost := true } }.raise Src.tetherCtl

def execControlLaneLoss (s : State) : Host.Outcome State Fault Refusal := ok s.laneLoss

/-- A setting still to cross sets out at `t`. -/
def restart (t : Nat) (x : Staged) : Staged := ⟨x.what, if x.due.isNone then t else x.written, x.due, x.tied⟩

/-- Relock: row groups up to the frame in progress stay INVALID, and settings still to cross set out now (R88). -/
def State.laneRelock (s : State) : State :=
  if s.sensor.laneLost then
    let staged := s.sensor.staged.map (restart s.time)
    { s with sensor := { s.sensor with laneLost := false, lostThrough := some s.frameCnt, staged := staged } }
  else s

def execControlLaneRelock (s : State) : Host.Outcome State Fault Refusal := ok s.laneRelock

end Sys2Proof.Machine
end

