-- ==== Sys2Proof/Machine/RegWrite.lean ====
section
/-! DEFINITION. What a write to each register does, by block (R12 to R15, R319, R339, R342; the register tables of
every chapter). -/

namespace Sys2Proof.Machine

open Reg

/-! ### Common parts -/

/-- A field's bits of a written word that hardware sets in the same cycle stay set (R15); a field that applies at a
boundary is staged (R38). -/
def State.writeOne (s : State) (v hw : Nat) (f : Fld) : State :=
  if f.ty = .rw ∧ liveFlds.any (fun g => g.key == f.key) then s.stageFld f (bits v f.lo f.width) else s.writeFld v hw f

/-- A register whose write acts on each field by its type alone (R12). -/
def State.plainW (s : State) (a v hw : Nat) : State :=
  (fieldsAt a).foldl (fun s f => s.writeOne (v &&& s.implMask a) (hw &&& s.implMask a) f) s

/-- A written word with one field replaced, for values that a register's table treats as another. -/
def asIf (v : Nat) (f : Fld) (g : Nat → Nat) : Nat :=
  v / 2 ^ (f.lo + f.width) * 2 ^ (f.lo + f.width) + g (bits v f.lo f.width) % 2 ^ f.width * 2 ^ f.lo + v % 2 ^ f.lo

def atLeast1 (x : Nat) : Nat := max 1 x

/-- The register has a CLR bit. -/
def hasClr (a : Nat) : Bool := (fieldsAt a).any fun f => f.lo == 31 && f.ty == .wo && f.width == 1

/-- CLR (R12 and the register tables): the fields it clears, most often every RO field of its register. -/
def State.clearReg (s : State) (a : Nat) : State :=
  let n := (a - 0x4000) / 0x100
  if a = 0x1008 then s.set PWR_IVIN_MAX 0
  else if a = 0x1018 then s.set PWR_DIPMIN_V 0xFF
  else if a = 0x1408 then s.set THM_LMAX_PEAK 0
  else if a = 0x140C then s.set THM_PMAX_PEAK 0
  else if 0x4000 ≤ a ∧ a < 0x6000 ∧ a % 0x100 = 0x10 then (s.set (TIL_OVRCNT_COUNT n) 0).set (TIL_REFDCNT_COUNT n) 0
  else if 0x4000 ≤ a ∧ a < 0x6000 ∧ a % 0x100 = 0x74 then s.set (TIL_SWAPDIFF_MAXABS n) 0
  else if 0x4000 ≤ a ∧ a < 0x6000 ∧ a % 0x100 = 0x84 then
    let s := ((s.set (TIL_TXSTAT_OCCMIN n) 0x3F).set (TIL_TXSTAT_OCCMAX n) 0).set (TIL_TXSTAT_CAUSE n) 0
    ((s.set (TIL_TXSLIPCNT_COUNT n) 0).set (TIL_TXCRCCNT_COUNT n) 0).set (TIL_TXINVCNT_COUNT n) 0
  else if a = 0x6464 then s.set CAL_TRKSTAT_SATCNT 0
  else if a = 0x7020 then s.set KNT_OPEN_MAX 0
  else if 0x8000 ≤ a ∧ a < 0xA000 ∧ a % 0x40 = 0x0C then s.set (VLV_COIL_PEAK ((a - 0x8000) / 0x40)) 0
  else if hasClr a then (fieldsAt a).foldl (fun s f => if f.ty = .ro then s.set f 0 else s) s
  else s

/-- A write to a register without effects of its own but CLR. -/
def State.genericW (s : State) (a v hw : Nat) : State :=
  let s := s.plainW a v hw
  if hasClr a && bitOf v 31 then s.clearReg a else s

def wordOf (v : Nat) : Word := BitVec.ofNat 32 v

/-! ### GLB and EVT (file 13) -/

/-- GLB_CTRL: a reset leaves nothing else of the write to do (R427, R432, R438). -/
def State.glbCtrlW (s : State) (v : Nat) : State :=
  if bitOf v 1 && decide (bits v 8 8 = 0x5A) then s.swrstW 0x5A
  else
    let s := if bitOf v 1 then s.swrstW (bits v 8 8) else s
    let s := s.runW (bitOf v 0)
    if bitOf v 2 then s.enterSafe 0 else s

/-- GLB_CORECTL.HARTEN: a set bit starts its hart once boot has ended (R336). -/
def State.hartenW (s : State) (x : Nat) : State :=
  let s := s.set GLB_CORECTL_HARTEN x
  if s.mode = 0 then s else s.set GLB_CORECTL_HARTON (s.get GLB_CORECTL_HARTON ||| s.get GLB_CORECTL_HARTEN)

/-- The window registers of a requester (R343, R344). -/
def State.windowW (s : State) (r : Requester) (a v : Nat) : State :=
  let w := s.win r
  if a = 0x30 then s.setWin r { w with sel := bits v 0 8, autoinc := bitOf v 8 }
  else if a = 0x34 then s.setWin r { w with addr := bits v 0 20 }
  else (s.tableWriteBy r v).1

/-- EVT_CTRL.CNTCLR (R349). -/
def State.cntClear (s : State) : State :=
  (List.range 192).foldl (fun s i =>
    (((s.set (EVT_CNT_CNT0 i) 0).set (EVT_CNT_CNT1 i) 0).set (EVT_CNT_CNT2 i) 0).set (EVT_CNT_CNT3 i) 0) s

/-- EVT_CTRL.CLRALL; sources that occur in the same cycle keep their bits (R15). -/
def State.statClear (s : State) (same : List Nat) : State :=
  (List.range 24).foldl (fun s g =>
    let keep := sumN ((List.range 32).map fun b => if same.contains (32 * g + b) then 2 ^ b else 0)
    s.set (EVT_STAT_STAT g) (s.get (EVT_STAT_STAT g) &&& keep)) s

/-- EVT_FORCE[g] (R351). -/
def State.forceW (s : State) (g v : Nat) : State :=
  (onesOf 32 v).foldl (fun s b => s.occurAt (32 * g + b) true s.time) s

/-- EVT_STAT[g]: the sources of `hw` occur in the same cycle, so that their bits stay set (R4, R15, R349). -/
def State.evtStatW (s : State) (g v hw : Nat) : State :=
  let l := (onesOf 32 hw).filter fun b => s.srcExists (32 * g + b) && s.srcEnabled (32 * g + b)
  (l.foldl (fun (s : State) b => s.raise (32 * g + b)) s).genericW (0x500 + 4 * g) v (sumN (l.map (2 ^ ·)))

def State.evtW (s : State) (a v hw : Nat) : State :=
  if a = 0x400 then
    let s := if bitOf v 0 then s.cntClear else s
    if bitOf v 1 then s.statClear [] else s
  else if 0x580 ≤ a ∧ a < 0x5E0 then s.forceW ((a - 0x580) / 4) v
  else if 0x500 ≤ a ∧ a < 0x560 then s.evtStatW ((a - 0x500) / 4) v hw
  else s.genericW a v hw

def State.glbW (s : State) (r : Requester) (a v hw : Nat) : State :=
  if a = 0x10 then s.glbCtrlW v
  else if a = 0x28 then s.hartenW (bits v 0 4)
  else if a = 0x30 ∨ a = 0x34 ∨ a = 0x38 then s.windowW r a v
  else s.genericW a v hw

/-! ### PWR, THM, HKA (file 10) -/

def State.houseW (s : State) (a v hw : Nat) : State :=
  if a = 0x1020 then s.budprioW (wordOf v)
  else if a = 0x1400 then
    let s := s.plainW a (asIf v THM_CTRL_TSTEP atLeast1) hw
    if bitOf v 1 then s.restartReq.1 else s
  else if a = 0x1800 then s.hkaCtrlW v
  else s.genericW a v hw

/-! ### STG and TIL (files 02, 03) -/

def State.stgW (s : State) (a v hw : Nat) : State :=
  if a = 0x2000 then s.stgCtrlW (wordOf v)
  else if a = 0x2004 then s.stgFrateW (wordOf v)
  else if a = 0x2008 then s.stgBiasW (wordOf v)
  else if a = 0x200C then s.stgSetptW (wordOf v)
  else if a = 0x2034 then s.plainW a (asIf v STG_LOCKBAND_BAND atLeast1) hw
  else s.genericW a v hw

/-- TIL[n]_CVCTRL. -/
def State.cvctrlW (s : State) (n v : Nat) : State :=
  let s := if bitOf v 1 = s.flag (TIL_CVCTRL_ROTEN n) then s else s.rotenW n (bitOf v 1)
  if bitOf v 0 then s.scalStart n else s

/-- TIL[n]_SUBST. -/
def State.substW (s : State) (n v : Nat) : State :=
  if s.fuses.nk1024 then s
  else
    let k := bits v 0 8
    let i := bits v 8 2
    let s := (s.set (TIL_SUBST_SLICE n) k).set (TIL_SUBST_SPARE n) i
    let s := if bitOf v 16 then s.parkS n k i else s
    if bitOf v 17 then s.releaseS n i else s

def State.tilW (s : State) (a v hw : Nat) : State :=
  let n := (a - 0x4000) / 0x100
  let o := a % 0x100
  if s.nTiles ≤ n then s
  else if o = 0x00 then s.tilGainW n (wordOf v)
  else if o = 0x08 then s.tilPtdataW n (wordOf v)
  else if 0x20 ≤ o ∧ o < 0x60 then s.tilSkimW n ((o - 0x20) / 4) (wordOf v)
  else if o = 0x60 then s.cvctrlW n v
  else if o = 0x6C then s.cfdataW n (wordOf v)
  else if o = 0x78 then s.plainW a (asIf v (TIL_SWAPLIM_LIMIT n) atLeast1) hw
  else if o = 0x7C then s.substW n v
  else if o = 0x80 then
    let s := s.plainW a v hw
    if bitOf v 1 then s.lockLoss n false else s
  else s.genericW a v hw

/-! ### COR and CAL (files 04, 05) -/

def State.corW (s : State) (a v hw : Nat) : State :=
  if a = 0x6000 then s.plainW a (asIf v COR_CTRL_MINGOOD atLeast1) hw
  else if a = 0x6008 then s.corV0W (wordOf v)
  else if a = 0x6010 then s.corOflipW (wordOf v)
  else if a = 0x6014 then
    let n := bits v 0 13
    let s := if bitOf v 29 then s.corBlendStartW n else s.set COR_BLEND_FRAMES n
    if bitOf v 30 then s.corBlendAbortW else s
  else if a = 0x6018 then s.corTrefW COR_TREF_A_TEMP (wordOf v)
  else if a = 0x601C then s.corTrefW COR_TREF_B_TEMP (wordOf v)
  else if 0x6100 ≤ a ∧ a < 0x6200 then s.laneXW ((a - 0x6100) / 4) (wordOf v)
  else s.genericW a v hw

/-- CAL_CTRL: the RW fields, then each trigger. -/
def State.calCtrlW (s : State) (v : Nat) : State :=
  let s := s.plainW 0x6400 v 0
  let s := if bitOf v 1 then s.calAbortW else s
  let s := if bitOf v 0 then s.trigger trigHost else s
  let s := if bitOf v 8 then s.grefStartS else s
  if bitOf v 9 then s.gapplyS else s

def State.ranged (s : State) (a v hw lo hi x : Nat) : State :=
  if lo ≤ x ∧ x ≤ hi then s.plainW a v hw else s.cfgErr

def State.calW (s : State) (a v hw : Nat) : State :=
  if a = 0x6400 then s.calCtrlW v
  else if a = 0x6408 then s.ranged a v hw 50 2000 (bits v 0 11)
  else if a = 0x6410 then s.plainW a (asIf v CAL_MININT_SEC atLeast1) hw
  else if a = 0x6414 then s.ranged a v hw 256 4096 (bits v 0 13)
  else if a = 0x6418 then s.ranged a v hw 10 500 (bits v 0 13)
  else if a = 0x6458 then
    let v := asIf v CAL_TRK_MINSHARE fun x => min 100 (max 1 x)
    s.plainW a (asIf v CAL_TRK_STEP atLeast1) hw
  else s.genericW a v hw

/-! ### BRD, KNT, VRD, EJS (files 06 to 08) -/

/-- BRD_CTRL: AUTO set from 0 starts a computation (R159); with AUTO = 0 the active set stays in use, and slices wait
for no other (R173). -/
def State.brdCtrlW (s : State) (v : Nat) : State :=
  let was := s.flag BRD_CTRL_AUTO
  let s := s.plainW 0x6800 v 0
  let s := if was then s else s.askTables
  let s := if s.flag BRD_CTRL_AUTO then s else { s with braid := { s.braid with late := false } }
  if bitOf v 2 then s.brdRestartS else s

def State.brdW (s : State) (a v hw : Nat) : State :=
  if a = 0x6800 then s.brdCtrlW v
  else if a = 0x6808 then s.brdUnlayW (wordOf v)
  else if a = 0x6810 ∨ a = 0x6818 ∨ a = 0x681C ∨ a = 0x6820 then s.brdParamW a (wordOf v)
  else if a = 0x682C then s.brdSwitchW (wordOf v)
  else s.genericW a v hw

def State.kntW (s : State) (a v hw : Nat) : State :=
  if a = 0x7008 then s.kntThrW (wordOf v)
  else if a = 0x700C then s.plainW a (asIf v KNT_CHOICE_DEPTH atLeast1) hw
  else if a = 0x7010 then s.plainW a (asIf v KNT_MINW_MINW fun x => min 1024 (max 1 x)) hw
  else s.genericW a v hw

def State.vrdW (s : State) (a v hw : Nat) : State :=
  if a = 0x7400 then (if bitOf v 0 then s.vrdSwitchS else s)
  else if a = 0x7414 then s.plainW a (asIf v VRD_LOGCTL_N atLeast1) hw
  else s.genericW a v hw

def State.ejsW (s : State) (a v hw : Nat) : State :=
  if a = 0x7800 then
    let s := s.ejsStagedW a (wordOf v)
    let s := if bitOf v 4 then s.mapswS else s
    if bitOf v 7 then s.flushQueues else s
  else if 0x7808 ≤ a ∧ a ≤ 0x7818 then s.ejsStagedW a (wordOf v)
  else s.genericW a v hw

/-! ### VLV, VBK, ARB (file 09) -/

/-- Every field of a profile word lies within its range (file 09, ARB_PROF). -/
def profInRange (o v : Nat) : Bool :=
  let within := fun lo hi x => decide (lo ≤ x ∧ x ≤ hi)
  if o = 0x00 then within 20 5000 (bits v 8 13)
  else if o = 0x04 then within 25 1000 (bits v 0 10) && within 10 50 (bits v 16 6)
  else if o = 0x08 then within 0 10000 (bits v 0 14) && within 20 10000 (bits v 16 14)
  else if o = 0x10 then within 1 255 (bits v 24 8)
  else true

def State.arbErr (s : State) : State := s.set ARB_STAT_WRERR 1

/-- ARB_LYCTRL: a host write that would change ENERGISE counts as a write of it (R270). -/
def State.lyCtrlW (s : State) (v : Nat) : State :=
  let s := if bitOf v 0 = s.flag ARB_LYCTRL_ENERGISE then s else s.lyHost (bitOf v 0)
  if bitOf v 1 then (s.set ARB_LYSTAT_FLT 0).set ARB_LYSTAT_FLTCAUSE 0 else s

def State.driveW (s : State) (a v hw : Nat) : State :=
  if isEnableReg a then s.driveEnableW a (wordOf v)
  else if 0x8000 ≤ a ∧ a < 0xA000 then (if s.nChans ≤ (a - 0x8000) / 0x40 then s else s.genericW a v hw)
  else if 0xA000 ≤ a ∧ a < 0xA800 then
    let b := (a - 0xA000) / 0x80
    if s.nBanks ≤ b then s
    else if a % 0x80 = 0x0C then s.plainW a (asIf v (VBK_TRCTL_DIV b) atLeast1) hw
    else s.genericW a v hw
  else if a = 0xA808 then (s.plainW a (asIf v ARB_PEAKN_N atLeast1) hw).arbShow
  else if a = 0xA810 then (s.plainW a v hw).arbShow
  else if a = 0xA818 then
    if bits v 0 10 < 480 ∨ 650 < bits v 0 10 then s.arbErr else (s.plainW a v hw).arbShow
  else if a = 0xA820 then (if bits v 8 8 < bits v 0 8 then s.arbErr else s.plainW a v hw)
  else if 0xA900 ≤ a ∧ a < 0xAA00 then (if profInRange (a % 0x20) v then s.plainW a v hw else s.arbErr)
  else if a = 0xAA00 then s.lyCtrlW v
  else s.genericW a v hw

/-! ### MEM, SSP, FLS (files 12, 15) -/

def State.memW (s : State) (a v hw : Nat) : State :=
  if a = 0xB008 then
    s.plainW a (asIf (asIf v MEM_TESTCTL_PERIOD fun x => max 2 x) MEM_TESTCTL_SKIPTO atLeast1) hw
  else if a = 0xB040 then s.retctlW (wordOf v)
  else if a = 0xB050 then s.plainW a (asIf v MEM_DDRCTL_TAPSHARE fun x => min 75 x) hw
  else s.genericW a v hw

def State.portW (s : State) (r : Requester) (a v hw : Nat) : State :=
  if a = 0xB800 ∧ r = .ssp then s.plainW a (asIf v SSP_CTRL_EN fun _ => s.get SSP_CTRL_EN) hw
  else if a = 0xB900 ∧ bits v 0 4 < 2 then
    (s.plainW a (asIf v FLS_CTRL_DIV fun _ => s.get FLS_CTRL_DIV) hw).set FLS_STAT_WRERR 1
  else s.genericW a v hw

/-! ### ETH, CHN, LOOP (files 11, 14, 16) -/

/-- ETH_MDIOCMD: GO starts an access unless one runs (R379). -/
def State.mdioW (s : State) (v : Nat) : State :=
  let s := s.plainW 0xC020 v 0
  if bitOf v 11 && !s.flag ETH_MDIOCMD_BUSY then
    let d := if s.flag ETH_MDIOCMD_OP then some (s.get ETH_MDIOCMD_DATA) else none
    { s with net := { s.net with mdio := some d } }.set ETH_MDIOCMD_BUSY 1
  else s

/-- REOFS: ETH_PTPOFS is set at the next lock, and a servo that holds its rate is released (R383, R384). -/
def State.reofs (s : State) : State := { s with net := { s.net with askOfs := true, hold := false, good := 0 } }

/-- ETH_CTRL: the DHCP client starts or stops (R381). -/
def State.ethCtrlW (s : State) (v : Nat) : State :=
  let was := s.flag ETH_CTRL_DHCP
  let s := s.plainW 0xC000 (asIf v ETH_CTRL_IDLE atLeast1) 0
  if s.flag ETH_CTRL_DHCP = was then s
  else if was then { s with net := { s.net with dhcp := 0 } }.set ETH_STAT_BOUND 0
  else ({ s with net := { s.net with dhcp := 1 } }.set ETH_STAT_BOUND 0).emit (.dhcp 1)

def State.ethW (s : State) (a v hw : Nat) : State :=
  if a = 0xC000 then s.ethCtrlW v
  else if a = 0xC020 then s.mdioW v
  else if a = 0xC050 then
    let s := s.plainW a v hw
    if bitOf v 10 then s.reofs else s
  else if a = 0xC080 then s.plainW a (asIf v ETH_TAPCTL_DECIM atLeast1) hw
  else if 0xC080 ≤ a ∧ a < 0xC0A0 then (s.genericW a v hw).tapShow
  else s.genericW a v hw

def State.chnW (s : State) (a v hw : Nat) : State :=
  if a = 0xC800 then
    let s := if bitOf v 0 then s.askMaster.1 else s
    if bitOf v 1 then s.becomeOrphan else s
  else if a = 0xC808 then s.plainW a (asIf v CHN_CFG_SIZE fun x => if 1 ≤ x ∧ x ≤ 8 then x else 1) hw
  else s.genericW a v hw

/-! ### TMX and MBX (files 13, 18) -/

def State.tmxW (s : State) (a v hw : Nat) : State :=
  if a = 0xD800 then s.bscanW (wordOf v)
  else if a = 0xD810 then s.blindW (wordOf v)
  else if a = 0xD820 then s.tpctlW (wordOf v)
  else if a = 0xD838 then s.tpdataW (wordOf v)
  else s.genericW a v hw

def reqIsMgmt : Requester → Bool
  | .mgmt => true
  | .fw => true
  | _ => false

def State.protErr (s : State) : State := s.set GLB_STAT_PROTERR 1

/-- The staged message joins its queue, or sets OVF (R345). -/
def State.mbxSendW (s : State) (c : Nat) (up : Bool) : State :=
  let m := s.mbxChan c
  if up then
    if 8 ≤ m.up.length then s.set (MBX_UPCTL_OVF c) 1
    else s.setMbx c { m with up := m.up ++ [(List.range 4).map fun i => s.get (MBX_UPTX_WORD c i)] }
  else if 8 ≤ m.down.length then s.set (MBX_DNCTL_OVF c) 1
  else
    let s := s.setMbx c { m with down := m.down ++ [(List.range 4).map fun i => s.get (MBX_DNTX_WORD c i)] }
    if s.flag (MBX_DNCTL_IE c) then s.emit (.hartIrq c) else s

/-- The oldest message of a direction goes; replies that waited for room in the down queue follow (R345, R347). -/
def State.mbxPopW (s : State) (c : Nat) (up : Bool) : State :=
  let m := s.mbxChan c
  if up then s.setMbx c { m with up := m.up.drop 1 } else (s.setMbx c { m with down := m.down.drop 1 }).mbxPump c 8

/-- MBX registers: who may write what (R345). -/
def State.mbxW (s : State) (r : Requester) (a v hw : Nat) : State :=
  let c := (a - 0xE000) / 0x80
  let o := a % 0x80
  let up := decide (o < 0x20 ∨ 0x70 ≤ o)
  let mine := if up then isCluster r else reqIsMgmt r
  if 4 ≤ c then s
  else if o < 0x10 ∨ (0x40 ≤ o ∧ o < 0x50) then (if mine then s.plainW a v hw else s.protErr)
  else if o = 0x10 ∨ o = 0x50 then
    let s := s.plainW a v hw
    if bitOf v 0 then (if mine then s.mbxSendW c up else s.protErr) else s
  else if o = 0x30 ∨ o = 0x70 then
    if bitOf v 0 then (if mine then s.mbxPopW c (!up) else s.protErr) else s
  else s

/-! ### The register fabric (R319, R339) -/

/-- A write that reaches its register: byte offset `a`, word `v`, bits `hw` that hardware sets in the same cycle. -/
def State.regPut (s : State) (r : Requester) (a v hw : Nat) : State :=
  let v := v % 2 ^ 32
  if a < 0x400 then s.glbW r a v hw
  else if a < 0x1000 then s.evtW a v hw
  else if a < 0x2000 then s.houseW a v hw
  else if a < 0x4000 then s.stgW a v hw
  else if a < 0x6000 then s.tilW a v hw
  else if a < 0x6400 then s.corW a v hw
  else if a < 0x6800 then s.calW a v hw
  else if a < 0x7000 then s.brdW a v hw
  else if a < 0x7400 then s.kntW a v hw
  else if a < 0x7800 then s.vrdW a v hw
  else if a < 0x8000 then s.ejsW a v hw
  else if a < 0xB000 then s.driveW a v hw
  else if a < 0xB800 then s.memW a v hw
  else if a < 0xC000 then s.portW r a v hw
  else if a < 0xC800 then s.ethW a v hw
  else if a < 0xD000 then s.chnW a v hw
  else if a = 0xD000 then s.loopCtrlW (wordOf v)
  else if a = 0xD004 then s.genericW a v hw
  else if a < 0xD800 then s.loopSetW a v
  else if a < 0xE000 then s.tmxW a v hw
  else s.mbxW r a v hw

/-- A register write of a requester (R319, R339). -/
def State.regWriteBy (s : State) (r : Requester) (a v hw : Nat) : State := s.guardW r a fun s => s.regPut r a v hw

end Sys2Proof.Machine
end

