-- ==== Sys2Proof/Machine/RegRead.lean ====
section
/-! DEFINITION. What a read of each register gives and does (R12, R321, R344, R350, R352, R354; the window registers of
files 02, 03, 05 and 18). -/

namespace Sys2Proof.Machine

open Reg

/-- The pairs of R321, by the offset of the low word; the high word follows it. -/
def pairLows : List Nat :=
  [0x0004, 0x001C, 0x040C, 0x1010, 0x6434, 0xB010, 0xB038, 0xC008, 0xC058, 0xC83C]

/-- A low word of a pair: one of the list, the stamp of a tile's last slip, or of a channel's last
gate-on. -/
def isLow (a : Nat) : Bool :=
  pairLows.contains a || (decide (0x4000 ≤ a ∧ a < 0x6000) && a % 0x100 == 0x94)
    || (decide (0x8000 ≤ a ∧ a < 0xA000) && a % 0x40 == 0x38)

/-- EVT_CAPLO/HI (R350). -/
def State.capture (s : State) : Nat := mget 0 s.evt.caps (s.get EVT_CAPSEL_SRC)

/-- EVT_PINSTAT (R354). -/
def State.pinStat (s : State) : Nat := sumN ((List.range 4).map fun i => b2n (s.pinActive i) * 2 ^ i)

/-- The word of a register as it stands, without the effects of a read. -/
def State.regWord (s : State) (r : Requester) (a : Nat) : Nat :=
  let w := s.win r
  let n := (a - 0x4000) / 0x100
  if a = 0x1C then floor2 s.time % 2 ^ 32
  else if a = 0x20 then s.time / 2 ^ 32 % 2 ^ 32
  else if a = 0x30 then w.sel + b2n w.autoinc * 256
  else if a = 0x34 then w.addr
  else if a = 0x408 then s.get EVT_CAPSEL_SRC + b2n (s.srcStatus (s.get EVT_CAPSEL_SRC)) * 2 ^ 31
  else if a = 0x40C then s.capture % 2 ^ 32
  else if a = 0x410 then s.capture / 2 ^ 32 % 2 ^ 32
  else if a = 0x418 then s.pinStat
  else if a = 0x1414 then s.word a + min 255 s.recentAutos.length
  else if 0x440 ≤ a ∧ a < 0x458 then s.evtSum ((a - 0x440) / 4)
  else if 0x4000 ≤ a ∧ a < 0x6000 ∧ n < s.nTiles ∧ a % 0x100 = 0x08 then
    mget 0 (s.tile n).trimsW (s.get (TIL_PTSEL_INDEX n)) + s.get (TIL_PTDATA_PEND n) * 2 ^ 31
  else if 0x4000 ≤ a ∧ a < 0x6000 ∧ n < s.nTiles ∧ a % 0x100 = 0x6C then
    let f := (s.tile n).factor (s.cfIndex n)
    unsgn 16 f.gain + unsgn 12 f.ofs * 2 ^ 16 + b2n f.fail * 2 ^ 30
  else if a = 0x646C then (if s.get CAL_REFSEL_LANE < s.nLanes then s.refOf (s.get CAL_REFSEL_LANE) else 0)
  else if a = 0xC054 then
    s.word a + b2n (s.flag ETH_PTPCTL_EN && (s.get CHN_STAT_STATE == 0 || s.get CHN_STAT_STATE == 2)) * 2
  else if a = 0xD838 then (if s.get TMX_TPSEL_INDEX < tpWords then mget 0 s.tmx.buf (s.get TMX_TPSEL_INDEX) else 0)
  else s.word a

/-- What a read of a register changes beside the latch of R321: an index that advances with each access. -/
def State.readEffect (s : State) (a : Nat) : State :=
  let n := (a - 0x4000) / 0x100
  if 0x4000 ≤ a ∧ a < 0x6000 ∧ n < s.nTiles ∧ a % 0x100 = 0x08 then s.ptAdvance n
  else if 0x4000 ≤ a ∧ a < 0x6000 ∧ n < s.nTiles ∧ a % 0x100 = 0x6C then s.cfAdvance n
  else if a = 0x646C then (if s.flag CAL_REFSEL_AUTOINC then s.incr CAL_REFSEL_LANE else s)
  else if a = 0xD838 then s.tpAdvance
  else s

/-- A 32-bit read of a register by a requester (R321, R341). -/
def State.readBy (s : State) (r : Requester) (a : Nat) : State × Nat :=
  if a = 0x38 then s.tableReadBy r
  else
    let w := s.win r
    if isLow a then (s.setWin r { w with latch := some (a + 4, s.regWord r (a + 4)) }, s.regWord r a)
    else match w.latch with
      | some (b, v) => if b = a then (s.setWin r { w with latch := none }, v) else (s.readEffect a, s.regWord r a)
      | none => (s.readEffect a, s.regWord r a)

/-- Reads of ascending words. -/
def State.readSeq (s : State) (r : Requester) (a : Nat) : Nat → State × List Nat
  | 0 => (s, [])
  | n + 1 =>
    let p := s.readBy r a
    let q := p.1.readSeq r (a + 4) n
    (q.1, p.2 :: q.2)

end Sys2Proof.Machine
end

