-- ==== Sys2Proof/Machine/Bus.lean ====
section
/-! DEFINITION. What the processors reach beside the register space: the memory banks, the LPDDR4X, the machine timer,
the interrupt controller and the flash window (spec/ file 12, R312, R315, R318, R332, R333; file 13, R335, R337, R340,
R341, R353; file 15, R405, R406, R408). -/

namespace Sys2Proof.Machine

open Reg

/-! ### Address maps (R340) -/

/-- Where an access reaches: a register by its byte offset, a byte of a bank of R312, the timer, the interrupt
controller, the flash window, the LPDDR4X, or nothing that is listed. -/
inductive Place where
  | reg (o : Nat)
  | bank (b o : Nat)
  | timer (o : Nat)
  | plic (o : Nat)
  | flash (o : Nat)
  | ddr (o : Nat)
  | nowhere
  deriving DecidableEq, Repr

/-- `a` lies in the region of a size at a base. -/
def inside (base size a : Nat) : Bool := decide (base ≤ a ∧ a < base + size)

/-- The map of a requester, `cap` being the LPDDR4X's bytes. A command names a register by its offset alone as well, so
that addresses below 0x1_0000 are offsets for every requester (log entry 90). -/
def placeOf (cap : Nat) (r : Requester) (a : Nat) : Place :=
  if a < 0x10000 then .reg a
  else if r = .ssp ∨ r = .fw then .nowhere
  else if inside 0x40000000 0x10000 a then .reg (a - 0x40000000)
  else if inside 0x18000000 0x100000 a then .bank 56 (a - 0x18000000)
  else if inside 0x20000000 0x4000000 a then .flash (a - 0x20000000)
  else if inside 0x80000000 cap a then .ddr (a - 0x80000000)
  else if isCluster r then
    if inside 0x02000000 0x10000 a then .timer (a - 0x02000000)
    else if inside 0x0C000000 0x4000000 a then .plic (a - 0x0C000000)
    else if inside 0x10000000 0x80000 a then .bank (51 + (a - 0x10000000) / 0x20000) ((a - 0x10000000) % 0x20000)
    else .nowhere
  else if inside 0x10000000 0x40000 a then .bank 55 (a - 0x10000000)
  else .nowhere

/-- The place of an address as the LPDDR4X now stands (R333, R340). -/
def State.place (s : State) (r : Requester) (a : Nat) : Place := placeOf (s.get MEM_DDRSTAT_CAPMB * 2 ^ 20) r a

/-- An access that is not carried out: the serial slave port has none, the cluster's DMA engine gets an error status,
and a core an access fault (R315, R340, R394, R396). -/
def State.noAccess (s : State) (r : Requester) : State :=
  match r with
  | .ssp => s
  | .dma => s.emit .dmaError
  | r => s.emit (.busError r)

/-! ### Banks (R312, R315, R318) -/

/-- The ports of a bank in their order of priority, by the codes of R321's list (R312, R316). -/
def bankPorts (b : Nat) : List Nat :=
  if b < 32 then [1, 2, 3, 5] else if b < 48 then [1, 2, 3] else if b < 50 then [1, 3] else if b < 55 then [3, 4]
  else if b = 55 then [3, 5] else [1, 3, 4, 5]

/-- A port goes ahead of another in a bank (R316). -/
def portBefore (b p q : Nat) : Bool := decide ((bankPorts b).idxOf p < (bankPorts b).idxOf q)

/-- Bytes of a bank's word; the LPDDR4X's inline code covers 8 (R312; log entry 91). -/
def wordBytes (b : Nat) : Nat := bankData b / 8

/-- A byte of FB: the logs lie in their own places (R211, R340, R357). -/
def State.fbByte (s : State) (o : Nat) : Nat :=
  if o < 0x20000 then bits (s.tableWord 10 (o / 4)) (8 * (o % 4)) 8
  else if o < 0x28000 then bits (s.tableWord 7 ((o - 0x20000) / 4)) (8 * (o % 4)) 8
  else mget 0 s.fb o

/-- The record of the tap's ring that a byte of the LPDDR4X lies in, and the byte's place in it (R386). -/
def State.ringAt (s : State) (o : Nat) : Option (TapRec × Nat) :=
  let d := o - s.get ETH_TAPBASE_OFS
  let n := s.tapN
  if o < s.get ETH_TAPBASE_OFS ∨ n * s.tapRecSize ≤ d then none
  else
    (s.tap.ring.find? fun p => p.1 % n == d / s.tapRecSize).map fun p => (p.2, d % s.tapRecSize)

/-- A byte of a bank's storage; bank 58 is the LPDDR4X. -/
def State.byteAt (s : State) (b o : Nat) : Nat :=
  if b = 56 then s.fbByte o
  else
    let own := mget 0 s.bus.ram (2 ^ 32 * b + o)
    if b = 58 then
      match s.ringAt o with
      | some (t, i) => (t.bytesAt i 1).headD 0
      | none => own
    else own

/-- The 32-bit word at a byte address. -/
def State.wordAt (s : State) (b o : Nat) : Nat := leVal ((List.range 4).map fun i => s.byteAt b (o / 4 * 4 + i))

/-- Bytes are put at a place of a bank. -/
def State.putBytes (s : State) (b o : Nat) (l : List Nat) : State :=
  if b = 56 then { s with fb := putAll s.fb o l } else { s with bus := { s.bus with ram := putAll s.bus.ram (2 ^ 32 * b + o) l } }

/-- An access meets a word that cannot be corrected: the requester faults, and the management core's own memory in
error resets the module (R315, R432). -/
def State.accessFault (s : State) (r : Requester) (b : Nat) : State :=
  let s := s.noAccess r
  if b = 55 then s.resetNow 6 else s

/-- A draw of `n` bits. -/
def State.drawBits (s : State) (n : Nat) : State × Nat := (s.draw.2, s.draw.1 % 2 ^ n)

/-- The cluster reaches the LPDDR4X through the L2: the line that goes out to make room is read too, and an error in it
raises the event only; where lines lie in the L2 is not given (R315; log entry 92). -/
def State.l2Read (s : State) (o : Nat) : State × Bool :=
  let s := (s.memRead 50 (s.draw.1 % 262144) 4).1.draw.2
  s.memRead 50 (Config.l2Word (o / 8) % 262144) 4

/-- A word read by a port; the flag says that it cannot be corrected. -/
def State.portRead (s : State) (r : Requester) (b o : Nat) : State × Bool :=
  let w := o / wordBytes b
  if b = 58 then
    let p := if isCluster r then s.l2Read o else (s, false)
    if p.2 then p else p.1.ddrRead w
  else s.memRead b w (reqPort r)

/-- A 32-bit load from a bank, none where it faults (R315). A log entry in error reads as zero, any other word of FB in
error, and one of the LPDDR4X that is in error without inline ECC, as a free value (log entry 2). -/
def State.bankLoad (s : State) (r : Requester) (b o : Nat) : State × Option Nat :=
  if b = 56 ∧ o < 0x28000 then
    let p := if o < 0x20000 then s.tableFetch (reqPort r) 10 (o / 4)
      else s.tableFetch (reqPort r) 7 ((o - 0x20000) / 4)
    (p.1, some p.2)
  else
    let v := s.wordAt b o
    let open' := b = 58 ∧ (s.errAt 58 (o / 8)).isSome ∧ !s.flag MEM_DDRSTAT_IECCACT
    let p := s.portRead r b o
    if open' ∨ (p.2 ∧ b = 56) then
      let d := p.1.drawBits 32
      (d.1, some d.2)
    else (p.1, if p.2 then none else some v)

/-- A word of a bank gets fresh check bits (R314). -/
def State.portWrote (s : State) (r : Requester) (b w : Nat) : State :=
  let s := if b = 58 ∧ isCluster r then s.wordWritten 50 (Config.l2Word w % 262144) else s
  s.wordWritten b w

/-- The cluster stores to its mailbox area of FB alone; the logs that lie in FB are written by what makes their entries
(R340; log entry 93). -/
def storable (r : Requester) (b o : Nat) : Bool :=
  b != 56 || inside 0x80000 0x40000 o || (!isCluster r && decide (0x28000 ≤ o))

/-- A store of bytes to a bank, aligned to their number. Less than a word is merged into the word as read, whose
uncorrectable error faults the store (R315). -/
def State.bankStore (s : State) (r : Requester) (b o : Nat) (l : List Nat) : State :=
  let n := wordBytes b
  if !storable r b o then (if isCluster r then s.noAccess r else s)
  else
    let p := if l.length < n then s.portRead r b o else (s, false)
    if p.2 && b != 56 then p.1.accessFault r b
    else
      let s := p.1.putBytes b o l
      (List.range (max 1 (l.length / n))).foldl (fun s i => s.portWrote r b (o / n + i)) s

/-! ### The machine timer (R337) -/

/-- mtime: chain time in units of 2 ns. -/
def State.mtime (s : State) : Nat := s.time / 2 % 2 ^ 64

def State.mtimecmp (s : State) (h : Nat) : Nat := mget 0 s.bus.timers h

/-- A hart's timer interrupt is pending. -/
def State.timerIrq (s : State) (h : Nat) : Bool := decide (s.mtimecmp h ≤ s.mtime)

/-- A 32-bit read of the timer's region: mtimecmp of hart h at 0x4000 + 8 h and mtime at 0xBFF8, as the ACLINT lays an
MTIMER out; other words are not given (log entry 94). -/
def State.timerLoad (s : State) (o : Nat) : State × Nat :=
  let half := fun v => v / 2 ^ (o % 8 / 4 * 32) % 2 ^ 32
  if inside 0x4000 32 o then (s, half (s.mtimecmp ((o - 0x4000) / 8)))
  else if inside 0xBFF8 8 o then (s, half s.mtime)
  else s.drawBits 32

/-- A 32-bit write: one to mtime is ignored. -/
def State.timerStore (s : State) (o v : Nat) : State :=
  if inside 0x4000 32 o then
    let h := (o - 0x4000) / 8
    let c := s.mtimecmp h
    let c := if o % 8 < 4 then c / 2 ^ 32 * 2 ^ 32 + v % 2 ^ 32 else v % 2 ^ 32 * 2 ^ 32 + c % 2 ^ 32
    { s with bus := { s.bus with timers := mset 0 s.bus.timers h c } }
  else s

/-! ### The interrupt controller (R353) -/

/-- The level of an interrupt source: the event groups and the downward mailboxes; of Ethernet, tap and DMA the spec
gives no condition (log entry 95). -/
def State.plicSource (s : State) (i : Nat) : Bool :=
  if 1 ≤ i ∧ i ≤ 24 then bitOf (s.evtSum 1) (i - 1)
  else if 25 ≤ i ∧ i ≤ 28 then (s.mbxChan (i - 25)).down != [] && s.flag (MBX_DNCTL_IE (i - 25))
  else false

def State.plicPrio (s : State) (i : Nat) : Nat := mget 0 s.bus.prio i

/-- Source `i` is enabled for context `c`: machine mode of hart c/2, or supervisor mode where c is odd. -/
def State.plicEnabled (s : State) (c i : Nat) : Bool := bitOf (mget 0 s.bus.enable c) i

/-- The source that a claim of a context gives: of those that are pending, enabled and not in service the one of highest
priority, and among equals of lowest number; 0 for none. -/
def State.plicBest (s : State) (c : Nat) : Nat :=
  ((List.range 33).filter fun i => s.plicSource i && s.plicEnabled c i && !s.bus.claimed.contains i).foldl (fun b i =>
    if s.plicPrio b < s.plicPrio i then i else b) 0

/-- The external interrupt of a context is asserted. -/
def State.extIrq (s : State) (c : Nat) : Bool := decide (mget 0 s.bus.thresh c < s.plicPrio (s.plicBest c))

def State.setBus (s : State) (b : Bus) : State := { s with bus := b }

/-- A 32-bit read of the interrupt controller, laid out as its specification gives; words it reserves read 0 (log entry
95). -/
def State.plicLoad (s : State) (o : Nat) : State × Nat :=
  let c := if o < 0x200000 then (o - 0x2000) / 0x80 else (o - 0x200000) / 0x1000
  if o < 0x1000 then (s, s.plicPrio (o / 4))
  else if o < 0x1008 then
    (s, sumN ((List.range 32).map fun k => b2n (s.plicSource ((o - 0x1000) * 8 + k)) * 2 ^ k))
  else if inside 0x2000 0x400 o ∧ o % 0x80 < 8 then (s, mget 0 s.bus.enable c / 2 ^ (o % 0x80 / 4 * 32) % 2 ^ 32)
  else if inside 0x200000 0x8000 o ∧ o % 0x1000 = 0 then (s, mget 0 s.bus.thresh c)
  else if inside 0x200000 0x8000 o ∧ o % 0x1000 = 4 then
    let i := s.plicBest c
    (if i = 0 then s else s.setBus { s.bus with claimed := s.bus.claimed ++ [i] }, i)
  else (s, 0)

/-- A 32-bit write of the interrupt controller: priorities and thresholds are 0 to 7, and sources 1 to 32. -/
def State.plicStore (s : State) (o v : Nat) : State :=
  let b := s.bus
  let c := if o < 0x200000 then (o - 0x2000) / 0x80 else (o - 0x200000) / 0x1000
  if 4 ≤ o ∧ o < 0x84 then s.setBus { b with prio := mset 0 b.prio (o / 4) (v % 8) }
  else if inside 0x2000 0x400 o ∧ o % 0x80 < 8 then
    let e := mget 0 b.enable c
    let e := if o % 8 < 4 then e / 2 ^ 32 * 2 ^ 32 + v % 2 ^ 32 / 2 * 2 else v % 2 * 2 ^ 32 + e % 2 ^ 32
    s.setBus { b with enable := mset 0 b.enable c e }
  else if inside 0x200000 0x8000 o ∧ o % 0x1000 = 0 then s.setBus { b with thresh := mset 0 b.thresh c (v % 8) }
  else if inside 0x200000 0x8000 o ∧ o % 0x1000 = 4 then
    if s.plicEnabled c v then s.setBus { b with claimed := b.claimed.filter (· != v) } else s
  else s

/-! ### The flash window (R405, R406, R408) -/

/-- The device's density in bytes, as discovered. -/
def State.flashBytes (s : State) : Nat := s.get FLS_SIZE_MIB * 2 ^ 20

def State.setFlash (s : State) (f : Flash) : State := { s with flash := f }

def xipReq (cluster : Bool) : Requester := if cluster then .hart 0 else .mgmt

/-- A miss meets a program or erase: it is suspended where SFDP lists that, or the miss waits (R408). -/
def State.missDuring (s : State) : State :=
  if s.flash.op = [] ∨ s.flash.suspended then s
  else if s.flag FLS_STAT_SUSPOK then
    (s.setFlash { s.flash with suspended := true }).set FLS_STAT_SUSPSEEN 1
  else s.set FLS_STAT_WAITSEEN 1

/-- A read of the window (R405, R406). -/
def State.xip (s : State) (r : Requester) (a : Nat) : State :=
  if s.flashBytes ≤ a then ((s.set FLS_STAT_RANGE 1).bump FLS_ERRCNT_COUNT).raise Src.flsErr |>.noAccess r
  else
    let line := a / 64 * 64
    if s.flash.lines.contains line then
      let l := s.flash.lines.filter (· != line) ++ [line]
      ((s.setFlash { s.flash with lines := l }).bump FLS_HITCNT_COUNT).emit (.xip line)
    else
      ((s.setFlash { s.flash with misses := s.flash.misses ++ [(isCluster r, line)] }).bump FLS_MISSCNT_COUNT).missDuring

/-! ### Loads and stores (R315, R320, R341) -/

/-- What a load from a bank gives its requester. -/
def State.loadDone (s : State) (r : Requester) (b : Nat) (v : Option Nat) : State :=
  match v with
  | some v => s.emit (.word r v)
  | none => s.accessFault r b

/-- A 32-bit read of the word that contains an address, given to its requester: a load of any size reads the whole word
(R341). -/
def State.load (s : State) (r : Requester) (a : Nat) : State :=
  let give := fun (p : State × Nat) => p.1.emit (.word r p.2)
  match s.place r a with
  | .reg o => give (s.readBy r (o / 4 * 4))
  | .bank b o => let p := s.bankLoad r b o; p.1.loadDone r b p.2
  | .ddr o => let p := s.bankLoad r 58 o; p.1.loadDone r 58 p.2
  | .timer o => give (s.timerLoad (o / 4 * 4))
  | .plic o => give (s.plicLoad (o / 4 * 4))
  | .flash o => s.xip r o
  | .nowhere => if r = .ssp then s.emit (.word r 0) else s.noAccess r

/-- The bytes that a store writes. -/
def storeBytes (size : StoreSize) (v : Word) : List Nat :=
  match size with
  | .byte => leBytes 1 v.toNat
  | .half => leBytes 2 v.toNat
  | .word => leBytes 4 v.toNat
  | .double hi => leBytes 4 v.toNat ++ leBytes 4 hi.toNat

/-- A store that goes to no register; one that is not aligned to its size is not carried out (log entry 96). -/
def State.store (s : State) (r : Requester) (a : Nat) (size : StoreSize) (v : Word) : State :=
  let l := storeBytes size v
  if a % l.length ≠ 0 then s.noAccess r
  else match s.place r a with
    | .bank b o => s.bankStore r b o l
    | .ddr o => s.bankStore r 58 o l
    | .timer o => if l.length < 4 then s.noAccess r
        else (List.range (l.length / 4)).foldl (fun s i => s.timerStore (o + 4 * i) (leVal (slice l (4 * i) 4))) s
    | .plic o => if l.length < 4 then s.noAccess r
        else (List.range (l.length / 4)).foldl (fun s i => s.plicStore (o + 4 * i) (leVal (slice l (4 * i) 4))) s
    | .reg _ | .flash _ | .nowhere => s.noAccess r

end Sys2Proof.Machine
end

