-- ==== Sys2Proof/Machine/Saves.lean ====
section
/-! DEFINITION. What a save of the tables keeps, where it goes, and when it may read (spec/ file 17, R448, R449). -/

namespace Sys2Proof.Machine

open Reg

/-! ### What a set holds (R448) -/

/-- A field that comes from the flash configuration and software may change: its type is RW and its reset "load"
(R13). The reference temperatures of both slots are saved on their own. -/
def isLoadKey (k : Nat) : Bool :=
  k != COR_TREF_A_TEMP.key && k != COR_TREF_B_TEMP.key
    && (fieldsAt (k / 32)).any fun f => f.lo == k % 32 && f.load && f.ty == .rw

/-- The reference temperature of tile 0's active slot, which a save keeps for both (R448). -/
def State.activeTref (s : State) : Nat :=
  if bitOf (s.get COR_OSEL_ACT) 0 then s.get COR_TREF_B_TEMP else s.get COR_TREF_A_TEMP

/-- A record word as it is saved: both offset slots equal to the active one. -/
def State.savedPb (s : State) (a v : Nat) : Nat :=
  if a % 4 = 0 then
    let o := Rec.ofs v (bitOf (s.get COR_OSEL_ACT) (a / 16384))
    o + o * 65536
  else v

def Tile.saved (n : Nat) (t : Tile) : SavedTile := ⟨n, t.trims, t.skims, t.factors.map fun p => (p.1, p.2.gain, p.2.ofs)⟩

/-- The set that a save writes. -/
def State.savedNow (s : State) : SavedSet :=
  let auto := s.flag BRD_CTRL_AUTO
  { loads := s.regs.filter fun p => isLoadKey p.1
    pb := s.corr.pb.foldl (fun m p => mset 0 m p.1 (s.savedPb p.1 p.2)) []
    tref := s.activeTref
    osel := s.get COR_OSEL_ACT
    tiles := s.sensor.tiles.map fun p => p.2.saved p.1
    cls := s.sched.cls
    map := s.sched.map
    braid := if auto then [] else s.braid.active.words
    braidK := if auto then 0 else s.braid.active.k
    auto := auto }

/-! ### The journal and the read (R403, R448, R449) -/

/-- A journal slot pair: its configuration part and its tables part, each half of its region (R403, R448). -/
def journalSlot (i : Nat) : List (Nat × Nat) := [(0x10000 + i * 0x78000, 0x78000), (0x1500000 + i * 0x400000, 0x400000)]

/-- No blend, reversal or trim hand-off runs, so the records may be read (R449). -/
def State.mayReadPixels (s : State) : Bool :=
  s.corr.blend == .idle && s.get CAL_STATUS_PHASE != 8 && s.tileList.all fun n => !s.trimsPending n

/-- A save that waits reads the tables as soon as it may; the model reads them at one moment (R449). -/
def State.saveRead (s : State) : State :=
  if s.opRuns 0x0403 && s.flash.saving.isNone && s.mayReadPixels then
    { s with flash := { s.flash with saving := some s.savedNow } }
  else s

end Sys2Proof.Machine
end

