-- ==== Sys2Proof/Machine/Tablesets.lean ====
section
/-! DEFINITION. Saved table sets: what a load gives back, and the reload of a table memory (spec/
file 17, R448 to R450; file 12, R313). -/

namespace Sys2Proof.Machine

open Reg

/-- The field at a key that a load sets. -/
def fieldOfKey (k : Nat) : Option Fld := (fieldsAt (k / 32)).find? fun f => f.lo == k % 32 && f.load

/-- The factory data: for each field its factory value, for the tables what the model's own part holds (log entry 4). -/
def SavedSet.factory : SavedSet := ⟨[], [], COR_TREF_A_TEMP.reset, 0, [], [], [], [], 0, true⟩

/-! ### Loading a set (R433, R450) -/

/-- One field of the configuration, at its value in force at once, as in boot. -/
def State.bootField (s : State) (k v : Nat) : State :=
  match fieldOfKey k with
  | none => s
  | some f =>
    let s := if liveFlds.any (fun g => g.key == k) then s.setForce f v else s.set f v
    if k = STG_FRATE_RATE.key then { s with sensor := { s.sensor with rate := v } }
    else if k = STG_BIAS_LEVEL.key then { s with sensor := { s.sensor with level := v } }
    else if 0x4000 ≤ k / 32 ∧ k / 32 < 0x6000 ∧ k / 32 % 0x100 = 0 then
      let n := (k / 32 - 0x4000) / 0x100
      s.setTile n { s.tile n with gain := v }
    else s

/-- A field that the arrival-time tables are computed from (R159). -/
def isTableInput (k : Nat) : Bool :=
  [BRD_VNOM_V, BRD_HYPSET_K, BRD_HYPSET_SPACING, BRD_GEOM_PITCH, BRD_GEOM_TILT, BRD_GRAV_G].any fun f => f.key == k

/-- One field of the configuration in service: it applies under its own rule. -/
def State.serviceField (s : State) (k v : Nat) : State :=
  match fieldOfKey k with
  | none => s
  | some f =>
    if s.get f = v then s
    else if k = STG_FRATE_RATE.key then s.stgFrateW (BitVec.ofNat 32 v)
    else if k = STG_BIAS_LEVEL.key then s.stgBiasW (BitVec.ofNat 32 v)
    else if 0x4000 ≤ k / 32 ∧ k / 32 < 0x6000 ∧ k / 32 % 0x100 = 0 then
      s.tilGainW ((k / 32 - 0x4000) / 0x100) (BitVec.ofNat 32 v)
    else if liveFlds.any fun g => g.key == k then s.stageFld f v
    else if isTableInput k then (s.set f v).askTables
    else s.set f v

/-- The fields of the configuration that a load touches: those of the set, and those that now differ from their
factory values. -/
def State.loadKeys (s : State) (x : SavedSet) : List Nat :=
  ((x.loads.map (·.1)) ++ ((s.regs.filter fun p => x.loads.all fun q => q.1 != p.1).map (·.1))).filter isLoadKey

def SavedSet.fieldOf (x : SavedSet) (k : Nat) : Nat := mget (((fieldOfKey k).map Fld.reset).getD 0) x.loads k

def State.loadFields (s : State) (x : SavedSet) (boot : Bool) : State :=
  (s.loadKeys x).foldl (fun s k =>
    if boot then s.bootField k (x.fieldOf k) else s.serviceField k (x.fieldOf k)) s

/-- Both reference temperatures, the slot selection, the last stage temperature (file 05, CAL_LASTSTAGE), and the pixel
records, whose words are written afresh. -/
def State.loadPixels (s : State) (x : SavedSet) : State :=
  let s := ((s.set COR_TREF_A_TEMP x.tref).set COR_TREF_B_TEMP x.tref).set COR_OSEL_ACT x.osel
  let s := s.set CAL_LASTSTAGE_TEMP x.tref
  { s with corr := { s.corr with pb := x.pb, marks := [] },
           mem := { s.mem with errs := s.mem.errs.filter fun e => decide (32 ≤ e.bank) } }

/-- Slice factors of a saved tile. -/
def SavedTile.factorsOf (x : SavedTile) : List (Nat × Factor) :=
  x.factors.foldl (fun m p => mset Factor.unity m p.1 ⟨p.2.1, p.2.2, false, 0⟩) []

/-- The steps that take a tile's trims to the saved ones. -/
def Tile.stepsTo (t : Tile) (x : SavedTile) : List (Nat × Nat) :=
  let cells := fun (m : List (Nat × Nat)) => m.map (·.1)
  (((cells x.trims ++ cells t.trims).dedup).map fun i => (i, mget 0 x.trims i))
    ++ ((cells x.skims ++ cells t.skims).dedup).map fun i => (4096 + i, mget 0 x.skims i)

/-- A tile's factors and trims: at once in boot, in service the trims are staged (R38, R433, R450). -/
def State.loadTile (s : State) (x : SavedTile) (boot : Bool) : State :=
  let t := s.tile x.tile
  if boot then
    let s := s.setTile x.tile { t with trims := x.trims, trimsW := x.trims, skims := x.skims, factors := x.factorsOf }
    x.skims.foldl (fun s p => s.set (skimFld x.tile p.1) p.2) s
  else
    (s.setTile x.tile { t with factors := x.factorsOf }).stagePut (.handoff x.tile (t.stepsTo x))

def SavedSet.tileOf (x : SavedSet) (n : Nat) : SavedTile := (x.tiles.find? fun t => t.tile == n).getD ⟨n, [], [], []⟩

/-- Words `lo` to `lo + n − 1` of the table memories are written afresh. -/
def State.wordsFresh (s : State) (lo n : Nat) : State :=
  { s with mem := { s.mem with
      errs := s.mem.errs.filter fun e => !(e.bank == 57 && decide (lo ≤ e.word ∧ e.word < lo + n)) } }

/-- All words of a table are written afresh. -/
def State.tableFresh (s : State) (id : Nat) : State := s.wordsFresh (65536 * id) 65536

/-- Classifier and map banks; the braid tables where the set holds them. -/
def State.loadBanks (s : State) (x : SavedSet) (boot : Bool) : State :=
  let s := ({ s with sched := { s.sched with cls := x.cls, map := x.map } }.tableFresh 6).tableFresh 8
  if x.auto then s
  else if boot then { s with braid := { s.braid with active := ⟨1, x.braidK, x.braid⟩ } }
  else s.giveSet x.braid x.braidK

/-- A whole set is loaded (R450); no reload that failed before is still owed (R440). -/
def State.loadSet (s : State) (x : SavedSet) (boot : Bool) : State :=
  let s := (s.loadFields x boot).loadPixels x
  let s := s.tileList.foldl (fun s n => s.loadTile (x.tileOf n) boot) s
  let s := s.loadBanks x boot
  { s with house := { s.house with badTables := [] } }

/-- The tables that a load gives, by ID (R344). -/
def SavedSet.ids (x : SavedSet) : List Nat := if x.auto then [1, 6, 8] else [1, 4, 6, 8]

/-- The newest complete set, or the factory data with a record for each table so loaded (R450). -/
def State.loadNewest (s : State) (boot : Bool) : State × List Nat :=
  match s.flash.saved with
  | some x => (s.loadSet x boot, x.ids)
  | none => (SavedSet.factory.ids.foldl (fun s i => s.record 0x805 i 0 0) (s.loadSet SavedSet.factory boot), SavedSet.factory.ids)

/-! ### TABLE_MEMORY_RELOAD (R313, R438) -/

/-- Bank `dst` takes the entries that bank `org` has in the source; a bank has `n` keys. -/
def bankOnto (m src : List (Nat × Nat)) (n dst org : Nat) : List (Nat × Nat) :=
  let keep := m.filter fun p => p.1 / n != dst
  (src.filter fun p => p.1 / n == org).foldl (fun m p => mset 0 m (n * dst + p.1 % n) p.2) keep

/-- The flash copy goes into the shadow buffer and is switched in under the table's own rule. -/
def State.reloadTable (s : State) (id : Nat) : State :=
  let x := s.flash.saved.getD SavedSet.factory
  if id = 4 then
    if s.flag BRD_CTRL_AUTO || x.auto then s.shadowFresh.askTables else s.giveSet x.braid x.braidK
  else if id = 5 then s.tableFresh 5
  else if id = 6 then
    let a := s.get VRD_CTRL_ACTBANK
    ({ s with sched := { s.sched with cls := bankOnto s.sched.cls x.cls 512 (1 - a) a } }.wordsFresh
      (65536 * 6 + 512 * (1 - a)) 512).vrdSwitchS
  else if id = 8 then
    let a := s.get EJS_CTRL_MAPACT
    ({ s with sched := { s.sched with map := bankOnto s.sched.map x.map 2048 (1 - a) a } }.wordsFresh
      (65536 * 8 + 2048 * (1 - a)) 2048).mapswS
  else s

/-- A reload ends: its check passed, or the firmware faults (R438). -/
def State.reloadEnd (s : State) (id : Nat) (good : Bool) : State :=
  if good then
    let s := (s.reloadTable id).record 0x805 id 0 0
    { s with house := { s.house with badTables := s.house.badTables.filter (· != id) } }
  else { s with house := { s.house with badTables := s.house.badTables.filter (· != id) ++ [id] } }.fwFault

def execTableMemoryReload (table : Nat) (good : Bool) (s : State) : Host.Outcome State Fault Refusal :=
  ok (s.reloadEnd table good)

end Sys2Proof.Machine
end

