-- ==== Sys2Proof/Machine/Startup.lean ====
section
/-! DEFINITION. Power-up, the causes of resets, and the start-up to warm-up (spec/ file 17, R428, R432 to R437, R444 to
R447, R450; file 15, R402; file 10, R272 to R274). -/

namespace Sys2Proof.Machine

open Reg

/-! ### Image slots -/

def Flash.slot (f : Flash) (i : Nat) : Slot := if i = 0 then f.slotA else f.slotB

def Flash.setSlot (f : Flash) (i : Nat) (x : Slot) : Flash := if i = 0 then { f with slotA := x } else { f with slotB := x }

/-- A slot's record and hash pass (R444). -/
def Slot.passes (x : Slot) : Bool := x.state == 3 && x.valid

/-- A slot that a reset finds without a commit record is empty (R447). -/
def Slot.afterReset (x : Slot) : Slot := if x.state = 3 then x else Slot.empty

/-- What a reset leaves of the flash: slots as R447 says, nothing in progress, the prefetch buffer empty. -/
def Flash.afterReset (f : Flash) : Flash :=
  { f with slotA := f.slotA.afterReset, slotB := f.slotB.afterReset, recovery := false, saving := none, lines := [],
           misses := [], seqLine := none, suspended := false, op := [] }

/-! ### Reset causes (R272 to R274, R338, R432, R456) -/

/-- VIN rises through 10.60 V: the rail sequence begins, VIO is detected as 3.3 V or not, and a latch that holds no
cause takes cause 1 (R271, R428, R432). -/
def State.powerUp (s : State) (vio33 : Bool) : State :=
  if s.power.phase = .unpowered then
    { s with power := ⟨.sequencing 0, if s.power.latch = 0 then 1 else s.power.latch, s.time, false, vio33⟩ }
  else s

def execPowerOn (vio33 : Bool) (s : State) : Host.Outcome State Fault Refusal := ok (s.powerUp vio33)

/-- The reset is released (R433): every register, memory and queue of the block takes its reset value. What waits to
be commanded is outside the block. -/
def State.release (s : State) : State :=
  let t := { State.fresh s.fuses s.flash.afterReset s.power.latch s.free s.outs with pending := s.pending }
  { t with power := { t.power with vio33 := s.power.vio33 } }.setB PWR_STAT_VIO33 s.power.vio33

/-- The number of internal rails (R272). -/
def railCount : Nat := 9

/-- A rail is good: the next starts, or after the last the reset is released (R272). -/
def State.railUp (s : State) : State :=
  match s.power.phase with
  | .sequencing g =>
    if railCount ≤ g + 1 then s.release else { s with power := { s.power with phase := .sequencing (g + 1) } }
  | _ => s

def execRailGood (s : State) : Host.Outcome State Fault Refusal := ok s.railUp

/-- Not without power. -/
def State.powered (s : State) : Bool := s.power.phase != .unpowered

/-- A rail fails: all rails go off and are sequenced again (R273, R432). -/
def State.railDown (s : State) : State := if s.powered then s.resetStart 3 (.sequencing 0) else s

def execRailFault (_rail : Nat) (s : State) : Host.Outcome State Fault Refusal := ok s.railDown

/-- VIN falls through 9.20 V: all rails off (R274, R432). -/
def execVinPowerFail (s : State) : Host.Outcome State Fault Refusal :=
  ok (if s.powered then s.resetStart 2 .unpowered else s)

/-- The firmware's watchdog of 100 ms (R338). -/
def execWatchdogExpiry (s : State) : Host.Outcome State Fault Refusal := ok (if s.isOn then s.resetNow 4 else s)

/-- A reset through the debug module, which DBGEN admits (R432, R456). -/
def execDebugReset (s : State) : Host.Outcome State Fault Refusal :=
  ok (if s.isOn && s.flag TMX_CTRL_DBGEN then s.resetNow 7 else s)

/-- VIN has fallen below 4.5 V: the latch loses its value (R432). -/
def execCauseLatchLoss (s : State) : Host.Outcome State Fault Refusal :=
  ok (if s.powered then s else { s with power := { s.power with latch := 0 } })

/-- The delay after a reset that left the rails on has passed (R432). -/
def execResetRelease (s : State) : Host.Outcome State Fault Refusal :=
  ok (if s.power.phase = .held then s.release else s)

/-! ### Boot (R402, R428, R433, R444 to R446) -/

/-- The boot ROM can use the flash device (R402). -/
def Device.usable (d : Device) : Bool := d.sfdp && decide (32 ≤ d.mib) && d.quad != 0

/-- Discovery of the flash (R402); one that fails leaves the module in boot. -/
def State.discover (s : State) : State :=
  let d := s.fuses.dev
  let s := s.set FLS_ID_JEDEC d.jedec
  if d.usable then
    let s := (s.set FLS_SIZE_MIB d.mib).set FLS_STAT_READ (if d.quad = 2 then 2 else 1)
    (s.set FLS_STAT_ADDR4 1).setB FLS_STAT_SUSPOK d.suspend
  else ((s.set FLS_STAT_DISCERR 1).bump FLS_ERRCNT_COUNT).raise Src.flsErr

/-- The activation record as the boot ROM leaves it before a start-up: a trial counts its tries, and one that has had
three names the previous slot again (R445). The flag says that a trial was given up. -/
def Flash.tryBoot (f : Flash) : Flash × Bool :=
  if f.trial then
    if 3 ≤ f.tries then ({ f with trial := false, tries := 0, active := f.prev }, true)
    else ({ f with tries := f.tries + 1 }, false)
  else (f, false)

/-- A record of an image step: which step and with what status the spec does not code (R358; log entry 2). -/
def State.imageRecord (s : State) (slot : Nat) : State :=
  let a := s.draw
  let b := a.2.draw
  b.2.record 0x806 (a.1 % 2 ^ 32) slot (b.1 % 2 ^ 32)

/-- The firmware of a slot runs: it writes the start-up count and its record (R358, R428, R433). -/
def State.runSlot (s : State) (i : Nat) : State :=
  let n := (s.flash.boots + 1) % 65536
  let s := { s with flash := { s.flash with booted := i, boots := n }, power := { s.power with fw := true } }
  let s := ((s.set GLB_FWVER_VER (s.flash.slot i).version).set GLB_FWVER_SLOT i).set GLB_RSTCAUSE_BOOTS n
  s.record 0x800 (s.word 0x18) (s.word 0x0C) 0

/-- The boot slot is checked, and it or the other boots; with neither, the boot ROM enters recovery (R444 to R446). -/
def State.bootSlot (s : State) : State :=
  let s := s.discover
  if s.flag FLS_STAT_DISCERR then s
  else
    let p := s.flash.tryBoot
    let s := { s with flash := p.1 }
    let a := s.flash.active
    let other := 1 - a
    let s :=
      if (s.flash.slot a).passes then s.runSlot a
      else if (s.flash.slot other).passes then (s.runSlot other).imageRecord a
      else { s with flash := { s.flash with recovery := true }, power := { s.power with fw := true } }
    let s := { s with ssp := { s.ssp with ready := true } }
    if p.2 && !s.flash.recovery then (s.raise Src.imgFail).imageRecord s.flash.prev else s

/-- The boot ROM runs and has started no slot. -/
def State.inBootRom (s : State) : Bool := s.isOn && s.mode == 0 && !s.power.fw

def State.bootCheck (s : State) : State := if s.inBootRom then s.bootSlot else s

/-! ### The end of boot (R428, R436, R445, R450) -/

/-- The LPDDR4X is trained (R332, R333). -/
def State.ddrTrain (s : State) : State :=
  let e := s.flag MEM_DDRCTL_IECC
  ((s.set MEM_DDRSTAT_TRAINED 1).setB MEM_DDRSTAT_IECCACT e).set MEM_DDRSTAT_CAPMB (if e then 896 else 1024)

/-- A DHCP client starts where the configuration asks for one (R381). -/
def State.dhcpStart (s : State) : State :=
  if s.flag ETH_CTRL_DHCP then { s with net := { s.net with dhcp := 1 } }.emit (.dhcp 1) else s

/-- Warm-up, or thermal shutdown where a die entered it during boot (R287, R427, R428). -/
def State.endBoot (s : State) : State :=
  if s.house.shutdown then
    ((((s.set GLB_STAT_STATE 5).driveDown.loopsDown false).calAbortW).pipelineDown.ddrShow).faultShow
  else s.warmUp

/-- Tables and configuration are loaded, and boot ends (R428): self-calibration of housekeeping, LPDDR4X, harts, chain
ports, warm-up; a trial slot is confirmed (R445). -/
def State.loaded (s : State) : State :=
  let s := ((s.loadNewest true).1).askTables
  let s := s.hkaScal.ddrTrain.setB TMX_CTRL_DBGEN s.flash.dbgen
  let s := s.set GLB_CORECTL_HARTON (s.get GLB_CORECTL_HARTEN)
  let s := s.chainStart.dhcpStart
  let s := { s with flash := { s.flash with trial := false, tries := 0 } }
  s.endBoot

def execConfigLoadDone (s : State) : Host.Outcome State Fault Refusal :=
  ok (if s.isOn && s.mode == 0 && s.power.fw && !s.flash.recovery then s.loaded else s)

end Sys2Proof.Machine
end

