-- ==== Sys2Proof/Machine/Packets.lean ====
section
/-! DEFINITION. Baind requests: packets, checks, sources, duplicates, sessions, targets, replies (spec/ file 14, R359 to
R365, R374 to R376). -/

namespace Sys2Proof.Machine

open Reg

/-! ### Packets (R359 to R361) -/

/-- A request that has passed checks 1 to 3 of R361. -/
structure Req where
  src : Source
  /-- every byte before the trailer -/
  bytes : List Nat
  trailer : Option (List Nat)
  version : Nat
  opcode : Nat
  seq : Nat
  target : Nat
  pay : List Nat
  deriving DecidableEq, Repr

def le2 (l : List Nat) (i : Nat) : Nat := leVal (slice l i 2)
def le4 (l : List Nat) (i : Nat) : Nat := leVal (slice l i 4)

/-- Checks 1 to 3 of R361 on received bytes. -/
def parsePacket (src : Source) (raw : List Nat) : Option Req :=
  let flags := raw.getD 1 0
  let auth := bitOf flags 1
  let n := 16 + le2 raw 6
  if raw.length < 16 ∨ raw.length ≠ n + (if auth then 32 else 0) then none
  else if crc32c (raw.take 12 ++ slice raw 16 (n - 16)) ≠ le4 raw 12 then none
  else if bitOf flags 0 ∨ bitOf flags 2 then none
  else
    some { src := src, bytes := raw.take n, trailer := if auth then some (raw.drop n) else none,
           version := raw.getD 0 0, opcode := le2 raw 2, seq := le2 raw 4, target := raw.getD 8 0,
           pay := slice raw 16 (n - 16) }

/-- The request that a Baind row stands for. -/
def reqOf (h : Hdr) (opcode : Nat) (pay : List Nat) : Req :=
  { src := h.src
    bytes := packetOf h.version (if h.trailer.isSome then 2 else 0) opcode h.seq pay.length h.target pay
    trailer := h.trailer.map ofBytes, version := h.version % 256, opcode := opcode, seq := h.seq % 65536,
    target := h.target % 256, pay := pay }

/-! ### Opcodes (R366) -/

/-- Opcode, kind (1 W, 2 L, 4 B), and payload length where it is fixed. -/
def opTable : List (Nat × Nat × Option Nat) := [
  (0x0101, 4, some 4), (0x0102, 5, none), (0x0103, 5, some 12), (0x0201, 5, some 0), (0x0202, 5, some 0),
  (0x0203, 5, some 0), (0x0204, 5, some 0), (0x0205, 5, some 4), (0x0206, 4, some 0), (0x0207, 0, some 0),
  (0x0208, 0, some 0), (0x0301, 7, some 0), (0x0302, 3, some 0), (0x0303, 1, some 0), (0x0304, 7, some 4),
  (0x0305, 7, some 0), (0x0401, 1, none), (0x0402, 0, some 12), (0x0403, 7, some 0), (0x0404, 7, some 0),
  (0x0501, 3, some 4), (0x0502, 0, some 12), (0x0601, 0, some 16), (0x0602, 1, some 0), (0x0603, 1, some 32),
  (0x0604, 3, some 4), (0x0605, 1, none), (0x0606, 3, some 0), (0x0607, 1, some 4), (0x0608, 0, some 0),
  (0x0701, 4, some 0), (0x0702, 4, some 8), (0x0801, 4, some 0), (0x0802, 1, some 0), (0x7F00, 5, some 4)]

def opInfo (opcode : Nat) : Option (Nat × Option Nat) := (opTable.find? fun x => x.1 == opcode).map (·.2)

def opKind (opcode bit : Nat) : Bool := (opInfo opcode).any fun x => bitOf x.1 bit

/-- Opcodes that recovery answers (R446). -/
def recoveryOps : List Nat := [0x0208, 0x0206, 0x0604, 0x0605, 0x0606, 0x0607, 0x0608, 0x0205]

/-! ### Sessions (R375, R376) -/

def State.session (s : State) (src : Source) : Option Session := (s.baind.sessions.find? fun x => x.1 == src).map (·.2)

def State.sessionsShow (s : State) : State := s.set ETH_STAT_SESSIONS s.baind.sessions.length

def State.setSessions (s : State) (l : List (Source × Session)) : State :=
  { s with baind := { s.baind with sessions := l } }.sessionsShow

def isUdp : Source → Bool
  | .udp _ _ => true
  | _ => false

/-- Sessions idle for ETH_CTRL.IDLE end (R375). -/
def State.idleLimit (s : State) : Nat := s.get ETH_CTRL_IDLE * 10000000000

def State.expireSessions (s : State) : State :=
  let keep := s.baind.sessions.filter fun x => decide (s.time < x.2.last + s.idleLimit)
  if keep = s.baind.sessions then s else s.setSessions keep

/-- The session of UDP sources that has been idle longest. -/
def idlest : List (Source × Session) → Option (Source × Session)
  | [] => none
  | x :: r => match idlest r with
    | none => some x
    | some y => if y.2.last < x.2.last then some y else some x

/-- A session opens for its source; a fifth UDP session replaces the one idle longest (R375). -/
def State.openSession (s : State) (src : Source) (key : List Nat) : State :=
  let l := s.baind.sessions.filter fun x => x.1 != src
  let udp := l.filter fun x => isUdp x.1
  let l := if isUdp src && decide (4 ≤ udp.length) then
      (match idlest udp with
       | some y => l.filter fun x => x.1 != y.1
       | none => l)
    else l
  s.setSessions (l ++ [(src, ⟨key, none, s.time⟩)])

/-- The path's authentication bit is set (R376); a member's authentication has been checked where the request came in
(R365). -/
def State.pathAuth (s : State) : Source → Bool
  | .udp _ _ => s.flag ETH_CTRL_AUTHUDP
  | .ssp => s.flag ETH_CTRL_AUTHSSP
  | .mbx _ => s.flag ETH_CTRL_AUTHMBX
  | .chain _ => false

/-- Check 6: the status, 0 where it passes, and the key that the reply is authenticated with (R374, R376). -/
def State.authCheck (s : State) (q : Req) : Nat × Option (List Nat) :=
  match q.trailer with
  | none =>
    let exempt := q.opcode == 0x0203 || (q.opcode == 0x0603 && q.src == .ssp)
    (if s.pathAuth q.src && opKind q.opcode 0 && !exempt then 0x20 else 0, none)
  | some t =>
    match s.session q.src with
    | none => (0x21, none)
    | some x =>
      if hmac256 x.key q.bytes ≠ t then (0x21, none)
      else
        let newer := match x.seq with
          | none => true
          | some p => decide (1 ≤ (q.seq + 65536 - p) % 65536 ∧ (q.seq + 65536 - p) % 65536 ≤ 32767)
        (if newer then 0 else 0x22, some x.key)

/-- An authenticated request moves its session on. -/
def State.authDone (s : State) (q : Req) (key : Option (List Nat)) : State :=
  match key with
  | none => s
  | some _ => { s with baind := { s.baind with
      sessions := s.baind.sessions.map fun x => if x.1 = q.src then (x.1, { x.2 with seq := some q.seq, last := s.time }) else x } }

/-! ### Replies (R361, R362, R364) -/

/-- What R361 counts and raises for a status. -/
def State.countStatus (s : State) (status : Nat) : State :=
  if 0x10 ≤ status ∧ status ≤ 0x15 then (s.bump ETH_BAINDERR_COUNT).raise Src.baindErr
  else if 0x20 ≤ status ∧ status ≤ 0x22 then (s.bump ETH_AUTHFAIL_COUNT).raise Src.baindAuth
  else s

/-- A dropped packet (R361). -/
def State.dropPacket (s : State) : State := (s.bump ETH_BAINDERR_COUNT).raise Src.baindErr

/-- Replies kept for duplicates: the last 8 of each source (R364). -/
def State.keepReply (s : State) (c : CachedReply) : State :=
  let l := s.baind.cache ++ [c]
  let mine := l.filter fun x => x.src == c.src
  let l := if mine.length ≤ 8 then l else
    (match mine.head? with
     | some y => l.erase y
     | none => l)
  { s with baind := { s.baind with cache := l } }

def State.expireReplies (s : State) : State :=
  { s with baind := { s.baind with cache := s.baind.cache.filter fun c => decide (s.time < c.sent + 5000000000) } }

def Req.raw (q : Req) : List Nat := q.bytes ++ q.trailer.getD []

/-- The stored replies to an identical request: one, or one from each member that executed it (R364, R365). -/
def State.storedReplies (s : State) (q : Req) : List (List Nat) :=
  (s.baind.cache.filter fun c => c.src == q.src && c.seq == q.seq && c.opcode == q.opcode && c.req == q.raw).map (·.reply)

/-- The payload that goes with a status: an error status has none (R362), but for a refused LOAD_TABLE (R368). -/
def statusPay (opcode status : Nat) (pay : List Nat) : List Nat :=
  if status ≤ 1 ∨ (status = 0x31 ∧ opcode = 0x0401) then pay else []

/-- Send bytes as the reply to a request, and keep them. -/
def State.reply (s : State) (q : Req) (status : Nat) (p : List Nat) : State :=
  let s := (s.sendReply q.src s.baind.tag false p).countStatus status
  s.keepReply ⟨q.src, q.seq, q.opcode, q.raw, p, s.time⟩

/-- The module's own reply; a module in reset forms none. -/
def State.answer (s : State) (q : Req) (key : Option (List Nat)) (status : Nat) (pay : List Nat) : State :=
  if s.isOn then
    s.reply q status (s.replyBytes q.opcode q.seq (s.get GLB_STAT_CHIDX) 0 status (statusPay q.opcode status pay) key)
  else s

/-- The path of a firmware record (R358). -/
def pathCode : Source → Nat
  | .ssp => 1
  | .mbx _ => 2
  | _ => 0

/-- A request that has passed every check is executed: it counts, a state-changing one is logged, and its reply goes
out (R358, ETH_BAINDCNT). -/
def State.done (s : State) (q : Req) (key : Option (List Nat)) (status : Nat) (pay : List Nat) : State :=
  if s.isOn then
    let s := s.bump ETH_BAINDCNT_COUNT
    let s := if status ≤ 1 ∧ opKind q.opcode 0 ∧ s.flag EVT_LOGCTL_CMDLOG then
        s.record 0x807 q.opcode q.seq (pathCode q.src) else s
    s.answer q key status pay
  else s

/-! ### Forwarding (R365) -/

/-- The module is in a chain, as member or master. -/
def State.inChain (s : State) : Bool := s.get CHN_STAT_STATE == 1 || s.get CHN_STAT_STATE == 2

/-- Other members of the chain by index. -/
def State.others (s : State) : List Nat := (List.range s.chain.size).filter fun i => i != s.get GLB_STAT_CHIDX

/-- The request is on its way to other members already. -/
def State.underway (s : State) (q : Req) : Bool :=
  s.baind.fwd.any fun f => f.src == q.src && f.seq == q.seq && f.opcode == q.opcode && f.req == q.raw && f.waits != []

/-- The request goes to other members, whose replies are awaited. -/
def State.forward (s : State) (q : Req) (key : Option (List Nat)) (l : List Nat) : State :=
  if l = [] ∨ s.underway q then s
  else
    let s := l.foldl (fun s i => s.emit (.chain (s.portTo i) (.baind false i (toBytes q.bytes)))) s
    { s with baind := { s.baind with
      fwd := s.baind.fwd ++ [⟨q.src, q.seq, q.opcode, l, [], s.time, key, s.baind.tag, q.raw⟩] } }

def isChain : Source → Bool
  | .chain _ => true
  | _ => false

end Sys2Proof.Machine
end

