-- ==== Sys2Proof/Machine/Commands.lean ====
section
/-! DEFINITION. What each Baind opcode does (spec/ file 14, R366 to R373, R374, R375, R378; file 17, R445, R448 to
R450; file 13, R355). -/

namespace Sys2Proof.Machine

open Reg

/-! ### Payload fields (check 9 of R361) -/

/-- The range check of a table command: ID, address, COUNT, reserved bytes (R368). -/
def tableRange (p : List Nat) : Bool :=
  let n := le2 p 8
  decide (1 ≤ n ∧ n ≤ 320 ∧ slice p 1 3 = [0, 0, 0] ∧ le2 p 10 = 0)

/-- Check 9 by opcode: 0 where it passes, else BAD_LENGTH or BAD_PAYLOAD. -/
def State.payloadCheck (s : State) (q : Req) : Nat :=
  let p := q.pay
  let n := p.length
  let fixed := match opInfo q.opcode with
    | some (_, some k) => n == k
    | _ => true
  let bad := fun (b : Bool) => if b then 0x13 else 0
  if !fixed then 0x11
  else if q.opcode = 0x0101 then bad (le2 p 2 == 0 || decide (320 < le2 p 2 ∨ 0x4000 < le2 p 0 + le2 p 2))
  else if q.opcode = 0x0102 then
    if n < 4 then 0x11
    else if le2 p 2 = 0 ∨ 320 < le2 p 2 then 0x13
    else if n ≠ 4 + 4 * le2 p 2 then 0x11
    else bad (decide (0x4000 < le2 p 0 + le2 p 2))
  else if q.opcode = 0x0103 then bad (decide (0x4000 ≤ le2 p 0) || le2 p 2 != 0)
  else if q.opcode = 0x0205 then bad (p != [0x5A, 0, 0, 0])
  else if q.opcode = 0x0304 then bad (decide (2 ^ s.nTiles ≤ le4 p 0))
  else if q.opcode = 0x0401 then
    if n < 12 then 0x11
    else if !tableRange p then 0x13
    else if n ≠ 12 + 4 * le2 p 8 then 0x11
    else bad (decide (tableSize (p.getD 0 0) < le4 p 4 + le2 p 8))
  else if q.opcode = 0x0402 then bad (!tableRange p || decide (tableSize (p.getD 0 0) < le4 p 4 + le2 p 8))
  else if q.opcode = 0x0501 then bad (le2 p 0 == 0 || decide (256 < le2 p 0) || le2 p 2 != 0)
  else if q.opcode = 0x0502 then
    let len := le2 p 8
    bad (decide (len < 4 ∨ 1280 < len ∨ len % 4 ≠ 0) || le2 p 10 != 0 || (match s.tap.ring.find? fun x => x.1 == le4 p 0 with
      | some x => decide (64 + x.2.units * x.2.unit < le4 p 4 + len)
      | none => true))
  else if q.opcode = 0x0604 then bad (decide (le4 p 0 < 256 ∨ 8388608 < le4 p 0 ∨ le4 p 0 % 256 ≠ 0))
  else if q.opcode = 0x0605 then (if n < 8 ∨ 1284 < n then 0x11 else bad (le4 p 0 % 4 != 0))
  else if q.opcode = 0x0607 then bad (decide (1 < p.getD 0 0) || slice p 1 3 != [0, 0, 0])
  else if q.opcode = 0x0702 then bad (le2 p 4 == 0 || decide (40 < le2 p 4) || le2 p 6 != 0)
  else 0

/-! ### Registers (R367) -/

def leWords (l : List Nat) : List Nat := l.flatMap (leBytes 4)

/-- Writes of ascending words; a reset that one of them starts ends them. -/
def State.writeSeq (s : State) (a : Nat) (l : List Nat) : State :=
  (List.range l.length).foldl (fun s i =>
    if s.isOn then s.regWriteBy .mgmt (a + 4 * i) (l.getD i 0) 0 else s) s

def wordsOf (l : List Nat) (i n : Nat) : List Nat := (List.range n).map fun k => le4 l (i + 4 * k)

/-- The bits of W1C, W1S and WO fields that lie outside a mask (R367). -/
def trapBits (a mask : Nat) : Nat :=
  ((fieldsAt a).filter fun f => (f.ty == .w1c || f.ty == .w1s || f.ty == .wo) && bits mask f.lo f.width == 0).foldl
    (fun m f => m ||| (2 ^ f.width - 1) * 2 ^ f.lo) 0

def State.opRegRead (s : State) (q : Req) (key : Option (List Nat)) : State :=
  let p := s.readSeq .mgmt (4 * le2 q.pay 0) (le2 q.pay 2)
  p.1.done q key 0 (leWords p.2)

def State.opRegWrite (s : State) (q : Req) (key : Option (List Nat)) : State :=
  (s.writeSeq (4 * le2 q.pay 0) (wordsOf q.pay 4 (le2 q.pay 2))).done q key 0 []

def State.opRegModify (s : State) (q : Req) (key : Option (List Nat)) : State :=
  let a := 4 * le2 q.pay 0
  let mask := le4 q.pay 4
  let p := s.readBy .mgmt a
  let new := andNot (andNot p.2 mask ||| (le4 q.pay 8 &&& mask)) (trapBits a mask)
  (p.1.regWriteBy .mgmt a new 0).done q key 0 (leWords [p.2, new])

/-! ### Module state (R369) -/

def State.opStart (s : State) (q : Req) (key : Option (List Nat)) : State :=
  if s.mode = 2 then s.sortStart.done q key 0 [] else s.done q key 0x15 []

def State.opStop (s : State) (q : Req) (key : Option (List Nat)) : State :=
  (if s.sorting then s.sortStop else s).done q key 0 []

def State.opSafe (s : State) (q : Req) (key : Option (List Nat)) : State := (s.enterSafe 0).done q key 0 []

def State.opRestart (s : State) (q : Req) (key : Option (List Nat)) : State :=
  let p := s.restartReq
  p.1.done q key (if p.2 then 0 else 0x15) []

def State.opReset (s : State) (q : Req) (key : Option (List Nat)) : State := (s.done q key 0 []).commandedReset 5

def State.opStatus (s : State) (q : Req) (key : Option (List Nat)) : State :=
  s.done q key 0 (leWords ([0x0014, 0x1404, 0x1000, 0x6404, 0x2028, 0x000C].map fun a => s.regWord .mgmt a)
    ++ leBytes 8 (floor2 s.time))

/-- SOURCE of OP_QUERY. -/
def sourceCode : Source → Nat
  | .udp _ _ => 0
  | .ssp => 1
  | .mbx c => 2 + c
  | .chain _ => 0

def State.opQueryPay (s : State) : List Nat :=
  (s.baind.ops.drop (s.baind.ops.length - 8)).flatMap fun o =>
    leBytes 2 o.opcode ++ leBytes 2 o.seq ++ leBytes 2 o.status ++ [sourceCode o.src, 0]

def State.identifyPay (s : State) : List Nat :=
  leWords ([0x0000, 0x0004, 0x0008, 0x000C].map fun a => s.word a) ++ beBytes 6 s.fuses.mac ++ [0, 0]
    ++ leBytes 4 (s.get ETH_IP_ADDR) ++ [s.get GLB_STAT_CHIDX, 0, 0, 0]

/-! ### Long operations (R370, R371) -/

/-- A long operation enters the list, which keeps those that run and the 8 most recent. -/
def State.opBegin (s : State) (q : Req) (key : Option (List Nat)) (wait : Bool) : State :=
  let l := s.baind.ops ++ [⟨q.opcode, q.seq, q.src, 1, key, s.baind.tag, wait⟩]
  let n := l.length
  let l := (List.range n).filterMap fun i => match l[i]? with
    | some o => if o.status = 1 ∨ n ≤ i + 8 then some o else none
    | none => none
  { s with baind := { s.baind with ops := l } }

/-- ACCEPTED. -/
def State.accept (s : State) (q : Req) (key : Option (List Nat)) (wait : Bool) : State :=
  (s.opBegin q key wait).done q key 1 []

def State.opCalRun (s : State) (q : Req) (key : Option (List Nat)) : State := (s.accept q key true).trigger trigHost

def State.opCalGref (s : State) (q : Req) (key : Option (List Nat)) : State :=
  if s.calPhase = 10 then s.done q key 0x30 []
  else
    let t := s.grefStartS
    if t.calPhase = 10 then (s.accept q key false).grefStartS else t.done q key 0x31 []

def State.opCalGapply (s : State) (q : Req) (key : Option (List Nat)) : State :=
  if s.sorting then s.done q key 0x15 [] else s.gapplyS.done q key 0 []

/-- CONV_SCAL.TILES that no tile answers to complete at once. -/
def State.opConvScal (s : State) (q : Req) (key : Option (List Nat)) : State :=
  let l := onesOf 32 (le4 q.pay 0)
  if s.sorting then s.done q key 0x15 []
  else if s.tileList.any fun n => s.flag (TIL_CVSTAT_SCAL_BUSY n) then s.done q key 0x30 []
  else
    let s := s.accept q key false
    if l = [] then s.opFinish 0x0304 0 (leBytes 4 (sumN (s.tileList.map fun n => if s.flag (TIL_CVSTAT_SCAL_FAIL n) then 2 ^ n else 0)))
    else l.foldl (fun s n => s.scalStart n) s

def State.opHkaScal (s : State) (q : Req) (key : Option (List Nat)) : State :=
  if s.flag HKA_STAT_SCALBUSY then s.done q key 0x30 [] else (s.accept q key false).hkaScal

/-! ### Tables (R368, R448 to R450) -/

/-- The firmware's own window at a table's word. -/
def State.fwWindow (s : State) (id a : Nat) : State :=
  let w := s.win .fw
  s.setWin .fw { w with sel := id, autoinc := true, addr := a % 2 ^ 20 }

/-- Words are stored until one is refused; their number. -/
def State.loadWords (s : State) (l : List Nat) : State × Nat × Bool :=
  l.foldl (fun p v =>
    if p.2.2 then p
    else
      let q := p.1.tableWriteBy .fw v
      if q.2 then (q.1, p.2.1, true) else (q.1, p.2.1 + 1, false)) (s, 0, false)

def State.opLoadTable (s : State) (q : Req) (key : Option (List Nat)) : State :=
  let id := q.pay.getD 0 0
  let p := (s.fwWindow id (le4 q.pay 4)).loadWords (wordsOf q.pay 12 (le2 q.pay 8))
  let s := p.1
  let s := if p.2.2 then s else
    { s with house := { s.house with badTables := s.house.badTables.filter (· != id) } }
  s.done q key (if p.2.2 then 0x31 else 0) (leBytes 2 p.2.1 ++ [0, 0])

def State.readWordsFw (s : State) (n : Nat) : State × List Nat :=
  (List.range n).foldl (fun p _ =>
    let q := p.1.tableReadBy .fw
    (q.1, p.2 ++ [q.2])) (s, [])

def State.opReadTable (s : State) (q : Req) (key : Option (List Nat)) : State :=
  let p := (s.fwWindow (q.pay.getD 0 0) (le4 q.pay 4)).readWordsFw (le2 q.pay 8)
  p.1.done q key 0 (leWords p.2)

/-- A program or erase starts; any command but a read takes the device out of continuous read (R407, FLS_STAT). -/
def State.flashBusy (s : State) (a n : Nat) : State :=
  let s := { s with flash := { s.flash with op := s.flash.op ++ [(a, n)] } }
  (s.set FLS_STAT_BUSY 1).set FLS_STAT_CONT 0

/-- A program or erase ends (R409). -/
def State.flashEnd (s : State) (a n : Nat) : State :=
  let s := (s.dropLines a n)
  let op := s.flash.op.erase (a, n)
  { s with flash := { s.flash with op := op, suspended := s.flash.suspended && op != [] } }.setB FLS_STAT_BUSY (op != [])

def State.opSave (s : State) (q : Req) (key : Option (List Nat)) : State :=
  if s.opRuns 0x0403 || s.opRuns 0x0404 then s.done q key 0x30 []
  else
    ((journalSlot (1 - s.flash.pair)).foldl (fun s p => s.flashBusy p.1 p.2) (s.accept q key false)).saveRead

/-- The last footer is written and the set is complete (R448); there is none before the tables have been read (R449). -/
def State.saveEnd (s : State) : State :=
  let s := s.saveRead
  match s.flash.saving with
  | none => s
  | some x =>
    let i := 1 - s.flash.pair
    let s := { s with flash := { s.flash with saved := some x, pair := i, saving := none } }
    ((journalSlot i).foldl (fun s p => s.flashEnd p.1 p.2) s).opFinish 0x0403 0 []

def State.opRestore (s : State) (q : Req) (key : Option (List Nat)) : State :=
  if s.sorting then s.done q key 0x15 []
  else if s.opRuns 0x0404 then s.done q key 0x30 []
  else s.accept q key false

/-- The reload ends; the completion names the tables by bit (R366). -/
def State.restoreEnd (s : State) : State :=
  if s.opRuns 0x0404 then
    let p := s.loadNewest false
    p.1.opFinish 0x0404 0 (leBytes 4 (sumN (p.2.map fun i => 2 ^ i)))
  else s

/-! ### Image tap (R385, R386) -/

def State.opTapGrab (s : State) (q : Req) (key : Option (List Nat)) : State :=
  if s.tap.grab.isSome then s.done q key 0x30 [] else (s.accept q key false).grabStart (le2 q.pay 0)

/-- Bytes of a record of the ring, read from the LPDDR4X: those of a word in error read as free values (R333; log entry
2). -/
def State.tapBytes (s : State) (x : Nat × TapRec) (ofs n : Nat) : State × List Nat :=
  let base := s.get ETH_TAPBASE_OFS + x.1 % max 1 s.tapN * s.tapRecSize + ofs
  (s.errWords 58 fun w => decide (base < 8 * w + 8 ∧ 8 * w < base + n)).foldl (fun p w =>
    let q := p.1.ddrRead w
    if q.2 || !s.flag MEM_DDRSTAT_IECCACT then
      (List.range n).foldl (fun p i =>
        if (base + i) / 8 = w then (p.1.draw.2, p.2.set i (p.1.draw.1 % 256)) else p) (q.1, p.2)
    else (q.1, p.2)) (s, x.2.bytesAt ofs n)

def State.opTapRead (s : State) (q : Req) (key : Option (List Nat)) : State :=
  match s.tap.ring.find? fun x => x.1 == le4 q.pay 0 with
  | some x =>
    let p := s.tapBytes x (le4 q.pay 4) (le2 q.pay 8)
    p.1.done q key 0 p.2
  | none => s.done q key 0x13 []

/-! ### Sessions and the device key (R374, R375) -/

def asciiBaind1 : List Nat := [0x42, 0x41, 0x49, 0x4E, 0x44, 0x31]

/-- Sixteen bytes that the module chooses: free values (log entry 2). -/
def State.drawBytes (s : State) : Nat → State × List Nat
  | 0 => (s, [])
  | n + 1 =>
    let d := s.draw
    let r := d.2.drawBytes n
    (r.1, d.1 % 256 :: r.2)

def State.opSessionOpen (s : State) (q : Req) (key : Option (List Nat)) : State :=
  if s.flash.devkey = [] then s.done q key 0x21 []
  else
    let p := s.drawBytes 16
    (p.1.openSession q.src (hmac256 s.flash.devkey (asciiBaind1 ++ q.pay ++ p.2))).done q key 0 p.2

def State.opSessionClose (s : State) (q : Req) (key : Option (List Nat)) : State :=
  (s.setSessions (s.baind.sessions.filter fun x => x.1 != q.src)).done q key 0 []

def State.opSetDevkey (s : State) (q : Req) (key : Option (List Nat)) : State :=
  if s.flash.devkey = [] ∨ q.src = .ssp ∨ key.isSome then
    (({ s with flash := { s.flash with devkey := q.pay } }.set ETH_STAT_KEYSET 1).setSessions []).done q key 0 []
  else s.done q key 0x20 []

/-! ### Image update (R377, R378, R445, R447) -/

/-- The slot that did not boot. -/
def State.target (s : State) : Nat := 1 - s.flash.booted

def slotBase (i : Nat) : Nat := 0x100000 + 0x800000 * i

def State.updBusy (s : State) : Bool := s.opRuns 0x0604 || s.opRuns 0x0606

def State.opUpdBegin (s : State) (q : Req) (key : Option (List Nat)) : State :=
  if s.updBusy then s.done q key 0x30 []
  else
    let n := le4 q.pay 0
    let s := (s.accept q key false).flashBusy (slotBase s.target) n
    { s with flash := s.flash.setSlot s.target { Slot.empty with state := 1, size := n } }

/-- The erase completes (R378). -/
def State.eraseEnd (s : State) : State :=
  if s.opRuns 0x0604 then
    let x := s.flash.slot s.target
    (s.flashEnd (slotBase s.target) x.size).opFinish 0x0604 0 [s.target, 0, 0, 0]
  else s

/-- Data beyond SIZE, or over bytes already programmed, is refused (R378). -/
def Slot.mayProgram (x : Slot) (ofs n : Nat) : Bool :=
  x.state == 1 && decide (ofs + n ≤ x.size) && x.progs.all fun p => !decide (ofs < p.1 + p.2 ∧ p.1 < ofs + n)

def Slot.program (x : Slot) (ofs : Nat) (l : List Nat) : Slot :=
  { x with progs := x.progs ++ [(ofs, l.length)],
           bytes := (List.range l.length).foldl (fun m i => mset 0xFF m (ofs + i) (l.getD i 0)) x.bytes }

def State.opUpdData (s : State) (q : Req) (key : Option (List Nat)) : State :=
  let ofs := le4 q.pay 0
  let l := q.pay.drop 4
  let x := s.flash.slot s.target
  if s.updBusy then s.done q key 0x30 []
  else if x.mayProgram ofs l.length then
    let s := { s with flash := s.flash.setSlot s.target (x.program ofs l) }
    (s.dropLines (slotBase s.target + ofs) l.length).done q key 0 []
  else s.done q key 0x13 []

def State.opUpdVerify (s : State) (q : Req) (key : Option (List Nat)) : State :=
  if s.updBusy then s.done q key 0x30 [] else s.accept q key false

/-- The bytes of a slot's image; erased flash reads 0xFF. -/
def Slot.image (x : Slot) : List Nat := (List.range x.size).map fun i => mget 0xFF x.bytes i

/-- The header of R377, against SIZE and the part. -/
def headerOk (img : List Nat) (size part : Nat) : Bool :=
  img.take 4 == [0x4E, 0x56, 0x4B, 0x49] && le2 img 4 == 1 && (le2 img 6 == part || le2 img 6 == 0xFFFF)
    && le4 img 8 == size && (slice img 144 112).all (· == 0)

/-- The checks of UPD_VERIFY (R378). The fuses hold the hash of the public key; blank fuses hold 0. -/
def Fuses.imageOk (f : Fuses) (img : List Nat) (size part : Nat) : Bool :=
  let pub := slice img 16 64
  let zeroed := img.take 80 ++ List.replicate 64 0 ++ img.drop 144
  headerOk img size part && f.keyHash != 0 && beVal (sha256 pub) == f.keyHash
    && ecdsaOk (beVal (slice pub 0 32), beVal (slice pub 32 32)) (beVal (sha256 zeroed)) (beVal (slice img 80 32))
      (beVal (slice img 112 32))

/-- Verification ends: the commit record is written, or the slot is invalid (R378). -/
def State.verifyEnd (s : State) : State :=
  if s.opRuns 0x0606 then
    let i := s.target
    let x := s.flash.slot i
    let img := x.image
    if s.fuses.imageOk img x.size (s.get GLB_IDENT_PART) then
      let v := le4 img 12 % 2 ^ 24
      let s := { s with flash := s.flash.setSlot i { x with state := 3, version := v, valid := true } }
      (s.imageRecord i).opFinish 0x0606 0 ([i, 0, 0, 0] ++ leBytes 4 (le4 img 12))
    else
      let s := { s with flash := s.flash.setSlot i { x with state := 0, valid := false } }
      ((s.raise Src.imgFail).imageRecord i).opFinish 0x0606 2 ([i, 0, 0, 0] ++ leBytes 4 (le4 img 12))
  else s

/-- UPD_ACTIVATE (R369, R445): the activation record names the slot on trial, and the module resets with cause 8. -/
def State.opUpdActivate (s : State) (q : Req) (key : Option (List Nat)) : State :=
  if s.sorting then s.done q key 0x15 []
  else if s.updBusy then s.done q key 0x30 []
  else
    let s := { s with flash := { s.flash with active := q.pay.getD 0 0, trial := true, tries := 0, prev := s.flash.booted } }
    (s.done q key 0 []).commandedReset 8

def Slot.status (x : Slot) : List Nat := [x.state, 0, 0, 0] ++ leBytes 4 x.version

/-! ### Event log (R355, R357) -/

/-- Every entry that the flash ring or the FB ring holds, with its place in the FB ring where it is read there. -/
def State.logEntries (s : State) : List (Option Nat × LogEntry) :=
  let fl := s.flash.log.map fun p => (none, p.2)
  let fb := (s.evt.ring.filter fun p => !fl.any fun x => x.2.seq == p.2.seq).map fun p => (some p.1, p.2)
  fl ++ fb

def insertLog (x : Option Nat × LogEntry) : List (Option Nat × LogEntry) → List (Option Nat × LogEntry)
  | [] => [x]
  | y :: r => if x.2.seq ≤ y.2.seq then x :: y :: r else y :: insertLog x r

/-- The least SEQ of a ring, or the next one where it is empty. -/
def State.oldest (s : State) (l : List (Nat × LogEntry)) : Nat :=
  l.foldl (fun m p => min m p.2.seq) (s.get EVT_LOGSEQ_SEQ)

def State.logInfoPay (s : State) : List Nat :=
  leWords [s.oldest s.flash.log, s.oldest s.evt.ring, s.get EVT_LOGSEQ_SEQ, s.get EVT_LOGLOST_COUNT]

/-- The entries that LOG_READ gives, those of FB read there: one in error reads as all zero (R315). -/
def State.logReadPay (s : State) (seq n : Nat) : State × List Nat :=
  let l := (s.logEntries.filter fun e => decide (seq ≤ e.2.seq)).foldr insertLog []
  (l.take n).foldl (fun p e =>
    let q := match e.1 with
      | some i => p.1.readEntry i
      | none => (p.1, e.2)
    (q.1, p.2 ++ leWords ((List.range 8).map q.2.word))) (s, [])

def State.opLogRead (s : State) (q : Req) (key : Option (List Nat)) : State :=
  let p := s.logReadPay (le4 q.pay 0) (le2 q.pay 4)
  p.1.done q key 0 p.2

/-! ### Chain -/

def State.chnInfoPay (s : State) : List Nat :=
  [s.get CHN_STAT_INDEX, s.get CHN_STAT_MSTIDX, s.get CHN_STAT_MEMBERS, s.get CHN_STAT_STATE]

def State.opChnMaster (s : State) (q : Req) (key : Option (List Nat)) : State :=
  let p := s.askMaster
  p.1.done q key (if p.2 then 0 else 0x15) []

/-! ### Abort (R372, R373) -/

/-- A tile that calibrates stops and keeps its factors; 4 frames of SETTLE follow, then rotation (R373). -/
def State.scalAbort (s : State) : State :=
  let s := s.tileList.foldl (fun s n =>
    if s.flag (TIL_CVSTAT_SCAL_BUSY n) then
      let t := s.tile n
      let s := (s.setTile n { t with settle := max t.settle 4, owed := 4 }).set (TIL_CVSTAT_SCAL_BUSY n) 0
      if s.flag (TIL_CVCTRL_ROTEN n) && !s.biasOff then s.startRotation n else s
    else s) s
  s.opFinish 0x0304 3 (leBytes 4 (sumN (s.tileList.map fun n => if s.flag (TIL_CVSTAT_SCAL_FAIL n) then 2 ^ n else 0)))

/-- The target slot of an aborted update stays invalid (R373). -/
def State.updAbort (s : State) (opcode : Nat) : State :=
  let i := s.target
  let s := if (s.flash.slot i).state = 3 then s else { s with flash := s.flash.setSlot i Slot.empty }
  s.opFinish opcode 3 ([i, 0, 0, 0] ++ (if opcode = 0x0606 then [0, 0, 0, 0] else []))

/-- A CAL_RUN whose calibration has not begun ends by itself. -/
def State.calWaitAbort (s : State) (o : LongOp) : State :=
  let ops := s.baind.ops.map fun x => if x = o then { x with status := 0x40 } else x
  let s := { s with baind := { s.baind with ops := ops } }
  let p := s.replyBytes 0x0301 o.seq (s.get GLB_STAT_CHIDX) 4 0x40 (s.opPayload 0x0301 []) o.key
  (s.sendReply o.src o.tag true p).raise Src.opDone

/-- What ABORT does to a running operation, with its completion (R373). -/
def State.abortOp (s : State) (o : LongOp) : State :=
  if o.opcode = 0x0301 then (if o.wait then s.calWaitAbort o else s.calAbortW.opFinish 0x0301 3 [])
  else if o.opcode = 0x0302 then s.calAbortW.opFinish 0x0302 3 []
  else if o.opcode = 0x0304 then s.scalAbort
  else if o.opcode = 0x0305 then s.hkaScalAbort
  else if o.opcode = 0x0403 then { s with flash := { s.flash with saving := none } }.opFinish 0x0403 3 []
  else if o.opcode = 0x0404 then s.opFinish 0x0404 3 (leBytes 4 0)
  else if o.opcode = 0x0501 then s.grabAbort
  else s.updAbort o.opcode

def State.opAbort (s : State) (q : Req) (key : Option (List Nat)) : State :=
  match s.baind.ops.find? fun o => o.status == 1 && o.opcode == le2 q.pay 0 && o.seq == le2 q.pay 2 with
  | none => s.done q key 0x42 []
  | some o => (s.abortOp o).done q key 0 []

/-! ### Every opcode (R366) -/

def State.runOp (s : State) (q : Req) (key : Option (List Nat)) : State :=
  match q.opcode with
  | 0x0101 => s.opRegRead q key
  | 0x0102 => s.opRegWrite q key
  | 0x0103 => s.opRegModify q key
  | 0x0201 => s.opStart q key
  | 0x0202 => s.opStop q key
  | 0x0203 => s.opSafe q key
  | 0x0204 => s.opRestart q key
  | 0x0205 => s.opReset q key
  | 0x0206 => s.opStatus q key
  | 0x0207 => s.done q key 0 s.opQueryPay
  | 0x0208 => s.done q key 0 s.identifyPay
  | 0x0301 => s.opCalRun q key
  | 0x0302 => s.opCalGref q key
  | 0x0303 => s.opCalGapply q key
  | 0x0304 => s.opConvScal q key
  | 0x0305 => s.opHkaScal q key
  | 0x0401 => s.opLoadTable q key
  | 0x0402 => s.opReadTable q key
  | 0x0403 => s.opSave q key
  | 0x0404 => s.opRestore q key
  | 0x0501 => s.opTapGrab q key
  | 0x0502 => s.opTapRead q key
  | 0x0601 => s.opSessionOpen q key
  | 0x0602 => s.opSessionClose q key
  | 0x0603 => s.opSetDevkey q key
  | 0x0604 => s.opUpdBegin q key
  | 0x0605 => s.opUpdData q key
  | 0x0606 => s.opUpdVerify q key
  | 0x0607 => s.opUpdActivate q key
  | 0x0608 => s.done q key 0 (s.flash.slotA.status ++ s.flash.slotB.status)
  | 0x0701 => s.done q key 0 s.logInfoPay
  | 0x0702 => s.opLogRead q key
  | 0x0801 => s.done q key 0 s.chnInfoPay
  | 0x0802 => s.opChnMaster q key
  | 0x7F00 => s.opAbort q key
  | _ => s.answer q key 0x12 []

/-- Checks 8 and 9, then the operation (R361, R446). -/
def State.execute (s : State) (q : Req) (key : Option (List Nat)) : State :=
  if (opInfo q.opcode).isNone || (s.flash.recovery && !recoveryOps.contains q.opcode) then s.answer q key 0x12 []
  else
    let c := s.payloadCheck q
    if c = 0 then s.runOp q key else s.answer q key c []

/-- Check 7: where the request is executed (R365). -/
def State.dispatch (s : State) (q : Req) (key : Option (List Nat)) : State :=
  if isChain q.src || q.target == s.get GLB_STAT_CHIDX then s.execute q key
  else if q.target = 255 ∧ opKind q.opcode 2 then
    (if s.inChain then s.forward q key s.others else s).execute q key
  else if s.inChain && s.others.contains q.target then s.forward q key [q.target]
  else s.answer q key 0x14 []

/-- A request that has passed checks 1 to 3: duplicates, checks 4 to 6, then its target (R361, R364). -/
def State.serve (s : State) (q : Req) : State :=
  let s := s.expireSessions.expireReplies
  match s.storedReplies q with
  | p :: r => (p :: r).foldl (fun s p => s.sendReply q.src s.baind.tag false p) s
  | [] =>
    if q.version ≠ 1 then s.answer q none 0x10 []
    else if 1292 < q.pay.length then s.answer q none 0x11 []
    else
      let a := s.authCheck q
      if a.1 = 0 then (s.authDone q a.2).dispatch q a.2 else s.answer q a.2 a.1 []

/-- The management firmware runs, or the boot ROM serves recovery on the serial slave port (R446). -/
def State.serves (s : State) (src : Source) : Bool :=
  s.isOn && s.power.fw && (!s.flash.recovery || src == .ssp)

/-- Bytes that have come as a packet (R361). -/
def State.packet (s : State) (src : Source) (raw : List Nat) : State :=
  if s.serves src then
    match parsePacket src raw with
    | none => s.dropPacket
    | some q => s.serve q
  else s

/-- A request that a Baind row brings; a trailer has 32 bytes, or check 1 of R361 drops the packet. -/
def State.request (s : State) (h : Hdr) (opcode : Nat) (pay : List Nat) : State :=
  if s.serves h.src then
    (if h.trailer.all fun t => t.length == 32 then s.serve (reqOf h opcode pay) else s.dropPacket)
  else s

end Sys2Proof.Machine
end

