-- ==== Sys2Proof/Machine/Proc.lean ====
section
/-! DEFINITION. Accesses to the register space by its requesters, the mailbox and the event controls as commands
(spec/ file 12, R318, R319; file 13, R336, R339 to R345, R349, R351, R354). -/

namespace Sys2Proof.Machine

open Reg

/-! ### The cluster (R336, R339) -/

def execHartenWrite (r : Requester) (harten : Nat) (s : State) : Host.Outcome State Fault Refusal :=
  ok (s.guardW r 0x28 (·.hartenW harten))

/-- A hart whose HARTEN bit is 0 goes offline (R336). -/
def State.hartOff (s : State) (h : Nat) : State :=
  if h < 4 ∧ bitOf (s.get GLB_CORECTL_HARTON) h ∧ !bitOf (s.get GLB_CORECTL_HARTEN) h then
    { s with tmx := { s.tmx with halted := s.tmx.halted.filter (· != h) } }.clrBit GLB_CORECTL_HARTON h
      |>.raise Src.coreOffline
  else s

def execHartOffline (h : Nat) (s : State) : Host.Outcome State Fault Refusal := ok (s.hartOff h)

def execAppweWrite (r : Requester) (v : Word) (s : State) : Host.Outcome State Fault Refusal :=
  ok (s.guardW r 0x24 (·.writeFlds 0x24 v.toNat 0))

/-! ### Accesses (R316, R319 to R322, R340, R341) -/

/-- The order of the register fabric's arbiter (R319). -/
def reqPrio : Requester → Nat
  | .hart _ | .dma => 1
  | .ssp => 2
  | .mgmt | .fw => 0

/-- A write that a rule turns away for its requester (R339, R345). -/
def State.turnedAway (s : State) (r : Requester) (a : Nat) : Bool :=
  let o := a % 0x80
  let up := decide (o < 0x20 ∨ 0x70 ≤ o)
  s.protected r a || (decide (0xE000 ≤ a ∧ a < 0xE200) && !(if up then isCluster r else reqIsMgmt r))

/-- Two writes of one word in one cycle are counted and reported, those of a register under bank code 63 (R318, R319,
R397). -/
def State.overlap (s : State) (first last : Requester) (bank word : Nat) : State :=
  let s := (s.bump MEM_OVLCNT_COUNT).set MEM_STAT_OVLSEEN 1
  let s := (((s.set MEM_OVLLAST_WORD word).set MEM_OVLLAST_BANK bank).set MEM_OVLLAST_FIRST (reqPort first)).set
    MEM_OVLLAST_LAST (reqPort last)
  let s := s.raise Src.writeOverlap
  if first = .ssp ∨ last = .ssp then
    { s with ssp := { s.ssp with coll := true } }.set SSP_STAT_COLLSEEN 1
  else s

/-- A write of a register, with another of the same register in the same cycle or none: both act, in the order of
priority; of two of equal priority the command's own goes first (log entry 96). -/
def State.writePair (s : State) (r : Requester) (a v : Nat) (also : Option (Requester × Word)) (hw : Nat) : State :=
  match also with
  | none => s.regWriteBy r a v hw
  | some (r2, v2) =>
    let swap := decide (reqPrio r2 < reqPrio r)
    let x := if swap then (r2, v2.toNat) else (r, v)
    let y := if swap then (r, v) else (r2, v2.toNat)
    let s' := (s.regWriteBy x.1 a x.2 hw).regWriteBy y.1 a y.2 hw
    if s.turnedAway r a || s.turnedAway r2 a then s' else s'.overlap x.1 y.1 63 (a / 4)

/-- A store to a register: less than a word is not carried out, and 64 bits are a write of the low word and one of the
high word (R341). -/
def State.regStore (s : State) (r : Requester) (o : Nat) (size : StoreSize) (v : Word)
    (also : Option (Requester × Word)) (hw : Nat) : State :=
  match size with
  | .byte | .half => s.noAccess r
  | .word => if o % 4 = 0 then s.writePair r o v.toNat also hw else s.noAccess r
  | .double hi =>
    if o % 8 = 0 then (s.writePair r o v.toNat also hw).regWriteBy r (o + 4) hi.toNat 0 else s.noAccess r

/-- A second requester's word store to the same bank word in the same cycle: both take place in the order of the bank's
ports, and the pair is reported (R318). -/
def State.storePair (s : State) (r : Requester) (a b o : Nat) (size : StoreSize) (v : Word)
    (also : Option (Requester × Word)) : State :=
  match also with
  | none => s.store r a size v
  | some (r2, v2) =>
    let one := fun (s : State) => s.store r a size v
    let two := fun (s : State) => s.bankStore r2 b (o / 4 * 4) (leBytes 4 v2.toNat)
    let p := reqPort r
    let q := reqPort r2
    let s' := if portBefore b q p then one (two s) else two (one s)
    if storable r b o && storable r2 b o then
      if portBefore b q p then s'.overlap r2 r b (o / wordBytes b) else s'.overlap r r2 b (o / wordBytes b)
    else s'

/-- A store of a requester (R318, R319, R340, R341). -/
def State.writeAt (s : State) (r : Requester) (a : Nat) (size : StoreSize) (v : Word) (also : Option (Requester × Word))
    (hw : Nat) : State :=
  match s.place r a with
  | .reg o => s.regStore r o size v also hw
  | .bank b o => s.storePair r a b o size v also
  | .ddr _ | .timer _ | .plic _ | .flash _ | .nowhere => s.store r a size v

def execRegisterWrite (r : Requester) (addr : Nat) (size : StoreSize) (v : Word) (also : Option (Requester × Word))
    (hwSet : Word) (s : State) : Host.Outcome State Fault Refusal :=
  ok (s.writeAt r addr size v also hwSet.toNat)

/-- A load, and the write of the same word or register that another requester makes in the same cycle: the one of higher
priority goes first (R320). -/
def State.readAt (s : State) (r : Requester) (a : Nat) (also : Option (Requester × Word)) : State :=
  match also with
  | none => s.load r a
  | some (r2, v2) =>
    match s.place r a with
    | .reg o =>
      let w := fun (s : State) => s.regWriteBy r2 (o / 4 * 4) v2.toNat 0
      if reqPrio r2 < reqPrio r then (w s).load r a else w (s.load r a)
    | .bank b o =>
      let w := fun (s : State) => s.bankStore r2 b (o / 4 * 4) (leBytes 4 v2.toNat)
      if portBefore b (reqPort r2) (reqPort r) then (w s).load r a else w (s.load r a)
    | .ddr _ | .timer _ | .plic _ | .flash _ | .nowhere => s.load r a

/-- A 64-bit load is one of the low word and then one of the high word (R322). -/
def State.readWide (s : State) (r : Requester) (a : Nat) (wide : Bool) (also : Option (Requester × Word)) : State :=
  if wide then (s.readAt r (a / 8 * 8) also).load r (a / 8 * 8 + 4) else s.readAt r a also

def execLoWordRead (r : Requester) (addr : Nat) (wide : Bool) (also : Option (Requester × Word)) (s : State) :
    Host.Outcome State Fault Refusal := ok (s.readWide r addr wide also)

def execTableDataRead (r : Requester) (s : State) : Host.Outcome State Fault Refusal := ok (s.load r 0x38)

def execTableDataWrite (r : Requester) (v : Word) (also : Option (Requester × Word)) (s : State) :
    Host.Outcome State Fault Refusal := ok (s.writePair r 0x38 v.toNat also 0)

/-- CLR of the register at byte offset `addr` (R12). -/
def execCounterClear (r : Requester) (addr : Nat) (s : State) : Host.Outcome State Fault Refusal :=
  ok (if hasClr addr then s.guardW r addr (·.clearReg addr) else s)

/-! ### Mailbox SEND (R345) -/

/-- The sender of a direction, as R345 admits it. -/
def mbxSender (r : Requester) : MbxDir → Bool
  | .up => isCluster r
  | .down => reqIsMgmt r

def State.mbxSendBy (s : State) (r : Requester) (c : Nat) (d : MbxDir) : State :=
  if c < 4 then
    s.guardW r (0xE000 + 0x80 * c) fun s => if mbxSender r d then s.mbxSendW c (d == .up) else s.protErr
  else s

def execMbxSend (r : Requester) (c : Nat) (d : MbxDir) (s : State) : Host.Outcome State Fault Refusal :=
  ok (s.mbxSendBy r c d)

/-! ### Events (R349, R351, R354) -/

def execEvtForce (r : Requester) (g : Nat) (v : Word) (s : State) : Host.Outcome State Fault Refusal :=
  ok (if g < 24 then s.guardW r (0x580 + 4 * g) (·.forceW g v.toNat) else s)

def execEvtCntclr (r : Requester) (s : State) : Host.Outcome State Fault Refusal := ok (s.guardW r 0x400 (·.cntClear))

def execEvtClrall (r : Requester) (same : List Nat) (s : State) : Host.Outcome State Fault Refusal :=
  ok (s.guardW r 0x400 (·.statClear same))

/-- A pulse ends after 1 µs, and its gap 1 µs later; a further pulse follows the gap if occurrences arrived (R354). -/
def State.pulseEnd (s : State) (i : Nat) : State :=
  let p := s.pin i
  let s := s.advance (p.since + 1000)
  match p.phase with
  | .idle => s
  | .pulse => s.setPin i { p with phase := .gap, since := s.time }
  | .gap => s.setPin i (if p.again then ⟨.pulse, false, s.time⟩ else PinState.idleP)

def execEvtPinPulseEnd (i : Nat) (s : State) : Host.Outcome State Fault Refusal :=
  ok (if i < 4 ∧ (s.pin i).phase ≠ .idle then s.pulseEnd i else s)

end Sys2Proof.Machine
end

