-- ==== Sys2Proof/Machine/BaindRows.lean ====
section
/-! DEFINITION. The Baind commands as rows, the mailbox's requests, forwarding over the chain, and the ends of long
operations and of what is kept (spec/ file 14; file 13, R345, R347). -/

namespace Sys2Proof.Machine

open Reg

/-! ### Where a request comes from -/

def State.setTag (s : State) (t : Nat) : State := { s with baind := { s.baind with tag := t } }

/-- A TYPE 0x01 message is a Baind request (R347). -/
def isRequestMsg (m : List Nat) : Bool := m.getD 0 0 % 256 == 1

/-- The firmware takes the oldest request message of a channel, if one waits: its TAG goes with the request. -/
def State.takeMsg (s : State) (c : Nat) : State :=
  let m := s.mbxChan c
  match m.up.find? isRequestMsg with
  | some x => (s.setMbx c { m with up := m.up.erase x }).setTag (bits (x.getD 0 0) 8 8)
  | none => s.setTag 0

/-- Over the mailbox the target is this module or all (R347). -/
def State.mbxTarget (s : State) (t : Nat) : Bool := t == s.get GLB_STAT_CHIDX || t == 255

/-- A reject repeats word 0 (R347). -/
def State.reject (s : State) (c w0 : Nat) : State := s.mbxReply c (4 + 256 * w0) []

/-- A request of a Baind row, by its path. -/
def State.fromRow (s : State) (h : Hdr) (opcode : Nat) (pay : List Nat) : State :=
  match h.src with
  | .mbx c =>
    if 4 ≤ c then s
    else if s.serves h.src then
      let s := s.takeMsg c
      if s.mbxTarget (h.target % 256) then s.request h opcode pay else s.reject c (1 + 256 * s.baind.tag)
    else s
  | _ => (s.setTag 0).request h opcode pay

/-! ### The commands of R366 -/

def execRegRead (h : Hdr) (addr count : Nat) (s : State) : Host.Outcome State Fault Refusal :=
  ok (s.fromRow h 0x0101 (leBytes 2 addr ++ leBytes 2 count))

def execRegWrite (h : Hdr) (addr : Nat) (words : List Word) (s : State) : Host.Outcome State Fault Refusal :=
  ok (s.fromRow h 0x0102 (leBytes 2 addr ++ leBytes 2 words.length ++ leWords (words.map (·.toNat))))

def execRegModify (h : Hdr) (addr : Nat) (mask value : Word) (s : State) : Host.Outcome State Fault Refusal :=
  ok (s.fromRow h 0x0103 (leBytes 2 addr ++ [0, 0] ++ leWords [mask.toNat, value.toNat]))

def execStart (h : Hdr) (s : State) : Host.Outcome State Fault Refusal := ok (s.fromRow h 0x0201 [])
def execStop (h : Hdr) (s : State) : Host.Outcome State Fault Refusal := ok (s.fromRow h 0x0202 [])
def execSafe (h : Hdr) (s : State) : Host.Outcome State Fault Refusal := ok (s.fromRow h 0x0203 [])
def execRestart (h : Hdr) (s : State) : Host.Outcome State Fault Refusal := ok (s.fromRow h 0x0204 [])

def execReset (h : Hdr) (key : Nat) (s : State) : Host.Outcome State Fault Refusal :=
  ok (s.fromRow h 0x0205 [key % 256, 0, 0, 0])

def execStatus (h : Hdr) (s : State) : Host.Outcome State Fault Refusal := ok (s.fromRow h 0x0206 [])
def execOpQuery (h : Hdr) (s : State) : Host.Outcome State Fault Refusal := ok (s.fromRow h 0x0207 [])
def execIdentify (h : Hdr) (s : State) : Host.Outcome State Fault Refusal := ok (s.fromRow h 0x0208 [])
def execCalRun (h : Hdr) (s : State) : Host.Outcome State Fault Refusal := ok (s.fromRow h 0x0301 [])
def execCalGref (h : Hdr) (s : State) : Host.Outcome State Fault Refusal := ok (s.fromRow h 0x0302 [])
def execCalGapply (h : Hdr) (s : State) : Host.Outcome State Fault Refusal := ok (s.fromRow h 0x0303 [])

def execConvScal (h : Hdr) (tiles : Word) (s : State) : Host.Outcome State Fault Refusal :=
  ok (s.fromRow h 0x0304 (leBytes 4 tiles.toNat))

def execHkaScal (h : Hdr) (s : State) : Host.Outcome State Fault Refusal := ok (s.fromRow h 0x0305 [])

/-- The first 12 bytes of a table command. -/
def tablePay (id addr count : Nat) : List Nat := [id % 256, 0, 0, 0] ++ leBytes 4 addr ++ leBytes 2 count ++ [0, 0]

def execLoadTable (h : Hdr) (id addr : Nat) (words : List Word) (s : State) : Host.Outcome State Fault Refusal :=
  ok (s.fromRow h 0x0401 (tablePay id addr words.length ++ leWords (words.map (·.toNat))))

def execReadTable (h : Hdr) (id addr count : Nat) (s : State) : Host.Outcome State Fault Refusal :=
  ok (s.fromRow h 0x0402 (tablePay id addr count))

def execSaveTables (h : Hdr) (s : State) : Host.Outcome State Fault Refusal := ok (s.fromRow h 0x0403 [])
def execSaveTablesDone (s : State) : Host.Outcome State Fault Refusal := ok s.saveEnd
def execRestoreTables (h : Hdr) (s : State) : Host.Outcome State Fault Refusal := ok (s.fromRow h 0x0404 [])
def execRestoreTablesDone (s : State) : Host.Outcome State Fault Refusal := ok s.restoreEnd

def execTapGrab (h : Hdr) (count : Nat) (s : State) : Host.Outcome State Fault Refusal :=
  ok (s.fromRow h 0x0501 (leBytes 2 count ++ [0, 0]))

def execTapRead (h : Hdr) (index offset len : Nat) (s : State) : Host.Outcome State Fault Refusal :=
  ok (s.fromRow h 0x0502 (leBytes 4 index ++ leBytes 4 offset ++ leBytes 2 len ++ [0, 0]))

def execSessionOpen (h : Hdr) (nonce : List Byte) (s : State) : Host.Outcome State Fault Refusal :=
  ok (s.fromRow h 0x0601 (ofBytes nonce))

def execSessionClose (h : Hdr) (s : State) : Host.Outcome State Fault Refusal := ok (s.fromRow h 0x0602 [])

def execSetDevkey (h : Hdr) (key : List Byte) (s : State) : Host.Outcome State Fault Refusal :=
  ok (s.fromRow h 0x0603 (ofBytes key))

def execUpdBegin (h : Hdr) (size : Nat) (s : State) : Host.Outcome State Fault Refusal :=
  ok (s.fromRow h 0x0604 (leBytes 4 size))

def execUpdEraseDone (s : State) : Host.Outcome State Fault Refusal := ok s.eraseEnd

def execUpdData (h : Hdr) (offset : Nat) (data : List Byte) (s : State) : Host.Outcome State Fault Refusal :=
  ok (s.fromRow h 0x0605 (leBytes 4 offset ++ ofBytes data))

def execUpdVerify (h : Hdr) (s : State) : Host.Outcome State Fault Refusal := ok (s.fromRow h 0x0606 [])
def execUpdVerifyDone (s : State) : Host.Outcome State Fault Refusal := ok s.verifyEnd

def execUpdActivate (h : Hdr) (slot : Nat) (s : State) : Host.Outcome State Fault Refusal :=
  ok (s.fromRow h 0x0607 [slot % 256, 0, 0, 0])

def execUpdStatus (h : Hdr) (s : State) : Host.Outcome State Fault Refusal := ok (s.fromRow h 0x0608 [])
def execLogInfo (h : Hdr) (s : State) : Host.Outcome State Fault Refusal := ok (s.fromRow h 0x0701 [])

def execLogRead (h : Hdr) (seq count : Nat) (s : State) : Host.Outcome State Fault Refusal :=
  ok (s.fromRow h 0x0702 (leBytes 4 seq ++ leBytes 2 count ++ [0, 0]))

def execChnInfo (h : Hdr) (s : State) : Host.Outcome State Fault Refusal := ok (s.fromRow h 0x0801 [])
def execChnMaster (h : Hdr) (s : State) : Host.Outcome State Fault Refusal := ok (s.fromRow h 0x0802 [])

def execAbort (h : Hdr) (opcode seq : Nat) (s : State) : Host.Outcome State Fault Refusal :=
  ok (s.fromRow h 0x7F00 (leBytes 2 opcode ++ leBytes 2 seq))

/-! ### What expires (R364, R375) -/

/-- A session has been idle for ETH_CTRL.IDLE (R375). -/
def State.sessionExpire (s : State) (src : Source) : State :=
  match s.session src with
  | some x => (s.advance (x.last + s.idleLimit)).expireSessions
  | none => s

def execSessionIdleExpiry (src : Source) (s : State) : Host.Outcome State Fault Refusal := ok (s.sessionExpire src)

/-- The oldest reply kept for a source is 5 s old (R364). -/
def State.replyExpire (s : State) (src : Source) : State :=
  match s.baind.cache.find? fun c => c.src == src with
  | some c => (s.advance (c.sent + 5000000000)).expireReplies
  | none => s

def execReplyCacheExpiry (src : Source) (s : State) : Host.Outcome State Fault Refusal := ok (s.replyExpire src)

/-! ### Mailbox POP (R345, R347) -/

/-- The offset lies in the channel's upward area (R347). -/
def inUpArea (c a : Nat) : Bool := decide (0x80000 + 0x10000 * c ≤ a ∧ a < 0x90000 + 0x10000 * c)

/-- The firmware handles a message from the cluster (R347). -/
def State.mbxHandle (s : State) (c : Nat) (m : List Nat) : State :=
  let w0 := m.getD 0 0
  let a := m.getD 1 0
  let n := m.getD 2 0 % 65536
  if isRequestMsg m && inUpArea c a && n != 0 then
    let p := s.fbFetch a n
    if decide (n ≤ 8) || p.1.mbxTarget (p.2.getD 8 0) then (p.1.setTag (bits w0 8 8)).packet (.mbx c) p.2
    else p.1.reject c w0
  else s.reject c w0

/-- The receiver of a direction, as R345 admits it. -/
def mbxReceiver (r : Requester) : MbxDir → Bool
  | .up => reqIsMgmt r
  | .down => isCluster r

/-- POP: the oldest message goes; the firmware then handles one from the cluster. -/
def State.mbxPopBy (s : State) (r : Requester) (c : Nat) (d : MbxDir) : State :=
  if c < 4 then
    s.guardW r (0xE000 + 0x80 * c) fun s =>
      if mbxReceiver r d then
        let t := s.mbxPopW c (d == .up)
        match d, (s.mbxChan c).up with
        | .up, m :: _ => if t.serves (.mbx c) then t.mbxHandle c m else t
        | _, _ => t
      else s.protErr
  else s

def execMbxPop (r : Requester) (c : Nat) (d : MbxDir) (s : State) : Host.Outcome State Fault Refusal :=
  ok (s.mbxPopBy r c d)

/-! ### Forwarding (R365) -/

/-- A member's reply leaves by the path of the request, with FWD set and the request's session key. -/
def State.relayReply (s : State) (f : Forwarded) (i : Nat) (rest : List Nat) : State :=
  let compl := f.owes.contains i
  let flags := 9 + (if compl then 4 else 0) + (if f.key.isSome then 2 else 0)
  let p := packetOf 1 flags f.opcode f.seq (rest.length - 12) i rest
  let p := match f.key with
    | some k => p ++ hmac256 k p
    | none => p
  let s := s.sendReply f.src f.tag compl p
  let s := if compl then s else s.keepReply ⟨f.src, f.seq, f.opcode, f.req, p, s.time⟩
  let owes := f.owes.filter (· != i)
  let f' := { f with waits := f.waits.filter (· != i),
                     owes := if !compl && le2 rest 0 == 1 then owes ++ [i] else owes }
  { s with baind := { s.baind with
    fwd := (s.baind.fwd.map fun x => if x = f then f' else x).filter fun x => x.waits != [] || x.owes != [] } }

/-- A forwarded packet arrives: a request for this module or for all is executed, one for another passes on; a reply
goes to the request that waits for it. -/
def State.forwarded (s : State) (isReply : Bool) (h : Hdr) (opcode : Nat) (pay : List Nat) : State :=
  let i := match h.src with
    | .chain i => i
    | _ => s.get GLB_STAT_CHIDX
  if isReply then
    match s.baind.fwd.find? fun f => f.seq == h.seq % 65536 && f.opcode == opcode && (f.waits.contains i || f.owes.contains i) with
    | some f => s.relayReply f i pay
    | none => s
  else if h.target = 255 ∨ h.target = s.get GLB_STAT_CHIDX then (s.setTag 0).request h opcode pay
  else s.emit (.chain (s.portTo h.target) (.baind false h.target (toBytes (reqOf h opcode pay).bytes)))

def State.forwardMsg (s : State) (reply : Bool) (h : Hdr) (opcode : Nat) (pay : List Nat) : State :=
  if s.isOn && s.inChain then s.forwarded reply h opcode pay else s

def execBaindForward (crc reply : Bool) (h : Hdr) (opcode : Nat) (payload : List Byte) (s : State) :
    Host.Outcome State Fault Refusal :=
  ok (s.chainMsg crc (·.forwardMsg reply h opcode (ofBytes payload)))

/-- 10 ms have passed without a member's reply (R365). -/
def State.fwdTimeout (s : State) (src : Source) (seq : Nat) : State :=
  match s.baind.fwd.find? fun f => f.src == src && f.seq == seq && f.waits != [] with
  | some f =>
    let s := s.advance (f.sent + 10000000)
    let s := f.waits.foldl (fun s i =>
      let p := s.replyBytes f.opcode f.seq i 0 0x50 [] f.key
      (s.sendReply f.src f.tag false p).keepReply ⟨f.src, f.seq, f.opcode, f.req, p, s.time⟩) s
    { s with baind := { s.baind with
      fwd := (s.baind.fwd.map fun x => if x = f then { f with waits := [] } else x).filter fun x =>
        x.waits != [] || x.owes != [] } }
  | none => s

def execForwardTimeout (src : Source) (seq : Nat) (s : State) : Host.Outcome State Fault Refusal :=
  ok (s.fwdTimeout src seq)

end Sys2Proof.Machine
end

