-- ==== Sys2Proof/Machine/Complete.lean ====
section
/-! DEFINITION. The completion moment of a boundary: slices complete, are segmented and feed the knot stage (spec/ file
06, R165, R167; file 07, R186 to R200). -/

namespace Sys2Proof.Machine

open Reg

/-- Order of delivery: hypotheses ascending, start frames ascending (R167). -/
def Slice.before (a b : Slice) : Bool :=
  decide (a.hyp < b.hyp) || (a.hyp == b.hyp && decide (frameDiff a.start b.start < 0))

def insertSlice (x : Slice) : List Slice → List Slice
  | [] => [x]
  | y :: r => if x.before y then x :: y :: r else y :: insertSlice x r

/-- The slices that complete at the present boundary (R165, R172). -/
def State.dueSlices (s : State) : List Slice :=
  (s.braid.slices.filter fun x => s.started x && decide (frameDiff x.due s.frameCnt ≤ 0)).foldr insertSlice []

/-- A slice of hypothesis `h` is segmented (R185, R196): always without FIXEN; under FIXEN for the fixed hypothesis, and
for another while a knot that opened under other settings has not finished. -/
def State.segments (s : State) (h : Nat) : Bool :=
  s.fixedHyp.all fun k => k == h || (s.knots.cands.any fun c => c.hyp == h && c.isOpen)
    || s.knots.knots.any fun n => n.chosen.isNone && !n.mute && !n.closed

/-- One slice is formed and delivered to the tap, and to segmentation while sorting runs (R165, R167, R385). -/
def State.deliver (s : State) (x : Slice) : State × Row :=
  let p := s.completeSlice x
  let s := p.1.tapSlice p.2
  (if s.sorting && s.segments p.2.hyp then s.segment p.2 else s, p.2)

/-- Every slice in its turn. -/
def State.deliverAll (s : State) (xs : List Slice) : State × List Row :=
  xs.foldl (fun p x => let q := p.1.deliver x; (q.1, p.2 ++ [q.2])) (s, [])

/-- The completion moment: every due slice, then the tracker's reference, which all of them see as it stands at the
moment (R142, R165, R182; log entry 29), then the choices (R193, R198), then what nothing needs any more is given
up. -/
def State.sliceMoment (s : State) (errs : List MemErr) : State :=
  let s := (s.addErrs errs).mgtCheck
  let due := s.dueSlices
  let p := s.deliverAll due
  let s := p.2.foldl (fun s r => s.refUpdate r) p.1
  let rest := s.braid.slices.filter fun x => !(due.any fun d => d.hyp == x.hyp && d.start == x.start)
  let s := { s with braid := { s.braid with slices := rest } }
  let trunc := s.braid.truncated
  let s := if trunc then { s.closeAllOpen with braid := { s.closeAllOpen.braid with truncated := false } } else s
  let s := (s.chooseAll trunc).sweepKnots
  (s.pruneSets.pruneRows.autoPump).brdShow

def execSliceComplete (errs : List MemErr) (s : State) : Host.Outcome State Fault Refusal := ok (s.sliceMoment errs)

/-! ### VERDICT_ISSUE -/

/-- The next closed knot is scored, issued and scheduled; with none waiting nothing happens. -/
def State.issueVerdict (s : State) (errs : List MemErr) (refused : List ChainPort) : State :=
  let s := (s.addErrs errs).mgtCheck
  match s.knots.queue with
  | [] => s
  | q :: _ =>
    let p := s.verdictOf q
    (p.1.phVerdict q p.2).schedule refused q p.2

def execVerdictIssue (errs : List MemErr) (refused : List ChainPort) (s : State) : Host.Outcome State Fault Refusal :=
  ok (s.issueVerdict errs refused)

end Sys2Proof.Machine
end

