-- ==== Sys2Proof/Machine/Track.lean ====
section
/-! DEFINITION. The backdrop tracker: hot samples, backdrop samples, BKD steps, shares and the anchor (spec/ file 05,
R138 to R144). -/

namespace Sys2Proof.Machine

open Reg

/-! ### Hot samples (R138) -/

/-- The lanes of a row group that hold a hot sample. -/
def State.hotLanes (s : State) (h : Header) (ys : List Samp) : List Nat :=
  if h.invalid then []
  else
    (List.range 64).filter fun j => (List.range 4).any fun i =>
      match ys[4 * j + i]? with
      | some y => decide (s.inForce KNT_THR_OPEN < ((y.tc : Int) - mget 0 s.trk.refs (64 * h.tile + j)).natAbs)
      | none => false

/-- A lane's row group was hot in one of the frames n − TAIL to n. -/
def State.hotRecent (s : State) (lane g frame : Nat) : Bool :=
  let f := mget 0 s.trk.hot (16 * lane + g)
  f != 0 && decide (frameDiff frame (f - 1) ≤ s.get CAL_TRK_TAIL)

/-- The last condition of R138, for lane `l` and row group `g` in a frame. -/
def State.coldAround (s : State) (l g frame : Nat) : Bool :=
  let m := s.get CAL_TRK_LANES
  !((List.range (2 * m + 1)).any fun i =>
    decide (m ≤ l + i) && decide (l + i - m < s.nLanes) && s.hotRecent (l + i - m) g frame)

/-! ### BKD (R139) -/

/-- The limited step in BKD LSB: 64 · e / GAIN, at most ±STEP; between whole LSBs the dither decides, a free value (log
entry 2). With gain 0 the spec states no step, and it is a free value within the limit. -/
def State.bkdStep (s : State) (e : Int) (gain : Nat) : State × Int :=
  let lim : Int := max 1 (s.get CAL_TRK_STEP)
  if gain = 0 then
    let p := s.draw
    (p.2, ((p.1 % (2 * lim.toNat + 1) : Nat) : Int) - lim)
  else
    let n := 64 * e
    if lim * gain ≤ n then (s, lim)
    else if n ≤ -(lim * gain) then (s, -lim)
    else if n % gain = 0 then (s, n / gain)
    else
      let p := s.draw
      (p.2, n / gain + ((p.1 % 2 : Nat) : Int))

/-- BKD of a pixel moves toward the anchor; it saturates at its range, counted (R139). -/
def State.bkdUpdate (s : State) (pix tc anchor : Nat) : State :=
  let a := 4 * pix + 2
  let w2 := s.pb a
  let p := s.bkdStep ((tc : Int) - anchor) (Rec.gain (s.pb (4 * pix + 1)))
  let b := Rec.bkd w2 + p.2
  let c := clampI (-32768) 32767 b
  let s := p.1.setPb a (Rec.putBkd w2 c)
  if b = c then s else s.bump CAL_TRKSTAT_SATCNT

/-! ### Backdrop samples (R138, R140, R144) -/

/-- A backdrop sample counts for its pixel's share and for the measurement window of a gain refresh. -/
def State.countBackdrop (s : State) (x : TrkSample) : State :=
  let t := s.trk
  let s := { s with trk := { t with share := mupd 0 t.share x.pix (· + 1), tcSum := mupd 0 t.tcSum x.pix (· + x.tc) } }
  match s.gref.phase with
  | .window1 => { s with gref := { s.gref with w1 := mupd CapSum.zero s.gref.w1 x.pix (·.add x.r2) } }
  | .window2 => { s with gref := { s.gref with w2 := mupd CapSum.zero s.gref.w2 x.pix (·.add x.r2) } }
  | _ => s

/-- One sample whose hot test can be made. The visit of its record ends here: the row groups of one place leave every
tile at one time, and the last of them to be released ends the visits of all (R97, R139; log entry 78). -/
def State.trackSample (s : State) (it : TrkItem) (x : TrkSample) : State :=
  let l := 64 * it.tile + x.pix % 64
  if x.fit && s.coldAround l it.rgrp it.frame then
    let s := s.countBackdrop x
    if it.held || !it.ever || Rec.frz (s.pb (4 * x.pix + 2)) || s.tileBlind it.tile then s
    else s.bkdUpdate x.pix x.tc it.anchor
  else s

/-- Both neighbouring tiles have released the row group's place, so its lanes' neighbours have been judged. -/
def State.trkReady (s : State) (it : TrkItem) : Bool :=
  (it.tile == 0 || s.tileReached (it.tile - 1) it.frame it.rgrp)
    && (decide (s.nTiles ≤ it.tile + 1) || s.tileReached (it.tile + 1) it.frame it.rgrp)

/-- Every waiting row group whose neighbours have been judged. -/
def State.trkPump (s : State) : State :=
  let go := s.trk.wait.filter fun it => s.trkReady it
  let rest := s.trk.wait.filter fun it => !s.trkReady it
  go.foldl (fun s it => it.samples.foldl (fun s x => s.trackSample it x) s)
    { s with trk := { s.trk with wait := rest } }

/-- The tracker takes a corrected row group of a frame (R138). -/
def State.trackGroup (s : State) (c : FrameCtx) (h : Header) (ys : List Samp) : State :=
  let n := h.tile
  let group := !(h.invalid || h.settle || h.partialF || c.blind || c.dip || bitOf c.blindTiles n)
  let samples := (List.range ys.length).filterMap fun k =>
    (ys[k]?).map fun y =>
      (⟨4096 * n + 64 * (4 * h.rgrp + k % 4) + k / 4, y.tc, y.r2, group && !(y.ovr || y.refd || y.bad)⟩ : TrkSample)
  let hot := (s.hotLanes h ys).foldl (fun m j => mset 0 m (16 * (64 * n + j) + h.rgrp) (c.frame + 1)) s.trk.hot
  let it : TrkItem := ⟨n, c.frame, h.rgrp, c.anchor, c.anchorEver, c.trkHeld, samples⟩
  let t := s.trk
  { s with trk := { t with hot := hot, released := mset 0 t.released n (16 * c.frame + h.rgrp + 1),
                           wait := t.wait ++ [it] } }.trkPump

/-! ### Shares and the anchor at a frame boundary (R140, R141) -/

/-- The tracker is held: EN is 0, a gain refresh runs, or a test mode is in force (R143, R461). -/
def State.trkIsHeld (s : State) : Bool := !s.flag CAL_TRK_EN || s.calPhase == 10 || s.tmx.mode != 0

/-- The pixels that exist, as 4,096 · tile + i. -/
def State.pixelList (s : State) : List Nat := List.range (4096 * s.nTiles)

/-- A pixel's FRZ as it stands, a posted mark included. -/
def State.frozen (s : State) (pix : Nat) : Bool := (s.mark pix).frz.getD (Rec.frz (s.pb (4 * pix + 2)))

/-- FRZ of every pixel after a full window (R140): changes are posted for the pipeline's read (R97). -/
def State.freezeEval (s : State) : State :=
  let share := clampN 100 (max 1 (s.get CAL_TRK_MINSHARE))
  let low := fun pix => decide (100 * mget 0 s.trk.share pix < share * 4096)
  let s := s.pixelList.foldl (fun s pix =>
    if s.frozen pix = low pix then s else s.setMark pix { s.mark pix with frz := some (low pix) }) s
  s.set CAL_TRKSTAT_FROZEN (s.pixelList.filter fun pix => s.frozen pix).length

/-- A with ANCHOR = 0: the median over good unfrozen pixels of their mean backdrop TC (R141). -/
def State.medianAnchor (s : State) : Option Nat :=
  let ms := s.trk.share.filterMap fun p =>
    if s.pixBad p.1 || s.frozen p.1 then none else some (roundDiv ((mget 0 s.trk.tcSum p.1 : Nat) : Int) p.2)
  if ms = [] then none else some (roundDiv (median2 ms) 2).toNat

def State.setAnchor (s : State) (a : Nat) : State :=
  { (s.set CAL_ANCHOR_A a).set CAL_ANCHOR_VALID 1 with trk := { s.trk with ever := true } }

/-- The evaluation at every 4,096th frame (R140). -/
def State.shareEval (s : State) : State :=
  if s.frameCnt % 4096 = 0 then
    let s :=
      if s.trk.full then
        let s := if s.trkIsHeld then s else s.freezeEval
        if s.flag CAL_TRK_ANCHOR then s
        else match s.medianAnchor with
          | some a => s.setAnchor a
          | none => s
      else s
    { s with trk := { s.trk with full := true, share := [], tcSum := [] } }
  else s

/-- A from the latest valid RTD reading; outside the 16 bits of A the spec states no value (log entry 2). -/
def State.rtdAnchor (s : State) : State × Nat :=
  let a := roundDiv (((s.get HKA_RTDTEMP_TEMP : Int) - 60000) * 128) 1000 + s.getS CAL_BKDOFS_OFS
  if a < 0 ∨ 65535 < a then
    let p := s.draw
    (p.2, p.1 % 65536)
  else (s, a.toNat)

/-- The latch of A at a frame boundary (R141); TRK_ANCHOR on the fall of VALID. -/
def State.anchorLatch (s : State) : State :=
  if !s.flag CAL_TRK_ANCHOR then s
  else if s.flag HKA_RTDTEMP_VALID then
    let p := s.rtdAnchor
    p.1.setAnchor p.2
  else if s.flag CAL_ANCHOR_VALID then (s.set CAL_ANCHOR_VALID 0).raise Src.trkAnchor
  else s

/-- A frame of a measurement window of the gain refresh. -/
def State.grefFrame (s : State) : State :=
  match s.gref.phase with
  | .window1 => { s with gref := { s.gref with n1 := s.gref.n1 + 1 } }
  | .window2 => { s with gref := { s.gref with n2 := s.gref.n2 + 1 } }
  | _ => s

end Sys2Proof.Machine
end

