-- ==== Sys2Proof/Machine/Frame.lean ====
section
/-! DEFINITION. The frame boundary, the release of a row group into the pipeline, and the rejoin of an orphan, which is
a boundary of its own (spec/ files 02 to 06, 16, 18). -/

namespace Sys2Proof.Machine

open Reg

/-! ### Settings (R38, R39, R59, R60, R417) -/

/-- Every staged setting that has arrived in time applies, oldest first; PEND falls where none is left. Of two writes of
one setting that apply at one boundary each applies in its turn, a change and its undoing as two changes (log entry
74). -/
def State.applyStaged (s : State) : State :=
  let now := s.sensor.staged.filter fun x => x.due.any s.reached
  let rest := s.sensor.staged.filter fun x => !x.due.any s.reached
  let s := { s with sensor := { s.sensor with staged := rest } }
  let s := now.foldl (fun s x => s.applySetting x.what) s
  now.foldl (fun s x => match x.what.pend with
    | some f => if rest.any (fun y => y.what.pend == some f) then s else s.set f 0
    | none => s) s

/-- A rate that the master has announced applies (R417). -/
def State.chainRate (s : State) : State :=
  match s.chain.rateNext with
  | some (v, after) =>
    if after < s.time then (s.setChain { s.chain with rateNext := none }).applySetting (.frate v) else s
  | none => s

/-- The bias ramp has ended: spare rotation starts, and on the NK1024 self-calibration of every tile during warm-up
(R77, R428). -/
def State.rampEnd (s : State) : State :=
  s.tileList.foldl (fun s n =>
    if s.fuses.nk1024 then (if s.mode = 1 then s.scalStart n else s)
    else if s.flag (TIL_CVCTRL_ROTEN n) && !s.flag (TIL_CVSTAT_SCAL_BUSY n) then s.startRotation n else s) s

/-- The ramp's step at this boundary, and its end. -/
def State.rampBoundary (s : State) : State :=
  let t := s.rampStep
  if s.sensor.rampJ ≠ 0 ∧ t.sensor.rampJ = 0 then t.rampEnd else t

/-- The module removes sensor bias at this boundary (R59, R287, R439), which is no staged change. BIAS_EN then reads 0, so
that a later write of 1 ramps it again (R60; log entry 75). -/
def State.biasGone (s : State) : State :=
  if s.sensor.removeBias then
    ({ s with sensor := { s.sensor with removeBias := false } }.set STG_CTRL_BIAS_EN 0).biasOut
  else s

/-- A value of a table of 64 points 500 mK apart, `x` codes of 0.5 mK from its first one, interpolated, in 1/1,000 (R292). -/
def compAt (point : Nat → Int) (x : Nat) : Int :=
  let k := x / 1000
  let f := x % 1000
  point k * (1000 - f : Nat) + (if f = 0 then 0 else point (k + 1) * f)

/-- Bias and column references follow the compensation table by the stage temperature, 34.0 °C to 65.5 °C, clamped at the
ends (R292). STG_TEMP counts 0.5 mK from −40 °C. -/
def State.compensate (s : State) : State :=
  let x := clampN 63000 ((s.get STG_TEMP_TEMP : Int) - 148000)
  s.setHouse { s.house with comp := x, compBias := compAt Config.compBias x, compRef := compAt Config.compRef x }

/-! ### Blind tiles and test modes (R457, R461, R464) -/

/-- The blind bits written last for a boundary that has come. -/
def State.blindBits (s : State) : Nat :=
  ((s.tmx.blindDue.filter fun p => s.reached p.2).getLast?.map (·.1)).getD s.tmx.blind

/-- TMX_BLIND applies; when sorting has stopped, blind time ends for every valve (R457). -/
def State.blindTileStep (s : State) : State :=
  let old := s.tmx.blind
  let new := s.blindBits
  let left := s.tmx.blindDue.filter fun p => !s.reached p.2
  let s := { s with tmx := { s.tmx with blind := new, blindDue := left } }.set TMX_BLINDACT_TILES new
  let s := s.tileList.foldl (fun s n =>
    if bitOf new n && !bitOf old n then
      s.blindBegin n (2 ^ n) (s.flag CAL_CTRL_POLICY) (s.flag CAL_CTRL_REJROW)
    else if bitOf old n && !bitOf new n then s.blindEnd n
    else s) s
  if s.sorting then s else (List.range 33).foldl (fun s n => s.blindEnd n) s

/-- The UB words of a set of tiles read 0xFFFF (R464). -/
def State.resetUb (s : State) (tiles : Nat) : State :=
  { s with braid := { s.braid with ub := s.braid.ub.filter fun p => !bitOf tiles (p.1 / 4096) } }

/-- A staged test mode applies (R461, R463, R464). -/
def State.modeStep (s : State) : State :=
  match s.tmx.modeDue with
  | some (m, due) =>
    if !s.reached due then s
    else if m = s.tmx.mode then { s with tmx := { s.tmx with modeDue := none } }.set TMX_TPCTL_PEND 0
    else
      let s := { s with tmx := { s.tmx with mode := m, modeDue := none, capFrame := none, capGot := 0 } }
      let s := (s.set TMX_TPCTL_PEND 0).setB TMX_TPSTAT_ACTIVE (m != 0)
      if m = 0 then ((s.resetUb (s.get TMX_TPTILES_TILES)).braidTruncate 3).calNext
      else
        let s := s.testHold
        if s.flag ARB_CTRL_EN then s else (List.range s.nChans).foldl (fun s c => s.disable c) s
  | none => s

/-! ### What a frame is corrected and braided with (R93) -/

def State.frameCtx (s : State) (bad : List Nat) : FrameCtx :=
  { frame := s.frameCnt, start := s.time, rate := s.sensor.rate, stage := s.get STG_TEMP_TEMP,
    trefA := s.get COR_TREF_A_TEMP, trefB := s.get COR_TREF_B_TEMP, osel := s.get COR_OSEL_ACT, w := s.blendW,
    v0 := s.get COR_V0_V0, badLanes := bad, badSlices := s.badSlices, blindTiles := s.tmx.blind,
    blind := s.flag CAL_STATUS_BLIND, dip := s.flag PWR_STAT_DIP, trkHeld := s.trkIsHeld, anchor := s.get CAL_ANCHOR_A,
    anchorEver := s.trk.ever, lambda := s.inForce BRD_UNLAY_BETA, bypass := s.isForce BRD_UNLAY_BYPASS,
    unlAll := s.get BRD_STAT_UNLFR != 0,
    flagw := s.inForce BRD_FLAGW_REFD + 4 * s.inForce BRD_FLAGW_SETTLE + 16 * s.inForce BRD_FLAGW_UNL }

/-- The contexts of the frames in flight. -/
def State.pushCtx (s : State) (c : FrameCtx) : State :=
  let l := s.corr.ctx ++ [c]
  { s with corr := { s.corr with ctx := l.drop (l.length - 3) } }

/-- FIXK names a hypothesis that the active set lacks (R196). -/
def State.fixCheck (s : State) : State :=
  if s.isForce KNT_CTRL_FIXEN && decide (s.braid.active.k ≤ s.inForce KNT_CTRL_FIXK) then s.set KNT_STAT_WRERR 1 else s

/-! ### The boundary -/

/-- What every boundary does once the frame count and the grid stand at it; `rejoin` says that it counts as a change of
rate in any case (R419). -/
def State.boundary (s : State) (rejoin : Bool) : State :=
  let rate := s.sensor.rate
  let s := ((((s.settleTick).applyStaged).chainRate).biasGone).rampBoundary
  let rateChg := rejoin || s.sensor.rate != rate
  let s := (((s.liveStep).bankBoundary).modeStep).blindTileStep
  let p := s.flipStep.blendStep
  let s := p.1.calBoundary p.2
  let q := s.laneStep
  let s := ((((q.1.dtStep).shareEval).anchorLatch).grefFrame).braidBoundary rateChg
  let s := if s.sorting then s.fixCheck else s.dropKnots
  let s := ((s.pushCtx (s.frameCtx q.2)).settleReport).compensate
  ((s.masterStep).masterSend).saveRead.tapShow.tapFrame

/-- The next frame boundary on the grid (R36, R37). -/
def State.nextFrame (s : State) : State :=
  let s := (s.advance s.nextBoundary).takeArrivals.incr STG_FRAMECNT_COUNT
  let lost := s.sensor.lostThrough.filter fun f => decide (0 ≤ frameDiff (f + 2) s.frameCnt)
  { s with sensor := { s.sensor with gridK := s.sensor.gridK + 1, partialF := false, lostThrough := lost } }

def execFrameBoundary (s : State) : Host.Outcome State Fault Refusal := ok (s.nextFrame.boundary false)

/-! ### Rejoining the chain (R419) -/

/-- A time moved by the step of the counter. -/
def moveT (d : Int) (t : Nat) : Nat := ((t : Int) + d).toNat

/-- A time kept plus one, 0 for none. -/
def moveT1 (d : Int) (t : Nat) : Nat := if t = 0 then 0 else moveT d t

/-- Every queued firing, and every other running time, moves by the step of the counter, so that its length stays. The
loops' windows that the step cuts start again empty (log entry 89). -/
def State.shiftTimes (s : State) (d : Int) : State :=
  let entry := fun (e : Entry) => { e with opn := moveT d e.opn, cls := e.cls.map (moveT d), least := moveT d e.least }
  let drive := fun (x : Drive) => if x = Drive.init then x
    else { x with waitEnd := moveT d x.waitEnd, on := moveT d x.on, off := moveT d x.off }
  let c := s.cal
  let cal := { c with asked := moveT d c.asked, grantAt := c.grantAt.map (moveT d), blindFrom := moveT1 d c.blindFrom,
                      closedAt := moveT d c.closedAt, releasedAt := moveT d c.releasedAt, openAt := moveT1 d c.openAt,
                      lastEnd := moveT1 d c.lastEnd, lastOk := moveT d c.lastOk, retryAt := moveT d c.retryAt,
                      deferAt := moveT d c.deferAt }
  let now := moveT d s.time / 1000000000
  let loops := { s.loops with hist := [], phDone := now, rtd := [], bkDone := now,
                              began := s.loops.began.map fun p => (p.1, moveT d p.2) }
  let qs := s.sched.queues.map fun p => (p.1, p.2.map entry)
  let ds := s.valves.drives.map fun p => (p.1, drive p.2)
  { s with sched := { s.sched with queues := qs }, valves := { s.valves with drives := ds, freedAt := moveT d s.valves.freedAt },
           cal := cal, loops := loops,
           sensor := { s.sensor with staged := s.sensor.staged.map fun x => { x with written := moveT d x.written } },
           stage := { s.stage with inBand := moveT1 d s.stage.inBand,
                                   agree := s.stage.agree.map fun p => (p.1, moveT1 d p.2) },
           house := { s.house with since := s.house.since.map fun p => (p.1, moveT d p.2),
                                   autos := s.house.autos.map (moveT d) } }

/-- Receivers supply the row groups of the frame ended at X whose slots have not begun as INVALID (R71, R419). -/
def State.cutFrame (s : State) : State :=
  s.tileList.foldl (fun s n =>
    let g := match (s.tile n).integ with
      | some h => h.rgrp + 1
      | none => s.slotNow + 1
    s.setRx n { s.rx n with cut := some (s.frameCnt, g) }) s

/-- An orphan may rejoin: 16 valid pulses, an index, no blind time, no calibration past its grant phase (R412, R419). -/
def State.mayRejoin (s : State) : Bool :=
  s.chainState == 3 && decide (1 < s.chain.size ∧ 16 ≤ s.chain.good) && !s.flag CAL_STATUS_BLIND
    && !(decide (2 ≤ s.calPhase ∧ s.calPhase ≤ 9))
    && (match s.chain.low with
      | some i => (match i.index with
        | some k => decide (k < 7)
        | none => false)
      | none => true)

/-- The rejoin at the chain's boundary X of which the latest TIME message tells. -/
def State.rejoin (s : State) (m : TimeMsg) : State :=
  let s := s.takeArrivals.cutFrame
  let x := floor2 m.time
  let s := s.shiftTimes ((x : Int) - s.time)
  let s := { s with time := x, sensor := { s.sensor with rate := m.rate, gridBase := x, gridK := 0, partialF := true } }
  let s := (s.incr STG_FRAMECNT_COUNT).set STG_FRATE_RATE m.rate
  let s := s.setChain { s.chain with listening := false, good := 0, heard := false, rateNext := none }
  let s := ((s.set CHN_STAT_MSTIDX m.master).set CHN_RUN_RUN m.run).set GLB_STAT_UNSYNC 0
  let s := (s.setPair CHN_REJOIN_LO_STAMP CHN_REJOIN_HI_STAMP x).setChainState 1
  let s := (s.raise Src.rejoin).boundary true
  let s := ((s.settleAll 4).settleReport).cfgFrame
  s.calNext

def execChainRejoin (s : State) : Host.Outcome State Fault Refusal :=
  ok (match s.chain.next with
    | some m => if s.mayRejoin then s.rejoin m else s
    | none => s)

/-! ### Row groups enter the pipeline (R84, R86, R90, R138, R147, R161, R385) -/

/-- The read side's occupancy in words at the row group's start. -/
def State.occupancy (s : State) (n occ : Nat) : State :=
  let s := s.set (TIL_TXSTAT_OCC n) occ
  let o := s.get (TIL_TXSTAT_OCC n)
  (s.set (TIL_TXSTAT_OCCMIN n) (min o (s.get (TIL_TXSTAT_OCCMIN n)))).set (TIL_TXSTAT_OCCMAX n)
    (max o (s.get (TIL_TXSTAT_OCCMAX n)))

/-- The oldest row group of a lane. With the FIFO empty it underflows, which is a slip, and an INVALID row group keeps
the place (R71, R86); one that comes too late for it goes no further. -/
def State.popGroup (s : State) (n occ : Nat) : State × RowGroup :=
  match (s.rx n).fifo with
  | g :: _ =>
    let s := if occ = 0 then s.slip n 1 true g.hdr.stamp g.hdr.frame else s
    let g := (s.rx n).fifo.headD g
    (s.setRx n { s.rx n with fifo := (s.rx n).fifo.tail }, g)
  | [] =>
    let r := s.rx n
    let g := s.blankGroup n r.frame r.rgrp
    let s := (s.slip n 1 true (s.rxStamp n) r.frame).bump (TIL_TXINVCNT_COUNT n)
    (s.setRx n (s.rx n).step, g)

/-- The release time of a row group: the end of its transmit slot, TXDLY and 16 word times (R84). -/
def State.releaseTime (s : State) (g : RowGroup) : Nat :=
  floor2 (s.expectedStamp (s.fullFrame g.hdr.frame) (g.hdr.rgrp + 2) - 550 + 180 + 211)

/-- A row group through correction, tracker, unlay, braid and tap; the frame that a reset begins had no boundary, and
takes the values that stand. -/
def State.pipeGroup (s : State) (n : Nat) (g : RowGroup) : State :=
  if s.pipeStopped then s
  else
  let f := s.fullFrame g.hdr.frame
  let c := (s.ctxOf f).getD { s.frameCtx [] with frame := f, start := s.frameStart }
  let p := s.correctGroup c n g
  let s := if p.1.inCapture f then p.1.calCollect c n g.hdr p.2 else p.1
  let s := s.trackGroup c g.hdr p.2
  let q := State.unlayGroup c g.hdr s 0 p.2
  let s := q.1.braidGroup g.hdr f q.2
  s.tapGroup g.hdr c.frame g.words p.2 q.2

def State.releaseGroup (s : State) (n occ : Nat) (errs : List MemErr) : State :=
  let s := (s.addErrs errs).mgtCheck
  if s.nTiles ≤ n then s
  else
    let p := (s.occupancy n occ).popGroup n occ
    (p.1.advance (s.releaseTime p.2)).pipeGroup n p.2

def execRowGroupRelease (tile occ : Nat) (errs : List MemErr) (s : State) : Host.Outcome State Fault Refusal :=
  ok (s.releaseGroup tile occ errs)

/-- The fit of a tile's self-calibration is complete (R80); the last tile's end completes CONV_SCAL (R366, R370). -/
def execScalComplete (tile : Nat) (factors : List (Int × Int)) (s : State) : Host.Outcome State Fault Refusal :=
  ok (let was := s.flag (TIL_CVSTAT_SCAL_BUSY tile)
      let s := s.scalDone tile factors
      let busy := s.tileList.any fun n => s.flag (TIL_CVSTAT_SCAL_BUSY n)
      if was && !busy && s.opRuns 0x0304 then
        let fail := s.tileList.any fun n => s.flag (TIL_CVSTAT_SCAL_FAIL n)
        s.opFinish 0x0304 (if fail then 2 else 0) (leBytes 4 (sumN (s.tileList.map fun n =>
          if s.flag (TIL_CVSTAT_SCAL_FAIL n) then 2 ^ n else 0)))
      else s)

end Sys2Proof.Machine
end

