-- ==== Sys2Proof/Machine/Ports.lean ====
section
/-! DEFINITION. The management port: frames, DHCP, PTP, the PHY (spec/ file 14, R379 to R384). -/

namespace Sys2Proof.Machine

open Reg

/-! ### Frames (R379, R380) -/

/-- The management firmware runs, not recovery. -/
def State.fwRuns (s : State) : Bool := s.isOn && s.power.fw && !s.flash.recovery

/-- The port answers over IPv4: without DHCP, or with a lease (R381). -/
def State.ipUp (s : State) : Bool := !s.flag ETH_CTRL_DHCP || s.flag ETH_STAT_BOUND

/-- The limited broadcast address, or the one of the module's subnet (R380). -/
def State.isBroadcast (s : State) (ip : Nat) : Bool :=
  ip == 0xFFFFFFFF || ip == (s.get ETH_IP_ADDR ||| (0xFFFFFFFF - s.get ETH_MASK_ADDR))

def State.dropFrame (s : State) : State := s.bump ETH_DROPCNT_COUNT

/-- A datagram on the Baind port (R380). -/
def State.baindDatagram (s : State) (fragment : Bool) (srcIp srcPort dstIp : Nat) (p : List Nat) : State :=
  let src := Source.udp srcIp srcPort
  if dstIp = s.get ETH_IP_ADDR then
    if fragment then s.dropFrame else (s.setTag 0).packet src p
  else if s.isBroadcast dstIp then
    if fragment = false ∧ le2 p 2 = 0x0208 then (s.setTag 0).packet src p else s.dropFrame
  else s

/-- A frame is classified (R380); what goes to the cluster leaves the block's state as it is. -/
def State.frameIn (s : State) (f : EthFrame) : State :=
  match f with
  | .bad => ((s.bump ETH_RXERRCNT_COUNT).set ETH_STAT_RXERR 1).raise Src.ethRxErr
  | .oversize => s.dropFrame
  | .udp tagged fragment srcIp srcPort dstIp dstPort payload =>
    let s := s.bump ETH_RXCNT_COUNT
    if tagged = false ∧ dstPort = 40707 ∧ s.ipUp then s.baindDatagram fragment srcIp srcPort dstIp (ofBytes payload) else s
  | .arp target =>
    let s := s.bump ETH_RXCNT_COUNT
    if s.ipUp && target == s.get ETH_IP_ADDR then (s.emit .arpReply).bump ETH_TXCNT_COUNT else s
  | .icmpEcho _ dst =>
    let s := s.bump ETH_RXCNT_COUNT
    if s.ipUp && dst == s.get ETH_IP_ADDR then (s.emit .icmpReply).bump ETH_TXCNT_COUNT else s
  | .ptpL2 => s.bump ETH_RXCNT_COUNT
  | .other => s.bump ETH_RXCNT_COUNT

/-- A frame arrives and lies in its buffer in FB; errors that appear in the buffer's words are met as it is read, and a
frame in error is discarded (R315, R380; log entry 98). -/
def State.frameRead (s : State) (f : EthFrame) (errs : List MemErr) : State :=
  let s := s.addErrs errs
  if s.fwRuns && s.flag ETH_CTRL_EN then
    let p := errs.foldl (fun (p : State × Bool) e =>
      let q := p.1.memRead 56 e.word 5
      (q.1, p.2 || q.2)) (s, false)
    if p.2 then (p.1.bump ETH_RXCNT_COUNT).dropFrame else p.1.frameIn f
  else s

def execEthFrameReceive (f : EthFrame) (errs : List MemErr) (s : State) : Host.Outcome State Fault Refusal :=
  ok (s.frameRead f errs)

/-! ### DHCP (R381) -/

def State.setDhcp (s : State) (n : Nat) : State := { s with net := { s.net with dhcp := n } }

/-- The client starts afresh with a DISCOVER. -/
def State.dhcpAgain (s : State) : State := ((s.setDhcp 1).set ETH_STAT_BOUND 0).emit (.dhcp 1)

/-- The lease goes into ETH_IP, ETH_MASK and ETH_GW. -/
def State.dhcpBound (s : State) (ip mask gw : Nat) : State :=
  ((((s.set ETH_IP_ADDR ip).set ETH_MASK_ADDR mask).set ETH_GW_ADDR gw).set ETH_STAT_BOUND 1).setDhcp 3

/-- A message to the client, by its state (RFC 2131). -/
def State.dhcpIn (s : State) (m : DhcpMsg) : State :=
  match m with
  | .offer _ => if s.net.dhcp = 1 then (s.setDhcp 2).emit (.dhcp 3) else s
  | .ack ip mask gw => if s.net.dhcp = 2 ∨ s.net.dhcp = 4 ∨ s.net.dhcp = 5 then s.dhcpBound ip mask gw else s
  | .nak => if s.net.dhcp = 2 ∨ s.net.dhcp = 4 ∨ s.net.dhcp = 5 then s.dhcpAgain else s

def execDhcpMessage (m : DhcpMsg) (s : State) : Host.Outcome State Fault Refusal :=
  ok (if s.fwRuns && s.flag ETH_CTRL_DHCP then s.dhcpIn m else s)

/-- T1, T2 or the end of the lease (RFC 2131). -/
def State.dhcpTimer (s : State) (t : DhcpTimer) : State :=
  match t with
  | .renew => if s.net.dhcp = 3 then (s.setDhcp 4).emit (.dhcp 3) else s
  | .rebind => if s.net.dhcp = 4 then (s.setDhcp 5).emit (.dhcp 3) else s
  | .expire => if s.flag ETH_STAT_BOUND then s.dhcpAgain else s

def execDhcpLeaseTimer (t : DhcpTimer) (s : State) : Host.Outcome State Fault Refusal :=
  ok (if s.fwRuns && s.flag ETH_CTRL_DHCP then s.dhcpTimer t else s)

/-! ### PTP (R382 to R384) -/

/-- The module disciplines chain time: the master, or a module outside a chain (R383). -/
def State.ptpActive (s : State) : Bool :=
  s.flag ETH_PTPCTL_EN && (s.get CHN_STAT_STATE == 0 || s.get CHN_STAT_STATE == 2)

/-- LOCKTH in ns. -/
def State.lockNs (s : State) : Nat := s.get ETH_PTPCTL_LOCKTH * 100

/-- LOCK falls (R384). -/
def State.ptpUnlock (s : State) : State :=
  let s := { s with net := { s.net with good := 0 } }
  if s.flag ETH_PTPSTAT_LOCK then ((s.set ETH_PTPSTAT_LOCK 0).set ETH_PTPSTAT_LOSTSEEN 1).raise Src.ptpLock else s

/-- LOCK rises; the first lock after reset or REOFS sets ETH_PTPOFS, rounded to 2 ns (R383). -/
def State.ptpLockUp (s : State) (ptpTime : Nat) : State :=
  let s :=
    if s.net.askOfs || !s.flag ETH_PTPSTAT_OFSVALID then
      let d : Int := 2 * roundDiv ((ptpTime : Int) - floor2 s.time) 2
      let v := unsgn 64 d
      let s := { s with net := { s.net with askOfs := false } }.set ETH_PTPSTAT_OFSVALID 1
      (s.set ETH_PTPOFS_LO_OFS (v % 2 ^ 32)).set ETH_PTPOFS_HI_OFS (v / 2 ^ 32)
    else s
  (s.set ETH_PTPSTAT_LOCK 1).raise Src.ptpLock

/-- The servo's rate lies within ±100 ppm; its gains are not given, so the rate is a free value (R383; log entry 2). -/
def State.ptpServo (s : State) : State :=
  let d := s.draw
  d.2.setS ETH_PTPSTAT_ADJ ((d.1 % 20001 : Nat) - 10000)

/-- A Sync with its residual (R383, R384). -/
def State.ptpSync (s : State) (residual : Int) (ptpTime : Nat) : State :=
  let s := s.setS ETH_PTPRES_RES (clampI (-(2 ^ 31)) (2 ^ 31 - 1) residual)
  let a := residual.natAbs
  if 1000000 < a ∧ s.flag ETH_PTPSTAT_OFSVALID ∧ s.net.askOfs = false then
    { s.ptpUnlock with net := { s.ptpUnlock.net with hold := true } }
  else
    let s := if a < s.lockNs then { s with net := { s.net with good := min 16 (s.net.good + 1) } }
      else { s with net := { s.net with good := 0 } }
    if s.flag ETH_PTPSTAT_LOCK then (if 4 * s.lockNs < a then s.ptpUnlock else s.ptpServo)
    else if s.net.good = 16 ∧ s.net.hold = false then s.ptpLockUp ptpTime
    else s

def execPtpMessage (residual : Int) (ptpTime : Nat) (s : State) : Host.Outcome State Fault Refusal :=
  ok (if s.fwRuns && s.ptpActive then s.ptpSync residual ptpTime else s)

/-- No Sync for 4 intervals (R384). -/
def execPtpSyncTimeout (s : State) : Host.Outcome State Fault Refusal :=
  ok (if s.fwRuns && s.flag ETH_PTPCTL_EN then s.ptpUnlock else s)

def execPtpReofs (r : Requester) (s : State) : Host.Outcome State Fault Refusal := ok (s.guardW r 0xC050 (·.reofs))

/-! ### PHY and MDIO (R379) -/

/-- The firmware's read of the PHY every 100 ms. -/
def State.phyPoll (s : State) (link : Bool) (speed : Nat) (fdx : Bool) : State :=
  if link = s.flag ETH_STAT_LINK ∧ speed % 4 = s.get ETH_STAT_SPEED ∧ fdx = s.flag ETH_STAT_FDX then s
  else (((s.setB ETH_STAT_LINK link).set ETH_STAT_SPEED speed).setB ETH_STAT_FDX fdx).raise Src.ethLink

def execPhyStatusPoll (link : Bool) (speed : Nat) (fdx : Bool) (s : State) : Host.Outcome State Fault Refusal :=
  ok (if s.fwRuns then s.phyPoll link speed fdx else s)

def execMdioGo (r : Requester) (v : Word) (s : State) : Host.Outcome State Fault Refusal :=
  ok (s.guardW r 0xC020 (·.mdioW (v.toNat ||| 2 ^ 11)))

/-- The access ends: BUSY clears, and a read leaves its data. -/
def State.mdioEnd (s : State) (data : Nat) : State :=
  match s.net.mdio with
  | none => s
  | some w =>
    let s := { s with net := { s.net with mdio := none } }.set ETH_MDIOCMD_BUSY 0
    match w with
    | some _ => s
    | none => s.set ETH_MDIOCMD_DATA data

def execMdioAccessDone (data : Nat) (s : State) : Host.Outcome State Fault Refusal := ok (s.mdioEnd data)

end Sys2Proof.Machine
end

