-- ==== Sys2Proof/Machine/Serial.lean ====
section
/-! DEFINITION. The serial slave port's frames and the flash window (spec/ file 15). -/

namespace Sys2Proof.Machine

open Reg

/-! ### Status and frames (R390, R391) -/

/-- READY: the boot ROM enables the port 1 ms after the release of reset, and EN is 1 (R391). -/
def State.sspServes (s : State) : Bool :=
  s.isOn && s.flag SSP_CTRL_EN && (s.ssp.ready || decide (s.power.since + 1000000 ≤ s.time))

def State.setSsp (s : State) (x : Ssp) : State := { s with ssp := x }.sspShow

/-- EVT: some source is active for a destination that EVTMASK selects. -/
def State.sspEvt (s : State) : Bool :=
  (List.range 6).any fun d => bitOf (s.get SSP_CTRL_EVTMASK) d && s.evtSum d != 0

/-- The number of ones in a byte. -/
def onesIn (b : Nat) : Nat := (onesOf 8 b).length

/-- The status byte with given ERR, END and COLL; PARITY makes the number of ones odd (R390). -/
def State.sspStatus (s : State) (err ended coll : Bool) : Nat :=
  let b := b2n s.sspServes + b2n err * 2 + b2n ended * 4 + b2n coll * 8 + b2n (decide (2 ≤ s.ssp.inbox.length)) * 16
    + b2n (s.ssp.outbox != []) * 32 + b2n s.sspEvt * 64
  b + (if onesIn b % 2 = 0 then 128 else 0)

/-- The status byte of a frame that begins now. -/
def State.sspFirst (s : State) : Nat := s.sspStatus s.ssp.err s.ssp.ended s.ssp.coll

/-- A frame begins: it counts, and its mode shows. -/
def State.frameBegin (s : State) (mode3 : Bool) : State :=
  ({ s with ssp := { s.ssp with err := false, ended := false, coll := false } }.bump SSP_FRAMECNT_COUNT).setB SSP_STAT_MODE3 mode3

/-- A frame has an error (R396, R398). -/
def State.frameErr (s : State) (code : Nat) : State :=
  let s := { s with ssp := { s.ssp with err := true } }
  (((s.set SSP_STAT_ERRSEEN 1).set SSP_STAT_LASTERR code).bump SSP_ERRCNT_COUNT).raise Src.sspErr

/-- A frame whose command byte has a reserved bit set is an error: the rest of its bytes, `n` of them, shift out as zero,
and it acts on nothing (R392). -/
def State.frameRsv (s : State) (mode3 : Bool) (n : Nat) : State :=
  let first := s.sspFirst
  ((s.frameBegin mode3).frameErr 1).emit (.ssp (toBytes (first :: List.replicate n 0)))

/-- A frame went past word address 0x3FFF (R394). -/
def State.frameEnd (s : State) : State := { s with ssp := { s.ssp with ended := true } }.set SSP_STAT_ENDSEEN 1

/-- A frame that begins while READY is 0 changes nothing, and reads 0 after its status byte (R391). -/
def State.notReady (s : State) (n : Nat) : State := s.emit (.ssp (toBytes (s.sspFirst :: List.replicate n 0)))

/-! ### Register frames (R393 to R397) -/

/-- The words of a read frame: each counts as read once its first bit is out (R395). -/
def State.sspWords (s : State) (inc : Bool) (a : Nat) : Nat → State × List Nat
  | 0 => (s, [])
  | n + 1 =>
    let p := if 0x4000 ≤ a then (s.frameEnd, 0) else s.readBy .ssp (4 * a)
    let q := p.1.sspWords inc (if inc then a + 1 else a) n
    (q.1, p.2 :: q.2)

def State.sspRead (s : State) (mode3 inc : Bool) (addr words : Nat) : State :=
  if s.sspServes then
    let first := s.sspFirst
    let s := s.frameBegin mode3
    let second := s.sspStatus false (decide (0x4000 ≤ addr)) false
    let s := if 0x4000 ≤ addr then s.frameEnd else s
    let p := s.sspWords inc addr words
    p.1.emit (.ssp (toBytes ([first, 0, 0, second] ++ leWords p.2)))
  else s.notReady (3 + 4 * words)

def execSspRegisterReadFrame (mode3 : Bool) (rsv : Nat) (inc : Bool) (addr words : Nat) (s : State) :
    Host.Outcome State Fault Refusal :=
  ok (if s.sspServes && rsv != 0 then s.frameRsv mode3 (3 + 4 * words) else s.sspRead mode3 inc (addr % 65536) words)

/-- The words of a write frame are committed in ascending order (R396); a reset that one starts ends them. -/
def State.sspCommit (s : State) (inc : Bool) (a : Nat) (l : List Nat) : State :=
  (List.range l.length).foldl (fun s i =>
    let a := if inc then a + i else a
    if !s.isOn then s
    else if 0x4000 ≤ a then s.frameEnd
    else s.regWriteBy .ssp (4 * a) (l.getD i 0) 0) s

/-- A write frame: `l` are the whole bytes after the command byte, and `extra` the bits of a byte it ended inside. -/
def State.sspWrite (s : State) (mode3 inc : Bool) (l : List Nat) (extra : Nat) : State :=
  if s.sspServes then
    let s := (s.emit (.ssp (toBytes [s.sspFirst]))).frameBegin mode3
    let a := l.getD 0 0 * 256 + l.getD 1 0
    let n := l.length - 2
    if l.length < 2 then s.frameErr 2
    else if 256 < n then s.frameErr 4
    else if n % 4 ≠ 0 ∨ extra ≠ 0 then s.frameErr 3
    else s.sspCommit inc a (wordsOf l 2 (n / 4))
  else s.notReady 0

def execSspRegisterWriteFrame (mode3 : Bool) (rsv : Nat) (inc : Bool) (bytes : List Byte) (bits : Nat) (s : State) :
    Host.Outcome State Fault Refusal :=
  ok (if s.sspServes && rsv != 0 then s.frameRsv mode3 bytes.length else s.sspWrite mode3 inc (ofBytes bytes) (bits % 8))

/-! ### Stream frames (R398 to R400) -/

/-- A packet is delivered: the firmware takes it at once where it runs, or it waits in its slot. -/
def State.sspDeliver (s : State) (p : List Nat) : State :=
  if s.serves .ssp then (s.setTag 0).packet .ssp p
  else if le2 p 2 = 0x7F00 then s.setSsp { s.ssp with abox := some p }
  else s.setSsp { s.ssp with inbox := s.ssp.inbox ++ [p] }

/-- The slot that a packet needs is occupied. -/
def State.slotTaken (s : State) (p : List Nat) : Bool :=
  if le2 p 2 = 0x7F00 then s.ssp.abox.isSome else decide (2 ≤ s.ssp.inbox.length)

def State.streamWrite (s : State) (mode3 : Bool) (p : List Nat) : State :=
  if s.sspServes then
    let s := (s.emit (.ssp (toBytes [s.sspFirst]))).frameBegin mode3
    if p = [] then s
    else if s.slotTaken p then (s.frameErr 5).bump SSP_RXDROP_COUNT
    else if 1344 < p.length then (s.frameErr 6).sspDeliver (p.take 1344)
    else s.sspDeliver p
  else s.notReady 0

/-- A frame that ends inside a byte delivers its bits right-aligned (R398). -/
def execSspStreamWriteFrame (mode3 : Bool) (rsv : Nat) (bytes : List Byte) (bits partialByte : Nat) (s : State) :
    Host.Outcome State Fault Refusal :=
  ok (if s.sspServes && rsv != 0 then s.frameRsv mode3 bytes.length else s.streamWrite mode3 (ofBytes bytes ++ (if bits % 8 = 0 then [] else [partialByte % 2 ^ (bits % 8)])))

/-- A stream read of `n` whole bytes after REMAIN (R399). -/
def State.streamRead (s : State) (mode3 : Bool) (n : Nat) : State :=
  if s.sspServes then
    let first := s.sspFirst
    let s := s.frameBegin mode3
    match s.ssp.outbox with
    | [] => s.emit (.ssp (toBytes ([first, 0, 0] ++ List.replicate n 0)))
    | p :: r =>
      let x := { s.ssp with outbox := if p.length ≤ n then r else p.drop n :: r }
      let s := s.setSsp (x.pump x.waiting.length)
      s.emit (.ssp (toBytes ([first] ++ beBytes 2 p.length ++ p.take n ++ List.replicate (n - p.length) 0)))
  else s.notReady (2 + n)

def execSspStreamReadFrame (mode3 : Bool) (rsv bytes : Nat) (s : State) : Host.Outcome State Fault Refusal :=
  ok (if s.sspServes && rsv != 0 then s.frameRsv mode3 (2 + bytes) else s.streamRead mode3 bytes)

/-- The firmware, or recovery, takes what waits in the inbox, the reserved slot first (R372, R398). -/
def State.inboxServe (s : State) : State :=
  if s.serves .ssp then
    let a := s.ssp.abox.toList ++ s.ssp.inbox
    a.foldl (fun s p => (s.setTag 0).packet .ssp p) (s.setSsp { s.ssp with inbox := [], abox := none })
  else s

def execBootSlotCheck (s : State) : Host.Outcome State Fault Refusal := ok s.bootCheck.inboxServe

/-! ### Flash window (R405 to R409) -/

def execXipRead (cluster : Bool) (addr : Nat) (s : State) : Host.Outcome State Fault Refusal :=
  ok (if s.isOn then s.xip (xipReq cluster) addr else s)

/-- The line fetched next: of the management core, of the cluster, then a sequential one (R406). -/
def Flash.nextLine (f : Flash) : Option (Nat × Bool) :=
  match f.misses.find? (fun m => !m.1) with
  | some m => some (m.2, true)
  | none => match f.misses.head? with
    | some m => some (m.2, true)
    | none => f.seqLine.map fun l => (l, false)

/-- A line enters the buffer of four; the least recently used goes (R406). -/
def Flash.hold (f : Flash) (line : Nat) : Flash :=
  let l := f.lines.filter (· != line)
  { f with lines := (if 4 ≤ l.length then l.drop 1 else l) ++ [line] }

/-- A line fetch ends, and the following line is asked for (R406, R407). -/
def State.lineDone (s : State) : State :=
  if s.flash.op ≠ [] ∧ s.flash.suspended = false then s
  else match s.flash.nextLine with
    | none => s
    | some (line, wanted) =>
      let f := s.flash.hold line
      let waiting := (f.misses.filter fun m => m.2 == line).length
      let next := line + 64
      let seq := if wanted then
          (if s.flag FLS_CTRL_SEQ && decide (next < s.flashBytes) && !f.lines.contains next then some next else none)
        else none
      let s := s.setFlash { f with misses := f.misses.filter fun m => m.2 != line, seqLine := seq }
      let s := s.setB FLS_STAT_CONT (s.get FLS_STAT_READ == 2)
      (List.range waiting).foldl (fun s _ => s.emit (.xip line)) s

def execXipLineFetchDone (s : State) : Host.Outcome State Fault Refusal := ok s.lineDone

/-- The suspended operation goes on once no miss waits (R408); its command ends continuous read (R407). -/
def State.resume (s : State) : State :=
  if s.flash.suspended && s.flash.misses == [] then
    (s.setFlash { s.flash with suspended := false }).set FLS_STAT_CONT 0
  else s

def execFlashResume (s : State) : Host.Outcome State Fault Refusal := ok s.resume

/-- The oldest program or erase ends, unless it is suspended (R409). -/
def State.opEnd (s : State) : State :=
  match s.flash.op with
  | [] => s
  | o :: _ => if s.flash.suspended then s else s.flashEnd o.1 o.2

def execFlashOperationDone (s : State) : Host.Outcome State Fault Refusal := ok s.opEnd

end Sys2Proof.Machine
end

