-- ==== Sys2Proof/Machine/Dispatch.lean ====
section
/-! DEFINITION. One arm per command: a direct call of its meaning. -/

namespace Sys2Proof.Machine

/-- The effect of a command on everything but the queue. -/
def exec (i : Instr) (s : State) : Host.Outcome State Fault Refusal :=
  match i with
  | .powerOn vio33 => Sys2Proof.Machine.execPowerOn vio33 s
  | .railGood => Sys2Proof.Machine.execRailGood s
  | .railFault rail => Sys2Proof.Machine.execRailFault rail s
  | .vinPowerFail => Sys2Proof.Machine.execVinPowerFail s
  | .dipSet vinMv => Sys2Proof.Machine.execDipSet vinMv s
  | .dipClear => Sys2Proof.Machine.execDipClear s
  | .watchdogExpiry => Sys2Proof.Machine.execWatchdogExpiry s
  | .swrst req key => Sys2Proof.Machine.execSwrst req key s
  | .debugReset => Sys2Proof.Machine.execDebugReset s
  | .resetRelease => Sys2Proof.Machine.execResetRelease s
  | .bootSlotCheck => Sys2Proof.Machine.execBootSlotCheck s
  | .configLoadDone => Sys2Proof.Machine.execConfigLoadDone s
  | .chainListenTimeout => Sys2Proof.Machine.execChainListenTimeout s
  | .readyEntry => Sys2Proof.Machine.execReadyEntry s
  | .powerupCalStart => Sys2Proof.Machine.execPowerupCalStart s
  | .powerupCalRetry => Sys2Proof.Machine.execPowerupCalRetry s
  | .glbRunWrite req run => Sys2Proof.Machine.execGlbRunWrite req run s
  | .glbCtrlSafe req => Sys2Proof.Machine.execGlbCtrlSafe req s
  | .frameBoundary => Sys2Proof.Machine.execFrameBoundary s
  | .rowGroupSlot tile raw => Sys2Proof.Machine.execRowGroupSlot tile raw s
  | .spareHandover tile spare sliceCode spareCode newGain newOfs => Sys2Proof.Machine.execSpareHandover tile spare sliceCode spareCode newGain newOfs s
  | .rowGroupReceive tile rx overflow => Sys2Proof.Machine.execRowGroupReceive tile rx overflow s
  | .alignBlock tile frame headerOk => Sys2Proof.Machine.execAlignBlock tile frame headerOk s
  | .tetherRealign tile => Sys2Proof.Machine.execTetherRealign tile s
  | .tetherRealignTimeout tile => Sys2Proof.Machine.execTetherRealignTimeout tile s
  | .rowGroupRelease tile occ errs => Sys2Proof.Machine.execRowGroupRelease tile occ errs s
  | .controlLaneMessage => Sys2Proof.Machine.execControlLaneMessage s
  | .controlLaneLoss => Sys2Proof.Machine.execControlLaneLoss s
  | .controlLaneRelock => Sys2Proof.Machine.execControlLaneRelock s
  | .stageSensorRead readings => Sys2Proof.Machine.execStageSensorRead readings s
  | .tsExclude idx => Sys2Proof.Machine.execTsExclude idx s
  | .tsReadmit idx => Sys2Proof.Machine.execTsReadmit idx s
  | .stageLock => Sys2Proof.Machine.execStageLock s
  | .stageUnreg => Sys2Proof.Machine.execStageUnreg s
  | .stageUnregClear => Sys2Proof.Machine.execStageUnregClear s
  | .stgCtrlWrite req v => Sys2Proof.Machine.execStgCtrlWrite req v s
  | .stgFrateWrite req v => Sys2Proof.Machine.execStgFrateWrite req v s
  | .stgBiasWrite req v => Sys2Proof.Machine.execStgBiasWrite req v s
  | .stgSetptWrite req v => Sys2Proof.Machine.execStgSetptWrite req v s
  | .tilGainWrite req tile v => Sys2Proof.Machine.execTilGainWrite req tile v s
  | .tilPtdataWrite req tile v => Sys2Proof.Machine.execTilPtdataWrite req tile v s
  | .tilSkimWrite req tile idx v => Sys2Proof.Machine.execTilSkimWrite req tile idx v s
  | .tilScal req tile => Sys2Proof.Machine.execTilScal req tile s
  | .scalComplete tile factors => Sys2Proof.Machine.execScalComplete tile factors s
  | .tilRotenWrite req tile en => Sys2Proof.Machine.execTilRotenWrite req tile en s
  | .tilCfdataWrite req tile v => Sys2Proof.Machine.execTilCfdataWrite req tile v s
  | .tilPark req tile slice spare => Sys2Proof.Machine.execTilPark req tile slice spare s
  | .tilRelease req tile spare => Sys2Proof.Machine.execTilRelease req tile spare s
  | .tilResync req tile => Sys2Proof.Machine.execTilResync req tile s
  | .corV0Write req v => Sys2Proof.Machine.execCorV0Write req v s
  | .corOflip req v => Sys2Proof.Machine.execCorOflip req v s
  | .corBlendStart req frames => Sys2Proof.Machine.execCorBlendStart req frames s
  | .corBlendAbort req => Sys2Proof.Machine.execCorBlendAbort req s
  | .corLanexWrite req j v => Sys2Proof.Machine.execCorLanexWrite req j v s
  | .calTriggerEval => Sys2Proof.Machine.execCalTriggerEval s
  | .calGo req => Sys2Proof.Machine.execCalGo req s
  | .calGrantTimeout => Sys2Proof.Machine.execCalGrantTimeout s
  | .calDeferredRetry => Sys2Proof.Machine.execCalDeferredRetry s
  | .lyFlagClosed w => Sys2Proof.Machine.execLyFlagClosed w s
  | .lyFlagOpen w => Sys2Proof.Machine.execLyFlagOpen w s
  | .flagCloseTimeout => Sys2Proof.Machine.execFlagCloseTimeout s
  | .calSettleEnd => Sys2Proof.Machine.execCalSettleEnd s
  | .calCaptureEnd => Sys2Proof.Machine.execCalCaptureEnd s
  | .calComputeDone => Sys2Proof.Machine.execCalComputeDone s
  | .flagStuck => Sys2Proof.Machine.execFlagStuck s
  | .calResumeEnd => Sys2Proof.Machine.execCalResumeEnd s
  | .calSlotCopyDone => Sys2Proof.Machine.execCalSlotCopyDone s
  | .trimHandoffTimeout => Sys2Proof.Machine.execTrimHandoffTimeout s
  | .calAbort req => Sys2Proof.Machine.execCalAbort req s
  | .grefStart req => Sys2Proof.Machine.execGrefStart req s
  | .grefWindow1End => Sys2Proof.Machine.execGrefWindow1End s
  | .grefSettled => Sys2Proof.Machine.execGrefSettled s
  | .grefSettleTimeout => Sys2Proof.Machine.execGrefSettleTimeout s
  | .grefWindow2End => Sys2Proof.Machine.execGrefWindow2End s
  | .grefDone => Sys2Proof.Machine.execGrefDone s
  | .gapply req => Sys2Proof.Machine.execGapply req s
  | .sliceComplete errs => Sys2Proof.Machine.execSliceComplete errs s
  | .verdictIssue errs refused => Sys2Proof.Machine.execVerdictIssue errs refused s
  | .brdParamWrite req addr v => Sys2Proof.Machine.execBrdParamWrite req addr v s
  | .brdTableComputeDone => Sys2Proof.Machine.execBrdTableComputeDone s
  | .brdUnlayWrite req v => Sys2Proof.Machine.execBrdUnlayWrite req v s
  | .brdSwitch req v => Sys2Proof.Machine.execBrdSwitch req v s
  | .brdRestart req => Sys2Proof.Machine.execBrdRestart req s
  | .brdTrackEval => Sys2Proof.Machine.execBrdTrackEval s
  | .kntThrWrite req v => Sys2Proof.Machine.execKntThrWrite req v s
  | .vrdSwitch req => Sys2Proof.Machine.execVrdSwitch req s
  | .mapsw req => Sys2Proof.Machine.execMapsw req s
  | .qflush req => Sys2Proof.Machine.execQflush req s
  | .ejsStagedWrite req addr v => Sys2Proof.Machine.execEjsStagedWrite req addr v s
  | .firingOpen ch => Sys2Proof.Machine.execFiringOpen ch s
  | .tokenGrant => Sys2Proof.Machine.execTokenGrant s
  | .tokenDeadline ch => Sys2Proof.Machine.execTokenDeadline ch s
  | .peakEnd ch => Sys2Proof.Machine.execPeakEnd ch s
  | .peakTimeout ch imeas => Sys2Proof.Machine.execPeakTimeout ch imeas s
  | .holdEntry ch => Sys2Proof.Machine.execHoldEntry ch s
  | .chopPeriod bank currents => Sys2Proof.Machine.execChopPeriod bank currents s
  | .firingClose ch => Sys2Proof.Machine.execFiringClose ch s
  | .currentZero ch => Sys2Proof.Machine.execCurrentZero ch s
  | .coilThermalUpdate i2 => Sys2Proof.Machine.execCoilThermalUpdate i2 s
  | .openingKink ch t fall => Sys2Proof.Machine.execOpeningKink ch t fall s
  | .closingKink ch t reversal => Sys2Proof.Machine.execClosingKink ch t reversal s
  | .positionEdge input level => Sys2Proof.Machine.execPositionEdge input level s
  | .openingWindowEnd ch => Sys2Proof.Machine.execOpeningWindowEnd ch s
  | .closingWindowEnd ch => Sys2Proof.Machine.execClosingWindowEnd ch s
  | .overcurrent ch => Sys2Proof.Machine.execOvercurrent ch s
  | .drainShort ch => Sys2Proof.Machine.execDrainShort ch s
  | .railNodeShort bank => Sys2Proof.Machine.execRailNodeShort bank s
  | .railStuckHigh bank => Sys2Proof.Machine.execRailStuckHigh bank s
  | .boostMeasure vbst => Sys2Proof.Machine.execBoostMeasure vbst s
  | .vlvClrflt req ch => Sys2Proof.Machine.execVlvClrflt req ch s
  | .vbkClrflt req bank => Sys2Proof.Machine.execVbkClrflt req bank s
  | .driveEnableWrite req addr v => Sys2Proof.Machine.execDriveEnableWrite req addr v s
  | .lyEnergise req on => Sys2Proof.Machine.execLyEnergise req on s
  | .lyClrflt req => Sys2Proof.Machine.execLyClrflt req s
  | .vvalThreshold cond set => Sys2Proof.Machine.execVvalThreshold cond set s
  | .budgetEval iBase iTotal => Sys2Proof.Machine.execBudgetEval iBase iTotal s
  | .overbudgetRelease => Sys2Proof.Machine.execOverbudgetRelease s
  | .pwrBudprioWrite req v => Sys2Proof.Machine.execPwrBudprioWrite req v s
  | .thermalSample tl tp => Sys2Proof.Machine.execThermalSample tl tp s
  | .thermalLevelEnter die level => Sys2Proof.Machine.execThermalLevelEnter die level s
  | .thermalLevelLeave die level => Sys2Proof.Machine.execThermalLevelLeave die level s
  | .throttleStep2 die => Sys2Proof.Machine.execThrottleStep2 die s
  | .thmRestart req => Sys2Proof.Machine.execThmRestart req s
  | .autoRestart => Sys2Proof.Machine.execAutoRestart s
  | .thermalSensorExclude die idx => Sys2Proof.Machine.execThermalSensorExclude die idx s
  | .thermalSensorReadmit die idx => Sys2Proof.Machine.execThermalSensorReadmit die idx s
  | .dramTempRead rate => Sys2Proof.Machine.execDramTempRead rate s
  | .hkaConversion codes => Sys2Proof.Machine.execHkaConversion codes s
  | .rtdStale => Sys2Proof.Machine.execRtdStale s
  | .hkaScalStart req => Sys2Proof.Machine.execHkaScalStart req s
  | .hkaScalDone gain ofs => Sys2Proof.Machine.execHkaScalDone gain ofs s
  | .heaterPeriodStart out => Sys2Proof.Machine.execHeaterPeriodStart out s
  | .heaterOutputOff out => Sys2Proof.Machine.execHeaterOutputOff out s
  | .preheatWindowEnd => Sys2Proof.Machine.execPreheatWindowEnd s
  | .backdropLoopUpdate => Sys2Proof.Machine.execBackdropLoopUpdate s
  | .loopCtrlWrite req v => Sys2Proof.Machine.execLoopCtrlWrite req v s
  | .loopClear req ph bk => Sys2Proof.Machine.execLoopClear req ph bk s
  | .scrubWriteback => Sys2Proof.Machine.execScrubWriteback s
  | .bightStart errs => Sys2Proof.Machine.execBightStart errs s
  | .bightDone fail => Sys2Proof.Machine.execBightDone fail s
  | .bightRestoreDone => Sys2Proof.Machine.execBightRestoreDone s
  | .bightSkip => Sys2Proof.Machine.execBightSkip s
  | .memRetctlWrite req v => Sys2Proof.Machine.execMemRetctlWrite req v s
  | .retentionWake group => Sys2Proof.Machine.execRetentionWake group s
  | .tableMemoryReload table ok => Sys2Proof.Machine.execTableMemoryReload table ok s
  | .hartenWrite req harten => Sys2Proof.Machine.execHartenWrite req harten s
  | .hartOffline h => Sys2Proof.Machine.execHartOffline h s
  | .appweWrite req v => Sys2Proof.Machine.execAppweWrite req v s
  | .registerWrite req addr size v also hwSet => Sys2Proof.Machine.execRegisterWrite req addr size v also hwSet s
  | .loWordRead req addr wide also => Sys2Proof.Machine.execLoWordRead req addr wide also s
  | .tableDataRead req => Sys2Proof.Machine.execTableDataRead req s
  | .tableDataWrite req v also => Sys2Proof.Machine.execTableDataWrite req v also s
  | .counterClear req addr => Sys2Proof.Machine.execCounterClear req addr s
  | .mbxSend req c dir => Sys2Proof.Machine.execMbxSend req c dir s
  | .mbxPop req c dir => Sys2Proof.Machine.execMbxPop req c dir s
  | .evtForce req g v => Sys2Proof.Machine.execEvtForce req g v s
  | .evtCntclr req => Sys2Proof.Machine.execEvtCntclr req s
  | .evtClrall req same => Sys2Proof.Machine.execEvtClrall req same s
  | .evtPinPulseEnd idx => Sys2Proof.Machine.execEvtPinPulseEnd idx s
  | .logPageCopy => Sys2Proof.Machine.execLogPageCopy s
  | .regRead h addr count => Sys2Proof.Machine.execRegRead h addr count s
  | .regWrite h addr words => Sys2Proof.Machine.execRegWrite h addr words s
  | .regModify h addr mask value => Sys2Proof.Machine.execRegModify h addr mask value s
  | .start h => Sys2Proof.Machine.execStart h s
  | .stop h => Sys2Proof.Machine.execStop h s
  | .safe h => Sys2Proof.Machine.execSafe h s
  | .restart h => Sys2Proof.Machine.execRestart h s
  | .reset h key => Sys2Proof.Machine.execReset h key s
  | .status h => Sys2Proof.Machine.execStatus h s
  | .opQuery h => Sys2Proof.Machine.execOpQuery h s
  | .identify h => Sys2Proof.Machine.execIdentify h s
  | .calRun h => Sys2Proof.Machine.execCalRun h s
  | .calGref h => Sys2Proof.Machine.execCalGref h s
  | .calGapply h => Sys2Proof.Machine.execCalGapply h s
  | .convScal h tiles => Sys2Proof.Machine.execConvScal h tiles s
  | .hkaScal h => Sys2Proof.Machine.execHkaScal h s
  | .loadTable h id addr words => Sys2Proof.Machine.execLoadTable h id addr words s
  | .readTable h id addr count => Sys2Proof.Machine.execReadTable h id addr count s
  | .saveTables h => Sys2Proof.Machine.execSaveTables h s
  | .saveTablesDone => Sys2Proof.Machine.execSaveTablesDone s
  | .restoreTables h => Sys2Proof.Machine.execRestoreTables h s
  | .restoreTablesDone => Sys2Proof.Machine.execRestoreTablesDone s
  | .tapGrab h count => Sys2Proof.Machine.execTapGrab h count s
  | .tapRead h index offset len => Sys2Proof.Machine.execTapRead h index offset len s
  | .sessionOpen h nonce => Sys2Proof.Machine.execSessionOpen h nonce s
  | .sessionClose h => Sys2Proof.Machine.execSessionClose h s
  | .sessionIdleExpiry src => Sys2Proof.Machine.execSessionIdleExpiry src s
  | .setDevkey h key => Sys2Proof.Machine.execSetDevkey h key s
  | .updBegin h size => Sys2Proof.Machine.execUpdBegin h size s
  | .updEraseDone => Sys2Proof.Machine.execUpdEraseDone s
  | .updData h offset data => Sys2Proof.Machine.execUpdData h offset data s
  | .updVerify h => Sys2Proof.Machine.execUpdVerify h s
  | .updVerifyDone => Sys2Proof.Machine.execUpdVerifyDone s
  | .updActivate h slot => Sys2Proof.Machine.execUpdActivate h slot s
  | .updStatus h => Sys2Proof.Machine.execUpdStatus h s
  | .logInfo h => Sys2Proof.Machine.execLogInfo h s
  | .logRead h seq count => Sys2Proof.Machine.execLogRead h seq count s
  | .chnInfo h => Sys2Proof.Machine.execChnInfo h s
  | .chnMaster h => Sys2Proof.Machine.execChnMaster h s
  | .abort h opcode seq => Sys2Proof.Machine.execAbort h opcode seq s
  | .replyCacheExpiry src => Sys2Proof.Machine.execReplyCacheExpiry src s
  | .forwardTimeout src seq => Sys2Proof.Machine.execForwardTimeout src seq s
  | .ethFrameReceive f errs => Sys2Proof.Machine.execEthFrameReceive f errs s
  | .dhcpMessage m => Sys2Proof.Machine.execDhcpMessage m s
  | .ptpMessage residual ptpTime => Sys2Proof.Machine.execPtpMessage residual ptpTime s
  | .ptpSyncTimeout => Sys2Proof.Machine.execPtpSyncTimeout s
  | .ptpReofs req => Sys2Proof.Machine.execPtpReofs req s
  | .phyStatusPoll link speed fdx => Sys2Proof.Machine.execPhyStatusPoll link speed fdx s
  | .mdioGo req v => Sys2Proof.Machine.execMdioGo req v s
  | .mdioAccessDone data => Sys2Proof.Machine.execMdioAccessDone data s
  | .sspRegisterReadFrame mode3 rsv inc addr words => Sys2Proof.Machine.execSspRegisterReadFrame mode3 rsv inc addr words s
  | .sspRegisterWriteFrame mode3 rsv inc bytes bits => Sys2Proof.Machine.execSspRegisterWriteFrame mode3 rsv inc bytes bits s
  | .sspStreamWriteFrame mode3 rsv bytes bits partialByte => Sys2Proof.Machine.execSspStreamWriteFrame mode3 rsv bytes bits partialByte s
  | .sspStreamReadFrame mode3 rsv bytes => Sys2Proof.Machine.execSspStreamReadFrame mode3 rsv bytes s
  | .xipRead cluster addr => Sys2Proof.Machine.execXipRead cluster addr s
  | .xipLineFetchDone => Sys2Proof.Machine.execXipLineFetchDone s
  | .flashResume => Sys2Proof.Machine.execFlashResume s
  | .flashOperationDone => Sys2Proof.Machine.execFlashOperationDone s
  | .chainLinkUp port info => Sys2Proof.Machine.execChainLinkUp port info s
  | .chainLinkDown port => Sys2Proof.Machine.execChainLinkDown port s
  | .timeMessage crc m => Sys2Proof.Machine.execTimeMessage crc m s
  | .chainSyncPulse port => Sys2Proof.Machine.execChainSyncPulse port s
  | .hitchSlewStep => Sys2Proof.Machine.execHitchSlewStep s
  | .chainPulseMissing => Sys2Proof.Machine.execChainPulseMissing s
  | .chainRejoin => Sys2Proof.Machine.execChainRejoin s
  | .handover crc sender give => Sys2Proof.Machine.execHandover crc sender give s
  | .grantReq crc sender stamp => Sys2Proof.Machine.execGrantReq crc sender stamp s
  | .grant crc target boundary => Sys2Proof.Machine.execGrant crc target boundary s
  | .release crc sender => Sys2Proof.Machine.execRelease crc sender s
  | .grantMaxTimeout => Sys2Proof.Machine.execGrantMaxTimeout s
  | .echo crc port roundTrip => Sys2Proof.Machine.execEcho crc port roundTrip s
  | .echoPeriod => Sys2Proof.Machine.execEchoPeriod s
  | .baindForward crc reply h opcode payload => Sys2Proof.Machine.execBaindForward crc reply h opcode payload s
  | .splice crc r => Sys2Proof.Machine.execSplice crc r s
  | .takemst req => Sys2Proof.Machine.execTakemst req s
  | .chnResync req => Sys2Proof.Machine.execChnResync req s
  | .tmxBlindWrite req v => Sys2Proof.Machine.execTmxBlindWrite req v s
  | .tmxTpctlWrite req v => Sys2Proof.Machine.execTmxTpctlWrite req v s
  | .tmxTpdataWrite req v => Sys2Proof.Machine.execTmxTpdataWrite req v s
  | .bscanenWrite req v => Sys2Proof.Machine.execBscanenWrite req v s
  | .jtagInstruction idx => Sys2Proof.Machine.execJtagInstruction idx s
  | .debugHalt h step => Sys2Proof.Machine.execDebugHalt h step s
  | .tetherBlockLockLoss tile => Sys2Proof.Machine.execTetherBlockLockLoss tile s
  | .firmwareFault => Sys2Proof.Machine.execFirmwareFault s
  | .dhcpLeaseTimer t => Sys2Proof.Machine.execDhcpLeaseTimer t s
  | .causeLatchLoss => Sys2Proof.Machine.execCauseLatchLoss s

end Sys2Proof.Machine
end

