-- ==== Sys2Proof/Machine/Flags.lean ====
section
/-! DEFINITION. What the pads and the interrupt lines show, as functions of State (spec/ file 17, R442; file 13, R345,
R352 to R354; file 09, R246). The block has no arithmetic flags. -/

namespace Sys2Proof.Machine

open Reg

/-! ### Interrupt lines (R345, R352, R353) -/

/-- The one interrupt of the management core: a source is active for destination 0. -/
def State.mgmtIrq (s : State) : Bool := s.evtSum 0 != 0

/-! ### Pads (R442) -/

/-- What a pad does: high-impedance, driven low or high, chopped by the drive, or driven by its port. -/
inductive Pad where
  | z
  | low
  | high
  | chopped
  | driven
  deriving DecidableEq, Repr

/-- The columns of R442. -/
inductive PadState where
  | unpowered
  | reset
  | boot
  | running
  | safe
  | shutdown
  deriving DecidableEq, Repr

/-- The column that holds now: rails that rise count as reset, and thermal shutdown stands beside the safe state. -/
def State.padState (s : State) : PadState :=
  match s.power.phase with
  | .unpowered => .unpowered
  | .sequencing _ => .reset
  | .held => .reset
  | .on => if s.mode = 0 then .boot else if s.mode = 4 then .safe else if s.mode = 5 then .shutdown else .running

def levelPad (b : Bool) : Pad := if b then .high else .low

/-- VLG of channel `c`, or as 128 LYLG: in peak or fallback on; in hold chopped, or on for a leader whose bank's supply
switch chops (R246); on in a slow decay (R239). The pads of the NK1024's absent channels stay high-impedance (R5). -/
def State.padGate (s : State) (c : Nat) : Pad :=
  if s.nChans ≤ c ∧ c ≠ 128 then .z
  else
    match s.padState with
    | .unpowered => .z
    | .reset => .z
    | .running =>
      let k := s.get (if c = 128 then ARB_LYSTAT_STATE else VLV_STAT_STATE c)
      let d := mget Drive.init s.valves.drives c
      if k = 2 ∨ k = 3 then .high else if k = 4 then (if d.chop = 2 then .high else .chopped) else levelPad d.slow
    | _ => .low

/-- The rail that a bank's switches give: 0 off, 1 chopped, 2 VBST, 3 VVAL continuous; bank 16 is LY's (R246). -/
def State.railNow (s : State) (b : Nat) : Nat :=
  if b = 16 then
    let k := s.get ARB_LYSTAT_STATE
    if k = 2 then 2 else if k = 3 then 3 else if k = 4 then 1 else 0
  else if s.nBanks ≤ b then 0
  else s.get (VBK_STAT_RAIL b)

/-- VBS of bank `b`, or as 16 LYBS: the gate pull of the supply switch sinks while the switch is on (R246, R442). -/
def State.padSupply (s : State) (b : Nat) : Pad :=
  match s.padState with
  | .running => if s.railNow b = 3 then .low else if s.railNow b = 1 then .chopped else .z
  | _ => .z

/-- VBB of bank `b`, or as 16 LYBB: the gate pull of the boost switch (R246, R442). -/
def State.padBoostSw (s : State) (b : Nat) : Pad :=
  match s.padState with
  | .running => if s.railNow b = 2 then .low else .z
  | _ => .z

/-- The boost controller switches: enabled, VBST not above SET, no overvoltage (R238, R239). -/
def State.boostRuns (s : State) : Bool :=
  s.flag ARB_BOOST_EN && decide (s.get ARB_BSTMEAS_VBST ≤ s.get ARB_BOOST_SET) && !s.flag ARB_BSTMEAS_OV

/-- BSTG (R238, R442). -/
def State.padBoost (s : State) : Pad :=
  match s.padState with
  | .unpowered => .z
  | .reset => .z
  | .running => if s.boostRuns then .chopped else .low
  | _ => .low

/-- FAULT_N, open drain. Through a reset it is low while VHK is good, which it is with the rails on. -/
def State.padFault (s : State) : Pad :=
  match s.padState with
  | .unpowered => .z
  | .reset => if s.power.phase = .held then .low else .z
  | _ => if s.flag GLB_STAT_FAULT then .low else .z

/-- PHT0 to PHT3 and, as 4, BKD0; in shutdown BKD0 stays under control (R311). -/
def State.padHeater (s : State) (o : Nat) : Pad :=
  match s.padState with
  | .safe => .low
  | .running => levelPad (bitOf s.loops.high o)
  | .shutdown => if o = 4 then levelPad (bitOf s.loops.high o) else .low
  | _ => .z

/-- EVTi: high-impedance until boot has ended, and with EN = 0; POL = 1 makes it active low (R354). -/
def State.padEvt (s : State) (i : Nat) : Pad :=
  match s.padState with
  | .unpowered => .z
  | .reset => .z
  | .boot => .z
  | _ =>
    if s.flag (pinEn i) then levelPad (s.pinActive i != s.flag { EVT_PINCFG_POL0 with lo := 4 * i + 1 }) else .z

/-- The flash pads. -/
def State.padFlash (s : State) : Pad :=
  match s.padState with
  | .unpowered => .z
  | .reset => .z
  | _ => .driven

/-- MDC and MDIO. -/
def State.padMdio (s : State) : Pad := s.padFlash

/-- RGMII transmit control. -/
def State.padTxCtl (s : State) : Pad :=
  match s.padState with
  | .unpowered => .z
  | .reset => .z
  | .boot => .low
  | _ => .driven

/-- Chain outputs: driven once the chain ports start, at the end of boot. -/
def State.padChain (s : State) : Pad :=
  match s.padState with
  | .unpowered => .z
  | .reset => .z
  | .boot => .z
  | _ => .driven

/-! ### Test multiplexers and boundary scan (R451 to R455) -/

/-- ATM0 or ATM1 carries its node, an analogue value, while it is enabled (R451). -/
def State.padAtm (s : State) (i : Nat) : Pad :=
  match s.padState with
  | .unpowered => .z
  | .reset => .z
  | .boot => .z
  | _ => if s.flag (if i = 0 then TMX_ASEL_EN0 else TMX_ASEL_EN1) then .driven else .z

/-- Values of given widths side by side, the first lowest. -/
def packBits (l : List (Nat × Nat)) : Nat := l.foldr (fun p r => p.1 % 2 ^ p.2 + 2 ^ p.2 * r) 0

/-- A signal that State shows as a bit, and `strobes` that are high only while something happens. -/
def bit1 (b : Bool) : Nat × Nat := (b2n b, 1)
def strobes (n : Nat) : Nat × Nat := (0, n)

/-- The 16 signals of the selected group between two commands, DTM0 lowest (R453). What happens inside a command shows as
no level here: strobes are low, and so is what the drive chops. Group 1 lists 17 signals, of which the last, SWAP, has no
pin (log entry 100). -/
def State.dtm (s : State) : Nat :=
  let n := s.get TMX_OBJ_TILE
  let b := s.get TMX_OBJ_BANK
  let c := s.get TMX_OBJ_CH
  let k := s.get (VLV_STAT_STATE c)
  let rail := s.railNow b
  let cal := s.get CAL_STATUS_PHASE
  packBits (match s.get TMX_DSEL_GROUP with
    | 0 => [strobes 2, (s.slotNow, 4), strobes 3, bit1 (s.flag CHN_STAT_HITCH), bit1 (s.flag CAL_STATUS_BLIND),
        bit1 ((s.tile n).settle != 0), strobes 1, bit1 (s.flag KNT_STAT_FULL), strobes 2]
    | 1 => [bit1 (s.flag (TIL_TXSTAT_LOCK n)), bit1 (s.flag (TIL_TXSTAT_ALIGNED n)), strobes 6, (s.get (TIL_TXSTAT_OCC n), 6),
        bit1 (!s.sensor.laneLost), bit1 (!s.sensor.laneLost)]
    | 2 => [(s.get ARB_STAT_TOKENS, 6), (s.get ARB_STAT_FBUSED, 6), strobes 2, bit1 (s.flag ARB_BSTMEAS_READY),
        bit1 (s.flag ARB_STAT_DIPCUT)]
    | 3 => [(rail, 2), bit1 (rail == 3), bit1 (rail == 2), (s.get (VBK_STAT_PEAKING b), 8), bit1 (s.flag (VBK_STAT_LEADVALID b)),
        bit1 (mget 0 s.valves.obs b != 0), strobes 1, bit1 (s.flag (VBK_STAT_BKFLT b))]
    | 4 => [(k, 3), bit1 (s.padGate c == .high), strobes 5, bit1 (s.flag (VLV_STAT_CWARN c)), bit1 (s.flag (VLV_STAT_CLIMIT c)),
        strobes 1, bit1 (s.get (VLV_STAT_QOCC c) != 0), bit1 (k != 0), bit1 (k == 2), bit1 (s.flag (VLV_STAT_CHFLT c))]
    | 5 => [(cal, 4), bit1 (s.flag CAL_STATUS_BLIND), bit1 (s.padGate 128 == .high), bit1 (s.flag ARB_LYSTAT_CLOSED),
        bit1 (s.flag ARB_LYSTAT_OPEN), bit1 (s.flag COR_BLEND_BUSY), strobes 3, bit1 (s.chain.asked && cal == 1),
        bit1 (s.chain.asked && cal != 1), bit1 (s.flag PWR_STAT_DIP), bit1 (s.flag GLB_STAT_UNSYNC)]
    | 6 => [bit1 (s.flag MEM_TESTPOS_ACTIVE), strobes 5, (s.get MEM_TESTPOS_BANK, 6), strobes 2, bit1 (s.flag MEM_DDRSTAT_SELFREF),
        bit1 (s.flag ETH_PTPSTAT_LOCK)]
    | _ => [(s.get GLB_CORECTL_HARTON, 4), strobes 5, (1, 1), bit1 (s.flash.misses != []), bit1 s.flash.suspended, strobes 2,
        (s.get THM_STAT_STEP, 2)])

/-- DTMi (R453). -/
def State.padDtm (s : State) (i : Nat) : Pad :=
  match s.padState with
  | .unpowered => .z
  | .reset => .z
  | .boot => .z
  | _ => if s.flag TMX_DSEL_EN then levelPad (bitOf s.dtm i) else .z

/-- A pad of the logic die or the power die under the TAP: HIGHZ floats it, and EXTEST and CLAMP drive it from the
boundary-scan register, whose bits no command carries (R455). SSP_MISO and TDO are driven only while a frame or a scan
shifts, which is within one command (R388, R442). -/
def State.scanned (s : State) (p : Pad) : Pad :=
  if s.isOn then
    match s.tmx.jtag with
    | .highz => .z
    | .extest => .driven
    | .clamp => .driven
    | _ => p
  else p

end Sys2Proof.Machine
end

