-- ==== Sys2Proof/Safety.lean ====
section
/-! DEFINITION. What counts as a safe state of the block, in the terms that claims use. -/

namespace Sys2Proof

open Sys2Proof.Machine Sys2Proof.Machine.Reg

/-- A saved set of tables holds its maps in canonical form. -/
def savedWf (x : SavedSet) : Bool := mwf 0 x.pb && mwf 0 x.cls && mwf 0 x.map

/-- The maps of what the processors reach are in canonical form. -/
def busWf (b : Bus) : Bool := mwf 0 b.ram && mwf 0 b.timers && mwf 0 b.prio && mwf 0 b.enable && mwf 0 b.thresh

/-- Every sparse map that holds register fields, memory words or bytes is in its canonical form: keys strictly rising,
and nothing listed that reads as an unlisted key does (of the registers, whose unlisted fields read as their own reset
values, keys strictly rising). -/
def mapsWf (s : State) : Bool :=
  mkeysRising s.regs && mwf Win.init s.wins && mwf MbxChan.init s.mbx && mwf LogEntry.zero s.evt.ring
    && mwf 0 s.corr.pb && mwf 0 s.sched.cls && mwf 0 s.sched.map && mwf 0xFFFF s.braid.ub && mwf 0 s.fb
    && busWf s.bus && s.flash.saved.all savedWf && s.flash.saving.all savedWf

/-- GLB_STAT.STATE is one of the six of R427. -/
def modeLegal (s : State) : Prop := s.mode ≤ 5

/-- No gate output is on (R434, R439, R442). -/
def valvesClosed (s : State) : Prop := ∀ c, c < 128 → s.padGate c = .z ∨ s.padGate c = .low

/-- No preheat or backdrop output is on. -/
def heatersOff (s : State) : Prop := ∀ o, o < 5 → s.padHeater o = .z ∨ s.padHeater o = .low

end Sys2Proof

namespace Sys2Proof.Machine

/-- The block of R342 that holds a register field. -/
def Fld.block (f : Fld) : Nat := blockOf (f.key / 32)

/-- A field that no event touches: outside block EVT, and not the count of aborted memory tests. -/
abbrev Fld.noEvt (g : Fld) : Prop :=
  (g.key < 32 * 0x400 ∨ 32 * 0x1000 ≤ g.key) ∧ g.key ≠ Reg.MEM_TESTABORTS_COUNT.key

/-! ### The blocks of R342 by number -/

namespace Blk

abbrev GLB : Nat := 0
abbrev EVT : Nat := 1
abbrev PWR : Nat := 2
abbrev THM : Nat := 3
abbrev HKA : Nat := 4
abbrev STG : Nat := 5
abbrev TIL : Nat := 6
abbrev COR : Nat := 7
abbrev CAL : Nat := 8
abbrev BRD : Nat := 9
abbrev KNT : Nat := 10
abbrev VRD : Nat := 11
abbrev EJS : Nat := 12
abbrev VLV : Nat := 13
abbrev VBK : Nat := 14
abbrev ARB : Nat := 15
abbrev MEM : Nat := 16
/-- SSP and FLS -/
abbrev SSP : Nat := 17
abbrev ETH : Nat := 18
abbrev CHN : Nat := 19
abbrev LOOP : Nat := 20
abbrev TMX : Nat := 21
abbrev MBX : Nat := 22

end Blk

/-! ### What a command leaves of the registers -/

/-- Every register field reads as before but the listed ones. -/
def regsBut (l : List Fld) (s t : State) : Prop := ∀ f : Fld, (∀ g ∈ l, f.key ≠ g.key) → t.get f = s.get f

/-- Every register field reads as before but the listed ones and those that an event touches. -/
def regsButEvt (l : List Fld) (s t : State) : Prop :=
  ∀ f : Fld, f.noEvt → (∀ g ∈ l, f.key ≠ g.key) → t.get f = s.get f

/-- Every register field outside the listed blocks reads as before but the listed fields. -/
def regsOutside (bs : List Nat) (l : List Fld) (s t : State) : Prop :=
  ∀ f : Fld, f.block ∉ bs → (∀ g ∈ l, f.key ≠ g.key) → t.get f = s.get f

/-- A source that exists and is enabled has its status bit set (R349). -/
def raisedIn (src : Nat) (s t : State) : Prop :=
  s.srcExists src = true → s.srcEnabled src = true → t.srcStatus src = true

end Sys2Proof.Machine
end

