-- ==== Sys2Proof/Certificates/Slice0/Obligations.lean ====
section
/-! DEFINITION. The statements about the model: one proposition each, in the order of OBLIGATIONS.json. -/

namespace Sys2Proof

open Sys2Proof.Machine Sys2Proof.Machine.Reg

/-- What the calibration manager shows of its phase and its last result. -/
def calResFlds : List Fld :=
  [CAL_STATUS_PHASE, CAL_STATUS_COMPUTE, CAL_STATUS_PENDING, CAL_ABORTS_COUNT, CAL_LASTRESULT_CODE,
  CAL_LASTRESULT_TRIG, CAL_LASTRESULT_ORPHAN, CAL_LASTRESULT_TRIMDROP, CAL_GREF_BUSY]

/-- What the arbiter and LY show of the drive. -/
def driveFlds : List Fld :=
  [ARB_STAT_TOKENS, ARB_STAT_FBUSED, ARB_STAT_NEFF, ARB_STAT_DIPCUT, ARB_TOKMAX_MAX, ARB_LYCTRL_ENERGISE,
  ARB_LYSTAT_STATE, ARB_LYSTAT_CLOSED]

/-- What a reply sent out changes in the counts of its port. -/
def boxFlds : List Fld :=
  [SSP_BOX_INSLOTS, SSP_BOX_ABSLOT, SSP_BOX_OUTBYTES, ETH_TXCNT_COUNT]

/-- What a blend shows. -/
def blendFlds : List Fld :=
  [COR_STAT_BLENDING, COR_STAT_REVERSING, COR_BLEND_K, COR_BLEND_BUSY]

/-- What CHN_GRANTSTAT shows. -/
def grantFlds : List Fld :=
  [CHN_GRANTSTAT_HOLDER, CHN_GRANTSTAT_HELD, CHN_GRANTSTAT_QUEUE]

/-! ### Shared parts of the statements -/

/-- What switching every output off may write outside the blocks VLV and VBK. -/
def offFlds : List Fld := [EJS_QOCC_MAX, EJS_QOCC_MAXCH, ARB_STAT_TOKENS, ARB_STAT_FBUSED, ARB_STAT_NEFF, ARB_STAT_DIPCUT,
  ARB_TOKMAX_MAX, ARB_LYCTRL_ENERGISE, ARB_LYSTAT_STATE, ARB_LYSTAT_CLOSED]

/-- Every gate output is high-impedance (R434). -/
def allZ (s : State) : Prop := ∀ c, s.padGate c = .z

/-- A reset of cause `cause` has begun: the cause is latched, every gate output is high-impedance, no heater output is on,
and nothing else is changed but the drive (R432, R434). -/
def resetBegun (cause : Nat) (ph : PowerPhase) (s t : State) : Prop :=
  t.power = ⟨ph, cause, s.time, false, s.power.vio33⟩ ∧ t.loops.high = 0 ∧ allZ t ∧
  t = { s with regs := t.regs, power := t.power, loops := t.loops, sched := t.sched, valves := t.valves } ∧
  regsOutside [Blk.VLV, Blk.VBK] offFlds s t

/-- What a released reset sets that is no field's Reset value: identity, cause, FAULT_N in boot, strap, key, log position,
the detected VIO. -/
def releaseFlds : List Fld := [GLB_IDENT_PART, GLB_IDENT_SREV, GLB_IDENT_LREV, GLB_SERIAL_LO_SN, GLB_SERIAL_HI_SN,
  GLB_STAT_FAULT, GLB_RSTCAUSE_CAUSE, CHN_STAT_STRAP, TMX_IDCODE_IDCODE, ETH_MAC_LO_MAC, ETH_MAC_HI_MAC, ETH_STAT_KEYSET,
  EVT_LOGSEQ_SEQ, EVT_FLASHPOS_NEXT, PWR_STAT_VIO33]

/-- The reset has been released (R428, R432, R433). -/
def resetReleased (s t : State) : Prop :=
  t.pending = s.pending ∧ t.fuses = s.fuses ∧ t.outs = s.outs ∧ t.time = 0 ∧ t.power = ⟨.on, s.power.latch, 0, false, s.power.vio33⟩ ∧
  t.get PWR_STAT_VIO33 = (if s.power.vio33 then 1 else 0) ∧
  t.mode = 0 ∧ t.get GLB_STAT_FAULT = 1 ∧ t.get GLB_RSTCAUSE_CAUSE = s.power.latch % 16 ∧
  (∀ f : Fld, (∀ g ∈ releaseFlds, f.key ≠ g.key) → t.get f = f.reset) ∧
  t.evt = Evt.init ∧ t.mem = MemSys.init ∧ t.sched = Sched.init ∧ t.valves = Valves.init ∧ t.braid.ub = [] ∧ t.fb = [] ∧
  t.flash.saved = s.flash.saved ∧ t.flash.boots = s.flash.boots

/-- What a calibration abort and the answer to its operation may write outside the blocks EVT, VLV, VBK, MBX. -/
def calAbortFlds : List Fld := [MEM_TESTABORTS_COUNT, COR_STAT_BLENDING, COR_STAT_REVERSING, COR_BLEND_K, COR_BLEND_BUSY,
  CAL_STATUS_PHASE, CAL_STATUS_COMPUTE, CAL_STATUS_PENDING, CAL_ABORTS_COUNT, CAL_LASTRESULT_CODE, CAL_LASTRESULT_TRIG,
  CAL_LASTRESULT_ORPHAN, CAL_LASTRESULT_TRIMDROP, CAL_GREF_BUSY, ARB_STAT_TOKENS, ARB_STAT_FBUSED, ARB_STAT_NEFF,
  ARB_STAT_DIPCUT, ARB_TOKMAX_MAX, ARB_LYCTRL_ENERGISE, ARB_LYSTAT_STATE, ARB_LYSTAT_CLOSED, SSP_BOX_INSLOTS,
  SSP_BOX_ABSLOT, SSP_BOX_OUTBYTES, ETH_TXCNT_COUNT, CHN_GRANTSTAT_HOLDER, CHN_GRANTSTAT_HELD, CHN_GRANTSTAT_QUEUE,
  LOOP_STAT_GREF]

/-- What entering the safe state may write outside the blocks EVT, VLV, VBK, MBX. -/
def safeFlds : List Fld := [GLB_STAT_STATE, GLB_CTRL_RUN, GLB_STAT_FAULT, GLB_SAFECAUSE_CAUSES, GLB_SAFECAUSE_COUNT,
  EJS_QOCC_MAX, EJS_QOCC_MAXCH, ARB_CTRL_EN] ++ calAbortFlds

/-- The safe state has been entered from another state with cause bit `cause` (R427, R438, R439, R441, R442). -/
def safeEntered (cause : Nat) (s t : State) : Prop :=
  t.mode = 4 ∧ t.get GLB_SAFECAUSE_CAUSES = (s.get GLB_SAFECAUSE_CAUSES ||| 2 ^ cause) % 16 ∧
  t.get GLB_SAFECAUSE_COUNT = satAdd 16 (s.get GLB_SAFECAUSE_COUNT) 1 % 2 ^ 16 ∧
  t.get GLB_CTRL_RUN = 0 ∧ t.get ARB_CTRL_EN = 0 ∧ t.loops.high = 0 ∧ t.sensor.removeBias = true ∧
  valvesClosed t ∧ heatersOff t ∧
  (t.get GLB_STAT_FAULT = 1 ↔ t.get GLB_SAFECAUSE_CAUSES / 2 ≠ 0 ∨ s.house.shutdown = true ∨ s.get CAL_STATUS_STUCK = 1) ∧
  t = { s with regs := t.regs, evt := t.evt, mem := t.mem, mbx := t.mbx, sensor := t.sensor, corr := t.corr, cal := t.cal,
               gref := t.gref, loops := t.loops, sched := t.sched, valves := t.valves, chain := t.chain,
               baind := t.baind, ssp := t.ssp, fb := t.fb, outs := t.outs } ∧
  regsOutside [Blk.EVT, Blk.VLV, Blk.VBK, Blk.MBX] safeFlds s t

/-- What warm-up writes (R428, R431), with the end of a shutdown or of the safe state. -/
def warmFlds : List Fld := [GLB_STAT_STATE, GLB_STAT_FAULT, STG_CTRL_BIAS_EN, STG_CTRL_HTR_EN]

/-- A restart has been accepted: the warm restart of R431 begins (R288, R440). -/
def restarted (s t : State) : Prop :=
  t.mode = 1 ∧ t.get GLB_SAFECAUSE_CAUSES = 0 ∧ t.get STG_STAT_OVERTEMP = 0 ∧ t.get TMX_CTRL_BSCANEN = 0 ∧
  t.get STG_CTRL_HTR_EN = 1 ∧ t.get STG_CTRL_BIAS_EN = 1 ∧ t.house.shutdown = false ∧
  t.cal.tries = 0 ∧ t.cal.powered = false ∧ t.get GLB_STAT_FAULT = (if s.get CAL_STATUS_STUCK = 1 then 1 else 0) ∧
  t = { s with regs := t.regs, evt := t.evt, mem := t.mem, sensor := t.sensor, cal := t.cal, tmx := t.tmx,
               house := t.house } ∧
  regsOutside [Blk.EVT] (warmFlds ++ [MEM_TESTABORTS_COUNT, MEM_DDRSTAT_SELFREF, GLB_SAFECAUSE_CAUSES, STG_STAT_OVERTEMP, TMX_CTRL_BSCANEN]) s t

/-- Nothing but registers and tile `n` of the sensor tier is changed. -/
def tileOnly (n : Nat) (s t : State) : Prop :=
  t = { s with regs := t.regs, sensor := { s.sensor with tiles := t.sensor.tiles } } ∧ ∀ m, m ≠ n → t.tile m = s.tile m

/-- What TIL[n] shows of the tile's factors and spares. -/
def tileShown (n : Nat) : List Fld := [TIL_CVSTAT_FAILCNT n, TIL_CVSTAT_ROTSP n, TIL_CVSTAT_PARKED n, TIL_ROTPOS_SP0 n,
  TIL_ROTPOS_SP1 n, TIL_ROTPOS_SP2 n, TIL_ROTPOS_SP3 n]

/-- The registers that follow a channel's state: its bank's and the arbiter's (R246, R247, R250). -/
def followFlds (c : Nat) : List Fld :=
  [VBK_STAT_RAIL (c / 8), VBK_STAT_PEAKING (c / 8), VBK_STAT_HOLDING (c / 8), VBK_STAT_LEADER (c / 8),
   VBK_STAT_LEADVALID (c / 8), VBK_PEAKMAX_MAX (c / 8), ARB_STAT_TOKENS, ARB_STAT_FBUSED, ARB_STAT_NEFF,
   ARB_STAT_DIPCUT, ARB_TOKMAX_MAX]

/-- The registers of a channel's drops (R267). -/
def dropFlds (c : Nat) : List Fld := [VLV_DROPCNT_COUNT c, VLV_STAT_LASTDROP c, VLV_TOKDROP_COUNT c]

/-- Channel `c` has dropped a firing at the drive with cause `k` (R252, R255, R264, R267): counted, shown, raised. -/
def dropped (c k : Nat) (s t : State) : Prop :=
  t.get (VLV_DROPCNT_COUNT c) = satAdd 31 (s.get (VLV_DROPCNT_COUNT c)) 1 % 2 ^ 31 ∧ t.get (VLV_STAT_LASTDROP c) = k ∧
  t.get (VLV_TOKDROP_COUNT c) = (if k = 1 ∨ k = 2 ∨ k = 6 then satAdd 31 (s.get (VLV_TOKDROP_COUNT c)) 1 % 2 ^ 31
    else s.get (VLV_TOKDROP_COUNT c)) ∧ raisedIn (Src.drop c) s t

/-- Every channel but `c` keeps its queue and what the drive holds of it, but for the chop mode of a channel of its bank,
which follows the bank's rail and leader (R246 to R248). -/
def othersFollow (c : Nat) (s t : State) : Prop :=
  ∀ d : Nat, d ≠ c → t.queueOf d = s.queueOf d ∧ t.drive d = { s.drive d with chop := (t.drive d).chop } ∧
    (d / 8 ≠ c / 8 → t.drive d = s.drive d)

/-- Every channel but `c` keeps its queue and what the drive holds of it. -/
def othersKeep (c : Nat) (s t : State) : Prop :=
  ∀ d : Nat, d ≠ c → t.queueOf d = s.queueOf d ∧ t.drive d = s.drive d

/-- A measured time enters LAST, MEAN and the count of its kind (R261). -/
def timeTaken (last mean cnt : Fld) (x : Nat) (s t : State) : Prop :=
  t.get last = min 65535 x ∧ t.get cnt = satAdd 16 (s.get cnt) 1 % 2 ^ 16 ∧
  t.get mean = (if s.get cnt = 0 then min 65535 x
    else ((s.get mean : Int) + roundDiv ((min 65535 x : Nat) - (s.get mean : Int)) 16).toNat % 2 ^ 16)

/-- A write that R339 turns away sets PROTERR and changes nothing else. -/
def turnedAway (s t : State) : Prop :=
  t.get GLB_STAT_PROTERR = 1 ∧ t = { s with regs := t.regs } ∧ regsBut [GLB_STAT_PROTERR] s t

/-- The knots of the preheat window that closes next, by bin (R301). -/
def phHist (s : State) : List (Nat × Nat) := mget [] s.loops.hist (s.secondOf s.loops.phDone)

/-- Their number and their median. -/
def phCount (s : State) : Nat := sumN ((phHist s).map (·.2))
def phMedian (s : State) : Nat := binMedian (phCount s) (phHist s) 0

/-- The window is concluded at its whole second, and the next one is open (R301). -/
def windowClosed (s t : State) : Prop :=
  t.get LOOP_PHPV_PV = min 65535 (phMedian s) ∧ t.get LOOP_PHPV_N = min 65535 (phCount s) ∧
  t.time = max s.time (1000000000 * (s.secondOf s.loops.phDone + 1)) ∧
  t.loops = { s.loops with hist := s.loops.hist.filter (fun p => decide (s.secondOf s.loops.phDone < p.1)),
                           phDone := s.secondOf s.loops.phDone + 1 }

/-- The RTD readings of the second that the backdrop update concludes: number and sum (R305). -/
def bkReads (s : State) : Nat × Nat := mget (0, 0) s.loops.rtd (s.secondOf s.loops.bkDone)

/-- That second is concluded at its end, with `lost` seconds in a row without a reading. -/
def secondClosed (s t : State) (lost : Nat) (out : Bool) : Prop :=
  t.time = max s.time (1000000000 * (s.secondOf s.loops.bkDone + 1)) ∧
  t.loops = { s.loops with rtd := s.loops.rtd.filter (fun p => decide (s.secondOf s.loops.bkDone < p.1)),
                           bkDone := s.secondOf s.loops.bkDone + 1, rtdLost := lost, rtdOut := out }

/-- The W1C fields of the register space (R12). -/
def w1cFlds : List Fld :=
  [GLB_STAT_PROTERR, GLB_STAT_WRERR, GLB_TBL_STAT_REFUSED, GLB_TBL_STAT_RANGE, PWR_STAT_DIPSEEN, PWR_STAT_OVBSEEN,
   PWR_STAT_WRERR, THM_STAT_SDSEEN, THM_STAT_EXCLSEEN, THM_STAT_WRERR, HKA_STAT_SCALDONE, HKA_STAT_INVSEEN,
   STG_STAT_CFGERR, COR_STAT_DTCLAMPED, COR_STAT_WRERR, COR_STAT_LANECHG, CAL_STATUS_DEFERRED, CAL_STATUS_REFUSED,
   CAL_GREF_DONE, CAL_GREF_FAIL, BRD_STAT_KRED, BRD_STAT_WRERR, BRD_STAT_DEPTHERR, BRD_STAT_ORDERR,
   BRD_STAT_TRACKED, BRD_STAT_LATE, KNT_STAT_WRERR, KNT_STAT_FULLSEEN, KNT_STAT_SPLIT, VRD_STAT_WRERR,
   VRD_STAT_NOELIG, VRD_STAT_FORCED, EJS_STAT_WRERR, EJS_STAT_DROP, EJS_STAT_LATE, EJS_STAT_CLIP, EJS_STAT_NOVALVE,
   ARB_STAT_WRERR, ARB_BSTMEAS_OVSEEN, MEM_STAT_FAILSEEN, MEM_STAT_OVLSEEN, MEM_STAT_UESEEN, MEM_STAT_WRERR,
   MEM_STAT_TBLERR, SSP_STAT_ERRSEEN, SSP_STAT_ENDSEEN, SSP_STAT_COLLSEEN, FLS_STAT_RANGE, FLS_STAT_SUSPSEEN,
   FLS_STAT_WAITSEEN, FLS_STAT_WRERR, ETH_STAT_RXERR, ETH_PTPSTAT_LOSTSEEN, ETH_TAPSTAT_OVRSEEN, CHN_STAT_MSTCONF,
   CHN_STAT_SPLICEERR, LOOP_STAT_WRERR, TMX_TPSTAT_CAPDONE, TMX_TPSTAT_WRERR] ++
  (List.range 24).map EVT_STAT_STAT ++
  (List.range 32).map TIL_CVSTAT_SCAL_DONE ++
  (List.range 32).map TIL_CVSTAT_SCAL_FAIL ++
  (List.range 16).map VBK_TRCTL_DONE ++
  (List.range 4).map MBX_UPCTL_OVF ++
  (List.range 4).map MBX_DNCTL_OVF

/-- Registers whose write acts on each field by its type alone. -/
def plainRegs : List Nat :=
  [0x3C, 0x408, 0x41C, 0x1024, 0x1000, 0x1404, 0x1804, 0x6804, 0x7004, 0x7404, 0x7804, 0xA80C, 0xB000, 0xB004] ++
  (List.range 24).map (0x480 + 4 * ·) ++ (List.range 24).map (0x500 + 4 * ·) ++ (List.range 192).map (0x600 + 4 * ·) ++
  (List.range 32).map (0x1A80 + 4 * ·) ++ (List.range 8).map (0x1B00 + 4 * ·)

/-- The sources whose replies leave at once by their port: UDP and the serial slave port. -/
def isDirect : Source → Bool
  | .udp _ _ => true
  | .ssp => true
  | _ => false

/-- A request of a UDP or serial source, for this module, that the running firmware serves: it passes checks 1 to 7 of
R361 with session key `key`, repeats no kept request, and no session or kept reply is due to expire. -/
def admits (h : Hdr) (op : Nat) (pay : List Nat) (key : Option (List Nat)) (s : State) : Prop :=
  isDirect h.src = true ∧ s.isOn = true ∧ s.power.fw = true ∧ s.flash.recovery = false ∧
  (h.trailer.all fun x => x.length == 32) = true ∧ h.version % 256 = 1 ∧ h.target % 256 = s.get GLB_STAT_CHIDX ∧
  pay.length ≤ 1292 ∧ (s.baind.sessions.all fun x => decide (s.time < x.2.last + s.idleLimit)) = true ∧
  (s.baind.cache.all fun x => decide (s.time < x.sent + 5000000000)) = true ∧
  s.storedReplies (reqOf h op pay) = [] ∧ s.authCheck (reqOf h op pay) = (0, key)

/-- A reply of this module with `status` and `pay` has gone out by the path of the request (R359, R362). -/
def answered (h : Hdr) (op : Nat) (key : Option (List Nat)) (status : Nat) (pay : List Nat) (s t : State) : Prop :=
  Out.baind h.src (toBytes (s.replyBytes op (h.seq % 65536) (s.get GLB_STAT_CHIDX) 0 status pay key)) ∈
    t.outs.drop s.outs.length

/-- The request has been executed: answered, and counted. -/
def executed (h : Hdr) (op : Nat) (key : Option (List Nat)) (status : Nat) (pay : List Nat) (s t : State) : Prop :=
  answered h op key status pay s t ∧ t.get ETH_BAINDCNT_COUNT = satAdd 31 (s.get ETH_BAINDCNT_COUNT) 1 % 2 ^ 31

/-- The registers that a reply to a UDP or serial source touches. -/
def replyFlds : List Fld := [ETH_BAINDCNT_COUNT, ETH_TXCNT_COUNT, SSP_BOX_INSLOTS, SSP_BOX_ABSLOT, SSP_BOX_OUTBYTES]

/-- A request has been executed that changes no more than its reply does. -/
def onlyReplied (h : Hdr) (op : Nat) (key : Option (List Nat)) (status : Nat) (pay : List Nat) (s t : State) : Prop :=
  executed h op key status pay s t ∧ t = { s with regs := t.regs, baind := t.baind, ssp := t.ssp, outs := t.outs } ∧
  regsBut replyFlds s t

/-- A long operation has been accepted: answered, counted, and in the list as running (R370). -/
def accepted (h : Hdr) (op : Nat) (key : Option (List Nat)) (s t : State) : Prop :=
  executed h op key 1 [] s t ∧
  (t.baind.ops.any fun o => o.opcode == op && o.seq == h.seq % 65536 && o.src == h.src && o.status == 1) = true

/-- Every running request of an operation has completed, with its event (R370, R371). -/
def finished (op : Nat) (s t : State) : Prop := t.opRuns op = false ∧ raisedIn Src.opDone s t

/-- Only a CAL_RUN waits for its start (R371). -/
def waitsOk (s : State) : Prop := (s.baind.ops.all fun o => !o.wait || o.opcode == 0x0301) = true

/-- Each field of a register has taken the word written, by its type (R12). -/
def tookWrite (a v : Nat) (s t : State) : Prop := ∀ f ∈ fieldsAt a, (f.ty = .rw → t.get f = bits v f.lo f.width) ∧
  (f.ty = .w1c → t.get f = andNot (s.get f) (bits v f.lo f.width) % 2 ^ f.width) ∧ (f.ty = .ro → t.get f = s.get f)

/-- Every requester's window and latch but one's are as they were (R321, R343). -/
def otherWins (r : Requester) (s t : State) : Prop := ∀ i : Nat, i < 7 → i ≠ reqIndex r → mget Win.init t.wins i = mget Win.init s.wins i

/-- A DHCP message is an OFFER. -/
def dhcpIsOffer : DhcpMsg → Bool
  | .offer _ => true
  | _ => false

/-- The rate a member has to take and after when, once a TIME message has come (R417). -/
def rateToCome (m : TimeMsg) (s : State) : Option (Nat × Nat) :=
  if m.pendingRate.isSome then some (m.pendingRate.getD 0, m.time + 1000)
  else if m.rate = s.sensor.rate then s.chain.rateNext else some (m.rate, m.time - 2000)

/-- A member of the chain has become an orphan (R418). -/
def orphaned (s t : State) : Prop :=
  t.get CHN_STAT_STATE = 3 ∧ t.get GLB_STAT_UNSYNC = 1 ∧ t.get CHN_STAT_MEMBERS = 0 ∧ t.get CHN_STAT_HITCH = 0 ∧
  t.get CHN_ORPHANCNT_COUNT = satAdd 31 (s.get CHN_ORPHANCNT_COUNT) 1 % 2 ^ 31 ∧ raisedIn Src.orphan s t ∧
  t.chain.next = none ∧ t.chain.heard = false ∧ t.chain.good = 0 ∧ t.chain.slew = 0 ∧ t.chain.handover = none ∧
  t.chain.given = none ∧ t.chain.rateNext = none

/-- The neighbour at a port has told whether it is an orphan (R411). -/
def toldOrphan (p : ChainPort) (b : Bool) (c : Chain) : Chain :=
  match p with
  | .low => { c with low := c.low.map fun i => { i with orphan := b } }
  | .high => { c with high := c.high.map fun i => { i with orphan := b } }

/-- Requests in stamp order, ties to the lower index (R420). -/
def stampOrder (l : List (Nat × Nat)) : Prop := l.Pairwise fun a b => a.1 < b.1 ∨ (a.1 = b.1 ∧ a.2 ≤ b.2)

/-- A HANDOVER message that carries what the old master leaves, for module `j` (R413). -/
def handsOver (j : Nat) : Out → Bool
  | .chain _ (.handover i (some _)) => i == j
  | _ => false

/-- What each command can change at most: the parts of the state, and of the registers the blocks and fields named. -/
def frameOf (c : Instr) (s t : State) : Prop :=
  match c with
  | .powerOn .. | .causeLatchLoss .. =>
    t = { s with power := t.power }
  | .railGood .. | .resetRelease .. =>
    t = { s with bus := t.bus, time := t.time, regs := t.regs, free := t.free, power := t.power, evt := t.evt, mem :=
                   t.mem, wins := t.wins, mbx := t.mbx, sensor := t.sensor, stage := t.stage, corr := t.corr, cal :=
                   t.cal, gref := t.gref, trk := t.trk, tmx := t.tmx, loops := t.loops, live := t.live, braid :=
                   t.braid, knots := t.knots, sched := t.sched, valves := t.valves, chain := t.chain, baind :=
                   t.baind, ssp := t.ssp, net := t.net, flash := t.flash, tap := t.tap, house := t.house, fb := t.fb,
                 outs := t.outs }
  | .railFault .. | .vinPowerFail .. | .watchdogExpiry .. | .debugReset .. =>
    t = { s with regs := t.regs, power := t.power, loops := t.loops, sched := t.sched, valves := t.valves } ∧
    regsOutside [Blk.VLV, Blk.VBK] (driveFlds ++ [EJS_QOCC_MAX, EJS_QOCC_MAXCH]) s t
  | .dipSet .. =>
    t = { s with regs := t.regs, evt := t.evt, mem := t.mem, mbx := t.mbx, corr := t.corr, cal := t.cal, braid :=
                   t.braid, valves := t.valves, chain := t.chain, baind := t.baind, ssp := t.ssp, fb := t.fb, outs :=
                   t.outs } ∧ regsOutside [Blk.EVT, Blk.VLV, Blk.VBK, Blk.MBX] (driveFlds ++ boxFlds ++ blendFlds ++
    grantFlds ++ [MEM_TESTABORTS_COUNT, PWR_STAT_DIP, PWR_STAT_DIPSEEN, PWR_DIPCNT_COUNT, PWR_DIPLAST_LO_STAMP,
    PWR_DIPLAST_HI_STAMP, PWR_DIPMIN_V, CAL_STATUS_PHASE, CAL_STATUS_COMPUTE, CAL_STATUS_PENDING, CAL_ABORTS_COUNT,
    CAL_LASTRESULT_CODE, CAL_LASTRESULT_TRIG, CAL_LASTRESULT_ORPHAN, CAL_LASTRESULT_TRIMDROP]) s t
  | .dipClear .. =>
    t = { s with regs := t.regs, corr := t.corr, cal := t.cal, braid := t.braid, chain := t.chain, baind := t.baind,
                 outs := t.outs } ∧ regsOutside [] (grantFlds ++ [PWR_STAT_DIP, CAL_STATUS_PHASE, CAL_STATUS_COMPUTE,
    CAL_STATUS_PENDING, ARB_STAT_TOKENS, ARB_STAT_FBUSED, ARB_STAT_NEFF, ARB_STAT_DIPCUT, ARB_TOKMAX_MAX]) s t
  | .swrst .. =>
    t = { s with regs := t.regs, power := t.power, evt := t.evt, mem := t.mem, loops := t.loops, sched := t.sched,
                 valves := t.valves, flash := t.flash } ∧ regsOutside [Blk.GLB, Blk.EVT, Blk.VLV, Blk.VBK, Blk.MEM]
    (driveFlds ++ [EJS_QOCC_MAX, EJS_QOCC_MAXCH, FLS_STAT_CONT]) s t
  | .bootSlotCheck .. | .mbxPop .. | .regRead .. | .regWrite .. | .regModify .. | .start .. | .stop .. | .safe .. |
    .restart .. | .reset .. | .status .. | .opQuery .. | .identify .. | .calRun .. | .calGref .. | .calGapply .. |
    .convScal .. | .hkaScal .. | .loadTable .. | .readTable .. | .saveTables .. | .restoreTables .. | .tapGrab .. |
    .tapRead .. | .sessionOpen .. | .sessionClose .. | .setDevkey .. | .updBegin .. | .updData .. | .updVerify .. |
    .updActivate .. | .updStatus .. | .logInfo .. | .logRead .. | .chnInfo .. | .chnMaster .. | .abort .. |
    .ethFrameReceive .. | .sspStreamWriteFrame .. | .baindForward .. =>
    t = { s with regs := t.regs, free := t.free, power := t.power, evt := t.evt, mem := t.mem, wins := t.wins, mbx :=
                   t.mbx, sensor := t.sensor, corr := t.corr, cal := t.cal, gref := t.gref, tmx := t.tmx, loops :=
                   t.loops, live := t.live, braid := t.braid, knots := t.knots, sched := t.sched, valves := t.valves,
                 chain := t.chain, baind := t.baind, ssp := t.ssp, net := t.net, flash := t.flash, tap := t.tap, house
                   := t.house, fb := t.fb, outs := t.outs }
  | .configLoadDone .. =>
    t = { s with regs := t.regs, evt := t.evt, mem := t.mem, mbx := t.mbx, sensor := t.sensor, corr := t.corr, cal :=
                   t.cal, gref := t.gref, loops := t.loops, live := t.live, braid := t.braid, sched := t.sched, valves
                   := t.valves, chain := t.chain, baind := t.baind, ssp := t.ssp, net := t.net, flash := t.flash,
                 house := t.house, fb := t.fb, outs := t.outs }
  | .chainListenTimeout .. =>
    t = { s with regs := t.regs, chain := t.chain } ∧ regsOutside [] (grantFlds ++ [GLB_STAT_UNSYNC, CHN_STAT_STATE,
    CHN_STAT_MSTIDX, CHN_STAT_MEMBERS, CHN_STAT_MSTCONF, CHN_RUN_RUN]) s t
  | .readyEntry .. =>
    t = { s with regs := t.regs } ∧ regsOutside [] [GLB_STAT_STATE, ARB_CTRL_EN, ARB_STAT_TOKENS, ARB_STAT_FBUSED,
    ARB_STAT_NEFF, ARB_STAT_DIPCUT, ARB_TOKMAX_MAX] s t
  | .powerupCalStart .. =>
    t = { s with regs := t.regs, cal := t.cal, chain := t.chain, baind := t.baind, outs := t.outs } ∧ regsOutside []
    (grantFlds ++ [CAL_STATUS_PHASE, CAL_STATUS_COMPUTE, CAL_STATUS_PENDING]) s t
  | .powerupCalRetry .. | .calDeferredRetry .. =>
    t = { s with time := t.time, regs := t.regs, cal := t.cal, chain := t.chain, baind := t.baind, outs := t.outs } ∧
    regsOutside [] (grantFlds ++ [CAL_STATUS_PHASE, CAL_STATUS_COMPUTE, CAL_STATUS_PENDING]) s t
  | .glbRunWrite .. =>
    t = { s with regs := t.regs, evt := t.evt, mem := t.mem, knots := t.knots } ∧ regsOutside [Blk.GLB, Blk.EVT]
    [MEM_TESTABORTS_COUNT, KNT_STAT_FULL, KNT_STAT_FULLSEEN, KNT_OPEN_NOW, KNT_OPEN_MAX, KNT_DROPCNT_COUNT,
    MEM_RETCTL_PB, MEM_RETCTL_UB, MEM_RETCTL_BB, MEM_RETCTL_KB, MEM_RETCTL_SP] s t
  | .glbCtrlSafe .. =>
    t = { s with regs := t.regs, evt := t.evt, mem := t.mem, mbx := t.mbx, sensor := t.sensor, corr := t.corr, cal :=
                   t.cal, gref := t.gref, loops := t.loops, sched := t.sched, valves := t.valves, chain := t.chain,
                 baind := t.baind, ssp := t.ssp, fb := t.fb, outs := t.outs } ∧ regsOutside [Blk.GLB, Blk.EVT,
    Blk.VLV, Blk.VBK, Blk.MBX] (calAbortFlds ++ [EJS_QOCC_MAX, EJS_QOCC_MAXCH, ARB_CTRL_EN]) s t
  | .frameBoundary .. =>
    t = { s with time := t.time, regs := t.regs, free := t.free, evt := t.evt, mem := t.mem, mbx := t.mbx, sensor :=
                   t.sensor, corr := t.corr, cal := t.cal, gref := t.gref, trk := t.trk, tmx := t.tmx, live := t.live,
                 braid := t.braid, knots := t.knots, sched := t.sched, valves := t.valves, chain := t.chain, baind :=
                   t.baind, ssp := t.ssp, flash := t.flash, tap := t.tap, house := t.house, fb := t.fb, outs := t.outs
                   } ∧ regsOutside [Blk.EVT, Blk.TIL, Blk.COR, Blk.BRD, Blk.VLV, Blk.VBK, Blk.MBX] (driveFlds ++
    boxFlds ++ grantFlds ++ [MEM_TESTABORTS_COUNT, GLB_STAT_UNSYNC, STG_CTRL_BIAS_EN, STG_FRATE_PEND,
    STG_BIAS_APPLIED, STG_BIAS_PEND, STG_STAT_BIAS_RAMP, STG_STAT_CFGERR, STG_STAT_SETTLE, STG_FRAMECNT_COUNT,
    STG_CFGFRAME_FRAME, CAL_STATUS_PHASE, CAL_STATUS_COMPUTE, CAL_STATUS_BLIND, CAL_STATUS_PENDING,
    CAL_STATUS_BACKOFF, CAL_COUNT_COUNT, CAL_LASTTIME_LO_STAMP, CAL_LASTTIME_HI_STAMP, CAL_LASTSTAGE_TEMP,
    CAL_LASTRESULT_CODE, CAL_LASTRESULT_TRIG, CAL_LASTRESULT_ORPHAN, CAL_LASTRESULT_TRIMDROP, CAL_BLIND_US,
    CAL_ANCHOR_A, CAL_ANCHOR_VALID, CAL_TRKSTAT_FROZEN, KNT_STAT_FULL, KNT_STAT_WRERR, KNT_STAT_FULLSEEN,
    KNT_OPEN_NOW, KNT_OPEN_MAX, KNT_DROPCNT_COUNT, VRD_CTRL_ACTBANK, VRD_CTRL_SWPEND, EJS_CTRL_MAPACT,
    EJS_CTRL_MAPPEND, EJS_STAT_DROP, EJS_STAT_CLIP, EJS_FIRECNT_COUNT, EJS_MERGECNT_COUNT, EJS_DROPCNT_COUNT,
    EJS_CLIPCNT_COUNT, EJS_QOCC_MAX, EJS_QOCC_MAXCH, ARB_CTRL_EN, ARB_LYSTAT_OPEN, MEM_DDRSTAT_SELFREF,
    ETH_PTPSTAT_OFSVALID, ETH_PTPOFS_LO_OFS, ETH_PTPOFS_HI_OFS, ETH_TAPCTL_BUSY, ETH_TAPSTAT_RECSIZE,
    ETH_TAPSTAT_HALT, ETH_TAPDROP_MISSED, CHN_STAT_STATE, CHN_STAT_MSTIDX, CHN_STAT_MEMBERS, TMX_BLINDACT_TILES,
    TMX_TPCTL_PEND, TMX_TPSTAT_ACTIVE]) s t
  | .rowGroupSlot .. =>
    t = { s with time := t.time, regs := t.regs, sensor := t.sensor } ∧ regsOutside [Blk.TIL] [] s t
  | .spareHandover .. =>
    t = { s with time := t.time, regs := t.regs, evt := t.evt, mem := t.mem, sensor := t.sensor } ∧ regsOutside
    [Blk.EVT, Blk.TIL] [MEM_TESTABORTS_COUNT] s t
  | .rowGroupReceive .. =>
    t = { s with regs := t.regs, evt := t.evt, mem := t.mem, sensor := t.sensor, tmx := t.tmx } ∧ regsOutside
    [Blk.EVT, Blk.TIL] [MEM_TESTABORTS_COUNT, TMX_TPSTAT_CAPDONE, TMX_TPERR_COUNT, TMX_TPERR_TILE, TMX_TPERR_LANE,
    TMX_TPERR_RGRP] s t
  | .alignBlock .. =>
    t = { s with regs := t.regs, sensor := t.sensor, tmx := t.tmx } ∧ regsOutside [Blk.TIL] [TMX_TPSTAT_CAPDONE] s t
  | .tetherRealign .. =>
    t = { s with regs := t.regs, sensor := t.sensor } ∧ regsOutside [Blk.TIL] [] s t
  | .tetherRealignTimeout .. | .controlLaneLoss .. =>
    t = { s with regs := t.regs, evt := t.evt, mem := t.mem, sensor := t.sensor } ∧ regsOutside [Blk.EVT]
    [MEM_TESTABORTS_COUNT] s t
  | .rowGroupRelease .. =>
    t = { s with time := t.time, regs := t.regs, free := t.free, power := t.power, evt := t.evt, mem := t.mem, mbx :=
                   t.mbx, sensor := t.sensor, corr := t.corr, cal := t.cal, gref := t.gref, trk := t.trk, loops :=
                   t.loops, braid := t.braid, sched := t.sched, valves := t.valves, baind := t.baind, ssp := t.ssp,
                 tap := t.tap, fb := t.fb, outs := t.outs } ∧ regsOutside [Blk.EVT, Blk.TIL, Blk.VLV, Blk.VBK,
    Blk.MEM, Blk.MBX] (driveFlds ++ boxFlds ++ [COR_ECCBAD_COUNT, COR_CLIPCNT_COUNT, CAL_TRKSTAT_SATCNT,
    BRD_UNLRST_COUNT, BRD_UCLIPCNT_COUNT, EJS_QOCC_MAX, EJS_QOCC_MAXCH, ETH_TAPCTL_BUSY, ETH_TAPWR_INDEX,
    ETH_TAPSTAT_RECSIZE, ETH_TAPSTAT_HALT, ETH_TAPSTAT_OVRSEEN, ETH_TAPDROP_OVERRUN]) s t
  | .controlLaneMessage .. | .controlLaneRelock .. =>
    t = { s with sensor := t.sensor }
  | .stageSensorRead .. =>
    t = { s with regs := t.regs, free := t.free, evt := t.evt, mem := t.mem, mbx := t.mbx, sensor := t.sensor, stage
                   := t.stage, corr := t.corr, cal := t.cal, gref := t.gref, loops := t.loops, sched := t.sched,
                 valves := t.valves, chain := t.chain, baind := t.baind, ssp := t.ssp, fb := t.fb, outs := t.outs } ∧
    regsOutside [Blk.EVT, Blk.STG, Blk.VLV, Blk.VBK, Blk.MBX] safeFlds s t
  | .tsExclude .. =>
    t = { s with regs := t.regs, evt := t.evt, mem := t.mem, mbx := t.mbx, sensor := t.sensor, stage := t.stage, corr
                   := t.corr, cal := t.cal, gref := t.gref, loops := t.loops, sched := t.sched, valves := t.valves,
                 chain := t.chain, baind := t.baind, ssp := t.ssp, fb := t.fb, outs := t.outs } ∧ regsOutside
    [Blk.EVT, Blk.STG, Blk.VLV, Blk.VBK, Blk.MBX] safeFlds s t
  | .tsReadmit .. =>
    t = { s with time := t.time, regs := t.regs, evt := t.evt, mem := t.mem, mbx := t.mbx, sensor := t.sensor, stage
                   := t.stage, corr := t.corr, cal := t.cal, gref := t.gref, loops := t.loops, sched := t.sched,
                 valves := t.valves, chain := t.chain, baind := t.baind, ssp := t.ssp, fb := t.fb, outs := t.outs } ∧
    regsOutside [Blk.EVT, Blk.STG, Blk.VLV, Blk.VBK, Blk.MBX] safeFlds s t
  | .stageLock .. =>
    t = { s with time := t.time, regs := t.regs } ∧ regsOutside [] [STG_STAT_LOCK] s t
  | .stageUnreg .. =>
    t = { s with regs := t.regs, evt := t.evt, mem := t.mem } ∧ regsOutside [Blk.EVT] [MEM_TESTABORTS_COUNT,
    STG_HTRPWR_POWER, STG_STAT_UNREG] s t
  | .stageUnregClear .. =>
    t = { s with regs := t.regs, free := t.free } ∧ regsOutside [] [STG_HTRPWR_POWER, STG_STAT_UNREG] s t
  | .stgCtrlWrite .. =>
    t = { s with regs := t.regs, sensor := t.sensor } ∧ regsOutside [Blk.GLB] [STG_CTRL_BIAS_EN, STG_CTRL_HTR_EN,
    STG_CTRL_ROWREV, STG_CTRL_COLREV, STG_HTRPWR_POWER, STG_STAT_CFGERR] s t
  | .stgFrateWrite .. =>
    t = { s with regs := t.regs, sensor := t.sensor, braid := t.braid } ∧ regsOutside [Blk.GLB] [STG_FRATE_RATE,
    STG_FRATE_PEND, STG_STAT_CFGERR] s t
  | .stgBiasWrite .. =>
    t = { s with regs := t.regs, sensor := t.sensor } ∧ regsOutside [Blk.GLB] [STG_BIAS_LEVEL, STG_BIAS_PEND] s t
  | .stgSetptWrite .. =>
    t = { s with regs := t.regs } ∧ regsOutside [Blk.GLB] [STG_SETPT_SETPT, STG_STAT_CFGERR] s t
  | .tilGainWrite .. | .tilRotenWrite .. | .tilRelease .. =>
    t = { s with regs := t.regs, sensor := t.sensor } ∧ regsOutside [Blk.GLB, Blk.TIL] [] s t
  | .tilPtdataWrite .. | .tilScal .. | .tilPark .. =>
    t = { s with regs := t.regs, sensor := t.sensor } ∧ regsOutside [Blk.GLB, Blk.TIL] [STG_STAT_CFGERR] s t
  | .tilSkimWrite .. =>
    t = { s with regs := t.regs, sensor := t.sensor }
  | .scalComplete .. =>
    t = { s with regs := t.regs, evt := t.evt, mem := t.mem, mbx := t.mbx, sensor := t.sensor, baind := t.baind, ssp
                   := t.ssp, fb := t.fb, outs := t.outs } ∧ regsOutside [Blk.EVT, Blk.TIL, Blk.MBX] (boxFlds ++
    [MEM_TESTABORTS_COUNT]) s t
  | .tilCfdataWrite .. =>
    t = { s with regs := t.regs, sensor := t.sensor } ∧ regsOutside [Blk.GLB, Blk.TIL] [STG_BIAS_APPLIED,
    STG_STAT_BIAS_RAMP, STG_STAT_CFGERR, STG_CFGFRAME_FRAME] s t
  | .tilResync .. =>
    t = { s with regs := t.regs, evt := t.evt, mem := t.mem, sensor := t.sensor } ∧ regsOutside [Blk.GLB, Blk.EVT,
    Blk.TIL] [MEM_TESTABORTS_COUNT] s t
  | .corV0Write .. =>
    t = { s with regs := t.regs } ∧ regsOutside [Blk.GLB] [COR_STAT_WRERR, COR_V0_V0] s t
  | .corOflip .. =>
    t = { s with regs := t.regs, sensor := t.sensor, corr := t.corr } ∧ regsOutside [Blk.GLB] [COR_STAT_WRERR,
    COR_OFLIP_FLIP] s t
  | .corBlendStart .. =>
    t = { s with regs := t.regs, corr := t.corr } ∧ regsOutside [Blk.GLB] [COR_STAT_WRERR, COR_BLEND_FRAMES,
    COR_BLEND_BUSY] s t
  | .corBlendAbort .. =>
    t = { s with regs := t.regs, corr := t.corr } ∧ regsOutside [Blk.GLB] (blendFlds ++ [COR_STAT_WRERR]) s t
  | .corLanexWrite .. =>
    t = { s with regs := t.regs } ∧ regsOutside [Blk.GLB, Blk.COR] [] s t
  | .calTriggerEval .. =>
    t = { s with regs := t.regs, cal := t.cal, chain := t.chain, baind := t.baind, outs := t.outs } ∧ regsOutside []
    (grantFlds ++ [CAL_STATUS_PHASE, CAL_STATUS_COMPUTE, CAL_STATUS_PENDING, CAL_STATUS_SUSPENDED]) s t
  | .calGo .. =>
    t = { s with regs := t.regs, cal := t.cal, chain := t.chain, baind := t.baind, outs := t.outs } ∧ regsOutside
    [Blk.GLB] (grantFlds ++ [CAL_STATUS_PHASE, CAL_STATUS_COMPUTE, CAL_STATUS_PENDING]) s t
  | .calGrantTimeout .. =>
    t = { s with time := t.time, regs := t.regs, cal := t.cal, chain := t.chain, outs := t.outs } ∧ regsOutside []
    (grantFlds ++ [CAL_STATUS_PHASE, CAL_STATUS_PENDING, CAL_STATUS_DEFERRED]) s t
  | .lyFlagClosed .. =>
    t = { s with regs := t.regs, sensor := t.sensor, corr := t.corr, cal := t.cal } ∧ regsOutside [] [COR_OFLIP_FLIP,
    CAL_STATUS_PHASE, ARB_LYSTAT_CLOSED, ARB_LYSTAT_OPEN, ARB_LYTIME_TCLOSED, ARB_LYTIME_TOPENED] s t
  | .lyFlagOpen .. =>
    t = { s with regs := t.regs, cal := t.cal } ∧ regsOutside [] [GLB_STAT_FAULT, CAL_STATUS_STUCK, ARB_LYSTAT_CLOSED,
    ARB_LYSTAT_OPEN, ARB_LYTIME_TCLOSED, ARB_LYTIME_TOPENED] s t
  | .flagCloseTimeout .. =>
    t = { s with regs := t.regs, evt := t.evt, mem := t.mem, mbx := t.mbx, cal := t.cal, valves := t.valves, baind :=
                   t.baind, ssp := t.ssp, fb := t.fb, outs := t.outs } ∧ regsOutside [Blk.EVT, Blk.VLV, Blk.VBK,
    Blk.MBX] (driveFlds ++ boxFlds ++ [MEM_TESTABORTS_COUNT, CAL_STATUS_PHASE, CAL_STATUS_COMPUTE, CAL_STATUS_BACKOFF,
    CAL_FAILS_COUNT, CAL_LASTRESULT_CODE, CAL_LASTRESULT_TRIG, CAL_LASTRESULT_ORPHAN, CAL_LASTRESULT_TRIMDROP]) s t
  | .calSettleEnd .. =>
    t = { s with time := t.time, cal := t.cal }
  | .calCaptureEnd .. =>
    t = { s with regs := t.regs, cal := t.cal, valves := t.valves } ∧ regsOutside [Blk.VLV, Blk.VBK] (driveFlds ++
    [CAL_STATUS_PHASE, CAL_STATUS_COMPUTE]) s t
  | .calComputeDone .. =>
    t = { s with regs := t.regs, evt := t.evt, mem := t.mem, mbx := t.mbx, corr := t.corr, cal := t.cal, baind :=
                   t.baind, ssp := t.ssp, fb := t.fb, outs := t.outs } ∧ regsOutside [Blk.EVT, Blk.CAL, Blk.MBX]
    (boxFlds ++ [MEM_TESTABORTS_COUNT, COR_TREF_A_TEMP, COR_TREF_B_TEMP]) s t
  | .flagStuck .. =>
    t = { s with time := t.time, regs := t.regs, evt := t.evt, mem := t.mem } ∧ regsOutside [Blk.EVT]
    [MEM_TESTABORTS_COUNT, GLB_STAT_FAULT, CAL_STATUS_STUCK] s t
  | .calResumeEnd .. =>
    t = { s with time := t.time, regs := t.regs, flash := t.flash } ∧ regsOutside [] [FLS_STAT_CONT] s t
  | .calSlotCopyDone .. =>
    t = { s with regs := t.regs, evt := t.evt, mem := t.mem, sensor := t.sensor, corr := t.corr, cal := t.cal, chain
                   := t.chain, baind := t.baind, outs := t.outs } ∧ regsOutside [Blk.EVT] (grantFlds ++
    [MEM_TESTABORTS_COUNT, COR_OFLIP_FLIP, COR_TREF_A_TEMP, COR_TREF_B_TEMP, CAL_STATUS_PHASE, CAL_STATUS_COMPUTE,
    CAL_STATUS_PENDING]) s t
  | .trimHandoffTimeout .. =>
    t = { s with regs := t.regs, evt := t.evt, mem := t.mem, corr := t.corr, cal := t.cal, chain := t.chain, baind :=
                   t.baind, outs := t.outs } ∧ regsOutside [Blk.EVT] (grantFlds ++ [MEM_TESTABORTS_COUNT,
    CAL_STATUS_PHASE, CAL_STATUS_COMPUTE, CAL_STATUS_PENDING, CAL_LASTRESULT_TRIMDROP]) s t
  | .calAbort .. =>
    t = { s with regs := t.regs, evt := t.evt, mem := t.mem, mbx := t.mbx, corr := t.corr, cal := t.cal, gref :=
                   t.gref, valves := t.valves, chain := t.chain, baind := t.baind, ssp := t.ssp, fb := t.fb, outs :=
                   t.outs } ∧ regsOutside [Blk.GLB, Blk.EVT, Blk.VLV, Blk.VBK, Blk.MBX] calAbortFlds s t
  | .grefStart .. =>
    t = { s with regs := t.regs, cal := t.cal, gref := t.gref, chain := t.chain, outs := t.outs } ∧ regsOutside
    [Blk.GLB] (grantFlds ++ [CAL_STATUS_PHASE, CAL_STATUS_PENDING, CAL_STATUS_REFUSED, CAL_GREF_BUSY, LOOP_STAT_GREF])
    s t
  | .grefWindow1End .. | .grefSettled .. =>
    t = { s with gref := t.gref }
  | .grefSettleTimeout .. =>
    t = { s with regs := t.regs, evt := t.evt, mem := t.mem, mbx := t.mbx, cal := t.cal, gref := t.gref, chain :=
                   t.chain, baind := t.baind, ssp := t.ssp, fb := t.fb, outs := t.outs } ∧ regsOutside [Blk.EVT,
    Blk.MBX] (boxFlds ++ grantFlds ++ [MEM_TESTABORTS_COUNT, CAL_STATUS_PHASE, CAL_STATUS_COMPUTE, CAL_STATUS_PENDING,
    CAL_GREF_BUSY, CAL_GREF_FAIL, LOOP_STAT_GREF]) s t
  | .grefWindow2End .. =>
    t = { s with regs := t.regs, evt := t.evt, mem := t.mem, mbx := t.mbx, cal := t.cal, gref := t.gref, chain :=
                   t.chain, baind := t.baind, ssp := t.ssp, fb := t.fb, outs := t.outs } ∧ regsOutside [Blk.EVT,
    Blk.MBX] (boxFlds ++ grantFlds ++ [MEM_TESTABORTS_COUNT, CAL_STATUS_PHASE, CAL_STATUS_COMPUTE, CAL_STATUS_PENDING,
    CAL_GREF_BUSY, CAL_GREF_FAIL, CAL_GREF_PENDAPPLY, CAL_GREF_OUTLIM, LOOP_STAT_GREF]) s t
  | .grefDone .. =>
    t = { s with regs := t.regs, evt := t.evt, mem := t.mem, mbx := t.mbx, cal := t.cal, gref := t.gref, chain :=
                   t.chain, baind := t.baind, ssp := t.ssp, fb := t.fb, outs := t.outs } ∧ regsOutside [Blk.EVT,
    Blk.MBX] (boxFlds ++ grantFlds ++ [MEM_TESTABORTS_COUNT, CAL_STATUS_PHASE, CAL_STATUS_COMPUTE, CAL_STATUS_PENDING,
    CAL_GREF_BUSY, CAL_GREF_DONE, LOOP_STAT_GREF]) s t
  | .gapply .. =>
    t = { s with regs := t.regs, mem := t.mem, corr := t.corr, cal := t.cal, gref := t.gref, chain := t.chain, baind
                   := t.baind, outs := t.outs } ∧ regsOutside [Blk.GLB] (grantFlds ++ [MEM_TESTABORTS_COUNT,
    COR_STAT_WRERR, CAL_STATUS_PHASE, CAL_STATUS_COMPUTE, CAL_STATUS_PENDING, CAL_STATUS_REFUSED, CAL_GREF_PENDAPPLY])
    s t
  | .sliceComplete .. =>
    t = { s with regs := t.regs, free := t.free, power := t.power, evt := t.evt, mem := t.mem, mbx := t.mbx, trk :=
                   t.trk, loops := t.loops, braid := t.braid, knots := t.knots, sched := t.sched, valves := t.valves,
                 baind := t.baind, ssp := t.ssp, tap := t.tap, fb := t.fb, outs := t.outs } ∧ regsOutside [Blk.EVT,
    Blk.BRD, Blk.VLV, Blk.VBK, Blk.MEM, Blk.MBX] (driveFlds ++ boxFlds ++ [KNT_STAT_FULL, KNT_STAT_FULLSEEN,
    KNT_STAT_SPLIT, KNT_OPEN_NOW, KNT_OPEN_MAX, KNT_LOSTCNT_COUNT, KNT_SPLITCNT_COUNT, KNT_DROPCNT_COUNT,
    EJS_QOCC_MAX, EJS_QOCC_MAXCH, ETH_TAPCTL_BUSY, ETH_TAPWR_INDEX, ETH_TAPSTAT_RECSIZE, ETH_TAPSTAT_HALT,
    ETH_TAPSTAT_OVRSEEN, ETH_TAPDROP_OVERRUN, ETH_TAPDROP_MISSED]) s t
  | .verdictIssue .. =>
    t = { s with regs := t.regs, free := t.free, power := t.power, evt := t.evt, mem := t.mem, loops := t.loops, knots
                   := t.knots, sched := t.sched, valves := t.valves, outs := t.outs } ∧ regsOutside [Blk.EVT, Blk.VRD,
    Blk.VLV, Blk.VBK, Blk.MEM] (driveFlds ++ [KNT_STAT_FULL, KNT_STAT_FULLSEEN, KNT_OPEN_NOW, KNT_OPEN_MAX,
    KNT_CLOSED_COUNT, KNT_DROPCNT_COUNT, EJS_STAT_DROP, EJS_STAT_LATE, EJS_STAT_CLIP, EJS_STAT_NOVALVE,
    EJS_FIRECNT_COUNT, EJS_MERGECNT_COUNT, EJS_DROPCNT_COUNT, EJS_LATECNT_COUNT, EJS_CLIPCNT_COUNT, EJS_NOVALVE_COUNT,
    EJS_BLINDCNT_COUNT, EJS_NOTOWNED_COUNT, EJS_BONECNT_COUNT, EJS_QOCC_MAX, EJS_QOCC_MAXCH, CHN_SPLTX_COUNT,
    CHN_SPLDROP_COUNT]) s t
  | .brdParamWrite .. =>
    t = { s with regs := t.regs, braid := t.braid } ∧ regsOutside [Blk.GLB] [BRD_STAT_WRERR, BRD_VNOM_V,
    BRD_GEOM_PITCH, BRD_GEOM_TILT, BRD_GRAV_G, BRD_HYPSET_K, BRD_HYPSET_SPACING] s t
  | .brdTableComputeDone .. =>
    t = { s with regs := t.regs, evt := t.evt, mem := t.mem, braid := t.braid } ∧ regsOutside [Blk.EVT]
    [MEM_TESTABORTS_COUNT, BRD_STAT_KRED, BRD_STAT_DEPTHERR, BRD_TSTAT_SWPEND] s t
  | .brdUnlayWrite .. =>
    t = { s with regs := t.regs, live := t.live } ∧ regsOutside [Blk.GLB] [BRD_STAT_WRERR, BRD_UNLAY_BETA,
    BRD_UNLAY_BYPASS, BRD_UNLAY_PEND] s t
  | .brdSwitch .. =>
    t = { s with regs := t.regs, evt := t.evt, mem := t.mem, braid := t.braid } ∧ regsOutside [Blk.GLB, Blk.EVT]
    [MEM_TESTABORTS_COUNT, BRD_STAT_WRERR, BRD_STAT_DEPTHERR, BRD_STAT_ORDERR, BRD_TSTAT_SWPEND, BRD_TCMD_NEWK] s t
  | .brdRestart .. =>
    t = { s with regs := t.regs, braid := t.braid } ∧ regsOutside [Blk.GLB] [] s t
  | .brdTrackEval .. =>
    t = { s with regs := t.regs, evt := t.evt, mem := t.mem, braid := t.braid } ∧ regsOutside [Blk.EVT, Blk.BRD]
    [MEM_TESTABORTS_COUNT] s t
  | .kntThrWrite .. =>
    t = { s with regs := t.regs, live := t.live } ∧ regsOutside [Blk.GLB] [KNT_STAT_WRERR, KNT_THR_OPEN,
    KNT_THR_CLOSE] s t
  | .vrdSwitch .. =>
    t = { s with regs := t.regs, sched := t.sched } ∧ regsOutside [Blk.GLB] [VRD_CTRL_SWPEND, VRD_STAT_WRERR] s t
  | .mapsw .. =>
    t = { s with regs := t.regs, sched := t.sched } ∧ regsOutside [Blk.GLB] [EJS_CTRL_MAPPEND] s t
  | .qflush .. =>
    t = { s with regs := t.regs, sched := t.sched } ∧ regsOutside [Blk.GLB, Blk.VLV] [EJS_QOCC_MAX, EJS_QOCC_MAXCH] s
    t
  | .ejsStagedWrite .. =>
    t = { s with regs := t.regs, live := t.live } ∧ regsOutside [Blk.GLB] [EJS_CTRL_ROWS, EJS_CTRL_BONE,
    EJS_CTRL_LATEPOL, EJS_CTRL_LEADAUTO, EJS_STAT_WRERR, EJS_DISTA_D, EJS_DISTB_D, EJS_MARGIN_TMARG, EJS_MARGIN_LMARG,
    EJS_MERGE_GAP, EJS_LEAD_OFS, EJS_LEAD_MINAVG] s t
  | .firingOpen .. =>
    t = { s with time := t.time, regs := t.regs, free := t.free, evt := t.evt, mem := t.mem, sched := t.sched, valves
                   := t.valves } ∧ regsOutside [Blk.EVT, Blk.VLV, Blk.VBK, Blk.MEM] [EJS_STAT_DROP, EJS_STAT_CLIP,
    EJS_FIRECNT_COUNT, EJS_MERGECNT_COUNT, EJS_DROPCNT_COUNT, EJS_CLIPCNT_COUNT, EJS_QOCC_MAX, EJS_QOCC_MAXCH,
    ARB_STAT_TOKENS, ARB_STAT_FBUSED, ARB_STAT_NEFF, ARB_STAT_DIPCUT, ARB_TOKMAX_MAX, ARB_LYSTAT_STATE] s t
  | .tokenGrant .. =>
    t = { s with regs := t.regs, free := t.free, valves := t.valves } ∧ regsOutside [Blk.VLV, Blk.VBK]
    [ARB_STAT_TOKENS, ARB_STAT_FBUSED, ARB_STAT_NEFF, ARB_STAT_DIPCUT, ARB_TOKMAX_MAX, ARB_LYSTAT_STATE] s t
  | .tokenDeadline .. =>
    t = { s with time := t.time, regs := t.regs, free := t.free, evt := t.evt, mem := t.mem, sched := t.sched, valves
                   := t.valves } ∧ regsOutside [Blk.EVT, Blk.VLV, Blk.VBK] [MEM_TESTABORTS_COUNT, EJS_QOCC_MAX,
    EJS_QOCC_MAXCH, ARB_STAT_TOKENS, ARB_STAT_FBUSED, ARB_STAT_NEFF, ARB_STAT_DIPCUT, ARB_TOKMAX_MAX,
    ARB_LYSTAT_STATE] s t
  | .peakEnd .. | .holdEntry .. | .currentZero .. =>
    t = { s with regs := t.regs, valves := t.valves } ∧ regsOutside [Blk.VLV, Blk.VBK] [ARB_STAT_TOKENS,
    ARB_STAT_FBUSED, ARB_STAT_NEFF, ARB_STAT_DIPCUT, ARB_TOKMAX_MAX, ARB_LYSTAT_STATE] s t
  | .peakTimeout .. =>
    t = { s with time := t.time, regs := t.regs, evt := t.evt, mem := t.mem, mbx := t.mbx, cal := t.cal, sched :=
                   t.sched, valves := t.valves, baind := t.baind, ssp := t.ssp, fb := t.fb, outs := t.outs } ∧
    regsOutside [Blk.EVT, Blk.VLV, Blk.VBK, Blk.MBX] (driveFlds ++ boxFlds ++ [MEM_TESTABORTS_COUNT, CAL_STATUS_PHASE,
    CAL_STATUS_COMPUTE, CAL_STATUS_BACKOFF, CAL_FAILS_COUNT, CAL_LASTRESULT_CODE, CAL_LASTRESULT_TRIG,
    CAL_LASTRESULT_ORPHAN, CAL_LASTRESULT_TRIMDROP, EJS_QOCC_MAX, EJS_QOCC_MAXCH, ARB_LYSTAT_FLT,
    ARB_LYSTAT_FLTCAUSE]) s t
  | .chopPeriod .. | .overcurrent .. | .drainShort .. =>
    t = { s with regs := t.regs, evt := t.evt, mem := t.mem, mbx := t.mbx, cal := t.cal, sched := t.sched, valves :=
                   t.valves, baind := t.baind, ssp := t.ssp, fb := t.fb, outs := t.outs } ∧ regsOutside [Blk.EVT,
    Blk.VLV, Blk.VBK, Blk.MBX] (driveFlds ++ boxFlds ++ [MEM_TESTABORTS_COUNT, CAL_STATUS_PHASE, CAL_STATUS_COMPUTE,
    CAL_STATUS_BACKOFF, CAL_FAILS_COUNT, CAL_LASTRESULT_CODE, CAL_LASTRESULT_TRIG, CAL_LASTRESULT_ORPHAN,
    CAL_LASTRESULT_TRIMDROP, EJS_QOCC_MAX, EJS_QOCC_MAXCH, ARB_LYSTAT_FLT, ARB_LYSTAT_FLTCAUSE]) s t
  | .firingClose .. =>
    t = { s with time := t.time, regs := t.regs, free := t.free, evt := t.evt, mem := t.mem, sched := t.sched, valves
                   := t.valves } ∧ regsOutside [Blk.EVT, Blk.VLV, Blk.VBK] [MEM_TESTABORTS_COUNT, EJS_QOCC_MAX,
    EJS_QOCC_MAXCH, ARB_STAT_TOKENS, ARB_STAT_FBUSED, ARB_STAT_NEFF, ARB_STAT_DIPCUT, ARB_TOKMAX_MAX,
    ARB_LYSTAT_STATE, ARB_LYSTAT_CLOSED] s t
  | .coilThermalUpdate .. =>
    t = { s with regs := t.regs, evt := t.evt, mem := t.mem, mbx := t.mbx, cal := t.cal, sched := t.sched, valves :=
                   t.valves, baind := t.baind, ssp := t.ssp, fb := t.fb, outs := t.outs } ∧ regsOutside [Blk.EVT,
    Blk.VLV, Blk.VBK, Blk.MBX] (driveFlds ++ boxFlds ++ [MEM_TESTABORTS_COUNT, CAL_STATUS_PHASE, CAL_STATUS_COMPUTE,
    CAL_STATUS_BACKOFF, CAL_FAILS_COUNT, CAL_LASTRESULT_CODE, CAL_LASTRESULT_TRIG, CAL_LASTRESULT_ORPHAN,
    CAL_LASTRESULT_TRIMDROP, EJS_STAT_DROP, EJS_STAT_CLIP, EJS_FIRECNT_COUNT, EJS_MERGECNT_COUNT, EJS_DROPCNT_COUNT,
    EJS_CLIPCNT_COUNT, EJS_QOCC_MAX, EJS_QOCC_MAXCH, ARB_LYSTAT_CLIMIT, ARB_LYSTAT_TEMP]) s t
  | .openingKink .. =>
    t = { s with time := t.time, regs := t.regs, valves := t.valves } ∧ regsOutside [Blk.VLV] [] s t
  | .closingKink .. =>
    t = { s with time := t.time, regs := t.regs, free := t.free, valves := t.valves } ∧ regsOutside [Blk.VLV, Blk.VBK]
    [] s t
  | .positionEdge .. =>
    t = { s with regs := t.regs, free := t.free, valves := t.valves } ∧ regsOutside [Blk.VLV, Blk.VBK] [] s t
  | .openingWindowEnd .. =>
    t = { s with time := t.time, regs := t.regs, evt := t.evt, mem := t.mem, valves := t.valves } ∧ regsOutside
    [Blk.EVT, Blk.VLV] [MEM_TESTABORTS_COUNT] s t
  | .closingWindowEnd .. =>
    t = { s with time := t.time, regs := t.regs, free := t.free, evt := t.evt, mem := t.mem, valves := t.valves } ∧
    regsOutside [Blk.EVT, Blk.VLV, Blk.VBK] [MEM_TESTABORTS_COUNT] s t
  | .railNodeShort .. | .railStuckHigh .. =>
    t = { s with regs := t.regs, evt := t.evt, mem := t.mem, mbx := t.mbx, cal := t.cal, sched := t.sched, valves :=
                   t.valves, baind := t.baind, ssp := t.ssp, fb := t.fb, outs := t.outs } ∧ regsOutside [Blk.EVT,
    Blk.VLV, Blk.VBK, Blk.MBX] (driveFlds ++ boxFlds ++ [MEM_TESTABORTS_COUNT, CAL_STATUS_PHASE, CAL_STATUS_COMPUTE,
    CAL_STATUS_BACKOFF, CAL_FAILS_COUNT, CAL_LASTRESULT_CODE, CAL_LASTRESULT_TRIG, CAL_LASTRESULT_ORPHAN,
    CAL_LASTRESULT_TRIMDROP, EJS_QOCC_MAX, EJS_QOCC_MAXCH, ARB_LYSTAT_FLT]) s t
  | .boostMeasure .. =>
    t = { s with regs := t.regs, evt := t.evt, mem := t.mem } ∧ regsOutside [Blk.EVT] [MEM_TESTABORTS_COUNT,
    ARB_STAT_TOKENS, ARB_STAT_FBUSED, ARB_STAT_NEFF, ARB_STAT_DIPCUT, ARB_TOKMAX_MAX, ARB_BSTMEAS_VBST,
    ARB_BSTMEAS_READY, ARB_BSTMEAS_OV, ARB_BSTMEAS_OVSEEN] s t
  | .vlvClrflt .. =>
    t = { s with regs := t.regs } ∧ regsOutside [Blk.GLB, Blk.VLV] [] s t
  | .vbkClrflt .. =>
    t = { s with regs := t.regs } ∧ regsOutside [Blk.GLB, Blk.VBK] [] s t
  | .driveEnableWrite .. =>
    t = { s with regs := t.regs, evt := t.evt, mem := t.mem, sched := t.sched, valves := t.valves }
  | .lyEnergise .. =>
    t = { s with regs := t.regs, free := t.free, valves := t.valves } ∧ regsOutside [Blk.GLB, Blk.VLV, Blk.VBK]
    (driveFlds ++ [ARB_STAT_WRERR, ARB_LYSTAT_OPEN]) s t
  | .lyClrflt .. =>
    t = { s with regs := t.regs } ∧ regsOutside [Blk.GLB] [ARB_LYSTAT_FLT, ARB_LYSTAT_FLTCAUSE] s t
  | .vvalThreshold .. =>
    t = { s with regs := t.regs, evt := t.evt, mem := t.mem } ∧ regsOutside [Blk.EVT] [MEM_TESTABORTS_COUNT,
    PWR_STAT_VVALWARN, PWR_STAT_VVALLOW, PWR_STAT_VVALHIGH, ARB_STAT_VVALLOW] s t
  | .budgetEval .. =>
    t = { s with regs := t.regs, free := t.free, evt := t.evt, mem := t.mem, house := t.house } ∧ regsOutside
    [Blk.EVT] [MEM_TESTABORTS_COUNT, PWR_STAT_OVERBUD, PWR_STAT_OVBSEEN, PWR_IVIN_MA, PWR_IVIN_MAX, PWR_CLKDIV_DIV,
    PWR_CLKDIV_BUDDIV, PWR_CLKDIV_THMDIV, PWR_CLKDIV_TAPSKIP, PWR_CLKDIV_MGTSKIP, THM_STAT_STEP, STG_HTRPWR_POWER,
    STG_HTRPWR_LIMIT, ARB_GRANT_CLUSTER, ARB_GRANT_TAP, ARB_GRANT_HEATER, ETH_TAPSTAT_HALT] s t
  | .overbudgetRelease .. =>
    t = { s with regs := t.regs } ∧ regsOutside [] [PWR_STAT_OVERBUD] s t
  | .pwrBudprioWrite .. =>
    t = { s with regs := t.regs } ∧ regsOutside [Blk.GLB] [PWR_STAT_WRERR, PWR_BUDPRIO_FIRST, PWR_BUDPRIO_SECOND,
    PWR_BUDPRIO_THIRD] s t
  | .thermalSample .. | .thermalSensorExclude .. | .thermalSensorReadmit .. =>
    t = { s with regs := t.regs, evt := t.evt, mem := t.mem, mbx := t.mbx, sensor := t.sensor, corr := t.corr, cal :=
                   t.cal, gref := t.gref, loops := t.loops, sched := t.sched, valves := t.valves, chain := t.chain,
                 baind := t.baind, ssp := t.ssp, house := t.house, fb := t.fb, outs := t.outs } ∧ regsOutside
    [Blk.EVT, Blk.THM, Blk.VLV, Blk.VBK, Blk.MBX] (calAbortFlds ++ [GLB_STAT_STATE, GLB_CTRL_RUN, GLB_STAT_FAULT,
    PWR_CLKDIV_DIV, PWR_CLKDIV_THMDIV, PWR_CLKDIV_TAPSKIP, PWR_CLKDIV_MGTSKIP, STG_HTRPWR_POWER, STG_HTRPWR_LIMIT,
    EJS_QOCC_MAX, EJS_QOCC_MAXCH, ARB_CTRL_EN, MEM_DDRSTAT_SELFREF, ETH_TAPSTAT_HALT]) s t
  | .thermalLevelEnter .. =>
    t = { s with regs := t.regs, evt := t.evt, mem := t.mem, mbx := t.mbx, sensor := t.sensor, corr := t.corr, cal :=
                   t.cal, gref := t.gref, loops := t.loops, sched := t.sched, valves := t.valves, chain := t.chain,
                 baind := t.baind, ssp := t.ssp, house := t.house, fb := t.fb, outs := t.outs } ∧ regsOutside
    [Blk.EVT, Blk.VLV, Blk.VBK, Blk.MBX] (calAbortFlds ++ [GLB_STAT_STATE, GLB_CTRL_RUN, GLB_STAT_FAULT,
    PWR_CLKDIV_DIV, PWR_CLKDIV_THMDIV, PWR_CLKDIV_TAPSKIP, PWR_CLKDIV_MGTSKIP, THM_STAT_LSTATE, THM_STAT_PSTATE,
    THM_STAT_STEP, THM_STAT_LFORCED, THM_STAT_PFORCED, THM_STAT_SDSEEN, THM_STAT_LVALID, THM_STAT_PVALID,
    THM_SDCNT_COUNT, STG_HTRPWR_POWER, STG_HTRPWR_LIMIT, EJS_QOCC_MAX, EJS_QOCC_MAXCH, ARB_CTRL_EN,
    MEM_DDRSTAT_SELFREF, ETH_TAPSTAT_HALT]) s t
  | .thermalLevelLeave .. =>
    t = { s with regs := t.regs, evt := t.evt, mem := t.mem, house := t.house } ∧ regsOutside [Blk.EVT]
    [MEM_TESTABORTS_COUNT, PWR_CLKDIV_DIV, PWR_CLKDIV_THMDIV, PWR_CLKDIV_TAPSKIP, PWR_CLKDIV_MGTSKIP, THM_STAT_LSTATE,
    THM_STAT_PSTATE, THM_STAT_STEP, THM_STAT_LFORCED, THM_STAT_PFORCED, THM_STAT_LVALID, THM_STAT_PVALID,
    STG_HTRPWR_POWER, STG_HTRPWR_LIMIT, ETH_TAPSTAT_HALT] s t
  | .throttleStep2 .. =>
    t = { s with time := t.time, regs := t.regs, evt := t.evt, mem := t.mem, house := t.house } ∧ regsOutside
    [Blk.EVT] [MEM_TESTABORTS_COUNT, PWR_CLKDIV_DIV, PWR_CLKDIV_THMDIV, PWR_CLKDIV_TAPSKIP, PWR_CLKDIV_MGTSKIP,
    THM_STAT_STEP, STG_HTRPWR_POWER, STG_HTRPWR_LIMIT, ETH_TAPSTAT_HALT] s t
  | .thmRestart .. =>
    t = { s with regs := t.regs, evt := t.evt, mem := t.mem, sensor := t.sensor, cal := t.cal, tmx := t.tmx, house :=
                   t.house } ∧ regsOutside [Blk.GLB, Blk.EVT] [MEM_TESTABORTS_COUNT, THM_STAT_WRERR, STG_CTRL_BIAS_EN,
    STG_CTRL_HTR_EN, STG_STAT_OVERTEMP, MEM_DDRSTAT_SELFREF, TMX_CTRL_BSCANEN] s t
  | .autoRestart .. =>
    t = { s with regs := t.regs, evt := t.evt, mem := t.mem, sensor := t.sensor, cal := t.cal, tmx := t.tmx, house :=
                   t.house } ∧ regsOutside [Blk.EVT] [GLB_STAT_STATE, MEM_TESTABORTS_COUNT, GLB_STAT_FAULT,
    GLB_SAFECAUSE_CAUSES, STG_CTRL_BIAS_EN, STG_CTRL_HTR_EN, STG_STAT_OVERTEMP, MEM_DDRSTAT_SELFREF, TMX_CTRL_BSCANEN]
    s t
  | .dramTempRead .. =>
    t = { s with regs := t.regs } ∧ regsOutside [] [THM_DRAM_RATE, THM_DRAM_VALID] s t
  | .hkaConversion .. =>
    t = { s with regs := t.regs, free := t.free, evt := t.evt, mem := t.mem, gref := t.gref, loops := t.loops, house
                   := t.house } ∧ regsOutside [Blk.EVT, Blk.HKA] [MEM_TESTABORTS_COUNT, PWR_VIN_VIN, PWR_VIN_VVAL,
    PWR_DIPMIN_V, LOOP_STAT_BKOVER, LOOP_BKU_U] s t
  | .rtdStale .. =>
    t = { s with regs := t.regs } ∧ regsOutside [] [HKA_RTDTEMP_VALID] s t
  | .hkaScalStart .. =>
    t = { s with regs := t.regs } ∧ regsOutside [Blk.GLB] [HKA_STAT_SCALBUSY] s t
  | .hkaScalDone .. =>
    t = { s with regs := t.regs, evt := t.evt, mem := t.mem, mbx := t.mbx, baind := t.baind, ssp := t.ssp, house :=
                   t.house, fb := t.fb, outs := t.outs } ∧ regsOutside [Blk.EVT, Blk.MBX] (boxFlds ++
    [MEM_TESTABORTS_COUNT, HKA_STAT_SCALBUSY, HKA_STAT_SCALDONE, HKA_CALGAIN_GAIN, HKA_CALOFS_OFS]) s t
  | .heaterPeriodStart .. | .heaterOutputOff .. =>
    t = { s with time := t.time, loops := t.loops }
  | .preheatWindowEnd .. =>
    t = { s with time := t.time, regs := t.regs, evt := t.evt, mem := t.mem, loops := t.loops } ∧ regsOutside
    [Blk.EVT] [MEM_TESTABORTS_COUNT, LOOP_STAT_PHVALID, LOOP_STAT_PHSTALE, LOOP_STAT_PHSAT, LOOP_STAT_PHINV,
    LOOP_PHPV_PV, LOOP_PHPV_N, LOOP_PHU_U, LOOP_PHU_I] s t
  | .backdropLoopUpdate .. =>
    t = { s with time := t.time, regs := t.regs, evt := t.evt, mem := t.mem, loops := t.loops } ∧ regsOutside
    [Blk.EVT] [MEM_TESTABORTS_COUNT, LOOP_STAT_BKVALID, LOOP_STAT_BKSAT, LOOP_BKPV_PV, LOOP_BKU_U, LOOP_BKU_I] s t
  | .loopCtrlWrite .. =>
    t = { s with regs := t.regs, loops := t.loops }
  | .loopClear .. =>
    t = { s with regs := t.regs } ∧ regsOutside [Blk.GLB] [LOOP_PHU_I, LOOP_BKU_I] s t
  | .scrubWriteback .. =>
    t = { s with mem := t.mem }
  | .bightStart .. =>
    t = { s with regs := t.regs, evt := t.evt, mem := t.mem } ∧ regsOutside [Blk.EVT, Blk.MEM] [] s t
  | .bightDone .. =>
    t = { s with regs := t.regs, evt := t.evt, mem := t.mem } ∧ regsOutside [Blk.EVT] [MEM_TESTABORTS_COUNT,
    MEM_STAT_TESTRUN, MEM_STAT_FAILSEEN, MEM_TESTPOS_ACTIVE, MEM_TESTPASS_COUNT, MEM_TESTFAIL_COUNT,
    MEM_FAILADDR_BANK, MEM_FAILADDR_BIGHT, MEM_FAILADDR_BIT, MEM_FAILADDR_VALID] s t
  | .bightRestoreDone .. =>
    t = { s with regs := t.regs, mem := t.mem } ∧ regsOutside [] [MEM_STAT_TESTRUN, MEM_TESTPOS_ACTIVE,
    MEM_TESTPASS_COUNT, MEM_TESTSKIP_COUNT] s t
  | .bightSkip .. =>
    t = { s with regs := t.regs, mem := t.mem } ∧ regsOutside [] [MEM_TESTPASS_COUNT, MEM_TESTSKIP_COUNT] s t
  | .memRetctlWrite .. =>
    t = { s with regs := t.regs, mem := t.mem } ∧ regsOutside [Blk.GLB] [MEM_STAT_WRERR, MEM_RETCTL_PB, MEM_RETCTL_UB,
    MEM_RETCTL_BB, MEM_RETCTL_KB, MEM_RETCTL_SP, MEM_RETSTAT_RET] s t
  | .retentionWake .. =>
    t = { s with regs := t.regs, mem := t.mem } ∧ regsOutside [] [GLB_STAT_STATE, GLB_CTRL_RUN, MEM_RETCTL_PB,
    MEM_RETCTL_UB, MEM_RETCTL_BB, MEM_RETCTL_KB, MEM_RETCTL_SP, MEM_RETSTAT_RET, MEM_RETSTAT_WAKES] s t
  | .tableMemoryReload .. =>
    t = { s with regs := t.regs, evt := t.evt, mem := t.mem, mbx := t.mbx, sensor := t.sensor, corr := t.corr, cal :=
                   t.cal, gref := t.gref, loops := t.loops, braid := t.braid, sched := t.sched, valves := t.valves,
                 chain := t.chain, baind := t.baind, ssp := t.ssp, house := t.house, fb := t.fb, outs := t.outs } ∧
    regsOutside [Blk.EVT, Blk.VLV, Blk.VBK, Blk.MBX] (safeFlds ++ [BRD_TSTAT_SWPEND, VRD_CTRL_SWPEND, VRD_STAT_WRERR,
    EJS_CTRL_MAPPEND]) s t
  | .hartenWrite .. =>
    t = { s with regs := t.regs } ∧ regsOutside [Blk.GLB] [] s t
  | .hartOffline .. =>
    t = { s with regs := t.regs, evt := t.evt, mem := t.mem, tmx := t.tmx } ∧ regsOutside [Blk.EVT]
    [MEM_TESTABORTS_COUNT, GLB_CORECTL_HARTON] s t
  | .appweWrite .. | .counterClear .. =>
    t = { s with regs := t.regs }
  | .registerWrite .. | .loWordRead .. =>
    t = { s with bus := t.bus, regs := t.regs, free := t.free, power := t.power, evt := t.evt, mem := t.mem, wins :=
                   t.wins, mbx := t.mbx, sensor := t.sensor, corr := t.corr, cal := t.cal, gref := t.gref, tmx :=
                   t.tmx, loops := t.loops, live := t.live, braid := t.braid, knots := t.knots, sched := t.sched,
                 valves := t.valves, chain := t.chain, baind := t.baind, ssp := t.ssp, net := t.net, flash := t.flash,
                 house := t.house, fb := t.fb, outs := t.outs }
  | .tableDataRead .. =>
    t = { s with bus := t.bus, regs := t.regs, free := t.free, power := t.power, evt := t.evt, mem := t.mem, wins :=
                   t.wins, loops := t.loops, sched := t.sched, valves := t.valves, flash := t.flash, outs := t.outs }
    ∧ regsOutside [Blk.EVT, Blk.TIL, Blk.VLV, Blk.VBK, Blk.MEM] (driveFlds ++ [GLB_TBL_STAT_RANGE, CAL_REFSEL_LANE,
    EJS_QOCC_MAX, EJS_QOCC_MAXCH, FLS_STAT_RANGE, FLS_STAT_SUSPSEEN, FLS_STAT_WAITSEEN, FLS_HITCNT_COUNT,
    FLS_MISSCNT_COUNT, FLS_ERRCNT_COUNT, TMX_TPSEL_INDEX]) s t
  | .tableDataWrite .. | .sspRegisterWriteFrame .. =>
    t = { s with regs := t.regs, free := t.free, power := t.power, evt := t.evt, mem := t.mem, wins := t.wins, mbx :=
                   t.mbx, sensor := t.sensor, corr := t.corr, cal := t.cal, gref := t.gref, tmx := t.tmx, loops :=
                   t.loops, live := t.live, braid := t.braid, knots := t.knots, sched := t.sched, valves := t.valves,
                 chain := t.chain, baind := t.baind, ssp := t.ssp, net := t.net, flash := t.flash, house := t.house,
                 fb := t.fb, outs := t.outs }
  | .mbxSend .. =>
    t = { s with regs := t.regs, mbx := t.mbx, outs := t.outs } ∧ regsOutside [Blk.MBX] [GLB_STAT_PROTERR] s t
  | .evtForce .. =>
    t = { s with regs := t.regs, evt := t.evt, mem := t.mem } ∧ regsOutside [Blk.GLB, Blk.EVT] [MEM_TESTABORTS_COUNT]
    s t
  | .evtCntclr .. | .evtClrall .. =>
    t = { s with regs := t.regs } ∧ regsOutside [Blk.GLB, Blk.EVT] [] s t
  | .evtPinPulseEnd .. =>
    t = { s with time := t.time, evt := t.evt }
  | .logPageCopy .. =>
    t = { s with regs := t.regs, evt := t.evt, mem := t.mem, flash := t.flash } ∧ regsOutside [Blk.EVT, Blk.MEM]
    [FLS_STAT_CONT] s t
  | .saveTablesDone .. | .updEraseDone .. =>
    t = { s with regs := t.regs, evt := t.evt, mem := t.mem, mbx := t.mbx, baind := t.baind, ssp := t.ssp, flash :=
                   t.flash, fb := t.fb, outs := t.outs } ∧ regsOutside [Blk.EVT, Blk.MBX] (boxFlds ++
    [MEM_TESTABORTS_COUNT, FLS_STAT_BUSY]) s t
  | .restoreTablesDone .. =>
    t = { s with regs := t.regs, evt := t.evt, mem := t.mem, mbx := t.mbx, sensor := t.sensor, corr := t.corr, live :=
                   t.live, braid := t.braid, sched := t.sched, baind := t.baind, ssp := t.ssp, house := t.house, fb :=
                   t.fb, outs := t.outs }
  | .sessionIdleExpiry .. =>
    t = { s with time := t.time, regs := t.regs, baind := t.baind } ∧ regsOutside [] [ETH_STAT_SESSIONS] s t
  | .updVerifyDone .. =>
    t = { s with regs := t.regs, free := t.free, evt := t.evt, mem := t.mem, mbx := t.mbx, baind := t.baind, ssp :=
                   t.ssp, flash := t.flash, fb := t.fb, outs := t.outs } ∧ regsOutside [Blk.EVT, Blk.MBX] (boxFlds ++
    [MEM_TESTABORTS_COUNT]) s t
  | .replyCacheExpiry .. =>
    t = { s with time := t.time, baind := t.baind }
  | .forwardTimeout .. =>
    t = { s with time := t.time, regs := t.regs, mem := t.mem, mbx := t.mbx, baind := t.baind, ssp := t.ssp, fb :=
                   t.fb, outs := t.outs } ∧ regsOutside [Blk.MBX] (boxFlds ++ [MEM_TESTABORTS_COUNT]) s t
  | .dhcpMessage .. =>
    t = { s with regs := t.regs, net := t.net, outs := t.outs } ∧ regsOutside [] [ETH_STAT_BOUND, ETH_IP_ADDR,
    ETH_MASK_ADDR, ETH_GW_ADDR] s t
  | .ptpMessage .. =>
    t = { s with regs := t.regs, free := t.free, evt := t.evt, mem := t.mem, net := t.net } ∧ regsOutside [Blk.EVT]
    [MEM_TESTABORTS_COUNT, ETH_PTPSTAT_LOCK, ETH_PTPSTAT_OFSVALID, ETH_PTPSTAT_LOSTSEEN, ETH_PTPSTAT_ADJ,
    ETH_PTPOFS_LO_OFS, ETH_PTPOFS_HI_OFS, ETH_PTPRES_RES] s t
  | .ptpSyncTimeout .. =>
    t = { s with regs := t.regs, evt := t.evt, mem := t.mem, net := t.net } ∧ regsOutside [Blk.EVT]
    [MEM_TESTABORTS_COUNT, ETH_PTPSTAT_LOCK, ETH_PTPSTAT_LOSTSEEN] s t
  | .ptpReofs .. =>
    t = { s with regs := t.regs, net := t.net } ∧ regsOutside [Blk.GLB] [] s t
  | .phyStatusPoll .. =>
    t = { s with regs := t.regs, evt := t.evt, mem := t.mem } ∧ regsOutside [Blk.EVT] [MEM_TESTABORTS_COUNT,
    ETH_STAT_LINK, ETH_STAT_SPEED, ETH_STAT_FDX] s t
  | .mdioGo .. =>
    t = { s with regs := t.regs, live := t.live, net := t.net }
  | .mdioAccessDone .. =>
    t = { s with regs := t.regs, net := t.net } ∧ regsOutside [] [ETH_MDIOCMD_BUSY, ETH_MDIOCMD_DATA] s t
  | .sspRegisterReadFrame .. =>
    t = { s with regs := t.regs, free := t.free, evt := t.evt, mem := t.mem, wins := t.wins, ssp := t.ssp, outs :=
                   t.outs } ∧ regsOutside [Blk.EVT, Blk.TIL, Blk.MEM] [GLB_TBL_STAT_RANGE, CAL_REFSEL_LANE,
    SSP_STAT_ERRSEEN, SSP_STAT_ENDSEEN, SSP_STAT_MODE3, SSP_STAT_LASTERR, SSP_FRAMECNT_COUNT, SSP_ERRCNT_COUNT,
    TMX_TPSEL_INDEX] s t
  | .sspStreamReadFrame .. =>
    t = { s with regs := t.regs, evt := t.evt, mem := t.mem, ssp := t.ssp, outs := t.outs } ∧ regsOutside [Blk.EVT]
    [MEM_TESTABORTS_COUNT, SSP_STAT_ERRSEEN, SSP_STAT_MODE3, SSP_STAT_LASTERR, SSP_FRAMECNT_COUNT, SSP_ERRCNT_COUNT,
    SSP_BOX_INSLOTS, SSP_BOX_ABSLOT, SSP_BOX_OUTBYTES] s t
  | .xipRead .. =>
    t = { s with regs := t.regs, evt := t.evt, mem := t.mem, flash := t.flash, outs := t.outs } ∧ regsOutside
    [Blk.EVT] [MEM_TESTABORTS_COUNT, FLS_STAT_RANGE, FLS_STAT_SUSPSEEN, FLS_STAT_WAITSEEN, FLS_HITCNT_COUNT,
    FLS_MISSCNT_COUNT, FLS_ERRCNT_COUNT] s t
  | .xipLineFetchDone .. =>
    t = { s with regs := t.regs, flash := t.flash, outs := t.outs } ∧ regsOutside [] [FLS_STAT_CONT] s t
  | .flashResume .. =>
    t = { s with regs := t.regs, flash := t.flash } ∧ regsOutside [] [FLS_STAT_CONT] s t
  | .flashOperationDone .. =>
    t = { s with regs := t.regs, flash := t.flash } ∧ regsOutside [] [FLS_STAT_BUSY] s t
  | .chainLinkUp .. =>
    t = { s with regs := t.regs, evt := t.evt, mem := t.mem, chain := t.chain, outs := t.outs } ∧ regsOutside
    [Blk.EVT] [MEM_TESTABORTS_COUNT, GLB_STAT_CHIDX, CHN_STAT_INDEX, CHN_STAT_MEMBERS, CHN_STAT_LLINK, CHN_STAT_HLINK,
    CHN_STAT_SPLICEERR, CHN_OFFSET_LANE0] s t
  | .chainLinkDown .. =>
    t = { s with regs := t.regs, evt := t.evt, mem := t.mem, cal := t.cal, chain := t.chain, baind := t.baind, outs :=
                   t.outs } ∧ regsOutside [Blk.EVT] (grantFlds ++ [MEM_TESTABORTS_COUNT, GLB_STAT_UNSYNC,
    CAL_STATUS_PHASE, CAL_STATUS_COMPUTE, CAL_STATUS_PENDING, CHN_STAT_STATE, CHN_STAT_MEMBERS, CHN_STAT_LLINK,
    CHN_STAT_HLINK, CHN_STAT_HITCH, CHN_ORPHANCNT_COUNT]) s t
  | .timeMessage .. =>
    t = { s with regs := t.regs, braid := t.braid, chain := t.chain, outs := t.outs } ∧ regsOutside []
    [STG_FRATE_RATE, CHN_STAT_MSTIDX, CHN_STAT_MEMBERS, CHN_LINKERRCNT_COUNT, CHN_RUN_RUN] s t
  | .chainSyncPulse .. =>
    t = { s with time := t.time, regs := t.regs, evt := t.evt, mem := t.mem, cal := t.cal, chain := t.chain, baind :=
                   t.baind, outs := t.outs } ∧ regsOutside [Blk.EVT] (grantFlds ++ [MEM_TESTABORTS_COUNT,
    GLB_STAT_UNSYNC, CAL_STATUS_PHASE, CAL_STATUS_COMPUTE, CAL_STATUS_PENDING, CHN_STAT_STATE, CHN_STAT_MEMBERS,
    CHN_STAT_HITCH, CHN_HITCHD_D, CHN_HITCHCNT_COUNT, CHN_ORPHANCNT_COUNT]) s t
  | .hitchSlewStep .. =>
    t = { s with time := t.time, regs := t.regs, chain := t.chain } ∧ regsOutside [] [CHN_STAT_HITCH] s t
  | .chainPulseMissing .. =>
    t = { s with regs := t.regs, evt := t.evt, mem := t.mem, cal := t.cal, chain := t.chain, baind := t.baind, outs :=
                   t.outs } ∧ regsOutside [Blk.EVT] (grantFlds ++ [MEM_TESTABORTS_COUNT, GLB_STAT_UNSYNC,
    CAL_STATUS_PHASE, CAL_STATUS_COMPUTE, CAL_STATUS_PENDING, CHN_STAT_STATE, CHN_STAT_MEMBERS, CHN_STAT_HITCH,
    CHN_ORPHANCNT_COUNT]) s t
  | .chainRejoin .. =>
    t = { s with time := t.time, regs := t.regs, free := t.free, evt := t.evt, mem := t.mem, mbx := t.mbx, sensor :=
                   t.sensor, stage := t.stage, corr := t.corr, cal := t.cal, gref := t.gref, trk := t.trk, tmx :=
                   t.tmx, loops := t.loops, live := t.live, braid := t.braid, knots := t.knots, sched := t.sched,
                 valves := t.valves, chain := t.chain, baind := t.baind, ssp := t.ssp, flash := t.flash, tap := t.tap,
                 house := t.house, fb := t.fb, outs := t.outs } ∧ regsOutside [Blk.EVT, Blk.TIL, Blk.COR, Blk.BRD,
    Blk.VLV, Blk.VBK, Blk.MBX] (driveFlds ++ boxFlds ++ grantFlds ++ [MEM_TESTABORTS_COUNT, GLB_STAT_UNSYNC,
    STG_CTRL_BIAS_EN, STG_FRATE_RATE, STG_FRATE_PEND, STG_BIAS_APPLIED, STG_BIAS_PEND, STG_STAT_BIAS_RAMP,
    STG_STAT_CFGERR, STG_STAT_SETTLE, STG_FRAMECNT_COUNT, STG_CFGFRAME_FRAME, CAL_STATUS_PHASE, CAL_STATUS_COMPUTE,
    CAL_STATUS_BLIND, CAL_STATUS_PENDING, CAL_STATUS_BACKOFF, CAL_COUNT_COUNT, CAL_LASTTIME_LO_STAMP,
    CAL_LASTTIME_HI_STAMP, CAL_LASTSTAGE_TEMP, CAL_LASTRESULT_CODE, CAL_LASTRESULT_TRIG, CAL_LASTRESULT_ORPHAN,
    CAL_LASTRESULT_TRIMDROP, CAL_BLIND_US, CAL_ANCHOR_A, CAL_ANCHOR_VALID, CAL_TRKSTAT_FROZEN, KNT_STAT_FULL,
    KNT_STAT_WRERR, KNT_STAT_FULLSEEN, KNT_OPEN_NOW, KNT_OPEN_MAX, KNT_DROPCNT_COUNT, VRD_CTRL_ACTBANK,
    VRD_CTRL_SWPEND, EJS_CTRL_MAPACT, EJS_CTRL_MAPPEND, EJS_STAT_DROP, EJS_STAT_CLIP, EJS_FIRECNT_COUNT,
    EJS_MERGECNT_COUNT, EJS_DROPCNT_COUNT, EJS_CLIPCNT_COUNT, EJS_QOCC_MAX, EJS_QOCC_MAXCH, ARB_CTRL_EN,
    ARB_LYSTAT_OPEN, MEM_DDRSTAT_SELFREF, ETH_PTPSTAT_OFSVALID, ETH_PTPOFS_LO_OFS, ETH_PTPOFS_HI_OFS, ETH_TAPCTL_BUSY,
    ETH_TAPSTAT_RECSIZE, ETH_TAPSTAT_HALT, ETH_TAPDROP_MISSED, CHN_STAT_STATE, CHN_STAT_MSTIDX, CHN_STAT_MEMBERS,
    CHN_REJOIN_LO_STAMP, CHN_REJOIN_HI_STAMP, CHN_RUN_RUN, TMX_BLINDACT_TILES, TMX_TPCTL_PEND, TMX_TPSTAT_ACTIVE]) s t
  | .handover .. =>
    t = { s with regs := t.regs, cal := t.cal, chain := t.chain, outs := t.outs } ∧ regsOutside [] (grantFlds ++
    [ETH_PTPSTAT_OFSVALID, ETH_PTPOFS_LO_OFS, ETH_PTPOFS_HI_OFS, CHN_LINKERRCNT_COUNT]) s t
  | .grantReq .. | .release .. =>
    t = { s with regs := t.regs, cal := t.cal, chain := t.chain, outs := t.outs } ∧ regsOutside [] (grantFlds ++
    [CHN_LINKERRCNT_COUNT]) s t
  | .grant .. =>
    t = { s with regs := t.regs, cal := t.cal, outs := t.outs } ∧ regsOutside [] [CHN_LINKERRCNT_COUNT] s t
  | .grantMaxTimeout .. =>
    t = { s with time := t.time, regs := t.regs, evt := t.evt, mem := t.mem, cal := t.cal, chain := t.chain, outs :=
                   t.outs } ∧ regsOutside [Blk.EVT] (grantFlds ++ [MEM_TESTABORTS_COUNT]) s t
  | .echo .. =>
    t = { s with regs := t.regs } ∧ regsOutside [] [CHN_DELAY_L, CHN_DELAY_H, CHN_LINKERRCNT_COUNT] s t
  | .echoPeriod .. =>
    t = { s with outs := t.outs }
  | .splice .. =>
    t = { s with regs := t.regs, evt := t.evt, mem := t.mem, sched := t.sched } ∧ regsOutside [Blk.EVT, Blk.VLV,
    Blk.MEM] [EJS_STAT_DROP, EJS_STAT_LATE, EJS_STAT_CLIP, EJS_FIRECNT_COUNT, EJS_MERGECNT_COUNT, EJS_DROPCNT_COUNT,
    EJS_LATECNT_COUNT, EJS_CLIPCNT_COUNT, EJS_QOCC_MAX, EJS_QOCC_MAXCH, CHN_SPLRX_COUNT, CHN_LINKERRCNT_COUNT] s t
  | .takemst .. =>
    t = { s with regs := t.regs, chain := t.chain, outs := t.outs } ∧ regsOutside [Blk.GLB] [] s t
  | .chnResync .. =>
    t = { s with regs := t.regs, evt := t.evt, mem := t.mem, cal := t.cal, chain := t.chain, baind := t.baind, outs :=
                   t.outs } ∧ regsOutside [Blk.GLB, Blk.EVT] (grantFlds ++ [MEM_TESTABORTS_COUNT, CAL_STATUS_PHASE,
    CAL_STATUS_COMPUTE, CAL_STATUS_PENDING, CHN_STAT_STATE, CHN_STAT_MEMBERS, CHN_STAT_HITCH, CHN_ORPHANCNT_COUNT]) s
    t
  | .tmxBlindWrite .. =>
    t = { s with regs := t.regs, tmx := t.tmx } ∧ regsOutside [Blk.GLB] [TMX_BLIND_TILES] s t
  | .tmxTpctlWrite .. =>
    t = { s with regs := t.regs, evt := t.evt, mem := t.mem, tmx := t.tmx, sched := t.sched, valves := t.valves }
  | .tmxTpdataWrite .. =>
    t = { s with regs := t.regs, tmx := t.tmx } ∧ regsOutside [Blk.GLB] [TMX_TPSTAT_WRERR, TMX_TPSEL_INDEX] s t
  | .bscanenWrite .. =>
    t = { s with regs := t.regs, evt := t.evt, mem := t.mem, mbx := t.mbx, sensor := t.sensor, corr := t.corr, cal :=
                   t.cal, gref := t.gref, tmx := t.tmx, loops := t.loops, sched := t.sched, valves := t.valves, chain
                   := t.chain, baind := t.baind, ssp := t.ssp, fb := t.fb, outs := t.outs } ∧ regsOutside [Blk.GLB,
    Blk.EVT, Blk.VLV, Blk.VBK, Blk.MBX] (calAbortFlds ++ [EJS_QOCC_MAX, EJS_QOCC_MAXCH, ARB_CTRL_EN,
    TMX_CTRL_BSCANEN]) s t
  | .jtagInstruction .. | .debugHalt .. =>
    t = { s with tmx := t.tmx }
  | .tetherBlockLockLoss .. =>
    t = { s with regs := t.regs, evt := t.evt, mem := t.mem, sensor := t.sensor } ∧ regsOutside [Blk.EVT, Blk.TIL]
    [MEM_TESTABORTS_COUNT] s t
  | .firmwareFault .. =>
    t = { s with regs := t.regs, evt := t.evt, mem := t.mem, mbx := t.mbx, sensor := t.sensor, corr := t.corr, cal :=
                   t.cal, gref := t.gref, loops := t.loops, sched := t.sched, valves := t.valves, chain := t.chain,
                 baind := t.baind, ssp := t.ssp, fb := t.fb, outs := t.outs } ∧ regsOutside [Blk.EVT, Blk.VLV,
    Blk.VBK, Blk.MBX] safeFlds s t
  | .dhcpLeaseTimer .. =>
    t = { s with regs := t.regs, net := t.net, outs := t.outs } ∧ regsOutside [] [ETH_STAT_BOUND] s t

end Sys2Proof

open Sys2Proof Sys2Proof.Machine Sys2Proof.Machine.Reg

/-- A step takes the command at the front of the queue and runs it. (spec/opcode_table.json, log entry 40) -/
def Obligations.StepRunsTheFrontCommand : Prop :=
  ∀ (c : Instr) (r : List Instr) (s : State), s.pending = c :: r → step s = exec c { s with pending := r }

/-- With no command waiting a step is one 2 ns tick of chain time (model choice, log entry 40). (log entry 40) -/
def Obligations.EmptyQueueAdvancesChainTime : Prop :=
  ∀ s : State, s.pending = [] → step s = .next { s with time := s.time + 2 }

/-- The state after reset holds the values that the register tables and the reset rules give. (spec/13_processors_events.md register tables, spec/17_startup_reset_update.md R432, R433, log entry 4) -/
def Obligations.ResetStateHasSpecValues : Prop :=
  State.reset.pending = [] ∧ State.reset.mode = 0 ∧ State.reset.get GLB_STAT_FAULT = 1 ∧
  State.reset.get GLB_RSTCAUSE_CAUSE = 1 ∧ State.reset.get GLB_APPWE_WE = 0x7FFFFF ∧
  State.reset.get (EVT_EN_EN 0) = 0xFFFFFFFF ∧ State.reset.get (EVT_ROUTE_ROUTE0 5) = 0x41 ∧
  State.reset.get (EVT_STAT_STAT 3) = 0 ∧ State.reset.get (TIL_GAIN_GAIN 31) = 2 ∧
  State.reset.get (VLV_CTRL_EN 127) = 0 ∧ State.reset.get (VLV_STAT_STATE 0) = 0 ∧ State.reset.get ARB_CTRL_EN = 0 ∧
  State.reset.get CAL_STATUS_PHASE = 0 ∧ State.reset.get (MBX_DNCTL_COUNT 2) = 0 ∧ State.reset.get CHN_STAT_STATE = 3 ∧
  (∀ f : Fld, (∀ g ∈ [GLB_IDENT_PART, GLB_STAT_FAULT, GLB_RSTCAUSE_CAUSE, TMX_IDCODE_IDCODE], f.key ≠ g.key) →
    State.reset.get f = f.reset) ∧
  State.reset.evt = Evt.init ∧ State.reset.fb = [] ∧ State.reset.braid.ub = [] ∧ State.reset.sched.queues = [] ∧
  State.reset.power = ⟨.on, 1, 0, false, false⟩ ∧ State.reset.time = 0

/-- The state after reset meets both invariants: canonical maps and a legal STATE. (spec/17_startup_reset_update.md R427, log entry 2) -/
def Obligations.ResetStateIsCanonicalAndLegal : Prop :=
  mapsWf State.reset = true ∧ modeLegal State.reset

/-- Every step keeps every register and memory map in canonical form. (spec/12_memories.md, spec/13_processors_events.md R340, R355) -/
def Obligations.EveryStepKeepsMapsCanonical : Prop :=
  ∀ s t : State, mapsWf s = true → step s = .next t → mapsWf t = true

/-- Every step keeps GLB_STAT.STATE one of the six values of its table. (spec/17_startup_reset_update.md R427) -/
def Obligations.EveryStepKeepsStateLegal : Prop :=
  ∀ s t : State, modeLegal s → step s = .next t → modeLegal t

/-- No command stops the block, and none touches the queue, the fuses or what was already sent. (spec/00_scope.md, spec/13_processors_events.md R340, log entry 30) -/
def Obligations.EveryCommandCompletesAndKeepsQueueFusesAndOutputs : Prop :=
  ∀ (c : Instr) (s : State), ∃ t, exec c s = .next t ∧ t.pending = s.pending ∧ t.fuses = s.fuses ∧ s.outs <+: t.outs ∧
    s.free ≤ t.free

/-- Power-on starts the rail sequence, good rails advance it, its end and the reset release give the reset state. (spec/10_power_thermal.md R271, R272, spec/17_startup_reset_update.md R428, R432, R433) -/
def Obligations.PowerAndRailCommandsSequenceThePart : Prop :=
  (∀ (s : State) (v : Bool), s.power.phase = .unpowered → ∃ t, exec (.powerOn v) s = .next t ∧ t =
    { s with power := ⟨.sequencing 0, if s.power.latch = 0 then 1 else s.power.latch, s.time, false, v⟩ }) ∧
  (∀ (s : State) (g : Nat), s.power.phase = .sequencing g → g + 1 < 9 → ∃ t, exec (.railGood) s = .next t ∧ t =
    { s with power := { s.power with phase := .sequencing (g + 1) } }) ∧
  (∀ (s : State), s.power.phase = .sequencing 8 → ∃ t, exec (.railGood) s = .next t ∧ resetReleased s t) ∧
  (∀ (s : State), s.power.phase = .held → ∃ t, exec (.resetRelease) s = .next t ∧ resetReleased s t) ∧
  (∀ (s : State), s.power.phase = .unpowered → ∃ t, exec (.causeLatchLoss) s = .next t ∧ t =
    { s with power := { s.power with latch := 0 } })

/-- Each reset cause latches its code, puts every gate output in high-impedance and leaves the rest. (spec/17_startup_reset_update.md R432, R434, R438, spec/10_power_thermal.md R273, R274, spec/13_processors_events.md R338, R357, spec/18_test_bypass.md R456) -/
def Obligations.ResetCausesLatchAndSwitchOutputsOff : Prop :=
  (∀ (s : State) (rail : Nat), s.power.phase ≠ .unpowered → ∃ t, exec (.railFault rail) s = .next t ∧ resetBegun 3
    (.sequencing 0) s t) ∧
  (∀ (s : State), s.power.phase ≠ .unpowered → ∃ t, exec (.vinPowerFail) s = .next t ∧ resetBegun 2 .unpowered s t) ∧
  (∀ (s : State), s.power.phase = .on → ∃ t, exec (.watchdogExpiry) s = .next t ∧ resetBegun 4 .held s t) ∧
  (∀ (s : State), s.power.phase = .on → s.get TMX_CTRL_DBGEN = 1 → ∃ t, exec (.debugReset) s = .next t ∧ resetBegun
    7 .held s t) ∧
  (∀ (s : State) (r : Requester) (key : Nat), s.protected r 0x10 = false → key % 256 = 0x5A → ∃ t, exec (.swrst r
    key) s = .next t ∧ t.power = ⟨.held, 5, s.time, false, s.power.vio33⟩ ∧ t.loops.high = 0 ∧ allZ t ∧ (s.mem.errs
    = [] → t.evt.pend = []) ∧ t = { s with regs := t.regs, power := t.power, evt := t.evt, mem := t.mem, loops :=
                                             t.loops, sched := t.sched, valves := t.valves, flash := t.flash } ∧
    regsOutside [Blk.EVT, Blk.MEM, Blk.VLV, Blk.VBK] (FLS_STAT_CONT :: offFlds) s t) ∧
  (∀ (s : State) (r : Requester) (key : Nat), s.protected r 0x10 = false → key % 256 ≠ 0x5A → ∃ t, exec (.swrst r
    key) s = .next t ∧ t.get GLB_STAT_WRERR = 1 ∧ t =
    { s with regs := t.regs } ∧ regsBut [GLB_STAT_WRERR] s t)

/-- GLB_CTRL.SAFE and a firmware fault enter the safe state from every other state. (spec/17_startup_reset_update.md R427, R438, R439, R441, R442, spec/13_processors_events.md R339, spec/10_power_thermal.md R287) -/
def Obligations.SafeStateEntrySwitchesOffAndLatchesItsCause : Prop :=
  (∀ (s : State) (r : Requester), s.protected r 0x10 = false → s.mode ≠ 4 → ∃ t, exec (.glbCtrlSafe r) s = .next t ∧
    safeEntered 0 s t) ∧
  (∀ (s : State), s.mode ≠ 4 → ∃ t, exec (.firmwareFault) s = .next t ∧ safeEntered 3 s t ∧ raisedIn Src.fwFault s
    t) ∧
  (∀ (s : State) (r : Requester), s.protected r 0x10 = false → s.mode = 4 → ∃ t, exec (.glbCtrlSafe r) s = .next t ∧
    t.get GLB_SAFECAUSE_CAUSES = (s.get GLB_SAFECAUSE_CAUSES ||| 1) % 16 ∧ t =
    { s with regs := t.regs } ∧ regsBut [GLB_SAFECAUSE_CAUSES, GLB_STAT_FAULT] s t) ∧
  (∀ (s : State), s.mode = 4 → ∃ t, exec (.firmwareFault) s = .next t ∧ t.get GLB_SAFECAUSE_CAUSES = (s.get
    GLB_SAFECAUSE_CAUSES ||| 8) % 16 ∧ t.get GLB_STAT_FAULT = 1 ∧ raisedIn Src.fwFault s t ∧ t =
    { s with regs := t.regs, evt := t.evt, mem := t.mem } ∧ regsButEvt [GLB_SAFECAUSE_CAUSES, GLB_STAT_FAULT] s t)

/-- THM_CTRL.RESTART and the automatic restart begin warm-up, and a request that may not be met sets WRERR. (spec/17_startup_reset_update.md R431, R440, R441, spec/10_power_thermal.md R288, spec/18_test_bypass.md R455) -/
def Obligations.RestartsAreAcceptedOnlyWhenTheirConditionsHold : Prop :=
  (∀ (s : State) (r : Requester), s.protected r 0x1400 = false → (s.mode = 4 ∧ s.safeCleared = true ∨ s.mode = 5) →
    (s.house.shutdown = true → s.coolEnough = true) → ∃ t, exec (.thmRestart r) s = .next t ∧ restarted s t ∧
    t.house.autos = s.house.autos) ∧
  (∀ (s : State) (r : Requester), s.protected r 0x1400 = false → s.mayRestart = false → ∃ t, exec (.thmRestart r) s
    = .next t ∧ t.get THM_STAT_WRERR = 1 ∧ t = { s with regs := t.regs } ∧ regsBut [THM_STAT_WRERR] s t) ∧
  (∀ (s : State), s.get THM_CTRL_AUTORST = 1 → s.mode = 5 → s.house.shutdown = true → s.coolEnough = true →
    s.recentAutos.length < s.get THM_CTRL_AUTOMAX → ∃ t, exec (.autoRestart) s = .next t ∧ restarted s t ∧
    t.house.autos = s.recentAutos ++ [s.time])

/-- RUN starts and stops sorting from the states that allow it; ready is entered once R429 holds. (spec/17_startup_reset_update.md R427, R429, spec/07_knots_verdicts.md R198, spec/12_memories.md R331, spec/18_test_bypass.md R453) -/
def Obligations.RunAndReadyChangeStateAsTheTableSays : Prop :=
  (∀ (s : State) (r : Requester), s.protected r 0x10 = false → s.mode = 2 → s.get MEM_RETSTAT_RET = 0 → ∃ t, exec
    (.glbRunWrite r true) s = .next t ∧ t.mode = 3 ∧ t.get GLB_CTRL_RUN = 1 ∧ t =
    { s with regs := t.regs } ∧ regsBut [GLB_STAT_STATE, GLB_CTRL_RUN] s t) ∧
  (∀ (s : State) (r : Requester), s.protected r 0x10 = false → s.mode = 2 → s.get MEM_RETSTAT_RET ≠ 0 → ∃ t, exec
    (.glbRunWrite r true) s = .next t ∧ t.get MEM_RETCTL_PB = 0 ∧ t.get MEM_RETCTL_UB = 0 ∧ t.get MEM_RETCTL_BB = 0
    ∧ t.get MEM_RETCTL_KB = 0 ∧ t.get MEM_RETCTL_SP = 0 ∧ t =
    { s with regs := t.regs, mem := { s.mem with startWait := true } } ∧ regsBut [MEM_RETCTL_PB, MEM_RETCTL_UB,
    MEM_RETCTL_BB, MEM_RETCTL_KB, MEM_RETCTL_SP] s t) ∧
  (∀ (s : State) (r : Requester), s.protected r 0x10 = false → s.mode = 3 → ∃ t, exec (.glbRunWrite r false) s =
    .next t ∧ t.mode = 2 ∧ t.get GLB_CTRL_RUN = 0 ∧ (∀ n ∈ t.knots.knots, n.closed = true) ∧ t =
    { s with regs := t.regs, evt := t.evt, mem := t.mem, knots := t.knots } ∧ regsButEvt [GLB_STAT_STATE,
    GLB_CTRL_RUN, KNT_STAT_FULL, KNT_STAT_FULLSEEN, KNT_OPEN_NOW, KNT_OPEN_MAX, KNT_DROPCNT_COUNT] s t) ∧
  (∀ (s : State) (r : Requester), s.protected r 0x10 = false → s.mode ≠ 3 → ∃ t, exec (.glbRunWrite r false) s =
    .next t ∧ t = { s with mem := { s.mem with startWait := false } }) ∧
  (∀ (s : State) (r : Requester), s.protected r 0x10 = false → s.mode ≠ 2 → s.mode ≠ 3 → ∃ t, exec (.glbRunWrite r
    true) s = .next t ∧ t.get GLB_STAT_WRERR = 1 ∧ t =
    { s with regs := t.regs } ∧ regsBut [GLB_STAT_WRERR] s t) ∧
  (∀ (s : State), s.mayReady = true → ∃ t, exec (.readyEntry) s = .next t ∧ t.mode = 2 ∧ t.get ARB_CTRL_EN = (if
    s.tmx.mode ≠ 0 ∧ s.get TMX_TPCTL_DRIVE ≠ 1 then 0 else 1) ∧ t =
    { s with regs := t.regs } ∧ regsBut [GLB_STAT_STATE, ARB_CTRL_EN, ARB_STAT_TOKENS, ARB_STAT_FBUSED,
    ARB_STAT_NEFF, ARB_STAT_DIPCUT, ARB_TOKMAX_MAX] s t)

/-- Boot discovers the flash, starts the active slot, loads the configuration and enters warm-up. (spec/17_startup_reset_update.md R427, R428, R433, R444, R445, spec/15_serial_ports.md R402, spec/12_memories.md R332, R333, spec/13_processors_events.md R336, log entry 4) -/
def Obligations.BootChecksItsSlotAndLoadsItsConfiguration : Prop :=
  (∀ (s : State), s.power.phase = .on → s.mode = 0 → s.power.fw = false → s.fuses.dev.usable = true → s.get
    FLS_STAT_DISCERR = 0 → s.flash.trial = false → s.flash.recovery = false → s.ssp.inbox = [] → s.ssp.abox = none →
    (s.flash.slot s.flash.active).passes = true → ∃ t, exec (.bootSlotCheck) s = .next t ∧ t.power.fw = true ∧
    t.flash.booted = s.flash.active ∧ t.flash.boots = (s.flash.boots + 1) % 65536 ∧ t.get GLB_RSTCAUSE_BOOTS =
    (s.flash.boots + 1) % 65536 ∧ t.get GLB_FWVER_VER = (s.flash.slot s.flash.active).version % 2 ^ 24 ∧ t.get
    GLB_FWVER_SLOT = s.flash.active % 2 ∧ t.get FLS_ID_JEDEC = s.fuses.dev.jedec % 2 ^ 24 ∧ t.get FLS_STAT_ADDR4 = 1
    ∧ t.ssp.ready = true ∧ t = { s with regs := t.regs, power := { s.power with fw := true }, evt := t.evt, mem :=
                                          t.mem, ssp := { s.ssp with ready := true }, flash := { s.flash with booted
                                                                                                                :=
                                                                                                                t.flash.booted,
                                                                                                              boots
                                                                                                                :=
                                                                                                                t.flash.boots
                                                                                                                } }
    ∧ regsOutside [Blk.EVT] [MEM_TESTABORTS_COUNT, GLB_FWVER_VER, GLB_FWVER_SLOT, GLB_RSTCAUSE_BOOTS, FLS_STAT_READ,
    FLS_STAT_ADDR4, FLS_STAT_SUSPOK, FLS_STAT_DISCERR, FLS_ID_JEDEC, FLS_SIZE_MIB, FLS_ERRCNT_COUNT,
    SSP_BOX_INSLOTS, SSP_BOX_ABSLOT, SSP_BOX_OUTBYTES] s t) ∧
  (∀ (s : State), s.power.phase = .on → s.mode = 0 → s.power.fw = true → s.flash.recovery = false → ∃ t, exec
    (.configLoadDone) s = .next t ∧ t.get MEM_DDRSTAT_TRAINED = 1 ∧ t.get GLB_CORECTL_HARTON = t.get
    GLB_CORECTL_HARTEN ∧ t.flash.trial = false ∧ t.flash.tries = 0 ∧ t.mode = (if t.house.shutdown = true then 5
    else 1) ∧ (t.house.shutdown = false → t.get STG_CTRL_HTR_EN = 1 ∧ t.get STG_CTRL_BIAS_EN = 1) ∧ t =
    { s with regs := t.regs, evt := t.evt, mem := t.mem, mbx := t.mbx, sensor := t.sensor, corr := t.corr, cal :=
               t.cal, gref := t.gref, loops := t.loops, live := t.live, braid := t.braid, sched := t.sched, valves
               := t.valves, chain := t.chain, baind := t.baind, ssp := t.ssp, net := t.net, flash := t.flash, house
               := t.house, fb := t.fb, outs := t.outs })

/-- A page copy moves the oldest pending log entries to the flash ring, up to the end of the page of 8. (spec/13_processors_events.md R357, spec/12_memories.md R315) -/
def Obligations.LogPageCopyMovesPendingEntriesToFlash : Prop :=
  (∀ (s : State), s.mem.errs = [] → s.flash.logNext < 32768 → ∃ t, exec (.logPageCopy) s = .next t ∧ t.evt.pend =
    s.evt.pend.drop (8 - s.flash.logNext % 8) ∧ t.flash.logNext = (s.flash.logNext + min s.evt.pend.length (8 -
    s.flash.logNext % 8)) % 32768 ∧ (∀ i ∈ s.evt.pend, s.evt.pend = [i] → mget LogEntry.zero t.flash.log
    s.flash.logNext = mget LogEntry.zero s.evt.ring i ∧ t.get EVT_FLASHPOS_NEXT = t.flash.logNext ∧ t.get
    EVT_FLASHPOS_PEND = 0) ∧ t = { s with regs := t.regs, evt := { s.evt with pend := t.evt.pend }, mem := t.mem,
                                          flash := { s.flash with log := t.flash.log, logNext := t.flash.logNext,
                                                                  logSeq := t.flash.logSeq, lines := t.flash.lines,
                                                                  seqLine := t.flash.seqLine } } ∧ t.mem.errs = [] ∧
    regsBut [EVT_FLASHPOS_NEXT, EVT_FLASHPOS_PEND, MEM_TESTABORTS_COUNT, FLS_STAT_CONT] s t)

/-- Writes of STG_CTRL, FRATE, BIAS and SETPT: in range they are taken and staged, out of range they set CFGERR. (spec/02_focal_plane.md R29, R31, R35, R38, R42, R53, R60, R61, spec/06_unlay_braid.md R159, spec/13_processors_events.md R339) -/
def Obligations.StageRegisterWritesStageTheirSettings : Prop :=
  (∀ (s : State) (r : Requester) (v : Word), s.protected r 0x2000 = false → s.mode ≠ 3 → ∃ t, exec (.stgCtrlWrite r
    v) s = .next t ∧ t.sensor.staged = s.sensor.staged ++ [⟨.biasEn (bits v.toNat 0 1 == 1), s.time, none, false⟩] ∧
    t.get STG_CTRL_BIAS_EN = fldOf STG_CTRL_BIAS_EN v ∧ t.get STG_CTRL_HTR_EN = fldOf STG_CTRL_HTR_EN v ∧ t.get
    STG_CTRL_ROWREV = fldOf STG_CTRL_ROWREV v ∧ t.get STG_CTRL_COLREV = fldOf STG_CTRL_COLREV v ∧ (fldOf
    STG_CTRL_HTR_EN v = 0 → t.get STG_HTRPWR_POWER = 0) ∧ t =
    { s with regs := t.regs, sensor := { s.sensor with staged := t.sensor.staged } } ∧ regsBut [STG_CTRL_BIAS_EN,
    STG_CTRL_HTR_EN, STG_CTRL_ROWREV, STG_CTRL_COLREV, STG_HTRPWR_POWER] s t) ∧
  (∀ (s : State) (r : Requester) (v : Word), s.protected r 0x2004 = false → s.notMaster = false → 2000 ≤ fldOf
    STG_FRATE_RATE v → fldOf STG_FRATE_RATE v ≤ 12000 → ∃ t, exec (.stgFrateWrite r v) s = .next t ∧ t.sensor.staged
    = s.sensor.staged ++ [⟨.frate (fldOf STG_FRATE_RATE v), s.time, none, false⟩] ∧ t.get STG_FRATE_RATE = fldOf
    STG_FRATE_RATE v ∧ t.get STG_FRATE_PEND = 1 ∧ t.braid =
    { s.braid with busy := s.braid.busy || s.flag BRD_CTRL_AUTO } ∧ t =
    { s with regs := t.regs, sensor := { s.sensor with staged := t.sensor.staged }, braid := t.braid } ∧ regsBut
    [STG_FRATE_RATE, STG_FRATE_PEND] s t) ∧
  (∀ (s : State) (r : Requester) (v : Word), s.protected r 0x2004 = false → (s.notMaster = true ∨ fldOf
    STG_FRATE_RATE v < 2000 ∨ 12000 < fldOf STG_FRATE_RATE v) → ∃ t, exec (.stgFrateWrite r v) s = .next t ∧ t.get
    STG_STAT_CFGERR = 1 ∧ t = { s with regs := t.regs } ∧ regsBut [STG_STAT_CFGERR] s t) ∧
  (∀ (s : State) (r : Requester) (v : Word), s.protected r 0x2008 = false → ∃ t, exec (.stgBiasWrite r v) s = .next
    t ∧ t.sensor.staged = s.sensor.staged ++ [⟨.level (fldOf STG_BIAS_LEVEL v), s.time, none, false⟩] ∧ t.get
    STG_BIAS_LEVEL = fldOf STG_BIAS_LEVEL v ∧ t.get STG_BIAS_PEND = 1 ∧ t =
    { s with regs := t.regs, sensor := { s.sensor with staged := t.sensor.staged } } ∧ regsBut [STG_BIAS_LEVEL,
    STG_BIAS_PEND] s t) ∧
  (∀ (s : State) (r : Requester) (v : Word), s.protected r 0x200C = false → 35000 ≤ fldOf STG_SETPT_SETPT v → fldOf
    STG_SETPT_SETPT v ≤ 65000 → ∃ t, exec (.stgSetptWrite r v) s = .next t ∧ t.get STG_SETPT_SETPT = fldOf
    STG_SETPT_SETPT v ∧ t = { s with regs := t.regs } ∧ regsBut [STG_SETPT_SETPT] s t) ∧
  (∀ (s : State) (r : Requester) (v : Word), s.protected r 0x200C = false → (fldOf STG_SETPT_SETPT v < 35000 ∨ 65000
    < fldOf STG_SETPT_SETPT v) → ∃ t, exec (.stgSetptWrite r v) s = .next t ∧ t.get STG_STAT_CFGERR = 1 ∧ t =
    { s with regs := t.regs } ∧ regsBut [STG_STAT_CFGERR] s t)

/-- Stage sensors: the mean of the valid ones, exclusion on disagreement, readmission, LOCK and UNREG. (spec/02_focal_plane.md R52, R53, R54, R56, R57, R58, R59, spec/13_processors_events.md R349, R358) -/
def Obligations.StageSensorsAreReadAveragedExcludedAndReadmitted : Prop :=
  (∀ (s : State) (a b c d : Nat), a < 240000 → b < 240000 → c < 240000 → d < 240000 → (∀ i, i < 4 → s.get
    (STG_TS_EXCL i) = 0) → s.get STG_SETPT_SETPT * 1000 < 2 ^ 40 → ∃ t, exec (.stageSensorRead [some a, some b, some
    c, some d]) s = .next t ∧ t.get (STG_TS_TEMP 0) = a ∧ t.get (STG_TS_TEMP 1) = b ∧ t.get (STG_TS_TEMP 2) = c ∧
    t.get (STG_TS_TEMP 3) = d ∧ (∀ i : Nat, i < 4 → t.get (STG_TS_VALID i) = 1) ∧ t.get STG_STAT_TSVALID = 4 ∧ t.get
    STG_STAT_TSDEG = 0 ∧ t.get STG_TEMP_VALID = 1 ∧ t.get STG_TEMP_TEMP = (2 * (a + b + c + d) + 4) / 8 ∧
    t.stage.targetUk = (if s.stage.targetUk < s.get STG_SETPT_SETPT * 1000 then min (s.get STG_SETPT_SETPT * 1000)
    (s.stage.targetUk + 200) else max (s.get STG_SETPT_SETPT * 1000) (s.stage.targetUk - 200)) ∧ t =
    { s with regs := t.regs, free := t.free, stage := t.stage } ∧ regsBut [(STG_TS_TEMP 0), (STG_TS_TEMP 1),
    (STG_TS_TEMP 2), (STG_TS_TEMP 3), (STG_TS_VALID 0), (STG_TS_VALID 1), (STG_TS_VALID 2), (STG_TS_VALID 3),
    STG_STAT_TSVALID, STG_STAT_TSDEG, STG_TEMP_TEMP, STG_TEMP_VALID, STG_SETPT_TARGET, STG_STAT_LOCK,
    STG_HTRPWR_POWER] s t) ∧
  (∀ (s : State) (i : Nat), i < 4 → s.tsUsed i = true → 2 ≤ (s.tsRef i).length → 200 < s.tsDiff2 i → 1000 ≤ mget 0
    s.stage.dis i → ∃ t, exec (.tsExclude i) s = .next t ∧ t.get (STG_TS_EXCL i) = 1 ∧ t.get STG_STAT_TSVALID =
    (s.tsRef i).length ∧ t.get STG_STAT_TSDEG = (if (s.tsRef i).length < 3 then 1 else 0) ∧ t.get STG_TEMP_VALID = 1
    ∧ t.get STG_TEMP_TEMP = (roundDiv (sumI (s.tsRef i)) (s.tsRef i).length).toNat ∧ t.stage =
    { s.stage with seen := true, dis := mset 0 s.stage.dis i 0 } ∧ t =
    { s with regs := t.regs, evt := t.evt, mem := t.mem, stage := t.stage } ∧ regsButEvt [STG_TS_EXCL i,
    STG_STAT_TSVALID, STG_STAT_TSDEG, STG_TEMP_TEMP, STG_TEMP_VALID] s t) ∧
  (∀ (s : State) (i : Nat), i < 4 → s.get (STG_TS_VALID i) = 1 → s.get (STG_TS_EXCL i) = 1 → 1 ≤ (s.tsRef i).length
    → s.tsDiff2 i ≤ 40 → mget 0 s.stage.agree i ≠ 0 → ∃ t, exec (.tsReadmit i) s = .next t ∧ t.get (STG_TS_EXCL i) =
    0 ∧ t.get STG_STAT_TSVALID = (s.tsRef i).length + 1 ∧ t.get STG_STAT_TSDEG = (if (s.tsRef i).length < 2 then 1
    else 0) ∧ t.get STG_TEMP_VALID = 1 ∧ t.stage = { s.stage with seen := true, agree := mset 0 s.stage.agree i 0 }
    ∧ t.time = max s.time ((mget 0 s.stage.agree i - 1) / 2 * 2 + 10000000000) ∧ t =
    { s with regs := t.regs, evt := t.evt, mem := t.mem, time := t.time, stage := t.stage } ∧ regsButEvt
    [STG_TS_EXCL i, STG_STAT_TSVALID, STG_STAT_TSDEG, STG_TEMP_TEMP, STG_TEMP_VALID] s t) ∧
  (∀ (s : State), s.stage.inBand ≠ 0 → ∃ t, exec (.stageLock) s = .next t ∧ t.get STG_STAT_LOCK = 1 ∧ t.time = max
    s.time ((s.stage.inBand - 1) / 2 * 2 + 2000000000) ∧ t =
    { s with regs := t.regs, time := t.time } ∧ regsBut [STG_STAT_LOCK] s t) ∧
  (∀ (s : State), s.get STG_CTRL_HTR_EN = 1 → s.get STG_STAT_UNREG = 0 → ∃ t, exec (.stageUnreg) s = .next t ∧ t.get
    STG_HTRPWR_POWER = 0 ∧ t.get STG_STAT_UNREG = 1 ∧ raisedIn Src.stageUnreg s t ∧ t =
    { s with regs := t.regs, evt := t.evt, mem := t.mem } ∧ regsButEvt [STG_HTRPWR_POWER, STG_STAT_UNREG] s t) ∧
  (∀ (s : State), s.heaterOff = false → s.get STG_HTRPWR_LIMIT ≠ 0 → s.get STG_HTRPWR_LIMIT < 4096 → ∃ t, exec
    (.stageUnregClear) s = .next t ∧ t.get STG_STAT_UNREG = 0 ∧ s.get STG_HTRPWR_LIMIT < 50 * t.get STG_HTRPWR_POWER
    ∧ t.get STG_HTRPWR_POWER ≤ s.get STG_HTRPWR_LIMIT ∧ t =
    { s with regs := t.regs, free := t.free } ∧ regsBut [STG_STAT_UNREG, STG_HTRPWR_POWER] s t)

/-- Writes of a tile's gain, pixel trim and skimming trims are staged; held trims and absent tiles take none. (spec/02_focal_plane.md R38, R39, R41, spec/13_processors_events.md R339, spec/00_scope.md R4, log entry 4) -/
def Obligations.TileGainTrimAndSkimmingWritesAreStaged : Prop :=
  (∀ (s : State) (r : Requester) (n : Nat) (v : Word), s.protected r (0x4000 + 0x100 * n) = false → n < s.nTiles → ∃
    t, exec (.tilGainWrite r n v) s = .next t ∧ t.sensor.staged = s.sensor.staged ++ [⟨.gain n (v.toNat % 4),
    s.time, none, false⟩] ∧ t.get (TIL_GAIN_GAIN n) = v.toNat % 4 ∧ t.get (TIL_GAIN_PEND n) = 1 ∧ t =
    { s with regs := t.regs, sensor := { s.sensor with staged := t.sensor.staged } } ∧ regsBut [TIL_GAIN_GAIN n,
    TIL_GAIN_PEND n] s t) ∧
  (∀ (s : State) (r : Requester) (n : Nat) (v : Word), s.protected r (0x4000 + 0x100 * n) = false → s.nTiles ≤ n → ∃
    t, exec (.tilGainWrite r n v) s = .next t ∧ t = s) ∧
  (∀ (s : State) (r : Requester) (n : Nat) (v : Word), s.protected r (0x4008 + 0x100 * n) = false → n < s.nTiles →
    s.trimsHeld = false → ∃ t, exec (.tilPtdataWrite r n v) s = .next t ∧ t.sensor.staged = s.sensor.staged ++
    [⟨.trim n (s.get (TIL_PTSEL_INDEX n)) (v.toNat % 32), s.time, none, false⟩] ∧ t.get (TIL_PTDATA_PEND n) = 1 ∧
    mget 0 (t.tile n).trimsW (s.get (TIL_PTSEL_INDEX n)) = v.toNat % 32 ∧ t.get (TIL_PTSEL_INDEX n) = (if s.get
    (TIL_PTSEL_AUTOINC n) = 1 then (s.get (TIL_PTSEL_INDEX n) + 1) % 4096 else s.get (TIL_PTSEL_INDEX n)) ∧ t =
    { s with regs := t.regs, sensor := { s.sensor with staged := t.sensor.staged, tiles := t.sensor.tiles } } ∧
    (t.tile n) = { s.tile n with trimsW := (t.tile n).trimsW } ∧ regsBut [TIL_PTDATA_PEND n, TIL_PTSEL_INDEX n] s t) ∧
  (∀ (s : State) (r : Requester) (n : Nat) (v : Word), s.protected r (0x4008 + 0x100 * n) = false → n < s.nTiles →
    s.trimsHeld = true → ∃ t, exec (.tilPtdataWrite r n v) s = .next t ∧ t.get STG_STAT_CFGERR = 1 ∧ t =
    { s with regs := t.regs } ∧ regsBut [STG_STAT_CFGERR, TIL_PTSEL_INDEX n] s t) ∧
  (∀ (s : State) (r : Requester) (n i : Nat) (v : Word), s.protected r (0x4000 + 0x100 * n + (0x20 + 4 * i)) = false
    → n < s.nTiles → i < 16 → s.trimsHeld = false → ∃ t, exec (.tilSkimWrite r n i v) s = .next t ∧ t.sensor.staged
    = s.sensor.staged ++ [⟨.skim n i v.toNat, s.time, none, false⟩] ∧ t.get (TIL_SKIM_TRIM0 n i) = v.toNat % 256 ∧
    t.get (TIL_SKIM_TRIM1 n i) = v.toNat / 2 ^ 8 % 256 ∧ t.get (TIL_SKIM_TRIM2 n i) = v.toNat / 2 ^ 16 % 256 ∧ t.get
    (TIL_SKIM_TRIM3 n i) = v.toNat / 2 ^ 24 ∧ t = { s with regs := t.regs, sensor := { s.sensor with staged :=
                                                                                                       t.sensor.staged
                                                                                                       } } ∧ regsBut
    [TIL_SKIM_TRIM0 n i, TIL_SKIM_TRIM1 n i, TIL_SKIM_TRIM2 n i, TIL_SKIM_TRIM3 n i] s t) ∧
  (∀ (s : State) (r : Requester) (n i : Nat) (v : Word), s.protected r (0x4000 + 0x100 * n + (0x20 + 4 * i)) = false
    → n < s.nTiles → i < 16 → s.trimsHeld = true → ∃ t, exec (.tilSkimWrite r n i v) s = .next t ∧ t.get
    STG_STAT_CFGERR = 1 ∧ t = { s with regs := t.regs } ∧ regsBut [STG_STAT_CFGERR] s t)

/-- CFDATA, ROTEN, PARK and RELEASE of a tile act on its factor entry and its spares. (spec/03_conversion_tether.md R65, R72, R73, R77, R83, R88, spec/18_test_bypass.md R460, spec/13_processors_events.md R339) -/
def Obligations.SliceFactorRotationAndParkingWritesActOnTheirTile : Prop :=
  (∀ (s : State) (r : Requester) (n : Nat) (v : Word), s.protected r (0x406C + 0x100 * n) = false → n < s.nTiles →
    s.mode ≠ 3 → (∀ m, m < s.nTiles → s.get (TIL_CVSTAT_SCAL_BUSY m) = 0) → s.sensor.laneLost = false → ∃ t, exec
    (.tilCfdataWrite r n v) s = .next t ∧ (t.tile n).factor (s.cfIndex n) =
    { (s.tile n).factor (s.cfIndex n) with gain := (v.toNat % 65536 : Nat), ofs := sgn 12 (v.toNat / 65536 % 4096) }
    ∧ t.get (TIL_CFSEL_INDEX n) = (if s.get (TIL_CFSEL_AUTOINC n) = 1 then (s.get (TIL_CFSEL_INDEX n) + 1) % 256
    else s.get (TIL_CFSEL_INDEX n)) ∧ (t.tile n) = { s.tile n with factors := (t.tile n).factors } ∧ tileOnly n s t
    ∧ regsBut [TIL_CFSEL_INDEX n] s t) ∧
  (∀ (s : State) (r : Requester) (n : Nat) (v : Word), s.protected r (0x406C + 0x100 * n) = false → n < s.nTiles →
    s.mode ≠ 3 → (∀ m, m < s.nTiles → s.get (TIL_CVSTAT_SCAL_BUSY m) = 0) → s.sensor.laneLost = true → ∃ t, exec
    (.tilCfdataWrite r n v) s = .next t ∧ t.sensor.staged = s.sensor.staged ++ [⟨.factor n (s.cfIndex n) (v.toNat %
    65536 : Nat) (sgn 12 (v.toNat / 65536 % 4096)), s.time, none, false⟩] ∧ t =
    { s with regs := t.regs, sensor := { s.sensor with staged := t.sensor.staged } } ∧ regsBut [TIL_CFSEL_INDEX n] s
    t) ∧
  (∀ (s : State) (r : Requester) (n : Nat) (v : Word), s.protected r (0x406C + 0x100 * n) = false → n < s.nTiles →
    (s.mode = 3 ∨ s.get (TIL_CVSTAT_SCAL_BUSY n) = 1) → ∃ t, exec (.tilCfdataWrite r n v) s = .next t ∧ t.get
    STG_STAT_CFGERR = 1 ∧ t = { s with regs := t.regs } ∧ regsBut [STG_STAT_CFGERR, TIL_CFSEL_INDEX n] s t) ∧
  (∀ (s : State) (r : Requester) (n : Nat), s.protected r (0x4060 + 0x100 * n) = false → n < s.nTiles →
    s.fuses.nk1024 = false → ∃ t, exec (.tilRotenWrite r n false) s = .next t ∧ t.get (TIL_CVCTRL_ROTEN n) = 0 ∧ (∀
    i : Nat, i < 4 → (t.tile n).spare i = { (s.tile n).spare i with rot := false }) ∧ (t.tile n) =
    { s.tile n with spares := (t.tile n).spares } ∧ tileOnly n s t ∧ regsBut (TIL_CVCTRL_ROTEN n :: tileShown n) s
    t) ∧
  (∀ (s : State) (r : Requester) (n : Nat), s.protected r (0x4060 + 0x100 * n) = false → n < s.nTiles →
    s.fuses.nk1024 = false → s.biasOff = false → s.get (TIL_CVSTAT_SCAL_BUSY n) = 0 → ∃ t, exec (.tilRotenWrite r n
    true) s = .next t ∧ t.get (TIL_CVCTRL_ROTEN n) = 1 ∧ (∀ i : Nat, i < 4 → ((s.tile n).spare i).phase = .idle →
    ((s.tile n).spare i).rot = false → (t.tile n).spare i =
    { (s.tile n).spare i with rot := true, due := s.time + i * 1953125 }) ∧ (t.tile n) =
    { s.tile n with spares := (t.tile n).spares } ∧ tileOnly n s t ∧ regsBut (TIL_CVCTRL_ROTEN n :: tileShown n) s
    t) ∧
  (∀ (s : State) (r : Requester) (n k i : Nat), s.protected r (0x407C + 0x100 * n) = false → n < s.nTiles →
    s.fuses.nk1024 = false → k < 256 → i < 4 → ((s.tile n).spare i).phase ≠ .parked → (s.tile n).parkedOn k = false
    → ∃ t, exec (.tilPark r n k i) s = .next t ∧ (t.tile n).spare i =
    { (s.tile n).spare i with parkOn := some k } ∧ t.get (TIL_SUBST_SLICE n) = k ∧ t.get (TIL_SUBST_SPARE n) = i ∧
    (t.tile n) = { s.tile n with spares := (t.tile n).spares } ∧ (∀ j : Nat, j < 4 → j ≠ i → (t.tile n).spare j =
    (s.tile n).spare j) ∧ tileOnly n s t ∧ regsBut [TIL_SUBST_SLICE n, TIL_SUBST_SPARE n] s t) ∧
  (∀ (s : State) (r : Requester) (n k i : Nat), s.protected r (0x407C + 0x100 * n) = false → n < s.nTiles →
    s.fuses.nk1024 = false → k < 256 → i < 4 → (((s.tile n).spare i).phase = .parked ∨ (s.tile n).parkedOn k = true)
    → ∃ t, exec (.tilPark r n k i) s = .next t ∧ t.get STG_STAT_CFGERR = 1 ∧ t =
    { s with regs := t.regs } ∧ regsBut [STG_STAT_CFGERR, TIL_SUBST_SLICE n, TIL_SUBST_SPARE n] s t) ∧
  (∀ (s : State) (r : Requester) (n i : Nat), s.protected r (0x407C + 0x100 * n) = false → n < s.nTiles →
    s.fuses.nk1024 = false → i < 4 → ((s.tile n).spare i).phase = .parked → ∃ t, exec (.tilRelease r n i) s = .next
    t ∧ (t.tile n).spare i = { (s.tile n).spare i with release := true } ∧ t.get (TIL_SUBST_SPARE n) = i ∧ (t.tile
    n) = { s.tile n with spares := (t.tile n).spares } ∧ (∀ j : Nat, j < 4 → j ≠ i → (t.tile n).spare j = (s.tile
    n).spare j) ∧ tileOnly n s t ∧ regsBut [TIL_SUBST_SPARE n] s t)

/-- A slot sends the row group that integrated, a spare enters and leaves a slice, a tile calibrates itself. (spec/02_focal_plane.md R32, R45, R46, R50, R66, R68, spec/03_conversion_tether.md R63, R64, R72, R74, R75, R76, R78, R79, R80, R83, R88, spec/13_processors_events.md R339) -/
def Obligations.ConvertedRowGroupsSpareVisitsAndSelfCalibration : Prop :=
  (∀ (s : State) (n : Nat) (raw : List Int) (h : Header), n < s.nTiles → s.get (TIL_CVSTAT_SCAL_BUSY n) = 0 →
    s.underTest 1 n = false → (s.tile n).swap = none → (s.tile n).integ = some h → h.frame = s.frameCnt % 65536 →
    h.rgrp < 15 → ∃ t, exec (.rowGroupSlot n raw) s = .next t ∧ (t.tile n).sent = (s.tile n).sent ++
    [⟨{ h with crc := rowCrc ((List.range 256).map fun k => sampleWord ((s.tile n).ovr1 ++ (s.tile n).ovr2) k
                 ((s.convert n h.rgrp raw).getD k (0, false))) }, (List.range 256).map fun k => sampleWord ((s.tile
    n).ovr1 ++ (s.tile n).ovr2) k ((s.convert n h.rgrp raw).getD k (0, false))⟩] ∧ (t.tile n).integ = some
    (s.newHeader n (h.rgrp + 1)) ∧ t.time = max s.time (s.slotAt s.sensor.gridK (h.rgrp + 1)) ∧ t.get
    (TIL_OVRCNT_COUNT n) = satAdd 16 (s.get (TIL_OVRCNT_COUNT n)) ((s.convert n h.rgrp raw).filter (·.2)).length ∧ t
    = { s with time := t.time, regs := t.regs, sensor := { s.sensor with tiles := t.sensor.tiles } } ∧ (∀ m, m ≠ n →
    t.tile m = s.tile m) ∧ regsBut [TIL_OVRCNT_COUNT n, TIL_OVRLAST_LANE n, TIL_OVRLAST_RGRP n, TIL_OVRLAST_SLICE n,
    TIL_OVRLAST_LOW n, TIL_REFDCNT_COUNT n] s t) ∧
  (∀ (s : State) (n i : Nat) (a b g o : Int), n < s.nTiles → i < 4 → s.fuses.nk1024 = false → ((s.tile n).spare
    i).phase = .idle → ((s.tile n).spare i).parkOn = none → ((s.tile n).spare i).rot = true → ∃ t, exec
    (.spareHandover n i a b g o) s = .next t ∧ (t.tile n).spare i =
    { (s.tile n).spare i with phase := .serving, slice := (s.tile n).nextSlice (s.tile n).next, due := ((s.tile
                                n).spare i).due + 7812500 } ∧ (t.tile n).swap = some ⟨i, (s.tile n).nextSlice
    (s.tile n).next, false⟩ ∧ (t.tile n).next = ((s.tile n).nextSlice (s.tile n).next + 1) % 256 ∧ ((t.tile
    n).factor (256 + i)).ofs = ((s.tile n).factor (256 + i)).ofs + ((convCode ((s.tile n).factor ((s.tile
    n).nextSlice (s.tile n).next)) a).1 : Int) - ((convCode ((s.tile n).factor (256 + i)) b).1 : Int) ∧ t.time = max
    s.time (((s.tile n).spare i).due / 2 * 2) ∧ t =
    { s with time := t.time, regs := t.regs, sensor := { s.sensor with tiles := t.sensor.tiles } } ∧ (∀ m, m ≠ n →
    t.tile m = s.tile m) ∧ regsBut (tileShown n) s t) ∧
  (∀ (s : State) (n i : Nat) (a b g o : Int), n < s.nTiles → i < 4 → s.fuses.nk1024 = false → ((s.tile n).spare
    i).phase = .serving → ((s.tile n).spare i).slice < 256 → plausible g o = true → s.get (TIL_CVSTAT_SCAL_BUSY n) =
    0 → ∃ t, exec (.spareHandover n i a b g o) s = .next t ∧ ((t.tile n).spare i).phase = .idle ∧ (t.tile n).swap =
    some ⟨i, ((s.tile n).spare i).slice, true⟩ ∧ ((t.tile n).factor ((s.tile n).spare i).slice).gain = ((s.tile
    n).factor ((s.tile n).spare i).slice).gain + clampI (-4) 4 (g - ((s.tile n).factor ((s.tile n).spare
    i).slice).gain) ∧ ((t.tile n).factor ((s.tile n).spare i).slice).ofs = ((s.tile n).factor ((s.tile n).spare
    i).slice).ofs + clampI (-2) 2 (o - ((s.tile n).factor ((s.tile n).spare i).slice).ofs) ∧ t.get
    (TIL_SWAPDIFF_MAXABS n) = max (s.get (TIL_SWAPDIFF_MAXABS n)) (t.getS (TIL_SWAPDIFF_LAST n)).natAbs % 2 ^ 15 ∧
    t.getS (TIL_SWAPDIFF_LAST n) = ((convCode (visitStep ((s.tile n).factor ((s.tile n).spare i).slice) g o) a).1 :
    Int) - ((convCode ((s.tile n).factor (256 + i)) b).1 : Int) ∧ t.time = max s.time (((s.tile n).spare i).due / 2
    * 2) ∧ t = { s with time := t.time, regs := t.regs, evt := t.evt, mem := t.mem, sensor := { s.sensor with tiles
                                                                                                                :=
                                                                                                                t.sensor.tiles
                                                                                                                } }
    ∧ (∀ m, m ≠ n → t.tile m = s.tile m) ∧ regsButEvt (TIL_SWAPDIFF_LAST n :: TIL_SWAPDIFF_MAXABS n :: tileShown n)
    s t) ∧
  (∀ (s : State) (r : Requester) (n : Nat), s.protected r (0x4060 + 0x100 * n) = false → n < s.nTiles → s.mode ≠ 3 →
    s.get (TIL_CVSTAT_SCAL_BUSY n) = 0 → s.sensor.laneLost = false → ∃ t, exec (.tilScal r n) s = .next t ∧ t.get
    (TIL_CVSTAT_SCAL_BUSY n) = 1 ∧ (t.tile n).integ = none ∧ (t.tile n).swap = none ∧ (∀ i : Nat, i < 4 → ((t.tile
    n).spare i).rot = false) ∧ (t.tile n) = { s.tile n with spares := (t.tile n).spares, integ := none, swap :=
                                                              none, ovr1 := [], ovr2 := [] } ∧ tileOnly n s t ∧
    regsBut (TIL_CVSTAT_SCAL_BUSY n :: tileShown n) s t) ∧
  (∀ (s : State) (r : Requester) (n : Nat), s.protected r (0x4060 + 0x100 * n) = false → n < s.nTiles → s.mode ≠ 3 →
    s.get (TIL_CVSTAT_SCAL_BUSY n) = 0 → s.sensor.laneLost = true → ∃ t, exec (.tilScal r n) s = .next t ∧ t =
    { s with sensor := { s.sensor with staged := s.sensor.staged ++ [⟨.scal n, s.time, none, false⟩] } }) ∧
  (∀ (s : State) (r : Requester) (n : Nat), s.protected r (0x4060 + 0x100 * n) = false → n < s.nTiles → (s.mode = 3
    ∨ s.get (TIL_CVSTAT_SCAL_BUSY n) = 1) → ∃ t, exec (.tilScal r n) s = .next t ∧ t.get STG_STAT_CFGERR = 1 ∧ t =
    { s with regs := t.regs } ∧ regsBut [STG_STAT_CFGERR] s t) ∧
  (∀ (s : State) (n : Nat) (fs : List (Int × Int)), n < s.nTiles → s.get (TIL_CVSTAT_SCAL_BUSY n) = 1 →
    s.fuses.nk1024 = false → fs.length = 260 → (∀ p ∈ fs, plausible p.1 p.2 = true) → s.opRuns 0x0304 = false → ∃ t,
    exec (.scalComplete n fs) s = .next t ∧ t.get (TIL_CVSTAT_SCAL_BUSY n) = 0 ∧ t.get (TIL_CVSTAT_SCAL_DONE n) = 1
    ∧ (t.tile n).owed = 4 ∧ (t.tile n).settle = max (s.tile n).settle 4 ∧ (∀ k : Nat, k < 260 → (t.tile n).factor k
    = ⟨(fs.getD k (0, 0)).1, (fs.getD k (0, 0)).2, false, 0⟩) ∧ raisedIn (Src.convCal n) s t ∧ t =
    { s with regs := t.regs, evt := t.evt, mem := t.mem, sensor := { s.sensor with tiles := t.sensor.tiles } } ∧ (∀
    m, m ≠ n → t.tile m = s.tile m) ∧ regsButEvt (TIL_CVSTAT_SCAL_BUSY n :: TIL_CVSTAT_SCAL_DONE n ::
    TIL_CVSTAT_SCAL_FAIL n :: tileShown n) s t)

/-- A receiver takes each row group at its place, slips on a lost block lock or RESYNC, and realigns. (spec/03_conversion_tether.md R71, R82, R84, R86, R87, R89, spec/13_processors_events.md R339) -/
def Obligations.TetherReceiversTakeSlipAndRealign : Prop :=
  (∀ (s : State) (n : Nat) (g : RowGroup) (rest : List RowGroup), n < s.nTiles → s.get (TIL_CVSTAT_SCAL_BUSY n) = 0
    → s.tmx.mode = 0 → s.rxInvalid n (s.rx n).frame = false → (s.rx n).missing = false → (s.tile n).sent = g :: rest
    → rowCrc g.words = g.hdr.crc → s.headerBad n (s.rx n).frame (s.rx n).rgrp g.hdr = false → s.lanePlace n = ((s.rx
    n).frame, (s.rx n).rgrp) → (∀ w ∈ g.words, bitOf w 14 = false) → ∃ t, exec (.rowGroupReceive n none false) s =
    .next t ∧ (t.rx n).fifo = (s.rx n).fifo ++ [g] ∧ (t.tile n).sent = rest ∧ t.get (TIL_TXSTAT_LOCK n) = 1 ∧ t.get
    (TIL_TXSTAT_ALIGNED n) = 1 ∧ (t.rx n).rgrp = (if (s.rx n).rgrp = 15 then 0 else (s.rx n).rgrp + 1) ∧ (t.rx
    n).frame = (if (s.rx n).rgrp = 15 then ((s.rx n).frame + 1) % 2 ^ 32 else (s.rx n).frame) ∧ t =
    { s with regs := t.regs, sensor := { s.sensor with rx := t.sensor.rx, tiles := t.sensor.tiles } } ∧ (∀ m, m ≠ n
    → t.rx m = s.rx m ∧ t.tile m = s.tile m) ∧ regsBut [TIL_TXSTAT_LOCK n, TIL_TXSTAT_ALIGNED n] s t) ∧
  (∀ (s : State) (n : Nat), n < s.nTiles → ∃ t, exec (.tetherBlockLockLoss n) s = .next t ∧ (t.rx n).slipped = true
    ∧ (t.rx n).slipFrame = s.frameCnt ∧ t.get (TIL_TXSTAT_CAUSE n) = 3 ∧ t.get (TIL_TXSTAT_LOCK n) = 0 ∧ t.get
    (TIL_TXSTAT_ALIGNED n) = 0 ∧ (t.rx n).fifo = (s.rx n).fifo.map (fun g => if g.hdr.frame == (s.rx n).frame %
    65536 then groupInvalid g else g) ∧ t.get (TIL_TXINVCNT_COUNT n) = satAdd 16 (s.get (TIL_TXINVCNT_COUNT n))
    ((s.rx n).fifo.filter fun g => g.hdr.frame == (s.rx n).frame % 65536 && !g.hdr.invalid).length ∧ t.get
    (TIL_TXSLIPCNT_COUNT n) = satAdd 16 (s.get (TIL_TXSLIPCNT_COUNT n)) 1 ∧ raisedIn (Src.tetherSlip n) s t ∧ t =
    { s with regs := t.regs, evt := t.evt, mem := t.mem, sensor := { s.sensor with rx := t.sensor.rx } } ∧ (∀ m, m ≠
    n → t.rx m = s.rx m) ∧ regsButEvt [TIL_TXSTAT_CAUSE n, TIL_TXLASTSLIP_LO_STAMP n, TIL_TXLASTSLIP_HI_STAMP n,
    TIL_TXSTAT_ALIGNED n, TIL_TXSTAT_LOCK n, TIL_TXINVCNT_COUNT n, TIL_TXSLIPCNT_COUNT n] s t) ∧
  (∀ (s : State) (r : Requester) (n : Nat), s.protected r (0x4080 + 0x100 * n) = false → n < s.nTiles → ∃ t, exec
    (.tilResync r n) s = .next t ∧ (t.rx n).slipped = true ∧ (t.rx n).slipFrame = s.frameCnt ∧ t.get
    (TIL_TXSTAT_CAUSE n) = 3 ∧ t.get (TIL_TXSTAT_LOCK n) = 0 ∧ t.get (TIL_TXSTAT_ALIGNED n) = 0 ∧ (t.rx n).fifo =
    (s.rx n).fifo.map (fun g => if g.hdr.frame == (s.rx n).frame % 65536 then groupInvalid g else g) ∧ t.get
    (TIL_TXINVCNT_COUNT n) = satAdd 16 (s.get (TIL_TXINVCNT_COUNT n)) ((s.rx n).fifo.filter fun g => g.hdr.frame ==
    (s.rx n).frame % 65536 && !g.hdr.invalid).length ∧ raisedIn (Src.tetherSlip n) s t ∧ t =
    { s with regs := t.regs, evt := t.evt, mem := t.mem, sensor := { s.sensor with rx := t.sensor.rx } } ∧ (∀ m, m ≠
    n → t.rx m = s.rx m) ∧ regsButEvt [TIL_TXSTAT_CAUSE n, TIL_TXLASTSLIP_LO_STAMP n, TIL_TXLASTSLIP_HI_STAMP n,
    TIL_TXSTAT_ALIGNED n, TIL_TXSTAT_LOCK n, TIL_TXINVCNT_COUNT n] s t) ∧
  (∀ (s : State) (n : Nat), n < s.nTiles → (s.rx n).slipped = true → ∃ t, exec (.tetherRealign n) s = .next t ∧ t.rx
    n = { s.rx n with slipped := false, through := some (s.lanePlace n).1 } ∧ t.get (TIL_TXSTAT_LOCK n) = 1 ∧ t.get
    (TIL_TXSTAT_ALIGNED n) = 1 ∧ t = { s with regs := t.regs, sensor := { s.sensor with rx := t.sensor.rx } } ∧ (∀
    m, m ≠ n → t.rx m = s.rx m) ∧ regsBut [TIL_TXSTAT_LOCK n, TIL_TXSTAT_ALIGNED n] s t) ∧
  (∀ (s : State) (n : Nat), n < s.nTiles → (s.rx n).slipped = true → ∃ t, exec (.tetherRealignTimeout n) s = .next t
    ∧ t.rx n = { s.rx n with slipFrame := s.frameCnt } ∧ raisedIn (Src.tetherSlip n) s t ∧ t =
    { s with regs := t.regs, evt := t.evt, mem := t.mem, sensor := { s.sensor with rx := t.sensor.rx } } ∧ (∀ m, m ≠
    n → t.rx m = s.rx m) ∧ regsButEvt [] s t) ∧
  (∀ (s : State) (n f : Nat), n < s.nTiles → (s.rx n).slipped = true → s.tmx.mode = 0 → (s.rx n).frame < 2 ^ 32 →
    (s.rx n).rgrp < 16 → 0 ≤ placeDiff ((s.fullFrame f + 1) % 2 ^ 32, 0) ((s.rx n).frame, (s.rx n).rgrp) → ∃ t, exec
    (.alignBlock n f true) s = .next t ∧ (t.rx n).slipped = false ∧ (t.rx n).through = some (t.lanePlace n).1 ∧
    (t.rx n).frame = (s.fullFrame f + 1) % 2 ^ 32 ∧ (t.rx n).rgrp = 0 ∧ (s.rx n).fifo <+: (t.rx n).fifo ∧ (t.rx
    n).fifo.length = (s.rx n).fifo.length + (placeDiff ((s.fullFrame f + 1) % 2 ^ 32, 0) ((s.rx n).frame, (s.rx
    n).rgrp)).toNat ∧ t.get (TIL_TXINVCNT_COUNT n) = satAdd 16 (s.get (TIL_TXINVCNT_COUNT n)) (placeDiff
    ((s.fullFrame f + 1) % 2 ^ 32, 0) ((s.rx n).frame, (s.rx n).rgrp)).toNat ∧ t.get (TIL_TXSTAT_LOCK n) = 1 ∧ t.get
    (TIL_TXSTAT_ALIGNED n) = 1 ∧ t = { s with regs := t.regs, sensor := { s.sensor with rx := t.sensor.rx } } ∧ (∀
    m, m ≠ n → t.rx m = s.rx m) ∧ regsBut [TIL_TXSTAT_LOCK n, TIL_TXSTAT_ALIGNED n, TIL_TXINVCNT_COUNT n] s t) ∧
  (∀ (s : State) (n f : Nat) (ok : Bool), n < s.nTiles → (s.rx n).slipped = false → s.get (TIL_TXSTAT_ALIGNED n) = 1
    → s.tmx.mode = 0 → (s.rx n).frame < 2 ^ 32 → (s.rx n).rgrp < 16 → 0 ≤ placeDiff ((s.fullFrame f + 1) % 2 ^ 32,
    0) ((s.rx n).frame, (s.rx n).rgrp) → ∃ t, exec (.alignBlock n f ok) s = .next t ∧ (t.rx n).frame = (s.fullFrame
    f + 1) % 2 ^ 32 ∧ (t.rx n).rgrp = 0 ∧ (s.rx n).fifo <+: (t.rx n).fifo ∧ (t.rx n).fifo.length = (s.rx
    n).fifo.length + (placeDiff ((s.fullFrame f + 1) % 2 ^ 32, 0) ((s.rx n).frame, (s.rx n).rgrp)).toNat ∧ t.get
    (TIL_TXINVCNT_COUNT n) = satAdd 16 (s.get (TIL_TXINVCNT_COUNT n)) (placeDiff ((s.fullFrame f + 1) % 2 ^ 32, 0)
    ((s.rx n).frame, (s.rx n).rgrp)).toNat ∧ (t.rx n).slipped = false ∧ t =
    { s with regs := t.regs, sensor := { s.sensor with rx := t.sensor.rx } } ∧ (∀ m, m ≠ n → t.rx m = s.rx m) ∧
    regsBut [TIL_TXINVCNT_COUNT n] s t) ∧
  (∀ (s : State) (n f : Nat) (ok : Bool), n < s.nTiles → (s.rx n).slipped = false → s.get (TIL_TXSTAT_ALIGNED n) = 0
    → ∃ t, exec (.alignBlock n f ok) s = .next t ∧ t.rx n =
    { s.rx n with frame := (s.fullFrame f + 1) % 2 ^ 32, rgrp := 0 } ∧ t =
    { s with sensor := { s.sensor with rx := t.sensor.rx } } ∧ (∀ m, m ≠ n → t.rx m = s.rx m))

/-- The control lane delivers the oldest setting, loses lock with TETHER_CTL, and resends on relock. (spec/03_conversion_tether.md R83, R88, spec/02_focal_plane.md R38, log entry 8) -/
def Obligations.ControlLaneCarriesLosesAndResendsSettings : Prop :=
  (∀ (s : State), s.sensor.laneLost = false → ∃ t, exec (.controlLaneMessage) s = .next t ∧ t =
    { s with sensor := { s.sensor with staged := arriveFirst (s.dueOf s.time) s.sensor.staged } }) ∧
  (∀ (s : State), ∃ t, exec (.controlLaneLoss) s = .next t ∧ t.sensor.laneLost = true ∧ raisedIn Src.tetherCtl s t ∧
    t = { s with regs := t.regs, evt := t.evt, mem := t.mem, sensor := { s.sensor with laneLost := true } } ∧
    regsButEvt [] s t) ∧
  (∀ (s : State), s.sensor.laneLost = true → ∃ t, exec (.controlLaneRelock) s = .next t ∧ t.sensor.laneLost = false
    ∧ t.sensor.lostThrough = some s.frameCnt ∧ t.sensor.staged.length = s.sensor.staged.length ∧ (∀ x ∈
    t.sensor.staged, x.due = none → x.written = s.time) ∧ t =
    { s with sensor := { s.sensor with laneLost := false, lostThrough := some s.frameCnt, staged := t.sensor.staged
                                         } })

/-- V0, offset flips and blends are taken while sorting is stopped, and set WRERR while it runs. (spec/04_pixel_correction.md R94, R100, R101, R102, R103, R104, R108, spec/13_processors_events.md R339) -/
def Obligations.CorrectionWritesActWhileSortingIsStopped : Prop :=
  (∀ (s : State) (r : Requester) (v : Word), s.protected r 0x6008 = false → s.mode ≠ 3 → ∃ t, exec (.corV0Write r v)
    s = .next t ∧ t.get COR_V0_V0 = fldOf COR_V0_V0 v ∧ t =
    { s with regs := t.regs } ∧ regsBut [COR_V0_V0] s t) ∧
  (∀ (s : State) (r : Requester) (v : Word), s.protected r 0x6008 = false → s.mode = 3 → ∃ t, exec (.corV0Write r v)
    s = .next t ∧ t.get COR_STAT_WRERR = 1 ∧ t = { s with regs := t.regs } ∧ regsBut [COR_STAT_WRERR] s t) ∧
  (∀ (s : State) (r : Requester) (v : Word), s.protected r 0x6010 = false → s.mode ≠ 3 → s.get COR_BLEND_BUSY ≠ 1 →
    ∃ t, exec (.corOflip r v) s = .next t ∧ (∀ n : Nat, n < s.nTiles → bitOf v.toNat n = true → mget none
    s.corr.flips n = none → mget none t.corr.flips n = some ⟨s.dueOf s.time, decide (s.get COR_CTRL_TIE = 1) &&
    s.trimsPending n⟩ ∧ bitOf (t.get COR_OFLIP_FLIP) n = true) ∧ (∀ n : Nat, mget none s.corr.flips n ≠ none → mget
    none t.corr.flips n = mget none s.corr.flips n) ∧ (∀ n : Nat, n < 32 → (bitOf v.toNat n = false ∨ s.nTiles ≤ n)
    → mget none t.corr.flips n = mget none s.corr.flips n ∧ bitOf (t.get COR_OFLIP_FLIP) n = bitOf (s.get
    COR_OFLIP_FLIP) n) ∧ t = { s with regs := t.regs, corr := { s.corr with flips := t.corr.flips }, sensor := {
                                                                                                                     s.sensor
                                                                                                                     with
                                                                                                                     staged
                                                                                                                       :=
                                                                                                                       t.sensor.staged
                                                                                                                       }
                                        } ∧ t.sensor.staged.map (fun x => (x.what, x.written, x.due)) =
    s.sensor.staged.map (fun x => (x.what, x.written, x.due)) ∧ regsBut [COR_OFLIP_FLIP] s t) ∧
  (∀ (s : State) (r : Requester) (v : Word), s.protected r 0x6010 = false → v.toNat % 2 ^ s.nTiles ≠ 0 → (s.mode = 3
    ∨ s.get COR_BLEND_BUSY = 1) → ∃ t, exec (.corOflip r v) s = .next t ∧ t.get COR_STAT_WRERR = 1 ∧ t =
    { s with regs := t.regs } ∧ regsBut [COR_STAT_WRERR] s t) ∧
  (∀ (s : State) (r : Requester) (n : Nat), s.protected r 0x6014 = false → s.mode ≠ 3 → s.get COR_BLEND_BUSY ≠ 1 → n
    < 8192 → ∃ t, exec (.corBlendStart r n) s = .next t ∧ t.corr.blend = .waiting (s.dueOf s.time) ∧ t.corr.blendN =
    n ∧ t.get COR_BLEND_FRAMES = n ∧ t.get COR_BLEND_BUSY = 1 ∧ t =
    { s with regs := t.regs, corr := { s.corr with blend := t.corr.blend, blendN := t.corr.blendN } } ∧ regsBut
    [COR_BLEND_FRAMES, COR_BLEND_BUSY] s t) ∧
  (∀ (s : State) (r : Requester) (n : Nat), s.protected r 0x6014 = false → (s.mode = 3 ∨ s.get COR_BLEND_BUSY = 1) →
    ∃ t, exec (.corBlendStart r n) s = .next t ∧ t.get COR_STAT_WRERR = 1 ∧ t =
    { s with regs := t.regs } ∧ regsBut [COR_STAT_WRERR] s t) ∧
  (∀ (s : State) (r : Requester) (d : Nat), s.protected r 0x6014 = false → s.mode ≠ 3 → s.corr.blend = .waiting d →
    ∃ t, exec (.corBlendAbort r) s = .next t ∧ t.corr.blend = .idle ∧ t.get COR_BLEND_BUSY = 0 ∧ t.get COR_BLEND_K =
    0 ∧ t = { s with regs := t.regs, corr := { s.corr with blend := .idle } } ∧ regsBut [COR_BLEND_BUSY,
    COR_BLEND_K, COR_STAT_BLENDING, COR_STAT_REVERSING] s t) ∧
  (∀ (s : State) (r : Requester), s.protected r 0x6014 = false → s.mode ≠ 3 → s.corr.blend = .running → ∃ t, exec
    (.corBlendAbort r) s = .next t ∧ t.corr.blend = .reversing ∧ t.get COR_STAT_BLENDING = 0 ∧ t.get
    COR_STAT_REVERSING = 1 ∧ t = { s with regs := t.regs, corr := { s.corr with blend := .reversing } } ∧ regsBut
    [COR_STAT_BLENDING, COR_STAT_REVERSING] s t) ∧
  (∀ (s : State) (r : Requester), s.protected r 0x6014 = false → s.mode = 3 → ∃ t, exec (.corBlendAbort r) s = .next
    t ∧ t.get COR_STAT_WRERR = 1 ∧ t = { s with regs := t.regs } ∧ regsBut [COR_STAT_WRERR] s t) ∧
  (∀ (s : State) (r : Requester) (j : Nat) (v : Word), s.protected r (0x6100 + 4 * j) = false → j < s.nLanes / 32 →
    ∃ t, exec (.corLanexWrite r j v) s = .next t ∧ t.get (COR_LANEX_EXCL j) = v.toNat ∧ t =
    { s with regs := t.regs } ∧ regsBut [COR_LANEX_EXCL j] s t)

/-- A trigger that may start a calibration begins it; one that waits for a grant in vain is deferred. (spec/05_calibration.md R115, R116, R117, R118, R119, R121, R125, spec/17_startup_reset_update.md R430, spec/16_chain.md R412, spec/10_power_thermal.md R276, log entry 12) -/
def Obligations.CalibrationTriggersStartTheGrantPhase : Prop :=
  (∀ (s : State) (r : Requester), s.protected r 0x6400 = false → s.calPhase = 0 → s.get PWR_STAT_DIP ≠ 1 →
    s.tmx.mode = 0 → s.mode = 2 → s.get CHN_STAT_STATE ≠ 3 → ∃ t, exec (.calGo r) s = .next t ∧ t.cal.served =
    (s.get CAL_STATUS_PENDING ||| 4) % 32 ∧ t.calPhase = 1 ∧ t.get CAL_STATUS_PENDING = 0 ∧ t.get CAL_STATUS_COMPUTE
    = 0 ∧ t.cal.asked = s.time ∧ t.cal.dead = false ∧ t.cal.grantAt = some s.time ∧ t.cal.cfg = s.calLatch ∧ t =
    { s with regs := t.regs, cal := t.cal, baind := t.baind } ∧ regsBut [CAL_STATUS_PHASE, CAL_STATUS_PENDING,
    CAL_STATUS_COMPUTE] s t) ∧
  (∀ (s : State), s.mode = 1 → s.get STG_STAT_LOCK = 1 → s.get STG_STAT_SETTLE = 0 → s.cal.tries < 3 → s.cal.retryAt
    ≤ s.time → s.cal.deferAt ≤ s.time → s.calPhase = 0 → s.get PWR_STAT_DIP ≠ 1 → s.tmx.mode = 0 → s.get
    CHN_STAT_STATE ≠ 3 → ∃ t, exec (.powerupCalStart) s = .next t ∧ t.cal.served = (s.get CAL_STATUS_PENDING ||| 2)
    % 32 ∧ t.calPhase = 1 ∧ t.get CAL_STATUS_PENDING = 0 ∧ t.get CAL_STATUS_COMPUTE = 0 ∧ t.cal.asked = s.time ∧
    t.cal.dead = false ∧ t.cal.grantAt = some s.time ∧ t.cal.cfg = s.calLatch ∧ t =
    { s with regs := t.regs, cal := t.cal, baind := t.baind } ∧ regsBut [CAL_STATUS_PHASE, CAL_STATUS_PENDING,
    CAL_STATUS_COMPUTE] s t) ∧
  (∀ (s : State), s.mode = 1 → s.get STG_STAT_LOCK = 1 → s.get STG_STAT_SETTLE = 0 → 0 < s.cal.tries → s.cal.tries <
    3 → s.cal.retryAt % 2 = 0 → s.cal.deferAt ≤ s.time → s.calPhase = 0 → s.get PWR_STAT_DIP ≠ 1 → s.tmx.mode = 0 →
    s.get CHN_STAT_STATE ≠ 3 → ∃ t, exec (.powerupCalRetry) s = .next t ∧ t.time = max s.time s.cal.retryAt ∧
    t.cal.served = (s.get CAL_STATUS_PENDING ||| 2) % 32 ∧ t.calPhase = 1 ∧ t.get CAL_STATUS_PENDING = 0 ∧ t.get
    CAL_STATUS_COMPUTE = 0 ∧ t.cal.asked = t.time ∧ t.cal.dead = false ∧ t.cal.grantAt = some t.time ∧ t.cal.cfg =
    s.calLatch ∧ t = { s with time := t.time, regs := t.regs, cal := t.cal, baind := t.baind } ∧ regsBut
    [CAL_STATUS_PHASE, CAL_STATUS_PENDING, CAL_STATUS_COMPUTE] s t) ∧
  (∀ (s : State), s.calPhase = 0 → s.get PWR_STAT_DIP ≠ 1 → s.tmx.mode = 0 → s.mode = 2 → s.get CHN_STAT_STATE ≠ 3 →
    s.get CAL_STATUS_PENDING &&& s.cal.deferred ≠ 0 → s.cal.deferAt % 2 = 0 → ∃ t, exec (.calDeferredRetry) s =
    .next t ∧ t.time = max s.time s.cal.deferAt ∧ t.cal.served = s.get CAL_STATUS_PENDING ∧ t.calPhase = 1 ∧ t.get
    CAL_STATUS_PENDING = 0 ∧ t.get CAL_STATUS_COMPUTE = 0 ∧ t.cal.asked = t.time ∧ t.cal.dead = false ∧
    t.cal.grantAt = some t.time ∧ t.cal.cfg = s.calLatch ∧ t =
    { s with time := t.time, regs := t.regs, cal := t.cal, baind := t.baind } ∧ regsBut [CAL_STATUS_PHASE,
    CAL_STATUS_PENDING, CAL_STATUS_COMPUTE] s t) ∧
  (∀ (s : State), s.calPhase = 0 → s.get PWR_STAT_DIP ≠ 1 → s.tmx.mode = 0 → s.mode = 2 → s.get CHN_STAT_STATE ≠ 3 →
    s.driftTrig = true → s.cal.lastEnd = 0 → s.cal.deferAt ≤ s.time → ∃ t, exec (.calTriggerEval) s = .next t ∧
    bitOf t.cal.served 0 = true ∧ t.get CAL_STATUS_SUSPENDED = 0 ∧ t.calPhase = 1 ∧ t.get CAL_STATUS_PENDING = 0 ∧
    t.get CAL_STATUS_COMPUTE = 0 ∧ t.cal.asked = s.time ∧ t.cal.dead = false ∧ t.cal.grantAt = some s.time ∧
    t.cal.cfg = s.calLatch ∧ t = { s with regs := t.regs, cal := t.cal, baind := t.baind } ∧ regsBut
    [CAL_STATUS_PHASE, CAL_STATUS_PENDING, CAL_STATUS_COMPUTE, CAL_STATUS_SUSPENDED] s t) ∧
  (∀ (s : State), s.get STG_STAT_TSVALID < 2 → s.get CAL_MAXINT_SEC = 0 → s.get CAL_STATUS_PENDING = 0 → ∃ t, exec
    (.calTriggerEval) s = .next t ∧ t.get CAL_STATUS_SUSPENDED = 1 ∧ t.cal =
    { s.cal with conds := 0 } ∧ t = { s with regs := t.regs, cal := t.cal } ∧ regsBut [CAL_STATUS_SUSPENDED] s t) ∧
  (∀ (s : State), s.calPhase = 1 → s.cal.grantAt = none → s.get CHN_STAT_STATE = 1 → s.chain.asked = true → ∃ t,
    exec (.calGrantTimeout) s = .next t ∧ t.time = max s.time ((s.cal.asked + s.get CAL_GRANTTO_VALUE * 1000000) / 2
    * 2) ∧ t.calPhase = 0 ∧ t.get CAL_STATUS_DEFERRED = 1 ∧ t.get CAL_STATUS_PENDING = (s.get CAL_STATUS_PENDING |||
    s.cal.served) % 32 ∧ t.cal = { s.cal with deferred := s.cal.served, deferAt := t.time + s.get CAL_MININT_SEC *
                                                1000000000 } ∧ t.chain =
    { s.chain with asked := false } ∧ t.outs = s.outs ++ [.chain s.portMaster (.release (s.get CHN_STAT_INDEX))] ∧ t
    = { s with time := t.time, regs := t.regs, cal := t.cal, chain := t.chain, outs := t.outs } ∧ regsBut
    [CAL_STATUS_PHASE, CAL_STATUS_PENDING, CAL_STATUS_DEFERRED] s t)

/-- The flag is confirmed closed or open, fails to close or open, and a calibration is aborted in its blind phases. (spec/05_calibration.md R120, R122, R123, R134, R137, spec/09_valve_drive.md R268, R269, spec/14_baind_commands.md R371, spec/13_processors_events.md R339, spec/13_processors_events.md R354) -/
def Obligations.FlagConfirmationsTimeoutsAndAbortsDriveTheCalibration : Prop :=
  (∀ (s : State) (w : LySense), s.lySees w true = true → s.lySearch true = true → s.calPhase = 2 → s.get
    COR_OSEL_ACT = 0 → ∃ t, exec (.lyFlagClosed w) s = .next t ∧ t.calPhase = 3 ∧ t.get ARB_LYSTAT_CLOSED = 1 ∧
    t.get ARB_LYSTAT_OPEN = 0 ∧ t.cal = { s.cal with closedAt := s.time, settled := false } ∧ t.get
    ARB_LYTIME_TCLOSED = min 65535 (((s.time - (s.drive 128).on) + 5000) / 10000) ∧ t =
    { s with regs := t.regs, cal := t.cal } ∧ regsBut [CAL_STATUS_PHASE, ARB_LYSTAT_CLOSED, ARB_LYSTAT_OPEN,
    ARB_LYTIME_TCLOSED] s t) ∧
  (∀ (s : State) (w : LySense), s.lySees w false = true → s.lySearch false = true → s.calPhase = 5 → ∃ t, exec
    (.lyFlagOpen w) s = .next t ∧ t.get ARB_LYSTAT_OPEN = 1 ∧ t.get ARB_LYSTAT_CLOSED = 0 ∧ t.get CAL_STATUS_STUCK =
    0 ∧ (t.get GLB_STAT_FAULT = 1 ↔ t.faultHeld = true) ∧ t.cal =
    { s.cal with openAt := s.time + 1 } ∧ t.get ARB_LYTIME_TOPENED = min 65535 (((s.time - (s.drive 128).off) +
    5000) / 10000) ∧ t = { s with regs := t.regs, cal := t.cal } ∧ regsBut [CAL_STATUS_STUCK, ARB_LYSTAT_CLOSED,
    ARB_LYSTAT_OPEN, ARB_LYTIME_TOPENED, GLB_STAT_FAULT] s t) ∧
  (∀ (s : State), s.calPhase = 2 → ∃ t, exec (.flagCloseTimeout) s = .next t ∧ t.calPhase = 5 ∧ t.cal.dead = true ∧
    t.cal.releasedAt = s.time ∧ t.get CAL_LASTRESULT_CODE = 2 ∧ t.get CAL_FAILS_COUNT = satAdd 32 (s.get
    CAL_FAILS_COUNT) 1 ∧ t.get ARB_LYCTRL_ENERGISE = 0 ∧ t.get CAL_STATUS_BACKOFF = min 3 (s.get CAL_STATUS_BACKOFF
    + 1) ∧ raisedIn Src.lanyardFault s t ∧ t = { s with regs := t.regs, evt := t.evt, mem := t.mem, mbx := t.mbx,
                                                        cal := t.cal, valves := t.valves, baind := t.baind, ssp :=
                                                          t.ssp, fb := t.fb, outs := t.outs } ∧ regsOutside
    [Blk.EVT, Blk.VLV, Blk.VBK, Blk.MBX] (driveFlds ++ boxFlds ++ [MEM_TESTABORTS_COUNT, CAL_STATUS_PHASE,
    CAL_STATUS_COMPUTE, CAL_STATUS_BACKOFF, CAL_FAILS_COUNT, CAL_LASTRESULT_CODE, CAL_LASTRESULT_TRIG,
    CAL_LASTRESULT_ORPHAN, CAL_LASTRESULT_TRIMDROP]) s t) ∧
  (∀ (s : State), s.calPhase = 5 → s.cal.openAt = 0 → ∃ t, exec (.flagStuck) s = .next t ∧ t.get CAL_STATUS_STUCK =
    1 ∧ t.get GLB_STAT_FAULT = 1 ∧ t.time = max s.time ((s.cal.releasedAt + 1000000000) / 2 * 2) ∧ raisedIn
    Src.lanyardFault s t ∧ t = { s with regs := t.regs, evt := t.evt, mem := t.mem, time := t.time } ∧ regsButEvt
    [CAL_STATUS_STUCK, GLB_STAT_FAULT] s t) ∧
  (∀ (s : State) (r : Requester), s.protected r 0x6400 = false → (s.calPhase = 2 ∨ s.calPhase = 3 ∨ s.calPhase = 4)
    → s.cal.dead = false → ∃ t, exec (.calAbort r) s = .next t ∧ t.calPhase = 5 ∧ t.cal.dead = true ∧
    t.cal.releasedAt = s.time ∧ t.get CAL_LASTRESULT_CODE = 8 ∧ t.get CAL_ABORTS_COUNT = satAdd 32 (s.get
    CAL_ABORTS_COUNT) 1 ∧ t.get ARB_LYCTRL_ENERGISE = 0 ∧ t.get CAL_STATUS_COMPUTE = 0 ∧ t =
    { s with regs := t.regs, evt := t.evt, mem := t.mem, mbx := t.mbx, corr := t.corr, cal := t.cal, gref := t.gref,
             valves := t.valves, chain := t.chain, baind := t.baind, ssp := t.ssp, fb := t.fb, outs := t.outs } ∧
    regsOutside [Blk.GLB, Blk.EVT, Blk.VLV, Blk.VBK, Blk.MBX] calAbortFlds s t) ∧
  (∀ (s : State) (r : Requester), s.protected r 0x6400 = false → s.calPhase = 1 → ∃ t, exec (.calAbort r) s = .next
    t ∧ t.calPhase = 0 ∧ t.cal.dead = true ∧ t.chain.asked = false ∧ t.get CAL_LASTRESULT_CODE = 8 ∧ t.get
    CAL_ABORTS_COUNT = satAdd 32 (s.get CAL_ABORTS_COUNT) 1 ∧ t =
    { s with regs := t.regs, evt := t.evt, mem := t.mem, mbx := t.mbx, corr := t.corr, cal := t.cal, gref := t.gref,
             valves := t.valves, chain := t.chain, baind := t.baind, ssp := t.ssp, fb := t.fb, outs := t.outs } ∧
    regsOutside [Blk.GLB, Blk.EVT, Blk.VLV, Blk.VBK, Blk.MBX] calAbortFlds s t)

/-- Settling, capture, computation, resume time, slot copy and hand-off end as R120, R135 and R136 say. (spec/05_calibration.md R120, R131, R134, R135, R136, spec/14_baind_commands.md R371, log entry 12) -/
def Obligations.CalibrationPhasesAdvanceToTheirEnd : Prop :=
  (∀ (s : State), s.calPhase = 3 → ∃ t, exec (.calSettleEnd) s = .next t ∧ t.cal =
    { s.cal with settled := true } ∧ t.time = max s.time ((s.cal.closedAt + s.cal.cfg.settle * 1000000) / 2 * 2) ∧ t
    = { s with time := t.time, cal := t.cal }) ∧
  (∀ (s : State), s.calPhase = 4 → ∃ t, exec (.calCaptureEnd) s = .next t ∧ t.calPhase = 5 ∧ t.get
    CAL_STATUS_COMPUTE = 1 ∧ t.get ARB_LYCTRL_ENERGISE = 0 ∧ t.cal =
    { s.cal with releasedAt := s.time, openAt := 0 } ∧ t =
    { s with regs := t.regs, cal := t.cal, valves := t.valves } ∧ regsOutside [Blk.VLV, Blk.VBK] (driveFlds ++
    [CAL_STATUS_PHASE, CAL_STATUS_COMPUTE]) s t) ∧
  (∀ (s : State), s.calPhase = 5 → s.get CAL_STATUS_COMPUTE = 1 → s.cal.dead = false → ∃ t, exec (.calComputeDone) s
    = .next t ∧ t.calPhase = 5 ∧ t.get CAL_STATUS_COMPUTE = 0 ∧ t.cal.ready = decide (t.cal.failCode = 0) ∧
    (t.cal.failCode ≠ 0 → t.cal.dead = true ∧ t.get CAL_LASTRESULT_CODE = t.cal.failCode ∧ t.get CAL_FAILS_COUNT =
    satAdd 32 (s.get CAL_FAILS_COUNT) 1) ∧ (t.cal.failCode = 0 → t.cal.dead = false ∧ t.get CAL_LASTRESULT_CODE =
    s.get CAL_LASTRESULT_CODE) ∧ t = { s with regs := t.regs, evt := t.evt, mem := t.mem, mbx := t.mbx, corr :=
                                                t.corr, cal := t.cal, baind := t.baind, ssp := t.ssp, fb := t.fb,
                                              outs := t.outs } ∧ regsOutside [Blk.EVT, Blk.CAL, Blk.MBX] (boxFlds ++
    [MEM_TESTABORTS_COUNT, COR_TREF_A_TEMP, COR_TREF_B_TEMP]) s t) ∧
  (∀ (s : State), s.calPhase = 5 → s.cal.openAt ≠ 0 → ∃ t, exec (.calResumeEnd) s = .next t ∧ t.time = max s.time
    ((s.cal.openAt - 1 + s.cal.cfg.resume * 1000) / 2 * 2) ∧ t =
    { s with time := t.time }) ∧
  (∀ (s : State), s.calPhase = 7 → s.cal.copying = true → s.cal.dead = true → s.get CAL_STATUS_PENDING = 0 → ∃ t,
    exec (.calSlotCopyDone) s = .next t ∧ t.calPhase = 0 ∧ t.cal =
    { s.cal with copying := false, handFrames := 0, lastEnd := s.time + 1, lastOk := if s.cal.success then s.time
                   else s.cal.lastOk, retryAt := t.cal.retryAt } ∧ (bitOf (s.get COR_OSEL_ACT) 0 = false → t.get
    COR_TREF_B_TEMP = s.get COR_TREF_A_TEMP % 2 ^ 20) ∧ (bitOf (s.get COR_OSEL_ACT) 0 = true → t.get COR_TREF_A_TEMP
    = s.get COR_TREF_B_TEMP % 2 ^ 20) ∧ t = { s with regs := t.regs, evt := t.evt, mem := t.mem, sensor := t.sensor,
                                                     corr := t.corr, cal := t.cal, chain := t.chain, baind :=
                                                       t.baind, outs := t.outs } ∧ regsOutside [Blk.EVT] (grantFlds
    ++ [MEM_TESTABORTS_COUNT, COR_OFLIP_FLIP, COR_TREF_A_TEMP, COR_TREF_B_TEMP, CAL_STATUS_PHASE,
    CAL_STATUS_COMPUTE, CAL_STATUS_PENDING]) s t) ∧
  (∀ (s : State), s.calPhase = 8 → s.cal.steps = [] → s.get CAL_STATUS_PENDING = 0 → ∃ t, exec (.trimHandoffTimeout)
    s = .next t ∧ t.calPhase = 0 ∧ t.cal = { s.cal with lastEnd := s.time + 1, lastOk := if s.cal.success then
                                                          s.time else s.cal.lastOk, retryAt := t.cal.retryAt } ∧
    t.get CAL_LASTRESULT_TRIMDROP = (if s.cal.dead = false ∧ s.handoffLeft = true then 1 else s.get
    CAL_LASTRESULT_TRIMDROP) ∧ t = { s with regs := t.regs, evt := t.evt, mem := t.mem, cal := t.cal } ∧ regsButEvt
    [CAL_STATUS_PHASE, CAL_LASTRESULT_TRIMDROP] s t)

/-- A backdrop gain refresh starts, raises and restores the set point, and gives gains that GAPPLY writes. (spec/05_calibration.md R99, R143, R144, R145, R146, spec/11_process_loops.md R308, spec/14_baind_commands.md R371, spec/13_processors_events.md R339, log entry 13) -/
def Obligations.BackdropGainRefreshRunsThroughItsWindows : Prop :=
  (∀ (s : State) (r : Requester), s.protected r 0x6400 = false → s.calPhase = 0 → s.get LOOP_CTRL_BKEN = 1 → s.get
    STG_STAT_LOCK = 1 → ∃ t, exec (.grefStart r) s = .next t ∧ t.calPhase = 10 ∧ t.get CAL_GREF_BUSY = 1 ∧ t.get
    LOOP_STAT_GREF = 1 ∧ t.gref = { Gref.init with phase := .window1, held := s.gref.held } ∧ t =
    { s with regs := t.regs, gref := t.gref } ∧ regsBut [CAL_STATUS_PHASE, CAL_GREF_BUSY, LOOP_STAT_GREF] s t) ∧
  (∀ (s : State) (r : Requester), s.protected r 0x6400 = false → s.calPhase = 1 → s.cal.grantAt = none →
    s.chain.asked = false → s.get LOOP_CTRL_BKEN = 1 → s.get STG_STAT_LOCK = 1 → ∃ t, exec (.grefStart r) s = .next
    t ∧ t.calPhase = 10 ∧ t.get CAL_GREF_BUSY = 1 ∧ t.get LOOP_STAT_GREF = 1 ∧ t.get CAL_STATUS_PENDING = (s.get
    CAL_STATUS_PENDING ||| s.cal.served) % 32 ∧ t.gref =
    { Gref.init with phase := .window1, held := s.gref.held } ∧ t =
    { s with regs := t.regs, cal := t.cal, gref := t.gref, chain := t.chain, outs := t.outs } ∧ regsOutside
    [Blk.GLB] (grantFlds ++ [CAL_STATUS_PHASE, CAL_STATUS_PENDING, CAL_STATUS_REFUSED, CAL_GREF_BUSY,
    LOOP_STAT_GREF]) s t) ∧
  (∀ (s : State) (r : Requester), s.protected r 0x6400 = false → (2 ≤ s.calPhase ∨ s.calPhase = 1 ∧ s.cal.grantAt ≠
    none ∨ s.get LOOP_CTRL_BKEN ≠ 1 ∨ s.get STG_STAT_LOCK ≠ 1) → ∃ t, exec (.grefStart r) s = .next t ∧ t.get
    CAL_STATUS_REFUSED = 1 ∧ t = { s with regs := t.regs } ∧ regsBut [CAL_STATUS_REFUSED] s t) ∧
  (∀ (s : State), s.gref.phase = .window1 → ∃ t, exec (.grefWindow1End) s = .next t ∧ t =
    { s with gref := { s.gref with phase := .wait, raised := true } }) ∧
  (∀ (s : State), s.gref.phase = .wait → ∃ t, exec (.grefSettled) s = .next t ∧ t =
    { s with gref := { s.gref with phase := .window2 } }) ∧
  (∀ (s : State), s.gref.phase = .wait → s.get CAL_STATUS_PENDING = 0 → s.opRuns 0x0302 = false → ∃ t, exec
    (.grefSettleTimeout) s = .next t ∧ t.calPhase = 0 ∧ t.get CAL_GREF_FAIL = 1 ∧ t.gref =
    { s.gref with phase := .idle, raised := false } ∧ t.gref.phase = .idle ∧ t.get CAL_GREF_BUSY = 0 ∧ t.get
    LOOP_STAT_GREF = 0 ∧ t = { s with regs := t.regs, gref := t.gref } ∧ regsBut [CAL_STATUS_PHASE, CAL_GREF_BUSY,
    CAL_GREF_FAIL, LOOP_STAT_GREF] s t) ∧
  (∀ (s : State), s.gref.phase = .window2 → 1000 * s.grefGains.2 ≤ s.get CAL_LIMITS_FRAC * s.goodPixels 0 →
    s.grefGains.2 < 2 ^ 18 → ∃ t, exec (.grefWindow2End) s = .next t ∧ t.gref =
    { s.gref with phase := .back, raised := false, held := s.grefGains.1 } ∧ t.get CAL_GREF_OUTLIM = s.grefGains.2 ∧
    t.get CAL_GREF_PENDAPPLY = 1 ∧ t = { s with regs := t.regs, gref := t.gref } ∧ regsBut [CAL_GREF_OUTLIM,
    CAL_GREF_PENDAPPLY] s t) ∧
  (∀ (s : State), s.gref.phase = .back → s.get CAL_STATUS_PENDING = 0 → s.opRuns 0x0302 = false → ∃ t, exec
    (.grefDone) s = .next t ∧ t.calPhase = 0 ∧ t.get CAL_GREF_DONE = 1 ∧ t.gref =
    { s.gref with phase := .idle, raised := false } ∧ t.gref.phase = .idle ∧ t.get CAL_GREF_BUSY = 0 ∧ t.get
    LOOP_STAT_GREF = 0 ∧ raisedIn Src.grefDone s t ∧ t =
    { s with regs := t.regs, evt := t.evt, mem := t.mem, gref := t.gref } ∧ regsButEvt [CAL_STATUS_PHASE,
    CAL_GREF_BUSY, CAL_GREF_DONE, LOOP_STAT_GREF] s t) ∧
  (∀ (s : State) (r : Requester), s.protected r 0x6400 = false → s.mode = 2 → s.get CAL_GREF_PENDAPPLY = 1 →
    s.pbBusy = false → s.calPhase = 0 → s.get PWR_STAT_DIP ≠ 1 → s.tmx.mode = 0 → s.get CHN_STAT_STATE ≠ 3 → ∃ t,
    exec (.gapply r) s = .next t ∧ t.calPhase = 1 ∧ t.get CAL_GREF_PENDAPPLY = 0 ∧ t.gref =
    { s.gref with held := [] } ∧ bitOf t.cal.served 4 = true ∧ (∀ i : Nat, i < 131072 → s.gref.held.all (fun p =>
    p.1 != i) = true → t.pb (4 * i + 1) = s.pb (4 * i + 1)) ∧ t =
    { s with regs := t.regs, mem := t.mem, corr := t.corr, cal := t.cal, gref := t.gref, chain := t.chain, baind :=
               t.baind, outs := t.outs } ∧ regsOutside [Blk.GLB] (grantFlds ++ [MEM_TESTABORTS_COUNT,
    COR_STAT_WRERR, CAL_STATUS_PHASE, CAL_STATUS_COMPUTE, CAL_STATUS_PENDING, CAL_STATUS_REFUSED,
    CAL_GREF_PENDAPPLY]) s t) ∧
  (∀ (s : State) (r : Requester) (p g : Nat), s.protected r 0x6400 = false → s.mode = 2 → s.get CAL_GREF_PENDAPPLY =
    1 → s.pbBusy = false → s.gref.held = [(p, g)] → g < 16384 → ∃ t, exec (.gapply r) s = .next t ∧ Rec.gain (t.pb
    (4 * p + 1)) = g ∧ (s.pb (4 * p + 1) < 2 ^ 32 → t.pb (4 * p + 1) / 16384 = s.pb (4 * p + 1) / 16384) ∧ t.gref =
    { s.gref with held := [] } ∧ t = { s with regs := t.regs, mem := t.mem, corr := t.corr, cal := t.cal, gref :=
                                                t.gref, chain := t.chain, baind := t.baind, outs := t.outs } ∧
    regsOutside [Blk.GLB] (grantFlds ++ [MEM_TESTABORTS_COUNT, COR_STAT_WRERR, CAL_STATUS_PHASE, CAL_STATUS_COMPUTE,
    CAL_STATUS_PENDING, CAL_STATUS_REFUSED, CAL_GREF_PENDAPPLY]) s t)

/-- Writes of VNOM, GEOM, GRAV, HYPSET and UNLAY are taken in range, and out of range set BRD_STAT.WRERR alone. (spec/06_unlay_braid.md R155, R159, spec/02_focal_plane.md R38, spec/13_processors_events.md R339) -/
def Obligations.BraidParameterWritesAskForNewTables : Prop :=
  (∀ (s : State) (r : Requester) (v : Word), s.protected r 0x6810 = false → 500 ≤ fldOf BRD_VNOM_V v → fldOf
    BRD_VNOM_V v ≤ 8000 → ∃ t, exec (.brdParamWrite r 0x6810 v) s = .next t ∧ t.get BRD_VNOM_V = fldOf BRD_VNOM_V v
    ∧ t.braid = { s.braid with busy := s.braid.busy || s.flag BRD_CTRL_AUTO } ∧ t =
    { s with regs := t.regs, braid := t.braid } ∧ regsBut [BRD_VNOM_V] s t) ∧
  (∀ (s : State) (r : Requester) (v : Word), s.protected r 0x6810 = false → (fldOf BRD_VNOM_V v < 500 ∨ 8000 < fldOf
    BRD_VNOM_V v) → ∃ t, exec (.brdParamWrite r 0x6810 v) s = .next t ∧ t.get BRD_STAT_WRERR = 1 ∧ t =
    { s with regs := t.regs } ∧ regsBut [BRD_STAT_WRERR] s t) ∧
  (∀ (s : State) (r : Requester) (v : Word), s.protected r 0x6818 = false → 100 ≤ fldOf BRD_GEOM_PITCH v → fldOf
    BRD_GEOM_PITCH v ≤ 20000 → 0 ≤ fldOf BRD_GEOM_TILT v → fldOf BRD_GEOM_TILT v ≤ 600 → ∃ t, exec (.brdParamWrite r
    0x6818 v) s = .next t ∧ t.get BRD_GEOM_PITCH = fldOf BRD_GEOM_PITCH v ∧ t.get BRD_GEOM_TILT = fldOf
    BRD_GEOM_TILT v ∧ t.braid = { s.braid with busy := s.braid.busy || s.flag BRD_CTRL_AUTO } ∧ t =
    { s with regs := t.regs, braid := t.braid } ∧ regsBut [BRD_GEOM_PITCH, BRD_GEOM_TILT] s t) ∧
  (∀ (s : State) (r : Requester) (v : Word), s.protected r 0x6818 = false → (fldOf BRD_GEOM_PITCH v < 100 ∨ 20000 <
    fldOf BRD_GEOM_PITCH v ∨ fldOf BRD_GEOM_TILT v < 0 ∨ 600 < fldOf BRD_GEOM_TILT v) → ∃ t, exec (.brdParamWrite r
    0x6818 v) s = .next t ∧ t.get BRD_STAT_WRERR = 1 ∧ t =
    { s with regs := t.regs } ∧ regsBut [BRD_STAT_WRERR] s t) ∧
  (∀ (s : State) (r : Requester) (v : Word), s.protected r 0x681C = false → 9760 ≤ fldOf BRD_GRAV_G v → fldOf
    BRD_GRAV_G v ≤ 9840 → ∃ t, exec (.brdParamWrite r 0x681C v) s = .next t ∧ t.get BRD_GRAV_G = fldOf BRD_GRAV_G v
    ∧ t.braid = { s.braid with busy := s.braid.busy || s.flag BRD_CTRL_AUTO } ∧ t =
    { s with regs := t.regs, braid := t.braid } ∧ regsBut [BRD_GRAV_G] s t) ∧
  (∀ (s : State) (r : Requester) (v : Word), s.protected r 0x681C = false → (fldOf BRD_GRAV_G v < 9760 ∨ 9840 <
    fldOf BRD_GRAV_G v) → ∃ t, exec (.brdParamWrite r 0x681C v) s = .next t ∧ t.get BRD_STAT_WRERR = 1 ∧ t =
    { s with regs := t.regs } ∧ regsBut [BRD_STAT_WRERR] s t) ∧
  (∀ (s : State) (r : Requester) (v : Word), s.protected r 0x6820 = false → 1 ≤ fldOf BRD_HYPSET_K v → fldOf
    BRD_HYPSET_K v ≤ 5 → 4 ≤ fldOf BRD_HYPSET_SPACING v → fldOf BRD_HYPSET_SPACING v ≤ 64 → ∃ t, exec
    (.brdParamWrite r 0x6820 v) s = .next t ∧ t.get BRD_HYPSET_K = fldOf BRD_HYPSET_K v ∧ t.get BRD_HYPSET_SPACING =
    fldOf BRD_HYPSET_SPACING v ∧ t.braid = { s.braid with busy := s.braid.busy || s.flag BRD_CTRL_AUTO } ∧ t =
    { s with regs := t.regs, braid := t.braid } ∧ regsBut [BRD_HYPSET_K, BRD_HYPSET_SPACING] s t) ∧
  (∀ (s : State) (r : Requester) (v : Word), s.protected r 0x6820 = false → (fldOf BRD_HYPSET_K v < 1 ∨ 5 < fldOf
    BRD_HYPSET_K v ∨ fldOf BRD_HYPSET_SPACING v < 4 ∨ 64 < fldOf BRD_HYPSET_SPACING v) → ∃ t, exec (.brdParamWrite r
    0x6820 v) s = .next t ∧ t.get BRD_STAT_WRERR = 1 ∧ t =
    { s with regs := t.regs } ∧ regsBut [BRD_STAT_WRERR] s t) ∧
  (∀ (s : State) (r : Requester) (v : Word), s.protected r 0x6808 = false → fldOf BRD_UNLAY_BETA v ≤ 16 → ∃ t, exec
    (.brdUnlayWrite r v) s = .next t ∧ t.live.pend = s.live.pend ++ [(s.dueOf s.time, BRD_UNLAY_BETA.key, fldOf
    BRD_UNLAY_BETA v), (s.dueOf s.time, BRD_UNLAY_BYPASS.key, fldOf BRD_UNLAY_BYPASS v)] ∧ t.get BRD_UNLAY_BETA =
    fldOf BRD_UNLAY_BETA v ∧ t.get BRD_UNLAY_BYPASS = fldOf BRD_UNLAY_BYPASS v ∧ t.get BRD_UNLAY_PEND = 1 ∧ t =
    { s with regs := t.regs, live := { s.live with pend := t.live.pend } } ∧ regsBut [BRD_UNLAY_BETA,
    BRD_UNLAY_BYPASS, BRD_UNLAY_PEND] s t) ∧
  (∀ (s : State) (r : Requester) (v : Word), s.protected r 0x6808 = false → 16 < fldOf BRD_UNLAY_BETA v → ∃ t, exec
    (.brdUnlayWrite r v) s = .next t ∧ t.get BRD_STAT_WRERR = 1 ∧ t =
    { s with regs := t.regs } ∧ regsBut [BRD_STAT_WRERR] s t)

/-- A computed set goes to the free shadow buffer, a switch and a restart are asked for, speed tracking moves VNOM. (spec/06_unlay_braid.md R156, R159, R170, R171, R172, R177, spec/02_focal_plane.md R38, spec/13_processors_events.md R339) -/
def Obligations.TableSetsAreComputedCheckedSwitchedAndTracked : Prop :=
  (∀ (s : State), s.braid.busy = true → s.get BRD_CTRL_AUTO = 1 → s.braid.late = false → s.shadowBusy = false →
    s.braid.swDue = none → s.braid.waitSet = none → s.get STG_FRATE_RATE = s.sensor.rate → 1 ≤ s.get BRD_HYPSET_K →
    s.fits (computedSet (s.tableInputs s.sensor.rate) (s.get BRD_HYPSET_K)) s.truncDue = true → ∃ t, exec
    (.brdTableComputeDone) s = .next t ∧ t.braid = { s.braid with busy := false, ready := none, shadow := {
                                                                                                                computedSet
                                                                                                                (s.tableInputs
                                                                                                                s.sensor.rate)
                                                                                                                (s.get
                                                                                                                BRD_HYPSET_K)
                                                                                                                with
                                                                                                                gen
                                                                                                                  :=
                                                                                                                  s.braid.shadow.gen
                                                                                                                  },
                                                                  swDue := some (s.dueOf s.time), swK := s.get
                                                                    BRD_HYPSET_K } ∧ t.get BRD_TSTAT_SWPEND = 1 ∧ t
    = { s with regs := t.regs, braid := t.braid, mem := t.mem } ∧ regsBut [BRD_TSTAT_SWPEND] s t) ∧
  (∀ (s : State), s.braid.busy = true → s.braid.waitSet = none → s.get STG_FRATE_RATE ≠ s.sensor.rate → ∃ t, exec
    (.brdTableComputeDone) s = .next t ∧ t = { s with braid := { s.braid with busy := false, ready := some
                                                                                (s.tableInputs (s.get
                                                                                STG_FRATE_RATE)) } }) ∧
  (∀ (s : State) (r : Requester) (v : Word), s.protected r 0x682C = false → fldOf BRD_TCMD_SWITCH v = 1 → s.get
    BRD_CTRL_AUTO ≠ 1 → s.shadowBusy = false → TSet.ordered
    { s.braid.shadow with k := fldOf BRD_TCMD_NEWK v } = true → s.fits
    { s.braid.shadow with k := fldOf BRD_TCMD_NEWK v } s.truncDue = true → ∃ t, exec (.brdSwitch r v) s = .next t ∧
    t.braid = { s.braid with swDue := some (s.dueOf s.time), swK := fldOf BRD_TCMD_NEWK v } ∧ t.get BRD_TSTAT_SWPEND
    = 1 ∧ t.get BRD_TCMD_NEWK = fldOf BRD_TCMD_NEWK v ∧ t =
    { s with regs := t.regs, braid := t.braid } ∧ regsBut [BRD_TSTAT_SWPEND, BRD_TCMD_NEWK] s t) ∧
  (∀ (s : State) (r : Requester) (v : Word), s.protected r 0x682C = false → fldOf BRD_TCMD_SWITCH v = 1 → s.get
    BRD_CTRL_AUTO ≠ 1 → s.shadowBusy = false → TSet.ordered
    { s.braid.shadow with k := fldOf BRD_TCMD_NEWK v } = false → ∃ t, exec (.brdSwitch r v) s = .next t ∧ t.get
    BRD_STAT_ORDERR = 1 ∧ raisedIn Src.brdCfg s t ∧ t =
    { s with regs := t.regs, evt := t.evt, mem := t.mem } ∧ regsButEvt [BRD_STAT_ORDERR, BRD_TCMD_NEWK] s t) ∧
  (∀ (s : State) (r : Requester), s.protected r 0x6800 = false → ∃ t, exec (.brdRestart r) s = .next t ∧ t =
    { s with braid := { s.braid with restartDue := s.braid.restartDue ++ [s.dueOf s.time] } }) ∧
  (∀ (s : State) (n : Nat) (m : Int), s.get BRD_CTRL_TRACK = 1 → s.get BRD_CTRL_AUTO = 1 → 2 ≤ s.braid.active.k →
    s.braid.active.k ≤ 5 → n = sumN ((List.range s.braid.active.k).map fun k => s.get (BRD_HYPCNT_COUNT k)) → m =
    sumI ((List.range s.braid.active.k).map fun (k : Nat) => (2 * (k : Int) - ((s.braid.active.k : Int) - 1)) *
    (s.get (BRD_HYPCNT_COUNT k) : Int)) → s.get BRD_TRACK_MINCNT ≤ n → 0 < n → s.get BRD_TRACK_THRESH * 2 * n <
    m.natAbs * 16 → ∃ t, exec (.brdTrackEval) s = .next t ∧ t.get BRD_VNOM_V = (clampI (s.get BRD_VLIM_VMIN) (s.get
    BRD_VLIM_VMAX) (roundDiv ((s.get BRD_VNOM_V : Int) * (1600 * n + m * s.get BRD_HYPSET_SPACING)) (1600 *
    n))).toNat % 2 ^ 16 ∧ (∀ k : Nat, k < 5 → t.get (BRD_HYPCNT_COUNT k) = 0) ∧ t.get BRD_STAT_TRACKED = 1 ∧ t.braid
    = { s.braid with busy := true } ∧ raisedIn Src.brdTracked s t ∧ t =
    { s with regs := t.regs, evt := t.evt, mem := t.mem, braid := t.braid } ∧ regsButEvt [BRD_VNOM_V,
    BRD_STAT_TRACKED, BRD_HYPCNT_COUNT 0, BRD_HYPCNT_COUNT 1, BRD_HYPCNT_COUNT 2, BRD_HYPCNT_COUNT 3,
    BRD_HYPCNT_COUNT 4] s t)

/-- KNT_THR, classifier and map switches, queue flush and the staged EJS fields. (spec/07_knots_verdicts.md R184, R204, spec/08_eject_scheduling.md R220, R229, R232, spec/02_focal_plane.md R38, spec/13_processors_events.md R339) -/
def Obligations.ThresholdsBanksAndScheduleSettingsWaitForTheirBoundary : Prop :=
  (∀ (s : State) (r : Requester) (v : Word), s.protected r 0x7008 = false → fldOf KNT_THR_CLOSE v ≤ fldOf
    KNT_THR_OPEN v → ∃ t, exec (.kntThrWrite r v) s = .next t ∧ t.live.pend = s.live.pend ++ [(s.dueOf s.time,
    KNT_THR_OPEN.key, fldOf KNT_THR_OPEN v), (s.dueOf s.time, KNT_THR_CLOSE.key, fldOf KNT_THR_CLOSE v)] ∧ t.get
    KNT_THR_OPEN = fldOf KNT_THR_OPEN v ∧ t.get KNT_THR_CLOSE = fldOf KNT_THR_CLOSE v ∧ t =
    { s with regs := t.regs, live := { s.live with pend := t.live.pend } } ∧ regsBut [KNT_THR_OPEN, KNT_THR_CLOSE] s
    t) ∧
  (∀ (s : State) (r : Requester) (v : Word), s.protected r 0x7008 = false → fldOf KNT_THR_OPEN v < fldOf
    KNT_THR_CLOSE v → ∃ t, exec (.kntThrWrite r v) s = .next t ∧ t.get KNT_STAT_WRERR = 1 ∧ t =
    { s with regs := t.regs } ∧ regsBut [KNT_STAT_WRERR] s t) ∧
  (∀ (s : State) (r : Requester), s.protected r 0x7400 = false → s.get VRD_CTRL_SWPEND ≠ 1 → ∃ t, exec (.vrdSwitch
    r) s = .next t ∧ t.sched = { s.sched with clsDue := some (s.dueOf s.time) } ∧ t.get VRD_CTRL_SWPEND = 1 ∧ t =
    { s with regs := t.regs, sched := t.sched } ∧ regsBut [VRD_CTRL_SWPEND] s t) ∧
  (∀ (s : State) (r : Requester), s.protected r 0x7400 = false → s.get VRD_CTRL_SWPEND = 1 → ∃ t, exec (.vrdSwitch
    r) s = .next t ∧ t.get VRD_STAT_WRERR = 1 ∧ t =
    { s with regs := t.regs } ∧ regsBut [VRD_STAT_WRERR] s t) ∧
  (∀ (s : State) (r : Requester), s.protected r 0x7800 = false → s.get EJS_CTRL_MAPPEND ≠ 1 → ∃ t, exec (.mapsw r) s
    = .next t ∧ t.sched = { s.sched with mapDue := some (s.dueOf s.time) } ∧ t.get EJS_CTRL_MAPPEND = 1 ∧ t =
    { s with regs := t.regs, sched := t.sched } ∧ regsBut [EJS_CTRL_MAPPEND] s t) ∧
  (∀ (s : State) (r : Requester), s.protected r 0x7800 = false → ∃ t, exec (.qflush r) s = .next t ∧ (∀ c : Nat, c <
    s.nChans → t.queueOf c = (s.queueOf c).filter fun e => s.executing e) ∧ t.sched =
    { s.sched with queues := t.sched.queues } ∧ t =
    { s with regs := t.regs, sched := t.sched } ∧ regsOutside [Blk.GLB, Blk.VLV] [EJS_QOCC_MAX, EJS_QOCC_MAXCH] s t) ∧
  (∀ (s : State) (r : Requester) (v : Word), s.protected r 0x7800 = false → ∃ t, exec (.ejsStagedWrite r 0x7800 v) s
    = .next t ∧ t.live.pend = s.live.pend ++ [(s.dueOf s.time, EJS_CTRL_ROWS.key, fldOf EJS_CTRL_ROWS v), (s.dueOf
    s.time, EJS_CTRL_BONE.key, fldOf EJS_CTRL_BONE v), (s.dueOf s.time, EJS_CTRL_LATEPOL.key, fldOf EJS_CTRL_LATEPOL
    v), (s.dueOf s.time, EJS_CTRL_LEADAUTO.key, fldOf EJS_CTRL_LEADAUTO v)] ∧ t.get EJS_CTRL_ROWS = fldOf
    EJS_CTRL_ROWS v ∧ t.get EJS_CTRL_BONE = fldOf EJS_CTRL_BONE v ∧ t.get EJS_CTRL_LATEPOL = fldOf EJS_CTRL_LATEPOL
    v ∧ t.get EJS_CTRL_LEADAUTO = fldOf EJS_CTRL_LEADAUTO v ∧ t =
    { s with regs := t.regs, live := { s.live with pend := t.live.pend } } ∧ regsBut [EJS_CTRL_ROWS, EJS_CTRL_BONE,
    EJS_CTRL_LATEPOL, EJS_CTRL_LEADAUTO] s t) ∧
  (∀ (s : State) (r : Requester) (v : Word), s.protected r 0x7808 = false → 100 ≤ fldOf EJS_DISTA_D v → fldOf
    EJS_DISTA_D v ≤ 20000 → ∃ t, exec (.ejsStagedWrite r 0x7808 v) s = .next t ∧ t.live.pend = s.live.pend ++
    [(s.dueOf s.time, EJS_DISTA_D.key, fldOf EJS_DISTA_D v)] ∧ t.get EJS_DISTA_D = fldOf EJS_DISTA_D v ∧ t =
    { s with regs := t.regs, live := { s.live with pend := t.live.pend } } ∧ regsBut [EJS_DISTA_D] s t) ∧
  (∀ (s : State) (r : Requester) (v : Word), s.protected r 0x7808 = false → (fldOf EJS_DISTA_D v < 100 ∨ 20000 <
    fldOf EJS_DISTA_D v) → ∃ t, exec (.ejsStagedWrite r 0x7808 v) s = .next t ∧ t.get EJS_STAT_WRERR = 1 ∧ t =
    { s with regs := t.regs } ∧ regsBut [EJS_STAT_WRERR] s t) ∧
  (∀ (s : State) (r : Requester) (v : Word), s.protected r 0x780C = false → 100 ≤ fldOf EJS_DISTB_D v → fldOf
    EJS_DISTB_D v ≤ 20000 → ∃ t, exec (.ejsStagedWrite r 0x780C v) s = .next t ∧ t.live.pend = s.live.pend ++
    [(s.dueOf s.time, EJS_DISTB_D.key, fldOf EJS_DISTB_D v)] ∧ t.get EJS_DISTB_D = fldOf EJS_DISTB_D v ∧ t =
    { s with regs := t.regs, live := { s.live with pend := t.live.pend } } ∧ regsBut [EJS_DISTB_D] s t) ∧
  (∀ (s : State) (r : Requester) (v : Word), s.protected r 0x780C = false → (fldOf EJS_DISTB_D v < 100 ∨ 20000 <
    fldOf EJS_DISTB_D v) → ∃ t, exec (.ejsStagedWrite r 0x780C v) s = .next t ∧ t.get EJS_STAT_WRERR = 1 ∧ t =
    { s with regs := t.regs } ∧ regsBut [EJS_STAT_WRERR] s t) ∧
  (∀ (s : State) (r : Requester) (v : Word), s.protected r 0x7810 = false → fldOf EJS_MARGIN_TMARG v ≤ 5000 → ∃ t,
    exec (.ejsStagedWrite r 0x7810 v) s = .next t ∧ t.live.pend = s.live.pend ++ [(s.dueOf s.time,
    EJS_MARGIN_TMARG.key, fldOf EJS_MARGIN_TMARG v), (s.dueOf s.time, EJS_MARGIN_LMARG.key, fldOf EJS_MARGIN_LMARG
    v)] ∧ t.get EJS_MARGIN_TMARG = fldOf EJS_MARGIN_TMARG v ∧ t.get EJS_MARGIN_LMARG = fldOf EJS_MARGIN_LMARG v ∧ t
    = { s with regs := t.regs, live := { s.live with pend := t.live.pend } } ∧ regsBut [EJS_MARGIN_TMARG,
    EJS_MARGIN_LMARG] s t) ∧
  (∀ (s : State) (r : Requester) (v : Word), s.protected r 0x7810 = false → 5000 < fldOf EJS_MARGIN_TMARG v → ∃ t,
    exec (.ejsStagedWrite r 0x7810 v) s = .next t ∧ t.get EJS_STAT_WRERR = 1 ∧ t =
    { s with regs := t.regs } ∧ regsBut [EJS_STAT_WRERR] s t) ∧
  (∀ (s : State) (r : Requester) (v : Word), s.protected r 0x7814 = false → fldOf EJS_MERGE_GAP v ≤ 8000 → ∃ t, exec
    (.ejsStagedWrite r 0x7814 v) s = .next t ∧ t.live.pend = s.live.pend ++ [(s.dueOf s.time, EJS_MERGE_GAP.key,
    fldOf EJS_MERGE_GAP v)] ∧ t.get EJS_MERGE_GAP = fldOf EJS_MERGE_GAP v ∧ t =
    { s with regs := t.regs, live := { s.live with pend := t.live.pend } } ∧ regsBut [EJS_MERGE_GAP] s t) ∧
  (∀ (s : State) (r : Requester) (v : Word), s.protected r 0x7814 = false → 8000 < fldOf EJS_MERGE_GAP v → ∃ t, exec
    (.ejsStagedWrite r 0x7814 v) s = .next t ∧ t.get EJS_STAT_WRERR = 1 ∧ t =
    { s with regs := t.regs } ∧ regsBut [EJS_STAT_WRERR] s t) ∧
  (∀ (s : State) (r : Requester) (v : Word), s.protected r 0x7818 = false → ∃ t, exec (.ejsStagedWrite r 0x7818 v) s
    = .next t ∧ t.live.pend = s.live.pend ++ [(s.dueOf s.time, EJS_LEAD_OFS.key, fldOf EJS_LEAD_OFS v), (s.dueOf
    s.time, EJS_LEAD_MINAVG.key, max 1 (fldOf EJS_LEAD_MINAVG v))] ∧ t.get EJS_LEAD_OFS = fldOf EJS_LEAD_OFS v ∧
    t.get EJS_LEAD_MINAVG = max 1 (fldOf EJS_LEAD_MINAVG v) ∧ t =
    { s with regs := t.regs, live := { s.live with pend := t.live.pend } } ∧ regsBut [EJS_LEAD_OFS, EJS_LEAD_MINAVG]
    s t)

/-- A frame boundary counts the frame, moves the grid and applies the staged fields of the logic die whose boundary has come. (spec/02_focal_plane.md R36, R37, R38, spec/04_pixel_correction.md R93, log entry 1) -/
def Obligations.FrameBoundariesAdvanceTheGridAndApplySettings : Prop :=
  (∀ (s : State), ∃ t, exec (.frameBoundary) s = .next t ∧ t.get STG_FRAMECNT_COUNT = (s.get STG_FRAMECNT_COUNT + 1)
    % 2 ^ 32 ∧ t.time = max s.time (s.slotAt (s.sensor.gridK + 1) 0) ∧ t.live.pend = s.live.pend.filter (fun p =>
    !t.reached p.1) ∧ t.corr.ctx.getLast?.map (·.frame) = some (t.get STG_FRAMECNT_COUNT) ∧ t =
    { s with time := t.time, regs := t.regs, free := t.free, evt := t.evt, mem := t.mem, mbx := t.mbx, sensor :=
               t.sensor, corr := t.corr, cal := t.cal, gref := t.gref, trk := t.trk, tmx := t.tmx, live := t.live,
             braid := t.braid, knots := t.knots, sched := t.sched, valves := t.valves, chain := t.chain, baind :=
               t.baind, ssp := t.ssp, flash := t.flash, tap := t.tap, house := t.house, fb := t.fb, outs := t.outs }
    ∧ regsOutside [Blk.EVT, Blk.TIL, Blk.COR, Blk.BRD, Blk.VLV, Blk.VBK, Blk.MBX] (driveFlds ++ boxFlds ++ grantFlds
    ++ [MEM_TESTABORTS_COUNT, GLB_STAT_UNSYNC, STG_CTRL_BIAS_EN, STG_FRATE_PEND, STG_BIAS_APPLIED, STG_BIAS_PEND,
    STG_STAT_BIAS_RAMP, STG_STAT_CFGERR, STG_STAT_SETTLE, STG_FRAMECNT_COUNT, STG_CFGFRAME_FRAME, CAL_STATUS_PHASE,
    CAL_STATUS_COMPUTE, CAL_STATUS_BLIND, CAL_STATUS_PENDING, CAL_STATUS_BACKOFF, CAL_COUNT_COUNT,
    CAL_LASTTIME_LO_STAMP, CAL_LASTTIME_HI_STAMP, CAL_LASTSTAGE_TEMP, CAL_LASTRESULT_CODE, CAL_LASTRESULT_TRIG,
    CAL_LASTRESULT_ORPHAN, CAL_LASTRESULT_TRIMDROP, CAL_BLIND_US, CAL_ANCHOR_A, CAL_ANCHOR_VALID,
    CAL_TRKSTAT_FROZEN, KNT_STAT_FULL, KNT_STAT_WRERR, KNT_STAT_FULLSEEN, KNT_OPEN_NOW, KNT_OPEN_MAX,
    KNT_DROPCNT_COUNT, VRD_CTRL_ACTBANK, VRD_CTRL_SWPEND, EJS_CTRL_MAPACT, EJS_CTRL_MAPPEND, EJS_STAT_DROP,
    EJS_STAT_CLIP, EJS_FIRECNT_COUNT, EJS_MERGECNT_COUNT, EJS_DROPCNT_COUNT, EJS_CLIPCNT_COUNT, EJS_QOCC_MAX,
    EJS_QOCC_MAXCH, ARB_CTRL_EN, ARB_LYSTAT_OPEN, MEM_DDRSTAT_SELFREF, ETH_PTPSTAT_OFSVALID, ETH_PTPOFS_LO_OFS,
    ETH_PTPOFS_HI_OFS, ETH_TAPCTL_BUSY, ETH_TAPSTAT_RECSIZE, ETH_TAPSTAT_HALT, ETH_TAPDROP_MISSED, CHN_STAT_STATE,
    CHN_STAT_MSTIDX, CHN_STAT_MEMBERS, TMX_BLINDACT_TILES, TMX_TPCTL_PEND, TMX_TPSTAT_ACTIVE]) s t) ∧
  (∀ (s : State), s.sensor.staged = [] → s.chain.rateNext = none → s.sensor.removeBias = false → s.sensor.rampJ = 0
    → s.calPhase = 0 → ∃ t, exec (.frameBoundary) s = .next t ∧ t.sensor.gridK = s.sensor.gridK + 1 ∧
    t.sensor.gridBase = s.sensor.gridBase ∧ t.sensor.rate = s.sensor.rate ∧ t.sensor.partialF = false ∧
    t.sensor.biasEn = s.sensor.biasEn ∧ t.sensor.level = s.sensor.level ∧ t =
    { s with time := t.time, regs := t.regs, free := t.free, evt := t.evt, mem := t.mem, mbx := t.mbx, sensor :=
               t.sensor, corr := t.corr, cal := t.cal, gref := t.gref, trk := t.trk, tmx := t.tmx, live := t.live,
             braid := t.braid, knots := t.knots, sched := t.sched, valves := t.valves, chain := t.chain, baind :=
               t.baind, ssp := t.ssp, flash := t.flash, tap := t.tap, house := t.house, fb := t.fb, outs := t.outs }
    ∧ regsOutside [Blk.EVT, Blk.TIL, Blk.COR, Blk.BRD, Blk.VLV, Blk.VBK, Blk.MBX] (driveFlds ++ boxFlds ++ grantFlds
    ++ [MEM_TESTABORTS_COUNT, GLB_STAT_UNSYNC, STG_CTRL_BIAS_EN, STG_FRATE_PEND, STG_BIAS_APPLIED, STG_BIAS_PEND,
    STG_STAT_BIAS_RAMP, STG_STAT_CFGERR, STG_STAT_SETTLE, STG_FRAMECNT_COUNT, STG_CFGFRAME_FRAME, CAL_STATUS_PHASE,
    CAL_STATUS_COMPUTE, CAL_STATUS_BLIND, CAL_STATUS_PENDING, CAL_STATUS_BACKOFF, CAL_COUNT_COUNT,
    CAL_LASTTIME_LO_STAMP, CAL_LASTTIME_HI_STAMP, CAL_LASTSTAGE_TEMP, CAL_LASTRESULT_CODE, CAL_LASTRESULT_TRIG,
    CAL_LASTRESULT_ORPHAN, CAL_LASTRESULT_TRIMDROP, CAL_BLIND_US, CAL_ANCHOR_A, CAL_ANCHOR_VALID,
    CAL_TRKSTAT_FROZEN, KNT_STAT_FULL, KNT_STAT_WRERR, KNT_STAT_FULLSEEN, KNT_OPEN_NOW, KNT_OPEN_MAX,
    KNT_DROPCNT_COUNT, VRD_CTRL_ACTBANK, VRD_CTRL_SWPEND, EJS_CTRL_MAPACT, EJS_CTRL_MAPPEND, EJS_STAT_DROP,
    EJS_STAT_CLIP, EJS_FIRECNT_COUNT, EJS_MERGECNT_COUNT, EJS_DROPCNT_COUNT, EJS_CLIPCNT_COUNT, EJS_QOCC_MAX,
    EJS_QOCC_MAXCH, ARB_CTRL_EN, ARB_LYSTAT_OPEN, MEM_DDRSTAT_SELFREF, ETH_PTPSTAT_OFSVALID, ETH_PTPOFS_LO_OFS,
    ETH_PTPOFS_HI_OFS, ETH_TAPCTL_BUSY, ETH_TAPSTAT_RECSIZE, ETH_TAPSTAT_HALT, ETH_TAPDROP_MISSED, CHN_STAT_STATE,
    CHN_STAT_MSTIDX, CHN_STAT_MEMBERS, TMX_BLINDACT_TILES, TMX_TPCTL_PEND, TMX_TPSTAT_ACTIVE]) s t)

/-- The oldest row group enters the pipeline, due slices complete, the next closed knot gets its verdict, and a splice request becomes a firing. (spec/03_conversion_tether.md R71, R84, R86, spec/06_unlay_braid.md R151, R152, R165, R167, spec/07_knots_verdicts.md R204, R207, R208, R209, R210, spec/08_eject_scheduling.md R216, R217, R221, R222, R224, spec/16_chain.md R425, R426) -/
def Obligations.RowGroupsSlicesVerdictsAndSplicesMoveOn : Prop :=
  (∀ (s : State) (n occ : Nat) (g : RowGroup) (rest : List RowGroup), n < s.nTiles → s.mem.errs = [] → 1 ≤ occ → occ
    ≤ 32 → (s.rx n).fifo = g :: rest → ∃ t, exec (.rowGroupRelease n occ []) s = .next t ∧ (t.rx n).fifo = rest ∧
    t.get (TIL_TXSTAT_OCC n) = occ ∧ t.get (TIL_TXSTAT_OCCMIN n) = min occ (s.get (TIL_TXSTAT_OCCMIN n)) ∧ t.get
    (TIL_TXSTAT_OCCMAX n) = max occ (s.get (TIL_TXSTAT_OCCMAX n)) ∧ t.time = max s.time (s.releaseTime g) ∧ t =
    { s with time := t.time, regs := t.regs, free := t.free, power := t.power, evt := t.evt, mem := t.mem, mbx :=
               t.mbx, sensor := t.sensor, corr := t.corr, cal := t.cal, gref := t.gref, trk := t.trk, loops :=
               t.loops, braid := t.braid, sched := t.sched, valves := t.valves, baind := t.baind, ssp := t.ssp, tap
               := t.tap, fb := t.fb, outs := t.outs } ∧ regsOutside [Blk.EVT, Blk.TIL, Blk.VLV, Blk.VBK, Blk.MEM,
    Blk.MBX] (driveFlds ++ boxFlds ++ [COR_ECCBAD_COUNT, COR_CLIPCNT_COUNT, CAL_TRKSTAT_SATCNT, BRD_UNLRST_COUNT,
    BRD_UCLIPCNT_COUNT, EJS_QOCC_MAX, EJS_QOCC_MAXCH, ETH_TAPCTL_BUSY, ETH_TAPWR_INDEX, ETH_TAPSTAT_RECSIZE,
    ETH_TAPSTAT_HALT, ETH_TAPSTAT_OVRSEEN, ETH_TAPDROP_OVERRUN]) s t) ∧
  (∀ (s : State) (n occ : Nat) (g : RowGroup) (rest : List RowGroup), n < s.nTiles → s.mem.errs = [] → 1 ≤ occ →
    s.pipeStopped = false → (s.rx n).fifo = g :: rest → g.words.length = 256 → g.hdr.invalid = true → ∃ t, exec
    (.rowGroupRelease n occ []) s = .next t ∧ (∀ k : Nat, k < 256 → t.ubWord (4096 * g.hdr.tile + 64 * (4 *
    g.hdr.rgrp + k % 4) + k / 4) = 0xFFFF) ∧ t = { s with time := t.time, regs := t.regs, free := t.free, power :=
                                                            t.power, evt := t.evt, mem := t.mem, mbx := t.mbx,
                                                          sensor := t.sensor, corr := t.corr, cal := t.cal, gref :=
                                                            t.gref, trk := t.trk, loops := t.loops, braid :=
                                                            t.braid, sched := t.sched, valves := t.valves, baind :=
                                                            t.baind, ssp := t.ssp, tap := t.tap, fb := t.fb, outs :=
                                                            t.outs } ∧ regsOutside [Blk.EVT, Blk.TIL, Blk.VLV,
    Blk.VBK, Blk.MEM, Blk.MBX] (driveFlds ++ boxFlds ++ [COR_ECCBAD_COUNT, COR_CLIPCNT_COUNT, CAL_TRKSTAT_SATCNT,
    BRD_UNLRST_COUNT, BRD_UCLIPCNT_COUNT, EJS_QOCC_MAX, EJS_QOCC_MAXCH, ETH_TAPCTL_BUSY, ETH_TAPWR_INDEX,
    ETH_TAPSTAT_RECSIZE, ETH_TAPSTAT_HALT, ETH_TAPSTAT_OVRSEEN, ETH_TAPDROP_OVERRUN]) s t) ∧
  (∀ (s : State), s.mem.errs = [] → ∃ t, exec (.sliceComplete []) s = .next t ∧ t.braid.slices =
    s.braid.slices.filter (fun x => !(s.dueSlices.any fun d => d.hyp == x.hyp && d.start == x.start)) ∧ t.knots.seq
    = s.knots.seq + s.dueSlices.length ∧ t.braid.truncated = false ∧ t =
    { s with regs := t.regs, free := t.free, power := t.power, evt := t.evt, mem := t.mem, mbx := t.mbx, trk :=
               t.trk, loops := t.loops, braid := t.braid, knots := t.knots, sched := t.sched, valves := t.valves,
             baind := t.baind, ssp := t.ssp, tap := t.tap, fb := t.fb, outs := t.outs } ∧ regsOutside [Blk.EVT,
    Blk.BRD, Blk.VLV, Blk.VBK, Blk.MEM, Blk.MBX] (driveFlds ++ boxFlds ++ [KNT_STAT_FULL, KNT_STAT_FULLSEEN,
    KNT_STAT_SPLIT, KNT_OPEN_NOW, KNT_OPEN_MAX, KNT_LOSTCNT_COUNT, KNT_SPLITCNT_COUNT, KNT_DROPCNT_COUNT,
    EJS_QOCC_MAX, EJS_QOCC_MAXCH, ETH_TAPCTL_BUSY, ETH_TAPWR_INDEX, ETH_TAPSTAT_RECSIZE, ETH_TAPSTAT_HALT,
    ETH_TAPSTAT_OVRSEEN, ETH_TAPDROP_OVERRUN, ETH_TAPDROP_MISSED]) s t) ∧
  (∀ (s : State) (q : Closed) (rest : List Closed) (rs : List ChainPort), s.mem.errs = [] → s.knots.queue = q ::
    rest → ∃ t, exec (.verdictIssue [] rs) s = .next t ∧ t.knots.queue = rest ∧ t.get VRD_SEQ_NEXT = (s.get
    VRD_SEQ_NEXT + 1) % 2 ^ 16 ∧ t.get KNT_CLOSED_COUNT = satAdd 31 (s.get KNT_CLOSED_COUNT) 1 ∧ t =
    { s with regs := t.regs, free := t.free, power := t.power, evt := t.evt, mem := t.mem, loops := t.loops, knots
               := t.knots, sched := t.sched, valves := t.valves, outs := t.outs } ∧ regsOutside [Blk.EVT, Blk.VRD,
    Blk.VLV, Blk.VBK, Blk.MEM] (driveFlds ++ [KNT_STAT_FULL, KNT_STAT_FULLSEEN, KNT_OPEN_NOW, KNT_OPEN_MAX,
    KNT_CLOSED_COUNT, KNT_DROPCNT_COUNT, EJS_STAT_DROP, EJS_STAT_LATE, EJS_STAT_CLIP, EJS_STAT_NOVALVE,
    EJS_FIRECNT_COUNT, EJS_MERGECNT_COUNT, EJS_DROPCNT_COUNT, EJS_LATECNT_COUNT, EJS_CLIPCNT_COUNT,
    EJS_NOVALVE_COUNT, EJS_BLINDCNT_COUNT, EJS_NOTOWNED_COUNT, EJS_BONECNT_COUNT, EJS_QOCC_MAX, EJS_QOCC_MAXCH,
    CHN_SPLTX_COUNT, CHN_SPLDROP_COUNT]) s t) ∧
  (∀ (s : State) (q : Closed) (rest : List Closed) (rs : List ChainPort), s.mem.errs = [] → s.knots.queue = q ::
    rest → bitOf (s.get VRD_FORCEEN_EN) 0 = true → bitOf q.flags 6 = true → ∃ t, exec (.verdictIssue [] rs) s =
    .next t ∧ t.get VRD_STAT_FORCED = 1 ∧ t.get VRD_FORCECNT_COUNT = satAdd 31 (s.get VRD_FORCECNT_COUNT) 1 ∧ t.get
    (VRD_CLSCNT_COUNT (bits (s.get VRD_FORCECLS_CLS) 0 4)) = satAdd 31 (s.get (VRD_CLSCNT_COUNT (bits (s.get
    VRD_FORCECLS_CLS) 0 4))) 1 ∧ t = { s with regs := t.regs, free := t.free, power := t.power, evt := t.evt, mem :=
                                                t.mem, loops := t.loops, knots := t.knots, sched := t.sched, valves
                                                := t.valves, outs := t.outs } ∧ regsOutside [Blk.EVT, Blk.VRD,
    Blk.VLV, Blk.VBK, Blk.MEM] (driveFlds ++ [KNT_STAT_FULL, KNT_STAT_FULLSEEN, KNT_OPEN_NOW, KNT_OPEN_MAX,
    KNT_CLOSED_COUNT, KNT_DROPCNT_COUNT, EJS_STAT_DROP, EJS_STAT_LATE, EJS_STAT_CLIP, EJS_STAT_NOVALVE,
    EJS_FIRECNT_COUNT, EJS_MERGECNT_COUNT, EJS_DROPCNT_COUNT, EJS_LATECNT_COUNT, EJS_CLIPCNT_COUNT,
    EJS_NOVALVE_COUNT, EJS_BLINDCNT_COUNT, EJS_NOTOWNED_COUNT, EJS_BONECNT_COUNT, EJS_QOCC_MAX, EJS_QOCC_MAXCH,
    CHN_SPLTX_COUNT, CHN_SPLDROP_COUNT]) s t) ∧
  (∀ (s : State) (q : SpliceReq) (c : Nat) (o f : Nat), (s.get CHN_STAT_STATE = 1 ∨ s.get CHN_STAT_STATE = 2) →
    s.mem.errs = [] → s.get CHN_OFFSET_LANE0 ≤ q.last → q.first < s.get CHN_OFFSET_LANE0 + s.nLanes → s.chansOf
    (q.row && s.twoRows) (q.first - s.get CHN_OFFSET_LANE0) (min (q.last - s.get CHN_OFFSET_LANE0) (s.nLanes - 1)) =
    [c] → s.queueOf c = [] → o = edge10 (65536 * q.tL - 65536 * 100 * s.leadOf c - 65536 * 1000 * s.inForce
    EJS_MARGIN_TMARG) → f = edge10 (65536 * q.tT - 65536 * 100 * s.leadOf c + 65536 * 1000 * s.inForce
    EJS_MARGIN_TMARG) → s.time + 10000 ≤ o → o + 200000 ≤ f → f ≤ o + 20000000 → ∃ t, exec (.splice true q) s =
    .next t ∧ t.queueOf c = [{ opn := o, cls := some f, vseq := q.vseq, merged := 0, row := q.row && s.twoRows,
                                 blindF := false, late := false, clipped := false, splice := true, lead := s.leadOf
                                   c, lanes := (q.first - s.get CHN_OFFSET_LANE0, min (q.last - s.get
                                   CHN_OFFSET_LANE0) (s.nLanes - 1)), least := 0, began := false }] ∧ (∀ d : Nat, d
    ≠ c → t.queueOf d = s.queueOf d) ∧ t.get CHN_SPLRX_COUNT = satAdd 31 (s.get CHN_SPLRX_COUNT) 1 ∧ t.get
    EJS_FIRECNT_COUNT = satAdd 31 (s.get EJS_FIRECNT_COUNT) 1 ∧ t.get (VLV_STAT_QOCC c) = 1 ∧ t =
    { s with regs := t.regs, sched := { s.sched with queues := t.sched.queues } } ∧ regsBut [CHN_SPLRX_COUNT,
    EJS_FIRECNT_COUNT, VLV_STAT_QOCC c, EJS_QOCC_MAX, EJS_QOCC_MAXCH] s t) ∧
  (∀ (s : State) (q : SpliceReq), (s.get CHN_STAT_STATE = 0 ∨ s.get CHN_STAT_STATE = 3) → ∃ t, exec (.splice true q)
    s = .next t ∧ t = s)

/-- The open of a firing starts a request, a hold or a shift, or drops the firing with its cause. (spec/09_valve_drive.md R240, R245, R251, R252, R255, R264, R267, log entry 22) -/
def Obligations.FiringsOpenOrAreDroppedAtTheirOpen : Prop :=
  (∀ (s : State) (c k : Nat) (e : Entry), (s.queueOf c).find? (fun x => !x.began) = some e → (s.queueOf c).find?
    (·.began) = none → c < s.nChans → s.mem.errs = [] → (s.drive c).closeW = false → s.openCause c = some k → ∃ t,
    exec (.firingOpen c) s = .next t ∧ dropped c k s t ∧ t.queueOf c = (s.queueOf c).filter (· != e) ∧ t.chState c =
    s.chState c ∧ t.time = max s.time (floor2 e.opn) ∧ othersKeep c s t ∧ t =
    { s with regs := t.regs, evt := t.evt, mem := t.mem, time := t.time, sched := t.sched } ∧ regsButEvt
    [VLV_STAT_QOCC c, EJS_QOCC_MAX, EJS_QOCC_MAXCH, VLV_DROPCNT_COUNT c, VLV_STAT_LASTDROP c, VLV_TOKDROP_COUNT c] s
    t) ∧
  (∀ (s : State) (c : Nat) (e : Entry), (s.queueOf c).find? (fun x => !x.began) = some e → (s.queueOf c).find?
    (·.began) = none → c < s.nChans → s.mem.errs = [] → (s.drive c).closeW = false → s.openCause c = none → s.get
    (VLV_STAT_CLIMIT c) = 1 → e.blindF = false → s.get (VLV_CTRL_POLICY c) ≠ 1 → ∃ t, exec (.firingOpen c) s = .next
    t ∧ dropped c 3 s t ∧ t.queueOf c = (s.queueOf c).filter (· != e) ∧ t.chState c = s.chState c ∧ othersKeep c s t
    ∧ t = { s with regs := t.regs, evt := t.evt, mem := t.mem, time := t.time, sched := t.sched } ∧ regsButEvt
    [VLV_STAT_QOCC c, EJS_QOCC_MAX, EJS_QOCC_MAXCH, VLV_DROPCNT_COUNT c, VLV_STAT_LASTDROP c, VLV_TOKDROP_COUNT c] s
    t) ∧
  (∀ (s : State) (c : Nat) (e : Entry), (s.queueOf c).find? (fun x => !x.began) = some e → (s.queueOf c).find?
    (·.began) = none → c < s.nChans → s.mem.errs = [] → (s.drive c).closeW = false → s.openCause c = none → s.get
    (VLV_STAT_CLIMIT c) = 1 → e.blindF = true → ∃ t, exec (.firingOpen c) s = .next t ∧ (t.drive c).held = true ∧
    t.chState c = s.chState c ∧ (t.queueOf c).any (·.began) = true ∧ othersKeep c s t ∧ t =
    { s with regs := t.regs, time := t.time, sched := t.sched, valves := t.valves } ∧ regsBut [VLV_STAT_QOCC c,
    EJS_QOCC_MAX, EJS_QOCC_MAXCH] s t) ∧
  (∀ (s : State) (c : Nat) (e : Entry), (s.queueOf c).find? (fun x => !x.began) = some e → (s.queueOf c).find?
    (·.began) = none → c < s.nChans → s.mem.errs = [] → (s.drive c).closeW = false → s.openCause c = none → s.get
    (VLV_STAT_CLIMIT c) ≠ 1 → s.get (ARB_PROF_PEAK_IPEAK (s.get (VLV_CTRL_PROF c))) = 0 → ∃ t, exec (.firingOpen c)
    s = .next t ∧ t.chState c = 4 ∧ (t.queueOf c).find? (·.began) = some
    { e with began := true } ∧ (t.drive c).on = max s.time (floor2 e.opn) ∧ (t.drive c).prof = s.profVals (s.get
    (VLV_CTRL_PROF c)) ∧ t.get (VLV_FIRECNT_COUNT c) = satAdd 31 (s.get (VLV_FIRECNT_COUNT c)) 1 % 2 ^ 31 ∧ t.get
    (VLV_LASTON_LO_STAMP c) = max s.time (floor2 e.opn) % 2 ^ 32 ∧ othersFollow c s t ∧ t =
    { s with regs := t.regs, time := t.time, sched := t.sched, valves := t.valves } ∧ regsBut ([VLV_STAT_STATE c,
    VLV_STAT_QOCC c, EJS_QOCC_MAX, EJS_QOCC_MAXCH, VLV_FIRECNT_COUNT c, VLV_LASTON_LO_STAMP c, VLV_LASTON_HI_STAMP
    c] ++ followFlds c) s t) ∧
  (∀ (s : State) (c : Nat) (e : Entry), (s.queueOf c).find? (fun x => !x.began) = some e → (s.queueOf c).find?
    (·.began) = none → c < s.nChans → s.mem.errs = [] → (s.drive c).closeW = false → s.openCause c = none → s.get
    (VLV_STAT_CLIMIT c) ≠ 1 → s.get (ARB_PROF_PEAK_IPEAK (s.get (VLV_CTRL_PROF c))) ≠ 0 → s.get ARB_WAIT_US ≠ 0 → ∃
    t, exec (.firingOpen c) s = .next t ∧ t.chState c = 1 ∧ (t.queueOf c).find? (·.began) = some
    { e with began := true } ∧ (t.drive c).waitEnd = max s.time (floor2 e.opn) + 1000 * s.get ARB_WAIT_US ∧
    othersFollow c s t ∧ t = { s with regs := t.regs, time := t.time, sched := t.sched, valves := t.valves } ∧
    regsBut ([VLV_STAT_STATE c, VLV_STAT_QOCC c, EJS_QOCC_MAX, EJS_QOCC_MAXCH] ++ followFlds c) s t)

/-- The first waiting request with a free token peaks; one that reaches its deadline ungranted is dropped. (spec/09_valve_drive.md R239, R240, R245, R250, R251, R252, R253) -/
def Obligations.TokensAreGrantedInOrderAndRequestsRunOut : Prop :=
  (∀ (s : State) (c : Nat), s.waiting.find? (fun c => s.tokenFree c (s.inState 2).length (s.inState 3).length) =
    some c → (s.drive c).closeW = false → ∃ t, exec (.tokenGrant) s = .next t ∧ c < s.nChans ∧ t.chState c = (if
    s.boostReady = true then 2 else 3) ∧ (t.drive c).on = s.time ∧ (t.drive c).prof = s.profVals (s.get
    (VLV_CTRL_PROF c)) ∧ t.get (VLV_FIRECNT_COUNT c) = satAdd 31 (s.get (VLV_FIRECNT_COUNT c)) 1 % 2 ^ 31 ∧
    othersFollow c s t ∧ t = { s with regs := t.regs, valves := t.valves } ∧ regsBut ([VLV_STAT_STATE c,
    VLV_FIRECNT_COUNT c, VLV_LASTON_LO_STAMP c, VLV_LASTON_HI_STAMP c] ++ followFlds c) s t) ∧
  (∀ (s : State), s.waiting.find? (fun c => s.tokenFree c (s.inState 2).length (s.inState 3).length) = none → ∃ t,
    exec (.tokenGrant) s = .next t ∧ t = s) ∧
  (∀ (s : State) (c : Nat) (e : Entry), c < s.nChans → s.get (VLV_STAT_STATE c) = 1 → (s.queueOf c).find? (·.began)
    = some e → (s.advance (floor2 (s.deadline c))).grantable c = false → ∃ t, exec (.tokenDeadline c) s = .next t ∧
    t.chState c = 0 ∧ t.queueOf c = (s.queueOf c).filter (fun x => !x.began) ∧ dropped c (if e.fin ≤ (s.drive
    c).waitEnd then 6 else if s.boostReady = true then 1 else 2) s t ∧ t.time = max s.time (floor2 (min (s.drive
    c).waitEnd e.fin)) ∧ othersFollow c s t ∧ t = { s with regs := t.regs, evt := t.evt, mem := t.mem, time :=
                                                             t.time, sched := t.sched, valves := t.valves } ∧
    regsButEvt ([VLV_STAT_STATE c, VLV_STAT_QOCC c, EJS_QOCC_MAX, EJS_QOCC_MAXCH] ++ dropFlds c ++ followFlds c) s
    t) ∧
  (∀ (s : State) (c : Nat), c < s.nChans → s.get (VLV_STAT_STATE c) = 1 → (s.advance (floor2 (s.deadline
    c))).grantable c = true → (s.drive c).closeW = false → ∃ t, exec (.tokenDeadline c) s = .next t ∧ t.chState c =
    (if s.boostReady = true then 2 else 3) ∧ t.time = max s.time (floor2 (s.deadline c)) ∧ (t.drive c).on = t.time ∧
    (t.drive c).prof = s.profVals (s.get (VLV_CTRL_PROF c)) ∧ othersFollow c s t ∧ t =
    { s with regs := t.regs, time := t.time, valves := t.valves } ∧ regsBut ([VLV_STAT_STATE c, VLV_FIRECNT_COUNT c,
    VLV_LASTON_LO_STAMP c, VLV_LASTON_HI_STAMP c] ++ followFlds c) s t) ∧
  (∀ (s : State) (c : Nat), s.get (VLV_STAT_STATE c) ≠ 1 → c < s.nChans → ∃ t, exec (.tokenDeadline c) s = .next t ∧
    t = s)

/-- A peak ends at IPEAK or its time limit, the decay ends in hold, and open loads end a firing. (spec/09_valve_drive.md R240, R241, R242, R246, R247, R248, R266) -/
def Obligations.PeaksHoldsAndChopPeriodsEndAsTheProfileSays : Prop :=
  (∀ (s : State) (c : Nat), c < s.nChans → (s.get (VLV_STAT_STATE c) = 2 ∨ s.get (VLV_STAT_STATE c) = 3) → ∃ t, exec
    (.peakEnd c) s = .next t ∧ t.chState c = 5 ∧ (t.drive c).after = false ∧ t.get (VLV_IMEAS_IPK c) = min 255
    (s.drive c).ipeak ∧ t.get (VLV_IMEAS_TPK c) = min 10000 (rnd (s.time - (s.drive c).on) 1000) ∧ t.get
    (VLV_IMEAS_PKTO c) = 0 ∧ t.get (VLV_IMEAS_FB c) = (if s.get (VLV_STAT_STATE c) = 3 then 1 else 0) ∧ othersFollow
    c s t ∧ t = { s with regs := t.regs, valves := t.valves } ∧ regsBut ([VLV_STAT_STATE c, VLV_IMEAS_IPK c,
    VLV_IMEAS_TPK c, VLV_IMEAS_PKTO c, VLV_IMEAS_FB c] ++ followFlds c) s t) ∧
  (∀ (s : State) (c : Nat), c < s.nChans → s.get (VLV_STAT_STATE c) ≠ 2 → s.get (VLV_STAT_STATE c) ≠ 3 → ∃ t, exec
    (.peakEnd c) s = .next t ∧ t = s) ∧
  (∀ (s : State) (c i : Nat), c < s.nChans → (s.get (VLV_STAT_STATE c) = 2 ∨ s.get (VLV_STAT_STATE c) = 3) →
    (s.drive c).ipeak ≤ 4 * i → ∃ t, exec (.peakTimeout c i) s = .next t ∧ t.chState c = 5 ∧ t.get (VLV_IMEAS_IPK c)
    = min 255 i ∧ t.get (VLV_IMEAS_PKTO c) = 1 ∧ t.get (VBK_PKTOCNT_COUNT (c / 8)) = satAdd 31 (s.get
    (VBK_PKTOCNT_COUNT (c / 8))) 1 % 2 ^ 31 ∧ raisedIn (Src.bkPeakTo (c / 8)) s t ∧ t.time = max s.time (floor2
    ((s.drive c).on + 1000 * (if s.get (VLV_STAT_STATE c) = 3 then (s.drive c).fbtpmax else (s.drive c).tpmax))) ∧
    othersFollow c s t ∧ t = { s with regs := t.regs, evt := t.evt, mem := t.mem, time := t.time, valves := t.valves
                                        } ∧ regsButEvt ([VLV_STAT_STATE c, VLV_IMEAS_IPK c, VLV_IMEAS_TPK c,
    VLV_IMEAS_PKTO c, VLV_IMEAS_FB c, VBK_PKTOCNT_COUNT (c / 8)] ++ followFlds c) s t) ∧
  (∀ (s : State) (c i : Nat), c < s.nChans → (s.get (VLV_STAT_STATE c) = 2 ∨ s.get (VLV_STAT_STATE c) = 3) → 4 * i <
    (s.drive c).ipeak → ∃ t, exec (.peakTimeout c i) s = .next t ∧ t.chState c = 5 ∧ (t.drive c).after = true ∧
    (t.drive c).loads = (s.drive c).loads + 1 ∧ t.queueOf c = (s.queueOf c).filter (fun x => !x.began) ∧ t.get
    (VBK_OLCNT_COUNT (c / 8)) = satAdd 31 (s.get (VBK_OLCNT_COUNT (c / 8))) 1 % 2 ^ 31 ∧ raisedIn (Src.bkOpenLoad (c
    / 8)) s t ∧ (2 ≤ (s.drive c).loads → t.get (VLV_STAT_CHFLT c) = 1 ∧ t.get (VLV_STAT_FLTCAUSE c) = 3) ∧ ((s.drive
    c).loads < 2 → t.get (VLV_STAT_CHFLT c) = s.get (VLV_STAT_CHFLT c)) ∧ othersFollow c s t ∧ t =
    { s with time := t.time, regs := t.regs, evt := t.evt, mem := t.mem, mbx := t.mbx, cal := t.cal, sched :=
               t.sched, valves := t.valves, baind := t.baind, ssp := t.ssp, fb := t.fb, outs := t.outs } ∧
    regsOutside [Blk.EVT, Blk.VLV, Blk.VBK, Blk.MBX] (driveFlds ++ boxFlds ++ [MEM_TESTABORTS_COUNT,
    CAL_STATUS_PHASE, CAL_STATUS_COMPUTE, CAL_STATUS_BACKOFF, CAL_FAILS_COUNT, CAL_LASTRESULT_CODE,
    CAL_LASTRESULT_TRIG, CAL_LASTRESULT_ORPHAN, CAL_LASTRESULT_TRIMDROP, EJS_QOCC_MAX, EJS_QOCC_MAXCH,
    ARB_LYSTAT_FLT, ARB_LYSTAT_FLTCAUSE]) s t) ∧
  (∀ (s : State) (c : Nat), c < s.nChans → s.get (VLV_STAT_STATE c) = 5 → (s.drive c).after = false → ∃ t, exec
    (.holdEntry c) s = .next t ∧ t.chState c = 4 ∧ othersFollow c s t ∧ t =
    { s with regs := t.regs, valves := t.valves } ∧ regsBut (VLV_STAT_STATE c :: followFlds c) s t) ∧
  (∀ (s : State), s.get ARB_LYSTAT_STATE = 5 → (s.drive 128).after = false → ∃ t, exec (.holdEntry 128) s = .next t
    ∧ t.get ARB_LYSTAT_STATE = 4 ∧ othersKeep 128 s t ∧ t =
    { s with regs := t.regs, valves := t.valves } ∧ regsBut [ARB_LYSTAT_STATE] s t) ∧
  (∀ (s : State), (s.get ARB_LYSTAT_STATE = 2 ∨ s.get ARB_LYSTAT_STATE = 3) → ∃ t, exec (.peakEnd 128) s = .next t ∧
    t.get ARB_LYSTAT_STATE = 5 ∧ (t.drive 128).after = false ∧ othersKeep 128 s t ∧ t =
    { s with regs := t.regs, valves := t.valves } ∧ regsBut [ARB_LYSTAT_STATE] s t) ∧
  (∀ (s : State) (c : Nat), c < s.nChans → (s.get (VLV_STAT_STATE c) ≠ 5 ∨ (s.drive c).after = true) → ∃ t, exec
    (.holdEntry c) s = .next t ∧ t = s) ∧
  (∀ (s : State) (b : Nat) (i : List Nat), b ≤ 16 → ((s.chansOn b).all fun c => s.chState c != 4 || !(s.drive
    c).whole || decide ((s.drive c).ihold ≤ 4 * i.getD (c % 8) 0)) = true → ∃ t, exec (.chopPeriod b i) s = .next t
    ∧ t.supplyOf b = (if s.rail b = 1 then s.lead (s.leader b) else Supply.off) ∧ (∀ c : Nat, c < 129 → t.drive c =
    (if c ∈ s.chansOn b then { s.drive c with chop := s.chopWant b c, whole := (s.drive c).whole || s.chState c == 4
                                                } else s.drive c)) ∧ (∀ a : Nat, a ≤ 16 → a ≠ b → t.supplyOf a =
    s.supplyOf a) ∧ t = { s with valves := { s.valves with drives := t.valves.drives, supply := t.valves.supply } })

/-- A close ends its firing, hands over to an entry that opens in its tick, or drops a waiting request. (spec/09_valve_drive.md R240, R243, R244, R252, R256, R266) -/
def Obligations.FiringsCloseChainAndDecay : Prop :=
  (∀ (s : State) (c n : Nat) (e : Entry), c < s.nChans → (s.queueOf c).find? (·.began) = some e → e.cls = some n →
    s.get (VLV_STAT_STATE c) = 1 → e.fin ≤ (s.drive c).waitEnd → (s.advance (floor2 n)).grantable c = false → ∃ t,
    exec (.firingClose c) s = .next t ∧ t.chState c = 0 ∧ t.queueOf c = (s.queueOf c).filter (fun x => !x.began) ∧
    dropped c 6 s t ∧ t.time = max s.time (floor2 n) ∧ othersFollow c s t ∧ t =
    { s with regs := t.regs, evt := t.evt, mem := t.mem, time := t.time, sched := t.sched, valves := t.valves } ∧
    regsButEvt ([VLV_STAT_STATE c, VLV_STAT_QOCC c, EJS_QOCC_MAX, EJS_QOCC_MAXCH] ++ dropFlds c ++ followFlds c) s
    t) ∧
  (∀ (s : State) (c n : Nat) (e f : Entry), c < s.nChans → (s.queueOf c).find? (·.began) = some e → e.cls = some n →
    (s.queueOf c).find? (fun x => !x.began) = some f → f.opn = n → 2 ≤ s.get (VLV_STAT_STATE c) → s.get
    (VLV_STAT_STATE c) ≤ 4 → s.openCause c = none → s.get (VLV_STAT_CLIMIT c) = 0 → ∃ t, exec (.firingClose c) s =
    .next t ∧ t.chState c = s.chState c ∧ (t.queueOf c).find? (·.began) = some
    { f with began := true } ∧ t.get (VLV_FIRECNT_COUNT c) = satAdd 31 (s.get (VLV_FIRECNT_COUNT c)) 1 % 2 ^ 31 ∧
    (t.drive c).on = (s.drive c).on ∧ othersKeep c s t ∧ t =
    { s with regs := t.regs, time := t.time, sched := t.sched, valves := t.valves } ∧ regsBut [VLV_FIRECNT_COUNT c,
    VLV_STAT_QOCC c, EJS_QOCC_MAX, EJS_QOCC_MAXCH] s t) ∧
  (∀ (s : State) (c n : Nat) (e : Entry), c < s.nChans → (s.queueOf c).find? (·.began) = some e → e.cls = some n →
    (s.queueOf c).find? (fun x => !x.began) = none → 2 ≤ s.get (VLV_STAT_STATE c) → ¬(s.get (VLV_STAT_STATE c) = 5 ∧
    (s.drive c).after = true) → s.get (VLV_MOVE_SRC c) = 0 → ∃ t, exec (.firingClose c) s = .next t ∧ t.chState c =
    5 ∧ (t.drive c).after = true ∧ (t.drive c).off = max s.time (floor2 n) ∧ (t.drive c).loads = 0 ∧ (t.drive
    c).openW = (s.drive c).openW ∧ (t.queueOf c).any (·.began) = false ∧ othersFollow c s t ∧ t =
    { s with regs := t.regs, time := t.time, sched := t.sched, valves := t.valves } ∧ regsBut ([VLV_STAT_STATE c,
    VLV_STAT_QOCC c, EJS_QOCC_MAX, EJS_QOCC_MAXCH] ++ followFlds c) s t) ∧
  (∀ (s : State) (c : Nat), ((s.queueOf c).find? (·.began)).any (fun e => e.cls.isSome) = false → ∃ t, exec
    (.firingClose c) s = .next t ∧ t = s) ∧
  (∀ (s : State) (c : Nat), c < s.nChans → s.get (VLV_STAT_STATE c) = 5 → (s.drive c).after = true → ∃ t, exec
    (.currentZero c) s = .next t ∧ t.chState c = 0 ∧ othersFollow c s t ∧ t =
    { s with regs := t.regs, valves := t.valves } ∧ regsBut (VLV_STAT_STATE c :: followFlds c) s t) ∧
  (∀ (s : State), s.get ARB_LYSTAT_STATE = 5 → (s.drive 128).after = true → ∃ t, exec (.currentZero 128) s = .next t
    ∧ t.get ARB_LYSTAT_STATE = 0 ∧ othersKeep 128 s t ∧ t =
    { s with regs := t.regs, valves := t.valves } ∧ regsBut [ARB_LYSTAT_STATE] s t) ∧
  (∀ (s : State) (c : Nat), c < s.nChans → (s.get (VLV_STAT_STATE c) ≠ 5 ∨ (s.drive c).after = false) → ∃ t, exec
    (.currentZero c) s = .next t ∧ t = s)

/-- Kinks and position edges inside their windows enter the movement times; a window that ends raises not-moved. (spec/09_valve_drive.md R256, R257, R258, R259, R260, R261) -/
def Obligations.MovementIsMeasuredOrReportedMissing : Prop :=
  (∀ (s : State) (c x y : Nat), c < s.nChans → s.get (VLV_MOVE_SRC c) = 2 → (s.drive c).openW = true → 200 *
    (s.drive c).ow.1 ≤ x → x ≤ 200 * (s.drive c).ow.2 → s.get (VBK_KINK_ITHR (c / 8)) ≤ y → ∃ t, exec (.openingKink
    c x y) s = .next t ∧ timeTaken (VLV_TOPEN_LAST c) (VLV_TOPEN_MEAN c) (VLV_MOVCNT_OPNCNT c) x s t ∧ t.drive c =
    { s.drive c with openW := false } ∧ t.time = max s.time (floor2 ((s.drive c).on + 100 * x)) ∧ othersKeep c s t ∧
    t = { s with regs := t.regs, time := t.time, valves := t.valves } ∧ regsBut [VLV_TOPEN_LAST c, VLV_TOPEN_MEAN c,
    VLV_MOVCNT_OPNCNT c] s t) ∧
  (∀ (s : State) (c x y : Nat), (s.nChans ≤ c ∨ s.get (VLV_MOVE_SRC c) ≠ 2 ∨ (s.drive c).openW = false ∨ x < 200 *
    (s.drive c).ow.1 ∨ 200 * (s.drive c).ow.2 < x ∨ y < s.get (VBK_KINK_ITHR (c / 8))) → ∃ t, exec (.openingKink c x
    y) s = .next t ∧ t = s) ∧
  (∀ (s : State) (c x y : Nat), c < s.nChans → s.get (VLV_MOVE_SRC c) = 2 → (s.drive c).closeW = true → 200 *
    (s.drive c).cw.1 ≤ x → x ≤ 200 * (s.drive c).cw.2 → s.get (VBK_KINK_VTHR (c / 8)) ≤ y → s.get (VBK_TRCTL_ARM (c
    / 8)) = 0 → ∃ t, exec (.closingKink c x y) s = .next t ∧ timeTaken (VLV_TCLOSE_LAST c) (VLV_TCLOSE_MEAN c)
    (VLV_MOVCNT_CLSCNT c) x s t ∧ t.drive c = { s.drive c with closeW := false } ∧ (∀ d : Nat, d ≠ c → t.drive d =
    s.drive d) ∧ t = { s with regs := t.regs, time := t.time, valves := t.valves } ∧ regsBut [VLV_TCLOSE_LAST c,
    VLV_TCLOSE_MEAN c, VLV_MOVCNT_CLSCNT c] s t) ∧
  (∀ (s : State) (c x y : Nat), (s.nChans ≤ c ∨ s.get (VLV_MOVE_SRC c) ≠ 2 ∨ (s.drive c).closeW = false ∨ x < 200 *
    (s.drive c).cw.1 ∨ 200 * (s.drive c).cw.2 < x ∨ y < s.get (VBK_KINK_VTHR (c / 8))) → ∃ t, exec (.closingKink c x
    y) s = .next t ∧ t = s) ∧
  (∀ (s : State) (i c : Nat) (l : Bool), (List.range s.nChans).filter (fun c => s.moveSrc c == 1 && s.get
    (VLV_MOVE_POS c) == i) = [c] → (s.drive c).openW = true → inWindow ((s.time - (s.drive c).on) / 100) (s.drive
    c).ow = true → l = (s.get (VLV_MOVE_POL c) != 1) → ∃ t, exec (.positionEdge i l) s = .next t ∧ timeTaken
    (VLV_TOPEN_LAST c) (VLV_TOPEN_MEAN c) (VLV_MOVCNT_OPNCNT c) ((s.time - (s.drive c).on) / 100) s t ∧ t.drive c =
    { s.drive c with openW := false } ∧ othersKeep c s t ∧ t =
    { s with regs := t.regs, valves := t.valves } ∧ regsBut [VLV_TOPEN_LAST c, VLV_TOPEN_MEAN c, VLV_MOVCNT_OPNCNT
    c] s t) ∧
  (∀ (s : State) (i c : Nat) (l : Bool), (List.range s.nChans).filter (fun c => s.moveSrc c == 1 && s.get
    (VLV_MOVE_POS c) == i) = [c] → (s.drive c).closeW = true → inWindow ((s.time - (s.drive c).off) / 100) (s.drive
    c).cw = true → l = (s.get (VLV_MOVE_POL c) == 1) → ∃ t, exec (.positionEdge i l) s = .next t ∧ timeTaken
    (VLV_TCLOSE_LAST c) (VLV_TCLOSE_MEAN c) (VLV_MOVCNT_CLSCNT c) ((s.time - (s.drive c).off) / 100) s t ∧ t.drive c
    = { s.drive c with closeW := false } ∧ othersKeep c s t ∧ t =
    { s with regs := t.regs, valves := t.valves } ∧ regsBut [VLV_TCLOSE_LAST c, VLV_TCLOSE_MEAN c, VLV_MOVCNT_CLSCNT
    c] s t) ∧
  (∀ (s : State) (i : Nat) (l : Bool), (List.range s.nChans).filter (fun c => s.moveSrc c == 1 && s.get
    (VLV_MOVE_POS c) == i) = [] → ∃ t, exec (.positionEdge i l) s = .next t ∧ t = s) ∧
  (∀ (s : State) (c : Nat), c < s.nChans → (s.drive c).openW = true → s.get (VLV_MOVE_OPENREQ c) = 1 → ∃ t, exec
    (.openingWindowEnd c) s = .next t ∧ t.drive c =
    { s.drive c with openW := false } ∧ t.get (VLV_NMCNT_NOTMOVED c) = satAdd 15 (s.get (VLV_NMCNT_NOTMOVED c)) 1 %
    2 ^ 15 ∧ raisedIn (Src.notMoved c) s t ∧ t.time = max s.time (floor2 ((s.drive c).on + 20000 * (s.drive
    c).ow.2)) ∧ othersKeep c s t ∧ t = { s with regs := t.regs, evt := t.evt, mem := t.mem, time := t.time, valves
                                                  := t.valves } ∧ regsButEvt [VLV_NMCNT_NOTMOVED c] s t) ∧
  (∀ (s : State) (c : Nat), c < s.nChans → (s.drive c).openW = true → s.get (VLV_MOVE_OPENREQ c) ≠ 1 → ∃ t, exec
    (.openingWindowEnd c) s = .next t ∧ t.drive c =
    { s.drive c with openW := false } ∧ othersKeep c s t ∧ t =
    { s with time := t.time, valves := t.valves }) ∧
  (∀ (s : State) (c : Nat), (s.nChans ≤ c ∨ (s.drive c).openW = false) → ∃ t, exec (.openingWindowEnd c) s = .next t
    ∧ t = s) ∧
  (∀ (s : State) (c : Nat), c < s.nChans → (s.drive c).closeW = true → s.get (VBK_TRCTL_ARM (c / 8)) = 0 → ∃ t, exec
    (.closingWindowEnd c) s = .next t ∧ t.drive c =
    { s.drive c with closeW := false } ∧ t.get (VLV_NMCNT_NOTMOVED c) = satAdd 15 (s.get (VLV_NMCNT_NOTMOVED c)) 1 %
    2 ^ 15 ∧ raisedIn (Src.notMoved c) s t ∧ (∀ d : Nat, d ≠ c → t.drive d = s.drive d) ∧ t =
    { s with regs := t.regs, evt := t.evt, mem := t.mem, time := t.time, valves := t.valves } ∧ regsButEvt
    [VLV_NMCNT_NOTMOVED c] s t) ∧
  (∀ (s : State) (c : Nat), (s.nChans ≤ c ∨ (s.drive c).closeW = false) → ∃ t, exec (.closingWindowEnd c) s = .next
    t ∧ t = s)

/-- A fault latches its channel or bank and ends the firings concerned; CLRFLT, enables and ENERGISE act as their rules say. (spec/09_valve_drive.md R239, R240, R266, R267, R269, R270, spec/00_scope.md R4) -/
def Obligations.DriveFaultsLatchAndWritesClearThem : Prop :=
  (∀ (s : State) (c : Nat), c < s.nChans → 2 ≤ s.get (VLV_STAT_STATE c) → s.get (VLV_STAT_STATE c) ≤ 4 → ∃ t, exec
    (.overcurrent c) s = .next t ∧ t.get (VLV_STAT_CHFLT c) = 1 ∧ t.get (VLV_STAT_FLTCAUSE c) = 1 ∧ t.chState c = 5
    ∧ (t.drive c).after = true ∧ t.queueOf c = (s.queueOf c).filter (fun x => !x.began) ∧ t.get (VLV_FLTCNT_COUNT c)
    = satAdd 31 (s.get (VLV_FLTCNT_COUNT c)) 1 % 2 ^ 31 ∧ raisedIn (Src.bkChFault (c / 8)) s t ∧ othersFollow c s t
    ∧ t = { s with regs := t.regs, evt := t.evt, mem := t.mem, mbx := t.mbx, cal := t.cal, sched := t.sched, valves
                     := t.valves, baind := t.baind, ssp := t.ssp, fb := t.fb, outs := t.outs } ∧ regsOutside
    [Blk.EVT, Blk.VLV, Blk.VBK, Blk.MBX] (driveFlds ++ boxFlds ++ [MEM_TESTABORTS_COUNT, CAL_STATUS_PHASE,
    CAL_STATUS_COMPUTE, CAL_STATUS_BACKOFF, CAL_FAILS_COUNT, CAL_LASTRESULT_CODE, CAL_LASTRESULT_TRIG,
    CAL_LASTRESULT_ORPHAN, CAL_LASTRESULT_TRIMDROP, EJS_QOCC_MAX, EJS_QOCC_MAXCH, ARB_LYSTAT_FLT,
    ARB_LYSTAT_FLTCAUSE]) s t) ∧
  (∀ (s : State) (c : Nat), (s.chState c < 2 ∨ 4 < s.chState c) → (s.drive c).slow = false → ∃ t, exec (.overcurrent
    c) s = .next t ∧ t = s) ∧
  (∀ (s : State), 2 ≤ s.get ARB_LYSTAT_STATE → s.get ARB_LYSTAT_STATE ≤ 4 → s.calPhase = 0 → ∃ t, exec (.overcurrent
    128) s = .next t ∧ t.get ARB_LYSTAT_FLT = 1 ∧ t.get ARB_LYSTAT_FLTCAUSE = 1 ∧ t.get ARB_LYSTAT_STATE = 5 ∧ t.get
    ARB_LYCTRL_ENERGISE = 0 ∧ raisedIn Src.lanyardFault s t ∧ othersKeep 128 s t ∧ t =
    { s with regs := t.regs, evt := t.evt, mem := t.mem, mbx := t.mbx, cal := t.cal, sched := t.sched, valves :=
               t.valves, baind := t.baind, ssp := t.ssp, fb := t.fb, outs := t.outs } ∧ regsOutside [Blk.EVT,
    Blk.VLV, Blk.VBK, Blk.MBX] (driveFlds ++ boxFlds ++ [MEM_TESTABORTS_COUNT, CAL_STATUS_PHASE, CAL_STATUS_COMPUTE,
    CAL_STATUS_BACKOFF, CAL_FAILS_COUNT, CAL_LASTRESULT_CODE, CAL_LASTRESULT_TRIG, CAL_LASTRESULT_ORPHAN,
    CAL_LASTRESULT_TRIMDROP, EJS_QOCC_MAX, EJS_QOCC_MAXCH, ARB_LYSTAT_FLT, ARB_LYSTAT_FLTCAUSE]) s t) ∧
  (∀ (s : State) (c : Nat), c < s.nChans → 2 ≤ s.get (VLV_STAT_STATE c) → s.get (VLV_STAT_STATE c) ≤ 4 → ∃ t, exec
    (.drainShort c) s = .next t ∧ t.get (VLV_STAT_CHFLT c) = 1 ∧ t.get (VLV_STAT_FLTCAUSE c) = 2 ∧ t.chState c = 5 ∧
    (t.drive c).after = true ∧ t.queueOf c = (s.queueOf c).filter (fun x => !x.began) ∧ t.get (VLV_FLTCNT_COUNT c) =
    satAdd 31 (s.get (VLV_FLTCNT_COUNT c)) 1 % 2 ^ 31 ∧ raisedIn (Src.bkChFault (c / 8)) s t ∧ othersFollow c s t ∧
    t = { s with regs := t.regs, evt := t.evt, mem := t.mem, mbx := t.mbx, cal := t.cal, sched := t.sched, valves :=
                   t.valves, baind := t.baind, ssp := t.ssp, fb := t.fb, outs := t.outs } ∧ regsOutside [Blk.EVT,
    Blk.VLV, Blk.VBK, Blk.MBX] (driveFlds ++ boxFlds ++ [MEM_TESTABORTS_COUNT, CAL_STATUS_PHASE, CAL_STATUS_COMPUTE,
    CAL_STATUS_BACKOFF, CAL_FAILS_COUNT, CAL_LASTRESULT_CODE, CAL_LASTRESULT_TRIG, CAL_LASTRESULT_ORPHAN,
    CAL_LASTRESULT_TRIMDROP, EJS_QOCC_MAX, EJS_QOCC_MAXCH, ARB_LYSTAT_FLT, ARB_LYSTAT_FLTCAUSE]) s t) ∧
  (∀ (s : State) (c : Nat), (s.chState c < 2 ∨ 4 < s.chState c) → (s.drive c).slow = false → ∃ t, exec (.drainShort
    c) s = .next t ∧ t = s) ∧
  (∀ (s : State), 2 ≤ s.get ARB_LYSTAT_STATE → s.get ARB_LYSTAT_STATE ≤ 4 → s.calPhase = 0 → ∃ t, exec (.drainShort
    128) s = .next t ∧ t.get ARB_LYSTAT_FLT = 1 ∧ t.get ARB_LYSTAT_FLTCAUSE = 2 ∧ t.get ARB_LYSTAT_STATE = 5 ∧ t.get
    ARB_LYCTRL_ENERGISE = 0 ∧ raisedIn Src.lanyardFault s t ∧ othersKeep 128 s t ∧ t =
    { s with regs := t.regs, evt := t.evt, mem := t.mem, mbx := t.mbx, cal := t.cal, sched := t.sched, valves :=
               t.valves, baind := t.baind, ssp := t.ssp, fb := t.fb, outs := t.outs } ∧ regsOutside [Blk.EVT,
    Blk.VLV, Blk.VBK, Blk.MBX] (driveFlds ++ boxFlds ++ [MEM_TESTABORTS_COUNT, CAL_STATUS_PHASE, CAL_STATUS_COMPUTE,
    CAL_STATUS_BACKOFF, CAL_FAILS_COUNT, CAL_LASTRESULT_CODE, CAL_LASTRESULT_TRIG, CAL_LASTRESULT_ORPHAN,
    CAL_LASTRESULT_TRIMDROP, EJS_QOCC_MAX, EJS_QOCC_MAXCH, ARB_LYSTAT_FLT, ARB_LYSTAT_FLTCAUSE]) s t) ∧
  (∀ (s : State) (b : Nat), b < s.nBanks → s.rail b ≠ 0 → ∃ t, exec (.railNodeShort b) s = .next t ∧ t.get
    (VBK_STAT_BKFLT b) = 1 ∧ t.get (VBK_RSCNT_COUNT b) = satAdd 31 (s.get (VBK_RSCNT_COUNT b)) 1 % 2 ^ 31 ∧ raisedIn
    (Src.bkRailShort b) s t ∧ (∀ c : Nat, c < 128 → c / 8 = b → (t.queueOf c).any (·.began) = false) ∧ t =
    { s with regs := t.regs, evt := t.evt, mem := t.mem, mbx := t.mbx, cal := t.cal, sched := t.sched, valves :=
               t.valves, baind := t.baind, ssp := t.ssp, fb := t.fb, outs := t.outs } ∧ regsOutside [Blk.EVT,
    Blk.VLV, Blk.VBK, Blk.MBX] (driveFlds ++ boxFlds ++ [MEM_TESTABORTS_COUNT, CAL_STATUS_PHASE, CAL_STATUS_COMPUTE,
    CAL_STATUS_BACKOFF, CAL_FAILS_COUNT, CAL_LASTRESULT_CODE, CAL_LASTRESULT_TRIG, CAL_LASTRESULT_ORPHAN,
    CAL_LASTRESULT_TRIMDROP, EJS_QOCC_MAX, EJS_QOCC_MAXCH, ARB_LYSTAT_FLT]) s t) ∧
  (∀ (s : State) (b : Nat), s.rail b = 0 → ∃ t, exec (.railNodeShort b) s = .next t ∧ t = s) ∧
  (∀ (s : State) (b : Nat), b = 16 → s.rail b ≠ 0 → s.calPhase = 0 → ∃ t, exec (.railNodeShort b) s = .next t ∧
    t.get ARB_LYSTAT_FLT = 1 ∧ t.get ARB_LYCTRL_ENERGISE = 0 ∧ raisedIn Src.lanyardFault s t ∧ t =
    { s with regs := t.regs, evt := t.evt, mem := t.mem, mbx := t.mbx, cal := t.cal, sched := t.sched, valves :=
               t.valves, baind := t.baind, ssp := t.ssp, fb := t.fb, outs := t.outs } ∧ regsOutside [Blk.EVT,
    Blk.VLV, Blk.VBK, Blk.MBX] (driveFlds ++ boxFlds ++ [MEM_TESTABORTS_COUNT, CAL_STATUS_PHASE, CAL_STATUS_COMPUTE,
    CAL_STATUS_BACKOFF, CAL_FAILS_COUNT, CAL_LASTRESULT_CODE, CAL_LASTRESULT_TRIG, CAL_LASTRESULT_ORPHAN,
    CAL_LASTRESULT_TRIMDROP, EJS_QOCC_MAX, EJS_QOCC_MAXCH, ARB_LYSTAT_FLT]) s t) ∧
  (∀ (s : State) (b : Nat), b < s.nBanks → s.rail b = 0 → ((s.chansOn b).all fun c => s.chState c != 5) = true → ∃
    t, exec (.railStuckHigh b) s = .next t ∧ t.get (VBK_STAT_BKFLT b) = 1 ∧ t.get (VBK_RSCNT_COUNT b) = satAdd 31
    (s.get (VBK_RSCNT_COUNT b)) 1 % 2 ^ 31 ∧ raisedIn (Src.bkRailShort b) s t ∧ (∀ c : Nat, c < 128 → c / 8 = b →
    (t.queueOf c).any (·.began) = false) ∧ t = { s with regs := t.regs, evt := t.evt, mem := t.mem, mbx := t.mbx,
                                                        cal := t.cal, sched := t.sched, valves := t.valves, baind :=
                                                          t.baind, ssp := t.ssp, fb := t.fb, outs := t.outs } ∧
    regsOutside [Blk.EVT, Blk.VLV, Blk.VBK, Blk.MBX] (driveFlds ++ boxFlds ++ [MEM_TESTABORTS_COUNT,
    CAL_STATUS_PHASE, CAL_STATUS_COMPUTE, CAL_STATUS_BACKOFF, CAL_FAILS_COUNT, CAL_LASTRESULT_CODE,
    CAL_LASTRESULT_TRIG, CAL_LASTRESULT_ORPHAN, CAL_LASTRESULT_TRIMDROP, EJS_QOCC_MAX, EJS_QOCC_MAXCH,
    ARB_LYSTAT_FLT]) s t) ∧
  (∀ (s : State) (b : Nat), s.rail b ≠ 0 → ∃ t, exec (.railStuckHigh b) s = .next t ∧ t = s) ∧
  (∀ (s : State) (b : Nat), b = 16 → s.rail b = 0 → ((s.chansOn b).all fun c => s.chState c != 5) = true →
    s.calPhase = 0 → ∃ t, exec (.railStuckHigh b) s = .next t ∧ t.get ARB_LYSTAT_FLT = 1 ∧ t.get ARB_LYCTRL_ENERGISE
    = 0 ∧ raisedIn Src.lanyardFault s t ∧ t = { s with regs := t.regs, evt := t.evt, mem := t.mem, mbx := t.mbx, cal
                                                         := t.cal, sched := t.sched, valves := t.valves, baind :=
                                                         t.baind, ssp := t.ssp, fb := t.fb, outs := t.outs } ∧
    regsOutside [Blk.EVT, Blk.VLV, Blk.VBK, Blk.MBX] (driveFlds ++ boxFlds ++ [MEM_TESTABORTS_COUNT,
    CAL_STATUS_PHASE, CAL_STATUS_COMPUTE, CAL_STATUS_BACKOFF, CAL_FAILS_COUNT, CAL_LASTRESULT_CODE,
    CAL_LASTRESULT_TRIG, CAL_LASTRESULT_ORPHAN, CAL_LASTRESULT_TRIMDROP, EJS_QOCC_MAX, EJS_QOCC_MAXCH,
    ARB_LYSTAT_FLT]) s t) ∧
  (∀ (s : State) (v : Nat), ∃ t, exec (.boostMeasure v) s = .next t ∧ t.get ARB_BSTMEAS_VBST = min 1023 v ∧ (t.get
    ARB_BSTMEAS_READY = 1 ↔ s.get ARB_BOOST_READY * s.get ARB_BOOST_SET ≤ 100 * v) ∧ (t.get ARB_BSTMEAS_OV = 1 ↔
    s.get ARB_BOOST_SET + 70 ≤ v ∨ (s.get ARB_BSTMEAS_OV = 1 ∧ s.get ARB_BOOST_SET + 20 ≤ v)) ∧ (s.get
    ARB_BSTMEAS_OV ≠ 1 → s.get ARB_BOOST_SET + 70 ≤ v → t.get ARB_BSTMEAS_OVSEEN = 1 ∧ raisedIn Src.boostOv s t) ∧ t
    = { s with regs := t.regs, evt := t.evt, mem := t.mem } ∧ regsButEvt [ARB_BSTMEAS_VBST, ARB_BSTMEAS_READY,
    ARB_BSTMEAS_OV, ARB_BSTMEAS_OVSEEN, ARB_STAT_TOKENS, ARB_STAT_FBUSED, ARB_STAT_NEFF, ARB_STAT_DIPCUT,
    ARB_TOKMAX_MAX] s t) ∧
  (∀ (s : State) (r : Requester) (c : Nat), c < s.nChans → s.protected r (0x8000 + 0x40 * c) = false → ∃ t, exec
    (.vlvClrflt r c) s = .next t ∧ t.get (VLV_STAT_CHFLT c) = 0 ∧ t.get (VLV_STAT_FLTCAUSE c) = 0 ∧ t =
    { s with regs := t.regs } ∧ regsBut [VLV_STAT_CHFLT c, VLV_STAT_FLTCAUSE c] s t) ∧
  (∀ (s : State) (r : Requester) (c : Nat), c < s.nBanks → s.protected r (0xA000 + 0x80 * c) = false → ∃ t, exec
    (.vbkClrflt r c) s = .next t ∧ t.get (VBK_STAT_BKFLT c) = 0 ∧ t =
    { s with regs := t.regs } ∧ regsBut [VBK_STAT_BKFLT c] s t) ∧
  (∀ (s : State) (r : Requester) (c : Nat), s.nChans ≤ c → ∃ t, exec (.vlvClrflt r c) s = .next t ∧ t = s) ∧
  (∀ (s : State) (r : Requester) (c : Nat) (v : Word) (e : Entry), c < s.nChans → s.protected r (0x8000 + 0x40 * c)
    = false → (s.queueOf c).find? (·.began) = some e → bits v.toNat 0 1 = 0 → bits v.toNat 5 1 = 0 → 2 ≤ s.get
    (VLV_STAT_STATE c) → s.get (VLV_STAT_STATE c) ≤ 4 → ∃ t, exec (.driveEnableWrite r (0x8000 + 0x40 * c) v) s =
    .next t ∧ t.get (VLV_CTRL_EN c) = 0 ∧ t.get (VLV_CTRL_PROF c) = bits v.toNat 1 3 ∧ t.get (VLV_CTRL_POLICY c) =
    bits v.toNat 4 1 ∧ t.chState c = 5 ∧ t.queueOf c = (s.queueOf c).filter (fun x => !x.began) ∧ dropped c 8 s t ∧
    othersFollow c s t ∧ t = { s with regs := t.regs, evt := t.evt, mem := t.mem, sched := t.sched, valves :=
                                        t.valves } ∧ regsOutside [Blk.GLB, Blk.EVT, Blk.PWR, Blk.THM, Blk.HKA,
    Blk.STG, Blk.TIL, Blk.COR, Blk.CAL, Blk.BRD, Blk.KNT, Blk.VRD, Blk.EJS, Blk.VLV, Blk.VBK, Blk.ARB, Blk.MEM,
    Blk.SSP, Blk.ETH, Blk.CHN, Blk.LOOP, Blk.TMX, Blk.MBX] [] s t) ∧
  (∀ (s : State) (r : Requester) (c : Nat) (v : Word), c < s.nChans → s.protected r (0x8000 + 0x40 * c) = false →
    bits v.toNat 0 1 = 1 → bits v.toNat 5 1 = 0 → ∃ t, exec (.driveEnableWrite r (0x8000 + 0x40 * c) v) s = .next t
    ∧ t.get (VLV_CTRL_EN c) = 1 ∧ t.get (VLV_CTRL_PROF c) = bits v.toNat 1 3 ∧ t.get (VLV_CTRL_POLICY c) = bits
    v.toNat 4 1 ∧ t = { s with regs := t.regs } ∧ regsBut [VLV_CTRL_EN c, VLV_CTRL_PROF c, VLV_CTRL_POLICY c] s t) ∧
  (∀ (s : State) (r : Requester) (l : Bool), s.protected r 0xAA00 = false → s.mode = 3 → ∃ t, exec (.lyEnergise r l)
    s = .next t ∧ t.get ARB_STAT_WRERR = 1 ∧ t = { s with regs := t.regs } ∧ regsBut [ARB_STAT_WRERR] s t) ∧
  (∀ (s : State) (r : Requester), s.protected r 0xAA00 = false → s.mode ≠ 3 → s.get ARB_LYSTAT_FLT ≠ 1 → (s.get
    ARB_LYSTAT_STATE = 0 ∨ s.get ARB_LYSTAT_STATE = 5) → (s.drive 128).closeW = false → ∃ t, exec (.lyEnergise r
    true) s = .next t ∧ t.get ARB_LYCTRL_ENERGISE = 1 ∧ t.get ARB_LYSTAT_OPEN = 0 ∧ t.get ARB_LYSTAT_STATE = (if
    s.get (ARB_PROF_PEAK_IPEAK (s.get ARB_LYCFG_PROF)) = 0 then 4 else if s.get ARB_BSTMEAS_READY = 1 ∧ s.get
    ARB_BSTMEAS_OV ≠ 1 then 2 else 3) ∧ (t.drive 128).on = s.time ∧ (t.drive 128).prof = s.profVals (s.get
    ARB_LYCFG_PROF) ∧ othersKeep 128 s t ∧ t = { s with regs := t.regs, valves := t.valves } ∧ regsBut
    [ARB_LYCTRL_ENERGISE, ARB_LYSTAT_OPEN, ARB_LYSTAT_STATE] s t) ∧
  (∀ (s : State) (r : Requester), s.protected r 0xAA00 = false → s.mode ≠ 3 → 2 ≤ s.get ARB_LYSTAT_STATE → s.get
    ARB_LYSTAT_STATE ≤ 4 → ∃ t, exec (.lyEnergise r false) s = .next t ∧ t.get ARB_LYCTRL_ENERGISE = 0 ∧ t.get
    ARB_LYSTAT_CLOSED = 0 ∧ t.get ARB_LYSTAT_STATE = 5 ∧ (t.drive 128).off = s.time ∧ (t.drive 128).after = true ∧
    othersKeep 128 s t ∧ t = { s with regs := t.regs, valves := t.valves } ∧ regsBut [ARB_LYCTRL_ENERGISE,
    ARB_LYSTAT_CLOSED, ARB_LYSTAT_STATE] s t) ∧
  (∀ (s : State) (r : Requester), s.protected r 0xAA00 = false → ∃ t, exec (.lyClrflt r) s = .next t ∧ t.get
    ARB_LYSTAT_FLT = 0 ∧ t.get ARB_LYSTAT_FLTCAUSE = 0 ∧ t =
    { s with regs := t.regs } ∧ regsBut [ARB_LYSTAT_FLT, ARB_LYSTAT_FLTCAUSE] s t)

/-- The 100 µs update moves every coil temperature by its model and sets TEMP, PEAK, warning and limit. (spec/09_valve_drive.md R262, R263, R265, R269, spec/05_calibration.md R128, log entry 31, log entry 84) -/
def Obligations.CoilTemperaturesFollowTheirModel : Prop :=
  (∀ (s : State) (i : List Nat), ∃ t, exec (.coilThermalUpdate i) s = .next t ∧ (∀ c : Nat, c < s.nChans → (t.drive
    c).theta = coilNext s.ambient (s.drive c).theta (i.getD c 0) (s.coilParams c).1 (s.coilParams c).2.1
    (s.coilParams c).2.2 ∧ t.get (VLV_COIL_TEMP c) = thetaCode (t.drive c).theta ∧ t.get (VLV_COIL_PEAK c) = max
    (thetaCode (t.drive c).theta) (s.get (VLV_COIL_PEAK c)) % 2 ^ 12 ∧ (t.get (VLV_STAT_CWARN c) = 1 ↔ coilLevel
    (s.get (VLV_STAT_CWARN c) == 1) (thetaCode (t.drive c).theta) (s.get ARB_COILLIM_WARN) (s.get ARB_COILLIM_HYS) =
    true) ∧ (t.get (VLV_STAT_CLIMIT c) = 1 ↔ coilLevel (s.get (VLV_STAT_CLIMIT c) == 1) (thetaCode (t.drive
    c).theta) (s.get ARB_COILLIM_LIMIT) (s.get ARB_COILLIM_HYS) = true) ∧ (s.get (VLV_STAT_CLIMIT c) ≠ 1 → t.get
    (VLV_STAT_CLIMIT c) = 1 → raisedIn (Src.coilLimit c) s t)) ∧ (t.drive 128).theta = coilNext s.ambient (s.drive
    128).theta (i.getD s.nChans 0) (s.coilParams 128).1 (s.coilParams 128).2.1 (s.coilParams 128).2.2 ∧ t.get
    ARB_LYSTAT_TEMP = thetaCode (t.drive 128).theta ∧ t =
    { s with regs := t.regs, evt := t.evt, mem := t.mem, mbx := t.mbx, cal := t.cal, sched := t.sched, valves :=
               t.valves, baind := t.baind, ssp := t.ssp, fb := t.fb, outs := t.outs } ∧ regsOutside [Blk.EVT,
    Blk.VLV, Blk.VBK, Blk.MBX] (driveFlds ++ boxFlds ++ [MEM_TESTABORTS_COUNT, CAL_STATUS_PHASE, CAL_STATUS_COMPUTE,
    CAL_STATUS_BACKOFF, CAL_FAILS_COUNT, CAL_LASTRESULT_CODE, CAL_LASTRESULT_TRIG, CAL_LASTRESULT_ORPHAN,
    CAL_LASTRESULT_TRIMDROP, EJS_STAT_DROP, EJS_STAT_CLIP, EJS_FIRECNT_COUNT, EJS_MERGECNT_COUNT, EJS_DROPCNT_COUNT,
    EJS_CLIPCNT_COUNT, EJS_QOCC_MAX, EJS_QOCC_MAXCH, ARB_LYSTAT_CLIMIT, ARB_LYSTAT_TEMP]) s t)

/-- Dips, VVAL thresholds and the 1 ms budget show their flags, events and grants; BUDPRIO takes each consumer once. (spec/10_power_thermal.md R274, R275, R277, R278, R279, R280, R281, spec/09_valve_drive.md R255, spec/13_processors_events.md R339, log entry 2) -/
def Obligations.SupplyMonitorsAndBudgetSetTheirFlagsAndGrants : Prop :=
  (∀ (s : State) (v : Nat), s.get PWR_STAT_DIP ≠ 1 → ∃ t, exec (.dipSet v) s = .next t ∧ t.get PWR_STAT_DIP = 1 ∧
    t.get PWR_STAT_DIPSEEN = 1 ∧ t.get PWR_DIPCNT_COUNT = satAdd 31 (s.get PWR_DIPCNT_COUNT) 1 % 2 ^ 31 ∧ t.get
    PWR_DIPLAST_LO_STAMP = s.time % 2 ^ 32 ∧ t.get PWR_DIPMIN_V = min (s.get PWR_DIPMIN_V) (min 255 ((v - 8000) /
    50)) ∧ raisedIn Src.vinDip s t ∧ t = { s with regs := t.regs, evt := t.evt, mem := t.mem, mbx := t.mbx, corr :=
                                                    t.corr, cal := t.cal, braid := t.braid, valves := t.valves,
                                                  chain := t.chain, baind := t.baind, ssp := t.ssp, fb := t.fb, outs
                                                    := t.outs } ∧ regsOutside [Blk.EVT, Blk.VLV, Blk.VBK, Blk.MBX]
    (driveFlds ++ boxFlds ++ blendFlds ++ grantFlds ++ [MEM_TESTABORTS_COUNT, PWR_STAT_DIP, PWR_STAT_DIPSEEN,
    PWR_DIPCNT_COUNT, PWR_DIPLAST_LO_STAMP, PWR_DIPLAST_HI_STAMP, PWR_DIPMIN_V, CAL_STATUS_PHASE,
    CAL_STATUS_COMPUTE, CAL_STATUS_PENDING, CAL_ABORTS_COUNT, CAL_LASTRESULT_CODE, CAL_LASTRESULT_TRIG,
    CAL_LASTRESULT_ORPHAN, CAL_LASTRESULT_TRIMDROP]) s t) ∧
  (∀ (s : State) (v : Nat), s.get PWR_STAT_DIP = 1 → ∃ t, exec (.dipSet v) s = .next t ∧ t.get PWR_DIPMIN_V = min
    (s.get PWR_DIPMIN_V) (min 255 ((v - 8000) / 50)) ∧ t =
    { s with regs := t.regs } ∧ regsBut [PWR_DIPMIN_V] s t) ∧
  (∀ (s : State), s.get PWR_STAT_DIP = 1 → ∃ t, exec (.dipClear) s = .next t ∧ t.get PWR_STAT_DIP = 0 ∧ t =
    { s with regs := t.regs, corr := t.corr, cal := t.cal, braid := t.braid, chain := t.chain, baind := t.baind,
             outs := t.outs } ∧ regsOutside [] (grantFlds ++ [PWR_STAT_DIP, CAL_STATUS_PHASE, CAL_STATUS_COMPUTE,
    CAL_STATUS_PENDING, ARB_STAT_TOKENS, ARB_STAT_FBUSED, ARB_STAT_NEFF, ARB_STAT_DIPCUT, ARB_TOKMAX_MAX]) s t) ∧
  (∀ (s : State), s.get PWR_STAT_DIP ≠ 1 → ∃ t, exec (.dipClear) s = .next t ∧ t = s) ∧
  (∀ (s : State) (x : VvalCond) (b : Bool), ∃ t, exec (.vvalThreshold x b) s = .next t ∧ t.get (vvalFld x) = (if b =
    true then 1 else 0) ∧ (b = true → s.get (vvalFld x) ≠ 1 → raisedIn (vvalSrc x) s t) ∧ t.get ARB_STAT_VVALLOW =
    (if x = .low then (if b = true then 1 else 0) else s.get ARB_STAT_VVALLOW) ∧ t =
    { s with regs := t.regs, evt := t.evt, mem := t.mem } ∧ regsButEvt [vvalFld x, ARB_STAT_VVALLOW] s t) ∧
  (∀ (s : State) (x y : Nat), s.get ARB_VINLIM_MA < y → ∃ t, exec (.budgetEval x y) s = .next t ∧ t.get
    PWR_STAT_OVERBUD = 1 ∧ t.get PWR_STAT_OVBSEEN = 1 ∧ (s.get PWR_STAT_OVERBUD ≠ 1 → raisedIn Src.vinOverbudget s
    t) ∧ t.get PWR_IVIN_MA = min 4095 y ∧ t.get PWR_CLKDIV_BUDDIV = 2 ∧ t.get ARB_GRANT_TAP = 0 ∧ t.get
    ARB_GRANT_HEATER = min 1023 (s.get PWR_BUDFLOOR_HEATER) ∧ t.house.heaterMa = 2 * s.get PWR_BUDFLOOR_HEATER ∧
    t.house.under = (if 100 * y ≤ 95 * s.get ARB_VINLIM_MA then s.house.under + 1 else 0) ∧ t =
    { s with regs := t.regs, free := t.free, evt := t.evt, mem := t.mem, house := t.house } ∧ regsOutside [Blk.EVT]
    [MEM_TESTABORTS_COUNT, PWR_STAT_OVERBUD, PWR_STAT_OVBSEEN, PWR_IVIN_MA, PWR_IVIN_MAX, PWR_CLKDIV_DIV,
    PWR_CLKDIV_BUDDIV, PWR_CLKDIV_THMDIV, PWR_CLKDIV_TAPSKIP, PWR_CLKDIV_MGTSKIP, THM_STAT_STEP, STG_HTRPWR_POWER,
    STG_HTRPWR_LIMIT, ARB_GRANT_CLUSTER, ARB_GRANT_TAP, ARB_GRANT_HEATER, ETH_TAPSTAT_HALT] s t) ∧
  (∀ (s : State) (x y : Nat), y ≤ s.get ARB_VINLIM_MA → s.get PWR_STAT_OVERBUD ≠ 1 → s.get PWR_VIN_VIN ≠ 0 → ∃ t,
    exec (.budgetEval x y) s = .next t ∧ t.get PWR_IVIN_MA = min 4095 y ∧ t.get PWR_IVIN_MAX = max (min 4095 y)
    (s.get PWR_IVIN_MAX) % 2 ^ 12 ∧ t.house.heaterMa ≤ (roundDiv 1500000 (s.get PWR_VIN_VIN)).toNat ∧ t.get
    ARB_GRANT_HEATER = min 1023 (t.house.heaterMa / 2) ∧ 2 * t.get ARB_GRANT_CLUSTER + 2 * t.get ARB_GRANT_TAP + 2 *
    t.get ARB_GRANT_HEATER ≤ s.get ARB_VINLIM_MA - s.get ARB_PIXRES_MA - x ∧ (s.tapOn = false → t.get ARB_GRANT_TAP
    = 0) ∧ t.get ARB_GRANT_CLUSTER ≤ s.clusterMa s.thermStep / 2 ∧ t.free = s.free ∧ t =
    { s with regs := t.regs, free := t.free, evt := t.evt, mem := t.mem, house := t.house } ∧ regsOutside [Blk.EVT]
    [MEM_TESTABORTS_COUNT, PWR_STAT_OVERBUD, PWR_STAT_OVBSEEN, PWR_IVIN_MA, PWR_IVIN_MAX, PWR_CLKDIV_DIV,
    PWR_CLKDIV_BUDDIV, PWR_CLKDIV_THMDIV, PWR_CLKDIV_TAPSKIP, PWR_CLKDIV_MGTSKIP, THM_STAT_STEP, STG_HTRPWR_POWER,
    STG_HTRPWR_LIMIT, ARB_GRANT_CLUSTER, ARB_GRANT_TAP, ARB_GRANT_HEATER, ETH_TAPSTAT_HALT] s t) ∧
  (∀ (s : State), s.get PWR_STAT_OVERBUD = 1 → 10 ≤ s.house.under → ∃ t, exec (.overbudgetRelease) s = .next t ∧
    t.get PWR_STAT_OVERBUD = 0 ∧ t = { s with regs := t.regs } ∧ regsBut [PWR_STAT_OVERBUD] s t) ∧
  (∀ (s : State), (s.get PWR_STAT_OVERBUD ≠ 1 ∨ s.house.under < 10) → ∃ t, exec (.overbudgetRelease) s = .next t ∧ t
    = s) ∧
  (∀ (s : State) (r : Requester) (v : Word), s.protected r 0x1020 = false → bits v.toNat 0 2 < 3 → bits v.toNat 2 2
    < 3 → bits v.toNat 4 2 < 3 → bits v.toNat 0 2 ≠ bits v.toNat 2 2 → bits v.toNat 2 2 ≠ bits v.toNat 4 2 → bits
    v.toNat 0 2 ≠ bits v.toNat 4 2 → ∃ t, exec (.pwrBudprioWrite r v) s = .next t ∧ t.get PWR_BUDPRIO_FIRST = bits
    v.toNat 0 2 ∧ t.get PWR_BUDPRIO_SECOND = bits v.toNat 2 2 ∧ t.get PWR_BUDPRIO_THIRD = bits v.toNat 4 2 ∧ t =
    { s with regs := t.regs } ∧ regsBut [PWR_BUDPRIO_FIRST, PWR_BUDPRIO_SECOND, PWR_BUDPRIO_THIRD] s t) ∧
  (∀ (s : State) (r : Requester) (v : Word), s.protected r 0x1020 = false → (bits v.toNat 0 2 = 3 ∨ bits v.toNat 2 2
    = 3 ∨ bits v.toNat 4 2 = 3 ∨ bits v.toNat 0 2 = bits v.toNat 2 2 ∨ bits v.toNat 2 2 = bits v.toNat 4 2 ∨ bits
    v.toNat 0 2 = bits v.toNat 4 2) → ∃ t, exec (.pwrBudprioWrite r v) s = .next t ∧ t.get PWR_STAT_WRERR = 1 ∧ t =
    { s with regs := t.regs } ∧ regsBut [PWR_STAT_WRERR] s t)

/-- Samples enter the thermal registers, dies enter and leave levels, throttling steps up, sensors are excluded. (spec/10_power_thermal.md R282, R284, R285, R287, R289, R291) -/
def Obligations.ThermalLevelsStepsAndSensorsFollowTheSamples : Prop :=
  (∀ (s : State) (l p : List Nat), ∃ t, exec (.thermalSample l p) s = .next t ∧ (∀ i : Nat, i < 8 → t.get
    (THM_TL_TEMP i) = (if h : i < l.length then l[i] % 2 ^ 10 else s.get (THM_TL_TEMP i)) ∧ t.get (THM_TL_VALID i) =
    (if i < l.length ∧ s.get (THM_TL_EXCL i) ≠ 1 then 1 else 0) ∧ t.get (THM_TL_EXCL i) = s.get (THM_TL_EXCL i)) ∧
    (∀ i : Nat, i < 6 → t.get (THM_TP_TEMP i) = (if h : i < p.length then p[i] % 2 ^ 10 else s.get (THM_TP_TEMP i))
    ∧ t.get (THM_TP_VALID i) = (if i < p.length ∧ s.get (THM_TP_EXCL i) ≠ 1 then 1 else 0) ∧ t.get (THM_TP_EXCL i) =
    s.get (THM_TP_EXCL i)) ∧ t.house.sampled = true ∧ t.get THM_LMAX_MAX = t.dieMax 0 false ∧ t.get THM_PMAX_MAX =
    t.dieMax 1 false ∧ t = { s with regs := t.regs, evt := t.evt, mem := t.mem, mbx := t.mbx, sensor := t.sensor,
                                    corr := t.corr, cal := t.cal, gref := t.gref, loops := t.loops, sched :=
                                      t.sched, valves := t.valves, chain := t.chain, baind := t.baind, ssp := t.ssp,
                                    house := t.house, fb := t.fb, outs := t.outs } ∧ regsOutside [Blk.EVT, Blk.THM,
    Blk.VLV, Blk.VBK, Blk.MBX] (calAbortFlds ++ [GLB_STAT_STATE, GLB_CTRL_RUN, GLB_STAT_FAULT, PWR_CLKDIV_DIV,
    PWR_CLKDIV_THMDIV, PWR_CLKDIV_TAPSKIP, PWR_CLKDIV_MGTSKIP, STG_HTRPWR_POWER, STG_HTRPWR_LIMIT, EJS_QOCC_MAX,
    EJS_QOCC_MAXCH, ARB_CTRL_EN, MEM_DDRSTAT_SELFREF, ETH_TAPSTAT_HALT]) s t) ∧
  (∀ (s : State) (d : Die) (l : Level), bitOf s.house.entered (3 * dieNum d + levelNum l) = false → 8 ≤ mget 0
    s.house.ups (3 * dieNum d + levelNum l) → l ≠ .shutdown → ∃ t, exec (.thermalLevelEnter d l) s = .next t ∧
    t.house.entered = s.house.entered ||| 2 ^ (3 * dieNum d + levelNum l) ∧ (¬(l = .throttle ∧ s.inThrottle (dieNum
    d) = true) → raisedIn (Src.thm (dieNum d == 1) (levelNum l)) s t) ∧ t.mode = s.mode ∧ t.get THM_STAT_LSTATE =
    t.dieState 0 ∧ t.get THM_STAT_PSTATE = t.dieState 1 ∧ (l = .throttle → t.dieStep (dieNum d) ≠ 0) ∧ t.get
    THM_STAT_STEP = t.thermStep % 4 ∧ t = { s with regs := t.regs, evt := t.evt, mem := t.mem, mbx := t.mbx, sensor
                                                     := t.sensor, corr := t.corr, cal := t.cal, gref := t.gref,
                                                   loops := t.loops, sched := t.sched, valves := t.valves, chain :=
                                                     t.chain, baind := t.baind, ssp := t.ssp, house := t.house, fb
                                                     := t.fb, outs := t.outs } ∧ regsOutside [Blk.EVT, Blk.VLV,
    Blk.VBK, Blk.MBX] (calAbortFlds ++ [GLB_STAT_STATE, GLB_CTRL_RUN, GLB_STAT_FAULT, PWR_CLKDIV_DIV,
    PWR_CLKDIV_THMDIV, PWR_CLKDIV_TAPSKIP, PWR_CLKDIV_MGTSKIP, THM_STAT_LSTATE, THM_STAT_PSTATE, THM_STAT_STEP,
    THM_STAT_LFORCED, THM_STAT_PFORCED, THM_STAT_SDSEEN, THM_STAT_LVALID, THM_STAT_PVALID, THM_SDCNT_COUNT,
    STG_HTRPWR_POWER, STG_HTRPWR_LIMIT, EJS_QOCC_MAX, EJS_QOCC_MAXCH, ARB_CTRL_EN, MEM_DDRSTAT_SELFREF,
    ETH_TAPSTAT_HALT]) s t) ∧
  (∀ (s : State) (d : Die), bitOf s.house.entered (3 * dieNum d + 2) = false → 8 ≤ mget 0 s.house.ups (3 * dieNum d
    + 2) → s.blindDie (dieNum d) = false → (s.mode = 1 ∨ s.mode = 2 ∨ s.mode = 3) → ∃ t, exec (.thermalLevelEnter d
    .shutdown) s = .next t ∧ t.mode = 5 ∧ t.house.shutdown = true ∧ valvesClosed t ∧ raisedIn (Src.thm (dieNum d ==
    1) 2) s t ∧ t.get THM_SDCNT_COUNT = satAdd 16 (s.get THM_SDCNT_COUNT) 1 % 2 ^ 16 ∧ t.get THM_STAT_SDSEEN = 1 ∧ t
    = { s with regs := t.regs, evt := t.evt, mem := t.mem, mbx := t.mbx, sensor := t.sensor, corr := t.corr, cal :=
                 t.cal, gref := t.gref, loops := t.loops, sched := t.sched, valves := t.valves, chain := t.chain,
               baind := t.baind, ssp := t.ssp, house := t.house, fb := t.fb, outs := t.outs } ∧ regsOutside
    [Blk.EVT, Blk.VLV, Blk.VBK, Blk.MBX] (calAbortFlds ++ [GLB_STAT_STATE, GLB_CTRL_RUN, GLB_STAT_FAULT,
    PWR_CLKDIV_DIV, PWR_CLKDIV_THMDIV, PWR_CLKDIV_TAPSKIP, PWR_CLKDIV_MGTSKIP, THM_STAT_LSTATE, THM_STAT_PSTATE,
    THM_STAT_STEP, THM_STAT_LFORCED, THM_STAT_PFORCED, THM_STAT_SDSEEN, THM_STAT_LVALID, THM_STAT_PVALID,
    THM_SDCNT_COUNT, STG_HTRPWR_POWER, STG_HTRPWR_LIMIT, EJS_QOCC_MAX, EJS_QOCC_MAXCH, ARB_CTRL_EN,
    MEM_DDRSTAT_SELFREF, ETH_TAPSTAT_HALT]) s t) ∧
  (∀ (s : State) (d : Die) (l : Level), (bitOf s.house.entered (3 * dieNum d + levelNum l) = true ∨ mget 0
    s.house.ups (3 * dieNum d + levelNum l) < 8) → ∃ t, exec (.thermalLevelEnter d l) s = .next t ∧ t = s) ∧
  (∀ (s : State) (d : Die) (l : Level), bitOf s.house.entered (3 * dieNum d + levelNum l) = true → 8 ≤ mget 0
    s.house.downs (3 * dieNum d + levelNum l) → ∃ t, exec (.thermalLevelLeave d l) s = .next t ∧ t.hasLevel (dieNum
    d) (levelNum l) = false ∧ t.get THM_STAT_LSTATE = t.dieState 0 ∧ t.get THM_STAT_PSTATE = t.dieState 1 ∧
    (t.inThrottle (dieNum d) = false → t.dieStep (dieNum d) = 0) ∧ t =
    { s with regs := t.regs, evt := t.evt, mem := t.mem, house := t.house } ∧ regsOutside [Blk.EVT]
    [MEM_TESTABORTS_COUNT, PWR_CLKDIV_DIV, PWR_CLKDIV_THMDIV, PWR_CLKDIV_TAPSKIP, PWR_CLKDIV_MGTSKIP,
    THM_STAT_LSTATE, THM_STAT_PSTATE, THM_STAT_STEP, THM_STAT_LFORCED, THM_STAT_PFORCED, THM_STAT_LVALID,
    THM_STAT_PVALID, STG_HTRPWR_POWER, STG_HTRPWR_LIMIT, ETH_TAPSTAT_HALT] s t) ∧
  (∀ (s : State) (d : Die) (l : Level), (bitOf s.house.entered (3 * dieNum d + levelNum l) = false ∨ mget 0
    s.house.downs (3 * dieNum d + levelNum l) < 8) → ∃ t, exec (.thermalLevelLeave d l) s = .next t ∧ t = s) ∧
  (∀ (s : State) (d : Die), s.dieStep (dieNum d) = 1 → ∃ t, exec (.throttleStep2 d) s = .next t ∧ t.dieStep (dieNum
    d) = 2 ∧ t.get THM_STAT_STEP = t.thermStep % 4 ∧ t.time = max s.time (floor2 (mget 0 s.house.since (dieNum d) +
    s.get THM_CTRL_TSTEP * 10000000)) ∧ t = { s with time := t.time, regs := t.regs, evt := t.evt, mem := t.mem,
                                                     house := t.house } ∧ regsOutside [Blk.EVT]
    [MEM_TESTABORTS_COUNT, PWR_CLKDIV_DIV, PWR_CLKDIV_THMDIV, PWR_CLKDIV_TAPSKIP, PWR_CLKDIV_MGTSKIP, THM_STAT_STEP,
    STG_HTRPWR_POWER, STG_HTRPWR_LIMIT, ETH_TAPSTAT_HALT] s t) ∧
  (∀ (s : State) (d : Die), s.dieStep (dieNum d) ≠ 1 → ∃ t, exec (.throttleStep2 d) s = .next t ∧ t = s) ∧
  (∀ (s : State) (d : Die) (i : Nat), i < dieCount (dieNum d) → s.get (validFld (dieNum d) i) = 1 → 16 ≤ mget 0
    s.house.suspect (8 * dieNum d + i) → ∃ t, exec (.thermalSensorExclude d i) s = .next t ∧ t.get (exclFld (dieNum
    d) i) = 1 ∧ t.get (validFld (dieNum d) i) = 0 ∧ t.get (suspFld (dieNum d) i) = 0 ∧ t.get THM_STAT_EXCLSEEN = 1 ∧
    raisedIn Src.thmSensor s t ∧ t = { s with regs := t.regs, evt := t.evt, mem := t.mem, mbx := t.mbx, sensor :=
                                                t.sensor, corr := t.corr, cal := t.cal, gref := t.gref, loops :=
                                                t.loops, sched := t.sched, valves := t.valves, chain := t.chain,
                                              baind := t.baind, ssp := t.ssp, house := t.house, fb := t.fb, outs :=
                                                t.outs } ∧ regsOutside [Blk.EVT, Blk.THM, Blk.VLV, Blk.VBK, Blk.MBX]
    (calAbortFlds ++ [GLB_STAT_STATE, GLB_CTRL_RUN, GLB_STAT_FAULT, PWR_CLKDIV_DIV, PWR_CLKDIV_THMDIV,
    PWR_CLKDIV_TAPSKIP, PWR_CLKDIV_MGTSKIP, STG_HTRPWR_POWER, STG_HTRPWR_LIMIT, EJS_QOCC_MAX, EJS_QOCC_MAXCH,
    ARB_CTRL_EN, MEM_DDRSTAT_SELFREF, ETH_TAPSTAT_HALT]) s t) ∧
  (∀ (s : State) (d : Die) (i : Nat), (dieCount (dieNum d) ≤ i ∨ s.get (validFld (dieNum d) i) ≠ 1 ∨ mget 0
    s.house.suspect (8 * dieNum d + i) < 16) → ∃ t, exec (.thermalSensorExclude d i) s = .next t ∧ t = s) ∧
  (∀ (s : State) (d : Die) (i : Nat), i < dieCount (dieNum d) → s.get (exclFld (dieNum d) i) = 1 → 8000 ≤ mget 0
    s.house.agree (8 * dieNum d + i) → ∃ t, exec (.thermalSensorReadmit d i) s = .next t ∧ t.get (exclFld (dieNum d)
    i) = 0 ∧ t.get (validFld (dieNum d) i) = 1 ∧ t =
    { s with regs := t.regs, evt := t.evt, mem := t.mem, mbx := t.mbx, sensor := t.sensor, corr := t.corr, cal :=
               t.cal, gref := t.gref, loops := t.loops, sched := t.sched, valves := t.valves, chain := t.chain,
             baind := t.baind, ssp := t.ssp, house := t.house, fb := t.fb, outs := t.outs } ∧ regsOutside [Blk.EVT,
    Blk.THM, Blk.VLV, Blk.VBK, Blk.MBX] (calAbortFlds ++ [GLB_STAT_STATE, GLB_CTRL_RUN, GLB_STAT_FAULT,
    PWR_CLKDIV_DIV, PWR_CLKDIV_THMDIV, PWR_CLKDIV_TAPSKIP, PWR_CLKDIV_MGTSKIP, STG_HTRPWR_POWER, STG_HTRPWR_LIMIT,
    EJS_QOCC_MAX, EJS_QOCC_MAXCH, ARB_CTRL_EN, MEM_DDRSTAT_SELFREF, ETH_TAPSTAT_HALT]) s t) ∧
  (∀ (s : State) (d : Die) (i : Nat), (dieCount (dieNum d) ≤ i ∨ s.get (exclFld (dieNum d) i) ≠ 1 ∨ mget 0
    s.house.agree (8 * dieNum d + i) < 8000) → ∃ t, exec (.thermalSensorReadmit d i) s = .next t ∧ t = s) ∧
  (∀ (s : State) (n : Nat), ∃ t, exec (.dramTempRead n) s = .next t ∧ t.get THM_DRAM_RATE = n % 8 ∧ t.get
    THM_DRAM_VALID = 1 ∧ t = { s with regs := t.regs } ∧ regsBut [THM_DRAM_RATE, THM_DRAM_VALID] s t)

/-- A conversion gives its channel a counted result, valid or invalid; self-calibration runs and ends; a stale RTD is invalid. (spec/10_power_thermal.md R295, R296, R297, R298, log entry 8, log entry 2, log entry 88) -/
def Obligations.HousekeepingResultsEnterTheirRegisters : Prop :=
  (∀ (s : State) (l : List Int), s.get HKA_CTRL_EN = 1 → s.get HKA_STAT_SCALBUSY ≠ 1 → s.hkaInvalid s.hkaEntry =
    true → ∃ t, exec (.hkaConversion l) s = .next t ∧ t.get (HKA_RES_COUNT s.hkaEntry.ch) = (s.get (HKA_RES_COUNT
    s.hkaEntry.ch) + 1) % 2 ^ 12 ∧ t.get (HKA_RES_LASTINV s.hkaEntry.ch) = 1 ∧ t.get HKA_STAT_INVSEEN = 1 ∧ t.get
    (HKA_RES_VALUE s.hkaEntry.ch) = s.get (HKA_RES_VALUE s.hkaEntry.ch) ∧ t =
    { s with regs := t.regs, house := t.house } ∧ regsBut [HKA_RES_COUNT s.hkaEntry.ch, HKA_RES_LASTINV
    s.hkaEntry.ch, HKA_STAT_INVSEEN, HKA_STAT_POS] s t) ∧
  (∀ (s : State) (l : List Int), s.get HKA_CTRL_EN = 1 → s.get HKA_STAT_SCALBUSY ≠ 1 → s.hkaInvalid s.hkaEntry =
    false → 2 ≤ s.hkaEntry.ch → s.hkaEntry.ch ≤ 22 → ∃ t, exec (.hkaConversion l) s = .next t ∧ t.get (HKA_RES_COUNT
    s.hkaEntry.ch) = (s.get (HKA_RES_COUNT s.hkaEntry.ch) + 1) % 2 ^ 12 ∧ t.get (HKA_RES_LASTINV s.hkaEntry.ch) = 0
    ∧ t.get (HKA_RES_VALID s.hkaEntry.ch) = 1 ∧ t.get (HKA_RES_VALUE s.hkaEntry.ch) = s.hkaValue l ∧ t =
    { s with regs := t.regs, house := t.house } ∧ regsBut [HKA_RES_COUNT s.hkaEntry.ch, HKA_RES_LASTINV
    s.hkaEntry.ch, HKA_RES_VALUE s.hkaEntry.ch, HKA_RES_VALID s.hkaEntry.ch, HKA_STAT_POS] s t) ∧
  (∀ (s : State) (l : List Int), (s.get HKA_CTRL_EN ≠ 1 ∨ s.get HKA_STAT_SCALBUSY = 1) → ∃ t, exec (.hkaConversion
    l) s = .next t ∧ t = s) ∧
  (∀ (s : State) (l : List Int), s.get HKA_CTRL_EN = 1 → s.get HKA_STAT_SCALBUSY ≠ 1 → s.hkaEntry.rep ≤ s.house.reps
    → ∃ t, exec (.hkaConversion l) s = .next t ∧ t.get HKA_STAT_POS = (if s.house.last.getD (s.get HKA_CTRL_LAST) ≤
    s.get HKA_STAT_POS then 0 else (s.get HKA_STAT_POS + 1) % 2 ^ 6) ∧ t.house.reps = 0 ∧ t.house.prev = some
    (s.hkaEntry.ch, s.hkaEntry.gain) ∧ t.house.entry = some (s.hkaSeq (t.get HKA_STAT_POS)) ∧ t.house.last = some
    (if s.house.last.getD (s.get HKA_CTRL_LAST) ≤ s.get HKA_STAT_POS then s.get HKA_CTRL_LAST else s.house.last.getD
    (s.get HKA_CTRL_LAST)) ∧ t = { s with regs := t.regs, free := t.free, evt := t.evt, mem := t.mem, gref :=
                                            t.gref, loops := t.loops, house := t.house } ∧ regsOutside [Blk.EVT,
    Blk.HKA] [MEM_TESTABORTS_COUNT, PWR_VIN_VIN, PWR_VIN_VVAL, PWR_DIPMIN_V, LOOP_STAT_BKOVER, LOOP_BKU_U] s t) ∧
  (∀ (s : State) (l : List Int), s.get HKA_CTRL_EN = 1 → s.get HKA_STAT_SCALBUSY ≠ 1 → s.house.reps < s.hkaEntry.rep
    → ∃ t, exec (.hkaConversion l) s = .next t ∧ t.get HKA_STAT_POS = s.get HKA_STAT_POS ∧ t.house.reps =
    s.house.reps + 1 ∧ t.house.entry = some s.hkaEntry ∧ t =
    { s with regs := t.regs, free := t.free, evt := t.evt, mem := t.mem, gref := t.gref, loops := t.loops, house :=
               t.house } ∧ regsOutside [Blk.EVT, Blk.HKA] [MEM_TESTABORTS_COUNT, PWR_VIN_VIN, PWR_VIN_VVAL,
    PWR_DIPMIN_V, LOOP_STAT_BKOVER, LOOP_BKU_U] s t) ∧
  (∀ (s : State) (l : List Int), s.get HKA_CTRL_EN = 1 → s.get HKA_STAT_SCALBUSY ≠ 1 → s.hkaInvalid s.hkaEntry =
    false → s.hkaEntry.ch = 23 → s.get HKA_RTD_EN = 1 → ∃ t, exec (.hkaConversion l) s = .next t ∧ t.get
    (HKA_RES_VALUE 23) = s.hkaValue l ∧ t.get HKA_RTDTEMP_TEMP = rtdCode (Config.hkaReading [23, s.hkaValue l,
    s.hkaEntry.gain, s.get HKA_RTD_TYPE, s.get HKA_RTD_FOURW]) (if s.get HKA_RTD_TYPE = 1 then 1000 else 100) % 2 ^
    20 ∧ t.get HKA_RTDTEMP_VALID + t.get HKA_RTDTEMP_RANGE = 1 ∧ (t.get HKA_RTDTEMP_RANGE = 1 ↔ t.get
    HKA_RTDTEMP_TEMP < 50000 ∨ 350000 < t.get HKA_RTDTEMP_TEMP) ∧ t =
    { s with regs := t.regs, free := t.free, evt := t.evt, mem := t.mem, gref := t.gref, loops := t.loops, house :=
               t.house } ∧ regsOutside [Blk.EVT, Blk.HKA] [MEM_TESTABORTS_COUNT, PWR_VIN_VIN, PWR_VIN_VVAL,
    PWR_DIPMIN_V, LOOP_STAT_BKOVER, LOOP_BKU_U] s t) ∧
  (∀ (s : State), ∃ t, exec (.rtdStale) s = .next t ∧ t.get HKA_RTDTEMP_VALID = 0 ∧ t =
    { s with regs := t.regs } ∧ regsBut [HKA_RTDTEMP_VALID] s t) ∧
  (∀ (s : State) (r : Requester), s.protected r 0x1800 = false → ∃ t, exec (.hkaScalStart r) s = .next t ∧ t.get
    HKA_STAT_SCALBUSY = 1 ∧ t = { s with regs := t.regs } ∧ regsBut [HKA_STAT_SCALBUSY] s t) ∧
  (∀ (s : State) (g o : Nat), s.get HKA_STAT_SCALBUSY = 1 → ∃ t, exec (.hkaScalDone g o) s = .next t ∧ t.get
    HKA_CALGAIN_GAIN = g % 2 ^ 16 ∧ t.get HKA_CALOFS_OFS = o % 2 ^ 12 ∧ t.get HKA_STAT_SCALBUSY = 0 ∧ t.get
    HKA_STAT_SCALDONE = 1 ∧ t.house = { s.house with entry := some s.hkaEntry, reps := 0, prev := none, last := some
                                                       (s.house.last.getD (s.get HKA_CTRL_LAST)) } ∧ t.opRuns 0x0305
    = (s.baind.ops.any fun o => o.opcode == 0x0305 && o.status == 1 && o.wait) ∧ t =
    { s with regs := t.regs, evt := t.evt, mem := t.mem, mbx := t.mbx, baind := t.baind, ssp := t.ssp, house :=
               t.house, fb := t.fb, outs := t.outs } ∧ regsOutside [Blk.EVT, Blk.MBX] (boxFlds ++
    [MEM_TESTABORTS_COUNT, HKA_STAT_SCALBUSY, HKA_STAT_SCALDONE, HKA_CALGAIN_GAIN, HKA_CALOFS_OFS]) s t) ∧
  (∀ (s : State) (g o : Nat), s.get HKA_STAT_SCALBUSY ≠ 1 → ∃ t, exec (.hkaScalDone g o) s = .next t ∧ t = s)

/-- A preheat window and a backdrop second move duty and integrator by the controller, or keep them when invalid. (spec/11_process_loops.md R301, R302, R303, R305, R306, R307, R309, R311, log entry 89) -/
def Obligations.LoopWindowsMoveTheirControllers : Prop :=
  (∀ (s : State), s.get LOOP_CTRL_PHEN = 1 → s.get LOOP_CTRL_PHMAN ≠ 1 → (s.mode = 1 ∨ s.mode = 2 ∨ s.mode = 3) →
    s.get LOOP_PHWIN_MINN ≤ phCount s → ∃ t, exec (.preheatWindowEnd) s = .next t ∧ windowClosed s t ∧ t.get
    LOOP_PHU_U = (piStep ((s.get LOOP_PHSP_SP : Int) - phMedian s) 128 (s.get LOOP_PHGAIN_KP) (s.get LOOP_PHGAIN_KI)
    (s.get LOOP_PHLIM_UMIN) (s.get LOOP_PHLIM_UMAX) (s.get LOOP_PHU_I)).1 % 2 ^ 10 ∧ t.get LOOP_PHU_I = (piStep
    ((s.get LOOP_PHSP_SP : Int) - phMedian s) 128 (s.get LOOP_PHGAIN_KP) (s.get LOOP_PHGAIN_KI) (s.get
    LOOP_PHLIM_UMIN) (s.get LOOP_PHLIM_UMAX) (s.get LOOP_PHU_I)).2.1 % 2 ^ 10 ∧ (t.get LOOP_STAT_PHSAT = 1 ↔ (piStep
    ((s.get LOOP_PHSP_SP : Int) - phMedian s) 128 (s.get LOOP_PHGAIN_KP) (s.get LOOP_PHGAIN_KI) (s.get
    LOOP_PHLIM_UMIN) (s.get LOOP_PHLIM_UMAX) (s.get LOOP_PHU_I)).2.2 = true) ∧ t.get LOOP_STAT_PHVALID = 1 ∧ t.get
    LOOP_STAT_PHSTALE = 0 ∧ t.get LOOP_STAT_PHINV = 0 ∧ t =
    { s with regs := t.regs, time := t.time, loops := t.loops } ∧ regsBut [LOOP_PHPV_PV, LOOP_PHPV_N, LOOP_PHU_U,
    LOOP_PHU_I, LOOP_STAT_PHSAT, LOOP_STAT_PHVALID, LOOP_STAT_PHSTALE, LOOP_STAT_PHINV] s t) ∧
  (∀ (s : State), (s.get LOOP_CTRL_PHEN ≠ 1 ∨ s.get LOOP_CTRL_PHMAN = 1 ∨ s.phLive = false) → s.get LOOP_PHWIN_MINN
    ≤ phCount s → ∃ t, exec (.preheatWindowEnd) s = .next t ∧ windowClosed s t ∧ t.get LOOP_STAT_PHVALID = 1 ∧ t.get
    LOOP_STAT_PHSTALE = 0 ∧ t.get LOOP_STAT_PHINV = 0 ∧ t =
    { s with regs := t.regs, time := t.time, loops := t.loops } ∧ regsBut [LOOP_PHPV_PV, LOOP_PHPV_N,
    LOOP_STAT_PHVALID, LOOP_STAT_PHSTALE, LOOP_STAT_PHINV] s t) ∧
  (∀ (s : State), phCount s < s.get LOOP_PHWIN_MINN → ∃ t, exec (.preheatWindowEnd) s = .next t ∧ windowClosed s t ∧
    t.get LOOP_STAT_PHVALID = 0 ∧ t.get LOOP_STAT_PHINV = (satAdd 8 (s.get LOOP_STAT_PHINV) 1 % 2 ^ 8) ∧ t.get
    LOOP_STAT_PHSTALE = (if s.get LOOP_PHCFG_STALE ≤ (satAdd 8 (s.get LOOP_STAT_PHINV) 1 % 2 ^ 8) ∧ s.get
    LOOP_CTRL_PHEN = 1 then 1 else s.get LOOP_STAT_PHSTALE) ∧ t.get LOOP_PHU_U = (if t.get LOOP_STAT_PHSTALE = 1 ∧
    s.phAuto = true then s.get LOOP_PHCFG_SAFE % 2 ^ 10 else s.get LOOP_PHU_U) ∧ (s.get LOOP_STAT_PHSTALE = 0 →
    t.get LOOP_STAT_PHSTALE = 1 → raisedIn Src.phStale s t) ∧ t =
    { s with regs := t.regs, evt := t.evt, mem := t.mem, time := t.time, loops := t.loops } ∧ regsButEvt
    [LOOP_PHPV_PV, LOOP_PHPV_N, LOOP_PHU_U, LOOP_STAT_PHVALID, LOOP_STAT_PHSTALE, LOOP_STAT_PHINV] s t) ∧
  (∀ (s : State), s.get LOOP_CTRL_BKEN = 1 → s.get LOOP_CTRL_BKMAN ≠ 1 → (s.mode = 1 ∨ s.mode = 2 ∨ s.mode = 3 ∨
    s.mode = 5) → (bkReads s).1 ≠ 0 → ∃ t, exec (.backdropLoopUpdate) s = .next t ∧ secondClosed s t 0 false ∧ t.get
    LOOP_BKPV_PV = (roundDiv (bkReads s).2 (bkReads s).1).toNat % 2 ^ 20 ∧ t.get LOOP_STAT_BKVALID = 1 ∧ t.get
    LOOP_BKU_U = (if s.get LOOP_STAT_BKOVER = 1 then 0 else (piStep ((s.get LOOP_BKSP_SP : Int) + (if s.gref.raised
    = true then 5000 else 0) - (roundDiv (bkReads s).2 (bkReads s).1).toNat) 1000 (s.get LOOP_BKGAIN_KP) (s.get
    LOOP_BKGAIN_KI) (s.get LOOP_BKLIM_UMIN) (s.get LOOP_BKLIM_UMAX) (s.get LOOP_BKU_I)).1 % 2 ^ 10) ∧ t.get
    LOOP_BKU_I = (piStep ((s.get LOOP_BKSP_SP : Int) + (if s.gref.raised = true then 5000 else 0) - (roundDiv
    (bkReads s).2 (bkReads s).1).toNat) 1000 (s.get LOOP_BKGAIN_KP) (s.get LOOP_BKGAIN_KI) (s.get LOOP_BKLIM_UMIN)
    (s.get LOOP_BKLIM_UMAX) (s.get LOOP_BKU_I)).2.1 % 2 ^ 10 ∧ (t.get LOOP_STAT_BKSAT = 1 ↔ (piStep ((s.get
    LOOP_BKSP_SP : Int) + (if s.gref.raised = true then 5000 else 0) - (roundDiv (bkReads s).2 (bkReads s).1).toNat)
    1000 (s.get LOOP_BKGAIN_KP) (s.get LOOP_BKGAIN_KI) (s.get LOOP_BKLIM_UMIN) (s.get LOOP_BKLIM_UMAX) (s.get
    LOOP_BKU_I)).2.2 = true) ∧ t = { s with regs := t.regs, time := t.time, loops := t.loops } ∧ regsBut
    [LOOP_BKPV_PV, LOOP_STAT_BKVALID, LOOP_BKU_U, LOOP_BKU_I, LOOP_STAT_BKSAT] s t) ∧
  (∀ (s : State), (s.get LOOP_CTRL_BKEN ≠ 1 ∨ s.get LOOP_CTRL_BKMAN = 1 ∨ s.bkLive = false) → (bkReads s).1 ≠ 0 → ∃
    t, exec (.backdropLoopUpdate) s = .next t ∧ secondClosed s t 0 false ∧ t.get LOOP_BKPV_PV = (roundDiv (bkReads
    s).2 (bkReads s).1).toNat % 2 ^ 20 ∧ t.get LOOP_STAT_BKVALID = 1 ∧ t =
    { s with regs := t.regs, time := t.time, loops := t.loops } ∧ regsBut [LOOP_BKPV_PV, LOOP_STAT_BKVALID] s t) ∧
  (∀ (s : State), s.get LOOP_CTRL_BKEN = 1 → s.get LOOP_CTRL_BKMAN ≠ 1 → (s.mode = 1 ∨ s.mode = 2 ∨ s.mode = 3 ∨
    s.mode = 5) → (bkReads s).1 = 0 → ∃ t, exec (.backdropLoopUpdate) s = .next t ∧ secondClosed s t
    (s.loops.rtdLost + 1) (s.loops.rtdOut || decide (4 ≤ s.loops.rtdLost)) ∧ t.get LOOP_STAT_BKVALID = 0 ∧ t.get
    LOOP_BKU_I = s.get LOOP_BKU_I ∧ t.get LOOP_BKU_U = (if s.loops.rtdLost < 4 then s.get LOOP_BKU_U else if s.get
    LOOP_STAT_BKOVER = 1 then 0 else s.get LOOP_BKCFG_SAFE % 2 ^ 10) ∧ (4 ≤ s.loops.rtdLost → s.loops.rtdOut = false
    → raisedIn Src.bkRtd s t) ∧ t = { s with regs := t.regs, evt := t.evt, mem := t.mem, time := t.time, loops :=
                                               t.loops } ∧ regsButEvt [LOOP_STAT_BKVALID, LOOP_BKU_U] s t) ∧
  (∀ (s : State), (s.get LOOP_CTRL_BKEN ≠ 1 ∨ s.get LOOP_CTRL_BKMAN = 1 ∨ s.bkLive = false) → (bkReads s).1 = 0 → ∃
    t, exec (.backdropLoopUpdate) s = .next t ∧ secondClosed s t (s.loops.rtdLost + 1) s.loops.rtdOut ∧ t.get
    LOOP_STAT_BKVALID = 0 ∧ t = { s with regs := t.regs, time := t.time, loops := t.loops } ∧ regsBut
    [LOOP_STAT_BKVALID] s t)

/-- A heater period takes its on-time, the output falls when it has passed; LOOP_CTRL and the clears act as R308 to R310 say. (spec/11_process_loops.md R299, R300, R308, R309, R310, R311) -/
def Obligations.HeaterOutputsAndLoopControlFollowTheirSettings : Prop :=
  (∀ (s : State) (o : Nat), o < 5 → ∃ t, exec (.heaterPeriodStart o) s = .next t ∧ mget 0 t.loops.onMs o = (if
    s.outEnabled o = true then s.onTime o else 0) ∧ bitOf t.loops.high o = (s.outEnabled o && s.onTime o != 0) ∧ (∀
    i : Nat, i < 5 → i ≠ o → bitOf t.loops.high i = bitOf s.loops.high i ∧ mget 0 t.loops.onMs i = mget 0
    s.loops.onMs i) ∧ mget 0 t.loops.began o = s.nextPeriod o ∧ t.time = max s.time (s.nextPeriod o) ∧ s.nextPeriod
    o % 1000000000 = phaseOf o ∧ t = { s with time := t.time, loops := { s.loops with high := t.loops.high, onMs :=
                                                                                        t.loops.onMs, began :=
                                                                                        t.loops.began } }) ∧
  (∀ (s : State) (o : Nat), o < 5 → mget 0 s.loops.onMs o ≠ 1000 → bitOf s.loops.high o = true → ∃ t, exec
    (.heaterOutputOff o) s = .next t ∧ bitOf t.loops.high o = false ∧ (∀ i : Nat, i < 5 → i ≠ o → bitOf t.loops.high
    i = bitOf s.loops.high i) ∧ t.time = max s.time (mget 0 s.loops.began o + 1000000 * mget 0 s.loops.onMs o) ∧ t =
    { s with time := t.time, loops := { s.loops with high := t.loops.high } }) ∧
  (∀ (s : State) (o : Nat), (mget 0 s.loops.onMs o = 1000 ∨ bitOf s.loops.high o = false) → ∃ t, exec
    (.heaterOutputOff o) s = .next t ∧ t = s) ∧
  (∀ (s : State) (r : Requester) (p b : Bool), s.protected r 0xD000 = false → ∃ t, exec (.loopClear r p b) s = .next
    t ∧ t.get LOOP_PHU_I = (if p = true then s.get LOOP_PHLIM_UMIN % 2 ^ 10 else s.get LOOP_PHU_I) ∧ t.get
    LOOP_BKU_I = (if b = true then s.get LOOP_BKLIM_UMIN % 2 ^ 10 else s.get LOOP_BKU_I) ∧ t =
    { s with regs := t.regs } ∧ regsBut [LOOP_PHU_I, LOOP_BKU_I] s t) ∧
  (∀ (s : State) (r : Requester) (v : Word), s.protected r 0xD000 = false → bits v.toNat 8 8 ≤ 50 → (s.get
    LOOP_STAT_GREF ≠ 1 ∨ (bits v.toNat 1 1 = 1 ∧ bits v.toNat 3 1 = 0)) → bits v.toNat 4 2 = 0 → ∃ t, exec
    (.loopCtrlWrite r v) s = .next t ∧ t.get LOOP_CTRL_PHEN = bits v.toNat 0 1 ∧ t.get LOOP_CTRL_BKEN = bits v.toNat
    1 1 ∧ t.get LOOP_CTRL_PHMAN = bits v.toNat 2 1 ∧ t.get LOOP_CTRL_BKMAN = bits v.toNat 3 1 ∧ t.get
    LOOP_CTRL_MINON = bits v.toNat 8 8 ∧ t.get LOOP_PHU_I = (if s.get LOOP_CTRL_PHMAN = 1 ∧ bits v.toNat 2 1 = 0
    then min (max (s.get LOOP_PHCFG_MAN) (s.get LOOP_PHLIM_UMIN)) (s.get LOOP_PHLIM_UMAX) % 2 ^ 10 else s.get
    LOOP_PHU_I) ∧ t.get LOOP_BKU_I = (if s.get LOOP_CTRL_BKMAN = 1 ∧ bits v.toNat 3 1 = 0 then min (max (s.get
    LOOP_BKCFG_MAN) (s.get LOOP_BKLIM_UMIN)) (s.get LOOP_BKLIM_UMAX) % 2 ^ 10 else s.get LOOP_BKU_I) ∧ t.get
    LOOP_PHU_U = (if bits v.toNat 2 1 = 1 then s.get LOOP_PHCFG_MAN % 2 ^ 10 else s.get LOOP_PHU_U) ∧ t.get
    LOOP_BKU_U = (if bits v.toNat 3 1 = 1 ∧ s.get LOOP_STAT_BKOVER ≠ 1 then s.get LOOP_BKCFG_MAN % 2 ^ 10 else s.get
    LOOP_BKU_U) ∧ (∀ i : Nat, i < 5 → bitOf t.loops.high i = (bitOf s.loops.high i && (if i < 4 then bitOf v.toNat 0
    else bitOf v.toNat 1))) ∧ t = { s with regs := t.regs, loops := { s.loops with high := t.loops.high } } ∧
    regsBut [LOOP_CTRL_PHEN, LOOP_CTRL_BKEN, LOOP_CTRL_PHMAN, LOOP_CTRL_BKMAN, LOOP_CTRL_MINON, LOOP_PHU_I,
    LOOP_BKU_I, LOOP_PHU_U, LOOP_BKU_U] s t) ∧
  (∀ (s : State) (r : Requester) (v : Word), s.protected r 0xD000 = false → (50 < bits v.toNat 8 8 ∨ (s.get
    LOOP_STAT_GREF = 1 ∧ (bits v.toNat 1 1 = 0 ∨ bits v.toNat 3 1 = 1))) → ∃ t, exec (.loopCtrlWrite r v) s = .next
    t ∧ t.get LOOP_STAT_WRERR = 1 ∧ t = { s with regs := t.regs } ∧ regsBut [LOOP_STAT_WRERR] s t)

/-- Bights are tested, restored or skipped in turn; words are written back; groups enter and leave retention; tables reload. (spec/12_memories.md R313, R314, R324, R325, R326, R327, R328, R329, R330, R331, spec/17_startup_reset_update.md R438, R440) -/
def Obligations.BackgroundTestRetentionAndTableReloads : Prop :=
  (∀ (s : State), s.mem.phase = .idle → s.get MEM_CTRL_TESTEN = 1 → s.bankSkipped s.mem.bank = false → s.bightFree
    s.mem.bank s.mem.bight = true → s.mem.errs = [] → ∃ t, exec (.bightStart []) s = .next t ∧ t.mem =
    { s.mem with phase := .test } ∧ t.get MEM_TESTPOS_BANK = s.mem.bank % 2 ^ 6 ∧ t.get MEM_TESTPOS_BIGHT =
    s.mem.bight % 2 ^ 14 ∧ t.get MEM_TESTPOS_ACTIVE = 1 ∧ t.get MEM_STAT_TESTRUN = 1 ∧ t =
    { s with regs := t.regs, mem := t.mem } ∧ regsBut [MEM_TESTPOS_BANK, MEM_TESTPOS_BIGHT, MEM_TESTPOS_ACTIVE,
    MEM_STAT_TESTRUN] s t) ∧
  (∀ (s : State), s.mem.phase = .idle → s.get MEM_CTRL_TESTEN = 1 → s.bankSkipped s.mem.bank = false → s.bightFree
    s.mem.bank s.mem.bight = false → ∃ t, exec (.bightStart []) s = .next t ∧ t = s) ∧
  (∀ (s : State) (l : List MemErr), (s.mem.phase ≠ .idle ∨ s.get MEM_CTRL_TESTEN ≠ 1) → ∃ t, exec (.bightStart l) s
    = .next t ∧ t = { s with mem := { s.mem with errs := s.mem.errs ++ l } }) ∧
  (∀ (s : State), s.mem.phase = .test → ∃ t, exec (.bightDone none) s = .next t ∧ t.mem =
    { s.mem with phase := .idle, bank := (if s.mem.bight + 1 < bankBights s.mem.bank then (s.mem.bank, s.mem.bight +
                   1) else if s.mem.bank < 56 then (s.mem.bank + 1, 0) else (0, 0)).1, bight := (if s.mem.bight + 1
                   < bankBights s.mem.bank then (s.mem.bank, s.mem.bight + 1) else if s.mem.bank < 56 then
                   (s.mem.bank + 1, 0) else (0, 0)).2, aborts := 0 } ∧ t.get MEM_TESTPASS_COUNT = (if s.mem.bight +
    1 < bankBights s.mem.bank ∨ s.mem.bank < 56 then s.get MEM_TESTPASS_COUNT else (s.get MEM_TESTPASS_COUNT + 1) %
    2 ^ 32) ∧ t.get MEM_TESTPOS_ACTIVE = 0 ∧ t.get MEM_STAT_TESTRUN = 0 ∧ t =
    { s with regs := t.regs, mem := t.mem } ∧ regsBut [MEM_TESTPASS_COUNT, MEM_TESTPOS_ACTIVE, MEM_STAT_TESTRUN] s
    t) ∧
  (∀ (s : State) (b : Nat), s.mem.phase = .test → b < bankData s.mem.bank + bankCheck s.mem.bank → ∃ t, exec
    (.bightDone (some b)) s = .next t ∧ t.get MEM_TESTFAIL_COUNT = satAdd 31 (s.get MEM_TESTFAIL_COUNT) 1 % 2 ^ 31 ∧
    t.get MEM_STAT_FAILSEEN = 1 ∧ t.get MEM_FAILADDR_BANK = s.mem.bank % 2 ^ 6 ∧ t.get MEM_FAILADDR_BIGHT =
    s.mem.bight % 2 ^ 14 ∧ t.get MEM_FAILADDR_BIT = b % 2 ^ 7 ∧ t.get MEM_FAILADDR_VALID = 1 ∧ raisedIn
    Src.memTestFail s t ∧ t.mem.phase = .idle ∧ t =
    { s with regs := t.regs, evt := t.evt, mem := t.mem } ∧ regsOutside [Blk.EVT] [MEM_TESTABORTS_COUNT,
    MEM_STAT_TESTRUN, MEM_STAT_FAILSEEN, MEM_TESTPOS_ACTIVE, MEM_TESTPASS_COUNT, MEM_TESTFAIL_COUNT,
    MEM_FAILADDR_BANK, MEM_FAILADDR_BIGHT, MEM_FAILADDR_BIT, MEM_FAILADDR_VALID] s t) ∧
  (∀ (s : State) (f : Option Nat), s.mem.phase ≠ .test → ∃ t, exec (.bightDone f) s = .next t ∧ t = s) ∧
  (∀ (s : State), s.mem.phase = .restore → 4 ≤ s.mem.aborts → ∃ t, exec (.bightRestoreDone) s = .next t ∧ t.mem =
    { s.mem with phase := .idle, bank := (if s.mem.bight + 1 < bankBights s.mem.bank then (s.mem.bank, s.mem.bight +
                   1) else if s.mem.bank < 56 then (s.mem.bank + 1, 0) else (0, 0)).1, bight := (if s.mem.bight + 1
                   < bankBights s.mem.bank then (s.mem.bank, s.mem.bight + 1) else if s.mem.bank < 56 then
                   (s.mem.bank + 1, 0) else (0, 0)).2, aborts := 0 } ∧ t.get MEM_TESTSKIP_COUNT = satAdd 31 (s.get
    MEM_TESTSKIP_COUNT) 1 % 2 ^ 31 ∧ t.get MEM_TESTPASS_COUNT = (if s.mem.bight + 1 < bankBights s.mem.bank ∨
    s.mem.bank < 56 then s.get MEM_TESTPASS_COUNT else (s.get MEM_TESTPASS_COUNT + 1) % 2 ^ 32) ∧ t.get
    MEM_TESTPOS_ACTIVE = 0 ∧ t.get MEM_STAT_TESTRUN = 0 ∧ t =
    { s with regs := t.regs, mem := t.mem } ∧ regsBut [MEM_TESTSKIP_COUNT, MEM_TESTPASS_COUNT, MEM_TESTPOS_ACTIVE,
    MEM_STAT_TESTRUN] s t) ∧
  (∀ (s : State), s.mem.phase = .restore → s.mem.aborts < 4 → ∃ t, exec (.bightRestoreDone) s = .next t ∧ t.mem =
    { s.mem with phase := .idle } ∧ t.get MEM_TESTPOS_ACTIVE = 0 ∧ t.get MEM_STAT_TESTRUN = 0 ∧ t =
    { s with regs := t.regs, mem := t.mem } ∧ regsBut [MEM_TESTPOS_ACTIVE, MEM_STAT_TESTRUN] s t) ∧
  (∀ (s : State), s.mem.phase ≠ .restore → ∃ t, exec (.bightRestoreDone) s = .next t ∧ t = s) ∧
  (∀ (s : State), s.mem.phase = .idle → s.get MEM_CTRL_TESTEN = 1 → s.bankSkipped s.mem.bank = false → s.bightFree
    s.mem.bank s.mem.bight = false → ∃ t, exec (.bightSkip) s = .next t ∧ t.mem =
    { s.mem with bank := (if s.mem.bight + 1 < bankBights s.mem.bank then (s.mem.bank, s.mem.bight + 1) else if
                   s.mem.bank < 56 then (s.mem.bank + 1, 0) else (0, 0)).1, bight := (if s.mem.bight + 1 <
                   bankBights s.mem.bank then (s.mem.bank, s.mem.bight + 1) else if s.mem.bank < 56 then (s.mem.bank
                   + 1, 0) else (0, 0)).2, aborts := 0 } ∧ t.get MEM_TESTSKIP_COUNT = satAdd 31 (s.get
    MEM_TESTSKIP_COUNT) 1 % 2 ^ 31 ∧ t.get MEM_TESTPASS_COUNT = (if s.mem.bight + 1 < bankBights s.mem.bank ∨
    s.mem.bank < 56 then s.get MEM_TESTPASS_COUNT else (s.get MEM_TESTPASS_COUNT + 1) % 2 ^ 32) ∧ t =
    { s with regs := t.regs, mem := t.mem } ∧ regsBut [MEM_TESTSKIP_COUNT, MEM_TESTPASS_COUNT] s t) ∧
  (∀ (s : State), (s.mem.phase ≠ .idle ∨ s.get MEM_CTRL_TESTEN ≠ 1 ∨ (s.bankSkipped s.mem.bank = false ∧ s.bightFree
    s.mem.bank s.mem.bight = true)) → ∃ t, exec (.bightSkip) s = .next t ∧ t = s) ∧
  (∀ (s : State) (b w : Nat) (l : List (Nat × Nat)), s.mem.scrubQ = (b, w) :: l → ∃ t, exec (.scrubWriteback) s =
    .next t ∧ t = { s with mem := { s.mem with scrubQ := l, errs := s.mem.errs.filter (fun e => !(e.bank == b &&
                                                 e.word == w && !e.ue)) } }) ∧
  (∀ (s : State), s.mem.scrubQ = [] → ∃ t, exec (.scrubWriteback) s = .next t ∧ t = s) ∧
  (∀ (s : State) (r : Requester) (v : Word), s.protected r 0xB040 = false → ((andNot (v.toNat % 256) (s.get
    MEM_RETSTAT_RET)) = 0 ∨ (s.mode ≠ 3 ∧ (andNot (v.toNat % 256) (s.get MEM_RETSTAT_RET)) / 16 &&& s.get
    GLB_CORECTL_HARTON = 0)) → ∃ t, exec (.memRetctlWrite r v) s = .next t ∧ t.get MEM_RETCTL_PB = bits v.toNat 0 1
    ∧ t.get MEM_RETCTL_UB = bits v.toNat 1 1 ∧ t.get MEM_RETCTL_BB = bits v.toNat 2 1 ∧ t.get MEM_RETCTL_KB = bits
    v.toNat 3 1 ∧ t.get MEM_RETCTL_SP = bits v.toNat 4 4 ∧ t.get MEM_RETSTAT_RET = v.toNat % 256 ∧ t =
    { s with regs := t.regs, mem := { s.mem with waking := t.mem.waking } } ∧ regsBut [MEM_RETCTL_PB, MEM_RETCTL_UB,
    MEM_RETCTL_BB, MEM_RETCTL_KB, MEM_RETCTL_SP, MEM_RETSTAT_RET] s t) ∧
  (∀ (s : State) (r : Requester) (v : Word), s.protected r 0xB040 = false → (andNot (v.toNat % 256) (s.get
    MEM_RETSTAT_RET)) ≠ 0 → (s.mode = 3 ∨ (andNot (v.toNat % 256) (s.get MEM_RETSTAT_RET)) / 16 &&& s.get
    GLB_CORECTL_HARTON ≠ 0) → ∃ t, exec (.memRetctlWrite r v) s = .next t ∧ t.get MEM_STAT_WRERR = 1 ∧ t =
    { s with regs := t.regs } ∧ regsBut [MEM_STAT_WRERR] s t) ∧
  (∀ (s : State) (g : RetGroup), bitOf (s.get MEM_RETSTAT_RET) (retBit g) = true → (s.mem.startWait = false ∨ andNot
    (s.get MEM_RETSTAT_RET) (2 ^ retBit g) ≠ 0) → ∃ t, exec (.retentionWake g) s = .next t ∧ bitOf (t.get
    MEM_RETSTAT_RET) (retBit g) = false ∧ (∀ i : Nat, i < 8 → i ≠ retBit g → bitOf (t.get MEM_RETSTAT_RET) i = bitOf
    (s.get MEM_RETSTAT_RET) i) ∧ t.get MEM_RETSTAT_WAKES = (if s.mem.waking.contains (retBit g) = true then satAdd
    16 (s.get MEM_RETSTAT_WAKES) 1 % 2 ^ 16 else s.get MEM_RETSTAT_WAKES) ∧ t =
    { s with regs := t.regs, mem := { s.mem with waking := t.mem.waking } } ∧ regsBut [MEM_RETCTL_PB, MEM_RETCTL_UB,
    MEM_RETCTL_BB, MEM_RETCTL_KB, MEM_RETCTL_SP, MEM_RETSTAT_RET, MEM_RETSTAT_WAKES] s t) ∧
  (∀ (s : State) (g : RetGroup), s.get MEM_RETSTAT_RET = 2 ^ retBit g → s.mem.startWait = true → s.mode = 2 → ∃ t,
    exec (.retentionWake g) s = .next t ∧ t.get MEM_RETSTAT_RET = 0 ∧ t.mode = 3 ∧ t.get GLB_CTRL_RUN = 1 ∧
    t.mem.startWait = false ∧ t = { s with regs := t.regs, mem := t.mem } ∧ regsOutside [] [GLB_STAT_STATE,
    GLB_CTRL_RUN, MEM_RETCTL_PB, MEM_RETCTL_UB, MEM_RETCTL_BB, MEM_RETCTL_KB, MEM_RETCTL_SP, MEM_RETSTAT_RET,
    MEM_RETSTAT_WAKES] s t) ∧
  (∀ (s : State) (g : RetGroup), bitOf (s.get MEM_RETSTAT_RET) (retBit g) = false → s.mem.startWait = false → ∃ t,
    exec (.retentionWake g) s = .next t ∧ t = s) ∧
  (∀ (s : State), s.get BRD_CTRL_AUTO = 1 → ∃ t, exec (.tableMemoryReload 4 true) s = .next t ∧ t.braid.busy = true
    ∧ t.house = { s.house with badTables := s.house.badTables.filter (· != 4) } ∧ t =
    { s with regs := t.regs, evt := t.evt, mem := t.mem, mbx := t.mbx, sensor := t.sensor, corr := t.corr, cal :=
               t.cal, gref := t.gref, loops := t.loops, braid := t.braid, sched := t.sched, valves := t.valves,
             chain := t.chain, baind := t.baind, ssp := t.ssp, house := t.house, fb := t.fb, outs := t.outs } ∧
    regsOutside [Blk.EVT, Blk.VLV, Blk.VBK, Blk.MBX] (safeFlds ++ [BRD_TSTAT_SWPEND, VRD_CTRL_SWPEND,
    VRD_STAT_WRERR, EJS_CTRL_MAPPEND]) s t) ∧
  (∀ (s : State), ∃ t, exec (.tableMemoryReload 5 true) s = .next t ∧ (∀ e ∈ t.mem.errs, ¬(e.bank = 57 ∧ 65536 * 5 ≤
    e.word ∧ e.word < 65536 * 5 + 65536)) ∧ t.house =
    { s.house with badTables := s.house.badTables.filter (· != 5) } ∧ t =
    { s with regs := t.regs, evt := t.evt, mem := t.mem, mbx := t.mbx, sensor := t.sensor, corr := t.corr, cal :=
               t.cal, gref := t.gref, loops := t.loops, braid := t.braid, sched := t.sched, valves := t.valves,
             chain := t.chain, baind := t.baind, ssp := t.ssp, house := t.house, fb := t.fb, outs := t.outs } ∧
    regsOutside [Blk.EVT, Blk.VLV, Blk.VBK, Blk.MBX] (safeFlds ++ [BRD_TSTAT_SWPEND, VRD_CTRL_SWPEND,
    VRD_STAT_WRERR, EJS_CTRL_MAPPEND]) s t) ∧
  (∀ (s : State) (n : Nat), s.mode ≠ 4 → ∃ t, exec (.tableMemoryReload n false) s = .next t ∧ t.house =
    { s.house with badTables := s.house.badTables.filter (· != n) ++ [n] } ∧ t.mode = 4 ∧ bitOf (t.get
    GLB_SAFECAUSE_CAUSES) 3 = true ∧ valvesClosed t ∧ heatersOff t ∧ t.get GLB_STAT_FAULT = 1 ∧ t =
    { s with regs := t.regs, evt := t.evt, mem := t.mem, mbx := t.mbx, sensor := t.sensor, corr := t.corr, cal :=
               t.cal, gref := t.gref, loops := t.loops, braid := t.braid, sched := t.sched, valves := t.valves,
             chain := t.chain, baind := t.baind, ssp := t.ssp, house := t.house, fb := t.fb, outs := t.outs } ∧
    regsOutside [Blk.EVT, Blk.VLV, Blk.VBK, Blk.MBX] (safeFlds ++ [BRD_TSTAT_SWPEND, VRD_CTRL_SWPEND,
    VRD_STAT_WRERR, EJS_CTRL_MAPPEND]) s t)

/-- A W1C bit that hardware sets in the cycle of the write that clears it remains set. (spec/00_scope.md R15) -/
def Obligations.HardwareSetBitsSurviveTheirClearing : Prop :=
  (∀ (s : State) (r : Requester) (v hw : Word) (f : Fld) (i : Nat), f ∈ w1cFlds → i < f.width → s.protected r f.addr
    = false → bitOf (s.implMask f.addr) (f.lo + i) = true → bitOf v.toNat (f.lo + i) = true → bitOf hw.toNat (f.lo +
    i) = true → (0x500 ≤ f.addr → f.addr < 0x560 → s.srcExists (8 * (f.addr - 0x500) + i) = true ∧ s.srcEnabled (8 *
    (f.addr - 0x500) + i) = true) → ∃ t, exec (.registerWrite r f.addr .word v none hw) s = .next t ∧ bitOf (t.get
    f) i = true)

/-- A write of a plain register sets RW fields, clears W1C bits, leaves RO fields, and leaves every other register. (spec/00_scope.md R12, R14, R15) -/
def Obligations.PlainRegistersTakeAWriteByFieldType : Prop :=
  (∀ (s : State) (r : Requester) (a : Nat) (v hw : Word), a ∈ plainRegs → s.protected r a = false → (0x500 ≤ a → a <
    0x560 → hw = 0#32) → ∃ t, exec (.registerWrite r a .word v none hw) s = .next t ∧ (∀ f ∈ fieldsAt a, (f.ty = .rw
    → t.get f = bits v.toNat f.lo f.width) ∧ (f.ty = .w1c → t.get f = (andNot (s.get f) (bits v.toNat f.lo f.width)
    ||| bits hw.toNat f.lo f.width) % 2 ^ f.width) ∧ (f.ty = .ro → t.get f = s.get f)) ∧ t =
    { s with regs := t.regs } ∧ regsBut (fieldsAt a) s t) ∧
  (∀ (s : State) (r : Requester) (g b : Nat) (v : Word), g < 24 → b < 32 → s.protected r (0x500 + 4 * g) = false →
    s.srcExists (32 * g + b) = true → s.srcEnabled (32 * g + b) = true → ∃ t, exec (.registerWrite r (0x500 + 4 * g)
    .word v none (BitVec.ofNat 32 (2 ^ b))) s = .next t ∧ t.srcStatus (32 * g + b) = true ∧ (32 * g + b ≠
    Src.logLost → t.get (cntFld (32 * g + b)) = satAdd 8 (s.get (cntFld (32 * g + b))) 1 % 2 ^ 8) ∧ t =
    { s with regs := t.regs, evt := t.evt, mem := t.mem } ∧ regsButEvt [] s t) ∧
  (∀ (s : State) (r : Requester) (a : Nat) (v hw : Word), a % 4 = 0 → fieldsAt a = [] → (0x400 ≤ a ∧ a < 0x1800 ∨
    0x7000 ≤ a ∧ a < 0x7400 ∨ 0xB000 ≤ a ∧ a < 0xB800) → s.protected r a = false → ∃ t, exec (.registerWrite r a
    .word v none hw) s = .next t ∧ t = s)

/-- Writing 1 to an EVT_FORCE bit is an occurrence of that source, and of an absent or reserved one changes nothing. (spec/13_processors_events.md R351) -/
def Obligations.ForcingABitIsAnOccurrenceOfItsSource : Prop :=
  (∀ (s : State) (r : Requester) (g b : Nat), g < 24 → b < 32 → s.protected r (0x580 + 4 * g) = false → s.srcExists
    (32 * g + b) = true → ∃ t, exec (.evtForce r g (BitVec.ofNat 32 (2 ^ b))) s = .next t ∧ t = s.occurAt (32 * g +
    b) true s.time ∧ t.srcStatus (32 * g + b) = true ∧ (32 * g + b ≠ Src.logLost → t.get (cntFld (32 * g + b)) =
    satAdd 8 (s.get (cntFld (32 * g + b))) 1 % 2 ^ 8) ∧ (s.srcStatus (32 * g + b) = false → mget 0 t.evt.caps (32 *
    g + b) = s.time) ∧ (bitOf (s.get (routeFld (32 * g + b))) 6 = true → mget 0 s.evt.lastLog (32 * g + b) = 0 →
    (t.logEntry (s.get EVT_LOGHEAD_NEXT)).forced = true) ∧ t =
    { s with regs := t.regs, evt := t.evt, mem := t.mem } ∧ regsButEvt [] s t) ∧
  (∀ (s : State) (r : Requester) (g b : Nat), g < 24 → b < 32 → s.protected r (0x580 + 4 * g) = false → s.srcExists
    (32 * g + b) = false → ∃ t, exec (.evtForce r g (BitVec.ofNat 32 (2 ^ b))) s = .next t ∧ t = s)

/-- A write of the cluster to a block whose APPWE bit is 0, and any but the management core's to GLB_APPWE, is ignored. (spec/13_processors_events.md R339, R342, R345) -/
def Obligations.ProtectedWritesSetPROTERRAndNothingElse : Prop :=
  (∀ (s : State) (h : Nat) (v : Word), bitOf (s.get GLB_APPWE_WE) 9 = false → ∃ t, exec (.brdUnlayWrite (.hart h) v)
    s = .next t ∧ turnedAway s t) ∧
  (∀ (s : State) (h : Nat) (v : Word), bitOf (s.get GLB_APPWE_WE) 9 = false → ∃ t, exec (.brdSwitch (.hart h) v) s =
    .next t ∧ turnedAway s t) ∧
  (∀ (s : State) (h : Nat) (v : Word), bitOf (s.get GLB_APPWE_WE) 10 = false → ∃ t, exec (.kntThrWrite (.hart h) v)
    s = .next t ∧ turnedAway s t) ∧
  (∀ (s : State) (h : Nat) (v : Word), bitOf (s.get GLB_APPWE_WE) 7 = false → ∃ t, exec (.corV0Write (.hart h) v) s
    = .next t ∧ turnedAway s t) ∧
  (∀ (s : State) (h : Nat) (v : Word), bitOf (s.get GLB_APPWE_WE) 7 = false → ∃ t, exec (.corOflip (.hart h) v) s =
    .next t ∧ turnedAway s t) ∧
  (∀ (s : State) (h : Nat) (v : Word), bitOf (s.get GLB_APPWE_WE) 5 = false → ∃ t, exec (.stgCtrlWrite (.hart h) v)
    s = .next t ∧ turnedAway s t) ∧
  (∀ (s : State) (h : Nat) (v : Word), bitOf (s.get GLB_APPWE_WE) 5 = false → ∃ t, exec (.stgFrateWrite (.hart h) v)
    s = .next t ∧ turnedAway s t) ∧
  (∀ (s : State) (h : Nat) (v : Word), bitOf (s.get GLB_APPWE_WE) 5 = false → ∃ t, exec (.stgBiasWrite (.hart h) v)
    s = .next t ∧ turnedAway s t) ∧
  (∀ (s : State) (h : Nat) (v : Word), bitOf (s.get GLB_APPWE_WE) 5 = false → ∃ t, exec (.stgSetptWrite (.hart h) v)
    s = .next t ∧ turnedAway s t) ∧
  (∀ (s : State) (h : Nat) (v : Word), bitOf (s.get GLB_APPWE_WE) 21 = false → ∃ t, exec (.tmxBlindWrite (.hart h)
    v) s = .next t ∧ turnedAway s t) ∧
  (∀ (s : State) (h : Nat) (v : Word), bitOf (s.get GLB_APPWE_WE) 21 = false → ∃ t, exec (.tmxTpctlWrite (.hart h)
    v) s = .next t ∧ turnedAway s t) ∧
  (∀ (s : State) (h : Nat) (v : Word), bitOf (s.get GLB_APPWE_WE) 21 = false → ∃ t, exec (.tmxTpdataWrite (.hart h)
    v) s = .next t ∧ turnedAway s t) ∧
  (∀ (s : State) (h : Nat) (v : Word), bitOf (s.get GLB_APPWE_WE) 21 = false → ∃ t, exec (.bscanenWrite (.hart h) v)
    s = .next t ∧ turnedAway s t) ∧
  (∀ (s : State) (h : Nat) (v : Word), bitOf (s.get GLB_APPWE_WE) 18 = false → ∃ t, exec (.mdioGo (.hart h) v) s =
    .next t ∧ turnedAway s t) ∧
  (∀ (s : State) (h : Nat) (v : Word), bitOf (s.get GLB_APPWE_WE) 16 = false → ∃ t, exec (.memRetctlWrite (.hart h)
    v) s = .next t ∧ turnedAway s t) ∧
  (∀ (s : State) (h : Nat) (v : Word), bitOf (s.get GLB_APPWE_WE) 20 = false → ∃ t, exec (.loopCtrlWrite (.hart h)
    v) s = .next t ∧ turnedAway s t) ∧
  (∀ (s : State) (h : Nat) (v : Word), bitOf (s.get GLB_APPWE_WE) 2 = false → ∃ t, exec (.pwrBudprioWrite (.hart h)
    v) s = .next t ∧ turnedAway s t) ∧
  (∀ (s : State) (h : Nat), bitOf (s.get GLB_APPWE_WE) 9 = false → ∃ t, exec (.brdRestart (.hart h)) s = .next t ∧
    turnedAway s t) ∧
  (∀ (s : State) (h : Nat), bitOf (s.get GLB_APPWE_WE) 8 = false → ∃ t, exec (.calGo (.hart h)) s = .next t ∧
    turnedAway s t) ∧
  (∀ (s : State) (h : Nat), bitOf (s.get GLB_APPWE_WE) 8 = false → ∃ t, exec (.grefStart (.hart h)) s = .next t ∧
    turnedAway s t) ∧
  (∀ (s : State) (h : Nat), bitOf (s.get GLB_APPWE_WE) 8 = false → ∃ t, exec (.gapply (.hart h)) s = .next t ∧
    turnedAway s t) ∧
  (∀ (s : State) (h : Nat), bitOf (s.get GLB_APPWE_WE) 8 = false → ∃ t, exec (.calAbort (.hart h)) s = .next t ∧
    turnedAway s t) ∧
  (∀ (s : State) (h : Nat), bitOf (s.get GLB_APPWE_WE) 12 = false → ∃ t, exec (.qflush (.hart h)) s = .next t ∧
    turnedAway s t) ∧
  (∀ (s : State) (h : Nat), bitOf (s.get GLB_APPWE_WE) 12 = false → ∃ t, exec (.mapsw (.hart h)) s = .next t ∧
    turnedAway s t) ∧
  (∀ (s : State) (h : Nat), bitOf (s.get GLB_APPWE_WE) 11 = false → ∃ t, exec (.vrdSwitch (.hart h)) s = .next t ∧
    turnedAway s t) ∧
  (∀ (s : State) (h : Nat), bitOf (s.get GLB_APPWE_WE) 7 = false → ∃ t, exec (.corBlendAbort (.hart h)) s = .next t
    ∧ turnedAway s t) ∧
  (∀ (s : State) (h : Nat), bitOf (s.get GLB_APPWE_WE) 18 = false → ∃ t, exec (.ptpReofs (.hart h)) s = .next t ∧
    turnedAway s t) ∧
  (∀ (s : State) (h : Nat), bitOf (s.get GLB_APPWE_WE) 19 = false → ∃ t, exec (.chnResync (.hart h)) s = .next t ∧
    turnedAway s t) ∧
  (∀ (s : State) (h : Nat), bitOf (s.get GLB_APPWE_WE) 19 = false → ∃ t, exec (.takemst (.hart h)) s = .next t ∧
    turnedAway s t) ∧
  (∀ (s : State) (h : Nat), bitOf (s.get GLB_APPWE_WE) 4 = false → ∃ t, exec (.hkaScalStart (.hart h)) s = .next t ∧
    turnedAway s t) ∧
  (∀ (s : State) (h : Nat), bitOf (s.get GLB_APPWE_WE) 0 = false → ∃ t, exec (.glbCtrlSafe (.hart h)) s = .next t ∧
    turnedAway s t) ∧
  (∀ (s : State) (h : Nat), bitOf (s.get GLB_APPWE_WE) 3 = false → ∃ t, exec (.thmRestart (.hart h)) s = .next t ∧
    turnedAway s t) ∧
  (∀ (s : State) (h : Nat), bitOf (s.get GLB_APPWE_WE) 1 = false → ∃ t, exec (.evtCntclr (.hart h)) s = .next t ∧
    turnedAway s t) ∧
  (∀ (s : State) (h : Nat), bitOf (s.get GLB_APPWE_WE) 15 = false → ∃ t, exec (.lyClrflt (.hart h)) s = .next t ∧
    turnedAway s t) ∧
  (∀ (s : State) (h : Nat) (p b : Bool), bitOf (s.get GLB_APPWE_WE) 20 = false → ∃ t, exec (.loopClear (.hart h) p
    b) s = .next t ∧ turnedAway s t) ∧
  (∀ (s : State) (h : Nat) (b : Bool), bitOf (s.get GLB_APPWE_WE) 0 = false → ∃ t, exec (.glbRunWrite (.hart h) b) s
    = .next t ∧ turnedAway s t) ∧
  (∀ (s : State) (h : Nat) (b : Bool), bitOf (s.get GLB_APPWE_WE) 15 = false → ∃ t, exec (.lyEnergise (.hart h) b) s
    = .next t ∧ turnedAway s t) ∧
  (∀ (s : State) (h : Nat) (n : Nat), bitOf (s.get GLB_APPWE_WE) 0 = false → ∃ t, exec (.swrst (.hart h) n) s =
    .next t ∧ turnedAway s t) ∧
  (∀ (s : State) (h : Nat) (n : Nat), bitOf (s.get GLB_APPWE_WE) 7 = false → ∃ t, exec (.corBlendStart (.hart h) n)
    s = .next t ∧ turnedAway s t) ∧
  (∀ (s : State) (h : Nat) (n : Nat), bitOf (s.get GLB_APPWE_WE) 0 = false → ∃ t, exec (.hartenWrite (.hart h) n) s
    = .next t ∧ turnedAway s t) ∧
  (∀ (s : State) (h : Nat) (l : List Nat), bitOf (s.get GLB_APPWE_WE) 1 = false → ∃ t, exec (.evtClrall (.hart h) l)
    s = .next t ∧ turnedAway s t) ∧
  (∀ (s : State) (h : Nat) (n : Nat) (v : Word), n < 64 → bitOf (s.get GLB_APPWE_WE) 7 = false → ∃ t, exec
    (.corLanexWrite (.hart h) n v) s = .next t ∧ turnedAway s t) ∧
  (∀ (s : State) (h : Nat) (n : Nat) (v : Word), n < 24 → bitOf (s.get GLB_APPWE_WE) 1 = false → ∃ t, exec
    (.evtForce (.hart h) n v) s = .next t ∧ turnedAway s t) ∧
  (∀ (s : State) (h : Nat) (n : Nat) (d : MbxDir), n < 4 → bitOf (s.get GLB_APPWE_WE) 22 = false → ∃ t, exec
    (.mbxSend (.hart h) n d) s = .next t ∧ turnedAway s t) ∧
  (∀ (s : State) (h : Nat) (n : Nat) (d : MbxDir), n < 4 → bitOf (s.get GLB_APPWE_WE) 22 = false → ∃ t, exec
    (.mbxPop (.hart h) n d) s = .next t ∧ turnedAway s t) ∧
  (∀ (s : State) (h : Nat) (n : Nat) (v : Word), n < s.nTiles → bitOf (s.get GLB_APPWE_WE) 6 = false → ∃ t, exec
    (.tilGainWrite (.hart h) n v) s = .next t ∧ turnedAway s t) ∧
  (∀ (s : State) (h : Nat) (n : Nat) (v : Word), n < s.nTiles → bitOf (s.get GLB_APPWE_WE) 6 = false → ∃ t, exec
    (.tilPtdataWrite (.hart h) n v) s = .next t ∧ turnedAway s t) ∧
  (∀ (s : State) (h : Nat) (n i : Nat) (v : Word), n < s.nTiles → i < 16 → bitOf (s.get GLB_APPWE_WE) 6 = false → ∃
    t, exec (.tilSkimWrite (.hart h) n i v) s = .next t ∧ turnedAway s t) ∧
  (∀ (s : State) (h : Nat) (n : Nat) (b : Bool), n < s.nTiles → bitOf (s.get GLB_APPWE_WE) 6 = false → ∃ t, exec
    (.tilRotenWrite (.hart h) n b) s = .next t ∧ turnedAway s t) ∧
  (∀ (s : State) (h : Nat) (n k i : Nat), n < s.nTiles → bitOf (s.get GLB_APPWE_WE) 6 = false → ∃ t, exec (.tilPark
    (.hart h) n k i) s = .next t ∧ turnedAway s t) ∧
  (∀ (s : State) (h : Nat) (n i : Nat), n < s.nTiles → bitOf (s.get GLB_APPWE_WE) 6 = false → ∃ t, exec (.tilRelease
    (.hart h) n i) s = .next t ∧ turnedAway s t) ∧
  (∀ (s : State) (h : Nat) (n : Nat), n < s.nTiles → bitOf (s.get GLB_APPWE_WE) 6 = false → ∃ t, exec (.tilScal
    (.hart h) n) s = .next t ∧ turnedAway s t) ∧
  (∀ (s : State) (h : Nat) (n : Nat) (v : Word), n < s.nTiles → bitOf (s.get GLB_APPWE_WE) 6 = false → ∃ t, exec
    (.tilCfdataWrite (.hart h) n v) s = .next t ∧ turnedAway s t) ∧
  (∀ (s : State) (h : Nat) (n : Nat), n < s.nTiles → bitOf (s.get GLB_APPWE_WE) 6 = false → ∃ t, exec (.tilResync
    (.hart h) n) s = .next t ∧ turnedAway s t) ∧
  (∀ (s : State) (h : Nat) (n : Nat), n < s.nChans → bitOf (s.get GLB_APPWE_WE) 13 = false → ∃ t, exec (.vlvClrflt
    (.hart h) n) s = .next t ∧ turnedAway s t) ∧
  (∀ (s : State) (h : Nat) (n : Nat), n < s.nBanks → bitOf (s.get GLB_APPWE_WE) 14 = false → ∃ t, exec (.vbkClrflt
    (.hart h) n) s = .next t ∧ turnedAway s t) ∧
  (∀ (s : State) (h : Nat) (a : Nat) (v : Word), 0x6800 ≤ a → a < 0x7000 → bitOf (s.get GLB_APPWE_WE) 9 = false → ∃
    t, exec (.brdParamWrite (.hart h) a v) s = .next t ∧ turnedAway s t) ∧
  (∀ (s : State) (h : Nat) (a : Nat) (v : Word), 0x7800 ≤ a → a < 0x8000 → bitOf (s.get GLB_APPWE_WE) 12 = false → ∃
    t, exec (.ejsStagedWrite (.hart h) a v) s = .next t ∧ turnedAway s t) ∧
  (∀ (s : State) (h : Nat) (a : Nat) (v g : Word), 0xC000 ≤ a → a < 0xC800 → a % 4 = 0 → bitOf (s.get GLB_APPWE_WE)
    18 = false → ∃ t, exec (.registerWrite (.hart h) a .word v none g) s = .next t ∧ turnedAway s t) ∧
  (∀ (s : State) (r : Requester) (v : Word), (isCluster r = true ∨ r = .ssp) → ∃ t, exec (.appweWrite r v) s = .next
    t ∧ turnedAway s t)

/-- HARTEN, APPWE, mailbox SEND and POP, counter clears and pin pulses act as their rules say. (spec/13_processors_events.md R336, R339, R345, R349, R354, spec/00_scope.md R12, R15) -/
def Obligations.ClusterMailboxAndEventControls : Prop :=
  (∀ (s : State) (r : Requester) (n : Nat), s.protected r 0x28 = false → ∃ t, exec (.hartenWrite r n) s = .next t ∧
    t.get GLB_CORECTL_HARTEN = n % 16 ∧ t.get GLB_CORECTL_HARTON = (if s.mode = 0 then s.get GLB_CORECTL_HARTON else
    (s.get GLB_CORECTL_HARTON ||| n % 16) % 16) ∧ t =
    { s with regs := t.regs } ∧ regsBut [GLB_CORECTL_HARTEN, GLB_CORECTL_HARTON] s t) ∧
  (∀ (s : State) (h : Nat), h < 4 → bitOf (s.get GLB_CORECTL_HARTON) h = true → bitOf (s.get GLB_CORECTL_HARTEN) h =
    false → ∃ t, exec (.hartOffline h) s = .next t ∧ bitOf (t.get GLB_CORECTL_HARTON) h = false ∧ raisedIn
    Src.coreOffline s t ∧ t.tmx = { s.tmx with halted := s.tmx.halted.filter (· != h) } ∧ t =
    { s with regs := t.regs, evt := t.evt, mem := t.mem, tmx := t.tmx } ∧ regsButEvt [GLB_CORECTL_HARTON] s t) ∧
  (∀ (s : State) (h : Nat), (4 ≤ h ∨ bitOf (s.get GLB_CORECTL_HARTON) h = false ∨ bitOf (s.get GLB_CORECTL_HARTEN) h
    = true) → ∃ t, exec (.hartOffline h) s = .next t ∧ t = s) ∧
  (∀ (s : State) (v : Word), ∃ t, exec (.appweWrite .mgmt v) s = .next t ∧ t.get GLB_APPWE_WE = v.toNat % 2 ^ 23 ∧ t
    = { s with regs := t.regs } ∧ regsBut [GLB_APPWE_WE] s t) ∧
  (∀ (s : State) (h n : Nat), n < 4 → bitOf (s.get GLB_APPWE_WE) 22 = true → (s.mbxChan n).up.length < 8 → ∃ t, exec
    (.mbxSend (.hart h) n .up) s = .next t ∧ (t.mbxChan n).up = (s.mbxChan n).up ++ [(List.range 4).map fun i =>
    s.get (MBX_UPTX_WORD n i)] ∧ (t.mbxChan n).down = (s.mbxChan n).down ∧ t.get (MBX_UPCTL_COUNT n) = (s.mbxChan
    n).up.length + 1 ∧ t = { s with regs := t.regs, mbx := t.mbx, outs := t.outs } ∧ regsOutside [Blk.MBX]
    [GLB_STAT_PROTERR] s t) ∧
  (∀ (s : State) (h n : Nat), n < 4 → bitOf (s.get GLB_APPWE_WE) 22 = true → 8 ≤ (s.mbxChan n).up.length → ∃ t, exec
    (.mbxSend (.hart h) n .up) s = .next t ∧ t.get (MBX_UPCTL_OVF n) = 1 ∧ t =
    { s with regs := t.regs } ∧ regsBut [MBX_UPCTL_OVF n] s t) ∧
  (∀ (s : State) (n : Nat), n < 4 → (s.mbxChan n).down.length < 8 → ∃ t, exec (.mbxSend .mgmt n .down) s = .next t ∧
    (t.mbxChan n).down = (s.mbxChan n).down ++ [(List.range 4).map fun i => s.get (MBX_DNTX_WORD n i)] ∧ (t.mbxChan
    n).up = (s.mbxChan n).up ∧ t.outs = s.outs ++ (if s.get (MBX_DNCTL_IE n) = 1 then [Out.hartIrq n] else []) ∧ t =
    { s with regs := t.regs, mbx := t.mbx, outs := t.outs } ∧ regsOutside [Blk.MBX] [GLB_STAT_PROTERR] s t) ∧
  (∀ (s : State) (r : Requester) (n : Nat) (d : MbxDir), n < 4 → s.protected r (0xE000 + 0x80 * n) = false →
    mbxSender r d = false → ∃ t, exec (.mbxSend r n d) s = .next t ∧ turnedAway s t) ∧
  (∀ (s : State) (n : Nat), n < 4 → ((s.mbxChan n).up = [] ∨ s.serves (.mbx n) = false) → ∃ t, exec (.mbxPop .mgmt n
    .up) s = .next t ∧ (t.mbxChan n).up = (s.mbxChan n).up.drop 1 ∧ (t.mbxChan n).down = (s.mbxChan n).down ∧ t.get
    (MBX_UPCTL_COUNT n) = ((s.mbxChan n).up.drop 1).length % 2 ^ 4 ∧ (∀ d : Nat, d < 4 → d ≠ n → t.mbxChan d =
    s.mbxChan d) ∧ t = { s with regs := t.regs, mbx := t.mbx } ∧ regsOutside [Blk.MBX] [] s t) ∧
  (∀ (s : State) (n : Nat) (m : List Nat) (l : List (List Nat)), n < 4 → s.serves (.mbx n) = true → (s.mbxChan n).up
    = m :: l → isRequestMsg m = false → s.baind.mbxWait = [] → (s.mbxChan n).down.length < 8 → ∃ t, exec (.mbxPop
    .mgmt n .up) s = .next t ∧ (t.mbxChan n).up = l ∧ (t.mbxChan n).down = (s.mbxChan n).down ++ [[4, m.getD 0 0, 0,
    0]] ∧ (∀ d : Nat, d < 4 → d ≠ n → t.mbxChan d = s.mbxChan d)) ∧
  (∀ (s : State) (h n : Nat), n < 4 → bitOf (s.get GLB_APPWE_WE) 22 = true → s.baind.mbxWait = [] → ∃ t, exec
    (.mbxPop (.hart h) n .down) s = .next t ∧ (t.mbxChan n).down = (s.mbxChan n).down.drop 1 ∧ (t.mbxChan n).up =
    (s.mbxChan n).up ∧ (∀ d : Nat, d < 4 → d ≠ n → t.mbxChan d = s.mbxChan d) ∧ t =
    { s with regs := t.regs, mbx := t.mbx } ∧ regsOutside [Blk.MBX] [] s t) ∧
  (∀ (s : State) (r : Requester) (n : Nat) (d : MbxDir), n < 4 → s.protected r (0xE000 + 0x80 * n) = false →
    mbxReceiver r d = false → ∃ t, exec (.mbxPop r n d) s = .next t ∧ turnedAway s t) ∧
  (∀ (s : State) (r : Requester), s.protected r 0x400 = false → ∃ t, exec (.evtCntclr r) s = .next t ∧ (∀ i : Nat, i
    < 192 → t.get (EVT_CNT_CNT0 i) = 0 ∧ t.get (EVT_CNT_CNT1 i) = 0 ∧ t.get (EVT_CNT_CNT2 i) = 0 ∧ t.get
    (EVT_CNT_CNT3 i) = 0) ∧ (∀ g : Nat, g < 24 → t.get (EVT_STAT_STAT g) = s.get (EVT_STAT_STAT g)) ∧ t =
    { s with regs := t.regs } ∧ regsOutside [Blk.GLB, Blk.EVT] [] s t) ∧
  (∀ (s : State) (r : Requester) (l : List Nat), s.protected r 0x400 = false → ∃ t, exec (.evtClrall r l) s = .next
    t ∧ (∀ g : Nat, g < 24 → ∀ b : Nat, b < 32 → bitOf (t.get (EVT_STAT_STAT g)) b = (bitOf (s.get (EVT_STAT_STAT
    g)) b && l.contains (32 * g + b))) ∧ (∀ i : Nat, i < 192 → t.get (EVT_CNT_CNT0 i) = s.get (EVT_CNT_CNT0 i)) ∧ t
    = { s with regs := t.regs } ∧ regsOutside [Blk.GLB, Blk.EVT] [] s t) ∧
  (∀ (s : State) (r : Requester) (n : Nat), n < 128 → s.protected r (0x8020 + 0x40 * n) = false → ∃ t, exec
    (.counterClear r (0x8020 + 0x40 * n)) s = .next t ∧ t.get (VLV_FIRECNT_COUNT n) = 0 ∧ t =
    { s with regs := t.regs } ∧ regsBut [VLV_FIRECNT_COUNT n] s t) ∧
  (∀ (s : State) (r : Requester), s.protected r 0xB01C = false → ∃ t, exec (.counterClear r 0xB01C) s = .next t ∧
    t.get MEM_TESTABORTS_COUNT = 0 ∧ t = { s with regs := t.regs } ∧ regsBut [MEM_TESTABORTS_COUNT] s t) ∧
  (∀ (s : State) (r : Requester) (a : Nat), hasClr a = false → ∃ t, exec (.counterClear r a) s = .next t ∧ t = s) ∧
  (∀ (s : State) (i : Nat), i < 4 → (s.pin i).phase = .pulse → ∃ t, exec (.evtPinPulseEnd i) s = .next t ∧ t.time =
    max s.time ((s.pin i).since + 1000) ∧ t.pin i =
    { s.pin i with phase := .gap, since := t.time } ∧ (∀ j : Nat, j < 4 → j ≠ i → t.pin j = s.pin j) ∧ t =
    { s with time := t.time, evt := t.evt }) ∧
  (∀ (s : State) (i : Nat), i < 4 → (s.pin i).phase = .gap → ∃ t, exec (.evtPinPulseEnd i) s = .next t ∧ t.time =
    max s.time ((s.pin i).since + 1000) ∧ t.pin i = (if (s.pin i).again = true then ⟨.pulse, false, t.time⟩ else
    PinState.idleP) ∧ (∀ j : Nat, j < 4 → j ≠ i → t.pin j = s.pin j) ∧ t =
    { s with time := t.time, evt := t.evt }) ∧
  (∀ (s : State) (i : Nat), (4 ≤ i ∨ (s.pin i).phase = .idle) → ∃ t, exec (.evtPinPulseEnd i) s = .next t ∧ t = s)

/-- Register, state and information requests of a direct source have their effect, and their reply goes out once. (spec/14_baind_commands.md R359, R361, R362, R366, R367, R369, spec/17_startup_reset_update.md R427, R431, R432, spec/13_processors_events.md R358) -/
def Obligations.BaindRegisterAndStateRequestsAreExecutedAndAnswered : Prop :=
  (∀ (s : State) (h : Hdr) (k : Option (List Nat)) (a n : Nat), admits h 0x0101 (leBytes 2 a ++ leBytes 2 n) k s → 1
    ≤ n → n ≤ 320 → a + n ≤ 0x4000 → ∃ t, exec (.regRead h a n) s = .next t ∧ executed h 0x0101 k 0 (leWords
    (s.readSeq .mgmt (4 * a) n).2) s t ∧ t = { s with regs := t.regs, evt := t.evt, mem := t.mem, baind := t.baind,
                                                      ssp := t.ssp, outs := t.outs, wins := t.wins, free := t.free }
    ∧ regsOutside [Blk.EVT, Blk.TIL, Blk.MEM] ([GLB_TBL_STAT_RANGE, CAL_REFSEL_LANE, TMX_TPSEL_INDEX] ++ replyFlds)
    s t) ∧
  (∀ (s : State) (h : Hdr) (k : Option (List Nat)) (g : Nat) (v : Word), admits h 0x0102 (leBytes 2 (0x120 + g) ++
    leBytes 2 1 ++ leWords [v.toNat]) k s → g < 24 → ∃ t, exec (.regWrite h (0x120 + g) [v]) s = .next t ∧ executed
    h 0x0102 k 0 [] s t ∧ t.get (EVT_EN_EN g) = v.toNat ∧ t =
    { s with regs := t.regs, evt := t.evt, mem := t.mem, baind := t.baind, ssp := t.ssp, outs := t.outs } ∧
    regsButEvt ([EVT_EN_EN g] ++ replyFlds) s t) ∧
  (∀ (s : State) (h : Hdr) (k : Option (List Nat)) (g : Nat) (m v : Word), admits h 0x0103 (leBytes 2 (0x120 + g) ++
    [0, 0] ++ leWords [m.toNat, v.toNat]) k s → g < 24 → s.get (EVT_EN_EN g) < 2 ^ 32 → (s.win .mgmt).latch = none →
    ∃ t, exec (.regModify h (0x120 + g) m v) s = .next t ∧ t.get (EVT_EN_EN g) = andNot (s.get (EVT_EN_EN g))
    m.toNat ||| (v.toNat &&& m.toNat) ∧ executed h 0x0103 k 0 (leWords [s.get (EVT_EN_EN g), t.get (EVT_EN_EN g)]) s
    t ∧ t = { s with regs := t.regs, evt := t.evt, mem := t.mem, baind := t.baind, ssp := t.ssp, outs := t.outs } ∧
    regsButEvt ([EVT_EN_EN g] ++ replyFlds) s t) ∧
  (∀ (s : State) (h : Hdr) (k : Option (List Nat)), admits h 0x0201 ([]) k s → s.mode = 2 → s.get MEM_RETSTAT_RET =
    0 → ∃ t, exec (.start h) s = .next t ∧ executed h 0x0201 k 0 [] s t ∧ t.mode = 3 ∧ t.get GLB_CTRL_RUN = 1 ∧ t =
    { s with regs := t.regs, evt := t.evt, mem := t.mem, baind := t.baind, ssp := t.ssp, outs := t.outs } ∧
    regsButEvt ([GLB_STAT_STATE, GLB_CTRL_RUN] ++ replyFlds) s t) ∧
  (∀ (s : State) (h : Hdr) (k : Option (List Nat)), admits h 0x0201 ([]) k s → s.mode = 2 → s.get MEM_RETSTAT_RET ≠
    0 → ∃ t, exec (.start h) s = .next t ∧ executed h 0x0201 k 0 [] s t ∧ t.mode = 2 ∧ t.mem.startWait = true ∧
    t.get MEM_RETCTL_PB = 0 ∧ t.get MEM_RETCTL_SP = 0 ∧ t =
    { s with regs := t.regs, evt := t.evt, mem := t.mem, baind := t.baind, ssp := t.ssp, outs := t.outs } ∧
    regsButEvt ([MEM_RETCTL_PB, MEM_RETCTL_UB, MEM_RETCTL_BB, MEM_RETCTL_KB, MEM_RETCTL_SP] ++ replyFlds) s t) ∧
  (∀ (s : State) (h : Hdr) (k : Option (List Nat)), admits h 0x0201 ([]) k s → s.mode ≠ 2 → ∃ t, exec (.start h) s =
    .next t ∧ executed h 0x0201 k 0x15 [] s t ∧ t.mode = s.mode ∧ t =
    { s with regs := t.regs, evt := t.evt, mem := t.mem, baind := t.baind, ssp := t.ssp, outs := t.outs } ∧
    regsButEvt ([ETH_BAINDERR_COUNT] ++ replyFlds) s t) ∧
  (∀ (s : State) (h : Hdr) (k : Option (List Nat)), admits h 0x0202 ([]) k s → s.mode = 3 → ∃ t, exec (.stop h) s =
    .next t ∧ executed h 0x0202 k 0 [] s t ∧ t.mode = 2 ∧ t.get GLB_CTRL_RUN = 0) ∧
  (∀ (s : State) (h : Hdr) (k : Option (List Nat)), admits h 0x0202 ([]) k s → s.mode ≠ 3 → ∃ t, exec (.stop h) s =
    .next t ∧ executed h 0x0202 k 0 [] s t ∧ t = { s with regs := t.regs, evt := t.evt, mem := t.mem, baind :=
                                                            t.baind, ssp := t.ssp, outs := t.outs } ∧ regsButEvt ([]
    ++ replyFlds) s t) ∧
  (∀ (s : State) (h : Hdr) (k : Option (List Nat)), admits h 0x0203 ([]) k s → s.mode ≠ 4 → ∃ t, exec (.safe h) s =
    .next t ∧ executed h 0x0203 k 0 [] s t ∧ t.mode = 4 ∧ bitOf (t.get GLB_SAFECAUSE_CAUSES) 0 = true ∧ valvesClosed
    t ∧ heatersOff t) ∧
  (∀ (s : State) (h : Hdr) (k : Option (List Nat)), admits h 0x0204 ([]) k s → s.mayRestart = true → ∃ t, exec
    (.restart h) s = .next t ∧ executed h 0x0204 k 0 [] s t ∧ t.mode = 1 ∧ t.get GLB_SAFECAUSE_CAUSES = 0) ∧
  (∀ (s : State) (h : Hdr) (k : Option (List Nat)), admits h 0x0204 ([]) k s → s.mayRestart = false → ∃ t, exec
    (.restart h) s = .next t ∧ executed h 0x0204 k 0x15 [] s t ∧ t.get THM_STAT_WRERR = 1 ∧ t =
    { s with regs := t.regs, evt := t.evt, mem := t.mem, baind := t.baind, ssp := t.ssp, outs := t.outs } ∧
    regsButEvt ([THM_STAT_WRERR, ETH_BAINDERR_COUNT] ++ replyFlds) s t) ∧
  (∀ (s : State) (h : Hdr) (k : Option (List Nat)), admits h 0x0205 ([0x5A, 0, 0, 0]) k s → ∃ t, exec (.reset h
    0x5A) s = .next t ∧ answered h 0x0205 k 0 [] s t ∧ t.power = ⟨.held, 5, s.time, false, s.power.vio33⟩) ∧
  (∀ (s : State) (h : Hdr) (k : Option (List Nat)) (n : Nat), admits h 0x0205 ([n % 256, 0, 0, 0]) k s → n % 256 ≠
    0x5A → ∃ t, exec (.reset h n) s = .next t ∧ answered h 0x0205 k 0x13 [] s t ∧ t.power = s.power ∧ t =
    { s with regs := t.regs, evt := t.evt, mem := t.mem, baind := t.baind, ssp := t.ssp, outs := t.outs } ∧
    regsButEvt ([ETH_BAINDERR_COUNT] ++ replyFlds) s t) ∧
  (∀ (s : State) (h : Hdr) (k : Option (List Nat)), admits h 0x0206 ([]) k s → ∃ t, exec (.status h) s = .next t ∧
    onlyReplied h 0x0206 k 0 (leWords ([0x0014, 0x1404, 0x1000, 0x6404, 0x2028, 0x000C].map fun a => s.regWord .mgmt
    a) ++ leBytes 8 (floor2 s.time)) s t) ∧
  (∀ (s : State) (h : Hdr) (k : Option (List Nat)), admits h 0x0207 ([]) k s → ∃ t, exec (.opQuery h) s = .next t ∧
    onlyReplied h 0x0207 k 0 s.opQueryPay s t) ∧
  (∀ (s : State) (h : Hdr) (k : Option (List Nat)), admits h 0x0208 ([]) k s → ∃ t, exec (.identify h) s = .next t ∧
    onlyReplied h 0x0208 k 0 s.identifyPay s t) ∧
  (∀ (s : State) (h : Hdr) (k : Option (List Nat)), admits h 0x0608 ([]) k s → ∃ t, exec (.updStatus h) s = .next t
    ∧ onlyReplied h 0x0608 k 0 (s.flash.slotA.status ++ s.flash.slotB.status) s t) ∧
  (∀ (s : State) (h : Hdr) (k : Option (List Nat)), admits h 0x0701 ([]) k s → ∃ t, exec (.logInfo h) s = .next t ∧
    onlyReplied h 0x0701 k 0 s.logInfoPay s t) ∧
  (∀ (s : State) (h : Hdr) (k : Option (List Nat)) (a n : Nat), admits h 0x0702 (leBytes 4 a ++ leBytes 2 n ++ [0,
    0]) k s → a < 2 ^ 32 → 1 ≤ n → n ≤ 40 → ∃ t, exec (.logRead h a n) s = .next t ∧ executed h 0x0702 k 0
    (s.logReadPay a n).2 s t ∧ (s.mem.errs = [] → t =
    { s with regs := t.regs, baind := t.baind, ssp := t.ssp, outs := t.outs } ∧ regsBut replyFlds s t) ∧ t =
    { s with regs := t.regs, free := t.free, power := t.power, evt := t.evt, mem := t.mem, wins := t.wins, mbx :=
               t.mbx, sensor := t.sensor, corr := t.corr, cal := t.cal, gref := t.gref, tmx := t.tmx, loops :=
               t.loops, live := t.live, braid := t.braid, knots := t.knots, sched := t.sched, valves := t.valves,
             chain := t.chain, baind := t.baind, ssp := t.ssp, net := t.net, flash := t.flash, tap := t.tap, house
               := t.house, fb := t.fb, outs := t.outs } ∧ regsOutside [Blk.GLB, Blk.EVT, Blk.PWR, Blk.THM, Blk.HKA,
    Blk.STG, Blk.TIL, Blk.COR, Blk.CAL, Blk.BRD, Blk.KNT, Blk.VRD, Blk.EJS, Blk.VLV, Blk.VBK, Blk.ARB, Blk.MEM,
    Blk.SSP, Blk.ETH, Blk.CHN, Blk.LOOP, Blk.TMX, Blk.MBX] [] s t) ∧
  (∀ (s : State) (h : Hdr) (k : Option (List Nat)), admits h 0x0801 ([]) k s → ∃ t, exec (.chnInfo h) s = .next t ∧
    onlyReplied h 0x0801 k 0 s.chnInfoPay s t) ∧
  (∀ (s : State) (h : Hdr), isDirect h.src = true → s.serves h.src = false → ∃ t, exec (.status h) s = .next t ∧ t =
    { s with baind := { s.baind with tag := 0 } })

/-- A long operation is accepted and listed as running, busy ones are answered BUSY, and its end completes it. (spec/14_baind_commands.md R366, R370, R371, R372, R373, R378, spec/17_startup_reset_update.md R447, R448, R449, R450) -/
def Obligations.LongOperationsAreAcceptedAndComplete : Prop :=
  (∀ (s : State) (h : Hdr) (k : Option (List Nat)), admits h 0x0301 ([]) k s → ∃ t, exec (.calRun h) s = .next t ∧
    accepted h 0x0301 k s t ∧ t = { s with regs := t.regs, evt := t.evt, mem := t.mem, baind := t.baind, ssp :=
                                             t.ssp, outs := t.outs, cal := t.cal, chain := t.chain } ∧ regsButEvt
    ([CAL_STATUS_PHASE, CAL_STATUS_COMPUTE, CAL_STATUS_PENDING, CHN_GRANTSTAT_HOLDER, CHN_GRANTSTAT_HELD,
    CHN_GRANTSTAT_QUEUE] ++ replyFlds) s t) ∧
  (∀ (s : State) (h : Hdr) (k : Option (List Nat)), admits h 0x0302 ([]) k s → s.calPhase = 0 → s.get LOOP_CTRL_BKEN
    = 1 → s.get STG_STAT_LOCK = 1 → ∃ t, exec (.calGref h) s = .next t ∧ accepted h 0x0302 k s t ∧ t.calPhase = 10 ∧
    t.get CAL_GREF_BUSY = 1 ∧ t = { s with regs := t.regs, evt := t.evt, mem := t.mem, baind := t.baind, ssp :=
                                             t.ssp, outs := t.outs, gref := t.gref } ∧ regsButEvt
    ([CAL_STATUS_PHASE, CAL_GREF_BUSY, LOOP_STAT_GREF] ++ replyFlds) s t) ∧
  (∀ (s : State) (h : Hdr) (k : Option (List Nat)), admits h 0x0302 ([]) k s → s.calPhase = 10 → ∃ t, exec (.calGref
    h) s = .next t ∧ executed h 0x0302 k 0x30 [] s t ∧ t =
    { s with regs := t.regs, evt := t.evt, mem := t.mem, baind := t.baind, ssp := t.ssp, outs := t.outs } ∧
    regsButEvt ([] ++ replyFlds) s t) ∧
  (∀ (s : State) (h : Hdr) (k : Option (List Nat)), admits h 0x0302 ([]) k s → s.calPhase ≠ 10 → (s.calPhase ≠ 0 ∨
    s.get LOOP_CTRL_BKEN ≠ 1 ∨ s.get STG_STAT_LOCK ≠ 1) → ∃ t, exec (.calGref h) s = .next t ∧ executed h 0x0302 k
    0x31 [] s t ∧ t.get CAL_STATUS_REFUSED = 1 ∧ t =
    { s with regs := t.regs, evt := t.evt, mem := t.mem, baind := t.baind, ssp := t.ssp, outs := t.outs } ∧
    regsButEvt ([CAL_STATUS_REFUSED] ++ replyFlds) s t) ∧
  (∀ (s : State) (h : Hdr) (k : Option (List Nat)) (n : Nat), admits h 0x0304 (leBytes 4 (BitVec.ofNat 32 (2 ^
    n)).toNat) k s → n < s.nTiles → s.mode ≠ 3 → (s.tileList.any fun m => s.get (TIL_CVSTAT_SCAL_BUSY m) == 1) =
    false → ∃ t, exec (.convScal h (BitVec.ofNat 32 (2 ^ n))) s = .next t ∧ accepted h 0x0304 k s t ∧ t.get
    (TIL_CVSTAT_SCAL_BUSY n) = 1 ∧ t = { s with regs := t.regs, evt := t.evt, mem := t.mem, baind := t.baind, ssp :=
                                                  t.ssp, outs := t.outs, sensor := t.sensor } ∧ regsOutside
    [Blk.EVT, Blk.TIL] ([MEM_TESTABORTS_COUNT, STG_STAT_CFGERR] ++ replyFlds) s t) ∧
  (∀ (s : State) (h : Hdr) (k : Option (List Nat)) (v : Word), admits h 0x0304 (leBytes 4 v.toNat) k s → v.toNat < 2
    ^ s.nTiles → s.mode = 3 → ∃ t, exec (.convScal h v) s = .next t ∧ executed h 0x0304 k 0x15 [] s t ∧ t =
    { s with regs := t.regs, evt := t.evt, mem := t.mem, baind := t.baind, ssp := t.ssp, outs := t.outs } ∧
    regsButEvt ([ETH_BAINDERR_COUNT] ++ replyFlds) s t) ∧
  (∀ (s : State) (h : Hdr) (k : Option (List Nat)), admits h 0x0305 ([]) k s → s.get HKA_STAT_SCALBUSY ≠ 1 → ∃ t,
    exec (.hkaScal h) s = .next t ∧ accepted h 0x0305 k s t ∧ t.get HKA_STAT_SCALBUSY = 1 ∧ t =
    { s with regs := t.regs, evt := t.evt, mem := t.mem, baind := t.baind, ssp := t.ssp, outs := t.outs } ∧
    regsButEvt ([HKA_STAT_SCALBUSY] ++ replyFlds) s t) ∧
  (∀ (s : State) (h : Hdr) (k : Option (List Nat)), admits h 0x0305 ([]) k s → s.get HKA_STAT_SCALBUSY = 1 → ∃ t,
    exec (.hkaScal h) s = .next t ∧ executed h 0x0305 k 0x30 [] s t ∧ t =
    { s with regs := t.regs, evt := t.evt, mem := t.mem, baind := t.baind, ssp := t.ssp, outs := t.outs } ∧
    regsButEvt ([] ++ replyFlds) s t) ∧
  (∀ (s : State) (h : Hdr) (k : Option (List Nat)), admits h 0x0403 ([]) k s → s.opRuns 0x0403 = false → s.opRuns
    0x0404 = false → ∃ t, exec (.saveTables h) s = .next t ∧ accepted h 0x0403 k s t ∧ t.get FLS_STAT_BUSY = 1 ∧
    t.flash.op = s.flash.op ++ journalSlot (1 - s.flash.pair) ∧ t.flash.saved = s.flash.saved ∧ t.flash.pair =
    s.flash.pair ∧ (t.flash.saving.isSome = true ↔ s.mayReadPixels = true ∨ s.flash.saving.isSome = true) ∧ t =
    { s with regs := t.regs, evt := t.evt, mem := t.mem, baind := t.baind, ssp := t.ssp, outs := t.outs, flash :=
               t.flash } ∧ regsButEvt ([FLS_STAT_BUSY, FLS_STAT_CONT] ++ replyFlds) s t) ∧
  (∀ (s : State) (h : Hdr) (k : Option (List Nat)), admits h 0x0403 ([]) k s → s.opRuns 0x0404 = true → ∃ t, exec
    (.saveTables h) s = .next t ∧ executed h 0x0403 k 0x30 [] s t ∧ t =
    { s with regs := t.regs, evt := t.evt, mem := t.mem, baind := t.baind, ssp := t.ssp, outs := t.outs } ∧
    regsButEvt ([] ++ replyFlds) s t) ∧
  (∀ (s : State), s.opRuns 0x0403 = true → waitsOk s → (s.flash.saving.isSome = true ∨ s.mayReadPixels = true) → ∃
    t, exec (.saveTablesDone) s = .next t ∧ finished 0x0403 s t ∧ t.flash.saved = some (s.flash.saving.getD
    s.savedNow) ∧ t.flash.saving = none ∧ t.flash.pair = 1 - s.flash.pair ∧ t.flash.op = (journalSlot (1 -
    s.flash.pair)).foldl (fun l p => l.erase p) s.flash.op ∧ t =
    { s with regs := t.regs, evt := t.evt, mem := t.mem, mbx := t.mbx, baind := t.baind, ssp := t.ssp, flash :=
               t.flash, fb := t.fb, outs := t.outs } ∧ regsOutside [Blk.EVT, Blk.MBX] (boxFlds ++
    [MEM_TESTABORTS_COUNT, FLS_STAT_BUSY]) s t) ∧
  (∀ (s : State), s.opRuns 0x0403 = true → s.flash.saving = none → s.mayReadPixels = false → ∃ t, exec
    (.saveTablesDone) s = .next t ∧ t = s) ∧
  (∀ (s : State), s.opRuns 0x0403 = false → s.flash.saving = none → ∃ t, exec (.saveTablesDone) s = .next t ∧ t = s) ∧
  (∀ (s : State) (h : Hdr) (k : Option (List Nat)), admits h 0x0404 ([]) k s → s.mode ≠ 3 → s.opRuns 0x0404 = false
    → ∃ t, exec (.restoreTables h) s = .next t ∧ accepted h 0x0404 k s t ∧ t =
    { s with regs := t.regs, evt := t.evt, mem := t.mem, baind := t.baind, ssp := t.ssp, outs := t.outs } ∧
    regsButEvt ([] ++ replyFlds) s t) ∧
  (∀ (s : State) (h : Hdr) (k : Option (List Nat)), admits h 0x0404 ([]) k s → s.mode = 3 → ∃ t, exec
    (.restoreTables h) s = .next t ∧ executed h 0x0404 k 0x15 [] s t ∧ t =
    { s with regs := t.regs, evt := t.evt, mem := t.mem, baind := t.baind, ssp := t.ssp, outs := t.outs } ∧
    regsButEvt ([ETH_BAINDERR_COUNT] ++ replyFlds) s t) ∧
  (∀ (s : State) (x : SavedSet), s.opRuns 0x0404 = true → waitsOk s → s.flash.saved = some x → ∃ t, exec
    (.restoreTablesDone) s = .next t ∧ finished 0x0404 s t ∧ t.sched.cls = x.cls ∧ t.sched.map = x.map ∧ t.house =
    { s.house with badTables := [] } ∧ t.flash = s.flash) ∧
  (∀ (s : State), s.opRuns 0x0404 = false → ∃ t, exec (.restoreTablesDone) s = .next t ∧ t = s) ∧
  (∀ (s : State) (h : Hdr) (k : Option (List Nat)) (n : Nat), admits h 0x0501 (leBytes 2 n ++ [0, 0]) k s → 1 ≤ n →
    n ≤ 256 → s.tap.grab = none → ∃ t, exec (.tapGrab h n) s = .next t ∧ accepted h 0x0501 k s t ∧ t.tap =
    { s.tap with grab := some (n, 0, 0, 0) } ∧ t.get ETH_TAPCTL_BUSY = 1 ∧ t =
    { s with regs := t.regs, evt := t.evt, mem := t.mem, baind := t.baind, ssp := t.ssp, outs := t.outs, tap :=
               t.tap } ∧ regsButEvt ([ETH_TAPSTAT_RECSIZE, ETH_TAPCTL_BUSY, ETH_TAPSTAT_HALT, MEM_DDRSTAT_SELFREF]
    ++ replyFlds) s t) ∧
  (∀ (s : State) (h : Hdr) (k : Option (List Nat)) (n : Nat), admits h 0x0501 (leBytes 2 n ++ [0, 0]) k s → 1 ≤ n →
    n ≤ 256 → s.tap.grab ≠ none → ∃ t, exec (.tapGrab h n) s = .next t ∧ executed h 0x0501 k 0x30 [] s t ∧ t =
    { s with regs := t.regs, evt := t.evt, mem := t.mem, baind := t.baind, ssp := t.ssp, outs := t.outs } ∧
    regsButEvt ([] ++ replyFlds) s t) ∧
  (∀ (s : State) (h : Hdr) (k : Option (List Nat)) (n : Nat), admits h 0x0604 (leBytes 4 n) k s → 256 ≤ n → n ≤
    8388608 → n % 256 = 0 → s.updBusy = false → ∃ t, exec (.updBegin h n) s = .next t ∧ accepted h 0x0604 k s t ∧
    t.flash.slot s.target = { Slot.empty with state := 1, size := n } ∧ t.get FLS_STAT_BUSY = 1 ∧ t =
    { s with regs := t.regs, evt := t.evt, mem := t.mem, baind := t.baind, ssp := t.ssp, outs := t.outs, flash :=
               t.flash } ∧ regsButEvt ([FLS_STAT_BUSY, FLS_STAT_CONT] ++ replyFlds) s t) ∧
  (∀ (s : State) (h : Hdr) (k : Option (List Nat)) (n : Nat), admits h 0x0604 (leBytes 4 n) k s → 256 ≤ n → n ≤
    8388608 → n % 256 = 0 → s.updBusy = true → ∃ t, exec (.updBegin h n) s = .next t ∧ executed h 0x0604 k 0x30 [] s
    t ∧ t = { s with regs := t.regs, evt := t.evt, mem := t.mem, baind := t.baind, ssp := t.ssp, outs := t.outs } ∧
    regsButEvt ([] ++ replyFlds) s t) ∧
  (∀ (s : State), s.opRuns 0x0604 = true → waitsOk s → ∃ t, exec (.updEraseDone) s = .next t ∧ finished 0x0604 s t ∧
    t.flash.slotA = s.flash.slotA ∧ t.flash.slotB = s.flash.slotB ∧ t =
    { s with regs := t.regs, evt := t.evt, mem := t.mem, mbx := t.mbx, baind := t.baind, ssp := t.ssp, flash :=
               t.flash, fb := t.fb, outs := t.outs } ∧ regsOutside [Blk.EVT, Blk.MBX] (boxFlds ++
    [MEM_TESTABORTS_COUNT, FLS_STAT_BUSY]) s t) ∧
  (∀ (s : State), s.opRuns 0x0604 = false → ∃ t, exec (.updEraseDone) s = .next t ∧ t = s) ∧
  (∀ (s : State) (h : Hdr) (k : Option (List Nat)), admits h 0x0606 ([]) k s → s.updBusy = false → ∃ t, exec
    (.updVerify h) s = .next t ∧ accepted h 0x0606 k s t ∧ t =
    { s with regs := t.regs, evt := t.evt, mem := t.mem, baind := t.baind, ssp := t.ssp, outs := t.outs } ∧
    regsButEvt ([] ++ replyFlds) s t) ∧
  (∀ (s : State), s.opRuns 0x0606 = true → waitsOk s → ∃ t, exec (.updVerifyDone) s = .next t ∧ finished 0x0606 s t
    ∧ (t.flash.slot s.target).state = (if s.fuses.imageOk (s.flash.slot s.target).image (s.flash.slot s.target).size
    (s.get GLB_IDENT_PART) = true then 3 else 0) ∧ (t.flash.slot s.target).valid = s.fuses.imageOk (s.flash.slot
    s.target).image (s.flash.slot s.target).size (s.get GLB_IDENT_PART) ∧ ((t.flash.slot s.target).valid = false →
    raisedIn Src.imgFail s t) ∧ t = { s with regs := t.regs, free := t.free, evt := t.evt, mem := t.mem, mbx :=
                                               t.mbx, baind := t.baind, ssp := t.ssp, flash := t.flash, fb := t.fb,
                                             outs := t.outs } ∧ regsOutside [Blk.EVT, Blk.MBX] (boxFlds ++
    [MEM_TESTABORTS_COUNT]) s t) ∧
  (∀ (s : State), s.opRuns 0x0606 = false → ∃ t, exec (.updVerifyDone) s = .next t ∧ t = s) ∧
  (∀ (s : State) (h : Hdr) (k : Option (List Nat)) (p q : Nat), admits h 0x7F00 (leBytes 2 p ++ leBytes 2 q) k s → p
    < 65536 → q < 65536 → (s.baind.ops.any fun o => o.status == 1 && o.opcode == p && o.seq == q) = false → ∃ t,
    exec (.abort h p q) s = .next t ∧ executed h 0x7F00 k 0x42 [] s t ∧ t =
    { s with regs := t.regs, evt := t.evt, mem := t.mem, baind := t.baind, ssp := t.ssp, outs := t.outs } ∧
    regsButEvt ([] ++ replyFlds) s t) ∧
  (∀ (s : State) (h : Hdr) (k : Option (List Nat)) (q : Nat), admits h 0x7F00 (leBytes 2 0x0404 ++ leBytes 2 q) k s
    → q < 65536 → (s.baind.ops.any fun o => o.status == 1 && o.opcode == 0x0404 && o.seq == q) = true → waitsOk s →
    ∃ t, exec (.abort h 0x0404 q) s = .next t ∧ executed h 0x7F00 k 0 [] s t ∧ finished 0x0404 s t)

/-- Table, tap, session, key, update and chain requests have their effect; sessions, kept replies and forwards expire. (spec/14_baind_commands.md R361, R364, R365, R366, R368, R374, R375, R376, R378, spec/17_startup_reset_update.md R445, spec/16_chain.md R413, log entry 2) -/
def Obligations.TableSessionAndUpdateRequestsAndWhatExpires : Prop :=
  (∀ (s : State) (h : Hdr) (k : Option (List Nat)), admits h 0x0303 ([]) k s → s.mode = 3 → ∃ t, exec (.calGapply h)
    s = .next t ∧ executed h 0x0303 k 0x15 [] s t ∧ t =
    { s with regs := t.regs, evt := t.evt, mem := t.mem, baind := t.baind, ssp := t.ssp, outs := t.outs } ∧
    regsButEvt ([ETH_BAINDERR_COUNT] ++ replyFlds) s t) ∧
  (∀ (s : State) (h : Hdr) (k : Option (List Nat)), admits h 0x0303 ([]) k s → s.mode ≠ 3 → s.get CAL_GREF_PENDAPPLY
    = 1 → s.pbBusy = false → ∃ t, exec (.calGapply h) s = .next t ∧ executed h 0x0303 k 0 [] s t ∧ t.get
    CAL_GREF_PENDAPPLY = 0 ∧ t.gref.held = [] ∧ t =
    { s with regs := t.regs, evt := t.evt, mem := t.mem, baind := t.baind, ssp := t.ssp, outs := t.outs, corr :=
               t.corr, cal := t.cal, gref := t.gref, chain := t.chain } ∧ regsButEvt ([CAL_STATUS_PHASE,
    CAL_STATUS_COMPUTE, CAL_STATUS_PENDING, CAL_GREF_PENDAPPLY, CHN_GRANTSTAT_HOLDER, CHN_GRANTSTAT_HELD,
    CHN_GRANTSTAT_QUEUE] ++ replyFlds) s t) ∧
  (∀ (s : State) (h : Hdr) (k : Option (List Nat)) (a : Nat) (v : Word), admits h 0x0401 (tablePay 8 a 1 ++ leWords
    [v.toNat]) k s → a < s.nLanes → s.get EJS_CTRL_MAPPEND ≠ 1 → s.get EJS_CTRL_MAPACT ≤ 1 → ∃ t, exec (.loadTable h
    8 a [v]) s = .next t ∧ executed h 0x0401 k 0 [1, 0, 0, 0] s t ∧ t.mapWord (1 - s.get EJS_CTRL_MAPACT) a =
    v.toNat % 65536 ∧ t.house = { s.house with badTables := s.house.badTables.filter (· != 8) } ∧ t =
    { s with regs := t.regs, evt := t.evt, mem := t.mem, baind := t.baind, ssp := t.ssp, outs := t.outs, wins :=
               t.wins, sched := t.sched, house := t.house } ∧ regsButEvt ([] ++ replyFlds) s t) ∧
  (∀ (s : State) (h : Hdr) (k : Option (List Nat)) (a : Nat) (v : Word), admits h 0x0401 (tablePay 8 a 1 ++ leWords
    [v.toNat]) k s → a < s.nLanes → s.get EJS_CTRL_MAPPEND = 1 → ∃ t, exec (.loadTable h 8 a [v]) s = .next t ∧
    executed h 0x0401 k 0x31 [0, 0, 0, 0] s t ∧ t.get EJS_STAT_WRERR = 1 ∧ t.get GLB_TBL_STAT_REFUSED = 1 ∧ t =
    { s with regs := t.regs, evt := t.evt, mem := t.mem, baind := t.baind, ssp := t.ssp, outs := t.outs, wins :=
               t.wins } ∧ regsButEvt ([EJS_STAT_WRERR, GLB_TBL_STAT_REFUSED] ++ replyFlds) s t) ∧
  (∀ (s : State) (h : Hdr) (k : Option (List Nat)) (i a n : Nat), admits h 0x0402 (tablePay i a n) k s → i < 256 → 1
    ≤ n → n ≤ 320 → a + n ≤ tableSize i → ∃ t, exec (.readTable h i a n) s = .next t ∧ executed h 0x0402 k 0
    (leWords ((s.fwWindow i a).readWordsFw n).2) s t ∧ t =
    { s with regs := t.regs, evt := t.evt, mem := t.mem, baind := t.baind, ssp := t.ssp, outs := t.outs, wins :=
               t.wins, free := t.free } ∧ regsOutside [Blk.EVT, Blk.MEM] ([GLB_TBL_STAT_RANGE] ++ replyFlds) s t) ∧
  (∀ (s : State) (h : Hdr) (k : Option (List Nat)) (i o n : Nat) (x : Nat × TapRec), admits h 0x0502 (leBytes 4 i ++
    leBytes 4 o ++ leBytes 2 n ++ [0, 0]) k s → i < 2 ^ 32 → o < 2 ^ 32 → (s.tap.ring.find? fun y => y.1 == i) =
    some x → 4 ≤ n → n ≤ 1280 → n % 4 = 0 → o + n ≤ 64 + x.2.units * x.2.unit → ∃ t, exec (.tapRead h i o n) s =
    .next t ∧ executed h 0x0502 k 0 (s.tapBytes x o n).2 s t ∧ (s.mem.errs = [] → onlyReplied h 0x0502 k 0
    (x.2.bytesAt o n) s t) ∧ t = { s with regs := t.regs, free := t.free, power := t.power, evt := t.evt, mem :=
                                            t.mem, wins := t.wins, mbx := t.mbx, sensor := t.sensor, corr := t.corr,
                                          cal := t.cal, gref := t.gref, tmx := t.tmx, loops := t.loops, live :=
                                            t.live, braid := t.braid, knots := t.knots, sched := t.sched, valves :=
                                            t.valves, chain := t.chain, baind := t.baind, ssp := t.ssp, net :=
                                            t.net, flash := t.flash, tap := t.tap, house := t.house, fb := t.fb,
                                          outs := t.outs } ∧ regsOutside [Blk.GLB, Blk.EVT, Blk.PWR, Blk.THM,
    Blk.HKA, Blk.STG, Blk.TIL, Blk.COR, Blk.CAL, Blk.BRD, Blk.KNT, Blk.VRD, Blk.EJS, Blk.VLV, Blk.VBK, Blk.ARB,
    Blk.MEM, Blk.SSP, Blk.ETH, Blk.CHN, Blk.LOOP, Blk.TMX, Blk.MBX] [] s t) ∧
  (∀ (s : State) (h : Hdr) (k : Option (List Nat)) (n : List Byte), admits h 0x0601 (ofBytes n) k s → n.length = 16
    → s.flash.devkey ≠ [] → ∃ t, exec (.sessionOpen h n) s = .next t ∧ executed h 0x0601 k 0 (s.drawBytes 16).2 s t
    ∧ t.session h.src = some ⟨hmac256 s.flash.devkey (asciiBaind1 ++ ofBytes n ++ (s.drawBytes 16).2), none, s.time⟩
    ∧ t.free = s.free + 16 ∧ t = { s with regs := t.regs, free := t.free, baind := t.baind, ssp := t.ssp, outs :=
                                            t.outs } ∧ regsBut (ETH_STAT_SESSIONS :: replyFlds) s t) ∧
  (∀ (s : State) (h : Hdr) (k : Option (List Nat)) (n : List Byte), admits h 0x0601 (ofBytes n) k s → n.length = 16
    → s.flash.devkey = [] → ∃ t, exec (.sessionOpen h n) s = .next t ∧ executed h 0x0601 k 0x21 [] s t ∧ t =
    { s with regs := t.regs, evt := t.evt, mem := t.mem, baind := t.baind, ssp := t.ssp, outs := t.outs } ∧
    regsButEvt ([ETH_AUTHFAIL_COUNT] ++ replyFlds) s t) ∧
  (∀ (s : State) (h : Hdr) (k : Option (List Nat)), admits h 0x0602 ([]) k s → ∃ t, exec (.sessionClose h) s = .next
    t ∧ executed h 0x0602 k 0 [] s t ∧ t.session h.src = none ∧ t.get ETH_STAT_SESSIONS = t.baind.sessions.length %
    2 ^ 4 ∧ t = { s with regs := t.regs, evt := t.evt, mem := t.mem, baind := t.baind, ssp := t.ssp, outs := t.outs
                           } ∧ regsButEvt ([ETH_STAT_SESSIONS] ++ replyFlds) s t) ∧
  (∀ (s : State) (h : Hdr) (k : Option (List Nat)) (n : List Byte), admits h 0x0603 (ofBytes n) k s → n.length = 32
    → s.flash.devkey = [] → ∃ t, exec (.setDevkey h n) s = .next t ∧ executed h 0x0603 k 0 [] s t ∧ t.flash =
    { s.flash with devkey := ofBytes n } ∧ t.get ETH_STAT_KEYSET = 1 ∧ t.baind.sessions = [] ∧ t =
    { s with regs := t.regs, evt := t.evt, mem := t.mem, baind := t.baind, ssp := t.ssp, outs := t.outs, flash :=
               t.flash } ∧ regsButEvt ([ETH_STAT_SESSIONS, ETH_STAT_KEYSET] ++ replyFlds) s t) ∧
  (∀ (s : State) (h : Hdr) (k : Option (List Nat)) (n : List Byte), admits h 0x0603 (ofBytes n) k s → n.length = 32
    → s.flash.devkey ≠ [] → h.src ≠ .ssp → k = none → ∃ t, exec (.setDevkey h n) s = .next t ∧ executed h 0x0603 k
    0x20 [] s t ∧ t.flash = s.flash ∧ t = { s with regs := t.regs, evt := t.evt, mem := t.mem, baind := t.baind, ssp
                                                     := t.ssp, outs := t.outs } ∧ regsButEvt ([ETH_AUTHFAIL_COUNT]
    ++ replyFlds) s t) ∧
  (∀ (s : State) (h : Hdr) (k : Option (List Nat)) (o : Nat) (d : List Byte), admits h 0x0605 (leBytes 4 o ++
    ofBytes d) k s → o < 2 ^ 32 → o % 4 = 0 → 4 ≤ d.length → d.length ≤ 1280 → s.updBusy = false → (s.flash.slot
    s.target).mayProgram o d.length = true → ∃ t, exec (.updData h o d) s = .next t ∧ executed h 0x0605 k 0 [] s t ∧
    t.flash.slot s.target = (s.flash.slot s.target).program o (ofBytes d) ∧ (∀ i : Nat, i < d.length → mget 0xFF
    (t.flash.slot s.target).bytes (o + i) = (ofBytes d).getD i 0) ∧ t =
    { s with regs := t.regs, evt := t.evt, mem := t.mem, baind := t.baind, ssp := t.ssp, outs := t.outs, flash :=
               t.flash } ∧ regsButEvt ([] ++ replyFlds) s t) ∧
  (∀ (s : State) (h : Hdr) (k : Option (List Nat)) (o : Nat) (d : List Byte), admits h 0x0605 (leBytes 4 o ++
    ofBytes d) k s → o < 2 ^ 32 → o % 4 = 0 → 4 ≤ d.length → d.length ≤ 1280 → s.updBusy = false → (s.flash.slot
    s.target).mayProgram o d.length = false → ∃ t, exec (.updData h o d) s = .next t ∧ executed h 0x0605 k 0x13 [] s
    t ∧ t.flash = s.flash ∧ t = { s with regs := t.regs, evt := t.evt, mem := t.mem, baind := t.baind, ssp := t.ssp,
                                         outs := t.outs } ∧ regsButEvt ([ETH_BAINDERR_COUNT] ++ replyFlds) s t) ∧
  (∀ (s : State) (h : Hdr) (k : Option (List Nat)) (n : Nat), admits h 0x0607 ([n % 256, 0, 0, 0]) k s → n ≤ 1 →
    s.mode ≠ 3 → s.updBusy = false → ∃ t, exec (.updActivate h n) s = .next t ∧ answered h 0x0607 k 0 [] s t ∧
    t.power = ⟨.held, 8, s.time, false, s.power.vio33⟩ ∧ t.flash.active = n ∧ t.flash.trial = true ∧ t.flash.tries =
    0 ∧ t.flash.prev = s.flash.booted) ∧
  (∀ (s : State) (h : Hdr) (k : Option (List Nat)), admits h 0x0802 ([]) k s → s.get CHN_STAT_STATE = 1 →
    s.chain.handover = none → ∃ t, exec (.chnMaster h) s = .next t ∧ executed h 0x0802 k 0 [] s t ∧ t.chain =
    { s.chain with handover := some ((s.frameCnt + 2) % 2 ^ 32, s.chainIndex) } ∧ t =
    { s with regs := t.regs, evt := t.evt, mem := t.mem, baind := t.baind, ssp := t.ssp, outs := t.outs, chain :=
               t.chain } ∧ regsButEvt ([] ++ replyFlds) s t) ∧
  (∀ (s : State) (h : Hdr) (k : Option (List Nat)), admits h 0x0802 ([]) k s → (s.get CHN_STAT_STATE ≠ 1 ∨
    s.chain.handover ≠ none) → ∃ t, exec (.chnMaster h) s = .next t ∧ executed h 0x0802 k 0x15 [] s t ∧ t =
    { s with regs := t.regs, evt := t.evt, mem := t.mem, baind := t.baind, ssp := t.ssp, outs := t.outs } ∧
    regsButEvt ([ETH_BAINDERR_COUNT] ++ replyFlds) s t) ∧
  (∀ (s : State) (r : Source) (x : Session), s.session r = some x → ∃ t, exec (.sessionIdleExpiry r) s = .next t ∧
    t.time = max s.time (x.last + s.idleLimit) ∧ t.baind.sessions = s.baind.sessions.filter (fun y => decide (t.time
    < y.2.last + s.idleLimit)) ∧ t.session r = none ∧ t =
    { s with time := t.time, regs := t.regs, baind := t.baind } ∧ regsOutside [] [ETH_STAT_SESSIONS] s t) ∧
  (∀ (s : State) (r : Source), s.session r = none → ∃ t, exec (.sessionIdleExpiry r) s = .next t ∧ t = s) ∧
  (∀ (s : State) (r : Source) (x : CachedReply), (s.baind.cache.find? fun y => y.src == r) = some x → ∃ t, exec
    (.replyCacheExpiry r) s = .next t ∧ t.time = max s.time (x.sent + 5000000000) ∧ t.baind =
    { s.baind with cache := s.baind.cache.filter (fun y => decide (t.time < y.sent + 5000000000)) } ∧ x ∉
    t.baind.cache ∧ t = { s with time := t.time, baind := t.baind }) ∧
  (∀ (s : State) (r : Source), (s.baind.cache.find? fun y => y.src == r) = none → ∃ t, exec (.replyCacheExpiry r) s
    = .next t ∧ t = s) ∧
  (∀ (s : State) (r : Source) (n : Nat) (f : Forwarded), (s.baind.fwd.find? fun f => f.src == r && f.seq == n &&
    f.waits != []) = some f → isDirect r = true → ∃ t, exec (.forwardTimeout r n) s = .next t ∧ t.time = max s.time
    (f.sent + 10000000) ∧ f ∉ t.baind.fwd ∧ t.outs = s.outs ++ f.waits.map (fun i => Out.baind r (toBytes
    ({ s with time := t.time }.replyBytes f.opcode f.seq i 0 0x50 [] f.key))) ∧ t =
    { s with time := t.time, regs := t.regs, mem := t.mem, mbx := t.mbx, baind := t.baind, ssp := t.ssp, fb := t.fb,
             outs := t.outs } ∧ regsOutside [Blk.MBX] (boxFlds ++ [MEM_TESTABORTS_COUNT]) s t) ∧
  (∀ (s : State) (r : Source) (n : Nat), (s.baind.fwd.find? fun f => f.src == r && f.seq == n && f.waits != []) =
    none → ∃ t, exec (.forwardTimeout r n) s = .next t ∧ t = s) ∧
  (∀ (s : State) (h : Hdr) (op : Nat) (p : List Byte), s.isOn = true → s.inChain = true → h.target ≠ 255 → h.target
    ≠ s.get GLB_STAT_CHIDX → ∃ t, exec (.baindForward true false h op p) s = .next t ∧ t =
    { s with outs := s.outs ++ [Out.chain (s.portTo h.target) (.baind false h.target (toBytes (reqOf h op (ofBytes
               p)).bytes))] }) ∧
  (∀ (s : State) (h : Hdr) (op : Nat) (p : List Byte), 1 < s.chain.size → ∃ t, exec (.baindForward false false h op
    p) s = .next t ∧ t.get CHN_LINKERRCNT_COUNT = satAdd 31 (s.get CHN_LINKERRCNT_COUNT) 1 % 2 ^ 31 ∧ t =
    { s with regs := t.regs } ∧ regsBut [CHN_LINKERRCNT_COUNT] s t) ∧
  (∀ (s : State) (b : Bool) (h : Hdr) (op : Nat) (p : List Byte), (s.isOn = false ∨ s.inChain = false) → ∃ t, exec
    (.baindForward true b h op p) s = .next t ∧ t = s) ∧
  (∀ (s : State) (h : Hdr), isDirect h.src = true → s.serves h.src = true → s.flash.recovery = false →
    (h.trailer.any fun x => x.length != 32) = true → ∃ t, exec (.status h) s = .next t ∧ t.get ETH_BAINDERR_COUNT =
    satAdd 31 (s.get ETH_BAINDERR_COUNT) 1 % 2 ^ 31 ∧ raisedIn Src.baindErr s t ∧ t.outs = s.outs ∧ t =
    { s with regs := t.regs, evt := t.evt, mem := t.mem, baind := t.baind } ∧ regsButEvt [ETH_BAINDERR_COUNT] s t) ∧
  (∀ (s : State) (h : Hdr), isDirect h.src = true → s.serves h.src = true → s.baind.cache = [] → s.baind.sessions =
    [] → h.trailer = none → h.version % 256 ≠ 1 → ∃ t, exec (.status h) s = .next t ∧ answered h 0x0206 none 0x10 []
    s t ∧ t.get ETH_BAINDERR_COUNT = satAdd 31 (s.get ETH_BAINDERR_COUNT) 1 % 2 ^ 31 ∧ t.get ETH_BAINDCNT_COUNT =
    s.get ETH_BAINDCNT_COUNT)

/-- Values wider than 32 bits and table records are read whole by each requester; GLB_TBL_DATA moves its window on. (spec/12_memories.md R315, R321, R322, spec/13_processors_events.md R337, R340, R341, R343, R344, R347, R353, log entry 94, log entry 95) -/
def Obligations.ReadsLatchPairsAndTableRecordsPerRequester : Prop :=
  (∀ (s : State) (r : Requester) (a : Nat), isLow a = true → ∃ t, exec (.loWordRead r a false none) s = .next t ∧
    t.outs = s.outs ++ [Out.word r (s.regWord r a)] ∧ t.win r =
    { s.win r with latch := some (a + 4, s.regWord r (a + 4)) } ∧ otherWins r s t ∧ t =
    { s with wins := t.wins, outs := t.outs }) ∧
  (∀ (s : State) (r : Requester) (a v : Nat), a < 0x10000 → a % 4 = 0 → a ≠ 0x38 → isLow a = false → (s.win r).latch
    = some (a, v) → ∃ t, exec (.loWordRead r a false none) s = .next t ∧ t.outs = s.outs ++ [Out.word r v] ∧ t.win r
    = { s.win r with latch := none } ∧ otherWins r s t ∧ t =
    { s with wins := t.wins, outs := t.outs }) ∧
  (∀ (s : State) (r : Requester) (a : Nat), a < 0x10000 → a % 4 = 0 → a ≠ 0x38 → isLow a = false → (s.win
    r).latch.map (·.1) ≠ some a → ∃ t, exec (.loWordRead r a false none) s = .next t ∧ t =
    { s.readEffect a with outs := s.outs ++ [Out.word r (s.regWord r a)] } ∧ t.wins = s.wins) ∧
  (∀ (s : State) (r : Requester), s.get CAL_REFSEL_AUTOINC = 1 → (s.win r).latch = none → ∃ t, exec (.loWordRead r
    0x646C false none) s = .next t ∧ t.get CAL_REFSEL_LANE = (s.get CAL_REFSEL_LANE + 1) % 2 ^ 11 ∧ t.outs = s.outs
    ++ [Out.word r (if s.get CAL_REFSEL_LANE < s.nLanes then s.refOf (s.get CAL_REFSEL_LANE) else 0)] ∧ t =
    { s with regs := t.regs, outs := t.outs } ∧ regsBut [CAL_REFSEL_LANE] s t) ∧
  (∀ (s : State) (r : Requester) (a : Nat), s.place r a = .nowhere → ∃ t, exec (.loWordRead r a false none) s =
    .next t ∧ t.outs = s.outs ++ [if r = .ssp then Out.word r 0 else if r = .dma then Out.dmaError else Out.busError
    r] ∧ t = { s with outs := t.outs }) ∧
  (∀ (s : State) (r : Requester) (a : Nat), isLow a = true → a % 8 = 0 → ∃ t, exec (.loWordRead r a true none) s =
    .next t ∧ t.outs = s.outs ++ [Out.word r (s.regWord r a), Out.word r (s.regWord r (a + 4))] ∧ t.win r =
    { s.win r with latch := none } ∧ otherWins r s t ∧ t =
    { s with wins := t.wins, outs := t.outs }) ∧
  (∀ (s : State) (h : Nat), ∃ t, exec (.loWordRead (.hart h) 0x0200BFF8 true none) s = .next t ∧ t.outs = s.outs ++
    [Out.word (.hart h) (s.time / 2 % 2 ^ 32), Out.word (.hart h) (s.time / 2 / 2 ^ 32 % 2 ^ 32)] ∧ t =
    { s with outs := t.outs }) ∧
  (∀ (s : State) (h : Nat) (v g : Word), ∃ t, exec (.registerWrite (.hart h) 0x0200BFF8 .word v none g) s = .next t
    ∧ t = s) ∧
  (∀ (s : State) (h k : Nat) (v w g : Word), k < 4 → ∃ t, exec (.registerWrite (.hart h) (0x02004000 + 8 * k)
    (.double w) v none g) s = .next t ∧ t.mtimecmp k = v.toNat + 2 ^ 32 * w.toNat ∧ (∀ j : Nat, j < 4 → j ≠ k →
    t.mtimecmp j = s.mtimecmp j) ∧ t.timerIrq k = decide (v.toNat + 2 ^ 32 * w.toNat ≤ s.time / 2 % 2 ^ 64) ∧ t =
    { s with bus := t.bus }) ∧
  (∀ (s : State) (h k : Nat) (v w g : Word), k < 16384 → s.mem.errs = [] → ∃ t, exec (.registerWrite (.hart h)
    (0x10000000 + 8 * k) (.double w) v none g) s = .next t ∧ t.wordAt 51 (8 * k) = v.toNat ∧ t.wordAt 51 (8 * k + 4)
    = w.toNat ∧ (∀ o : Nat, o < 8 * k ∨ 8 * k + 8 ≤ o → o < 131072 → t.byteAt 51 o = s.byteAt 51 o) ∧ t =
    { s with regs := t.regs, mem := t.mem, bus := { s.bus with ram := t.bus.ram } } ∧ regsBut [MEM_TESTABORTS_COUNT]
    s t) ∧
  (∀ (s : State) (h i : Nat) (v g : Word), 1 ≤ i → i ≤ 32 → ∃ t, exec (.registerWrite (.hart h) (0x0C000000 + 4 * i)
    .word v none g) s = .next t ∧ t.plicPrio i = v.toNat % 8 ∧ (∀ j : Nat, j ≤ 32 → j ≠ i → t.plicPrio j =
    s.plicPrio j) ∧ t = { s with bus := t.bus }) ∧
  (∀ (s : State) (r : Requester), tableSize (s.win r).sel ≤ (s.win r).addr → ∃ t, exec (.tableDataRead r) s = .next
    t ∧ t.get GLB_TBL_STAT_RANGE = 1 ∧ t.outs = s.outs ++ [Out.word r 0] ∧ (t.win r).addr = (if (s.win r).autoinc =
    true then ((s.win r).addr + 1) % 2 ^ 20 else (s.win r).addr) ∧ (t.win r).sel = (s.win r).sel ∧ otherWins r s t ∧
    t = { s with regs := t.regs, wins := t.wins, outs := t.outs } ∧ regsBut [GLB_TBL_STAT_RANGE] s t) ∧
  (∀ (s : State) (r : Requester) (v : Nat), (s.win r).addr < tableSize (s.win r).sel → (s.win r).latched (s.win
    r).sel (s.win r).addr = some v → ∃ t, exec (.tableDataRead r) s = .next t ∧ t.outs = s.outs ++ [Out.word r v] ∧
    t.win r = { s.win r with addr := (if (s.win r).autoinc = true then ((s.win r).addr + 1) % 2 ^ 20 else (s.win
                               r).addr) } ∧ otherWins r s t ∧ t =
    { s with wins := t.wins, outs := t.outs }) ∧
  (∀ (s : State) (r : Requester), (s.win r).addr < tableSize (s.win r).sel → (s.win r).latched (s.win r).sel (s.win
    r).addr = none → s.mem.errs = [] → ∃ t, exec (.tableDataRead r) s = .next t ∧ t.outs = s.outs ++ [Out.word r
    (s.tableWord (s.win r).sel (s.win r).addr)] ∧ (∀ i : Nat, i < recordSpan (s.win r).sel (s.win r).addr → (t.win
    r).latched (s.win r).sel ((s.win r).addr + 1 + i) = some (s.tableWord (s.win r).sel ((s.win r).addr + 1 + i))) ∧
    (t.win r).addr = (if (s.win r).autoinc = true then ((s.win r).addr + 1) % 2 ^ 20 else (s.win r).addr) ∧
    otherWins r s t ∧ t = { s with regs := t.regs, mem := t.mem, wins := t.wins, outs := t.outs } ∧ regsBut
    [MEM_TESTABORTS_COUNT] s t) ∧
  (∀ (s : State) (r : Requester) (v : Word), s.protected r 0x38 = false → tableSize (s.win r).sel ≤ (s.win r).addr →
    ∃ t, exec (.tableDataWrite r v none) s = .next t ∧ t.get GLB_TBL_STAT_RANGE = 1 ∧ (t.win r).addr = (if (s.win
    r).autoinc = true then ((s.win r).addr + 1) % 2 ^ 20 else (s.win r).addr) ∧ otherWins r s t ∧ t =
    { s with regs := t.regs, wins := t.wins } ∧ regsBut [GLB_TBL_STAT_RANGE] s t) ∧
  (∀ (s : State) (r : Requester) (v : Word), s.protected r 0x38 = false → (s.win r).sel = 5 → (s.win r).addr < 512 →
    ∃ t, exec (.tableDataWrite r v none) s = .next t ∧ t.get GLB_TBL_STAT_REFUSED = 1 ∧ t.get BRD_STAT_WRERR = 1 ∧
    (t.win r).addr = (if (s.win r).autoinc = true then ((s.win r).addr + 1) % 2 ^ 20 else (s.win r).addr) ∧
    otherWins r s t ∧ t = { s with regs := t.regs, wins := t.wins } ∧ regsBut [GLB_TBL_STAT_REFUSED, BRD_STAT_WRERR]
    s t) ∧
  (∀ (s : State) (r : Requester) (v : Word), s.protected r 0x38 = false → (s.win r).sel = 8 → (s.win r).addr <
    s.nLanes → s.get EJS_CTRL_MAPPEND = 0 → ∃ t, exec (.tableDataWrite r v none) s = .next t ∧ (∀ a : Nat, a < 4096
    → mget 0 t.sched.map a = (if a = 2048 * (1 - s.get EJS_CTRL_MAPACT) + (s.win r).addr then v.toNat % 65536 else
    mget 0 s.sched.map a)) ∧ (t.win r).addr = (if (s.win r).autoinc = true then ((s.win r).addr + 1) % 2 ^ 20 else
    (s.win r).addr) ∧ otherWins r s t ∧ t = { s with regs := t.regs, mem := t.mem, wins := t.wins, sched := {
                                                                                                                  s.sched
                                                                                                                  with
                                                                                                                  map
                                                                                                                    :=
                                                                                                                    t.sched.map
                                                                                                                    }
                                                       } ∧ regsBut [MEM_TESTABORTS_COUNT] s t) ∧
  (∀ (s : State) (h : Nat) (v : Word), bitOf (s.get GLB_APPWE_WE) 0 = false → ∃ t, exec (.tableDataWrite (.hart h) v
    none) s = .next t ∧ turnedAway s t)

/-- Register and stream frames of the serial slave port act by their rules; a malformed one writes nothing. (spec/15_serial_ports.md R390, R391, R392, R393, R394, R395, R396, R397, R398, R399, R400) -/
def Obligations.SerialFramesReadWriteAndCarryPackets : Prop :=
  (∀ (s : State) (m inc : Bool) (v a n : Nat), s.sspServes = true → v ≠ 0 → ∃ t, exec (.sspRegisterReadFrame m v inc
    a n) s = .next t ∧ t.get SSP_STAT_ERRSEEN = 1 ∧ t.get SSP_STAT_LASTERR = 1 ∧ t.get SSP_ERRCNT_COUNT = satAdd 31
    (s.get SSP_ERRCNT_COUNT) 1 % 2 ^ 31 ∧ t.ssp = { s.ssp with err := true, ended := false, coll := false } ∧ t.outs
    = s.outs ++ [Out.ssp (toBytes (s.sspFirst :: List.replicate (3 + 4 * n) 0))] ∧ t.get SSP_FRAMECNT_COUNT = satAdd
    31 (s.get SSP_FRAMECNT_COUNT) 1 % 2 ^ 31 ∧ t.get SSP_STAT_MODE3 = (if m = true then 1 else 0) ∧ raisedIn
    Src.sspErr s t ∧ t = { s with regs := t.regs, evt := t.evt, mem := t.mem, ssp := t.ssp, outs := t.outs } ∧
    regsButEvt [SSP_STAT_MODE3, SSP_FRAMECNT_COUNT, SSP_STAT_ERRSEEN, SSP_STAT_LASTERR, SSP_ERRCNT_COUNT] s t) ∧
  (∀ (s : State) (m inc : Bool) (v : Nat) (l : List Byte) (bits : Nat), s.sspServes = true → v ≠ 0 → ∃ t, exec
    (.sspRegisterWriteFrame m v inc l bits) s = .next t ∧ t.get SSP_STAT_ERRSEEN = 1 ∧ t.get SSP_STAT_LASTERR = 1 ∧
    t.get SSP_ERRCNT_COUNT = satAdd 31 (s.get SSP_ERRCNT_COUNT) 1 % 2 ^ 31 ∧ t.ssp =
    { s.ssp with err := true, ended := false, coll := false } ∧ t.outs = s.outs ++ [Out.ssp (toBytes (s.sspFirst ::
    List.replicate l.length 0))] ∧ t.get SSP_FRAMECNT_COUNT = satAdd 31 (s.get SSP_FRAMECNT_COUNT) 1 % 2 ^ 31 ∧
    t.get SSP_STAT_MODE3 = (if m = true then 1 else 0) ∧ raisedIn Src.sspErr s t ∧ t =
    { s with regs := t.regs, evt := t.evt, mem := t.mem, ssp := t.ssp, outs := t.outs } ∧ regsButEvt
    [SSP_STAT_MODE3, SSP_FRAMECNT_COUNT, SSP_STAT_ERRSEEN, SSP_STAT_LASTERR, SSP_ERRCNT_COUNT] s t) ∧
  (∀ (s : State) (m : Bool) (v : Nat) (l : List Byte) (bits y : Nat), s.sspServes = true → v ≠ 0 → ∃ t, exec
    (.sspStreamWriteFrame m v l bits y) s = .next t ∧ t.get SSP_STAT_ERRSEEN = 1 ∧ t.get SSP_STAT_LASTERR = 1 ∧
    t.get SSP_ERRCNT_COUNT = satAdd 31 (s.get SSP_ERRCNT_COUNT) 1 % 2 ^ 31 ∧ t.ssp =
    { s.ssp with err := true, ended := false, coll := false } ∧ t.outs = s.outs ++ [Out.ssp (toBytes (s.sspFirst ::
    List.replicate l.length 0))] ∧ t.get SSP_FRAMECNT_COUNT = satAdd 31 (s.get SSP_FRAMECNT_COUNT) 1 % 2 ^ 31 ∧
    t.get SSP_STAT_MODE3 = (if m = true then 1 else 0) ∧ raisedIn Src.sspErr s t ∧ t =
    { s with regs := t.regs, evt := t.evt, mem := t.mem, ssp := t.ssp, outs := t.outs } ∧ regsButEvt
    [SSP_STAT_MODE3, SSP_FRAMECNT_COUNT, SSP_STAT_ERRSEEN, SSP_STAT_LASTERR, SSP_ERRCNT_COUNT] s t) ∧
  (∀ (s : State) (m : Bool) (v n : Nat), s.sspServes = true → v ≠ 0 → ∃ t, exec (.sspStreamReadFrame m v n) s =
    .next t ∧ t.get SSP_STAT_ERRSEEN = 1 ∧ t.get SSP_STAT_LASTERR = 1 ∧ t.get SSP_ERRCNT_COUNT = satAdd 31 (s.get
    SSP_ERRCNT_COUNT) 1 % 2 ^ 31 ∧ t.ssp = { s.ssp with err := true, ended := false, coll := false } ∧ t.outs =
    s.outs ++ [Out.ssp (toBytes (s.sspFirst :: List.replicate (2 + n) 0))] ∧ t.get SSP_FRAMECNT_COUNT = satAdd 31
    (s.get SSP_FRAMECNT_COUNT) 1 % 2 ^ 31 ∧ t.get SSP_STAT_MODE3 = (if m = true then 1 else 0) ∧ raisedIn Src.sspErr
    s t ∧ t = { s with regs := t.regs, evt := t.evt, mem := t.mem, ssp := t.ssp, outs := t.outs } ∧ regsButEvt
    [SSP_STAT_MODE3, SSP_FRAMECNT_COUNT, SSP_STAT_ERRSEEN, SSP_STAT_LASTERR, SSP_ERRCNT_COUNT] s t) ∧
  (∀ (s : State) (m inc : Bool) (v : Nat) (a n : Nat), s.sspServes = false → ∃ t, exec (.sspRegisterReadFrame m v
    inc a n) s = .next t ∧ t = { s with outs := s.outs ++ [Out.ssp (toBytes (s.sspFirst :: List.replicate (3 + 4 *
                                          n) 0))] }) ∧
  (∀ (s : State) (m inc : Bool) (a n : Nat), s.sspServes = true → 0x4000 ≤ a → a < 0x10000 → ∃ t, exec
    (.sspRegisterReadFrame m 0 inc a n) s = .next t ∧ t.outs = s.outs ++ [Out.ssp (toBytes ([s.sspFirst, 0, 0,
    s.sspStatus false true false] ++ List.replicate (4 * n) 0))] ∧ t.get SSP_STAT_ENDSEEN = 1 ∧ t.get
    SSP_FRAMECNT_COUNT = satAdd 31 (s.get SSP_FRAMECNT_COUNT) 1 % 2 ^ 31 ∧ t.get SSP_STAT_MODE3 = (if m = true then
    1 else 0) ∧ t.ssp = { s.ssp with err := false, ended := true, coll := false } ∧ t =
    { s with regs := t.regs, ssp := t.ssp, outs := t.outs } ∧ regsBut [SSP_STAT_MODE3, SSP_FRAMECNT_COUNT,
    SSP_STAT_ENDSEEN] s t) ∧
  (∀ (s : State) (m inc : Bool) (a : Nat), s.sspServes = true → a < 0x4000 → a ≠ 0xE → (isLow (4 * a) = true ∨
    (s.win .ssp).latch.map (·.1) ≠ some (4 * a)) → ∃ t, exec (.sspRegisterReadFrame m 0 inc a 1) s = .next t ∧
    t.outs = s.outs ++ [Out.ssp (toBytes ([s.sspFirst, 0, 0, s.sspStatus false false false] ++ leWords
    [(s.frameBegin m).regWord .ssp (4 * a)]))] ∧ t.get SSP_FRAMECNT_COUNT = satAdd 31 (s.get SSP_FRAMECNT_COUNT) 1 %
    2 ^ 31 ∧ (∀ i : Nat, i < 5 → mget Win.init t.wins i = mget Win.init s.wins i) ∧ t =
    { s with regs := t.regs, free := t.free, evt := t.evt, mem := t.mem, wins := t.wins, ssp := t.ssp, outs :=
               t.outs } ∧ regsOutside [Blk.EVT, Blk.TIL, Blk.MEM] [GLB_TBL_STAT_RANGE, CAL_REFSEL_LANE,
    SSP_STAT_ERRSEEN, SSP_STAT_ENDSEEN, SSP_STAT_MODE3, SSP_STAT_LASTERR, SSP_FRAMECNT_COUNT, SSP_ERRCNT_COUNT,
    TMX_TPSEL_INDEX] s t) ∧
  (∀ (s : State) (m inc : Bool) (v : Nat) (l : List Byte) (bits : Nat), s.sspServes = false → ∃ t, exec
    (.sspRegisterWriteFrame m v inc l bits) s = .next t ∧ t =
    { s with outs := s.outs ++ [Out.ssp (toBytes [s.sspFirst])] }) ∧
  (∀ (s : State) (m inc : Bool) (l : List Byte) (bits : Nat), s.sspServes = true → l.length < 2 → ∃ t, exec
    (.sspRegisterWriteFrame m 0 inc l bits) s = .next t ∧ t.get SSP_STAT_ERRSEEN = 1 ∧ t.get SSP_STAT_LASTERR = 2 ∧
    t.get SSP_ERRCNT_COUNT = satAdd 31 (s.get SSP_ERRCNT_COUNT) 1 % 2 ^ 31 ∧ t.ssp =
    { s.ssp with err := true, ended := false, coll := false } ∧ t.outs = s.outs ++ [Out.ssp (toBytes [s.sspFirst])]
    ∧ t.get SSP_FRAMECNT_COUNT = satAdd 31 (s.get SSP_FRAMECNT_COUNT) 1 % 2 ^ 31 ∧ t.get SSP_STAT_MODE3 = (if m =
    true then 1 else 0) ∧ raisedIn Src.sspErr s t ∧ t =
    { s with regs := t.regs, evt := t.evt, mem := t.mem, ssp := t.ssp, outs := t.outs } ∧ regsButEvt
    [SSP_STAT_MODE3, SSP_FRAMECNT_COUNT, SSP_STAT_ERRSEEN, SSP_STAT_LASTERR, SSP_ERRCNT_COUNT] s t) ∧
  (∀ (s : State) (m inc : Bool) (l : List Byte) (bits : Nat), s.sspServes = true → 258 < l.length → ∃ t, exec
    (.sspRegisterWriteFrame m 0 inc l bits) s = .next t ∧ t.get SSP_STAT_ERRSEEN = 1 ∧ t.get SSP_STAT_LASTERR = 4 ∧
    t.get SSP_ERRCNT_COUNT = satAdd 31 (s.get SSP_ERRCNT_COUNT) 1 % 2 ^ 31 ∧ t.ssp =
    { s.ssp with err := true, ended := false, coll := false } ∧ t.outs = s.outs ++ [Out.ssp (toBytes [s.sspFirst])]
    ∧ t.get SSP_FRAMECNT_COUNT = satAdd 31 (s.get SSP_FRAMECNT_COUNT) 1 % 2 ^ 31 ∧ t.get SSP_STAT_MODE3 = (if m =
    true then 1 else 0) ∧ raisedIn Src.sspErr s t ∧ t =
    { s with regs := t.regs, evt := t.evt, mem := t.mem, ssp := t.ssp, outs := t.outs } ∧ regsButEvt
    [SSP_STAT_MODE3, SSP_FRAMECNT_COUNT, SSP_STAT_ERRSEEN, SSP_STAT_LASTERR, SSP_ERRCNT_COUNT] s t) ∧
  (∀ (s : State) (m inc : Bool) (l : List Byte) (bits : Nat), s.sspServes = true → 2 ≤ l.length → l.length ≤ 258 →
    (l.length % 4 ≠ 2 ∨ bits % 8 ≠ 0) → ∃ t, exec (.sspRegisterWriteFrame m 0 inc l bits) s = .next t ∧ t.get
    SSP_STAT_ERRSEEN = 1 ∧ t.get SSP_STAT_LASTERR = 3 ∧ t.get SSP_ERRCNT_COUNT = satAdd 31 (s.get SSP_ERRCNT_COUNT)
    1 % 2 ^ 31 ∧ t.ssp = { s.ssp with err := true, ended := false, coll := false } ∧ t.outs = s.outs ++ [Out.ssp
    (toBytes [s.sspFirst])] ∧ t.get SSP_FRAMECNT_COUNT = satAdd 31 (s.get SSP_FRAMECNT_COUNT) 1 % 2 ^ 31 ∧ t.get
    SSP_STAT_MODE3 = (if m = true then 1 else 0) ∧ raisedIn Src.sspErr s t ∧ t =
    { s with regs := t.regs, evt := t.evt, mem := t.mem, ssp := t.ssp, outs := t.outs } ∧ regsButEvt
    [SSP_STAT_MODE3, SSP_FRAMECNT_COUNT, SSP_STAT_ERRSEEN, SSP_STAT_LASTERR, SSP_ERRCNT_COUNT] s t) ∧
  (∀ (s : State) (m inc : Bool) (a : Nat) (b0 b1 b2 b3 : Byte) (v : Nat), s.sspServes = true → 4 * a ∈ plainRegs → v
    = b0.toNat + 256 * b1.toNat + 65536 * b2.toNat + 16777216 * b3.toNat → ∃ t, exec (.sspRegisterWriteFrame m 0 inc
    [BitVec.ofNat 8 (a / 256), BitVec.ofNat 8 a, b0, b1, b2, b3] 0) s = .next t ∧ tookWrite (4 * a) v s t ∧ t.outs =
    s.outs ++ [Out.ssp (toBytes [s.sspFirst])] ∧ t =
    { s with regs := t.regs, ssp := t.ssp, outs := t.outs } ∧ regsBut ([SSP_STAT_MODE3, SSP_FRAMECNT_COUNT] ++
    fieldsAt (4 * a)) s t) ∧
  (∀ (s : State) (m : Bool) (v : Nat) (l : List Byte) (bits y : Nat), s.sspServes = false → ∃ t, exec
    (.sspStreamWriteFrame m v l bits y) s = .next t ∧ t =
    { s with outs := s.outs ++ [Out.ssp (toBytes [s.sspFirst])] }) ∧
  (∀ (s : State) (m : Bool) (y : Nat), s.sspServes = true → ∃ t, exec (.sspStreamWriteFrame m 0 [] 0 y) s = .next t
    ∧ t.ssp = { s.ssp with err := false, ended := false, coll := false } ∧ t.outs = s.outs ++ [Out.ssp (toBytes
    [s.sspFirst])] ∧ t.get SSP_FRAMECNT_COUNT = satAdd 31 (s.get SSP_FRAMECNT_COUNT) 1 % 2 ^ 31 ∧ t.get
    SSP_STAT_MODE3 = (if m = true then 1 else 0) ∧ t =
    { s with regs := t.regs, ssp := t.ssp, outs := t.outs } ∧ regsBut [SSP_STAT_MODE3, SSP_FRAMECNT_COUNT] s t) ∧
  (∀ (s : State) (m : Bool) (l : List Byte) (bits y : Nat) (p : List Nat), s.sspServes = true → p = (if bits % 8 = 0
    then ofBytes l else ofBytes l ++ [y % 2 ^ (bits % 8)]) → p ≠ [] → s.slotTaken p = true → ∃ t, exec
    (.sspStreamWriteFrame m 0 l bits y) s = .next t ∧ t.get SSP_RXDROP_COUNT = satAdd 31 (s.get SSP_RXDROP_COUNT) 1
    % 2 ^ 31 ∧ t.get SSP_STAT_ERRSEEN = 1 ∧ t.get SSP_STAT_LASTERR = 5 ∧ t.get SSP_ERRCNT_COUNT = satAdd 31 (s.get
    SSP_ERRCNT_COUNT) 1 % 2 ^ 31 ∧ t.ssp = { s.ssp with err := true, ended := false, coll := false } ∧ t.outs =
    s.outs ++ [Out.ssp (toBytes [s.sspFirst])] ∧ t.get SSP_FRAMECNT_COUNT = satAdd 31 (s.get SSP_FRAMECNT_COUNT) 1 %
    2 ^ 31 ∧ t.get SSP_STAT_MODE3 = (if m = true then 1 else 0) ∧ raisedIn Src.sspErr s t ∧ t =
    { s with regs := t.regs, evt := t.evt, mem := t.mem, ssp := t.ssp, outs := t.outs } ∧ regsButEvt
    [SSP_STAT_MODE3, SSP_FRAMECNT_COUNT, SSP_STAT_ERRSEEN, SSP_STAT_LASTERR, SSP_ERRCNT_COUNT, SSP_RXDROP_COUNT] s
    t) ∧
  (∀ (s : State) (m : Bool) (l : List Byte) (bits y : Nat) (p : List Nat), s.sspServes = true → p = (if bits % 8 = 0
    then ofBytes l else ofBytes l ++ [y % 2 ^ (bits % 8)]) → p ≠ [] → s.slotTaken p = false → s.serves .ssp = false
    → p.length ≤ 1344 → le2 p 2 ≠ 0x7F00 → ∃ t, exec (.sspStreamWriteFrame m 0 l bits y) s = .next t ∧ t.ssp =
    { s.ssp with err := false, ended := false, coll := false, inbox := s.ssp.inbox ++ [p] } ∧ t.get SSP_BOX_INSLOTS
    = (s.ssp.inbox.length + 1) % 4 ∧ t.outs = s.outs ++ [Out.ssp (toBytes [s.sspFirst])] ∧ t.get SSP_FRAMECNT_COUNT
    = satAdd 31 (s.get SSP_FRAMECNT_COUNT) 1 % 2 ^ 31 ∧ t.get SSP_STAT_MODE3 = (if m = true then 1 else 0) ∧ t =
    { s with regs := t.regs, ssp := t.ssp, outs := t.outs } ∧ regsBut [SSP_STAT_MODE3, SSP_FRAMECNT_COUNT,
    SSP_BOX_INSLOTS, SSP_BOX_ABSLOT, SSP_BOX_OUTBYTES] s t) ∧
  (∀ (s : State) (m : Bool) (l : List Byte) (p : List Nat), s.sspServes = true → p = ofBytes l → s.slotTaken p =
    false → s.serves .ssp = false → p.length ≤ 1344 → le2 p 2 = 0x7F00 → ∃ t, exec (.sspStreamWriteFrame m 0 l 0 0)
    s = .next t ∧ t.ssp = { s.ssp with err := false, ended := false, coll := false, abox := some p } ∧ t.get
    SSP_BOX_ABSLOT = 1 ∧ t.outs = s.outs ++ [Out.ssp (toBytes [s.sspFirst])] ∧ t =
    { s with regs := t.regs, ssp := t.ssp, outs := t.outs } ∧ regsBut [SSP_STAT_MODE3, SSP_FRAMECNT_COUNT,
    SSP_BOX_INSLOTS, SSP_BOX_ABSLOT, SSP_BOX_OUTBYTES] s t) ∧
  (∀ (s : State) (m : Bool) (l : List Byte) (p : List Nat), s.sspServes = true → p = ofBytes l → s.slotTaken p =
    false → s.serves .ssp = false → 1344 < p.length → le2 p 2 ≠ 0x7F00 → ∃ t, exec (.sspStreamWriteFrame m 0 l 0 0)
    s = .next t ∧ t.ssp = { s.ssp with err := true, ended := false, coll := false, inbox := s.ssp.inbox ++ [p.take
                                         1344] } ∧ t.get SSP_STAT_LASTERR = 6 ∧ raisedIn Src.sspErr s t ∧ t =
    { s with regs := t.regs, free := t.free, power := t.power, evt := t.evt, mem := t.mem, wins := t.wins, mbx :=
               t.mbx, sensor := t.sensor, corr := t.corr, cal := t.cal, gref := t.gref, tmx := t.tmx, loops :=
               t.loops, live := t.live, braid := t.braid, knots := t.knots, sched := t.sched, valves := t.valves,
             chain := t.chain, baind := t.baind, ssp := t.ssp, net := t.net, flash := t.flash, tap := t.tap, house
               := t.house, fb := t.fb, outs := t.outs } ∧ regsOutside [Blk.GLB, Blk.EVT, Blk.PWR, Blk.THM, Blk.HKA,
    Blk.STG, Blk.TIL, Blk.COR, Blk.CAL, Blk.BRD, Blk.KNT, Blk.VRD, Blk.EJS, Blk.VLV, Blk.VBK, Blk.ARB, Blk.MEM,
    Blk.SSP, Blk.ETH, Blk.CHN, Blk.LOOP, Blk.TMX, Blk.MBX] [] s t) ∧
  (∀ (s : State) (m : Bool) (l : List Byte), s.sspServes = true → l ≠ [] → s.slotTaken (ofBytes l) = false →
    s.serves .ssp = true → l.length ≤ 1344 → ∃ t, exec (.sspStreamWriteFrame m 0 l 0 0) s = .next t ∧ t = (((s.emit
    (.ssp (toBytes [s.sspFirst]))).frameBegin m).setTag 0).packet .ssp (ofBytes l)) ∧
  (∀ (s : State) (m : Bool) (v : Nat) (n : Nat), s.sspServes = false → ∃ t, exec (.sspStreamReadFrame m v n) s =
    .next t ∧ t = { s with outs := s.outs ++ [Out.ssp (toBytes (s.sspFirst :: List.replicate (2 + n) 0))] }) ∧
  (∀ (s : State) (m : Bool) (n : Nat), s.sspServes = true → s.ssp.outbox = [] → ∃ t, exec (.sspStreamReadFrame m 0
    n) s = .next t ∧ t.outs = s.outs ++ [Out.ssp (toBytes (s.sspFirst :: List.replicate (2 + n) 0))] ∧ t.ssp =
    { s.ssp with err := false, ended := false, coll := false } ∧ t.get SSP_FRAMECNT_COUNT = satAdd 31 (s.get
    SSP_FRAMECNT_COUNT) 1 % 2 ^ 31 ∧ t.get SSP_STAT_MODE3 = (if m = true then 1 else 0) ∧ t =
    { s with regs := t.regs, ssp := t.ssp, outs := t.outs } ∧ regsBut [SSP_STAT_MODE3, SSP_FRAMECNT_COUNT] s t) ∧
  (∀ (s : State) (m : Bool) (n : Nat) (p : List Nat) (r : List (List Nat)), s.sspServes = true → s.ssp.outbox = p ::
    r → ∃ t, exec (.sspStreamReadFrame m 0 n) s = .next t ∧ t.outs = s.outs ++ [Out.ssp (toBytes (s.sspFirst ::
    beBytes 2 p.length ++ p.take n ++ List.replicate (n - p.length) 0))] ∧ t.ssp.outbox ++ t.ssp.waiting = (if
    p.length ≤ n then [] else [p.drop n]) ++ r ++ s.ssp.waiting ∧ (∀ q r', t.ssp.waiting = q :: r' → 4096 <
    t.ssp.held + q.length) ∧ t.get SSP_BOX_OUTBYTES = min 4096 t.ssp.held ∧ t =
    { s with regs := t.regs, ssp := { s.ssp with err := false, ended := false, coll := false, outbox :=
                                                   t.ssp.outbox, waiting := t.ssp.waiting }, outs := t.outs } ∧
    t.get SSP_FRAMECNT_COUNT = satAdd 31 (s.get SSP_FRAMECNT_COUNT) 1 % 2 ^ 31 ∧ t.get SSP_STAT_MODE3 = (if m = true
    then 1 else 0) ∧ regsBut [SSP_STAT_MODE3, SSP_FRAMECNT_COUNT, SSP_BOX_INSLOTS, SSP_BOX_ABSLOT, SSP_BOX_OUTBYTES]
    s t)

/-- A read of the flash window hits, misses or faults; lines arrive in order of priority; programs and erases yield and end. (spec/15_serial_ports.md R405, R406, R407, R408, R409, spec/13_processors_events.md R340) -/
def Obligations.FlashWindowHitsMissesAndSuspension : Prop :=
  (∀ (s : State) (b : Bool) (a : Nat), s.isOn = false → ∃ t, exec (.xipRead b a) s = .next t ∧ t = s) ∧
  (∀ (s : State) (b : Bool) (a : Nat), s.isOn = true → (s.get FLS_SIZE_MIB * 2 ^ 20) ≤ a → ∃ t, exec (.xipRead b a)
    s = .next t ∧ t.get FLS_STAT_RANGE = 1 ∧ t.get FLS_ERRCNT_COUNT = satAdd 31 (s.get FLS_ERRCNT_COUNT) 1 % 2 ^ 31
    ∧ t.outs = s.outs ++ [Out.busError (if b = true then .hart 0 else .mgmt)] ∧ raisedIn Src.flsErr s t ∧ t =
    { s with regs := t.regs, evt := t.evt, mem := t.mem, outs := t.outs } ∧ regsButEvt [FLS_STAT_RANGE,
    FLS_ERRCNT_COUNT] s t) ∧
  (∀ (s : State) (b : Bool) (a : Nat), s.isOn = true → a < (s.get FLS_SIZE_MIB * 2 ^ 20) → a / 64 * 64 ∈
    s.flash.lines → ∃ t, exec (.xipRead b a) s = .next t ∧ t.flash =
    { s.flash with lines := s.flash.lines.filter (· != a / 64 * 64) ++ [a / 64 * 64] } ∧ t.outs = s.outs ++ [Out.xip
    (a / 64 * 64)] ∧ t.get FLS_HITCNT_COUNT = satAdd 31 (s.get FLS_HITCNT_COUNT) 1 % 2 ^ 31 ∧ t =
    { s with regs := t.regs, flash := t.flash, outs := t.outs } ∧ regsBut [FLS_HITCNT_COUNT] s t) ∧
  (∀ (s : State) (b : Bool) (a : Nat), s.isOn = true → a < (s.get FLS_SIZE_MIB * 2 ^ 20) → ¬a / 64 * 64 ∈
    s.flash.lines → (s.flash.op = [] ∨ s.flash.suspended = true) → ∃ t, exec (.xipRead b a) s = .next t ∧ t.flash =
    { s.flash with misses := s.flash.misses ++ [(b, a / 64 * 64)] } ∧ t.get FLS_MISSCNT_COUNT = satAdd 31 (s.get
    FLS_MISSCNT_COUNT) 1 % 2 ^ 31 ∧ t = { s with regs := t.regs, flash := t.flash } ∧ regsBut [FLS_MISSCNT_COUNT] s
    t) ∧
  (∀ (s : State) (b : Bool) (a : Nat), s.isOn = true → a < (s.get FLS_SIZE_MIB * 2 ^ 20) → ¬a / 64 * 64 ∈
    s.flash.lines → s.flash.op ≠ [] → s.flash.suspended = false → ∃ t, exec (.xipRead b a) s = .next t ∧ t.flash =
    { s.flash with misses := s.flash.misses ++ [(b, a / 64 * 64)], suspended := decide (s.get FLS_STAT_SUSPOK = 1) }
    ∧ t.get FLS_STAT_SUSPSEEN = (if s.get FLS_STAT_SUSPOK = 1 then 1 else s.get FLS_STAT_SUSPSEEN) ∧ t.get
    FLS_STAT_WAITSEEN = (if s.get FLS_STAT_SUSPOK = 1 then s.get FLS_STAT_WAITSEEN else 1) ∧ t.get FLS_MISSCNT_COUNT
    = satAdd 31 (s.get FLS_MISSCNT_COUNT) 1 % 2 ^ 31 ∧ t =
    { s with regs := t.regs, flash := t.flash } ∧ regsBut [FLS_MISSCNT_COUNT, FLS_STAT_SUSPSEEN, FLS_STAT_WAITSEEN]
    s t) ∧
  (∀ (s : State), ((s.flash.op ≠ [] ∧ s.flash.suspended = false) ∨ (s.flash.misses = [] ∧ s.flash.seqLine = none)) →
    ∃ t, exec (.xipLineFetchDone) s = .next t ∧ t = s) ∧
  (∀ (s : State) (l : Nat), (s.flash.op = [] ∨ s.flash.suspended = true) → s.flash.misses ≠ [] → l =
    ((s.flash.misses.find? (fun m => !m.1)).getD (s.flash.misses.headD (true, 0))).2 → ∃ t, exec (.xipLineFetchDone)
    s = .next t ∧ t.flash = { s.flash with lines := (if 4 ≤ (s.flash.lines.filter (· != l)).length then
                                             (s.flash.lines.filter (· != l)).drop 1 else s.flash.lines.filter (· !=
                                             l)) ++ [l], misses := s.flash.misses.filter (fun m => m.2 != l),
                                           seqLine := t.flash.seqLine } ∧ t.flash.seqLine = (if s.get FLS_CTRL_SEQ =
    1 ∧ l + 64 < (s.get FLS_SIZE_MIB * 2 ^ 20) ∧ ¬l + 64 ∈ t.flash.lines then some (l + 64) else none) ∧ t.outs =
    s.outs ++ List.replicate ((s.flash.misses.filter (fun m => m.2 == l)).length) (Out.xip l) ∧ t.get FLS_STAT_CONT
    = (if s.get FLS_STAT_READ = 2 then 1 else 0) ∧ t =
    { s with regs := t.regs, flash := t.flash, outs := t.outs } ∧ regsBut [FLS_STAT_CONT] s t) ∧
  (∀ (s : State) (l : Nat), (s.flash.op = [] ∨ s.flash.suspended = true) → s.flash.misses = [] → s.flash.seqLine =
    some l → ∃ t, exec (.xipLineFetchDone) s = .next t ∧ t.flash.seqLine = none ∧ t.flash.lines.getLast? = some l ∧
    t.flash = { s.flash with lines := t.flash.lines, seqLine := none } ∧ t.outs = s.outs ∧ t =
    { s with regs := t.regs, flash := t.flash } ∧ regsBut [FLS_STAT_CONT] s t) ∧
  (∀ (s : State), s.flash.suspended = true → s.flash.misses = [] → ∃ t, exec (.flashResume) s = .next t ∧ t.flash =
    { s.flash with suspended := false } ∧ t.get FLS_STAT_CONT = 0 ∧ t =
    { s with regs := t.regs, flash := t.flash } ∧ regsBut [FLS_STAT_CONT] s t) ∧
  (∀ (s : State), (s.flash.suspended = false ∨ s.flash.misses ≠ []) → ∃ t, exec (.flashResume) s = .next t ∧ t = s) ∧
  (∀ (s : State) (a n : Nat) (r : List (Nat × Nat)), s.flash.suspended = false → s.flash.op = (a, n) :: r → ∃ t,
    exec (.flashOperationDone) s = .next t ∧ t.flash =
    { s.flash with op := r, lines := s.flash.lines.filter (fun l => !decide (a < l + 64 ∧ l < a + n)) } ∧ t.get
    FLS_STAT_BUSY = (if r = [] then 0 else 1) ∧ t =
    { s with regs := t.regs, flash := t.flash } ∧ regsBut [FLS_STAT_BUSY] s t) ∧
  (∀ (s : State), (s.flash.suspended = true ∨ s.flash.op = []) → ∃ t, exec (.flashOperationDone) s = .next t ∧ t =
    s)

/-- Ethernet frames, DHCP, PTP, the PHY and MDIO act by the rules of the management port. (spec/15_serial_ports.md R379, R380, R381, R382, R383, R384, log entry 2) -/
def Obligations.ManagementPortFramesLeasesAndTime : Prop :=
  (∀ (s : State) (f : EthFrame) (l : List MemErr), (s.fwRuns = false ∨ s.get ETH_CTRL_EN ≠ 1) → ∃ t, exec
    (.ethFrameReceive f l) s = .next t ∧ t = { s with mem := { s.mem with errs := s.mem.errs ++ l } }) ∧
  (∀ (s : State) (f : EthFrame) (w : Nat), s.fwRuns = true → s.get ETH_CTRL_EN = 1 → s.mem.errs = [] → ∃ t, exec
    (.ethFrameReceive f [⟨56, w, true⟩]) s = .next t ∧ t.get ETH_RXCNT_COUNT = satAdd 31 (s.get ETH_RXCNT_COUNT) 1 %
    2 ^ 31 ∧ t.get ETH_DROPCNT_COUNT = satAdd 31 (s.get ETH_DROPCNT_COUNT) 1 % 2 ^ 31 ∧ t.get MEM_STAT_UESEEN = 1 ∧
    t.get MEM_ERRADDR_WORD = w % 2 ^ 18 ∧ t.outs = s.outs ∧ t.baind = s.baind ∧ t =
    { s with regs := t.regs, free := t.free, power := t.power, evt := t.evt, mem := t.mem, wins := t.wins, mbx :=
               t.mbx, sensor := t.sensor, corr := t.corr, cal := t.cal, gref := t.gref, tmx := t.tmx, loops :=
               t.loops, live := t.live, braid := t.braid, knots := t.knots, sched := t.sched, valves := t.valves,
             chain := t.chain, baind := t.baind, ssp := t.ssp, net := t.net, flash := t.flash, tap := t.tap, house
               := t.house, fb := t.fb, outs := t.outs } ∧ regsOutside [Blk.GLB, Blk.EVT, Blk.PWR, Blk.THM, Blk.HKA,
    Blk.STG, Blk.TIL, Blk.COR, Blk.CAL, Blk.BRD, Blk.KNT, Blk.VRD, Blk.EJS, Blk.VLV, Blk.VBK, Blk.ARB, Blk.MEM,
    Blk.SSP, Blk.ETH, Blk.CHN, Blk.LOOP, Blk.TMX, Blk.MBX] [] s t) ∧
  (∀ (s : State), s.fwRuns = true → s.get ETH_CTRL_EN = 1 → ∃ t, exec (.ethFrameReceive .bad []) s = .next t ∧ t.get
    ETH_STAT_RXERR = 1 ∧ t.get ETH_RXERRCNT_COUNT = satAdd 31 (s.get ETH_RXERRCNT_COUNT) 1 % 2 ^ 31 ∧ raisedIn
    Src.ethRxErr s t ∧ t = { s with regs := t.regs, evt := t.evt, mem := t.mem } ∧ regsButEvt [ETH_STAT_RXERR,
    ETH_RXERRCNT_COUNT] s t) ∧
  (∀ (s : State), s.fwRuns = true → s.get ETH_CTRL_EN = 1 → ∃ t, exec (.ethFrameReceive .oversize []) s = .next t ∧
    t.get ETH_DROPCNT_COUNT = satAdd 31 (s.get ETH_DROPCNT_COUNT) 1 % 2 ^ 31 ∧ t =
    { s with regs := t.regs } ∧ regsBut [ETH_DROPCNT_COUNT] s t) ∧
  (∀ (s : State) (f : EthFrame), s.fwRuns = true → s.get ETH_CTRL_EN = 1 → (f = .ptpL2 ∨ f = .other) → ∃ t, exec
    (.ethFrameReceive f []) s = .next t ∧ t.get ETH_RXCNT_COUNT = satAdd 31 (s.get ETH_RXCNT_COUNT) 1 % 2 ^ 31 ∧ t =
    { s with regs := t.regs } ∧ regsBut [ETH_RXCNT_COUNT] s t) ∧
  (∀ (s : State) (a : Nat), s.fwRuns = true → s.get ETH_CTRL_EN = 1 → ∃ t, exec (.ethFrameReceive (.arp a) []) s =
    .next t ∧ t.get ETH_RXCNT_COUNT = satAdd 31 (s.get ETH_RXCNT_COUNT) 1 % 2 ^ 31 ∧ t.outs = s.outs ++ (if (s.get
    ETH_CTRL_DHCP ≠ 1 ∨ s.get ETH_STAT_BOUND = 1) ∧ a = s.get ETH_IP_ADDR then [Out.arpReply] else []) ∧ t =
    { s with regs := t.regs, outs := t.outs } ∧ regsBut [ETH_RXCNT_COUNT, ETH_TXCNT_COUNT] s t) ∧
  (∀ (s : State) (a b : Nat), s.fwRuns = true → s.get ETH_CTRL_EN = 1 → ∃ t, exec (.ethFrameReceive (.icmpEcho b a)
    []) s = .next t ∧ t.get ETH_RXCNT_COUNT = satAdd 31 (s.get ETH_RXCNT_COUNT) 1 % 2 ^ 31 ∧ t.outs = s.outs ++ (if
    (s.get ETH_CTRL_DHCP ≠ 1 ∨ s.get ETH_STAT_BOUND = 1) ∧ a = s.get ETH_IP_ADDR then [Out.icmpReply] else []) ∧
    t.get ETH_TXCNT_COUNT = (if (s.get ETH_CTRL_DHCP ≠ 1 ∨ s.get ETH_STAT_BOUND = 1) ∧ a = s.get ETH_IP_ADDR then
    satAdd 31 (s.get ETH_TXCNT_COUNT) 1 % 2 ^ 31 else s.get ETH_TXCNT_COUNT) ∧ t =
    { s with regs := t.regs, outs := t.outs } ∧ regsBut [ETH_RXCNT_COUNT, ETH_TXCNT_COUNT] s t) ∧
  (∀ (s : State) (tg fr : Bool) (sip sp dip dp : Nat) (p : List Byte), s.fwRuns = true → s.get ETH_CTRL_EN = 1 → (tg
    = true ∨ dp ≠ 40707 ∨ ¬(s.get ETH_CTRL_DHCP ≠ 1 ∨ s.get ETH_STAT_BOUND = 1) ∨ (dip ≠ s.get ETH_IP_ADDR ∧
    s.isBroadcast dip = false)) → ∃ t, exec (.ethFrameReceive (.udp tg fr sip sp dip dp p) []) s = .next t ∧ t.get
    ETH_RXCNT_COUNT = satAdd 31 (s.get ETH_RXCNT_COUNT) 1 % 2 ^ 31 ∧ t =
    { s with regs := t.regs } ∧ regsBut [ETH_RXCNT_COUNT] s t) ∧
  (∀ (s : State) (fr : Bool) (sip sp dip : Nat) (p : List Byte), s.fwRuns = true → s.get ETH_CTRL_EN = 1 → (s.get
    ETH_CTRL_DHCP ≠ 1 ∨ s.get ETH_STAT_BOUND = 1) → (dip = s.get ETH_IP_ADDR ∨ s.isBroadcast dip = true) → (fr =
    true ∨ (dip ≠ s.get ETH_IP_ADDR ∧ le2 (ofBytes p) 2 ≠ 0x0208)) → ∃ t, exec (.ethFrameReceive (.udp false fr sip
    sp dip 40707 p) []) s = .next t ∧ t.get ETH_RXCNT_COUNT = satAdd 31 (s.get ETH_RXCNT_COUNT) 1 % 2 ^ 31 ∧ t.get
    ETH_DROPCNT_COUNT = satAdd 31 (s.get ETH_DROPCNT_COUNT) 1 % 2 ^ 31 ∧ t =
    { s with regs := t.regs } ∧ regsBut [ETH_RXCNT_COUNT, ETH_DROPCNT_COUNT] s t) ∧
  (∀ (s : State) (sip sp dip : Nat) (p : List Byte), s.fwRuns = true → s.get ETH_CTRL_EN = 1 → (s.get ETH_CTRL_DHCP
    ≠ 1 ∨ s.get ETH_STAT_BOUND = 1) → (dip = s.get ETH_IP_ADDR ∨ (s.isBroadcast dip = true ∧ le2 (ofBytes p) 2 =
    0x0208)) → ∃ t, exec (.ethFrameReceive (.udp false false sip sp dip 40707 p) []) s = .next t ∧ t = ((s.set
    ETH_RXCNT_COUNT (satAdd 31 (s.get ETH_RXCNT_COUNT) 1)).setTag 0).packet (.udp sip sp) (ofBytes p)) ∧
  (∀ (s : State) (m : DhcpMsg), (s.fwRuns = false ∨ s.get ETH_CTRL_DHCP ≠ 1) → ∃ t, exec (.dhcpMessage m) s = .next
    t ∧ t = s) ∧
  (∀ (s : State) (i : Nat), s.fwRuns = true → s.get ETH_CTRL_DHCP = 1 → ∃ t, exec (.dhcpMessage (.offer i)) s =
    .next t ∧ t.net.dhcp = (if s.net.dhcp = 1 then 2 else s.net.dhcp) ∧ t.outs = s.outs ++ (if s.net.dhcp = 1 then
    [Out.dhcp 3] else []) ∧ t = { s with net := t.net, outs := t.outs }) ∧
  (∀ (s : State) (a b g : Nat), s.fwRuns = true → s.get ETH_CTRL_DHCP = 1 → (s.net.dhcp = 2 ∨ s.net.dhcp = 4 ∨
    s.net.dhcp = 5) → ∃ t, exec (.dhcpMessage (.ack a b g)) s = .next t ∧ t.get ETH_IP_ADDR = a % 2 ^ 32 ∧ t.get
    ETH_MASK_ADDR = b % 2 ^ 32 ∧ t.get ETH_GW_ADDR = g % 2 ^ 32 ∧ t.get ETH_STAT_BOUND = 1 ∧ t.net =
    { s.net with dhcp := 3 } ∧ t = { s with regs := t.regs, net := t.net } ∧ regsBut [ETH_IP_ADDR, ETH_MASK_ADDR,
    ETH_GW_ADDR, ETH_STAT_BOUND] s t) ∧
  (∀ (s : State), s.fwRuns = true → s.get ETH_CTRL_DHCP = 1 → (s.net.dhcp = 2 ∨ s.net.dhcp = 4 ∨ s.net.dhcp = 5) → ∃
    t, exec (.dhcpMessage .nak) s = .next t ∧ t.net =
    { s.net with dhcp := 1 } ∧ t.get ETH_STAT_BOUND = 0 ∧ t.outs = s.outs ++ [Out.dhcp 1] ∧ t =
    { s with regs := t.regs, net := t.net, outs := t.outs } ∧ regsBut [ETH_STAT_BOUND] s t) ∧
  (∀ (s : State) (m : DhcpMsg), dhcpIsOffer m = false → s.net.dhcp ≠ 2 → s.net.dhcp ≠ 4 → s.net.dhcp ≠ 5 → ∃ t, exec
    (.dhcpMessage m) s = .next t ∧ t = s) ∧
  (∀ (s : State) (x : DhcpTimer), (s.fwRuns = false ∨ s.get ETH_CTRL_DHCP ≠ 1) → ∃ t, exec (.dhcpLeaseTimer x) s =
    .next t ∧ t = s) ∧
  (∀ (s : State) (x : DhcpTimer), s.fwRuns = true → s.get ETH_CTRL_DHCP = 1 → ((x = .renew ∧ s.net.dhcp = 3) ∨ (x =
    .rebind ∧ s.net.dhcp = 4)) → ∃ t, exec (.dhcpLeaseTimer x) s = .next t ∧ t.net =
    { s.net with dhcp := s.net.dhcp + 1 } ∧ t.outs = s.outs ++ [Out.dhcp 3] ∧ t =
    { s with net := t.net, outs := t.outs }) ∧
  (∀ (s : State), s.fwRuns = true → s.get ETH_CTRL_DHCP = 1 → s.get ETH_STAT_BOUND = 1 → ∃ t, exec (.dhcpLeaseTimer
    .expire) s = .next t ∧ t.net = { s.net with dhcp := 1 } ∧ t.get ETH_STAT_BOUND = 0 ∧ t.outs = s.outs ++
    [Out.dhcp 1] ∧ t = { s with regs := t.regs, net := t.net, outs := t.outs } ∧ regsBut [ETH_STAT_BOUND] s t) ∧
  (∀ (s : State) (x : DhcpTimer), ((x = .renew ∧ s.net.dhcp ≠ 3) ∨ (x = .rebind ∧ s.net.dhcp ≠ 4) ∨ (x = .expire ∧
    s.get ETH_STAT_BOUND ≠ 1)) → ∃ t, exec (.dhcpLeaseTimer x) s = .next t ∧ t = s) ∧
  (∀ (s : State) (x : Int) (p : Nat), (s.fwRuns = false ∨ s.ptpActive = false) → ∃ t, exec (.ptpMessage x p) s =
    .next t ∧ t = s) ∧
  (∀ (s : State) (x : Int) (p : Nat), s.fwRuns = true → s.ptpActive = true → s.get ETH_PTPSTAT_LOCK = 0 → x.natAbs <
    100 * s.get ETH_PTPCTL_LOCKTH → x.natAbs ≤ 1000000 → (s.net.good + 1 < 16 ∨ s.net.hold = true) → ∃ t, exec
    (.ptpMessage x p) s = .next t ∧ t.net = { s.net with good := min 16 (s.net.good + 1) } ∧ t.getS ETH_PTPRES_RES =
    clampI (-(2 ^ 31)) (2 ^ 31 - 1) x ∧ t = { s with regs := t.regs, net := t.net } ∧ regsBut [ETH_PTPRES_RES] s t) ∧
  (∀ (s : State) (x : Int) (p : Nat), s.fwRuns = true → s.ptpActive = true → s.get ETH_PTPSTAT_LOCK = 0 → 100 *
    s.get ETH_PTPCTL_LOCKTH ≤ x.natAbs → x.natAbs ≤ 1000000 → ∃ t, exec (.ptpMessage x p) s = .next t ∧ t.net =
    { s.net with good := 0 } ∧ t.getS ETH_PTPRES_RES = clampI (-(2 ^ 31)) (2 ^ 31 - 1) x ∧ t =
    { s with regs := t.regs, net := t.net } ∧ regsBut [ETH_PTPRES_RES] s t) ∧
  (∀ (s : State) (x : Int) (p : Nat), s.fwRuns = true → s.ptpActive = true → s.get ETH_PTPSTAT_LOCK = 0 → x.natAbs <
    100 * s.get ETH_PTPCTL_LOCKTH → x.natAbs ≤ 1000000 → 15 ≤ s.net.good → s.net.hold = false → s.net.askOfs = false
    → s.get ETH_PTPSTAT_OFSVALID = 1 → ∃ t, exec (.ptpMessage x p) s = .next t ∧ t.net =
    { s.net with good := 16 } ∧ t.get ETH_PTPSTAT_LOCK = 1 ∧ t.getS ETH_PTPRES_RES = clampI (-(2 ^ 31)) (2 ^ 31 - 1)
    x ∧ raisedIn Src.ptpLock s t ∧ t = { s with regs := t.regs, evt := t.evt, mem := t.mem, net := t.net } ∧
    regsButEvt [ETH_PTPRES_RES, ETH_PTPSTAT_LOCK] s t) ∧
  (∀ (s : State) (x : Int) (p v : Nat), s.fwRuns = true → s.ptpActive = true → s.get ETH_PTPSTAT_LOCK = 0 → x.natAbs
    < 100 * s.get ETH_PTPCTL_LOCKTH → 15 ≤ s.net.good → s.net.hold = false → (s.net.askOfs = true ∨ s.get
    ETH_PTPSTAT_OFSVALID = 0) → v = unsgn 64 (2 * roundDiv ((p : Int) - floor2 s.time) 2) → ∃ t, exec (.ptpMessage x
    p) s = .next t ∧ t.net = { s.net with good := 16, askOfs := false } ∧ t.get ETH_PTPSTAT_LOCK = 1 ∧ t.get
    ETH_PTPSTAT_OFSVALID = 1 ∧ t.get ETH_PTPOFS_LO_OFS = v % 2 ^ 32 ∧ t.get ETH_PTPOFS_HI_OFS = v / 2 ^ 32 % 2 ^ 32
    ∧ raisedIn Src.ptpLock s t ∧ t = { s with regs := t.regs, evt := t.evt, mem := t.mem, net := t.net } ∧
    regsButEvt [ETH_PTPRES_RES, ETH_PTPSTAT_LOCK, ETH_PTPSTAT_OFSVALID, ETH_PTPOFS_LO_OFS, ETH_PTPOFS_HI_OFS] s t) ∧
  (∀ (s : State) (x : Int) (p : Nat), s.fwRuns = true → s.ptpActive = true → s.get ETH_PTPSTAT_OFSVALID = 1 →
    s.net.askOfs = false → 1000000 < x.natAbs → ∃ t, exec (.ptpMessage x p) s = .next t ∧ t.net =
    { s.net with good := 0, hold := true } ∧ t.get ETH_PTPSTAT_LOCK = (if s.get ETH_PTPSTAT_LOCK = 1 then 0 else
    s.get ETH_PTPSTAT_LOCK) ∧ t.getS ETH_PTPRES_RES = clampI (-(2 ^ 31)) (2 ^ 31 - 1) x ∧ t =
    { s with regs := t.regs, evt := t.evt, mem := t.mem, net := t.net } ∧ regsButEvt [ETH_PTPRES_RES,
    ETH_PTPSTAT_LOCK, ETH_PTPSTAT_LOSTSEEN] s t) ∧
  (∀ (s : State) (x : Int) (p : Nat), s.fwRuns = true → s.ptpActive = true → s.get ETH_PTPSTAT_LOCK = 1 → x.natAbs ≤
    1000000 → 4 * (100 * s.get ETH_PTPCTL_LOCKTH) < x.natAbs → ∃ t, exec (.ptpMessage x p) s = .next t ∧ t.net =
    { s.net with good := 0 } ∧ t.get ETH_PTPSTAT_LOCK = 0 ∧ t.get ETH_PTPSTAT_LOSTSEEN = 1 ∧ t.getS ETH_PTPRES_RES =
    clampI (-(2 ^ 31)) (2 ^ 31 - 1) x ∧ raisedIn Src.ptpLock s t ∧ t =
    { s with regs := t.regs, evt := t.evt, mem := t.mem, net := t.net } ∧ regsButEvt [ETH_PTPRES_RES,
    ETH_PTPSTAT_LOCK, ETH_PTPSTAT_LOSTSEEN] s t) ∧
  (∀ (s : State) (x : Int) (p : Nat), s.fwRuns = true → s.ptpActive = true → s.get ETH_PTPSTAT_LOCK = 1 → x.natAbs ≤
    1000000 → x.natAbs ≤ 4 * (100 * s.get ETH_PTPCTL_LOCKTH) → ∃ t, exec (.ptpMessage x p) s = .next t ∧ t.getS
    ETH_PTPSTAT_ADJ = (Config.freeValue s.free % 20001 : Nat) - 10000 ∧ t.get ETH_PTPSTAT_LOCK = 1 ∧ t.free = s.free
    + 1 ∧ t = { s with regs := t.regs, net := t.net, free := t.free } ∧ regsBut [ETH_PTPRES_RES, ETH_PTPSTAT_ADJ] s
    t) ∧
  (∀ (s : State), (s.fwRuns = false ∨ s.get ETH_PTPCTL_EN ≠ 1) → ∃ t, exec (.ptpSyncTimeout) s = .next t ∧ t = s) ∧
  (∀ (s : State), s.fwRuns = true → s.get ETH_PTPCTL_EN = 1 → s.get ETH_PTPSTAT_LOCK = 1 → ∃ t, exec
    (.ptpSyncTimeout) s = .next t ∧ t.net = { s.net with good := 0 } ∧ t.get ETH_PTPSTAT_LOCK = 0 ∧ t.get
    ETH_PTPSTAT_LOSTSEEN = 1 ∧ raisedIn Src.ptpLock s t ∧ t =
    { s with regs := t.regs, evt := t.evt, mem := t.mem, net := t.net } ∧ regsButEvt [ETH_PTPSTAT_LOCK,
    ETH_PTPSTAT_LOSTSEEN] s t) ∧
  (∀ (s : State), s.fwRuns = true → s.get ETH_PTPCTL_EN = 1 → s.get ETH_PTPSTAT_LOCK ≠ 1 → ∃ t, exec
    (.ptpSyncTimeout) s = .next t ∧ t = { s with net := { s.net with good := 0 } }) ∧
  (∀ (s : State) (r : Requester), s.protected r 0xC050 = false → ∃ t, exec (.ptpReofs r) s = .next t ∧ t =
    { s with net := { s.net with askOfs := true, hold := false, good := 0 } }) ∧
  (∀ (s : State) (l f : Bool) (n : Nat), (s.fwRuns = false ∨ (b2n l = s.get ETH_STAT_LINK ∧ n % 4 = s.get
    ETH_STAT_SPEED ∧ b2n f = s.get ETH_STAT_FDX)) → ∃ t, exec (.phyStatusPoll l n f) s = .next t ∧ t = s) ∧
  (∀ (s : State) (l f : Bool) (n : Nat), s.fwRuns = true → s.get ETH_STAT_LINK < 2 → s.get ETH_STAT_FDX < 2 → (b2n l
    ≠ s.get ETH_STAT_LINK ∨ n % 4 ≠ s.get ETH_STAT_SPEED ∨ b2n f ≠ s.get ETH_STAT_FDX) → ∃ t, exec (.phyStatusPoll l
    n f) s = .next t ∧ t.get ETH_STAT_LINK = b2n l ∧ t.get ETH_STAT_SPEED = n % 4 ∧ t.get ETH_STAT_FDX = b2n f ∧
    raisedIn Src.ethLink s t ∧ t = { s with regs := t.regs, evt := t.evt, mem := t.mem } ∧ regsButEvt
    [ETH_STAT_LINK, ETH_STAT_SPEED, ETH_STAT_FDX] s t) ∧
  (∀ (s : State) (r : Requester) (v : Word), s.protected r 0xC020 = false → s.get ETH_MDIOCMD_BUSY = 0 → ∃ t, exec
    (.mdioGo r v) s = .next t ∧ t.get ETH_MDIOCMD_BUSY = 1 ∧ t.net =
    { s.net with mdio := some (if t.get ETH_MDIOCMD_OP = 1 then some (t.get ETH_MDIOCMD_DATA) else none) } ∧ (∀ f ∈
    fieldsAt 0xC020, (f.ty = .rw → t.get f = bits v.toNat f.lo f.width)) ∧ t =
    { s with regs := t.regs, net := t.net } ∧ regsBut (fieldsAt 0xC020) s t) ∧
  (∀ (s : State) (r : Requester) (v : Word), s.protected r 0xC020 = false → s.get ETH_MDIOCMD_BUSY = 1 → ∃ t, exec
    (.mdioGo r v) s = .next t ∧ t.get ETH_MDIOCMD_BUSY = 1 ∧ t =
    { s with regs := t.regs } ∧ regsBut (fieldsAt 0xC020) s t) ∧
  (∀ (s : State) (d : Nat), s.net.mdio = none → ∃ t, exec (.mdioAccessDone d) s = .next t ∧ t = s) ∧
  (∀ (s : State) (d : Nat) (w : Option Nat), s.net.mdio = some w → ∃ t, exec (.mdioAccessDone d) s = .next t ∧ t.get
    ETH_MDIOCMD_BUSY = 0 ∧ t.get ETH_MDIOCMD_DATA = (if w = none then d % 2 ^ 16 else s.get ETH_MDIOCMD_DATA) ∧
    t.net = { s.net with mdio := none } ∧ t = { s with regs := t.regs, net := t.net } ∧ regsBut [ETH_MDIOCMD_BUSY,
    ETH_MDIOCMD_DATA] s t)

/-- Listening, links, TIME messages, pulses, slews, orphans and rejoins of a module act as the chain chapter says. (spec/16_chain.md R410, R411, R412, R413, R414, R415, R416, R417, R418, R419, spec/17_startup_reset_update.md R436, R437, spec/19_electrical_mechanical.md R479) -/
def Obligations.ChainLinksTimeAndPulsesFollowTheirRules : Prop :=
  (∀ (s : State), s.chain.listening = false → ∃ t, exec (.chainListenTimeout) s = .next t ∧ t = s) ∧
  (∀ (s : State), s.chain.listening = true → s.chain.next ≠ none → ∃ t, exec (.chainListenTimeout) s = .next t ∧ t =
    { s with chain := { s.chain with listening := false } }) ∧
  (∀ (s : State), s.chain.listening = true → s.chain.next = none → (onesOf 8 s.strapsSeen).head?.getD 0 = s.get
    CHN_STAT_INDEX → ∃ t, exec (.chainListenTimeout) s = .next t ∧ t.get CHN_STAT_STATE = 2 ∧ t.get CHN_STAT_MSTIDX
    = s.get CHN_STAT_INDEX % 8 ∧ t.get GLB_STAT_UNSYNC = 0 ∧ t.get CHN_RUN_RUN = s.get GLB_RSTCAUSE_BOOTS % 256 ∧
    t.chain = { s.chain with listening := false } ∧ t =
    { s with regs := t.regs, chain := t.chain } ∧ regsOutside [] (grantFlds ++ [GLB_STAT_UNSYNC, CHN_STAT_STATE,
    CHN_STAT_MSTIDX, CHN_STAT_MEMBERS, CHN_STAT_MSTCONF, CHN_RUN_RUN]) s t) ∧
  (∀ (s : State) (i : Nat), s.chain.listening = true → s.chain.next = none → (onesOf 8 s.strapsSeen).head? = some i
    → i ≠ s.get CHN_STAT_INDEX → ∃ t, exec (.chainListenTimeout) s = .next t ∧ t.get CHN_STAT_MSTCONF = (if
    s.fuses.strap = true then 1 else s.get CHN_STAT_MSTCONF) ∧ t.chain =
    { s.chain with listening := false } ∧ t = { s with regs := t.regs, chain := t.chain } ∧ regsBut
    [CHN_STAT_MSTCONF] s t) ∧
  (∀ (s : State), s.chain.listening = true → s.chain.next = none → (onesOf 8 s.strapsSeen).head? = none → s.get
    CHN_STAT_INDEX ≠ 0 → ∃ t, exec (.chainListenTimeout) s = .next t ∧ t =
    { s with chain := { s.chain with listening := false } }) ∧
  (∀ (s : State) (p : ChainPort) (i : LinkInfo), s.chain.size ≤ 1 → ∃ t, exec (.chainLinkUp p (some i)) s = .next t
    ∧ t = s) ∧
  (∀ (s : State) (i : LinkInfo) (k : Nat), 1 < s.chain.size → i.overlap = s.get CHN_SPLICE_LW / 2 * 2 → i.index =
    some k → k < 7 → ∃ t, exec (.chainLinkUp .low (some i)) s = .next t ∧ t.get CHN_STAT_LLINK = 1 ∧ t.get
    CHN_STAT_INDEX = k + 1 ∧ t.get GLB_STAT_CHIDX = k + 1 ∧ t.get CHN_OFFSET_LANE0 = (i.offset + i.lanes -
    i.overlap) % 2 ^ 14 ∧ t.chain = { s.chain with low := some i, lowBad := false } ∧ t.outs = s.outs ++ [Out.chain
    .low .echo] ∧ t = { s with regs := t.regs, chain := t.chain, outs := t.outs } ∧ regsBut [CHN_STAT_LLINK,
    CHN_STAT_INDEX, GLB_STAT_CHIDX, CHN_OFFSET_LANE0, CHN_STAT_MEMBERS] s t) ∧
  (∀ (s : State) (i : LinkInfo), 1 < s.chain.size → i.overlap = s.get CHN_SPLICE_HW / 2 * 2 → ∃ t, exec
    (.chainLinkUp .high (some i)) s = .next t ∧ t.get CHN_STAT_HLINK = 1 ∧ t.chain =
    { s.chain with high := some i, highBad := false } ∧ t.outs = s.outs ++ [Out.chain .high .echo] ∧ t =
    { s with regs := t.regs, chain := t.chain, outs := t.outs } ∧ regsBut [CHN_STAT_HLINK, CHN_STAT_MEMBERS] s t) ∧
  (∀ (s : State) (i : LinkInfo), 1 < s.chain.size → i.overlap ≠ s.get CHN_SPLICE_LW / 2 * 2 → ∃ t, exec
    (.chainLinkUp .low (some i)) s = .next t ∧ t.get CHN_STAT_LLINK = 1 ∧ t.get CHN_STAT_SPLICEERR = 1 ∧ raisedIn
    Src.chnLinkErr s t ∧ t.chain = { s.chain with low := none, lowBad := true } ∧ t =
    { s with regs := t.regs, evt := t.evt, mem := t.mem, chain := t.chain } ∧ regsButEvt [CHN_STAT_LLINK,
    CHN_STAT_SPLICEERR] s t) ∧
  (∀ (s : State) (i : LinkInfo), 1 < s.chain.size → i.overlap ≠ s.get CHN_SPLICE_HW / 2 * 2 → ∃ t, exec
    (.chainLinkUp .high (some i)) s = .next t ∧ t.get CHN_STAT_HLINK = 1 ∧ t.get CHN_STAT_SPLICEERR = 1 ∧ raisedIn
    Src.chnLinkErr s t ∧ t.chain = { s.chain with high := none, highBad := true } ∧ t =
    { s with regs := t.regs, evt := t.evt, mem := t.mem, chain := t.chain } ∧ regsButEvt [CHN_STAT_HLINK,
    CHN_STAT_SPLICEERR] s t) ∧
  (∀ (s : State) (i : LinkInfo) (k : Nat), 1 < s.chain.size → i.overlap = s.get CHN_SPLICE_LW / 2 * 2 → i.index =
    some k → 7 ≤ k → ∃ t, exec (.chainLinkUp .low (some i)) s = .next t ∧ t.get CHN_STAT_LLINK = 1 ∧ raisedIn
    Src.chnLinkErr s t ∧ t.chain = { s.chain with low := some i, lowBad := false } ∧ t.outs.getLast? = some
    (Out.chain .low .echo) ∧ t = { s with regs := t.regs, evt := t.evt, mem := t.mem, chain := t.chain, outs :=
                                            t.outs } ∧ regsButEvt [CHN_STAT_LLINK, CHN_STAT_MEMBERS] s t) ∧
  (∀ (s : State) (i : LinkInfo), 1 < s.chain.size → i.overlap = s.get CHN_SPLICE_LW / 2 * 2 → i.index = none → ∃ t,
    exec (.chainLinkUp .low (some i)) s = .next t ∧ t.get CHN_STAT_LLINK = 1 ∧ t.chain =
    { s.chain with low := some i, lowBad := false } ∧ t.outs = s.outs ++ [Out.chain .low .echo] ∧ t =
    { s with regs := t.regs, chain := t.chain, outs := t.outs } ∧ regsBut [CHN_STAT_LLINK, CHN_STAT_MEMBERS] s t) ∧
  (∀ (s : State) (p : ChainPort), 1 < s.chain.size → ∃ t, exec (.chainLinkUp p none) s = .next t ∧ raisedIn
    Src.chnLinkErr s t ∧ t = { s with regs := t.regs, evt := t.evt, mem := t.mem } ∧ regsButEvt [] s t) ∧
  (∀ (s : State) (p : ChainPort), s.chain.size ≤ 1 → ∃ t, exec (.chainLinkUp p none) s = .next t ∧ t = s) ∧
  (∀ (s : State) (p : ChainPort), s.chain.size ≤ 1 → ∃ t, exec (.chainLinkDown p) s = .next t ∧ t = s) ∧
  (∀ (s : State) (p : ChainPort), 1 < s.chain.size → s.get CHN_STAT_STATE = 1 → p = (if s.get CHN_STAT_MSTIDX <
    s.get CHN_STAT_INDEX then .low else .high) → ∃ t, exec (.chainLinkDown p) s = .next t ∧ orphaned s t ∧ (if p =
    .low then t.chain.low = none ∧ t.get CHN_STAT_LLINK = 0 else t.chain.high = none ∧ t.get CHN_STAT_HLINK = 0) ∧ t
    = { s with regs := t.regs, evt := t.evt, mem := t.mem, cal := t.cal, chain := t.chain, baind := t.baind, outs :=
                 t.outs } ∧ regsOutside [Blk.EVT] (grantFlds ++ [MEM_TESTABORTS_COUNT, GLB_STAT_UNSYNC,
    CAL_STATUS_PHASE, CAL_STATUS_COMPUTE, CAL_STATUS_PENDING, CHN_STAT_STATE, CHN_STAT_MEMBERS, CHN_STAT_LLINK,
    CHN_STAT_HLINK, CHN_STAT_HITCH, CHN_ORPHANCNT_COUNT]) s t) ∧
  (∀ (s : State), 1 < s.chain.size → s.get CHN_STAT_STATE = 1 → s.get CHN_STAT_MSTIDX < s.get CHN_STAT_INDEX → ∃ t,
    exec (.chainLinkDown .high) s = .next t ∧ t.chain =
    { s.chain with high := none, highBad := false } ∧ t.get CHN_STAT_HLINK = 0 ∧ t =
    { s with regs := t.regs, chain := t.chain } ∧ regsBut [CHN_STAT_HLINK, CHN_STAT_MEMBERS] s t) ∧
  (∀ (s : State), 1 < s.chain.size → s.get CHN_STAT_STATE = 2 → ∃ t, exec (.chainLinkDown .low) s = .next t ∧
    t.chain = { s.chain with low := none, lowBad := false, grants := s.chain.grants.filter (fun g => decide (s.get
                               CHN_STAT_INDEX ≤ g.2)) } ∧ t.get CHN_STAT_LLINK = 0 ∧ t =
    { s with regs := t.regs, chain := t.chain } ∧ regsBut [CHN_STAT_LLINK, CHN_STAT_MEMBERS, CHN_GRANTSTAT_HOLDER,
    CHN_GRANTSTAT_HELD, CHN_GRANTSTAT_QUEUE] s t) ∧
  (∀ (s : State) (m : TimeMsg), (s.chain.size ≤ 1 ∨ s.side m.port = none) → ∃ t, exec (.timeMessage true m) s =
    .next t ∧ t = s) ∧
  (∀ (s : State) (m : TimeMsg), 1 < s.chain.size → s.side m.port ≠ none → (m.state = 3 ∨ s.get CHN_STAT_STATE = 2) →
    ∃ t, exec (.timeMessage true m) s = .next t ∧ t.chain = toldOrphan m.port (m.state == 3) s.chain ∧ t =
    { s with regs := t.regs, chain := t.chain } ∧ regsBut [CHN_STAT_MEMBERS] s t) ∧
  (∀ (s : State) (m : TimeMsg), 1 < s.chain.size → s.get CHN_STAT_STATE ≠ 2 → s.get CHN_STAT_STATE ≠ 1 → m.state ≠ 3
    → s.side m.port ≠ none → ∃ t, exec (.timeMessage true m) s = .next t ∧ t =
    { s with chain := { toldOrphan m.port false s.chain with next := some m, heard := true } }) ∧
  (∀ (s : State) (m : TimeMsg), 1 < s.chain.size → s.get CHN_STAT_STATE = 1 → m.state ≠ 3 → s.side m.port ≠ none → ∃
    t, exec (.timeMessage true m) s = .next t ∧ t.get CHN_STAT_MSTIDX = m.master % 8 ∧ t.get CHN_RUN_RUN = m.run %
    256 ∧ t.get STG_FRATE_RATE = (m.pendingRate.getD m.rate) % 2 ^ 14 ∧ t.outs = s.outs ++ (if (s.side (otherPort
    m.port)).isSome = true then [Out.chain (otherPort m.port) (.time
    { m with port := otherPort m.port, sender := s.get CHN_STAT_INDEX, state := 1 })] else []) ∧ t.chain =
    { toldOrphan m.port false s.chain with next := some m, heard := true, rateNext := rateToCome m s } ∧ t.braid =
    { s.braid with busy := s.braid.busy || (t.get STG_FRATE_RATE != s.get STG_FRATE_RATE && s.get BRD_CTRL_AUTO ==
                     1) } ∧ t = { s with regs := t.regs, braid := t.braid, chain := t.chain, outs := t.outs } ∧
    regsBut [CHN_STAT_MSTIDX, CHN_RUN_RUN, STG_FRATE_RATE, CHN_STAT_MEMBERS] s t) ∧
  (∀ (s : State) (m : TimeMsg), s.chain.size ≤ 1 → ∃ t, exec (.timeMessage false m) s = .next t ∧ t = s) ∧
  (∀ (s : State) (m : TimeMsg), 1 < s.chain.size → ∃ t, exec (.timeMessage false m) s = .next t ∧ t.get
    CHN_LINKERRCNT_COUNT = satAdd 31 (s.get CHN_LINKERRCNT_COUNT) 1 % 2 ^ 31 ∧ t =
    { s with regs := t.regs } ∧ regsBut [CHN_LINKERRCNT_COUNT] s t) ∧
  (∀ (s : State) (p : ChainPort), (s.chain.next.map (·.port) ≠ some p ∨ s.chain.size ≤ 1 ∨ s.get CHN_STAT_STATE = 2)
    → ∃ t, exec (.chainSyncPulse p) s = .next t ∧ t = s) ∧
  (∀ (s : State) (p : ChainPort) (m : TimeMsg), 1 < s.chain.size → s.get CHN_STAT_STATE ≠ 2 → s.chain.next = some m
    → m.port = p → s.chain.heard = false → ∃ t, exec (.chainSyncPulse p) s = .next t ∧ t =
    { s with chain := { s.chain with good := 0 } }) ∧
  (∀ (s : State) (p : ChainPort) (m : TimeMsg), 1 < s.chain.size → s.get CHN_STAT_STATE ≠ 2 → s.get CHN_STAT_STATE ≠
    1 → s.chain.next = some m → m.port = p → s.chain.heard = true → ∃ t, exec (.chainSyncPulse p) s = .next t ∧ t =
    { s with chain := { s.chain with heard := false, good := s.chain.good + 1 } }) ∧
  (∀ (s : State) (p : ChainPort) (m : TimeMsg), 1 < s.chain.size → s.get CHN_STAT_STATE = 1 → s.chain.next = some m
    → m.port = p → s.chain.heard = true → ((floor2 s.time : Int) - floor2 (m.time + (if p = .low then s.get
    CHN_DELAY_L else s.get CHN_DELAY_H))).natAbs ≤ 6 → ∃ t, exec (.chainSyncPulse p) s = .next t ∧ t.time = floor2
    (m.time + (if p = .low then s.get CHN_DELAY_L else s.get CHN_DELAY_H)) ∧ t.chain =
    { s.chain with heard := false, good := s.chain.good + 1 } ∧ t.outs = s.outs ++ (if (s.side (otherPort p)).isSome
    = true then [Out.chain (otherPort p) .pulse] else []) ∧ t =
    { s with time := t.time, chain := t.chain, outs := t.outs }) ∧
  (∀ (s : State) (p : ChainPort) (m : TimeMsg), 1 < s.chain.size → s.get CHN_STAT_STATE = 1 → s.chain.next = some m
    → m.port = p → s.chain.heard = true → 6 < ((floor2 s.time : Int) - floor2 (m.time + (if p = .low then s.get
    CHN_DELAY_L else s.get CHN_DELAY_H))).natAbs → ((floor2 s.time : Int) - floor2 (m.time + (if p = .low then s.get
    CHN_DELAY_L else s.get CHN_DELAY_H))).natAbs ≤ 1000 → ∃ t, exec (.chainSyncPulse p) s = .next t ∧ t.chain =
    { s.chain with heard := false, good := s.chain.good + 1, slew := -(((floor2 s.time : Int) - floor2 (m.time + (if
                     p = .low then s.get CHN_DELAY_L else s.get CHN_DELAY_H))) / 2) } ∧ t.getS CHN_HITCHD_D =
    (floor2 s.time : Int) - floor2 (m.time + (if p = .low then s.get CHN_DELAY_L else s.get CHN_DELAY_H)) ∧ t.get
    CHN_STAT_HITCH = 1 ∧ t.get CHN_HITCHCNT_COUNT = satAdd 31 (s.get CHN_HITCHCNT_COUNT) 1 % 2 ^ 31 ∧ raisedIn
    Src.hitch s t ∧ t.outs = s.outs ++ (if (s.side (otherPort p)).isSome = true then [Out.chain (otherPort p)
    .pulse] else []) ∧ t = { s with regs := t.regs, evt := t.evt, mem := t.mem, chain := t.chain, outs := t.outs } ∧
    regsButEvt [CHN_HITCHD_D, CHN_STAT_HITCH, CHN_HITCHCNT_COUNT] s t) ∧
  (∀ (s : State) (p : ChainPort) (m : TimeMsg), 1 < s.chain.size → s.get CHN_STAT_STATE = 1 → s.chain.next = some m
    → m.port = p → s.chain.heard = true → 1000 < ((floor2 s.time : Int) - floor2 (m.time + (if p = .low then s.get
    CHN_DELAY_L else s.get CHN_DELAY_H))).natAbs → ∃ t, exec (.chainSyncPulse p) s = .next t ∧ orphaned s t ∧ t.time
    = s.time ∧ t = { s with time := t.time, regs := t.regs, evt := t.evt, mem := t.mem, cal := t.cal, chain :=
                              t.chain, baind := t.baind, outs := t.outs } ∧ regsOutside [Blk.EVT] (grantFlds ++
    [MEM_TESTABORTS_COUNT, GLB_STAT_UNSYNC, CAL_STATUS_PHASE, CAL_STATUS_COMPUTE, CAL_STATUS_PENDING,
    CHN_STAT_STATE, CHN_STAT_MEMBERS, CHN_STAT_HITCH, CHN_HITCHD_D, CHN_HITCHCNT_COUNT, CHN_ORPHANCNT_COUNT]) s t) ∧
  (∀ (s : State), s.chain.slew = 0 → ∃ t, exec (.hitchSlewStep) s = .next t ∧ t = s) ∧
  (∀ (s : State), 0 < s.chain.slew → ∃ t, exec (.hitchSlewStep) s = .next t ∧ t.time = s.time + 1000 + 2 ∧ t.chain =
    { s.chain with slew := s.chain.slew - 1 } ∧ t.get CHN_STAT_HITCH = (if s.chain.slew = 1 then 0 else s.get
    CHN_STAT_HITCH) ∧ t = { s with regs := t.regs, time := t.time, chain := t.chain } ∧ regsBut [CHN_STAT_HITCH] s
    t) ∧
  (∀ (s : State), s.chain.slew < 0 → ∃ t, exec (.hitchSlewStep) s = .next t ∧ t.time = s.time + 1000 - 2 ∧ t.chain =
    { s.chain with slew := s.chain.slew + 1 } ∧ t.get CHN_STAT_HITCH = (if s.chain.slew = -1 then 0 else s.get
    CHN_STAT_HITCH) ∧ t = { s with regs := t.regs, time := t.time, chain := t.chain } ∧ regsBut [CHN_STAT_HITCH] s
    t) ∧
  (∀ (s : State), s.get CHN_STAT_STATE = 1 → ∃ t, exec (.chainPulseMissing) s = .next t ∧ orphaned s t ∧ t =
    { s with regs := t.regs, evt := t.evt, mem := t.mem, cal := t.cal, chain := t.chain, baind := t.baind, outs :=
               t.outs } ∧ regsOutside [Blk.EVT] (grantFlds ++ [MEM_TESTABORTS_COUNT, GLB_STAT_UNSYNC,
    CAL_STATUS_PHASE, CAL_STATUS_COMPUTE, CAL_STATUS_PENDING, CHN_STAT_STATE, CHN_STAT_MEMBERS, CHN_STAT_HITCH,
    CHN_ORPHANCNT_COUNT]) s t) ∧
  (∀ (s : State), s.get CHN_STAT_STATE ≠ 1 → ∃ t, exec (.chainPulseMissing) s = .next t ∧ t =
    { s with chain := { s.chain with good := 0, heard := false } }) ∧
  (∀ (s : State) (r : Requester), s.protected r 0xC800 = false → s.get CHN_STAT_STATE = 1 → ∃ t, exec (.chnResync r)
    s = .next t ∧ orphaned s t ∧ t = { s with regs := t.regs, evt := t.evt, mem := t.mem, cal := t.cal, chain :=
                                                t.chain, baind := t.baind, outs := t.outs } ∧ regsOutside [Blk.GLB,
    Blk.EVT] (grantFlds ++ [MEM_TESTABORTS_COUNT, CAL_STATUS_PHASE, CAL_STATUS_COMPUTE, CAL_STATUS_PENDING,
    CHN_STAT_STATE, CHN_STAT_MEMBERS, CHN_STAT_HITCH, CHN_ORPHANCNT_COUNT]) s t) ∧
  (∀ (s : State) (r : Requester), s.protected r 0xC800 = false → s.get CHN_STAT_STATE ≠ 1 → ∃ t, exec (.chnResync r)
    s = .next t ∧ t = s) ∧
  (∀ (s : State), (s.chain.next = none ∨ s.get CHN_STAT_STATE ≠ 3 ∨ s.chain.size ≤ 1 ∨ s.chain.good < 16 ∨ s.get
    CAL_STATUS_BLIND = 1) → ∃ t, exec (.chainRejoin) s = .next t ∧ t = s) ∧
  (∀ (s : State) (m : TimeMsg), s.chain.next = some m → s.get CHN_STAT_STATE = 3 → 1 < s.chain.size → 16 ≤
    s.chain.good → s.get CAL_STATUS_BLIND ≠ 1 → s.get CAL_STATUS_PHASE < 2 → s.chain.low = none → s.chain.handover =
    none → s.sensor.staged = [] → ∃ t, exec (.chainRejoin) s = .next t ∧ t.get CHN_STAT_STATE = 1 ∧ t.get
    GLB_STAT_UNSYNC = 0 ∧ t.get CHN_STAT_MSTIDX = m.master % 8 ∧ t.get CHN_RUN_RUN = m.run % 256 ∧ t.time = floor2
    m.time ∧ t.get CHN_REJOIN_LO_STAMP = floor2 m.time % 2 ^ 32 ∧ t.get CHN_REJOIN_HI_STAMP = floor2 m.time / 2 ^ 32
    % 2 ^ 32 ∧ t.get STG_FRAMECNT_COUNT = (s.get STG_FRAMECNT_COUNT + 1) % 2 ^ 32 ∧ t.sensor.rate = m.rate ∧
    raisedIn Src.rejoin s t ∧ t.chain.good = 0 ∧ t.sensor.gridBase = floor2 m.time ∧ t.sensor.gridK = 0 ∧ t =
    { s with time := t.time, regs := t.regs, free := t.free, evt := t.evt, mem := t.mem, mbx := t.mbx, sensor :=
               t.sensor, stage := t.stage, corr := t.corr, cal := t.cal, gref := t.gref, trk := t.trk, tmx := t.tmx,
             loops := t.loops, live := t.live, braid := t.braid, knots := t.knots, sched := t.sched, valves :=
               t.valves, chain := t.chain, baind := t.baind, ssp := t.ssp, flash := t.flash, tap := t.tap, house :=
               t.house, fb := t.fb, outs := t.outs } ∧ regsOutside [Blk.EVT, Blk.TIL, Blk.COR, Blk.BRD, Blk.VLV,
    Blk.VBK, Blk.MBX] (driveFlds ++ boxFlds ++ grantFlds ++ [MEM_TESTABORTS_COUNT, GLB_STAT_UNSYNC,
    STG_CTRL_BIAS_EN, STG_FRATE_RATE, STG_FRATE_PEND, STG_BIAS_APPLIED, STG_BIAS_PEND, STG_STAT_BIAS_RAMP,
    STG_STAT_CFGERR, STG_STAT_SETTLE, STG_FRAMECNT_COUNT, STG_CFGFRAME_FRAME, CAL_STATUS_PHASE, CAL_STATUS_COMPUTE,
    CAL_STATUS_BLIND, CAL_STATUS_PENDING, CAL_STATUS_BACKOFF, CAL_COUNT_COUNT, CAL_LASTTIME_LO_STAMP,
    CAL_LASTTIME_HI_STAMP, CAL_LASTSTAGE_TEMP, CAL_LASTRESULT_CODE, CAL_LASTRESULT_TRIG, CAL_LASTRESULT_ORPHAN,
    CAL_LASTRESULT_TRIMDROP, CAL_BLIND_US, CAL_ANCHOR_A, CAL_ANCHOR_VALID, CAL_TRKSTAT_FROZEN, KNT_STAT_FULL,
    KNT_STAT_WRERR, KNT_STAT_FULLSEEN, KNT_OPEN_NOW, KNT_OPEN_MAX, KNT_DROPCNT_COUNT, VRD_CTRL_ACTBANK,
    VRD_CTRL_SWPEND, EJS_CTRL_MAPACT, EJS_CTRL_MAPPEND, EJS_STAT_DROP, EJS_STAT_CLIP, EJS_FIRECNT_COUNT,
    EJS_MERGECNT_COUNT, EJS_DROPCNT_COUNT, EJS_CLIPCNT_COUNT, EJS_QOCC_MAX, EJS_QOCC_MAXCH, ARB_CTRL_EN,
    ARB_LYSTAT_OPEN, MEM_DDRSTAT_SELFREF, ETH_PTPSTAT_OFSVALID, ETH_PTPOFS_LO_OFS, ETH_PTPOFS_HI_OFS,
    ETH_TAPCTL_BUSY, ETH_TAPSTAT_RECSIZE, ETH_TAPSTAT_HALT, ETH_TAPDROP_MISSED, CHN_STAT_STATE, CHN_STAT_MSTIDX,
    CHN_STAT_MEMBERS, CHN_REJOIN_LO_STAMP, CHN_REJOIN_HI_STAMP, CHN_RUN_RUN, TMX_BLINDACT_TILES, TMX_TPCTL_PEND,
    TMX_TPSTAT_ACTIVE]) s t)

/-- The master queues, grants and frees blind time in stamp order; members pass messages on; mastership moves by HANDOVER. (spec/16_chain.md R410, R411, R413, R415, R420, R421, spec/05_calibration.md R118, R121, log entry 99) -/
def Obligations.GrantsMastershipAndEchoesFollowTheirRules : Prop :=
  (∀ (s : State) (j p : Nat), s.get CHN_STAT_STATE = 2 → s.chain.holder = none → s.chain.grants = [] → j ≠ s.get
    CHN_STAT_INDEX → ∃ t, exec (.grantReq true j p) s = .next t ∧ t.chain =
    { s.chain with holder := some (j, s.time) } ∧ t.get CHN_GRANTSTAT_HOLDER = j % 8 ∧ t.get CHN_GRANTSTAT_HELD = 1
    ∧ t.get CHN_GRANTSTAT_QUEUE = 0 ∧ t.outs = s.outs ++ [Out.chain (if j < s.get CHN_STAT_INDEX then .low else
    .high) (.grant j (s.boundaryFrom (max (s.time + 1000000000 / max 1 s.sensor.rate) (if s.chain.released = 0 then
    0 else s.chain.released - 1 + s.get CHN_GRANTCFG_GAP * 1000000))))] ∧ t =
    { s with regs := t.regs, chain := t.chain, outs := t.outs } ∧ regsBut [CHN_GRANTSTAT_HOLDER, CHN_GRANTSTAT_HELD,
    CHN_GRANTSTAT_QUEUE] s t) ∧
  (∀ (s : State) (j p : Nat) (x : Nat × Nat), s.get CHN_STAT_STATE = 2 → s.chain.holder = some x → ∃ t, exec
    (.grantReq true j p) s = .next t ∧ t.chain = { s.chain with grants := t.chain.grants } ∧ t.chain.grants.Perm
    ((p, j) :: s.chain.grants.filter (fun g => g.2 != j)) ∧ (stampOrder s.chain.grants → stampOrder t.chain.grants)
    ∧ (∀ i : Nat, i < 8 → bitOf (t.get CHN_GRANTSTAT_QUEUE) i = t.chain.grants.any (fun g => g.2 == i)) ∧ t =
    { s with regs := t.regs, chain := t.chain } ∧ regsBut [CHN_GRANTSTAT_HOLDER, CHN_GRANTSTAT_HELD,
    CHN_GRANTSTAT_QUEUE] s t) ∧
  (∀ (s : State) (j p : Nat), s.get CHN_STAT_STATE = 1 → ∃ t, exec (.grantReq true j p) s = .next t ∧ t.outs =
    s.outs ++ (if (s.side (if s.get CHN_STAT_MSTIDX < s.get CHN_STAT_INDEX then .low else .high)).isSome = true then
    [Out.chain (if s.get CHN_STAT_MSTIDX < s.get CHN_STAT_INDEX then .low else .high) (.grantReq j p)] else []) ∧ t
    = { s with outs := t.outs }) ∧
  (∀ (s : State) (j p : Nat), s.get CHN_STAT_STATE ≠ 1 → s.get CHN_STAT_STATE ≠ 2 → ∃ t, exec (.grantReq true j p) s
    = .next t ∧ t = s) ∧
  (∀ (s : State) (j : Nat) (x : Nat), s.get CHN_STAT_STATE = 2 → s.chain.holder = some (j, x) → s.chain.grants = []
    → ∃ t, exec (.release true j) s = .next t ∧ t.chain =
    { s.chain with holder := none, released := s.time + 1 } ∧ t.get CHN_GRANTSTAT_HOLDER = 0 ∧ t.get
    CHN_GRANTSTAT_HELD = 0 ∧ t.get CHN_GRANTSTAT_QUEUE = 0 ∧ t =
    { s with regs := t.regs, chain := t.chain } ∧ regsBut [CHN_GRANTSTAT_HOLDER, CHN_GRANTSTAT_HELD,
    CHN_GRANTSTAT_QUEUE] s t) ∧
  (∀ (s : State) (k x p j : Nat) (r : List (Nat × Nat)), s.get CHN_STAT_STATE = 2 → s.chain.holder = some (k, x) →
    s.chain.grants = (p, j) :: r → j ≠ s.get CHN_STAT_INDEX → ∃ t, exec (.release true k) s = .next t ∧ t.chain =
    { s.chain with holder := some (j, s.time), grants := r, released := s.time + 1 } ∧ t.get CHN_GRANTSTAT_HOLDER =
    j % 8 ∧ t.get CHN_GRANTSTAT_HELD = 1 ∧ (∀ i : Nat, i < 8 → bitOf (t.get CHN_GRANTSTAT_QUEUE) i =
    t.chain.grants.any (fun g => g.2 == i)) ∧ t.outs = s.outs ++ [Out.chain (if j < s.get CHN_STAT_INDEX then .low
    else .high) (.grant j (s.boundaryFrom (max (s.time + 1000000000 / max 1 s.sensor.rate) (s.time + s.get
    CHN_GRANTCFG_GAP * 1000000))))] ∧ t = { s with regs := t.regs, chain := t.chain, outs := t.outs } ∧ regsBut
    [CHN_GRANTSTAT_HOLDER, CHN_GRANTSTAT_HELD, CHN_GRANTSTAT_QUEUE] s t) ∧
  (∀ (s : State) (j k x : Nat), s.get CHN_STAT_STATE = 2 → s.chain.holder = some (k, x) → j ≠ k → ∃ t, exec
    (.release true j) s = .next t ∧ t.chain = { s.chain with grants := s.chain.grants.filter (fun g => g.2 != j) } ∧
    (∀ i : Nat, i < 8 → bitOf (t.get CHN_GRANTSTAT_QUEUE) i = t.chain.grants.any (fun g => g.2 == i)) ∧ t =
    { s with regs := t.regs, chain := t.chain } ∧ regsBut [CHN_GRANTSTAT_HOLDER, CHN_GRANTSTAT_HELD,
    CHN_GRANTSTAT_QUEUE] s t) ∧
  (∀ (s : State) (j : Nat), s.get CHN_STAT_STATE = 1 → ∃ t, exec (.release true j) s = .next t ∧ t.outs = s.outs ++
    (if (s.side (if s.get CHN_STAT_MSTIDX < s.get CHN_STAT_INDEX then .low else .high)).isSome = true then
    [Out.chain (if s.get CHN_STAT_MSTIDX < s.get CHN_STAT_INDEX then .low else .high) (.release j)] else []) ∧ t =
    { s with outs := t.outs }) ∧
  (∀ (s : State) (j : Nat), s.get CHN_STAT_STATE ≠ 1 → s.get CHN_STAT_STATE ≠ 2 → ∃ t, exec (.release true j) s =
    .next t ∧ t = s) ∧
  (∀ (s : State) (b : Nat), s.chain.asked = true → s.get CAL_STATUS_PHASE = 1 → s.cal.grantAt = none → ∃ t, exec
    (.grant true (s.get CHN_STAT_INDEX) b) s = .next t ∧ t.cal =
    { s.cal with grantAt := some b, cfg := s.calLatch } ∧ t =
    { s with cal := t.cal }) ∧
  (∀ (s : State) (b : Nat), (s.chain.asked = false ∨ s.get CAL_STATUS_PHASE ≠ 1 ∨ s.cal.grantAt ≠ none) → ∃ t, exec
    (.grant true (s.get CHN_STAT_INDEX) b) s = .next t ∧ t = s) ∧
  (∀ (s : State) (j b : Nat), j ≠ s.get CHN_STAT_INDEX → s.get CHN_STAT_STATE = 1 → ∃ t, exec (.grant true j b) s =
    .next t ∧ t.outs = s.outs ++ (if (s.side (if j < s.get CHN_STAT_INDEX then .low else .high)).isSome = true then
    [Out.chain (if j < s.get CHN_STAT_INDEX then .low else .high) (.grant j b)] else []) ∧ t =
    { s with outs := t.outs }) ∧
  (∀ (s : State) (j b : Nat), j ≠ s.get CHN_STAT_INDEX → s.get CHN_STAT_STATE ≠ 1 → ∃ t, exec (.grant true j b) s =
    .next t ∧ t = s) ∧
  (∀ (s : State), s.chain.holder = none → ∃ t, exec (.grantMaxTimeout) s = .next t ∧ t = s) ∧
  (∀ (s : State) (j x : Nat), s.chain.holder = some (j, x) → s.chain.grants = [] → ∃ t, exec (.grantMaxTimeout) s =
    .next t ∧ t.time = max s.time (floor2 (x + s.get CHN_GRANTCFG_MAX * 1000000)) ∧ t.chain =
    { s.chain with holder := none, released := t.time + 1 } ∧ t.get CHN_GRANTSTAT_HELD = 0 ∧ raisedIn Src.grantTo s
    t ∧ t = { s with regs := t.regs, evt := t.evt, mem := t.mem, time := t.time, chain := t.chain } ∧ regsButEvt
    [CHN_GRANTSTAT_HOLDER, CHN_GRANTSTAT_HELD, CHN_GRANTSTAT_QUEUE] s t) ∧
  (∀ (s : State) (p : ChainPort) (x : Nat), s.side p = none → ∃ t, exec (.echo true p x) s = .next t ∧ t = s) ∧
  (∀ (s : State) (x : Nat), s.chain.low ≠ none → ∃ t, exec (.echo true .low x) s = .next t ∧ t.get CHN_DELAY_L =
    floor2 (x / 2) % 2 ^ 16 ∧ t = { s with regs := t.regs } ∧ regsBut [CHN_DELAY_L] s t) ∧
  (∀ (s : State) (x : Nat), s.chain.high ≠ none → ∃ t, exec (.echo true .high x) s = .next t ∧ t.get CHN_DELAY_H =
    floor2 (x / 2) % 2 ^ 16 ∧ t = { s with regs := t.regs } ∧ regsBut [CHN_DELAY_H] s t) ∧
  (∀ (s : State), ∃ t, exec (.echoPeriod) s = .next t ∧ t.outs = s.outs ++ (if s.chain.low.isSome = true then
    [Out.chain .low .echo] else []) ++ (if s.chain.high.isSome = true then [Out.chain .high .echo] else []) ∧ t =
    { s with outs := t.outs }) ∧
  (∀ (s : State) (r : Requester), s.protected r 0xC800 = false → s.get CHN_STAT_STATE = 1 → s.chain.handover = none
    → ∃ t, exec (.takemst r) s = .next t ∧ t.chain =
    { s.chain with handover := some ((s.get STG_FRAMECNT_COUNT + 2) % 2 ^ 32, s.get CHN_STAT_INDEX) } ∧ t.outs =
    s.outs ++ (if (s.side (if s.get CHN_STAT_MSTIDX < s.get CHN_STAT_INDEX then .low else .high)).isSome = true then
    [Out.chain (if s.get CHN_STAT_MSTIDX < s.get CHN_STAT_INDEX then .low else .high) (.handover (s.get
    CHN_STAT_INDEX) none)] else []) ∧ t = { s with chain := t.chain, outs := t.outs }) ∧
  (∀ (s : State) (r : Requester), s.protected r 0xC800 = false → (s.get CHN_STAT_STATE ≠ 1 ∨ s.chain.handover ≠
    none) → ∃ t, exec (.takemst r) s = .next t ∧ t = s) ∧
  (∀ (s : State) (j : Nat), s.get CHN_STAT_STATE = 2 → s.chain.handover = none → ∃ t, exec (.handover true j none) s
    = .next t ∧ t.chain = { s.chain with handover := some ((s.get STG_FRAMECNT_COUNT + 2) % 2 ^ 32, j) } ∧ t =
    { s with chain := t.chain }) ∧
  (∀ (s : State) (j : Nat), s.get CHN_STAT_STATE = 1 → ∃ t, exec (.handover true j none) s = .next t ∧ t.outs =
    s.outs ++ (if (s.side (if s.get CHN_STAT_MSTIDX < s.get CHN_STAT_INDEX then .low else .high)).isSome = true then
    [Out.chain (if s.get CHN_STAT_MSTIDX < s.get CHN_STAT_INDEX then .low else .high) (.handover j none)] else []) ∧
    t = { s with outs := t.outs }) ∧
  (∀ (s : State) (j : Nat), ((s.get CHN_STAT_STATE = 2 ∧ s.chain.handover ≠ none) ∨ s.get CHN_STAT_STATE = 0 ∨ s.get
    CHN_STAT_STATE = 3) → ∃ t, exec (.handover true j none) s = .next t ∧ t = s) ∧
  (∀ (s : State) (g : Mastership), s.get CHN_STAT_STATE ≠ 2 → ∃ t, exec (.handover true (s.get CHN_STAT_INDEX) (some
    g)) s = .next t ∧ t = { s with chain := { s.chain with given := some g } }) ∧
  (∀ (s : State) (g : Mastership), s.get CHN_STAT_STATE = 2 → g.holder.isSome = true → ∃ t, exec (.handover true
    (s.get CHN_STAT_INDEX) (some g)) s = .next t ∧ t.chain =
    { s.chain with given := none, grants := g.grants, holder := g.holder, released := g.released } ∧ t.get
    ETH_PTPOFS_LO_OFS = g.ofs % 2 ^ 32 ∧ t.get ETH_PTPOFS_HI_OFS = g.ofs / 2 ^ 32 % 2 ^ 32 ∧ t.get
    ETH_PTPSTAT_OFSVALID = (if g.ofsValid = true then 1 else 0) ∧ (∀ i : Nat, i < 8 → bitOf (t.get
    CHN_GRANTSTAT_QUEUE) i = t.chain.grants.any (fun g => g.2 == i)) ∧ t =
    { s with regs := t.regs, chain := t.chain } ∧ regsBut [ETH_PTPOFS_LO_OFS, ETH_PTPOFS_HI_OFS,
    ETH_PTPSTAT_OFSVALID, CHN_GRANTSTAT_HOLDER, CHN_GRANTSTAT_HELD, CHN_GRANTSTAT_QUEUE] s t) ∧
  (∀ (s : State) (j : Nat) (g : Mastership), j ≠ s.get CHN_STAT_INDEX → s.get CHN_STAT_STATE = 1 → ∃ t, exec
    (.handover true j (some g)) s = .next t ∧ t.outs = s.outs ++ (if (s.side (if j < s.get CHN_STAT_INDEX then .low
    else .high)).isSome = true then [Out.chain (if j < s.get CHN_STAT_INDEX then .low else .high) (.handover j (some
    g))] else []) ∧ t = { s with outs := t.outs }) ∧
  (∀ (s : State) (j : Nat) (g : Mastership), j ≠ s.get CHN_STAT_INDEX → s.get CHN_STAT_STATE ≠ 1 → ∃ t, exec
    (.handover true j (some g)) s = .next t ∧ t = s) ∧
  (∀ (s : State) (j p : Nat), 1 < s.chain.size → ∃ t, exec (.grantReq false j p) s = .next t ∧ t.get
    CHN_LINKERRCNT_COUNT = satAdd 31 (s.get CHN_LINKERRCNT_COUNT) 1 % 2 ^ 31 ∧ t =
    { s with regs := t.regs } ∧ regsBut [CHN_LINKERRCNT_COUNT] s t) ∧
  (∀ (s : State) (j : Nat), 1 < s.chain.size → ∃ t, exec (.release false j) s = .next t ∧ t.get CHN_LINKERRCNT_COUNT
    = satAdd 31 (s.get CHN_LINKERRCNT_COUNT) 1 % 2 ^ 31 ∧ t =
    { s with regs := t.regs } ∧ regsBut [CHN_LINKERRCNT_COUNT] s t) ∧
  (∀ (s : State) (j b : Nat), 1 < s.chain.size → ∃ t, exec (.grant false j b) s = .next t ∧ t.get
    CHN_LINKERRCNT_COUNT = satAdd 31 (s.get CHN_LINKERRCNT_COUNT) 1 % 2 ^ 31 ∧ t =
    { s with regs := t.regs } ∧ regsBut [CHN_LINKERRCNT_COUNT] s t) ∧
  (∀ (s : State) (j : Nat) (g : Option Mastership), 1 < s.chain.size → ∃ t, exec (.handover false j g) s = .next t ∧
    t.get CHN_LINKERRCNT_COUNT = satAdd 31 (s.get CHN_LINKERRCNT_COUNT) 1 % 2 ^ 31 ∧ t =
    { s with regs := t.regs } ∧ regsBut [CHN_LINKERRCNT_COUNT] s t) ∧
  (∀ (s : State) (p : ChainPort) (x : Nat), 1 < s.chain.size → ∃ t, exec (.echo false p x) s = .next t ∧ t.get
    CHN_LINKERRCNT_COUNT = satAdd 31 (s.get CHN_LINKERRCNT_COUNT) 1 % 2 ^ 31 ∧ t =
    { s with regs := t.regs } ∧ regsBut [CHN_LINKERRCNT_COUNT] s t) ∧
  (∀ (s : State) (n : Nat), s.chain.handover = some (n, s.get CHN_STAT_INDEX) → frameDiff n ((s.get
    STG_FRAMECNT_COUNT + 1) % 2 ^ 32) ≤ 0 → s.get CHN_STAT_INDEX < 8 → ∃ t, exec (.frameBoundary) s = .next t ∧
    t.get CHN_STAT_STATE = 2 ∧ t.get CHN_STAT_MSTIDX = s.get CHN_STAT_INDEX ∧ t.get GLB_STAT_UNSYNC = 0 ∧
    t.chain.handover = none) ∧
  (∀ (s : State) (n j : Nat), s.chain.handover = some (n, j) → j ≠ s.get CHN_STAT_INDEX → j < 8 → frameDiff n
    ((s.get STG_FRAMECNT_COUNT + 1) % 2 ^ 32) ≤ 0 → ∃ t, exec (.frameBoundary) s = .next t ∧ t.get CHN_STAT_STATE =
    1 ∧ t.get CHN_STAT_MSTIDX = j ∧ t.chain.handover = none ∧ t.chain.holder = none ∧ t.chain.grants = [] ∧ ((s.side
    (if j < s.get CHN_STAT_INDEX then .low else .high)).isSome = true → t.outs.any (handsOver j) = true))

/-- TMX_BLIND and a change of test mode are staged, TPDATA fills the replay buffer, BSCANEN enters the safe state, harts halt. (spec/18_test_bypass.md R455, R456, R457, R461, R463, spec/02_focal_plane.md R38, spec/17_startup_reset_update.md R427, R438, R439) -/
def Obligations.TestBlindScanAndDebugCommands : Prop :=
  (∀ (s : State) (r : Requester) (v : Word), s.protected r 0xD810 = false → ∃ t, exec (.tmxBlindWrite r v) s = .next
    t ∧ t.get TMX_BLIND_TILES = (if s.fuses.nk1024 = true then v.toNat % 65536 else v.toNat) ∧ t.tmx =
    { s.tmx with blindDue := s.tmx.blindDue ++ [(t.get TMX_BLIND_TILES, if s.time < s.slotAt s.sensor.gridK 14 then
                   (s.get STG_FRAMECNT_COUNT + 1) % 2 ^ 32 else (s.get STG_FRAMECNT_COUNT + 2) % 2 ^ 32)] } ∧ t =
    { s with regs := t.regs, tmx := t.tmx } ∧ regsBut [TMX_BLIND_TILES] s t) ∧
  (∀ (s : State) (r : Requester) (v : Word), s.protected r 0xD820 = false → v.toNat % 4 ≠ s.get TMX_TPCTL_MODE →
    (s.mode ≠ 2 ∨ (v.toNat % 4 ≠ 0 ∧ s.get TMX_TPCTL_MODE ≠ 0)) → ∃ t, exec (.tmxTpctlWrite r v) s = .next t ∧ t.get
    TMX_TPSTAT_WRERR = 1 ∧ t = { s with regs := t.regs } ∧ regsBut [TMX_TPSTAT_WRERR] s t) ∧
  (∀ (s : State) (r : Requester) (v : Word), s.protected r 0xD820 = false → v.toNat % 4 ≠ s.get TMX_TPCTL_MODE →
    s.mode = 2 → (v.toNat % 4 = 0 ∨ s.get TMX_TPCTL_MODE = 0) → ∃ t, exec (.tmxTpctlWrite r v) s = .next t ∧ t.get
    TMX_TPCTL_MODE = v.toNat % 4 ∧ t.get TMX_TPCTL_PAT = bits v.toNat 2 2 ∧ t.get TMX_TPCTL_DRIVE = bits v.toNat 4 1
    ∧ t.get TMX_TPCTL_TILE = bits v.toNat 8 5 ∧ t.get TMX_TPCTL_PEND = 1 ∧ t.tmx =
    { s.tmx with modeDue := some (v.toNat % 4, if s.time < s.slotAt s.sensor.gridK 14 then (s.get STG_FRAMECNT_COUNT
                   + 1) % 2 ^ 32 else (s.get STG_FRAMECNT_COUNT + 2) % 2 ^ 32) } ∧ t =
    { s with regs := t.regs, tmx := t.tmx } ∧ regsBut [TMX_TPCTL_MODE, TMX_TPCTL_PAT, TMX_TPCTL_DRIVE,
    TMX_TPCTL_TILE, TMX_TPCTL_PEND] s t) ∧
  (∀ (s : State) (r : Requester) (v : Word), s.protected r 0xD820 = false → v.toNat % 4 = s.get TMX_TPCTL_MODE →
    s.get ARB_CTRL_EN = 1 → (s.tmx.mode = 0 ∨ bits v.toNat 4 1 = 1) → ∃ t, exec (.tmxTpctlWrite r v) s = .next t ∧
    t.get TMX_TPCTL_PAT = bits v.toNat 2 2 ∧ t.get TMX_TPCTL_DRIVE = bits v.toNat 4 1 ∧ t.get TMX_TPCTL_TILE = bits
    v.toNat 8 5 ∧ t = { s with regs := t.regs } ∧ regsBut [TMX_TPCTL_MODE, TMX_TPCTL_PAT, TMX_TPCTL_DRIVE,
    TMX_TPCTL_TILE] s t) ∧
  (∀ (s : State) (r : Requester) (v : Word), s.protected r 0xD820 = false → v.toNat % 4 = s.get TMX_TPCTL_MODE →
    s.tmx.mode ≠ 0 → bits v.toNat 4 1 = 0 → ∃ t, exec (.tmxTpctlWrite r v) s = .next t ∧ t.get ARB_CTRL_EN = 0 ∧
    t.get TMX_TPCTL_DRIVE = 0 ∧ valvesClosed t ∧ t.tmx = s.tmx) ∧
  (∀ (s : State) (r : Requester) (v : Word), s.protected r 0xD838 = false → ∃ t, exec (.tmxTpdataWrite r v) s =
    .next t ∧ t.get TMX_TPSTAT_WRERR = (if s.tmx.mode = 0 ∨ s.tmx.mode = 3 then s.get TMX_TPSTAT_WRERR else 1) ∧ (∀
    i : Nat, i < 2112 → mget 0 t.tmx.buf i = (if i = s.get TMX_TPSEL_INDEX ∧ (s.tmx.mode = 0 ∨ s.tmx.mode = 3) then
    v.toNat else mget 0 s.tmx.buf i)) ∧ t.get TMX_TPSEL_INDEX = (if s.get TMX_TPSEL_AUTOINC = 1 then (if 2112 ≤
    s.get TMX_TPSEL_INDEX + 1 then 0 else s.get TMX_TPSEL_INDEX + 1) else s.get TMX_TPSEL_INDEX) ∧ t =
    { s with regs := t.regs, tmx := { s.tmx with buf := t.tmx.buf } } ∧ regsBut [TMX_TPSTAT_WRERR, TMX_TPSEL_INDEX]
    s t) ∧
  (∀ (s : State) (r : Requester) (v : Word), s.protected r 0xD800 = false → v.toNat % 2 = 1 → s.mode ≠ 4 → ∃ t, exec
    (.bscanenWrite r v) s = .next t ∧ t.get TMX_CTRL_BSCANEN = 1 ∧ safeEntered 0 (s.set TMX_CTRL_BSCANEN 1) t) ∧
  (∀ (s : State) (r : Requester) (v : Word), s.protected r 0xD800 = false → v.toNat % 2 = 1 → s.mode = 4 → ∃ t, exec
    (.bscanenWrite r v) s = .next t ∧ t.get TMX_CTRL_BSCANEN = 1 ∧ t.get GLB_SAFECAUSE_CAUSES = (s.get
    GLB_SAFECAUSE_CAUSES ||| 1) % 16 ∧ t = { s with regs := t.regs } ∧ regsBut [TMX_CTRL_BSCANEN,
    GLB_SAFECAUSE_CAUSES, GLB_STAT_FAULT] s t) ∧
  (∀ (s : State) (r : Requester) (v : Word), s.protected r 0xD800 = false → v.toNat % 2 = 0 → ∃ t, exec
    (.bscanenWrite r v) s = .next t ∧ t.get TMX_CTRL_BSCANEN = 0 ∧ t.tmx =
    { s.tmx with jtag := if s.tmx.jtag = .extest ∨ s.tmx.jtag = .clamp ∨ s.tmx.jtag = .highz then .bypass else
                   s.tmx.jtag } ∧ t = { s with regs := t.regs, tmx := t.tmx } ∧ regsBut [TMX_CTRL_BSCANEN] s t) ∧
  (∀ (s : State) (i : JtagInstr), ∃ t, exec (.jtagInstruction i) s = .next t ∧ t.tmx =
    { s.tmx with jtag := if (i = .extest ∨ i = .clamp ∨ i = .highz) ∧ s.get TMX_CTRL_BSCANEN ≠ 1 then .bypass else i
                   } ∧ t = { s with tmx := t.tmx }) ∧
  (∀ (s : State) (h : Nat) (b : Bool), s.get TMX_CTRL_DBGEN = 1 → h < 4 → bitOf (s.get GLB_CORECTL_HARTON) h = true
    → ¬h ∈ s.tmx.halted → ∃ t, exec (.debugHalt h b) s = .next t ∧ t.tmx =
    { s.tmx with halted := s.tmx.halted ++ [h] } ∧ t =
    { s with tmx := t.tmx }) ∧
  (∀ (s : State) (h : Nat) (b : Bool), (s.get TMX_CTRL_DBGEN ≠ 1 ∨ 4 ≤ h ∨ bitOf (s.get GLB_CORECTL_HARTON) h =
    false ∨ h ∈ s.tmx.halted) → ∃ t, exec (.debugHalt h b) s = .next t ∧ t = s)

/-- What a command can change: every part of the state and every register outside its frame is unchanged. (spec/00_scope.md R12, spec/13_processors_events.md R339, R342) -/
def Obligations.EveryCommandKeepsWhatIsOutsideItsFrame : Prop :=
  ∀ (c : Instr) (s t : State), exec c s = .next t → frameOf c s t
end

