-- ==== Sys2Proof/Laws/Map.lean ====
section
/-! SUPPORT. Reading a sparse map after a write, and its canonical form. -/

namespace Sys2Proof.Machine

variable {α : Type}

theorem mget_merase (d : α) (m : List (Nat × α)) (k j : Nat) :
    mget d (merase m k) j = if j = k then d else mget d m j := by
  induction m with
  | nil => simp [merase, mget]
  | cons p r ih =>
    obtain ⟨a, b⟩ := p
    simp only [merase, List.filter_cons] at ih ⊢
    by_cases h : a = k
    · subst h; by_cases hj : j = a <;> simp_all [mget]
    · by_cases hj : j = k
      · subst hj; simp_all [mget, Ne.symm h]
      · simp_all [mget]

theorem mget_minsert (d : α) (m : List (Nat × α)) (k j : Nat) (v : α) (h : ∀ p ∈ m, p.1 ≠ k) :
    mget d (minsert k v m) j = if j = k then v else mget d m j := by
  induction m with
  | nil => simp [minsert, mget]
  | cons p r ih =>
    obtain ⟨a, b⟩ := p
    have ha : a ≠ k := h (a, b) (by simp)
    have hr := ih (fun p hp => h p (by simp [hp]))
    simp only [minsert]
    split
    · simp [mget]
    · by_cases hj : j = k
      · subst hj; simp [mget, Ne.symm ha, hr]
      · simp [mget, hr, hj]

theorem merase_keys (m : List (Nat × α)) (k : Nat) : ∀ p ∈ merase m k, p.1 ≠ k := by
  intro p hp; simpa [merase] using (List.mem_filter.mp hp).2

/-- A read after a write: the value written at its key, every other key as before. -/
theorem mget_mset [DecidableEq α] (d : α) (m : List (Nat × α)) (k j : Nat) (v : α) :
    mget d (mset d m k v) j = if j = k then v else mget d m j := by
  unfold mset
  split
  · subst v; exact mget_merase d m k j
  · rw [mget_minsert d _ k j v (merase_keys m k), mget_merase]
    by_cases hj : j = k <;> simp [hj]

theorem mget_mset_ne' [DecidableEq α] (d e : α) (m : List (Nat × α)) (k j : Nat) (v : α) (h : j ≠ k) :
    mget e (mset d m k v) j = mget e m j := by
  unfold mset
  split
  · rw [mget_merase]; simp [h]
  · rw [mget_minsert e _ k j v (merase_keys m k), mget_merase]; simp [h]

/-- Keys strictly rise. -/
def Rising (m : List (Nat × α)) : Prop := (m.map (·.1)).Pairwise (· < ·)

theorem rising_merase (m : List (Nat × α)) (k : Nat) (h : Rising m) : Rising (merase m k) :=
  h.sublist ((List.filter_sublist).map _)

theorem minsert_keys (k : Nat) (v : α) (m : List (Nat × α)) (x : Nat) :
    x ∈ (minsert k v m).map (·.1) ↔ x = k ∨ x ∈ m.map (·.1) := by
  induction m with
  | nil => simp [minsert]
  | cons p r ih =>
    obtain ⟨a, b⟩ := p
    simp only [minsert]
    split
    · simp
    · simp only [List.map_cons, List.mem_cons, ih]; tauto

theorem rising_minsert (k : Nat) (v : α) (m : List (Nat × α)) (h : Rising m) (hk : ∀ p ∈ m, p.1 ≠ k) :
    Rising (minsert k v m) := by
  induction m with
  | nil => simp [minsert, Rising]
  | cons p r ih =>
    obtain ⟨a, b⟩ := p
    have ha : a ≠ k := hk (a, b) (by simp)
    simp only [Rising, List.map_cons, List.pairwise_cons] at h
    simp only [minsert]
    split
    · rename_i hlt
      simp only [Rising, List.map_cons, List.pairwise_cons]
      refine ⟨?_, h.1, h.2⟩
      intro x hx
      rcases List.mem_cons.mp hx with rfl | hx
      · exact hlt
      · exact lt_trans hlt (h.1 x hx)
    · rename_i hlt
      simp only [Rising, List.map_cons, List.pairwise_cons]
      refine ⟨?_, ih h.2 (fun p hp => hk p (by simp [hp]))⟩
      intro x hx
      rcases (minsert_keys k v r x).mp hx with rfl | hx
      · omega
      · exact h.1 x hx

/-- A write keeps the keys strictly rising. -/
theorem rising_mset [DecidableEq α] (d : α) (m : List (Nat × α)) (k : Nat) (v : α) (h : Rising m) :
    Rising (mset d m k v) := by
  unfold mset
  split
  · exact rising_merase m k h
  · exact rising_minsert k v _ (rising_merase m k h) (merase_keys m k)

end Sys2Proof.Machine
end

