-- ==== Sys2Proof/Laws/Regs.lean ====
section
/-! SUPPORT. Reading a register field after a write, and the class of every indexed field that a command writes. -/

namespace Sys2Proof.Machine

open Reg

/-! ### Registers -/

/-- The value written, cut to the field's width. -/
@[simp] theorem State.get_set (s : State) (f : Fld) (v : Nat) : (s.set f v).get f = v % 2 ^ f.width := by
  simp [State.get, State.set, mget_mset]

/-- Another field reads as before. -/
theorem State.get_set_ne (s : State) (f g : Fld) (v : Nat) (h : g.key ≠ f.key) : (s.set f v).get g = s.get g := by
  simp only [State.get, State.set]
  exact mget_mset_ne' _ _ _ _ _ _ h

@[simp] theorem State.setB_eq (s : State) (f : Fld) (b : Bool) : s.setB f b = s.set f (b2n b) := rfl
@[simp] theorem State.setS_eq (s : State) (f : Fld) (v : Int) : s.setS f v = s.set f (unsgn f.width v) := rfl
@[simp] theorem State.bumpBy_eq (s : State) (f : Fld) (n : Nat) : s.bumpBy f n = s.set f (satAdd f.width (s.get f) n) := rfl
@[simp] theorem State.bump_eq (s : State) (f : Fld) : s.bump f = s.set f (satAdd f.width (s.get f) 1) := rfl
@[simp] theorem State.incr_eq (s : State) (f : Fld) : s.incr f = s.set f (s.get f + 1) := rfl
@[simp] theorem State.setPair_eq (s : State) (lo hi : Fld) (v : Nat) :
    s.setPair lo hi v = (s.set lo (v % 2 ^ 32)).set hi (v / 2 ^ 32) := rfl
@[simp] theorem State.setBit_eq (s : State) (f : Fld) (i : Nat) : s.setBit f i = s.set f (s.get f ||| 2 ^ i) := rfl
@[simp] theorem State.clrBit_eq (s : State) (f : Fld) (i : Nat) : s.clrBit f i = s.set f (andNot (s.get f) (2 ^ i)) := rfl

/-! ### Classes -/

/-- A search tree of register keys. -/
inductive KTree where
  | leaf
  | node (l : KTree) (k i : Nat) (r : KTree)

def KTree.find (k : Nat) : KTree → Option Nat
  | .leaf => none
  | .node l x i r => bif Nat.blt k x then l.find k else bif Nat.beq k x then some i else r.find k

def KTree.toList : KTree → List (Nat × Nat)
  | .leaf => []
  | .node l x i r => l.toList ++ (x, i) :: r.toList

theorem KTree.find_mem (k i : Nat) (t : KTree) (h : t.find k = some i) : (k, i) ∈ t.toList := by
  induction t with
  | leaf => simp [find] at h
  | node l x j r ihl ihr =>
    simp only [find] at h
    simp only [toList, List.mem_append, List.mem_cons]
    cases hb : Nat.blt k x with
    | true => rw [hb] at h; exact .inl (ihl h)
    | false =>
      rw [hb] at h
      cases he : Nat.beq k x with
      | true =>
        rw [he] at h
        have := Nat.eq_of_beq_eq_true he
        have hi : j = i := by simpa using h
        exact .inr (.inl (by rw [this, hi]))
      | false => rw [he] at h; exact .inr (.inr (ihr h))

/-- No key of the tree lies from `lo` to below `hi`. -/
def KTree.free (lo hi : Nat) : KTree → Bool
  | .leaf => true
  | .node l x _ r => bif Nat.blt x lo then r.free lo hi else bif Nat.ble hi x then l.free lo hi else false

theorem KTree.find_free {k lo hi : Nat} (t : KTree) (h1 : lo ≤ k) (h2 : k < hi) (h : t.free lo hi = true) :
    t.find k = none := by
  induction t with
  | leaf => rfl
  | node l x i r ihl ihr =>
    simp only [free] at h
    simp only [find]
    cases hb : Nat.blt x lo with
    | true =>
      rw [hb] at h
      have := Nat.blt_eq.mp hb
      rw [show Nat.blt k x = false from by rw [Bool.eq_false_iff, ne_eq, Nat.blt_eq]; omega,
        show Nat.beq k x = false from by rw [Bool.eq_false_iff]; intro e; have := Nat.eq_of_beq_eq_true e; omega]
      exact ihr h
    | false =>
      rw [hb] at h
      cases he : Nat.ble hi x with
      | true =>
        rw [he] at h
        have := Nat.ble_eq.mp he
        rw [show Nat.blt k x = true from Nat.blt_eq.mpr (by omega)]
        exact ihl h
      | false => rw [he] at h; cases h

/-- The closed fields that a command can write, one part of the tree. -/
def closedTree1 : KTree :=
  .node
  (.node
  (.node
  (.node
  (.node .leaf 384 2 .leaf) 408 3
  (.node .leaf 512 4 .leaf)) 640 0
  (.node
  (.node .leaf 644 5 .leaf) 645 6 .leaf)) 646 7
  (.node
  (.node
  (.node .leaf 647 8 .leaf) 648 9 .leaf) 784 10
  (.node
  (.node .leaf 1280 11 .leaf) 1284 12 .leaf))) 1408 13
  (.node
  (.node
  (.node
  (.node .leaf 1424 14 .leaf) 1920 15
  (.node .leaf 1921 16 .leaf)) 131072 17
  (.node
  (.node .leaf 131073 18 .leaf) 131074 19 .leaf)) 131075 20
  (.node
  (.node
  (.node .leaf 131076 21 .leaf) 131077 22 .leaf) 131078 23
  (.node
  (.node .leaf 131079 24 .leaf) 131080 25 .leaf)))

/-- The closed fields that a command can write, one part of the tree. -/
def closedTree2 : KTree :=
  .node
  (.node
  (.node
  (.node
  (.node .leaf 131216 27 .leaf) 131328 28
  (.node .leaf 131344 29 .leaf)) 131456 30
  (.node
  (.node .leaf 131584 31 .leaf) 131712 32 .leaf)) 131840 33
  (.node
  (.node
  (.node .leaf 132096 34 .leaf) 132098 35 .leaf) 132100 36
  (.node
  (.node .leaf 132608 37 .leaf) 132610 38 .leaf))) 132612 39
  (.node
  (.node
  (.node
  (.node .leaf 132616 40 .leaf) 132624 41 .leaf) 163968 42
  (.node
  (.node .leaf 163970 43 .leaf) 163972 44 .leaf)) 163974 45
  (.node
  (.node
  (.node .leaf 163975 46 .leaf) 163976 47 .leaf) 163977 48
  (.node
  (.node .leaf 163978 49 .leaf) 163980 50 .leaf)))

/-- The closed fields that a command can write, one part of the tree. -/
def closedTree3 : KTree :=
  .node
  (.node
  (.node
  (.node
  (.node .leaf 164096 52 .leaf) 164112 53
  (.node .leaf 164224 54 .leaf)) 164240 55
  (.node
  (.node .leaf 164352 56 .leaf) 164383 57 .leaf)) 164488 58
  (.node
  (.node
  (.node .leaf 196736 59 .leaf) 196737 60 .leaf) 196738 61
  (.node
  (.node .leaf 196744 62 .leaf) 196864 63 .leaf))) 196992 64
  (.node
  (.node
  (.node
  (.node .leaf 197248 65 .leaf) 197278 66
  (.node .leaf 197279 67 .leaf)) 262144 68
  (.node
  (.node .leaf 262145 69 .leaf) 262146 70 .leaf)) 262147 71
  (.node
  (.node
  (.node .leaf 262272 72 .leaf) 262303 73 .leaf) 262400 74
  (.node
  (.node .leaf 262408 75 .leaf) 262431 76 .leaf)))

/-- The closed fields that a command can write, one part of the tree. -/
def closedTree4 : KTree :=
  .node
  (.node
  (.node
  (.node
  (.node .leaf 262544 78 .leaf) 262656 79
  (.node .leaf 262687 80 .leaf)) 263296 81
  (.node
  (.node .leaf 263312 82 .leaf) 263424 83 .leaf)) 263425 84
  (.node
  (.node
  (.node .leaf 263426 85 .leaf) 263427 86 .leaf) 263428 87
  (.node
  (.node .leaf 263429 88 .leaf) 263432 89 .leaf))) 263440 90
  (.node
  (.node
  (.node
  (.node .leaf 263552 91 .leaf) 263680 92 .leaf) 786560 93
  (.node
  (.node .leaf 786561 94 .leaf) 786562 95 .leaf)) 786563 96
  (.node
  (.node
  (.node .leaf 786564 97 .leaf) 786565 98 .leaf) 786688 99
  (.node
  (.node .leaf 786816 100 .leaf) 786944 101 .leaf)))

/-- The closed fields that a command can write, one part of the tree. -/
def closedTree5 : KTree :=
  .node
  (.node
  (.node
  (.node
  (.node .leaf 787088 103 .leaf) 787103 104
  (.node .leaf 787200 105 .leaf)) 787328 106
  (.node
  (.node .leaf 787456 107 .leaf) 787487 108 .leaf)) 787584 109
  (.node
  (.node
  (.node .leaf 787604 110 .leaf) 787712 111 .leaf) 787840 112
  (.node
  (.node .leaf 819328 113 .leaf) 819332 114 .leaf))) 819333 115
  (.node
  (.node
  (.node
  (.node .leaf 819334 116 .leaf) 819339 117
  (.node .leaf 819340 118 .leaf)) 819341 119
  (.node
  (.node .leaf 819342 120 .leaf) 819344 121 .leaf)) 820480 122
  (.node
  (.node
  (.node .leaf 820608 123 .leaf) 820736 124 .leaf) 820864 125
  (.node
  (.node .leaf 820992 126 .leaf) 821120 127 .leaf)))

/-- The closed fields that a command can write, one part of the tree. -/
def closedTree6 : KTree :=
  .node
  (.node
  (.node
  (.node
  (.node .leaf 821252 129 .leaf) 821257 130
  (.node .leaf 821258 131 .leaf)) 821376 132
  (.node
  (.node .leaf 821394 133 .leaf) 821504 134 .leaf)) 822272 135
  (.node
  (.node
  (.node .leaf 822303 136 .leaf) 822400 137 .leaf) 822418 138
  (.node
  (.node .leaf 822528 139 .leaf) 822784 140 .leaf))) 822785 141
  (.node
  (.node
  (.node
  (.node .leaf 822786 142 .leaf) 822787 143 .leaf) 822788 144
  (.node
  (.node .leaf 852096 145 .leaf) 852097 146 .leaf)) 852098 147
  (.node
  (.node
  (.node .leaf 852099 148 .leaf) 852100 149 .leaf) 852101 150
  (.node
  (.node .leaf 852102 151 .leaf) 852104 152 .leaf)))

/-- The closed fields that a command can write, one part of the tree. -/
def closedTree7 : KTree :=
  .node
  (.node
  (.node
  (.node
  (.node .leaf 852224 154 .leaf) 852232 155
  (.node .leaf 852255 156 .leaf)) 852480 157
  (.node
  (.node .leaf 852736 158 .leaf) 852752 159 .leaf)) 852864 160
  (.node
  (.node
  (.node .leaf 852992 161 .leaf) 852996 162 .leaf) 853008 163
  (.node
  (.node .leaf 853248 164 .leaf) 853256 165 .leaf))) 853264 166
  (.node
  (.node
  (.node
  (.node .leaf 853265 167 .leaf) 853266 168 .leaf) 853380 169
  (.node
  (.node .leaf 853504 170 .leaf) 853632 171 .leaf)) 853760 172
  (.node
  (.node
  (.node .leaf 917632 173 .leaf) 917633 174 .leaf) 917634 175
  (.node
  (.node .leaf 917635 176 .leaf) 917760 177 .leaf)))

/-- The closed fields that a command can write, one part of the tree. -/
def closedTree8 : KTree :=
  .node
  (.node
  (.node
  (.node
  (.node .leaf 918528 179 .leaf) 918544 180
  (.node .leaf 918656 181 .leaf)) 918784 182
  (.node
  (.node .leaf 918912 183 .leaf) 919040 184 .leaf)) 950273 185
  (.node
  (.node
  (.node .leaf 950274 186 .leaf) 950400 187 .leaf) 950401 188
  (.node
  (.node .leaf 950402 189 .leaf) 951040 190 .leaf))) 951048 191
  (.node
  (.node
  (.node
  (.node .leaf 951168 192 .leaf) 951296 193 .leaf) 951424 194
  (.node
  (.node .leaf 983040 195 .leaf) 983041 196 .leaf)) 983042 197
  (.node
  (.node
  (.node .leaf 983043 198 .leaf) 983045 199 .leaf) 983046 200
  (.node
  (.node .leaf 983168 201 .leaf) 983169 202 .leaf)))

/-- The closed fields that a command can write, one part of the tree. -/
def closedTree9 : KTree :=
  .node
  (.node
  (.node
  (.node
  (.node .leaf 983171 204 .leaf) 983172 205
  (.node .leaf 983296 206 .leaf)) 983424 207
  (.node
  (.node .leaf 983552 208 .leaf) 983568 209 .leaf)) 983680 210
  (.node
  (.node
  (.node .leaf 983808 211 .leaf) 983824 212 .leaf) 983936 213
  (.node
  (.node .leaf 984064 214 .leaf) 984192 215 .leaf))) 984320 216
  (.node
  (.node
  (.node
  (.node .leaf 984448 217 .leaf) 984576 218
  (.node .leaf 984704 219 .leaf)) 984832 220
  (.node
  (.node .leaf 984960 221 .leaf) 985088 222 .leaf)) 985096 223
  (.node
  (.node
  (.node .leaf 1376256 224 .leaf) 1376384 225 .leaf) 1376390 226
  (.node
  (.node .leaf 1376396 227 .leaf) 1376402 228 .leaf)))

/-- The closed fields that a command can write, one part of the tree. -/
def closedTree10 : KTree :=
  .node
  (.node
  (.node
  (.node
  (.node .leaf 1376404 230 .leaf) 1376896 231
  (.node .leaf 1377152 232 .leaf)) 1377168 233
  (.node
  (.node .leaf 1377169 234 .leaf) 1377170 235 .leaf)) 1377920 236
  (.node
  (.node
  (.node .leaf 1377930 237 .leaf) 1377940 238 .leaf) 1392640 239
  (.node
  (.node .leaf 1392896 240 .leaf) 1392899 241 .leaf))) 1392900 242
  (.node
  (.node
  (.node
  (.node .leaf 1392902 243 .leaf) 1392903 244 .leaf) 1392904 245
  (.node
  (.node .leaf 1392912 246 .leaf) 1393024 247 .leaf)) 1393040 248
  (.node
  (.node
  (.node .leaf 1441920 249 .leaf) 1441921 250 .leaf) 1441922 251
  (.node
  (.node .leaf 1441923 252 .leaf) 1441924 253 .leaf)))

/-- The closed fields that a command can write, one part of the tree. -/
def closedTree11 : KTree :=
  .node
  (.node
  (.node
  (.node
  (.node .leaf 1442176 255 .leaf) 1442184 256
  (.node .leaf 1442207 257 .leaf)) 1442560 258
  (.node
  (.node .leaf 1442688 1 .leaf) 1442816 259 .leaf)) 1442944 260
  (.node
  (.node
  (.node .leaf 1443072 261 .leaf) 1443078 262 .leaf) 1443092 263
  (.node
  (.node .leaf 1443103 264 .leaf) 1443200 265 .leaf))) 1443328 266
  (.node
  (.node
  (.node
  (.node .leaf 1443346 267 .leaf) 1443352 268 .leaf) 1443355 269
  (.node
  (.node .leaf 1443456 270 .leaf) 1443474 271 .leaf)) 1443480 272
  (.node
  (.node
  (.node .leaf 1443487 273 .leaf) 1443584 274 .leaf) 1443712 275
  (.node
  (.node .leaf 1443840 276 .leaf) 1443841 277 .leaf)))

/-- The closed fields that a command can write, one part of the tree. -/
def closedTree12 : KTree :=
  .node
  (.node
  (.node
  (.node
  (.node .leaf 1443843 279 .leaf) 1443844 280
  (.node .leaf 1443968 281 .leaf)) 1443984 282
  (.node
  (.node .leaf 1444480 283 .leaf) 1444481 284 .leaf)) 1444482 285
  (.node
  (.node
  (.node .leaf 1444496 286 .leaf) 1444608 287 .leaf) 1444624 288
  (.node
  (.node .leaf 1507456 289 .leaf) 1507457 290 .leaf))) 1507458 291
  (.node
  (.node
  (.node
  (.node .leaf 1507460 292 .leaf) 1507461 293 .leaf) 1507584 294
  (.node
  (.node .leaf 1507712 295 .leaf) 1507840 296 .leaf)) 1507968 297
  (.node
  (.node
  (.node .leaf 1507970 298 .leaf) 1507984 299 .leaf) 1515648 300
  (.node
  (.node .leaf 1515650 301 .leaf) 1515651 302 .leaf)))

/-- The closed fields that a command can write, one part of the tree. -/
def closedTree13 : KTree :=
  .node
  (.node
  (.node
  (.node
  (.node .leaf 1515653 304 .leaf) 1515654 305
  (.node .leaf 1515655 306 .leaf)) 1515656 307
  (.node
  (.node .leaf 1515657 308 .leaf) 1515658 309 .leaf)) 1515776 310
  (.node
  (.node
  (.node .leaf 1515904 311 .leaf) 1516032 312 .leaf) 1516160 313
  (.node
  (.node .leaf 1516288 314 .leaf) 1572992 315 .leaf))) 1572993 316
  (.node
  (.node
  (.node
  (.node .leaf 1572995 317 .leaf) 1572996 318
  (.node .leaf 1572997 319 .leaf)) 1572998 320
  (.node
  (.node .leaf 1573000 321 .leaf) 1573376 322 .leaf)) 1573504 323
  (.node
  (.node
  (.node .leaf 1573632 324 .leaf) 1573900 325 .leaf) 1573904 326
  (.node
  (.node .leaf 1574400 327 .leaf) 1574528 328 .leaf)))

/-- The closed fields that a command can write, one part of the tree. -/
def closedTree14 : KTree :=
  .node
  (.node
  (.node
  (.node
  (.node .leaf 1574784 330 .leaf) 1574912 331
  (.node .leaf 1575040 332 .leaf)) 1575168 333
  (.node
  (.node .leaf 1575552 334 .leaf) 1575554 335 .leaf)) 1575555 336
  (.node
  (.node
  (.node .leaf 1575568 337 .leaf) 1575680 338 .leaf) 1575808 339
  (.node
  (.node .leaf 1575936 340 .leaf) 1576980 341 .leaf))) 1577472 342
  (.node
  (.node
  (.node
  (.node .leaf 1577728 343 .leaf) 1577752 344 .leaf) 1577753 345
  (.node
  (.node .leaf 1577856 346 .leaf) 1577872 347 .leaf)) 1638528 348
  (.node
  (.node
  (.node .leaf 1638532 349 .leaf) 1638536 350 .leaf) 1638544 351
  (.node
  (.node .leaf 1638552 352 .leaf) 1638553 353 .leaf)))

/-- The closed fields that a command can write, one part of the tree. -/
def closedTree15 : KTree :=
  .node
  (.node
  (.node
  (.node
  (.node .leaf 1638555 355 .leaf) 1638556 356
  (.node .leaf 1638912 357 .leaf)) 1639168 358
  (.node
  (.node .leaf 1639171 359 .leaf) 1639176 360 .leaf)) 1639296 361
  (.node
  (.node
  (.node .leaf 1639312 362 .leaf) 1639424 363 .leaf) 1639552 364
  (.node
  (.node .leaf 1639680 365 .leaf) 1639808 366 .leaf))) 1639936 367
  (.node
  (.node
  (.node
  (.node .leaf 1640064 368 .leaf) 1640192 369 .leaf) 1640320 370
  (.node
  (.node .leaf 1640448 371 .leaf) 1640576 372 .leaf)) 1704064 373
  (.node
  (.node
  (.node .leaf 1704065 374 .leaf) 1704066 375 .leaf) 1704067 376
  (.node
  (.node .leaf 1704068 377 .leaf) 1704069 378 .leaf)))

/-- The closed fields that a command can write, one part of the tree. -/
def closedTree16 : KTree :=
  .node
  (.node
  (.node
  (.node
  (.node .leaf 1704071 380 .leaf) 1704072 381
  (.node .leaf 1704592 382 .leaf)) 1704704 383
  (.node
  (.node .leaf 1704720 384 .leaf) 1704832 385 .leaf)) 1704848 386
  (.node
  (.node
  (.node .leaf 1704980 387 .leaf) 1706496 388 .leaf) 1706624 389
  (.node
  (.node .leaf 1706640 390 .leaf) 1769472 391 .leaf))) 1769473 392
  (.node
  (.node
  (.node
  (.node .leaf 1769984 393 .leaf) 1770112 394 .leaf) 1770527 395
  (.node
  (.node .leaf 1770880 396 .leaf) 1770881 397 .leaf)) 1770882 398
  (.node
  (.node
  (.node .leaf 1771008 399 .leaf) 1771024 400 .leaf) 1771029 401
  (.node
  (.node .leaf 1771035 402 .leaf) 1771136 403 .leaf)))

/-- The fields outside the indexed families that a command can write, by key. -/
def closedTree : KTree :=
  .node
    (.node
    (.node
    (.node closedTree1 131200 26 closedTree2) 163984 51
    (.node closedTree3 262528 77 closedTree4)) 787072 102
    (.node
    (.node closedTree5 821248 128 closedTree6) 852106 153
    (.node closedTree7 917776 178 closedTree8))) 983170 203
    (.node
    (.node
    (.node closedTree9 1376403 229 closedTree10) 1441925 254
    (.node closedTree11 1443842 278 closedTree12)) 1515652 303
    (.node
    (.node closedTree13 1574656 329 closedTree14) 1638554 354
    (.node closedTree15 1704070 379 closedTree16)))

/-- The class of a register field: a number of its own for each field of `closedTree`, GLB_STAT.STATE first (23), else the
block of R342 that holds it. -/
def Fld.cls (f : Fld) : Nat :=
  match closedTree.find f.key with
  | some i => 23 + i
  | none => f.block

theorem closed_state : closedTree.toList.all (fun p => p.2 != 0 || p.1 == 640) = true := by decide +kernel

theorem closed_lt : closedTree.toList.all (fun p => decide (23 + p.2 < 427)) = true := by decide +kernel

theorem Fld.block_lt (f : Fld) : f.block < 23 := by
  unfold Fld.block blockOf
  have := List.length_filter_le (fun b : Nat × List RegFam => decide (b.1 ≤ f.key / 32)) blocks
  have hl : blocks.length = 23 := by rfl
  omega

theorem Fld.cls_lt (f : Fld) : f.cls < 427 := by
  unfold Fld.cls
  split
  · rename_i i h
    simpa using List.all_eq_true.mp closed_lt _ (KTree.find_mem _ _ _ h)
  · have := f.block_lt
    omega

/-- Class 23 is GLB_STAT.STATE alone. -/
theorem Fld.cls_state {f : Fld} (h : f.key ≠ Reg.GLB_STAT_STATE.key) : f.cls ≠ 23 := by
  unfold Fld.cls
  split
  · rename_i i hi
    intro e
    have := List.all_eq_true.mp closed_state _ (KTree.find_mem _ _ _ hi)
    have h0 : i = 0 := by omega
    rw [h0] at this
    have : f.key = 640 := by simpa using this
    exact h this
  · have := f.block_lt
    omega

/-- The mask names the registers and the class of `f`, which is not GLB_STAT.STATE. -/
def hasBit (m : Nat) (f : Fld) : Bool := m.testBit 3 && m.testBit (32 + f.cls) && f.cls != 23

/-- `hasBit` as a proposition. -/
structure Has (m : Nat) (f : Fld) : Prop where
  bit : hasBit m f = true

theorem Has.closed {m : Nat} {f : Fld} (h : hasBit m f = true) : Has m f := ⟨h⟩

theorem Has.fam {m c : Nat} {f : Fld} (h : f.cls = c) (hm : (m.testBit 3 && m.testBit (32 + c) && c != 23) = true) : Has m f :=
  ⟨by rw [hasBit, h]; exact hm⟩

theorem Has.ite {m : Nat} {c : Prop} [Decidable c] {f g : Fld} (hf : Has m f) (hg : Has m g) :
    Has m (if c then f else g) := by split <;> assumption

theorem Has.mono {n m : Nat} {f : Fld} (h : Has n f) (hn : n &&& m = n) : Has m f := by
  have key : ∀ i, n.testBit i = true → m.testBit i = true := fun i hi => by
    have := congrArg (fun y => y.testBit i) hn
    simp only [Nat.testBit_and, hi, Bool.true_and] at this
    exact this
  have hb := h.bit
  simp only [hasBit, Bool.and_eq_true] at hb
  exact ⟨by simp only [hasBit, Bool.and_eq_true]; exact ⟨⟨key _ hb.1.1, key _ hb.1.2⟩, hb.2⟩⟩

theorem blockOf_eq (a b lo hi : Nat) (h1 : lo ≤ a) (h2 : a < hi)
    (hb : blocks.all (fun x => decide (x.1 ≤ lo) || decide (hi ≤ x.1)) = true) (hl : blockOf lo = b) : blockOf a = b := by
  rw [← hl]
  unfold blockOf
  congr 2
  refine List.filter_congr fun x hx => ?_
  have := List.all_eq_true.mp hb x hx
  simp only [Bool.or_eq_true, decide_eq_true_eq] at this
  rw [decide_eq_decide]
  omega

theorem Fld.cls_of {f : Fld} (b lo hi : Nat) (h1 : 32 * lo ≤ f.key) (h2 : f.key < 32 * hi)
    (hc : closedTree.free (32 * lo) (32 * hi) = true)
    (hb : blocks.all (fun x => decide (x.1 ≤ lo) || decide (hi ≤ x.1)) = true) (hl : blockOf lo = b) : f.cls = b := by
  unfold Fld.cls
  rw [KTree.find_free _ h1 h2 hc]
  exact blockOf_eq _ b lo hi (by omega) (by omega) hb hl

theorem Reg.GLB_STAT_STATE_cls : GLB_STAT_STATE.cls = 23 := by rfl

theorem Reg.MEM_TESTABORTS_COUNT_cls : MEM_TESTABORTS_COUNT.cls = 24 := by rfl

theorem Reg.GLB_FWVER_VER_cls : GLB_FWVER_VER.cls = 25 := by rfl

theorem Reg.GLB_FWVER_SLOT_cls : GLB_FWVER_SLOT.cls = 26 := by rfl

theorem Reg.GLB_CTRL_RUN_cls : GLB_CTRL_RUN.cls = 27 := by rfl

theorem Reg.GLB_STAT_UNSYNC_cls : GLB_STAT_UNSYNC.cls = 28 := by rfl

theorem Reg.GLB_STAT_FAULT_cls : GLB_STAT_FAULT.cls = 29 := by rfl

theorem Reg.GLB_STAT_PROTERR_cls : GLB_STAT_PROTERR.cls = 30 := by rfl

theorem Reg.GLB_STAT_WRERR_cls : GLB_STAT_WRERR.cls = 31 := by rfl

theorem Reg.GLB_STAT_CHIDX_cls : GLB_STAT_CHIDX.cls = 32 := by rfl

theorem Reg.GLB_RSTCAUSE_BOOTS_cls : GLB_RSTCAUSE_BOOTS.cls = 33 := by rfl

theorem Reg.GLB_CORECTL_HARTEN_cls : GLB_CORECTL_HARTEN.cls = 34 := by rfl

theorem Reg.GLB_CORECTL_HARTON_cls : GLB_CORECTL_HARTON.cls = 35 := by rfl

theorem Reg.GLB_SAFECAUSE_CAUSES_cls : GLB_SAFECAUSE_CAUSES.cls = 36 := by rfl

theorem Reg.GLB_SAFECAUSE_COUNT_cls : GLB_SAFECAUSE_COUNT.cls = 37 := by rfl

theorem Reg.GLB_TBL_STAT_REFUSED_cls : GLB_TBL_STAT_REFUSED.cls = 38 := by rfl

theorem Reg.GLB_TBL_STAT_RANGE_cls : GLB_TBL_STAT_RANGE.cls = 39 := by rfl

theorem Reg.PWR_STAT_DIP_cls : PWR_STAT_DIP.cls = 40 := by rfl

theorem Reg.PWR_STAT_DIPSEEN_cls : PWR_STAT_DIPSEEN.cls = 41 := by rfl

theorem Reg.PWR_STAT_VVALWARN_cls : PWR_STAT_VVALWARN.cls = 42 := by rfl

theorem Reg.PWR_STAT_VVALLOW_cls : PWR_STAT_VVALLOW.cls = 43 := by rfl

theorem Reg.PWR_STAT_VVALHIGH_cls : PWR_STAT_VVALHIGH.cls = 44 := by rfl

theorem Reg.PWR_STAT_OVERBUD_cls : PWR_STAT_OVERBUD.cls = 45 := by rfl

theorem Reg.PWR_STAT_OVBSEEN_cls : PWR_STAT_OVBSEEN.cls = 46 := by rfl

theorem Reg.PWR_STAT_VIO33_cls : PWR_STAT_VIO33.cls = 47 := by rfl

theorem Reg.PWR_STAT_WRERR_cls : PWR_STAT_WRERR.cls = 48 := by rfl

theorem Reg.PWR_VIN_VIN_cls : PWR_VIN_VIN.cls = 49 := by rfl

theorem Reg.PWR_VIN_VVAL_cls : PWR_VIN_VVAL.cls = 50 := by rfl

theorem Reg.PWR_IVIN_MA_cls : PWR_IVIN_MA.cls = 51 := by rfl

theorem Reg.PWR_IVIN_MAX_cls : PWR_IVIN_MAX.cls = 52 := by rfl

theorem Reg.PWR_DIPCNT_COUNT_cls : PWR_DIPCNT_COUNT.cls = 53 := by rfl

theorem Reg.PWR_DIPLAST_LO_STAMP_cls : PWR_DIPLAST_LO_STAMP.cls = 54 := by rfl

theorem Reg.PWR_DIPLAST_HI_STAMP_cls : PWR_DIPLAST_HI_STAMP.cls = 55 := by rfl

theorem Reg.PWR_DIPMIN_V_cls : PWR_DIPMIN_V.cls = 56 := by rfl

theorem Reg.PWR_BUDPRIO_FIRST_cls : PWR_BUDPRIO_FIRST.cls = 57 := by rfl

theorem Reg.PWR_BUDPRIO_SECOND_cls : PWR_BUDPRIO_SECOND.cls = 58 := by rfl

theorem Reg.PWR_BUDPRIO_THIRD_cls : PWR_BUDPRIO_THIRD.cls = 59 := by rfl

theorem Reg.PWR_CLKDIV_DIV_cls : PWR_CLKDIV_DIV.cls = 60 := by rfl

theorem Reg.PWR_CLKDIV_BUDDIV_cls : PWR_CLKDIV_BUDDIV.cls = 61 := by rfl

theorem Reg.PWR_CLKDIV_THMDIV_cls : PWR_CLKDIV_THMDIV.cls = 62 := by rfl

theorem Reg.PWR_CLKDIV_TAPSKIP_cls : PWR_CLKDIV_TAPSKIP.cls = 63 := by rfl

theorem Reg.PWR_CLKDIV_MGTSKIP_cls : PWR_CLKDIV_MGTSKIP.cls = 64 := by rfl

theorem Reg.THM_STAT_LSTATE_cls : THM_STAT_LSTATE.cls = 65 := by rfl

theorem Reg.THM_STAT_PSTATE_cls : THM_STAT_PSTATE.cls = 66 := by rfl

theorem Reg.THM_STAT_STEP_cls : THM_STAT_STEP.cls = 67 := by rfl

theorem Reg.THM_STAT_LFORCED_cls : THM_STAT_LFORCED.cls = 68 := by rfl

theorem Reg.THM_STAT_PFORCED_cls : THM_STAT_PFORCED.cls = 69 := by rfl

theorem Reg.THM_STAT_SDSEEN_cls : THM_STAT_SDSEEN.cls = 70 := by rfl

theorem Reg.THM_STAT_EXCLSEEN_cls : THM_STAT_EXCLSEEN.cls = 71 := by rfl

theorem Reg.THM_STAT_WRERR_cls : THM_STAT_WRERR.cls = 72 := by rfl

theorem Reg.THM_STAT_LVALID_cls : THM_STAT_LVALID.cls = 73 := by rfl

theorem Reg.THM_STAT_PVALID_cls : THM_STAT_PVALID.cls = 74 := by rfl

theorem Reg.THM_LMAX_MAX_cls : THM_LMAX_MAX.cls = 75 := by rfl

theorem Reg.THM_LMAX_PEAK_cls : THM_LMAX_PEAK.cls = 76 := by rfl

theorem Reg.THM_PMAX_MAX_cls : THM_PMAX_MAX.cls = 77 := by rfl

theorem Reg.THM_PMAX_PEAK_cls : THM_PMAX_PEAK.cls = 78 := by rfl

theorem Reg.THM_DRAM_RATE_cls : THM_DRAM_RATE.cls = 79 := by rfl

theorem Reg.THM_DRAM_VALID_cls : THM_DRAM_VALID.cls = 80 := by rfl

theorem Reg.THM_SDCNT_COUNT_cls : THM_SDCNT_COUNT.cls = 81 := by rfl

theorem Reg.HKA_STAT_SCALBUSY_cls : HKA_STAT_SCALBUSY.cls = 82 := by rfl

theorem Reg.HKA_STAT_SCALDONE_cls : HKA_STAT_SCALDONE.cls = 83 := by rfl

theorem Reg.HKA_STAT_INVSEEN_cls : HKA_STAT_INVSEEN.cls = 84 := by rfl

theorem Reg.HKA_STAT_POS_cls : HKA_STAT_POS.cls = 85 := by rfl

theorem Reg.HKA_CALGAIN_GAIN_cls : HKA_CALGAIN_GAIN.cls = 86 := by rfl

theorem Reg.HKA_CALOFS_OFS_cls : HKA_CALOFS_OFS.cls = 87 := by rfl

theorem Reg.HKA_RTDTEMP_TEMP_cls : HKA_RTDTEMP_TEMP.cls = 88 := by rfl

theorem Reg.HKA_RTDTEMP_RANGE_cls : HKA_RTDTEMP_RANGE.cls = 89 := by rfl

theorem Reg.HKA_RTDTEMP_VALID_cls : HKA_RTDTEMP_VALID.cls = 90 := by rfl

theorem Reg.STG_CTRL_BIAS_EN_cls : STG_CTRL_BIAS_EN.cls = 91 := by rfl

theorem Reg.STG_CTRL_HTR_EN_cls : STG_CTRL_HTR_EN.cls = 92 := by rfl

theorem Reg.STG_CTRL_ROWREV_cls : STG_CTRL_ROWREV.cls = 93 := by rfl

theorem Reg.STG_CTRL_COLREV_cls : STG_CTRL_COLREV.cls = 94 := by rfl

theorem Reg.STG_FRATE_RATE_cls : STG_FRATE_RATE.cls = 95 := by rfl

theorem Reg.STG_FRATE_PEND_cls : STG_FRATE_PEND.cls = 96 := by rfl

theorem Reg.STG_BIAS_LEVEL_cls : STG_BIAS_LEVEL.cls = 97 := by rfl

theorem Reg.STG_BIAS_APPLIED_cls : STG_BIAS_APPLIED.cls = 98 := by rfl

theorem Reg.STG_BIAS_PEND_cls : STG_BIAS_PEND.cls = 99 := by rfl

theorem Reg.STG_SETPT_SETPT_cls : STG_SETPT_SETPT.cls = 100 := by rfl

theorem Reg.STG_SETPT_TARGET_cls : STG_SETPT_TARGET.cls = 101 := by rfl

theorem Reg.STG_TEMP_TEMP_cls : STG_TEMP_TEMP.cls = 102 := by rfl

theorem Reg.STG_TEMP_VALID_cls : STG_TEMP_VALID.cls = 103 := by rfl

theorem Reg.STG_HTRPWR_POWER_cls : STG_HTRPWR_POWER.cls = 104 := by rfl

theorem Reg.STG_HTRPWR_LIMIT_cls : STG_HTRPWR_LIMIT.cls = 105 := by rfl

theorem Reg.STG_STAT_LOCK_cls : STG_STAT_LOCK.cls = 106 := by rfl

theorem Reg.STG_STAT_UNREG_cls : STG_STAT_UNREG.cls = 107 := by rfl

theorem Reg.STG_STAT_OVERTEMP_cls : STG_STAT_OVERTEMP.cls = 108 := by rfl

theorem Reg.STG_STAT_TSDEG_cls : STG_STAT_TSDEG.cls = 109 := by rfl

theorem Reg.STG_STAT_BIAS_RAMP_cls : STG_STAT_BIAS_RAMP.cls = 110 := by rfl

theorem Reg.STG_STAT_CFGERR_cls : STG_STAT_CFGERR.cls = 111 := by rfl

theorem Reg.STG_STAT_TSVALID_cls : STG_STAT_TSVALID.cls = 112 := by rfl

theorem Reg.STG_STAT_SETTLE_cls : STG_STAT_SETTLE.cls = 113 := by rfl

theorem Reg.STG_FRAMECNT_COUNT_cls : STG_FRAMECNT_COUNT.cls = 114 := by rfl

theorem Reg.STG_CFGFRAME_FRAME_cls : STG_CFGFRAME_FRAME.cls = 115 := by rfl

theorem Reg.COR_STAT_BLENDING_cls : COR_STAT_BLENDING.cls = 116 := by rfl

theorem Reg.COR_STAT_REVERSING_cls : COR_STAT_REVERSING.cls = 117 := by rfl

theorem Reg.COR_STAT_DTCLAMP_cls : COR_STAT_DTCLAMP.cls = 118 := by rfl

theorem Reg.COR_STAT_DTCLAMPED_cls : COR_STAT_DTCLAMPED.cls = 119 := by rfl

theorem Reg.COR_STAT_WRERR_cls : COR_STAT_WRERR.cls = 120 := by rfl

theorem Reg.COR_STAT_LANECHG_cls : COR_STAT_LANECHG.cls = 121 := by rfl

theorem Reg.COR_V0_V0_cls : COR_V0_V0.cls = 122 := by rfl

theorem Reg.COR_OSEL_ACT_cls : COR_OSEL_ACT.cls = 123 := by rfl

theorem Reg.COR_OFLIP_FLIP_cls : COR_OFLIP_FLIP.cls = 124 := by rfl

theorem Reg.COR_BLEND_FRAMES_cls : COR_BLEND_FRAMES.cls = 125 := by rfl

theorem Reg.COR_BLEND_K_cls : COR_BLEND_K.cls = 126 := by rfl

theorem Reg.COR_BLEND_BUSY_cls : COR_BLEND_BUSY.cls = 127 := by rfl

theorem Reg.COR_TREF_A_TEMP_cls : COR_TREF_A_TEMP.cls = 128 := by rfl

theorem Reg.COR_TREF_B_TEMP_cls : COR_TREF_B_TEMP.cls = 129 := by rfl

theorem Reg.COR_DT_DT_cls : COR_DT_DT.cls = 130 := by rfl

theorem Reg.COR_DT_CLAMP_cls : COR_DT_CLAMP.cls = 131 := by rfl

theorem Reg.COR_BADCNT_PIXELS_cls : COR_BADCNT_PIXELS.cls = 132 := by rfl

theorem Reg.COR_BADCNT_LANES_cls : COR_BADCNT_LANES.cls = 133 := by rfl

theorem Reg.COR_ECCBAD_COUNT_cls : COR_ECCBAD_COUNT.cls = 134 := by rfl

theorem Reg.COR_CLIPCNT_COUNT_cls : COR_CLIPCNT_COUNT.cls = 135 := by rfl

theorem Reg.CAL_STATUS_PHASE_cls : CAL_STATUS_PHASE.cls = 136 := by rfl

theorem Reg.CAL_STATUS_COMPUTE_cls : CAL_STATUS_COMPUTE.cls = 137 := by rfl

theorem Reg.CAL_STATUS_BLIND_cls : CAL_STATUS_BLIND.cls = 138 := by rfl

theorem Reg.CAL_STATUS_PENDING_cls : CAL_STATUS_PENDING.cls = 139 := by rfl

theorem Reg.CAL_STATUS_DEFERRED_cls : CAL_STATUS_DEFERRED.cls = 140 := by rfl

theorem Reg.CAL_STATUS_STUCK_cls : CAL_STATUS_STUCK.cls = 141 := by rfl

theorem Reg.CAL_STATUS_REFUSED_cls : CAL_STATUS_REFUSED.cls = 142 := by rfl

theorem Reg.CAL_STATUS_SUSPENDED_cls : CAL_STATUS_SUSPENDED.cls = 143 := by rfl

theorem Reg.CAL_STATUS_BACKOFF_cls : CAL_STATUS_BACKOFF.cls = 144 := by rfl

theorem Reg.CAL_COUNT_COUNT_cls : CAL_COUNT_COUNT.cls = 145 := by rfl

theorem Reg.CAL_FAILS_COUNT_cls : CAL_FAILS_COUNT.cls = 146 := by rfl

theorem Reg.CAL_ABORTS_COUNT_cls : CAL_ABORTS_COUNT.cls = 147 := by rfl

theorem Reg.CAL_LASTTIME_LO_STAMP_cls : CAL_LASTTIME_LO_STAMP.cls = 148 := by rfl

theorem Reg.CAL_LASTTIME_HI_STAMP_cls : CAL_LASTTIME_HI_STAMP.cls = 149 := by rfl

theorem Reg.CAL_LASTSTAGE_TEMP_cls : CAL_LASTSTAGE_TEMP.cls = 150 := by rfl

theorem Reg.CAL_LASTRESULT_CODE_cls : CAL_LASTRESULT_CODE.cls = 151 := by rfl

theorem Reg.CAL_LASTRESULT_TRIG_cls : CAL_LASTRESULT_TRIG.cls = 152 := by rfl

theorem Reg.CAL_LASTRESULT_ORPHAN_cls : CAL_LASTRESULT_ORPHAN.cls = 153 := by rfl

theorem Reg.CAL_LASTRESULT_TRIMDROP_cls : CAL_LASTRESULT_TRIMDROP.cls = 154 := by rfl

theorem Reg.CAL_LASTSTATS_OUTLIM_cls : CAL_LASTSTATS_OUTLIM.cls = 155 := by rfl

theorem Reg.CAL_LASTSTATS_NEWBAD_cls : CAL_LASTSTATS_NEWBAD.cls = 156 := by rfl

theorem Reg.CAL_BLIND_US_cls : CAL_BLIND_US.cls = 157 := by rfl

theorem Reg.CAL_ANCHOR_A_cls : CAL_ANCHOR_A.cls = 158 := by rfl

theorem Reg.CAL_ANCHOR_VALID_cls : CAL_ANCHOR_VALID.cls = 159 := by rfl

theorem Reg.CAL_TRKSTAT_FROZEN_cls : CAL_TRKSTAT_FROZEN.cls = 160 := by rfl

theorem Reg.CAL_TRKSTAT_SATCNT_cls : CAL_TRKSTAT_SATCNT.cls = 161 := by rfl

theorem Reg.CAL_REFSEL_LANE_cls : CAL_REFSEL_LANE.cls = 162 := by rfl

theorem Reg.CAL_GREF_BUSY_cls : CAL_GREF_BUSY.cls = 163 := by rfl

theorem Reg.CAL_GREF_DONE_cls : CAL_GREF_DONE.cls = 164 := by rfl

theorem Reg.CAL_GREF_FAIL_cls : CAL_GREF_FAIL.cls = 165 := by rfl

theorem Reg.CAL_GREF_PENDAPPLY_cls : CAL_GREF_PENDAPPLY.cls = 166 := by rfl

theorem Reg.CAL_GREF_OUTLIM_cls : CAL_GREF_OUTLIM.cls = 167 := by rfl

theorem Reg.BRD_STAT_RUN_cls : BRD_STAT_RUN.cls = 168 := by rfl

theorem Reg.BRD_STAT_KRED_cls : BRD_STAT_KRED.cls = 169 := by rfl

theorem Reg.BRD_STAT_WRERR_cls : BRD_STAT_WRERR.cls = 170 := by rfl

theorem Reg.BRD_STAT_DEPTHERR_cls : BRD_STAT_DEPTHERR.cls = 171 := by rfl

theorem Reg.BRD_STAT_ORDERR_cls : BRD_STAT_ORDERR.cls = 172 := by rfl

theorem Reg.BRD_STAT_TRACKED_cls : BRD_STAT_TRACKED.cls = 173 := by rfl

theorem Reg.BRD_STAT_LATE_cls : BRD_STAT_LATE.cls = 174 := by rfl

theorem Reg.BRD_STAT_PCAUSE_cls : BRD_STAT_PCAUSE.cls = 175 := by rfl

theorem Reg.BRD_STAT_UNLFR_cls : BRD_STAT_UNLFR.cls = 176 := by rfl

theorem Reg.BRD_UNLAY_BETA_cls : BRD_UNLAY_BETA.cls = 177 := by rfl

theorem Reg.BRD_UNLAY_BYPASS_cls : BRD_UNLAY_BYPASS.cls = 178 := by rfl

theorem Reg.BRD_UNLAY_PEND_cls : BRD_UNLAY_PEND.cls = 179 := by rfl

theorem Reg.BRD_VNOM_V_cls : BRD_VNOM_V.cls = 180 := by rfl

theorem Reg.BRD_GEOM_PITCH_cls : BRD_GEOM_PITCH.cls = 181 := by rfl

theorem Reg.BRD_GEOM_TILT_cls : BRD_GEOM_TILT.cls = 182 := by rfl

theorem Reg.BRD_GRAV_G_cls : BRD_GRAV_G.cls = 183 := by rfl

theorem Reg.BRD_HYPSET_K_cls : BRD_HYPSET_K.cls = 184 := by rfl

theorem Reg.BRD_HYPSET_SPACING_cls : BRD_HYPSET_SPACING.cls = 185 := by rfl

theorem Reg.BRD_HYPSET_REFK_cls : BRD_HYPSET_REFK.cls = 186 := by rfl

theorem Reg.BRD_TSTAT_ACTGEN_cls : BRD_TSTAT_ACTGEN.cls = 187 := by rfl

theorem Reg.BRD_TSTAT_SHADGEN_cls : BRD_TSTAT_SHADGEN.cls = 188 := by rfl

theorem Reg.BRD_TSTAT_SHADFREE_cls : BRD_TSTAT_SHADFREE.cls = 189 := by rfl

theorem Reg.BRD_TSTAT_SWPEND_cls : BRD_TSTAT_SWPEND.cls = 190 := by rfl

theorem Reg.BRD_TSTAT_DEPTHSUM_cls : BRD_TSTAT_DEPTHSUM.cls = 191 := by rfl

theorem Reg.BRD_TCMD_NEWK_cls : BRD_TCMD_NEWK.cls = 192 := by rfl

theorem Reg.BRD_PARTCNT_COUNT_cls : BRD_PARTCNT_COUNT.cls = 193 := by rfl

theorem Reg.BRD_UNLRST_COUNT_cls : BRD_UNLRST_COUNT.cls = 194 := by rfl

theorem Reg.BRD_UCLIPCNT_COUNT_cls : BRD_UCLIPCNT_COUNT.cls = 195 := by rfl

theorem Reg.KNT_STAT_FULL_cls : KNT_STAT_FULL.cls = 196 := by rfl

theorem Reg.KNT_STAT_WRERR_cls : KNT_STAT_WRERR.cls = 197 := by rfl

theorem Reg.KNT_STAT_FULLSEEN_cls : KNT_STAT_FULLSEEN.cls = 198 := by rfl

theorem Reg.KNT_STAT_SPLIT_cls : KNT_STAT_SPLIT.cls = 199 := by rfl

theorem Reg.KNT_THR_OPEN_cls : KNT_THR_OPEN.cls = 200 := by rfl

theorem Reg.KNT_THR_CLOSE_cls : KNT_THR_CLOSE.cls = 201 := by rfl

theorem Reg.KNT_OPEN_NOW_cls : KNT_OPEN_NOW.cls = 202 := by rfl

theorem Reg.KNT_OPEN_MAX_cls : KNT_OPEN_MAX.cls = 203 := by rfl

theorem Reg.KNT_CLOSED_COUNT_cls : KNT_CLOSED_COUNT.cls = 204 := by rfl

theorem Reg.KNT_LOSTCNT_COUNT_cls : KNT_LOSTCNT_COUNT.cls = 205 := by rfl

theorem Reg.KNT_SPLITCNT_COUNT_cls : KNT_SPLITCNT_COUNT.cls = 206 := by rfl

theorem Reg.KNT_DROPCNT_COUNT_cls : KNT_DROPCNT_COUNT.cls = 207 := by rfl

theorem Reg.VRD_CTRL_ACTBANK_cls : VRD_CTRL_ACTBANK.cls = 208 := by rfl

theorem Reg.VRD_CTRL_SWPEND_cls : VRD_CTRL_SWPEND.cls = 209 := by rfl

theorem Reg.VRD_STAT_WRERR_cls : VRD_STAT_WRERR.cls = 210 := by rfl

theorem Reg.VRD_STAT_NOELIG_cls : VRD_STAT_NOELIG.cls = 211 := by rfl

theorem Reg.VRD_STAT_FORCED_cls : VRD_STAT_FORCED.cls = 212 := by rfl

theorem Reg.VRD_LOGHEAD_NEXT_cls : VRD_LOGHEAD_NEXT.cls = 213 := by rfl

theorem Reg.VRD_LOGHEAD_TOTAL_cls : VRD_LOGHEAD_TOTAL.cls = 214 := by rfl

theorem Reg.VRD_SEQ_NEXT_cls : VRD_SEQ_NEXT.cls = 215 := by rfl

theorem Reg.VRD_NOELIGCNT_COUNT_cls : VRD_NOELIGCNT_COUNT.cls = 216 := by rfl

theorem Reg.VRD_FORCECNT_COUNT_cls : VRD_FORCECNT_COUNT.cls = 217 := by rfl

theorem Reg.EJS_CTRL_ROWS_cls : EJS_CTRL_ROWS.cls = 218 := by rfl

theorem Reg.EJS_CTRL_BONE_cls : EJS_CTRL_BONE.cls = 219 := by rfl

theorem Reg.EJS_CTRL_LATEPOL_cls : EJS_CTRL_LATEPOL.cls = 220 := by rfl

theorem Reg.EJS_CTRL_LEADAUTO_cls : EJS_CTRL_LEADAUTO.cls = 221 := by rfl

theorem Reg.EJS_CTRL_MAPACT_cls : EJS_CTRL_MAPACT.cls = 222 := by rfl

theorem Reg.EJS_CTRL_MAPPEND_cls : EJS_CTRL_MAPPEND.cls = 223 := by rfl

theorem Reg.EJS_STAT_WRERR_cls : EJS_STAT_WRERR.cls = 224 := by rfl

theorem Reg.EJS_STAT_DROP_cls : EJS_STAT_DROP.cls = 225 := by rfl

theorem Reg.EJS_STAT_LATE_cls : EJS_STAT_LATE.cls = 226 := by rfl

theorem Reg.EJS_STAT_CLIP_cls : EJS_STAT_CLIP.cls = 227 := by rfl

theorem Reg.EJS_STAT_NOVALVE_cls : EJS_STAT_NOVALVE.cls = 228 := by rfl

theorem Reg.EJS_DISTA_D_cls : EJS_DISTA_D.cls = 229 := by rfl

theorem Reg.EJS_DISTB_D_cls : EJS_DISTB_D.cls = 230 := by rfl

theorem Reg.EJS_MARGIN_TMARG_cls : EJS_MARGIN_TMARG.cls = 231 := by rfl

theorem Reg.EJS_MARGIN_LMARG_cls : EJS_MARGIN_LMARG.cls = 232 := by rfl

theorem Reg.EJS_MERGE_GAP_cls : EJS_MERGE_GAP.cls = 233 := by rfl

theorem Reg.EJS_LEAD_OFS_cls : EJS_LEAD_OFS.cls = 234 := by rfl

theorem Reg.EJS_LEAD_MINAVG_cls : EJS_LEAD_MINAVG.cls = 235 := by rfl

theorem Reg.EJS_FIRECNT_COUNT_cls : EJS_FIRECNT_COUNT.cls = 236 := by rfl

theorem Reg.EJS_MERGECNT_COUNT_cls : EJS_MERGECNT_COUNT.cls = 237 := by rfl

theorem Reg.EJS_DROPCNT_COUNT_cls : EJS_DROPCNT_COUNT.cls = 238 := by rfl

theorem Reg.EJS_LATECNT_COUNT_cls : EJS_LATECNT_COUNT.cls = 239 := by rfl

theorem Reg.EJS_CLIPCNT_COUNT_cls : EJS_CLIPCNT_COUNT.cls = 240 := by rfl

theorem Reg.EJS_NOVALVE_COUNT_cls : EJS_NOVALVE_COUNT.cls = 241 := by rfl

theorem Reg.EJS_BLINDCNT_COUNT_cls : EJS_BLINDCNT_COUNT.cls = 242 := by rfl

theorem Reg.EJS_NOTOWNED_COUNT_cls : EJS_NOTOWNED_COUNT.cls = 243 := by rfl

theorem Reg.EJS_BONECNT_COUNT_cls : EJS_BONECNT_COUNT.cls = 244 := by rfl

theorem Reg.EJS_QOCC_MAX_cls : EJS_QOCC_MAX.cls = 245 := by rfl

theorem Reg.EJS_QOCC_MAXCH_cls : EJS_QOCC_MAXCH.cls = 246 := by rfl

theorem Reg.ARB_CTRL_EN_cls : ARB_CTRL_EN.cls = 247 := by rfl

theorem Reg.ARB_STAT_TOKENS_cls : ARB_STAT_TOKENS.cls = 248 := by rfl

theorem Reg.ARB_STAT_FBUSED_cls : ARB_STAT_FBUSED.cls = 249 := by rfl

theorem Reg.ARB_STAT_NEFF_cls : ARB_STAT_NEFF.cls = 250 := by rfl

theorem Reg.ARB_STAT_DIPCUT_cls : ARB_STAT_DIPCUT.cls = 251 := by rfl

theorem Reg.ARB_STAT_VVALLOW_cls : ARB_STAT_VVALLOW.cls = 252 := by rfl

theorem Reg.ARB_STAT_WRERR_cls : ARB_STAT_WRERR.cls = 253 := by rfl

theorem Reg.ARB_TOKMAX_MAX_cls : ARB_TOKMAX_MAX.cls = 254 := by rfl

theorem Reg.ARB_BSTMEAS_VBST_cls : ARB_BSTMEAS_VBST.cls = 255 := by rfl

theorem Reg.ARB_BSTMEAS_READY_cls : ARB_BSTMEAS_READY.cls = 256 := by rfl

theorem Reg.ARB_BSTMEAS_OV_cls : ARB_BSTMEAS_OV.cls = 257 := by rfl

theorem Reg.ARB_BSTMEAS_OVSEEN_cls : ARB_BSTMEAS_OVSEEN.cls = 258 := by rfl

theorem Reg.ARB_GRANT_CLUSTER_cls : ARB_GRANT_CLUSTER.cls = 259 := by rfl

theorem Reg.ARB_GRANT_TAP_cls : ARB_GRANT_TAP.cls = 260 := by rfl

theorem Reg.ARB_GRANT_HEATER_cls : ARB_GRANT_HEATER.cls = 261 := by rfl

theorem Reg.ARB_LYCTRL_ENERGISE_cls : ARB_LYCTRL_ENERGISE.cls = 262 := by rfl

theorem Reg.ARB_LYSTAT_STATE_cls : ARB_LYSTAT_STATE.cls = 263 := by rfl

theorem Reg.ARB_LYSTAT_FLT_cls : ARB_LYSTAT_FLT.cls = 264 := by rfl

theorem Reg.ARB_LYSTAT_FLTCAUSE_cls : ARB_LYSTAT_FLTCAUSE.cls = 265 := by rfl

theorem Reg.ARB_LYSTAT_CLOSED_cls : ARB_LYSTAT_CLOSED.cls = 266 := by rfl

theorem Reg.ARB_LYSTAT_OPEN_cls : ARB_LYSTAT_OPEN.cls = 267 := by rfl

theorem Reg.ARB_LYSTAT_CLIMIT_cls : ARB_LYSTAT_CLIMIT.cls = 268 := by rfl

theorem Reg.ARB_LYSTAT_TEMP_cls : ARB_LYSTAT_TEMP.cls = 269 := by rfl

theorem Reg.ARB_LYTIME_TCLOSED_cls : ARB_LYTIME_TCLOSED.cls = 270 := by rfl

theorem Reg.ARB_LYTIME_TOPENED_cls : ARB_LYTIME_TOPENED.cls = 271 := by rfl

theorem Reg.MEM_STAT_TESTRUN_cls : MEM_STAT_TESTRUN.cls = 272 := by rfl

theorem Reg.MEM_STAT_FAILSEEN_cls : MEM_STAT_FAILSEEN.cls = 273 := by rfl

theorem Reg.MEM_STAT_OVLSEEN_cls : MEM_STAT_OVLSEEN.cls = 274 := by rfl

theorem Reg.MEM_STAT_UESEEN_cls : MEM_STAT_UESEEN.cls = 275 := by rfl

theorem Reg.MEM_STAT_WRERR_cls : MEM_STAT_WRERR.cls = 276 := by rfl

theorem Reg.MEM_STAT_TBLERR_cls : MEM_STAT_TBLERR.cls = 277 := by rfl

theorem Reg.MEM_TESTPOS_BANK_cls : MEM_TESTPOS_BANK.cls = 278 := by rfl

theorem Reg.MEM_TESTPOS_BIGHT_cls : MEM_TESTPOS_BIGHT.cls = 279 := by rfl

theorem Reg.MEM_TESTPOS_ACTIVE_cls : MEM_TESTPOS_ACTIVE.cls = 280 := by rfl

theorem Reg.MEM_TESTPASS_COUNT_cls : MEM_TESTPASS_COUNT.cls = 281 := by rfl

theorem Reg.MEM_TESTSKIP_COUNT_cls : MEM_TESTSKIP_COUNT.cls = 282 := by rfl

theorem Reg.MEM_TESTFAIL_COUNT_cls : MEM_TESTFAIL_COUNT.cls = 283 := by rfl

theorem Reg.MEM_FAILADDR_BANK_cls : MEM_FAILADDR_BANK.cls = 284 := by rfl

theorem Reg.MEM_FAILADDR_BIGHT_cls : MEM_FAILADDR_BIGHT.cls = 285 := by rfl

theorem Reg.MEM_FAILADDR_BIT_cls : MEM_FAILADDR_BIT.cls = 286 := by rfl

theorem Reg.MEM_FAILADDR_VALID_cls : MEM_FAILADDR_VALID.cls = 287 := by rfl

theorem Reg.MEM_OVLCNT_COUNT_cls : MEM_OVLCNT_COUNT.cls = 288 := by rfl

theorem Reg.MEM_OVLLAST_WORD_cls : MEM_OVLLAST_WORD.cls = 289 := by rfl

theorem Reg.MEM_OVLLAST_BANK_cls : MEM_OVLLAST_BANK.cls = 290 := by rfl

theorem Reg.MEM_OVLLAST_FIRST_cls : MEM_OVLLAST_FIRST.cls = 291 := by rfl

theorem Reg.MEM_OVLLAST_LAST_cls : MEM_OVLLAST_LAST.cls = 292 := by rfl

theorem Reg.MEM_ERRADDR_WORD_cls : MEM_ERRADDR_WORD.cls = 293 := by rfl

theorem Reg.MEM_ERRADDR_BANK_cls : MEM_ERRADDR_BANK.cls = 294 := by rfl

theorem Reg.MEM_ERRADDR_PORT_cls : MEM_ERRADDR_PORT.cls = 295 := by rfl

theorem Reg.MEM_ERRADDR_VALID_cls : MEM_ERRADDR_VALID.cls = 296 := by rfl

theorem Reg.MEM_ERRTIME_LO_STAMP_cls : MEM_ERRTIME_LO_STAMP.cls = 297 := by rfl

theorem Reg.MEM_ERRTIME_HI_STAMP_cls : MEM_ERRTIME_HI_STAMP.cls = 298 := by rfl

theorem Reg.MEM_RETCTL_PB_cls : MEM_RETCTL_PB.cls = 299 := by rfl

theorem Reg.MEM_RETCTL_UB_cls : MEM_RETCTL_UB.cls = 300 := by rfl

theorem Reg.MEM_RETCTL_BB_cls : MEM_RETCTL_BB.cls = 301 := by rfl

theorem Reg.MEM_RETCTL_KB_cls : MEM_RETCTL_KB.cls = 302 := by rfl

theorem Reg.MEM_RETCTL_SP_cls : MEM_RETCTL_SP.cls = 303 := by rfl

theorem Reg.MEM_RETSTAT_RET_cls : MEM_RETSTAT_RET.cls = 304 := by rfl

theorem Reg.MEM_RETSTAT_WAKES_cls : MEM_RETSTAT_WAKES.cls = 305 := by rfl

theorem Reg.MEM_DDRSTAT_TRAINED_cls : MEM_DDRSTAT_TRAINED.cls = 306 := by rfl

theorem Reg.MEM_DDRSTAT_SELFREF_cls : MEM_DDRSTAT_SELFREF.cls = 307 := by rfl

theorem Reg.MEM_DDRSTAT_IECCACT_cls : MEM_DDRSTAT_IECCACT.cls = 308 := by rfl

theorem Reg.MEM_DDRSTAT_CAPMB_cls : MEM_DDRSTAT_CAPMB.cls = 309 := by rfl

theorem Reg.MEM_DDRECC_CE_cls : MEM_DDRECC_CE.cls = 310 := by rfl

theorem Reg.MEM_DDRECC_UE_cls : MEM_DDRECC_UE.cls = 311 := by rfl

theorem Reg.SSP_STAT_ERRSEEN_cls : SSP_STAT_ERRSEEN.cls = 312 := by rfl

theorem Reg.SSP_STAT_ENDSEEN_cls : SSP_STAT_ENDSEEN.cls = 313 := by rfl

theorem Reg.SSP_STAT_COLLSEEN_cls : SSP_STAT_COLLSEEN.cls = 314 := by rfl

theorem Reg.SSP_STAT_MODE3_cls : SSP_STAT_MODE3.cls = 315 := by rfl

theorem Reg.SSP_STAT_LASTERR_cls : SSP_STAT_LASTERR.cls = 316 := by rfl

theorem Reg.SSP_FRAMECNT_COUNT_cls : SSP_FRAMECNT_COUNT.cls = 317 := by rfl

theorem Reg.SSP_ERRCNT_COUNT_cls : SSP_ERRCNT_COUNT.cls = 318 := by rfl

theorem Reg.SSP_RXDROP_COUNT_cls : SSP_RXDROP_COUNT.cls = 319 := by rfl

theorem Reg.SSP_BOX_INSLOTS_cls : SSP_BOX_INSLOTS.cls = 320 := by rfl

theorem Reg.SSP_BOX_ABSLOT_cls : SSP_BOX_ABSLOT.cls = 321 := by rfl

theorem Reg.SSP_BOX_OUTBYTES_cls : SSP_BOX_OUTBYTES.cls = 322 := by rfl

theorem Reg.FLS_STAT_READ_cls : FLS_STAT_READ.cls = 323 := by rfl

theorem Reg.FLS_STAT_ADDR4_cls : FLS_STAT_ADDR4.cls = 324 := by rfl

theorem Reg.FLS_STAT_CONT_cls : FLS_STAT_CONT.cls = 325 := by rfl

theorem Reg.FLS_STAT_BUSY_cls : FLS_STAT_BUSY.cls = 326 := by rfl

theorem Reg.FLS_STAT_SUSPOK_cls : FLS_STAT_SUSPOK.cls = 327 := by rfl

theorem Reg.FLS_STAT_DISCERR_cls : FLS_STAT_DISCERR.cls = 328 := by rfl

theorem Reg.FLS_STAT_RANGE_cls : FLS_STAT_RANGE.cls = 329 := by rfl

theorem Reg.FLS_STAT_SUSPSEEN_cls : FLS_STAT_SUSPSEEN.cls = 330 := by rfl

theorem Reg.FLS_STAT_WAITSEEN_cls : FLS_STAT_WAITSEEN.cls = 331 := by rfl

theorem Reg.FLS_STAT_WRERR_cls : FLS_STAT_WRERR.cls = 332 := by rfl

theorem Reg.FLS_ID_JEDEC_cls : FLS_ID_JEDEC.cls = 333 := by rfl

theorem Reg.FLS_SIZE_MIB_cls : FLS_SIZE_MIB.cls = 334 := by rfl

theorem Reg.FLS_HITCNT_COUNT_cls : FLS_HITCNT_COUNT.cls = 335 := by rfl

theorem Reg.FLS_MISSCNT_COUNT_cls : FLS_MISSCNT_COUNT.cls = 336 := by rfl

theorem Reg.FLS_ERRCNT_COUNT_cls : FLS_ERRCNT_COUNT.cls = 337 := by rfl

theorem Reg.ETH_STAT_LINK_cls : ETH_STAT_LINK.cls = 338 := by rfl

theorem Reg.ETH_STAT_SPEED_cls : ETH_STAT_SPEED.cls = 339 := by rfl

theorem Reg.ETH_STAT_FDX_cls : ETH_STAT_FDX.cls = 340 := by rfl

theorem Reg.ETH_STAT_BOUND_cls : ETH_STAT_BOUND.cls = 341 := by rfl

theorem Reg.ETH_STAT_RXERR_cls : ETH_STAT_RXERR.cls = 342 := by rfl

theorem Reg.ETH_STAT_KEYSET_cls : ETH_STAT_KEYSET.cls = 343 := by rfl

theorem Reg.ETH_STAT_SESSIONS_cls : ETH_STAT_SESSIONS.cls = 344 := by rfl

theorem Reg.ETH_IP_ADDR_cls : ETH_IP_ADDR.cls = 345 := by rfl

theorem Reg.ETH_MASK_ADDR_cls : ETH_MASK_ADDR.cls = 346 := by rfl

theorem Reg.ETH_GW_ADDR_cls : ETH_GW_ADDR.cls = 347 := by rfl

theorem Reg.ETH_MDIOCMD_BUSY_cls : ETH_MDIOCMD_BUSY.cls = 348 := by rfl

theorem Reg.ETH_MDIOCMD_DATA_cls : ETH_MDIOCMD_DATA.cls = 349 := by rfl

theorem Reg.ETH_RXCNT_COUNT_cls : ETH_RXCNT_COUNT.cls = 350 := by rfl

theorem Reg.ETH_TXCNT_COUNT_cls : ETH_TXCNT_COUNT.cls = 351 := by rfl

theorem Reg.ETH_RXERRCNT_COUNT_cls : ETH_RXERRCNT_COUNT.cls = 352 := by rfl

theorem Reg.ETH_DROPCNT_COUNT_cls : ETH_DROPCNT_COUNT.cls = 353 := by rfl

theorem Reg.ETH_BAINDCNT_COUNT_cls : ETH_BAINDCNT_COUNT.cls = 354 := by rfl

theorem Reg.ETH_BAINDERR_COUNT_cls : ETH_BAINDERR_COUNT.cls = 355 := by rfl

theorem Reg.ETH_AUTHFAIL_COUNT_cls : ETH_AUTHFAIL_COUNT.cls = 356 := by rfl

theorem Reg.ETH_PTPSTAT_LOCK_cls : ETH_PTPSTAT_LOCK.cls = 357 := by rfl

theorem Reg.ETH_PTPSTAT_OFSVALID_cls : ETH_PTPSTAT_OFSVALID.cls = 358 := by rfl

theorem Reg.ETH_PTPSTAT_LOSTSEEN_cls : ETH_PTPSTAT_LOSTSEEN.cls = 359 := by rfl

theorem Reg.ETH_PTPSTAT_ADJ_cls : ETH_PTPSTAT_ADJ.cls = 360 := by rfl

theorem Reg.ETH_PTPOFS_LO_OFS_cls : ETH_PTPOFS_LO_OFS.cls = 361 := by rfl

theorem Reg.ETH_PTPOFS_HI_OFS_cls : ETH_PTPOFS_HI_OFS.cls = 362 := by rfl

theorem Reg.ETH_PTPRES_RES_cls : ETH_PTPRES_RES.cls = 363 := by rfl

theorem Reg.ETH_TAPCTL_BUSY_cls : ETH_TAPCTL_BUSY.cls = 364 := by rfl

theorem Reg.ETH_TAPWR_INDEX_cls : ETH_TAPWR_INDEX.cls = 365 := by rfl

theorem Reg.ETH_TAPSTAT_RECSIZE_cls : ETH_TAPSTAT_RECSIZE.cls = 366 := by rfl

theorem Reg.ETH_TAPSTAT_HALT_cls : ETH_TAPSTAT_HALT.cls = 367 := by rfl

theorem Reg.ETH_TAPSTAT_OVRSEEN_cls : ETH_TAPSTAT_OVRSEEN.cls = 368 := by rfl

theorem Reg.ETH_TAPDROP_OVERRUN_cls : ETH_TAPDROP_OVERRUN.cls = 369 := by rfl

theorem Reg.ETH_TAPDROP_MISSED_cls : ETH_TAPDROP_MISSED.cls = 370 := by rfl

theorem Reg.CHN_STAT_STATE_cls : CHN_STAT_STATE.cls = 371 := by rfl

theorem Reg.CHN_STAT_INDEX_cls : CHN_STAT_INDEX.cls = 372 := by rfl

theorem Reg.CHN_STAT_MSTIDX_cls : CHN_STAT_MSTIDX.cls = 373 := by rfl

theorem Reg.CHN_STAT_MEMBERS_cls : CHN_STAT_MEMBERS.cls = 374 := by rfl

theorem Reg.CHN_STAT_LLINK_cls : CHN_STAT_LLINK.cls = 375 := by rfl

theorem Reg.CHN_STAT_HLINK_cls : CHN_STAT_HLINK.cls = 376 := by rfl

theorem Reg.CHN_STAT_HITCH_cls : CHN_STAT_HITCH.cls = 377 := by rfl

theorem Reg.CHN_STAT_MSTCONF_cls : CHN_STAT_MSTCONF.cls = 378 := by rfl

theorem Reg.CHN_STAT_SPLICEERR_cls : CHN_STAT_SPLICEERR.cls = 379 := by rfl

theorem Reg.CHN_OFFSET_LANE0_cls : CHN_OFFSET_LANE0.cls = 380 := by rfl

theorem Reg.CHN_GRANTSTAT_HOLDER_cls : CHN_GRANTSTAT_HOLDER.cls = 381 := by rfl

theorem Reg.CHN_GRANTSTAT_HELD_cls : CHN_GRANTSTAT_HELD.cls = 382 := by rfl

theorem Reg.CHN_GRANTSTAT_QUEUE_cls : CHN_GRANTSTAT_QUEUE.cls = 383 := by rfl

theorem Reg.CHN_DELAY_L_cls : CHN_DELAY_L.cls = 384 := by rfl

theorem Reg.CHN_DELAY_H_cls : CHN_DELAY_H.cls = 385 := by rfl

theorem Reg.CHN_HITCHD_D_cls : CHN_HITCHD_D.cls = 386 := by rfl

theorem Reg.CHN_HITCHCNT_COUNT_cls : CHN_HITCHCNT_COUNT.cls = 387 := by rfl

theorem Reg.CHN_ORPHANCNT_COUNT_cls : CHN_ORPHANCNT_COUNT.cls = 388 := by rfl

theorem Reg.CHN_SPLTX_COUNT_cls : CHN_SPLTX_COUNT.cls = 389 := by rfl

theorem Reg.CHN_SPLRX_COUNT_cls : CHN_SPLRX_COUNT.cls = 390 := by rfl

theorem Reg.CHN_SPLDROP_COUNT_cls : CHN_SPLDROP_COUNT.cls = 391 := by rfl

theorem Reg.CHN_LINKERRCNT_COUNT_cls : CHN_LINKERRCNT_COUNT.cls = 392 := by rfl

theorem Reg.CHN_REJOIN_LO_STAMP_cls : CHN_REJOIN_LO_STAMP.cls = 393 := by rfl

theorem Reg.CHN_REJOIN_HI_STAMP_cls : CHN_REJOIN_HI_STAMP.cls = 394 := by rfl

theorem Reg.CHN_RUN_RUN_cls : CHN_RUN_RUN.cls = 395 := by rfl

theorem Reg.LOOP_STAT_PHVALID_cls : LOOP_STAT_PHVALID.cls = 396 := by rfl

theorem Reg.LOOP_STAT_PHSTALE_cls : LOOP_STAT_PHSTALE.cls = 397 := by rfl

theorem Reg.LOOP_STAT_PHSAT_cls : LOOP_STAT_PHSAT.cls = 398 := by rfl

theorem Reg.LOOP_STAT_BKVALID_cls : LOOP_STAT_BKVALID.cls = 399 := by rfl

theorem Reg.LOOP_STAT_BKOVER_cls : LOOP_STAT_BKOVER.cls = 400 := by rfl

theorem Reg.LOOP_STAT_BKSAT_cls : LOOP_STAT_BKSAT.cls = 401 := by rfl

theorem Reg.LOOP_STAT_GREF_cls : LOOP_STAT_GREF.cls = 402 := by rfl

theorem Reg.LOOP_STAT_WRERR_cls : LOOP_STAT_WRERR.cls = 403 := by rfl

theorem Reg.LOOP_STAT_PHINV_cls : LOOP_STAT_PHINV.cls = 404 := by rfl

theorem Reg.LOOP_PHWIN_MINN_cls : LOOP_PHWIN_MINN.cls = 405 := by rfl

theorem Reg.LOOP_PHPV_PV_cls : LOOP_PHPV_PV.cls = 406 := by rfl

theorem Reg.LOOP_PHPV_N_cls : LOOP_PHPV_N.cls = 407 := by rfl

theorem Reg.LOOP_PHU_U_cls : LOOP_PHU_U.cls = 408 := by rfl

theorem Reg.LOOP_PHU_I_cls : LOOP_PHU_I.cls = 409 := by rfl

theorem Reg.LOOP_PHCFG_STALE_cls : LOOP_PHCFG_STALE.cls = 410 := by rfl

theorem Reg.LOOP_BKPV_PV_cls : LOOP_BKPV_PV.cls = 411 := by rfl

theorem Reg.LOOP_BKU_U_cls : LOOP_BKU_U.cls = 412 := by rfl

theorem Reg.LOOP_BKU_I_cls : LOOP_BKU_I.cls = 413 := by rfl

theorem Reg.TMX_CTRL_BSCANEN_cls : TMX_CTRL_BSCANEN.cls = 414 := by rfl

theorem Reg.TMX_CTRL_DBGEN_cls : TMX_CTRL_DBGEN.cls = 415 := by rfl

theorem Reg.TMX_BLIND_TILES_cls : TMX_BLIND_TILES.cls = 416 := by rfl

theorem Reg.TMX_BLINDACT_TILES_cls : TMX_BLINDACT_TILES.cls = 417 := by rfl

theorem Reg.TMX_TPCTL_PEND_cls : TMX_TPCTL_PEND.cls = 418 := by rfl

theorem Reg.TMX_TPSTAT_ACTIVE_cls : TMX_TPSTAT_ACTIVE.cls = 419 := by rfl

theorem Reg.TMX_TPSTAT_CAPDONE_cls : TMX_TPSTAT_CAPDONE.cls = 420 := by rfl

theorem Reg.TMX_TPSTAT_WRERR_cls : TMX_TPSTAT_WRERR.cls = 421 := by rfl

theorem Reg.TMX_TPERR_COUNT_cls : TMX_TPERR_COUNT.cls = 422 := by rfl

theorem Reg.TMX_TPERR_TILE_cls : TMX_TPERR_TILE.cls = 423 := by rfl

theorem Reg.TMX_TPERR_LANE_cls : TMX_TPERR_LANE.cls = 424 := by rfl

theorem Reg.TMX_TPERR_RGRP_cls : TMX_TPERR_RGRP.cls = 425 := by rfl

theorem Reg.TMX_TPSEL_INDEX_cls : TMX_TPSEL_INDEX.cls = 426 := by rfl

theorem Reg.EVT_FLASHPOS_NEXT_cls : EVT_FLASHPOS_NEXT.cls = 1 := by rfl

theorem Reg.EVT_FLASHPOS_PEND_cls : EVT_FLASHPOS_PEND.cls = 1 := by rfl

theorem Reg.EVT_LOGHEAD_NEXT_cls : EVT_LOGHEAD_NEXT.cls = 1 := by rfl

theorem Reg.EVT_LOGLOST_COUNT_cls : EVT_LOGLOST_COUNT.cls = 1 := by rfl

theorem Reg.EVT_LOGSEQ_SEQ_cls : EVT_LOGSEQ_SEQ.cls = 1 := by rfl

theorem Reg.EVT_CNT_CNT0_cls (n : Nat) : (EVT_CNT_CNT0 n).cls = 1 :=
  Fld.cls_of 1 0x900 0xC00 (by simp only [Fld.key, EVT_CNT_CNT0]; omega) (by simp only [Fld.key, EVT_CNT_CNT0]; omega) (by rfl) (by rfl) (by rfl)

theorem Reg.EVT_CNT_CNT1_cls (n : Nat) : (EVT_CNT_CNT1 n).cls = 1 :=
  Fld.cls_of 1 0x900 0xC00 (by simp only [Fld.key, EVT_CNT_CNT1]; omega) (by simp only [Fld.key, EVT_CNT_CNT1]; omega) (by rfl) (by rfl) (by rfl)

theorem Reg.EVT_CNT_CNT2_cls (n : Nat) : (EVT_CNT_CNT2 n).cls = 1 :=
  Fld.cls_of 1 0x900 0xC00 (by simp only [Fld.key, EVT_CNT_CNT2]; omega) (by simp only [Fld.key, EVT_CNT_CNT2]; omega) (by rfl) (by rfl) (by rfl)

theorem Reg.EVT_CNT_CNT3_cls (n : Nat) : (EVT_CNT_CNT3 n).cls = 1 :=
  Fld.cls_of 1 0x900 0xC00 (by simp only [Fld.key, EVT_CNT_CNT3]; omega) (by simp only [Fld.key, EVT_CNT_CNT3]; omega) (by rfl) (by rfl) (by rfl)

theorem Reg.EVT_STAT_STAT_cls (n : Nat) : (EVT_STAT_STAT n).cls = 1 :=
  Fld.cls_of 1 0x500 0x560 (by simp only [Fld.key, EVT_STAT_STAT]; omega) (by simp only [Fld.key, EVT_STAT_STAT]; omega) (by rfl) (by rfl) (by rfl)

theorem Reg.THM_TL_EXCL_cls (n : Nat) : (THM_TL_EXCL n).cls = 3 :=
  Fld.cls_of 3 0x1420 0x1440 (by simp only [Fld.key, THM_TL_EXCL]; omega) (by simp only [Fld.key, THM_TL_EXCL]; omega) (by rfl) (by rfl) (by rfl)

theorem Reg.THM_TL_SUSPECT_cls (n : Nat) : (THM_TL_SUSPECT n).cls = 3 :=
  Fld.cls_of 3 0x1420 0x1440 (by simp only [Fld.key, THM_TL_SUSPECT]; omega) (by simp only [Fld.key, THM_TL_SUSPECT]; omega) (by rfl) (by rfl) (by rfl)

theorem Reg.THM_TL_TEMP_cls (n : Nat) : (THM_TL_TEMP n).cls = 3 :=
  Fld.cls_of 3 0x1420 0x1440 (by simp only [Fld.key, THM_TL_TEMP]; omega) (by simp only [Fld.key, THM_TL_TEMP]; omega) (by rfl) (by rfl) (by rfl)

theorem Reg.THM_TL_VALID_cls (n : Nat) : (THM_TL_VALID n).cls = 3 :=
  Fld.cls_of 3 0x1420 0x1440 (by simp only [Fld.key, THM_TL_VALID]; omega) (by simp only [Fld.key, THM_TL_VALID]; omega) (by rfl) (by rfl) (by rfl)

theorem Reg.THM_TP_EXCL_cls (n : Nat) : (THM_TP_EXCL n).cls = 3 :=
  Fld.cls_of 3 0x1440 0x1458 (by simp only [Fld.key, THM_TP_EXCL]; omega) (by simp only [Fld.key, THM_TP_EXCL]; omega) (by rfl) (by rfl) (by rfl)

theorem Reg.THM_TP_SUSPECT_cls (n : Nat) : (THM_TP_SUSPECT n).cls = 3 :=
  Fld.cls_of 3 0x1440 0x1458 (by simp only [Fld.key, THM_TP_SUSPECT]; omega) (by simp only [Fld.key, THM_TP_SUSPECT]; omega) (by rfl) (by rfl) (by rfl)

theorem Reg.THM_TP_TEMP_cls (n : Nat) : (THM_TP_TEMP n).cls = 3 :=
  Fld.cls_of 3 0x1440 0x1458 (by simp only [Fld.key, THM_TP_TEMP]; omega) (by simp only [Fld.key, THM_TP_TEMP]; omega) (by rfl) (by rfl) (by rfl)

theorem Reg.THM_TP_VALID_cls (n : Nat) : (THM_TP_VALID n).cls = 3 :=
  Fld.cls_of 3 0x1440 0x1458 (by simp only [Fld.key, THM_TP_VALID]; omega) (by simp only [Fld.key, THM_TP_VALID]; omega) (by rfl) (by rfl) (by rfl)

theorem Reg.HKA_AINENG_VALUE_cls (n : Nat) : (HKA_AINENG_VALUE n).cls = 4 :=
  Fld.cls_of 4 0x1B20 0x1B40 (by simp only [Fld.key, HKA_AINENG_VALUE]; omega) (by simp only [Fld.key, HKA_AINENG_VALUE]; omega) (by rfl) (by rfl) (by rfl)

theorem Reg.HKA_RES_COUNT_cls (n : Nat) : (HKA_RES_COUNT n).cls = 4 :=
  Fld.cls_of 4 0x1A00 0x1A80 (by simp only [Fld.key, HKA_RES_COUNT]; omega) (by simp only [Fld.key, HKA_RES_COUNT]; omega) (by rfl) (by rfl) (by rfl)

theorem Reg.HKA_RES_LASTINV_cls (n : Nat) : (HKA_RES_LASTINV n).cls = 4 :=
  Fld.cls_of 4 0x1A00 0x1A80 (by simp only [Fld.key, HKA_RES_LASTINV]; omega) (by simp only [Fld.key, HKA_RES_LASTINV]; omega) (by rfl) (by rfl) (by rfl)

theorem Reg.HKA_RES_VALID_cls (n : Nat) : (HKA_RES_VALID n).cls = 4 :=
  Fld.cls_of 4 0x1A00 0x1A80 (by simp only [Fld.key, HKA_RES_VALID]; omega) (by simp only [Fld.key, HKA_RES_VALID]; omega) (by rfl) (by rfl) (by rfl)

theorem Reg.HKA_RES_VALUE_cls (n : Nat) : (HKA_RES_VALUE n).cls = 4 :=
  Fld.cls_of 4 0x1A00 0x1A80 (by simp only [Fld.key, HKA_RES_VALUE]; omega) (by simp only [Fld.key, HKA_RES_VALUE]; omega) (by rfl) (by rfl) (by rfl)

theorem Reg.STG_TS_EXCL_cls (n : Nat) : (STG_TS_EXCL n).cls = 5 :=
  Fld.cls_of 5 0x2014 0x2024 (by simp only [Fld.key, STG_TS_EXCL]; omega) (by simp only [Fld.key, STG_TS_EXCL]; omega) (by rfl) (by rfl) (by rfl)

theorem Reg.STG_TS_TEMP_cls (n : Nat) : (STG_TS_TEMP n).cls = 5 :=
  Fld.cls_of 5 0x2014 0x2024 (by simp only [Fld.key, STG_TS_TEMP]; omega) (by simp only [Fld.key, STG_TS_TEMP]; omega) (by rfl) (by rfl) (by rfl)

theorem Reg.STG_TS_VALID_cls (n : Nat) : (STG_TS_VALID n).cls = 5 :=
  Fld.cls_of 5 0x2014 0x2024 (by simp only [Fld.key, STG_TS_VALID]; omega) (by simp only [Fld.key, STG_TS_VALID]; omega) (by rfl) (by rfl) (by rfl)

theorem Reg.TIL_CFSEL_INDEX_cls (n : Nat) : (TIL_CFSEL_INDEX n).cls = 6 :=
  Fld.cls_of 6 0x4068 0x5F6C (by simp only [Fld.key, TIL_CFSEL_INDEX]; omega) (by simp only [Fld.key, TIL_CFSEL_INDEX]; omega) (by rfl) (by rfl) (by rfl)

theorem Reg.TIL_CVCTRL_ROTEN_cls (n : Nat) : (TIL_CVCTRL_ROTEN n).cls = 6 :=
  Fld.cls_of 6 0x4060 0x5F64 (by simp only [Fld.key, TIL_CVCTRL_ROTEN]; omega) (by simp only [Fld.key, TIL_CVCTRL_ROTEN]; omega) (by rfl) (by rfl) (by rfl)

theorem Reg.TIL_CVSTAT_FAILCNT_cls (n : Nat) : (TIL_CVSTAT_FAILCNT n).cls = 6 :=
  Fld.cls_of 6 0x4064 0x5F68 (by simp only [Fld.key, TIL_CVSTAT_FAILCNT]; omega) (by simp only [Fld.key, TIL_CVSTAT_FAILCNT]; omega) (by rfl) (by rfl) (by rfl)

theorem Reg.TIL_CVSTAT_PARKED_cls (n : Nat) : (TIL_CVSTAT_PARKED n).cls = 6 :=
  Fld.cls_of 6 0x4064 0x5F68 (by simp only [Fld.key, TIL_CVSTAT_PARKED]; omega) (by simp only [Fld.key, TIL_CVSTAT_PARKED]; omega) (by rfl) (by rfl) (by rfl)

theorem Reg.TIL_CVSTAT_ROTSP_cls (n : Nat) : (TIL_CVSTAT_ROTSP n).cls = 6 :=
  Fld.cls_of 6 0x4064 0x5F68 (by simp only [Fld.key, TIL_CVSTAT_ROTSP]; omega) (by simp only [Fld.key, TIL_CVSTAT_ROTSP]; omega) (by rfl) (by rfl) (by rfl)

theorem Reg.TIL_CVSTAT_SCAL_BUSY_cls (n : Nat) : (TIL_CVSTAT_SCAL_BUSY n).cls = 6 :=
  Fld.cls_of 6 0x4064 0x5F68 (by simp only [Fld.key, TIL_CVSTAT_SCAL_BUSY]; omega) (by simp only [Fld.key, TIL_CVSTAT_SCAL_BUSY]; omega) (by rfl) (by rfl) (by rfl)

theorem Reg.TIL_CVSTAT_SCAL_DONE_cls (n : Nat) : (TIL_CVSTAT_SCAL_DONE n).cls = 6 :=
  Fld.cls_of 6 0x4064 0x5F68 (by simp only [Fld.key, TIL_CVSTAT_SCAL_DONE]; omega) (by simp only [Fld.key, TIL_CVSTAT_SCAL_DONE]; omega) (by rfl) (by rfl) (by rfl)

theorem Reg.TIL_CVSTAT_SCAL_FAIL_cls (n : Nat) : (TIL_CVSTAT_SCAL_FAIL n).cls = 6 :=
  Fld.cls_of 6 0x4064 0x5F68 (by simp only [Fld.key, TIL_CVSTAT_SCAL_FAIL]; omega) (by simp only [Fld.key, TIL_CVSTAT_SCAL_FAIL]; omega) (by rfl) (by rfl) (by rfl)

theorem Reg.TIL_GAIN_GAIN_cls (n : Nat) : (TIL_GAIN_GAIN n).cls = 6 :=
  Fld.cls_of 6 0x4000 0x5F04 (by simp only [Fld.key, TIL_GAIN_GAIN]; omega) (by simp only [Fld.key, TIL_GAIN_GAIN]; omega) (by rfl) (by rfl) (by rfl)

theorem Reg.TIL_GAIN_PEND_cls (n : Nat) : (TIL_GAIN_PEND n).cls = 6 :=
  Fld.cls_of 6 0x4000 0x5F04 (by simp only [Fld.key, TIL_GAIN_PEND]; omega) (by simp only [Fld.key, TIL_GAIN_PEND]; omega) (by rfl) (by rfl) (by rfl)

theorem Reg.TIL_OVRCNT_COUNT_cls (n : Nat) : (TIL_OVRCNT_COUNT n).cls = 6 :=
  Fld.cls_of 6 0x4010 0x5F14 (by simp only [Fld.key, TIL_OVRCNT_COUNT]; omega) (by simp only [Fld.key, TIL_OVRCNT_COUNT]; omega) (by rfl) (by rfl) (by rfl)

theorem Reg.TIL_OVRLAST_LANE_cls (n : Nat) : (TIL_OVRLAST_LANE n).cls = 6 :=
  Fld.cls_of 6 0x4014 0x5F18 (by simp only [Fld.key, TIL_OVRLAST_LANE]; omega) (by simp only [Fld.key, TIL_OVRLAST_LANE]; omega) (by rfl) (by rfl) (by rfl)

theorem Reg.TIL_OVRLAST_LOW_cls (n : Nat) : (TIL_OVRLAST_LOW n).cls = 6 :=
  Fld.cls_of 6 0x4014 0x5F18 (by simp only [Fld.key, TIL_OVRLAST_LOW]; omega) (by simp only [Fld.key, TIL_OVRLAST_LOW]; omega) (by rfl) (by rfl) (by rfl)

theorem Reg.TIL_OVRLAST_RGRP_cls (n : Nat) : (TIL_OVRLAST_RGRP n).cls = 6 :=
  Fld.cls_of 6 0x4014 0x5F18 (by simp only [Fld.key, TIL_OVRLAST_RGRP]; omega) (by simp only [Fld.key, TIL_OVRLAST_RGRP]; omega) (by rfl) (by rfl) (by rfl)

theorem Reg.TIL_OVRLAST_SLICE_cls (n : Nat) : (TIL_OVRLAST_SLICE n).cls = 6 :=
  Fld.cls_of 6 0x4014 0x5F18 (by simp only [Fld.key, TIL_OVRLAST_SLICE]; omega) (by simp only [Fld.key, TIL_OVRLAST_SLICE]; omega) (by rfl) (by rfl) (by rfl)

theorem Reg.TIL_PTDATA_PEND_cls (n : Nat) : (TIL_PTDATA_PEND n).cls = 6 :=
  Fld.cls_of 6 0x4008 0x5F0C (by simp only [Fld.key, TIL_PTDATA_PEND]; omega) (by simp only [Fld.key, TIL_PTDATA_PEND]; omega) (by rfl) (by rfl) (by rfl)

theorem Reg.TIL_PTSEL_INDEX_cls (n : Nat) : (TIL_PTSEL_INDEX n).cls = 6 :=
  Fld.cls_of 6 0x4004 0x5F08 (by simp only [Fld.key, TIL_PTSEL_INDEX]; omega) (by simp only [Fld.key, TIL_PTSEL_INDEX]; omega) (by rfl) (by rfl) (by rfl)

theorem Reg.TIL_REFDCNT_COUNT_cls (n : Nat) : (TIL_REFDCNT_COUNT n).cls = 6 :=
  Fld.cls_of 6 0x4018 0x5F1C (by simp only [Fld.key, TIL_REFDCNT_COUNT]; omega) (by simp only [Fld.key, TIL_REFDCNT_COUNT]; omega) (by rfl) (by rfl) (by rfl)

theorem Reg.TIL_ROTPOS_SP0_cls (n : Nat) : (TIL_ROTPOS_SP0 n).cls = 6 :=
  Fld.cls_of 6 0x4070 0x5F74 (by simp only [Fld.key, TIL_ROTPOS_SP0]; omega) (by simp only [Fld.key, TIL_ROTPOS_SP0]; omega) (by rfl) (by rfl) (by rfl)

theorem Reg.TIL_ROTPOS_SP1_cls (n : Nat) : (TIL_ROTPOS_SP1 n).cls = 6 :=
  Fld.cls_of 6 0x4070 0x5F74 (by simp only [Fld.key, TIL_ROTPOS_SP1]; omega) (by simp only [Fld.key, TIL_ROTPOS_SP1]; omega) (by rfl) (by rfl) (by rfl)

theorem Reg.TIL_ROTPOS_SP2_cls (n : Nat) : (TIL_ROTPOS_SP2 n).cls = 6 :=
  Fld.cls_of 6 0x4070 0x5F74 (by simp only [Fld.key, TIL_ROTPOS_SP2]; omega) (by simp only [Fld.key, TIL_ROTPOS_SP2]; omega) (by rfl) (by rfl) (by rfl)

theorem Reg.TIL_ROTPOS_SP3_cls (n : Nat) : (TIL_ROTPOS_SP3 n).cls = 6 :=
  Fld.cls_of 6 0x4070 0x5F74 (by simp only [Fld.key, TIL_ROTPOS_SP3]; omega) (by simp only [Fld.key, TIL_ROTPOS_SP3]; omega) (by rfl) (by rfl) (by rfl)

theorem Reg.TIL_SUBST_SLICE_cls (n : Nat) : (TIL_SUBST_SLICE n).cls = 6 :=
  Fld.cls_of 6 0x407C 0x5F80 (by simp only [Fld.key, TIL_SUBST_SLICE]; omega) (by simp only [Fld.key, TIL_SUBST_SLICE]; omega) (by rfl) (by rfl) (by rfl)

theorem Reg.TIL_SUBST_SPARE_cls (n : Nat) : (TIL_SUBST_SPARE n).cls = 6 :=
  Fld.cls_of 6 0x407C 0x5F80 (by simp only [Fld.key, TIL_SUBST_SPARE]; omega) (by simp only [Fld.key, TIL_SUBST_SPARE]; omega) (by rfl) (by rfl) (by rfl)

theorem Reg.TIL_SWAPDIFF_LAST_cls (n : Nat) : (TIL_SWAPDIFF_LAST n).cls = 6 :=
  Fld.cls_of 6 0x4074 0x5F78 (by simp only [Fld.key, TIL_SWAPDIFF_LAST]; omega) (by simp only [Fld.key, TIL_SWAPDIFF_LAST]; omega) (by rfl) (by rfl) (by rfl)

theorem Reg.TIL_SWAPDIFF_MAXABS_cls (n : Nat) : (TIL_SWAPDIFF_MAXABS n).cls = 6 :=
  Fld.cls_of 6 0x4074 0x5F78 (by simp only [Fld.key, TIL_SWAPDIFF_MAXABS]; omega) (by simp only [Fld.key, TIL_SWAPDIFF_MAXABS]; omega) (by rfl) (by rfl) (by rfl)

theorem Reg.TIL_TXCRCCNT_COUNT_cls (n : Nat) : (TIL_TXCRCCNT_COUNT n).cls = 6 :=
  Fld.cls_of 6 0x408C 0x5F90 (by simp only [Fld.key, TIL_TXCRCCNT_COUNT]; omega) (by simp only [Fld.key, TIL_TXCRCCNT_COUNT]; omega) (by rfl) (by rfl) (by rfl)

theorem Reg.TIL_TXINVCNT_COUNT_cls (n : Nat) : (TIL_TXINVCNT_COUNT n).cls = 6 :=
  Fld.cls_of 6 0x4090 0x5F94 (by simp only [Fld.key, TIL_TXINVCNT_COUNT]; omega) (by simp only [Fld.key, TIL_TXINVCNT_COUNT]; omega) (by rfl) (by rfl) (by rfl)

theorem Reg.TIL_TXLASTSLIP_HI_STAMP_cls (n : Nat) : (TIL_TXLASTSLIP_HI_STAMP n).cls = 6 :=
  Fld.cls_of 6 0x4098 0x5F9C (by simp only [Fld.key, TIL_TXLASTSLIP_HI_STAMP]; omega) (by simp only [Fld.key, TIL_TXLASTSLIP_HI_STAMP]; omega) (by rfl) (by rfl) (by rfl)

theorem Reg.TIL_TXLASTSLIP_LO_STAMP_cls (n : Nat) : (TIL_TXLASTSLIP_LO_STAMP n).cls = 6 :=
  Fld.cls_of 6 0x4094 0x5F98 (by simp only [Fld.key, TIL_TXLASTSLIP_LO_STAMP]; omega) (by simp only [Fld.key, TIL_TXLASTSLIP_LO_STAMP]; omega) (by rfl) (by rfl) (by rfl)

theorem Reg.TIL_TXSLIPCNT_COUNT_cls (n : Nat) : (TIL_TXSLIPCNT_COUNT n).cls = 6 :=
  Fld.cls_of 6 0x4088 0x5F8C (by simp only [Fld.key, TIL_TXSLIPCNT_COUNT]; omega) (by simp only [Fld.key, TIL_TXSLIPCNT_COUNT]; omega) (by rfl) (by rfl) (by rfl)

theorem Reg.TIL_TXSTAT_ALIGNED_cls (n : Nat) : (TIL_TXSTAT_ALIGNED n).cls = 6 :=
  Fld.cls_of 6 0x4084 0x5F88 (by simp only [Fld.key, TIL_TXSTAT_ALIGNED]; omega) (by simp only [Fld.key, TIL_TXSTAT_ALIGNED]; omega) (by rfl) (by rfl) (by rfl)

theorem Reg.TIL_TXSTAT_CAUSE_cls (n : Nat) : (TIL_TXSTAT_CAUSE n).cls = 6 :=
  Fld.cls_of 6 0x4084 0x5F88 (by simp only [Fld.key, TIL_TXSTAT_CAUSE]; omega) (by simp only [Fld.key, TIL_TXSTAT_CAUSE]; omega) (by rfl) (by rfl) (by rfl)

theorem Reg.TIL_TXSTAT_LOCK_cls (n : Nat) : (TIL_TXSTAT_LOCK n).cls = 6 :=
  Fld.cls_of 6 0x4084 0x5F88 (by simp only [Fld.key, TIL_TXSTAT_LOCK]; omega) (by simp only [Fld.key, TIL_TXSTAT_LOCK]; omega) (by rfl) (by rfl) (by rfl)

theorem Reg.TIL_TXSTAT_OCC_cls (n : Nat) : (TIL_TXSTAT_OCC n).cls = 6 :=
  Fld.cls_of 6 0x4084 0x5F88 (by simp only [Fld.key, TIL_TXSTAT_OCC]; omega) (by simp only [Fld.key, TIL_TXSTAT_OCC]; omega) (by rfl) (by rfl) (by rfl)

theorem Reg.TIL_TXSTAT_OCCMAX_cls (n : Nat) : (TIL_TXSTAT_OCCMAX n).cls = 6 :=
  Fld.cls_of 6 0x4084 0x5F88 (by simp only [Fld.key, TIL_TXSTAT_OCCMAX]; omega) (by simp only [Fld.key, TIL_TXSTAT_OCCMAX]; omega) (by rfl) (by rfl) (by rfl)

theorem Reg.TIL_TXSTAT_OCCMIN_cls (n : Nat) : (TIL_TXSTAT_OCCMIN n).cls = 6 :=
  Fld.cls_of 6 0x4084 0x5F88 (by simp only [Fld.key, TIL_TXSTAT_OCCMIN]; omega) (by simp only [Fld.key, TIL_TXSTAT_OCCMIN]; omega) (by rfl) (by rfl) (by rfl)

theorem Reg.COR_LANEBAD_BAD_cls (n : Nat) : (COR_LANEBAD_BAD n).cls = 7 :=
  Fld.cls_of 7 0x6200 0x6300 (by simp only [Fld.key, COR_LANEBAD_BAD]; omega) (by simp only [Fld.key, COR_LANEBAD_BAD]; omega) (by rfl) (by rfl) (by rfl)

theorem Reg.COR_LANEX_EXCL_cls (n : Nat) : (COR_LANEX_EXCL n).cls = 7 :=
  Fld.cls_of 7 0x6100 0x6200 (by simp only [Fld.key, COR_LANEX_EXCL]; omega) (by simp only [Fld.key, COR_LANEX_EXCL]; omega) (by rfl) (by rfl) (by rfl)

theorem Reg.CAL_TNOISE_LAST_cls (n : Nat) : (CAL_TNOISE_LAST n).cls = 8 :=
  Fld.cls_of 8 0x6480 0x6500 (by simp only [Fld.key, CAL_TNOISE_LAST]; omega) (by simp only [Fld.key, CAL_TNOISE_LAST]; omega) (by rfl) (by rfl) (by rfl)

theorem Reg.BRD_HYPCNT_COUNT_cls (n : Nat) : (BRD_HYPCNT_COUNT n).cls = 9 :=
  Fld.cls_of 9 0x68A0 0x68B4 (by simp only [Fld.key, BRD_HYPCNT_COUNT]; omega) (by simp only [Fld.key, BRD_HYPCNT_COUNT]; omega) (by rfl) (by rfl) (by rfl)

theorem Reg.BRD_HYP_DEPTH_D_cls (n : Nat) : (BRD_HYP_DEPTH_D n).cls = 9 :=
  Fld.cls_of 9 0x684C 0x6890 (by simp only [Fld.key, BRD_HYP_DEPTH_D]; omega) (by simp only [Fld.key, BRD_HYP_DEPTH_D]; omega) (by rfl) (by rfl) (by rfl)

theorem Reg.BRD_HYP_DEPTH_TAG_cls (n : Nat) : (BRD_HYP_DEPTH_TAG n).cls = 9 :=
  Fld.cls_of 9 0x684C 0x6890 (by simp only [Fld.key, BRD_HYP_DEPTH_TAG]; omega) (by simp only [Fld.key, BRD_HYP_DEPTH_TAG]; omega) (by rfl) (by rfl) (by rfl)

theorem Reg.BRD_HYP_DEPTH_USED_cls (n : Nat) : (BRD_HYP_DEPTH_USED n).cls = 9 :=
  Fld.cls_of 9 0x684C 0x6890 (by simp only [Fld.key, BRD_HYP_DEPTH_USED]; omega) (by simp only [Fld.key, BRD_HYP_DEPTH_USED]; omega) (by rfl) (by rfl) (by rfl)

theorem Reg.BRD_HYP_HALFDT_DT_cls (n : Nat) : (BRD_HYP_HALFDT_DT n).cls = 9 :=
  Fld.cls_of 9 0x6848 0x688C (by simp only [Fld.key, BRD_HYP_HALFDT_DT]; omega) (by simp only [Fld.key, BRD_HYP_HALFDT_DT]; omega) (by rfl) (by rfl) (by rfl)

theorem Reg.BRD_HYP_SPEED_VCTR_cls (n : Nat) : (BRD_HYP_SPEED_VCTR n).cls = 9 :=
  Fld.cls_of 9 0x6840 0x6884 (by simp only [Fld.key, BRD_HYP_SPEED_VCTR]; omega) (by simp only [Fld.key, BRD_HYP_SPEED_VCTR]; omega) (by rfl) (by rfl) (by rfl)

theorem Reg.BRD_HYP_SPEED_VROW0_cls (n : Nat) : (BRD_HYP_SPEED_VROW0 n).cls = 9 :=
  Fld.cls_of 9 0x6840 0x6884 (by simp only [Fld.key, BRD_HYP_SPEED_VROW0]; omega) (by simp only [Fld.key, BRD_HYP_SPEED_VROW0]; omega) (by rfl) (by rfl) (by rfl)

theorem Reg.BRD_HYP_TAU63_TAU_cls (n : Nat) : (BRD_HYP_TAU63_TAU n).cls = 9 :=
  Fld.cls_of 9 0x6844 0x6888 (by simp only [Fld.key, BRD_HYP_TAU63_TAU]; omega) (by simp only [Fld.key, BRD_HYP_TAU63_TAU]; omega) (by rfl) (by rfl) (by rfl)

theorem Reg.VRD_CLSCNT_COUNT_cls (n : Nat) : (VRD_CLSCNT_COUNT n).cls = 11 :=
  Fld.cls_of 11 0x7440 0x7480 (by simp only [Fld.key, VRD_CLSCNT_COUNT]; omega) (by simp only [Fld.key, VRD_CLSCNT_COUNT]; omega) (by rfl) (by rfl) (by rfl)

theorem Reg.VLV_COIL_PEAK_cls (n : Nat) : (VLV_COIL_PEAK n).cls = 13 :=
  Fld.cls_of 13 0x800C 0x9FD0 (by simp only [Fld.key, VLV_COIL_PEAK]; omega) (by simp only [Fld.key, VLV_COIL_PEAK]; omega) (by rfl) (by rfl) (by rfl)

theorem Reg.VLV_COIL_TEMP_cls (n : Nat) : (VLV_COIL_TEMP n).cls = 13 :=
  Fld.cls_of 13 0x800C 0x9FD0 (by simp only [Fld.key, VLV_COIL_TEMP]; omega) (by simp only [Fld.key, VLV_COIL_TEMP]; omega) (by rfl) (by rfl) (by rfl)

theorem Reg.VLV_DROPCNT_COUNT_cls (n : Nat) : (VLV_DROPCNT_COUNT n).cls = 13 :=
  Fld.cls_of 13 0x8024 0x9FE8 (by simp only [Fld.key, VLV_DROPCNT_COUNT]; omega) (by simp only [Fld.key, VLV_DROPCNT_COUNT]; omega) (by rfl) (by rfl) (by rfl)

theorem Reg.VLV_FIRECNT_COUNT_cls (n : Nat) : (VLV_FIRECNT_COUNT n).cls = 13 :=
  Fld.cls_of 13 0x8020 0x9FE4 (by simp only [Fld.key, VLV_FIRECNT_COUNT]; omega) (by simp only [Fld.key, VLV_FIRECNT_COUNT]; omega) (by rfl) (by rfl) (by rfl)

theorem Reg.VLV_FLTCNT_COUNT_cls (n : Nat) : (VLV_FLTCNT_COUNT n).cls = 13 :=
  Fld.cls_of 13 0x8034 0x9FF8 (by simp only [Fld.key, VLV_FLTCNT_COUNT]; omega) (by simp only [Fld.key, VLV_FLTCNT_COUNT]; omega) (by rfl) (by rfl) (by rfl)

theorem Reg.VLV_IMEAS_FB_cls (n : Nat) : (VLV_IMEAS_FB n).cls = 13 :=
  Fld.cls_of 13 0x801C 0x9FE0 (by simp only [Fld.key, VLV_IMEAS_FB]; omega) (by simp only [Fld.key, VLV_IMEAS_FB]; omega) (by rfl) (by rfl) (by rfl)

theorem Reg.VLV_IMEAS_IPK_cls (n : Nat) : (VLV_IMEAS_IPK n).cls = 13 :=
  Fld.cls_of 13 0x801C 0x9FE0 (by simp only [Fld.key, VLV_IMEAS_IPK]; omega) (by simp only [Fld.key, VLV_IMEAS_IPK]; omega) (by rfl) (by rfl) (by rfl)

theorem Reg.VLV_IMEAS_PKTO_cls (n : Nat) : (VLV_IMEAS_PKTO n).cls = 13 :=
  Fld.cls_of 13 0x801C 0x9FE0 (by simp only [Fld.key, VLV_IMEAS_PKTO]; omega) (by simp only [Fld.key, VLV_IMEAS_PKTO]; omega) (by rfl) (by rfl) (by rfl)

theorem Reg.VLV_IMEAS_TPK_cls (n : Nat) : (VLV_IMEAS_TPK n).cls = 13 :=
  Fld.cls_of 13 0x801C 0x9FE0 (by simp only [Fld.key, VLV_IMEAS_TPK]; omega) (by simp only [Fld.key, VLV_IMEAS_TPK]; omega) (by rfl) (by rfl) (by rfl)

theorem Reg.VLV_LASTON_HI_STAMP_cls (n : Nat) : (VLV_LASTON_HI_STAMP n).cls = 13 :=
  Fld.cls_of 13 0x803C 0xA000 (by simp only [Fld.key, VLV_LASTON_HI_STAMP]; omega) (by simp only [Fld.key, VLV_LASTON_HI_STAMP]; omega) (by rfl) (by rfl) (by rfl)

theorem Reg.VLV_LASTON_LO_STAMP_cls (n : Nat) : (VLV_LASTON_LO_STAMP n).cls = 13 :=
  Fld.cls_of 13 0x8038 0x9FFC (by simp only [Fld.key, VLV_LASTON_LO_STAMP]; omega) (by simp only [Fld.key, VLV_LASTON_LO_STAMP]; omega) (by rfl) (by rfl) (by rfl)

theorem Reg.VLV_MOVCNT_CLSCNT_cls (n : Nat) : (VLV_MOVCNT_CLSCNT n).cls = 13 :=
  Fld.cls_of 13 0x8018 0x9FDC (by simp only [Fld.key, VLV_MOVCNT_CLSCNT]; omega) (by simp only [Fld.key, VLV_MOVCNT_CLSCNT]; omega) (by rfl) (by rfl) (by rfl)

theorem Reg.VLV_MOVCNT_OPNCNT_cls (n : Nat) : (VLV_MOVCNT_OPNCNT n).cls = 13 :=
  Fld.cls_of 13 0x8018 0x9FDC (by simp only [Fld.key, VLV_MOVCNT_OPNCNT]; omega) (by simp only [Fld.key, VLV_MOVCNT_OPNCNT]; omega) (by rfl) (by rfl) (by rfl)

theorem Reg.VLV_NMCNT_NOTMOVED_cls (n : Nat) : (VLV_NMCNT_NOTMOVED n).cls = 13 :=
  Fld.cls_of 13 0x802C 0x9FF0 (by simp only [Fld.key, VLV_NMCNT_NOTMOVED]; omega) (by simp only [Fld.key, VLV_NMCNT_NOTMOVED]; omega) (by rfl) (by rfl) (by rfl)

theorem Reg.VLV_NMCNT_UNMEAS_cls (n : Nat) : (VLV_NMCNT_UNMEAS n).cls = 13 :=
  Fld.cls_of 13 0x802C 0x9FF0 (by simp only [Fld.key, VLV_NMCNT_UNMEAS]; omega) (by simp only [Fld.key, VLV_NMCNT_UNMEAS]; omega) (by rfl) (by rfl) (by rfl)

theorem Reg.VLV_SHIFTCNT_COUNT_cls (n : Nat) : (VLV_SHIFTCNT_COUNT n).cls = 13 :=
  Fld.cls_of 13 0x8030 0x9FF4 (by simp only [Fld.key, VLV_SHIFTCNT_COUNT]; omega) (by simp only [Fld.key, VLV_SHIFTCNT_COUNT]; omega) (by rfl) (by rfl) (by rfl)

theorem Reg.VLV_STAT_CHFLT_cls (n : Nat) : (VLV_STAT_CHFLT n).cls = 13 :=
  Fld.cls_of 13 0x8004 0x9FC8 (by simp only [Fld.key, VLV_STAT_CHFLT]; omega) (by simp only [Fld.key, VLV_STAT_CHFLT]; omega) (by rfl) (by rfl) (by rfl)

theorem Reg.VLV_STAT_CLIMIT_cls (n : Nat) : (VLV_STAT_CLIMIT n).cls = 13 :=
  Fld.cls_of 13 0x8004 0x9FC8 (by simp only [Fld.key, VLV_STAT_CLIMIT]; omega) (by simp only [Fld.key, VLV_STAT_CLIMIT]; omega) (by rfl) (by rfl) (by rfl)

theorem Reg.VLV_STAT_CWARN_cls (n : Nat) : (VLV_STAT_CWARN n).cls = 13 :=
  Fld.cls_of 13 0x8004 0x9FC8 (by simp only [Fld.key, VLV_STAT_CWARN]; omega) (by simp only [Fld.key, VLV_STAT_CWARN]; omega) (by rfl) (by rfl) (by rfl)

theorem Reg.VLV_STAT_FLTCAUSE_cls (n : Nat) : (VLV_STAT_FLTCAUSE n).cls = 13 :=
  Fld.cls_of 13 0x8004 0x9FC8 (by simp only [Fld.key, VLV_STAT_FLTCAUSE]; omega) (by simp only [Fld.key, VLV_STAT_FLTCAUSE]; omega) (by rfl) (by rfl) (by rfl)

theorem Reg.VLV_STAT_LASTDROP_cls (n : Nat) : (VLV_STAT_LASTDROP n).cls = 13 :=
  Fld.cls_of 13 0x8004 0x9FC8 (by simp only [Fld.key, VLV_STAT_LASTDROP]; omega) (by simp only [Fld.key, VLV_STAT_LASTDROP]; omega) (by rfl) (by rfl) (by rfl)

theorem Reg.VLV_STAT_QOCC_cls (n : Nat) : (VLV_STAT_QOCC n).cls = 13 :=
  Fld.cls_of 13 0x8004 0x9FC8 (by simp only [Fld.key, VLV_STAT_QOCC]; omega) (by simp only [Fld.key, VLV_STAT_QOCC]; omega) (by rfl) (by rfl) (by rfl)

theorem Reg.VLV_STAT_STATE_cls (n : Nat) : (VLV_STAT_STATE n).cls = 13 :=
  Fld.cls_of 13 0x8004 0x9FC8 (by simp only [Fld.key, VLV_STAT_STATE]; omega) (by simp only [Fld.key, VLV_STAT_STATE]; omega) (by rfl) (by rfl) (by rfl)

theorem Reg.VLV_STAT_UNMEAS_cls (n : Nat) : (VLV_STAT_UNMEAS n).cls = 13 :=
  Fld.cls_of 13 0x8004 0x9FC8 (by simp only [Fld.key, VLV_STAT_UNMEAS]; omega) (by simp only [Fld.key, VLV_STAT_UNMEAS]; omega) (by rfl) (by rfl) (by rfl)

theorem Reg.VLV_TCLOSE_LAST_cls (n : Nat) : (VLV_TCLOSE_LAST n).cls = 13 :=
  Fld.cls_of 13 0x8014 0x9FD8 (by simp only [Fld.key, VLV_TCLOSE_LAST]; omega) (by simp only [Fld.key, VLV_TCLOSE_LAST]; omega) (by rfl) (by rfl) (by rfl)

theorem Reg.VLV_TCLOSE_MEAN_cls (n : Nat) : (VLV_TCLOSE_MEAN n).cls = 13 :=
  Fld.cls_of 13 0x8014 0x9FD8 (by simp only [Fld.key, VLV_TCLOSE_MEAN]; omega) (by simp only [Fld.key, VLV_TCLOSE_MEAN]; omega) (by rfl) (by rfl) (by rfl)

theorem Reg.VLV_TOKDROP_COUNT_cls (n : Nat) : (VLV_TOKDROP_COUNT n).cls = 13 :=
  Fld.cls_of 13 0x8028 0x9FEC (by simp only [Fld.key, VLV_TOKDROP_COUNT]; omega) (by simp only [Fld.key, VLV_TOKDROP_COUNT]; omega) (by rfl) (by rfl) (by rfl)

theorem Reg.VLV_TOPEN_LAST_cls (n : Nat) : (VLV_TOPEN_LAST n).cls = 13 :=
  Fld.cls_of 13 0x8010 0x9FD4 (by simp only [Fld.key, VLV_TOPEN_LAST]; omega) (by simp only [Fld.key, VLV_TOPEN_LAST]; omega) (by rfl) (by rfl) (by rfl)

theorem Reg.VLV_TOPEN_MEAN_cls (n : Nat) : (VLV_TOPEN_MEAN n).cls = 13 :=
  Fld.cls_of 13 0x8010 0x9FD4 (by simp only [Fld.key, VLV_TOPEN_MEAN]; omega) (by simp only [Fld.key, VLV_TOPEN_MEAN]; omega) (by rfl) (by rfl) (by rfl)

theorem Reg.VBK_OLCNT_COUNT_cls (n : Nat) : (VBK_OLCNT_COUNT n).cls = 14 :=
  Fld.cls_of 14 0xA014 0xA798 (by simp only [Fld.key, VBK_OLCNT_COUNT]; omega) (by simp only [Fld.key, VBK_OLCNT_COUNT]; omega) (by rfl) (by rfl) (by rfl)

theorem Reg.VBK_PEAKMAX_MAX_cls (n : Nat) : (VBK_PEAKMAX_MAX n).cls = 14 :=
  Fld.cls_of 14 0xA01C 0xA7A0 (by simp only [Fld.key, VBK_PEAKMAX_MAX]; omega) (by simp only [Fld.key, VBK_PEAKMAX_MAX]; omega) (by rfl) (by rfl) (by rfl)

theorem Reg.VBK_PKTOCNT_COUNT_cls (n : Nat) : (VBK_PKTOCNT_COUNT n).cls = 14 :=
  Fld.cls_of 14 0xA010 0xA794 (by simp only [Fld.key, VBK_PKTOCNT_COUNT]; omega) (by simp only [Fld.key, VBK_PKTOCNT_COUNT]; omega) (by rfl) (by rfl) (by rfl)

theorem Reg.VBK_RSCNT_COUNT_cls (n : Nat) : (VBK_RSCNT_COUNT n).cls = 14 :=
  Fld.cls_of 14 0xA018 0xA79C (by simp only [Fld.key, VBK_RSCNT_COUNT]; omega) (by simp only [Fld.key, VBK_RSCNT_COUNT]; omega) (by rfl) (by rfl) (by rfl)

theorem Reg.VBK_STAT_BKFLT_cls (n : Nat) : (VBK_STAT_BKFLT n).cls = 14 :=
  Fld.cls_of 14 0xA004 0xA788 (by simp only [Fld.key, VBK_STAT_BKFLT]; omega) (by simp only [Fld.key, VBK_STAT_BKFLT]; omega) (by rfl) (by rfl) (by rfl)

theorem Reg.VBK_STAT_HOLDING_cls (n : Nat) : (VBK_STAT_HOLDING n).cls = 14 :=
  Fld.cls_of 14 0xA004 0xA788 (by simp only [Fld.key, VBK_STAT_HOLDING]; omega) (by simp only [Fld.key, VBK_STAT_HOLDING]; omega) (by rfl) (by rfl) (by rfl)

theorem Reg.VBK_STAT_LEADER_cls (n : Nat) : (VBK_STAT_LEADER n).cls = 14 :=
  Fld.cls_of 14 0xA004 0xA788 (by simp only [Fld.key, VBK_STAT_LEADER]; omega) (by simp only [Fld.key, VBK_STAT_LEADER]; omega) (by rfl) (by rfl) (by rfl)

theorem Reg.VBK_STAT_LEADVALID_cls (n : Nat) : (VBK_STAT_LEADVALID n).cls = 14 :=
  Fld.cls_of 14 0xA004 0xA788 (by simp only [Fld.key, VBK_STAT_LEADVALID]; omega) (by simp only [Fld.key, VBK_STAT_LEADVALID]; omega) (by rfl) (by rfl) (by rfl)

theorem Reg.VBK_STAT_PEAKING_cls (n : Nat) : (VBK_STAT_PEAKING n).cls = 14 :=
  Fld.cls_of 14 0xA004 0xA788 (by simp only [Fld.key, VBK_STAT_PEAKING]; omega) (by simp only [Fld.key, VBK_STAT_PEAKING]; omega) (by rfl) (by rfl) (by rfl)

theorem Reg.VBK_STAT_RAIL_cls (n : Nat) : (VBK_STAT_RAIL n).cls = 14 :=
  Fld.cls_of 14 0xA004 0xA788 (by simp only [Fld.key, VBK_STAT_RAIL]; omega) (by simp only [Fld.key, VBK_STAT_RAIL]; omega) (by rfl) (by rfl) (by rfl)

theorem Reg.VBK_TRACE_S0_cls (n m : Nat) : (VBK_TRACE_S0 n m).cls = 14 :=
  Fld.cls_of 14 0xA020 0xA7E0 (by simp only [Fld.key, VBK_TRACE_S0]; omega) (by simp only [Fld.key, VBK_TRACE_S0]; omega) (by rfl) (by rfl) (by rfl)

theorem Reg.VBK_TRACE_S1_cls (n m : Nat) : (VBK_TRACE_S1 n m).cls = 14 :=
  Fld.cls_of 14 0xA020 0xA7E0 (by simp only [Fld.key, VBK_TRACE_S1]; omega) (by simp only [Fld.key, VBK_TRACE_S1]; omega) (by rfl) (by rfl) (by rfl)

theorem Reg.VBK_TRCTL_ARM_cls (n : Nat) : (VBK_TRCTL_ARM n).cls = 14 :=
  Fld.cls_of 14 0xA00C 0xA790 (by simp only [Fld.key, VBK_TRCTL_ARM]; omega) (by simp only [Fld.key, VBK_TRCTL_ARM]; omega) (by rfl) (by rfl) (by rfl)

theorem Reg.VBK_TRCTL_DONE_cls (n : Nat) : (VBK_TRCTL_DONE n).cls = 14 :=
  Fld.cls_of 14 0xA00C 0xA790 (by simp only [Fld.key, VBK_TRCTL_DONE]; omega) (by simp only [Fld.key, VBK_TRCTL_DONE]; omega) (by rfl) (by rfl) (by rfl)

theorem Reg.MEM_ECC_CE_cls (n : Nat) : (MEM_ECC_CE n).cls = 16 :=
  Fld.cls_of 16 0xB100 0xB1E8 (by simp only [Fld.key, MEM_ECC_CE]; omega) (by simp only [Fld.key, MEM_ECC_CE]; omega) (by rfl) (by rfl) (by rfl)

theorem Reg.MEM_ECC_UE_cls (n : Nat) : (MEM_ECC_UE n).cls = 16 :=
  Fld.cls_of 16 0xB100 0xB1E8 (by simp only [Fld.key, MEM_ECC_UE]; omega) (by simp only [Fld.key, MEM_ECC_UE]; omega) (by rfl) (by rfl) (by rfl)

theorem Reg.MBX_DNCTL_COUNT_cls (n : Nat) : (MBX_DNCTL_COUNT n).cls = 22 :=
  Fld.cls_of 22 0xE050 0xE1D4 (by simp only [Fld.key, MBX_DNCTL_COUNT]; omega) (by simp only [Fld.key, MBX_DNCTL_COUNT]; omega) (by rfl) (by rfl) (by rfl)

theorem Reg.MBX_DNCTL_FULL_cls (n : Nat) : (MBX_DNCTL_FULL n).cls = 22 :=
  Fld.cls_of 22 0xE050 0xE1D4 (by simp only [Fld.key, MBX_DNCTL_FULL]; omega) (by simp only [Fld.key, MBX_DNCTL_FULL]; omega) (by rfl) (by rfl) (by rfl)

theorem Reg.MBX_DNCTL_OVF_cls (n : Nat) : (MBX_DNCTL_OVF n).cls = 22 :=
  Fld.cls_of 22 0xE050 0xE1D4 (by simp only [Fld.key, MBX_DNCTL_OVF]; omega) (by simp only [Fld.key, MBX_DNCTL_OVF]; omega) (by rfl) (by rfl) (by rfl)

theorem Reg.MBX_DNRX_WORD_cls (n m : Nat) : (MBX_DNRX_WORD n m).cls = 22 :=
  Fld.cls_of 22 0xE060 0xE1F0 (by simp only [Fld.key, MBX_DNRX_WORD]; omega) (by simp only [Fld.key, MBX_DNRX_WORD]; omega) (by rfl) (by rfl) (by rfl)

theorem Reg.MBX_UPCTL_COUNT_cls (n : Nat) : (MBX_UPCTL_COUNT n).cls = 22 :=
  Fld.cls_of 22 0xE010 0xE194 (by simp only [Fld.key, MBX_UPCTL_COUNT]; omega) (by simp only [Fld.key, MBX_UPCTL_COUNT]; omega) (by rfl) (by rfl) (by rfl)

theorem Reg.MBX_UPCTL_FULL_cls (n : Nat) : (MBX_UPCTL_FULL n).cls = 22 :=
  Fld.cls_of 22 0xE010 0xE194 (by simp only [Fld.key, MBX_UPCTL_FULL]; omega) (by simp only [Fld.key, MBX_UPCTL_FULL]; omega) (by rfl) (by rfl) (by rfl)

theorem Reg.MBX_UPCTL_OVF_cls (n : Nat) : (MBX_UPCTL_OVF n).cls = 22 :=
  Fld.cls_of 22 0xE010 0xE194 (by simp only [Fld.key, MBX_UPCTL_OVF]; omega) (by simp only [Fld.key, MBX_UPCTL_OVF]; omega) (by rfl) (by rfl) (by rfl)

theorem Reg.MBX_UPRX_WORD_cls (n m : Nat) : (MBX_UPRX_WORD n m).cls = 22 :=
  Fld.cls_of 22 0xE020 0xE1B0 (by simp only [Fld.key, MBX_UPRX_WORD]; omega) (by simp only [Fld.key, MBX_UPRX_WORD]; omega) (by rfl) (by rfl) (by rfl)

end Sys2Proof.Machine
end

