-- ==== Sys2Proof/Laws/Keeps.lean ====
section
/-! SUPPORT. What an operation over State may touch: `Keeps m s t` says that `t` comes from `s` with the queue and the
fuses as they were, what has been sent still there, every sparse map still in its canonical form, and every part of
State that the mask `m` does not name unchanged. Bit `k` of a mask names the part that `Same` gives it; bit `32 + k` names
the register fields of class `k` (`Fld.cls`). -/

namespace Sys2Proof.Machine

/-- The canonical form of a sparse map, as a proposition. -/
def MWf {α : Type} (d : α) (m : List (Nat × α)) : Prop := Rising m ∧ ∀ p ∈ m, p.2 ≠ d

theorem mwf_nil {α : Type} (d : α) : MWf d ([] : List (Nat × α)) := ⟨List.Pairwise.nil, by simp⟩

theorem mem_minsert {α : Type} (k : Nat) (v : α) (m : List (Nat × α)) (p : Nat × α) (h : p ∈ minsert k v m) :
    p = (k, v) ∨ p ∈ m := by
  induction m with
  | nil => simpa [minsert] using h
  | cons q r ih =>
    obtain ⟨a, b⟩ := q
    simp only [minsert] at h
    split at h
    · simpa using h
    · rcases List.mem_cons.mp h with rfl | h
      · simp
      · rcases ih h with h | h <;> simp [h]

/-- A write keeps the canonical form. -/
theorem mwf_mset {α : Type} [DecidableEq α] (d : α) (m : List (Nat × α)) (k : Nat) (v : α) (h : MWf d m) :
    MWf d (mset d m k v) := by
  refine ⟨rising_mset d m k v h.1, ?_⟩
  have he : ∀ p ∈ merase m k, p.2 ≠ d := fun p hp => h.2 p (List.mem_filter.mp hp).1
  unfold mset
  split
  · exact he
  · rename_i hv
    intro p hp
    rcases mem_minsert _ _ _ _ hp with rfl | hp
    · exact hv
    · exact he p hp

theorem mwf_filter {α : Type} (d : α) (m : List (Nat × α)) (f : Nat × α → Bool) (h : MWf d m) : MWf d (m.filter f) :=
  ⟨h.1.sublist ((List.filter_sublist).map _), fun p hp => h.2 p (List.mem_filter.mp hp).1⟩

theorem mwf_foldl {α β : Type} (d : α) (g : List (Nat × α) → β → List (Nat × α))
    (hg : ∀ m b, MWf d m → MWf d (g m b)) (l : List β) (m : List (Nat × α)) (h : MWf d m) : MWf d (l.foldl g m) := by
  induction l generalizing m with
  | nil => exact h
  | cons b r ih => exact ih _ (hg m b h)

theorem rising_foldl {α β : Type} (g : List (Nat × α) → β → List (Nat × α))
    (hg : ∀ m b, Rising m → Rising (g m b)) (l : List β) (m : List (Nat × α)) (h : Rising m) : Rising (l.foldl g m) := by
  induction l generalizing m with
  | nil => exact h
  | cons b r ih => exact ih _ (hg m b h)

/-- A saved set of tables holds maps in canonical form. -/
structure SetWf (x : SavedSet) : Prop where
  pb : MWf 0 x.pb
  cls : MWf 0 x.cls
  map : MWf 0 x.map

/-- The maps of what the processors reach. -/
structure BusWf (b : Bus) : Prop where
  ram : MWf 0 b.ram
  timers : MWf 0 b.timers
  prio : MWf 0 b.prio
  enable : MWf 0 b.enable
  thresh : MWf 0 b.thresh

/-- Every sparse map of State that holds registers, memory words or bytes is in canonical form. -/
structure Canon (s : State) : Prop where
  regs : Rising s.regs
  wins : MWf Win.init s.wins
  mbx : MWf MbxChan.init s.mbx
  ring : MWf LogEntry.zero s.evt.ring
  pb : MWf 0 s.corr.pb
  cls : MWf 0 s.sched.cls
  map : MWf 0 s.sched.map
  ub : MWf 0xFFFF s.braid.ub
  fb : MWf 0 s.fb
  bus : BusWf s.bus
  saved : ∀ x ∈ s.flash.saved, SetWf x
  saving : ∀ x ∈ s.flash.saving, SetWf x


/-- The parts of State that a mask leaves out are the same. -/
structure Same (m : Nat) (s t : State) : Prop where
  time : m.testBit 2 = false → t.time = s.time
  regs : m.testBit 3 = false → t.regs = s.regs
  free : m.testBit 4 = false → t.free = s.free
  power : m.testBit 5 = false → t.power = s.power
  evt : m.testBit 6 = false → t.evt = s.evt
  mem : m.testBit 7 = false → t.mem = s.mem
  wins : m.testBit 8 = false → t.wins = s.wins
  mbx : m.testBit 9 = false → t.mbx = s.mbx
  sensor : m.testBit 10 = false → t.sensor = s.sensor
  stage : m.testBit 11 = false → t.stage = s.stage
  corr : m.testBit 12 = false → t.corr = s.corr
  cal : m.testBit 13 = false → t.cal = s.cal
  gref : m.testBit 14 = false → t.gref = s.gref
  trk : m.testBit 15 = false → t.trk = s.trk
  tmx : m.testBit 16 = false → t.tmx = s.tmx
  loops : m.testBit 17 = false → t.loops = s.loops
  live : m.testBit 18 = false → t.live = s.live
  braid : m.testBit 19 = false → t.braid = s.braid
  knots : m.testBit 20 = false → t.knots = s.knots
  sched : m.testBit 21 = false → t.sched = s.sched
  valves : m.testBit 22 = false → t.valves = s.valves
  chain : m.testBit 23 = false → t.chain = s.chain
  baind : m.testBit 24 = false → t.baind = s.baind
  ssp : m.testBit 25 = false → t.ssp = s.ssp
  net : m.testBit 26 = false → t.net = s.net
  flash : m.testBit 27 = false → t.flash = s.flash
  tap : m.testBit 28 = false → t.tap = s.tap
  house : m.testBit 29 = false → t.house = s.house
  fb : m.testBit 30 = false → t.fb = s.fb
  bus : m.testBit 1 = false → t.bus = s.bus
  outs : m.testBit 31 = false → t.outs = s.outs

/-- What an operation with footprint `m` does at most. -/
structure Keeps (m : Nat) (s t : State) : Prop where
  pending : t.pending = s.pending
  fuses : t.fuses = s.fuses
  sent : s.outs <+: t.outs
  drawn : s.free ≤ t.free
  canon : Canon s → Canon t
  same : Same m s t
  fields : ∀ g : Fld, m.testBit (32 + g.cls) = false → t.get g = s.get g
  legal : s.mode ≤ 5 → t.mode ≤ 5

theorem Same.refl (m : Nat) (s : State) : Same m s s := by constructor <;> intro _ <;> rfl

theorem Keeps.refl (m : Nat) (s : State) : Keeps m s s :=
  ⟨rfl, rfl, List.prefix_refl _, Nat.le_refl _, id, Same.refl m s, fun _ _ => rfl, id⟩

theorem testBit_of_land {n m : Nat} (h : n &&& m = n) {i : Nat} (hi : m.testBit i = false) : n.testBit i = false := by
  have := congrArg (fun x => x.testBit i) h
  simp only [Nat.testBit_and, hi, Bool.and_false] at this
  exact this.symm

/-- Steps compose: the footprint of the second lies in that of the whole. -/
theorem Keeps.step {n m : Nat} {a x y : State} (k : Keeps n x y) (h : Keeps m a x) (hn : n &&& m = n) : Keeps m a y where
  pending := k.pending.trans h.pending
  fuses := k.fuses.trans h.fuses
  sent := h.sent.trans k.sent
  drawn := h.drawn.trans k.drawn
  canon := fun c => k.canon (h.canon c)
  same :=
    { time := fun b => (k.same.time (testBit_of_land hn b)).trans (h.same.time b),
      regs := fun b => (k.same.regs (testBit_of_land hn b)).trans (h.same.regs b),
      free := fun b => (k.same.free (testBit_of_land hn b)).trans (h.same.free b),
      power := fun b => (k.same.power (testBit_of_land hn b)).trans (h.same.power b),
      evt := fun b => (k.same.evt (testBit_of_land hn b)).trans (h.same.evt b),
      mem := fun b => (k.same.mem (testBit_of_land hn b)).trans (h.same.mem b),
      wins := fun b => (k.same.wins (testBit_of_land hn b)).trans (h.same.wins b),
      mbx := fun b => (k.same.mbx (testBit_of_land hn b)).trans (h.same.mbx b),
      sensor := fun b => (k.same.sensor (testBit_of_land hn b)).trans (h.same.sensor b),
      stage := fun b => (k.same.stage (testBit_of_land hn b)).trans (h.same.stage b),
      corr := fun b => (k.same.corr (testBit_of_land hn b)).trans (h.same.corr b),
      cal := fun b => (k.same.cal (testBit_of_land hn b)).trans (h.same.cal b),
      gref := fun b => (k.same.gref (testBit_of_land hn b)).trans (h.same.gref b),
      trk := fun b => (k.same.trk (testBit_of_land hn b)).trans (h.same.trk b),
      tmx := fun b => (k.same.tmx (testBit_of_land hn b)).trans (h.same.tmx b),
      loops := fun b => (k.same.loops (testBit_of_land hn b)).trans (h.same.loops b),
      live := fun b => (k.same.live (testBit_of_land hn b)).trans (h.same.live b),
      braid := fun b => (k.same.braid (testBit_of_land hn b)).trans (h.same.braid b),
      knots := fun b => (k.same.knots (testBit_of_land hn b)).trans (h.same.knots b),
      sched := fun b => (k.same.sched (testBit_of_land hn b)).trans (h.same.sched b),
      valves := fun b => (k.same.valves (testBit_of_land hn b)).trans (h.same.valves b),
      chain := fun b => (k.same.chain (testBit_of_land hn b)).trans (h.same.chain b),
      baind := fun b => (k.same.baind (testBit_of_land hn b)).trans (h.same.baind b),
      ssp := fun b => (k.same.ssp (testBit_of_land hn b)).trans (h.same.ssp b),
      net := fun b => (k.same.net (testBit_of_land hn b)).trans (h.same.net b),
      flash := fun b => (k.same.flash (testBit_of_land hn b)).trans (h.same.flash b),
      tap := fun b => (k.same.tap (testBit_of_land hn b)).trans (h.same.tap b),
      house := fun b => (k.same.house (testBit_of_land hn b)).trans (h.same.house b),
      fb := fun b => (k.same.fb (testBit_of_land hn b)).trans (h.same.fb b),
      bus := fun b => (k.same.bus (testBit_of_land hn b)).trans (h.same.bus b),
      outs := fun b => (k.same.outs (testBit_of_land hn b)).trans (h.same.outs b) }
  fields := fun g b => (k.fields g (testBit_of_land hn b)).trans (h.fields g b)
  legal := fun l => k.legal (h.legal l)

theorem Keeps.comp {n m : Nat} {a x y : State} (k : Keeps n x y) (hn : n &&& m = n) (h : Keeps m a x) : Keeps m a y :=
  k.step h hn

theorem Keeps.ite {m : Nat} {a x y : State} {c : Prop} [Decidable c] (hx : Keeps m a x) (hy : Keeps m a y) :
    Keeps m a (if c then x else y) := by split <;> assumption

theorem Keeps.foldl {m : Nat} {a x : State} {β : Type} {g : State → β → State} {l : List β} (h : Keeps m a x)
    (hg : ∀ y b, Keeps m a y → Keeps m a (g y b)) : Keeps m a (l.foldl g x) := by
  induction l generalizing x with
  | nil => exact h
  | cons b r ih => exact ih (hg _ b h)

theorem Keeps.foldl_fst {m : Nat} {a : State} {β γ : Type} {g : State × γ → β → State × γ} {l : List β}
    {p : State × γ} (h : Keeps m a p.1) (hg : ∀ q b, Keeps m a q.1 → Keeps m a (g q b).1) :
    Keeps m a (l.foldl g p).1 := by
  induction l generalizing p with
  | nil => exact h
  | cons b r ih => exact ih (hg _ b h)

theorem Keeps.put_time {m : Nat} {a x : State} {v} (h : Keeps m a x) (hm : m.testBit 2 = true) :
    Keeps m a { x with time := v } :=
  ⟨h.pending, h.fuses, h.sent, h.drawn, fun c0 => let c := h.canon c0; ⟨c.regs, c.wins, c.mbx, c.ring, c.pb, c.cls, c.map, c.ub, c.fb, c.bus, c.saved, c.saving⟩,
    ⟨fun b => absurd (b.symm.trans hm) (by decide), h.same.regs, h.same.free, h.same.power, h.same.evt, h.same.mem, h.same.wins, h.same.mbx, h.same.sensor, h.same.stage, h.same.corr, h.same.cal, h.same.gref, h.same.trk, h.same.tmx, h.same.loops, h.same.live, h.same.braid, h.same.knots, h.same.sched, h.same.valves, h.same.chain, h.same.baind, h.same.ssp, h.same.net, h.same.flash, h.same.tap, h.same.house, h.same.fb, h.same.bus, h.same.outs⟩, h.fields, h.legal⟩

/-- A register write, but for what it does to GLB_STAT.STATE. -/
theorem Keeps.setBase {m : Nat} {a x : State} {f : Fld} {v : Nat} (h : Keeps m a x) (hb3 : m.testBit 3 = true)
    (hbf : m.testBit (32 + f.cls) = true) (hl : x.mode ≤ 5 → (x.set f v).mode ≤ 5) : Keeps m a (x.set f v) :=
  ⟨h.pending, h.fuses, h.sent, h.drawn, fun c0 => let c := h.canon c0; ⟨rising_mset _ _ _ _ c.regs, c.wins, c.mbx, c.ring, c.pb, c.cls, c.map, c.ub, c.fb, c.bus, c.saved, c.saving⟩,
    ⟨h.same.time, fun b => absurd (b.symm.trans hb3) (by decide), h.same.free, h.same.power, h.same.evt, h.same.mem, h.same.wins, h.same.mbx, h.same.sensor, h.same.stage, h.same.corr, h.same.cal, h.same.gref, h.same.trk, h.same.tmx, h.same.loops, h.same.live, h.same.braid, h.same.knots, h.same.sched, h.same.valves, h.same.chain, h.same.baind, h.same.ssp, h.same.net, h.same.flash, h.same.tap, h.same.house, h.same.fb, h.same.bus, h.same.outs⟩,
    (fun g b => by
      refine (State.get_set_ne _ _ _ _ fun e => ?_).trans (h.fields g b)
      have : g.cls = f.cls := by unfold Fld.cls Fld.block; rw [e]
      rw [this, hbf] at b
      cases b), fun l => hl (h.legal l)⟩

theorem Keeps.set {m : Nat} {a x : State} {f : Fld} {v : Nat} (h : Keeps m a x) (hf : Has m f) : Keeps m a (x.set f v) := by
  have hb := hf.bit
  simp only [hasBit, Bool.and_eq_true, bne_iff_ne, ne_eq] at hb
  refine h.setBase hb.1.1 hb.1.2 fun l => ?_
  have hk : Reg.GLB_STAT_STATE.key ≠ f.key := fun e => hb.2 (by unfold Fld.cls; rw [← e]; rfl)
  rw [State.mode, State.get_set_ne _ _ _ _ hk]
  exact l

/-- STATE is written with one of its six values. -/
theorem Keeps.setMode {m : Nat} {a x : State} {v : Nat} (h : Keeps m a x) (hm : (m.testBit 3 && m.testBit 55) = true)
    (hv : v ≤ 5) : Keeps m a (x.set Reg.GLB_STAT_STATE v) := by
  rw [Bool.and_eq_true] at hm
  refine h.setBase hm.1 hm.2 fun _ => ?_
  rw [State.mode, State.get_set]
  exact (Nat.mod_le _ _).trans hv

theorem Keeps.put_free {m : Nat} {a x : State} {v} (h : Keeps m a x) (hm : m.testBit 4 = true) (hc : x.free ≤ v) :
    Keeps m a { x with free := v } :=
  ⟨h.pending, h.fuses, h.sent, h.drawn.trans hc, fun c0 => let c := h.canon c0; ⟨c.regs, c.wins, c.mbx, c.ring, c.pb, c.cls, c.map, c.ub, c.fb, c.bus, c.saved, c.saving⟩,
    ⟨h.same.time, h.same.regs, fun b => absurd (b.symm.trans hm) (by decide), h.same.power, h.same.evt, h.same.mem, h.same.wins, h.same.mbx, h.same.sensor, h.same.stage, h.same.corr, h.same.cal, h.same.gref, h.same.trk, h.same.tmx, h.same.loops, h.same.live, h.same.braid, h.same.knots, h.same.sched, h.same.valves, h.same.chain, h.same.baind, h.same.ssp, h.same.net, h.same.flash, h.same.tap, h.same.house, h.same.fb, h.same.bus, h.same.outs⟩, h.fields, h.legal⟩

theorem Keeps.put_power {m : Nat} {a x : State} {v} (h : Keeps m a x) (hm : m.testBit 5 = true) :
    Keeps m a { x with power := v } :=
  ⟨h.pending, h.fuses, h.sent, h.drawn, fun c0 => let c := h.canon c0; ⟨c.regs, c.wins, c.mbx, c.ring, c.pb, c.cls, c.map, c.ub, c.fb, c.bus, c.saved, c.saving⟩,
    ⟨h.same.time, h.same.regs, h.same.free, fun b => absurd (b.symm.trans hm) (by decide), h.same.evt, h.same.mem, h.same.wins, h.same.mbx, h.same.sensor, h.same.stage, h.same.corr, h.same.cal, h.same.gref, h.same.trk, h.same.tmx, h.same.loops, h.same.live, h.same.braid, h.same.knots, h.same.sched, h.same.valves, h.same.chain, h.same.baind, h.same.ssp, h.same.net, h.same.flash, h.same.tap, h.same.house, h.same.fb, h.same.bus, h.same.outs⟩, h.fields, h.legal⟩

theorem Keeps.put_evt {m : Nat} {a x : State} {v} (h : Keeps m a x) (hm : m.testBit 6 = true) (hc : Canon a → MWf LogEntry.zero v.ring) :
    Keeps m a { x with evt := v } :=
  ⟨h.pending, h.fuses, h.sent, h.drawn, fun c0 => let c := h.canon c0; ⟨c.regs, c.wins, c.mbx, hc c0, c.pb, c.cls, c.map, c.ub, c.fb, c.bus, c.saved, c.saving⟩,
    ⟨h.same.time, h.same.regs, h.same.free, h.same.power, fun b => absurd (b.symm.trans hm) (by decide), h.same.mem, h.same.wins, h.same.mbx, h.same.sensor, h.same.stage, h.same.corr, h.same.cal, h.same.gref, h.same.trk, h.same.tmx, h.same.loops, h.same.live, h.same.braid, h.same.knots, h.same.sched, h.same.valves, h.same.chain, h.same.baind, h.same.ssp, h.same.net, h.same.flash, h.same.tap, h.same.house, h.same.fb, h.same.bus, h.same.outs⟩, h.fields, h.legal⟩

theorem Keeps.put_mem {m : Nat} {a x : State} {v} (h : Keeps m a x) (hm : m.testBit 7 = true) :
    Keeps m a { x with mem := v } :=
  ⟨h.pending, h.fuses, h.sent, h.drawn, fun c0 => let c := h.canon c0; ⟨c.regs, c.wins, c.mbx, c.ring, c.pb, c.cls, c.map, c.ub, c.fb, c.bus, c.saved, c.saving⟩,
    ⟨h.same.time, h.same.regs, h.same.free, h.same.power, h.same.evt, fun b => absurd (b.symm.trans hm) (by decide), h.same.wins, h.same.mbx, h.same.sensor, h.same.stage, h.same.corr, h.same.cal, h.same.gref, h.same.trk, h.same.tmx, h.same.loops, h.same.live, h.same.braid, h.same.knots, h.same.sched, h.same.valves, h.same.chain, h.same.baind, h.same.ssp, h.same.net, h.same.flash, h.same.tap, h.same.house, h.same.fb, h.same.bus, h.same.outs⟩, h.fields, h.legal⟩

theorem Keeps.put_wins {m : Nat} {a x : State} {v} (h : Keeps m a x) (hm : m.testBit 8 = true) (hc : Canon a → MWf Win.init v) :
    Keeps m a { x with wins := v } :=
  ⟨h.pending, h.fuses, h.sent, h.drawn, fun c0 => let c := h.canon c0; ⟨c.regs, hc c0, c.mbx, c.ring, c.pb, c.cls, c.map, c.ub, c.fb, c.bus, c.saved, c.saving⟩,
    ⟨h.same.time, h.same.regs, h.same.free, h.same.power, h.same.evt, h.same.mem, fun b => absurd (b.symm.trans hm) (by decide), h.same.mbx, h.same.sensor, h.same.stage, h.same.corr, h.same.cal, h.same.gref, h.same.trk, h.same.tmx, h.same.loops, h.same.live, h.same.braid, h.same.knots, h.same.sched, h.same.valves, h.same.chain, h.same.baind, h.same.ssp, h.same.net, h.same.flash, h.same.tap, h.same.house, h.same.fb, h.same.bus, h.same.outs⟩, h.fields, h.legal⟩

theorem Keeps.put_mbx {m : Nat} {a x : State} {v} (h : Keeps m a x) (hm : m.testBit 9 = true) (hc : Canon a → MWf MbxChan.init v) :
    Keeps m a { x with mbx := v } :=
  ⟨h.pending, h.fuses, h.sent, h.drawn, fun c0 => let c := h.canon c0; ⟨c.regs, c.wins, hc c0, c.ring, c.pb, c.cls, c.map, c.ub, c.fb, c.bus, c.saved, c.saving⟩,
    ⟨h.same.time, h.same.regs, h.same.free, h.same.power, h.same.evt, h.same.mem, h.same.wins, fun b => absurd (b.symm.trans hm) (by decide), h.same.sensor, h.same.stage, h.same.corr, h.same.cal, h.same.gref, h.same.trk, h.same.tmx, h.same.loops, h.same.live, h.same.braid, h.same.knots, h.same.sched, h.same.valves, h.same.chain, h.same.baind, h.same.ssp, h.same.net, h.same.flash, h.same.tap, h.same.house, h.same.fb, h.same.bus, h.same.outs⟩, h.fields, h.legal⟩

theorem Keeps.put_sensor {m : Nat} {a x : State} {v} (h : Keeps m a x) (hm : m.testBit 10 = true) :
    Keeps m a { x with sensor := v } :=
  ⟨h.pending, h.fuses, h.sent, h.drawn, fun c0 => let c := h.canon c0; ⟨c.regs, c.wins, c.mbx, c.ring, c.pb, c.cls, c.map, c.ub, c.fb, c.bus, c.saved, c.saving⟩,
    ⟨h.same.time, h.same.regs, h.same.free, h.same.power, h.same.evt, h.same.mem, h.same.wins, h.same.mbx, fun b => absurd (b.symm.trans hm) (by decide), h.same.stage, h.same.corr, h.same.cal, h.same.gref, h.same.trk, h.same.tmx, h.same.loops, h.same.live, h.same.braid, h.same.knots, h.same.sched, h.same.valves, h.same.chain, h.same.baind, h.same.ssp, h.same.net, h.same.flash, h.same.tap, h.same.house, h.same.fb, h.same.bus, h.same.outs⟩, h.fields, h.legal⟩

theorem Keeps.put_stage {m : Nat} {a x : State} {v} (h : Keeps m a x) (hm : m.testBit 11 = true) :
    Keeps m a { x with stage := v } :=
  ⟨h.pending, h.fuses, h.sent, h.drawn, fun c0 => let c := h.canon c0; ⟨c.regs, c.wins, c.mbx, c.ring, c.pb, c.cls, c.map, c.ub, c.fb, c.bus, c.saved, c.saving⟩,
    ⟨h.same.time, h.same.regs, h.same.free, h.same.power, h.same.evt, h.same.mem, h.same.wins, h.same.mbx, h.same.sensor, fun b => absurd (b.symm.trans hm) (by decide), h.same.corr, h.same.cal, h.same.gref, h.same.trk, h.same.tmx, h.same.loops, h.same.live, h.same.braid, h.same.knots, h.same.sched, h.same.valves, h.same.chain, h.same.baind, h.same.ssp, h.same.net, h.same.flash, h.same.tap, h.same.house, h.same.fb, h.same.bus, h.same.outs⟩, h.fields, h.legal⟩

theorem Keeps.put_corr {m : Nat} {a x : State} {v} (h : Keeps m a x) (hm : m.testBit 12 = true) (hc : Canon a → MWf 0 v.pb) :
    Keeps m a { x with corr := v } :=
  ⟨h.pending, h.fuses, h.sent, h.drawn, fun c0 => let c := h.canon c0; ⟨c.regs, c.wins, c.mbx, c.ring, hc c0, c.cls, c.map, c.ub, c.fb, c.bus, c.saved, c.saving⟩,
    ⟨h.same.time, h.same.regs, h.same.free, h.same.power, h.same.evt, h.same.mem, h.same.wins, h.same.mbx, h.same.sensor, h.same.stage, fun b => absurd (b.symm.trans hm) (by decide), h.same.cal, h.same.gref, h.same.trk, h.same.tmx, h.same.loops, h.same.live, h.same.braid, h.same.knots, h.same.sched, h.same.valves, h.same.chain, h.same.baind, h.same.ssp, h.same.net, h.same.flash, h.same.tap, h.same.house, h.same.fb, h.same.bus, h.same.outs⟩, h.fields, h.legal⟩

theorem Keeps.put_cal {m : Nat} {a x : State} {v} (h : Keeps m a x) (hm : m.testBit 13 = true) :
    Keeps m a { x with cal := v } :=
  ⟨h.pending, h.fuses, h.sent, h.drawn, fun c0 => let c := h.canon c0; ⟨c.regs, c.wins, c.mbx, c.ring, c.pb, c.cls, c.map, c.ub, c.fb, c.bus, c.saved, c.saving⟩,
    ⟨h.same.time, h.same.regs, h.same.free, h.same.power, h.same.evt, h.same.mem, h.same.wins, h.same.mbx, h.same.sensor, h.same.stage, h.same.corr, fun b => absurd (b.symm.trans hm) (by decide), h.same.gref, h.same.trk, h.same.tmx, h.same.loops, h.same.live, h.same.braid, h.same.knots, h.same.sched, h.same.valves, h.same.chain, h.same.baind, h.same.ssp, h.same.net, h.same.flash, h.same.tap, h.same.house, h.same.fb, h.same.bus, h.same.outs⟩, h.fields, h.legal⟩

theorem Keeps.put_gref {m : Nat} {a x : State} {v} (h : Keeps m a x) (hm : m.testBit 14 = true) :
    Keeps m a { x with gref := v } :=
  ⟨h.pending, h.fuses, h.sent, h.drawn, fun c0 => let c := h.canon c0; ⟨c.regs, c.wins, c.mbx, c.ring, c.pb, c.cls, c.map, c.ub, c.fb, c.bus, c.saved, c.saving⟩,
    ⟨h.same.time, h.same.regs, h.same.free, h.same.power, h.same.evt, h.same.mem, h.same.wins, h.same.mbx, h.same.sensor, h.same.stage, h.same.corr, h.same.cal, fun b => absurd (b.symm.trans hm) (by decide), h.same.trk, h.same.tmx, h.same.loops, h.same.live, h.same.braid, h.same.knots, h.same.sched, h.same.valves, h.same.chain, h.same.baind, h.same.ssp, h.same.net, h.same.flash, h.same.tap, h.same.house, h.same.fb, h.same.bus, h.same.outs⟩, h.fields, h.legal⟩

theorem Keeps.put_trk {m : Nat} {a x : State} {v} (h : Keeps m a x) (hm : m.testBit 15 = true) :
    Keeps m a { x with trk := v } :=
  ⟨h.pending, h.fuses, h.sent, h.drawn, fun c0 => let c := h.canon c0; ⟨c.regs, c.wins, c.mbx, c.ring, c.pb, c.cls, c.map, c.ub, c.fb, c.bus, c.saved, c.saving⟩,
    ⟨h.same.time, h.same.regs, h.same.free, h.same.power, h.same.evt, h.same.mem, h.same.wins, h.same.mbx, h.same.sensor, h.same.stage, h.same.corr, h.same.cal, h.same.gref, fun b => absurd (b.symm.trans hm) (by decide), h.same.tmx, h.same.loops, h.same.live, h.same.braid, h.same.knots, h.same.sched, h.same.valves, h.same.chain, h.same.baind, h.same.ssp, h.same.net, h.same.flash, h.same.tap, h.same.house, h.same.fb, h.same.bus, h.same.outs⟩, h.fields, h.legal⟩

theorem Keeps.put_tmx {m : Nat} {a x : State} {v} (h : Keeps m a x) (hm : m.testBit 16 = true) :
    Keeps m a { x with tmx := v } :=
  ⟨h.pending, h.fuses, h.sent, h.drawn, fun c0 => let c := h.canon c0; ⟨c.regs, c.wins, c.mbx, c.ring, c.pb, c.cls, c.map, c.ub, c.fb, c.bus, c.saved, c.saving⟩,
    ⟨h.same.time, h.same.regs, h.same.free, h.same.power, h.same.evt, h.same.mem, h.same.wins, h.same.mbx, h.same.sensor, h.same.stage, h.same.corr, h.same.cal, h.same.gref, h.same.trk, fun b => absurd (b.symm.trans hm) (by decide), h.same.loops, h.same.live, h.same.braid, h.same.knots, h.same.sched, h.same.valves, h.same.chain, h.same.baind, h.same.ssp, h.same.net, h.same.flash, h.same.tap, h.same.house, h.same.fb, h.same.bus, h.same.outs⟩, h.fields, h.legal⟩

theorem Keeps.put_loops {m : Nat} {a x : State} {v} (h : Keeps m a x) (hm : m.testBit 17 = true) :
    Keeps m a { x with loops := v } :=
  ⟨h.pending, h.fuses, h.sent, h.drawn, fun c0 => let c := h.canon c0; ⟨c.regs, c.wins, c.mbx, c.ring, c.pb, c.cls, c.map, c.ub, c.fb, c.bus, c.saved, c.saving⟩,
    ⟨h.same.time, h.same.regs, h.same.free, h.same.power, h.same.evt, h.same.mem, h.same.wins, h.same.mbx, h.same.sensor, h.same.stage, h.same.corr, h.same.cal, h.same.gref, h.same.trk, h.same.tmx, fun b => absurd (b.symm.trans hm) (by decide), h.same.live, h.same.braid, h.same.knots, h.same.sched, h.same.valves, h.same.chain, h.same.baind, h.same.ssp, h.same.net, h.same.flash, h.same.tap, h.same.house, h.same.fb, h.same.bus, h.same.outs⟩, h.fields, h.legal⟩

theorem Keeps.put_live {m : Nat} {a x : State} {v} (h : Keeps m a x) (hm : m.testBit 18 = true) :
    Keeps m a { x with live := v } :=
  ⟨h.pending, h.fuses, h.sent, h.drawn, fun c0 => let c := h.canon c0; ⟨c.regs, c.wins, c.mbx, c.ring, c.pb, c.cls, c.map, c.ub, c.fb, c.bus, c.saved, c.saving⟩,
    ⟨h.same.time, h.same.regs, h.same.free, h.same.power, h.same.evt, h.same.mem, h.same.wins, h.same.mbx, h.same.sensor, h.same.stage, h.same.corr, h.same.cal, h.same.gref, h.same.trk, h.same.tmx, h.same.loops, fun b => absurd (b.symm.trans hm) (by decide), h.same.braid, h.same.knots, h.same.sched, h.same.valves, h.same.chain, h.same.baind, h.same.ssp, h.same.net, h.same.flash, h.same.tap, h.same.house, h.same.fb, h.same.bus, h.same.outs⟩, h.fields, h.legal⟩

theorem Keeps.put_braid {m : Nat} {a x : State} {v} (h : Keeps m a x) (hm : m.testBit 19 = true) (hc : Canon a → MWf 0xFFFF v.ub) :
    Keeps m a { x with braid := v } :=
  ⟨h.pending, h.fuses, h.sent, h.drawn, fun c0 => let c := h.canon c0; ⟨c.regs, c.wins, c.mbx, c.ring, c.pb, c.cls, c.map, hc c0, c.fb, c.bus, c.saved, c.saving⟩,
    ⟨h.same.time, h.same.regs, h.same.free, h.same.power, h.same.evt, h.same.mem, h.same.wins, h.same.mbx, h.same.sensor, h.same.stage, h.same.corr, h.same.cal, h.same.gref, h.same.trk, h.same.tmx, h.same.loops, h.same.live, fun b => absurd (b.symm.trans hm) (by decide), h.same.knots, h.same.sched, h.same.valves, h.same.chain, h.same.baind, h.same.ssp, h.same.net, h.same.flash, h.same.tap, h.same.house, h.same.fb, h.same.bus, h.same.outs⟩, h.fields, h.legal⟩

theorem Keeps.put_knots {m : Nat} {a x : State} {v} (h : Keeps m a x) (hm : m.testBit 20 = true) :
    Keeps m a { x with knots := v } :=
  ⟨h.pending, h.fuses, h.sent, h.drawn, fun c0 => let c := h.canon c0; ⟨c.regs, c.wins, c.mbx, c.ring, c.pb, c.cls, c.map, c.ub, c.fb, c.bus, c.saved, c.saving⟩,
    ⟨h.same.time, h.same.regs, h.same.free, h.same.power, h.same.evt, h.same.mem, h.same.wins, h.same.mbx, h.same.sensor, h.same.stage, h.same.corr, h.same.cal, h.same.gref, h.same.trk, h.same.tmx, h.same.loops, h.same.live, h.same.braid, fun b => absurd (b.symm.trans hm) (by decide), h.same.sched, h.same.valves, h.same.chain, h.same.baind, h.same.ssp, h.same.net, h.same.flash, h.same.tap, h.same.house, h.same.fb, h.same.bus, h.same.outs⟩, h.fields, h.legal⟩

theorem Keeps.put_sched {m : Nat} {a x : State} {v} (h : Keeps m a x) (hm : m.testBit 21 = true) (hc : Canon a → MWf 0 v.cls) (hd : Canon a → MWf 0 v.map) :
    Keeps m a { x with sched := v } :=
  ⟨h.pending, h.fuses, h.sent, h.drawn, fun c0 => let c := h.canon c0; ⟨c.regs, c.wins, c.mbx, c.ring, c.pb, hc c0, hd c0, c.ub, c.fb, c.bus, c.saved, c.saving⟩,
    ⟨h.same.time, h.same.regs, h.same.free, h.same.power, h.same.evt, h.same.mem, h.same.wins, h.same.mbx, h.same.sensor, h.same.stage, h.same.corr, h.same.cal, h.same.gref, h.same.trk, h.same.tmx, h.same.loops, h.same.live, h.same.braid, h.same.knots, fun b => absurd (b.symm.trans hm) (by decide), h.same.valves, h.same.chain, h.same.baind, h.same.ssp, h.same.net, h.same.flash, h.same.tap, h.same.house, h.same.fb, h.same.bus, h.same.outs⟩, h.fields, h.legal⟩

theorem Keeps.put_valves {m : Nat} {a x : State} {v} (h : Keeps m a x) (hm : m.testBit 22 = true) :
    Keeps m a { x with valves := v } :=
  ⟨h.pending, h.fuses, h.sent, h.drawn, fun c0 => let c := h.canon c0; ⟨c.regs, c.wins, c.mbx, c.ring, c.pb, c.cls, c.map, c.ub, c.fb, c.bus, c.saved, c.saving⟩,
    ⟨h.same.time, h.same.regs, h.same.free, h.same.power, h.same.evt, h.same.mem, h.same.wins, h.same.mbx, h.same.sensor, h.same.stage, h.same.corr, h.same.cal, h.same.gref, h.same.trk, h.same.tmx, h.same.loops, h.same.live, h.same.braid, h.same.knots, h.same.sched, fun b => absurd (b.symm.trans hm) (by decide), h.same.chain, h.same.baind, h.same.ssp, h.same.net, h.same.flash, h.same.tap, h.same.house, h.same.fb, h.same.bus, h.same.outs⟩, h.fields, h.legal⟩

theorem Keeps.put_chain {m : Nat} {a x : State} {v} (h : Keeps m a x) (hm : m.testBit 23 = true) :
    Keeps m a { x with chain := v } :=
  ⟨h.pending, h.fuses, h.sent, h.drawn, fun c0 => let c := h.canon c0; ⟨c.regs, c.wins, c.mbx, c.ring, c.pb, c.cls, c.map, c.ub, c.fb, c.bus, c.saved, c.saving⟩,
    ⟨h.same.time, h.same.regs, h.same.free, h.same.power, h.same.evt, h.same.mem, h.same.wins, h.same.mbx, h.same.sensor, h.same.stage, h.same.corr, h.same.cal, h.same.gref, h.same.trk, h.same.tmx, h.same.loops, h.same.live, h.same.braid, h.same.knots, h.same.sched, h.same.valves, fun b => absurd (b.symm.trans hm) (by decide), h.same.baind, h.same.ssp, h.same.net, h.same.flash, h.same.tap, h.same.house, h.same.fb, h.same.bus, h.same.outs⟩, h.fields, h.legal⟩

theorem Keeps.put_baind {m : Nat} {a x : State} {v} (h : Keeps m a x) (hm : m.testBit 24 = true) :
    Keeps m a { x with baind := v } :=
  ⟨h.pending, h.fuses, h.sent, h.drawn, fun c0 => let c := h.canon c0; ⟨c.regs, c.wins, c.mbx, c.ring, c.pb, c.cls, c.map, c.ub, c.fb, c.bus, c.saved, c.saving⟩,
    ⟨h.same.time, h.same.regs, h.same.free, h.same.power, h.same.evt, h.same.mem, h.same.wins, h.same.mbx, h.same.sensor, h.same.stage, h.same.corr, h.same.cal, h.same.gref, h.same.trk, h.same.tmx, h.same.loops, h.same.live, h.same.braid, h.same.knots, h.same.sched, h.same.valves, h.same.chain, fun b => absurd (b.symm.trans hm) (by decide), h.same.ssp, h.same.net, h.same.flash, h.same.tap, h.same.house, h.same.fb, h.same.bus, h.same.outs⟩, h.fields, h.legal⟩

theorem Keeps.put_ssp {m : Nat} {a x : State} {v} (h : Keeps m a x) (hm : m.testBit 25 = true) :
    Keeps m a { x with ssp := v } :=
  ⟨h.pending, h.fuses, h.sent, h.drawn, fun c0 => let c := h.canon c0; ⟨c.regs, c.wins, c.mbx, c.ring, c.pb, c.cls, c.map, c.ub, c.fb, c.bus, c.saved, c.saving⟩,
    ⟨h.same.time, h.same.regs, h.same.free, h.same.power, h.same.evt, h.same.mem, h.same.wins, h.same.mbx, h.same.sensor, h.same.stage, h.same.corr, h.same.cal, h.same.gref, h.same.trk, h.same.tmx, h.same.loops, h.same.live, h.same.braid, h.same.knots, h.same.sched, h.same.valves, h.same.chain, h.same.baind, fun b => absurd (b.symm.trans hm) (by decide), h.same.net, h.same.flash, h.same.tap, h.same.house, h.same.fb, h.same.bus, h.same.outs⟩, h.fields, h.legal⟩

theorem Keeps.put_net {m : Nat} {a x : State} {v} (h : Keeps m a x) (hm : m.testBit 26 = true) :
    Keeps m a { x with net := v } :=
  ⟨h.pending, h.fuses, h.sent, h.drawn, fun c0 => let c := h.canon c0; ⟨c.regs, c.wins, c.mbx, c.ring, c.pb, c.cls, c.map, c.ub, c.fb, c.bus, c.saved, c.saving⟩,
    ⟨h.same.time, h.same.regs, h.same.free, h.same.power, h.same.evt, h.same.mem, h.same.wins, h.same.mbx, h.same.sensor, h.same.stage, h.same.corr, h.same.cal, h.same.gref, h.same.trk, h.same.tmx, h.same.loops, h.same.live, h.same.braid, h.same.knots, h.same.sched, h.same.valves, h.same.chain, h.same.baind, h.same.ssp, fun b => absurd (b.symm.trans hm) (by decide), h.same.flash, h.same.tap, h.same.house, h.same.fb, h.same.bus, h.same.outs⟩, h.fields, h.legal⟩

theorem Keeps.put_flash {m : Nat} {a x : State} {v} (h : Keeps m a x) (hm : m.testBit 27 = true) (hc : Canon a → ∀ y ∈ v.saved, SetWf y) (hd : Canon a → ∀ y ∈ v.saving, SetWf y) :
    Keeps m a { x with flash := v } :=
  ⟨h.pending, h.fuses, h.sent, h.drawn, fun c0 => let c := h.canon c0; ⟨c.regs, c.wins, c.mbx, c.ring, c.pb, c.cls, c.map, c.ub, c.fb, c.bus, hc c0, hd c0⟩,
    ⟨h.same.time, h.same.regs, h.same.free, h.same.power, h.same.evt, h.same.mem, h.same.wins, h.same.mbx, h.same.sensor, h.same.stage, h.same.corr, h.same.cal, h.same.gref, h.same.trk, h.same.tmx, h.same.loops, h.same.live, h.same.braid, h.same.knots, h.same.sched, h.same.valves, h.same.chain, h.same.baind, h.same.ssp, h.same.net, fun b => absurd (b.symm.trans hm) (by decide), h.same.tap, h.same.house, h.same.fb, h.same.bus, h.same.outs⟩, h.fields, h.legal⟩

theorem Keeps.put_tap {m : Nat} {a x : State} {v} (h : Keeps m a x) (hm : m.testBit 28 = true) :
    Keeps m a { x with tap := v } :=
  ⟨h.pending, h.fuses, h.sent, h.drawn, fun c0 => let c := h.canon c0; ⟨c.regs, c.wins, c.mbx, c.ring, c.pb, c.cls, c.map, c.ub, c.fb, c.bus, c.saved, c.saving⟩,
    ⟨h.same.time, h.same.regs, h.same.free, h.same.power, h.same.evt, h.same.mem, h.same.wins, h.same.mbx, h.same.sensor, h.same.stage, h.same.corr, h.same.cal, h.same.gref, h.same.trk, h.same.tmx, h.same.loops, h.same.live, h.same.braid, h.same.knots, h.same.sched, h.same.valves, h.same.chain, h.same.baind, h.same.ssp, h.same.net, h.same.flash, fun b => absurd (b.symm.trans hm) (by decide), h.same.house, h.same.fb, h.same.bus, h.same.outs⟩, h.fields, h.legal⟩

theorem Keeps.put_house {m : Nat} {a x : State} {v} (h : Keeps m a x) (hm : m.testBit 29 = true) :
    Keeps m a { x with house := v } :=
  ⟨h.pending, h.fuses, h.sent, h.drawn, fun c0 => let c := h.canon c0; ⟨c.regs, c.wins, c.mbx, c.ring, c.pb, c.cls, c.map, c.ub, c.fb, c.bus, c.saved, c.saving⟩,
    ⟨h.same.time, h.same.regs, h.same.free, h.same.power, h.same.evt, h.same.mem, h.same.wins, h.same.mbx, h.same.sensor, h.same.stage, h.same.corr, h.same.cal, h.same.gref, h.same.trk, h.same.tmx, h.same.loops, h.same.live, h.same.braid, h.same.knots, h.same.sched, h.same.valves, h.same.chain, h.same.baind, h.same.ssp, h.same.net, h.same.flash, h.same.tap, fun b => absurd (b.symm.trans hm) (by decide), h.same.fb, h.same.bus, h.same.outs⟩, h.fields, h.legal⟩

theorem Keeps.put_fb {m : Nat} {a x : State} {v} (h : Keeps m a x) (hm : m.testBit 30 = true) (hc : Canon a → MWf 0 v) :
    Keeps m a { x with fb := v } :=
  ⟨h.pending, h.fuses, h.sent, h.drawn, fun c0 => let c := h.canon c0; ⟨c.regs, c.wins, c.mbx, c.ring, c.pb, c.cls, c.map, c.ub, hc c0, c.bus, c.saved, c.saving⟩,
    ⟨h.same.time, h.same.regs, h.same.free, h.same.power, h.same.evt, h.same.mem, h.same.wins, h.same.mbx, h.same.sensor, h.same.stage, h.same.corr, h.same.cal, h.same.gref, h.same.trk, h.same.tmx, h.same.loops, h.same.live, h.same.braid, h.same.knots, h.same.sched, h.same.valves, h.same.chain, h.same.baind, h.same.ssp, h.same.net, h.same.flash, h.same.tap, h.same.house, fun b => absurd (b.symm.trans hm) (by decide), h.same.bus, h.same.outs⟩, h.fields, h.legal⟩

theorem Keeps.put_bus {m : Nat} {a x : State} {v} (h : Keeps m a x) (hm : m.testBit 1 = true) (hc : Canon a → BusWf v) :
    Keeps m a { x with bus := v } :=
  ⟨h.pending, h.fuses, h.sent, h.drawn, fun c0 => let c := h.canon c0; ⟨c.regs, c.wins, c.mbx, c.ring, c.pb, c.cls, c.map, c.ub, c.fb, hc c0, c.saved, c.saving⟩,
    ⟨h.same.time, h.same.regs, h.same.free, h.same.power, h.same.evt, h.same.mem, h.same.wins, h.same.mbx, h.same.sensor, h.same.stage, h.same.corr, h.same.cal, h.same.gref, h.same.trk, h.same.tmx, h.same.loops, h.same.live, h.same.braid, h.same.knots, h.same.sched, h.same.valves, h.same.chain, h.same.baind, h.same.ssp, h.same.net, h.same.flash, h.same.tap, h.same.house, h.same.fb, fun b => absurd (b.symm.trans hm) (by decide), h.same.outs⟩, h.fields, h.legal⟩

theorem Keeps.put_outs {m : Nat} {a x : State} {v} (h : Keeps m a x) (hm : m.testBit 31 = true) (hc : x.outs <+: v) :
    Keeps m a { x with outs := v } :=
  ⟨h.pending, h.fuses, h.sent.trans hc, h.drawn, fun c0 => let c := h.canon c0; ⟨c.regs, c.wins, c.mbx, c.ring, c.pb, c.cls, c.map, c.ub, c.fb, c.bus, c.saved, c.saving⟩,
    ⟨h.same.time, h.same.regs, h.same.free, h.same.power, h.same.evt, h.same.mem, h.same.wins, h.same.mbx, h.same.sensor, h.same.stage, h.same.corr, h.same.cal, h.same.gref, h.same.trk, h.same.tmx, h.same.loops, h.same.live, h.same.braid, h.same.knots, h.same.sched, h.same.valves, h.same.chain, h.same.baind, h.same.ssp, h.same.net, h.same.flash, h.same.tap, h.same.house, h.same.fb, h.same.bus, fun b => absurd (b.symm.trans hm) (by decide)⟩, h.fields, h.legal⟩

/-- The footprint as one equation: the parts that the mask leaves out are those of the state before. -/
theorem Keeps.frame {m : Nat} {s t : State} (k : Keeps m s t) : t =
    { pending := s.pending, fuses := s.fuses,
      time := bif m.testBit 2 then t.time else s.time,
      regs := bif m.testBit 3 then t.regs else s.regs,
      free := bif m.testBit 4 then t.free else s.free,
      power := bif m.testBit 5 then t.power else s.power,
      evt := bif m.testBit 6 then t.evt else s.evt,
      mem := bif m.testBit 7 then t.mem else s.mem,
      wins := bif m.testBit 8 then t.wins else s.wins,
      mbx := bif m.testBit 9 then t.mbx else s.mbx,
      sensor := bif m.testBit 10 then t.sensor else s.sensor,
      stage := bif m.testBit 11 then t.stage else s.stage,
      corr := bif m.testBit 12 then t.corr else s.corr,
      cal := bif m.testBit 13 then t.cal else s.cal,
      gref := bif m.testBit 14 then t.gref else s.gref,
      trk := bif m.testBit 15 then t.trk else s.trk,
      tmx := bif m.testBit 16 then t.tmx else s.tmx,
      loops := bif m.testBit 17 then t.loops else s.loops,
      live := bif m.testBit 18 then t.live else s.live,
      braid := bif m.testBit 19 then t.braid else s.braid,
      knots := bif m.testBit 20 then t.knots else s.knots,
      sched := bif m.testBit 21 then t.sched else s.sched,
      valves := bif m.testBit 22 then t.valves else s.valves,
      chain := bif m.testBit 23 then t.chain else s.chain,
      baind := bif m.testBit 24 then t.baind else s.baind,
      ssp := bif m.testBit 25 then t.ssp else s.ssp,
      net := bif m.testBit 26 then t.net else s.net,
      flash := bif m.testBit 27 then t.flash else s.flash,
      tap := bif m.testBit 28 then t.tap else s.tap,
      house := bif m.testBit 29 then t.house else s.house,
      fb := bif m.testBit 30 then t.fb else s.fb,
      bus := bif m.testBit 1 then t.bus else s.bus,
      outs := bif m.testBit 31 then t.outs else s.outs } := by
  obtain ⟨hp, hf, -, -, -, h, -, -⟩ := k
  cases s; cases t
  simp only [State.mk.injEq]
  refine ⟨hp, hf, ?_, ?_, ?_, ?_, ?_, ?_, ?_, ?_, ?_, ?_, ?_, ?_, ?_, ?_, ?_, ?_, ?_, ?_, ?_, ?_, ?_, ?_, ?_, ?_, ?_, ?_, ?_, ?_, ?_, ?_, ?_⟩
  · cases hb : m.testBit 2 <;> [exact h.time hb; rfl]
  · cases hb : m.testBit 3 <;> [exact h.regs hb; rfl]
  · cases hb : m.testBit 4 <;> [exact h.free hb; rfl]
  · cases hb : m.testBit 5 <;> [exact h.power hb; rfl]
  · cases hb : m.testBit 6 <;> [exact h.evt hb; rfl]
  · cases hb : m.testBit 7 <;> [exact h.mem hb; rfl]
  · cases hb : m.testBit 8 <;> [exact h.wins hb; rfl]
  · cases hb : m.testBit 9 <;> [exact h.mbx hb; rfl]
  · cases hb : m.testBit 10 <;> [exact h.sensor hb; rfl]
  · cases hb : m.testBit 11 <;> [exact h.stage hb; rfl]
  · cases hb : m.testBit 12 <;> [exact h.corr hb; rfl]
  · cases hb : m.testBit 13 <;> [exact h.cal hb; rfl]
  · cases hb : m.testBit 14 <;> [exact h.gref hb; rfl]
  · cases hb : m.testBit 15 <;> [exact h.trk hb; rfl]
  · cases hb : m.testBit 16 <;> [exact h.tmx hb; rfl]
  · cases hb : m.testBit 17 <;> [exact h.loops hb; rfl]
  · cases hb : m.testBit 18 <;> [exact h.live hb; rfl]
  · cases hb : m.testBit 19 <;> [exact h.braid hb; rfl]
  · cases hb : m.testBit 20 <;> [exact h.knots hb; rfl]
  · cases hb : m.testBit 21 <;> [exact h.sched hb; rfl]
  · cases hb : m.testBit 22 <;> [exact h.valves hb; rfl]
  · cases hb : m.testBit 23 <;> [exact h.chain hb; rfl]
  · cases hb : m.testBit 24 <;> [exact h.baind hb; rfl]
  · cases hb : m.testBit 25 <;> [exact h.ssp hb; rfl]
  · cases hb : m.testBit 26 <;> [exact h.net hb; rfl]
  · cases hb : m.testBit 27 <;> [exact h.flash hb; rfl]
  · cases hb : m.testBit 28 <;> [exact h.tap hb; rfl]
  · cases hb : m.testBit 29 <;> [exact h.house hb; rfl]
  · cases hb : m.testBit 30 <;> [exact h.fb hb; rfl]
  · cases hb : m.testBit 1 <;> [exact h.bus hb; rfl]
  · cases hb : m.testBit 31 <;> [exact h.outs hb; rfl]

/-- A register field reads as before if it lies outside the blocks `bs` and is none of `ls`, where the mask names no more. -/
theorem Keeps.outside {m : Nat} {s t : State} (k : Keeps m s t) (bs : List Nat) (ls : List Fld)
    (hb : (List.range 23).all (fun c => !(m.testBit (32 + c)) || bs.contains c) = true)
    (hl : closedTree.toList.all (fun p => !(m.testBit (55 + p.2)) || (ls.any fun f => f.key == p.1) ||
      bs.contains (blockOf (p.1 / 32))) = true) (f : Fld) (hf : f.block ∉ bs) (hk : ∀ g ∈ ls, f.key ≠ g.key) :
    t.get f = s.get f := by
  refine k.fields f ?_
  unfold Fld.cls
  split
  · rename_i i h
    have := List.all_eq_true.mp hl _ (KTree.find_mem _ _ _ h)
    simp only [Bool.or_eq_true, Bool.not_eq_true', List.any_eq_true, beq_iff_eq, List.contains_iff_mem] at this
    rw [show 32 + (23 + i) = 55 + i from by omega]
    rcases this with (h | ⟨g, hg, e⟩) | h
    · exact h
    · exact absurd e.symm (hk g hg)
    · exact absurd h hf
  · have := List.all_eq_true.mp hb f.block (List.mem_range.mpr f.block_lt)
    simp only [Bool.or_eq_true, Bool.not_eq_true', List.contains_iff_mem] at this
    rcases this with h | h
    · exact h
    · exact absurd h hf

end Sys2Proof.Machine
end

