-- ==== Sys2Proof/Laws/Canon.lean ====
section
/-! SUPPORT. The canonical form as a check and as a proposition are one: `mapsWf` and `Canon`. -/

namespace Sys2Proof

open Sys2Proof.Machine

theorem mkeysRising_iff {α : Type} (m : List (Nat × α)) : mkeysRising m = true ↔ Rising m := by
  induction m with
  | nil => simp [mkeysRising, Rising]
  | cons p r ih =>
    cases r with
    | nil => simp [mkeysRising, Rising]
    | cons q r =>
      simp only [mkeysRising, Bool.and_eq_true, decide_eq_true_eq, ih]
      constructor
      · rintro ⟨h, hr⟩
        refine List.pairwise_cons.mpr ⟨?_, hr⟩
        intro x hx
        rcases List.mem_cons.mp hx with rfl | hx
        · exact h
        · exact lt_trans h ((List.pairwise_cons.mp hr).1 x hx)
      · intro h
        exact ⟨(List.pairwise_cons.mp h).1 _ (by simp), (List.pairwise_cons.mp h).2⟩

theorem mwf_iff {α : Type} [DecidableEq α] (d : α) (m : List (Nat × α)) : mwf d m = true ↔ MWf d m := by
  simp only [mwf, Bool.and_eq_true, mkeysRising_iff, List.all_eq_true, decide_eq_true_eq, MWf]

theorem savedWf_iff (x : SavedSet) : savedWf x = true ↔ SetWf x := by
  simp only [savedWf, Bool.and_eq_true, mwf_iff]
  exact ⟨fun h => ⟨h.1.1, h.1.2, h.2⟩, fun h => ⟨⟨h.pb, h.cls⟩, h.map⟩⟩

theorem savedAll_iff (o : Option SavedSet) : o.all savedWf = true ↔ ∀ y ∈ o, SetWf y := by
  cases o with
  | none => simp
  | some x => simp [savedWf_iff]

theorem busWf_iff (b : Bus) : busWf b = true ↔ BusWf b := by
  simp only [busWf, Bool.and_eq_true, mwf_iff]
  exact ⟨fun h => ⟨h.1.1.1.1, h.1.1.1.2, h.1.1.2, h.1.2, h.2⟩, fun h => ⟨⟨⟨⟨h.ram, h.timers⟩, h.prio⟩, h.enable⟩, h.thresh⟩⟩

theorem mapsWf_iff (s : State) : mapsWf s = true ↔ Canon s := by
  simp only [mapsWf, Bool.and_eq_true, mkeysRising_iff, mwf_iff, savedAll_iff, busWf_iff]
  constructor
  · rintro ⟨⟨⟨⟨⟨⟨⟨⟨⟨⟨⟨a, b⟩, c⟩, d⟩, e⟩, f⟩, g⟩, h⟩, i⟩, z⟩, j⟩, k⟩
    exact ⟨a, b, c, d, e, f, g, h, i, z, j, k⟩
  · intro h
    exact ⟨⟨⟨⟨⟨⟨⟨⟨⟨⟨⟨h.regs, h.wins⟩, h.mbx⟩, h.ring⟩, h.pb⟩, h.cls⟩, h.map⟩, h.ub⟩, h.fb⟩, h.bus⟩, h.saved⟩, h.saving⟩

end Sys2Proof
end

