-- ==== Sys2Proof/Laws/Keeps1.lean ====
section
/-! SUPPORT. What each operation over State may touch, part 1 of 5: one lemma for each, in the order of their files. -/

namespace Sys2Proof.Machine

set_option linter.all false
set_option linter.unusedTactic false
set_option linter.unreachableTactic false
set_option linter.style.longLine false
set_option Elab.async false

open Reg

theorem setK {m : Nat} {a s : State} {f : Fld} {v : Nat} (h : Keeps m a s) (hf : hasBit m f = true := by rfl) :
    Keeps m a (s.set f v) := Keeps.set h ⟨hf⟩

theorem bumpK {m : Nat} {a s : State} {f : Fld} (h : Keeps m a s) (hf : hasBit m f = true := by rfl) :
    Keeps m a (s.bump f) := Keeps.set h ⟨hf⟩

theorem cntFld_has {m n : Nat} (hm : (m.testBit 3 && m.testBit 33 && true) = true) : Has m (cntFld n) := by
  unfold cntFld
  split
  · exact Has.fam (Reg.EVT_CNT_CNT0_cls ..) hm
  · exact Has.fam (Reg.EVT_CNT_CNT1_cls ..) hm
  · exact Has.fam (Reg.EVT_CNT_CNT2_cls ..) hm
  · exact Has.fam (Reg.EVT_CNT_CNT3_cls ..) hm

theorem stateFld_has {m c : Nat} (hm : (m.testBit 3 && m.testBit 45 && hasBit m Reg.ARB_LYSTAT_STATE) = true) :
    Has m (stateFld c) := by
  simp only [Bool.and_eq_true] at hm
  unfold stateFld
  split
  · exact ⟨hm.2⟩
  · exact Has.fam (Reg.VLV_STAT_STATE_cls ..) (by simp [hm])

theorem vvalFld_has {m : Nat} {c : VvalCond} (hm : (hasBit m Reg.PWR_STAT_VVALWARN && hasBit m Reg.PWR_STAT_VVALLOW &&
    hasBit m Reg.PWR_STAT_VVALHIGH) = true) : Has m (vvalFld c) := by
  simp only [Bool.and_eq_true] at hm
  cases c
  · exact ⟨hm.1.1⟩
  · exact ⟨hm.1.2⟩
  · exact ⟨hm.2⟩

theorem tempFld_has {m d i : Nat} (hm : (m.testBit 3 && m.testBit 35 && true) = true) : Has m (tempFld d i) :=
  Has.ite (Has.fam (Reg.THM_TL_TEMP_cls ..) hm) (Has.fam (Reg.THM_TP_TEMP_cls ..) hm)

theorem suspFld_has {m d i : Nat} (hm : (m.testBit 3 && m.testBit 35 && true) = true) : Has m (suspFld d i) :=
  Has.ite (Has.fam (Reg.THM_TL_SUSPECT_cls ..) hm) (Has.fam (Reg.THM_TP_SUSPECT_cls ..) hm)

theorem exclFld_has {m d i : Nat} (hm : (m.testBit 3 && m.testBit 35 && true) = true) : Has m (exclFld d i) :=
  Has.ite (Has.fam (Reg.THM_TL_EXCL_cls ..) hm) (Has.fam (Reg.THM_TP_EXCL_cls ..) hm)

theorem validFld_has {m d i : Nat} (hm : (m.testBit 3 && m.testBit 35 && true) = true) : Has m (validFld d i) :=
  Has.ite (Has.fam (Reg.THM_TL_VALID_cls ..) hm) (Has.fam (Reg.THM_TP_VALID_cls ..) hm)

theorem skimFld_has {m n k : Nat} (hm : (m.testBit 3 && m.testBit 38 && true) = true) : Has m (skimFld n k) :=
  Has.fam (Fld.cls_of 6 0x4000 0x6000 (by simp only [skimFld, Fld.key, Reg.TIL_SKIM_TRIM0]; omega)
    (by simp only [skimFld, Fld.key, Reg.TIL_SKIM_TRIM0]; omega) (by rfl) (by rfl) (by rfl)) hm

theorem allBits (m : Nat) (h : (List.range 427).all (fun i => m.testBit (32 + i)) = true) (f : Fld) :
    m.testBit (32 + f.cls) = true :=
  List.all_eq_true.mp h f.cls (List.mem_range.mpr f.cls_lt)

theorem has_most {m : Nat} {f : Fld} (h : f.key ≠ Reg.GLB_STAT_STATE.key)
    (hn : 0x7FFFFFFFFFFFFFFFFFFFFFFFFFFFFFFFFFFFFFFFFFFFFFFFFFFFFFFFFFFFFFFFFFFFFFFFFFFFFFFFFFFFFFFFFFFFFFFFFFFFF7FFFFF00000008 &&& m = 0x7FFFFFFFFFFFFFFFFFFFFFFFFFFFFFFFFFFFFFFFFFFFFFFFFFFFFFFFFFFFFFFFFFFFFFFFFFFFFFFFFFFFFFFFFFFFFFFFFFFFF7FFFFF00000008) : Has m f := by
  refine Has.mono ?_ hn
  have hm : (Nat.testBit 0x7FFFFFFFFFFFFFFFFFFFFFFFFFFFFFFFFFFFFFFFFFFFFFFFFFFFFFFFFFFFFFFFFFFFFFFFFFFFFFFFFFFFFFFFFFFFFFFFFFFFF7FFFFF00000008 3 && (List.range 427).all (fun i => i == 23 || Nat.testBit 0x7FFFFFFFFFFFFFFFFFFFFFFFFFFFFFFFFFFFFFFFFFFFFFFFFFFFFFFFFFFFFFFFFFFFFFFFFFFFFFFFFFFFFFFFFFFFFFFFFFFFF7FFFFF00000008 (32 + i))) = true := by
    decide +kernel
  rw [Bool.and_eq_true] at hm
  have hc := f.cls_state h
  have := List.all_eq_true.mp hm.2 f.cls (List.mem_range.mpr f.cls_lt)
  refine ⟨?_⟩
  simp only [hasBit, Bool.and_eq_true, bne_iff_ne, ne_eq]
  refine ⟨⟨hm.1, ?_⟩, hc⟩
  simp only [Bool.or_eq_true, beq_iff_eq] at this
  exact this.resolve_left hc

theorem lo_lt : blocks.all (fun b => b.2.all fun r => r.fields.all fun f => decide (f.lo < 32)) = true := by
  decide +kernel

theorem state_ro : (fieldsAt 20).all (fun f => f.lo != 0 || (f.ty == .ro && !f.load)) = true := by decide +kernel

theorem fieldsAt_state {a : Nat} {f : Fld} (h : f ∈ fieldsAt a) (hk : f.key = Reg.GLB_STAT_STATE.key) :
    f.ty = .ro ∧ f.load = false ∧ a = 20 := by
  have hlo : f.lo < 32 ∧ f.addr = a := by
    unfold fieldsAt at h
    split at h
    · rename_i r hr
      obtain ⟨x, hx, rfl⟩ := List.mem_map.mp h
      refine ⟨?_, rfl⟩
      have hr := List.mem_of_find?_eq_some hr
      rw [List.getD_eq_getElem?_getD] at hr
      cases hb : blocks[blockOf a]? with
      | none => rw [hb] at hr; simp at hr
      | some b =>
        rw [hb] at hr
        have := List.all_eq_true.mp (List.all_eq_true.mp (List.all_eq_true.mp lo_lt b (List.mem_of_getElem? hb)) r hr) x hx
        simpa using this
    · simp at h
  have ha : a = 20 ∧ f.lo = 0 := by
    have : Reg.GLB_STAT_STATE.key = 640 := rfl
    rw [this, Fld.key, hlo.2] at hk
    omega
  obtain ⟨rfl, h0⟩ := ha
  have := List.all_eq_true.mp state_ro f h
  simp only [h0, bne_self_eq_false, Bool.false_or, Bool.and_eq_true, beq_iff_eq, Bool.not_eq_true'] at this
  exact ⟨this.1, this.2, rfl⟩

theorem Keeps.foldl_mem {m : Nat} {a x : State} {β : Type} {g : State → β → State} {l : List β} (h : Keeps m a x)
    (hg : ∀ y b, b ∈ l → Keeps m a y → Keeps m a (g y b)) : Keeps m a (l.foldl g x) := by
  induction l generalizing x with
  | nil => exact h
  | cons b r ih => exact ih (hg _ b (by simp) h) fun y c hc => hg y c (by simp [hc])

theorem hasClr_state : hasClr 20 = false := by decide +kernel

theorem fieldOfKey_ne {k : Nat} {f : Fld} (h : fieldOfKey k = some f) : f.key ≠ Reg.GLB_STAT_STATE.key := fun hk => by
  have hf := List.find?_some h
  have := (fieldsAt_state (List.mem_of_find?_eq_some h) hk).2.1
  simp [this] at hf

theorem pend_has {m : Nat} {x : Setting} {f : Fld} (h : x.pend = some f)
    (hm : (m.testBit 3 && m.testBit 38 && hasBit m Reg.STG_FRATE_PEND && hasBit m Reg.STG_BIAS_PEND) = true) : Has m f := by
  simp only [Bool.and_eq_true] at hm
  cases x <;> simp only [Setting.pend, Option.some.injEq, reduceCtorEq] at h <;> subst h
  · exact ⟨hm.1.2⟩
  · exact ⟨hm.2⟩
  · exact Has.fam (Reg.TIL_GAIN_PEND_cls ..) (by simp [hm])
  · exact Has.fam (Reg.TIL_PTDATA_PEND_cls ..) (by simp [hm])
  · exact Has.fam (Reg.TIL_PTDATA_PEND_cls ..) (by simp [hm])

theorem setWf_factory : SetWf SavedSet.factory := ⟨mwf_nil _, mwf_nil _, mwf_nil _⟩

theorem setWf_none : ∀ y ∈ (none : Option SavedSet), SetWf y := by simp

theorem setWf_some {x : SavedSet} (h : SetWf x) : ∀ y ∈ some x, SetWf y := by
  intro y hy; cases hy; exact h

theorem setWf_getD {o : Option SavedSet} {x : SavedSet} (h : ∀ y ∈ o, SetWf y) (hx : SetWf x) : SetWf (o.getD x) := by
  cases o with
  | none => exact hx
  | some y => exact h y rfl

theorem setWf_savedNow {s : State} (c : Canon s) : SetWf s.savedNow :=
  ⟨mwf_foldl 0 _ (fun _ _ h => mwf_mset _ _ _ _ h) _ _ (mwf_nil 0), c.cls, c.map⟩

theorem mwf_bankOnto {m src : List (Nat × Nat)} {n dst org : Nat} (h : MWf 0 m) : MWf 0 (bankOnto m src n dst org) :=
  mwf_foldl 0 _ (fun _ _ h => mwf_mset _ _ _ _ h) _ _ (mwf_filter 0 m _ h)

theorem rising_resetRegs (f : Fuses) (fl : Flash) (c : Nat) : Rising (resetRegs f fl c) :=
  rising_foldl _ (fun _ _ h => rising_mset _ _ _ _ h) _ _ List.Pairwise.nil

theorem foldl_put_ne (l : List (Fld × Nat)) (m : List (Nat × Nat)) (k : Nat) (h : ∀ p ∈ l, k ≠ p.1.key) :
    mget 0 (l.foldl (fun m p => mset p.1.reset m p.1.key (p.2 % 2 ^ p.1.width)) m) k = mget 0 m k := by
  induction l generalizing m with
  | nil => rfl
  | cons p r ih => exact (ih _ fun q hq => h q (by simp [hq])).trans (mget_mset_ne' _ _ _ _ _ _ (h p (by simp)))

theorem resetRegs_state (f : Fuses) (fl : Flash) (c : Nat) :
    mget 0 (resetRegs f fl c) Reg.GLB_STAT_STATE.key = 0 := by
  unfold resetRegs
  refine (foldl_put_ne _ _ _ fun p hp => ?_).trans rfl
  simp only [List.mem_cons, List.not_mem_nil, or_false] at hp
  rcases hp with rfl | rfl | rfl | rfl | rfl | rfl | rfl | rfl | rfl | rfl | rfl | rfl | rfl | rfl <;> (dsimp only; decide)

theorem tryBoot_saved (f : Flash) : f.tryBoot.1.saved = f.saved ∧ f.tryBoot.1.saving = f.saving := by
  unfold Flash.tryBoot
  repeat' first | exact ⟨rfl, rfl⟩ | split | extract_lets

theorem mwf_putAll {m : List (Nat × Nat)} {k : Nat} {l : List Nat} (h : MWf 0 m) : MWf 0 (putAll m k l) :=
  mwf_foldl 0 _ (fun _ _ h => mwf_mset _ _ _ _ h) _ _ h

theorem setSlot_saved {f : Flash} {i : Nat} {x : Slot} (h : ∀ y ∈ f.saved, SetWf y) : ∀ y ∈ (f.setSlot i x).saved, SetWf y := by
  unfold Flash.setSlot; split <;> exact h

theorem setSlot_saving {f : Flash} {i : Nat} {x : Slot} (h : ∀ y ∈ f.saving, SetWf y) : ∀ y ∈ (f.setSlot i x).saving, SetWf y := by
  unfold Flash.setSlot; split <;> exact h

theorem hold_saved {f : Flash} {i : Nat} (h : ∀ y ∈ f.saved, SetWf y) : ∀ y ∈ (f.hold i).saved, SetWf y := by
  unfold Flash.hold; repeat' first | exact h | split

theorem hold_saving {f : Flash} {i : Nat} (h : ∀ y ∈ f.saving, SetWf y) : ∀ y ∈ (f.hold i).saving, SetWf y := by
  unfold Flash.hold; repeat' first | exact h | split

theorem State.set_keeps {m : Nat} {a s : State} {f : Fld} {v : Nat} (h : Keeps m a s) (hf : Has m f) :
    Keeps m a (s.set f v) := Keeps.set h hf

theorem State.setB_keeps {m : Nat} {a s : State} {f : Fld} {v : Bool} (h : Keeps m a s) (hf : Has m f) :
    Keeps m a (s.setB f v) := Keeps.set h hf

theorem State.setS_keeps {m : Nat} {a s : State} {f : Fld} {v : Int} (h : Keeps m a s) (hf : Has m f) :
    Keeps m a (s.setS f v) := Keeps.set h hf

theorem State.bumpBy_keeps {m : Nat} {a s : State} {f : Fld} {n : Nat} (h : Keeps m a s) (hf : Has m f) :
    Keeps m a (s.bumpBy f n) := Keeps.set h hf

theorem State.bump_keeps {m : Nat} {a s : State} {f : Fld} (h : Keeps m a s) (hf : Has m f) :
    Keeps m a (s.bump f) := Keeps.set h hf

theorem State.incr_keeps {m : Nat} {a s : State} {f : Fld} (h : Keeps m a s) (hf : Has m f) :
    Keeps m a (s.incr f) := Keeps.set h hf

theorem State.setPair_keeps {m : Nat} {a s : State} {f g : Fld} {v : Nat} (h : Keeps m a s) (hf : Has m f) (hg : Has m g) :
    Keeps m a (s.setPair f g v) := Keeps.set (Keeps.set h hf) hg

theorem State.setBit_keeps {m : Nat} {a s : State} {f : Fld} {i : Nat} (h : Keeps m a s) (hf : Has m f) :
    Keeps m a (s.setBit f i) := Keeps.set h hf

theorem State.clrBit_keeps {m : Nat} {a s : State} {f : Fld} {i : Nat} (h : Keeps m a s) (hf : Has m f) :
    Keeps m a (s.clrBit f i) := Keeps.set h hf

theorem State.draw_keeps (s : State) :
    Keeps 0x10 s (State.draw s).2 := by
  have h0 : Keeps 0x10 s s := Keeps.refl _ _
  unfold State.draw
  repeat' first | (with_reducible first | assumption | apply Nat.le_succ) | apply Eq.refl | with_reducible apply Keeps.put_free

theorem State.advance_keeps (s : State) (t : ℕ) :
    Keeps 0x4 s (State.advance s t) := by
  have h0 : Keeps 0x4 s s := Keeps.refl _ _
  unfold State.advance
  repeat' first | with_reducible assumption | apply Eq.refl | with_reducible apply Keeps.put_time

theorem State.setWin_keeps (s : State) (r : Requester) (w : Win) :
    Keeps 0x100 s (State.setWin s r w) := by
  have h0 : Keeps 0x100 s s := Keeps.refl _ _
  unfold State.setWin
  repeat' first | (with_reducible first | assumption | apply mwf_mset | apply Canon.wins | apply Keeps.canon) | apply Eq.refl | intro c | with_reducible apply Keeps.put_wins

theorem State.setPin_keeps (s : State) (i : ℕ) (p : PinState) :
    Keeps 0x40 s (State.setPin s i p) := by
  have h0 : Keeps 0x40 s s := Keeps.refl _ _
  unfold State.setPin
  repeat' first | (with_reducible first | assumption | apply mwf_mset | apply Canon.ring | apply Keeps.canon) | apply Eq.refl | intro c | extract_lets | with_reducible apply Keeps.put_evt

theorem State.pinOccur_keeps (s : State) (i : ℕ) :
    Keeps 0x40 s (State.pinOccur s i) := by
  have h0 : Keeps 0x40 s s := Keeps.refl _ _
  unfold State.pinOccur
  repeat' first | with_reducible assumption | apply Eq.refl | (with_reducible first | apply Keeps.step (State.setPin_keeps ..) | apply Keeps.ite) | split | extract_lets

theorem State.touch_keeps (s : State) (bank : ℕ) (word : ℕ) :
    Keeps 0x100000000000088 s (State.touch s bank word) := by
  have h0 : Keeps 0x100000000000088 s s := Keeps.refl _ _
  unfold State.touch
  extract_lets _ x1
  have h2 : Keeps 0x100000000000088 s x1 := by unfold x1; repeat' first | with_reducible assumption | apply Eq.refl | with_reducible apply Keeps.ite | split | with_reducible apply Keeps.put_mem
  try clear_value x1
  repeat' first | with_reducible assumption | apply Eq.refl | intro c | (with_reducible first | apply State.bump_keeps | apply Keeps.ite) | ((with_reducible apply Has.fam (MEM_TESTABORTS_COUNT_cls ..)); exact Eq.refl true) | split | extract_lets | with_reducible apply Keeps.put_mem

theorem State.wordWritten_keeps (s : State) (bank : ℕ) (word : ℕ) :
    Keeps 0x100000000000088 s (State.wordWritten s bank word) := by
  have h0 : Keeps 0x100000000000088 s s := Keeps.refl _ _
  unfold State.wordWritten
  extract_lets x0
  have h1 : Keeps 0x100000000000088 s x0 := by unfold x0; repeat' first | with_reducible assumption | apply Eq.refl | with_reducible apply Keeps.step (State.touch_keeps ..)
  try clear_value x0
  repeat' first | with_reducible assumption | apply Eq.refl | extract_lets | with_reducible apply Keeps.put_mem

theorem State.pushLog_keeps (s : State) (src : ℕ) (fw : Bool) (forced : Bool) (rep : ℕ) (stamp : ℕ) (d5 : ℕ) (d6 : ℕ) (d7 : ℕ) :
    Keeps 0x1000002000000C8 s (State.pushLog s src fw forced rep stamp d5 d6 d7).1 := by
  have h0 : Keeps 0x1000002000000C8 s s := Keeps.refl _ _
  unfold State.pushLog
  extract_lets _ _ _ _ _ _ x6 x7 x8 x9
  have h7 : Keeps 0x1000002000000C8 s x6 := by unfold x6; repeat' first | (with_reducible first | assumption | apply mwf_mset | apply Canon.ring | apply Keeps.canon) | apply Eq.refl | intro c | with_reducible apply Keeps.put_evt
  try clear_value x6
  have h8 : Keeps 0x1000002000000C8 s x7 := by unfold x7; repeat' first | with_reducible assumption | apply Eq.refl | intro c | (with_reducible first | apply Keeps.step (State.wordWritten_keeps ..) | apply Keeps.foldl | apply Keeps.foldl_fst)
  try clear_value x7
  have h9 : Keeps 0x1000002000000C8 s x8 := by unfold x8; repeat' first | with_reducible assumption | apply Eq.refl | intro c | with_reducible apply State.incr_keeps | ((with_reducible apply Has.fam (EVT_LOGSEQ_SEQ_cls ..)); exact Eq.refl true) | ((with_reducible apply Has.fam (EVT_LOGHEAD_NEXT_cls ..)); exact Eq.refl true)
  try clear_value x8
  have h10 : Keeps 0x1000002000000C8 s x9 := by unfold x9; repeat' first | with_reducible assumption | apply Eq.refl | intro c | with_reducible apply State.set_keeps | ((with_reducible apply Has.fam (EVT_FLASHPOS_PEND_cls ..)); exact Eq.refl true)
  try clear_value x9
  repeat' first | with_reducible assumption | apply Eq.refl | intro c | (with_reducible first | apply State.bump_keeps | apply Keeps.ite) | ((with_reducible apply Has.fam (EVT_LOGLOST_COUNT_cls ..)); exact Eq.refl true) | split | extract_lets

theorem State.logOccur_keeps (s : State) (src : ℕ) (forced : Bool) (stamp : ℕ) :
    Keeps 0x1000002000000C8 s (State.logOccur s src forced stamp).1 := by
  have h0 : Keeps 0x1000002000000C8 s s := Keeps.refl _ _
  unfold State.logOccur
  extract_lets _ _ _ _ x4
  have h5 : Keeps 0x1000002000000C8 s x4 := by unfold x4; repeat' first | (with_reducible first | assumption | apply mwf_mset | apply Canon.ring | apply Keeps.canon) | apply Eq.refl | intro c | with_reducible apply Keeps.put_evt
  try clear_value x4
  repeat' first | (with_reducible first | assumption | apply mwf_mset | apply Canon.ring | apply Keeps.canon) | apply Eq.refl | intro c | (with_reducible first | apply Keeps.step (State.pushLog_keeps ..) | apply Keeps.ite) | split | extract_lets | with_reducible apply Keeps.put_evt

theorem State.occurCore_keeps (s : State) (src : ℕ) (forced : Bool) (stamp : ℕ) :
    Keeps 0x1000002000000C8 s (State.occurCore s src forced stamp).1 := by
  have h0 : Keeps 0x1000002000000C8 s s := Keeps.refl _ _
  unfold State.occurCore
  extract_lets _ x1 _ x3 _ x5
  have h2 : Keeps 0x1000002000000C8 s x1 := by unfold x1; repeat' first | with_reducible assumption | apply Eq.refl | intro c | (with_reducible first | apply State.bump_keeps | apply State.setBit_keeps) | ((with_reducible apply Has.fam (EVT_STAT_STAT_cls ..)); exact Eq.refl true) | (exact cntFld_has (Eq.refl true))
  try clear_value x1
  have h4 : Keeps 0x1000002000000C8 s x3 := by unfold x3; repeat' first | (with_reducible first | assumption | apply mwf_mset | apply Canon.ring | apply Keeps.canon) | apply Eq.refl | intro c | with_reducible apply Keeps.ite | split | with_reducible apply Keeps.put_evt
  try clear_value x3
  have h6 : Keeps 0x1000002000000C8 s x5 := by unfold x5; repeat' first | with_reducible assumption | apply Eq.refl | intro c | (with_reducible first | apply Keeps.step (State.pinOccur_keeps ..) | apply Keeps.ite | apply Keeps.foldl | apply Keeps.foldl_fst) | split
  try clear_value x5
  repeat' first | with_reducible assumption | apply Eq.refl | (with_reducible first | apply Keeps.step (State.logOccur_keeps ..) | apply Keeps.ite) | split | extract_lets

theorem State.occurAt_keeps (s : State) (src : ℕ) (forced : Bool) (stamp : ℕ) :
    Keeps 0x1000002000000C8 s (State.occurAt s src forced stamp) := by
  have h0 : Keeps 0x1000002000000C8 s s := Keeps.refl _ _
  unfold State.occurAt
  extract_lets x0
  have h1 : Keeps 0x1000002000000C8 s x0.1 := by unfold x0; repeat' first | with_reducible assumption | apply Eq.refl | with_reducible apply Keeps.step (State.occurCore_keeps ..)
  try clear_value x0
  repeat' first | with_reducible assumption | apply Eq.refl | (with_reducible first | apply Keeps.step (State.occurCore_keeps ..) | apply Keeps.ite) | split

theorem State.raise_keeps (s : State) (src : ℕ) :
    Keeps 0x1000002000000C8 s (State.raise s src) := by
  have h0 : Keeps 0x1000002000000C8 s s := Keeps.refl _ _
  unfold State.raise
  repeat' first | with_reducible assumption | apply Eq.refl | with_reducible apply Keeps.step (State.occurAt_keeps ..)

theorem State.record_keeps (s : State) (code : ℕ) (d5 : ℕ) (d6 : ℕ) (d7 : ℕ) :
    Keeps 0x1000002000000C8 s (State.record s code d5 d6 d7) := by
  have h0 : Keeps 0x1000002000000C8 s s := Keeps.refl _ _
  unfold State.record
  extract_lets x0
  have h1 : Keeps 0x1000002000000C8 s x0.1 := by unfold x0; repeat' first | with_reducible assumption | apply Eq.refl | with_reducible apply Keeps.step (State.pushLog_keeps ..)
  try clear_value x0
  repeat' first | with_reducible assumption | apply Eq.refl | (with_reducible first | apply Keeps.step (State.occurCore_keeps ..) | apply Keeps.ite) | split

theorem State.emit_keeps (s : State) (o : Out) :
    Keeps 0x80000000 s (State.emit s o) := by
  have h0 : Keeps 0x80000000 s s := Keeps.refl _ _
  unfold State.emit
  repeat' first | (with_reducible first | assumption | apply List.prefix_append) | apply Eq.refl | with_reducible apply Keeps.put_outs

theorem State.forEach_keeps {m : Nat} {a s : State} {l : List Nat} {f : State → Nat → State} (h : Keeps m a s)
    (hf : ∀ y b, Keeps m a y → Keeps m a (f y b)) : Keeps m a (s.forEach l f) := Keeps.foldl h hf

theorem State.writeFld_keeps {m : Nat} {a s : State} {v hw : Nat} {f : Fld} (h : Keeps m a s)
    (hf : f.ty ≠ .ro → Has m f) : Keeps m a (s.writeFld v hw f) := by
  unfold State.writeFld
  extract_lets x
  split
  · rename_i e; exact Keeps.set h (hf (by simp [e]))
  · rename_i e; exact Keeps.set h (hf (by simp [e]))
  · rename_i e; exact Keeps.set h (hf (by simp [e]))
  · exact h
  · exact h

theorem State.writeFlds_keeps (s : State) (a v hw : Nat) : Keeps 0x7FFFFFFFFFFFFFFFFFFFFFFFFFFFFFFFFFFFFFFFFFFFFFFFFFFFFFFFFFFFFFFFFFFFFFFFFFFFFFFFFFFFFFFFFFFFFFFFFFFFF7FFFFF00000008 s (s.writeFlds a v hw) :=
  Keeps.foldl_mem (Keeps.refl _ _) fun _ f hm hy => State.writeFld_keeps hy fun hr =>
    has_most (fun hk => hr (fieldsAt_state hm hk).1) (by rfl)

theorem State.guardW_keeps {m : Nat} {a s : State} {r : Requester} {d : Nat} {f : State → State} (h : Keeps m a s)
    (hm : Has m Reg.GLB_STAT_PROTERR) (hf : ∀ y, Keeps m a y → Keeps m a (f y)) : Keeps m a (s.guardW r d f) := by
  unfold State.guardW
  split
  · exact Keeps.set h hm
  · exact hf _ h

theorem State.setTile_keeps (s : State) (n : ℕ) (t : Tile) :
    Keeps 0x400 s (State.setTile s n t) := by
  have h0 : Keeps 0x400 s s := Keeps.refl _ _
  unfold State.setTile
  repeat' first | with_reducible assumption | apply Eq.refl | extract_lets | with_reducible apply Keeps.put_sensor

theorem State.setRx_keeps (s : State) (n : ℕ) (r : Rx) :
    Keeps 0x400 s (State.setRx s n r) := by
  have h0 : Keeps 0x400 s s := Keeps.refl _ _
  unfold State.setRx
  repeat' first | with_reducible assumption | apply Eq.refl | extract_lets | with_reducible apply Keeps.put_sensor

theorem State.cfgErr_keeps (s : State) :
    Keeps 0x800000000000000000000000000000000008 s (State.cfgErr s) := by
  have h0 : Keeps 0x800000000000000000000000000000000008 s s := Keeps.refl _ _
  unfold State.cfgErr
  repeat' first | with_reducible assumption | apply Eq.refl | intro c | with_reducible apply State.set_keeps | ((with_reducible apply Has.fam (STG_STAT_CFGERR_cls ..)); exact Eq.refl true)

theorem State.stagePut_keeps (s : State) (w : Setting) :
    Keeps 0x400 s (State.stagePut s w) := by
  have h0 : Keeps 0x400 s s := Keeps.refl _ _
  unfold State.stagePut
  repeat' first | with_reducible assumption | apply Eq.refl | extract_lets | with_reducible apply Keeps.put_sensor

theorem State.takeArrivals_keeps (s : State) :
    Keeps 0x400 s (State.takeArrivals s) := by
  have h0 : Keeps 0x400 s s := Keeps.refl _ _
  unfold State.takeArrivals
  repeat' first | with_reducible assumption | apply Eq.refl | extract_lets | with_reducible apply Keeps.put_sensor

theorem State.tieTrims_keeps (s : State) (n : ℕ) :
    Keeps 0x400 s (State.tieTrims s n) := by
  have h0 : Keeps 0x400 s s := Keeps.refl _ _
  unfold State.tieTrims
  repeat' first | with_reducible assumption | apply Eq.refl | extract_lets | with_reducible apply Keeps.put_sensor

theorem State.settleTile_keeps (s : State) (n : ℕ) (k : ℕ) :
    Keeps 0x400 s (State.settleTile s n k) := by
  have h0 : Keeps 0x400 s s := Keeps.refl _ _
  unfold State.settleTile
  repeat' first | with_reducible assumption | apply Eq.refl | with_reducible apply Keeps.step (State.setTile_keeps ..) | extract_lets

theorem State.settleAll_keeps (s : State) (k : ℕ) :
    Keeps 0x400 s (State.settleAll s k) := by
  have h0 : Keeps 0x400 s s := Keeps.refl _ _
  unfold State.settleAll
  repeat' first | with_reducible assumption | apply Eq.refl | intro c | (with_reducible first | apply Keeps.step (State.settleTile_keeps ..) | apply Keeps.foldl)

theorem State.settleTick_keeps (s : State) :
    Keeps 0x400 s (State.settleTick s) := by
  have h0 : Keeps 0x400 s s := Keeps.refl _ _
  unfold State.settleTick
  repeat' first | with_reducible assumption | apply Eq.refl | intro c | (with_reducible first | apply Keeps.step (State.setTile_keeps ..) | apply Keeps.foldl) | extract_lets

theorem State.settleReport_keeps (s : State) :
    Keeps 0x2000000000000000000000000000000000008 s (State.settleReport s) := by
  have h0 : Keeps 0x2000000000000000000000000000000000008 s s := Keeps.refl _ _
  unfold State.settleReport
  repeat' first | with_reducible assumption | apply Eq.refl | intro c | (with_reducible first | apply State.set_keeps | apply Keeps.foldl) | ((with_reducible apply Has.fam (STG_STAT_SETTLE_cls ..)); exact Eq.refl true)

theorem State.cfgFrame_keeps (s : State) :
    Keeps 0x8000000000000000000000000000000000008 s (State.cfgFrame s) := by
  have h0 : Keeps 0x8000000000000000000000000000000000008 s s := Keeps.refl _ _
  unfold State.cfgFrame
  repeat' first | with_reducible assumption | apply Eq.refl | intro c | with_reducible apply State.set_keeps | ((with_reducible apply Has.fam (STG_CFGFRAME_FRAME_cls ..)); exact Eq.refl true)

theorem State.tileReport_keeps (s : State) (n : ℕ) :
    Keeps 0x4000000008 s (State.tileReport s n) := by
  have h0 : Keeps 0x4000000008 s s := Keeps.refl _ _
  unfold State.tileReport
  extract_lets _ _ _ _ x4
  have h5 : Keeps 0x4000000008 s x4 := by unfold x4; repeat' first | with_reducible assumption | apply Eq.refl | intro c | with_reducible apply State.set_keeps | ((with_reducible apply Has.fam (TIL_CVSTAT_PARKED_cls ..)); exact Eq.refl true) | ((with_reducible apply Has.fam (TIL_CVSTAT_ROTSP_cls ..)); exact Eq.refl true) | ((with_reducible apply Has.fam (TIL_CVSTAT_FAILCNT_cls ..)); exact Eq.refl true)
  try clear_value x4
  repeat' first | with_reducible assumption | apply Eq.refl | intro c | with_reducible apply State.set_keeps | ((with_reducible apply Has.fam (TIL_ROTPOS_SP3_cls ..)); exact Eq.refl true) | ((with_reducible apply Has.fam (TIL_ROTPOS_SP2_cls ..)); exact Eq.refl true) | ((with_reducible apply Has.fam (TIL_ROTPOS_SP1_cls ..)); exact Eq.refl true) | ((with_reducible apply Has.fam (TIL_ROTPOS_SP0_cls ..)); exact Eq.refl true) | extract_lets

theorem State.startRotation_keeps (s : State) (n : ℕ) :
    Keeps 0x4000000408 s (State.startRotation s n) := by
  have h0 : Keeps 0x4000000408 s s := Keeps.refl _ _
  unfold State.startRotation
  repeat' first | with_reducible assumption | apply Eq.refl | (with_reducible first | apply Keeps.step (State.tileReport_keeps ..) | apply Keeps.step (State.setTile_keeps ..) | apply Keeps.ite) | split | extract_lets

theorem State.stopRotation_keeps (s : State) (n : ℕ) :
    Keeps 0x4000000408 s (State.stopRotation s n) := by
  have h0 : Keeps 0x4000000408 s s := Keeps.refl _ _
  unfold State.stopRotation
  repeat' first | with_reducible assumption | apply Eq.refl | (with_reducible first | apply Keeps.step (State.tileReport_keeps ..) | apply Keeps.step (State.setTile_keeps ..)) | extract_lets

theorem State.scalBegin_keeps (s : State) (n : ℕ) :
    Keeps 0x4000000408 s (State.scalBegin s n) := by
  have h0 : Keeps 0x4000000408 s s := Keeps.refl _ _
  unfold State.scalBegin
  extract_lets x0
  have h1 : Keeps 0x4000000408 s x0 := by unfold x0; repeat' first | with_reducible assumption | apply Eq.refl | with_reducible apply Keeps.step (State.stopRotation_keeps ..)
  try clear_value x0
  repeat' first | with_reducible assumption | apply Eq.refl | intro c | (with_reducible first | apply State.set_keeps | apply Keeps.step (State.setTile_keeps ..)) | ((with_reducible apply Has.fam (TIL_CVSTAT_SCAL_BUSY_cls ..)); exact Eq.refl true) | extract_lets

theorem State.biasOut_keeps (s : State) :
    Keeps 0x400400000000000000000000000000000408 s (State.biasOut s) := by
  have h0 : Keeps 0x400400000000000000000000000000000408 s s := Keeps.refl _ _
  unfold State.biasOut
  repeat' first | with_reducible assumption | apply Eq.refl | intro c | with_reducible apply State.set_keeps | ((with_reducible apply Has.fam (STG_STAT_BIAS_RAMP_cls ..)); exact Eq.refl true) | ((with_reducible apply Has.fam (STG_BIAS_APPLIED_cls ..)); exact Eq.refl true) | extract_lets | with_reducible apply Keeps.put_sensor

theorem State.applySetting_keeps (s : State) (w : Setting) :
    Keeps 0x8400400000000000000000000004000000408 s (State.applySetting s w) := by
  have h0 : Keeps 0x8400400000000000000000000004000000408 s s := Keeps.refl _ _
  unfold State.applySetting
  repeat' first | with_reducible assumption | apply Eq.refl | intro c | (with_reducible first | apply Keeps.step (State.cfgFrame_keeps ..) | apply Keeps.step (State.settleAll_keeps ..) | apply Keeps.step (State.biasOut_keeps ..) | apply State.set_keeps | apply Keeps.step (State.settleTile_keeps ..) | apply Keeps.step (State.setTile_keeps ..) | apply Keeps.step (State.scalBegin_keeps ..) | apply Keeps.ite | apply Keeps.foldl) | ((with_reducible apply Has.fam (STG_BIAS_APPLIED_cls ..)); exact Eq.refl true) | (exact skimFld_has (Eq.refl true)) | split | extract_lets | with_reducible apply Keeps.put_sensor

theorem State.rampStep_keeps (s : State) :
    Keeps 0x400400000000000000000000000000000408 s (State.rampStep s) := by
  have h0 : Keeps 0x400400000000000000000000000000000408 s s := Keeps.refl _ _
  unfold State.rampStep
  extract_lets _ x1
  have h2 : Keeps 0x400400000000000000000000000000000408 s x1 := by unfold x1; repeat' first | with_reducible assumption | apply Eq.refl | intro c | with_reducible apply State.set_keeps | ((with_reducible apply Has.fam (STG_BIAS_APPLIED_cls ..)); exact Eq.refl true)
  try clear_value x1
  repeat' first | with_reducible assumption | apply Eq.refl | intro c | (with_reducible first | apply State.set_keeps | apply Keeps.step (State.settleAll_keeps ..) | apply Keeps.ite) | ((with_reducible apply Has.fam (STG_STAT_BIAS_RAMP_cls ..)); exact Eq.refl true) | split | extract_lets | with_reducible apply Keeps.put_sensor

theorem State.rxFault_keeps (s : State) (n : ℕ) (cause : ℕ) (stamp : ℕ) :
    Keeps 0x1000042000000C8 s (State.rxFault s n cause stamp) := by
  have h0 : Keeps 0x1000042000000C8 s s := Keeps.refl _ _
  unfold State.rxFault
  repeat' first | with_reducible assumption | apply Eq.refl | intro c | (with_reducible first | apply Keeps.step (State.raise_keeps ..) | apply State.setPair_keeps | apply State.set_keeps) | ((with_reducible apply Has.fam (TIL_TXLASTSLIP_LO_STAMP_cls ..)); exact Eq.refl true) | ((with_reducible apply Has.fam (TIL_TXLASTSLIP_HI_STAMP_cls ..)); exact Eq.refl true) | ((with_reducible apply Has.fam (TIL_TXSTAT_CAUSE_cls ..)); exact Eq.refl true)

theorem State.slip_keeps (s : State) (n : ℕ) (cause : ℕ) (counted : Bool) (stamp : ℕ) (frame : ℕ) :
    Keeps 0x1000042000004C8 s (State.slip s n cause counted stamp frame) := by
  have h0 : Keeps 0x1000042000004C8 s s := Keeps.refl _ _
  unfold State.slip
  extract_lets x0 x1 x2 _ _ _ x6
  have h1 : Keeps 0x1000042000004C8 s x0 := by unfold x0; repeat' first | with_reducible assumption | apply Eq.refl | with_reducible apply Keeps.step (State.rxFault_keeps ..)
  try clear_value x0
  have h2 : Keeps 0x1000042000004C8 s x1 := by unfold x1; repeat' first | with_reducible assumption | apply Eq.refl | intro c | (with_reducible first | apply State.bump_keeps | apply Keeps.ite) | ((with_reducible apply Has.fam (TIL_TXSLIPCNT_COUNT_cls ..)); exact Eq.refl true) | split
  try clear_value x1
  have h3 : Keeps 0x1000042000004C8 s x2 := by unfold x2; repeat' first | with_reducible assumption | apply Eq.refl | intro c | (with_reducible first | apply State.set_keeps | apply Keeps.ite) | ((with_reducible apply Has.fam (TIL_TXSTAT_LOCK_cls ..)); exact Eq.refl true) | ((with_reducible apply Has.fam (TIL_TXSTAT_ALIGNED_cls ..)); exact Eq.refl true) | split
  try clear_value x2
  have h7 : Keeps 0x1000042000004C8 s x6 := by unfold x6; repeat' first | with_reducible assumption | apply Eq.refl | intro c | with_reducible apply State.bumpBy_keeps | ((with_reducible apply Has.fam (TIL_TXINVCNT_COUNT_cls ..)); exact Eq.refl true)
  try clear_value x6
  repeat' first | with_reducible assumption | apply Eq.refl | (with_reducible first | apply Keeps.step (State.setRx_keeps ..) | apply Keeps.ite) | split | extract_lets

theorem State.realign_keeps (s : State) (n : ℕ) :
    Keeps 0x4000000408 s (State.realign s n) := by
  have h0 : Keeps 0x4000000408 s s := Keeps.refl _ _
  unfold State.realign
  repeat' first | with_reducible assumption | apply Eq.refl | intro c | (with_reducible first | apply State.set_keeps | apply Keeps.step (State.setRx_keeps ..)) | ((with_reducible apply Has.fam (TIL_TXSTAT_ALIGNED_cls ..)); exact Eq.refl true) | ((with_reducible apply Has.fam (TIL_TXSTAT_LOCK_cls ..)); exact Eq.refl true) | extract_lets

theorem State.addErrs_keeps (s : State) (es : List MemErr) :
    Keeps 0x80 s (State.addErrs s es) := by
  have h0 : Keeps 0x80 s s := Keeps.refl _ _
  unfold State.addErrs
  repeat' first | with_reducible assumption | apply Eq.refl | extract_lets | with_reducible apply Keeps.put_mem

theorem State.memCE_keeps (s : State) (bank : ℕ) (word : ℕ) :
    Keeps 0x1010002000000C8 s (State.memCE s bank word) := by
  have h0 : Keeps 0x1010002000000C8 s s := Keeps.refl _ _
  unfold State.memCE
  extract_lets x0 x1
  have h1 : Keeps 0x1010002000000C8 s x0 := by unfold x0; repeat' first | with_reducible assumption | apply Eq.refl | intro c | with_reducible apply State.bump_keeps | ((with_reducible apply Has.fam (MEM_ECC_CE_cls ..)); exact Eq.refl true)
  try clear_value x0
  have h2 : Keeps 0x1010002000000C8 s x1 := by unfold x1; repeat' first | with_reducible assumption | apply Eq.refl | (with_reducible first | apply Keeps.step (State.raise_keeps ..) | apply Keeps.ite) | split
  try clear_value x1
  repeat' first | with_reducible assumption | apply Eq.refl | with_reducible apply Keeps.ite | split | extract_lets | with_reducible apply Keeps.put_mem

theorem State.memUE_keeps (s : State) (bank : ℕ) (word : ℕ) (port : ℕ) :
    Keeps 0x7E0000800000000000000000000000000000000000000000000000000000000000001010002000000C8 s (State.memUE s bank word port) := by
  have h0 : Keeps 0x7E0000800000000000000000000000000000000000000000000000000000000000001010002000000C8 s s := Keeps.refl _ _
  unfold State.memUE
  extract_lets x0 x1
  have h1 : Keeps 0x7E0000800000000000000000000000000000000000000000000000000000000000001010002000000C8 s x0 := by unfold x0; repeat' first | with_reducible assumption | apply Eq.refl | intro c | (with_reducible first | apply State.set_keeps | apply State.bump_keeps) | ((with_reducible apply Has.fam (MEM_STAT_UESEEN_cls ..)); exact Eq.refl true) | ((with_reducible apply Has.fam (MEM_ECC_UE_cls ..)); exact Eq.refl true)
  try clear_value x0
  have h2 : Keeps 0x7E0000800000000000000000000000000000000000000000000000000000000000001010002000000C8 s x1 := by unfold x1; repeat' first | with_reducible assumption | apply Eq.refl | intro c | with_reducible apply State.set_keeps | ((with_reducible apply Has.fam (MEM_ERRADDR_VALID_cls ..)); exact Eq.refl true) | ((with_reducible apply Has.fam (MEM_ERRADDR_PORT_cls ..)); exact Eq.refl true) | ((with_reducible apply Has.fam (MEM_ERRADDR_BANK_cls ..)); exact Eq.refl true) | ((with_reducible apply Has.fam (MEM_ERRADDR_WORD_cls ..)); exact Eq.refl true)
  try clear_value x1
  repeat' first | with_reducible assumption | apply Eq.refl | intro c | (with_reducible first | apply Keeps.step (State.raise_keeps ..) | apply State.setPair_keeps) | ((with_reducible apply Has.fam (MEM_ERRTIME_LO_STAMP_cls ..)); exact Eq.refl true) | ((with_reducible apply Has.fam (MEM_ERRTIME_HI_STAMP_cls ..)); exact Eq.refl true)

theorem State.memRead_keeps (s : State) (bank : ℕ) (word : ℕ) (port : ℕ) :
    Keeps 0x7E0000800000000000000000000000000000000000000000000000000000000000001010002000000C8 s (State.memRead s bank word port).1 := by
  have h0 : Keeps 0x7E0000800000000000000000000000000000000000000000000000000000000000001010002000000C8 s s := Keeps.refl _ _
  unfold State.memRead
  extract_lets x0
  have h1 : Keeps 0x7E0000800000000000000000000000000000000000000000000000000000000000001010002000000C8 s x0 := by unfold x0; repeat' first | with_reducible assumption | apply Eq.refl | with_reducible apply Keeps.step (State.touch_keeps ..)
  try clear_value x0
  repeat' first | with_reducible assumption | apply Eq.refl | (with_reducible first | apply Keeps.step (State.memCE_keeps ..) | apply Keeps.step (State.memUE_keeps ..)) | split

theorem State.tableRead_keeps (s : State) (word : ℕ) :
    Keeps 0x7E0002800000000000000000000000000000000000000000000000000000000000001010002000000C8 s (State.tableRead s word).1 := by
  have h0 : Keeps 0x7E0002800000000000000000000000000000000000000000000000000000000000001010002000000C8 s s := Keeps.refl _ _
  unfold State.tableRead
  extract_lets x0
  have h1 : Keeps 0x7E0002800000000000000000000000000000000000000000000000000000000000001010002000000C8 s x0.1 := by unfold x0; repeat' first | with_reducible assumption | apply Eq.refl | with_reducible apply Keeps.step (State.memRead_keeps ..)
  try clear_value x0
  repeat' first | with_reducible assumption | apply Eq.refl | intro c | (with_reducible first | apply State.set_keeps | apply Keeps.ite) | ((with_reducible apply Has.fam (MEM_STAT_TBLERR_cls ..)); exact Eq.refl true) | split

theorem State.ddrRead_keeps (s : State) (w : ℕ) :
    Keeps 0xC00000000000000000000000000000000000000000000000000000000000000000000001000002000000C8 s (State.ddrRead s w).1 := by
  have h0 : Keeps 0xC00000000000000000000000000000000000000000000000000000000000000000000001000002000000C8 s s := Keeps.refl _ _
  unfold State.ddrRead
  repeat' first | with_reducible assumption | apply Eq.refl | intro c | (with_reducible first | apply Keeps.step (State.raise_keeps ..) | apply State.bump_keeps | apply Keeps.ite) | ((with_reducible apply Has.fam (MEM_DDRECC_UE_cls ..)); exact Eq.refl true) | ((with_reducible apply Has.fam (MEM_DDRECC_CE_cls ..)); exact Eq.refl true) | split

theorem State.tableReads_keeps (s : State) (ws : List ℕ) :
    Keeps 0x7E0002800000000000000000000000000000000000000000000000000000000000001010002000000C8 s (State.tableReads s ws).1 := by
  have h0 : Keeps 0x7E0002800000000000000000000000000000000000000000000000000000000000001010002000000C8 s s := Keeps.refl _ _
  unfold State.tableReads
  repeat' first | with_reducible assumption | apply Eq.refl | intro c | (with_reducible first | apply Keeps.step (State.tableRead_keeps ..) | apply Keeps.foldl | apply Keeps.foldl_fst) | extract_lets

theorem State.scrubOne_keeps (s : State) :
    Keeps 0x80 s (State.scrubOne s) := by
  have h0 : Keeps 0x80 s s := Keeps.refl _ _
  unfold State.scrubOne
  repeat' first | with_reducible assumption | apply Eq.refl | split | extract_lets | with_reducible apply Keeps.put_mem

theorem State.dropLines_keeps (s : State) (a : ℕ) (n : ℕ) :
    Keeps 0x8000000 s (State.dropLines s a n) := by
  have h0 : Keeps 0x8000000 s s := Keeps.refl _ _
  unfold State.dropLines
  repeat' first | (with_reducible first | assumption | apply Canon.saved | apply Canon.saving | apply Keeps.canon) | apply Eq.refl | intro c | extract_lets | with_reducible apply Keeps.put_flash

theorem State.flashTouched_keeps (s : State) (a : ℕ) (n : ℕ) :
    Keeps 0x200000000000000000000000000000000000000000000000000000000000000000000000000000000008000008 s (State.flashTouched s a n) := by
  have h0 : Keeps 0x200000000000000000000000000000000000000000000000000000000000000000000000000000000008000008 s s := Keeps.refl _ _
  unfold State.flashTouched
  repeat' first | with_reducible assumption | apply Eq.refl | intro c | (with_reducible first | apply State.set_keeps | apply Keeps.step (State.dropLines_keeps ..)) | ((with_reducible apply Has.fam (FLS_STAT_CONT_cls ..)); exact Eq.refl true)

theorem State.setPb_keeps (s : State) (a : ℕ) (v : ℕ) :
    Keeps 0x100000000001088 s (State.setPb s a v) := by
  have h0 : Keeps 0x100000000001088 s s := Keeps.refl _ _
  unfold State.setPb
  extract_lets x0
  have h1 : Keeps 0x100000000001088 s x0 := by unfold x0; repeat' first | with_reducible assumption | apply Eq.refl | with_reducible apply Keeps.step (State.wordWritten_keeps ..)
  try clear_value x0
  repeat' first | (with_reducible first | assumption | apply mwf_mset | apply Canon.pb | apply Keeps.canon) | apply Eq.refl | intro c | extract_lets | with_reducible apply Keeps.put_corr

theorem State.setMark_keeps (s : State) (pix : ℕ) (m : Mark) :
    Keeps 0x1000 s (State.setMark s pix m) := by
  have h0 : Keeps 0x1000 s s := Keeps.refl _ _
  unfold State.setMark
  repeat' first | (with_reducible first | assumption | apply mwf_mset | apply Canon.pb | apply Keeps.canon) | apply Eq.refl | intro c | extract_lets | with_reducible apply Keeps.put_corr

theorem State.corWrErr_keeps (s : State) :
    Keeps 0x100000000000000000000000000000000000008 s (State.corWrErr s) := by
  have h0 : Keeps 0x100000000000000000000000000000000000008 s s := Keeps.refl _ _
  unfold State.corWrErr
  repeat' first | with_reducible assumption | apply Eq.refl | intro c | with_reducible apply State.set_keeps | ((with_reducible apply Has.fam (COR_STAT_WRERR_cls ..)); exact Eq.refl true)

theorem State.recordErrs_keeps (s : State) (n : ℕ) (i : ℕ) :
    Keeps 0x1010002000000C8 s (State.recordErrs s n i).1 := by
  have h0 : Keeps 0x1010002000000C8 s s := Keeps.refl _ _
  unfold State.recordErrs
  repeat' first | with_reducible assumption | apply Eq.refl | intro c | (with_reducible first | apply Keeps.step (State.touch_keeps ..) | apply Keeps.step (State.memCE_keeps ..) | apply Keeps.foldl | apply Keeps.foldl_fst) | split | extract_lets

theorem State.readRecord_keeps (s : State) (n : ℕ) (i : ℕ) (blind : Bool) :
    Keeps 0x7E0000800000000000000000000000000000000004000000000000000000000000001010002000010C8 s (State.readRecord s n i blind).1 := by
  have h0 : Keeps 0x7E0000800000000000000000000000000000000004000000000000000000000000001010002000010C8 s s := Keeps.refl _ _
  unfold State.readRecord
  extract_lets _ _ x2 x3 _ x5
  have h3 : Keeps 0x7E0000800000000000000000000000000000000004000000000000000000000000001010002000010C8 s x2.1 := by unfold x2; repeat' first | with_reducible assumption | apply Eq.refl | with_reducible apply Keeps.step (State.recordErrs_keeps ..)
  try clear_value x2
  have h4 : Keeps 0x7E0000800000000000000000000000000000000004000000000000000000000000001010002000010C8 s x3 := by unfold x3; repeat' first | with_reducible assumption
  try clear_value x3
  have h6 : Keeps 0x7E0000800000000000000000000000000000000004000000000000000000000000001010002000010C8 s x5 := by unfold x5; repeat' first | with_reducible assumption | apply Eq.refl | (with_reducible first | apply Keeps.step (State.setMark_keeps ..) | apply Keeps.step (State.setPb_keeps ..) | apply Keeps.ite) | split
  try clear_value x5
  repeat' first | with_reducible assumption | apply Eq.refl | intro c | (with_reducible first | apply State.bump_keeps | apply Keeps.step (State.memUE_keeps ..) | apply Keeps.step (State.setMark_keeps ..) | apply Keeps.step (State.setPb_keeps ..) | apply Keeps.ite) | ((with_reducible apply Has.fam (COR_ECCBAD_COUNT_cls ..)); exact Eq.refl true) | split | extract_lets

theorem State.correctSample_keeps (s : State) (c : FrameCtx) (n : ℕ) (h : Header) (k : ℕ) (w : ℕ) :
    Keeps 0x7E000080000000000000000000000000000000000C000000000000000000000000001010002000010D8 s (State.correctSample s c n h k w).1 := by
  have h0 : Keeps 0x7E000080000000000000000000000000000000000C000000000000000000000000001010002000010D8 s s := Keeps.refl _ _
  unfold State.correctSample
  extract_lets _ x1 x2 _ _ _ x6
  have h2 : Keeps 0x7E000080000000000000000000000000000000000C000000000000000000000000001010002000010D8 s x1.1 := by unfold x1; repeat' first | with_reducible assumption | apply Eq.refl | with_reducible apply Keeps.step (State.readRecord_keeps ..)
  try clear_value x1
  have h3 : Keeps 0x7E000080000000000000000000000000000000000C000000000000000000000000001010002000010D8 s x2 := by unfold x2; repeat' first | with_reducible assumption
  try clear_value x2
  have h7 : Keeps 0x7E000080000000000000000000000000000000000C000000000000000000000000001010002000010D8 s x6.2 := by unfold x6; repeat' first | with_reducible assumption | apply Eq.refl | with_reducible apply Keeps.step (State.draw_keeps ..)
  try clear_value x6
  repeat' first | with_reducible assumption | apply Eq.refl | intro c | (with_reducible first | apply State.bump_keeps | apply Keeps.ite) | ((with_reducible apply Has.fam (COR_CLIPCNT_COUNT_cls ..)); exact Eq.refl true) | split | extract_lets

theorem State.correctWords_keeps (c : FrameCtx) (n : Nat) (h : Header) (s : State) (k : Nat) (l : List Nat) :
    Keeps 0x7E000080000000000000000000000000000000000C000000000000000000000000001010002000010D8 s (State.correctWords c n h s k l).1 := by
  induction l generalizing s k with
  | nil => exact Keeps.refl _ _
  | cons w r ih => exact Keeps.comp (ih _ _) (by decide) (Keeps.comp (State.correctSample_keeps ..) (by decide) (Keeps.refl _ _))

theorem State.correctGroup_keeps (s : State) (c : FrameCtx) (n : ℕ) (g : RowGroup) :
    Keeps 0x7E000080000000000000000000000000000000000C000000000000000000000000001010002000010D8 s (State.correctGroup s c n g).1 := by
  have h0 : Keeps 0x7E000080000000000000000000000000000000000C000000000000000000000000001010002000010D8 s s := Keeps.refl _ _
  unfold State.correctGroup
  repeat' first | with_reducible assumption | apply Eq.refl | with_reducible apply Keeps.step (State.correctWords_keeps ..)

theorem State.pbHostWrite_keeps (s : State) (a : ℕ) (v : ℕ) :
    Keeps 0x100000000000000000000000100000000001088 s (State.pbHostWrite s a v).1 := by
  have h0 : Keeps 0x100000000000000000000000100000000001088 s s := Keeps.refl _ _
  unfold State.pbHostWrite
  extract_lets _ _ _ _ x4
  have h5 : Keeps 0x100000000000000000000000100000000001088 s x4 := by unfold x4; repeat' first | with_reducible assumption | apply Eq.refl | (with_reducible first | apply Keeps.step (State.setMark_keeps ..) | apply Keeps.ite) | split
  try clear_value x4
  repeat' first | with_reducible assumption | apply Eq.refl | (with_reducible first | apply Keeps.step (State.setPb_keeps ..) | apply Keeps.step (State.corWrErr_keeps ..) | apply Keeps.ite) | split | extract_lets

theorem State.corV0W_keeps (s : State) (v : Word) :
    Keeps 0x500000000000000000000000000000000000008 s (State.corV0W s v) := by
  have h0 : Keeps 0x500000000000000000000000000000000000008 s s := Keeps.refl _ _
  unfold State.corV0W
  repeat' first | with_reducible assumption | apply Eq.refl | intro c | (with_reducible first | apply Keeps.step (State.corWrErr_keeps ..) | apply State.set_keeps | apply Keeps.ite) | ((with_reducible apply Has.fam (COR_V0_V0_cls ..)); exact Eq.refl true) | split

theorem State.corTrefW_keeps {m : Nat} {a s : State} {f : Fld} {v : Word} (h : Keeps m a s) (hf : Has m f)
    (hm : 0x100000000000000000000000000000000000008 &&& m = 0x100000000000000000000000000000000000008) : Keeps m a (s.corTrefW f v) := by
  unfold State.corTrefW
  split
  · exact Keeps.comp (State.corWrErr_keeps ..) hm h
  · exact Keeps.set h hf

theorem State.askFlip_keeps (s : State) (n : ℕ) :
    Keeps 0x1000000000000000000000000000000000001408 s (State.askFlip s n) := by
  have h0 : Keeps 0x1000000000000000000000000000000000001408 s s := Keeps.refl _ _
  unfold State.askFlip
  extract_lets _ x1
  have h2 : Keeps 0x1000000000000000000000000000000000001408 s x1 := by unfold x1; repeat' first | with_reducible assumption | apply Eq.refl | (with_reducible first | apply Keeps.step (State.tieTrims_keeps ..) | apply Keeps.ite) | split
  try clear_value x1
  repeat' first | (with_reducible first | assumption | apply mwf_mset | apply Canon.pb | apply Keeps.canon) | apply Eq.refl | intro c | with_reducible apply State.setBit_keeps | ((with_reducible apply Has.fam (COR_OFLIP_FLIP_cls ..)); exact Eq.refl true) | split | extract_lets | with_reducible apply Keeps.put_corr

theorem State.flipTile_keeps (s : State) (n : ℕ) :
    Keeps 0x1800000000000000000000000000000000001008 s (State.flipTile s n) := by
  have h0 : Keeps 0x1800000000000000000000000000000000001008 s s := Keeps.refl _ _
  unfold State.flipTile
  extract_lets x0
  have h1 : Keeps 0x1800000000000000000000000000000000001008 s x0 := by unfold x0; repeat' first | with_reducible assumption | apply Eq.refl | intro c | with_reducible apply State.set_keeps | ((with_reducible apply Has.fam (COR_OSEL_ACT_cls ..)); exact Eq.refl true)
  try clear_value x0
  repeat' first | (with_reducible first | assumption | apply mwf_mset | apply Canon.pb | apply Keeps.canon) | apply Eq.refl | intro c | with_reducible apply State.clrBit_keeps | ((with_reducible apply Has.fam (COR_OFLIP_FLIP_cls ..)); exact Eq.refl true) | extract_lets | with_reducible apply Keeps.put_corr

theorem State.corOflipW_keeps (s : State) (v : Word) :
    Keeps 0x1100000000000000000000000000000000001408 s (State.corOflipW s v) := by
  have h0 : Keeps 0x1100000000000000000000000000000000001408 s s := Keeps.refl _ _
  unfold State.corOflipW
  repeat' first | with_reducible assumption | apply Eq.refl | intro c | (with_reducible first | apply Keeps.step (State.corWrErr_keeps ..) | apply Keeps.step (State.askFlip_keeps ..) | apply Keeps.ite | apply Keeps.foldl) | split

theorem State.blendStart_keeps (s : State) :
    Keeps 0x8000000000000000000000000000000000001008 s (State.blendStart s) := by
  have h0 : Keeps 0x8000000000000000000000000000000000001008 s s := Keeps.refl _ _
  unfold State.blendStart
  repeat' first | (with_reducible first | assumption | apply mwf_mset | apply Canon.pb | apply Keeps.canon) | apply Eq.refl | intro c | with_reducible apply State.set_keeps | ((with_reducible apply Has.fam (COR_BLEND_BUSY_cls ..)); exact Eq.refl true) | extract_lets | with_reducible apply Keeps.put_corr

theorem State.blendEnd_keeps (s : State) :
    Keeps 0xC030000000000000000000000000000000001008 s (State.blendEnd s) := by
  have h0 : Keeps 0xC030000000000000000000000000000000001008 s s := Keeps.refl _ _
  unfold State.blendEnd
  repeat' first | (with_reducible first | assumption | apply mwf_mset | apply Canon.pb | apply Keeps.canon) | apply Eq.refl | intro c | with_reducible apply State.set_keeps | ((with_reducible apply Has.fam (COR_STAT_REVERSING_cls ..)); exact Eq.refl true) | ((with_reducible apply Has.fam (COR_STAT_BLENDING_cls ..)); exact Eq.refl true) | ((with_reducible apply Has.fam (COR_BLEND_K_cls ..)); exact Eq.refl true) | ((with_reducible apply Has.fam (COR_BLEND_BUSY_cls ..)); exact Eq.refl true) | extract_lets | with_reducible apply Keeps.put_corr

theorem State.blendAbort_keeps (s : State) :
    Keeps 0xC030000000000000000000000000000000001008 s (State.blendAbort s) := by
  have h0 : Keeps 0xC030000000000000000000000000000000001008 s s := Keeps.refl _ _
  unfold State.blendAbort
  repeat' first | (with_reducible first | assumption | apply mwf_mset | apply Canon.pb | apply Keeps.canon) | apply Eq.refl | intro c | (with_reducible first | apply Keeps.step (State.blendEnd_keeps ..) | apply State.set_keeps) | ((with_reducible apply Has.fam (COR_STAT_REVERSING_cls ..)); exact Eq.refl true) | ((with_reducible apply Has.fam (COR_STAT_BLENDING_cls ..)); exact Eq.refl true) | split | extract_lets | with_reducible apply Keeps.put_corr

theorem State.corBlendStartW_keeps (s : State) (n : ℕ) :
    Keeps 0xA100000000000000000000000000000000001008 s (State.corBlendStartW s n) := by
  have h0 : Keeps 0xA100000000000000000000000000000000001008 s s := Keeps.refl _ _
  unfold State.corBlendStartW
  repeat' first | with_reducible assumption | apply Eq.refl | intro c | (with_reducible first | apply Keeps.step (State.corWrErr_keeps ..) | apply Keeps.step (State.blendStart_keeps ..) | apply State.set_keeps | apply Keeps.ite) | ((with_reducible apply Has.fam (COR_BLEND_FRAMES_cls ..)); exact Eq.refl true) | split

theorem State.corBlendAbortW_keeps (s : State) :
    Keeps 0xC130000000000000000000000000000000001008 s (State.corBlendAbortW s) := by
  have h0 : Keeps 0xC130000000000000000000000000000000001008 s s := Keeps.refl _ _
  unfold State.corBlendAbortW
  repeat' first | with_reducible assumption | apply Eq.refl | (with_reducible first | apply Keeps.step (State.corWrErr_keeps ..) | apply Keeps.step (State.blendAbort_keeps ..) | apply Keeps.ite) | split

theorem State.blendStep_keeps (s : State) :
    Keeps 0xD830000000000000000000000000000000001008 s (State.blendStep s).1 := by
  have h0 : Keeps 0xD830000000000000000000000000000000001008 s s := Keeps.refl _ _
  unfold State.blendStep
  repeat' first | (with_reducible first | assumption | apply mwf_mset | apply Canon.pb | apply Keeps.canon) | apply Eq.refl | intro c | (with_reducible first | apply State.set_keeps | apply Keeps.step (State.blendEnd_keeps ..) | apply Keeps.step (State.blendEnd_keeps ..) | apply Keeps.step (State.flipTile_keeps ..) | apply Keeps.ite | apply Keeps.foldl | apply Keeps.foldl_fst) | ((with_reducible apply Has.fam (COR_STAT_BLENDING_cls ..)); exact Eq.refl true) | ((with_reducible apply Has.fam (COR_BLEND_K_cls ..)); exact Eq.refl true) | split | extract_lets | with_reducible apply Keeps.put_corr

theorem State.flipStep_keeps (s : State) :
    Keeps 0x1800000000000000000000000000000000001008 s (State.flipStep s) := by
  have h0 : Keeps 0x1800000000000000000000000000000000001008 s s := Keeps.refl _ _
  unfold State.flipStep
  repeat' first | with_reducible assumption | apply Eq.refl | intro c | (with_reducible first | apply Keeps.step (State.flipTile_keeps ..) | apply Keeps.ite | apply Keeps.foldl) | split

theorem State.laneStep_keeps (s : State) :
    Keeps 0x3002000000000000000000000001000082000000C8 s (State.laneStep s).1 := by
  have h0 : Keeps 0x3002000000000000000000000001000082000000C8 s s := Keeps.refl _ _
  unfold State.laneStep
  extract_lets _ _ _ _ _ x5 x6
  have h6 : Keeps 0x3002000000000000000000000001000082000000C8 s x5 := by unfold x5; repeat' first | with_reducible assumption | apply Eq.refl | intro c | (with_reducible first | apply Keeps.step (State.raise_keeps ..) | apply State.set_keeps | apply Keeps.ite | apply Keeps.foldl | apply Keeps.foldl_fst) | ((with_reducible apply Has.fam (COR_STAT_LANECHG_cls ..)); exact Eq.refl true) | ((with_reducible apply Has.fam (COR_LANEBAD_BAD_cls ..)); exact Eq.refl true) | split | extract_lets
  try clear_value x5
  have h7 : Keeps 0x3002000000000000000000000001000082000000C8 s x6 := by unfold x6; repeat' first | with_reducible assumption | apply Eq.refl | intro c | with_reducible apply State.set_keeps | ((with_reducible apply Has.fam (COR_BADCNT_LANES_cls ..)); exact Eq.refl true) | ((with_reducible apply Has.fam (COR_BADCNT_PIXELS_cls ..)); exact Eq.refl true)
  try clear_value x6
  repeat' first | with_reducible assumption | extract_lets

theorem State.laneXW_keeps (s : State) (j : ℕ) (v : Word) :
    Keeps 0x8000000008 s (State.laneXW s j v) := by
  have h0 : Keeps 0x8000000008 s s := Keeps.refl _ _
  unfold State.laneXW
  repeat' first | with_reducible assumption | apply Eq.refl | intro c | (with_reducible first | apply State.set_keeps | apply Keeps.ite) | ((with_reducible apply Has.fam (COR_LANEX_EXCL_cls ..)); exact Eq.refl true) | split

theorem State.dtStep_keeps (s : State) :
    Keeps 0xC00C00000000000000000000001000002000010C8 s (State.dtStep s) := by
  have h0 : Keeps 0xC00C00000000000000000000001000002000010C8 s s := Keeps.refl _ _
  unfold State.dtStep
  extract_lets _ _ x2 x3 x4 x5
  have h3 : Keeps 0xC00C00000000000000000000001000002000010C8 s x2 := by unfold x2; repeat' first | with_reducible assumption | apply Eq.refl | intro c | (with_reducible first | apply State.setB_keeps | apply State.setS_keeps) | ((with_reducible apply Has.fam (COR_DT_CLAMP_cls ..)); exact Eq.refl true) | ((with_reducible apply Has.fam (COR_DT_DT_cls ..)); exact Eq.refl true)
  try clear_value x2
  have h4 : Keeps 0xC00C00000000000000000000001000002000010C8 s x3 := by unfold x3; repeat' first | with_reducible assumption | apply Eq.refl | intro c | with_reducible apply State.setB_keeps | ((with_reducible apply Has.fam (COR_STAT_DTCLAMP_cls ..)); exact Eq.refl true)
  try clear_value x3
  have h5 : Keeps 0xC00C00000000000000000000001000002000010C8 s x4 := by unfold x4; repeat' first | with_reducible assumption | apply Eq.refl | intro c | (with_reducible first | apply State.set_keeps | apply Keeps.ite) | ((with_reducible apply Has.fam (COR_STAT_DTCLAMPED_cls ..)); exact Eq.refl true) | split
  try clear_value x4
  have h6 : Keeps 0xC00C00000000000000000000001000002000010C8 s x5 := by unfold x5; repeat' first | with_reducible assumption | apply Eq.refl | (with_reducible first | apply Keeps.step (State.raise_keeps ..) | apply Keeps.ite) | split
  try clear_value x5
  repeat' first | (with_reducible first | assumption | apply mwf_mset | apply Canon.pb | apply Keeps.canon) | apply Eq.refl | intro c | extract_lets | with_reducible apply Keeps.put_corr

theorem State.stageFld_keeps {m : Nat} {a s : State} {f : Fld} {v : Nat} (h : Keeps m a s) (hf : Has m f)
    (hm : m.testBit 18 = true) : Keeps m a (s.stageFld f v) := Keeps.put_live (Keeps.set h hf) hm

theorem State.setForce_keeps {m : Nat} {a s : State} {f : Fld} {v : Nat} (h : Keeps m a s) (hf : Has m f)
    (hm : m.testBit 18 = true) : Keeps m a (s.setForce f v) := Keeps.put_live (Keeps.set h hf) hm

theorem State.applyLive_keeps (s : State) (fs : List Fld) :
    Keeps 0x40000 s (State.applyLive s fs) := by
  have h0 : Keeps 0x40000 s s := Keeps.refl _ _
  unfold State.applyLive
  repeat' first | with_reducible assumption | apply Eq.refl | extract_lets | with_reducible apply Keeps.put_live

theorem State.chainMsg_keeps {m : Nat} {a s : State} {crc : Bool} {f : State → State} (h : Keeps m a s)
    (hm : hasBit m Reg.CHN_LINKERRCNT_COUNT = true) (hf : ∀ y, Keeps m a y → Keeps m a (f y)) :
    Keeps m a (s.chainMsg crc f) := by
  unfold State.chainMsg
  split
  · exact hf _ h
  · split
    · exact h
    · exact bumpK h hm

theorem State.takeGrant_keeps (s : State) (boundary : ℕ) :
    Keeps 0x2000 s (State.takeGrant s boundary) := by
  have h0 : Keeps 0x2000 s s := Keeps.refl _ _
  unfold State.takeGrant
  repeat' first | with_reducible assumption | apply Eq.refl | with_reducible apply Keeps.ite | split | extract_lets | with_reducible apply Keeps.put_cal

theorem State.grantShow_keeps (s : State) :
    Keeps 0xE0000000000000000000000000000000000000000000000000000000000000000000000000000000000000000000000000000008 s (State.grantShow s) := by
  have h0 : Keeps 0xE0000000000000000000000000000000000000000000000000000000000000000000000000000000000000000000000000000008 s s := Keeps.refl _ _
  unfold State.grantShow
  repeat' first | with_reducible assumption | apply Eq.refl | intro c | (with_reducible first | apply State.set_keeps | apply State.setB_keeps) | ((with_reducible apply Has.fam (CHN_GRANTSTAT_QUEUE_cls ..)); exact Eq.refl true) | ((with_reducible apply Has.fam (CHN_GRANTSTAT_HELD_cls ..)); exact Eq.refl true) | ((with_reducible apply Has.fam (CHN_GRANTSTAT_HOLDER_cls ..)); exact Eq.refl true) | extract_lets

theorem State.grantPump_keeps (s : State) :
    Keeps 0xE0000000000000000000000000000000000000000000000000000000000000000000000000000000000000000000000080802008 s (State.grantPump s) := by
  have h0 : Keeps 0xE0000000000000000000000000000000000000000000000000000000000000000000000000000000000000000000000080802008 s s := Keeps.refl _ _
  unfold State.grantPump
  repeat' first | with_reducible assumption | apply Eq.refl | (with_reducible first | apply Keeps.step (State.grantShow_keeps ..) | apply Keeps.step (State.takeGrant_keeps ..) | apply Keeps.step (State.emit_keeps ..) | apply Keeps.ite) | split | extract_lets | with_reducible apply Keeps.put_chain

theorem State.queueGrant_keeps (s : State) (i : ℕ) (stamp : ℕ) :
    Keeps 0xE0000000000000000000000000000000000000000000000000000000000000000000000000000000000000000000000080802008 s (State.queueGrant s i stamp) := by
  have h0 : Keeps 0xE0000000000000000000000000000000000000000000000000000000000000000000000000000000000000000000000080802008 s s := Keeps.refl _ _
  unfold State.queueGrant
  repeat' first | with_reducible assumption | apply Eq.refl | with_reducible apply Keeps.step (State.grantPump_keeps ..) | extract_lets | with_reducible apply Keeps.put_chain

theorem State.endGrant_keeps (s : State) (i : ℕ) :
    Keeps 0xE0000000000000000000000000000000000000000000000000000000000000000000000000000000000000000000000080802008 s (State.endGrant s i) := by
  have h0 : Keeps 0xE0000000000000000000000000000000000000000000000000000000000000000000000000000000000000000000000080802008 s s := Keeps.refl _ _
  unfold State.endGrant
  repeat' first | with_reducible assumption | apply Eq.refl | (with_reducible first | apply Keeps.step (State.grantPump_keeps ..) | apply Keeps.ite) | split | extract_lets | with_reducible apply Keeps.put_chain

theorem State.askGrant_keeps (s : State) :
    Keeps 0xE0000000000000000000000000000000000000000000000000000000000000000000000000000000000000000000000080802008 s (State.askGrant s) := by
  have h0 : Keeps 0xE0000000000000000000000000000000000000000000000000000000000000000000000000000000000000000000000080802008 s s := Keeps.refl _ _
  unfold State.askGrant
  extract_lets _ x1
  have h2 : Keeps 0xE0000000000000000000000000000000000000000000000000000000000000000000000000000000000000000000000080802008 s x1 := by unfold x1; repeat' first | with_reducible assumption | apply Eq.refl | with_reducible apply Keeps.put_chain
  try clear_value x1
  repeat' first | with_reducible assumption | apply Eq.refl | (with_reducible first | apply Keeps.step (State.queueGrant_keeps ..) | apply Keeps.step (State.emit_keeps ..) | apply Keeps.ite) | split | extract_lets | with_reducible apply Keeps.put_chain

theorem State.dropGrant_keeps (s : State) :
    Keeps 0xE0000000000000000000000000000000000000000000000000000000000000000000000000000000000000000000000080802008 s (State.dropGrant s) := by
  have h0 : Keeps 0xE0000000000000000000000000000000000000000000000000000000000000000000000000000000000000000000000080802008 s s := Keeps.refl _ _
  unfold State.dropGrant
  extract_lets _ x1
  have h2 : Keeps 0xE0000000000000000000000000000000000000000000000000000000000000000000000000000000000000000000000080802008 s x1 := by unfold x1; repeat' first | with_reducible assumption | apply Eq.refl | with_reducible apply Keeps.put_chain
  try clear_value x1
  repeat' first | with_reducible assumption | apply Eq.refl | (with_reducible first | apply Keeps.step (State.endGrant_keeps ..) | apply Keeps.step (State.emit_keeps ..) | apply Keeps.ite) | split | extract_lets | with_reducible apply Keeps.put_chain

theorem State.coefRead_keeps (s : State) (tau : ℕ) :
    Keeps 0x7E0002800000000000000000000000000000000000000000000000000000000000001010002000000C8 s (State.coefRead s tau).1 := by
  have h0 : Keeps 0x7E0002800000000000000000000000000000000000000000000000000000000000001010002000000C8 s s := Keeps.refl _ _
  unfold State.coefRead
  repeat' first | with_reducible assumption | apply Eq.refl | with_reducible apply Keeps.step (State.tableRead_keeps ..)

theorem State.unlaySample_keeps (s : State) (c : FrameCtx) (h : Header) (pix : ℕ) (y : Samp) :
    Keeps 0x7E000280000000000000000000C000000000000000000000000000000000000000001010002000800D8 s (State.unlaySample s c h pix y).1 := by
  have h0 : Keeps 0x7E000280000000000000000000C000000000000000000000000000000000000000001010002000800D8 s s := Keeps.refl _ _
  unfold State.unlaySample
  extract_lets x0 x1 _ _ _ x5 x6 x7 _ _ _ _ _ _ x14 x15 x16 _ _ x19
  have h1 : Keeps 0x7E000280000000000000000000C000000000000000000000000000000000000000001010002000800D8 s x0.1 := by unfold x0; repeat' first | with_reducible assumption | apply Eq.refl | with_reducible apply Keeps.step (State.memRead_keeps ..)
  try clear_value x0
  have h2 : Keeps 0x7E000280000000000000000000C000000000000000000000000000000000000000001010002000800D8 s x1 := by unfold x1; repeat' first | with_reducible assumption
  try clear_value x1
  have h6 : Keeps 0x7E000280000000000000000000C000000000000000000000000000000000000000001010002000800D8 s x5 := by unfold x5; repeat' first | (with_reducible first | assumption | apply mwf_mset | apply Canon.ub | apply Keeps.canon) | apply Eq.refl | intro c | with_reducible apply Keeps.put_braid
  try clear_value x5
  have h7 : Keeps 0x7E000280000000000000000000C000000000000000000000000000000000000000001010002000800D8 s x6 := by unfold x6; repeat' first | with_reducible assumption | apply Eq.refl | with_reducible apply Keeps.step (State.wordWritten_keeps ..)
  try clear_value x6
  have h8 : Keeps 0x7E000280000000000000000000C000000000000000000000000000000000000000001010002000800D8 s x7 := by unfold x7; repeat' first | with_reducible assumption | apply Eq.refl | intro c | (with_reducible first | apply State.bump_keeps | apply Keeps.ite) | ((with_reducible apply Has.fam (BRD_UNLRST_COUNT_cls ..)); exact Eq.refl true) | split
  try clear_value x7
  have h15 : Keeps 0x7E000280000000000000000000C000000000000000000000000000000000000000001010002000800D8 s x14.1 := by unfold x14; repeat' first | with_reducible assumption | apply Eq.refl | (with_reducible first | apply Keeps.step (State.coefRead_keeps ..) | apply Keeps.ite) | split
  try clear_value x14
  have h16 : Keeps 0x7E000280000000000000000000C000000000000000000000000000000000000000001010002000800D8 s x15.2 := by unfold x15; repeat' first | with_reducible assumption | apply Eq.refl | (with_reducible first | apply Keeps.step (State.draw_keeps ..) | apply Keeps.ite) | split
  try clear_value x15
  have h17 : Keeps 0x7E000280000000000000000000C000000000000000000000000000000000000000001010002000800D8 s x16 := by unfold x16; repeat' first | with_reducible assumption
  try clear_value x16
  have h20 : Keeps 0x7E000280000000000000000000C000000000000000000000000000000000000000001010002000800D8 s x19 := by unfold x19; repeat' first | with_reducible assumption | apply Eq.refl | intro c | (with_reducible first | apply State.bump_keeps | apply Keeps.ite) | ((with_reducible apply Has.fam (BRD_UCLIPCNT_COUNT_cls ..)); exact Eq.refl true) | split
  try clear_value x19
  repeat' first | with_reducible assumption | extract_lets

theorem State.unlayGroup_keeps (c : FrameCtx) (h : Header) (s : State) (k : Nat) (l : List Samp) :
    Keeps 0x7E000280000000000000000000C000000000000000000000000000000000000000001010002000800D8 s (State.unlayGroup c h s k l).1 := by
  induction l generalizing s k with
  | nil => exact Keeps.refl _ _
  | cons w r ih => exact Keeps.comp (ih _ _) (by decide) (Keeps.comp (State.unlaySample_keeps ..) (by decide) (Keeps.refl _ _))

theorem State.brdCfgErr_keeps {m : Nat} {a s : State} {f : Fld} (h : Keeps m a s) (hf : Has m f)
    (hm : 0x1000002000000C8 &&& m = 0x1000002000000C8) : Keeps m a (s.brdCfgErr f) :=
  Keeps.comp (State.raise_keeps ..) hm (Keeps.set h hf)

theorem State.brdWrErr_keeps (s : State) :
    Keeps 0x400000000000000000000000000000000000000000000000008 s (State.brdWrErr s) := by
  have h0 : Keeps 0x400000000000000000000000000000000000000000000000008 s s := Keeps.refl _ _
  unfold State.brdWrErr
  repeat' first | with_reducible assumption | apply Eq.refl | intro c | with_reducible apply State.set_keeps | ((with_reducible apply Has.fam (BRD_STAT_WRERR_cls ..)); exact Eq.refl true)

theorem State.autoSet_keeps (s : State) (inp : List ℕ) (trunc : Bool) :
    Keeps 0xA000000000000000000000000000000000001000002000000C8 s (State.autoSet s inp trunc).1 := by
  have h0 : Keeps 0xA000000000000000000000000000000000001000002000000C8 s s := Keeps.refl _ _
  unfold State.autoSet
  extract_lets x0 x1
  try clear_value x0
  try clear_value x1
  repeat' first | with_reducible assumption | apply Eq.refl | intro c | (with_reducible first | apply State.brdCfgErr_keeps | apply Keeps.ite) | ((with_reducible apply Has.fam (BRD_STAT_KRED_cls ..)); exact Eq.refl true) | ((with_reducible apply Has.fam (BRD_STAT_DEPTHERR_cls ..)); exact Eq.refl true) | split

theorem State.brdShow_keeps (s : State) :
    Keeps 0xAC000000000000000000000000000000000000000000020000000008 s (State.brdShow s) := by
  have h0 : Keeps 0xAC000000000000000000000000000000000000000000020000000008 s s := Keeps.refl _ _
  unfold State.brdShow
  extract_lets _ x1 x2 x3
  have h2 : Keeps 0xAC000000000000000000000000000000000000000000020000000008 s x1 := by unfold x1; repeat' first | with_reducible assumption | apply Eq.refl | intro c | (with_reducible first | apply State.set_keeps | apply State.setB_keeps | apply Keeps.ite | apply Keeps.foldl) | ((with_reducible apply Has.fam (BRD_HYP_SPEED_VCTR_cls ..)); exact Eq.refl true) | ((with_reducible apply Has.fam (BRD_HYP_SPEED_VROW0_cls ..)); exact Eq.refl true) | ((with_reducible apply Has.fam (BRD_HYP_HALFDT_DT_cls ..)); exact Eq.refl true) | ((with_reducible apply Has.fam (BRD_HYP_TAU63_TAU_cls ..)); exact Eq.refl true) | ((with_reducible apply Has.fam (BRD_HYP_DEPTH_TAG_cls ..)); exact Eq.refl true) | ((with_reducible apply Has.fam (BRD_HYP_DEPTH_USED_cls ..)); exact Eq.refl true) | ((with_reducible apply Has.fam (BRD_HYP_DEPTH_D_cls ..)); exact Eq.refl true) | split | extract_lets
  try clear_value x1
  have h3 : Keeps 0xAC000000000000000000000000000000000000000000020000000008 s x2 := by unfold x2; repeat' first | with_reducible assumption | apply Eq.refl | intro c | with_reducible apply State.set_keeps | ((with_reducible apply Has.fam (BRD_TSTAT_ACTGEN_cls ..)); exact Eq.refl true) | ((with_reducible apply Has.fam (BRD_HYPSET_REFK_cls ..)); exact Eq.refl true)
  try clear_value x2
  have h4 : Keeps 0xAC000000000000000000000000000000000000000000020000000008 s x3 := by unfold x3; repeat' first | with_reducible assumption | apply Eq.refl | intro c | with_reducible apply State.set_keeps | ((with_reducible apply Has.fam (BRD_TSTAT_DEPTHSUM_cls ..)); exact Eq.refl true)
  try clear_value x3
  repeat' first | with_reducible assumption | apply Eq.refl | intro c | with_reducible apply State.setB_keeps | ((with_reducible apply Has.fam (BRD_TSTAT_SHADFREE_cls ..)); exact Eq.refl true) | extract_lets

theorem State.askSwitch_keeps (s : State) (kk : ℕ) :
    Keeps 0x40000000000000000000000000000000000000000000000000080008 s (State.askSwitch s kk) := by
  have h0 : Keeps 0x40000000000000000000000000000000000000000000000000080008 s s := Keeps.refl _ _
  unfold State.askSwitch
  repeat' first | (with_reducible first | assumption | apply mwf_mset | apply Canon.ub | apply Keeps.canon) | apply Eq.refl | intro c | with_reducible apply State.set_keeps | ((with_reducible apply Has.fam (BRD_TSTAT_SWPEND_cls ..)); exact Eq.refl true) | extract_lets | with_reducible apply Keeps.put_braid

theorem State.shadowFresh_keeps (s : State) :
    Keeps 0x80 s (State.shadowFresh s) := by
  have h0 : Keeps 0x80 s s := Keeps.refl _ _
  unfold State.shadowFresh
  repeat' first | with_reducible assumption | apply Eq.refl | extract_lets | with_reducible apply Keeps.put_mem

theorem State.loadPump_keeps (s : State) :
    Keeps 0x40000000000000000000000000000000000000000000000000080088 s (State.loadPump s) := by
  have h0 : Keeps 0x40000000000000000000000000000000000000000000000000080088 s s := Keeps.refl _ _
  unfold State.loadPump
  extract_lets x0
  have h1 : Keeps 0x40000000000000000000000000000000000000000000000000080088 s x0 := by unfold x0; repeat' first | with_reducible assumption | apply Eq.refl | with_reducible apply Keeps.step (State.shadowFresh_keeps ..)
  try clear_value x0
  repeat' first | (with_reducible first | assumption | apply mwf_mset | apply Canon.ub | apply Keeps.canon) | apply Eq.refl | intro c | (with_reducible first | apply Keeps.step (State.askSwitch_keeps ..) | apply Keeps.ite) | split | extract_lets | with_reducible apply Keeps.put_braid

theorem State.giveSet_keeps (s : State) (ws : List (ℕ × ℕ)) (kk : ℕ) :
    Keeps 0x40000000000000000000000000000000000000000000000000080088 s (State.giveSet s ws kk) := by
  have h0 : Keeps 0x40000000000000000000000000000000000000000000000000080088 s s := Keeps.refl _ _
  unfold State.giveSet
  repeat' first | (with_reducible first | assumption | apply mwf_mset | apply Canon.ub | apply Keeps.canon) | apply Eq.refl | intro c | with_reducible apply Keeps.step (State.loadPump_keeps ..) | extract_lets | with_reducible apply Keeps.put_braid

theorem State.autoPump_keeps (s : State) :
    Keeps 0x40000A000000000000000000000000000000000001000002000800C8 s (State.autoPump s) := by
  have h0 : Keeps 0x40000A000000000000000000000000000000000001000002000800C8 s s := Keeps.refl _ _
  unfold State.autoPump
  extract_lets x0 _ x2
  have h1 : Keeps 0x40000A000000000000000000000000000000000001000002000800C8 s x0 := by unfold x0; repeat' first | with_reducible assumption | apply Eq.refl | with_reducible apply Keeps.step (State.loadPump_keeps ..)
  try clear_value x0
  have h3 : Keeps 0x40000A000000000000000000000000000000000001000002000800C8 s x2 := by unfold x2; repeat' first | (with_reducible first | assumption | apply mwf_mset | apply Canon.ub | apply Keeps.canon) | apply Eq.refl | intro c | with_reducible apply Keeps.put_braid
  try clear_value x2
  repeat' first | (with_reducible first | assumption | apply mwf_mset | apply Canon.ub | apply Keeps.canon) | apply Eq.refl | intro c | (with_reducible first | apply Keeps.step (State.autoSet_keeps ..) | apply Keeps.step (State.shadowFresh_keeps ..) | apply Keeps.step (State.askSwitch_keeps ..) | apply Keeps.ite) | split | extract_lets | with_reducible apply Keeps.put_braid

theorem State.install_keeps (s : State) (t : TSet) : Keeps 0xFC000000000000000000000000000000000000000000020000080088 s (s.install t) := by
  unfold State.install
  extract_lets old gen kept u1 u2 x
  have h : Keeps 0xFC000000000000000000000000000000000000000000020000080088 s x := by
    have h1 : Keeps 0xFC000000000000000000000000000000000000000000020000080088 s { s with mem := { s.mem with errs := s.mem.errs.map swapErr } } :=
      Keeps.put_mem (Keeps.refl _ _) rfl
    exact Keeps.put_braid h1 rfl fun c => c.ub
  exact Keeps.comp (State.brdShow_keeps ..) (by decide) (setK (setK h))

theorem State.applySwitch_keeps (s : State) (trunc : Bool) :
    Keeps 0xFC0018000000000000000000000000000000000001000202000800C8 s (State.applySwitch s trunc) := by
  have h0 : Keeps 0xFC0018000000000000000000000000000000000001000202000800C8 s s := Keeps.refl _ _
  unfold State.applySwitch
  repeat' first | (with_reducible first | assumption | apply mwf_mset | apply Canon.ub | apply Keeps.canon) | apply Eq.refl | intro c | (with_reducible first | apply State.brdCfgErr_keeps | apply State.set_keeps | apply Keeps.step (State.install_keeps ..) | apply Keeps.ite) | ((with_reducible apply Has.fam (BRD_STAT_ORDERR_cls ..)); exact Eq.refl true) | ((with_reducible apply Has.fam (BRD_TSTAT_SWPEND_cls ..)); exact Eq.refl true) | ((with_reducible apply Has.fam (BRD_STAT_DEPTHERR_cls ..)); exact Eq.refl true) | split | extract_lets | with_reducible apply Keeps.put_braid

theorem State.askTables_keeps (s : State) :
    Keeps 0x80000 s (State.askTables s) := by
  have h0 : Keeps 0x80000 s s := Keeps.refl _ _
  unfold State.askTables
  repeat' first | (with_reducible first | assumption | apply mwf_mset | apply Canon.ub | apply Keeps.canon) | apply Eq.refl | intro c | with_reducible apply Keeps.ite | split | extract_lets | with_reducible apply Keeps.put_braid

theorem State.brdParamW_keeps (s : State) (a : ℕ) (v : Word) :
    Keeps 0x3F00400000000000000000000000000000000000000000000080008 s (State.brdParamW s a v) := by
  have h0 : Keeps 0x3F00400000000000000000000000000000000000000000000080008 s s := Keeps.refl _ _
  unfold State.brdParamW
  repeat' first | with_reducible assumption | apply Eq.refl | intro c | (with_reducible first | apply Keeps.step (State.askTables_keeps ..) | apply State.set_keeps | apply Keeps.step (State.brdWrErr_keeps ..) | apply Keeps.ite) | ((with_reducible apply Has.fam (BRD_VNOM_V_cls ..)); exact Eq.refl true) | ((with_reducible apply Has.fam (BRD_GEOM_TILT_cls ..)); exact Eq.refl true) | ((with_reducible apply Has.fam (BRD_GEOM_PITCH_cls ..)); exact Eq.refl true) | ((with_reducible apply Has.fam (BRD_GRAV_G_cls ..)); exact Eq.refl true) | ((with_reducible apply Has.fam (BRD_HYPSET_SPACING_cls ..)); exact Eq.refl true) | ((with_reducible apply Has.fam (BRD_HYPSET_K_cls ..)); exact Eq.refl true) | split | extract_lets

theorem State.tablesDone_keeps (s : State) :
    Keeps 0x40000A000000000000000000000000000000000001000002000800C8 s (State.tablesDone s) := by
  have h0 : Keeps 0x40000A000000000000000000000000000000000001000002000800C8 s s := Keeps.refl _ _
  unfold State.tablesDone
  repeat' first | (with_reducible first | assumption | apply mwf_mset | apply Canon.ub | apply Keeps.canon) | apply Eq.refl | intro c | (with_reducible first | apply Keeps.step (State.autoPump_keeps ..) | apply Keeps.ite) | split | extract_lets | with_reducible apply Keeps.put_braid

theorem State.brdUnlayW_keeps (s : State) (v : Word) :
    Keeps 0xE0400000000000000000000000000000000000000000000040008 s (State.brdUnlayW s v) := by
  have h0 : Keeps 0xE0400000000000000000000000000000000000000000000040008 s s := Keeps.refl _ _
  unfold State.brdUnlayW
  repeat' first | with_reducible assumption | apply Eq.refl | intro c | (with_reducible first | apply Keeps.step (State.brdWrErr_keeps ..) | apply State.set_keeps | apply State.stageFld_keeps | apply Keeps.ite) | ((with_reducible apply Has.fam (BRD_UNLAY_PEND_cls ..)); exact Eq.refl true) | ((with_reducible apply Has.fam (BRD_UNLAY_BYPASS_cls ..)); exact Eq.refl true) | ((with_reducible apply Has.fam (BRD_UNLAY_BETA_cls ..)); exact Eq.refl true) | split

theorem State.brdSwitchW_keeps (s : State) (v : Word) :
    Keeps 0x140001C000000000000000000000000000000000001000002000800C8 s (State.brdSwitchW s v) := by
  have h0 : Keeps 0x140001C000000000000000000000000000000000001000002000800C8 s s := Keeps.refl _ _
  unfold State.brdSwitchW
  extract_lets x0
  have h1 : Keeps 0x140001C000000000000000000000000000000000001000002000800C8 s x0 := by unfold x0; repeat' first | with_reducible assumption | apply Eq.refl | intro c | with_reducible apply State.set_keeps | ((with_reducible apply Has.fam (BRD_TCMD_NEWK_cls ..)); exact Eq.refl true)
  try clear_value x0
  repeat' first | with_reducible assumption | apply Eq.refl | intro c | (with_reducible first | apply Keeps.step (State.brdWrErr_keeps ..) | apply State.brdCfgErr_keeps | apply Keeps.step (State.askSwitch_keeps ..) | apply Keeps.ite) | ((with_reducible apply Has.fam (BRD_STAT_ORDERR_cls ..)); exact Eq.refl true) | ((with_reducible apply Has.fam (BRD_STAT_DEPTHERR_cls ..)); exact Eq.refl true) | split | extract_lets

theorem State.brdRestartS_keeps (s : State) :
    Keeps 0x80000 s (State.brdRestartS s) := by
  have h0 : Keeps 0x80000 s s := Keeps.refl _ _
  unfold State.brdRestartS
  repeat' first | (with_reducible first | assumption | apply mwf_mset | apply Canon.ub | apply Keeps.canon) | apply Eq.refl | intro c | extract_lets | with_reducible apply Keeps.put_braid

theorem State.trackEval_keeps (s : State) :
    Keeps 0x1020000000000000000000000000000000000001000202000800C8 s (State.trackEval s) := by
  have h0 : Keeps 0x1020000000000000000000000000000000000001000202000800C8 s s := Keeps.refl _ _
  unfold State.trackEval
  extract_lets _ _ _ _ x4 _ _ _ x8
  have h5 : Keeps 0x1020000000000000000000000000000000000001000202000800C8 s x4 := by unfold x4; repeat' first | with_reducible assumption | apply Eq.refl | intro c | (with_reducible first | apply State.set_keeps | apply Keeps.foldl) | ((with_reducible apply Has.fam (BRD_HYPCNT_COUNT_cls ..)); exact Eq.refl true)
  try clear_value x4
  have h9 : Keeps 0x1020000000000000000000000000000000000001000202000800C8 s x8 := by unfold x8; repeat' first | with_reducible assumption | apply Eq.refl | intro c | (with_reducible first | apply Keeps.step (State.askTables_keeps ..) | apply State.set_keeps) | ((with_reducible apply Has.fam (BRD_VNOM_V_cls ..)); exact Eq.refl true)
  try clear_value x8
  repeat' first | with_reducible assumption | apply Eq.refl | intro c | (with_reducible first | apply Keeps.step (State.record_keeps ..) | apply Keeps.step (State.raise_keeps ..) | apply State.set_keeps | apply Keeps.ite) | ((with_reducible apply Has.fam (BRD_STAT_TRACKED_cls ..)); exact Eq.refl true) | split | extract_lets

theorem State.liveStep_keeps (s : State) :
    Keeps 0x90000000000000000000000000000000000000000000000040008 s (State.liveStep s) := by
  have h0 : Keeps 0x90000000000000000000000000000000000000000000000040008 s s := Keeps.refl _ _
  unfold State.liveStep
  extract_lets _ x1 x2 x3
  have h2 : Keeps 0x90000000000000000000000000000000000000000000000040008 s x1 := by unfold x1; repeat' first | with_reducible assumption | apply Eq.refl | intro c | with_reducible apply State.set_keeps | ((with_reducible apply Has.fam (BRD_STAT_UNLFR_cls ..)); exact Eq.refl true)
  try clear_value x1
  have h3 : Keeps 0x90000000000000000000000000000000000000000000000040008 s x2 := by unfold x2; repeat' first | with_reducible assumption | apply Eq.refl | with_reducible apply Keeps.step (State.applyLive_keeps ..)
  try clear_value x2
  have h4 : Keeps 0x90000000000000000000000000000000000000000000000040008 s x3 := by unfold x3; repeat' first | with_reducible assumption | apply Eq.refl | intro c | with_reducible apply State.setB_keeps | ((with_reducible apply Has.fam (BRD_UNLAY_PEND_cls ..)); exact Eq.refl true)
  try clear_value x3
  repeat' first | with_reducible assumption | apply Eq.refl | intro c | (with_reducible first | apply State.set_keeps | apply Keeps.ite) | ((with_reducible apply Has.fam (BRD_STAT_UNLFR_cls ..)); exact Eq.refl true) | split | extract_lets

theorem State.braidTruncate_keeps (s : State) (cause : ℕ) :
    Keeps 0x80000 s (State.braidTruncate s cause) := by
  have h0 : Keeps 0x80000 s s := Keeps.refl _ _
  unfold State.braidTruncate
  repeat' first | (with_reducible first | assumption | apply mwf_mset | apply Canon.ub | apply Keeps.canon) | apply Eq.refl | intro c | extract_lets | with_reducible apply Keeps.put_braid

theorem State.truncate_keeps (s : State) :
    Keeps 0x200008000000000000000000000000000000000000000000000080008 s (State.truncate s) := by
  have h0 : Keeps 0x200008000000000000000000000000000000000000000000000080008 s s := Keeps.refl _ _
  unfold State.truncate
  repeat' first | (with_reducible first | assumption | apply mwf_mset | apply Canon.ub | apply Keeps.canon) | apply Eq.refl | intro c | (with_reducible first | apply State.set_keeps | apply State.bumpBy_keeps | apply Keeps.foldl) | ((with_reducible apply Has.fam (BRD_STAT_PCAUSE_cls ..)); exact Eq.refl true) | ((with_reducible apply Has.fam (BRD_PARTCNT_COUNT_cls ..)); exact Eq.refl true) | split | extract_lets | with_reducible apply Keeps.put_braid

theorem State.startSlices_keeps (s : State) :
    Keeps 0x100000000000000000000000000000000000000000000080008 s (State.startSlices s) := by
  have h0 : Keeps 0x100000000000000000000000000000000000000000000080008 s s := Keeps.refl _ _
  unfold State.startSlices
  extract_lets _ _ x2 _ x4 _ _ _ x8
  have h3 : Keeps 0x100000000000000000000000000000000000000000000080008 s x2 := by unfold x2; repeat' first | with_reducible assumption | apply Eq.refl | intro c | with_reducible apply State.setB_keeps | ((with_reducible apply Has.fam (BRD_STAT_RUN_cls ..)); exact Eq.refl true)
  try clear_value x2
  have h5 : Keeps 0x100000000000000000000000000000000000000000000080008 s x4 := by unfold x4; repeat' first | (with_reducible first | assumption | apply mwf_mset | apply Canon.ub | apply Keeps.canon) | apply Eq.refl | intro c | with_reducible apply Keeps.ite | split | with_reducible apply Keeps.put_braid
  try clear_value x4
  have h9 : Keeps 0x100000000000000000000000000000000000000000000080008 s x8 := by unfold x8; repeat' first | (with_reducible first | assumption | apply mwf_mset | apply Canon.ub | apply Keeps.canon) | apply Eq.refl | intro c | with_reducible apply Keeps.put_braid
  try clear_value x8
  repeat' first | (with_reducible first | assumption | apply mwf_mset | apply Canon.ub | apply Keeps.canon) | apply Eq.refl | intro c | (with_reducible first | apply Keeps.ite | apply Keeps.foldl) | split | extract_lets | with_reducible apply Keeps.put_braid

theorem State.dipSlices_keeps (s : State) :
    Keeps 0x80000 s (State.dipSlices s) := by
  have h0 : Keeps 0x80000 s s := Keeps.refl _ _
  unfold State.dipSlices
  extract_lets _ _ x2
  have h3 : Keeps 0x80000 s x2 := by unfold x2; repeat' first | (with_reducible first | assumption | apply mwf_mset | apply Canon.ub | apply Keeps.canon) | apply Eq.refl | intro c | with_reducible apply Keeps.put_braid
  try clear_value x2
  repeat' first | (with_reducible first | assumption | apply mwf_mset | apply Canon.ub | apply Keeps.canon) | apply Eq.refl | intro c | with_reducible apply Keeps.ite | split | extract_lets | with_reducible apply Keeps.put_braid

theorem State.braidBoundary_keeps (s : State) (rateChg : Bool) :
    Keeps 0x2FC00DB000000000000000000000000000000000001000202000800C8 s (State.braidBoundary s rateChg) := by
  have h0 : Keeps 0x2FC00DB000000000000000000000000000000000001000202000800C8 s s := Keeps.refl _ _
  unfold State.braidBoundary
  extract_lets x0 _ _ x3 x4 _ x6 _ _ x9 x10 _ x12 _ _ x15 x16
  have h1 : Keeps 0x2FC00DB000000000000000000000000000000000001000202000800C8 s x0 := by unfold x0; repeat' first | (with_reducible first | assumption | apply mwf_filter) | apply Eq.refl | intro c | (with_reducible first | apply Keeps.step (State.braidTruncate_keeps ..) | apply Keeps.ite) | split
  try clear_value x0
  have h4 : Keeps 0x2FC00DB000000000000000000000000000000000001000202000800C8 s x3 := by unfold x3; repeat' first | (with_reducible first | assumption | apply mwf_filter | apply mwf_mset | apply Canon.ub | apply Keeps.canon) | apply Eq.refl | intro c | with_reducible apply Keeps.put_braid
  try clear_value x3
  have h5 : Keeps 0x2FC00DB000000000000000000000000000000000001000202000800C8 s x4 := by unfold x4; repeat' first | (with_reducible first | assumption | apply mwf_filter) | apply Eq.refl | intro c | (with_reducible first | apply Keeps.step (State.braidTruncate_keeps ..) | apply Keeps.ite) | split
  try clear_value x4
  have h7 : Keeps 0x2FC00DB000000000000000000000000000000000001000202000800C8 s x6 := by unfold x6; repeat' first | (with_reducible first | assumption | apply mwf_filter) | apply Eq.refl | intro c | with_reducible apply Keeps.step (State.truncate_keeps ..)
  try clear_value x6
  have h10 : Keeps 0x2FC00DB000000000000000000000000000000000001000202000800C8 s x9.1 := by unfold x9; repeat' first | (with_reducible first | assumption | apply mwf_filter) | apply Eq.refl | intro c | with_reducible apply Keeps.step (State.autoSet_keeps ..)
  try clear_value x9
  have h11 : Keeps 0x2FC00DB000000000000000000000000000000000001000202000800C8 s x10 := by unfold x10; repeat' first | (with_reducible first | assumption | apply mwf_filter) | intro c
  try clear_value x10
  have h13 : Keeps 0x2FC00DB000000000000000000000000000000000001000202000800C8 s x12 := by unfold x12; repeat' first | (with_reducible first | assumption | apply mwf_filter | apply mwf_mset | apply Canon.ub | apply Keeps.canon) | apply Eq.refl | intro c | with_reducible apply Keeps.put_braid
  try clear_value x12
  have h16 : Keeps 0x2FC00DB000000000000000000000000000000000001000202000800C8 s x15 := by unfold x15; repeat' first | (with_reducible first | assumption | apply mwf_filter | apply mwf_mset | apply Canon.ub | apply Keeps.canon) | apply Eq.refl | intro c | with_reducible apply State.set_keeps | ((with_reducible apply Has.fam (BRD_TSTAT_SWPEND_cls ..)); exact Eq.refl true) | with_reducible apply Keeps.put_braid
  try clear_value x15
  have h17 : Keeps 0x2FC00DB000000000000000000000000000000000001000202000800C8 s x16 := by unfold x16; repeat' first | (with_reducible first | assumption | apply mwf_filter) | apply Eq.refl | intro c | (with_reducible first | apply Keeps.step (State.install_keeps ..) | apply Keeps.step (State.raise_keeps ..) | apply State.set_keeps | apply Keeps.step (State.applySwitch_keeps ..) | apply Keeps.ite) | ((with_reducible apply Has.fam (BRD_STAT_LATE_cls ..)); exact Eq.refl true) | split
  try clear_value x16
  repeat' first | (with_reducible first | assumption | apply mwf_filter) | apply Eq.refl | intro c | (with_reducible first | apply Keeps.step (State.brdShow_keeps ..) | apply Keeps.step (State.autoPump_keeps ..) | apply Keeps.step (State.dipSlices_keeps ..) | apply Keeps.step (State.startSlices_keeps ..)) | extract_lets

theorem State.readLane_keeps (s : State) (x : Slice) (lane : ℕ) :
    Keeps 0x7E0000800000000000000000000000000000000000000000000000000000000000001010002000000C8 s (State.readLane s x lane).1 := by
  have h0 : Keeps 0x7E0000800000000000000000000000000000000000000000000000000000000000001010002000000C8 s s := Keeps.refl _ _
  unfold State.readLane
  extract_lets _ _ x2
  have h3 : Keeps 0x7E0000800000000000000000000000000000000000000000000000000000000000001010002000000C8 s x2.1 := by unfold x2; repeat' first | with_reducible assumption | apply Eq.refl | with_reducible apply Keeps.step (State.memRead_keeps ..)
  try clear_value x2
  repeat' first | with_reducible assumption | apply Eq.refl | (with_reducible first | apply Keeps.step (State.wordWritten_keeps ..) | apply Keeps.ite) | split | extract_lets

theorem State.pruneSets_keeps (s : State) :
    Keeps 0x80000 s (State.pruneSets s) := by
  have h0 : Keeps 0x80000 s s := Keeps.refl _ _
  unfold State.pruneSets
  repeat' first | (with_reducible first | assumption | apply mwf_mset | apply Canon.ub | apply Keeps.canon) | apply Eq.refl | intro c | extract_lets | with_reducible apply Keeps.put_braid

theorem State.braidSlice_keeps (s : State) (h : Header) (n : Nat) (us : List Unlayed) (x : Slice) :
    Keeps 0x7E0000800000000000000000000000000000000000000000000000000000000000001010002000000C8 s (s.braidSlice h n us x).1 := by
  unfold State.braidSlice
  extract_lets t shares takes
  clear_value takes
  split
  · refine Keeps.foldl_fst (Keeps.refl _ _) fun p k hp => ?_
    extract_lets share
    split
    · exact hp
    · split
      · exact Keeps.comp (State.wordWritten_keeps ..) (by decide) (Keeps.comp (State.readLane_keeps ..) (by decide) hp)
      · exact hp
  · exact Keeps.refl _ _

theorem State.braidGroup_keeps (s : State) (h : Header) (n : ℕ) (us : List Unlayed) :
    Keeps 0x7E0000800000000000000000000000000000000000000000000000000000000000001010002000800C8 s (State.braidGroup s h n us) := by
  have h0 : Keeps 0x7E0000800000000000000000000000000000000000000000000000000000000000001010002000800C8 s s := Keeps.refl _ _
  unfold State.braidGroup
  extract_lets x0 x1
  have h1 : Keeps 0x7E0000800000000000000000000000000000000000000000000000000000000000001010002000800C8 s x0.1 := by unfold x0; repeat' first | with_reducible assumption | apply Eq.refl | intro c | (with_reducible first | apply Keeps.step (State.braidSlice_keeps ..) | apply Keeps.foldl | apply Keeps.foldl_fst) | extract_lets
  try clear_value x0
  have h2 : Keeps 0x7E0000800000000000000000000000000000000000000000000000000000000000001010002000800C8 s x1 := by unfold x1; repeat' first | with_reducible assumption
  try clear_value x1
  repeat' first | (with_reducible first | assumption | apply mwf_mset | apply Canon.ub | apply Keeps.canon) | apply Eq.refl | intro c | extract_lets | with_reducible apply Keeps.put_braid

theorem State.refInit_keeps (s : State) (cs : List Cell) :
    Keeps 0x8000 s (State.refInit s cs) := by
  have h0 : Keeps 0x8000 s s := Keeps.refl _ _
  unfold State.refInit
  repeat' first | with_reducible assumption | apply Eq.refl | with_reducible apply Keeps.ite | split | extract_lets | with_reducible apply Keeps.put_trk

end Sys2Proof.Machine
end

