-- ==== Sys2Proof/Laws/State.lean ====
section
/-! SUPPORT. Reading State after each basic update: every register update is brought to `set`, and a field that an update
leaves alone reads as before. -/

namespace Sys2Proof.Machine

open Reg

/-! ### A register update leaves the rest of State -/

@[simp] theorem State.set_pending (s : State) (f : Fld) (v : Nat) : (s.set f v).pending = s.pending := rfl
@[simp] theorem State.set_fuses (s : State) (f : Fld) (v : Nat) : (s.set f v).fuses = s.fuses := rfl
@[simp] theorem State.set_time (s : State) (f : Fld) (v : Nat) : (s.set f v).time = s.time := rfl
@[simp] theorem State.set_free (s : State) (f : Fld) (v : Nat) : (s.set f v).free = s.free := rfl
@[simp] theorem State.set_power (s : State) (f : Fld) (v : Nat) : (s.set f v).power = s.power := rfl
@[simp] theorem State.set_evt (s : State) (f : Fld) (v : Nat) : (s.set f v).evt = s.evt := rfl
@[simp] theorem State.set_mem (s : State) (f : Fld) (v : Nat) : (s.set f v).mem = s.mem := rfl
@[simp] theorem State.set_wins (s : State) (f : Fld) (v : Nat) : (s.set f v).wins = s.wins := rfl
@[simp] theorem State.set_mbx (s : State) (f : Fld) (v : Nat) : (s.set f v).mbx = s.mbx := rfl
@[simp] theorem State.set_sensor (s : State) (f : Fld) (v : Nat) : (s.set f v).sensor = s.sensor := rfl
@[simp] theorem State.set_stage (s : State) (f : Fld) (v : Nat) : (s.set f v).stage = s.stage := rfl
@[simp] theorem State.set_corr (s : State) (f : Fld) (v : Nat) : (s.set f v).corr = s.corr := rfl
@[simp] theorem State.set_cal (s : State) (f : Fld) (v : Nat) : (s.set f v).cal = s.cal := rfl
@[simp] theorem State.set_gref (s : State) (f : Fld) (v : Nat) : (s.set f v).gref = s.gref := rfl
@[simp] theorem State.set_trk (s : State) (f : Fld) (v : Nat) : (s.set f v).trk = s.trk := rfl
@[simp] theorem State.set_tmx (s : State) (f : Fld) (v : Nat) : (s.set f v).tmx = s.tmx := rfl
@[simp] theorem State.set_loops (s : State) (f : Fld) (v : Nat) : (s.set f v).loops = s.loops := rfl
@[simp] theorem State.set_live (s : State) (f : Fld) (v : Nat) : (s.set f v).live = s.live := rfl
@[simp] theorem State.set_braid (s : State) (f : Fld) (v : Nat) : (s.set f v).braid = s.braid := rfl
@[simp] theorem State.set_knots (s : State) (f : Fld) (v : Nat) : (s.set f v).knots = s.knots := rfl
@[simp] theorem State.set_sched (s : State) (f : Fld) (v : Nat) : (s.set f v).sched = s.sched := rfl
@[simp] theorem State.set_valves (s : State) (f : Fld) (v : Nat) : (s.set f v).valves = s.valves := rfl
@[simp] theorem State.set_chain (s : State) (f : Fld) (v : Nat) : (s.set f v).chain = s.chain := rfl
@[simp] theorem State.set_baind (s : State) (f : Fld) (v : Nat) : (s.set f v).baind = s.baind := rfl
@[simp] theorem State.set_ssp (s : State) (f : Fld) (v : Nat) : (s.set f v).ssp = s.ssp := rfl
@[simp] theorem State.set_net (s : State) (f : Fld) (v : Nat) : (s.set f v).net = s.net := rfl
@[simp] theorem State.set_flash (s : State) (f : Fld) (v : Nat) : (s.set f v).flash = s.flash := rfl
@[simp] theorem State.set_tap (s : State) (f : Fld) (v : Nat) : (s.set f v).tap = s.tap := rfl
@[simp] theorem State.set_house (s : State) (f : Fld) (v : Nat) : (s.set f v).house = s.house := rfl
@[simp] theorem State.set_fb (s : State) (f : Fld) (v : Nat) : (s.set f v).fb = s.fb := rfl
@[simp] theorem State.set_bus (s : State) (f : Fld) (v : Nat) : (s.set f v).bus = s.bus := rfl
@[simp] theorem State.set_outs (s : State) (f : Fld) (v : Nat) : (s.set f v).outs = s.outs := rfl

/-! ### Fields read through an update of another part -/

@[simp] theorem State.get_with_pending (s : State) (v) (f : Fld) : State.get { s with pending := v } f = s.get f := rfl
@[simp] theorem State.get_with_fuses (s : State) (v) (f : Fld) : State.get { s with fuses := v } f = s.get f := rfl
@[simp] theorem State.get_with_time (s : State) (v) (f : Fld) : State.get { s with time := v } f = s.get f := rfl
@[simp] theorem State.get_with_free (s : State) (v) (f : Fld) : State.get { s with free := v } f = s.get f := rfl
@[simp] theorem State.get_with_power (s : State) (v) (f : Fld) : State.get { s with power := v } f = s.get f := rfl
@[simp] theorem State.get_with_evt (s : State) (v) (f : Fld) : State.get { s with evt := v } f = s.get f := rfl
@[simp] theorem State.get_with_mem (s : State) (v) (f : Fld) : State.get { s with mem := v } f = s.get f := rfl
@[simp] theorem State.get_with_wins (s : State) (v) (f : Fld) : State.get { s with wins := v } f = s.get f := rfl
@[simp] theorem State.get_with_mbx (s : State) (v) (f : Fld) : State.get { s with mbx := v } f = s.get f := rfl
@[simp] theorem State.get_with_sensor (s : State) (v) (f : Fld) : State.get { s with sensor := v } f = s.get f := rfl
@[simp] theorem State.get_with_stage (s : State) (v) (f : Fld) : State.get { s with stage := v } f = s.get f := rfl
@[simp] theorem State.get_with_corr (s : State) (v) (f : Fld) : State.get { s with corr := v } f = s.get f := rfl
@[simp] theorem State.get_with_cal (s : State) (v) (f : Fld) : State.get { s with cal := v } f = s.get f := rfl
@[simp] theorem State.get_with_gref (s : State) (v) (f : Fld) : State.get { s with gref := v } f = s.get f := rfl
@[simp] theorem State.get_with_trk (s : State) (v) (f : Fld) : State.get { s with trk := v } f = s.get f := rfl
@[simp] theorem State.get_with_tmx (s : State) (v) (f : Fld) : State.get { s with tmx := v } f = s.get f := rfl
@[simp] theorem State.get_with_loops (s : State) (v) (f : Fld) : State.get { s with loops := v } f = s.get f := rfl
@[simp] theorem State.get_with_live (s : State) (v) (f : Fld) : State.get { s with live := v } f = s.get f := rfl
@[simp] theorem State.get_with_braid (s : State) (v) (f : Fld) : State.get { s with braid := v } f = s.get f := rfl
@[simp] theorem State.get_with_knots (s : State) (v) (f : Fld) : State.get { s with knots := v } f = s.get f := rfl
@[simp] theorem State.get_with_sched (s : State) (v) (f : Fld) : State.get { s with sched := v } f = s.get f := rfl
@[simp] theorem State.get_with_valves (s : State) (v) (f : Fld) : State.get { s with valves := v } f = s.get f := rfl
@[simp] theorem State.get_with_chain (s : State) (v) (f : Fld) : State.get { s with chain := v } f = s.get f := rfl
@[simp] theorem State.get_with_baind (s : State) (v) (f : Fld) : State.get { s with baind := v } f = s.get f := rfl
@[simp] theorem State.get_with_ssp (s : State) (v) (f : Fld) : State.get { s with ssp := v } f = s.get f := rfl
@[simp] theorem State.get_with_net (s : State) (v) (f : Fld) : State.get { s with net := v } f = s.get f := rfl
@[simp] theorem State.get_with_flash (s : State) (v) (f : Fld) : State.get { s with flash := v } f = s.get f := rfl
@[simp] theorem State.get_with_tap (s : State) (v) (f : Fld) : State.get { s with tap := v } f = s.get f := rfl
@[simp] theorem State.get_with_house (s : State) (v) (f : Fld) : State.get { s with house := v } f = s.get f := rfl
@[simp] theorem State.get_with_fb (s : State) (v) (f : Fld) : State.get { s with fb := v } f = s.get f := rfl
@[simp] theorem State.get_with_bus (s : State) (v) (f : Fld) : State.get { s with bus := v } f = s.get f := rfl
@[simp] theorem State.get_with_outs (s : State) (v) (f : Fld) : State.get { s with outs := v } f = s.get f := rfl

/-! ### Chain time, outputs, free values -/

@[simp] theorem State.get_advance (s : State) (t : Nat) (f : Fld) : (s.advance t).get f = s.get f := rfl
@[simp] theorem State.get_emit (s : State) (x : Out) (f : Fld) : (s.emit x).get f = s.get f := rfl
@[simp] theorem State.get_draw (s : State) (f : Fld) : s.draw.2.get f = s.get f := rfl
@[simp] theorem State.advance_pending (s : State) (t : Nat) : (s.advance t).pending = s.pending := rfl
@[simp] theorem State.advance_fuses (s : State) (t : Nat) : (s.advance t).fuses = s.fuses := rfl
@[simp] theorem State.advance_regs (s : State) (t : Nat) : (s.advance t).regs = s.regs := rfl
@[simp] theorem State.advance_free (s : State) (t : Nat) : (s.advance t).free = s.free := rfl
@[simp] theorem State.advance_power (s : State) (t : Nat) : (s.advance t).power = s.power := rfl
@[simp] theorem State.advance_evt (s : State) (t : Nat) : (s.advance t).evt = s.evt := rfl
@[simp] theorem State.advance_mem (s : State) (t : Nat) : (s.advance t).mem = s.mem := rfl
@[simp] theorem State.advance_wins (s : State) (t : Nat) : (s.advance t).wins = s.wins := rfl
@[simp] theorem State.advance_mbx (s : State) (t : Nat) : (s.advance t).mbx = s.mbx := rfl
@[simp] theorem State.advance_sensor (s : State) (t : Nat) : (s.advance t).sensor = s.sensor := rfl
@[simp] theorem State.advance_stage (s : State) (t : Nat) : (s.advance t).stage = s.stage := rfl
@[simp] theorem State.advance_corr (s : State) (t : Nat) : (s.advance t).corr = s.corr := rfl
@[simp] theorem State.advance_cal (s : State) (t : Nat) : (s.advance t).cal = s.cal := rfl
@[simp] theorem State.advance_gref (s : State) (t : Nat) : (s.advance t).gref = s.gref := rfl
@[simp] theorem State.advance_trk (s : State) (t : Nat) : (s.advance t).trk = s.trk := rfl
@[simp] theorem State.advance_tmx (s : State) (t : Nat) : (s.advance t).tmx = s.tmx := rfl
@[simp] theorem State.advance_loops (s : State) (t : Nat) : (s.advance t).loops = s.loops := rfl
@[simp] theorem State.advance_live (s : State) (t : Nat) : (s.advance t).live = s.live := rfl
@[simp] theorem State.advance_braid (s : State) (t : Nat) : (s.advance t).braid = s.braid := rfl
@[simp] theorem State.advance_knots (s : State) (t : Nat) : (s.advance t).knots = s.knots := rfl
@[simp] theorem State.advance_sched (s : State) (t : Nat) : (s.advance t).sched = s.sched := rfl
@[simp] theorem State.advance_valves (s : State) (t : Nat) : (s.advance t).valves = s.valves := rfl
@[simp] theorem State.advance_chain (s : State) (t : Nat) : (s.advance t).chain = s.chain := rfl
@[simp] theorem State.advance_baind (s : State) (t : Nat) : (s.advance t).baind = s.baind := rfl
@[simp] theorem State.advance_ssp (s : State) (t : Nat) : (s.advance t).ssp = s.ssp := rfl
@[simp] theorem State.advance_net (s : State) (t : Nat) : (s.advance t).net = s.net := rfl
@[simp] theorem State.advance_flash (s : State) (t : Nat) : (s.advance t).flash = s.flash := rfl
@[simp] theorem State.advance_tap (s : State) (t : Nat) : (s.advance t).tap = s.tap := rfl
@[simp] theorem State.advance_house (s : State) (t : Nat) : (s.advance t).house = s.house := rfl
@[simp] theorem State.advance_fb (s : State) (t : Nat) : (s.advance t).fb = s.fb := rfl
@[simp] theorem State.advance_bus (s : State) (t : Nat) : (s.advance t).bus = s.bus := rfl
@[simp] theorem State.advance_outs (s : State) (t : Nat) : (s.advance t).outs = s.outs := rfl
@[simp] theorem State.emit_pending (s : State) (x : Out) : (s.emit x).pending = s.pending := rfl
@[simp] theorem State.emit_fuses (s : State) (x : Out) : (s.emit x).fuses = s.fuses := rfl
@[simp] theorem State.emit_time (s : State) (x : Out) : (s.emit x).time = s.time := rfl
@[simp] theorem State.emit_regs (s : State) (x : Out) : (s.emit x).regs = s.regs := rfl
@[simp] theorem State.emit_free (s : State) (x : Out) : (s.emit x).free = s.free := rfl
@[simp] theorem State.emit_power (s : State) (x : Out) : (s.emit x).power = s.power := rfl
@[simp] theorem State.emit_evt (s : State) (x : Out) : (s.emit x).evt = s.evt := rfl
@[simp] theorem State.emit_mem (s : State) (x : Out) : (s.emit x).mem = s.mem := rfl
@[simp] theorem State.emit_wins (s : State) (x : Out) : (s.emit x).wins = s.wins := rfl
@[simp] theorem State.emit_mbx (s : State) (x : Out) : (s.emit x).mbx = s.mbx := rfl
@[simp] theorem State.emit_sensor (s : State) (x : Out) : (s.emit x).sensor = s.sensor := rfl
@[simp] theorem State.emit_stage (s : State) (x : Out) : (s.emit x).stage = s.stage := rfl
@[simp] theorem State.emit_corr (s : State) (x : Out) : (s.emit x).corr = s.corr := rfl
@[simp] theorem State.emit_cal (s : State) (x : Out) : (s.emit x).cal = s.cal := rfl
@[simp] theorem State.emit_gref (s : State) (x : Out) : (s.emit x).gref = s.gref := rfl
@[simp] theorem State.emit_trk (s : State) (x : Out) : (s.emit x).trk = s.trk := rfl
@[simp] theorem State.emit_tmx (s : State) (x : Out) : (s.emit x).tmx = s.tmx := rfl
@[simp] theorem State.emit_loops (s : State) (x : Out) : (s.emit x).loops = s.loops := rfl
@[simp] theorem State.emit_live (s : State) (x : Out) : (s.emit x).live = s.live := rfl
@[simp] theorem State.emit_braid (s : State) (x : Out) : (s.emit x).braid = s.braid := rfl
@[simp] theorem State.emit_knots (s : State) (x : Out) : (s.emit x).knots = s.knots := rfl
@[simp] theorem State.emit_sched (s : State) (x : Out) : (s.emit x).sched = s.sched := rfl
@[simp] theorem State.emit_valves (s : State) (x : Out) : (s.emit x).valves = s.valves := rfl
@[simp] theorem State.emit_chain (s : State) (x : Out) : (s.emit x).chain = s.chain := rfl
@[simp] theorem State.emit_baind (s : State) (x : Out) : (s.emit x).baind = s.baind := rfl
@[simp] theorem State.emit_ssp (s : State) (x : Out) : (s.emit x).ssp = s.ssp := rfl
@[simp] theorem State.emit_net (s : State) (x : Out) : (s.emit x).net = s.net := rfl
@[simp] theorem State.emit_flash (s : State) (x : Out) : (s.emit x).flash = s.flash := rfl
@[simp] theorem State.emit_tap (s : State) (x : Out) : (s.emit x).tap = s.tap := rfl
@[simp] theorem State.emit_house (s : State) (x : Out) : (s.emit x).house = s.house := rfl
@[simp] theorem State.emit_fb (s : State) (x : Out) : (s.emit x).fb = s.fb := rfl
@[simp] theorem State.emit_bus (s : State) (x : Out) : (s.emit x).bus = s.bus := rfl
@[simp] theorem State.draw_pending (s : State) : s.draw.2.pending = s.pending := rfl
@[simp] theorem State.draw_fuses (s : State) : s.draw.2.fuses = s.fuses := rfl
@[simp] theorem State.draw_time (s : State) : s.draw.2.time = s.time := rfl
@[simp] theorem State.draw_regs (s : State) : s.draw.2.regs = s.regs := rfl
@[simp] theorem State.draw_power (s : State) : s.draw.2.power = s.power := rfl
@[simp] theorem State.draw_evt (s : State) : s.draw.2.evt = s.evt := rfl
@[simp] theorem State.draw_mem (s : State) : s.draw.2.mem = s.mem := rfl
@[simp] theorem State.draw_wins (s : State) : s.draw.2.wins = s.wins := rfl
@[simp] theorem State.draw_mbx (s : State) : s.draw.2.mbx = s.mbx := rfl
@[simp] theorem State.draw_sensor (s : State) : s.draw.2.sensor = s.sensor := rfl
@[simp] theorem State.draw_stage (s : State) : s.draw.2.stage = s.stage := rfl
@[simp] theorem State.draw_corr (s : State) : s.draw.2.corr = s.corr := rfl
@[simp] theorem State.draw_cal (s : State) : s.draw.2.cal = s.cal := rfl
@[simp] theorem State.draw_gref (s : State) : s.draw.2.gref = s.gref := rfl
@[simp] theorem State.draw_trk (s : State) : s.draw.2.trk = s.trk := rfl
@[simp] theorem State.draw_tmx (s : State) : s.draw.2.tmx = s.tmx := rfl
@[simp] theorem State.draw_loops (s : State) : s.draw.2.loops = s.loops := rfl
@[simp] theorem State.draw_live (s : State) : s.draw.2.live = s.live := rfl
@[simp] theorem State.draw_braid (s : State) : s.draw.2.braid = s.braid := rfl
@[simp] theorem State.draw_knots (s : State) : s.draw.2.knots = s.knots := rfl
@[simp] theorem State.draw_sched (s : State) : s.draw.2.sched = s.sched := rfl
@[simp] theorem State.draw_valves (s : State) : s.draw.2.valves = s.valves := rfl
@[simp] theorem State.draw_chain (s : State) : s.draw.2.chain = s.chain := rfl
@[simp] theorem State.draw_baind (s : State) : s.draw.2.baind = s.baind := rfl
@[simp] theorem State.draw_ssp (s : State) : s.draw.2.ssp = s.ssp := rfl
@[simp] theorem State.draw_net (s : State) : s.draw.2.net = s.net := rfl
@[simp] theorem State.draw_flash (s : State) : s.draw.2.flash = s.flash := rfl
@[simp] theorem State.draw_tap (s : State) : s.draw.2.tap = s.tap := rfl
@[simp] theorem State.draw_house (s : State) : s.draw.2.house = s.house := rfl
@[simp] theorem State.draw_fb (s : State) : s.draw.2.fb = s.fb := rfl
@[simp] theorem State.draw_bus (s : State) : s.draw.2.bus = s.bus := rfl
@[simp] theorem State.draw_outs (s : State) : s.draw.2.outs = s.outs := rfl
@[simp] theorem State.emit_outs (s : State) (x : Out) : (s.emit x).outs = s.outs ++ [x] := rfl

/-! ### Events: a raised source changes its registers, the log and the memory of the log -/

@[simp] theorem State.raise_pending (s : State) (n : Nat) : (s.raise n).pending = s.pending := (s.raise_keeps n).pending
@[simp] theorem State.record_pending (s : State) (c x y z : Nat) : (s.record c x y z).pending = s.pending := (s.record_keeps c x y z).pending
@[simp] theorem State.touch_pending (s : State) (b w : Nat) : (s.touch b w).pending = s.pending := (s.touch_keeps b w).pending
@[simp] theorem State.wordWritten_pending (s : State) (b w : Nat) : (s.wordWritten b w).pending = s.pending := (s.wordWritten_keeps b w).pending
@[simp] theorem State.raise_fuses (s : State) (n : Nat) : (s.raise n).fuses = s.fuses := (s.raise_keeps n).fuses
@[simp] theorem State.record_fuses (s : State) (c x y z : Nat) : (s.record c x y z).fuses = s.fuses := (s.record_keeps c x y z).fuses
@[simp] theorem State.touch_fuses (s : State) (b w : Nat) : (s.touch b w).fuses = s.fuses := (s.touch_keeps b w).fuses
@[simp] theorem State.wordWritten_fuses (s : State) (b w : Nat) : (s.wordWritten b w).fuses = s.fuses := (s.wordWritten_keeps b w).fuses
@[simp] theorem State.raise_time (s : State) (n : Nat) : (s.raise n).time = s.time := (s.raise_keeps n).same.time rfl
@[simp] theorem State.record_time (s : State) (c x y z : Nat) : (s.record c x y z).time = s.time := (s.record_keeps c x y z).same.time rfl
@[simp] theorem State.touch_time (s : State) (b w : Nat) : (s.touch b w).time = s.time := (s.touch_keeps b w).same.time rfl
@[simp] theorem State.wordWritten_time (s : State) (b w : Nat) : (s.wordWritten b w).time = s.time := (s.wordWritten_keeps b w).same.time rfl
@[simp] theorem State.raise_free (s : State) (n : Nat) : (s.raise n).free = s.free := (s.raise_keeps n).same.free rfl
@[simp] theorem State.record_free (s : State) (c x y z : Nat) : (s.record c x y z).free = s.free := (s.record_keeps c x y z).same.free rfl
@[simp] theorem State.touch_free (s : State) (b w : Nat) : (s.touch b w).free = s.free := (s.touch_keeps b w).same.free rfl
@[simp] theorem State.wordWritten_free (s : State) (b w : Nat) : (s.wordWritten b w).free = s.free := (s.wordWritten_keeps b w).same.free rfl
@[simp] theorem State.raise_power (s : State) (n : Nat) : (s.raise n).power = s.power := (s.raise_keeps n).same.power rfl
@[simp] theorem State.record_power (s : State) (c x y z : Nat) : (s.record c x y z).power = s.power := (s.record_keeps c x y z).same.power rfl
@[simp] theorem State.touch_power (s : State) (b w : Nat) : (s.touch b w).power = s.power := (s.touch_keeps b w).same.power rfl
@[simp] theorem State.wordWritten_power (s : State) (b w : Nat) : (s.wordWritten b w).power = s.power := (s.wordWritten_keeps b w).same.power rfl
@[simp] theorem State.raise_wins (s : State) (n : Nat) : (s.raise n).wins = s.wins := (s.raise_keeps n).same.wins rfl
@[simp] theorem State.record_wins (s : State) (c x y z : Nat) : (s.record c x y z).wins = s.wins := (s.record_keeps c x y z).same.wins rfl
@[simp] theorem State.touch_wins (s : State) (b w : Nat) : (s.touch b w).wins = s.wins := (s.touch_keeps b w).same.wins rfl
@[simp] theorem State.wordWritten_wins (s : State) (b w : Nat) : (s.wordWritten b w).wins = s.wins := (s.wordWritten_keeps b w).same.wins rfl
@[simp] theorem State.raise_mbx (s : State) (n : Nat) : (s.raise n).mbx = s.mbx := (s.raise_keeps n).same.mbx rfl
@[simp] theorem State.record_mbx (s : State) (c x y z : Nat) : (s.record c x y z).mbx = s.mbx := (s.record_keeps c x y z).same.mbx rfl
@[simp] theorem State.touch_mbx (s : State) (b w : Nat) : (s.touch b w).mbx = s.mbx := (s.touch_keeps b w).same.mbx rfl
@[simp] theorem State.wordWritten_mbx (s : State) (b w : Nat) : (s.wordWritten b w).mbx = s.mbx := (s.wordWritten_keeps b w).same.mbx rfl
@[simp] theorem State.raise_sensor (s : State) (n : Nat) : (s.raise n).sensor = s.sensor := (s.raise_keeps n).same.sensor rfl
@[simp] theorem State.record_sensor (s : State) (c x y z : Nat) : (s.record c x y z).sensor = s.sensor := (s.record_keeps c x y z).same.sensor rfl
@[simp] theorem State.touch_sensor (s : State) (b w : Nat) : (s.touch b w).sensor = s.sensor := (s.touch_keeps b w).same.sensor rfl
@[simp] theorem State.wordWritten_sensor (s : State) (b w : Nat) : (s.wordWritten b w).sensor = s.sensor := (s.wordWritten_keeps b w).same.sensor rfl
@[simp] theorem State.raise_stage (s : State) (n : Nat) : (s.raise n).stage = s.stage := (s.raise_keeps n).same.stage rfl
@[simp] theorem State.record_stage (s : State) (c x y z : Nat) : (s.record c x y z).stage = s.stage := (s.record_keeps c x y z).same.stage rfl
@[simp] theorem State.touch_stage (s : State) (b w : Nat) : (s.touch b w).stage = s.stage := (s.touch_keeps b w).same.stage rfl
@[simp] theorem State.wordWritten_stage (s : State) (b w : Nat) : (s.wordWritten b w).stage = s.stage := (s.wordWritten_keeps b w).same.stage rfl
@[simp] theorem State.raise_corr (s : State) (n : Nat) : (s.raise n).corr = s.corr := (s.raise_keeps n).same.corr rfl
@[simp] theorem State.record_corr (s : State) (c x y z : Nat) : (s.record c x y z).corr = s.corr := (s.record_keeps c x y z).same.corr rfl
@[simp] theorem State.touch_corr (s : State) (b w : Nat) : (s.touch b w).corr = s.corr := (s.touch_keeps b w).same.corr rfl
@[simp] theorem State.wordWritten_corr (s : State) (b w : Nat) : (s.wordWritten b w).corr = s.corr := (s.wordWritten_keeps b w).same.corr rfl
@[simp] theorem State.raise_cal (s : State) (n : Nat) : (s.raise n).cal = s.cal := (s.raise_keeps n).same.cal rfl
@[simp] theorem State.record_cal (s : State) (c x y z : Nat) : (s.record c x y z).cal = s.cal := (s.record_keeps c x y z).same.cal rfl
@[simp] theorem State.touch_cal (s : State) (b w : Nat) : (s.touch b w).cal = s.cal := (s.touch_keeps b w).same.cal rfl
@[simp] theorem State.wordWritten_cal (s : State) (b w : Nat) : (s.wordWritten b w).cal = s.cal := (s.wordWritten_keeps b w).same.cal rfl
@[simp] theorem State.raise_gref (s : State) (n : Nat) : (s.raise n).gref = s.gref := (s.raise_keeps n).same.gref rfl
@[simp] theorem State.record_gref (s : State) (c x y z : Nat) : (s.record c x y z).gref = s.gref := (s.record_keeps c x y z).same.gref rfl
@[simp] theorem State.touch_gref (s : State) (b w : Nat) : (s.touch b w).gref = s.gref := (s.touch_keeps b w).same.gref rfl
@[simp] theorem State.wordWritten_gref (s : State) (b w : Nat) : (s.wordWritten b w).gref = s.gref := (s.wordWritten_keeps b w).same.gref rfl
@[simp] theorem State.raise_trk (s : State) (n : Nat) : (s.raise n).trk = s.trk := (s.raise_keeps n).same.trk rfl
@[simp] theorem State.record_trk (s : State) (c x y z : Nat) : (s.record c x y z).trk = s.trk := (s.record_keeps c x y z).same.trk rfl
@[simp] theorem State.touch_trk (s : State) (b w : Nat) : (s.touch b w).trk = s.trk := (s.touch_keeps b w).same.trk rfl
@[simp] theorem State.wordWritten_trk (s : State) (b w : Nat) : (s.wordWritten b w).trk = s.trk := (s.wordWritten_keeps b w).same.trk rfl
@[simp] theorem State.raise_tmx (s : State) (n : Nat) : (s.raise n).tmx = s.tmx := (s.raise_keeps n).same.tmx rfl
@[simp] theorem State.record_tmx (s : State) (c x y z : Nat) : (s.record c x y z).tmx = s.tmx := (s.record_keeps c x y z).same.tmx rfl
@[simp] theorem State.touch_tmx (s : State) (b w : Nat) : (s.touch b w).tmx = s.tmx := (s.touch_keeps b w).same.tmx rfl
@[simp] theorem State.wordWritten_tmx (s : State) (b w : Nat) : (s.wordWritten b w).tmx = s.tmx := (s.wordWritten_keeps b w).same.tmx rfl
@[simp] theorem State.raise_loops (s : State) (n : Nat) : (s.raise n).loops = s.loops := (s.raise_keeps n).same.loops rfl
@[simp] theorem State.record_loops (s : State) (c x y z : Nat) : (s.record c x y z).loops = s.loops := (s.record_keeps c x y z).same.loops rfl
@[simp] theorem State.touch_loops (s : State) (b w : Nat) : (s.touch b w).loops = s.loops := (s.touch_keeps b w).same.loops rfl
@[simp] theorem State.wordWritten_loops (s : State) (b w : Nat) : (s.wordWritten b w).loops = s.loops := (s.wordWritten_keeps b w).same.loops rfl
@[simp] theorem State.raise_live (s : State) (n : Nat) : (s.raise n).live = s.live := (s.raise_keeps n).same.live rfl
@[simp] theorem State.record_live (s : State) (c x y z : Nat) : (s.record c x y z).live = s.live := (s.record_keeps c x y z).same.live rfl
@[simp] theorem State.touch_live (s : State) (b w : Nat) : (s.touch b w).live = s.live := (s.touch_keeps b w).same.live rfl
@[simp] theorem State.wordWritten_live (s : State) (b w : Nat) : (s.wordWritten b w).live = s.live := (s.wordWritten_keeps b w).same.live rfl
@[simp] theorem State.raise_braid (s : State) (n : Nat) : (s.raise n).braid = s.braid := (s.raise_keeps n).same.braid rfl
@[simp] theorem State.record_braid (s : State) (c x y z : Nat) : (s.record c x y z).braid = s.braid := (s.record_keeps c x y z).same.braid rfl
@[simp] theorem State.touch_braid (s : State) (b w : Nat) : (s.touch b w).braid = s.braid := (s.touch_keeps b w).same.braid rfl
@[simp] theorem State.wordWritten_braid (s : State) (b w : Nat) : (s.wordWritten b w).braid = s.braid := (s.wordWritten_keeps b w).same.braid rfl
@[simp] theorem State.raise_knots (s : State) (n : Nat) : (s.raise n).knots = s.knots := (s.raise_keeps n).same.knots rfl
@[simp] theorem State.record_knots (s : State) (c x y z : Nat) : (s.record c x y z).knots = s.knots := (s.record_keeps c x y z).same.knots rfl
@[simp] theorem State.touch_knots (s : State) (b w : Nat) : (s.touch b w).knots = s.knots := (s.touch_keeps b w).same.knots rfl
@[simp] theorem State.wordWritten_knots (s : State) (b w : Nat) : (s.wordWritten b w).knots = s.knots := (s.wordWritten_keeps b w).same.knots rfl
@[simp] theorem State.raise_sched (s : State) (n : Nat) : (s.raise n).sched = s.sched := (s.raise_keeps n).same.sched rfl
@[simp] theorem State.record_sched (s : State) (c x y z : Nat) : (s.record c x y z).sched = s.sched := (s.record_keeps c x y z).same.sched rfl
@[simp] theorem State.touch_sched (s : State) (b w : Nat) : (s.touch b w).sched = s.sched := (s.touch_keeps b w).same.sched rfl
@[simp] theorem State.wordWritten_sched (s : State) (b w : Nat) : (s.wordWritten b w).sched = s.sched := (s.wordWritten_keeps b w).same.sched rfl
@[simp] theorem State.raise_valves (s : State) (n : Nat) : (s.raise n).valves = s.valves := (s.raise_keeps n).same.valves rfl
@[simp] theorem State.record_valves (s : State) (c x y z : Nat) : (s.record c x y z).valves = s.valves := (s.record_keeps c x y z).same.valves rfl
@[simp] theorem State.touch_valves (s : State) (b w : Nat) : (s.touch b w).valves = s.valves := (s.touch_keeps b w).same.valves rfl
@[simp] theorem State.wordWritten_valves (s : State) (b w : Nat) : (s.wordWritten b w).valves = s.valves := (s.wordWritten_keeps b w).same.valves rfl
@[simp] theorem State.raise_chain (s : State) (n : Nat) : (s.raise n).chain = s.chain := (s.raise_keeps n).same.chain rfl
@[simp] theorem State.record_chain (s : State) (c x y z : Nat) : (s.record c x y z).chain = s.chain := (s.record_keeps c x y z).same.chain rfl
@[simp] theorem State.touch_chain (s : State) (b w : Nat) : (s.touch b w).chain = s.chain := (s.touch_keeps b w).same.chain rfl
@[simp] theorem State.wordWritten_chain (s : State) (b w : Nat) : (s.wordWritten b w).chain = s.chain := (s.wordWritten_keeps b w).same.chain rfl
@[simp] theorem State.raise_baind (s : State) (n : Nat) : (s.raise n).baind = s.baind := (s.raise_keeps n).same.baind rfl
@[simp] theorem State.record_baind (s : State) (c x y z : Nat) : (s.record c x y z).baind = s.baind := (s.record_keeps c x y z).same.baind rfl
@[simp] theorem State.touch_baind (s : State) (b w : Nat) : (s.touch b w).baind = s.baind := (s.touch_keeps b w).same.baind rfl
@[simp] theorem State.wordWritten_baind (s : State) (b w : Nat) : (s.wordWritten b w).baind = s.baind := (s.wordWritten_keeps b w).same.baind rfl
@[simp] theorem State.raise_ssp (s : State) (n : Nat) : (s.raise n).ssp = s.ssp := (s.raise_keeps n).same.ssp rfl
@[simp] theorem State.record_ssp (s : State) (c x y z : Nat) : (s.record c x y z).ssp = s.ssp := (s.record_keeps c x y z).same.ssp rfl
@[simp] theorem State.touch_ssp (s : State) (b w : Nat) : (s.touch b w).ssp = s.ssp := (s.touch_keeps b w).same.ssp rfl
@[simp] theorem State.wordWritten_ssp (s : State) (b w : Nat) : (s.wordWritten b w).ssp = s.ssp := (s.wordWritten_keeps b w).same.ssp rfl
@[simp] theorem State.raise_net (s : State) (n : Nat) : (s.raise n).net = s.net := (s.raise_keeps n).same.net rfl
@[simp] theorem State.record_net (s : State) (c x y z : Nat) : (s.record c x y z).net = s.net := (s.record_keeps c x y z).same.net rfl
@[simp] theorem State.touch_net (s : State) (b w : Nat) : (s.touch b w).net = s.net := (s.touch_keeps b w).same.net rfl
@[simp] theorem State.wordWritten_net (s : State) (b w : Nat) : (s.wordWritten b w).net = s.net := (s.wordWritten_keeps b w).same.net rfl
@[simp] theorem State.raise_flash (s : State) (n : Nat) : (s.raise n).flash = s.flash := (s.raise_keeps n).same.flash rfl
@[simp] theorem State.record_flash (s : State) (c x y z : Nat) : (s.record c x y z).flash = s.flash := (s.record_keeps c x y z).same.flash rfl
@[simp] theorem State.touch_flash (s : State) (b w : Nat) : (s.touch b w).flash = s.flash := (s.touch_keeps b w).same.flash rfl
@[simp] theorem State.wordWritten_flash (s : State) (b w : Nat) : (s.wordWritten b w).flash = s.flash := (s.wordWritten_keeps b w).same.flash rfl
@[simp] theorem State.raise_tap (s : State) (n : Nat) : (s.raise n).tap = s.tap := (s.raise_keeps n).same.tap rfl
@[simp] theorem State.record_tap (s : State) (c x y z : Nat) : (s.record c x y z).tap = s.tap := (s.record_keeps c x y z).same.tap rfl
@[simp] theorem State.touch_tap (s : State) (b w : Nat) : (s.touch b w).tap = s.tap := (s.touch_keeps b w).same.tap rfl
@[simp] theorem State.wordWritten_tap (s : State) (b w : Nat) : (s.wordWritten b w).tap = s.tap := (s.wordWritten_keeps b w).same.tap rfl
@[simp] theorem State.raise_house (s : State) (n : Nat) : (s.raise n).house = s.house := (s.raise_keeps n).same.house rfl
@[simp] theorem State.record_house (s : State) (c x y z : Nat) : (s.record c x y z).house = s.house := (s.record_keeps c x y z).same.house rfl
@[simp] theorem State.touch_house (s : State) (b w : Nat) : (s.touch b w).house = s.house := (s.touch_keeps b w).same.house rfl
@[simp] theorem State.wordWritten_house (s : State) (b w : Nat) : (s.wordWritten b w).house = s.house := (s.wordWritten_keeps b w).same.house rfl
@[simp] theorem State.raise_fb (s : State) (n : Nat) : (s.raise n).fb = s.fb := (s.raise_keeps n).same.fb rfl
@[simp] theorem State.record_fb (s : State) (c x y z : Nat) : (s.record c x y z).fb = s.fb := (s.record_keeps c x y z).same.fb rfl
@[simp] theorem State.touch_fb (s : State) (b w : Nat) : (s.touch b w).fb = s.fb := (s.touch_keeps b w).same.fb rfl
@[simp] theorem State.wordWritten_fb (s : State) (b w : Nat) : (s.wordWritten b w).fb = s.fb := (s.wordWritten_keeps b w).same.fb rfl
@[simp] theorem State.raise_bus (s : State) (n : Nat) : (s.raise n).bus = s.bus := (s.raise_keeps n).same.bus rfl
@[simp] theorem State.record_bus (s : State) (c x y z : Nat) : (s.record c x y z).bus = s.bus := (s.record_keeps c x y z).same.bus rfl
@[simp] theorem State.touch_bus (s : State) (b w : Nat) : (s.touch b w).bus = s.bus := (s.touch_keeps b w).same.bus rfl
@[simp] theorem State.wordWritten_bus (s : State) (b w : Nat) : (s.wordWritten b w).bus = s.bus := (s.wordWritten_keeps b w).same.bus rfl
@[simp] theorem State.raise_outs (s : State) (n : Nat) : (s.raise n).outs = s.outs := (s.raise_keeps n).same.outs rfl
@[simp] theorem State.record_outs (s : State) (c x y z : Nat) : (s.record c x y z).outs = s.outs := (s.record_keeps c x y z).same.outs rfl
@[simp] theorem State.touch_outs (s : State) (b w : Nat) : (s.touch b w).outs = s.outs := (s.touch_keeps b w).same.outs rfl
@[simp] theorem State.wordWritten_outs (s : State) (b w : Nat) : (s.wordWritten b w).outs = s.outs := (s.wordWritten_keeps b w).same.outs rfl

end Sys2Proof.Machine
end

