-- ==== Sys2Proof/Laws/Events.lean ====
section
/-! SUPPORT. Raising an event and writing a log entry leave every register outside block EVT as it was. -/

namespace Sys2Proof.Machine
open Reg

theorem State.touch_get (s : State) (b w : Nat) (g : Fld) (h : g.key ≠ MEM_TESTABORTS_COUNT.key) :
    (s.touch b w).get g = s.get g := by
  unfold State.touch
  extract_lets u s1 v
  have k : s1.get g = s.get g := by
    unfold s1
    split
    · split <;> rfl
    · rfl
  split
  · rw [State.bump_eq, State.get_set_ne _ _ _ _ h]; exact k
  · exact k

theorem State.wordWritten_get (s : State) (b w : Nat) (g : Fld) (h : g.key ≠ MEM_TESTABORTS_COUNT.key) :
    (s.wordWritten b w).get g = s.get g := s.touch_get b w g h

theorem foldl_get {β : Type} (f : State → β → State) (g : Fld) (hf : ∀ s b, (f s b).get g = s.get g) (l : List β)
    (s : State) : (l.foldl f s).get g = s.get g := by
  induction l generalizing s with
  | nil => rfl
  | cons b r ih => exact (ih _).trans (hf s b)

theorem State.pushLog_get (s : State) (n : Nat) (fw fo : Bool) (rep st a b c : Nat) (g : Fld) (h : g.noEvt) :
    (s.pushLog n fw fo rep st a b c).1.get g = s.get g := by
  obtain ⟨h, hm⟩ := h
  have e1 : g.key ≠ EVT_LOGHEAD_NEXT.key := by simp only [Fld.key, EVT_LOGHEAD_NEXT] at h ⊢; omega
  have e2 : g.key ≠ EVT_LOGSEQ_SEQ.key := by simp only [Fld.key, EVT_LOGSEQ_SEQ] at h ⊢; omega
  have e3 : g.key ≠ EVT_FLASHPOS_PEND.key := by simp only [Fld.key, EVT_FLASHPOS_PEND] at h ⊢; omega
  have e4 : g.key ≠ EVT_LOGLOST_COUNT.key := by simp only [Fld.key, EVT_LOGLOST_COUNT] at h ⊢; omega
  unfold State.pushLog
  extract_lets e i lost pend pend2 u s1 s2 s3 s4
  have k4 : s4.get g = s.get g := by
    show (((s2.incr EVT_LOGHEAD_NEXT).incr EVT_LOGSEQ_SEQ).set EVT_FLASHPOS_PEND pend2.length).get g = _
    rw [State.get_set_ne _ _ _ _ e3, State.incr_eq, State.get_set_ne _ _ _ _ e2, State.incr_eq, State.get_set_ne _ _ _ _ e1]
    exact (foldl_get _ g (fun s w => s.wordWritten_get _ _ g hm) _ s1).trans rfl
  show (if lost then s4.bump EVT_LOGLOST_COUNT else s4).get g = _
  split
  · rw [State.bump_eq, State.get_set_ne _ _ _ _ e4, k4]
  · exact k4

theorem State.logOccur_get (s : State) (n : Nat) (fo : Bool) (st : Nat) (g : Fld) (h : g.noEvt) :
    (s.logOccur n fo st).1.get g = s.get g := by
  unfold State.logOccur
  extract_lets hold last u rep s1
  split
  · rfl
  · exact s1.pushLog_get _ _ _ _ _ _ _ _ g h

theorem srcExists_lt (s : State) (n : Nat) (h : s.srcExists n = true) : n < 768 := by
  unfold State.srcExists at h
  split at h; · omega
  split at h; · omega
  split at h; · omega
  split at h; · omega
  simp only [decide_eq_true_eq] at h; omega

theorem State.pinOccur_get (s : State) (i : Nat) (g : Fld) : (s.pinOccur i).get g = s.get g := by
  unfold State.pinOccur
  split
  · simp only []; split <;> rfl
  · rfl

theorem State.occurCore_get (s : State) (n : Nat) (fo : Bool) (st : Nat) (g : Fld) (h : g.noEvt) :
    (s.occurCore n fo st).1.get g = s.get g := by
  unfold State.occurCore
  split
  · rename_i hc
    have hn : n < 768 := srcExists_lt s n (by simp at hc; exact hc.1)
    obtain ⟨hk, hm⟩ := h
    have e1 : g.key ≠ (EVT_STAT_STAT (n / 32)).key := by simp only [Fld.key, EVT_STAT_STAT] at hk ⊢; omega
    have e2 : g.key ≠ (cntFld n).key := by
      unfold cntFld; split <;> simp only [Fld.key, EVT_CNT_CNT0, EVT_CNT_CNT1, EVT_CNT_CNT2, EVT_CNT_CNT3] at hk ⊢ <;> omega
    extract_lets was s1 u s2 r s3
    have k1 : s1.get g = s.get g := by
      show ((s.setBit _ _).bump _).get g = _
      rw [State.bump_eq, State.get_set_ne _ _ _ _ e2, State.setBit_eq, State.get_set_ne _ _ _ _ e1]
    have k2 : s2.get g = s.get g := by
      show (if was then s1 else _).get g = _
      split
      · exact k1
      · exact k1
    have k3 : s3.get g = s.get g := by
      refine (foldl_get _ g (fun s i => ?_) _ s2).trans k2
      split
      · exact s.pinOccur_get _ g
      · rfl
    split
    · exact (s3.logOccur_get _ _ _ g ⟨hk, hm⟩).trans k3
    · exact k3
  · rfl

/-- An occurrence changes registers of block EVT and the count of aborted tests alone. -/
theorem State.occurAt_get (s : State) (n : Nat) (fo : Bool) (st : Nat) (g : Fld) (h : g.noEvt) :
    (s.occurAt n fo st).get g = s.get g := by
  unfold State.occurAt
  simp only []
  split
  · exact (State.occurCore_get _ _ _ _ g h).trans (s.occurCore_get _ _ _ g h)
  · exact s.occurCore_get _ _ _ g h

theorem State.raise_get (s : State) (n : Nat) (g : Fld) (h : g.noEvt) : (s.raise n).get g = s.get g :=
  s.occurAt_get n false s.time g h

theorem State.record_get (s : State) (c x y z : Nat) (g : Fld) (h : g.noEvt) : (s.record c x y z).get g = s.get g := by
  unfold State.record
  simp only []
  split
  · exact (State.occurCore_get _ _ _ _ g h).trans (s.pushLog_get _ _ _ _ _ _ _ _ g h)
  · exact s.pushLog_get _ _ _ _ _ _ _ _ g h

/-! ### The status bit of an occurrence -/

/-- A status register of R349, which the log and the pins leave alone. -/
theorem State.pushLog_stat (s : State) (n : Nat) (fw fo : Bool) (rep st a b c g : Nat) :
    (s.pushLog n fw fo rep st a b c).1.get (EVT_STAT_STAT g) = s.get (EVT_STAT_STAT g) := by
  have hi := Nat.mod_lt g (show 0 < 24 by decide)
  have e1 : (EVT_STAT_STAT g).key ≠ EVT_LOGHEAD_NEXT.key := by simp only [Fld.key, EVT_LOGHEAD_NEXT, EVT_STAT_STAT]; omega
  have e2 : (EVT_STAT_STAT g).key ≠ EVT_LOGSEQ_SEQ.key := by simp only [Fld.key, EVT_LOGSEQ_SEQ, EVT_STAT_STAT]; omega
  have e3 : (EVT_STAT_STAT g).key ≠ EVT_FLASHPOS_PEND.key := by simp only [Fld.key, EVT_FLASHPOS_PEND, EVT_STAT_STAT]; omega
  have e4 : (EVT_STAT_STAT g).key ≠ EVT_LOGLOST_COUNT.key := by simp only [Fld.key, EVT_LOGLOST_COUNT, EVT_STAT_STAT]; omega
  have e5 : (EVT_STAT_STAT g).key ≠ MEM_TESTABORTS_COUNT.key := by
    simp only [Fld.key, MEM_TESTABORTS_COUNT, EVT_STAT_STAT]; omega
  unfold State.pushLog
  extract_lets e i lost pend pend2 u s1 s2 s3 s4
  have k4 : s4.get (EVT_STAT_STAT g) = s.get (EVT_STAT_STAT g) := by
    show (((s2.incr EVT_LOGHEAD_NEXT).incr EVT_LOGSEQ_SEQ).set EVT_FLASHPOS_PEND pend2.length).get (EVT_STAT_STAT g) = _
    rw [State.get_set_ne _ _ _ _ e3, State.incr_eq, State.get_set_ne _ _ _ _ e2, State.incr_eq, State.get_set_ne _ _ _ _ e1]
    exact (foldl_get _ _ (fun s w => s.wordWritten_get _ _ _ e5) _ s1).trans rfl
  show (if lost then s4.bump EVT_LOGLOST_COUNT else s4).get (EVT_STAT_STAT g) = _
  split
  · rw [State.bump_eq, State.get_set_ne _ _ _ _ e4, k4]
  · exact k4

theorem State.logOccur_stat (s : State) (n : Nat) (fo : Bool) (st i : Nat) :
    (s.logOccur n fo st).1.get (EVT_STAT_STAT i) = s.get (EVT_STAT_STAT i) := by
  unfold State.logOccur
  extract_lets hold last u rep s1
  split
  · rfl
  · exact s1.pushLog_stat _ _ _ _ _ _ _ _ i

/-- What an occurrence leaves in a status register: the bit of its source, where that can assert. -/
theorem State.occurCore_stat (s : State) (n : Nat) (fo : Bool) (st i : Nat) :
    (s.occurCore n fo st).1.get (EVT_STAT_STAT i) =
      if (s.srcExists n && (fo || s.srcEnabled n)) = true ∧ (EVT_STAT_STAT i).key = (EVT_STAT_STAT (n / 32)).key then
        (s.get (EVT_STAT_STAT (n / 32)) ||| 2 ^ (n % 32)) % 2 ^ 32 else s.get (EVT_STAT_STAT i) := by
  unfold State.occurCore
  by_cases hc : (s.srcExists n && (fo || s.srcEnabled n)) = true
  · have hR : ∀ a b : Nat, (if (s.srcExists n && (fo || s.srcEnabled n)) = true ∧
        (EVT_STAT_STAT i).key = (EVT_STAT_STAT (n / 32)).key then a else b) =
        if (EVT_STAT_STAT i).key = (EVT_STAT_STAT (n / 32)).key then a else b := fun a b => by simp only [hc, true_and]
    rw [if_pos hc, hR]
    have e2 : (EVT_STAT_STAT i).key ≠ (cntFld n).key := by
      unfold cntFld; split <;> simp only [Fld.key, EVT_STAT_STAT, EVT_CNT_CNT0, EVT_CNT_CNT1, EVT_CNT_CNT2, EVT_CNT_CNT3] <;> omega
    extract_lets was s1 u s2 r s3
    have k1 : s1.get (EVT_STAT_STAT i) = if (EVT_STAT_STAT i).key = (EVT_STAT_STAT (n / 32)).key then
        (s.get (EVT_STAT_STAT (n / 32)) ||| 2 ^ (n % 32)) % 2 ^ 32 else s.get (EVT_STAT_STAT i) := by
      show ((s.setBit _ _).bump _).get _ = _
      rw [State.bump_eq, State.get_set_ne _ _ _ _ e2, State.setBit_eq]
      split
      · rename_i hk
        have : EVT_STAT_STAT i = EVT_STAT_STAT (n / 32) := by
          simp only [Fld.key, EVT_STAT_STAT] at hk
          simp only [EVT_STAT_STAT, Fld.mk.injEq, and_self, and_true]; omega
        rw [this, State.get_set]; rfl
      · rename_i hk; exact State.get_set_ne _ _ _ _ hk
    have k3 : s3.get (EVT_STAT_STAT i) = s1.get (EVT_STAT_STAT i) := by
      refine (foldl_get _ _ (fun s i => ?_) _ s2).trans ?_
      · split
        · exact s.pinOccur_get _ _
        · rfl
      · show (if was then s1 else _).get _ = _
        split <;> rfl
    rw [← k1, ← k3]
    split
    · exact s3.logOccur_stat _ _ _ i
    · rfl
  · rw [if_neg hc]
    simp [hc]

theorem bitOf_setBit (x i : Nat) (h : i < 32) : bitOf ((x ||| 2 ^ i) % 2 ^ 32) i = true := by
  have : ((x ||| 2 ^ i) % 2 ^ 32).testBit i = true := by
    rw [Nat.testBit_mod_two_pow, Nat.testBit_or]; simp [h]
  simpa [bitOf, bits, Nat.testBit_eq_decide_div_mod_eq] using this

theorem bitOf_or (x y i : Nat) (hi : i < 32) (h : bitOf x i = true) : bitOf ((x ||| y) % 2 ^ 32) i = true := by
  have h' : x.testBit i = true := by simpa [bitOf, bits, Nat.testBit_eq_decide_div_mod_eq] using h
  have : ((x ||| y) % 2 ^ 32).testBit i = true := by
    rw [Nat.testBit_mod_two_pow, Nat.testBit_or, h']; simp [hi]
  simpa [bitOf, bits, Nat.testBit_eq_decide_div_mod_eq] using this

/-- An occurrence sets the status bit of its source. -/
theorem State.occurCore_status (s : State) (n : Nat) (fo : Bool) (st : Nat) (he : s.srcExists n = true)
    (hn : (fo || s.srcEnabled n) = true) : (s.occurCore n fo st).1.srcStatus n = true := by
  unfold State.srcStatus
  rw [State.occurCore_stat, if_pos ⟨by rw [he, hn]; rfl, rfl⟩]
  exact bitOf_setBit _ _ (Nat.mod_lt _ (by decide))

/-- A status bit that stands stays. -/
theorem State.occurCore_status_mono (s : State) (n m : Nat) (fo : Bool) (st : Nat) (h : s.srcStatus m = true) :
    (s.occurCore n fo st).1.srcStatus m = true := by
  unfold State.srcStatus at h ⊢
  rw [State.occurCore_stat]
  split
  · rename_i hk
    have : EVT_STAT_STAT (m / 32) = EVT_STAT_STAT (n / 32) := by
      have hk := hk.2
      simp only [Fld.key, EVT_STAT_STAT] at hk
      simp only [EVT_STAT_STAT, Fld.mk.injEq, and_self, and_true]; omega
    rw [← this]
    exact bitOf_or _ _ _ (Nat.mod_lt _ (by decide)) h
  · exact h

theorem State.raise_status (s : State) (n : Nat) : raisedIn n s (s.raise n) := fun he hn => by
  unfold State.raise State.occurAt
  simp only []
  have h := s.occurCore_status n false s.time he (by simp [hn])
  split
  · exact State.occurCore_status_mono _ _ _ _ _ h
  · exact h

theorem State.raise_status_mono (s : State) (n m : Nat) (h : s.srcStatus m = true) : (s.raise n).srcStatus m = true := by
  unfold State.raise State.occurAt
  simp only []
  have h := s.occurCore_status_mono n m false s.time h
  split
  · exact State.occurCore_status_mono _ _ _ _ _ h
  · exact h

end Sys2Proof.Machine
end

