-- ==== Sys2Proof/Laws/Keeps2.lean ====
section
/-! SUPPORT. What each operation over State may touch, part 2 of 5: one lemma for each, in the order of their files. -/

namespace Sys2Proof.Machine

set_option linter.all false
set_option linter.unusedTactic false
set_option linter.unreachableTactic false
set_option linter.style.longLine false
set_option Elab.async false

open Reg

theorem State.completeSlice_keeps (s : State) (x : Slice) :
    Keeps 0x7E0002800000000000000000000000000000000000000000000000000000000000001010002001080C8 s (State.completeSlice s x).1 := by
  have h0 : Keeps 0x7E0002800000000000000000000000000000000000000000000000000000000000001010002001080C8 s s := Keeps.refl _ _
  unfold State.completeSlice
  extract_lets x0 x1 _ x3 _ x5
  have h1 : Keeps 0x7E0002800000000000000000000000000000000000000000000000000000000000001010002001080C8 s x0.1 := by unfold x0; repeat' first | with_reducible assumption | apply Eq.refl | intro c | (with_reducible first | apply Keeps.step (State.readLane_keeps ..) | apply Keeps.foldl | apply Keeps.foldl_fst) | extract_lets
  try clear_value x0
  have h2 : Keeps 0x7E0002800000000000000000000000000000000000000000000000000000000000001010002001080C8 s x1.1 := by unfold x1; repeat' first | with_reducible assumption | apply Eq.refl | with_reducible apply Keeps.step (State.tableReads_keeps ..)
  try clear_value x1
  have h4 : Keeps 0x7E0002800000000000000000000000000000000000000000000000000000000000001010002001080C8 s x3 := by unfold x3; repeat' first | with_reducible assumption
  try clear_value x3
  have h6 : Keeps 0x7E0002800000000000000000000000000000000000000000000000000000000000001010002001080C8 s x5 := by unfold x5; repeat' first | with_reducible assumption | apply Eq.refl | with_reducible apply Keeps.step (State.refInit_keeps ..)
  try clear_value x5
  repeat' first | with_reducible assumption | apply Eq.refl | extract_lets | with_reducible apply Keeps.put_knots

theorem State.setKnots_keeps (s : State) (k : KStage) :
    Keeps 0x100000 s (State.setKnots s k) := by
  have h0 : Keeps 0x100000 s s := Keeps.refl _ _
  unfold State.setKnots
  repeat' first | with_reducible assumption | apply Eq.refl | with_reducible apply Keeps.put_knots

theorem State.splitOne_keeps (s : State) :
    Keeps 0x4080000000000000000000000000000000000000000001000002000000C8 s (State.splitOne s) := by
  have h0 : Keeps 0x4080000000000000000000000000000000000000000001000002000000C8 s s := Keeps.refl _ _
  unfold State.splitOne
  extract_lets x0
  have h1 : Keeps 0x4080000000000000000000000000000000000000000001000002000000C8 s x0 := by unfold x0; repeat' first | with_reducible assumption | apply Eq.refl | intro c | with_reducible apply State.bump_keeps | ((with_reducible apply Has.fam (KNT_SPLITCNT_COUNT_cls ..)); exact Eq.refl true)
  try clear_value x0
  repeat' first | with_reducible assumption | apply Eq.refl | intro c | (with_reducible first | apply Keeps.step (State.raise_keeps ..) | apply State.set_keeps | apply Keeps.ite) | ((with_reducible apply Has.fam (KNT_STAT_SPLIT_cls ..)); exact Eq.refl true) | split

theorem State.occShow_keeps (s : State) :
    Keeps 0xC50000000000000000000000000000000000000000001000002000000C8 s (State.occShow s) := by
  have h0 : Keeps 0xC50000000000000000000000000000000000000000001000002000000C8 s s := Keeps.refl _ _
  unfold State.occShow
  extract_lets _ _ x2 x3
  have h3 : Keeps 0xC50000000000000000000000000000000000000000001000002000000C8 s x2 := by unfold x2; repeat' first | with_reducible assumption | apply Eq.refl | intro c | with_reducible apply State.set_keeps | ((with_reducible apply Has.fam (KNT_OPEN_MAX_cls ..)); exact Eq.refl true) | ((with_reducible apply Has.fam (KNT_OPEN_NOW_cls ..)); exact Eq.refl true)
  try clear_value x2
  have h4 : Keeps 0xC50000000000000000000000000000000000000000001000002000000C8 s x3 := by unfold x3; repeat' first | with_reducible assumption | apply Eq.refl | intro c | with_reducible apply State.setB_keeps | ((with_reducible apply Has.fam (KNT_STAT_FULL_cls ..)); exact Eq.refl true)
  try clear_value x3
  repeat' first | with_reducible assumption | apply Eq.refl | intro c | (with_reducible first | apply Keeps.step (State.raise_keeps ..) | apply State.set_keeps | apply Keeps.ite) | ((with_reducible apply Has.fam (KNT_STAT_FULLSEEN_cls ..)); exact Eq.refl true) | split | extract_lets

theorem State.kbTouch_keeps (s : State) (slot : ℕ) :
    Keeps 0x100000000000088 s (State.kbTouch s slot) := by
  have h0 : Keeps 0x100000000000088 s s := Keeps.refl _ _
  unfold State.kbTouch
  repeat' first | with_reducible assumption | apply Eq.refl | with_reducible apply Keeps.step (State.touch_keeps ..)

theorem State.kbFresh_keeps (s : State) (slot : ℕ) :
    Keeps 0x100000000000088 s (State.kbFresh s slot) := by
  have h0 : Keeps 0x100000000000088 s s := Keeps.refl _ _
  unfold State.kbFresh
  repeat' first | with_reducible assumption | apply Eq.refl | intro c | (with_reducible first | apply Keeps.step (State.wordWritten_keeps ..) | apply Keeps.step (State.kbTouch_keeps ..) | apply Keeps.foldl)

theorem State.freeKnot_keeps (s : State) (n : Knot) :
    Keeps 0xC50000000000000000000000000000000000000000001000002001000C8 s (State.freeKnot s n) := by
  have h0 : Keeps 0xC50000000000000000000000000000000000000000001000002001000C8 s s := Keeps.refl _ _
  unfold State.freeKnot
  extract_lets x0
  have h1 : Keeps 0xC50000000000000000000000000000000000000000001000002001000C8 s x0 := by unfold x0; repeat' first | with_reducible assumption | apply Eq.refl | with_reducible apply Keeps.step (State.kbFresh_keeps ..)
  try clear_value x0
  repeat' first | with_reducible assumption | apply Eq.refl | (with_reducible first | apply Keeps.step (State.occShow_keeps ..) | apply Keeps.step (State.setKnots_keeps ..)) | extract_lets

theorem State.sweepKnot_keeps (s : State) (n : Knot) :
    Keeps 0x8C50000000000000000000000000000000000000000001000002001000C8 s (State.sweepKnot s n) := by
  have h0 : Keeps 0x8C50000000000000000000000000000000000000000001000002001000C8 s s := Keeps.refl _ _
  unfold State.sweepKnot
  repeat' first | with_reducible assumption | apply Eq.refl | intro c | (with_reducible first | apply Keeps.step (State.freeKnot_keeps ..) | apply State.bump_keeps | apply Keeps.ite) | ((with_reducible apply Has.fam (KNT_DROPCNT_COUNT_cls ..)); exact Eq.refl true) | split | extract_lets

theorem State.sweepKnots_keeps (s : State) :
    Keeps 0x8C50000000000000000000000000000000000000000001000002001000C8 s (State.sweepKnots s) := by
  have h0 : Keeps 0x8C50000000000000000000000000000000000000000001000002001000C8 s s := Keeps.refl _ _
  unfold State.sweepKnots
  repeat' first | with_reducible assumption | apply Eq.refl | intro c | (with_reducible first | apply Keeps.step (State.sweepKnot_keeps ..) | apply Keeps.foldl)

theorem State.slope_keeps (s : State) (early : ℕ) (late : ℕ) (halfdt : ℕ) :
    Keeps 0x10 s (State.slope s early late halfdt).1 := by
  have h0 : Keeps 0x10 s s := Keeps.refl _ _
  unfold State.slope
  extract_lets x0
  have h1 : Keeps 0x10 s x0.2 := by unfold x0; repeat' first | with_reducible assumption | apply Eq.refl | with_reducible apply Keeps.step (State.draw_keeps ..)
  try clear_value x0
  repeat' first | with_reducible assumption | with_reducible apply Keeps.ite | split

theorem State.features_keeps (s : State) (n : Knot) (c : Cand) (s0 : ℕ) (row0 : Row) :
    Keeps 0x10 s (State.features s n c s0 row0).1 := by
  have h0 : Keeps 0x10 s s := Keeps.refl _ _
  unfold State.features
  extract_lets _ _ _ _ _ _ _ _ _ _ _ _ _ _ _ _ _ _ _ _ _ _ x22 x23
  have h23 : Keeps 0x10 s x22.1 := by unfold x22; repeat' first | with_reducible assumption | apply Eq.refl | (with_reducible first | apply Keeps.step (State.slope_keeps ..) | apply Keeps.ite) | split
  try clear_value x22
  have h24 : Keeps 0x10 s x23 := by unfold x23; repeat' first | with_reducible assumption
  try clear_value x23
  repeat' first | with_reducible assumption | with_reducible apply Keeps.ite | split | extract_lets

theorem State.closeKnot_keeps (s : State) (n : Knot) (c : Cand) :
    Keeps 0x800000000000000000000000000000000000000000000100000000100098 s (State.closeKnot s n c) := by
  have h0 : Keeps 0x800000000000000000000000000000000000000000000100000000100098 s s := Keeps.refl _ _
  unfold State.closeKnot
  extract_lets x0
  have h1 : Keeps 0x800000000000000000000000000000000000000000000100000000100098 s x0 := by unfold x0; repeat' first | with_reducible assumption | apply Eq.refl | with_reducible apply Keeps.step (State.kbTouch_keeps ..)
  try clear_value x0
  repeat' first | with_reducible assumption | apply Eq.refl | intro c | (with_reducible first | apply State.bump_keeps | apply Keeps.step (State.setKnots_keeps ..) | apply Keeps.step (State.features_keeps ..) | apply Keeps.ite) | ((with_reducible apply Has.fam (KNT_DROPCNT_COUNT_cls ..)); exact Eq.refl true) | split | extract_lets

theorem State.choose_keeps (s : State) (n : Knot) :
    Keeps 0x800000000000000000000000000000000000000000000100020000100098 s (State.choose s n) := by
  have h0 : Keeps 0x800000000000000000000000000000000000000000000100020000100098 s s := Keeps.refl _ _
  unfold State.choose
  extract_lets x0 x1 x2 x3
  try clear_value x0
  try clear_value x1
  try clear_value x2
  try clear_value x3
  repeat' first | with_reducible assumption | apply Eq.refl | intro c | (with_reducible first | apply State.bump_keeps | apply Keeps.step (State.setKnots_keeps ..) | apply Keeps.step (State.closeKnot_keeps ..) | apply Keeps.ite | apply Keeps.foldl) | ((with_reducible apply Has.fam (BRD_HYPCNT_COUNT_cls ..)); exact Eq.refl true) | split | extract_lets

theorem State.chooseAll_keeps (s : State) (force : Bool) :
    Keeps 0x800000000000000000000000000000000000000000000100020000100098 s (State.chooseAll s force) := by
  have h0 : Keeps 0x800000000000000000000000000000000000000000000100020000100098 s s := Keeps.refl _ _
  unfold State.chooseAll
  repeat' first | with_reducible assumption | apply Eq.refl | intro c | (with_reducible first | apply Keeps.step (State.choose_keeps ..) | apply Keeps.ite | apply Keeps.foldl) | split

theorem State.startCand_keeps (s : State) (row : Row) (lo : ℕ) (hi : ℕ) (splitW : Bool) (splitL : Bool) :
    Keeps 0x2C50000000000000000000000000000000000000000001000202001000C8 s (State.startCand s row lo hi splitW splitL).1 := by
  have h0 : Keeps 0x2C50000000000000000000000000000000000000000001000202001000C8 s s := Keeps.refl _ _
  unfold State.startCand
  extract_lets _ _ _ _ x4 _ x6 _ _ x9
  have h5 : Keeps 0x2C50000000000000000000000000000000000000000001000202001000C8 s x4 := by unfold x4; repeat' first | with_reducible assumption | apply Eq.refl | with_reducible apply Keeps.step (State.setKnots_keeps ..)
  try clear_value x4
  have h7 : Keeps 0x2C50000000000000000000000000000000000000000001000202001000C8 s x6 := by unfold x6; repeat' first | with_reducible assumption | apply Eq.refl | with_reducible apply Keeps.step (State.kbTouch_keeps ..)
  try clear_value x6
  have h10 : Keeps 0x2C50000000000000000000000000000000000000000001000202001000C8 s x9 := by unfold x9; repeat' first | with_reducible assumption | apply Eq.refl | (with_reducible first | apply Keeps.step (State.occShow_keeps ..) | apply Keeps.step (State.setKnots_keeps ..))
  try clear_value x9
  repeat' first | with_reducible assumption | apply Eq.refl | intro c | (with_reducible first | apply Keeps.step (State.setKnots_keeps ..) | apply Keeps.step (State.kbTouch_keeps ..) | apply State.bump_keeps | apply Keeps.ite) | ((with_reducible apply Has.fam (KNT_LOSTCNT_COUNT_cls ..)); exact Eq.refl true) | ((with_reducible apply Has.fam (BRD_HYPCNT_COUNT_cls ..)); exact Eq.refl true) | split | extract_lets

theorem State.mergeCand_keeps (s : State) (a : Cand) (b : Cand) :
    Keeps 0x8C50000000000000000000000000000000000000000001000002001000C8 s (State.mergeCand s a b) := by
  have h0 : Keeps 0x8C50000000000000000000000000000000000000000001000002001000C8 s s := Keeps.refl _ _
  unfold State.mergeCand
  repeat' first | with_reducible assumption | apply Eq.refl | (with_reducible first | apply Keeps.step (State.setKnots_keeps ..) | apply Keeps.step (State.sweepKnot_keeps ..)) | split | extract_lets

theorem State.joinRun_keeps (s : State) (row : Row) (lo : ℕ) (hi : ℕ) (cut : Bool) (ids : List ℕ) :
    Keeps 0xECD0000000000000000000000000000000000000000001000202001000C8 s (State.joinRun s row lo hi cut ids).1 := by
  have h0 : Keeps 0xECD0000000000000000000000000000000000000000001000202001000C8 s s := Keeps.refl _ _
  unfold State.joinRun
  extract_lets _ x1
  have h2 : Keeps 0xECD0000000000000000000000000000000000000000001000202001000C8 s x1 := by unfold x1; repeat' first | with_reducible assumption | apply Eq.refl | intro c | (with_reducible first | apply Keeps.step (State.splitOne_keeps ..) | apply Keeps.step (State.setKnots_keeps ..) | apply Keeps.foldl | apply Keeps.foldl_fst)
  try clear_value x1
  repeat' first | with_reducible assumption | apply Eq.refl | intro c | (with_reducible first | apply Keeps.step (State.startCand_keeps ..) | apply Keeps.step (State.kbTouch_keeps ..) | apply Keeps.step (State.setKnots_keeps ..) | apply Keeps.step (State.splitOne_keeps ..) | apply Keeps.step (State.mergeCand_keeps ..) | apply Keeps.ite | apply Keeps.foldl | apply Keeps.foldl_fst) | split | extract_lets

theorem State.runStep_keeps (s : State) (row : Row) (lo : ℕ) (hi : ℕ) (cut : Bool) (strong : Bool) :
    Keeps 0xECD0000000000000000000000000000000000000000001000202001000C8 s (State.runStep s row lo hi cut strong).1 := by
  have h0 : Keeps 0xECD0000000000000000000000000000000000000000001000202001000C8 s s := Keeps.refl _ _
  unfold State.runStep
  repeat' first | with_reducible assumption | apply Eq.refl | (with_reducible first | apply Keeps.step (State.joinRun_keeps ..) | apply Keeps.step (State.setKnots_keeps ..) | apply Keeps.step (State.startCand_keeps ..) | apply Keeps.ite) | split | extract_lets

theorem State.closeCand_keeps (s : State) (c : Cand) (row : Row) (splitL : Bool) (trunc : Bool) :
    Keeps 0x800000000000000000000000000000000000000000000100000000100098 s (State.closeCand s c row splitL trunc) := by
  have h0 : Keeps 0x800000000000000000000000000000000000000000000100000000100098 s s := Keeps.refl _ _
  unfold State.closeCand
  extract_lets _ x1
  have h2 : Keeps 0x800000000000000000000000000000000000000000000100000000100098 s x1 := by unfold x1; repeat' first | with_reducible assumption | apply Eq.refl | with_reducible apply Keeps.step (State.setKnots_keeps ..)
  try clear_value x1
  repeat' first | with_reducible assumption | apply Eq.refl | (with_reducible first | apply Keeps.step (State.setKnots_keeps ..) | apply Keeps.step (State.closeKnot_keeps ..) | apply Keeps.ite) | split | extract_lets

theorem State.fullRuns_keeps (s : State) (c : Cand) (start : ℕ) :
    Keeps 0x100000 s (State.fullRuns s c start) := by
  have h0 : Keeps 0x100000 s s := Keeps.refl _ _
  unfold State.fullRuns
  repeat' first | with_reducible assumption | apply Eq.refl | with_reducible apply Keeps.step (State.setKnots_keeps ..) | extract_lets

theorem State.segment_keeps (s : State) (row : Row) :
    Keeps 0xECD0000000000000000000000000000000000000000001000202001000D8 s (State.segment s row) := by
  have h0 : Keeps 0xECD0000000000000000000000000000000000000000001000202001000D8 s s := Keeps.refl _ _
  unfold State.segment
  extract_lets _ x1 _ x3 x4 x5 _ _ x8
  have h2 : Keeps 0xECD0000000000000000000000000000000000000000001000202001000D8 s x1 := by unfold x1; repeat' first | with_reducible assumption | apply Eq.refl | intro c | (with_reducible first | apply Keeps.step (State.splitOne_keeps ..) | apply Keeps.ite | apply Keeps.foldl | apply Keeps.foldl_fst) | split
  try clear_value x1
  have h4 : Keeps 0xECD0000000000000000000000000000000000000000001000202001000D8 s x3 := by unfold x3; repeat' first | with_reducible assumption | apply Eq.refl | with_reducible apply Keeps.step (State.setKnots_keeps ..)
  try clear_value x3
  have h5 : Keeps 0xECD0000000000000000000000000000000000000000001000202001000D8 s x4.1 := by unfold x4; repeat' first | with_reducible assumption | apply Eq.refl | intro c | (with_reducible first | apply Keeps.step (State.runStep_keeps ..) | apply Keeps.ite | apply Keeps.foldl | apply Keeps.foldl_fst) | split | extract_lets
  try clear_value x4
  have h6 : Keeps 0xECD0000000000000000000000000000000000000000001000202001000D8 s x5 := by unfold x5; repeat' first | with_reducible assumption
  try clear_value x5
  have h9 : Keeps 0xECD0000000000000000000000000000000000000000001000202001000D8 s x8 := by unfold x8; repeat' first | with_reducible assumption | apply Eq.refl | with_reducible apply Keeps.step (State.setKnots_keeps ..)
  try clear_value x8
  repeat' first | with_reducible assumption | apply Eq.refl | intro c | (with_reducible first | apply Keeps.step (State.closeCand_keeps ..) | apply Keeps.step (State.splitOne_keeps ..) | apply Keeps.step (State.fullRuns_keeps ..) | apply Keeps.ite | apply Keeps.foldl | apply Keeps.foldl_fst) | split | extract_lets

theorem State.closeAllOpen_keeps (s : State) :
    Keeps 0x800000000000000000000000000000000000000000000100000000100098 s (State.closeAllOpen s) := by
  have h0 : Keeps 0x800000000000000000000000000000000000000000000100000000100098 s s := Keeps.refl _ _
  unfold State.closeAllOpen
  extract_lets _ _ x2
  have h3 : Keeps 0x800000000000000000000000000000000000000000000100000000100098 s x2 := by unfold x2; repeat' first | with_reducible assumption | apply Eq.refl | with_reducible apply Keeps.step (State.setKnots_keeps ..)
  try clear_value x2
  repeat' first | with_reducible assumption | apply Eq.refl | intro c | (with_reducible first | apply Keeps.step (State.closeCand_keeps ..) | apply Keeps.foldl) | split | extract_lets

theorem State.pruneRows_keeps (s : State) :
    Keeps 0x100000 s (State.pruneRows s) := by
  have h0 : Keeps 0x100000 s s := Keeps.refl _ _
  unfold State.pruneRows
  repeat' first | with_reducible assumption | apply Eq.refl | with_reducible apply Keeps.step (State.setKnots_keeps ..) | extract_lets

theorem State.dropKnots_keeps (s : State) :
    Keeps 0x8C50000000000000000000000000000000000000000001000002001000C8 s (State.dropKnots s) := by
  have h0 : Keeps 0x8C50000000000000000000000000000000000000000001000002001000C8 s s := Keeps.refl _ _
  unfold State.dropKnots
  extract_lets _ _ x2
  have h3 : Keeps 0x8C50000000000000000000000000000000000000000001000002001000C8 s x2 := by unfold x2; repeat' first | with_reducible assumption | apply Eq.refl | intro c | with_reducible apply State.bumpBy_keeps | ((with_reducible apply Has.fam (KNT_DROPCNT_COUNT_cls ..)); exact Eq.refl true)
  try clear_value x2
  repeat' first | with_reducible assumption | apply Eq.refl | (with_reducible first | apply Keeps.step (State.occShow_keeps ..) | apply Keeps.step (State.setKnots_keeps ..)) | extract_lets

theorem State.refUpdate_keeps (s : State) (row : Row) :
    Keeps 0x8000 s (State.refUpdate s row) := by
  have h0 : Keeps 0x8000 s s := Keeps.refl _ _
  unfold State.refUpdate
  repeat' first | with_reducible assumption | apply Eq.refl | with_reducible apply Keeps.ite | split | extract_lets | with_reducible apply Keeps.put_trk

theorem State.setClsWord_keeps (s : State) (bank : ℕ) (c : ℕ) (w : ℕ) (v : ℕ) :
    Keeps 0x200000 s (State.setClsWord s bank c w v) := by
  have h0 : Keeps 0x200000 s s := Keeps.refl _ _
  unfold State.setClsWord
  repeat' first | (with_reducible first | assumption | apply mwf_mset | apply Canon.cls | apply Canon.map | apply Keeps.canon) | apply Eq.refl | intro c | extract_lets | with_reducible apply Keeps.put_sched

theorem State.scoreKnot_keeps (s : State) (q : Closed) (flags : ℕ) :
    Keeps 0x3180000000000000000000000000000000000000000000001000002000000D8 s (State.scoreKnot s q flags).1 := by
  have h0 : Keeps 0x3180000000000000000000000000000000000000000000001000002000000D8 s s := Keeps.refl _ _
  unfold State.scoreKnot
  extract_lets _ _ _ _ x4 x5
  have h5 : Keeps 0x3180000000000000000000000000000000000000000000001000002000000D8 s x4.2 := by unfold x4; repeat' first | with_reducible assumption | apply Eq.refl | with_reducible apply Keeps.step (State.draw_keeps ..)
  try clear_value x4
  have h6 : Keeps 0x3180000000000000000000000000000000000000000000001000002000000D8 s x5 := by unfold x5; repeat' first | with_reducible assumption | apply Eq.refl | intro c | (with_reducible first | apply State.bump_keeps | apply State.set_keeps) | ((with_reducible apply Has.fam (VRD_NOELIGCNT_COUNT_cls ..)); exact Eq.refl true) | ((with_reducible apply Has.fam (VRD_STAT_NOELIG_cls ..)); exact Eq.refl true)
  try clear_value x5
  repeat' first | with_reducible assumption | apply Eq.refl | intro c | (with_reducible first | apply State.bump_keeps | apply State.set_keeps | apply Keeps.step (State.raise_keeps ..) | apply Keeps.ite) | ((with_reducible apply Has.fam (VRD_FORCECNT_COUNT_cls ..)); exact Eq.refl true) | ((with_reducible apply Has.fam (VRD_STAT_FORCED_cls ..)); exact Eq.refl true) | split | extract_lets

theorem State.logVerdict_keeps (s : State) (ws : List ℕ) :
    Keeps 0x60000000000000000000000000000000000000000000000100000000200088 s (State.logVerdict s ws) := by
  have h0 : Keeps 0x60000000000000000000000000000000000000000000000100000000200088 s s := Keeps.refl _ _
  unfold State.logVerdict
  extract_lets _ _ x2
  have h3 : Keeps 0x60000000000000000000000000000000000000000000000100000000200088 s x2 := by unfold x2; repeat' first | with_reducible assumption | apply Eq.refl | intro c | (with_reducible first | apply Keeps.step (State.wordWritten_keeps ..) | apply Keeps.foldl)
  try clear_value x2
  repeat' first | (with_reducible first | assumption | apply mwf_mset | apply Canon.cls | apply Canon.map | apply Keeps.canon) | apply Eq.refl | intro c | (with_reducible first | apply State.bump_keeps | apply State.incr_keeps) | ((with_reducible apply Has.fam (VRD_LOGHEAD_TOTAL_cls ..)); exact Eq.refl true) | ((with_reducible apply Has.fam (VRD_LOGHEAD_NEXT_cls ..)); exact Eq.refl true) | extract_lets | with_reducible apply Keeps.put_sched

theorem State.kbRead_keeps (s : State) (slot : ℕ) :
    Keeps 0x7E0000800000000000000000000000000000000000000000000000000000000000001010002000000C8 s (State.kbRead s slot).1 := by
  have h0 : Keeps 0x7E0000800000000000000000000000000000000000000000000000000000000000001010002000000C8 s s := Keeps.refl _ _
  unfold State.kbRead
  repeat' first | with_reducible assumption | apply Eq.refl | intro c | (with_reducible first | apply Keeps.step (State.memRead_keeps ..) | apply Keeps.step (State.kbTouch_keeps ..) | apply Keeps.foldl | apply Keeps.foldl_fst) | extract_lets

theorem State.finalFlags_keeps (s : State) (q : Closed) :
    Keeps 0x7E0002800000000000000000000000000000000000000000000000000000000000001010002000000C8 s (State.finalFlags s q).1 := by
  have h0 : Keeps 0x7E0002800000000000000000000000000000000000000000000000000000000000001010002000000C8 s s := Keeps.refl _ _
  unfold State.finalFlags
  extract_lets x0 x1
  have h1 : Keeps 0x7E0002800000000000000000000000000000000000000000000000000000000000001010002000000C8 s x0.1 := by unfold x0; repeat' first | with_reducible assumption | apply Eq.refl | with_reducible apply Keeps.step (State.kbRead_keeps ..)
  try clear_value x0
  have h2 : Keeps 0x7E0002800000000000000000000000000000000000000000000000000000000000001010002000000C8 s x1.1 := by unfold x1; repeat' first | with_reducible assumption | apply Eq.refl | with_reducible apply Keeps.step (State.tableReads_keeps ..)
  try clear_value x1
  repeat' first | with_reducible assumption | with_reducible apply Keeps.ite | split

theorem State.verdictOf_keeps (s : State) (q : Closed) :
    Keeps 0x7E0002800000000000003F89C50000000000000000000000000000000000000000001010802003000D8 s (State.verdictOf s q).1 := by
  have h0 : Keeps 0x7E0002800000000000003F89C50000000000000000000000000000000000000000001010802003000D8 s s := Keeps.refl _ _
  unfold State.verdictOf
  extract_lets x0 x1 _ x3 _ x5
  have h1 : Keeps 0x7E0002800000000000003F89C50000000000000000000000000000000000000000001010802003000D8 s x0.1 := by unfold x0; repeat' first | with_reducible assumption | apply Eq.refl | with_reducible apply Keeps.step (State.finalFlags_keeps ..)
  try clear_value x0
  have h2 : Keeps 0x7E0002800000000000003F89C50000000000000000000000000000000000000000001010802003000D8 s x1.1 := by unfold x1; repeat' first | with_reducible assumption | apply Eq.refl | with_reducible apply Keeps.step (State.scoreKnot_keeps ..)
  try clear_value x1
  have h4 : Keeps 0x7E0002800000000000003F89C50000000000000000000000000000000000000000001010802003000D8 s x3 := by unfold x3; repeat' first | with_reducible assumption | apply Eq.refl | intro c | (with_reducible first | apply State.bump_keeps | apply State.incr_keeps) | ((with_reducible apply Has.fam (KNT_CLOSED_COUNT_cls ..)); exact Eq.refl true) | ((with_reducible apply Has.fam (VRD_CLSCNT_COUNT_cls ..)); exact Eq.refl true) | ((with_reducible apply Has.fam (VRD_SEQ_NEXT_cls ..)); exact Eq.refl true)
  try clear_value x3
  have h6 : Keeps 0x7E0002800000000000003F89C50000000000000000000000000000000000000000001010802003000D8 s x5 := by unfold x5; repeat' first | with_reducible assumption | apply Eq.refl | (with_reducible first | apply Keeps.step (State.logVerdict_keeps ..) | apply Keeps.ite) | split
  try clear_value x5
  repeat' first | with_reducible assumption | apply Eq.refl | (with_reducible first | apply Keeps.step (State.sweepKnots_keeps ..) | apply Keeps.step (State.setKnots_keeps ..)) | extract_lets

theorem State.vrdSwitchS_keeps (s : State) :
    Keeps 0x6000000000000000000000000000000000000000000000000000000200008 s (State.vrdSwitchS s) := by
  have h0 : Keeps 0x6000000000000000000000000000000000000000000000000000000200008 s s := Keeps.refl _ _
  unfold State.vrdSwitchS
  repeat' first | (with_reducible first | assumption | apply mwf_mset | apply Canon.cls | apply Canon.map | apply Keeps.canon) | apply Eq.refl | intro c | (with_reducible first | apply State.set_keeps | apply Keeps.ite) | ((with_reducible apply Has.fam (VRD_STAT_WRERR_cls ..)); exact Eq.refl true) | ((with_reducible apply Has.fam (VRD_CTRL_SWPEND_cls ..)); exact Eq.refl true) | split | extract_lets | with_reducible apply Keeps.put_sched

theorem State.bankBoundary_keeps (s : State) :
    Keeps 0xC003000000000000000000000000000000000000000000000000000000200008 s (State.bankBoundary s) := by
  have h0 : Keeps 0xC003000000000000000000000000000000000000000000000000000000200008 s s := Keeps.refl _ _
  unfold State.bankBoundary
  extract_lets _ x1
  have h2 : Keeps 0xC003000000000000000000000000000000000000000000000000000000200008 s x1 := by unfold x1; repeat' first | (with_reducible first | assumption | apply mwf_mset | apply Canon.cls | apply Canon.map | apply Keeps.canon) | apply Eq.refl | intro c | (with_reducible first | apply State.set_keeps | apply Keeps.ite) | ((with_reducible apply Has.fam (VRD_CTRL_ACTBANK_cls ..)); exact Eq.refl true) | ((with_reducible apply Has.fam (VRD_CTRL_SWPEND_cls ..)); exact Eq.refl true) | split | with_reducible apply Keeps.put_sched
  try clear_value x1
  repeat' first | (with_reducible first | assumption | apply mwf_mset | apply Canon.cls | apply Canon.map | apply Keeps.canon) | apply Eq.refl | intro c | (with_reducible first | apply State.set_keeps | apply Keeps.ite) | ((with_reducible apply Has.fam (EJS_CTRL_MAPACT_cls ..)); exact Eq.refl true) | ((with_reducible apply Has.fam (EJS_CTRL_MAPPEND_cls ..)); exact Eq.refl true) | split | extract_lets | with_reducible apply Keeps.put_sched

theorem State.kntThrW_keeps (s : State) (v : Word) :
    Keeps 0x32000000000000000000000000000000000000000000000000000040008 s (State.kntThrW s v) := by
  have h0 : Keeps 0x32000000000000000000000000000000000000000000000000000040008 s s := Keeps.refl _ _
  unfold State.kntThrW
  repeat' first | with_reducible assumption | apply Eq.refl | intro c | (with_reducible first | apply State.set_keeps | apply State.stageFld_keeps | apply Keeps.ite) | ((with_reducible apply Has.fam (KNT_STAT_WRERR_cls ..)); exact Eq.refl true) | ((with_reducible apply Has.fam (KNT_THR_CLOSE_cls ..)); exact Eq.refl true) | ((with_reducible apply Has.fam (KNT_THR_OPEN_cls ..)); exact Eq.refl true) | split

theorem State.atSecond_keeps (s : State) (k : ℕ) :
    Keeps 0x4 s (State.atSecond s k) := by
  have h0 : Keeps 0x4 s s := Keeps.refl _ _
  unfold State.atSecond
  repeat' first | with_reducible assumption | apply Eq.refl | with_reducible apply Keeps.step (State.advance_keeps ..)

theorem State.phContribute_keeps (s : State) (kstamp : ℕ) (mean : ℕ) :
    Keeps 0x20000 s (State.phContribute s kstamp mean) := by
  have h0 : Keeps 0x20000 s s := Keeps.refl _ _
  unfold State.phContribute
  repeat' first | with_reducible assumption | apply Eq.refl | with_reducible apply Keeps.ite | split | extract_lets | with_reducible apply Keeps.put_loops

theorem State.phValid_keeps (s : State) (pv : ℕ) :
    Keeps 0x310700000000000000000000000000000000000000000000000000000000000000000000000000000000000000000000000000000000008 s (State.phValid s pv) := by
  have h0 : Keeps 0x310700000000000000000000000000000000000000000000000000000000000000000000000000000000000000000000000000000000008 s s := Keeps.refl _ _
  unfold State.phValid
  extract_lets x0
  have h1 : Keeps 0x310700000000000000000000000000000000000000000000000000000000000000000000000000000000000000000000000000000000008 s x0 := by unfold x0; repeat' first | with_reducible assumption | apply Eq.refl | intro c | with_reducible apply State.set_keeps | ((with_reducible apply Has.fam (LOOP_STAT_PHINV_cls ..)); exact Eq.refl true) | ((with_reducible apply Has.fam (LOOP_STAT_PHSTALE_cls ..)); exact Eq.refl true) | ((with_reducible apply Has.fam (LOOP_STAT_PHVALID_cls ..)); exact Eq.refl true)
  try clear_value x0
  repeat' first | with_reducible assumption | apply Eq.refl | intro c | (with_reducible first | apply State.setB_keeps | apply State.set_keeps | apply Keeps.ite) | ((with_reducible apply Has.fam (LOOP_STAT_PHSAT_cls ..)); exact Eq.refl true) | ((with_reducible apply Has.fam (LOOP_PHU_I_cls ..)); exact Eq.refl true) | ((with_reducible apply Has.fam (LOOP_PHU_U_cls ..)); exact Eq.refl true) | split | extract_lets

theorem State.phInvalid_keeps (s : State) :
    Keeps 0x1103000000000000000000000000000000000000000000000000000000000000000000000000000000000000000000001000002000000C8 s (State.phInvalid s) := by
  have h0 : Keeps 0x1103000000000000000000000000000000000000000000000000000000000000000000000000000000000000000000001000002000000C8 s s := Keeps.refl _ _
  unfold State.phInvalid
  extract_lets x0 x1
  have h1 : Keeps 0x1103000000000000000000000000000000000000000000000000000000000000000000000000000000000000000000001000002000000C8 s x0 := by unfold x0; repeat' first | with_reducible assumption | apply Eq.refl | intro c | (with_reducible first | apply State.bump_keeps | apply State.set_keeps) | ((with_reducible apply Has.fam (LOOP_STAT_PHINV_cls ..)); exact Eq.refl true) | ((with_reducible apply Has.fam (LOOP_STAT_PHVALID_cls ..)); exact Eq.refl true)
  try clear_value x0
  have h2 : Keeps 0x1103000000000000000000000000000000000000000000000000000000000000000000000000000000000000000000001000002000000C8 s x1 := by unfold x1; repeat' first | with_reducible assumption | apply Eq.refl | intro c | (with_reducible first | apply Keeps.step (State.raise_keeps ..) | apply State.set_keeps | apply Keeps.ite) | ((with_reducible apply Has.fam (LOOP_STAT_PHSTALE_cls ..)); exact Eq.refl true) | split
  try clear_value x1
  repeat' first | with_reducible assumption | apply Eq.refl | intro c | (with_reducible first | apply State.set_keeps | apply Keeps.ite) | ((with_reducible apply Has.fam (LOOP_PHU_U_cls ..)); exact Eq.refl true) | split

theorem State.phWindow_keeps (s : State) :
    Keeps 0x3D07000000000000000000000000000000000000000000000000000000000000000000000000000000000000000000001000002000200CC s (State.phWindow s) := by
  have h0 : Keeps 0x3D07000000000000000000000000000000000000000000000000000000000000000000000000000000000000000000001000002000200CC s s := Keeps.refl _ _
  unfold State.phWindow
  extract_lets _ _ _ _ x4 _ x6 x7
  have h5 : Keeps 0x3D07000000000000000000000000000000000000000000000000000000000000000000000000000000000000000000001000002000200CC s x4 := by unfold x4; repeat' first | with_reducible assumption | apply Eq.refl | with_reducible apply Keeps.step (State.atSecond_keeps ..)
  try clear_value x4
  have h7 : Keeps 0x3D07000000000000000000000000000000000000000000000000000000000000000000000000000000000000000000001000002000200CC s x6 := by unfold x6; repeat' first | with_reducible assumption | apply Eq.refl | with_reducible apply Keeps.put_loops
  try clear_value x6
  have h8 : Keeps 0x3D07000000000000000000000000000000000000000000000000000000000000000000000000000000000000000000001000002000200CC s x7 := by unfold x7; repeat' first | with_reducible assumption | apply Eq.refl | intro c | with_reducible apply State.set_keeps | ((with_reducible apply Has.fam (LOOP_PHPV_N_cls ..)); exact Eq.refl true) | ((with_reducible apply Has.fam (LOOP_PHPV_PV_cls ..)); exact Eq.refl true)
  try clear_value x7
  repeat' first | with_reducible assumption | apply Eq.refl | (with_reducible first | apply Keeps.step (State.phValid_keeps ..) | apply Keeps.step (State.phInvalid_keeps ..) | apply Keeps.ite) | split | extract_lets

theorem State.bkReading_keeps (s : State) (t : ℕ) :
    Keeps 0x20000 s (State.bkReading s t) := by
  have h0 : Keeps 0x20000 s s := Keeps.refl _ _
  unfold State.bkReading
  repeat' first | with_reducible assumption | apply Eq.refl | extract_lets | with_reducible apply Keeps.put_loops

theorem State.bkValid_keeps (s : State) (pv : ℕ) :
    Keeps 0x3802800000000000000000000000000000000000000000000000000000000000000000000000000000000000000000000000000000020008 s (State.bkValid s pv) := by
  have h0 : Keeps 0x3802800000000000000000000000000000000000000000000000000000000000000000000000000000000000000000000000000000020008 s s := Keeps.refl _ _
  unfold State.bkValid
  extract_lets _ x1 x2 _ _ x5
  have h2 : Keeps 0x3802800000000000000000000000000000000000000000000000000000000000000000000000000000000000000000000000000000020008 s x1 := by unfold x1; repeat' first | with_reducible assumption | apply Eq.refl | with_reducible apply Keeps.put_loops
  try clear_value x1
  have h3 : Keeps 0x3802800000000000000000000000000000000000000000000000000000000000000000000000000000000000000000000000000000020008 s x2 := by unfold x2; repeat' first | with_reducible assumption | apply Eq.refl | intro c | with_reducible apply State.set_keeps | ((with_reducible apply Has.fam (LOOP_BKPV_PV_cls ..)); exact Eq.refl true) | ((with_reducible apply Has.fam (LOOP_STAT_BKVALID_cls ..)); exact Eq.refl true)
  try clear_value x2
  have h6 : Keeps 0x3802800000000000000000000000000000000000000000000000000000000000000000000000000000000000000000000000000000020008 s x5 := by unfold x5; repeat' first | with_reducible assumption | apply Eq.refl | intro c | (with_reducible first | apply State.setB_keeps | apply State.set_keeps) | ((with_reducible apply Has.fam (LOOP_STAT_BKSAT_cls ..)); exact Eq.refl true) | ((with_reducible apply Has.fam (LOOP_BKU_I_cls ..)); exact Eq.refl true) | ((with_reducible apply Has.fam (LOOP_BKU_U_cls ..)); exact Eq.refl true)
  try clear_value x5
  repeat' first | with_reducible assumption | apply Eq.refl | intro c | (with_reducible first | apply State.set_keeps | apply Keeps.ite) | ((with_reducible apply Has.fam (LOOP_BKU_U_cls ..)); exact Eq.refl true) | split | extract_lets

theorem State.bkInvalid_keeps (s : State) :
    Keeps 0x10008000000000000000000000000000000000000000000000000000000000000000000000000000000000000000000001000002000200C8 s (State.bkInvalid s) := by
  have h0 : Keeps 0x10008000000000000000000000000000000000000000000000000000000000000000000000000000000000000000000001000002000200C8 s s := Keeps.refl _ _
  unfold State.bkInvalid
  extract_lets _ x1 x2
  have h2 : Keeps 0x10008000000000000000000000000000000000000000000000000000000000000000000000000000000000000000000001000002000200C8 s x1 := by unfold x1; repeat' first | with_reducible assumption | apply Eq.refl | intro c | with_reducible apply State.set_keeps | ((with_reducible apply Has.fam (LOOP_STAT_BKVALID_cls ..)); exact Eq.refl true) | with_reducible apply Keeps.put_loops
  try clear_value x1
  have h3 : Keeps 0x10008000000000000000000000000000000000000000000000000000000000000000000000000000000000000000000001000002000200C8 s x2 := by unfold x2; repeat' first | with_reducible assumption | apply Eq.refl | intro c | (with_reducible first | apply State.set_keeps | apply Keeps.ite) | ((with_reducible apply Has.fam (LOOP_BKU_U_cls ..)); exact Eq.refl true) | split
  try clear_value x2
  repeat' first | with_reducible assumption | apply Eq.refl | intro c | (with_reducible first | apply State.set_keeps | apply Keeps.step (State.raise_keeps ..) | apply Keeps.ite) | ((with_reducible apply Has.fam (LOOP_STAT_BKVALID_cls ..)); exact Eq.refl true) | split | extract_lets | with_reducible apply Keeps.put_loops

theorem State.bkUpdate_keeps (s : State) :
    Keeps 0x38028000000000000000000000000000000000000000000000000000000000000000000000000000000000000000000001000002000200CC s (State.bkUpdate s) := by
  have h0 : Keeps 0x38028000000000000000000000000000000000000000000000000000000000000000000000000000000000000000000001000002000200CC s s := Keeps.refl _ _
  unfold State.bkUpdate
  extract_lets _ _ x2 _ x4
  have h3 : Keeps 0x38028000000000000000000000000000000000000000000000000000000000000000000000000000000000000000000001000002000200CC s x2 := by unfold x2; repeat' first | with_reducible assumption | apply Eq.refl | with_reducible apply Keeps.step (State.atSecond_keeps ..)
  try clear_value x2
  have h5 : Keeps 0x38028000000000000000000000000000000000000000000000000000000000000000000000000000000000000000000001000002000200CC s x4 := by unfold x4; repeat' first | with_reducible assumption | apply Eq.refl | with_reducible apply Keeps.put_loops
  try clear_value x4
  repeat' first | with_reducible assumption | apply Eq.refl | (with_reducible first | apply Keeps.step (State.bkInvalid_keeps ..) | apply Keeps.step (State.bkValid_keeps ..) | apply Keeps.ite) | split | extract_lets

theorem State.bkLimit_keeps (s : State) (code : ℕ) :
    Keeps 0x10010000000000000000000000000000000000000000000000000000000000000000000000000000000000000000000001000002000200C8 s (State.bkLimit s code) := by
  have h0 : Keeps 0x10010000000000000000000000000000000000000000000000000000000000000000000000000000000000000000000001000002000200C8 s s := Keeps.refl _ _
  unfold State.bkLimit
  extract_lets _ x1 _ x3 _ x5
  have h2 : Keeps 0x10010000000000000000000000000000000000000000000000000000000000000000000000000000000000000000000001000002000200C8 s x1 := by unfold x1; repeat' first | with_reducible assumption | apply Eq.refl | intro c | with_reducible apply State.set_keeps | ((with_reducible apply Has.fam (LOOP_BKU_U_cls ..)); exact Eq.refl true)
  try clear_value x1
  have h4 : Keeps 0x10010000000000000000000000000000000000000000000000000000000000000000000000000000000000000000000001000002000200C8 s x3 := by unfold x3; repeat' first | with_reducible assumption | apply Eq.refl | with_reducible apply Keeps.put_loops
  try clear_value x3
  have h6 : Keeps 0x10010000000000000000000000000000000000000000000000000000000000000000000000000000000000000000000001000002000200C8 s x5 := by unfold x5; repeat' first | with_reducible assumption | apply Eq.refl | intro c | with_reducible apply State.set_keeps | ((with_reducible apply Has.fam (LOOP_STAT_BKOVER_cls ..)); exact Eq.refl true)
  try clear_value x5
  repeat' first | with_reducible assumption | apply Eq.refl | intro c | (with_reducible first | apply Keeps.step (State.raise_keeps ..) | apply State.set_keeps | apply Keeps.ite) | ((with_reducible apply Has.fam (LOOP_STAT_BKOVER_cls ..)); exact Eq.refl true) | ((with_reducible apply Has.fam (LOOP_BKU_U_cls ..)); exact Eq.refl true) | split | extract_lets

theorem State.periodStart_keeps (s : State) (o : ℕ) :
    Keeps 0x20004 s (State.periodStart s o) := by
  have h0 : Keeps 0x20004 s s := Keeps.refl _ _
  unfold State.periodStart
  extract_lets _ x1
  have h2 : Keeps 0x20004 s x1 := by unfold x1; repeat' first | with_reducible assumption | apply Eq.refl | with_reducible apply Keeps.step (State.advance_keeps ..)
  try clear_value x1
  repeat' first | with_reducible assumption | apply Eq.refl | with_reducible apply Keeps.ite | split | extract_lets | with_reducible apply Keeps.put_loops

theorem State.outputOff_keeps (s : State) (o : ℕ) :
    Keeps 0x20004 s (State.outputOff s o) := by
  have h0 : Keeps 0x20004 s s := Keeps.refl _ _
  unfold State.outputOff
  extract_lets _ x1
  have h2 : Keeps 0x20004 s x1 := by unfold x1; repeat' first | with_reducible assumption | apply Eq.refl | with_reducible apply Keeps.step (State.advance_keeps ..)
  try clear_value x1
  repeat' first | with_reducible assumption | apply Eq.refl | with_reducible apply Keeps.ite | split | extract_lets | with_reducible apply Keeps.put_loops

theorem State.loopClr_keeps (s : State) (ph : Bool) (bk : Bool) :
    Keeps 0x2200000000000000000000000000000000000000000000000000000000000000000000000000000000000000000000000000000000000008 s (State.loopClr s ph bk) := by
  have h0 : Keeps 0x2200000000000000000000000000000000000000000000000000000000000000000000000000000000000000000000000000000000000008 s s := Keeps.refl _ _
  unfold State.loopClr
  extract_lets x0
  have h1 : Keeps 0x2200000000000000000000000000000000000000000000000000000000000000000000000000000000000000000000000000000000000008 s x0 := by unfold x0; repeat' first | with_reducible assumption | apply Eq.refl | intro c | (with_reducible first | apply State.set_keeps | apply Keeps.ite) | ((with_reducible apply Has.fam (LOOP_PHU_I_cls ..)); exact Eq.refl true) | split
  try clear_value x0
  repeat' first | with_reducible assumption | apply Eq.refl | intro c | (with_reducible first | apply State.set_keeps | apply Keeps.ite) | ((with_reducible apply Has.fam (LOOP_BKU_I_cls ..)); exact Eq.refl true) | split

theorem State.manShow_keeps (s : State) :
    Keeps 0x1100000000000000000000000000000000000000000000000000000000000000000000000000000000000000000000000000000000000008 s (State.manShow s) := by
  have h0 : Keeps 0x1100000000000000000000000000000000000000000000000000000000000000000000000000000000000000000000000000000000000008 s s := Keeps.refl _ _
  unfold State.manShow
  extract_lets x0
  have h1 : Keeps 0x1100000000000000000000000000000000000000000000000000000000000000000000000000000000000000000000000000000000000008 s x0 := by unfold x0; repeat' first | with_reducible assumption | apply Eq.refl | intro c | (with_reducible first | apply State.set_keeps | apply Keeps.ite) | ((with_reducible apply Has.fam (LOOP_PHU_U_cls ..)); exact Eq.refl true) | split
  try clear_value x0
  repeat' first | with_reducible assumption | apply Eq.refl | intro c | (with_reducible first | apply State.set_keeps | apply Keeps.ite) | ((with_reducible apply Has.fam (LOOP_BKU_U_cls ..)); exact Eq.refl true) | split

theorem State.loopCtrlW_keeps (s : State) (v : Word) :
    Keeps 0x7FFFFFFFFFFFFFFFFFFFFFFFFFFFFFFFFFFFFFFFFFFFFFFFFFFFFFFFFFFFFFFFFFFFFFFFFFFFFFFFFFFFFFFFFFFFFFFFFFFFF7FFFFF00020008 s (State.loopCtrlW s v) := by
  have h0 : Keeps 0x7FFFFFFFFFFFFFFFFFFFFFFFFFFFFFFFFFFFFFFFFFFFFFFFFFFFFFFFFFFFFFFFFFFFFFFFFFFFFFFFFFFFFFFFFFFFFFFFFFFFF7FFFFF00020008 s s := Keeps.refl _ _
  unfold State.loopCtrlW
  extract_lets _ _ _ x3 x4 x5 _ _ _ _ x10
  have h4 : Keeps 0x7FFFFFFFFFFFFFFFFFFFFFFFFFFFFFFFFFFFFFFFFFFFFFFFFFFFFFFFFFFFFFFFFFFFFFFFFFFFFFFFFFFFFFFFFFFFFFFFFFFFF7FFFFF00020008 s x3 := by unfold x3; repeat' first | with_reducible assumption | apply Eq.refl | with_reducible apply Keeps.step (State.writeFlds_keeps ..)
  try clear_value x3
  have h5 : Keeps 0x7FFFFFFFFFFFFFFFFFFFFFFFFFFFFFFFFFFFFFFFFFFFFFFFFFFFFFFFFFFFFFFFFFFFFFFFFFFFFFFFFFFFFFFFFFFFFFFFFFFFF7FFFFF00020008 s x4 := by unfold x4; repeat' first | with_reducible assumption | apply Eq.refl | intro c | (with_reducible first | apply State.set_keeps | apply Keeps.ite) | ((with_reducible apply Has.fam (LOOP_PHU_I_cls ..)); exact Eq.refl true) | split
  try clear_value x4
  have h6 : Keeps 0x7FFFFFFFFFFFFFFFFFFFFFFFFFFFFFFFFFFFFFFFFFFFFFFFFFFFFFFFFFFFFFFFFFFFFFFFFFFFFFFFFFFFFFFFFFFFFFFFFFFFF7FFFFF00020008 s x5 := by unfold x5; repeat' first | with_reducible assumption | apply Eq.refl | intro c | (with_reducible first | apply State.set_keeps | apply Keeps.ite) | ((with_reducible apply Has.fam (LOOP_BKU_I_cls ..)); exact Eq.refl true) | split
  try clear_value x5
  have h11 : Keeps 0x7FFFFFFFFFFFFFFFFFFFFFFFFFFFFFFFFFFFFFFFFFFFFFFFFFFFFFFFFFFFFFFFFFFFFFFFFFFFFFFFFFFFFFFFFFFFFFFFFFFFF7FFFFF00020008 s x10 := by unfold x10; repeat' first | with_reducible assumption | apply Eq.refl | with_reducible apply Keeps.step (State.manShow_keeps ..) | with_reducible apply Keeps.put_loops
  try clear_value x10
  repeat' first | with_reducible assumption | apply Eq.refl | intro c | (with_reducible first | apply State.set_keeps | apply Keeps.step (State.loopClr_keeps ..) | apply Keeps.ite) | ((with_reducible apply Has.fam (LOOP_STAT_WRERR_cls ..)); exact Eq.refl true) | split | extract_lets

theorem State.loopSetW_keeps (s : State) (a : ℕ) (v : ℕ) :
    Keeps 0x7FFFFFFFFFFFFFFFFFFFFFFFFFFFFFFFFFFFFFFFFFFFFFFFFFFFFFFFFFFFFFFFFFFFFFFFFFFFFFFFFFFFFFFFFFFFFFFFFFFFF7FFFFF00000008 s (State.loopSetW s a v) := by
  have h0 : Keeps 0x7FFFFFFFFFFFFFFFFFFFFFFFFFFFFFFFFFFFFFFFFFFFFFFFFFFFFFFFFFFFFFFFFFFFFFFFFFFFFFFFFFFFFFFFFFFFFFFFFFFFF7FFFFF00000008 s s := Keeps.refl _ _
  unfold State.loopSetW
  extract_lets _ x1 x2
  have h2 : Keeps 0x7FFFFFFFFFFFFFFFFFFFFFFFFFFFFFFFFFFFFFFFFFFFFFFFFFFFFFFFFFFFFFFFFFFFFFFFFFFFFFFFFFFFFFFFFFFFFFFFFFFFF7FFFFF00000008 s x1 := by unfold x1; repeat' first | with_reducible assumption | apply Eq.refl | with_reducible apply Keeps.step (State.writeFlds_keeps ..)
  try clear_value x1
  have h3 : Keeps 0x7FFFFFFFFFFFFFFFFFFFFFFFFFFFFFFFFFFFFFFFFFFFFFFFFFFFFFFFFFFFFFFFFFFFFFFFFFFFFFFFFFFFFFFFFFFFFFFFFFFFF7FFFFF00000008 s x2 := by unfold x2; repeat' first | with_reducible assumption | apply Eq.refl | intro c | (with_reducible first | apply State.set_keeps | apply Keeps.ite) | ((with_reducible apply Has.fam (LOOP_PHWIN_MINN_cls ..)); exact Eq.refl true) | split
  try clear_value x2
  repeat' first | with_reducible assumption | apply Eq.refl | intro c | (with_reducible first | apply State.set_keeps | apply Keeps.step (State.manShow_keeps ..) | apply Keeps.ite) | ((with_reducible apply Has.fam (LOOP_STAT_WRERR_cls ..)); exact Eq.refl true) | ((with_reducible apply Has.fam (LOOP_PHCFG_STALE_cls ..)); exact Eq.refl true) | split | extract_lets

theorem State.mapReads_keeps (s : State) (lo : ℕ) (hi : ℕ) :
    Keeps 0x7E0002800000000000000000000000000000000000000000000000000000000000001010002000000C8 s (State.mapReads s lo hi) := by
  have h0 : Keeps 0x7E0002800000000000000000000000000000000000000000000000000000000000001010002000000C8 s s := Keeps.refl _ _
  unfold State.mapReads
  repeat' first | with_reducible assumption | apply Eq.refl | intro c | (with_reducible first | apply Keeps.step (State.tableRead_keeps ..) | apply Keeps.foldl) | extract_lets

theorem State.setQueue_keeps (s : State) (c : ℕ) (q : List Entry) :
    Keeps 0x6000000000000000000000000000000000000000000000000000000000200000200008 s (State.setQueue s c q) := by
  have h0 : Keeps 0x6000000000000000000000000000000000000000000000000000000000200000200008 s s := Keeps.refl _ _
  unfold State.setQueue
  extract_lets _ x1 _ x3
  have h2 : Keeps 0x6000000000000000000000000000000000000000000000000000000000200000200008 s x1 := by unfold x1; repeat' first | (with_reducible first | assumption | apply mwf_mset | apply Canon.cls | apply Canon.map | apply Keeps.canon) | apply Eq.refl | intro c | with_reducible apply Keeps.put_sched
  try clear_value x1
  have h4 : Keeps 0x6000000000000000000000000000000000000000000000000000000000200000200008 s x3 := by unfold x3; repeat' first | with_reducible assumption | apply Eq.refl | intro c | with_reducible apply State.set_keeps | ((with_reducible apply Has.fam (VLV_STAT_QOCC_cls ..)); exact Eq.refl true)
  try clear_value x3
  repeat' first | with_reducible assumption | apply Eq.refl | intro c | (with_reducible first | apply State.set_keeps | apply Keeps.ite) | ((with_reducible apply Has.fam (EJS_QOCC_MAXCH_cls ..)); exact Eq.refl true) | ((with_reducible apply Has.fam (EJS_QOCC_MAX_cls ..)); exact Eq.refl true) | split | extract_lets

theorem State.schedDrop_keeps (s : State) (c : ℕ) :
    Keeps 0x400200000000000000000000000000000000000000000000000001002002000000C8 s (State.schedDrop s c) := by
  have h0 : Keeps 0x400200000000000000000000000000000000000000000000000001002002000000C8 s s := Keeps.refl _ _
  unfold State.schedDrop
  repeat' first | with_reducible assumption | apply Eq.refl | intro c | (with_reducible first | apply Keeps.step (State.raise_keeps ..) | apply State.set_keeps | apply State.bump_keeps) | ((with_reducible apply Has.fam (VLV_STAT_LASTDROP_cls ..)); exact Eq.refl true) | ((with_reducible apply Has.fam (EJS_STAT_DROP_cls ..)); exact Eq.refl true) | ((with_reducible apply Has.fam (EJS_DROPCNT_COUNT_cls ..)); exact Eq.refl true)

theorem State.clipOne_keeps (s : State) :
    Keeps 0x100080000000000000000000000000000000000000000000000000000000000000008 s (State.clipOne s) := by
  have h0 : Keeps 0x100080000000000000000000000000000000000000000000000000000000000000008 s s := Keeps.refl _ _
  unfold State.clipOne
  repeat' first | with_reducible assumption | apply Eq.refl | intro c | (with_reducible first | apply State.set_keeps | apply State.bump_keeps) | ((with_reducible apply Has.fam (EJS_STAT_CLIP_cls ..)); exact Eq.refl true) | ((with_reducible apply Has.fam (EJS_CLIPCNT_COUNT_cls ..)); exact Eq.refl true)

theorem State.placeEntry_keeps (s : State) (c : ℕ) (w : Entry) :
    Keeps 0x60500200000000000000000000000000000000000000000000000001002002002000C8 s (State.placeEntry s c w).1 := by
  have h0 : Keeps 0x60500200000000000000000000000000000000000000000000000001002002002000C8 s s := Keeps.refl _ _
  unfold State.placeEntry
  repeat' first | with_reducible assumption | apply Eq.refl | intro c | (with_reducible first | apply State.bump_keeps | apply Keeps.step (State.setQueue_keeps ..) | apply Keeps.step (State.schedDrop_keeps ..) | apply Keeps.ite) | ((with_reducible apply Has.fam (EJS_FIRECNT_COUNT_cls ..)); exact Eq.refl true) | split | extract_lets

theorem State.insertWin_keeps (s : State) (c : ℕ) (w : Entry) :
    Keeps 0x61700A00000000000000000000000000000000000000000000000001002002002000C8 s (State.insertWin s c w).1 := by
  have h0 : Keeps 0x61700A00000000000000000000000000000000000000000000000001002002002000C8 s s := Keeps.refl _ _
  unfold State.insertWin
  extract_lets x0 x1 x2 x3 x4 x5 x6 x7 x8
  try clear_value x0
  try clear_value x1
  try clear_value x2
  try clear_value x3
  try clear_value x4
  try clear_value x5
  try clear_value x6
  have h8 : Keeps 0x61700A00000000000000000000000000000000000000000000000001002002002000C8 s x7 := by unfold x7; repeat' first | with_reducible assumption | apply Eq.refl | (with_reducible first | apply Keeps.step (State.clipOne_keeps ..) | apply Keeps.ite) | split
  try clear_value x7
  try clear_value x8
  repeat' first | with_reducible assumption | apply Eq.refl | intro c | (with_reducible first | apply Keeps.step (State.placeEntry_keeps ..) | apply State.bump_keeps | apply Keeps.step (State.setQueue_keeps ..) | apply Keeps.step (State.schedDrop_keeps ..) | apply Keeps.ite) | ((with_reducible apply Has.fam (EJS_MERGECNT_COUNT_cls ..)); exact Eq.refl true) | split | extract_lets

theorem State.fireWindow_keeps (s : State) (c : ℕ) (tl : ℤ) (tt : ℤ) (vseq : ℕ) (row : Bool) (splice : Bool) (lanes : ℕ × ℕ) :
    Keeps 0x61F00E00000000000000000000000000000000000000000000000001002002002000C8 s (State.fireWindow s c tl tt vseq row splice lanes) := by
  have h0 : Keeps 0x61F00E00000000000000000000000000000000000000000000000001002002002000C8 s s := Keeps.refl _ _
  unfold State.fireWindow
  extract_lets _ _ _ _ _ _ _ x7 _ _ _ x11
  have h8 : Keeps 0x61F00E00000000000000000000000000000000000000000000000001002002002000C8 s x7 := by unfold x7; repeat' first | with_reducible assumption | apply Eq.refl | (with_reducible first | apply Keeps.step (State.clipOne_keeps ..) | apply Keeps.ite) | split
  try clear_value x7
  have h12 : Keeps 0x61F00E00000000000000000000000000000000000000000000000001002002002000C8 s x11.1 := by unfold x11; repeat' first | with_reducible assumption | apply Eq.refl | with_reducible apply Keeps.step (State.insertWin_keeps ..)
  try clear_value x11
  repeat' first | with_reducible assumption | apply Eq.refl | intro c | (with_reducible first | apply Keeps.step (State.schedDrop_keeps ..) | apply Keeps.step (State.raise_keeps ..) | apply State.set_keeps | apply State.bump_keeps | apply Keeps.ite) | ((with_reducible apply Has.fam (EJS_STAT_LATE_cls ..)); exact Eq.refl true) | ((with_reducible apply Has.fam (EJS_LATECNT_COUNT_cls ..)); exact Eq.refl true) | split | extract_lets

theorem State.spliceDropped_keeps (s : State) :
    Keeps 0x80000000000000000000000000000000000000000000000000000000000000000000000000000000000000000001000002000000C8 s (State.spliceDropped s) := by
  have h0 : Keeps 0x80000000000000000000000000000000000000000000000000000000000000000000000000000000000000000001000002000000C8 s s := Keeps.refl _ _
  unfold State.spliceDropped
  repeat' first | with_reducible assumption | apply Eq.refl | intro c | (with_reducible first | apply Keeps.step (State.raise_keeps ..) | apply State.bump_keeps) | ((with_reducible apply Has.fam (CHN_SPLDROP_COUNT_cls ..)); exact Eq.refl true)

theorem State.askSide_keeps (s : State) (refused : List ChainPort) (vseq : ℕ) (row : Bool) (high : Bool) (t : ℤ × ℤ) (lo : ℤ) (hi : ℤ) :
    Keeps 0xA0000000000000000000000000000000000000000000000000000000000000000000000000000000000000000001000002800000C8 s (State.askSide s refused vseq row high t lo hi) := by
  have h0 : Keeps 0xA0000000000000000000000000000000000000000000000000000000000000000000000000000000000000000001000002800000C8 s s := Keeps.refl _ _
  unfold State.askSide
  extract_lets x0 x1 x2 x3 x4 x5 x6 x7
  try clear_value x0
  try clear_value x1
  try clear_value x2
  try clear_value x3
  try clear_value x4
  try clear_value x5
  try clear_value x6
  have h8 : Keeps 0xA0000000000000000000000000000000000000000000000000000000000000000000000000000000000000000001000002800000C8 s x7 := by unfold x7; repeat' first | with_reducible assumption | apply Eq.refl | intro c | (with_reducible first | apply Keeps.step (State.emit_keeps ..) | apply State.bump_keeps) | ((with_reducible apply Has.fam (CHN_SPLTX_COUNT_cls ..)); exact Eq.refl true)
  try clear_value x7
  repeat' first | with_reducible assumption | apply Eq.refl | (with_reducible first | apply Keeps.step (State.spliceDropped_keeps ..) | apply Keeps.ite) | split

theorem State.schedule_keeps (s : State) (refused : List ChainPort) (q : Closed) (v : Verdict) :
    Keeps 0xA00000000000000000000007E000280000007FF01E00000000000000000000000000000000000000000000000001012002802000C8 s (State.schedule s refused q v) := by
  have h0 : Keeps 0xA00000000000000000000007E000280000007FF01E00000000000000000000000000000000000000000000000001012002802000C8 s s := Keeps.refl _ _
  unfold State.schedule
  extract_lets _ _ _ _ _ x5
  have h6 : Keeps 0xA00000000000000000000007E000280000007FF01E00000000000000000000000000000000000000000000000001012002802000C8 s x5 := by unfold x5; repeat' first | with_reducible assumption | apply Eq.refl | with_reducible apply Keeps.step (State.mapReads_keeps ..)
  try clear_value x5
  repeat' first | with_reducible assumption | apply Eq.refl | intro c | (with_reducible first | apply State.bump_keeps | apply Keeps.step (State.fireWindow_keeps ..) | apply State.set_keeps | apply Keeps.step (State.askSide_keeps ..) | apply Keeps.ite | apply Keeps.foldl) | ((with_reducible apply Has.fam (EJS_BONECNT_COUNT_cls ..)); exact Eq.refl true) | ((with_reducible apply Has.fam (EJS_NOTOWNED_COUNT_cls ..)); exact Eq.refl true) | ((with_reducible apply Has.fam (EJS_BLINDCNT_COUNT_cls ..)); exact Eq.refl true) | ((with_reducible apply Has.fam (EJS_STAT_NOVALVE_cls ..)); exact Eq.refl true) | ((with_reducible apply Has.fam (EJS_NOVALVE_COUNT_cls ..)); exact Eq.refl true) | split | extract_lets

theorem State.takeSplice_keeps (s : State) (r : SpliceReq) :
    Keeps 0x400000000000000000000007E0002800000061F00E00000000000000000000000000000000000000000000000001012002002000C8 s (State.takeSplice s r) := by
  have h0 : Keeps 0x400000000000000000000007E0002800000061F00E00000000000000000000000000000000000000000000000001012002002000C8 s s := Keeps.refl _ _
  unfold State.takeSplice
  extract_lets _ x1 _ _ _ x5
  have h2 : Keeps 0x400000000000000000000007E0002800000061F00E00000000000000000000000000000000000000000000000001012002002000C8 s x1 := by unfold x1; repeat' first | with_reducible assumption | apply Eq.refl | intro c | with_reducible apply State.bump_keeps | ((with_reducible apply Has.fam (CHN_SPLRX_COUNT_cls ..)); exact Eq.refl true)
  try clear_value x1
  have h6 : Keeps 0x400000000000000000000007E0002800000061F00E00000000000000000000000000000000000000000000000001012002002000C8 s x5 := by unfold x5; repeat' first | with_reducible assumption | apply Eq.refl | with_reducible apply Keeps.step (State.mapReads_keeps ..)
  try clear_value x5
  repeat' first | with_reducible assumption | apply Eq.refl | intro c | (with_reducible first | apply Keeps.step (State.fireWindow_keeps ..) | apply Keeps.ite | apply Keeps.foldl) | split | extract_lets

theorem State.setBlindCh_keeps (s : State) (c : ℕ) (b : BlindCh) :
    Keeps 0x200000 s (State.setBlindCh s c b) := by
  have h0 : Keeps 0x200000 s s := Keeps.refl _ _
  unfold State.setBlindCh
  repeat' first | (with_reducible first | assumption | apply mwf_mset | apply Canon.cls | apply Canon.map | apply Keeps.canon) | apply Eq.refl | intro c | extract_lets | with_reducible apply Keeps.put_sched

theorem State.blindOpen_keeps (s : State) (owner : ℕ) (policy : Bool) (row : Bool) (c : ℕ) :
    Keeps 0x61700A00000000000000000000000000000000000000000000000001002002002000C8 s (State.blindOpen s owner policy row c) := by
  have h0 : Keeps 0x61700A00000000000000000000000000000000000000000000000001002002002000C8 s s := Keeps.refl _ _
  unfold State.blindOpen
  extract_lets _ _ _ _ _ _ x6
  have h7 : Keeps 0x61700A00000000000000000000000000000000000000000000000001002002002000C8 s x6 := by unfold x6; repeat' first | with_reducible assumption | apply Eq.refl | with_reducible apply Keeps.step (State.setBlindCh_keeps ..)
  try clear_value x6
  repeat' first | with_reducible assumption | apply Eq.refl | (with_reducible first | apply Keeps.step (State.setBlindCh_keeps ..) | apply Keeps.step (State.insertWin_keeps ..) | apply Keeps.ite) | split | extract_lets

theorem State.blindBegin_keeps (s : State) (owner : ℕ) (tiles : ℕ) (policy : Bool) (rejrow : Bool) :
    Keeps 0x61700A00000000000000000000000000000000000000000000000001002002002000C8 s (State.blindBegin s owner tiles policy rejrow) := by
  have h0 : Keeps 0x61700A00000000000000000000000000000000000000000000000001002002002000C8 s s := Keeps.refl _ _
  unfold State.blindBegin
  extract_lets _ _ x2
  have h3 : Keeps 0x61700A00000000000000000000000000000000000000000000000001002002002000C8 s x2 := by unfold x2; repeat' first | (with_reducible first | assumption | apply mwf_mset | apply Canon.cls | apply Canon.map | apply Keeps.canon) | apply Eq.refl | intro c | with_reducible apply Keeps.put_sched
  try clear_value x2
  repeat' first | with_reducible assumption | apply Eq.refl | intro c | (with_reducible first | apply Keeps.step (State.blindOpen_keeps ..) | apply Keeps.ite | apply Keeps.foldl) | split | extract_lets

theorem State.blindFix_keeps (s : State) (c : ℕ) (b : BlindCh) :
    Keeps 0x6000000000000000000000000000000000000000000000000000000000200000200008 s (State.blindFix s c b) := by
  have h0 : Keeps 0x6000000000000000000000000000000000000000000000000000000000200000200008 s s := Keeps.refl _ _
  unfold State.blindFix
  repeat' first | with_reducible assumption | apply Eq.refl | with_reducible apply Keeps.step (State.setQueue_keeps ..) | extract_lets

theorem State.blindEnd_keeps (s : State) (owner : ℕ) :
    Keeps 0x6000000000000000000000000000000000000000000000000000000000200000200008 s (State.blindEnd s owner) := by
  have h0 : Keeps 0x6000000000000000000000000000000000000000000000000000000000200000200008 s s := Keeps.refl _ _
  unfold State.blindEnd
  repeat' first | with_reducible assumption | apply Eq.refl | intro c | (with_reducible first | apply Keeps.step (State.setBlindCh_keeps ..) | apply Keeps.step (State.blindFix_keeps ..) | apply Keeps.ite | apply Keeps.foldl) | split | extract_lets

theorem State.flushQueues_keeps (s : State) :
    Keeps 0x6000000000000000000000000000000000000000000000000000000000200000200008 s (State.flushQueues s) := by
  have h0 : Keeps 0x6000000000000000000000000000000000000000000000000000000000200000200008 s s := Keeps.refl _ _
  unfold State.flushQueues
  repeat' first | with_reducible assumption | apply Eq.refl | intro c | (with_reducible first | apply Keeps.step (State.setQueue_keeps ..) | apply Keeps.foldl)

theorem State.mapswS_keeps (s : State) :
    Keeps 0x8000000000000000000000000000000000000000000000000000000000200008 s (State.mapswS s) := by
  have h0 : Keeps 0x8000000000000000000000000000000000000000000000000000000000200008 s s := Keeps.refl _ _
  unfold State.mapswS
  repeat' first | (with_reducible first | assumption | apply mwf_mset | apply Canon.cls | apply Canon.map | apply Keeps.canon) | apply Eq.refl | intro c | (with_reducible first | apply State.set_keeps | apply Keeps.ite) | ((with_reducible apply Has.fam (EJS_CTRL_MAPPEND_cls ..)); exact Eq.refl true) | split | extract_lets | with_reducible apply Keeps.put_sched

theorem State.ejsWrErr_keeps (s : State) :
    Keeps 0x10000000000000000000000000000000000000000000000000000000000000008 s (State.ejsWrErr s) := by
  have h0 : Keeps 0x10000000000000000000000000000000000000000000000000000000000000008 s s := Keeps.refl _ _
  unfold State.ejsWrErr
  repeat' first | with_reducible assumption | apply Eq.refl | intro c | with_reducible apply State.set_keeps | ((with_reducible apply Has.fam (EJS_STAT_WRERR_cls ..)); exact Eq.refl true)

theorem State.ejsStagedW_keeps (s : State) (a : Nat) (v : Word) : Keeps 0xFE13C00000000000000000000000000000000000000000000000000000000040008 s (s.ejsStagedW a v) := by
  have h0 := Keeps.refl 0xFE13C00000000000000000000000000000000000000000000000000000000040008 s
  have st : ∀ (y : State) (f : Fld), hasBit 0xFE13C00000000000000000000000000000000000000000000000000000000040008 f = true → Keeps 0xFE13C00000000000000000000000000000000000000000000000000000000040008 s y →
      Keeps 0xFE13C00000000000000000000000000000000000000000000000000000000040008 s (y.stageFld f (fldOf f v)) := fun y f hf hy => State.stageFld_keeps hy ⟨hf⟩ (by decide)
  have er : Keeps 0xFE13C00000000000000000000000000000000000000000000000000000000040008 s s.ejsWrErr := Keeps.comp (State.ejsWrErr_keeps ..) (by decide) h0
  unfold State.ejsStagedW
  refine Keeps.ite ?_ (Keeps.ite ?_ (Keeps.ite ?_ (Keeps.ite ?_ (Keeps.ite ?_ (Keeps.ite ?_ h0)))))
  · exact st _ _ (by rfl) (st _ _ (by rfl) (st _ _ (by rfl) (st _ _ (by rfl) h0)))
  · exact Keeps.ite er (st _ _ (by rfl) h0)
  · exact Keeps.ite er (st _ _ (by rfl) h0)
  · exact Keeps.ite er (st _ _ (by rfl) (st _ _ (by rfl) h0))
  · exact Keeps.ite er (st _ _ (by rfl) h0)
  · exact State.stageFld_keeps (st _ _ (by rfl) h0) ⟨by rfl⟩ (by decide)

theorem State.phVerdict_keeps (s : State) (q : Closed) (v : Verdict) :
    Keeps 0x20000 s (State.phVerdict s q v) := by
  have h0 : Keeps 0x20000 s s := Keeps.refl _ _
  unfold State.phVerdict
  repeat' first | with_reducible assumption | apply Eq.refl | (with_reducible first | apply Keeps.step (State.phContribute_keeps ..) | apply Keeps.ite) | split

theorem State.setDrive_keeps (s : State) (c : ℕ) (d : Drive) :
    Keeps 0x400000 s (State.setDrive s c d) := by
  have h0 : Keeps 0x400000 s s := Keeps.refl _ _
  unfold State.setDrive
  repeat' first | with_reducible assumption | apply Eq.refl | extract_lets | with_reducible apply Keeps.put_valves

theorem State.freeToken_keeps (s : State) (k : ℕ) :
    Keeps 0x400000 s (State.freeToken s k) := by
  have h0 : Keeps 0x400000 s s := Keeps.refl _ _
  unfold State.freeToken
  repeat' first | with_reducible assumption | apply Eq.refl | extract_lets | with_reducible apply Keeps.put_valves

theorem State.arbShow_keeps (s : State) :
    Keeps 0x4F0000000000000000000000000000000000000000000000000000000000000000000008 s (State.arbShow s) := by
  have h0 : Keeps 0x4F0000000000000000000000000000000000000000000000000000000000000000000008 s s := Keeps.refl _ _
  unfold State.arbShow
  extract_lets _ x1
  have h2 : Keeps 0x4F0000000000000000000000000000000000000000000000000000000000000000000008 s x1 := by unfold x1; repeat' first | with_reducible assumption | apply Eq.refl | intro c | (with_reducible first | apply State.setB_keeps | apply State.set_keeps) | ((with_reducible apply Has.fam (ARB_STAT_DIPCUT_cls ..)); exact Eq.refl true) | ((with_reducible apply Has.fam (ARB_STAT_NEFF_cls ..)); exact Eq.refl true) | ((with_reducible apply Has.fam (ARB_STAT_FBUSED_cls ..)); exact Eq.refl true) | ((with_reducible apply Has.fam (ARB_STAT_TOKENS_cls ..)); exact Eq.refl true)
  try clear_value x1
  repeat' first | with_reducible assumption | apply Eq.refl | intro c | with_reducible apply State.set_keeps | ((with_reducible apply Has.fam (ARB_TOKMAX_MAX_cls ..)); exact Eq.refl true) | extract_lets

theorem State.bankShow_keeps (s : State) (b : ℕ) :
    Keeps 0x400000000008 s (State.bankShow s b) := by
  have h0 : Keeps 0x400000000008 s s := Keeps.refl _ _
  unfold State.bankShow
  extract_lets _ _ _ x3
  have h4 : Keeps 0x400000000008 s x3 := by unfold x3; repeat' first | with_reducible assumption | apply Eq.refl | intro c | with_reducible apply State.set_keeps | ((with_reducible apply Has.fam (VBK_STAT_LEADER_cls ..)); exact Eq.refl true) | ((with_reducible apply Has.fam (VBK_STAT_HOLDING_cls ..)); exact Eq.refl true) | ((with_reducible apply Has.fam (VBK_STAT_PEAKING_cls ..)); exact Eq.refl true) | ((with_reducible apply Has.fam (VBK_STAT_RAIL_cls ..)); exact Eq.refl true)
  try clear_value x3
  repeat' first | with_reducible assumption | apply Eq.refl | intro c | (with_reducible first | apply State.set_keeps | apply State.setB_keeps | apply Keeps.ite) | ((with_reducible apply Has.fam (VBK_PEAKMAX_MAX_cls ..)); exact Eq.refl true) | ((with_reducible apply Has.fam (VBK_STAT_LEADVALID_cls ..)); exact Eq.refl true) | split | extract_lets

theorem State.setSupply_keeps (s : State) (b : ℕ) (x : Supply) :
    Keeps 0x400000 s (State.setSupply s b x) := by
  have h0 : Keeps 0x400000 s s := Keeps.refl _ _
  unfold State.setSupply
  repeat' first | with_reducible assumption | apply Eq.refl | extract_lets | with_reducible apply Keeps.put_valves

theorem State.chopStep_keeps (s : State) (b : ℕ) (edge : Bool) (c : ℕ) :
    Keeps 0x400000 s (State.chopStep s b edge c) := by
  have h0 : Keeps 0x400000 s s := Keeps.refl _ _
  unfold State.chopStep
  repeat' first | with_reducible assumption | apply Eq.refl | (with_reducible first | apply Keeps.step (State.setDrive_keeps ..) | apply Keeps.ite) | split | extract_lets

theorem State.chopShow_keeps (s : State) (b : ℕ) (edge : Bool) :
    Keeps 0x400000 s (State.chopShow s b edge) := by
  have h0 : Keeps 0x400000 s s := Keeps.refl _ _
  unfold State.chopShow
  extract_lets _ _ x2
  have h3 : Keeps 0x400000 s x2 := by unfold x2; repeat' first | with_reducible assumption | apply Eq.refl | (with_reducible first | apply Keeps.step (State.setSupply_keeps ..) | apply Keeps.ite) | split
  try clear_value x2
  repeat' first | with_reducible assumption | apply Eq.refl | intro c | (with_reducible first | apply Keeps.step (State.chopStep_keeps ..) | apply Keeps.foldl) | extract_lets

theorem State.enter_keeps (s : State) (c : ℕ) (k : ℕ) :
    Keeps 0x804F0000000000000000000000000000000000000000000000000000000000600000400008 s (State.enter s c k) := by
  have h0 : Keeps 0x804F0000000000000000000000000000000000000000000000000000000000600000400008 s s := Keeps.refl _ _
  unfold State.enter
  extract_lets _ x1 x2 _ x4
  have h2 : Keeps 0x804F0000000000000000000000000000000000000000000000000000000000600000400008 s x1 := by unfold x1; repeat' first | with_reducible assumption | apply Eq.refl | (with_reducible first | apply Keeps.step (State.freeToken_keeps ..) | apply Keeps.ite) | split
  try clear_value x1
  have h3 : Keeps 0x804F0000000000000000000000000000000000000000000000000000000000600000400008 s x2 := by unfold x2; repeat' first | with_reducible assumption | apply Eq.refl | intro c | with_reducible apply State.set_keeps | (exact stateFld_has (Eq.refl true))
  try clear_value x2
  have h5 : Keeps 0x804F0000000000000000000000000000000000000000000000000000000000600000400008 s x4 := by unfold x4; repeat' first | with_reducible assumption | apply Eq.refl | (with_reducible first | apply Keeps.step (State.setDrive_keeps ..) | apply Keeps.ite) | split
  try clear_value x4
  repeat' first | with_reducible assumption | apply Eq.refl | (with_reducible first | apply Keeps.step (State.chopShow_keeps ..) | apply Keeps.step (State.arbShow_keeps ..) | apply Keeps.step (State.bankShow_keeps ..) | apply Keeps.ite) | split | extract_lets

theorem State.removeCurrent_keeps (s : State) (c : ℕ) :
    Keeps 0x6000000000000000000000000000000000000000000000000000000000200000200008 s (State.removeCurrent s c) := by
  have h0 : Keeps 0x6000000000000000000000000000000000000000000000000000000000200000200008 s s := Keeps.refl _ _
  unfold State.removeCurrent
  repeat' first | with_reducible assumption | apply Eq.refl | with_reducible apply Keeps.step (State.setQueue_keeps ..)

theorem State.driveDrop_keeps (s : State) (c : ℕ) (cause : ℕ) :
    Keeps 0x1002002000000C8 s (State.driveDrop s c cause) := by
  have h0 : Keeps 0x1002002000000C8 s s := Keeps.refl _ _
  unfold State.driveDrop
  extract_lets x0 x1
  have h1 : Keeps 0x1002002000000C8 s x0 := by unfold x0; repeat' first | with_reducible assumption | apply Eq.refl | intro c | (with_reducible first | apply State.set_keeps | apply State.bump_keeps) | ((with_reducible apply Has.fam (VLV_STAT_LASTDROP_cls ..)); exact Eq.refl true) | ((with_reducible apply Has.fam (VLV_DROPCNT_COUNT_cls ..)); exact Eq.refl true)
  try clear_value x0
  have h2 : Keeps 0x1002002000000C8 s x1 := by unfold x1; repeat' first | with_reducible assumption | apply Eq.refl | intro c | (with_reducible first | apply State.bump_keeps | apply Keeps.ite) | ((with_reducible apply Has.fam (VLV_TOKDROP_COUNT_cls ..)); exact Eq.refl true) | split
  try clear_value x1
  repeat' first | with_reducible assumption | apply Eq.refl | with_reducible apply Keeps.step (State.raise_keeps ..)

theorem State.shiftOrDrop_keeps (s : State) (c : ℕ) (e : Entry) (may : Bool) :
    Keeps 0x61700A00000000000000000000000000000000000000000000000001002002002000C8 s (State.shiftOrDrop s c e may) := by
  have h0 : Keeps 0x61700A00000000000000000000000000000000000000000000000001002002002000C8 s s := Keeps.refl _ _
  unfold State.shiftOrDrop
  repeat' first | with_reducible assumption | apply Eq.refl | intro c | (with_reducible first | apply Keeps.step (State.insertWin_keeps ..) | apply State.bump_keeps | apply Keeps.step (State.driveDrop_keeps ..) | apply Keeps.ite) | ((with_reducible apply Has.fam (VLV_SHIFTCNT_COUNT_cls ..)); exact Eq.refl true) | split

theorem State.obsEnd_keeps (s : State) (c : ℕ) :
    Keeps 0x400000400018 s (State.obsEnd s c) := by
  have h0 : Keeps 0x400000400018 s s := Keeps.refl _ _
  unfold State.obsEnd
  extract_lets _ _ x2 x3
  have h3 : Keeps 0x400000400018 s x2 := by unfold x2; repeat' first | with_reducible assumption | apply Eq.refl | with_reducible apply Keeps.put_valves
  try clear_value x2
  have h4 : Keeps 0x400000400018 s x3 := by unfold x3; repeat' first | with_reducible assumption | apply Eq.refl | intro c | (with_reducible first | apply Keeps.step (State.draw_keeps ..) | apply State.set_keeps | apply Keeps.foldl) | ((with_reducible apply Has.fam (VBK_TRACE_S1_cls ..)); exact Eq.refl true) | ((with_reducible apply Has.fam (VBK_TRACE_S0_cls ..)); exact Eq.refl true) | extract_lets
  try clear_value x3
  repeat' first | with_reducible assumption | apply Eq.refl | intro c | (with_reducible first | apply State.set_keeps | apply Keeps.ite) | ((with_reducible apply Has.fam (VBK_TRCTL_DONE_cls ..)); exact Eq.refl true) | ((with_reducible apply Has.fam (VBK_TRCTL_ARM_cls ..)); exact Eq.refl true) | split | extract_lets

theorem State.gateOn_keeps (s : State) (c : ℕ) (k : ℕ) :
    Keeps 0x804F0000000000000000000000000000000000000000000000000000000000600000400018 s (State.gateOn s c k) := by
  have h0 : Keeps 0x804F0000000000000000000000000000000000000000000000000000000000600000400018 s s := Keeps.refl _ _
  unfold State.gateOn
  extract_lets _ x1 _ x3 x4
  have h2 : Keeps 0x804F0000000000000000000000000000000000000000000000000000000000600000400018 s x1 := by unfold x1; repeat' first | with_reducible assumption | apply Eq.refl | (with_reducible first | apply Keeps.step (State.obsEnd_keeps ..) | apply Keeps.ite) | split
  try clear_value x1
  have h4 : Keeps 0x804F0000000000000000000000000000000000000000000000000000000000600000400018 s x3 := by unfold x3; repeat' first | with_reducible assumption | apply Eq.refl | with_reducible apply Keeps.step (State.setDrive_keeps ..)
  try clear_value x3
  have h5 : Keeps 0x804F0000000000000000000000000000000000000000000000000000000000600000400018 s x4 := by unfold x4; repeat' first | with_reducible assumption | apply Eq.refl | with_reducible apply Keeps.step (State.enter_keeps ..)
  try clear_value x4
  repeat' first | with_reducible assumption | apply Eq.refl | intro c | (with_reducible first | apply State.setPair_keeps | apply State.bump_keeps | apply Keeps.ite) | ((with_reducible apply Has.fam (VLV_LASTON_LO_STAMP_cls ..)); exact Eq.refl true) | ((with_reducible apply Has.fam (VLV_LASTON_HI_STAMP_cls ..)); exact Eq.refl true) | ((with_reducible apply Has.fam (VLV_FIRECNT_COUNT_cls ..)); exact Eq.refl true) | split | extract_lets

theorem State.watchClose_keeps (s : State) (c : ℕ) :
    Keeps 0x200000400008 s (State.watchClose s c) := by
  have h0 : Keeps 0x200000400008 s s := Keeps.refl _ _
  unfold State.watchClose
  extract_lets _ _ _ x3
  have h4 : Keeps 0x200000400008 s x3 := by unfold x3; repeat' first | with_reducible assumption | apply Eq.refl | with_reducible apply Keeps.put_valves
  try clear_value x3
  repeat' first | with_reducible assumption | apply Eq.refl | intro c | (with_reducible first | apply Keeps.step (State.setDrive_keeps ..) | apply State.bump_keeps | apply State.set_keeps | apply Keeps.ite) | ((with_reducible apply Has.fam (VLV_NMCNT_UNMEAS_cls ..)); exact Eq.refl true) | ((with_reducible apply Has.fam (VLV_STAT_UNMEAS_cls ..)); exact Eq.refl true) | split | extract_lets

theorem State.gateOff_keeps (s : State) (c : ℕ) :
    Keeps 0x4804F0000000000000000000000000000000000000000000000000000000000600000400008 s (State.gateOff s c) := by
  have h0 : Keeps 0x4804F0000000000000000000000000000000000000000000000000000000000600000400008 s s := Keeps.refl _ _
  unfold State.gateOff
  extract_lets _ _ x2 _ x4
  have h3 : Keeps 0x4804F0000000000000000000000000000000000000000000000000000000000600000400008 s x2 := by unfold x2; repeat' first | with_reducible assumption | apply Eq.refl | (with_reducible first | apply Keeps.step (State.enter_keeps ..) | apply Keeps.step (State.setDrive_keeps ..))
  try clear_value x2
  have h5 : Keeps 0x4804F0000000000000000000000000000000000000000000000000000000000600000400008 s x4 := by unfold x4; repeat' first | with_reducible assumption | apply Eq.refl | (with_reducible first | apply Keeps.step (State.setDrive_keeps ..) | apply Keeps.ite) | split
  try clear_value x4
  repeat' first | with_reducible assumption | apply Eq.refl | intro c | (with_reducible first | apply Keeps.step (State.enter_keeps ..) | apply State.set_keeps | apply Keeps.step (State.watchClose_keeps ..) | apply Keeps.ite) | ((with_reducible apply Has.fam (ARB_LYSTAT_CLOSED_cls ..)); exact Eq.refl true) | split | extract_lets

theorem State.cutFiring_keeps (s : State) (c : ℕ) :
    Keeps 0x4804F6000000000000000000000000000000000000000000000000000000000600000600008 s (State.cutFiring s c) := by
  have h0 : Keeps 0x4804F6000000000000000000000000000000000000000000000000000000000600000600008 s s := Keeps.refl _ _
  unfold State.cutFiring
  repeat' first | with_reducible assumption | apply Eq.refl | (with_reducible first | apply Keeps.step (State.removeCurrent_keeps ..) | apply Keeps.step (State.gateOff_keeps ..))

theorem State.disable_keeps (s : State) (c : ℕ) :
    Keeps 0x4804F60000000000000000000000000000000000000000000000000000001006002006000C8 s (State.disable s c) := by
  have h0 : Keeps 0x4804F60000000000000000000000000000000000000000000000000000001006002006000C8 s s := Keeps.refl _ _
  unfold State.disable
  repeat' first | with_reducible assumption | apply Eq.refl | (with_reducible first | apply Keeps.step (State.driveDrop_keeps ..) | apply Keeps.step (State.cutFiring_keeps ..) | apply Keeps.ite) | split

theorem State.allOff_keeps (s : State) :
    Keeps 0x4804F6000000000000000000000000000000000000000000000000000000000600000600008 s (State.allOff s) := by
  have h0 : Keeps 0x4804F6000000000000000000000000000000000000000000000000000000000600000600008 s s := Keeps.refl _ _
  unfold State.allOff
  extract_lets x0
  have h1 : Keeps 0x4804F6000000000000000000000000000000000000000000000000000000000600000600008 s x0 := by unfold x0; repeat' first | with_reducible assumption | apply Eq.refl | intro c | (with_reducible first | apply Keeps.step (State.setQueue_keeps ..) | apply Keeps.step (State.gateOff_keeps ..) | apply Keeps.foldl)
  try clear_value x0
  repeat' first | (with_reducible first | assumption | apply mwf_mset | apply Canon.cls | apply Canon.map | apply Keeps.canon) | apply Eq.refl | intro c | extract_lets | with_reducible apply Keeps.put_sched

theorem State.lyOn_keeps (s : State) :
    Keeps 0x8C04F0000000000000000000000000000000000000000000000000000000000600000400018 s (State.lyOn s) := by
  have h0 : Keeps 0x8C04F0000000000000000000000000000000000000000000000000000000000600000400018 s s := Keeps.refl _ _
  unfold State.lyOn
  extract_lets x0 _ _ x3
  have h1 : Keeps 0x8C04F0000000000000000000000000000000000000000000000000000000000600000400018 s x0 := by unfold x0; repeat' first | with_reducible assumption | apply Eq.refl | intro c | with_reducible apply State.set_keeps | ((with_reducible apply Has.fam (ARB_LYCTRL_ENERGISE_cls ..)); exact Eq.refl true)
  try clear_value x0
  have h4 : Keeps 0x8C04F0000000000000000000000000000000000000000000000000000000000600000400018 s x3 := by unfold x3; repeat' first | with_reducible assumption | apply Eq.refl | intro c | with_reducible apply State.set_keeps | ((with_reducible apply Has.fam (ARB_LYSTAT_OPEN_cls ..)); exact Eq.refl true)
  try clear_value x3
  repeat' first | with_reducible assumption | apply Eq.refl | (with_reducible first | apply Keeps.step (State.gateOn_keeps ..) | apply Keeps.ite) | split | extract_lets

theorem State.lyOff_keeps (s : State) :
    Keeps 0x4C04F0000000000000000000000000000000000000000000000000000000000600000400008 s (State.lyOff s) := by
  have h0 : Keeps 0x4C04F0000000000000000000000000000000000000000000000000000000000600000400008 s s := Keeps.refl _ _
  unfold State.lyOff
  extract_lets x0
  have h1 : Keeps 0x4C04F0000000000000000000000000000000000000000000000000000000000600000400008 s x0 := by unfold x0; repeat' first | with_reducible assumption | apply Eq.refl | intro c | with_reducible apply State.set_keeps | ((with_reducible apply Has.fam (ARB_LYCTRL_ENERGISE_cls ..)); exact Eq.refl true)
  try clear_value x0
  repeat' first | with_reducible assumption | apply Eq.refl | (with_reducible first | apply Keeps.step (State.gateOff_keeps ..) | apply Keeps.step (State.setDrive_keeps ..) | apply Keeps.ite) | split | extract_lets

theorem State.lyConfirm_keeps (s : State) (closed : Bool) :
    Keeps 0xCC00000000000000000000000000000000000000000000000000000000000000000000000008 s (State.lyConfirm s closed) := by
  have h0 : Keeps 0xCC00000000000000000000000000000000000000000000000000000000000000000000000008 s s := Keeps.refl _ _
  unfold State.lyConfirm
  repeat' first | with_reducible assumption | apply Eq.refl | intro c | (with_reducible first | apply State.set_keeps | apply Keeps.ite) | ((with_reducible apply Has.fam (ARB_LYTIME_TCLOSED_cls ..)); exact Eq.refl true) | ((with_reducible apply Has.fam (ARB_LYSTAT_OPEN_cls ..)); exact Eq.refl true) | ((with_reducible apply Has.fam (ARB_LYSTAT_CLOSED_cls ..)); exact Eq.refl true) | ((with_reducible apply Has.fam (ARB_LYTIME_TOPENED_cls ..)); exact Eq.refl true) | split | extract_lets

theorem State.movement_keeps {m : Nat} {a s : State} {f g c : Fld} {t : Nat} (h : Keeps m a s) (hf : Has m f)
    (hg : Has m g) (hc : Has m c) : Keeps m a (s.movement f g c t) :=
  Keeps.set (Keeps.set (Keeps.set h hf) hg) hc

theorem State.openMoved_keeps (s : State) (c : ℕ) (t : ℕ) :
    Keeps 0x200000400008 s (State.openMoved s c t) := by
  have h0 : Keeps 0x200000400008 s s := Keeps.refl _ _
  unfold State.openMoved
  repeat' first | with_reducible assumption | apply Eq.refl | intro c | (with_reducible first | apply State.movement_keeps | apply Keeps.step (State.setDrive_keeps ..)) | ((with_reducible apply Has.fam (VLV_TOPEN_LAST_cls ..)); exact Eq.refl true) | ((with_reducible apply Has.fam (VLV_TOPEN_MEAN_cls ..)); exact Eq.refl true) | ((with_reducible apply Has.fam (VLV_MOVCNT_OPNCNT_cls ..)); exact Eq.refl true) | extract_lets

theorem State.closeMoved_keeps (s : State) (c : ℕ) (t : ℕ) :
    Keeps 0x600000400018 s (State.closeMoved s c t) := by
  have h0 : Keeps 0x600000400018 s s := Keeps.refl _ _
  unfold State.closeMoved
  repeat' first | with_reducible assumption | apply Eq.refl | intro c | (with_reducible first | apply State.movement_keeps | apply Keeps.step (State.setDrive_keeps ..) | apply Keeps.step (State.obsEnd_keeps ..)) | ((with_reducible apply Has.fam (VLV_TCLOSE_LAST_cls ..)); exact Eq.refl true) | ((with_reducible apply Has.fam (VLV_TCLOSE_MEAN_cls ..)); exact Eq.refl true) | ((with_reducible apply Has.fam (VLV_MOVCNT_CLSCNT_cls ..)); exact Eq.refl true) | extract_lets

theorem State.notMoved_keeps (s : State) (c : ℕ) :
    Keeps 0x1002002000000C8 s (State.notMoved s c) := by
  have h0 : Keeps 0x1002002000000C8 s s := Keeps.refl _ _
  unfold State.notMoved
  repeat' first | with_reducible assumption | apply Eq.refl | intro c | (with_reducible first | apply Keeps.step (State.raise_keeps ..) | apply State.bump_keeps) | ((with_reducible apply Has.fam (VLV_NMCNT_NOTMOVED_cls ..)); exact Eq.refl true)

theorem State.sspShow_keeps (s : State) :
    Keeps 0x70000000000000000000000000000000000000000000000000000000000000000000000000000000000000008 s (State.sspShow s) := by
  have h0 : Keeps 0x70000000000000000000000000000000000000000000000000000000000000000000000000000000000000008 s s := Keeps.refl _ _
  unfold State.sspShow
  repeat' first | with_reducible assumption | apply Eq.refl | intro c | (with_reducible first | apply State.setB_keeps | apply State.set_keeps) | ((with_reducible apply Has.fam (SSP_BOX_ABSLOT_cls ..)); exact Eq.refl true) | ((with_reducible apply Has.fam (SSP_BOX_INSLOTS_cls ..)); exact Eq.refl true) | ((with_reducible apply Has.fam (SSP_BOX_OUTBYTES_cls ..)); exact Eq.refl true)

theorem State.sspReply_keeps (s : State) (p : List ℕ) :
    Keeps 0x70000000000000000000000000000000000000000000000000000000000000000000000000000000002000008 s (State.sspReply s p) := by
  have h0 : Keeps 0x70000000000000000000000000000000000000000000000000000000000000000000000000000000002000008 s s := Keeps.refl _ _
  unfold State.sspReply
  repeat' first | with_reducible assumption | apply Eq.refl | with_reducible apply Keeps.step (State.sspShow_keeps ..) | extract_lets | with_reducible apply Keeps.put_ssp

theorem State.mbxShow_keeps (s : State) (c : ℕ) :
    Keeps 0x40000000000008 s (State.mbxShow s c) := by
  have h0 : Keeps 0x40000000000008 s s := Keeps.refl _ _
  unfold State.mbxShow
  extract_lets _ x1
  have h2 : Keeps 0x40000000000008 s x1 := by unfold x1; repeat' first | with_reducible assumption | apply Eq.refl | intro c | (with_reducible first | apply State.set_keeps | apply Keeps.foldl) | ((with_reducible apply Has.fam (MBX_DNRX_WORD_cls ..)); exact Eq.refl true) | ((with_reducible apply Has.fam (MBX_UPRX_WORD_cls ..)); exact Eq.refl true)
  try clear_value x1
  repeat' first | with_reducible assumption | apply Eq.refl | intro c | (with_reducible first | apply State.setB_keeps | apply State.set_keeps) | ((with_reducible apply Has.fam (MBX_DNCTL_FULL_cls ..)); exact Eq.refl true) | ((with_reducible apply Has.fam (MBX_DNCTL_COUNT_cls ..)); exact Eq.refl true) | ((with_reducible apply Has.fam (MBX_UPCTL_FULL_cls ..)); exact Eq.refl true) | ((with_reducible apply Has.fam (MBX_UPCTL_COUNT_cls ..)); exact Eq.refl true) | extract_lets

theorem State.setMbx_keeps (s : State) (c : ℕ) (m : MbxChan) :
    Keeps 0x40000000000208 s (State.setMbx s c m) := by
  have h0 : Keeps 0x40000000000208 s s := Keeps.refl _ _
  unfold State.setMbx
  repeat' first | (with_reducible first | assumption | apply mwf_mset | apply Canon.mbx | apply Keeps.canon) | apply Eq.refl | intro c | with_reducible apply Keeps.step (State.mbxShow_keeps ..) | with_reducible apply Keeps.put_mbx

theorem State.fbWrite_keeps (s : State) (a : Nat) (l : List Nat) : Keeps 0x100000040000088 s (s.fbWrite a l) := by
  unfold State.fbWrite
  extract_lets t fb
  have h : Keeps 0x100000040000088 s t :=
    Keeps.foldl (Keeps.refl _ _) fun y b hy => Keeps.comp (State.wordWritten_keeps ..) (by decide) hy
  exact Keeps.put_fb h rfl fun c => mwf_putAll (h.canon c).fb

theorem State.fbFetch_keeps (s : State) (a : ℕ) (n : ℕ) :
    Keeps 0x7E0000800000000000000000000000000000000000000000000000000000000000001010002000000D8 s (State.fbFetch s a n).1 := by
  have h0 : Keeps 0x7E0000800000000000000000000000000000000000000000000000000000000000001010002000000D8 s s := Keeps.refl _ _
  unfold State.fbFetch
  repeat' first | with_reducible assumption | apply Eq.refl | intro c | (with_reducible first | apply Keeps.step (State.memRead_keeps ..) | apply Keeps.step (State.draw_keeps ..) | apply Keeps.ite | apply Keeps.foldl | apply Keeps.foldl_fst) | split | extract_lets

theorem State.mbxDown_keeps (s : State) (c : ℕ) (w0 : ℕ) (p : List ℕ) :
    Keeps 0x1400000C1000288 s (State.mbxDown s c w0 p) := by
  have h0 : Keeps 0x1400000C1000288 s s := Keeps.refl _ _
  unfold State.mbxDown
  extract_lets _ _ _ _ x4 _ x6 x7
  have h5 : Keeps 0x1400000C1000288 s x4 := by unfold x4; repeat' first | with_reducible assumption | apply Eq.refl | with_reducible apply Keeps.step (State.fbWrite_keeps ..)
  try clear_value x4
  have h7 : Keeps 0x1400000C1000288 s x6 := by unfold x6; repeat' first | with_reducible assumption | apply Eq.refl | with_reducible apply Keeps.ite | split | with_reducible apply Keeps.put_baind
  try clear_value x6
  have h8 : Keeps 0x1400000C1000288 s x7 := by unfold x7; repeat' first | with_reducible assumption | apply Eq.refl | (with_reducible first | apply Keeps.step (State.setMbx_keeps ..) | apply Keeps.ite) | split
  try clear_value x7
  repeat' first | with_reducible assumption | apply Eq.refl | (with_reducible first | apply Keeps.step (State.emit_keeps ..) | apply Keeps.ite) | split | extract_lets

theorem State.mbxPump_keeps (s : State) (c n : Nat) : Keeps 0x1400000C1000288 s (s.mbxPump c n) := by
  induction n generalizing s with
  | zero => exact Keeps.refl _ _
  | succ n ih =>
    unfold State.mbxPump
    split
    · split
      · refine Keeps.comp (ih _) (by decide) (Keeps.comp (State.mbxDown_keeps ..) (by decide) ?_)
        exact Keeps.put_baind (Keeps.refl _ _) rfl
      · exact Keeps.refl _ _
    · exact Keeps.refl _ _

theorem State.mbxReply_keeps (s : State) (c : ℕ) (w0 : ℕ) (p : List ℕ) :
    Keeps 0x1400000C1000288 s (State.mbxReply s c w0 p) := by
  have h0 : Keeps 0x1400000C1000288 s s := Keeps.refl _ _
  unfold State.mbxReply
  extract_lets _ x1
  have h2 : Keeps 0x1400000C1000288 s x1 := by unfold x1; repeat' first | with_reducible assumption | apply Eq.refl | with_reducible apply Keeps.put_baind
  try clear_value x1
  repeat' first | with_reducible assumption | apply Eq.refl | with_reducible apply Keeps.step (State.mbxPump_keeps ..) | extract_lets

theorem State.sendReply_keeps (s : State) (src : Source) (tag : ℕ) (compl : Bool) (p : List ℕ) :
    Keeps 0x8000000700000000000000000000000000000000000000000000000000000000000000000000000001400000C3000288 s (State.sendReply s src tag compl p) := by
  have h0 : Keeps 0x8000000700000000000000000000000000000000000000000000000000000000000000000000000001400000C3000288 s s := Keeps.refl _ _
  unfold State.sendReply
  repeat' first | with_reducible assumption | apply Eq.refl | intro c | (with_reducible first | apply State.bump_keeps | apply Keeps.step (State.emit_keeps ..) | apply Keeps.step (State.sspReply_keeps ..) | apply Keeps.step (State.mbxReply_keeps ..) | apply Keeps.ite) | ((with_reducible apply Has.fam (ETH_TXCNT_COUNT_cls ..)); exact Eq.refl true) | split

theorem State.opFinish_keeps (s : State) (opcode : ℕ) (status : ℕ) (det : List ℕ) :
    Keeps 0x8000000700000000000000000000000000000000000000000000000000000000000000000000000001400002C30002C8 s (State.opFinish s opcode status det) := by
  have h0 : Keeps 0x8000000700000000000000000000000000000000000000000000000000000000000000000000000001400002C30002C8 s s := Keeps.refl _ _
  unfold State.opFinish
  extract_lets _ _ _ _ _ x5
  have h6 : Keeps 0x8000000700000000000000000000000000000000000000000000000000000000000000000000000001400002C30002C8 s x5 := by unfold x5; repeat' first | with_reducible assumption | apply Eq.refl | with_reducible apply Keeps.put_baind
  try clear_value x5
  repeat' first | with_reducible assumption | apply Eq.refl | intro c | (with_reducible first | apply Keeps.step (State.raise_keeps ..) | apply Keeps.step (State.sendReply_keeps ..) | apply Keeps.foldl) | extract_lets

theorem State.opsServed_keeps (s : State) :
    Keeps 0x1000000 s (State.opsServed s) := by
  have h0 : Keeps 0x1000000 s s := Keeps.refl _ _
  unfold State.opsServed
  repeat' first | with_reducible assumption | apply Eq.refl | extract_lets | with_reducible apply Keeps.put_baind

theorem State.setPhase_keeps (s : State) (p : ℕ) :
    Keeps 0x1000000000000000000000000000000000000000008 s (State.setPhase s p) := by
  have h0 : Keeps 0x1000000000000000000000000000000000000000008 s s := Keeps.refl _ _
  unfold State.setPhase
  repeat' first | with_reducible assumption | apply Eq.refl | intro c | with_reducible apply State.set_keeps | ((with_reducible apply Has.fam (CAL_STATUS_PHASE_cls ..)); exact Eq.refl true)

theorem State.pendTrig_keeps (s : State) (b : ℕ) :
    Keeps 0x8000000000000000000000000000000000000000008 s (State.pendTrig s b) := by
  have h0 : Keeps 0x8000000000000000000000000000000000000000008 s s := Keeps.refl _ _
  unfold State.pendTrig
  repeat' first | with_reducible assumption | apply Eq.refl | intro c | with_reducible apply State.set_keeps | ((with_reducible apply Has.fam (CAL_STATUS_PENDING_cls ..)); exact Eq.refl true)

theorem State.calBegin_keeps (s : State) (bits : ℕ) :
    Keeps 0xE000000000000000000000000000000000000000000000000000000000000B000000000000000000000000000000000081802008 s (State.calBegin s bits) := by
  have h0 : Keeps 0xE000000000000000000000000000000000000000000000000000000000000B000000000000000000000000000000000081802008 s s := Keeps.refl _ _
  unfold State.calBegin
  extract_lets _ _ _ _ _ x5
  have h6 : Keeps 0xE000000000000000000000000000000000000000000000000000000000000B000000000000000000000000000000000081802008 s x5 := by unfold x5; repeat' first | with_reducible assumption | apply Eq.refl | intro c | (with_reducible first | apply Keeps.step (State.setPhase_keeps ..) | apply State.set_keeps | apply Keeps.step (State.opsServed_keeps ..)) | ((with_reducible apply Has.fam (CAL_STATUS_COMPUTE_cls ..)); exact Eq.refl true) | ((with_reducible apply Has.fam (CAL_STATUS_PENDING_cls ..)); exact Eq.refl true) | with_reducible apply Keeps.put_cal
  try clear_value x5
  repeat' first | with_reducible assumption | apply Eq.refl | (with_reducible first | apply Keeps.step (State.askGrant_keeps ..) | apply Keeps.ite) | split | extract_lets | with_reducible apply Keeps.put_cal

theorem State.calNext_keeps (s : State) :
    Keeps 0xE000000000000000000000000000000000000000000000000000000000000B000000000000000000000000000000000081802008 s (State.calNext s) := by
  have h0 : Keeps 0xE000000000000000000000000000000000000000000000000000000000000B000000000000000000000000000000000081802008 s s := Keeps.refl _ _
  unfold State.calNext
  repeat' first | with_reducible assumption | apply Eq.refl | (with_reducible first | apply Keeps.step (State.calBegin_keeps ..) | apply Keeps.ite) | split | extract_lets

theorem State.trigger_keeps (s : State) (b : ℕ) :
    Keeps 0xE000000000000000000000000000000000000000000000000000000000000B000000000000000000000000000000000081802008 s (State.trigger s b) := by
  have h0 : Keeps 0xE000000000000000000000000000000000000000000000000000000000000B000000000000000000000000000000000081802008 s s := Keeps.refl _ _
  unfold State.trigger
  repeat' first | with_reducible assumption | apply Eq.refl | (with_reducible first | apply Keeps.step (State.opsServed_keeps ..) | apply Keeps.step (State.calNext_keeps ..) | apply Keeps.step (State.pendTrig_keeps ..) | apply Keeps.ite) | split | extract_lets | with_reducible apply Keeps.put_cal

theorem State.calResult_keeps (s : State) (code : ℕ) :
    Keeps 0x78000000000000000000000000000000000000000000008 s (State.calResult s code) := by
  have h0 : Keeps 0x78000000000000000000000000000000000000000000008 s s := Keeps.refl _ _
  unfold State.calResult
  repeat' first | with_reducible assumption | apply Eq.refl | intro c | (with_reducible first | apply State.set_keeps | apply State.setB_keeps) | ((with_reducible apply Has.fam (CAL_LASTRESULT_TRIMDROP_cls ..)); exact Eq.refl true) | ((with_reducible apply Has.fam (CAL_LASTRESULT_ORPHAN_cls ..)); exact Eq.refl true) | ((with_reducible apply Has.fam (CAL_LASTRESULT_TRIG_cls ..)); exact Eq.refl true) | ((with_reducible apply Has.fam (CAL_LASTRESULT_CODE_cls ..)); exact Eq.refl true)

theorem State.calEnded_keeps (s : State) :
    Keeps 0x1000002000020C8 s (State.calEnded s) := by
  have h0 : Keeps 0x1000002000020C8 s s := Keeps.refl _ _
  unfold State.calEnded
  extract_lets _ _ _ _ x4
  have h5 : Keeps 0x1000002000020C8 s x4 := by unfold x4; repeat' first | with_reducible assumption | apply Eq.refl | with_reducible apply Keeps.put_cal
  try clear_value x4
  repeat' first | with_reducible assumption | apply Eq.refl | with_reducible apply Keeps.step (State.record_keeps ..) | extract_lets

theorem State.calFailed_keeps (s : State) (code : ℕ) :
    Keeps 0x8000000700000000000000000000000000000000000000000785020000000000000000000000000001400002C30022C8 s (State.calFailed s code) := by
  have h0 : Keeps 0x8000000700000000000000000000000000000000000000000785020000000000000000000000000001400002C30022C8 s s := Keeps.refl _ _
  unfold State.calFailed
  extract_lets x0 x1 _ x3
  have h1 : Keeps 0x8000000700000000000000000000000000000000000000000785020000000000000000000000000001400002C30022C8 s x0 := by unfold x0; repeat' first | with_reducible assumption | apply Eq.refl | intro c | (with_reducible first | apply Keeps.step (State.calResult_keeps ..) | apply State.bump_keeps) | ((with_reducible apply Has.fam (CAL_FAILS_COUNT_cls ..)); exact Eq.refl true)
  try clear_value x0
  have h2 : Keeps 0x8000000700000000000000000000000000000000000000000785020000000000000000000000000001400002C30022C8 s x1 := by unfold x1; repeat' first | with_reducible assumption | apply Eq.refl | intro c | with_reducible apply State.set_keeps | ((with_reducible apply Has.fam (CAL_STATUS_BACKOFF_cls ..)); exact Eq.refl true)
  try clear_value x1
  have h4 : Keeps 0x8000000700000000000000000000000000000000000000000785020000000000000000000000000001400002C30022C8 s x3 := by unfold x3; repeat' first | with_reducible assumption | apply Eq.refl | with_reducible apply Keeps.ite | split | with_reducible apply Keeps.put_cal
  try clear_value x3
  repeat' first | with_reducible assumption | apply Eq.refl | intro c | (with_reducible first | apply Keeps.step (State.opFinish_keeps ..) | apply State.set_keeps) | ((with_reducible apply Has.fam (CAL_STATUS_COMPUTE_cls ..)); exact Eq.refl true) | extract_lets | with_reducible apply Keeps.put_cal

theorem State.calRelease_keeps (s : State) :
    Keeps 0x4C04F0000000000000000000000000000000000000000000000000000000000600000402008 s (State.calRelease s) := by
  have h0 : Keeps 0x4C04F0000000000000000000000000000000000000000000000000000000000600000402008 s s := Keeps.refl _ _
  unfold State.calRelease
  repeat' first | with_reducible assumption | apply Eq.refl | with_reducible apply Keeps.step (State.lyOff_keeps ..) | extract_lets | with_reducible apply Keeps.put_cal

theorem State.calIdle_keeps (s : State) :
    Keeps 0xE000000000000000000000000000000000000000000000000000000000000B0000000000000000000000000001000002818020C8 s (State.calIdle s) := by
  have h0 : Keeps 0xE000000000000000000000000000000000000000000000000000000000000B0000000000000000000000000001000002818020C8 s s := Keeps.refl _ _
  unfold State.calIdle
  repeat' first | with_reducible assumption | apply Eq.refl | (with_reducible first | apply Keeps.step (State.calNext_keeps ..) | apply Keeps.step (State.setPhase_keeps ..) | apply Keeps.step (State.calEnded_keeps ..))

theorem State.calAbort_keeps (s : State) (code : ℕ) :
    Keeps 0xE00000008000000700000000000004C04F000000000000000000000007880B00C0300000000000000000000001406002C3C032C8 s (State.calAbort s code) := by
  have h0 : Keeps 0xE00000008000000700000000000004C04F000000000000000000000007880B00C0300000000000000000000001406002C3C032C8 s s := Keeps.refl _ _
  unfold State.calAbort
  extract_lets _ _ x2 _ x4
  have h3 : Keeps 0xE00000008000000700000000000004C04F000000000000000000000007880B00C0300000000000000000000001406002C3C032C8 s x2 := by unfold x2; repeat' first | with_reducible assumption | apply Eq.refl | intro c | (with_reducible first | apply Keeps.step (State.raise_keeps ..) | apply Keeps.step (State.calResult_keeps ..) | apply State.bump_keeps | apply Keeps.step (State.pendTrig_keeps ..) | apply Keeps.step (State.opFinish_keeps ..) | apply State.set_keeps | apply Keeps.ite) | ((with_reducible apply Has.fam (CAL_ABORTS_COUNT_cls ..)); exact Eq.refl true) | ((with_reducible apply Has.fam (CAL_STATUS_COMPUTE_cls ..)); exact Eq.refl true) | split | extract_lets | with_reducible apply Keeps.put_cal
  try clear_value x2
  have h5 : Keeps 0xE00000008000000700000000000004C04F000000000000000000000007880B00C0300000000000000000000001406002C3C032C8 s x4 := by unfold x4; repeat' first | with_reducible assumption | apply Eq.refl | intro c | (with_reducible first | apply Keeps.step (State.raise_keeps ..) | apply Keeps.step (State.calResult_keeps ..) | apply State.bump_keeps | apply Keeps.step (State.pendTrig_keeps ..) | apply Keeps.step (State.opFinish_keeps ..) | apply State.set_keeps | apply Keeps.ite) | ((with_reducible apply Has.fam (CAL_ABORTS_COUNT_cls ..)); exact Eq.refl true) | ((with_reducible apply Has.fam (CAL_STATUS_COMPUTE_cls ..)); exact Eq.refl true) | split | extract_lets | with_reducible apply Keeps.put_cal
  try clear_value x4
  repeat' first | with_reducible assumption | apply Eq.refl | intro c | (with_reducible first | apply Keeps.step (State.setPhase_keeps ..) | apply Keeps.step (State.calEnded_keeps ..) | apply Keeps.step (State.dropGrant_keeps ..) | apply Keeps.step (State.calRelease_keeps ..) | apply Keeps.step (State.blendAbort_keeps ..) | apply Keeps.step (State.raise_keeps ..) | apply State.set_keeps | apply State.bump_keeps | apply Keeps.step (State.raise_keeps ..) | apply Keeps.step (State.calResult_keeps ..) | apply State.bump_keeps | apply Keeps.step (State.pendTrig_keeps ..) | apply Keeps.step (State.opFinish_keeps ..) | apply State.set_keeps | apply Keeps.ite) | ((with_reducible apply Has.fam (CAL_LASTRESULT_CODE_cls ..)); exact Eq.refl true) | ((with_reducible apply Has.fam (CAL_ABORTS_COUNT_cls ..)); exact Eq.refl true) | ((with_reducible apply Has.fam (CAL_ABORTS_COUNT_cls ..)); exact Eq.refl true) | ((with_reducible apply Has.fam (CAL_STATUS_COMPUTE_cls ..)); exact Eq.refl true) | split | extract_lets | with_reducible apply Keeps.put_cal

theorem State.calCollect_keeps (s : State) (c : FrameCtx) (n : ℕ) (h : Header) (xs : List Samp) :
    Keeps 0x2000 s (State.calCollect s c n h xs) := by
  have h0 : Keeps 0x2000 s s := Keeps.refl _ _
  unfold State.calCollect
  repeat' first | with_reducible assumption | apply Eq.refl | with_reducible apply Keeps.ite | split | extract_lets | with_reducible apply Keeps.put_cal

theorem State.noiseCheck_keeps (s : State) (rs : List PixRes) :
    Keeps 0x10000000008 s (State.noiseCheck s rs).1 := by
  have h0 : Keeps 0x10000000008 s s := Keeps.refl _ _
  unfold State.noiseCheck
  repeat' first | with_reducible assumption | apply Eq.refl | intro c | (with_reducible first | apply State.set_keeps | apply Keeps.ite | apply Keeps.foldl | apply Keeps.foldl_fst) | ((with_reducible apply Has.fam (CAL_TNOISE_LAST_cls ..)); exact Eq.refl true) | split | extract_lets

theorem State.calCompute_keeps (s : State) :
    Keeps 0x180000000000000000000000000000000000010000002008 s (State.calCompute s) := by
  have h0 : Keeps 0x180000000000000000000000000000000000010000002008 s s := Keeps.refl _ _
  unfold State.calCompute
  extract_lets _ _ _ _ _ _ _ _ _ _ _ x11 x12
  have h12 : Keeps 0x180000000000000000000000000000000000010000002008 s x11.1 := by unfold x11; repeat' first | with_reducible assumption | apply Eq.refl | with_reducible apply Keeps.step (State.noiseCheck_keeps ..)
  try clear_value x11
  have h13 : Keeps 0x180000000000000000000000000000000000010000002008 s x12 := by unfold x12; repeat' first | with_reducible assumption | apply Eq.refl | intro c | with_reducible apply State.set_keeps | ((with_reducible apply Has.fam (CAL_LASTSTATS_NEWBAD_cls ..)); exact Eq.refl true) | ((with_reducible apply Has.fam (CAL_LASTSTATS_OUTLIM_cls ..)); exact Eq.refl true)
  try clear_value x12
  repeat' first | with_reducible assumption | apply Eq.refl | extract_lets | with_reducible apply Keeps.put_cal

theorem State.calWrite_keeps (s : State) :
    Keeps 0x30000000000000000000000000100000000003088 s (State.calWrite s) := by
  have h0 : Keeps 0x30000000000000000000000000100000000003088 s s := Keeps.refl _ _
  unfold State.calWrite
  extract_lets _ x1 _ x3 x4
  have h2 : Keeps 0x30000000000000000000000000100000000003088 s x1 := by unfold x1; repeat' first | with_reducible assumption | apply Eq.refl | intro c | (with_reducible first | apply Keeps.step (State.setPb_keeps ..) | apply Keeps.foldl) | split | extract_lets
  try clear_value x1
  have h4 : Keeps 0x30000000000000000000000000100000000003088 s x3 := by unfold x3; repeat' first | with_reducible assumption | apply Eq.refl | intro c | (with_reducible first | apply State.set_keeps | apply Keeps.ite) | ((with_reducible apply Has.fam (COR_TREF_A_TEMP_cls ..)); exact Eq.refl true) | ((with_reducible apply Has.fam (COR_TREF_B_TEMP_cls ..)); exact Eq.refl true) | split
  try clear_value x3
  have h5 : Keeps 0x30000000000000000000000000100000000003088 s x4 := by unfold x4; repeat' first | with_reducible assumption | apply Eq.refl | intro c | (with_reducible first | apply Keeps.step (State.setMark_keeps ..) | apply Keeps.foldl) | extract_lets
  try clear_value x4
  repeat' first | with_reducible assumption | apply Eq.refl | extract_lets | with_reducible apply Keeps.put_cal

theorem State.calStore_keeps (s : State) :
    Keeps 0x30000000000000000000000000100000000003088 s (State.calStore s) := by
  have h0 : Keeps 0x30000000000000000000000000100000000003088 s s := Keeps.refl _ _
  unfold State.calStore
  repeat' first | with_reducible assumption | apply Eq.refl | (with_reducible first | apply Keeps.step (State.calWrite_keeps ..) | apply Keeps.ite) | split

theorem State.calBlend_keeps (s : State) :
    Keeps 0x103A000000000000000000000000100000000003088 s (State.calBlend s) := by
  have h0 : Keeps 0x103A000000000000000000000000100000000003088 s s := Keeps.refl _ _
  unfold State.calBlend
  repeat' first | with_reducible assumption | apply Eq.refl | intro c | (with_reducible first | apply Keeps.step (State.setPhase_keeps ..) | apply Keeps.step (State.blendStart_keeps ..) | apply State.set_keeps | apply Keeps.step (State.calStore_keeps ..) | apply Keeps.ite) | ((with_reducible apply Has.fam (COR_BLEND_FRAMES_cls ..)); exact Eq.refl true) | with_reducible apply Has.ite | split

theorem State.calSuccess_keeps (s : State) :
    Keeps 0x80000007000000000000000000000000000000000000000007F3000000000000000000000000000001400002C30022C8 s (State.calSuccess s) := by
  have h0 : Keeps 0x80000007000000000000000000000000000000000000000007F3000000000000000000000000000001400002C30022C8 s s := Keeps.refl _ _
  unfold State.calSuccess
  extract_lets x0 x1 x2
  have h1 : Keeps 0x80000007000000000000000000000000000000000000000007F3000000000000000000000000000001400002C30022C8 s x0 := by unfold x0; repeat' first | with_reducible assumption | apply Eq.refl | intro c | (with_reducible first | apply State.setPair_keeps | apply State.bump_keeps) | ((with_reducible apply Has.fam (CAL_LASTTIME_LO_STAMP_cls ..)); exact Eq.refl true) | ((with_reducible apply Has.fam (CAL_LASTTIME_HI_STAMP_cls ..)); exact Eq.refl true) | ((with_reducible apply Has.fam (CAL_COUNT_COUNT_cls ..)); exact Eq.refl true)
  try clear_value x0
  have h2 : Keeps 0x80000007000000000000000000000000000000000000000007F3000000000000000000000000000001400002C30022C8 s x1 := by unfold x1; repeat' first | with_reducible assumption | apply Eq.refl | intro c | (with_reducible first | apply Keeps.step (State.raise_keeps ..) | apply Keeps.step (State.calResult_keeps ..) | apply State.set_keeps) | ((with_reducible apply Has.fam (CAL_LASTSTAGE_TEMP_cls ..)); exact Eq.refl true)
  try clear_value x1
  have h3 : Keeps 0x80000007000000000000000000000000000000000000000007F3000000000000000000000000000001400002C30022C8 s x2 := by unfold x2; repeat' first | with_reducible assumption | apply Eq.refl | intro c | with_reducible apply State.set_keeps | ((with_reducible apply Has.fam (CAL_STATUS_BACKOFF_cls ..)); exact Eq.refl true)
  try clear_value x2
  repeat' first | with_reducible assumption | apply Eq.refl | with_reducible apply Keeps.step (State.opFinish_keeps ..) | extract_lets | with_reducible apply Keeps.put_cal

theorem State.slotCopy_keeps (s : State) :
    Keeps 0x30000000000000000000000000100000000001088 s (State.slotCopy s) := by
  have h0 : Keeps 0x30000000000000000000000000100000000001088 s s := Keeps.refl _ _
  unfold State.slotCopy
  extract_lets x0
  have h1 : Keeps 0x30000000000000000000000000100000000001088 s x0 := by unfold x0; repeat' first | with_reducible assumption | apply Eq.refl | intro c | (with_reducible first | apply Keeps.step (State.setPb_keeps ..) | apply Keeps.foldl) | extract_lets
  try clear_value x0
  repeat' first | with_reducible assumption | apply Eq.refl | intro c | (with_reducible first | apply State.set_keeps | apply Keeps.ite) | ((with_reducible apply Has.fam (COR_TREF_A_TEMP_cls ..)); exact Eq.refl true) | ((with_reducible apply Has.fam (COR_TREF_B_TEMP_cls ..)); exact Eq.refl true) | split

theorem State.stepOffset_keeps (s : State) (pix : ℕ) (stepQ4 : ℕ) (down : Bool) :
    Keeps 0x100000000003088 s (State.stepOffset s pix stepQ4 down) := by
  have h0 : Keeps 0x100000000003088 s s := Keeps.refl _ _
  unfold State.stepOffset
  extract_lets _ _ _ _ x4
  have h5 : Keeps 0x100000000003088 s x4 := by unfold x4; repeat' first | with_reducible assumption | apply Eq.refl | with_reducible apply Keeps.step (State.setPb_keeps ..)
  try clear_value x4
  repeat' first | with_reducible assumption | apply Eq.refl | with_reducible apply Keeps.ite | split | extract_lets | with_reducible apply Keeps.put_cal

theorem State.tileHandoff_keeps (s : State) (n : ℕ) :
    Keeps 0x1000000000000000000000000100000000003488 s (State.tileHandoff s n) := by
  have h0 : Keeps 0x1000000000000000000000000100000000003488 s s := Keeps.refl _ _
  unfold State.tileHandoff
  extract_lets _ _ _ x3 x4
  have h4 : Keeps 0x1000000000000000000000000100000000003488 s x3 := by unfold x3; repeat' first | with_reducible assumption | apply Eq.refl | intro c | (with_reducible first | apply Keeps.step (State.stepOffset_keeps ..) | apply Keeps.foldl)
  try clear_value x3
  have h5 : Keeps 0x1000000000000000000000000100000000003488 s x4 := by unfold x4; repeat' first | with_reducible assumption | apply Eq.refl | intro c | (with_reducible first | apply Keeps.step (State.stepOffset_keeps ..) | apply Keeps.foldl)
  try clear_value x4
  repeat' first | with_reducible assumption | apply Eq.refl | (with_reducible first | apply Keeps.step (State.askFlip_keeps ..) | apply Keeps.step (State.stagePut_keeps ..) | apply Keeps.ite) | split | extract_lets

theorem State.settleSteps_keeps (s : State) :
    Keeps 0x100000000003088 s (State.settleSteps s) := by
  have h0 : Keeps 0x100000000003088 s s := Keeps.refl _ _
  unfold State.settleSteps
  extract_lets _ _ _ x3
  have h4 : Keeps 0x100000000003088 s x3 := by unfold x3; repeat' first | with_reducible assumption | apply Eq.refl | intro c | (with_reducible first | apply Keeps.step (State.setPb_keeps ..) | apply Keeps.foldl)
  try clear_value x3
  repeat' first | with_reducible assumption | apply Eq.refl | extract_lets | with_reducible apply Keeps.put_cal

theorem State.handoffTiles_keeps (s : State) :
    Keeps 0x1000000000000000000000000100000000003488 s (State.handoffTiles s) := by
  have h0 : Keeps 0x1000000000000000000000000100000000003488 s s := Keeps.refl _ _
  unfold State.handoffTiles
  repeat' first | with_reducible assumption | apply Eq.refl | intro c | (with_reducible first | apply Keeps.step (State.tileHandoff_keeps ..) | apply Keeps.ite | apply Keeps.foldl) | split

theorem State.handoffEnd_keeps (s : State) :
    Keeps 0xE000000000000000000000000000000000000000000000000000000004000B0000000000000000000000000001000002818020C8 s (State.handoffEnd s) := by
  have h0 : Keeps 0xE000000000000000000000000000000000000000000000000000000004000B0000000000000000000000000001000002818020C8 s s := Keeps.refl _ _
  unfold State.handoffEnd
  repeat' first | with_reducible assumption | apply Eq.refl | intro c | (with_reducible first | apply Keeps.step (State.calIdle_keeps ..) | apply State.set_keeps | apply Keeps.ite) | ((with_reducible apply Has.fam (CAL_LASTRESULT_TRIMDROP_cls ..)); exact Eq.refl true) | split

theorem State.handoffStep_keeps (s : State) :
    Keeps 0xE000000000000000000000000000000000000000000000000000000004000B0010000000000000000000000001000002818034C8 s (State.handoffStep s) := by
  have h0 : Keeps 0xE000000000000000000000000000000000000000000000000000000004000B0010000000000000000000000001000002818034C8 s s := Keeps.refl _ _
  unfold State.handoffStep
  extract_lets _ x1
  have h2 : Keeps 0xE000000000000000000000000000000000000000000000000000000004000B0010000000000000000000000001000002818034C8 s x1 := by unfold x1; repeat' first | with_reducible assumption | apply Eq.refl | with_reducible apply Keeps.put_cal
  try clear_value x1
  repeat' first | with_reducible assumption | apply Eq.refl | (with_reducible first | apply Keeps.step (State.handoffEnd_keeps ..) | apply Keeps.step (State.handoffTiles_keeps ..) | apply Keeps.ite) | split | extract_lets

theorem State.captureEnd_keeps (s : State) :
    Keeps 0x4C04F0000000000000000000000000003000000000000000000000000000000600000402008 s (State.captureEnd s) := by
  have h0 : Keeps 0x4C04F0000000000000000000000000003000000000000000000000000000000600000402008 s s := Keeps.refl _ _
  unfold State.captureEnd
  repeat' first | with_reducible assumption | apply Eq.refl | intro c | (with_reducible first | apply State.set_keeps | apply Keeps.step (State.setPhase_keeps ..) | apply Keeps.step (State.calRelease_keeps ..)) | ((with_reducible apply Has.fam (CAL_STATUS_COMPUTE_cls ..)); exact Eq.refl true)

theorem State.calUnblind_keeps (s : State) :
    Keeps 0xE0000000000000000000000000000000006000000000000000000000200004000000000000000000000000000000200080A02008 s (State.calUnblind s) := by
  have h0 : Keeps 0xE0000000000000000000000000000000006000000000000000000000200004000000000000000000000000000000200080A02008 s s := Keeps.refl _ _
  unfold State.calUnblind
  extract_lets _ x1
  have h2 : Keeps 0xE0000000000000000000000000000000006000000000000000000000200004000000000000000000000000000000200080A02008 s x1 := by unfold x1; repeat' first | with_reducible assumption | apply Eq.refl | intro c | with_reducible apply State.set_keeps | ((with_reducible apply Has.fam (CAL_BLIND_US_cls ..)); exact Eq.refl true) | ((with_reducible apply Has.fam (CAL_STATUS_BLIND_cls ..)); exact Eq.refl true)
  try clear_value x1
  repeat' first | with_reducible assumption | apply Eq.refl | (with_reducible first | apply Keeps.step (State.dropGrant_keeps ..) | apply Keeps.step (State.blindEnd_keeps ..)) | extract_lets | with_reducible apply Keeps.put_cal

theorem State.calBlind_keeps (s : State) :
    Keeps 0x8C04F61700A00000000000000000000050000000000000000000000000001006002006820D8 s (State.calBlind s) := by
  have h0 : Keeps 0x8C04F61700A00000000000000000000050000000000000000000000000001006002006820D8 s s := Keeps.refl _ _
  unfold State.calBlind
  extract_lets x0 _ _ _ x4
  have h1 : Keeps 0x8C04F61700A00000000000000000000050000000000000000000000000001006002006820D8 s x0 := by unfold x0; repeat' first | with_reducible assumption | apply Eq.refl | intro c | (with_reducible first | apply State.set_keeps | apply Keeps.step (State.setPhase_keeps ..)) | ((with_reducible apply Has.fam (CAL_STATUS_BLIND_cls ..)); exact Eq.refl true)
  try clear_value x0
  have h5 : Keeps 0x8C04F61700A00000000000000000000050000000000000000000000000001006002006820D8 s x4 := by unfold x4; repeat' first | with_reducible assumption | apply Eq.refl | with_reducible apply Keeps.put_cal
  try clear_value x4
  repeat' first | with_reducible assumption | apply Eq.refl | (with_reducible first | apply Keeps.step (State.lyOn_keeps ..) | apply Keeps.step (State.braidTruncate_keeps ..) | apply Keeps.step (State.blindBegin_keeps ..)) | extract_lets

theorem State.calBoundary_keeps (s : State) (flip : Bool) :
    Keeps 0xE0000000800000070000000000000CC04F61700A000000000000000027F30F03B0000000000000000000000001406002C3E836D8 s (State.calBoundary s flip) := by
  have h0 : Keeps 0xE0000000800000070000000000000CC04F61700A000000000000000027F30F03B0000000000000000000000001406002C3E836D8 s s := Keeps.refl _ _
  unfold State.calBoundary
  extract_lets x0 _ _ _ _ x5
  have h1 : Keeps 0xE0000000800000070000000000000CC04F61700A000000000000000027F30F03B0000000000000000000000001406002C3E836D8 s x0 := by unfold x0; repeat' first | with_reducible assumption | apply Eq.refl | with_reducible apply Keeps.step (State.settleSteps_keeps ..)
  try clear_value x0
  have h6 : Keeps 0xE0000000800000070000000000000CC04F61700A000000000000000027F30F03B0000000000000000000000001406002C3E836D8 s x5 := by unfold x5; repeat' first | with_reducible assumption | apply Eq.refl | (with_reducible first | apply Keeps.step (State.calUnblind_keeps ..) | apply Keeps.ite) | split
  try clear_value x5
  repeat' first | with_reducible assumption | apply Eq.refl | (with_reducible first | apply Keeps.step (State.calBlind_keeps ..) | apply Keeps.step (State.setPhase_keeps ..) | apply Keeps.step (State.captureEnd_keeps ..) | apply Keeps.step (State.calIdle_keeps ..) | apply Keeps.step (State.calBlend_keeps ..) | apply Keeps.step (State.calSuccess_keeps ..) | apply Keeps.step (State.handoffStep_keeps ..) | apply Keeps.ite) | split | extract_lets | with_reducible apply Keeps.put_cal

theorem State.condTrig_keeps (s : State) (was : ℕ) (b : ℕ) (on : Bool) :
    Keeps 0xE000000000000000000000000000000000000000000000000000000000000B000000000000000000000000000000000081802008 s (State.condTrig s was b on) := by
  have h0 : Keeps 0xE000000000000000000000000000000000000000000000000000000000000B000000000000000000000000000000000081802008 s s := Keeps.refl _ _
  unfold State.condTrig
  repeat' first | with_reducible assumption | apply Eq.refl | (with_reducible first | apply Keeps.step (State.trigger_keeps ..) | apply Keeps.ite) | split

theorem State.trigEval_keeps (s : State) :
    Keeps 0xE000000000000000000000000000000000000000000000000000000000008B000000000000000000000000000000000081802008 s (State.trigEval s) := by
  have h0 : Keeps 0xE000000000000000000000000000000000000000000000000000000000008B000000000000000000000000000000000081802008 s s := Keeps.refl _ _
  unfold State.trigEval
  extract_lets x0 _ _ _ _ x5
  have h1 : Keeps 0xE000000000000000000000000000000000000000000000000000000000008B000000000000000000000000000000000081802008 s x0 := by unfold x0; repeat' first | with_reducible assumption | apply Eq.refl | intro c | with_reducible apply State.setB_keeps | ((with_reducible apply Has.fam (CAL_STATUS_SUSPENDED_cls ..)); exact Eq.refl true)
  try clear_value x0
  have h6 : Keeps 0xE000000000000000000000000000000000000000000000000000000000008B000000000000000000000000000000000081802008 s x5 := by unfold x5; repeat' first | with_reducible assumption | apply Eq.refl | with_reducible apply Keeps.ite | split | with_reducible apply Keeps.put_cal
  try clear_value x5
  repeat' first | with_reducible assumption | apply Eq.refl | (with_reducible first | apply Keeps.step (State.calNext_keeps ..) | apply Keeps.step (State.condTrig_keeps ..)) | extract_lets

theorem State.powerupStart_keeps (s : State) :
    Keeps 0xE000000000000000000000000000000000000000000000000000000000000B000000000000000000000000000000000081802008 s (State.powerupStart s) := by
  have h0 : Keeps 0xE000000000000000000000000000000000000000000000000000000000000B000000000000000000000000000000000081802008 s s := Keeps.refl _ _
  unfold State.powerupStart
  repeat' first | with_reducible assumption | apply Eq.refl | (with_reducible first | apply Keeps.step (State.trigger_keeps ..) | apply Keeps.ite) | split

theorem State.grantTimeoutS_keeps (s : State) :
    Keeps 0xE000000000000000000000000000000000000000000000000000000000001900000000000000000000000000000000008080200C s (State.grantTimeoutS s) := by
  have h0 : Keeps 0xE000000000000000000000000000000000000000000000000000000000001900000000000000000000000000000000008080200C s s := Keeps.refl _ _
  unfold State.grantTimeoutS
  extract_lets x0 _ x2
  have h1 : Keeps 0xE000000000000000000000000000000000000000000000000000000000001900000000000000000000000000000000008080200C s x0 := by unfold x0; repeat' first | with_reducible assumption | apply Eq.refl | (with_reducible first | apply Keeps.step (State.dropGrant_keeps ..) | apply Keeps.step (State.advance_keeps ..))
  try clear_value x0
  have h3 : Keeps 0xE000000000000000000000000000000000000000000000000000000000001900000000000000000000000000000000008080200C s x2 := by unfold x2; repeat' first | with_reducible assumption | apply Eq.refl | with_reducible apply Keeps.put_cal
  try clear_value x2
  repeat' first | with_reducible assumption | apply Eq.refl | intro c | (with_reducible first | apply Keeps.step (State.setPhase_keeps ..) | apply Keeps.step (State.pendTrig_keeps ..) | apply State.set_keeps | apply Keeps.ite) | ((with_reducible apply Has.fam (CAL_STATUS_DEFERRED_cls ..)); exact Eq.refl true) | split | extract_lets

theorem State.faultShow_keeps (s : State) :
    Keeps 0x2000000000000008 s (State.faultShow s) := by
  have h0 : Keeps 0x2000000000000008 s s := Keeps.refl _ _
  unfold State.faultShow
  repeat' first | with_reducible assumption | apply Eq.refl | intro c | with_reducible apply State.setB_keeps | ((with_reducible apply Has.fam (GLB_STAT_FAULT_cls ..)); exact Eq.refl true)

theorem State.flagClosed_keeps (s : State) :
    Keeps 0x1001000000000000000000000000000000000003408 s (State.flagClosed s) := by
  have h0 : Keeps 0x1001000000000000000000000000000000000003408 s s := Keeps.refl _ _
  unfold State.flagClosed
  extract_lets _ x1
  have h2 : Keeps 0x1001000000000000000000000000000000000003408 s x1 := by unfold x1; repeat' first | with_reducible assumption | apply Eq.refl | with_reducible apply Keeps.step (State.setPhase_keeps ..) | with_reducible apply Keeps.put_cal
  try clear_value x1
  repeat' first | with_reducible assumption | apply Eq.refl | intro c | (with_reducible first | apply Keeps.step (State.askFlip_keeps ..) | apply Keeps.ite | apply Keeps.foldl) | split | extract_lets

theorem State.flagFailed_keeps (s : State) :
    Keeps 0x8000000700000000000004C04F00000000000000000000000785030000000000000000000000000001406002C34022C8 s (State.flagFailed s) := by
  have h0 : Keeps 0x8000000700000000000004C04F00000000000000000000000785030000000000000000000000000001406002C34022C8 s s := Keeps.refl _ _
  unfold State.flagFailed
  repeat' first | with_reducible assumption | apply Eq.refl | (with_reducible first | apply Keeps.step (State.setPhase_keeps ..) | apply Keeps.step (State.raise_keeps ..) | apply Keeps.step (State.calFailed_keeps ..) | apply Keeps.step (State.calRelease_keeps ..))

theorem State.closeTimeout_keeps (s : State) :
    Keeps 0x8000000700000000000004C04F00000000000000000000000785030000000000000000000000000001406002C34022C8 s (State.closeTimeout s) := by
  have h0 : Keeps 0x8000000700000000000004C04F00000000000000000000000785030000000000000000000000000001406002C34022C8 s s := Keeps.refl _ _
  unfold State.closeTimeout
  repeat' first | with_reducible assumption | apply Eq.refl | (with_reducible first | apply Keeps.step (State.flagFailed_keeps ..) | apply Keeps.ite) | split

theorem State.lyFailed_keeps (s : State) :
    Keeps 0x8000000700000000000004C04F00000000000000000000000785030000000000000000000000000001406002C34022C8 s (State.lyFailed s) := by
  have h0 : Keeps 0x8000000700000000000004C04F00000000000000000000000785030000000000000000000000000001406002C34022C8 s s := Keeps.refl _ _
  unfold State.lyFailed
  repeat' first | with_reducible assumption | apply Eq.refl | (with_reducible first | apply Keeps.step (State.flagFailed_keeps ..) | apply Keeps.step (State.raise_keeps ..) | apply Keeps.step (State.lyOff_keeps ..) | apply Keeps.ite) | split

theorem State.flagOpen_keeps (s : State) :
    Keeps 0x20000000000000000000000000002000000000002008 s (State.flagOpen s) := by
  have h0 : Keeps 0x20000000000000000000000000002000000000002008 s s := Keeps.refl _ _
  unfold State.flagOpen
  extract_lets x0
  have h1 : Keeps 0x20000000000000000000000000002000000000002008 s x0 := by unfold x0; repeat' first | with_reducible assumption | apply Eq.refl | intro c | (with_reducible first | apply Keeps.step (State.faultShow_keeps ..) | apply State.set_keeps) | ((with_reducible apply Has.fam (CAL_STATUS_STUCK_cls ..)); exact Eq.refl true)
  try clear_value x0
  repeat' first | with_reducible assumption | apply Eq.refl | with_reducible apply Keeps.ite | split | extract_lets | with_reducible apply Keeps.put_cal

theorem State.flagStuckS_keeps (s : State) :
    Keeps 0x200000000000000000000000000021000002000000CC s (State.flagStuckS s) := by
  have h0 : Keeps 0x200000000000000000000000000021000002000000CC s s := Keeps.refl _ _
  unfold State.flagStuckS
  repeat' first | with_reducible assumption | apply Eq.refl | intro c | (with_reducible first | apply Keeps.step (State.faultShow_keeps ..) | apply Keeps.step (State.raise_keeps ..) | apply State.set_keeps | apply Keeps.step (State.advance_keeps ..) | apply Keeps.ite) | ((with_reducible apply Has.fam (CAL_STATUS_STUCK_cls ..)); exact Eq.refl true) | split

theorem State.computeDone_keeps (s : State) :
    Keeps 0x8000000700000000000000000000000000000000000000001F85020300000000000000000000000001400102C30032C8 s (State.computeDone s) := by
  have h0 : Keeps 0x8000000700000000000000000000000000000000000000001F85020300000000000000000000000001400102C30032C8 s s := Keeps.refl _ _
  unfold State.computeDone
  extract_lets x0
  have h1 : Keeps 0x8000000700000000000000000000000000000000000000001F85020300000000000000000000000001400102C30032C8 s x0 := by unfold x0; repeat' first | with_reducible assumption | apply Eq.refl | intro c | (with_reducible first | apply State.set_keeps | apply Keeps.step (State.calCompute_keeps ..)) | ((with_reducible apply Has.fam (CAL_STATUS_COMPUTE_cls ..)); exact Eq.refl true)
  try clear_value x0
  repeat' first | with_reducible assumption | apply Eq.refl | (with_reducible first | apply Keeps.step (State.calStore_keeps ..) | apply Keeps.step (State.raise_keeps ..) | apply Keeps.step (State.calFailed_keeps ..) | apply Keeps.ite) | split

theorem State.copyDone_keeps (s : State) :
    Keeps 0xE000000000000000000000000000000000000000000000000000000000000B0310000000000000000000000001000002818034C8 s (State.copyDone s) := by
  have h0 : Keeps 0xE000000000000000000000000000000000000000000000000000000000000B0310000000000000000000000001000002818034C8 s s := Keeps.refl _ _
  unfold State.copyDone
  extract_lets x0 _ x2 x3
  have h1 : Keeps 0xE000000000000000000000000000000000000000000000000000000000000B0310000000000000000000000001000002818034C8 s x0 := by unfold x0; repeat' first | with_reducible assumption | apply Eq.refl | with_reducible apply Keeps.step (State.slotCopy_keeps ..)
  try clear_value x0
  have h3 : Keeps 0xE000000000000000000000000000000000000000000000000000000000000B0310000000000000000000000001000002818034C8 s x2 := by unfold x2; repeat' first | with_reducible assumption | apply Eq.refl | with_reducible apply Keeps.put_cal
  try clear_value x2
  have h4 : Keeps 0xE000000000000000000000000000000000000000000000000000000000000B0310000000000000000000000001000002818034C8 s x3 := by unfold x3; repeat' first | with_reducible assumption | apply Eq.refl | with_reducible apply Keeps.step (State.setPhase_keeps ..)
  try clear_value x3
  repeat' first | with_reducible assumption | apply Eq.refl | (with_reducible first | apply Keeps.step (State.calIdle_keeps ..) | apply Keeps.step (State.handoffTiles_keeps ..) | apply Keeps.ite) | split | extract_lets | with_reducible apply Keeps.put_cal

theorem State.setGref_keeps (s : State) (g : Gref) :
    Keeps 0x4000 s (State.setGref s g) := by
  have h0 : Keeps 0x4000 s s := Keeps.refl _ _
  unfold State.setGref
  repeat' first | with_reducible assumption | apply Eq.refl | with_reducible apply Keeps.put_gref

theorem State.grefEnd_keeps (s : State) :
    Keeps 0x4000000000000000000000000000000000000000000000000000000000008000001000000000000000000000000000000000000004008 s (State.grefEnd s) := by
  have h0 : Keeps 0x4000000000000000000000000000000000000000000000000000000000008000001000000000000000000000000000000000000004008 s s := Keeps.refl _ _
  unfold State.grefEnd
  repeat' first | with_reducible assumption | apply Eq.refl | intro c | (with_reducible first | apply Keeps.step (State.setPhase_keeps ..) | apply State.set_keeps) | ((with_reducible apply Has.fam (LOOP_STAT_GREF_cls ..)); exact Eq.refl true) | ((with_reducible apply Has.fam (CAL_GREF_BUSY_cls ..)); exact Eq.refl true) | extract_lets | with_reducible apply Keeps.put_gref

theorem State.calWithdraw_keeps (s : State) :
    Keeps 0xE0000000000000000000000000000000000000000000000000000000000009000000000000000000000000000000000080802008 s (State.calWithdraw s) := by
  have h0 : Keeps 0xE0000000000000000000000000000000000000000000000000000000000009000000000000000000000000000000000080802008 s s := Keeps.refl _ _
  unfold State.calWithdraw
  repeat' first | with_reducible assumption | apply Eq.refl | (with_reducible first | apply Keeps.step (State.setPhase_keeps ..) | apply Keeps.step (State.pendTrig_keeps ..) | apply Keeps.step (State.dropGrant_keeps ..) | apply Keeps.ite) | split

theorem State.grefStartS_keeps (s : State) :
    Keeps 0x40000E0000000000000000000000000000000000000000000000000000008000049000000000000000000000000000000000080806008 s (State.grefStartS s) := by
  have h0 : Keeps 0x40000E0000000000000000000000000000000000000000000000000000008000049000000000000000000000000000000000080806008 s s := Keeps.refl _ _
  unfold State.grefStartS
  extract_lets x0
  have h1 : Keeps 0x40000E0000000000000000000000000000000000000000000000000000008000049000000000000000000000000000000000080806008 s x0 := by unfold x0; repeat' first | with_reducible assumption | apply Eq.refl | with_reducible apply Keeps.step (State.calWithdraw_keeps ..)
  try clear_value x0
  repeat' first | with_reducible assumption | apply Eq.refl | intro c | (with_reducible first | apply State.set_keeps | apply Keeps.step (State.setPhase_keeps ..) | apply Keeps.step (State.setGref_keeps ..) | apply Keeps.ite) | ((with_reducible apply Has.fam (CAL_STATUS_REFUSED_cls ..)); exact Eq.refl true) | ((with_reducible apply Has.fam (LOOP_STAT_GREF_cls ..)); exact Eq.refl true) | ((with_reducible apply Has.fam (CAL_GREF_BUSY_cls ..)); exact Eq.refl true) | split | extract_lets

theorem State.grefW1_keeps (s : State) :
    Keeps 0x4000 s (State.grefW1 s) := by
  have h0 : Keeps 0x4000 s s := Keeps.refl _ _
  unfold State.grefW1
  repeat' first | with_reducible assumption | apply Eq.refl | with_reducible apply Keeps.ite | split | extract_lets | with_reducible apply Keeps.put_gref

theorem State.grefFail_keeps (s : State) :
    Keeps 0x40000000000008000000700000000000000000000000000000000000000280000010000000000000000000000000001400002C30042C8 s (State.grefFail s) := by
  have h0 : Keeps 0x40000000000008000000700000000000000000000000000000000000000280000010000000000000000000000000001400002C30042C8 s s := Keeps.refl _ _
  unfold State.grefFail
  repeat' first | with_reducible assumption | apply Eq.refl | intro c | (with_reducible first | apply Keeps.step (State.opFinish_keeps ..) | apply Keeps.step (State.grefEnd_keeps ..) | apply State.set_keeps) | ((with_reducible apply Has.fam (CAL_GREF_FAIL_cls ..)); exact Eq.refl true)

theorem State.grefW2_keeps (s : State) :
    Keeps 0x40000E00000008000000700000000000000000000000000000000000000E800000B0000000000000000000000000001400002C38062C8 s (State.grefW2 s) := by
  have h0 : Keeps 0x40000E00000008000000700000000000000000000000000000000000000E800000B0000000000000000000000000001400002C38062C8 s s := Keeps.refl _ _
  unfold State.grefW2
  extract_lets _ x1 _ x3
  have h2 : Keeps 0x40000E00000008000000700000000000000000000000000000000000000E800000B0000000000000000000000000001400002C38062C8 s x1 := by unfold x1; repeat' first | with_reducible assumption | apply Eq.refl | with_reducible apply Keeps.put_gref
  try clear_value x1
  have h4 : Keeps 0x40000E00000008000000700000000000000000000000000000000000000E800000B0000000000000000000000000001400002C38062C8 s x3 := by unfold x3; repeat' first | with_reducible assumption | apply Eq.refl | intro c | with_reducible apply State.set_keeps | ((with_reducible apply Has.fam (CAL_GREF_OUTLIM_cls ..)); exact Eq.refl true)
  try clear_value x3
  repeat' first | with_reducible assumption | apply Eq.refl | intro c | (with_reducible first | apply State.set_keeps | apply Keeps.step (State.calNext_keeps ..) | apply Keeps.step (State.grefFail_keeps ..) | apply Keeps.ite) | ((with_reducible apply Has.fam (CAL_GREF_OUTLIM_cls ..)); exact Eq.refl true) | ((with_reducible apply Has.fam (CAL_GREF_PENDAPPLY_cls ..)); exact Eq.refl true) | split | extract_lets | with_reducible apply Keeps.put_gref

theorem State.grefDoneS_keeps (s : State) :
    Keeps 0x40000E000000080000007000000000000000000000000000000000000001800000B0000000000000000000000000001400002C38062C8 s (State.grefDoneS s) := by
  have h0 : Keeps 0x40000E000000080000007000000000000000000000000000000000000001800000B0000000000000000000000000001400002C38062C8 s s := Keeps.refl _ _
  unfold State.grefDoneS
  extract_lets x0
  have h1 : Keeps 0x40000E000000080000007000000000000000000000000000000000000001800000B0000000000000000000000000001400002C38062C8 s x0 := by unfold x0; repeat' first | with_reducible assumption | apply Eq.refl | intro c | (with_reducible first | apply Keeps.step (State.raise_keeps ..) | apply State.set_keeps) | ((with_reducible apply Has.fam (CAL_GREF_DONE_cls ..)); exact Eq.refl true)
  try clear_value x0
  repeat' first | with_reducible assumption | apply Eq.refl | (with_reducible first | apply Keeps.step (State.calNext_keeps ..) | apply Keeps.step (State.opFinish_keeps ..) | apply Keeps.step (State.grefEnd_keeps ..) | apply Keeps.ite) | split

theorem State.gapplyS_keeps (s : State) :
    Keeps 0xE000000000000000000000000000000000000000000000000000004000004B000100000000000000000000000100000081807088 s (State.gapplyS s) := by
  have h0 : Keeps 0xE000000000000000000000000000000000000000000000000000004000004B000100000000000000000000000100000081807088 s s := Keeps.refl _ _
  unfold State.gapplyS
  extract_lets x0
  have h1 : Keeps 0xE000000000000000000000000000000000000000000000000000004000004B000100000000000000000000000100000081807088 s x0 := by unfold x0; repeat' first | with_reducible assumption | apply Eq.refl | intro c | (with_reducible first | apply Keeps.step (State.setPb_keeps ..) | apply Keeps.foldl) | extract_lets
  try clear_value x0
  repeat' first | with_reducible assumption | apply Eq.refl | intro c | (with_reducible first | apply State.set_keeps | apply Keeps.step (State.corWrErr_keeps ..) | apply Keeps.step (State.trigger_keeps ..) | apply Keeps.ite) | ((with_reducible apply Has.fam (CAL_STATUS_REFUSED_cls ..)); exact Eq.refl true) | ((with_reducible apply Has.fam (CAL_GREF_PENDAPPLY_cls ..)); exact Eq.refl true) | split | extract_lets | with_reducible apply Keeps.put_gref

end Sys2Proof.Machine
end

