-- ==== Sys2Proof/Laws/Keeps3.lean ====
section
/-! SUPPORT. What each operation over State may touch, part 3 of 5: one lemma for each, in the order of their files. -/

namespace Sys2Proof.Machine

set_option linter.all false
set_option linter.unusedTactic false
set_option linter.unreachableTactic false
set_option linter.style.longLine false
set_option Elab.async false

open Reg

theorem State.calAbortW_keeps (s : State) :
    Keeps 0x40000E00000008000000700000000000004C04F000000000000000000000807880B00C0300000000000000000000001406002C3C072C8 s (State.calAbortW s) := by
  have h0 : Keeps 0x40000E00000008000000700000000000004C04F000000000000000000000807880B00C0300000000000000000000001406002C3C072C8 s s := Keeps.refl _ _
  unfold State.calAbortW
  repeat' first | with_reducible assumption | apply Eq.refl | (with_reducible first | apply Keeps.step (State.calNext_keeps ..) | apply Keeps.step (State.opFinish_keeps ..) | apply Keeps.step (State.grefEnd_keeps ..) | apply Keeps.step (State.calAbort_keeps ..) | apply Keeps.ite) | split

theorem State.startEntry_keeps (s : State) (c : ℕ) (e : Entry) :
    Keeps 0x6000000000000000000000000000000000000000000000000000000000200000200008 s (State.startEntry s c e) := by
  have h0 : Keeps 0x6000000000000000000000000000000000000000000000000000000000200000200008 s s := Keeps.refl _ _
  unfold State.startEntry
  repeat' first | with_reducible assumption | apply Eq.refl | (with_reducible first | apply Keeps.step (State.setQueue_keeps ..) | apply Keeps.ite) | split

theorem State.dropEntry_keeps (s : State) (c : ℕ) (e : Entry) :
    Keeps 0x6000000000000000000000000000000000000000000000000000000000200000200008 s (State.dropEntry s c e) := by
  have h0 : Keeps 0x6000000000000000000000000000000000000000000000000000000000200000200008 s s := Keeps.refl _ _
  unfold State.dropEntry
  repeat' first | with_reducible assumption | apply Eq.refl | with_reducible apply Keeps.step (State.setQueue_keeps ..)

theorem State.entryRead_keeps (s : State) (c : ℕ) (e : Entry) :
    Keeps 0x7E0002800000000000000000000000000000000000000000000000000000000000001010002000000C8 s (State.entryRead s c e).1 := by
  have h0 : Keeps 0x7E0002800000000000000000000000000000000000000000000000000000000000001010002000000C8 s s := Keeps.refl _ _
  unfold State.entryRead
  extract_lets _ x1
  have h2 : Keeps 0x7E0002800000000000000000000000000000000000000000000000000000000000001010002000000C8 s x1.1 := by unfold x1; repeat' first | with_reducible assumption | apply Eq.refl | with_reducible apply Keeps.step (State.tableReads_keeps ..)
  try clear_value x1
  repeat' first | with_reducible assumption | apply Eq.refl | intro c | (with_reducible first | apply Keeps.step (State.wordWritten_keeps ..) | apply Keeps.ite | apply Keeps.foldl | apply Keeps.foldl_fst) | split | extract_lets

theorem State.openFiring_keeps (s : State) (c : ℕ) :
    Keeps 0x7E0002800804F61700A00000000000000000000000000000000000000000000000001016002006000DC s (State.openFiring s c) := by
  have h0 : Keeps 0x7E0002800804F61700A00000000000000000000000000000000000000000000000001016002006000DC s s := Keeps.refl _ _
  unfold State.openFiring
  repeat' first | with_reducible assumption | apply Eq.refl | (with_reducible first | apply Keeps.step (State.advance_keeps ..) | apply Keeps.step (State.setDrive_keeps ..) | apply Keeps.step (State.obsEnd_keeps ..) | apply Keeps.step (State.entryRead_keeps ..) | apply Keeps.step (State.schedDrop_keeps ..) | apply Keeps.step (State.dropEntry_keeps ..) | apply Keeps.step (State.driveDrop_keeps ..) | apply Keeps.step (State.startEntry_keeps ..) | apply Keeps.step (State.shiftOrDrop_keeps ..) | apply Keeps.step (State.gateOn_keeps ..) | apply Keeps.step (State.enter_keeps ..) | apply Keeps.step (State.removeCurrent_keeps ..) | apply Keeps.ite) | split | extract_lets

theorem State.grantToken_keeps (s : State) :
    Keeps 0x804F0000000000000000000000000000000000000000000000000000000000600000400018 s (State.grantToken s) := by
  have h0 : Keeps 0x804F0000000000000000000000000000000000000000000000000000000000600000400018 s s := Keeps.refl _ _
  unfold State.grantToken
  repeat' first | with_reducible assumption | apply Eq.refl | (with_reducible first | apply Keeps.step (State.gateOn_keeps ..) | apply Keeps.ite) | split

theorem State.atDeadline_keeps (s : State) (c : ℕ) :
    Keeps 0x804F60000000000000000000000000000000000000000000000000000001006002006000D8 s (State.atDeadline s c) := by
  have h0 : Keeps 0x804F60000000000000000000000000000000000000000000000000000001006002006000D8 s s := Keeps.refl _ _
  unfold State.atDeadline
  repeat' first | with_reducible assumption | apply Eq.refl | (with_reducible first | apply Keeps.step (State.gateOn_keeps ..) | apply Keeps.step (State.driveDrop_keeps ..) | apply Keeps.step (State.removeCurrent_keeps ..) | apply Keeps.step (State.enter_keeps ..) | apply Keeps.ite) | split | extract_lets

theorem State.tokenLate_keeps (s : State) (c : ℕ) :
    Keeps 0x804F60000000000000000000000000000000000000000000000000000001006002006000DC s (State.tokenLate s c) := by
  have h0 : Keeps 0x804F60000000000000000000000000000000000000000000000000000001006002006000DC s s := Keeps.refl _ _
  unfold State.tokenLate
  repeat' first | with_reducible assumption | apply Eq.refl | (with_reducible first | apply Keeps.step (State.atDeadline_keeps ..) | apply Keeps.step (State.advance_keeps ..) | apply Keeps.ite) | split

theorem State.endPeak_keeps (s : State) (c : ℕ) (ipk : ℕ) (pkto : Bool) :
    Keeps 0x804F0000000000000000000000000000000000000000000000000000000000600000400008 s (State.endPeak s c ipk pkto) := by
  have h0 : Keeps 0x804F0000000000000000000000000000000000000000000000000000000000600000400008 s s := Keeps.refl _ _
  unfold State.endPeak
  extract_lets _ _ x2 x3
  have h3 : Keeps 0x804F0000000000000000000000000000000000000000000000000000000000600000400008 s x2 := by unfold x2; repeat' first | with_reducible assumption | apply Eq.refl | intro c | with_reducible apply State.set_keeps | ((with_reducible apply Has.fam (VLV_IMEAS_TPK_cls ..)); exact Eq.refl true) | ((with_reducible apply Has.fam (VLV_IMEAS_IPK_cls ..)); exact Eq.refl true)
  try clear_value x2
  have h4 : Keeps 0x804F0000000000000000000000000000000000000000000000000000000000600000400008 s x3 := by unfold x3; repeat' first | with_reducible assumption | apply Eq.refl | intro c | (with_reducible first | apply State.setB_keeps | apply Keeps.ite) | ((with_reducible apply Has.fam (VLV_IMEAS_FB_cls ..)); exact Eq.refl true) | ((with_reducible apply Has.fam (VLV_IMEAS_PKTO_cls ..)); exact Eq.refl true) | split
  try clear_value x3
  repeat' first | with_reducible assumption | apply Eq.refl | (with_reducible first | apply Keeps.step (State.enter_keeps ..) | apply Keeps.step (State.setDrive_keeps ..)) | extract_lets

theorem State.peakDone_keeps (s : State) (c : ℕ) :
    Keeps 0x804F0000000000000000000000000000000000000000000000000000000000600000400008 s (State.peakDone s c) := by
  have h0 : Keeps 0x804F0000000000000000000000000000000000000000000000000000000000600000400008 s s := Keeps.refl _ _
  unfold State.peakDone
  repeat' first | with_reducible assumption | apply Eq.refl | (with_reducible first | apply Keeps.step (State.endPeak_keeps ..) | apply Keeps.ite) | split

theorem State.openLoad_keeps (s : State) (c : ℕ) :
    Keeps 0x8000000700000000000007C04F60000000000000000000000785030000000000000000000000000001406002C36022C8 s (State.openLoad s c) := by
  have h0 : Keeps 0x8000000700000000000007C04F60000000000000000000000785030000000000000000000000000001406002C36022C8 s s := Keeps.refl _ _
  unfold State.openLoad
  extract_lets _ x1 _ x3 x4 x5
  have h2 : Keeps 0x8000000700000000000007C04F60000000000000000000000785030000000000000000000000000001406002C36022C8 s x1 := by unfold x1; repeat' first | with_reducible assumption | apply Eq.refl | with_reducible apply Keeps.step (State.setDrive_keeps ..)
  try clear_value x1
  have h4 : Keeps 0x8000000700000000000007C04F60000000000000000000000785030000000000000000000000000001406002C36022C8 s x3 := by unfold x3; repeat' first | with_reducible assumption | apply Eq.refl | with_reducible apply Keeps.step (State.gateOff_keeps ..)
  try clear_value x3
  have h5 : Keeps 0x8000000700000000000007C04F60000000000000000000000785030000000000000000000000000001406002C36022C8 s x4 := by unfold x4; repeat' first | with_reducible assumption | apply Eq.refl | intro c | (with_reducible first | apply State.bump_keeps | apply Keeps.step (State.cutFiring_keeps ..)) | ((with_reducible apply Has.fam (VBK_OLCNT_COUNT_cls ..)); exact Eq.refl true)
  try clear_value x4
  have h6 : Keeps 0x8000000700000000000007C04F60000000000000000000000785030000000000000000000000000001406002C36022C8 s x5 := by unfold x5; repeat' first | with_reducible assumption | apply Eq.refl | with_reducible apply Keeps.step (State.raise_keeps ..)
  try clear_value x5
  repeat' first | with_reducible assumption | apply Eq.refl | intro c | (with_reducible first | apply Keeps.step (State.lyFailed_keeps ..) | apply State.set_keeps | apply State.bump_keeps | apply Keeps.ite) | ((with_reducible apply Has.fam (ARB_LYSTAT_FLTCAUSE_cls ..)); exact Eq.refl true) | ((with_reducible apply Has.fam (ARB_LYSTAT_FLT_cls ..)); exact Eq.refl true) | ((with_reducible apply Has.fam (VLV_FLTCNT_COUNT_cls ..)); exact Eq.refl true) | ((with_reducible apply Has.fam (VLV_STAT_FLTCAUSE_cls ..)); exact Eq.refl true) | ((with_reducible apply Has.fam (VLV_STAT_CHFLT_cls ..)); exact Eq.refl true) | split | extract_lets

theorem State.peakLimit_keeps (s : State) (c : ℕ) (imeas : ℕ) :
    Keeps 0x8000000700000000000007C04F60000000000000000000000785030000000000000000000000000001406002C36022CC s (State.peakLimit s c imeas) := by
  have h0 : Keeps 0x8000000700000000000007C04F60000000000000000000000785030000000000000000000000000001406002C36022CC s s := Keeps.refl _ _
  unfold State.peakLimit
  extract_lets _ _ x2 x3
  have h3 : Keeps 0x8000000700000000000007C04F60000000000000000000000785030000000000000000000000000001406002C36022CC s x2 := by unfold x2; repeat' first | with_reducible assumption | apply Eq.refl | (with_reducible first | apply Keeps.step (State.advance_keeps ..) | apply Keeps.ite) | split
  try clear_value x2
  have h4 : Keeps 0x8000000700000000000007C04F60000000000000000000000785030000000000000000000000000001406002C36022CC s x3 := by unfold x3; repeat' first | with_reducible assumption | apply Eq.refl | with_reducible apply Keeps.step (State.endPeak_keeps ..)
  try clear_value x3
  repeat' first | with_reducible assumption | apply Eq.refl | intro c | (with_reducible first | apply Keeps.step (State.openLoad_keeps ..) | apply Keeps.step (State.raise_keeps ..) | apply State.bump_keeps | apply Keeps.ite) | ((with_reducible apply Has.fam (VBK_PKTOCNT_COUNT_cls ..)); exact Eq.refl true) | split | extract_lets

theorem State.toHold_keeps (s : State) (c : ℕ) :
    Keeps 0x804F0000000000000000000000000000000000000000000000000000000000600000400008 s (State.toHold s c) := by
  have h0 : Keeps 0x804F0000000000000000000000000000000000000000000000000000000000600000400008 s s := Keeps.refl _ _
  unfold State.toHold
  repeat' first | with_reducible assumption | apply Eq.refl | (with_reducible first | apply Keeps.step (State.enter_keeps ..) | apply Keeps.ite) | split | extract_lets

theorem State.chopLoad_keeps (s : State) (c : ℕ) (i : ℕ) :
    Keeps 0x8000000700000000000007C04F60000000000000000000000785030000000000000000000000000001406002C36022C8 s (State.chopLoad s c i) := by
  have h0 : Keeps 0x8000000700000000000007C04F60000000000000000000000785030000000000000000000000000001406002C36022C8 s s := Keeps.refl _ _
  unfold State.chopLoad
  repeat' first | with_reducible assumption | apply Eq.refl | (with_reducible first | apply Keeps.step (State.openLoad_keeps ..) | apply Keeps.step (State.setDrive_keeps ..) | apply Keeps.ite) | split | extract_lets

theorem State.chopEnd_keeps (s : State) (b : ℕ) (currents : List ℕ) :
    Keeps 0x8000000700000000000007C04F60000000000000000000000785030000000000000000000000000001406002C36022C8 s (State.chopEnd s b currents) := by
  have h0 : Keeps 0x8000000700000000000007C04F60000000000000000000000785030000000000000000000000000001406002C36022C8 s s := Keeps.refl _ _
  unfold State.chopEnd
  extract_lets x0
  have h1 : Keeps 0x8000000700000000000007C04F60000000000000000000000785030000000000000000000000000001406002C36022C8 s x0 := by unfold x0; repeat' first | with_reducible assumption | apply Eq.refl | intro c | (with_reducible first | apply Keeps.step (State.chopLoad_keeps ..) | apply Keeps.foldl)
  try clear_value x0
  repeat' first | with_reducible assumption | apply Eq.refl | with_reducible apply Keeps.step (State.chopShow_keeps ..)

theorem State.loadOk_keeps (s : State) (c : ℕ) :
    Keeps 0x400000 s (State.loadOk s c) := by
  have h0 : Keeps 0x400000 s s := Keeps.refl _ _
  unfold State.loadOk
  repeat' first | with_reducible assumption | apply Eq.refl | with_reducible apply Keeps.step (State.setDrive_keeps ..) | extract_lets

theorem State.closeAt_keeps (s : State) (c : ℕ) (t : ℕ) :
    Keeps 0x4804F6000000000000000000000000000000000000000000000000000000000600000600008 s (State.closeAt s c t) := by
  have h0 : Keeps 0x4804F6000000000000000000000000000000000000000000000000000000000600000600008 s s := Keeps.refl _ _
  unfold State.closeAt
  extract_lets x0
  have h1 : Keeps 0x4804F6000000000000000000000000000000000000000000000000000000000600000600008 s x0 := by unfold x0; repeat' first | with_reducible assumption | apply Eq.refl | with_reducible apply Keeps.step (State.removeCurrent_keeps ..)
  try clear_value x0
  repeat' first | with_reducible assumption | apply Eq.refl | intro c | (with_reducible first | apply State.bump_keeps | apply Keeps.step (State.startEntry_keeps ..) | apply Keeps.step (State.gateOff_keeps ..) | apply Keeps.step (State.loadOk_keeps ..) | apply Keeps.ite) | ((with_reducible apply Has.fam (VLV_FIRECNT_COUNT_cls ..)); exact Eq.refl true) | split

theorem State.closeFiring_keeps (s : State) (c : ℕ) :
    Keeps 0x4804F60000000000000000000000000000000000000000000000000000001006002006000DC s (State.closeFiring s c) := by
  have h0 : Keeps 0x4804F60000000000000000000000000000000000000000000000000000001006002006000DC s s := Keeps.refl _ _
  unfold State.closeFiring
  repeat' first | with_reducible assumption | apply Eq.refl | (with_reducible first | apply Keeps.step (State.advance_keeps ..) | apply Keeps.step (State.atDeadline_keeps ..) | apply Keeps.step (State.closeAt_keeps ..) | apply Keeps.ite) | split | extract_lets

theorem State.coilEmpty_keeps (s : State) (c : ℕ) :
    Keeps 0x804F0000000000000000000000000000000000000000000000000000000000600000400008 s (State.coilEmpty s c) := by
  have h0 : Keeps 0x804F0000000000000000000000000000000000000000000000000000000000600000400008 s s := Keeps.refl _ _
  unfold State.coilEmpty
  repeat' first | with_reducible assumption | apply Eq.refl | (with_reducible first | apply Keeps.step (State.enter_keeps ..) | apply Keeps.ite) | split

theorem State.openKink_keeps (s : State) (c : ℕ) (t : ℕ) (fall : ℕ) :
    Keeps 0x20000040000C s (State.openKink s c t fall) := by
  have h0 : Keeps 0x20000040000C s s := Keeps.refl _ _
  unfold State.openKink
  repeat' first | with_reducible assumption | apply Eq.refl | (with_reducible first | apply Keeps.step (State.openMoved_keeps ..) | apply Keeps.step (State.advance_keeps ..) | apply Keeps.ite) | split | extract_lets

theorem State.closeKink_keeps (s : State) (c : ℕ) (t : ℕ) (reversal : ℕ) :
    Keeps 0x60000040001C s (State.closeKink s c t reversal) := by
  have h0 : Keeps 0x60000040001C s s := Keeps.refl _ _
  unfold State.closeKink
  repeat' first | with_reducible assumption | apply Eq.refl | (with_reducible first | apply Keeps.step (State.closeMoved_keeps ..) | apply Keeps.step (State.advance_keeps ..) | apply Keeps.ite) | split | extract_lets

theorem State.posEdge_keeps (s : State) (input : ℕ) (level : Bool) :
    Keeps 0x600000400018 s (State.posEdge s input level) := by
  have h0 : Keeps 0x600000400018 s s := Keeps.refl _ _
  unfold State.posEdge
  repeat' first | with_reducible assumption | apply Eq.refl | intro c | (with_reducible first | apply Keeps.step (State.openMoved_keeps ..) | apply Keeps.step (State.closeMoved_keeps ..) | apply Keeps.ite | apply Keeps.foldl) | split | extract_lets

theorem State.openWindow_keeps (s : State) (c : ℕ) :
    Keeps 0x1002002004000CC s (State.openWindow s c) := by
  have h0 : Keeps 0x1002002004000CC s s := Keeps.refl _ _
  unfold State.openWindow
  extract_lets _ x1
  have h2 : Keeps 0x1002002004000CC s x1 := by unfold x1; repeat' first | with_reducible assumption | apply Eq.refl | (with_reducible first | apply Keeps.step (State.setDrive_keeps ..) | apply Keeps.step (State.advance_keeps ..))
  try clear_value x1
  repeat' first | with_reducible assumption | apply Eq.refl | (with_reducible first | apply Keeps.step (State.notMoved_keeps ..) | apply Keeps.ite) | split | extract_lets

theorem State.closeWindow_keeps (s : State) (c : ℕ) :
    Keeps 0x1006002004000DC s (State.closeWindow s c) := by
  have h0 : Keeps 0x1006002004000DC s s := Keeps.refl _ _
  unfold State.closeWindow
  repeat' first | with_reducible assumption | apply Eq.refl | (with_reducible first | apply Keeps.step (State.notMoved_keeps ..) | apply Keeps.step (State.setDrive_keeps ..) | apply Keeps.step (State.obsEnd_keeps ..) | apply Keeps.step (State.advance_keeps ..) | apply Keeps.ite) | split | extract_lets

theorem State.limitFiring_keeps (s : State) (c : ℕ) :
    Keeps 0x4804F61700A00000000000000000000000000000000000000000000000001006002006000C8 s (State.limitFiring s c) := by
  have h0 : Keeps 0x4804F61700A00000000000000000000000000000000000000000000000001006002006000C8 s s := Keeps.refl _ _
  unfold State.limitFiring
  extract_lets _ x1
  have h2 : Keeps 0x4804F61700A00000000000000000000000000000000000000000000000001006002006000C8 s x1 := by unfold x1; repeat' first | with_reducible assumption | apply Eq.refl | (with_reducible first | apply Keeps.step (State.cutFiring_keeps ..) | apply Keeps.step (State.gateOff_keeps ..))
  try clear_value x1
  repeat' first | with_reducible assumption | apply Eq.refl | (with_reducible first | apply Keeps.step (State.setDrive_keeps ..) | apply Keeps.step (State.gateOff_keeps ..) | apply Keeps.step (State.shiftOrDrop_keeps ..) | apply Keeps.step (State.gateOff_keeps ..) | apply Keeps.ite) | split | extract_lets

theorem State.coilStep_keeps (s : State) (amb : ℤ) (c : ℕ) (i2 : ℕ) :
    Keeps 0x8000000700000000000034C04F61700A00000000000000000785030000000000000000000000000001406002C36022C8 s (State.coilStep s amb c i2) := by
  have h0 : Keeps 0x8000000700000000000034C04F61700A00000000000000000785030000000000000000000000000001406002C36022C8 s s := Keeps.refl _ _
  unfold State.coilStep
  extract_lets _ _ _ _ _ x5 _ _ x8 x9 x10 _ _ x13
  have h6 : Keeps 0x8000000700000000000034C04F61700A00000000000000000785030000000000000000000000000001406002C36022C8 s x5 := by unfold x5; repeat' first | with_reducible assumption | apply Eq.refl | with_reducible apply Keeps.step (State.setDrive_keeps ..)
  try clear_value x5
  have h9 : Keeps 0x8000000700000000000034C04F61700A00000000000000000785030000000000000000000000000001406002C36022C8 s x8 := by unfold x8; repeat' first | with_reducible assumption | apply Eq.refl | intro c | (with_reducible first | apply State.setB_keeps | apply State.set_keeps) | ((with_reducible apply Has.fam (ARB_LYSTAT_CLIMIT_cls ..)); exact Eq.refl true) | ((with_reducible apply Has.fam (ARB_LYSTAT_TEMP_cls ..)); exact Eq.refl true)
  try clear_value x8
  have h10 : Keeps 0x8000000700000000000034C04F61700A00000000000000000785030000000000000000000000000001406002C36022C8 s x9 := by unfold x9; repeat' first | with_reducible assumption | apply Eq.refl | intro c | with_reducible apply State.set_keeps | ((with_reducible apply Has.fam (VLV_COIL_PEAK_cls ..)); exact Eq.refl true) | ((with_reducible apply Has.fam (VLV_COIL_TEMP_cls ..)); exact Eq.refl true)
  try clear_value x9
  have h11 : Keeps 0x8000000700000000000034C04F61700A00000000000000000785030000000000000000000000000001406002C36022C8 s x10 := by unfold x10; repeat' first | with_reducible assumption | apply Eq.refl | intro c | with_reducible apply State.setB_keeps | ((with_reducible apply Has.fam (VLV_STAT_CWARN_cls ..)); exact Eq.refl true)
  try clear_value x10
  have h14 : Keeps 0x8000000700000000000034C04F61700A00000000000000000785030000000000000000000000000001406002C36022C8 s x13 := by unfold x13; repeat' first | with_reducible assumption | apply Eq.refl | intro c | with_reducible apply State.setB_keeps | ((with_reducible apply Has.fam (VLV_STAT_CLIMIT_cls ..)); exact Eq.refl true)
  try clear_value x13
  repeat' first | with_reducible assumption | apply Eq.refl | (with_reducible first | apply Keeps.step (State.lyFailed_keeps ..) | apply Keeps.step (State.limitFiring_keeps ..) | apply Keeps.step (State.raise_keeps ..) | apply Keeps.ite) | split | extract_lets

theorem State.coilUpdate_keeps (s : State) (i2 : List ℕ) :
    Keeps 0x8000000700000000000034C04F61700A00000000000000000785030000000000000000000000000001406002C36022C8 s (State.coilUpdate s i2) := by
  have h0 : Keeps 0x8000000700000000000034C04F61700A00000000000000000785030000000000000000000000000001406002C36022C8 s s := Keeps.refl _ _
  unfold State.coilUpdate
  extract_lets _ x1
  have h2 : Keeps 0x8000000700000000000034C04F61700A00000000000000000785030000000000000000000000000001406002C36022C8 s x1 := by unfold x1; repeat' first | with_reducible assumption | apply Eq.refl | intro c | (with_reducible first | apply Keeps.step (State.coilStep_keeps ..) | apply Keeps.foldl)
  try clear_value x1
  repeat' first | with_reducible assumption | apply Eq.refl | with_reducible apply Keeps.step (State.coilStep_keeps ..) | extract_lets

theorem State.chFault_keeps (s : State) (c : ℕ) (cause : ℕ) :
    Keeps 0x8000000700000000000007C04F60000000000000000000000785030000000000000000000000000001406002C36022C8 s (State.chFault s c cause) := by
  have h0 : Keeps 0x8000000700000000000007C04F60000000000000000000000785030000000000000000000000000001406002C36022C8 s s := Keeps.refl _ _
  unfold State.chFault
  extract_lets x0
  have h1 : Keeps 0x8000000700000000000007C04F60000000000000000000000785030000000000000000000000000001406002C36022C8 s x0 := by unfold x0; repeat' first | with_reducible assumption | apply Eq.refl | intro c | (with_reducible first | apply State.set_keeps | apply Keeps.step (State.cutFiring_keeps ..)) | ((with_reducible apply Has.fam (VLV_STAT_FLTCAUSE_cls ..)); exact Eq.refl true) | ((with_reducible apply Has.fam (VLV_STAT_CHFLT_cls ..)); exact Eq.refl true)
  try clear_value x0
  repeat' first | with_reducible assumption | apply Eq.refl | intro c | (with_reducible first | apply Keeps.step (State.lyFailed_keeps ..) | apply Keeps.step (State.gateOff_keeps ..) | apply State.set_keeps | apply Keeps.step (State.raise_keeps ..) | apply State.bump_keeps | apply Keeps.ite) | ((with_reducible apply Has.fam (ARB_LYSTAT_FLTCAUSE_cls ..)); exact Eq.refl true) | ((with_reducible apply Has.fam (ARB_LYSTAT_FLT_cls ..)); exact Eq.refl true) | ((with_reducible apply Has.fam (VLV_FLTCNT_COUNT_cls ..)); exact Eq.refl true) | split

theorem State.railFault_keeps (s : State) (b : ℕ) :
    Keeps 0x8000000700000000000005C04F60000000000000000000000785030000000000000000000000000001406002C36022C8 s (State.railFault s b) := by
  have h0 : Keeps 0x8000000700000000000005C04F60000000000000000000000785030000000000000000000000000001406002C36022C8 s s := Keeps.refl _ _
  unfold State.railFault
  extract_lets x0
  have h1 : Keeps 0x8000000700000000000005C04F60000000000000000000000785030000000000000000000000000001406002C36022C8 s x0 := by unfold x0; repeat' first | with_reducible assumption | apply Eq.refl | intro c | (with_reducible first | apply State.bump_keeps | apply State.set_keeps) | ((with_reducible apply Has.fam (VBK_RSCNT_COUNT_cls ..)); exact Eq.refl true) | ((with_reducible apply Has.fam (VBK_STAT_BKFLT_cls ..)); exact Eq.refl true)
  try clear_value x0
  repeat' first | with_reducible assumption | apply Eq.refl | intro c | (with_reducible first | apply Keeps.step (State.lyFailed_keeps ..) | apply Keeps.step (State.gateOff_keeps ..) | apply State.set_keeps | apply Keeps.step (State.raise_keeps ..) | apply Keeps.step (State.cutFiring_keeps ..) | apply Keeps.ite | apply Keeps.foldl) | ((with_reducible apply Has.fam (ARB_LYSTAT_FLT_cls ..)); exact Eq.refl true) | split

theorem State.boostMeas_keeps (s : State) (v : ℕ) :
    Keeps 0x7CF00000000000000000000000000000000000000000000000000000001000002000000C8 s (State.boostMeas s v) := by
  have h0 : Keeps 0x7CF00000000000000000000000000000000000000000000000000000001000002000000C8 s s := Keeps.refl _ _
  unfold State.boostMeas
  extract_lets _ _ _ x3 x4
  have h4 : Keeps 0x7CF00000000000000000000000000000000000000000000000000000001000002000000C8 s x3 := by unfold x3; repeat' first | with_reducible assumption | apply Eq.refl | intro c | (with_reducible first | apply State.setB_keeps | apply State.set_keeps) | ((with_reducible apply Has.fam (ARB_BSTMEAS_OV_cls ..)); exact Eq.refl true) | ((with_reducible apply Has.fam (ARB_BSTMEAS_READY_cls ..)); exact Eq.refl true) | ((with_reducible apply Has.fam (ARB_BSTMEAS_VBST_cls ..)); exact Eq.refl true)
  try clear_value x3
  have h5 : Keeps 0x7CF00000000000000000000000000000000000000000000000000000001000002000000C8 s x4 := by unfold x4; repeat' first | with_reducible assumption | apply Eq.refl | intro c | (with_reducible first | apply Keeps.step (State.raise_keeps ..) | apply State.set_keeps | apply Keeps.ite) | ((with_reducible apply Has.fam (ARB_BSTMEAS_OVSEEN_cls ..)); exact Eq.refl true) | split
  try clear_value x4
  repeat' first | with_reducible assumption | apply Eq.refl | with_reducible apply Keeps.step (State.arbShow_keeps ..) | extract_lets

theorem State.clearCh_keeps (s : State) (c : ℕ) :
    Keeps 0x200000000008 s (State.clearCh s c) := by
  have h0 : Keeps 0x200000000008 s s := Keeps.refl _ _
  unfold State.clearCh
  repeat' first | with_reducible assumption | apply Eq.refl | intro c | with_reducible apply State.set_keeps | ((with_reducible apply Has.fam (VLV_STAT_FLTCAUSE_cls ..)); exact Eq.refl true) | ((with_reducible apply Has.fam (VLV_STAT_CHFLT_cls ..)); exact Eq.refl true)

theorem State.testHold_keeps (s : State) :
    Keeps 0x8000000000000000000000000000000000000000000000000000000000000000000008 s (State.testHold s) := by
  have h0 : Keeps 0x8000000000000000000000000000000000000000000000000000000000000000000008 s s := Keeps.refl _ _
  unfold State.testHold
  repeat' first | with_reducible assumption | apply Eq.refl | intro c | (with_reducible first | apply State.set_keeps | apply Keeps.ite) | ((with_reducible apply Has.fam (ARB_CTRL_EN_cls ..)); exact Eq.refl true) | split

theorem State.driveEnableW_keeps (s : State) (a : ℕ) (v : Word) :
    Keeps 0x7FFFFFFFFFFFFFFFFFFFFFFFFFFFFFFFFFFFFFFFFFFFFFFFFFFFFFFFFFFFFFFFFFFFFFFFFFFFFFFFFFFFFFFFFFFFFFFFFFFFF7FFFFF006000C8 s (State.driveEnableW s a v) := by
  have h0 : Keeps 0x7FFFFFFFFFFFFFFFFFFFFFFFFFFFFFFFFFFFFFFFFFFFFFFFFFFFFFFFFFFFFFFFFFFFFFFFFFFFFFFFFFFFFFFFFFFFFFFFFFFFF7FFFFF006000C8 s s := Keeps.refl _ _
  unfold State.driveEnableW
  extract_lets x0 _ _ x3 _ x5 x6
  have h1 : Keeps 0x7FFFFFFFFFFFFFFFFFFFFFFFFFFFFFFFFFFFFFFFFFFFFFFFFFFFFFFFFFFFFFFFFFFFFFFFFFFFFFFFFFFFFFFFFFFFFFFFFFFFF7FFFFF006000C8 s x0 := by unfold x0; repeat' first | with_reducible assumption | apply Eq.refl | with_reducible apply Keeps.step (State.writeFlds_keeps ..)
  try clear_value x0
  have h4 : Keeps 0x7FFFFFFFFFFFFFFFFFFFFFFFFFFFFFFFFFFFFFFFFFFFFFFFFFFFFFFFFFFFFFFFFFFFFFFFFFFFFFFFFFFFFFFFFFFFFFFFFFFFF7FFFFF006000C8 s x3 := by unfold x3; repeat' first | with_reducible assumption | apply Eq.refl | (with_reducible first | apply Keeps.step (State.clearCh_keeps ..) | apply Keeps.ite) | split
  try clear_value x3
  have h6 : Keeps 0x7FFFFFFFFFFFFFFFFFFFFFFFFFFFFFFFFFFFFFFFFFFFFFFFFFFFFFFFFFFFFFFFFFFFFFFFFFFFFFFFFFFFFFFFFFFFFFFFFFFFF7FFFFF006000C8 s x5 := by unfold x5; repeat' first | with_reducible assumption | apply Eq.refl | intro c | (with_reducible first | apply State.set_keeps | apply Keeps.ite) | ((with_reducible apply Has.fam (VBK_STAT_BKFLT_cls ..)); exact Eq.refl true) | split
  try clear_value x5
  have h7 : Keeps 0x7FFFFFFFFFFFFFFFFFFFFFFFFFFFFFFFFFFFFFFFFFFFFFFFFFFFFFFFFFFFFFFFFFFFFFFFFFFFFFFFFFFFFFFFFFFFFFFFFFFFF7FFFFF006000C8 s x6 := by unfold x6; repeat' first | with_reducible assumption | apply Eq.refl | with_reducible apply Keeps.step (State.testHold_keeps ..)
  try clear_value x6
  repeat' first | with_reducible assumption | apply Eq.refl | intro c | (with_reducible first | apply Keeps.step (State.disable_keeps ..) | apply Keeps.ite | apply Keeps.foldl) | split | extract_lets

theorem State.lyHost_keeps (s : State) (on : Bool) :
    Keeps 0xCC06F0000000000000000000000000000000000000000000000000000000000600000400018 s (State.lyHost s on) := by
  have h0 : Keeps 0xCC06F0000000000000000000000000000000000000000000000000000000000600000400018 s s := Keeps.refl _ _
  unfold State.lyHost
  repeat' first | with_reducible assumption | apply Eq.refl | intro c | (with_reducible first | apply State.set_keeps | apply Keeps.step (State.lyOn_keeps ..) | apply Keeps.step (State.lyOff_keeps ..) | apply Keeps.ite) | ((with_reducible apply Has.fam (ARB_STAT_WRERR_cls ..)); exact Eq.refl true) | split

theorem State.setHouse_keeps (s : State) (h : House) :
    Keeps 0x20000000 s (State.setHouse s h) := by
  have h0 : Keeps 0x20000000 s s := Keeps.refl _ _
  unfold State.setHouse
  repeat' first | with_reducible assumption | apply Eq.refl | with_reducible apply Keeps.put_house

theorem State.dipLow_keeps (s : State) (mv : ℕ) :
    Keeps 0x10000000000000000000008 s (State.dipLow s mv) := by
  have h0 : Keeps 0x10000000000000000000008 s s := Keeps.refl _ _
  unfold State.dipLow
  repeat' first | with_reducible assumption | apply Eq.refl | intro c | with_reducible apply State.set_keeps | ((with_reducible apply Has.fam (PWR_DIPMIN_V_cls ..)); exact Eq.refl true)

theorem State.dipRedo_keeps (s : State) : Keeps 0x81000 s s.dipRedo := by
  unfold State.dipRedo
  split
  · extract_lets d ctx xs
    exact Keeps.put_braid (v := { s.braid with slices := xs })
      (Keeps.put_corr (v := { s.corr with ctx := ctx }) (Keeps.refl _ s) rfl fun c => c.pb) rfl fun c => c.ub
  · exact Keeps.refl _ _

theorem State.dipSetS_keeps (s : State) (mv : ℕ) :
    Keeps 0xE00000008000000700000000000004C04F000000000000000000000007880B00C03000000000000001E0030001406002C3C832C8 s (State.dipSetS s mv) := by
  have h0 : Keeps 0xE00000008000000700000000000004C04F000000000000000000000007880B00C03000000000000001E0030001406002C3C832C8 s s := Keeps.refl _ _
  unfold State.dipSetS
  extract_lets x0
  have h1 : Keeps 0xE00000008000000700000000000004C04F000000000000000000000007880B00C03000000000000001E0030001406002C3C832C8 s x0 := by unfold x0; repeat' first | with_reducible assumption | apply Eq.refl | intro c | (with_reducible first | apply State.setPair_keeps | apply State.bump_keeps | apply State.set_keeps) | ((with_reducible apply Has.fam (PWR_DIPLAST_LO_STAMP_cls ..)); exact Eq.refl true) | ((with_reducible apply Has.fam (PWR_DIPLAST_HI_STAMP_cls ..)); exact Eq.refl true) | ((with_reducible apply Has.fam (PWR_DIPCNT_COUNT_cls ..)); exact Eq.refl true) | ((with_reducible apply Has.fam (PWR_STAT_DIPSEEN_cls ..)); exact Eq.refl true) | ((with_reducible apply Has.fam (PWR_STAT_DIP_cls ..)); exact Eq.refl true)
  try clear_value x0
  repeat' first | with_reducible assumption | apply Eq.refl | (with_reducible first | apply Keeps.step (State.dipLow_keeps ..) | apply Keeps.step (State.calAbort_keeps ..) | apply Keeps.step (State.dipRedo_keeps ..) | apply Keeps.step (State.arbShow_keeps ..) | apply Keeps.step (State.raise_keeps ..) | apply Keeps.ite) | split

theorem State.dipClearS_keeps (s : State) :
    Keeps 0xE00000000000000000000000000000004F000000000000000000000000000B000000000000000000000001000000000081883008 s (State.dipClearS s) := by
  have h0 : Keeps 0xE00000000000000000000000000000004F000000000000000000000000000B000000000000000000000001000000000081883008 s s := Keeps.refl _ _
  unfold State.dipClearS
  repeat' first | with_reducible assumption | apply Eq.refl | intro c | (with_reducible first | apply Keeps.step (State.calNext_keeps ..) | apply Keeps.step (State.dipRedo_keeps ..) | apply Keeps.step (State.arbShow_keeps ..) | apply State.set_keeps | apply Keeps.ite) | ((with_reducible apply Has.fam (PWR_STAT_DIP_cls ..)); exact Eq.refl true) | split

theorem State.vval_keeps (s : State) (c : VvalCond) (on : Bool) :
    Keeps 0x10000000000000000000000000000000000000000000000000001C0001000002000000C8 s (State.vval s c on) := by
  have h0 : Keeps 0x10000000000000000000000000000000000000000000000000001C0001000002000000C8 s s := Keeps.refl _ _
  unfold State.vval
  extract_lets _ x1 x2
  have h2 : Keeps 0x10000000000000000000000000000000000000000000000000001C0001000002000000C8 s x1 := by unfold x1; repeat' first | with_reducible assumption | apply Eq.refl | intro c | with_reducible apply State.setB_keeps | (exact vvalFld_has (Eq.refl true))
  try clear_value x1
  have h3 : Keeps 0x10000000000000000000000000000000000000000000000000001C0001000002000000C8 s x2 := by unfold x2; repeat' first | with_reducible assumption | apply Eq.refl | intro c | (with_reducible first | apply State.setB_keeps | apply Keeps.ite) | ((with_reducible apply Has.fam (ARB_STAT_VVALLOW_cls ..)); exact Eq.refl true) | split
  try clear_value x2
  repeat' first | with_reducible assumption | apply Eq.refl | (with_reducible first | apply Keeps.step (State.raise_keeps ..) | apply Keeps.ite) | split | extract_lets

theorem State.heaterLimit_keeps (s : State) :
    Keeps 0x30000000000000000000000000000000008 s (State.heaterLimit s) := by
  have h0 : Keeps 0x30000000000000000000000000000000008 s s := Keeps.refl _ _
  unfold State.heaterLimit
  extract_lets _ _ _ x3
  have h4 : Keeps 0x30000000000000000000000000000000008 s x3 := by unfold x3; repeat' first | with_reducible assumption | apply Eq.refl | intro c | with_reducible apply State.set_keeps | ((with_reducible apply Has.fam (STG_HTRPWR_LIMIT_cls ..)); exact Eq.refl true)
  try clear_value x3
  repeat' first | with_reducible assumption | apply Eq.refl | intro c | (with_reducible first | apply State.set_keeps | apply Keeps.ite) | ((with_reducible apply Has.fam (STG_HTRPWR_POWER_cls ..)); exact Eq.refl true) | split | extract_lets

theorem State.ddrShow_keeps (s : State) :
    Keeps 0x8000000000000000000000000000000000000000000000000000000000000000000000000000000000008 s (State.ddrShow s) := by
  have h0 : Keeps 0x8000000000000000000000000000000000000000000000000000000000000000000000000000000000008 s s := Keeps.refl _ _
  unfold State.ddrShow
  repeat' first | with_reducible assumption | apply Eq.refl | intro c | with_reducible apply State.setB_keeps | ((with_reducible apply Has.fam (MEM_DDRSTAT_SELFREF_cls ..)); exact Eq.refl true)

theorem State.tapHaltShow_keeps (s : State) :
    Keeps 0x80000000000000000000000000000000000000000000000000000000000000000000000000000000000001000002000000C8 s (State.tapHaltShow s) := by
  have h0 : Keeps 0x80000000000000000000000000000000000000000000000000000000000000000000000000000000000001000002000000C8 s s := Keeps.refl _ _
  unfold State.tapHaltShow
  extract_lets _ _ x2
  have h3 : Keeps 0x80000000000000000000000000000000000000000000000000000000000000000000000000000000000001000002000000C8 s x2 := by unfold x2; repeat' first | with_reducible assumption | apply Eq.refl | intro c | with_reducible apply State.setB_keeps | ((with_reducible apply Has.fam (ETH_TAPSTAT_HALT_cls ..)); exact Eq.refl true)
  try clear_value x2
  repeat' first | with_reducible assumption | apply Eq.refl | (with_reducible first | apply Keeps.step (State.raise_keeps ..) | apply Keeps.ite) | split | extract_lets

theorem State.clockShow_keeps (s : State) :
    Keeps 0x8000000000000000000000000000000000000000000000000000000000000000030000000009D000000001000002000000C8 s (State.clockShow s) := by
  have h0 : Keeps 0x8000000000000000000000000000000000000000000000000000000000000000030000000009D000000001000002000000C8 s s := Keeps.refl _ _
  unfold State.clockShow
  extract_lets _ _ x2 x3
  have h3 : Keeps 0x8000000000000000000000000000000000000000000000000000000000000000030000000009D000000001000002000000C8 s x2 := by unfold x2; repeat' first | with_reducible assumption | apply Eq.refl | intro c | with_reducible apply State.set_keeps | ((with_reducible apply Has.fam (PWR_CLKDIV_THMDIV_cls ..)); exact Eq.refl true) | ((with_reducible apply Has.fam (THM_STAT_STEP_cls ..)); exact Eq.refl true)
  try clear_value x2
  have h4 : Keeps 0x8000000000000000000000000000000000000000000000000000000000000000030000000009D000000001000002000000C8 s x3 := by unfold x3; repeat' first | with_reducible assumption | apply Eq.refl | intro c | with_reducible apply State.set_keeps | ((with_reducible apply Has.fam (PWR_CLKDIV_TAPSKIP_cls ..)); exact Eq.refl true) | ((with_reducible apply Has.fam (PWR_CLKDIV_DIV_cls ..)); exact Eq.refl true)
  try clear_value x3
  repeat' first | with_reducible assumption | apply Eq.refl | intro c | (with_reducible first | apply Keeps.step (State.tapHaltShow_keeps ..) | apply Keeps.step (State.heaterLimit_keeps ..) | apply State.setB_keeps) | ((with_reducible apply Has.fam (PWR_CLKDIV_MGTSKIP_cls ..)); exact Eq.refl true) | extract_lets

theorem State.heaterRequest_keeps (s : State) :
    Keeps 0x10 s (State.heaterRequest s).1 := by
  have h0 : Keeps 0x10 s s := Keeps.refl _ _
  unfold State.heaterRequest
  extract_lets _ x1
  have h2 : Keeps 0x10 s x1.2 := by unfold x1; repeat' first | with_reducible assumption | apply Eq.refl | with_reducible apply Keeps.step (State.draw_keeps ..)
  try clear_value x1
  repeat' first | with_reducible assumption | with_reducible apply Keeps.ite | split | extract_lets

theorem State.applyGrants_keeps (s : State) (g : List ℕ) :
    Keeps 0x8000000000000000000000000038000000000000000000000000000000000000030000000009F000000001000002200000C8 s (State.applyGrants s g) := by
  have h0 : Keeps 0x8000000000000000000000000038000000000000000000000000000000000000030000000009F000000001000002200000C8 s s := Keeps.refl _ _
  unfold State.applyGrants
  extract_lets _ _ _ x3 x4
  have h4 : Keeps 0x8000000000000000000000000038000000000000000000000000000000000000030000000009F000000001000002200000C8 s x3 := by unfold x3; repeat' first | with_reducible assumption | apply Eq.refl | intro c | with_reducible apply State.set_keeps | ((with_reducible apply Has.fam (ARB_GRANT_HEATER_cls ..)); exact Eq.refl true) | ((with_reducible apply Has.fam (ARB_GRANT_TAP_cls ..)); exact Eq.refl true) | ((with_reducible apply Has.fam (ARB_GRANT_CLUSTER_cls ..)); exact Eq.refl true)
  try clear_value x3
  have h5 : Keeps 0x8000000000000000000000000038000000000000000000000000000000000000030000000009F000000001000002200000C8 s x4 := by unfold x4; repeat' first | with_reducible assumption | apply Eq.refl | intro c | (with_reducible first | apply State.set_keeps | apply Keeps.ite) | ((with_reducible apply Has.fam (PWR_CLKDIV_BUDDIV_cls ..)); exact Eq.refl true) | split
  try clear_value x4
  repeat' first | with_reducible assumption | apply Eq.refl | (with_reducible first | apply Keeps.step (State.clockShow_keeps ..) | apply Keeps.step (State.setHouse_keeps ..)) | extract_lets

theorem State.budget_keeps (s : State) (iBase : ℕ) (iTotal : ℕ) :
    Keeps 0x8000000000000000000000000038000000000000000000000000000000000000030000000009F018600001000002200000D8 s (State.budget s iBase iTotal) := by
  have h0 : Keeps 0x8000000000000000000000000038000000000000000000000000000000000000030000000009F018600001000002200000D8 s s := Keeps.refl _ _
  unfold State.budget
  extract_lets _ _ x2 _ x4 _ x6 x7 x8 x9
  have h3 : Keeps 0x8000000000000000000000000038000000000000000000000000000000000000030000000009F018600001000002200000D8 s x2 := by unfold x2; repeat' first | with_reducible assumption | apply Eq.refl | intro c | with_reducible apply State.set_keeps | ((with_reducible apply Has.fam (PWR_IVIN_MAX_cls ..)); exact Eq.refl true) | ((with_reducible apply Has.fam (PWR_IVIN_MA_cls ..)); exact Eq.refl true)
  try clear_value x2
  have h5 : Keeps 0x8000000000000000000000000038000000000000000000000000000000000000030000000009F018600001000002200000D8 s x4 := by unfold x4; repeat' first | with_reducible assumption | apply Eq.refl | (with_reducible first | apply Keeps.step (State.setHouse_keeps ..) | apply Keeps.ite) | split
  try clear_value x4
  have h7 : Keeps 0x8000000000000000000000000038000000000000000000000000000000000000030000000009F018600001000002200000D8 s x6 := by unfold x6; repeat' first | with_reducible assumption | apply Eq.refl | intro c | with_reducible apply State.set_keeps | ((with_reducible apply Has.fam (PWR_STAT_OVBSEEN_cls ..)); exact Eq.refl true) | ((with_reducible apply Has.fam (PWR_STAT_OVERBUD_cls ..)); exact Eq.refl true)
  try clear_value x6
  have h8 : Keeps 0x8000000000000000000000000038000000000000000000000000000000000000030000000009F018600001000002200000D8 s x7 := by unfold x7; repeat' first | with_reducible assumption | apply Eq.refl | (with_reducible first | apply Keeps.step (State.raise_keeps ..) | apply Keeps.ite) | split
  try clear_value x7
  have h9 : Keeps 0x8000000000000000000000000038000000000000000000000000000000000000030000000009F018600001000002200000D8 s x8.1 := by unfold x8; repeat' first | with_reducible assumption | apply Eq.refl | with_reducible apply Keeps.step (State.heaterRequest_keeps ..)
  try clear_value x8
  have h10 : Keeps 0x8000000000000000000000000038000000000000000000000000000000000000030000000009F018600001000002200000D8 s x9 := by unfold x9; repeat' first | with_reducible assumption
  try clear_value x9
  repeat' first | with_reducible assumption | apply Eq.refl | (with_reducible first | apply Keeps.step (State.applyGrants_keeps ..) | apply Keeps.ite) | split | extract_lets

theorem State.overRelease_keeps (s : State) :
    Keeps 0x20000000000000000008 s (State.overRelease s) := by
  have h0 : Keeps 0x20000000000000000008 s s := Keeps.refl _ _
  unfold State.overRelease
  repeat' first | with_reducible assumption | apply Eq.refl | intro c | (with_reducible first | apply State.set_keeps | apply Keeps.ite) | ((with_reducible apply Has.fam (PWR_STAT_OVERBUD_cls ..)); exact Eq.refl true) | split

theorem State.budprioW_keeps (s : State) (v : Word) :
    Keeps 0xE0100000000000000000008 s (State.budprioW s v) := by
  have h0 : Keeps 0xE0100000000000000000008 s s := Keeps.refl _ _
  unfold State.budprioW
  repeat' first | with_reducible assumption | apply Eq.refl | intro c | (with_reducible first | apply State.set_keeps | apply Keeps.ite) | ((with_reducible apply Has.fam (PWR_STAT_WRERR_cls ..)); exact Eq.refl true) | ((with_reducible apply Has.fam (PWR_BUDPRIO_THIRD_cls ..)); exact Eq.refl true) | ((with_reducible apply Has.fam (PWR_BUDPRIO_SECOND_cls ..)); exact Eq.refl true) | ((with_reducible apply Has.fam (PWR_BUDPRIO_FIRST_cls ..)); exact Eq.refl true) | split | extract_lets

theorem State.driveDown_keeps (s : State) :
    Keeps 0x4C04FE000000000000000000000000000000000000000000000000000000800600000600008 s (State.driveDown s) := by
  have h0 : Keeps 0x4C04FE000000000000000000000000000000000000000000000000000000800600000600008 s s := Keeps.refl _ _
  unfold State.driveDown
  repeat' first | with_reducible assumption | apply Eq.refl | intro c | (with_reducible first | apply Keeps.step (State.arbShow_keeps ..) | apply State.set_keeps | apply Keeps.step (State.lyOff_keeps ..) | apply Keeps.step (State.allOff_keeps ..)) | ((with_reducible apply Has.fam (ARB_CTRL_EN_cls ..)); exact Eq.refl true) | ((with_reducible apply Has.fam (GLB_CTRL_RUN_cls ..)); exact Eq.refl true)

theorem State.pipelineDown_keeps (s : State) :
    Keeps 0x400 s (State.pipelineDown s) := by
  have h0 : Keeps 0x400 s s := Keeps.refl _ _
  unfold State.pipelineDown
  repeat' first | with_reducible assumption | apply Eq.refl | extract_lets | with_reducible apply Keeps.put_sensor

theorem State.loopsDown_keeps (s : State) (both : Bool) :
    Keeps 0x20000 s (State.loopsDown s both) := by
  have h0 : Keeps 0x20000 s s := Keeps.refl _ _
  unfold State.loopsDown
  repeat' first | with_reducible assumption | apply Eq.refl | with_reducible apply Keeps.ite | split | extract_lets | with_reducible apply Keeps.put_loops

theorem State.enterSafe_keeps (s : State) (cause : ℕ) :
    Keeps 0x40000E00000008000000700000000000004C04FE00000000000000000000807880B00C0300000000000000000003029C06002C3E276C8 s (State.enterSafe s cause) := by
  have h0 : Keeps 0x40000E00000008000000700000000000004C04FE00000000000000000000807880B00C0300000000000000000003029C06002C3E276C8 s s := Keeps.refl _ _
  unfold State.enterSafe
  extract_lets x0 x1
  have h1 : Keeps 0x40000E00000008000000700000000000004C04FE00000000000000000000807880B00C0300000000000000000003029C06002C3E276C8 s x0 := by unfold x0; repeat' first | with_reducible assumption | apply Eq.refl | intro c | with_reducible apply State.setBit_keeps | ((with_reducible apply Has.fam (GLB_SAFECAUSE_CAUSES_cls ..)); exact Eq.refl true)
  try clear_value x0
  have h2 : Keeps 0x40000E00000008000000700000000000004C04FE00000000000000000000807880B00C0300000000000000000003029C06002C3E276C8 s x1 := by unfold x1; repeat' first | with_reducible assumption | apply Eq.refl | intro c | (with_reducible first | apply Keeps.setMode | apply State.bump_keeps | apply State.set_keeps) | decide | ((with_reducible apply Has.fam (GLB_SAFECAUSE_COUNT_cls ..)); exact Eq.refl true)
  try clear_value x1
  repeat' first | with_reducible assumption | apply Eq.refl | (with_reducible first | apply Keeps.step (State.faultShow_keeps ..) | apply Keeps.step (State.pipelineDown_keeps ..) | apply Keeps.step (State.calAbortW_keeps ..) | apply Keeps.step (State.loopsDown_keeps ..) | apply Keeps.step (State.driveDown_keeps ..) | apply Keeps.ite) | split

theorem State.thermalDown_keeps (s : State) :
    Keeps 0x40000E00000008000000700080000000004C04FE00000000000000000000807880B00C0300000000200400000000029C06002E3E276C8 s (State.thermalDown s) := by
  have h0 : Keeps 0x40000E00000008000000700080000000004C04FE00000000000000000000807880B00C0300000000200400000000029C06002E3E276C8 s s := Keeps.refl _ _
  unfold State.thermalDown
  extract_lets _ x1 x2 x3
  have h2 : Keeps 0x40000E00000008000000700080000000004C04FE00000000000000000000807880B00C0300000000200400000000029C06002E3E276C8 s x1 := by unfold x1; repeat' first | with_reducible assumption | apply Eq.refl | with_reducible apply Keeps.put_house
  try clear_value x1
  have h3 : Keeps 0x40000E00000008000000700080000000004C04FE00000000000000000000807880B00C0300000000200400000000029C06002E3E276C8 s x2 := by unfold x2; repeat' first | with_reducible assumption | apply Eq.refl | intro c | (with_reducible first | apply Keeps.step (State.ddrShow_keeps ..) | apply State.bump_keeps | apply State.set_keeps) | ((with_reducible apply Has.fam (THM_SDCNT_COUNT_cls ..)); exact Eq.refl true) | ((with_reducible apply Has.fam (THM_STAT_SDSEEN_cls ..)); exact Eq.refl true)
  try clear_value x2
  have h4 : Keeps 0x40000E00000008000000700080000000004C04FE00000000000000000000807880B00C0300000000200400000000029C06002E3E276C8 s x3 := by unfold x3; repeat' first | with_reducible assumption | apply Eq.refl | with_reducible apply Keeps.step (State.record_keeps ..)
  try clear_value x3
  repeat' first | with_reducible assumption | apply Eq.refl | intro c | (with_reducible first | apply Keeps.setMode | apply Keeps.step (State.record_keeps ..) | apply Keeps.step (State.ddrShow_keeps ..) | apply State.bump_keeps | apply State.set_keeps | apply Keeps.step (State.faultShow_keeps ..) | apply Keeps.step (State.pipelineDown_keeps ..) | apply Keeps.step (State.calAbortW_keeps ..) | apply Keeps.step (State.loopsDown_keeps ..) | apply Keeps.step (State.driveDown_keeps ..) | apply Keeps.ite) | decide | ((with_reducible apply Has.fam (THM_SDCNT_COUNT_cls ..)); exact Eq.refl true) | ((with_reducible apply Has.fam (THM_STAT_SDSEEN_cls ..)); exact Eq.refl true) | split | extract_lets | with_reducible apply Keeps.put_house

theorem State.fwFault_keeps (s : State) :
    Keeps 0x40000E00000008000000700000000000004C04FE00000000000000000000807880B00C0300000000000000000003029C06002C3E276C8 s (State.fwFault s) := by
  have h0 : Keeps 0x40000E00000008000000700000000000004C04FE00000000000000000000807880B00C0300000000000000000003029C06002C3E276C8 s s := Keeps.refl _ _
  unfold State.fwFault
  repeat' first | with_reducible assumption | apply Eq.refl | (with_reducible first | apply Keeps.step (State.enterSafe_keeps ..) | apply Keeps.step (State.raise_keeps ..))

theorem State.blindW_keeps (s : State) (v : Word) :
    Keeps 0x10000000000000000000000000000000000000000000000000000000000000000000000000000000000000000000000000000000000010008 s (State.blindW s v) := by
  have h0 : Keeps 0x10000000000000000000000000000000000000000000000000000000000000000000000000000000000000000000000000000000000010008 s s := Keeps.refl _ _
  unfold State.blindW
  extract_lets _ x1
  have h2 : Keeps 0x10000000000000000000000000000000000000000000000000000000000000000000000000000000000000000000000000000000000010008 s x1 := by unfold x1; repeat' first | with_reducible assumption | apply Eq.refl | intro c | with_reducible apply State.set_keeps | ((with_reducible apply Has.fam (TMX_BLIND_TILES_cls ..)); exact Eq.refl true)
  try clear_value x1
  repeat' first | with_reducible assumption | apply Eq.refl | extract_lets | with_reducible apply Keeps.put_tmx

theorem State.tpctlW_keeps (s : State) (v : Word) :
    Keeps 0x7FFFFFFFFFFFFFFFFFFFFFFFFFFFFFFFFFFFFFFFFFFFFFFFFFFFFFFFFFFFFFFFFFFFFFFFFFFFFFFFFFFFFFFFFFFFFFFFFFFFF7FFFFF006100C8 s (State.tpctlW s v) := by
  have h0 : Keeps 0x7FFFFFFFFFFFFFFFFFFFFFFFFFFFFFFFFFFFFFFFFFFFFFFFFFFFFFFFFFFFFFFFFFFFFFFFFFFFFFFFFFFFFFFFFFFFFFFFFFFFF7FFFFF006100C8 s s := Keeps.refl _ _
  unfold State.tpctlW
  extract_lets _ _ x2 x3
  have h3 : Keeps 0x7FFFFFFFFFFFFFFFFFFFFFFFFFFFFFFFFFFFFFFFFFFFFFFFFFFFFFFFFFFFFFFFFFFFFFFFFFFFFFFFFFFFFFFFFFFFFFFFFFFFF7FFFFF006100C8 s x2 := by unfold x2; repeat' first | with_reducible assumption | apply Eq.refl | with_reducible apply Keeps.step (State.writeFlds_keeps ..)
  try clear_value x2
  have h4 : Keeps 0x7FFFFFFFFFFFFFFFFFFFFFFFFFFFFFFFFFFFFFFFFFFFFFFFFFFFFFFFFFFFFFFFFFFFFFFFFFFFFFFFFFFFFFFFFFFFFFFFFFFFF7FFFFF006100C8 s x3 := by unfold x3; repeat' first | with_reducible assumption | apply Eq.refl | with_reducible apply Keeps.step (State.testHold_keeps ..)
  try clear_value x3
  repeat' first | with_reducible assumption | apply Eq.refl | intro c | (with_reducible first | apply State.set_keeps | apply Keeps.step (State.disable_keeps ..) | apply Keeps.ite | apply Keeps.foldl) | ((with_reducible apply Has.fam (TMX_TPSTAT_WRERR_cls ..)); exact Eq.refl true) | ((with_reducible apply Has.fam (TMX_TPCTL_PEND_cls ..)); exact Eq.refl true) | split | extract_lets | with_reducible apply Keeps.put_tmx

theorem State.tpAdvance_keeps (s : State) :
    Keeps 0x4000000000000000000000000000000000000000000000000000000000000000000000000000000000000000000000000000000000000000008 s (State.tpAdvance s) := by
  have h0 : Keeps 0x4000000000000000000000000000000000000000000000000000000000000000000000000000000000000000000000000000000000000000008 s s := Keeps.refl _ _
  unfold State.tpAdvance
  repeat' first | with_reducible assumption | apply Eq.refl | intro c | (with_reducible first | apply State.set_keeps | apply Keeps.ite) | ((with_reducible apply Has.fam (TMX_TPSEL_INDEX_cls ..)); exact Eq.refl true) | split | extract_lets

theorem State.tpdataW_keeps (s : State) (v : Word) :
    Keeps 0x4200000000000000000000000000000000000000000000000000000000000000000000000000000000000000000000000000000000000010008 s (State.tpdataW s v) := by
  have h0 : Keeps 0x4200000000000000000000000000000000000000000000000000000000000000000000000000000000000000000000000000000000000010008 s s := Keeps.refl _ _
  unfold State.tpdataW
  extract_lets _ _ x2
  have h3 : Keeps 0x4200000000000000000000000000000000000000000000000000000000000000000000000000000000000000000000000000000000000010008 s x2 := by unfold x2; repeat' first | with_reducible assumption | apply Eq.refl | intro c | (with_reducible first | apply State.set_keeps | apply Keeps.ite) | ((with_reducible apply Has.fam (TMX_TPSTAT_WRERR_cls ..)); exact Eq.refl true) | split | with_reducible apply Keeps.put_tmx
  try clear_value x2
  repeat' first | with_reducible assumption | apply Eq.refl | with_reducible apply Keeps.step (State.tpAdvance_keeps ..) | extract_lets

theorem State.bscanOff_keeps (s : State) :
    Keeps 0x4000000000000000000000000000000000000000000000000000000000000000000000000000000000000000000000000000000000010008 s (State.bscanOff s) := by
  have h0 : Keeps 0x4000000000000000000000000000000000000000000000000000000000000000000000000000000000000000000000000000000000010008 s s := Keeps.refl _ _
  unfold State.bscanOff
  extract_lets x0
  have h1 : Keeps 0x4000000000000000000000000000000000000000000000000000000000000000000000000000000000000000000000000000000000010008 s x0 := by unfold x0; repeat' first | with_reducible assumption | apply Eq.refl | intro c | with_reducible apply State.set_keeps | ((with_reducible apply Has.fam (TMX_CTRL_BSCANEN_cls ..)); exact Eq.refl true)
  try clear_value x0
  repeat' first | with_reducible assumption | apply Eq.refl | split | extract_lets | with_reducible apply Keeps.put_tmx

theorem State.bscanW_keeps (s : State) (v : Word) :
    Keeps 0x40040000E00000008000000700000000000004C04FE00000000000000000000807880B00C0300000000000000000003029C06002C3E376C8 s (State.bscanW s v) := by
  have h0 : Keeps 0x40040000E00000008000000700000000000004C04FE00000000000000000000807880B00C0300000000000000000003029C06002C3E376C8 s s := Keeps.refl _ _
  unfold State.bscanW
  repeat' first | with_reducible assumption | apply Eq.refl | intro c | (with_reducible first | apply Keeps.step (State.enterSafe_keeps ..) | apply State.set_keeps | apply Keeps.step (State.bscanOff_keeps ..) | apply Keeps.ite) | ((with_reducible apply Has.fam (TMX_CTRL_BSCANEN_cls ..)); exact Eq.refl true) | split

theorem State.jtagS_keeps (s : State) (i : JtagInstr) :
    Keeps 0x10000 s (State.jtagS s i) := by
  have h0 : Keeps 0x10000 s s := Keeps.refl _ _
  unfold State.jtagS
  repeat' first | with_reducible assumption | apply Eq.refl | with_reducible apply Keeps.ite | split | extract_lets | with_reducible apply Keeps.put_tmx

theorem State.debugHaltS_keeps (s : State) (h : ℕ) :
    Keeps 0x10000 s (State.debugHaltS s h) := by
  have h0 : Keeps 0x10000 s s := Keeps.refl _ _
  unfold State.debugHaltS
  repeat' first | with_reducible assumption | apply Eq.refl | with_reducible apply Keeps.ite | split | extract_lets | with_reducible apply Keeps.put_tmx

theorem State.stgCtrlW_keeps (s : State) (v : Word) :
    Keeps 0x810078000000000000000000000000000408 s (State.stgCtrlW s v) := by
  have h0 : Keeps 0x810078000000000000000000000000000408 s s := Keeps.refl _ _
  unfold State.stgCtrlW
  extract_lets x0 x1 _ _ x4
  have h1 : Keeps 0x810078000000000000000000000000000408 s x0 := by unfold x0; repeat' first | with_reducible assumption | apply Eq.refl | intro c | (with_reducible first | apply Keeps.step (State.stagePut_keeps ..) | apply State.set_keeps) | ((with_reducible apply Has.fam (STG_CTRL_BIAS_EN_cls ..)); exact Eq.refl true)
  try clear_value x0
  have h2 : Keeps 0x810078000000000000000000000000000408 s x1 := by unfold x1; repeat' first | with_reducible assumption | apply Eq.refl | intro c | with_reducible apply State.set_keeps | ((with_reducible apply Has.fam (STG_CTRL_HTR_EN_cls ..)); exact Eq.refl true)
  try clear_value x1
  have h5 : Keeps 0x810078000000000000000000000000000408 s x4 := by unfold x4; repeat' first | with_reducible assumption | apply Eq.refl | intro c | (with_reducible first | apply State.set_keeps | apply Keeps.ite) | ((with_reducible apply Has.fam (STG_HTRPWR_POWER_cls ..)); exact Eq.refl true) | split
  try clear_value x4
  repeat' first | with_reducible assumption | apply Eq.refl | intro c | (with_reducible first | apply Keeps.step (State.cfgErr_keeps ..) | apply State.set_keeps | apply Keeps.ite) | ((with_reducible apply Has.fam (STG_CTRL_COLREV_cls ..)); exact Eq.refl true) | ((with_reducible apply Has.fam (STG_CTRL_ROWREV_cls ..)); exact Eq.refl true) | split | extract_lets

theorem State.stgFrateW_keeps (s : State) (v : Word) :
    Keeps 0x800180000000000000000000000000080408 s (State.stgFrateW s v) := by
  have h0 : Keeps 0x800180000000000000000000000000080408 s s := Keeps.refl _ _
  unfold State.stgFrateW
  repeat' first | with_reducible assumption | apply Eq.refl | intro c | (with_reducible first | apply Keeps.step (State.cfgErr_keeps ..) | apply Keeps.step (State.askTables_keeps ..) | apply Keeps.step (State.stagePut_keeps ..) | apply State.set_keeps | apply Keeps.ite) | ((with_reducible apply Has.fam (STG_FRATE_PEND_cls ..)); exact Eq.refl true) | ((with_reducible apply Has.fam (STG_FRATE_RATE_cls ..)); exact Eq.refl true) | split | extract_lets

theorem State.stgBiasW_keeps (s : State) (v : Word) :
    Keeps 0xA00000000000000000000000000000408 s (State.stgBiasW s v) := by
  have h0 : Keeps 0xA00000000000000000000000000000408 s s := Keeps.refl _ _
  unfold State.stgBiasW
  repeat' first | with_reducible assumption | apply Eq.refl | intro c | (with_reducible first | apply Keeps.step (State.stagePut_keeps ..) | apply State.set_keeps) | ((with_reducible apply Has.fam (STG_BIAS_PEND_cls ..)); exact Eq.refl true) | ((with_reducible apply Has.fam (STG_BIAS_LEVEL_cls ..)); exact Eq.refl true) | extract_lets

theorem State.stgSetptW_keeps (s : State) (v : Word) :
    Keeps 0x801000000000000000000000000000000008 s (State.stgSetptW s v) := by
  have h0 : Keeps 0x801000000000000000000000000000000008 s s := Keeps.refl _ _
  unfold State.stgSetptW
  repeat' first | with_reducible assumption | apply Eq.refl | intro c | (with_reducible first | apply Keeps.step (State.cfgErr_keeps ..) | apply State.set_keeps | apply Keeps.ite) | ((with_reducible apply Has.fam (STG_SETPT_SETPT_cls ..)); exact Eq.refl true) | split | extract_lets

theorem State.guardTile_keeps {m : Nat} {a s : State} {r : Requester} {n o : Nat} {f : State → State} (h : Keeps m a s)
    (hm : Has m Reg.GLB_STAT_PROTERR) (hf : ∀ y, Keeps m a y → Keeps m a (f y)) : Keeps m a (s.guardTile r n o f) := by
  refine State.guardW_keeps h hm fun y hy => ?_
  split
  · exact hf _ hy
  · exact hy

theorem State.tilGainW_keeps (s : State) (n : ℕ) (v : Word) :
    Keeps 0x4000000408 s (State.tilGainW s n v) := by
  have h0 : Keeps 0x4000000408 s s := Keeps.refl _ _
  unfold State.tilGainW
  repeat' first | with_reducible assumption | apply Eq.refl | intro c | (with_reducible first | apply Keeps.step (State.stagePut_keeps ..) | apply State.set_keeps) | ((with_reducible apply Has.fam (TIL_GAIN_PEND_cls ..)); exact Eq.refl true) | ((with_reducible apply Has.fam (TIL_GAIN_GAIN_cls ..)); exact Eq.refl true) | extract_lets

theorem State.ptAdvance_keeps (s : State) (n : ℕ) :
    Keeps 0x4000000008 s (State.ptAdvance s n) := by
  have h0 : Keeps 0x4000000008 s s := Keeps.refl _ _
  unfold State.ptAdvance
  repeat' first | with_reducible assumption | apply Eq.refl | intro c | (with_reducible first | apply State.incr_keeps | apply Keeps.ite) | ((with_reducible apply Has.fam (TIL_PTSEL_INDEX_cls ..)); exact Eq.refl true) | split

theorem State.tilPtdataW_keeps (s : State) (n : ℕ) (v : Word) :
    Keeps 0x800000000000000000000000004000000408 s (State.tilPtdataW s n v) := by
  have h0 : Keeps 0x800000000000000000000000004000000408 s s := Keeps.refl _ _
  unfold State.tilPtdataW
  extract_lets _ _ _ x3
  have h4 : Keeps 0x800000000000000000000000004000000408 s x3 := by unfold x3; repeat' first | with_reducible assumption | apply Eq.refl | intro c | (with_reducible first | apply Keeps.step (State.cfgErr_keeps ..) | apply Keeps.step (State.stagePut_keeps ..) | apply State.set_keeps | apply Keeps.step (State.setTile_keeps ..) | apply Keeps.ite) | ((with_reducible apply Has.fam (TIL_PTDATA_PEND_cls ..)); exact Eq.refl true) | split
  try clear_value x3
  repeat' first | with_reducible assumption | apply Eq.refl | with_reducible apply Keeps.step (State.ptAdvance_keeps ..) | extract_lets

theorem State.tilSkimW_keeps (s : State) (n : ℕ) (i : ℕ) (v : Word) :
    Keeps 0x7FFFFFFFFFFFFFFFFFFFFFFFFFFFFFFFFFFFFFFFFFFFFFFFFFFFFFFFFFFFFFFFFFFFFFFFFFFFFFFFFFFFFFFFFFFFFFFFFFFFF7FFFFF00000408 s (State.tilSkimW s n i v) := by
  have h0 : Keeps 0x7FFFFFFFFFFFFFFFFFFFFFFFFFFFFFFFFFFFFFFFFFFFFFFFFFFFFFFFFFFFFFFFFFFFFFFFFFFFFFFFFFFFFFFFFFFFFFFFFFFFF7FFFFF00000408 s s := Keeps.refl _ _
  unfold State.tilSkimW
  repeat' first | with_reducible assumption | apply Eq.refl | (with_reducible first | apply Keeps.step (State.cfgErr_keeps ..) | apply Keeps.step (State.stagePut_keeps ..) | apply Keeps.step (State.writeFlds_keeps ..) | apply Keeps.ite) | split

theorem State.tsConsequences_keeps (s : State) :
    Keeps 0x40000E00000008000000700000000000004C04FE00000000000000000000807880B00C03121C0000000000000003029C06002C3E27EC8 s (State.tsConsequences s) := by
  have h0 : Keeps 0x40000E00000008000000700000000000004C04FE00000000000000000000807880B00C03121C0000000000000003029C06002C3E27EC8 s s := Keeps.refl _ _
  unfold State.tsConsequences
  extract_lets _ _ x2 _ _ x5 x6 x7
  have h3 : Keeps 0x40000E00000008000000700000000000004C04FE00000000000000000000807880B00C03121C0000000000000003029C06002C3E27EC8 s x2 := by unfold x2; repeat' first | with_reducible assumption | apply Eq.refl | with_reducible apply Keeps.put_stage
  try clear_value x2
  have h6 : Keeps 0x40000E00000008000000700000000000004C04FE00000000000000000000807880B00C03121C0000000000000003029C06002C3E27EC8 s x5 := by unfold x5; repeat' first | with_reducible assumption | apply Eq.refl | intro c | (with_reducible first | apply State.setB_keeps | apply State.set_keeps) | ((with_reducible apply Has.fam (STG_STAT_TSDEG_cls ..)); exact Eq.refl true) | ((with_reducible apply Has.fam (STG_STAT_TSVALID_cls ..)); exact Eq.refl true)
  try clear_value x5
  have h7 : Keeps 0x40000E00000008000000700000000000004C04FE00000000000000000000807880B00C03121C0000000000000003029C06002C3E27EC8 s x6 := by unfold x6; repeat' first | with_reducible assumption | apply Eq.refl | intro c | (with_reducible first | apply State.set_keeps | apply Keeps.ite) | ((with_reducible apply Has.fam (STG_TEMP_VALID_cls ..)); exact Eq.refl true) | ((with_reducible apply Has.fam (STG_TEMP_TEMP_cls ..)); exact Eq.refl true) | split | extract_lets | with_reducible apply Keeps.put_stage
  try clear_value x6
  have h8 : Keeps 0x40000E00000008000000700000000000004C04FE00000000000000000000807880B00C03121C0000000000000003029C06002C3E27EC8 s x7 := by unfold x7; repeat' first | with_reducible assumption | apply Eq.refl | (with_reducible first | apply Keeps.step (State.raise_keeps ..) | apply Keeps.ite) | split | extract_lets | with_reducible apply Keeps.put_stage
  try clear_value x7
  repeat' first | with_reducible assumption | apply Eq.refl | intro c | (with_reducible first | apply Keeps.step (State.enterSafe_keeps ..) | apply State.set_keeps | apply Keeps.ite) | ((with_reducible apply Has.fam (STG_HTRPWR_POWER_cls ..)); exact Eq.refl true) | split | extract_lets

theorem State.overtempCheck_keeps (s : State) :
    Keeps 0x40000E00000008000000700000000000004C04FE00000000000000000000807880B00C0301100000000000000003029C06002C3E276C8 s (State.overtempCheck s) := by
  have h0 : Keeps 0x40000E00000008000000700000000000004C04FE00000000000000000000807880B00C0301100000000000000003029C06002C3E276C8 s s := Keeps.refl _ _
  unfold State.overtempCheck
  extract_lets _ x1 _ x3 x4
  have h2 : Keeps 0x40000E00000008000000700000000000004C04FE00000000000000000000807880B00C0301100000000000000003029C06002C3E276C8 s x1 := by unfold x1; repeat' first | with_reducible assumption | apply Eq.refl | intro c | with_reducible apply State.set_keeps | ((with_reducible apply Has.fam (STG_HTRPWR_POWER_cls ..)); exact Eq.refl true)
  try clear_value x1
  have h4 : Keeps 0x40000E00000008000000700000000000004C04FE00000000000000000000807880B00C0301100000000000000003029C06002C3E276C8 s x3 := by unfold x3; repeat' first | with_reducible assumption | apply Eq.refl | with_reducible apply Keeps.put_sensor
  try clear_value x3
  have h5 : Keeps 0x40000E00000008000000700000000000004C04FE00000000000000000000807880B00C0301100000000000000003029C06002C3E276C8 s x4 := by unfold x4; repeat' first | with_reducible assumption | apply Eq.refl | intro c | (with_reducible first | apply Keeps.step (State.raise_keeps ..) | apply State.set_keeps | apply Keeps.ite) | ((with_reducible apply Has.fam (STG_STAT_OVERTEMP_cls ..)); exact Eq.refl true) | split
  try clear_value x4
  repeat' first | with_reducible assumption | apply Eq.refl | (with_reducible first | apply Keeps.step (State.enterSafe_keeps ..) | apply Keeps.ite) | split | extract_lets

theorem State.moveTarget_keeps (s : State) :
    Keeps 0x2000000000000000000000000000000808 s (State.moveTarget s) := by
  have h0 : Keeps 0x2000000000000000000000000000000808 s s := Keeps.refl _ _
  unfold State.moveTarget
  repeat' first | with_reducible assumption | apply Eq.refl | intro c | with_reducible apply State.set_keeps | ((with_reducible apply Has.fam (STG_SETPT_TARGET_cls ..)); exact Eq.refl true) | extract_lets | with_reducible apply Keeps.put_stage

theorem State.lockEval_keeps (s : State) :
    Keeps 0x40000000000000000000000000000000808 s (State.lockEval s) := by
  have h0 : Keeps 0x40000000000000000000000000000000808 s s := Keeps.refl _ _
  unfold State.lockEval
  repeat' first | with_reducible assumption | apply Eq.refl | intro c | (with_reducible first | apply State.setB_keeps | apply State.set_keeps | apply Keeps.ite) | ((with_reducible apply Has.fam (STG_STAT_LOCK_cls ..)); exact Eq.refl true) | split | extract_lets | with_reducible apply Keeps.put_stage

theorem State.heaterEval_keeps (s : State) :
    Keeps 0x10000000000000000000000000000000018 s (State.heaterEval s) := by
  have h0 : Keeps 0x10000000000000000000000000000000018 s s := Keeps.refl _ _
  unfold State.heaterEval
  extract_lets _ x1
  have h2 : Keeps 0x10000000000000000000000000000000018 s x1.2 := by unfold x1; repeat' first | with_reducible assumption | apply Eq.refl | with_reducible apply Keeps.step (State.draw_keeps ..)
  try clear_value x1
  repeat' first | with_reducible assumption | apply Eq.refl | intro c | (with_reducible first | apply State.set_keeps | apply Keeps.ite) | ((with_reducible apply Has.fam (STG_HTRPWR_POWER_cls ..)); exact Eq.refl true) | split | extract_lets

theorem State.tsCount_keeps (s : State) :
    Keeps 0x800 s (State.tsCount s) := by
  have h0 : Keeps 0x800 s s := Keeps.refl _ _
  unfold State.tsCount
  repeat' first | with_reducible assumption | apply Eq.refl | extract_lets | with_reducible apply Keeps.put_stage

theorem State.stageRead_keeps (s : State) (rs : List (Option ℕ)) :
    Keeps 0x40000E00000008000000700000000000004C04FE00000000000000000000807880B00C03135E0000000000000003029C06022C3E27ED8 s (State.stageRead s rs) := by
  have h0 : Keeps 0x40000E00000008000000700000000000004C04FE00000000000000000000807880B00C03135E0000000000000003029C06022C3E27ED8 s s := Keeps.refl _ _
  unfold State.stageRead
  extract_lets x0
  have h1 : Keeps 0x40000E00000008000000700000000000004C04FE00000000000000000000807880B00C03135E0000000000000003029C06022C3E27ED8 s x0 := by unfold x0; repeat' first | with_reducible assumption | apply Eq.refl | intro c | (with_reducible first | apply State.set_keeps | apply Keeps.foldl) | ((with_reducible apply Has.fam (STG_TS_VALID_cls ..)); exact Eq.refl true) | ((with_reducible apply Has.fam (STG_TS_TEMP_cls ..)); exact Eq.refl true) | split
  try clear_value x0
  repeat' first | with_reducible assumption | apply Eq.refl | (with_reducible first | apply Keeps.step (State.overtempCheck_keeps ..) | apply Keeps.step (State.heaterEval_keeps ..) | apply Keeps.step (State.lockEval_keeps ..) | apply Keeps.step (State.moveTarget_keeps ..) | apply Keeps.step (State.tsConsequences_keeps ..) | apply Keeps.step (State.tsCount_keeps ..))

theorem State.tsExcludeS_keeps (s : State) (i : ℕ) :
    Keeps 0x40000E00000008000000700000000000004C04FE00000000000000000000807880B00C03121C0000000000000003029C06022C3E27EC8 s (State.tsExcludeS s i) := by
  have h0 : Keeps 0x40000E00000008000000700000000000004C04FE00000000000000000000807880B00C03121C0000000000000003029C06022C3E27EC8 s s := Keeps.refl _ _
  unfold State.tsExcludeS
  extract_lets x0
  have h1 : Keeps 0x40000E00000008000000700000000000004C04FE00000000000000000000807880B00C03121C0000000000000003029C06022C3E27EC8 s x0 := by unfold x0; repeat' first | with_reducible assumption | apply Eq.refl | intro c | (with_reducible first | apply Keeps.step (State.record_keeps ..) | apply State.set_keeps) | ((with_reducible apply Has.fam (STG_TS_EXCL_cls ..)); exact Eq.refl true)
  try clear_value x0
  repeat' first | with_reducible assumption | apply Eq.refl | (with_reducible first | apply Keeps.step (State.tsConsequences_keeps ..) | apply Keeps.ite) | split | extract_lets | with_reducible apply Keeps.put_stage

theorem State.tsReadmitS_keeps (s : State) (i : ℕ) :
    Keeps 0x40000E00000008000000700000000000004C04FE00000000000000000000807880B00C03121C0000000000000003029C06022C3E27ECC s (State.tsReadmitS s i) := by
  have h0 : Keeps 0x40000E00000008000000700000000000004C04FE00000000000000000000807880B00C03121C0000000000000003029C06022C3E27ECC s s := Keeps.refl _ _
  unfold State.tsReadmitS
  extract_lets _ x1 x2
  have h2 : Keeps 0x40000E00000008000000700000000000004C04FE00000000000000000000807880B00C03121C0000000000000003029C06022C3E27ECC s x1 := by unfold x1; repeat' first | with_reducible assumption | apply Eq.refl | with_reducible apply Keeps.step (State.advance_keeps ..)
  try clear_value x1
  have h3 : Keeps 0x40000E00000008000000700000000000004C04FE00000000000000000000807880B00C03121C0000000000000003029C06022C3E27ECC s x2 := by unfold x2; repeat' first | with_reducible assumption | apply Eq.refl | intro c | (with_reducible first | apply Keeps.step (State.record_keeps ..) | apply State.set_keeps) | ((with_reducible apply Has.fam (STG_TS_EXCL_cls ..)); exact Eq.refl true)
  try clear_value x2
  repeat' first | with_reducible assumption | apply Eq.refl | (with_reducible first | apply Keeps.step (State.tsConsequences_keeps ..) | apply Keeps.ite) | split | extract_lets | with_reducible apply Keeps.put_stage

theorem State.stageLockS_keeps (s : State) :
    Keeps 0x4000000000000000000000000000000000C s (State.stageLockS s) := by
  have h0 : Keeps 0x4000000000000000000000000000000000C s s := Keeps.refl _ _
  unfold State.stageLockS
  repeat' first | with_reducible assumption | apply Eq.refl | intro c | (with_reducible first | apply State.set_keeps | apply Keeps.step (State.advance_keeps ..) | apply Keeps.ite) | ((with_reducible apply Has.fam (STG_STAT_LOCK_cls ..)); exact Eq.refl true) | split

theorem State.stageUnregS_keeps (s : State) :
    Keeps 0x900000000000000000001000002000000C8 s (State.stageUnregS s) := by
  have h0 : Keeps 0x900000000000000000001000002000000C8 s s := Keeps.refl _ _
  unfold State.stageUnregS
  repeat' first | with_reducible assumption | apply Eq.refl | intro c | (with_reducible first | apply Keeps.step (State.raise_keeps ..) | apply State.set_keeps | apply Keeps.ite) | ((with_reducible apply Has.fam (STG_STAT_UNREG_cls ..)); exact Eq.refl true) | ((with_reducible apply Has.fam (STG_HTRPWR_POWER_cls ..)); exact Eq.refl true) | split

theorem State.stageUnregClearS_keeps (s : State) :
    Keeps 0x90000000000000000000000000000000018 s (State.stageUnregClearS s) := by
  have h0 : Keeps 0x90000000000000000000000000000000018 s s := Keeps.refl _ _
  unfold State.stageUnregClearS
  extract_lets _ x1
  have h2 : Keeps 0x90000000000000000000000000000000018 s x1.2 := by unfold x1; repeat' first | with_reducible assumption | apply Eq.refl | with_reducible apply Keeps.step (State.draw_keeps ..)
  try clear_value x1
  repeat' first | with_reducible assumption | apply Eq.refl | intro c | (with_reducible first | apply State.set_keeps | apply Keeps.ite) | ((with_reducible apply Has.fam (STG_STAT_UNREG_cls ..)); exact Eq.refl true) | ((with_reducible apply Has.fam (STG_HTRPWR_POWER_cls ..)); exact Eq.refl true) | split | extract_lets

theorem State.stepFollow_keeps (s : State) (d : ℕ) :
    Keeps 0x20000000 s (State.stepFollow s d) := by
  have h0 : Keeps 0x20000000 s s := Keeps.refl _ _
  unfold State.stepFollow
  repeat' first | with_reducible assumption | apply Eq.refl | (with_reducible first | apply Keeps.step (State.setHouse_keeps ..) | apply Keeps.ite) | split | extract_lets

theorem State.thmShow_keeps (s : State) :
    Keeps 0x800000000000000000000000000000000000000000000000000000000000000003000000063FD000000001000002200000C8 s (State.thmShow s) := by
  have h0 : Keeps 0x800000000000000000000000000000000000000000000000000000000000000003000000063FD000000001000002200000C8 s s := Keeps.refl _ _
  unfold State.thmShow
  extract_lets x0 x1
  have h1 : Keeps 0x800000000000000000000000000000000000000000000000000000000000000003000000063FD000000001000002200000C8 s x0 := by unfold x0; repeat' first | with_reducible assumption | apply Eq.refl | intro c | (with_reducible first | apply State.setB_keeps | apply State.set_keeps) | ((with_reducible apply Has.fam (THM_STAT_PFORCED_cls ..)); exact Eq.refl true) | ((with_reducible apply Has.fam (THM_STAT_LFORCED_cls ..)); exact Eq.refl true) | ((with_reducible apply Has.fam (THM_STAT_PSTATE_cls ..)); exact Eq.refl true) | ((with_reducible apply Has.fam (THM_STAT_LSTATE_cls ..)); exact Eq.refl true)
  try clear_value x0
  have h2 : Keeps 0x800000000000000000000000000000000000000000000000000000000000000003000000063FD000000001000002200000C8 s x1 := by unfold x1; repeat' first | with_reducible assumption | apply Eq.refl | intro c | with_reducible apply State.set_keeps | ((with_reducible apply Has.fam (THM_STAT_PVALID_cls ..)); exact Eq.refl true) | ((with_reducible apply Has.fam (THM_STAT_LVALID_cls ..)); exact Eq.refl true)
  try clear_value x1
  repeat' first | with_reducible assumption | apply Eq.refl | (with_reducible first | apply Keeps.step (State.clockShow_keeps ..) | apply Keeps.step (State.stepFollow_keeps ..))

theorem State.thmChange_keeps {m : Nat} {a s : State} {d : Nat} {f : State → State} (h : Keeps m a s)
    (hm : 0x40000E00080008000000700080000000004C04FE00000000000000000000807880B00C03003000002067FD000000029C06002E3E276C8 &&& m = 0x40000E00080008000000700080000000004C04FE00000000000000000000807880B00C03003000002067FD000000029C06002E3E276C8) (hf : ∀ y, Keeps m a y → Keeps m a (f y)) : Keeps m a (s.thmChange d f) := by
  have key : ∀ y, Keeps 0x40000E00080008000000700080000000004C04FE00000000000000000000807880B00C03003000002067FD000000029C06002E3E276C8 y
      (let s' := if y.inThrottle d && !(s.inThrottle d) then y.raise (Src.thm (d == 1) 1) else y
       let new := s'.inShutdown d && !(s.inShutdown d)
       let s' := if new then s'.raise (Src.thm (d == 1) 2) else s'
       let s' := s'.thmShow
       if new then s'.thermalDown else s') := by
    intro y
    have h0 := Keeps.refl 0x40000E00080008000000700080000000004C04FE00000000000000000000807880B00C03003000002067FD000000029C06002E3E276C8 y
    repeat' first | with_reducible assumption | apply Eq.refl | with_reducible apply Keeps.step (State.raise_keeps ..) | with_reducible apply Keeps.step (State.thmShow_keeps ..) | with_reducible apply Keeps.step (State.thermalDown_keeps ..) | with_reducible apply Keeps.ite | extract_lets
  exact Keeps.comp (key (f s)) hm (hf _ h)

theorem State.dieRead_keeps (s : State) (d : ℕ) (ts : List ℕ) :
    Keeps 0x800000008 s (State.dieRead s d ts) := by
  have h0 : Keeps 0x800000008 s s := Keeps.refl _ _
  unfold State.dieRead
  repeat' first | with_reducible assumption | apply Eq.refl | intro c | (with_reducible first | apply State.setB_keeps | apply State.set_keeps | apply Keeps.foldl) | (exact validFld_has (Eq.refl true)) | (exact tempFld_has (Eq.refl true)) | split

theorem State.dieSuspect_keeps (s : State) (d : ℕ) :
    Keeps 0x820000008 s (State.dieSuspect s d) := by
  have h0 : Keeps 0x820000008 s s := Keeps.refl _ _
  unfold State.dieSuspect
  extract_lets x0
  have h1 : Keeps 0x820000008 s x0 := by unfold x0; repeat' first | with_reducible assumption
  try clear_value x0
  repeat' first | with_reducible assumption | apply Eq.refl | intro c | (with_reducible first | apply State.setB_keeps | apply Keeps.step (State.setHouse_keeps ..) | apply Keeps.foldl) | (exact suspFld_has (Eq.refl true)) | extract_lets

theorem State.dieLevels_keeps (s : State) (d : Nat) : Keeps 0x7800000000000000000020000008 s (s.dieLevels d) := by
  have hm : ∀ c : Prop, [Decidable c] → Has 0x7800000000000000000020000008 (if c then Reg.THM_LMAX_MAX else Reg.THM_PMAX_MAX) := fun _ _ =>
    Has.ite ⟨by rfl⟩ ⟨by rfl⟩
  have hp : ∀ c : Prop, [Decidable c] → Has 0x7800000000000000000020000008 (if c then Reg.THM_LMAX_PEAK else Reg.THM_PMAX_PEAK) := fun _ _ =>
    Has.ite ⟨by rfl⟩ ⟨by rfl⟩
  exact Keeps.foldl (Keeps.set (Keeps.set (Keeps.refl _ _) (hm _)) (hp _)) fun y b hy =>
    Keeps.comp (State.setHouse_keeps ..) (by decide) hy

theorem State.oscTrim_keeps (s : State) :
    Keeps 0x20000000 s (State.oscTrim s) := by
  have h0 : Keeps 0x20000000 s s := Keeps.refl _ _
  unfold State.oscTrim
  repeat' first | with_reducible assumption | apply Eq.refl | (with_reducible first | apply Keeps.step (State.setHouse_keeps ..) | apply Keeps.ite) | split | extract_lets

theorem State.thermal_keeps (s : State) (tl : List ℕ) (tp : List ℕ) :
    Keeps 0x7800000000000000000820000008 s (State.thermal s tl tp) := by
  have h0 : Keeps 0x7800000000000000000820000008 s s := Keeps.refl _ _
  unfold State.thermal
  extract_lets x0 _ x2 x3
  have h1 : Keeps 0x7800000000000000000820000008 s x0 := by unfold x0; repeat' first | with_reducible assumption | apply Eq.refl | with_reducible apply Keeps.step (State.dieRead_keeps ..)
  try clear_value x0
  have h3 : Keeps 0x7800000000000000000820000008 s x2 := by unfold x2; repeat' first | with_reducible assumption | apply Eq.refl | with_reducible apply Keeps.step (State.setHouse_keeps ..)
  try clear_value x2
  have h4 : Keeps 0x7800000000000000000820000008 s x3 := by unfold x3; repeat' first | with_reducible assumption | apply Eq.refl | with_reducible apply Keeps.step (State.dieSuspect_keeps ..)
  try clear_value x3
  repeat' first | with_reducible assumption | apply Eq.refl | (with_reducible first | apply Keeps.step (State.oscTrim_keeps ..) | apply Keeps.step (State.dieLevels_keeps ..)) | extract_lets

theorem State.levelEnter_keeps (s : State) (d : ℕ) (l : ℕ) :
    Keeps 0x40000E00080008000000700080000000004C04FE00000000000000000000807880B00C03003000002067FD000000029C06002E3E276C8 s (State.levelEnter s d l) := by
  have h0 : Keeps 0x40000E00080008000000700080000000004C04FE00000000000000000000807880B00C03003000002067FD000000029C06002E3E276C8 s s := Keeps.refl _ _
  unfold State.levelEnter
  extract_lets _ _ x2 x3
  have h3 : Keeps 0x40000E00080008000000700080000000004C04FE00000000000000000000807880B00C03003000002067FD000000029C06002E3E276C8 s x2 := by unfold x2; repeat' first | with_reducible assumption | apply Eq.refl | with_reducible apply Keeps.step (State.setHouse_keeps ..)
  try clear_value x2
  have h4 : Keeps 0x40000E00080008000000700080000000004C04FE00000000000000000000807880B00C03003000002067FD000000029C06002E3E276C8 s x3 := by unfold x3; repeat' first | with_reducible assumption | apply Eq.refl | (with_reducible first | apply Keeps.step (State.thmShow_keeps ..) | apply Keeps.step (State.raise_keeps ..) | apply Keeps.ite) | split
  try clear_value x3
  repeat' first | with_reducible assumption | apply Eq.refl | (with_reducible first | apply Keeps.step (State.thermalDown_keeps ..) | apply Keeps.ite) | split | extract_lets

theorem State.levelLeave_keeps (s : State) (d : ℕ) (l : ℕ) :
    Keeps 0x800000000000000000000000000000000000000000000000000000000000000003000000063FD000000001000002200000C8 s (State.levelLeave s d l) := by
  have h0 : Keeps 0x800000000000000000000000000000000000000000000000000000000000000003000000063FD000000001000002200000C8 s s := Keeps.refl _ _
  unfold State.levelLeave
  repeat' first | with_reducible assumption | apply Eq.refl | (with_reducible first | apply Keeps.step (State.thmShow_keeps ..) | apply Keeps.step (State.setHouse_keeps ..) | apply Keeps.ite) | split | extract_lets

theorem State.step2_keeps (s : State) (d : ℕ) :
    Keeps 0x8000000000000000000000000000000000000000000000000000000000000000030000000009D000000001000002200000CC s (State.step2 s d) := by
  have h0 : Keeps 0x8000000000000000000000000000000000000000000000000000000000000000030000000009D000000001000002200000CC s s := Keeps.refl _ _
  unfold State.step2
  extract_lets x0
  have h1 : Keeps 0x8000000000000000000000000000000000000000000000000000000000000000030000000009D000000001000002200000CC s x0 := by unfold x0; repeat' first | with_reducible assumption | apply Eq.refl | with_reducible apply Keeps.step (State.advance_keeps ..)
  try clear_value x0
  repeat' first | with_reducible assumption | apply Eq.refl | (with_reducible first | apply Keeps.step (State.clockShow_keeps ..) | apply Keeps.step (State.setHouse_keeps ..) | apply Keeps.ite) | split | extract_lets

theorem State.thmExclude_keeps (s : State) (d : ℕ) (i : ℕ) :
    Keeps 0x40000E00080008000000700080000000004C04FE00000000000000000000807880B00C0300300000206FFD000000029C0600AE3E276C8 s (State.thmExclude s d i) := by
  have h0 : Keeps 0x40000E00080008000000700080000000004C04FE00000000000000000000807880B00C0300300000206FFD000000029C0600AE3E276C8 s s := Keeps.refl _ _
  unfold State.thmExclude
  repeat' first | with_reducible assumption | apply Eq.refl | intro c | (with_reducible first | apply State.thmChange_keeps | apply State.set_keeps | apply Keeps.step (State.setHouse_keeps ..) | apply Keeps.step (State.raise_keeps ..) | apply Keeps.step (State.record_keeps ..) | apply Keeps.ite) | ((with_reducible apply Has.fam (THM_STAT_EXCLSEEN_cls ..)); exact Eq.refl true) | (exact suspFld_has (Eq.refl true)) | (exact validFld_has (Eq.refl true)) | (exact exclFld_has (Eq.refl true)) | split | extract_lets

theorem State.thmReadmit_keeps (s : State) (d : ℕ) (i : ℕ) :
    Keeps 0x40000E00080008000000700080000000004C04FE00000000000000000000807880B00C03003000002067FD000000029C0600AE3E276C8 s (State.thmReadmit s d i) := by
  have h0 : Keeps 0x40000E00080008000000700080000000004C04FE00000000000000000000807880B00C03003000002067FD000000029C0600AE3E276C8 s s := Keeps.refl _ _
  unfold State.thmReadmit
  repeat' first | with_reducible assumption | apply Eq.refl | intro c | (with_reducible first | apply State.thmChange_keeps | apply State.set_keeps | apply Keeps.step (State.setHouse_keeps ..) | apply Keeps.step (State.record_keeps ..) | apply Keeps.ite) | (exact validFld_has (Eq.refl true)) | (exact exclFld_has (Eq.refl true)) | split | extract_lets

theorem State.resetStart_keeps (s : State) (cause : Nat) (p : PowerPhase) : Keeps 0x4C04F6000000000000000000000000000000000000000000000000000000000600000620028 s (s.resetStart cause p) := by
  have h : Keeps 0x4C04F6000000000000000000000000000000000000000000000000000000000600000620028 s s.allOff.lyOff :=
    Keeps.comp (State.lyOff_keeps ..) (by decide) (Keeps.comp (State.allOff_keeps ..) (by decide) (Keeps.refl _ _))
  exact Keeps.put_power (v := ⟨p, cause, s.allOff.lyOff.time, false, s.allOff.lyOff.power.vio33⟩)
    (Keeps.put_loops (v := { s.allOff.lyOff.loops with high := 0 }) h rfl) rfl

theorem State.resetNow_keeps (s : State) (cause : ℕ) :
    Keeps 0x4C04F6000000000000000000000000000000000000000000000000000000000600000620028 s (State.resetNow s cause) := by
  have h0 : Keeps 0x4C04F6000000000000000000000000000000000000000000000000000000000600000620028 s s := Keeps.refl _ _
  unfold State.resetNow
  repeat' first | with_reducible assumption | apply Eq.refl | with_reducible apply Keeps.step (State.resetStart_keeps ..)

theorem State.mgtCheck_keeps (s : State) :
    Keeps 0x7E0000804C04F60000000000000000000000000000000000000000000000000000001016002006200E8 s (State.mgtCheck s) := by
  have h0 : Keeps 0x7E0000804C04F60000000000000000000000000000000000000000000000000000001016002006200E8 s s := Keeps.refl _ _
  unfold State.mgtCheck
  extract_lets x0
  have h1 : Keeps 0x7E0000804C04F60000000000000000000000000000000000000000000000000000001016002006200E8 s x0.1 := by unfold x0; repeat' first | with_reducible assumption | apply Eq.refl | intro c | (with_reducible first | apply Keeps.step (State.memRead_keeps ..) | apply Keeps.foldl | apply Keeps.foldl_fst) | extract_lets
  try clear_value x0
  repeat' first | with_reducible assumption | apply Eq.refl | (with_reducible first | apply Keeps.step (State.resetNow_keeps ..) | apply Keeps.ite) | split

theorem State.testAt_keeps (s : State) (bank : ℕ) (bight : ℕ) :
    Keeps 0x80 s (State.testAt s bank bight) := by
  have h0 : Keeps 0x80 s s := Keeps.refl _ _
  unfold State.testAt
  repeat' first | with_reducible assumption | apply Eq.refl | extract_lets | with_reducible apply Keeps.put_mem

theorem State.nextBank_keeps (s : State) :
    Keeps 0x2000000000000000000000000000000000000000000000000000000000000000000000000000088 s (State.nextBank s) := by
  have h0 : Keeps 0x2000000000000000000000000000000000000000000000000000000000000000000000000000088 s s := Keeps.refl _ _
  unfold State.nextBank
  repeat' first | with_reducible assumption | apply Eq.refl | intro c | (with_reducible first | apply Keeps.step (State.testAt_keeps ..) | apply State.incr_keeps | apply Keeps.ite) | ((with_reducible apply Has.fam (MEM_TESTPASS_COUNT_cls ..)); exact Eq.refl true) | split

theorem State.skipBanks_keeps (s : State) (n : Nat) : Keeps 0x2000000000000000000000000000000000000000000000000000000000000000000000000000088 s (s.skipBanks n) := by
  induction n generalizing s with
  | zero => exact Keeps.refl _ _
  | succ n ih =>
    unfold State.skipBanks
    split
    · exact Keeps.comp (ih _) (by decide) (Keeps.comp (State.nextBank_keeps ..) (by decide) (Keeps.refl _ _))
    · exact Keeps.refl _ _

theorem State.nextBight_keeps (s : State) :
    Keeps 0x2000000000000000000000000000000000000000000000000000000000000000000000000000088 s (State.nextBight s) := by
  have h0 : Keeps 0x2000000000000000000000000000000000000000000000000000000000000000000000000000088 s s := Keeps.refl _ _
  unfold State.nextBight
  repeat' first | with_reducible assumption | apply Eq.refl | (with_reducible first | apply Keeps.step (State.testAt_keeps ..) | apply Keeps.step (State.nextBank_keeps ..) | apply Keeps.ite) | split

theorem State.checkBight_keeps (s : State) :
    Keeps 0x7E0000800000000000000000000000000000000000000000000000000000000000001010002000000C8 s (State.checkBight s) := by
  have h0 : Keeps 0x7E0000800000000000000000000000000000000000000000000000000000000000001010002000000C8 s s := Keeps.refl _ _
  unfold State.checkBight
  repeat' first | with_reducible assumption | apply Eq.refl | intro c | (with_reducible first | apply Keeps.step (State.memUE_keeps ..) | apply Keeps.step (State.memCE_keeps ..) | apply Keeps.foldl) | split | extract_lets | with_reducible apply Keeps.put_mem

theorem State.bightStartS_keeps (s : State) (errs : List MemErr) :
    Keeps 0x7E003C900000000000000000000000000000000000000000000000000000000000001010002000000C8 s (State.bightStartS s errs) := by
  have h0 : Keeps 0x7E003C900000000000000000000000000000000000000000000000000000000000001010002000000C8 s s := Keeps.refl _ _
  unfold State.bightStartS
  extract_lets x0 x1 _ x3 x4
  have h1 : Keeps 0x7E003C900000000000000000000000000000000000000000000000000000000000001010002000000C8 s x0 := by unfold x0; repeat' first | with_reducible assumption | apply Eq.refl | with_reducible apply Keeps.step (State.addErrs_keeps ..)
  try clear_value x0
  have h2 : Keeps 0x7E003C900000000000000000000000000000000000000000000000000000000000001010002000000C8 s x1 := by unfold x1; repeat' first | with_reducible assumption | apply Eq.refl | with_reducible apply Keeps.step (State.skipBanks_keeps ..)
  try clear_value x1
  have h4 : Keeps 0x7E003C900000000000000000000000000000000000000000000000000000000000001010002000000C8 s x3 := by unfold x3; repeat' first | with_reducible assumption | apply Eq.refl | with_reducible apply Keeps.put_mem
  try clear_value x3
  have h5 : Keeps 0x7E003C900000000000000000000000000000000000000000000000000000000000001010002000000C8 s x4 := by unfold x4; repeat' first | with_reducible assumption | apply Eq.refl | intro c | with_reducible apply State.set_keeps | ((with_reducible apply Has.fam (MEM_TESTPOS_ACTIVE_cls ..)); exact Eq.refl true) | ((with_reducible apply Has.fam (MEM_TESTPOS_BIGHT_cls ..)); exact Eq.refl true) | ((with_reducible apply Has.fam (MEM_TESTPOS_BANK_cls ..)); exact Eq.refl true)
  try clear_value x4
  repeat' first | with_reducible assumption | apply Eq.refl | intro c | (with_reducible first | apply Keeps.step (State.checkBight_keeps ..) | apply State.set_keeps | apply Keeps.ite) | ((with_reducible apply Has.fam (MEM_STAT_TESTRUN_cls ..)); exact Eq.refl true) | split | extract_lets

theorem State.testIdle_keeps (s : State) :
    Keeps 0x1010000000000000000000000000000000000000000000000000000000000000000000000000088 s (State.testIdle s) := by
  have h0 : Keeps 0x1010000000000000000000000000000000000000000000000000000000000000000000000000088 s s := Keeps.refl _ _
  unfold State.testIdle
  repeat' first | with_reducible assumption | apply Eq.refl | intro c | with_reducible apply State.set_keeps | ((with_reducible apply Has.fam (MEM_STAT_TESTRUN_cls ..)); exact Eq.refl true) | ((with_reducible apply Has.fam (MEM_TESTPOS_ACTIVE_cls ..)); exact Eq.refl true) | extract_lets | with_reducible apply Keeps.put_mem

theorem State.marchFail_keeps (s : State) (bit : ℕ) :
    Keeps 0xF80200000000000000000000000000000000000000000000000000000000000001000002000000C8 s (State.marchFail s bit) := by
  have h0 : Keeps 0xF80200000000000000000000000000000000000000000000000000000000000001000002000000C8 s s := Keeps.refl _ _
  unfold State.marchFail
  extract_lets x0 x1
  have h1 : Keeps 0xF80200000000000000000000000000000000000000000000000000000000000001000002000000C8 s x0 := by unfold x0; repeat' first | with_reducible assumption | apply Eq.refl | intro c | (with_reducible first | apply State.set_keeps | apply State.bump_keeps) | ((with_reducible apply Has.fam (MEM_STAT_FAILSEEN_cls ..)); exact Eq.refl true) | ((with_reducible apply Has.fam (MEM_TESTFAIL_COUNT_cls ..)); exact Eq.refl true)
  try clear_value x0
  have h2 : Keeps 0xF80200000000000000000000000000000000000000000000000000000000000001000002000000C8 s x1 := by unfold x1; repeat' first | with_reducible assumption | apply Eq.refl | intro c | with_reducible apply State.set_keeps | ((with_reducible apply Has.fam (MEM_FAILADDR_BIGHT_cls ..)); exact Eq.refl true) | ((with_reducible apply Has.fam (MEM_FAILADDR_BANK_cls ..)); exact Eq.refl true)
  try clear_value x1
  repeat' first | with_reducible assumption | apply Eq.refl | intro c | (with_reducible first | apply Keeps.step (State.raise_keeps ..) | apply State.set_keeps) | ((with_reducible apply Has.fam (MEM_FAILADDR_VALID_cls ..)); exact Eq.refl true) | ((with_reducible apply Has.fam (MEM_FAILADDR_BIT_cls ..)); exact Eq.refl true)

theorem State.bightDoneS_keeps (s : State) (fail : Option ℕ) :
    Keeps 0xFB0300000000000000000000000000000000000000000000000000000000000001000002000000C8 s (State.bightDoneS s fail) := by
  have h0 : Keeps 0xFB0300000000000000000000000000000000000000000000000000000000000001000002000000C8 s s := Keeps.refl _ _
  unfold State.bightDoneS
  extract_lets x0
  have h1 : Keeps 0xFB0300000000000000000000000000000000000000000000000000000000000001000002000000C8 s x0 := by unfold x0; repeat' first | with_reducible assumption | apply Eq.refl | (with_reducible first | apply Keeps.step (State.marchFail_keeps ..) | apply Keeps.ite) | split
  try clear_value x0
  repeat' first | with_reducible assumption | apply Eq.refl | (with_reducible first | apply Keeps.step (State.nextBight_keeps ..) | apply Keeps.step (State.testIdle_keeps ..) | apply Keeps.ite) | split

theorem State.restoreDone_keeps (s : State) :
    Keeps 0x7010000000000000000000000000000000000000000000000000000000000000000000000000088 s (State.restoreDone s) := by
  have h0 : Keeps 0x7010000000000000000000000000000000000000000000000000000000000000000000000000088 s s := Keeps.refl _ _
  unfold State.restoreDone
  extract_lets x0
  have h1 : Keeps 0x7010000000000000000000000000000000000000000000000000000000000000000000000000088 s x0 := by unfold x0; repeat' first | with_reducible assumption | apply Eq.refl | with_reducible apply Keeps.step (State.testIdle_keeps ..)
  try clear_value x0
  repeat' first | with_reducible assumption | apply Eq.refl | intro c | (with_reducible first | apply Keeps.step (State.nextBight_keeps ..) | apply State.bump_keeps | apply Keeps.ite) | ((with_reducible apply Has.fam (MEM_TESTSKIP_COUNT_cls ..)); exact Eq.refl true) | split

theorem State.bightSkipS_keeps (s : State) :
    Keeps 0x6000000000000000000000000000000000000000000000000000000000000000000000000000088 s (State.bightSkipS s) := by
  have h0 : Keeps 0x6000000000000000000000000000000000000000000000000000000000000000000000000000088 s s := Keeps.refl _ _
  unfold State.bightSkipS
  extract_lets x0
  have h1 : Keeps 0x6000000000000000000000000000000000000000000000000000000000000000000000000000088 s x0 := by unfold x0; repeat' first | with_reducible assumption | apply Eq.refl | with_reducible apply Keeps.step (State.skipBanks_keeps ..)
  try clear_value x0
  repeat' first | with_reducible assumption | apply Eq.refl | intro c | (with_reducible first | apply Keeps.step (State.nextBight_keeps ..) | apply State.bump_keeps | apply Keeps.ite) | ((with_reducible apply Has.fam (MEM_TESTSKIP_COUNT_cls ..)); exact Eq.refl true) | split

theorem State.setRet_keeps (s : State) (v : ℕ) :
    Keeps 0x1F80000000000000000000000000000000000000000000000000000000000000000000000000000000088 s (State.setRet s v) := by
  have h0 : Keeps 0x1F80000000000000000000000000000000000000000000000000000000000000000000000000000000088 s s := Keeps.refl _ _
  unfold State.setRet
  extract_lets x0 x1
  have h1 : Keeps 0x1F80000000000000000000000000000000000000000000000000000000000000000000000000000000088 s x0 := by unfold x0; repeat' first | with_reducible assumption | apply Eq.refl | intro c | with_reducible apply State.set_keeps | ((with_reducible apply Has.fam (MEM_RETCTL_BB_cls ..)); exact Eq.refl true) | ((with_reducible apply Has.fam (MEM_RETCTL_UB_cls ..)); exact Eq.refl true) | ((with_reducible apply Has.fam (MEM_RETCTL_PB_cls ..)); exact Eq.refl true)
  try clear_value x0
  have h2 : Keeps 0x1F80000000000000000000000000000000000000000000000000000000000000000000000000000000088 s x1 := by unfold x1; repeat' first | with_reducible assumption | apply Eq.refl | intro c | with_reducible apply State.set_keeps | ((with_reducible apply Has.fam (MEM_RETSTAT_RET_cls ..)); exact Eq.refl true) | ((with_reducible apply Has.fam (MEM_RETCTL_SP_cls ..)); exact Eq.refl true) | ((with_reducible apply Has.fam (MEM_RETCTL_KB_cls ..)); exact Eq.refl true)
  try clear_value x1
  repeat' first | with_reducible assumption | apply Eq.refl | extract_lets | with_reducible apply Keeps.put_mem

theorem State.retctlW_keeps (s : State) (v : Word) :
    Keeps 0x1F80000100000000000000000000000000000000000000000000000000000000000000000000000000088 s (State.retctlW s v) := by
  have h0 : Keeps 0x1F80000100000000000000000000000000000000000000000000000000000000000000000000000000088 s s := Keeps.refl _ _
  unfold State.retctlW
  repeat' first | with_reducible assumption | apply Eq.refl | intro c | (with_reducible first | apply State.set_keeps | apply Keeps.step (State.setRet_keeps ..) | apply Keeps.ite) | ((with_reducible apply Has.fam (MEM_STAT_WRERR_cls ..)); exact Eq.refl true) | split | extract_lets

theorem State.wake_keeps (s : State) (g : ℕ) :
    Keeps 0x3F80000000000000000000000000000000000000000000000000000000000000000000000000000000088 s (State.wake s g) := by
  have h0 : Keeps 0x3F80000000000000000000000000000000000000000000000000000000000000000000000000000000088 s s := Keeps.refl _ _
  unfold State.wake
  extract_lets _ x1
  have h2 : Keeps 0x3F80000000000000000000000000000000000000000000000000000000000000000000000000000000088 s x1 := by unfold x1; repeat' first | with_reducible assumption | apply Eq.refl | with_reducible apply Keeps.step (State.setRet_keeps ..)
  try clear_value x1
  repeat' first | with_reducible assumption | apply Eq.refl | intro c | (with_reducible first | apply State.bump_keeps | apply Keeps.ite) | ((with_reducible apply Has.fam (MEM_RETSTAT_WAKES_cls ..)); exact Eq.refl true) | split | extract_lets

theorem State.logSector_keeps (s : State) :
    Keeps 0x200000000000000000000000000000000000000000000000000000000000000000000000000000000008000008 s (State.logSector s) := by
  have h0 : Keeps 0x200000000000000000000000000000000000000000000000000000000000000000000000000000000008000008 s s := Keeps.refl _ _
  unfold State.logSector
  repeat' first | (with_reducible first | assumption | apply Canon.saved | apply Canon.saving | apply Keeps.canon) | apply Eq.refl | intro c | (with_reducible first | apply Keeps.step (State.flashTouched_keeps ..) | apply Keeps.ite) | split | extract_lets | with_reducible apply Keeps.put_flash

theorem State.readEntry_keeps (s : State) (i : ℕ) :
    Keeps 0x7E0000800000000000000000000000000000000000000000000000000000000000001010002000000C8 s (State.readEntry s i).1 := by
  have h0 : Keeps 0x7E0000800000000000000000000000000000000000000000000000000000000000001010002000000C8 s s := Keeps.refl _ _
  unfold State.readEntry
  extract_lets x0
  have h1 : Keeps 0x7E0000800000000000000000000000000000000000000000000000000000000000001010002000000C8 s x0.1 := by unfold x0; repeat' first | with_reducible assumption | apply Eq.refl | intro c | (with_reducible first | apply Keeps.step (State.memRead_keeps ..) | apply Keeps.foldl | apply Keeps.foldl_fst) | extract_lets
  try clear_value x0
  repeat' first | with_reducible assumption | with_reducible apply Keeps.ite | split

theorem State.copyOne_keeps (s : State) : Keeps 0x20000007E0000800000000000000000000000000000000000000000000000000000000000001010002080000C8 s s.copyOne := by
  unfold State.copyOne
  split
  · exact Keeps.refl _ _
  · rename_i i r hp
    extract_lets p t f next seq u1 t2
    have h : Keeps 0x20000007E0000800000000000000000000000000000000000000000000000000000000000001010002080000C8 s t :=
      Keeps.comp (State.readEntry_keeps ..) (by decide) (Keeps.comp (State.logSector_keeps ..) (by decide) (Keeps.refl _ _))
    clear_value t
    have h1 : Keeps 0x20000007E0000800000000000000000000000000000000000000000000000000000000000001010002080000C8 s { t with evt := { t.evt with pend := r } } :=
      Keeps.put_evt h rfl fun c => (h.canon c).ring
    have h2 := Keeps.put_flash (v := { f with log := mset LogEntry.zero f.log f.logNext p.2, logNext := next, logSeq := seq })
      h1 rfl (fun c => (h.canon c).saved) fun c => (h.canon c).saving
    exact setK (setK (Keeps.comp (State.flashTouched_keeps ..) (by decide) h2))

theorem State.copyLog_keeps (s : State) (n : Nat) : Keeps 0x20000007E0000800000000000000000000000000000000000000000000000000000000000001010002080000C8 s (s.copyLog n) := by
  induction n generalizing s with
  | zero => exact Keeps.refl _ _
  | succ n ih => exact Keeps.comp (ih _) (by decide) (Keeps.comp (State.copyOne_keeps ..) (by decide) (Keeps.refl _ _))

theorem State.logPage_keeps (s : State) :
    Keeps 0x20000007E0000800000000000000000000000000000000000000000000000000000000000001010002080000C8 s (State.logPage s) := by
  have h0 : Keeps 0x20000007E0000800000000000000000000000000000000000000000000000000000000000001010002080000C8 s s := Keeps.refl _ _
  unfold State.logPage
  repeat' first | with_reducible assumption | apply Eq.refl | with_reducible apply Keeps.step (State.copyLog_keeps ..)

theorem State.commandedReset_keeps (s : State) (cause : ℕ) :
    Keeps 0x20000007E0000804C04F60000000000000000000000000000000000000000000000000000001016002086200E8 s (State.commandedReset s cause) := by
  have h0 : Keeps 0x20000007E0000804C04F60000000000000000000000000000000000000000000000000000001016002086200E8 s s := Keeps.refl _ _
  unfold State.commandedReset
  repeat' first | with_reducible assumption | apply Eq.refl | (with_reducible first | apply Keeps.step (State.resetNow_keeps ..) | apply Keeps.step (State.copyLog_keeps ..))

theorem State.sortBegin_keeps (s : State) :
    Keeps 0x880000000000008 s (State.sortBegin s) := by
  have h0 : Keeps 0x880000000000008 s s := Keeps.refl _ _
  unfold State.sortBegin
  repeat' first | with_reducible assumption | apply Eq.refl | intro c | (with_reducible first | apply Keeps.setMode | apply State.set_keeps) | decide | ((with_reducible apply Has.fam (GLB_CTRL_RUN_cls ..)); exact Eq.refl true)

theorem State.setStartWait_keeps (s : State) (b : Bool) :
    Keeps 0x80 s (State.setStartWait s b) := by
  have h0 : Keeps 0x80 s s := Keeps.refl _ _
  unfold State.setStartWait
  repeat' first | with_reducible assumption | apply Eq.refl | extract_lets | with_reducible apply Keeps.put_mem

theorem State.sortStart_keeps (s : State) :
    Keeps 0xF80000000000000000000000000000000000000000000000000000000000000000000880000000000088 s (State.sortStart s) := by
  have h0 : Keeps 0xF80000000000000000000000000000000000000000000000000000000000000000000880000000000088 s s := Keeps.refl _ _
  unfold State.sortStart
  extract_lets x0
  have h1 : Keeps 0xF80000000000000000000000000000000000000000000000000000000000000000000880000000000088 s x0 := by unfold x0; repeat' first | with_reducible assumption | apply Eq.refl | intro c | with_reducible apply State.set_keeps | ((with_reducible apply Has.fam (MEM_RETCTL_BB_cls ..)); exact Eq.refl true) | ((with_reducible apply Has.fam (MEM_RETCTL_UB_cls ..)); exact Eq.refl true) | ((with_reducible apply Has.fam (MEM_RETCTL_PB_cls ..)); exact Eq.refl true)
  try clear_value x0
  repeat' first | with_reducible assumption | apply Eq.refl | intro c | (with_reducible first | apply Keeps.step (State.sortBegin_keeps ..) | apply Keeps.step (State.setStartWait_keeps ..) | apply State.set_keeps | apply Keeps.ite) | ((with_reducible apply Has.fam (MEM_RETCTL_SP_cls ..)); exact Eq.refl true) | ((with_reducible apply Has.fam (MEM_RETCTL_KB_cls ..)); exact Eq.refl true) | split

theorem State.wakeUp_keeps (s : State) (g : ℕ) :
    Keeps 0x3F80000000000000000000000000000000000000000000000000000000000000000000880000000000088 s (State.wakeUp s g) := by
  have h0 : Keeps 0x3F80000000000000000000000000000000000000000000000000000000000000000000880000000000088 s s := Keeps.refl _ _
  unfold State.wakeUp
  extract_lets x0 x1
  have h1 : Keeps 0x3F80000000000000000000000000000000000000000000000000000000000000000000880000000000088 s x0 := by unfold x0; repeat' first | with_reducible assumption | apply Eq.refl | with_reducible apply Keeps.step (State.wake_keeps ..)
  try clear_value x0
  have h2 : Keeps 0x3F80000000000000000000000000000000000000000000000000000000000000000000880000000000088 s x1 := by unfold x1; repeat' first | with_reducible assumption | apply Eq.refl | with_reducible apply Keeps.step (State.setStartWait_keeps ..)
  try clear_value x1
  repeat' first | with_reducible assumption | apply Eq.refl | (with_reducible first | apply Keeps.step (State.sortBegin_keeps ..) | apply Keeps.ite) | split

theorem State.sortStop_keeps (s : State) :
    Keeps 0x8C50000000000000000000000000000000000000000009800002001000C8 s (State.sortStop s) := by
  have h0 : Keeps 0x8C50000000000000000000000000000000000000000009800002001000C8 s s := Keeps.refl _ _
  unfold State.sortStop
  repeat' first | with_reducible assumption | apply Eq.refl | intro c | (with_reducible first | apply Keeps.setMode | apply Keeps.step (State.dropKnots_keeps ..) | apply State.set_keeps) | decide | ((with_reducible apply Has.fam (GLB_CTRL_RUN_cls ..)); exact Eq.refl true)

theorem State.runW_keeps (s : State) (run : Bool) :
    Keeps 0xF800000000000000000000008C50000000000000000000000000000000000000000089800002001000C8 s (State.runW s run) := by
  have h0 : Keeps 0xF800000000000000000000008C50000000000000000000000000000000000000000089800002001000C8 s s := Keeps.refl _ _
  unfold State.runW
  repeat' first | with_reducible assumption | apply Eq.refl | intro c | (with_reducible first | apply Keeps.step (State.sortStart_keeps ..) | apply State.set_keeps | apply Keeps.step (State.sortStop_keeps ..) | apply Keeps.step (State.setStartWait_keeps ..) | apply Keeps.ite) | ((with_reducible apply Has.fam (GLB_STAT_WRERR_cls ..)); exact Eq.refl true) | split

theorem State.swrstW_keeps (s : State) (key : ℕ) :
    Keeps 0x20000007E0000804C04F60000000000000000000000000000000000000000000000000000081016002086200E8 s (State.swrstW s key) := by
  have h0 : Keeps 0x20000007E0000804C04F60000000000000000000000000000000000000000000000000000081016002086200E8 s s := Keeps.refl _ _
  unfold State.swrstW
  repeat' first | with_reducible assumption | apply Eq.refl | intro c | (with_reducible first | apply Keeps.step (State.commandedReset_keeps ..) | apply State.set_keeps | apply Keeps.ite) | ((with_reducible apply Has.fam (GLB_STAT_WRERR_cls ..)); exact Eq.refl true) | split

theorem State.warmUp_keeps (s : State) : Keeps 0x18000000000000002080000000002408 s s.warmUp := by
  unfold State.warmUp
  extract_lets t u v t2
  have h : Keeps 0x18000000000000002080000000002408 s t :=
    setK (Keeps.setMode (Keeps.refl _ _) rfl (by decide))
  have h2 : Keeps 0x18000000000000002080000000002408 s t2 := Keeps.put_cal (v := { t.cal with tries := 0, retryAt := 0, powered := false })
    (Keeps.put_sensor (v := { t.sensor with removeBias := false }) h rfl) rfl
  exact Keeps.comp (State.faultShow_keeps ..) (by decide) (Keeps.comp (State.stagePut_keeps ..) (by decide)
    (setK h2))

theorem State.restartGo_keeps (s : State) :
    Keeps 0x40000000000000000000000000080000000000000000000000000000000000000000000000001000180000000000001021800002200124C8 s (State.restartGo s) := by
  have h0 : Keeps 0x40000000000000000000000000080000000000000000000000000000000000000000000000001000180000000000001021800002200124C8 s s := Keeps.refl _ _
  unfold State.restartGo
  extract_lets _ _ x2 x3 x4
  have h3 : Keeps 0x40000000000000000000000000080000000000000000000000000000000000000000000000001000180000000000001021800002200124C8 s x2 := by unfold x2; repeat' first | with_reducible assumption | apply Eq.refl | with_reducible apply Keeps.put_house
  try clear_value x2
  have h4 : Keeps 0x40000000000000000000000000080000000000000000000000000000000000000000000000001000180000000000001021800002200124C8 s x3 := by unfold x3; repeat' first | with_reducible assumption | apply Eq.refl | intro c | (with_reducible first | apply Keeps.step (State.bscanOff_keeps ..) | apply State.set_keeps) | ((with_reducible apply Has.fam (STG_STAT_OVERTEMP_cls ..)); exact Eq.refl true) | ((with_reducible apply Has.fam (GLB_SAFECAUSE_CAUSES_cls ..)); exact Eq.refl true)
  try clear_value x3
  have h5 : Keeps 0x40000000000000000000000000080000000000000000000000000000000000000000000000001000180000000000001021800002200124C8 s x4 := by unfold x4; repeat' first | with_reducible assumption | apply Eq.refl | (with_reducible first | apply Keeps.step (State.ddrShow_keeps ..) | apply Keeps.step (State.warmUp_keeps ..))
  try clear_value x4
  repeat' first | with_reducible assumption | apply Eq.refl | (with_reducible first | apply Keeps.step (State.record_keeps ..) | apply Keeps.ite) | split | extract_lets

theorem State.restartReq_keeps (s : State) :
    Keeps 0x40000000000000000000000000080000000000000000000000000000000000000000000000001000180001000000001021800002200124C8 s (State.restartReq s).1 := by
  have h0 : Keeps 0x40000000000000000000000000080000000000000000000000000000000000000000000000001000180001000000001021800002200124C8 s s := Keeps.refl _ _
  unfold State.restartReq
  repeat' first | with_reducible assumption | apply Eq.refl | intro c | (with_reducible first | apply Keeps.step (State.restartGo_keeps ..) | apply State.set_keeps | apply Keeps.ite) | ((with_reducible apply Has.fam (THM_STAT_WRERR_cls ..)); exact Eq.refl true) | split

theorem State.autoReq_keeps (s : State) :
    Keeps 0x40000000000000000000000000080000000000000000000000000000000000000000000000001000180000000000001021800002200124C8 s (State.autoReq s) := by
  have h0 : Keeps 0x40000000000000000000000000080000000000000000000000000000000000000000000000001000180000000000001021800002200124C8 s s := Keeps.refl _ _
  unfold State.autoReq
  repeat' first | with_reducible assumption | apply Eq.refl | (with_reducible first | apply Keeps.step (State.restartGo_keeps ..) | apply Keeps.ite) | split | extract_lets | with_reducible apply Keeps.put_house

theorem State.readyGo_keeps (s : State) :
    Keeps 0x4F8000000000000000000000000000000000000000000000000000000080000000000008 s (State.readyGo s) := by
  have h0 : Keeps 0x4F8000000000000000000000000000000000000000000000000000000080000000000008 s s := Keeps.refl _ _
  unfold State.readyGo
  repeat' first | with_reducible assumption | apply Eq.refl | intro c | (with_reducible first | apply Keeps.setMode | apply Keeps.step (State.arbShow_keeps ..) | apply Keeps.step (State.testHold_keeps ..) | apply State.set_keeps | apply Keeps.ite) | decide | ((with_reducible apply Has.fam (ARB_CTRL_EN_cls ..)); exact Eq.refl true) | split

theorem State.readWords_keeps (s : State) (port : ℕ) (ws : List (ℕ × ℕ)) :
    Keeps 0x7E0002800000000000000000000000000000000000000000000000000000000000001010002000000C8 s (State.readWords s port ws).1 := by
  have h0 : Keeps 0x7E0002800000000000000000000000000000000000000000000000000000000000001010002000000C8 s s := Keeps.refl _ _
  unfold State.readWords
  repeat' first | with_reducible assumption | apply Eq.refl | intro c | (with_reducible first | apply Keeps.step (State.tableRead_keeps ..) | apply Keeps.step (State.memRead_keeps ..) | apply Keeps.ite | apply Keeps.foldl | apply Keeps.foldl_fst) | split | extract_lets

theorem State.tableFetch_keeps (s : State) (port : ℕ) (id : ℕ) (a : ℕ) :
    Keeps 0x7E0002800000000000000000000000000000000000000000000000000000000000001010002000000D8 s (State.tableFetch s port id a).1 := by
  have h0 : Keeps 0x7E0002800000000000000000000000000000000000000000000000000000000000001010002000000D8 s s := Keeps.refl _ _
  unfold State.tableFetch
  extract_lets _ _ x2
  have h3 : Keeps 0x7E0002800000000000000000000000000000000000000000000000000000000000001010002000000D8 s x2.1 := by unfold x2; repeat' first | with_reducible assumption | apply Eq.refl | (with_reducible first | apply Keeps.step (State.readWords_keeps ..) | apply Keeps.ite) | split
  try clear_value x2
  repeat' first | with_reducible assumption | apply Eq.refl | (with_reducible first | apply Keeps.step (State.readWords_keeps ..) | apply Keeps.step (State.draw_keeps ..) | apply Keeps.ite) | split | extract_lets

theorem State.tableFetches_keeps (s : State) (id : ℕ) (a : ℕ) (n : ℕ) :
    Keeps 0x7E0002800000000000000000000000000000000000000000000000000000000000001010002000000D8 s (State.tableFetches s id a n).1 := by
  have h0 : Keeps 0x7E0002800000000000000000000000000000000000000000000000000000000000001010002000000D8 s s := Keeps.refl _ _
  unfold State.tableFetches
  repeat' first | with_reducible assumption | apply Eq.refl | intro c | (with_reducible first | apply Keeps.step (State.tableFetch_keeps ..) | apply Keeps.foldl | apply Keeps.foldl_fst) | extract_lets

theorem State.tableReadBy_keeps (s : State) (r : Requester) :
    Keeps 0x7E0002800000000000000000000000000000000000000000000000000000000008001010002000001D8 s (State.tableReadBy s r).1 := by
  have h0 : Keeps 0x7E0002800000000000000000000000000000000000000000000000000000000008001010002000001D8 s s := Keeps.refl _ _
  unfold State.tableReadBy
  extract_lets _ x1
  have h2 : Keeps 0x7E0002800000000000000000000000000000000000000000000000000000000008001010002000001D8 s x1.1 := by unfold x1; repeat' first | with_reducible assumption | apply Eq.refl | with_reducible apply Keeps.step (State.tableFetches_keeps ..)
  try clear_value x1
  repeat' first | with_reducible assumption | apply Eq.refl | intro c | (with_reducible first | apply Keeps.step (State.setWin_keeps ..) | apply State.set_keeps | apply Keeps.ite) | ((with_reducible apply Has.fam (GLB_TBL_STAT_RANGE_cls ..)); exact Eq.refl true) | split | extract_lets

theorem State.tablePut_keeps (s : State) (id : ℕ) (a : ℕ) (v : ℕ) :
    Keeps 0x10004000000000400000000000100000000000000000000000100000000281088 s (State.tablePut s id a v).1 := by
  have h0 : Keeps 0x10004000000000400000000000100000000000000000000000100000000281088 s s := Keeps.refl _ _
  unfold State.tablePut
  repeat' first | (with_reducible first | assumption | apply mwf_mset | apply Canon.ub | apply Canon.cls | apply Canon.map | apply Keeps.canon) | apply Eq.refl | intro c | (with_reducible first | apply Keeps.step (State.pbHostWrite_keeps ..) | apply Keeps.step (State.brdWrErr_keeps ..) | apply Keeps.step (State.wordWritten_keeps ..) | apply State.set_keeps | apply Keeps.step (State.setClsWord_keeps ..) | apply Keeps.ite) | ((with_reducible apply Has.fam (VRD_STAT_WRERR_cls ..)); exact Eq.refl true) | ((with_reducible apply Has.fam (EJS_STAT_WRERR_cls ..)); exact Eq.refl true) | split | extract_lets | (with_reducible first | apply Keeps.put_braid | apply Keeps.put_sched)

theorem State.tableWriteBy_keeps (s : State) (r : Requester) (v : ℕ) :
    Keeps 0x10004000000000400000000000100000000000000000000C00100000000281188 s (State.tableWriteBy s r v).1 := by
  have h0 : Keeps 0x10004000000000400000000000100000000000000000000C00100000000281188 s s := Keeps.refl _ _
  unfold State.tableWriteBy
  extract_lets _ x1 x2
  have h2 : Keeps 0x10004000000000400000000000100000000000000000000C00100000000281188 s x1 := by unfold x1; repeat' first | with_reducible assumption | apply Eq.refl | with_reducible apply Keeps.step (State.setWin_keeps ..)
  try clear_value x1
  have h3 : Keeps 0x10004000000000400000000000100000000000000000000C00100000000281188 s x2.1 := by unfold x2; repeat' first | with_reducible assumption | apply Eq.refl | with_reducible apply Keeps.step (State.tablePut_keeps ..)
  try clear_value x2
  repeat' first | with_reducible assumption | apply Eq.refl | intro c | (with_reducible first | apply State.set_keeps | apply Keeps.ite) | ((with_reducible apply Has.fam (GLB_TBL_STAT_RANGE_cls ..)); exact Eq.refl true) | ((with_reducible apply Has.fam (GLB_TBL_STAT_REFUSED_cls ..)); exact Eq.refl true) | split | extract_lets

theorem State.hkaNext_keeps (s : State) (e : HkaEntry) :
    Keeps 0x200000000000000000000020000008 s (State.hkaNext s e) := by
  have h0 : Keeps 0x200000000000000000000020000008 s s := Keeps.refl _ _
  unfold State.hkaNext
  extract_lets _ _ _ _ _ x5
  have h6 : Keeps 0x200000000000000000000020000008 s x5 := by unfold x5; repeat' first | with_reducible assumption | apply Eq.refl | intro c | with_reducible apply State.set_keeps | ((with_reducible apply Has.fam (HKA_STAT_POS_cls ..)); exact Eq.refl true)
  try clear_value x5
  repeat' first | with_reducible assumption | apply Eq.refl | (with_reducible first | apply Keeps.step (State.setHouse_keeps ..) | apply Keeps.ite) | split | extract_lets

theorem State.ainShow_keeps (s : State) (i : ℕ) (v : ℕ) :
    Keeps 0x1000000018 s (State.ainShow s i v) := by
  have h0 : Keeps 0x1000000018 s s := Keeps.refl _ _
  unfold State.ainShow
  extract_lets _ x1
  have h2 : Keeps 0x1000000018 s x1.2 := by unfold x1; repeat' first | with_reducible assumption | apply Eq.refl | with_reducible apply Keeps.step (State.draw_keeps ..)
  try clear_value x1
  repeat' first | with_reducible assumption | apply Eq.refl | intro c | (with_reducible first | apply State.set_keeps | apply Keeps.ite) | ((with_reducible apply Has.fam (HKA_AINENG_VALUE_cls ..)); exact Eq.refl true) | split | extract_lets

theorem State.grefRtd_keeps (s : State) (t : ℕ) :
    Keeps 0x4000 s (State.grefRtd s t) := by
  have h0 : Keeps 0x4000 s s := Keeps.refl _ _
  unfold State.grefRtd
  repeat' first | with_reducible assumption | apply Eq.refl | split | extract_lets | with_reducible apply Keeps.put_gref

theorem State.rtdResult_keeps (s : State) (t : ℕ) :
    Keeps 0x10010000000000000000000000000000000000000000000000000000000000000000000000000000070000000000000001000002000240C8 s (State.rtdResult s t) := by
  have h0 : Keeps 0x10010000000000000000000000000000000000000000000000000000000000000000000000000000070000000000000001000002000240C8 s s := Keeps.refl _ _
  unfold State.rtdResult
  extract_lets _ x1
  have h2 : Keeps 0x10010000000000000000000000000000000000000000000000000000000000000000000000000000070000000000000001000002000240C8 s x1 := by unfold x1; repeat' first | with_reducible assumption | apply Eq.refl | intro c | (with_reducible first | apply State.setB_keeps | apply State.set_keeps) | ((with_reducible apply Has.fam (HKA_RTDTEMP_VALID_cls ..)); exact Eq.refl true) | ((with_reducible apply Has.fam (HKA_RTDTEMP_RANGE_cls ..)); exact Eq.refl true) | ((with_reducible apply Has.fam (HKA_RTDTEMP_TEMP_cls ..)); exact Eq.refl true)
  try clear_value x1
  repeat' first | with_reducible assumption | apply Eq.refl | (with_reducible first | apply Keeps.step (State.bkLimit_keeps ..) | apply Keeps.step (State.grefRtd_keeps ..) | apply Keeps.step (State.bkReading_keeps ..) | apply Keeps.ite) | split | extract_lets

theorem State.hkaUse_keeps (s : State) (e : HkaEntry) (v : ℕ) :
    Keeps 0x10010000000000000000000000000000000000000000000000000000000000000000000000000000070000000106000001000012000240D8 s (State.hkaUse s e v) := by
  have h0 : Keeps 0x10010000000000000000000000000000000000000000000000000000000000000000000000000000070000000106000001000012000240D8 s s := Keeps.refl _ _
  unfold State.hkaUse
  extract_lets _ x1
  have h2 : Keeps 0x10010000000000000000000000000000000000000000000000000000000000000000000000000000070000000106000001000012000240D8 s x1 := by unfold x1; repeat' first | with_reducible assumption | apply Eq.refl | intro c | with_reducible apply State.set_keeps | ((with_reducible apply Has.fam (PWR_VIN_VIN_cls ..)); exact Eq.refl true)
  try clear_value x1
  repeat' first | with_reducible assumption | apply Eq.refl | intro c | (with_reducible first | apply Keeps.step (State.dipLow_keeps ..) | apply State.set_keeps | apply Keeps.step (State.rtdResult_keeps ..) | apply Keeps.step (State.ainShow_keeps ..) | apply Keeps.ite) | ((with_reducible apply Has.fam (PWR_VIN_VVAL_cls ..)); exact Eq.refl true) | split | extract_lets

theorem State.hkaResult_keeps (s : State) (codes : List ℤ) :
    Keeps 0x10010000000000000000000000000000000000000000000000000000000000000000000000000000073000000106000001000012200240D8 s (State.hkaResult s codes) := by
  have h0 : Keeps 0x10010000000000000000000000000000000000000000000000000000000000000000000000000000073000000106000001000012200240D8 s s := Keeps.refl _ _
  unfold State.hkaResult
  extract_lets _ _ x2 _ x4
  have h3 : Keeps 0x10010000000000000000000000000000000000000000000000000000000000000000000000000000073000000106000001000012200240D8 s x2 := by unfold x2; repeat' first | with_reducible assumption | apply Eq.refl | intro c | (with_reducible first | apply State.setB_keeps | apply State.incr_keeps) | ((with_reducible apply Has.fam (HKA_RES_LASTINV_cls ..)); exact Eq.refl true) | ((with_reducible apply Has.fam (HKA_RES_COUNT_cls ..)); exact Eq.refl true)
  try clear_value x2
  have h5 : Keeps 0x10010000000000000000000000000000000000000000000000000000000000000000000000000000073000000106000001000012200240D8 s x4 := by unfold x4; repeat' first | with_reducible assumption | apply Eq.refl | intro c | (with_reducible first | apply State.set_keeps | apply Keeps.step (State.hkaUse_keeps ..) | apply Keeps.ite) | ((with_reducible apply Has.fam (HKA_STAT_INVSEEN_cls ..)); exact Eq.refl true) | ((with_reducible apply Has.fam (HKA_RES_VALID_cls ..)); exact Eq.refl true) | ((with_reducible apply Has.fam (HKA_RES_VALUE_cls ..)); exact Eq.refl true) | split
  try clear_value x4
  repeat' first | with_reducible assumption | apply Eq.refl | (with_reducible first | apply Keeps.step (State.hkaNext_keeps ..) | apply Keeps.ite) | split | extract_lets

theorem State.hkaFresh_keeps (s : State) :
    Keeps 0x20000000 s (State.hkaFresh s) := by
  have h0 : Keeps 0x20000000 s s := Keeps.refl _ _
  unfold State.hkaFresh
  repeat' first | with_reducible assumption | apply Eq.refl | with_reducible apply Keeps.step (State.setHouse_keeps ..) | extract_lets

theorem State.hkaScal_keeps (s : State) :
    Keeps 0x40000000000000000000000000008 s (State.hkaScal s) := by
  have h0 : Keeps 0x40000000000000000000000000008 s s := Keeps.refl _ _
  unfold State.hkaScal
  repeat' first | with_reducible assumption | apply Eq.refl | intro c | (with_reducible first | apply State.set_keeps | apply Keeps.ite) | ((with_reducible apply Has.fam (HKA_STAT_SCALBUSY_cls ..)); exact Eq.refl true) | split

theorem State.hkaScalEnd_keeps (s : State) (gain : ℕ) (ofs : ℕ) :
    Keeps 0x800000070000000000000000000000000000000000000000000000000000000000CC00000000000001400002E30002C8 s (State.hkaScalEnd s gain ofs) := by
  have h0 : Keeps 0x800000070000000000000000000000000000000000000000000000000000000000CC00000000000001400002E30002C8 s s := Keeps.refl _ _
  unfold State.hkaScalEnd
  extract_lets x0
  have h1 : Keeps 0x800000070000000000000000000000000000000000000000000000000000000000CC00000000000001400002E30002C8 s x0 := by unfold x0; repeat' first | with_reducible assumption | apply Eq.refl | intro c | with_reducible apply State.set_keeps | ((with_reducible apply Has.fam (HKA_STAT_SCALBUSY_cls ..)); exact Eq.refl true) | ((with_reducible apply Has.fam (HKA_CALOFS_OFS_cls ..)); exact Eq.refl true) | ((with_reducible apply Has.fam (HKA_CALGAIN_GAIN_cls ..)); exact Eq.refl true)
  try clear_value x0
  repeat' first | with_reducible assumption | apply Eq.refl | intro c | (with_reducible first | apply Keeps.step (State.opFinish_keeps ..) | apply Keeps.step (State.hkaFresh_keeps ..) | apply State.set_keeps | apply Keeps.ite) | ((with_reducible apply Has.fam (HKA_STAT_SCALDONE_cls ..)); exact Eq.refl true) | split

theorem State.hkaScalAbort_keeps (s : State) :
    Keeps 0x8000000700000000000000000000000000000000000000000000000000000000000400000000000001400002E30002C8 s (State.hkaScalAbort s) := by
  have h0 : Keeps 0x8000000700000000000000000000000000000000000000000000000000000000000400000000000001400002E30002C8 s s := Keeps.refl _ _
  unfold State.hkaScalAbort
  repeat' first | with_reducible assumption | apply Eq.refl | intro c | (with_reducible first | apply Keeps.step (State.opFinish_keeps ..) | apply Keeps.step (State.hkaFresh_keeps ..) | apply State.set_keeps) | ((with_reducible apply Has.fam (HKA_STAT_SCALBUSY_cls ..)); exact Eq.refl true)

theorem State.hkaCtrlW_keeps (s : State) (v : ℕ) :
    Keeps 0x7FFFFFFFFFFFFFFFFFFFFFFFFFFFFFFFFFFFFFFFFFFFFFFFFFFFFFFFFFFFFFFFFFFFFFFFFFFFFFFFFFFFFFFFFFFFFFFFFFFFF7FFFFF20000008 s (State.hkaCtrlW s v) := by
  have h0 : Keeps 0x7FFFFFFFFFFFFFFFFFFFFFFFFFFFFFFFFFFFFFFFFFFFFFFFFFFFFFFFFFFFFFFFFFFFFFFFFFFFFFFFFFFFFFFFFFFFFFFFFFFFF7FFFFF20000008 s s := Keeps.refl _ _
  unfold State.hkaCtrlW
  extract_lets _ x1 _ x3
  have h2 : Keeps 0x7FFFFFFFFFFFFFFFFFFFFFFFFFFFFFFFFFFFFFFFFFFFFFFFFFFFFFFFFFFFFFFFFFFFFFFFFFFFFFFFFFFFFFFFFFFFFFFFFFFFF7FFFFF20000008 s x1 := by unfold x1; repeat' first | with_reducible assumption | apply Eq.refl | with_reducible apply Keeps.step (State.writeFlds_keeps ..)
  try clear_value x1
  have h4 : Keeps 0x7FFFFFFFFFFFFFFFFFFFFFFFFFFFFFFFFFFFFFFFFFFFFFFFFFFFFFFFFFFFFFFFFFFFFFFFFFFFFFFFFFFFFFFFFFFFFFFFFFFFF7FFFFF20000008 s x3 := by unfold x3; repeat' first | with_reducible assumption | apply Eq.refl | intro c | (with_reducible first | apply Keeps.step (State.setHouse_keeps ..) | apply State.set_keeps | apply Keeps.ite) | ((with_reducible apply Has.fam (HKA_STAT_POS_cls ..)); exact Eq.refl true) | split
  try clear_value x3
  repeat' first | with_reducible assumption | apply Eq.refl | (with_reducible first | apply Keeps.step (State.hkaScal_keeps ..) | apply Keeps.ite) | split | extract_lets

theorem State.setChain_keeps (s : State) (c : Chain) :
    Keeps 0x800000 s (State.setChain s c) := by
  have h0 : Keeps 0x800000 s s := Keeps.refl _ _
  unfold State.setChain
  repeat' first | with_reducible assumption | apply Eq.refl | with_reducible apply Keeps.put_chain

theorem State.chainSend_keeps (s : State) (p : ChainPort) (m : ChainMsg) :
    Keeps 0x80000000 s (State.chainSend s p m) := by
  have h0 : Keeps 0x80000000 s s := Keeps.refl _ _
  unfold State.chainSend
  repeat' first | with_reducible assumption | apply Eq.refl | (with_reducible first | apply Keeps.step (State.emit_keeps ..) | apply Keeps.ite) | split

theorem State.membersShow_keeps (s : State) :
    Keeps 0x400000000000000000000000000000000000000000000000000000000000000000000000000000000000000000000000000008 s (State.membersShow s) := by
  have h0 : Keeps 0x400000000000000000000000000000000000000000000000000000000000000000000000000000000000000000000000000008 s s := Keeps.refl _ _
  unfold State.membersShow
  repeat' first | with_reducible assumption | apply Eq.refl | intro c | (with_reducible first | apply State.set_keeps | apply Keeps.ite) | ((with_reducible apply Has.fam (CHN_STAT_MEMBERS_cls ..)); exact Eq.refl true) | split | extract_lets

theorem State.setChainState_keeps (s : State) (v : ℕ) :
    Keeps 0x480000000000000000000000000000000000000000000000000000000000000000000000000000000000000000000000000008 s (State.setChainState s v) := by
  have h0 : Keeps 0x480000000000000000000000000000000000000000000000000000000000000000000000000000000000000000000000000008 s s := Keeps.refl _ _
  unfold State.setChainState
  repeat' first | with_reducible assumption | apply Eq.refl | intro c | (with_reducible first | apply Keeps.step (State.membersShow_keeps ..) | apply State.set_keeps) | ((with_reducible apply Has.fam (CHN_STAT_STATE_cls ..)); exact Eq.refl true)

theorem State.ownRun_keeps (s : State) :
    Keeps 0x80000000000000000000000000000000000000000000000000000000000000000000000000000000000000000000000000000000008 s (State.ownRun s) := by
  have h0 : Keeps 0x80000000000000000000000000000000000000000000000000000000000000000000000000000000000000000000000000000000008 s s := Keeps.refl _ _
  unfold State.ownRun
  repeat' first | with_reducible assumption | apply Eq.refl | intro c | with_reducible apply State.set_keeps | ((with_reducible apply Has.fam (CHN_RUN_RUN_cls ..)); exact Eq.refl true)

theorem State.chainStart_keeps (s : State) :
    Keeps 0x80000480000000000000000000000000000000000000000000000000000000000000000000000000000000000001000000000800008 s (State.chainStart s) := by
  have h0 : Keeps 0x80000480000000000000000000000000000000000000000000000000000000000000000000000000000000000001000000000800008 s s := Keeps.refl _ _
  unfold State.chainStart
  extract_lets _ _ _ x3 x4
  have h4 : Keeps 0x80000480000000000000000000000000000000000000000000000000000000000000000000000000000000000001000000000800008 s x3 := by unfold x3; repeat' first | with_reducible assumption | apply Eq.refl | with_reducible apply Keeps.step (State.setChain_keeps ..)
  try clear_value x3
  have h5 : Keeps 0x80000480000000000000000000000000000000000000000000000000000000000000000000000000000000000001000000000800008 s x4 := by unfold x4; repeat' first | with_reducible assumption | apply Eq.refl | with_reducible apply Keeps.step (State.ownRun_keeps ..)
  try clear_value x4
  repeat' first | with_reducible assumption | apply Eq.refl | intro c | (with_reducible first | apply Keeps.step (State.setChainState_keeps ..) | apply State.set_keeps | apply Keeps.ite) | ((with_reducible apply Has.fam (GLB_STAT_UNSYNC_cls ..)); exact Eq.refl true) | split | extract_lets

theorem State.becomeMaster_keeps (s : State) :
    Keeps 0xE0680000000000000000000000000000000000000000000000000000000000000000000000000000000000001000000000000008 s (State.becomeMaster s) := by
  have h0 : Keeps 0xE0680000000000000000000000000000000000000000000000000000000000000000000000000000000000001000000000000008 s s := Keeps.refl _ _
  unfold State.becomeMaster
  repeat' first | with_reducible assumption | apply Eq.refl | intro c | (with_reducible first | apply Keeps.step (State.grantShow_keeps ..) | apply Keeps.step (State.setChainState_keeps ..) | apply State.set_keeps) | ((with_reducible apply Has.fam (GLB_STAT_UNSYNC_cls ..)); exact Eq.refl true) | ((with_reducible apply Has.fam (CHN_STAT_MSTIDX_cls ..)); exact Eq.refl true)

theorem State.listenEnd_keeps (s : State) :
    Keeps 0x800E4680000000000000000000000000000000000000000000000000000000000000000000000000000000000001000000000800008 s (State.listenEnd s) := by
  have h0 : Keeps 0x800E4680000000000000000000000000000000000000000000000000000000000000000000000000000000000001000000000800008 s s := Keeps.refl _ _
  unfold State.listenEnd
  extract_lets _ x1
  have h2 : Keeps 0x800E4680000000000000000000000000000000000000000000000000000000000000000000000000000000000001000000000800008 s x1 := by unfold x1; repeat' first | with_reducible assumption | apply Eq.refl | with_reducible apply Keeps.step (State.setChain_keeps ..)
  try clear_value x1
  repeat' first | with_reducible assumption | apply Eq.refl | intro c | (with_reducible first | apply Keeps.step (State.becomeMaster_keeps ..) | apply Keeps.step (State.ownRun_keeps ..) | apply State.set_keeps | apply Keeps.ite) | ((with_reducible apply Has.fam (CHN_STAT_MSTCONF_cls ..)); exact Eq.refl true) | split | extract_lets

theorem State.calOrphaned_keeps (s : State) :
    Keeps 0xE000000000000000000000000000000000000000000000000000000000000B000000000000000000000000000000000081802008 s (State.calOrphaned s) := by
  have h0 : Keeps 0xE000000000000000000000000000000000000000000000000000000000000B000000000000000000000000000000000081802008 s s := Keeps.refl _ _
  unfold State.calOrphaned
  repeat' first | with_reducible assumption | apply Eq.refl | (with_reducible first | apply Keeps.step (State.calNext_keeps ..) | apply Keeps.step (State.setPhase_keeps ..) | apply Keeps.step (State.pendTrig_keeps ..) | apply Keeps.step (State.dropGrant_keeps ..) | apply Keeps.ite) | split | extract_lets | with_reducible apply Keeps.put_cal

theorem State.becomeOrphan_keeps (s : State) :
    Keeps 0x10E248000000000000000000000000000000000000000000000000000000000B0000000000000000000000000011000002818020C8 s (State.becomeOrphan s) := by
  have h0 : Keeps 0x10E248000000000000000000000000000000000000000000000000000000000B0000000000000000000000000011000002818020C8 s s := Keeps.refl _ _
  unfold State.becomeOrphan
  extract_lets _ x1 x2
  have h2 : Keeps 0x10E248000000000000000000000000000000000000000000000000000000000B0000000000000000000000000011000002818020C8 s x1 := by unfold x1; repeat' first | with_reducible assumption | apply Eq.refl | with_reducible apply Keeps.step (State.setChain_keeps ..)
  try clear_value x1
  have h3 : Keeps 0x10E248000000000000000000000000000000000000000000000000000000000B0000000000000000000000000011000002818020C8 s x2 := by unfold x2; repeat' first | with_reducible assumption | apply Eq.refl | intro c | (with_reducible first | apply Keeps.step (State.setChainState_keeps ..) | apply State.set_keeps) | ((with_reducible apply Has.fam (GLB_STAT_UNSYNC_cls ..)); exact Eq.refl true) | ((with_reducible apply Has.fam (CHN_STAT_HITCH_cls ..)); exact Eq.refl true)
  try clear_value x2
  repeat' first | with_reducible assumption | apply Eq.refl | intro c | (with_reducible first | apply Keeps.step (State.calOrphaned_keeps ..) | apply State.bump_keeps | apply Keeps.step (State.raise_keeps ..) | apply Keeps.ite) | ((with_reducible apply Has.fam (CHN_ORPHANCNT_COUNT_cls ..)); exact Eq.refl true) | split | extract_lets

end Sys2Proof.Machine
end

