-- ==== Sys2Proof/Laws/Keeps4.lean ====
section
/-! SUPPORT. What each operation over State may touch, part 4 of 5: one lemma for each, in the order of their files. -/

namespace Sys2Proof.Machine

set_option linter.all false
set_option linter.unusedTactic false
set_option linter.unreachableTactic false
set_option linter.style.longLine false
set_option Elab.async false

open Reg

theorem State.takeIndex_keeps (s : State) (i : LinkInfo) :
    Keeps 0x101000000000000000000000000000000000000000000000000000000000000000000000000000000000000101000002000000C8 s (State.takeIndex s i) := by
  have h0 : Keeps 0x101000000000000000000000000000000000000000000000000000000000000000000000000000000000000101000002000000C8 s s := Keeps.refl _ _
  unfold State.takeIndex
  repeat' first | with_reducible assumption | apply Eq.refl | intro c | (with_reducible first | apply Keeps.step (State.raise_keeps ..) | apply State.set_keeps | apply Keeps.ite) | ((with_reducible apply Has.fam (CHN_OFFSET_LANE0_cls ..)); exact Eq.refl true) | ((with_reducible apply Has.fam (GLB_STAT_CHIDX_cls ..)); exact Eq.refl true) | ((with_reducible apply Has.fam (CHN_STAT_INDEX_cls ..)); exact Eq.refl true) | split

theorem State.linkUp_keeps (s : State) (p : ChainPort) (i : LinkInfo) :
    Keeps 0x19D000000000000000000000000000000000000000000000000000000000000000000000000000000000000101000002808000C8 s (State.linkUp s p i) := by
  have h0 : Keeps 0x19D000000000000000000000000000000000000000000000000000000000000000000000000000000000000101000002808000C8 s s := Keeps.refl _ _
  unfold State.linkUp
  extract_lets x0 _ x2 x3 x4
  have h1 : Keeps 0x19D000000000000000000000000000000000000000000000000000000000000000000000000000000000000101000002808000C8 s x0 := by unfold x0; repeat' first | with_reducible assumption | apply Eq.refl | intro c | with_reducible apply State.set_keeps | ((with_reducible apply Has.fam (CHN_STAT_LLINK_cls ..)); exact Eq.refl true) | ((with_reducible apply Has.fam (CHN_STAT_HLINK_cls ..)); exact Eq.refl true) | split
  try clear_value x0
  have h3 : Keeps 0x19D000000000000000000000000000000000000000000000000000000000000000000000000000000000000101000002808000C8 s x2 := by unfold x2; repeat' first | with_reducible assumption | apply Eq.refl | with_reducible apply Keeps.step (State.setChain_keeps ..)
  try clear_value x2
  have h4 : Keeps 0x19D000000000000000000000000000000000000000000000000000000000000000000000000000000000000101000002808000C8 s x3 := by unfold x3; repeat' first | with_reducible assumption | apply Eq.refl | with_reducible apply Keeps.step (State.setChain_keeps ..)
  try clear_value x3
  have h5 : Keeps 0x19D000000000000000000000000000000000000000000000000000000000000000000000000000000000000101000002808000C8 s x4 := by unfold x4; repeat' first | with_reducible assumption | apply Eq.refl | with_reducible apply Keeps.step (State.setChain_keeps ..) | split
  try clear_value x4
  repeat' first | with_reducible assumption | apply Eq.refl | intro c | (with_reducible first | apply Keeps.step (State.membersShow_keeps ..) | apply Keeps.step (State.chainSend_keeps ..) | apply Keeps.step (State.takeIndex_keeps ..) | apply Keeps.step (State.raise_keeps ..) | apply State.set_keeps | apply Keeps.ite) | ((with_reducible apply Has.fam (CHN_STAT_SPLICEERR_cls ..)); exact Eq.refl true) | split | extract_lets

theorem State.linkTrain_keeps (s : State) (p : ChainPort) (i : Option LinkInfo) :
    Keeps 0x19D000000000000000000000000000000000000000000000000000000000000000000000000000000000000101000002808000C8 s (State.linkTrain s p i) := by
  have h0 : Keeps 0x19D000000000000000000000000000000000000000000000000000000000000000000000000000000000000101000002808000C8 s s := Keeps.refl _ _
  unfold State.linkTrain
  repeat' first | with_reducible assumption | apply Eq.refl | (with_reducible first | apply Keeps.step (State.linkUp_keeps ..) | apply Keeps.step (State.raise_keeps ..) | apply Keeps.ite) | split

theorem State.dropBeyond_keeps (s : State) (p : ChainPort) :
    Keeps 0xE0000000000000000000000000000000000000000000000000000000000000000000000000000000000000000000000000800008 s (State.dropBeyond s p) := by
  have h0 : Keeps 0xE0000000000000000000000000000000000000000000000000000000000000000000000000000000000000000000000000800008 s s := Keeps.refl _ _
  unfold State.dropBeyond
  repeat' first | with_reducible assumption | apply Eq.refl | (with_reducible first | apply Keeps.step (State.grantShow_keeps ..) | apply Keeps.step (State.setChain_keeps ..)) | extract_lets

theorem State.linkDown_keeps (s : State) (p : ChainPort) :
    Keeps 0x10E3C8000000000000000000000000000000000000000000000000000000000B0000000000000000000000000011000002818020C8 s (State.linkDown s p) := by
  have h0 : Keeps 0x10E3C8000000000000000000000000000000000000000000000000000000000B0000000000000000000000000011000002818020C8 s s := Keeps.refl _ _
  unfold State.linkDown
  extract_lets _ _ x2 x3
  have h3 : Keeps 0x10E3C8000000000000000000000000000000000000000000000000000000000B0000000000000000000000000011000002818020C8 s x2 := by unfold x2; repeat' first | with_reducible assumption | apply Eq.refl | intro c | (with_reducible first | apply State.set_keeps | apply Keeps.step (State.setChain_keeps ..)) | ((with_reducible apply Has.fam (CHN_STAT_LLINK_cls ..)); exact Eq.refl true) | ((with_reducible apply Has.fam (CHN_STAT_HLINK_cls ..)); exact Eq.refl true) | split
  try clear_value x2
  have h4 : Keeps 0x10E3C8000000000000000000000000000000000000000000000000000000000B0000000000000000000000000011000002818020C8 s x3 := by unfold x3; repeat' first | with_reducible assumption | apply Eq.refl | intro c | (with_reducible first | apply State.set_keeps | apply Keeps.step (State.setChain_keeps ..) | apply Keeps.step (State.dropBeyond_keeps ..) | apply Keeps.step (State.becomeOrphan_keeps ..) | apply Keeps.ite) | ((with_reducible apply Has.fam (CHN_STAT_LLINK_cls ..)); exact Eq.refl true) | ((with_reducible apply Has.fam (CHN_STAT_HLINK_cls ..)); exact Eq.refl true) | split | extract_lets
  try clear_value x3
  repeat' first | with_reducible assumption | apply Eq.refl | (with_reducible first | apply Keeps.step (State.membersShow_keeps ..) | apply Keeps.ite) | split | extract_lets

theorem State.takeRate_keeps (s : State) (m : TimeMsg) :
    Keeps 0x80000000000000000000000000880008 s (State.takeRate s m) := by
  have h0 : Keeps 0x80000000000000000000000000880008 s s := Keeps.refl _ _
  unfold State.takeRate
  extract_lets _ _ x2
  have h3 : Keeps 0x80000000000000000000000000880008 s x2 := by unfold x2; repeat' first | with_reducible assumption | apply Eq.refl | intro c | (with_reducible first | apply State.set_keeps | apply Keeps.step (State.setChain_keeps ..) | apply Keeps.ite) | ((with_reducible apply Has.fam (STG_FRATE_RATE_cls ..)); exact Eq.refl true) | split
  try clear_value x2
  repeat' first | with_reducible assumption | apply Eq.refl | (with_reducible first | apply Keeps.step (State.askTables_keeps ..) | apply Keeps.ite) | split | extract_lets

theorem State.markOrphan_keeps (s : State) (p : ChainPort) (orphan : Bool) :
    Keeps 0x800000 s (State.markOrphan s p orphan) := by
  have h0 : Keeps 0x800000 s s := Keeps.refl _ _
  unfold State.markOrphan
  repeat' first | with_reducible assumption | apply Eq.refl | with_reducible apply Keeps.step (State.setChain_keeps ..) | split | extract_lets

theorem State.timeMsg_keeps (s : State) (m : TimeMsg) :
    Keeps 0x80000600000000000000000000000000000000000000000000000000000000000000000000080000000000000000000000080880008 s (State.timeMsg s m) := by
  have h0 : Keeps 0x80000600000000000000000000000000000000000000000000000000000000000000000000080000000000000000000000080880008 s s := Keeps.refl _ _
  unfold State.timeMsg
  extract_lets x0 _ x2 x3
  have h1 : Keeps 0x80000600000000000000000000000000000000000000000000000000000000000000000000080000000000000000000000080880008 s x0 := by unfold x0; repeat' first | with_reducible assumption | apply Eq.refl | with_reducible apply Keeps.step (State.markOrphan_keeps ..)
  try clear_value x0
  have h3 : Keeps 0x80000600000000000000000000000000000000000000000000000000000000000000000000080000000000000000000000080880008 s x2 := by unfold x2; repeat' first | with_reducible assumption | apply Eq.refl | with_reducible apply Keeps.step (State.setChain_keeps ..)
  try clear_value x2
  have h4 : Keeps 0x80000600000000000000000000000000000000000000000000000000000000000000000000080000000000000000000000080880008 s x3 := by unfold x3; repeat' first | with_reducible assumption | apply Eq.refl | intro c | (with_reducible first | apply Keeps.step (State.takeRate_keeps ..) | apply State.set_keeps) | ((with_reducible apply Has.fam (CHN_RUN_RUN_cls ..)); exact Eq.refl true) | ((with_reducible apply Has.fam (CHN_STAT_MSTIDX_cls ..)); exact Eq.refl true)
  try clear_value x3
  repeat' first | with_reducible assumption | apply Eq.refl | (with_reducible first | apply Keeps.step (State.membersShow_keeps ..) | apply Keeps.step (State.markOrphan_keeps ..) | apply Keeps.step (State.chainSend_keeps ..) | apply Keeps.ite) | split | extract_lets

theorem State.hitch_keeps (s : State) (d : ℤ) :
    Keeps 0xC020000000000000000000000000000000000000000000000000000000000000000000000000000000000000001000002008000C8 s (State.hitch s d) := by
  have h0 : Keeps 0xC020000000000000000000000000000000000000000000000000000000000000000000000000000000000000001000002008000C8 s s := Keeps.refl _ _
  unfold State.hitch
  extract_lets _ x1
  have h2 : Keeps 0xC020000000000000000000000000000000000000000000000000000000000000000000000000000000000000001000002008000C8 s x1 := by unfold x1; repeat' first | with_reducible assumption | apply Eq.refl | with_reducible apply Keeps.step (State.setChain_keeps ..)
  try clear_value x1
  repeat' first | with_reducible assumption | apply Eq.refl | intro c | (with_reducible first | apply Keeps.step (State.raise_keeps ..) | apply State.set_keeps | apply State.setS_keeps | apply State.bump_keeps) | ((with_reducible apply Has.fam (CHN_STAT_HITCH_cls ..)); exact Eq.refl true) | ((with_reducible apply Has.fam (CHN_HITCHD_D_cls ..)); exact Eq.refl true) | ((with_reducible apply Has.fam (CHN_HITCHCNT_COUNT_cls ..)); exact Eq.refl true) | extract_lets

theorem State.compareTime_keeps (s : State) (t : ℕ) :
    Keeps 0x1CE248000000000000000000000000000000000000000000000000000000000B0000000000000000000000000011000002818020CC s (State.compareTime s t) := by
  have h0 : Keeps 0x1CE248000000000000000000000000000000000000000000000000000000000B0000000000000000000000000011000002818020CC s s := Keeps.refl _ _
  unfold State.compareTime
  repeat' first | with_reducible assumption | apply Eq.refl | (with_reducible first | apply Keeps.step (State.hitch_keeps ..) | apply Keeps.step (State.becomeOrphan_keeps ..) | apply Keeps.ite) | split | extract_lets | with_reducible apply Keeps.put_time

theorem State.syncPulse_keeps (s : State) (p : ChainPort) :
    Keeps 0x1CE248000000000000000000000000000000000000000000000000000000000B0000000000000000000000000011000002818020CC s (State.syncPulse s p) := by
  have h0 : Keeps 0x1CE248000000000000000000000000000000000000000000000000000000000B0000000000000000000000000011000002818020CC s s := Keeps.refl _ _
  unfold State.syncPulse
  extract_lets _ x1
  have h2 : Keeps 0x1CE248000000000000000000000000000000000000000000000000000000000B0000000000000000000000000011000002818020CC s x1 := by unfold x1; repeat' first | with_reducible assumption | apply Eq.refl | with_reducible apply Keeps.step (State.setChain_keeps ..)
  try clear_value x1
  repeat' first | with_reducible assumption | apply Eq.refl | (with_reducible first | apply Keeps.step (State.setChain_keeps ..) | apply Keeps.step (State.chainSend_keeps ..) | apply Keeps.step (State.compareTime_keeps ..) | apply Keeps.ite) | split | extract_lets

theorem State.slewStep_keeps (s : State) :
    Keeps 0x200000000000000000000000000000000000000000000000000000000000000000000000000000000000000000000000080000C s (State.slewStep s) := by
  have h0 : Keeps 0x200000000000000000000000000000000000000000000000000000000000000000000000000000000000000000000000080000C s s := Keeps.refl _ _
  unfold State.slewStep
  extract_lets _ x1 _ _ x4
  have h2 : Keeps 0x200000000000000000000000000000000000000000000000000000000000000000000000000000000000000000000000080000C s x1 := by unfold x1; repeat' first | with_reducible assumption | apply Eq.refl | with_reducible apply Keeps.ite | split | with_reducible apply Keeps.put_time
  try clear_value x1
  have h5 : Keeps 0x200000000000000000000000000000000000000000000000000000000000000000000000000000000000000000000000080000C s x4 := by unfold x4; repeat' first | with_reducible assumption | apply Eq.refl | with_reducible apply Keeps.step (State.setChain_keeps ..)
  try clear_value x4
  repeat' first | with_reducible assumption | apply Eq.refl | intro c | (with_reducible first | apply State.set_keeps | apply Keeps.ite) | ((with_reducible apply Has.fam (CHN_STAT_HITCH_cls ..)); exact Eq.refl true) | split | extract_lets

theorem State.echoBack_keeps (s : State) (p : ChainPort) (roundTrip : ℕ) :
    Keeps 0x300000000000000000000000000000000000000000000000000000000000000000000000000000000000000000000000000000008 s (State.echoBack s p roundTrip) := by
  have h0 : Keeps 0x300000000000000000000000000000000000000000000000000000000000000000000000000000000000000000000000000000008 s s := Keeps.refl _ _
  unfold State.echoBack
  repeat' first | with_reducible assumption | apply Eq.refl | intro c | (with_reducible first | apply State.set_keeps | apply Keeps.ite) | ((with_reducible apply Has.fam (CHN_DELAY_L_cls ..)); exact Eq.refl true) | ((with_reducible apply Has.fam (CHN_DELAY_H_cls ..)); exact Eq.refl true) | split

theorem State.askMaster_keeps (s : State) :
    Keeps 0x80800000 s (State.askMaster s).1 := by
  have h0 : Keeps 0x80800000 s s := Keeps.refl _ _
  unfold State.askMaster
  extract_lets _ x1
  have h2 : Keeps 0x80800000 s x1 := by unfold x1; repeat' first | with_reducible assumption | apply Eq.refl | with_reducible apply Keeps.step (State.setChain_keeps ..)
  try clear_value x1
  repeat' first | with_reducible assumption | apply Eq.refl | (with_reducible first | apply Keeps.step (State.chainSend_keeps ..) | apply Keeps.ite) | split | extract_lets

theorem State.takeGiven_keeps (s : State) :
    Keeps 0xE0000640000000000000000000000000000000000000000000000000000000000000000000000000000000000000000080802008 s (State.takeGiven s) := by
  have h0 : Keeps 0xE0000640000000000000000000000000000000000000000000000000000000000000000000000000000000000000000080802008 s s := Keeps.refl _ _
  unfold State.takeGiven
  repeat' first | with_reducible assumption | apply Eq.refl | intro c | (with_reducible first | apply Keeps.step (State.setChain_keeps ..) | apply State.set_keeps | apply Keeps.step (State.grantPump_keeps ..) | apply State.setB_keeps) | ((with_reducible apply Has.fam (ETH_PTPOFS_HI_OFS_cls ..)); exact Eq.refl true) | ((with_reducible apply Has.fam (ETH_PTPOFS_LO_OFS_cls ..)); exact Eq.refl true) | ((with_reducible apply Has.fam (ETH_PTPSTAT_OFSVALID_cls ..)); exact Eq.refl true) | split | extract_lets

theorem State.handoverMsg_keeps (s : State) (sender : ℕ) (give : Option Mastership) :
    Keeps 0xE0000640000000000000000000000000000000000000000000000000000000000000000000000000000000000000000080802008 s (State.handoverMsg s sender give) := by
  have h0 : Keeps 0xE0000640000000000000000000000000000000000000000000000000000000000000000000000000000000000000000080802008 s s := Keeps.refl _ _
  unfold State.handoverMsg
  repeat' first | with_reducible assumption | apply Eq.refl | (with_reducible first | apply Keeps.step (State.setChain_keeps ..) | apply Keeps.step (State.takeGiven_keeps ..) | apply Keeps.step (State.chainSend_keeps ..) | apply Keeps.ite) | split | extract_lets

theorem State.masterStep_keeps (s : State) :
    Keeps 0xE0680640000000000000000000000000000000000000000000000000000000000000000000000000000000001000000080802008 s (State.masterStep s) := by
  have h0 : Keeps 0xE0680640000000000000000000000000000000000000000000000000000000000000000000000000000000001000000080802008 s s := Keeps.refl _ _
  unfold State.masterStep
  extract_lets _ x1
  have h2 : Keeps 0xE0680640000000000000000000000000000000000000000000000000000000000000000000000000000000001000000080802008 s x1 := by unfold x1; repeat' first | with_reducible assumption | apply Eq.refl | with_reducible apply Keeps.step (State.setChain_keeps ..)
  try clear_value x1
  repeat' first | with_reducible assumption | apply Eq.refl | intro c | (with_reducible first | apply Keeps.step (State.takeGiven_keeps ..) | apply Keeps.step (State.becomeMaster_keeps ..) | apply Keeps.step (State.chainSend_keeps ..) | apply Keeps.step (State.setChain_keeps ..) | apply Keeps.step (State.grantShow_keeps ..) | apply Keeps.step (State.setChainState_keeps ..) | apply State.set_keeps | apply Keeps.ite) | ((with_reducible apply Has.fam (CHN_STAT_MSTIDX_cls ..)); exact Eq.refl true) | split | extract_lets

theorem State.masterSend_keeps (s : State) :
    Keeps 0x80000000 s (State.masterSend s) := by
  have h0 : Keeps 0x80000000 s s := Keeps.refl _ _
  unfold State.masterSend
  repeat' first | with_reducible assumption | apply Eq.refl | (with_reducible first | apply Keeps.step (State.chainSend_keeps ..) | apply Keeps.ite) | split | extract_lets

theorem State.toMaster_keeps {m : Nat} {a s : State} {g : ChainMsg} {f : State → State} (h : Keeps m a s)
    (hm : 0x80000000 &&& m = 0x80000000) (hf : ∀ y, Keeps m a y → Keeps m a (f y)) : Keeps m a (s.toMaster g f) := by
  unfold State.toMaster
  split
  · exact hf _ h
  · split
    · exact Keeps.comp (State.chainSend_keeps ..) hm h
    · exact h

theorem State.grantMsg_keeps (s : State) (target : ℕ) (boundary : ℕ) :
    Keeps 0x80002000 s (State.grantMsg s target boundary) := by
  have h0 : Keeps 0x80002000 s s := Keeps.refl _ _
  unfold State.grantMsg
  repeat' first | with_reducible assumption | apply Eq.refl | (with_reducible first | apply Keeps.step (State.takeGrant_keeps ..) | apply Keeps.step (State.chainSend_keeps ..) | apply Keeps.ite) | split

theorem State.grantMax_keeps (s : State) :
    Keeps 0xE00000000000000000000000000000000000000000000000000000000000000000000000000000000000000001000002808020CC s (State.grantMax s) := by
  have h0 : Keeps 0xE00000000000000000000000000000000000000000000000000000000000000000000000000000000000000001000002808020CC s s := Keeps.refl _ _
  unfold State.grantMax
  repeat' first | with_reducible assumption | apply Eq.refl | (with_reducible first | apply Keeps.step (State.advance_keeps ..) | apply Keeps.step (State.setChain_keeps ..) | apply Keeps.step (State.grantPump_keeps ..) | apply Keeps.step (State.raise_keeps ..)) | split | extract_lets

theorem State.countOvr_keeps (s : State) (n : ℕ) (g : ℕ) (xs : List (ℕ × Bool)) (words : List ℕ) :
    Keeps 0x4000000008 s (State.countOvr s n g xs words) := by
  have h0 : Keeps 0x4000000008 s s := Keeps.refl _ _
  unfold State.countOvr
  extract_lets _ x1 x2
  have h2 : Keeps 0x4000000008 s x1 := by unfold x1; repeat' first | with_reducible assumption | apply Eq.refl | intro c | with_reducible apply State.bumpBy_keeps | ((with_reducible apply Has.fam (TIL_OVRCNT_COUNT_cls ..)); exact Eq.refl true)
  try clear_value x1
  have h3 : Keeps 0x4000000008 s x2 := by unfold x2; repeat' first | with_reducible assumption | apply Eq.refl | intro c | (with_reducible first | apply State.setB_keeps | apply State.set_keeps) | ((with_reducible apply Has.fam (TIL_OVRLAST_LOW_cls ..)); exact Eq.refl true) | ((with_reducible apply Has.fam (TIL_OVRLAST_SLICE_cls ..)); exact Eq.refl true) | ((with_reducible apply Has.fam (TIL_OVRLAST_RGRP_cls ..)); exact Eq.refl true) | ((with_reducible apply Has.fam (TIL_OVRLAST_LANE_cls ..)); exact Eq.refl true) | split
  try clear_value x2
  repeat' first | with_reducible assumption | apply Eq.refl | intro c | (with_reducible first | apply State.bump_keeps | apply Keeps.ite) | ((with_reducible apply Has.fam (TIL_REFDCNT_COUNT_cls ..)); exact Eq.refl true) | split | extract_lets

theorem State.sendGroup_keeps (s : State) (n : ℕ) (h : Header) (raw : List ℤ) :
    Keeps 0x4000000408 s (State.sendGroup s n h raw) := by
  have h0 : Keeps 0x4000000408 s s := Keeps.refl _ _
  unfold State.sendGroup
  extract_lets _ _ _ _ _ _ x6
  have h7 : Keeps 0x4000000408 s x6 := by unfold x6; repeat' first | with_reducible assumption | apply Eq.refl | (with_reducible first | apply Keeps.step (State.countOvr_keeps ..) | apply Keeps.ite) | split
  try clear_value x6
  repeat' first | with_reducible assumption | apply Eq.refl | (with_reducible first | apply Keeps.step (State.setTile_keeps ..) | apply Keeps.ite) | split | extract_lets

theorem State.rowSlot_keeps (s : State) (n : ℕ) (raw : List ℤ) :
    Keeps 0x400000040C s (State.rowSlot s n raw) := by
  have h0 : Keeps 0x400000040C s s := Keeps.refl _ _
  unfold State.rowSlot
  extract_lets _ x1 x2 x3 x4
  try clear_value x1
  try clear_value x2
  have h4 : Keeps 0x400000040C s x3 := by unfold x3; repeat' first | with_reducible assumption | apply Eq.refl | (with_reducible first | apply Keeps.step (State.advance_keeps ..) | apply Keeps.ite) | split
  try clear_value x3
  have h5 : Keeps 0x400000040C s x4 := by unfold x4; repeat' first | with_reducible assumption | apply Eq.refl | with_reducible apply Keeps.step (State.sendGroup_keeps ..) | split
  try clear_value x4
  repeat' first | with_reducible assumption | apply Eq.refl | (with_reducible first | apply Keeps.step (State.setTile_keeps ..) | apply Keeps.ite) | split | extract_lets

theorem State.putFactor_keeps (s : State) (n : ℕ) (k : ℕ) (f : Factor) (fault : Bool) :
    Keeps 0x1000002000004C8 s (State.putFactor s n k f fault) := by
  have h0 : Keeps 0x1000002000004C8 s s := Keeps.refl _ _
  unfold State.putFactor
  extract_lets x0
  have h1 : Keeps 0x1000002000004C8 s x0 := by unfold x0; repeat' first | with_reducible assumption | apply Eq.refl | with_reducible apply Keeps.step (State.setTile_keeps ..)
  try clear_value x0
  repeat' first | with_reducible assumption | apply Eq.refl | (with_reducible first | apply Keeps.step (State.raise_keeps ..) | apply Keeps.ite) | split

theorem State.swapEntry_keeps (s : State) (n : ℕ) (i : ℕ) (k : ℕ) (park : Bool) (cSlice : ℤ) (cSpare : ℤ) :
    Keeps 0x4000000408 s (State.swapEntry s n i k park cSlice cSpare) := by
  have h0 : Keeps 0x4000000408 s s := Keeps.refl _ _
  unfold State.swapEntry
  repeat' first | with_reducible assumption | apply Eq.refl | (with_reducible first | apply Keeps.step (State.tileReport_keeps ..) | apply Keeps.step (State.setTile_keeps ..)) | extract_lets

theorem State.swapExit_keeps (s : State) (n : ℕ) (i : ℕ) (cSlice : ℤ) (cSpare : ℤ) (gain : ℤ) (ofs : ℤ) :
    Keeps 0x1000042000004C8 s (State.swapExit s n i cSlice cSpare gain ofs) := by
  have h0 : Keeps 0x1000042000004C8 s s := Keeps.refl _ _
  unfold State.swapExit
  extract_lets _ _ _ _ _ _ _ _ _ _ _ _ x12 x13
  have h13 : Keeps 0x1000042000004C8 s x12 := by unfold x12; repeat' first | with_reducible assumption | apply Eq.refl | intro c | (with_reducible first | apply State.set_keeps | apply State.setS_keeps) | ((with_reducible apply Has.fam (TIL_SWAPDIFF_MAXABS_cls ..)); exact Eq.refl true) | ((with_reducible apply Has.fam (TIL_SWAPDIFF_LAST_cls ..)); exact Eq.refl true)
  try clear_value x12
  have h14 : Keeps 0x1000042000004C8 s x13 := by unfold x13; repeat' first | with_reducible assumption | apply Eq.refl | with_reducible apply Keeps.step (State.putFactor_keeps ..)
  try clear_value x13
  repeat' first | with_reducible assumption | apply Eq.refl | (with_reducible first | apply Keeps.step (State.tileReport_keeps ..) | apply Keeps.step (State.setTile_keeps ..) | apply Keeps.ite) | split | extract_lets

theorem State.handover_keeps (s : State) (n : ℕ) (i : ℕ) (cSlice : ℤ) (cSpare : ℤ) (gain : ℤ) (ofs : ℤ) :
    Keeps 0x1000042000004CC s (State.handover s n i cSlice cSpare gain ofs) := by
  have h0 : Keeps 0x1000042000004CC s s := Keeps.refl _ _
  unfold State.handover
  repeat' first | with_reducible assumption | apply Eq.refl | (with_reducible first | apply Keeps.step (State.swapEntry_keeps ..) | apply Keeps.step (State.advance_keeps ..) | apply Keeps.step (State.swapExit_keeps ..) | apply Keeps.ite) | split | extract_lets

theorem State.rotenW_keeps (s : State) (n : ℕ) (en : Bool) :
    Keeps 0x4000000408 s (State.rotenW s n en) := by
  have h0 : Keeps 0x4000000408 s s := Keeps.refl _ _
  unfold State.rotenW
  extract_lets x0
  have h1 : Keeps 0x4000000408 s x0 := by unfold x0; repeat' first | with_reducible assumption | apply Eq.refl | intro c | with_reducible apply State.setB_keeps | ((with_reducible apply Has.fam (TIL_CVCTRL_ROTEN_cls ..)); exact Eq.refl true)
  try clear_value x0
  repeat' first | with_reducible assumption | apply Eq.refl | (with_reducible first | apply Keeps.step (State.startRotation_keeps ..) | apply Keeps.step (State.stopRotation_keeps ..) | apply Keeps.ite) | split

theorem State.parkS_keeps (s : State) (n : ℕ) (k : ℕ) (i : ℕ) :
    Keeps 0x800000000000000000000000004000000408 s (State.parkS s n k i) := by
  have h0 : Keeps 0x800000000000000000000000004000000408 s s := Keeps.refl _ _
  unfold State.parkS
  extract_lets x0
  have h1 : Keeps 0x800000000000000000000000004000000408 s x0 := by unfold x0; repeat' first | with_reducible assumption | apply Eq.refl | intro c | with_reducible apply State.set_keeps | ((with_reducible apply Has.fam (TIL_SUBST_SPARE_cls ..)); exact Eq.refl true) | ((with_reducible apply Has.fam (TIL_SUBST_SLICE_cls ..)); exact Eq.refl true)
  try clear_value x0
  repeat' first | with_reducible assumption | apply Eq.refl | (with_reducible first | apply Keeps.step (State.cfgErr_keeps ..) | apply Keeps.step (State.setTile_keeps ..) | apply Keeps.ite) | split | extract_lets

theorem State.releaseS_keeps (s : State) (n : ℕ) (i : ℕ) :
    Keeps 0x4000000408 s (State.releaseS s n i) := by
  have h0 : Keeps 0x4000000408 s s := Keeps.refl _ _
  unfold State.releaseS
  extract_lets x0
  have h1 : Keeps 0x4000000408 s x0 := by unfold x0; repeat' first | with_reducible assumption | apply Eq.refl | intro c | with_reducible apply State.set_keeps | ((with_reducible apply Has.fam (TIL_SUBST_SPARE_cls ..)); exact Eq.refl true)
  try clear_value x0
  repeat' first | with_reducible assumption | apply Eq.refl | (with_reducible first | apply Keeps.step (State.setTile_keeps ..) | apply Keeps.ite) | split | extract_lets

theorem State.scalStart_keeps (s : State) (n : ℕ) :
    Keeps 0x800000000000000000000000004000000408 s (State.scalStart s n) := by
  have h0 : Keeps 0x800000000000000000000000004000000408 s s := Keeps.refl _ _
  unfold State.scalStart
  repeat' first | with_reducible assumption | apply Eq.refl | (with_reducible first | apply Keeps.step (State.cfgErr_keeps ..) | apply Keeps.step (State.stagePut_keeps ..) | apply Keeps.step (State.scalBegin_keeps ..) | apply Keeps.ite) | split

theorem State.scalDone_keeps (s : State) (n : ℕ) (fs : List (ℤ × ℤ)) :
    Keeps 0x1000042000004C8 s (State.scalDone s n fs) := by
  have h0 : Keeps 0x1000042000004C8 s s := Keeps.refl _ _
  unfold State.scalDone
  extract_lets _ _ _ x3 x4 x5 x6
  have h4 : Keeps 0x1000042000004C8 s x3 := by unfold x3; repeat' first | with_reducible assumption | apply Eq.refl | with_reducible apply Keeps.step (State.setTile_keeps ..)
  try clear_value x3
  have h5 : Keeps 0x1000042000004C8 s x4 := by unfold x4; repeat' first | with_reducible assumption | apply Eq.refl | intro c | with_reducible apply State.set_keeps | ((with_reducible apply Has.fam (TIL_CVSTAT_SCAL_DONE_cls ..)); exact Eq.refl true) | ((with_reducible apply Has.fam (TIL_CVSTAT_SCAL_BUSY_cls ..)); exact Eq.refl true)
  try clear_value x4
  have h6 : Keeps 0x1000042000004C8 s x5 := by unfold x5; repeat' first | with_reducible assumption | apply Eq.refl | intro c | (with_reducible first | apply State.set_keeps | apply Keeps.ite) | ((with_reducible apply Has.fam (TIL_CVSTAT_SCAL_FAIL_cls ..)); exact Eq.refl true) | split
  try clear_value x5
  have h7 : Keeps 0x1000042000004C8 s x6 := by unfold x6; repeat' first | with_reducible assumption | apply Eq.refl | (with_reducible first | apply Keeps.step (State.raise_keeps ..) | apply Keeps.step (State.tileReport_keeps ..))
  try clear_value x6
  repeat' first | with_reducible assumption | apply Eq.refl | (with_reducible first | apply Keeps.step (State.startRotation_keeps ..) | apply Keeps.ite) | split | extract_lets

theorem State.cfAdvance_keeps (s : State) (n : ℕ) :
    Keeps 0x4000000008 s (State.cfAdvance s n) := by
  have h0 : Keeps 0x4000000008 s s := Keeps.refl _ _
  unfold State.cfAdvance
  repeat' first | with_reducible assumption | apply Eq.refl | intro c | (with_reducible first | apply State.incr_keeps | apply Keeps.ite) | ((with_reducible apply Has.fam (TIL_CFSEL_INDEX_cls ..)); exact Eq.refl true) | split

theorem State.cfdataW_keeps (s : State) (n : ℕ) (v : Word) :
    Keeps 0x8C00400000000000000000000004000000408 s (State.cfdataW s n v) := by
  have h0 : Keeps 0x8C00400000000000000000000004000000408 s s := Keeps.refl _ _
  unfold State.cfdataW
  extract_lets _ _ x2
  have h3 : Keeps 0x8C00400000000000000000000004000000408 s x2 := by unfold x2; repeat' first | with_reducible assumption | apply Eq.refl | (with_reducible first | apply Keeps.step (State.cfgErr_keeps ..) | apply Keeps.step (State.stagePut_keeps ..) | apply Keeps.step (State.applySetting_keeps ..) | apply Keeps.ite) | split
  try clear_value x2
  repeat' first | with_reducible assumption | apply Eq.refl | with_reducible apply Keeps.step (State.cfAdvance_keeps ..) | extract_lets

theorem State.tpCheck_keeps (s : State) (n : ℕ) (g : RowGroup) :
    Keeps 0x3C00000000000000000000000000000000000000000000000000000000000000000000000000000000000000000000000000000000000000008 s (State.tpCheck s n g) := by
  have h0 : Keeps 0x3C00000000000000000000000000000000000000000000000000000000000000000000000000000000000000000000000000000000000000008 s s := Keeps.refl _ _
  unfold State.tpCheck
  repeat' first | with_reducible assumption | apply Eq.refl | intro c | (with_reducible first | apply State.set_keeps | apply State.bump_keeps | apply Keeps.ite | apply Keeps.foldl) | ((with_reducible apply Has.fam (TMX_TPERR_RGRP_cls ..)); exact Eq.refl true) | ((with_reducible apply Has.fam (TMX_TPERR_LANE_cls ..)); exact Eq.refl true) | ((with_reducible apply Has.fam (TMX_TPERR_TILE_cls ..)); exact Eq.refl true) | ((with_reducible apply Has.fam (TMX_TPERR_COUNT_cls ..)); exact Eq.refl true) | split | extract_lets

theorem State.tpCapture_keeps (s : State) (n : ℕ) (frame : ℕ) (g : RowGroup) :
    Keeps 0x100000000000000000000000000000000000000000000000000000000000000000000000000000000000000000000000000000000000010008 s (State.tpCapture s n frame g) := by
  have h0 : Keeps 0x100000000000000000000000000000000000000000000000000000000000000000000000000000000000000000000000000000000000010008 s s := Keeps.refl _ _
  unfold State.tpCapture
  extract_lets _ _ _ _ _ x5
  have h6 : Keeps 0x100000000000000000000000000000000000000000000000000000000000000000000000000000000000000000000000000000000000010008 s x5 := by unfold x5; repeat' first | with_reducible assumption | apply Eq.refl | with_reducible apply Keeps.put_tmx
  try clear_value x5
  repeat' first | with_reducible assumption | apply Eq.refl | intro c | (with_reducible first | apply State.set_keeps | apply Keeps.ite) | ((with_reducible apply Has.fam (TMX_TPSTAT_CAPDONE_cls ..)); exact Eq.refl true) | split | extract_lets

theorem State.take_keeps (s : State) (n : ℕ) (g : RowGroup) (inv : Bool) :
    Keeps 0x100000000000000000000000000000000000000000000000000000000000000000000000000000000000000000000000000000004000010408 s (State.take s n g inv) := by
  have h0 : Keeps 0x100000000000000000000000000000000000000000000000000000000000000000000000000000000000000000000000000000004000010408 s s := Keeps.refl _ _
  unfold State.take
  extract_lets _ _ x2
  have h3 : Keeps 0x100000000000000000000000000000000000000000000000000000000000000000000000000000000000000000000000000000004000010408 s x2 := by unfold x2; repeat' first | with_reducible assumption | apply Eq.refl | intro c | (with_reducible first | apply Keeps.step (State.tpCapture_keeps ..) | apply State.bump_keeps | apply Keeps.ite) | ((with_reducible apply Has.fam (TIL_TXINVCNT_COUNT_cls ..)); exact Eq.refl true) | split
  try clear_value x2
  repeat' first | with_reducible assumption | apply Eq.refl | with_reducible apply Keeps.step (State.setRx_keeps ..) | extract_lets

theorem State.supply_keeps (s : State) (n : ℕ) :
    Keeps 0x100000000000000000000000000000000000000000000000000000000000000000000000000000000000000000000000000000004000010408 s (State.supply s n) := by
  have h0 : Keeps 0x100000000000000000000000000000000000000000000000000000000000000000000000000000000000000000000000000000004000010408 s s := Keeps.refl _ _
  unfold State.supply
  repeat' first | with_reducible assumption | apply Eq.refl | with_reducible apply Keeps.step (State.take_keeps ..)

theorem State.anchor_keeps (s : State) (n : ℕ) (p : ℕ × ℕ) :
    Keeps 0x100000000000000000000000000000000000000000000000000000000000000000000000000000000000000000000000000000004000010408 s (State.anchor s n p) := by
  have h0 : Keeps 0x100000000000000000000000000000000000000000000000000000000000000000000000000000000000000000000000000000004000010408 s s := Keeps.refl _ _
  unfold State.anchor
  repeat' first | with_reducible assumption | apply Eq.refl | intro c | (with_reducible first | apply Keeps.step (State.setRx_keeps ..) | apply Keeps.step (State.supply_keeps ..) | apply Keeps.ite | apply Keeps.foldl) | split | extract_lets

theorem State.groupFaults_keeps (s : State) (n : ℕ) (frame : ℕ) (stamp : ℕ) (overflow : Bool) (crcBad : Bool) (hdrBad : Bool) :
    Keeps 0x1000042000004C8 s (State.groupFaults s n frame stamp overflow crcBad hdrBad) := by
  have h0 : Keeps 0x1000042000004C8 s s := Keeps.refl _ _
  unfold State.groupFaults
  extract_lets x0 x1
  have h1 : Keeps 0x1000042000004C8 s x0 := by unfold x0; repeat' first | with_reducible assumption | apply Eq.refl | (with_reducible first | apply Keeps.step (State.slip_keeps ..) | apply Keeps.ite) | split
  try clear_value x0
  have h2 : Keeps 0x1000042000004C8 s x1 := by unfold x1; repeat' first | with_reducible assumption | apply Eq.refl | intro c | (with_reducible first | apply State.bump_keeps | apply Keeps.step (State.rxFault_keeps ..) | apply Keeps.ite) | ((with_reducible apply Has.fam (TIL_TXCRCCNT_COUNT_cls ..)); exact Eq.refl true) | split
  try clear_value x1
  repeat' first | with_reducible assumption | apply Eq.refl | intro c | (with_reducible first | apply State.bump_keeps | apply Keeps.step (State.rxFault_keeps ..) | apply Keeps.ite) | ((with_reducible apply Has.fam (TIL_TXCRCCNT_COUNT_cls ..)); exact Eq.refl true) | split

theorem State.receive_keeps (s : State) (n : ℕ) (given : Option RowGroup) (overflow : Bool) :
    Keeps 0x3D000000000000000000000000000000000000000000000000000000000000000000000000000000000000000000000000001000042000104C8 s (State.receive s n given overflow) := by
  have h0 : Keeps 0x3D000000000000000000000000000000000000000000000000000000000000000000000000000000000000000000000000001000042000104C8 s s := Keeps.refl _ _
  unfold State.receive
  extract_lets x0 x1 x2 x3 x4 x5 x6 x7 x8 x9 x10 x11 x12 x13 x14 x15
  try clear_value x0
  try clear_value x1
  try clear_value x2
  try clear_value x3
  try clear_value x4
  try clear_value x5
  try clear_value x6
  have h8 : Keeps 0x3D000000000000000000000000000000000000000000000000000000000000000000000000000000000000000000000000001000042000104C8 s x7 := by unfold x7; repeat' first | with_reducible assumption | apply Eq.refl | (with_reducible first | apply Keeps.step (State.anchor_keeps ..) | apply Keeps.step (State.setTile_keeps ..) | apply Keeps.ite) | split
  try clear_value x7
  have h9 : Keeps 0x3D000000000000000000000000000000000000000000000000000000000000000000000000000000000000000000000000001000042000104C8 s x8 := by unfold x8; repeat' first | with_reducible assumption | apply Eq.refl | (with_reducible first | apply Keeps.step (State.occurAt_keeps ..) | apply Keeps.ite) | split
  try clear_value x8
  try clear_value x9
  try clear_value x10
  try clear_value x11
  try clear_value x12
  have h14 : Keeps 0x3D000000000000000000000000000000000000000000000000000000000000000000000000000000000000000000000000001000042000104C8 s x13 := by unfold x13; repeat' first | with_reducible assumption | apply Eq.refl | with_reducible apply Keeps.step (State.groupFaults_keeps ..)
  try clear_value x13
  have h15 : Keeps 0x3D000000000000000000000000000000000000000000000000000000000000000000000000000000000000000000000000001000042000104C8 s x14 := by unfold x14; repeat' first | with_reducible assumption | apply Eq.refl | intro c | (with_reducible first | apply State.set_keeps | apply Keeps.ite) | ((with_reducible apply Has.fam (TIL_TXSTAT_ALIGNED_cls ..)); exact Eq.refl true) | ((with_reducible apply Has.fam (TIL_TXSTAT_LOCK_cls ..)); exact Eq.refl true) | split
  try clear_value x14
  have h16 : Keeps 0x3D000000000000000000000000000000000000000000000000000000000000000000000000000000000000000000000000001000042000104C8 s x15 := by unfold x15; repeat' first | with_reducible assumption | apply Eq.refl | (with_reducible first | apply Keeps.step (State.tpCheck_keeps ..) | apply Keeps.ite) | split
  try clear_value x15
  repeat' first | with_reducible assumption | apply Eq.refl | (with_reducible first | apply Keeps.step (State.take_keeps ..) | apply Keeps.ite) | split

theorem State.tetherRealignS_keeps (s : State) (n : ℕ) :
    Keeps 0x4000000408 s (State.tetherRealignS s n) := by
  have h0 : Keeps 0x4000000408 s s := Keeps.refl _ _
  unfold State.tetherRealignS
  repeat' first | with_reducible assumption | apply Eq.refl | (with_reducible first | apply Keeps.step (State.realign_keeps ..) | apply Keeps.ite) | split

theorem State.realignTimeout_keeps (s : State) (n : ℕ) :
    Keeps 0x1000002000004C8 s (State.realignTimeout s n) := by
  have h0 : Keeps 0x1000002000004C8 s s := Keeps.refl _ _
  unfold State.realignTimeout
  repeat' first | with_reducible assumption | apply Eq.refl | (with_reducible first | apply Keeps.step (State.raise_keeps ..) | apply Keeps.step (State.setRx_keeps ..) | apply Keeps.ite) | split | extract_lets

theorem State.alignS_keeps (s : State) (n : ℕ) (frame : ℕ) (headerOk : Bool) :
    Keeps 0x100000000000000000000000000000000000000000000000000000000000000000000000000000000000000000000000000000004000010408 s (State.alignS s n frame headerOk) := by
  have h0 : Keeps 0x100000000000000000000000000000000000000000000000000000000000000000000000000000000000000000000000000000004000010408 s s := Keeps.refl _ _
  unfold State.alignS
  extract_lets x0
  have h1 : Keeps 0x100000000000000000000000000000000000000000000000000000000000000000000000000000000000000000000000000000004000010408 s x0 := by unfold x0; repeat' first | with_reducible assumption | apply Eq.refl | with_reducible apply Keeps.step (State.anchor_keeps ..)
  try clear_value x0
  repeat' first | with_reducible assumption | apply Eq.refl | (with_reducible first | apply Keeps.step (State.realign_keeps ..) | apply Keeps.ite) | split

theorem State.lockLoss_keeps (s : State) (n : ℕ) (counted : Bool) :
    Keeps 0x1000042000004C8 s (State.lockLoss s n counted) := by
  have h0 : Keeps 0x1000042000004C8 s s := Keeps.refl _ _
  unfold State.lockLoss
  repeat' first | with_reducible assumption | apply Eq.refl | (with_reducible first | apply Keeps.step (State.slip_keeps ..) | apply Keeps.ite) | split

theorem State.laneMessage_keeps (s : State) :
    Keeps 0x400 s (State.laneMessage s) := by
  have h0 : Keeps 0x400 s s := Keeps.refl _ _
  unfold State.laneMessage
  repeat' first | with_reducible assumption | apply Eq.refl | with_reducible apply Keeps.ite | split | extract_lets | with_reducible apply Keeps.put_sensor

theorem State.laneLoss_keeps (s : State) :
    Keeps 0x1000002000004C8 s (State.laneLoss s) := by
  have h0 : Keeps 0x1000002000004C8 s s := Keeps.refl _ _
  unfold State.laneLoss
  repeat' first | with_reducible assumption | apply Eq.refl | with_reducible apply Keeps.step (State.raise_keeps ..) | extract_lets | with_reducible apply Keeps.put_sensor

theorem State.laneRelock_keeps (s : State) :
    Keeps 0x400 s (State.laneRelock s) := by
  have h0 : Keeps 0x400 s s := Keeps.refl _ _
  unfold State.laneRelock
  repeat' first | with_reducible assumption | apply Eq.refl | with_reducible apply Keeps.ite | split | extract_lets | with_reducible apply Keeps.put_sensor

theorem State.setTap_keeps (s : State) (t : Tap) :
    Keeps 0x10000000 s (State.setTap s t) := by
  have h0 : Keeps 0x10000000 s s := Keeps.refl _ _
  unfold State.setTap
  repeat' first | with_reducible assumption | apply Eq.refl | with_reducible apply Keeps.put_tap

theorem State.tapShow_keeps (s : State) :
    Keeps 0xD0000000000000080000000000000000000000000000000000000000000000000000000000000000000001000002000000C8 s (State.tapShow s) := by
  have h0 : Keeps 0xD0000000000000080000000000000000000000000000000000000000000000000000000000000000000001000002000000C8 s s := Keeps.refl _ _
  unfold State.tapShow
  repeat' first | with_reducible assumption | apply Eq.refl | intro c | (with_reducible first | apply Keeps.step (State.ddrShow_keeps ..) | apply Keeps.step (State.tapHaltShow_keeps ..) | apply State.setB_keeps | apply State.set_keeps) | ((with_reducible apply Has.fam (ETH_TAPCTL_BUSY_cls ..)); exact Eq.refl true) | ((with_reducible apply Has.fam (ETH_TAPSTAT_RECSIZE_cls ..)); exact Eq.refl true)

theorem State.grabDone_keeps (s : State) :
    Keeps 0xD0008000000700080000000000000000000000000000000000000000000000000000000000000000000001400002D30002C8 s (State.grabDone s) := by
  have h0 : Keeps 0xD0008000000700080000000000000000000000000000000000000000000000000000000000000000000001400002D30002C8 s s := Keeps.refl _ _
  unfold State.grabDone
  repeat' first | with_reducible assumption | apply Eq.refl | (with_reducible first | apply Keeps.step (State.opFinish_keeps ..) | apply Keeps.step (State.tapShow_keeps ..) | apply Keeps.step (State.setTap_keeps ..)) | split | extract_lets

theorem State.grabCount_keeps (s : State) (took : Option ℕ) :
    Keeps 0xD0008000000700080000000000000000000000000000000000000000000000000000000000000000000001400002D30002C8 s (State.grabCount s took) := by
  have h0 : Keeps 0xD0008000000700080000000000000000000000000000000000000000000000000000000000000000000001400002D30002C8 s s := Keeps.refl _ _
  unfold State.grabCount
  repeat' first | with_reducible assumption | apply Eq.refl | (with_reducible first | apply Keeps.step (State.grabDone_keeps ..) | apply Keeps.step (State.setTap_keeps ..) | apply Keeps.ite) | split | extract_lets

theorem State.tapStage_keeps (s : State) (r : TapRec) :
    Keeps 0x7E0000800000000000000000000000000000000000000000000000000000000000001010002100000D8 s (State.tapStage s r).1 := by
  have h0 : Keeps 0x7E0000800000000000000000000000000000000000000000000000000000000000001010002100000D8 s s := Keeps.refl _ _
  unfold State.tapStage
  repeat' first | with_reducible assumption | apply Eq.refl | intro c | (with_reducible first | apply Keeps.step (State.memRead_keeps ..) | apply Keeps.step (State.draw_keeps ..) | apply Keeps.step (State.setTap_keeps ..) | apply Keeps.ite | apply Keeps.foldl | apply Keeps.foldl_fst) | split | extract_lets

theorem State.tapCommit_keeps (s : State) (r : TapRec) :
    Keeps 0x3F00080000007000807E0000800000000000000000000000000000000000000000000000000000000000001410002D30002D8 s (State.tapCommit s r) := by
  have h0 : Keeps 0x3F00080000007000807E0000800000000000000000000000000000000000000000000000000000000000001410002D30002D8 s s := Keeps.refl _ _
  unfold State.tapCommit
  extract_lets _ _ x2 x3
  have h3 : Keeps 0x3F00080000007000807E0000800000000000000000000000000000000000000000000000000000000000001410002D30002D8 s x2.1 := by unfold x2; repeat' first | with_reducible assumption | apply Eq.refl | with_reducible apply Keeps.step (State.tapStage_keeps ..)
  try clear_value x2
  have h4 : Keeps 0x3F00080000007000807E0000800000000000000000000000000000000000000000000000000000000000001410002D30002D8 s x3 := by unfold x3; repeat' first | with_reducible assumption
  try clear_value x3
  repeat' first | with_reducible assumption | apply Eq.refl | intro c | (with_reducible first | apply Keeps.step (State.grabCount_keeps ..) | apply Keeps.step (State.raise_keeps ..) | apply State.set_keeps | apply State.bump_keeps | apply State.incr_keeps | apply Keeps.step (State.setTap_keeps ..) | apply Keeps.ite) | ((with_reducible apply Has.fam (ETH_TAPSTAT_OVRSEEN_cls ..)); exact Eq.refl true) | ((with_reducible apply Has.fam (ETH_TAPDROP_OVERRUN_cls ..)); exact Eq.refl true) | ((with_reducible apply Has.fam (ETH_TAPWR_INDEX_cls ..)); exact Eq.refl true) | split | extract_lets

theorem State.tapCount_keeps (s : State) :
    Keeps 0x10000000 s (State.tapCount s).1 := by
  have h0 : Keeps 0x10000000 s s := Keeps.refl _ _
  unfold State.tapCount
  repeat' first | with_reducible assumption | apply Eq.refl | (with_reducible first | apply Keeps.step (State.setTap_keeps ..) | apply Keeps.ite) | split | extract_lets

theorem State.tapItem_keeps {m : Nat} {a s : State} {f : State → State} (h : Keeps m a s)
    (hm : 0x4D0008000000700080000000000000000000000000000000000000000000000000000000000000000000001400002D30002C8 &&& m = 0x4D0008000000700080000000000000000000000000000000000000000000000000000000000000000000001400002D30002C8) (hf : ∀ y, Keeps m a y → Keeps m a (f y)) : Keeps m a (s.tapItem f) := by
  have hp : Keeps m a s.tapCount.1 := Keeps.comp (n := 0x4D0008000000700080000000000000000000000000000000000000000000000000000000000000000000001400002D30002C8) (Keeps.comp (State.tapCount_keeps ..) (by decide) (Keeps.refl _ _)) hm h
  unfold State.tapItem
  split
  · exact h
  · extract_lets p
    split
    · exact hp
    · split
      · refine Keeps.comp (n := 0x4D0008000000700080000000000000000000000000000000000000000000000000000000000000000000001400002D30002C8) ?_ hm hp
        exact Keeps.comp (State.grabCount_keeps ..) (by decide) (bumpK (Keeps.refl _ _))
      · exact hf _ hp

theorem State.tapFrame_keeps (s : State) :
    Keeps 0x4D0008000000700080000000000000000000000000000000000000000000000000000000000000000000001400002D30002C8 s (State.tapFrame s) := by
  have h0 : Keeps 0x4D0008000000700080000000000000000000000000000000000000000000000000000000000000000000001400002D30002C8 s s := Keeps.refl _ _
  unfold State.tapFrame
  repeat' first | with_reducible assumption | apply Eq.refl | intro c | (with_reducible first | apply State.tapItem_keeps | apply Keeps.step (State.setTap_keeps ..) | apply Keeps.ite) | split | extract_lets

theorem State.tapGroup_keeps (s : State) (h : Header) (frame : ℕ) (ws : List ℕ) (ys : List Samp) (us : List Unlayed) :
    Keeps 0x3F00080000007000807E0000800000000000000000000000000000000000000000000000000000000000001410002D30002D8 s (State.tapGroup s h frame ws ys us) := by
  have h0 : Keeps 0x3F00080000007000807E0000800000000000000000000000000000000000000000000000000000000000001410002D30002D8 s s := Keeps.refl _ _
  unfold State.tapGroup
  repeat' first | with_reducible assumption | apply Eq.refl | intro c | (with_reducible first | apply Keeps.step (State.tapCommit_keeps ..) | apply Keeps.step (State.setTap_keeps ..) | apply Keeps.ite | apply Keeps.foldl) | split | extract_lets

theorem State.tapSlice_keeps (s : State) (r : Row) :
    Keeps 0x7F00080000007000807E0000800000000000000000000000000000000000000000000000000000000000001410002D30002D8 s (State.tapSlice s r) := by
  have h0 : Keeps 0x7F00080000007000807E0000800000000000000000000000000000000000000000000000000000000000001410002D30002D8 s s := Keeps.refl _ _
  unfold State.tapSlice
  repeat' first | with_reducible assumption | apply Eq.refl | intro c | (with_reducible first | apply State.tapItem_keeps | apply Keeps.step (State.tapCommit_keeps ..) | apply Keeps.ite | apply Keeps.foldl) | split | extract_lets

theorem State.grabStart_keeps (s : State) (n : ℕ) :
    Keeps 0xD0000000000000080000000000000000000000000000000000000000000000000000000000000000000001000002100000C8 s (State.grabStart s n) := by
  have h0 : Keeps 0xD0000000000000080000000000000000000000000000000000000000000000000000000000000000000001000002100000C8 s s := Keeps.refl _ _
  unfold State.grabStart
  repeat' first | with_reducible assumption | apply Eq.refl | (with_reducible first | apply Keeps.step (State.tapShow_keeps ..) | apply Keeps.step (State.setTap_keeps ..)) | extract_lets

theorem State.grabAbort_keeps (s : State) :
    Keeps 0xD0008000000700080000000000000000000000000000000000000000000000000000000000000000000001400002D30002C8 s (State.grabAbort s) := by
  have h0 : Keeps 0xD0008000000700080000000000000000000000000000000000000000000000000000000000000000000001400002D30002C8 s s := Keeps.refl _ _
  unfold State.grabAbort
  repeat' first | with_reducible assumption | apply Eq.refl | (with_reducible first | apply Keeps.step (State.opFinish_keeps ..) | apply Keeps.step (State.tapShow_keeps ..) | apply Keeps.step (State.setTap_keeps ..)) | extract_lets

theorem State.writeOne_keeps {m : Nat} {a s : State} {v hw : Nat} {f : Fld} (h : Keeps m a s)
    (hf : f.ty ≠ .ro → Has m f) (hm : m.testBit 18 = true) : Keeps m a (s.writeOne v hw f) := by
  unfold State.writeOne
  split
  · rename_i e; exact State.stageFld_keeps h (hf (by simp [e.1])) hm
  · exact State.writeFld_keeps h hf

theorem State.plainW_keeps (s : State) (a v hw : Nat) : Keeps 0x7FFFFFFFFFFFFFFFFFFFFFFFFFFFFFFFFFFFFFFFFFFFFFFFFFFFFFFFFFFFFFFFFFFFFFFFFFFFFFFFFFFFFFFFFFFFFFFFFFFFF7FFFFF00040008 s (s.plainW a v hw) :=
  Keeps.foldl_mem (Keeps.refl _ _) fun _ f hm hy => State.writeOne_keeps hy (fun hr =>
    has_most (fun hk => hr (fieldsAt_state hm hk).1) (by rfl)) (by rfl)

theorem State.clearReg_keeps (s : State) (a : Nat) : Keeps 0x7FFFFFFFFFFFFFFFFFFFFFFFFFFFFFFFFFFFFFFFFFFFFFFFFFFFFFFFFFFFFFFFFFFFFFFFFFFFFFFFFFFFFFFFFFFFFFFFFFFFF7FFFFF00000008 s (s.clearReg a) := by
  have h0 := Keeps.refl 0x7FFFFFFFFFFFFFFFFFFFFFFFFFFFFFFFFFFFFFFFFFFFFFFFFFFFFFFFFFFFFFFFFFFFFFFFFFFFFFFFFFFFFFFFFFFFFFFFFFFFF7FFFFF00000008 s
  have last : Keeps 0x7FFFFFFFFFFFFFFFFFFFFFFFFFFFFFFFFFFFFFFFFFFFFFFFFFFFFFFFFFFFFFFFFFFFFFFFFFFFFFFFFFFFFFFFFFFFFFFFFFFFF7FFFFF00000008 s
      (if hasClr a then (fieldsAt a).foldl (fun s f => if f.ty = .ro then s.set f 0 else s) s else s) := by
    split
    · rename_i hc
      refine Keeps.foldl_mem h0 fun y f hm hy => Keeps.ite (Keeps.set hy (has_most (fun hk => ?_) (by rfl))) hy
      have := (fieldsAt_state hm hk).2.2
      rw [this, hasClr_state] at hc
      cases hc
    · exact h0
  unfold State.clearReg
  extract_lets n t
  repeat' first | with_reducible assumption | with_reducible apply State.set_keeps | ((with_reducible apply Has.fam (Reg.TIL_OVRCNT_COUNT_cls ..)); exact Eq.refl true) | ((with_reducible apply Has.fam (Reg.TIL_REFDCNT_COUNT_cls ..)); exact Eq.refl true) | ((with_reducible apply Has.fam (Reg.TIL_SWAPDIFF_MAXABS_cls ..)); exact Eq.refl true) | ((with_reducible apply Has.fam (Reg.TIL_TXSTAT_OCCMIN_cls ..)); exact Eq.refl true) | ((with_reducible apply Has.fam (Reg.TIL_TXSTAT_OCCMAX_cls ..)); exact Eq.refl true) | ((with_reducible apply Has.fam (Reg.TIL_TXSTAT_CAUSE_cls ..)); exact Eq.refl true) | ((with_reducible apply Has.fam (Reg.TIL_TXSLIPCNT_COUNT_cls ..)); exact Eq.refl true) | ((with_reducible apply Has.fam (Reg.TIL_TXCRCCNT_COUNT_cls ..)); exact Eq.refl true) | ((with_reducible apply Has.fam (Reg.TIL_TXINVCNT_COUNT_cls ..)); exact Eq.refl true) | ((with_reducible apply Has.fam (Reg.VLV_COIL_PEAK_cls ..)); exact Eq.refl true) | ((with_reducible apply Has.fam (Reg.PWR_IVIN_MAX_cls ..)); exact Eq.refl true) | ((with_reducible apply Has.fam (Reg.PWR_DIPMIN_V_cls ..)); exact Eq.refl true) | ((with_reducible apply Has.fam (Reg.THM_LMAX_PEAK_cls ..)); exact Eq.refl true) | ((with_reducible apply Has.fam (Reg.THM_PMAX_PEAK_cls ..)); exact Eq.refl true) | ((with_reducible apply Has.fam (Reg.CAL_TRKSTAT_SATCNT_cls ..)); exact Eq.refl true) | ((with_reducible apply Has.fam (Reg.KNT_OPEN_MAX_cls ..)); exact Eq.refl true) | with_reducible apply Keeps.ite | unfold t

theorem State.genericW_keeps (s : State) (a : ℕ) (v : ℕ) (hw : ℕ) :
    Keeps 0x7FFFFFFFFFFFFFFFFFFFFFFFFFFFFFFFFFFFFFFFFFFFFFFFFFFFFFFFFFFFFFFFFFFFFFFFFFFFFFFFFFFFFFFFFFFFFFFFFFFFF7FFFFF00040008 s (State.genericW s a v hw) := by
  have h0 : Keeps 0x7FFFFFFFFFFFFFFFFFFFFFFFFFFFFFFFFFFFFFFFFFFFFFFFFFFFFFFFFFFFFFFFFFFFFFFFFFFFFFFFFFFFFFFFFFFFFFFFFFFFF7FFFFF00040008 s s := Keeps.refl _ _
  unfold State.genericW
  extract_lets x0
  have h1 : Keeps 0x7FFFFFFFFFFFFFFFFFFFFFFFFFFFFFFFFFFFFFFFFFFFFFFFFFFFFFFFFFFFFFFFFFFFFFFFFFFFFFFFFFFFFFFFFFFFFFFFFFFFF7FFFFF00040008 s x0 := by unfold x0; repeat' first | with_reducible assumption | apply Eq.refl | with_reducible apply Keeps.step (State.plainW_keeps ..)
  try clear_value x0
  repeat' first | with_reducible assumption | apply Eq.refl | (with_reducible first | apply Keeps.step (State.clearReg_keeps ..) | apply Keeps.ite) | split

theorem State.glbCtrlW_keeps (s : State) (v : ℕ) :
    Keeps 0x40000E0000000800000270000FFE0000804C04FE0000000008C500000000807880B00C03000000000000000000030A9C16002CBF276E8 s (State.glbCtrlW s v) := by
  have h0 : Keeps 0x40000E0000000800000270000FFE0000804C04FE0000000008C500000000807880B00C03000000000000000000030A9C16002CBF276E8 s s := Keeps.refl _ _
  unfold State.glbCtrlW
  extract_lets x0 x1
  have h1 : Keeps 0x40000E0000000800000270000FFE0000804C04FE0000000008C500000000807880B00C03000000000000000000030A9C16002CBF276E8 s x0 := by unfold x0; repeat' first | with_reducible assumption | apply Eq.refl | (with_reducible first | apply Keeps.step (State.swrstW_keeps ..) | apply Keeps.ite) | split
  try clear_value x0
  have h2 : Keeps 0x40000E0000000800000270000FFE0000804C04FE0000000008C500000000807880B00C03000000000000000000030A9C16002CBF276E8 s x1 := by unfold x1; repeat' first | with_reducible assumption | apply Eq.refl | with_reducible apply Keeps.step (State.runW_keeps ..)
  try clear_value x1
  repeat' first | with_reducible assumption | apply Eq.refl | (with_reducible first | apply Keeps.step (State.swrstW_keeps ..) | apply Keeps.step (State.enterSafe_keeps ..) | apply Keeps.ite) | split

theorem State.hartenW_keeps (s : State) (x : ℕ) :
    Keeps 0xC0000000000000008 s (State.hartenW s x) := by
  have h0 : Keeps 0xC0000000000000008 s s := Keeps.refl _ _
  unfold State.hartenW
  extract_lets x0
  have h1 : Keeps 0xC0000000000000008 s x0 := by unfold x0; repeat' first | with_reducible assumption | apply Eq.refl | intro c | with_reducible apply State.set_keeps | ((with_reducible apply Has.fam (GLB_CORECTL_HARTEN_cls ..)); exact Eq.refl true)
  try clear_value x0
  repeat' first | with_reducible assumption | apply Eq.refl | intro c | (with_reducible first | apply State.set_keeps | apply Keeps.ite) | ((with_reducible apply Has.fam (GLB_CORECTL_HARTON_cls ..)); exact Eq.refl true) | split

theorem State.windowW_keeps (s : State) (r : Requester) (a : ℕ) (v : ℕ) :
    Keeps 0x10004000000000400000000000100000000000000000000C00100000000281188 s (State.windowW s r a v) := by
  have h0 : Keeps 0x10004000000000400000000000100000000000000000000C00100000000281188 s s := Keeps.refl _ _
  unfold State.windowW
  repeat' first | with_reducible assumption | apply Eq.refl | (with_reducible first | apply Keeps.step (State.setWin_keeps ..) | apply Keeps.step (State.tableWriteBy_keeps ..) | apply Keeps.ite) | split | extract_lets

theorem State.cntClear_keeps (s : State) :
    Keeps 0x200000008 s (State.cntClear s) := by
  have h0 : Keeps 0x200000008 s s := Keeps.refl _ _
  unfold State.cntClear
  repeat' first | with_reducible assumption | apply Eq.refl | intro c | (with_reducible first | apply State.set_keeps | apply Keeps.foldl) | ((with_reducible apply Has.fam (EVT_CNT_CNT3_cls ..)); exact Eq.refl true) | ((with_reducible apply Has.fam (EVT_CNT_CNT2_cls ..)); exact Eq.refl true) | ((with_reducible apply Has.fam (EVT_CNT_CNT1_cls ..)); exact Eq.refl true) | ((with_reducible apply Has.fam (EVT_CNT_CNT0_cls ..)); exact Eq.refl true)

theorem State.statClear_keeps (s : State) (same : List ℕ) :
    Keeps 0x200000008 s (State.statClear s same) := by
  have h0 : Keeps 0x200000008 s s := Keeps.refl _ _
  unfold State.statClear
  repeat' first | with_reducible assumption | apply Eq.refl | intro c | (with_reducible first | apply State.set_keeps | apply Keeps.ite | apply Keeps.foldl) | ((with_reducible apply Has.fam (EVT_STAT_STAT_cls ..)); exact Eq.refl true) | split | extract_lets

theorem State.forceW_keeps (s : State) (g : ℕ) (v : ℕ) :
    Keeps 0x1000002000000C8 s (State.forceW s g v) := by
  have h0 : Keeps 0x1000002000000C8 s s := Keeps.refl _ _
  unfold State.forceW
  repeat' first | with_reducible assumption | apply Eq.refl | intro c | (with_reducible first | apply Keeps.step (State.occurAt_keeps ..) | apply Keeps.foldl)

theorem State.evtStatW_keeps (s : State) (g : ℕ) (v : ℕ) (hw : ℕ) :
    Keeps 0x7FFFFFFFFFFFFFFFFFFFFFFFFFFFFFFFFFFFFFFFFFFFFFFFFFFFFFFFFFFFFFFFFFFFFFFFFFFFFFFFFFFFFFFFFFFFFFFFFFFFF7FFFFF000400C8 s (State.evtStatW s g v hw) := by
  have h0 : Keeps 0x7FFFFFFFFFFFFFFFFFFFFFFFFFFFFFFFFFFFFFFFFFFFFFFFFFFFFFFFFFFFFFFFFFFFFFFFFFFFFFFFFFFFFFFFFFFFFFFFFFFFF7FFFFF000400C8 s s := Keeps.refl _ _
  unfold State.evtStatW
  repeat' first | with_reducible assumption | apply Eq.refl | intro c | (with_reducible first | apply Keeps.step (State.genericW_keeps ..) | apply Keeps.step (State.raise_keeps ..) | apply Keeps.foldl) | extract_lets

theorem State.evtW_keeps (s : State) (a : ℕ) (v : ℕ) (hw : ℕ) :
    Keeps 0x7FFFFFFFFFFFFFFFFFFFFFFFFFFFFFFFFFFFFFFFFFFFFFFFFFFFFFFFFFFFFFFFFFFFFFFFFFFFFFFFFFFFFFFFFFFFFFFFFFFFF7FFFFF000400C8 s (State.evtW s a v hw) := by
  have h0 : Keeps 0x7FFFFFFFFFFFFFFFFFFFFFFFFFFFFFFFFFFFFFFFFFFFFFFFFFFFFFFFFFFFFFFFFFFFFFFFFFFFFFFFFFFFFFFFFFFFFFFFFFFFF7FFFFF000400C8 s s := Keeps.refl _ _
  unfold State.evtW
  extract_lets x0
  have h1 : Keeps 0x7FFFFFFFFFFFFFFFFFFFFFFFFFFFFFFFFFFFFFFFFFFFFFFFFFFFFFFFFFFFFFFFFFFFFFFFFFFFFFFFFFFFFFFFFFFFFFFFFFFFF7FFFFF000400C8 s x0 := by unfold x0; repeat' first | with_reducible assumption | apply Eq.refl | (with_reducible first | apply Keeps.step (State.cntClear_keeps ..) | apply Keeps.ite) | split
  try clear_value x0
  repeat' first | with_reducible assumption | apply Eq.refl | (with_reducible first | apply Keeps.step (State.statClear_keeps ..) | apply Keeps.step (State.forceW_keeps ..) | apply Keeps.step (State.evtStatW_keeps ..) | apply Keeps.step (State.genericW_keeps ..) | apply Keeps.ite) | split

theorem State.glbW_keeps (s : State) (r : Requester) (a : ℕ) (v : ℕ) (hw : ℕ) :
    Keeps 0x7FFFFFFFFFFFFFFFFFFFFFFFFFFFFFFFFFFFFFFFFFFFFFFFFFFFFFFFFFFFFFFFFFFFFFFFFFFFFFFFFFFFFFFFFFFFFFFFFFFFFFFFFFFCBFE77E8 s (State.glbW s r a v hw) := by
  have h0 : Keeps 0x7FFFFFFFFFFFFFFFFFFFFFFFFFFFFFFFFFFFFFFFFFFFFFFFFFFFFFFFFFFFFFFFFFFFFFFFFFFFFFFFFFFFFFFFFFFFFFFFFFFFFFFFFFFCBFE77E8 s s := Keeps.refl _ _
  unfold State.glbW
  repeat' first | with_reducible assumption | apply Eq.refl | (with_reducible first | apply Keeps.step (State.glbCtrlW_keeps ..) | apply Keeps.step (State.hartenW_keeps ..) | apply Keeps.step (State.windowW_keeps ..) | apply Keeps.step (State.genericW_keeps ..) | apply Keeps.ite) | split

theorem State.houseW_keeps (s : State) (a : ℕ) (v : ℕ) (hw : ℕ) :
    Keeps 0x7FFFFFFFFFFFFFFFFFFFFFFFFFFFFFFFFFFFFFFFFFFFFFFFFFFFFFFFFFFFFFFFFFFFFFFFFFFFFFFFFFFFFFFFFFFFFFFFFFFFFFFFFFF200524C8 s (State.houseW s a v hw) := by
  have h0 : Keeps 0x7FFFFFFFFFFFFFFFFFFFFFFFFFFFFFFFFFFFFFFFFFFFFFFFFFFFFFFFFFFFFFFFFFFFFFFFFFFFFFFFFFFFFFFFFFFFFFFFFFFFFFFFFFF200524C8 s s := Keeps.refl _ _
  unfold State.houseW
  extract_lets x0
  have h1 : Keeps 0x7FFFFFFFFFFFFFFFFFFFFFFFFFFFFFFFFFFFFFFFFFFFFFFFFFFFFFFFFFFFFFFFFFFFFFFFFFFFFFFFFFFFFFFFFFFFFFFFFFFFFFFFFFF200524C8 s x0 := by unfold x0; repeat' first | with_reducible assumption | apply Eq.refl | with_reducible apply Keeps.step (State.plainW_keeps ..)
  try clear_value x0
  repeat' first | with_reducible assumption | apply Eq.refl | (with_reducible first | apply Keeps.step (State.budprioW_keeps ..) | apply Keeps.step (State.restartReq_keeps ..) | apply Keeps.step (State.hkaCtrlW_keeps ..) | apply Keeps.step (State.genericW_keeps ..) | apply Keeps.ite) | split

theorem State.stgW_keeps (s : State) (a : ℕ) (v : ℕ) (hw : ℕ) :
    Keeps 0x7FFFFFFFFFFFFFFFFFFFFFFFFFFFFFFFFFFFFFFFFFFFFFFFFFFFFFFFFFFFFFFFFFFFFFFFFFFFFFFFFFFFFFFFFFFFFFFFFFFFF7FFFFF000C0408 s (State.stgW s a v hw) := by
  have h0 : Keeps 0x7FFFFFFFFFFFFFFFFFFFFFFFFFFFFFFFFFFFFFFFFFFFFFFFFFFFFFFFFFFFFFFFFFFFFFFFFFFFFFFFFFFFFFFFFFFFFFFFFFFFF7FFFFF000C0408 s s := Keeps.refl _ _
  unfold State.stgW
  repeat' first | with_reducible assumption | apply Eq.refl | (with_reducible first | apply Keeps.step (State.stgCtrlW_keeps ..) | apply Keeps.step (State.stgFrateW_keeps ..) | apply Keeps.step (State.stgBiasW_keeps ..) | apply Keeps.step (State.stgSetptW_keeps ..) | apply Keeps.step (State.plainW_keeps ..) | apply Keeps.step (State.genericW_keeps ..) | apply Keeps.ite) | split

theorem State.cvctrlW_keeps (s : State) (n : ℕ) (v : ℕ) :
    Keeps 0x800000000000000000000000004000000408 s (State.cvctrlW s n v) := by
  have h0 : Keeps 0x800000000000000000000000004000000408 s s := Keeps.refl _ _
  unfold State.cvctrlW
  extract_lets x0
  have h1 : Keeps 0x800000000000000000000000004000000408 s x0 := by unfold x0; repeat' first | with_reducible assumption | apply Eq.refl | (with_reducible first | apply Keeps.step (State.rotenW_keeps ..) | apply Keeps.ite) | split
  try clear_value x0
  repeat' first | with_reducible assumption | apply Eq.refl | (with_reducible first | apply Keeps.step (State.scalStart_keeps ..) | apply Keeps.ite) | split

theorem State.substW_keeps (s : State) (n : ℕ) (v : ℕ) :
    Keeps 0x800000000000000000000000004000000408 s (State.substW s n v) := by
  have h0 : Keeps 0x800000000000000000000000004000000408 s s := Keeps.refl _ _
  unfold State.substW
  extract_lets _ _ x2 x3
  have h3 : Keeps 0x800000000000000000000000004000000408 s x2 := by unfold x2; repeat' first | with_reducible assumption | apply Eq.refl | intro c | with_reducible apply State.set_keeps | ((with_reducible apply Has.fam (TIL_SUBST_SPARE_cls ..)); exact Eq.refl true) | ((with_reducible apply Has.fam (TIL_SUBST_SLICE_cls ..)); exact Eq.refl true)
  try clear_value x2
  have h4 : Keeps 0x800000000000000000000000004000000408 s x3 := by unfold x3; repeat' first | with_reducible assumption | apply Eq.refl | (with_reducible first | apply Keeps.step (State.parkS_keeps ..) | apply Keeps.ite) | split
  try clear_value x3
  repeat' first | with_reducible assumption | apply Eq.refl | (with_reducible first | apply Keeps.step (State.releaseS_keeps ..) | apply Keeps.ite) | split | extract_lets

theorem State.tilW_keeps (s : State) (a : ℕ) (v : ℕ) (hw : ℕ) :
    Keeps 0x7FFFFFFFFFFFFFFFFFFFFFFFFFFFFFFFFFFFFFFFFFFFFFFFFFFFFFFFFFFFFFFFFFFFFFFFFFFFFFFFFFFFFFFFFFFFFFFFFFFFF7FFFFF000404C8 s (State.tilW s a v hw) := by
  have h0 : Keeps 0x7FFFFFFFFFFFFFFFFFFFFFFFFFFFFFFFFFFFFFFFFFFFFFFFFFFFFFFFFFFFFFFFFFFFFFFFFFFFFFFFFFFFFFFFFFFFFFFFFFFFF7FFFFF000404C8 s s := Keeps.refl _ _
  unfold State.tilW
  extract_lets _ _ x2
  have h3 : Keeps 0x7FFFFFFFFFFFFFFFFFFFFFFFFFFFFFFFFFFFFFFFFFFFFFFFFFFFFFFFFFFFFFFFFFFFFFFFFFFFFFFFFFFFFFFFFFFFFFFFFFFFF7FFFFF000404C8 s x2 := by unfold x2; repeat' first | with_reducible assumption | apply Eq.refl | with_reducible apply Keeps.step (State.plainW_keeps ..)
  try clear_value x2
  repeat' first | with_reducible assumption | apply Eq.refl | (with_reducible first | apply Keeps.step (State.tilGainW_keeps ..) | apply Keeps.step (State.tilPtdataW_keeps ..) | apply Keeps.step (State.tilSkimW_keeps ..) | apply Keeps.step (State.cvctrlW_keeps ..) | apply Keeps.step (State.cfdataW_keeps ..) | apply Keeps.step (State.plainW_keeps ..) | apply Keeps.step (State.substW_keeps ..) | apply Keeps.step (State.lockLoss_keeps ..) | apply Keeps.step (State.genericW_keeps ..) | apply Keeps.ite) | split | extract_lets

theorem State.corW_keeps (s : State) (a : ℕ) (v : ℕ) (hw : ℕ) :
    Keeps 0x7FFFFFFFFFFFFFFFFFFFFFFFFFFFFFFFFFFFFFFFFFFFFFFFFFFFFFFFFFFFFFFFFFFFFFFFFFFFFFFFFFFFFFFFFFFFFFFFFFFFF7FFFFF00041408 s (State.corW s a v hw) := by
  have h0 : Keeps 0x7FFFFFFFFFFFFFFFFFFFFFFFFFFFFFFFFFFFFFFFFFFFFFFFFFFFFFFFFFFFFFFFFFFFFFFFFFFFFFFFFFFFFFFFFFFFFFFFFFFFF7FFFFF00041408 s s := Keeps.refl _ _
  unfold State.corW
  extract_lets _ x1
  have h2 : Keeps 0x7FFFFFFFFFFFFFFFFFFFFFFFFFFFFFFFFFFFFFFFFFFFFFFFFFFFFFFFFFFFFFFFFFFFFFFFFFFFFFFFFFFFFFFFFFFFFFFFFFFFF7FFFFF00041408 s x1 := by unfold x1; repeat' first | with_reducible assumption | apply Eq.refl | intro c | (with_reducible first | apply Keeps.step (State.corBlendStartW_keeps ..) | apply State.set_keeps | apply Keeps.ite) | ((with_reducible apply Has.fam (COR_BLEND_FRAMES_cls ..)); exact Eq.refl true) | split
  try clear_value x1
  repeat' first | with_reducible assumption | apply Eq.refl | intro c | (with_reducible first | apply Keeps.step (State.plainW_keeps ..) | apply Keeps.step (State.corV0W_keeps ..) | apply Keeps.step (State.corOflipW_keeps ..) | apply Keeps.step (State.corBlendAbortW_keeps ..) | apply State.corTrefW_keeps | apply Keeps.step (State.laneXW_keeps ..) | apply Keeps.step (State.genericW_keeps ..) | apply Keeps.ite) | ((with_reducible apply Has.fam (COR_TREF_A_TEMP_cls ..)); exact Eq.refl true) | ((with_reducible apply Has.fam (COR_TREF_B_TEMP_cls ..)); exact Eq.refl true) | split | extract_lets

theorem State.calCtrlW_keeps (s : State) (v : ℕ) :
    Keeps 0x7FFFFFFFFFFFFFFFFFFFFFFFFFFFFFFFFFFFFFFFFFFFFFFFFFFFFFFFFFFFFFFFFFFFFFFFFFFFFFFFFFFFFFFFFFFFFFFFFFFFF7FFFFFC3C472C8 s (State.calCtrlW s v) := by
  have h0 : Keeps 0x7FFFFFFFFFFFFFFFFFFFFFFFFFFFFFFFFFFFFFFFFFFFFFFFFFFFFFFFFFFFFFFFFFFFFFFFFFFFFFFFFFFFFFFFFFFFFFFFFFFFF7FFFFFC3C472C8 s s := Keeps.refl _ _
  unfold State.calCtrlW
  extract_lets x0 x1 x2 x3
  have h1 : Keeps 0x7FFFFFFFFFFFFFFFFFFFFFFFFFFFFFFFFFFFFFFFFFFFFFFFFFFFFFFFFFFFFFFFFFFFFFFFFFFFFFFFFFFFFFFFFFFFFFFFFFFFF7FFFFFC3C472C8 s x0 := by unfold x0; repeat' first | with_reducible assumption | apply Eq.refl | with_reducible apply Keeps.step (State.plainW_keeps ..)
  try clear_value x0
  have h2 : Keeps 0x7FFFFFFFFFFFFFFFFFFFFFFFFFFFFFFFFFFFFFFFFFFFFFFFFFFFFFFFFFFFFFFFFFFFFFFFFFFFFFFFFFFFFFFFFFFFFFFFFFFFF7FFFFFC3C472C8 s x1 := by unfold x1; repeat' first | with_reducible assumption | apply Eq.refl | (with_reducible first | apply Keeps.step (State.calAbortW_keeps ..) | apply Keeps.ite) | split
  try clear_value x1
  have h3 : Keeps 0x7FFFFFFFFFFFFFFFFFFFFFFFFFFFFFFFFFFFFFFFFFFFFFFFFFFFFFFFFFFFFFFFFFFFFFFFFFFFFFFFFFFFFFFFFFFFFFFFFFFFF7FFFFFC3C472C8 s x2 := by unfold x2; repeat' first | with_reducible assumption | apply Eq.refl | (with_reducible first | apply Keeps.step (State.trigger_keeps ..) | apply Keeps.ite) | split
  try clear_value x2
  have h4 : Keeps 0x7FFFFFFFFFFFFFFFFFFFFFFFFFFFFFFFFFFFFFFFFFFFFFFFFFFFFFFFFFFFFFFFFFFFFFFFFFFFFFFFFFFFFFFFFFFFFFFFFFFFF7FFFFFC3C472C8 s x3 := by unfold x3; repeat' first | with_reducible assumption | apply Eq.refl | (with_reducible first | apply Keeps.step (State.grefStartS_keeps ..) | apply Keeps.ite) | split
  try clear_value x3
  repeat' first | with_reducible assumption | apply Eq.refl | (with_reducible first | apply Keeps.step (State.gapplyS_keeps ..) | apply Keeps.ite) | split

theorem State.ranged_keeps (s : State) (a : ℕ) (v : ℕ) (hw : ℕ) (lo : ℕ) (hi : ℕ) (x : ℕ) :
    Keeps 0x7FFFFFFFFFFFFFFFFFFFFFFFFFFFFFFFFFFFFFFFFFFFFFFFFFFFFFFFFFFFFFFFFFFFFFFFFFFFFFFFFFFFFFFFFFFFFFFFFFFFF7FFFFF00040008 s (State.ranged s a v hw lo hi x) := by
  have h0 : Keeps 0x7FFFFFFFFFFFFFFFFFFFFFFFFFFFFFFFFFFFFFFFFFFFFFFFFFFFFFFFFFFFFFFFFFFFFFFFFFFFFFFFFFFFFFFFFFFFFFFFFFFFF7FFFFF00040008 s s := Keeps.refl _ _
  unfold State.ranged
  repeat' first | with_reducible assumption | apply Eq.refl | (with_reducible first | apply Keeps.step (State.plainW_keeps ..) | apply Keeps.step (State.cfgErr_keeps ..) | apply Keeps.ite) | split

theorem State.calW_keeps (s : State) (a : ℕ) (v : ℕ) (hw : ℕ) :
    Keeps 0x7FFFFFFFFFFFFFFFFFFFFFFFFFFFFFFFFFFFFFFFFFFFFFFFFFFFFFFFFFFFFFFFFFFFFFFFFFFFFFFFFFFFFFFFFFFFFFFFFFFFF7FFFFFC3C472C8 s (State.calW s a v hw) := by
  have h0 : Keeps 0x7FFFFFFFFFFFFFFFFFFFFFFFFFFFFFFFFFFFFFFFFFFFFFFFFFFFFFFFFFFFFFFFFFFFFFFFFFFFFFFFFFFFFFFFFFFFFFFFFFFFF7FFFFFC3C472C8 s s := Keeps.refl _ _
  unfold State.calW
  repeat' first | with_reducible assumption | apply Eq.refl | (with_reducible first | apply Keeps.step (State.calCtrlW_keeps ..) | apply Keeps.step (State.ranged_keeps ..) | apply Keeps.step (State.plainW_keeps ..) | apply Keeps.step (State.genericW_keeps ..) | apply Keeps.ite) | split | extract_lets

theorem State.brdCtrlW_keeps (s : State) (v : ℕ) :
    Keeps 0x7FFFFFFFFFFFFFFFFFFFFFFFFFFFFFFFFFFFFFFFFFFFFFFFFFFFFFFFFFFFFFFFFFFFFFFFFFFFFFFFFFFFFFFFFFFFFFFFFFFFF7FFFFF000C0008 s (State.brdCtrlW s v) := by
  have h0 : Keeps 0x7FFFFFFFFFFFFFFFFFFFFFFFFFFFFFFFFFFFFFFFFFFFFFFFFFFFFFFFFFFFFFFFFFFFFFFFFFFFFFFFFFFFFFFFFFFFFFFFFFFFF7FFFFF000C0008 s s := Keeps.refl _ _
  unfold State.brdCtrlW
  extract_lets _ x1 x2 _ x4
  have h2 : Keeps 0x7FFFFFFFFFFFFFFFFFFFFFFFFFFFFFFFFFFFFFFFFFFFFFFFFFFFFFFFFFFFFFFFFFFFFFFFFFFFFFFFFFFFFFFFFFFFFFFFFFFFF7FFFFF000C0008 s x1 := by unfold x1; repeat' first | with_reducible assumption | apply Eq.refl | with_reducible apply Keeps.step (State.plainW_keeps ..)
  try clear_value x1
  have h3 : Keeps 0x7FFFFFFFFFFFFFFFFFFFFFFFFFFFFFFFFFFFFFFFFFFFFFFFFFFFFFFFFFFFFFFFFFFFFFFFFFFFFFFFFFFFFFFFFFFFFFFFFFFFF7FFFFF000C0008 s x2 := by unfold x2; repeat' first | with_reducible assumption | apply Eq.refl | (with_reducible first | apply Keeps.step (State.askTables_keeps ..) | apply Keeps.ite) | split
  try clear_value x2
  have h5 : Keeps 0x7FFFFFFFFFFFFFFFFFFFFFFFFFFFFFFFFFFFFFFFFFFFFFFFFFFFFFFFFFFFFFFFFFFFFFFFFFFFFFFFFFFFFFFFFFFFFFFFFFFFF7FFFFF000C0008 s x4 := by unfold x4; repeat' first | (with_reducible first | assumption | apply mwf_mset | apply Canon.ub | apply Keeps.canon) | apply Eq.refl | intro c | with_reducible apply Keeps.ite | split | with_reducible apply Keeps.put_braid
  try clear_value x4
  repeat' first | with_reducible assumption | apply Eq.refl | (with_reducible first | apply Keeps.step (State.brdRestartS_keeps ..) | apply Keeps.ite) | split | extract_lets

theorem State.brdW_keeps (s : State) (a : ℕ) (v : ℕ) (hw : ℕ) :
    Keeps 0x7FFFFFFFFFFFFFFFFFFFFFFFFFFFFFFFFFFFFFFFFFFFFFFFFFFFFFFFFFFFFFFFFFFFFFFFFFFFFFFFFFFFFFFFFFFFFFFFFFFFF7FFFFF000C00C8 s (State.brdW s a v hw) := by
  have h0 : Keeps 0x7FFFFFFFFFFFFFFFFFFFFFFFFFFFFFFFFFFFFFFFFFFFFFFFFFFFFFFFFFFFFFFFFFFFFFFFFFFFFFFFFFFFFFFFFFFFFFFFFFFFF7FFFFF000C00C8 s s := Keeps.refl _ _
  unfold State.brdW
  repeat' first | with_reducible assumption | apply Eq.refl | (with_reducible first | apply Keeps.step (State.brdCtrlW_keeps ..) | apply Keeps.step (State.brdUnlayW_keeps ..) | apply Keeps.step (State.brdParamW_keeps ..) | apply Keeps.step (State.brdSwitchW_keeps ..) | apply Keeps.step (State.genericW_keeps ..) | apply Keeps.ite) | split

theorem State.kntW_keeps (s : State) (a : ℕ) (v : ℕ) (hw : ℕ) :
    Keeps 0x7FFFFFFFFFFFFFFFFFFFFFFFFFFFFFFFFFFFFFFFFFFFFFFFFFFFFFFFFFFFFFFFFFFFFFFFFFFFFFFFFFFFFFFFFFFFFFFFFFFFF7FFFFF00040008 s (State.kntW s a v hw) := by
  have h0 : Keeps 0x7FFFFFFFFFFFFFFFFFFFFFFFFFFFFFFFFFFFFFFFFFFFFFFFFFFFFFFFFFFFFFFFFFFFFFFFFFFFFFFFFFFFFFFFFFFFFFFFFFFFF7FFFFF00040008 s s := Keeps.refl _ _
  unfold State.kntW
  repeat' first | with_reducible assumption | apply Eq.refl | (with_reducible first | apply Keeps.step (State.kntThrW_keeps ..) | apply Keeps.step (State.plainW_keeps ..) | apply Keeps.step (State.genericW_keeps ..) | apply Keeps.ite) | split

theorem State.vrdW_keeps (s : State) (a : ℕ) (v : ℕ) (hw : ℕ) :
    Keeps 0x7FFFFFFFFFFFFFFFFFFFFFFFFFFFFFFFFFFFFFFFFFFFFFFFFFFFFFFFFFFFFFFFFFFFFFFFFFFFFFFFFFFFFFFFFFFFFFFFFFFFF7FFFFF00240008 s (State.vrdW s a v hw) := by
  have h0 : Keeps 0x7FFFFFFFFFFFFFFFFFFFFFFFFFFFFFFFFFFFFFFFFFFFFFFFFFFFFFFFFFFFFFFFFFFFFFFFFFFFFFFFFFFFFFFFFFFFFFFFFFFFF7FFFFF00240008 s s := Keeps.refl _ _
  unfold State.vrdW
  repeat' first | with_reducible assumption | apply Eq.refl | (with_reducible first | apply Keeps.step (State.vrdSwitchS_keeps ..) | apply Keeps.step (State.plainW_keeps ..) | apply Keeps.step (State.genericW_keeps ..) | apply Keeps.ite) | split

theorem State.ejsW_keeps (s : State) (a : ℕ) (v : ℕ) (hw : ℕ) :
    Keeps 0x7FFFFFFFFFFFFFFFFFFFFFFFFFFFFFFFFFFFFFFFFFFFFFFFFFFFFFFFFFFFFFFFFFFFFFFFFFFFFFFFFFFFFFFFFFFFFFFFFFFFF7FFFFF00240008 s (State.ejsW s a v hw) := by
  have h0 : Keeps 0x7FFFFFFFFFFFFFFFFFFFFFFFFFFFFFFFFFFFFFFFFFFFFFFFFFFFFFFFFFFFFFFFFFFFFFFFFFFFFFFFFFFFFFFFFFFFFFFFFFFFF7FFFFF00240008 s s := Keeps.refl _ _
  unfold State.ejsW
  extract_lets x0 x1
  have h1 : Keeps 0x7FFFFFFFFFFFFFFFFFFFFFFFFFFFFFFFFFFFFFFFFFFFFFFFFFFFFFFFFFFFFFFFFFFFFFFFFFFFFFFFFFFFFFFFFFFFFFFFFFFFF7FFFFF00240008 s x0 := by unfold x0; repeat' first | with_reducible assumption | apply Eq.refl | with_reducible apply Keeps.step (State.ejsStagedW_keeps ..)
  try clear_value x0
  have h2 : Keeps 0x7FFFFFFFFFFFFFFFFFFFFFFFFFFFFFFFFFFFFFFFFFFFFFFFFFFFFFFFFFFFFFFFFFFFFFFFFFFFFFFFFFFFFFFFFFFFFFFFFFFFF7FFFFF00240008 s x1 := by unfold x1; repeat' first | with_reducible assumption | apply Eq.refl | (with_reducible first | apply Keeps.step (State.mapswS_keeps ..) | apply Keeps.ite) | split
  try clear_value x1
  repeat' first | with_reducible assumption | apply Eq.refl | (with_reducible first | apply Keeps.step (State.flushQueues_keeps ..) | apply Keeps.step (State.ejsStagedW_keeps ..) | apply Keeps.step (State.genericW_keeps ..) | apply Keeps.ite) | split

theorem State.arbErr_keeps (s : State) :
    Keeps 0x200000000000000000000000000000000000000000000000000000000000000000000008 s (State.arbErr s) := by
  have h0 : Keeps 0x200000000000000000000000000000000000000000000000000000000000000000000008 s s := Keeps.refl _ _
  unfold State.arbErr
  repeat' first | with_reducible assumption | apply Eq.refl | intro c | with_reducible apply State.set_keeps | ((with_reducible apply Has.fam (ARB_STAT_WRERR_cls ..)); exact Eq.refl true)

theorem State.lyCtrlW_keeps (s : State) (v : ℕ) :
    Keeps 0xFC06F0000000000000000000000000000000000000000000000000000000000600000400018 s (State.lyCtrlW s v) := by
  have h0 : Keeps 0xFC06F0000000000000000000000000000000000000000000000000000000000600000400018 s s := Keeps.refl _ _
  unfold State.lyCtrlW
  extract_lets x0
  have h1 : Keeps 0xFC06F0000000000000000000000000000000000000000000000000000000000600000400018 s x0 := by unfold x0; repeat' first | with_reducible assumption | apply Eq.refl | (with_reducible first | apply Keeps.step (State.lyHost_keeps ..) | apply Keeps.ite) | split
  try clear_value x0
  repeat' first | with_reducible assumption | apply Eq.refl | intro c | (with_reducible first | apply State.set_keeps | apply Keeps.ite) | ((with_reducible apply Has.fam (ARB_LYSTAT_FLTCAUSE_cls ..)); exact Eq.refl true) | ((with_reducible apply Has.fam (ARB_LYSTAT_FLT_cls ..)); exact Eq.refl true) | split

theorem State.driveW_keeps (s : State) (a : ℕ) (v : ℕ) (hw : ℕ) :
    Keeps 0x7FFFFFFFFFFFFFFFFFFFFFFFFFFFFFFFFFFFFFFFFFFFFFFFFFFFFFFFFFFFFFFFFFFFFFFFFFFFFFFFFFFFFFFFFFFFFFFFFFFFF7FFFFF006400D8 s (State.driveW s a v hw) := by
  have h0 : Keeps 0x7FFFFFFFFFFFFFFFFFFFFFFFFFFFFFFFFFFFFFFFFFFFFFFFFFFFFFFFFFFFFFFFFFFFFFFFFFFFFFFFFFFFFFFFFFFFFFFFFFFFF7FFFFF006400D8 s s := Keeps.refl _ _
  unfold State.driveW
  repeat' first | with_reducible assumption | apply Eq.refl | (with_reducible first | apply Keeps.step (State.driveEnableW_keeps ..) | apply Keeps.step (State.genericW_keeps ..) | apply Keeps.step (State.plainW_keeps ..) | apply Keeps.step (State.arbShow_keeps ..) | apply Keeps.step (State.arbErr_keeps ..) | apply Keeps.step (State.lyCtrlW_keeps ..) | apply Keeps.ite) | split | extract_lets

theorem State.memW_keeps (s : State) (a : ℕ) (v : ℕ) (hw : ℕ) :
    Keeps 0x7FFFFFFFFFFFFFFFFFFFFFFFFFFFFFFFFFFFFFFFFFFFFFFFFFFFFFFFFFFFFFFFFFFFFFFFFFFFFFFFFFFFFFFFFFFFFFFFFFFFF7FFFFF00040088 s (State.memW s a v hw) := by
  have h0 : Keeps 0x7FFFFFFFFFFFFFFFFFFFFFFFFFFFFFFFFFFFFFFFFFFFFFFFFFFFFFFFFFFFFFFFFFFFFFFFFFFFFFFFFFFFFFFFFFFFFFFFFFFFF7FFFFF00040088 s s := Keeps.refl _ _
  unfold State.memW
  repeat' first | with_reducible assumption | apply Eq.refl | (with_reducible first | apply Keeps.step (State.plainW_keeps ..) | apply Keeps.step (State.retctlW_keeps ..) | apply Keeps.step (State.genericW_keeps ..) | apply Keeps.ite) | split

theorem State.portW_keeps (s : State) (r : Requester) (a : ℕ) (v : ℕ) (hw : ℕ) :
    Keeps 0x7FFFFFFFFFFFFFFFFFFFFFFFFFFFFFFFFFFFFFFFFFFFFFFFFFFFFFFFFFFFFFFFFFFFFFFFFFFFFFFFFFFFFFFFFFFFFFFFFFFFF7FFFFF00040008 s (State.portW s r a v hw) := by
  have h0 : Keeps 0x7FFFFFFFFFFFFFFFFFFFFFFFFFFFFFFFFFFFFFFFFFFFFFFFFFFFFFFFFFFFFFFFFFFFFFFFFFFFFFFFFFFFFFFFFFFFFFFFFFFFF7FFFFF00040008 s s := Keeps.refl _ _
  unfold State.portW
  repeat' first | with_reducible assumption | apply Eq.refl | intro c | (with_reducible first | apply Keeps.step (State.plainW_keeps ..) | apply State.set_keeps | apply Keeps.step (State.genericW_keeps ..) | apply Keeps.ite) | ((with_reducible apply Has.fam (FLS_STAT_WRERR_cls ..)); exact Eq.refl true) | split

theorem State.mdioW_keeps (s : State) (v : ℕ) :
    Keeps 0x7FFFFFFFFFFFFFFFFFFFFFFFFFFFFFFFFFFFFFFFFFFFFFFFFFFFFFFFFFFFFFFFFFFFFFFFFFFFFFFFFFFFFFFFFFFFFFFFFFFFF7FFFFF04040008 s (State.mdioW s v) := by
  have h0 : Keeps 0x7FFFFFFFFFFFFFFFFFFFFFFFFFFFFFFFFFFFFFFFFFFFFFFFFFFFFFFFFFFFFFFFFFFFFFFFFFFFFFFFFFFFFFFFFFFFFFFFFFFFF7FFFFF04040008 s s := Keeps.refl _ _
  unfold State.mdioW
  extract_lets x0
  have h1 : Keeps 0x7FFFFFFFFFFFFFFFFFFFFFFFFFFFFFFFFFFFFFFFFFFFFFFFFFFFFFFFFFFFFFFFFFFFFFFFFFFFFFFFFFFFFFFFFFFFFFFFFFFFF7FFFFF04040008 s x0 := by unfold x0; repeat' first | with_reducible assumption | apply Eq.refl | with_reducible apply Keeps.step (State.plainW_keeps ..)
  try clear_value x0
  repeat' first | with_reducible assumption | apply Eq.refl | intro c | (with_reducible first | apply State.set_keeps | apply Keeps.ite) | ((with_reducible apply Has.fam (ETH_MDIOCMD_BUSY_cls ..)); exact Eq.refl true) | split | extract_lets | with_reducible apply Keeps.put_net

theorem State.reofs_keeps (s : State) :
    Keeps 0x4000000 s (State.reofs s) := by
  have h0 : Keeps 0x4000000 s s := Keeps.refl _ _
  unfold State.reofs
  repeat' first | with_reducible assumption | apply Eq.refl | extract_lets | with_reducible apply Keeps.put_net

theorem State.ethCtrlW_keeps (s : State) (v : ℕ) :
    Keeps 0x7FFFFFFFFFFFFFFFFFFFFFFFFFFFFFFFFFFFFFFFFFFFFFFFFFFFFFFFFFFFFFFFFFFFFFFFFFFFFFFFFFFFFFFFFFFFFFFFFFFFF7FFFFF84040008 s (State.ethCtrlW s v) := by
  have h0 : Keeps 0x7FFFFFFFFFFFFFFFFFFFFFFFFFFFFFFFFFFFFFFFFFFFFFFFFFFFFFFFFFFFFFFFFFFFFFFFFFFFFFFFFFFFFFFFFFFFFFFFFFFFF7FFFFF84040008 s s := Keeps.refl _ _
  unfold State.ethCtrlW
  extract_lets _ x1
  have h2 : Keeps 0x7FFFFFFFFFFFFFFFFFFFFFFFFFFFFFFFFFFFFFFFFFFFFFFFFFFFFFFFFFFFFFFFFFFFFFFFFFFFFFFFFFFFFFFFFFFFFFFFFFFFF7FFFFF84040008 s x1 := by unfold x1; repeat' first | with_reducible assumption | apply Eq.refl | with_reducible apply Keeps.step (State.plainW_keeps ..)
  try clear_value x1
  repeat' first | with_reducible assumption | apply Eq.refl | intro c | (with_reducible first | apply State.set_keeps | apply Keeps.step (State.emit_keeps ..) | apply Keeps.ite) | ((with_reducible apply Has.fam (ETH_STAT_BOUND_cls ..)); exact Eq.refl true) | split | extract_lets | with_reducible apply Keeps.put_net

theorem State.ethW_keeps (s : State) (a : ℕ) (v : ℕ) (hw : ℕ) :
    Keeps 0x7FFFFFFFFFFFFFFFFFFFFFFFFFFFFFFFFFFFFFFFFFFFFFFFFFFFFFFFFFFFFFFFFFFFFFFFFFFFFFFFFFFFFFFFFFFFFFFFFFFFF7FFFFF840400C8 s (State.ethW s a v hw) := by
  have h0 : Keeps 0x7FFFFFFFFFFFFFFFFFFFFFFFFFFFFFFFFFFFFFFFFFFFFFFFFFFFFFFFFFFFFFFFFFFFFFFFFFFFFFFFFFFFFFFFFFFFFFFFFFFFF7FFFFF840400C8 s s := Keeps.refl _ _
  unfold State.ethW
  extract_lets x0
  have h1 : Keeps 0x7FFFFFFFFFFFFFFFFFFFFFFFFFFFFFFFFFFFFFFFFFFFFFFFFFFFFFFFFFFFFFFFFFFFFFFFFFFFFFFFFFFFFFFFFFFFFFFFFFFFF7FFFFF840400C8 s x0 := by unfold x0; repeat' first | with_reducible assumption | apply Eq.refl | with_reducible apply Keeps.step (State.plainW_keeps ..)
  try clear_value x0
  repeat' first | with_reducible assumption | apply Eq.refl | (with_reducible first | apply Keeps.step (State.ethCtrlW_keeps ..) | apply Keeps.step (State.mdioW_keeps ..) | apply Keeps.step (State.reofs_keeps ..) | apply Keeps.step (State.plainW_keeps ..) | apply Keeps.step (State.tapShow_keeps ..) | apply Keeps.step (State.genericW_keeps ..) | apply Keeps.ite) | split

theorem State.chnW_keeps (s : State) (a : ℕ) (v : ℕ) (hw : ℕ) :
    Keeps 0x7FFFFFFFFFFFFFFFFFFFFFFFFFFFFFFFFFFFFFFFFFFFFFFFFFFFFFFFFFFFFFFFFFFFFFFFFFFFFFFFFFFFFFFFFFFFFFFFFFFFF7FFFFF818420C8 s (State.chnW s a v hw) := by
  have h0 : Keeps 0x7FFFFFFFFFFFFFFFFFFFFFFFFFFFFFFFFFFFFFFFFFFFFFFFFFFFFFFFFFFFFFFFFFFFFFFFFFFFFFFFFFFFFFFFFFFFFFFFFFFFF7FFFFF818420C8 s s := Keeps.refl _ _
  unfold State.chnW
  extract_lets x0
  have h1 : Keeps 0x7FFFFFFFFFFFFFFFFFFFFFFFFFFFFFFFFFFFFFFFFFFFFFFFFFFFFFFFFFFFFFFFFFFFFFFFFFFFFFFFFFFFFFFFFFFFFFFFFFFFF7FFFFF818420C8 s x0 := by unfold x0; repeat' first | with_reducible assumption | apply Eq.refl | (with_reducible first | apply Keeps.step (State.askMaster_keeps ..) | apply Keeps.ite) | split
  try clear_value x0
  repeat' first | with_reducible assumption | apply Eq.refl | (with_reducible first | apply Keeps.step (State.becomeOrphan_keeps ..) | apply Keeps.step (State.plainW_keeps ..) | apply Keeps.step (State.genericW_keeps ..) | apply Keeps.ite) | split

theorem State.tmxW_keeps (s : State) (a : ℕ) (v : ℕ) (hw : ℕ) :
    Keeps 0x7FFFFFFFFFFFFFFFFFFFFFFFFFFFFFFFFFFFFFFFFFFFFFFFFFFFFFFFFFFFFFFFFFFFFFFFFFFFFFFFFFFFFFFFFFFFFFFFFFFFFFFFFFFC3E776C8 s (State.tmxW s a v hw) := by
  have h0 : Keeps 0x7FFFFFFFFFFFFFFFFFFFFFFFFFFFFFFFFFFFFFFFFFFFFFFFFFFFFFFFFFFFFFFFFFFFFFFFFFFFFFFFFFFFFFFFFFFFFFFFFFFFFFFFFFFC3E776C8 s s := Keeps.refl _ _
  unfold State.tmxW
  repeat' first | with_reducible assumption | apply Eq.refl | (with_reducible first | apply Keeps.step (State.bscanW_keeps ..) | apply Keeps.step (State.blindW_keeps ..) | apply Keeps.step (State.tpctlW_keeps ..) | apply Keeps.step (State.tpdataW_keeps ..) | apply Keeps.step (State.genericW_keeps ..) | apply Keeps.ite) | split

theorem State.protErr_keeps (s : State) :
    Keeps 0x4000000000000008 s (State.protErr s) := by
  have h0 : Keeps 0x4000000000000008 s s := Keeps.refl _ _
  unfold State.protErr
  repeat' first | with_reducible assumption | apply Eq.refl | intro c | with_reducible apply State.set_keeps | ((with_reducible apply Has.fam (GLB_STAT_PROTERR_cls ..)); exact Eq.refl true)

theorem State.mbxSendW_keeps (s : State) (c : ℕ) (up : Bool) :
    Keeps 0x40000080000208 s (State.mbxSendW s c up) := by
  have h0 : Keeps 0x40000080000208 s s := Keeps.refl _ _
  unfold State.mbxSendW
  extract_lets _ x1
  have h2 : Keeps 0x40000080000208 s x1 := by unfold x1; repeat' first | with_reducible assumption | apply Eq.refl | with_reducible apply Keeps.step (State.setMbx_keeps ..)
  try clear_value x1
  repeat' first | with_reducible assumption | apply Eq.refl | intro c | (with_reducible first | apply State.set_keeps | apply Keeps.step (State.setMbx_keeps ..) | apply Keeps.step (State.emit_keeps ..) | apply Keeps.ite) | ((with_reducible apply Has.fam (MBX_UPCTL_OVF_cls ..)); exact Eq.refl true) | ((with_reducible apply Has.fam (MBX_DNCTL_OVF_cls ..)); exact Eq.refl true) | split | extract_lets

theorem State.mbxPopW_keeps (s : State) (c : ℕ) (up : Bool) :
    Keeps 0x1400000C1000288 s (State.mbxPopW s c up) := by
  have h0 : Keeps 0x1400000C1000288 s s := Keeps.refl _ _
  unfold State.mbxPopW
  repeat' first | with_reducible assumption | apply Eq.refl | (with_reducible first | apply Keeps.step (State.setMbx_keeps ..) | apply Keeps.step (State.mbxPump_keeps ..) | apply Keeps.ite) | split | extract_lets

theorem State.mbxW_keeps (s : State) (r : Requester) (a : ℕ) (v : ℕ) (hw : ℕ) :
    Keeps 0x7FFFFFFFFFFFFFFFFFFFFFFFFFFFFFFFFFFFFFFFFFFFFFFFFFFFFFFFFFFFFFFFFFFFFFFFFFFFFFFFFFFFFFFFFFFFFFFFFFFFF7FFFFFC1040288 s (State.mbxW s r a v hw) := by
  have h0 : Keeps 0x7FFFFFFFFFFFFFFFFFFFFFFFFFFFFFFFFFFFFFFFFFFFFFFFFFFFFFFFFFFFFFFFFFFFFFFFFFFFFFFFFFFFFFFFFFFFFFFFFFFFF7FFFFFC1040288 s s := Keeps.refl _ _
  unfold State.mbxW
  extract_lets _ _ _ _ x4
  have h5 : Keeps 0x7FFFFFFFFFFFFFFFFFFFFFFFFFFFFFFFFFFFFFFFFFFFFFFFFFFFFFFFFFFFFFFFFFFFFFFFFFFFFFFFFFFFFFFFFFFFFFFFFFFFF7FFFFFC1040288 s x4 := by unfold x4; repeat' first | with_reducible assumption | apply Eq.refl | with_reducible apply Keeps.step (State.plainW_keeps ..)
  try clear_value x4
  repeat' first | with_reducible assumption | apply Eq.refl | (with_reducible first | apply Keeps.step (State.plainW_keeps ..) | apply Keeps.step (State.protErr_keeps ..) | apply Keeps.step (State.mbxSendW_keeps ..) | apply Keeps.step (State.mbxPopW_keeps ..) | apply Keeps.ite) | split | extract_lets

theorem State.regPut_keeps (s : State) (r : Requester) (a : ℕ) (v : ℕ) (hw : ℕ) :
    Keeps 0x7FFFFFFFFFFFFFFFFFFFFFFFFFFFFFFFFFFFFFFFFFFFFFFFFFFFFFFFFFFFFFFFFFFFFFFFFFFFFFFFFFFFFFFFFFFFFFFFFFFFFFFFFFFEFFF77F8 s (State.regPut s r a v hw) := by
  have h0 : Keeps 0x7FFFFFFFFFFFFFFFFFFFFFFFFFFFFFFFFFFFFFFFFFFFFFFFFFFFFFFFFFFFFFFFFFFFFFFFFFFFFFFFFFFFFFFFFFFFFFFFFFFFFFFFFFFEFFF77F8 s s := Keeps.refl _ _
  unfold State.regPut
  repeat' first | with_reducible assumption | apply Eq.refl | (with_reducible first | apply Keeps.step (State.glbW_keeps ..) | apply Keeps.step (State.evtW_keeps ..) | apply Keeps.step (State.houseW_keeps ..) | apply Keeps.step (State.stgW_keeps ..) | apply Keeps.step (State.tilW_keeps ..) | apply Keeps.step (State.corW_keeps ..) | apply Keeps.step (State.calW_keeps ..) | apply Keeps.step (State.brdW_keeps ..) | apply Keeps.step (State.kntW_keeps ..) | apply Keeps.step (State.vrdW_keeps ..) | apply Keeps.step (State.ejsW_keeps ..) | apply Keeps.step (State.driveW_keeps ..) | apply Keeps.step (State.memW_keeps ..) | apply Keeps.step (State.portW_keeps ..) | apply Keeps.step (State.ethW_keeps ..) | apply Keeps.step (State.chnW_keeps ..) | apply Keeps.step (State.loopCtrlW_keeps ..) | apply Keeps.step (State.genericW_keeps ..) | apply Keeps.step (State.loopSetW_keeps ..) | apply Keeps.step (State.tmxW_keeps ..) | apply Keeps.step (State.mbxW_keeps ..) | apply Keeps.ite) | split | extract_lets

theorem State.regWriteBy_keeps (s : State) (r : Requester) (a : ℕ) (v : ℕ) (hw : ℕ) :
    Keeps 0x7FFFFFFFFFFFFFFFFFFFFFFFFFFFFFFFFFFFFFFFFFFFFFFFFFFFFFFFFFFFFFFFFFFFFFFFFFFFFFFFFFFFFFFFFFFFFFFFFFFFFFFFFFFEFFF77F8 s (State.regWriteBy s r a v hw) := by
  have h0 : Keeps 0x7FFFFFFFFFFFFFFFFFFFFFFFFFFFFFFFFFFFFFFFFFFFFFFFFFFFFFFFFFFFFFFFFFFFFFFFFFFFFFFFFFFFFFFFFFFFFFFFFFFFFFFFFFFEFFF77F8 s s := Keeps.refl _ _
  unfold State.regWriteBy
  repeat' first | with_reducible assumption | apply Eq.refl | intro c | (with_reducible first | apply State.guardW_keeps | apply Keeps.step (State.regPut_keeps ..)) | ((with_reducible apply Has.fam (GLB_STAT_PROTERR_cls ..)); exact Eq.refl true)

theorem State.readEffect_keeps (s : State) (a : ℕ) :
    Keeps 0x4000000000000000000000000000000000000000000000000000000000000000004000000000000000000000000000000000000004000000008 s (State.readEffect s a) := by
  have h0 : Keeps 0x4000000000000000000000000000000000000000000000000000000000000000004000000000000000000000000000000000000004000000008 s s := Keeps.refl _ _
  unfold State.readEffect
  repeat' first | with_reducible assumption | apply Eq.refl | intro c | (with_reducible first | apply Keeps.step (State.ptAdvance_keeps ..) | apply Keeps.step (State.cfAdvance_keeps ..) | apply State.incr_keeps | apply Keeps.step (State.tpAdvance_keeps ..) | apply Keeps.ite) | ((with_reducible apply Has.fam (CAL_REFSEL_LANE_cls ..)); exact Eq.refl true) | split | extract_lets

theorem State.readBy_keeps (s : State) (r : Requester) (a : ℕ) :
    Keeps 0x400000000000000000000000000000007E0002800000000000000000000000000040000000000000000000000000000008001010042000001D8 s (State.readBy s r a).1 := by
  have h0 : Keeps 0x400000000000000000000000000000007E0002800000000000000000000000000040000000000000000000000000000008001010042000001D8 s s := Keeps.refl _ _
  unfold State.readBy
  repeat' first | with_reducible assumption | apply Eq.refl | (with_reducible first | apply Keeps.step (State.tableReadBy_keeps ..) | apply Keeps.step (State.setWin_keeps ..) | apply Keeps.step (State.readEffect_keeps ..) | apply Keeps.ite) | split | extract_lets

theorem State.readSeq_keeps (s : State) (r : Requester) (a n : Nat) : Keeps 0x400000000000000000000000000000007E0002800000000000000000000000000040000000000000000000000000000008001010042000001D8 s (s.readSeq r a n).1 := by
  induction n generalizing s a with
  | zero => exact Keeps.refl _ _
  | succ n ih => exact Keeps.comp (ih _ _) (by decide) (Keeps.comp (State.readBy_keeps ..) (by decide) (Keeps.refl _ _))

theorem State.saveRead_keeps (s : State) : Keeps 0x8000000 s s.saveRead := by
  unfold State.saveRead
  split
  · exact Keeps.put_flash (v := { s.flash with saving := some s.savedNow }) (Keeps.refl _ s) rfl (fun c => c.saved)
      fun c => setWf_some (setWf_savedNow c)
  · exact Keeps.refl _ _

theorem State.bootField_keeps (s : State) (k v : Nat) : Keeps 0x7FFFFFFFFFFFFFFFFFFFFFFFFFFFFFFFFFFFFFFFFFFFFFFFFFFFFFFFFFFFFFFFFFFFFFFFFFFFFFFFFFFFFFFFFFFFFFFFFFFFF7FFFFF00040408 s (s.bootField k v) := by
  have h0 := Keeps.refl 0x7FFFFFFFFFFFFFFFFFFFFFFFFFFFFFFFFFFFFFFFFFFFFFFFFFFFFFFFFFFFFFFFFFFFFFFFFFFFFFFFFFFFFFFFFFFFFFFFFFFFF7FFFFF00040408 s
  unfold State.bootField
  split
  · exact h0
  · rename_i f hf
    have hh : Has 0x7FFFFFFFFFFFFFFFFFFFFFFFFFFFFFFFFFFFFFFFFFFFFFFFFFFFFFFFFFFFFFFFFFFFFFFFFFFFFFFFFFFFFFFFFFFFFFFFFFFFF7FFFFF00040408 f := has_most (fieldOfKey_ne hf) (by rfl)
    extract_lets t n
    have h1 : Keeps 0x7FFFFFFFFFFFFFFFFFFFFFFFFFFFFFFFFFFFFFFFFFFFFFFFFFFFFFFFFFFFFFFFFFFFFFFFFFFFFFFFFFFFFFFFFFFFFFFFFFFFF7FFFFF00040408 s t := Keeps.ite (State.setForce_keeps h0 hh (by decide)) (Keeps.set h0 hh)
    clear_value t
    repeat' first | with_reducible assumption | apply Eq.refl | with_reducible apply Keeps.step (State.setTile_keeps ..) | with_reducible apply Keeps.ite | with_reducible apply Keeps.put_sensor

theorem State.serviceField_keeps (s : State) (k v : Nat) : Keeps 0x7FFFFFFFFFFFFFFFFFFFFFFFFFFFFFFFFFFFFFFFFFFFFFFFFFFFFFFFFFFFFFFFFFFFFFFFFFFFFFFFFFFFFFFFFFFFFFFFFFFFF7FFFFF000C0408 s (s.serviceField k v) := by
  have h0 := Keeps.refl 0x7FFFFFFFFFFFFFFFFFFFFFFFFFFFFFFFFFFFFFFFFFFFFFFFFFFFFFFFFFFFFFFFFFFFFFFFFFFFFFFFFFFFFFFFFFFFFFFFFFFFF7FFFFF000C0408 s
  unfold State.serviceField
  split
  · exact h0
  · rename_i f hf
    have hh : Has 0x7FFFFFFFFFFFFFFFFFFFFFFFFFFFFFFFFFFFFFFFFFFFFFFFFFFFFFFFFFFFFFFFFFFFFFFFFFFFFFFFFFFFFFFFFFFFFFFFFFFFF7FFFFF000C0408 f := has_most (fieldOfKey_ne hf) (by rfl)
    repeat' first | with_reducible assumption | apply Eq.refl | with_reducible apply Keeps.step (State.stgFrateW_keeps ..) | with_reducible apply Keeps.step (State.stgBiasW_keeps ..) | with_reducible apply Keeps.step (State.tilGainW_keeps ..) | with_reducible apply Keeps.step (State.askTables_keeps ..) | with_reducible apply State.stageFld_keeps | with_reducible apply State.set_keeps | with_reducible apply Keeps.ite

theorem State.loadFields_keeps (s : State) (x : SavedSet) (boot : Bool) :
    Keeps 0x7FFFFFFFFFFFFFFFFFFFFFFFFFFFFFFFFFFFFFFFFFFFFFFFFFFFFFFFFFFFFFFFFFFFFFFFFFFFFFFFFFFFFFFFFFFFFFFFFFFFF7FFFFF000C0408 s (State.loadFields s x boot) := by
  have h0 : Keeps 0x7FFFFFFFFFFFFFFFFFFFFFFFFFFFFFFFFFFFFFFFFFFFFFFFFFFFFFFFFFFFFFFFFFFFFFFFFFFFFFFFFFFFFFFFFFFFFFFFFFFFF7FFFFF000C0408 s s := Keeps.refl _ _
  unfold State.loadFields
  repeat' first | with_reducible assumption | apply Eq.refl | intro c | (with_reducible first | apply Keeps.step (State.bootField_keeps ..) | apply Keeps.step (State.serviceField_keeps ..) | apply Keeps.ite | apply Keeps.foldl) | split

theorem State.loadPixels_keeps {m : Nat} {a s : State} {x : SavedSet} (h : Keeps m a s)
    (hm : 0x4000030800000000000000000000000000000000001088 &&& m = 0x4000030800000000000000000000000000000000001088) (hx : Canon a → SetWf x) : Keeps m a (s.loadPixels x) := by
  have hr : ∀ f, hasBit 0x4000030800000000000000000000000000000000001088 f = true → Has m f := fun f hf => (Has.closed hf).mono hm
  have h1 : m.testBit 12 = true := by
    have := congrArg (fun y => y.testBit 12) hm
    simp only [Nat.testBit_and, show Nat.testBit 0x4000030800000000000000000000000000000000001088 12 = true from rfl, Bool.true_and] at this
    exact this
  have h2 : m.testBit 7 = true := by
    have := congrArg (fun y => y.testBit 7) hm
    simp only [Nat.testBit_and, show Nat.testBit 0x4000030800000000000000000000000000000000001088 7 = true from rfl, Bool.true_and] at this
    exact this
  have hs : Keeps m a ((((s.set Reg.COR_TREF_A_TEMP x.tref).set Reg.COR_TREF_B_TEMP x.tref).set Reg.COR_OSEL_ACT x.osel).set
      Reg.CAL_LASTSTAGE_TEMP x.tref) :=
    Keeps.set (Keeps.set (Keeps.set (Keeps.set h (hr _ (by rfl))) (hr _ (by rfl))) (hr _ (by rfl)))
      (hr _ (by rfl))
  exact Keeps.put_mem (Keeps.put_corr (v := { s.corr with pb := x.pb, marks := [] }) hs h1 fun c => (hx c).pb) h2

theorem State.loadTile_keeps (s : State) (x : SavedTile) (boot : Bool) :
    Keeps 0x4000000408 s (State.loadTile s x boot) := by
  have h0 : Keeps 0x4000000408 s s := Keeps.refl _ _
  unfold State.loadTile
  extract_lets _ x1
  have h2 : Keeps 0x4000000408 s x1 := by unfold x1; repeat' first | with_reducible assumption | apply Eq.refl | with_reducible apply Keeps.step (State.setTile_keeps ..)
  try clear_value x1
  repeat' first | with_reducible assumption | apply Eq.refl | intro c | (with_reducible first | apply State.set_keeps | apply Keeps.step (State.stagePut_keeps ..) | apply Keeps.step (State.setTile_keeps ..) | apply Keeps.ite | apply Keeps.foldl) | (exact skimFld_has (Eq.refl true)) | split | extract_lets

theorem State.wordsFresh_keeps (s : State) (lo : ℕ) (n : ℕ) :
    Keeps 0x80 s (State.wordsFresh s lo n) := by
  have h0 : Keeps 0x80 s s := Keeps.refl _ _
  unfold State.wordsFresh
  repeat' first | with_reducible assumption | apply Eq.refl | extract_lets | with_reducible apply Keeps.put_mem

theorem State.tableFresh_keeps (s : State) (id : ℕ) :
    Keeps 0x80 s (State.tableFresh s id) := by
  have h0 : Keeps 0x80 s s := Keeps.refl _ _
  unfold State.tableFresh
  repeat' first | with_reducible assumption | apply Eq.refl | with_reducible apply Keeps.step (State.wordsFresh_keeps ..)

theorem State.loadBanks_keeps {m : Nat} {a s : State} {x : SavedSet} {boot : Bool} (h : Keeps m a s)
    (hm : 0x40000000000000000000000000000000000000000000000000280088 &&& m = 0x40000000000000000000000000000000000000000000000000280088) (hx : Canon a → SetWf x) : Keeps m a (s.loadBanks x boot) := by
  have hb : ∀ i, Nat.testBit 0x40000000000000000000000000000000000000000000000000280088 i = true → m.testBit i = true := fun i hi => by
    have := congrArg (fun y => y.testBit i) hm
    simp only [Nat.testBit_and, hi, Bool.true_and] at this
    exact this
  have sub : ∀ n : Nat, n &&& 0x40000000000000000000000000000000000000000000000000280088 = n → n &&& m = n := fun n hn => by
    have := congrArg (fun y => n &&& y) hm
    rw [← Nat.and_assoc, hn] at this
    exact this
  unfold State.loadBanks
  extract_lets s1 s2 s3
  have h2 : Keeps m a s2 := by
    refine Keeps.comp (State.tableFresh_keeps ..) (sub _ (by decide)) (Keeps.comp (State.tableFresh_keeps ..) (sub _ (by decide)) ?_)
    exact Keeps.put_sched h (hb _ (by decide)) (fun c => (hx c).cls) fun c => (hx c).map
  split
  · exact h2
  · split
    · exact Keeps.put_braid h2 (hb _ (by decide)) fun c => (h2.canon c).ub
    · exact Keeps.comp (State.giveSet_keeps ..) (sub _ (by decide)) h2

theorem State.loadSet_keeps {m : Nat} {a s : State} {x : SavedSet} {boot : Bool} (h : Keeps m a s)
    (hm : 0x7FFFFFFFFFFFFFFFFFFFFFFFFFFFFFFFFFFFFFFFFFFFFFFFFFFFFFFFFFFFFFFFFFFFFFFFFFFFFFFFFFFFFFFFFFFFFFFFFFFFF7FFFFF202C1488 &&& m = 0x7FFFFFFFFFFFFFFFFFFFFFFFFFFFFFFFFFFFFFFFFFFFFFFFFFFFFFFFFFFFFFFFFFFFFFFFFFFFFFFFFFFFFFFFFFFFFFFFFFFFF7FFFFF202C1488) (hx : Canon a → SetWf x) : Keeps m a (s.loadSet x boot) := by
  have hb : ∀ i, Nat.testBit 0x7FFFFFFFFFFFFFFFFFFFFFFFFFFFFFFFFFFFFFFFFFFFFFFFFFFFFFFFFFFFFFFFFFFFFFFFFFFFFFFFFFFFFFFFFFFFFFFFFFFFF7FFFFF202C1488 i = true → m.testBit i = true := fun i hi => by
    have := congrArg (fun y => y.testBit i) hm
    simp only [Nat.testBit_and, hi, Bool.true_and] at this
    exact this
  have sub : ∀ n : Nat, n &&& 0x7FFFFFFFFFFFFFFFFFFFFFFFFFFFFFFFFFFFFFFFFFFFFFFFFFFFFFFFFFFFFFFFFFFFFFFFFFFFFFFFFFFFFFFFFFFFFFFFFFFFF7FFFFF202C1488 = n → n &&& m = n := fun n hn => by
    have := congrArg (fun y => n &&& y) hm
    rw [← Nat.and_assoc, hn] at this
    exact this
  refine Keeps.put_house (State.loadBanks_keeps ?_ (sub _ (by decide)) hx) (hb _ (by decide))
  refine Keeps.foldl (State.loadPixels_keeps ?_ (sub _ (by decide)) hx) fun y b hy => Keeps.comp (State.loadTile_keeps ..) (sub _ (by decide)) hy
  exact Keeps.comp (State.loadFields_keeps ..) (sub _ (by decide)) h

theorem State.loadNewest_keeps (s : State) (boot : Bool) : Keeps 0x7FFFFFFFFFFFFFFFFFFFFFFFFFFFFFFFFFFFFFFFFFFFFFFFFFFFFFFFFFFFFFFFFFFFFFFFFFFFFFFFFFFFFFFFFFFFFFFFFFFFF7FFFFF202C14C8 s (s.loadNewest boot).1 := by
  unfold State.loadNewest
  split
  · rename_i x hs
    exact State.loadSet_keeps (Keeps.refl _ _) (by decide) fun c => c.saved x hs
  · exact Keeps.foldl (State.loadSet_keeps (Keeps.refl _ _) (by decide) fun _ => setWf_factory)
      fun y b hy => Keeps.comp (State.record_keeps ..) (by decide) hy

theorem State.reloadTable_keeps (s : State) (id : ℕ) :
    Keeps 0x8006000040000000000000000000000000000000000000000000000000280088 s (State.reloadTable s id) := by
  have h0 : Keeps 0x8006000040000000000000000000000000000000000000000000000000280088 s s := Keeps.refl _ _
  unfold State.reloadTable
  repeat' first | (with_reducible first | assumption | apply mwf_bankOnto | apply mwf_mset | apply Canon.cls | apply Canon.map | apply Keeps.canon) | apply Eq.refl | intro c | (with_reducible first | apply Keeps.step (State.askTables_keeps ..) | apply Keeps.step (State.shadowFresh_keeps ..) | apply Keeps.step (State.giveSet_keeps ..) | apply Keeps.step (State.tableFresh_keeps ..) | apply Keeps.step (State.vrdSwitchS_keeps ..) | apply Keeps.step (State.wordsFresh_keeps ..) | apply Keeps.step (State.mapswS_keeps ..) | apply Keeps.ite) | split | extract_lets | with_reducible apply Keeps.put_sched

theorem State.reloadEnd_keeps (s : State) (id : ℕ) (good : Bool) :
    Keeps 0x40000E00000008000000700000000000004C04FE00000800600004000000807880B00C0300000000000000000003029C06002E3EA76C8 s (State.reloadEnd s id good) := by
  have h0 : Keeps 0x40000E00000008000000700000000000004C04FE00000800600004000000807880B00C0300000000000000000003029C06002E3EA76C8 s s := Keeps.refl _ _
  unfold State.reloadEnd
  extract_lets x0
  have h1 : Keeps 0x40000E00000008000000700000000000004C04FE00000800600004000000807880B00C0300000000000000000003029C06002E3EA76C8 s x0 := by unfold x0; repeat' first | with_reducible assumption | apply Eq.refl | (with_reducible first | apply Keeps.step (State.record_keeps ..) | apply Keeps.step (State.reloadTable_keeps ..))
  try clear_value x0
  repeat' first | with_reducible assumption | apply Eq.refl | (with_reducible first | apply Keeps.step (State.fwFault_keeps ..) | apply Keeps.ite) | split | extract_lets | with_reducible apply Keeps.put_house

theorem State.powerUp_keeps (s : State) (vio33 : Bool) :
    Keeps 0x20 s (State.powerUp s vio33) := by
  have h0 : Keeps 0x20 s s := Keeps.refl _ _
  unfold State.powerUp
  repeat' first | with_reducible assumption | apply Eq.refl | with_reducible apply Keeps.ite | split | with_reducible apply Keeps.put_power

theorem State.release_keeps (s : State) : Keeps 0x7FFFFFFFFFFFFFFFFFFFFFFFFFFFFFFFFFFFFFFFFFFFFFFFFFFFFFFFFFFFFFFFFFFFFFFFFFFFFFFFFFFFFFFFFFFFFFFFFFFFFFFFFFFFFFFFFFE s s.release := by
  have h : Keeps 0x7FFFFFFFFFFFFFFFFFFFFFFFFFFFFFFFFFFFFFFFFFFFFFFFFFFFFFFFFFFFFFFFFFFFFFFFFFFFFFFFFFFFFFFFFFFFFFFFFFFFFFFFFFFFFFFFFFE s { State.fresh s.fuses s.flash.afterReset s.power.latch s.free s.outs with pending := s.pending } :=
    { pending := rfl
      fuses := rfl
      sent := List.prefix_refl _
      drawn := Nat.le_refl _
      canon := fun c => ⟨rising_resetRegs _ _ _, mwf_nil _, mwf_nil _, mwf_nil _, mwf_nil _, mwf_nil _, mwf_nil _,
        mwf_nil _, mwf_nil _, ⟨mwf_nil _, mwf_nil _, mwf_nil _, mwf_nil _, mwf_nil _⟩, c.saved, by intro y hy; cases hy⟩
      same := by constructor <;> intro h <;> exact absurd h (by decide)
      fields := fun g b => by
        have : Nat.testBit 0x7FFFFFFFFFFFFFFFFFFFFFFFFFFFFFFFFFFFFFFFFFFFFFFFFFFFFFFFFFFFFFFFFFFFFFFFFFFFFFFFFFFFFFFFFFFFFFFFFFFFFFFFFFFFFFFFFFE (32 + g.cls) = true := allBits _ (by decide +kernel) g
        rw [this] at b
        cases b
      legal := fun _ => by
        rw [show State.mode { State.fresh s.fuses s.flash.afterReset s.power.latch s.free s.outs with pending := s.pending } = 0
          from resetRegs_state _ _ _]
        decide }
  unfold State.release
  extract_lets t
  exact State.setB_keeps (Keeps.put_power h rfl) ⟨rfl⟩

theorem State.railUp_keeps (s : State) :
    Keeps 0x7FFFFFFFFFFFFFFFFFFFFFFFFFFFFFFFFFFFFFFFFFFFFFFFFFFFFFFFFFFFFFFFFFFFFFFFFFFFFFFFFFFFFFFFFFFFFFFFFFFFFFFFFFFFFFFFFFE s (State.railUp s) := by
  have h0 : Keeps 0x7FFFFFFFFFFFFFFFFFFFFFFFFFFFFFFFFFFFFFFFFFFFFFFFFFFFFFFFFFFFFFFFFFFFFFFFFFFFFFFFFFFFFFFFFFFFFFFFFFFFFFFFFFFFFFFFFFE s s := Keeps.refl _ _
  unfold State.railUp
  repeat' first | with_reducible assumption | apply Eq.refl | (with_reducible first | apply Keeps.step (State.release_keeps ..) | apply Keeps.ite) | split | extract_lets | with_reducible apply Keeps.put_power

theorem State.railDown_keeps (s : State) :
    Keeps 0x4C04F6000000000000000000000000000000000000000000000000000000000600000620028 s (State.railDown s) := by
  have h0 : Keeps 0x4C04F6000000000000000000000000000000000000000000000000000000000600000620028 s s := Keeps.refl _ _
  unfold State.railDown
  repeat' first | with_reducible assumption | apply Eq.refl | (with_reducible first | apply Keeps.step (State.resetStart_keeps ..) | apply Keeps.ite) | split

theorem State.discover_keeps (s : State) :
    Keeps 0x2619800000000000000000000000000000000000000000000000000000000000000000000000001000002000000C8 s (State.discover s) := by
  have h0 : Keeps 0x2619800000000000000000000000000000000000000000000000000000000000000000000000001000002000000C8 s s := Keeps.refl _ _
  unfold State.discover
  extract_lets _ x1 x2
  have h2 : Keeps 0x2619800000000000000000000000000000000000000000000000000000000000000000000000001000002000000C8 s x1 := by unfold x1; repeat' first | with_reducible assumption | apply Eq.refl | intro c | with_reducible apply State.set_keeps | ((with_reducible apply Has.fam (FLS_ID_JEDEC_cls ..)); exact Eq.refl true)
  try clear_value x1
  have h3 : Keeps 0x2619800000000000000000000000000000000000000000000000000000000000000000000000001000002000000C8 s x2 := by unfold x2; repeat' first | with_reducible assumption | apply Eq.refl | intro c | (with_reducible first | apply State.set_keeps | apply Keeps.ite) | ((with_reducible apply Has.fam (FLS_STAT_READ_cls ..)); exact Eq.refl true) | ((with_reducible apply Has.fam (FLS_SIZE_MIB_cls ..)); exact Eq.refl true) | split
  try clear_value x2
  repeat' first | with_reducible assumption | apply Eq.refl | intro c | (with_reducible first | apply State.setB_keeps | apply State.set_keeps | apply Keeps.step (State.raise_keeps ..) | apply State.bump_keeps | apply Keeps.ite) | ((with_reducible apply Has.fam (FLS_STAT_SUSPOK_cls ..)); exact Eq.refl true) | ((with_reducible apply Has.fam (FLS_STAT_ADDR4_cls ..)); exact Eq.refl true) | ((with_reducible apply Has.fam (FLS_ERRCNT_COUNT_cls ..)); exact Eq.refl true) | ((with_reducible apply Has.fam (FLS_STAT_DISCERR_cls ..)); exact Eq.refl true) | split | extract_lets

theorem State.imageRecord_keeps (s : State) (slot : ℕ) :
    Keeps 0x1000002000000D8 s (State.imageRecord s slot) := by
  have h0 : Keeps 0x1000002000000D8 s s := Keeps.refl _ _
  unfold State.imageRecord
  extract_lets x0 x1
  have h1 : Keeps 0x1000002000000D8 s x0.2 := by unfold x0; repeat' first | with_reducible assumption | apply Eq.refl | with_reducible apply Keeps.step (State.draw_keeps ..)
  try clear_value x0
  have h2 : Keeps 0x1000002000000D8 s x1.2 := by unfold x1; repeat' first | with_reducible assumption | apply Eq.refl | with_reducible apply Keeps.step (State.draw_keeps ..)
  try clear_value x1
  repeat' first | with_reducible assumption | apply Eq.refl | with_reducible apply Keeps.step (State.record_keeps ..)

theorem State.runSlot_keeps (s : State) (i : Nat) : Keeps 0x207000002080000E8 s (s.runSlot i) := by
  unfold State.runSlot
  extract_lets n u v t t2
  have h : Keeps 0x207000002080000E8 s t :=
    Keeps.put_power (v := { s.power with fw := true }) (Keeps.put_flash (v := { s.flash with booted := i, boots := n }) (Keeps.refl _ s) rfl (fun c => c.saved) fun c => c.saving) rfl
  have h2 : Keeps 0x207000002080000E8 s t2 := setK (setK (setK h))
  exact Keeps.comp (State.record_keeps ..) (by decide) h2

theorem State.bootSlot_keeps (s : State) : Keeps 0x26198000000000000000000000000000000000000000000000000000000000000000000000002070000020A0000F8 s s.bootSlot := by
  have h1 : Keeps 0x26198000000000000000000000000000000000000000000000000000000000000000000000002070000020A0000F8 s s.discover := Keeps.comp (State.discover_keeps ..) (by decide) (Keeps.refl _ _)
  unfold State.bootSlot
  generalize s.discover = x1 at *
  extract_lets y1 p x2 a other u1 u2 x3 u3 x4
  have h2 : Keeps 0x26198000000000000000000000000000000000000000000000000000000000000000000000002070000020A0000F8 s x2 := by
    refine Keeps.put_flash h1 rfl (fun c => ?_) fun c => ?_
    · show ∀ y ∈ x1.flash.tryBoot.1.saved, SetWf y
      rw [(tryBoot_saved _).1]; exact (h1.canon c).saved
    · show ∀ y ∈ x1.flash.tryBoot.1.saving, SetWf y
      rw [(tryBoot_saved _).2]; exact (h1.canon c).saving
  have h3 : Keeps 0x26198000000000000000000000000000000000000000000000000000000000000000000000002070000020A0000F8 s x3 := by
    unfold x3
    split
    · exact Keeps.comp (State.runSlot_keeps ..) (by decide) h2
    · split
      · exact Keeps.comp (State.imageRecord_keeps ..) (by decide) (Keeps.comp (State.runSlot_keeps ..) (by decide) h2)
      · exact Keeps.put_power (v := { x2.power with fw := true }) (Keeps.put_flash (v := { x2.flash with recovery := true }) h2 rfl (fun c => (h2.canon c).saved) fun c => (h2.canon c).saving) rfl
  have h4 : Keeps 0x26198000000000000000000000000000000000000000000000000000000000000000000000002070000020A0000F8 s x4 := Keeps.put_ssp h3 rfl
  split
  · exact h1
  · split
    · exact Keeps.comp (State.imageRecord_keeps ..) (by decide) (Keeps.comp (State.raise_keeps ..) (by decide) h4)
    · exact h4

theorem State.bootCheck_keeps (s : State) :
    Keeps 0x26198000000000000000000000000000000000000000000000000000000000000000000000002070000020A0000F8 s (State.bootCheck s) := by
  have h0 : Keeps 0x26198000000000000000000000000000000000000000000000000000000000000000000000002070000020A0000F8 s s := Keeps.refl _ _
  unfold State.bootCheck
  repeat' first | with_reducible assumption | apply Eq.refl | (with_reducible first | apply Keeps.step (State.bootSlot_keeps ..) | apply Keeps.ite) | split

theorem State.ddrTrain_keeps (s : State) :
    Keeps 0x34000000000000000000000000000000000000000000000000000000000000000000000000000000000008 s (State.ddrTrain s) := by
  have h0 : Keeps 0x34000000000000000000000000000000000000000000000000000000000000000000000000000000000008 s s := Keeps.refl _ _
  unfold State.ddrTrain
  repeat' first | with_reducible assumption | apply Eq.refl | intro c | (with_reducible first | apply State.set_keeps | apply State.setB_keeps | apply Keeps.ite) | ((with_reducible apply Has.fam (MEM_DDRSTAT_CAPMB_cls ..)); exact Eq.refl true) | ((with_reducible apply Has.fam (MEM_DDRSTAT_IECCACT_cls ..)); exact Eq.refl true) | ((with_reducible apply Has.fam (MEM_DDRSTAT_TRAINED_cls ..)); exact Eq.refl true) | split | extract_lets

theorem State.dhcpStart_keeps (s : State) :
    Keeps 0x84000000 s (State.dhcpStart s) := by
  have h0 : Keeps 0x84000000 s s := Keeps.refl _ _
  unfold State.dhcpStart
  repeat' first | with_reducible assumption | apply Eq.refl | (with_reducible first | apply Keeps.step (State.emit_keeps ..) | apply Keeps.ite) | split | extract_lets | with_reducible apply Keeps.put_net

theorem State.endBoot_keeps (s : State) :
    Keeps 0x40000E00000008000000700080000000004C04FE00000000000000000000807880B00C0300000180000000000000029C06002C3E276C8 s (State.endBoot s) := by
  have h0 : Keeps 0x40000E00000008000000700080000000004C04FE00000000000000000000807880B00C0300000180000000000000029C06002C3E276C8 s s := Keeps.refl _ _
  unfold State.endBoot
  repeat' first | with_reducible assumption | apply Eq.refl | intro c | (with_reducible first | apply Keeps.setMode | apply Keeps.step (State.faultShow_keeps ..) | apply Keeps.step (State.ddrShow_keeps ..) | apply Keeps.step (State.pipelineDown_keeps ..) | apply Keeps.step (State.calAbortW_keeps ..) | apply Keeps.step (State.loopsDown_keeps ..) | apply Keeps.step (State.driveDown_keeps ..) | apply State.set_keeps | apply Keeps.step (State.warmUp_keeps ..) | apply Keeps.ite) | decide | split

theorem State.loaded_keeps (s : State) :
    Keeps 0x7FFFFFFFFFFFFFFFFFFFFFFFFFFFFFFFFFFFFFFFFFFFFFFFFFFFFFFFFFFFFFFFFFFFFFFFFFFFFFFFFFFFFFFFFFFFFFFFFFFFFFFFFFFEFEE76C8 s (State.loaded s) := by
  have h0 : Keeps 0x7FFFFFFFFFFFFFFFFFFFFFFFFFFFFFFFFFFFFFFFFFFFFFFFFFFFFFFFFFFFFFFFFFFFFFFFFFFFFFFFFFFFFFFFFFFFFFFFFFFFFFFFFFFEFEE76C8 s s := Keeps.refl _ _
  unfold State.loaded
  extract_lets x0 x1 x2 x3 _ x5
  have h1 : Keeps 0x7FFFFFFFFFFFFFFFFFFFFFFFFFFFFFFFFFFFFFFFFFFFFFFFFFFFFFFFFFFFFFFFFFFFFFFFFFFFFFFFFFFFFFFFFFFFFFFFFFFFFFFFFFFEFEE76C8 s x0 := by unfold x0; repeat' first | with_reducible assumption | apply Eq.refl | (with_reducible first | apply Keeps.step (State.askTables_keeps ..) | apply Keeps.step (State.loadNewest_keeps ..))
  try clear_value x0
  have h2 : Keeps 0x7FFFFFFFFFFFFFFFFFFFFFFFFFFFFFFFFFFFFFFFFFFFFFFFFFFFFFFFFFFFFFFFFFFFFFFFFFFFFFFFFFFFFFFFFFFFFFFFFFFFFFFFFFFEFEE76C8 s x1 := by unfold x1; repeat' first | with_reducible assumption | apply Eq.refl | intro c | (with_reducible first | apply State.setB_keeps | apply Keeps.step (State.ddrTrain_keeps ..) | apply Keeps.step (State.hkaScal_keeps ..)) | ((with_reducible apply Has.fam (TMX_CTRL_DBGEN_cls ..)); exact Eq.refl true)
  try clear_value x1
  have h3 : Keeps 0x7FFFFFFFFFFFFFFFFFFFFFFFFFFFFFFFFFFFFFFFFFFFFFFFFFFFFFFFFFFFFFFFFFFFFFFFFFFFFFFFFFFFFFFFFFFFFFFFFFFFFFFFFFFEFEE76C8 s x2 := by unfold x2; repeat' first | with_reducible assumption | apply Eq.refl | intro c | with_reducible apply State.set_keeps | ((with_reducible apply Has.fam (GLB_CORECTL_HARTON_cls ..)); exact Eq.refl true)
  try clear_value x2
  have h4 : Keeps 0x7FFFFFFFFFFFFFFFFFFFFFFFFFFFFFFFFFFFFFFFFFFFFFFFFFFFFFFFFFFFFFFFFFFFFFFFFFFFFFFFFFFFFFFFFFFFFFFFFFFFFFFFFFFEFEE76C8 s x3 := by unfold x3; repeat' first | with_reducible assumption | apply Eq.refl | (with_reducible first | apply Keeps.step (State.dhcpStart_keeps ..) | apply Keeps.step (State.chainStart_keeps ..))
  try clear_value x3
  have h6 : Keeps 0x7FFFFFFFFFFFFFFFFFFFFFFFFFFFFFFFFFFFFFFFFFFFFFFFFFFFFFFFFFFFFFFFFFFFFFFFFFFFFFFFFFFFFFFFFFFFFFFFFFFFFFFFFFFEFEE76C8 s x5 := by unfold x5; repeat' first | (with_reducible first | assumption | apply Canon.saved | apply Canon.saving | apply Keeps.canon) | apply Eq.refl | intro c | with_reducible apply Keeps.put_flash
  try clear_value x5
  repeat' first | with_reducible assumption | apply Eq.refl | with_reducible apply Keeps.step (State.endBoot_keeps ..) | extract_lets

theorem State.sessionsShow_keeps (s : State) :
    Keeps 0x10000000000000000000000000000000000000000000000000000000000000000000000000000000000000000000008 s (State.sessionsShow s) := by
  have h0 : Keeps 0x10000000000000000000000000000000000000000000000000000000000000000000000000000000000000000000008 s s := Keeps.refl _ _
  unfold State.sessionsShow
  repeat' first | with_reducible assumption | apply Eq.refl | intro c | with_reducible apply State.set_keeps | ((with_reducible apply Has.fam (ETH_STAT_SESSIONS_cls ..)); exact Eq.refl true)

theorem State.setSessions_keeps (s : State) (l : List (Source × Session)) :
    Keeps 0x10000000000000000000000000000000000000000000000000000000000000000000000000000000000000001000008 s (State.setSessions s l) := by
  have h0 : Keeps 0x10000000000000000000000000000000000000000000000000000000000000000000000000000000000000001000008 s s := Keeps.refl _ _
  unfold State.setSessions
  repeat' first | with_reducible assumption | apply Eq.refl | with_reducible apply Keeps.step (State.sessionsShow_keeps ..) | extract_lets | with_reducible apply Keeps.put_baind

theorem State.expireSessions_keeps (s : State) :
    Keeps 0x10000000000000000000000000000000000000000000000000000000000000000000000000000000000000001000008 s (State.expireSessions s) := by
  have h0 : Keeps 0x10000000000000000000000000000000000000000000000000000000000000000000000000000000000000001000008 s s := Keeps.refl _ _
  unfold State.expireSessions
  repeat' first | with_reducible assumption | apply Eq.refl | (with_reducible first | apply Keeps.step (State.setSessions_keeps ..) | apply Keeps.ite) | split | extract_lets

theorem State.openSession_keeps (s : State) (src : Source) (key : List ℕ) :
    Keeps 0x10000000000000000000000000000000000000000000000000000000000000000000000000000000000000001000008 s (State.openSession s src key) := by
  have h0 : Keeps 0x10000000000000000000000000000000000000000000000000000000000000000000000000000000000000001000008 s s := Keeps.refl _ _
  unfold State.openSession
  repeat' first | with_reducible assumption | apply Eq.refl | with_reducible apply Keeps.step (State.setSessions_keeps ..) | extract_lets

theorem State.authDone_keeps (s : State) (q : Req) (key : Option (List ℕ)) :
    Keeps 0x1000000 s (State.authDone s q key) := by
  have h0 : Keeps 0x1000000 s s := Keeps.refl _ _
  unfold State.authDone
  repeat' first | with_reducible assumption | apply Eq.refl | with_reducible apply Keeps.ite | split | extract_lets | with_reducible apply Keeps.put_baind

theorem State.countStatus_keeps (s : State) (status : ℕ) :
    Keeps 0x180000000000000000000000000000000000000000000000000000000000000000000000000000000001000002000000C8 s (State.countStatus s status) := by
  have h0 : Keeps 0x180000000000000000000000000000000000000000000000000000000000000000000000000000000001000002000000C8 s s := Keeps.refl _ _
  unfold State.countStatus
  repeat' first | with_reducible assumption | apply Eq.refl | intro c | (with_reducible first | apply Keeps.step (State.raise_keeps ..) | apply State.bump_keeps | apply Keeps.ite) | ((with_reducible apply Has.fam (ETH_BAINDERR_COUNT_cls ..)); exact Eq.refl true) | ((with_reducible apply Has.fam (ETH_AUTHFAIL_COUNT_cls ..)); exact Eq.refl true) | split

theorem State.dropPacket_keeps (s : State) :
    Keeps 0x80000000000000000000000000000000000000000000000000000000000000000000000000000000001000002000000C8 s (State.dropPacket s) := by
  have h0 : Keeps 0x80000000000000000000000000000000000000000000000000000000000000000000000000000000001000002000000C8 s s := Keeps.refl _ _
  unfold State.dropPacket
  repeat' first | with_reducible assumption | apply Eq.refl | intro c | (with_reducible first | apply Keeps.step (State.raise_keeps ..) | apply State.bump_keeps) | ((with_reducible apply Has.fam (ETH_BAINDERR_COUNT_cls ..)); exact Eq.refl true)

theorem State.keepReply_keeps (s : State) (c : CachedReply) :
    Keeps 0x1000000 s (State.keepReply s c) := by
  have h0 : Keeps 0x1000000 s s := Keeps.refl _ _
  unfold State.keepReply
  repeat' first | with_reducible assumption | apply Eq.refl | extract_lets | with_reducible apply Keeps.put_baind

theorem State.expireReplies_keeps (s : State) :
    Keeps 0x1000000 s (State.expireReplies s) := by
  have h0 : Keeps 0x1000000 s s := Keeps.refl _ _
  unfold State.expireReplies
  repeat' first | with_reducible assumption | apply Eq.refl | extract_lets | with_reducible apply Keeps.put_baind

theorem State.reply_keeps (s : State) (q : Req) (status : ℕ) (p : List ℕ) :
    Keeps 0x188000000700000000000000000000000000000000000000000000000000000000000000000000000001400002C30002C8 s (State.reply s q status p) := by
  have h0 : Keeps 0x188000000700000000000000000000000000000000000000000000000000000000000000000000000001400002C30002C8 s s := Keeps.refl _ _
  unfold State.reply
  extract_lets x0
  have h1 : Keeps 0x188000000700000000000000000000000000000000000000000000000000000000000000000000000001400002C30002C8 s x0 := by unfold x0; repeat' first | with_reducible assumption | apply Eq.refl | (with_reducible first | apply Keeps.step (State.countStatus_keeps ..) | apply Keeps.step (State.sendReply_keeps ..))
  try clear_value x0
  repeat' first | with_reducible assumption | apply Eq.refl | with_reducible apply Keeps.step (State.keepReply_keeps ..)

theorem State.answer_keeps (s : State) (q : Req) (key : Option (List ℕ)) (status : ℕ) (pay : List ℕ) :
    Keeps 0x188000000700000000000000000000000000000000000000000000000000000000000000000000000001400002C30002C8 s (State.answer s q key status pay) := by
  have h0 : Keeps 0x188000000700000000000000000000000000000000000000000000000000000000000000000000000001400002C30002C8 s s := Keeps.refl _ _
  unfold State.answer
  repeat' first | with_reducible assumption | apply Eq.refl | (with_reducible first | apply Keeps.step (State.reply_keeps ..) | apply Keeps.ite) | split

theorem State.done_keeps (s : State) (q : Req) (key : Option (List ℕ)) (status : ℕ) (pay : List ℕ) :
    Keeps 0x1C8000000700000000000000000000000000000000000000000000000000000000000000000000000001400002C30002C8 s (State.done s q key status pay) := by
  have h0 : Keeps 0x1C8000000700000000000000000000000000000000000000000000000000000000000000000000000001400002C30002C8 s s := Keeps.refl _ _
  unfold State.done
  extract_lets x0 x1
  have h1 : Keeps 0x1C8000000700000000000000000000000000000000000000000000000000000000000000000000000001400002C30002C8 s x0 := by unfold x0; repeat' first | with_reducible assumption | apply Eq.refl | intro c | with_reducible apply State.bump_keeps | ((with_reducible apply Has.fam (ETH_BAINDCNT_COUNT_cls ..)); exact Eq.refl true)
  try clear_value x0
  have h2 : Keeps 0x1C8000000700000000000000000000000000000000000000000000000000000000000000000000000001400002C30002C8 s x1 := by unfold x1; repeat' first | with_reducible assumption | apply Eq.refl | (with_reducible first | apply Keeps.step (State.record_keeps ..) | apply Keeps.ite) | split
  try clear_value x1
  repeat' first | with_reducible assumption | apply Eq.refl | (with_reducible first | apply Keeps.step (State.answer_keeps ..) | apply Keeps.ite) | split

theorem State.forward_keeps (s : State) (q : Req) (key : Option (List ℕ)) (l : List ℕ) :
    Keeps 0x81000000 s (State.forward s q key l) := by
  have h0 : Keeps 0x81000000 s s := Keeps.refl _ _
  unfold State.forward
  extract_lets x0
  have h1 : Keeps 0x81000000 s x0 := by unfold x0; repeat' first | with_reducible assumption | apply Eq.refl | intro c | (with_reducible first | apply Keeps.step (State.emit_keeps ..) | apply Keeps.foldl)
  try clear_value x0
  repeat' first | with_reducible assumption | apply Eq.refl | with_reducible apply Keeps.ite | split | extract_lets | with_reducible apply Keeps.put_baind

theorem State.noAccess_keeps (s : State) (r : Requester) :
    Keeps 0x80000000 s (State.noAccess s r) := by
  have h0 : Keeps 0x80000000 s s := Keeps.refl _ _
  unfold State.noAccess
  repeat' first | with_reducible assumption | apply Eq.refl | with_reducible apply Keeps.step (State.emit_keeps ..) | split

theorem State.putBytes_keeps (s : State) (b o : Nat) (l : List Nat) : Keeps 0x40000002 s (s.putBytes b o l) := by
  unfold State.putBytes
  split
  · exact Keeps.put_fb (Keeps.refl _ _) rfl fun c => mwf_putAll c.fb
  · exact Keeps.put_bus (Keeps.refl _ _) rfl fun c => { c.bus with ram := mwf_putAll c.bus.ram }

theorem State.accessFault_keeps (s : State) (r : Requester) (b : ℕ) :
    Keeps 0x4C04F6000000000000000000000000000000000000000000000000000000000600080620028 s (State.accessFault s r b) := by
  have h0 : Keeps 0x4C04F6000000000000000000000000000000000000000000000000000000000600080620028 s s := Keeps.refl _ _
  unfold State.accessFault
  extract_lets x0
  have h1 : Keeps 0x4C04F6000000000000000000000000000000000000000000000000000000000600080620028 s x0 := by unfold x0; repeat' first | with_reducible assumption | apply Eq.refl | with_reducible apply Keeps.step (State.noAccess_keeps ..)
  try clear_value x0
  repeat' first | with_reducible assumption | apply Eq.refl | (with_reducible first | apply Keeps.step (State.resetNow_keeps ..) | apply Keeps.ite) | split

theorem State.drawBits_keeps (s : State) (n : ℕ) :
    Keeps 0x10 s (State.drawBits s n).1 := by
  have h0 : Keeps 0x10 s s := Keeps.refl _ _
  unfold State.drawBits
  repeat' first | with_reducible assumption | apply Eq.refl | with_reducible apply Keeps.step (State.draw_keeps ..)

theorem State.l2Read_keeps (s : State) (o : ℕ) :
    Keeps 0x7E0000800000000000000000000000000000000000000000000000000000000000001010002000000D8 s (State.l2Read s o).1 := by
  have h0 : Keeps 0x7E0000800000000000000000000000000000000000000000000000000000000000001010002000000D8 s s := Keeps.refl _ _
  unfold State.l2Read
  extract_lets x0
  have h1 : Keeps 0x7E0000800000000000000000000000000000000000000000000000000000000000001010002000000D8 s x0 := by unfold x0; repeat' first | with_reducible assumption | apply Eq.refl | (with_reducible first | apply Keeps.step (State.draw_keeps ..) | apply Keeps.step (State.memRead_keeps ..))
  try clear_value x0
  repeat' first | with_reducible assumption | apply Eq.refl | with_reducible apply Keeps.step (State.memRead_keeps ..)

theorem State.portRead_keeps (s : State) (r : Requester) (b : ℕ) (o : ℕ) :
    Keeps 0xC007E0000800000000000000000000000000000000000000000000000000000000000001010002000000D8 s (State.portRead s r b o).1 := by
  have h0 : Keeps 0xC007E0000800000000000000000000000000000000000000000000000000000000000001010002000000D8 s s := Keeps.refl _ _
  unfold State.portRead
  extract_lets _ x1
  have h2 : Keeps 0xC007E0000800000000000000000000000000000000000000000000000000000000000001010002000000D8 s x1.1 := by unfold x1; repeat' first | with_reducible assumption | apply Eq.refl | (with_reducible first | apply Keeps.step (State.l2Read_keeps ..) | apply Keeps.ite) | split
  try clear_value x1
  repeat' first | with_reducible assumption | apply Eq.refl | (with_reducible first | apply Keeps.step (State.ddrRead_keeps ..) | apply Keeps.step (State.memRead_keeps ..) | apply Keeps.ite) | split | extract_lets

theorem State.bankLoad_keeps (s : State) (r : Requester) (b : ℕ) (o : ℕ) :
    Keeps 0xC007E0002800000000000000000000000000000000000000000000000000000000000001010002000000D8 s (State.bankLoad s r b o).1 := by
  have h0 : Keeps 0xC007E0002800000000000000000000000000000000000000000000000000000000000001010002000000D8 s s := Keeps.refl _ _
  unfold State.bankLoad
  extract_lets x0 _ _ x3 x4
  have h1 : Keeps 0xC007E0002800000000000000000000000000000000000000000000000000000000000001010002000000D8 s x0.1 := by unfold x0; repeat' first | with_reducible assumption | apply Eq.refl | (with_reducible first | apply Keeps.step (State.tableFetch_keeps ..) | apply Keeps.ite) | split
  try clear_value x0
  have h4 : Keeps 0xC007E0002800000000000000000000000000000000000000000000000000000000000001010002000000D8 s x3.1 := by unfold x3; repeat' first | with_reducible assumption | apply Eq.refl | with_reducible apply Keeps.step (State.portRead_keeps ..)
  try clear_value x3
  have h5 : Keeps 0xC007E0002800000000000000000000000000000000000000000000000000000000000001010002000000D8 s x4.1 := by unfold x4; repeat' first | with_reducible assumption | apply Eq.refl | with_reducible apply Keeps.step (State.drawBits_keeps ..)
  try clear_value x4
  repeat' first | with_reducible assumption | with_reducible apply Keeps.ite | split | extract_lets

theorem State.portWrote_keeps (s : State) (r : Requester) (b : ℕ) (w : ℕ) :
    Keeps 0x100000000000088 s (State.portWrote s r b w) := by
  have h0 : Keeps 0x100000000000088 s s := Keeps.refl _ _
  unfold State.portWrote
  extract_lets x0
  have h1 : Keeps 0x100000000000088 s x0 := by unfold x0; repeat' first | with_reducible assumption | apply Eq.refl | (with_reducible first | apply Keeps.step (State.wordWritten_keeps ..) | apply Keeps.ite) | split
  try clear_value x0
  repeat' first | with_reducible assumption | apply Eq.refl | with_reducible apply Keeps.step (State.wordWritten_keeps ..)

theorem State.bankStore_keeps (s : State) (r : Requester) (b : ℕ) (o : ℕ) (l : List ℕ) :
    Keeps 0xC007E0000804C04F60000000000000000000000000000000000000000000000000000001016002C06200FA s (State.bankStore s r b o l) := by
  have h0 : Keeps 0xC007E0000804C04F60000000000000000000000000000000000000000000000000000001016002C06200FA s s := Keeps.refl _ _
  unfold State.bankStore
  extract_lets _ x1 x2
  have h2 : Keeps 0xC007E0000804C04F60000000000000000000000000000000000000000000000000000001016002C06200FA s x1.1 := by unfold x1; repeat' first | with_reducible assumption | apply Eq.refl | (with_reducible first | apply Keeps.step (State.portRead_keeps ..) | apply Keeps.ite) | split
  try clear_value x1
  have h3 : Keeps 0xC007E0000804C04F60000000000000000000000000000000000000000000000000000001016002C06200FA s x2 := by unfold x2; repeat' first | with_reducible assumption | apply Eq.refl | with_reducible apply Keeps.step (State.putBytes_keeps ..)
  try clear_value x2
  repeat' first | with_reducible assumption | apply Eq.refl | intro c | (with_reducible first | apply Keeps.step (State.noAccess_keeps ..) | apply Keeps.step (State.accessFault_keeps ..) | apply Keeps.step (State.portWrote_keeps ..) | apply Keeps.ite | apply Keeps.foldl | apply Keeps.foldl_fst) | split | extract_lets

theorem State.timerLoad_keeps (s : State) (o : ℕ) :
    Keeps 0x10 s (State.timerLoad s o).1 := by
  have h0 : Keeps 0x10 s s := Keeps.refl _ _
  unfold State.timerLoad
  repeat' first | with_reducible assumption | apply Eq.refl | (with_reducible first | apply Keeps.step (State.drawBits_keeps ..) | apply Keeps.ite) | split | extract_lets

theorem State.timerStore_keeps (s : State) (o v : Nat) : Keeps 0x2 s (s.timerStore o v) := by
  unfold State.timerStore
  split
  · exact Keeps.put_bus (Keeps.refl _ _) rfl fun c => { c.bus with timers := mwf_mset _ _ _ _ c.bus.timers }
  · exact Keeps.refl _ _

end Sys2Proof.Machine
end

