-- ==== Sys2Proof/Laws/Keeps5.lean ====
section
/-! SUPPORT. What each operation over State may touch, part 5 of 5: one lemma for each, in the order of their files. -/

namespace Sys2Proof.Machine

set_option linter.all false
set_option linter.unusedTactic false
set_option linter.unreachableTactic false
set_option linter.style.longLine false
set_option Elab.async false

open Reg

theorem State.setBus_keeps {m : Nat} {a s : State} {b : Bus} (h : Keeps m a s) (hm : m.testBit 1 = true)
    (hb : Canon a → BusWf b) : Keeps m a (s.setBus b) := Keeps.put_bus h hm hb

theorem State.plicLoad_keeps (s : State) (o : Nat) : Keeps 0x2 s (s.plicLoad o).1 := by
  have h0 : Keeps 0x2 s s := Keeps.refl _ _
  unfold State.plicLoad
  extract_lets c i
  clear_value c
  repeat' first
    | exact h0
    | split
    | exact State.setBus_keeps h0 rfl fun c => { c.bus with }

theorem State.plicStore_keeps (s : State) (o v : Nat) : Keeps 0x2 s (s.plicStore o v) := by
  have h0 : Keeps 0x2 s s := Keeps.refl _ _
  unfold State.plicStore
  extract_lets b c e e'
  clear_value c e e'
  repeat' first
    | exact h0
    | split
    | exact State.setBus_keeps h0 rfl fun c => { c.bus with prio := mwf_mset _ _ _ _ c.bus.prio }
    | exact State.setBus_keeps h0 rfl fun c => { c.bus with enable := mwf_mset _ _ _ _ c.bus.enable }
    | exact State.setBus_keeps h0 rfl fun c => { c.bus with thresh := mwf_mset _ _ _ _ c.bus.thresh }
    | exact State.setBus_keeps h0 rfl fun c => { c.bus with }

theorem State.setFlash_keeps {m : Nat} {a s : State} {f : Flash} (h : Keeps m a s) (hm : m.testBit 27 = true)
    (hc : Canon a → ∀ y ∈ f.saved, SetWf y) (hd : Canon a → ∀ y ∈ f.saving, SetWf y) : Keeps m a (s.setFlash f) :=
  Keeps.put_flash h hm hc hd

theorem State.missDuring_keeps (s : State) :
    Keeps 0xC000000000000000000000000000000000000000000000000000000000000000000000000000000000008000008 s (State.missDuring s) := by
  have h0 : Keeps 0xC000000000000000000000000000000000000000000000000000000000000000000000000000000000008000008 s s := Keeps.refl _ _
  unfold State.missDuring
  repeat' first | (with_reducible first | assumption | apply hold_saved | apply hold_saving | apply Canon.saved | apply Canon.saving | apply Keeps.canon) | apply Eq.refl | intro c | (with_reducible first | apply State.set_keeps | apply State.setFlash_keeps | apply Keeps.ite) | ((with_reducible apply Has.fam (FLS_STAT_SUSPSEEN_cls ..)); exact Eq.refl true) | ((with_reducible apply Has.fam (FLS_STAT_WAITSEEN_cls ..)); exact Eq.refl true) | split | extract_lets

theorem State.xip_keeps (s : State) (r : Requester) (a : ℕ) :
    Keeps 0x38E0000000000000000000000000000000000000000000000000000000000000000000000000001000002880000C8 s (State.xip s r a) := by
  have h0 : Keeps 0x38E0000000000000000000000000000000000000000000000000000000000000000000000000001000002880000C8 s s := Keeps.refl _ _
  unfold State.xip
  repeat' first | (with_reducible first | assumption | apply hold_saved | apply hold_saving | apply Canon.saved | apply Canon.saving | apply Keeps.canon) | apply Eq.refl | intro c | (with_reducible first | apply Keeps.step (State.noAccess_keeps ..) | apply Keeps.step (State.raise_keeps ..) | apply State.bump_keeps | apply State.set_keeps | apply Keeps.step (State.emit_keeps ..) | apply State.setFlash_keeps | apply Keeps.step (State.missDuring_keeps ..) | apply Keeps.ite) | ((with_reducible apply Has.fam (FLS_ERRCNT_COUNT_cls ..)); exact Eq.refl true) | ((with_reducible apply Has.fam (FLS_STAT_RANGE_cls ..)); exact Eq.refl true) | ((with_reducible apply Has.fam (FLS_HITCNT_COUNT_cls ..)); exact Eq.refl true) | ((with_reducible apply Has.fam (FLS_MISSCNT_COUNT_cls ..)); exact Eq.refl true) | split | extract_lets

theorem State.loadDone_keeps (s : State) (r : Requester) (b : ℕ) (v : Option ℕ) :
    Keeps 0x4C04F6000000000000000000000000000000000000000000000000000000000600080620028 s (State.loadDone s r b v) := by
  have h0 : Keeps 0x4C04F6000000000000000000000000000000000000000000000000000000000600080620028 s s := Keeps.refl _ _
  unfold State.loadDone
  repeat' first | with_reducible assumption | apply Eq.refl | (with_reducible first | apply Keeps.step (State.emit_keeps ..) | apply Keeps.step (State.accessFault_keeps ..)) | split

theorem State.load_keeps (s : State) (r : Requester) (a : ℕ) :
    Keeps 0x400000000000000000000038E0000C007E0002804C04F60000000000000000000040000000000000000000000000000008001016042886201FA s (State.load s r a) := by
  have h0 : Keeps 0x400000000000000000000038E0000C007E0002804C04F60000000000000000000040000000000000000000000000000008001016042886201FA s s := Keeps.refl _ _
  unfold State.load
  repeat' first | with_reducible assumption | apply Eq.refl | (with_reducible first | apply Keeps.step (State.readBy_keeps ..) | apply Keeps.step (State.bankLoad_keeps ..) | apply Keeps.step (State.loadDone_keeps ..) | apply Keeps.step (State.timerLoad_keeps ..) | apply Keeps.step (State.plicLoad_keeps ..) | apply Keeps.step (State.xip_keeps ..) | apply Keeps.step (State.emit_keeps ..) | apply Keeps.step (State.noAccess_keeps ..) | apply Keeps.step (State.emit_keeps ..) | apply Keeps.ite) | split | extract_lets

theorem State.store_keeps (s : State) (r : Requester) (a : ℕ) (size : StoreSize) (v : Word) :
    Keeps 0xC007E0000804C04F60000000000000000000000000000000000000000000000000000001016002C06200FA s (State.store s r a size v) := by
  have h0 : Keeps 0xC007E0000804C04F60000000000000000000000000000000000000000000000000000001016002C06200FA s s := Keeps.refl _ _
  unfold State.store
  repeat' first | with_reducible assumption | apply Eq.refl | intro c | (with_reducible first | apply Keeps.step (State.noAccess_keeps ..) | apply Keeps.step (State.bankStore_keeps ..) | apply Keeps.step (State.timerStore_keeps ..) | apply Keeps.step (State.plicStore_keeps ..) | apply Keeps.ite | apply Keeps.foldl) | split | extract_lets

theorem State.writeSeq_keeps (s : State) (a : ℕ) (l : List ℕ) :
    Keeps 0x7FFFFFFFFFFFFFFFFFFFFFFFFFFFFFFFFFFFFFFFFFFFFFFFFFFFFFFFFFFFFFFFFFFFFFFFFFFFFFFFFFFFFFFFFFFFFFFFFFFFFFFFFFFEFFF77F8 s (State.writeSeq s a l) := by
  have h0 : Keeps 0x7FFFFFFFFFFFFFFFFFFFFFFFFFFFFFFFFFFFFFFFFFFFFFFFFFFFFFFFFFFFFFFFFFFFFFFFFFFFFFFFFFFFFFFFFFFFFFFFFFFFFFFFFFFEFFF77F8 s s := Keeps.refl _ _
  unfold State.writeSeq
  repeat' first | with_reducible assumption | apply Eq.refl | intro c | (with_reducible first | apply Keeps.step (State.regWriteBy_keeps ..) | apply Keeps.ite | apply Keeps.foldl) | split

theorem State.opRegRead_keeps (s : State) (q : Req) (key : Option (List ℕ)) :
    Keeps 0x400000000000000001C80000007000007E0002800000000000000000000000000040000000000000000000000000000008001410042C30003D8 s (State.opRegRead s q key) := by
  have h0 : Keeps 0x400000000000000001C80000007000007E0002800000000000000000000000000040000000000000000000000000000008001410042C30003D8 s s := Keeps.refl _ _
  unfold State.opRegRead
  extract_lets x0
  have h1 : Keeps 0x400000000000000001C80000007000007E0002800000000000000000000000000040000000000000000000000000000008001410042C30003D8 s x0.1 := by unfold x0; repeat' first | with_reducible assumption | apply Eq.refl | with_reducible apply Keeps.step (State.readSeq_keeps ..)
  try clear_value x0
  repeat' first | with_reducible assumption | apply Eq.refl | with_reducible apply Keeps.step (State.done_keeps ..)

theorem State.opRegWrite_keeps (s : State) (q : Req) (key : Option (List ℕ)) :
    Keeps 0x7FFFFFFFFFFFFFFFFFFFFFFFFFFFFFFFFFFFFFFFFFFFFFFFFFFFFFFFFFFFFFFFFFFFFFFFFFFFFFFFFFFFFFFFFFFFFFFFFFFFFFFFFFFEFFF77F8 s (State.opRegWrite s q key) := by
  have h0 : Keeps 0x7FFFFFFFFFFFFFFFFFFFFFFFFFFFFFFFFFFFFFFFFFFFFFFFFFFFFFFFFFFFFFFFFFFFFFFFFFFFFFFFFFFFFFFFFFFFFFFFFFFFFFFFFFFEFFF77F8 s s := Keeps.refl _ _
  unfold State.opRegWrite
  repeat' first | with_reducible assumption | apply Eq.refl | (with_reducible first | apply Keeps.step (State.done_keeps ..) | apply Keeps.step (State.writeSeq_keeps ..))

theorem State.opRegModify_keeps (s : State) (q : Req) (key : Option (List ℕ)) :
    Keeps 0x7FFFFFFFFFFFFFFFFFFFFFFFFFFFFFFFFFFFFFFFFFFFFFFFFFFFFFFFFFFFFFFFFFFFFFFFFFFFFFFFFFFFFFFFFFFFFFFFFFFFFFFFFFFEFFF77F8 s (State.opRegModify s q key) := by
  have h0 : Keeps 0x7FFFFFFFFFFFFFFFFFFFFFFFFFFFFFFFFFFFFFFFFFFFFFFFFFFFFFFFFFFFFFFFFFFFFFFFFFFFFFFFFFFFFFFFFFFFFFFFFFFFFFFFFFFEFFF77F8 s s := Keeps.refl _ _
  unfold State.opRegModify
  extract_lets _ _ x2
  have h3 : Keeps 0x7FFFFFFFFFFFFFFFFFFFFFFFFFFFFFFFFFFFFFFFFFFFFFFFFFFFFFFFFFFFFFFFFFFFFFFFFFFFFFFFFFFFFFFFFFFFFFFFFFFFFFFFFFFEFFF77F8 s x2.1 := by unfold x2; repeat' first | with_reducible assumption | apply Eq.refl | with_reducible apply Keeps.step (State.readBy_keeps ..)
  try clear_value x2
  repeat' first | with_reducible assumption | apply Eq.refl | (with_reducible first | apply Keeps.step (State.done_keeps ..) | apply Keeps.step (State.regWriteBy_keeps ..)) | extract_lets

theorem State.opStart_keeps (s : State) (q : Req) (key : Option (List ℕ)) :
    Keeps 0x1C800000070000F800000000000000000000000000000000000000000000000000000000000000000009C00002C30002C8 s (State.opStart s q key) := by
  have h0 : Keeps 0x1C800000070000F800000000000000000000000000000000000000000000000000000000000000000009C00002C30002C8 s s := Keeps.refl _ _
  unfold State.opStart
  repeat' first | with_reducible assumption | apply Eq.refl | (with_reducible first | apply Keeps.step (State.done_keeps ..) | apply Keeps.step (State.sortStart_keeps ..) | apply Keeps.ite) | split

theorem State.opStop_keeps (s : State) (q : Req) (key : Option (List ℕ)) :
    Keeps 0x1C8000000700000000000000000000000000008C50000000000000000000000000000000000000000009C00002C31002C8 s (State.opStop s q key) := by
  have h0 : Keeps 0x1C8000000700000000000000000000000000008C50000000000000000000000000000000000000000009C00002C31002C8 s s := Keeps.refl _ _
  unfold State.opStop
  repeat' first | with_reducible assumption | apply Eq.refl | (with_reducible first | apply Keeps.step (State.done_keeps ..) | apply Keeps.step (State.sortStop_keeps ..) | apply Keeps.ite) | split

theorem State.opSafe_keeps (s : State) (q : Req) (key : Option (List ℕ)) :
    Keeps 0x40000E000001C8000000700000000000004C04FE00000000000000000000807880B00C0300000000000000000003029C06002C3E276C8 s (State.opSafe s q key) := by
  have h0 : Keeps 0x40000E000001C8000000700000000000004C04FE00000000000000000000807880B00C0300000000000000000003029C06002C3E276C8 s s := Keeps.refl _ _
  unfold State.opSafe
  repeat' first | with_reducible assumption | apply Eq.refl | (with_reducible first | apply Keeps.step (State.done_keeps ..) | apply Keeps.step (State.enterSafe_keeps ..))

theorem State.opRestart_keeps (s : State) (q : Req) (key : Option (List ℕ)) :
    Keeps 0x400000000000001C8000000700080000000000000000000000000000000000000000000000001000180001000000001021C00002E30126C8 s (State.opRestart s q key) := by
  have h0 : Keeps 0x400000000000001C8000000700080000000000000000000000000000000000000000000000001000180001000000001021C00002E30126C8 s s := Keeps.refl _ _
  unfold State.opRestart
  extract_lets x0
  have h1 : Keeps 0x400000000000001C8000000700080000000000000000000000000000000000000000000000001000180001000000001021C00002E30126C8 s x0.1 := by unfold x0; repeat' first | with_reducible assumption | apply Eq.refl | with_reducible apply Keeps.step (State.restartReq_keeps ..)
  try clear_value x0
  repeat' first | with_reducible assumption | apply Eq.refl | (with_reducible first | apply Keeps.step (State.done_keeps ..) | apply Keeps.ite) | split

theorem State.opReset_keeps (s : State) (q : Req) (key : Option (List ℕ)) :
    Keeps 0x1C80000027000007E0000804C04F60000000000000000000000000000000000000000000000000000001416002CB6202E8 s (State.opReset s q key) := by
  have h0 : Keeps 0x1C80000027000007E0000804C04F60000000000000000000000000000000000000000000000000000001416002CB6202E8 s s := Keeps.refl _ _
  unfold State.opReset
  repeat' first | with_reducible assumption | apply Eq.refl | (with_reducible first | apply Keeps.step (State.commandedReset_keeps ..) | apply Keeps.step (State.done_keeps ..))

theorem State.opStatus_keeps (s : State) (q : Req) (key : Option (List ℕ)) :
    Keeps 0x1C8000000700000000000000000000000000000000000000000000000000000000000000000000000001400002C30002C8 s (State.opStatus s q key) := by
  have h0 : Keeps 0x1C8000000700000000000000000000000000000000000000000000000000000000000000000000000001400002C30002C8 s s := Keeps.refl _ _
  unfold State.opStatus
  repeat' first | with_reducible assumption | apply Eq.refl | with_reducible apply Keeps.step (State.done_keeps ..)

theorem State.opBegin_keeps (s : State) (q : Req) (key : Option (List ℕ)) (wait : Bool) :
    Keeps 0x1000000 s (State.opBegin s q key wait) := by
  have h0 : Keeps 0x1000000 s s := Keeps.refl _ _
  unfold State.opBegin
  repeat' first | with_reducible assumption | apply Eq.refl | extract_lets | with_reducible apply Keeps.put_baind

theorem State.accept_keeps (s : State) (q : Req) (key : Option (List ℕ)) (wait : Bool) :
    Keeps 0x1C8000000700000000000000000000000000000000000000000000000000000000000000000000000001400002C30002C8 s (State.accept s q key wait) := by
  have h0 : Keeps 0x1C8000000700000000000000000000000000000000000000000000000000000000000000000000000001400002C30002C8 s s := Keeps.refl _ _
  unfold State.accept
  repeat' first | with_reducible assumption | apply Eq.refl | (with_reducible first | apply Keeps.step (State.done_keeps ..) | apply Keeps.step (State.opBegin_keeps ..))

theorem State.opCalRun_keeps (s : State) (q : Req) (key : Option (List ℕ)) :
    Keeps 0xE000001C80000007000000000000000000000000000000000000000000000B0000000000000000000000000001400002C38022C8 s (State.opCalRun s q key) := by
  have h0 : Keeps 0xE000001C80000007000000000000000000000000000000000000000000000B0000000000000000000000000001400002C38022C8 s s := Keeps.refl _ _
  unfold State.opCalRun
  repeat' first | with_reducible assumption | apply Eq.refl | (with_reducible first | apply Keeps.step (State.trigger_keeps ..) | apply Keeps.step (State.accept_keeps ..))

theorem State.opCalGref_keeps (s : State) (q : Req) (key : Option (List ℕ)) :
    Keeps 0x40000E000001C8000000700000000000000000000000000000000000000080000490000000000000000000000000001400002C38062C8 s (State.opCalGref s q key) := by
  have h0 : Keeps 0x40000E000001C8000000700000000000000000000000000000000000000080000490000000000000000000000000001400002C38062C8 s s := Keeps.refl _ _
  unfold State.opCalGref
  extract_lets x0
  have h1 : Keeps 0x40000E000001C8000000700000000000000000000000000000000000000080000490000000000000000000000000001400002C38062C8 s x0 := by unfold x0; repeat' first | with_reducible assumption | apply Eq.refl | with_reducible apply Keeps.step (State.grefStartS_keeps ..)
  try clear_value x0
  repeat' first | with_reducible assumption | apply Eq.refl | (with_reducible first | apply Keeps.step (State.done_keeps ..) | apply Keeps.step (State.grefStartS_keeps ..) | apply Keeps.step (State.accept_keeps ..) | apply Keeps.ite) | split

theorem State.opCalGapply_keeps (s : State) (q : Req) (key : Option (List ℕ)) :
    Keeps 0xE000001C80000007000000000000000000000000000000000000004000004B0001000000000000000000000001400002C38072C8 s (State.opCalGapply s q key) := by
  have h0 : Keeps 0xE000001C80000007000000000000000000000000000000000000004000004B0001000000000000000000000001400002C38072C8 s s := Keeps.refl _ _
  unfold State.opCalGapply
  repeat' first | with_reducible assumption | apply Eq.refl | (with_reducible first | apply Keeps.step (State.done_keeps ..) | apply Keeps.step (State.gapplyS_keeps ..) | apply Keeps.ite) | split

theorem State.opConvScal_keeps (s : State) (q : Req) (key : Option (List ℕ)) :
    Keeps 0x1C8000000700000000000000000000000000000000000000000000000000008000000000000000000001400042C30006C8 s (State.opConvScal s q key) := by
  have h0 : Keeps 0x1C8000000700000000000000000000000000000000000000000000000000008000000000000000000001400042C30006C8 s s := Keeps.refl _ _
  unfold State.opConvScal
  extract_lets _ x1
  have h2 : Keeps 0x1C8000000700000000000000000000000000000000000000000000000000008000000000000000000001400042C30006C8 s x1 := by unfold x1; repeat' first | with_reducible assumption | apply Eq.refl | with_reducible apply Keeps.step (State.accept_keeps ..)
  try clear_value x1
  repeat' first | with_reducible assumption | apply Eq.refl | intro c | (with_reducible first | apply Keeps.step (State.done_keeps ..) | apply Keeps.step (State.opFinish_keeps ..) | apply Keeps.step (State.scalStart_keeps ..) | apply Keeps.ite | apply Keeps.foldl) | split | extract_lets

theorem State.opHkaScal_keeps (s : State) (q : Req) (key : Option (List ℕ)) :
    Keeps 0x1C8000000700000000000000000000000000000000000000000000000000000000000400000000000001400002C30002C8 s (State.opHkaScal s q key) := by
  have h0 : Keeps 0x1C8000000700000000000000000000000000000000000000000000000000000000000400000000000001400002C30002C8 s s := Keeps.refl _ _
  unfold State.opHkaScal
  repeat' first | with_reducible assumption | apply Eq.refl | (with_reducible first | apply Keeps.step (State.done_keeps ..) | apply Keeps.step (State.hkaScal_keeps ..) | apply Keeps.step (State.accept_keeps ..) | apply Keeps.ite) | split

theorem State.fwWindow_keeps (s : State) (id : ℕ) (a : ℕ) :
    Keeps 0x100 s (State.fwWindow s id a) := by
  have h0 : Keeps 0x100 s s := Keeps.refl _ _
  unfold State.fwWindow
  repeat' first | with_reducible assumption | apply Eq.refl | with_reducible apply Keeps.step (State.setWin_keeps ..) | extract_lets

theorem State.loadWords_keeps (s : State) (l : List ℕ) :
    Keeps 0x10004000000000400000000000100000000000000000000C00100000000281188 s (State.loadWords s l).1 := by
  have h0 : Keeps 0x10004000000000400000000000100000000000000000000C00100000000281188 s s := Keeps.refl _ _
  unfold State.loadWords
  repeat' first | with_reducible assumption | apply Eq.refl | intro c | (with_reducible first | apply Keeps.step (State.tableWriteBy_keeps ..) | apply Keeps.ite | apply Keeps.foldl | apply Keeps.foldl_fst) | split | extract_lets

theorem State.opLoadTable_keeps (s : State) (q : Req) (key : Option (List ℕ)) :
    Keeps 0x1C800000070000000000000000000000010004000000000400000000000100000000000000000000C001400002E32813C8 s (State.opLoadTable s q key) := by
  have h0 : Keeps 0x1C800000070000000000000000000000010004000000000400000000000100000000000000000000C001400002E32813C8 s s := Keeps.refl _ _
  unfold State.opLoadTable
  extract_lets _ x1 x2 _ x4
  have h2 : Keeps 0x1C800000070000000000000000000000010004000000000400000000000100000000000000000000C001400002E32813C8 s x1.1 := by unfold x1; repeat' first | with_reducible assumption | apply Eq.refl | (with_reducible first | apply Keeps.step (State.loadWords_keeps ..) | apply Keeps.step (State.fwWindow_keeps ..))
  try clear_value x1
  have h3 : Keeps 0x1C800000070000000000000000000000010004000000000400000000000100000000000000000000C001400002E32813C8 s x2 := by unfold x2; repeat' first | with_reducible assumption
  try clear_value x2
  have h5 : Keeps 0x1C800000070000000000000000000000010004000000000400000000000100000000000000000000C001400002E32813C8 s x4 := by unfold x4; repeat' first | with_reducible assumption | apply Eq.refl | with_reducible apply Keeps.ite | split | with_reducible apply Keeps.put_house
  try clear_value x4
  repeat' first | with_reducible assumption | apply Eq.refl | (with_reducible first | apply Keeps.step (State.done_keeps ..) | apply Keeps.ite) | split | extract_lets

theorem State.readWordsFw_keeps (s : State) (n : ℕ) :
    Keeps 0x7E0002800000000000000000000000000000000000000000000000000000000008001010002000001D8 s (State.readWordsFw s n).1 := by
  have h0 : Keeps 0x7E0002800000000000000000000000000000000000000000000000000000000008001010002000001D8 s s := Keeps.refl _ _
  unfold State.readWordsFw
  repeat' first | with_reducible assumption | apply Eq.refl | intro c | (with_reducible first | apply Keeps.step (State.tableReadBy_keeps ..) | apply Keeps.foldl | apply Keeps.foldl_fst) | extract_lets

theorem State.opReadTable_keeps (s : State) (q : Req) (key : Option (List ℕ)) :
    Keeps 0x1C80000007000007E0002800000000000000000000000000000000000000000000000000000000008001410002C30003D8 s (State.opReadTable s q key) := by
  have h0 : Keeps 0x1C80000007000007E0002800000000000000000000000000000000000000000000000000000000008001410002C30003D8 s s := Keeps.refl _ _
  unfold State.opReadTable
  extract_lets x0
  have h1 : Keeps 0x1C80000007000007E0002800000000000000000000000000000000000000000000000000000000008001410002C30003D8 s x0.1 := by unfold x0; repeat' first | with_reducible assumption | apply Eq.refl | (with_reducible first | apply Keeps.step (State.readWordsFw_keeps ..) | apply Keeps.step (State.fwWindow_keeps ..))
  try clear_value x0
  repeat' first | with_reducible assumption | apply Eq.refl | with_reducible apply Keeps.step (State.done_keeps ..)

theorem State.flashBusy_keeps (s : State) (a : ℕ) (n : ℕ) :
    Keeps 0x600000000000000000000000000000000000000000000000000000000000000000000000000000000008000008 s (State.flashBusy s a n) := by
  have h0 : Keeps 0x600000000000000000000000000000000000000000000000000000000000000000000000000000000008000008 s s := Keeps.refl _ _
  unfold State.flashBusy
  extract_lets _ x1
  have h2 : Keeps 0x600000000000000000000000000000000000000000000000000000000000000000000000000000000008000008 s x1 := by unfold x1; repeat' first | (with_reducible first | assumption | apply Canon.saved | apply Canon.saving | apply Keeps.canon) | apply Eq.refl | intro c | with_reducible apply Keeps.put_flash
  try clear_value x1
  repeat' first | with_reducible assumption | apply Eq.refl | intro c | with_reducible apply State.set_keeps | ((with_reducible apply Has.fam (FLS_STAT_CONT_cls ..)); exact Eq.refl true) | ((with_reducible apply Has.fam (FLS_STAT_BUSY_cls ..)); exact Eq.refl true) | extract_lets

theorem State.flashEnd_keeps (s : State) (a : ℕ) (n : ℕ) :
    Keeps 0x400000000000000000000000000000000000000000000000000000000000000000000000000000000008000008 s (State.flashEnd s a n) := by
  have h0 : Keeps 0x400000000000000000000000000000000000000000000000000000000000000000000000000000000008000008 s s := Keeps.refl _ _
  unfold State.flashEnd
  extract_lets x0
  have h1 : Keeps 0x400000000000000000000000000000000000000000000000000000000000000000000000000000000008000008 s x0 := by unfold x0; repeat' first | with_reducible assumption | apply Eq.refl | with_reducible apply Keeps.step (State.dropLines_keeps ..)
  try clear_value x0
  repeat' first | (with_reducible first | assumption | apply Canon.saved | apply Canon.saving | apply Keeps.canon) | apply Eq.refl | intro c | with_reducible apply State.setB_keeps | ((with_reducible apply Has.fam (FLS_STAT_BUSY_cls ..)); exact Eq.refl true) | extract_lets | with_reducible apply Keeps.put_flash

theorem State.opSave_keeps (s : State) (q : Req) (key : Option (List ℕ)) :
    Keeps 0x1C8000006700000000000000000000000000000000000000000000000000000000000000000000000001400002CB0002C8 s (State.opSave s q key) := by
  have h0 : Keeps 0x1C8000006700000000000000000000000000000000000000000000000000000000000000000000000001400002CB0002C8 s s := Keeps.refl _ _
  unfold State.opSave
  repeat' first | with_reducible assumption | apply Eq.refl | intro c | (with_reducible first | apply Keeps.step (State.done_keeps ..) | apply Keeps.step (State.saveRead_keeps ..) | apply Keeps.step (State.flashBusy_keeps ..) | apply Keeps.step (State.accept_keeps ..) | apply Keeps.ite | apply Keeps.foldl) | split

theorem State.saveEnd_keeps (s : State) : Keeps 0x8000004700000000000000000000000000000000000000000000000000000000000000000000000001400002CB0002C8 s s.saveEnd := by
  have h0 : Keeps 0x8000004700000000000000000000000000000000000000000000000000000000000000000000000001400002CB0002C8 s s.saveRead := Keeps.comp (State.saveRead_keeps ..) (by decide) (Keeps.refl _ _)
  unfold State.saveEnd
  generalize s.saveRead = s1 at *
  extract_lets t i u
  split
  · exact h0
  · rename_i x hx
    extract_lets f
    have h : Keeps 0x8000004700000000000000000000000000000000000000000000000000000000000000000000000001400002CB0002C8 s f := Keeps.put_flash (v := { s1.flash with saved := some x, pair := i, saving := none })
      h0 rfl (fun c => setWf_some ((h0.canon c).saving x hx)) fun _ => setWf_none
    exact Keeps.comp (State.opFinish_keeps ..) (by decide)
      (Keeps.foldl h fun y b hy => Keeps.comp (State.flashEnd_keeps ..) (by decide) hy)

theorem State.opRestore_keeps (s : State) (q : Req) (key : Option (List ℕ)) :
    Keeps 0x1C8000000700000000000000000000000000000000000000000000000000000000000000000000000001400002C30002C8 s (State.opRestore s q key) := by
  have h0 : Keeps 0x1C8000000700000000000000000000000000000000000000000000000000000000000000000000000001400002C30002C8 s s := Keeps.refl _ _
  unfold State.opRestore
  repeat' first | with_reducible assumption | apply Eq.refl | (with_reducible first | apply Keeps.step (State.done_keeps ..) | apply Keeps.step (State.accept_keeps ..) | apply Keeps.ite) | split

theorem State.restoreEnd_keeps (s : State) :
    Keeps 0x7FFFFFFFFFFFFFFFFFFFFFFFFFFFFFFFFFFFFFFFFFFFFFFFFFFFFFFFFFFFFFFFFFFFFFFFFFFFFFFFFFFFFFFFFFFFFFFFFFFFF7FFFFFE32C16C8 s (State.restoreEnd s) := by
  have h0 : Keeps 0x7FFFFFFFFFFFFFFFFFFFFFFFFFFFFFFFFFFFFFFFFFFFFFFFFFFFFFFFFFFFFFFFFFFFFFFFFFFFFFFFFFFFFFFFFFFFFFFFFFFFF7FFFFFE32C16C8 s s := Keeps.refl _ _
  unfold State.restoreEnd
  extract_lets x0
  have h1 : Keeps 0x7FFFFFFFFFFFFFFFFFFFFFFFFFFFFFFFFFFFFFFFFFFFFFFFFFFFFFFFFFFFFFFFFFFFFFFFFFFFFFFFFFFFFFFFFFFFFFFFFFFFF7FFFFFE32C16C8 s x0.1 := by unfold x0; repeat' first | with_reducible assumption | apply Eq.refl | with_reducible apply Keeps.step (State.loadNewest_keeps ..)
  try clear_value x0
  repeat' first | with_reducible assumption | apply Eq.refl | (with_reducible first | apply Keeps.step (State.opFinish_keeps ..) | apply Keeps.ite) | split

theorem State.opTapGrab_keeps (s : State) (q : Req) (key : Option (List ℕ)) :
    Keeps 0xD01C8000000700080000000000000000000000000000000000000000000000000000000000000000000001400002D30002C8 s (State.opTapGrab s q key) := by
  have h0 : Keeps 0xD01C8000000700080000000000000000000000000000000000000000000000000000000000000000000001400002D30002C8 s s := Keeps.refl _ _
  unfold State.opTapGrab
  repeat' first | with_reducible assumption | apply Eq.refl | (with_reducible first | apply Keeps.step (State.done_keeps ..) | apply Keeps.step (State.grabStart_keeps ..) | apply Keeps.step (State.accept_keeps ..) | apply Keeps.ite) | split

theorem State.tapBytes_keeps (s : State) (x : ℕ × TapRec) (ofs : ℕ) (n : ℕ) :
    Keeps 0xC00000000000000000000000000000000000000000000000000000000000000000000001000002000000D8 s (State.tapBytes s x ofs n).1 := by
  have h0 : Keeps 0xC00000000000000000000000000000000000000000000000000000000000000000000001000002000000D8 s s := Keeps.refl _ _
  unfold State.tapBytes
  repeat' first | with_reducible assumption | apply Eq.refl | intro c | (with_reducible first | apply Keeps.step (State.ddrRead_keeps ..) | apply Keeps.step (State.draw_keeps ..) | apply Keeps.ite | apply Keeps.foldl | apply Keeps.foldl_fst) | split | extract_lets

theorem State.opTapRead_keeps (s : State) (q : Req) (key : Option (List ℕ)) :
    Keeps 0x1C8000000700C00000000000000000000000000000000000000000000000000000000000000000000001400002C30002D8 s (State.opTapRead s q key) := by
  have h0 : Keeps 0x1C8000000700C00000000000000000000000000000000000000000000000000000000000000000000001400002C30002D8 s s := Keeps.refl _ _
  unfold State.opTapRead
  repeat' first | with_reducible assumption | apply Eq.refl | (with_reducible first | apply Keeps.step (State.tapBytes_keeps ..) | apply Keeps.step (State.done_keeps ..)) | split | extract_lets

theorem State.drawBytes_keeps (s : State) (n : Nat) : Keeps 0x10 s (s.drawBytes n).1 := by
  induction n generalizing s with
  | zero => exact Keeps.refl _ _
  | succ n ih => exact Keeps.comp (ih _) (by decide) (Keeps.comp (State.draw_keeps ..) (by decide) (Keeps.refl _ _))

theorem State.opSessionOpen_keeps (s : State) (q : Req) (key : Option (List ℕ)) :
    Keeps 0x1C8100000700000000000000000000000000000000000000000000000000000000000000000000000001400002C30002D8 s (State.opSessionOpen s q key) := by
  have h0 : Keeps 0x1C8100000700000000000000000000000000000000000000000000000000000000000000000000000001400002C30002D8 s s := Keeps.refl _ _
  unfold State.opSessionOpen
  extract_lets x0
  have h1 : Keeps 0x1C8100000700000000000000000000000000000000000000000000000000000000000000000000000001400002C30002D8 s x0.1 := by unfold x0; repeat' first | with_reducible assumption | apply Eq.refl | with_reducible apply Keeps.step (State.drawBytes_keeps ..)
  try clear_value x0
  repeat' first | with_reducible assumption | apply Eq.refl | (with_reducible first | apply Keeps.step (State.done_keeps ..) | apply Keeps.step (State.openSession_keeps ..) | apply Keeps.ite) | split

theorem State.opSessionClose_keeps (s : State) (q : Req) (key : Option (List ℕ)) :
    Keeps 0x1C8100000700000000000000000000000000000000000000000000000000000000000000000000000001400002C30002C8 s (State.opSessionClose s q key) := by
  have h0 : Keeps 0x1C8100000700000000000000000000000000000000000000000000000000000000000000000000000001400002C30002C8 s s := Keeps.refl _ _
  unfold State.opSessionClose
  repeat' first | with_reducible assumption | apply Eq.refl | (with_reducible first | apply Keeps.step (State.done_keeps ..) | apply Keeps.step (State.setSessions_keeps ..))

theorem State.opSetDevkey_keeps (s : State) (q : Req) (key : Option (List ℕ)) :
    Keeps 0x1C8180000700000000000000000000000000000000000000000000000000000000000000000000000001400002CB0002C8 s (State.opSetDevkey s q key) := by
  have h0 : Keeps 0x1C8180000700000000000000000000000000000000000000000000000000000000000000000000000001400002CB0002C8 s s := Keeps.refl _ _
  unfold State.opSetDevkey
  repeat' first | (with_reducible first | assumption | apply Canon.saved | apply Canon.saving | apply Keeps.canon) | apply Eq.refl | intro c | (with_reducible first | apply Keeps.step (State.done_keeps ..) | apply Keeps.step (State.setSessions_keeps ..) | apply State.set_keeps | apply Keeps.ite) | ((with_reducible apply Has.fam (ETH_STAT_KEYSET_cls ..)); exact Eq.refl true) | split | extract_lets | with_reducible apply Keeps.put_flash

theorem State.opUpdBegin_keeps (s : State) (q : Req) (key : Option (List ℕ)) :
    Keeps 0x1C8000006700000000000000000000000000000000000000000000000000000000000000000000000001400002CB0002C8 s (State.opUpdBegin s q key) := by
  have h0 : Keeps 0x1C8000006700000000000000000000000000000000000000000000000000000000000000000000000001400002CB0002C8 s s := Keeps.refl _ _
  unfold State.opUpdBegin
  extract_lets _ x1
  have h2 : Keeps 0x1C8000006700000000000000000000000000000000000000000000000000000000000000000000000001400002CB0002C8 s x1 := by unfold x1; repeat' first | (with_reducible first | assumption | apply setSlot_saved | apply setSlot_saving) | apply Eq.refl | intro c | (with_reducible first | apply Keeps.step (State.flashBusy_keeps ..) | apply Keeps.step (State.accept_keeps ..))
  try clear_value x1
  repeat' first | (with_reducible first | assumption | apply setSlot_saved | apply setSlot_saving | apply Canon.saved | apply Canon.saving | apply Keeps.canon) | apply Eq.refl | intro c | (with_reducible first | apply Keeps.step (State.done_keeps ..) | apply Keeps.ite) | split | extract_lets | with_reducible apply Keeps.put_flash

theorem State.eraseEnd_keeps (s : State) :
    Keeps 0x8000004700000000000000000000000000000000000000000000000000000000000000000000000001400002CB0002C8 s (State.eraseEnd s) := by
  have h0 : Keeps 0x8000004700000000000000000000000000000000000000000000000000000000000000000000000001400002CB0002C8 s s := Keeps.refl _ _
  unfold State.eraseEnd
  repeat' first | (with_reducible first | assumption | apply setSlot_saved | apply setSlot_saving) | apply Eq.refl | intro c | (with_reducible first | apply Keeps.step (State.opFinish_keeps ..) | apply Keeps.step (State.flashEnd_keeps ..) | apply Keeps.ite) | split | extract_lets

theorem State.opUpdData_keeps (s : State) (q : Req) (key : Option (List ℕ)) :
    Keeps 0x1C8000000700000000000000000000000000000000000000000000000000000000000000000000000001400002CB0002C8 s (State.opUpdData s q key) := by
  have h0 : Keeps 0x1C8000000700000000000000000000000000000000000000000000000000000000000000000000000001400002CB0002C8 s s := Keeps.refl _ _
  unfold State.opUpdData
  extract_lets _ _ _ x3
  have h4 : Keeps 0x1C8000000700000000000000000000000000000000000000000000000000000000000000000000000001400002CB0002C8 s x3 := by unfold x3; repeat' first | (with_reducible first | assumption | apply setSlot_saved | apply setSlot_saving | apply Canon.saved | apply Canon.saving | apply Keeps.canon) | apply Eq.refl | intro c | with_reducible apply Keeps.put_flash
  try clear_value x3
  repeat' first | (with_reducible first | assumption | apply setSlot_saved | apply setSlot_saving) | apply Eq.refl | intro c | (with_reducible first | apply Keeps.step (State.done_keeps ..) | apply Keeps.step (State.dropLines_keeps ..) | apply Keeps.ite) | split | extract_lets

theorem State.opUpdVerify_keeps (s : State) (q : Req) (key : Option (List ℕ)) :
    Keeps 0x1C8000000700000000000000000000000000000000000000000000000000000000000000000000000001400002C30002C8 s (State.opUpdVerify s q key) := by
  have h0 : Keeps 0x1C8000000700000000000000000000000000000000000000000000000000000000000000000000000001400002C30002C8 s s := Keeps.refl _ _
  unfold State.opUpdVerify
  repeat' first | (with_reducible first | assumption | apply setSlot_saved | apply setSlot_saving) | apply Eq.refl | intro c | (with_reducible first | apply Keeps.step (State.done_keeps ..) | apply Keeps.step (State.accept_keeps ..) | apply Keeps.ite) | split

theorem State.verifyEnd_keeps (s : State) :
    Keeps 0x8000000700000000000000000000000000000000000000000000000000000000000000000000000001400002CB0002D8 s (State.verifyEnd s) := by
  have h0 : Keeps 0x8000000700000000000000000000000000000000000000000000000000000000000000000000000001400002CB0002D8 s s := Keeps.refl _ _
  unfold State.verifyEnd
  extract_lets _ _ _ _ x4 x5
  have h5 : Keeps 0x8000000700000000000000000000000000000000000000000000000000000000000000000000000001400002CB0002D8 s x4 := by unfold x4; repeat' first | (with_reducible first | assumption | apply setSlot_saved | apply setSlot_saving | apply Canon.saved | apply Canon.saving | apply Keeps.canon) | apply Eq.refl | intro c | with_reducible apply Keeps.put_flash
  try clear_value x4
  have h6 : Keeps 0x8000000700000000000000000000000000000000000000000000000000000000000000000000000001400002CB0002D8 s x5 := by unfold x5; repeat' first | (with_reducible first | assumption | apply setSlot_saved | apply setSlot_saving | apply Canon.saved | apply Canon.saving | apply Keeps.canon) | apply Eq.refl | intro c | with_reducible apply Keeps.put_flash
  try clear_value x5
  repeat' first | (with_reducible first | assumption | apply setSlot_saved | apply setSlot_saving) | apply Eq.refl | intro c | (with_reducible first | apply Keeps.step (State.opFinish_keeps ..) | apply Keeps.step (State.imageRecord_keeps ..) | apply Keeps.step (State.raise_keeps ..) | apply Keeps.ite) | split | extract_lets

theorem State.opUpdActivate_keeps (s : State) (q : Req) (key : Option (List ℕ)) :
    Keeps 0x1C80000027000007E0000804C04F60000000000000000000000000000000000000000000000000000001416002CB6202E8 s (State.opUpdActivate s q key) := by
  have h0 : Keeps 0x1C80000027000007E0000804C04F60000000000000000000000000000000000000000000000000000001416002CB6202E8 s s := Keeps.refl _ _
  unfold State.opUpdActivate
  extract_lets _ x1
  have h2 : Keeps 0x1C80000027000007E0000804C04F60000000000000000000000000000000000000000000000000000001416002CB6202E8 s x1 := by unfold x1; repeat' first | (with_reducible first | assumption | apply setSlot_saved | apply setSlot_saving | apply Canon.saved | apply Canon.saving | apply Keeps.canon) | apply Eq.refl | intro c | with_reducible apply Keeps.put_flash
  try clear_value x1
  repeat' first | (with_reducible first | assumption | apply setSlot_saved | apply setSlot_saving) | apply Eq.refl | intro c | (with_reducible first | apply Keeps.step (State.done_keeps ..) | apply Keeps.step (State.commandedReset_keeps ..) | apply Keeps.ite) | split | extract_lets

theorem State.logReadPay_keeps (s : State) (seq : ℕ) (n : ℕ) :
    Keeps 0x7E0000800000000000000000000000000000000000000000000000000000000000001010002000000C8 s (State.logReadPay s seq n).1 := by
  have h0 : Keeps 0x7E0000800000000000000000000000000000000000000000000000000000000000001010002000000C8 s s := Keeps.refl _ _
  unfold State.logReadPay
  repeat' first | with_reducible assumption | apply Eq.refl | intro c | (with_reducible first | apply Keeps.step (State.readEntry_keeps ..) | apply Keeps.foldl | apply Keeps.foldl_fst) | split | extract_lets

theorem State.opLogRead_keeps (s : State) (q : Req) (key : Option (List ℕ)) :
    Keeps 0x1C80000007000007E0000800000000000000000000000000000000000000000000000000000000000001410002C30002C8 s (State.opLogRead s q key) := by
  have h0 : Keeps 0x1C80000007000007E0000800000000000000000000000000000000000000000000000000000000000001410002C30002C8 s s := Keeps.refl _ _
  unfold State.opLogRead
  extract_lets x0
  have h1 : Keeps 0x1C80000007000007E0000800000000000000000000000000000000000000000000000000000000000001410002C30002C8 s x0.1 := by unfold x0; repeat' first | with_reducible assumption | apply Eq.refl | with_reducible apply Keeps.step (State.logReadPay_keeps ..)
  try clear_value x0
  repeat' first | with_reducible assumption | apply Eq.refl | with_reducible apply Keeps.step (State.done_keeps ..)

theorem State.opChnMaster_keeps (s : State) (q : Req) (key : Option (List ℕ)) :
    Keeps 0x1C8000000700000000000000000000000000000000000000000000000000000000000000000000000001400002C38002C8 s (State.opChnMaster s q key) := by
  have h0 : Keeps 0x1C8000000700000000000000000000000000000000000000000000000000000000000000000000000001400002C38002C8 s s := Keeps.refl _ _
  unfold State.opChnMaster
  extract_lets x0
  have h1 : Keeps 0x1C8000000700000000000000000000000000000000000000000000000000000000000000000000000001400002C38002C8 s x0.1 := by unfold x0; repeat' first | with_reducible assumption | apply Eq.refl | with_reducible apply Keeps.step (State.askMaster_keeps ..)
  try clear_value x0
  repeat' first | with_reducible assumption | apply Eq.refl | (with_reducible first | apply Keeps.step (State.done_keeps ..) | apply Keeps.ite) | split

theorem State.scalAbort_keeps (s : State) :
    Keeps 0x8000000700000000000000000000000000000000000000000000000000000000000000000000000001400042C30006C8 s (State.scalAbort s) := by
  have h0 : Keeps 0x8000000700000000000000000000000000000000000000000000000000000000000000000000000001400042C30006C8 s s := Keeps.refl _ _
  unfold State.scalAbort
  extract_lets x0
  have h1 : Keeps 0x8000000700000000000000000000000000000000000000000000000000000000000000000000000001400042C30006C8 s x0 := by unfold x0; repeat' first | with_reducible assumption | apply Eq.refl | intro c | (with_reducible first | apply State.set_keeps | apply Keeps.step (State.setTile_keeps ..) | apply Keeps.step (State.startRotation_keeps ..) | apply Keeps.ite | apply Keeps.foldl) | ((with_reducible apply Has.fam (TIL_CVSTAT_SCAL_BUSY_cls ..)); exact Eq.refl true) | split | extract_lets
  try clear_value x0
  repeat' first | with_reducible assumption | apply Eq.refl | (with_reducible first | apply Keeps.step (State.opFinish_keeps ..) | apply Keeps.ite) | split

theorem State.updAbort_keeps (s : State) (opcode : ℕ) :
    Keeps 0x8000000700000000000000000000000000000000000000000000000000000000000000000000000001400002CB0002C8 s (State.updAbort s opcode) := by
  have h0 : Keeps 0x8000000700000000000000000000000000000000000000000000000000000000000000000000000001400002CB0002C8 s s := Keeps.refl _ _
  unfold State.updAbort
  extract_lets _ x1
  have h2 : Keeps 0x8000000700000000000000000000000000000000000000000000000000000000000000000000000001400002CB0002C8 s x1 := by unfold x1; repeat' first | (with_reducible first | assumption | apply setSlot_saved | apply setSlot_saving | apply Canon.saved | apply Canon.saving | apply Keeps.canon) | apply Eq.refl | intro c | with_reducible apply Keeps.ite | split | with_reducible apply Keeps.put_flash
  try clear_value x1
  repeat' first | (with_reducible first | assumption | apply setSlot_saved | apply setSlot_saving) | apply Eq.refl | intro c | (with_reducible first | apply Keeps.step (State.opFinish_keeps ..) | apply Keeps.ite) | split | extract_lets

theorem State.calWaitAbort_keeps (s : State) (o : LongOp) :
    Keeps 0x8000000700000000000000000000000000000000000000000000000000000000000000000000000001400002C30002C8 s (State.calWaitAbort s o) := by
  have h0 : Keeps 0x8000000700000000000000000000000000000000000000000000000000000000000000000000000001400002C30002C8 s s := Keeps.refl _ _
  unfold State.calWaitAbort
  extract_lets _ _ x2
  have h3 : Keeps 0x8000000700000000000000000000000000000000000000000000000000000000000000000000000001400002C30002C8 s x2 := by unfold x2; repeat' first | with_reducible assumption | apply Eq.refl | with_reducible apply Keeps.put_baind
  try clear_value x2
  repeat' first | with_reducible assumption | apply Eq.refl | (with_reducible first | apply Keeps.step (State.raise_keeps ..) | apply Keeps.step (State.sendReply_keeps ..)) | extract_lets

theorem State.abortOp_keeps (s : State) (o : LongOp) :
    Keeps 0x40000E000D0008000000700080000000004C04F000000000000000000000807880B00C0300000000400000000000001406042FBC076C8 s (State.abortOp s o) := by
  have h0 : Keeps 0x40000E000D0008000000700080000000004C04F000000000000000000000807880B00C0300000000400000000000001406042FBC076C8 s s := Keeps.refl _ _
  unfold State.abortOp
  repeat' first | (with_reducible first | assumption | apply setWf_none | apply Canon.saved | apply Canon.saving | apply Keeps.canon) | apply Eq.refl | intro c | (with_reducible first | apply Keeps.step (State.calWaitAbort_keeps ..) | apply Keeps.step (State.opFinish_keeps ..) | apply Keeps.step (State.calAbortW_keeps ..) | apply Keeps.step (State.scalAbort_keeps ..) | apply Keeps.step (State.hkaScalAbort_keeps ..) | apply Keeps.step (State.grabAbort_keeps ..) | apply Keeps.step (State.updAbort_keeps ..) | apply Keeps.ite) | split | extract_lets | with_reducible apply Keeps.put_flash

theorem State.opAbort_keeps (s : State) (q : Req) (key : Option (List ℕ)) :
    Keeps 0x40000E000D01C8000000700080000000004C04F000000000000000000000807880B00C0300000000400000000000001406042FBC076C8 s (State.opAbort s q key) := by
  have h0 : Keeps 0x40000E000D01C8000000700080000000004C04F000000000000000000000807880B00C0300000000400000000000001406042FBC076C8 s s := Keeps.refl _ _
  unfold State.opAbort
  repeat' first | with_reducible assumption | apply Eq.refl | (with_reducible first | apply Keeps.step (State.done_keeps ..) | apply Keeps.step (State.abortOp_keeps ..)) | split

theorem State.runOp_keeps (s : State) (q : Req) (key : Option (List ℕ)) :
    Keeps 0x7FFFFFFFFFFFFFFFFFFFFFFFFFFFFFFFFFFFFFFFFFFFFFFFFFFFFFFFFFFFFFFFFFFFFFFFFFFFFFFFFFFFFFFFFFFFFFFFFFFFFFFFFFFFFFF77F8 s (State.runOp s q key) := by
  have h0 : Keeps 0x7FFFFFFFFFFFFFFFFFFFFFFFFFFFFFFFFFFFFFFFFFFFFFFFFFFFFFFFFFFFFFFFFFFFFFFFFFFFFFFFFFFFFFFFFFFFFFFFFFFFFFFFFFFFFFF77F8 s s := Keeps.refl _ _
  unfold State.runOp
  repeat' first | with_reducible assumption | apply Eq.refl | (with_reducible first | apply Keeps.step (State.opRegRead_keeps ..) | apply Keeps.step (State.opRegWrite_keeps ..) | apply Keeps.step (State.opRegModify_keeps ..) | apply Keeps.step (State.opStart_keeps ..) | apply Keeps.step (State.opStop_keeps ..) | apply Keeps.step (State.opSafe_keeps ..) | apply Keeps.step (State.opRestart_keeps ..) | apply Keeps.step (State.opReset_keeps ..) | apply Keeps.step (State.opStatus_keeps ..) | apply Keeps.step (State.done_keeps ..) | apply Keeps.step (State.opCalRun_keeps ..) | apply Keeps.step (State.opCalGref_keeps ..) | apply Keeps.step (State.opCalGapply_keeps ..) | apply Keeps.step (State.opConvScal_keeps ..) | apply Keeps.step (State.opHkaScal_keeps ..) | apply Keeps.step (State.opLoadTable_keeps ..) | apply Keeps.step (State.opReadTable_keeps ..) | apply Keeps.step (State.opSave_keeps ..) | apply Keeps.step (State.opRestore_keeps ..) | apply Keeps.step (State.opTapGrab_keeps ..) | apply Keeps.step (State.opTapRead_keeps ..) | apply Keeps.step (State.opSessionOpen_keeps ..) | apply Keeps.step (State.opSessionClose_keeps ..) | apply Keeps.step (State.opSetDevkey_keeps ..) | apply Keeps.step (State.opUpdBegin_keeps ..) | apply Keeps.step (State.opUpdData_keeps ..) | apply Keeps.step (State.opUpdVerify_keeps ..) | apply Keeps.step (State.opUpdActivate_keeps ..) | apply Keeps.step (State.opLogRead_keeps ..) | apply Keeps.step (State.opChnMaster_keeps ..) | apply Keeps.step (State.opAbort_keeps ..) | apply Keeps.step (State.answer_keeps ..)) | split

theorem State.execute_keeps (s : State) (q : Req) (key : Option (List ℕ)) :
    Keeps 0x7FFFFFFFFFFFFFFFFFFFFFFFFFFFFFFFFFFFFFFFFFFFFFFFFFFFFFFFFFFFFFFFFFFFFFFFFFFFFFFFFFFFFFFFFFFFFFFFFFFFFFFFFFFFFFF77F8 s (State.execute s q key) := by
  have h0 : Keeps 0x7FFFFFFFFFFFFFFFFFFFFFFFFFFFFFFFFFFFFFFFFFFFFFFFFFFFFFFFFFFFFFFFFFFFFFFFFFFFFFFFFFFFFFFFFFFFFFFFFFFFFFFFFFFFFFF77F8 s s := Keeps.refl _ _
  unfold State.execute
  repeat' first | with_reducible assumption | apply Eq.refl | (with_reducible first | apply Keeps.step (State.answer_keeps ..) | apply Keeps.step (State.runOp_keeps ..) | apply Keeps.ite) | split | extract_lets

theorem State.dispatch_keeps (s : State) (q : Req) (key : Option (List ℕ)) :
    Keeps 0x7FFFFFFFFFFFFFFFFFFFFFFFFFFFFFFFFFFFFFFFFFFFFFFFFFFFFFFFFFFFFFFFFFFFFFFFFFFFFFFFFFFFFFFFFFFFFFFFFFFFFFFFFFFFFFF77F8 s (State.dispatch s q key) := by
  have h0 : Keeps 0x7FFFFFFFFFFFFFFFFFFFFFFFFFFFFFFFFFFFFFFFFFFFFFFFFFFFFFFFFFFFFFFFFFFFFFFFFFFFFFFFFFFFFFFFFFFFFFFFFFFFFFFFFFFFFFF77F8 s s := Keeps.refl _ _
  unfold State.dispatch
  repeat' first | with_reducible assumption | apply Eq.refl | (with_reducible first | apply Keeps.step (State.execute_keeps ..) | apply Keeps.step (State.forward_keeps ..) | apply Keeps.step (State.answer_keeps ..) | apply Keeps.ite) | split

theorem State.serve_keeps (s : State) (q : Req) :
    Keeps 0x7FFFFFFFFFFFFFFFFFFFFFFFFFFFFFFFFFFFFFFFFFFFFFFFFFFFFFFFFFFFFFFFFFFFFFFFFFFFFFFFFFFFFFFFFFFFFFFFFFFFFFFFFFFFFFF77F8 s (State.serve s q) := by
  have h0 : Keeps 0x7FFFFFFFFFFFFFFFFFFFFFFFFFFFFFFFFFFFFFFFFFFFFFFFFFFFFFFFFFFFFFFFFFFFFFFFFFFFFFFFFFFFFFFFFFFFFFFFFFFFFFFFFFFFFFF77F8 s s := Keeps.refl _ _
  unfold State.serve
  extract_lets x0
  have h1 : Keeps 0x7FFFFFFFFFFFFFFFFFFFFFFFFFFFFFFFFFFFFFFFFFFFFFFFFFFFFFFFFFFFFFFFFFFFFFFFFFFFFFFFFFFFFFFFFFFFFFFFFFFFFFFFFFFFFFF77F8 s x0 := by unfold x0; repeat' first | with_reducible assumption | apply Eq.refl | (with_reducible first | apply Keeps.step (State.expireReplies_keeps ..) | apply Keeps.step (State.expireSessions_keeps ..))
  try clear_value x0
  repeat' first | with_reducible assumption | apply Eq.refl | intro c | (with_reducible first | apply Keeps.step (State.sendReply_keeps ..) | apply Keeps.step (State.answer_keeps ..) | apply Keeps.step (State.dispatch_keeps ..) | apply Keeps.step (State.authDone_keeps ..) | apply Keeps.ite | apply Keeps.foldl) | split | extract_lets

theorem State.packet_keeps (s : State) (src : Source) (raw : List ℕ) :
    Keeps 0x7FFFFFFFFFFFFFFFFFFFFFFFFFFFFFFFFFFFFFFFFFFFFFFFFFFFFFFFFFFFFFFFFFFFFFFFFFFFFFFFFFFFFFFFFFFFFFFFFFFFFFFFFFFFFFF77F8 s (State.packet s src raw) := by
  have h0 : Keeps 0x7FFFFFFFFFFFFFFFFFFFFFFFFFFFFFFFFFFFFFFFFFFFFFFFFFFFFFFFFFFFFFFFFFFFFFFFFFFFFFFFFFFFFFFFFFFFFFFFFFFFFFFFFFFFFFF77F8 s s := Keeps.refl _ _
  unfold State.packet
  repeat' first | with_reducible assumption | apply Eq.refl | (with_reducible first | apply Keeps.step (State.dropPacket_keeps ..) | apply Keeps.step (State.serve_keeps ..) | apply Keeps.ite) | split

theorem State.request_keeps (s : State) (h : Hdr) (opcode : ℕ) (pay : List ℕ) :
    Keeps 0x7FFFFFFFFFFFFFFFFFFFFFFFFFFFFFFFFFFFFFFFFFFFFFFFFFFFFFFFFFFFFFFFFFFFFFFFFFFFFFFFFFFFFFFFFFFFFFFFFFFFFFFFFFFFFFF77F8 s (State.request s h opcode pay) := by
  have h0 : Keeps 0x7FFFFFFFFFFFFFFFFFFFFFFFFFFFFFFFFFFFFFFFFFFFFFFFFFFFFFFFFFFFFFFFFFFFFFFFFFFFFFFFFFFFFFFFFFFFFFFFFFFFFFFFFFFFFFF77F8 s s := Keeps.refl _ _
  unfold State.request
  repeat' first | with_reducible assumption | apply Eq.refl | (with_reducible first | apply Keeps.step (State.serve_keeps ..) | apply Keeps.step (State.dropPacket_keeps ..) | apply Keeps.ite) | split

theorem State.hartOff_keeps (s : State) (h : ℕ) :
    Keeps 0x801000002000100C8 s (State.hartOff s h) := by
  have h0 : Keeps 0x801000002000100C8 s s := Keeps.refl _ _
  unfold State.hartOff
  repeat' first | with_reducible assumption | apply Eq.refl | intro c | (with_reducible first | apply Keeps.step (State.raise_keeps ..) | apply State.clrBit_keeps | apply Keeps.ite) | ((with_reducible apply Has.fam (GLB_CORECTL_HARTON_cls ..)); exact Eq.refl true) | split | extract_lets | with_reducible apply Keeps.put_tmx

theorem State.overlap_keeps (s : State) (first : Requester) (last : Requester) (bank : ℕ) (word : ℕ) :
    Keeps 0x400001F000400000000000000000000000000000000000000000000000000000000000001000002020000C8 s (State.overlap s first last bank word) := by
  have h0 : Keeps 0x400001F000400000000000000000000000000000000000000000000000000000000000001000002020000C8 s s := Keeps.refl _ _
  unfold State.overlap
  extract_lets x0 x1 x2
  have h1 : Keeps 0x400001F000400000000000000000000000000000000000000000000000000000000000001000002020000C8 s x0 := by unfold x0; repeat' first | with_reducible assumption | apply Eq.refl | intro c | (with_reducible first | apply State.set_keeps | apply State.bump_keeps) | ((with_reducible apply Has.fam (MEM_STAT_OVLSEEN_cls ..)); exact Eq.refl true) | ((with_reducible apply Has.fam (MEM_OVLCNT_COUNT_cls ..)); exact Eq.refl true)
  try clear_value x0
  have h2 : Keeps 0x400001F000400000000000000000000000000000000000000000000000000000000000001000002020000C8 s x1 := by unfold x1; repeat' first | with_reducible assumption | apply Eq.refl | intro c | with_reducible apply State.set_keeps | ((with_reducible apply Has.fam (MEM_OVLLAST_LAST_cls ..)); exact Eq.refl true) | ((with_reducible apply Has.fam (MEM_OVLLAST_FIRST_cls ..)); exact Eq.refl true) | ((with_reducible apply Has.fam (MEM_OVLLAST_BANK_cls ..)); exact Eq.refl true) | ((with_reducible apply Has.fam (MEM_OVLLAST_WORD_cls ..)); exact Eq.refl true)
  try clear_value x1
  have h3 : Keeps 0x400001F000400000000000000000000000000000000000000000000000000000000000001000002020000C8 s x2 := by unfold x2; repeat' first | with_reducible assumption | apply Eq.refl | with_reducible apply Keeps.step (State.raise_keeps ..)
  try clear_value x2
  repeat' first | with_reducible assumption | apply Eq.refl | intro c | (with_reducible first | apply State.set_keeps | apply Keeps.ite) | ((with_reducible apply Has.fam (SSP_STAT_COLLSEEN_cls ..)); exact Eq.refl true) | split | extract_lets | with_reducible apply Keeps.put_ssp

theorem State.writePair_keeps (s : State) (r : Requester) (a : ℕ) (v : ℕ) (also : Option (Requester × Word)) (hw : ℕ) :
    Keeps 0x7FFFFFFFFFFFFFFFFFFFFFFFFFFFFFFFFFFFFFFFFFFFFFFFFFFFFFFFFFFFFFFFFFFFFFFFFFFFFFFFFFFFFFFFFFFFFFFFFFFFFFFFFFFEFFF77F8 s (State.writePair s r a v also hw) := by
  have h0 : Keeps 0x7FFFFFFFFFFFFFFFFFFFFFFFFFFFFFFFFFFFFFFFFFFFFFFFFFFFFFFFFFFFFFFFFFFFFFFFFFFFFFFFFFFFFFFFFFFFFFFFFFFFFFFFFFFEFFF77F8 s s := Keeps.refl _ _
  unfold State.writePair
  repeat' first | with_reducible assumption | apply Eq.refl | (with_reducible first | apply Keeps.step (State.regWriteBy_keeps ..) | apply Keeps.step (State.overlap_keeps ..) | apply Keeps.ite) | split | extract_lets

theorem State.regStore_keeps (s : State) (r : Requester) (o : ℕ) (size : StoreSize) (v : Word) (also : Option (Requester × Word)) (hw : ℕ) :
    Keeps 0x7FFFFFFFFFFFFFFFFFFFFFFFFFFFFFFFFFFFFFFFFFFFFFFFFFFFFFFFFFFFFFFFFFFFFFFFFFFFFFFFFFFFFFFFFFFFFFFFFFFFFFFFFFFEFFF77F8 s (State.regStore s r o size v also hw) := by
  have h0 : Keeps 0x7FFFFFFFFFFFFFFFFFFFFFFFFFFFFFFFFFFFFFFFFFFFFFFFFFFFFFFFFFFFFFFFFFFFFFFFFFFFFFFFFFFFFFFFFFFFFFFFFFFFFFFFFFFEFFF77F8 s s := Keeps.refl _ _
  unfold State.regStore
  repeat' first | with_reducible assumption | apply Eq.refl | (with_reducible first | apply Keeps.step (State.noAccess_keeps ..) | apply Keeps.step (State.writePair_keeps ..) | apply Keeps.step (State.regWriteBy_keeps ..) | apply Keeps.ite) | split

theorem State.storePair_keeps (s : State) (r : Requester) (a : ℕ) (b : ℕ) (o : ℕ) (size : StoreSize) (v : Word) (also : Option (Requester × Word)) :
    Keeps 0x4C007FF000C04C04F60000000000000000000000000000000000000000000000000000001016002C26200FA s (State.storePair s r a b o size v also) := by
  have h0 : Keeps 0x4C007FF000C04C04F60000000000000000000000000000000000000000000000000000001016002C26200FA s s := Keeps.refl _ _
  unfold State.storePair
  repeat' first | with_reducible assumption | apply Eq.refl | (with_reducible first | apply Keeps.step (State.store_keeps ..) | apply Keeps.step (State.bankStore_keeps ..) | apply Keeps.step (State.overlap_keeps ..) | apply Keeps.step (State.store_keeps ..) | apply Keeps.ite) | split | extract_lets

theorem State.writeAt_keeps (s : State) (r : Requester) (a : ℕ) (size : StoreSize) (v : Word) (also : Option (Requester × Word)) (hw : ℕ) :
    Keeps 0x7FFFFFFFFFFFFFFFFFFFFFFFFFFFFFFFFFFFFFFFFFFFFFFFFFFFFFFFFFFFFFFFFFFFFFFFFFFFFFFFFFFFFFFFFFFFFFFFFFFFFFFFFFFEFFF77FA s (State.writeAt s r a size v also hw) := by
  have h0 : Keeps 0x7FFFFFFFFFFFFFFFFFFFFFFFFFFFFFFFFFFFFFFFFFFFFFFFFFFFFFFFFFFFFFFFFFFFFFFFFFFFFFFFFFFFFFFFFFFFFFFFFFFFFFFFFFFEFFF77FA s s := Keeps.refl _ _
  unfold State.writeAt
  repeat' first | with_reducible assumption | apply Eq.refl | (with_reducible first | apply Keeps.step (State.regStore_keeps ..) | apply Keeps.step (State.storePair_keeps ..) | apply Keeps.step (State.store_keeps ..)) | split

theorem State.readAt_keeps (s : State) (r : Requester) (a : ℕ) (also : Option (Requester × Word)) :
    Keeps 0x7FFFFFFFFFFFFFFFFFFFFFFFFFFFFFFFFFFFFFFFFFFFFFFFFFFFFFFFFFFFFFFFFFFFFFFFFFFFFFFFFFFFFFFFFFFFFFFFFFFFFFFFFFFEFFF77FA s (State.readAt s r a also) := by
  have h0 : Keeps 0x7FFFFFFFFFFFFFFFFFFFFFFFFFFFFFFFFFFFFFFFFFFFFFFFFFFFFFFFFFFFFFFFFFFFFFFFFFFFFFFFFFFFFFFFFFFFFFFFFFFFFFFFFFFEFFF77FA s s := Keeps.refl _ _
  unfold State.readAt
  repeat' first | with_reducible assumption | apply Eq.refl | (with_reducible first | apply Keeps.step (State.load_keeps ..) | apply Keeps.step (State.regWriteBy_keeps ..) | apply Keeps.step (State.bankStore_keeps ..) | apply Keeps.ite) | split | extract_lets

theorem State.readWide_keeps (s : State) (r : Requester) (a : ℕ) (wide : Bool) (also : Option (Requester × Word)) :
    Keeps 0x7FFFFFFFFFFFFFFFFFFFFFFFFFFFFFFFFFFFFFFFFFFFFFFFFFFFFFFFFFFFFFFFFFFFFFFFFFFFFFFFFFFFFFFFFFFFFFFFFFFFFFFFFFFEFFF77FA s (State.readWide s r a wide also) := by
  have h0 : Keeps 0x7FFFFFFFFFFFFFFFFFFFFFFFFFFFFFFFFFFFFFFFFFFFFFFFFFFFFFFFFFFFFFFFFFFFFFFFFFFFFFFFFFFFFFFFFFFFFFFFFFFFFFFFFFFEFFF77FA s s := Keeps.refl _ _
  unfold State.readWide
  repeat' first | with_reducible assumption | apply Eq.refl | (with_reducible first | apply Keeps.step (State.load_keeps ..) | apply Keeps.step (State.readAt_keeps ..) | apply Keeps.ite) | split

theorem State.mbxSendBy_keeps (s : State) (r : Requester) (c : ℕ) (d : MbxDir) :
    Keeps 0x4040000080000208 s (State.mbxSendBy s r c d) := by
  have h0 : Keeps 0x4040000080000208 s s := Keeps.refl _ _
  unfold State.mbxSendBy
  repeat' first | with_reducible assumption | apply Eq.refl | intro c | (with_reducible first | apply State.guardW_keeps | apply Keeps.step (State.mbxSendW_keeps ..) | apply Keeps.step (State.protErr_keeps ..) | apply Keeps.ite) | ((with_reducible apply Has.fam (GLB_STAT_PROTERR_cls ..)); exact Eq.refl true) | split

theorem State.pulseEnd_keeps (s : State) (i : ℕ) :
    Keeps 0x44 s (State.pulseEnd s i) := by
  have h0 : Keeps 0x44 s s := Keeps.refl _ _
  unfold State.pulseEnd
  extract_lets _ x1
  have h2 : Keeps 0x44 s x1 := by unfold x1; repeat' first | with_reducible assumption | apply Eq.refl | with_reducible apply Keeps.step (State.advance_keeps ..)
  try clear_value x1
  repeat' first | with_reducible assumption | apply Eq.refl | (with_reducible first | apply Keeps.step (State.setPin_keeps ..) | apply Keeps.ite) | split | extract_lets

theorem State.setTag_keeps (s : State) (t : ℕ) :
    Keeps 0x1000000 s (State.setTag s t) := by
  have h0 : Keeps 0x1000000 s s := Keeps.refl _ _
  unfold State.setTag
  repeat' first | with_reducible assumption | apply Eq.refl | extract_lets | with_reducible apply Keeps.put_baind

theorem State.takeMsg_keeps (s : State) (c : ℕ) :
    Keeps 0x40000001000208 s (State.takeMsg s c) := by
  have h0 : Keeps 0x40000001000208 s s := Keeps.refl _ _
  unfold State.takeMsg
  repeat' first | with_reducible assumption | apply Eq.refl | (with_reducible first | apply Keeps.step (State.setTag_keeps ..) | apply Keeps.step (State.setMbx_keeps ..)) | split | extract_lets

theorem State.reject_keeps (s : State) (c : ℕ) (w0 : ℕ) :
    Keeps 0x1400000C1000288 s (State.reject s c w0) := by
  have h0 : Keeps 0x1400000C1000288 s s := Keeps.refl _ _
  unfold State.reject
  repeat' first | with_reducible assumption | apply Eq.refl | with_reducible apply Keeps.step (State.mbxReply_keeps ..)

theorem State.fromRow_keeps (s : State) (h : Hdr) (opcode : ℕ) (pay : List ℕ) :
    Keeps 0x7FFFFFFFFFFFFFFFFFFFFFFFFFFFFFFFFFFFFFFFFFFFFFFFFFFFFFFFFFFFFFFFFFFFFFFFFFFFFFFFFFFFFFFFFFFFFFFFFFFFFFFFFFFFFFF77F8 s (State.fromRow s h opcode pay) := by
  have h0 : Keeps 0x7FFFFFFFFFFFFFFFFFFFFFFFFFFFFFFFFFFFFFFFFFFFFFFFFFFFFFFFFFFFFFFFFFFFFFFFFFFFFFFFFFFFFFFFFFFFFFFFFFFFFFFFFFFFFFF77F8 s s := Keeps.refl _ _
  unfold State.fromRow
  repeat' first | with_reducible assumption | apply Eq.refl | (with_reducible first | apply Keeps.step (State.takeMsg_keeps ..) | apply Keeps.step (State.request_keeps ..) | apply Keeps.step (State.reject_keeps ..) | apply Keeps.step (State.setTag_keeps ..) | apply Keeps.ite) | split | extract_lets

theorem State.sessionExpire_keeps (s : State) (src : Source) :
    Keeps 0x1000000000000000000000000000000000000000000000000000000000000000000000000000000000000000100000C s (State.sessionExpire s src) := by
  have h0 : Keeps 0x1000000000000000000000000000000000000000000000000000000000000000000000000000000000000000100000C s s := Keeps.refl _ _
  unfold State.sessionExpire
  repeat' first | with_reducible assumption | apply Eq.refl | (with_reducible first | apply Keeps.step (State.expireSessions_keeps ..) | apply Keeps.step (State.advance_keeps ..)) | split

theorem State.replyExpire_keeps (s : State) (src : Source) :
    Keeps 0x1000004 s (State.replyExpire s src) := by
  have h0 : Keeps 0x1000004 s s := Keeps.refl _ _
  unfold State.replyExpire
  repeat' first | with_reducible assumption | apply Eq.refl | (with_reducible first | apply Keeps.step (State.expireReplies_keeps ..) | apply Keeps.step (State.advance_keeps ..)) | split

theorem State.mbxHandle_keeps (s : State) (c : ℕ) (m : List ℕ) :
    Keeps 0x7FFFFFFFFFFFFFFFFFFFFFFFFFFFFFFFFFFFFFFFFFFFFFFFFFFFFFFFFFFFFFFFFFFFFFFFFFFFFFFFFFFFFFFFFFFFFFFFFFFFFFFFFFFFFFF77F8 s (State.mbxHandle s c m) := by
  have h0 : Keeps 0x7FFFFFFFFFFFFFFFFFFFFFFFFFFFFFFFFFFFFFFFFFFFFFFFFFFFFFFFFFFFFFFFFFFFFFFFFFFFFFFFFFFFFFFFFFFFFFFFFFFFFFFFFFFFFFF77F8 s s := Keeps.refl _ _
  unfold State.mbxHandle
  extract_lets _ _ _ x3
  have h4 : Keeps 0x7FFFFFFFFFFFFFFFFFFFFFFFFFFFFFFFFFFFFFFFFFFFFFFFFFFFFFFFFFFFFFFFFFFFFFFFFFFFFFFFFFFFFFFFFFFFFFFFFFFFFFFFFFFFFFF77F8 s x3.1 := by unfold x3; repeat' first | with_reducible assumption | apply Eq.refl | with_reducible apply Keeps.step (State.fbFetch_keeps ..)
  try clear_value x3
  repeat' first | with_reducible assumption | apply Eq.refl | (with_reducible first | apply Keeps.step (State.packet_keeps ..) | apply Keeps.step (State.setTag_keeps ..) | apply Keeps.step (State.reject_keeps ..) | apply Keeps.ite) | split | extract_lets

theorem State.mbxPopBy_keeps (s : State) (r : Requester) (c : ℕ) (d : MbxDir) :
    Keeps 0x7FFFFFFFFFFFFFFFFFFFFFFFFFFFFFFFFFFFFFFFFFFFFFFFFFFFFFFFFFFFFFFFFFFFFFFFFFFFFFFFFFFFFFFFFFFFFFFFFFFFFFFFFFFFFFF77F8 s (State.mbxPopBy s r c d) := by
  have h0 : Keeps 0x7FFFFFFFFFFFFFFFFFFFFFFFFFFFFFFFFFFFFFFFFFFFFFFFFFFFFFFFFFFFFFFFFFFFFFFFFFFFFFFFFFFFFFFFFFFFFFFFFFFFFFFFFFFFFFF77F8 s s := Keeps.refl _ _
  unfold State.mbxPopBy
  repeat' first | with_reducible assumption | apply Eq.refl | intro c | (with_reducible first | apply State.guardW_keeps | apply Keeps.step (State.mbxPopW_keeps ..) | apply Keeps.step (State.mbxHandle_keeps ..) | apply Keeps.step (State.protErr_keeps ..) | apply Keeps.ite) | ((with_reducible apply Has.fam (GLB_STAT_PROTERR_cls ..)); exact Eq.refl true) | split | extract_lets

theorem State.relayReply_keeps (s : State) (f : Forwarded) (i : ℕ) (rest : List ℕ) :
    Keeps 0x8000000700000000000000000000000000000000000000000000000000000000000000000000000001400000C3000288 s (State.relayReply s f i rest) := by
  have h0 : Keeps 0x8000000700000000000000000000000000000000000000000000000000000000000000000000000001400000C3000288 s s := Keeps.refl _ _
  unfold State.relayReply
  extract_lets _ _ _ _ x4 x5
  have h5 : Keeps 0x8000000700000000000000000000000000000000000000000000000000000000000000000000000001400000C3000288 s x4 := by unfold x4; repeat' first | with_reducible assumption | apply Eq.refl | with_reducible apply Keeps.step (State.sendReply_keeps ..)
  try clear_value x4
  have h6 : Keeps 0x8000000700000000000000000000000000000000000000000000000000000000000000000000000001400000C3000288 s x5 := by unfold x5; repeat' first | with_reducible assumption | apply Eq.refl | (with_reducible first | apply Keeps.step (State.keepReply_keeps ..) | apply Keeps.ite) | split
  try clear_value x5
  repeat' first | with_reducible assumption | apply Eq.refl | with_reducible apply Keeps.ite | split | extract_lets | with_reducible apply Keeps.put_baind

theorem State.forwarded_keeps (s : State) (isReply : Bool) (h : Hdr) (opcode : ℕ) (pay : List ℕ) :
    Keeps 0x7FFFFFFFFFFFFFFFFFFFFFFFFFFFFFFFFFFFFFFFFFFFFFFFFFFFFFFFFFFFFFFFFFFFFFFFFFFFFFFFFFFFFFFFFFFFFFFFFFFFFFFFFFFFFFF77F8 s (State.forwarded s isReply h opcode pay) := by
  have h0 : Keeps 0x7FFFFFFFFFFFFFFFFFFFFFFFFFFFFFFFFFFFFFFFFFFFFFFFFFFFFFFFFFFFFFFFFFFFFFFFFFFFFFFFFFFFFFFFFFFFFFFFFFFFFFFFFFFFFFF77F8 s s := Keeps.refl _ _
  unfold State.forwarded
  repeat' first | with_reducible assumption | apply Eq.refl | (with_reducible first | apply Keeps.step (State.relayReply_keeps ..) | apply Keeps.step (State.request_keeps ..) | apply Keeps.step (State.setTag_keeps ..) | apply Keeps.step (State.emit_keeps ..) | apply Keeps.ite) | split | extract_lets

theorem State.forwardMsg_keeps (s : State) (reply : Bool) (h : Hdr) (opcode : ℕ) (pay : List ℕ) :
    Keeps 0x7FFFFFFFFFFFFFFFFFFFFFFFFFFFFFFFFFFFFFFFFFFFFFFFFFFFFFFFFFFFFFFFFFFFFFFFFFFFFFFFFFFFFFFFFFFFFFFFFFFFFFFFFFFFFFF77F8 s (State.forwardMsg s reply h opcode pay) := by
  have h0 : Keeps 0x7FFFFFFFFFFFFFFFFFFFFFFFFFFFFFFFFFFFFFFFFFFFFFFFFFFFFFFFFFFFFFFFFFFFFFFFFFFFFFFFFFFFFFFFFFFFFFFFFFFFFFFFFFFFFFF77F8 s s := Keeps.refl _ _
  unfold State.forwardMsg
  repeat' first | with_reducible assumption | apply Eq.refl | (with_reducible first | apply Keeps.step (State.forwarded_keeps ..) | apply Keeps.ite) | split

theorem State.fwdTimeout_keeps (s : State) (src : Source) (seq : ℕ) :
    Keeps 0x8000000700000000000000000000000000000000000000000000000000000000000000000000000001400000C300028C s (State.fwdTimeout s src seq) := by
  have h0 : Keeps 0x8000000700000000000000000000000000000000000000000000000000000000000000000000000001400000C300028C s s := Keeps.refl _ _
  unfold State.fwdTimeout
  repeat' first | with_reducible assumption | apply Eq.refl | intro c | (with_reducible first | apply Keeps.step (State.advance_keeps ..) | apply Keeps.step (State.keepReply_keeps ..) | apply Keeps.step (State.sendReply_keeps ..) | apply Keeps.ite | apply Keeps.foldl) | split | extract_lets | with_reducible apply Keeps.put_baind

theorem State.deliver_keeps (s : State) (x : Slice) :
    Keeps 0x7F00080000007000807E000280000000000000000ECD0000000000000000000000000000000000000000001410202D31082D8 s (State.deliver s x).1 := by
  have h0 : Keeps 0x7F00080000007000807E000280000000000000000ECD0000000000000000000000000000000000000000001410202D31082D8 s s := Keeps.refl _ _
  unfold State.deliver
  extract_lets x0 x1
  have h1 : Keeps 0x7F00080000007000807E000280000000000000000ECD0000000000000000000000000000000000000000001410202D31082D8 s x0.1 := by unfold x0; repeat' first | with_reducible assumption | apply Eq.refl | with_reducible apply Keeps.step (State.completeSlice_keeps ..)
  try clear_value x0
  have h2 : Keeps 0x7F00080000007000807E000280000000000000000ECD0000000000000000000000000000000000000000001410202D31082D8 s x1 := by unfold x1; repeat' first | with_reducible assumption | apply Eq.refl | with_reducible apply Keeps.step (State.tapSlice_keeps ..)
  try clear_value x1
  repeat' first | with_reducible assumption | apply Eq.refl | (with_reducible first | apply Keeps.step (State.segment_keeps ..) | apply Keeps.ite) | split

theorem State.deliverAll_keeps (s : State) (xs : List Slice) :
    Keeps 0x7F00080000007000807E000280000000000000000ECD0000000000000000000000000000000000000000001410202D31082D8 s (State.deliverAll s xs).1 := by
  have h0 : Keeps 0x7F00080000007000807E000280000000000000000ECD0000000000000000000000000000000000000000001410202D31082D8 s s := Keeps.refl _ _
  unfold State.deliverAll
  repeat' first | with_reducible assumption | apply Eq.refl | intro c | (with_reducible first | apply Keeps.step (State.deliver_keeps ..) | apply Keeps.foldl | apply Keeps.foldl_fst) | extract_lets

theorem State.sliceMoment_keeps (s : State) (errs : List MemErr) :
    Keeps 0x7F00080000007000807E0002804C04F6000000000ECD0EC000A000000000000000000000000000000000001416202D37A82F8 s (State.sliceMoment s errs) := by
  have h0 : Keeps 0x7F00080000007000807E0002804C04F6000000000ECD0EC000A000000000000000000000000000000000001416202D37A82F8 s s := Keeps.refl _ _
  unfold State.sliceMoment
  extract_lets x0 _ x2 x3 _ _ x6 _ x8 _ x10 x11
  have h1 : Keeps 0x7F00080000007000807E0002804C04F6000000000ECD0EC000A000000000000000000000000000000000001416202D37A82F8 s x0 := by unfold x0; repeat' first | with_reducible assumption | apply Eq.refl | (with_reducible first | apply Keeps.step (State.mgtCheck_keeps ..) | apply Keeps.step (State.addErrs_keeps ..) | apply Keeps.step (State.closeAllOpen_keeps ..))
  try clear_value x0
  have h3 : Keeps 0x7F00080000007000807E0002804C04F6000000000ECD0EC000A000000000000000000000000000000000001416202D37A82F8 s x2.1 := by unfold x2; repeat' first | with_reducible assumption | apply Eq.refl | (with_reducible first | apply Keeps.step (State.deliverAll_keeps ..) | apply Keeps.step (State.closeAllOpen_keeps ..))
  try clear_value x2
  have h4 : Keeps 0x7F00080000007000807E0002804C04F6000000000ECD0EC000A000000000000000000000000000000000001416202D37A82F8 s x3 := by unfold x3; repeat' first | with_reducible assumption | apply Eq.refl | intro c | (with_reducible first | apply Keeps.step (State.refUpdate_keeps ..) | apply Keeps.step (State.closeAllOpen_keeps ..) | apply Keeps.foldl | apply Keeps.foldl_fst)
  try clear_value x3
  have h7 : Keeps 0x7F00080000007000807E0002804C04F6000000000ECD0EC000A000000000000000000000000000000000001416202D37A82F8 s x6 := by unfold x6; repeat' first | (with_reducible first | assumption | apply mwf_mset | apply Canon.ub | apply Keeps.canon) | apply Eq.refl | intro c | with_reducible apply Keeps.step (State.closeAllOpen_keeps ..) | with_reducible apply Keeps.put_braid
  try clear_value x6
  have h9 : Keeps 0x7F00080000007000807E0002804C04F6000000000ECD0EC000A000000000000000000000000000000000001416202D37A82F8 s x8 := by unfold x8; repeat' first | with_reducible assumption | apply Eq.refl | (with_reducible first | apply Keeps.step (State.closeAllOpen_keeps ..) | apply Keeps.step (State.closeAllOpen_keeps ..))
  try clear_value x8
  have h11 : Keeps 0x7F00080000007000807E0002804C04F6000000000ECD0EC000A000000000000000000000000000000000001416202D37A82F8 s x10 := by unfold x10; repeat' first | (with_reducible first | assumption | apply mwf_mset | apply Canon.ub | apply Keeps.canon) | apply Eq.refl | intro c | (with_reducible first | apply Keeps.step (State.closeAllOpen_keeps ..) | apply Keeps.ite) | split | with_reducible apply Keeps.put_braid
  try clear_value x10
  have h12 : Keeps 0x7F00080000007000807E0002804C04F6000000000ECD0EC000A000000000000000000000000000000000001416202D37A82F8 s x11 := by unfold x11; repeat' first | with_reducible assumption | apply Eq.refl | (with_reducible first | apply Keeps.step (State.sweepKnots_keeps ..) | apply Keeps.step (State.chooseAll_keeps ..) | apply Keeps.step (State.closeAllOpen_keeps ..))
  try clear_value x11
  repeat' first | with_reducible assumption | apply Eq.refl | (with_reducible first | apply Keeps.step (State.brdShow_keeps ..) | apply Keeps.step (State.autoPump_keeps ..) | apply Keeps.step (State.pruneRows_keeps ..) | apply Keeps.step (State.pruneSets_keeps ..) | apply Keeps.step (State.closeAllOpen_keeps ..)) | extract_lets

theorem State.issueVerdict_keeps (s : State) (errs : List MemErr) (refused : List ChainPort) :
    Keeps 0xA00000000000000000000007E0002804C04F7FF01E03F89C50000000000000000000000000000000000000000001016802807200F8 s (State.issueVerdict s errs refused) := by
  have h0 : Keeps 0xA00000000000000000000007E0002804C04F7FF01E03F89C50000000000000000000000000000000000000000001016802807200F8 s s := Keeps.refl _ _
  unfold State.issueVerdict
  extract_lets x0
  have h1 : Keeps 0xA00000000000000000000007E0002804C04F7FF01E03F89C50000000000000000000000000000000000000000001016802807200F8 s x0 := by unfold x0; repeat' first | with_reducible assumption | apply Eq.refl | (with_reducible first | apply Keeps.step (State.mgtCheck_keeps ..) | apply Keeps.step (State.addErrs_keeps ..))
  try clear_value x0
  repeat' first | with_reducible assumption | apply Eq.refl | (with_reducible first | apply Keeps.step (State.verdictOf_keeps ..) | apply Keeps.step (State.schedule_keeps ..) | apply Keeps.step (State.phVerdict_keeps ..)) | split | extract_lets

theorem State.bkdStep_keeps (s : State) (e : ℤ) (gain : ℕ) :
    Keeps 0x10 s (State.bkdStep s e gain).1 := by
  have h0 : Keeps 0x10 s s := Keeps.refl _ _
  unfold State.bkdStep
  extract_lets _ x1
  have h2 : Keeps 0x10 s x1.2 := by unfold x1; repeat' first | with_reducible assumption | apply Eq.refl | with_reducible apply Keeps.step (State.draw_keeps ..)
  try clear_value x1
  repeat' first | with_reducible assumption | with_reducible apply Keeps.ite | split | extract_lets

theorem State.bkdUpdate_keeps (s : State) (pix : ℕ) (tc : ℕ) (anchor : ℕ) :
    Keeps 0x2000000000000000000000000000000000100000000001098 s (State.bkdUpdate s pix tc anchor) := by
  have h0 : Keeps 0x2000000000000000000000000000000000100000000001098 s s := Keeps.refl _ _
  unfold State.bkdUpdate
  extract_lets _ _ x2 _ _ x5
  have h3 : Keeps 0x2000000000000000000000000000000000100000000001098 s x2.1 := by unfold x2; repeat' first | with_reducible assumption | apply Eq.refl | with_reducible apply Keeps.step (State.bkdStep_keeps ..)
  try clear_value x2
  have h6 : Keeps 0x2000000000000000000000000000000000100000000001098 s x5 := by unfold x5; repeat' first | with_reducible assumption | apply Eq.refl | with_reducible apply Keeps.step (State.setPb_keeps ..)
  try clear_value x5
  repeat' first | with_reducible assumption | apply Eq.refl | intro c | (with_reducible first | apply State.bump_keeps | apply Keeps.ite) | ((with_reducible apply Has.fam (CAL_TRKSTAT_SATCNT_cls ..)); exact Eq.refl true) | split | extract_lets

theorem State.countBackdrop_keeps (s : State) (x : TrkSample) :
    Keeps 0xC000 s (State.countBackdrop s x) := by
  have h0 : Keeps 0xC000 s s := Keeps.refl _ _
  unfold State.countBackdrop
  extract_lets _ x1
  have h2 : Keeps 0xC000 s x1 := by unfold x1; repeat' first | with_reducible assumption | apply Eq.refl | with_reducible apply Keeps.put_trk
  try clear_value x1
  repeat' first | with_reducible assumption | apply Eq.refl | split | extract_lets | with_reducible apply Keeps.put_gref

theorem State.trackSample_keeps (s : State) (it : TrkItem) (x : TrkSample) :
    Keeps 0x200000000000000000000000000000000010000000000D098 s (State.trackSample s it x) := by
  have h0 : Keeps 0x200000000000000000000000000000000010000000000D098 s s := Keeps.refl _ _
  unfold State.trackSample
  extract_lets _ x1
  have h2 : Keeps 0x200000000000000000000000000000000010000000000D098 s x1 := by unfold x1; repeat' first | with_reducible assumption | apply Eq.refl | with_reducible apply Keeps.step (State.countBackdrop_keeps ..)
  try clear_value x1
  repeat' first | with_reducible assumption | apply Eq.refl | (with_reducible first | apply Keeps.step (State.bkdUpdate_keeps ..) | apply Keeps.ite) | split | extract_lets

theorem State.trkPump_keeps (s : State) :
    Keeps 0x200000000000000000000000000000000010000000000D098 s (State.trkPump s) := by
  have h0 : Keeps 0x200000000000000000000000000000000010000000000D098 s s := Keeps.refl _ _
  unfold State.trkPump
  repeat' first | with_reducible assumption | apply Eq.refl | intro c | (with_reducible first | apply Keeps.step (State.trackSample_keeps ..) | apply Keeps.foldl) | extract_lets | with_reducible apply Keeps.put_trk

theorem State.trackGroup_keeps (s : State) (c : FrameCtx) (h : Header) (ys : List Samp) :
    Keeps 0x200000000000000000000000000000000010000000000D098 s (State.trackGroup s c h ys) := by
  have h0 : Keeps 0x200000000000000000000000000000000010000000000D098 s s := Keeps.refl _ _
  unfold State.trackGroup
  repeat' first | with_reducible assumption | apply Eq.refl | with_reducible apply Keeps.step (State.trkPump_keeps ..) | extract_lets | with_reducible apply Keeps.put_trk

theorem State.freezeEval_keeps (s : State) :
    Keeps 0x1000000000000000000000000000000000000000000001008 s (State.freezeEval s) := by
  have h0 : Keeps 0x1000000000000000000000000000000000000000000001008 s s := Keeps.refl _ _
  unfold State.freezeEval
  extract_lets _ _ x2
  have h3 : Keeps 0x1000000000000000000000000000000000000000000001008 s x2 := by unfold x2; repeat' first | with_reducible assumption | apply Eq.refl | intro c | (with_reducible first | apply Keeps.step (State.setMark_keeps ..) | apply Keeps.ite | apply Keeps.foldl) | split | extract_lets
  try clear_value x2
  repeat' first | with_reducible assumption | apply Eq.refl | intro c | with_reducible apply State.set_keeps | ((with_reducible apply Has.fam (CAL_TRKSTAT_FROZEN_cls ..)); exact Eq.refl true) | extract_lets

theorem State.setAnchor_keeps (s : State) (a : ℕ) :
    Keeps 0xC00000000000000000000000000000000000000000008008 s (State.setAnchor s a) := by
  have h0 : Keeps 0xC00000000000000000000000000000000000000000008008 s s := Keeps.refl _ _
  unfold State.setAnchor
  extract_lets x0
  have h1 : Keeps 0xC00000000000000000000000000000000000000000008008 s x0 := by unfold x0; repeat' first | with_reducible assumption | apply Eq.refl | intro c | with_reducible apply State.set_keeps | ((with_reducible apply Has.fam (CAL_ANCHOR_VALID_cls ..)); exact Eq.refl true) | ((with_reducible apply Has.fam (CAL_ANCHOR_A_cls ..)); exact Eq.refl true)
  try clear_value x0
  repeat' first | with_reducible assumption | apply Eq.refl | extract_lets | with_reducible apply Keeps.put_trk

theorem State.shareEval_keeps (s : State) :
    Keeps 0x1C00000000000000000000000000000000000000000009008 s (State.shareEval s) := by
  have h0 : Keeps 0x1C00000000000000000000000000000000000000000009008 s s := Keeps.refl _ _
  unfold State.shareEval
  extract_lets x0 x1
  have h1 : Keeps 0x1C00000000000000000000000000000000000000000009008 s x0 := by unfold x0; repeat' first | with_reducible assumption | apply Eq.refl | (with_reducible first | apply Keeps.step (State.freezeEval_keeps ..) | apply Keeps.ite) | split
  try clear_value x0
  have h2 : Keeps 0x1C00000000000000000000000000000000000000000009008 s x1 := by unfold x1; repeat' first | with_reducible assumption | apply Eq.refl | (with_reducible first | apply Keeps.step (State.setAnchor_keeps ..) | apply Keeps.ite) | split
  try clear_value x1
  repeat' first | with_reducible assumption | apply Eq.refl | with_reducible apply Keeps.ite | split | extract_lets | with_reducible apply Keeps.put_trk

theorem State.rtdAnchor_keeps (s : State) :
    Keeps 0x10 s (State.rtdAnchor s).1 := by
  have h0 : Keeps 0x10 s s := Keeps.refl _ _
  unfold State.rtdAnchor
  extract_lets _ x1
  have h2 : Keeps 0x10 s x1.2 := by unfold x1; repeat' first | with_reducible assumption | apply Eq.refl | with_reducible apply Keeps.step (State.draw_keeps ..)
  try clear_value x1
  repeat' first | with_reducible assumption | with_reducible apply Keeps.ite | split | extract_lets

theorem State.anchorLatch_keeps (s : State) :
    Keeps 0xC000000000000000000000000000000001000002000080D8 s (State.anchorLatch s) := by
  have h0 : Keeps 0xC000000000000000000000000000000001000002000080D8 s s := Keeps.refl _ _
  unfold State.anchorLatch
  extract_lets x0
  have h1 : Keeps 0xC000000000000000000000000000000001000002000080D8 s x0.1 := by unfold x0; repeat' first | with_reducible assumption | apply Eq.refl | with_reducible apply Keeps.step (State.rtdAnchor_keeps ..)
  try clear_value x0
  repeat' first | with_reducible assumption | apply Eq.refl | intro c | (with_reducible first | apply Keeps.step (State.setAnchor_keeps ..) | apply Keeps.step (State.raise_keeps ..) | apply State.set_keeps | apply Keeps.ite) | ((with_reducible apply Has.fam (CAL_ANCHOR_VALID_cls ..)); exact Eq.refl true) | split

theorem State.grefFrame_keeps (s : State) :
    Keeps 0x4000 s (State.grefFrame s) := by
  have h0 : Keeps 0x4000 s s := Keeps.refl _ _
  unfold State.grefFrame
  repeat' first | with_reducible assumption | apply Eq.refl | split | extract_lets | with_reducible apply Keeps.put_gref

theorem State.applyStaged_keeps (s : State) : Keeps 0x8400D00000000000000000000004000000408 s s.applyStaged := by
  unfold State.applyStaged
  extract_lets now rest u t t2
  have h : Keeps 0x8400D00000000000000000000004000000408 s t := Keeps.put_sensor (Keeps.refl _ s) rfl
  have h2 : Keeps 0x8400D00000000000000000000004000000408 s t2 := Keeps.foldl h fun y b hy => Keeps.comp (State.applySetting_keeps ..) (by decide) hy
  refine Keeps.foldl h2 fun y b hy => ?_
  split
  · rename_i f hf
    split
    · exact hy
    · exact Keeps.set hy (pend_has hf (by rfl))
  · exact hy

theorem State.chainRate_keeps (s : State) :
    Keeps 0x8400400000000000000000000004000800408 s (State.chainRate s) := by
  have h0 : Keeps 0x8400400000000000000000000004000800408 s s := Keeps.refl _ _
  unfold State.chainRate
  repeat' first | with_reducible assumption | apply Eq.refl | (with_reducible first | apply Keeps.step (State.applySetting_keeps ..) | apply Keeps.step (State.setChain_keeps ..) | apply Keeps.ite) | split | extract_lets

theorem State.rampEnd_keeps (s : State) :
    Keeps 0x800000000000000000000000004000000408 s (State.rampEnd s) := by
  have h0 : Keeps 0x800000000000000000000000004000000408 s s := Keeps.refl _ _
  unfold State.rampEnd
  repeat' first | with_reducible assumption | apply Eq.refl | intro c | (with_reducible first | apply Keeps.step (State.scalStart_keeps ..) | apply Keeps.step (State.startRotation_keeps ..) | apply Keeps.ite | apply Keeps.foldl) | split

theorem State.rampBoundary_keeps (s : State) :
    Keeps 0xC00400000000000000000000004000000408 s (State.rampBoundary s) := by
  have h0 : Keeps 0xC00400000000000000000000004000000408 s s := Keeps.refl _ _
  unfold State.rampBoundary
  extract_lets x0
  have h1 : Keeps 0xC00400000000000000000000004000000408 s x0 := by unfold x0; repeat' first | with_reducible assumption | apply Eq.refl | with_reducible apply Keeps.step (State.rampStep_keeps ..)
  try clear_value x0
  repeat' first | with_reducible assumption | apply Eq.refl | (with_reducible first | apply Keeps.step (State.rampEnd_keeps ..) | apply Keeps.ite) | split

theorem State.biasGone_keeps (s : State) :
    Keeps 0x400408000000000000000000000000000408 s (State.biasGone s) := by
  have h0 : Keeps 0x400408000000000000000000000000000408 s s := Keeps.refl _ _
  unfold State.biasGone
  repeat' first | with_reducible assumption | apply Eq.refl | intro c | (with_reducible first | apply Keeps.step (State.biasOut_keeps ..) | apply State.set_keeps | apply Keeps.ite) | ((with_reducible apply Has.fam (STG_CTRL_BIAS_EN_cls ..)); exact Eq.refl true) | split | extract_lets | with_reducible apply Keeps.put_sensor

theorem State.compensate_keeps (s : State) :
    Keeps 0x20000000 s (State.compensate s) := by
  have h0 : Keeps 0x20000000 s s := Keeps.refl _ _
  unfold State.compensate
  repeat' first | with_reducible assumption | apply Eq.refl | with_reducible apply Keeps.step (State.setHouse_keeps ..) | extract_lets

theorem State.blindTileStep_keeps (s : State) :
    Keeps 0x200000000000000000000000000000000000000000061700A00000000000000000000000000000000000000000000000001002002002100C8 s (State.blindTileStep s) := by
  have h0 : Keeps 0x200000000000000000000000000000000000000000061700A00000000000000000000000000000000000000000000000001002002002100C8 s s := Keeps.refl _ _
  unfold State.blindTileStep
  extract_lets _ _ _ _ x4 x5
  have h5 : Keeps 0x200000000000000000000000000000000000000000061700A00000000000000000000000000000000000000000000000001002002002100C8 s x4 := by unfold x4; repeat' first | with_reducible assumption | apply Eq.refl | intro c | with_reducible apply State.set_keeps | ((with_reducible apply Has.fam (TMX_BLINDACT_TILES_cls ..)); exact Eq.refl true) | with_reducible apply Keeps.put_tmx
  try clear_value x4
  have h6 : Keeps 0x200000000000000000000000000000000000000000061700A00000000000000000000000000000000000000000000000001002002002100C8 s x5 := by unfold x5; repeat' first | with_reducible assumption | apply Eq.refl | intro c | (with_reducible first | apply Keeps.step (State.blindBegin_keeps ..) | apply Keeps.step (State.blindEnd_keeps ..) | apply Keeps.ite | apply Keeps.foldl) | split
  try clear_value x5
  repeat' first | with_reducible assumption | apply Eq.refl | intro c | (with_reducible first | apply Keeps.step (State.blindEnd_keeps ..) | apply Keeps.ite | apply Keeps.foldl) | split | extract_lets

theorem State.resetUb_keeps (s : State) (tiles : ℕ) :
    Keeps 0x80000 s (State.resetUb s tiles) := by
  have h0 : Keeps 0x80000 s s := Keeps.refl _ _
  unfold State.resetUb
  repeat' first | (with_reducible first | assumption | apply mwf_filter | apply mwf_mset | apply Canon.ub | apply Keeps.canon) | apply Eq.refl | intro c | extract_lets | with_reducible apply Keeps.put_braid

theorem State.modeStep_keeps (s : State) :
    Keeps 0xC00000000E00000000000000000000000000004804FE00000000000000000000000000B000000000000000000000000000100600281E920C8 s (State.modeStep s) := by
  have h0 : Keeps 0xC00000000E00000000000000000000000000004804FE00000000000000000000000000B000000000000000000000000000100600281E920C8 s s := Keeps.refl _ _
  unfold State.modeStep
  repeat' first | with_reducible assumption | apply Eq.refl | intro c | (with_reducible first | apply State.set_keeps | apply State.setB_keeps | apply Keeps.step (State.calNext_keeps ..) | apply Keeps.step (State.braidTruncate_keeps ..) | apply Keeps.step (State.resetUb_keeps ..) | apply Keeps.step (State.testHold_keeps ..) | apply Keeps.step (State.disable_keeps ..) | apply Keeps.ite | apply Keeps.foldl) | ((with_reducible apply Has.fam (TMX_TPCTL_PEND_cls ..)); exact Eq.refl true) | ((with_reducible apply Has.fam (TMX_TPSTAT_ACTIVE_cls ..)); exact Eq.refl true) | split | extract_lets | with_reducible apply Keeps.put_tmx

theorem State.pushCtx_keeps (s : State) (c : FrameCtx) :
    Keeps 0x1000 s (State.pushCtx s c) := by
  have h0 : Keeps 0x1000 s s := Keeps.refl _ _
  unfold State.pushCtx
  repeat' first | (with_reducible first | assumption | apply mwf_mset | apply Canon.pb | apply Keeps.canon) | apply Eq.refl | intro c | extract_lets | with_reducible apply Keeps.put_corr

theorem State.fixCheck_keeps (s : State) :
    Keeps 0x2000000000000000000000000000000000000000000000000000000008 s (State.fixCheck s) := by
  have h0 : Keeps 0x2000000000000000000000000000000000000000000000000000000008 s s := Keeps.refl _ _
  unfold State.fixCheck
  repeat' first | with_reducible assumption | apply Eq.refl | intro c | (with_reducible first | apply State.set_keeps | apply Keeps.ite) | ((with_reducible apply Has.fam (KNT_STAT_WRERR_cls ..)); exact Eq.refl true) | split

theorem State.boundary_keeps (s : State) (rejoin : Bool) :
    Keeps 0xE00000000E06CD640800000070008000000000CC04FE1700AC0038C72FC09DB01E7F30F3FFAFAC00D0800000000000000114062C2FBFDF6D8 s (State.boundary s rejoin) := by
  have h0 : Keeps 0xE00000000E06CD640800000070008000000000CC04FE1700AC0038C72FC09DB01E7F30F3FFAFAC00D0800000000000000114062C2FBFDF6D8 s s := Keeps.refl _ _
  unfold State.boundary
  extract_lets _ x1 _ x3 x4 x5 x6 x7 x8 x9
  have h2 : Keeps 0xE00000000E06CD640800000070008000000000CC04FE1700AC0038C72FC09DB01E7F30F3FFAFAC00D0800000000000000114062C2FBFDF6D8 s x1 := by unfold x1; repeat' first | with_reducible assumption | apply Eq.refl | (with_reducible first | apply Keeps.step (State.rampBoundary_keeps ..) | apply Keeps.step (State.biasGone_keeps ..) | apply Keeps.step (State.chainRate_keeps ..) | apply Keeps.step (State.applyStaged_keeps ..) | apply Keeps.step (State.settleTick_keeps ..))
  try clear_value x1
  have h4 : Keeps 0xE00000000E06CD640800000070008000000000CC04FE1700AC0038C72FC09DB01E7F30F3FFAFAC00D0800000000000000114062C2FBFDF6D8 s x3 := by unfold x3; repeat' first | with_reducible assumption | apply Eq.refl | (with_reducible first | apply Keeps.step (State.blindTileStep_keeps ..) | apply Keeps.step (State.modeStep_keeps ..) | apply Keeps.step (State.bankBoundary_keeps ..) | apply Keeps.step (State.liveStep_keeps ..))
  try clear_value x3
  have h5 : Keeps 0xE00000000E06CD640800000070008000000000CC04FE1700AC0038C72FC09DB01E7F30F3FFAFAC00D0800000000000000114062C2FBFDF6D8 s x4.1 := by unfold x4; repeat' first | with_reducible assumption | apply Eq.refl | (with_reducible first | apply Keeps.step (State.blendStep_keeps ..) | apply Keeps.step (State.flipStep_keeps ..))
  try clear_value x4
  have h6 : Keeps 0xE00000000E06CD640800000070008000000000CC04FE1700AC0038C72FC09DB01E7F30F3FFAFAC00D0800000000000000114062C2FBFDF6D8 s x5 := by unfold x5; repeat' first | with_reducible assumption | apply Eq.refl | with_reducible apply Keeps.step (State.calBoundary_keeps ..)
  try clear_value x5
  have h7 : Keeps 0xE00000000E06CD640800000070008000000000CC04FE1700AC0038C72FC09DB01E7F30F3FFAFAC00D0800000000000000114062C2FBFDF6D8 s x6.1 := by unfold x6; repeat' first | with_reducible assumption | apply Eq.refl | with_reducible apply Keeps.step (State.laneStep_keeps ..)
  try clear_value x6
  have h8 : Keeps 0xE00000000E06CD640800000070008000000000CC04FE1700AC0038C72FC09DB01E7F30F3FFAFAC00D0800000000000000114062C2FBFDF6D8 s x7 := by unfold x7; repeat' first | with_reducible assumption | apply Eq.refl | (with_reducible first | apply Keeps.step (State.braidBoundary_keeps ..) | apply Keeps.step (State.grefFrame_keeps ..) | apply Keeps.step (State.anchorLatch_keeps ..) | apply Keeps.step (State.shareEval_keeps ..) | apply Keeps.step (State.dtStep_keeps ..))
  try clear_value x7
  have h9 : Keeps 0xE00000000E06CD640800000070008000000000CC04FE1700AC0038C72FC09DB01E7F30F3FFAFAC00D0800000000000000114062C2FBFDF6D8 s x8 := by unfold x8; repeat' first | with_reducible assumption | apply Eq.refl | (with_reducible first | apply Keeps.step (State.fixCheck_keeps ..) | apply Keeps.step (State.dropKnots_keeps ..) | apply Keeps.ite) | split
  try clear_value x8
  have h10 : Keeps 0xE00000000E06CD640800000070008000000000CC04FE1700AC0038C72FC09DB01E7F30F3FFAFAC00D0800000000000000114062C2FBFDF6D8 s x9 := by unfold x9; repeat' first | with_reducible assumption | apply Eq.refl | (with_reducible first | apply Keeps.step (State.compensate_keeps ..) | apply Keeps.step (State.settleReport_keeps ..) | apply Keeps.step (State.pushCtx_keeps ..))
  try clear_value x9
  repeat' first | with_reducible assumption | apply Eq.refl | (with_reducible first | apply Keeps.step (State.tapFrame_keeps ..) | apply Keeps.step (State.tapShow_keeps ..) | apply Keeps.step (State.saveRead_keeps ..) | apply Keeps.step (State.masterSend_keeps ..) | apply Keeps.step (State.masterStep_keeps ..)) | extract_lets

theorem State.nextFrame_keeps (s : State) :
    Keeps 0x400000000000000000000000000000000040C s (State.nextFrame s) := by
  have h0 : Keeps 0x400000000000000000000000000000000040C s s := Keeps.refl _ _
  unfold State.nextFrame
  extract_lets x0
  have h1 : Keeps 0x400000000000000000000000000000000040C s x0 := by unfold x0; repeat' first | with_reducible assumption | apply Eq.refl | intro c | (with_reducible first | apply State.incr_keeps | apply Keeps.step (State.takeArrivals_keeps ..) | apply Keeps.step (State.advance_keeps ..)) | ((with_reducible apply Has.fam (STG_FRAMECNT_COUNT_cls ..)); exact Eq.refl true)
  try clear_value x0
  repeat' first | with_reducible assumption | apply Eq.refl | extract_lets | with_reducible apply Keeps.put_sensor

theorem State.shiftTimes_keeps (s : State) (d : Int) : Keeps 0x20622C00 s (s.shiftTimes d) := by
  unfold State.shiftTimes
  extract_lets entry drive c cal now u0 loops qs ds u1 u2 u3 u4 u5
  exact Keeps.put_house (Keeps.put_valves (Keeps.put_sched (Keeps.put_loops (Keeps.put_cal (Keeps.put_stage
    (Keeps.put_sensor (Keeps.refl _ s) rfl) rfl) rfl) rfl) (v := { s.sched with queues := qs }) rfl (fun c => c.cls)
    fun c => c.map) rfl) rfl

theorem State.cutFrame_keeps (s : State) :
    Keeps 0x400 s (State.cutFrame s) := by
  have h0 : Keeps 0x400 s s := Keeps.refl _ _
  unfold State.cutFrame
  repeat' first | with_reducible assumption | apply Eq.refl | intro c | (with_reducible first | apply Keeps.step (State.setRx_keeps ..) | apply Keeps.foldl) | split | extract_lets

theorem State.rejoin_keeps (s : State) (t : TimeMsg) : Keeps 0xE00000E00E06CD640800000070008000000000CC04FE1700AC0038C72FC09DB01E7F30F3FFAFEC00D8800000000000000114062C2FBFFFEDC s (s.rejoin t) := by
  have h0 := Keeps.refl 0xE00000E00E06CD640800000070008000000000CC04FE1700AC0038C72FC09DB01E7F30F3FFAFEC00D8800000000000000114062C2FBFFFEDC s
  unfold State.rejoin
  extract_lets x0 i x1 u1 x2 x3 x4 x5 x6 x7 x8
  have h1 : Keeps 0xE00000E00E06CD640800000070008000000000CC04FE1700AC0038C72FC09DB01E7F30F3FFAFEC00D8800000000000000114062C2FBFFFEDC s x1 := Keeps.comp (State.shiftTimes_keeps ..) (by decide) (Keeps.comp (State.cutFrame_keeps ..) (by decide)
    (Keeps.comp (State.takeArrivals_keeps ..) (by decide) h0))
  have h2 : Keeps 0xE00000E00E06CD640800000070008000000000CC04FE1700AC0038C72FC09DB01E7F30F3FFAFEC00D8800000000000000114062C2FBFFFEDC s x2 := Keeps.put_time (v := i)
    (Keeps.put_sensor (v := { x1.sensor with rate := t.rate, gridBase := i, gridK := 0, partialF := true }) h1 rfl) rfl
  clear_value x2
  repeat' first | with_reducible assumption | apply Eq.refl | with_reducible apply State.set_keeps | with_reducible apply State.incr_keeps | with_reducible apply Keeps.step (State.setChain_keeps ..) | with_reducible apply State.setPair_keeps | ((with_reducible apply Has.closed); exact Eq.refl true) | with_reducible apply Keeps.step (State.setChainState_keeps ..) | with_reducible apply Keeps.step (State.raise_keeps ..) | with_reducible apply Keeps.step (State.boundary_keeps ..) | with_reducible apply Keeps.step (State.settleAll_keeps ..) | with_reducible apply Keeps.step (State.settleReport_keeps ..) | with_reducible apply Keeps.step (State.cfgFrame_keeps ..) | with_reducible apply Keeps.step (State.calNext_keeps ..)

theorem State.occupancy_keeps (s : State) (n : ℕ) (occ : ℕ) :
    Keeps 0x4000000008 s (State.occupancy s n occ) := by
  have h0 : Keeps 0x4000000008 s s := Keeps.refl _ _
  unfold State.occupancy
  extract_lets x0
  have h1 : Keeps 0x4000000008 s x0 := by unfold x0; repeat' first | with_reducible assumption | apply Eq.refl | intro c | with_reducible apply State.set_keeps | ((with_reducible apply Has.fam (TIL_TXSTAT_OCC_cls ..)); exact Eq.refl true)
  try clear_value x0
  repeat' first | with_reducible assumption | apply Eq.refl | intro c | with_reducible apply State.set_keeps | ((with_reducible apply Has.fam (TIL_TXSTAT_OCCMAX_cls ..)); exact Eq.refl true) | ((with_reducible apply Has.fam (TIL_TXSTAT_OCCMIN_cls ..)); exact Eq.refl true) | extract_lets

theorem State.popGroup_keeps (s : State) (n : ℕ) (occ : ℕ) :
    Keeps 0x1000042000004C8 s (State.popGroup s n occ).1 := by
  have h0 : Keeps 0x1000042000004C8 s s := Keeps.refl _ _
  unfold State.popGroup
  extract_lets _ _ x2
  have h3 : Keeps 0x1000042000004C8 s x2 := by unfold x2; repeat' first | with_reducible assumption | apply Eq.refl | intro c | (with_reducible first | apply State.bump_keeps | apply Keeps.step (State.slip_keeps ..)) | ((with_reducible apply Has.fam (TIL_TXINVCNT_COUNT_cls ..)); exact Eq.refl true)
  try clear_value x2
  repeat' first | with_reducible assumption | apply Eq.refl | (with_reducible first | apply Keeps.step (State.slip_keeps ..) | apply Keeps.step (State.setRx_keeps ..) | apply Keeps.ite) | split | extract_lets

theorem State.pipeGroup_keeps (s : State) (n : ℕ) (g : RowGroup) :
    Keeps 0x3F00080000007000807E000280000000000000000000C00000002000000C000000000000000000000000001410002D308F2D8 s (State.pipeGroup s n g) := by
  have h0 : Keeps 0x3F00080000007000807E000280000000000000000000C00000002000000C000000000000000000000000001410002D308F2D8 s s := Keeps.refl _ _
  unfold State.pipeGroup
  extract_lets _ _ _ x3 x4 x5 x6 x7
  have h4 : Keeps 0x3F00080000007000807E000280000000000000000000C00000002000000C000000000000000000000000001410002D308F2D8 s x3.1 := by unfold x3; repeat' first | with_reducible assumption | apply Eq.refl | with_reducible apply Keeps.step (State.correctGroup_keeps ..)
  try clear_value x3
  have h5 : Keeps 0x3F00080000007000807E000280000000000000000000C00000002000000C000000000000000000000000001410002D308F2D8 s x4 := by unfold x4; repeat' first | with_reducible assumption | apply Eq.refl | (with_reducible first | apply Keeps.step (State.calCollect_keeps ..) | apply Keeps.ite) | split
  try clear_value x4
  have h6 : Keeps 0x3F00080000007000807E000280000000000000000000C00000002000000C000000000000000000000000001410002D308F2D8 s x5 := by unfold x5; repeat' first | with_reducible assumption | apply Eq.refl | with_reducible apply Keeps.step (State.trackGroup_keeps ..)
  try clear_value x5
  have h7 : Keeps 0x3F00080000007000807E000280000000000000000000C00000002000000C000000000000000000000000001410002D308F2D8 s x6.1 := by unfold x6; repeat' first | with_reducible assumption | apply Eq.refl | with_reducible apply Keeps.step (State.unlayGroup_keeps ..)
  try clear_value x6
  have h8 : Keeps 0x3F00080000007000807E000280000000000000000000C00000002000000C000000000000000000000000001410002D308F2D8 s x7 := by unfold x7; repeat' first | with_reducible assumption | apply Eq.refl | with_reducible apply Keeps.step (State.braidGroup_keeps ..)
  try clear_value x7
  repeat' first | with_reducible assumption | apply Eq.refl | (with_reducible first | apply Keeps.step (State.tapGroup_keeps ..) | apply Keeps.ite) | split | extract_lets

theorem State.releaseGroup_keeps (s : State) (n : ℕ) (occ : ℕ) (errs : List MemErr) :
    Keeps 0x3F00080000007000807E0002804C04F6000000000000C00000002000000C000000000000000000000000001416042D36AF6FC s (State.releaseGroup s n occ errs) := by
  have h0 : Keeps 0x3F00080000007000807E0002804C04F6000000000000C00000002000000C000000000000000000000000001416042D36AF6FC s s := Keeps.refl _ _
  unfold State.releaseGroup
  extract_lets x0 x1
  have h1 : Keeps 0x3F00080000007000807E0002804C04F6000000000000C00000002000000C000000000000000000000000001416042D36AF6FC s x0 := by unfold x0; repeat' first | with_reducible assumption | apply Eq.refl | (with_reducible first | apply Keeps.step (State.mgtCheck_keeps ..) | apply Keeps.step (State.addErrs_keeps ..))
  try clear_value x0
  have h2 : Keeps 0x3F00080000007000807E0002804C04F6000000000000C00000002000000C000000000000000000000000001416042D36AF6FC s x1.1 := by unfold x1; repeat' first | with_reducible assumption | apply Eq.refl | (with_reducible first | apply Keeps.step (State.popGroup_keeps ..) | apply Keeps.step (State.occupancy_keeps ..))
  try clear_value x1
  repeat' first | with_reducible assumption | apply Eq.refl | (with_reducible first | apply Keeps.step (State.pipeGroup_keeps ..) | apply Keeps.step (State.advance_keeps ..) | apply Keeps.ite) | split

theorem State.dropFrame_keeps (s : State) :
    Keeps 0x2000000000000000000000000000000000000000000000000000000000000000000000000000000000000000000000008 s (State.dropFrame s) := by
  have h0 : Keeps 0x2000000000000000000000000000000000000000000000000000000000000000000000000000000000000000000000008 s s := Keeps.refl _ _
  unfold State.dropFrame
  repeat' first | with_reducible assumption | apply Eq.refl | intro c | with_reducible apply State.bump_keeps | ((with_reducible apply Has.fam (ETH_DROPCNT_COUNT_cls ..)); exact Eq.refl true)

theorem State.baindDatagram_keeps (s : State) (fragment : Bool) (srcIp : ℕ) (srcPort : ℕ) (dstIp : ℕ) (p : List ℕ) :
    Keeps 0x7FFFFFFFFFFFFFFFFFFFFFFFFFFFFFFFFFFFFFFFFFFFFFFFFFFFFFFFFFFFFFFFFFFFFFFFFFFFFFFFFFFFFFFFFFFFFFFFFFFFFFFFFFFFFFF77F8 s (State.baindDatagram s fragment srcIp srcPort dstIp p) := by
  have h0 : Keeps 0x7FFFFFFFFFFFFFFFFFFFFFFFFFFFFFFFFFFFFFFFFFFFFFFFFFFFFFFFFFFFFFFFFFFFFFFFFFFFFFFFFFFFFFFFFFFFFFFFFFFFFFFFFFFFFFF77F8 s s := Keeps.refl _ _
  unfold State.baindDatagram
  repeat' first | with_reducible assumption | apply Eq.refl | (with_reducible first | apply Keeps.step (State.dropFrame_keeps ..) | apply Keeps.step (State.packet_keeps ..) | apply Keeps.step (State.setTag_keeps ..) | apply Keeps.ite) | split | extract_lets

theorem State.frameIn_keeps (s : State) (f : EthFrame) :
    Keeps 0x7FFFFFFFFFFFFFFFFFFFFFFFFFFFFFFFFFFFFFFFFFFFFFFFFFFFFFFFFFFFFFFFFFFFFFFFFFFFFFFFFFFFFFFFFFFFFFFFFFFFFFFFFFFFFFF77F8 s (State.frameIn s f) := by
  have h0 : Keeps 0x7FFFFFFFFFFFFFFFFFFFFFFFFFFFFFFFFFFFFFFFFFFFFFFFFFFFFFFFFFFFFFFFFFFFFFFFFFFFFFFFFFFFFFFFFFFFFFFFFFFFFFFFFFFFFFF77F8 s s := Keeps.refl _ _
  unfold State.frameIn
  extract_lets x0
  have h1 : Keeps 0x7FFFFFFFFFFFFFFFFFFFFFFFFFFFFFFFFFFFFFFFFFFFFFFFFFFFFFFFFFFFFFFFFFFFFFFFFFFFFFFFFFFFFFFFFFFFFFFFFFFFFFFFFFFFFFF77F8 s x0 := by unfold x0; repeat' first | with_reducible assumption | apply Eq.refl | intro c | with_reducible apply State.bump_keeps | ((with_reducible apply Has.fam (ETH_RXCNT_COUNT_cls ..)); exact Eq.refl true)
  try clear_value x0
  repeat' first | with_reducible assumption | apply Eq.refl | intro c | (with_reducible first | apply Keeps.step (State.raise_keeps ..) | apply State.set_keeps | apply State.bump_keeps | apply Keeps.step (State.dropFrame_keeps ..) | apply Keeps.step (State.baindDatagram_keeps ..) | apply Keeps.step (State.emit_keeps ..) | apply Keeps.ite) | ((with_reducible apply Has.fam (ETH_STAT_RXERR_cls ..)); exact Eq.refl true) | ((with_reducible apply Has.fam (ETH_RXERRCNT_COUNT_cls ..)); exact Eq.refl true) | ((with_reducible apply Has.fam (ETH_TXCNT_COUNT_cls ..)); exact Eq.refl true) | ((with_reducible apply Has.fam (ETH_RXCNT_COUNT_cls ..)); exact Eq.refl true) | split

theorem State.frameRead_keeps (s : State) (f : EthFrame) (errs : List MemErr) :
    Keeps 0x7FFFFFFFFFFFFFFFFFFFFFFFFFFFFFFFFFFFFFFFFFFFFFFFFFFFFFFFFFFFFFFFFFFFFFFFFFFFFFFFFFFFFFFFFFFFFFFFFFFFFFFFFFFFFFF77F8 s (State.frameRead s f errs) := by
  have h0 : Keeps 0x7FFFFFFFFFFFFFFFFFFFFFFFFFFFFFFFFFFFFFFFFFFFFFFFFFFFFFFFFFFFFFFFFFFFFFFFFFFFFFFFFFFFFFFFFFFFFFFFFFFFFFFFFFFFFFF77F8 s s := Keeps.refl _ _
  unfold State.frameRead
  extract_lets x0 x1
  have h1 : Keeps 0x7FFFFFFFFFFFFFFFFFFFFFFFFFFFFFFFFFFFFFFFFFFFFFFFFFFFFFFFFFFFFFFFFFFFFFFFFFFFFFFFFFFFFFFFFFFFFFFFFFFFFFFFFFFFFFF77F8 s x0 := by unfold x0; repeat' first | with_reducible assumption | apply Eq.refl | with_reducible apply Keeps.step (State.addErrs_keeps ..)
  try clear_value x0
  have h2 : Keeps 0x7FFFFFFFFFFFFFFFFFFFFFFFFFFFFFFFFFFFFFFFFFFFFFFFFFFFFFFFFFFFFFFFFFFFFFFFFFFFFFFFFFFFFFFFFFFFFFFFFFFFFFFFFFFFFFF77F8 s x1.1 := by unfold x1; repeat' first | with_reducible assumption | apply Eq.refl | intro c | (with_reducible first | apply Keeps.step (State.memRead_keeps ..) | apply Keeps.foldl | apply Keeps.foldl_fst) | extract_lets
  try clear_value x1
  repeat' first | with_reducible assumption | apply Eq.refl | intro c | (with_reducible first | apply Keeps.step (State.dropFrame_keeps ..) | apply State.bump_keeps | apply Keeps.step (State.frameIn_keeps ..) | apply Keeps.ite) | ((with_reducible apply Has.fam (ETH_RXCNT_COUNT_cls ..)); exact Eq.refl true) | split

theorem State.setDhcp_keeps (s : State) (n : ℕ) :
    Keeps 0x4000000 s (State.setDhcp s n) := by
  have h0 : Keeps 0x4000000 s s := Keeps.refl _ _
  unfold State.setDhcp
  repeat' first | with_reducible assumption | apply Eq.refl | extract_lets | with_reducible apply Keeps.put_net

theorem State.dhcpAgain_keeps (s : State) :
    Keeps 0x2000000000000000000000000000000000000000000000000000000000000000000000000000000000000084000008 s (State.dhcpAgain s) := by
  have h0 : Keeps 0x2000000000000000000000000000000000000000000000000000000000000000000000000000000000000084000008 s s := Keeps.refl _ _
  unfold State.dhcpAgain
  repeat' first | with_reducible assumption | apply Eq.refl | intro c | (with_reducible first | apply Keeps.step (State.emit_keeps ..) | apply State.set_keeps | apply Keeps.step (State.setDhcp_keeps ..)) | ((with_reducible apply Has.fam (ETH_STAT_BOUND_cls ..)); exact Eq.refl true)

theorem State.dhcpBound_keeps (s : State) (ip : ℕ) (mask : ℕ) (gw : ℕ) :
    Keeps 0xE2000000000000000000000000000000000000000000000000000000000000000000000000000000000000004000008 s (State.dhcpBound s ip mask gw) := by
  have h0 : Keeps 0xE2000000000000000000000000000000000000000000000000000000000000000000000000000000000000004000008 s s := Keeps.refl _ _
  unfold State.dhcpBound
  repeat' first | with_reducible assumption | apply Eq.refl | intro c | (with_reducible first | apply Keeps.step (State.setDhcp_keeps ..) | apply State.set_keeps) | ((with_reducible apply Has.fam (ETH_STAT_BOUND_cls ..)); exact Eq.refl true) | ((with_reducible apply Has.fam (ETH_GW_ADDR_cls ..)); exact Eq.refl true) | ((with_reducible apply Has.fam (ETH_MASK_ADDR_cls ..)); exact Eq.refl true) | ((with_reducible apply Has.fam (ETH_IP_ADDR_cls ..)); exact Eq.refl true)

theorem State.dhcpIn_keeps (s : State) (m : DhcpMsg) :
    Keeps 0xE2000000000000000000000000000000000000000000000000000000000000000000000000000000000000084000008 s (State.dhcpIn s m) := by
  have h0 : Keeps 0xE2000000000000000000000000000000000000000000000000000000000000000000000000000000000000084000008 s s := Keeps.refl _ _
  unfold State.dhcpIn
  repeat' first | with_reducible assumption | apply Eq.refl | (with_reducible first | apply Keeps.step (State.emit_keeps ..) | apply Keeps.step (State.setDhcp_keeps ..) | apply Keeps.step (State.dhcpBound_keeps ..) | apply Keeps.step (State.dhcpAgain_keeps ..) | apply Keeps.ite) | split

theorem State.dhcpTimer_keeps (s : State) (t : DhcpTimer) :
    Keeps 0x2000000000000000000000000000000000000000000000000000000000000000000000000000000000000084000008 s (State.dhcpTimer s t) := by
  have h0 : Keeps 0x2000000000000000000000000000000000000000000000000000000000000000000000000000000000000084000008 s s := Keeps.refl _ _
  unfold State.dhcpTimer
  repeat' first | with_reducible assumption | apply Eq.refl | (with_reducible first | apply Keeps.step (State.emit_keeps ..) | apply Keeps.step (State.setDhcp_keeps ..) | apply Keeps.step (State.dhcpAgain_keeps ..) | apply Keeps.ite) | split

theorem State.ptpUnlock_keeps (s : State) :
    Keeps 0xA00000000000000000000000000000000000000000000000000000000000000000000000000000000001000002040000C8 s (State.ptpUnlock s) := by
  have h0 : Keeps 0xA00000000000000000000000000000000000000000000000000000000000000000000000000000000001000002040000C8 s s := Keeps.refl _ _
  unfold State.ptpUnlock
  extract_lets _ x1
  have h2 : Keeps 0xA00000000000000000000000000000000000000000000000000000000000000000000000000000000001000002040000C8 s x1 := by unfold x1; repeat' first | with_reducible assumption | apply Eq.refl | with_reducible apply Keeps.put_net
  try clear_value x1
  repeat' first | with_reducible assumption | apply Eq.refl | intro c | (with_reducible first | apply Keeps.step (State.raise_keeps ..) | apply State.set_keeps | apply Keeps.ite) | ((with_reducible apply Has.fam (ETH_PTPSTAT_LOSTSEEN_cls ..)); exact Eq.refl true) | ((with_reducible apply Has.fam (ETH_PTPSTAT_LOCK_cls ..)); exact Eq.refl true) | split | extract_lets

theorem State.ptpLockUp_keeps (s : State) (ptpTime : ℕ) :
    Keeps 0x6600000000000000000000000000000000000000000000000000000000000000000000000000000000001000002040000C8 s (State.ptpLockUp s ptpTime) := by
  have h0 : Keeps 0x6600000000000000000000000000000000000000000000000000000000000000000000000000000000001000002040000C8 s s := Keeps.refl _ _
  unfold State.ptpLockUp
  extract_lets _ _ _ x3 x4
  have h4 : Keeps 0x6600000000000000000000000000000000000000000000000000000000000000000000000000000000001000002040000C8 s x3 := by unfold x3; repeat' first | with_reducible assumption | apply Eq.refl | intro c | with_reducible apply State.set_keeps | ((with_reducible apply Has.fam (ETH_PTPSTAT_OFSVALID_cls ..)); exact Eq.refl true) | with_reducible apply Keeps.put_net
  try clear_value x3
  have h5 : Keeps 0x6600000000000000000000000000000000000000000000000000000000000000000000000000000000001000002040000C8 s x4 := by unfold x4; repeat' first | with_reducible assumption | apply Eq.refl | intro c | (with_reducible first | apply State.set_keeps | apply Keeps.ite) | ((with_reducible apply Has.fam (ETH_PTPOFS_HI_OFS_cls ..)); exact Eq.refl true) | ((with_reducible apply Has.fam (ETH_PTPOFS_LO_OFS_cls ..)); exact Eq.refl true) | split
  try clear_value x4
  repeat' first | with_reducible assumption | apply Eq.refl | intro c | (with_reducible first | apply Keeps.step (State.raise_keeps ..) | apply State.set_keeps) | ((with_reducible apply Has.fam (ETH_PTPSTAT_LOCK_cls ..)); exact Eq.refl true) | extract_lets

theorem State.ptpServo_keeps (s : State) :
    Keeps 0x100000000000000000000000000000000000000000000000000000000000000000000000000000000000000000000000018 s (State.ptpServo s) := by
  have h0 : Keeps 0x100000000000000000000000000000000000000000000000000000000000000000000000000000000000000000000000018 s s := Keeps.refl _ _
  unfold State.ptpServo
  extract_lets x0
  have h1 : Keeps 0x100000000000000000000000000000000000000000000000000000000000000000000000000000000000000000000000018 s x0.2 := by unfold x0; repeat' first | with_reducible assumption | apply Eq.refl | with_reducible apply Keeps.step (State.draw_keeps ..)
  try clear_value x0
  repeat' first | with_reducible assumption | apply Eq.refl | intro c | with_reducible apply State.setS_keeps | ((with_reducible apply Has.fam (ETH_PTPSTAT_ADJ_cls ..)); exact Eq.refl true)

theorem State.ptpSync_keeps (s : State) (residual : ℤ) (ptpTime : ℕ) :
    Keeps 0xFE00000000000000000000000000000000000000000000000000000000000000000000000000000000001000002040000D8 s (State.ptpSync s residual ptpTime) := by
  have h0 : Keeps 0xFE00000000000000000000000000000000000000000000000000000000000000000000000000000000001000002040000D8 s s := Keeps.refl _ _
  unfold State.ptpSync
  extract_lets x0 _ x2 _ _ x5
  have h1 : Keeps 0xFE00000000000000000000000000000000000000000000000000000000000000000000000000000000001000002040000D8 s x0 := by unfold x0; repeat' first | with_reducible assumption | apply Eq.refl | intro c | (with_reducible first | apply State.setS_keeps | apply Keeps.step (State.ptpUnlock_keeps ..)) | ((with_reducible apply Has.fam (ETH_PTPRES_RES_cls ..)); exact Eq.refl true)
  try clear_value x0
  have h3 : Keeps 0xFE00000000000000000000000000000000000000000000000000000000000000000000000000000000001000002040000D8 s x2 := by unfold x2; repeat' first | with_reducible assumption | apply Eq.refl | (with_reducible first | apply Keeps.step (State.ptpUnlock_keeps ..) | apply Keeps.step (State.ptpUnlock_keeps ..))
  try clear_value x2
  have h6 : Keeps 0xFE00000000000000000000000000000000000000000000000000000000000000000000000000000000001000002040000D8 s x5 := by unfold x5; repeat' first | with_reducible assumption | apply Eq.refl | (with_reducible first | apply Keeps.step (State.ptpUnlock_keeps ..) | apply Keeps.ite) | split | with_reducible apply Keeps.put_net
  try clear_value x5
  repeat' first | with_reducible assumption | apply Eq.refl | (with_reducible first | apply Keeps.step (State.ptpUnlock_keeps ..) | apply Keeps.step (State.ptpServo_keeps ..) | apply Keeps.step (State.ptpLockUp_keeps ..) | apply Keeps.step (State.ptpUnlock_keeps ..) | apply Keeps.ite) | split | extract_lets | with_reducible apply Keeps.put_net

theorem State.phyPoll_keeps (s : State) (link : Bool) (speed : ℕ) (fdx : Bool) :
    Keeps 0x1C000000000000000000000000000000000000000000000000000000000000000000000000000001000002000000C8 s (State.phyPoll s link speed fdx) := by
  have h0 : Keeps 0x1C000000000000000000000000000000000000000000000000000000000000000000000000000001000002000000C8 s s := Keeps.refl _ _
  unfold State.phyPoll
  repeat' first | with_reducible assumption | apply Eq.refl | intro c | (with_reducible first | apply Keeps.step (State.raise_keeps ..) | apply State.setB_keeps | apply State.set_keeps | apply Keeps.ite) | ((with_reducible apply Has.fam (ETH_STAT_FDX_cls ..)); exact Eq.refl true) | ((with_reducible apply Has.fam (ETH_STAT_SPEED_cls ..)); exact Eq.refl true) | ((with_reducible apply Has.fam (ETH_STAT_LINK_cls ..)); exact Eq.refl true) | split

theorem State.mdioEnd_keeps (s : State) (data : ℕ) :
    Keeps 0x300000000000000000000000000000000000000000000000000000000000000000000000000000000000000004000008 s (State.mdioEnd s data) := by
  have h0 : Keeps 0x300000000000000000000000000000000000000000000000000000000000000000000000000000000000000004000008 s s := Keeps.refl _ _
  unfold State.mdioEnd
  extract_lets _ x1
  have h2 : Keeps 0x300000000000000000000000000000000000000000000000000000000000000000000000000000000000000004000008 s x1 := by unfold x1; repeat' first | with_reducible assumption | apply Eq.refl | intro c | with_reducible apply State.set_keeps | ((with_reducible apply Has.fam (ETH_MDIOCMD_BUSY_cls ..)); exact Eq.refl true) | with_reducible apply Keeps.put_net
  try clear_value x1
  repeat' first | with_reducible assumption | apply Eq.refl | intro c | with_reducible apply State.set_keeps | ((with_reducible apply Has.fam (ETH_MDIOCMD_DATA_cls ..)); exact Eq.refl true) | split | extract_lets

theorem State.setSsp_keeps (s : State) (x : Ssp) :
    Keeps 0x70000000000000000000000000000000000000000000000000000000000000000000000000000000002000008 s (State.setSsp s x) := by
  have h0 : Keeps 0x70000000000000000000000000000000000000000000000000000000000000000000000000000000002000008 s s := Keeps.refl _ _
  unfold State.setSsp
  repeat' first | with_reducible assumption | apply Eq.refl | with_reducible apply Keeps.step (State.sspShow_keeps ..) | with_reducible apply Keeps.put_ssp

theorem State.frameBegin_keeps (s : State) (mode3 : Bool) :
    Keeps 0x2800000000000000000000000000000000000000000000000000000000000000000000000000000002000008 s (State.frameBegin s mode3) := by
  have h0 : Keeps 0x2800000000000000000000000000000000000000000000000000000000000000000000000000000002000008 s s := Keeps.refl _ _
  unfold State.frameBegin
  repeat' first | with_reducible assumption | apply Eq.refl | intro c | (with_reducible first | apply State.setB_keeps | apply State.bump_keeps) | ((with_reducible apply Has.fam (SSP_STAT_MODE3_cls ..)); exact Eq.refl true) | ((with_reducible apply Has.fam (SSP_FRAMECNT_COUNT_cls ..)); exact Eq.refl true) | extract_lets | with_reducible apply Keeps.put_ssp

theorem State.frameErr_keeps (s : State) (code : ℕ) :
    Keeps 0x51000000000000000000000000000000000000000000000000000000000000000000000001000002020000C8 s (State.frameErr s code) := by
  have h0 : Keeps 0x51000000000000000000000000000000000000000000000000000000000000000000000001000002020000C8 s s := Keeps.refl _ _
  unfold State.frameErr
  extract_lets _ x1
  have h2 : Keeps 0x51000000000000000000000000000000000000000000000000000000000000000000000001000002020000C8 s x1 := by unfold x1; repeat' first | with_reducible assumption | apply Eq.refl | with_reducible apply Keeps.put_ssp
  try clear_value x1
  repeat' first | with_reducible assumption | apply Eq.refl | intro c | (with_reducible first | apply Keeps.step (State.raise_keeps ..) | apply State.bump_keeps | apply State.set_keeps) | ((with_reducible apply Has.fam (SSP_ERRCNT_COUNT_cls ..)); exact Eq.refl true) | ((with_reducible apply Has.fam (SSP_STAT_LASTERR_cls ..)); exact Eq.refl true) | ((with_reducible apply Has.fam (SSP_STAT_ERRSEEN_cls ..)); exact Eq.refl true) | extract_lets

theorem State.frameRsv_keeps (s : State) (mode3 : Bool) (n : ℕ) :
    Keeps 0x79000000000000000000000000000000000000000000000000000000000000000000000001000002820000C8 s (State.frameRsv s mode3 n) := by
  have h0 : Keeps 0x79000000000000000000000000000000000000000000000000000000000000000000000001000002820000C8 s s := Keeps.refl _ _
  unfold State.frameRsv
  repeat' first | with_reducible assumption | apply Eq.refl | (with_reducible first | apply Keeps.step (State.emit_keeps ..) | apply Keeps.step (State.frameErr_keeps ..) | apply Keeps.step (State.frameBegin_keeps ..)) | extract_lets

theorem State.frameEnd_keeps (s : State) :
    Keeps 0x200000000000000000000000000000000000000000000000000000000000000000000000000000002000008 s (State.frameEnd s) := by
  have h0 : Keeps 0x200000000000000000000000000000000000000000000000000000000000000000000000000000002000008 s s := Keeps.refl _ _
  unfold State.frameEnd
  repeat' first | with_reducible assumption | apply Eq.refl | intro c | with_reducible apply State.set_keeps | ((with_reducible apply Has.fam (SSP_STAT_ENDSEEN_cls ..)); exact Eq.refl true) | extract_lets | with_reducible apply Keeps.put_ssp

theorem State.notReady_keeps (s : State) (n : ℕ) :
    Keeps 0x80000000 s (State.notReady s n) := by
  have h0 : Keeps 0x80000000 s s := Keeps.refl _ _
  unfold State.notReady
  repeat' first | with_reducible assumption | apply Eq.refl | with_reducible apply Keeps.step (State.emit_keeps ..)

theorem State.sspWords_keeps (s : State) (inc : Bool) (a n : Nat) : Keeps 0x400000000000000000000000000020007E0002800000000000000000000000000040000000000000000000000000000008001010042020001D8 s (s.sspWords inc a n).1 := by
  induction n generalizing s a with
  | zero => exact Keeps.refl _ _
  | succ n ih =>
    have h : Keeps 0x400000000000000000000000000020007E0002800000000000000000000000000040000000000000000000000000000008001010042020001D8 s (if 0x4000 ≤ a then (s.frameEnd, 0) else s.readBy .ssp (4 * a)).1 := by
      split
      · exact Keeps.comp (State.frameEnd_keeps ..) (by decide) (Keeps.refl _ _)
      · exact Keeps.comp (State.readBy_keeps ..) (by decide) (Keeps.refl _ _)
    exact Keeps.comp (ih _ _) (by decide) h

theorem State.sspRead_keeps (s : State) (mode3 : Bool) (inc : Bool) (addr : ℕ) (words : ℕ) :
    Keeps 0x4000000000000000000000000002A0007E0002800000000000000000000000000040000000000000000000000000000008001010042820001D8 s (State.sspRead s mode3 inc addr words) := by
  have h0 : Keeps 0x4000000000000000000000000002A0007E0002800000000000000000000000000040000000000000000000000000000008001010042820001D8 s s := Keeps.refl _ _
  unfold State.sspRead
  extract_lets _ x1 _ x3 x4
  have h2 : Keeps 0x4000000000000000000000000002A0007E0002800000000000000000000000000040000000000000000000000000000008001010042820001D8 s x1 := by unfold x1; repeat' first | with_reducible assumption | apply Eq.refl | with_reducible apply Keeps.step (State.frameBegin_keeps ..)
  try clear_value x1
  have h4 : Keeps 0x4000000000000000000000000002A0007E0002800000000000000000000000000040000000000000000000000000000008001010042820001D8 s x3 := by unfold x3; repeat' first | with_reducible assumption | apply Eq.refl | (with_reducible first | apply Keeps.step (State.frameEnd_keeps ..) | apply Keeps.ite) | split
  try clear_value x3
  have h5 : Keeps 0x4000000000000000000000000002A0007E0002800000000000000000000000000040000000000000000000000000000008001010042820001D8 s x4.1 := by unfold x4; repeat' first | with_reducible assumption | apply Eq.refl | with_reducible apply Keeps.step (State.sspWords_keeps ..)
  try clear_value x4
  repeat' first | with_reducible assumption | apply Eq.refl | (with_reducible first | apply Keeps.step (State.emit_keeps ..) | apply Keeps.step (State.notReady_keeps ..) | apply Keeps.ite) | split | extract_lets

theorem State.sspCommit_keeps (s : State) (inc : Bool) (a : ℕ) (l : List ℕ) :
    Keeps 0x7FFFFFFFFFFFFFFFFFFFFFFFFFFFFFFFFFFFFFFFFFFFFFFFFFFFFFFFFFFFFFFFFFFFFFFFFFFFFFFFFFFFFFFFFFFFFFFFFFFFFFFFFFFEFFF77F8 s (State.sspCommit s inc a l) := by
  have h0 : Keeps 0x7FFFFFFFFFFFFFFFFFFFFFFFFFFFFFFFFFFFFFFFFFFFFFFFFFFFFFFFFFFFFFFFFFFFFFFFFFFFFFFFFFFFFFFFFFFFFFFFFFFFFFFFFFFEFFF77F8 s s := Keeps.refl _ _
  unfold State.sspCommit
  repeat' first | with_reducible assumption | apply Eq.refl | intro c | (with_reducible first | apply Keeps.step (State.frameEnd_keeps ..) | apply Keeps.step (State.regWriteBy_keeps ..) | apply Keeps.ite | apply Keeps.foldl) | split | extract_lets

theorem State.sspWrite_keeps (s : State) (mode3 : Bool) (inc : Bool) (l : List ℕ) (extra : ℕ) :
    Keeps 0x7FFFFFFFFFFFFFFFFFFFFFFFFFFFFFFFFFFFFFFFFFFFFFFFFFFFFFFFFFFFFFFFFFFFFFFFFFFFFFFFFFFFFFFFFFFFFFFFFFFFFFFFFFFEFFF77F8 s (State.sspWrite s mode3 inc l extra) := by
  have h0 : Keeps 0x7FFFFFFFFFFFFFFFFFFFFFFFFFFFFFFFFFFFFFFFFFFFFFFFFFFFFFFFFFFFFFFFFFFFFFFFFFFFFFFFFFFFFFFFFFFFFFFFFFFFFFFFFFFEFFF77F8 s s := Keeps.refl _ _
  unfold State.sspWrite
  extract_lets x0
  have h1 : Keeps 0x7FFFFFFFFFFFFFFFFFFFFFFFFFFFFFFFFFFFFFFFFFFFFFFFFFFFFFFFFFFFFFFFFFFFFFFFFFFFFFFFFFFFFFFFFFFFFFFFFFFFFFFFFFFEFFF77F8 s x0 := by unfold x0; repeat' first | with_reducible assumption | apply Eq.refl | (with_reducible first | apply Keeps.step (State.frameBegin_keeps ..) | apply Keeps.step (State.emit_keeps ..))
  try clear_value x0
  repeat' first | with_reducible assumption | apply Eq.refl | (with_reducible first | apply Keeps.step (State.frameErr_keeps ..) | apply Keeps.step (State.sspCommit_keeps ..) | apply Keeps.step (State.notReady_keeps ..) | apply Keeps.ite) | split | extract_lets

theorem State.sspDeliver_keeps (s : State) (p : List ℕ) :
    Keeps 0x7FFFFFFFFFFFFFFFFFFFFFFFFFFFFFFFFFFFFFFFFFFFFFFFFFFFFFFFFFFFFFFFFFFFFFFFFFFFFFFFFFFFFFFFFFFFFFFFFFFFFFFFFFFFFFF77F8 s (State.sspDeliver s p) := by
  have h0 : Keeps 0x7FFFFFFFFFFFFFFFFFFFFFFFFFFFFFFFFFFFFFFFFFFFFFFFFFFFFFFFFFFFFFFFFFFFFFFFFFFFFFFFFFFFFFFFFFFFFFFFFFFFFFFFFFFFFFF77F8 s s := Keeps.refl _ _
  unfold State.sspDeliver
  repeat' first | with_reducible assumption | apply Eq.refl | (with_reducible first | apply Keeps.step (State.packet_keeps ..) | apply Keeps.step (State.setTag_keeps ..) | apply Keeps.step (State.setSsp_keeps ..) | apply Keeps.ite) | split | extract_lets

theorem State.streamWrite_keeps (s : State) (mode3 : Bool) (p : List ℕ) :
    Keeps 0x7FFFFFFFFFFFFFFFFFFFFFFFFFFFFFFFFFFFFFFFFFFFFFFFFFFFFFFFFFFFFFFFFFFFFFFFFFFFFFFFFFFFFFFFFFFFFFFFFFFFFFFFFFFFFFF77F8 s (State.streamWrite s mode3 p) := by
  have h0 : Keeps 0x7FFFFFFFFFFFFFFFFFFFFFFFFFFFFFFFFFFFFFFFFFFFFFFFFFFFFFFFFFFFFFFFFFFFFFFFFFFFFFFFFFFFFFFFFFFFFFFFFFFFFFFFFFFFFFF77F8 s s := Keeps.refl _ _
  unfold State.streamWrite
  extract_lets x0
  have h1 : Keeps 0x7FFFFFFFFFFFFFFFFFFFFFFFFFFFFFFFFFFFFFFFFFFFFFFFFFFFFFFFFFFFFFFFFFFFFFFFFFFFFFFFFFFFFFFFFFFFFFFFFFFFFFFFFFFFFFF77F8 s x0 := by unfold x0; repeat' first | with_reducible assumption | apply Eq.refl | (with_reducible first | apply Keeps.step (State.frameBegin_keeps ..) | apply Keeps.step (State.emit_keeps ..))
  try clear_value x0
  repeat' first | with_reducible assumption | apply Eq.refl | intro c | (with_reducible first | apply State.bump_keeps | apply Keeps.step (State.frameErr_keeps ..) | apply Keeps.step (State.sspDeliver_keeps ..) | apply Keeps.step (State.notReady_keeps ..) | apply Keeps.ite) | ((with_reducible apply Has.fam (SSP_RXDROP_COUNT_cls ..)); exact Eq.refl true) | split

theorem State.streamRead_keeps (s : State) (mode3 : Bool) (n : ℕ) :
    Keeps 0x72800000000000000000000000000000000000000000000000000000000000000000000000000000082000008 s (State.streamRead s mode3 n) := by
  have h0 : Keeps 0x72800000000000000000000000000000000000000000000000000000000000000000000000000000082000008 s s := Keeps.refl _ _
  unfold State.streamRead
  extract_lets _ x1
  have h2 : Keeps 0x72800000000000000000000000000000000000000000000000000000000000000000000000000000082000008 s x1 := by unfold x1; repeat' first | with_reducible assumption | apply Eq.refl | with_reducible apply Keeps.step (State.frameBegin_keeps ..)
  try clear_value x1
  repeat' first | with_reducible assumption | apply Eq.refl | (with_reducible first | apply Keeps.step (State.emit_keeps ..) | apply Keeps.step (State.setSsp_keeps ..) | apply Keeps.step (State.notReady_keeps ..) | apply Keeps.ite) | split | extract_lets

theorem State.inboxServe_keeps (s : State) :
    Keeps 0x7FFFFFFFFFFFFFFFFFFFFFFFFFFFFFFFFFFFFFFFFFFFFFFFFFFFFFFFFFFFFFFFFFFFFFFFFFFFFFFFFFFFFFFFFFFFFFFFFFFFFFFFFFFFFFF77F8 s (State.inboxServe s) := by
  have h0 : Keeps 0x7FFFFFFFFFFFFFFFFFFFFFFFFFFFFFFFFFFFFFFFFFFFFFFFFFFFFFFFFFFFFFFFFFFFFFFFFFFFFFFFFFFFFFFFFFFFFFFFFFFFFFFFFFFFFFF77F8 s s := Keeps.refl _ _
  unfold State.inboxServe
  repeat' first | with_reducible assumption | apply Eq.refl | intro c | (with_reducible first | apply Keeps.step (State.packet_keeps ..) | apply Keeps.step (State.setTag_keeps ..) | apply Keeps.step (State.setSsp_keeps ..) | apply Keeps.ite | apply Keeps.foldl) | split | extract_lets

theorem State.lineDone_keeps (s : State) :
    Keeps 0x200000000000000000000000000000000000000000000000000000000000000000000000000000000088000008 s (State.lineDone s) := by
  have h0 : Keeps 0x200000000000000000000000000000000000000000000000000000000000000000000000000000000088000008 s s := Keeps.refl _ _
  unfold State.lineDone
  repeat' first | (with_reducible first | assumption | apply hold_saved | apply hold_saving | apply Canon.saved | apply Canon.saving | apply Keeps.canon) | apply Eq.refl | intro c | (with_reducible first | apply State.setFlash_keeps | apply State.setB_keeps | apply Keeps.step (State.emit_keeps ..) | apply Keeps.ite | apply Keeps.foldl) | ((with_reducible apply Has.fam (FLS_STAT_CONT_cls ..)); exact Eq.refl true) | split | extract_lets

theorem State.resume_keeps (s : State) :
    Keeps 0x200000000000000000000000000000000000000000000000000000000000000000000000000000000008000008 s (State.resume s) := by
  have h0 : Keeps 0x200000000000000000000000000000000000000000000000000000000000000000000000000000000008000008 s s := Keeps.refl _ _
  unfold State.resume
  repeat' first | (with_reducible first | assumption | apply hold_saved | apply hold_saving | apply Canon.saved | apply Canon.saving | apply Keeps.canon) | apply Eq.refl | intro c | (with_reducible first | apply State.set_keeps | apply State.setFlash_keeps | apply Keeps.ite) | ((with_reducible apply Has.fam (FLS_STAT_CONT_cls ..)); exact Eq.refl true) | split | extract_lets

theorem State.opEnd_keeps (s : State) :
    Keeps 0x400000000000000000000000000000000000000000000000000000000000000000000000000000000008000008 s (State.opEnd s) := by
  have h0 : Keeps 0x400000000000000000000000000000000000000000000000000000000000000000000000000000000008000008 s s := Keeps.refl _ _
  unfold State.opEnd
  repeat' first | (with_reducible first | assumption | apply hold_saved | apply hold_saving | apply Canon.saved | apply Canon.saving | apply Keeps.canon) | apply Eq.refl | intro c | (with_reducible first | apply Keeps.step (State.flashEnd_keeps ..) | apply Keeps.ite) | split

theorem State.idle_keeps (s : State) :
    Keeps 0x4 s (State.idle s) := by
  have h0 : Keeps 0x4 s s := Keeps.refl _ _
  unfold State.idle
  repeat' first | with_reducible assumption | apply Eq.refl | with_reducible apply Keeps.put_time

end Sys2Proof.Machine
end

