-- ==== Sys2Proof/Laws/Exec.lean ====
section
/-! SUPPORT. Every command answers a next state, and what it may touch: one lemma for each meaning. -/

namespace Sys2Proof.Machine

set_option linter.all false
set_option linter.unusedTactic false
set_option linter.unreachableTactic false
set_option linter.style.longLine false
set_option Elab.async false

open Reg


theorem execScrubWriteback_keeps (s : State) : 
    ∃ s', execScrubWriteback s = .next s' ∧ Keeps 0x80 s s' := by
  refine ⟨_, rfl, ?_⟩
  have h0 : Keeps 0x80 s s := Keeps.refl _ _
  repeat' first | (with_reducible first | assumption | apply Keeps.step (State.scrubOne_keeps ..) | apply Keeps.ite) | apply Eq.refl | intro c | fail | split | extract_lets

theorem execCorV0Write_keeps (r : Requester) (v : Word) (s : State) : 
    ∃ s', execCorV0Write r v s = .next s' ∧ Keeps 0x500000000000000000000004000000100000008 s s' := by
  refine ⟨_, rfl, ?_⟩
  have h0 : Keeps 0x500000000000000000000004000000100000008 s s := Keeps.refl _ _
  repeat' first | (with_reducible first | assumption | apply State.guardW_keeps | apply Keeps.step (State.corV0W_keeps ..) | apply Keeps.ite) | apply Eq.refl | intro c | ((with_reducible apply Has.fam (GLB_STAT_PROTERR_cls ..)); exact Eq.refl true) | split | extract_lets

theorem execCorOflip_keeps (r : Requester) (v : Word) (s : State) : 
    ∃ s', execCorOflip r v s = .next s' ∧ Keeps 0x1100000000000000000000004000000100001408 s s' := by
  refine ⟨_, rfl, ?_⟩
  have h0 : Keeps 0x1100000000000000000000004000000100001408 s s := Keeps.refl _ _
  repeat' first | (with_reducible first | assumption | apply State.guardW_keeps | apply Keeps.step (State.corOflipW_keeps ..) | apply Keeps.ite) | apply Eq.refl | intro c | ((with_reducible apply Has.fam (GLB_STAT_PROTERR_cls ..)); exact Eq.refl true) | split | extract_lets

theorem execCorBlendStart_keeps (r : Requester) (n : Nat) (s : State) : 
    ∃ s', execCorBlendStart r n s = .next s' ∧ Keeps 0xA100000000000000000000004000000100001008 s s' := by
  refine ⟨_, rfl, ?_⟩
  have h0 : Keeps 0xA100000000000000000000004000000100001008 s s := Keeps.refl _ _
  repeat' first | (with_reducible first | assumption | apply State.guardW_keeps | apply Keeps.step (State.corBlendStartW_keeps ..) | apply Keeps.ite) | apply Eq.refl | intro c | ((with_reducible apply Has.fam (GLB_STAT_PROTERR_cls ..)); exact Eq.refl true) | split | extract_lets

theorem execCorBlendAbort_keeps (r : Requester) (s : State) : 
    ∃ s', execCorBlendAbort r s = .next s' ∧ Keeps 0xC130000000000000000000004000000100001008 s s' := by
  refine ⟨_, rfl, ?_⟩
  have h0 : Keeps 0xC130000000000000000000004000000100001008 s s := Keeps.refl _ _
  repeat' first | (with_reducible first | assumption | apply State.guardW_keeps | apply Keeps.step (State.corBlendAbortW_keeps ..) | apply Keeps.ite) | apply Eq.refl | intro c | ((with_reducible apply Has.fam (GLB_STAT_PROTERR_cls ..)); exact Eq.refl true) | split | extract_lets

theorem execCorLanexWrite_keeps (r : Requester) (j : Nat) (v : Word) (s : State) : 
    ∃ s', execCorLanexWrite r j v s = .next s' ∧ Keeps 0x4000008100000008 s s' := by
  refine ⟨_, rfl, ?_⟩
  have h0 : Keeps 0x4000008100000008 s s := Keeps.refl _ _
  repeat' first | (with_reducible first | assumption | apply State.guardW_keeps | apply Keeps.step (State.laneXW_keeps ..) | apply Keeps.ite) | apply Eq.refl | intro c | ((with_reducible apply Has.fam (GLB_STAT_PROTERR_cls ..)); exact Eq.refl true) | split | extract_lets

theorem execBrdParamWrite_keeps (r : Requester) (a : Nat) (v : Word) (s : State) : 
    ∃ s', execBrdParamWrite r a v s = .next s' ∧ Keeps 0x3F00400000000000000000000000000000000004000000100080008 s s' := by
  refine ⟨_, rfl, ?_⟩
  have h0 : Keeps 0x3F00400000000000000000000000000000000004000000100080008 s s := Keeps.refl _ _
  repeat' first | (with_reducible first | assumption | apply State.guardW_keeps | apply Keeps.step (State.brdParamW_keeps ..) | apply Keeps.ite) | apply Eq.refl | intro c | ((with_reducible apply Has.fam (GLB_STAT_PROTERR_cls ..)); exact Eq.refl true) | split | extract_lets

theorem execBrdTableComputeDone_keeps (s : State) : 
    ∃ s', execBrdTableComputeDone s = .next s' ∧ Keeps 0x40000A000000000000000000000000000000000001000002000800C8 s s' := by
  refine ⟨_, rfl, ?_⟩
  have h0 : Keeps 0x40000A000000000000000000000000000000000001000002000800C8 s s := Keeps.refl _ _
  repeat' first | (with_reducible first | assumption | apply Keeps.step (State.tablesDone_keeps ..) | apply Keeps.ite) | apply Eq.refl | intro c | fail | split | extract_lets

theorem execBrdUnlayWrite_keeps (r : Requester) (v : Word) (s : State) : 
    ∃ s', execBrdUnlayWrite r v s = .next s' ∧ Keeps 0xE0400000000000000000000000000000000004000000100040008 s s' := by
  refine ⟨_, rfl, ?_⟩
  have h0 : Keeps 0xE0400000000000000000000000000000000004000000100040008 s s := Keeps.refl _ _
  repeat' first | (with_reducible first | assumption | apply State.guardW_keeps | apply Keeps.step (State.brdUnlayW_keeps ..) | apply Keeps.ite) | apply Eq.refl | intro c | ((with_reducible apply Has.fam (GLB_STAT_PROTERR_cls ..)); exact Eq.refl true) | split | extract_lets

theorem execBrdSwitch_keeps (r : Requester) (v : Word) (s : State) : 
    ∃ s', execBrdSwitch r v s = .next s' ∧ Keeps 0x140001C000000000000000000000000000000000041000003000800C8 s s' := by
  refine ⟨_, rfl, ?_⟩
  have h0 : Keeps 0x140001C000000000000000000000000000000000041000003000800C8 s s := Keeps.refl _ _
  repeat' first | (with_reducible first | assumption | apply State.guardW_keeps | apply Keeps.step (State.brdSwitchW_keeps ..) | apply Keeps.ite) | apply Eq.refl | intro c | ((with_reducible apply Has.fam (GLB_STAT_PROTERR_cls ..)); exact Eq.refl true) | split | extract_lets

theorem execBrdRestart_keeps (r : Requester) (s : State) : 
    ∃ s', execBrdRestart r s = .next s' ∧ Keeps 0x4000000100080008 s s' := by
  refine ⟨_, rfl, ?_⟩
  have h0 : Keeps 0x4000000100080008 s s := Keeps.refl _ _
  repeat' first | (with_reducible first | assumption | apply State.guardW_keeps | apply Keeps.step (State.brdRestartS_keeps ..) | apply Keeps.ite) | apply Eq.refl | intro c | ((with_reducible apply Has.fam (GLB_STAT_PROTERR_cls ..)); exact Eq.refl true) | split | extract_lets

theorem execBrdTrackEval_keeps (s : State) : 
    ∃ s', execBrdTrackEval s = .next s' ∧ Keeps 0x1020000000000000000000000000000000000001000202000800C8 s s' := by
  refine ⟨_, rfl, ?_⟩
  have h0 : Keeps 0x1020000000000000000000000000000000000001000202000800C8 s s := Keeps.refl _ _
  repeat' first | (with_reducible first | assumption | apply Keeps.step (State.trackEval_keeps ..) | apply Keeps.ite) | apply Eq.refl | intro c | fail | split | extract_lets

theorem execVrdSwitch_keeps (r : Requester) (s : State) : 
    ∃ s', execVrdSwitch r s = .next s' ∧ Keeps 0x6000000000000000000000000000000000000000000004000000100200008 s s' := by
  refine ⟨_, rfl, ?_⟩
  have h0 : Keeps 0x6000000000000000000000000000000000000000000004000000100200008 s s := Keeps.refl _ _
  repeat' first | (with_reducible first | assumption | apply State.guardW_keeps | apply Keeps.step (State.vrdSwitchS_keeps ..) | apply Keeps.ite) | apply Eq.refl | intro c | ((with_reducible apply Has.fam (GLB_STAT_PROTERR_cls ..)); exact Eq.refl true) | split | extract_lets

theorem execKntThrWrite_keeps (r : Requester) (v : Word) (s : State) : 
    ∃ s', execKntThrWrite r v s = .next s' ∧ Keeps 0x32000000000000000000000000000000000000000004000000100040008 s s' := by
  refine ⟨_, rfl, ?_⟩
  have h0 : Keeps 0x32000000000000000000000000000000000000000004000000100040008 s s := Keeps.refl _ _
  repeat' first | (with_reducible first | assumption | apply State.guardW_keeps | apply Keeps.step (State.kntThrW_keeps ..) | apply Keeps.ite) | apply Eq.refl | intro c | ((with_reducible apply Has.fam (GLB_STAT_PROTERR_cls ..)); exact Eq.refl true) | split | extract_lets

theorem execPreheatWindowEnd_keeps (s : State) : 
    ∃ s', execPreheatWindowEnd s = .next s' ∧ Keeps 0x3D07000000000000000000000000000000000000000000000000000000000000000000000000000000000000000000001000002000200CC s s' := by
  refine ⟨_, rfl, ?_⟩
  have h0 : Keeps 0x3D07000000000000000000000000000000000000000000000000000000000000000000000000000000000000000000001000002000200CC s s := Keeps.refl _ _
  repeat' first | (with_reducible first | assumption | apply Keeps.step (State.phWindow_keeps ..) | apply Keeps.ite) | apply Eq.refl | intro c | fail | split | extract_lets

theorem execBackdropLoopUpdate_keeps (s : State) : 
    ∃ s', execBackdropLoopUpdate s = .next s' ∧ Keeps 0x38028000000000000000000000000000000000000000000000000000000000000000000000000000000000000000000001000002000200CC s s' := by
  refine ⟨_, rfl, ?_⟩
  have h0 : Keeps 0x38028000000000000000000000000000000000000000000000000000000000000000000000000000000000000000000001000002000200CC s s := Keeps.refl _ _
  repeat' first | (with_reducible first | assumption | apply Keeps.step (State.bkUpdate_keeps ..) | apply Keeps.ite) | apply Eq.refl | intro c | fail | split | extract_lets

theorem execHeaterPeriodStart_keeps (o : Nat) (s : State) : 
    ∃ s', execHeaterPeriodStart o s = .next s' ∧ Keeps 0x20004 s s' := by
  refine ⟨_, rfl, ?_⟩
  have h0 : Keeps 0x20004 s s := Keeps.refl _ _
  repeat' first | (with_reducible first | assumption | apply Keeps.step (State.periodStart_keeps ..) | apply Keeps.ite) | apply Eq.refl | intro c | fail | split | extract_lets

theorem execHeaterOutputOff_keeps (o : Nat) (s : State) : 
    ∃ s', execHeaterOutputOff o s = .next s' ∧ Keeps 0x20004 s s' := by
  refine ⟨_, rfl, ?_⟩
  have h0 : Keeps 0x20004 s s := Keeps.refl _ _
  repeat' first | (with_reducible first | assumption | apply Keeps.step (State.outputOff_keeps ..) | apply Keeps.ite) | apply Eq.refl | intro c | fail | split | extract_lets

theorem execLoopClear_keeps (r : Requester) (ph bk : Bool) (s : State) : 
    ∃ s', execLoopClear r ph bk s = .next s' ∧ Keeps 0x2200000000000000000000000000000000000000000000000000000000000000000000000000000000000000000000004000000100000008 s s' := by
  refine ⟨_, rfl, ?_⟩
  have h0 : Keeps 0x2200000000000000000000000000000000000000000000000000000000000000000000000000000000000000000000004000000100000008 s s := Keeps.refl _ _
  repeat' first | (with_reducible first | assumption | apply State.guardW_keeps | apply Keeps.step (State.loopClr_keeps ..) | apply Keeps.ite) | apply Eq.refl | intro c | ((with_reducible apply Has.fam (GLB_STAT_PROTERR_cls ..)); exact Eq.refl true) | split | extract_lets

theorem execLoopCtrlWrite_keeps (r : Requester) (v : Word) (s : State) : 
    ∃ s', execLoopCtrlWrite r v s = .next s' ∧ Keeps 0x7FFFFFFFFFFFFFFFFFFFFFFFFFFFFFFFFFFFFFFFFFFFFFFFFFFFFFFFFFFFFFFFFFFFFFFFFFFFFFFFFFFFFFFFFFFFFFFFFFFFF7FFFFF00020008 s s' := by
  refine ⟨_, rfl, ?_⟩
  have h0 : Keeps 0x7FFFFFFFFFFFFFFFFFFFFFFFFFFFFFFFFFFFFFFFFFFFFFFFFFFFFFFFFFFFFFFFFFFFFFFFFFFFFFFFFFFFFFFFFFFFFFFFFFFFF7FFFFF00020008 s s := Keeps.refl _ _
  repeat' first | (with_reducible first | assumption | apply State.guardW_keeps | apply Keeps.step (State.loopCtrlW_keeps ..) | apply Keeps.ite) | apply Eq.refl | intro c | ((with_reducible apply Has.fam (GLB_STAT_PROTERR_cls ..)); exact Eq.refl true) | split | extract_lets

theorem execSplice_keeps (crc : Bool) (r : SpliceReq) (s : State) : 
    ∃ s', execSplice crc r s = .next s' ∧ Keeps 0x1400000000000000000000007E0002800000061F00E00000000000000000000000000000000000000000000000001012002002000C8 s s' := by
  refine ⟨_, rfl, ?_⟩
  have h0 : Keeps 0x1400000000000000000000007E0002800000061F00E00000000000000000000000000000000000000000000000001012002002000C8 s s := Keeps.refl _ _
  repeat' first | (with_reducible first | assumption | apply State.chainMsg_keeps | apply Keeps.step (State.takeSplice_keeps ..) | apply Keeps.ite) | apply Eq.refl | intro c | fail | split | extract_lets

theorem execQflush_keeps (r : Requester) (s : State) : 
    ∃ s', execQflush r s = .next s' ∧ Keeps 0x6000000000000000000000000000000000000000000000000000004000200100200008 s s' := by
  refine ⟨_, rfl, ?_⟩
  have h0 : Keeps 0x6000000000000000000000000000000000000000000000000000004000200100200008 s s := Keeps.refl _ _
  repeat' first | (with_reducible first | assumption | apply State.guardW_keeps | apply Keeps.step (State.flushQueues_keeps ..) | apply Keeps.ite) | apply Eq.refl | intro c | ((with_reducible apply Has.fam (GLB_STAT_PROTERR_cls ..)); exact Eq.refl true) | split | extract_lets

theorem execMapsw_keeps (r : Requester) (s : State) : 
    ∃ s', execMapsw r s = .next s' ∧ Keeps 0x8000000000000000000000000000000000000000000000004000000100200008 s s' := by
  refine ⟨_, rfl, ?_⟩
  have h0 : Keeps 0x8000000000000000000000000000000000000000000000004000000100200008 s s := Keeps.refl _ _
  repeat' first | (with_reducible first | assumption | apply State.guardW_keeps | apply Keeps.step (State.mapswS_keeps ..) | apply Keeps.ite) | apply Eq.refl | intro c | ((with_reducible apply Has.fam (GLB_STAT_PROTERR_cls ..)); exact Eq.refl true) | split | extract_lets

theorem execEjsStagedWrite_keeps (r : Requester) (a : Nat) (v : Word) (s : State) : 
    ∃ s', execEjsStagedWrite r a v s = .next s' ∧ Keeps 0xFE13C00000000000000000000000000000000000000000000004000000100040008 s s' := by
  refine ⟨_, rfl, ?_⟩
  have h0 : Keeps 0xFE13C00000000000000000000000000000000000000000000004000000100040008 s s := Keeps.refl _ _
  repeat' first | (with_reducible first | assumption | apply State.guardW_keeps | apply Keeps.step (State.ejsStagedW_keeps ..) | apply Keeps.ite) | apply Eq.refl | intro c | ((with_reducible apply Has.fam (GLB_STAT_PROTERR_cls ..)); exact Eq.refl true) | split | extract_lets

theorem execCalTriggerEval_keeps (s : State) : 
    ∃ s', execCalTriggerEval s = .next s' ∧ Keeps 0xE000000000000000000000000000000000000000000000000000000000008B000000000000000000000000000000000081802008 s s' := by
  refine ⟨_, rfl, ?_⟩
  have h0 : Keeps 0xE000000000000000000000000000000000000000000000000000000000008B000000000000000000000000000000000081802008 s s := Keeps.refl _ _
  repeat' first | (with_reducible first | assumption | apply Keeps.step (State.trigEval_keeps ..) | apply Keeps.ite) | apply Eq.refl | intro c | fail | split | extract_lets

theorem execCalGo_keeps (r : Requester) (s : State) : 
    ∃ s', execCalGo r s = .next s' ∧ Keeps 0xE000000000000000000000000000000000000000000000000000000000000B000000000000000000000000004000000181802008 s s' := by
  refine ⟨_, rfl, ?_⟩
  have h0 : Keeps 0xE000000000000000000000000000000000000000000000000000000000000B000000000000000000000000004000000181802008 s s := Keeps.refl _ _
  repeat' first | (with_reducible first | assumption | apply State.guardW_keeps | apply Keeps.step (State.trigger_keeps ..) | apply Keeps.ite) | apply Eq.refl | intro c | ((with_reducible apply Has.fam (GLB_STAT_PROTERR_cls ..)); exact Eq.refl true) | split | extract_lets

theorem execPowerupCalStart_keeps (s : State) : 
    ∃ s', execPowerupCalStart s = .next s' ∧ Keeps 0xE000000000000000000000000000000000000000000000000000000000000B000000000000000000000000000000000081802008 s s' := by
  refine ⟨_, rfl, ?_⟩
  have h0 : Keeps 0xE000000000000000000000000000000000000000000000000000000000000B000000000000000000000000000000000081802008 s s := Keeps.refl _ _
  repeat' first | (with_reducible first | assumption | apply Keeps.step (State.powerupStart_keeps ..) | apply Keeps.ite) | apply Eq.refl | intro c | fail | split | extract_lets

theorem execPowerupCalRetry_keeps (s : State) : 
    ∃ s', execPowerupCalRetry s = .next s' ∧ Keeps 0xE000000000000000000000000000000000000000000000000000000000000B00000000000000000000000000000000008180200C s s' := by
  refine ⟨_, rfl, ?_⟩
  have h0 : Keeps 0xE000000000000000000000000000000000000000000000000000000000000B00000000000000000000000000000000008180200C s s := Keeps.refl _ _
  repeat' first | (with_reducible first | assumption | apply Keeps.step (State.advance_keeps ..) | apply Keeps.step (State.powerupStart_keeps ..) | apply Keeps.ite) | apply Eq.refl | intro c | fail | split | extract_lets

theorem execCalGrantTimeout_keeps (s : State) : 
    ∃ s', execCalGrantTimeout s = .next s' ∧ Keeps 0xE000000000000000000000000000000000000000000000000000000000001900000000000000000000000000000000008080200C s s' := by
  refine ⟨_, rfl, ?_⟩
  have h0 : Keeps 0xE000000000000000000000000000000000000000000000000000000000001900000000000000000000000000000000008080200C s s := Keeps.refl _ _
  repeat' first | (with_reducible first | assumption | apply Keeps.step (State.grantTimeoutS_keeps ..) | apply Keeps.ite) | apply Eq.refl | intro c | fail | split | extract_lets

theorem execCalDeferredRetry_keeps (s : State) : 
    ∃ s', execCalDeferredRetry s = .next s' ∧ Keeps 0xE000000000000000000000000000000000000000000000000000000000000B00000000000000000000000000000000008180200C s s' := by
  refine ⟨_, rfl, ?_⟩
  have h0 : Keeps 0xE000000000000000000000000000000000000000000000000000000000000B00000000000000000000000000000000008180200C s s := Keeps.refl _ _
  repeat' first | (with_reducible first | assumption | apply Keeps.step (State.advance_keeps ..) | apply Keeps.step (State.calNext_keeps ..) | apply Keeps.ite) | apply Eq.refl | intro c | fail | split | extract_lets

theorem execLyFlagClosed_keeps (w : LySense) (s : State) : 
    ∃ s', execLyFlagClosed w s = .next s' ∧ Keeps 0xCC00000000000000000000000000000001001000000000000000000000000000000000003408 s s' := by
  refine ⟨_, rfl, ?_⟩
  have h0 : Keeps 0xCC00000000000000000000000000000001001000000000000000000000000000000000003408 s s := Keeps.refl _ _
  repeat' first | (with_reducible first | assumption | apply Keeps.step (State.lyConfirm_keeps ..) | apply Keeps.step (State.flagClosed_keeps ..) | apply Keeps.ite) | apply Eq.refl | intro c | fail | split | extract_lets

theorem execFlagCloseTimeout_keeps (s : State) : 
    ∃ s', execFlagCloseTimeout s = .next s' ∧ Keeps 0x8000000700000000000004C04F00000000000000000000000785030000000000000000000000000001406002C34022C8 s s' := by
  refine ⟨_, rfl, ?_⟩
  have h0 : Keeps 0x8000000700000000000004C04F00000000000000000000000785030000000000000000000000000001406002C34022C8 s s := Keeps.refl _ _
  repeat' first | (with_reducible first | assumption | apply Keeps.step (State.closeTimeout_keeps ..) | apply Keeps.ite) | apply Eq.refl | intro c | fail | split | extract_lets

theorem execLyFlagOpen_keeps (w : LySense) (s : State) : 
    ∃ s', execLyFlagOpen w s = .next s' ∧ Keeps 0xCC00000000000000000000000000000020000000000000000000000000002000000000002008 s s' := by
  refine ⟨_, rfl, ?_⟩
  have h0 : Keeps 0xCC00000000000000000000000000000020000000000000000000000000002000000000002008 s s := Keeps.refl _ _
  repeat' first | (with_reducible first | assumption | apply Keeps.step (State.lyConfirm_keeps ..) | apply Keeps.step (State.flagOpen_keeps ..) | apply Keeps.ite) | apply Eq.refl | intro c | fail | split | extract_lets

theorem execFlagStuck_keeps (s : State) : 
    ∃ s', execFlagStuck s = .next s' ∧ Keeps 0x200000000000000000000000000021000002000000CC s s' := by
  refine ⟨_, rfl, ?_⟩
  have h0 : Keeps 0x200000000000000000000000000021000002000000CC s s := Keeps.refl _ _
  repeat' first | (with_reducible first | assumption | apply Keeps.step (State.flagStuckS_keeps ..) | apply Keeps.ite) | apply Eq.refl | intro c | fail | split | extract_lets

theorem execCalSettleEnd_keeps (s : State) : 
    ∃ s', execCalSettleEnd s = .next s' ∧ Keeps 0x2004 s s' := by
  refine ⟨_, rfl, ?_⟩
  have h0 : Keeps 0x2004 s s := Keeps.refl _ _
  repeat' first | (with_reducible first | assumption | apply Keeps.step (State.advance_keeps ..) | apply Keeps.ite) | apply Eq.refl | intro c | fail | split | extract_lets | with_reducible first | apply Keeps.put_cal

theorem execCalCaptureEnd_keeps (s : State) : 
    ∃ s', execCalCaptureEnd s = .next s' ∧ Keeps 0x4C04F0000000000000000000000000003000000000000000000000000000000600000402008 s s' := by
  refine ⟨_, rfl, ?_⟩
  have h0 : Keeps 0x4C04F0000000000000000000000000003000000000000000000000000000000600000402008 s s := Keeps.refl _ _
  repeat' first | (with_reducible first | assumption | apply Keeps.step (State.captureEnd_keeps ..) | apply Keeps.ite) | apply Eq.refl | intro c | fail | split | extract_lets

theorem execCalComputeDone_keeps (s : State) : 
    ∃ s', execCalComputeDone s = .next s' ∧ Keeps 0x8000000700000000000000000000000000000000000000001F85020300000000000000000000000001400102C30032C8 s s' := by
  refine ⟨_, rfl, ?_⟩
  have h0 : Keeps 0x8000000700000000000000000000000000000000000000001F85020300000000000000000000000001400102C30032C8 s s := Keeps.refl _ _
  repeat' first | (with_reducible first | assumption | apply Keeps.step (State.computeDone_keeps ..) | apply Keeps.ite) | apply Eq.refl | intro c | fail | split | extract_lets

theorem execCalResumeEnd_keeps (s : State) : 
    ∃ s', execCalResumeEnd s = .next s' ∧ Keeps 0x20000000000000000000000000000000000000000000000000000000000000000000000000000000000800000C s s' := by
  refine ⟨_, rfl, ?_⟩
  have h0 : Keeps 0x20000000000000000000000000000000000000000000000000000000000000000000000000000000000800000C s s := Keeps.refl _ _
  repeat' first | (with_reducible first | assumption | apply Keeps.step (State.advance_keeps ..) | apply Keeps.step (State.resume_keeps ..) | apply Keeps.ite) | apply Eq.refl | intro c | fail | split | extract_lets

theorem execCalSlotCopyDone_keeps (s : State) : 
    ∃ s', execCalSlotCopyDone s = .next s' ∧ Keeps 0xE000000000000000000000000000000000000000000000000000000000000B0310000000000000000000000001000002818034C8 s s' := by
  refine ⟨_, rfl, ?_⟩
  have h0 : Keeps 0xE000000000000000000000000000000000000000000000000000000000000B0310000000000000000000000001000002818034C8 s s := Keeps.refl _ _
  repeat' first | (with_reducible first | assumption | apply Keeps.step (State.copyDone_keeps ..) | apply Keeps.ite) | apply Eq.refl | intro c | fail | split | extract_lets

theorem execTrimHandoffTimeout_keeps (s : State) : 
    ∃ s', execTrimHandoffTimeout s = .next s' ∧ Keeps 0xE000000000000000000000000000000000000000000000000000000004000B0000000000000000000000000001000002818030C8 s s' := by
  refine ⟨_, rfl, ?_⟩
  have h0 : Keeps 0xE000000000000000000000000000000000000000000000000000000004000B0000000000000000000000000001000002818030C8 s s := Keeps.refl _ _
  repeat' first | (with_reducible first | assumption | apply Keeps.step (State.settleSteps_keeps ..) | apply Keeps.step (State.handoffEnd_keeps ..) | apply Keeps.ite) | apply Eq.refl | intro c | fail | split | extract_lets

theorem execGrefStart_keeps (r : Requester) (s : State) : 
    ∃ s', execGrefStart r s = .next s' ∧ Keeps 0x40000E0000000000000000000000000000000000000000000000000000008000049000000000000000000000000004000000180806008 s s' := by
  refine ⟨_, rfl, ?_⟩
  have h0 : Keeps 0x40000E0000000000000000000000000000000000000000000000000000008000049000000000000000000000000004000000180806008 s s := Keeps.refl _ _
  repeat' first | (with_reducible first | assumption | apply State.guardW_keeps | apply Keeps.step (State.grefStartS_keeps ..) | apply Keeps.ite) | apply Eq.refl | intro c | ((with_reducible apply Has.fam (GLB_STAT_PROTERR_cls ..)); exact Eq.refl true) | split | extract_lets

theorem execGrefWindow1End_keeps (s : State) : 
    ∃ s', execGrefWindow1End s = .next s' ∧ Keeps 0x4000 s s' := by
  refine ⟨_, rfl, ?_⟩
  have h0 : Keeps 0x4000 s s := Keeps.refl _ _
  repeat' first | (with_reducible first | assumption | apply Keeps.step (State.grefW1_keeps ..) | apply Keeps.ite) | apply Eq.refl | intro c | fail | split | extract_lets

theorem execGrefSettled_keeps (s : State) : 
    ∃ s', execGrefSettled s = .next s' ∧ Keeps 0x4000 s s' := by
  refine ⟨_, rfl, ?_⟩
  have h0 : Keeps 0x4000 s s := Keeps.refl _ _
  repeat' first | (with_reducible first | assumption | apply Keeps.ite) | apply Eq.refl | intro c | fail | split | extract_lets | with_reducible first | apply Keeps.put_gref

theorem execGrefSettleTimeout_keeps (s : State) : 
    ∃ s', execGrefSettleTimeout s = .next s' ∧ Keeps 0x40000E000000080000007000000000000000000000000000000000000002800000B0000000000000000000000000001400002C38062C8 s s' := by
  refine ⟨_, rfl, ?_⟩
  have h0 : Keeps 0x40000E000000080000007000000000000000000000000000000000000002800000B0000000000000000000000000001400002C38062C8 s s := Keeps.refl _ _
  repeat' first | (with_reducible first | assumption | apply Keeps.step (State.grefFail_keeps ..) | apply Keeps.step (State.calNext_keeps ..) | apply Keeps.ite) | apply Eq.refl | intro c | fail | split | extract_lets

theorem execGrefWindow2End_keeps (s : State) : 
    ∃ s', execGrefWindow2End s = .next s' ∧ Keeps 0x40000E00000008000000700000000000000000000000000000000000000E800000B0000000000000000000000000001400002C38062C8 s s' := by
  refine ⟨_, rfl, ?_⟩
  have h0 : Keeps 0x40000E00000008000000700000000000000000000000000000000000000E800000B0000000000000000000000000001400002C38062C8 s s := Keeps.refl _ _
  repeat' first | (with_reducible first | assumption | apply Keeps.step (State.grefW2_keeps ..) | apply Keeps.ite) | apply Eq.refl | intro c | fail | split | extract_lets

theorem execGrefDone_keeps (s : State) : 
    ∃ s', execGrefDone s = .next s' ∧ Keeps 0x40000E000000080000007000000000000000000000000000000000000001800000B0000000000000000000000000001400002C38062C8 s s' := by
  refine ⟨_, rfl, ?_⟩
  have h0 : Keeps 0x40000E000000080000007000000000000000000000000000000000000001800000B0000000000000000000000000001400002C38062C8 s s := Keeps.refl _ _
  repeat' first | (with_reducible first | assumption | apply Keeps.step (State.grefDoneS_keeps ..) | apply Keeps.ite) | apply Eq.refl | intro c | fail | split | extract_lets

theorem execGapply_keeps (r : Requester) (s : State) : 
    ∃ s', execGapply r s = .next s' ∧ Keeps 0xE000000000000000000000000000000000000000000000000000004000004B000100000000000000000000004100000181807088 s s' := by
  refine ⟨_, rfl, ?_⟩
  have h0 : Keeps 0xE000000000000000000000000000000000000000000000000000004000004B000100000000000000000000004100000181807088 s s := Keeps.refl _ _
  repeat' first | (with_reducible first | assumption | apply State.guardW_keeps | apply Keeps.step (State.gapplyS_keeps ..) | apply Keeps.ite) | apply Eq.refl | intro c | ((with_reducible apply Has.fam (GLB_STAT_PROTERR_cls ..)); exact Eq.refl true) | split | extract_lets

theorem execCalAbort_keeps (r : Requester) (s : State) : 
    ∃ s', execCalAbort r s = .next s' ∧ Keeps 0x40000E00000008000000700000000000004C04F000000000000000000000807880B00C0300000000000000000000041406003C3C072C8 s s' := by
  refine ⟨_, rfl, ?_⟩
  have h0 : Keeps 0x40000E00000008000000700000000000004C04F000000000000000000000807880B00C0300000000000000000000041406003C3C072C8 s s := Keeps.refl _ _
  repeat' first | (with_reducible first | assumption | apply State.guardW_keeps | apply Keeps.step (State.calAbortW_keeps ..) | apply Keeps.ite) | apply Eq.refl | intro c | ((with_reducible apply Has.fam (GLB_STAT_PROTERR_cls ..)); exact Eq.refl true) | split | extract_lets

theorem execFiringOpen_keeps (ch : Nat) (s : State) : 
    ∃ s', execFiringOpen ch s = .next s' ∧ Keeps 0x7E0002800804F61700A00000000000000000000000000000000000000000000000001016002006000DC s s' := by
  refine ⟨_, rfl, ?_⟩
  have h0 : Keeps 0x7E0002800804F61700A00000000000000000000000000000000000000000000000001016002006000DC s s := Keeps.refl _ _
  repeat' first | (with_reducible first | assumption | apply Keeps.step (State.openFiring_keeps ..) | apply Keeps.ite) | apply Eq.refl | intro c | fail | split | extract_lets

theorem execTokenGrant_keeps (s : State) : 
    ∃ s', execTokenGrant s = .next s' ∧ Keeps 0x804F0000000000000000000000000000000000000000000000000000000000600000400018 s s' := by
  refine ⟨_, rfl, ?_⟩
  have h0 : Keeps 0x804F0000000000000000000000000000000000000000000000000000000000600000400018 s s := Keeps.refl _ _
  repeat' first | (with_reducible first | assumption | apply Keeps.step (State.grantToken_keeps ..) | apply Keeps.ite) | apply Eq.refl | intro c | fail | split | extract_lets

theorem execTokenDeadline_keeps (ch : Nat) (s : State) : 
    ∃ s', execTokenDeadline ch s = .next s' ∧ Keeps 0x804F60000000000000000000000000000000000000000000000000000001006002006000DC s s' := by
  refine ⟨_, rfl, ?_⟩
  have h0 : Keeps 0x804F60000000000000000000000000000000000000000000000000000001006002006000DC s s := Keeps.refl _ _
  repeat' first | (with_reducible first | assumption | apply Keeps.step (State.tokenLate_keeps ..) | apply Keeps.ite) | apply Eq.refl | intro c | fail | split | extract_lets

theorem execPeakEnd_keeps (ch : Nat) (s : State) : 
    ∃ s', execPeakEnd ch s = .next s' ∧ Keeps 0x804F0000000000000000000000000000000000000000000000000000000000600000400008 s s' := by
  refine ⟨_, rfl, ?_⟩
  have h0 : Keeps 0x804F0000000000000000000000000000000000000000000000000000000000600000400008 s s := Keeps.refl _ _
  repeat' first | (with_reducible first | assumption | apply Keeps.step (State.peakDone_keeps ..) | apply Keeps.ite) | apply Eq.refl | intro c | fail | split | extract_lets

theorem execPeakTimeout_keeps (ch imeas : Nat) (s : State) : 
    ∃ s', execPeakTimeout ch imeas s = .next s' ∧ Keeps 0x8000000700000000000007C04F60000000000000000000000785030000000000000000000000000001406002C36022CC s s' := by
  refine ⟨_, rfl, ?_⟩
  have h0 : Keeps 0x8000000700000000000007C04F60000000000000000000000785030000000000000000000000000001406002C36022CC s s := Keeps.refl _ _
  repeat' first | (with_reducible first | assumption | apply Keeps.step (State.peakLimit_keeps ..) | apply Keeps.ite) | apply Eq.refl | intro c | fail | split | extract_lets

theorem execHoldEntry_keeps (ch : Nat) (s : State) : 
    ∃ s', execHoldEntry ch s = .next s' ∧ Keeps 0x804F0000000000000000000000000000000000000000000000000000000000600000400008 s s' := by
  refine ⟨_, rfl, ?_⟩
  have h0 : Keeps 0x804F0000000000000000000000000000000000000000000000000000000000600000400008 s s := Keeps.refl _ _
  repeat' first | (with_reducible first | assumption | apply Keeps.step (State.toHold_keeps ..) | apply Keeps.ite) | apply Eq.refl | intro c | fail | split | extract_lets

theorem execChopPeriod_keeps (bank : Nat) (currents : List Nat) (s : State) : 
    ∃ s', execChopPeriod bank currents s = .next s' ∧ Keeps 0x8000000700000000000007C04F60000000000000000000000785030000000000000000000000000001406002C36022C8 s s' := by
  refine ⟨_, rfl, ?_⟩
  have h0 : Keeps 0x8000000700000000000007C04F60000000000000000000000785030000000000000000000000000001406002C36022C8 s s := Keeps.refl _ _
  repeat' first | (with_reducible first | assumption | apply Keeps.step (State.chopEnd_keeps ..) | apply Keeps.ite) | apply Eq.refl | intro c | fail | split | extract_lets

theorem execFiringClose_keeps (ch : Nat) (s : State) : 
    ∃ s', execFiringClose ch s = .next s' ∧ Keeps 0x4804F60000000000000000000000000000000000000000000000000000001006002006000DC s s' := by
  refine ⟨_, rfl, ?_⟩
  have h0 : Keeps 0x4804F60000000000000000000000000000000000000000000000000000001006002006000DC s s := Keeps.refl _ _
  repeat' first | (with_reducible first | assumption | apply Keeps.step (State.closeFiring_keeps ..) | apply Keeps.ite) | apply Eq.refl | intro c | fail | split | extract_lets

theorem execCurrentZero_keeps (ch : Nat) (s : State) : 
    ∃ s', execCurrentZero ch s = .next s' ∧ Keeps 0x804F0000000000000000000000000000000000000000000000000000000000600000400008 s s' := by
  refine ⟨_, rfl, ?_⟩
  have h0 : Keeps 0x804F0000000000000000000000000000000000000000000000000000000000600000400008 s s := Keeps.refl _ _
  repeat' first | (with_reducible first | assumption | apply Keeps.step (State.coilEmpty_keeps ..) | apply Keeps.ite) | apply Eq.refl | intro c | fail | split | extract_lets

theorem execOpeningKink_keeps (ch t fall : Nat) (s : State) : 
    ∃ s', execOpeningKink ch t fall s = .next s' ∧ Keeps 0x20000040000C s s' := by
  refine ⟨_, rfl, ?_⟩
  have h0 : Keeps 0x20000040000C s s := Keeps.refl _ _
  repeat' first | (with_reducible first | assumption | apply Keeps.step (State.openKink_keeps ..) | apply Keeps.ite) | apply Eq.refl | intro c | fail | split | extract_lets

theorem execClosingKink_keeps (ch t reversal : Nat) (s : State) : 
    ∃ s', execClosingKink ch t reversal s = .next s' ∧ Keeps 0x60000040001C s s' := by
  refine ⟨_, rfl, ?_⟩
  have h0 : Keeps 0x60000040001C s s := Keeps.refl _ _
  repeat' first | (with_reducible first | assumption | apply Keeps.step (State.closeKink_keeps ..) | apply Keeps.ite) | apply Eq.refl | intro c | fail | split | extract_lets

theorem execPositionEdge_keeps (input : Nat) (level : Bool) (s : State) : 
    ∃ s', execPositionEdge input level s = .next s' ∧ Keeps 0x600000400018 s s' := by
  refine ⟨_, rfl, ?_⟩
  have h0 : Keeps 0x600000400018 s s := Keeps.refl _ _
  repeat' first | (with_reducible first | assumption | apply Keeps.step (State.posEdge_keeps ..) | apply Keeps.ite) | apply Eq.refl | intro c | fail | split | extract_lets

theorem execOpeningWindowEnd_keeps (ch : Nat) (s : State) : 
    ∃ s', execOpeningWindowEnd ch s = .next s' ∧ Keeps 0x1002002004000CC s s' := by
  refine ⟨_, rfl, ?_⟩
  have h0 : Keeps 0x1002002004000CC s s := Keeps.refl _ _
  repeat' first | (with_reducible first | assumption | apply Keeps.step (State.openWindow_keeps ..) | apply Keeps.ite) | apply Eq.refl | intro c | fail | split | extract_lets

theorem execClosingWindowEnd_keeps (ch : Nat) (s : State) : 
    ∃ s', execClosingWindowEnd ch s = .next s' ∧ Keeps 0x1006002004000DC s s' := by
  refine ⟨_, rfl, ?_⟩
  have h0 : Keeps 0x1006002004000DC s s := Keeps.refl _ _
  repeat' first | (with_reducible first | assumption | apply Keeps.step (State.closeWindow_keeps ..) | apply Keeps.ite) | apply Eq.refl | intro c | fail | split | extract_lets

theorem execCoilThermalUpdate_keeps (i2 : List Nat) (s : State) : 
    ∃ s', execCoilThermalUpdate i2 s = .next s' ∧ Keeps 0x8000000700000000000034C04F61700A00000000000000000785030000000000000000000000000001406002C36022C8 s s' := by
  refine ⟨_, rfl, ?_⟩
  have h0 : Keeps 0x8000000700000000000034C04F61700A00000000000000000785030000000000000000000000000001406002C36022C8 s s := Keeps.refl _ _
  repeat' first | (with_reducible first | assumption | apply Keeps.step (State.coilUpdate_keeps ..) | apply Keeps.ite) | apply Eq.refl | intro c | fail | split | extract_lets

theorem execOvercurrent_keeps (ch : Nat) (s : State) : 
    ∃ s', execOvercurrent ch s = .next s' ∧ Keeps 0x8000000700000000000007C04F60000000000000000000000785030000000000000000000000000001406002C36022C8 s s' := by
  refine ⟨_, rfl, ?_⟩
  have h0 : Keeps 0x8000000700000000000007C04F60000000000000000000000785030000000000000000000000000001406002C36022C8 s s := Keeps.refl _ _
  repeat' first | (with_reducible first | assumption | apply Keeps.step (State.chFault_keeps ..) | apply Keeps.ite) | apply Eq.refl | intro c | fail | split | extract_lets

theorem execDrainShort_keeps (ch : Nat) (s : State) : 
    ∃ s', execDrainShort ch s = .next s' ∧ Keeps 0x8000000700000000000007C04F60000000000000000000000785030000000000000000000000000001406002C36022C8 s s' := by
  refine ⟨_, rfl, ?_⟩
  have h0 : Keeps 0x8000000700000000000007C04F60000000000000000000000785030000000000000000000000000001406002C36022C8 s s := Keeps.refl _ _
  repeat' first | (with_reducible first | assumption | apply Keeps.step (State.chFault_keeps ..) | apply Keeps.ite) | apply Eq.refl | intro c | fail | split | extract_lets

theorem execRailNodeShort_keeps (bank : Nat) (s : State) : 
    ∃ s', execRailNodeShort bank s = .next s' ∧ Keeps 0x8000000700000000000005C04F60000000000000000000000785030000000000000000000000000001406002C36022C8 s s' := by
  refine ⟨_, rfl, ?_⟩
  have h0 : Keeps 0x8000000700000000000005C04F60000000000000000000000785030000000000000000000000000001406002C36022C8 s s := Keeps.refl _ _
  repeat' first | (with_reducible first | assumption | apply Keeps.step (State.railFault_keeps ..) | apply Keeps.ite) | apply Eq.refl | intro c | fail | split | extract_lets

theorem execRailStuckHigh_keeps (bank : Nat) (s : State) : 
    ∃ s', execRailStuckHigh bank s = .next s' ∧ Keeps 0x8000000700000000000005C04F60000000000000000000000785030000000000000000000000000001406002C36022C8 s s' := by
  refine ⟨_, rfl, ?_⟩
  have h0 : Keeps 0x8000000700000000000005C04F60000000000000000000000785030000000000000000000000000001406002C36022C8 s s := Keeps.refl _ _
  repeat' first | (with_reducible first | assumption | apply Keeps.step (State.railFault_keeps ..) | apply Keeps.ite) | apply Eq.refl | intro c | fail | split | extract_lets

theorem execBoostMeasure_keeps (vbst : Nat) (s : State) : 
    ∃ s', execBoostMeasure vbst s = .next s' ∧ Keeps 0x7CF00000000000000000000000000000000000000000000000000000001000002000000C8 s s' := by
  refine ⟨_, rfl, ?_⟩
  have h0 : Keeps 0x7CF00000000000000000000000000000000000000000000000000000001000002000000C8 s s := Keeps.refl _ _
  repeat' first | (with_reducible first | assumption | apply Keeps.step (State.boostMeas_keeps ..) | apply Keeps.ite) | apply Eq.refl | intro c | fail | split | extract_lets

theorem execVlvClrflt_keeps (r : Requester) (ch : Nat) (s : State) : 
    ∃ s', execVlvClrflt r ch s = .next s' ∧ Keeps 0x4000200100000008 s s' := by
  refine ⟨_, rfl, ?_⟩
  have h0 : Keeps 0x4000200100000008 s s := Keeps.refl _ _
  repeat' first | (with_reducible first | assumption | apply State.guardW_keeps | apply Keeps.step (State.clearCh_keeps ..) | apply Keeps.ite) | apply Eq.refl | intro c | ((with_reducible apply Has.fam (GLB_STAT_PROTERR_cls ..)); exact Eq.refl true) | split | extract_lets

theorem execVbkClrflt_keeps (r : Requester) (bank : Nat) (s : State) : 
    ∃ s', execVbkClrflt r bank s = .next s' ∧ Keeps 0x4000400100000008 s s' := by
  refine ⟨_, rfl, ?_⟩
  have h0 : Keeps 0x4000400100000008 s s := Keeps.refl _ _
  repeat' first | (with_reducible first | assumption | apply State.guardW_keeps | apply State.set_keeps | apply Keeps.ite) | apply Eq.refl | intro c | ((with_reducible apply Has.fam (VBK_STAT_BKFLT_cls ..)); exact Eq.refl true) | ((with_reducible apply Has.fam (GLB_STAT_PROTERR_cls ..)); exact Eq.refl true) | split | extract_lets

theorem execDriveEnableWrite_keeps (r : Requester) (a : Nat) (v : Word) (s : State) : 
    ∃ s', execDriveEnableWrite r a v s = .next s' ∧ Keeps 0x7FFFFFFFFFFFFFFFFFFFFFFFFFFFFFFFFFFFFFFFFFFFFFFFFFFFFFFFFFFFFFFFFFFFFFFFFFFFFFFFFFFFFFFFFFFFFFFFFFFFF7FFFFF006000C8 s s' := by
  refine ⟨_, rfl, ?_⟩
  have h0 : Keeps 0x7FFFFFFFFFFFFFFFFFFFFFFFFFFFFFFFFFFFFFFFFFFFFFFFFFFFFFFFFFFFFFFFFFFFFFFFFFFFFFFFFFFFFFFFFFFFFFFFFFFFF7FFFFF006000C8 s s := Keeps.refl _ _
  repeat' first | (with_reducible first | assumption | apply State.guardW_keeps | apply Keeps.step (State.driveEnableW_keeps ..) | apply Keeps.ite) | apply Eq.refl | intro c | ((with_reducible apply Has.fam (GLB_STAT_PROTERR_cls ..)); exact Eq.refl true) | split | extract_lets

theorem execLyEnergise_keeps (r : Requester) (on : Bool) (s : State) : 
    ∃ s', execLyEnergise r on s = .next s' ∧ Keeps 0xCC06F0000000000000000000000000000000000000000000000000000004000600100400018 s s' := by
  refine ⟨_, rfl, ?_⟩
  have h0 : Keeps 0xCC06F0000000000000000000000000000000000000000000000000000004000600100400018 s s := Keeps.refl _ _
  repeat' first | (with_reducible first | assumption | apply State.guardW_keeps | apply Keeps.step (State.lyHost_keeps ..) | apply Keeps.ite) | apply Eq.refl | intro c | ((with_reducible apply Has.fam (GLB_STAT_PROTERR_cls ..)); exact Eq.refl true) | split | extract_lets

theorem execLyClrflt_keeps (r : Requester) (s : State) : 
    ∃ s', execLyClrflt r s = .next s' ∧ Keeps 0x300000000000000000000000000000000000000000000000000000000004000000100000008 s s' := by
  refine ⟨_, rfl, ?_⟩
  have h0 : Keeps 0x300000000000000000000000000000000000000000000000000000000004000000100000008 s s := Keeps.refl _ _
  repeat' first | (with_reducible first | assumption | apply State.guardW_keeps | apply State.set_keeps | apply Keeps.ite) | apply Eq.refl | intro c | ((with_reducible apply Has.fam (ARB_LYSTAT_FLT_cls ..)); exact Eq.refl true) | ((with_reducible apply Has.fam (ARB_LYSTAT_FLTCAUSE_cls ..)); exact Eq.refl true) | ((with_reducible apply Has.fam (GLB_STAT_PROTERR_cls ..)); exact Eq.refl true) | split | extract_lets

theorem execDipSet_keeps (mv : Nat) (s : State) : 
    ∃ s', execDipSet mv s = .next s' ∧ Keeps 0xE00000008000000700000000000004C04F000000000000000000000007880B00C03000000000000001E0030001406002C3C832C8 s s' := by
  refine ⟨_, rfl, ?_⟩
  have h0 : Keeps 0xE00000008000000700000000000004C04F000000000000000000000007880B00C03000000000000001E0030001406002C3C832C8 s s := Keeps.refl _ _
  repeat' first | (with_reducible first | assumption | apply Keeps.step (State.dipSetS_keeps ..) | apply Keeps.ite) | apply Eq.refl | intro c | fail | split | extract_lets

theorem execDipClear_keeps (s : State) : 
    ∃ s', execDipClear s = .next s' ∧ Keeps 0xE00000000000000000000000000000004F000000000000000000000000000B000000000000000000000001000000000081883008 s s' := by
  refine ⟨_, rfl, ?_⟩
  have h0 : Keeps 0xE00000000000000000000000000000004F000000000000000000000000000B000000000000000000000001000000000081883008 s s := Keeps.refl _ _
  repeat' first | (with_reducible first | assumption | apply Keeps.step (State.dipClearS_keeps ..) | apply Keeps.ite) | apply Eq.refl | intro c | fail | split | extract_lets

theorem execVvalThreshold_keeps (c : VvalCond) (on : Bool) (s : State) : 
    ∃ s', execVvalThreshold c on s = .next s' ∧ Keeps 0x10000000000000000000000000000000000000000000000000001C0001000002000000C8 s s' := by
  refine ⟨_, rfl, ?_⟩
  have h0 : Keeps 0x10000000000000000000000000000000000000000000000000001C0001000002000000C8 s s := Keeps.refl _ _
  repeat' first | (with_reducible first | assumption | apply Keeps.step (State.vval_keeps ..) | apply Keeps.ite) | apply Eq.refl | intro c | fail | split | extract_lets

theorem execBudgetEval_keeps (iBase iTotal : Nat) (s : State) : 
    ∃ s', execBudgetEval iBase iTotal s = .next s' ∧ Keeps 0x8000000000000000000000000038000000000000000000000000000000000000030000000009F018600001000002200000D8 s s' := by
  refine ⟨_, rfl, ?_⟩
  have h0 : Keeps 0x8000000000000000000000000038000000000000000000000000000000000000030000000009F018600001000002200000D8 s s := Keeps.refl _ _
  repeat' first | (with_reducible first | assumption | apply Keeps.step (State.budget_keeps ..) | apply Keeps.ite) | apply Eq.refl | intro c | fail | split | extract_lets

theorem execOverbudgetRelease_keeps (s : State) : 
    ∃ s', execOverbudgetRelease s = .next s' ∧ Keeps 0x20000000000000000008 s s' := by
  refine ⟨_, rfl, ?_⟩
  have h0 : Keeps 0x20000000000000000008 s s := Keeps.refl _ _
  repeat' first | (with_reducible first | assumption | apply Keeps.step (State.overRelease_keeps ..) | apply Keeps.ite) | apply Eq.refl | intro c | fail | split | extract_lets

theorem execPwrBudprioWrite_keeps (r : Requester) (v : Word) (s : State) : 
    ∃ s', execPwrBudprioWrite r v s = .next s' ∧ Keeps 0xE0100004000000100000008 s s' := by
  refine ⟨_, rfl, ?_⟩
  have h0 : Keeps 0xE0100004000000100000008 s s := Keeps.refl _ _
  repeat' first | (with_reducible first | assumption | apply State.guardW_keeps | apply Keeps.step (State.budprioW_keeps ..) | apply Keeps.ite) | apply Eq.refl | intro c | ((with_reducible apply Has.fam (GLB_STAT_PROTERR_cls ..)); exact Eq.refl true) | split | extract_lets

theorem execGlbCtrlSafe_keeps (r : Requester) (s : State) : 
    ∃ s', execGlbCtrlSafe r s = .next s' ∧ Keeps 0x40000E00000008000000700000000000004C04FE00000000000000000000807880B00C0300000000000000000003069C06003C3E276C8 s s' := by
  refine ⟨_, rfl, ?_⟩
  have h0 : Keeps 0x40000E00000008000000700000000000004C04FE00000000000000000000807880B00C0300000000000000000003069C06003C3E276C8 s s := Keeps.refl _ _
  repeat' first | (with_reducible first | assumption | apply State.guardW_keeps | apply Keeps.step (State.enterSafe_keeps ..) | apply Keeps.ite) | apply Eq.refl | intro c | ((with_reducible apply Has.fam (GLB_STAT_PROTERR_cls ..)); exact Eq.refl true) | split | extract_lets

theorem execFirmwareFault_keeps (s : State) : 
    ∃ s', execFirmwareFault s = .next s' ∧ Keeps 0x40000E00000008000000700000000000004C04FE00000000000000000000807880B00C0300000000000000000003029C06002C3E276C8 s s' := by
  refine ⟨_, rfl, ?_⟩
  have h0 : Keeps 0x40000E00000008000000700000000000004C04FE00000000000000000000807880B00C0300000000000000000003029C06002C3E276C8 s s := Keeps.refl _ _
  repeat' first | (with_reducible first | assumption | apply Keeps.step (State.fwFault_keeps ..) | apply Keeps.ite) | apply Eq.refl | intro c | fail | split | extract_lets

theorem execTmxBlindWrite_keeps (r : Requester) (v : Word) (s : State) : 
    ∃ s', execTmxBlindWrite r v s = .next s' ∧ Keeps 0x10000000000000000000000000000000000000000000000000000000000000000000000000000000000000000000000004000000100010008 s s' := by
  refine ⟨_, rfl, ?_⟩
  have h0 : Keeps 0x10000000000000000000000000000000000000000000000000000000000000000000000000000000000000000000000004000000100010008 s s := Keeps.refl _ _
  repeat' first | (with_reducible first | assumption | apply State.guardW_keeps | apply Keeps.step (State.blindW_keeps ..) | apply Keeps.ite) | apply Eq.refl | intro c | ((with_reducible apply Has.fam (GLB_STAT_PROTERR_cls ..)); exact Eq.refl true) | split | extract_lets

theorem execTmxTpctlWrite_keeps (r : Requester) (v : Word) (s : State) : 
    ∃ s', execTmxTpctlWrite r v s = .next s' ∧ Keeps 0x7FFFFFFFFFFFFFFFFFFFFFFFFFFFFFFFFFFFFFFFFFFFFFFFFFFFFFFFFFFFFFFFFFFFFFFFFFFFFFFFFFFFFFFFFFFFFFFFFFFFF7FFFFF006100C8 s s' := by
  refine ⟨_, rfl, ?_⟩
  have h0 : Keeps 0x7FFFFFFFFFFFFFFFFFFFFFFFFFFFFFFFFFFFFFFFFFFFFFFFFFFFFFFFFFFFFFFFFFFFFFFFFFFFFFFFFFFFFFFFFFFFFFFFFFFFF7FFFFF006100C8 s s := Keeps.refl _ _
  repeat' first | (with_reducible first | assumption | apply State.guardW_keeps | apply Keeps.step (State.tpctlW_keeps ..) | apply Keeps.ite) | apply Eq.refl | intro c | ((with_reducible apply Has.fam (GLB_STAT_PROTERR_cls ..)); exact Eq.refl true) | split | extract_lets

theorem execTmxTpdataWrite_keeps (r : Requester) (v : Word) (s : State) : 
    ∃ s', execTmxTpdataWrite r v s = .next s' ∧ Keeps 0x4200000000000000000000000000000000000000000000000000000000000000000000000000000000000000000000000004000000100010008 s s' := by
  refine ⟨_, rfl, ?_⟩
  have h0 : Keeps 0x4200000000000000000000000000000000000000000000000000000000000000000000000000000000000000000000000004000000100010008 s s := Keeps.refl _ _
  repeat' first | (with_reducible first | assumption | apply State.guardW_keeps | apply Keeps.step (State.tpdataW_keeps ..) | apply Keeps.ite) | apply Eq.refl | intro c | ((with_reducible apply Has.fam (GLB_STAT_PROTERR_cls ..)); exact Eq.refl true) | split | extract_lets

theorem execBscanenWrite_keeps (r : Requester) (v : Word) (s : State) : 
    ∃ s', execBscanenWrite r v s = .next s' ∧ Keeps 0x40040000E00000008000000700000000000004C04FE00000000000000000000807880B00C0300000000000000000003069C06003C3E376C8 s s' := by
  refine ⟨_, rfl, ?_⟩
  have h0 : Keeps 0x40040000E00000008000000700000000000004C04FE00000000000000000000807880B00C0300000000000000000003069C06003C3E376C8 s s := Keeps.refl _ _
  repeat' first | (with_reducible first | assumption | apply State.guardW_keeps | apply Keeps.step (State.bscanW_keeps ..) | apply Keeps.ite) | apply Eq.refl | intro c | ((with_reducible apply Has.fam (GLB_STAT_PROTERR_cls ..)); exact Eq.refl true) | split | extract_lets

theorem execJtagInstruction_keeps (i : JtagInstr) (s : State) : 
    ∃ s', execJtagInstruction i s = .next s' ∧ Keeps 0x10000 s s' := by
  refine ⟨_, rfl, ?_⟩
  have h0 : Keeps 0x10000 s s := Keeps.refl _ _
  repeat' first | (with_reducible first | assumption | apply Keeps.step (State.jtagS_keeps ..) | apply Keeps.ite) | apply Eq.refl | intro c | fail | split | extract_lets

theorem execDebugHalt_keeps (h : Nat) (_step : Bool) (s : State) : 
    ∃ s', execDebugHalt h _step s = .next s' ∧ Keeps 0x10000 s s' := by
  refine ⟨_, rfl, ?_⟩
  have h0 : Keeps 0x10000 s s := Keeps.refl _ _
  repeat' first | (with_reducible first | assumption | apply Keeps.step (State.debugHaltS_keeps ..) | apply Keeps.ite) | apply Eq.refl | intro c | fail | split | extract_lets

theorem execStgCtrlWrite_keeps (r : Requester) (v : Word) (s : State) : 
    ∃ s', execStgCtrlWrite r v s = .next s' ∧ Keeps 0x810078000000000000004000000100000408 s s' := by
  refine ⟨_, rfl, ?_⟩
  have h0 : Keeps 0x810078000000000000004000000100000408 s s := Keeps.refl _ _
  repeat' first | (with_reducible first | assumption | apply State.guardW_keeps | apply Keeps.step (State.stgCtrlW_keeps ..) | apply Keeps.ite) | apply Eq.refl | intro c | ((with_reducible apply Has.fam (GLB_STAT_PROTERR_cls ..)); exact Eq.refl true) | split | extract_lets

theorem execStgFrateWrite_keeps (r : Requester) (v : Word) (s : State) : 
    ∃ s', execStgFrateWrite r v s = .next s' ∧ Keeps 0x800180000000000000004000000100080408 s s' := by
  refine ⟨_, rfl, ?_⟩
  have h0 : Keeps 0x800180000000000000004000000100080408 s s := Keeps.refl _ _
  repeat' first | (with_reducible first | assumption | apply State.guardW_keeps | apply Keeps.step (State.stgFrateW_keeps ..) | apply Keeps.ite) | apply Eq.refl | intro c | ((with_reducible apply Has.fam (GLB_STAT_PROTERR_cls ..)); exact Eq.refl true) | split | extract_lets

theorem execStgBiasWrite_keeps (r : Requester) (v : Word) (s : State) : 
    ∃ s', execStgBiasWrite r v s = .next s' ∧ Keeps 0xA00000000000000004000000100000408 s s' := by
  refine ⟨_, rfl, ?_⟩
  have h0 : Keeps 0xA00000000000000004000000100000408 s s := Keeps.refl _ _
  repeat' first | (with_reducible first | assumption | apply State.guardW_keeps | apply Keeps.step (State.stgBiasW_keeps ..) | apply Keeps.ite) | apply Eq.refl | intro c | ((with_reducible apply Has.fam (GLB_STAT_PROTERR_cls ..)); exact Eq.refl true) | split | extract_lets

theorem execStgSetptWrite_keeps (r : Requester) (v : Word) (s : State) : 
    ∃ s', execStgSetptWrite r v s = .next s' ∧ Keeps 0x801000000000000000004000000100000008 s s' := by
  refine ⟨_, rfl, ?_⟩
  have h0 : Keeps 0x801000000000000000004000000100000008 s s := Keeps.refl _ _
  repeat' first | (with_reducible first | assumption | apply State.guardW_keeps | apply Keeps.step (State.stgSetptW_keeps ..) | apply Keeps.ite) | apply Eq.refl | intro c | ((with_reducible apply Has.fam (GLB_STAT_PROTERR_cls ..)); exact Eq.refl true) | split | extract_lets

theorem execTilGainWrite_keeps (r : Requester) (n : Nat) (v : Word) (s : State) : 
    ∃ s', execTilGainWrite r n v s = .next s' ∧ Keeps 0x4000004100000408 s s' := by
  refine ⟨_, rfl, ?_⟩
  have h0 : Keeps 0x4000004100000408 s s := Keeps.refl _ _
  repeat' first | (with_reducible first | assumption | apply State.guardTile_keeps | apply Keeps.step (State.tilGainW_keeps ..) | apply Keeps.ite) | apply Eq.refl | intro c | ((with_reducible apply Has.fam (GLB_STAT_PROTERR_cls ..)); exact Eq.refl true) | split | extract_lets

theorem execTilPtdataWrite_keeps (r : Requester) (n : Nat) (v : Word) (s : State) : 
    ∃ s', execTilPtdataWrite r n v s = .next s' ∧ Keeps 0x800000000000000000004000004100000408 s s' := by
  refine ⟨_, rfl, ?_⟩
  have h0 : Keeps 0x800000000000000000004000004100000408 s s := Keeps.refl _ _
  repeat' first | (with_reducible first | assumption | apply State.guardTile_keeps | apply Keeps.step (State.tilPtdataW_keeps ..) | apply Keeps.ite) | apply Eq.refl | intro c | ((with_reducible apply Has.fam (GLB_STAT_PROTERR_cls ..)); exact Eq.refl true) | split | extract_lets

theorem execTilSkimWrite_keeps (r : Requester) (n i : Nat) (v : Word) (s : State) : 
    ∃ s', execTilSkimWrite r n i v s = .next s' ∧ Keeps 0x7FFFFFFFFFFFFFFFFFFFFFFFFFFFFFFFFFFFFFFFFFFFFFFFFFFFFFFFFFFFFFFFFFFFFFFFFFFFFFFFFFFFFFFFFFFFFFFFFFFFF7FFFFF00000408 s s' := by
  refine ⟨_, rfl, ?_⟩
  have h0 : Keeps 0x7FFFFFFFFFFFFFFFFFFFFFFFFFFFFFFFFFFFFFFFFFFFFFFFFFFFFFFFFFFFFFFFFFFFFFFFFFFFFFFFFFFFFFFFFFFFFFFFFFFFF7FFFFF00000408 s s := Keeps.refl _ _
  repeat' first | (with_reducible first | assumption | apply State.guardTile_keeps | apply Keeps.step (State.tilSkimW_keeps ..) | apply Keeps.ite) | apply Eq.refl | intro c | ((with_reducible apply Has.fam (GLB_STAT_PROTERR_cls ..)); exact Eq.refl true) | split | extract_lets

theorem execStageSensorRead_keeps (rs : List (Option Nat)) (s : State) : 
    ∃ s', execStageSensorRead rs s = .next s' ∧ Keeps 0x40000E00000008000000700000000000004C04FE00000000000000000000807880B00C03135E0000000000000003029C06022C3E27ED8 s s' := by
  refine ⟨_, rfl, ?_⟩
  have h0 : Keeps 0x40000E00000008000000700000000000004C04FE00000000000000000000807880B00C03135E0000000000000003029C06022C3E27ED8 s s := Keeps.refl _ _
  repeat' first | (with_reducible first | assumption | apply Keeps.step (State.stageRead_keeps ..) | apply Keeps.ite) | apply Eq.refl | intro c | fail | split | extract_lets

theorem execTsExclude_keeps (i : Nat) (s : State) : 
    ∃ s', execTsExclude i s = .next s' ∧ Keeps 0x40000E00000008000000700000000000004C04FE00000000000000000000807880B00C03121C0000000000000003029C06022C3E27EC8 s s' := by
  refine ⟨_, rfl, ?_⟩
  have h0 : Keeps 0x40000E00000008000000700000000000004C04FE00000000000000000000807880B00C03121C0000000000000003029C06022C3E27EC8 s s := Keeps.refl _ _
  repeat' first | (with_reducible first | assumption | apply Keeps.step (State.tsExcludeS_keeps ..) | apply Keeps.ite) | apply Eq.refl | intro c | fail | split | extract_lets

theorem execTsReadmit_keeps (i : Nat) (s : State) : 
    ∃ s', execTsReadmit i s = .next s' ∧ Keeps 0x40000E00000008000000700000000000004C04FE00000000000000000000807880B00C03121C0000000000000003029C06022C3E27ECC s s' := by
  refine ⟨_, rfl, ?_⟩
  have h0 : Keeps 0x40000E00000008000000700000000000004C04FE00000000000000000000807880B00C03121C0000000000000003029C06022C3E27ECC s s := Keeps.refl _ _
  repeat' first | (with_reducible first | assumption | apply Keeps.step (State.tsReadmitS_keeps ..) | apply Keeps.ite) | apply Eq.refl | intro c | fail | split | extract_lets

theorem execStageLock_keeps (s : State) : 
    ∃ s', execStageLock s = .next s' ∧ Keeps 0x4000000000000000000000000000000000C s s' := by
  refine ⟨_, rfl, ?_⟩
  have h0 : Keeps 0x4000000000000000000000000000000000C s s := Keeps.refl _ _
  repeat' first | (with_reducible first | assumption | apply Keeps.step (State.stageLockS_keeps ..) | apply Keeps.ite) | apply Eq.refl | intro c | fail | split | extract_lets

theorem execStageUnreg_keeps (s : State) : 
    ∃ s', execStageUnreg s = .next s' ∧ Keeps 0x900000000000000000001000002000000C8 s s' := by
  refine ⟨_, rfl, ?_⟩
  have h0 : Keeps 0x900000000000000000001000002000000C8 s s := Keeps.refl _ _
  repeat' first | (with_reducible first | assumption | apply Keeps.step (State.stageUnregS_keeps ..) | apply Keeps.ite) | apply Eq.refl | intro c | fail | split | extract_lets

theorem execStageUnregClear_keeps (s : State) : 
    ∃ s', execStageUnregClear s = .next s' ∧ Keeps 0x90000000000000000000000000000000018 s s' := by
  refine ⟨_, rfl, ?_⟩
  have h0 : Keeps 0x90000000000000000000000000000000018 s s := Keeps.refl _ _
  repeat' first | (with_reducible first | assumption | apply Keeps.step (State.stageUnregClearS_keeps ..) | apply Keeps.ite) | apply Eq.refl | intro c | fail | split | extract_lets

theorem execThermalSample_keeps (tl tp : List Nat) (s : State) : 
    ∃ s', execThermalSample tl tp s = .next s' ∧ Keeps 0x40000E00080008000000700080000000004C04FE00000000000000000000807880B00C030030000027E7FD000000029C0600AE3E276C8 s s' := by
  refine ⟨_, rfl, ?_⟩
  have h0 : Keeps 0x40000E00080008000000700080000000004C04FE00000000000000000000807880B00C030030000027E7FD000000029C0600AE3E276C8 s s := Keeps.refl _ _
  repeat' first | (with_reducible first | assumption | apply State.thmChange_keeps | apply Keeps.step (State.thermal_keeps ..) | apply Keeps.ite) | apply Eq.refl | intro c | fail | split | extract_lets

theorem execThermalLevelEnter_keeps (d : Die) (l : Level) (s : State) : 
    ∃ s', execThermalLevelEnter d l s = .next s' ∧ Keeps 0x40000E00080008000000700080000000004C04FE00000000000000000000807880B00C03003000002067FD000000029C06002E3E276C8 s s' := by
  refine ⟨_, rfl, ?_⟩
  have h0 : Keeps 0x40000E00080008000000700080000000004C04FE00000000000000000000807880B00C03003000002067FD000000029C06002E3E276C8 s s := Keeps.refl _ _
  repeat' first | (with_reducible first | assumption | apply Keeps.step (State.levelEnter_keeps ..) | apply Keeps.ite) | apply Eq.refl | intro c | fail | split | extract_lets

theorem execThermalLevelLeave_keeps (d : Die) (l : Level) (s : State) : 
    ∃ s', execThermalLevelLeave d l s = .next s' ∧ Keeps 0x800000000000000000000000000000000000000000000000000000000000000003000000063FD000000001000002200000C8 s s' := by
  refine ⟨_, rfl, ?_⟩
  have h0 : Keeps 0x800000000000000000000000000000000000000000000000000000000000000003000000063FD000000001000002200000C8 s s := Keeps.refl _ _
  repeat' first | (with_reducible first | assumption | apply Keeps.step (State.levelLeave_keeps ..) | apply Keeps.ite) | apply Eq.refl | intro c | fail | split | extract_lets

theorem execThrottleStep2_keeps (d : Die) (s : State) : 
    ∃ s', execThrottleStep2 d s = .next s' ∧ Keeps 0x8000000000000000000000000000000000000000000000000000000000000000030000000009D000000001000002200000CC s s' := by
  refine ⟨_, rfl, ?_⟩
  have h0 : Keeps 0x8000000000000000000000000000000000000000000000000000000000000000030000000009D000000001000002200000CC s s := Keeps.refl _ _
  repeat' first | (with_reducible first | assumption | apply Keeps.step (State.step2_keeps ..) | apply Keeps.ite) | apply Eq.refl | intro c | fail | split | extract_lets

theorem execThermalSensorExclude_keeps (d : Die) (i : Nat) (s : State) : 
    ∃ s', execThermalSensorExclude d i s = .next s' ∧ Keeps 0x40000E00080008000000700080000000004C04FE00000000000000000000807880B00C0300300000206FFD000000029C0600AE3E276C8 s s' := by
  refine ⟨_, rfl, ?_⟩
  have h0 : Keeps 0x40000E00080008000000700080000000004C04FE00000000000000000000807880B00C0300300000206FFD000000029C0600AE3E276C8 s s := Keeps.refl _ _
  repeat' first | (with_reducible first | assumption | apply Keeps.step (State.thmExclude_keeps ..) | apply Keeps.ite) | apply Eq.refl | intro c | fail | split | extract_lets

theorem execThermalSensorReadmit_keeps (d : Die) (i : Nat) (s : State) : 
    ∃ s', execThermalSensorReadmit d i s = .next s' ∧ Keeps 0x40000E00080008000000700080000000004C04FE00000000000000000000807880B00C03003000002067FD000000029C0600AE3E276C8 s s' := by
  refine ⟨_, rfl, ?_⟩
  have h0 : Keeps 0x40000E00080008000000700080000000004C04FE00000000000000000000807880B00C03003000002067FD000000029C0600AE3E276C8 s s := Keeps.refl _ _
  repeat' first | (with_reducible first | assumption | apply Keeps.step (State.thmReadmit_keeps ..) | apply Keeps.ite) | apply Eq.refl | intro c | fail | split | extract_lets

theorem execDramTempRead_keeps (rate : Nat) (s : State) : 
    ∃ s', execDramTempRead rate s = .next s' ∧ Keeps 0x18000000000000000000000000008 s s' := by
  refine ⟨_, rfl, ?_⟩
  have h0 : Keeps 0x18000000000000000000000000008 s s := Keeps.refl _ _
  repeat' first | (with_reducible first | assumption | apply State.set_keeps | apply Keeps.ite) | apply Eq.refl | intro c | ((with_reducible apply Has.fam (THM_DRAM_RATE_cls ..)); exact Eq.refl true) | ((with_reducible apply Has.fam (THM_DRAM_VALID_cls ..)); exact Eq.refl true) | split | extract_lets

theorem execBightStart_keeps (errs : List MemErr) (s : State) : 
    ∃ s', execBightStart errs s = .next s' ∧ Keeps 0x7E003C900000000000000000000000000000000000000000000000000000000000001010002000000C8 s s' := by
  refine ⟨_, rfl, ?_⟩
  have h0 : Keeps 0x7E003C900000000000000000000000000000000000000000000000000000000000001010002000000C8 s s := Keeps.refl _ _
  repeat' first | (with_reducible first | assumption | apply Keeps.step (State.bightStartS_keeps ..) | apply Keeps.ite) | apply Eq.refl | intro c | fail | split | extract_lets

theorem execBightDone_keeps (fail : Option Nat) (s : State) : 
    ∃ s', execBightDone fail s = .next s' ∧ Keeps 0xFB0300000000000000000000000000000000000000000000000000000000000001000002000000C8 s s' := by
  refine ⟨_, rfl, ?_⟩
  have h0 : Keeps 0xFB0300000000000000000000000000000000000000000000000000000000000001000002000000C8 s s := Keeps.refl _ _
  repeat' first | (with_reducible first | assumption | apply Keeps.step (State.bightDoneS_keeps ..) | apply Keeps.ite) | apply Eq.refl | intro c | fail | split | extract_lets

theorem execBightRestoreDone_keeps (s : State) : 
    ∃ s', execBightRestoreDone s = .next s' ∧ Keeps 0x7010000000000000000000000000000000000000000000000000000000000000000000000000088 s s' := by
  refine ⟨_, rfl, ?_⟩
  have h0 : Keeps 0x7010000000000000000000000000000000000000000000000000000000000000000000000000088 s s := Keeps.refl _ _
  repeat' first | (with_reducible first | assumption | apply Keeps.step (State.restoreDone_keeps ..) | apply Keeps.ite) | apply Eq.refl | intro c | fail | split | extract_lets

theorem execBightSkip_keeps (s : State) : 
    ∃ s', execBightSkip s = .next s' ∧ Keeps 0x6000000000000000000000000000000000000000000000000000000000000000000000000000088 s s' := by
  refine ⟨_, rfl, ?_⟩
  have h0 : Keeps 0x6000000000000000000000000000000000000000000000000000000000000000000000000000088 s s := Keeps.refl _ _
  repeat' first | (with_reducible first | assumption | apply Keeps.step (State.bightSkipS_keeps ..) | apply Keeps.ite) | apply Eq.refl | intro c | fail | split | extract_lets

theorem execMemRetctlWrite_keeps (r : Requester) (v : Word) (s : State) : 
    ∃ s', execMemRetctlWrite r v s = .next s' ∧ Keeps 0x1F80000100000000000000000000000000000000000000000000000000000000000004000000100000088 s s' := by
  refine ⟨_, rfl, ?_⟩
  have h0 : Keeps 0x1F80000100000000000000000000000000000000000000000000000000000000000004000000100000088 s s := Keeps.refl _ _
  repeat' first | (with_reducible first | assumption | apply State.guardW_keeps | apply Keeps.step (State.retctlW_keeps ..) | apply Keeps.ite) | apply Eq.refl | intro c | ((with_reducible apply Has.fam (GLB_STAT_PROTERR_cls ..)); exact Eq.refl true) | split | extract_lets

theorem execLogPageCopy_keeps (s : State) : 
    ∃ s', execLogPageCopy s = .next s' ∧ Keeps 0x20000007E0000800000000000000000000000000000000000000000000000000000000000001010002080000C8 s s' := by
  refine ⟨_, rfl, ?_⟩
  have h0 : Keeps 0x20000007E0000800000000000000000000000000000000000000000000000000000000000001010002080000C8 s s := Keeps.refl _ _
  repeat' first | (with_reducible first | assumption | apply Keeps.step (State.logPage_keeps ..) | apply Keeps.ite) | apply Eq.refl | intro c | fail | split | extract_lets

theorem execRetentionWake_keeps (group : RetGroup) (s : State) : 
    ∃ s', execRetentionWake group s = .next s' ∧ Keeps 0x3F80000000000000000000000000000000000000000000000000000000000000000000880000000000088 s s' := by
  refine ⟨_, rfl, ?_⟩
  have h0 : Keeps 0x3F80000000000000000000000000000000000000000000000000000000000000000000880000000000088 s s := Keeps.refl _ _
  repeat' first | (with_reducible first | assumption | apply Keeps.step (State.wakeUp_keeps ..) | apply Keeps.ite) | apply Eq.refl | intro c | fail | split | extract_lets

theorem execGlbRunWrite_keeps (r : Requester) (run : Bool) (s : State) : 
    ∃ s', execGlbRunWrite r run s = .next s' ∧ Keeps 0xF800000000000000000000008C500000000000000000000000000000000000000000C9800003001000C8 s s' := by
  refine ⟨_, rfl, ?_⟩
  have h0 : Keeps 0xF800000000000000000000008C500000000000000000000000000000000000000000C9800003001000C8 s s := Keeps.refl _ _
  repeat' first | (with_reducible first | assumption | apply State.guardW_keeps | apply Keeps.step (State.runW_keeps ..) | apply Keeps.ite) | apply Eq.refl | intro c | ((with_reducible apply Has.fam (GLB_STAT_PROTERR_cls ..)); exact Eq.refl true) | split | extract_lets

theorem execSwrst_keeps (r : Requester) (key : Nat) (s : State) : 
    ∃ s', execSwrst r key s = .next s' ∧ Keeps 0x20000007E0000804C04F600000000000000000000000000000000000000000000000000000C1016003086200E8 s s' := by
  refine ⟨_, rfl, ?_⟩
  have h0 : Keeps 0x20000007E0000804C04F600000000000000000000000000000000000000000000000000000C1016003086200E8 s s := Keeps.refl _ _
  repeat' first | (with_reducible first | assumption | apply State.guardW_keeps | apply Keeps.step (State.swrstW_keeps ..) | apply Keeps.ite) | apply Eq.refl | intro c | ((with_reducible apply Has.fam (GLB_STAT_PROTERR_cls ..)); exact Eq.refl true) | split | extract_lets

theorem execThmRestart_keeps (r : Requester) (s : State) : 
    ∃ s', execThmRestart r s = .next s' ∧ Keeps 0x40000000000000000000000000080000000000000000000000000000000000000000000000001000180001000000001061800003200124C8 s s' := by
  refine ⟨_, rfl, ?_⟩
  have h0 : Keeps 0x40000000000000000000000000080000000000000000000000000000000000000000000000001000180001000000001061800003200124C8 s s := Keeps.refl _ _
  repeat' first | (with_reducible first | assumption | apply State.guardW_keeps | apply Keeps.step (State.restartReq_keeps ..) | apply Keeps.ite) | apply Eq.refl | intro c | ((with_reducible apply Has.fam (GLB_STAT_PROTERR_cls ..)); exact Eq.refl true) | split | extract_lets

theorem execAutoRestart_keeps (s : State) : 
    ∃ s', execAutoRestart s = .next s' ∧ Keeps 0x40000000000000000000000000080000000000000000000000000000000000000000000000001000180000000000001021800002200124C8 s s' := by
  refine ⟨_, rfl, ?_⟩
  have h0 : Keeps 0x40000000000000000000000000080000000000000000000000000000000000000000000000001000180000000000001021800002200124C8 s s := Keeps.refl _ _
  repeat' first | (with_reducible first | assumption | apply Keeps.step (State.autoReq_keeps ..) | apply Keeps.ite) | apply Eq.refl | intro c | fail | split | extract_lets

theorem execReadyEntry_keeps (s : State) : 
    ∃ s', execReadyEntry s = .next s' ∧ Keeps 0x4F8000000000000000000000000000000000000000000000000000000080000000000008 s s' := by
  refine ⟨_, rfl, ?_⟩
  have h0 : Keeps 0x4F8000000000000000000000000000000000000000000000000000000080000000000008 s s := Keeps.refl _ _
  repeat' first | (with_reducible first | assumption | apply Keeps.step (State.readyGo_keeps ..) | apply Keeps.ite) | apply Eq.refl | intro c | fail | split | extract_lets

theorem execHkaConversion_keeps (codes : List Int) (s : State) : 
    ∃ s', execHkaConversion codes s = .next s' ∧ Keeps 0x10010000000000000000000000000000000000000000000000000000000000000000000000000000073000000106000001000012200240D8 s s' := by
  refine ⟨_, rfl, ?_⟩
  have h0 : Keeps 0x10010000000000000000000000000000000000000000000000000000000000000000000000000000073000000106000001000012200240D8 s s := Keeps.refl _ _
  repeat' first | (with_reducible first | assumption | apply Keeps.step (State.hkaResult_keeps ..) | apply Keeps.ite) | apply Eq.refl | intro c | fail | split | extract_lets

theorem execRtdStale_keeps (s : State) : 
    ∃ s', execRtdStale s = .next s' ∧ Keeps 0x4000000000000000000000000000008 s s' := by
  refine ⟨_, rfl, ?_⟩
  have h0 : Keeps 0x4000000000000000000000000000008 s s := Keeps.refl _ _
  repeat' first | (with_reducible first | assumption | apply State.set_keeps | apply Keeps.ite) | apply Eq.refl | intro c | ((with_reducible apply Has.fam (HKA_RTDTEMP_VALID_cls ..)); exact Eq.refl true) | split | extract_lets

theorem execHkaScalStart_keeps (r : Requester) (s : State) : 
    ∃ s', execHkaScalStart r s = .next s' ∧ Keeps 0x40000000000004000000100000008 s s' := by
  refine ⟨_, rfl, ?_⟩
  have h0 : Keeps 0x40000000000004000000100000008 s s := Keeps.refl _ _
  repeat' first | (with_reducible first | assumption | apply State.guardW_keeps | apply Keeps.step (State.hkaScal_keeps ..) | apply Keeps.ite) | apply Eq.refl | intro c | ((with_reducible apply Has.fam (GLB_STAT_PROTERR_cls ..)); exact Eq.refl true) | split | extract_lets

theorem execHkaScalDone_keeps (gain ofs : Nat) (s : State) : 
    ∃ s', execHkaScalDone gain ofs s = .next s' ∧ Keeps 0x800000070000000000000000000000000000000000000000000000000000000000CC00000000000001400002E30002C8 s s' := by
  refine ⟨_, rfl, ?_⟩
  have h0 : Keeps 0x800000070000000000000000000000000000000000000000000000000000000000CC00000000000001400002E30002C8 s s := Keeps.refl _ _
  repeat' first | (with_reducible first | assumption | apply Keeps.step (State.hkaScalEnd_keeps ..) | apply Keeps.ite) | apply Eq.refl | intro c | fail | split | extract_lets

theorem execChainListenTimeout_keeps (s : State) : 
    ∃ s', execChainListenTimeout s = .next s' ∧ Keeps 0x800E4680000000000000000000000000000000000000000000000000000000000000000000000000000000000001000000000800008 s s' := by
  refine ⟨_, rfl, ?_⟩
  have h0 : Keeps 0x800E4680000000000000000000000000000000000000000000000000000000000000000000000000000000000001000000000800008 s s := Keeps.refl _ _
  repeat' first | (with_reducible first | assumption | apply Keeps.step (State.listenEnd_keeps ..) | apply Keeps.ite) | apply Eq.refl | intro c | fail | split | extract_lets

theorem execChnResync_keeps (r : Requester) (s : State) : 
    ∃ s', execChnResync r s = .next s' ∧ Keeps 0x10E248000000000000000000000000000000000000000000000000000000000B0000000000000000000000000051000003818020C8 s s' := by
  refine ⟨_, rfl, ?_⟩
  have h0 : Keeps 0x10E248000000000000000000000000000000000000000000000000000000000B0000000000000000000000000051000003818020C8 s s := Keeps.refl _ _
  repeat' first | (with_reducible first | assumption | apply State.guardW_keeps | apply Keeps.step (State.becomeOrphan_keeps ..) | apply Keeps.ite) | apply Eq.refl | intro c | ((with_reducible apply Has.fam (GLB_STAT_PROTERR_cls ..)); exact Eq.refl true) | split | extract_lets

theorem execChainPulseMissing_keeps (s : State) : 
    ∃ s', execChainPulseMissing s = .next s' ∧ Keeps 0x10E248000000000000000000000000000000000000000000000000000000000B0000000000000000000000000011000002818020C8 s s' := by
  refine ⟨_, rfl, ?_⟩
  have h0 : Keeps 0x10E248000000000000000000000000000000000000000000000000000000000B0000000000000000000000000011000002818020C8 s s := Keeps.refl _ _
  repeat' first | (with_reducible first | assumption | apply Keeps.step (State.becomeOrphan_keeps ..) | apply Keeps.step (State.setChain_keeps ..) | apply Keeps.ite) | apply Eq.refl | intro c | fail | split | extract_lets

theorem execChainLinkUp_keeps (p : ChainPort) (i : Option LinkInfo) (s : State) : 
    ∃ s', execChainLinkUp p i s = .next s' ∧ Keeps 0x19D000000000000000000000000000000000000000000000000000000000000000000000000000000000000101000002808000C8 s s' := by
  refine ⟨_, rfl, ?_⟩
  have h0 : Keeps 0x19D000000000000000000000000000000000000000000000000000000000000000000000000000000000000101000002808000C8 s s := Keeps.refl _ _
  repeat' first | (with_reducible first | assumption | apply Keeps.step (State.linkTrain_keeps ..) | apply Keeps.ite) | apply Eq.refl | intro c | fail | split | extract_lets

theorem execChainLinkDown_keeps (p : ChainPort) (s : State) : 
    ∃ s', execChainLinkDown p s = .next s' ∧ Keeps 0x10E3C8000000000000000000000000000000000000000000000000000000000B0000000000000000000000000011000002818020C8 s s' := by
  refine ⟨_, rfl, ?_⟩
  have h0 : Keeps 0x10E3C8000000000000000000000000000000000000000000000000000000000B0000000000000000000000000011000002818020C8 s s := Keeps.refl _ _
  repeat' first | (with_reducible first | assumption | apply Keeps.step (State.linkDown_keeps ..) | apply Keeps.ite) | apply Eq.refl | intro c | fail | split | extract_lets

theorem execTimeMessage_keeps (crc : Bool) (m : TimeMsg) (s : State) : 
    ∃ s', execTimeMessage crc m s = .next s' ∧ Keeps 0x90000600000000000000000000000000000000000000000000000000000000000000000000080000000000000000000000080880008 s s' := by
  refine ⟨_, rfl, ?_⟩
  have h0 : Keeps 0x90000600000000000000000000000000000000000000000000000000000000000000000000080000000000000000000000080880008 s s := Keeps.refl _ _
  repeat' first | (with_reducible first | assumption | apply State.chainMsg_keeps | apply Keeps.step (State.timeMsg_keeps ..) | apply Keeps.ite) | apply Eq.refl | intro c | fail | split | extract_lets

theorem execChainSyncPulse_keeps (p : ChainPort) (s : State) : 
    ∃ s', execChainSyncPulse p s = .next s' ∧ Keeps 0x1CE248000000000000000000000000000000000000000000000000000000000B0000000000000000000000000011000002818020CC s s' := by
  refine ⟨_, rfl, ?_⟩
  have h0 : Keeps 0x1CE248000000000000000000000000000000000000000000000000000000000B0000000000000000000000000011000002818020CC s s := Keeps.refl _ _
  repeat' first | (with_reducible first | assumption | apply Keeps.step (State.syncPulse_keeps ..) | apply Keeps.ite) | apply Eq.refl | intro c | fail | split | extract_lets

theorem execHitchSlewStep_keeps (s : State) : 
    ∃ s', execHitchSlewStep s = .next s' ∧ Keeps 0x200000000000000000000000000000000000000000000000000000000000000000000000000000000000000000000000080000C s s' := by
  refine ⟨_, rfl, ?_⟩
  have h0 : Keeps 0x200000000000000000000000000000000000000000000000000000000000000000000000000000000000000000000000080000C s s := Keeps.refl _ _
  repeat' first | (with_reducible first | assumption | apply Keeps.step (State.slewStep_keeps ..) | apply Keeps.ite) | apply Eq.refl | intro c | fail | split | extract_lets

theorem execEcho_keeps (crc : Bool) (p : ChainPort) (roundTrip : Nat) (s : State) : 
    ∃ s', execEcho crc p roundTrip s = .next s' ∧ Keeps 0x10300000000000000000000000000000000000000000000000000000000000000000000000000000000000000000000000000000008 s s' := by
  refine ⟨_, rfl, ?_⟩
  have h0 : Keeps 0x10300000000000000000000000000000000000000000000000000000000000000000000000000000000000000000000000000000008 s s := Keeps.refl _ _
  repeat' first | (with_reducible first | assumption | apply State.chainMsg_keeps | apply Keeps.step (State.echoBack_keeps ..) | apply Keeps.ite) | apply Eq.refl | intro c | fail | split | extract_lets

theorem execEchoPeriod_keeps (s : State) : 
    ∃ s', execEchoPeriod s = .next s' ∧ Keeps 0x80000000 s s' := by
  refine ⟨_, rfl, ?_⟩
  have h0 : Keeps 0x80000000 s s := Keeps.refl _ _
  repeat' first | (with_reducible first | assumption | apply Keeps.step (State.chainSend_keeps ..) | apply Keeps.ite) | apply Eq.refl | intro c | fail | split | extract_lets

theorem execTakemst_keeps (r : Requester) (s : State) : 
    ∃ s', execTakemst r s = .next s' ∧ Keeps 0x4000000180800008 s s' := by
  refine ⟨_, rfl, ?_⟩
  have h0 : Keeps 0x4000000180800008 s s := Keeps.refl _ _
  repeat' first | (with_reducible first | assumption | apply State.guardW_keeps | apply Keeps.step (State.askMaster_keeps ..) | apply Keeps.ite) | apply Eq.refl | intro c | ((with_reducible apply Has.fam (GLB_STAT_PROTERR_cls ..)); exact Eq.refl true) | split | extract_lets

theorem execHandover_keeps (crc : Bool) (sender : Nat) (give : Option Mastership) (s : State) : 
    ∃ s', execHandover crc sender give s = .next s' ∧ Keeps 0x100E0000640000000000000000000000000000000000000000000000000000000000000000000000000000000000000000080802008 s s' := by
  refine ⟨_, rfl, ?_⟩
  have h0 : Keeps 0x100E0000640000000000000000000000000000000000000000000000000000000000000000000000000000000000000000080802008 s s := Keeps.refl _ _
  repeat' first | (with_reducible first | assumption | apply State.chainMsg_keeps | apply Keeps.step (State.handoverMsg_keeps ..) | apply Keeps.ite) | apply Eq.refl | intro c | fail | split | extract_lets

theorem execGrantReq_keeps (crc : Bool) (sender stamp : Nat) (s : State) : 
    ∃ s', execGrantReq crc sender stamp s = .next s' ∧ Keeps 0x100E0000000000000000000000000000000000000000000000000000000000000000000000000000000000000000000000080802008 s s' := by
  refine ⟨_, rfl, ?_⟩
  have h0 : Keeps 0x100E0000000000000000000000000000000000000000000000000000000000000000000000000000000000000000000000080802008 s s := Keeps.refl _ _
  repeat' first | (with_reducible first | assumption | apply State.chainMsg_keeps | apply State.toMaster_keeps | apply Keeps.step (State.queueGrant_keeps ..) | apply Keeps.ite) | apply Eq.refl | intro c | fail | split | extract_lets

theorem execRelease_keeps (crc : Bool) (sender : Nat) (s : State) : 
    ∃ s', execRelease crc sender s = .next s' ∧ Keeps 0x100E0000000000000000000000000000000000000000000000000000000000000000000000000000000000000000000000080802008 s s' := by
  refine ⟨_, rfl, ?_⟩
  have h0 : Keeps 0x100E0000000000000000000000000000000000000000000000000000000000000000000000000000000000000000000000080802008 s s := Keeps.refl _ _
  repeat' first | (with_reducible first | assumption | apply State.chainMsg_keeps | apply State.toMaster_keeps | apply Keeps.step (State.endGrant_keeps ..) | apply Keeps.ite) | apply Eq.refl | intro c | fail | split | extract_lets

theorem execGrant_keeps (crc : Bool) (target boundary : Nat) (s : State) : 
    ∃ s', execGrant crc target boundary s = .next s' ∧ Keeps 0x10000000000000000000000000000000000000000000000000000000000000000000000000000000000000000000000000080002008 s s' := by
  refine ⟨_, rfl, ?_⟩
  have h0 : Keeps 0x10000000000000000000000000000000000000000000000000000000000000000000000000000000000000000000000000080002008 s s := Keeps.refl _ _
  repeat' first | (with_reducible first | assumption | apply State.chainMsg_keeps | apply Keeps.step (State.grantMsg_keeps ..) | apply Keeps.ite) | apply Eq.refl | intro c | fail | split | extract_lets

theorem execGrantMaxTimeout_keeps (s : State) : 
    ∃ s', execGrantMaxTimeout s = .next s' ∧ Keeps 0xE00000000000000000000000000000000000000000000000000000000000000000000000000000000000000001000002808020CC s s' := by
  refine ⟨_, rfl, ?_⟩
  have h0 : Keeps 0xE00000000000000000000000000000000000000000000000000000000000000000000000000000000000000001000002808020CC s s := Keeps.refl _ _
  repeat' first | (with_reducible first | assumption | apply Keeps.step (State.grantMax_keeps ..) | apply Keeps.ite) | apply Eq.refl | intro c | fail | split | extract_lets

theorem execRowGroupSlot_keeps (n : Nat) (raw : List Int) (s : State) : 
    ∃ s', execRowGroupSlot n raw s = .next s' ∧ Keeps 0x400000040C s s' := by
  refine ⟨_, rfl, ?_⟩
  have h0 : Keeps 0x400000040C s s := Keeps.refl _ _
  repeat' first | (with_reducible first | assumption | apply Keeps.step (State.rowSlot_keeps ..) | apply Keeps.ite) | apply Eq.refl | intro c | fail | split | extract_lets

theorem execSpareHandover_keeps (n i : Nat) (cSlice cSpare gain ofs : Int) (s : State) : 
    ∃ s', execSpareHandover n i cSlice cSpare gain ofs s = .next s' ∧ Keeps 0x1000042000004CC s s' := by
  refine ⟨_, rfl, ?_⟩
  have h0 : Keeps 0x1000042000004CC s s := Keeps.refl _ _
  repeat' first | (with_reducible first | assumption | apply Keeps.step (State.handover_keeps ..) | apply Keeps.ite) | apply Eq.refl | intro c | fail | split | extract_lets

theorem execTilRotenWrite_keeps (r : Requester) (n : Nat) (en : Bool) (s : State) : 
    ∃ s', execTilRotenWrite r n en s = .next s' ∧ Keeps 0x4000004100000408 s s' := by
  refine ⟨_, rfl, ?_⟩
  have h0 : Keeps 0x4000004100000408 s s := Keeps.refl _ _
  repeat' first | (with_reducible first | assumption | apply State.guardW_keeps | apply Keeps.step (State.rotenW_keeps ..) | apply Keeps.ite) | apply Eq.refl | intro c | ((with_reducible apply Has.fam (GLB_STAT_PROTERR_cls ..)); exact Eq.refl true) | split | extract_lets

theorem execTilPark_keeps (r : Requester) (n k i : Nat) (s : State) : 
    ∃ s', execTilPark r n k i s = .next s' ∧ Keeps 0x800000000000000000004000004100000408 s s' := by
  refine ⟨_, rfl, ?_⟩
  have h0 : Keeps 0x800000000000000000004000004100000408 s s := Keeps.refl _ _
  repeat' first | (with_reducible first | assumption | apply State.guardW_keeps | apply Keeps.step (State.parkS_keeps ..) | apply Keeps.ite) | apply Eq.refl | intro c | ((with_reducible apply Has.fam (GLB_STAT_PROTERR_cls ..)); exact Eq.refl true) | split | extract_lets

theorem execTilRelease_keeps (r : Requester) (n i : Nat) (s : State) : 
    ∃ s', execTilRelease r n i s = .next s' ∧ Keeps 0x4000004100000408 s s' := by
  refine ⟨_, rfl, ?_⟩
  have h0 : Keeps 0x4000004100000408 s s := Keeps.refl _ _
  repeat' first | (with_reducible first | assumption | apply State.guardW_keeps | apply Keeps.step (State.releaseS_keeps ..) | apply Keeps.ite) | apply Eq.refl | intro c | ((with_reducible apply Has.fam (GLB_STAT_PROTERR_cls ..)); exact Eq.refl true) | split | extract_lets

theorem execTilScal_keeps (r : Requester) (n : Nat) (s : State) : 
    ∃ s', execTilScal r n s = .next s' ∧ Keeps 0x800000000000000000004000004100000408 s s' := by
  refine ⟨_, rfl, ?_⟩
  have h0 : Keeps 0x800000000000000000004000004100000408 s s := Keeps.refl _ _
  repeat' first | (with_reducible first | assumption | apply State.guardW_keeps | apply Keeps.step (State.scalStart_keeps ..) | apply Keeps.ite) | apply Eq.refl | intro c | ((with_reducible apply Has.fam (GLB_STAT_PROTERR_cls ..)); exact Eq.refl true) | split | extract_lets

theorem execTilCfdataWrite_keeps (r : Requester) (n : Nat) (v : Word) (s : State) : 
    ∃ s', execTilCfdataWrite r n v s = .next s' ∧ Keeps 0x8C00400000000000000004000004100000408 s s' := by
  refine ⟨_, rfl, ?_⟩
  have h0 : Keeps 0x8C00400000000000000004000004100000408 s s := Keeps.refl _ _
  repeat' first | (with_reducible first | assumption | apply State.guardW_keeps | apply Keeps.step (State.cfdataW_keeps ..) | apply Keeps.ite) | apply Eq.refl | intro c | ((with_reducible apply Has.fam (GLB_STAT_PROTERR_cls ..)); exact Eq.refl true) | split | extract_lets

theorem execRowGroupReceive_keeps (n : Nat) (g : Option RowGroup) (ov : Bool) (s : State) : 
    ∃ s', execRowGroupReceive n g ov s = .next s' ∧ Keeps 0x3D000000000000000000000000000000000000000000000000000000000000000000000000000000000000000000000000001000042000104C8 s s' := by
  refine ⟨_, rfl, ?_⟩
  have h0 : Keeps 0x3D000000000000000000000000000000000000000000000000000000000000000000000000000000000000000000000000001000042000104C8 s s := Keeps.refl _ _
  repeat' first | (with_reducible first | assumption | apply Keeps.step (State.receive_keeps ..) | apply Keeps.ite) | apply Eq.refl | intro c | fail | split | extract_lets

theorem execTetherRealign_keeps (n : Nat) (s : State) : 
    ∃ s', execTetherRealign n s = .next s' ∧ Keeps 0x4000000408 s s' := by
  refine ⟨_, rfl, ?_⟩
  have h0 : Keeps 0x4000000408 s s := Keeps.refl _ _
  repeat' first | (with_reducible first | assumption | apply Keeps.step (State.tetherRealignS_keeps ..) | apply Keeps.ite) | apply Eq.refl | intro c | fail | split | extract_lets

theorem execTetherRealignTimeout_keeps (n : Nat) (s : State) : 
    ∃ s', execTetherRealignTimeout n s = .next s' ∧ Keeps 0x1000002000004C8 s s' := by
  refine ⟨_, rfl, ?_⟩
  have h0 : Keeps 0x1000002000004C8 s s := Keeps.refl _ _
  repeat' first | (with_reducible first | assumption | apply Keeps.step (State.realignTimeout_keeps ..) | apply Keeps.ite) | apply Eq.refl | intro c | fail | split | extract_lets

theorem execAlignBlock_keeps (n frame : Nat) (headerOk : Bool) (s : State) : 
    ∃ s', execAlignBlock n frame headerOk s = .next s' ∧ Keeps 0x100000000000000000000000000000000000000000000000000000000000000000000000000000000000000000000000000000004000010408 s s' := by
  refine ⟨_, rfl, ?_⟩
  have h0 : Keeps 0x100000000000000000000000000000000000000000000000000000000000000000000000000000000000000000000000000000004000010408 s s := Keeps.refl _ _
  repeat' first | (with_reducible first | assumption | apply Keeps.step (State.alignS_keeps ..) | apply Keeps.ite) | apply Eq.refl | intro c | fail | split | extract_lets

theorem execTetherBlockLockLoss_keeps (n : Nat) (s : State) : 
    ∃ s', execTetherBlockLockLoss n s = .next s' ∧ Keeps 0x1000042000004C8 s s' := by
  refine ⟨_, rfl, ?_⟩
  have h0 : Keeps 0x1000042000004C8 s s := Keeps.refl _ _
  repeat' first | (with_reducible first | assumption | apply Keeps.step (State.lockLoss_keeps ..) | apply Keeps.ite) | apply Eq.refl | intro c | fail | split | extract_lets

theorem execTilResync_keeps (r : Requester) (n : Nat) (s : State) : 
    ∃ s', execTilResync r n s = .next s' ∧ Keeps 0x41000043000004C8 s s' := by
  refine ⟨_, rfl, ?_⟩
  have h0 : Keeps 0x41000043000004C8 s s := Keeps.refl _ _
  repeat' first | (with_reducible first | assumption | apply State.guardW_keeps | apply Keeps.step (State.lockLoss_keeps ..) | apply Keeps.ite) | apply Eq.refl | intro c | ((with_reducible apply Has.fam (GLB_STAT_PROTERR_cls ..)); exact Eq.refl true) | split | extract_lets

theorem execControlLaneMessage_keeps (s : State) : 
    ∃ s', execControlLaneMessage s = .next s' ∧ Keeps 0x400 s s' := by
  refine ⟨_, rfl, ?_⟩
  have h0 : Keeps 0x400 s s := Keeps.refl _ _
  repeat' first | (with_reducible first | assumption | apply Keeps.step (State.laneMessage_keeps ..) | apply Keeps.ite) | apply Eq.refl | intro c | fail | split | extract_lets

theorem execControlLaneLoss_keeps (s : State) : 
    ∃ s', execControlLaneLoss s = .next s' ∧ Keeps 0x1000002000004C8 s s' := by
  refine ⟨_, rfl, ?_⟩
  have h0 : Keeps 0x1000002000004C8 s s := Keeps.refl _ _
  repeat' first | (with_reducible first | assumption | apply Keeps.step (State.laneLoss_keeps ..) | apply Keeps.ite) | apply Eq.refl | intro c | fail | split | extract_lets

theorem execControlLaneRelock_keeps (s : State) : 
    ∃ s', execControlLaneRelock s = .next s' ∧ Keeps 0x400 s s' := by
  refine ⟨_, rfl, ?_⟩
  have h0 : Keeps 0x400 s s := Keeps.refl _ _
  repeat' first | (with_reducible first | assumption | apply Keeps.step (State.laneRelock_keeps ..) | apply Keeps.ite) | apply Eq.refl | intro c | fail | split | extract_lets

theorem execTableMemoryReload_keeps (table : Nat) (good : Bool) (s : State) : 
    ∃ s', execTableMemoryReload table good s = .next s' ∧ Keeps 0x40000E00000008000000700000000000004C04FE00000800600004000000807880B00C0300000000000000000003029C06002E3EA76C8 s s' := by
  refine ⟨_, rfl, ?_⟩
  have h0 : Keeps 0x40000E00000008000000700000000000004C04FE00000800600004000000807880B00C0300000000000000000003029C06002E3EA76C8 s s := Keeps.refl _ _
  repeat' first | (with_reducible first | assumption | apply Keeps.step (State.reloadEnd_keeps ..) | apply Keeps.ite) | apply Eq.refl | intro c | fail | split | extract_lets

theorem execPowerOn_keeps (vio33 : Bool) (s : State) : 
    ∃ s', execPowerOn vio33 s = .next s' ∧ Keeps 0x20 s s' := by
  refine ⟨_, rfl, ?_⟩
  have h0 : Keeps 0x20 s s := Keeps.refl _ _
  repeat' first | (with_reducible first | assumption | apply Keeps.step (State.powerUp_keeps ..) | apply Keeps.ite) | apply Eq.refl | intro c | fail | split | extract_lets

theorem execRailGood_keeps (s : State) : 
    ∃ s', execRailGood s = .next s' ∧ Keeps 0x7FFFFFFFFFFFFFFFFFFFFFFFFFFFFFFFFFFFFFFFFFFFFFFFFFFFFFFFFFFFFFFFFFFFFFFFFFFFFFFFFFFFFFFFFFFFFFFFFFFFFFFFFFFFFFFFFFE s s' := by
  refine ⟨_, rfl, ?_⟩
  have h0 : Keeps 0x7FFFFFFFFFFFFFFFFFFFFFFFFFFFFFFFFFFFFFFFFFFFFFFFFFFFFFFFFFFFFFFFFFFFFFFFFFFFFFFFFFFFFFFFFFFFFFFFFFFFFFFFFFFFFFFFFFE s s := Keeps.refl _ _
  repeat' first | (with_reducible first | assumption | apply Keeps.step (State.railUp_keeps ..) | apply Keeps.ite) | apply Eq.refl | intro c | fail | split | extract_lets

theorem execRailFault_keeps (_rail : Nat) (s : State) : 
    ∃ s', execRailFault _rail s = .next s' ∧ Keeps 0x4C04F6000000000000000000000000000000000000000000000000000000000600000620028 s s' := by
  refine ⟨_, rfl, ?_⟩
  have h0 : Keeps 0x4C04F6000000000000000000000000000000000000000000000000000000000600000620028 s s := Keeps.refl _ _
  repeat' first | (with_reducible first | assumption | apply Keeps.step (State.railDown_keeps ..) | apply Keeps.ite) | apply Eq.refl | intro c | fail | split | extract_lets

theorem execVinPowerFail_keeps (s : State) : 
    ∃ s', execVinPowerFail s = .next s' ∧ Keeps 0x4C04F6000000000000000000000000000000000000000000000000000000000600000620028 s s' := by
  refine ⟨_, rfl, ?_⟩
  have h0 : Keeps 0x4C04F6000000000000000000000000000000000000000000000000000000000600000620028 s s := Keeps.refl _ _
  repeat' first | (with_reducible first | assumption | apply Keeps.step (State.resetStart_keeps ..) | apply Keeps.ite) | apply Eq.refl | intro c | fail | split | extract_lets

theorem execWatchdogExpiry_keeps (s : State) : 
    ∃ s', execWatchdogExpiry s = .next s' ∧ Keeps 0x4C04F6000000000000000000000000000000000000000000000000000000000600000620028 s s' := by
  refine ⟨_, rfl, ?_⟩
  have h0 : Keeps 0x4C04F6000000000000000000000000000000000000000000000000000000000600000620028 s s := Keeps.refl _ _
  repeat' first | (with_reducible first | assumption | apply Keeps.step (State.resetNow_keeps ..) | apply Keeps.ite) | apply Eq.refl | intro c | fail | split | extract_lets

theorem execDebugReset_keeps (s : State) : 
    ∃ s', execDebugReset s = .next s' ∧ Keeps 0x4C04F6000000000000000000000000000000000000000000000000000000000600000620028 s s' := by
  refine ⟨_, rfl, ?_⟩
  have h0 : Keeps 0x4C04F6000000000000000000000000000000000000000000000000000000000600000620028 s s := Keeps.refl _ _
  repeat' first | (with_reducible first | assumption | apply Keeps.step (State.resetNow_keeps ..) | apply Keeps.ite) | apply Eq.refl | intro c | ((with_reducible apply Has.fam (TMX_CTRL_DBGEN_cls ..)); exact Eq.refl true) | split | extract_lets

theorem execCauseLatchLoss_keeps (s : State) : 
    ∃ s', execCauseLatchLoss s = .next s' ∧ Keeps 0x20 s s' := by
  refine ⟨_, rfl, ?_⟩
  have h0 : Keeps 0x20 s s := Keeps.refl _ _
  repeat' first | (with_reducible first | assumption | apply Keeps.ite) | apply Eq.refl | intro c | fail | split | extract_lets | with_reducible first | apply Keeps.put_power

theorem execResetRelease_keeps (s : State) : 
    ∃ s', execResetRelease s = .next s' ∧ Keeps 0x7FFFFFFFFFFFFFFFFFFFFFFFFFFFFFFFFFFFFFFFFFFFFFFFFFFFFFFFFFFFFFFFFFFFFFFFFFFFFFFFFFFFFFFFFFFFFFFFFFFFFFFFFFFFFFFFFFE s s' := by
  refine ⟨_, rfl, ?_⟩
  have h0 : Keeps 0x7FFFFFFFFFFFFFFFFFFFFFFFFFFFFFFFFFFFFFFFFFFFFFFFFFFFFFFFFFFFFFFFFFFFFFFFFFFFFFFFFFFFFFFFFFFFFFFFFFFFFFFFFFFFFFFFFFE s s := Keeps.refl _ _
  repeat' first | (with_reducible first | assumption | apply Keeps.step (State.release_keeps ..) | apply Keeps.ite) | apply Eq.refl | intro c | fail | split | extract_lets

theorem execConfigLoadDone_keeps (s : State) : 
    ∃ s', execConfigLoadDone s = .next s' ∧ Keeps 0x7FFFFFFFFFFFFFFFFFFFFFFFFFFFFFFFFFFFFFFFFFFFFFFFFFFFFFFFFFFFFFFFFFFFFFFFFFFFFFFFFFFFFFFFFFFFFFFFFFFFFFFFFFFEFEE76C8 s s' := by
  refine ⟨_, rfl, ?_⟩
  have h0 : Keeps 0x7FFFFFFFFFFFFFFFFFFFFFFFFFFFFFFFFFFFFFFFFFFFFFFFFFFFFFFFFFFFFFFFFFFFFFFFFFFFFFFFFFFFFFFFFFFFFFFFFFFFFFFFFFFEFEE76C8 s s := Keeps.refl _ _
  repeat' first | (with_reducible first | assumption | apply Keeps.step (State.loaded_keeps ..) | apply Keeps.ite) | apply Eq.refl | intro c | fail | split | extract_lets

theorem execHartenWrite_keeps (r : Requester) (harten : Nat) (s : State) : 
    ∃ s', execHartenWrite r harten s = .next s' ∧ Keeps 0xC4000000100000008 s s' := by
  refine ⟨_, rfl, ?_⟩
  have h0 : Keeps 0xC4000000100000008 s s := Keeps.refl _ _
  repeat' first | (with_reducible first | assumption | apply State.guardW_keeps | apply Keeps.step (State.hartenW_keeps ..) | apply Keeps.ite) | apply Eq.refl | intro c | ((with_reducible apply Has.fam (GLB_STAT_PROTERR_cls ..)); exact Eq.refl true) | split | extract_lets

theorem execHartOffline_keeps (h : Nat) (s : State) : 
    ∃ s', execHartOffline h s = .next s' ∧ Keeps 0x801000002000100C8 s s' := by
  refine ⟨_, rfl, ?_⟩
  have h0 : Keeps 0x801000002000100C8 s s := Keeps.refl _ _
  repeat' first | (with_reducible first | assumption | apply Keeps.step (State.hartOff_keeps ..) | apply Keeps.ite) | apply Eq.refl | intro c | fail | split | extract_lets

theorem execAppweWrite_keeps (r : Requester) (v : Word) (s : State) : 
    ∃ s', execAppweWrite r v s = .next s' ∧ Keeps 0x7FFFFFFFFFFFFFFFFFFFFFFFFFFFFFFFFFFFFFFFFFFFFFFFFFFFFFFFFFFFFFFFFFFFFFFFFFFFFFFFFFFFFFFFFFFFFFFFFFFFF7FFFFF00000008 s s' := by
  refine ⟨_, rfl, ?_⟩
  have h0 : Keeps 0x7FFFFFFFFFFFFFFFFFFFFFFFFFFFFFFFFFFFFFFFFFFFFFFFFFFFFFFFFFFFFFFFFFFFFFFFFFFFFFFFFFFFFFFFFFFFFFFFFFFFF7FFFFF00000008 s s := Keeps.refl _ _
  repeat' first | (with_reducible first | assumption | apply State.guardW_keeps | apply Keeps.step (State.writeFlds_keeps ..) | apply Keeps.ite) | apply Eq.refl | intro c | ((with_reducible apply Has.fam (GLB_STAT_PROTERR_cls ..)); exact Eq.refl true) | split | extract_lets

theorem execRegisterWrite_keeps (r : Requester) (addr : Nat) (size : StoreSize) (v : Word) (also : Option (Requester × Word)) (hwSet : Word) (s : State) : 
    ∃ s', execRegisterWrite r addr size v also hwSet s = .next s' ∧ Keeps 0x7FFFFFFFFFFFFFFFFFFFFFFFFFFFFFFFFFFFFFFFFFFFFFFFFFFFFFFFFFFFFFFFFFFFFFFFFFFFFFFFFFFFFFFFFFFFFFFFFFFFFFFFFFFEFFF77FA s s' := by
  refine ⟨_, rfl, ?_⟩
  have h0 : Keeps 0x7FFFFFFFFFFFFFFFFFFFFFFFFFFFFFFFFFFFFFFFFFFFFFFFFFFFFFFFFFFFFFFFFFFFFFFFFFFFFFFFFFFFFFFFFFFFFFFFFFFFFFFFFFFEFFF77FA s s := Keeps.refl _ _
  repeat' first | (with_reducible first | assumption | apply Keeps.step (State.writeAt_keeps ..) | apply Keeps.ite) | apply Eq.refl | intro c | fail | split | extract_lets

theorem execLoWordRead_keeps (r : Requester) (addr : Nat) (wide : Bool) (also : Option (Requester × Word)) (s : State) : 
    ∃ s', execLoWordRead r addr wide also s = .next s' ∧ Keeps 0x7FFFFFFFFFFFFFFFFFFFFFFFFFFFFFFFFFFFFFFFFFFFFFFFFFFFFFFFFFFFFFFFFFFFFFFFFFFFFFFFFFFFFFFFFFFFFFFFFFFFFFFFFFFEFFF77FA s s' := by
  refine ⟨_, rfl, ?_⟩
  have h0 : Keeps 0x7FFFFFFFFFFFFFFFFFFFFFFFFFFFFFFFFFFFFFFFFFFFFFFFFFFFFFFFFFFFFFFFFFFFFFFFFFFFFFFFFFFFFFFFFFFFFFFFFFFFFFFFFFFEFFF77FA s s := Keeps.refl _ _
  repeat' first | (with_reducible first | assumption | apply Keeps.step (State.readWide_keeps ..) | apply Keeps.ite) | apply Eq.refl | intro c | fail | split | extract_lets

theorem execTableDataRead_keeps (r : Requester) (s : State) : 
    ∃ s', execTableDataRead r s = .next s' ∧ Keeps 0x400000000000000000000038E0000C007E0002804C04F60000000000000000000040000000000000000000000000000008001016042886201FA s s' := by
  refine ⟨_, rfl, ?_⟩
  have h0 : Keeps 0x400000000000000000000038E0000C007E0002804C04F60000000000000000000040000000000000000000000000000008001016042886201FA s s := Keeps.refl _ _
  repeat' first | (with_reducible first | assumption | apply Keeps.step (State.load_keeps ..) | apply Keeps.ite) | apply Eq.refl | intro c | fail | split | extract_lets

theorem execTableDataWrite_keeps (r : Requester) (v : Word) (also : Option (Requester × Word)) (s : State) : 
    ∃ s', execTableDataWrite r v also s = .next s' ∧ Keeps 0x7FFFFFFFFFFFFFFFFFFFFFFFFFFFFFFFFFFFFFFFFFFFFFFFFFFFFFFFFFFFFFFFFFFFFFFFFFFFFFFFFFFFFFFFFFFFFFFFFFFFFFFFFFFEFFF77F8 s s' := by
  refine ⟨_, rfl, ?_⟩
  have h0 : Keeps 0x7FFFFFFFFFFFFFFFFFFFFFFFFFFFFFFFFFFFFFFFFFFFFFFFFFFFFFFFFFFFFFFFFFFFFFFFFFFFFFFFFFFFFFFFFFFFFFFFFFFFFFFFFFFEFFF77F8 s s := Keeps.refl _ _
  repeat' first | (with_reducible first | assumption | apply Keeps.step (State.writePair_keeps ..) | apply Keeps.ite) | apply Eq.refl | intro c | fail | split | extract_lets

theorem execCounterClear_keeps (r : Requester) (addr : Nat) (s : State) : 
    ∃ s', execCounterClear r addr s = .next s' ∧ Keeps 0x7FFFFFFFFFFFFFFFFFFFFFFFFFFFFFFFFFFFFFFFFFFFFFFFFFFFFFFFFFFFFFFFFFFFFFFFFFFFFFFFFFFFFFFFFFFFFFFFFFFFF7FFFFF00000008 s s' := by
  refine ⟨_, rfl, ?_⟩
  have h0 : Keeps 0x7FFFFFFFFFFFFFFFFFFFFFFFFFFFFFFFFFFFFFFFFFFFFFFFFFFFFFFFFFFFFFFFFFFFFFFFFFFFFFFFFFFFFFFFFFFFFFFFFFFFF7FFFFF00000008 s s := Keeps.refl _ _
  repeat' first | (with_reducible first | assumption | apply State.guardW_keeps | apply Keeps.step (State.clearReg_keeps ..) | apply Keeps.ite) | apply Eq.refl | intro c | ((with_reducible apply Has.fam (GLB_STAT_PROTERR_cls ..)); exact Eq.refl true) | split | extract_lets

theorem execMbxSend_keeps (r : Requester) (c : Nat) (d : MbxDir) (s : State) : 
    ∃ s', execMbxSend r c d s = .next s' ∧ Keeps 0x4040000080000208 s s' := by
  refine ⟨_, rfl, ?_⟩
  have h0 : Keeps 0x4040000080000208 s s := Keeps.refl _ _
  repeat' first | (with_reducible first | assumption | apply Keeps.step (State.mbxSendBy_keeps ..) | apply Keeps.ite) | apply Eq.refl | intro c | fail | split | extract_lets

theorem execEvtForce_keeps (r : Requester) (g : Nat) (v : Word) (s : State) : 
    ∃ s', execEvtForce r g v s = .next s' ∧ Keeps 0x41000003000000C8 s s' := by
  refine ⟨_, rfl, ?_⟩
  have h0 : Keeps 0x41000003000000C8 s s := Keeps.refl _ _
  repeat' first | (with_reducible first | assumption | apply State.guardW_keeps | apply Keeps.step (State.forceW_keeps ..) | apply Keeps.ite) | apply Eq.refl | intro c | ((with_reducible apply Has.fam (GLB_STAT_PROTERR_cls ..)); exact Eq.refl true) | split | extract_lets

theorem execEvtCntclr_keeps (r : Requester) (s : State) : 
    ∃ s', execEvtCntclr r s = .next s' ∧ Keeps 0x4000000300000008 s s' := by
  refine ⟨_, rfl, ?_⟩
  have h0 : Keeps 0x4000000300000008 s s := Keeps.refl _ _
  repeat' first | (with_reducible first | assumption | apply State.guardW_keeps | apply Keeps.step (State.cntClear_keeps ..) | apply Keeps.ite) | apply Eq.refl | intro c | ((with_reducible apply Has.fam (GLB_STAT_PROTERR_cls ..)); exact Eq.refl true) | split | extract_lets

theorem execEvtClrall_keeps (r : Requester) (same : List Nat) (s : State) : 
    ∃ s', execEvtClrall r same s = .next s' ∧ Keeps 0x4000000300000008 s s' := by
  refine ⟨_, rfl, ?_⟩
  have h0 : Keeps 0x4000000300000008 s s := Keeps.refl _ _
  repeat' first | (with_reducible first | assumption | apply State.guardW_keeps | apply Keeps.step (State.statClear_keeps ..) | apply Keeps.ite) | apply Eq.refl | intro c | ((with_reducible apply Has.fam (GLB_STAT_PROTERR_cls ..)); exact Eq.refl true) | split | extract_lets

theorem execEvtPinPulseEnd_keeps (i : Nat) (s : State) : 
    ∃ s', execEvtPinPulseEnd i s = .next s' ∧ Keeps 0x44 s s' := by
  refine ⟨_, rfl, ?_⟩
  have h0 : Keeps 0x44 s s := Keeps.refl _ _
  repeat' first | (with_reducible first | assumption | apply Keeps.step (State.idle_keeps ..) | apply Keeps.step (State.pulseEnd_keeps ..) | apply Keeps.ite) | apply Eq.refl | intro c | fail | split | extract_lets

theorem execRegRead_keeps (h : Hdr) (addr count : Nat) (s : State) : 
    ∃ s', execRegRead h addr count s = .next s' ∧ Keeps 0x7FFFFFFFFFFFFFFFFFFFFFFFFFFFFFFFFFFFFFFFFFFFFFFFFFFFFFFFFFFFFFFFFFFFFFFFFFFFFFFFFFFFFFFFFFFFFFFFFFFFFFFFFFFFFFF77F8 s s' := by
  refine ⟨_, rfl, ?_⟩
  have h0 : Keeps 0x7FFFFFFFFFFFFFFFFFFFFFFFFFFFFFFFFFFFFFFFFFFFFFFFFFFFFFFFFFFFFFFFFFFFFFFFFFFFFFFFFFFFFFFFFFFFFFFFFFFFFFFFFFFFFFF77F8 s s := Keeps.refl _ _
  repeat' first | (with_reducible first | assumption | apply Keeps.step (State.fromRow_keeps ..) | apply Keeps.ite) | apply Eq.refl | intro c | fail | split | extract_lets

theorem execRegWrite_keeps (h : Hdr) (addr : Nat) (words : List Word) (s : State) : 
    ∃ s', execRegWrite h addr words s = .next s' ∧ Keeps 0x7FFFFFFFFFFFFFFFFFFFFFFFFFFFFFFFFFFFFFFFFFFFFFFFFFFFFFFFFFFFFFFFFFFFFFFFFFFFFFFFFFFFFFFFFFFFFFFFFFFFFFFFFFFFFFF77F8 s s' := by
  refine ⟨_, rfl, ?_⟩
  have h0 : Keeps 0x7FFFFFFFFFFFFFFFFFFFFFFFFFFFFFFFFFFFFFFFFFFFFFFFFFFFFFFFFFFFFFFFFFFFFFFFFFFFFFFFFFFFFFFFFFFFFFFFFFFFFFFFFFFFFFF77F8 s s := Keeps.refl _ _
  repeat' first | (with_reducible first | assumption | apply Keeps.step (State.fromRow_keeps ..) | apply Keeps.ite) | apply Eq.refl | intro c | fail | split | extract_lets

theorem execRegModify_keeps (h : Hdr) (addr : Nat) (mask value : Word) (s : State) : 
    ∃ s', execRegModify h addr mask value s = .next s' ∧ Keeps 0x7FFFFFFFFFFFFFFFFFFFFFFFFFFFFFFFFFFFFFFFFFFFFFFFFFFFFFFFFFFFFFFFFFFFFFFFFFFFFFFFFFFFFFFFFFFFFFFFFFFFFFFFFFFFFFF77F8 s s' := by
  refine ⟨_, rfl, ?_⟩
  have h0 : Keeps 0x7FFFFFFFFFFFFFFFFFFFFFFFFFFFFFFFFFFFFFFFFFFFFFFFFFFFFFFFFFFFFFFFFFFFFFFFFFFFFFFFFFFFFFFFFFFFFFFFFFFFFFFFFFFFFFF77F8 s s := Keeps.refl _ _
  repeat' first | (with_reducible first | assumption | apply Keeps.step (State.fromRow_keeps ..) | apply Keeps.ite) | apply Eq.refl | intro c | fail | split | extract_lets

theorem execStart_keeps (h : Hdr) (s : State) : 
    ∃ s', execStart h s = .next s' ∧ Keeps 0x7FFFFFFFFFFFFFFFFFFFFFFFFFFFFFFFFFFFFFFFFFFFFFFFFFFFFFFFFFFFFFFFFFFFFFFFFFFFFFFFFFFFFFFFFFFFFFFFFFFFFFFFFFFFFFF77F8 s s' := by
  refine ⟨_, rfl, ?_⟩
  have h0 : Keeps 0x7FFFFFFFFFFFFFFFFFFFFFFFFFFFFFFFFFFFFFFFFFFFFFFFFFFFFFFFFFFFFFFFFFFFFFFFFFFFFFFFFFFFFFFFFFFFFFFFFFFFFFFFFFFFFFF77F8 s s := Keeps.refl _ _
  repeat' first | (with_reducible first | assumption | apply Keeps.step (State.fromRow_keeps ..) | apply Keeps.ite) | apply Eq.refl | intro c | fail | split | extract_lets

theorem execStop_keeps (h : Hdr) (s : State) : 
    ∃ s', execStop h s = .next s' ∧ Keeps 0x7FFFFFFFFFFFFFFFFFFFFFFFFFFFFFFFFFFFFFFFFFFFFFFFFFFFFFFFFFFFFFFFFFFFFFFFFFFFFFFFFFFFFFFFFFFFFFFFFFFFFFFFFFFFFFF77F8 s s' := by
  refine ⟨_, rfl, ?_⟩
  have h0 : Keeps 0x7FFFFFFFFFFFFFFFFFFFFFFFFFFFFFFFFFFFFFFFFFFFFFFFFFFFFFFFFFFFFFFFFFFFFFFFFFFFFFFFFFFFFFFFFFFFFFFFFFFFFFFFFFFFFFF77F8 s s := Keeps.refl _ _
  repeat' first | (with_reducible first | assumption | apply Keeps.step (State.fromRow_keeps ..) | apply Keeps.ite) | apply Eq.refl | intro c | fail | split | extract_lets

theorem execSafe_keeps (h : Hdr) (s : State) : 
    ∃ s', execSafe h s = .next s' ∧ Keeps 0x7FFFFFFFFFFFFFFFFFFFFFFFFFFFFFFFFFFFFFFFFFFFFFFFFFFFFFFFFFFFFFFFFFFFFFFFFFFFFFFFFFFFFFFFFFFFFFFFFFFFFFFFFFFFFFF77F8 s s' := by
  refine ⟨_, rfl, ?_⟩
  have h0 : Keeps 0x7FFFFFFFFFFFFFFFFFFFFFFFFFFFFFFFFFFFFFFFFFFFFFFFFFFFFFFFFFFFFFFFFFFFFFFFFFFFFFFFFFFFFFFFFFFFFFFFFFFFFFFFFFFFFFF77F8 s s := Keeps.refl _ _
  repeat' first | (with_reducible first | assumption | apply Keeps.step (State.fromRow_keeps ..) | apply Keeps.ite) | apply Eq.refl | intro c | fail | split | extract_lets

theorem execRestart_keeps (h : Hdr) (s : State) : 
    ∃ s', execRestart h s = .next s' ∧ Keeps 0x7FFFFFFFFFFFFFFFFFFFFFFFFFFFFFFFFFFFFFFFFFFFFFFFFFFFFFFFFFFFFFFFFFFFFFFFFFFFFFFFFFFFFFFFFFFFFFFFFFFFFFFFFFFFFFF77F8 s s' := by
  refine ⟨_, rfl, ?_⟩
  have h0 : Keeps 0x7FFFFFFFFFFFFFFFFFFFFFFFFFFFFFFFFFFFFFFFFFFFFFFFFFFFFFFFFFFFFFFFFFFFFFFFFFFFFFFFFFFFFFFFFFFFFFFFFFFFFFFFFFFFFFF77F8 s s := Keeps.refl _ _
  repeat' first | (with_reducible first | assumption | apply Keeps.step (State.fromRow_keeps ..) | apply Keeps.ite) | apply Eq.refl | intro c | fail | split | extract_lets

theorem execReset_keeps (h : Hdr) (key : Nat) (s : State) : 
    ∃ s', execReset h key s = .next s' ∧ Keeps 0x7FFFFFFFFFFFFFFFFFFFFFFFFFFFFFFFFFFFFFFFFFFFFFFFFFFFFFFFFFFFFFFFFFFFFFFFFFFFFFFFFFFFFFFFFFFFFFFFFFFFFFFFFFFFFFF77F8 s s' := by
  refine ⟨_, rfl, ?_⟩
  have h0 : Keeps 0x7FFFFFFFFFFFFFFFFFFFFFFFFFFFFFFFFFFFFFFFFFFFFFFFFFFFFFFFFFFFFFFFFFFFFFFFFFFFFFFFFFFFFFFFFFFFFFFFFFFFFFFFFFFFFFF77F8 s s := Keeps.refl _ _
  repeat' first | (with_reducible first | assumption | apply Keeps.step (State.fromRow_keeps ..) | apply Keeps.ite) | apply Eq.refl | intro c | fail | split | extract_lets

theorem execStatus_keeps (h : Hdr) (s : State) : 
    ∃ s', execStatus h s = .next s' ∧ Keeps 0x7FFFFFFFFFFFFFFFFFFFFFFFFFFFFFFFFFFFFFFFFFFFFFFFFFFFFFFFFFFFFFFFFFFFFFFFFFFFFFFFFFFFFFFFFFFFFFFFFFFFFFFFFFFFFFF77F8 s s' := by
  refine ⟨_, rfl, ?_⟩
  have h0 : Keeps 0x7FFFFFFFFFFFFFFFFFFFFFFFFFFFFFFFFFFFFFFFFFFFFFFFFFFFFFFFFFFFFFFFFFFFFFFFFFFFFFFFFFFFFFFFFFFFFFFFFFFFFFFFFFFFFFF77F8 s s := Keeps.refl _ _
  repeat' first | (with_reducible first | assumption | apply Keeps.step (State.fromRow_keeps ..) | apply Keeps.ite) | apply Eq.refl | intro c | fail | split | extract_lets

theorem execOpQuery_keeps (h : Hdr) (s : State) : 
    ∃ s', execOpQuery h s = .next s' ∧ Keeps 0x7FFFFFFFFFFFFFFFFFFFFFFFFFFFFFFFFFFFFFFFFFFFFFFFFFFFFFFFFFFFFFFFFFFFFFFFFFFFFFFFFFFFFFFFFFFFFFFFFFFFFFFFFFFFFFF77F8 s s' := by
  refine ⟨_, rfl, ?_⟩
  have h0 : Keeps 0x7FFFFFFFFFFFFFFFFFFFFFFFFFFFFFFFFFFFFFFFFFFFFFFFFFFFFFFFFFFFFFFFFFFFFFFFFFFFFFFFFFFFFFFFFFFFFFFFFFFFFFFFFFFFFFF77F8 s s := Keeps.refl _ _
  repeat' first | (with_reducible first | assumption | apply Keeps.step (State.fromRow_keeps ..) | apply Keeps.ite) | apply Eq.refl | intro c | fail | split | extract_lets

theorem execIdentify_keeps (h : Hdr) (s : State) : 
    ∃ s', execIdentify h s = .next s' ∧ Keeps 0x7FFFFFFFFFFFFFFFFFFFFFFFFFFFFFFFFFFFFFFFFFFFFFFFFFFFFFFFFFFFFFFFFFFFFFFFFFFFFFFFFFFFFFFFFFFFFFFFFFFFFFFFFFFFFFF77F8 s s' := by
  refine ⟨_, rfl, ?_⟩
  have h0 : Keeps 0x7FFFFFFFFFFFFFFFFFFFFFFFFFFFFFFFFFFFFFFFFFFFFFFFFFFFFFFFFFFFFFFFFFFFFFFFFFFFFFFFFFFFFFFFFFFFFFFFFFFFFFFFFFFFFFF77F8 s s := Keeps.refl _ _
  repeat' first | (with_reducible first | assumption | apply Keeps.step (State.fromRow_keeps ..) | apply Keeps.ite) | apply Eq.refl | intro c | fail | split | extract_lets

theorem execCalRun_keeps (h : Hdr) (s : State) : 
    ∃ s', execCalRun h s = .next s' ∧ Keeps 0x7FFFFFFFFFFFFFFFFFFFFFFFFFFFFFFFFFFFFFFFFFFFFFFFFFFFFFFFFFFFFFFFFFFFFFFFFFFFFFFFFFFFFFFFFFFFFFFFFFFFFFFFFFFFFFF77F8 s s' := by
  refine ⟨_, rfl, ?_⟩
  have h0 : Keeps 0x7FFFFFFFFFFFFFFFFFFFFFFFFFFFFFFFFFFFFFFFFFFFFFFFFFFFFFFFFFFFFFFFFFFFFFFFFFFFFFFFFFFFFFFFFFFFFFFFFFFFFFFFFFFFFFF77F8 s s := Keeps.refl _ _
  repeat' first | (with_reducible first | assumption | apply Keeps.step (State.fromRow_keeps ..) | apply Keeps.ite) | apply Eq.refl | intro c | fail | split | extract_lets

theorem execCalGref_keeps (h : Hdr) (s : State) : 
    ∃ s', execCalGref h s = .next s' ∧ Keeps 0x7FFFFFFFFFFFFFFFFFFFFFFFFFFFFFFFFFFFFFFFFFFFFFFFFFFFFFFFFFFFFFFFFFFFFFFFFFFFFFFFFFFFFFFFFFFFFFFFFFFFFFFFFFFFFFF77F8 s s' := by
  refine ⟨_, rfl, ?_⟩
  have h0 : Keeps 0x7FFFFFFFFFFFFFFFFFFFFFFFFFFFFFFFFFFFFFFFFFFFFFFFFFFFFFFFFFFFFFFFFFFFFFFFFFFFFFFFFFFFFFFFFFFFFFFFFFFFFFFFFFFFFFF77F8 s s := Keeps.refl _ _
  repeat' first | (with_reducible first | assumption | apply Keeps.step (State.fromRow_keeps ..) | apply Keeps.ite) | apply Eq.refl | intro c | fail | split | extract_lets

theorem execCalGapply_keeps (h : Hdr) (s : State) : 
    ∃ s', execCalGapply h s = .next s' ∧ Keeps 0x7FFFFFFFFFFFFFFFFFFFFFFFFFFFFFFFFFFFFFFFFFFFFFFFFFFFFFFFFFFFFFFFFFFFFFFFFFFFFFFFFFFFFFFFFFFFFFFFFFFFFFFFFFFFFFF77F8 s s' := by
  refine ⟨_, rfl, ?_⟩
  have h0 : Keeps 0x7FFFFFFFFFFFFFFFFFFFFFFFFFFFFFFFFFFFFFFFFFFFFFFFFFFFFFFFFFFFFFFFFFFFFFFFFFFFFFFFFFFFFFFFFFFFFFFFFFFFFFFFFFFFFFF77F8 s s := Keeps.refl _ _
  repeat' first | (with_reducible first | assumption | apply Keeps.step (State.fromRow_keeps ..) | apply Keeps.ite) | apply Eq.refl | intro c | fail | split | extract_lets

theorem execConvScal_keeps (h : Hdr) (tiles : Word) (s : State) : 
    ∃ s', execConvScal h tiles s = .next s' ∧ Keeps 0x7FFFFFFFFFFFFFFFFFFFFFFFFFFFFFFFFFFFFFFFFFFFFFFFFFFFFFFFFFFFFFFFFFFFFFFFFFFFFFFFFFFFFFFFFFFFFFFFFFFFFFFFFFFFFFF77F8 s s' := by
  refine ⟨_, rfl, ?_⟩
  have h0 : Keeps 0x7FFFFFFFFFFFFFFFFFFFFFFFFFFFFFFFFFFFFFFFFFFFFFFFFFFFFFFFFFFFFFFFFFFFFFFFFFFFFFFFFFFFFFFFFFFFFFFFFFFFFFFFFFFFFFF77F8 s s := Keeps.refl _ _
  repeat' first | (with_reducible first | assumption | apply Keeps.step (State.fromRow_keeps ..) | apply Keeps.ite) | apply Eq.refl | intro c | fail | split | extract_lets

theorem execHkaScal_keeps (h : Hdr) (s : State) : 
    ∃ s', execHkaScal h s = .next s' ∧ Keeps 0x7FFFFFFFFFFFFFFFFFFFFFFFFFFFFFFFFFFFFFFFFFFFFFFFFFFFFFFFFFFFFFFFFFFFFFFFFFFFFFFFFFFFFFFFFFFFFFFFFFFFFFFFFFFFFFF77F8 s s' := by
  refine ⟨_, rfl, ?_⟩
  have h0 : Keeps 0x7FFFFFFFFFFFFFFFFFFFFFFFFFFFFFFFFFFFFFFFFFFFFFFFFFFFFFFFFFFFFFFFFFFFFFFFFFFFFFFFFFFFFFFFFFFFFFFFFFFFFFFFFFFFFFF77F8 s s := Keeps.refl _ _
  repeat' first | (with_reducible first | assumption | apply Keeps.step (State.fromRow_keeps ..) | apply Keeps.ite) | apply Eq.refl | intro c | fail | split | extract_lets

theorem execLoadTable_keeps (h : Hdr) (id addr : Nat) (words : List Word) (s : State) : 
    ∃ s', execLoadTable h id addr words s = .next s' ∧ Keeps 0x7FFFFFFFFFFFFFFFFFFFFFFFFFFFFFFFFFFFFFFFFFFFFFFFFFFFFFFFFFFFFFFFFFFFFFFFFFFFFFFFFFFFFFFFFFFFFFFFFFFFFFFFFFFFFFF77F8 s s' := by
  refine ⟨_, rfl, ?_⟩
  have h0 : Keeps 0x7FFFFFFFFFFFFFFFFFFFFFFFFFFFFFFFFFFFFFFFFFFFFFFFFFFFFFFFFFFFFFFFFFFFFFFFFFFFFFFFFFFFFFFFFFFFFFFFFFFFFFFFFFFFFFF77F8 s s := Keeps.refl _ _
  repeat' first | (with_reducible first | assumption | apply Keeps.step (State.fromRow_keeps ..) | apply Keeps.ite) | apply Eq.refl | intro c | fail | split | extract_lets

theorem execReadTable_keeps (h : Hdr) (id addr count : Nat) (s : State) : 
    ∃ s', execReadTable h id addr count s = .next s' ∧ Keeps 0x7FFFFFFFFFFFFFFFFFFFFFFFFFFFFFFFFFFFFFFFFFFFFFFFFFFFFFFFFFFFFFFFFFFFFFFFFFFFFFFFFFFFFFFFFFFFFFFFFFFFFFFFFFFFFFF77F8 s s' := by
  refine ⟨_, rfl, ?_⟩
  have h0 : Keeps 0x7FFFFFFFFFFFFFFFFFFFFFFFFFFFFFFFFFFFFFFFFFFFFFFFFFFFFFFFFFFFFFFFFFFFFFFFFFFFFFFFFFFFFFFFFFFFFFFFFFFFFFFFFFFFFFF77F8 s s := Keeps.refl _ _
  repeat' first | (with_reducible first | assumption | apply Keeps.step (State.fromRow_keeps ..) | apply Keeps.ite) | apply Eq.refl | intro c | fail | split | extract_lets

theorem execSaveTables_keeps (h : Hdr) (s : State) : 
    ∃ s', execSaveTables h s = .next s' ∧ Keeps 0x7FFFFFFFFFFFFFFFFFFFFFFFFFFFFFFFFFFFFFFFFFFFFFFFFFFFFFFFFFFFFFFFFFFFFFFFFFFFFFFFFFFFFFFFFFFFFFFFFFFFFFFFFFFFFFF77F8 s s' := by
  refine ⟨_, rfl, ?_⟩
  have h0 : Keeps 0x7FFFFFFFFFFFFFFFFFFFFFFFFFFFFFFFFFFFFFFFFFFFFFFFFFFFFFFFFFFFFFFFFFFFFFFFFFFFFFFFFFFFFFFFFFFFFFFFFFFFFFFFFFFFFFF77F8 s s := Keeps.refl _ _
  repeat' first | (with_reducible first | assumption | apply Keeps.step (State.fromRow_keeps ..) | apply Keeps.ite) | apply Eq.refl | intro c | fail | split | extract_lets

theorem execSaveTablesDone_keeps (s : State) : 
    ∃ s', execSaveTablesDone s = .next s' ∧ Keeps 0x8000004700000000000000000000000000000000000000000000000000000000000000000000000001400002CB0002C8 s s' := by
  refine ⟨_, rfl, ?_⟩
  have h0 : Keeps 0x8000004700000000000000000000000000000000000000000000000000000000000000000000000001400002CB0002C8 s s := Keeps.refl _ _
  repeat' first | (with_reducible first | assumption | apply Keeps.step (State.saveEnd_keeps ..) | apply Keeps.ite) | apply Eq.refl | intro c | fail | split | extract_lets

theorem execRestoreTables_keeps (h : Hdr) (s : State) : 
    ∃ s', execRestoreTables h s = .next s' ∧ Keeps 0x7FFFFFFFFFFFFFFFFFFFFFFFFFFFFFFFFFFFFFFFFFFFFFFFFFFFFFFFFFFFFFFFFFFFFFFFFFFFFFFFFFFFFFFFFFFFFFFFFFFFFFFFFFFFFFF77F8 s s' := by
  refine ⟨_, rfl, ?_⟩
  have h0 : Keeps 0x7FFFFFFFFFFFFFFFFFFFFFFFFFFFFFFFFFFFFFFFFFFFFFFFFFFFFFFFFFFFFFFFFFFFFFFFFFFFFFFFFFFFFFFFFFFFFFFFFFFFFFFFFFFFFFF77F8 s s := Keeps.refl _ _
  repeat' first | (with_reducible first | assumption | apply Keeps.step (State.fromRow_keeps ..) | apply Keeps.ite) | apply Eq.refl | intro c | fail | split | extract_lets

theorem execRestoreTablesDone_keeps (s : State) : 
    ∃ s', execRestoreTablesDone s = .next s' ∧ Keeps 0x7FFFFFFFFFFFFFFFFFFFFFFFFFFFFFFFFFFFFFFFFFFFFFFFFFFFFFFFFFFFFFFFFFFFFFFFFFFFFFFFFFFFFFFFFFFFFFFFFFFFF7FFFFFE32C16C8 s s' := by
  refine ⟨_, rfl, ?_⟩
  have h0 : Keeps 0x7FFFFFFFFFFFFFFFFFFFFFFFFFFFFFFFFFFFFFFFFFFFFFFFFFFFFFFFFFFFFFFFFFFFFFFFFFFFFFFFFFFFFFFFFFFFFFFFFFFFF7FFFFFE32C16C8 s s := Keeps.refl _ _
  repeat' first | (with_reducible first | assumption | apply Keeps.step (State.restoreEnd_keeps ..) | apply Keeps.ite) | apply Eq.refl | intro c | fail | split | extract_lets

theorem execTapGrab_keeps (h : Hdr) (count : Nat) (s : State) : 
    ∃ s', execTapGrab h count s = .next s' ∧ Keeps 0x7FFFFFFFFFFFFFFFFFFFFFFFFFFFFFFFFFFFFFFFFFFFFFFFFFFFFFFFFFFFFFFFFFFFFFFFFFFFFFFFFFFFFFFFFFFFFFFFFFFFFFFFFFFFFFF77F8 s s' := by
  refine ⟨_, rfl, ?_⟩
  have h0 : Keeps 0x7FFFFFFFFFFFFFFFFFFFFFFFFFFFFFFFFFFFFFFFFFFFFFFFFFFFFFFFFFFFFFFFFFFFFFFFFFFFFFFFFFFFFFFFFFFFFFFFFFFFFFFFFFFFFFF77F8 s s := Keeps.refl _ _
  repeat' first | (with_reducible first | assumption | apply Keeps.step (State.fromRow_keeps ..) | apply Keeps.ite) | apply Eq.refl | intro c | fail | split | extract_lets

theorem execTapRead_keeps (h : Hdr) (index offset len : Nat) (s : State) : 
    ∃ s', execTapRead h index offset len s = .next s' ∧ Keeps 0x7FFFFFFFFFFFFFFFFFFFFFFFFFFFFFFFFFFFFFFFFFFFFFFFFFFFFFFFFFFFFFFFFFFFFFFFFFFFFFFFFFFFFFFFFFFFFFFFFFFFFFFFFFFFFFF77F8 s s' := by
  refine ⟨_, rfl, ?_⟩
  have h0 : Keeps 0x7FFFFFFFFFFFFFFFFFFFFFFFFFFFFFFFFFFFFFFFFFFFFFFFFFFFFFFFFFFFFFFFFFFFFFFFFFFFFFFFFFFFFFFFFFFFFFFFFFFFFFFFFFFFFFF77F8 s s := Keeps.refl _ _
  repeat' first | (with_reducible first | assumption | apply Keeps.step (State.fromRow_keeps ..) | apply Keeps.ite) | apply Eq.refl | intro c | fail | split | extract_lets

theorem execSessionOpen_keeps (h : Hdr) (nonce : List Byte) (s : State) : 
    ∃ s', execSessionOpen h nonce s = .next s' ∧ Keeps 0x7FFFFFFFFFFFFFFFFFFFFFFFFFFFFFFFFFFFFFFFFFFFFFFFFFFFFFFFFFFFFFFFFFFFFFFFFFFFFFFFFFFFFFFFFFFFFFFFFFFFFFFFFFFFFFF77F8 s s' := by
  refine ⟨_, rfl, ?_⟩
  have h0 : Keeps 0x7FFFFFFFFFFFFFFFFFFFFFFFFFFFFFFFFFFFFFFFFFFFFFFFFFFFFFFFFFFFFFFFFFFFFFFFFFFFFFFFFFFFFFFFFFFFFFFFFFFFFFFFFFFFFFF77F8 s s := Keeps.refl _ _
  repeat' first | (with_reducible first | assumption | apply Keeps.step (State.fromRow_keeps ..) | apply Keeps.ite) | apply Eq.refl | intro c | fail | split | extract_lets

theorem execSessionClose_keeps (h : Hdr) (s : State) : 
    ∃ s', execSessionClose h s = .next s' ∧ Keeps 0x7FFFFFFFFFFFFFFFFFFFFFFFFFFFFFFFFFFFFFFFFFFFFFFFFFFFFFFFFFFFFFFFFFFFFFFFFFFFFFFFFFFFFFFFFFFFFFFFFFFFFFFFFFFFFFF77F8 s s' := by
  refine ⟨_, rfl, ?_⟩
  have h0 : Keeps 0x7FFFFFFFFFFFFFFFFFFFFFFFFFFFFFFFFFFFFFFFFFFFFFFFFFFFFFFFFFFFFFFFFFFFFFFFFFFFFFFFFFFFFFFFFFFFFFFFFFFFFFFFFFFFFFF77F8 s s := Keeps.refl _ _
  repeat' first | (with_reducible first | assumption | apply Keeps.step (State.fromRow_keeps ..) | apply Keeps.ite) | apply Eq.refl | intro c | fail | split | extract_lets

theorem execSetDevkey_keeps (h : Hdr) (key : List Byte) (s : State) : 
    ∃ s', execSetDevkey h key s = .next s' ∧ Keeps 0x7FFFFFFFFFFFFFFFFFFFFFFFFFFFFFFFFFFFFFFFFFFFFFFFFFFFFFFFFFFFFFFFFFFFFFFFFFFFFFFFFFFFFFFFFFFFFFFFFFFFFFFFFFFFFFF77F8 s s' := by
  refine ⟨_, rfl, ?_⟩
  have h0 : Keeps 0x7FFFFFFFFFFFFFFFFFFFFFFFFFFFFFFFFFFFFFFFFFFFFFFFFFFFFFFFFFFFFFFFFFFFFFFFFFFFFFFFFFFFFFFFFFFFFFFFFFFFFFFFFFFFFFF77F8 s s := Keeps.refl _ _
  repeat' first | (with_reducible first | assumption | apply Keeps.step (State.fromRow_keeps ..) | apply Keeps.ite) | apply Eq.refl | intro c | fail | split | extract_lets

theorem execUpdBegin_keeps (h : Hdr) (size : Nat) (s : State) : 
    ∃ s', execUpdBegin h size s = .next s' ∧ Keeps 0x7FFFFFFFFFFFFFFFFFFFFFFFFFFFFFFFFFFFFFFFFFFFFFFFFFFFFFFFFFFFFFFFFFFFFFFFFFFFFFFFFFFFFFFFFFFFFFFFFFFFFFFFFFFFFFF77F8 s s' := by
  refine ⟨_, rfl, ?_⟩
  have h0 : Keeps 0x7FFFFFFFFFFFFFFFFFFFFFFFFFFFFFFFFFFFFFFFFFFFFFFFFFFFFFFFFFFFFFFFFFFFFFFFFFFFFFFFFFFFFFFFFFFFFFFFFFFFFFFFFFFFFFF77F8 s s := Keeps.refl _ _
  repeat' first | (with_reducible first | assumption | apply Keeps.step (State.fromRow_keeps ..) | apply Keeps.ite) | apply Eq.refl | intro c | fail | split | extract_lets

theorem execUpdEraseDone_keeps (s : State) : 
    ∃ s', execUpdEraseDone s = .next s' ∧ Keeps 0x8000004700000000000000000000000000000000000000000000000000000000000000000000000001400002CB0002C8 s s' := by
  refine ⟨_, rfl, ?_⟩
  have h0 : Keeps 0x8000004700000000000000000000000000000000000000000000000000000000000000000000000001400002CB0002C8 s s := Keeps.refl _ _
  repeat' first | (with_reducible first | assumption | apply Keeps.step (State.eraseEnd_keeps ..) | apply Keeps.ite) | apply Eq.refl | intro c | fail | split | extract_lets

theorem execUpdData_keeps (h : Hdr) (offset : Nat) (data : List Byte) (s : State) : 
    ∃ s', execUpdData h offset data s = .next s' ∧ Keeps 0x7FFFFFFFFFFFFFFFFFFFFFFFFFFFFFFFFFFFFFFFFFFFFFFFFFFFFFFFFFFFFFFFFFFFFFFFFFFFFFFFFFFFFFFFFFFFFFFFFFFFFFFFFFFFFFF77F8 s s' := by
  refine ⟨_, rfl, ?_⟩
  have h0 : Keeps 0x7FFFFFFFFFFFFFFFFFFFFFFFFFFFFFFFFFFFFFFFFFFFFFFFFFFFFFFFFFFFFFFFFFFFFFFFFFFFFFFFFFFFFFFFFFFFFFFFFFFFFFFFFFFFFFF77F8 s s := Keeps.refl _ _
  repeat' first | (with_reducible first | assumption | apply Keeps.step (State.fromRow_keeps ..) | apply Keeps.ite) | apply Eq.refl | intro c | fail | split | extract_lets

theorem execUpdVerify_keeps (h : Hdr) (s : State) : 
    ∃ s', execUpdVerify h s = .next s' ∧ Keeps 0x7FFFFFFFFFFFFFFFFFFFFFFFFFFFFFFFFFFFFFFFFFFFFFFFFFFFFFFFFFFFFFFFFFFFFFFFFFFFFFFFFFFFFFFFFFFFFFFFFFFFFFFFFFFFFFF77F8 s s' := by
  refine ⟨_, rfl, ?_⟩
  have h0 : Keeps 0x7FFFFFFFFFFFFFFFFFFFFFFFFFFFFFFFFFFFFFFFFFFFFFFFFFFFFFFFFFFFFFFFFFFFFFFFFFFFFFFFFFFFFFFFFFFFFFFFFFFFFFFFFFFFFFF77F8 s s := Keeps.refl _ _
  repeat' first | (with_reducible first | assumption | apply Keeps.step (State.fromRow_keeps ..) | apply Keeps.ite) | apply Eq.refl | intro c | fail | split | extract_lets

theorem execUpdVerifyDone_keeps (s : State) : 
    ∃ s', execUpdVerifyDone s = .next s' ∧ Keeps 0x8000000700000000000000000000000000000000000000000000000000000000000000000000000001400002CB0002D8 s s' := by
  refine ⟨_, rfl, ?_⟩
  have h0 : Keeps 0x8000000700000000000000000000000000000000000000000000000000000000000000000000000001400002CB0002D8 s s := Keeps.refl _ _
  repeat' first | (with_reducible first | assumption | apply Keeps.step (State.verifyEnd_keeps ..) | apply Keeps.ite) | apply Eq.refl | intro c | fail | split | extract_lets

theorem execUpdActivate_keeps (h : Hdr) (slot : Nat) (s : State) : 
    ∃ s', execUpdActivate h slot s = .next s' ∧ Keeps 0x7FFFFFFFFFFFFFFFFFFFFFFFFFFFFFFFFFFFFFFFFFFFFFFFFFFFFFFFFFFFFFFFFFFFFFFFFFFFFFFFFFFFFFFFFFFFFFFFFFFFFFFFFFFFFFF77F8 s s' := by
  refine ⟨_, rfl, ?_⟩
  have h0 : Keeps 0x7FFFFFFFFFFFFFFFFFFFFFFFFFFFFFFFFFFFFFFFFFFFFFFFFFFFFFFFFFFFFFFFFFFFFFFFFFFFFFFFFFFFFFFFFFFFFFFFFFFFFFFFFFFFFFF77F8 s s := Keeps.refl _ _
  repeat' first | (with_reducible first | assumption | apply Keeps.step (State.fromRow_keeps ..) | apply Keeps.ite) | apply Eq.refl | intro c | fail | split | extract_lets

theorem execUpdStatus_keeps (h : Hdr) (s : State) : 
    ∃ s', execUpdStatus h s = .next s' ∧ Keeps 0x7FFFFFFFFFFFFFFFFFFFFFFFFFFFFFFFFFFFFFFFFFFFFFFFFFFFFFFFFFFFFFFFFFFFFFFFFFFFFFFFFFFFFFFFFFFFFFFFFFFFFFFFFFFFFFF77F8 s s' := by
  refine ⟨_, rfl, ?_⟩
  have h0 : Keeps 0x7FFFFFFFFFFFFFFFFFFFFFFFFFFFFFFFFFFFFFFFFFFFFFFFFFFFFFFFFFFFFFFFFFFFFFFFFFFFFFFFFFFFFFFFFFFFFFFFFFFFFFFFFFFFFFF77F8 s s := Keeps.refl _ _
  repeat' first | (with_reducible first | assumption | apply Keeps.step (State.fromRow_keeps ..) | apply Keeps.ite) | apply Eq.refl | intro c | fail | split | extract_lets

theorem execLogInfo_keeps (h : Hdr) (s : State) : 
    ∃ s', execLogInfo h s = .next s' ∧ Keeps 0x7FFFFFFFFFFFFFFFFFFFFFFFFFFFFFFFFFFFFFFFFFFFFFFFFFFFFFFFFFFFFFFFFFFFFFFFFFFFFFFFFFFFFFFFFFFFFFFFFFFFFFFFFFFFFFF77F8 s s' := by
  refine ⟨_, rfl, ?_⟩
  have h0 : Keeps 0x7FFFFFFFFFFFFFFFFFFFFFFFFFFFFFFFFFFFFFFFFFFFFFFFFFFFFFFFFFFFFFFFFFFFFFFFFFFFFFFFFFFFFFFFFFFFFFFFFFFFFFFFFFFFFFF77F8 s s := Keeps.refl _ _
  repeat' first | (with_reducible first | assumption | apply Keeps.step (State.fromRow_keeps ..) | apply Keeps.ite) | apply Eq.refl | intro c | fail | split | extract_lets

theorem execLogRead_keeps (h : Hdr) (seq count : Nat) (s : State) : 
    ∃ s', execLogRead h seq count s = .next s' ∧ Keeps 0x7FFFFFFFFFFFFFFFFFFFFFFFFFFFFFFFFFFFFFFFFFFFFFFFFFFFFFFFFFFFFFFFFFFFFFFFFFFFFFFFFFFFFFFFFFFFFFFFFFFFFFFFFFFFFFF77F8 s s' := by
  refine ⟨_, rfl, ?_⟩
  have h0 : Keeps 0x7FFFFFFFFFFFFFFFFFFFFFFFFFFFFFFFFFFFFFFFFFFFFFFFFFFFFFFFFFFFFFFFFFFFFFFFFFFFFFFFFFFFFFFFFFFFFFFFFFFFFFFFFFFFFFF77F8 s s := Keeps.refl _ _
  repeat' first | (with_reducible first | assumption | apply Keeps.step (State.fromRow_keeps ..) | apply Keeps.ite) | apply Eq.refl | intro c | fail | split | extract_lets

theorem execChnInfo_keeps (h : Hdr) (s : State) : 
    ∃ s', execChnInfo h s = .next s' ∧ Keeps 0x7FFFFFFFFFFFFFFFFFFFFFFFFFFFFFFFFFFFFFFFFFFFFFFFFFFFFFFFFFFFFFFFFFFFFFFFFFFFFFFFFFFFFFFFFFFFFFFFFFFFFFFFFFFFFFF77F8 s s' := by
  refine ⟨_, rfl, ?_⟩
  have h0 : Keeps 0x7FFFFFFFFFFFFFFFFFFFFFFFFFFFFFFFFFFFFFFFFFFFFFFFFFFFFFFFFFFFFFFFFFFFFFFFFFFFFFFFFFFFFFFFFFFFFFFFFFFFFFFFFFFFFFF77F8 s s := Keeps.refl _ _
  repeat' first | (with_reducible first | assumption | apply Keeps.step (State.fromRow_keeps ..) | apply Keeps.ite) | apply Eq.refl | intro c | fail | split | extract_lets

theorem execChnMaster_keeps (h : Hdr) (s : State) : 
    ∃ s', execChnMaster h s = .next s' ∧ Keeps 0x7FFFFFFFFFFFFFFFFFFFFFFFFFFFFFFFFFFFFFFFFFFFFFFFFFFFFFFFFFFFFFFFFFFFFFFFFFFFFFFFFFFFFFFFFFFFFFFFFFFFFFFFFFFFFFF77F8 s s' := by
  refine ⟨_, rfl, ?_⟩
  have h0 : Keeps 0x7FFFFFFFFFFFFFFFFFFFFFFFFFFFFFFFFFFFFFFFFFFFFFFFFFFFFFFFFFFFFFFFFFFFFFFFFFFFFFFFFFFFFFFFFFFFFFFFFFFFFFFFFFFFFFF77F8 s s := Keeps.refl _ _
  repeat' first | (with_reducible first | assumption | apply Keeps.step (State.fromRow_keeps ..) | apply Keeps.ite) | apply Eq.refl | intro c | fail | split | extract_lets

theorem execAbort_keeps (h : Hdr) (opcode seq : Nat) (s : State) : 
    ∃ s', execAbort h opcode seq s = .next s' ∧ Keeps 0x7FFFFFFFFFFFFFFFFFFFFFFFFFFFFFFFFFFFFFFFFFFFFFFFFFFFFFFFFFFFFFFFFFFFFFFFFFFFFFFFFFFFFFFFFFFFFFFFFFFFFFFFFFFFFFF77F8 s s' := by
  refine ⟨_, rfl, ?_⟩
  have h0 : Keeps 0x7FFFFFFFFFFFFFFFFFFFFFFFFFFFFFFFFFFFFFFFFFFFFFFFFFFFFFFFFFFFFFFFFFFFFFFFFFFFFFFFFFFFFFFFFFFFFFFFFFFFFFFFFFFFFFF77F8 s s := Keeps.refl _ _
  repeat' first | (with_reducible first | assumption | apply Keeps.step (State.fromRow_keeps ..) | apply Keeps.ite) | apply Eq.refl | intro c | fail | split | extract_lets

theorem execSessionIdleExpiry_keeps (src : Source) (s : State) : 
    ∃ s', execSessionIdleExpiry src s = .next s' ∧ Keeps 0x1000000000000000000000000000000000000000000000000000000000000000000000000000000000000000100000C s s' := by
  refine ⟨_, rfl, ?_⟩
  have h0 : Keeps 0x1000000000000000000000000000000000000000000000000000000000000000000000000000000000000000100000C s s := Keeps.refl _ _
  repeat' first | (with_reducible first | assumption | apply Keeps.step (State.sessionExpire_keeps ..) | apply Keeps.ite) | apply Eq.refl | intro c | fail | split | extract_lets

theorem execReplyCacheExpiry_keeps (src : Source) (s : State) : 
    ∃ s', execReplyCacheExpiry src s = .next s' ∧ Keeps 0x1000004 s s' := by
  refine ⟨_, rfl, ?_⟩
  have h0 : Keeps 0x1000004 s s := Keeps.refl _ _
  repeat' first | (with_reducible first | assumption | apply Keeps.step (State.replyExpire_keeps ..) | apply Keeps.ite) | apply Eq.refl | intro c | fail | split | extract_lets

theorem execMbxPop_keeps (r : Requester) (c : Nat) (d : MbxDir) (s : State) : 
    ∃ s', execMbxPop r c d s = .next s' ∧ Keeps 0x7FFFFFFFFFFFFFFFFFFFFFFFFFFFFFFFFFFFFFFFFFFFFFFFFFFFFFFFFFFFFFFFFFFFFFFFFFFFFFFFFFFFFFFFFFFFFFFFFFFFFFFFFFFFFFF77F8 s s' := by
  refine ⟨_, rfl, ?_⟩
  have h0 : Keeps 0x7FFFFFFFFFFFFFFFFFFFFFFFFFFFFFFFFFFFFFFFFFFFFFFFFFFFFFFFFFFFFFFFFFFFFFFFFFFFFFFFFFFFFFFFFFFFFFFFFFFFFFFFFFFFFFF77F8 s s := Keeps.refl _ _
  repeat' first | (with_reducible first | assumption | apply Keeps.step (State.mbxPopBy_keeps ..) | apply Keeps.ite) | apply Eq.refl | intro c | fail | split | extract_lets

theorem execBaindForward_keeps (crc reply : Bool) (h : Hdr) (opcode : Nat) (payload : List Byte) (s : State) : 
    ∃ s', execBaindForward crc reply h opcode payload s = .next s' ∧ Keeps 0x7FFFFFFFFFFFFFFFFFFFFFFFFFFFFFFFFFFFFFFFFFFFFFFFFFFFFFFFFFFFFFFFFFFFFFFFFFFFFFFFFFFFFFFFFFFFFFFFFFFFFFFFFFFFFFF77F8 s s' := by
  refine ⟨_, rfl, ?_⟩
  have h0 : Keeps 0x7FFFFFFFFFFFFFFFFFFFFFFFFFFFFFFFFFFFFFFFFFFFFFFFFFFFFFFFFFFFFFFFFFFFFFFFFFFFFFFFFFFFFFFFFFFFFFFFFFFFFFFFFFFFFFF77F8 s s := Keeps.refl _ _
  repeat' first | (with_reducible first | assumption | apply State.chainMsg_keeps | apply Keeps.step (State.forwardMsg_keeps ..) | apply Keeps.ite) | apply Eq.refl | intro c | fail | split | extract_lets

theorem execForwardTimeout_keeps (src : Source) (seq : Nat) (s : State) : 
    ∃ s', execForwardTimeout src seq s = .next s' ∧ Keeps 0x8000000700000000000000000000000000000000000000000000000000000000000000000000000001400000C300028C s s' := by
  refine ⟨_, rfl, ?_⟩
  have h0 : Keeps 0x8000000700000000000000000000000000000000000000000000000000000000000000000000000001400000C300028C s s := Keeps.refl _ _
  repeat' first | (with_reducible first | assumption | apply Keeps.step (State.fwdTimeout_keeps ..) | apply Keeps.ite) | apply Eq.refl | intro c | fail | split | extract_lets

theorem execSliceComplete_keeps (errs : List MemErr) (s : State) : 
    ∃ s', execSliceComplete errs s = .next s' ∧ Keeps 0x7F00080000007000807E0002804C04F6000000000ECD0EC000A000000000000000000000000000000000001416202D37A82F8 s s' := by
  refine ⟨_, rfl, ?_⟩
  have h0 : Keeps 0x7F00080000007000807E0002804C04F6000000000ECD0EC000A000000000000000000000000000000000001416202D37A82F8 s s := Keeps.refl _ _
  repeat' first | (with_reducible first | assumption | apply Keeps.step (State.sliceMoment_keeps ..) | apply Keeps.ite) | apply Eq.refl | intro c | fail | split | extract_lets

theorem execVerdictIssue_keeps (errs : List MemErr) (refused : List ChainPort) (s : State) : 
    ∃ s', execVerdictIssue errs refused s = .next s' ∧ Keeps 0xA00000000000000000000007E0002804C04F7FF01E03F89C50000000000000000000000000000000000000000001016802807200F8 s s' := by
  refine ⟨_, rfl, ?_⟩
  have h0 : Keeps 0xA00000000000000000000007E0002804C04F7FF01E03F89C50000000000000000000000000000000000000000001016802807200F8 s s := Keeps.refl _ _
  repeat' first | (with_reducible first | assumption | apply Keeps.step (State.issueVerdict_keeps ..) | apply Keeps.ite) | apply Eq.refl | intro c | fail | split | extract_lets

theorem execFrameBoundary_keeps (s : State) : 
    ∃ s', execFrameBoundary s = .next s' ∧ Keeps 0xE00000000E06CD640800000070008000000000CC04FE1700AC0038C72FC09DB01E7F30F3FFAFEC00D0800000000000000114062C2FBFDF6DC s s' := by
  refine ⟨_, rfl, ?_⟩
  have h0 : Keeps 0xE00000000E06CD640800000070008000000000CC04FE1700AC0038C72FC09DB01E7F30F3FFAFEC00D0800000000000000114062C2FBFDF6DC s s := Keeps.refl _ _
  repeat' first | (with_reducible first | assumption | apply Keeps.step (State.nextFrame_keeps ..) | apply Keeps.step (State.boundary_keeps ..) | apply Keeps.ite) | apply Eq.refl | intro c | fail | split | extract_lets

theorem execChainRejoin_keeps (s : State) : 
    ∃ s', execChainRejoin s = .next s' ∧ Keeps 0xE00000E00E06CD640800000070008000000000CC04FE1700AC0038C72FC09DB01E7F30F3FFAFEC00D8800000000000000114062C2FBFFFEDC s s' := by
  refine ⟨_, rfl, ?_⟩
  have h0 : Keeps 0xE00000E00E06CD640800000070008000000000CC04FE1700AC0038C72FC09DB01E7F30F3FFAFEC00D8800000000000000114062C2FBFFFEDC s s := Keeps.refl _ _
  repeat' first | (with_reducible first | assumption | apply Keeps.step (State.rejoin_keeps ..) | apply Keeps.ite) | apply Eq.refl | intro c | fail | split | extract_lets

theorem execRowGroupRelease_keeps (tile occ : Nat) (errs : List MemErr) (s : State) : 
    ∃ s', execRowGroupRelease tile occ errs s = .next s' ∧ Keeps 0x3F00080000007000807E0002804C04F6000000000000C00000002000000C000000000000000000000000001416042D36AF6FC s s' := by
  refine ⟨_, rfl, ?_⟩
  have h0 : Keeps 0x3F00080000007000807E0002804C04F6000000000000C00000002000000C000000000000000000000000001416042D36AF6FC s s := Keeps.refl _ _
  repeat' first | (with_reducible first | assumption | apply Keeps.step (State.releaseGroup_keeps ..) | apply Keeps.ite) | apply Eq.refl | intro c | fail | split | extract_lets

theorem execScalComplete_keeps (tile : Nat) (factors : List (Int × Int)) (s : State) : 
    ∃ s', execScalComplete tile factors s = .next s' ∧ Keeps 0x8000000700000000000000000000000000000000000000000000000000000000000000000000000001400042C30006C8 s s' := by
  refine ⟨_, rfl, ?_⟩
  have h0 : Keeps 0x8000000700000000000000000000000000000000000000000000000000000000000000000000000001400042C30006C8 s s := Keeps.refl _ _
  repeat' first | (with_reducible first | assumption | apply Keeps.step (State.scalDone_keeps ..) | apply Keeps.step (State.opFinish_keeps ..) | apply Keeps.ite) | apply Eq.refl | intro c | ((with_reducible apply Has.fam (TIL_CVSTAT_SCAL_BUSY_cls ..)); exact Eq.refl true) | ((with_reducible apply Has.fam (TIL_CVSTAT_SCAL_FAIL_cls ..)); exact Eq.refl true) | split | extract_lets

theorem execEthFrameReceive_keeps (f : EthFrame) (errs : List MemErr) (s : State) : 
    ∃ s', execEthFrameReceive f errs s = .next s' ∧ Keeps 0x7FFFFFFFFFFFFFFFFFFFFFFFFFFFFFFFFFFFFFFFFFFFFFFFFFFFFFFFFFFFFFFFFFFFFFFFFFFFFFFFFFFFFFFFFFFFFFFFFFFFFFFFFFFFFFF77F8 s s' := by
  refine ⟨_, rfl, ?_⟩
  have h0 : Keeps 0x7FFFFFFFFFFFFFFFFFFFFFFFFFFFFFFFFFFFFFFFFFFFFFFFFFFFFFFFFFFFFFFFFFFFFFFFFFFFFFFFFFFFFFFFFFFFFFFFFFFFFFFFFFFFFFF77F8 s s := Keeps.refl _ _
  repeat' first | (with_reducible first | assumption | apply Keeps.step (State.frameRead_keeps ..) | apply Keeps.ite) | apply Eq.refl | intro c | fail | split | extract_lets

theorem execDhcpMessage_keeps (m : DhcpMsg) (s : State) : 
    ∃ s', execDhcpMessage m s = .next s' ∧ Keeps 0xE2000000000000000000000000000000000000000000000000000000000000000000000000000000000000084000008 s s' := by
  refine ⟨_, rfl, ?_⟩
  have h0 : Keeps 0xE2000000000000000000000000000000000000000000000000000000000000000000000000000000000000084000008 s s := Keeps.refl _ _
  repeat' first | (with_reducible first | assumption | apply Keeps.step (State.dhcpIn_keeps ..) | apply Keeps.ite) | apply Eq.refl | intro c | ((with_reducible apply Has.fam (ETH_CTRL_DHCP_cls ..)); exact Eq.refl true) | split | extract_lets

theorem execDhcpLeaseTimer_keeps (t : DhcpTimer) (s : State) : 
    ∃ s', execDhcpLeaseTimer t s = .next s' ∧ Keeps 0x2000000000000000000000000000000000000000000000000000000000000000000000000000000000000084000008 s s' := by
  refine ⟨_, rfl, ?_⟩
  have h0 : Keeps 0x2000000000000000000000000000000000000000000000000000000000000000000000000000000000000084000008 s s := Keeps.refl _ _
  repeat' first | (with_reducible first | assumption | apply Keeps.step (State.dhcpTimer_keeps ..) | apply Keeps.ite) | apply Eq.refl | intro c | ((with_reducible apply Has.fam (ETH_CTRL_DHCP_cls ..)); exact Eq.refl true) | split | extract_lets

theorem execPtpMessage_keeps (residual : Int) (ptpTime : Nat) (s : State) : 
    ∃ s', execPtpMessage residual ptpTime s = .next s' ∧ Keeps 0xFE00000000000000000000000000000000000000000000000000000000000000000000000000000000001000002040000D8 s s' := by
  refine ⟨_, rfl, ?_⟩
  have h0 : Keeps 0xFE00000000000000000000000000000000000000000000000000000000000000000000000000000000001000002040000D8 s s := Keeps.refl _ _
  repeat' first | (with_reducible first | assumption | apply Keeps.step (State.ptpSync_keeps ..) | apply Keeps.ite) | apply Eq.refl | intro c | fail | split | extract_lets

theorem execPtpSyncTimeout_keeps (s : State) : 
    ∃ s', execPtpSyncTimeout s = .next s' ∧ Keeps 0xA00000000000000000000000000000000000000000000000000000000000000000000000000000000001000002040000C8 s s' := by
  refine ⟨_, rfl, ?_⟩
  have h0 : Keeps 0xA00000000000000000000000000000000000000000000000000000000000000000000000000000000001000002040000C8 s s := Keeps.refl _ _
  repeat' first | (with_reducible first | assumption | apply Keeps.step (State.ptpUnlock_keeps ..) | apply Keeps.ite) | apply Eq.refl | intro c | ((with_reducible apply Has.fam (ETH_PTPCTL_EN_cls ..)); exact Eq.refl true) | split | extract_lets

theorem execPtpReofs_keeps (r : Requester) (s : State) : 
    ∃ s', execPtpReofs r s = .next s' ∧ Keeps 0x4000000104000008 s s' := by
  refine ⟨_, rfl, ?_⟩
  have h0 : Keeps 0x4000000104000008 s s := Keeps.refl _ _
  repeat' first | (with_reducible first | assumption | apply State.guardW_keeps | apply Keeps.step (State.reofs_keeps ..) | apply Keeps.ite) | apply Eq.refl | intro c | ((with_reducible apply Has.fam (GLB_STAT_PROTERR_cls ..)); exact Eq.refl true) | split | extract_lets

theorem execPhyStatusPoll_keeps (link : Bool) (speed : Nat) (fdx : Bool) (s : State) : 
    ∃ s', execPhyStatusPoll link speed fdx s = .next s' ∧ Keeps 0x1C000000000000000000000000000000000000000000000000000000000000000000000000000001000002000000C8 s s' := by
  refine ⟨_, rfl, ?_⟩
  have h0 : Keeps 0x1C000000000000000000000000000000000000000000000000000000000000000000000000000001000002000000C8 s s := Keeps.refl _ _
  repeat' first | (with_reducible first | assumption | apply Keeps.step (State.phyPoll_keeps ..) | apply Keeps.ite) | apply Eq.refl | intro c | fail | split | extract_lets

theorem execMdioGo_keeps (r : Requester) (v : Word) (s : State) : 
    ∃ s', execMdioGo r v s = .next s' ∧ Keeps 0x7FFFFFFFFFFFFFFFFFFFFFFFFFFFFFFFFFFFFFFFFFFFFFFFFFFFFFFFFFFFFFFFFFFFFFFFFFFFFFFFFFFFFFFFFFFFFFFFFFFFF7FFFFF04040008 s s' := by
  refine ⟨_, rfl, ?_⟩
  have h0 : Keeps 0x7FFFFFFFFFFFFFFFFFFFFFFFFFFFFFFFFFFFFFFFFFFFFFFFFFFFFFFFFFFFFFFFFFFFFFFFFFFFFFFFFFFFFFFFFFFFFFFFFFFFF7FFFFF04040008 s s := Keeps.refl _ _
  repeat' first | (with_reducible first | assumption | apply State.guardW_keeps | apply Keeps.step (State.mdioW_keeps ..) | apply Keeps.ite) | apply Eq.refl | intro c | ((with_reducible apply Has.fam (GLB_STAT_PROTERR_cls ..)); exact Eq.refl true) | split | extract_lets

theorem execMdioAccessDone_keeps (data : Nat) (s : State) : 
    ∃ s', execMdioAccessDone data s = .next s' ∧ Keeps 0x300000000000000000000000000000000000000000000000000000000000000000000000000000000000000004000008 s s' := by
  refine ⟨_, rfl, ?_⟩
  have h0 : Keeps 0x300000000000000000000000000000000000000000000000000000000000000000000000000000000000000004000008 s s := Keeps.refl _ _
  repeat' first | (with_reducible first | assumption | apply Keeps.step (State.mdioEnd_keeps ..) | apply Keeps.ite) | apply Eq.refl | intro c | fail | split | extract_lets

theorem execSspRegisterReadFrame_keeps (mode3 : Bool) (rsv : Nat) (inc : Bool) (addr words : Nat) (s : State) : 
    ∃ s', execSspRegisterReadFrame mode3 rsv inc addr words s = .next s' ∧ Keeps 0x4000000000000000000000000007B0007E0002800000000000000000000000000040000000000000000000000000000008001010042820001D8 s s' := by
  refine ⟨_, rfl, ?_⟩
  have h0 : Keeps 0x4000000000000000000000000007B0007E0002800000000000000000000000000040000000000000000000000000000008001010042820001D8 s s := Keeps.refl _ _
  repeat' first | (with_reducible first | assumption | apply Keeps.step (State.frameRsv_keeps ..) | apply Keeps.step (State.sspRead_keeps ..) | apply Keeps.ite) | apply Eq.refl | intro c | fail | split | extract_lets

theorem execSspRegisterWriteFrame_keeps (mode3 : Bool) (rsv : Nat) (inc : Bool) (bytes : List Byte) (bits : Nat) (s : State) : 
    ∃ s', execSspRegisterWriteFrame mode3 rsv inc bytes bits s = .next s' ∧ Keeps 0x7FFFFFFFFFFFFFFFFFFFFFFFFFFFFFFFFFFFFFFFFFFFFFFFFFFFFFFFFFFFFFFFFFFFFFFFFFFFFFFFFFFFFFFFFFFFFFFFFFFFFFFFFFFEFFF77F8 s s' := by
  refine ⟨_, rfl, ?_⟩
  have h0 : Keeps 0x7FFFFFFFFFFFFFFFFFFFFFFFFFFFFFFFFFFFFFFFFFFFFFFFFFFFFFFFFFFFFFFFFFFFFFFFFFFFFFFFFFFFFFFFFFFFFFFFFFFFFFFFFFFEFFF77F8 s s := Keeps.refl _ _
  repeat' first | (with_reducible first | assumption | apply Keeps.step (State.frameRsv_keeps ..) | apply Keeps.step (State.sspWrite_keeps ..) | apply Keeps.ite) | apply Eq.refl | intro c | fail | split | extract_lets

theorem execSspStreamWriteFrame_keeps (mode3 : Bool) (rsv : Nat) (bytes : List Byte) (bits partialByte : Nat) (s : State) : 
    ∃ s', execSspStreamWriteFrame mode3 rsv bytes bits partialByte s = .next s' ∧ Keeps 0x7FFFFFFFFFFFFFFFFFFFFFFFFFFFFFFFFFFFFFFFFFFFFFFFFFFFFFFFFFFFFFFFFFFFFFFFFFFFFFFFFFFFFFFFFFFFFFFFFFFFFFFFFFFFFFF77F8 s s' := by
  refine ⟨_, rfl, ?_⟩
  have h0 : Keeps 0x7FFFFFFFFFFFFFFFFFFFFFFFFFFFFFFFFFFFFFFFFFFFFFFFFFFFFFFFFFFFFFFFFFFFFFFFFFFFFFFFFFFFFFFFFFFFFFFFFFFFFFFFFFFFFFF77F8 s s := Keeps.refl _ _
  repeat' first | (with_reducible first | assumption | apply Keeps.step (State.frameRsv_keeps ..) | apply Keeps.step (State.streamWrite_keeps ..) | apply Keeps.ite) | apply Eq.refl | intro c | fail | split | extract_lets

theorem execSspStreamReadFrame_keeps (mode3 : Bool) (rsv bytes : Nat) (s : State) : 
    ∃ s', execSspStreamReadFrame mode3 rsv bytes s = .next s' ∧ Keeps 0x779000000000000000000000000000000000000000000000000000000000000000000000001000002820000C8 s s' := by
  refine ⟨_, rfl, ?_⟩
  have h0 : Keeps 0x779000000000000000000000000000000000000000000000000000000000000000000000001000002820000C8 s s := Keeps.refl _ _
  repeat' first | (with_reducible first | assumption | apply Keeps.step (State.frameRsv_keeps ..) | apply Keeps.step (State.streamRead_keeps ..) | apply Keeps.ite) | apply Eq.refl | intro c | fail | split | extract_lets

theorem execBootSlotCheck_keeps (s : State) : 
    ∃ s', execBootSlotCheck s = .next s' ∧ Keeps 0x7FFFFFFFFFFFFFFFFFFFFFFFFFFFFFFFFFFFFFFFFFFFFFFFFFFFFFFFFFFFFFFFFFFFFFFFFFFFFFFFFFFFFFFFFFFFFFFFFFFFFFFFFFFFFFF77F8 s s' := by
  refine ⟨_, rfl, ?_⟩
  have h0 : Keeps 0x7FFFFFFFFFFFFFFFFFFFFFFFFFFFFFFFFFFFFFFFFFFFFFFFFFFFFFFFFFFFFFFFFFFFFFFFFFFFFFFFFFFFFFFFFFFFFFFFFFFFFFFFFFFFFFF77F8 s s := Keeps.refl _ _
  repeat' first | (with_reducible first | assumption | apply Keeps.step (State.bootCheck_keeps ..) | apply Keeps.step (State.inboxServe_keeps ..) | apply Keeps.ite) | apply Eq.refl | intro c | fail | split | extract_lets

theorem execXipRead_keeps (cluster : Bool) (addr : Nat) (s : State) : 
    ∃ s', execXipRead cluster addr s = .next s' ∧ Keeps 0x38E0000000000000000000000000000000000000000000000000000000000000000000000000001000002880000C8 s s' := by
  refine ⟨_, rfl, ?_⟩
  have h0 : Keeps 0x38E0000000000000000000000000000000000000000000000000000000000000000000000000001000002880000C8 s s := Keeps.refl _ _
  repeat' first | (with_reducible first | assumption | apply Keeps.step (State.xip_keeps ..) | apply Keeps.ite) | apply Eq.refl | intro c | fail | split | extract_lets

theorem execXipLineFetchDone_keeps (s : State) : 
    ∃ s', execXipLineFetchDone s = .next s' ∧ Keeps 0x200000000000000000000000000000000000000000000000000000000000000000000000000000000088000008 s s' := by
  refine ⟨_, rfl, ?_⟩
  have h0 : Keeps 0x200000000000000000000000000000000000000000000000000000000000000000000000000000000088000008 s s := Keeps.refl _ _
  repeat' first | (with_reducible first | assumption | apply Keeps.step (State.lineDone_keeps ..) | apply Keeps.ite) | apply Eq.refl | intro c | fail | split | extract_lets

theorem execFlashResume_keeps (s : State) : 
    ∃ s', execFlashResume s = .next s' ∧ Keeps 0x200000000000000000000000000000000000000000000000000000000000000000000000000000000008000008 s s' := by
  refine ⟨_, rfl, ?_⟩
  have h0 : Keeps 0x200000000000000000000000000000000000000000000000000000000000000000000000000000000008000008 s s := Keeps.refl _ _
  repeat' first | (with_reducible first | assumption | apply Keeps.step (State.resume_keeps ..) | apply Keeps.ite) | apply Eq.refl | intro c | fail | split | extract_lets

theorem execFlashOperationDone_keeps (s : State) : 
    ∃ s', execFlashOperationDone s = .next s' ∧ Keeps 0x400000000000000000000000000000000000000000000000000000000000000000000000000000000008000008 s s' := by
  refine ⟨_, rfl, ?_⟩
  have h0 : Keeps 0x400000000000000000000000000000000000000000000000000000000000000000000000000000000008000008 s s := Keeps.refl _ _
  repeat' first | (with_reducible first | assumption | apply Keeps.step (State.opEnd_keeps ..) | apply Keeps.ite) | apply Eq.refl | intro c | fail | split | extract_lets

end Sys2Proof.Machine
end

