-- ==== Sys2Proof/WellFormed.lean ====
section
/-! DEFINITION. Well-formed commands: operands within the ranges that the spec gives their fields, indices and lists. -/

namespace Sys2Proof

def Requester.wf : Requester → Bool
  | .hart h => decide (h < 4)
  | .mgmt | .ssp | .fw | .dma => true

def RetGroup.wf : RetGroup → Bool
  | .sp i => decide (i < 4)
  | .pb | .ub | .bb | .kb => true

/-- Fields of H0 and H1 (R67). -/
def Header.wf (h : Header) : Bool :=
  decide (h.stamp < 2 ^ 64 ∧ h.rgrp < 16 ∧ h.tile < 32 ∧ h.gain < 4 ∧ h.scnt < 8 ∧ h.swslice < 256 ∧ h.swspare < 4
    ∧ h.swlane < 64 ∧ h.frame < 2 ^ 32 ∧ h.crc < 2 ^ 32)

/-- 256 sample words of 16 bits (R66). -/
def RowGroup.wf (g : RowGroup) : Bool := g.hdr.wf && g.words.length == 256 && g.words.all fun w => decide (w < 65536)

/-- Banks of R312; 57 is the table memories, and 58 the LPDDR4X. -/
def MemErr.wf (e : MemErr) : Bool := decide (e.bank < 59)

def Source.wf : Source → Bool
  | .udp ip port => decide (ip < 2 ^ 32 ∧ port < 65536)
  | .ssp => true
  | .mbx c => decide (c < 4)
  | .chain i => decide (i < 8)

/-- Header fields of R359; a trailer has 32 bytes. -/
def Hdr.wf (h : Hdr) : Bool :=
  h.src.wf && decide (h.version < 256 ∧ h.seq < 65536 ∧ h.target < 256) && h.trailer.all fun t => t.length == 32

def EthFrame.wf : EthFrame → Bool
  | .udp _ _ sip sp dip dp _ => decide (sip < 2 ^ 32 ∧ sp < 65536 ∧ dip < 2 ^ 32 ∧ dp < 65536)
  | .arp ip => decide (ip < 2 ^ 32)
  | .icmpEcho a b => decide (a < 2 ^ 32 ∧ b < 2 ^ 32)
  | .ptpL2 | .other | .oversize | .bad => true

def DhcpMsg.wf : DhcpMsg → Bool
  | .offer ip => decide (ip < 2 ^ 32)
  | .ack ip m g => decide (ip < 2 ^ 32 ∧ m < 2 ^ 32 ∧ g < 2 ^ 32)
  | .nak => true

def TimeMsg.wf (m : TimeMsg) : Bool := decide (m.sender < 8 ∧ m.state < 4 ∧ m.master < 8 ∧ m.run < 256)

def SpliceReq.wf (r : SpliceReq) : Bool := decide (r.sender < 8 ∧ r.vseq < 65536)

def Mastership.wf (g : Mastership) : Bool :=
  (g.grants.all fun x => decide (x.2 < 8)) && (g.holder.all fun x => decide (x.1 < 8)) && decide (g.ofs < 2 ^ 64)

def LinkInfo.wf (i : LinkInfo) : Bool := (i.index.all fun k => decide (k < 8)) && decide (i.overlap < 256 ∧ i.straps < 256)

/-- Thermal management sensors of a die (R282). -/
def dieSensors : Die → Nat
  | .logic => 8
  | .power => 6

/-- Table memories that are reloaded (R313). -/
def reloadable : List Nat := [4, 5, 6, 8, 9]

/-- Well-formedness of a command. -/
def Instr.wf : Instr → Bool
  | .powerOn _ | .railGood | .vinPowerFail | .dipClear | .watchdogExpiry | .debugReset | .resetRelease
  | .bootSlotCheck | .configLoadDone | .chainListenTimeout | .readyEntry | .powerupCalStart
  | .powerupCalRetry | .frameBoundary | .controlLaneMessage | .controlLaneLoss | .controlLaneRelock
  | .stageLock | .stageUnreg | .stageUnregClear | .calTriggerEval | .calGrantTimeout | .calDeferredRetry
  | .lyFlagClosed _ | .lyFlagOpen _ | .flagCloseTimeout | .calSettleEnd | .calCaptureEnd | .calComputeDone
  | .flagStuck | .calResumeEnd | .calSlotCopyDone | .trimHandoffTimeout | .grefWindow1End | .grefSettled
  | .grefSettleTimeout | .grefWindow2End | .grefDone | .brdTableComputeDone | .brdTrackEval | .tokenGrant
  | .vvalThreshold _ _ | .budgetEval _ _ | .overbudgetRelease | .thermalLevelEnter _ _
  | .thermalLevelLeave _ _ | .throttleStep2 _ | .autoRestart | .hkaConversion _ | .rtdStale
  | .preheatWindowEnd | .backdropLoopUpdate | .scrubWriteback | .bightDone _ | .bightRestoreDone
  | .bightSkip | .logPageCopy | .saveTablesDone | .restoreTablesDone | .updEraseDone | .updVerifyDone
  | .ptpMessage _ _ | .ptpSyncTimeout | .xipLineFetchDone | .flashResume
  | .flashOperationDone | .chainLinkDown _ | .chainSyncPulse _ | .hitchSlewStep | .chainPulseMissing
  | .chainRejoin | .grantMaxTimeout | .echo _ _ _ | .echoPeriod | .jtagInstruction _ | .firmwareFault
  | .dhcpLeaseTimer _ | .causeLatchLoss => true
  | .railFault rail => decide (rail < 9)
  | .dipSet vinMv => decide (vinMv < 65536)
  | .swrst req key => req.wf && decide (key < 256)
  | .glbRunWrite req _ => req.wf
  | .glbCtrlSafe req => req.wf
  | .rowGroupSlot tile raw => decide (tile < 32) && raw.length == 256
  | .spareHandover tile spare _ _ _ _ => decide (tile < 32) && decide (spare < 4)
  | .rowGroupReceive tile rx _ => decide (tile < 32) && rx.all RowGroup.wf
  | .alignBlock tile frame _ => decide (tile < 32) && decide (frame < 65536)
  | .tetherRealign tile => decide (tile < 32)
  | .tetherRealignTimeout tile => decide (tile < 32)
  | .rowGroupRelease tile occ errs => decide (tile < 32) && decide (occ ≤ 32) && errs.all MemErr.wf
  | .stageSensorRead readings => readings.length == 4
  | .tsExclude i => decide (i < 4)
  | .tsReadmit i => decide (i < 4)
  | .stgCtrlWrite req _ => req.wf
  | .stgFrateWrite req _ => req.wf
  | .stgBiasWrite req _ => req.wf
  | .stgSetptWrite req _ => req.wf
  | .tilGainWrite req tile _ => req.wf && decide (tile < 32)
  | .tilPtdataWrite req tile _ => req.wf && decide (tile < 32)
  | .tilSkimWrite req tile i _ => req.wf && decide (tile < 32) && decide (i < 16)
  | .tilScal req tile => req.wf && decide (tile < 32)
  | .scalComplete tile factors => decide (tile < 32) && decide (factors.length ≤ 260)
  | .tilRotenWrite req tile _ => req.wf && decide (tile < 32)
  | .tilCfdataWrite req tile _ => req.wf && decide (tile < 32)
  | .tilPark req tile slice spare => req.wf && decide (tile < 32) && decide (slice < 256) && decide (spare < 4)
  | .tilRelease req tile spare => req.wf && decide (tile < 32) && decide (spare < 4)
  | .tilResync req tile => req.wf && decide (tile < 32)
  | .corV0Write req _ => req.wf
  | .corOflip req _ => req.wf
  | .corBlendStart req frames => req.wf && decide (frames < 8192)
  | .corBlendAbort req => req.wf
  | .corLanexWrite req j _ => req.wf && decide (j < 64)
  | .calGo req => req.wf
  | .calAbort req => req.wf
  | .grefStart req => req.wf
  | .gapply req => req.wf
  | .sliceComplete errs => errs.all MemErr.wf
  | .verdictIssue errs _ => errs.all MemErr.wf
  | .brdParamWrite req addr _ => req.wf && [0x6810, 0x6818, 0x681C, 0x6820].contains addr
  | .brdUnlayWrite req _ => req.wf
  | .brdSwitch req _ => req.wf
  | .brdRestart req => req.wf
  | .kntThrWrite req _ => req.wf
  | .vrdSwitch req => req.wf
  | .mapsw req => req.wf
  | .qflush req => req.wf
  | .ejsStagedWrite req addr _ => req.wf && [0x7800, 0x7808, 0x780C, 0x7810, 0x7814, 0x7818].contains addr
  | .firingOpen ch => decide (ch < 128)
  | .tokenDeadline ch => decide (ch < 128)
  | .peakEnd ch => decide (ch < 129)
  | .peakTimeout ch imeas => decide (ch < 129) && decide (imeas < 1024)
  | .holdEntry ch => decide (ch < 129)
  | .chopPeriod bank currents => decide (bank < 17) && currents.length == 8
  | .firingClose ch => decide (ch < 128)
  | .currentZero ch => decide (ch < 129)
  | .coilThermalUpdate i2 => decide (i2.length ≤ 129)
  | .openingKink ch _ _ => decide (ch < 128)
  | .closingKink ch _ _ => decide (ch < 128)
  | .positionEdge input _ => decide (input < 16)
  | .openingWindowEnd ch => decide (ch < 128)
  | .closingWindowEnd ch => decide (ch < 128)
  | .overcurrent ch => decide (ch < 129)
  | .drainShort ch => decide (ch < 129)
  | .railNodeShort bank => decide (bank < 17)
  | .railStuckHigh bank => decide (bank < 17)
  | .boostMeasure vbst => decide (vbst < 65536)
  | .vlvClrflt req ch => req.wf && decide (ch < 128)
  | .vbkClrflt req bank => req.wf && decide (bank < 16)
  | .driveEnableWrite req addr _ => req.wf && decide (addr < 65536)
  | .lyEnergise req _ => req.wf
  | .lyClrflt req => req.wf
  | .pwrBudprioWrite req _ => req.wf
  | .thermalSample tl tp => tl.length == dieSensors .logic && tp.length == dieSensors .power
  | .thmRestart req => req.wf
  | .thermalSensorExclude die i => decide (i < dieSensors die)
  | .thermalSensorReadmit die i => decide (i < dieSensors die)
  | .dramTempRead rate => decide (rate < 8)
  | .hkaScalStart req => req.wf
  | .hkaScalDone gain ofs => decide (gain < 65536) && decide (ofs < 65536)
  | .heaterPeriodStart out => decide (out < 5)
  | .heaterOutputOff out => decide (out < 5)
  | .loopCtrlWrite req _ => req.wf
  | .loopClear req _ _ => req.wf
  | .bightStart errs => errs.all MemErr.wf
  | .memRetctlWrite req _ => req.wf
  | .retentionWake group => group.wf
  | .tableMemoryReload table _ => reloadable.contains table
  | .hartenWrite req harten => req.wf && decide (harten < 16)
  | .hartOffline h => decide (h < 4)
  | .appweWrite req _ => req.wf
  | .registerWrite req _ _ _ also _ => req.wf && (also.all fun p => p.1.wf)
  | .loWordRead req _ _ also => req.wf && (also.all fun p => p.1.wf)
  | .tableDataRead req => req.wf
  | .tableDataWrite req _ also => req.wf && (also.all fun p => p.1.wf)
  | .counterClear req addr => req.wf && decide (addr < 65536)
  | .mbxSend req c _ => req.wf && decide (c < 4)
  | .mbxPop req c _ => req.wf && decide (c < 4)
  | .evtForce req g _ => req.wf && decide (g < 24)
  | .evtCntclr req => req.wf
  | .evtClrall req same => req.wf && (same.all fun i => decide (i < 768))
  | .evtPinPulseEnd i => decide (i < 4)
  | .regRead h addr count => h.wf && decide (addr < 65536) && decide (count < 65536)
  | .regWrite h addr words => h.wf && decide (addr < 65536) && decide (words.length ≤ 322)
  | .regModify h addr _ _ => h.wf && decide (addr < 65536)
  | .start h => h.wf
  | .stop h => h.wf
  | .safe h => h.wf
  | .restart h => h.wf
  | .reset h key => h.wf && decide (key < 256)
  | .status h => h.wf
  | .opQuery h => h.wf
  | .identify h => h.wf
  | .calRun h => h.wf
  | .calGref h => h.wf
  | .calGapply h => h.wf
  | .convScal h _ => h.wf
  | .hkaScal h => h.wf
  | .loadTable h id addr words => h.wf && decide (id < 256) && decide (addr < 2 ^ 32) && decide (words.length ≤ 320)
  | .readTable h id addr count => h.wf && decide (id < 256) && decide (addr < 2 ^ 32) && decide (count < 65536)
  | .saveTables h => h.wf
  | .restoreTables h => h.wf
  | .tapGrab h count => h.wf && decide (count < 65536)
  | .tapRead h index offset len => h.wf && decide (index < 2 ^ 32) && decide (offset < 2 ^ 32) && decide (len < 65536)
  | .sessionOpen h nonce => h.wf && nonce.length == 16
  | .sessionClose h => h.wf
  | .sessionIdleExpiry src => src.wf
  | .setDevkey h key => h.wf && key.length == 32
  | .updBegin h size => h.wf && decide (size < 2 ^ 32)
  | .updData h offset data => h.wf && decide (offset < 2 ^ 32) && decide (4 ≤ data.length ∧ data.length ≤ 1280)
  | .updVerify h => h.wf
  | .updActivate h slot => h.wf && decide (slot < 256)
  | .updStatus h => h.wf
  | .logInfo h => h.wf
  | .logRead h seq count => h.wf && decide (seq < 2 ^ 32) && decide (count < 65536)
  | .chnInfo h => h.wf
  | .chnMaster h => h.wf
  | .abort h opcode seq => h.wf && decide (opcode < 65536) && decide (seq < 65536)
  | .replyCacheExpiry src => src.wf
  | .forwardTimeout src seq => src.wf && decide (seq < 65536)
  | .ethFrameReceive f errs => f.wf && errs.all fun e => e.wf && e.bank == 56
  | .dhcpMessage m => m.wf
  | .ptpReofs req => req.wf
  | .phyStatusPoll _ speed _ => decide (speed < 3)
  | .mdioGo req _ => req.wf
  | .mdioAccessDone data => decide (data < 65536)
  | .sspRegisterReadFrame _ rsv _ addr _ => decide (rsv < 32 ∧ addr < 65536)
  | .sspRegisterWriteFrame _ rsv _ _ bits => decide (rsv < 32 ∧ bits < 8)
  | .sspStreamWriteFrame _ rsv _ bits partialByte => decide (rsv < 64 ∧ bits < 8) && decide (partialByte < 2 ^ bits)
  | .sspStreamReadFrame _ rsv _ => decide (rsv < 64)
  | .xipRead _ addr => decide (addr < 0x4000000)
  | .chainLinkUp _ info => info.all LinkInfo.wf
  | .timeMessage _ m => m.wf
  | .handover _ sender give => decide (sender < 8) && give.all Mastership.wf
  | .grantReq _ sender _ => decide (sender < 8)
  | .grant _ target _ => decide (target < 8)
  | .release _ sender => decide (sender < 8)
  | .baindForward _ _ h opcode payload => h.wf && decide (opcode < 65536) && decide (payload.length ≤ 1304)
  | .splice _ r => r.wf
  | .takemst req => req.wf
  | .chnResync req => req.wf
  | .tmxBlindWrite req _ => req.wf
  | .tmxTpctlWrite req _ => req.wf
  | .tmxTpdataWrite req _ => req.wf
  | .bscanenWrite req _ => req.wf
  | .debugHalt h _ => decide (h < 4)
  | .tetherBlockLockLoss tile => decide (tile < 32)
end Sys2Proof
end

