-- ==== Sys2Proof/Tests/Slice0.lean ====
section
/-! SUPPORT. The model's own tests: ill-formed commands refused, worked examples of the spec, single steps, and for every
statement with hypotheses, states and operands that meet them. -/

open Sys2Proof Sys2Proof.Machine Sys2Proof.Machine.Reg
namespace Sys2Proof.Tests

set_option Elab.async false

/-- The state after reset with register fields set. -/
def st (l : List (Fld × Nat)) : State := l.foldl (fun s p => s.set p.1 p.2) State.reset
/-- Operands of the witnesses: row groups, a queue entry, a closed knot. -/
def okGroup : RowGroup := ⟨{ ({ (st []).newHeader 2 0 with } : Header) with crc := rowCrc (List.replicate 256 77) }, List.replicate 256 77⟩
def ent (o : Nat) : Entry := ⟨o, some (o + 1000), 0, 0, false, false, false, false, false, 0, (0, 0), 0, false⟩
def tinyGroup : RowGroup := ⟨(st []).newHeader 2 0, [100, 8192]⟩
def badGroup : RowGroup := ⟨{ (st []).newHeader 2 3 with invalid := true }, List.replicate 256 300⟩
def knotQ : Closed := ⟨0, 1, 0, 1000, 900, 5, 7000, 3000, 10, 12, 0, 0, [1, 3, 2], (0, 0), (0, 0), 0⟩

/-! ### Well-formed commands -/

/-- A well-formed Baind header, and one whose source is no hart's mailbox. -/
def gh : Hdr := ⟨.mbx 3, 1, some (List.replicate 32 0), 65535, 255⟩
def bh : Hdr := { gh with src := .mbx 4 }
def gt : TimeMsg := ⟨.low, 0, 0, 0, 7, 2, 7, none, 255⟩
def gm : Mastership := ⟨[(0, 7)], some (7, 0), 0, 0, false⟩
def gs : SpliceReq := ⟨7, 65535, true, 0, 0, 0, 0⟩
def gi : LinkInfo := ⟨some 7, 255, 255, 0, 0, false⟩
def bg : RowGroup := ⟨(st []).newHeader 2 0, [1]⟩
def hd : Header := (st []).newHeader 2 0

/-- Each of these commands has one operand outside its range and is refused. -/
theorem test_wf_refuses_0 :
    (
    [.railFault 9, .dipSet 65536, .swrst (.hart 4) 255, .swrst .fw 256, .glbRunWrite (.hart 4) true,
     .glbCtrlSafe (.hart 4), .rowGroupSlot 32 (List.replicate 256 0), .rowGroupSlot 31 (List.replicate 255 0),
     .rowGroupSlot 31 (List.replicate 257 0), .spareHandover 32 3 0 0 0 0, .spareHandover 31 4 0 0 0 0,
     .rowGroupReceive 32 none true, .rowGroupReceive 31 (some bg) true, .alignBlock 32 65535 true,
     .alignBlock 31 65536 true, .tetherRealign 32, .tetherRealignTimeout 32,
     .rowGroupRelease 32 32 [⟨57, 0, true⟩], .rowGroupRelease 31 33 [⟨57, 0, true⟩],
     .rowGroupRelease 31 32 [⟨59, 0, true⟩], .stageSensorRead (List.replicate 3 none),
     .stageSensorRead (List.replicate 5 none), .tsExclude 4, .tsReadmit 4, .stgCtrlWrite (.hart 4) 0,
     .stgFrateWrite (.hart 4) 0, .stgBiasWrite (.hart 4) 0, .stgSetptWrite (.hart 4) 0,
     .tilGainWrite (.hart 4) 31 0, .tilGainWrite .fw 32 0, .tilPtdataWrite (.hart 4) 31 0,
     .tilPtdataWrite .fw 32 0, .tilSkimWrite (.hart 4) 31 15 0, .tilSkimWrite .fw 32 15 0,
     .tilSkimWrite .fw 31 16 0, .tilScal (.hart 4) 31, .tilScal .fw 32,
     .scalComplete 32 (List.replicate 260 (0, 0)), .scalComplete 31 (List.replicate 261 (0, 0)),
     .tilRotenWrite (.hart 4) 31 true] : List Instr).all (fun c => !c.wf) = true := by decide +kernel

/-- Each of these commands has one operand outside its range and is refused. -/
theorem test_wf_refuses_1 :
    (
    [.tilRotenWrite .fw 32 true, .tilCfdataWrite (.hart 4) 31 0, .tilCfdataWrite .fw 32 0,
     .tilPark (.hart 4) 31 255 3, .tilPark .fw 32 255 3, .tilPark .fw 31 256 3, .tilPark .fw 31 255 4,
     .tilRelease (.hart 4) 31 3, .tilRelease .fw 32 3, .tilRelease .fw 31 4, .tilResync (.hart 4) 31,
     .tilResync .fw 32, .corV0Write (.hart 4) 0, .corOflip (.hart 4) 0, .corBlendStart (.hart 4) 8191,
     .corBlendStart .fw 8192, .corBlendAbort (.hart 4), .corLanexWrite (.hart 4) 63 0, .corLanexWrite .fw 64 0,
     .calGo (.hart 4), .calAbort (.hart 4), .grefStart (.hart 4), .gapply (.hart 4),
     .sliceComplete [⟨59, 0, true⟩], .verdictIssue [⟨59, 0, true⟩] [], .brdParamWrite (.hart 4) 0x6810 0,
     .brdParamWrite .fw 0 0, .brdUnlayWrite (.hart 4) 0, .brdSwitch (.hart 4) 0, .brdRestart (.hart 4),
     .kntThrWrite (.hart 4) 0, .vrdSwitch (.hart 4), .mapsw (.hart 4), .qflush (.hart 4),
     .ejsStagedWrite (.hart 4) 0x7800 0, .ejsStagedWrite .fw 0 0, .firingOpen 128, .tokenDeadline 128,
     .peakEnd 129, .peakTimeout 129 1023] : List Instr).all (fun c => !c.wf) = true := by decide +kernel

/-- Each of these commands has one operand outside its range and is refused. -/
theorem test_wf_refuses_2 :
    (
    [.peakTimeout 128 1024, .holdEntry 129, .chopPeriod 17 (List.replicate 8 0),
     .chopPeriod 16 (List.replicate 7 0), .chopPeriod 16 (List.replicate 9 0), .firingClose 128,
     .currentZero 129, .coilThermalUpdate (List.replicate 130 0), .openingKink 128 0 0, .closingKink 128 0 0,
     .positionEdge 16 true, .openingWindowEnd 128, .closingWindowEnd 128, .overcurrent 129, .drainShort 129,
     .railNodeShort 17, .railStuckHigh 17, .boostMeasure 65536, .vlvClrflt (.hart 4) 127, .vlvClrflt .fw 128,
     .vbkClrflt (.hart 4) 15, .vbkClrflt .fw 16, .driveEnableWrite (.hart 4) 65535 0,
     .driveEnableWrite .fw 65536 0, .lyEnergise (.hart 4) true, .lyClrflt (.hart 4),
     .pwrBudprioWrite (.hart 4) 0, .thermalSample (List.replicate 7 0) (List.replicate 6 0),
     .thermalSample (List.replicate 9 0) (List.replicate 6 0),
     .thermalSample (List.replicate 8 0) (List.replicate 5 0),
     .thermalSample (List.replicate 8 0) (List.replicate 7 0), .thmRestart (.hart 4),
     .thermalSensorExclude .logic 8, .thermalSensorExclude .power 6, .thermalSensorReadmit .logic 8,
     .thermalSensorReadmit .power 6, .dramTempRead 8, .hkaScalStart (.hart 4), .hkaScalDone 65536 65535,
     .hkaScalDone 65535 65536] : List Instr).all (fun c => !c.wf) = true := by decide +kernel

/-- Each of these commands has one operand outside its range and is refused. -/
theorem test_wf_refuses_3 :
    (
    [.heaterPeriodStart 5, .heaterOutputOff 5, .loopCtrlWrite (.hart 4) 0, .loopClear (.hart 4) true true,
     .bightStart [⟨59, 0, true⟩], .memRetctlWrite (.hart 4) 0, .retentionWake (.sp 4),
     .tableMemoryReload 7 true, .tableMemoryReload 10 true, .hartenWrite (.hart 4) 15, .hartenWrite .fw 16,
     .hartOffline 4, .appweWrite (.hart 4) 0, .registerWrite (.hart 4) 0 .word 0 none 0,
     .registerWrite .fw 0 .word 0 (some (.hart 4, 0)) 0, .loWordRead (.hart 4) 0 true none,
     .loWordRead .fw 0 true (some (.hart 4, 0)), .tableDataRead (.hart 4), .tableDataWrite (.hart 4) 0 none,
     .tableDataWrite .fw 0 (some (.hart 4, 0)), .counterClear (.hart 4) 65535, .counterClear .fw 65536,
     .mbxSend (.hart 4) 3 .up, .mbxSend .fw 4 .up, .mbxPop (.hart 4) 3 .up, .mbxPop .fw 4 .up,
     .evtForce (.hart 4) 23 0, .evtForce .fw 24 0, .evtCntclr (.hart 4), .evtClrall (.hart 4) [767],
     .evtClrall .fw [0, 768], .evtPinPulseEnd 4, .regRead bh 65535 65535, .regRead gh 65536 65535,
     .regRead gh 65535 65536, .regWrite bh 65535 (List.replicate 322 0),
     .regWrite gh 65536 (List.replicate 322 0), .regWrite gh 65535 (List.replicate 323 0),
     .regModify bh 65535 0 0, .regModify gh 65536 0 0] : List Instr).all (fun c => !c.wf) = true := by decide +kernel

/-- Each of these commands has one operand outside its range and is refused. -/
theorem test_wf_refuses_4 :
    (
    [.start bh, .stop bh, .safe bh, .restart bh, .reset bh 255, .reset gh 256, .status bh, .opQuery bh,
     .identify bh, .calRun bh, .calGref bh, .calGapply bh, .convScal bh 0, .hkaScal bh,
     .loadTable bh 255 (2 ^ 32 - 1) (List.replicate 320 0),
     .loadTable gh 256 (2 ^ 32 - 1) (List.replicate 320 0), .loadTable gh 255 (2 ^ 32) (List.replicate 320 0),
     .loadTable gh 255 (2 ^ 32 - 1) (List.replicate 321 0), .readTable bh 255 (2 ^ 32 - 1) 65535,
     .readTable gh 256 (2 ^ 32 - 1) 65535, .readTable gh 255 (2 ^ 32) 65535,
     .readTable gh 255 (2 ^ 32 - 1) 65536, .saveTables bh, .restoreTables bh, .tapGrab bh 65535,
     .tapGrab gh 65536, .tapRead bh (2 ^ 32 - 1) (2 ^ 32 - 1) 65535, .tapRead gh (2 ^ 32) (2 ^ 32 - 1) 65535,
     .tapRead gh (2 ^ 32 - 1) (2 ^ 32) 65535, .tapRead gh (2 ^ 32 - 1) (2 ^ 32 - 1) 65536,
     .sessionOpen bh (List.replicate 16 0), .sessionOpen gh (List.replicate 15 0),
     .sessionOpen gh (List.replicate 17 0), .sessionClose bh, .sessionIdleExpiry (.udp 0 65536),
     .setDevkey bh (List.replicate 32 0), .setDevkey gh (List.replicate 31 0),
     .setDevkey gh (List.replicate 33 0), .updBegin bh (2 ^ 32 - 1), .updBegin gh (2 ^ 32)] : List Instr).all (fun c => !c.wf) = true := by decide +kernel

/-- Each of these commands has one operand outside its range and is refused. -/
theorem test_wf_refuses_5 :
    (
    [.updData bh (2 ^ 32 - 1) (List.replicate 1280 0), .updData gh (2 ^ 32) (List.replicate 1280 0),
     .updData gh (2 ^ 32 - 1) [0, 0, 0], .updData gh (2 ^ 32 - 1) (List.replicate 1281 0), .updVerify bh,
     .updActivate bh 255, .updActivate gh 256, .updStatus bh, .logInfo bh, .logRead bh (2 ^ 32 - 1) 65535,
     .logRead gh (2 ^ 32) 65535, .logRead gh (2 ^ 32 - 1) 65536, .chnInfo bh, .chnMaster bh,
     .abort bh 65535 65535, .abort gh 65536 65535, .abort gh 65535 65536, .replyCacheExpiry (.udp 0 65536),
     .forwardTimeout (.udp 0 65536) 65535, .forwardTimeout .ssp 65536,
     .ethFrameReceive (.arp (2 ^ 32)) [⟨56, 0, true⟩], .ethFrameReceive .bad [⟨57, 0, true⟩],
     .dhcpMessage (.offer (2 ^ 32)), .ptpReofs (.hart 4), .phyStatusPoll true 3 true, .mdioGo (.hart 4) 0,
     .mdioAccessDone 65536, .sspRegisterReadFrame true 32 true 65535 0,
     .sspRegisterReadFrame true 31 true 65536 0, .sspRegisterWriteFrame true 32 true [] 7,
     .sspRegisterWriteFrame true 31 true [] 8, .sspStreamWriteFrame true 64 [] 4 15,
     .sspStreamWriteFrame true 63 [] 8 15, .sspStreamWriteFrame true 63 [] 4 16, .sspStreamReadFrame true 64 0,
     .xipRead true 67108864, .chainLinkUp .low (some { gi with index := some 8 }),
     .timeMessage true { gt with sender := 8 }, .handover true 8 (some gm),
     .handover true 7 (some { gm with ofs := 2 ^ 64 })] : List Instr).all (fun c => !c.wf) = true := by decide +kernel

/-- Each of these commands has one operand outside its range and is refused. -/
theorem test_wf_refuses_6 :
    (
    [.grantReq true 8 0, .grant true 8 0, .release true 8,
     .baindForward true true bh 65535 (List.replicate 1304 0),
     .baindForward true true gh 65536 (List.replicate 1304 0),
     .baindForward true true gh 65535 (List.replicate 1305 0), .splice true { gs with sender := 8 },
     .takemst (.hart 4), .chnResync (.hart 4), .tmxBlindWrite (.hart 4) 0, .tmxTpctlWrite (.hart 4) 0,
     .tmxTpdataWrite (.hart 4) 0, .bscanenWrite (.hart 4) 0, .debugHalt 4 true, .tetherBlockLockLoss 32] : List Instr).all (fun c => !c.wf) = true := by decide +kernel

/-- The same commands with each operand at the top of its range are well formed. -/
theorem test_wf_accepts_0 :
    (
    [.railFault 8, .dipSet 65535, .swrst .fw 255, .glbRunWrite .fw true, .glbCtrlSafe .fw,
     .rowGroupSlot 31 (List.replicate 256 0), .spareHandover 31 3 0 0 0 0, .rowGroupReceive 31 none true,
     .alignBlock 31 65535 true, .tetherRealign 31, .tetherRealignTimeout 31,
     .rowGroupRelease 31 32 [⟨57, 0, true⟩], .stageSensorRead (List.replicate 4 none), .tsExclude 3,
     .tsReadmit 3, .stgCtrlWrite .fw 0, .stgFrateWrite .fw 0, .stgBiasWrite .fw 0, .stgSetptWrite .fw 0,
     .tilGainWrite .fw 31 0, .tilPtdataWrite .fw 31 0, .tilSkimWrite .fw 31 15 0, .tilScal .fw 31,
     .scalComplete 31 (List.replicate 260 (0, 0)), .tilRotenWrite .fw 31 true, .tilCfdataWrite .fw 31 0,
     .tilPark .fw 31 255 3, .tilRelease .fw 31 3, .tilResync .fw 31, .corV0Write .fw 0, .corOflip .fw 0,
     .corBlendStart .fw 8191, .corBlendAbort .fw, .corLanexWrite .fw 63 0, .calGo .fw, .calAbort .fw,
     .grefStart .fw, .gapply .fw, .sliceComplete [⟨57, 0, true⟩], .verdictIssue [⟨57, 0, true⟩] [],
     .brdParamWrite .fw 0x6810 0, .brdUnlayWrite .fw 0, .brdSwitch .fw 0, .brdRestart .fw, .kntThrWrite .fw 0,
     .vrdSwitch .fw, .mapsw .fw, .qflush .fw, .ejsStagedWrite .fw 0x7800 0, .firingOpen 127,
     .tokenDeadline 127, .peakEnd 128, .peakTimeout 128 1023, .holdEntry 128,
     .chopPeriod 16 (List.replicate 8 0), .firingClose 127, .currentZero 128,
     .coilThermalUpdate (List.replicate 129 0), .openingKink 127 0 0, .closingKink 127 0 0] : List Instr).all Instr.wf = true := by decide +kernel

/-- The same commands with each operand at the top of its range are well formed. -/
theorem test_wf_accepts_1 :
    (
    [.positionEdge 15 true, .openingWindowEnd 127, .closingWindowEnd 127, .overcurrent 128, .drainShort 128,
     .railNodeShort 16, .railStuckHigh 16, .boostMeasure 65535, .vlvClrflt .fw 127, .vbkClrflt .fw 15,
     .driveEnableWrite .fw 65535 0, .lyEnergise .fw true, .lyClrflt .fw, .pwrBudprioWrite .fw 0,
     .thermalSample (List.replicate 8 0) (List.replicate 6 0), .thmRestart .fw, .thermalSensorExclude .logic 7,
     .thermalSensorReadmit .logic 7, .dramTempRead 7, .hkaScalStart .fw, .hkaScalDone 65535 65535,
     .heaterPeriodStart 4, .heaterOutputOff 4, .loopCtrlWrite .fw 0, .loopClear .fw true true,
     .bightStart [⟨57, 0, true⟩], .memRetctlWrite .fw 0, .retentionWake (.sp 3), .tableMemoryReload 9 true,
     .hartenWrite .fw 15, .hartOffline 3, .appweWrite .fw 0, .registerWrite .fw 0 .word 0 none 0,
     .loWordRead .fw 0 true none, .tableDataRead .fw, .tableDataWrite .fw 0 none, .counterClear .fw 65535,
     .mbxSend .fw 3 .up, .mbxPop .fw 3 .up, .evtForce .fw 23 0, .evtCntclr .fw, .evtClrall .fw [767],
     .evtPinPulseEnd 3, .regRead gh 65535 65535, .regWrite gh 65535 (List.replicate 322 0),
     .regModify gh 65535 0 0, .start gh, .stop gh, .safe gh, .restart gh, .reset gh 255, .status gh,
     .opQuery gh, .identify gh, .calRun gh, .calGref gh, .calGapply gh, .convScal gh 0, .hkaScal gh,
     .loadTable gh 255 (2 ^ 32 - 1) (List.replicate 320 0)] : List Instr).all Instr.wf = true := by decide +kernel

/-- The same commands with each operand at the top of its range are well formed. -/
theorem test_wf_accepts_2 :
    (
    [.readTable gh 255 (2 ^ 32 - 1) 65535, .saveTables gh, .restoreTables gh, .tapGrab gh 65535,
     .tapRead gh (2 ^ 32 - 1) (2 ^ 32 - 1) 65535, .sessionOpen gh (List.replicate 16 0), .sessionClose gh,
     .sessionIdleExpiry .ssp, .setDevkey gh (List.replicate 32 0), .updBegin gh (2 ^ 32 - 1),
     .updData gh (2 ^ 32 - 1) (List.replicate 1280 0), .updVerify gh, .updActivate gh 255, .updStatus gh,
     .logInfo gh, .logRead gh (2 ^ 32 - 1) 65535, .chnInfo gh, .chnMaster gh, .abort gh 65535 65535,
     .replyCacheExpiry .ssp, .forwardTimeout .ssp 65535, .ethFrameReceive .bad [⟨56, 0, true⟩],
     .dhcpMessage .nak, .ptpReofs .fw, .phyStatusPoll true 2 true, .mdioGo .fw 0, .mdioAccessDone 65535,
     .sspRegisterReadFrame true 31 true 65535 0, .sspRegisterWriteFrame true 31 true [] 7,
     .sspStreamWriteFrame true 63 [] 4 15, .sspStreamReadFrame true 63 0, .xipRead true 67108863,
     .chainLinkUp .low (some gi), .timeMessage true gt, .handover true 7 (some gm), .grantReq true 7 0,
     .grant true 7 0, .release true 7, .baindForward true true gh 65535 (List.replicate 1304 0),
     .splice true gs, .takemst .fw, .chnResync .fw, .tmxBlindWrite .fw 0, .tmxTpctlWrite .fw 0,
     .tmxTpdataWrite .fw 0, .bscanenWrite .fw 0, .debugHalt 3 true, .tetherBlockLockLoss 31] : List Instr).all Instr.wf = true := by decide +kernel

/-- Each field of the operand records is checked. -/
theorem test_wf_headers_refused :
    ([{ hd with stamp := 2 ^ 64 }, { hd with rgrp := 16 }, { hd with tile := 32 }, { hd with gain := 4 },
      { hd with scnt := 8 }, { hd with swslice := 256 }, { hd with swspare := 4 }, { hd with swlane := 64 },
      { hd with frame := 2 ^ 32 }, { hd with crc := 2 ^ 32 }] : List Header).all (fun h => !h.wf) = true := by
  decide +kernel

theorem test_wf_row_groups :
    hd.wf = true ∧ RowGroup.wf ⟨hd, List.replicate 256 65535⟩ = true ∧
    RowGroup.wf ⟨hd, List.replicate 257 0⟩ = false ∧ RowGroup.wf ⟨hd, 65536 :: List.replicate 255 0⟩ = false ∧
    RowGroup.wf ⟨{ hd with tile := 32 }, List.replicate 256 0⟩ = false := by decide +kernel

theorem test_wf_sources_and_headers :
    ([.udp (2 ^ 32) 0, .udp 0 65536, .mbx 4, .chain 8] : List Source).all (fun x => !x.wf) = true ∧
    ([{ gh with version := 256 }, { gh with seq := 65536 }, { gh with target := 256 },
      { gh with trailer := some [0] }] : List Hdr).all (fun x => !x.wf) = true ∧ gh.wf = true := by decide +kernel

theorem test_wf_frames_and_leases :
    ([.udp true true (2 ^ 32) 0 0 0 [], .udp true true 0 65536 0 0 [], .udp true true 0 0 (2 ^ 32) 0 [],
      .udp true true 0 0 0 65536 [], .arp (2 ^ 32), .icmpEcho (2 ^ 32) 0, .icmpEcho 0 (2 ^ 32)] : List EthFrame).all
      (fun x => !x.wf) = true ∧
    ([.offer (2 ^ 32), .ack (2 ^ 32) 0 0, .ack 0 (2 ^ 32) 0, .ack 0 0 (2 ^ 32)] : List DhcpMsg).all
      (fun x => !x.wf) = true := by decide +kernel

theorem test_wf_chain_records :
    ([{ gt with sender := 8 }, { gt with state := 4 }, { gt with master := 8 }, { gt with run := 256 }] : List TimeMsg).all
      (fun x => !x.wf) = true ∧
    ([{ gs with sender := 8 }, { gs with vseq := 65536 }] : List SpliceReq).all (fun x => !x.wf) = true ∧
    ([{ gi with index := some 8 }, { gi with overlap := 256 }, { gi with straps := 256 }] : List LinkInfo).all
      (fun x => !x.wf) = true ∧ ([{ gm with grants := [(0, 8)] }, { gm with holder := some (8, 0) }, { gm with ofs := 2 ^ 64 }] : List Mastership).all
      (fun x => !x.wf) = true ∧ gm.wf = true ∧ gt.wf = true ∧ gs.wf = true ∧ gi.wf = true := by decide +kernel

/-! ### Worked examples of the spec -/

/-- IDCODE of an NK2048 with LREV 1 (R455). -/
theorem test_idcode :
    (State.fresh { Fuses.init with lrev := 1 } Flash.init 1 0 []).get TMX_IDCODE_IDCODE = 0x12048B67 := by
  decide +kernel

/-- The CRC-32C check value, SHA-256 of abc (FIPS 180-4). -/
theorem test_crc32c : crc32c [0x31, 0x32, 0x33, 0x34, 0x35, 0x36, 0x37, 0x38, 0x39] = 0xE3069283 := by decide +kernel
theorem test_sha256 :
    sha256 [97, 98, 99] =
      [0xBA, 0x78, 0x16, 0xBF, 0x8F, 0x01, 0xCF, 0xEA, 0x41, 0x41, 0x40, 0xDE, 0x5D, 0xAE, 0x22, 0x23,
       0xB0, 0x03, 0x61, 0xA3, 0x96, 0x17, 0x7A, 0x9C, 0xB4, 0x10, 0xFF, 0x61, 0xF2, 0x00, 0x15, 0xAD] := by
  decide +kernel

/-- File 02: row groups at 7,000 frames/s start on 2 ns ticks, 8.929 µs apart, a frame 142.857 µs. -/
theorem test_slots_at_7000 :
    let s := { st [] with sensor := { (st []).sensor with gridBase := 0, rate := 7000 } }
    [s.slotAt 0 1, s.slotAt 0 2, s.slotAt 0 15, s.slotAt 1 0] = [8928, 17856, 133928, 142856] := by decide +kernel

/-- File 04, worked example: the four lines of the blend. -/
theorem test_pixel_correction :
    normCode2 9000 2 = 18000 ∧
    tcExact ⟨false, 0, 180300, 180000, 180300, 11520⟩ 0x7F787F59 0xEC320CCD 0x00E100E0 18000 = 12196 ∧
    tcExact ⟨false, 16384, 180300, 180000, 180300, 11520⟩ 0x7F787F59 0xEC320CCD 0x00E100E0 18000 = 12194 ∧
    tcExact ⟨false, 49152, 180300, 180000, 180300, 11520⟩ 0x7F787F59 0xEC320CCD 0x00E100E0 18000 = 12192 ∧
    tcExact ⟨true, 0, 180300, 180000, 180300, 11520⟩ 0x7F787F59 0xEC320CCD 0x00E100E0 18000 = 12191 := by
  decide +kernel

/-- File 06, worked example: τ_1(1) is stored as 4,131, and the depths of K = 3 are 71, 65 and 61. -/
theorem test_braid_tables :
    let t := computedSet [7000, 3400, 3, 32, 4900, 0, 9810] 3
    t.tau 1 1 = 4131 ∧ [t.depth 0, t.depth 1, t.depth 2] = [71, 65, 61] := by decide +kernel

/-- File 07, worked example: HMARGIN of 310.0 and 281.5 TC, and SLOPE of −128 codes over 4.5526 ms. -/
theorem test_knot_features :
    hmargin [(1, 310, 1), (2, 563, 2), (0, 240, 1)] = 4511 ∧
    ((st []).slope 11900 11772 1165469).2 = 0xF246 := by decide +kernel

/-- File 08, worked example: the fall of 165.435 mm takes 45.651 ms. -/
theorem test_fall_time :
    let s := { st [(BRD_GEOM_PITCH, 4900), (BRD_GRAV_G, 9810)] with
               live := { (st []).live with force := [(EJS_DISTA_D.key, 1500)] } }
    roundDiv (s.fallTime false 3400) 65536000 = 45651 := by decide +kernel

/-- File 10, worked example: 580 mA among cluster, heater and tap. -/
theorem test_budget_grants : grantAll 580 [410, 90, 139] [124, 0, 40] [0, 1, 2] = [410, 90, 80] := by decide +kernel

/-- File 11, worked example: the two windows of the preheat loop. -/
theorem test_preheat_windows :
    piStep 192 128 800 400 0 500 300 = (426, 306, false) ∧
    piStep 384 128 800 400 0 500 306 = (500, 306, true) := by decide +kernel

/-- File 13, worked example: an overrange of tile 9 is source 420, bit 4 of EVT_STAT[13], to EVT1 and the log. -/
theorem test_overrange_event :
    let s := (st [(EVT_ROUTE_ROUTE0 105, 0x4A)]).raise (Src.overrange 9)
    Src.overrange 9 = 420 ∧ s.word 0x534 = 16 ∧ s.get EVT_LOGHEAD_NEXT = 1 ∧ s.get (EVT_CNT_CNT0 105) = 1 := by
  decide +kernel

/-- File 15, worked example: LO and HI of CAL_LASTTIME in one read frame with INC. -/
theorem test_ssp_read_frame :
    let s := { st [(CAL_LASTTIME_LO_STAMP, 0xA05F2000), (CAL_LASTTIME_HI_STAMP, 0x12), (SSP_CTRL_EVTMASK, 1),
                   (EVT_STAT_STAT 13, 16), (EVT_ROUTE_ROUTE0 105, 1)] with ssp := { Ssp.init with ready := true } }
    (s.sspRead false true 0x190D 2).outs =
      [.ssp [0xC1, 0x00, 0x00, 0xC1, 0x00, 0x20, 0x5F, 0xA0, 0x12, 0x00, 0x00, 0x00]] := by decide +kernel

/-- File 16, worked example: equal sums go to the upper module, one cell fewer to the lower. -/
theorem test_ownership : lowerOwns 40 81260 2016 32 = false ∧ lowerOwns 39 79225 2016 32 = true := by decide +kernel

/-- No row of the table has bits: every word is refused, and the state stays. -/
theorem test_no_table_word :
    decodeTableWord 0 0 = none ∧ decodeTableWord 32 0xFFFFFFFF = none ∧
    State.withFetchWord (st []) 16 3 = st [] := by decide +kernel

/-! ### One step each -/

/-- The state after one command. -/
def after (c : Instr) (s : State) : State :=
  match step { s with pending := [c] } with
  | .next t => t
  | _ => s

/-- RUN starts sorting from ready and sets WRERR in warm-up (R427). -/
theorem test_run_from_ready :
    (after (.glbRunWrite .mgmt true) (st [(GLB_STAT_STATE, 2)])).mode = 3 ∧
    (after (.glbRunWrite .mgmt true) (st [(GLB_STAT_STATE, 1)])).get GLB_STAT_WRERR = 1 := by decide +kernel

/-- File 17, worked example: B boots with version 2.5.0, and GLB_FWVER reads 0x102_0500. -/
theorem test_boot_slot_b :
    (after .bootSlotCheck { st [] with flash := { (st []).flash with
      slotB := { Slot.empty with state := 3, valid := true, version := 0x020500 }, active := 1 } }).word 0xC
      = 0x01020500 := by decide +kernel

/-- A rail fault latches cause 3, a software reset with the key cause 5 (R432). -/
theorem test_reset_causes :
    (after (.railFault 2) (st [])).power.latch = 3 ∧ (after (.swrst .mgmt 0x5A) (st [])).power.latch = 5 := by
  decide +kernel

/-- File 10, worked example, as one evaluation of the budget: ARB_GRANT, the heater limit, the tap skip. -/
theorem test_budget_step :
    let s := after (.budgetEval 250 900)
      { st [(ARB_VINLIM_MA, 1300), (ARB_PIXRES_MA, 470), (PWR_CLLEVEL_FULL, 205), (PWR_CLLEVEL_DIV2, 112),
            (PWR_CLLEVEL_DIV4, 62), (PWR_TAPMAX_MAX, 45), (PWR_VIN_VIN, 10800)] with
        live := ⟨[(ETH_TAPCTL_EN.key, 1)], []⟩ }
    [s.get ARB_GRANT_CLUSTER, s.get ARB_GRANT_TAP, s.get ARB_GRANT_HEATER, s.get STG_HTRPWR_LIMIT,
      s.get PWR_CLKDIV_TAPSKIP] = [205, 45, 40, 864, 0] := by decide +kernel

/-- File 15: a frame that ends after the bits 1, 0, 1 delivers the byte 0x05 (R398). -/
theorem test_partial_byte :
    (after (.sspStreamWriteFrame false 0 [0x01, 0x00] 3 5)
      { st [] with ssp := { Ssp.init with ready := true } }).ssp.inbox = [[1, 0, 5]] := by decide +kernel

/-- A Baind header without trailer. -/
def h1 : Hdr := ⟨.mbx 0, 1, none, 0x0142, 0⟩

/-- The bytes of the first reply sent, before its CRC (R359). -/
def reply12 (s : State) : List Nat :=
  match s.outs with
  | .baind _ b :: _ => (b.take 12).map (·.toNat)
  | _ => []

/-- File 14, worked example: the reply to CAL_RUN has FLAGS 0x01, OPCODE 0x0301, SEQ 0x0142. -/
theorem test_cal_run_reply :
    (reply12 (after (.calRun h1)
      { st [(GLB_STAT_STATE, 3)] with power := { (st []).power with fw := true } })).take 6
      = [0x01, 0x01, 0x01, 0x03, 0x42, 0x01] := by decide +kernel

/-- Settings of a tile and its skimming entry (R60 to R62). -/
theorem test_tile_gain : (after (.tilGainWrite .mgmt 4 1) (st [])).get (TIL_GAIN_GAIN 4) = 1 := by decide +kernel

/-- A request of CAL_CTRL.GO in boot starts nothing. -/
theorem test_cal_go_in_boot : (after (.calGo .mgmt) (st [])).get CAL_STATUS_PHASE = 0 := by decide +kernel

/-- MAPSW waits for its boundary (R230 and file 08). -/
theorem test_mapsw : (after (.mapsw .mgmt) (st [(GLB_STAT_STATE, 3)])).get EJS_CTRL_MAPPEND = 1 := by decide +kernel

/-- An overcurrent latches its channel and switches the gate off (R261). -/
theorem test_overcurrent :
    (after (.overcurrent 5) (st [(VLV_STAT_STATE 5, 2)])).get (VLV_STAT_CHFLT 5) = 1 ∧
    (after (.overcurrent 5) (st [(VLV_STAT_STATE 5, 2)])).get (VLV_STAT_CHFLT 4) = 0 := by decide +kernel

/-- PB may not enter retention while sorting runs (R330). -/
theorem test_retention_refused : (after (.memRetctlWrite .mgmt 1) (st [(GLB_STAT_STATE, 3)])).get MEM_STAT_WRERR = 1 ∧
    (after (.memRetctlWrite .mgmt 1) (st [(GLB_STAT_STATE, 3)])).get MEM_RETCTL_PB = 0 := by decide +kernel

/-- The cluster sends up; the management core may not and sets PROTERR (R345). -/
theorem test_mailbox_send :
    (after (.mbxSend (.hart 2) 2 .up) (st [])).get (MBX_UPCTL_COUNT 2) = 1 ∧
    (after (.mbxSend .mgmt 2 .up) (st [])).get (MBX_UPCTL_COUNT 2) = 0 ∧
    (after (.mbxSend .mgmt 2 .up) (st [])).get GLB_STAT_PROTERR = 1 := by decide +kernel

/-- EVT_FORCE sets the status of its source (R351). -/
theorem test_force : (after (.evtForce .mgmt 13 16) (st [])).get (EVT_STAT_STAT 13) = 16 := by decide +kernel

/-- A write of GLB_IDENT, a read-only register, changes nothing (R14). -/
theorem test_read_only : after (.registerWrite .mgmt 0 .word 0xFFFFFFFF none 0) (st []) = st [] := by decide +kernel

/-- An echo period without a chain changes no register. -/
theorem test_echo_period : (after .echoPeriod (st [])).regs = (st []).regs := by decide +kernel

/-- A hart halts for the debugger only with DBGEN (R456). -/
theorem test_debug_halt :
    (after (.debugHalt 1 false) (st [(TMX_CTRL_DBGEN, 1), (GLB_CORECTL_HARTON, 2)])).tmx.halted = [1] ∧
    (after (.debugHalt 1 false) (st [(GLB_CORECTL_HARTON, 2)])).tmx.halted = [] := by decide +kernel

/-- Logic die maximum of one sample (R282). -/
theorem test_thermal_sample :
    (after (.thermalSample [300, 301, 404, 0, 0, 0, 0, 0] [200, 0, 0, 0, 0, 0])
      (st ((List.range 8).map fun i => (THM_TL_VALID i, 1)))).get THM_LMAX_MAX = 404 := by decide +kernel

/-! ### Every hypothesis can be met -/

/-- A step from a state that meets the invariant of EveryStepKeepsMapsCanonical. -/
theorem witness_step_from_canonical :
    ∃ s t : State, mapsWf s = true ∧ step s = .next t :=
  ⟨{ st [(COR_BLEND_K, 7)] with pending := [.jtagInstruction .idcode] }, _, by decide +kernel, rfl⟩

/-- A step from a state that meets the invariant of EveryStepKeepsStateLegal. -/
theorem witness_step_from_legal :
    ∃ s t : State, modeLegal s ∧ step s = .next t :=
  ⟨{ st [(GLB_STAT_STATE, 5)] with pending := [.corOflip .mgmt 1] }, _, by unfold modeLegal; decide +kernel, rfl⟩

/-- A command that answers a next state, as EveryCommandKeepsWhatIsOutsideItsFrame asks. -/
theorem witness_everyCommandKeepsWhatIsOutsideItsFrame :
    ∃ (c : Instr) (s t : State), exec c s = .next t :=
  ⟨.corOflip .mgmt 1, st [], _, rfl⟩

/-- States that meet the hypotheses of each clause of StepRunsTheFrontCommand. -/
theorem witness_stepRunsTheFrontCommand :
  (∃ (s : State) (c : Instr) (r : List Instr), s.pending = c :: r) :=
  ⟨{ st [] with pending := [.echoPeriod, .powerOn true] }, .echoPeriod, [.powerOn true], by decide +kernel⟩

/-- States that meet the hypotheses of each clause of EmptyQueueAdvancesChainTime. -/
theorem witness_emptyQueueAdvancesChainTime :
  (∃ (s : State), s.pending = []) :=
  ⟨st [], by decide +kernel⟩

/-- States that meet the hypotheses of each clause of EveryStepKeepsMapsCanonical. -/
theorem witness_everyStepKeepsMapsCanonical :
  (∃ (s : State), mapsWf s = true) :=
  ⟨{ st [(COR_BLEND_K, 7)] with pending := [.jtagInstruction .idcode] }, by decide +kernel⟩

/-- States that meet the hypotheses of each clause of EveryStepKeepsStateLegal. -/
theorem witness_everyStepKeepsStateLegal :
  (∃ (s : State), modeLegal s) :=
  ⟨st [(GLB_STAT_STATE, 5)], by unfold modeLegal; decide +kernel⟩

/-- States that meet the hypotheses of each clause of PowerAndRailCommandsSequenceThePart. -/
theorem witness_powerAndRailCommandsSequenceThePart :
  (∃ (s : State), s.power.phase = .unpowered) ∧
  (∃ (s : State) (g : Nat), s.power.phase = .sequencing g ∧ g + 1 < 9) ∧
  (∃ (s : State), s.power.phase = .sequencing 8) ∧
  (∃ (s : State), s.power.phase = .held) ∧
  (∃ (s : State), s.power.phase = .unpowered) :=
  ⟨⟨{ st [] with power := ⟨.unpowered, 0, 4, false, false⟩ }, by decide +kernel⟩,
   ⟨{ st [] with power := ⟨.sequencing 7, 1, 0, false, true⟩ }, 7, by decide +kernel⟩,
   ⟨{ st [] with power := ⟨.sequencing 8, 1, 0, false, true⟩ }, by decide +kernel⟩,
   ⟨{ st [(GLB_STAT_STATE, 3)] with power := ⟨.held, 4, 10, false, true⟩ }, by decide +kernel⟩,
   ⟨{ st [] with power := ⟨.unpowered, 3, 0, false, false⟩ }, by decide +kernel⟩⟩

/-- States that meet the hypotheses of each clause of ResetCausesLatchAndSwitchOutputsOff. -/
theorem witness_resetCausesLatchAndSwitchOutputsOff :
  (∃ (s : State), s.power.phase ≠ .unpowered) ∧
  (∃ (s : State), s.power.phase ≠ .unpowered) ∧
  (∃ (s : State), s.power.phase = .on) ∧
  (∃ (s : State), s.power.phase = .on ∧ s.get TMX_CTRL_DBGEN = 1) ∧
  (∃ (s : State) (r : Requester) (key : Nat), s.protected r 0x10 = false ∧ key % 256 = 0x5A) ∧
  (∃ (s : State) (r : Requester) (key : Nat), s.protected r 0x10 = false ∧ key % 256 ≠ 0x5A) :=
  ⟨⟨st [(GLB_STAT_STATE, 3)], by decide +kernel⟩,
   ⟨{ st [] with power := ⟨.sequencing 8, 1, 0, false, true⟩ }, by decide +kernel⟩,
   ⟨st [(GLB_STAT_STATE, 2)], by decide +kernel⟩,
   ⟨st [(TMX_CTRL_DBGEN, 1)], by decide +kernel⟩,
   ⟨((st []).record 0x800 1 2 3), .mgmt, 0x5A, by decide +kernel⟩,
   ⟨st [], .mgmt, 0, by decide +kernel⟩⟩

/-- States that meet the hypotheses of each clause of SafeStateEntrySwitchesOffAndLatchesItsCause. -/
theorem witness_safeStateEntrySwitchesOffAndLatchesItsCause :
  (∃ (s : State) (r : Requester), s.protected r 0x10 = false ∧ s.mode ≠ 4) ∧
  (∃ (s : State), s.mode ≠ 4) ∧
  (∃ (s : State) (r : Requester), s.protected r 0x10 = false ∧ s.mode = 4) ∧
  (∃ (s : State), s.mode = 4) :=
  ⟨⟨st [(GLB_STAT_STATE, 3), (GLB_CTRL_RUN, 1), (ARB_CTRL_EN, 1)], .mgmt, by decide +kernel⟩,
   ⟨st [(GLB_STAT_STATE, 5)], by decide +kernel⟩,
   ⟨st [(GLB_STAT_STATE, 4)], .fw, by decide +kernel⟩,
   ⟨st [(GLB_STAT_STATE, 4)], by decide +kernel⟩⟩

/-- States that meet the hypotheses of each clause of RestartsAreAcceptedOnlyWhenTheirConditionsHold. -/
theorem witness_restartsAreAcceptedOnlyWhenTheirConditionsHold :
  (∃ (s : State) (r : Requester), s.protected r 0x1400 = false ∧ (s.mode = 4 ∧ s.safeCleared = true ∨ s.mode = 5) ∧
    (s.house.shutdown = true → s.coolEnough = true)) ∧
  (∃ (s : State) (r : Requester), s.protected r 0x1400 = false ∧ s.mayRestart = false) ∧
  (∃ (s : State), s.get THM_CTRL_AUTORST = 1 ∧ s.mode = 5 ∧ s.house.shutdown = true ∧ s.coolEnough = true ∧
    s.recentAutos.length < s.get THM_CTRL_AUTOMAX) :=
  ⟨⟨st [(GLB_STAT_STATE, 4), (GLB_SAFECAUSE_CAUSES, 1)], .mgmt, by decide +kernel⟩,
   ⟨st [], .mgmt, by decide +kernel⟩,
   ⟨(let x := st [(GLB_STAT_STATE, 5), (THM_CTRL_AUTORST, 1), (THM_CTRL_AUTOMAX, 3)]; { x with house := { x.house with shutdown := true } }), by decide +kernel⟩⟩

/-- States that meet the hypotheses of each clause of RunAndReadyChangeStateAsTheTableSays. -/
theorem witness_runAndReadyChangeStateAsTheTableSays :
  (∃ (s : State) (r : Requester), s.protected r 0x10 = false ∧ s.mode = 2 ∧ s.get MEM_RETSTAT_RET = 0) ∧
  (∃ (s : State) (r : Requester), s.protected r 0x10 = false ∧ s.mode = 2 ∧ s.get MEM_RETSTAT_RET ≠ 0) ∧
  (∃ (s : State) (r : Requester), s.protected r 0x10 = false ∧ s.mode = 3) ∧
  (∃ (s : State) (r : Requester), s.protected r 0x10 = false ∧ s.mode ≠ 3) ∧
  (∃ (s : State) (r : Requester), s.protected r 0x10 = false ∧ s.mode ≠ 2 ∧ s.mode ≠ 3) ∧
  (∃ (s : State), s.mayReady = true) :=
  ⟨⟨st [(GLB_STAT_STATE, 2)], .mgmt, by decide +kernel⟩,
   ⟨st [(GLB_STAT_STATE, 2), (MEM_RETSTAT_RET, 4)], .mgmt, by decide +kernel⟩,
   ⟨st [(GLB_STAT_STATE, 3), (GLB_CTRL_RUN, 1)], .mgmt, by decide +kernel⟩,
   ⟨{ st [(GLB_STAT_STATE, 2)] with mem := { (st []).mem with startWait := true } }, .mgmt, by decide +kernel⟩,
   ⟨st [], .mgmt, by decide +kernel⟩,
   ⟨(let x := st [(GLB_STAT_STATE, 1), (STG_STAT_LOCK, 1)]; { x with sensor := { x.sensor with biasEn := true }, cal := { x.cal with powered := true } }), by decide +kernel⟩⟩

/-- States that meet the hypotheses of each clause of BootChecksItsSlotAndLoadsItsConfiguration. -/
theorem witness_bootChecksItsSlotAndLoadsItsConfiguration :
  (∃ (s : State), s.power.phase = .on ∧ s.mode = 0 ∧ s.power.fw = false ∧ s.fuses.dev.usable = true ∧ s.get
    FLS_STAT_DISCERR = 0 ∧ s.flash.trial = false ∧ s.flash.recovery = false ∧ s.ssp.inbox = [] ∧ s.ssp.abox = none ∧
    (s.flash.slot s.flash.active).passes = true) ∧
  (∃ (s : State), s.power.phase = .on ∧ s.mode = 0 ∧ s.power.fw = true ∧ s.flash.recovery = false) :=
  ⟨⟨st [], by decide +kernel⟩,
   ⟨(let x := st []; { x with power := { x.power with fw := true } }), by decide +kernel⟩⟩

/-- States that meet the hypotheses of each clause of LogPageCopyMovesPendingEntriesToFlash. -/
theorem witness_logPageCopyMovesPendingEntriesToFlash :
  (∃ (s : State), s.mem.errs = [] ∧ s.flash.logNext < 32768) :=
  ⟨((st []).record 0x800 1 2 3), by decide +kernel⟩

/-- States that meet the hypotheses of each clause of StageRegisterWritesStageTheirSettings. -/
theorem witness_stageRegisterWritesStageTheirSettings :
  (∃ (s : State) (r : Requester), s.protected r 0x2000 = false ∧ s.mode ≠ 3) ∧
  (∃ (s : State) (r : Requester) (v : Word), s.protected r 0x2004 = false ∧ s.notMaster = false ∧ 2000 ≤ fldOf
    STG_FRATE_RATE v ∧ fldOf STG_FRATE_RATE v ≤ 12000) ∧
  (∃ (s : State) (r : Requester) (v : Word), s.protected r 0x2004 = false ∧ (s.notMaster = true ∨ fldOf
    STG_FRATE_RATE v < 2000 ∨ 12000 < fldOf STG_FRATE_RATE v)) ∧
  (∃ (s : State) (r : Requester), s.protected r 0x2008 = false) ∧
  (∃ (s : State) (r : Requester) (v : Word), s.protected r 0x200C = false ∧ 35000 ≤ fldOf STG_SETPT_SETPT v ∧ fldOf
    STG_SETPT_SETPT v ≤ 65000) ∧
  (∃ (s : State) (r : Requester) (v : Word), s.protected r 0x200C = false ∧ (fldOf STG_SETPT_SETPT v < 35000 ∨ 65000
    < fldOf STG_SETPT_SETPT v)) :=
  ⟨⟨st [(GLB_STAT_STATE, 2)], .mgmt, by decide +kernel⟩,
   ⟨st [(CHN_STAT_STATE, 2)], .mgmt, 2000#32, by decide +kernel⟩,
   ⟨st [], .ssp, 1999#32, by decide +kernel⟩,
   ⟨st [], .mgmt, by decide +kernel⟩,
   ⟨st [], .mgmt, 35000#32, by decide +kernel⟩,
   ⟨st [], .mgmt, 65001#32, by decide +kernel⟩⟩

/-- States that meet the hypotheses of each clause of StageSensorsAreReadAveragedExcludedAndReadmitted. -/
theorem witness_stageSensorsAreReadAveragedExcludedAndReadmitted :
  (∃ (s : State) (a : Nat) (b : Nat) (c : Nat) (d : Nat), a < 240000 ∧ b < 240000 ∧ c < 240000 ∧ d < 240000 ∧ (∀ i,
    i < 4 → s.get (STG_TS_EXCL i) = 0) ∧ s.get STG_SETPT_SETPT * 1000 < 2 ^ 40) ∧
  (∃ (s : State) (i : Nat), i < 4 ∧ s.tsUsed i = true ∧ 2 ≤ (s.tsRef i).length ∧ 200 < s.tsDiff2 i ∧ 1000 ≤ mget 0
    s.stage.dis i) ∧
  (∃ (s : State) (i : Nat), i < 4 ∧ s.get (STG_TS_VALID i) = 1 ∧ s.get (STG_TS_EXCL i) = 1 ∧ 1 ≤ (s.tsRef i).length
    ∧ s.tsDiff2 i ≤ 40 ∧ mget 0 s.stage.agree i ≠ 0) ∧
  (∃ (s : State), s.stage.inBand ≠ 0) ∧
  (∃ (s : State), s.get STG_CTRL_HTR_EN = 1 ∧ s.get STG_STAT_UNREG = 0) ∧
  (∃ (s : State), s.heaterOff = false ∧ s.get STG_HTRPWR_LIMIT ≠ 0 ∧ s.get STG_HTRPWR_LIMIT < 4096) :=
  ⟨⟨st [], 0, 239999, 180000, 180001, by decide +kernel⟩,
   ⟨{ st [(STG_TS_TEMP 0, 180000), (STG_TS_VALID 0, 1), (STG_TS_EXCL 0, 0), (STG_TS_TEMP 1, 180000), (STG_TS_VALID 1, 1), (STG_TS_EXCL 1, 0), (STG_TS_TEMP 2, 180000), (STG_TS_VALID 2, 1), (STG_TS_EXCL 2, 0), (STG_TS_TEMP 3, 180101), (STG_TS_VALID 3, 1), (STG_TS_EXCL 3, 0), (STG_STAT_TSVALID, 4)] with stage := { Stage.init with dis := [(3, 1000)] } }, 3, by decide +kernel⟩,
   ⟨{ st [(STG_TS_TEMP 0, 180000), (STG_TS_VALID 0, 1), (STG_TS_EXCL 0, 0), (STG_TS_TEMP 1, 180000), (STG_TS_VALID 1, 1), (STG_TS_EXCL 1, 1), (STG_TS_TEMP 2, 180000), (STG_TS_VALID 2, 1), (STG_TS_EXCL 2, 1), (STG_TS_TEMP 3, 180020), (STG_TS_VALID 3, 1), (STG_TS_EXCL 3, 1)] with stage := { Stage.init with agree := [(3, 5000001)] } }, 3, by decide +kernel⟩,
   ⟨{ st [] with stage := { Stage.init with inBand := 1 } }, by decide +kernel⟩,
   ⟨st [(STG_CTRL_HTR_EN, 1)], by decide +kernel⟩,
   ⟨st [(STG_STAT_UNREG, 1), (STG_CTRL_HTR_EN, 1), (STG_TS_VALID 0, 1)], by decide +kernel⟩⟩

/-- States that meet the hypotheses of each clause of TileGainTrimAndSkimmingWritesAreStaged. -/
theorem witness_tileGainTrimAndSkimmingWritesAreStaged :
  (∃ (s : State) (r : Requester) (n : Nat), s.protected r (0x4000 + 0x100 * n) = false ∧ n < s.nTiles) ∧
  (∃ (s : State) (r : Requester) (n : Nat), s.protected r (0x4000 + 0x100 * n) = false ∧ s.nTiles ≤ n) ∧
  (∃ (s : State) (r : Requester) (n : Nat), s.protected r (0x4008 + 0x100 * n) = false ∧ n < s.nTiles ∧ s.trimsHeld
    = false) ∧
  (∃ (s : State) (r : Requester) (n : Nat), s.protected r (0x4008 + 0x100 * n) = false ∧ n < s.nTiles ∧ s.trimsHeld
    = true) ∧
  (∃ (s : State) (r : Requester) (n : Nat) (i : Nat), s.protected r (0x4000 + 0x100 * n + (0x20 + 4 * i)) = false ∧
    n < s.nTiles ∧ i < 16 ∧ s.trimsHeld = false) ∧
  (∃ (s : State) (r : Requester) (n : Nat) (i : Nat), s.protected r (0x4000 + 0x100 * n + (0x20 + 4 * i)) = false ∧
    n < s.nTiles ∧ i < 16 ∧ s.trimsHeld = true) :=
  ⟨⟨st [], .mgmt, 31, by decide +kernel⟩,
   ⟨st [], .mgmt, 32, by decide +kernel⟩,
   ⟨st [(TIL_PTSEL_INDEX 3, 4095), (TIL_PTSEL_AUTOINC 3, 1)], .mgmt, 3, by decide +kernel⟩,
   ⟨st [(CAL_STATUS_PHASE, 4)], .mgmt, 3, by decide +kernel⟩,
   ⟨st [], .mgmt, 31, 15, by decide +kernel⟩,
   ⟨st [(CAL_STATUS_PHASE, 8)], .mgmt, 31, 15, by decide +kernel⟩⟩

/-- States that meet the hypotheses of each clause of SliceFactorRotationAndParkingWritesActOnTheirTile. -/
theorem witness_sliceFactorRotationAndParkingWritesActOnTheirTile :
  (∃ (s : State) (r : Requester) (n : Nat), s.protected r (0x406C + 0x100 * n) = false ∧ n < s.nTiles ∧ s.mode ≠ 3 ∧
    (∀ m, m < s.nTiles → s.get (TIL_CVSTAT_SCAL_BUSY m) = 0) ∧ s.sensor.laneLost = false) ∧
  (∃ (s : State) (r : Requester) (n : Nat), s.protected r (0x406C + 0x100 * n) = false ∧ n < s.nTiles ∧ s.mode ≠ 3 ∧
    (∀ m, m < s.nTiles → s.get (TIL_CVSTAT_SCAL_BUSY m) = 0) ∧ s.sensor.laneLost = true) ∧
  (∃ (s : State) (r : Requester) (n : Nat), s.protected r (0x406C + 0x100 * n) = false ∧ n < s.nTiles ∧ (s.mode = 3
    ∨ s.get (TIL_CVSTAT_SCAL_BUSY n) = 1)) ∧
  (∃ (s : State) (r : Requester) (n : Nat), s.protected r (0x4060 + 0x100 * n) = false ∧ n < s.nTiles ∧
    s.fuses.nk1024 = false) ∧
  (∃ (s : State) (r : Requester) (n : Nat), s.protected r (0x4060 + 0x100 * n) = false ∧ n < s.nTiles ∧
    s.fuses.nk1024 = false ∧ s.biasOff = false ∧ s.get (TIL_CVSTAT_SCAL_BUSY n) = 0) ∧
  (∃ (s : State) (r : Requester) (n : Nat) (k : Nat) (i : Nat), s.protected r (0x407C + 0x100 * n) = false ∧ n <
    s.nTiles ∧ s.fuses.nk1024 = false ∧ k < 256 ∧ i < 4 ∧ ((s.tile n).spare i).phase ≠ .parked ∧ (s.tile n).parkedOn
    k = false) ∧
  (∃ (s : State) (r : Requester) (n : Nat) (k : Nat) (i : Nat), s.protected r (0x407C + 0x100 * n) = false ∧ n <
    s.nTiles ∧ s.fuses.nk1024 = false ∧ k < 256 ∧ i < 4 ∧ (((s.tile n).spare i).phase = .parked ∨ (s.tile
    n).parkedOn k = true)) ∧
  (∃ (s : State) (r : Requester) (n : Nat) (i : Nat), s.protected r (0x407C + 0x100 * n) = false ∧ n < s.nTiles ∧
    s.fuses.nk1024 = false ∧ i < 4 ∧ ((s.tile n).spare i).phase = .parked) :=
  ⟨⟨st [(TIL_CFSEL_INDEX 5, 255), (TIL_CFSEL_AUTOINC 5, 1)], .mgmt, 5, by decide +kernel⟩,
   ⟨{ st [] with sensor := { Sensor.init with laneLost := true } }, .mgmt, 5, by decide +kernel⟩,
   ⟨st [(GLB_STAT_STATE, 3)], .mgmt, 5, by decide +kernel⟩,
   ⟨(st [(TIL_CVCTRL_ROTEN 2, 1)]).startRotation 2, .mgmt, 2, by decide +kernel⟩,
   ⟨{ st [(TIL_CVCTRL_ROTEN 2, 0)] with sensor := { Sensor.init with biasEn := true } }, .mgmt, 31, by decide +kernel⟩,
   ⟨st [], .mgmt, 0, 255, 3, by decide +kernel⟩,
   ⟨(st []).setTile 0 (Tile.init.setSpare 1 { Spare.init with phase := .parked, slice := 255 }), .mgmt, 0, 255, 3, by decide +kernel⟩,
   ⟨(st []).setTile 0 (Tile.init.setSpare 1 { Spare.init with phase := .parked, slice := 255 }), .mgmt, 0, 1, by decide +kernel⟩⟩

/-- States that meet the hypotheses of each clause of ConvertedRowGroupsSpareVisitsAndSelfCalibration. -/
theorem witness_convertedRowGroupsSpareVisitsAndSelfCalibration :
  (∃ (s : State) (n : Nat) (h : Header), n < s.nTiles ∧ s.get (TIL_CVSTAT_SCAL_BUSY n) = 0 ∧ s.underTest 1 n = false
    ∧ (s.tile n).swap = none ∧ (s.tile n).integ = some h ∧ h.frame = s.frameCnt % 65536 ∧ h.rgrp < 15) ∧
  (∃ (s : State) (n : Nat) (i : Nat), n < s.nTiles ∧ i < 4 ∧ s.fuses.nk1024 = false ∧ ((s.tile n).spare i).phase =
    .idle ∧ ((s.tile n).spare i).parkOn = none ∧ ((s.tile n).spare i).rot = true) ∧
  (∃ (s : State) (n : Nat) (i : Nat) (g : Int) (o : Int), n < s.nTiles ∧ i < 4 ∧ s.fuses.nk1024 = false ∧ ((s.tile
    n).spare i).phase = .serving ∧ ((s.tile n).spare i).slice < 256 ∧ plausible g o = true ∧ s.get
    (TIL_CVSTAT_SCAL_BUSY n) = 0) ∧
  (∃ (s : State) (r : Requester) (n : Nat), s.protected r (0x4060 + 0x100 * n) = false ∧ n < s.nTiles ∧ s.mode ≠ 3 ∧
    s.get (TIL_CVSTAT_SCAL_BUSY n) = 0 ∧ s.sensor.laneLost = false) ∧
  (∃ (s : State) (r : Requester) (n : Nat), s.protected r (0x4060 + 0x100 * n) = false ∧ n < s.nTiles ∧ s.mode ≠ 3 ∧
    s.get (TIL_CVSTAT_SCAL_BUSY n) = 0 ∧ s.sensor.laneLost = true) ∧
  (∃ (s : State) (r : Requester) (n : Nat), s.protected r (0x4060 + 0x100 * n) = false ∧ n < s.nTiles ∧ (s.mode = 3
    ∨ s.get (TIL_CVSTAT_SCAL_BUSY n) = 1)) ∧
  (∃ (s : State) (n : Nat) (fs : List (Int × Int)), n < s.nTiles ∧ s.get (TIL_CVSTAT_SCAL_BUSY n) = 1 ∧
    s.fuses.nk1024 = false ∧ fs.length = 260 ∧ (∀ p ∈ fs, plausible p.1 p.2 = true) ∧ s.opRuns 0x0304 = false) :=
  ⟨⟨(st [(STG_FRAMECNT_COUNT, 7)]).setTile 4 { Tile.init with integ := some { (st []).newHeader 4 14 with frame := 7 }, ovr1 := [3] }, 4, { (st []).newHeader 4 14 with frame := 7 }, by decide +kernel⟩,
   ⟨(st []).setTile 31 ({ Tile.init with next := 255 }.setSpare 3 { Spare.init with rot := true, due := 5001 }), 31, 3, by decide +kernel⟩,
   ⟨(st []).setTile 0 ((Tile.init.setSpare 3 { Spare.init with phase := .serving, slice := 255, due := 5001 }).setFactor 255 ⟨0x4000, 0, false, 2⟩), 0, 3, 0x4800, -512, by decide +kernel⟩,
   ⟨(st []).startRotation 6, .mgmt, 6, by decide +kernel⟩,
   ⟨{ st [] with sensor := { Sensor.init with laneLost := true } }, .mgmt, 6, by decide +kernel⟩,
   ⟨st [(GLB_STAT_STATE, 3)], .mgmt, 6, by decide +kernel⟩,
   ⟨st [(TIL_CVSTAT_SCAL_BUSY 9, 1)], 9, (List.range 260).map (fun k => ((0x3800 : Int) + k, (k : Int) - 512)), by decide +kernel⟩⟩

/-- States that meet the hypotheses of each clause of TetherReceiversTakeSlipAndRealign. -/
theorem witness_tetherReceiversTakeSlipAndRealign :
  (∃ (s : State) (n : Nat) (g : RowGroup) (rest : List RowGroup), n < s.nTiles ∧ s.get (TIL_CVSTAT_SCAL_BUSY n) = 0
    ∧ s.tmx.mode = 0 ∧ s.rxInvalid n (s.rx n).frame = false ∧ (s.rx n).missing = false ∧ (s.tile n).sent = g :: rest
    ∧ rowCrc g.words = g.hdr.crc ∧ s.headerBad n (s.rx n).frame (s.rx n).rgrp g.hdr = false ∧ s.lanePlace n = ((s.rx
    n).frame, (s.rx n).rgrp) ∧ (∀ w ∈ g.words, bitOf w 14 = false)) ∧
  (∃ (s : State) (n : Nat), n < s.nTiles) ∧
  (∃ (s : State) (r : Requester) (n : Nat), s.protected r (0x4080 + 0x100 * n) = false ∧ n < s.nTiles) ∧
  (∃ (s : State) (n : Nat), n < s.nTiles ∧ (s.rx n).slipped = true) ∧
  (∃ (s : State) (n : Nat), n < s.nTiles ∧ (s.rx n).slipped = true) ∧
  (∃ (s : State) (n : Nat) (f : Nat), n < s.nTiles ∧ (s.rx n).slipped = true ∧ s.tmx.mode = 0 ∧ (s.rx n).frame < 2 ^
    32 ∧ (s.rx n).rgrp < 16 ∧ 0 ≤ placeDiff ((s.fullFrame f + 1) % 2 ^ 32, 0) ((s.rx n).frame, (s.rx n).rgrp)) ∧
  (∃ (s : State) (n : Nat) (f : Nat), n < s.nTiles ∧ (s.rx n).slipped = false ∧ s.get (TIL_TXSTAT_ALIGNED n) = 1 ∧
    s.tmx.mode = 0 ∧ (s.rx n).frame < 2 ^ 32 ∧ (s.rx n).rgrp < 16 ∧ 0 ≤ placeDiff ((s.fullFrame f + 1) % 2 ^ 32, 0)
    ((s.rx n).frame, (s.rx n).rgrp)) ∧
  (∃ (s : State) (n : Nat), n < s.nTiles ∧ (s.rx n).slipped = false ∧ s.get (TIL_TXSTAT_ALIGNED n) = 0) :=
  ⟨⟨(st []).setTile 2 { Tile.init with sent := [okGroup] }, 2, okGroup, [], by exact ⟨by decide +kernel, by decide +kernel, by decide +kernel, by decide +kernel, by decide +kernel, rfl, by simp only [okGroup], by decide +kernel, by decide +kernel⟩⟩,
   ⟨(st [(TIL_TXSLIPCNT_COUNT 2, 65535)]).setRx 2 { Rx.init with fifo := [okGroup] }, 2, by decide +kernel⟩,
   ⟨(st []).setRx 2 { Rx.init with fifo := [okGroup] }, .ssp, 2, by decide +kernel⟩,
   ⟨(st []).setRx 2 { Rx.init with slipped := true }, 2, by decide +kernel⟩,
   ⟨(st []).setRx 31 { Rx.init with slipped := true }, 31, by decide +kernel⟩,
   ⟨(st []).setRx 2 { Rx.init with slipped := true, rgrp := 13 }, 2, 0, by decide +kernel⟩,
   ⟨(st [(TIL_TXSTAT_ALIGNED 2, 1)]).setRx 2 { Rx.init with rgrp := 15 }, 2, 0, by decide +kernel⟩,
   ⟨(st []).setRx 2 { Rx.init with rgrp := 15 }, 2, by decide +kernel⟩⟩

/-- States that meet the hypotheses of each clause of ControlLaneCarriesLosesAndResendsSettings. -/
theorem witness_controlLaneCarriesLosesAndResendsSettings :
  (∃ (s : State), s.sensor.laneLost = false) ∧
  (∃ (s : State), s.sensor.laneLost = true) :=
  ⟨⟨(st []).stagePut (.level 5), by decide +kernel⟩,
   ⟨{ (st []).stagePut (.level 5) with sensor := { ((st []).stagePut (.level 5)).sensor with laneLost := true } }, by decide +kernel⟩⟩

/-- States that meet the hypotheses of each clause of CorrectionWritesActWhileSortingIsStopped. -/
theorem witness_correctionWritesActWhileSortingIsStopped :
  (∃ (s : State) (r : Requester), s.protected r 0x6008 = false ∧ s.mode ≠ 3) ∧
  (∃ (s : State) (r : Requester), s.protected r 0x6008 = false ∧ s.mode = 3) ∧
  (∃ (s : State) (r : Requester), s.protected r 0x6010 = false ∧ s.mode ≠ 3 ∧ s.get COR_BLEND_BUSY ≠ 1) ∧
  (∃ (s : State) (r : Requester) (v : Word), s.protected r 0x6010 = false ∧ v.toNat % 2 ^ s.nTiles ≠ 0 ∧ (s.mode = 3
    ∨ s.get COR_BLEND_BUSY = 1)) ∧
  (∃ (s : State) (r : Requester) (n : Nat), s.protected r 0x6014 = false ∧ s.mode ≠ 3 ∧ s.get COR_BLEND_BUSY ≠ 1 ∧ n
    < 8192) ∧
  (∃ (s : State) (r : Requester), s.protected r 0x6014 = false ∧ (s.mode = 3 ∨ s.get COR_BLEND_BUSY = 1)) ∧
  (∃ (s : State) (r : Requester) (d : Nat), s.protected r 0x6014 = false ∧ s.mode ≠ 3 ∧ s.corr.blend = .waiting d) ∧
  (∃ (s : State) (r : Requester), s.protected r 0x6014 = false ∧ s.mode ≠ 3 ∧ s.corr.blend = .running) ∧
  (∃ (s : State) (r : Requester), s.protected r 0x6014 = false ∧ s.mode = 3) ∧
  (∃ (s : State) (r : Requester) (j : Nat), s.protected r (0x6100 + 4 * j) = false ∧ j < s.nLanes / 32) :=
  ⟨⟨st [], .mgmt, by decide +kernel⟩,
   ⟨st [(GLB_STAT_STATE, 3)], .mgmt, by decide +kernel⟩,
   ⟨st [(COR_OFLIP_FLIP, 1)], .mgmt, by decide +kernel⟩,
   ⟨st [(GLB_STAT_STATE, 3)], .mgmt, 0x8000#32, by decide +kernel⟩,
   ⟨st [], .mgmt, 8191, by decide +kernel⟩,
   ⟨st [(COR_BLEND_BUSY, 1)], .mgmt, by decide +kernel⟩,
   ⟨{ st [(COR_BLEND_BUSY, 1)] with corr := { Corr.init with blend := .waiting 5 } }, .mgmt, 5, by decide +kernel⟩,
   ⟨{ st [(COR_BLEND_BUSY, 1)] with corr := { Corr.init with blend := .running } }, .mgmt, by decide +kernel⟩,
   ⟨st [(GLB_STAT_STATE, 3)], .mgmt, by decide +kernel⟩,
   ⟨st [], .mgmt, 63, by decide +kernel⟩⟩

/-- States that meet the hypotheses of each clause of CalibrationTriggersStartTheGrantPhase. -/
theorem witness_calibrationTriggersStartTheGrantPhase :
  (∃ (s : State) (r : Requester), s.protected r 0x6400 = false ∧ s.calPhase = 0 ∧ s.get PWR_STAT_DIP ≠ 1 ∧
    s.tmx.mode = 0 ∧ s.mode = 2 ∧ s.get CHN_STAT_STATE ≠ 3) ∧
  (∃ (s : State), s.mode = 1 ∧ s.get STG_STAT_LOCK = 1 ∧ s.get STG_STAT_SETTLE = 0 ∧ s.cal.tries < 3 ∧ s.cal.retryAt
    ≤ s.time ∧ s.cal.deferAt ≤ s.time ∧ s.calPhase = 0 ∧ s.get PWR_STAT_DIP ≠ 1 ∧ s.tmx.mode = 0 ∧ s.get
    CHN_STAT_STATE ≠ 3) ∧
  (∃ (s : State), s.mode = 1 ∧ s.get STG_STAT_LOCK = 1 ∧ s.get STG_STAT_SETTLE = 0 ∧ 0 < s.cal.tries ∧ s.cal.tries <
    3 ∧ s.cal.retryAt % 2 = 0 ∧ s.cal.deferAt ≤ s.time ∧ s.calPhase = 0 ∧ s.get PWR_STAT_DIP ≠ 1 ∧ s.tmx.mode = 0 ∧
    s.get CHN_STAT_STATE ≠ 3) ∧
  (∃ (s : State), s.calPhase = 0 ∧ s.get PWR_STAT_DIP ≠ 1 ∧ s.tmx.mode = 0 ∧ s.mode = 2 ∧ s.get CHN_STAT_STATE ≠ 3 ∧
    s.get CAL_STATUS_PENDING &&& s.cal.deferred ≠ 0 ∧ s.cal.deferAt % 2 = 0) ∧
  (∃ (s : State), s.calPhase = 0 ∧ s.get PWR_STAT_DIP ≠ 1 ∧ s.tmx.mode = 0 ∧ s.mode = 2 ∧ s.get CHN_STAT_STATE ≠ 3 ∧
    s.driftTrig = true ∧ s.cal.lastEnd = 0 ∧ s.cal.deferAt ≤ s.time) ∧
  (∃ (s : State), s.get STG_STAT_TSVALID < 2 ∧ s.get CAL_MAXINT_SEC = 0 ∧ s.get CAL_STATUS_PENDING = 0) ∧
  (∃ (s : State), s.calPhase = 1 ∧ s.cal.grantAt = none ∧ s.get CHN_STAT_STATE = 1 ∧ s.chain.asked = true) :=
  ⟨⟨st [(GLB_STAT_STATE, 2), (CHN_STAT_STATE, 0), (CAL_STATUS_PENDING, 9)], .mgmt, by decide +kernel⟩,
   ⟨st [(GLB_STAT_STATE, 1), (CHN_STAT_STATE, 0), (STG_STAT_LOCK, 1), (STG_STAT_SETTLE, 0)], by decide +kernel⟩,
   ⟨{ st [(GLB_STAT_STATE, 1), (CHN_STAT_STATE, 0), (STG_STAT_LOCK, 1), (STG_STAT_SETTLE, 0)] with cal := { Cal.init with tries := 2, retryAt := 5000000000 } }, by decide +kernel⟩,
   ⟨{ st [(GLB_STAT_STATE, 2), (CHN_STAT_STATE, 0), (CAL_STATUS_PENDING, 1)] with cal := { Cal.init with lastEnd := 7, deferred := 1, deferAt := 600000000000 } }, by decide +kernel⟩,
   ⟨st [(GLB_STAT_STATE, 2), (CHN_STAT_STATE, 0), (CAL_CTRL_DRIFT_EN, 1), (STG_STAT_TSVALID, 4), (STG_TEMP_TEMP, 1000), (CAL_DT_DT, 30), (CAL_LASTSTAGE_TEMP, 939)], by decide +kernel⟩,
   ⟨st [(CAL_MAXINT_SEC, 0), (STG_STAT_TSVALID, 1)], by decide +kernel⟩,
   ⟨{ st [(CHN_STAT_STATE, 1), (CAL_STATUS_PHASE, 1), (CAL_STATUS_PENDING, 1)] with cal := { Cal.init with served := 4, asked := 11 }, chain := { Chain.init with asked := true } }, by decide +kernel⟩⟩

/-- States that meet the hypotheses of each clause of FlagConfirmationsTimeoutsAndAbortsDriveTheCalibration. -/
theorem witness_flagConfirmationsTimeoutsAndAbortsDriveTheCalibration :
  (∃ (s : State) (w : LySense), s.lySees w true = true ∧ s.lySearch true = true ∧ s.calPhase = 2 ∧ s.get
    COR_OSEL_ACT = 0) ∧
  (∃ (s : State) (w : LySense), s.lySees w false = true ∧ s.lySearch false = true ∧ s.calPhase = 5) ∧
  (∃ (s : State), s.calPhase = 2) ∧
  (∃ (s : State), s.calPhase = 5 ∧ s.cal.openAt = 0) ∧
  (∃ (s : State) (r : Requester), s.protected r 0x6400 = false ∧ (s.calPhase = 2 ∨ s.calPhase = 3 ∨ s.calPhase = 4)
    ∧ s.cal.dead = false) ∧
  (∃ (s : State) (r : Requester), s.protected r 0x6400 = false ∧ s.calPhase = 1) :=
  ⟨⟨{ st [(CAL_STATUS_PHASE, 2), (ARB_LYSTAT_STATE, 2), (ARB_LYCFG_SRC, 1)] with time := 12345678 }, .lypos true, by decide +kernel⟩,
   ⟨(let x := { st [(CAL_STATUS_PHASE, 5), (CAL_STATUS_STUCK, 1)] with time := 123456789 }; { x with valves := { x.valves with drives := [(128, { Drive.init with after := true })] } }), .kink, by decide +kernel⟩,
   ⟨st [(CAL_STATUS_PHASE, 2), (ARB_LYCTRL_ENERGISE, 1), (ARB_LYSTAT_STATE, 2)], by decide +kernel⟩,
   ⟨{ st [(CAL_STATUS_PHASE, 5)] with cal := { Cal.init with releasedAt := 17 } }, by decide +kernel⟩,
   ⟨st [(CAL_STATUS_PHASE, 4), (ARB_LYCTRL_ENERGISE, 1), (ARB_LYSTAT_STATE, 4)], .mgmt, by decide +kernel⟩,
   ⟨{ st [(CAL_STATUS_PHASE, 1), (CHN_STAT_STATE, 1)] with chain := { Chain.init with asked := true } }, .mgmt, by decide +kernel⟩⟩

/-- States that meet the hypotheses of each clause of CalibrationPhasesAdvanceToTheirEnd. -/
theorem witness_calibrationPhasesAdvanceToTheirEnd :
  (∃ (s : State), s.calPhase = 3) ∧
  (∃ (s : State), s.calPhase = 4) ∧
  (∃ (s : State), s.calPhase = 5 ∧ s.get CAL_STATUS_COMPUTE = 1 ∧ s.cal.dead = false) ∧
  (∃ (s : State), s.calPhase = 5 ∧ s.cal.openAt ≠ 0) ∧
  (∃ (s : State), s.calPhase = 7 ∧ s.cal.copying = true ∧ s.cal.dead = true ∧ s.get CAL_STATUS_PENDING = 0) ∧
  (∃ (s : State), s.calPhase = 8 ∧ s.cal.steps = [] ∧ s.get CAL_STATUS_PENDING = 0) :=
  ⟨⟨{ st [(CAL_STATUS_PHASE, 3)] with cal := { Cal.init with closedAt := 1001 } }, by decide +kernel⟩,
   ⟨st [(CAL_STATUS_PHASE, 4), (ARB_LYCTRL_ENERGISE, 1), (ARB_LYSTAT_STATE, 4)], by decide +kernel⟩,
   ⟨{ st [(CAL_STATUS_PHASE, 5), (CAL_STATUS_COMPUTE, 1)] with cal := { Cal.init with caps := [(0, ⟨4, 32768, 268435456⟩)] } }, by decide +kernel⟩,
   ⟨{ st [(CAL_STATUS_PHASE, 5)] with cal := { Cal.init with openAt := 1002 } }, by decide +kernel⟩,
   ⟨{ st [(CAL_STATUS_PHASE, 7), (COR_TREF_A_TEMP, 5)] with cal := { Cal.init with copying := true, dead := true }, corr := { Corr.init with pb := [(0, 77)] } }, by decide +kernel⟩,
   ⟨{ st [(CAL_STATUS_PHASE, 8)] with cal := { Cal.init with handFrames := 64, mp := [(0, 200000)] } }, by decide +kernel⟩⟩

/-- States that meet the hypotheses of each clause of BackdropGainRefreshRunsThroughItsWindows. -/
theorem witness_backdropGainRefreshRunsThroughItsWindows :
  (∃ (s : State) (r : Requester), s.protected r 0x6400 = false ∧ s.calPhase = 0 ∧ s.get LOOP_CTRL_BKEN = 1 ∧ s.get
    STG_STAT_LOCK = 1) ∧
  (∃ (s : State) (r : Requester), s.protected r 0x6400 = false ∧ s.calPhase = 1 ∧ s.cal.grantAt = none ∧
    s.chain.asked = false ∧ s.get LOOP_CTRL_BKEN = 1 ∧ s.get STG_STAT_LOCK = 1) ∧
  (∃ (s : State) (r : Requester), s.protected r 0x6400 = false ∧ (2 ≤ s.calPhase ∨ s.calPhase = 1 ∧ s.cal.grantAt ≠
    none ∨ s.get LOOP_CTRL_BKEN ≠ 1 ∨ s.get STG_STAT_LOCK ≠ 1)) ∧
  (∃ (s : State), s.gref.phase = .window1) ∧
  (∃ (s : State), s.gref.phase = .wait) ∧
  (∃ (s : State), s.gref.phase = .wait ∧ s.get CAL_STATUS_PENDING = 0 ∧ s.opRuns 0x0302 = false) ∧
  (∃ (s : State), s.gref.phase = .window2 ∧ 1000 * s.grefGains.2 ≤ s.get CAL_LIMITS_FRAC * s.goodPixels 0 ∧
    s.grefGains.2 < 2 ^ 18) ∧
  (∃ (s : State), s.gref.phase = .back ∧ s.get CAL_STATUS_PENDING = 0 ∧ s.opRuns 0x0302 = false) ∧
  (∃ (s : State) (r : Requester), s.protected r 0x6400 = false ∧ s.mode = 2 ∧ s.get CAL_GREF_PENDAPPLY = 1 ∧
    s.pbBusy = false ∧ s.calPhase = 0 ∧ s.get PWR_STAT_DIP ≠ 1 ∧ s.tmx.mode = 0 ∧ s.get CHN_STAT_STATE ≠ 3) ∧
  (∃ (s : State) (r : Requester) (p : Nat) (g : Nat), s.protected r 0x6400 = false ∧ s.mode = 2 ∧ s.get
    CAL_GREF_PENDAPPLY = 1 ∧ s.pbBusy = false ∧ s.gref.held = [(p, g)] ∧ g < 16384) :=
  ⟨⟨st [(LOOP_CTRL_BKEN, 1), (STG_STAT_LOCK, 1)], .mgmt, by decide +kernel⟩,
   ⟨st [(CAL_STATUS_PHASE, 1), (LOOP_CTRL_BKEN, 1), (STG_STAT_LOCK, 1)], .mgmt, by decide +kernel⟩,
   ⟨st [], .mgmt, by decide +kernel⟩,
   ⟨{ st [] with gref := { Gref.init with phase := .window1 } }, by decide +kernel⟩,
   ⟨{ st [] with gref := { Gref.init with phase := .wait } }, by decide +kernel⟩,
   ⟨{ st [(CAL_STATUS_PHASE, 10), (CAL_GREF_BUSY, 1), (LOOP_STAT_GREF, 1)] with gref := { Gref.init with phase := .wait } }, by decide +kernel⟩,
   ⟨{ st ((CAL_STATUS_PHASE, 10) :: (CAL_LIMITS_FRAC, 100) :: (List.range 64).map fun i => (COR_LANEBAD_BAD i, if i = 0 then 2 ^ 32 - 2 else 2 ^ 32 - 1)) with corr := { Corr.init with pb := (List.range 64).map fun r => (256 * r + 1, 4096) }, gref := { Gref.init with phase := .window2, w1 := (List.range 64).map fun r => (64 * r, ⟨100, 1638400, 0⟩), w2 := (List.range 64).map fun r => (64 * r, ⟨100, 1638400 + 160000 + 160000 * (r / 63), 0⟩), n1 := 100, n2 := 100, raised := true } }, by decide +kernel⟩,
   ⟨{ st [(CAL_STATUS_PHASE, 10), (CAL_GREF_BUSY, 1), (LOOP_STAT_GREF, 1)] with gref := { Gref.init with phase := .back } }, by decide +kernel⟩,
   ⟨{ st [(GLB_STAT_STATE, 2), (CHN_STAT_STATE, 0), (CAL_GREF_PENDAPPLY, 1)] with gref := { Gref.init with held := [(5, 4097)] } }, .mgmt, by decide +kernel⟩,
   ⟨{ st [(GLB_STAT_STATE, 2), (CHN_STAT_STATE, 0), (CAL_GREF_PENDAPPLY, 1)] with gref := { Gref.init with held := [(5, 4097)] }, corr := { Corr.init with pb := [(21, 0xFFFFFFFF)] } }, .mgmt, 5, 4097, by decide +kernel⟩⟩

/-- States that meet the hypotheses of each clause of BraidParameterWritesAskForNewTables. -/
theorem witness_braidParameterWritesAskForNewTables :
  (∃ (s : State) (r : Requester) (v : Word), s.protected r 0x6810 = false ∧ 500 ≤ fldOf BRD_VNOM_V v ∧ fldOf
    BRD_VNOM_V v ≤ 8000) ∧
  (∃ (s : State) (r : Requester) (v : Word), s.protected r 0x6810 = false ∧ (fldOf BRD_VNOM_V v < 500 ∨ 8000 < fldOf
    BRD_VNOM_V v)) ∧
  (∃ (s : State) (r : Requester) (v : Word), s.protected r 0x6818 = false ∧ 100 ≤ fldOf BRD_GEOM_PITCH v ∧ fldOf
    BRD_GEOM_PITCH v ≤ 20000 ∧ 0 ≤ fldOf BRD_GEOM_TILT v ∧ fldOf BRD_GEOM_TILT v ≤ 600) ∧
  (∃ (s : State) (r : Requester) (v : Word), s.protected r 0x6818 = false ∧ (fldOf BRD_GEOM_PITCH v < 100 ∨ 20000 <
    fldOf BRD_GEOM_PITCH v ∨ fldOf BRD_GEOM_TILT v < 0 ∨ 600 < fldOf BRD_GEOM_TILT v)) ∧
  (∃ (s : State) (r : Requester) (v : Word), s.protected r 0x681C = false ∧ 9760 ≤ fldOf BRD_GRAV_G v ∧ fldOf
    BRD_GRAV_G v ≤ 9840) ∧
  (∃ (s : State) (r : Requester) (v : Word), s.protected r 0x681C = false ∧ (fldOf BRD_GRAV_G v < 9760 ∨ 9840 <
    fldOf BRD_GRAV_G v)) ∧
  (∃ (s : State) (r : Requester) (v : Word), s.protected r 0x6820 = false ∧ 1 ≤ fldOf BRD_HYPSET_K v ∧ fldOf
    BRD_HYPSET_K v ≤ 5 ∧ 4 ≤ fldOf BRD_HYPSET_SPACING v ∧ fldOf BRD_HYPSET_SPACING v ≤ 64) ∧
  (∃ (s : State) (r : Requester) (v : Word), s.protected r 0x6820 = false ∧ (fldOf BRD_HYPSET_K v < 1 ∨ 5 < fldOf
    BRD_HYPSET_K v ∨ fldOf BRD_HYPSET_SPACING v < 4 ∨ 64 < fldOf BRD_HYPSET_SPACING v)) ∧
  (∃ (s : State) (r : Requester) (v : Word), s.protected r 0x6808 = false ∧ fldOf BRD_UNLAY_BETA v ≤ 16) ∧
  (∃ (s : State) (r : Requester) (v : Word), s.protected r 0x6808 = false ∧ 16 < fldOf BRD_UNLAY_BETA v) :=
  ⟨⟨st [(BRD_CTRL_AUTO, 1)], .mgmt, 8000#32, by decide +kernel⟩,
   ⟨st [], .mgmt, 499#32, by decide +kernel⟩,
   ⟨st [(BRD_CTRL_AUTO, 1)], .mgmt, (BitVec.ofNat 32 (100 + 600 * 65536)), by decide +kernel⟩,
   ⟨st [], .mgmt, (BitVec.ofNat 32 (100 + 601 * 65536)), by decide +kernel⟩,
   ⟨st [(BRD_CTRL_AUTO, 1)], .mgmt, 9840#32, by decide +kernel⟩,
   ⟨st [], .mgmt, 9841#32, by decide +kernel⟩,
   ⟨st [(BRD_CTRL_AUTO, 1)], .mgmt, (BitVec.ofNat 32 (5 + 64 * 16)), by decide +kernel⟩,
   ⟨st [], .mgmt, 0#32, by decide +kernel⟩,
   ⟨st [], .mgmt, 0x110#32, by decide +kernel⟩,
   ⟨st [], .mgmt, 17#32, by decide +kernel⟩⟩

/-- States that meet the hypotheses of each clause of TableSetsAreComputedCheckedSwitchedAndTracked. -/
theorem witness_tableSetsAreComputedCheckedSwitchedAndTracked :
  (∃ (s : State), s.braid.busy = true ∧ s.get BRD_CTRL_AUTO = 1 ∧ s.braid.late = false ∧ s.shadowBusy = false ∧
    s.braid.swDue = none ∧ s.braid.waitSet = none ∧ s.get STG_FRATE_RATE = s.sensor.rate ∧ 1 ≤ s.get BRD_HYPSET_K ∧
    s.fits (computedSet (s.tableInputs s.sensor.rate) (s.get BRD_HYPSET_K)) s.truncDue = true) ∧
  (∃ (s : State), s.braid.busy = true ∧ s.braid.waitSet = none ∧ s.get STG_FRATE_RATE ≠ s.sensor.rate) ∧
  (∃ (s : State) (r : Requester) (v : Word), s.protected r 0x682C = false ∧ fldOf BRD_TCMD_SWITCH v = 1 ∧ s.get
    BRD_CTRL_AUTO ≠ 1 ∧ s.shadowBusy = false ∧ TSet.ordered
    { s.braid.shadow with k := fldOf BRD_TCMD_NEWK v } = true ∧ s.fits
    { s.braid.shadow with k := fldOf BRD_TCMD_NEWK v } s.truncDue = true) ∧
  (∃ (s : State) (r : Requester) (v : Word), s.protected r 0x682C = false ∧ fldOf BRD_TCMD_SWITCH v = 1 ∧ s.get
    BRD_CTRL_AUTO ≠ 1 ∧ s.shadowBusy = false ∧ TSet.ordered
    { s.braid.shadow with k := fldOf BRD_TCMD_NEWK v } = false) ∧
  (∃ (s : State) (r : Requester), s.protected r 0x6800 = false) ∧
  (∃ (s : State) (n : Nat) (m : Int), s.get BRD_CTRL_TRACK = 1 ∧ s.get BRD_CTRL_AUTO = 1 ∧ 2 ≤ s.braid.active.k ∧
    s.braid.active.k ≤ 5 ∧ (n = sumN ((List.range s.braid.active.k).map fun k => s.get (BRD_HYPCNT_COUNT k))) ∧ (m =
    sumI ((List.range s.braid.active.k).map fun (k : Nat) => (2 * (k : Int) - ((s.braid.active.k : Int) - 1)) *
    (s.get (BRD_HYPCNT_COUNT k) : Int))) ∧ s.get BRD_TRACK_MINCNT ≤ n ∧ 0 < n ∧ s.get BRD_TRACK_THRESH * 2 * n <
    m.natAbs * 16) :=
  ⟨⟨{ st [(BRD_CTRL_AUTO, 1), (BRD_HYPSET_K, 1)] with braid := { Braid.init with busy := true } }, by decide +kernel⟩,
   ⟨{ st [(BRD_CTRL_AUTO, 1), (STG_FRATE_RATE, 8000)] with braid := { Braid.init with busy := true } }, by decide +kernel⟩,
   ⟨st [(BRD_CTRL_AUTO, 0)], .mgmt, 0x51#32, by decide +kernel⟩,
   ⟨st [(BRD_CTRL_AUTO, 0)], .mgmt, 0x61#32, by decide +kernel⟩,
   ⟨st [], .mgmt, by decide +kernel⟩,
   ⟨{ st [(BRD_CTRL_TRACK, 1), (BRD_CTRL_AUTO, 1), (BRD_TRACK_MINCNT, 10), (BRD_TRACK_THRESH, 1), (BRD_HYPCNT_COUNT 2, 100), (BRD_VLIM_VMIN, 500), (BRD_VLIM_VMAX, 8000)] with braid := { Braid.init with active := ⟨1, 3, []⟩ } }, 100, 200, by decide +kernel⟩⟩

/-- States that meet the hypotheses of each clause of ThresholdsBanksAndScheduleSettingsWaitForTheirBoundary. -/
theorem witness_thresholdsBanksAndScheduleSettingsWaitForTheirBoundary :
  (∃ (s : State) (r : Requester) (v : Word), s.protected r 0x7008 = false ∧ fldOf KNT_THR_CLOSE v ≤ fldOf
    KNT_THR_OPEN v) ∧
  (∃ (s : State) (r : Requester) (v : Word), s.protected r 0x7008 = false ∧ fldOf KNT_THR_OPEN v < fldOf
    KNT_THR_CLOSE v) ∧
  (∃ (s : State) (r : Requester), s.protected r 0x7400 = false ∧ s.get VRD_CTRL_SWPEND ≠ 1) ∧
  (∃ (s : State) (r : Requester), s.protected r 0x7400 = false ∧ s.get VRD_CTRL_SWPEND = 1) ∧
  (∃ (s : State) (r : Requester), s.protected r 0x7800 = false ∧ s.get EJS_CTRL_MAPPEND ≠ 1) ∧
  (∃ (s : State) (r : Requester), s.protected r 0x7800 = false) ∧
  (∃ (s : State) (r : Requester), s.protected r 0x7800 = false) ∧
  (∃ (s : State) (r : Requester) (v : Word), s.protected r 0x7808 = false ∧ 100 ≤ fldOf EJS_DISTA_D v ∧ fldOf
    EJS_DISTA_D v ≤ 20000) ∧
  (∃ (s : State) (r : Requester) (v : Word), s.protected r 0x7808 = false ∧ (fldOf EJS_DISTA_D v < 100 ∨ 20000 <
    fldOf EJS_DISTA_D v)) ∧
  (∃ (s : State) (r : Requester) (v : Word), s.protected r 0x780C = false ∧ 100 ≤ fldOf EJS_DISTB_D v ∧ fldOf
    EJS_DISTB_D v ≤ 20000) ∧
  (∃ (s : State) (r : Requester) (v : Word), s.protected r 0x780C = false ∧ (fldOf EJS_DISTB_D v < 100 ∨ 20000 <
    fldOf EJS_DISTB_D v)) ∧
  (∃ (s : State) (r : Requester) (v : Word), s.protected r 0x7810 = false ∧ fldOf EJS_MARGIN_TMARG v ≤ 5000) ∧
  (∃ (s : State) (r : Requester) (v : Word), s.protected r 0x7810 = false ∧ 5000 < fldOf EJS_MARGIN_TMARG v) ∧
  (∃ (s : State) (r : Requester) (v : Word), s.protected r 0x7814 = false ∧ fldOf EJS_MERGE_GAP v ≤ 8000) ∧
  (∃ (s : State) (r : Requester) (v : Word), s.protected r 0x7814 = false ∧ 8000 < fldOf EJS_MERGE_GAP v) ∧
  (∃ (s : State) (r : Requester), s.protected r 0x7818 = false) :=
  ⟨⟨st [], .mgmt, 0x00800080#32, by decide +kernel⟩,
   ⟨st [], .mgmt, 0x00810080#32, by decide +kernel⟩,
   ⟨st [], .mgmt, by decide +kernel⟩,
   ⟨st [(VRD_CTRL_SWPEND, 1)], .mgmt, by decide +kernel⟩,
   ⟨st [], .mgmt, by decide +kernel⟩,
   ⟨{ (st []) with time := 500, sched := { Sched.init with queues := [(5, [ent 700]), (127, [ent 400, ent 600])] } }, .mgmt, by decide +kernel⟩,
   ⟨st [], .mgmt, by decide +kernel⟩,
   ⟨st [], .mgmt, 20000#32, by decide +kernel⟩,
   ⟨st [], .mgmt, 20001#32, by decide +kernel⟩,
   ⟨st [], .mgmt, 100#32, by decide +kernel⟩,
   ⟨st [], .mgmt, 99#32, by decide +kernel⟩,
   ⟨st [], .mgmt, 0x000F1388#32, by decide +kernel⟩,
   ⟨st [], .mgmt, 0x000F1389#32, by decide +kernel⟩,
   ⟨st [], .mgmt, 8000#32, by decide +kernel⟩,
   ⟨st [], .mgmt, 8001#32, by decide +kernel⟩,
   ⟨st [], .mgmt, by decide +kernel⟩⟩

/-- States that meet the hypotheses of each clause of FrameBoundariesAdvanceTheGridAndApplySettings. -/
theorem witness_frameBoundariesAdvanceTheGridAndApplySettings :
  (∃ (s : State), s.sensor.staged = [] ∧ s.chain.rateNext = none ∧ s.sensor.removeBias = false ∧ s.sensor.rampJ = 0
    ∧ s.calPhase = 0) :=
  ⟨st [(STG_FRAMECNT_COUNT, 9)], by decide +kernel⟩

/-- States that meet the hypotheses of each clause of RowGroupsSlicesVerdictsAndSplicesMoveOn. -/
theorem witness_rowGroupsSlicesVerdictsAndSplicesMoveOn :
  (∃ (s : State) (n : Nat) (occ : Nat) (g : RowGroup) (rest : List RowGroup), n < s.nTiles ∧ s.mem.errs = [] ∧ 1 ≤
    occ ∧ occ ≤ 32 ∧ (s.rx n).fifo = g :: rest) ∧
  (∃ (s : State) (n : Nat) (occ : Nat) (g : RowGroup) (rest : List RowGroup), n < s.nTiles ∧ s.mem.errs = [] ∧ 1 ≤
    occ ∧ s.pipeStopped = false ∧ (s.rx n).fifo = g :: rest ∧ g.words.length = 256 ∧ g.hdr.invalid = true) ∧
  (∃ (s : State), s.mem.errs = []) ∧
  (∃ (s : State) (q : Closed) (rest : List Closed), s.mem.errs = [] ∧ s.knots.queue = q :: rest) ∧
  (∃ (s : State) (q : Closed) (rest : List Closed), s.mem.errs = [] ∧ s.knots.queue = q :: rest ∧ bitOf (s.get
    VRD_FORCEEN_EN) 0 = true ∧ bitOf q.flags 6 = true) ∧
  (∃ (s : State) (q : SpliceReq) (c : Nat) (o : Nat) (f : Nat), (s.get CHN_STAT_STATE = 1 ∨ s.get CHN_STAT_STATE =
    2) ∧ s.mem.errs = [] ∧ s.get CHN_OFFSET_LANE0 ≤ q.last ∧ q.first < s.get CHN_OFFSET_LANE0 + s.nLanes ∧ s.chansOf
    (q.row && s.twoRows) (q.first - s.get CHN_OFFSET_LANE0) (min (q.last - s.get CHN_OFFSET_LANE0) (s.nLanes - 1)) =
    [c] ∧ s.queueOf c = [] ∧ o = edge10 (65536 * q.tL - 65536 * 100 * s.leadOf c - 65536 * 1000 * s.inForce
    EJS_MARGIN_TMARG) ∧ f = edge10 (65536 * q.tT - 65536 * 100 * s.leadOf c + 65536 * 1000 * s.inForce
    EJS_MARGIN_TMARG) ∧ s.time + 10000 ≤ o ∧ o + 200000 ≤ f ∧ f ≤ o + 20000000) ∧
  (∃ (s : State), (s.get CHN_STAT_STATE = 0 ∨ s.get CHN_STAT_STATE = 3)) :=
  ⟨⟨(st []).setRx 2 { Rx.init with fifo := [tinyGroup] }, 2, 17, tinyGroup, [], by decide +kernel⟩,
   ⟨{ ((st []).setRx 2 { Rx.init with fifo := [badGroup] }) with braid := { Braid.init with ub := [(4096 * 2, 5)] } }, 2, 17, badGroup, [], by decide +kernel⟩,
   ⟨{ st [(STG_FRAMECNT_COUNT, 9)] with braid := { Braid.init with slices := [⟨0, 3, 550, 7000, 0, 10, none, 0, false, false, 1, []⟩], truncated := true } }, by decide +kernel⟩,
   ⟨{ st [(VRD_SEQ_NEXT, 65535)] with knots := { KStage.init with queue := [knotQ] } }, knotQ, [], by decide +kernel⟩,
   ⟨{ st [(VRD_FORCEEN_EN, 1), (VRD_FORCECLS_CLS, 15)] with knots := { KStage.init with queue := [{ knotQ with flags := 64 }] } }, { knotQ with flags := 64 }, [], by decide +kernel⟩,
   ⟨{ st [(CHN_STAT_STATE, 1), (CHN_OFFSET_LANE0, 2048)] with sched := { Sched.init with map := [(5, 0x87)] } }, ⟨1, 77, false, 40000000, 41000000, 2053, 2053⟩, 7, edge10 (65536 * 40000000 - 65536 * 100 * (st []).leadOf 7 - 65536 * 1000 * (st []).inForce EJS_MARGIN_TMARG), edge10 (65536 * 41000000 - 65536 * 100 * (st []).leadOf 7 + 65536 * 1000 * (st []).inForce EJS_MARGIN_TMARG), by decide +kernel⟩,
   ⟨st [(CHN_STAT_STATE, 3)], by decide +kernel⟩⟩

/-- States that meet the hypotheses of each clause of FiringsOpenOrAreDroppedAtTheirOpen. -/
theorem witness_firingsOpenOrAreDroppedAtTheirOpen :
  (∃ (s : State) (c : Nat) (k : Nat) (e : Entry), (s.queueOf c).find? (fun x => !x.began) = some e ∧ (s.queueOf
    c).find? (·.began) = none ∧ c < s.nChans ∧ s.mem.errs = [] ∧ (s.drive c).closeW = false ∧ s.openCause c = some
    k) ∧
  (∃ (s : State) (c : Nat) (e : Entry), (s.queueOf c).find? (fun x => !x.began) = some e ∧ (s.queueOf c).find?
    (·.began) = none ∧ c < s.nChans ∧ s.mem.errs = [] ∧ (s.drive c).closeW = false ∧ s.openCause c = none ∧ s.get
    (VLV_STAT_CLIMIT c) = 1 ∧ e.blindF = false ∧ s.get (VLV_CTRL_POLICY c) ≠ 1) ∧
  (∃ (s : State) (c : Nat) (e : Entry), (s.queueOf c).find? (fun x => !x.began) = some e ∧ (s.queueOf c).find?
    (·.began) = none ∧ c < s.nChans ∧ s.mem.errs = [] ∧ (s.drive c).closeW = false ∧ s.openCause c = none ∧ s.get
    (VLV_STAT_CLIMIT c) = 1 ∧ e.blindF = true) ∧
  (∃ (s : State) (c : Nat) (e : Entry), (s.queueOf c).find? (fun x => !x.began) = some e ∧ (s.queueOf c).find?
    (·.began) = none ∧ c < s.nChans ∧ s.mem.errs = [] ∧ (s.drive c).closeW = false ∧ s.openCause c = none ∧ s.get
    (VLV_STAT_CLIMIT c) ≠ 1 ∧ s.get (ARB_PROF_PEAK_IPEAK (s.get (VLV_CTRL_PROF c))) = 0) ∧
  (∃ (s : State) (c : Nat) (e : Entry), (s.queueOf c).find? (fun x => !x.began) = some e ∧ (s.queueOf c).find?
    (·.began) = none ∧ c < s.nChans ∧ s.mem.errs = [] ∧ (s.drive c).closeW = false ∧ s.openCause c = none ∧ s.get
    (VLV_STAT_CLIMIT c) ≠ 1 ∧ s.get (ARB_PROF_PEAK_IPEAK (s.get (VLV_CTRL_PROF c))) ≠ 0 ∧ s.get ARB_WAIT_US ≠ 0) :=
  ⟨⟨{ st [(ARB_CTRL_EN, 1), (VLV_CTRL_EN 9, 1)] with sched := { Sched.init with queues := [(9, [ent 7000])] } }, 9, 8, ent 7000, by decide +kernel⟩,
   ⟨{ st [(ARB_CTRL_EN, 1), (VLV_CTRL_EN 9, 1), (VBK_CTRL_EN 1, 1), (VLV_STAT_CLIMIT 9, 1)] with sched := { Sched.init with queues := [(9, [ent 7000])] } }, 9, ent 7000, by decide +kernel⟩,
   ⟨{ st [(ARB_CTRL_EN, 1), (VLV_CTRL_EN 9, 1), (VBK_CTRL_EN 1, 1), (VLV_STAT_CLIMIT 9, 1)] with sched := { Sched.init with queues := [(9, [{ ent 7000 with blindF := true }])] } }, 9, { ent 7000 with blindF := true }, by decide +kernel⟩,
   ⟨{ st [(ARB_CTRL_EN, 1), (VLV_CTRL_EN 9, 1), (VBK_CTRL_EN 1, 1), (VLV_CTRL_PROF 9, 3), (ARB_PROF_HOLD_IHOLD 3, 200)] with sched := { Sched.init with queues := [(9, [ent 7000])] } }, 9, ent 7000, by decide +kernel⟩,
   ⟨{ st [(ARB_CTRL_EN, 1), (VLV_CTRL_EN 9, 1), (VBK_CTRL_EN 1, 1), (VLV_CTRL_PROF 9, 3), (ARB_PROF_PEAK_IPEAK 3, 200)] with sched := { Sched.init with queues := [(9, [ent 7000])] } }, 9, ent 7000, by decide +kernel⟩⟩

/-- States that meet the hypotheses of each clause of TokensAreGrantedInOrderAndRequestsRunOut. -/
theorem witness_tokensAreGrantedInOrderAndRequestsRunOut :
  (∃ (s : State) (c : Nat), (s.waiting.find? (fun c => s.tokenFree c (s.inState 2).length (s.inState 3).length) =
    some c) ∧ (s.drive c).closeW = false) ∧
  (∃ (s : State), (s.waiting.find? (fun c => s.tokenFree c (s.inState 2).length (s.inState 3).length) = none)) ∧
  (∃ (s : State) (c : Nat) (e : Entry), c < s.nChans ∧ s.get (VLV_STAT_STATE c) = 1 ∧ (s.queueOf c).find? (·.began)
    = some e ∧ (s.advance (floor2 (s.deadline c))).grantable c = false) ∧
  (∃ (s : State) (c : Nat), c < s.nChans ∧ s.get (VLV_STAT_STATE c) = 1 ∧ (s.advance (floor2 (s.deadline
    c))).grantable c = true ∧ (s.drive c).closeW = false) ∧
  (∃ (s : State) (c : Nat), s.get (VLV_STAT_STATE c) ≠ 1 ∧ c < s.nChans) :=
  ⟨⟨st [(VLV_STAT_STATE 9, 1), (ARB_PROF_PEAK_FALLBACK 0, 1)], 9, by decide +kernel⟩,
   ⟨st [(VLV_STAT_STATE 9, 1)], by decide +kernel⟩,
   ⟨{ st [(VLV_STAT_STATE 9, 1)] with sched := { Sched.init with queues := [(9, [{ ent 7000 with began := true }])] }, valves := { Valves.init with drives := [(9, { Drive.init with waitEnd := 7500 })] } }, 9, { ent 7000 with began := true }, by decide +kernel⟩,
   ⟨st [(VLV_STAT_STATE 9, 1), (ARB_PROF_PEAK_FALLBACK 0, 1)], 9, by decide +kernel⟩,
   ⟨st [], 9, by decide +kernel⟩⟩

/-- States that meet the hypotheses of each clause of PeaksHoldsAndChopPeriodsEndAsTheProfileSays. -/
theorem witness_peaksHoldsAndChopPeriodsEndAsTheProfileSays :
  (∃ (s : State) (c : Nat), c < s.nChans ∧ (s.get (VLV_STAT_STATE c) = 2 ∨ s.get (VLV_STAT_STATE c) = 3)) ∧
  (∃ (s : State) (c : Nat), c < s.nChans ∧ s.get (VLV_STAT_STATE c) ≠ 2 ∧ s.get (VLV_STAT_STATE c) ≠ 3) ∧
  (∃ (s : State) (c : Nat) (i : Nat), c < s.nChans ∧ (s.get (VLV_STAT_STATE c) = 2 ∨ s.get (VLV_STAT_STATE c) = 3) ∧
    (s.drive c).ipeak ≤ 4 * i) ∧
  (∃ (s : State) (c : Nat) (i : Nat), c < s.nChans ∧ (s.get (VLV_STAT_STATE c) = 2 ∨ s.get (VLV_STAT_STATE c) = 3) ∧
    4 * i < (s.drive c).ipeak) ∧
  (∃ (s : State) (c : Nat), c < s.nChans ∧ s.get (VLV_STAT_STATE c) = 5 ∧ (s.drive c).after = false) ∧
  (∃ (s : State), s.get ARB_LYSTAT_STATE = 5 ∧ (s.drive 128).after = false) ∧
  (∃ (s : State), (s.get ARB_LYSTAT_STATE = 2 ∨ s.get ARB_LYSTAT_STATE = 3)) ∧
  (∃ (s : State) (c : Nat), c < s.nChans ∧ (s.get (VLV_STAT_STATE c) ≠ 5 ∨ (s.drive c).after = true)) ∧
  (∃ (s : State) (b : Nat) (i : List Nat), b ≤ 16 ∧ ((s.chansOn b).all fun c => s.chState c != 4 || !(s.drive
    c).whole || decide ((s.drive c).ihold ≤ 4 * i.getD (c % 8) 0)) = true) :=
  ⟨⟨{ st [(VLV_STAT_STATE 9, 3)] with valves := { Valves.init with drives := [(9, { Drive.init with prof := [200, 90] })] } }, 9, by decide +kernel⟩,
   ⟨st [], 9, by decide +kernel⟩,
   ⟨{ st [(VLV_STAT_STATE 9, 2)] with valves := { Valves.init with drives := [(9, { Drive.init with prof := [200, 90] })] } }, 9, 50, by decide +kernel⟩,
   ⟨{ st [(VLV_STAT_STATE 9, 2)] with valves := { Valves.init with drives := [(9, { Drive.init with prof := [200, 90], loads := 2 })] } }, 9, 49, by decide +kernel⟩,
   ⟨st [(VLV_STAT_STATE 9, 5)], 9, by decide +kernel⟩,
   ⟨st [(ARB_LYSTAT_STATE, 5)], by decide +kernel⟩,
   ⟨st [(ARB_LYSTAT_STATE, 3)], by decide +kernel⟩,
   ⟨{ st [(VLV_STAT_STATE 9, 5)] with valves := { Valves.init with drives := [(9, { Drive.init with after := true })] } }, 9, by decide +kernel⟩,
   ⟨{ st [(VLV_STAT_STATE 9, 4)] with valves := { Valves.init with drives := [(9, { Drive.init with prof := [0, 0, 0, 100, 7] })] } }, 1, [0, 25], by decide +kernel⟩⟩

/-- States that meet the hypotheses of each clause of FiringsCloseChainAndDecay. -/
theorem witness_firingsCloseChainAndDecay :
  (∃ (s : State) (c : Nat) (n : Nat) (e : Entry), c < s.nChans ∧ (s.queueOf c).find? (·.began) = some e ∧ e.cls =
    some n ∧ s.get (VLV_STAT_STATE c) = 1 ∧ e.fin ≤ (s.drive c).waitEnd ∧ (s.advance (floor2 n)).grantable c =
    false) ∧
  (∃ (s : State) (c : Nat) (n : Nat) (e : Entry) (f : Entry), c < s.nChans ∧ (s.queueOf c).find? (·.began) = some e
    ∧ e.cls = some n ∧ (s.queueOf c).find? (fun x => !x.began) = some f ∧ f.opn = n ∧ 2 ≤ s.get (VLV_STAT_STATE c) ∧
    s.get (VLV_STAT_STATE c) ≤ 4 ∧ s.openCause c = none ∧ s.get (VLV_STAT_CLIMIT c) = 0) ∧
  (∃ (s : State) (c : Nat) (n : Nat) (e : Entry), c < s.nChans ∧ (s.queueOf c).find? (·.began) = some e ∧ e.cls =
    some n ∧ (s.queueOf c).find? (fun x => !x.began) = none ∧ 2 ≤ s.get (VLV_STAT_STATE c) ∧ ¬(s.get (VLV_STAT_STATE
    c) = 5 ∧ (s.drive c).after = true) ∧ s.get (VLV_MOVE_SRC c) = 0) ∧
  (∃ (s : State) (c : Nat), ((s.queueOf c).find? (·.began)).any (fun e => e.cls.isSome) = false) ∧
  (∃ (s : State) (c : Nat), c < s.nChans ∧ s.get (VLV_STAT_STATE c) = 5 ∧ (s.drive c).after = true) ∧
  (∃ (s : State), s.get ARB_LYSTAT_STATE = 5 ∧ (s.drive 128).after = true) ∧
  (∃ (s : State) (c : Nat), c < s.nChans ∧ (s.get (VLV_STAT_STATE c) ≠ 5 ∨ (s.drive c).after = false)) :=
  ⟨⟨{ st [(VLV_STAT_STATE 9, 1)] with sched := { Sched.init with queues := [(9, [{ ent 7000 with began := true }])] }, valves := { Valves.init with drives := [(9, { Drive.init with waitEnd := 9000 })] } }, 9, 8000, { ent 7000 with began := true }, by decide +kernel⟩,
   ⟨{ st [(VLV_STAT_STATE 9, 4), (ARB_CTRL_EN, 1), (VLV_CTRL_EN 9, 1), (VBK_CTRL_EN 1, 1)] with sched := { Sched.init with queues := [(9, [{ ent 7000 with began := true }, ent 8000])] } }, 9, 8000, { ent 7000 with began := true }, ent 8000, by decide +kernel⟩,
   ⟨{ st [(VLV_STAT_STATE 9, 4)] with sched := { Sched.init with queues := [(9, [{ ent 7000 with began := true }])] } }, 9, 8000, { ent 7000 with began := true }, by decide +kernel⟩,
   ⟨st [(VLV_STAT_STATE 9, 4)], 9, by decide +kernel⟩,
   ⟨{ st [(VLV_STAT_STATE 9, 5)] with valves := { Valves.init with drives := [(9, { Drive.init with after := true })] } }, 9, by decide +kernel⟩,
   ⟨{ st [(ARB_LYSTAT_STATE, 5)] with valves := { Valves.init with drives := [(128, { Drive.init with after := true })] } }, by decide +kernel⟩,
   ⟨st [(VLV_STAT_STATE 9, 5)], 9, by decide +kernel⟩⟩

/-- States that meet the hypotheses of each clause of MovementIsMeasuredOrReportedMissing. -/
theorem witness_movementIsMeasuredOrReportedMissing :
  (∃ (s : State) (c : Nat) (x : Nat) (y : Nat), c < s.nChans ∧ s.get (VLV_MOVE_SRC c) = 2 ∧ (s.drive c).openW = true
    ∧ 200 * (s.drive c).ow.1 ≤ x ∧ x ≤ 200 * (s.drive c).ow.2 ∧ s.get (VBK_KINK_ITHR (c / 8)) ≤ y) ∧
  (∃ (s : State) (c : Nat) (x : Nat) (y : Nat), (s.nChans ≤ c ∨ s.get (VLV_MOVE_SRC c) ≠ 2 ∨ (s.drive c).openW =
    false ∨ x < 200 * (s.drive c).ow.1 ∨ 200 * (s.drive c).ow.2 < x ∨ y < s.get (VBK_KINK_ITHR (c / 8)))) ∧
  (∃ (s : State) (c : Nat) (x : Nat) (y : Nat), c < s.nChans ∧ s.get (VLV_MOVE_SRC c) = 2 ∧ (s.drive c).closeW =
    true ∧ 200 * (s.drive c).cw.1 ≤ x ∧ x ≤ 200 * (s.drive c).cw.2 ∧ s.get (VBK_KINK_VTHR (c / 8)) ≤ y ∧ s.get
    (VBK_TRCTL_ARM (c / 8)) = 0) ∧
  (∃ (s : State) (c : Nat) (x : Nat) (y : Nat), (s.nChans ≤ c ∨ s.get (VLV_MOVE_SRC c) ≠ 2 ∨ (s.drive c).closeW =
    false ∨ x < 200 * (s.drive c).cw.1 ∨ 200 * (s.drive c).cw.2 < x ∨ y < s.get (VBK_KINK_VTHR (c / 8)))) ∧
  (∃ (s : State) (i : Nat) (c : Nat) (l : Bool), (List.range s.nChans).filter (fun c => s.moveSrc c == 1 && s.get
    (VLV_MOVE_POS c) == i) = [c] ∧ (s.drive c).openW = true ∧ inWindow ((s.time - (s.drive c).on) / 100) (s.drive
    c).ow = true ∧ l = (s.get (VLV_MOVE_POL c) != 1)) ∧
  (∃ (s : State) (i : Nat) (c : Nat) (l : Bool), (List.range s.nChans).filter (fun c => s.moveSrc c == 1 && s.get
    (VLV_MOVE_POS c) == i) = [c] ∧ (s.drive c).closeW = true ∧ inWindow ((s.time - (s.drive c).off) / 100) (s.drive
    c).cw = true ∧ l = (s.get (VLV_MOVE_POL c) == 1)) ∧
  (∃ (s : State) (i : Nat), (List.range s.nChans).filter (fun c => s.moveSrc c == 1 && s.get (VLV_MOVE_POS c) == i)
    = []) ∧
  (∃ (s : State) (c : Nat), c < s.nChans ∧ (s.drive c).openW = true ∧ s.get (VLV_MOVE_OPENREQ c) = 1) ∧
  (∃ (s : State) (c : Nat), c < s.nChans ∧ (s.drive c).openW = true ∧ s.get (VLV_MOVE_OPENREQ c) ≠ 1) ∧
  (∃ (s : State) (c : Nat), (s.nChans ≤ c ∨ (s.drive c).openW = false)) ∧
  (∃ (s : State) (c : Nat), c < s.nChans ∧ (s.drive c).closeW = true ∧ s.get (VBK_TRCTL_ARM (c / 8)) = 0) ∧
  (∃ (s : State) (c : Nat), (s.nChans ≤ c ∨ (s.drive c).closeW = false)) :=
  ⟨⟨{ st [(VLV_MOVE_SRC 9, 2)] with valves := { Valves.init with drives := [(9, { Drive.init with openW := true, prof := [0, 0, 0, 0, 0, 0, 3, 9] })] } }, 9, 600, 30, by decide +kernel⟩,
   ⟨{ st [(VLV_MOVE_SRC 9, 2)] with valves := { Valves.init with drives := [(9, { Drive.init with openW := true, prof := [0, 0, 0, 0, 0, 0, 3, 9] })] } }, 9, 599, 30, by decide +kernel⟩,
   ⟨{ st [(VLV_MOVE_SRC 9, 2)] with valves := { Valves.init with drives := [(9, { Drive.init with closeW := true, prof := [0, 0, 0, 0, 0, 0, 0, 0, 3, 9] })] } }, 9, 1800, 300, by decide +kernel⟩,
   ⟨st [], 9, 1800, 300, by decide +kernel⟩,
   ⟨{ { st [(VLV_MOVE_SRC 9, 1), (VLV_MOVE_POS 9, 15)] with valves := { Valves.init with drives := [(9, { Drive.init with openW := true, prof := [0, 0, 0, 0, 0, 0, 0, 9] })] } } with time := 1000 }, 15, 9, true, by decide +kernel⟩,
   ⟨{ { st [(VLV_MOVE_SRC 9, 1), (VLV_MOVE_POS 9, 15)] with valves := { Valves.init with drives := [(9, { Drive.init with closeW := true, prof := [0, 0, 0, 0, 0, 0, 0, 0, 0, 9] })] } } with time := 1000 }, 15, 9, false, by decide +kernel⟩,
   ⟨st [], 15, by decide +kernel⟩,
   ⟨{ st [(VLV_MOVE_OPENREQ 9, 1)] with valves := { Valves.init with drives := [(9, { Drive.init with openW := true })] } }, 9, by decide +kernel⟩,
   ⟨{ st [] with valves := { Valves.init with drives := [(9, { Drive.init with openW := true })] } }, 9, by decide +kernel⟩,
   ⟨st [], 9, by decide +kernel⟩,
   ⟨{ st [] with valves := { Valves.init with drives := [(9, { Drive.init with closeW := true })] } }, 9, by decide +kernel⟩,
   ⟨st [], 9, by decide +kernel⟩⟩

/-- States that meet the hypotheses of each clause of DriveFaultsLatchAndWritesClearThem. -/
theorem witness_driveFaultsLatchAndWritesClearThem :
  (∃ (s : State) (c : Nat), c < s.nChans ∧ 2 ≤ s.get (VLV_STAT_STATE c) ∧ s.get (VLV_STAT_STATE c) ≤ 4) ∧
  (∃ (s : State) (c : Nat), (s.chState c < 2 ∨ 4 < s.chState c) ∧ (s.drive c).slow = false) ∧
  (∃ (s : State), 2 ≤ s.get ARB_LYSTAT_STATE ∧ s.get ARB_LYSTAT_STATE ≤ 4 ∧ s.calPhase = 0) ∧
  (∃ (s : State) (c : Nat), c < s.nChans ∧ 2 ≤ s.get (VLV_STAT_STATE c) ∧ s.get (VLV_STAT_STATE c) ≤ 4) ∧
  (∃ (s : State) (c : Nat), (s.chState c < 2 ∨ 4 < s.chState c) ∧ (s.drive c).slow = false) ∧
  (∃ (s : State), 2 ≤ s.get ARB_LYSTAT_STATE ∧ s.get ARB_LYSTAT_STATE ≤ 4 ∧ s.calPhase = 0) ∧
  (∃ (s : State) (b : Nat), b < s.nBanks ∧ s.rail b ≠ 0) ∧
  (∃ (s : State) (b : Nat), s.rail b = 0) ∧
  (∃ (s : State) (b : Nat), b = 16 ∧ s.rail b ≠ 0 ∧ s.calPhase = 0) ∧
  (∃ (s : State) (b : Nat), b < s.nBanks ∧ s.rail b = 0 ∧ ((s.chansOn b).all fun c => s.chState c != 5) = true) ∧
  (∃ (s : State) (b : Nat), s.rail b ≠ 0) ∧
  (∃ (s : State) (b : Nat), b = 16 ∧ s.rail b = 0 ∧ ((s.chansOn b).all fun c => s.chState c != 5) = true ∧
    s.calPhase = 0) ∧
  (∃ (s : State) (r : Requester) (c : Nat), c < s.nChans ∧ s.protected r (0x8000 + 0x40 * c) = false) ∧
  (∃ (s : State) (r : Requester) (c : Nat), c < s.nBanks ∧ s.protected r (0xA000 + 0x80 * c) = false) ∧
  (∃ (s : State) (c : Nat), s.nChans ≤ c) ∧
  (∃ (s : State) (r : Requester) (c : Nat) (v : Word) (e : Entry), c < s.nChans ∧ s.protected r (0x8000 + 0x40 * c)
    = false ∧ (s.queueOf c).find? (·.began) = some e ∧ bits v.toNat 0 1 = 0 ∧ bits v.toNat 5 1 = 0 ∧ 2 ≤ s.get
    (VLV_STAT_STATE c) ∧ s.get (VLV_STAT_STATE c) ≤ 4) ∧
  (∃ (s : State) (r : Requester) (c : Nat) (v : Word), c < s.nChans ∧ s.protected r (0x8000 + 0x40 * c) = false ∧
    bits v.toNat 0 1 = 1 ∧ bits v.toNat 5 1 = 0) ∧
  (∃ (s : State) (r : Requester), s.protected r 0xAA00 = false ∧ s.mode = 3) ∧
  (∃ (s : State) (r : Requester), s.protected r 0xAA00 = false ∧ s.mode ≠ 3 ∧ s.get ARB_LYSTAT_FLT ≠ 1 ∧ (s.get
    ARB_LYSTAT_STATE = 0 ∨ s.get ARB_LYSTAT_STATE = 5) ∧ (s.drive 128).closeW = false) ∧
  (∃ (s : State) (r : Requester), s.protected r 0xAA00 = false ∧ s.mode ≠ 3 ∧ 2 ≤ s.get ARB_LYSTAT_STATE ∧ s.get
    ARB_LYSTAT_STATE ≤ 4) ∧
  (∃ (s : State) (r : Requester), s.protected r 0xAA00 = false) :=
  ⟨⟨{ st [(VLV_STAT_STATE 9, 4)] with sched := { Sched.init with queues := [(9, [{ ent 7000 with began := true }])] } }, 9, by decide +kernel⟩,
   ⟨st [(VLV_STAT_STATE 9, 5)], 9, by decide +kernel⟩,
   ⟨st [(ARB_LYSTAT_STATE, 4)], by decide +kernel⟩,
   ⟨{ st [(VLV_STAT_STATE 9, 4)] with sched := { Sched.init with queues := [(9, [{ ent 7000 with began := true }])] } }, 9, by decide +kernel⟩,
   ⟨st [(VLV_STAT_STATE 9, 5)], 9, by decide +kernel⟩,
   ⟨st [(ARB_LYSTAT_STATE, 4)], by decide +kernel⟩,
   ⟨{ st [(VLV_STAT_STATE 9, 4)] with sched := { Sched.init with queues := [(9, [{ ent 7000 with began := true }])] } }, 1, by decide +kernel⟩,
   ⟨st [], 1, by decide +kernel⟩,
   ⟨st [(ARB_LYSTAT_STATE, 4)], 16, by decide +kernel⟩,
   ⟨st [], 1, by decide +kernel⟩,
   ⟨{ st [(VLV_STAT_STATE 9, 4)] with sched := { Sched.init with queues := [(9, [{ ent 7000 with began := true }])] } }, 1, by decide +kernel⟩,
   ⟨st [], 16, by decide +kernel⟩,
   ⟨st [(VLV_STAT_CHFLT 7, 1)], .mgmt, 7, by decide +kernel⟩,
   ⟨st [(VBK_STAT_BKFLT 7, 1)], .ssp, 7, by decide +kernel⟩,
   ⟨st [], 128, by decide +kernel⟩,
   ⟨{ st [(VLV_STAT_STATE 9, 4), (VLV_CTRL_EN 9, 1)] with sched := { Sched.init with queues := [(9, [{ ent 7000 with began := true }])] } }, .mgmt, 9, 0x16#32, { ent 7000 with began := true }, by decide +kernel⟩,
   ⟨st [], .mgmt, 9, 0x17#32, by decide +kernel⟩,
   ⟨st [(GLB_STAT_STATE, 3)], .mgmt, by decide +kernel⟩,
   ⟨st [(GLB_STAT_STATE, 2), (ARB_PROF_PEAK_IPEAK 0, 3)], .mgmt, by decide +kernel⟩,
   ⟨st [(GLB_STAT_STATE, 2), (ARB_LYSTAT_STATE, 4)], .mgmt, by decide +kernel⟩,
   ⟨st [(ARB_LYSTAT_FLT, 1)], .mgmt, by decide +kernel⟩⟩

/-- States that meet the hypotheses of each clause of SupplyMonitorsAndBudgetSetTheirFlagsAndGrants. -/
theorem witness_supplyMonitorsAndBudgetSetTheirFlagsAndGrants :
  (∃ (s : State), s.get PWR_STAT_DIP ≠ 1) ∧
  (∃ (s : State), s.get PWR_STAT_DIP = 1) ∧
  (∃ (s : State), s.get PWR_STAT_DIP = 1) ∧
  (∃ (s : State), s.get PWR_STAT_DIP ≠ 1) ∧
  (∃ (s : State) (y : Nat), s.get ARB_VINLIM_MA < y) ∧
  (∃ (s : State) (y : Nat), y ≤ s.get ARB_VINLIM_MA ∧ s.get PWR_STAT_OVERBUD ≠ 1 ∧ s.get PWR_VIN_VIN ≠ 0) ∧
  (∃ (s : State), s.get PWR_STAT_OVERBUD = 1 ∧ 10 ≤ s.house.under) ∧
  (∃ (s : State), (s.get PWR_STAT_OVERBUD ≠ 1 ∨ s.house.under < 10)) ∧
  (∃ (s : State) (r : Requester) (v : Word), s.protected r 0x1020 = false ∧ bits v.toNat 0 2 < 3 ∧ bits v.toNat 2 2
    < 3 ∧ bits v.toNat 4 2 < 3 ∧ bits v.toNat 0 2 ≠ bits v.toNat 2 2 ∧ bits v.toNat 2 2 ≠ bits v.toNat 4 2 ∧ bits
    v.toNat 0 2 ≠ bits v.toNat 4 2) ∧
  (∃ (s : State) (r : Requester) (v : Word), s.protected r 0x1020 = false ∧ (bits v.toNat 0 2 = 3 ∨ bits v.toNat 2 2
    = 3 ∨ bits v.toNat 4 2 = 3 ∨ bits v.toNat 0 2 = bits v.toNat 2 2 ∨ bits v.toNat 2 2 = bits v.toNat 4 2 ∨ bits
    v.toNat 0 2 = bits v.toNat 4 2)) :=
  ⟨⟨st [(CAL_STATUS_PHASE, 3)], by decide +kernel⟩,
   ⟨st [(PWR_STAT_DIP, 1)], by decide +kernel⟩,
   ⟨st [(PWR_STAT_DIP, 1), (CAL_STATUS_PENDING, 1), (GLB_STAT_STATE, 2)], by decide +kernel⟩,
   ⟨st [], by decide +kernel⟩,
   ⟨st [], 1401, by decide +kernel⟩,
   ⟨st [(PWR_VIN_VIN, 12000), (PWR_CLLEVEL_FULL, 200), (PWR_CLLEVEL_DIV4, 50)], 1400, by decide +kernel⟩,
   ⟨{ st [(PWR_STAT_OVERBUD, 1)] with house := { House.init with under := 10 } }, by decide +kernel⟩,
   ⟨{ st [(PWR_STAT_OVERBUD, 1)] with house := { House.init with under := 9 } }, by decide +kernel⟩,
   ⟨st [], .mgmt, 0x6#32, by decide +kernel⟩,
   ⟨st [], .mgmt, 0x3#32, by decide +kernel⟩⟩

/-- States that meet the hypotheses of each clause of ThermalLevelsStepsAndSensorsFollowTheSamples. -/
theorem witness_thermalLevelsStepsAndSensorsFollowTheSamples :
  (∃ (s : State) (d : Die) (l : Level), bitOf s.house.entered (3 * dieNum d + levelNum l) = false ∧ 8 ≤ mget 0
    s.house.ups (3 * dieNum d + levelNum l) ∧ l ≠ .shutdown) ∧
  (∃ (s : State) (d : Die), bitOf s.house.entered (3 * dieNum d + 2) = false ∧ 8 ≤ mget 0 s.house.ups (3 * dieNum d
    + 2) ∧ s.blindDie (dieNum d) = false ∧ (s.mode = 1 ∨ s.mode = 2 ∨ s.mode = 3)) ∧
  (∃ (s : State) (d : Die) (l : Level), (bitOf s.house.entered (3 * dieNum d + levelNum l) = true ∨ mget 0
    s.house.ups (3 * dieNum d + levelNum l) < 8)) ∧
  (∃ (s : State) (d : Die) (l : Level), bitOf s.house.entered (3 * dieNum d + levelNum l) = true ∧ 8 ≤ mget 0
    s.house.downs (3 * dieNum d + levelNum l)) ∧
  (∃ (s : State) (d : Die) (l : Level), (bitOf s.house.entered (3 * dieNum d + levelNum l) = false ∨ mget 0
    s.house.downs (3 * dieNum d + levelNum l) < 8)) ∧
  (∃ (s : State) (d : Die), s.dieStep (dieNum d) = 1) ∧
  (∃ (s : State) (d : Die), s.dieStep (dieNum d) ≠ 1) ∧
  (∃ (s : State) (d : Die) (i : Nat), i < dieCount (dieNum d) ∧ s.get (validFld (dieNum d) i) = 1 ∧ 16 ≤ mget 0
    s.house.suspect (8 * dieNum d + i)) ∧
  (∃ (s : State) (d : Die) (i : Nat), (dieCount (dieNum d) ≤ i ∨ s.get (validFld (dieNum d) i) ≠ 1 ∨ mget 0
    s.house.suspect (8 * dieNum d + i) < 16)) ∧
  (∃ (s : State) (d : Die) (i : Nat), i < dieCount (dieNum d) ∧ s.get (exclFld (dieNum d) i) = 1 ∧ 8000 ≤ mget 0
    s.house.agree (8 * dieNum d + i)) ∧
  (∃ (s : State) (d : Die) (i : Nat), (dieCount (dieNum d) ≤ i ∨ s.get (exclFld (dieNum d) i) ≠ 1 ∨ mget 0
    s.house.agree (8 * dieNum d + i) < 8000)) :=
  ⟨⟨{ st [] with house := { House.init with ups := [(4, 8)] } }, .power, .throttle, by decide +kernel⟩,
   ⟨{ st [(GLB_STAT_STATE, 3)] with house := { House.init with ups := [(2, 8)] } }, .logic, by decide +kernel⟩,
   ⟨{ st [] with house := { House.init with ups := [(2, 7)] } }, .logic, .shutdown, by decide +kernel⟩,
   ⟨{ st [] with house := { House.init with entered := 18, downs := [(1, 8)], steps := [(0, 2)] } }, .logic, .throttle, by decide +kernel⟩,
   ⟨{ st [] with house := { House.init with entered := 18, downs := [(1, 7)] } }, .logic, .throttle, by decide +kernel⟩,
   ⟨{ st [] with house := { House.init with steps := [(1, 1)], since := [(1, 500)] } }, .power, by decide +kernel⟩,
   ⟨st [], .power, by decide +kernel⟩,
   ⟨{ st [(THM_TL_VALID 3, 1), (GLB_STAT_STATE, 2)] with house := { House.init with suspect := [(3, 16)], sampled := true } }, .logic, 3, by decide +kernel⟩,
   ⟨{ st [(THM_TL_VALID 3, 1)] with house := { House.init with suspect := [(3, 15)] } }, .logic, 3, by decide +kernel⟩,
   ⟨{ st [(THM_TP_EXCL 5, 1)] with house := { House.init with agree := [(13, 8000)] } }, .power, 5, by decide +kernel⟩,
   ⟨st [], .power, 6, by decide +kernel⟩⟩

/-- States that meet the hypotheses of each clause of HousekeepingResultsEnterTheirRegisters. -/
theorem witness_housekeepingResultsEnterTheirRegisters :
  (∃ (s : State), s.get HKA_CTRL_EN = 1 ∧ s.get HKA_STAT_SCALBUSY ≠ 1 ∧ s.hkaInvalid s.hkaEntry = true) ∧
  (∃ (s : State), s.get HKA_CTRL_EN = 1 ∧ s.get HKA_STAT_SCALBUSY ≠ 1 ∧ s.hkaInvalid s.hkaEntry = false ∧ 2 ≤
    s.hkaEntry.ch ∧ s.hkaEntry.ch ≤ 22) ∧
  (∃ (s : State), (s.get HKA_CTRL_EN ≠ 1 ∨ s.get HKA_STAT_SCALBUSY = 1)) ∧
  (∃ (s : State), s.get HKA_CTRL_EN = 1 ∧ s.get HKA_STAT_SCALBUSY ≠ 1 ∧ s.hkaEntry.rep ≤ s.house.reps) ∧
  (∃ (s : State), s.get HKA_CTRL_EN = 1 ∧ s.get HKA_STAT_SCALBUSY ≠ 1 ∧ s.house.reps < s.hkaEntry.rep) ∧
  (∃ (s : State), s.get HKA_CTRL_EN = 1 ∧ s.get HKA_STAT_SCALBUSY ≠ 1 ∧ s.hkaInvalid s.hkaEntry = false ∧
    s.hkaEntry.ch = 23 ∧ s.get HKA_RTD_EN = 1) ∧
  (∃ (s : State) (r : Requester), s.protected r 0x1800 = false) ∧
  (∃ (s : State), s.get HKA_STAT_SCALBUSY = 1) ∧
  (∃ (s : State), s.get HKA_STAT_SCALBUSY ≠ 1) :=
  ⟨⟨st [(HKA_CTRL_EN, 1), (HKA_MINSETTLE_US 0, 9)], by decide +kernel⟩,
   ⟨{ st [(HKA_CTRL_EN, 1)] with house := { House.init with prev := some (5, 1), reps := 2, entry := some ⟨5, 7, 0, 0, 1⟩ } }, by decide +kernel⟩,
   ⟨st [(HKA_STAT_SCALBUSY, 1)], by decide +kernel⟩,
   ⟨{ st [(HKA_CTRL_EN, 1), (HKA_CTRL_LAST, 9)] with house := { House.init with reps := 7, entry := some ⟨23, 7, 0, 0, 1⟩ } }, by decide +kernel⟩,
   ⟨{ st [(HKA_CTRL_EN, 1), (HKA_CTRL_LAST, 9)] with house := { House.init with reps := 6, entry := some ⟨0, 7, 0, 0, 1⟩ } }, by decide +kernel⟩,
   ⟨{ st [(HKA_CTRL_EN, 1), (HKA_RTD_EN, 1)] with house := { House.init with prev := some (23, 1), reps := 2, entry := some ⟨23, 7, 0, 0, 1⟩ } }, by decide +kernel⟩,
   ⟨st [], .mgmt, by decide +kernel⟩,
   ⟨st [(HKA_STAT_SCALBUSY, 1)], by decide +kernel⟩,
   ⟨st [], by decide +kernel⟩⟩

/-- States that meet the hypotheses of each clause of LoopWindowsMoveTheirControllers. -/
theorem witness_loopWindowsMoveTheirControllers :
  (∃ (s : State), s.get LOOP_CTRL_PHEN = 1 ∧ s.get LOOP_CTRL_PHMAN ≠ 1 ∧ (s.mode = 1 ∨ s.mode = 2 ∨ s.mode = 3) ∧
    s.get LOOP_PHWIN_MINN ≤ phCount s) ∧
  (∃ (s : State), (s.get LOOP_CTRL_PHEN ≠ 1 ∨ s.get LOOP_CTRL_PHMAN = 1 ∨ s.phLive = false) ∧ s.get LOOP_PHWIN_MINN
    ≤ phCount s) ∧
  (∃ (s : State), phCount s < s.get LOOP_PHWIN_MINN) ∧
  (∃ (s : State), s.get LOOP_CTRL_BKEN = 1 ∧ s.get LOOP_CTRL_BKMAN ≠ 1 ∧ (s.mode = 1 ∨ s.mode = 2 ∨ s.mode = 3 ∨
    s.mode = 5) ∧ (bkReads s).1 ≠ 0) ∧
  (∃ (s : State), (s.get LOOP_CTRL_BKEN ≠ 1 ∨ s.get LOOP_CTRL_BKMAN = 1 ∨ s.bkLive = false) ∧ (bkReads s).1 ≠ 0) ∧
  (∃ (s : State), s.get LOOP_CTRL_BKEN = 1 ∧ s.get LOOP_CTRL_BKMAN ≠ 1 ∧ (s.mode = 1 ∨ s.mode = 2 ∨ s.mode = 3 ∨
    s.mode = 5) ∧ (bkReads s).1 = 0) ∧
  (∃ (s : State), (s.get LOOP_CTRL_BKEN ≠ 1 ∨ s.get LOOP_CTRL_BKMAN = 1 ∨ s.bkLive = false) ∧ (bkReads s).1 = 0) :=
  ⟨⟨{ st [(LOOP_CTRL_PHEN, 1), (GLB_STAT_STATE, 3), (LOOP_PHSP_SP, 30000), (LOOP_PHGAIN_KP, 5)] with loops := { Loops.init with hist := [(0, [(1700, 60)])] } }, by decide +kernel⟩,
   ⟨{ st [(LOOP_CTRL_PHEN, 1), (LOOP_CTRL_PHMAN, 1), (GLB_STAT_STATE, 3)] with loops := { Loops.init with hist := [(0, [(1700, 60)])] } }, by decide +kernel⟩,
   ⟨{ st [(LOOP_CTRL_PHEN, 1), (GLB_STAT_STATE, 3), (LOOP_STAT_PHINV, 29), (LOOP_PHCFG_SAFE, 7)] with loops := { Loops.init with hist := [(0, [(1700, 49)])] } }, by decide +kernel⟩,
   ⟨{ st [(LOOP_CTRL_BKEN, 1), (GLB_STAT_STATE, 5), (LOOP_BKSP_SP, 170000), (LOOP_BKGAIN_KP, 900)] with loops := { Loops.init with rtd := [(0, (3, 480001))] } }, by decide +kernel⟩,
   ⟨{ st [(LOOP_CTRL_BKMAN, 1)] with loops := { Loops.init with rtd := [(0, (3, 480001))] } }, by decide +kernel⟩,
   ⟨{ st [(LOOP_CTRL_BKEN, 1), (GLB_STAT_STATE, 5), (LOOP_BKCFG_SAFE, 77)] with loops := { Loops.init with rtdLost := 4 } }, by decide +kernel⟩,
   ⟨{ st [(LOOP_CTRL_BKMAN, 1)] with loops := { Loops.init with rtdLost := 4 } }, by decide +kernel⟩⟩

/-- States that meet the hypotheses of each clause of HeaterOutputsAndLoopControlFollowTheirSettings. -/
theorem witness_heaterOutputsAndLoopControlFollowTheirSettings :
  (∃ (o : Nat), o < 5) ∧
  (∃ (s : State) (o : Nat), o < 5 ∧ mget 0 s.loops.onMs o ≠ 1000 ∧ bitOf s.loops.high o = true) ∧
  (∃ (s : State) (o : Nat), (mget 0 s.loops.onMs o = 1000 ∨ bitOf s.loops.high o = false)) ∧
  (∃ (s : State) (r : Requester), s.protected r 0xD000 = false) ∧
  (∃ (s : State) (r : Requester) (v : Word), s.protected r 0xD000 = false ∧ bits v.toNat 8 8 ≤ 50 ∧ (s.get
    LOOP_STAT_GREF ≠ 1 ∨ (bits v.toNat 1 1 = 1 ∧ bits v.toNat 3 1 = 0)) ∧ bits v.toNat 4 2 = 0) ∧
  (∃ (s : State) (r : Requester) (v : Word), s.protected r 0xD000 = false ∧ (50 < bits v.toNat 8 8 ∨ (s.get
    LOOP_STAT_GREF = 1 ∧ (bits v.toNat 1 1 = 0 ∨ bits v.toNat 3 1 = 1)))) :=
  ⟨⟨4, by decide +kernel⟩,
   ⟨{ st [] with loops := { Loops.init with high := 31, onMs := [(4, 500)], began := [(4, 1100000000)] } }, 4, by decide +kernel⟩,
   ⟨{ st [] with loops := { Loops.init with high := 31, onMs := [(4, 1000)] } }, 4, by decide +kernel⟩,
   ⟨st [(LOOP_PHLIM_UMIN, 9), (LOOP_PHU_I, 50)], .mgmt, by decide +kernel⟩,
   ⟨{ st [(LOOP_CTRL_PHMAN, 1), (LOOP_PHCFG_MAN, 500), (LOOP_STAT_GREF, 1)] with loops := { Loops.init with high := 31 } }, .mgmt, 0x3202#32, by decide +kernel⟩,
   ⟨st [], .mgmt, 0x3300#32, by decide +kernel⟩⟩

/-- States that meet the hypotheses of each clause of BackgroundTestRetentionAndTableReloads. -/
theorem witness_backgroundTestRetentionAndTableReloads :
  (∃ (s : State), s.mem.phase = .idle ∧ s.get MEM_CTRL_TESTEN = 1 ∧ s.bankSkipped s.mem.bank = false ∧ s.bightFree
    s.mem.bank s.mem.bight = true ∧ s.mem.errs = []) ∧
  (∃ (s : State), s.mem.phase = .idle ∧ s.get MEM_CTRL_TESTEN = 1 ∧ s.bankSkipped s.mem.bank = false ∧ s.bightFree
    s.mem.bank s.mem.bight = false) ∧
  (∃ (s : State), (s.mem.phase ≠ .idle ∨ s.get MEM_CTRL_TESTEN ≠ 1)) ∧
  (∃ (s : State), s.mem.phase = .test) ∧
  (∃ (s : State) (b : Nat), s.mem.phase = .test ∧ b < bankData s.mem.bank + bankCheck s.mem.bank) ∧
  (∃ (s : State), s.mem.phase ≠ .test) ∧
  (∃ (s : State), s.mem.phase = .restore ∧ 4 ≤ s.mem.aborts) ∧
  (∃ (s : State), s.mem.phase = .restore ∧ s.mem.aborts < 4) ∧
  (∃ (s : State), s.mem.phase ≠ .restore) ∧
  (∃ (s : State), s.mem.phase = .idle ∧ s.get MEM_CTRL_TESTEN = 1 ∧ s.bankSkipped s.mem.bank = false ∧ s.bightFree
    s.mem.bank s.mem.bight = false) ∧
  (∃ (s : State), (s.mem.phase ≠ .idle ∨ s.get MEM_CTRL_TESTEN ≠ 1 ∨ (s.bankSkipped s.mem.bank = false ∧ s.bightFree
    s.mem.bank s.mem.bight = true))) ∧
  (∃ (s : State) (b : Nat) (w : Nat) (l : List (Nat × Nat)), s.mem.scrubQ = (b, w) :: l) ∧
  (∃ (s : State), s.mem.scrubQ = []) ∧
  (∃ (s : State) (r : Requester) (v : Word), s.protected r 0xB040 = false ∧ ((andNot (v.toNat % 256) (s.get
    MEM_RETSTAT_RET)) = 0 ∨ (s.mode ≠ 3 ∧ (andNot (v.toNat % 256) (s.get MEM_RETSTAT_RET)) / 16 &&& s.get
    GLB_CORECTL_HARTON = 0))) ∧
  (∃ (s : State) (r : Requester) (v : Word), s.protected r 0xB040 = false ∧ (andNot (v.toNat % 256) (s.get
    MEM_RETSTAT_RET)) ≠ 0 ∧ (s.mode = 3 ∨ (andNot (v.toNat % 256) (s.get MEM_RETSTAT_RET)) / 16 &&& s.get
    GLB_CORECTL_HARTON ≠ 0)) ∧
  (∃ (s : State) (g : RetGroup), bitOf (s.get MEM_RETSTAT_RET) (retBit g) = true ∧ (s.mem.startWait = false ∨ andNot
    (s.get MEM_RETSTAT_RET) (2 ^ retBit g) ≠ 0)) ∧
  (∃ (s : State) (g : RetGroup), s.get MEM_RETSTAT_RET = 2 ^ retBit g ∧ s.mem.startWait = true ∧ s.mode = 2) ∧
  (∃ (s : State) (g : RetGroup), bitOf (s.get MEM_RETSTAT_RET) (retBit g) = false ∧ s.mem.startWait = false) ∧
  (∃ (s : State), s.get BRD_CTRL_AUTO = 1) ∧
  (∃ (s : State), s.mode ≠ 4) :=
  ⟨⟨{ st [] with mem := { (st []).mem with bank := 56, bight := 4095 } }, by decide +kernel⟩,
   ⟨{ st [(GLB_STAT_STATE, 3)] with mem := { (st []).mem with bank := 3, bight := 5 } }, by decide +kernel⟩,
   ⟨{ st [(MEM_CTRL_TESTEN, 0)] with mem := { (st []).mem with bank := 3 } }, by decide +kernel⟩,
   ⟨{ st [(MEM_TESTPASS_COUNT, 4294967295)] with mem := { (st []).mem with phase := .test, bank := 56, bight := 4095 } }, by decide +kernel⟩,
   ⟨{ st [] with mem := { (st []).mem with phase := .test, bank := 3, bight := 5 } }, 38, by decide +kernel⟩,
   ⟨st [], by decide +kernel⟩,
   ⟨{ st [] with mem := { (st []).mem with phase := .restore, bank := 3, bight := 5, aborts := 4 } }, by decide +kernel⟩,
   ⟨{ st [] with mem := { (st []).mem with phase := .restore, bank := 3, bight := 5, aborts := 3 } }, by decide +kernel⟩,
   ⟨st [], by decide +kernel⟩,
   ⟨{ st [(GLB_STAT_STATE, 3)] with mem := { (st []).mem with bank := 3, bight := 383 } }, by decide +kernel⟩,
   ⟨st [], by decide +kernel⟩,
   ⟨{ st [] with mem := { (st []).mem with scrubQ := [(3, 5), (4, 6)], errs := [⟨3, 5, false⟩] } }, 3, 5, [(4, 6)], by decide +kernel⟩,
   ⟨st [], by decide +kernel⟩,
   ⟨st [], .mgmt, 0x15#32, by decide +kernel⟩,
   ⟨st [(GLB_CORECTL_HARTON, 2)], .mgmt, 0x20#32, by decide +kernel⟩,
   ⟨{ st [(MEM_RETSTAT_RET, 0x91), (MEM_RETSTAT_WAKES, 65535)] with mem := { (st []).mem with waking := [7] } }, .sp 3, by decide +kernel⟩,
   ⟨{ st [(MEM_RETSTAT_RET, 2), (GLB_STAT_STATE, 2)] with mem := { (st []).mem with startWait := true } }, .ub, by decide +kernel⟩,
   ⟨st [], .kb, by decide +kernel⟩,
   ⟨{ st [(BRD_CTRL_AUTO, 1)] with house := { House.init with badTables := [5, 4] } }, by decide +kernel⟩,
   ⟨st [(GLB_STAT_STATE, 3)], by decide +kernel⟩⟩

/-- States that meet the hypotheses of each clause of HardwareSetBitsSurviveTheirClearing. -/
theorem witness_hardwareSetBitsSurviveTheirClearing :
  (∃ (s : State) (r : Requester) (v : Word) (hw : Word) (f : Fld) (i : Nat), f ∈ w1cFlds ∧ i < f.width ∧ s.protected
    r f.addr = false ∧ bitOf (s.implMask f.addr) (f.lo + i) = true ∧ bitOf v.toNat (f.lo + i) = true ∧ bitOf
    hw.toNat (f.lo + i) = true ∧ (0x500 ≤ f.addr → f.addr < 0x560 → s.srcExists (8 * (f.addr - 0x500) + i) = true ∧
    s.srcEnabled (8 * (f.addr - 0x500) + i) = true)) :=
  ⟨st [(MBX_UPCTL_OVF 3, 1)], .mgmt, 0x2001#32, 0x2000#32, MBX_UPCTL_OVF 3, 0, by decide +kernel⟩

/-- States that meet the hypotheses of each clause of PlainRegistersTakeAWriteByFieldType. -/
theorem witness_plainRegistersTakeAWriteByFieldType :
  (∃ (s : State) (r : Requester) (a : Nat) (hw : Word), a ∈ plainRegs ∧ s.protected r a = false ∧ (0x500 ≤ a → a <
    0x560 → hw = 0#32)) ∧
  (∃ (s : State) (r : Requester) (g : Nat) (b : Nat), g < 24 ∧ b < 32 ∧ s.protected r (0x500 + 4 * g) = false ∧
    s.srcExists (32 * g + b) = true ∧ s.srcEnabled (32 * g + b) = true) ∧
  (∃ (s : State) (r : Requester) (a : Nat), a % 4 = 0 ∧ fieldsAt a = [] ∧ (0x400 ≤ a ∧ a < 0x1800 ∨ 0x7000 ≤ a ∧ a <
    0x7400 ∨ 0xB000 ≤ a ∧ a < 0xB800) ∧ s.protected r a = false) :=
  ⟨⟨st [(EVT_STAT_STAT 3, 0xFF)], .mgmt, 0x50C, 0#32, by decide +kernel⟩,
   ⟨st [(EVT_STAT_STAT 3, 0xFF)], .mgmt, 3, 1, by decide +kernel⟩,
   ⟨st [], .ssp, 0x1040, by decide +kernel⟩⟩

/-- States that meet the hypotheses of each clause of ForcingABitIsAnOccurrenceOfItsSource. -/
theorem witness_forcingABitIsAnOccurrenceOfItsSource :
  (∃ (s : State) (r : Requester) (g : Nat) (b : Nat), g < 24 ∧ b < 32 ∧ s.protected r (0x580 + 4 * g) = false ∧
    s.srcExists (32 * g + b) = true) ∧
  (∃ (s : State) (r : Requester) (g : Nat) (b : Nat), g < 24 ∧ b < 32 ∧ s.protected r (0x580 + 4 * g) = false ∧
    s.srcExists (32 * g + b) = false) :=
  ⟨⟨st [(EVT_EN_EN 3, 0)], .mgmt, 3, 31, by decide +kernel⟩,
   ⟨st [], .mgmt, 20, 2, by decide +kernel⟩⟩

/-- States that meet the hypotheses of each clause of ProtectedWritesSetPROTERRAndNothingElse. -/
theorem witness_protectedWritesSetPROTERRAndNothingElse :
  (∃ (s : State), bitOf (s.get GLB_APPWE_WE) 9 = false) ∧
  (∃ (s : State), bitOf (s.get GLB_APPWE_WE) 9 = false) ∧
  (∃ (s : State), bitOf (s.get GLB_APPWE_WE) 10 = false) ∧
  (∃ (s : State), bitOf (s.get GLB_APPWE_WE) 7 = false) ∧
  (∃ (s : State), bitOf (s.get GLB_APPWE_WE) 7 = false) ∧
  (∃ (s : State), bitOf (s.get GLB_APPWE_WE) 5 = false) ∧
  (∃ (s : State), bitOf (s.get GLB_APPWE_WE) 5 = false) ∧
  (∃ (s : State), bitOf (s.get GLB_APPWE_WE) 5 = false) ∧
  (∃ (s : State), bitOf (s.get GLB_APPWE_WE) 5 = false) ∧
  (∃ (s : State), bitOf (s.get GLB_APPWE_WE) 21 = false) ∧
  (∃ (s : State), bitOf (s.get GLB_APPWE_WE) 21 = false) ∧
  (∃ (s : State), bitOf (s.get GLB_APPWE_WE) 21 = false) ∧
  (∃ (s : State), bitOf (s.get GLB_APPWE_WE) 21 = false) ∧
  (∃ (s : State), bitOf (s.get GLB_APPWE_WE) 18 = false) ∧
  (∃ (s : State), bitOf (s.get GLB_APPWE_WE) 16 = false) ∧
  (∃ (s : State), bitOf (s.get GLB_APPWE_WE) 20 = false) ∧
  (∃ (s : State), bitOf (s.get GLB_APPWE_WE) 2 = false) ∧
  (∃ (s : State), bitOf (s.get GLB_APPWE_WE) 9 = false) ∧
  (∃ (s : State), bitOf (s.get GLB_APPWE_WE) 8 = false) ∧
  (∃ (s : State), bitOf (s.get GLB_APPWE_WE) 8 = false) ∧
  (∃ (s : State), bitOf (s.get GLB_APPWE_WE) 8 = false) ∧
  (∃ (s : State), bitOf (s.get GLB_APPWE_WE) 8 = false) ∧
  (∃ (s : State), bitOf (s.get GLB_APPWE_WE) 12 = false) ∧
  (∃ (s : State), bitOf (s.get GLB_APPWE_WE) 12 = false) ∧
  (∃ (s : State), bitOf (s.get GLB_APPWE_WE) 11 = false) ∧
  (∃ (s : State), bitOf (s.get GLB_APPWE_WE) 7 = false) ∧
  (∃ (s : State), bitOf (s.get GLB_APPWE_WE) 18 = false) ∧
  (∃ (s : State), bitOf (s.get GLB_APPWE_WE) 19 = false) ∧
  (∃ (s : State), bitOf (s.get GLB_APPWE_WE) 19 = false) ∧
  (∃ (s : State), bitOf (s.get GLB_APPWE_WE) 4 = false) ∧
  (∃ (s : State), bitOf (s.get GLB_APPWE_WE) 0 = false) ∧
  (∃ (s : State), bitOf (s.get GLB_APPWE_WE) 3 = false) ∧
  (∃ (s : State), bitOf (s.get GLB_APPWE_WE) 1 = false) ∧
  (∃ (s : State), bitOf (s.get GLB_APPWE_WE) 15 = false) ∧
  (∃ (s : State), bitOf (s.get GLB_APPWE_WE) 20 = false) ∧
  (∃ (s : State), bitOf (s.get GLB_APPWE_WE) 0 = false) ∧
  (∃ (s : State), bitOf (s.get GLB_APPWE_WE) 15 = false) ∧
  (∃ (s : State), bitOf (s.get GLB_APPWE_WE) 0 = false) ∧
  (∃ (s : State), bitOf (s.get GLB_APPWE_WE) 7 = false) ∧
  (∃ (s : State), bitOf (s.get GLB_APPWE_WE) 0 = false) ∧
  (∃ (s : State), bitOf (s.get GLB_APPWE_WE) 1 = false) ∧
  (∃ (s : State) (n : Nat), n < 64 ∧ bitOf (s.get GLB_APPWE_WE) 7 = false) ∧
  (∃ (s : State) (n : Nat), n < 24 ∧ bitOf (s.get GLB_APPWE_WE) 1 = false) ∧
  (∃ (s : State) (n : Nat), n < 4 ∧ bitOf (s.get GLB_APPWE_WE) 22 = false) ∧
  (∃ (s : State) (n : Nat), n < 4 ∧ bitOf (s.get GLB_APPWE_WE) 22 = false) ∧
  (∃ (s : State) (n : Nat), n < s.nTiles ∧ bitOf (s.get GLB_APPWE_WE) 6 = false) ∧
  (∃ (s : State) (n : Nat), n < s.nTiles ∧ bitOf (s.get GLB_APPWE_WE) 6 = false) ∧
  (∃ (s : State) (n : Nat) (i : Nat), n < s.nTiles ∧ i < 16 ∧ bitOf (s.get GLB_APPWE_WE) 6 = false) ∧
  (∃ (s : State) (n : Nat), n < s.nTiles ∧ bitOf (s.get GLB_APPWE_WE) 6 = false) ∧
  (∃ (s : State) (n : Nat), n < s.nTiles ∧ bitOf (s.get GLB_APPWE_WE) 6 = false) ∧
  (∃ (s : State) (n : Nat), n < s.nTiles ∧ bitOf (s.get GLB_APPWE_WE) 6 = false) ∧
  (∃ (s : State) (n : Nat), n < s.nTiles ∧ bitOf (s.get GLB_APPWE_WE) 6 = false) ∧
  (∃ (s : State) (n : Nat), n < s.nTiles ∧ bitOf (s.get GLB_APPWE_WE) 6 = false) ∧
  (∃ (s : State) (n : Nat), n < s.nTiles ∧ bitOf (s.get GLB_APPWE_WE) 6 = false) ∧
  (∃ (s : State) (n : Nat), n < s.nChans ∧ bitOf (s.get GLB_APPWE_WE) 13 = false) ∧
  (∃ (s : State) (n : Nat), n < s.nBanks ∧ bitOf (s.get GLB_APPWE_WE) 14 = false) ∧
  (∃ (s : State) (a : Nat), 0x6800 ≤ a ∧ a < 0x7000 ∧ bitOf (s.get GLB_APPWE_WE) 9 = false) ∧
  (∃ (s : State) (a : Nat), 0x7800 ≤ a ∧ a < 0x8000 ∧ bitOf (s.get GLB_APPWE_WE) 12 = false) ∧
  (∃ (s : State) (a : Nat), 0xC000 ≤ a ∧ a < 0xC800 ∧ a % 4 = 0 ∧ bitOf (s.get GLB_APPWE_WE) 18 = false) ∧
  (∃ (r : Requester), (isCluster r = true ∨ r = .ssp)) :=
  ⟨⟨st [(GLB_APPWE_WE, 0)], by decide +kernel⟩,
   ⟨st [(GLB_APPWE_WE, 0)], by decide +kernel⟩,
   ⟨st [(GLB_APPWE_WE, 0)], by decide +kernel⟩,
   ⟨st [(GLB_APPWE_WE, 0)], by decide +kernel⟩,
   ⟨st [(GLB_APPWE_WE, 0)], by decide +kernel⟩,
   ⟨st [(GLB_APPWE_WE, 0)], by decide +kernel⟩,
   ⟨st [(GLB_APPWE_WE, 0)], by decide +kernel⟩,
   ⟨st [(GLB_APPWE_WE, 0)], by decide +kernel⟩,
   ⟨st [(GLB_APPWE_WE, 0)], by decide +kernel⟩,
   ⟨st [(GLB_APPWE_WE, 0)], by decide +kernel⟩,
   ⟨st [(GLB_APPWE_WE, 0)], by decide +kernel⟩,
   ⟨st [(GLB_APPWE_WE, 0)], by decide +kernel⟩,
   ⟨st [(GLB_APPWE_WE, 0)], by decide +kernel⟩,
   ⟨st [(GLB_APPWE_WE, 0)], by decide +kernel⟩,
   ⟨st [(GLB_APPWE_WE, 0)], by decide +kernel⟩,
   ⟨st [(GLB_APPWE_WE, 0)], by decide +kernel⟩,
   ⟨st [(GLB_APPWE_WE, 0)], by decide +kernel⟩,
   ⟨st [(GLB_APPWE_WE, 0)], by decide +kernel⟩,
   ⟨st [(GLB_APPWE_WE, 0)], by decide +kernel⟩,
   ⟨st [(GLB_APPWE_WE, 0)], by decide +kernel⟩,
   ⟨st [(GLB_APPWE_WE, 0)], by decide +kernel⟩,
   ⟨st [(GLB_APPWE_WE, 0)], by decide +kernel⟩,
   ⟨st [(GLB_APPWE_WE, 0)], by decide +kernel⟩,
   ⟨st [(GLB_APPWE_WE, 0)], by decide +kernel⟩,
   ⟨st [(GLB_APPWE_WE, 0)], by decide +kernel⟩,
   ⟨st [(GLB_APPWE_WE, 0)], by decide +kernel⟩,
   ⟨st [(GLB_APPWE_WE, 0)], by decide +kernel⟩,
   ⟨st [(GLB_APPWE_WE, 0)], by decide +kernel⟩,
   ⟨st [(GLB_APPWE_WE, 0)], by decide +kernel⟩,
   ⟨st [(GLB_APPWE_WE, 0)], by decide +kernel⟩,
   ⟨st [(GLB_APPWE_WE, 0)], by decide +kernel⟩,
   ⟨st [(GLB_APPWE_WE, 0)], by decide +kernel⟩,
   ⟨st [(GLB_APPWE_WE, 0)], by decide +kernel⟩,
   ⟨st [(GLB_APPWE_WE, 0)], by decide +kernel⟩,
   ⟨st [(GLB_APPWE_WE, 0)], by decide +kernel⟩,
   ⟨st [(GLB_APPWE_WE, 0)], by decide +kernel⟩,
   ⟨st [(GLB_APPWE_WE, 0)], by decide +kernel⟩,
   ⟨st [(GLB_APPWE_WE, 0)], by decide +kernel⟩,
   ⟨st [(GLB_APPWE_WE, 0)], by decide +kernel⟩,
   ⟨st [(GLB_APPWE_WE, 0)], by decide +kernel⟩,
   ⟨st [(GLB_APPWE_WE, 0)], by decide +kernel⟩,
   ⟨st [(GLB_APPWE_WE, 0)], 9, by decide +kernel⟩,
   ⟨st [(GLB_APPWE_WE, 0)], 9, by decide +kernel⟩,
   ⟨st [(GLB_APPWE_WE, 0)], 3, by decide +kernel⟩,
   ⟨st [(GLB_APPWE_WE, 0)], 3, by decide +kernel⟩,
   ⟨st [(GLB_APPWE_WE, 0)], 9, by decide +kernel⟩,
   ⟨st [(GLB_APPWE_WE, 0)], 9, by decide +kernel⟩,
   ⟨st [(GLB_APPWE_WE, 0)], 9, 3, by decide +kernel⟩,
   ⟨st [(GLB_APPWE_WE, 0)], 9, by decide +kernel⟩,
   ⟨st [(GLB_APPWE_WE, 0)], 9, by decide +kernel⟩,
   ⟨st [(GLB_APPWE_WE, 0)], 9, by decide +kernel⟩,
   ⟨st [(GLB_APPWE_WE, 0)], 9, by decide +kernel⟩,
   ⟨st [(GLB_APPWE_WE, 0)], 9, by decide +kernel⟩,
   ⟨st [(GLB_APPWE_WE, 0)], 9, by decide +kernel⟩,
   ⟨st [(GLB_APPWE_WE, 0)], 9, by decide +kernel⟩,
   ⟨st [(GLB_APPWE_WE, 0)], 7, by decide +kernel⟩,
   ⟨st [(GLB_APPWE_WE, 0)], 26628, by decide +kernel⟩,
   ⟨st [(GLB_APPWE_WE, 0)], 30724, by decide +kernel⟩,
   ⟨st [(GLB_APPWE_WE, 0)], 49156, by decide +kernel⟩,
   ⟨.ssp, by decide +kernel⟩⟩

/-- States that meet the hypotheses of each clause of ClusterMailboxAndEventControls. -/
theorem witness_clusterMailboxAndEventControls :
  (∃ (s : State) (r : Requester), s.protected r 0x28 = false) ∧
  (∃ (s : State) (h : Nat), h < 4 ∧ bitOf (s.get GLB_CORECTL_HARTON) h = true ∧ bitOf (s.get GLB_CORECTL_HARTEN) h =
    false) ∧
  (∃ (s : State) (h : Nat), (4 ≤ h ∨ bitOf (s.get GLB_CORECTL_HARTON) h = false ∨ bitOf (s.get GLB_CORECTL_HARTEN) h
    = true)) ∧
  (∃ (s : State) (n : Nat), n < 4 ∧ bitOf (s.get GLB_APPWE_WE) 22 = true ∧ (s.mbxChan n).up.length < 8) ∧
  (∃ (s : State) (n : Nat), n < 4 ∧ bitOf (s.get GLB_APPWE_WE) 22 = true ∧ 8 ≤ (s.mbxChan n).up.length) ∧
  (∃ (s : State) (n : Nat), n < 4 ∧ (s.mbxChan n).down.length < 8) ∧
  (∃ (s : State) (r : Requester) (n : Nat) (d : MbxDir), n < 4 ∧ s.protected r (0xE000 + 0x80 * n) = false ∧
    mbxSender r d = false) ∧
  (∃ (s : State) (n : Nat), n < 4 ∧ ((s.mbxChan n).up = [] ∨ s.serves (.mbx n) = false)) ∧
  (∃ (s : State) (n : Nat) (m : List Nat) (l : List (List Nat)), n < 4 ∧ s.serves (.mbx n) = true ∧ (s.mbxChan n).up
    = m :: l ∧ isRequestMsg m = false ∧ s.baind.mbxWait = [] ∧ (s.mbxChan n).down.length < 8) ∧
  (∃ (s : State) (n : Nat), n < 4 ∧ bitOf (s.get GLB_APPWE_WE) 22 = true ∧ s.baind.mbxWait = []) ∧
  (∃ (s : State) (r : Requester) (n : Nat) (d : MbxDir), n < 4 ∧ s.protected r (0xE000 + 0x80 * n) = false ∧
    mbxReceiver r d = false) ∧
  (∃ (s : State) (r : Requester), s.protected r 0x400 = false) ∧
  (∃ (s : State) (r : Requester), s.protected r 0x400 = false) ∧
  (∃ (s : State) (r : Requester) (n : Nat), n < 128 ∧ s.protected r (0x8020 + 0x40 * n) = false) ∧
  (∃ (s : State) (r : Requester), s.protected r 0xB01C = false) ∧
  (∃ (a : Nat), hasClr a = false) ∧
  (∃ (s : State) (i : Nat), i < 4 ∧ (s.pin i).phase = .pulse) ∧
  (∃ (s : State) (i : Nat), i < 4 ∧ (s.pin i).phase = .gap) ∧
  (∃ (s : State) (i : Nat), (4 ≤ i ∨ (s.pin i).phase = .idle)) :=
  ⟨⟨st [(GLB_STAT_STATE, 2), (GLB_CORECTL_HARTON, 1)], .mgmt, by decide +kernel⟩,
   ⟨st [(GLB_CORECTL_HARTON, 9)], 3, by decide +kernel⟩,
   ⟨st [], 3, by decide +kernel⟩,
   ⟨st [(MBX_UPTX_WORD 3 1, 77)], 3, by decide +kernel⟩,
   ⟨{ st [] with mbx := [(3, ⟨List.replicate 8 [1, 2, 3, 4], []⟩)] }, 3, by decide +kernel⟩,
   ⟨st [(MBX_DNCTL_IE 3, 1)], 3, by decide +kernel⟩,
   ⟨st [], .ssp, 3, .up, by decide +kernel⟩,
   ⟨{ st [] with mbx := [(3, ⟨[[1, 2, 3, 4], [5, 6, 7, 8]], []⟩)] }, 3, by decide +kernel⟩,
   ⟨{ st [] with power := { (st []).power with phase := .on, fw := true }, mbx := [(3, ⟨[[2, 2, 3, 4], [5, 6, 7, 8]], []⟩)] }, 3, [2, 2, 3, 4], [[5, 6, 7, 8]], by decide +kernel⟩,
   ⟨{ st [] with mbx := [(3, ⟨[], [[1, 2, 3, 4], [5, 6, 7, 8]]⟩)] }, 3, by decide +kernel⟩,
   ⟨st [], .ssp, 3, .up, by decide +kernel⟩,
   ⟨st [(EVT_CNT_CNT3 191, 255)], .mgmt, by decide +kernel⟩,
   ⟨st [(EVT_STAT_STAT 23, 0xFFFFFFFF)], .mgmt, by decide +kernel⟩,
   ⟨st [(VLV_FIRECNT_COUNT 9, 5)], .mgmt, 9, by decide +kernel⟩,
   ⟨st [(MEM_TESTABORTS_COUNT, 5)], .mgmt, by decide +kernel⟩,
   ⟨0x14, by decide +kernel⟩,
   ⟨{ st [] with evt := { (st []).evt with pins := [(2, ⟨.pulse, true, 500⟩)] } }, 2, by decide +kernel⟩,
   ⟨{ st [] with evt := { (st []).evt with pins := [(2, ⟨.gap, true, 500⟩)] } }, 2, by decide +kernel⟩,
   ⟨st [], 2, by decide +kernel⟩⟩

/-- States that meet the hypotheses of each clause of BaindRegisterAndStateRequestsAreExecutedAndAnswered. -/
theorem witness_baindRegisterAndStateRequestsAreExecutedAndAnswered :
  (∃ (s : State) (h : Hdr) (k : Option (List Nat)) (a : Nat) (n : Nat), admits h 0x0101 (leBytes 2 a ++ leBytes 2 n)
    k s ∧ 1 ≤ n ∧ n ≤ 320 ∧ a + n ≤ 0x4000) ∧
  (∃ (s : State) (h : Hdr) (k : Option (List Nat)) (g : Nat) (v : Word), admits h 0x0102 (leBytes 2 (0x120 + g) ++
    leBytes 2 1 ++ leWords [v.toNat]) k s ∧ g < 24) ∧
  (∃ (s : State) (h : Hdr) (k : Option (List Nat)) (g : Nat) (m : Word) (v : Word), admits h 0x0103 (leBytes 2
    (0x120 + g) ++ [0, 0] ++ leWords [m.toNat, v.toNat]) k s ∧ g < 24 ∧ s.get (EVT_EN_EN g) < 2 ^ 32 ∧ (s.win
    .mgmt).latch = none) ∧
  (∃ (s : State) (h : Hdr) (k : Option (List Nat)), admits h 0x0201 ([]) k s ∧ s.mode = 2 ∧ s.get MEM_RETSTAT_RET =
    0) ∧
  (∃ (s : State) (h : Hdr) (k : Option (List Nat)), admits h 0x0201 ([]) k s ∧ s.mode = 2 ∧ s.get MEM_RETSTAT_RET ≠
    0) ∧
  (∃ (s : State) (h : Hdr) (k : Option (List Nat)), admits h 0x0201 ([]) k s ∧ s.mode ≠ 2) ∧
  (∃ (s : State) (h : Hdr) (k : Option (List Nat)), admits h 0x0202 ([]) k s ∧ s.mode = 3) ∧
  (∃ (s : State) (h : Hdr) (k : Option (List Nat)), admits h 0x0202 ([]) k s ∧ s.mode ≠ 3) ∧
  (∃ (s : State) (h : Hdr) (k : Option (List Nat)), admits h 0x0203 ([]) k s ∧ s.mode ≠ 4) ∧
  (∃ (s : State) (h : Hdr) (k : Option (List Nat)), admits h 0x0204 ([]) k s ∧ s.mayRestart = true) ∧
  (∃ (s : State) (h : Hdr) (k : Option (List Nat)), admits h 0x0204 ([]) k s ∧ s.mayRestart = false) ∧
  (∃ (s : State) (h : Hdr) (k : Option (List Nat)), admits h 0x0205 ([0x5A, 0, 0, 0]) k s) ∧
  (∃ (s : State) (h : Hdr) (k : Option (List Nat)) (n : Nat), admits h 0x0205 ([n % 256, 0, 0, 0]) k s ∧ n % 256 ≠
    0x5A) ∧
  (∃ (s : State) (h : Hdr) (k : Option (List Nat)), admits h 0x0206 ([]) k s) ∧
  (∃ (s : State) (h : Hdr) (k : Option (List Nat)), admits h 0x0207 ([]) k s) ∧
  (∃ (s : State) (h : Hdr) (k : Option (List Nat)), admits h 0x0208 ([]) k s) ∧
  (∃ (s : State) (h : Hdr) (k : Option (List Nat)), admits h 0x0608 ([]) k s) ∧
  (∃ (s : State) (h : Hdr) (k : Option (List Nat)), admits h 0x0701 ([]) k s) ∧
  (∃ (s : State) (h : Hdr) (k : Option (List Nat)) (a : Nat) (n : Nat), admits h 0x0702 (leBytes 4 a ++ leBytes 2 n
    ++ [0, 0]) k s ∧ a < 2 ^ 32 ∧ 1 ≤ n ∧ n ≤ 40) ∧
  (∃ (s : State) (h : Hdr) (k : Option (List Nat)), admits h 0x0801 ([]) k s) ∧
  (∃ (s : State) (h : Hdr), isDirect h.src = true ∧ s.serves h.src = false) :=
  ⟨⟨{ st [(EVT_EN_EN 3, 77)] with power := { (st []).power with phase := .on, fw := true } }, ⟨.ssp, 1, none, 7, 0⟩, none, 0x122, 3, by unfold admits; decide +kernel⟩,
   ⟨{ st [] with power := { (st []).power with phase := .on, fw := true } }, ⟨.ssp, 1, none, 7, 0⟩, none, 23, 0xDEADBEEF#32, by unfold admits; decide +kernel⟩,
   ⟨{ st [(EVT_EN_EN 5, 0xFFFF)] with power := { (st []).power with phase := .on, fw := true } }, ⟨.ssp, 1, none, 7, 0⟩, none, 5, 0xFF00#32, 0x5555#32, by unfold admits; decide +kernel⟩,
   ⟨{ st [(GLB_STAT_STATE, 2)] with power := { (st []).power with phase := .on, fw := true } }, ⟨.ssp, 1, none, 7, 0⟩, none, by unfold admits; decide +kernel⟩,
   ⟨{ st [(GLB_STAT_STATE, 2), (MEM_RETSTAT_RET, 3)] with power := { (st []).power with phase := .on, fw := true } }, ⟨.ssp, 1, none, 7, 0⟩, none, by unfold admits; decide +kernel⟩,
   ⟨{ st [(GLB_STAT_STATE, 3)] with power := { (st []).power with phase := .on, fw := true } }, ⟨.ssp, 1, none, 7, 0⟩, none, by unfold admits; decide +kernel⟩,
   ⟨{ st [(GLB_STAT_STATE, 3)] with power := { (st []).power with phase := .on, fw := true } }, ⟨.ssp, 1, none, 7, 0⟩, none, by unfold admits; decide +kernel⟩,
   ⟨{ st [(GLB_STAT_STATE, 2)] with power := { (st []).power with phase := .on, fw := true } }, ⟨.ssp, 1, none, 7, 0⟩, none, by unfold admits; decide +kernel⟩,
   ⟨{ st [(GLB_STAT_STATE, 3)] with power := { (st []).power with phase := .on, fw := true } }, ⟨.ssp, 1, none, 7, 0⟩, none, by unfold admits; decide +kernel⟩,
   ⟨{ st [(GLB_STAT_STATE, 4)] with power := { (st []).power with phase := .on, fw := true } }, ⟨.ssp, 1, none, 7, 0⟩, none, by unfold admits; decide +kernel⟩,
   ⟨{ st [(GLB_STAT_STATE, 3)] with power := { (st []).power with phase := .on, fw := true } }, ⟨.ssp, 1, none, 7, 0⟩, none, by unfold admits; decide +kernel⟩,
   ⟨{ st [(GLB_STAT_STATE, 3)] with power := { (st []).power with phase := .on, fw := true } }, ⟨.ssp, 1, none, 7, 0⟩, none, by unfold admits; decide +kernel⟩,
   ⟨{ st [(GLB_STAT_STATE, 3)] with power := { (st []).power with phase := .on, fw := true } }, ⟨.ssp, 1, none, 7, 0⟩, none, 0x5B, by unfold admits; decide +kernel⟩,
   ⟨{ st [(GLB_STAT_STATE, 3)] with power := { (st []).power with phase := .on, fw := true } }, ⟨.ssp, 1, none, 7, 0⟩, none, by unfold admits; decide +kernel⟩,
   ⟨{ st [] with power := { (st []).power with phase := .on, fw := true }, baind := { Baind.init with ops := [⟨0x0301, 5, .ssp, 1, none, 0, true⟩] } }, ⟨.ssp, 1, none, 7, 0⟩, none, by unfold admits; decide +kernel⟩,
   ⟨{ st [] with power := { (st []).power with phase := .on, fw := true } }, ⟨.ssp, 1, none, 7, 0⟩, none, by unfold admits; decide +kernel⟩,
   ⟨{ st [] with power := { (st []).power with phase := .on, fw := true } }, ⟨.ssp, 1, none, 7, 0⟩, none, by unfold admits; decide +kernel⟩,
   ⟨{ st [] with power := { (st []).power with phase := .on, fw := true } }, ⟨.ssp, 1, none, 7, 0⟩, none, by unfold admits; decide +kernel⟩,
   ⟨{ st [] with power := { (st []).power with phase := .on, fw := true } }, ⟨.ssp, 1, none, 7, 0⟩, none, 0, 40, by unfold admits; decide +kernel⟩,
   ⟨{ st [] with power := { (st []).power with phase := .on, fw := true } }, ⟨.ssp, 1, none, 7, 0⟩, none, by unfold admits; decide +kernel⟩,
   ⟨st [], ⟨.ssp, 1, none, 7, 0⟩, by decide +kernel⟩⟩

/-- States that meet the hypotheses of each clause of LongOperationsAreAcceptedAndComplete. -/
theorem witness_longOperationsAreAcceptedAndComplete :
  (∃ (s : State) (h : Hdr) (k : Option (List Nat)), admits h 0x0301 ([]) k s) ∧
  (∃ (s : State) (h : Hdr) (k : Option (List Nat)), admits h 0x0302 ([]) k s ∧ s.calPhase = 0 ∧ s.get LOOP_CTRL_BKEN
    = 1 ∧ s.get STG_STAT_LOCK = 1) ∧
  (∃ (s : State) (h : Hdr) (k : Option (List Nat)), admits h 0x0302 ([]) k s ∧ s.calPhase = 10) ∧
  (∃ (s : State) (h : Hdr) (k : Option (List Nat)), admits h 0x0302 ([]) k s ∧ s.calPhase ≠ 10 ∧ (s.calPhase ≠ 0 ∨
    s.get LOOP_CTRL_BKEN ≠ 1 ∨ s.get STG_STAT_LOCK ≠ 1)) ∧
  (∃ (s : State) (h : Hdr) (k : Option (List Nat)) (n : Nat), admits h 0x0304 (leBytes 4 (BitVec.ofNat 32 (2 ^
    n)).toNat) k s ∧ n < s.nTiles ∧ s.mode ≠ 3 ∧ (s.tileList.any fun m => s.get (TIL_CVSTAT_SCAL_BUSY m) == 1) =
    false) ∧
  (∃ (s : State) (h : Hdr) (k : Option (List Nat)) (v : Word), admits h 0x0304 (leBytes 4 v.toNat) k s ∧ v.toNat < 2
    ^ s.nTiles ∧ s.mode = 3) ∧
  (∃ (s : State) (h : Hdr) (k : Option (List Nat)), admits h 0x0305 ([]) k s ∧ s.get HKA_STAT_SCALBUSY ≠ 1) ∧
  (∃ (s : State) (h : Hdr) (k : Option (List Nat)), admits h 0x0305 ([]) k s ∧ s.get HKA_STAT_SCALBUSY = 1) ∧
  (∃ (s : State) (h : Hdr) (k : Option (List Nat)), admits h 0x0403 ([]) k s ∧ s.opRuns 0x0403 = false ∧ s.opRuns
    0x0404 = false) ∧
  (∃ (s : State) (h : Hdr) (k : Option (List Nat)), admits h 0x0403 ([]) k s ∧ s.opRuns 0x0404 = true) ∧
  (∃ (s : State), s.opRuns 0x0403 = true ∧ waitsOk s ∧ (s.flash.saving.isSome = true ∨ s.mayReadPixels = true)) ∧
  (∃ (s : State), s.opRuns 0x0403 = true ∧ s.flash.saving = none ∧ s.mayReadPixels = false) ∧
  (∃ (s : State), s.opRuns 0x0403 = false ∧ s.flash.saving = none) ∧
  (∃ (s : State) (h : Hdr) (k : Option (List Nat)), admits h 0x0404 ([]) k s ∧ s.mode ≠ 3 ∧ s.opRuns 0x0404 = false) ∧
  (∃ (s : State) (h : Hdr) (k : Option (List Nat)), admits h 0x0404 ([]) k s ∧ s.mode = 3) ∧
  (∃ (s : State) (x : SavedSet), s.opRuns 0x0404 = true ∧ waitsOk s ∧ s.flash.saved = some x) ∧
  (∃ (s : State), s.opRuns 0x0404 = false) ∧
  (∃ (s : State) (h : Hdr) (k : Option (List Nat)) (n : Nat), admits h 0x0501 (leBytes 2 n ++ [0, 0]) k s ∧ 1 ≤ n ∧
    n ≤ 256 ∧ s.tap.grab = none) ∧
  (∃ (s : State) (h : Hdr) (k : Option (List Nat)) (n : Nat), admits h 0x0501 (leBytes 2 n ++ [0, 0]) k s ∧ 1 ≤ n ∧
    n ≤ 256 ∧ s.tap.grab ≠ none) ∧
  (∃ (s : State) (h : Hdr) (k : Option (List Nat)) (n : Nat), admits h 0x0604 (leBytes 4 n) k s ∧ 256 ≤ n ∧ n ≤
    8388608 ∧ n % 256 = 0 ∧ s.updBusy = false) ∧
  (∃ (s : State) (h : Hdr) (k : Option (List Nat)) (n : Nat), admits h 0x0604 (leBytes 4 n) k s ∧ 256 ≤ n ∧ n ≤
    8388608 ∧ n % 256 = 0 ∧ s.updBusy = true) ∧
  (∃ (s : State), s.opRuns 0x0604 = true ∧ waitsOk s) ∧
  (∃ (s : State), s.opRuns 0x0604 = false) ∧
  (∃ (s : State) (h : Hdr) (k : Option (List Nat)), admits h 0x0606 ([]) k s ∧ s.updBusy = false) ∧
  (∃ (s : State), s.opRuns 0x0606 = true ∧ waitsOk s) ∧
  (∃ (s : State), s.opRuns 0x0606 = false) ∧
  (∃ (s : State) (h : Hdr) (k : Option (List Nat)) (p : Nat) (q : Nat), admits h 0x7F00 (leBytes 2 p ++ leBytes 2 q)
    k s ∧ p < 65536 ∧ q < 65536 ∧ (s.baind.ops.any fun o => o.status == 1 && o.opcode == p && o.seq == q) = false) ∧
  (∃ (s : State) (h : Hdr) (k : Option (List Nat)) (q : Nat), admits h 0x7F00 (leBytes 2 0x0404 ++ leBytes 2 q) k s
    ∧ q < 65536 ∧ (s.baind.ops.any fun o => o.status == 1 && o.opcode == 0x0404 && o.seq == q) = true ∧ waitsOk s) :=
  ⟨⟨{ st [(GLB_STAT_STATE, 2)] with power := { (st []).power with phase := .on, fw := true } }, ⟨.ssp, 1, none, 7, 0⟩, none, by unfold admits; decide +kernel⟩,
   ⟨{ st [(LOOP_CTRL_BKEN, 1), (STG_STAT_LOCK, 1)] with power := { (st []).power with phase := .on, fw := true } }, ⟨.ssp, 1, none, 7, 0⟩, none, by unfold admits; decide +kernel⟩,
   ⟨{ st [(CAL_STATUS_PHASE, 10)] with power := { (st []).power with phase := .on, fw := true } }, ⟨.ssp, 1, none, 7, 0⟩, none, by unfold admits; decide +kernel⟩,
   ⟨{ st [] with power := { (st []).power with phase := .on, fw := true } }, ⟨.ssp, 1, none, 7, 0⟩, none, by unfold admits; decide +kernel⟩,
   ⟨{ st [] with power := { (st []).power with phase := .on, fw := true } }, ⟨.ssp, 1, none, 7, 0⟩, none, 9, by unfold admits; decide +kernel⟩,
   ⟨{ st [(GLB_STAT_STATE, 3)] with power := { (st []).power with phase := .on, fw := true } }, ⟨.ssp, 1, none, 7, 0⟩, none, 1#32, by unfold admits; decide +kernel⟩,
   ⟨{ st [] with power := { (st []).power with phase := .on, fw := true } }, ⟨.ssp, 1, none, 7, 0⟩, none, by unfold admits; decide +kernel⟩,
   ⟨{ st [(HKA_STAT_SCALBUSY, 1)] with power := { (st []).power with phase := .on, fw := true } }, ⟨.ssp, 1, none, 7, 0⟩, none, by unfold admits; decide +kernel⟩,
   ⟨{ st [] with power := { (st []).power with phase := .on, fw := true } }, ⟨.ssp, 1, none, 7, 0⟩, none, by unfold admits; decide +kernel⟩,
   ⟨{ st [] with power := { (st []).power with phase := .on, fw := true }, baind := { Baind.init with ops := [⟨0x0404, 5, .ssp, 1, none, 0, false⟩] } }, ⟨.ssp, 1, none, 7, 0⟩, none, by unfold admits; decide +kernel⟩,
   ⟨{ st [] with power := { (st []).power with phase := .on, fw := true }, baind := { Baind.init with ops := [⟨0x0403, 5, .ssp, 1, none, 0, false⟩] }, flash := { (st []).flash with op := [(0x88000, 0x78000), (0x1900000, 0x400000)], saving := some SavedSet.factory } }, by unfold waitsOk; decide +kernel⟩,
   ⟨{ st [(CAL_STATUS_PHASE, 8)] with power := { (st []).power with phase := .on, fw := true }, baind := { Baind.init with ops := [⟨0x0403, 5, .ssp, 1, none, 0, false⟩] } }, by decide +kernel⟩,
   ⟨st [], by decide +kernel⟩,
   ⟨{ st [] with power := { (st []).power with phase := .on, fw := true } }, ⟨.ssp, 1, none, 7, 0⟩, none, by unfold admits; decide +kernel⟩,
   ⟨{ st [(GLB_STAT_STATE, 3)] with power := { (st []).power with phase := .on, fw := true } }, ⟨.ssp, 1, none, 7, 0⟩, none, by unfold admits; decide +kernel⟩,
   ⟨{ st [] with power := { (st []).power with phase := .on, fw := true }, baind := { Baind.init with ops := [⟨0x0404, 5, .ssp, 1, none, 0, false⟩] }, flash := { (st []).flash with saved := some { SavedSet.factory with cls := [(5, 7)] } }, house := { House.init with badTables := [6] } }, { SavedSet.factory with cls := [(5, 7)] }, by unfold waitsOk; decide +kernel⟩,
   ⟨st [], by decide +kernel⟩,
   ⟨{ st [] with power := { (st []).power with phase := .on, fw := true } }, ⟨.ssp, 1, none, 7, 0⟩, none, 256, by unfold admits; decide +kernel⟩,
   ⟨{ st [] with power := { (st []).power with phase := .on, fw := true }, tap := { (st []).tap with grab := some (5, 0, 0, 0) } }, ⟨.ssp, 1, none, 7, 0⟩, none, 256, by unfold admits; decide +kernel⟩,
   ⟨{ st [] with power := { (st []).power with phase := .on, fw := true } }, ⟨.ssp, 1, none, 7, 0⟩, none, 8388608, by unfold admits; decide +kernel⟩,
   ⟨{ st [] with power := { (st []).power with phase := .on, fw := true }, baind := { Baind.init with ops := [⟨0x0606, 5, .ssp, 1, none, 0, false⟩] } }, ⟨.ssp, 1, none, 7, 0⟩, none, 256, by unfold admits; decide +kernel⟩,
   ⟨{ st [] with power := { (st []).power with phase := .on, fw := true }, baind := { Baind.init with ops := [⟨0x0604, 5, .ssp, 1, none, 0, false⟩] } }, by unfold waitsOk; decide +kernel⟩,
   ⟨st [], by decide +kernel⟩,
   ⟨{ st [] with power := { (st []).power with phase := .on, fw := true } }, ⟨.ssp, 1, none, 7, 0⟩, none, by unfold admits; decide +kernel⟩,
   ⟨{ st [] with power := { (st []).power with phase := .on, fw := true }, baind := { Baind.init with ops := [⟨0x0606, 5, .ssp, 1, none, 0, false⟩] }, flash := { (st []).flash with slotB := { Slot.empty with state := 1, size := 256 } } }, by unfold waitsOk; decide +kernel⟩,
   ⟨st [], by decide +kernel⟩,
   ⟨{ st [] with power := { (st []).power with phase := .on, fw := true }, baind := { Baind.init with ops := [⟨0x0404, 5, .ssp, 1, none, 0, false⟩] } }, ⟨.ssp, 1, none, 7, 0⟩, none, 0x404, 6, by unfold admits; decide +kernel⟩,
   ⟨{ st [] with power := { (st []).power with phase := .on, fw := true }, baind := { Baind.init with ops := [⟨0x0404, 5, .ssp, 1, none, 0, false⟩] } }, ⟨.ssp, 1, none, 7, 0⟩, none, 5, by unfold admits waitsOk; decide +kernel⟩⟩

/-- States that meet the hypotheses of each clause of TableSessionAndUpdateRequestsAndWhatExpires. -/
theorem witness_tableSessionAndUpdateRequestsAndWhatExpires :
  (∃ (s : State) (h : Hdr) (k : Option (List Nat)), admits h 0x0303 ([]) k s ∧ s.mode = 3) ∧
  (∃ (s : State) (h : Hdr) (k : Option (List Nat)), admits h 0x0303 ([]) k s ∧ s.mode ≠ 3 ∧ s.get CAL_GREF_PENDAPPLY
    = 1 ∧ s.pbBusy = false) ∧
  (∃ (s : State) (h : Hdr) (k : Option (List Nat)) (a : Nat) (v : Word), admits h 0x0401 (tablePay 8 a 1 ++ leWords
    [v.toNat]) k s ∧ a < s.nLanes ∧ s.get EJS_CTRL_MAPPEND ≠ 1 ∧ s.get EJS_CTRL_MAPACT ≤ 1) ∧
  (∃ (s : State) (h : Hdr) (k : Option (List Nat)) (a : Nat) (v : Word), admits h 0x0401 (tablePay 8 a 1 ++ leWords
    [v.toNat]) k s ∧ a < s.nLanes ∧ s.get EJS_CTRL_MAPPEND = 1) ∧
  (∃ (s : State) (h : Hdr) (k : Option (List Nat)) (i : Nat) (a : Nat) (n : Nat), admits h 0x0402 (tablePay i a n) k
    s ∧ i < 256 ∧ 1 ≤ n ∧ n ≤ 320 ∧ a + n ≤ tableSize i) ∧
  (∃ (s : State) (h : Hdr) (k : Option (List Nat)) (i : Nat) (o : Nat) (n : Nat) (x : Nat × TapRec), admits h 0x0502
    (leBytes 4 i ++ leBytes 4 o ++ leBytes 2 n ++ [0, 0]) k s ∧ i < 2 ^ 32 ∧ o < 2 ^ 32 ∧ (s.tap.ring.find? fun y =>
    y.1 == i) = some x ∧ 4 ≤ n ∧ n ≤ 1280 ∧ n % 4 = 0 ∧ o + n ≤ 64 + x.2.units * x.2.unit) ∧
  (∃ (s : State) (h : Hdr) (k : Option (List Nat)) (n : List Byte), admits h 0x0601 (ofBytes n) k s ∧ n.length = 16
    ∧ s.flash.devkey ≠ []) ∧
  (∃ (s : State) (h : Hdr) (k : Option (List Nat)) (n : List Byte), admits h 0x0601 (ofBytes n) k s ∧ n.length = 16
    ∧ s.flash.devkey = []) ∧
  (∃ (s : State) (h : Hdr) (k : Option (List Nat)), admits h 0x0602 ([]) k s) ∧
  (∃ (s : State) (h : Hdr) (k : Option (List Nat)) (n : List Byte), admits h 0x0603 (ofBytes n) k s ∧ n.length = 32
    ∧ s.flash.devkey = []) ∧
  (∃ (s : State) (h : Hdr) (k : Option (List Nat)) (n : List Byte), admits h 0x0603 (ofBytes n) k s ∧ n.length = 32
    ∧ s.flash.devkey ≠ [] ∧ h.src ≠ .ssp ∧ k = none) ∧
  (∃ (s : State) (h : Hdr) (k : Option (List Nat)) (o : Nat) (d : List Byte), admits h 0x0605 (leBytes 4 o ++
    ofBytes d) k s ∧ o < 2 ^ 32 ∧ o % 4 = 0 ∧ 4 ≤ d.length ∧ d.length ≤ 1280 ∧ s.updBusy = false ∧ (s.flash.slot
    s.target).mayProgram o d.length = true) ∧
  (∃ (s : State) (h : Hdr) (k : Option (List Nat)) (o : Nat) (d : List Byte), admits h 0x0605 (leBytes 4 o ++
    ofBytes d) k s ∧ o < 2 ^ 32 ∧ o % 4 = 0 ∧ 4 ≤ d.length ∧ d.length ≤ 1280 ∧ s.updBusy = false ∧ (s.flash.slot
    s.target).mayProgram o d.length = false) ∧
  (∃ (s : State) (h : Hdr) (k : Option (List Nat)) (n : Nat), admits h 0x0607 ([n % 256, 0, 0, 0]) k s ∧ n ≤ 1 ∧
    s.mode ≠ 3 ∧ s.updBusy = false) ∧
  (∃ (s : State) (h : Hdr) (k : Option (List Nat)), admits h 0x0802 ([]) k s ∧ s.get CHN_STAT_STATE = 1 ∧
    s.chain.handover = none) ∧
  (∃ (s : State) (h : Hdr) (k : Option (List Nat)), admits h 0x0802 ([]) k s ∧ (s.get CHN_STAT_STATE ≠ 1 ∨
    s.chain.handover ≠ none)) ∧
  (∃ (s : State) (r : Source) (x : Session), s.session r = some x) ∧
  (∃ (s : State) (r : Source), s.session r = none) ∧
  (∃ (s : State) (r : Source) (x : CachedReply), (s.baind.cache.find? fun y => y.src == r) = some x) ∧
  (∃ (s : State) (r : Source), (s.baind.cache.find? fun y => y.src == r) = none) ∧
  (∃ (s : State) (r : Source) (n : Nat) (f : Forwarded), (s.baind.fwd.find? fun f => f.src == r && f.seq == n &&
    f.waits != []) = some f ∧ isDirect r = true) ∧
  (∃ (s : State) (r : Source) (n : Nat), (s.baind.fwd.find? fun f => f.src == r && f.seq == n && f.waits != []) =
    none) ∧
  (∃ (s : State) (h : Hdr), s.isOn = true ∧ s.inChain = true ∧ h.target ≠ 255 ∧ h.target ≠ s.get GLB_STAT_CHIDX) ∧
  (∃ (s : State), 1 < s.chain.size) ∧
  (∃ (s : State), (s.isOn = false ∨ s.inChain = false)) ∧
  (∃ (s : State) (h : Hdr), isDirect h.src = true ∧ s.serves h.src = true ∧ s.flash.recovery = false ∧
    (h.trailer.any fun x => x.length != 32) = true) ∧
  (∃ (s : State) (h : Hdr), isDirect h.src = true ∧ s.serves h.src = true ∧ s.baind.cache = [] ∧ s.baind.sessions =
    [] ∧ h.trailer = none ∧ h.version % 256 ≠ 1) :=
  ⟨⟨{ st [(GLB_STAT_STATE, 3)] with power := { (st []).power with phase := .on, fw := true } }, ⟨.ssp, 1, none, 7, 0⟩, none, by unfold admits; decide +kernel⟩,
   ⟨{ st [(CAL_GREF_PENDAPPLY, 1)] with power := { (st []).power with phase := .on, fw := true } }, ⟨.ssp, 1, none, 7, 0⟩, none, by unfold admits; decide +kernel⟩,
   ⟨{ st [] with power := { (st []).power with phase := .on, fw := true } }, ⟨.ssp, 1, none, 7, 0⟩, none, 1023, 0xABCD1234#32, by unfold admits; decide +kernel⟩,
   ⟨{ st [(EJS_CTRL_MAPPEND, 1)] with power := { (st []).power with phase := .on, fw := true } }, ⟨.ssp, 1, none, 7, 0⟩, none, 1023, 0xABCD1234#32, by unfold admits; decide +kernel⟩,
   ⟨{ st [] with power := { (st []).power with phase := .on, fw := true } }, ⟨.ssp, 1, none, 7, 0⟩, none, 8, 4092, 4, by unfold admits; decide +kernel⟩,
   ⟨{ st [] with power := { (st []).power with phase := .on, fw := true }, tap := { (st []).tap with ring := [(3, ⟨[1, 2, 3], 2, 64, [(0, 500)]⟩)] } }, ⟨.ssp, 1, none, 7, 0⟩, none, 3, 60, 132, (3, ⟨[1, 2, 3], 2, 64, [(0, 500)]⟩), by unfold admits; decide +kernel⟩,
   ⟨{ st [] with power := { (st []).power with phase := .on, fw := true }, flash := { (st []).flash with devkey := [1] } }, ⟨.ssp, 1, none, 7, 0⟩, none, List.replicate 16 5#8, by unfold admits; decide +kernel⟩,
   ⟨{ st [] with power := { (st []).power with phase := .on, fw := true } }, ⟨.ssp, 1, none, 7, 0⟩, none, List.replicate 16 5#8, by unfold admits; decide +kernel⟩,
   ⟨{ st [(ETH_CTRL_IDLE, 255)] with power := { (st []).power with phase := .on, fw := true }, baind := { Baind.init with sessions := [(.ssp, ⟨[1, 2], none, 0⟩)] } }, ⟨.ssp, 1, none, 7, 0⟩, none, by unfold admits; decide +kernel⟩,
   ⟨{ st [] with power := { (st []).power with phase := .on, fw := true } }, ⟨.ssp, 1, none, 7, 0⟩, none, List.replicate 32 5#8, by unfold admits; decide +kernel⟩,
   ⟨{ st [] with power := { (st []).power with phase := .on, fw := true }, flash := { (st []).flash with devkey := [1] } }, ⟨.udp 1 2, 1, none, 7, 0⟩, none, List.replicate 32 5#8, by unfold admits; decide +kernel⟩,
   ⟨{ st [] with power := { (st []).power with phase := .on, fw := true }, flash := { (st []).flash with slotB := { Slot.empty with state := 1, size := 256 } } }, ⟨.ssp, 1, none, 7, 0⟩, none, 248, [1#8, 2#8, 3#8, 0xFF#8, 5#8, 6#8, 7#8, 8#8], by unfold admits; decide +kernel⟩,
   ⟨{ st [] with power := { (st []).power with phase := .on, fw := true }, flash := { (st []).flash with slotB := { Slot.empty with state := 1, size := 256 } } }, ⟨.ssp, 1, none, 7, 0⟩, none, 252, [1#8, 2#8, 3#8, 0xFF#8, 5#8, 6#8, 7#8, 8#8], by unfold admits; decide +kernel⟩,
   ⟨{ st [] with power := { (st []).power with phase := .on, fw := true } }, ⟨.ssp, 1, none, 7, 0⟩, none, 1, by unfold admits; decide +kernel⟩,
   ⟨{ st [(CHN_STAT_STATE, 1), (CHN_STAT_INDEX, 2), (GLB_STAT_CHIDX, 2)] with power := { (st []).power with phase := .on, fw := true } }, ⟨.ssp, 1, none, 7, 2⟩, none, by unfold admits; decide +kernel⟩,
   ⟨{ st [] with power := { (st []).power with phase := .on, fw := true } }, ⟨.ssp, 1, none, 7, 0⟩, none, by unfold admits; decide +kernel⟩,
   ⟨{ st [] with power := { (st []).power with phase := .on, fw := true }, baind := { Baind.init with sessions := [(.ssp, ⟨[1, 2], none, 0⟩)] } }, .ssp, ⟨[1, 2], none, 0⟩, by decide +kernel⟩,
   ⟨st [], .ssp, by decide +kernel⟩,
   ⟨{ st [] with power := { (st []).power with phase := .on, fw := true }, baind := { Baind.init with cache := [⟨.ssp, 1, 2, [], [], 0⟩] } }, .ssp, ⟨.ssp, 1, 2, [], [], 0⟩, by decide +kernel⟩,
   ⟨st [], .ssp, by decide +kernel⟩,
   ⟨{ st [] with power := { (st []).power with phase := .on, fw := true }, baind := { Baind.init with fwd := [⟨.ssp, 9, 0x206, [1, 2], [], 0, none, 0, []⟩] } }, .ssp, 9, ⟨.ssp, 9, 0x206, [1, 2], [], 0, none, 0, []⟩, by decide +kernel⟩,
   ⟨st [], .ssp, 9, by decide +kernel⟩,
   ⟨{ st [(CHN_STAT_STATE, 1), (CHN_STAT_INDEX, 2), (GLB_STAT_CHIDX, 2)] with power := { (st []).power with phase := .on, fw := true } }, ⟨.chain 1, 1, none, 7, 4⟩, by decide +kernel⟩,
   ⟨{ st [(CHN_STAT_STATE, 1), (CHN_STAT_INDEX, 2), (GLB_STAT_CHIDX, 2)] with power := { (st []).power with phase := .on, fw := true }, chain := { Chain.init with size := 4 } }, by decide +kernel⟩,
   ⟨{ st [] with power := { (st []).power with phase := .on, fw := true } }, by decide +kernel⟩,
   ⟨{ st [] with power := { (st []).power with phase := .on, fw := true } }, ⟨.ssp, 1, some [], 7, 0⟩, by decide +kernel⟩,
   ⟨{ st [] with power := { (st []).power with phase := .on, fw := true } }, ⟨.ssp, 2, none, 7, 0⟩, by decide +kernel⟩⟩

/-- States that meet the hypotheses of each clause of ReadsLatchPairsAndTableRecordsPerRequester. -/
theorem witness_readsLatchPairsAndTableRecordsPerRequester :
  (∃ (a : Nat), isLow a = true) ∧
  (∃ (s : State) (r : Requester) (a : Nat) (v : Nat), a < 0x10000 ∧ a % 4 = 0 ∧ a ≠ 0x38 ∧ isLow a = false ∧ (s.win
    r).latch = some (a, v)) ∧
  (∃ (s : State) (r : Requester) (a : Nat), a < 0x10000 ∧ a % 4 = 0 ∧ a ≠ 0x38 ∧ isLow a = false ∧ (s.win
    r).latch.map (·.1) ≠ some a) ∧
  (∃ (s : State) (r : Requester), s.get CAL_REFSEL_AUTOINC = 1 ∧ (s.win r).latch = none) ∧
  (∃ (s : State) (r : Requester) (a : Nat), s.place r a = .nowhere) ∧
  (∃ (a : Nat), isLow a = true ∧ a % 8 = 0) ∧
  (∃ (k : Nat), k < 4) ∧
  (∃ (s : State) (k : Nat), k < 16384 ∧ s.mem.errs = []) ∧
  (∃ (i : Nat), 1 ≤ i ∧ i ≤ 32) ∧
  (∃ (s : State) (r : Requester), tableSize (s.win r).sel ≤ (s.win r).addr) ∧
  (∃ (s : State) (r : Requester) (v : Nat), (s.win r).addr < tableSize (s.win r).sel ∧ (s.win r).latched (s.win
    r).sel (s.win r).addr = some v) ∧
  (∃ (s : State) (r : Requester), (s.win r).addr < tableSize (s.win r).sel ∧ (s.win r).latched (s.win r).sel (s.win
    r).addr = none ∧ s.mem.errs = []) ∧
  (∃ (s : State) (r : Requester), s.protected r 0x38 = false ∧ tableSize (s.win r).sel ≤ (s.win r).addr) ∧
  (∃ (s : State) (r : Requester), s.protected r 0x38 = false ∧ (s.win r).sel = 5 ∧ (s.win r).addr < 512) ∧
  (∃ (s : State) (r : Requester), s.protected r 0x38 = false ∧ (s.win r).sel = 8 ∧ (s.win r).addr < s.nLanes ∧ s.get
    EJS_CTRL_MAPPEND = 0) ∧
  (∃ (s : State), bitOf (s.get GLB_APPWE_WE) 0 = false) :=
  ⟨⟨0x1C, by decide +kernel⟩,
   ⟨{ st [] with wins := [(reqIndex (.hart 2), { Win.init with latch := some (0x20, 77) })] }, .hart 2, 0x20, 77, by decide +kernel⟩,
   ⟨st [(CAL_REFSEL_LANE, 9), (CAL_REFSEL_AUTOINC, 1)], .hart 2, 0x646C, by decide +kernel⟩,
   ⟨st [(CAL_REFSEL_LANE, 2047), (CAL_REFSEL_AUTOINC, 1)], .hart 2, by decide +kernel⟩,
   ⟨st [], .ssp, 0x10000, by decide +kernel⟩,
   ⟨0x1010, by decide +kernel⟩,
   ⟨3, by decide +kernel⟩,
   ⟨st [], 16383, by decide +kernel⟩,
   ⟨32, by decide +kernel⟩,
   ⟨{ st [] with wins := [(reqIndex (.hart 2), { Win.init with sel := 5, addr := 512, autoinc := true })] }, .hart 2, by decide +kernel⟩,
   ⟨{ st [] with wins := [(reqIndex (.hart 2), { Win.init with sel := 10, addr := 10, recd := [(10, 8, [5, 6, 7])] })] }, .hart 2, 6, by decide +kernel⟩,
   ⟨{ st [(VRD_CTRL_ACTBANK, 1)] with wins := [(1 + 2, { Win.init with sel := 7, addr := 64, autoinc := true })], sched := { Sched.init with log := [(64, 9), (70, 11)] } }, .hart 2, by decide +kernel⟩,
   ⟨{ st [] with wins := [(reqIndex (.ssp), { Win.init with sel := 8, addr := 4096, autoinc := true })] }, .ssp, by decide +kernel⟩,
   ⟨{ st [] with wins := [(reqIndex (.ssp), { Win.init with sel := 5, addr := 511, autoinc := true })] }, .ssp, by decide +kernel⟩,
   ⟨{ st [] with wins := [(reqIndex (.ssp), { Win.init with sel := 8, addr := 2047, autoinc := true })] }, .ssp, by decide +kernel⟩,
   ⟨st [(GLB_APPWE_WE, 0)], by decide +kernel⟩⟩

/-- States that meet the hypotheses of each clause of SerialFramesReadWriteAndCarryPackets. -/
theorem witness_serialFramesReadWriteAndCarryPackets :
  (∃ (s : State) (v : Nat), s.sspServes = true ∧ v ≠ 0) ∧
  (∃ (s : State) (v : Nat), s.sspServes = true ∧ v ≠ 0) ∧
  (∃ (s : State) (v : Nat), s.sspServes = true ∧ v ≠ 0) ∧
  (∃ (s : State) (v : Nat), s.sspServes = true ∧ v ≠ 0) ∧
  (∃ (s : State), s.sspServes = false) ∧
  (∃ (s : State) (a : Nat), s.sspServes = true ∧ 0x4000 ≤ a ∧ a < 0x10000) ∧
  (∃ (s : State) (a : Nat), s.sspServes = true ∧ a < 0x4000 ∧ a ≠ 0xE ∧ (isLow (4 * a) = true ∨ (s.win
    .ssp).latch.map (·.1) ≠ some (4 * a))) ∧
  (∃ (s : State), s.sspServes = false) ∧
  (∃ (s : State) (l : List Byte), s.sspServes = true ∧ l.length < 2) ∧
  (∃ (s : State) (l : List Byte), s.sspServes = true ∧ 258 < l.length) ∧
  (∃ (s : State) (l : List Byte) (bits : Nat), s.sspServes = true ∧ 2 ≤ l.length ∧ l.length ≤ 258 ∧ (l.length % 4 ≠
    2 ∨ bits % 8 ≠ 0)) ∧
  (∃ (s : State) (a : Nat) (b0 : Byte) (b1 : Byte) (b2 : Byte) (b3 : Byte) (v : Nat), s.sspServes = true ∧ 4 * a ∈
    plainRegs ∧ v = b0.toNat + 256 * b1.toNat + 65536 * b2.toNat + 16777216 * b3.toNat) ∧
  (∃ (s : State), s.sspServes = false) ∧
  (∃ (s : State), s.sspServes = true) ∧
  (∃ (s : State) (l : List Byte) (bits : Nat) (y : Nat) (p : List Nat), s.sspServes = true ∧ p = (if bits % 8 = 0
    then ofBytes l else ofBytes l ++ [y % 2 ^ (bits % 8)]) ∧ p ≠ [] ∧ s.slotTaken p = true) ∧
  (∃ (s : State) (l : List Byte) (bits : Nat) (y : Nat) (p : List Nat), s.sspServes = true ∧ p = (if bits % 8 = 0
    then ofBytes l else ofBytes l ++ [y % 2 ^ (bits % 8)]) ∧ p ≠ [] ∧ s.slotTaken p = false ∧ s.serves .ssp = false
    ∧ p.length ≤ 1344 ∧ le2 p 2 ≠ 0x7F00) ∧
  (∃ (s : State) (l : List Byte) (p : List Nat), s.sspServes = true ∧ p = ofBytes l ∧ s.slotTaken p = false ∧
    s.serves .ssp = false ∧ p.length ≤ 1344 ∧ le2 p 2 = 0x7F00) ∧
  (∃ (s : State) (l : List Byte) (p : List Nat), s.sspServes = true ∧ p = ofBytes l ∧ s.slotTaken p = false ∧
    s.serves .ssp = false ∧ 1344 < p.length ∧ le2 p 2 ≠ 0x7F00) ∧
  (∃ (s : State) (l : List Byte), s.sspServes = true ∧ l ≠ [] ∧ s.slotTaken (ofBytes l) = false ∧ s.serves .ssp =
    true ∧ l.length ≤ 1344) ∧
  (∃ (s : State), s.sspServes = false) ∧
  (∃ (s : State), s.sspServes = true ∧ s.ssp.outbox = []) ∧
  (∃ (s : State) (p : List Nat) (r : List (List Nat)), s.sspServes = true ∧ s.ssp.outbox = p :: r) :=
  ⟨⟨{ st [] with ssp := { Ssp.init with ready := true } }, 3, by decide +kernel⟩,
   ⟨{ st [] with ssp := { Ssp.init with ready := true } }, 1, by decide +kernel⟩,
   ⟨{ st [] with ssp := { Ssp.init with ready := true } }, 1, by decide +kernel⟩,
   ⟨{ st [] with ssp := { Ssp.init with ready := true } }, 1, by decide +kernel⟩,
   ⟨st [], by decide +kernel⟩,
   ⟨{ st [] with ssp := { Ssp.init with ready := true } }, 0x4000, by decide +kernel⟩,
   ⟨{ st [] with time := 2 ^ 35 + 6, ssp := { Ssp.init with ready := true } }, 7, by decide +kernel⟩,
   ⟨st [], by decide +kernel⟩,
   ⟨{ st [] with ssp := { Ssp.init with ready := true } }, [1], by decide +kernel⟩,
   ⟨{ st [] with ssp := { Ssp.init with ready := true } }, List.replicate 259 7#8, by decide +kernel⟩,
   ⟨{ st [] with ssp := { Ssp.init with ready := true } }, [1, 2, 3, 4, 5], 0, by decide +kernel⟩,
   ⟨{ st [(EVT_EN_EN 3, 5)] with ssp := { Ssp.init with ready := true } }, 0x123, 1, 2, 3, 4, 0x04030201, by decide +kernel⟩,
   ⟨st [], by decide +kernel⟩,
   ⟨{ st [] with ssp := { Ssp.init with ready := true, err := true } }, by decide +kernel⟩,
   ⟨{ st [] with ssp := { Ssp.init with ready := true, inbox := [[1], [2]] } }, [1, 2, 3], 3, 255, [1, 2, 3, 7], by decide +kernel⟩,
   ⟨{ st [] with ssp := { Ssp.init with ready := true, inbox := [[1]] } }, [1, 2, 3], 3, 255, [1, 2, 3, 7], by decide +kernel⟩,
   ⟨{ st [] with ssp := { Ssp.init with ready := true, inbox := [[1], [2]] } }, [1, 2, 0, 127, 5], [1, 2, 0, 127, 5], by decide +kernel⟩,
   ⟨{ st [] with ssp := { Ssp.init with ready := true } }, List.replicate 1345 7#8, List.replicate 1345 7, by decide +kernel⟩,
   ⟨{ st [] with power := { (st []).power with phase := .on, fw := true }, ssp := { Ssp.init with ready := true } }, [1, 2, 3], by decide +kernel⟩,
   ⟨st [], by decide +kernel⟩,
   ⟨{ st [] with ssp := { Ssp.init with ready := true } }, by decide +kernel⟩,
   ⟨{ st [] with ssp := { Ssp.init with ready := true, outbox := [[1, 2, 3, 4], [5]], waiting := [[6], [7]] } }, [1, 2, 3, 4], [[5]], by decide +kernel⟩⟩

/-- States that meet the hypotheses of each clause of FlashWindowHitsMissesAndSuspension. -/
theorem witness_flashWindowHitsMissesAndSuspension :
  (∃ (s : State), s.isOn = false) ∧
  (∃ (s : State) (a : Nat), s.isOn = true ∧ (s.get FLS_SIZE_MIB * 2 ^ 20) ≤ a) ∧
  (∃ (s : State) (a : Nat), s.isOn = true ∧ a < (s.get FLS_SIZE_MIB * 2 ^ 20) ∧ a / 64 * 64 ∈ s.flash.lines) ∧
  (∃ (s : State) (a : Nat), s.isOn = true ∧ a < (s.get FLS_SIZE_MIB * 2 ^ 20) ∧ ¬a / 64 * 64 ∈ s.flash.lines ∧
    (s.flash.op = [] ∨ s.flash.suspended = true)) ∧
  (∃ (s : State) (a : Nat), s.isOn = true ∧ a < (s.get FLS_SIZE_MIB * 2 ^ 20) ∧ ¬a / 64 * 64 ∈ s.flash.lines ∧
    s.flash.op ≠ [] ∧ s.flash.suspended = false) ∧
  (∃ (s : State), ((s.flash.op ≠ [] ∧ s.flash.suspended = false) ∨ (s.flash.misses = [] ∧ s.flash.seqLine = none))) ∧
  (∃ (s : State) (l : Nat), (s.flash.op = [] ∨ s.flash.suspended = true) ∧ s.flash.misses ≠ [] ∧ (l =
    ((s.flash.misses.find? (fun m => !m.1)).getD (s.flash.misses.headD (true, 0))).2)) ∧
  (∃ (s : State) (l : Nat), (s.flash.op = [] ∨ s.flash.suspended = true) ∧ s.flash.misses = [] ∧ s.flash.seqLine =
    some l) ∧
  (∃ (s : State), s.flash.suspended = true ∧ s.flash.misses = []) ∧
  (∃ (s : State), (s.flash.suspended = false ∨ s.flash.misses ≠ [])) ∧
  (∃ (s : State) (a : Nat) (n : Nat) (r : List (Nat × Nat)), s.flash.suspended = false ∧ s.flash.op = (a, n) :: r) ∧
  (∃ (s : State), (s.flash.suspended = true ∨ s.flash.op = [])) :=
  ⟨⟨{ st [] with power := ⟨.held, 1, 0, false, false⟩ }, by decide +kernel⟩,
   ⟨st [(FLS_SIZE_MIB, 64), (FLS_ERRCNT_COUNT, 2147483647)], 67108864, by decide +kernel⟩,
   ⟨{ st [(FLS_SIZE_MIB, 64)] with flash := { Flash.init with lines := [128, 192] } }, 191, by decide +kernel⟩,
   ⟨{ st [(FLS_SIZE_MIB, 64)] with flash := { Flash.init with lines := [128, 192] } }, 67108863, by decide +kernel⟩,
   ⟨{ st [(FLS_SIZE_MIB, 64), (FLS_STAT_SUSPOK, 1)] with flash := { Flash.init with op := [(4096, 256)] } }, 70, by decide +kernel⟩,
   ⟨{ st [] with flash := { Flash.init with op := [(4096, 256)], misses := [(true, 64)] } }, by decide +kernel⟩,
   ⟨{ st [(FLS_SIZE_MIB, 64), (FLS_CTRL_SEQ, 1), (FLS_STAT_READ, 2)] with flash := { Flash.init with lines := [0, 192, 256, 320], misses := [(true, 64), (false, 128), (true, 128)] } }, 128, by decide +kernel⟩,
   ⟨{ st [] with flash := { Flash.init with lines := [0, 192, 256, 320], seqLine := some 384 } }, 384, by decide +kernel⟩,
   ⟨{ st [(FLS_STAT_CONT, 1)] with flash := { Flash.init with op := [(4096, 256)], suspended := true } }, by decide +kernel⟩,
   ⟨{ st [] with flash := { Flash.init with op := [(4096, 256)], suspended := true, misses := [(true, 64)] } }, by decide +kernel⟩,
   ⟨{ st [] with flash := { Flash.init with op := [(256, 256), (4096, 1)], lines := [192, 256, 448, 512] } }, 256, 256, [(4096, 1)], by decide +kernel⟩,
   ⟨st [], by decide +kernel⟩⟩

/-- States that meet the hypotheses of each clause of ManagementPortFramesLeasesAndTime. -/
theorem witness_managementPortFramesLeasesAndTime :
  (∃ (s : State), (s.fwRuns = false ∨ s.get ETH_CTRL_EN ≠ 1)) ∧
  (∃ (s : State), s.fwRuns = true ∧ s.get ETH_CTRL_EN = 1 ∧ s.mem.errs = []) ∧
  (∃ (s : State), s.fwRuns = true ∧ s.get ETH_CTRL_EN = 1) ∧
  (∃ (s : State), s.fwRuns = true ∧ s.get ETH_CTRL_EN = 1) ∧
  (∃ (s : State) (f : EthFrame), s.fwRuns = true ∧ s.get ETH_CTRL_EN = 1 ∧ (f = .ptpL2 ∨ f = .other)) ∧
  (∃ (s : State), s.fwRuns = true ∧ s.get ETH_CTRL_EN = 1) ∧
  (∃ (s : State), s.fwRuns = true ∧ s.get ETH_CTRL_EN = 1) ∧
  (∃ (s : State) (tg : Bool) (dip : Nat) (dp : Nat), s.fwRuns = true ∧ s.get ETH_CTRL_EN = 1 ∧ (tg = true ∨ dp ≠
    40707 ∨ ¬(s.get ETH_CTRL_DHCP ≠ 1 ∨ s.get ETH_STAT_BOUND = 1) ∨ (dip ≠ s.get ETH_IP_ADDR ∧ s.isBroadcast dip =
    false))) ∧
  (∃ (s : State) (fr : Bool) (dip : Nat) (p : List Byte), s.fwRuns = true ∧ s.get ETH_CTRL_EN = 1 ∧ (s.get
    ETH_CTRL_DHCP ≠ 1 ∨ s.get ETH_STAT_BOUND = 1) ∧ (dip = s.get ETH_IP_ADDR ∨ s.isBroadcast dip = true) ∧ (fr =
    true ∨ (dip ≠ s.get ETH_IP_ADDR ∧ le2 (ofBytes p) 2 ≠ 0x0208))) ∧
  (∃ (s : State) (dip : Nat) (p : List Byte), s.fwRuns = true ∧ s.get ETH_CTRL_EN = 1 ∧ (s.get ETH_CTRL_DHCP ≠ 1 ∨
    s.get ETH_STAT_BOUND = 1) ∧ (dip = s.get ETH_IP_ADDR ∨ (s.isBroadcast dip = true ∧ le2 (ofBytes p) 2 = 0x0208))) ∧
  (∃ (s : State), (s.fwRuns = false ∨ s.get ETH_CTRL_DHCP ≠ 1)) ∧
  (∃ (s : State), s.fwRuns = true ∧ s.get ETH_CTRL_DHCP = 1) ∧
  (∃ (s : State), s.fwRuns = true ∧ s.get ETH_CTRL_DHCP = 1 ∧ (s.net.dhcp = 2 ∨ s.net.dhcp = 4 ∨ s.net.dhcp = 5)) ∧
  (∃ (s : State), s.fwRuns = true ∧ s.get ETH_CTRL_DHCP = 1 ∧ (s.net.dhcp = 2 ∨ s.net.dhcp = 4 ∨ s.net.dhcp = 5)) ∧
  (∃ (s : State) (m : DhcpMsg), dhcpIsOffer m = false ∧ s.net.dhcp ≠ 2 ∧ s.net.dhcp ≠ 4 ∧ s.net.dhcp ≠ 5) ∧
  (∃ (s : State), (s.fwRuns = false ∨ s.get ETH_CTRL_DHCP ≠ 1)) ∧
  (∃ (s : State) (x : DhcpTimer), s.fwRuns = true ∧ s.get ETH_CTRL_DHCP = 1 ∧ ((x = .renew ∧ s.net.dhcp = 3) ∨ (x =
    .rebind ∧ s.net.dhcp = 4))) ∧
  (∃ (s : State), s.fwRuns = true ∧ s.get ETH_CTRL_DHCP = 1 ∧ s.get ETH_STAT_BOUND = 1) ∧
  (∃ (s : State) (x : DhcpTimer), ((x = .renew ∧ s.net.dhcp ≠ 3) ∨ (x = .rebind ∧ s.net.dhcp ≠ 4) ∨ (x = .expire ∧
    s.get ETH_STAT_BOUND ≠ 1))) ∧
  (∃ (s : State), (s.fwRuns = false ∨ s.ptpActive = false)) ∧
  (∃ (s : State) (x : Int), s.fwRuns = true ∧ s.ptpActive = true ∧ s.get ETH_PTPSTAT_LOCK = 0 ∧ x.natAbs < 100 *
    s.get ETH_PTPCTL_LOCKTH ∧ x.natAbs ≤ 1000000 ∧ (s.net.good + 1 < 16 ∨ s.net.hold = true)) ∧
  (∃ (s : State) (x : Int), s.fwRuns = true ∧ s.ptpActive = true ∧ s.get ETH_PTPSTAT_LOCK = 0 ∧ 100 * s.get
    ETH_PTPCTL_LOCKTH ≤ x.natAbs ∧ x.natAbs ≤ 1000000) ∧
  (∃ (s : State) (x : Int), s.fwRuns = true ∧ s.ptpActive = true ∧ s.get ETH_PTPSTAT_LOCK = 0 ∧ x.natAbs < 100 *
    s.get ETH_PTPCTL_LOCKTH ∧ x.natAbs ≤ 1000000 ∧ 15 ≤ s.net.good ∧ s.net.hold = false ∧ s.net.askOfs = false ∧
    s.get ETH_PTPSTAT_OFSVALID = 1) ∧
  (∃ (s : State) (x : Int) (p : Nat) (v : Nat), s.fwRuns = true ∧ s.ptpActive = true ∧ s.get ETH_PTPSTAT_LOCK = 0 ∧
    x.natAbs < 100 * s.get ETH_PTPCTL_LOCKTH ∧ 15 ≤ s.net.good ∧ s.net.hold = false ∧ (s.net.askOfs = true ∨ s.get
    ETH_PTPSTAT_OFSVALID = 0) ∧ v = unsgn 64 (2 * roundDiv ((p : Int) - floor2 s.time) 2)) ∧
  (∃ (s : State) (x : Int), s.fwRuns = true ∧ s.ptpActive = true ∧ s.get ETH_PTPSTAT_OFSVALID = 1 ∧ s.net.askOfs =
    false ∧ 1000000 < x.natAbs) ∧
  (∃ (s : State) (x : Int), s.fwRuns = true ∧ s.ptpActive = true ∧ s.get ETH_PTPSTAT_LOCK = 1 ∧ x.natAbs ≤ 1000000 ∧
    4 * (100 * s.get ETH_PTPCTL_LOCKTH) < x.natAbs) ∧
  (∃ (s : State) (x : Int), s.fwRuns = true ∧ s.ptpActive = true ∧ s.get ETH_PTPSTAT_LOCK = 1 ∧ x.natAbs ≤ 1000000 ∧
    x.natAbs ≤ 4 * (100 * s.get ETH_PTPCTL_LOCKTH)) ∧
  (∃ (s : State), (s.fwRuns = false ∨ s.get ETH_PTPCTL_EN ≠ 1)) ∧
  (∃ (s : State), s.fwRuns = true ∧ s.get ETH_PTPCTL_EN = 1 ∧ s.get ETH_PTPSTAT_LOCK = 1) ∧
  (∃ (s : State), s.fwRuns = true ∧ s.get ETH_PTPCTL_EN = 1 ∧ s.get ETH_PTPSTAT_LOCK ≠ 1) ∧
  (∃ (s : State) (r : Requester), s.protected r 0xC050 = false) ∧
  (∃ (s : State) (l : Bool) (f : Bool) (n : Nat), (s.fwRuns = false ∨ (b2n l = s.get ETH_STAT_LINK ∧ n % 4 = s.get
    ETH_STAT_SPEED ∧ b2n f = s.get ETH_STAT_FDX))) ∧
  (∃ (s : State) (l : Bool) (f : Bool) (n : Nat), s.fwRuns = true ∧ s.get ETH_STAT_LINK < 2 ∧ s.get ETH_STAT_FDX < 2
    ∧ (b2n l ≠ s.get ETH_STAT_LINK ∨ n % 4 ≠ s.get ETH_STAT_SPEED ∨ b2n f ≠ s.get ETH_STAT_FDX)) ∧
  (∃ (s : State) (r : Requester), s.protected r 0xC020 = false ∧ s.get ETH_MDIOCMD_BUSY = 0) ∧
  (∃ (s : State) (r : Requester), s.protected r 0xC020 = false ∧ s.get ETH_MDIOCMD_BUSY = 1) ∧
  (∃ (s : State), s.net.mdio = none) ∧
  (∃ (s : State) (w : Option Nat), s.net.mdio = some w) :=
  ⟨⟨st [], by decide +kernel⟩,
   ⟨{ st [(ETH_CTRL_EN, 1), (CHN_STAT_STATE, 2), (ETH_IP_ADDR, 0xC0A80107), (ETH_MASK_ADDR, 0xFFFFFF00)] with power := { (st []).power with phase := .on, fw := true } }, by decide +kernel⟩,
   ⟨{ st [(ETH_CTRL_EN, 1), (CHN_STAT_STATE, 2), (ETH_IP_ADDR, 0xC0A80107), (ETH_MASK_ADDR, 0xFFFFFF00)] with power := { (st []).power with phase := .on, fw := true } }, by decide +kernel⟩,
   ⟨{ st [(ETH_CTRL_EN, 1), (CHN_STAT_STATE, 2), (ETH_IP_ADDR, 0xC0A80107), (ETH_MASK_ADDR, 0xFFFFFF00), (ETH_DROPCNT_COUNT, 2147483647)] with power := { (st []).power with phase := .on, fw := true } }, by decide +kernel⟩,
   ⟨{ st [(ETH_CTRL_EN, 1), (CHN_STAT_STATE, 2), (ETH_IP_ADDR, 0xC0A80107), (ETH_MASK_ADDR, 0xFFFFFF00)] with power := { (st []).power with phase := .on, fw := true } }, .other, by decide +kernel⟩,
   ⟨{ st [(ETH_CTRL_EN, 1), (CHN_STAT_STATE, 2), (ETH_IP_ADDR, 0xC0A80107), (ETH_MASK_ADDR, 0xFFFFFF00)] with power := { (st []).power with phase := .on, fw := true } }, by decide +kernel⟩,
   ⟨{ st [(ETH_CTRL_EN, 1), (CHN_STAT_STATE, 2), (ETH_IP_ADDR, 0xC0A80107), (ETH_MASK_ADDR, 0xFFFFFF00), (ETH_CTRL_DHCP, 1)] with power := { (st []).power with phase := .on, fw := true } }, by decide +kernel⟩,
   ⟨{ st [(ETH_CTRL_EN, 1), (CHN_STAT_STATE, 2), (ETH_IP_ADDR, 0xC0A80107), (ETH_MASK_ADDR, 0xFFFFFF00)] with power := { (st []).power with phase := .on, fw := true } }, false, 7, 40707, by decide +kernel⟩,
   ⟨{ st [(ETH_CTRL_EN, 1), (CHN_STAT_STATE, 2), (ETH_IP_ADDR, 0xC0A80107), (ETH_MASK_ADDR, 0xFFFFFF00)] with power := { (st []).power with phase := .on, fw := true } }, false, 0xC0A801FF, [1, 2, 3, 4], by decide +kernel⟩,
   ⟨{ st [(ETH_CTRL_EN, 1), (CHN_STAT_STATE, 2), (ETH_IP_ADDR, 0xC0A80107), (ETH_MASK_ADDR, 0xFFFFFF00)] with power := { (st []).power with phase := .on, fw := true } }, 0xFFFFFFFF, [1, 2, 8, 2], by decide +kernel⟩,
   ⟨st [], by decide +kernel⟩,
   ⟨{ st [(ETH_CTRL_EN, 1), (CHN_STAT_STATE, 2), (ETH_IP_ADDR, 0xC0A80107), (ETH_MASK_ADDR, 0xFFFFFF00), (ETH_CTRL_DHCP, 1)] with power := { (st []).power with phase := .on, fw := true }, net := { Net.init with dhcp := 1 } }, by decide +kernel⟩,
   ⟨{ st [(ETH_CTRL_EN, 1), (CHN_STAT_STATE, 2), (ETH_IP_ADDR, 0xC0A80107), (ETH_MASK_ADDR, 0xFFFFFF00), (ETH_CTRL_DHCP, 1)] with power := { (st []).power with phase := .on, fw := true }, net := { Net.init with dhcp := 5 } }, by decide +kernel⟩,
   ⟨{ st [(ETH_CTRL_EN, 1), (CHN_STAT_STATE, 2), (ETH_IP_ADDR, 0xC0A80107), (ETH_MASK_ADDR, 0xFFFFFF00), (ETH_CTRL_DHCP, 1), (ETH_STAT_BOUND, 1)] with power := { (st []).power with phase := .on, fw := true }, net := { Net.init with dhcp := 4 } }, by decide +kernel⟩,
   ⟨{ st [(ETH_CTRL_EN, 1), (CHN_STAT_STATE, 2), (ETH_IP_ADDR, 0xC0A80107), (ETH_MASK_ADDR, 0xFFFFFF00), (ETH_CTRL_DHCP, 1)] with power := { (st []).power with phase := .on, fw := true }, net := { Net.init with dhcp := 3 } }, .ack 1 2 3, by decide +kernel⟩,
   ⟨st [], by decide +kernel⟩,
   ⟨{ st [(ETH_CTRL_EN, 1), (CHN_STAT_STATE, 2), (ETH_IP_ADDR, 0xC0A80107), (ETH_MASK_ADDR, 0xFFFFFF00), (ETH_CTRL_DHCP, 1), (ETH_STAT_BOUND, 1)] with power := { (st []).power with phase := .on, fw := true }, net := { Net.init with dhcp := 4 } }, .rebind, by decide +kernel⟩,
   ⟨{ st [(ETH_CTRL_EN, 1), (CHN_STAT_STATE, 2), (ETH_IP_ADDR, 0xC0A80107), (ETH_MASK_ADDR, 0xFFFFFF00), (ETH_CTRL_DHCP, 1), (ETH_STAT_BOUND, 1)] with power := { (st []).power with phase := .on, fw := true }, net := { Net.init with dhcp := 5 } }, by decide +kernel⟩,
   ⟨st [], .expire, by decide +kernel⟩,
   ⟨st [], by decide +kernel⟩,
   ⟨{ st [(ETH_CTRL_EN, 1), (CHN_STAT_STATE, 2), (ETH_IP_ADDR, 0xC0A80107), (ETH_MASK_ADDR, 0xFFFFFF00), (ETH_PTPCTL_EN, 1), (ETH_PTPCTL_LOCKTH, 10)] with power := { (st []).power with phase := .on, fw := true }, net := { Net.init with good := 14 } }, -999, by decide +kernel⟩,
   ⟨{ st [(ETH_CTRL_EN, 1), (CHN_STAT_STATE, 2), (ETH_IP_ADDR, 0xC0A80107), (ETH_MASK_ADDR, 0xFFFFFF00), (ETH_PTPCTL_EN, 1), (ETH_PTPCTL_LOCKTH, 10)] with power := { (st []).power with phase := .on, fw := true }, net := { Net.init with good := 14 } }, -1000, by decide +kernel⟩,
   ⟨{ st [(ETH_CTRL_EN, 1), (CHN_STAT_STATE, 2), (ETH_IP_ADDR, 0xC0A80107), (ETH_MASK_ADDR, 0xFFFFFF00), (ETH_PTPCTL_EN, 1), (ETH_PTPCTL_LOCKTH, 10), (ETH_PTPSTAT_OFSVALID, 1)] with power := { (st []).power with phase := .on, fw := true }, net := { Net.init with good := 15 } }, 999, by decide +kernel⟩,
   ⟨{ { st [(ETH_CTRL_EN, 1), (CHN_STAT_STATE, 2), (ETH_IP_ADDR, 0xC0A80107), (ETH_MASK_ADDR, 0xFFFFFF00), (ETH_PTPCTL_EN, 1), (ETH_PTPCTL_LOCKTH, 10)] with power := { (st []).power with phase := .on, fw := true }, net := { Net.init with good := 15 } } with time := 101 }, 999, 4, unsgn 64 (-96), by decide +kernel⟩,
   ⟨{ st [(ETH_CTRL_EN, 1), (CHN_STAT_STATE, 2), (ETH_IP_ADDR, 0xC0A80107), (ETH_MASK_ADDR, 0xFFFFFF00), (ETH_PTPCTL_EN, 1), (ETH_PTPCTL_LOCKTH, 10), (ETH_PTPSTAT_OFSVALID, 1)] with power := { (st []).power with phase := .on, fw := true }, net := { Net.init with good := 15 } }, 1000001, by decide +kernel⟩,
   ⟨{ st [(ETH_CTRL_EN, 1), (CHN_STAT_STATE, 2), (ETH_IP_ADDR, 0xC0A80107), (ETH_MASK_ADDR, 0xFFFFFF00), (ETH_PTPCTL_EN, 1), (ETH_PTPCTL_LOCKTH, 10), (ETH_PTPSTAT_LOCK, 1)] with power := { (st []).power with phase := .on, fw := true }, net := { Net.init with good := 16 } }, 4001, by decide +kernel⟩,
   ⟨{ st [(ETH_CTRL_EN, 1), (CHN_STAT_STATE, 2), (ETH_IP_ADDR, 0xC0A80107), (ETH_MASK_ADDR, 0xFFFFFF00), (ETH_PTPCTL_EN, 1), (ETH_PTPCTL_LOCKTH, 10), (ETH_PTPSTAT_LOCK, 1)] with power := { (st []).power with phase := .on, fw := true }, net := { Net.init with good := 16 } }, 4000, by decide +kernel⟩,
   ⟨st [], by decide +kernel⟩,
   ⟨{ st [(ETH_CTRL_EN, 1), (CHN_STAT_STATE, 2), (ETH_IP_ADDR, 0xC0A80107), (ETH_MASK_ADDR, 0xFFFFFF00), (ETH_PTPCTL_EN, 1), (ETH_PTPSTAT_LOCK, 1)] with power := { (st []).power with phase := .on, fw := true }, net := { Net.init with good := 16 } }, by decide +kernel⟩,
   ⟨{ st [(ETH_CTRL_EN, 1), (CHN_STAT_STATE, 2), (ETH_IP_ADDR, 0xC0A80107), (ETH_MASK_ADDR, 0xFFFFFF00), (ETH_PTPCTL_EN, 1)] with power := { (st []).power with phase := .on, fw := true }, net := { Net.init with good := 16 } }, by decide +kernel⟩,
   ⟨{ st [(ETH_CTRL_EN, 1), (CHN_STAT_STATE, 2), (ETH_IP_ADDR, 0xC0A80107), (ETH_MASK_ADDR, 0xFFFFFF00), (ETH_PTPCTL_EN, 1)] with power := { (st []).power with phase := .on, fw := true }, net := { Net.init with good := 16, hold := true } }, .mgmt, by decide +kernel⟩,
   ⟨st [], true, true, 2, by decide +kernel⟩,
   ⟨{ st [(ETH_CTRL_EN, 1), (CHN_STAT_STATE, 2), (ETH_IP_ADDR, 0xC0A80107), (ETH_MASK_ADDR, 0xFFFFFF00)] with power := { (st []).power with phase := .on, fw := true } }, true, true, 2, by decide +kernel⟩,
   ⟨{ st [(ETH_CTRL_EN, 1), (CHN_STAT_STATE, 2), (ETH_IP_ADDR, 0xC0A80107), (ETH_MASK_ADDR, 0xFFFFFF00)] with power := { (st []).power with phase := .on, fw := true } }, .mgmt, by decide +kernel⟩,
   ⟨{ st [(ETH_CTRL_EN, 1), (CHN_STAT_STATE, 2), (ETH_IP_ADDR, 0xC0A80107), (ETH_MASK_ADDR, 0xFFFFFF00), (ETH_MDIOCMD_BUSY, 1)] with power := { (st []).power with phase := .on, fw := true } }, .mgmt, by decide +kernel⟩,
   ⟨st [], by decide +kernel⟩,
   ⟨{ st [(ETH_CTRL_EN, 1), (CHN_STAT_STATE, 2), (ETH_IP_ADDR, 0xC0A80107), (ETH_MASK_ADDR, 0xFFFFFF00), (ETH_MDIOCMD_BUSY, 1)] with power := { (st []).power with phase := .on, fw := true }, net := { Net.init with mdio := some none } }, none, by decide +kernel⟩⟩

/-- States that meet the hypotheses of each clause of ChainLinksTimeAndPulsesFollowTheirRules. -/
theorem witness_chainLinksTimeAndPulsesFollowTheirRules :
  (∃ (s : State), s.chain.listening = false) ∧
  (∃ (s : State), s.chain.listening = true ∧ s.chain.next ≠ none) ∧
  (∃ (s : State), s.chain.listening = true ∧ s.chain.next = none ∧ (onesOf 8 s.strapsSeen).head?.getD 0 = s.get
    CHN_STAT_INDEX) ∧
  (∃ (s : State) (i : Nat), s.chain.listening = true ∧ s.chain.next = none ∧ (onesOf 8 s.strapsSeen).head? = some i
    ∧ i ≠ s.get CHN_STAT_INDEX) ∧
  (∃ (s : State), s.chain.listening = true ∧ s.chain.next = none ∧ (onesOf 8 s.strapsSeen).head? = none ∧ s.get
    CHN_STAT_INDEX ≠ 0) ∧
  (∃ (s : State), s.chain.size ≤ 1) ∧
  (∃ (s : State) (i : LinkInfo) (k : Nat), 1 < s.chain.size ∧ i.overlap = s.get CHN_SPLICE_LW / 2 * 2 ∧ i.index =
    some k ∧ k < 7) ∧
  (∃ (s : State) (i : LinkInfo), 1 < s.chain.size ∧ i.overlap = s.get CHN_SPLICE_HW / 2 * 2) ∧
  (∃ (s : State) (i : LinkInfo), 1 < s.chain.size ∧ i.overlap ≠ s.get CHN_SPLICE_LW / 2 * 2) ∧
  (∃ (s : State) (i : LinkInfo), 1 < s.chain.size ∧ i.overlap ≠ s.get CHN_SPLICE_HW / 2 * 2) ∧
  (∃ (s : State) (i : LinkInfo) (k : Nat), 1 < s.chain.size ∧ i.overlap = s.get CHN_SPLICE_LW / 2 * 2 ∧ i.index =
    some k ∧ 7 ≤ k) ∧
  (∃ (s : State) (i : LinkInfo), 1 < s.chain.size ∧ i.overlap = s.get CHN_SPLICE_LW / 2 * 2 ∧ i.index = none) ∧
  (∃ (s : State), 1 < s.chain.size) ∧
  (∃ (s : State), s.chain.size ≤ 1) ∧
  (∃ (s : State), s.chain.size ≤ 1) ∧
  (∃ (s : State) (p : ChainPort), 1 < s.chain.size ∧ s.get CHN_STAT_STATE = 1 ∧ p = (if s.get CHN_STAT_MSTIDX <
    s.get CHN_STAT_INDEX then .low else .high)) ∧
  (∃ (s : State), 1 < s.chain.size ∧ s.get CHN_STAT_STATE = 1 ∧ s.get CHN_STAT_MSTIDX < s.get CHN_STAT_INDEX) ∧
  (∃ (s : State), 1 < s.chain.size ∧ s.get CHN_STAT_STATE = 2) ∧
  (∃ (s : State) (m : TimeMsg), (s.chain.size ≤ 1 ∨ s.side m.port = none)) ∧
  (∃ (s : State) (m : TimeMsg), 1 < s.chain.size ∧ s.side m.port ≠ none ∧ (m.state = 3 ∨ s.get CHN_STAT_STATE = 2)) ∧
  (∃ (s : State) (m : TimeMsg), 1 < s.chain.size ∧ s.get CHN_STAT_STATE ≠ 2 ∧ s.get CHN_STAT_STATE ≠ 1 ∧ m.state ≠ 3
    ∧ s.side m.port ≠ none) ∧
  (∃ (s : State) (m : TimeMsg), 1 < s.chain.size ∧ s.get CHN_STAT_STATE = 1 ∧ m.state ≠ 3 ∧ s.side m.port ≠ none) ∧
  (∃ (s : State), s.chain.size ≤ 1) ∧
  (∃ (s : State), 1 < s.chain.size) ∧
  (∃ (s : State) (p : ChainPort), (s.chain.next.map (·.port) ≠ some p ∨ s.chain.size ≤ 1 ∨ s.get CHN_STAT_STATE =
    2)) ∧
  (∃ (s : State) (p : ChainPort) (m : TimeMsg), 1 < s.chain.size ∧ s.get CHN_STAT_STATE ≠ 2 ∧ s.chain.next = some m
    ∧ m.port = p ∧ s.chain.heard = false) ∧
  (∃ (s : State) (p : ChainPort) (m : TimeMsg), 1 < s.chain.size ∧ s.get CHN_STAT_STATE ≠ 2 ∧ s.get CHN_STAT_STATE ≠
    1 ∧ s.chain.next = some m ∧ m.port = p ∧ s.chain.heard = true) ∧
  (∃ (s : State) (p : ChainPort) (m : TimeMsg), 1 < s.chain.size ∧ s.get CHN_STAT_STATE = 1 ∧ s.chain.next = some m
    ∧ m.port = p ∧ s.chain.heard = true ∧ ((floor2 s.time : Int) - floor2 (m.time + (if p = .low then s.get
    CHN_DELAY_L else s.get CHN_DELAY_H))).natAbs ≤ 6) ∧
  (∃ (s : State) (p : ChainPort) (m : TimeMsg), 1 < s.chain.size ∧ s.get CHN_STAT_STATE = 1 ∧ s.chain.next = some m
    ∧ m.port = p ∧ s.chain.heard = true ∧ 6 < ((floor2 s.time : Int) - floor2 (m.time + (if p = .low then s.get
    CHN_DELAY_L else s.get CHN_DELAY_H))).natAbs ∧ ((floor2 s.time : Int) - floor2 (m.time + (if p = .low then s.get
    CHN_DELAY_L else s.get CHN_DELAY_H))).natAbs ≤ 1000) ∧
  (∃ (s : State) (p : ChainPort) (m : TimeMsg), 1 < s.chain.size ∧ s.get CHN_STAT_STATE = 1 ∧ s.chain.next = some m
    ∧ m.port = p ∧ s.chain.heard = true ∧ 1000 < ((floor2 s.time : Int) - floor2 (m.time + (if p = .low then s.get
    CHN_DELAY_L else s.get CHN_DELAY_H))).natAbs) ∧
  (∃ (s : State), s.chain.slew = 0) ∧
  (∃ (s : State), 0 < s.chain.slew) ∧
  (∃ (s : State), s.chain.slew < 0) ∧
  (∃ (s : State), s.get CHN_STAT_STATE = 1) ∧
  (∃ (s : State), s.get CHN_STAT_STATE ≠ 1) ∧
  (∃ (s : State) (r : Requester), s.protected r 0xC800 = false ∧ s.get CHN_STAT_STATE = 1) ∧
  (∃ (s : State) (r : Requester), s.protected r 0xC800 = false ∧ s.get CHN_STAT_STATE ≠ 1) ∧
  (∃ (s : State), (s.chain.next = none ∨ s.get CHN_STAT_STATE ≠ 3 ∨ s.chain.size ≤ 1 ∨ s.chain.good < 16 ∨ s.get
    CAL_STATUS_BLIND = 1)) ∧
  (∃ (s : State) (m : TimeMsg), s.chain.next = some m ∧ s.get CHN_STAT_STATE = 3 ∧ 1 < s.chain.size ∧ 16 ≤
    s.chain.good ∧ s.get CAL_STATUS_BLIND ≠ 1 ∧ s.get CAL_STATUS_PHASE < 2 ∧ s.chain.low = none ∧ s.chain.handover =
    none ∧ s.sensor.staged = []) :=
  ⟨⟨st [], by decide +kernel⟩,
   ⟨{ st [] with chain := { Chain.init with size := 3, listening := true, next := some ⟨.low, 1000000, 5, 7000, 0, 2, 0, none, 77⟩ } }, by decide +kernel⟩,
   ⟨{ st [(CHN_STAT_INDEX, 2), (GLB_RSTCAUSE_BOOTS, 513)] with chain := { Chain.init with size := 3, listening := true, low := some ⟨some 1, 4, 4, 2048, 100, false⟩ } }, by decide +kernel⟩,
   ⟨{ { st [(CHN_STAT_INDEX, 2)] with chain := { Chain.init with size := 3, listening := true, low := some ⟨some 1, 2, 4, 2048, 100, false⟩ } } with fuses := { Fuses.init with strap := true } }, 1, by decide +kernel⟩,
   ⟨{ st [(CHN_STAT_INDEX, 2)] with chain := { Chain.init with size := 3, listening := true } }, by decide +kernel⟩,
   ⟨st [], by decide +kernel⟩,
   ⟨{ st [(CHN_SPLICE_LW, 5)] with chain := { Chain.init with size := 3, lowBad := true } }, ⟨some 6, 0, 4, 2048, 100, false⟩, 6, by decide +kernel⟩,
   ⟨{ st [(CHN_SPLICE_HW, 4)] with chain := { Chain.init with size := 3, highBad := true } }, ⟨some 6, 0, 4, 2048, 100, false⟩, by decide +kernel⟩,
   ⟨{ st [(CHN_SPLICE_LW, 3)] with chain := { Chain.init with size := 3, good := 1 } }, ⟨some 6, 0, 4, 2048, 100, false⟩, by decide +kernel⟩,
   ⟨{ st [(CHN_SPLICE_HW, 3)] with chain := { Chain.init with size := 3, good := 1 } }, ⟨some 6, 0, 4, 2048, 100, false⟩, by decide +kernel⟩,
   ⟨{ st [(CHN_SPLICE_LW, 5)] with chain := { Chain.init with size := 3, lowBad := true } }, ⟨some 7, 0, 4, 2048, 100, false⟩, 7, by decide +kernel⟩,
   ⟨{ st [(CHN_SPLICE_LW, 5)] with chain := { Chain.init with size := 3, lowBad := true } }, ⟨none, 0, 4, 2048, 100, false⟩, by decide +kernel⟩,
   ⟨{ st [] with chain := { Chain.init with size := 3, good := 1 } }, by decide +kernel⟩,
   ⟨st [], by decide +kernel⟩,
   ⟨st [], by decide +kernel⟩,
   ⟨{ st [(CHN_STAT_STATE, 1), (CHN_STAT_INDEX, 1), (CHN_DELAY_L, 20)] with time := 1000, chain := { Chain.init with size := 3, low := some ⟨some 0, 0, 4, 2048, 100, false⟩, high := some ⟨some 2, 0, 4, 2048, 100, false⟩, next := some ⟨.low, 1000000, 5, 7000, 0, 2, 0, none, 77⟩, heard := true, good := 4 } }, .low, by decide +kernel⟩,
   ⟨{ st [(CHN_STAT_STATE, 1), (CHN_STAT_INDEX, 1), (CHN_DELAY_L, 20)] with time := 1000, chain := { Chain.init with size := 3, low := some ⟨some 0, 0, 4, 2048, 100, false⟩, high := some ⟨some 2, 0, 4, 2048, 100, false⟩, next := some ⟨.low, 1000000, 5, 7000, 0, 2, 0, none, 77⟩, heard := true, good := 4 } }, by decide +kernel⟩,
   ⟨{ st [(CHN_STAT_STATE, 2), (CHN_STAT_INDEX, 1)] with chain := { Chain.init with size := 3, grants := [(5, 0), (6, 2)] } }, by decide +kernel⟩,
   ⟨st [], ⟨.low, 1000000, 5, 7000, 0, 2, 0, none, 77⟩, by decide +kernel⟩,
   ⟨{ st [] with chain := { Chain.init with size := 3, low := some ⟨some 0, 0, 4, 2048, 100, false⟩ } }, ⟨.low, 1000000, 5, 7000, 0, 3, 0, none, 77⟩, by decide +kernel⟩,
   ⟨{ st [] with chain := { Chain.init with size := 3, low := some ⟨some 0, 0, 4, 2048, 100, false⟩ } }, ⟨.low, 1000000, 5, 7000, 0, 2, 0, none, 77⟩, by decide +kernel⟩,
   ⟨{ st [(CHN_STAT_STATE, 1), (CHN_STAT_INDEX, 1), (CHN_DELAY_L, 20)] with time := 1000, chain := { Chain.init with size := 3, low := some ⟨some 0, 0, 4, 2048, 100, false⟩, high := some ⟨some 2, 0, 4, 2048, 100, false⟩, next := some ⟨.low, 1000000, 5, 7000, 0, 2, 0, none, 77⟩, heard := true, good := 4 } }, ⟨.low, 1000000, 5, 7000, 0, 1, 3, some 6500, 77⟩, by decide +kernel⟩,
   ⟨st [], by decide +kernel⟩,
   ⟨{ st [(CHN_STAT_STATE, 1), (CHN_STAT_INDEX, 1), (CHN_DELAY_L, 20)] with time := 1000, chain := { Chain.init with size := 3, low := some ⟨some 0, 0, 4, 2048, 100, false⟩, high := some ⟨some 2, 0, 4, 2048, 100, false⟩, next := some ⟨.low, 1000000, 5, 7000, 0, 2, 0, none, 77⟩, heard := true, good := 4 } }, by decide +kernel⟩,
   ⟨{ st [] with chain := { Chain.init with size := 3, low := some ⟨some 0, 0, 4, 2048, 100, false⟩ } }, .low, by decide +kernel⟩,
   ⟨{ { st [(CHN_STAT_STATE, 1), (CHN_STAT_INDEX, 1), (CHN_DELAY_L, 20)] with time := 1000, chain := { Chain.init with size := 3, low := some ⟨some 0, 0, 4, 2048, 100, false⟩, high := some ⟨some 2, 0, 4, 2048, 100, false⟩, next := some ⟨.low, 1000000, 5, 7000, 0, 2, 0, none, 77⟩, heard := true, good := 4 } } with chain := { Chain.init with size := 3, next := some ⟨.low, 1000000, 5, 7000, 0, 2, 0, none, 77⟩, good := 9 } }, .low, ⟨.low, 1000000, 5, 7000, 0, 2, 0, none, 77⟩, by decide +kernel⟩,
   ⟨{ st [] with chain := { Chain.init with size := 3, heard := true, good := 15, next := some ⟨.low, 1000000, 5, 7000, 0, 2, 0, none, 77⟩ } }, .low, ⟨.low, 1000000, 5, 7000, 0, 2, 0, none, 77⟩, by decide +kernel⟩,
   ⟨{ st [(CHN_STAT_STATE, 1), (CHN_STAT_INDEX, 1), (CHN_DELAY_L, 20)] with time := 1000027, chain := { Chain.init with size := 3, low := some ⟨some 0, 0, 4, 2048, 100, false⟩, high := some ⟨some 2, 0, 4, 2048, 100, false⟩, next := some ⟨.low, 1000000, 5, 7000, 0, 2, 0, none, 77⟩, heard := true, good := 4 } }, .low, ⟨.low, 1000000, 5, 7000, 0, 2, 0, none, 77⟩, by decide +kernel⟩,
   ⟨{ st [(CHN_STAT_STATE, 1), (CHN_STAT_INDEX, 1), (CHN_DELAY_L, 20)] with time := 1001020, chain := { Chain.init with size := 3, low := some ⟨some 0, 0, 4, 2048, 100, false⟩, high := some ⟨some 2, 0, 4, 2048, 100, false⟩, next := some ⟨.low, 1000000, 5, 7000, 0, 2, 0, none, 77⟩, heard := true, good := 4 } }, .low, ⟨.low, 1000000, 5, 7000, 0, 2, 0, none, 77⟩, by decide +kernel⟩,
   ⟨{ st [(CHN_STAT_STATE, 1), (CHN_STAT_INDEX, 1), (CHN_DELAY_L, 20)] with time := 1001022, chain := { Chain.init with size := 3, low := some ⟨some 0, 0, 4, 2048, 100, false⟩, high := some ⟨some 2, 0, 4, 2048, 100, false⟩, next := some ⟨.low, 1000000, 5, 7000, 0, 2, 0, none, 77⟩, heard := true, good := 4 } }, .low, ⟨.low, 1000000, 5, 7000, 0, 2, 0, none, 77⟩, by decide +kernel⟩,
   ⟨st [], by decide +kernel⟩,
   ⟨{ st [(CHN_STAT_HITCH, 1)] with chain := { Chain.init with size := 3, slew := 1 } }, by decide +kernel⟩,
   ⟨{ st [(CHN_STAT_HITCH, 1)] with chain := { Chain.init with size := 3, slew := -2 } }, by decide +kernel⟩,
   ⟨{ st [(CHN_STAT_STATE, 1), (CHN_STAT_INDEX, 1), (CHN_DELAY_L, 20)] with time := 1000, chain := { Chain.init with size := 3, low := some ⟨some 0, 0, 4, 2048, 100, false⟩, high := some ⟨some 2, 0, 4, 2048, 100, false⟩, next := some ⟨.low, 1000000, 5, 7000, 0, 2, 0, none, 77⟩, heard := true, good := 4 } }, by decide +kernel⟩,
   ⟨{ st [] with chain := { Chain.init with size := 3, good := 9 } }, by decide +kernel⟩,
   ⟨{ st [(CHN_STAT_STATE, 1), (CHN_STAT_INDEX, 1), (CHN_DELAY_L, 20)] with time := 1000, chain := { Chain.init with size := 3, low := some ⟨some 0, 0, 4, 2048, 100, false⟩, high := some ⟨some 2, 0, 4, 2048, 100, false⟩, next := some ⟨.low, 1000000, 5, 7000, 0, 2, 0, none, 77⟩, heard := true, good := 4 } }, .ssp, by decide +kernel⟩,
   ⟨st [], .mgmt, by decide +kernel⟩,
   ⟨st [], by decide +kernel⟩,
   ⟨{ st [(CHN_STAT_STATE, 3)] with chain := { Chain.init with size := 3, good := 16, next := some ⟨.low, 1000000, 5, 7000, 0, 2, 0, none, 77⟩, high := some ⟨some 2, 0, 4, 2048, 100, false⟩ } }, ⟨.low, 1000000, 5, 7000, 0, 2, 0, none, 77⟩, by decide +kernel⟩⟩

/-- States that meet the hypotheses of each clause of GrantsMastershipAndEchoesFollowTheirRules. -/
theorem witness_grantsMastershipAndEchoesFollowTheirRules :
  (∃ (s : State) (j : Nat), s.get CHN_STAT_STATE = 2 ∧ s.chain.holder = none ∧ s.chain.grants = [] ∧ j ≠ s.get
    CHN_STAT_INDEX) ∧
  (∃ (s : State) (x : Nat × Nat), s.get CHN_STAT_STATE = 2 ∧ s.chain.holder = some x) ∧
  (∃ (s : State), s.get CHN_STAT_STATE = 1) ∧
  (∃ (s : State), s.get CHN_STAT_STATE ≠ 1 ∧ s.get CHN_STAT_STATE ≠ 2) ∧
  (∃ (s : State) (j : Nat) (x : Nat), s.get CHN_STAT_STATE = 2 ∧ s.chain.holder = some (j, x) ∧ s.chain.grants = []) ∧
  (∃ (s : State) (k : Nat) (x : Nat) (p : Nat) (j : Nat) (r : List (Nat × Nat)), s.get CHN_STAT_STATE = 2 ∧
    s.chain.holder = some (k, x) ∧ s.chain.grants = (p, j) :: r ∧ j ≠ s.get CHN_STAT_INDEX) ∧
  (∃ (s : State) (j : Nat) (k : Nat) (x : Nat), s.get CHN_STAT_STATE = 2 ∧ s.chain.holder = some (k, x) ∧ j ≠ k) ∧
  (∃ (s : State), s.get CHN_STAT_STATE = 1) ∧
  (∃ (s : State), s.get CHN_STAT_STATE ≠ 1 ∧ s.get CHN_STAT_STATE ≠ 2) ∧
  (∃ (s : State), s.chain.asked = true ∧ s.get CAL_STATUS_PHASE = 1 ∧ s.cal.grantAt = none) ∧
  (∃ (s : State), (s.chain.asked = false ∨ s.get CAL_STATUS_PHASE ≠ 1 ∨ s.cal.grantAt ≠ none)) ∧
  (∃ (s : State) (j : Nat), j ≠ s.get CHN_STAT_INDEX ∧ s.get CHN_STAT_STATE = 1) ∧
  (∃ (s : State) (j : Nat), j ≠ s.get CHN_STAT_INDEX ∧ s.get CHN_STAT_STATE ≠ 1) ∧
  (∃ (s : State), s.chain.holder = none) ∧
  (∃ (s : State) (j : Nat) (x : Nat), s.chain.holder = some (j, x) ∧ s.chain.grants = []) ∧
  (∃ (s : State) (p : ChainPort), s.side p = none) ∧
  (∃ (s : State), s.chain.low ≠ none) ∧
  (∃ (s : State), s.chain.high ≠ none) ∧
  (∃ (s : State) (r : Requester), s.protected r 0xC800 = false ∧ s.get CHN_STAT_STATE = 1 ∧ s.chain.handover = none) ∧
  (∃ (s : State) (r : Requester), s.protected r 0xC800 = false ∧ (s.get CHN_STAT_STATE ≠ 1 ∨ s.chain.handover ≠
    none)) ∧
  (∃ (s : State), s.get CHN_STAT_STATE = 2 ∧ s.chain.handover = none) ∧
  (∃ (s : State), s.get CHN_STAT_STATE = 1) ∧
  (∃ (s : State), ((s.get CHN_STAT_STATE = 2 ∧ s.chain.handover ≠ none) ∨ s.get CHN_STAT_STATE = 0 ∨ s.get
    CHN_STAT_STATE = 3)) ∧
  (∃ (s : State), s.get CHN_STAT_STATE ≠ 2) ∧
  (∃ (s : State) (g : Mastership), s.get CHN_STAT_STATE = 2 ∧ g.holder.isSome = true) ∧
  (∃ (s : State) (j : Nat), j ≠ s.get CHN_STAT_INDEX ∧ s.get CHN_STAT_STATE = 1) ∧
  (∃ (s : State) (j : Nat), j ≠ s.get CHN_STAT_INDEX ∧ s.get CHN_STAT_STATE ≠ 1) ∧
  (∃ (s : State), 1 < s.chain.size) ∧
  (∃ (s : State), 1 < s.chain.size) ∧
  (∃ (s : State), 1 < s.chain.size) ∧
  (∃ (s : State), 1 < s.chain.size) ∧
  (∃ (s : State), 1 < s.chain.size) ∧
  (∃ (s : State) (n : Nat), s.chain.handover = some (n, s.get CHN_STAT_INDEX) ∧ frameDiff n ((s.get
    STG_FRAMECNT_COUNT + 1) % 2 ^ 32) ≤ 0 ∧ s.get CHN_STAT_INDEX < 8) ∧
  (∃ (s : State) (n : Nat) (j : Nat), s.chain.handover = some (n, j) ∧ j ≠ s.get CHN_STAT_INDEX ∧ j < 8 ∧ frameDiff
    n ((s.get STG_FRAMECNT_COUNT + 1) % 2 ^ 32) ≤ 0) :=
  ⟨⟨{ st [(CHN_STAT_STATE, 2), (CHN_STAT_INDEX, 1), (CHN_STAT_MSTIDX, 1)] with chain := { Chain.init with size := 4, released := 5 } }, 3, by decide +kernel⟩,
   ⟨{ st [(CHN_STAT_STATE, 2), (CHN_STAT_INDEX, 1), (CHN_STAT_MSTIDX, 1)] with chain := { Chain.init with size := 4, holder := some (2, 9), grants := [(5, 0), (77, 2)] } }, (2, 9), by decide +kernel⟩,
   ⟨{ st [(CHN_STAT_STATE, 1), (CHN_STAT_INDEX, 1), (CHN_STAT_MSTIDX, 3)] with chain := { Chain.init with size := 4, low := some ⟨some 0, 0, 4, 2048, 100, false⟩, high := some ⟨some 2, 0, 4, 2048, 100, false⟩ } }, by decide +kernel⟩,
   ⟨st [], by decide +kernel⟩,
   ⟨{ st [(CHN_STAT_STATE, 2), (CHN_STAT_INDEX, 1), (CHN_STAT_MSTIDX, 1)] with chain := { Chain.init with size := 4, holder := some (2, 9) } }, 2, 9, by decide +kernel⟩,
   ⟨{ st [(CHN_STAT_STATE, 2), (CHN_STAT_INDEX, 1), (CHN_STAT_MSTIDX, 1)] with chain := { Chain.init with size := 4, holder := some (2, 9), grants := [(6, 0), (7, 3)] } }, 2, 9, 6, 0, [(7, 3)], by decide +kernel⟩,
   ⟨{ st [(CHN_STAT_STATE, 2), (CHN_STAT_INDEX, 1), (CHN_STAT_MSTIDX, 1)] with chain := { Chain.init with size := 4, holder := some (2, 9), grants := [(6, 0), (7, 3)] } }, 3, 2, 9, by decide +kernel⟩,
   ⟨{ st [(CHN_STAT_STATE, 1), (CHN_STAT_INDEX, 1), (CHN_STAT_MSTIDX, 3)] with chain := { Chain.init with size := 4, low := some ⟨some 0, 0, 4, 2048, 100, false⟩, high := some ⟨some 2, 0, 4, 2048, 100, false⟩ } }, by decide +kernel⟩,
   ⟨st [], by decide +kernel⟩,
   ⟨{ st [(CHN_STAT_STATE, 1), (CHN_STAT_INDEX, 1), (CHN_STAT_MSTIDX, 3), (CAL_STATUS_PHASE, 1)] with chain := { Chain.init with size := 4, asked := true } }, by decide +kernel⟩,
   ⟨{ st [(CHN_STAT_STATE, 1), (CHN_STAT_INDEX, 1), (CHN_STAT_MSTIDX, 3)] with chain := { Chain.init with size := 4, asked := true } }, by decide +kernel⟩,
   ⟨{ st [(CHN_STAT_STATE, 1), (CHN_STAT_INDEX, 1), (CHN_STAT_MSTIDX, 3)] with chain := { Chain.init with size := 4, low := some ⟨some 0, 0, 4, 2048, 100, false⟩, high := some ⟨some 2, 0, 4, 2048, 100, false⟩ } }, 0, by decide +kernel⟩,
   ⟨st [], 5, by decide +kernel⟩,
   ⟨st [], by decide +kernel⟩,
   ⟨{ st [(CHN_STAT_STATE, 2), (CHN_STAT_INDEX, 1), (CHN_STAT_MSTIDX, 1)] with chain := { Chain.init with size := 4, holder := some (2, 9) } }, 2, 9, by decide +kernel⟩,
   ⟨st [], .low, by decide +kernel⟩,
   ⟨{ st [(CHN_STAT_STATE, 1), (CHN_STAT_INDEX, 1), (CHN_STAT_MSTIDX, 3)] with chain := { Chain.init with size := 4, low := some ⟨some 0, 0, 4, 2048, 100, false⟩, high := some ⟨some 2, 0, 4, 2048, 100, false⟩ } }, by decide +kernel⟩,
   ⟨{ st [(CHN_STAT_STATE, 1), (CHN_STAT_INDEX, 1), (CHN_STAT_MSTIDX, 3)] with chain := { Chain.init with size := 4, low := some ⟨some 0, 0, 4, 2048, 100, false⟩, high := some ⟨some 2, 0, 4, 2048, 100, false⟩ } }, by decide +kernel⟩,
   ⟨{ st [(CHN_STAT_STATE, 1), (CHN_STAT_INDEX, 1), (CHN_STAT_MSTIDX, 3)] with chain := { Chain.init with size := 4, low := some ⟨some 0, 0, 4, 2048, 100, false⟩, high := some ⟨some 2, 0, 4, 2048, 100, false⟩ } }, .mgmt, by decide +kernel⟩,
   ⟨st [], .ssp, by decide +kernel⟩,
   ⟨{ st [(CHN_STAT_STATE, 2), (CHN_STAT_INDEX, 1), (CHN_STAT_MSTIDX, 1)] with chain := { Chain.init with size := 4, low := some ⟨some 0, 0, 4, 2048, 100, false⟩, high := some ⟨some 2, 0, 4, 2048, 100, false⟩ } }, by decide +kernel⟩,
   ⟨{ st [(CHN_STAT_STATE, 1), (CHN_STAT_INDEX, 1), (CHN_STAT_MSTIDX, 3)] with chain := { Chain.init with size := 4, low := some ⟨some 0, 0, 4, 2048, 100, false⟩, high := some ⟨some 2, 0, 4, 2048, 100, false⟩ } }, by decide +kernel⟩,
   ⟨st [], by decide +kernel⟩,
   ⟨{ st [(CHN_STAT_STATE, 1), (CHN_STAT_INDEX, 1), (CHN_STAT_MSTIDX, 3)] with chain := { Chain.init with size := 4, low := some ⟨some 0, 0, 4, 2048, 100, false⟩, high := some ⟨some 2, 0, 4, 2048, 100, false⟩ } }, by decide +kernel⟩,
   ⟨{ st [(CHN_STAT_STATE, 2), (CHN_STAT_INDEX, 1), (CHN_STAT_MSTIDX, 1)] with chain := { Chain.init with size := 4, low := some ⟨some 0, 0, 4, 2048, 100, false⟩, high := some ⟨some 2, 0, 4, 2048, 100, false⟩ } }, ⟨[(5, 3)], some (2, 9), 7, 2 ^ 33 + 5, true⟩, by decide +kernel⟩,
   ⟨{ st [(CHN_STAT_STATE, 1), (CHN_STAT_INDEX, 1), (CHN_STAT_MSTIDX, 3)] with chain := { Chain.init with size := 4, low := some ⟨some 0, 0, 4, 2048, 100, false⟩, high := some ⟨some 2, 0, 4, 2048, 100, false⟩ } }, 0, by decide +kernel⟩,
   ⟨st [], 5, by decide +kernel⟩,
   ⟨{ st [(CHN_STAT_STATE, 2), (CHN_STAT_INDEX, 1), (CHN_STAT_MSTIDX, 1)] with chain := { Chain.init with size := 4, low := some ⟨some 0, 0, 4, 2048, 100, false⟩, high := some ⟨some 2, 0, 4, 2048, 100, false⟩ } }, by decide +kernel⟩,
   ⟨{ st [(CHN_STAT_STATE, 2), (CHN_STAT_INDEX, 1), (CHN_STAT_MSTIDX, 1)] with chain := { Chain.init with size := 4, low := some ⟨some 0, 0, 4, 2048, 100, false⟩, high := some ⟨some 2, 0, 4, 2048, 100, false⟩ } }, by decide +kernel⟩,
   ⟨{ st [(CHN_STAT_STATE, 1), (CHN_STAT_INDEX, 1), (CHN_STAT_MSTIDX, 3)] with chain := { Chain.init with size := 4, low := some ⟨some 0, 0, 4, 2048, 100, false⟩, high := some ⟨some 2, 0, 4, 2048, 100, false⟩ } }, by decide +kernel⟩,
   ⟨{ st [(CHN_STAT_STATE, 1), (CHN_STAT_INDEX, 1), (CHN_STAT_MSTIDX, 3)] with chain := { Chain.init with size := 4, low := some ⟨some 0, 0, 4, 2048, 100, false⟩, high := some ⟨some 2, 0, 4, 2048, 100, false⟩ } }, by decide +kernel⟩,
   ⟨{ st [(CHN_STAT_STATE, 1), (CHN_STAT_INDEX, 1), (CHN_STAT_MSTIDX, 3)] with chain := { Chain.init with size := 4, low := some ⟨some 0, 0, 4, 2048, 100, false⟩, high := some ⟨some 2, 0, 4, 2048, 100, false⟩ } }, by decide +kernel⟩,
   ⟨{ st [(CHN_STAT_STATE, 1), (CHN_STAT_INDEX, 1), (CHN_STAT_MSTIDX, 3), (STG_FRAMECNT_COUNT, 9)] with chain := { Chain.init with size := 4, low := some ⟨some 0, 0, 4, 2048, 100, false⟩, high := some ⟨some 2, 0, 4, 2048, 100, false⟩, handover := some (10, 1) } }, 10, by decide +kernel⟩,
   ⟨{ st [(CHN_STAT_STATE, 2), (CHN_STAT_INDEX, 1), (CHN_STAT_MSTIDX, 1), (STG_FRAMECNT_COUNT, 9)] with chain := { Chain.init with size := 4, low := some ⟨some 0, 0, 4, 2048, 100, false⟩, high := some ⟨some 2, 0, 4, 2048, 100, false⟩, handover := some (10, 3), grants := [(6, 0)] } }, 10, 3, by decide +kernel⟩⟩

/-- States that meet the hypotheses of each clause of TestBlindScanAndDebugCommands. -/
theorem witness_testBlindScanAndDebugCommands :
  (∃ (s : State) (r : Requester), s.protected r 0xD810 = false) ∧
  (∃ (s : State) (r : Requester) (v : Word), s.protected r 0xD820 = false ∧ v.toNat % 4 ≠ s.get TMX_TPCTL_MODE ∧
    (s.mode ≠ 2 ∨ (v.toNat % 4 ≠ 0 ∧ s.get TMX_TPCTL_MODE ≠ 0))) ∧
  (∃ (s : State) (r : Requester) (v : Word), s.protected r 0xD820 = false ∧ v.toNat % 4 ≠ s.get TMX_TPCTL_MODE ∧
    s.mode = 2 ∧ (v.toNat % 4 = 0 ∨ s.get TMX_TPCTL_MODE = 0)) ∧
  (∃ (s : State) (r : Requester) (v : Word), s.protected r 0xD820 = false ∧ v.toNat % 4 = s.get TMX_TPCTL_MODE ∧
    s.get ARB_CTRL_EN = 1 ∧ (s.tmx.mode = 0 ∨ bits v.toNat 4 1 = 1)) ∧
  (∃ (s : State) (r : Requester) (v : Word), s.protected r 0xD820 = false ∧ v.toNat % 4 = s.get TMX_TPCTL_MODE ∧
    s.tmx.mode ≠ 0 ∧ bits v.toNat 4 1 = 0) ∧
  (∃ (s : State) (r : Requester), s.protected r 0xD838 = false) ∧
  (∃ (s : State) (r : Requester) (v : Word), s.protected r 0xD800 = false ∧ v.toNat % 2 = 1 ∧ s.mode ≠ 4) ∧
  (∃ (s : State) (r : Requester) (v : Word), s.protected r 0xD800 = false ∧ v.toNat % 2 = 1 ∧ s.mode = 4) ∧
  (∃ (s : State) (r : Requester) (v : Word), s.protected r 0xD800 = false ∧ v.toNat % 2 = 0) ∧
  (∃ (s : State) (h : Nat), s.get TMX_CTRL_DBGEN = 1 ∧ h < 4 ∧ bitOf (s.get GLB_CORECTL_HARTON) h = true ∧ ¬h ∈
    s.tmx.halted) ∧
  (∃ (s : State) (h : Nat), (s.get TMX_CTRL_DBGEN ≠ 1 ∨ 4 ≤ h ∨ bitOf (s.get GLB_CORECTL_HARTON) h = false ∨ h ∈
    s.tmx.halted)) :=
  ⟨⟨st [(STG_FRAMECNT_COUNT, 9)], .mgmt, by decide +kernel⟩,
   ⟨st [(GLB_STAT_STATE, 2), (TMX_TPCTL_MODE, 1)], .mgmt, 3#32, by decide +kernel⟩,
   ⟨st [(GLB_STAT_STATE, 2)], .mgmt, 0x1F17#32, by decide +kernel⟩,
   ⟨st [(GLB_STAT_STATE, 3), (TMX_TPCTL_MODE, 1), (ARB_CTRL_EN, 1)], .mgmt, 0x1F11#32, by decide +kernel⟩,
   ⟨{ st [(GLB_STAT_STATE, 3), (TMX_TPCTL_MODE, 1), (ARB_CTRL_EN, 1), (TMX_TPCTL_DRIVE, 1)] with tmx := { Tmx.init with mode := 1 } }, .mgmt, 0x1F01#32, by decide +kernel⟩,
   ⟨st [(TMX_TPSEL_INDEX, 2111), (TMX_TPSEL_AUTOINC, 1)], .mgmt, by decide +kernel⟩,
   ⟨st [(GLB_STAT_STATE, 3)], .mgmt, 1#32, by decide +kernel⟩,
   ⟨st [(GLB_STAT_STATE, 4), (GLB_SAFECAUSE_CAUSES, 8)], .mgmt, 1#32, by decide +kernel⟩,
   ⟨{ st [(TMX_CTRL_BSCANEN, 1)] with tmx := { Tmx.init with jtag := .clamp } }, .mgmt, 2#32, by decide +kernel⟩,
   ⟨st [(TMX_CTRL_DBGEN, 1), (GLB_CORECTL_HARTON, 12)], 3, by decide +kernel⟩,
   ⟨st [(GLB_CORECTL_HARTON, 12)], 3, by decide +kernel⟩⟩

end Sys2Proof.Tests
end

section
/-! SUPPORT. What a command can change: from the footprint of its meaning (`Keeps`) to its arm of `frameOf`. -/

namespace Sys2Proof.Machine

/-- Of the closed fields in a tree, the mask `m` names those of the blocks `bs` and the listed ones alone. -/
def KTree.within (m : Nat) (bs : List Nat) (ls : List Fld) : KTree → Bool
  | .leaf => true
  | .node l k i r => (!(m.testBit (55 + i)) || (ls.any fun f => f.key == k) || bs.contains (blockOf (k / 32))) &&
      l.within m bs ls && r.within m bs ls

theorem KTree.within_toList {m : Nat} {bs : List Nat} {ls : List Fld} (t : KTree) (h : t.within m bs ls = true) :
    t.toList.all (fun p => !(m.testBit (55 + p.2)) || (ls.any fun f => f.key == p.1) ||
      bs.contains (blockOf (p.1 / 32))) = true := by
  induction t with
  | leaf => rfl
  | node l k i r ihl ihr =>
    simp only [within, Bool.and_eq_true] at h
    obtain ⟨⟨hk, hl⟩, hr⟩ := h
    rw [toList, List.all_append, List.all_cons, ihl hl, ihr hr]
    simpa using hk

/-- The mask `m` names register fields of the blocks `bs` and the listed fields alone. -/
def regsWithin (m : Nat) (bs : List Nat) (ls : List Fld) : Bool :=
  ((List.range 23).all fun c => !(m.testBit (32 + c)) || bs.contains c) && closedTree.within m bs ls

/-- A register field outside the blocks and fields that the footprint names reads as before. -/
theorem Keeps.leaves {m : Nat} {s t : State} {bs : List Nat} {ls : List Fld} (k : Keeps m s t)
    (h : regsWithin m bs ls = true) : regsOutside bs ls s t := by
  obtain ⟨hb, hl⟩ := Bool.and_eq_true_iff.mp h
  exact k.outside bs ls hb (closedTree.within_toList hl)

/-- `s` with the parts of `t` that the mask `m` names. -/
def State.withParts (s : State) (m : Nat) (t : State) : State :=
  { pending := s.pending, fuses := s.fuses,
    time := bif m.testBit 2 then t.time else s.time,
    regs := bif m.testBit 3 then t.regs else s.regs,
    free := bif m.testBit 4 then t.free else s.free,
    power := bif m.testBit 5 then t.power else s.power,
    evt := bif m.testBit 6 then t.evt else s.evt,
    mem := bif m.testBit 7 then t.mem else s.mem,
    wins := bif m.testBit 8 then t.wins else s.wins,
    mbx := bif m.testBit 9 then t.mbx else s.mbx,
    sensor := bif m.testBit 10 then t.sensor else s.sensor,
    stage := bif m.testBit 11 then t.stage else s.stage,
    corr := bif m.testBit 12 then t.corr else s.corr,
    cal := bif m.testBit 13 then t.cal else s.cal,
    gref := bif m.testBit 14 then t.gref else s.gref,
    trk := bif m.testBit 15 then t.trk else s.trk,
    tmx := bif m.testBit 16 then t.tmx else s.tmx,
    loops := bif m.testBit 17 then t.loops else s.loops,
    live := bif m.testBit 18 then t.live else s.live,
    braid := bif m.testBit 19 then t.braid else s.braid,
    knots := bif m.testBit 20 then t.knots else s.knots,
    sched := bif m.testBit 21 then t.sched else s.sched,
    valves := bif m.testBit 22 then t.valves else s.valves,
    chain := bif m.testBit 23 then t.chain else s.chain,
    baind := bif m.testBit 24 then t.baind else s.baind,
    ssp := bif m.testBit 25 then t.ssp else s.ssp,
    net := bif m.testBit 26 then t.net else s.net,
    flash := bif m.testBit 27 then t.flash else s.flash,
    tap := bif m.testBit 28 then t.tap else s.tap,
    house := bif m.testBit 29 then t.house else s.house,
    fb := bif m.testBit 30 then t.fb else s.fb,
    bus := bif m.testBit 1 then t.bus else s.bus,
    outs := bif m.testBit 31 then t.outs else s.outs }

/-- A command whose arm of `frameOf` names parts of the state alone. -/
theorem answer_parts {m : Nat} {x : Host.Outcome State Fault Refusal} {s : State}
    (k : ∃ t, x = .next t ∧ Keeps m s t) : ∃ t, x = .next t ∧ (∃ m, Keeps m s t) ∧ t = s.withParts m t := by
  obtain ⟨t, h, k⟩ := k
  exact ⟨t, h, ⟨m, k⟩, k.frame⟩

/-- A command whose arm of `frameOf` names parts of the state, and of the registers the blocks `bs` and the fields
`ls`. -/
theorem answer_framed {m : Nat} {x : Host.Outcome State Fault Refusal} {s : State} {bs : List Nat} {ls : List Fld}
    (k : ∃ t, x = .next t ∧ Keeps m s t) (hm : regsWithin m bs ls = true := by decide +kernel) :
    ∃ t, x = .next t ∧ (∃ m, Keeps m s t) ∧ t = s.withParts m t ∧ regsOutside bs ls s t := by
  obtain ⟨t, h, k⟩ := k
  exact ⟨t, h, ⟨m, k⟩, k.frame, k.leaves hm⟩

end Sys2Proof.Machine

namespace Sys2Proof

open Sys2Proof.Machine

/-- Every command answers a next state, within a footprint and within its arm of `frameOf`. -/
theorem exec_framed (c : Instr) (s : State) : ∃ t, exec c s = .next t ∧ (∃ m, Keeps m s t) ∧ frameOf c s t := by
  cases c with
  | powerOn vio33 => exact answer_parts (execPowerOn_keeps vio33 s)
  | railGood => exact answer_parts (execRailGood_keeps s)
  | railFault rail => exact answer_framed (execRailFault_keeps rail s)
  | vinPowerFail => exact answer_framed (execVinPowerFail_keeps s)
  | dipSet vinMv => exact answer_framed (execDipSet_keeps vinMv s)
  | dipClear => exact answer_framed (execDipClear_keeps s)
  | watchdogExpiry => exact answer_framed (execWatchdogExpiry_keeps s)
  | swrst req key => exact answer_framed (execSwrst_keeps req key s)
  | debugReset => exact answer_framed (execDebugReset_keeps s)
  | resetRelease => exact answer_parts (execResetRelease_keeps s)
  | bootSlotCheck => exact answer_parts (execBootSlotCheck_keeps s)
  | configLoadDone => exact answer_parts (execConfigLoadDone_keeps s)
  | chainListenTimeout => exact answer_framed (execChainListenTimeout_keeps s)
  | readyEntry => exact answer_framed (execReadyEntry_keeps s)
  | powerupCalStart => exact answer_framed (execPowerupCalStart_keeps s)
  | powerupCalRetry => exact answer_framed (execPowerupCalRetry_keeps s)
  | glbRunWrite req run => exact answer_framed (execGlbRunWrite_keeps req run s)
  | glbCtrlSafe req => exact answer_framed (execGlbCtrlSafe_keeps req s)
  | frameBoundary => exact answer_framed (execFrameBoundary_keeps s)
  | rowGroupSlot tile raw => exact answer_framed (execRowGroupSlot_keeps tile raw s)
  | spareHandover tile spare sliceCode spareCode newGain newOfs =>
    exact answer_framed (execSpareHandover_keeps tile spare sliceCode spareCode newGain newOfs s)
  | rowGroupReceive tile rx overflow => exact answer_framed (execRowGroupReceive_keeps tile rx overflow s)
  | alignBlock tile frame headerOk => exact answer_framed (execAlignBlock_keeps tile frame headerOk s)
  | tetherRealign tile => exact answer_framed (execTetherRealign_keeps tile s)
  | tetherRealignTimeout tile => exact answer_framed (execTetherRealignTimeout_keeps tile s)
  | rowGroupRelease tile occ errs => exact answer_framed (execRowGroupRelease_keeps tile occ errs s)
  | controlLaneMessage => exact answer_parts (execControlLaneMessage_keeps s)
  | controlLaneLoss => exact answer_framed (execControlLaneLoss_keeps s)
  | controlLaneRelock => exact answer_parts (execControlLaneRelock_keeps s)
  | stageSensorRead readings => exact answer_framed (execStageSensorRead_keeps readings s)
  | tsExclude idx => exact answer_framed (execTsExclude_keeps idx s)
  | tsReadmit idx => exact answer_framed (execTsReadmit_keeps idx s)
  | stageLock => exact answer_framed (execStageLock_keeps s)
  | stageUnreg => exact answer_framed (execStageUnreg_keeps s)
  | stageUnregClear => exact answer_framed (execStageUnregClear_keeps s)
  | stgCtrlWrite req v => exact answer_framed (execStgCtrlWrite_keeps req v s)
  | stgFrateWrite req v => exact answer_framed (execStgFrateWrite_keeps req v s)
  | stgBiasWrite req v => exact answer_framed (execStgBiasWrite_keeps req v s)
  | stgSetptWrite req v => exact answer_framed (execStgSetptWrite_keeps req v s)
  | tilGainWrite req tile v => exact answer_framed (execTilGainWrite_keeps req tile v s)
  | tilPtdataWrite req tile v => exact answer_framed (execTilPtdataWrite_keeps req tile v s)
  | tilSkimWrite req tile idx v => exact answer_parts (execTilSkimWrite_keeps req tile idx v s)
  | tilScal req tile => exact answer_framed (execTilScal_keeps req tile s)
  | scalComplete tile factors => exact answer_framed (execScalComplete_keeps tile factors s)
  | tilRotenWrite req tile en => exact answer_framed (execTilRotenWrite_keeps req tile en s)
  | tilCfdataWrite req tile v => exact answer_framed (execTilCfdataWrite_keeps req tile v s)
  | tilPark req tile slice spare => exact answer_framed (execTilPark_keeps req tile slice spare s)
  | tilRelease req tile spare => exact answer_framed (execTilRelease_keeps req tile spare s)
  | tilResync req tile => exact answer_framed (execTilResync_keeps req tile s)
  | corV0Write req v => exact answer_framed (execCorV0Write_keeps req v s)
  | corOflip req v => exact answer_framed (execCorOflip_keeps req v s)
  | corBlendStart req frames => exact answer_framed (execCorBlendStart_keeps req frames s)
  | corBlendAbort req => exact answer_framed (execCorBlendAbort_keeps req s)
  | corLanexWrite req j v => exact answer_framed (execCorLanexWrite_keeps req j v s)
  | calTriggerEval => exact answer_framed (execCalTriggerEval_keeps s)
  | calGo req => exact answer_framed (execCalGo_keeps req s)
  | calGrantTimeout => exact answer_framed (execCalGrantTimeout_keeps s)
  | calDeferredRetry => exact answer_framed (execCalDeferredRetry_keeps s)
  | lyFlagClosed w => exact answer_framed (execLyFlagClosed_keeps w s)
  | lyFlagOpen w => exact answer_framed (execLyFlagOpen_keeps w s)
  | flagCloseTimeout => exact answer_framed (execFlagCloseTimeout_keeps s)
  | calSettleEnd => exact answer_parts (execCalSettleEnd_keeps s)
  | calCaptureEnd => exact answer_framed (execCalCaptureEnd_keeps s)
  | calComputeDone => exact answer_framed (execCalComputeDone_keeps s)
  | flagStuck => exact answer_framed (execFlagStuck_keeps s)
  | calResumeEnd => exact answer_framed (execCalResumeEnd_keeps s)
  | calSlotCopyDone => exact answer_framed (execCalSlotCopyDone_keeps s)
  | trimHandoffTimeout => exact answer_framed (execTrimHandoffTimeout_keeps s)
  | calAbort req => exact answer_framed (execCalAbort_keeps req s)
  | grefStart req => exact answer_framed (execGrefStart_keeps req s)
  | grefWindow1End => exact answer_parts (execGrefWindow1End_keeps s)
  | grefSettled => exact answer_parts (execGrefSettled_keeps s)
  | grefSettleTimeout => exact answer_framed (execGrefSettleTimeout_keeps s)
  | grefWindow2End => exact answer_framed (execGrefWindow2End_keeps s)
  | grefDone => exact answer_framed (execGrefDone_keeps s)
  | gapply req => exact answer_framed (execGapply_keeps req s)
  | sliceComplete errs => exact answer_framed (execSliceComplete_keeps errs s)
  | verdictIssue errs refused => exact answer_framed (execVerdictIssue_keeps errs refused s)
  | brdParamWrite req addr v => exact answer_framed (execBrdParamWrite_keeps req addr v s)
  | brdTableComputeDone => exact answer_framed (execBrdTableComputeDone_keeps s)
  | brdUnlayWrite req v => exact answer_framed (execBrdUnlayWrite_keeps req v s)
  | brdSwitch req v => exact answer_framed (execBrdSwitch_keeps req v s)
  | brdRestart req => exact answer_framed (execBrdRestart_keeps req s)
  | brdTrackEval => exact answer_framed (execBrdTrackEval_keeps s)
  | kntThrWrite req v => exact answer_framed (execKntThrWrite_keeps req v s)
  | vrdSwitch req => exact answer_framed (execVrdSwitch_keeps req s)
  | mapsw req => exact answer_framed (execMapsw_keeps req s)
  | qflush req => exact answer_framed (execQflush_keeps req s)
  | ejsStagedWrite req addr v => exact answer_framed (execEjsStagedWrite_keeps req addr v s)
  | firingOpen ch => exact answer_framed (execFiringOpen_keeps ch s)
  | tokenGrant => exact answer_framed (execTokenGrant_keeps s)
  | tokenDeadline ch => exact answer_framed (execTokenDeadline_keeps ch s)
  | peakEnd ch => exact answer_framed (execPeakEnd_keeps ch s)
  | peakTimeout ch imeas => exact answer_framed (execPeakTimeout_keeps ch imeas s)
  | holdEntry ch => exact answer_framed (execHoldEntry_keeps ch s)
  | chopPeriod bank currents => exact answer_framed (execChopPeriod_keeps bank currents s)
  | firingClose ch => exact answer_framed (execFiringClose_keeps ch s)
  | currentZero ch => exact answer_framed (execCurrentZero_keeps ch s)
  | coilThermalUpdate i2 => exact answer_framed (execCoilThermalUpdate_keeps i2 s)
  | openingKink ch t fall => exact answer_framed (execOpeningKink_keeps ch t fall s)
  | closingKink ch t reversal => exact answer_framed (execClosingKink_keeps ch t reversal s)
  | positionEdge input level => exact answer_framed (execPositionEdge_keeps input level s)
  | openingWindowEnd ch => exact answer_framed (execOpeningWindowEnd_keeps ch s)
  | closingWindowEnd ch => exact answer_framed (execClosingWindowEnd_keeps ch s)
  | overcurrent ch => exact answer_framed (execOvercurrent_keeps ch s)
  | drainShort ch => exact answer_framed (execDrainShort_keeps ch s)
  | railNodeShort bank => exact answer_framed (execRailNodeShort_keeps bank s)
  | railStuckHigh bank => exact answer_framed (execRailStuckHigh_keeps bank s)
  | boostMeasure vbst => exact answer_framed (execBoostMeasure_keeps vbst s)
  | vlvClrflt req ch => exact answer_framed (execVlvClrflt_keeps req ch s)
  | vbkClrflt req bank => exact answer_framed (execVbkClrflt_keeps req bank s)
  | driveEnableWrite req addr v => exact answer_parts (execDriveEnableWrite_keeps req addr v s)
  | lyEnergise req on => exact answer_framed (execLyEnergise_keeps req on s)
  | lyClrflt req => exact answer_framed (execLyClrflt_keeps req s)
  | vvalThreshold cond set => exact answer_framed (execVvalThreshold_keeps cond set s)
  | budgetEval iBase iTotal => exact answer_framed (execBudgetEval_keeps iBase iTotal s)
  | overbudgetRelease => exact answer_framed (execOverbudgetRelease_keeps s)
  | pwrBudprioWrite req v => exact answer_framed (execPwrBudprioWrite_keeps req v s)
  | thermalSample tl tp => exact answer_framed (execThermalSample_keeps tl tp s)
  | thermalLevelEnter die level => exact answer_framed (execThermalLevelEnter_keeps die level s)
  | thermalLevelLeave die level => exact answer_framed (execThermalLevelLeave_keeps die level s)
  | throttleStep2 die => exact answer_framed (execThrottleStep2_keeps die s)
  | thmRestart req => exact answer_framed (execThmRestart_keeps req s)
  | autoRestart => exact answer_framed (execAutoRestart_keeps s)
  | thermalSensorExclude die idx => exact answer_framed (execThermalSensorExclude_keeps die idx s)
  | thermalSensorReadmit die idx => exact answer_framed (execThermalSensorReadmit_keeps die idx s)
  | dramTempRead rate => exact answer_framed (execDramTempRead_keeps rate s)
  | hkaConversion codes => exact answer_framed (execHkaConversion_keeps codes s)
  | rtdStale => exact answer_framed (execRtdStale_keeps s)
  | hkaScalStart req => exact answer_framed (execHkaScalStart_keeps req s)
  | hkaScalDone gain ofs => exact answer_framed (execHkaScalDone_keeps gain ofs s)
  | heaterPeriodStart out => exact answer_parts (execHeaterPeriodStart_keeps out s)
  | heaterOutputOff out => exact answer_parts (execHeaterOutputOff_keeps out s)
  | preheatWindowEnd => exact answer_framed (execPreheatWindowEnd_keeps s)
  | backdropLoopUpdate => exact answer_framed (execBackdropLoopUpdate_keeps s)
  | loopCtrlWrite req v => exact answer_parts (execLoopCtrlWrite_keeps req v s)
  | loopClear req ph bk => exact answer_framed (execLoopClear_keeps req ph bk s)
  | scrubWriteback => exact answer_parts (execScrubWriteback_keeps s)
  | bightStart errs => exact answer_framed (execBightStart_keeps errs s)
  | bightDone fail => exact answer_framed (execBightDone_keeps fail s)
  | bightRestoreDone => exact answer_framed (execBightRestoreDone_keeps s)
  | bightSkip => exact answer_framed (execBightSkip_keeps s)
  | memRetctlWrite req v => exact answer_framed (execMemRetctlWrite_keeps req v s)
  | retentionWake group => exact answer_framed (execRetentionWake_keeps group s)
  | tableMemoryReload table ok => exact answer_framed (execTableMemoryReload_keeps table ok s)
  | hartenWrite req harten => exact answer_framed (execHartenWrite_keeps req harten s)
  | hartOffline h => exact answer_framed (execHartOffline_keeps h s)
  | appweWrite req v => exact answer_parts (execAppweWrite_keeps req v s)
  | registerWrite req addr size v also hwSet =>
    exact answer_parts (execRegisterWrite_keeps req addr size v also hwSet s)
  | loWordRead req addr wide also => exact answer_parts (execLoWordRead_keeps req addr wide also s)
  | tableDataRead req => exact answer_framed (execTableDataRead_keeps req s)
  | tableDataWrite req v also => exact answer_parts (execTableDataWrite_keeps req v also s)
  | counterClear req addr => exact answer_parts (execCounterClear_keeps req addr s)
  | mbxSend req c dir => exact answer_framed (execMbxSend_keeps req c dir s)
  | mbxPop req c dir => exact answer_parts (execMbxPop_keeps req c dir s)
  | evtForce req g v => exact answer_framed (execEvtForce_keeps req g v s)
  | evtCntclr req => exact answer_framed (execEvtCntclr_keeps req s)
  | evtClrall req same => exact answer_framed (execEvtClrall_keeps req same s)
  | evtPinPulseEnd idx => exact answer_parts (execEvtPinPulseEnd_keeps idx s)
  | logPageCopy => exact answer_framed (execLogPageCopy_keeps s)
  | regRead h addr count => exact answer_parts (execRegRead_keeps h addr count s)
  | regWrite h addr words => exact answer_parts (execRegWrite_keeps h addr words s)
  | regModify h addr mask value => exact answer_parts (execRegModify_keeps h addr mask value s)
  | start h => exact answer_parts (execStart_keeps h s)
  | stop h => exact answer_parts (execStop_keeps h s)
  | safe h => exact answer_parts (execSafe_keeps h s)
  | restart h => exact answer_parts (execRestart_keeps h s)
  | reset h key => exact answer_parts (execReset_keeps h key s)
  | status h => exact answer_parts (execStatus_keeps h s)
  | opQuery h => exact answer_parts (execOpQuery_keeps h s)
  | identify h => exact answer_parts (execIdentify_keeps h s)
  | calRun h => exact answer_parts (execCalRun_keeps h s)
  | calGref h => exact answer_parts (execCalGref_keeps h s)
  | calGapply h => exact answer_parts (execCalGapply_keeps h s)
  | convScal h tiles => exact answer_parts (execConvScal_keeps h tiles s)
  | hkaScal h => exact answer_parts (execHkaScal_keeps h s)
  | loadTable h id addr words => exact answer_parts (execLoadTable_keeps h id addr words s)
  | readTable h id addr count => exact answer_parts (execReadTable_keeps h id addr count s)
  | saveTables h => exact answer_parts (execSaveTables_keeps h s)
  | saveTablesDone => exact answer_framed (execSaveTablesDone_keeps s)
  | restoreTables h => exact answer_parts (execRestoreTables_keeps h s)
  | restoreTablesDone => exact answer_parts (execRestoreTablesDone_keeps s)
  | tapGrab h count => exact answer_parts (execTapGrab_keeps h count s)
  | tapRead h index offset len => exact answer_parts (execTapRead_keeps h index offset len s)
  | sessionOpen h nonce => exact answer_parts (execSessionOpen_keeps h nonce s)
  | sessionClose h => exact answer_parts (execSessionClose_keeps h s)
  | sessionIdleExpiry src => exact answer_framed (execSessionIdleExpiry_keeps src s)
  | setDevkey h key => exact answer_parts (execSetDevkey_keeps h key s)
  | updBegin h size => exact answer_parts (execUpdBegin_keeps h size s)
  | updEraseDone => exact answer_framed (execUpdEraseDone_keeps s)
  | updData h offset data => exact answer_parts (execUpdData_keeps h offset data s)
  | updVerify h => exact answer_parts (execUpdVerify_keeps h s)
  | updVerifyDone => exact answer_framed (execUpdVerifyDone_keeps s)
  | updActivate h slot => exact answer_parts (execUpdActivate_keeps h slot s)
  | updStatus h => exact answer_parts (execUpdStatus_keeps h s)
  | logInfo h => exact answer_parts (execLogInfo_keeps h s)
  | logRead h seq count => exact answer_parts (execLogRead_keeps h seq count s)
  | chnInfo h => exact answer_parts (execChnInfo_keeps h s)
  | chnMaster h => exact answer_parts (execChnMaster_keeps h s)
  | abort h opcode seq => exact answer_parts (execAbort_keeps h opcode seq s)
  | replyCacheExpiry src => exact answer_parts (execReplyCacheExpiry_keeps src s)
  | forwardTimeout src seq => exact answer_framed (execForwardTimeout_keeps src seq s)
  | ethFrameReceive f errs => exact answer_parts (execEthFrameReceive_keeps f errs s)
  | dhcpMessage m => exact answer_framed (execDhcpMessage_keeps m s)
  | ptpMessage residual ptpTime => exact answer_framed (execPtpMessage_keeps residual ptpTime s)
  | ptpSyncTimeout => exact answer_framed (execPtpSyncTimeout_keeps s)
  | ptpReofs req => exact answer_framed (execPtpReofs_keeps req s)
  | phyStatusPoll link speed fdx => exact answer_framed (execPhyStatusPoll_keeps link speed fdx s)
  | mdioGo req v => exact answer_parts (execMdioGo_keeps req v s)
  | mdioAccessDone data => exact answer_framed (execMdioAccessDone_keeps data s)
  | sspRegisterReadFrame mode3 rsv inc addr words =>
    exact answer_framed (execSspRegisterReadFrame_keeps mode3 rsv inc addr words s)
  | sspRegisterWriteFrame mode3 rsv inc bytes bits =>
    exact answer_parts (execSspRegisterWriteFrame_keeps mode3 rsv inc bytes bits s)
  | sspStreamWriteFrame mode3 rsv bytes bits partialByte =>
    exact answer_parts (execSspStreamWriteFrame_keeps mode3 rsv bytes bits partialByte s)
  | sspStreamReadFrame mode3 rsv bytes => exact answer_framed (execSspStreamReadFrame_keeps mode3 rsv bytes s)
  | xipRead cluster addr => exact answer_framed (execXipRead_keeps cluster addr s)
  | xipLineFetchDone => exact answer_framed (execXipLineFetchDone_keeps s)
  | flashResume => exact answer_framed (execFlashResume_keeps s)
  | flashOperationDone => exact answer_framed (execFlashOperationDone_keeps s)
  | chainLinkUp port info => exact answer_framed (execChainLinkUp_keeps port info s)
  | chainLinkDown port => exact answer_framed (execChainLinkDown_keeps port s)
  | timeMessage crc m => exact answer_framed (execTimeMessage_keeps crc m s)
  | chainSyncPulse port => exact answer_framed (execChainSyncPulse_keeps port s)
  | hitchSlewStep => exact answer_framed (execHitchSlewStep_keeps s)
  | chainPulseMissing => exact answer_framed (execChainPulseMissing_keeps s)
  | chainRejoin => exact answer_framed (execChainRejoin_keeps s)
  | handover crc sender give => exact answer_framed (execHandover_keeps crc sender give s)
  | grantReq crc sender stamp => exact answer_framed (execGrantReq_keeps crc sender stamp s)
  | grant crc target boundary => exact answer_framed (execGrant_keeps crc target boundary s)
  | release crc sender => exact answer_framed (execRelease_keeps crc sender s)
  | grantMaxTimeout => exact answer_framed (execGrantMaxTimeout_keeps s)
  | echo crc port roundTrip => exact answer_framed (execEcho_keeps crc port roundTrip s)
  | echoPeriod => exact answer_parts (execEchoPeriod_keeps s)
  | baindForward crc reply h opcode payload =>
    exact answer_parts (execBaindForward_keeps crc reply h opcode payload s)
  | splice crc r => exact answer_framed (execSplice_keeps crc r s)
  | takemst req => exact answer_framed (execTakemst_keeps req s)
  | chnResync req => exact answer_framed (execChnResync_keeps req s)
  | tmxBlindWrite req v => exact answer_framed (execTmxBlindWrite_keeps req v s)
  | tmxTpctlWrite req v => exact answer_parts (execTmxTpctlWrite_keeps req v s)
  | tmxTpdataWrite req v => exact answer_framed (execTmxTpdataWrite_keeps req v s)
  | bscanenWrite req v => exact answer_framed (execBscanenWrite_keeps req v s)
  | jtagInstruction idx => exact answer_parts (execJtagInstruction_keeps idx s)
  | debugHalt h step => exact answer_parts (execDebugHalt_keeps h step s)
  | tetherBlockLockLoss tile => exact answer_framed (execTetherBlockLockLoss_keeps tile s)
  | firmwareFault => exact answer_framed (execFirmwareFault_keeps s)
  | dhcpLeaseTimer t => exact answer_framed (execDhcpLeaseTimer_keeps t s)
  | causeLatchLoss => exact answer_parts (execCauseLatchLoss_keeps s)

/-- Settles O60: the case split over the commands is `exec_framed`. -/
theorem everyCommandKeepsWhatIsOutsideItsFrame : Obligations.EveryCommandKeepsWhatIsOutsideItsFrame := by
  intro c s t h
  obtain ⟨t', h', -, hf⟩ := exec_framed c s
  cases h.symm.trans h'
  exact hf

end Sys2Proof
end

section
/-! SUPPORT. What a register write does by the type of its fields (R12, R15): the fold of `plainW` over the fields of a
register, read one field at a time. -/

namespace Sys2Proof.Machine

open Reg

/-! ### One field -/

theorem bitOf_eq_testBit (x i : Nat) : bitOf x i = x.testBit i := by
  simp [bitOf, bits, Nat.testBit_eq_decide_div_mod_eq, beq_eq_decide]

/-- A write of one field leaves every other. -/
theorem State.writeOne_get_ne (s : State) (v hw : Nat) (f g : Fld) (h : g.key ≠ f.key) :
    (s.writeOne v hw f).get g = s.get g := by
  have hs : ∀ x, (s.set f x).get g = s.get g := fun x => State.get_set_ne s f g x h
  unfold State.writeOne
  split
  · exact hs _
  · unfold State.writeFld
    cases f.ty <;> simp only [hs]

/-- What a write of one field leaves there depends on what it held alone. -/
theorem State.writeOne_get_congr (s t : State) (v hw : Nat) (f : Fld) (h : t.get f = s.get f) :
    (t.writeOne v hw f).get f = (s.writeOne v hw f).get f := by
  unfold State.writeOne
  split
  · exact (State.get_set ..).trans (State.get_set ..).symm
  · unfold State.writeFld
    cases f.ty <;> simp [h]

theorem State.writeOne_of_not_live (s : State) (v hw : Nat) (f : Fld)
    (h : liveFlds.any (fun g => g.key == f.key) = false) : s.writeOne v hw f = s.writeFld v hw f := by
  simp [State.writeOne, h]

theorem State.writeFld_get_rw (s : State) (v hw : Nat) (f : Fld) (h : f.ty = .rw) :
    (s.writeFld v hw f).get f = bits v f.lo f.width := by
  simp [State.writeFld, h, bits]

theorem State.writeFld_get_w1c (s : State) (v hw : Nat) (f : Fld) (h : f.ty = .w1c) : (s.writeFld v hw f).get f =
    (andNot (s.get f) (bits v f.lo f.width) ||| bits hw f.lo f.width) % 2 ^ f.width := by
  simp [State.writeFld, h]

theorem State.writeFld_get_ro (s : State) (v hw : Nat) (f : Fld) (h : f.ty = .ro) :
    (s.writeFld v hw f).get f = s.get f := by
  simp [State.writeFld, h]

/-- A write of one field by its type changes no part of the state but the registers. -/
theorem State.writeFld_eq (s : State) (v hw : Nat) (f : Fld) :
    s.writeFld v hw f = { s with regs := (s.writeFld v hw f).regs } := by
  unfold State.writeFld
  cases f.ty <;> rfl

/-! ### The fields of a register -/

theorem fields_los_differ :
    blocks.all (fun b => b.2.all fun f => decide (f.fields.map (·.lo)).Nodup) = true := by decide +kernel

/-- The fields at an offset are those of a family of its block, moved there. -/
theorem fieldsAt_cases (a : Nat) : fieldsAt a = [] ∨ ∃ b ∈ blocks, ∃ m ∈ b.2, fieldsAt a =
    m.fields.map fun x => { x with addr := a, reset := if a = 0x4CC then 0xFFFF7FFF else x.reset } := by
  unfold fieldsAt
  split
  · rename_i m hm
    have hmem := List.mem_of_find?_eq_some hm
    by_cases hb : blockOf a < blocks.length
    · rw [List.getD_eq_getElem _ _ hb] at hmem
      exact .inr ⟨_, List.getElem_mem hb, m, hmem, rfl⟩
    · rw [List.getD_eq_default _ _ (not_lt.mp hb)] at hmem
      cases hmem
  · exact .inl rfl

/-- No two fields of a register have one key. -/
theorem fieldsAt_keys_differ (a : Nat) : (fieldsAt a).Pairwise fun f g => f.key ≠ g.key := by
  obtain h | ⟨b, hb, m, hm, h⟩ := fieldsAt_cases a
  · rw [h]; exact .nil
  · have hn := List.all_eq_true.mp (List.all_eq_true.mp fields_los_differ b hb) m hm
    have hn := List.pairwise_map.mp (of_decide_eq_true hn)
    rw [h, List.pairwise_map]
    refine hn.imp fun {x y} hxy e => hxy ?_
    simp only [Fld.key] at e
    omega

/-! ### A plain write -/

theorem foldl_writeOne_get_ne (v hw : Nat) (g : Fld) (l : List Fld) (s : State) (h : ∀ f ∈ l, g.key ≠ f.key) :
    (l.foldl (fun s f => s.writeOne v hw f) s).get g = s.get g := by
  induction l generalizing s with
  | nil => rfl
  | cons f r ih =>
    rw [List.forall_mem_cons] at h
    exact (ih _ h.2).trans (s.writeOne_get_ne v hw f g h.1)

theorem foldl_writeOne_get (v hw : Nat) (f : Fld) (l : List Fld) (s : State)
    (hl : l.Pairwise fun f g => f.key ≠ g.key) (hf : f ∈ l) :
    (l.foldl (fun s f => s.writeOne v hw f) s).get f = (s.writeOne v hw f).get f := by
  induction l generalizing s with
  | nil => cases hf
  | cons g r ih =>
    rw [List.pairwise_cons] at hl
    obtain ⟨hg, hr⟩ := hl
    rw [List.foldl_cons]
    rcases List.mem_cons.mp hf with rfl | hf
    · exact foldl_writeOne_get_ne v hw f r _ hg
    · rw [ih _ hr hf]
      exact State.writeOne_get_congr _ _ v hw f (s.writeOne_get_ne v hw g f (hg f hf).symm)

theorem State.writeOne_fuses (s : State) (v hw : Nat) (f : Fld) : (s.writeOne v hw f).fuses = s.fuses := by
  unfold State.writeOne
  split
  · rfl
  · rw [State.writeFld_eq]

theorem State.implMask_congr {s t : State} (h : t.fuses = s.fuses) (a : Nat) : t.implMask a = s.implMask a := by
  unfold State.implMask
  rw [h]

/-- The bits that the variant implements are the same for every field of the write. -/
theorem State.plainW_eq_foldl (s : State) (a v hw : Nat) : s.plainW a v hw =
    (fieldsAt a).foldl (fun t f => t.writeOne (v &&& s.implMask a) (hw &&& s.implMask a) f) s := by
  have step : ∀ (l : List Fld) (t : State), t.fuses = s.fuses →
      l.foldl (fun t f => t.writeOne (v &&& t.implMask a) (hw &&& t.implMask a) f) t =
        l.foldl (fun t f => t.writeOne (v &&& s.implMask a) (hw &&& s.implMask a) f) t := by
    intro l
    induction l with
    | nil => exact fun _ _ => rfl
    | cons f r ih =>
      intro t ht
      rw [List.foldl_cons, List.foldl_cons, State.implMask_congr ht]
      exact ih _ ((t.writeOne_fuses _ _ f).trans ht)
  exact step _ s rfl

/-- A plain write leaves the fields of every other register. -/
theorem State.plainW_get_ne (s : State) (a v hw : Nat) (g : Fld) (h : ∀ f ∈ fieldsAt a, g.key ≠ f.key) :
    (s.plainW a v hw).get g = s.get g := by
  rw [State.plainW_eq_foldl]
  exact foldl_writeOne_get_ne _ _ g _ s h

/-- A plain write gives a field of its register what its type says of the bits that the variant implements. -/
theorem State.plainW_get (s : State) (a v hw : Nat) (f : Fld) (hf : f ∈ fieldsAt a) : (s.plainW a v hw).get f =
    (s.writeOne (v &&& s.implMask a) (hw &&& s.implMask a) f).get f := by
  rw [State.plainW_eq_foldl]
  exact foldl_writeOne_get _ _ f _ s (fieldsAt_keys_differ a) hf

/-- No field of the register waits for a boundary. -/
def noLive (a : Nat) : Bool := (fieldsAt a).all fun f => !(liveFlds.any fun g => g.key == f.key)

theorem not_live_of_noLive {a : Nat} {f : Fld} (ha : noLive a = true) (hf : f ∈ fieldsAt a) :
    liveFlds.any (fun g => g.key == f.key) = false := by
  simpa [noLive] using List.all_eq_true.mp ha f hf

/-- A plain write of a register none of whose fields waits for a boundary changes registers alone. -/
theorem State.plainW_eq (s : State) (a v hw : Nat) (ha : noLive a = true) :
    s.plainW a v hw = { s with regs := (s.plainW a v hw).regs } := by
  have step : ∀ (v hw : Nat) (l : List Fld) (s : State), (∀ f ∈ l, f ∈ fieldsAt a) →
      l.foldl (fun s f => s.writeOne v hw f) s =
        { s with regs := (l.foldl (fun s f => s.writeOne v hw f) s).regs } := by
    intro v hw l
    induction l with
    | nil => exact fun s _ => rfl
    | cons f r ih =>
      intro s h
      rw [List.forall_mem_cons] at h
      have hone := s.writeFld_eq v hw f
      rw [← s.writeOne_of_not_live v hw f (not_live_of_noLive ha h.1)] at hone
      rw [List.foldl_cons, ih _ h.2]
      generalize (r.foldl (fun s f => s.writeOne v hw f) (s.writeOne v hw f)).regs = m
      rw [hone]
  rw [State.plainW_eq_foldl]
  exact step _ _ _ s fun f hf => hf

theorem testBit_bits (v lo w i : Nat) (hi : i < w) : (bits v lo w).testBit i = v.testBit (lo + i) := by
  rw [bits, Nat.testBit_mod_two_pow, Nat.testBit_div_two_pow]
  simp [hi, Nat.add_comm]

/-- A bit of a W1C field that hardware sets in the cycle of a plain write stands after it, whatever the word (R15). -/
theorem State.plainW_hw_bit (s : State) (a v hw i : Nat) (f : Fld) (hf : f ∈ fieldsAt a) (ht : f.ty = .w1c)
    (hi : i < f.width) (hm : bitOf (s.implMask a) (f.lo + i) = true) (hh : bitOf hw (f.lo + i) = true) :
    bitOf ((s.plainW a v hw).get f) i = true := by
  rw [bitOf_eq_testBit] at hm hh ⊢
  rw [s.plainW_get a v hw f hf]
  unfold State.writeOne
  rw [if_neg (by simp [ht]), State.writeFld_get_w1c _ _ _ _ ht]
  rw [Nat.testBit_mod_two_pow, Nat.testBit_or, testBit_bits _ _ _ _ hi, Nat.testBit_and, hh, hm]
  simp [hi]

/-! ### A write to a register without effects of its own -/

theorem State.genericW_of_noClr (s : State) (a v hw : Nat) (h : hasClr a = false) :
    s.genericW a v hw = s.plainW a v hw := by
  simp [State.genericW, h]

/-- Nothing is implemented there: the write changes nothing (R14). -/
theorem State.genericW_unimplemented (s : State) (a v hw : Nat) (h : fieldsAt a = []) : s.genericW a v hw = s := by
  rw [State.genericW_of_noClr _ _ _ _ (by simp [hasClr, h])]
  simp [State.plainW, h]

/-! ### The command that writes a register -/

/-- A word store at a register that R339 lets through reaches the register (R339 to R341). -/
theorem exec_registerWrite_word (r : Requester) (a : Nat) (v hw : Word) (s : State) (ha : a < 0x10000)
    (h4 : a % 4 = 0) (hp : s.protected r a = false) :
    exec (.registerWrite r a .word v none hw) s = .next (s.regPut r a v.toNat hw.toNat) := by
  have hpl : s.place r a = .reg a := by simp [State.place, placeOf, ha]
  simp [exec, execRegisterWrite, State.writeAt, hpl, State.regStore, h4, State.writePair, State.regWriteBy,
    State.guardW, hp, ok]

end Sys2Proof.Machine
end

section
/-! SUPPORT. Which registers `regPut` leaves to the types of their fields, and what it does beside that at the status
registers that have a meaning of their own: events, tiles, banks, mailboxes, the tap. -/

namespace Sys2Proof.Machine

open Reg

/-! ### Where a write goes -/

/-- The registers of blocks EVT, PWR, THM, HKA, KNT and MEM whose write has a meaning of its own. -/
def ownMeaning : List Nat := [0x400, 0x1020, 0x1400, 0x1800, 0x7008, 0x700C, 0x7010, 0xB008, 0xB040, 0xB050]

/-- Status and table registers of other blocks whose write goes by the types of their fields. -/
def typedElsewhere : List Nat :=
  [0x14, 0x3C, 0x2028, 0x6004, 0x6404, 0x6470, 0x6804, 0x7404, 0x7804, 0xA804, 0xA80C, 0xA81C, 0xB804, 0xB904, 0xC004,
   0xC054, 0xC804, 0xD004, 0xD82C]

/-- Registers whose write goes by the types of their fields and CLR alone. -/
def byType (a : Nat) : Bool :=
  typedElsewhere.contains a ||
    decide ((0x400 ≤ a ∧ a < 0x2000 ∨ 0x7000 ≤ a ∧ a < 0x7400 ∨ 0xB000 ≤ a ∧ a < 0xB800) ∧ a ∉ ownMeaning ∧
      ¬(0x500 ≤ a ∧ a < 0x560) ∧ ¬(0x580 ≤ a ∧ a < 0x5E0))

theorem State.regPut_evt (s : State) (r : Requester) (a v hw : Nat) (h1 : 0x400 ≤ a) (h2 : a < 0x1000) :
    s.regPut r a v hw = s.evtW a (v % 2 ^ 32) hw := by
  simp only [State.regPut]
  rw [if_neg (by omega), if_pos h2]

theorem State.regPut_evtStat (s : State) (r : Requester) (g v hw : Nat) (hg : g < 24) :
    s.regPut r (0x500 + 4 * g) v hw = s.evtStatW g (v % 2 ^ 32) hw := by
  rw [s.regPut_evt _ _ _ _ (by omega) (by omega), State.evtW, if_neg (by omega), if_neg (by omega),
    if_pos (by omega), show (0x500 + 4 * g - 0x500) / 4 = g by omega]

theorem State.regPut_house (s : State) (r : Requester) (a v hw : Nat) (h1 : 0x1000 ≤ a) (h2 : a < 0x2000) :
    s.regPut r a v hw = s.houseW a (v % 2 ^ 32) hw := by
  simp only [State.regPut]
  rw [if_neg (by omega), if_neg (by omega), if_pos h2]

theorem State.regPut_til (s : State) (r : Requester) (a v hw : Nat) (h1 : 0x4000 ≤ a) (h2 : a < 0x6000) :
    s.regPut r a v hw = s.tilW a (v % 2 ^ 32) hw := by
  simp only [State.regPut]
  iterate 4 rw [if_neg (by omega)]
  rw [if_pos h2]

theorem State.regPut_knt (s : State) (r : Requester) (a v hw : Nat) (h1 : 0x7000 ≤ a) (h2 : a < 0x7400) :
    s.regPut r a v hw = s.kntW a (v % 2 ^ 32) hw := by
  simp only [State.regPut]
  iterate 8 rw [if_neg (by omega)]
  rw [if_pos h2]

theorem State.regPut_drive (s : State) (r : Requester) (a v hw : Nat) (h1 : 0x8000 ≤ a) (h2 : a < 0xB000) :
    s.regPut r a v hw = s.driveW a (v % 2 ^ 32) hw := by
  simp only [State.regPut]
  iterate 11 rw [if_neg (by omega)]
  rw [if_pos h2]

theorem State.regPut_mem (s : State) (r : Requester) (a v hw : Nat) (h1 : 0xB000 ≤ a) (h2 : a < 0xB800) :
    s.regPut r a v hw = s.memW a (v % 2 ^ 32) hw := by
  simp only [State.regPut]
  iterate 12 rw [if_neg (by omega)]
  rw [if_pos h2]

theorem State.regPut_mbx (s : State) (r : Requester) (a v hw : Nat) (h : 0xE000 ≤ a) :
    s.regPut r a v hw = s.mbxW r a (v % 2 ^ 32) hw := by
  simp only [State.regPut]
  repeat rw [if_neg (by omega)]

theorem State.regPut_typedElsewhere (s : State) (r : Requester) (a v hw : Nat) (h : a ∈ typedElsewhere) :
    s.regPut r a v hw = s.genericW a (v % 2 ^ 32) hw := by
  simp only [typedElsewhere, List.mem_cons, List.not_mem_nil, or_false] at h
  rcases h with rfl | rfl | rfl | rfl | rfl | rfl | rfl | rfl | rfl | rfl | rfl | rfl | rfl | rfl | rfl | rfl | rfl |
    rfl | rfl <;> rfl

theorem State.regPut_byType (s : State) (r : Requester) (a v hw : Nat) (h : byType a = true) :
    s.regPut r a v hw = s.genericW a (v % 2 ^ 32) hw := by
  simp only [byType, Bool.or_eq_true, List.contains_iff_mem, decide_eq_true_eq] at h
  obtain h | ⟨hb, ho, hs, hf⟩ := h
  · exact s.regPut_typedElsewhere r a v hw h
  simp only [ownMeaning, List.mem_cons, List.not_mem_nil, or_false, not_or] at ho
  obtain ⟨h1, h2⟩ | ⟨h1, h2⟩ | ⟨h1, h2⟩ := hb
  · by_cases he : a < 0x1000
    · rw [s.regPut_evt r a v hw h1 he, State.evtW, if_neg (by omega), if_neg hf, if_neg hs]
    · rw [s.regPut_house r a v hw (by omega) h2, State.houseW, if_neg (by omega), if_neg (by omega), if_neg (by omega)]
  · rw [s.regPut_knt r a v hw h1 h2, State.kntW, if_neg (by omega), if_neg (by omega), if_neg (by omega)]
  · rw [s.regPut_mem r a v hw h1 h2, State.memW, if_neg (by omega), if_neg (by omega), if_neg (by omega)]

/-! ### EVT_STAT: the sources that occur in the same cycle -/

theorem testBit_sumN_two_pow (l : List Nat) (hl : l.Pairwise (· < ·)) (i : Nat) :
    (sumN (l.map (2 ^ ·))).testBit i = true ↔ i ∈ l := by
  rw [← Nat.mem_bitIndices, sumN, ← List.sum_eq_foldl, Nat.bitIndices_sum_map_two_pow hl.sortedLT]

/-- The sources of a group that occur in the cycle of a write, by their bits in `hw` (R4, R349). -/
def State.occurring (s : State) (g hw : Nat) : List Nat :=
  (onesOf 32 hw).filter fun b => s.srcExists (32 * g + b) && s.srcEnabled (32 * g + b)

theorem State.occurring_rising (s : State) (g hw : Nat) : (s.occurring g hw).Pairwise (· < ·) :=
  (List.pairwise_lt_range.filter _).filter _

theorem State.mem_occurring (s : State) (g hw i : Nat) : i ∈ s.occurring g hw ↔
    i < 32 ∧ bitOf hw i = true ∧ s.srcExists (32 * g + i) = true ∧ s.srcEnabled (32 * g + i) = true := by
  simp only [State.occurring, onesOf, List.mem_filter, List.mem_range, Bool.and_eq_true, and_assoc]

theorem State.evtStatW_eq (s : State) (g v hw : Nat) : s.evtStatW g v hw =
    ((s.occurring g hw).foldl (fun (s : State) b => s.raise (32 * g + b)) s).genericW (0x500 + 4 * g) v
      (sumN ((s.occurring g hw).map (2 ^ ·))) := rfl

theorem foldl_raise_fuses (g : Nat) (l : List Nat) (s : State) :
    (l.foldl (fun (s : State) b => s.raise (32 * g + b)) s).fuses = s.fuses := by
  induction l generalizing s with
  | nil => rfl
  | cons b r ih => exact (ih _).trans (s.raise_fuses _)

/-! ### Registers of absent tiles and banks -/

theorem State.implMask_absent_tile (s : State) (a : Nat) (hv : s.fuses.nk1024 = true) (h1 : 0x5000 ≤ a)
    (h2 : a < 0x6000) : s.implMask a = 0 := by
  simp only [State.implMask, hv]
  rw [if_neg (by decide), if_pos (by omega)]

theorem State.implMask_absent_bank (s : State) (a : Nat) (hv : s.fuses.nk1024 = true) (h1 : 0xA400 ≤ a)
    (h2 : a < 0xA800) : s.implMask a = 0 := by
  simp only [State.implMask, hv]
  rw [if_neg (by decide), if_pos (by omega)]

/-- TIL[n]_CVSTAT of a tile that the variant has goes by the types of its fields. -/
theorem State.regPut_cvstat (s : State) (r : Requester) (n v hw : Nat) (hn : n < 32)
    (hm : s.implMask (0x4064 + 0x100 * n) ≠ 0) :
    s.regPut r (0x4064 + 0x100 * n) v hw = s.genericW (0x4064 + 0x100 * n) (v % 2 ^ 32) hw := by
  have ht : ¬ s.nTiles ≤ n := by
    intro h
    unfold State.nTiles at h
    split at h
    · exact hm (s.implMask_absent_tile _ ‹_› (by omega) (by omega))
    · omega
  have hq : (0x4064 + 0x100 * n - 0x4000) / 0x100 = n := by omega
  have ho : (0x4064 + 0x100 * n) % 0x100 = 0x64 := by omega
  rw [s.regPut_til _ _ _ _ (by omega) (by omega)]
  simp only [State.tilW, hq, ho]
  rw [if_neg ht]
  rfl

/-- VBK[b]_TRCTL of a bank that the variant has: a plain write, of DIV 0 as 1. -/
theorem State.regPut_trctl (s : State) (r : Requester) (b v hw : Nat) (hb : b < 16)
    (hm : s.implMask (0xA00C + 0x80 * b) ≠ 0) : s.regPut r (0xA00C + 0x80 * b) v hw =
      s.plainW (0xA00C + 0x80 * b) (asIf (v % 2 ^ 32) (VBK_TRCTL_DIV b) atLeast1) hw := by
  have ht : ¬ s.nBanks ≤ b := by
    intro h
    unfold State.nBanks at h
    split at h
    · exact hm (s.implMask_absent_bank _ ‹_› (by omega) (by omega))
    · omega
  have he : isEnableReg (0xA00C + 0x80 * b) = false := by
    simp only [isEnableReg, decide_eq_false_iff_not]
    omega
  have hq : (0xA00C + 0x80 * b - 0xA000) / 0x80 = b := by omega
  rw [s.regPut_drive _ _ _ _ (by omega) (by omega)]
  simp only [State.driveW, he, hq]
  rw [if_neg (by decide), if_neg (by omega), if_pos (by omega), if_neg ht, if_pos (by omega)]

/-! ### Mailboxes: OVF -/

/-- OVF of a direction of a mailbox channel. -/
def ovfFld (up : Bool) (c : Nat) : Fld := if up then MBX_UPCTL_OVF c else MBX_DNCTL_OVF c

theorem State.mbxShow_get_ovf (s : State) (up : Bool) (c : Nat) :
    (s.mbxShow c).get (ovfFld up c) = s.get (ovfFld up c) := by
  have hw : ∀ i, (ovfFld up c).key ≠ (MBX_UPRX_WORD c i).key ∧ (ovfFld up c).key ≠ (MBX_DNRX_WORD c i).key := by
    intro i
    cases up <;> simp [ovfFld, Fld.key, MBX_UPCTL_OVF, MBX_DNCTL_OVF, MBX_UPRX_WORD, MBX_DNRX_WORD] <;> omega
  have hc : (ovfFld up c).key ≠ (MBX_UPCTL_COUNT c).key ∧ (ovfFld up c).key ≠ (MBX_UPCTL_FULL c).key ∧
      (ovfFld up c).key ≠ (MBX_DNCTL_COUNT c).key ∧ (ovfFld up c).key ≠ (MBX_DNCTL_FULL c).key := by
    cases up <;> simp [ovfFld, Fld.key, MBX_UPCTL_OVF, MBX_DNCTL_OVF, MBX_UPCTL_COUNT, MBX_UPCTL_FULL,
      MBX_DNCTL_COUNT, MBX_DNCTL_FULL] <;> omega
  obtain ⟨h1, h2, h3, h4⟩ := hc
  simp only [State.mbxShow, State.setB_eq]
  rw [State.get_set_ne _ _ _ _ h4, State.get_set_ne _ _ _ _ h3, State.get_set_ne _ _ _ _ h2,
    State.get_set_ne _ _ _ _ h1]
  refine foldl_get _ _ (fun t i => ?_) _ s
  rw [State.get_set_ne _ _ _ _ (hw i).2, State.get_set_ne _ _ _ _ (hw i).1]

theorem State.setMbx_get_ovf (s : State) (up : Bool) (c : Nat) (m : MbxChan) :
    (s.setMbx c m).get (ovfFld up c) = s.get (ovfFld up c) := by
  rw [State.setMbx, State.mbxShow_get_ovf, State.get_with_mbx]

/-- A message sent leaves OVF of its direction or sets it (R345). -/
theorem State.mbxSendW_ovf (s : State) (up : Bool) (c : Nat) (h : s.get (ovfFld up c) = 1) :
    (s.mbxSendW c up).get (ovfFld up c) = 1 := by
  have hset : (s.set (ovfFld up c) 1).get (ovfFld up c) = 1 := by
    rw [State.get_set]
    cases up <;> rfl
  have hput : ∀ m, (s.setMbx c m).get (ovfFld up c) = 1 := fun m => (s.setMbx_get_ovf up c m).trans h
  cases up with
  | true =>
    simp only [State.mbxSendW, if_true]
    split
    · exact hset
    · exact hput _
  | false =>
    simp only [State.mbxSendW, Bool.false_eq_true, if_false]
    split
    · exact hset
    · split
      · rw [State.get_emit]; exact hput _
      · exact hput _

/-- The control register of a direction of a mailbox channel. -/
def ctlReg (up : Bool) (c : Nat) : Nat := (if up then 0xE010 else 0xE050) + 0x80 * c

/-- A write of a mailbox's control register is a plain write, then a message sent or PROTERR (R345). -/
theorem State.regPut_mbxCtl (s : State) (r : Requester) (up : Bool) (c v hw : Nat) (hc : c < 4) :
    s.regPut r (ctlReg up c) v hw =
      if bitOf (v % 2 ^ 32) 0 then
        if (if up then isCluster r else reqIsMgmt r) then (s.plainW (ctlReg up c) (v % 2 ^ 32) hw).mbxSendW c up
        else (s.plainW (ctlReg up c) (v % 2 ^ 32) hw).protErr
      else s.plainW (ctlReg up c) (v % 2 ^ 32) hw := by
  have ha : 0xE000 ≤ ctlReg up c := by unfold ctlReg; split <;> omega
  have hq : (ctlReg up c - 0xE000) / 0x80 = c := by unfold ctlReg; split <;> omega
  have ho : ctlReg up c % 0x80 = if up then 0x10 else 0x50 := by unfold ctlReg; split <;> omega
  rw [s.regPut_mbx _ _ _ _ ha]
  simp only [State.mbxW, hq, ho]
  rw [if_neg (by omega)]
  cases up <;> rfl

/-- OVF that a plain write of its register leaves set stays set. -/
theorem State.regPut_mbxCtl_ovf (s : State) (r : Requester) (up : Bool) (c v hw : Nat) (hc : c < 4)
    (h : (s.plainW (ctlReg up c) (v % 2 ^ 32) hw).get (ovfFld up c) = 1) :
    (s.regPut r (ctlReg up c) v hw).get (ovfFld up c) = 1 := by
  have hp : (ovfFld up c).key ≠ GLB_STAT_PROTERR.key := by
    cases up <;> simp [ovfFld, Fld.key, MBX_UPCTL_OVF, MBX_DNCTL_OVF, GLB_STAT_PROTERR] <;> omega
  rw [s.regPut_mbxCtl r up c v hw hc]
  generalize s.plainW (ctlReg up c) (v % 2 ^ 32) hw = t at h ⊢
  cases bitOf (v % 2 ^ 32) 0
  · exact h
  · cases (if up then isCluster r else reqIsMgmt r)
    · exact (State.get_set_ne _ _ _ _ hp).trans h
    · exact t.mbxSendW_ovf up c h

/-! ### The tap's status -/

theorem State.regPut_tapStat (s : State) (r : Requester) (v hw : Nat) :
    s.regPut r 0xC098 v hw = (s.genericW 0xC098 (v % 2 ^ 32) hw).tapShow := rfl

theorem State.tapShow_get_ovrSeen (s : State) : s.tapShow.get ETH_TAPSTAT_OVRSEEN = s.get ETH_TAPSTAT_OVRSEEN :=
  s.tapShow_keeps.fields _ (by decide +kernel)

end Sys2Proof.Machine
end

section
/-! SUPPORT. W1C bits that hardware sets in the cycle of their clearing (R15). -/

namespace Sys2Proof

open Sys2Proof.Machine Sys2Proof.Machine.Reg

/-- Every listed field is one of its register's, a W1C one, of a register without CLR. -/
theorem w1cFlds_fields : ∀ f ∈ w1cFlds, f ∈ fieldsAt f.addr ∧ f.ty = .w1c ∧ hasClr f.addr = false ∧
    f.addr < 0x10000 ∧ f.addr % 4 = 0 := by decide +kernel

/-- Where the write of a listed field goes: by the types of the fields alone, or to a register with a meaning of its
own. -/
theorem w1cFlds_places : ∀ f ∈ w1cFlds, byType f.addr = true ∨ (∃ g < 24, f = EVT_STAT_STAT g) ∨
    (∃ n < 32, f.addr = 0x4064 + 0x100 * n) ∨ (∃ b < 16, f.addr = 0xA00C + 0x80 * b) ∨
    (∃ c < 4, f = ovfFld true c) ∨ (∃ c < 4, f = ovfFld false c) ∨ f = ETH_TAPSTAT_OVRSEEN := by decide +kernel

theorem evtStat_mem_w1cFlds : ∀ g < 24, EVT_STAT_STAT g ∈ w1cFlds := by decide +kernel

theorem ne_zero_of_bitOf {x i : Nat} (h : bitOf x i = true) : x ≠ 0 := by
  rintro rfl
  simp [bitOf_eq_testBit] at h

/-- In a register that goes by the types of its fields, the bit stands. -/
theorem genericW_hw_bit (s : State) (f : Fld) (v hw i : Nat) (hf : f ∈ w1cFlds) (hi : i < f.width)
    (hm : bitOf (s.implMask f.addr) (f.lo + i) = true) (hh : bitOf hw (f.lo + i) = true) :
    bitOf ((s.genericW f.addr v hw).get f) i = true := by
  obtain ⟨hmem, ht, hc, -, -⟩ := w1cFlds_fields f hf
  rw [State.genericW_of_noClr _ _ _ _ hc]
  exact s.plainW_hw_bit _ v hw i f hmem ht hi hm hh

/-- A source of EVT_STAT that occurs in the cycle of the write has its bit. -/
theorem evtStatW_hw_bit (s : State) (g v hw i : Nat) (hg : g < 24) (hi : i < 32)
    (hm : bitOf (s.implMask (0x500 + 4 * g)) i = true) (ho : i ∈ s.occurring g hw) :
    bitOf ((s.evtStatW g v hw).get (EVT_STAT_STAT g)) i = true := by
  have ha : (EVT_STAT_STAT g).addr = 0x500 + 4 * g := by simp only [EVT_STAT_STAT]; omega
  have hz : (EVT_STAT_STAT g).lo + i = i := Nat.zero_add i
  rw [State.evtStatW_eq, ← ha]
  refine genericW_hw_bit _ _ _ _ _ (evtStat_mem_w1cFlds g hg) hi ?_ ?_
  · rw [hz, ha, State.implMask_congr (foldl_raise_fuses g _ s)]
    exact hm
  · rw [hz, bitOf_eq_testBit, testBit_sumN_two_pow _ (s.occurring_rising g hw)]
    exact ho

/-- OVF of a mailbox channel stands. -/
theorem ovf_hw_bit (s : State) (r : Requester) (up : Bool) (c v hw i : Nat) (hc : c < 4) (hf : ovfFld up c ∈ w1cFlds)
    (hi : i < (ovfFld up c).width) (hm : bitOf (s.implMask (ovfFld up c).addr) ((ovfFld up c).lo + i) = true)
    (hh : bitOf hw ((ovfFld up c).lo + i) = true) :
    bitOf ((s.regPut r (ovfFld up c).addr v hw).get (ovfFld up c)) i = true := by
  obtain ⟨hmem, ht, -, -, -⟩ := w1cFlds_fields _ hf
  have hbit := s.plainW_hw_bit _ (v % 2 ^ 32) hw i _ hmem ht hi hm hh
  have ha : (ovfFld up c).addr = ctlReg up c := by
    cases up <;> simp [ovfFld, ctlReg, MBX_UPCTL_OVF, MBX_DNCTL_OVF] <;> omega
  have hwd : (ovfFld up c).width = 1 := by cases up <;> rfl
  obtain rfl : i = 0 := by omega
  rw [ha] at hbit ⊢
  have hlt : (s.plainW (ctlReg up c) (v % 2 ^ 32) hw).get (ovfFld up c) < 2 := by
    rw [s.plainW_get _ _ _ _ (ha ▸ hmem), State.writeOne, if_neg (by simp [ht]),
      State.writeFld_get_w1c _ _ _ _ ht, hwd]
    exact Nat.mod_lt _ (by decide)
  have h1 : (s.plainW (ctlReg up c) (v % 2 ^ 32) hw).get (ovfFld up c) = 1 := by
    have h0 := ne_zero_of_bitOf hbit
    omega
  rw [s.regPut_mbxCtl_ovf r up c v hw hc h1]
  rfl

/-- Settles O45: by where the write of the register goes. -/
theorem hardwareSetBitsSurviveTheirClearing : Obligations.HardwareSetBitsSurviveTheirClearing := by
  intro s r v hw f i hf hi hp hm hv hh hev
  obtain ⟨hmem, ht, -, ha, h4⟩ := w1cFlds_fields f hf
  refine ⟨_, exec_registerWrite_word r f.addr v hw s ha h4 hp, ?_⟩
  obtain hb | ⟨g, hg, rfl⟩ | ⟨n, hn, hna⟩ | ⟨b, hb, hba⟩ | ⟨c, hc, rfl⟩ | ⟨c, hc, rfl⟩ | rfl := w1cFlds_places f hf
  · rw [s.regPut_byType r f.addr _ _ hb]
    exact genericW_hw_bit s f _ _ i hf hi hm hh
  · have ha : (EVT_STAT_STAT g).addr = 0x500 + 4 * g := by simp only [EVT_STAT_STAT]; omega
    have hz : (EVT_STAT_STAT g).lo + i = i := Nat.zero_add i
    rw [ha, hz] at hm
    rw [hz] at hh
    obtain ⟨he, hn⟩ := hev (by omega) (by omega)
    rw [show 8 * ((EVT_STAT_STAT g).addr - 0x500) + i = 32 * g + i by omega] at he hn
    rw [ha, s.regPut_evtStat _ _ _ _ hg]
    exact evtStatW_hw_bit s g _ _ i hg hi hm ((s.mem_occurring g _ i).mpr ⟨hi, hh, he, hn⟩)
  · rw [hna, s.regPut_cvstat r n _ _ hn (hna ▸ ne_zero_of_bitOf hm), ← hna]
    exact genericW_hw_bit s f _ _ i hf hi hm hh
  · rw [hba, s.regPut_trctl r b _ _ hb (hba ▸ ne_zero_of_bitOf hm), ← hba]
    exact s.plainW_hw_bit _ _ _ i f hmem ht hi hm hh
  · exact ovf_hw_bit s r true c _ _ i hc hf hi hm hh
  · exact ovf_hw_bit s r false c _ _ i hc hf hi hm hh
  · rw [show ETH_TAPSTAT_OVRSEEN.addr = 0xC098 from rfl, s.regPut_tapStat, State.tapShow_get_ovrSeen]
    exact genericW_hw_bit s _ _ _ i hf hi hm hh

end Sys2Proof
end

section
/-! SUPPORT. The count of an event source: what an occurrence adds to it, and what leaves it as it was (R349). -/

namespace Sys2Proof.Machine

open Reg

/-- The place of a source's count: a byte of its own in EVT_CNT. -/
theorem cntFld_key {n : Nat} (hn : n < 768) : (cntFld n).key = 32 * (0x900 + 4 * (n / 4)) + 8 * (n % 4) := by
  have hq : n / 4 % 192 = n / 4 := Nat.mod_eq_of_lt (by omega)
  obtain h | h | h | h : n % 4 = 0 ∨ n % 4 = 1 ∨ n % 4 = 2 ∨ n % 4 = 3 := by omega
  all_goals simp only [cntFld, h, Fld.key, EVT_CNT_CNT0, EVT_CNT_CNT1, EVT_CNT_CNT2, EVT_CNT_CNT3, hq]

theorem cntFld_width (n : Nat) : (cntFld n).width = 8 := by
  unfold cntFld
  split <;> rfl

theorem State.pushLog_cnt (s : State) (m : Nat) (fw fo : Bool) (rep st a b c n : Nat) (hn : n < 768) :
    (s.pushLog m fw fo rep st a b c).1.get (cntFld n) = s.get (cntFld n) := by
  have hk := cntFld_key hn
  have e1 : (cntFld n).key ≠ EVT_LOGHEAD_NEXT.key := by rw [hk]; simp only [Fld.key, EVT_LOGHEAD_NEXT]; omega
  have e2 : (cntFld n).key ≠ EVT_LOGSEQ_SEQ.key := by rw [hk]; simp only [Fld.key, EVT_LOGSEQ_SEQ]; omega
  have e3 : (cntFld n).key ≠ EVT_FLASHPOS_PEND.key := by rw [hk]; simp only [Fld.key, EVT_FLASHPOS_PEND]; omega
  have e4 : (cntFld n).key ≠ EVT_LOGLOST_COUNT.key := by rw [hk]; simp only [Fld.key, EVT_LOGLOST_COUNT]; omega
  have e5 : (cntFld n).key ≠ MEM_TESTABORTS_COUNT.key := by rw [hk]; simp only [Fld.key, MEM_TESTABORTS_COUNT]; omega
  have hset : ∀ (t : State) (p : Nat),
      (((t.incr EVT_LOGHEAD_NEXT).incr EVT_LOGSEQ_SEQ).set EVT_FLASHPOS_PEND p).get (cntFld n) = t.get (cntFld n) := by
    intro t p
    rw [State.get_set_ne _ _ _ _ e3, State.incr_eq, State.get_set_ne _ _ _ _ e2, State.incr_eq,
      State.get_set_ne _ _ _ _ e1]
  have hwords : ∀ (t : State) (l : List Nat) (w : Nat),
      (l.foldl (fun (t : State) i => t.wordWritten 56 (4 * w + i)) t).get (cntFld n) = t.get (cntFld n) :=
    fun t l w => foldl_get _ _ (fun t i => t.wordWritten_get _ _ _ e5) l t
  simp only [State.pushLog]
  split
  · rw [State.bump_eq, State.get_set_ne _ _ _ _ e4, hset, hwords, State.get_with_evt]
  · rw [hset, hwords, State.get_with_evt]

theorem State.logOccur_cnt (s : State) (m : Nat) (fo : Bool) (st n : Nat) (hn : n < 768) :
    (s.logOccur m fo st).1.get (cntFld n) = s.get (cntFld n) := by
  simp only [State.logOccur]
  split
  · rw [State.get_with_evt]
  · rw [State.pushLog_cnt _ _ _ _ _ _ _ _ _ _ hn, State.get_with_evt]

/-- What an occurrence leaves in the count of a source: one more in its own, where it can assert. -/
theorem State.occurCore_cnt (s : State) (m : Nat) (fo : Bool) (st n : Nat) (hn : n < 768) :
    (s.occurCore m fo st).1.get (cntFld n) =
      if n = m ∧ (s.srcExists m && (fo || s.srcEnabled m)) = true then satAdd 8 (s.get (cntFld n)) 1 % 2 ^ 8
      else s.get (cntFld n) := by
  unfold State.occurCore
  by_cases hc : (s.srcExists m && (fo || s.srcEnabled m)) = true
  · have hm : m < 768 := srcExists_lt s m (by simp at hc; exact hc.1)
    have hstat : (cntFld n).key ≠ (EVT_STAT_STAT (m / 32)).key := by
      rw [cntFld_key hn]; simp only [Fld.key, EVT_STAT_STAT]; omega
    have hbump : ((s.setBit (EVT_STAT_STAT (m / 32)) (m % 32)).bump (cntFld m)).get (cntFld n) =
        if n = m then satAdd 8 (s.get (cntFld n)) 1 % 2 ^ 8 else s.get (cntFld n) := by
      rw [State.bump_eq, State.setBit_eq]
      split
      · subst m
        rw [State.get_set, State.get_set_ne _ _ _ _ hstat, cntFld_width]
      · have hne : (cntFld n).key ≠ (cntFld m).key := by rw [cntFld_key hn, cntFld_key hm]; omega
        rw [State.get_set_ne _ _ _ _ hne, State.get_set_ne _ _ _ _ hstat]
    have hpins : ∀ (t : State) (r : Nat), ((List.range 4).foldl
        (fun (t : State) i => if bitOf r (2 + i) then t.pinOccur i else t) t).get (cntFld n) = t.get (cntFld n) := by
      refine fun t r => foldl_get _ _ (fun t i => ?_) _ t
      split
      · exact t.pinOccur_get i _
      · rfl
    simp only [hc, and_true, if_true, ← hbump]
    split <;> split
    · rw [State.logOccur_cnt _ _ _ _ _ hn, hpins]
    · rw [hpins]
    · rw [State.logOccur_cnt _ _ _ _ _ hn, hpins, State.get_with_evt]
    · rw [hpins, State.get_with_evt]
  · rw [if_neg hc, if_neg (fun h => hc h.2)]

/-- An occurrence of a source that can assert counts, LOG_LOST alone excepted, which its own log entry may raise. -/
theorem State.occurAt_cnt (s : State) (n : Nat) (fo : Bool) (st : Nat) (he : s.srcExists n = true)
    (hn : (fo || s.srcEnabled n) = true) (hl : n ≠ Src.logLost) :
    (s.occurAt n fo st).get (cntFld n) = satAdd 8 (s.get (cntFld n)) 1 % 2 ^ 8 := by
  have hlt := srcExists_lt s n he
  have hone : (s.occurCore n fo st).1.get (cntFld n) = satAdd 8 (s.get (cntFld n)) 1 % 2 ^ 8 := by
    rw [State.occurCore_cnt _ _ _ _ _ hlt, if_pos ⟨rfl, by rw [he, hn]; rfl⟩]
  simp only [State.occurAt]
  split
  · rw [State.occurCore_cnt _ _ _ _ _ hlt, if_neg (fun h => hl h.1), hone]
  · exact hone

end Sys2Proof.Machine
end

section
/-! SUPPORT. Plain registers: a write by the types of the fields, an occurrence in the cycle of the write of an event
status register, and offsets where nothing is implemented (R12, R14, R15). -/

namespace Sys2Proof

open Sys2Proof.Machine Sys2Proof.Machine.Reg

/-! ### The plain registers -/

theorem plainRegs_facts : ∀ a ∈ plainRegs, a < 0x10000 ∧ a % 4 = 0 ∧ hasClr a = false ∧ noLive a = true ∧
    (a < 0x4000 ∨ 0x6800 ≤ a ∧ a < 0x9000 ∨ 0xA800 ≤ a ∧ a < 0xB010) ∧
    (byType a = true ∨ ∃ g < 24, a = 0x500 + 4 * g) := by decide +kernel

/-- Every variant implements the whole register. -/
theorem implMask_whole (s : State) (a : Nat)
    (h : a < 0x4000 ∨ 0x6800 ≤ a ∧ a < 0x9000 ∨ 0xA800 ≤ a ∧ a < 0xB010) : s.implMask a = 2 ^ 32 - 1 := by
  simp only [State.implMask]
  split
  · rfl
  · iterate 4 rw [if_neg (by omega)]
    rfl

theorem occurring_zero (s : State) (g : Nat) : s.occurring g 0 = [] :=
  List.eq_nil_iff_forall_not_mem.mpr fun i hi => by
    obtain ⟨-, h, -⟩ := (s.mem_occurring g 0 i).mp hi
    exact ne_zero_of_bitOf h rfl

/-- The write of a plain register goes by the types of its fields; at an event status register, where no source occurs
in its cycle. -/
theorem regPut_plainReg (s : State) (r : Requester) (a v hw : Nat) (ha : a ∈ plainRegs)
    (hev : 0x500 ≤ a → a < 0x560 → hw = 0) : s.regPut r a v hw = s.plainW a (v % 2 ^ 32) hw := by
  obtain ⟨-, -, hc, -, -, hb | ⟨g, hg, rfl⟩⟩ := plainRegs_facts a ha
  · rw [s.regPut_byType r a v hw hb, State.genericW_of_noClr _ _ _ _ hc]
  · obtain rfl := hev (by omega) (by omega)
    rw [s.regPut_evtStat r g v 0 hg, State.evtStatW_eq, occurring_zero]
    exact State.genericW_of_noClr _ _ _ _ hc

/-- A field of a plain register takes a word by its type. -/
theorem plainW_get_plainReg (s : State) (a : Nat) (v hw : Word) (ha : a ∈ plainRegs) (f : Fld) (hf : f ∈ fieldsAt a) :
    (s.plainW a v.toNat hw.toNat).get f = (s.writeFld v.toNat hw.toNat f).get f := by
  obtain ⟨-, -, -, hl, hm, -⟩ := plainRegs_facts a ha
  have hand : ∀ w : Word, w.toNat &&& (2 ^ 32 - 1) = w.toNat := fun w => by
    rw [Nat.and_two_pow_sub_one_eq_mod, Nat.mod_eq_of_lt w.isLt]
  rw [s.plainW_get a _ _ f hf, implMask_whole s a hm, hand, hand,
    State.writeOne_of_not_live _ _ _ _ (not_live_of_noLive hl hf)]

theorem plainReg_write (s : State) (r : Requester) (a : Nat) (v hw : Word) (ha : a ∈ plainRegs)
    (hp : s.protected r a = false) (hev : 0x500 ≤ a → a < 0x560 → hw = 0#32) :
    exec (.registerWrite r a .word v none hw) s = .next (s.plainW a v.toNat hw.toNat) := by
  obtain ⟨hlt, h4, -⟩ := plainRegs_facts a ha
  rw [exec_registerWrite_word r a v hw s hlt h4 hp,
    regPut_plainReg s r a _ _ ha (fun h1 h2 => by rw [hev h1 h2]; rfl), Nat.mod_eq_of_lt v.isLt]

/-! ### An occurrence in the cycle of the write -/

theorem fieldsAt_evtStat : ∀ g < 24, fieldsAt (0x500 + 4 * g) = [EVT_STAT_STAT g] := by decide +kernel

theorem evtStat_mem_plainRegs : ∀ g < 24, 0x500 + 4 * g ∈ plainRegs := by decide +kernel

theorem occurring_one (s : State) (g b : Nat) (hb : b < 32) (he : s.srcExists (32 * g + b) = true)
    (hn : s.srcEnabled (32 * g + b) = true) : s.occurring g (2 ^ b) = [b] := by
  refine List.perm_singleton.mp ((List.perm_ext_iff_of_nodup
    ((s.occurring_rising g _).imp Nat.ne_of_lt) (List.nodup_singleton b)).mpr fun i => ?_)
  rw [s.mem_occurring, List.mem_singleton, bitOf_eq_testBit, Nat.testBit_two_pow]
  constructor
  · rintro ⟨-, h, -, -⟩
    exact (of_decide_eq_true h).symm
  · rintro rfl
    exact ⟨hb, decide_eq_true rfl, he, hn⟩

/-- The write of an event status register in the cycle of an occurrence: the occurrence, then the write. -/
theorem regPut_evtStat_one (s : State) (r : Requester) (g b v : Nat) (hg : g < 24) (hb : b < 32)
    (he : s.srcExists (32 * g + b) = true) (hn : s.srcEnabled (32 * g + b) = true) :
    s.regPut r (0x500 + 4 * g) v (2 ^ b) = (s.raise (32 * g + b)).plainW (0x500 + 4 * g) (v % 2 ^ 32) (2 ^ b) := by
  obtain ⟨-, -, hc, -⟩ := plainRegs_facts _ (evtStat_mem_plainRegs g hg)
  rw [s.regPut_evtStat r g v _ hg, State.evtStatW_eq, occurring_one s g b hb he hn,
    State.genericW_of_noClr _ _ _ _ hc]
  simp [sumN]

/-- The write of an event status register leaves every other register. -/
theorem plainW_evtStat_get_ne (s : State) (g v hw : Nat) (hg : g < 24) (f : Fld)
    (hf : f.key ≠ (EVT_STAT_STAT g).key) : (s.plainW (0x500 + 4 * g) v hw).get f = s.get f := by
  refine s.plainW_get_ne _ v hw f ?_
  rw [fieldsAt_evtStat g hg]
  simpa using hf

/-- The source that occurs in the cycle of the write has its status bit after it. -/
theorem regPut_evtStat_status (s : State) (r : Requester) (g b v : Nat) (hg : g < 24) (hb : b < 32)
    (he : s.srcExists (32 * g + b) = true) (hn : s.srcEnabled (32 * g + b) = true) :
    (s.regPut r (0x500 + 4 * g) v (2 ^ b)).srcStatus (32 * g + b) = true := by
  obtain ⟨-, -, -, -, hm, -⟩ := plainRegs_facts _ (evtStat_mem_plainRegs g hg)
  have hbit : bitOf (s.implMask (0x500 + 4 * g)) b = true := by
    rw [implMask_whole s _ hm, bitOf_eq_testBit, Nat.testBit_two_pow_sub_one]
    exact decide_eq_true hb
  have hocc : b ∈ s.occurring g (2 ^ b) := by
    rw [occurring_one s g b hb he hn]
    exact List.mem_singleton_self b
  rw [State.srcStatus, show (32 * g + b) / 32 = g by omega, show (32 * g + b) % 32 = b by omega,
    s.regPut_evtStat r g v _ hg]
  exact evtStatW_hw_bit s g _ _ b hg hb hbit hocc

/-- A change of registers after a change of registers, events and memory accesses. -/
theorem frame_regs_after {s t u : State} (ht : t = { s with regs := t.regs, evt := t.evt, mem := t.mem })
    (hu : u = { t with regs := u.regs }) : u = { s with regs := u.regs, evt := u.evt, mem := u.mem } := by
  rw [hu]
  generalize u.regs = m
  rw [ht]

/-! ### Offsets where nothing is implemented -/

theorem own_registers_implemented : (∀ a ∈ ownMeaning, fieldsAt a ≠ []) ∧ (∀ g < 24, fieldsAt (0x500 + 4 * g) ≠ []) ∧
    ∀ g < 24, fieldsAt (0x580 + 4 * g) ≠ [] := by decide +kernel

theorem byType_of_unimplemented (a : Nat) (h4 : a % 4 = 0) (hf : fieldsAt a = [])
    (hb : 0x400 ≤ a ∧ a < 0x1800 ∨ 0x7000 ≤ a ∧ a < 0x7400 ∨ 0xB000 ≤ a ∧ a < 0xB800) : byType a = true := by
  obtain ⟨ho, hs, hfo⟩ := own_registers_implemented
  refine Bool.or_eq_true_iff.mpr (.inr (decide_eq_true ⟨by omega, fun h => ho a h hf, fun h => ?_, fun h => ?_⟩))
  · refine hs ((a - 0x500) / 4) (by omega) ?_
    rwa [show 0x500 + 4 * ((a - 0x500) / 4) = a by omega]
  · refine hfo ((a - 0x580) / 4) (by omega) ?_
    rwa [show 0x580 + 4 * ((a - 0x580) / 4) = a by omega]

/-- Settles O46: plain registers, an occurrence in the cycle of the write, unimplemented offsets. -/
theorem plainRegistersTakeAWriteByFieldType : Obligations.PlainRegistersTakeAWriteByFieldType := by
  refine ⟨fun s r a v hw ha hp hev => ?_, fun s r g b v hg hb hp he hn => ?_, fun s r a v hw h4 hf hb hp => ?_⟩
  · refine ⟨_, plainReg_write s r a v hw ha hp hev, fun f hf => ?_, ?_, fun f h => s.plainW_get_ne a _ _ f h⟩
    · rw [plainW_get_plainReg s a v hw ha f hf]
      exact ⟨s.writeFld_get_rw _ _ f, s.writeFld_get_w1c _ _ f, s.writeFld_get_ro _ _ f⟩
    · obtain ⟨-, -, -, hl, -⟩ := plainRegs_facts a ha
      exact s.plainW_eq a _ _ hl
  · obtain ⟨hlt, h4, -, hl, -⟩ := plainRegs_facts _ (evtStat_mem_plainRegs g hg)
    have hpow : (BitVec.ofNat 32 (2 ^ b)).toNat = 2 ^ b :=
      Nat.mod_eq_of_lt (Nat.pow_lt_pow_right (by decide) hb)
    refine ⟨_, exec_registerWrite_word r _ v _ s hlt h4 hp, ?_⟩
    rw [hpow]
    refine ⟨regPut_evtStat_status s r g b _ hg hb he hn, ?_⟩
    rw [regPut_evtStat_one s r g b _ hg hb he hn]
    refine ⟨fun hlog => ?_, frame_regs_after (s.raise_keeps _).frame (State.plainW_eq _ _ _ _ hl), fun f hev _ => ?_⟩
    · have hk : (cntFld (32 * g + b)).key ≠ (EVT_STAT_STAT g).key := by
        rw [cntFld_key (srcExists_lt s _ he)]
        simp only [Fld.key, EVT_STAT_STAT]
        omega
      rw [plainW_evtStat_get_ne _ g _ _ hg _ hk]
      exact s.occurAt_cnt _ false s.time he (by rw [hn]; rfl) hlog
    · have hk : f.key ≠ (EVT_STAT_STAT g).key := by
        obtain ⟨hk, -⟩ := hev
        simp only [Fld.key, EVT_STAT_STAT] at hk ⊢
        omega
      rw [plainW_evtStat_get_ne _ g _ _ hg f hk]
      exact s.raise_get _ f hev
  · have hlt : a < 0x10000 := by omega
    refine ⟨_, exec_registerWrite_word r a v hw s hlt h4 hp, ?_⟩
    rw [s.regPut_byType r a _ _ (byType_of_unimplemented a h4 hf hb)]
    exact s.genericW_unimplemented a _ _ hf

end Sys2Proof
end

section
/-! SUPPORT. The guard of a register write (R339), and what a chain of field writes leaves of the registers. -/

namespace Sys2Proof.Machine

open Reg

theorem State.guardW_of_unprotected (s : State) (r : Requester) (a : Nat) (f : State → State)
    (h : s.protected r a = false) : s.guardW r a f = f s := by
  rw [State.guardW, h]
  rfl

theorem State.guardTile_of_present (s : State) (r : Requester) (n off : Nat) (f : State → State)
    (h : s.protected r (0x4000 + 0x100 * n + off) = false) (hn : n < s.nTiles) : s.guardTile r n off f = f s := by
  rw [State.guardTile, s.guardW_of_unprotected _ _ _ h, if_pos hn]

theorem State.guardTile_of_absent (s : State) (r : Requester) (n off : Nat) (f : State → State)
    (h : s.protected r (0x4000 + 0x100 * n + off) = false) (hn : s.nTiles ≤ n) : s.guardTile r n off f = s := by
  rw [State.guardTile, s.guardW_of_unprotected _ _ _ h, if_neg (by omega)]

/-- A write that R339 lets through answers what it carries out. -/
theorem State.guardW_answers {s : State} {r : Requester} {a : Nat} {f : State → State} {P : State → Prop}
    (h : s.protected r a = false) (hP : P (f s)) : ∃ t, ok (s.guardW r a f) = .next t ∧ P t :=
  ⟨f s, congrArg ok (s.guardW_of_unprotected r a f h), hP⟩

/-! ### Registers but the listed ones -/

theorem regsBut.refl (l : List Fld) (s : State) : regsBut l s s := fun _ _ => rfl

/-- A write of a listed field. -/
theorem regsBut.set {l : List Fld} {s t : State} {f : Fld} {v : Nat} (h : regsBut l s t) (hf : f ∈ l) :
    regsBut l s (t.set f v) := fun g hg => (t.get_set_ne f g v (hg f hf)).trans (h g hg)

theorem regsBut_set_pair (s : State) (f g : Fld) (v w : Nat) : regsBut [f, g] s ((s.set f v).set g w) :=
  ((regsBut.refl _ s).set List.mem_cons_self).set (List.mem_cons_of_mem _ List.mem_cons_self)

theorem regsBut.ite {l : List Fld} {s t u : State} {c : Prop} [Decidable c] (ht : regsBut l s t)
    (hu : regsBut l s u) : regsBut l s (if c then t else u) := by
  split <;> assumption

/-- Registers go by the part of State that holds them. -/
theorem regsBut.of_regs_eq {l : List Fld} {s t u : State} (h : regsBut l s t) (hu : u.regs = t.regs) :
    regsBut l s u := fun g hg => by
  rw [← h g hg, State.get, State.get, hu]

/-! ### Tiles -/

theorem State.tile_setTile (s : State) (n m : Nat) (x : Tile) :
    (s.setTile n x).tile m = if m = n then x else s.tile m := mget_mset _ _ _ _ _

@[simp] theorem State.tile_setTile_self (s : State) (n : Nat) (x : Tile) : (s.setTile n x).tile n = x :=
  (s.tile_setTile n n x).trans (if_pos rfl)

theorem State.tile_setTile_ne (s : State) (n m : Nat) (x : Tile) (h : m ≠ n) : (s.setTile n x).tile m = s.tile m :=
  (s.tile_setTile n m x).trans (if_neg h)

@[simp] theorem State.tile_set (s : State) (f : Fld) (v n : Nat) : (s.set f v).tile n = s.tile n := rfl

theorem regsBut.setTile {l : List Fld} {s t : State} (h : regsBut l s t) (n : Nat) (x : Tile) :
    regsBut l s (t.setTile n x) := h

/-! ### Staging -/

@[simp] theorem State.get_stagePut (s : State) (w : Setting) (f : Fld) : (s.stagePut w).get f = s.get f := rfl

theorem regsBut.stagePut {l : List Fld} {s t : State} (h : regsBut l s t) (w : Setting) : regsBut l s (t.stagePut w) :=
  h

/-- A register write after a change of registers and of what is staged. -/
theorem staged_frame_set {s t : State} (f : Fld) (v : Nat)
    (h : t = { s with regs := t.regs, sensor := { s.sensor with staged := t.sensor.staged } }) : t.set f v =
      { s with regs := (t.set f v).regs, sensor := { s.sensor with staged := (t.set f v).sensor.staged } } :=
  congrArg (fun u : State => { u with regs := (t.set f v).regs }) h

/-- A field's part of a word fits the field. -/
theorem fldOf_mod (f : Fld) (v : Word) : fldOf f v % 2 ^ f.width = fldOf f v := Nat.mod_mod _ _

theorem State.flag_iff (s : State) (f : Fld) : s.flag f = true ↔ s.get f = 1 := beq_iff_eq

end Sys2Proof.Machine
end

section
/-! SUPPORT. Writes of the stage's registers (R29, R31, R35, R38, R42, R53, R60, R61). -/

namespace Sys2Proof

open Sys2Proof.Machine Sys2Proof.Machine.Reg

theorem askTables_eq (s : State) :
    s.askTables = { s with braid := { s.braid with busy := s.braid.busy || s.flag BRD_CTRL_AUTO } } := by
  unfold State.askTables
  cases s.flag BRD_CTRL_AUTO <;> simp

/-- CFGERR is set and nothing else. -/
theorem cfgErr_alone (s : State) : s.cfgErr.get STG_STAT_CFGERR = 1 ∧ s.cfgErr = { s with regs := s.cfgErr.regs } ∧
    regsBut [STG_STAT_CFGERR] s s.cfgErr :=
  ⟨State.get_set s _ 1, rfl, (regsBut.refl _ s).set List.mem_cons_self⟩

theorem stgFrateW_taken (s : State) (v : Word) (hm : s.notMaster = false) (hlo : 2000 ≤ fldOf STG_FRATE_RATE v)
    (hhi : fldOf STG_FRATE_RATE v ≤ 12000) : s.stgFrateW v = (((s.set STG_FRATE_RATE (fldOf STG_FRATE_RATE v)).set
      STG_FRATE_PEND 1).stagePut (.frate (fldOf STG_FRATE_RATE v))).askTables :=
  if_neg (by rw [hm, Bool.false_or, decide_eq_true_eq]; omega)

theorem stgFrateW_refused (s : State) (v : Word)
    (h : s.notMaster = true ∨ fldOf STG_FRATE_RATE v < 2000 ∨ 12000 < fldOf STG_FRATE_RATE v) :
    s.stgFrateW v = s.cfgErr :=
  if_pos (by rwa [Bool.or_eq_true, decide_eq_true_eq])

theorem stgSetptW_taken (s : State) (v : Word) (hlo : 35000 ≤ fldOf STG_SETPT_SETPT v)
    (hhi : fldOf STG_SETPT_SETPT v ≤ 65000) : s.stgSetptW v = s.set STG_SETPT_SETPT (fldOf STG_SETPT_SETPT v) :=
  if_neg (by omega)

theorem stgSetptW_refused (s : State) (v : Word)
    (h : fldOf STG_SETPT_SETPT v < 35000 ∨ 65000 < fldOf STG_SETPT_SETPT v) :
    s.stgSetptW v = s.cfgErr :=
  if_pos h

/-- The enables of STG_CTRL as a write leaves them: with HTR_EN 0 the heater's power is 0. -/
def enablesWritten (s : State) (v : Word) : State :=
  let s := ((s.set STG_CTRL_BIAS_EN (fldOf STG_CTRL_BIAS_EN v)).stagePut (.biasEn (fldOf STG_CTRL_BIAS_EN v == 1))).set
    STG_CTRL_HTR_EN (fldOf STG_CTRL_HTR_EN v)
  if s.flag STG_CTRL_HTR_EN then s else s.set STG_HTRPWR_POWER 0

theorem enablesWritten_staged (s : State) (v : Word) : (enablesWritten s v).sensor.staged =
    s.sensor.staged ++ [⟨.biasEn (fldOf STG_CTRL_BIAS_EN v == 1), s.time, none, false⟩] := by
  rw [enablesWritten]
  split <;> rfl

theorem enablesWritten_frame (s : State) (v : Word) : enablesWritten s v = { s with
    regs := (enablesWritten s v).regs, sensor := { s.sensor with staged := (enablesWritten s v).sensor.staged } } := by
  rw [enablesWritten]
  split <;> rfl

theorem enablesWritten_biasEn (s : State) (v : Word) :
    (enablesWritten s v).get STG_CTRL_BIAS_EN = fldOf STG_CTRL_BIAS_EN v := by
  rw [enablesWritten]
  split <;> simp (disch := decide) only [State.get_set, State.get_set_ne, State.get_stagePut, fldOf_mod]

theorem enablesWritten_htrEn (s : State) (v : Word) :
    (enablesWritten s v).get STG_CTRL_HTR_EN = fldOf STG_CTRL_HTR_EN v := by
  rw [enablesWritten]
  split <;> simp (disch := decide) only [State.get_set, State.get_set_ne, fldOf_mod]

theorem enablesWritten_power (s : State) (v : Word) (h : fldOf STG_CTRL_HTR_EN v = 0) :
    (enablesWritten s v).get STG_HTRPWR_POWER = 0 := by
  have hoff : State.flag (((s.set STG_CTRL_BIAS_EN (fldOf STG_CTRL_BIAS_EN v)).stagePut
      (.biasEn (fldOf STG_CTRL_BIAS_EN v == 1))).set STG_CTRL_HTR_EN (fldOf STG_CTRL_HTR_EN v))
        STG_CTRL_HTR_EN ≠ true := by
    rw [Ne, State.flag_iff, State.get_set, fldOf_mod, h]
    decide
  rw [enablesWritten, if_neg hoff, State.get_set]
  rfl

theorem enablesWritten_regsBut (s : State) (v : Word) :
    regsBut [STG_CTRL_BIAS_EN, STG_CTRL_HTR_EN, STG_HTRPWR_POWER] s (enablesWritten s v) :=
  have h := (((regsBut.refl _ s).set (by simp)).stagePut _).set (by simp)
  h.ite (h.set (by simp))

/-- While sorting is stopped a write of STG_CTRL leaves the reversal bits as written. -/
theorem stgCtrlW_stopped (s : State) (v : Word) (hm : s.mode ≠ 3) : s.stgCtrlW v =
    if fldOf STG_CTRL_ROWREV v = (enablesWritten s v).get STG_CTRL_ROWREV ∧
      fldOf STG_CTRL_COLREV v = (enablesWritten s v).get STG_CTRL_COLREV then enablesWritten s v
    else ((enablesWritten s v).set STG_CTRL_ROWREV (fldOf STG_CTRL_ROWREV v)).set STG_CTRL_COLREV
      (fldOf STG_CTRL_COLREV v) := by
  have hs : (enablesWritten s v).sorting = false := by
    rw [State.sorting, State.mode, enablesWritten_regsBut s v GLB_STAT_STATE (by decide)]
    exact beq_eq_false_iff_ne.mpr hm
  show (if _ then enablesWritten s v else if (enablesWritten s v).sorting = true then _ else _) = _
  rw [hs]
  rfl

/-- Settles O15: what each write stages and sets, by the guard of R339 and the ranges. -/
theorem stageRegisterWritesStageTheirSettings : Obligations.StageRegisterWritesStageTheirSettings := by
  refine ⟨fun s r v hp hm => State.guardW_answers hp ?_, fun s r v hp hm hlo hhi => State.guardW_answers hp ?_,
    fun s r v hp hbad => State.guardW_answers hp ?_, fun s r v hp => State.guardW_answers hp ?_,
    fun s r v hp hlo hhi => State.guardW_answers hp ?_, fun s r v hp hbad => State.guardW_answers hp ?_⟩
  · have hframe := enablesWritten_frame s v
    have hregs : regsBut [STG_CTRL_BIAS_EN, STG_CTRL_HTR_EN, STG_CTRL_ROWREV, STG_CTRL_COLREV, STG_HTRPWR_POWER] s
        (enablesWritten s v) := fun f hf => enablesWritten_regsBut s v f (by simp at hf ⊢; tauto)
    simp only [stgCtrlW_stopped s v hm]
    split
    next h =>
      exact ⟨enablesWritten_staged s v, enablesWritten_biasEn s v, enablesWritten_htrEn s v, h.1.symm, h.2.symm,
        enablesWritten_power s v, hframe, hregs⟩
    next h =>
      refine ⟨enablesWritten_staged s v, ?_, ?_, ?_, ?_, fun h0 => ?_, ?_, (hregs.set (by simp)).set (by simp)⟩
      · simp (disch := decide) only [State.get_set_ne, enablesWritten_biasEn]
      · simp (disch := decide) only [State.get_set_ne, enablesWritten_htrEn]
      · simp (disch := decide) only [State.get_set, State.get_set_ne, fldOf_mod]
      · simp only [State.get_set, fldOf_mod]
      · simp (disch := decide) only [State.get_set_ne, enablesWritten_power s v h0]
      · exact staged_frame_set _ _ (staged_frame_set _ _ hframe)
  · simp only [stgFrateW_taken s v hm hlo hhi, askTables_eq]
    refine ⟨rfl, ?_, State.get_set _ _ 1, ?_, rfl,
      (regsBut_set_pair s STG_FRATE_RATE STG_FRATE_PEND (fldOf STG_FRATE_RATE v) 1).of_regs_eq rfl⟩
    · show State.get ((s.set STG_FRATE_RATE _).set STG_FRATE_PEND 1) STG_FRATE_RATE = _
      rw [State.get_set_ne _ _ _ _ (by decide), State.get_set, fldOf_mod]
    · have hauto : State.flag (((s.set STG_FRATE_RATE (fldOf STG_FRATE_RATE v)).set STG_FRATE_PEND 1).stagePut
          (.frate (fldOf STG_FRATE_RATE v))) BRD_CTRL_AUTO = s.flag BRD_CTRL_AUTO := by
        simp (disch := decide) only [State.flag, State.get_stagePut, State.get_set_ne]
      rw [hauto]
      rfl
  · simp only [stgFrateW_refused s v hbad]
    exact cfgErr_alone s
  · refine ⟨rfl, ?_, State.get_set _ _ 1, rfl,
      (regsBut_set_pair s STG_BIAS_LEVEL STG_BIAS_PEND (fldOf STG_BIAS_LEVEL v) 1).of_regs_eq rfl⟩
    show State.get ((s.set STG_BIAS_LEVEL _).set STG_BIAS_PEND 1) STG_BIAS_LEVEL = _
    rw [State.get_set_ne _ _ _ _ (by decide), State.get_set, fldOf_mod]
  · simp only [stgSetptW_taken s v hlo hhi]
    exact ⟨(State.get_set s _ _).trans (fldOf_mod _ v), rfl, (regsBut.refl _ s).set List.mem_cons_self⟩
  · simp only [stgSetptW_refused s v hbad]
    exact cfgErr_alone s

end Sys2Proof
end

section
/-! SUPPORT. A state with a stage reading that is wider than its register (R56, R57). -/

namespace Sys2Proof

open Sys2Proof.Machine Sys2Proof.Machine.Reg

/-- Sensor 0 has differed from sensors 1 and 2 in 1,000 reads, and the state lists a reading of 2^20 for both, one more
than the 20 bits of STG_TS.TEMP hold: no write leaves such a reading, but a value of type State may list it. -/
def wideReadings : State := { State.reset with
  regs := [((STG_TS_VALID 0).key, 1), ((STG_TS_TEMP 1).key, 2 ^ 20), ((STG_TS_VALID 1).key, 1),
    ((STG_TS_TEMP 2).key, 2 ^ 20), ((STG_TS_VALID 2).key, 1)]
  stage := { Stage.init with dis := [(0, 1000)] } }

/-- The mean of the two readings left is 2^20, which STG_TEMP.TEMP cuts to its 20 bits. -/
theorem wideReadings_mean_cut : (wideReadings.tsExcludeS 0).get STG_TEMP_TEMP = 0 := by decide +kernel

/-- Refutes O16: the clause of the exclusion gives STG_TEMP.TEMP as the uncut mean for every content of the readings'
registers, and `wideReadings` lists a mean that is wider than the field. -/
theorem not_stageSensorsAreReadAveragedExcludedAndReadmitted :
    ¬ Obligations.StageSensorsAreReadAveragedExcludedAndReadmitted := by
  rintro ⟨-, hexclude, -⟩
  obtain ⟨t, ht, -, -, -, -, hmean, -⟩ :=
    hexclude wideReadings 0 (by decide) (by decide +kernel) (by decide +kernel)
    (by decide +kernel) (by decide +kernel)
  obtain rfl : wideReadings.tsExcludeS 0 = t := Host.Outcome.next.inj ht
  rw [wideReadings_mean_cut] at hmean
  exact absurd hmean (by decide +kernel)

end Sys2Proof
end

section
/-! SUPPORT. Writes of a tile's gain, pixel trim and skimming trims (R38, R39, R41). -/

namespace Sys2Proof

open Sys2Proof.Machine Sys2Proof.Machine.Reg

/-- A write to the window of a tile that the variant has, which R339 lets through, answers what it carries out. -/
theorem guardTile_answers {s : State} {r : Requester} {n off a : Nat} {f : State → State} {P : State → Prop}
    (h : s.protected r a = false) (hn : n < s.nTiles) (ha : 0x4000 + 0x100 * n + off = a) (hP : P (f s)) :
    ∃ t, ok (s.guardTile r n off f) = .next t ∧ P t :=
  ⟨f s, congrArg ok (s.guardTile_of_present r n off f (ha ▸ h) hn), hP⟩

/-- Two fields of one register. -/
theorem key_ne_of_lo {f g : Fld} (ha : f.addr = g.addr) (hl : Nat.beq f.lo g.lo = false) : f.key ≠ g.key := by
  have hne := Nat.ne_of_beq_eq_false hl
  rw [Fld.key, Fld.key, ha]
  omega

theorem nTiles_le (s : State) : s.nTiles ≤ 32 := by
  unfold State.nTiles
  split <;> decide

/-! ### Skimming trims -/

theorem fieldsAt_skim : ∀ n < 32, ∀ i < 16, fieldsAt (0x4020 + 0x100 * n + 4 * i) =
    [TIL_SKIM_TRIM0 n i, TIL_SKIM_TRIM1 n i, TIL_SKIM_TRIM2 n i, TIL_SKIM_TRIM3 n i] := by decide +kernel

theorem implMask_skim (s : State) (n i : Nat) (hn : n < s.nTiles) (hi : i < 16) :
    s.implMask (0x4020 + 0x100 * n + 4 * i) = 2 ^ 32 - 1 := by
  unfold State.nTiles at hn
  simp only [State.implMask]
  split
  · rfl
  next h =>
    rw [if_pos (by simpa using h)] at hn
    iterate 3 rw [if_neg (by omega)]
    rw [if_pos (by omega), if_neg (by omega), if_neg (by omega)]
    rfl

/-- The registers after a write of SKIM: a byte of the word in each lane's trim. -/
def skimsWritten (s : State) (n i : Nat) (v : Word) : State :=
  (((s.set (TIL_SKIM_TRIM0 n i) (bits v.toNat 0 8)).set (TIL_SKIM_TRIM1 n i) (bits v.toNat 8 8)).set
    (TIL_SKIM_TRIM2 n i) (bits v.toNat 16 8)).set (TIL_SKIM_TRIM3 n i) (bits v.toNat 24 8)

/-- Fields of a register that the variant implements whole, each of which takes its part of the word. -/
theorem foldl_writeFld_rw (a : Nat) (v : Word) (l : List Fld) (hl : ∀ f ∈ l, f.ty = .rw) (s : State)
    (hm : s.implMask a = 2 ^ 32 - 1) :
    l.foldl (fun t f => t.writeFld (v.toNat &&& t.implMask a) (0 &&& t.implMask a) f) s =
      l.foldl (fun t f => t.set f (bits v.toNat f.lo f.width)) s := by
  induction l generalizing s with
  | nil => rfl
  | cons f r ih =>
    have hf : s.writeFld (v.toNat &&& s.implMask a) (0 &&& s.implMask a) f = s.set f (bits v.toNat f.lo f.width) := by
      rw [hm, Nat.and_two_pow_sub_one_eq_mod, Nat.mod_eq_of_lt v.isLt]
      simp only [State.writeFld, hl f List.mem_cons_self]
    rw [List.foldl_cons, List.foldl_cons, hf]
    exact ih (fun g hg => hl g (List.mem_cons_of_mem _ hg)) _ hm

theorem writeFlds_skim (s : State) (n i : Nat) (v : Word) (hn : n < s.nTiles) (hi : i < 16) :
    s.writeFlds (0x4020 + 0x100 * n + 4 * i) v.toNat 0 = skimsWritten s n i v := by
  rw [State.writeFlds, fieldsAt_skim n (hn.trans_le (nTiles_le s)) i hi]
  exact foldl_writeFld_rw _ v _ (by simp [TIL_SKIM_TRIM0, TIL_SKIM_TRIM1, TIL_SKIM_TRIM2, TIL_SKIM_TRIM3]) s
    (implMask_skim s n i hn hi)

theorem skimsWritten_get (s : State) (n i : Nat) (v : Word) :
    (skimsWritten s n i v).get (TIL_SKIM_TRIM0 n i) = v.toNat % 256 ∧
    (skimsWritten s n i v).get (TIL_SKIM_TRIM1 n i) = v.toNat / 2 ^ 8 % 256 ∧
    (skimsWritten s n i v).get (TIL_SKIM_TRIM2 n i) = v.toNat / 2 ^ 16 % 256 ∧
    (skimsWritten s n i v).get (TIL_SKIM_TRIM3 n i) = v.toNat / 2 ^ 24 := by
  have hlt := v.isLt
  have h01 : (TIL_SKIM_TRIM0 n i).key ≠ (TIL_SKIM_TRIM1 n i).key := key_ne_of_lo rfl rfl
  have h02 : (TIL_SKIM_TRIM0 n i).key ≠ (TIL_SKIM_TRIM2 n i).key := key_ne_of_lo rfl rfl
  have h03 : (TIL_SKIM_TRIM0 n i).key ≠ (TIL_SKIM_TRIM3 n i).key := key_ne_of_lo rfl rfl
  have h12 : (TIL_SKIM_TRIM1 n i).key ≠ (TIL_SKIM_TRIM2 n i).key := key_ne_of_lo rfl rfl
  have h13 : (TIL_SKIM_TRIM1 n i).key ≠ (TIL_SKIM_TRIM3 n i).key := key_ne_of_lo rfl rfl
  have h23 : (TIL_SKIM_TRIM2 n i).key ≠ (TIL_SKIM_TRIM3 n i).key := key_ne_of_lo rfl rfl
  refine ⟨?_, ?_, ?_, ?_⟩
  · rw [skimsWritten, State.get_set_ne _ _ _ _ h03, State.get_set_ne _ _ _ _ h02, State.get_set_ne _ _ _ _ h01,
      State.get_set]
    simp [TIL_SKIM_TRIM0, bits]
  · rw [skimsWritten, State.get_set_ne _ _ _ _ h13, State.get_set_ne _ _ _ _ h12, State.get_set]
    simp [TIL_SKIM_TRIM1, bits]
  · rw [skimsWritten, State.get_set_ne _ _ _ _ h23, State.get_set]
    simp [TIL_SKIM_TRIM2, bits]
  · rw [skimsWritten, State.get_set]
    simp only [TIL_SKIM_TRIM3, bits]
    omega

theorem skimsWritten_regsBut (s : State) (n i : Nat) (v : Word) :
    regsBut [TIL_SKIM_TRIM0 n i, TIL_SKIM_TRIM1 n i, TIL_SKIM_TRIM2 n i, TIL_SKIM_TRIM3 n i] s (skimsWritten s n i v) :=
  ((((regsBut.refl _ s).set (by simp)).set (by simp)).set (by simp)).set (by simp)

/-! ### Pixel trims -/

/-- The trim of the selected pixel as last written, staged with its PEND. -/
def trimWritten (s : State) (n : Nat) (v : Word) : State :=
  ((s.setTile n { s.tile n with
    trimsW := mset 0 (s.tile n).trimsW (s.get (TIL_PTSEL_INDEX n)) (v.toNat % 32) }).set (TIL_PTDATA_PEND n) 1).stagePut
      (.trim n (s.get (TIL_PTSEL_INDEX n)) (v.toNat % 32))

theorem trimWritten_tile (s : State) (n : Nat) (v : Word) : (trimWritten s n v).tile n = { s.tile n with
    trimsW := mset 0 (s.tile n).trimsW (s.get (TIL_PTSEL_INDEX n)) (v.toNat % 32) } :=
  (s.tile_setTile n n _).trans (if_pos rfl)

theorem trimWritten_get_ne (s : State) (n : Nat) (v : Word) (f : Fld) (h : f.key ≠ (TIL_PTDATA_PEND n).key) :
    (trimWritten s n v).get f = s.get f := (s.setTile n _).get_set_ne _ f 1 h

theorem tilPtdataW_free (s : State) (n : Nat) (v : Word) (h : s.trimsHeld = false) :
    s.tilPtdataW n v = (trimWritten s n v).ptAdvance n := by
  have hv : fldOf (TIL_PTDATA_TRIM n) v = v.toNat % 32 := congrArg (· % 32) (Nat.div_one _)
  rw [State.tilPtdataW, h, hv]
  rfl

theorem tilPtdataW_held (s : State) (n : Nat) (v : Word) (h : s.trimsHeld = true) :
    s.tilPtdataW n v = s.cfgErr.ptAdvance n := by
  rw [State.tilPtdataW, h]
  rfl

theorem ptAdvance_get_index (s : State) (n : Nat) : (s.ptAdvance n).get (TIL_PTSEL_INDEX n) =
    if s.get (TIL_PTSEL_AUTOINC n) = 1 then (s.get (TIL_PTSEL_INDEX n) + 1) % 4096 else s.get (TIL_PTSEL_INDEX n) := by
  rw [State.ptAdvance]
  simp only [State.flag_iff]
  split
  · exact State.get_set _ _ _
  · rfl

theorem ptAdvance_get_ne (s : State) (n : Nat) (f : Fld) (h : f.key ≠ (TIL_PTSEL_INDEX n).key) :
    (s.ptAdvance n).get f = s.get f := by
  rw [State.ptAdvance]
  split
  · exact State.get_set_ne _ _ _ _ h
  · rfl

theorem ptAdvance_frame (s : State) (n : Nat) : s.ptAdvance n = { s with regs := (s.ptAdvance n).regs } := by
  rw [State.ptAdvance]
  split <;> rfl

theorem ptAdvance_sensor (s : State) (n : Nat) : (s.ptAdvance n).sensor = s.sensor := by
  rw [ptAdvance_frame]

theorem ptAdvance_tile (s : State) (n : Nat) : (s.ptAdvance n).tile n = s.tile n := by
  rw [State.tile, ptAdvance_sensor]
  rfl

/-- Settles O17: what a write to a tile's window stages, by whether the trims are held. -/
theorem tileGainTrimAndSkimmingWritesAreStaged : Obligations.TileGainTrimAndSkimmingWritesAreStaged := by
  refine ⟨fun s r n v hp hn => guardTile_answers hp hn rfl ?_,
    fun s r n v hp hn => ⟨s, congrArg ok (s.guardTile_of_absent r n 0 _ hp hn), rfl⟩,
    fun s r n v hp hn hheld => guardTile_answers hp hn (by omega) ?_,
    fun s r n v hp hn hheld => guardTile_answers hp hn (by omega) ?_,
    fun s r n i v hp hn hi hheld => guardTile_answers hp hn rfl ?_,
    fun s r n i v hp hn hi hheld => guardTile_answers hp hn rfl ?_⟩
  · have hv : fldOf (TIL_GAIN_GAIN n) v = v.toNat % 4 := congrArg (· % 4) (Nat.div_one _)
    simp only [State.tilGainW, hv]
    refine ⟨rfl, ?_, State.get_set _ _ 1, rfl, (regsBut_set_pair s _ _ _ _).stagePut _⟩
    have hk : (TIL_GAIN_GAIN n).key ≠ (TIL_GAIN_PEND n).key := key_ne_of_lo rfl rfl
    rw [State.get_stagePut, State.get_set_ne _ _ _ _ hk, State.get_set]
    exact Nat.mod_mod _ 4
  · have hpend : (TIL_PTDATA_PEND n).key ≠ (TIL_PTSEL_INDEX n).key := by
      simp only [Fld.key, TIL_PTDATA_PEND, TIL_PTSEL_INDEX]; omega
    have hauto : (TIL_PTSEL_AUTOINC n).key ≠ (TIL_PTDATA_PEND n).key := by
      simp only [Fld.key, TIL_PTDATA_PEND, TIL_PTSEL_AUTOINC]; omega
    have hs := ptAdvance_sensor (trimWritten s n v) n
    have htile := (ptAdvance_tile (trimWritten s n v) n).trans (trimWritten_tile s n v)
    simp only [tilPtdataW_free s n v hheld]
    refine ⟨?_, ?_, ?_, ?_, ?_, ?_, fun f hf => ?_⟩
    · rw [hs]; rfl
    · rw [ptAdvance_get_ne _ _ _ hpend]
      exact State.get_set _ _ 1
    · rw [htile, mget_mset, if_pos rfl]
    · rw [ptAdvance_get_index, trimWritten_get_ne _ _ _ _ hauto, trimWritten_get_ne _ _ _ _ hpend.symm]
    · rw [hs]
      rw [ptAdvance_frame]
      rfl
    · rw [htile]
    · rw [ptAdvance_get_ne _ _ _ (hf _ (by simp)), trimWritten_get_ne _ _ _ _ (hf _ (by simp))]
  · simp only [tilPtdataW_held s n v hheld]
    refine ⟨?_, ?_, fun f hf => ?_⟩
    · have hk : STG_STAT_CFGERR.key ≠ (TIL_PTSEL_INDEX n).key := by
        simp only [Fld.key, STG_STAT_CFGERR, TIL_PTSEL_INDEX]; omega
      rw [ptAdvance_get_ne _ _ _ hk]
      exact State.get_set _ _ 1
    · rw [ptAdvance_frame]
      rfl
    · rw [ptAdvance_get_ne _ _ _ (hf _ (by simp))]
      exact State.get_set_ne _ _ _ _ (hf _ (by simp))
  · have h : s.tilSkimW n i v = (skimsWritten s n i v).stagePut (.skim n i v.toNat) := by
      rw [State.tilSkimW, if_neg (by omega), hheld, if_neg (by decide), writeFlds_skim s n i v hn hi]
    simp only [h]
    obtain ⟨h0, h1, h2, h3⟩ := skimsWritten_get s n i v
    exact ⟨rfl, h0, h1, h2, h3, rfl, (skimsWritten_regsBut s n i v).stagePut _⟩
  · have h : s.tilSkimW n i v = s.cfgErr := by rw [State.tilSkimW, if_neg (by omega), if_pos hheld]
    simp only [h]
    exact cfgErr_alone s

end Sys2Proof
end

section
/-! SUPPORT. The frame boundary in its stages (R36 to R38, R93): the sensor tier's settings, the switches, the
calibration manager, what is counted and judged, and what closes the boundary; what each stage leaves alone. -/

namespace Sys2Proof.Machine

open Reg

/-! ### The stages -/

/-- Settings of the sensor tier apply (R38, R39, R59, R60). -/
def State.settingsStage (s : State) : State := ((((s.settleTick).applyStaged).chainRate).biasGone).rampBoundary

/-- Classifier and map banks, the test mode and blind tiles switch. -/
def State.switchStage (s : State) : State := ((s.bankBoundary).modeStep).blindTileStep

/-- Offset flips, the blend and the calibration manager. -/
def State.calStage (s : State) : State := s.flipStep.blendStep.1.calBoundary s.flipStep.blendStep.2

/-- Bad lanes, drift, shares, the anchor, the refresh, the braid and the knots. -/
def State.judgeStage (s : State) (rateChg : Bool) : State :=
  let u := ((((s.laneStep.1.dtStep).shareEval).anchorLatch).grefFrame).braidBoundary rateChg
  if u.sorting then u.fixCheck else u.dropKnots

/-- What the boundary shows and sends. -/
def State.closeStage (s : State) : State :=
  ((((((s.settleReport).compensate).masterStep).masterSend).saveRead).tapShow).tapFrame

/-- The state that the context of the new frame is taken of. -/
def State.beforeCtx (s : State) (rejoin : Bool) : State :=
  (s.settingsStage.liveStep.switchStage.calStage).judgeStage (rejoin || s.settingsStage.sensor.rate != s.sensor.rate)

theorem State.boundary_eq (s : State) (rejoin : Bool) : s.boundary rejoin =
    ((s.beforeCtx rejoin).pushCtx ((s.beforeCtx rejoin).frameCtx
      s.settingsStage.liveStep.switchStage.calStage.laneStep.2)).closeStage := rfl

/-! ### What each stage may touch -/

theorem State.settingsStage_keeps (s : State) : Keeps 0x8C00D08000000000000000000004000800408 s s.settingsStage :=
  Keeps.comp (State.rampBoundary_keeps _) (by decide) <| Keeps.comp (State.biasGone_keeps _) (by decide) <|
    Keeps.comp (State.chainRate_keeps _) (by decide) <| Keeps.comp (State.applyStaged_keeps _) (by decide) <|
    Keeps.comp (State.settleTick_keeps s) (by decide) (Keeps.refl _ s)

theorem State.switchStage_keeps (s : State) :
    Keeps 0xE00000000E00000000000000000000000000004804FE1700AC00300000000000000000B000000000000000000000000000100600281E920C8
      s s.switchStage :=
  Keeps.comp (State.blindTileStep_keeps _) (by decide) <| Keeps.comp (State.modeStep_keeps _) (by decide) <|
    Keeps.comp (State.bankBoundary_keeps s) (by decide) (Keeps.refl _ s)

theorem State.calStage_keeps (s : State) :
    Keeps 0xE0000000800000070000000000000CC04F61700A000000000000000027F30F03F8300000000000000000000001406002C3E836D8 s
      s.calStage :=
  Keeps.comp (State.calBoundary_keeps _ _) (by decide) <| Keeps.comp (State.blendStep_keeps _) (by decide) <|
    Keeps.comp (State.flipStep_keeps s) (by decide) (Keeps.refl _ s)

theorem State.judgeStage_keeps (s : State) (rateChg : Bool) :
    Keeps 0x8C72FC00DB01C000003C02C000000000000000000000010002820018D0D8 s (s.judgeStage rateChg) := by
  have h := Keeps.comp (State.braidBoundary_keeps _ rateChg) (by decide) <|
    Keeps.comp (State.grefFrame_keeps _) (by decide) <| Keeps.comp (State.anchorLatch_keeps _) (by decide) <|
    Keeps.comp (State.shareEval_keeps _) (by decide) <| Keeps.comp (State.dtStep_keeps _) (by decide) <|
    Keeps.comp (State.laneStep_keeps s) (by decide)
      (Keeps.refl 0x8C72FC00DB01C000003C02C000000000000000000000010002820018D0D8 s)
  exact Keeps.ite (Keeps.comp (State.fixCheck_keeps _) (by decide) h) (Keeps.comp (State.dropKnots_keeps _) (by decide) h)

theorem State.closeStage_keeps (s : State) :
    Keeps 0xE06CD6408000000700080000000000000000000000000000000000000000000000020000000000000000000011400002FB8022C8 s
      s.closeStage :=
  Keeps.comp (State.tapFrame_keeps _) (by decide) <| Keeps.comp (State.tapShow_keeps _) (by decide) <|
    Keeps.comp (State.saveRead_keeps _) (by decide) <| Keeps.comp (State.masterSend_keeps _) (by decide) <|
    Keeps.comp (State.masterStep_keeps _) (by decide) <| Keeps.comp (State.compensate_keeps _) (by decide) <|
    Keeps.comp (State.settleReport_keeps s) (by decide) (Keeps.refl _ s)

/-! ### Time, the frame count and the staged fields of the logic die -/

theorem State.nextFrame_frameCnt (s : State) : s.nextFrame.frameCnt = (s.frameCnt + 1) % 2 ^ 32 :=
  State.get_set (s.advance s.nextBoundary).takeArrivals STG_FRAMECNT_COUNT _

theorem State.boundary_frameCnt (s : State) (rejoin : Bool) : (s.boundary rejoin).frameCnt = s.frameCnt :=
  (s.boundary_keeps rejoin).fields _ (by decide +kernel)

theorem State.settingsStage_frameCnt (s : State) : s.settingsStage.frameCnt = s.frameCnt :=
  s.settingsStage_keeps.fields _ (by decide +kernel)

theorem State.closeStage_frameCnt (s : State) : s.closeStage.frameCnt = s.frameCnt :=
  s.closeStage_keeps.fields _ (by decide +kernel)

/-- Of two states with one frame count the same boundaries have come. -/
theorem State.reached_congr {s t : State} (h : t.frameCnt = s.frameCnt) (d : Nat) : t.reached d = s.reached d := by
  rw [State.reached, State.reached, h]

theorem State.liveStep_pend (s : State) : s.liveStep.live.pend = s.live.pend.filter fun p => !s.reached p.1 := by
  have hcnt : (s.set BRD_STAT_UNLFR (s.get BRD_STAT_UNLFR - 1)).frameCnt = s.frameCnt :=
    State.get_set_ne _ _ _ _ (by decide)
  have hpend : s.liveStep.live.pend = s.live.pend.filter fun p =>
      !(s.set BRD_STAT_UNLFR (s.get BRD_STAT_UNLFR - 1)).reached p.1 := by
    simp only [State.liveStep]
    split <;> rfl
  simpa only [State.reached_congr hcnt] using hpend

@[simp] theorem State.pushCtx_live (s : State) (c : FrameCtx) : (s.pushCtx c).live = s.live := rfl

@[simp] theorem State.pushCtx_frameCnt (s : State) (c : FrameCtx) : (s.pushCtx c).frameCnt = s.frameCnt := rfl

theorem State.frameCtx_frame (s : State) (bad : List Nat) : (s.frameCtx bad).frame = s.frameCnt := rfl

theorem State.pushCtx_newest (s : State) (c : FrameCtx) : (s.pushCtx c).corr.ctx.getLast? = some c := by
  simp [State.pushCtx, List.getLast?_drop]

/-- After the staged fields have applied, nothing up to the new frame's context touches them. -/
theorem State.beforeCtx_live (s : State) (rejoin : Bool) :
    (s.beforeCtx rejoin).live = s.settingsStage.liveStep.live := by
  have hjudge := (State.judgeStage_keeps s.settingsStage.liveStep.switchStage.calStage
    (rejoin || s.settingsStage.sensor.rate != s.sensor.rate)).same.live rfl
  have hcal := (State.calStage_keeps s.settingsStage.liveStep.switchStage).same.live rfl
  have hswitch := (State.switchStage_keeps s.settingsStage.liveStep).same.live rfl
  rw [State.beforeCtx, hjudge, hcal, hswitch]

/-- Of the boundary's stages the logic die's own staging alone takes fields off its waiting list. -/
theorem State.boundary_pend (s : State) (rejoin : Bool) :
    (s.boundary rejoin).live.pend = s.live.pend.filter fun p => !s.reached p.1 := by
  rw [State.boundary_eq, (State.closeStage_keeps _).same.live rfl, State.pushCtx_live, State.beforeCtx_live,
    State.liveStep_pend, s.settingsStage_keeps.same.live rfl]
  simp only [State.reached_congr s.settingsStage_frameCnt]

/-- The newest context of the pipeline is that of the frame that begins. -/
theorem State.boundary_newest_ctx (s : State) (rejoin : Bool) :
    (s.boundary rejoin).corr.ctx.getLast?.map (·.frame) = some (s.boundary rejoin).frameCnt := by
  rw [State.boundary_eq, (State.closeStage_keeps _).same.corr rfl, State.pushCtx_newest, State.closeStage_frameCnt,
    State.pushCtx_frameCnt, Option.map_some, State.frameCtx_frame]

/-! ### The grid, the rate and the bias -/

/-- Of the sensor tier no more than tiles and staged settings change. -/
def GridKept (s t : State) : Prop := t.sensor = { s.sensor with tiles := t.sensor.tiles, staged := t.sensor.staged }

theorem GridKept.refl (s : State) : GridKept s s := rfl

theorem GridKept.of_sensor {s t : State} (h : t.sensor = s.sensor) : GridKept s t := by
  rw [GridKept, h]

theorem GridKept.of_keeps {m : Nat} {s t : State} (h : Keeps m s t) (hm : m.testBit 10 = false) : GridKept s t :=
  .of_sensor (h.same.sensor hm)

theorem GridKept.trans {s t u : State} (h : GridKept s t) (k : GridKept t u) : GridKept s u :=
  Eq.trans k (congrArg (fun x : Sensor => { x with tiles := u.sensor.tiles, staged := u.sensor.staged }) h)

theorem GridKept.foldl {β : Type} (f : State → β → State) (hf : ∀ s b, GridKept s (f s b))
    (l : List β) (s : State) :
    GridKept s (l.foldl f s) := by
  induction l generalizing s with
  | nil => exact .refl s
  | cons b r ih => exact (hf s b).trans (ih _)

theorem GridKept.ite {s t u : State} {c : Prop} [Decidable c] (ht : GridKept s t) (hu : GridKept s u) :
    GridKept s (if c then t else u) := by
  split <;> assumption

theorem State.askFlip_gridKept (s : State) (n : Nat) : GridKept s (s.askFlip n) := by
  unfold State.askFlip
  split
  · exact .refl s
  · dsimp only
    split <;> rfl

theorem State.tileHandoff_gridKept (s : State) (n : Nat) : GridKept s (s.tileHandoff n) := by
  have hstep : ∀ (t : State) (pix q : Nat) (down : Bool), GridKept t (t.stepOffset pix q down) := fun t pix q down =>
    .of_keeps (t.stepOffset_keeps pix q down) rfl
  simp only [State.tileHandoff]
  have hput : ∀ (t : State) (w : Setting), GridKept t (t.stagePut w) := fun _ _ => rfl
  refine .ite (.refl s) (.trans (.trans (.trans ?_ (.foldl _ (fun t p => hstep t _ _ _) _ _)) (hput _ _))
    (State.askFlip_gridKept _ n))
  exact .foldl _ (fun t p => .foldl _ (fun t r => hstep t _ _ _) _ t) _ s

theorem State.handoffStep_gridKept (s : State) : GridKept s s.handoffStep := by
  have htiles : ∀ t : State, GridKept t t.handoffTiles := fun t =>
    .foldl _ (fun u n => .ite (.refl u) (u.tileHandoff_gridKept n)) _ t
  simp only [State.handoffStep]
  exact .ite (.of_keeps s.handoffEnd_keeps rfl) (.ite rfl (.trans rfl (htiles _)))

/-- The calibration manager stages trim steps at a boundary and changes nothing else of the sensor tier. -/
theorem State.calBoundary_gridKept (s : State) (flip : Bool) : GridKept s (s.calBoundary flip) := by
  have hsteps : GridKept s s.settleSteps := .of_keeps s.settleSteps_keeps rfl
  unfold State.calBoundary
  extract_lets u temp cal left opened v
  refine hsteps.trans ?_
  show GridKept u _
  have hv : GridKept u v := .ite (.of_keeps u.calUnblind_keeps rfl) (.refl u)
  clear_value u v
  split
  · split
    · exact .ite (.of_keeps u.calBlind_keeps rfl) (.refl u)
    · exact .refl u
  · exact .ite rfl (.refl u)
  · have hcap : ∀ v : State, GridKept v v.captureEnd := fun v => .of_keeps v.captureEnd_keeps rfl
    exact .ite (hcap { u with cal := { u.cal with capLeft := 0 } }) rfl
  · have hblend : GridKept v (if v.cal.ready then v.calBlend else v) := .ite (.of_keeps v.calBlend_keeps rfl) (.refl v)
    exact hv.trans (.ite (.refl v) (.ite (.of_keeps v.calIdle_keeps rfl) hblend))
  · exact .ite (.of_keeps u.calSuccess_keeps rfl) (.refl u)
  · exact u.handoffStep_gridKept
  · exact .ite (.refl u) (.of_keeps u.calIdle_keeps rfl)
  · exact .refl u

/-! ### A boundary at which nothing is due for the sensor tier -/

/-- Nothing of the sensor tier waits for a boundary: no staged setting, no announced rate, no bias to remove or ramp. -/
structure SensorIdle (s : State) : Prop where
  staged : s.sensor.staged = []
  rate : s.chain.rateNext = none
  removal : s.sensor.removeBias = false
  ramp : s.sensor.rampJ = 0

theorem foldl_tiles {β : Type} (f : State → β → State)
    (hf : ∀ s b, (f s b).sensor = { s.sensor with tiles := (f s b).sensor.tiles }) (l : List β) (s : State) :
    (l.foldl f s).sensor = { s.sensor with tiles := (l.foldl f s).sensor.tiles } := by
  induction l generalizing s with
  | nil => rfl
  | cons b r ih =>
    exact (ih (f s b)).trans
      (congrArg (fun x : Sensor => { x with tiles := (r.foldl f (f s b)).sensor.tiles }) (hf s b))

theorem State.settleTick_sensor (s : State) :
    s.settleTick.sensor = { s.sensor with tiles := s.settleTick.sensor.tiles } := by
  unfold State.settleTick
  refine foldl_tiles _ (fun u n => ?_) _ s
  rfl

theorem State.settleTick_gridKept (s : State) : GridKept s s.settleTick := by
  rw [GridKept, s.settleTick_sensor]

theorem SensorIdle.settleTick {s : State} (h : SensorIdle s) : SensorIdle s.settleTick where
  staged := by rw [s.settleTick_sensor, h.staged]
  rate := by rw [s.settleTick_keeps.same.chain rfl, h.rate]
  removal := by rw [s.settleTick_sensor, h.removal]
  ramp := by rw [s.settleTick_sensor, h.ramp]

theorem State.applyStaged_of_none (s : State) (h : s.sensor.staged = []) : s.applyStaged = s := by
  have hs : { s with sensor := { s.sensor with staged := [] } } = s := by rw [← h]
  simp only [State.applyStaged, h, List.filter_nil, List.foldl_nil, hs]

theorem SensorIdle.settingsStage {s : State} (h : SensorIdle s) : s.settingsStage = s.settleTick := by
  have ht := h.settleTick
  have hchain : s.settleTick.chainRate = s.settleTick := by rw [State.chainRate, ht.rate]
  have hbias : s.settleTick.biasGone = s.settleTick := by rw [State.biasGone, ht.removal]; rfl
  have hstep : s.settleTick.rampStep = s.settleTick := by rw [State.rampStep, if_pos ht.ramp]
  have hramp : s.settleTick.rampBoundary = s.settleTick := by
    rw [State.rampBoundary, hstep]
    exact if_neg fun hj => hj.1 ht.ramp
  rw [State.settingsStage, State.applyStaged_of_none _ ht.staged, hchain, hbias, hramp]

theorem State.calStage_gridKept (s : State) : GridKept s s.calStage := by
  have hflip : GridKept s s.flipStep := .of_keeps s.flipStep_keeps rfl
  have hblend : GridKept s.flipStep s.flipStep.blendStep.1 := .of_keeps s.flipStep.blendStep_keeps rfl
  exact (hflip.trans hblend).trans (State.calBoundary_gridKept _ _)

/-- Once the sensor tier's settings have applied, no stage moves the grid, the rate or the bias. -/
theorem State.boundary_gridKept (s : State) (rejoin : Bool) : GridKept s.settingsStage (s.boundary rejoin) := by
  have hlive : GridKept s.settingsStage s.settingsStage.liveStep := .of_keeps (State.liveStep_keeps _) rfl
  have hswitch : GridKept s.settingsStage.liveStep s.settingsStage.liveStep.switchStage :=
    .of_keeps (State.switchStage_keeps _) rfl
  have hjudge : GridKept s.settingsStage.liveStep.switchStage.calStage (s.beforeCtx rejoin) := by
    rw [State.beforeCtx]
    exact .of_keeps (State.judgeStage_keeps _ _) rfl
  have hpush : ∀ (t : State) (c : FrameCtx), GridKept t (t.pushCtx c) := fun _ _ => rfl
  have hclose : ∀ t : State, GridKept t t.closeStage := fun t => .of_keeps t.closeStage_keeps rfl
  have hcal := State.calStage_gridKept s.settingsStage.liveStep.switchStage
  rw [State.boundary_eq]
  exact (((hlive.trans hswitch).trans hcal).trans hjudge).trans ((hpush _ _).trans (hclose _))

theorem SensorIdle.nextFrame {s : State} (h : SensorIdle s) : SensorIdle s.nextFrame :=
  ⟨by rw [State.nextFrame]; exact congrArg (List.map _) h.staged, h.rate, h.removal, h.ramp⟩

end Sys2Proof.Machine

namespace Sys2Proof

open Sys2Proof.Machine Sys2Proof.Machine.Reg

/-- Settles O30: the frame count and the time are those of `nextFrame`, which the boundary's stages leave; the logic die's
staging and the new context are one stage each. -/
theorem frameBoundariesAdvanceTheGridAndApplySettings : Obligations.FrameBoundariesAdvanceTheGridAndApplySettings := by
  refine ⟨fun s => ?_, fun s hst hr hb hj _ => ?_⟩
  · obtain ⟨t, ht, -, hframe, hregs⟩ := exec_framed .frameBoundary s
    obtain rfl : s.nextFrame.boundary false = t := Host.Outcome.next.inj ht
    have hcnt : (s.nextFrame.boundary false).frameCnt = s.nextFrame.frameCnt := State.boundary_frameCnt _ _
    have hpend : s.nextFrame.live.pend = s.live.pend := rfl
    refine ⟨_, ht, hcnt.trans s.nextFrame_frameCnt, (State.boundary_keeps _ _).same.time rfl, ?_,
      State.boundary_newest_ctx _ _, hframe, hregs⟩
    rw [State.boundary_pend, hpend]
    simp only [State.reached_congr hcnt]
  · obtain ⟨t, ht, -, hframe, hregs⟩ := exec_framed .frameBoundary s
    obtain rfl : s.nextFrame.boundary false = t := Host.Outcome.next.inj ht
    have hidle : SensorIdle s.nextFrame := (SensorIdle.mk hst hr hb hj).nextFrame
    have hgrid : GridKept s.nextFrame (s.nextFrame.boundary false) :=
      s.nextFrame.settleTick_gridKept.trans (hidle.settingsStage ▸ State.boundary_gridKept _ false)
    refine ⟨_, ht, ?_, ?_, ?_, ?_, ?_, ?_, hframe, hregs⟩ <;> rw [hgrid] <;> rfl

end Sys2Proof
end

section
/-! SUPPORT. Tiles, slice factors and spares as they are read after a change, and what TIL shows of them (R63, R72,
R77). -/

namespace Sys2Proof.Machine

open Reg

theorem Tile.factor_setFactor (t : Tile) (k j : Nat) (f : Factor) :
    (t.setFactor k f).factor j = if j = k then f else t.factor j := mget_mset _ _ _ _ _

theorem Tile.spare_setSpare (t : Tile) (i j : Nat) (x : Spare) :
    (t.setSpare i x).spare j = if j = i then x else t.spare j := mget_mset _ _ _ _ _

/-- Of the sensor tier no more than tiles change, and of these tile `n` alone. -/
structure OneTile (n : Nat) (s t : State) : Prop where
  sensor : t.sensor = { s.sensor with tiles := t.sensor.tiles }
  others : ∀ m, m ≠ n → t.tile m = s.tile m

theorem OneTile.refl (n : Nat) (s : State) : OneTile n s s := ⟨rfl, fun _ _ => rfl⟩

theorem OneTile.trans {n : Nat} {s t u : State} (h : OneTile n s t) (k : OneTile n t u) : OneTile n s u :=
  ⟨k.sensor.trans (congrArg (fun x : Sensor => { x with tiles := u.sensor.tiles }) h.sensor),
    fun m hm => (k.others m hm).trans (h.others m hm)⟩

theorem OneTile.of_sensor {s t : State} (n : Nat) (h : t.sensor = s.sensor) : OneTile n s t :=
  ⟨by rw [h], fun m _ => by rw [State.tile, State.tile, h]⟩

theorem OneTile.of_keeps {m : Nat} {s t : State} (n : Nat) (h : Keeps m s t) (hm : m.testBit 10 = false) :
    OneTile n s t := .of_sensor n (h.same.sensor hm)

theorem State.setTile_oneTile (s : State) (n : Nat) (x : Tile) : OneTile n s (s.setTile n x) :=
  ⟨rfl, fun m hm => s.tile_setTile_ne n m x hm⟩

theorem tile_of_keeps {m : Nat} {s t : State} (h : Keeps m s t) (n : Nat) (hm : m.testBit 10 = false) :
    t.tile n = s.tile n := by
  rw [State.tile, State.tile, h.same.sensor hm]

/-- TIL[n] shows no more than FAILCNT, ROTSP, PARKED and ROTPOS of its entries and spares. -/
theorem State.tileReport_regsBut (s : State) (n : Nat) : regsBut (tileShown n) s (s.tileReport n) := by
  unfold State.tileReport
  extract_lets t fails rot parked u
  have hu : regsBut (tileShown n) s u :=
    (((regsBut.refl _ s).set (.head _)).set (.tail _ (.head _))).set (.tail _ (.tail _ (.head _)))
  clear_value u
  refine regsBut.set (regsBut.set (regsBut.set (regsBut.set hu ?_) ?_) ?_) ?_ <;> simp [tileShown]

theorem State.tileReport_tile (s : State) (n m : Nat) : (s.tileReport n).tile m = s.tile m :=
  tile_of_keeps (s.tileReport_keeps n) m rfl

end Sys2Proof.Machine
end

section
/-! SUPPORT. A row-group slot: the row group that integrated is converted and sent, the next one integrates (R32, R45,
R46, R50, R66, R67). -/

namespace Sys2Proof.Machine

open Reg

/-! ### Overranges -/

/-- The samples of a row group that overranged, by their number in it. -/
theorem ovr_count {F : Nat → Nat × Bool} (N : Nat) :
    ((List.range N).filter fun k => (((List.range N).map F).getD k (0, false)).2).length =
      (((List.range N).map F).filter (·.2)).length := by
  have hget : (List.range N).filter (fun k => (((List.range N).map F).getD k (0, false)).2) =
      (List.range N).filter fun k => (F k).2 := by
    refine List.filter_congr fun k hk => ?_
    rw [List.mem_range] at hk
    simp [List.getD_eq_getElem?_getD, hk]
  rw [hget, List.filter_map, List.length_map]
  rfl

theorem satAdd_lt (w a b : Nat) : satAdd w a b < 2 ^ w := by
  have := Nat.two_pow_pos w
  unfold satAdd
  split <;> omega

/-- What TIL[n] counts and shows of a row group's overranges (R50). -/
abbrev ovrFlds (n : Nat) : List Fld := [TIL_OVRCNT_COUNT n, TIL_OVRLAST_LANE n, TIL_OVRLAST_RGRP n, TIL_OVRLAST_SLICE n,
  TIL_OVRLAST_LOW n, TIL_REFDCNT_COUNT n]

theorem State.countOvr_regsBut (s : State) (n g : Nat) (xs : List (Nat × Bool)) (words : List Nat) :
    regsBut (ovrFlds n) s (s.countOvr n g xs words) := by
  unfold State.countOvr
  extract_lets hits u v
  have hu : regsBut (ovrFlds n) s u := (regsBut.refl _ s).set (by simp)
  have hv : regsBut (ovrFlds n) s v := by
    unfold v
    split
    · exact (((hu.set (by simp)).set (by simp)).set (by simp)).set (by simp)
    · exact hu
  exact .ite (hv.set (by simp)) hv

theorem ovrFlds_above (n : Nat) : ∀ g ∈ ovrFlds n, 32 * 0x4000 ≤ g.key := by
  simp only [ovrFlds, List.forall_mem_cons, Fld.key, TIL_OVRCNT_COUNT, TIL_OVRLAST_LANE, TIL_OVRLAST_RGRP,
    TIL_OVRLAST_SLICE, TIL_OVRLAST_LOW, TIL_REFDCNT_COUNT]
  refine ⟨?_, ?_, ?_, ?_, ?_, ?_, List.forall_mem_nil _⟩ <;> omega

theorem State.countOvr_count (s : State) (n g : Nat) (xs : List (Nat × Bool)) (words : List Nat) :
    (s.countOvr n g xs words).get (TIL_OVRCNT_COUNT n) = satAdd 16 (s.get (TIL_OVRCNT_COUNT n))
      ((List.range 256).filter fun k => (xs.getD k (0, false)).2).length := by
  have hne : ∀ f : Fld, 0x4014 + 0x100 * (n % 32) ≤ f.addr → (TIL_OVRCNT_COUNT n).key ≠ f.key := fun f hf => by
    simp only [Fld.key, TIL_OVRCNT_COUNT]
    omega
  unfold State.countOvr
  extract_lets hits u v
  have hu : u.get (TIL_OVRCNT_COUNT n) = satAdd 16 (s.get (TIL_OVRCNT_COUNT n)) hits.length :=
    (State.get_set _ _ _).trans (Nat.mod_eq_of_lt (satAdd_lt 16 _ _))
  have hv : v.get (TIL_OVRCNT_COUNT n) = u.get (TIL_OVRCNT_COUNT n) := by
    unfold v
    split
    · rw [State.setB_eq, State.get_set_ne _ _ _ _ (hne _ (Nat.le_refl _)),
        State.get_set_ne _ _ _ _ (hne _ (Nat.le_refl _)), State.get_set_ne _ _ _ _ (hne _ (Nat.le_refl _)), State.get_set_ne _ _ _ _ (hne _ (Nat.le_refl _))]
    · rfl
  rw [← hu, ← hv]
  split
  · exact State.get_set_ne _ _ _ _ (hne _ (Nat.add_le_add_right (by decide) _))
  · rfl

/-- A field below those that may change. -/
theorem regsBut.below {l : List Fld} {s t : State} {f : Fld} {a : Nat} (h : regsBut l s t)
    (hl : ∀ g ∈ l, a ≤ g.key)
    (hf : f.key < a) : t.get f = s.get f := h f fun g hg => by
  have := hl g hg
  omega

/-! ### A slot outside test and self-calibration -/

/-- The words of a row group as the tile sends them: converted, with OVR and REFD. -/
def State.sentWords (s : State) (n g : Nat) (raw : List Int) : List Nat :=
  (List.range 256).map fun k =>
    sampleWord ((s.tile n).ovr1 ++ (s.tile n).ovr2) k ((s.convert n g raw).getD k (0, false))

/-- A row group on the lane with its CRC (R67). -/
def State.sentGroup (s : State) (n : Nat) (h : Header) (raw : List Int) : RowGroup :=
  ⟨{ h with crc := rowCrc (s.sentWords n h.rgrp raw) }, s.sentWords n h.rgrp raw⟩

/-- A tile that has sent a row group, with none integrating yet. -/
def State.sentTile (s : State) (n : Nat) (h : Header) (raw : List Int) : Tile := { s.tile n with
  integ := none, swap := none, sent := (s.tile n).sent ++ [s.sentGroup n h raw],
  ovr1 := lanesOvr (s.convert n h.rgrp raw), ovr2 := (s.tile n).ovr1 }

theorem State.sendGroup_plain (s : State) (n : Nat) (h : Header) (raw : List Int) (ht : s.underTest 1 n = false)
    (hs : (s.tile n).swap = none) : s.sendGroup n h raw =
      (s.countOvr n h.rgrp (s.convert n h.rgrp raw) (s.sentWords n h.rgrp raw)).setTile n (s.sentTile n h raw) := by
  simp only [State.sendGroup, hs, ht]
  rfl

/-- A header depends on the grid, the bias, the tile's gain and settling, UNSYNC and the frame count alone. -/
theorem State.newHeader_congr {s t : State} {n : Nat} (g : Nat) (h : OneTile n s t)
    (hgain : (t.tile n).gain = (s.tile n).gain) (hsettle : (t.tile n).settle = (s.tile n).settle)
    (hsync : t.get GLB_STAT_UNSYNC = s.get GLB_STAT_UNSYNC) (hcnt : t.frameCnt = s.frameCnt) :
    t.newHeader n g = s.newHeader n g := by
  have hbase : t.sensor.gridBase = s.sensor.gridBase := by rw [h.sensor]
  have hk : t.sensor.gridK = s.sensor.gridK := by rw [h.sensor]
  have hrate : t.sensor.rate = s.sensor.rate := by rw [h.sensor]
  have hpart : t.sensor.partialF = s.sensor.partialF := by rw [h.sensor]
  have hbias : t.sensor.biasEn = s.sensor.biasEn := by rw [h.sensor]
  have hramp : t.sensor.rampJ = s.sensor.rampJ := by rw [h.sensor]
  have hscnt : t.scnt n = s.scnt n := by rw [State.scnt, State.biasOff, hbias, hramp, hsettle]; rfl
  have hslot : t.slotAt t.sensor.gridK g = s.slotAt s.sensor.gridK g := by rw [State.slotAt, hbase, hk, hrate]; rfl
  rw [State.newHeader, hscnt, hslot, hgain, hpart, State.flag, hsync, hcnt]
  rfl

/-- The row group that integrated is counted and on the lane, at the slot's time. -/
def State.slotSent (s : State) (n : Nat) (h : Header) (raw : List Int) : State :=
  ((s.advance (s.slotAt s.sensor.gridK (h.rgrp + 1))).countOvr n h.rgrp (s.convert n h.rgrp raw)
    (s.sentWords n h.rgrp raw)).setTile n (s.sentTile n h raw)

theorem State.slotSent_regsBut (s : State) (n : Nat) (h : Header) (raw : List Int) :
    regsBut (ovrFlds n) s (s.slotSent n h raw) :=
  State.countOvr_regsBut (s.advance (s.slotAt s.sensor.gridK (h.rgrp + 1))) n h.rgrp _ _

theorem State.slotSent_oneTile (s : State) (n : Nat) (h : Header) (raw : List Int) : OneTile n s (s.slotSent n h raw) :=
  ((OneTile.of_keeps n (s.advance_keeps _) rfl).trans (.of_keeps n (State.countOvr_keeps _ n _ _ _) rfl)).trans
    (State.setTile_oneTile _ n _)

theorem State.slotSent_tile (s : State) (n : Nat) (h : Header) (raw : List Int) :
    (s.slotSent n h raw).tile n = s.sentTile n h raw := State.tile_setTile_self _ _ _

theorem State.slotSent_newHeader (s : State) (n : Nat) (h : Header) (raw : List Int) (g : Nat) :
    (s.slotSent n h raw).newHeader n g = s.newHeader n g := by
  have htile := s.slotSent_tile n h raw
  refine State.newHeader_congr g (s.slotSent_oneTile n h raw) (by rw [htile]; rfl) (by rw [htile]; rfl) ?_ ?_
  · exact (s.slotSent_regsBut n h raw).below (ovrFlds_above n) (by decide)
  · exact (s.slotSent_regsBut n h raw).below (ovrFlds_above n) (by decide)

/-- A slot inside a frame, of a tile that neither calibrates nor is under test, with no hand-over due. -/
theorem State.rowSlot_inside (s : State) (n : Nat) (raw : List Int) (h : Header) (hn : n < s.nTiles)
    (hb : s.get (TIL_CVSTAT_SCAL_BUSY n) = 0) (ht : s.underTest 1 n = false) (hs : (s.tile n).swap = none)
    (hi : (s.tile n).integ = some h) (hf : h.frame = s.frameCnt % 65536) (hg : h.rgrp < 15) :
    s.rowSlot n raw = (s.slotSent n h raw).setTile n
      { s.sentTile n h raw with integ := some (s.newHeader n (h.rgrp + 1)) } := by
  have hbusy : s.flag (TIL_CVSTAT_SCAL_BUSY n) = false := by rw [State.flag, hb]; rfl
  have hlt : h.rgrp + 1 < 16 := by omega
  have hsend : (s.advance (s.slotAt s.sensor.gridK (h.rgrp + 1))).sendGroup n h raw = s.slotSent n h raw :=
    State.sendGroup_plain (s.advance (s.slotAt s.sensor.gridK (h.rgrp + 1))) n h raw ht hs
  simp only [State.rowSlot, if_pos hn, hbusy, hi, if_pos hf, if_pos hlt, Bool.false_eq_true, if_false, hsend,
    s.slotSent_tile n h raw, s.slotSent_newHeader n h raw]

end Sys2Proof.Machine
end

section
/-! SUPPORT. Spare hand-overs: the entry and the exit of a visit (R72 to R76). -/

namespace Sys2Proof.Machine

open Reg

/-! ### Entry -/

theorem State.swapEntry_oneTile (s : State) (n i k : Nat) (park : Bool) (a b : Int) :
    OneTile n s (s.swapEntry n i k park a b) := by
  unfold State.swapEntry
  exact (State.setTile_oneTile _ n _).trans (.of_keeps n (State.tileReport_keeps _ n) rfl)

theorem State.swapEntry_regsBut (s : State) (n i k : Nat) (park : Bool) (a b : Int) :
    regsBut (tileShown n) s (s.swapEntry n i k park a b) := by
  unfold State.swapEntry
  exact State.tileReport_regsBut _ n

/-- A tile whose spare has entered slice `k`, shown in the header of the next row group. -/
def Tile.visitBegun (t : Tile) (i k : Nat) (f : Factor) (x : Spare) : Tile :=
  { (t.setFactor (256 + i) f).setSpare i x with swap := some ⟨i, k, false⟩, next := (k + 1) % 256 }

theorem Tile.visitBegun_spare (t : Tile) (i k : Nat) (f : Factor) (x : Spare) : (t.visitBegun i k f x).spare i = x :=
  (mget_mset _ _ _ _ _).trans (if_pos rfl)

theorem Tile.visitBegun_factor (t : Tile) (i k : Nat) (f : Factor) (x : Spare) :
    (t.visitBegun i k f x).factor (256 + i) = f := (mget_mset _ _ _ _ _).trans (if_pos rfl)

/-- An entering spare: its offset takes the difference of the two codes, and it serves the slice. -/
theorem State.swapEntry_tile (s : State) (n i k : Nat) (a b : Int) : (s.swapEntry n i k false a b).tile n =
    (s.tile n).visitBegun i k
      { (s.tile n).factor (256 + i) with
        ofs := ((s.tile n).factor (256 + i)).ofs + (((convCode ((s.tile n).factor k) a).1 : Int) -
          ((convCode ((s.tile n).factor (256 + i)) b).1 : Int)) }
      { (s.tile n).spare i with
        phase := .serving, slice := k, parkOn := none, due := ((s.tile n).spare i).due + 7812500 } := by
  unfold State.swapEntry
  exact (State.tileReport_tile _ n n).trans (State.tile_setTile_self _ n _)

theorem State.handover_entry (s : State) (n i : Nat) (a b g o : Int) (hn : n < s.nTiles) (hi : i < 4)
    (hv : s.fuses.nk1024 = false) (hp : ((s.tile n).spare i).phase = .idle)
    (hk : ((s.tile n).spare i).parkOn = none) (hr : ((s.tile n).spare i).rot = true) : s.handover n i a b g o =
      (s.advance (floor2 ((s.tile n).spare i).due)).swapEntry n i ((s.tile n).nextSlice (s.tile n).next) false a b := by
  have hex : (s.fuses.nk1024 || decide (s.nTiles ≤ n ∨ 4 ≤ i)) = false := by simp [hv]; omega
  simp only [State.handover, hex, hp, hk, hr]
  rfl

/-! ### Exit -/

/-- A converter code has 14 bits. -/
theorem convCode_le (f : Factor) (c : Int) : (convCode f c).1 ≤ 0x3FFF := by
  unfold convCode
  split
  · decide
  split
  · decide
  extract_lets x
  split
  · decide
  split
  · decide
  · show x.toNat ≤ 0x3FFF
    omega

theorem State.handover_exit (s : State) (n i : Nat) (a b g o : Int) (hn : n < s.nTiles) (hi : i < 4)
    (hv : s.fuses.nk1024 = false) (hp : ((s.tile n).spare i).phase = .serving) : s.handover n i a b g o =
      (s.advance (floor2 ((s.tile n).spare i).due)).swapExit n i a b g o := by
  have hex : (s.fuses.nk1024 || decide (s.nTiles ≤ n ∨ 4 ≤ i)) = false := by simp [hv]; omega
  simp only [State.handover, hex, hp]
  rfl

/-- A field of 16 bits holds the numbers of two's complement of 16 bits. -/
theorem sgn_unsgn (d : Int) (h1 : -0x8000 ≤ d) (h2 : d < 0x8000) : sgn 16 (unsgn 16 d % 2 ^ 16) = d := by
  have hu : unsgn 16 d = (d % 65536).toNat := rfl
  rw [sgn, hu]
  split <;> omega

/-! ### Registers but the listed ones and those of events -/

theorem regsBut.toEvt {l : List Fld} {s t : State} (h : regsBut l s t) : regsButEvt l s t := fun f _ hf => h f hf

theorem regsButEvt.trans {l : List Fld} {s t u : State} (h : regsButEvt l s t) (k : regsButEvt l t u) :
    regsButEvt l s u := fun f he hf => (k f he hf).trans (h f he hf)

theorem regsButEvt.mono {l m : List Fld} {s t : State} (h : regsButEvt l s t) (hl : ∀ f ∈ l, f ∈ m) :
    regsButEvt m s t := fun f he hf => h f he fun g hg => hf g (hl g hg)

theorem State.raise_regsButEvt (s : State) (n : Nat) (l : List Fld) : regsButEvt l s (s.raise n) :=
  fun f he _ => s.raise_get n f he

theorem State.putFactor_regsButEvt (s : State) (n k : Nat) (f : Factor) (fault : Bool) (l : List Fld) :
    regsButEvt l s (s.putFactor n k f fault) := by
  unfold State.putFactor
  split
  · exact State.raise_regsButEvt _ _ l
  · exact fun _ _ _ => rfl

theorem State.putFactor_tile (s : State) (n k : Nat) (f : Factor) (fault : Bool) :
    (s.putFactor n k f fault).tile n = (s.tile n).setFactor k f := by
  have hset : (s.setTile n ((s.tile n).setFactor k f)).tile n = (s.tile n).setFactor k f :=
    State.tile_setTile_self s n _
  unfold State.putFactor
  split
  · exact (tile_of_keeps (State.raise_keeps _ _) n rfl).trans hset
  · exact hset

theorem State.putFactor_oneTile (s : State) (n k : Nat) (f : Factor) (fault : Bool) :
    OneTile n s (s.putFactor n k f fault) := by
  unfold State.putFactor
  refine .trans (s.setTile_oneTile n ((s.tile n).setFactor k f)) ?_
  split
  · exact .of_keeps n (State.raise_keeps _ _) rfl
  · exact .refl n _

/-- The difference of the codes at the exit of a visit with plausible factors (R74, R75). -/
def State.exitDiff (s : State) (n i : Nat) (a b g o : Int) : Int :=
  ((convCode (visitStep ((s.tile n).factor ((s.tile n).spare i).slice) g o) a).1 : Int) -
    ((convCode ((s.tile n).factor (256 + i)) b).1 : Int)

theorem State.exitDiff_natAbs (s : State) (n i : Nat) (a b g o : Int) : (s.exitDiff n i a b g o).natAbs < 0x4000 := by
  have h1 := convCode_le (visitStep ((s.tile n).factor ((s.tile n).spare i).slice) g o) a
  have h2 := convCode_le ((s.tile n).factor (256 + i)) b
  rw [State.exitDiff]
  omega

/-- SWAPDIFF after an exit. -/
def State.diffShown (s : State) (n : Nat) (d : Int) : State :=
  (s.setS (TIL_SWAPDIFF_LAST n) d).set (TIL_SWAPDIFF_MAXABS n) (max (s.get (TIL_SWAPDIFF_MAXABS n)) d.natAbs)

theorem swapdiff_ne (n : Nat) : (TIL_SWAPDIFF_LAST n).key ≠ (TIL_SWAPDIFF_MAXABS n).key := key_ne_of_lo rfl rfl

theorem State.diffShown_last (s : State) (n : Nat) (d : Int) :
    (s.diffShown n d).get (TIL_SWAPDIFF_LAST n) = unsgn 16 d % 2 ^ 16 :=
  (State.get_set_ne _ _ _ _ (swapdiff_ne n)).trans (State.get_set _ _ _)

theorem State.diffShown_max (s : State) (n : Nat) (d : Int) : (s.diffShown n d).get (TIL_SWAPDIFF_MAXABS n) =
    max (s.get (TIL_SWAPDIFF_MAXABS n)) d.natAbs % 2 ^ 15 := State.get_set _ _ _

theorem State.diffShown_regsBut (s : State) (n : Nat) (d : Int) :
    regsBut [TIL_SWAPDIFF_LAST n, TIL_SWAPDIFF_MAXABS n] s (s.diffShown n d) := regsBut_set_pair s _ _ _ _

/-- A difference over the limit (R76). -/
def State.exitBig (s : State) (n : Nat) (d : Int) : Bool := decide (s.get (TIL_SWAPLIM_LIMIT n) < d.natAbs)

/-- The visits in a row, with this one, whose difference exceeded the limit (R76). -/
def State.exitOvers (s : State) (n i : Nat) (d : Int) : Nat :=
  if s.exitBig n d then ((s.tile n).factor ((s.tile n).spare i).slice).overs + 1 else 0

/-- The factors that a visit with plausible ones leaves its slice, of which `d` is the difference (R75, R76). -/
def State.exitFactor (s : State) (n i : Nat) (g o d : Int) : Factor :=
  { visitStep ((s.tile n).factor ((s.tile n).spare i).slice) g o with
    overs := s.exitOvers n i d,
    fail := decide (3 ≤ s.exitOvers n i d) || s.exitBig n d &&
      ((s.tile n).factor ((s.tile n).spare i).slice).fail }

/-- The slice has its new factors and the difference is shown. -/
def State.exitPut (s : State) (n i : Nat) (g o d : Int) : State :=
  (s.diffShown n d).putFactor n ((s.tile n).spare i).slice (s.exitFactor n i g o d) (decide (3 ≤ s.exitOvers n i d))

/-- A tile whose spare has left its slice, shown in the header of the next row group. -/
def Tile.visitEnded (t : Tile) (i : Nat) (x : Spare) : Tile :=
  { t.setSpare i { x with phase := .idle, release := false } with swap := some ⟨i, x.slice, true⟩ }

theorem Tile.visitEnded_phase (t : Tile) (i : Nat) (x : Spare) : ((t.visitEnded i x).spare i).phase = .idle :=
  congrArg Spare.phase ((mget_mset _ _ _ _ _).trans (if_pos rfl))

theorem State.exitPut_regsButEvt (s : State) (n i : Nat) (g o d : Int) :
    regsButEvt [TIL_SWAPDIFF_LAST n, TIL_SWAPDIFF_MAXABS n] s (s.exitPut n i g o d) :=
  (s.diffShown_regsBut n d).toEvt.trans (State.putFactor_regsButEvt _ n _ _ _ _)

theorem scalFlags_noEvt (n : Nat) : (TIL_CVSTAT_SCAL_BUSY n).noEvt ∧ (TIL_CVSTAT_SCAL_DONE n).noEvt := by
  simp only [Fld.noEvt, Fld.key, TIL_CVSTAT_SCAL_BUSY, TIL_CVSTAT_SCAL_DONE, MEM_TESTABORTS_COUNT]
  omega

theorem swapdiff_noEvt (n : Nat) : (TIL_SWAPDIFF_LAST n).noEvt ∧ (TIL_SWAPDIFF_MAXABS n).noEvt := by
  simp only [Fld.noEvt, Fld.key, TIL_SWAPDIFF_LAST, TIL_SWAPDIFF_MAXABS, MEM_TESTABORTS_COUNT]
  omega

theorem State.exitPut_busy (s : State) (n i : Nat) (g o d : Int) :
    (s.exitPut n i g o d).get (TIL_CVSTAT_SCAL_BUSY n) = s.get (TIL_CVSTAT_SCAL_BUSY n) := by
  refine s.exitPut_regsButEvt n i g o d _ (scalFlags_noEvt n).1 ?_
  simp only [List.forall_mem_cons, Fld.key, TIL_CVSTAT_SCAL_BUSY, TIL_SWAPDIFF_LAST, TIL_SWAPDIFF_MAXABS]
  refine ⟨?_, ?_, List.forall_mem_nil _⟩ <;> omega

theorem State.swapExit_serving (s : State) (n i : Nat) (a b g o : Int)
    (hp : ((s.tile n).spare i).phase = .serving) (hg : plausible g o = true)
    (hb : s.get (TIL_CVSTAT_SCAL_BUSY n) = 0) : s.swapExit n i a b g o =
      ((s.exitPut n i g o (s.exitDiff n i a b g o)).setTile n
        (((s.exitPut n i g o (s.exitDiff n i a b g o)).tile n).visitEnded i ((s.tile n).spare i))).tileReport n := by
  unfold State.swapExit
  extract_lets t x k f visit good f₁ d big ov fault f₂ s₁ s₂ u busy rot v
  have hv : visit = true := by unfold visit x t; rw [hp]; rfl
  have hf : f₁ = visitStep f g o := if_pos (by rw [hv]; exact hg)
  have hd : d = s.exitDiff n i a b g o := by unfold d; rw [hf]; rfl
  have hfault : fault = decide (3 ≤ s.exitOvers n i d) := by
    unfold fault good
    rw [hv, hg]
    rfl
  have hput : f₂ = s.exitFactor n i g o d := (if_pos hv).trans (by rw [hf, hfault]; rfl)
  have hs : s₂ = s.exitPut n i g o (s.exitDiff n i a b g o) := by
    unfold s₂
    rw [hput, hfault, ← hd]
    rfl
  have hbusy : busy = false := by
    unfold busy
    rw [State.flag, hs, State.exitPut_busy, hb]
    rfl
  have hrot : rot = x.rot := if_pos hv
  unfold v u
  rw [hrot, hbusy, if_pos hv, hs]
  rfl

end Sys2Proof.Machine
end

section
/-! SUPPORT. Self-calibration of a tile: rotation stops and starts, the fitted factors are stored (R72, R77 to R80). -/

namespace Sys2Proof.Machine

open Reg

/-! ### Rotation -/

/-- Steps over the spares leave the rest of the tile. -/
theorem Tile.foldl_spares {f : Tile → Nat → Tile} (h : ∀ t i, f t i = { t with spares := (f t i).spares })
    (l : List Nat) (t : Tile) : l.foldl f t = { t with spares := (l.foldl f t).spares } := by
  induction l generalizing t with
  | nil => rfl
  | cons i l ih =>
    exact (ih (f t i)).trans (congrArg (fun u : Tile => { u with spares := (l.foldl f (f t i)).spares }) (h t i))

/-- No spare rotates any more (R77). -/
def Tile.stopped (t : Tile) : Tile :=
  (List.range 4).foldl (fun (t : Tile) i => t.setSpare i { t.spare i with rot := false }) t

theorem Tile.stopped_frame (t : Tile) : t.stopped = { t with spares := t.stopped.spares } :=
  Tile.foldl_spares (fun _ _ => rfl) _ t

theorem Tile.foldl_stop_rot (l : List Nat) (t : Tile) (i : Nat) (h : i ∈ l ∨ (t.spare i).rot = false) :
    ((l.foldl (fun (t : Tile) i => t.setSpare i { t.spare i with rot := false }) t).spare i).rot = false := by
  induction l generalizing t with
  | nil => simpa using h
  | cons j l ih =>
    refine ih _ ?_
    by_cases hij : i = j
    · exact .inr (by rw [Tile.spare_setSpare, if_pos hij])
    · rw [Tile.spare_setSpare, if_neg hij]
      exact h.imp (fun hm => (List.mem_cons.mp hm).resolve_left hij) id

theorem Tile.stopped_rot (t : Tile) (i : Nat) (hi : i < 4) : (t.stopped.spare i).rot = false :=
  Tile.foldl_stop_rot _ t i (.inl (List.mem_range.mpr hi))

theorem State.report_setTile_oneTile (s : State) (n : Nat) (t : Tile) : OneTile n s ((s.setTile n t).tileReport n) :=
  (s.setTile_oneTile n t).trans (.of_keeps n (State.tileReport_keeps _ n) rfl)

theorem State.report_setTile_regsBut (s : State) (n : Nat) (t : Tile) :
    regsBut (tileShown n) s ((s.setTile n t).tileReport n) := (s.setTile n t).tileReport_regsBut n

theorem State.set_oneTile (s : State) (n : Nat) (f : Fld) (v : Nat) : OneTile n s (s.set f v) := .of_sensor n rfl

theorem State.stopRotation_tile (s : State) (n : Nat) : (s.stopRotation n).tile n = (s.tile n).stopped :=
  (State.tileReport_tile _ n n).trans (State.tile_setTile_self _ n _)

theorem State.stopRotation_oneTile (s : State) (n : Nat) : OneTile n s (s.stopRotation n) := by
  unfold State.stopRotation
  exact s.report_setTile_oneTile n _

theorem State.stopRotation_regsBut (s : State) (n : Nat) : regsBut (tileShown n) s (s.stopRotation n) := by
  unfold State.stopRotation
  exact s.report_setTile_regsBut n _

theorem State.startRotation_regsBut (s : State) (n : Nat) : regsBut (tileShown n) s (s.startRotation n) := by
  unfold State.startRotation
  split
  · exact .refl _ s
  · exact s.report_setTile_regsBut n _

theorem State.startRotation_oneTile (s : State) (n : Nat) : OneTile n s (s.startRotation n) := by
  unfold State.startRotation
  split
  · exact .refl n s
  · exact s.report_setTile_oneTile n _

/-- A start of rotation changes the tile's spares alone. -/
theorem State.startRotation_tile (s : State) (n : Nat) :
    (s.startRotation n).tile n = { s.tile n with spares := ((s.startRotation n).tile n).spares } := by
  unfold State.startRotation
  split
  · rfl
  · rw [State.tileReport_tile, State.tile_setTile_self]
    refine Tile.foldl_spares (fun t i => ?_) _ _
    dsimp only
    split <;> rfl

/-! ### The start -/

theorem State.scalBegin_tile (s : State) (n : Nat) : (s.scalBegin n).tile n =
    { (s.tile n).stopped with integ := none, swap := none, ovr1 := [], ovr2 := [] } := by
  unfold State.scalBegin
  rw [State.tile_set, State.tile_setTile_self, s.stopRotation_tile n]

theorem State.scalBegin_oneTile (s : State) (n : Nat) : OneTile n s (s.scalBegin n) := by
  unfold State.scalBegin
  exact ((s.stopRotation_oneTile n).trans (State.setTile_oneTile _ n _)).trans (State.set_oneTile _ n _ _)

theorem State.scalBegin_regsBut (s : State) (n : Nat) :
    regsBut (TIL_CVSTAT_SCAL_BUSY n :: tileShown n) s (s.scalBegin n) := by
  have h : regsBut (TIL_CVSTAT_SCAL_BUSY n :: tileShown n) s (s.stopRotation n) :=
    fun f hf => s.stopRotation_regsBut n f fun g hg => hf g (.tail _ hg)
  unfold State.scalBegin
  exact (h.setTile n _).set (.head _)

/-! ### The end -/

/-- The factors of entry `k` after a fit, stored where plausible (R64, R80). -/
def Tile.fitted (fs : List (Int × Int)) (t : Tile) (k : Nat) : Tile :=
  let f := t.factor k
  let p := fs.getD k (f.gain, f.ofs)
  t.setFactor k (if plausible p.1 p.2 then ⟨p.1, p.2, false, 0⟩ else { f with fail := true })

theorem Tile.foldl_fitted_settle (fs : List (Int × Int)) (l : List Nat) (t : Tile) :
    (l.foldl (Tile.fitted fs) t).settle = t.settle := by
  induction l generalizing t with
  | nil => rfl
  | cons k l ih => exact ih _

/-- Plausible factors are all stored. -/
theorem Tile.foldl_fitted_factor {fs : List (Int × Int)} (h : ∀ p ∈ fs, plausible p.1 p.2 = true) (t : Tile)
    (N : Nat) (hN : N ≤ fs.length) (k : Nat) (hk : k < N) : ((List.range N).foldl (Tile.fitted fs) t).factor k =
      ⟨(fs.getD k (0, 0)).1, (fs.getD k (0, 0)).2, false, 0⟩ := by
  induction N with
  | zero => omega
  | succ N ih =>
    rw [List.range_succ, List.foldl_append, List.foldl_cons, List.foldl_nil, Tile.fitted, Tile.factor_setFactor]
    by_cases hkN : k = N
    · have hget : ∀ d, fs.getD k d = fs[k] := fun d => by
        rw [List.getD_eq_getElem?_getD, List.getElem?_eq_getElem (by omega), Option.getD_some]
      rw [if_pos hkN, ← hkN, hget, hget, if_pos (h _ (List.getElem_mem _))]
    · rw [if_neg hkN]
      exact ih (by omega) (by omega)

/-- A tile of the NK2048 with the factors of a fit. -/
def Tile.refit (t : Tile) (fs : List (Int × Int)) : Tile := (List.range 260).foldl (Tile.fitted fs) t

/-- Tile `t` is stored and settles for 4 whole frames (R79), SCAL_BUSY is cleared and SCAL_DONE set, and SCAL_FAIL where
an entry is at fault. -/
def State.scalStored (s : State) (n : Nat) (t : Tile) : State :=
  let u := ((s.setTile n { t with settle := max t.settle 4, owed := 4 }).set (TIL_CVSTAT_SCAL_BUSY n) 0).set
    (TIL_CVSTAT_SCAL_DONE n) 1
  if t.factors.any (fun p => p.2.fail) then u.set (TIL_CVSTAT_SCAL_FAIL n) 1 else u

/-- TIL[n] follows, and CONV_CAL is raised. -/
def State.scalTold (s : State) (n : Nat) (t : Tile) : State :=
  ((s.scalStored n t).tileReport n).raise (Src.convCal n)

/-- The last step of a fit is at most a start of rotation. -/
theorem State.scalDone_cases (s : State) (n : Nat) (fs : List (Int × Int)) (hv : s.fuses.nk1024 = false)
    (hb : s.get (TIL_CVSTAT_SCAL_BUSY n) = 1) :
    s.scalDone n fs = (s.scalTold n ((s.tile n).refit fs)).startRotation n ∨
      s.scalDone n fs = s.scalTold n ((s.tile n).refit fs) := by
  unfold State.scalDone
  rw [if_pos ((s.flag_iff _).mpr hb)]
  extract_lets count t anyFail s₁ s₂ s₃ s₄
  have hcount : count = 260 := if_neg (by rw [hv]; decide)
  have hfold : t = (List.range count).foldl (Tile.fitted fs) (s.tile n) := rfl
  have ht : t = (s.tile n).refit fs := by rw [hfold, hcount, Tile.refit]
  have htold : s₄ = s.scalTold n t := rfl
  rw [htold, ht]
  split
  · exact .inl rfl
  · exact .inr rfl

/-- What TIL[n] shows of a fit and of its end. -/
abbrev scalFlds (n : Nat) : List Fld :=
  TIL_CVSTAT_SCAL_BUSY n :: TIL_CVSTAT_SCAL_DONE n :: TIL_CVSTAT_SCAL_FAIL n :: tileShown n

theorem State.scalStored_regsBut (s : State) (n : Nat) (t : Tile) :
    regsBut [TIL_CVSTAT_SCAL_BUSY n, TIL_CVSTAT_SCAL_DONE n, TIL_CVSTAT_SCAL_FAIL n] s (s.scalStored n t) := by
  unfold State.scalStored
  extract_lets u
  have hu : regsBut [TIL_CVSTAT_SCAL_BUSY n, TIL_CVSTAT_SCAL_DONE n, TIL_CVSTAT_SCAL_FAIL n] s u :=
    (((regsBut.refl _ s).setTile n _).set (.head _)).set (.tail _ (.head _))
  exact .ite (hu.set (.tail _ (.tail _ (.head _)))) hu

theorem State.scalStored_flags (s : State) (n : Nat) (t : Tile) :
    (s.scalStored n t).get (TIL_CVSTAT_SCAL_BUSY n) = 0 ∧ (s.scalStored n t).get (TIL_CVSTAT_SCAL_DONE n) = 1 := by
  have hbd : (TIL_CVSTAT_SCAL_BUSY n).key ≠ (TIL_CVSTAT_SCAL_DONE n).key := key_ne_of_lo rfl rfl
  have hbf : (TIL_CVSTAT_SCAL_BUSY n).key ≠ (TIL_CVSTAT_SCAL_FAIL n).key := key_ne_of_lo rfl rfl
  have hdf : (TIL_CVSTAT_SCAL_DONE n).key ≠ (TIL_CVSTAT_SCAL_FAIL n).key := key_ne_of_lo rfl rfl
  unfold State.scalStored
  extract_lets u
  have hu : u.get (TIL_CVSTAT_SCAL_BUSY n) = 0 ∧ u.get (TIL_CVSTAT_SCAL_DONE n) = 1 :=
    ⟨(State.get_set_ne _ _ _ _ hbd).trans (State.get_set _ _ 0), State.get_set _ _ 1⟩
  split
  · rwa [State.get_set_ne _ _ _ _ hbf, State.get_set_ne _ _ _ _ hdf]
  · exact hu

theorem State.scalStored_tile (s : State) (n : Nat) (t : Tile) :
    (s.scalStored n t).tile n = { t with settle := max t.settle 4, owed := 4 } := by
  unfold State.scalStored
  extract_lets u
  have hu : u.tile n = { t with settle := max t.settle 4, owed := 4 } := State.tile_setTile_self s n _
  split <;> exact hu

theorem State.scalStored_oneTile (s : State) (n : Nat) (t : Tile) : OneTile n s (s.scalStored n t) := by
  unfold State.scalStored
  extract_lets u
  have hu : OneTile n s u :=
    ((s.setTile_oneTile n _).trans (State.set_oneTile _ n _ _)).trans (State.set_oneTile _ n _ _)
  split
  · exact hu.trans (State.set_oneTile _ n _ _)
  · exact hu

theorem State.scalStored_fuses (s : State) (n : Nat) (t : Tile) : (s.scalStored n t).fuses = s.fuses := by
  unfold State.scalStored
  extract_lets u
  split <;> rfl

/-! ### The end, with its event -/

/-- The registers of a tile's fit lie above those of events. -/
theorem scalFlds_above (n : Nat) : ∀ g ∈ scalFlds n, 32 * 0x4000 ≤ g.key := by
  simp only [scalFlds, tileShown, List.forall_mem_cons, Fld.key, TIL_CVSTAT_SCAL_BUSY, TIL_CVSTAT_SCAL_DONE,
    TIL_CVSTAT_SCAL_FAIL, TIL_CVSTAT_FAILCNT, TIL_CVSTAT_ROTSP, TIL_CVSTAT_PARKED, TIL_ROTPOS_SP0, TIL_ROTPOS_SP1,
    TIL_ROTPOS_SP2, TIL_ROTPOS_SP3]
  refine ⟨?_, ?_, ?_, ?_, ?_, ?_, ?_, ?_, ?_, ?_, List.forall_mem_nil _⟩ <;> omega

theorem regsBut.trans {l : List Fld} {s t u : State} (h : regsBut l s t) (k : regsBut l t u) : regsBut l s u :=
  fun f hf => (k f hf).trans (h f hf)

theorem regsBut.mono {l m : List Fld} {s t : State} (h : regsBut l s t) (hl : ∀ f ∈ l, f ∈ m) : regsBut m s t :=
  fun f hf => h f fun g hg => hf g (hl g hg)

theorem State.srcExists_congr {s t : State} (h : t.fuses = s.fuses) (i : Nat) : t.srcExists i = s.srcExists i := by
  unfold State.srcExists State.nChans State.nTiles State.nBanks
  rw [h]

theorem enFld_below (i : Nat) : (enFld i).key < 32 * 0x4000 := by
  unfold enFld
  split <;> simp only [Fld.key, EVT_EN_EN] <;> omega

theorem statFld_below (i : Nat) : (EVT_STAT_STAT i).key < 32 * 0x4000 := by
  simp only [Fld.key, EVT_STAT_STAT]
  omega

/-- Tile registers decide no source's state. -/
theorem regsBut.srcEnabled {n : Nat} {s t : State} (h : regsBut (scalFlds n) s t) (i : Nat) :
    t.srcEnabled i = s.srcEnabled i := by
  rw [State.srcEnabled, State.srcEnabled, h.below (scalFlds_above n) (enFld_below _)]

theorem regsBut.srcStatus {n : Nat} {s t : State} (h : regsBut (scalFlds n) s t) (i : Nat) :
    t.srcStatus i = s.srcStatus i := by
  rw [State.srcStatus, State.srcStatus, h.below (scalFlds_above n) (statFld_below _)]

theorem tileShown_sub (n : Nat) : ∀ f ∈ tileShown n, f ∈ scalFlds n := fun _ h => .tail _ (.tail _ (.tail _ h))

theorem State.scalTold_tile (s : State) (n : Nat) (t : Tile) :
    (s.scalTold n t).tile n = { t with settle := max t.settle 4, owed := 4 } :=
  ((tile_of_keeps (State.raise_keeps _ _) n rfl).trans (State.tileReport_tile _ n n)).trans (s.scalStored_tile n t)

theorem State.scalTold_oneTile (s : State) (n : Nat) (t : Tile) : OneTile n s (s.scalTold n t) :=
  ((s.scalStored_oneTile n t).trans (.of_keeps n (State.tileReport_keeps _ n) rfl)).trans
    (.of_keeps n (State.raise_keeps _ _) rfl)

theorem State.scalTold_regsButEvt (s : State) (n : Nat) (t : Tile) :
    regsButEvt (tileShown n) (s.scalStored n t) (s.scalTold n t) :=
  (State.tileReport_regsBut _ n).toEvt.trans (State.raise_regsButEvt _ _ _)

/-- An enabled CONV_CAL of the tile is set. -/
theorem State.scalTold_raised (s : State) (n : Nat) (t : Tile) : raisedIn (Src.convCal n) s (s.scalTold n t) := by
  intro he hn
  have hregs : regsBut (scalFlds n) s ((s.scalStored n t).tileReport n) :=
    ((s.scalStored_regsBut n t).mono (by simp)).trans ((State.tileReport_regsBut _ n).mono (tileShown_sub n))
  have hfuses : ((s.scalStored n t).tileReport n).fuses = s.fuses :=
    (State.tileReport_keeps _ n).fuses.trans (s.scalStored_fuses n t)
  exact State.raise_status _ _ ((State.srcExists_congr hfuses _).trans he) ((hregs.srcEnabled _).trans hn)

section
variable {s : State} {n : Nat} {fs : List (Int × Int)}

/-- After CONV_CAL a start of rotation changes no more than spares and what TIL[n] shows of them. -/
theorem State.scalDone_after (hv : s.fuses.nk1024 = false) (hb : s.get (TIL_CVSTAT_SCAL_BUSY n) = 1) :
    regsBut (tileShown n) (s.scalTold n ((s.tile n).refit fs)) (s.scalDone n fs) ∧
    OneTile n (s.scalTold n ((s.tile n).refit fs)) (s.scalDone n fs) ∧ (s.scalDone n fs).tile n =
      { (s.scalTold n ((s.tile n).refit fs)).tile n with spares := ((s.scalDone n fs).tile n).spares } := by
  obtain h | h := s.scalDone_cases n fs hv hb <;> rw [h]
  · exact ⟨State.startRotation_regsBut _ n, State.startRotation_oneTile _ n, State.startRotation_tile _ n⟩
  · exact ⟨.refl _ _, .refl n _, rfl⟩

/-- A fit's end leaves the tile with its new factors, to settle for 4 whole frames. (The fit is named `t`, for a goal
about one of its fields is too large to check with the 260 factors in it.) -/
theorem State.scalDone_tile (hv : s.fuses.nk1024 = false) (hb : s.get (TIL_CVSTAT_SCAL_BUSY n) = 1) {t : Tile}
    (ht : (s.tile n).refit fs = t) : (s.scalDone n fs).tile n =
      { t with settle := max t.settle 4, owed := 4, spares := ((s.scalDone n fs).tile n).spares } := by
  have htile := (State.scalDone_after (fs := fs) hv hb).2.2
  rw [ht, State.scalTold_tile] at htile
  exact htile

theorem State.scalDone_oneTile (hv : s.fuses.nk1024 = false) (hb : s.get (TIL_CVSTAT_SCAL_BUSY n) = 1) :
    OneTile n s (s.scalDone n fs) := (s.scalTold_oneTile n _).trans (State.scalDone_after hv hb).2.1

theorem State.scalDone_regsBut_stored (hv : s.fuses.nk1024 = false) (hb : s.get (TIL_CVSTAT_SCAL_BUSY n) = 1) :
    regsButEvt (tileShown n) (s.scalStored n ((s.tile n).refit fs)) (s.scalDone n fs) :=
  (s.scalTold_regsButEvt n _).trans (State.scalDone_after hv hb).1.toEvt

theorem State.scalDone_raised (hv : s.fuses.nk1024 = false) (hb : s.get (TIL_CVSTAT_SCAL_BUSY n) = 1) :
    raisedIn (Src.convCal n) s (s.scalDone n fs) := fun he hn =>
  (((State.scalDone_after hv hb).1.mono (tileShown_sub n)).srcStatus _).trans (s.scalTold_raised n _ he hn)

end

end Sys2Proof.Machine
end

section
/-! SUPPORT. The clauses of O19, each from the lemmas about its command. -/

namespace Sys2Proof

open Sys2Proof.Machine Sys2Proof.Machine.Reg

/-- Fields of a tile's window at SCAL_BUSY and SWAPDIFF are none of those that follow its entries and spares. -/
theorem tileShown_ne (n : Nat) {f : Fld} (h : f.addr = 0x4064 + 0x100 * (n % 32) ∧ f.lo < 8 ∨
    f.addr = 0x4074 + 0x100 * (n % 32) ∧ f.lo < 32) : ∀ g ∈ tileShown n, f.key ≠ g.key := by
  simp only [tileShown, List.forall_mem_cons, Fld.key, TIL_CVSTAT_FAILCNT, TIL_CVSTAT_ROTSP, TIL_CVSTAT_PARKED,
    TIL_ROTPOS_SP0, TIL_ROTPOS_SP1, TIL_ROTPOS_SP2, TIL_ROTPOS_SP3]
  refine ⟨?_, ?_, ?_, ?_, ?_, ?_, ?_, List.forall_mem_nil _⟩ <;> omega

/-- A slot inside a frame. -/
theorem rowGroupSlot_inside {s : State} {n : Nat} {raw : List Int} {h : Header} (hn : n < s.nTiles)
    (hb : s.get (TIL_CVSTAT_SCAL_BUSY n) = 0) (ht : s.underTest 1 n = false) (hs : (s.tile n).swap = none)
    (hi : (s.tile n).integ = some h) (hf : h.frame = s.frameCnt % 65536) (hg : h.rgrp < 15) :
    ∃ t, exec (.rowGroupSlot n raw) s = .next t ∧ (t.tile n).sent = (s.tile n).sent ++ [s.sentGroup n h raw] ∧
      (t.tile n).integ = some (s.newHeader n (h.rgrp + 1)) ∧
      t.time = max s.time (s.slotAt s.sensor.gridK (h.rgrp + 1)) ∧
      t.get (TIL_OVRCNT_COUNT n) = satAdd 16 (s.get (TIL_OVRCNT_COUNT n))
        ((s.convert n h.rgrp raw).filter (·.2)).length ∧
      t = { s with time := t.time, regs := t.regs, sensor := { s.sensor with tiles := t.sensor.tiles } } ∧
      (∀ m, m ≠ n → t.tile m = s.tile m) ∧ regsBut (ovrFlds n) s t := by
  have hone := (s.slotSent_oneTile n h raw).trans (State.setTile_oneTile _ n
    { s.sentTile n h raw with integ := some (s.newHeader n (h.rgrp + 1)) })
  have hframe := (s.rowSlot_keeps n raw).frame
  rw [s.rowSlot_inside n raw h hn hb ht hs hi hf hg] at hframe
  refine ⟨_, congrArg ok (s.rowSlot_inside n raw h hn hb ht hs hi hf hg), ?_, ?_, ?_, ?_, ?_, hone.others, ?_⟩
  · rw [State.tile_setTile_self]
    rfl
  · rw [State.tile_setTile_self]
  · exact (State.countOvr_keeps _ n _ _ _).same.time rfl
  · exact (State.countOvr_count _ n _ _ _).trans (congrArg (satAdd 16 _) (ovr_count 256))
  · rw [← hone.sensor]
    exact hframe
  · exact s.slotSent_regsBut n h raw

/-- The entry of an idle spare that rotates. -/
theorem spareHandover_entry {s : State} {n i : Nat} {a b g o : Int} (hn : n < s.nTiles) (hi : i < 4)
    (hv : s.fuses.nk1024 = false) (hp : ((s.tile n).spare i).phase = .idle)
    (hk : ((s.tile n).spare i).parkOn = none) (hr : ((s.tile n).spare i).rot = true) :
    ∃ t, exec (.spareHandover n i a b g o) s = .next t ∧
      (t.tile n).spare i = { (s.tile n).spare i with
        phase := .serving, slice := (s.tile n).nextSlice (s.tile n).next,
        due := ((s.tile n).spare i).due + 7812500 } ∧
      (t.tile n).swap = some ⟨i, (s.tile n).nextSlice (s.tile n).next, false⟩ ∧
      (t.tile n).next = ((s.tile n).nextSlice (s.tile n).next + 1) % 256 ∧
      ((t.tile n).factor (256 + i)).ofs = ((s.tile n).factor (256 + i)).ofs +
        ((convCode ((s.tile n).factor ((s.tile n).nextSlice (s.tile n).next)) a).1 : Int) -
        ((convCode ((s.tile n).factor (256 + i)) b).1 : Int) ∧
      t.time = max s.time (((s.tile n).spare i).due / 2 * 2) ∧
      t = { s with time := t.time, regs := t.regs, sensor := { s.sensor with tiles := t.sensor.tiles } } ∧
      (∀ m, m ≠ n → t.tile m = s.tile m) ∧ regsBut (tileShown n) s t := by
  let u := s.advance (floor2 ((s.tile n).spare i).due)
  let k := (s.tile n).nextSlice (s.tile n).next
  have hone : OneTile n s (u.swapEntry n i k false a b) :=
    (OneTile.of_keeps n (s.advance_keeps _) rfl).trans (u.swapEntry_oneTile n i k false a b)
  have hentry := u.swapEntry_keeps n i k false a b
  have hframe := (hentry.step ((s.advance_keeps _).step (.refl 0x400000040C s) rfl) rfl).frame
  refine ⟨_, congrArg ok (s.handover_entry n i a b g o hn hi hv hp hk hr), ?_, ?_, ?_, ?_, ?_, ?_, hone.others, ?_⟩
  · rw [u.swapEntry_tile n i k a b]
    rw [Tile.visitBegun_spare, ← hk]
    rfl
  · rw [u.swapEntry_tile n i k a b]
    rfl
  · rw [u.swapEntry_tile n i k a b]
    rfl
  · rw [u.swapEntry_tile n i k a b, Tile.visitBegun_factor]
    exact (Int.add_sub_assoc _ _ _).symm
  · exact hentry.same.time rfl
  · rw [← hone.sensor]
    exact hframe
  · exact u.swapEntry_regsBut n i k false a b

/-- The exit of a visit with plausible factors. -/
theorem spareHandover_exit {s : State} {n i : Nat} {a b g o : Int} (hn : n < s.nTiles) (hi : i < 4)
    (hv : s.fuses.nk1024 = false) (hp : ((s.tile n).spare i).phase = .serving)
    (hg : plausible g o = true) (hb : s.get (TIL_CVSTAT_SCAL_BUSY n) = 0) :
    ∃ t, exec (.spareHandover n i a b g o) s = .next t ∧ ((t.tile n).spare i).phase = .idle ∧
      (t.tile n).swap = some ⟨i, ((s.tile n).spare i).slice, true⟩ ∧
      ((t.tile n).factor ((s.tile n).spare i).slice).gain =
        (visitStep ((s.tile n).factor ((s.tile n).spare i).slice) g o).gain ∧
      ((t.tile n).factor ((s.tile n).spare i).slice).ofs =
        (visitStep ((s.tile n).factor ((s.tile n).spare i).slice) g o).ofs ∧
      t.get (TIL_SWAPDIFF_MAXABS n) =
        max (s.get (TIL_SWAPDIFF_MAXABS n)) (t.getS (TIL_SWAPDIFF_LAST n)).natAbs % 2 ^ 15 ∧
      t.getS (TIL_SWAPDIFF_LAST n) = s.exitDiff n i a b g o ∧
      t.time = max s.time (((s.tile n).spare i).due / 2 * 2) ∧
      t = { s with time := t.time, regs := t.regs, evt := t.evt, mem := t.mem,
                   sensor := { s.sensor with tiles := t.sensor.tiles } } ∧
      (∀ m, m ≠ n → t.tile m = s.tile m) ∧
      regsButEvt (TIL_SWAPDIFF_LAST n :: TIL_SWAPDIFF_MAXABS n :: tileShown n) s t := by
  let u := s.advance (floor2 ((s.tile n).spare i).due)
  have hexit := (s.handover_exit n i a b g o hn hi hv hp).trans (u.swapExit_serving n i a b g o hp hg hb)
  obtain ⟨d, hd⟩ : ∃ d, s.exitDiff n i a b g o = d := ⟨_, rfl⟩
  have hd' : u.exitDiff n i a b g o = d := hd
  rw [hd'] at hexit
  obtain ⟨v, hput⟩ : ∃ v, u.exitPut n i g o d = v := ⟨_, rfl⟩
  have hv' : v.tile n = (s.tile n).setFactor ((s.tile n).spare i).slice (u.exitFactor n i g o d) := by
    rw [← hput]
    exact State.putFactor_tile _ n _ _ _
  obtain ⟨t, ht⟩ : ∃ t, (v.setTile n ((v.tile n).visitEnded i ((u.tile n).spare i))).tileReport n = t :=
    ⟨_, rfl⟩
  have htile : t.tile n = (v.tile n).visitEnded i ((s.tile n).spare i) := by
    rw [← ht, State.tileReport_tile, State.tile_setTile_self]
    rfl
  have hfactor : (t.tile n).factor ((s.tile n).spare i).slice = u.exitFactor n i g o d := by
    rw [htile, hv']
    exact (mget_mset _ _ _ _ _).trans (if_pos rfl)
  have hshown : regsButEvt (tileShown n) (u.diffShown n d) t := by
    rw [← ht, ← hput]
    exact (State.putFactor_regsButEvt _ n _ _ _ _).trans (State.report_setTile_regsBut _ n _).toEvt
  have hone : OneTile n s t := by
    rw [← ht, ← hput]
    exact ((OneTile.of_sensor n rfl : OneTile n s (u.diffShown n d)).trans (State.putFactor_oneTile _ n _ _ _)).trans
      (State.report_setTile_oneTile _ n _)
  have hlast : t.getS (TIL_SWAPDIFF_LAST n) = d := by
    have hbound := s.exitDiff_natAbs n i a b g o
    rw [hd] at hbound
    rw [State.getS, hshown _ (swapdiff_noEvt n).1 (tileShown_ne n (.inr ⟨rfl, Nat.zero_lt_succ _⟩)),
      State.diffShown_last]
    exact sgn_unsgn d (by omega) (by omega)
  rw [hput, ht] at hexit
  have hkeeps := s.handover_keeps n i a b g o
  rw [hexit] at hkeeps
  refine ⟨t, congrArg ok hexit, ?_, ?_, ?_, ?_, ?_, ?_, ?_, ?_, hone.others, ?_⟩
  · rw [htile, Tile.visitEnded_phase]
  · rw [htile]
    rfl
  · rw [hfactor]
    rfl
  · rw [hfactor]
    rfl
  · rw [hlast, hshown _ (swapdiff_noEvt n).2 (tileShown_ne n (.inr ⟨rfl, ?_⟩)), State.diffShown_max]
    · rfl
    · show 16 < 32
      decide
  · rw [hlast, hd]
  · rw [← ht, ← hput]
    exact ((State.tileReport_keeps _ n).same.time rfl).trans ((State.putFactor_keeps _ n _ _ _).same.time rfl)
  · rw [← hone.sensor]
    exact hkeeps.frame
  · refine regsButEvt.trans ?_ (hshown.mono fun f hf => .tail _ (.tail _ hf))
    exact (u.diffShown_regsBut n d).toEvt.mono (by simp)

/-- A tile's calibration starts. -/
theorem tilScal_starts {s : State} {r : Requester} {n : Nat} (hp : s.protected r (0x4060 + 0x100 * n) = false)
    (hn : n < s.nTiles) (hm : s.mode ≠ 3) (hb : s.get (TIL_CVSTAT_SCAL_BUSY n) = 0)
    (hl : s.sensor.laneLost = false) : ∃ t, exec (.tilScal r n) s = .next t ∧
      t.get (TIL_CVSTAT_SCAL_BUSY n) = 1 ∧ (t.tile n).integ = none ∧ (t.tile n).swap = none ∧
      (∀ i : Nat, i < 4 → ((t.tile n).spare i).rot = false) ∧
      t.tile n = { s.tile n with spares := (t.tile n).spares, integ := none, swap := none, ovr1 := [], ovr2 := [] } ∧
      tileOnly n s t ∧ regsBut (TIL_CVSTAT_SCAL_BUSY n :: tileShown n) s t := by
  have hfree : ¬(s.sorting || s.flag (TIL_CVSTAT_SCAL_BUSY n)) = true := by
    simp [State.sorting, State.flag, hm, hb]
  have hstart : s.scalStart n = s.scalBegin n := by rw [State.scalStart, if_neg hfree, hl]; rfl
  have htile := s.scalBegin_tile n
  have hone := s.scalBegin_oneTile n
  have hframe := (s.scalBegin_keeps n).frame
  have hstopped := (s.tile n).stopped_frame
  have hrot := (s.tile n).stopped_rot
  generalize (s.tile n).stopped = x at htile hstopped hrot
  refine ⟨s.scalBegin n, ?_, State.get_set _ _ 1, ?_, ?_, ?_, ?_, ⟨?_, hone.others⟩, s.scalBegin_regsBut n⟩
  · rw [← hstart]
    exact congrArg ok ((if_pos hn).trans (s.guardW_of_unprotected r _ _ hp))
  · rw [htile]
  · rw [htile]
  · rw [htile]
    exact hrot
  · rw [htile]
    exact congrArg (fun t : Tile => { t with integ := none, swap := none, ovr1 := [], ovr2 := [] }) hstopped
  · rw [← hone.sensor]
    exact hframe

/-- Without a free tile and a stopped sorter the command is refused. -/
theorem tilScal_refused {s : State} {r : Requester} {n : Nat} (hp : s.protected r (0x4060 + 0x100 * n) = false)
    (hn : n < s.nTiles) (h : s.mode = 3 ∨ s.get (TIL_CVSTAT_SCAL_BUSY n) = 1) :
    exec (.tilScal r n) s = .next s.cfgErr := by
  have hheld : (s.sorting || s.flag (TIL_CVSTAT_SCAL_BUSY n)) = true := by simpa [State.sorting, State.flag] using h
  have hstart : s.scalStart n = s.cfgErr := if_pos hheld
  rw [← hstart]
  exact congrArg ok ((if_pos hn).trans (s.guardW_of_unprotected r _ _ hp))

/-- With the control lane lost the command waits. -/
theorem tilScal_waits {s : State} {r : Requester} {n : Nat} (hp : s.protected r (0x4060 + 0x100 * n) = false)
    (hn : n < s.nTiles) (hm : s.mode ≠ 3) (hb : s.get (TIL_CVSTAT_SCAL_BUSY n) = 0) (hl : s.sensor.laneLost = true) :
    exec (.tilScal r n) s = .next (s.stagePut (.scal n)) := by
  have hfree : ¬(s.sorting || s.flag (TIL_CVSTAT_SCAL_BUSY n)) = true := by
    simp [State.sorting, State.flag, hm, hb]
  have hstart : s.scalStart n = s.stagePut (.scal n) := by rw [State.scalStart, if_neg hfree, if_pos hl]
  rw [← hstart]
  exact congrArg ok ((if_pos hn).trans (s.guardW_of_unprotected r _ _ hp))

/-- A fit of a tile of the NK2048 ends with all factors plausible. -/
theorem scalComplete_stores {s : State} {n : Nat} {fs : List (Int × Int)}
    (hb : s.get (TIL_CVSTAT_SCAL_BUSY n) = 1) (hv : s.fuses.nk1024 = false) (hlen : fs.length = 260)
    (hfs : ∀ p ∈ fs, plausible p.1 p.2 = true) (hop : s.opRuns 0x0304 = false) :
    ∃ t, exec (.scalComplete n fs) s = .next t ∧ t.get (TIL_CVSTAT_SCAL_BUSY n) = 0 ∧
      t.get (TIL_CVSTAT_SCAL_DONE n) = 1 ∧ (t.tile n).owed = 4 ∧ (t.tile n).settle = max (s.tile n).settle 4 ∧
      (∀ k : Nat, k < 260 → (t.tile n).factor k = ⟨(fs.getD k (0, 0)).1, (fs.getD k (0, 0)).2, false, 0⟩) ∧
      raisedIn (Src.convCal n) s t ∧
      t = { s with regs := t.regs, evt := t.evt, mem := t.mem, sensor := { s.sensor with tiles := t.sensor.tiles } } ∧
      (∀ m, m ≠ n → t.tile m = s.tile m) ∧ regsButEvt (scalFlds n) s t := by
  have hruns : (s.scalDone n fs).opRuns 0x0304 = false := by
    rw [State.opRuns, (s.scalDone_keeps n fs).same.baind rfl]
    exact hop
  have hexec : exec (.scalComplete n fs) s = .next (s.scalDone n fs) :=
    congrArg ok (if_neg (by rw [hruns, Bool.and_false]; exact Bool.false_ne_true))
  obtain ⟨x, hx⟩ : ∃ x, (s.tile n).refit fs = x := ⟨_, rfl⟩
  have hstored := State.scalDone_regsBut_stored (fs := fs) hv hb
  have htile := State.scalDone_tile hv hb hx
  have hone := State.scalDone_oneTile (fs := fs) hv hb
  have hframe := (s.scalDone_keeps n fs).frame
  have hraised := State.scalDone_raised (fs := fs) hv hb
  rw [hx] at hstored
  have hsettle : x.settle = (s.tile n).settle := by
    rw [← hx]
    exact Tile.foldl_fitted_settle fs _ _
  have hfactor : ∀ k, k < 260 → x.factor k = ⟨(fs.getD k (0, 0)).1, (fs.getD k (0, 0)).2, false, 0⟩ := by
    rw [← hx]
    exact Tile.foldl_fitted_factor hfs _ 260 hlen.ge
  obtain ⟨t, ht⟩ : ∃ t, s.scalDone n fs = t := ⟨_, rfl⟩
  rw [ht] at hexec hstored htile hone hframe hraised
  obtain ⟨hbusy, hdone⟩ := s.scalStored_flags n x
  refine ⟨t, hexec, ?_, ?_, ?_, ?_, ?_, hraised, ?_, hone.others, ?_⟩
  · rw [hstored _ (scalFlags_noEvt n).1 (tileShown_ne n (.inl ⟨rfl, Nat.zero_lt_succ _⟩)), hbusy]
  · rw [hstored _ (scalFlags_noEvt n).2 (tileShown_ne n (.inl ⟨rfl, ?_⟩)), hdone]
    show 1 < 8
    decide
  · rw [htile]
  · rw [htile, ← hsettle]
  · rw [htile]
    exact hfactor
  · rw [← hone.sensor]
    exact hframe
  · exact ((s.scalStored_regsBut n x).toEvt.mono (by simp)).trans (hstored.mono (tileShown_sub n))

/-- Settles O19, command by command: the slot, the two ends of a spare's visit, and the start, the wait, the refusal and
the end of a self-calibration. -/
theorem convertedRowGroupsSpareVisitsAndSelfCalibration :
    Obligations.ConvertedRowGroupsSpareVisitsAndSelfCalibration := by
  refine ⟨fun s n raw h hn hb ht hs hi hf hg => rowGroupSlot_inside hn hb ht hs hi hf hg,
    fun s n i a b g o hn hi hv hp hk hr => spareHandover_entry hn hi hv hp hk hr,
    fun s n i a b g o hn hi hv hp _ hg hb => spareHandover_exit hn hi hv hp hg hb,
    fun s r n hp hn hm hb hl => tilScal_starts hp hn hm hb hl,
    fun s r n hp hn hm hb hl => ⟨_, tilScal_waits hp hn hm hb hl, rfl⟩,
    fun s r n hp hn h => ⟨_, tilScal_refused hp hn h, cfgErr_alone s⟩,
    fun s n fs _ hb hv hlen hfs hop => scalComplete_stores hb hv hlen hfs hop⟩

end Sys2Proof
end

section
/-! SUPPORT. Tile windows: what a write that acts on one tile leaves alone, and the slice factors as CFDATA writes them
(R63, R65). -/

namespace Sys2Proof

open Sys2Proof.Machine Sys2Proof.Machine.Reg

/-- A write at a tile that the variant has, which R339 lets through, answers what it carries out. -/
theorem presentTile_answers {s : State} {r : Requester} {n a : Nat} {f : State → State} {P : State → Prop}
    (hp : s.protected r a = false) (hn : n < s.nTiles) (hP : P (f s)) :
    ∃ t, ok (if n < s.nTiles then s.guardW r a f else s) = .next t ∧ P t :=
  ⟨f s, congrArg ok ((if_pos hn).trans (s.guardW_of_unprotected r a f hp)), hP⟩

/-! ### One tile and registers -/

theorem tileOnly.trans {n : Nat} {s t u : State} (h : tileOnly n s t) (k : tileOnly n t u) : tileOnly n s u :=
  ⟨k.1.trans (congrArg (fun x : State =>
      { x with regs := u.regs, sensor := { x.sensor with tiles := u.sensor.tiles } }) h.1),
    fun m hm => (k.2 m hm).trans (h.2 m hm)⟩

theorem tileOnly_of_regs {s t : State} (n : Nat) (h : t = { s with regs := t.regs }) : tileOnly n s t := by
  have hs : t.sensor = s.sensor := by rw [h]
  refine ⟨?_, fun m _ => by rw [State.tile, State.tile, hs]⟩
  rw [hs]
  exact h

theorem tileOnly_setTile (s : State) (n : Nat) (x : Tile) : tileOnly n s (s.setTile n x) :=
  ⟨rfl, fun m hm => s.tile_setTile_ne n m x hm⟩

theorem tileOnly_set (s : State) (n : Nat) (f : Fld) (v : Nat) : tileOnly n s (s.set f v) := tileOnly_of_regs n rfl

theorem tileOnly_report_setTile (s : State) (n : Nat) (x : Tile) : tileOnly n s ((s.setTile n x).tileReport n) :=
  (tileOnly_setTile s n x).trans (tileOnly_of_regs n (State.tileReport_keeps _ n).frame)

/-! ### CFDATA -/

theorem cfAdvance_frame (s : State) (n : Nat) : s.cfAdvance n = { s with regs := (s.cfAdvance n).regs } := by
  rw [State.cfAdvance]
  split <;> rfl

theorem cfAdvance_index (s : State) (n : Nat) : (s.cfAdvance n).get (TIL_CFSEL_INDEX n) =
    if s.get (TIL_CFSEL_AUTOINC n) = 1 then (s.get (TIL_CFSEL_INDEX n) + 1) % 256 else s.get (TIL_CFSEL_INDEX n) := by
  rw [State.cfAdvance]
  simp only [State.flag_iff]
  split
  · exact State.get_set _ _ _
  · rfl

theorem cfAdvance_regsBut (s : State) (n : Nat) : regsBut [TIL_CFSEL_INDEX n] s (s.cfAdvance n) :=
  .ite ((regsBut.refl _ s).set List.mem_cons_self) (.refl _ s)

theorem cfAdvance_sensor (s : State) (n : Nat) : (s.cfAdvance n).sensor = s.sensor := by rw [cfAdvance_frame]

theorem cfAdvance_tile (s : State) (n : Nat) : (s.cfAdvance n).tile n = s.tile n := by
  rw [State.tile, cfAdvance_sensor]
  rfl

/-- CFDATA has to wait: sorting runs, or a tile calibrates itself (R65). -/
def cfHeld (s : State) : Bool := s.sorting || s.tileList.any fun m => s.flag (TIL_CVSTAT_SCAL_BUSY m)

theorem cfHeld_false {s : State} (hm : s.mode ≠ 3) (hb : ∀ m, m < s.nTiles → s.get (TIL_CVSTAT_SCAL_BUSY m) = 0) :
    cfHeld s = false := by
  refine Bool.or_eq_false_iff.mpr ⟨beq_eq_false_iff_ne.mpr hm, List.any_eq_false.mpr fun m h => ?_⟩
  rw [State.flag_iff, hb m (List.mem_range.mp h)]
  decide

theorem cfHeld_true {s : State} {n : Nat} (hn : n < s.nTiles)
    (h : s.mode = 3 ∨ s.get (TIL_CVSTAT_SCAL_BUSY n) = 1) : cfHeld s = true :=
  Bool.or_eq_true_iff.mpr (h.imp beq_iff_eq.mpr fun hb =>
    List.any_eq_true.mpr ⟨n, List.mem_range.mpr hn, (s.flag_iff _).mpr hb⟩)

/-- The selected entry's factors as a word of CFDATA gives them. -/
def cfFactor (s : State) (n : Nat) (v : Word) : Factor :=
  { (s.tile n).factor (s.cfIndex n) with
    gain := (v.toNat % 65536 : Nat), ofs := sgn 12 (v.toNat / 65536 % 4096) }

theorem cfdata_gain (n : Nat) (v : Word) : fldOf (TIL_CFDATA_GAINF n) v = v.toNat % 65536 :=
  congrArg (· % 65536) (Nat.div_one _)

/-- The setting that a word of CFDATA asks for. -/
def cfSetting (s : State) (n : Nat) (v : Word) : Setting :=
  .factor n (s.cfIndex n) (v.toNat % 65536 : Nat) (sgn 12 (v.toNat / 65536 % 4096))

theorem cfdataW_free (s : State) (n : Nat) (v : Word) (h : cfHeld s = false) : s.cfdataW n v =
    (if s.sensor.laneLost then s.stagePut (cfSetting s n v) else s.applySetting (cfSetting s n v)).cfAdvance n := by
  have hh : ¬(s.sorting || s.tileList.any fun m => s.flag (TIL_CVSTAT_SCAL_BUSY m)) = true :=
    Bool.not_eq_true _ ▸ h
  simp only [State.cfdataW, cfdata_gain]
  rw [if_neg hh]
  rfl

theorem cfdataW_crosses (s : State) (n : Nat) (v : Word) (h : cfHeld s = false) (hl : s.sensor.laneLost = false) :
    s.cfdataW n v = (s.setTile n ((s.tile n).setFactor (s.cfIndex n) (cfFactor s n v))).cfAdvance n := by
  rw [cfdataW_free s n v h, hl]
  rfl

theorem cfdataW_waits (s : State) (n : Nat) (v : Word) (h : cfHeld s = false) (hl : s.sensor.laneLost = true) :
    s.cfdataW n v = (s.stagePut (cfSetting s n v)).cfAdvance n := by
  rw [cfdataW_free s n v h, if_pos hl]

theorem cfdataW_refused (s : State) (n : Nat) (v : Word) (h : cfHeld s = true) :
    s.cfdataW n v = s.cfgErr.cfAdvance n :=
  congrArg (State.cfAdvance · n) (if_pos h)

end Sys2Proof
end

section
/-! SUPPORT. Rotation of a tile's spares by ROTEN (R72, R77), and spares parked on a slice or released from it (R73,
R460). -/

namespace Sys2Proof

open Sys2Proof.Machine Sys2Proof.Machine.Reg

/-! ### Steps over the spares -/

section
variable {f : Tile → Nat → Tile} (hf : ∀ t i j, j ≠ i → (f t i).spare j = t.spare j)
include hf

theorem foldl_spare_of_not_mem (l : List Nat) (t : Tile) {i : Nat} (hi : i ∉ l) :
    (l.foldl f t).spare i = t.spare i := by
  induction l generalizing t with
  | nil => rfl
  | cons j l ih =>
    rw [List.mem_cons, not_or] at hi
    exact (ih _ hi.2).trans (hf t j i hi.1)

/-- Steps that each act on their own spare act on a listed one once. -/
theorem foldl_spare_of_mem {i : Nat} {g : Spare → Spare} (hg : ∀ t, (f t i).spare i = g (t.spare i)) (l : List Nat)
    (hl : l.Nodup) (hi : i ∈ l) (t : Tile) : (l.foldl f t).spare i = g (t.spare i) := by
  induction l generalizing t with
  | nil => cases hi
  | cons j l ih =>
    obtain ⟨hj, hl⟩ := List.nodup_cons.mp hl
    rcases List.mem_cons.mp hi with rfl | hi
    · exact (foldl_spare_of_not_mem hf l _ hj).trans (hg t)
    · have hne : i ≠ j := fun e => hj (e ▸ hi)
      exact (ih hl hi _).trans (congrArg g (hf t j i hne))

end

/-! ### ROTEN -/

theorem stopped_spare (t : Tile) {i : Nat} (hi : i < 4) : t.stopped.spare i = { t.spare i with rot := false } :=
  foldl_spare_of_mem (f := fun t i => t.setSpare i { t.spare i with rot := false })
    (g := fun x => { x with rot := false }) (fun t i j h => (t.spare_setSpare i j _).trans (if_neg h))
    (fun t => (t.spare_setSpare i i _).trans (if_pos rfl)) _ List.nodup_range (List.mem_range.mpr hi) t

/-- A start of rotation at time `now` as spare `i` takes it (R72, R77). -/
def rotStarted (now i : Nat) (x : Spare) : Spare :=
  if x.phase = .parked ∨ x.rot then x
  else { x with rot := true, due := if x.phase = .idle then now + i * 1953125 else x.due }

theorem rotStarted_idle {now i : Nat} {x : Spare} (hp : x.phase = .idle) (hr : x.rot = false) :
    rotStarted now i x = { x with rot := true, due := now + i * 1953125 } := by
  simp [rotStarted, hp, hr]

/-- A start of rotation as the tile takes it. -/
def startStep (now : Nat) (t : Tile) (i : Nat) : Tile :=
  if (t.spare i).phase = .parked ∨ (t.spare i).rot then t
  else t.setSpare i { t.spare i with
    rot := true, due := if (t.spare i).phase = .idle then now + i * 1953125 else (t.spare i).due }

theorem startStep_spare_ne (now : Nat) (t : Tile) (i j : Nat) (h : j ≠ i) :
    (startStep now t i).spare j = t.spare j := by
  unfold startStep
  split
  · rfl
  · exact (t.spare_setSpare i j _).trans (if_neg h)

theorem startStep_spare (now : Nat) (t : Tile) (i : Nat) :
    (startStep now t i).spare i = rotStarted now i (t.spare i) := by
  unfold startStep rotStarted
  split
  · rfl
  · exact (t.spare_setSpare i i _).trans (if_pos rfl)

theorem startRotation_eq (s : State) (n : Nat) (hv : s.fuses.nk1024 = false) : s.startRotation n =
    (s.setTile n ((List.range 4).foldl (startStep s.time) (s.tile n))).tileReport n := by
  rw [State.startRotation, hv]
  rfl

theorem startRotation_spare (s : State) {n i : Nat} (hv : s.fuses.nk1024 = false) (hi : i < 4) :
    ((s.startRotation n).tile n).spare i = rotStarted s.time i ((s.tile n).spare i) := by
  rw [startRotation_eq s n hv, State.tileReport_tile, State.tile_setTile_self]
  exact foldl_spare_of_mem (startStep_spare_ne s.time) (startStep_spare s.time · i) _ List.nodup_range
    (List.mem_range.mpr hi) _

theorem startRotation_tileOnly (s : State) (n : Nat) (hv : s.fuses.nk1024 = false) :
    tileOnly n s (s.startRotation n) := by
  rw [startRotation_eq s n hv]
  exact tileOnly_report_setTile s n _

theorem stopRotation_tileOnly (s : State) (n : Nat) : tileOnly n s (s.stopRotation n) :=
  tileOnly_report_setTile s n (s.tile n).stopped

theorem roten_ne_tileShown (n : Nat) : ∀ g ∈ tileShown n, (TIL_CVCTRL_ROTEN n).key ≠ g.key := by
  simp only [tileShown, List.forall_mem_cons, Fld.key, TIL_CVCTRL_ROTEN, TIL_CVSTAT_FAILCNT, TIL_CVSTAT_ROTSP,
    TIL_CVSTAT_PARKED, TIL_ROTPOS_SP0, TIL_ROTPOS_SP1, TIL_ROTPOS_SP2, TIL_ROTPOS_SP3]
  refine ⟨?_, ?_, ?_, ?_, ?_, ?_, ?_, List.forall_mem_nil _⟩ <;> omega

theorem rotenW_off (s : State) (n : Nat) (hv : s.fuses.nk1024 = false) :
    s.rotenW n false = (s.set (TIL_CVCTRL_ROTEN n) 0).stopRotation n := by
  rw [State.rotenW, hv]
  rfl

theorem rotenW_on (s : State) (n : Nat) (hv : s.fuses.nk1024 = false) (hb : s.biasOff = false)
    (hc : s.get (TIL_CVSTAT_SCAL_BUSY n) = 0) :
    s.rotenW n true = (s.set (TIL_CVCTRL_ROTEN n) 1).startRotation n := by
  have hk : (TIL_CVSTAT_SCAL_BUSY n).key ≠ (TIL_CVCTRL_ROTEN n).key := by
    simp only [Fld.key, TIL_CVSTAT_SCAL_BUSY, TIL_CVCTRL_ROTEN]; omega
  have hbusy : (s.set (TIL_CVCTRL_ROTEN n) 1).flag (TIL_CVSTAT_SCAL_BUSY n) = false := by
    rw [State.flag, State.get_set_ne _ _ _ _ hk, hc]
    rfl
  have hbias : (s.set (TIL_CVCTRL_ROTEN n) 1).biasOff = false := hb
  have hgo : s.rotenW n true = if ((s.set (TIL_CVCTRL_ROTEN n) 1).biasOff ||
      (s.set (TIL_CVCTRL_ROTEN n) 1).flag (TIL_CVSTAT_SCAL_BUSY n)) = true then s.set (TIL_CVCTRL_ROTEN n) 1
      else (s.set (TIL_CVCTRL_ROTEN n) 1).startRotation n := by
    rw [State.rotenW, hv]
    rfl
  rw [hgo, hbias, hbusy]
  rfl

/-- ROTEN as written stands, whatever follows in what TIL[n] shows of the spares. -/
theorem roten_shown {s t : State} {n : Nat} {v : Nat} (h : regsBut (tileShown n) (s.set (TIL_CVCTRL_ROTEN n) v) t) :
    t.get (TIL_CVCTRL_ROTEN n) = v % 2 ∧ regsBut (TIL_CVCTRL_ROTEN n :: tileShown n) s t :=
  ⟨(h _ (roten_ne_tileShown n)).trans (State.get_set _ _ _),
    ((regsBut.refl _ s).set List.mem_cons_self).trans (h.mono fun _ hf => .tail _ hf)⟩

/-! ### PARK and RELEASE -/

/-- One spare of a tile is replaced. -/
theorem setTile_setSpare (s : State) (n i : Nat) (x : Spare) :
    (((s.setTile n ((s.tile n).setSpare i x)).tile n).spare i = x) ∧
    ((s.setTile n ((s.tile n).setSpare i x)).tile n =
      { s.tile n with spares := ((s.setTile n ((s.tile n).setSpare i x)).tile n).spares }) ∧
    ∀ j, j ≠ i → ((s.setTile n ((s.tile n).setSpare i x)).tile n).spare j = (s.tile n).spare j := by
  rw [State.tile_setTile_self]
  exact ⟨(Tile.spare_setSpare _ i i x).trans (if_pos rfl), rfl,
    fun j hj => (Tile.spare_setSpare _ i j x).trans (if_neg hj)⟩

/-- SUBST shows the slice and the spare of a park. -/
def parkShown (s : State) (n k i : Nat) : State := (s.set (TIL_SUBST_SLICE n) k).set (TIL_SUBST_SPARE n) i

theorem parkShown_get (s : State) {n k i : Nat} (hk : k < 256) (hi : i < 4) :
    (parkShown s n k i).get (TIL_SUBST_SLICE n) = k ∧ (parkShown s n k i).get (TIL_SUBST_SPARE n) = i := by
  have hne : (TIL_SUBST_SLICE n).key ≠ (TIL_SUBST_SPARE n).key := key_ne_of_lo rfl rfl
  refine ⟨?_, (State.get_set _ _ _).trans (Nat.mod_eq_of_lt hi)⟩
  rw [parkShown, State.get_set_ne _ _ _ _ hne]
  exact (State.get_set _ _ _).trans (Nat.mod_eq_of_lt hk)

theorem parkShown_regsBut (s : State) (n k i : Nat) :
    regsBut [TIL_SUBST_SLICE n, TIL_SUBST_SPARE n] s (parkShown s n k i) := regsBut_set_pair s _ _ k i

theorem parkS_eq (s : State) {n k i : Nat} (hv : s.fuses.nk1024 = false) (hk : k < 256) (hi : i < 4) :
    s.parkS n k i = if ((s.tile n).spare i).phase = .parked ∨ (s.tile n).parkedOn k = true
      then (parkShown s n k i).cfgErr
      else (parkShown s n k i).setTile n
        ((s.tile n).setSpare i { (s.tile n).spare i with parkOn := some k }) := by
  rw [State.parkS, hv, Nat.mod_eq_of_lt hk, Nat.mod_eq_of_lt hi]
  rfl

theorem releaseS_parked (s : State) {n i : Nat} (hv : s.fuses.nk1024 = false) (hi : i < 4)
    (hp : ((s.tile n).spare i).phase = .parked) : s.releaseS n i = (s.set (TIL_SUBST_SPARE n) i).setTile n
      ((s.tile n).setSpare i { (s.tile n).spare i with release := true }) := by
  rw [State.releaseS, hv, Nat.mod_eq_of_lt hi]
  exact if_pos hp

/-- Settles O18: what each write leaves in the tile, by what holds it up. -/
theorem sliceFactorRotationAndParkingWritesActOnTheirTile :
    Obligations.SliceFactorRotationAndParkingWritesActOnTheirTile := by
  refine ⟨fun s r n v hp hn hm hb hl => presentTile_answers hp hn ?_,
    fun s r n v hp hn hm hb hl => presentTile_answers hp hn ?_,
    fun s r n v hp hn h => presentTile_answers hp hn ?_,
    fun s r n hp hn hv => presentTile_answers hp hn ?_,
    fun s r n hp hn hv hb hc => presentTile_answers hp hn ?_,
    fun s r n k i hp hn hv hk hi hx hy => presentTile_answers hp hn ?_,
    fun s r n k i hp hn hv hk hi hx => presentTile_answers hp hn ?_,
    fun s r n i hp hn hv hi hx => presentTile_answers hp hn ?_⟩
  · let x := (s.tile n).setFactor (s.cfIndex n) (cfFactor s n v)
    have htile : ((s.setTile n x).cfAdvance n).tile n = x :=
      (cfAdvance_tile _ n).trans (State.tile_setTile_self s n x)
    simp only [cfdataW_crosses s n v (cfHeld_false hm hb) hl]
    refine ⟨?_, cfAdvance_index _ n, ?_, (tileOnly_setTile s n x).trans (tileOnly_of_regs n (cfAdvance_frame _ n)),
      cfAdvance_regsBut _ n⟩
    · rw [htile]
      exact (Tile.factor_setFactor _ _ _ _).trans (if_pos rfl)
    · rw [htile]
      rfl
  · simp only [cfdataW_waits s n v (cfHeld_false hm hb) hl]
    refine ⟨by rw [cfAdvance_sensor]; rfl, ?_, cfAdvance_regsBut _ n⟩
    rw [cfAdvance_sensor, cfAdvance_frame]
    rfl
  · simp only [cfdataW_refused s n v (cfHeld_true hn h)]
    have hk : STG_STAT_CFGERR.key ≠ (TIL_CFSEL_INDEX n).key := by
      simp only [Fld.key, STG_STAT_CFGERR, TIL_CFSEL_INDEX]; omega
    refine ⟨?_, by rw [cfAdvance_frame]; rfl, ?_⟩
    · rw [cfAdvance_regsBut _ n _ (by simpa using hk)]
      exact (cfgErr_alone s).1
    · exact ((cfgErr_alone s).2.2.mono (by simp)).trans ((cfAdvance_regsBut _ n).mono (by simp))
  · simp only [rotenW_off s n hv]
    obtain ⟨hget, hregs⟩ := roten_shown (State.stopRotation_regsBut (s.set (TIL_CVCTRL_ROTEN n) 0) n)
    have htile := State.stopRotation_tile (s.set (TIL_CVCTRL_ROTEN n) 0) n
    refine ⟨hget, fun i hi => ?_, ?_, (tileOnly_set s n _ 0).trans (stopRotation_tileOnly _ n), hregs⟩
    · rw [htile]
      exact stopped_spare _ hi
    · rw [htile]
      exact Tile.stopped_frame _
  · simp only [rotenW_on s n hv hb hc]
    obtain ⟨hget, hregs⟩ := roten_shown (State.startRotation_regsBut (s.set (TIL_CVCTRL_ROTEN n) 1) n)
    refine ⟨hget, fun i hi hx hr => ?_, State.startRotation_tile _ n,
      (tileOnly_set s n _ 1).trans (startRotation_tileOnly _ n hv), hregs⟩
    exact (startRotation_spare (s.set (TIL_CVCTRL_ROTEN n) 1) hv hi).trans (rotStarted_idle hx hr)
  · have hfree : ¬(((s.tile n).spare i).phase = .parked ∨ (s.tile n).parkedOn k = true) := by
      simp [hx, hy]
    obtain ⟨hslice, hspare⟩ := parkShown_get s (n := n) hk hi
    obtain ⟨hself, htile, hothers⟩ :=
      setTile_setSpare (parkShown s n k i) n i { (s.tile n).spare i with parkOn := some k }
    simp only [parkS_eq s hv hk hi, if_neg hfree]
    exact ⟨hself, hslice, hspare, htile, fun j _ hj => hothers j hj,
      (tileOnly_of_regs n rfl).trans (tileOnly_setTile (parkShown s n k i) n _),
      (parkShown_regsBut s n k i).setTile n _⟩
  · simp only [parkS_eq s hv hk hi, if_pos hx]
    refine ⟨(cfgErr_alone _).1, rfl, ?_⟩
    exact ((parkShown_regsBut s n k i).mono (by simp)).trans ((cfgErr_alone _).2.2.mono (by simp))
  · obtain ⟨hself, htile, hothers⟩ :=
      setTile_setSpare (s.set (TIL_SUBST_SPARE n) i) n i { (s.tile n).spare i with release := true }
    simp only [releaseS_parked s hv hi hx]
    exact ⟨hself, (State.get_set s _ i).trans (Nat.mod_eq_of_lt hi), htile, fun j _ hj => hothers j hj,
      (tileOnly_set s n _ i).trans (tileOnly_setTile _ n _), ((regsBut.refl _ s).set List.mem_cons_self).setTile n _⟩

end Sys2Proof
end

section
/-! SUPPORT. The control lane: a setting that crosses, a loss of lock and the relock (R38, R83, R88). -/

namespace Sys2Proof

open Sys2Proof.Machine Sys2Proof.Machine.Reg

theorem laneMessage_in_lock (s : State) (h : s.sensor.laneLost = false) : s.laneMessage =
    { s with sensor := { s.sensor with staged := arriveFirst (s.dueOf s.time) s.sensor.staged } } := by
  rw [State.laneMessage, h]
  rfl

theorem laneRelock_lost (s : State) (h : s.sensor.laneLost = true) : s.laneRelock =
    { s with sensor := { s.sensor with
      laneLost := false, lostThrough := some s.frameCnt, staged := s.sensor.staged.map (restart s.time) } } := by
  rw [State.laneRelock, if_pos h]

/-- A setting that has not crossed sets out now. -/
theorem restart_written {t : Nat} {x : Staged} (h : (restart t x).due = none) : (restart t x).written = t := by
  have hx : x.due = none := h
  exact if_pos (by rw [hx]; rfl)

/-- The loss of the lane but for its event. -/
def laneMarkedLost (s : State) : State := { s with sensor := { s.sensor with laneLost := true } }

theorem laneLoss_eq (s : State) : s.laneLoss = (laneMarkedLost s).raise Src.tetherCtl := rfl

/-- Settles O21, command by command. -/
theorem controlLaneCarriesLosesAndResendsSettings : Obligations.ControlLaneCarriesLosesAndResendsSettings := by
  refine ⟨fun s hl => ⟨_, congrArg ok (laneMessage_in_lock s hl), rfl⟩,
    fun s => ⟨_, congrArg ok (laneLoss_eq s), ?_, (laneMarkedLost s).raise_status Src.tetherCtl, ?_,
      (laneMarkedLost s).raise_regsButEvt Src.tetherCtl []⟩,
    fun s hl => ⟨_, congrArg ok (laneRelock_lost s hl), rfl, rfl, List.length_map _, fun x hx => ?_, rfl⟩⟩
  · rw [State.raise_sensor]
    rfl
  · exact (State.raise_keeps (laneMarkedLost s) Src.tetherCtl).frame
  · obtain ⟨y, -, rfl⟩ := List.mem_map.mp hx
    exact restart_written

end Sys2Proof
end

section
/-! SUPPORT. A receiver whose count of INVALID row groups is listed wider than its register (R71, R82). -/

namespace Sys2Proof

open Sys2Proof.Machine Sys2Proof.Machine.Reg

/-- Receiver 0 is aligned, its place is row group 0 of frame 0, and the state lists 2^16 INVALID row groups, one more
than the 16 bits of TIL_TXINVCNT.COUNT hold: no command leaves such a count, but a value of type State may list it. -/
def wideInvCount : State := { State.reset with
  regs := [((TIL_TXSTAT_ALIGNED 0).key, 1), ((TIL_TXINVCNT_COUNT 0).key, 2 ^ 16)] }

/-- The ALIGN block of the frame before finds the receiver at its place: none is filled in, and the count stays. -/
theorem wideInvCount_stays : (wideInvCount.alignS 0 0xFFFF true).get (TIL_TXINVCNT_COUNT 0) = 2 ^ 16 := by
  decide +kernel

/-- Refutes O20: of an ALIGN block that fills in no row group the statement makes the count of INVALID ones the listed
one cut at 2^16 - 1, for every content of the register, and the model leaves a wider one as it is. -/
theorem not_tetherReceiversTakeSlipAndRealign : ¬ Obligations.TetherReceiversTakeSlipAndRealign := by
  rintro ⟨-, -, -, -, -, -, hplace, -⟩
  obtain ⟨t, ht, -, -, -, -, hcount, -⟩ :=
    hplace wideInvCount 0 0xFFFF true (by decide) (by decide +kernel) (by decide +kernel) (by decide +kernel)
    (by decide +kernel) (by decide +kernel) (by decide +kernel)
  obtain rfl : wideInvCount.alignS 0 0xFFFF true = t := Host.Outcome.next.inj ht
  rw [wideInvCount_stays] at hcount
  exact absurd hcount (by decide +kernel)

end Sys2Proof
end

section
/-! SUPPORT. A lane whose largest occupancy is listed wider than its register (R86). -/

namespace Sys2Proof

open Sys2Proof.Machine Sys2Proof.Machine.Reg

/-- An INVALID row group of tile 0. -/
def blankOfTile0 : RowGroup := State.reset.blankGroup 0 0 0

/-- The pipeline stands still, tile 0's FIFO holds a row group, and the state lists an occupancy of 64 words, one more
than the 6 bits of TIL_TXSTAT.OCCMAX hold: no command leaves such a maximum, but a value of type State may list it. -/
def wideOccMax : State := { State.reset with
  regs := [(GLB_STAT_STATE.key, 4), ((TIL_TXSTAT_OCCMAX 0).key, 64)]
  sensor := { State.reset.sensor with rx := [(0, { Rx.init with fifo := [blankOfTile0] })] } }

/-- The maximum of 64 and 1 is 64, which TIL_TXSTAT.OCCMAX cuts to its 6 bits. -/
theorem wideOccMax_cut : (wideOccMax.releaseGroup 0 1 []).get (TIL_TXSTAT_OCCMAX 0) = 0 := by decide +kernel

/-- Refutes O31: the clause of the release makes OCCMAX the uncut maximum for every content of the register, and
`wideOccMax` lists one that is wider than the field. -/
theorem not_rowGroupsSlicesVerdictsAndSplicesMoveOn : ¬ Obligations.RowGroupsSlicesVerdictsAndSplicesMoveOn := by
  rintro ⟨hrelease, -⟩
  obtain ⟨t, ht, -, -, -, hmax, -⟩ :=
    hrelease wideOccMax 0 1 blankOfTile0 [] (by decide) rfl (by decide) (by decide) rfl
  obtain rfl : wideOccMax.releaseGroup 0 1 [] = t := Host.Outcome.next.inj ht
  rw [wideOccMax_cut] at hmax
  exact absurd hmax (by decide +kernel)

end Sys2Proof
end

section
/-! SUPPORT. Asking for offset flips: what a request leaves of the state, tile by tile (R100, R103, R104). -/

namespace Sys2Proof.Machine

open Reg

/-- What the boundary of a request rests on: the grid and the frame count (R38, R100). -/
theorem State.dueOf_congr {s t : State}
    (hs : t.sensor = { s.sensor with staged := t.sensor.staged }) (hf : t.frameCnt = s.frameCnt) (u : Nat) :
    t.dueOf u = s.dueOf u := by
  unfold State.dueOf State.slotAt State.frameAfter
  rw [hf, hs]

/-- What is staged, but for the ties to flips: setting, time of its write and boundary. -/
def State.settings (s : State) : List (Setting × Nat × Option Nat) :=
  s.sensor.staged.map fun x => (x.what, x.written, x.due)

/-- Whether trims of a tile are pending goes by the settings alone. -/
theorem State.trimsPending_congr {s t : State} (h : t.settings = s.settings) (n : Nat) :
    t.trimsPending n = s.trimsPending n := by
  have hany : ∀ u : State, u.trimsPending n = u.settings.any fun p => p.1.trims n := fun u => by
    rw [State.settings, List.any_map]
    rfl
  rw [hany, hany, h]

theorem testBit_setBit (x i n : Nat) (hn : n < 32) :
    ((x ||| 2 ^ i) % 2 ^ 32).testBit n = (decide (i = n) || x.testBit n) := by
  rw [Nat.testBit_mod_two_pow, Nat.testBit_or, Nat.testBit_two_pow, decide_eq_true hn, Bool.true_and, Bool.or_comm]

/-- The flip that a request for tile `n` asks for: its boundary, and whether it waits for the tile's trims. -/
def State.flipReq (s : State) (n : Nat) : FlipReq :=
  ⟨s.dueOf s.time, s.flag COR_CTRL_TIE && s.trimsPending n⟩

/-- `t` is `s` with a flip asked for of every tile of `l` that had none. -/
structure FlipsAsked (l : List Nat) (s t : State) : Prop where
  frame : t = { s with regs := t.regs, corr := { s.corr with flips := t.corr.flips },
                       sensor := { s.sensor with staged := t.sensor.staged } }
  settings : t.settings = s.settings
  regs : regsBut [COR_OFLIP_FLIP] s t
  flips : ∀ n, mget none t.corr.flips n =
    if n ∈ l ∧ mget none s.corr.flips n = none then some (s.flipReq n) else mget none s.corr.flips n
  shown : ∀ n, n < 32 → (bitOf (t.get COR_OFLIP_FLIP) n = true ↔
    (n ∈ l ∧ mget none s.corr.flips n = none) ∨ bitOf (s.get COR_OFLIP_FLIP) n = true)

theorem FlipsAsked.refl (s : State) : FlipsAsked [] s s where
  frame := rfl
  settings := rfl
  regs := .refl _ s
  flips := by simp
  shown := by simp

/-- What a request asks for is the same before and after requests for other tiles. -/
theorem FlipsAsked.flipReq {l : List Nat} {s t : State} (h : FlipsAsked l s t) (n : Nat) :
    t.flipReq n = s.flipReq n := by
  have htime : t.time = s.time := by rw [h.frame]
  have htie : t.flag COR_CTRL_TIE = s.flag COR_CTRL_TIE := congrArg (· == 1) (h.regs _ (by decide))
  have hcnt : t.frameCnt = s.frameCnt := h.regs _ (by decide)
  have hsensor : t.sensor = { s.sensor with staged := t.sensor.staged } := congrArg State.sensor h.frame
  rw [State.flipReq, htime, htie, State.dueOf_congr hsensor hcnt, State.trimsPending_congr h.settings]
  rfl

theorem FlipsAsked.trans {l m : List Nat} {s t u : State} (h : FlipsAsked l s t) (k : FlipsAsked m t u) :
    FlipsAsked (l ++ m) s u where
  frame := k.frame.trans (congrArg (fun x : State => { x with
    regs := u.regs, corr := { x.corr with flips := u.corr.flips },
    sensor := { x.sensor with staged := u.sensor.staged } }) h.frame)
  settings := k.settings.trans h.settings
  regs := h.regs.trans k.regs
  flips n := by
    rw [k.flips, h.flips, h.flipReq]
    by_cases hn : mget none s.corr.flips n = none <;> by_cases hl : n ∈ l <;> simp [hn, hl]
  shown n hn := by
    rw [k.shown n hn, h.shown n hn, h.flips]
    by_cases hs : mget none s.corr.flips n = none <;> by_cases hl : n ∈ l <;> simp [hs, hl]

/-- Tying the trims of a tile to its flip leaves each setting and its boundary as they were. -/
theorem State.tieTrims_settings (s : State) (n : Nat) : (s.tieTrims n).settings = s.settings := by
  refine (List.map_map ..).trans (List.map_congr_left fun x _ => ?_)
  simp only [Function.comp_apply]
  split <;> rfl

/-- The flip of a tile that has none is asked for, in a state whose trims may have been tied. -/
theorem FlipsAsked.single {s u : State} {n : Nat} (hn : mget none s.corr.flips n = none)
    (hu : u = { s with sensor := { s.sensor with staged := u.sensor.staged } })
    (hst : u.settings = s.settings) :
    FlipsAsked [n] s ({ u with corr := { u.corr with
      flips := mset none u.corr.flips n (some (s.flipReq n)) } }.setBit COR_OFLIP_FLIP n) := by
  have hget : ∀ f, u.get f = s.get f := fun f => by rw [hu]; rfl
  have hcorr : u.corr = s.corr := by rw [hu]
  refine ⟨?_, hst, fun f hf => ?_, fun m => ?_, fun m hm => ?_⟩
  · rw [hu]
    rfl
  · rw [State.setBit_eq, State.get_set_ne _ _ _ _ (hf _ List.mem_cons_self), State.get_with_corr, hget]
  · rw [State.setBit_eq, State.set_corr, mget_mset, hcorr]
    by_cases h : m = n <;> simp [h, hn]
  · have hbits : State.get ({ u with corr := { u.corr with
        flips := mset none u.corr.flips n (some (s.flipReq n)) } }.setBit COR_OFLIP_FLIP n) COR_OFLIP_FLIP =
        (s.get COR_OFLIP_FLIP ||| 2 ^ n) % 2 ^ 32 := by
      rw [State.setBit_eq, State.get_set, State.get_with_corr, hget]
      rfl
    rw [hbits, bitOf_eq_testBit, testBit_setBit _ _ _ hm, bitOf_eq_testBit]
    by_cases h : n = m
    · simp [← h, hn]
    · simp [h, Ne.symm h]

/-- A tile whose flip is already asked for keeps it; another is asked to flip. -/
theorem State.askFlip_asked (s : State) (n : Nat) : FlipsAsked [n] s (s.askFlip n) := by
  unfold State.askFlip
  split
  next f hf =>
    exact ⟨rfl, rfl, .refl _ s, fun m => by by_cases h : m = n <;> simp [h, hf],
      fun m _ => by by_cases h : m = n <;> simp [h, hf]⟩
  next hf =>
    cases htied : s.flag COR_CTRL_TIE && s.trimsPending n
    · have hreq : (⟨s.dueOf s.time, false⟩ : FlipReq) = s.flipReq n := by rw [State.flipReq, htied]
      simp only [Bool.false_eq_true, if_false, hreq]
      exact .single hf rfl rfl
    · have hreq : (⟨(s.tieTrims n).dueOf (s.tieTrims n).time, true⟩ : FlipReq) = s.flipReq n := by
        rw [State.flipReq, htied]
        rfl
      simp only [if_true, hreq]
      exact .single hf rfl (s.tieTrims_settings n)

theorem State.askFlips_asked (l : List Nat) (s : State) : FlipsAsked l s (l.foldl (fun s n => s.askFlip n) s) := by
  induction l generalizing s with
  | nil => exact .refl s
  | cons n r ih => exact (s.askFlip_asked n).trans (ih _)

end Sys2Proof.Machine
end

section
/-! SUPPORT. Host writes to the correction block, by whether sorting runs and a blend is busy (R94, R99 to R104,
R108). -/

namespace Sys2Proof

open Sys2Proof.Machine Sys2Proof.Machine.Reg

theorem sorting_iff (s : State) : s.sorting = true ↔ s.mode = 3 := beq_iff_eq

/-- WRERR is set and nothing else. -/
theorem corWrErr_alone (s : State) : s.corWrErr.get COR_STAT_WRERR = 1 ∧
    s.corWrErr = { s with regs := s.corWrErr.regs } ∧ regsBut [COR_STAT_WRERR] s s.corWrErr :=
  ⟨State.get_set s _ 1, rfl, (regsBut.refl _ s).set List.mem_cons_self⟩

/-- A flip or a blend is turned away: sorting runs, or a blend waits, runs or reverses (R103). -/
theorem corRefused_iff (s : State) :
    (s.sorting || s.flag COR_BLEND_BUSY) = true ↔ s.mode = 3 ∨ s.get COR_BLEND_BUSY = 1 := by
  rw [Bool.or_eq_true, sorting_iff, State.flag_iff]

theorem corV0W_stopped (s : State) (v : Word) (hm : s.mode ≠ 3) : s.corV0W v = s.set COR_V0_V0 (fldOf COR_V0_V0 v) :=
  if_neg (mt (sorting_iff s).mp hm)

theorem corV0W_sorting (s : State) (v : Word) (hm : s.mode = 3) : s.corV0W v = s.corWrErr :=
  if_pos ((sorting_iff s).mpr hm)

/-! ### Offset flips -/

/-- COR_OFLIP has one bit for each tile of the variant. -/
theorem and_implMask_oflip (s : State) (x : Nat) : x &&& s.implMask 0x6010 = x % 2 ^ s.nTiles := by
  have hmask : s.implMask 0x6010 = 2 ^ s.nTiles - 1 := by
    simp only [State.implMask, State.nTiles]
    cases s.fuses.nk1024 <;> rfl
  rw [hmask, Nat.and_two_pow_sub_one_eq_mod]

theorem mem_onesOf {n v i : Nat} : i ∈ onesOf n v ↔ i < n ∧ bitOf v i = true := by
  rw [onesOf, List.mem_filter, List.mem_range]

theorem onesOf_of_mod_zero {n v : Nat} (h : v % 2 ^ n = 0) : onesOf n v = [] := by
  refine List.eq_nil_iff_forall_not_mem.mpr fun i hi => ?_
  obtain ⟨hn, hb⟩ := mem_onesOf.mp hi
  rw [bitOf_eq_testBit] at hb
  have := Nat.testBit_mod_two_pow v n i
  simp [h, hn, hb] at this

/-- With sorting stopped and no blend busy a flip is asked for of each named tile that the variant has. -/
theorem corOflipW_asks (s : State) (v : Word) (hm : s.mode ≠ 3) (hb : s.get COR_BLEND_BUSY ≠ 1) :
    FlipsAsked (onesOf s.nTiles v.toNat) s (s.corOflipW v) := by
  rw [State.corOflipW, and_implMask_oflip]
  split
  next h => rw [onesOf_of_mod_zero h]; exact .refl s
  next =>
    rw [if_neg (mt (corRefused_iff s).mp (by tauto))]
    exact s.askFlips_asked _

theorem corOflipW_refused (s : State) (v : Word) (hv : v.toNat % 2 ^ s.nTiles ≠ 0)
    (h : s.mode = 3 ∨ s.get COR_BLEND_BUSY = 1) : s.corOflipW v = s.corWrErr := by
  rw [State.corOflipW, and_implMask_oflip, if_neg hv, if_pos ((corRefused_iff s).mpr h)]

/-! ### Blends -/

/-- START with a FRAMES that fits its field: the blend waits for the boundary of the request. -/
theorem corBlendStartW_stopped (s : State) (n : Nat) (hm : s.mode ≠ 3) (hb : s.get COR_BLEND_BUSY ≠ 1)
    (hn : n < 8192) : s.corBlendStartW n = { s.set COR_BLEND_FRAMES n with
      corr := { s.corr with blend := .waiting (s.dueOf s.time), blendN := n } }.set COR_BLEND_BUSY 1 := by
  have hframes : (s.set COR_BLEND_FRAMES n).get COR_BLEND_FRAMES = n := (State.get_set ..).trans (Nat.mod_eq_of_lt hn)
  have hcnt : (s.set COR_BLEND_FRAMES n).frameCnt = s.frameCnt := State.get_set_ne _ _ _ _ (by decide)
  have hdue := State.dueOf_congr (s := s) (t := s.set COR_BLEND_FRAMES n) rfl hcnt s.time
  rw [State.corBlendStartW, if_neg (mt (corRefused_iff s).mp (by tauto))]
  simp only [State.blendStart, hframes, State.set_time, hdue, State.set_corr]

theorem corBlendStartW_refused (s : State) (n : Nat) (h : s.mode = 3 ∨ s.get COR_BLEND_BUSY = 1) :
    s.corBlendStartW n = s.corWrErr :=
  if_pos ((corRefused_iff s).mpr h)

theorem corBlendAbortW_stopped (s : State) (hm : s.mode ≠ 3) : s.corBlendAbortW = s.blendAbort :=
  if_neg (mt (sorting_iff s).mp hm)

theorem corBlendAbortW_sorting (s : State) (hm : s.mode = 3) : s.corBlendAbortW = s.corWrErr :=
  if_pos ((sorting_iff s).mpr hm)

theorem blendAbort_waiting (s : State) {d : Nat} (h : s.corr.blend = .waiting d) : s.blendAbort = s.blendEnd := by
  rw [State.blendAbort, h]

theorem blendAbort_running (s : State) (h : s.corr.blend = .running) : s.blendAbort =
    ({ s with corr := { s.corr with blend := .reversing } }.set COR_STAT_BLENDING 0).set COR_STAT_REVERSING 1 := by
  rw [State.blendAbort, h]

/-! ### Bad lanes -/

theorem laneXW_present (s : State) (j : Nat) (v : Word) (hj : j < s.nLanes / 32) :
    s.laneXW j v = s.set (COR_LANEX_EXCL j) v.toNat :=
  if_pos hj

/-- Settles O22, write by write. -/
theorem correctionWritesActWhileSortingIsStopped : Obligations.CorrectionWritesActWhileSortingIsStopped := by
  refine ⟨fun s r v hp hm => State.guardW_answers hp ?_, fun s r v hp hm => State.guardW_answers hp ?_,
    fun s r v hp hm hb => State.guardW_answers hp ?_, fun s r v hp hv hm => State.guardW_answers hp ?_,
    fun s r n hp hm hb hn => State.guardW_answers hp ?_, fun s r n hp hm => State.guardW_answers hp ?_,
    fun s r d hp hm hw => State.guardW_answers hp ?_, fun s r hp hm hrun => State.guardW_answers hp ?_,
    fun s r hp hm => State.guardW_answers hp ?_, fun s r j v hp hj => State.guardW_answers hp ?_⟩
  · simp only [corV0W_stopped s v hm]
    exact ⟨(State.get_set s _ _).trans (fldOf_mod _ v), rfl, (regsBut.refl _ s).set List.mem_cons_self⟩
  · simp only [corV0W_sorting s v hm]
    exact corWrErr_alone s
  · have h := corOflipW_asks s v hm hb
    refine ⟨fun n hn hv hs => ⟨?_, ?_⟩, fun n hs => ?_, fun n hn hv => ⟨?_, ?_⟩, h.frame, h.settings, h.regs⟩
    · rw [h.flips, if_pos ⟨mem_onesOf.mpr ⟨hn, hv⟩, hs⟩]
      rfl
    · exact (h.shown n (hn.trans_le (nTiles_le s))).mpr (.inl ⟨mem_onesOf.mpr ⟨hn, hv⟩, hs⟩)
    · rw [h.flips, if_neg (fun hn => hs hn.2)]
    · rw [h.flips, if_neg (fun hm => ?_)]
      obtain ⟨hlt, hbit⟩ := mem_onesOf.mp hm.1
      simp [hbit] at hv
      omega
    · refine Bool.eq_iff_iff.mpr ((h.shown n hn).trans (or_iff_right fun hm => ?_))
      obtain ⟨hlt, hbit⟩ := mem_onesOf.mp hm.1
      simp [hbit] at hv
      omega
  · simp only [corOflipW_refused s v hv hm]
    exact corWrErr_alone s
  · simp only [corBlendStartW_stopped s n hm hb hn]
    refine ⟨rfl, rfl, ?_, State.get_set _ _ 1, rfl, regsBut_set_pair s _ _ n 1⟩
    rw [State.get_set_ne _ _ _ _ (by decide), State.get_with_corr, State.get_set]
    exact Nat.mod_eq_of_lt hn
  · simp only [corBlendStartW_refused s n hm]
    exact corWrErr_alone s
  · simp only [corBlendAbortW_stopped s hm, blendAbort_waiting s hw]
    refine ⟨rfl, ?_, ?_, rfl, ((((regsBut.refl _ s).set (by simp)).set (by simp)).set (by simp)).set (by simp)⟩ <;>
      simp (disch := decide) only [State.blendEnd, State.get_set, State.get_set_ne, Nat.zero_mod]
  · simp only [corBlendAbortW_stopped s hm, blendAbort_running s hrun]
    refine ⟨rfl, ?_, State.get_set _ _ 1, rfl, regsBut_set_pair s _ _ 0 1⟩
    rw [State.get_set_ne _ _ _ _ (by decide), State.get_set]
    rfl
  · simp only [corBlendAbortW_sorting s hm]
    exact corWrErr_alone s
  · simp only [laneXW_present s j v hj]
    exact ⟨(State.get_set ..).trans (Nat.mod_eq_of_lt v.isLt), rfl, (regsBut.refl _ s).set List.mem_cons_self⟩

end Sys2Proof
end

section
/-! SUPPORT. The start of a calibration for a trigger, and the end of a long operation that does not run (R116,
R370). -/

namespace Sys2Proof.Machine

open Reg

/-- The ones of another mask cleared: bit by bit a difference never borrows. -/
theorem testBit_andNot (v m i : Nat) : (andNot v m).testBit i = (v.testBit i && !m.testBit i) := by
  induction i generalizing v m with
  | zero =>
    have hle : (v &&& m) ≤ v := Nat.and_le_left
    have hand : (v &&& m) % 2 = (v % 2) &&& (m % 2) := Nat.and_mod_two_pow (n := 1)
    have hodd : (v &&& m) % 2 ≤ v % 2 := hand ▸ Nat.and_le_left
    have hsub : andNot v m % 2 = v % 2 - ((v % 2) &&& (m % 2)) := by rw [andNot, ← hand]; omega
    rw [Nat.testBit_zero, Nat.testBit_zero, Nat.testBit_zero, hsub]
    rcases Nat.mod_two_eq_zero_or_one v with hv | hv <;> rcases Nat.mod_two_eq_zero_or_one m with hm | hm <;>
      rw [hv, hm] <;> rfl
  | succ i ih =>
    have hle : (v &&& m) ≤ v := Nat.and_le_left
    have hodd : (v &&& m) % 2 ≤ v % 2 := (Nat.and_mod_two_pow (n := 1)).trans_le Nat.and_le_left
    have hhalf : andNot v m / 2 = andNot (v / 2) (m / 2) := by rw [andNot, andNot, ← Nat.and_div_two]; omega
    rw [Nat.testBit_succ, hhalf, ih, Nat.testBit_succ, Nat.testBit_succ]
/-! ### What may start -/

theorem State.startable_zero (s : State) : s.startable 0 = 0 := by
  simp [State.startable, andNot]

/-- With no trigger pending no calibration starts. -/
theorem State.calNext_idle (s : State) (h : s.get CAL_STATUS_PENDING = 0) : s.calNext = s := by
  simp only [State.calNext, h, s.startable_zero, if_true]

/-- A gain trigger that no deferral holds back may start a calibration, of a module that is no orphan (R117, R121). -/
theorem State.startable_gain (s : State) {b : Nat} (hp : s.calPhase = 0) (hd : s.get PWR_STAT_DIP ≠ 1)
    (ht : s.tmx.mode = 0) (hm : s.mode = 2) (ho : s.get CHN_STAT_STATE ≠ 3) (hb : b.testBit 4 = true)
    (hdef : s.cal.deferred.testBit 4 = false) : (s.startable b).testBit 4 = true := by
  have hfree : (if s.time < s.cal.deferAt then andNot b s.cal.deferred else b).testBit 4 = true := by
    split
    · rw [testBit_andNot, hb, hdef]; rfl
    · exact hb
  have hdip : s.flag PWR_STAT_DIP = false := beq_eq_false_iff_ne.mpr hd
  have horph : s.isOrphan = false := beq_eq_false_iff_ne.mpr ho
  rw [State.startable, if_neg (by simp [hp, hdip, ht, hm])]
  simp only [horph, Bool.false_eq_true, if_false]
  rw [Nat.testBit_or, Nat.testBit_and, hfree]
  rfl

/-- A calibration that begins while sorting is stopped needs no grant. -/
theorem State.calBegin_stopped (s : State) (b : Nat) (hs : s.sorting = false) : (s.calBegin b).calPhase = 1 ∧
    (s.calBegin b).cal.served =
      b ||| (if s.isOrphan then s.get CAL_STATUS_PENDING &&& orphanBits else s.get CAL_STATUS_PENDING) := by
  have hneeds : (s.sorting && (s.get CHN_STAT_STATE == 1 || s.get CHN_STAT_STATE == 2)) = false := by rw [hs]; rfl
  unfold State.calBegin
  rw [hneeds]
  extract_lets p served c u
  exact ⟨State.get_set _ CAL_STATUS_PHASE 1, rfl⟩

/-- A gain trigger is pending, and no longer deferred (R121). -/
def State.gainPended (s : State) : State :=
  { s with cal := { s.cal with
    deferred := andNot s.cal.deferred (trigGain &&& (trigHost + trigGain)) } }.pendTrig trigGain

theorem State.trigger_gain_idle (s : State) (hp : s.calPhase = 0) : s.trigger trigGain = s.gainPended.calNext :=
  if_neg (by simp [hp])

theorem State.gainPended_get (s : State) {f : Fld} (hf : f.key ≠ CAL_STATUS_PENDING.key) :
    s.gainPended.get f = s.get f :=
  State.get_set_ne _ _ _ _ hf

theorem State.gainPended_pending (s : State) : (s.gainPended.get CAL_STATUS_PENDING).testBit 4 = true := by
  rw [State.gainPended, State.pendTrig, State.get_set, Nat.testBit_mod_two_pow, Nat.testBit_or, Bool.and_eq_true,
    Bool.or_eq_true]
  exact ⟨rfl, .inr rfl⟩

theorem State.gainPended_deferred (s : State) : s.gainPended.cal.deferred.testBit 4 = false :=
  (testBit_andNot _ _ _).trans (Bool.and_false _)

/-- A gain trigger in READY begins a calibration that serves it. -/
theorem State.trigger_gain_begins (s : State) (hp : s.calPhase = 0) (hd : s.get PWR_STAT_DIP ≠ 1)
    (ht : s.tmx.mode = 0) (hm : s.mode = 2) (ho : s.get CHN_STAT_STATE ≠ 3) :
    (s.trigger trigGain).calPhase = 1 ∧ bitOf (s.trigger trigGain).cal.served 4 = true := by
  have hmode : s.gainPended.mode = 2 := (s.gainPended_get (by decide)).trans hm
  have hstart := s.gainPended.startable_gain ((s.gainPended_get (by decide)).trans hp)
    (by rwa [s.gainPended_get (by decide)]) ht hmode (by rwa [s.gainPended_get (by decide)]) s.gainPended_pending
    s.gainPended_deferred
  have hne : s.gainPended.startable (s.gainPended.get CAL_STATUS_PENDING) ≠ 0 := fun h => by simp [h] at hstart
  have hnext : s.trigger trigGain =
      s.gainPended.calBegin (s.gainPended.startable (s.gainPended.get CAL_STATUS_PENDING)) :=
    (s.trigger_gain_idle hp).trans (if_neg hne)
  obtain ⟨hphase, hserved⟩ := s.gainPended.calBegin_stopped
    (s.gainPended.startable (s.gainPended.get CAL_STATUS_PENDING)) (by rw [State.sorting, hmode]; rfl)
  rw [hnext, bitOf_eq_testBit, hserved, Nat.testBit_or, hstart]
  exact ⟨hphase, rfl⟩

/-! ### A long operation that does not run -/

theorem State.opFinish_idle (s : State) (opcode status : Nat) (det : List Nat) (h : s.opRuns opcode = false) :
    s.opFinish opcode status det = s := by
  have hidle : ∀ o ∈ s.baind.ops, (o.opcode == opcode && o.status == 1 && !o.wait) = false := fun o ho => by
    rw [Bool.eq_false_iff.mpr (List.any_eq_false.mp h o ho)]
    rfl
  have hmine : s.baind.ops.filter (fun o => o.opcode == opcode && o.status == 1 && !o.wait) = [] :=
    List.filter_eq_nil_iff.mpr fun o ho => by rw [hidle o ho]; decide
  have hops : s.baind.ops.map (fun o => if o.opcode == opcode && o.status == 1 && !o.wait then
      { o with status := if status = 0 then 0 else if status = 2 then 0x41 else 0x40 } else o) = s.baind.ops :=
    (List.map_congr_left fun o ho => by rw [hidle o ho]; rfl).trans (List.map_id _)
  simp only [State.opFinish, hmine, hops, List.foldl_nil]

end Sys2Proof.Machine
end

section
/-! SUPPORT. A backdrop gain refresh: its start, its windows, its ends and the gains it gives (R143 to R146). -/

namespace Sys2Proof.Machine

open Reg

/-! ### Its start -/

/-- The refresh begins: window 1, the tracker hold and PHASE 10 (R143, R144). -/
def State.grefBegun (s : State) : State :=
  (((s.setGref { Gref.init with phase := .window1, held := s.gref.held }).set CAL_GREF_BUSY 1).set
    LOOP_STAT_GREF 1).setPhase 10

theorem State.grefStartS_refused (s : State) (h : 2 ≤ s.calPhase ∨ s.calPhase = 1 ∧ s.cal.grantAt ≠ none ∨
    s.get LOOP_CTRL_BKEN ≠ 1 ∨ s.get STG_STAT_LOCK ≠ 1) : s.grefStartS = s.set CAL_STATUS_REFUSED 1 := by
  refine if_pos ?_
  simp only [Option.isSome_iff_ne_none, Bool.not_eq_true', State.flag, beq_eq_false_iff_ne]
  tauto

/-- Before a calibration's grant, with the backdrop loop on and LOCK 1. -/
theorem State.grefStartS_taken (s : State) (hp : s.calPhase < 2) (hg : s.calPhase = 1 → s.cal.grantAt = none)
    (hb : s.get LOOP_CTRL_BKEN = 1) (hl : s.get STG_STAT_LOCK = 1) : s.grefStartS = s.calWithdraw.grefBegun := by
  refine if_neg ?_
  simp only [Option.isSome_iff_ne_none, Bool.not_eq_true', State.flag, beq_eq_false_iff_ne]
  have : ¬ 2 ≤ s.calPhase := by omega
  tauto

theorem State.calWithdraw_none (s : State) (hp : s.calPhase = 0) : s.calWithdraw = s :=
  if_neg (by rw [hp]; decide)

/-- A calibration that has not asked the chain for its grant waits on: its triggers are pending again. -/
theorem State.calWithdraw_unasked (s : State) (hp : s.calPhase = 1) (ha : s.chain.asked = false) :
    s.calWithdraw = (s.pendTrig s.cal.served).setPhase 0 := by
  have hdrop : s.dropGrant = s := by rw [State.dropGrant, ha]; rfl
  rw [State.calWithdraw, if_pos hp, hdrop]

theorem State.grefBegun_regsBut (s : State) : regsBut [CAL_STATUS_PHASE, CAL_GREF_BUSY, LOOP_STAT_GREF] s s.grefBegun :=
  (((regsBut.refl _ s).set (by simp)).set (by simp)).set (by simp)

/-- What shows that a refresh runs. -/
theorem State.grefBegun_shown (s : State) : s.grefBegun.calPhase = 10 ∧ s.grefBegun.get CAL_GREF_BUSY = 1 ∧
    s.grefBegun.get LOOP_STAT_GREF = 1 := by
  refine ⟨State.get_set _ CAL_STATUS_PHASE 10, ?_, ?_⟩
  · rw [State.grefBegun, State.setPhase, State.get_set_ne _ _ _ _ (by decide), State.get_set_ne _ _ _ _ (by decide)]
    exact State.get_set _ _ 1
  · rw [State.grefBegun, State.setPhase, State.get_set_ne _ _ _ _ (by decide)]
    exact State.get_set _ _ 1

/-! ### Its ends -/

theorem State.grefEnd_regsBut (s : State) : regsBut [CAL_STATUS_PHASE, CAL_GREF_BUSY, LOOP_STAT_GREF] s s.grefEnd :=
  (((regsBut.refl _ s).set (f := CAL_GREF_BUSY) (by simp)).set (by simp)).set (by simp)

/-- What shows that no refresh runs. -/
theorem State.grefEnd_shown (s : State) : s.grefEnd.calPhase = 0 ∧ s.grefEnd.get CAL_GREF_BUSY = 0 ∧
    s.grefEnd.get LOOP_STAT_GREF = 0 := by
  refine ⟨State.get_set _ CAL_STATUS_PHASE 0, ?_, ?_⟩
  · rw [State.grefEnd, State.setPhase, State.get_set_ne _ _ _ _ (by decide), State.get_set_ne _ _ _ _ (by decide)]
    exact State.get_set _ _ 0
  · rw [State.grefEnd, State.setPhase, State.get_set_ne _ _ _ _ (by decide)]
    exact State.get_set _ _ 0

theorem State.grefEnd_frame (s : State) : s.grefEnd = { s with
    regs := s.grefEnd.regs, gref := { s.gref with phase := .idle, raised := false } } := rfl

/-- With no trigger pending and no operation of the refresh running, its end is all that happens. -/
theorem State.grefEnd_quiet (s : State) (status : Nat) (hp : s.get CAL_STATUS_PENDING = 0)
    (ho : s.opRuns 0x0302 = false) : (s.grefEnd.opFinish 0x0302 status []).calNext = s.grefEnd := by
  rw [s.grefEnd.opFinish_idle _ _ _ ho, s.grefEnd.calNext_idle ((s.grefEnd_regsBut _ (by decide)).trans hp)]

/-! ### Its windows -/

theorem State.goodPixels_congr {s t : State} (hf : t.fuses = s.fuses) (hs : t.sensor = s.sensor) (hc : t.corr = s.corr)
    (hr : ∀ i, t.get (COR_LANEBAD_BAD i) = s.get (COR_LANEBAD_BAD i)) (b : Nat) : t.goodPixels b = s.goodPixels b := by
  simp only [State.goodPixels, State.badSlices, State.badPixels, State.tileList, State.tile, State.nLanes, State.nTiles,
    hf, hs, hc, hr]

/-- The set point goes back: the gains and the pixels that count are what they were. -/
def State.grefLowered (s : State) : State := { s with gref := { s.gref with raised := false } }

theorem State.grefLowered_gains (s : State) : s.grefLowered.grefGains = s.grefGains := rfl

theorem lanebad_ne_outlim (i : Nat) : (COR_LANEBAD_BAD i).key ≠ CAL_GREF_OUTLIM.key := by
  simp only [Fld.key, COR_LANEBAD_BAD, CAL_GREF_OUTLIM]
  omega

/-- Window 2 ends with no more outliers than the limit: the new gains are held (R145, R146). -/
theorem State.grefW2_held (s : State) (h : s.gref.phase = .window2)
    (hlim : 1000 * s.grefGains.2 ≤ s.get CAL_LIMITS_FRAC * s.goodPixels 0) : s.grefW2 =
      { s.set CAL_GREF_OUTLIM s.grefGains.2 with
        gref := { s.gref with phase := .back, raised := false, held := s.grefGains.1 } }.set CAL_GREF_PENDAPPLY 1 := by
  have hfrac : (s.grefLowered.set CAL_GREF_OUTLIM s.grefGains.2).get CAL_LIMITS_FRAC = s.get CAL_LIMITS_FRAC :=
    State.get_set_ne _ _ _ _ (by decide)
  have hgood : (s.grefLowered.set CAL_GREF_OUTLIM s.grefGains.2).goodPixels 0 = s.goodPixels 0 :=
    State.goodPixels_congr (s := s) (t := s.grefLowered.set CAL_GREF_OUTLIM s.grefGains.2) rfl rfl rfl
      (fun i => State.get_set_ne _ _ _ _ (lanebad_ne_outlim i)) 0
  have hin : ¬ s.get CAL_LIMITS_FRAC * s.goodPixels 0 < 1000 * s.grefGains.2 := by omega
  rw [State.grefW2, if_pos h]
  refine Eq.trans (if_neg ?_) rfl
  show ¬ (s.grefLowered.set CAL_GREF_OUTLIM s.grefLowered.grefGains.2).get CAL_LIMITS_FRAC *
    (s.grefLowered.set CAL_GREF_OUTLIM s.grefLowered.grefGains.2).goodPixels 0 < 1000 * s.grefLowered.grefGains.2
  rw [s.grefLowered_gains, hfrac, hgood]
  omega

/-! ### Its gains -/

/-- A held gain goes to sub-word 1 of its pixel's record (R146). -/
def State.putGain (s : State) (p : Nat × Nat) : State :=
  s.setPb (4 * p.1 + 1) (s.pb (4 * p.1 + 1) / 16384 * 16384 + p.2 % 16384)

def State.gainsPut (s : State) : State := s.gref.held.foldl State.putGain s

/-- GAPPLY but for its trigger. -/
def State.gainsApplied (s : State) : State :=
  { s.gainsPut with gref := { s.gainsPut.gref with held := [] } }.set CAL_GREF_PENDAPPLY 0

theorem State.gapplyS_taken (s : State) (hm : s.mode = 2) (hp : s.get CAL_GREF_PENDAPPLY = 1) (hb : s.pbBusy = false) :
    s.gapplyS = s.gainsApplied.trigger trigGain := by
  have hsort : s.sorting = false := by rw [State.sorting, hm]; rfl
  have hflag : s.flag CAL_GREF_PENDAPPLY = true := (s.flag_iff _).mpr hp
  rw [State.gapplyS, hsort, hflag, hb]
  rfl

theorem State.putGain_pb (s : State) (p : Nat × Nat) (a : Nat) : (s.putGain p).pb a =
    if a = 4 * p.1 + 1 then (s.pb a / 16384 * 16384 + p.2 % 16384) % 2 ^ 32 else s.pb a := by
  refine (mget_mset 0 _ (4 * p.1 + 1) a _).trans ?_
  rw [State.wordWritten_corr]
  split
  next h => rw [h]
  next => rfl

theorem State.putGain_get (s : State) (p : Nat × Nat) {f : Fld} (h : f.key ≠ MEM_TESTABORTS_COUNT.key) :
    (s.putGain p).get f = s.get f :=
  State.wordWritten_get _ _ _ _ h

theorem foldl_putGain_pb (l : List (Nat × Nat)) (s : State) (a : Nat) (h : ∀ p ∈ l, a ≠ 4 * p.1 + 1) :
    (l.foldl State.putGain s).pb a = s.pb a := by
  induction l generalizing s with
  | nil => rfl
  | cons p r ih =>
    rw [List.forall_mem_cons] at h
    rw [List.foldl_cons, ih _ h.2, s.putGain_pb, if_neg h.1]

theorem State.gainsPut_keeps (s : State) : Keeps 0x100000000001088 s s.gainsPut :=
  (Keeps.refl _ s).foldl fun y _ hy => (y.setPb_keeps _ _).step hy rfl

/-- Outside the count of aborted tests and PENDAPPLY the registers are as they were. -/
theorem State.gainsApplied_get (s : State) {f : Fld} (hm : f.key ≠ MEM_TESTABORTS_COUNT.key)
    (hp : f.key ≠ CAL_GREF_PENDAPPLY.key) : s.gainsApplied.get f = s.get f :=
  (State.get_set_ne _ _ _ _ hp).trans (foldl_get State.putGain f (fun s p => s.putGain_get p hm) s.gref.held s)

theorem State.gainsApplied_gref (s : State) : s.gainsApplied.gref = { s.gref with held := [] } :=
  congrArg (fun g : Gref => { g with held := [] }) (s.gainsPut_keeps.same.gref rfl)

theorem State.gainsApplied_tmx (s : State) : s.gainsApplied.tmx = s.tmx := s.gainsPut_keeps.same.tmx rfl

/-- The records after GAPPLY: its trigger writes none. -/
theorem State.gapplied_pb (s : State) (a : Nat) : (s.gainsApplied.trigger trigGain).pb a = s.gainsPut.pb a := by
  rw [State.pb, (s.gainsApplied.trigger_keeps trigGain).same.corr rfl]
  rfl

theorem State.gapplied_gref (s : State) : (s.gainsApplied.trigger trigGain).gref = { s.gref with held := [] } :=
  ((s.gainsApplied.trigger_keeps trigGain).same.gref rfl).trans s.gainsApplied_gref

theorem State.gapplied_pendapply (s : State) : (s.gainsApplied.trigger trigGain).get CAL_GREF_PENDAPPLY = 0 :=
  ((s.gainsApplied.trigger_keeps trigGain).fields _ (by decide +kernel)).trans (State.get_set _ _ 0)

/-- GAPPLY in READY begins a calibration for the gains. -/
theorem State.gapplied_begins (s : State) (hp : s.calPhase = 0) (hd : s.get PWR_STAT_DIP ≠ 1) (ht : s.tmx.mode = 0)
    (hm : s.mode = 2) (ho : s.get CHN_STAT_STATE ≠ 3) : (s.gainsApplied.trigger trigGain).calPhase = 1 ∧
    bitOf (s.gainsApplied.trigger trigGain).cal.served 4 = true := by
  have hget : ∀ f : Fld, f.key ≠ MEM_TESTABORTS_COUNT.key → f.key ≠ CAL_GREF_PENDAPPLY.key →
      s.gainsApplied.get f = s.get f := fun f => s.gainsApplied_get
  refine State.trigger_gain_begins _ ?_ ?_ (s.gainsApplied_tmx ▸ ht) ?_ ?_
  · exact (hget CAL_STATUS_PHASE (by decide) (by decide)).trans hp
  · rwa [hget _ (by decide) (by decide)]
  · exact (hget GLB_STAT_STATE (by decide) (by decide)).trans hm
  · rwa [hget _ (by decide) (by decide)]

end Sys2Proof.Machine
end

section
/-! SUPPORT. The commands of a backdrop gain refresh, one by one. -/

namespace Sys2Proof

open Sys2Proof.Machine Sys2Proof.Machine.Reg

theorem exec_grefWindow1End (s : State) (h : s.gref.phase = .window1) :
    exec .grefWindow1End s = .next { s with gref := { s.gref with phase := .wait, raised := true } } :=
  congrArg ok (if_pos h)

theorem exec_grefSettled (s : State) (h : s.gref.phase = .wait) :
    exec .grefSettled s = .next { s with gref := { s.gref with phase := .window2 } } :=
  congrArg ok (if_pos h)

/-- A refresh that fails with nothing waiting for it. -/
theorem exec_grefSettleTimeout (s : State) (h : s.gref.phase = .wait) (hp : s.get CAL_STATUS_PENDING = 0)
    (ho : s.opRuns 0x0302 = false) : exec .grefSettleTimeout s = .next (s.set CAL_GREF_FAIL 1).grefEnd := by
  have hp' : (s.set CAL_GREF_FAIL 1).get CAL_STATUS_PENDING = 0 := (State.get_set_ne _ _ _ _ (by decide)).trans hp
  exact congrArg ok ((if_pos h).trans ((s.set CAL_GREF_FAIL 1).grefEnd_quiet 2 hp' ho))

/-- DONE is set and GREF_DONE raised (R144). -/
def doneRaised (s : State) : State := (s.set CAL_GREF_DONE 1).raise Src.grefDone

/-- A refresh that ends back at its set point with nothing waiting for it. -/
theorem exec_grefDone (s : State) (h : s.gref.phase = .back) (hp : s.get CAL_STATUS_PENDING = 0)
    (ho : s.opRuns 0x0302 = false) : exec .grefDone s = .next (doneRaised s).grefEnd := by
  have hp' : (doneRaised s).get CAL_STATUS_PENDING = 0 := by
    rw [doneRaised, State.raise_get _ _ _ (by decide), State.get_set_ne _ _ _ _ (by decide), hp]
  have ho' : (doneRaised s).opRuns 0x0302 = false := by
    rw [State.opRuns, doneRaised, State.raise_baind]
    exact ho
  exact congrArg ok ((if_pos h).trans ((doneRaised s).grefEnd_quiet 0 hp' ho'))

/-- GREF_DONE is raised before the refresh ends, and its end leaves the event's status. -/
theorem grefDone_raised (s : State) :
    raisedIn Src.grefDone s (doneRaised s).grefEnd := fun he hn => by
  have hen : (s.set CAL_GREF_DONE 1).srcEnabled Src.grefDone = true := by
    rw [State.srcEnabled, State.get_set_ne _ _ _ _ (by decide)]
    exact hn
  rw [State.srcStatus, State.grefEnd_regsBut _ _ (by decide)]
  exact State.raise_status _ _ he hen

/-- The end of a refresh after a change of registers, events and memory accesses. -/
theorem grefEnd_frame_after {s t : State} (ht : t = { s with regs := t.regs, evt := t.evt, mem := t.mem }) :
    t.grefEnd = { s with
      regs := t.grefEnd.regs, evt := t.grefEnd.evt, mem := t.grefEnd.mem, gref := t.grefEnd.gref } :=
  congrArg (fun x : State => { x with regs := t.grefEnd.regs, gref := t.grefEnd.gref }) ht

/-- A refresh in place of a calibration that has asked no one for its grant. -/
theorem exec_grefStart_unasked (s : State) (r : Requester) (hp : s.protected r 0x6400 = false) (hc : s.calPhase = 1)
    (hg : s.cal.grantAt = none) (ha : s.chain.asked = false) (hb : s.get LOOP_CTRL_BKEN = 1)
    (hl : s.get STG_STAT_LOCK = 1) :
    exec (.grefStart r) s = .next ((s.pendTrig s.cal.served).setPhase 0).grefBegun := by
  have hs : s.grefStartS = ((s.pendTrig s.cal.served).setPhase 0).grefBegun := by
    rw [s.grefStartS_taken (by omega) (fun _ => hg) hb hl, s.calWithdraw_unasked hc ha]
  exact congrArg ok ((s.guardW_of_unprotected r _ _ hp).trans hs)

theorem exec_gapply (s : State) (r : Requester) (hp : s.protected r 0x6400 = false) (hm : s.mode = 2)
    (ha : s.get CAL_GREF_PENDAPPLY = 1) (hb : s.pbBusy = false) :
    exec (.gapply r) s = .next (s.gainsApplied.trigger trigGain) :=
  congrArg ok ((s.guardW_of_unprotected r _ _ hp).trans (s.gapplyS_taken hm ha hb))

/-- Settles O26, command by command. -/
theorem backdropGainRefreshRunsThroughItsWindows : Obligations.BackdropGainRefreshRunsThroughItsWindows := by
  refine ⟨fun s r hp hc hb hl => State.guardW_answers hp ?_, fun s r hp hc hg ha hb hl => ?_,
    fun s r hp hbad => State.guardW_answers hp ?_, fun s h => ⟨_, exec_grefWindow1End s h, rfl⟩,
    fun s h => ⟨_, exec_grefSettled s h, rfl⟩, fun s h hp ho => ⟨_, exec_grefSettleTimeout s h hp ho, ?_⟩,
    fun s h hlim hfit => ⟨_, congrArg ok (s.grefW2_held h hlim), rfl, ?_, State.get_set _ _ 1, rfl, ?_⟩,
    fun s h hp ho => ⟨_, exec_grefDone s h hp ho, ?_⟩, fun s r hp hm ha hb hc hd ht ho => ?_,
    fun s r p g hp hm ha hb hh hg => ?_⟩
  · have hs : s.grefStartS = s.grefBegun := by
      rw [s.grefStartS_taken (by omega) (by omega) hb hl, s.calWithdraw_none hc]
    obtain ⟨hphase, hbusy, hhold⟩ := s.grefBegun_shown
    simp only [hs]
    exact ⟨hphase, hbusy, hhold, rfl, rfl, s.grefBegun_regsBut⟩
  · have ht := exec_grefStart_unasked s r hp hc hg ha hb hl
    obtain ⟨hframe, hregs⟩ := everyCommandKeepsWhatIsOutsideItsFrame (.grefStart r) s _ ht
    obtain ⟨hphase, hbusy, hhold⟩ := ((s.pendTrig s.cal.served).setPhase 0).grefBegun_shown
    refine ⟨_, ht, hphase, hbusy, hhold, ?_, rfl, hframe, hregs⟩
    rw [State.grefBegun_regsBut _ _ (by decide), State.setPhase, State.get_set_ne _ _ _ _ (by decide)]
    exact State.get_set _ _ _
  · simp only [s.grefStartS_refused hbad]
    exact ⟨State.get_set s _ 1, rfl, (regsBut.refl _ s).set List.mem_cons_self⟩
  · obtain ⟨hphase, hbusy, hhold⟩ := (s.set CAL_GREF_FAIL 1).grefEnd_shown
    refine ⟨hphase, ?_, rfl, rfl, hbusy, hhold, rfl, ?_⟩
    · exact (State.grefEnd_regsBut _ _ (by decide)).trans (State.get_set s _ 1)
    · exact ((regsBut.refl _ s).set (by simp)).trans ((State.grefEnd_regsBut _).mono (by simp))
  · rw [State.get_set_ne _ _ _ _ (by decide)]
    exact (State.get_set _ _ _).trans (Nat.mod_eq_of_lt hfit)
  · exact ((regsBut.refl _ s).set (f := CAL_GREF_OUTLIM) (by simp)).set (by simp)
  · obtain ⟨hphase, hbusy, hhold⟩ := (doneRaised s).grefEnd_shown
    refine ⟨hphase, ?_, ?_, rfl, hbusy, hhold, grefDone_raised s,
      grefEnd_frame_after ((s.set CAL_GREF_DONE 1).raise_keeps Src.grefDone).frame, ?_⟩
    · rw [State.grefEnd_regsBut _ _ (by decide), doneRaised, State.raise_get _ _ _ (by decide)]
      exact State.get_set s _ 1
    · rw [State.grefEnd_frame, doneRaised, State.raise_gref]
      rfl
    · exact (((regsBut.refl _ s).set (by simp)).toEvt.trans (State.raise_regsButEvt _ _ _)).trans
        ((State.grefEnd_regsBut _).mono (by simp)).toEvt
  · have ht' := exec_gapply s r hp hm ha hb
    obtain ⟨hframe, hregs⟩ := everyCommandKeepsWhatIsOutsideItsFrame (.gapply r) s _ ht'
    obtain ⟨hphase, hserved⟩ := s.gapplied_begins hc hd ht hm ho
    refine ⟨_, ht', hphase, s.gapplied_pendapply, s.gapplied_gref, hserved, fun i _ hi => ?_, hframe, hregs⟩
    rw [s.gapplied_pb]
    refine foldl_putGain_pb _ _ _ fun p hpm he => ?_
    have hne := List.all_eq_true.mp hi p hpm
    simp only [bne_iff_ne] at hne
    omega
  · have ht := exec_gapply s r hp hm ha hb
    obtain ⟨hframe, hregs⟩ := everyCommandKeepsWhatIsOutsideItsFrame (.gapply r) s _ ht
    have hw : (s.gainsApplied.trigger trigGain).pb (4 * p + 1) =
        (s.pb (4 * p + 1) / 16384 * 16384 + g % 16384) % 2 ^ 32 := by
      rw [s.gapplied_pb, State.gainsPut, hh, List.foldl_cons, List.foldl_nil, s.putGain_pb, if_pos rfl]
    refine ⟨_, ht, ?_, fun hlt => ?_, s.gapplied_gref, hframe, hregs⟩
    · rw [hw, Rec.gain, bits]
      omega
    · rw [hw]
      omega

end Sys2Proof
end

section
/-! SUPPORT. A deferred trigger that the state lists beyond the five bits of CAL_STATUS.PENDING (R116, R121). -/

namespace Sys2Proof

open Sys2Proof.Machine Sys2Proof.Machine.Reg

/-- READY outside a chain, and the state lists pending and deferred a sixth trigger, one more than the 5 bits of
CAL_STATUS.PENDING hold: no command leaves such a trigger, but a value of type State may list it. -/
def sixthTrigger : State := { State.reset with
  regs := [(GLB_STAT_STATE.key, 2), (CAL_STATUS_PENDING.key, 32), (CHN_STAT_STATE.key, 0)]
  cal := { Cal.init with deferred := 32 } }

/-- No trigger of R116 pends, so the retry begins no calibration. -/
theorem sixthTrigger_idle : ((sixthTrigger.advance (floor2 sixthTrigger.cal.deferAt)).calNext).calPhase = 0 := by
  decide +kernel

/-- Refutes O23: the clause of the retry begins a calibration for any common bit of PENDING and of the deferred triggers,
and `sixthTrigger` lists one that is no trigger. -/
theorem not_calibrationTriggersStartTheGrantPhase : ¬ Obligations.CalibrationTriggersStartTheGrantPhase := by
  rintro ⟨-, -, -, hretry, -⟩
  obtain ⟨t, ht, -, -, hphase, -⟩ :=
    hretry sixthTrigger (by decide +kernel) (by decide +kernel) (by decide +kernel) (by decide +kernel)
    (by decide +kernel) (by decide +kernel) (by decide +kernel)
  have hdef : sixthTrigger.calPhase = 0 ∧ sixthTrigger.cal.deferred ≠ 0 := by decide +kernel
  obtain rfl : (sixthTrigger.advance (floor2 sixthTrigger.cal.deferAt)).calNext = t :=
    (if_pos hdef).symm.trans (Host.Outcome.next.inj ht)
  rw [sixthTrigger_idle] at hphase
  exact absurd hphase (by decide)

end Sys2Proof
end

section
/-! SUPPORT. The enables of event sources, which no occurrence and no completion of an operation changes (R349, R370). -/

namespace Sys2Proof.Machine

open Reg

/-- A field among the enable registers EVT_EN. -/
abbrev Fld.enables (g : Fld) : Prop := 32 * 0x480 ≤ g.key ∧ g.key < 32 * 0x500

theorem enFld_enables (i : Nat) : (enFld i).enables := by
  unfold enFld
  split <;> simp only [Fld.enables, Fld.key, EVT_EN_EN] <;> omega

theorem State.pushLog_en (s : State) (n : Nat) (fw fo : Bool) (rep st a b c : Nat) {g : Fld} (h : g.enables) :
    (s.pushLog n fw fo rep st a b c).1.get g = s.get g := by
  obtain ⟨hlo, hhi⟩ := h
  have e1 : g.key ≠ EVT_LOGHEAD_NEXT.key := by simp only [EVT_LOGHEAD_NEXT, Fld.key] at hlo ⊢; omega
  have e2 : g.key ≠ EVT_LOGSEQ_SEQ.key := by simp only [EVT_LOGSEQ_SEQ, Fld.key] at hlo ⊢; omega
  have e3 : g.key ≠ EVT_FLASHPOS_PEND.key := by simp only [EVT_FLASHPOS_PEND, Fld.key] at hlo ⊢; omega
  have e4 : g.key ≠ EVT_LOGLOST_COUNT.key := by simp only [EVT_LOGLOST_COUNT, Fld.key] at hlo ⊢; omega
  have e5 : g.key ≠ MEM_TESTABORTS_COUNT.key := by simp only [MEM_TESTABORTS_COUNT, Fld.key] at hhi ⊢; omega
  have hwords : ∀ (t : State) (w : Nat),
      ((List.range 4).foldl (fun (t : State) i => t.wordWritten 56 (4 * w + i)) t).get g = t.get g :=
    fun t w => foldl_get _ g (fun t i => t.wordWritten_get _ _ g e5) _ t
  simp only [State.pushLog]
  split
  · rw [State.bump_eq, State.get_set_ne _ _ _ _ e4, State.get_set_ne _ _ _ _ e3, State.incr_eq,
      State.get_set_ne _ _ _ _ e2, State.incr_eq, State.get_set_ne _ _ _ _ e1, hwords, State.get_with_evt]
  · rw [State.get_set_ne _ _ _ _ e3, State.incr_eq, State.get_set_ne _ _ _ _ e2, State.incr_eq,
      State.get_set_ne _ _ _ _ e1, hwords, State.get_with_evt]

theorem State.logOccur_en (s : State) (n : Nat) (fo : Bool) (st : Nat) {g : Fld} (h : g.enables) :
    (s.logOccur n fo st).1.get g = s.get g := by
  simp only [State.logOccur]
  split
  · rfl
  · exact (State.pushLog_en _ _ _ _ _ _ _ _ _ h).trans rfl

theorem State.occurCore_en (s : State) (n : Nat) (fo : Bool) (st : Nat) {g : Fld} (h : g.enables) :
    (s.occurCore n fo st).1.get g = s.get g := by
  have hstat : g.key ≠ (EVT_STAT_STAT (n / 32)).key := by
    obtain ⟨-, hhi⟩ := h
    simp only [EVT_STAT_STAT, Fld.key] at hhi ⊢
    omega
  have hcnt : g.key ≠ (cntFld n).key := by
    obtain ⟨-, hhi⟩ := h
    unfold cntFld
    split <;> simp only [EVT_CNT_CNT0, EVT_CNT_CNT1, EVT_CNT_CNT2, EVT_CNT_CNT3, Fld.key] at hhi ⊢ <;> omega
  have hpins : ∀ (t : State) (r : Nat), ((List.range 4).foldl
      (fun (t : State) i => if bitOf r (2 + i) then t.pinOccur i else t) t).get g = t.get g := by
    refine fun t r => foldl_get _ g (fun t i => ?_) _ t
    split
    · exact t.pinOccur_get i g
    · rfl
  have hset : ((s.setBit (EVT_STAT_STAT (n / 32)) (n % 32)).bump (cntFld n)).get g = s.get g := by
    rw [State.bump_eq, State.get_set_ne _ _ _ _ hcnt, State.setBit_eq, State.get_set_ne _ _ _ _ hstat]
  simp only [State.occurCore]
  split
  case isTrue =>
    split <;> split
    · rw [State.logOccur_en _ _ _ _ h, hpins, hset]
    · rw [hpins, hset]
    · rw [State.logOccur_en _ _ _ _ h, hpins, State.get_with_evt, hset]
    · rw [hpins, State.get_with_evt, hset]
  case isFalse => rfl

theorem State.raise_en (s : State) (n : Nat) {g : Fld} (h : g.enables) : (s.raise n).get g = s.get g := by
  simp only [State.raise, State.occurAt]
  split
  · exact (State.occurCore_en _ _ _ _ h).trans (s.occurCore_en _ _ _ h)
  · exact s.occurCore_en _ _ _ h

/-- A footprint that leaves block EVT out leaves the enables. -/
theorem Keeps.enables {m : Nat} {s t : State} (k : Keeps m s t) {g : Fld} (h : g.enables)
    (hm : m.testBit (32 + Blk.EVT) = false) : t.get g = s.get g :=
  k.fields g (by rwa [show g.cls = Blk.EVT from Fld.cls_of 1 0x480 0x500 h.1 h.2 rfl rfl rfl])

theorem State.opFinish_en (s : State) (opcode status : Nat) (det : List Nat) {g : Fld} (h : g.enables) :
    (s.opFinish opcode status det).get g = s.get g :=
  foldl_get _ g (fun _ _ => (State.raise_en _ _ h).trans ((State.sendReply_keeps ..).enables h rfl)) _ _

/-- Sources assert and are enabled as before where the fuses and the enables are those from before. -/
theorem raisedIn.of_enables {n : Nat} {s t u : State} (h : raisedIn n t u) (hf : t.fuses = s.fuses)
    (hen : t.get (enFld (n / 32)) = s.get (enFld (n / 32))) : raisedIn n s u := fun he hn =>
  h ((State.srcExists_congr hf n).trans he) (by rwa [State.srcEnabled, hen])

/-- A status bit stays where the status registers do. -/
theorem raisedIn.of_stat {n : Nat} {s t u : State} (h : raisedIn n s t)
    (hst : u.get (EVT_STAT_STAT (n / 32)) = t.get (EVT_STAT_STAT (n / 32))) : raisedIn n s u := fun he hn => by
  rw [State.srcStatus, hst]
  exact h he hn

end Sys2Proof.Machine
end

section
/-! SUPPORT. What the operations of the calibration manager leave: releases, results, failures, aborts, ends (R115, R117,
R120, R122, R134, R137). -/

namespace Sys2Proof.Machine

open Reg

/-! ### LY -/

theorem State.lyOff_energise (s : State) : s.lyOff.get ARB_LYCTRL_ENERGISE = 0 := by
  simp only [State.lyOff]
  split
  · rw [(State.gateOff_keeps _ _).fields _ (by decide +kernel)]
    exact State.get_set s _ 0
  · exact State.get_set s _ 0

theorem State.calRelease_cal (s : State) : s.calRelease.cal = { s.cal with releasedAt := s.time, openAt := 0 } :=
  (State.lyOff_keeps _).same.cal rfl

theorem State.calRelease_energise (s : State) : s.calRelease.get ARB_LYCTRL_ENERGISE = 0 := State.lyOff_energise _

/-! ### Results -/

/-- The registers of a failure: its count, its result and the back-off. -/
def State.failShown (s : State) (code : Nat) : State :=
  let t := (s.bump CAL_FAILS_COUNT).calResult code
  t.set CAL_STATUS_BACKOFF (min 3 (t.get CAL_STATUS_BACKOFF + 1))

theorem State.failShown_cal (s : State) (code : Nat) : (s.failShown code).cal = s.cal := by
  simp only [State.failShown, State.calResult, State.bump_eq, State.setB_eq, State.set_cal]

/-- The calibration of a failure: dead, without results, a power-up attempt counted (R430). -/
def Cal.failed (c : Cal) : Cal :=
  { c with dead := true, ready := false, tries := if bitOf c.served 1 then c.tries + 1 else c.tries }

/-- A failure but for the completion of the operations that wait for it (R117, R122, R134). -/
def State.failNoted (s : State) (code : Nat) : State :=
  { s.failShown code with cal := s.cal.failed }.set CAL_STATUS_COMPUTE 0

/-- The count of a power-up attempt and the death of the calibration are one change of it. -/
theorem State.dead_eq {t u : State}
    (h : u = if bitOf t.cal.served 1 then { t with cal := { t.cal with tries := t.cal.tries + 1 } } else t) :
    { u with cal := { u.cal with dead := true, ready := false } } = { t with cal := t.cal.failed } := by
  rw [h, Cal.failed]
  split <;> rfl

theorem State.calFailed_eq (s : State) (code : Nat) : s.calFailed code = (s.failNoted code).opFinish 0x0301 2 [] := by
  rw [State.failNoted, ← s.failShown_cal code]
  exact congrArg (fun t : State => (t.set CAL_STATUS_COMPUTE 0).opFinish 0x0301 2 []) (State.dead_eq rfl)

theorem satAdd_mod (w a b : Nat) : satAdd w a b % 2 ^ w = satAdd w a b := Nat.mod_eq_of_lt (satAdd_lt w a b)

/-- What a failure shows, whatever waits for the calibration. -/
theorem State.calFailed_shown (s : State) (code : Nat) :
    (s.calFailed code).get CAL_LASTRESULT_CODE = code % 2 ^ 4 ∧
    (s.calFailed code).get CAL_FAILS_COUNT = satAdd 32 (s.get CAL_FAILS_COUNT) 1 ∧
    (s.calFailed code).get CAL_STATUS_BACKOFF = min 3 (s.get CAL_STATUS_BACKOFF + 1) ∧
    (s.calFailed code).get CAL_STATUS_COMPUTE = 0 := by
  have hback : min 3 (s.get CAL_STATUS_BACKOFF + 1) % 2 ^ 3 = min 3 (s.get CAL_STATUS_BACKOFF + 1) :=
    Nat.mod_eq_of_lt (by omega)
  have hkeep := (s.failNoted code).opFinish_keeps 0x0301 2 []
  rw [State.calFailed_eq, hkeep.fields CAL_LASTRESULT_CODE (by decide +kernel),
    hkeep.fields CAL_FAILS_COUNT (by decide +kernel), hkeep.fields CAL_STATUS_BACKOFF (by decide +kernel),
    hkeep.fields CAL_STATUS_COMPUTE (by decide +kernel)]
  simp (disch := decide) only [State.failNoted, State.get_with_cal, State.failShown, State.calResult, State.bump_eq,
    State.setB_eq, State.get_set, State.get_set_ne]
  exact ⟨rfl, satAdd_mod 32 _ 1, hback, rfl⟩

theorem State.calFailed_cal (s : State) (code : Nat) : (s.calFailed code).cal = s.cal.failed := by
  rw [State.calFailed_eq]
  exact (State.opFinish_keeps ..).same.cal rfl

theorem regsBut.with_cal {l : List Fld} {s t : State} (h : regsBut l s t) (c : Cal) :
    regsBut l s { t with cal := c } := h

/-- What a failure writes, but for the completion of operations. -/
def failFlds : List Fld := [CAL_FAILS_COUNT, CAL_LASTRESULT_CODE, CAL_LASTRESULT_TRIG, CAL_LASTRESULT_ORPHAN,
  CAL_LASTRESULT_TRIMDROP, CAL_STATUS_BACKOFF, CAL_STATUS_COMPUTE]

theorem State.failNoted_regsBut (s : State) (code : Nat) : regsBut failFlds s (s.failNoted code) := by
  have hcount : regsBut failFlds s (s.bump CAL_FAILS_COUNT) := (regsBut.refl _ s).set (by simp [failFlds])
  have hresult : ∀ t : State, regsBut failFlds t (t.calResult code) := fun t => by
    unfold State.calResult
    rw [State.setB_eq]
    exact ((((regsBut.refl _ t).set (by simp [failFlds])).set (by simp [failFlds])).set (by simp [failFlds])).set
      (by simp [failFlds])
  have hshown : regsBut failFlds s (s.failShown code) := by
    unfold State.failShown
    exact (hcount.trans (hresult _)).set (by simp [failFlds])
  unfold State.failNoted
  exact (hshown.with_cal s.cal.failed).set (by simp [failFlds])

/-- A failure changes no enable of a source. -/
theorem State.calFailed_en (s : State) (code : Nat) {g : Fld} (h : g.enables) : (s.calFailed code).get g = s.get g := by
  rw [State.calFailed_eq, State.opFinish_en _ _ _ _ h]
  exact (s.failNoted_regsBut code).below (a := 32 * 0x6400) (by decide) (h.2.trans (by decide))

/-! ### Aborts -/

/-- An abort by the host but for the completion of the operations that wait for it (R137). -/
def State.abortShown (s : State) : State := ((s.bump CAL_ABORTS_COUNT).calResult 8).raise Src.calAbort

/-- What every abort by the host of a calibration without results does (R137). -/
def State.abortNoted (s : State) : State :=
  ({ s.abortShown with
    cal := { s.abortShown.cal with dead := true, ready := false } }.set CAL_STATUS_COMPUTE 0).opFinish 0x0301 3 []

/-- ABORT in the closing, settling and capture phases releases LY (R137). -/
theorem State.calAbortW_blind (s : State) (hp : s.calPhase = 2 ∨ s.calPhase = 3 ∨ s.calPhase = 4)
    (hd : s.cal.dead = false) : s.calAbortW = s.calRelease.abortNoted.setPhase 5 := by
  have h10 : s.calPhase ≠ 10 := by omega
  have h1 : s.calPhase ≠ 1 := by omega
  rw [State.calAbortW, if_neg h10]
  simp only [State.calAbort]
  rw [if_neg h1, if_pos ⟨hp, hd⟩]
  rfl

/-- ABORT of a calibration that waits for its grant gives the request back (R137). -/
theorem State.calAbortW_waiting (s : State) (hp : s.calPhase = 1) :
    s.calAbortW = s.dropGrant.abortNoted.calEnded.setPhase 0 := by
  have h10 : s.calPhase ≠ 10 := by omega
  rw [State.calAbortW, if_neg h10]
  simp only [State.calAbort]
  rw [if_pos hp]
  rfl

theorem State.abortShown_cal (s : State) : s.abortShown.cal = s.cal := by
  simp only [State.abortShown, State.raise_cal, State.calResult, State.bump_eq, State.setB_eq, State.set_cal]

theorem State.abortNoted_cal (s : State) : s.abortNoted.cal = { s.cal with dead := true, ready := false } := by
  rw [State.abortNoted, ← s.abortShown_cal]
  exact (State.opFinish_keeps ..).same.cal rfl

theorem State.abortNoted_shown (s : State) :
    s.abortNoted.get CAL_LASTRESULT_CODE = 8 ∧
    s.abortNoted.get CAL_ABORTS_COUNT = satAdd 32 (s.get CAL_ABORTS_COUNT) 1 ∧
    s.abortNoted.get CAL_STATUS_COMPUTE = 0 ∧
    s.abortNoted.get ARB_LYCTRL_ENERGISE = s.get ARB_LYCTRL_ENERGISE := by
  have hkeep := State.opFinish_keeps ({ s.abortShown with
    cal := { s.abortShown.cal with dead := true, ready := false } }.set CAL_STATUS_COMPUTE 0) 0x0301 3 []
  have hraise : ∀ f : Fld, f.noEvt → s.abortShown.get f = ((s.bump CAL_ABORTS_COUNT).calResult 8).get f :=
    fun f => State.raise_get _ _ f
  rw [State.abortNoted, hkeep.fields CAL_LASTRESULT_CODE (by decide +kernel),
    hkeep.fields CAL_ABORTS_COUNT (by decide +kernel), hkeep.fields CAL_STATUS_COMPUTE (by decide +kernel),
    hkeep.fields ARB_LYCTRL_ENERGISE (by decide +kernel)]
  simp (disch := decide) only [State.get_with_cal, hraise, State.calResult, State.bump_eq,
    State.setB_eq, State.get_set, State.get_set_ne]
  exact ⟨rfl, satAdd_mod 32 _ 1, rfl, trivial⟩

theorem State.abortNoted_chain (s : State) : s.abortNoted.chain = s.chain := by
  have hshown : s.abortShown.chain = s.chain := by
    simp only [State.abortShown, State.raise_chain, State.calResult, State.bump_eq, State.setB_eq, State.set_chain]
  rw [State.abortNoted, (State.opFinish_keeps ..).same.chain rfl]
  exact hshown

/-! ### The request for a grant -/

theorem State.grantPump_asked (s : State) : s.grantPump.chain.asked = s.chain.asked := by
  have hshow : ∀ t : State, t.grantShow.chain = t.chain := fun t => rfl
  have htake : ∀ (t : State) (b : Nat), (t.takeGrant b).chain = t.chain := fun t b => by
    unfold State.takeGrant
    split <;> rfl
  unfold State.grantPump
  split
  · simp only
    split
    · rw [htake, hshow]
    · rfl
  · rw [hshow]

/-- After it no request stands. -/
theorem State.dropGrant_asked (s : State) : s.dropGrant.chain.asked = false := by
  unfold State.dropGrant
  split
  case isFalse h => simpa using h
  case isTrue =>
    simp only
    split
    · unfold State.endGrant
      split <;> exact State.grantPump_asked _
    · split <;> rfl

/-! ### The end -/

theorem State.calEnded_cal (s : State) : s.calEnded.cal = { s.cal with
    lastEnd := s.time + 1, lastOk := if s.cal.success then s.time else s.cal.lastOk,
    retryAt := s.calEnded.cal.retryAt } := by
  rw [State.calEnded]
  simp only [State.record_cal]

theorem State.calEnded_get (s : State) {f : Fld} (h : f.noEvt) : s.calEnded.get f = s.get f :=
  State.record_get _ _ _ _ _ f h

/-- With no trigger pending the end of a calibration is all that happens. -/
theorem State.calIdle_quiet (s : State) (h : s.get CAL_STATUS_PENDING = 0) : s.calIdle = s.calEnded.setPhase 0 := by
  refine State.calNext_idle _ ?_
  rw [State.setPhase, State.get_set_ne _ _ _ _ (by decide), s.calEnded_get (by decide), h]

end Sys2Proof.Machine
end

section
/-! SUPPORT. The computation of a calibration, its write, the copy of the slots and the end of the hand-off (R130 to
R136). -/

namespace Sys2Proof.Machine

open Reg

/-! ### The computation -/

theorem State.calCompute_cal (s : State) : s.calCompute.cal.dead = s.cal.dead ∧
    s.calCompute.cal.ready = decide (s.calCompute.cal.failCode = 0) ∧ s.calCompute.cal.failCode ≤ 6 := by
  simp only [State.calCompute]
  refine ⟨?_, ?_, ?_⟩
  · simp only [State.set_cal, (State.noiseCheck_keeps _ _).same.cal rfl]
  · exact rfl
  · repeat' split
    all_goals omega

/-- The computation done but for what follows from its checks (R131). -/
def State.computed (s : State) : State := s.calCompute.set CAL_STATUS_COMPUTE 0

theorem State.computeDone_passed (s : State) (hp : s.calPhase = 5) (hc : s.get CAL_STATUS_COMPUTE = 1)
    (hd : s.cal.dead = false) (h : s.computed.cal.failCode = 0) : s.computeDone = s.computed.calStore :=
  (if_pos ⟨hp, (s.flag_iff _).mpr hc, hd⟩).trans (if_pos h)

theorem State.computeDone_failed (s : State) (hp : s.calPhase = 5) (hc : s.get CAL_STATUS_COMPUTE = 1)
    (hd : s.cal.dead = false) (h : s.computed.cal.failCode ≠ 0) :
    s.computeDone = (s.computed.calFailed s.computed.cal.failCode).raise Src.calFail :=
  (if_pos ⟨hp, (s.flag_iff _).mpr hc, hd⟩).trans (if_neg h)

/-- The computation changes registers of LASTSTATS and TNOISE alone. -/
theorem State.computed_get (s : State) {f : Fld} (hf : f.key ≠ CAL_STATUS_COMPUTE.key)
    (hk : (0x180000000000000000000000000000000000010000002008).testBit (32 + f.cls) = false) :
    s.computed.get f = s.get f :=
  (State.get_set_ne _ _ _ _ hf).trans (s.calCompute_keeps.fields f hk)

theorem foldl_cal {β : Type} (f : State → β → State) (hf : ∀ s b, (f s b).cal = s.cal) (l : List β) (s : State) :
    (l.foldl f s).cal = s.cal := by
  induction l generalizing s with
  | nil => rfl
  | cons b r ih => exact (ih _).trans (hf s b)

theorem State.calWrite_cal (s : State) :
    s.calWrite.cal = { s.cal with ofsFailPrev := s.cal.ofsFail, written := true } := by
  unfold State.calWrite
  extract_lets pixels slots act refs marks
  have hslots : slots.cal = s.cal := foldl_cal _ (fun t p => (State.setPb_keeps _ _ _).same.cal rfl) _ _
  have hmarks : marks.cal = refs.cal := foldl_cal _ (fun t c => (State.setMark_keeps _ _ _).same.cal rfl) _ _
  have hcal : marks.cal = s.cal := hmarks.trans hslots
  exact congrArg (fun c : Cal => { c with ofsFailPrev := c.ofsFail, written := true }) hcal

/-- Storing passed results leaves the outcome of the checks. -/
theorem State.calStore_cal (s : State) : s.calStore.cal.dead = s.cal.dead ∧ s.calStore.cal.ready = s.cal.ready ∧
    s.calStore.cal.failCode = s.cal.failCode := by
  unfold State.calStore
  split
  · rw [State.calWrite_cal]
    exact ⟨rfl, rfl, rfl⟩
  · exact ⟨rfl, rfl, rfl⟩

/-! ### The copy of the slots -/

theorem State.setPb_get (s : State) (a v : Nat) {f : Fld} (h : f.key ≠ MEM_TESTABORTS_COUNT.key) :
    (s.setPb a v).get f = s.get f :=
  State.wordWritten_get _ _ _ _ h

/-- The records of the copy: both slots hold the active offset (R114, R135). -/
def State.recordsCopied (s : State) : State :=
  (s.corr.pb.filter fun p => p.1 % 4 == 0).foldl (fun s p =>
    s.setPb p.1 (Rec.ofs p.2 (bitOf (s.get COR_OSEL_ACT) (p.1 / 16384)) +
      Rec.ofs p.2 (bitOf (s.get COR_OSEL_ACT) (p.1 / 16384)) * 65536)) s

theorem State.recordsCopied_get (s : State) {f : Fld} (h : f.key ≠ MEM_TESTABORTS_COUNT.key) :
    s.recordsCopied.get f = s.get f :=
  foldl_get _ f (fun t _ => t.setPb_get _ _ h) _ _

/-- The idle reference takes the active one (R135). -/
theorem State.slotCopy_eq (s : State) : s.slotCopy =
    if bitOf (s.get COR_OSEL_ACT) 0 then s.recordsCopied.set COR_TREF_A_TEMP (s.get COR_TREF_B_TEMP)
    else s.recordsCopied.set COR_TREF_B_TEMP (s.get COR_TREF_A_TEMP) := by
  rw [← s.recordsCopied_get (f := COR_OSEL_ACT) (by decide), ← s.recordsCopied_get (f := COR_TREF_A_TEMP) (by decide),
    ← s.recordsCopied_get (f := COR_TREF_B_TEMP) (by decide)]
  rfl

theorem State.slotCopy_toA (s : State) (h : bitOf (s.get COR_OSEL_ACT) 0 = true) :
    s.slotCopy.get COR_TREF_A_TEMP = s.get COR_TREF_B_TEMP % 2 ^ 20 := by
  rw [State.slotCopy_eq, if_pos h, State.get_set]
  rfl

theorem State.slotCopy_toB (s : State) (h : bitOf (s.get COR_OSEL_ACT) 0 = false) :
    s.slotCopy.get COR_TREF_B_TEMP = s.get COR_TREF_A_TEMP % 2 ^ 20 := by
  rw [State.slotCopy_eq, if_neg (by rw [h]; decide), State.get_set]
  rfl

/-- The copy of a calibration that hands nothing off, but for the end of the calibration. -/
def State.copied (s : State) : State :=
  { s.slotCopy with cal := { s.slotCopy.cal with copying := false, handFrames := 0 } }

theorem State.copyDone_dead (s : State) (hp : s.calPhase = 7) (hc : s.cal.copying = true) (hd : s.cal.dead = true) :
    s.copyDone = s.copied.calIdle := by
  have hdead : s.copied.cal.dead = true := (congrArg Cal.dead (s.slotCopy_keeps.same.cal rfl)).trans hd
  rw [State.copyDone, if_pos ⟨hp, hc⟩]
  exact if_pos (by rw [Bool.or_eq_true]; exact .inl hdead)

/-! ### The end of the hand-off -/

/-- With no step under way none settles. -/
theorem State.settleSteps_none (s : State) (h : s.cal.steps = []) : s.settleSteps = s := by
  have hcal : { s.cal with steps := [] } = s.cal := by rw [← h]
  simp only [State.settleSteps, h, List.filter_nil, List.foldl_nil, hcal]

/-- TRIMDROP as the end of the hand-off leaves it (R136). -/
def State.dropsTold (s : State) : State :=
  if s.cal.dead = false ∧ s.handoffLeft = true then s.set CAL_LASTRESULT_TRIMDROP 1 else s

theorem State.dropsTold_cal (s : State) : s.dropsTold.cal = s.cal := by
  unfold State.dropsTold
  split <;> rfl

theorem State.dropsTold_trimdrop (s : State) : s.dropsTold.get CAL_LASTRESULT_TRIMDROP =
    if s.cal.dead = false ∧ s.handoffLeft = true then 1 else s.get CAL_LASTRESULT_TRIMDROP := by
  unfold State.dropsTold
  split
  · exact State.get_set _ _ 1
  · rfl

theorem State.dropsTold_regsBut (s : State) : regsBut [CAL_LASTRESULT_TRIMDROP] s s.dropsTold :=
  ((regsBut.refl _ s).set List.mem_cons_self).ite (.refl _ s)

theorem State.dropsTold_frame (s : State) : s.dropsTold = { s with regs := s.dropsTold.regs } := by
  unfold State.dropsTold
  split <;> rfl

end Sys2Proof.Machine
end

section
/-! SUPPORT. The phases of a calibration to its end, command by command. -/

namespace Sys2Proof

open Sys2Proof.Machine Sys2Proof.Machine.Reg

theorem exec_calComputeDone_passed (s : State) (hp : s.calPhase = 5) (hc : s.get CAL_STATUS_COMPUTE = 1)
    (hd : s.cal.dead = false) (h : s.computed.cal.failCode = 0) :
    exec .calComputeDone s = .next s.computed.calStore := congrArg ok (s.computeDone_passed hp hc hd h)

theorem exec_calComputeDone_failed (s : State) (hp : s.calPhase = 5) (hc : s.get CAL_STATUS_COMPUTE = 1)
    (hd : s.cal.dead = false) (h : s.computed.cal.failCode ≠ 0) : exec .calComputeDone s =
      .next ((s.computed.calFailed s.computed.cal.failCode).raise Src.calFail) :=
  congrArg ok (s.computeDone_failed hp hc hd h)

theorem computed_cal (s : State) : s.computed.cal = s.calCompute.cal := rfl

/-- What passed checks leave: the calibration lives and has its results. -/
theorem computed_passed_shown (s : State) (h : s.computed.cal.failCode = 0) :
    s.computed.calStore.calPhase = s.calPhase ∧ s.computed.calStore.get CAL_STATUS_COMPUTE = 0 ∧
    s.computed.calStore.cal.failCode = 0 ∧ s.computed.calStore.cal.ready = true ∧
    s.computed.calStore.cal.dead = s.cal.dead ∧
    s.computed.calStore.get CAL_LASTRESULT_CODE = s.get CAL_LASTRESULT_CODE := by
  obtain ⟨hdead, hready, -⟩ := s.calCompute_cal
  obtain ⟨sdead, sready, scode⟩ := s.computed.calStore_cal
  have hkeep := s.computed.calStore_keeps
  refine ⟨?_, ?_, scode.trans h, sready.trans (hready.trans (decide_eq_true h)), sdead.trans hdead, ?_⟩
  · exact (hkeep.fields CAL_STATUS_PHASE (by decide +kernel)).trans (s.computed_get (by decide) (by decide +kernel))
  · exact (hkeep.fields CAL_STATUS_COMPUTE (by decide +kernel)).trans (State.get_set _ _ 0)
  · exact (hkeep.fields CAL_LASTRESULT_CODE (by decide +kernel)).trans (s.computed_get (by decide) (by decide +kernel))

/-- What a failed check leaves: the calibration is dead, counted, and shows the check's code. -/
theorem computed_failed_shown (s : State) (code : Nat) (hcode : code < 16) :
    ((s.computed.calFailed code).raise Src.calFail).calPhase = s.calPhase ∧
    ((s.computed.calFailed code).raise Src.calFail).get CAL_STATUS_COMPUTE = 0 ∧
    ((s.computed.calFailed code).raise Src.calFail).get CAL_LASTRESULT_CODE = code ∧
    ((s.computed.calFailed code).raise Src.calFail).get CAL_FAILS_COUNT = satAdd 32 (s.get CAL_FAILS_COUNT) 1 := by
  obtain ⟨hres, hfails, -, hcomp⟩ := s.computed.calFailed_shown code
  have hphase := ((s.computed.calFailed_keeps code).fields CAL_STATUS_PHASE (by decide +kernel)).trans
    (s.computed_get (by decide) (by decide +kernel))
  have hcount : s.computed.get CAL_FAILS_COUNT = s.get CAL_FAILS_COUNT := s.computed_get (by decide) (by decide +kernel)
  rw [hcount] at hfails
  exact ⟨(State.raise_get _ _ _ (by decide)).trans hphase, (State.raise_get _ _ _ (by decide)).trans hcomp,
    ((State.raise_get _ _ _ (by decide)).trans hres).trans (Nat.mod_eq_of_lt hcode),
    (State.raise_get _ _ _ (by decide)).trans hfails⟩

/-- The end of a copy that hands nothing off, with no trigger pending. -/
theorem exec_calSlotCopyDone_dead (s : State) (hp : s.calPhase = 7) (hc : s.cal.copying = true)
    (hd : s.cal.dead = true) (hn : s.get CAL_STATUS_PENDING = 0) :
    exec .calSlotCopyDone s = .next (s.copied.calEnded.setPhase 0) := by
  have hpend : s.copied.get CAL_STATUS_PENDING = 0 := (s.slotCopy_keeps.fields _ (by decide +kernel)).trans hn
  exact congrArg ok ((s.copyDone_dead hp hc hd).trans (s.copied.calIdle_quiet hpend))

/-- The end of a calibration after a change of registers. -/
theorem calEnded_frame_after {s t : State} (ht : t = { s with regs := t.regs }) : t.calEnded.setPhase 0 =
    { s with regs := (t.calEnded.setPhase 0).regs, evt := (t.calEnded.setPhase 0).evt,
             mem := (t.calEnded.setPhase 0).mem, cal := (t.calEnded.setPhase 0).cal } :=
  (congrArg (fun x : State => { x with regs := (t.calEnded.setPhase 0).regs }) t.calEnded_keeps.frame).trans
    (congrArg (fun x : State => { x with regs := (t.calEnded.setPhase 0).regs, evt := t.calEnded.evt,
                                         mem := t.calEnded.mem, cal := t.calEnded.cal }) ht)

/-- The end of the hand-off with no step under way and no trigger pending. -/
theorem exec_trimHandoffTimeout_quiet (s : State) (hp : s.calPhase = 8) (hs : s.cal.steps = [])
    (hn : s.get CAL_STATUS_PENDING = 0) : exec .trimHandoffTimeout s = .next (s.dropsTold.calEnded.setPhase 0) := by
  have hpend : s.dropsTold.get CAL_STATUS_PENDING = 0 := (s.dropsTold_regsBut _ (by decide)).trans hn
  refine congrArg ok ((if_pos hp).trans ?_)
  rw [s.settleSteps_none hs]
  exact s.dropsTold.calIdle_quiet hpend

/-- Settles O25, command by command. -/
theorem calibrationPhasesAdvanceToTheirEnd : Obligations.CalibrationPhasesAdvanceToTheirEnd := by
  refine ⟨fun s hp => ⟨_, congrArg ok (if_pos hp), rfl, rfl, rfl⟩, fun s hp => ?_, fun s hp hc hd => ?_,
    fun s hp ho => ⟨_, congrArg ok (if_pos ⟨hp, ho⟩), rfl, rfl⟩, fun s hp hc hd hn => ?_, fun s hp hs hn => ?_⟩
  · have ht : exec .calCaptureEnd s = .next s.captureEnd := congrArg ok (if_pos hp)
    obtain ⟨hframe, hregs⟩ := everyCommandKeepsWhatIsOutsideItsFrame .calCaptureEnd s _ ht
    refine ⟨_, ht, ?_, State.get_set _ _ 1, ?_, s.calRelease_cal, hframe, hregs⟩
    · exact (State.get_set_ne _ _ _ _ (by decide)).trans (State.get_set _ CAL_STATUS_PHASE 5)
    · rw [State.captureEnd, State.get_set_ne _ _ _ _ (by decide), State.setPhase, State.get_set_ne _ _ _ _ (by decide),
        State.calRelease_energise]
  · by_cases h : s.computed.cal.failCode = 0
    · have ht := exec_calComputeDone_passed s hp hc hd h
      obtain ⟨hframe, hregs⟩ := everyCommandKeepsWhatIsOutsideItsFrame .calComputeDone s _ ht
      obtain ⟨hphase, hcomp, hcode, hready, hdead, hres⟩ := computed_passed_shown s h
      exact ⟨_, ht, hphase.trans hp, hcomp, hready.trans (decide_eq_true hcode).symm, fun hne => absurd hcode hne,
        fun _ => ⟨hdead.trans hd, hres⟩, hframe, hregs⟩
    · have ht := exec_calComputeDone_failed s hp hc hd h
      obtain ⟨hframe, hregs⟩ := everyCommandKeepsWhatIsOutsideItsFrame .calComputeDone s _ ht
      obtain ⟨-, -, hle⟩ := s.calCompute_cal
      obtain ⟨hphase, hcomp, hres, hfails⟩ := computed_failed_shown s s.computed.cal.failCode (by
        rw [computed_cal]; omega)
      have hcal : ((s.computed.calFailed s.computed.cal.failCode).raise Src.calFail).cal = s.computed.cal.failed := by
        rw [State.raise_cal, State.calFailed_cal]
      refine ⟨_, ht, hphase.trans hp, hcomp, ?_, fun _ => ⟨?_, ?_, hfails⟩, fun hz => ?_, hframe, hregs⟩
      · rw [hcal]
        exact (decide_eq_false h).symm
      · rw [hcal]
        rfl
      · rw [hcal, hres]
        rfl
      · rw [hcal] at hz
        exact absurd hz h
  · have ht := exec_calSlotCopyDone_dead s hp hc hd hn
    obtain ⟨hframe, hregs⟩ := everyCommandKeepsWhatIsOutsideItsFrame .calSlotCopyDone s _ ht
    have hcopied : s.copied.cal = { s.cal with copying := false, handFrames := 0 } :=
      congrArg (fun c : Cal => { c with copying := false, handFrames := 0 }) (s.slotCopy_keeps.same.cal rfl)
    have htime : s.copied.time = s.time := s.slotCopy_keeps.same.time rfl
    have hget : ∀ f : Fld, f.noEvt → f.key ≠ CAL_STATUS_PHASE.key →
        (s.copied.calEnded.setPhase 0).get f = s.slotCopy.get f := fun f he hf =>
      (State.get_set_ne _ _ _ _ hf).trans (s.copied.calEnded_get he)
    refine ⟨_, ht, State.get_set _ CAL_STATUS_PHASE 0, ?_, fun h => ?_, fun h => ?_, hframe, hregs⟩
    · refine s.copied.calEnded_cal.trans ?_
      rw [htime, hcopied]
      rfl
    · rw [hget _ (by decide) (by decide), s.slotCopy_toB h]
    · rw [hget _ (by decide) (by decide), s.slotCopy_toA h]
  · refine ⟨_, exec_trimHandoffTimeout_quiet s hp hs hn, State.get_set _ CAL_STATUS_PHASE 0, ?_, ?_, ?_, ?_⟩
    · refine s.dropsTold.calEnded_cal.trans ?_
      rw [s.dropsTold_cal, s.dropsTold_frame]
      rfl
    · rw [State.setPhase, State.get_set_ne _ _ _ _ (by decide), State.calEnded_get _ (by decide), s.dropsTold_trimdrop]
    · exact calEnded_frame_after s.dropsTold_frame
    · exact (s.dropsTold_regsBut.mono (by simp)).toEvt.trans
        (.trans (fun f he _ => s.dropsTold.calEnded_get he) ((regsBut.refl _ _).set (by simp)).toEvt)

end Sys2Proof
end

section
/-! SUPPORT. The flag of LY, and what its confirmations, its failures and aborts make of a calibration (R120, R122,
R123, R137, R268). -/

namespace Sys2Proof.Machine

open Reg

/-! ### Confirmations -/

/-- Settling begins at the confirmation (R120). -/
def State.settling (s : State) : State :=
  { s with cal := { s.cal with closedAt := s.time, settled := false } }.setPhase 3

theorem State.settling_regsBut (s : State) : regsBut [CAL_STATUS_PHASE] s s.settling :=
  ((regsBut.refl _ s).with_cal _).set List.mem_cons_self

/-- Every tile stands on the common slot, so the confirmation asks for no flip (R120, R486). -/
theorem State.flagClosed_common (s : State) (hp : s.calPhase = 2) (ha : s.get COR_OSEL_ACT = 0) :
    s.flagClosed = s.settling := by
  have hact : State.get ({ s with cal := { s.cal with closedAt := s.time, settled := false } }.setPhase 3)
      COR_OSEL_ACT = 0 := (s.settling_regsBut _ (by decide)).trans ha
  have hslot : ∀ n, bitOf 0 n = bitOf 0 0 := fun n => by simp only [bitOf_eq_testBit, Nat.zero_testBit]
  rw [State.flagClosed, if_pos hp]
  simp only [hact, hslot, if_true]
  exact List.foldl_fixed _

/-- The measured time in units of 10 µs, half a unit up. -/
theorem rnd_tenMicros (n : Nat) : rnd n 10000 = (n + 5000) / 10000 := by
  rw [rnd, if_neg (by decide)]
  omega

theorem State.lyConfirm_closed_shown (s : State) : (s.lyConfirm true).get ARB_LYSTAT_CLOSED = 1 ∧
    (s.lyConfirm true).get ARB_LYSTAT_OPEN = 0 ∧
    (s.lyConfirm true).get ARB_LYTIME_TCLOSED = min 65535 (((s.time - (s.drive 128).on) + 5000) / 10000) ∧
    regsBut [ARB_LYSTAT_CLOSED, ARB_LYSTAT_OPEN, ARB_LYTIME_TCLOSED] s (s.lyConfirm true) := by
  have hfits : min 65535 (rnd (s.time - (s.drive 128).on) 10000) % 2 ^ 16 =
      min 65535 (((s.time - (s.drive 128).on) + 5000) / 10000) := by
    rw [rnd_tenMicros]
    omega
  simp (disch := decide) only [State.lyConfirm, if_true, State.get_set, State.get_set_ne]
  exact ⟨rfl, rfl, hfits, (((regsBut.refl _ s).set (by simp)).set (by simp)).set (by simp)⟩

theorem State.lyConfirm_open_shown (s : State) : (s.lyConfirm false).get ARB_LYSTAT_OPEN = 1 ∧
    (s.lyConfirm false).get ARB_LYSTAT_CLOSED = 0 ∧
    (s.lyConfirm false).get ARB_LYTIME_TOPENED = min 65535 (((s.time - (s.drive 128).off) + 5000) / 10000) ∧
    regsBut [ARB_LYSTAT_CLOSED, ARB_LYSTAT_OPEN, ARB_LYTIME_TOPENED] s (s.lyConfirm false) := by
  have hfits : min 65535 (rnd (s.time - (s.drive 128).off) 10000) % 2 ^ 16 =
      min 65535 (((s.time - (s.drive 128).off) + 5000) / 10000) := by
    rw [rnd_tenMicros]
    omega
  simp (disch := decide) only [State.lyConfirm, Bool.false_eq_true, if_false, State.get_set, State.get_set_ne]
  exact ⟨rfl, rfl, hfits, (((regsBut.refl _ s).set (by simp)).set (by simp)).set (by simp)⟩

/-! ### FAULT_N -/

/-- What holds FAULT_N low is no register of its own. -/
theorem State.faultHeld_set_fault (s : State) (v : Nat) : (s.set GLB_STAT_FAULT v).faultHeld = s.faultHeld := by
  simp (disch := decide) only [State.faultHeld, State.mode, State.flag, State.get_set_ne, State.set_house]

/-- GLB_STAT.FAULT tells whether FAULT_N is held low. -/
theorem State.faultShow_iff (s : State) : s.faultShow.get GLB_STAT_FAULT = 1 ↔ s.faultShow.faultHeld = true := by
  rw [State.faultShow, State.setB_eq, State.faultHeld_set_fault, State.get_set]
  cases s.faultHeld <;> decide

theorem State.faultShow_regsBut (s : State) : regsBut [GLB_STAT_FAULT] s s.faultShow :=
  (regsBut.refl _ s).set List.mem_cons_self

/-- The flag confirmed open in the opening phase (R120, R123). -/
def State.opened (s : State) : State :=
  { (s.set CAL_STATUS_STUCK 0).faultShow with cal := { s.cal with openAt := s.time + 1 } }

theorem State.flagOpen_opening (s : State) (hp : s.calPhase = 5) : s.flagOpen = s.opened := by
  have hp' : ((s.set CAL_STATUS_STUCK 0).faultShow).calPhase = 5 :=
    (State.faultShow_regsBut _ CAL_STATUS_PHASE (by decide)).trans ((State.get_set_ne _ _ _ _ (by decide)).trans hp)
  exact if_pos hp'

theorem State.opened_shown (s : State) : s.opened.get CAL_STATUS_STUCK = 0 ∧
    (s.opened.get GLB_STAT_FAULT = 1 ↔ s.opened.faultHeld = true) ∧
    regsBut [CAL_STATUS_STUCK, GLB_STAT_FAULT] s s.opened := by
  have hshow := (s.set CAL_STATUS_STUCK 0).faultShow_regsBut
  exact ⟨(hshow CAL_STATUS_STUCK (by decide)).trans (State.get_set _ _ 0), (s.set CAL_STATUS_STUCK 0).faultShow_iff,
    regsBut.trans ((regsBut.refl _ s).set (f := CAL_STATUS_STUCK) (by simp)) (hshow.mono (by simp))⟩

/-! ### Failures -/

/-- A calibration that fails for its flag (R122): LY released, dead, in the opening phase. -/
theorem State.flagFailed_shown (s : State) : s.flagFailed.calPhase = 5 ∧
    s.flagFailed.cal = { s.cal with releasedAt := s.time, openAt := 0 }.failed ∧
    s.flagFailed.get CAL_LASTRESULT_CODE = 2 ∧
    s.flagFailed.get CAL_FAILS_COUNT = satAdd 32 (s.get CAL_FAILS_COUNT) 1 ∧
    s.flagFailed.get ARB_LYCTRL_ENERGISE = 0 ∧
    s.flagFailed.get CAL_STATUS_BACKOFF = min 3 (s.get CAL_STATUS_BACKOFF + 1) := by
  have hget : ∀ f : Fld, f.noEvt → f.key ≠ CAL_STATUS_PHASE.key →
      s.flagFailed.get f = (s.calRelease.calFailed 2).get f := fun f he hf =>
    (State.get_set_ne _ _ _ _ hf).trans (State.raise_get _ _ f he)
  obtain ⟨hcode, hfails, hback, -⟩ := s.calRelease.calFailed_shown 2
  have hkeep := s.calRelease_keeps
  rw [hkeep.fields CAL_FAILS_COUNT (by decide +kernel)] at hfails
  rw [hkeep.fields CAL_STATUS_BACKOFF (by decide +kernel)] at hback
  refine ⟨State.get_set _ CAL_STATUS_PHASE 5, ?_, (hget _ (by decide) (by decide)).trans hcode,
    (hget _ (by decide) (by decide)).trans hfails, (hget _ (by decide) (by decide)).trans ?_,
    (hget _ (by decide) (by decide)).trans hback⟩
  · rw [← s.calRelease_cal, ← State.calFailed_cal _ 2]
    exact State.raise_cal _ _
  · exact ((s.calRelease.calFailed_keeps 2).fields _ (by decide +kernel)).trans s.calRelease_energise

/-- LANYARD_FAULT is raised after the failure, and the change of phase leaves the event's status (R122). -/
theorem State.flagFailed_raised (s : State) : raisedIn Src.lanyardFault s s.flagFailed := by
  have hfuses : (s.calRelease.calFailed 2).fuses = s.fuses :=
    (State.calFailed_keeps _ 2).fuses.trans s.calRelease_keeps.fuses
  have hen : (s.calRelease.calFailed 2).get (enFld (Src.lanyardFault / 32)) = s.get (enFld (Src.lanyardFault / 32)) :=
    (State.calFailed_en _ 2 (enFld_enables _)).trans (s.calRelease_keeps.enables (enFld_enables _) rfl)
  exact (State.raise_status _ _).of_enables hfuses hen |>.of_stat (State.get_set_ne _ _ _ _ (by decide))

/-- STUCK 1 s after the release of LY (R123). -/
def State.stuckSet (s : State) : State :=
  (s.advance (floor2 (s.cal.releasedAt + 1000000000))).set CAL_STATUS_STUCK 1

/-- The event of a flag that is stuck (R123). -/
def State.stuckTold (s : State) : State := s.stuckSet.raise Src.lanyardFault

theorem State.flagStuckS_opening (s : State) (hp : s.calPhase = 5) (ho : s.cal.openAt = 0) :
    s.flagStuckS = s.stuckTold.faultShow := if_pos ⟨hp, ho⟩

theorem State.stuckTold_stuck (s : State) : s.stuckTold.get CAL_STATUS_STUCK = 1 :=
  (State.raise_get _ _ _ (by decide)).trans (State.get_set _ _ 1)

theorem State.stuckTold_raised (s : State) : raisedIn Src.lanyardFault s s.stuckTold.faultShow := by
  have hen : s.stuckSet.get (enFld (Src.lanyardFault / 32)) = s.get (enFld (Src.lanyardFault / 32)) :=
    State.get_set_ne _ _ _ _ (by decide)
  have hst : s.stuckTold.faultShow.get (EVT_STAT_STAT (Src.lanyardFault / 32)) =
      s.stuckTold.get (EVT_STAT_STAT (Src.lanyardFault / 32)) := State.faultShow_regsBut _ _ (by decide)
  exact ((State.raise_status s.stuckSet _).of_enables (s := s) rfl hen).of_stat hst

theorem State.stuckTold_regsButEvt (s : State) :
    regsButEvt [CAL_STATUS_STUCK, GLB_STAT_FAULT] s s.stuckTold.faultShow :=
  have hset : regsBut [CAL_STATUS_STUCK, GLB_STAT_FAULT] s s.stuckSet :=
    regsBut.set (fun _ _ => rfl) List.mem_cons_self
  (hset.toEvt.trans (State.raise_regsButEvt _ _ _)).trans ((State.faultShow_regsBut _).mono (by simp)).toEvt

theorem State.faultHeld_of_stuck (s : State) (h : s.get CAL_STATUS_STUCK = 1) : s.faultHeld = true := by
  rw [State.faultHeld, (s.flag_iff _).mpr h, Bool.or_true]

end Sys2Proof.Machine
end

section
/-! SUPPORT. The flag's confirmations and failures and the aborts, command by command. -/

namespace Sys2Proof

open Sys2Proof.Machine Sys2Proof.Machine.Reg

theorem exec_lyFlagClosed_closing (s : State) (w : LySense) (hsee : s.lySees w true = true)
    (hsearch : s.lySearch true = true) (hp : s.calPhase = 2) (ha : s.get COR_OSEL_ACT = 0) :
    exec (.lyFlagClosed w) s = .next (s.lyConfirm true).settling := by
  obtain ⟨-, -, -, hregs⟩ := s.lyConfirm_closed_shown
  exact congrArg ok ((if_pos (by rw [hsee, hsearch]; rfl)).trans
    (State.flagClosed_common _ ((hregs CAL_STATUS_PHASE (by decide)).trans hp) ((hregs _ (by decide)).trans ha)))

theorem exec_lyFlagOpen_opening (s : State) (w : LySense) (hsee : s.lySees w false = true)
    (hsearch : s.lySearch false = true) (hp : s.calPhase = 5) :
    exec (.lyFlagOpen w) s = .next (s.lyConfirm false).opened := by
  obtain ⟨-, -, -, hregs⟩ := s.lyConfirm_open_shown
  exact congrArg ok ((if_pos (by rw [hsee, hsearch]; rfl)).trans
    (State.flagOpen_opening _ ((hregs CAL_STATUS_PHASE (by decide)).trans hp)))

theorem exec_flagCloseTimeout_closing (s : State) (hp : s.calPhase = 2) :
    exec .flagCloseTimeout s = .next s.flagFailed := congrArg ok (if_pos hp)

theorem exec_flagStuck_opening (s : State) (hp : s.calPhase = 5) (ho : s.cal.openAt = 0) :
    exec .flagStuck s = .next s.stuckTold.faultShow := congrArg ok (s.flagStuckS_opening hp ho)

theorem exec_calAbort_blind (s : State) (r : Requester) (hr : s.protected r 0x6400 = false)
    (hp : s.calPhase = 2 ∨ s.calPhase = 3 ∨ s.calPhase = 4) (hd : s.cal.dead = false) :
    exec (.calAbort r) s = .next (s.calRelease.abortNoted.setPhase 5) :=
  congrArg ok ((s.guardW_of_unprotected r _ _ hr).trans (s.calAbortW_blind hp hd))

theorem exec_calAbort_waiting (s : State) (r : Requester) (hr : s.protected r 0x6400 = false) (hp : s.calPhase = 1) :
    exec (.calAbort r) s = .next (s.dropGrant.abortNoted.calEnded.setPhase 0) :=
  congrArg ok ((s.guardW_of_unprotected r _ _ hr).trans (s.calAbortW_waiting hp))

/-- Settles O24, command by command. -/
theorem flagConfirmationsTimeoutsAndAbortsDriveTheCalibration :
    Obligations.FlagConfirmationsTimeoutsAndAbortsDriveTheCalibration := by
  refine ⟨fun s w hsee hsearch hp ha => ⟨_, exec_lyFlagClosed_closing s w hsee hsearch hp ha, ?_⟩,
    fun s w hsee hsearch hp => ?_, fun s hp => ?_, fun s hp ho => ?_, fun s r hr hp hd => ?_, fun s r hr hp => ?_⟩
  · obtain ⟨hclosed, hopen, htime, hregs⟩ := s.lyConfirm_closed_shown
    have hset := (s.lyConfirm true).settling_regsBut
    have hcal : (s.lyConfirm true).settling.cal = { s.cal with closedAt := s.time, settled := false } := by
      rw [State.settling, State.setPhase, State.set_cal, (s.lyConfirm_keeps true).same.cal rfl,
        (s.lyConfirm_keeps true).same.time rfl]
    refine ⟨State.get_set _ CAL_STATUS_PHASE 3, (hset _ (by decide)).trans hclosed, (hset _ (by decide)).trans hopen,
      hcal, (hset _ (by decide)).trans htime, ?_, (hregs.mono (by simp)).trans (hset.mono (by simp))⟩
    exact congrArg State.settling (s.lyConfirm_keeps true).frame
  · have ht := exec_lyFlagOpen_opening s w hsee hsearch hp
    obtain ⟨hframe, -⟩ := everyCommandKeepsWhatIsOutsideItsFrame (.lyFlagOpen w) s _ ht
    obtain ⟨hopen, hclosed, htime, hregs⟩ := s.lyConfirm_open_shown
    obtain ⟨hstuck, hfault, hopened⟩ := (s.lyConfirm false).opened_shown
    have hcal : (s.lyConfirm false).opened.cal = { s.cal with openAt := s.time + 1 } := by
      rw [State.opened, (s.lyConfirm_keeps false).same.cal rfl, (s.lyConfirm_keeps false).same.time rfl]
    exact ⟨_, ht, (hopened _ (by decide)).trans hopen, (hopened _ (by decide)).trans hclosed, hstuck, hfault, hcal,
      (hopened _ (by decide)).trans htime, hframe, (hregs.mono (by simp)).trans (hopened.mono (by simp))⟩
  · have ht := exec_flagCloseTimeout_closing s hp
    obtain ⟨hframe, hregs⟩ := everyCommandKeepsWhatIsOutsideItsFrame .flagCloseTimeout s _ ht
    obtain ⟨hphase, hcal, hcode, hfails, hly, hback⟩ := s.flagFailed_shown
    exact ⟨_, ht, hphase, congrArg Cal.dead hcal, congrArg Cal.releasedAt hcal, hcode, hfails, hly, hback,
      s.flagFailed_raised, hframe, hregs⟩
  · have ht := exec_flagStuck_opening s hp ho
    obtain ⟨hframe, -⟩ := everyCommandKeepsWhatIsOutsideItsFrame .flagStuck s _ ht
    have hstuck : s.stuckTold.faultShow.get CAL_STATUS_STUCK = 1 :=
      (State.faultShow_regsBut _ _ (by decide)).trans s.stuckTold_stuck
    exact ⟨_, ht, hstuck, (State.faultShow_iff _).mpr (State.faultHeld_of_stuck _ hstuck), State.raise_time _ _,
      s.stuckTold_raised, hframe, s.stuckTold_regsButEvt⟩
  · have ht := exec_calAbort_blind s r hr hp hd
    obtain ⟨hframe, hregs⟩ := everyCommandKeepsWhatIsOutsideItsFrame (.calAbort r) s _ ht
    obtain ⟨hcode, haborts, hcomp, hly⟩ := s.calRelease.abortNoted_shown
    have hcal : (s.calRelease.abortNoted.setPhase 5).cal =
        { s.cal with releasedAt := s.time, openAt := 0, dead := true, ready := false } := by
      refine s.calRelease.abortNoted_cal.trans ?_
      rw [s.calRelease_cal]
    rw [s.calRelease_keeps.fields CAL_ABORTS_COUNT (by decide +kernel)] at haborts
    have hget : ∀ f : Fld, f.key ≠ CAL_STATUS_PHASE.key →
        (s.calRelease.abortNoted.setPhase 5).get f = s.calRelease.abortNoted.get f := fun f hf =>
      State.get_set_ne _ _ _ _ hf
    exact ⟨_, ht, State.get_set _ CAL_STATUS_PHASE 5, congrArg Cal.dead hcal, congrArg Cal.releasedAt hcal,
      (hget _ (by decide)).trans hcode, (hget _ (by decide)).trans haborts,
      ((hget _ (by decide)).trans hly).trans s.calRelease_energise, (hget _ (by decide)).trans hcomp, hframe, hregs⟩
  · have ht := exec_calAbort_waiting s r hr hp
    obtain ⟨hframe, hregs⟩ := everyCommandKeepsWhatIsOutsideItsFrame (.calAbort r) s _ ht
    obtain ⟨hcode, haborts, -, -⟩ := s.dropGrant.abortNoted_shown
    rw [s.dropGrant_keeps.fields CAL_ABORTS_COUNT (by decide +kernel)] at haborts
    have hget : ∀ f : Fld, f.noEvt → f.key ≠ CAL_STATUS_PHASE.key →
        (s.dropGrant.abortNoted.calEnded.setPhase 0).get f = s.dropGrant.abortNoted.get f := fun f he hf =>
      (State.get_set_ne _ _ _ _ hf).trans (State.calEnded_get _ he)
    refine ⟨_, ht, State.get_set _ CAL_STATUS_PHASE 0, ?_, ?_, (hget _ (by decide) (by decide)).trans hcode,
      (hget _ (by decide) (by decide)).trans haborts, hframe, hregs⟩
    · exact (congrArg Cal.dead (State.calEnded_cal _)).trans (congrArg Cal.dead s.dropGrant.abortNoted_cal)
    · have hchain : s.dropGrant.abortNoted.calEnded.chain = s.dropGrant.chain :=
        ((State.calEnded_keeps _).same.chain rfl).trans s.dropGrant.abortNoted_chain
      exact (congrArg Chain.asked hchain).trans s.dropGrant_asked

end Sys2Proof
end

section
/-! SUPPORT. Fields of the logic die that a write stages for a boundary (R38). -/

namespace Sys2Proof.Machine

open Reg

/-- A written field is staged as it was written, for the boundary of the write. -/
theorem State.stageFld_pend (s : State) (f : Fld) (v : Word) : (s.stageFld f (fldOf f v)).live.pend =
    s.live.pend ++ [(s.dueOf s.time, f.key, fldOf f v)] := by
  rw [State.stageFld, fldOf_mod]

/-- A written field reads as it was written. -/
theorem State.get_stageFld (s : State) (f : Fld) (v : Word) : (s.stageFld f (fldOf f v)).get f = fldOf f v := by
  rw [State.stageFld, State.get_with_live, State.get_set, fldOf_mod, fldOf_mod]

theorem State.get_stageFld_ne (s : State) (f g : Fld) (v : Nat) (h : g.key ≠ f.key) :
    (s.stageFld f v).get g = s.get g := by
  rw [State.stageFld, State.get_with_live, State.get_set_ne _ _ _ _ h]

theorem State.stageFld_time (s : State) (f : Fld) (v : Nat) : (s.stageFld f v).time = s.time := rfl

theorem State.stageFld_dueOf (s : State) (f : Fld) (v u : Nat) (hf : STG_FRAMECNT_COUNT.key ≠ f.key) :
    (s.stageFld f v).dueOf u = s.dueOf u :=
  State.dueOf_congr (s := s) (t := s.stageFld f v) rfl (State.get_set_ne s f _ _ hf) u

theorem regsBut.stageFld {l : List Fld} {s t : State} {f : Fld} {v : Nat} (h : regsBut l s t) (hf : f ∈ l) :
    regsBut l s (t.stageFld f v) := (h.set (v := v % 2 ^ f.width) hf).of_regs_eq rfl

end Sys2Proof.Machine
end

section
/-! SUPPORT. Writes of the braid's parameters, by their ranges, and of BRD_UNLAY, which is staged (R38, R155, R159). -/

namespace Sys2Proof

open Sys2Proof.Machine Sys2Proof.Machine.Reg

/-- WRERR is set and nothing else. -/
theorem brdWrErr_alone (s : State) : s.brdWrErr.get BRD_STAT_WRERR = 1 ∧
    s.brdWrErr = { s with regs := s.brdWrErr.regs } ∧ regsBut [BRD_STAT_WRERR] s s.brdWrErr :=
  ⟨State.get_set s _ 1, rfl, (regsBut.refl _ s).set List.mem_cons_self⟩

/-! ### The parameters of the computation -/

theorem askTables_get (s : State) (f : Fld) : s.askTables.get f = s.get f := by
  rw [askTables_eq]
  rfl

/-- The computation that a change of other registers than AUTO asks for. -/
theorem askTables_after {l : List Fld} {s t : State} (ht : t = { s with regs := t.regs }) (hl : regsBut l s t)
    (hauto : ∀ g ∈ l, BRD_CTRL_AUTO.key ≠ g.key) :
    t.askTables.braid = { s.braid with busy := s.braid.busy || s.flag BRD_CTRL_AUTO } ∧
      t.askTables = { s with regs := t.askTables.regs, braid := t.askTables.braid } ∧ regsBut l s t.askTables := by
  have hb : t.braid = s.braid := by rw [ht]
  have hf : t.flag BRD_CTRL_AUTO = s.flag BRD_CTRL_AUTO := by rw [State.flag, State.flag, hl _ hauto]
  simp only [askTables_eq, hb, hf, true_and]
  exact ⟨congrArg (fun u : State => { u with
    braid := { s.braid with busy := s.braid.busy || s.flag BRD_CTRL_AUTO } }) ht, hl.of_regs_eq rfl⟩

/-- The computation that a write of one parameter asks for. -/
theorem askTables_set (s : State) (f : Fld) (v : Word) (hf : BRD_CTRL_AUTO.key ≠ f.key) :
    (s.set f (fldOf f v)).askTables.get f = fldOf f v ∧
      (s.set f (fldOf f v)).askTables.braid = { s.braid with busy := s.braid.busy || s.flag BRD_CTRL_AUTO } ∧
      (s.set f (fldOf f v)).askTables = { s with
        regs := (s.set f (fldOf f v)).askTables.regs, braid := (s.set f (fldOf f v)).askTables.braid } ∧
      regsBut [f] s (s.set f (fldOf f v)).askTables :=
  ⟨by rw [askTables_get, State.get_set, fldOf_mod],
    askTables_after rfl ((regsBut.refl _ s).set List.mem_cons_self) (by simpa using hf)⟩

/-- The computation that a write of two parameters asks for. -/
theorem askTables_set_pair (s : State) (f g : Fld) (v : Word) (hf : BRD_CTRL_AUTO.key ≠ f.key)
    (hg : BRD_CTRL_AUTO.key ≠ g.key) (hfg : f.key ≠ g.key) :
    let t := ((s.set f (fldOf f v)).set g (fldOf g v)).askTables
    t.get f = fldOf f v ∧ t.get g = fldOf g v ∧
      t.braid = { s.braid with busy := s.braid.busy || s.flag BRD_CTRL_AUTO } ∧
      t = { s with regs := t.regs, braid := t.braid } ∧ regsBut [f, g] s t :=
  ⟨by rw [askTables_get, State.get_set_ne _ _ _ _ hfg, State.get_set, fldOf_mod],
    by rw [askTables_get, State.get_set, fldOf_mod],
    askTables_after rfl (regsBut_set_pair s f g _ _) (by simpa using ⟨hf, hg⟩)⟩

theorem brdParamW_vnom (s : State) (v : Word) : s.brdParamW 0x6810 v =
    if 500 ≤ fldOf BRD_VNOM_V v ∧ fldOf BRD_VNOM_V v ≤ 8000 then
      (s.set BRD_VNOM_V (fldOf BRD_VNOM_V v)).askTables
    else s.brdWrErr := by
  simp [State.brdParamW]

theorem brdParamW_geom (s : State) (v : Word) : s.brdParamW 0x6818 v =
    if (100 ≤ fldOf BRD_GEOM_PITCH v ∧ fldOf BRD_GEOM_PITCH v ≤ 20000) ∧ fldOf BRD_GEOM_TILT v ≤ 600 then
      ((s.set BRD_GEOM_PITCH (fldOf BRD_GEOM_PITCH v)).set BRD_GEOM_TILT (fldOf BRD_GEOM_TILT v)).askTables
    else s.brdWrErr := by
  simp [State.brdParamW]

theorem brdParamW_grav (s : State) (v : Word) : s.brdParamW 0x681C v =
    if 9760 ≤ fldOf BRD_GRAV_G v ∧ fldOf BRD_GRAV_G v ≤ 9840 then
      (s.set BRD_GRAV_G (fldOf BRD_GRAV_G v)).askTables
    else s.brdWrErr := by
  simp [State.brdParamW]

theorem brdParamW_hypset (s : State) (v : Word) : s.brdParamW 0x6820 v =
    if (1 ≤ fldOf BRD_HYPSET_K v ∧ fldOf BRD_HYPSET_K v ≤ 5) ∧
        4 ≤ fldOf BRD_HYPSET_SPACING v ∧ fldOf BRD_HYPSET_SPACING v ≤ 64 then
      ((s.set BRD_HYPSET_K (fldOf BRD_HYPSET_K v)).set BRD_HYPSET_SPACING (fldOf BRD_HYPSET_SPACING v)).askTables
    else s.brdWrErr := by
  simp [State.brdParamW]

/-! ### BRD_UNLAY -/

theorem brdUnlayW_taken (s : State) (v : Word) (h : fldOf BRD_UNLAY_BETA v ≤ 16) : s.brdUnlayW v =
    ((s.stageFld BRD_UNLAY_BETA (fldOf BRD_UNLAY_BETA v)).stageFld BRD_UNLAY_BYPASS
      (fldOf BRD_UNLAY_BYPASS v)).set BRD_UNLAY_PEND 1 :=
  if_neg (by omega)

theorem brdUnlayW_refused (s : State) (v : Word) (h : 16 < fldOf BRD_UNLAY_BETA v) : s.brdUnlayW v = s.brdWrErr :=
  if_pos h

/-- Both fields of BRD_UNLAY wait for the boundary of the write. -/
theorem brdUnlayW_pend (s : State) (v : Word) (h : fldOf BRD_UNLAY_BETA v ≤ 16) : (s.brdUnlayW v).live.pend =
    s.live.pend ++ [(s.dueOf s.time, BRD_UNLAY_BETA.key, fldOf BRD_UNLAY_BETA v),
      (s.dueOf s.time, BRD_UNLAY_BYPASS.key, fldOf BRD_UNLAY_BYPASS v)] := by
  rw [brdUnlayW_taken s v h, State.set_live, State.stageFld_pend, State.stageFld_pend, State.stageFld_time,
    State.stageFld_dueOf s _ _ _ (by decide), List.append_assoc, List.singleton_append]

/-- Settles O27, write by write. -/
theorem braidParameterWritesAskForNewTables : Obligations.BraidParameterWritesAskForNewTables := by
  refine ⟨fun s r v hp hlo hhi => State.guardW_answers hp ?_, fun s r v hp hbad => State.guardW_answers hp ?_,
    fun s r v hp hplo hphi _ hthi => State.guardW_answers hp ?_, fun s r v hp hbad => State.guardW_answers hp ?_,
    fun s r v hp hlo hhi => State.guardW_answers hp ?_, fun s r v hp hbad => State.guardW_answers hp ?_,
    fun s r v hp hklo hkhi hslo hshi => State.guardW_answers hp ?_,
    fun s r v hp hbad => State.guardW_answers hp ?_,
    fun s r v hp hb => State.guardW_answers hp ?_, fun s r v hp hb => State.guardW_answers hp ?_⟩
  · simp only [brdParamW_vnom, if_pos (And.intro hlo hhi)]
    exact askTables_set s BRD_VNOM_V v (by decide)
  · simp only [brdParamW_vnom]
    rw [if_neg (by omega)]
    exact brdWrErr_alone s
  · simp only [brdParamW_geom, if_pos (And.intro (And.intro hplo hphi) hthi)]
    exact askTables_set_pair s BRD_GEOM_PITCH BRD_GEOM_TILT v (by decide) (by decide) (by decide)
  · simp only [brdParamW_geom]
    rw [if_neg (by omega)]
    exact brdWrErr_alone s
  · simp only [brdParamW_grav, if_pos (And.intro hlo hhi)]
    exact askTables_set s BRD_GRAV_G v (by decide)
  · simp only [brdParamW_grav]
    rw [if_neg (by omega)]
    exact brdWrErr_alone s
  · simp only [brdParamW_hypset, if_pos (And.intro (And.intro hklo hkhi) (And.intro hslo hshi))]
    exact askTables_set_pair s BRD_HYPSET_K BRD_HYPSET_SPACING v (by decide) (by decide) (by decide)
  · simp only [brdParamW_hypset]
    rw [if_neg (by omega)]
    exact brdWrErr_alone s
  · refine ⟨brdUnlayW_pend s v hb, ?_⟩
    simp only [brdUnlayW_taken s v hb]
    refine ⟨?_, ?_, State.get_set _ _ 1, rfl, ?_⟩
    · rw [State.get_set_ne _ _ _ _ (by decide), State.get_stageFld_ne _ _ _ _ (by decide), State.get_stageFld]
    · rw [State.get_set_ne _ _ _ _ (by decide), State.get_stageFld]
    · exact (((regsBut.refl _ s).stageFld (by simp)).stageFld (by simp)).set (by simp)
  · simp only [brdUnlayW_refused s v hb]
    exact brdWrErr_alone s

end Sys2Proof
end

section
/-! SUPPORT. Table sets: the set that a computation gives, the switch that is asked for and what a boundary's truncation
rests on (R159, R170 to R172). -/

namespace Sys2Proof.Machine

open Reg

/-! ### The boundary of a request -/

theorem State.dueOf_set (s : State) (f : Fld) (v u : Nat) (hf : STG_FRAMECNT_COUNT.key ≠ f.key) :
    (s.set f v).dueOf u = s.dueOf u :=
  State.dueOf_congr (s := s) (t := s.set f v) rfl (State.get_set_ne s f _ _ hf) u

/-- Of the registers, the frame count and the phase of the calibration decide whether a truncation is due. -/
theorem State.truncDue_set (s : State) (f : Fld) (v : Nat) (hcnt : STG_FRAMECNT_COUNT.key ≠ f.key)
    (hphase : CAL_STATUS_PHASE.key ≠ f.key) : (s.set f v).truncDue = s.truncDue := by
  have hframe : (s.set f v).frameCnt = s.frameCnt := State.get_set_ne _ _ _ _ hcnt
  have hdue : ∀ x, (s.set f v).dueOfStaged x = s.dueOfStaged x := fun x => by
    simp only [State.dueOfStaged, s.dueOf_set f v _ hcnt, State.set_sensor]
  have hrate : ∀ d t, (s.set f v).rateAt d t = s.rateAt d t := fun d t => by
    simp only [State.rateAt, hdue]
    rfl
  have hblind : ∀ t, (s.set f v).blindAt t = s.blindAt t := fun t => by
    rw [State.blindAt, State.get_set_ne _ _ _ _ hphase]
    rfl
  simp only [State.truncDue, hframe, hrate, hblind, State.set_time, s.dueOf_set f v _ hcnt]
  rfl

/-- The frame count alone of the registers decides which slices have started. -/
theorem State.shadowBusy_set (s : State) (f : Fld) (v : Nat) (hcnt : STG_FRAMECNT_COUNT.key ≠ f.key) :
    (s.set f v).shadowBusy = s.shadowBusy := by
  have hframe : (s.set f v).frameCnt = s.frameCnt := State.get_set_ne _ _ _ _ hcnt
  simp only [State.shadowBusy, State.started, hframe, State.set_braid]

/-- The switch is asked for: its boundary, its K and SWPEND. -/
theorem State.askSwitch_shown (s : State) (k : Nat) :
    (s.askSwitch k).braid = { s.braid with swDue := some (s.dueOf s.time), swK := k } ∧
      (s.askSwitch k).get BRD_TSTAT_SWPEND = 1 ∧
      s.askSwitch k = { s with regs := (s.askSwitch k).regs, braid := (s.askSwitch k).braid } ∧
      regsBut [BRD_TSTAT_SWPEND] s (s.askSwitch k) :=
  ⟨rfl, State.get_set _ _ 1, rfl, fun _ hf => State.get_set_ne _ _ _ _ (hf _ List.mem_cons_self)⟩

/-! ### The end of a computation -/

/-- The first set tried is the one of the inputs' K. -/
theorem State.autoSet_fits (s : State) (inp : List Nat) (trunc : Bool)
    (h : s.fits (computedSet inp (inp.getD 2 0)) trunc = true) :
    s.autoSet inp trunc = (s, some (computedSet inp (inp.getD 2 0))) := by
  have hfit : s.fitSet inp trunc 5 (inp.getD 2 0) = some (computedSet inp (inp.getD 2 0)) := if_pos h
  simp only [State.autoSet, hfit]
  exact if_pos rfl

theorem State.loadPump_none (s : State) (h : s.braid.waitSet = none) : s.loadPump = s := by
  rw [State.loadPump, h]

/-- A set for another rate than the one in force stays ready. -/
theorem State.autoPump_otherRate (s : State) {inp : List Nat} (hw : s.braid.waitSet = none)
    (hr : s.braid.ready = some inp) (hne : inp.getD 0 0 ≠ s.sensor.rate) : s.autoPump = s := by
  have hno : ¬(s.flag BRD_CTRL_AUTO && !s.braid.busy && !s.braid.late && !s.shadowBusy && s.braid.swDue.isNone
      && inp.getD 0 0 == s.sensor.rate) = true := by
    rw [beq_eq_false_iff_ne.mpr hne, Bool.and_false]
    exact Bool.false_ne_true
  rw [State.autoPump, s.loadPump_none hw]
  simp only [hr]
  exact if_neg hno

/-- The set `t` stands in the shadow buffer, in place of one that was ready. -/
def State.shadowPut (s : State) (t : TSet) : State :=
  { s.shadowFresh with braid := { s.braid with ready := none, shadow := { t with gen := s.braid.shadow.gen } } }

/-- A set for the rate in force that fits goes to the free shadow buffer, and its switch is asked for. -/
theorem State.autoPump_fits (s : State) {inp : List Nat} (hw : s.braid.waitSet = none) (hr : s.braid.ready = some inp)
    (ha : s.get BRD_CTRL_AUTO = 1) (hb : s.braid.busy = false) (hl : s.braid.late = false)
    (hs : s.shadowBusy = false) (hd : s.braid.swDue = none) (hrate : inp.getD 0 0 = s.sensor.rate)
    (hfit : s.fits (computedSet inp (inp.getD 2 0)) s.truncDue = true) :
    s.autoPump = (s.shadowPut (computedSet inp (inp.getD 2 0))).askSwitch (inp.getD 2 0) := by
  have hgo : (s.flag BRD_CTRL_AUTO && !s.braid.busy && !s.braid.late && !s.shadowBusy && s.braid.swDue.isNone
      && inp.getD 0 0 == s.sensor.rate) = true := by
    rw [(s.flag_iff _).mpr ha, hb, hl, hs, hd, beq_iff_eq.mpr hrate]
    rfl
  have hset := State.autoSet_fits { s with braid := { s.braid with ready := none } } inp s.truncDue hfit
  have htrunc : State.truncDue { s with braid := { s.braid with ready := none } } = s.truncDue := rfl
  rw [State.autoPump, s.loadPump_none hw]
  simp only [hr, htrunc, hset]
  exact if_pos hgo

theorem State.tablesDone_busy (s : State) (hb : s.braid.busy = true) : s.tablesDone =
    { s with braid := { s.braid with busy := false, ready := some (s.tableInputs (s.get STG_FRATE_RATE)) } }.autoPump :=
  if_pos hb

/-! ### Switches -/

/-- A switch of the set in the shadow buffer, once BRD_TCMD has its K. -/
theorem State.brdSwitchW_asked (s : State) (v : Word) (hv : fldOf BRD_TCMD_SWITCH v = 1)
    (ha : s.get BRD_CTRL_AUTO ≠ 1) (hs : s.shadowBusy = false) : s.brdSwitchW v =
      if TSet.ordered { s.braid.shadow with k := fldOf BRD_TCMD_NEWK v } = false then
        (s.set BRD_TCMD_NEWK (fldOf BRD_TCMD_NEWK v)).brdCfgErr BRD_STAT_ORDERR
      else if s.fits { s.braid.shadow with k := fldOf BRD_TCMD_NEWK v } s.truncDue = false then
        (s.set BRD_TCMD_NEWK (fldOf BRD_TCMD_NEWK v)).brdCfgErr BRD_STAT_DEPTHERR
      else (s.set BRD_TCMD_NEWK (fldOf BRD_TCMD_NEWK v)).askSwitch (fldOf BRD_TCMD_NEWK v) := by
  have hauto : ((s.set BRD_TCMD_NEWK (fldOf BRD_TCMD_NEWK v)).flag BRD_CTRL_AUTO ||
      (s.set BRD_TCMD_NEWK (fldOf BRD_TCMD_NEWK v)).shadowBusy) = false := by
    rw [Bool.or_eq_false_iff]
    refine ⟨?_, ?_⟩
    · rw [State.flag, State.get_set_ne _ _ _ _ (by decide)]
      exact beq_eq_false_iff_ne.mpr ha
    · rw [s.shadowBusy_set _ _ (by decide)]
      exact hs
  have hk : (s.set BRD_TCMD_NEWK (fldOf BRD_TCMD_NEWK v)).get BRD_TCMD_NEWK = fldOf BRD_TCMD_NEWK v :=
    (State.get_set ..).trans (fldOf_mod _ v)
  rw [State.brdSwitchW, if_neg (by omega), hauto, hk, s.truncDue_set _ _ (by decide) (by decide)]
  rfl

end Sys2Proof.Machine
end

section
/-! SUPPORT. Speed tracking: the counts of winning hypotheses move the nominal speed (R177). -/

namespace Sys2Proof.Machine

open Reg

/-! ### A firmware record -/

/-- A status bit that stands stays: a record sets no bit but that of LOG_LOST. -/
theorem State.record_status_mono (s : State) (code x y z n : Nat) (h : s.srcStatus n = true) :
    (s.record code x y z).srcStatus n = true := by
  have hpush : (s.pushLog code true false 0 s.time x y z).1.srcStatus n = true := by
    rw [State.srcStatus, State.pushLog_stat]
    exact h
  simp only [State.record]
  split
  · exact State.occurCore_status_mono _ _ _ _ _ hpush
  · exact hpush

theorem State.record_regsButEvt (s : State) (code x y z : Nat) (l : List Fld) :
    regsButEvt l s (s.record code x y z) :=
  fun f he _ => s.record_get code x y z f he

/-! ### The counts -/

/-- The counts of all hypotheses are cleared. -/
def State.countsCleared (s : State) : State := (List.range 5).foldl (fun s k => s.set (BRD_HYPCNT_COUNT k) 0) s

/-- The counts of the winning hypotheses. -/
def countFlds : List Fld :=
  [BRD_HYPCNT_COUNT 0, BRD_HYPCNT_COUNT 1, BRD_HYPCNT_COUNT 2, BRD_HYPCNT_COUNT 3, BRD_HYPCNT_COUNT 4]

theorem State.countsCleared_regsBut (s : State) : regsBut countFlds s s.countsCleared :=
  (((((regsBut.refl _ s).set (by simp [countFlds])).set (by simp [countFlds])).set (by simp [countFlds])).set
    (by simp [countFlds])).set (by simp [countFlds])

theorem State.countsCleared_count (s : State) {k : Nat} (hk : k < 5) :
    s.countsCleared.get (BRD_HYPCNT_COUNT k) = 0 := by
  have hset : s.countsCleared = ((((s.set (BRD_HYPCNT_COUNT 0) 0).set (BRD_HYPCNT_COUNT 1) 0).set
      (BRD_HYPCNT_COUNT 2) 0).set (BRD_HYPCNT_COUNT 3) 0).set (BRD_HYPCNT_COUNT 4) 0 := rfl
  rw [hset]
  interval_cases k <;> simp (disch := decide) only [State.get_set, State.get_set_ne, Nat.zero_mod]

/-- The slices counted, over the active set's hypotheses. -/
def State.winTotal (s : State) : Nat :=
  sumN ((List.range s.braid.active.k).map fun k => s.get (BRD_HYPCNT_COUNT k))

/-- The sum of the winning hypotheses, each as twice its distance from the middle of the active set. -/
def State.winMoment (s : State) : Int :=
  sumI ((List.range s.braid.active.k).map fun (k : Nat) => (2 * (k : Int) - ((s.braid.active.k : Int) - 1)) *
    (s.get (BRD_HYPCNT_COUNT k) : Int))

/-! ### The nominal speed -/

/-- The nominal speed moved by the mean of the winning hypotheses, within its limits. -/
def State.speedTracked (s : State) : Int :=
  clampI (s.get BRD_VLIM_VMIN) (s.get BRD_VLIM_VMAX) (roundDiv ((s.get BRD_VNOM_V : Int) *
    (1600 * s.winTotal + s.winMoment * s.get BRD_HYPSET_SPACING)) (1600 * s.winTotal))

/-- The speed is moved, the counts are cleared, a computation starts and TRACKED is set. -/
def State.vnomMoved (s : State) : State :=
  (s.countsCleared.set BRD_VNOM_V s.speedTracked.toNat).askTables.set BRD_STAT_TRACKED 1

/-- The move with its event and its record. -/
def State.moveTold (s : State) : State :=
  (s.vnomMoved.raise Src.brdTracked).record 0x804 (s.get BRD_VNOM_V) s.speedTracked.toNat 0

/-- What a move writes of the registers, but for its event. -/
def moveFlds : List Fld := BRD_VNOM_V :: BRD_STAT_TRACKED :: countFlds

theorem State.trackEval_moves (s : State) (ht : s.get BRD_CTRL_TRACK = 1) (ha : s.get BRD_CTRL_AUTO = 1)
    (hk : 2 ≤ s.braid.active.k) (hmin : s.get BRD_TRACK_MINCNT ≤ s.winTotal) (hn : 0 < s.winTotal)
    (hthr : s.get BRD_TRACK_THRESH * 2 * s.winTotal < s.winMoment.natAbs * 16) : s.trackEval = s.moveTold := by
  have hon : (s.flag BRD_CTRL_TRACK && s.flag BRD_CTRL_AUTO && decide (2 ≤ s.braid.active.k)) = true := by
    rw [(s.flag_iff _).mpr ht, (s.flag_iff _).mpr ha, decide_eq_true hk]
    rfl
  exact (if_pos hon).trans (if_pos ⟨hmin, hn, hthr⟩)

theorem State.vnomMoved_eq (s : State) : s.vnomMoved = ({ s.countsCleared.set BRD_VNOM_V s.speedTracked.toNat with
    braid := { s.braid with busy := s.braid.busy || s.flag BRD_CTRL_AUTO } }).set BRD_STAT_TRACKED 1 := by
  have hauto : (s.countsCleared.set BRD_VNOM_V s.speedTracked.toNat).flag BRD_CTRL_AUTO = s.flag BRD_CTRL_AUTO := by
    rw [State.flag, State.get_set_ne _ _ _ _ (by decide), s.countsCleared_regsBut _ (by decide)]
    rfl
  rw [State.vnomMoved, askTables_eq, hauto]
  rfl

theorem State.vnomMoved_braid (s : State) (ha : s.get BRD_CTRL_AUTO = 1) :
    s.vnomMoved.braid = { s.braid with busy := true } := by
  rw [s.vnomMoved_eq, State.set_braid, (s.flag_iff _).mpr ha, Bool.or_true]

theorem State.vnomMoved_regsBut (s : State) : regsBut moveFlds s s.vnomMoved := by
  have hspeed : regsBut moveFlds s (s.countsCleared.set BRD_VNOM_V s.speedTracked.toNat) :=
    (s.countsCleared_regsBut.mono fun _ h => List.mem_cons_of_mem _ (List.mem_cons_of_mem _ h)).set (by simp)
  rw [s.vnomMoved_eq]
  exact (hspeed.of_regs_eq rfl).set (by simp [moveFlds])

theorem State.vnomMoved_shown (s : State) :
    s.vnomMoved.get BRD_VNOM_V = s.speedTracked.toNat % 2 ^ 16 ∧
      (∀ k : Nat, k < 5 → s.vnomMoved.get (BRD_HYPCNT_COUNT k) = 0) ∧ s.vnomMoved.get BRD_STAT_TRACKED = 1 := by
  rw [s.vnomMoved_eq]
  refine ⟨?_, fun k hk => ?_, State.get_set _ _ 1⟩
  · rw [State.get_set_ne _ _ _ _ (by decide), State.get_with_braid]
    exact State.get_set _ _ _
  · have hne : ∀ f : Fld, f.addr < 0x68A0 → f.lo < 32 → (BRD_HYPCNT_COUNT k).key ≠ f.key := fun f ha hl => by
      simp only [Fld.key, BRD_HYPCNT_COUNT]
      omega
    rw [State.get_set_ne _ _ _ _ (hne _ (by decide) (by decide)), State.get_with_braid,
      State.get_set_ne _ _ _ _ (hne _ (by decide) (by decide)), s.countsCleared_count hk]

/-- A move leaves what its event and its record leave. -/
theorem State.moveTold_get (s : State) {f : Fld} (h : f.noEvt) : s.moveTold.get f = s.vnomMoved.get f :=
  (State.record_get _ _ _ _ _ f h).trans (State.raise_get _ _ f h)

theorem State.moveTold_raised (s : State) : raisedIn Src.brdTracked s s.moveTold := by
  have hen : s.vnomMoved.get (enFld (Src.brdTracked / 32)) = s.get (enFld (Src.brdTracked / 32)) :=
    s.vnomMoved_regsBut _ (by decide)
  have hfuses : s.vnomMoved.fuses = s.fuses := by rw [s.vnomMoved_eq]; rfl
  have hraised := (State.raise_status s.vnomMoved Src.brdTracked).of_enables (s := s) hfuses hen
  exact fun he hn => State.record_status_mono _ _ _ _ _ _ (hraised he hn)

theorem State.moveTold_regsButEvt (s : State) : regsButEvt moveFlds s s.moveTold :=
  (s.vnomMoved_regsBut.toEvt.trans (State.raise_regsButEvt _ _ _)).trans (State.record_regsButEvt _ _ _ _ _ _)

end Sys2Proof.Machine
end

section
/-! SUPPORT. The braid's table sets, command by command. -/

namespace Sys2Proof

open Sys2Proof.Machine Sys2Proof.Machine.Reg

/-- A computation has ended and its set, for the inputs as the registers hold them, is ready. -/
def setReady (s : State) : State :=
  { s with braid := { s.braid with busy := false, ready := some (s.tableInputs (s.get STG_FRATE_RATE)) } }

theorem exec_brdTableComputeDone_fits (s : State) (hb : s.braid.busy = true) (ha : s.get BRD_CTRL_AUTO = 1)
    (hl : s.braid.late = false) (hs : s.shadowBusy = false) (hd : s.braid.swDue = none) (hw : s.braid.waitSet = none)
    (hrate : s.get STG_FRATE_RATE = s.sensor.rate)
    (hfit : s.fits (computedSet (s.tableInputs s.sensor.rate) (s.get BRD_HYPSET_K)) s.truncDue = true) :
    exec .brdTableComputeDone s = .next (((setReady s).shadowPut
      (computedSet (s.tableInputs s.sensor.rate) (s.get BRD_HYPSET_K))).askSwitch (s.get BRD_HYPSET_K)) := by
  rw [← hrate] at hfit ⊢
  exact congrArg ok ((s.tablesDone_busy hb).trans
    ((setReady s).autoPump_fits hw rfl ha rfl hl hs hd hrate hfit))

theorem exec_brdTableComputeDone_otherRate (s : State) (hb : s.braid.busy = true) (hw : s.braid.waitSet = none)
    (hrate : s.get STG_FRATE_RATE ≠ s.sensor.rate) : exec .brdTableComputeDone s = .next (setReady s) :=
  congrArg ok ((s.tablesDone_busy hb).trans ((setReady s).autoPump_otherRate hw rfl hrate))

/-- BRD_CFG follows the error bit of a refused switch, and NEWK keeps what was written. -/
theorem newkRefused_raised (s : State) (v : Word) (f : Fld) (hf : (enFld (Src.brdCfg / 32)).key ≠ f.key) :
    raisedIn Src.brdCfg s ((s.set BRD_TCMD_NEWK (fldOf BRD_TCMD_NEWK v)).brdCfgErr f) := by
  have hen : ((s.set BRD_TCMD_NEWK (fldOf BRD_TCMD_NEWK v)).set f 1).get (enFld (Src.brdCfg / 32)) =
      s.get (enFld (Src.brdCfg / 32)) := by
    rw [State.get_set_ne _ _ _ _ hf, State.get_set_ne _ _ _ _ (by decide)]
  exact (State.raise_status _ Src.brdCfg).of_enables rfl hen

/-- Settles O28, command by command. -/
theorem tableSetsAreComputedCheckedSwitchedAndTracked : Obligations.TableSetsAreComputedCheckedSwitchedAndTracked := by
  refine ⟨fun s hb ha hl hs hd hw hrate _ hfit =>
      ⟨_, exec_brdTableComputeDone_fits s hb ha hl hs hd hw hrate hfit, ?_⟩,
    fun s hb hw hrate => ⟨_, exec_brdTableComputeDone_otherRate s hb hw hrate, rfl⟩,
    fun s r v hp hv ha hs hord hfit => State.guardW_answers hp ?_,
    fun s r v hp hv ha hs hord => State.guardW_answers hp ?_,
    fun s r hp => State.guardW_answers hp rfl, fun s n m ht ha hk _ hn hm hmin hpos hthr => ?_⟩
  · obtain ⟨-, hpend, -, hregs⟩ := ((setReady s).shadowPut
      (computedSet (s.tableInputs s.sensor.rate) (s.get BRD_HYPSET_K))).askSwitch_shown (s.get BRD_HYPSET_K)
    exact ⟨rfl, hpend, rfl, hregs⟩
  · have hw : s.brdSwitchW v = (s.set BRD_TCMD_NEWK (fldOf BRD_TCMD_NEWK v)).askSwitch (fldOf BRD_TCMD_NEWK v) := by
      rw [s.brdSwitchW_asked v hv ha hs, hord, hfit]
      rfl
    obtain ⟨hbraid, hpend, hframe, hregs⟩ :=
      (s.set BRD_TCMD_NEWK (fldOf BRD_TCMD_NEWK v)).askSwitch_shown (fldOf BRD_TCMD_NEWK v)
    simp only [hw]
    refine ⟨?_, hpend, ?_, rfl, ?_⟩
    · rw [hbraid, State.dueOf_set _ _ _ _ (by decide)]
      rfl
    · rw [hregs _ (by decide), State.get_set, fldOf_mod]
    · exact ((regsBut.refl _ s).set (by simp)).trans (hregs.mono (by simp))
  · have hw : s.brdSwitchW v = (s.set BRD_TCMD_NEWK (fldOf BRD_TCMD_NEWK v)).brdCfgErr BRD_STAT_ORDERR := by
      rw [s.brdSwitchW_asked v hv ha hs, hord]
      rfl
    simp only [hw]
    refine ⟨?_, newkRefused_raised s v _ (by decide), ?_, ?_⟩
    · exact (State.raise_get _ _ _ (by decide)).trans (State.get_set _ _ 1)
    · exact ((s.set BRD_TCMD_NEWK (fldOf BRD_TCMD_NEWK v)).set BRD_STAT_ORDERR 1 |>.raise_keeps Src.brdCfg).frame
    · exact (regsBut_set_pair s BRD_TCMD_NEWK BRD_STAT_ORDERR (fldOf BRD_TCMD_NEWK v) 1 |>.mono (by simp)).toEvt.trans
        (State.raise_regsButEvt _ _ _)
  · subst hn hm
    have hmove : exec .brdTrackEval s = .next s.moveTold :=
      congrArg ok (s.trackEval_moves ht ha hk hmin hpos hthr)
    obtain ⟨hframe, -⟩ := everyCommandKeepsWhatIsOutsideItsFrame .brdTrackEval s _ hmove
    obtain ⟨hspeed, hcounts, htracked⟩ := s.vnomMoved_shown
    refine ⟨_, hmove, (s.moveTold_get (by decide)).trans hspeed, fun k hk5 => ?_,
      (s.moveTold_get (by decide)).trans htracked, ?_, s.moveTold_raised, hframe, s.moveTold_regsButEvt⟩
    · refine (s.moveTold_get ?_).trans (hcounts k hk5)
      simp only [Fld.noEvt, Fld.key, BRD_HYPCNT_COUNT, MEM_TESTABORTS_COUNT]
      omega
    · rw [State.moveTold, State.record_braid, State.raise_braid, s.vnomMoved_braid ha]

end Sys2Proof
end

section
/-! SUPPORT. Several fields of the logic die that one write stages for its boundary (R38). -/

namespace Sys2Proof.Machine

open Reg

/-- The listed fields are staged one after the other, each with its value of `val`. -/
def State.stageEach (val : Fld → Nat) (fs : List Fld) (s : State) : State :=
  fs.foldl (fun s f => s.stageFld f (val f)) s

/-- From `s` to `t` the listed fields take their values of `val`: they show at once, they wait for the boundary of a
write made in `s`, and nothing else changes. -/
structure StagedAs (val : Fld → Nat) (fs : List Fld) (s t : State) : Prop where
  pend : t.live.pend = s.live.pend ++ fs.map fun f => (s.dueOf s.time, f.key, val f)
  shown : ∀ f ∈ fs, t.get f = val f
  frame : t = { s with regs := t.regs, live := { s.live with pend := t.live.pend } }
  regs : regsBut fs s t

theorem StagedAs.nil (val : Fld → Nat) (s : State) : StagedAs val [] s s where
  pend := (List.append_nil _).symm
  shown := fun _ h => absurd h List.not_mem_nil
  frame := rfl
  regs := regsBut.refl _ s

theorem State.stageFld_of_lt (s : State) {f : Fld} {v : Nat} (h : v < 2 ^ f.width) :
    s.stageFld f v = { s.set f v with live := { s.live with pend := s.live.pend ++ [(s.dueOf s.time, f.key, v)] } } := by
  rw [State.stageFld, Nat.mod_eq_of_lt h]

/-- A field is staged before others that the register layout keeps apart from it. -/
theorem StagedAs.cons {val : Fld → Nat} {f : Fld} {fs : List Fld} {s t : State}
    (h : StagedAs val fs (s.stageFld f (val f)) t) (hfit : val f < 2 ^ f.width)
    (hcnt : STG_FRAMECNT_COUNT.key ≠ f.key) (hne : ∀ g ∈ fs, f.key ≠ g.key) : StagedAs val (f :: fs) s t where
  pend := by
    rw [h.pend, State.stageFld_time, s.stageFld_dueOf f _ _ hcnt, s.stageFld_of_lt hfit]
    exact List.append_assoc _ [_] _
  shown := by
    refine List.forall_mem_cons.mpr ⟨?_, h.shown⟩
    rw [h.regs f hne, s.stageFld_of_lt hfit, State.get_with_live, State.get_set, Nat.mod_eq_of_lt hfit]
  frame := h.frame
  regs := fun g hg => (h.regs g fun x hx => hg x (.tail _ hx)).trans (s.get_stageFld_ne f g _ (hg f (.head _)))

/-- Fields with keys of their own, none of them the frame count, are staged as they fit. -/
theorem State.stageEach_staged {val : Fld → Nat} {fs : List Fld} (s : State) (hfit : ∀ f ∈ fs, val f < 2 ^ f.width)
    (hcnt : ∀ f ∈ fs, STG_FRAMECNT_COUNT.key ≠ f.key) (hkeys : fs.Pairwise (·.key ≠ ·.key)) :
    StagedAs val fs s (s.stageEach val fs) := by
  induction fs generalizing s with
  | nil => exact .nil val s
  | cons f fs ih =>
    obtain ⟨hf, hfits⟩ := List.forall_mem_cons.mp hfit
    obtain ⟨hc, hcnts⟩ := List.forall_mem_cons.mp hcnt
    obtain ⟨hk, hkeys⟩ := List.pairwise_cons.mp hkeys
    exact (ih _ hfits hcnts hkeys).cons hf hc hk

theorem fldOf_lt (f : Fld) (v : Word) : fldOf f v < 2 ^ f.width := Nat.mod_lt _ (Nat.two_pow_pos _)

/-- The fields of a written word. -/
theorem State.stageEach_word (s : State) (v : Word) {fs : List Fld} (hcnt : ∀ f ∈ fs, STG_FRAMECNT_COUNT.key ≠ f.key)
    (hkeys : fs.Pairwise (·.key ≠ ·.key)) : StagedAs (fldOf · v) fs s (s.stageEach (fldOf · v) fs) :=
  s.stageEach_staged (fun f _ => fldOf_lt f v) hcnt hkeys

/-- What shows of one staged field. -/
theorem StagedAs.one {val : Fld → Nat} {f : Fld} {s t : State} (h : StagedAs val [f] s t) :
    t.live.pend = s.live.pend ++ [(s.dueOf s.time, f.key, val f)] ∧ t.get f = val f ∧
      t = { s with regs := t.regs, live := { s.live with pend := t.live.pend } } ∧ regsBut [f] s t :=
  ⟨h.pend, h.shown f (.head _), h.frame, h.regs⟩

/-- What shows of two staged fields. -/
theorem StagedAs.two {val : Fld → Nat} {f g : Fld} {s t : State} (h : StagedAs val [f, g] s t) :
    t.live.pend = s.live.pend ++ [(s.dueOf s.time, f.key, val f), (s.dueOf s.time, g.key, val g)] ∧
      t.get f = val f ∧ t.get g = val g ∧
      t = { s with regs := t.regs, live := { s.live with pend := t.live.pend } } ∧ regsBut [f, g] s t :=
  ⟨h.pend, h.shown f (.head _), h.shown g (.tail _ (.head _)), h.frame, h.regs⟩

/-! ### Writes that are checked before they are staged -/

/-- An error bit is set and nothing else. -/
def errAlone (f : Fld) (s t : State) : Prop := t.get f = 1 ∧ t = { s with regs := t.regs } ∧ regsBut [f] s t

theorem State.set_errAlone (s : State) {f : Fld} (hf : f.width = 1) : errAlone f s (s.set f 1) :=
  ⟨by rw [State.get_set, hf]; rfl, rfl, (regsBut.refl _ s).set List.mem_cons_self⟩

/-- A written word that is out of range sets an error bit, another one is staged. -/
def State.stageUnless (bad : Prop) [Decidable bad] (err : Fld) (v : Word) (fs : List Fld) (s : State) : State :=
  if bad then s.set err 1 else s.stageEach (fldOf · v) fs

section
variable {bad : Prop} [Decidable bad] {err : Fld} (s : State) (v : Word) {fs : List Fld}

theorem State.stageUnless_taken (h : ¬bad) (hcnt : ∀ f ∈ fs, STG_FRAMECNT_COUNT.key ≠ f.key)
    (hkeys : fs.Pairwise (·.key ≠ ·.key)) : StagedAs (fldOf · v) fs s (s.stageUnless bad err v fs) := by
  rw [State.stageUnless, if_neg h]
  exact s.stageEach_word v hcnt hkeys

theorem State.stageUnless_refused (h : bad) (hw : err.width = 1) : errAlone err s (s.stageUnless bad err v fs) := by
  rw [State.stageUnless, if_pos h]
  exact s.set_errAlone hw

end

end Sys2Proof.Machine
end

section
/-! SUPPORT. The flush of the channels' queues: what each queue keeps, and what the flush leaves (R229). -/

namespace Sys2Proof.Machine

open Reg

/-- A change of one queue leaves the time and, of the scheduler, everything but the queues. -/
theorem State.setQueue_shown (s : State) (c : Nat) (q : List Entry) : (s.setQueue c q).time = s.time ∧
    (s.setQueue c q).sched = { s.sched with queues := mset [] s.sched.queues c q } := by
  unfold State.setQueue
  extract_lets
  split <;> exact ⟨rfl, rfl⟩

theorem State.queueOf_setQueue (s : State) (c j : Nat) (q : List Entry) :
    (s.setQueue c q).queueOf j = if j = c then q else s.queueOf j := by
  rw [State.queueOf, (s.setQueue_shown c q).2]
  exact mget_mset _ _ _ _ _

/-- The entries of a channel's queue that execute, the ones whose open has passed (R224, R226; log entry 39). -/
def State.running (s : State) (c : Nat) : List Entry := (s.queueOf c).filter fun e => s.executing e

/-- The queues of the listed channels are flushed. -/
def State.flushEach (l : List Nat) (s : State) : State := l.foldl (fun s c => s.setQueue c (s.running c)) s

theorem State.flushQueues_eq (s : State) : s.flushQueues = s.flushEach (List.range s.nChans) := rfl

/-- One flush more leaves the executing entries of each queue the same: the time stands, and what executes stays. -/
theorem State.running_flush (s : State) (c j : Nat) : (s.setQueue c (s.running c)).running j = s.running j := by
  have hexec : (s.setQueue c (s.running c)).executing = s.executing :=
    funext fun e => by rw [State.executing, (s.setQueue_shown c _).1, State.executing]
  rw [State.running, hexec, s.queueOf_setQueue]
  split
  next h => rw [h, State.running, List.filter_filter]; simp only [Bool.and_self]
  next => rfl

/-- A listed channel keeps the entries that execute, another its whole queue. -/
theorem State.flushEach_queueOf (l : List Nat) (s : State) (j : Nat) :
    (s.flushEach l).queueOf j = if j ∈ l then s.running j else s.queueOf j := by
  induction l generalizing s with
  | nil => rfl
  | cons c l ih =>
    refine (ih _).trans ?_
    rw [s.running_flush, s.queueOf_setQueue]
    by_cases hl : j ∈ l
    · rw [if_pos hl, if_pos (.tail _ hl)]
    · by_cases hc : j = c <;> simp [hl, hc]

theorem State.flushEach_sched (l : List Nat) (s : State) :
    (s.flushEach l).sched = { s.sched with queues := (s.flushEach l).sched.queues } := by
  induction l generalizing s with
  | nil => rfl
  | cons c l ih =>
    refine (ih _).trans ?_
    rw [(s.setQueue_shown c _).2]
    rfl

end Sys2Proof.Machine
end

section
/-! SUPPORT. KNT_THR, the switches of the classifier's and the map's bank, QFLUSH and the staged EJS registers, write by
write (R184, R204, R220, R229, R232). -/

namespace Sys2Proof

open Sys2Proof.Machine Sys2Proof.Machine.Reg

/-! ### KNT_THR -/

theorem kntThrW_eq (s : State) (v : Word) : s.kntThrW v = s.stageUnless
    (fldOf KNT_THR_OPEN v < fldOf KNT_THR_CLOSE v) KNT_STAT_WRERR v [KNT_THR_OPEN, KNT_THR_CLOSE] := rfl

/-! ### Bank switches -/

theorem vrdSwitchS_free (s : State) (h : s.get VRD_CTRL_SWPEND ≠ 1) : s.vrdSwitchS =
    { s with sched := { s.sched with clsDue := some (s.dueOf s.time) } }.set VRD_CTRL_SWPEND 1 :=
  if_neg (mt (s.flag_iff _).mp h)

theorem vrdSwitchS_waiting (s : State) (h : s.get VRD_CTRL_SWPEND = 1) : s.vrdSwitchS = s.set VRD_STAT_WRERR 1 :=
  if_pos ((s.flag_iff _).mpr h)

theorem mapswS_free (s : State) (h : s.get EJS_CTRL_MAPPEND ≠ 1) : s.mapswS =
    { s with sched := { s.sched with mapDue := some (s.dueOf s.time) } }.set EJS_CTRL_MAPPEND 1 :=
  if_neg (mt (s.flag_iff _).mp h)

/-! ### The staged EJS registers -/

/-- The fields of EJS_LEAD as they are stored: a MINAVG of 0 is taken as 1 (log entry 13). -/
def leadPart (v : Word) (f : Fld) : Nat := if f = EJS_LEAD_MINAVG then max 1 (fldOf f v) else fldOf f v

theorem leadPart_fits (v : Word) (f : Fld) : leadPart v f < 2 ^ f.width := by
  unfold leadPart
  split
  next h => subst h; exact Nat.max_lt.mpr ⟨by decide, fldOf_lt _ v⟩
  next => exact fldOf_lt f v

theorem ejsStagedW_ctrl (s : State) (v : Word) : StagedAs (fldOf · v)
    [EJS_CTRL_ROWS, EJS_CTRL_BONE, EJS_CTRL_LATEPOL, EJS_CTRL_LEADAUTO] s (s.ejsStagedW 0x7800 v) :=
  s.stageEach_word v (by decide) (by decide)

theorem ejsStagedW_dista (s : State) (v : Word) : s.ejsStagedW 0x7808 v = s.stageUnless
    (fldOf EJS_DISTA_D v < 100 ∨ 20000 < fldOf EJS_DISTA_D v) EJS_STAT_WRERR v [EJS_DISTA_D] := rfl

theorem ejsStagedW_distb (s : State) (v : Word) : s.ejsStagedW 0x780C v = s.stageUnless
    (fldOf EJS_DISTB_D v < 100 ∨ 20000 < fldOf EJS_DISTB_D v) EJS_STAT_WRERR v [EJS_DISTB_D] := rfl

theorem ejsStagedW_margin (s : State) (v : Word) : s.ejsStagedW 0x7810 v = s.stageUnless
    (5000 < fldOf EJS_MARGIN_TMARG v) EJS_STAT_WRERR v [EJS_MARGIN_TMARG, EJS_MARGIN_LMARG] := rfl

theorem ejsStagedW_merge (s : State) (v : Word) : s.ejsStagedW 0x7814 v = s.stageUnless
    (8000 < fldOf EJS_MERGE_GAP v) EJS_STAT_WRERR v [EJS_MERGE_GAP] := rfl

theorem ejsStagedW_lead (s : State) (v : Word) :
    StagedAs (leadPart v) [EJS_LEAD_OFS, EJS_LEAD_MINAVG] s (s.ejsStagedW 0x7818 v) :=
  s.stageEach_staged (fun f _ => leadPart_fits v f) (by decide) (by decide)

/-- Settles O29, write by write. -/
theorem thresholdsBanksAndScheduleSettingsWaitForTheirBoundary :
    Obligations.ThresholdsBanksAndScheduleSettingsWaitForTheirBoundary := by
  refine ⟨fun s r v hp hv => State.guardW_answers hp ?_, fun s r v hp hv => State.guardW_answers hp ?_,
    fun s r hp hw => State.guardW_answers hp ?_, fun s r hp hw => State.guardW_answers hp ?_,
    fun s r hp hw => State.guardW_answers hp ?_, fun s r hp => State.guardW_answers hp ?_,
    fun s r v hp => State.guardW_answers hp ?_,
    fun s r v hp hlo hhi => State.guardW_answers hp ?_, fun s r v hp hbad => State.guardW_answers hp ?_,
    fun s r v hp hlo hhi => State.guardW_answers hp ?_, fun s r v hp hbad => State.guardW_answers hp ?_,
    fun s r v hp hok => State.guardW_answers hp ?_, fun s r v hp hbad => State.guardW_answers hp ?_,
    fun s r v hp hok => State.guardW_answers hp ?_, fun s r v hp hbad => State.guardW_answers hp ?_,
    fun s r v hp => State.guardW_answers hp ?_⟩
  · simp only [kntThrW_eq]
    exact (s.stageUnless_taken v (by omega) (by decide) (by decide)).two
  · simp only [kntThrW_eq]
    exact s.stageUnless_refused v hv rfl
  · simp only [vrdSwitchS_free s hw]
    exact ⟨rfl, State.get_set _ _ 1, rfl, (regsBut.refl _ s).set List.mem_cons_self⟩
  · simp only [vrdSwitchS_waiting s hw]
    exact s.set_errAlone rfl
  · simp only [mapswS_free s hw]
    exact ⟨rfl, State.get_set _ _ 1, rfl, (regsBut.refl _ s).set List.mem_cons_self⟩
  · refine ⟨fun c hc => ?_, s.flushEach_sched _, s.flushQueues_keeps.frame,
      s.flushQueues_keeps.leaves (by decide +kernel)⟩
    exact (s.flushEach_queueOf _ c).trans (if_pos (List.mem_range.mpr hc))
  · have h := ejsStagedW_ctrl s v
    exact ⟨h.pend, h.shown _ (by simp), h.shown _ (by simp), h.shown _ (by simp), h.shown _ (by simp), h.frame, h.regs⟩
  · simp only [ejsStagedW_dista]
    exact (s.stageUnless_taken v (by omega) (by decide) (by decide)).one
  · simp only [ejsStagedW_dista]
    exact s.stageUnless_refused v hbad rfl
  · simp only [ejsStagedW_distb]
    exact (s.stageUnless_taken v (by omega) (by decide) (by decide)).one
  · simp only [ejsStagedW_distb]
    exact s.stageUnless_refused v hbad rfl
  · simp only [ejsStagedW_margin]
    exact (s.stageUnless_taken v (by omega) (by decide) (by decide)).two
  · simp only [ejsStagedW_margin]
    exact s.stageUnless_refused v hbad rfl
  · simp only [ejsStagedW_merge]
    exact (s.stageUnless_taken v (by omega) (by decide) (by decide)).one
  · simp only [ejsStagedW_merge]
    exact s.stageUnless_refused v hbad rfl
  · exact (ejsStagedW_lead s v).two

end Sys2Proof
end

section
/-! SUPPORT. A position edge at a channel whose closing the bank's drain converter still observes for an armed trace
(R257, R259). -/

namespace Sys2Proof

open Sys2Proof.Machine Sys2Proof.Machine.Reg

/-- Channel 9 watches its closing on position input 15, and bank 1's converter observes it for a trace of any channel: the
host has changed MOVE.SRC of a channel that closed by kinks, and has armed a trace, before the edge came. -/
def tracedEdge : State := { State.reset with
  regs := ((((State.reset.set (VLV_MOVE_SRC 9) 1).set (VLV_MOVE_POS 9) 15).set (VBK_TRCTL_ARM 1) 1).set
    (VBK_TRCTL_ANY 1) 1).regs
  valves := { Valves.init with drives := [(9, { Drive.init with closeW := true })], obs := [(1, 10)] } }

/-- The closing ends the observation and with it the trace, whose 32 samples are free values. -/
theorem tracedEdge_draws : (tracedEdge.posEdge 15 false).free = 32 := by decide +kernel

/-- Refutes O36: the clause of a closing's position edge lets no more change than the movement times and the drive, for
every state of the bank's trace, and at `tracedEdge` the edge ends an armed trace, which draws its samples. -/
theorem not_movementIsMeasuredOrReportedMissing : ¬ Obligations.MovementIsMeasuredOrReportedMissing := by
  rintro ⟨-, -, -, -, -, hclosing, -⟩
  obtain ⟨t, ht, -, -, -, hframe, -⟩ := hclosing tracedEdge 15 9 false (by decide +kernel) (by decide +kernel)
    (by decide +kernel) (by decide +kernel)
  obtain rfl : tracedEdge.posEdge 15 false = t := Host.Outcome.next.inj ht
  have hfree : 32 = tracedEdge.free := tracedEdge_draws.symm.trans (congrArg State.free hframe :)
  exact absurd hfree (by decide +kernel)

end Sys2Proof
end

section
/-! SUPPORT. Operations that may raise events: the registers they leave, the status bits that stand through them, and the
sources that stay enabled (R349). -/

namespace Sys2Proof.Machine

open Reg

/-- A field that no occurrence writes: one that is none of the events', or an enable of theirs. -/
abbrev Fld.calm (g : Fld) : Prop := g.noEvt ∨ g.enables

/-- What an operation that may raise events leaves: every field but the listed ones, none of which is an event's, and
those that occurrences write; every status bit that stands; and the sources that exist. -/
structure Calm (l : List Fld) (s t : State) : Prop where
  above : ∀ g ∈ l, 32 * 0x1000 ≤ g.key
  regs : ∀ f : Fld, f.calm → (∀ g ∈ l, f.key ≠ g.key) → t.get f = s.get f
  status : ∀ n, s.srcStatus n = true → t.srcStatus n = true
  fuses : t.fuses = s.fuses

theorem Calm.refl {l : List Fld} (hl : ∀ g ∈ l, 32 * 0x1000 ≤ g.key) (s : State) : Calm l s s :=
  ⟨hl, fun _ _ _ => rfl, fun _ h => h, rfl⟩

theorem Calm.trans {l : List Fld} {s t u : State} (h : Calm l s t) (k : Calm l t u) : Calm l s u :=
  ⟨h.above, fun f hc hf => (k.regs f hc hf).trans (h.regs f hc hf), fun n hn => k.status n (h.status n hn),
    k.fuses.trans h.fuses⟩

theorem Calm.mono {l m : List Fld} {s t : State} (h : Calm l s t) (hl : ∀ f ∈ l, f ∈ m)
    (hm : ∀ g ∈ m, 32 * 0x1000 ≤ g.key) : Calm m s t :=
  ⟨hm, fun f hc hf => h.regs f hc fun g hg => hf g (hl g hg), h.status, h.fuses⟩

theorem statFld_key (i : Nat) : (EVT_STAT_STAT i).key < 32 * 0x1000 := by
  simp only [Fld.key, EVT_STAT_STAT]
  omega

/-- An operation that writes no field of events raises none. -/
theorem regsBut.calm {l : List Fld} {s t : State} (h : regsBut l s t) (hl : ∀ g ∈ l, 32 * 0x1000 ≤ g.key)
    (hf : t.fuses = s.fuses) : Calm l s t :=
  ⟨hl, fun f _ hk => h f hk, fun n hn => by rwa [State.srcStatus, h.below hl (statFld_key _)], hf⟩

theorem State.raise_calm (s : State) (n : Nat) {l : List Fld} (hl : ∀ g ∈ l, 32 * 0x1000 ≤ g.key) :
    Calm l s (s.raise n) where
  above := hl
  regs f hc _ := hc.elim (s.raise_get n f) (s.raise_en n)
  status m hm := s.raise_status_mono n m hm
  fuses := s.raise_fuses n

theorem Calm.butEvt {l : List Fld} {s t : State} (h : Calm l s t) : regsButEvt l s t := fun f he hf => h.regs f (.inl he) hf

/-- A field beside those of events and the listed ones. -/
theorem Calm.get {l : List Fld} {s t : State} (h : Calm l s t) {f : Fld} (hc : 32 * 0x1000 ≤ f.key ∧
    f.key ≠ MEM_TESTABORTS_COUNT.key) (hf : ∀ g ∈ l, f.key ≠ g.key) : t.get f = s.get f :=
  h.regs f (.inl ⟨.inr hc.1, hc.2⟩) hf

/-- An event that was raised stays. -/
theorem raisedIn.after {n : Nat} {l : List Fld} {s t u : State} (h : raisedIn n s t) (k : Calm l t u) : raisedIn n s u :=
  fun he hn => k.status n (h he hn)

/-- An event is raised later as it would have been before. -/
theorem raisedIn.since {n : Nat} {l : List Fld} {s t u : State} (h : raisedIn n t u) (k : Calm l s t) : raisedIn n s u :=
  h.of_enables k.fuses (k.regs _ (.inr (enFld_enables _)) fun g hg => by
    have hen := enFld_enables (n / 32)
    have hab := k.above g hg
    omega)

end Sys2Proof.Machine
end

section
/-! SUPPORT. What the drive holds of a channel, and its chop mode, which follows the bank's rail and leader (R246 to
R248). -/

namespace Sys2Proof.Machine

open Reg

/-! ### One channel's record -/

theorem State.drive_setDrive (s : State) (c d : Nat) (x : Drive) :
    (s.setDrive c x).drive d = if d = c then x else s.drive d := mget_mset _ _ _ _ _

@[simp] theorem State.drive_setDrive_self (s : State) (c : Nat) (x : Drive) : (s.setDrive c x).drive c = x :=
  (s.drive_setDrive c c x).trans (if_pos rfl)

theorem State.drive_setDrive_ne (s : State) {c d : Nat} (x : Drive) (h : d ≠ c) :
    (s.setDrive c x).drive d = s.drive d := (s.drive_setDrive c d x).trans (if_neg h)

@[simp] theorem State.drive_set (s : State) (f : Fld) (v c : Nat) : (s.set f v).drive c = s.drive c := rfl

@[simp] theorem State.get_setDrive (s : State) (c : Nat) (x : Drive) (f : Fld) : (s.setDrive c x).get f = s.get f := rfl

theorem State.drive_congr {s t : State} (h : t.valves = s.valves) (c : Nat) : t.drive c = s.drive c := by
  rw [State.drive, h, State.drive]

theorem State.queueOf_congr {s t : State} (h : t.sched = s.sched) (c : Nat) : t.queueOf c = s.queueOf c := by
  rw [State.queueOf, h, State.queueOf]

theorem stateFld_valve {c : Nat} (hc : c < 128) : stateFld c = VLV_STAT_STATE c := if_neg (Nat.ne_of_lt hc)

theorem State.chState_valve (s : State) {c : Nat} (hc : c < 128) : s.chState c = s.get (VLV_STAT_STATE c) :=
  congrArg s.get (stateFld_valve hc)

theorem State.nChans_le (s : State) : s.nChans ≤ 128 := by
  unfold State.nChans
  split <;> decide

theorem State.mem_chansOn (s : State) {b d : Nat} (hb : b < 16) : d ∈ s.chansOn b ↔ d / 8 = b ∧ d < s.nChans := by
  rw [State.chansOn, if_neg (by omega), List.mem_filter, decide_eq_true_eq, bankChans, List.mem_map]
  refine and_congr_left fun _ => ⟨?_, fun h => ⟨d % 8, List.mem_range.mpr (Nat.mod_lt _ (by decide)), by omega⟩⟩
  rintro ⟨i, hi, rfl⟩
  rw [List.mem_range] at hi
  omega

theorem State.chansOn_ly (s : State) : s.chansOn 16 = [ly] := if_pos rfl

/-- Every channel but `c` keeps what the drive holds of it, but for the chop mode of a channel of its bank. -/
def drivesFollow (c : Nat) (s t : State) : Prop :=
  ∀ d : Nat, d ≠ c → t.drive d = { s.drive d with chop := (t.drive d).chop } ∧ (d / 8 ≠ c / 8 → t.drive d = s.drive d)

theorem drivesFollow.trans {c : Nat} {s t u : State} (h : drivesFollow c s t) (k : drivesFollow c t u) :
    drivesFollow c s u := fun d hd => by
  obtain ⟨h1, h2⟩ := h d hd
  obtain ⟨k1, k2⟩ := k d hd
  refine ⟨?_, fun hb => (k2 hb).trans (h2 hb)⟩
  rw [h1] at k1
  exact k1

theorem drivesFollow_of_eq {c : Nat} {s t : State} (h : ∀ d, d ≠ c → t.drive d = s.drive d) : drivesFollow c s t :=
  fun d hd => by rw [h d hd]; exact ⟨rfl, fun _ => rfl⟩

theorem drivesFollow.of_valves {s t : State} (c : Nat) (h : t.valves = s.valves) : drivesFollow c s t :=
  drivesFollow_of_eq fun d _ => State.drive_congr h d

theorem State.setDrive_drivesFollow (s : State) (c : Nat) (x : Drive) : drivesFollow c s (s.setDrive c x) :=
  drivesFollow_of_eq fun _ hd => s.drive_setDrive_ne x hd

/-! ### Chopping -/

/-- The chop mode that a step leaves a channel (R247, R248; log entry 85). -/
def State.chopMode (s : State) (b : Nat) (edge : Bool) (c : Nat) : Nat :=
  if edge || s.chopWant b c == 0 || (s.drive c).chop == 0 then s.chopWant b c
  else if s.leader b = some c then (s.drive c).chop else 1

theorem State.chopStep_drive (s : State) (b : Nat) (edge : Bool) (c d : Nat) : (s.chopStep b edge c).drive d =
    if d = c then { s.drive c with chop := s.chopMode b edge c } else s.drive d := by
  have hstep : s.chopStep b edge c = if s.chopMode b edge c = (s.drive c).chop then s
      else s.setDrive c { s.drive c with chop := s.chopMode b edge c } := rfl
  rw [hstep]
  split
  next h =>
    split
    next hd => rw [hd, h]
    next => rfl
  next => exact s.drive_setDrive _ _ _

/-- A step over a bank's channels changes no more than drive records. -/
theorem State.chopStep_frame (s : State) (b : Nat) (edge : Bool) (c : Nat) : s.chopStep b edge c =
    { s with valves := { s.valves with drives := (s.chopStep b edge c).valves.drives } } := by
  unfold State.chopStep
  extract_lets
  split <;> rfl

/-- Of the listed channels the chop mode alone changes, of others nothing. -/
theorem foldl_chopStep_drive (b : Nat) (edge : Bool) (l : List Nat) (s : State) (d : Nat) :
    (l.foldl (fun s c => s.chopStep b edge c) s).drive d =
      { s.drive d with chop := ((l.foldl (fun s c => s.chopStep b edge c) s).drive d).chop } ∧
    (d ∉ l → (l.foldl (fun s c => s.chopStep b edge c) s).drive d = s.drive d) := by
  induction l generalizing s with
  | nil => exact ⟨rfl, fun _ => rfl⟩
  | cons c l ih =>
    obtain ⟨h1, h2⟩ := ih (s.chopStep b edge c)
    have hstep := s.chopStep_drive b edge c d
    rw [List.foldl_cons]
    refine ⟨h1.trans ?_, fun hd => ?_⟩
    · rw [hstep]
      split
      next hc => rw [hc]
      next => rfl
    · rw [List.mem_cons, not_or] at hd
      rw [h2 hd.2, hstep, if_neg hd.1]

theorem State.chopShow_drive (s : State) (b : Nat) (edge : Bool) (d : Nat) :
    (s.chopShow b edge).drive d = { s.drive d with chop := ((s.chopShow b edge).drive d).chop } ∧
    (d ∉ s.chansOn b → (s.chopShow b edge).drive d = s.drive d) := by
  unfold State.chopShow
  extract_lets x y u
  have hdrive : ∀ d, u.drive d = s.drive d := fun d => by unfold u; split <;> rfl
  have hchans : u.chansOn b = s.chansOn b := by unfold u; split <;> rfl
  obtain ⟨h1, h2⟩ := foldl_chopStep_drive b edge (u.chansOn b) u d
  rw [hdrive, hchans] at h1 h2
  rw [hchans]
  exact ⟨h1, h2⟩

end Sys2Proof.Machine
end

section
/-! SUPPORT. A channel enters a state: its own record and state, and what follows of its bank and the arbiter (R240, R246,
R247, R250). -/

namespace Sys2Proof.Machine

open Reg

/-! ### What follows -/

theorem State.arbShow_regsBut (s : State) :
    regsBut [ARB_STAT_TOKENS, ARB_STAT_FBUSED, ARB_STAT_NEFF, ARB_STAT_DIPCUT, ARB_TOKMAX_MAX] s s.arbShow := by
  unfold State.arbShow
  exact (((((regsBut.refl _ s).set (by simp)).set (by simp)).set (by simp)).set (by simp)).set (by simp)

theorem State.bankShow_regsBut (s : State) (b : Nat) : regsBut [VBK_STAT_RAIL b, VBK_STAT_PEAKING b, VBK_STAT_HOLDING b,
    VBK_STAT_LEADER b, VBK_STAT_LEADVALID b, VBK_PEAKMAX_MAX b] s (s.bankShow b) := by
  unfold State.bankShow
  split
  · exact .refl _ s
  · exact ((((((regsBut.refl _ s).set (by simp)).set (by simp)).set (by simp)).set (by simp)).set (by simp)).set
      (by simp)

theorem followFlds_above (c : Nat) : ∀ g ∈ followFlds c, 32 * 0xA000 ≤ g.key := by
  simp only [followFlds, List.forall_mem_cons, Fld.key, VBK_STAT_RAIL, VBK_STAT_PEAKING, VBK_STAT_HOLDING,
    VBK_STAT_LEADER, VBK_STAT_LEADVALID, VBK_PEAKMAX_MAX, ARB_STAT_TOKENS, ARB_STAT_FBUSED, ARB_STAT_NEFF,
    ARB_STAT_DIPCUT, ARB_TOKMAX_MAX]
  refine ⟨?_, ?_, ?_, ?_, ?_, ?_, ?_, ?_, ?_, ?_, ?_, List.forall_mem_nil _⟩ <;> omega

/-- A bank's and the arbiter's registers follow a channel of the bank. -/
theorem State.follow_regsBut (s : State) (c : Nat) (edge : Bool) :
    regsBut (followFlds c) s (((s.bankShow (c / 8)).chopShow (c / 8) edge).arbShow) := by
  have hbank := (s.bankShow_regsBut (c / 8)).mono (m := followFlds c) fun f hf => by
    simp only [List.mem_cons, List.not_mem_nil, followFlds] at hf ⊢
    tauto
  have hchop := hbank.of_regs_eq ((State.chopShow_keeps (s.bankShow (c / 8)) (c / 8) edge).same.regs rfl)
  refine hchop.trans ((State.arbShow_regsBut _).mono fun f hf => ?_)
  simp only [List.mem_cons, List.not_mem_nil, followFlds] at hf ⊢
  tauto

/-! ### The channel that enters -/

/-- A record as a channel enters a state: not in hold throughout a chop period, and in no slow decay (R239, R266). -/
def Drive.anew (d : Drive) : Drive := { d with whole := false, slow := false }

theorem Drive.anew_of_off {d : Drive} (h : ¬(d.whole || d.slow) = true) : d.anew = d := by
  simp only [Bool.or_eq_true, not_or, Bool.not_eq_true] at h
  obtain ⟨hw, hs⟩ := h
  cases d
  simp_all [Drive.anew]

/-- The state entered, before the bank and the arbiter follow. -/
def State.entered (s : State) (c k : Nat) : State :=
  let u := (if c ≠ ly ∧ (s.chState c = 2 ∨ s.chState c = 3) ∧ k ≠ s.chState c then s.freeToken (s.chState c) else s).set
    (stateFld c) k
  if (u.drive c).whole || (u.drive c).slow then u.setDrive c (u.drive c).anew else u

theorem State.enter_eq (s : State) (c k : Nat) : s.enter c k = if c = ly then (s.entered c k).chopShow 16 false
    else (((s.entered c k).bankShow (c / 8)).chopShow (c / 8) false).arbShow := rfl

theorem State.enter_valve (s : State) {c : Nat} (k : Nat) (hc : c < 128) :
    s.enter c k = (((s.entered c k).bankShow (c / 8)).chopShow (c / 8) false).arbShow :=
  (s.enter_eq c k).trans (if_neg (Nat.ne_of_lt hc))

theorem State.enter_ly (s : State) (k : Nat) : s.enter 128 k = (s.entered 128 k).chopShow 16 false :=
  (s.enter_eq 128 k).trans (if_pos rfl)

theorem State.entered_drive (s : State) (c k d : Nat) : (s.entered c k).drive d =
    if d = c then (s.drive c).anew else s.drive d := by
  unfold State.entered
  extract_lets u
  have hu : ∀ d, u.drive d = s.drive d := fun d => by unfold u; rw [State.drive_set]; split <;> rfl
  rw [hu]
  split
  · rw [State.drive_setDrive, hu]
  next h =>
    rw [hu, Drive.anew_of_off h]
    split
    next hd => rw [hd]
    next => rfl

theorem State.entered_regs (s : State) (c k : Nat) : (s.entered c k).regs = (s.set (stateFld c) k).regs := by
  unfold State.entered
  extract_lets u
  have hu : u.regs = (s.set (stateFld c) k).regs := by unfold u; split <;> rfl
  split
  · exact hu
  · exact hu

/-! ### Entering -/

theorem State.enter_drive_self (s : State) (c k : Nat) : (s.enter c k).drive c =
    { (s.drive c).anew with chop := ((s.enter c k).drive c).chop } := by
  have hself := (s.entered_drive c k c).trans (if_pos rfl)
  have hcases : ∀ t : State, s.enter c k = t → (t.drive c = { (s.entered c k).drive c with chop := (t.drive c).chop }) →
      (s.enter c k).drive c = { (s.drive c).anew with chop := ((s.enter c k).drive c).chop } := by
    rintro t rfl ht
    rw [hself] at ht
    exact ht
  by_cases hc : c = ly
  · exact hcases _ (if_pos hc) (State.chopShow_drive _ _ _ c).1
  · refine hcases _ (if_neg hc) ?_
    rw [State.drive_congr ((State.arbShow_keeps _).same.valves rfl)]
    have hchop := (State.chopShow_drive ((s.entered c k).bankShow (bankOf c)) (bankOf c) false c).1
    rwa [State.drive_congr ((State.bankShow_keeps (s.entered c k) _).same.valves rfl)] at hchop

theorem State.enter_drivesFollow (s : State) {c : Nat} (k : Nat) (hc : c < 128) : drivesFollow c s (s.enter c k) := by
  intro d hd
  have hother := (s.entered_drive c k d).trans (if_neg hd)
  obtain ⟨h1, h2⟩ := State.chopShow_drive ((s.entered c k).bankShow (c / 8)) (c / 8) false d
  rw [State.drive_congr ((State.bankShow_keeps (s.entered c k) _).same.valves rfl), hother] at h1 h2
  rw [s.enter_valve k hc, State.drive_congr ((State.arbShow_keeps _).same.valves rfl)]
  refine ⟨h1, fun hb => h2 fun hmem => hb ?_⟩
  exact ((State.mem_chansOn _ (by omega)).mp hmem).1

theorem State.enter_ly_drive_ne (s : State) (k : Nat) {d : Nat} (hd : d ≠ 128) : (s.enter 128 k).drive d = s.drive d := by
  rw [s.enter_ly, (State.chopShow_drive _ 16 false d).2, s.entered_drive, if_neg hd]
  rw [State.chansOn_ly, List.mem_singleton]
  exact hd

theorem State.enter_regsBut (s : State) {c : Nat} (k : Nat) (hc : c < 128) :
    regsBut (VLV_STAT_STATE c :: followFlds c) s (s.enter c k) := by
  rw [s.enter_valve k hc]
  have hset : regsBut (VLV_STAT_STATE c :: followFlds c) s (s.entered c k) :=
    ((regsBut.refl _ s).set List.mem_cons_self).of_regs_eq (by rw [s.entered_regs, stateFld_valve hc])
  exact hset.trans ((State.follow_regsBut _ c false).mono fun f hf => .tail _ hf)

theorem State.enter_ly_regs (s : State) (k : Nat) : (s.enter 128 k).regs = (s.set ARB_LYSTAT_STATE k).regs := by
  rw [s.enter_ly, (State.chopShow_keeps _ _ _).same.regs rfl, s.entered_regs]
  rfl

theorem State.enter_chState (s : State) {c : Nat} (k : Nat) (hc : c < 128) : (s.enter c k).chState c = k % 8 := by
  have hbelow : (VLV_STAT_STATE c).key < 32 * 0xA000 := by simp only [Fld.key, VLV_STAT_STATE]; omega
  rw [State.chState_valve _ hc, s.enter_valve k hc, (State.follow_regsBut _ c false).below (followFlds_above c) hbelow,
    State.get, s.entered_regs, stateFld_valve hc]
  exact State.get_set s _ k

theorem State.enter_queueOf (s : State) (c k d : Nat) : (s.enter c k).queueOf d = s.queueOf d :=
  State.queueOf_congr ((s.enter_keeps c k).same.sched rfl) d

end Sys2Proof.Machine
end

section
/-! SUPPORT. Queues and drops of a channel: what each change of a queue and each drop leaves (R224, R234, R252, R264 to
R267). -/

namespace Sys2Proof.Machine

open Reg

/-! ### Queues -/

/-- The registers that show a queue's occupancy (R234). -/
abbrev queueFlds (c : Nat) : List Fld := [VLV_STAT_QOCC c, EJS_QOCC_MAX, EJS_QOCC_MAXCH]

theorem State.setQueue_regsBut (s : State) (c : Nat) (q : List Entry) : regsBut (queueFlds c) s (s.setQueue c q) := by
  have hocc : regsBut (queueFlds c) s ({ s with sched := { s.sched with queues := mset [] s.sched.queues c q } }.set
      (VLV_STAT_QOCC c) q.length) := regsBut.set (fun _ _ => rfl) List.mem_cons_self
  exact regsBut.ite ((hocc.set (by simp)).set (by simp)) hocc

theorem State.setQueue_drive (s : State) (c : Nat) (q : List Entry) (d : Nat) : (s.setQueue c q).drive d = s.drive d :=
  State.drive_congr ((s.setQueue_keeps c q).same.valves rfl) d

theorem State.queueOf_setQueue_self (s : State) (c : Nat) (q : List Entry) : (s.setQueue c q).queueOf c = q :=
  (s.queueOf_setQueue c c q).trans (if_pos rfl)

theorem State.queueOf_setQueue_ne (s : State) {c d : Nat} (q : List Entry) (h : d ≠ c) :
    (s.setQueue c q).queueOf d = s.queueOf d := (s.queueOf_setQueue c d q).trans (if_neg h)

/-- Where no entry executes, the entry that starts is the one that executes. -/
theorem find_began_started {q : List Entry} {e : Entry} (hn : q.find? (fun x => !x.began) = some e)
    (hb : q.find? (·.began) = none) :
    (q.map fun x => if x = e then { x with began := true } else x).find? (·.began) = some { e with began := true } := by
  cases q with
  | nil => cases hn
  | cons x q =>
    have hx : x.began = false := by simpa using List.find?_eq_none.mp hb x List.mem_cons_self
    obtain rfl : x = e := by simpa [List.find?_cons, hx] using hn
    rw [List.map_cons, if_pos rfl, List.find?_cons_of_pos rfl]

/-! ### Drops -/

theorem dropFlds_vlv (c : Nat) : ∀ f ∈ dropFlds c, 32 * 0x8000 ≤ f.key ∧ f.key < 32 * 0xA000 := by
  simp only [dropFlds, List.forall_mem_cons, Fld.key, VLV_DROPCNT_COUNT, VLV_STAT_LASTDROP, VLV_TOKDROP_COUNT]
  refine ⟨?_, ?_, ?_, List.forall_mem_nil _⟩ <;> omega

theorem dropFlds_above (c : Nat) : ∀ f ∈ dropFlds c, 32 * 0x1000 ≤ f.key := fun f hf =>
  le_trans (by decide) (dropFlds_vlv c f hf).1

/-- The registers of a drop, before its event. -/
def State.dropShown (s : State) (c k : Nat) : State :=
  let t := (s.bump (VLV_DROPCNT_COUNT c)).set (VLV_STAT_LASTDROP c) k
  if k = 1 ∨ k = 2 ∨ k = 6 then t.bump (VLV_TOKDROP_COUNT c) else t

theorem State.driveDrop_eq (s : State) (c k : Nat) : s.driveDrop c k = (s.dropShown c k).raise (Src.drop c) := rfl

theorem State.dropShown_regsBut (s : State) (c k : Nat) : regsBut (dropFlds c) s (s.dropShown c k) := by
  have hset : regsBut (dropFlds c) s ((s.bump (VLV_DROPCNT_COUNT c)).set (VLV_STAT_LASTDROP c) k) :=
    ((regsBut.refl _ s).set (by simp [dropFlds])).set (by simp [dropFlds])
  exact regsBut.ite (hset.set (by simp [dropFlds])) hset

theorem State.dropShown_calm (s : State) (c k : Nat) : Calm (dropFlds c) s (s.dropShown c k) :=
  (s.dropShown_regsBut c k).calm (dropFlds_above c) (by unfold State.dropShown; split <;> rfl)

theorem State.driveDrop_calm (s : State) (c k : Nat) : Calm (dropFlds c) s (s.driveDrop c k) :=
  (s.dropShown_calm c k).trans (State.raise_calm _ _ (dropFlds_above c))

theorem State.driveDrop_dropped (s : State) (c : Nat) {k : Nat} (hk : k < 16) : dropped c k s (s.driveDrop c k) := by
  have hlast : (VLV_STAT_LASTDROP c).key ≠ (VLV_TOKDROP_COUNT c).key := by
    simp only [Fld.key, VLV_STAT_LASTDROP, VLV_TOKDROP_COUNT]; omega
  have hdrop : (VLV_DROPCNT_COUNT c).key ≠ (VLV_TOKDROP_COUNT c).key := by
    simp only [Fld.key, VLV_DROPCNT_COUNT, VLV_TOKDROP_COUNT]; omega
  have hdl : (VLV_DROPCNT_COUNT c).key ≠ (VLV_STAT_LASTDROP c).key := by
    simp only [Fld.key, VLV_DROPCNT_COUNT, VLV_STAT_LASTDROP]; omega
  have hraise : ∀ f ∈ dropFlds c, (s.driveDrop c k).get f = (s.dropShown c k).get f := fun f hf => by
    have hvlv := dropFlds_vlv c f hf
    refine State.raise_get _ _ f ⟨.inr (by omega), ?_⟩
    simp only [Fld.key, MEM_TESTABORTS_COUNT] at hvlv ⊢
    omega
  refine ⟨(hraise _ (by simp [dropFlds])).trans ?_, (hraise _ (by simp [dropFlds])).trans ?_,
    (hraise _ (by simp [dropFlds])).trans ?_, (State.raise_status _ _).since (s.dropShown_calm c k)⟩
  all_goals
    unfold State.dropShown
    simp only [State.bump_eq]
    split
  · rw [State.get_set_ne _ _ _ _ hdrop, State.get_set_ne _ _ _ _ hdl, State.get_set]; rfl
  · rw [State.get_set_ne _ _ _ _ hdl, State.get_set]; rfl
  · rw [State.get_set_ne _ _ _ _ hlast, State.get_set]; exact Nat.mod_eq_of_lt hk
  · rw [State.get_set]; exact Nat.mod_eq_of_lt hk
  · rw [State.get_set, State.get_set_ne _ _ _ _ hlast.symm, State.get_set_ne _ _ _ _ hdrop.symm]; rfl
  · rw [State.get_set_ne _ _ _ _ hlast.symm, State.get_set_ne _ _ _ _ hdrop.symm]

/-- The counts of drops that a drop adds to are those from before what leaves them. -/
theorem dropped_since {c k : Nat} {l : List Fld} {s t u : State} (h : dropped c k t u) (hst : Calm l s t)
    (hl : ∀ f ∈ dropFlds c, ∀ g ∈ l, f.key ≠ g.key) : dropped c k s u := by
  have hget : ∀ f ∈ dropFlds c, t.get f = s.get f := fun f hf => by
    have hvlv := dropFlds_vlv c f hf
    refine hst.get ⟨by omega, ?_⟩ (hl f hf)
    simp only [Fld.key, MEM_TESTABORTS_COUNT] at hvlv ⊢
    omega
  obtain ⟨hdrop, hlast, htok, hraised⟩ := h
  rw [hget _ (by simp [dropFlds])] at hdrop htok
  exact ⟨hdrop, hlast, htok, hraised.since hst⟩

end Sys2Proof.Machine
end

section
/-! SUPPORT. What a change on one channel leaves of the others: their queues and what the drive holds of them. -/

namespace Sys2Proof

open Sys2Proof.Machine Sys2Proof.Machine.Reg

theorem othersFollow_iff {c : Nat} {s t : State} :
    othersFollow c s t ↔ drivesFollow c s t ∧ ∀ d, d ≠ c → t.queueOf d = s.queueOf d :=
  ⟨fun h => ⟨fun d hd => (h d hd).2, fun d hd => (h d hd).1⟩, fun h d hd => ⟨h.2 d hd, h.1 d hd⟩⟩

theorem othersFollow.trans {c : Nat} {s t u : State} (h : othersFollow c s t) (k : othersFollow c t u) :
    othersFollow c s u := by
  rw [othersFollow_iff] at h k ⊢
  exact ⟨h.1.trans k.1, fun d hd => (k.2 d hd).trans (h.2 d hd)⟩

theorem othersKeep.trans {c : Nat} {s t u : State} (h : othersKeep c s t) (k : othersKeep c t u) : othersKeep c s u :=
  fun d hd => ⟨(k d hd).1.trans (h d hd).1, (k d hd).2.trans (h d hd).2⟩

theorem othersKeep.follow {c : Nat} {s t : State} (h : othersKeep c s t) : othersFollow c s t :=
  othersFollow_iff.mpr ⟨drivesFollow_of_eq fun d hd => (h d hd).2, fun d hd => (h d hd).1⟩

theorem othersKeep_of_parts {s t : State} (c : Nat) (hs : t.sched = s.sched) (hv : t.valves = s.valves) :
    othersKeep c s t := fun d _ => ⟨State.queueOf_congr hs d, State.drive_congr hv d⟩

theorem setQueue_othersKeep (s : State) (c : Nat) (q : List Entry) : othersKeep c s (s.setQueue c q) := fun d hd =>
  ⟨s.queueOf_setQueue_ne q hd, s.setQueue_drive c q d⟩

theorem setDrive_othersKeep (s : State) (c : Nat) (x : Drive) : othersKeep c s (s.setDrive c x) := fun _ hd =>
  ⟨rfl, s.drive_setDrive_ne x hd⟩

theorem driveDrop_othersKeep (s : State) (c k : Nat) : othersKeep c s (s.driveDrop c k) :=
  othersKeep_of_parts c ((s.driveDrop_keeps c k).same.sched rfl) ((s.driveDrop_keeps c k).same.valves rfl)

theorem enter_othersFollow (s : State) {c : Nat} (k : Nat) (hc : c < 128) : othersFollow c s (s.enter c k) :=
  othersFollow_iff.mpr ⟨s.enter_drivesFollow k hc, fun d _ => s.enter_queueOf c k d⟩

theorem enter_ly_othersKeep (s : State) (k : Nat) : othersKeep 128 s (s.enter 128 k) := fun d hd =>
  ⟨s.enter_queueOf 128 k d, s.enter_ly_drive_ne k hd⟩

end Sys2Proof
end

section
/-! SUPPORT. The low side turns on: the record of the firing, its counts and its stamp (R240, R245). -/

namespace Sys2Proof.Machine

open Reg

theorem ne_ly {c : Nat} (hc : c < 128) : c ≠ ly := Nat.ne_of_lt hc

/-- A channel's record at its gate-on: the profile that its firing takes, the time, no detection of the last closing. -/
def State.gatedOn (s : State) (c : Nat) : Drive := { s.drive c with
  prof := s.profVals (s.profOf c), on := s.time, after := false,
  openW := if c = ly then true else s.moveSrc c != 0, closeW := false, held := false }

/-- What a gate-on writes of a valve channel. -/
abbrev gateOnFlds (c : Nat) : List Fld :=
  [VLV_STAT_STATE c, VLV_FIRECNT_COUNT c, VLV_LASTON_LO_STAMP c, VLV_LASTON_HI_STAMP c] ++ followFlds c

/-- A gate-on while no closing is watched. -/
theorem State.gateOn_eq (s : State) (c k : Nat) (hw : (s.drive c).closeW = false) : s.gateOn c k =
    if c = ly then (s.setDrive c (s.gatedOn c)).enter c k
    else (((s.setDrive c (s.gatedOn c)).enter c k).bump (VLV_FIRECNT_COUNT c)).setPair (VLV_LASTON_LO_STAMP c)
      (VLV_LASTON_HI_STAMP c) ((s.setDrive c (s.gatedOn c)).enter c k).time := by
  simp only [State.gateOn, hw, Bool.false_eq_true, if_false]
  rfl

theorem State.gateOn_valve (s : State) {c : Nat} (k : Nat) (hc : c < 128) (hw : (s.drive c).closeW = false) :
    s.gateOn c k = (((s.setDrive c (s.gatedOn c)).enter c k).bump (VLV_FIRECNT_COUNT c)).setPair (VLV_LASTON_LO_STAMP c)
      (VLV_LASTON_HI_STAMP c) s.time := by
  rw [s.gateOn_eq c k hw, if_neg (ne_ly hc), (State.enter_keeps _ c k).same.time rfl]
  rfl

theorem State.gateOn_keeps_valve (s : State) {c : Nat} (k : Nat) (hc : c < 128) (hw : (s.drive c).closeW = false) :
    Keeps 0x804F0000000000000000000000000000000000000000000000000000000000600000400008 s (s.gateOn c k) := by
  have hent := Keeps.comp (State.enter_keeps (s.setDrive c (s.gatedOn c)) c k) rfl
    (Keeps.comp (s.setDrive_keeps c (s.gatedOn c)) rfl
      (Keeps.refl 0x804F0000000000000000000000000000000000000000000000000000000000600000400008 s))
  rw [s.gateOn_valve k hc hw]
  exact ((hent.set (.fam (VLV_FIRECNT_COUNT_cls c) rfl)).set (.fam (VLV_LASTON_LO_STAMP_cls c) rfl)).set
    (.fam (VLV_LASTON_HI_STAMP_cls c) rfl)

theorem State.gateOn_drive_self (s : State) {c : Nat} (k : Nat) (hc : c < 128) (hw : (s.drive c).closeW = false) :
    (s.gateOn c k).drive c = { (s.gatedOn c).anew with chop := ((s.gateOn c k).drive c).chop } := by
  have hself := (s.setDrive c (s.gatedOn c)).enter_drive_self c k
  rw [State.drive_setDrive_self] at hself
  rw [s.gateOn_valve k hc hw]
  exact hself

theorem State.gateOn_drivesFollow (s : State) {c : Nat} (k : Nat) (hc : c < 128) (hw : (s.drive c).closeW = false) :
    drivesFollow c s (s.gateOn c k) := by
  rw [s.gateOn_valve k hc hw]
  exact ((s.setDrive_drivesFollow c _).trans (State.enter_drivesFollow _ k hc)).trans (.of_valves c rfl)

theorem State.gateOn_queueOf (s : State) (c k d : Nat) : (s.gateOn c k).queueOf d = s.queueOf d :=
  State.queueOf_congr ((s.gateOn_keeps c k).same.sched rfl) d

theorem State.gateOn_regsBut (s : State) {c : Nat} (k : Nat) (hc : c < 128) (hw : (s.drive c).closeW = false) :
    regsBut (gateOnFlds c) s (s.gateOn c k) := by
  have hent : regsBut (gateOnFlds c) s ((s.setDrive c (s.gatedOn c)).enter c k) :=
    ((s.setDrive c (s.gatedOn c)).enter_regsBut k hc).mono fun f hf => by
      rcases List.mem_cons.mp hf with rfl | hf
      · exact List.mem_cons_self
      · exact List.mem_append_right _ hf
  rw [s.gateOn_valve k hc hw]
  exact ((hent.set (by simp)).set (by simp)).set (by simp)

/-- What a gate-on shows: the state, the count and the stamp of the firing. -/
theorem State.gateOn_shown (s : State) {c : Nat} (k : Nat) (hc : c < 128) (hw : (s.drive c).closeW = false) :
    (s.gateOn c k).chState c = k % 8 ∧
    (s.gateOn c k).get (VLV_FIRECNT_COUNT c) = satAdd 31 (s.get (VLV_FIRECNT_COUNT c)) 1 % 2 ^ 31 ∧
    (s.gateOn c k).get (VLV_LASTON_LO_STAMP c) = s.time % 2 ^ 32 := by
  have hlo_hi : (VLV_LASTON_LO_STAMP c).key ≠ (VLV_LASTON_HI_STAMP c).key := by
    simp only [Fld.key, VLV_LASTON_LO_STAMP, VLV_LASTON_HI_STAMP]; omega
  have hcnt_lo : (VLV_FIRECNT_COUNT c).key ≠ (VLV_LASTON_LO_STAMP c).key := by
    simp only [Fld.key, VLV_FIRECNT_COUNT, VLV_LASTON_LO_STAMP]; omega
  have hcnt_hi : (VLV_FIRECNT_COUNT c).key ≠ (VLV_LASTON_HI_STAMP c).key := by
    simp only [Fld.key, VLV_FIRECNT_COUNT, VLV_LASTON_HI_STAMP]; omega
  have hstate : ∀ g ∈ [VLV_FIRECNT_COUNT c, VLV_LASTON_LO_STAMP c, VLV_LASTON_HI_STAMP c],
      (VLV_STAT_STATE c).key ≠ g.key := by
    simp only [List.forall_mem_cons, Fld.key, VLV_STAT_STATE, VLV_FIRECNT_COUNT, VLV_LASTON_LO_STAMP, VLV_LASTON_HI_STAMP]
    refine ⟨?_, ?_, ?_, List.forall_mem_nil _⟩ <;> omega
  have hbelow : (VLV_FIRECNT_COUNT c).key < 32 * 0xA000 := by simp only [Fld.key, VLV_FIRECNT_COUNT]; omega
  have hcnt : ((s.setDrive c (s.gatedOn c)).enter c k).get (VLV_FIRECNT_COUNT c) = s.get (VLV_FIRECNT_COUNT c) := by
    refine (s.setDrive c (s.gatedOn c)).enter_regsBut k hc _ (List.forall_mem_cons.mpr ⟨?_, fun g hg => ?_⟩)
    · simp only [Fld.key, VLV_STAT_STATE, VLV_FIRECNT_COUNT]; omega
    · have := followFlds_above c g hg; omega
  have hpair : ∀ t : State, regsBut [VLV_FIRECNT_COUNT c, VLV_LASTON_LO_STAMP c, VLV_LASTON_HI_STAMP c] t
      ((t.bump (VLV_FIRECNT_COUNT c)).setPair (VLV_LASTON_LO_STAMP c) (VLV_LASTON_HI_STAMP c) s.time) := fun t =>
    (((regsBut.refl _ t).set (by simp)).set (by simp)).set (by simp)
  rw [s.gateOn_valve k hc hw]
  refine ⟨?_, ?_, ?_⟩
  · rw [State.chState_valve _ hc, hpair _ _ hstate, ← State.chState_valve _ hc, State.enter_chState _ k hc]
  · rw [State.setPair_eq, State.get_set_ne _ _ _ _ hcnt_hi, State.get_set_ne _ _ _ _ hcnt_lo, State.bump_eq,
      State.get_set, hcnt]
    rfl
  · rw [State.setPair_eq, State.get_set_ne _ _ _ _ hlo_hi, State.get_set]
    exact Nat.mod_mod _ _

end Sys2Proof.Machine
end

section
/-! SUPPORT. The low side turns off: the record and the state of the decay, and the watch for the closing (R239, R240,
R243, R256, R259). -/

namespace Sys2Proof.Machine

open Reg

/-! ### The watch -/

theorem State.watchClose_regsBut (s : State) (c : Nat) :
    regsBut [VLV_STAT_UNMEAS c, VLV_NMCNT_UNMEAS c] s (s.watchClose c) := by
  unfold State.watchClose
  extract_lets
  split
  · exact .refl _ s
  · split
    · exact .refl _ s
    · split
      · exact ((regsBut.refl _ s).set (by simp)).set (by simp)
      · exact regsBut.set (fun _ _ => rfl) (by simp)

theorem State.watchClose_none (s : State) (c : Nat) (h : s.moveSrc c = 0) : s.watchClose c = s := if_pos h

/-- A channel's record as its closing is watched for. -/
def Drive.closing (d : Drive) : Drive := { d with closeW := true }

theorem State.watchClose_eq (s : State) (c : Nat) : s.watchClose c =
    if s.moveSrc c = 0 then s
    else if s.moveSrc c = 1 then s.setDrive c (s.drive c).closing
    else if mget 0 s.valves.obs (bankOf c) ≠ 0 then (s.set (VLV_STAT_UNMEAS c) 1).bump (VLV_NMCNT_UNMEAS c)
    else ({ s with valves := { s.valves with obs := mset 0 s.valves.obs (bankOf c) (c + 1) } }.setDrive c
      (s.drive c).closing).set (VLV_STAT_UNMEAS c) 0 := rfl

theorem State.watchClose_drive (s : State) (c d : Nat) : (s.watchClose c).drive d =
    if d = c then { s.drive c with closeW := ((s.watchClose c).drive c).closeW } else s.drive d := by
  have hkeep : s.drive d = if d = c then s.drive c else s.drive d := by
    split
    next h => rw [h]
    next => rfl
  rw [s.watchClose_eq]
  split
  · exact hkeep
  · split
    · rw [State.drive_setDrive_self, State.drive_setDrive]
      rfl
    · split
      · exact hkeep
      · rw [State.drive_set, State.drive_set, State.drive_setDrive_self, State.drive_setDrive]
        rfl

/-! ### The decay -/

/-- A channel's record as its low side turns off for good. -/
def State.gatedOff (s : State) (c : Nat) : Drive := { s.drive c with off := s.time, after := true }

/-- A channel's record in slow decay. -/
def Drive.slowed (d : Drive) : Drive := { d with slow := true }

/-- The low side is off and the channel decays, slowly during boost overvoltage (R239, R240, R243). -/
def State.decayed (s : State) (c : Nat) : State :=
  let t := (s.setDrive c (s.gatedOff c)).enter c 5
  if t.closesSlow c then t.setDrive c (t.drive c).slowed else t

theorem State.gateOff_eq (s : State) (c : Nat) : s.gateOff c =
    if s.chState c = 0 ∨ (s.chState c = 5 ∧ (s.drive c).after) then s
    else if s.chState c = 1 then s.enter c 0
    else if c = ly then (s.decayed c).set ARB_LYSTAT_CLOSED 0 else (s.decayed c).watchClose c := rfl

theorem State.gateOff_driven (s : State) {c : Nat} (hc : c < 128) (h2 : 2 ≤ s.chState c)
    (ha : ¬(s.chState c = 5 ∧ (s.drive c).after = true)) : s.gateOff c = (s.decayed c).watchClose c := by
  rw [s.gateOff_eq, if_neg (by rintro (h | h); exacts [by omega, ha h]), if_neg (by omega), if_neg (ne_ly hc)]

theorem State.gateOff_ly_driven (s : State) (h2 : 2 ≤ s.chState 128)
    (ha : ¬(s.chState 128 = 5 ∧ (s.drive 128).after = true)) :
    s.gateOff 128 = (s.decayed 128).set ARB_LYSTAT_CLOSED 0 := by
  rw [s.gateOff_eq, if_neg (by rintro (h | h); exacts [by omega, ha h]), if_neg (by omega)]
  exact if_pos rfl

theorem State.decayed_eq {s t : State} {c : Nat} (h : (s.setDrive c (s.gatedOff c)).enter c 5 = t) :
    s.decayed c = if t.closesSlow c then t.setDrive c (t.drive c).slowed else t := by
  rw [← h]
  rfl

theorem State.decayed_drive_self (s : State) (c : Nat) : (s.decayed c).drive c = { s.drive c with
    off := s.time, after := true, whole := false, slow := ((s.decayed c).drive c).slow,
    chop := ((s.decayed c).drive c).chop } := by
  have hent := (s.setDrive c (s.gatedOff c)).enter_drive_self c 5
  rw [State.drive_setDrive_self] at hent
  generalize ht : (s.setDrive c (s.gatedOff c)).enter c 5 = t at hent
  rw [State.decayed_eq ht]
  split
  · rw [State.drive_setDrive_self]
    generalize t.drive c = x at hent
    rw [hent]
    rfl
  · rw [hent]
    rfl

theorem State.decayed_drive_ne (s : State) (c : Nat) {d : Nat} (hd : d ≠ c) : (s.decayed c).drive d =
    ((s.setDrive c (s.gatedOff c)).enter c 5).drive d := by
  unfold State.decayed
  extract_lets t
  split
  · exact t.drive_setDrive_ne _ hd
  · rfl

theorem State.decayed_regs (s : State) (c : Nat) :
    (s.decayed c).regs = ((s.setDrive c (s.gatedOff c)).enter c 5).regs := by
  unfold State.decayed
  extract_lets t
  split <;> rfl

theorem State.decayed_regsBut (s : State) {c : Nat} (hc : c < 128) :
    regsBut (VLV_STAT_STATE c :: followFlds c) s (s.decayed c) :=
  ((s.setDrive c (s.gatedOff c)).enter_regsBut 5 hc).of_regs_eq (s.decayed_regs c)

theorem State.decayed_chState (s : State) {c : Nat} (hc : c < 128) : (s.decayed c).chState c = 5 := by
  rw [State.chState, State.get, s.decayed_regs]
  exact State.enter_chState _ 5 hc

theorem State.decayed_drivesFollow (s : State) {c : Nat} (hc : c < 128) : drivesFollow c s (s.decayed c) := by
  have hent := (s.setDrive_drivesFollow c (s.gatedOff c)).trans
    (State.enter_drivesFollow _ 5 hc)
  intro d hd
  rw [s.decayed_drive_ne c hd]
  exact hent d hd

/-! ### Gate-off -/

/-- What a gate-off writes of a valve channel. -/
abbrev gateOffFlds (c : Nat) : List Fld :=
  VLV_STAT_STATE c :: VLV_STAT_UNMEAS c :: VLV_NMCNT_UNMEAS c :: followFlds c

theorem State.gateOff_regsBut (s : State) {c : Nat} (hc : c < 128) : regsBut (gateOffFlds c) s (s.gateOff c) := by
  have hent : ∀ f ∈ VLV_STAT_STATE c :: followFlds c, f ∈ gateOffFlds c := fun f hf => by
    rcases List.mem_cons.mp hf with rfl | hf
    · exact List.mem_cons_self
    · exact .tail _ (.tail _ (.tail _ hf))
  rw [s.gateOff_eq, if_neg (ne_ly hc)]
  split
  · exact .refl _ s
  · split
    · exact (s.enter_regsBut 0 hc).mono hent
    · exact ((s.decayed_regsBut hc).mono hent).trans ((State.watchClose_regsBut _ c).mono (by simp))

theorem State.gateOff_drivesFollow (s : State) {c : Nat} (hc : c < 128) : drivesFollow c s (s.gateOff c) := by
  rw [s.gateOff_eq, if_neg (ne_ly hc)]
  split
  · exact .of_valves c rfl
  · split
    · exact s.enter_drivesFollow 0 hc
    · exact (s.decayed_drivesFollow hc).trans
        (drivesFollow_of_eq fun d hd => ((s.decayed c).watchClose_drive c d).trans (if_neg hd))

theorem State.gateOff_queueOf (s : State) (c d : Nat) : (s.gateOff c).queueOf d = s.queueOf d :=
  State.queueOf_congr ((s.gateOff_keeps c).same.sched rfl) d

/-- A gate-off leaves of the channel's record what its firing took and counts: the times of the edges, the flags of the
decay and of the closing's detection alone change. -/
theorem State.gateOff_drive_self (s : State) (c : Nat) : (s.gateOff c).drive c = { s.drive c with
    off := ((s.gateOff c).drive c).off, after := ((s.gateOff c).drive c).after,
    closeW := ((s.gateOff c).drive c).closeW, whole := ((s.gateOff c).drive c).whole,
    slow := ((s.gateOff c).drive c).slow, chop := ((s.gateOff c).drive c).chop } := by
  rw [s.gateOff_eq]
  split
  · rfl
  · split
    · rw [s.enter_drive_self]
      rfl
    · split
      · rw [State.drive_set, s.decayed_drive_self]
      · rw [State.watchClose_drive, if_pos rfl, s.decayed_drive_self]

/-- A driven channel decays from its gate-off on. -/
theorem State.gateOff_decays (s : State) {c : Nat} (hc : c < 128) (h2 : 2 ≤ s.chState c)
    (ha : ¬(s.chState c = 5 ∧ (s.drive c).after = true)) :
    (s.gateOff c).chState c = 5 ∧ ((s.gateOff c).drive c).after = true ∧ ((s.gateOff c).drive c).off = s.time := by
  have hne : ∀ g ∈ [VLV_STAT_UNMEAS c, VLV_NMCNT_UNMEAS c], (VLV_STAT_STATE c).key ≠ g.key := by
    simp only [List.forall_mem_cons, Fld.key, VLV_STAT_STATE, VLV_STAT_UNMEAS, VLV_NMCNT_UNMEAS]
    refine ⟨?_, ?_, List.forall_mem_nil _⟩ <;> omega
  rw [s.gateOff_driven hc h2 ha]
  refine ⟨?_, ?_, ?_⟩
  · rw [State.chState_valve _ hc, State.watchClose_regsBut _ c _ hne, ← State.chState_valve _ hc, s.decayed_chState hc]
  · rw [State.watchClose_drive, if_pos rfl, s.decayed_drive_self]
  · rw [State.watchClose_drive, if_pos rfl, s.decayed_drive_self]

/-! ### LY -/

theorem State.gateOff_ly_regsBut (s : State) :
    regsBut [ARB_LYSTAT_STATE, ARB_LYSTAT_CLOSED] s (s.gateOff 128) := by
  have hent : ∀ (t : State) (k : Nat), regsBut [ARB_LYSTAT_STATE, ARB_LYSTAT_CLOSED] t (t.enter 128 k) := fun t k =>
    ((regsBut.refl _ t).set (by simp)).of_regs_eq (t.enter_ly_regs k)
  have hdec : regsBut [ARB_LYSTAT_STATE, ARB_LYSTAT_CLOSED] s (s.decayed 128) :=
    (hent (s.setDrive 128 (s.gatedOff 128)) 5).of_regs_eq (s.decayed_regs 128)
  rw [s.gateOff_eq, if_pos (show 128 = ly from rfl)]
  split
  · exact .refl _ s
  · split
    · exact hent s 0
    · exact hdec.set (by simp)

theorem State.gateOff_ly_drive_ne (s : State) {d : Nat} (hd : d ≠ 128) : (s.gateOff 128).drive d = s.drive d := by
  rw [s.gateOff_eq, if_pos (show 128 = ly from rfl)]
  split
  · rfl
  · split
    · exact s.enter_ly_drive_ne 0 hd
    · rw [State.drive_set, s.decayed_drive_ne 128 hd, State.enter_ly_drive_ne _ 5 hd, s.drive_setDrive_ne _ hd]

/-- A driven LY decays from its gate-off on. -/
theorem State.gateOff_ly_decays (s : State) (h2 : 2 ≤ s.chState 128)
    (ha : ¬(s.chState 128 = 5 ∧ (s.drive 128).after = true)) :
    (s.gateOff 128).get ARB_LYSTAT_STATE = 5 ∧ (s.gateOff 128).get ARB_LYSTAT_CLOSED = 0 ∧
    ((s.gateOff 128).drive 128).after = true ∧ ((s.gateOff 128).drive 128).off = s.time := by
  rw [s.gateOff_ly_driven h2 ha]
  refine ⟨?_, State.get_set _ ARB_LYSTAT_CLOSED 0, ?_, ?_⟩
  · rw [State.get_set_ne _ _ _ _ (by decide), State.get, s.decayed_regs, State.enter_ly_regs]
    exact State.get_set _ ARB_LYSTAT_STATE 5
  · rw [State.drive_set, s.decayed_drive_self]
  · rw [State.drive_set, s.decayed_drive_self]

end Sys2Proof.Machine
end

section
/-! SUPPORT. A firing's entry leaves its queue, a waiting request is dropped, and a firing is cut (R252, R267). -/

namespace Sys2Proof.Machine

open Reg

/-- The footprint of the parts that `p` names with every register field. -/
abbrev foot (p : Nat) : Nat := 0xFFFFFFFFFFFFFFFFFFFFFFFFFFFFFFFFFFFFFFFFFFFFFFFFFFFFFFFFFFFFFFFFFFFFFFFF00000000 ||| p

/-- The registers of a channel's state and queue, and those of its bank and the arbiter that follow them. -/
abbrev firingFlds (c : Nat) : List Fld := [VLV_STAT_STATE c, VLV_STAT_QOCC c, EJS_QOCC_MAX, EJS_QOCC_MAXCH]

theorem firingFlds_above (c : Nat) : ∀ g ∈ firingFlds c, 32 * 0x1000 ≤ g.key := by
  simp only [List.forall_mem_cons, Fld.key, VLV_STAT_STATE, VLV_STAT_QOCC, EJS_QOCC_MAX, EJS_QOCC_MAXCH]
  refine ⟨?_, ?_, ?_, ?_, List.forall_mem_nil _⟩ <;> omega

theorem followFlds_calm (c : Nat) : ∀ g ∈ followFlds c, 32 * 0x1000 ≤ g.key := fun g hg =>
  le_trans (by decide) (followFlds_above c g hg)

/-- The fields of a drop lie beside those of the state, the queue and what follows them. -/
theorem dropFlds_ne_firing (c : Nat) : ∀ f ∈ dropFlds c, ∀ g ∈ firingFlds c ++ followFlds c, f.key ≠ g.key := by
  intro f hf g hg
  rw [List.mem_append] at hg
  rcases hg with hg | hg
  · revert g
    revert f
    simp only [dropFlds, List.forall_mem_cons, Fld.key, VLV_DROPCNT_COUNT, VLV_STAT_LASTDROP, VLV_TOKDROP_COUNT,
      VLV_STAT_STATE, VLV_STAT_QOCC, EJS_QOCC_MAX, EJS_QOCC_MAXCH]
    refine ⟨?_, ?_, ?_, List.forall_mem_nil _⟩ <;>
      refine ⟨?_, ?_, ?_, ?_, List.forall_mem_nil _⟩ <;> omega
  · have hvlv := dropFlds_vlv c f hf
    have hvbk := followFlds_above c g hg
    omega

/-! ### The executing entry leaves -/

theorem State.removeCurrent_queueOf (s : State) (c : Nat) :
    (s.removeCurrent c).queueOf c = (s.queueOf c).filter fun e => !e.began := s.queueOf_setQueue_self c _

theorem State.removeCurrent_current (s : State) (c : Nat) : (s.removeCurrent c).current c = none := by
  rw [State.current, s.removeCurrent_queueOf, List.find?_eq_none]
  intro e he
  simpa using (List.mem_filter.mp he).2

theorem any_began_filter (q : List Entry) : (q.filter fun e => !e.began).any (·.began) = false := by
  rw [List.any_eq_false]
  intro e he
  simpa using (List.mem_filter.mp he).2

theorem State.setQueue_chState (s : State) {c d : Nat} (q : List Entry) (hc : c < 128) :
    (s.setQueue d q).chState c = s.chState c := by
  rw [State.chState_valve _ hc, State.chState_valve _ hc]
  refine s.setQueue_regsBut d q _ ?_
  simp only [List.forall_mem_cons, Fld.key, VLV_STAT_STATE, VLV_STAT_QOCC, EJS_QOCC_MAX, EJS_QOCC_MAXCH]
  refine ⟨?_, ?_, ?_, List.forall_mem_nil _⟩ <;> omega

theorem State.driveDrop_chState (s : State) {c : Nat} (d k : Nat) (hc : c < 128) :
    (s.driveDrop d k).chState c = s.chState c := by
  rw [State.chState_valve _ hc, State.chState_valve _ hc]
  refine (s.driveDrop_calm d k).get ?_ ?_
  · simp only [Fld.key, VLV_STAT_STATE, MEM_TESTABORTS_COUNT]
    omega
  · simp only [dropFlds, List.forall_mem_cons, Fld.key, VLV_STAT_STATE, VLV_DROPCNT_COUNT, VLV_STAT_LASTDROP,
      VLV_TOKDROP_COUNT]
    refine ⟨?_, ?_, ?_, List.forall_mem_nil _⟩ <;> omega

/-! ### A waiting request is dropped -/

/-- The request ends without a peak (R252). -/
def State.requestDropped (s : State) (c k : Nat) : State := ((s.enter c 0).removeCurrent c).driveDrop c k

theorem State.idled_regsBut (s : State) {c : Nat} (hc : c < 128) :
    regsBut (firingFlds c ++ followFlds c) s ((s.enter c 0).removeCurrent c) :=
  ((s.enter_regsBut 0 hc).mono fun f hf => by
    rcases List.mem_cons.mp hf with rfl | hf
    · exact List.mem_cons_self
    · exact List.mem_append_right _ hf).trans
  ((State.setQueue_regsBut _ c _).mono fun f hf => List.mem_append_left _ (List.mem_cons_of_mem _ hf))

theorem State.idled_calm (s : State) {c : Nat} (hc : c < 128) :
    Calm (firingFlds c ++ followFlds c) s ((s.enter c 0).removeCurrent c) :=
  (s.idled_regsBut hc).calm (List.forall_mem_append.mpr ⟨firingFlds_above c, followFlds_calm c⟩)
    ((State.setQueue_keeps _ c _).fuses.trans (s.enter_keeps c 0).fuses)

theorem State.requestDropped_dropped (s : State) {c k : Nat} (hc : c < 128) (hk : k < 16) :
    dropped c k s (s.requestDropped c k) :=
  dropped_since (State.driveDrop_dropped _ c hk) (s.idled_calm hc) (dropFlds_ne_firing c)

theorem State.requestDropped_chState (s : State) {c : Nat} (k : Nat) (hc : c < 128) :
    (s.requestDropped c k).chState c = 0 :=
  (State.driveDrop_chState _ c k hc).trans ((State.setQueue_chState _ _ hc).trans (s.enter_chState 0 hc))

theorem State.requestDropped_queueOf (s : State) (c k : Nat) :
    (s.requestDropped c k).queueOf c = (s.queueOf c).filter fun e => !e.began := by
  rw [State.requestDropped, State.queueOf_congr ((State.driveDrop_keeps _ c k).same.sched rfl),
    State.removeCurrent_queueOf, s.enter_queueOf]

theorem State.requestDropped_keeps (s : State) (c k : Nat) : Keeps (foot 0x6000C8) s (s.requestDropped c k) :=
  (State.driveDrop_keeps _ c k).comp rfl ((State.setQueue_keeps _ c _).comp rfl ((s.enter_keeps c 0).comp rfl (.refl _ s)))

theorem State.requestDropped_butEvt (s : State) {c : Nat} (k : Nat) (hc : c < 128) :
    regsButEvt (firingFlds c ++ dropFlds c ++ followFlds c) s (s.requestDropped c k) := by
  have habove : ∀ g ∈ firingFlds c ++ dropFlds c ++ followFlds c, 32 * 0x1000 ≤ g.key := List.forall_mem_append.mpr
    ⟨List.forall_mem_append.mpr ⟨firingFlds_above c, dropFlds_above c⟩, followFlds_calm c⟩
  refine (((s.idled_calm hc).mono (fun f hf => ?_) habove).trans
    ((State.driveDrop_calm _ c k).mono (fun f hf => ?_) habove)).butEvt
  · simp only [List.mem_append] at hf ⊢
    tauto
  · simp only [List.mem_append]
    tauto

end Sys2Proof.Machine

namespace Sys2Proof

open Sys2Proof.Machine Sys2Proof.Machine.Reg

theorem requestDropped_othersFollow (s : State) {c : Nat} (k : Nat) (hc : c < 128) :
    othersFollow c s (s.requestDropped c k) :=
  ((enter_othersFollow s 0 hc).trans (setQueue_othersKeep _ c _).follow).trans (driveDrop_othersKeep _ c k).follow

theorem gateOn_othersFollow (s : State) {c : Nat} (k : Nat) (hc : c < 128) (hw : (s.drive c).closeW = false) :
    othersFollow c s (s.gateOn c k) :=
  othersFollow_iff.mpr ⟨s.gateOn_drivesFollow k hc hw, fun d _ => s.gateOn_queueOf c k d⟩

theorem gateOff_othersFollow (s : State) {c : Nat} (hc : c < 128) : othersFollow c s (s.gateOff c) :=
  othersFollow_iff.mpr ⟨s.gateOff_drivesFollow hc, fun d _ => s.gateOff_queueOf c d⟩

end Sys2Proof
end

section
/-! SUPPORT. The grants of tokens: who waits, what a granted request takes, and how a request runs out (R250 to R253). -/

namespace Sys2Proof.Machine

open Reg

theorem State.profOf_valve (s : State) {c : Nat} (hc : c < 128) : s.profOf c = s.get (VLV_CTRL_PROF c) :=
  if_neg (ne_ly hc)

/-- A list into which elements are put each at some place holds them alone. -/
theorem foldl_insert_subset {α : Type} (p : α → α → Bool) (l acc : List α) :
    ∀ x ∈ l.foldl (fun acc c => acc.takeWhile (p c) ++ c :: acc.dropWhile (p c)) acc, x ∈ acc ∨ x ∈ l := by
  induction l generalizing acc with
  | nil => exact fun x hx => .inl hx
  | cons c l ih =>
    intro x hx
    rcases ih _ x hx with hx | hx
    · rw [List.mem_append, List.mem_cons] at hx
      rcases hx with hx | rfl | hx
      · exact .inl ((List.takeWhile_prefix _).mem hx)
      · exact .inr List.mem_cons_self
      · exact .inl ((List.dropWhile_suffix _).mem hx)
    · exact .inr (.tail _ hx)

theorem State.lt_of_mem_waiting {s : State} {c : Nat} (h : c ∈ s.waiting) : c < s.nChans := by
  have hmem := foldl_insert_subset (fun c x => decide (s.deadline x ≤ s.deadline c)) _ _ c h
  rw [or_iff_right (List.not_mem_nil), List.mem_filter, List.mem_range] at hmem
  exact hmem.1

/-- The firing's record as its peak, or its hold, begins. -/
theorem State.gateOn_record (s : State) {c : Nat} (k : Nat) (hc : c < 128) (hw : (s.drive c).closeW = false) :
    ((s.gateOn c k).drive c).on = s.time ∧ ((s.gateOn c k).drive c).prof = s.profVals (s.get (VLV_CTRL_PROF c)) := by
  rw [s.gateOn_drive_self k hc hw, ← s.profOf_valve hc]
  exact ⟨rfl, rfl⟩

theorem State.tokenLate_waiting (s : State) {c : Nat} (h1 : s.get (VLV_STAT_STATE c) = 1) (hc : c < s.nChans) :
    s.tokenLate c = (s.advance (floor2 (s.deadline c))).atDeadline c :=
  if_pos ⟨(s.chState_valve (hc.trans_le s.nChans_le)).trans h1, hc⟩

theorem State.atDeadline_granted {s : State} {c : Nat} (h : s.grantable c = true) :
    s.atDeadline c = s.gateOn c (if s.boostReady then 2 else 3) := if_pos h

/-- The cause with which a request runs out: its close came, or no token, or no boost (R252, R253). -/
def State.lateCause (s : State) (c : Nat) (e : Entry) : Nat :=
  if e.fin ≤ (s.drive c).waitEnd then 6 else if s.boostReady = true then 1 else 2

theorem State.lateCause_lt (s : State) (c : Nat) (e : Entry) : s.lateCause c e < 16 := by
  unfold State.lateCause
  split
  · decide
  · split <;> decide

theorem State.atDeadline_dropped {s : State} {c : Nat} {e : Entry} (h : s.grantable c = false)
    (he : (s.queueOf c).find? (·.began) = some e) : s.atDeadline c = s.requestDropped c (s.lateCause c e) := by
  have hcur : s.current c = some e := he
  rw [State.atDeadline, if_neg (by rw [h]; decide), hcur, State.requestDropped, State.lateCause]
  simp only [Option.any_some, decide_eq_true_eq]

theorem State.deadline_of_current {s : State} {c : Nat} {e : Entry} (he : (s.queueOf c).find? (·.began) = some e) :
    s.deadline c = min (s.drive c).waitEnd e.fin := by
  have hcur : s.current c = some e := he
  rw [State.deadline, hcur]

end Sys2Proof.Machine

namespace Sys2Proof

open Sys2Proof.Machine Sys2Proof.Machine.Reg

/-- The state that a grant enters. -/
theorem gateOn_granted_chState (s u : State) {c : Nat} (hc : c < 128) (hw : (s.drive c).closeW = false) :
    (s.gateOn c (if u.boostReady then 2 else 3)).chState c = if u.boostReady = true then 2 else 3 := by
  rw [(s.gateOn_shown _ hc hw).1]
  split <;> rfl

theorem tokenGrant_grants {s : State} {c : Nat}
    (hf : s.waiting.find? (fun c => s.tokenFree c (s.inState 2).length (s.inState 3).length) = some c)
    (hw : (s.drive c).closeW = false) : ∃ t, exec .tokenGrant s = .next t ∧ c < s.nChans ∧
      t.chState c = (if s.boostReady = true then 2 else 3) ∧ (t.drive c).on = s.time ∧
      (t.drive c).prof = s.profVals (s.get (VLV_CTRL_PROF c)) ∧
      t.get (VLV_FIRECNT_COUNT c) = satAdd 31 (s.get (VLV_FIRECNT_COUNT c)) 1 % 2 ^ 31 ∧ othersFollow c s t ∧
      t = { s with regs := t.regs, valves := t.valves } ∧ regsBut (gateOnFlds c) s t := by
  have hlt := State.lt_of_mem_waiting (List.mem_of_find?_eq_some hf)
  have hc := hlt.trans_le s.nChans_le
  have hgrant : s.grantToken = s.gateOn c (if s.boostReady then 2 else 3) := by rw [State.grantToken, hf]
  obtain ⟨hon, hprof⟩ := s.gateOn_record (if s.boostReady then 2 else 3) hc hw
  obtain ⟨-, hcount, -⟩ := s.gateOn_shown (if s.boostReady then 2 else 3) hc hw
  exact ⟨_, congrArg ok hgrant, hlt, gateOn_granted_chState s s hc hw, hon, hprof, hcount, gateOn_othersFollow s _ hc hw,
    (s.gateOn_keeps_valve _ hc hw).frame, s.gateOn_regsBut _ hc hw⟩

theorem tokenDeadline_drops {s : State} {c : Nat} {e : Entry} (hlt : c < s.nChans) (h1 : s.get (VLV_STAT_STATE c) = 1)
    (he : (s.queueOf c).find? (·.began) = some e)
    (hno : (s.advance (floor2 (s.deadline c))).grantable c = false) : ∃ t, exec (.tokenDeadline c) s = .next t ∧
      t.chState c = 0 ∧ t.queueOf c = (s.queueOf c).filter (fun x => !x.began) ∧ dropped c (s.lateCause c e) s t ∧
      t.time = max s.time (floor2 (min (s.drive c).waitEnd e.fin)) ∧ othersFollow c s t ∧
      t = { s with regs := t.regs, evt := t.evt, mem := t.mem, time := t.time, sched := t.sched, valves := t.valves } ∧
      regsButEvt (firingFlds c ++ dropFlds c ++ followFlds c) s t := by
  have hc := hlt.trans_le s.nChans_le
  let u := s.advance (floor2 (s.deadline c))
  let k := s.lateCause c e
  have hlate : s.tokenLate c = u.requestDropped c k :=
    (s.tokenLate_waiting h1 hlt).trans (State.atDeadline_dropped (s := u) hno he)
  have hkeeps := u.requestDropped_keeps c k
  have hall : Keeps (foot 0x6000CC) s (u.requestDropped c k) := hkeeps.comp rfl ((s.advance_keeps _).comp rfl (.refl _ s))
  refine ⟨_, congrArg ok hlate, u.requestDropped_chState k hc, u.requestDropped_queueOf c k,
    u.requestDropped_dropped hc (s.lateCause_lt c e), ?_, requestDropped_othersFollow u k hc, hall.frame,
    u.requestDropped_butEvt k hc⟩
  rw [hkeeps.same.time rfl, ← State.deadline_of_current he]
  rfl

theorem tokenDeadline_grants {s : State} {c : Nat} (hlt : c < s.nChans) (h1 : s.get (VLV_STAT_STATE c) = 1)
    (hyes : (s.advance (floor2 (s.deadline c))).grantable c = true) (hw : (s.drive c).closeW = false) :
    ∃ t, exec (.tokenDeadline c) s = .next t ∧ t.chState c = (if s.boostReady = true then 2 else 3) ∧
      t.time = max s.time (floor2 (s.deadline c)) ∧ (t.drive c).on = t.time ∧
      (t.drive c).prof = s.profVals (s.get (VLV_CTRL_PROF c)) ∧ othersFollow c s t ∧
      t = { s with regs := t.regs, time := t.time, valves := t.valves } ∧ regsBut (gateOnFlds c) s t := by
  have hc := hlt.trans_le s.nChans_le
  let u := s.advance (floor2 (s.deadline c))
  have hlate : s.tokenLate c = u.gateOn c (if s.boostReady then 2 else 3) :=
    (s.tokenLate_waiting h1 hlt).trans (State.atDeadline_granted (s := u) hyes)
  have hkeeps := u.gateOn_keeps_valve (if s.boostReady then 2 else 3) hc hw
  obtain ⟨hon, hprof⟩ := u.gateOn_record (if s.boostReady then 2 else 3) hc hw
  have hall : Keeps (foot 0x40000C) s (u.gateOn c (if s.boostReady then 2 else 3)) :=
    hkeeps.comp rfl ((s.advance_keeps _).comp rfl (.refl _ s))
  have htime : (u.gateOn c (if s.boostReady then 2 else 3)).time = u.time := hkeeps.same.time rfl
  exact ⟨_, congrArg ok hlate, gateOn_granted_chState u s hc hw, htime, hon.trans htime.symm, hprof,
    gateOn_othersFollow u _ hc hw, hall.frame, u.gateOn_regsBut _ hc hw⟩

/-- Settles O33: each grant is a gate-on, and each request that runs out is a drop of one that waits. -/
theorem tokensAreGrantedInOrderAndRequestsRunOut : Obligations.TokensAreGrantedInOrderAndRequestsRunOut := by
  refine ⟨fun s c => tokenGrant_grants, fun s hf => ⟨s, ?_, rfl⟩, fun s c e => tokenDeadline_drops,
    fun s c => tokenDeadline_grants, fun s c hne hlt => ⟨s, ?_, rfl⟩⟩
  · have hnone : s.grantToken = s := by rw [State.grantToken, hf]
    exact congrArg ok hnone
  · have hidle : s.tokenLate c = s := if_neg fun h =>
      hne ((s.chState_valve (hlt.trans_le s.nChans_le)).symm.trans h.1)
    exact congrArg ok hidle

end Sys2Proof
end

section
/-! SUPPORT. Closes: the entry that joins, the firing that ends, and the coil that empties (R240, R243, R244, R252). -/

namespace Sys2Proof.Machine

open Reg

/-! ### What a drop's cause reads -/

/-- The enables, latches and the supply flag that the open of a firing asks for (R267). -/
abbrev causeFlds (c : Nat) : List Fld :=
  [ARB_CTRL_EN, VLV_CTRL_EN c, VBK_CTRL_EN (c / 8), VLV_STAT_CHFLT c, VBK_STAT_BKFLT (c / 8), PWR_STAT_VVALLOW]

theorem State.openCause_congr {s t : State} {c : Nat} (h : ∀ f ∈ causeFlds c, t.get f = s.get f) :
    t.openCause c = s.openCause c := by
  simp only [List.forall_mem_cons] at h
  obtain ⟨harb, hch, hbk, hcf, hbf, hlow, -⟩ := h
  simp only [State.openCause, State.driveOff, State.latched, State.flag, bankOf, harb, hch, hbk, hcf, hbf, hlow]
  rfl

theorem causeFlds_ne_queue (c : Nat) : ∀ f ∈ causeFlds c, ∀ g ∈ queueFlds c, f.key ≠ g.key := by
  simp only [List.forall_mem_cons, Fld.key, ARB_CTRL_EN, VLV_CTRL_EN, VBK_CTRL_EN, VLV_STAT_CHFLT, VBK_STAT_BKFLT,
    PWR_STAT_VVALLOW, VLV_STAT_QOCC, EJS_QOCC_MAX, EJS_QOCC_MAXCH]
  refine ⟨?_, ?_, ?_, ?_, ?_, ?_, List.forall_mem_nil _⟩ <;>
    refine ⟨?_, ?_, ?_, List.forall_mem_nil _⟩ <;> omega

theorem State.setQueue_openCause (s : State) (c : Nat) (q : List Entry) : (s.setQueue c q).openCause c = s.openCause c :=
  State.openCause_congr fun f hf => s.setQueue_regsBut c q f (causeFlds_ne_queue c f hf)

/-! ### The executing entry leaves -/

/-- The next entry is the same once the executing one is out. -/
theorem State.removeCurrent_next (s : State) (c : Nat) :
    (s.removeCurrent c).nextEntry c = (s.queueOf c).find? fun x => !x.began := by
  rw [State.nextEntry, s.removeCurrent_queueOf, List.find?_filter]
  exact congrArg (fun p => List.find? p _) (funext fun x => by simp only [and_self, Bool.decide_eq_true])

theorem State.removeCurrent_drive (s : State) (c d : Nat) : (s.removeCurrent c).drive d = s.drive d :=
  s.setQueue_drive c _ d

@[simp] theorem State.queueOf_set (s : State) (f : Fld) (v c : Nat) : (s.set f v).queueOf c = s.queueOf c := rfl

@[simp] theorem State.queueOf_setDrive (s : State) (c : Nat) (x : Drive) (d : Nat) :
    (s.setDrive c x).queueOf d = s.queueOf d := rfl

theorem State.startEntry_queueOf (s : State) (c : Nat) (e : Entry) : (s.startEntry c e).queueOf c =
    (s.queueOf c).map fun x => if x = e then { x with began := true } else x := s.queueOf_setQueue_self c _

/-- Where no entry executes, the next one begins to. -/
theorem State.startEntry_current {s : State} {c : Nat} {e : Entry} (hn : s.nextEntry c = some e)
    (hb : s.current c = none) : ((s.startEntry c e).queueOf c).find? (·.began) = some { e with began := true } := by
  rw [s.startEntry_queueOf]
  exact find_began_started hn hb

theorem State.loadOk_drive (s : State) (c : Nat) : (s.loadOk c).drive c = { s.drive c with loads := 0 } :=
  s.drive_setDrive_self c _

theorem State.removeCurrent_chState (s : State) {c : Nat} (hc : c < 128) : (s.removeCurrent c).chState c = s.chState c :=
  s.setQueue_chState _ hc

/-- The state of a channel with no movement source, as its firing ends. -/
theorem State.gateOff_unwatched (s : State) {c : Nat} (hc : c < 128) (h2 : 2 ≤ s.chState c)
    (ha : ¬(s.chState c = 5 ∧ (s.drive c).after = true)) (hm : s.get (VLV_MOVE_SRC c) = 0) :
    s.gateOff c = s.decayed c := by
  have hget : (s.decayed c).get (VLV_MOVE_SRC c) = s.get (VLV_MOVE_SRC c) := by
    refine s.decayed_regsBut hc _ (List.forall_mem_cons.mpr ⟨?_, fun g hg => ?_⟩)
    · simp only [Fld.key, VLV_MOVE_SRC, VLV_STAT_STATE]
      omega
    · have habove := followFlds_above c g hg
      have hbelow : (VLV_MOVE_SRC c).key < 32 * 0xA000 := by simp only [Fld.key, VLV_MOVE_SRC]; omega
      omega
  have hnone : (s.decayed c).moveSrc c = 0 := by rw [State.moveSrc, hget, hm]; rfl
  rw [s.gateOff_driven hc h2 ha, State.watchClose_none _ c hnone]

theorem State.gateOff_record (s : State) (c : Nat) :
    ((s.gateOff c).drive c).loads = (s.drive c).loads ∧ ((s.gateOff c).drive c).openW = (s.drive c).openW := by
  rw [s.gateOff_drive_self]
  exact ⟨rfl, rfl⟩

/-! ### Current zero -/

theorem State.coilEmpty_closed {s : State} {c : Nat} (h5 : s.chState c = 5) (ha : (s.drive c).after = true) :
    s.coilEmpty c = s.enter c 0 := if_pos ⟨h5, ha⟩

/-! ### The close -/

theorem State.closeFiring_eq {s : State} {c n : Nat} {e : Entry} (he : (s.queueOf c).find? (·.began) = some e)
    (hn : e.cls = some n) (hne : s.chState c ≠ 1) :
    s.closeFiring c = (s.advance (floor2 n)).closeAt c n := by
  have hcur : s.current c = some e := he
  have hbind : (s.current c).bind (·.cls) = some n := by rw [hcur]; exact hn
  have hadv : (s.advance (floor2 n)).current c = some e := he
  have hadvne : (s.advance (floor2 n)).chState c ≠ 1 := hne
  simp only [State.closeFiring, hbind, if_neg hadvne, hadv, Option.isSome_some, if_true]

theorem State.closeFiring_waiting {s : State} {c n : Nat} {e : Entry}
    (he : (s.queueOf c).find? (·.began) = some e) (hn : e.cls = some n) (h1 : s.chState c = 1)
    (hfin : e.fin ≤ (s.drive c).waitEnd) (hno : (s.advance (floor2 n)).grantable c = false) :
    s.closeFiring c = (s.advance (floor2 n)).requestDropped c 6 := by
  have hcur : s.current c = some e := he
  have hbind : (s.current c).bind (·.cls) = some n := by rw [hcur]; exact hn
  have hadv : (s.advance (floor2 n)).chState c = 1 := h1
  have hcause : (s.advance (floor2 n)).lateCause c e = 6 := if_pos hfin
  have hdrop := State.atDeadline_dropped hno (s := s.advance (floor2 n)) (c := c) he
  rw [hcause] at hdrop
  have hgone : ((s.advance (floor2 n)).requestDropped c 6).current c = none := by
    rw [State.current, State.requestDropped_queueOf, List.find?_eq_none]
    intro x hx
    simpa using (List.mem_filter.mp hx).2
  simp only [State.closeFiring, hbind, hadv, if_true, hdrop, hgone, Option.isSome_none, Bool.false_eq_true, if_false]

/-- An entry that opens as the executing one closes, and that nothing drops, goes on with its firing (R244). -/
theorem State.closeAt_joined {s : State} {c n : Nat} {f : Entry} (hc : c < 128)
    (hf : (s.queueOf c).find? (fun x => !x.began) = some f) (hopn : f.opn = n) (h2 : 2 ≤ s.chState c)
    (h4 : s.chState c ≤ 4) (ho : s.openCause c = none) (hl : s.get (VLV_STAT_CLIMIT c) = 0) :
    s.closeAt c n = (((s.removeCurrent c).startEntry c f).bump (VLV_FIRECNT_COUNT c)) := by
  have hlimit : (s.removeCurrent c).get (VLV_STAT_CLIMIT c) = 0 := by
    rw [← hl]
    refine s.setQueue_regsBut c _ _ ?_
    simp only [List.forall_mem_cons, Fld.key, VLV_STAT_CLIMIT, VLV_STAT_QOCC, EJS_QOCC_MAX, EJS_QOCC_MAXCH]
    refine ⟨?_, ?_, ?_, List.forall_mem_nil _⟩ <;> omega
  have hjoins : (s.removeCurrent c).joins c n f = true := by
    have hstate := s.removeCurrent_chState hc
    have hcause : (s.removeCurrent c).openCause c = none := (s.setQueue_openCause c _).trans ho
    rw [State.joins, State.flag, hlimit, hstate, hcause, hopn]
    simp only [Bool.and_eq_true, decide_eq_true_eq]
    exact ⟨⟨trivial, by omega, fun h => by omega, trivial⟩, by decide⟩
  have hnext : (s.removeCurrent c).nextEntry c = some f := (s.removeCurrent_next c).trans hf
  simp only [State.closeAt, hnext, hjoins, if_true]

/-- Without an entry that joins, the firing ends. -/
theorem State.closeAt_ended {s : State} {c : Nat} (n : Nat) (hf : (s.queueOf c).find? (fun x => !x.began) = none) :
    s.closeAt c n = ((s.removeCurrent c).loadOk c).gateOff c := by
  have hnext : (s.removeCurrent c).nextEntry c = none := (s.removeCurrent_next c).trans hf
  simp only [State.closeAt, hnext]

end Sys2Proof.Machine

namespace Sys2Proof

open Sys2Proof.Machine Sys2Proof.Machine.Reg

theorem advance_othersKeep (s : State) (n c : Nat) : othersKeep c s (s.advance n) := othersKeep_of_parts c rfl rfl

theorem set_othersKeep (s : State) (f : Fld) (v c : Nat) : othersKeep c s (s.set f v) := othersKeep_of_parts c rfl rfl

theorem firingClose_drops {s : State} {c n : Nat} {e : Entry} (hlt : c < s.nChans)
    (he : (s.queueOf c).find? (·.began) = some e) (hn : e.cls = some n) (h1 : s.get (VLV_STAT_STATE c) = 1)
    (hfin : e.fin ≤ (s.drive c).waitEnd) (hno : (s.advance (floor2 n)).grantable c = false) :
    ∃ t, exec (.firingClose c) s = .next t ∧ t.chState c = 0 ∧ t.queueOf c = (s.queueOf c).filter (fun x => !x.began) ∧
      dropped c 6 s t ∧ t.time = max s.time (floor2 n) ∧ othersFollow c s t ∧
      t = { s with regs := t.regs, evt := t.evt, mem := t.mem, time := t.time, sched := t.sched, valves := t.valves } ∧
      regsButEvt (firingFlds c ++ dropFlds c ++ followFlds c) s t := by
  have hc := hlt.trans_le s.nChans_le
  let u := s.advance (floor2 n)
  have hkeeps := u.requestDropped_keeps c 6
  have hall : Keeps (foot 0x6000CC) s (u.requestDropped c 6) := hkeeps.comp rfl ((s.advance_keeps _).comp rfl (.refl _ s))
  exact ⟨_, congrArg ok (State.closeFiring_waiting he hn ((s.chState_valve hc).trans h1) hfin hno),
    u.requestDropped_chState 6 hc, u.requestDropped_queueOf c 6, u.requestDropped_dropped hc (by decide),
    hkeeps.same.time rfl, requestDropped_othersFollow u 6 hc, hall.frame, u.requestDropped_butEvt 6 hc⟩

theorem firingClose_joins {s : State} {c n : Nat} {e f : Entry} (hlt : c < s.nChans)
    (he : (s.queueOf c).find? (·.began) = some e) (hn : e.cls = some n)
    (hf : (s.queueOf c).find? (fun x => !x.began) = some f) (hopn : f.opn = n) (h2 : 2 ≤ s.get (VLV_STAT_STATE c))
    (h4 : s.get (VLV_STAT_STATE c) ≤ 4) (ho : s.openCause c = none) (hl : s.get (VLV_STAT_CLIMIT c) = 0) :
    ∃ t, exec (.firingClose c) s = .next t ∧ t.chState c = s.chState c ∧
      (t.queueOf c).find? (·.began) = some { f with began := true } ∧
      t.get (VLV_FIRECNT_COUNT c) = satAdd 31 (s.get (VLV_FIRECNT_COUNT c)) 1 % 2 ^ 31 ∧
      (t.drive c).on = (s.drive c).on ∧ othersKeep c s t ∧
      t = { s with regs := t.regs, time := t.time, sched := t.sched, valves := t.valves } ∧
      regsBut (VLV_FIRECNT_COUNT c :: queueFlds c) s t := by
  have hc := hlt.trans_le s.nChans_le
  let u := s.advance (floor2 n)
  let v := (u.removeCurrent c).startEntry c f
  rw [← s.chState_valve hc] at h2 h4
  have hne : s.chState c ≠ 1 := by omega
  have hclose : s.closeFiring c = v.bump (VLV_FIRECNT_COUNT c) :=
    (State.closeFiring_eq he hn hne).trans (State.closeAt_joined (s := u) hc hf hopn h2 h4 ho hl)
  have hqueues : regsBut (queueFlds c) s v := (u.setQueue_regsBut c _).trans (State.setQueue_regsBut _ c _)
  have hcount : v.get (VLV_FIRECNT_COUNT c) = s.get (VLV_FIRECNT_COUNT c) := by
    refine hqueues _ ?_
    simp only [List.forall_mem_cons, Fld.key, VLV_FIRECNT_COUNT, VLV_STAT_QOCC, EJS_QOCC_MAX, EJS_QOCC_MAXCH]
    refine ⟨?_, ?_, ?_, List.forall_mem_nil _⟩ <;> omega
  have hstate : (v.bump (VLV_FIRECNT_COUNT c)).chState c = v.chState c := by
    rw [State.chState_valve _ hc, State.chState_valve _ hc, State.bump_eq]
    refine State.get_set_ne _ _ _ _ ?_
    simp only [Fld.key, VLV_STAT_STATE, VLV_FIRECNT_COUNT]
    omega
  have hqueue : (v.bump (VLV_FIRECNT_COUNT c)).queueOf c = v.queueOf c := v.queueOf_set _ _ c
  have hsome : (u.removeCurrent c).nextEntry c = some f := (u.removeCurrent_next c).trans hf
  have hkeeps : Keeps (foot 0x60000C) s (v.bump (VLV_FIRECNT_COUNT c)) :=
    Keeps.set ((State.setQueue_keeps _ c _).comp rfl ((State.setQueue_keeps u c _).comp rfl
      ((s.advance_keeps _).comp rfl (.refl _ s)))) (.fam (VLV_FIRECNT_COUNT_cls c) rfl)
  have hothers : othersKeep c u v := (setQueue_othersKeep u c _).trans (setQueue_othersKeep _ c _)
  have hdrive : v.drive c = s.drive c := (State.setQueue_drive _ c _ c).trans (u.removeCurrent_drive c c)
  have hon : ((v.bump (VLV_FIRECNT_COUNT c)).drive c).on = (s.drive c).on :=
    congrArg Drive.on ((State.drive_set v _ _ c).trans hdrive)
  refine ⟨_, congrArg ok hclose, ?_, ?_, ?_, hon, ?_, hkeeps.frame, ?_⟩
  · exact hstate.trans ((State.setQueue_chState _ _ hc).trans (u.removeCurrent_chState hc))
  · rw [hqueue]
    exact State.startEntry_current hsome (u.removeCurrent_current c)
  · rw [State.bump_eq, State.get_set, hcount]
    rfl
  · exact ((advance_othersKeep s _ c).trans hothers).trans (set_othersKeep v _ _ c)
  · exact (hqueues.mono fun g hg => .tail _ hg).set List.mem_cons_self

theorem firingClose_ends {s : State} {c n : Nat} {e : Entry} (hlt : c < s.nChans)
    (he : (s.queueOf c).find? (·.began) = some e) (hn : e.cls = some n)
    (hf : (s.queueOf c).find? (fun x => !x.began) = none) (h2 : 2 ≤ s.get (VLV_STAT_STATE c))
    (ha : ¬(s.get (VLV_STAT_STATE c) = 5 ∧ (s.drive c).after = true)) (hm : s.get (VLV_MOVE_SRC c) = 0) :
    ∃ t, exec (.firingClose c) s = .next t ∧ t.chState c = 5 ∧ (t.drive c).after = true ∧
      (t.drive c).off = max s.time (floor2 n) ∧ (t.drive c).loads = 0 ∧ (t.drive c).openW = (s.drive c).openW ∧
      (t.queueOf c).any (·.began) = false ∧ othersFollow c s t ∧
      t = { s with regs := t.regs, time := t.time, sched := t.sched, valves := t.valves } ∧
      regsBut (firingFlds c ++ followFlds c) s t := by
  have hc := hlt.trans_le s.nChans_le
  let u := s.advance (floor2 n)
  let v := (u.removeCurrent c).loadOk c
  rw [← s.chState_valve hc] at h2 ha
  have hne : s.chState c ≠ 1 := by omega
  have hstate : v.chState c = s.chState c := u.removeCurrent_chState hc
  have hdrive : v.drive c = { s.drive c with loads := 0 } := by
    rw [State.loadOk_drive, u.removeCurrent_drive]
    rfl
  have hqueue : regsBut (queueFlds c) s v := u.setQueue_regsBut c _
  have hsrc : v.get (VLV_MOVE_SRC c) = 0 := by
    rw [← hm]
    refine hqueue _ ?_
    simp only [List.forall_mem_cons, Fld.key, VLV_MOVE_SRC, VLV_STAT_QOCC, EJS_QOCC_MAX, EJS_QOCC_MAXCH]
    refine ⟨?_, ?_, ?_, List.forall_mem_nil _⟩ <;> omega
  have hva : ¬(v.chState c = 5 ∧ (v.drive c).after = true) := by rw [hstate, hdrive]; exact ha
  have hv2 : 2 ≤ v.chState c := by rw [hstate]; exact h2
  have hclose : s.closeFiring c = v.gateOff c := (State.closeFiring_eq he hn hne).trans (u.closeAt_ended n hf)
  obtain ⟨h5, hafter, hoff⟩ := v.gateOff_decays hc hv2 hva
  obtain ⟨hloads, hopenW⟩ := v.gateOff_record c
  rw [hdrive] at hloads hopenW
  have hv : Keeps (foot 0x60000C) s v := (State.setDrive_keeps _ c _).comp rfl
    ((State.setQueue_keeps u c _).comp rfl ((s.advance_keeps _).comp rfl (.refl _ s)))
  have hkeeps : Keeps (foot 0x60000C) s (v.gateOff c) := (v.gateOff_keeps c).comp rfl hv
  refine ⟨_, congrArg ok hclose, h5, hafter, ?_, hloads, hopenW, ?_, ?_,
    hkeeps.frame, ?_⟩
  · rw [hoff]
    exact (State.setQueue_keeps u c _).same.time rfl
  · rw [v.gateOff_queueOf]
    exact (congrArg (fun q => List.any q _) (u.removeCurrent_queueOf c)).trans (any_began_filter _)
  · exact ((setQueue_othersKeep u c _).trans (setDrive_othersKeep _ c _)).follow.trans (gateOff_othersFollow v hc)
  · rw [v.gateOff_unwatched hc hv2 hva hsrc]
    refine (hqueue.mono fun g hg => List.mem_append_left _ (.tail _ hg)).trans
      ((v.decayed_regsBut hc).mono fun g hg => ?_)
    rcases List.mem_cons.mp hg with rfl | hg
    · exact List.mem_cons_self
    · exact List.mem_append_right _ hg

theorem currentZero_closed {s : State} {c : Nat} (hlt : c < s.nChans) (h5 : s.get (VLV_STAT_STATE c) = 5)
    (ha : (s.drive c).after = true) : ∃ t, exec (.currentZero c) s = .next t ∧ t.chState c = 0 ∧ othersFollow c s t ∧
      t = { s with regs := t.regs, valves := t.valves } ∧ regsBut (VLV_STAT_STATE c :: followFlds c) s t := by
  have hc := hlt.trans_le s.nChans_le
  exact ⟨_, congrArg ok (State.coilEmpty_closed ((s.chState_valve hc).trans h5) ha), s.enter_chState 0 hc,
    enter_othersFollow s 0 hc, (s.enter_keeps c 0).frame, s.enter_regsBut 0 hc⟩

/-- Entering a state writes LY's state alone. -/
theorem enter_ly_regsBut (s : State) (k : Nat) : regsBut [ARB_LYSTAT_STATE] s (s.enter 128 k) :=
  ((regsBut.refl _ s).set List.mem_cons_self).of_regs_eq (s.enter_ly_regs k)

theorem enter_ly_state (s : State) {k : Nat} (hk : k < 8) : (s.enter 128 k).get ARB_LYSTAT_STATE = k := by
  rw [State.get, s.enter_ly_regs]
  exact (State.get_set s ARB_LYSTAT_STATE k).trans (Nat.mod_eq_of_lt hk)

theorem currentZero_ly {s : State} (h5 : s.get ARB_LYSTAT_STATE = 5) (ha : (s.drive 128).after = true) :
    ∃ t, exec (.currentZero 128) s = .next t ∧ t.get ARB_LYSTAT_STATE = 0 ∧ othersKeep 128 s t ∧
      t = { s with regs := t.regs, valves := t.valves } ∧ regsBut [ARB_LYSTAT_STATE] s t :=
  ⟨_, congrArg ok (State.coilEmpty_closed (c := 128) h5 ha), enter_ly_state s (by decide), enter_ly_othersKeep s 0,
    (s.enter_keeps 128 0).frame, enter_ly_regsBut s 0⟩

/-- Settles O35, by the three ways that a close can end: a drop of a waiting request, a joined entry, a gate-off. -/
theorem firingsCloseChainAndDecay : Obligations.FiringsCloseChainAndDecay := by
  refine ⟨fun s c n e => firingClose_drops, fun s c n e f => firingClose_joins, fun s c n e => firingClose_ends,
    fun s c hnone => ⟨s, ?_, rfl⟩, fun s c => currentZero_closed, fun s => currentZero_ly,
    fun s c hlt hopen => ⟨s, ?_, rfl⟩⟩
  · have hbind : (s.current c).bind (·.cls) = none := by
      rw [Option.bind_eq_none_iff]
      intro e he
      have hcur : (s.queueOf c).find? (·.began) = some e := he
      rw [hcur] at hnone
      simpa using hnone
    have hclose : s.closeFiring c = s := by rw [State.closeFiring, hbind]
    exact congrArg ok hclose
  · have hempty : s.coilEmpty c = s := if_neg fun h => by
      rw [State.chState_valve _ (hlt.trans_le s.nChans_le)] at h
      rcases hopen with h5 | ha
      · exact h5 h.1
      · rw [ha] at h
        exact absurd h.2 (by decide)
    exact congrArg ok hempty

end Sys2Proof
end

section
/-! SUPPORT. The open of a firing: its entry is dropped, stays closed, holds, or waits for a token (R240, R245, R251, R252,
R264, R267). -/

namespace Sys2Proof.Machine

open Reg

/-! ### The read of an entry without an error -/

theorem State.entryRead_good {s : State} (h : s.mem.errs = []) (c : Nat) (e : Entry) : s.entryRead c e = (s, false) := by
  have hnone : s.entryErrs c e = [] := by
    rw [State.entryErrs, State.errWords, h]
    rfl
  rw [State.entryRead, hnone]
  rfl

theorem peak_above (p : Nat) : 32 * 0xA800 ≤ (ARB_PROF_PEAK_IPEAK p).key := by
  simp only [Fld.key, ARB_PROF_PEAK_IPEAK]
  omega

/-- The open of `e` arrives at channel `c`: `c` executes nothing, its memory has no error, and it watches no closing. -/
structure Opens (s : State) (c : Nat) (e : Entry) : Prop where
  next : s.nextEntry c = some e
  idle : s.current c = none
  lt : c < s.nChans
  good : s.mem.errs = []
  unwatched : (s.drive c).closeW = false

/-- The tick of an entry's open. -/
abbrev State.atOpen (s : State) (e : Entry) : State := s.advance (floor2 e.opn)

section
variable {s : State} {c : Nat} {e : Entry} (h : Opens s c e)
include h

theorem Opens.chan : c < 128 := h.lt.trans_le s.nChans_le

theorem Opens.tick_read : (s.atOpen e).entryRead c e = (s.atOpen e, false) := State.entryRead_good (s := s.atOpen e) h.good c e

theorem Opens.tick_unwatched : ((s.atOpen e).drive c).closeW = false := h.unwatched

theorem Opens.dropped {k : Nat} (hk : s.openCause c = some k) :
    s.openFiring c = ((s.atOpen e).dropEntry c e).driveDrop c k := by
  have hcause : (s.atOpen e).openCause c = some k := hk
  simp only [State.openFiring, h.next, h.idle, h.tick_unwatched, h.tick_read, hcause, Option.isSome_none, Bool.false_eq_true, or_false,
    if_neg (Nat.not_le.mpr h.lt), if_false]

theorem Opens.limited (ho : s.openCause c = none) (hl : s.get (VLV_STAT_CLIMIT c) = 1) (hb : e.blindF = false) :
    s.openFiring c = ((s.atOpen e).dropEntry c e).shiftOrDrop c e true := by
  have hcause : (s.atOpen e).openCause c = none := ho
  have hlim : (s.atOpen e).flag (VLV_STAT_CLIMIT c) = true := beq_iff_eq.mpr hl
  simp only [State.openFiring, h.next, h.idle, h.tick_unwatched, h.tick_read, hcause, hlim, hb, Option.isSome_none, Bool.false_eq_true,
    or_false, if_neg (Nat.not_le.mpr h.lt), if_false, if_true]

theorem Opens.blind (ho : s.openCause c = none) (hl : s.get (VLV_STAT_CLIMIT c) = 1) (hb : e.blindF = true) :
    s.openFiring c = ((s.atOpen e).startEntry c e).setDrive c { s.drive c with held := true } := by
  have hcause : (s.atOpen e).openCause c = none := ho
  have hlim : (s.atOpen e).flag (VLV_STAT_CLIMIT c) = true := beq_iff_eq.mpr hl
  simp only [State.openFiring, h.next, h.idle, h.tick_unwatched, h.tick_read, hcause, hlim, hb, Option.isSome_none, Bool.false_eq_true,
    or_false, if_neg (Nat.not_le.mpr h.lt), if_false, if_true]
  rw [← h.unwatched]
  rfl

omit h in
/-- What the queue of an entry that starts leaves: the rest of the channel's and the arbiter's registers. -/
theorem State.atOpen_started_get (s : State) (c : Nat) (e : Entry) {f : Fld} (hf : 32 * 0xA800 ≤ f.key) : ((s.atOpen e).startEntry c e).get f = s.get f := by
  refine State.setQueue_regsBut (s.atOpen e) c _ f ?_
  simp only [List.forall_mem_cons, Fld.key, VLV_STAT_QOCC, EJS_QOCC_MAX, EJS_QOCC_MAXCH] at hf ⊢
  refine ⟨?_, ?_, ?_, List.forall_mem_nil _⟩ <;> omega

theorem Opens.started_profOf : ((s.atOpen e).startEntry c e).profOf c = s.get (VLV_CTRL_PROF c) := by
  rw [State.profOf_valve _ h.chan]
  refine State.setQueue_regsBut (s.atOpen e) c _ _ ?_
  simp only [List.forall_mem_cons, Fld.key, VLV_CTRL_PROF, VLV_STAT_QOCC, EJS_QOCC_MAX, EJS_QOCC_MAXCH]
  refine ⟨?_, ?_, ?_, List.forall_mem_nil _⟩ <;> omega

theorem Opens.started_current :
    (((s.atOpen e).startEntry c e).queueOf c).find? (·.began) = some { e with began := true } :=
  State.startEntry_current (s := s.atOpen e) h.next h.idle

theorem Opens.holds (ho : s.openCause c = none) (hl : s.get (VLV_STAT_CLIMIT c) ≠ 1)
    (hp : s.get (ARB_PROF_PEAK_IPEAK (s.get (VLV_CTRL_PROF c))) = 0) :
    s.openFiring c = ((s.atOpen e).startEntry c e).gateOn c 4 := by
  have hcause : (s.atOpen e).openCause c = none := ho
  have hlim : (s.atOpen e).flag (VLV_STAT_CLIMIT c) = false := beq_eq_false_iff_ne.mpr hl
  have hpeak : ((s.atOpen e).startEntry c e).get (ARB_PROF_PEAK_IPEAK (((s.atOpen e).startEntry c e).profOf c)) = 0 := by
    rw [h.started_profOf, s.atOpen_started_get c e (peak_above _), hp]
  simp only [State.openFiring, h.next, h.idle, h.tick_unwatched, h.tick_read, hcause, hlim, hpeak, Option.isSome_none, Bool.false_eq_true,
    or_false, if_neg (Nat.not_le.mpr h.lt), if_false, if_true]

/-- A channel's record as its request begins to wait. -/
def State.waitingFor (s : State) (c w : Nat) : Drive := { s.drive c with waitEnd := s.time + 1000 * w }

theorem Opens.waits (ho : s.openCause c = none) (hl : s.get (VLV_STAT_CLIMIT c) ≠ 1)
    (hp : s.get (ARB_PROF_PEAK_IPEAK (s.get (VLV_CTRL_PROF c))) ≠ 0) (hu : s.get ARB_WAIT_US ≠ 0) :
    s.openFiring c = (((s.atOpen e).startEntry c e).setDrive c
      (((s.atOpen e).startEntry c e).waitingFor c (s.get ARB_WAIT_US))).enter c 1 := by
  have hcause : (s.atOpen e).openCause c = none := ho
  have hlim : (s.atOpen e).flag (VLV_STAT_CLIMIT c) = false := beq_eq_false_iff_ne.mpr hl
  have hpeak : ((s.atOpen e).startEntry c e).get (ARB_PROF_PEAK_IPEAK (((s.atOpen e).startEntry c e).profOf c)) ≠ 0 := by
    rw [h.started_profOf, s.atOpen_started_get c e (peak_above _)]
    exact hp
  have hwait : ((s.atOpen e).startEntry c e).get ARB_WAIT_US = s.get ARB_WAIT_US := s.atOpen_started_get c e (by decide)
  simp only [State.openFiring, h.next, h.idle, h.tick_unwatched, h.tick_read, hcause, hlim, if_neg hpeak, hwait, hu, Option.isSome_none,
    Bool.false_eq_true, or_false, if_neg (Nat.not_le.mpr h.lt), if_false, false_and]
  rfl

end

end Sys2Proof.Machine

namespace Sys2Proof.Machine

open Reg

/-! ### What each kind of open leaves -/

theorem queueFlds_above (c : Nat) : ∀ g ∈ queueFlds c, 32 * 0x1000 ≤ g.key := fun g hg =>
  firingFlds_above c g (.tail _ hg)

/-- An entry leaves the queue and its firing is dropped. -/
theorem State.droppedEntry_dropped (s : State) (c : Nat) {k : Nat} (q : List Entry) (hk : k < 16) :
    dropped c k s ((s.setQueue c q).driveDrop c k) :=
  dropped_since (State.driveDrop_dropped _ c hk)
    ((s.setQueue_regsBut c q).calm (queueFlds_above c) (s.setQueue_keeps c q).fuses)
    fun f hf g hg => dropFlds_ne_firing c f hf g (List.mem_append_left _ (.tail _ hg))

theorem State.droppedEntry_butEvt (s : State) (c k : Nat) (q : List Entry) :
    regsButEvt (queueFlds c ++ dropFlds c) s ((s.setQueue c q).driveDrop c k) := by
  have habove : ∀ g ∈ queueFlds c ++ dropFlds c, 32 * 0x1000 ≤ g.key :=
    List.forall_mem_append.mpr ⟨queueFlds_above c, dropFlds_above c⟩
  have hqueue := (s.setQueue_regsBut c q).calm (queueFlds_above c) (s.setQueue_keeps c q).fuses
  exact ((hqueue.mono (fun f hf => List.mem_append_left _ hf) habove).trans
    ((State.driveDrop_calm _ c k).mono (fun f hf => List.mem_append_right _ hf) habove)).butEvt

theorem State.openCause_lt {s : State} {c k : Nat} (h : s.openCause c = some k) : k < 16 := by
  unfold State.openCause at h
  split at h
  · cases h; decide
  · split at h
    · cases h; decide
    · split at h
      · cases h; decide
      · cases h

/-- The fields of a profile that a firing takes (R245). -/
def profFlds (p : Nat) : List Fld := [ARB_PROF_PEAK_IPEAK p, ARB_PROF_PEAK_TPMAX p, ARB_PROF_PEAK_FALLBACK p,
  ARB_PROF_HOLD_IHOLD p, ARB_PROF_HOLD_FCHOP p, ARB_PROF_TIME_FBTPMAX p, ARB_PROF_WIN_OWSTART p, ARB_PROF_WIN_OWEND p,
  ARB_PROF_WIN_CWSTART p, ARB_PROF_WIN_CWEND p, ARB_PROF_COIL_R20 p, ARB_PROF_COIL_RTH p, ARB_PROF_COIL_TAUTH p]

theorem State.profVals_eq (s : State) (p : Nat) : s.profVals p = (profFlds p).map s.get := rfl

theorem profFlds_range (p : Nat) : ∀ f ∈ profFlds p, 32 * 0xA900 ≤ f.key ∧ f.key < 32 * 0xAA00 := by
  simp only [profFlds, List.forall_mem_cons, Fld.key, ARB_PROF_PEAK_IPEAK, ARB_PROF_PEAK_TPMAX, ARB_PROF_PEAK_FALLBACK,
    ARB_PROF_HOLD_IHOLD, ARB_PROF_HOLD_FCHOP, ARB_PROF_TIME_FBTPMAX, ARB_PROF_WIN_OWSTART, ARB_PROF_WIN_OWEND,
    ARB_PROF_WIN_CWSTART, ARB_PROF_WIN_CWEND, ARB_PROF_COIL_R20, ARB_PROF_COIL_RTH, ARB_PROF_COIL_TAUTH]
  refine ⟨?_, ?_, ?_, ?_, ?_, ?_, ?_, ?_, ?_, ?_, ?_, ?_, ?_, List.forall_mem_nil _⟩ <;> omega

theorem State.profVals_congr {s t : State} {p : Nat} (h : ∀ f ∈ profFlds p, t.get f = s.get f) :
    t.profVals p = s.profVals p := List.map_congr_left h

end Sys2Proof.Machine

namespace Sys2Proof

open Sys2Proof.Machine Sys2Proof.Machine.Reg

theorem droppedEntry_othersKeep (s : State) (c k : Nat) (q : List Entry) :
    othersKeep c s ((s.setQueue c q).driveDrop c k) :=
  (setQueue_othersKeep s c q).trans (driveDrop_othersKeep _ c k)

/-- An open that drops its firing. -/
theorem firingOpen_drops {s : State} {c k : Nat} {e : Entry} (h : Opens s c e) (hk : k < 16)
    (hopen : s.openFiring c = ((s.atOpen e).dropEntry c e).driveDrop c k) :
    ∃ t, exec (.firingOpen c) s = .next t ∧ dropped c k s t ∧ t.queueOf c = (s.queueOf c).filter (· != e) ∧
      t.chState c = s.chState c ∧ t.time = max s.time (floor2 e.opn) ∧ othersKeep c s t ∧
      t = { s with regs := t.regs, evt := t.evt, mem := t.mem, time := t.time, sched := t.sched } ∧
      regsButEvt (queueFlds c ++ dropFlds c) s t := by
  let u := s.atOpen e
  let q := (s.queueOf c).filter (· != e)
  have hdrop := (u.setQueue c q).driveDrop_keeps c k
  have hqueue := u.setQueue_keeps c q
  have hkeeps : Keeps (foot 0x2000CC) s ((u.setQueue c q).driveDrop c k) :=
    hdrop.comp rfl (hqueue.comp rfl ((s.advance_keeps _).comp rfl (.refl _ s)))
  refine ⟨_, congrArg ok hopen, u.droppedEntry_dropped c q hk, ?_, ?_, ?_, ?_, hkeeps.frame, u.droppedEntry_butEvt c k q⟩
  · exact (State.queueOf_congr (hdrop.same.sched rfl) c).trans (u.queueOf_setQueue_self c q)
  · exact (State.driveDrop_chState _ c k h.chan).trans (u.setQueue_chState q h.chan)
  · exact (hdrop.same.time rfl).trans (hqueue.same.time rfl)
  · exact (advance_othersKeep s _ c).trans (droppedEntry_othersKeep u c k q)

theorem firingOpen_blind {s : State} {c : Nat} {e : Entry} (h : Opens s c e) (ho : s.openCause c = none)
    (hl : s.get (VLV_STAT_CLIMIT c) = 1) (hb : e.blindF = true) :
    ∃ t, exec (.firingOpen c) s = .next t ∧ (t.drive c).held = true ∧ t.chState c = s.chState c ∧
      (t.queueOf c).any (·.began) = true ∧ othersKeep c s t ∧
      t = { s with regs := t.regs, time := t.time, sched := t.sched, valves := t.valves } ∧
      regsBut (queueFlds c) s t := by
  let v := (s.atOpen e).startEntry c e
  have hkeeps : Keeps (foot 0x60000C) s (v.setDrive c { s.drive c with held := true }) :=
    (v.setDrive_keeps c _).comp rfl ((State.setQueue_keeps _ c _).comp rfl ((s.advance_keeps _).comp rfl (.refl _ s)))
  have hregs : regsBut (queueFlds c) s v := State.setQueue_regsBut (s.atOpen e) c _
  refine ⟨_, congrArg ok (h.blind ho hl hb), ?_, State.setQueue_chState (s.atOpen e) _ h.chan, ?_, ?_, hkeeps.frame, hregs⟩
  · rw [State.drive_setDrive_self]
  · rw [State.queueOf_setDrive, List.any_eq_true]
    exact ⟨_, List.mem_of_find?_eq_some h.started_current, rfl⟩
  · exact ((advance_othersKeep s _ c).trans (setQueue_othersKeep _ c _)).trans (setDrive_othersKeep v c _)

theorem firingOpen_holds {s : State} {c : Nat} {e : Entry} (h : Opens s c e) (ho : s.openCause c = none)
    (hl : s.get (VLV_STAT_CLIMIT c) ≠ 1) (hp : s.get (ARB_PROF_PEAK_IPEAK (s.get (VLV_CTRL_PROF c))) = 0) :
    ∃ t, exec (.firingOpen c) s = .next t ∧ t.chState c = 4 ∧
      (t.queueOf c).find? (·.began) = some { e with began := true } ∧ (t.drive c).on = max s.time (floor2 e.opn) ∧
      (t.drive c).prof = s.profVals (s.get (VLV_CTRL_PROF c)) ∧
      t.get (VLV_FIRECNT_COUNT c) = satAdd 31 (s.get (VLV_FIRECNT_COUNT c)) 1 % 2 ^ 31 ∧
      t.get (VLV_LASTON_LO_STAMP c) = max s.time (floor2 e.opn) % 2 ^ 32 ∧ othersFollow c s t ∧
      t = { s with regs := t.regs, time := t.time, sched := t.sched, valves := t.valves } ∧
      regsBut ([VLV_STAT_STATE c, VLV_STAT_QOCC c, EJS_QOCC_MAX, EJS_QOCC_MAXCH, VLV_FIRECNT_COUNT c,
        VLV_LASTON_LO_STAMP c, VLV_LASTON_HI_STAMP c] ++ followFlds c) s t := by
  let u := s.atOpen e
  let v := u.startEntry c e
  have hqueue := u.setQueue_keeps c ((u.queueOf c).map fun x => if x = e then { x with began := true } else x)
  have hregs : regsBut (queueFlds c) s v := State.setQueue_regsBut u c _
  have hw : (v.drive c).closeW = false := (congrArg Drive.closeW (State.setQueue_drive u c _ c)).trans h.tick_unwatched
  have htime : v.time = max s.time (floor2 e.opn) := hqueue.same.time rfl
  obtain ⟨h4, hcount, hstamp⟩ := v.gateOn_shown 4 h.chan hw
  rw [htime] at hstamp
  have hself := v.gateOn_drive_self 4 h.chan hw
  have hfire : v.get (VLV_FIRECNT_COUNT c) = s.get (VLV_FIRECNT_COUNT c) := by
    refine hregs _ ?_
    simp only [List.forall_mem_cons, Fld.key, VLV_FIRECNT_COUNT, VLV_STAT_QOCC, EJS_QOCC_MAX, EJS_QOCC_MAXCH]
    refine ⟨?_, ?_, ?_, List.forall_mem_nil _⟩ <;> omega
  rw [hfire] at hcount
  have hprof : v.profVals (v.profOf c) = s.profVals (s.get (VLV_CTRL_PROF c)) := by
    rw [h.started_profOf]
    exact State.profVals_congr fun f hf => s.atOpen_started_get c e (le_trans (by decide) (profFlds_range _ f hf).1)
  have hkeeps : Keeps (foot 0x60000C) s (v.gateOn c 4) := (v.gateOn_keeps_valve 4 h.chan hw).comp rfl
    (hqueue.comp rfl ((s.advance_keeps _).comp rfl (.refl _ s)))
  refine ⟨_, congrArg ok (h.holds ho hl hp), h4, ?_, ?_, ?_, hcount, hstamp, ?_, hkeeps.frame, ?_⟩
  · rw [v.gateOn_queueOf]
    exact h.started_current
  · rw [hself]
    exact htime
  · rw [hself]
    exact hprof
  · exact ((advance_othersKeep s _ c).trans (setQueue_othersKeep u c _)).follow.trans (gateOn_othersFollow v 4 h.chan hw)
  · refine (hregs.mono fun g hg => List.mem_append_left _ ?_).trans ((v.gateOn_regsBut 4 h.chan hw).mono fun g hg => ?_)
    · simp only [List.mem_cons, List.not_mem_nil] at hg ⊢
      tauto
    · simp only [List.mem_append, List.mem_cons, List.not_mem_nil] at hg ⊢
      tauto

theorem firingOpen_waits {s : State} {c : Nat} {e : Entry} (h : Opens s c e) (ho : s.openCause c = none)
    (hl : s.get (VLV_STAT_CLIMIT c) ≠ 1) (hp : s.get (ARB_PROF_PEAK_IPEAK (s.get (VLV_CTRL_PROF c))) ≠ 0)
    (hu : s.get ARB_WAIT_US ≠ 0) : ∃ t, exec (.firingOpen c) s = .next t ∧ t.chState c = 1 ∧
      (t.queueOf c).find? (·.began) = some { e with began := true } ∧
      (t.drive c).waitEnd = max s.time (floor2 e.opn) + 1000 * s.get ARB_WAIT_US ∧ othersFollow c s t ∧
      t = { s with regs := t.regs, time := t.time, sched := t.sched, valves := t.valves } ∧
      regsBut (firingFlds c ++ followFlds c) s t := by
  let u := s.atOpen e
  let v := u.startEntry c e
  let w := v.setDrive c (v.waitingFor c (s.get ARB_WAIT_US))
  have hqueue := u.setQueue_keeps c ((u.queueOf c).map fun x => if x = e then { x with began := true } else x)
  have hregs : regsBut (queueFlds c) s w := State.setQueue_regsBut u c _
  have htime : v.time = max s.time (floor2 e.opn) := hqueue.same.time rfl
  have hself : (w.drive c).waitEnd = v.time + 1000 * s.get ARB_WAIT_US :=
    congrArg Drive.waitEnd (v.drive_setDrive_self c _)
  have hkeeps : Keeps (foot 0x60000C) s (w.enter c 1) := (w.enter_keeps c 1).comp rfl ((v.setDrive_keeps c _).comp rfl
    (hqueue.comp rfl ((s.advance_keeps _).comp rfl (.refl _ s))))
  refine ⟨_, congrArg ok (h.waits ho hl hp hu), w.enter_chState 1 h.chan, ?_, ?_, ?_, hkeeps.frame, ?_⟩
  · rw [w.enter_queueOf]
    exact h.started_current
  · rw [w.enter_drive_self, ← htime, ← hself]
    rfl
  · exact (((advance_othersKeep s _ c).trans (setQueue_othersKeep u c _)).trans (setDrive_othersKeep v c _)).follow.trans
      (enter_othersFollow w 1 h.chan)
  · refine (hregs.mono fun g hg => List.mem_append_left _ (.tail _ hg)).trans
      ((w.enter_regsBut 1 h.chan).mono fun g hg => ?_)
    rcases List.mem_cons.mp hg with rfl | hg
    · exact List.mem_cons_self
    · exact List.mem_append_right _ hg

/-- Without the shift policy a firing at the coil limit is dropped (R264). -/
theorem shiftOrDrop_unshifted {s : State} {c : Nat} (e : Entry) (q : List Entry) (hp : s.get (VLV_CTRL_POLICY c) ≠ 1) :
    (s.setQueue c q).shiftOrDrop c e true = (s.setQueue c q).driveDrop c 3 := by
  have hget : (s.setQueue c q).get (VLV_CTRL_POLICY c) = s.get (VLV_CTRL_POLICY c) := by
    refine s.setQueue_regsBut c q _ ?_
    simp only [List.forall_mem_cons, Fld.key, VLV_CTRL_POLICY, VLV_STAT_QOCC, EJS_QOCC_MAX, EJS_QOCC_MAXCH]
    refine ⟨?_, ?_, ?_, List.forall_mem_nil _⟩ <;> omega
  have hflag : (s.setQueue c q).flag (VLV_CTRL_POLICY c) = false := beq_eq_false_iff_ne.mpr (by rwa [hget])
  rw [State.shiftOrDrop, hflag]
  rfl

/-- Settles O32, by the branches of an open: a drop with its cause or by the coil limit, a blind firing that stays
closed, a hold, and a request that waits. -/
theorem firingsOpenOrAreDroppedAtTheirOpen : Obligations.FiringsOpenOrAreDroppedAtTheirOpen := by
  refine ⟨?_, ?_, ?_, ?_, ?_⟩
  · intro s c k e hn hi hlt hg hw hk
    have hopens : Opens s c e := ⟨hn, hi, hlt, hg, hw⟩
    exact firingOpen_drops hopens (State.openCause_lt hk) (hopens.dropped hk)
  · intro s c e hn hi hlt hg hw ho hl hb hp
    have hopens : Opens s c e := ⟨hn, hi, hlt, hg, hw⟩
    have hdrop := (hopens.limited ho hl hb).trans (shiftOrDrop_unshifted (s := s.atOpen e) e _ hp)
    obtain ⟨t, ht, hdropped, hqueue, hstate, -, hothers⟩ := firingOpen_drops hopens (by decide) hdrop
    exact ⟨t, ht, hdropped, hqueue, hstate, hothers⟩
  · intro s c e hn hi hlt hg hw ho hl hb
    exact firingOpen_blind ⟨hn, hi, hlt, hg, hw⟩ ho hl hb
  · intro s c e hn hi hlt hg hw ho hl hp
    exact firingOpen_holds ⟨hn, hi, hlt, hg, hw⟩ ho hl hp
  · intro s c e hn hi hlt hg hw ho hl hp hu
    exact firingOpen_waits ⟨hn, hi, hlt, hg, hw⟩ ho hl hp hu

end Sys2Proof
end

section
/-! SUPPORT. A firing is cut: the low side turns off and its entry leaves (R266, R267). -/

namespace Sys2Proof.Machine

open Reg

/-- What the end of a firing writes. -/
abbrev cutFlds (c : Nat) : List Fld :=
  [VLV_STAT_STATE c, VLV_STAT_UNMEAS c, VLV_NMCNT_UNMEAS c, VLV_STAT_QOCC c, EJS_QOCC_MAX, EJS_QOCC_MAXCH] ++ followFlds c

theorem cutFlds_above (c : Nat) : ∀ g ∈ cutFlds c, 32 * 0x1000 ≤ g.key := by
  rw [List.forall_mem_append]
  refine ⟨?_, followFlds_calm c⟩
  simp only [List.forall_mem_cons, Fld.key, VLV_STAT_STATE, VLV_STAT_UNMEAS, VLV_NMCNT_UNMEAS, VLV_STAT_QOCC,
    EJS_QOCC_MAX, EJS_QOCC_MAXCH]
  refine ⟨?_, ?_, ?_, ?_, ?_, ?_, List.forall_mem_nil _⟩ <;> omega

/-- A channel's own field, but for those of its state and its queue. -/
theorem cutFlds_ne {c : Nat} {f : Fld} (hlo : 32 * 0x8000 ≤ f.key) (hhi : f.key < 32 * 0xA000)
    (h : ∀ g ∈ [VLV_STAT_STATE c, VLV_STAT_UNMEAS c, VLV_NMCNT_UNMEAS c, VLV_STAT_QOCC c], f.key ≠ g.key) :
    ∀ g ∈ cutFlds c, f.key ≠ g.key := by
  have hmax : EJS_QOCC_MAX.key < 32 * 0x8000 := by decide
  have hmaxch : EJS_QOCC_MAXCH.key < 32 * 0x8000 := by decide
  simp only [List.forall_mem_cons] at h
  obtain ⟨hs, hu, hn, hq, -⟩ := h
  simp only [List.forall_mem_append, List.forall_mem_cons]
  refine ⟨⟨hs, hu, hn, hq, by omega, by omega, List.forall_mem_nil _⟩, fun g hg => ?_⟩
  have hfollow := followFlds_above c g hg
  omega

theorem dropFlds_ne_cut (c : Nat) : ∀ f ∈ dropFlds c, ∀ g ∈ cutFlds c, f.key ≠ g.key := by
  intro f hf
  obtain ⟨hlo, hhi⟩ := dropFlds_vlv c f hf
  refine cutFlds_ne hlo hhi ?_
  revert f
  simp only [dropFlds, List.forall_mem_cons, Fld.key, VLV_DROPCNT_COUNT, VLV_STAT_LASTDROP, VLV_TOKDROP_COUNT,
    VLV_STAT_STATE, VLV_STAT_UNMEAS, VLV_NMCNT_UNMEAS, VLV_STAT_QOCC]
  refine ⟨fun _ _ => ⟨?_, ?_, ?_, ?_, List.forall_mem_nil _⟩, fun _ _ => ⟨?_, ?_, ?_, ?_, List.forall_mem_nil _⟩,
    fun _ _ => ⟨?_, ?_, ?_, ?_, List.forall_mem_nil _⟩, List.forall_mem_nil _⟩ <;> omega

theorem State.cutFiring_regsBut (s : State) {c : Nat} (hc : c < 128) : regsBut (cutFlds c) s (s.cutFiring c) := by
  refine ((s.gateOff_regsBut hc).mono fun f hf => ?_).trans ((State.setQueue_regsBut _ c _).mono fun f hf => ?_)
  · simp only [List.mem_append, List.mem_cons, List.not_mem_nil] at hf ⊢
    tauto
  · simp only [List.mem_append, List.mem_cons, List.not_mem_nil] at hf ⊢
    tauto

theorem State.cutFiring_calm (s : State) {c : Nat} (hc : c < 128) : Calm (cutFlds c) s (s.cutFiring c) :=
  (s.cutFiring_regsBut hc).calm (cutFlds_above c) (s.cutFiring_keeps c).fuses

theorem State.cutFiring_drive (s : State) (c d : Nat) : (s.cutFiring c).drive d = (s.gateOff c).drive d :=
  State.removeCurrent_drive _ c d

theorem State.cutFiring_queueOf (s : State) (c : Nat) :
    (s.cutFiring c).queueOf c = (s.queueOf c).filter fun e => !e.began := by
  rw [State.cutFiring, State.removeCurrent_queueOf, s.gateOff_queueOf]

/-- A driven channel decays from the cut on. -/
theorem State.cutFiring_decays (s : State) {c : Nat} (hc : c < 128) (h2 : 2 ≤ s.chState c)
    (ha : ¬(s.chState c = 5 ∧ (s.drive c).after = true)) :
    (s.cutFiring c).chState c = 5 ∧ ((s.cutFiring c).drive c).after = true := by
  obtain ⟨h5, hafter, -⟩ := s.gateOff_decays hc h2 ha
  rw [s.cutFiring_drive]
  exact ⟨(State.removeCurrent_chState _ hc).trans h5, hafter⟩

theorem State.cutFiring_loads (s : State) (c : Nat) : ((s.cutFiring c).drive c).loads = (s.drive c).loads := by
  rw [s.cutFiring_drive]
  exact (s.gateOff_record c).1

/-! ### A latched channel -/

/-- The channel is latched with a cause, and the fault counted (R266). -/
def State.chLatched (s : State) (c cause : Nat) : State :=
  ((s.set (VLV_STAT_CHFLT c) 1).set (VLV_STAT_FLTCAUSE c) cause).bump (VLV_FLTCNT_COUNT c)

abbrev latchFlds (c : Nat) : List Fld := [VLV_STAT_CHFLT c, VLV_STAT_FLTCAUSE c, VLV_FLTCNT_COUNT c]

theorem latchFlds_vlv (c : Nat) : ∀ f ∈ latchFlds c, 32 * 0x8000 ≤ f.key ∧ f.key < 32 * 0xA000 := by
  simp only [List.forall_mem_cons, Fld.key, VLV_STAT_CHFLT, VLV_STAT_FLTCAUSE, VLV_FLTCNT_COUNT]
  refine ⟨?_, ?_, ?_, List.forall_mem_nil _⟩ <;> omega

theorem latchFlds_above (c : Nat) : ∀ f ∈ latchFlds c, 32 * 0x1000 ≤ f.key := fun f hf =>
  le_trans (by decide) (latchFlds_vlv c f hf).1

theorem State.chLatched_regsBut (s : State) (c cause : Nat) : regsBut (latchFlds c) s (s.chLatched c cause) :=
  (((regsBut.refl _ s).set (by simp)).set (by simp)).set (by simp)

theorem State.chLatched_valves (s : State) (c cause : Nat) : (s.chLatched c cause).valves = s.valves := rfl

theorem State.chLatched_sched (s : State) (c cause : Nat) : (s.chLatched c cause).sched = s.sched := rfl

theorem State.chLatched_calm (s : State) (c cause : Nat) : Calm (latchFlds c) s (s.chLatched c cause) :=
  (s.chLatched_regsBut c cause).calm (latchFlds_above c) rfl

theorem State.chLatched_shown (s : State) (c : Nat) {k : Nat} (hk : k < 4) :
    (s.chLatched c k).get (VLV_STAT_CHFLT c) = 1 ∧ (s.chLatched c k).get (VLV_STAT_FLTCAUSE c) = k ∧
    (s.chLatched c k).get (VLV_FLTCNT_COUNT c) = satAdd 31 (s.get (VLV_FLTCNT_COUNT c)) 1 % 2 ^ 31 := by
  have hfc : (VLV_STAT_CHFLT c).key ≠ (VLV_STAT_FLTCAUSE c).key := by
    simp only [Fld.key, VLV_STAT_CHFLT, VLV_STAT_FLTCAUSE]; omega
  have hfn : (VLV_STAT_CHFLT c).key ≠ (VLV_FLTCNT_COUNT c).key := by
    simp only [Fld.key, VLV_STAT_CHFLT, VLV_FLTCNT_COUNT]; omega
  have hcn : (VLV_STAT_FLTCAUSE c).key ≠ (VLV_FLTCNT_COUNT c).key := by
    simp only [Fld.key, VLV_STAT_FLTCAUSE, VLV_FLTCNT_COUNT]; omega
  unfold State.chLatched
  rw [State.bump_eq]
  refine ⟨?_, ?_, ?_⟩
  · rw [State.get_set_ne _ _ _ _ hfn, State.get_set_ne _ _ _ _ hfc, State.get_set]
    rfl
  · rw [State.get_set_ne _ _ _ _ hcn, State.get_set]
    exact Nat.mod_eq_of_lt hk
  · rw [State.get_set, State.get_set_ne _ _ _ _ hcn.symm, State.get_set_ne _ _ _ _ hfn.symm]
    rfl

theorem latchFlds_ne_cut (c : Nat) : ∀ f ∈ latchFlds c, ∀ g ∈ cutFlds c, f.key ≠ g.key := by
  intro f hf
  obtain ⟨hlo, hhi⟩ := latchFlds_vlv c f hf
  refine cutFlds_ne hlo hhi ?_
  revert f
  simp only [List.forall_mem_cons, Fld.key, VLV_STAT_CHFLT, VLV_STAT_FLTCAUSE, VLV_FLTCNT_COUNT, VLV_STAT_STATE,
    VLV_STAT_UNMEAS, VLV_NMCNT_UNMEAS, VLV_STAT_QOCC]
  refine ⟨fun _ _ => ⟨?_, ?_, ?_, ?_, List.forall_mem_nil _⟩, fun _ _ => ⟨?_, ?_, ?_, ?_, List.forall_mem_nil _⟩,
    fun _ _ => ⟨?_, ?_, ?_, ?_, List.forall_mem_nil _⟩, List.forall_mem_nil _⟩ <;> omega

end Sys2Proof.Machine

namespace Sys2Proof

open Sys2Proof.Machine Sys2Proof.Machine.Reg

theorem cutFiring_othersFollow (s : State) {c : Nat} (hc : c < 128) : othersFollow c s (s.cutFiring c) :=
  (gateOff_othersFollow s hc).trans (setQueue_othersKeep _ c _).follow

theorem raise_othersKeep (s : State) (n c : Nat) : othersKeep c s (s.raise n) :=
  othersKeep_of_parts c ((s.raise_keeps n).same.sched rfl) ((s.raise_keeps n).same.valves rfl)

end Sys2Proof
end

section
/-! SUPPORT. Peaks end, and firings end by an open load (R240, R241, R266). -/

namespace Sys2Proof.Machine

open Reg

/-- The registers that show a peak (R241). -/
abbrev peakFlds (c : Nat) : List Fld := [VLV_IMEAS_IPK c, VLV_IMEAS_TPK c, VLV_IMEAS_PKTO c, VLV_IMEAS_FB c]

/-- A peak's current, length, and how it ended. -/
def State.peakShown (s : State) (c ipk : Nat) (pkto : Bool) : State :=
  (((s.set (VLV_IMEAS_IPK c) (min 255 ipk)).set (VLV_IMEAS_TPK c) (min 10000 (rnd (s.time - (s.drive c).on) 1000))).setB
    (VLV_IMEAS_PKTO c) pkto).setB (VLV_IMEAS_FB c) (s.chState c == 3)

/-- A channel's record in the decay from a peak to hold. -/
def Drive.decaying (d : Drive) : Drive := { d with after := false }

theorem State.endPeak_valve (s : State) {c : Nat} (ipk : Nat) (pkto : Bool) (hc : c < 128) :
    s.endPeak c ipk pkto = ((s.peakShown c ipk pkto).setDrive c (s.drive c).decaying).enter c 5 := by
  simp only [State.endPeak, if_neg (ne_ly hc)]
  rfl

theorem State.peakShown_regsBut (s : State) (c ipk : Nat) (pkto : Bool) :
    regsBut (peakFlds c) s (s.peakShown c ipk pkto) :=
  ((((regsBut.refl _ s).set (by simp)).set (by simp)).set (by simp)).set (by simp)

theorem State.peakShown_shown (s : State) (c ipk : Nat) (pkto : Bool) :
    (s.peakShown c ipk pkto).get (VLV_IMEAS_IPK c) = min 255 ipk ∧
    (s.peakShown c ipk pkto).get (VLV_IMEAS_TPK c) = min 10000 (rnd (s.time - (s.drive c).on) 1000) ∧
    (s.peakShown c ipk pkto).get (VLV_IMEAS_PKTO c) = (if pkto then 1 else 0) ∧
    (s.peakShown c ipk pkto).get (VLV_IMEAS_FB c) = if s.chState c = 3 then 1 else 0 := by
  have hit : (VLV_IMEAS_IPK c).key ≠ (VLV_IMEAS_TPK c).key := by
    simp only [Fld.key, VLV_IMEAS_IPK, VLV_IMEAS_TPK]; omega
  have hip : (VLV_IMEAS_IPK c).key ≠ (VLV_IMEAS_PKTO c).key := by
    simp only [Fld.key, VLV_IMEAS_IPK, VLV_IMEAS_PKTO]; omega
  have hif : (VLV_IMEAS_IPK c).key ≠ (VLV_IMEAS_FB c).key := by
    simp only [Fld.key, VLV_IMEAS_IPK, VLV_IMEAS_FB]; omega
  have htp : (VLV_IMEAS_TPK c).key ≠ (VLV_IMEAS_PKTO c).key := by
    simp only [Fld.key, VLV_IMEAS_TPK, VLV_IMEAS_PKTO]; omega
  have htf : (VLV_IMEAS_TPK c).key ≠ (VLV_IMEAS_FB c).key := by
    simp only [Fld.key, VLV_IMEAS_TPK, VLV_IMEAS_FB]; omega
  have hpf : (VLV_IMEAS_PKTO c).key ≠ (VLV_IMEAS_FB c).key := by
    simp only [Fld.key, VLV_IMEAS_PKTO, VLV_IMEAS_FB]; omega
  unfold State.peakShown State.setB
  refine ⟨?_, ?_, ?_, ?_⟩
  · rw [State.get_set_ne _ _ _ _ hif, State.get_set_ne _ _ _ _ hip, State.get_set_ne _ _ _ _ hit, State.get_set]
    exact Nat.mod_eq_of_lt (Nat.lt_succ_of_le (Nat.min_le_left _ _))
  · rw [State.get_set_ne _ _ _ _ htf, State.get_set_ne _ _ _ _ htp, State.get_set]
    exact Nat.mod_eq_of_lt ((Nat.min_le_left _ _).trans_lt (show 10000 < 2 ^ 14 by decide))
  · rw [State.get_set_ne _ _ _ _ hpf, State.get_set]
    cases pkto <;> rfl
  · rw [State.get_set]
    by_cases h : s.chState c = 3
    · rw [if_pos h, h]
      rfl
    · rw [if_neg h, beq_eq_false_iff_ne.mpr h]
      rfl

/-- What a channel that enters a state leaves of its own fields. -/
theorem State.enter_get_vlv (s : State) {c : Nat} (k : Nat) (hc : c < 128) {f : Fld} (hhi : f.key < 32 * 0xA000)
    (hne : f.key ≠ (VLV_STAT_STATE c).key) : (s.enter c k).get f = s.get f :=
  s.enter_regsBut k hc f (List.forall_mem_cons.mpr ⟨hne, fun g hg => by
    have hfollow := followFlds_above c g hg
    omega⟩)

/-- What the end of a peak writes. -/
abbrev peakEndFlds (c : Nat) : List Fld :=
  [VLV_STAT_STATE c, VLV_IMEAS_IPK c, VLV_IMEAS_TPK c, VLV_IMEAS_PKTO c, VLV_IMEAS_FB c] ++ followFlds c

theorem peakEndFlds_above (c : Nat) : ∀ g ∈ peakEndFlds c, 32 * 0x1000 ≤ g.key := by
  rw [List.forall_mem_append]
  refine ⟨?_, followFlds_calm c⟩
  simp only [List.forall_mem_cons, Fld.key, VLV_STAT_STATE, VLV_IMEAS_IPK, VLV_IMEAS_TPK, VLV_IMEAS_PKTO, VLV_IMEAS_FB]
  refine ⟨?_, ?_, ?_, ?_, ?_, List.forall_mem_nil _⟩ <;> omega

section
variable (s : State) {c : Nat} (ipk : Nat) (pkto : Bool) (hc : c < 128)
include hc

theorem State.endPeak_regsBut : regsBut (peakEndFlds c) s (s.endPeak c ipk pkto) := by
  rw [s.endPeak_valve ipk pkto hc]
  refine ((s.peakShown_regsBut c ipk pkto).mono fun f hf => List.mem_append_left _ (.tail _ hf)).trans
    ((State.enter_regsBut ((s.peakShown c ipk pkto).setDrive c (s.drive c).decaying) 5 hc).mono fun f hf => ?_)
  rcases List.mem_cons.mp hf with rfl | hf
  · exact List.mem_cons_self
  · exact List.mem_append_right _ hf

theorem State.endPeak_keeps_valve : Keeps (foot 0x400008) s (s.endPeak c ipk pkto) := by
  have hshown : Keeps (foot 0x400008) s (s.peakShown c ipk pkto) :=
    ((((Keeps.refl _ s).set (.fam (VLV_IMEAS_IPK_cls c) rfl)).set (.fam (VLV_IMEAS_TPK_cls c) rfl)).set
      (.fam (VLV_IMEAS_PKTO_cls c) rfl)).set (.fam (VLV_IMEAS_FB_cls c) rfl)
  rw [s.endPeak_valve ipk pkto hc]
  exact (State.enter_keeps _ c 5).comp rfl ((State.setDrive_keeps _ c _).comp rfl hshown)

/-- The decay from a peak: what the peak shows, and the record of the channel. -/
theorem State.endPeak_shown : (s.endPeak c ipk pkto).chState c = 5 ∧
    (s.endPeak c ipk pkto).get (VLV_IMEAS_IPK c) = min 255 ipk ∧
    (s.endPeak c ipk pkto).get (VLV_IMEAS_TPK c) = min 10000 (rnd (s.time - (s.drive c).on) 1000) ∧
    (s.endPeak c ipk pkto).get (VLV_IMEAS_PKTO c) = (if pkto then 1 else 0) ∧
    (s.endPeak c ipk pkto).get (VLV_IMEAS_FB c) = if s.chState c = 3 then 1 else 0 := by
  obtain ⟨hi, ht, hp, hf⟩ := s.peakShown_shown c ipk pkto
  have hget : ∀ f ∈ peakFlds c, (s.endPeak c ipk pkto).get f = (s.peakShown c ipk pkto).get f := by
    rw [s.endPeak_valve ipk pkto hc]
    simp only [List.forall_mem_cons]
    refine ⟨?_, ?_, ?_, ?_, List.forall_mem_nil _⟩ <;>
      refine State.enter_get_vlv ((s.peakShown c ipk pkto).setDrive c (s.drive c).decaying) 5 hc ?_ ?_ <;>
      simp only [Fld.key, VLV_IMEAS_IPK, VLV_IMEAS_TPK, VLV_IMEAS_PKTO, VLV_IMEAS_FB, VLV_STAT_STATE] <;> omega
  refine ⟨?_, (hget _ (by simp)).trans hi, (hget _ (by simp)).trans ht, (hget _ (by simp)).trans hp,
    (hget _ (by simp)).trans hf⟩
  rw [s.endPeak_valve ipk pkto hc]
  exact State.enter_chState _ 5 hc

theorem State.endPeak_drive_self : (s.endPeak c ipk pkto).drive c =
    { (s.drive c).decaying.anew with chop := ((s.endPeak c ipk pkto).drive c).chop } := by
  have hself := State.enter_drive_self ((s.peakShown c ipk pkto).setDrive c (s.drive c).decaying) c 5
  rw [State.drive_setDrive_self] at hself
  rw [s.endPeak_valve ipk pkto hc]
  exact hself

end

/-! ### Open loads -/

/-- A channel's record with one more open load in a row. -/
def Drive.unloaded (d : Drive) : Drive := { d with loads := d.loads + 1 }

/-- The firing ends by an open load, which the bank counts. -/
def State.loadCounted (s : State) (c : Nat) : State :=
  ((s.setDrive c (s.drive c).unloaded).cutFiring c).bump (VBK_OLCNT_COUNT (c / 8))

/-- The counted open load is an occurrence. -/
def State.loadCut (s : State) (c : Nat) : State := (s.loadCounted c).raise (Src.bkOpenLoad (c / 8))

theorem State.loadCounted_drive (s : State) (c d : Nat) :
    (s.loadCounted c).drive d = ((s.setDrive c (s.drive c).unloaded).cutFiring c).drive d := State.drive_set _ _ _ d

theorem State.loadCounted_queueOf (s : State) (c d : Nat) :
    (s.loadCounted c).queueOf d = ((s.setDrive c (s.drive c).unloaded).cutFiring c).queueOf d := State.queueOf_set _ _ _ d

theorem State.openLoad_valve (s : State) {c : Nat} (hc : c < 128) : s.openLoad c =
    if 3 ≤ (s.drive c).loads + 1 then (s.loadCut c).chLatched c 3 else s.loadCut c := by
  simp only [State.openLoad, if_neg (ne_ly hc), decide_eq_true_eq]
  rfl

section
variable (s : State) {c : Nat} (hc : c < 128)
include hc

theorem State.loadCounted_calm : Calm (VBK_OLCNT_COUNT (c / 8) :: cutFlds c) s (s.loadCounted c) := by
  have habove : ∀ g ∈ VBK_OLCNT_COUNT (c / 8) :: cutFlds c, 32 * 0x1000 ≤ g.key := by
    refine List.forall_mem_cons.mpr ⟨?_, cutFlds_above c⟩
    simp only [Fld.key, VBK_OLCNT_COUNT]
    omega
  have hcut : regsBut (VBK_OLCNT_COUNT (c / 8) :: cutFlds c) s ((s.setDrive c (s.drive c).unloaded).cutFiring c) :=
    (State.cutFiring_regsBut (s.setDrive c (s.drive c).unloaded) hc).mono fun f hf => .tail _ hf
  have hfuses : (s.loadCounted c).fuses = s.fuses := (State.cutFiring_keeps (s.setDrive c (s.drive c).unloaded) c).fuses
  exact (hcut.set List.mem_cons_self).calm habove hfuses

theorem State.loadCut_calm : Calm (VBK_OLCNT_COUNT (c / 8) :: cutFlds c) s (s.loadCut c) :=
  (s.loadCounted_calm hc).trans (State.raise_calm _ _ (s.loadCounted_calm hc).above)

theorem State.loadCut_raised : raisedIn (Src.bkOpenLoad (c / 8)) s (s.loadCut c) :=
  ((s.loadCounted c).raise_status _).since (s.loadCounted_calm hc)

theorem State.loadCut_chflt : (s.loadCut c).get (VLV_STAT_CHFLT c) = s.get (VLV_STAT_CHFLT c) := by
  obtain ⟨hlo, hhi⟩ := latchFlds_vlv c (VLV_STAT_CHFLT c) (by simp)
  have hother : (VLV_STAT_CHFLT c).key ≠ (VBK_OLCNT_COUNT (c / 8)).key := by
    simp only [Fld.key, VBK_OLCNT_COUNT] at hhi ⊢
    omega
  refine (s.loadCut_calm hc).get ?_ (List.forall_mem_cons.mpr ⟨hother, latchFlds_ne_cut c _ (by simp)⟩)
  exact ⟨by omega, by simp only [Fld.key, VLV_STAT_CHFLT, MEM_TESTABORTS_COUNT]; omega⟩

theorem State.loadCut_count :
    (s.loadCut c).get (VBK_OLCNT_COUNT (c / 8)) = satAdd 31 (s.get (VBK_OLCNT_COUNT (c / 8))) 1 % 2 ^ 31 := by
  have hcut : ((s.setDrive c (s.drive c).unloaded).cutFiring c).get (VBK_OLCNT_COUNT (c / 8)) =
      s.get (VBK_OLCNT_COUNT (c / 8)) := by
    refine State.cutFiring_regsBut (s.setDrive c (s.drive c).unloaded) hc _ ?_
    simp only [List.cons_append, List.nil_append, followFlds, List.forall_mem_cons, Fld.key, VBK_OLCNT_COUNT,
      VLV_STAT_STATE, VLV_STAT_UNMEAS, VLV_NMCNT_UNMEAS, VLV_STAT_QOCC, EJS_QOCC_MAX, EJS_QOCC_MAXCH, VBK_STAT_RAIL,
      VBK_STAT_PEAKING, VBK_STAT_HOLDING, VBK_STAT_LEADER, VBK_STAT_LEADVALID, VBK_PEAKMAX_MAX, ARB_STAT_TOKENS,
      ARB_STAT_FBUSED, ARB_STAT_NEFF, ARB_STAT_DIPCUT, ARB_TOKMAX_MAX]
    refine ⟨?_, ?_, ?_, ?_, ?_, ?_, ?_, ?_, ?_, ?_, ?_, ?_, ?_, ?_, ?_, ?_, ?_, List.forall_mem_nil _⟩ <;> omega
  unfold State.loadCut State.loadCounted
  rw [State.raise_get, State.bump_eq, State.get_set, hcut]
  · rfl
  · refine ⟨.inr ?_, ?_⟩ <;> simp only [Fld.key, VBK_OLCNT_COUNT, MEM_TESTABORTS_COUNT] <;> omega

/-- The decay that an open load begins, with the entry gone and the load counted. -/
theorem State.loadCut_decays (h2 : 2 ≤ s.chState c) (ha : ¬(s.chState c = 5 ∧ (s.drive c).after = true)) :
    (s.loadCut c).chState c = 5 ∧ ((s.loadCut c).drive c).after = true ∧
    ((s.loadCut c).drive c).loads = (s.drive c).loads + 1 ∧
    (s.loadCut c).queueOf c = (s.queueOf c).filter fun e => !e.began := by
  have hself : (s.setDrive c (s.drive c).unloaded).drive c = (s.drive c).unloaded := s.drive_setDrive_self c _
  obtain ⟨h5, hafter⟩ := State.cutFiring_decays (s.setDrive c (s.drive c).unloaded) hc h2 (by rw [hself]; exact ha)
  have hloads := State.cutFiring_loads (s.setDrive c (s.drive c).unloaded) c
  rw [hself] at hloads
  have hdrive : (s.loadCut c).drive c = ((s.setDrive c (s.drive c).unloaded).cutFiring c).drive c :=
    (State.drive_congr (((s.loadCounted c).raise_keeps _).same.valves rfl) c).trans (s.loadCounted_drive c c)
  have hqueue : (s.loadCut c).queueOf c = ((s.setDrive c (s.drive c).unloaded).cutFiring c).queueOf c :=
    (State.queueOf_congr (((s.loadCounted c).raise_keeps _).same.sched rfl) c).trans (s.loadCounted_queueOf c c)
  rw [hdrive, hqueue]
  refine ⟨?_, hafter, hloads, State.cutFiring_queueOf _ c⟩
  rw [← h5, State.chState_valve _ hc, State.chState_valve _ hc]
  unfold State.loadCut State.loadCounted
  rw [State.raise_get, State.bump_eq, State.get_set_ne]
  · simp only [Fld.key, VLV_STAT_STATE, VBK_OLCNT_COUNT]
    omega
  · refine ⟨.inr ?_, ?_⟩ <;> simp only [Fld.key, VLV_STAT_STATE, MEM_TESTABORTS_COUNT] <;> omega

/-- A latch adds its registers alone to what an open load leaves. -/
theorem State.openLoad_loadCut : regsBut (latchFlds c) (s.loadCut c) (s.openLoad c) ∧
    (s.openLoad c).valves = (s.loadCut c).valves ∧ (s.openLoad c).sched = (s.loadCut c).sched := by
  rw [s.openLoad_valve hc]
  split
  · exact ⟨State.chLatched_regsBut _ c 3, State.chLatched_valves _ c 3, State.chLatched_sched _ c 3⟩
  · exact ⟨.refl _ _, rfl, rfl⟩

theorem State.openLoad_latched (hl : 2 ≤ (s.drive c).loads) :
    (s.openLoad c).get (VLV_STAT_CHFLT c) = 1 ∧ (s.openLoad c).get (VLV_STAT_FLTCAUSE c) = 3 := by
  obtain ⟨hflt, hcause, -⟩ := (s.loadCut c).chLatched_shown c (k := 3) (by decide)
  rw [s.openLoad_valve hc, if_pos (by omega)]
  exact ⟨hflt, hcause⟩

theorem State.openLoad_unlatched (hl : (s.drive c).loads < 2) : s.openLoad c = s.loadCut c := by
  rw [s.openLoad_valve hc, if_neg (by omega)]

/-- An open load's decay, whether it latches the channel or not. -/
theorem State.openLoad_decays (h2 : 2 ≤ s.chState c) (ha : ¬(s.chState c = 5 ∧ (s.drive c).after = true)) :
    (s.openLoad c).chState c = 5 ∧ ((s.openLoad c).drive c).after = true ∧
    ((s.openLoad c).drive c).loads = (s.drive c).loads + 1 ∧
    (s.openLoad c).queueOf c = (s.queueOf c).filter fun e => !e.began := by
  obtain ⟨h5, hafter, hloads, hqueue⟩ := s.loadCut_decays hc h2 ha
  obtain ⟨hregs, hvalves, hsched⟩ := s.openLoad_loadCut hc
  rw [State.drive_congr hvalves, State.queueOf_congr hsched]
  refine ⟨?_, hafter, hloads, hqueue⟩
  rw [State.chState_valve _ hc, hregs, ← State.chState_valve _ hc, h5]
  simp only [List.forall_mem_cons, Fld.key, VLV_STAT_STATE, VLV_STAT_CHFLT, VLV_STAT_FLTCAUSE, VLV_FLTCNT_COUNT]
  refine ⟨?_, ?_, ?_, List.forall_mem_nil _⟩ <;> omega

theorem State.openLoad_count :
    (s.openLoad c).get (VBK_OLCNT_COUNT (c / 8)) = satAdd 31 (s.get (VBK_OLCNT_COUNT (c / 8))) 1 % 2 ^ 31 := by
  obtain ⟨hregs, -⟩ := s.openLoad_loadCut hc
  rw [hregs, s.loadCut_count hc]
  simp only [List.forall_mem_cons, Fld.key, VBK_OLCNT_COUNT, VLV_STAT_CHFLT, VLV_STAT_FLTCAUSE, VLV_FLTCNT_COUNT]
  refine ⟨?_, ?_, ?_, List.forall_mem_nil _⟩ <;> omega

theorem State.openLoad_raised : raisedIn (Src.bkOpenLoad (c / 8)) s (s.openLoad c) := by
  have hraised := s.loadCut_raised hc
  rw [s.openLoad_valve hc]
  split
  · exact hraised.after (State.chLatched_calm _ c 3)
  · exact hraised

end

/-! ### The time limit of a peak -/

/-- The tick of a peak's time limit. -/
abbrev State.peakTick (s : State) (c : Nat) : State := s.advance
  (floor2 ((s.drive c).on + 1000 * (if s.chState c = 3 then (s.drive c).fbtpmax else (s.drive c).tpmax)))

theorem State.peakLimit_reached {s : State} {c i : Nat} (hc : c < 128) (hp : s.chState c = 2 ∨ s.chState c = 3)
    (hi : (s.drive c).ipeak ≤ 4 * i) : s.peakLimit c i =
      (((s.peakTick c).endPeak c i true).bump (VBK_PKTOCNT_COUNT (c / 8))).raise (Src.bkPeakTo (c / 8)) := by
  simp only [State.peakLimit, if_pos hp, if_neg (Nat.not_lt.mpr hi), if_neg (ne_ly hc)]
  rfl

theorem State.peakLimit_open {s : State} {c i : Nat} (hp : s.chState c = 2 ∨ s.chState c = 3)
    (hi : 4 * i < (s.drive c).ipeak) : s.peakLimit c i = ((s.peakTick c).endPeak c i true).openLoad c := by
  simp only [State.peakLimit, if_pos hp, if_pos hi]

/-- A field of the drive's blocks is none that an event writes. -/
theorem drive_noEvt {f : Fld} (hlo : 32 * 0x8000 ≤ f.key) (hhi : f.key < 32 * 0xB000) :
    32 * 0x1000 ≤ f.key ∧ f.key ≠ MEM_TESTABORTS_COUNT.key := by
  simp only [Fld.key, MEM_TESTABORTS_COUNT] at hlo hhi ⊢
  omega

theorem State.raise_get_drive (s : State) (n : Nat) {f : Fld} (hlo : 32 * 0x8000 ≤ f.key) (hhi : f.key < 32 * 0xB000) :
    (s.raise n).get f = s.get f := by
  obtain ⟨habove, hne⟩ := drive_noEvt hlo hhi
  exact s.raise_get n f ⟨.inr habove, hne⟩

/-- What the time limit of a peak writes. -/
abbrev peakOverFlds (c : Nat) : List Fld := [VLV_STAT_STATE c, VLV_IMEAS_IPK c, VLV_IMEAS_TPK c, VLV_IMEAS_PKTO c,
  VLV_IMEAS_FB c, VBK_PKTOCNT_COUNT (c / 8)] ++ followFlds c

theorem peakOverFlds_above (c : Nat) : ∀ g ∈ peakOverFlds c, 32 * 0x1000 ≤ g.key := by
  rw [List.forall_mem_append]
  refine ⟨?_, followFlds_calm c⟩
  simp only [List.forall_mem_cons, Fld.key, VLV_STAT_STATE, VLV_IMEAS_IPK, VLV_IMEAS_TPK, VLV_IMEAS_PKTO, VLV_IMEAS_FB,
    VBK_PKTOCNT_COUNT]
  refine ⟨?_, ?_, ?_, ?_, ?_, ?_, List.forall_mem_nil _⟩ <;> omega

/-- A peak that its time limit ends, counted. -/
theorem State.peakOver_regsBut (s : State) {c : Nat} (i : Nat) (hc : c < 128) :
    regsBut (peakOverFlds c) s ((s.endPeak c i true).bump (VBK_PKTOCNT_COUNT (c / 8))) :=
  ((s.endPeak_regsBut i true hc).mono fun f hf => by
    simp only [List.mem_append, List.mem_cons, List.not_mem_nil] at hf ⊢
    tauto).set (by simp)

theorem State.peakOver_count (s : State) {c : Nat} (i : Nat) (hc : c < 128) :
    ((s.endPeak c i true).bump (VBK_PKTOCNT_COUNT (c / 8))).get (VBK_PKTOCNT_COUNT (c / 8)) =
      satAdd 31 (s.get (VBK_PKTOCNT_COUNT (c / 8))) 1 % 2 ^ 31 := by
  have hpeak : (s.endPeak c i true).get (VBK_PKTOCNT_COUNT (c / 8)) = s.get (VBK_PKTOCNT_COUNT (c / 8)) := by
    refine s.endPeak_regsBut i true hc _ ?_
    simp only [List.cons_append, List.nil_append, followFlds, List.forall_mem_cons, Fld.key, VBK_PKTOCNT_COUNT,
      VLV_STAT_STATE, VLV_IMEAS_IPK, VLV_IMEAS_TPK, VLV_IMEAS_PKTO, VLV_IMEAS_FB, VBK_STAT_RAIL, VBK_STAT_PEAKING,
      VBK_STAT_HOLDING, VBK_STAT_LEADER, VBK_STAT_LEADVALID, VBK_PEAKMAX_MAX, ARB_STAT_TOKENS, ARB_STAT_FBUSED,
      ARB_STAT_NEFF, ARB_STAT_DIPCUT, ARB_TOKMAX_MAX]
    refine ⟨?_, ?_, ?_, ?_, ?_, ?_, ?_, ?_, ?_, ?_, ?_, ?_, ?_, ?_, ?_, ?_, List.forall_mem_nil _⟩ <;> omega
  rw [State.bump_eq, State.get_set, hpeak]
  rfl

/-- A channel's own fields as a time limit leaves them are those that the peak's end shows. -/
theorem State.peakOver_get (s : State) {c : Nat} (i n : Nat) {f : Fld} (hlo : 32 * 0x8000 ≤ f.key)
    (hhi : f.key < 32 * 0xA000) :
    (((s.endPeak c i true).bump (VBK_PKTOCNT_COUNT (c / 8))).raise n).get f = (s.endPeak c i true).get f := by
  rw [State.raise_get_drive _ _ hlo (by omega), State.bump_eq, State.get_set_ne]
  simp only [Fld.key, VBK_PKTOCNT_COUNT] at hhi ⊢
  omega

end Sys2Proof.Machine

namespace Sys2Proof

open Sys2Proof.Machine Sys2Proof.Machine.Reg

theorem endPeak_othersFollow (s : State) {c : Nat} (ipk : Nat) (pkto : Bool) (hc : c < 128) :
    othersFollow c s (s.endPeak c ipk pkto) := by
  rw [s.endPeak_valve ipk pkto hc]
  exact ((othersKeep_of_parts c rfl rfl : othersKeep c s (s.peakShown c ipk pkto)).trans
    (setDrive_othersKeep _ c _)).follow.trans (enter_othersFollow _ 5 hc)

theorem openLoad_othersFollow (s : State) {c : Nat} (hc : c < 128) : othersFollow c s (s.openLoad c) := by
  obtain ⟨-, hvalves, hsched⟩ := s.openLoad_loadCut hc
  have hload : othersFollow c s (s.loadCut c) :=
    ((setDrive_othersKeep s c _).follow.trans (cutFiring_othersFollow _ hc)).trans
      ((set_othersKeep _ _ _ c).trans (raise_othersKeep (s.loadCounted c) _ c)).follow
  exact hload.trans (othersKeep_of_parts c hsched hvalves).follow

/-- A peak in progress: boost, or from VVAL. -/
theorem peaking_chState {s : State} {c : Nat} (hc : c < 128)
    (hp : s.get (VLV_STAT_STATE c) = 2 ∨ s.get (VLV_STAT_STATE c) = 3) : s.chState c = 2 ∨ s.chState c = 3 := by
  rwa [s.chState_valve hc]

theorem peakEnd_shows {s : State} {c : Nat} (hlt : c < s.nChans)
    (hp : s.get (VLV_STAT_STATE c) = 2 ∨ s.get (VLV_STAT_STATE c) = 3) :
    ∃ t, exec (.peakEnd c) s = .next t ∧ t.chState c = 5 ∧ (t.drive c).after = false ∧
      t.get (VLV_IMEAS_IPK c) = min 255 (s.drive c).ipeak ∧
      t.get (VLV_IMEAS_TPK c) = min 10000 (rnd (s.time - (s.drive c).on) 1000) ∧ t.get (VLV_IMEAS_PKTO c) = 0 ∧
      t.get (VLV_IMEAS_FB c) = (if s.get (VLV_STAT_STATE c) = 3 then 1 else 0) ∧ othersFollow c s t ∧
      t = { s with regs := t.regs, valves := t.valves } ∧ regsBut (peakEndFlds c) s t := by
  have hc := hlt.trans_le s.nChans_le
  have hdone : s.peakDone c = s.endPeak c (s.drive c).ipeak false := if_pos (peaking_chState hc hp)
  obtain ⟨h5, hi, ht, ho, hf⟩ := s.endPeak_shown (s.drive c).ipeak false hc
  rw [s.chState_valve hc] at hf
  refine ⟨_, congrArg ok hdone, h5, ?_, hi, ht, ho, hf, endPeak_othersFollow s _ _ hc,
    (s.endPeak_keeps_valve _ _ hc).frame, s.endPeak_regsBut _ _ hc⟩
  rw [s.endPeak_drive_self _ _ hc]
  rfl

theorem peakTimeout_reached {s : State} {c i : Nat} (hlt : c < s.nChans)
    (hp : s.get (VLV_STAT_STATE c) = 2 ∨ s.get (VLV_STAT_STATE c) = 3) (hi : (s.drive c).ipeak ≤ 4 * i) :
    ∃ t, exec (.peakTimeout c i) s = .next t ∧ t.chState c = 5 ∧ t.get (VLV_IMEAS_IPK c) = min 255 i ∧
      t.get (VLV_IMEAS_PKTO c) = 1 ∧
      t.get (VBK_PKTOCNT_COUNT (c / 8)) = satAdd 31 (s.get (VBK_PKTOCNT_COUNT (c / 8))) 1 % 2 ^ 31 ∧
      raisedIn (Src.bkPeakTo (c / 8)) s t ∧ t.time = max s.time (floor2 ((s.drive c).on + 1000 *
        (if s.get (VLV_STAT_STATE c) = 3 then (s.drive c).fbtpmax else (s.drive c).tpmax))) ∧ othersFollow c s t ∧
      t = { s with regs := t.regs, evt := t.evt, mem := t.mem, time := t.time, valves := t.valves } ∧
      regsButEvt (peakOverFlds c) s t := by
  have hc := hlt.trans_le s.nChans_le
  let u := s.peakTick c
  let n := Src.bkPeakTo (c / 8)
  have hpeak : Keeps (foot 0x4000CC) s (u.endPeak c i true) :=
    (u.endPeak_keeps_valve i true hc).comp rfl ((s.advance_keeps _).comp rfl (.refl _ s))
  have hcount := hpeak.set (v := satAdd 31 ((u.endPeak c i true).get (VBK_PKTOCNT_COUNT (c / 8))) 1)
    (.fam (VBK_PKTOCNT_COUNT_cls (c / 8)) rfl)
  have hkeeps := (State.raise_keeps ((u.endPeak c i true).bump (VBK_PKTOCNT_COUNT (c / 8))) n).comp rfl hcount
  have hregs : regsBut (peakOverFlds c) s ((u.endPeak c i true).bump (VBK_PKTOCNT_COUNT (c / 8))) :=
    u.peakOver_regsBut i hc
  have hcalm := hregs.calm (peakOverFlds_above c) hpeak.fuses
  have hraise := State.raise_keeps ((u.endPeak c i true).bump (VBK_PKTOCNT_COUNT (c / 8))) n
  obtain ⟨h5, hipk, -, hto, -⟩ := u.endPeak_shown i true hc
  have hvlv : ∀ f ∈ [VLV_STAT_STATE c, VLV_IMEAS_IPK c, VLV_IMEAS_PKTO c],
      (((u.endPeak c i true).bump (VBK_PKTOCNT_COUNT (c / 8))).raise n).get f = (u.endPeak c i true).get f := by
    simp only [List.forall_mem_cons]
    refine ⟨?_, ?_, ?_, List.forall_mem_nil _⟩ <;> refine u.peakOver_get i n ?_ ?_ <;>
      simp only [Fld.key, VLV_STAT_STATE, VLV_IMEAS_IPK, VLV_IMEAS_PKTO] <;> omega
  refine ⟨_, congrArg ok (State.peakLimit_reached hc (peaking_chState hc hp) hi), ?_, (hvlv _ (by simp)).trans hipk,
    (hvlv _ (by simp)).trans hto, ?_, (State.raise_status _ _).since hcalm, ?_, ?_, hkeeps.frame,
    (hcalm.trans (State.raise_calm _ _ (peakOverFlds_above c))).butEvt⟩
  · rw [State.chState_valve _ hc] at h5 ⊢
    exact (hvlv _ (by simp)).trans h5
  · refine (State.raise_get_drive _ n ?_ ?_).trans (u.peakOver_count i hc) <;>
      simp only [Fld.key, VBK_PKTOCNT_COUNT] <;> omega
  · rw [← s.chState_valve hc]
    exact (hraise.same.time rfl).trans ((u.endPeak_keeps_valve i true hc).same.time rfl)
  · exact ((advance_othersKeep s _ c).follow.trans (endPeak_othersFollow u i true hc)).trans
      ((set_othersKeep _ _ _ c).trans (raise_othersKeep _ n c)).follow

theorem peakTimeout_open {s : State} {c i : Nat} (hlt : c < s.nChans)
    (hp : s.get (VLV_STAT_STATE c) = 2 ∨ s.get (VLV_STAT_STATE c) = 3) (hi : 4 * i < (s.drive c).ipeak) :
    ∃ t, exec (.peakTimeout c i) s = .next t ∧ t.chState c = 5 ∧ (t.drive c).after = true ∧
      (t.drive c).loads = (s.drive c).loads + 1 ∧ t.queueOf c = (s.queueOf c).filter (fun x => !x.began) ∧
      t.get (VBK_OLCNT_COUNT (c / 8)) = satAdd 31 (s.get (VBK_OLCNT_COUNT (c / 8))) 1 % 2 ^ 31 ∧
      raisedIn (Src.bkOpenLoad (c / 8)) s t ∧
      (2 ≤ (s.drive c).loads → t.get (VLV_STAT_CHFLT c) = 1 ∧ t.get (VLV_STAT_FLTCAUSE c) = 3) ∧
      ((s.drive c).loads < 2 → t.get (VLV_STAT_CHFLT c) = s.get (VLV_STAT_CHFLT c)) ∧ othersFollow c s t ∧
      frameOf (.peakTimeout c i) s t := by
  have hc := hlt.trans_le s.nChans_le
  let u := s.peakTick c
  let v := u.endPeak c i true
  obtain ⟨h5, -⟩ := u.endPeak_shown i true hc
  have hself := u.endPeak_drive_self i true hc
  have hloads : (v.drive c).loads = (s.drive c).loads := by rw [hself]; rfl
  have hafter : ¬(v.chState c = 5 ∧ (v.drive c).after = true) := by
    have hnot : (v.drive c).after = false := by rw [hself]; rfl
    exact fun h => absurd (h.2.symm.trans hnot) (by decide)
  have hqueue : v.queueOf c = s.queueOf c :=
    State.queueOf_congr ((u.endPeak_keeps_valve i true hc).same.sched rfl) c
  have hregs : regsBut (peakEndFlds c) s v := u.endPeak_regsBut i true hc
  have hcalm := hregs.calm (peakEndFlds_above c) (u.endPeak_keeps_valve i true hc).fuses
  have hcount : v.get (VBK_OLCNT_COUNT (c / 8)) = s.get (VBK_OLCNT_COUNT (c / 8)) := by
    refine u.endPeak_regsBut i true hc _ ?_
    simp only [List.cons_append, List.nil_append, followFlds, List.forall_mem_cons, Fld.key, VBK_OLCNT_COUNT,
      VLV_STAT_STATE, VLV_IMEAS_IPK, VLV_IMEAS_TPK, VLV_IMEAS_PKTO, VLV_IMEAS_FB, VBK_STAT_RAIL, VBK_STAT_PEAKING,
      VBK_STAT_HOLDING, VBK_STAT_LEADER, VBK_STAT_LEADVALID, VBK_PEAKMAX_MAX, ARB_STAT_TOKENS, ARB_STAT_FBUSED,
      ARB_STAT_NEFF, ARB_STAT_DIPCUT, ARB_TOKMAX_MAX]
    refine ⟨?_, ?_, ?_, ?_, ?_, ?_, ?_, ?_, ?_, ?_, ?_, ?_, ?_, ?_, ?_, ?_, List.forall_mem_nil _⟩ <;> omega
  obtain ⟨ht5, htafter, htloads, htqueue⟩ := v.openLoad_decays hc (by rw [h5]; decide) hafter
  have hlimit : exec (.peakTimeout c i) s = .next (v.openLoad c) :=
    congrArg ok (State.peakLimit_open (peaking_chState hc hp) hi)
  refine ⟨_, hlimit, ht5, htafter, htloads.trans (congrArg (· + 1) hloads),
    htqueue.trans (congrArg (List.filter _) hqueue), (v.openLoad_count hc).trans (by rw [hcount]),
    (v.openLoad_raised hc).since hcalm, fun h2 => v.openLoad_latched hc (by rwa [hloads]), fun h2 => ?_, ?_,
    everyCommandKeepsWhatIsOutsideItsFrame _ _ _ hlimit⟩
  · rw [v.openLoad_unlatched hc (by rwa [hloads]), v.loadCut_chflt hc, hregs]
    rw [List.forall_mem_append]
    refine ⟨?_, fun g hg => ?_⟩
    · simp only [List.forall_mem_cons, Fld.key, VLV_STAT_CHFLT, VLV_STAT_STATE, VLV_IMEAS_IPK, VLV_IMEAS_TPK,
        VLV_IMEAS_PKTO, VLV_IMEAS_FB]
      refine ⟨?_, ?_, ?_, ?_, ?_, List.forall_mem_nil _⟩ <;> omega
    · have hlatch := (latchFlds_vlv c (VLV_STAT_CHFLT c) (by simp)).2
      have hfollow := followFlds_above c g hg
      omega
  · exact ((advance_othersKeep s _ c).follow.trans (endPeak_othersFollow u i true hc)).trans
      (openLoad_othersFollow v hc)

theorem holdEntry_valve {s : State} {c : Nat} (hlt : c < s.nChans) (h5 : s.get (VLV_STAT_STATE c) = 5)
    (ha : (s.drive c).after = false) : ∃ t, exec (.holdEntry c) s = .next t ∧ t.chState c = 4 ∧ othersFollow c s t ∧
      t = { s with regs := t.regs, valves := t.valves } ∧ regsBut (VLV_STAT_STATE c :: followFlds c) s t := by
  have hc := hlt.trans_le s.nChans_le
  have hhold : s.toHold c = s.enter c 4 := if_pos ⟨(s.chState_valve hc).trans h5, ha⟩
  exact ⟨_, congrArg ok hhold, s.enter_chState 4 hc, enter_othersFollow s 4 hc, (s.enter_keeps c 4).frame,
    s.enter_regsBut 4 hc⟩

theorem holdEntry_ly {s : State} (h5 : s.get ARB_LYSTAT_STATE = 5) (ha : (s.drive 128).after = false) :
    ∃ t, exec (.holdEntry 128) s = .next t ∧ t.get ARB_LYSTAT_STATE = 4 ∧ othersKeep 128 s t ∧
      t = { s with regs := t.regs, valves := t.valves } ∧ regsBut [ARB_LYSTAT_STATE] s t := by
  have hhold : s.toHold 128 = s.enter 128 4 := if_pos ⟨h5, ha⟩
  exact ⟨_, congrArg ok hhold, enter_ly_state s (by decide), enter_ly_othersKeep s 4, (s.enter_keeps 128 4).frame,
    enter_ly_regsBut s 4⟩

theorem peakEnd_ly {s : State} (hp : s.get ARB_LYSTAT_STATE = 2 ∨ s.get ARB_LYSTAT_STATE = 3) :
    ∃ t, exec (.peakEnd 128) s = .next t ∧ t.get ARB_LYSTAT_STATE = 5 ∧ (t.drive 128).after = false ∧
      othersKeep 128 s t ∧ t = { s with regs := t.regs, valves := t.valves } ∧ regsBut [ARB_LYSTAT_STATE] s t := by
  let u := s.setDrive 128 (s.drive 128).decaying
  have hdone : s.peakDone 128 = u.enter 128 5 := if_pos hp
  have hself := u.enter_drive_self 128 5
  rw [State.drive_setDrive_self] at hself
  have hkeeps := (u.enter_keeps 128 5).comp rfl ((s.setDrive_keeps 128 _).comp rfl (.refl (foot 0x400008) s))
  refine ⟨_, congrArg ok hdone, enter_ly_state u (by decide), ?_, (setDrive_othersKeep s 128 _).trans
    (enter_ly_othersKeep u 5), hkeeps.frame, enter_ly_regsBut u 5⟩
  rw [hself]
  rfl

end Sys2Proof
end

section
/-! SUPPORT. A chop period ends: the supply switch takes up the leader, and each channel its chop mode (R242, R247, R248,
R266). -/

namespace Sys2Proof.Machine

open Reg

/-! ### What chopping reads -/

/-- The registers and the profiles that the drive's channels took are the same. -/
structure SameHold (s t : State) : Prop where
  regs : t.regs = s.regs
  fuses : t.fuses = s.fuses
  prof : ∀ d, (t.drive d).prof = (s.drive d).prof

namespace SameHold

theorem refl (s : State) : SameHold s s := ⟨rfl, rfl, fun _ => rfl⟩

variable {s t u : State}

theorem trans (h : SameHold s t) (k : SameHold t u) : SameHold s u :=
  ⟨k.regs.trans h.regs, k.fuses.trans h.fuses, fun d => (k.prof d).trans (h.prof d)⟩

theorem chState (h : SameHold s t) (c : Nat) : t.chState c = s.chState c := by
  rw [State.chState, State.get, h.regs, State.chState, State.get]

theorem chansOn (h : SameHold s t) (b : Nat) : t.chansOn b = s.chansOn b := by
  have hn : t.nChans = s.nChans := by rw [State.nChans, h.fuses, State.nChans]
  rw [State.chansOn, hn, State.chansOn]

theorem rail (h : SameHold s t) (b : Nat) : t.rail b = s.rail b := by
  simp only [State.rail, h.chansOn, h.chState]

theorem leader (h : SameHold s t) (b : Nat) : t.leader b = s.leader b := by
  have hhold : ∀ d, (t.drive d).ihold = (s.drive d).ihold := fun d => by rw [Drive.ihold, h.prof, Drive.ihold]
  simp only [State.leader, h.chansOn, h.chState, hhold]

theorem lead (h : SameHold s t) (l : Option Nat) : t.lead l = s.lead l := by
  cases l with
  | none => rfl
  | some c => simp only [State.lead, Drive.fchop, Drive.ihold, h.prof]

theorem chopWant (h : SameHold s t) (b c : Nat) : t.chopWant b c = s.chopWant b c := by
  simp only [State.chopWant, h.chState, h.rail, h.leader]

end SameHold

/-- Nothing but drive records differs. -/
def drivesOnly (s t : State) : Prop := ∃ m, t = { s with valves := { s.valves with drives := m } }

theorem drivesOnly.refl (s : State) : drivesOnly s s := ⟨s.valves.drives, rfl⟩

theorem drivesOnly.trans {s t u : State} (h : drivesOnly s t) (k : drivesOnly t u) : drivesOnly s u := by
  obtain ⟨a, rfl⟩ := h
  obtain ⟨b, rfl⟩ := k
  exact ⟨b, rfl⟩

theorem State.setDrive_drivesOnly (s : State) (c : Nat) (x : Drive) : drivesOnly s (s.setDrive c x) := ⟨_, rfl⟩

theorem drivesOnly.sameHold {s t : State} (h : drivesOnly s t) (hp : ∀ d, (t.drive d).prof = (s.drive d).prof) :
    SameHold s t := by
  obtain ⟨m, rfl⟩ := h
  exact ⟨rfl, rfl, hp⟩

theorem drivesOnly.supplyOf {s t : State} (h : drivesOnly s t) (b : Nat) : t.supplyOf b = s.supplyOf b := by
  obtain ⟨m, rfl⟩ := h
  rfl

/-! ### The channels' loads at the end of a period -/

/-- A channel's record after a period: in hold throughout, if it holds. -/
def Drive.heldOn (d : Drive) (h : Bool) : Drive := { d with whole := d.whole || h }

theorem Drive.heldOn_false (d : Drive) : d.heldOn false = d := by rw [Drive.heldOn, Bool.or_false]

/-- The channel carried its load in the period that ends: it did not hold throughout, or its current was high enough. -/
def State.carried (s : State) (c i : Nat) : Prop :=
  s.chState c ≠ 4 ∨ (s.drive c).whole = false ∨ (s.drive c).ihold ≤ 4 * i

theorem State.chopLoad_eq {s : State} {c i : Nat} (h : s.carried c i) : s.chopLoad c i =
    if s.chState c = 4 then s.setDrive c ((s.drive c).heldOn true) else s := by
  have hheld : (s.drive c).heldOn true = { s.drive c with whole := true } := by rw [Drive.heldOn, Bool.or_true]
  rw [State.chopLoad, hheld]
  by_cases h4 : s.chState c = 4
  · have hload : ¬((s.drive c).whole = true ∧ 4 * i < (s.drive c).ihold) := by
      rintro ⟨hw, hi⟩
      rcases h with h | h | h
      · exact h h4
      · exact absurd (hw.symm.trans h) (by decide)
      · omega
    simp only [h4, ne_eq, not_true_eq_false, if_false, if_true, if_neg hload]
  · simp only [ne_eq, h4, not_false_eq_true, if_true, if_false]

theorem State.chopLoad_drive {s : State} {c i : Nat} (h : s.carried c i) (d : Nat) :
    (s.chopLoad c i).drive d = if d = c then (s.drive c).heldOn (s.chState c == 4) else s.drive d := by
  rw [State.chopLoad_eq h]
  by_cases h4 : s.chState c = 4
  · rw [if_pos h4, State.drive_setDrive, h4]
    rfl
  · rw [if_neg h4, beq_eq_false_iff_ne.mpr h4, Drive.heldOn_false]
    split
    next hd => rw [hd]
    next => rfl

theorem State.chopLoad_drivesOnly {s : State} {c i : Nat} (h : s.carried c i) : drivesOnly s (s.chopLoad c i) := by
  rw [State.chopLoad_eq h]
  split
  · exact s.setDrive_drivesOnly c _
  · exact .refl s

theorem State.chopLoad_sameHold {s : State} {c i : Nat} (h : s.carried c i) : SameHold s (s.chopLoad c i) :=
  (State.chopLoad_drivesOnly h).sameHold fun d => by
    rw [State.chopLoad_drive h]
    split
    next hd => rw [hd]; rfl
    next => rfl

/-- The loads of the listed channels, each of which carried its load. -/
theorem foldl_chopLoad (i : Nat → Nat) (l : List Nat) (hn : l.Nodup) (s : State) (hl : ∀ c ∈ l, s.carried c (i c)) :
    drivesOnly s (l.foldl (fun s c => s.chopLoad c (i c)) s) ∧
    ∀ d, (l.foldl (fun s c => s.chopLoad c (i c)) s).drive d =
      if d ∈ l then (s.drive d).heldOn (s.chState d == 4) else s.drive d := by
  induction l generalizing s with
  | nil => exact ⟨.refl s, fun d => (if_neg List.not_mem_nil).symm⟩
  | cons c l ih =>
    obtain ⟨hc, hn⟩ := List.nodup_cons.mp hn
    have hload := hl c List.mem_cons_self
    have hsame := State.chopLoad_sameHold hload
    have hne : ∀ d, d ≠ c → (s.chopLoad c (i c)).drive d = s.drive d := fun d hd =>
      (State.chopLoad_drive hload d).trans (if_neg hd)
    have hrest : ∀ d ∈ l, (s.chopLoad c (i c)).carried d (i d) := fun d hd => by
      have hdc : d ≠ c := fun h => hc (h ▸ hd)
      rw [State.carried, hsame.chState, hne d hdc]
      exact hl d (.tail _ hd)
    obtain ⟨hframe, hdrive⟩ := ih hn (s.chopLoad c (i c)) hrest
    refine ⟨(State.chopLoad_drivesOnly hload).trans hframe, fun d => (hdrive d).trans ?_⟩
    rw [hsame.chState]
    by_cases hd : d = c
    · subst hd
      rw [if_neg hc, if_pos List.mem_cons_self, State.chopLoad_drive hload, if_pos rfl]
    · rw [hne d hd]
      simp only [List.mem_cons, hd, false_or]

/-! ### The chop modes of the next period -/

/-- A channel's record with its chop mode. -/
def Drive.chopped (d : Drive) (k : Nat) : Drive := { d with chop := k }

theorem State.chopMode_edge (s : State) (b c : Nat) : s.chopMode b true c = s.chopWant b c := if_pos rfl

theorem State.chopStep_edge (s : State) (b c d : Nat) : (s.chopStep b true c).drive d =
    if d = c then (s.drive c).chopped (s.chopWant b c) else s.drive d := by
  rw [State.chopStep_drive, s.chopMode_edge]
  rfl

theorem State.chopStep_drivesOnly (s : State) (b : Nat) (edge : Bool) (c : Nat) : drivesOnly s (s.chopStep b edge c) :=
  ⟨_, s.chopStep_frame b edge c⟩

theorem State.chopStep_sameHold (s : State) (b c : Nat) : SameHold s (s.chopStep b true c) :=
  (s.chopStep_drivesOnly b true c).sameHold fun d => by
    rw [s.chopStep_edge]
    split
    next hd => rw [hd]; rfl
    next => rfl

theorem foldl_chopStep_edge (b : Nat) (l : List Nat) (s : State) :
    drivesOnly s (l.foldl (fun s c => s.chopStep b true c) s) ∧
    ∀ d, (l.foldl (fun s c => s.chopStep b true c) s).drive d =
      if d ∈ l then (s.drive d).chopped (s.chopWant b d) else s.drive d := by
  induction l generalizing s with
  | nil => exact ⟨.refl s, fun d => (if_neg List.not_mem_nil).symm⟩
  | cons c l ih =>
    obtain ⟨hframe, hdrive⟩ := ih (s.chopStep b true c)
    refine ⟨(s.chopStep_drivesOnly b true c).trans hframe, fun d => (hdrive d).trans ?_⟩
    rw [(s.chopStep_sameHold b c).chopWant, s.chopStep_edge]
    by_cases hd : d = c
    · subst hd
      rw [if_pos rfl, if_pos List.mem_cons_self]
      split <;> rfl
    · rw [if_neg hd]
      simp only [List.mem_cons, hd, false_or]

/-- What the supply switch of a bank takes up at a period's end (R242, R247). -/
def State.nextSupply (s : State) (b : Nat) : Supply := if s.rail b = 1 then s.lead (s.leader b) else Supply.off

/-- The supply switch as the next period begins. -/
def State.supplied (s : State) (b : Nat) : State :=
  if s.nextSupply b = s.supplyOf b then s else s.setSupply b (s.nextSupply b)

theorem State.chopShow_edge (s : State) (b : Nat) :
    s.chopShow b true = ((s.supplied b).chansOn b).foldl (fun s c => s.chopStep b true c) (s.supplied b) := by
  have hnext : (if s.rail b ≠ 1 then Supply.off
      else if true || (s.supplyOf b).lead == 0 then s.lead (s.leader b) else s.supplyOf b) = s.nextSupply b := by
    rw [State.nextSupply]
    by_cases h : s.rail b = 1
    · rw [if_neg (not_not.mpr h), if_pos h]
      rfl
    · rw [if_pos h, if_neg h]
  unfold State.chopShow State.supplied
  rw [← hnext]

theorem State.supplied_drive (s : State) (b d : Nat) : (s.supplied b).drive d = s.drive d := by
  unfold State.supplied
  split <;> rfl

theorem State.supplied_sameHold (s : State) (b : Nat) : SameHold s (s.supplied b) := by
  refine ⟨?_, ?_, fun d => by rw [s.supplied_drive]⟩ <;> unfold State.supplied <;> split <;> rfl

theorem State.supplied_supplyOf (s : State) (b a : Nat) :
    (s.supplied b).supplyOf a = if a = b then s.nextSupply b else s.supplyOf a := by
  unfold State.supplied
  split
  next h =>
    split
    next ha => rw [ha, h]
    next => rfl
  next => exact mget_mset _ _ _ _ _

/-- Nothing but the supply switches differs. -/
theorem State.supplied_frame (s : State) (b : Nat) :
    ∃ m, s.supplied b = { s with valves := { s.valves with supply := m } } := by
  unfold State.supplied
  split
  · exact ⟨s.valves.supply, rfl⟩
  · exact ⟨_, rfl⟩

theorem State.chansOn_nodup (s : State) (b : Nat) : (s.chansOn b).Nodup := by
  unfold State.chansOn
  split
  · exact List.nodup_singleton _
  · exact List.Nodup.filter _ (List.Nodup.map (fun i j h => by simpa using h) List.nodup_range)

/-- A period that ends with every load carried. -/
theorem State.chopEnd_shown {s : State} {b : Nat} {i : List Nat}
    (hl : ∀ c ∈ s.chansOn b, s.carried c (i.getD (c % 8) 0)) :
    (s.chopEnd b i).supplyOf b = s.nextSupply b ∧ (∀ a, a ≠ b → (s.chopEnd b i).supplyOf a = s.supplyOf a) ∧
    (∀ d, (s.chopEnd b i).drive d = if d ∈ s.chansOn b
      then ((s.drive d).heldOn (s.chState d == 4)).chopped (s.chopWant b d) else s.drive d) ∧
    (s.chopEnd b i) = { s with valves := { s.valves with
      drives := (s.chopEnd b i).valves.drives, supply := (s.chopEnd b i).valves.supply } } := by
  obtain ⟨hload, hheld⟩ := foldl_chopLoad (fun c => i.getD (c % 8) 0) _ (s.chansOn_nodup b) s hl
  have hend : s.chopEnd b i = State.chopShow ((s.chansOn b).foldl (fun s c => s.chopLoad c (i.getD (c % 8) 0)) s) b true :=
    rfl
  generalize (s.chansOn b).foldl (fun s c => s.chopLoad c (i.getD (c % 8) 0)) s = u at hload hheld hend
  have hsame : SameHold s u := hload.sameHold fun d => by
    rw [hheld]
    split <;> rfl
  have hsup := u.supplied_sameHold b
  obtain ⟨hstep, hchop⟩ := foldl_chopStep_edge b ((u.supplied b).chansOn b) (u.supplied b)
  rw [hend, u.chopShow_edge]
  have hnext : u.nextSupply b = s.nextSupply b := by
    rw [State.nextSupply, hsame.rail, hsame.leader, hsame.lead, State.nextSupply]
  refine ⟨?_, fun a ha => ?_, fun d => ?_, ?_⟩
  · rw [hstep.supplyOf, u.supplied_supplyOf, if_pos rfl, hnext]
  · rw [hstep.supplyOf, u.supplied_supplyOf, if_neg ha, hload.supplyOf]
  · rw [hchop, hsup.chansOn, hsame.chansOn, hsup.chopWant, hsame.chopWant, u.supplied_drive, hheld]
    split <;> rfl
  · generalize ((u.supplied b).chansOn b).foldl (fun s c => s.chopStep b true c) (u.supplied b) = t at hstep
    obtain ⟨m, hm⟩ := u.supplied_frame b
    obtain ⟨a, rfl⟩ := hload
    obtain ⟨k, rfl⟩ := hstep
    rw [hm]

end Sys2Proof.Machine

namespace Sys2Proof

open Sys2Proof.Machine Sys2Proof.Machine.Reg

/-- Every channel of a bank carried its load in the period that ends. -/
theorem carried_of_all {s : State} {b : Nat} {i : List Nat} (h : ((s.chansOn b).all fun c => s.chState c != 4 ||
    !(s.drive c).whole || decide ((s.drive c).ihold ≤ 4 * i.getD (c % 8) 0)) = true) :
    ∀ c ∈ s.chansOn b, s.carried c (i.getD (c % 8) 0) := fun c hc => by
  have hload := List.all_eq_true.mp h c hc
  simp only [Bool.or_eq_true, bne_iff_ne, Bool.not_eq_true', decide_eq_true_eq, or_assoc] at hload
  exact hload

/-- Settles O34: each end of a peak is an entry into the decay, with or without an open load, and a chop period's end
changes the bank's supply switch and its channels' chop modes alone. -/
theorem peaksHoldsAndChopPeriodsEndAsTheProfileSays : Obligations.PeaksHoldsAndChopPeriodsEndAsTheProfileSays := by
  refine ⟨fun s c => peakEnd_shows, fun s c hlt h2 h3 => ⟨s, ?_, rfl⟩, fun s c i => peakTimeout_reached,
    fun s c i => peakTimeout_open, fun s c => holdEntry_valve, fun s => holdEntry_ly, fun s => peakEnd_ly,
    fun s c hlt hno => ⟨s, ?_, rfl⟩, fun s b i hb hall => ?_⟩
  · have hidle : s.peakDone c = s := if_neg fun h => by
      rw [State.chState_valve _ (hlt.trans_le s.nChans_le)] at h
      exact h.elim h2 h3
    exact congrArg ok hidle
  · have hidle : s.toHold c = s := if_neg fun h => by
      rw [State.chState_valve _ (hlt.trans_le s.nChans_le)] at h
      rcases hno with h5 | ha
      · exact h5 h.1
      · exact absurd (h.2.symm.trans ha) (by decide)
    exact congrArg ok hidle
  · obtain ⟨hsup, hothers, hdrive, hframe⟩ := State.chopEnd_shown (carried_of_all hall)
    exact ⟨_, rfl, hsup, fun c _ => hdrive c, fun a _ ha => hothers a ha, hframe⟩

end Sys2Proof
end

section
/-! SUPPORT. Channel and bank faults: the latch, its count and event, and the firings that end (R266, R267). -/

namespace Sys2Proof.Machine

open Reg

/-! ### A channel's fault -/

/-- What a channel's fault leaves before its event. -/
def State.faultLatched (s : State) (c cause : Nat) : State := (s.cutFiring c).chLatched c cause

theorem State.chFault_valve (s : State) {c : Nat} (cause : Nat) (hc : c < s.nChans) :
    s.chFault c cause = (s.faultLatched c cause).raise (Src.bkChFault (c / 8)) := by
  rw [State.chFault, if_neg (ne_ly (hc.trans_le s.nChans_le)), if_neg (Nat.not_le.mpr hc)]
  rfl

theorem State.faultLatched_drive (s : State) (c cause d : Nat) :
    (s.faultLatched c cause).drive d = (s.cutFiring c).drive d :=
  State.drive_congr (State.chLatched_valves _ c cause) d

theorem State.faultLatched_queueOf (s : State) (c cause d : Nat) :
    (s.faultLatched c cause).queueOf d = (s.cutFiring c).queueOf d :=
  State.queueOf_congr (State.chLatched_sched _ c cause) d

section
variable (s : State) {c : Nat} (cause : Nat) (hc : c < 128)
include hc

theorem State.faultLatched_calm : Calm (latchFlds c ++ cutFlds c) s (s.faultLatched c cause) := by
  have habove : ∀ g ∈ latchFlds c ++ cutFlds c, 32 * 0x1000 ≤ g.key :=
    List.forall_mem_append.mpr ⟨latchFlds_above c, cutFlds_above c⟩
  exact ((s.cutFiring_calm hc).mono (fun f hf => List.mem_append_right _ hf) habove).trans
    ((State.chLatched_calm _ c cause).mono (fun f hf => List.mem_append_left _ hf) habove)

theorem State.faultLatched_shown (hk : cause < 4) : (s.faultLatched c cause).get (VLV_STAT_CHFLT c) = 1 ∧
    (s.faultLatched c cause).get (VLV_STAT_FLTCAUSE c) = cause ∧
    (s.faultLatched c cause).get (VLV_FLTCNT_COUNT c) = satAdd 31 (s.get (VLV_FLTCNT_COUNT c)) 1 % 2 ^ 31 := by
  obtain ⟨hflt, hcause, hcnt⟩ := (s.cutFiring c).chLatched_shown c hk
  have hold : (s.cutFiring c).get (VLV_FLTCNT_COUNT c) = s.get (VLV_FLTCNT_COUNT c) :=
    s.cutFiring_regsBut hc _ (latchFlds_ne_cut c _ (by simp))
  rw [hold] at hcnt
  exact ⟨hflt, hcause, hcnt⟩

theorem State.faultLatched_decays (h2 : 2 ≤ s.chState c) (ha : ¬(s.chState c = 5 ∧ (s.drive c).after = true)) :
    (s.faultLatched c cause).chState c = 5 ∧ ((s.faultLatched c cause).drive c).after = true := by
  obtain ⟨h5, hafter⟩ := s.cutFiring_decays hc h2 ha
  rw [s.faultLatched_drive]
  refine ⟨?_, hafter⟩
  rw [← h5, State.chState_valve _ hc, State.chState_valve _ hc]
  refine State.chLatched_regsBut (s.cutFiring c) c cause _ ?_
  simp only [List.forall_mem_cons, Fld.key, VLV_STAT_STATE, VLV_STAT_CHFLT, VLV_STAT_FLTCAUSE, VLV_FLTCNT_COUNT]
  refine ⟨?_, ?_, ?_, List.forall_mem_nil _⟩ <;> omega

end

/-! ### A bank's fault -/

/-- The firings executing on the listed channels end. -/
def State.cutAll (s : State) (l : List Nat) : State :=
  l.foldl (fun s c => if (s.current c).isSome then s.cutFiring c else s) s

theorem State.railFault_bank {s : State} {b : Nat} (hb : b < s.nBanks) (h16 : b < 16) : s.railFault b =
    (((s.set (VBK_STAT_BKFLT b) 1).bump (VBK_RSCNT_COUNT b)).cutAll (bankChans b)).raise (Src.bkRailShort b) := by
  rw [State.railFault, if_neg (by omega), if_neg (Nat.not_le.mpr hb)]
  rfl

theorem State.nBanks_le (s : State) : s.nBanks ≤ 16 := by
  unfold State.nBanks
  split <;> decide

theorem mem_bankChans {b c : Nat} : c ∈ bankChans b ↔ c / 8 = b := by
  rw [bankChans, List.mem_map]
  refine ⟨?_, fun h => ⟨c % 8, List.mem_range.mpr (Nat.mod_lt _ (by decide)), by omega⟩⟩
  rintro ⟨i, hi, rfl⟩
  rw [List.mem_range] at hi
  omega

/-- What the ends of the listed channels' firings write. -/
abbrev cutAllFlds (l : List Nat) : List Fld := l.flatMap cutFlds

theorem cutAllFlds_above (l : List Nat) : ∀ g ∈ cutAllFlds l, 32 * 0x1000 ≤ g.key := fun g hg => by
  obtain ⟨c, -, hg⟩ := List.mem_flatMap.mp hg
  exact cutFlds_above c g hg

/-- The firings of the listed channels end, and nothing begins. -/
theorem State.cutAll_ends (l : List Nat) (hl : ∀ c ∈ l, c < 128) (s : State) : Calm (cutAllFlds l) s (s.cutAll l) ∧
    (∀ c ∈ l, (s.cutAll l).current c = none) ∧ ∀ c, s.current c = none → (s.cutAll l).current c = none := by
  induction l generalizing s with
  | nil => exact ⟨.refl (List.forall_mem_nil _) s, List.forall_mem_nil _, fun _ h => h⟩
  | cons c l ih =>
    obtain ⟨hc, hl⟩ := List.forall_mem_cons.mp hl
    let u := if (s.current c).isSome then s.cutFiring c else s
    obtain ⟨hcalm, hlisted, hkept⟩ := ih hl u
    have hself : u.current c = none := by
      by_cases h : (s.current c).isSome
      · have hu : u = s.cutFiring c := if_pos h
        rw [hu]
        exact State.removeCurrent_current _ c
      · have hu : u = s := if_neg h
        rw [hu]
        exact Option.not_isSome_iff_eq_none.mp h
    have hothers : ∀ d, s.current d = none → u.current d = none := fun d hd => by
      by_cases hdc : d = c
      · rw [hdc, hself]
      · by_cases h : (s.current c).isSome
        · have hu : u = s.cutFiring c := if_pos h
          rw [hu, State.current, State.cutFiring, State.removeCurrent, State.queueOf_setQueue_ne _ _ hdc,
            s.gateOff_queueOf]
          exact hd
        · have hu : u = s := if_neg h
          rw [hu, hd]
    have hfirst : Calm (cutAllFlds (c :: l)) s u := by
      have hcut : Calm (cutFlds c) s u := by
        by_cases h : (s.current c).isSome
        · have hu : u = s.cutFiring c := if_pos h
          rw [hu]
          exact s.cutFiring_calm hc
        · have hu : u = s := if_neg h
          rw [hu]
          exact .refl (cutFlds_above c) s
      exact hcut.mono (fun f hf => List.mem_flatMap.mpr ⟨c, List.mem_cons_self, hf⟩) (cutAllFlds_above _)
    refine ⟨hfirst.trans (hcalm.mono (fun f hf => ?_) (cutAllFlds_above _)), ?_, fun d hd => hkept d (hothers d hd)⟩
    · obtain ⟨d, hd, hf⟩ := List.mem_flatMap.mp hf
      exact List.mem_flatMap.mpr ⟨d, .tail _ hd, hf⟩
    · exact List.forall_mem_cons.mpr ⟨hkept c hself, hlisted⟩

/-- The latch and the count of a bank's rail faults. -/
abbrev railFlds (b : Nat) : List Fld := [VBK_STAT_BKFLT b, VBK_RSCNT_COUNT b]

theorem railFlds_ne_cut (b : Nat) : ∀ f ∈ railFlds b, ∀ g ∈ cutAllFlds (bankChans b), f.key ≠ g.key := by
  intro f hf g hg
  obtain ⟨c, hc, hg⟩ := List.mem_flatMap.mp hg
  rw [mem_bankChans] at hc
  subst hc
  revert g
  revert f
  simp only [List.cons_append, List.nil_append, followFlds, List.forall_mem_cons, Fld.key, VBK_STAT_BKFLT,
    VBK_RSCNT_COUNT, VLV_STAT_STATE, VLV_STAT_UNMEAS, VLV_NMCNT_UNMEAS, VLV_STAT_QOCC, EJS_QOCC_MAX, EJS_QOCC_MAXCH,
    VBK_STAT_RAIL, VBK_STAT_PEAKING, VBK_STAT_HOLDING, VBK_STAT_LEADER, VBK_STAT_LEADVALID, VBK_PEAKMAX_MAX,
    ARB_STAT_TOKENS, ARB_STAT_FBUSED, ARB_STAT_NEFF, ARB_STAT_DIPCUT, ARB_TOKMAX_MAX]
  refine ⟨?_, ?_, List.forall_mem_nil _⟩ <;>
    refine ⟨?_, ?_, ?_, ?_, ?_, ?_, ?_, ?_, ?_, ?_, ?_, ?_, ?_, ?_, ?_, ?_, ?_, List.forall_mem_nil _⟩ <;> omega

theorem State.railLatched_shown (s : State) (b : Nat) :
    ((s.set (VBK_STAT_BKFLT b) 1).bump (VBK_RSCNT_COUNT b)).get (VBK_STAT_BKFLT b) = 1 ∧
    ((s.set (VBK_STAT_BKFLT b) 1).bump (VBK_RSCNT_COUNT b)).get (VBK_RSCNT_COUNT b) =
      satAdd 31 (s.get (VBK_RSCNT_COUNT b)) 1 % 2 ^ 31 := by
  have hne : (VBK_STAT_BKFLT b).key ≠ (VBK_RSCNT_COUNT b).key := by
    simp only [Fld.key, VBK_STAT_BKFLT, VBK_RSCNT_COUNT]; omega
  rw [State.bump_eq]
  refine ⟨?_, ?_⟩
  · rw [State.get_set_ne _ _ _ _ hne, State.get_set]
    rfl
  · rw [State.get_set, State.get_set_ne _ _ _ _ hne.symm]
    rfl

end Sys2Proof.Machine
end

section
/-! SUPPORT. LY is released, fails and is energised; VBST is measured (R239, R254, R268 to R270). -/

namespace Sys2Proof.Machine

open Reg

/-! ### LY -/

/-- What LY's gate-off and release write. -/
abbrev releaseFlds : List Fld := [ARB_LYSTAT_STATE, ARB_LYSTAT_CLOSED, ARB_LYCTRL_ENERGISE]

theorem State.lyDriven_eq (s : State) :
    s.lyDriven = (decide (2 ≤ s.chState 128) && !(s.chState 128 == 5 && (s.drive 128).after)) := rfl

theorem State.lyDriven_iff (s : State) :
    s.lyDriven = true ↔ 2 ≤ s.chState 128 ∧ ¬(s.chState 128 = 5 ∧ (s.drive 128).after = true) := by
  rw [s.lyDriven_eq, Bool.and_eq_true, decide_eq_true_eq, Bool.not_eq_true', ← Bool.not_eq_true, Bool.and_eq_true,
    beq_iff_eq]

/-- LY is not driven once its low side is off. -/
theorem State.gateOff_ly_undriven (s : State) : (s.gateOff 128).lyDriven = false := by
  rw [← Bool.not_eq_true, State.lyDriven_iff, not_and_not_right]
  intro h2
  by_cases h : s.chState 128 = 0 ∨ (s.chState 128 = 5 ∧ (s.drive 128).after = true)
  · have hoff : s.gateOff 128 = s := if_pos h
    rw [hoff] at h2 ⊢
    exact h.resolve_left (by omega)
  · by_cases h1 : s.chState 128 = 1
    · have hoff : s.gateOff 128 = s.enter 128 0 := (if_neg h).trans (if_pos h1)
      have hidle : (s.gateOff 128).chState 128 = 0 := by
        rw [hoff, State.chState, State.get, s.enter_ly_regs]
        exact State.get_set s ARB_LYSTAT_STATE 0
      omega
    · rw [not_or] at h
      obtain ⟨h5, -, hafter, -⟩ := s.gateOff_ly_decays (by omega) h.2
      exact ⟨h5, hafter⟩

/-- LY at its low side's end and released. -/
def State.lyEnded (s : State) : State := (s.gateOff 128).set ARB_LYCTRL_ENERGISE 0

theorem State.lyEnded_regsBut (s : State) : regsBut releaseFlds s s.lyEnded :=
  (s.gateOff_ly_regsBut.mono fun f hf => by
    simp only [List.mem_cons, List.not_mem_nil] at hf ⊢
    tauto).set (by simp)

/-- Outside a calibration a fault of LY releases it (R269). -/
theorem State.gateOff_lyFailed {s : State} (h : s.calPhase = 0) :
    (s.gateOff 128).lyFailed = s.lyEnded.raise Src.lanyardFault := by
  have hphase : (s.gateOff 128).calPhase = 0 := by
    rw [State.calPhase, s.gateOff_ly_regsBut]
    · exact h
    · simp only [List.forall_mem_cons, Fld.key, CAL_STATUS_PHASE, ARB_LYSTAT_STATE, ARB_LYSTAT_CLOSED]
      refine ⟨?_, ?_, List.forall_mem_nil _⟩ <;> decide
  have hdriven : s.lyEnded.lyDriven = false := by
    have hstate : s.lyEnded.chState 128 = (s.gateOff 128).chState 128 := State.get_set_ne _ _ _ _ (by decide)
    rw [State.lyDriven_eq, hstate]
    exact s.gateOff_ly_undriven
  have hoff : (s.gateOff 128).lyOff = s.lyEnded := if_neg fun hd => absurd (hdriven.symm.trans hd) (by decide)
  rw [State.lyFailed, if_neg (by omega), hoff]

theorem State.lyEnded_calm (s : State) : Calm releaseFlds s s.lyEnded := by
  refine s.lyEnded_regsBut.calm ?_ (s.gateOff_keeps 128).fuses
  simp only [List.forall_mem_cons, Fld.key, ARB_LYSTAT_STATE, ARB_LYSTAT_CLOSED, ARB_LYCTRL_ENERGISE]
  refine ⟨?_, ?_, ?_, List.forall_mem_nil _⟩ <;> decide

theorem State.lyEnded_energise (s : State) : s.lyEnded.get ARB_LYCTRL_ENERGISE = 0 := State.get_set _ _ 0

theorem State.lyEnded_state {s : State} (h2 : 2 ≤ s.chState 128)
    (ha : ¬(s.chState 128 = 5 ∧ (s.drive 128).after = true)) : s.lyEnded.get ARB_LYSTAT_STATE = 5 := by
  obtain ⟨h5, -⟩ := s.gateOff_ly_decays h2 ha
  exact (State.get_set_ne _ _ _ _ (by decide)).trans h5

end Sys2Proof.Machine

namespace Sys2Proof

open Sys2Proof.Machine Sys2Proof.Machine.Reg

theorem gateOff_ly_othersKeep (s : State) : othersKeep 128 s (s.gateOff 128) := fun d hd =>
  ⟨s.gateOff_queueOf 128 d, s.gateOff_ly_drive_ne hd⟩

theorem lyEnded_othersKeep (s : State) : othersKeep 128 s s.lyEnded :=
  (gateOff_ly_othersKeep s).trans (set_othersKeep _ _ _ 128)

/-! ### Faults -/

theorem lowOn_of_state {s : State} {c : Nat} (h2 : 2 ≤ s.chState c) (h4 : s.chState c ≤ 4) : s.lowOn c = true := by
  rw [State.lowOn, decide_eq_true (show 2 ≤ s.chState c ∧ s.chState c ≤ 4 from ⟨h2, h4⟩)]
  rfl

theorem lowOn_off {s : State} {c : Nat} (h : s.chState c < 2 ∨ 4 < s.chState c) (hs : (s.drive c).slow = false) :
    s.lowOn c = false := by
  rw [State.lowOn, hs, decide_eq_false (by omega)]
  rfl

/-- What a fault of a valve channel whose low side is on does. -/
theorem chFault_latches {s : State} {c k : Nat} (hlt : c < s.nChans) (h2 : 2 ≤ s.get (VLV_STAT_STATE c))
    (h4 : s.get (VLV_STAT_STATE c) ≤ 4) (hk : k < 4) : s.lowOn c = true ∧
      (s.chFault c k).get (VLV_STAT_CHFLT c) = 1 ∧ (s.chFault c k).get (VLV_STAT_FLTCAUSE c) = k ∧
      (s.chFault c k).chState c = 5 ∧ ((s.chFault c k).drive c).after = true ∧
      (s.chFault c k).queueOf c = (s.queueOf c).filter (fun x => !x.began) ∧
      (s.chFault c k).get (VLV_FLTCNT_COUNT c) = satAdd 31 (s.get (VLV_FLTCNT_COUNT c)) 1 % 2 ^ 31 ∧
      raisedIn (Src.bkChFault (c / 8)) s (s.chFault c k) ∧ othersFollow c s (s.chFault c k) := by
  have hc := hlt.trans_le s.nChans_le
  rw [← s.chState_valve hc] at h2 h4
  obtain ⟨h5, hafter⟩ := s.faultLatched_decays k hc h2 (fun h => by omega)
  obtain ⟨hflt, hcause, hcnt⟩ := s.faultLatched_shown k hc hk
  have hraise := (s.faultLatched c k).raise_keeps (Src.bkChFault (c / 8))
  have hget : ∀ f : Fld, 32 * 0x8000 ≤ f.key → f.key < 32 * 0xA000 →
      (s.chFault c k).get f = (s.faultLatched c k).get f := fun f hlo hhi => by
    rw [s.chFault_valve k hlt, State.raise_get_drive _ _ hlo (by omega)]
  have hlatch : ∀ f ∈ latchFlds c, (s.chFault c k).get f = (s.faultLatched c k).get f := fun f hf =>
    hget f (latchFlds_vlv c f hf).1 (latchFlds_vlv c f hf).2
  refine ⟨lowOn_of_state h2 h4, (hlatch _ (by simp)).trans hflt, (hlatch _ (by simp)).trans hcause, ?_, ?_, ?_,
    (hlatch _ (by simp)).trans hcnt, ?_, ?_⟩
  · rw [State.chState_valve _ hc] at h5 ⊢
    refine (hget _ ?_ ?_).trans h5 <;> simp only [Fld.key, VLV_STAT_STATE] <;> omega
  · rw [s.chFault_valve k hlt, State.drive_congr (hraise.same.valves rfl)]
    exact hafter
  · rw [s.chFault_valve k hlt, State.queueOf_congr (hraise.same.sched rfl), s.faultLatched_queueOf]
    exact s.cutFiring_queueOf c
  · rw [s.chFault_valve k hlt]
    exact (State.raise_status _ _).since (s.faultLatched_calm k hc)
  · rw [s.chFault_valve k hlt]
    refine (cutFiring_othersFollow s hc).trans (.trans ?_ (raise_othersKeep _ _ c).follow)
    exact (othersKeep_of_parts c (State.chLatched_sched _ c k) (State.chLatched_valves _ c k)).follow

/-- LY's latch and its cause. -/
def lyLatched (s : State) (k : Nat) : State := (s.set ARB_LYSTAT_FLT 1).set ARB_LYSTAT_FLTCAUSE k

theorem chFault_ly {s : State} (k : Nat) (hcal : s.calPhase = 0) :
    s.chFault 128 k = (lyLatched s k).lyEnded.raise Src.lanyardFault := by
  have hphase : (lyLatched s k).calPhase = 0 :=
    ((State.get_set_ne _ _ _ _ (by decide)).trans (State.get_set_ne _ _ _ _ (by decide))).trans hcal
  exact State.gateOff_lyFailed hphase

/-- What a fault of LY, whose low side is on, does outside a calibration. -/
theorem chFault_ly_latches {s : State} {k : Nat} (h2 : 2 ≤ s.get ARB_LYSTAT_STATE) (h4 : s.get ARB_LYSTAT_STATE ≤ 4)
    (hcal : s.calPhase = 0) (hk : k < 4) : s.lowOn 128 = true ∧ (s.chFault 128 k).get ARB_LYSTAT_FLT = 1 ∧
      (s.chFault 128 k).get ARB_LYSTAT_FLTCAUSE = k ∧ (s.chFault 128 k).get ARB_LYSTAT_STATE = 5 ∧
      (s.chFault 128 k).get ARB_LYCTRL_ENERGISE = 0 ∧ raisedIn Src.lanyardFault s (s.chFault 128 k) ∧
      othersKeep 128 s (s.chFault 128 k) := by
  let w := lyLatched s k
  have hstate : w.chState 128 = s.get ARB_LYSTAT_STATE :=
    (State.get_set_ne _ _ _ _ (by decide)).trans (State.get_set_ne _ _ _ _ (by decide))
  have h5 := State.lyEnded_state (s := w) (by omega) (fun h => by omega)
  have hget : ∀ f : Fld, 32 * 0x8000 ≤ f.key → f.key < 32 * 0xB000 →
      (s.chFault 128 k).get f = w.lyEnded.get f := fun f hlo hhi => by
    rw [chFault_ly k hcal]
    exact w.lyEnded.raise_get_drive _ hlo hhi
  have hlatch : regsBut [ARB_LYSTAT_FLT, ARB_LYSTAT_FLTCAUSE] s w := ((regsBut.refl _ s).set (by simp)).set (by simp)
  have hcalm := hlatch.calm (by decide) rfl
  refine ⟨lowOn_of_state h2 h4, ?_, ?_, (hget _ (by decide) (by decide)).trans h5,
    (hget _ (by decide) (by decide)).trans w.lyEnded_energise, ?_, ?_⟩
  · rw [hget _ (by decide) (by decide), w.lyEnded_regsBut _ (by decide)]
    exact (State.get_set_ne _ _ _ _ (by decide)).trans (State.get_set s ARB_LYSTAT_FLT 1)
  · rw [hget _ (by decide) (by decide), w.lyEnded_regsBut _ (by decide)]
    exact (State.get_set _ ARB_LYSTAT_FLTCAUSE k).trans (Nat.mod_eq_of_lt hk)
  · rw [chFault_ly k hcal]
    exact ((State.raise_status _ _).since w.lyEnded_calm).since hcalm
  · rw [chFault_ly k hcal]
    exact (((set_othersKeep s _ _ 128).trans (set_othersKeep _ _ _ 128)).trans (lyEnded_othersKeep w)).trans
      (raise_othersKeep _ _ 128)

/-- What a rail fault of a bank does. -/
theorem railFault_latches {s : State} {b : Nat} (hb : b < s.nBanks) : (s.railFault b).get (VBK_STAT_BKFLT b) = 1 ∧
    (s.railFault b).get (VBK_RSCNT_COUNT b) = satAdd 31 (s.get (VBK_RSCNT_COUNT b)) 1 % 2 ^ 31 ∧
    raisedIn (Src.bkRailShort b) s (s.railFault b) ∧
    ∀ c, c < 128 → c / 8 = b → ((s.railFault b).queueOf c).any (·.began) = false := by
  have h16 := hb.trans_le s.nBanks_le
  let u := (s.set (VBK_STAT_BKFLT b) 1).bump (VBK_RSCNT_COUNT b)
  obtain ⟨hcalm, hnone, -⟩ := State.cutAll_ends (bankChans b) (fun c hc => by rw [mem_bankChans] at hc; omega) u
  have habove : ∀ g ∈ railFlds b, 32 * 0x8000 ≤ g.key ∧ g.key < 32 * 0xB000 := by
    simp only [List.forall_mem_cons, Fld.key, VBK_STAT_BKFLT, VBK_RSCNT_COUNT]
    refine ⟨?_, ?_, List.forall_mem_nil _⟩ <;> omega
  obtain ⟨hflt, hcnt⟩ := s.railLatched_shown b
  have hget : ∀ f ∈ railFlds b, (s.railFault b).get f = u.get f := fun f hf => by
    rw [State.railFault_bank hb h16, State.raise_get_drive _ _ (habove f hf).1 (habove f hf).2]
    exact hcalm.get (drive_noEvt (habove f hf).1 (habove f hf).2) (railFlds_ne_cut b f hf)
  have hlatch : regsBut (railFlds b) s u := ((regsBut.refl _ s).set (by simp)).set (by simp)
  refine ⟨(hget _ (by simp)).trans hflt, (hget _ (by simp)).trans hcnt, ?_, fun c hc hcb => ?_⟩
  · rw [State.railFault_bank hb h16]
    exact ((State.raise_status _ _).since hcalm).since
      (hlatch.calm (fun g hg => le_trans (by decide) (habove g hg).1) rfl)
  · have hcur := hnone c (mem_bankChans.mpr hcb)
    rw [State.railFault_bank hb h16, State.queueOf_congr ((State.raise_keeps _ _).same.sched rfl), List.any_eq_false]
    exact fun e he => List.find?_eq_none.mp hcur e he

theorem railFault_ly {s : State} (hcal : s.calPhase = 0) :
    s.railFault 16 = (s.set ARB_LYSTAT_FLT 1).lyEnded.raise Src.lanyardFault := by
  have hphase : (s.set ARB_LYSTAT_FLT 1).calPhase = 0 := (State.get_set_ne _ _ _ _ (by decide)).trans hcal
  exact State.gateOff_lyFailed hphase

/-- What a rail fault of LY does outside a calibration. -/
theorem railFault_ly_latches {s : State} (hcal : s.calPhase = 0) : (s.railFault 16).get ARB_LYSTAT_FLT = 1 ∧
    (s.railFault 16).get ARB_LYCTRL_ENERGISE = 0 ∧ raisedIn Src.lanyardFault s (s.railFault 16) := by
  let w := s.set ARB_LYSTAT_FLT 1
  have hlatch : regsBut [ARB_LYSTAT_FLT] s w := (regsBut.refl _ s).set (by simp)
  rw [railFault_ly hcal]
  refine ⟨?_, ?_, ((State.raise_status _ _).since w.lyEnded_calm).since (hlatch.calm (by decide) rfl)⟩
  · rw [State.raise_get_drive _ _ (by decide) (by decide), w.lyEnded_regsBut _ (by decide)]
    exact State.get_set s ARB_LYSTAT_FLT 1
  · rw [State.raise_get_drive _ _ (by decide) (by decide)]
    exact w.lyEnded_energise

end Sys2Proof
end

section
/-! SUPPORT. VBST is measured, and host writes of the drive's enables and of LY (R238, R239, R245, R267, R269, R270). -/

namespace Sys2Proof.Machine

open Reg

/-! ### VBST -/

/-- Boost overvoltage, with its hysteresis (R239). -/
def State.boostOver (s : State) (v : Nat) : Bool :=
  decide (s.get ARB_BOOST_SET + 70 ≤ v) || (s.flag ARB_BSTMEAS_OV && decide (s.get ARB_BOOST_SET + 20 ≤ v))

/-- VBST, READY and OV as they are measured. -/
def State.boostShown (s : State) (v : Nat) : State := ((s.set ARB_BSTMEAS_VBST (min 1023 v)).setB ARB_BSTMEAS_READY
  (decide (s.get ARB_BOOST_READY * s.get ARB_BOOST_SET ≤ 100 * v))).setB ARB_BSTMEAS_OV (s.boostOver v)

theorem State.boostMeas_eq (s : State) (v : Nat) : s.boostMeas v =
    (if s.boostOver v && !s.flag ARB_BSTMEAS_OV then ((s.boostShown v).set ARB_BSTMEAS_OVSEEN 1).raise Src.boostOv
      else s.boostShown v).arbShow := rfl

abbrev boostFlds : List Fld := [ARB_BSTMEAS_VBST, ARB_BSTMEAS_READY, ARB_BSTMEAS_OV, ARB_BSTMEAS_OVSEEN]

abbrev arbFlds : List Fld := [ARB_STAT_TOKENS, ARB_STAT_FBUSED, ARB_STAT_NEFF, ARB_STAT_DIPCUT, ARB_TOKMAX_MAX]

theorem State.boostShown_regsBut (s : State) (v : Nat) : regsBut boostFlds s (s.boostShown v) :=
  (((regsBut.refl _ s).set (by simp)).set (by simp)).set (by simp)

theorem b2n_eq_one (b : Bool) : b2n b % 2 = 1 ↔ b = true := by
  cases b <;> decide

theorem State.boostShown_shown (s : State) (v : Nat) : (s.boostShown v).get ARB_BSTMEAS_VBST = min 1023 v ∧
    ((s.boostShown v).get ARB_BSTMEAS_READY = 1 ↔ s.get ARB_BOOST_READY * s.get ARB_BOOST_SET ≤ 100 * v) ∧
    ((s.boostShown v).get ARB_BSTMEAS_OV = 1 ↔ s.boostOver v = true) := by
  unfold State.boostShown
  rw [State.setB_eq, State.setB_eq]
  refine ⟨?_, ?_, ?_⟩
  · rw [State.get_set_ne _ _ _ _ (by decide), State.get_set_ne _ _ _ _ (by decide), State.get_set]
    exact Nat.mod_eq_of_lt (Nat.lt_succ_of_le (Nat.min_le_left _ _))
  · rw [State.get_set_ne _ _ _ _ (by decide), State.get_set]
    exact (b2n_eq_one _).trans decide_eq_true_iff
  · rw [State.get_set]
    exact b2n_eq_one _

/-! ### Enables -/

theorem fieldsAt_vlvCtrl : ∀ c < 128, fieldsAt (0x8000 + 0x40 * c) =
    [VLV_CTRL_EN c, VLV_CTRL_PROF c, VLV_CTRL_POLICY c, VLV_CTRL_CLRFLT c] := by decide +kernel

theorem State.implMask_vlvCtrl (s : State) {c : Nat} (hc : c < s.nChans) : s.implMask (0x8000 + 0x40 * c) = 2 ^ 32 - 1 := by
  unfold State.nChans at hc
  unfold State.implMask
  split
  · rfl
  next h =>
    rw [Bool.not_eq_false] at h
    rw [h] at hc
    simp only [if_true] at hc
    iterate 4 rw [if_neg (by omega)]
    rfl

/-- A channel's enable register as a word is written to it. -/
def State.ctrlWritten (s : State) (c : Nat) (v : Word) : State :=
  ((s.set (VLV_CTRL_EN c) (bits v.toNat 0 1)).set (VLV_CTRL_PROF c) (bits v.toNat 1 3)).set (VLV_CTRL_POLICY c)
    (bits v.toNat 4 1)

theorem State.writeFlds_vlvCtrl (s : State) {c : Nat} (v : Word) (hc : c < s.nChans) :
    s.writeFlds (0x8000 + 0x40 * c) v.toNat 0 = s.ctrlWritten c v := by
  have hword : v.toNat &&& (2 ^ 32 - 1) = v.toNat := by
    rw [Nat.and_two_pow_sub_one_eq_mod]
    exact Nat.mod_eq_of_lt v.isLt
  have hmask := s.implMask_vlvCtrl hc
  have hset : ∀ (t : State) (f : Fld) (x : Nat), (t.set f x).implMask (0x8000 + 0x40 * c) =
      t.implMask (0x8000 + 0x40 * c) := fun _ _ _ => rfl
  unfold State.writeFlds
  rw [fieldsAt_vlvCtrl c (hc.trans_le s.nChans_le)]
  simp only [List.foldl_cons, List.foldl_nil, State.writeFld, VLV_CTRL_EN, VLV_CTRL_PROF, VLV_CTRL_POLICY,
    VLV_CTRL_CLRFLT, hset, hmask, hword]
  rfl

abbrev ctrlFlds (c : Nat) : List Fld := [VLV_CTRL_EN c, VLV_CTRL_PROF c, VLV_CTRL_POLICY c]

theorem State.ctrlWritten_regsBut (s : State) (c : Nat) (v : Word) : regsBut (ctrlFlds c) s (s.ctrlWritten c v) :=
  (((regsBut.refl _ s).set (by simp)).set (by simp)).set (by simp)

theorem State.ctrlWritten_shown (s : State) (c : Nat) (v : Word) :
    (s.ctrlWritten c v).get (VLV_CTRL_EN c) = bits v.toNat 0 1 ∧
    (s.ctrlWritten c v).get (VLV_CTRL_PROF c) = bits v.toNat 1 3 ∧
    (s.ctrlWritten c v).get (VLV_CTRL_POLICY c) = bits v.toNat 4 1 := by
  have hep : (VLV_CTRL_EN c).key ≠ (VLV_CTRL_PROF c).key := by simp only [Fld.key, VLV_CTRL_EN, VLV_CTRL_PROF]; omega
  have heo : (VLV_CTRL_EN c).key ≠ (VLV_CTRL_POLICY c).key := by
    simp only [Fld.key, VLV_CTRL_EN, VLV_CTRL_POLICY]; omega
  have hpo : (VLV_CTRL_PROF c).key ≠ (VLV_CTRL_POLICY c).key := by
    simp only [Fld.key, VLV_CTRL_PROF, VLV_CTRL_POLICY]; omega
  unfold State.ctrlWritten
  refine ⟨?_, ?_, ?_⟩
  · rw [State.get_set_ne _ _ _ _ heo, State.get_set_ne _ _ _ _ hep, State.get_set]
    exact Nat.mod_mod _ _
  · rw [State.get_set_ne _ _ _ _ hpo, State.get_set]
    exact Nat.mod_mod _ _
  · rw [State.get_set]
    exact Nat.mod_mod _ _

theorem ctrlFlds_vlv (c : Nat) : ∀ f ∈ ctrlFlds c, 32 * 0x8000 ≤ f.key ∧ f.key < 32 * 0xA000 := by
  simp only [List.forall_mem_cons, Fld.key, VLV_CTRL_EN, VLV_CTRL_PROF, VLV_CTRL_POLICY]
  refine ⟨?_, ?_, ?_, List.forall_mem_nil _⟩ <;> omega

theorem ctrlFlds_ne_cut (c : Nat) : ∀ f ∈ ctrlFlds c, ∀ g ∈ cutFlds c, f.key ≠ g.key := by
  intro f hf
  obtain ⟨hlo, hhi⟩ := ctrlFlds_vlv c f hf
  refine cutFlds_ne hlo hhi ?_
  revert f
  simp only [List.forall_mem_cons, Fld.key, VLV_CTRL_EN, VLV_CTRL_PROF, VLV_CTRL_POLICY, VLV_STAT_STATE,
    VLV_STAT_UNMEAS, VLV_NMCNT_UNMEAS, VLV_STAT_QOCC]
  refine ⟨fun _ _ => ⟨?_, ?_, ?_, ?_, List.forall_mem_nil _⟩, fun _ _ => ⟨?_, ?_, ?_, ?_, List.forall_mem_nil _⟩,
    fun _ _ => ⟨?_, ?_, ?_, ?_, List.forall_mem_nil _⟩, List.forall_mem_nil _⟩ <;> omega

theorem ctrlFlds_ne_drop (c : Nat) : ∀ f ∈ ctrlFlds c, ∀ g ∈ dropFlds c, f.key ≠ g.key := by
  simp only [dropFlds, List.forall_mem_cons, Fld.key, VLV_CTRL_EN, VLV_CTRL_PROF, VLV_CTRL_POLICY, VLV_DROPCNT_COUNT,
    VLV_STAT_LASTDROP, VLV_TOKDROP_COUNT]
  refine ⟨?_, ?_, ?_, List.forall_mem_nil _⟩ <;> refine ⟨?_, ?_, ?_, List.forall_mem_nil _⟩ <;> omega

/-- A write of a channel's enable register without CLRFLT. -/
theorem State.driveEnableW_ctrl (s : State) {c : Nat} (v : Word) (hc : c < s.nChans) (hclr : bits v.toNat 5 1 = 0) :
    s.driveEnableW (0x8000 + 0x40 * c) v =
      if bits v.toNat 0 1 = 1 then s.ctrlWritten c v else (s.ctrlWritten c v).disable c := by
  have h128 := hc.trans_le s.nChans_le
  have hchan : (0x8000 + 0x40 * c - 0x8000) / 0x40 = c := by omega
  have hclear : bitOf v.toNat 5 = false := by rw [bitOf, hclr]; rfl
  have hn : ¬(s.ctrlWritten c v).nChans ≤ c := Nat.not_le.mpr hc
  have hen : (s.ctrlWritten c v).flag (VLV_CTRL_EN c) = (bits v.toNat 0 1 == 1) := by
    rw [State.flag, (s.ctrlWritten_shown c v).1]
  unfold State.driveEnableW
  rw [s.writeFlds_vlvCtrl v hc, if_pos ⟨by omega, by omega, by omega⟩]
  simp only [hchan, if_neg hn, hclear, hen, beq_iff_eq, Bool.false_eq_true, if_false]

/-- The disabled channel's executing firing ends and drops (R267). -/
theorem State.disable_executing {s : State} {c : Nat} {e : Entry} (he : (s.queueOf c).find? (·.began) = some e) :
    s.disable c = (s.cutFiring c).driveDrop c 8 := by
  have hcur : s.current c = some e := he
  rw [State.disable, hcur]
  rfl

end Sys2Proof.Machine

namespace Sys2Proof

open Sys2Proof.Machine Sys2Proof.Machine.Reg

theorem boostMeasure_shows (s : State) (v : Nat) : ∃ t, exec (.boostMeasure v) s = .next t ∧
    t.get ARB_BSTMEAS_VBST = min 1023 v ∧
    (t.get ARB_BSTMEAS_READY = 1 ↔ s.get ARB_BOOST_READY * s.get ARB_BOOST_SET ≤ 100 * v) ∧
    (t.get ARB_BSTMEAS_OV = 1 ↔ s.get ARB_BOOST_SET + 70 ≤ v ∨
      (s.get ARB_BSTMEAS_OV = 1 ∧ s.get ARB_BOOST_SET + 20 ≤ v)) ∧
    (s.get ARB_BSTMEAS_OV ≠ 1 → s.get ARB_BOOST_SET + 70 ≤ v → t.get ARB_BSTMEAS_OVSEEN = 1 ∧ raisedIn Src.boostOv s t) ∧
    t = { s with regs := t.regs, evt := t.evt, mem := t.mem } ∧ regsButEvt (boostFlds ++ arbFlds) s t := by
  let u := s.boostShown v
  let w := (u.set ARB_BSTMEAS_OVSEEN 1).raise Src.boostOv
  obtain ⟨hvbst, hready, hov⟩ := s.boostShown_shown v
  have hover : s.boostOver v = true ↔ s.get ARB_BOOST_SET + 70 ≤ v ∨
      (s.get ARB_BSTMEAS_OV = 1 ∧ s.get ARB_BOOST_SET + 20 ≤ v) := by
    rw [State.boostOver, Bool.or_eq_true, Bool.and_eq_true, decide_eq_true_eq, decide_eq_true_eq, State.flag_iff]
  have hboost := s.boostShown_regsBut v
  have hset : regsBut boostFlds s (u.set ARB_BSTMEAS_OVSEEN 1) := hboost.set (by simp)
  have hcalm := hset.calm (by decide) rfl
  have hw : Calm boostFlds s w := hcalm.trans (State.raise_calm _ _ (by decide))
  have hshow : regsBut arbFlds (if s.boostOver v && !s.flag ARB_BSTMEAS_OV then w else u) (s.boostMeas v) :=
    State.arbShow_regsBut _
  have hfuses : (s.boostMeas v).fuses = (if s.boostOver v && !s.flag ARB_BSTMEAS_OV then w else u).fuses :=
    (State.arbShow_keeps _).fuses
  have hlast : ∀ f ∈ boostFlds, (s.boostMeas v).get f =
      (if s.boostOver v && !s.flag ARB_BSTMEAS_OV then w else u).get f := fun f hf =>
    hshow f (by revert f; decide)
  have hsame : ∀ f ∈ [ARB_BSTMEAS_VBST, ARB_BSTMEAS_READY, ARB_BSTMEAS_OV], (s.boostMeas v).get f = u.get f := by
    intro f hf
    have hne : 32 * 0x8000 ≤ f.key ∧ f.key < 32 * 0xB000 ∧ f.key ≠ ARB_BSTMEAS_OVSEEN.key ∧ f ∈ boostFlds := by
      revert f
      decide
    obtain ⟨hlo, hhi, hseen, hmem⟩ := hne
    rw [hlast f hmem]
    split
    · exact (State.raise_get_drive _ _ hlo hhi).trans (State.get_set_ne _ _ _ _ hseen)
    · rfl
  have hexec : exec (.boostMeasure v) s = .next (s.boostMeas v) := rfl
  obtain ⟨hframe, -⟩ := everyCommandKeepsWhatIsOutsideItsFrame _ _ _ hexec
  refine ⟨_, hexec, (hsame _ (by simp)).trans hvbst, ?_, ?_, fun hno hhigh => ?_, hframe, ?_⟩
  · rw [hsame _ (by simp)]
    exact hready
  · rw [hsame _ (by simp)]
    exact hov.trans hover
  · have hnew : (s.boostOver v && !s.flag ARB_BSTMEAS_OV) = true := by
      rw [Bool.and_eq_true, Bool.not_eq_true', State.flag, beq_eq_false_iff_ne]
      exact ⟨hover.mpr (.inl hhigh), hno⟩
    rw [if_pos hnew] at hshow
    refine ⟨?_, ((State.raise_status _ _).since hcalm).after (hshow.calm (by decide) ?_)⟩
    · rw [hlast _ (by simp), if_pos hnew, State.raise_get_drive _ _ (by decide) (by decide)]
      exact State.get_set u ARB_BSTMEAS_OVSEEN 1
    · rw [if_pos hnew] at hfuses
      exact hfuses
  · have hall : ∀ g ∈ boostFlds ++ arbFlds, 32 * 0x1000 ≤ g.key := by decide
    have hboth : Calm (boostFlds ++ arbFlds) s (if s.boostOver v && !s.flag ARB_BSTMEAS_OV then w else u) := by
      split
      · exact hw.mono (fun f hf => List.mem_append_left _ hf) hall
      · exact (hboost.calm (by decide) rfl).mono (fun f hf => List.mem_append_left _ hf) hall
    exact (hboth.trans ((hshow.mono fun f hf => List.mem_append_right _ hf).calm hall
      (State.arbShow_keeps _).fuses)).butEvt

/-! ### CLRFLT -/

theorem vlvClrflt_clears {s : State} {r : Requester} {c : Nat} (hlt : c < s.nChans)
    (hp : s.protected r (0x8000 + 0x40 * c) = false) : ∃ t, exec (.vlvClrflt r c) s = .next t ∧
      t.get (VLV_STAT_CHFLT c) = 0 ∧ t.get (VLV_STAT_FLTCAUSE c) = 0 ∧ t = { s with regs := t.regs } ∧
      regsBut [VLV_STAT_CHFLT c, VLV_STAT_FLTCAUSE c] s t := by
  have hclear : exec (.vlvClrflt r c) s = .next (s.clearCh c) :=
    congrArg ok ((if_pos hlt).trans (s.guardW_of_unprotected r _ _ hp))
  have hne : (VLV_STAT_CHFLT c).key ≠ (VLV_STAT_FLTCAUSE c).key := by
    simp only [Fld.key, VLV_STAT_CHFLT, VLV_STAT_FLTCAUSE]; omega
  exact ⟨_, hclear, (State.get_set_ne _ _ _ _ hne).trans (State.get_set _ _ 0), State.get_set _ _ 0, rfl,
    ((regsBut.refl _ s).set (by simp)).set (by simp)⟩

theorem vbkClrflt_clears {s : State} {r : Requester} {b : Nat} (hlt : b < s.nBanks)
    (hp : s.protected r (0xA000 + 0x80 * b) = false) : ∃ t, exec (.vbkClrflt r b) s = .next t ∧
      t.get (VBK_STAT_BKFLT b) = 0 ∧ t = { s with regs := t.regs } ∧ regsBut [VBK_STAT_BKFLT b] s t := by
  have hclear : exec (.vbkClrflt r b) s = .next (s.set (VBK_STAT_BKFLT b) 0) :=
    congrArg ok ((if_pos hlt).trans (s.guardW_of_unprotected r _ _ hp))
  exact ⟨_, hclear, State.get_set _ _ 0, rfl, (regsBut.refl _ s).set (by simp)⟩

/-! ### A channel's enable -/

theorem driveEnableWrite_ctrl {s : State} {r : Requester} {c : Nat} (v : Word) (hlt : c < s.nChans)
    (hp : s.protected r (0x8000 + 0x40 * c) = false) :
    exec (.driveEnableWrite r (0x8000 + 0x40 * c) v) s = .next (s.driveEnableW (0x8000 + 0x40 * c) v) := by
  have hc := hlt.trans_le s.nChans_le
  have hreg : isEnableReg (0x8000 + 0x40 * c) = true := by
    rw [isEnableReg, decide_eq_true_eq]
    omega
  exact congrArg ok ((if_pos hreg).trans (s.guardW_of_unprotected r _ _ hp))

theorem driveEnableWrite_disables {s : State} {r : Requester} {c : Nat} {v : Word} {e : Entry} (hlt : c < s.nChans)
    (hp : s.protected r (0x8000 + 0x40 * c) = false) (he : (s.queueOf c).find? (·.began) = some e)
    (hen : bits v.toNat 0 1 = 0) (hclr : bits v.toNat 5 1 = 0) (h2 : 2 ≤ s.get (VLV_STAT_STATE c))
    (h4 : s.get (VLV_STAT_STATE c) ≤ 4) : ∃ t, exec (.driveEnableWrite r (0x8000 + 0x40 * c) v) s = .next t ∧
      t.get (VLV_CTRL_EN c) = 0 ∧ t.get (VLV_CTRL_PROF c) = bits v.toNat 1 3 ∧
      t.get (VLV_CTRL_POLICY c) = bits v.toNat 4 1 ∧ t.chState c = 5 ∧
      t.queueOf c = (s.queueOf c).filter (fun x => !x.began) ∧ dropped c 8 s t ∧ othersFollow c s t ∧
      t = { s with regs := t.regs, evt := t.evt, mem := t.mem, sched := t.sched, valves := t.valves } := by
  have hc := hlt.trans_le s.nChans_le
  let u := s.ctrlWritten c v
  have hwrite : s.driveEnableW (0x8000 + 0x40 * c) v = (u.cutFiring c).driveDrop c 8 := by
    rw [s.driveEnableW_ctrl v hlt hclr, hen, if_neg (by decide)]
    exact State.disable_executing he
  have hexec := (driveEnableWrite_ctrl v hlt hp).trans (congrArg Host.Outcome.next hwrite)
  have hframe : frameOf (.driveEnableWrite r (0x8000 + 0x40 * c) v) s _ :=
    everyCommandKeepsWhatIsOutsideItsFrame _ _ _ hexec
  have hctrl := s.ctrlWritten_regsBut c v
  obtain ⟨hshown, hprof, hpolicy⟩ := s.ctrlWritten_shown c v
  have hstate : u.chState c = s.get (VLV_STAT_STATE c) := by
    rw [State.chState_valve _ hc]
    refine hctrl _ ?_
    simp only [List.forall_mem_cons, Fld.key, VLV_STAT_STATE, VLV_CTRL_EN, VLV_CTRL_PROF, VLV_CTRL_POLICY]
    refine ⟨?_, ?_, ?_, List.forall_mem_nil _⟩ <;> omega
  obtain ⟨h5, -⟩ := u.cutFiring_decays hc (by omega) (fun h => by omega)
  have hget : ∀ f ∈ ctrlFlds c, ((u.cutFiring c).driveDrop c 8).get f = u.get f := fun f hf =>
    ((State.driveDrop_calm _ c 8).get (drive_noEvt (ctrlFlds_vlv c f hf).1 (by have := (ctrlFlds_vlv c f hf).2; omega))
      (ctrlFlds_ne_drop c f hf)).trans (u.cutFiring_regsBut hc f (ctrlFlds_ne_cut c f hf))
  have hdrop := (u.cutFiring c).driveDrop_keeps c 8
  refine ⟨_, hexec, ((hget _ (by simp)).trans hshown).trans hen, (hget _ (by simp)).trans hprof,
    (hget _ (by simp)).trans hpolicy, (State.driveDrop_chState _ c 8 hc).trans h5, ?_, ?_, ?_, hframe⟩
  · exact (State.queueOf_congr (hdrop.same.sched rfl) c).trans (u.cutFiring_queueOf c)
  · refine dropped_since (dropped_since (State.driveDrop_dropped _ c (by decide)) (u.cutFiring_calm hc)
      (dropFlds_ne_cut c)) (hctrl.calm (fun g hg => le_trans (by decide) (ctrlFlds_vlv c g hg).1) rfl) ?_
    exact fun f hf g hg => (ctrlFlds_ne_drop c g hg f hf).symm
  · exact ((othersKeep_of_parts c rfl rfl : othersKeep c s u).follow.trans (cutFiring_othersFollow u hc)).trans
      (driveDrop_othersKeep _ c 8).follow

theorem driveEnableWrite_enables {s : State} {r : Requester} {c : Nat} {v : Word} (hlt : c < s.nChans)
    (hp : s.protected r (0x8000 + 0x40 * c) = false) (hen : bits v.toNat 0 1 = 1) (hclr : bits v.toNat 5 1 = 0) :
    ∃ t, exec (.driveEnableWrite r (0x8000 + 0x40 * c) v) s = .next t ∧ t.get (VLV_CTRL_EN c) = 1 ∧
      t.get (VLV_CTRL_PROF c) = bits v.toNat 1 3 ∧ t.get (VLV_CTRL_POLICY c) = bits v.toNat 4 1 ∧
      t = { s with regs := t.regs } ∧ regsBut (ctrlFlds c) s t := by
  have hwrite : s.driveEnableW (0x8000 + 0x40 * c) v = s.ctrlWritten c v := by
    rw [s.driveEnableW_ctrl v hlt hclr, hen, if_pos rfl]
  obtain ⟨hshown, hprof, hpolicy⟩ := s.ctrlWritten_shown c v
  exact ⟨_, (driveEnableWrite_ctrl v hlt hp).trans (congrArg Host.Outcome.next hwrite), hshown.trans hen, hprof, hpolicy,
    rfl, s.ctrlWritten_regsBut c v⟩

end Sys2Proof
end

section
/-! SUPPORT. LY is energised and released by host software (R254, R268, R270). -/

namespace Sys2Proof

open Sys2Proof.Machine Sys2Proof.Machine.Reg

theorem lyEnergise_eq {s : State} {r : Requester} (on : Bool) (hp : s.protected r 0xAA00 = false) :
    exec (.lyEnergise r on) s = .next (s.lyHost on) := congrArg ok (s.guardW_of_unprotected r _ _ hp)

theorem lyEnergise_sorting {s : State} {r : Requester} (on : Bool) (hp : s.protected r 0xAA00 = false)
    (hm : s.mode = 3) : ∃ t, exec (.lyEnergise r on) s = .next t ∧ t.get ARB_STAT_WRERR = 1 ∧
      t = { s with regs := t.regs } ∧ regsBut [ARB_STAT_WRERR] s t := by
  have hwrite : s.lyHost on = s.set ARB_STAT_WRERR 1 := if_pos (beq_iff_eq.mpr hm)
  exact ⟨_, (lyEnergise_eq on hp).trans (congrArg Host.Outcome.next hwrite), State.get_set s _ 1, rfl,
    (regsBut.refl _ s).set (by simp)⟩

theorem lyHost_stopped {s : State} (on : Bool) (hm : s.mode ≠ 3) : s.lyHost on = if on then s.lyOn else s.lyOff := by
  have hsort : ¬s.sorting = true := fun h => hm (beq_iff_eq.mp h)
  rw [State.lyHost, if_neg hsort]

/-- LY as it is energised, before its low side turns on. -/
def lyAsked (s : State) : State := (s.set ARB_LYCTRL_ENERGISE 1).set ARB_LYSTAT_OPEN 0

/-- The state that LY's drive begins in. -/
def lyFirst (s : State) : Nat :=
  if s.get (ARB_PROF_PEAK_IPEAK (s.get ARB_LYCFG_PROF)) = 0 then 4
  else if s.get ARB_BSTMEAS_READY = 1 ∧ s.get ARB_BSTMEAS_OV ≠ 1 then 2 else 3

theorem lyAsked_regsBut (s : State) : regsBut [ARB_LYCTRL_ENERGISE, ARB_LYSTAT_OPEN] s (lyAsked s) :=
  ((regsBut.refl _ s).set (by simp)).set (by simp)

theorem lyAsked_prof (s : State) (p : Nat) : ∀ f ∈ profFlds p, (lyAsked s).get f = s.get f := fun f hf => by
  obtain ⟨-, hhi⟩ := profFlds_range p f hf
  refine lyAsked_regsBut s f ?_
  simp only [List.forall_mem_cons, Fld.key, ARB_LYCTRL_ENERGISE, ARB_LYSTAT_OPEN] at hhi ⊢
  refine ⟨?_, ?_, List.forall_mem_nil _⟩ <;> omega

theorem lyOn_drives {s : State} (hf : s.get ARB_LYSTAT_FLT ≠ 1)
    (hs : s.get ARB_LYSTAT_STATE = 0 ∨ s.get ARB_LYSTAT_STATE = 5) (hw : (s.drive 128).closeW = false) :
    s.lyOn = ((lyAsked s).setDrive 128 ((lyAsked s).gatedOn 128)).enter 128 (lyFirst s) := by
  have hflt : (s.set ARB_LYCTRL_ENERGISE 1).flag ARB_LYSTAT_FLT = false :=
    beq_eq_false_iff_ne.mpr (by rwa [State.get_set_ne _ _ _ _ (by decide)])
  have hstate : (s.set ARB_LYCTRL_ENERGISE 1).get ARB_LYSTAT_STATE = s.get ARB_LYSTAT_STATE :=
    State.get_set_ne _ _ _ _ (by decide)
  have hprof : (s.set ARB_LYCTRL_ENERGISE 1).profOf 128 = s.get ARB_LYCFG_PROF := State.get_set_ne _ _ _ _ (by decide)
  have hpeak : (lyAsked s).get (ARB_PROF_PEAK_IPEAK (s.get ARB_LYCFG_PROF)) =
      s.get (ARB_PROF_PEAK_IPEAK (s.get ARB_LYCFG_PROF)) := lyAsked_prof s _ _ List.mem_cons_self
  have hready : (lyAsked s).get ARB_BSTMEAS_READY = s.get ARB_BSTMEAS_READY := lyAsked_regsBut s _ (by decide)
  have hover : (lyAsked s).get ARB_BSTMEAS_OV = s.get ARB_BSTMEAS_OV := lyAsked_regsBut s _ (by decide)
  have hon : s.lyOn = (lyAsked s).gateOn 128 (if (lyAsked s).get (ARB_PROF_PEAK_IPEAK
      ((s.set ARB_LYCTRL_ENERGISE 1).profOf 128)) = 0 then 4 else if (lyAsked s).boostReady &&
        !(lyAsked s).flag ARB_BSTMEAS_OV then 2 else 3) := by
    refine if_neg ?_
    rw [hflt, hstate]
    rintro (h | ⟨h0, h5⟩)
    · exact absurd h (by decide)
    · omega
  have hfirst : (if (lyAsked s).get (ARB_PROF_PEAK_IPEAK ((s.set ARB_LYCTRL_ENERGISE 1).profOf 128)) = 0 then 4
      else if (lyAsked s).boostReady && !(lyAsked s).flag ARB_BSTMEAS_OV then 2 else 3) = lyFirst s := by
    simp only [hprof, hpeak, State.boostReady, State.flag, hready, hover, lyFirst, Bool.and_eq_true, beq_iff_eq,
      Bool.not_eq_true', beq_eq_false_iff_ne]
  rw [hon, hfirst, State.gateOn_eq _ _ _ (show ((lyAsked s).drive 128).closeW = false from hw)]
  exact if_pos rfl

theorem lyFirst_lt (s : State) : lyFirst s < 8 := by
  unfold lyFirst
  split
  · decide
  · split <;> decide

theorem lyEnergise_drives {s : State} {r : Requester} (hp : s.protected r 0xAA00 = false) (hm : s.mode ≠ 3)
    (hf : s.get ARB_LYSTAT_FLT ≠ 1) (hs : s.get ARB_LYSTAT_STATE = 0 ∨ s.get ARB_LYSTAT_STATE = 5)
    (hw : (s.drive 128).closeW = false) : ∃ t, exec (.lyEnergise r true) s = .next t ∧
      t.get ARB_LYCTRL_ENERGISE = 1 ∧ t.get ARB_LYSTAT_OPEN = 0 ∧ t.get ARB_LYSTAT_STATE = lyFirst s ∧
      (t.drive 128).on = s.time ∧ (t.drive 128).prof = s.profVals (s.get ARB_LYCFG_PROF) ∧ othersKeep 128 s t ∧
      t = { s with regs := t.regs, valves := t.valves } ∧
      regsBut [ARB_LYCTRL_ENERGISE, ARB_LYSTAT_OPEN, ARB_LYSTAT_STATE] s t := by
  let u := lyAsked s
  let w := u.setDrive 128 (u.gatedOn 128)
  have hexec : exec (.lyEnergise r true) s = .next (w.enter 128 (lyFirst s)) :=
    (lyEnergise_eq true hp).trans (congrArg Host.Outcome.next ((lyHost_stopped true hm).trans (lyOn_drives hf hs hw)))
  have hask : regsBut [ARB_LYCTRL_ENERGISE, ARB_LYSTAT_OPEN] s w := lyAsked_regsBut s
  have henter := enter_ly_regsBut w (lyFirst s)
  have hself := w.enter_drive_self 128 (lyFirst s)
  rw [State.drive_setDrive_self] at hself
  have hprof : u.profVals (u.profOf 128) = s.profVals (s.get ARB_LYCFG_PROF) := by
    have hp : u.profOf 128 = s.get ARB_LYCFG_PROF := lyAsked_regsBut s _ (by decide)
    rw [hp]
    exact State.profVals_congr (lyAsked_prof s _)
  have hkeeps : Keeps (foot 0x400008) s (w.enter 128 (lyFirst s)) := (w.enter_keeps 128 _).comp rfl
    ((u.setDrive_keeps 128 _).comp rfl (((Keeps.refl _ s).set (.closed rfl)).set (.closed rfl)))
  refine ⟨_, hexec, ?_, ?_, enter_ly_state w (lyFirst_lt s), ?_, ?_, ?_, hkeeps.frame, ?_⟩
  · rw [henter _ (by decide)]
    exact (State.get_set_ne _ ARB_LYSTAT_OPEN ARB_LYCTRL_ENERGISE 0 (by decide)).trans
      (State.get_set s ARB_LYCTRL_ENERGISE 1)
  · rw [henter _ (by decide)]
    exact State.get_set _ ARB_LYSTAT_OPEN 0
  · rw [hself]
    rfl
  · rw [hself]
    exact hprof
  · exact ((othersKeep_of_parts 128 rfl rfl : othersKeep 128 s u).trans (setDrive_othersKeep u 128 _)).trans
      (enter_ly_othersKeep w _)
  · exact (hask.mono (by simp)).trans (henter.mono (by simp))

theorem lyEnergise_releases {s : State} {r : Requester} (hp : s.protected r 0xAA00 = false) (hm : s.mode ≠ 3)
    (h2 : 2 ≤ s.get ARB_LYSTAT_STATE) (h4 : s.get ARB_LYSTAT_STATE ≤ 4) :
    ∃ t, exec (.lyEnergise r false) s = .next t ∧ t.get ARB_LYCTRL_ENERGISE = 0 ∧ t.get ARB_LYSTAT_CLOSED = 0 ∧
      t.get ARB_LYSTAT_STATE = 5 ∧ (t.drive 128).off = s.time ∧ (t.drive 128).after = true ∧ othersKeep 128 s t ∧
      t = { s with regs := t.regs, valves := t.valves } ∧
      regsBut [ARB_LYCTRL_ENERGISE, ARB_LYSTAT_CLOSED, ARB_LYSTAT_STATE] s t := by
  let u := s.set ARB_LYCTRL_ENERGISE 0
  let w := u.setDrive 128 { u.drive 128 with loads := 0 }
  have hasked : u.chState 128 = s.get ARB_LYSTAT_STATE :=
    State.get_set_ne s ARB_LYCTRL_ENERGISE ARB_LYSTAT_STATE 0 (by decide)
  have hstate : w.chState 128 = s.get ARB_LYSTAT_STATE := hasked
  have hdriven : u.lyDriven = true := u.lyDriven_iff.mpr ⟨by omega, fun h => by omega⟩
  have hoff : s.lyOff = w.gateOff 128 := if_pos hdriven
  have hexec : exec (.lyEnergise r false) s = .next (w.gateOff 128) :=
    (lyEnergise_eq false hp).trans (congrArg Host.Outcome.next ((lyHost_stopped false hm).trans hoff))
  obtain ⟨h5, hclosed, hafter, hofft⟩ := w.gateOff_ly_decays (by omega) (fun h => by omega)
  have hgate := w.gateOff_ly_regsBut
  have hset : regsBut [ARB_LYCTRL_ENERGISE] s u := (regsBut.refl _ s).set List.mem_cons_self
  have hask : regsBut [ARB_LYCTRL_ENERGISE] s w := hset
  have hkeeps : Keeps (foot 0x400008) s (w.gateOff 128) := (w.gateOff_keeps 128).comp rfl
    ((u.setDrive_keeps 128 _).comp rfl ((Keeps.refl _ s).set (.closed rfl)))
  refine ⟨_, hexec, ?_, hclosed, h5, hofft, hafter, ?_, hkeeps.frame, ?_⟩
  · rw [hgate _ (by decide)]
    exact State.get_set s ARB_LYCTRL_ENERGISE 0
  · exact ((set_othersKeep s _ _ 128).trans (setDrive_othersKeep u 128 _)).trans (gateOff_ly_othersKeep w)
  · refine (hask.mono fun f hf => ?_).trans (hgate.mono fun f hf => ?_)
    · exact List.mem_of_mem_head? (by rw [List.mem_singleton.mp hf]; rfl)
    · exact .tail _ (List.mem_pair.mpr (List.mem_pair.mp hf).symm)

theorem lyClrflt_clears {s : State} {r : Requester} (hp : s.protected r 0xAA00 = false) :
    ∃ t, exec (.lyClrflt r) s = .next t ∧ t.get ARB_LYSTAT_FLT = 0 ∧ t.get ARB_LYSTAT_FLTCAUSE = 0 ∧
      t = { s with regs := t.regs } ∧ regsBut [ARB_LYSTAT_FLT, ARB_LYSTAT_FLTCAUSE] s t :=
  ⟨_, congrArg ok (s.guardW_of_unprotected r _ _ hp),
    (State.get_set_ne _ _ _ _ (by decide)).trans (State.get_set s ARB_LYSTAT_FLT 0),
    State.get_set _ ARB_LYSTAT_FLTCAUSE 0, rfl, ((regsBut.refl _ s).set (by simp)).set (by simp)⟩

/-! ### The faults as commands -/

theorem overcurrent_of_lowOn {s : State} {c : Nat} (h : s.lowOn c = true) :
    exec (.overcurrent c) s = .next (s.chFault c 1) := congrArg ok (if_pos h)

theorem drainShort_of_lowOn {s : State} {c : Nat} (h : s.lowOn c = true) :
    exec (.drainShort c) s = .next (s.chFault c 2) := congrArg ok (if_pos h)

theorem railNodeShort_of_on {s : State} {b : Nat} (h : s.rail b ≠ 0) :
    exec (.railNodeShort b) s = .next (s.railFault b) := congrArg ok (if_neg h)

theorem railStuckHigh_of_off {s : State} {b : Nat} (h : s.rail b = 0)
    (hd : ((s.chansOn b).all fun c => s.chState c != 5) = true) :
    exec (.railStuckHigh b) s = .next (s.railFault b) := congrArg ok (if_pos ⟨h, hd⟩)

/-- Settles O37: faults of channels, of LY and of banks are cuts with a latch, a count and an event; the writes set and
clear the fields named, and end what they disable or release. -/
theorem driveFaultsLatchAndWritesClearThem : Obligations.DriveFaultsLatchAndWritesClearThem := by
  refine ⟨?_, ?_, ?_, ?_, ?_, ?_, ?_, ?_, ?_, ?_, ?_, ?_, boostMeasure_shows, fun s r c => vlvClrflt_clears,
    fun s r c => vbkClrflt_clears, fun s r c hc => ⟨s, congrArg ok (if_neg (Nat.not_lt.mpr hc)), rfl⟩, ?_,
    fun s r c v => driveEnableWrite_enables, fun s r l => lyEnergise_sorting l, fun s r => lyEnergise_drives,
    fun s r => lyEnergise_releases, fun s r => lyClrflt_clears⟩
  · intro s c hlt h2 h4
    obtain ⟨hon, hfault⟩ := chFault_latches (k := 1) hlt h2 h4 (by decide)
    have hexec := overcurrent_of_lowOn hon
    have hframe : frameOf (.overcurrent c) s _ := everyCommandKeepsWhatIsOutsideItsFrame _ _ _ hexec
    obtain ⟨hflt, hcause, h5, hafter, hqueue, hcnt, hraised, hothers⟩ := hfault
    exact ⟨_, hexec, hflt, hcause, h5, hafter, hqueue, hcnt, hraised, hothers, hframe⟩
  · intro s c hoff hslow
    exact ⟨s, congrArg ok (if_neg (by rw [lowOn_off hoff hslow]; decide)), rfl⟩
  · intro s h2 h4 hcal
    obtain ⟨hon, hflt, hcause, h5, hen, hraised, hothers⟩ := chFault_ly_latches (k := 1) h2 h4 hcal (by decide)
    have hexec := overcurrent_of_lowOn hon
    have hframe : frameOf (.overcurrent 128) s _ := everyCommandKeepsWhatIsOutsideItsFrame _ _ _ hexec
    exact ⟨_, hexec, hflt, hcause, h5, hen, hraised, hothers, hframe⟩
  · intro s c hlt h2 h4
    obtain ⟨hon, hflt, hcause, h5, hafter, hqueue, hcnt, hraised, hothers⟩ := chFault_latches (k := 2) hlt h2 h4 (by decide)
    have hexec := drainShort_of_lowOn hon
    have hframe : frameOf (.drainShort c) s _ := everyCommandKeepsWhatIsOutsideItsFrame _ _ _ hexec
    exact ⟨_, hexec, hflt, hcause, h5, hafter, hqueue, hcnt, hraised, hothers, hframe⟩
  · intro s c hoff hslow
    exact ⟨s, congrArg ok (if_neg (by rw [lowOn_off hoff hslow]; decide)), rfl⟩
  · intro s h2 h4 hcal
    obtain ⟨hon, hflt, hcause, h5, hen, hraised, hothers⟩ := chFault_ly_latches (k := 2) h2 h4 hcal (by decide)
    have hexec := drainShort_of_lowOn hon
    have hframe : frameOf (.drainShort 128) s _ := everyCommandKeepsWhatIsOutsideItsFrame _ _ _ hexec
    exact ⟨_, hexec, hflt, hcause, h5, hen, hraised, hothers, hframe⟩
  · intro s b hb hrail
    obtain ⟨hflt, hcnt, hraised, hqueues⟩ := railFault_latches hb
    have hexec := railNodeShort_of_on hrail
    have hframe : frameOf (.railNodeShort b) s _ := everyCommandKeepsWhatIsOutsideItsFrame _ _ _ hexec
    exact ⟨_, hexec, hflt, hcnt, hraised, hqueues, hframe⟩
  · intro s b hrail
    exact ⟨s, congrArg ok (if_pos hrail), rfl⟩
  · rintro s b rfl hrail hcal
    obtain ⟨hflt, hen, hraised⟩ := railFault_ly_latches hcal
    have hexec := railNodeShort_of_on hrail
    have hframe : frameOf (.railNodeShort 16) s _ := everyCommandKeepsWhatIsOutsideItsFrame _ _ _ hexec
    exact ⟨_, hexec, hflt, hen, hraised, hframe⟩
  · intro s b hb hrail hdec
    obtain ⟨hflt, hcnt, hraised, hqueues⟩ := railFault_latches hb
    have hexec := railStuckHigh_of_off hrail hdec
    have hframe : frameOf (.railStuckHigh b) s _ := everyCommandKeepsWhatIsOutsideItsFrame _ _ _ hexec
    exact ⟨_, hexec, hflt, hcnt, hraised, hqueues, hframe⟩
  · intro s b hrail
    exact ⟨s, congrArg ok (if_neg fun h => hrail h.1), rfl⟩
  · rintro s b rfl hrail hdec hcal
    obtain ⟨hflt, hen, hraised⟩ := railFault_ly_latches hcal
    have hexec := railStuckHigh_of_off hrail hdec
    have hframe : frameOf (.railStuckHigh 16) s _ := everyCommandKeepsWhatIsOutsideItsFrame _ _ _ hexec
    exact ⟨_, hexec, hflt, hen, hraised, hframe⟩
  · intro s r c v e hlt hp he hen hclr h2 h4
    obtain ⟨t, ht, hctrl, hprof, hpol, h5, hqueue, hdrop, hothers, hframe⟩ :=
      driveEnableWrite_disables hlt hp he hen hclr h2 h4
    refine ⟨t, ht, hctrl, hprof, hpol, h5, hqueue, hdrop, hothers, hframe, fun f hf => ?_⟩
    exact absurd f.block_lt fun hlt => hf (by revert hlt; generalize f.block = b; revert b; decide)

end Sys2Proof
end

section
/-! SUPPORT. A window enters a queue, and a firing at the coil limit moves or ends: what the update of the coil temperatures
finds unchanged (R225 to R228, R262 to R265). -/

namespace Sys2Proof.Machine

open Reg

/-! ### Windows -/

/-- What a window that enters a queue writes. -/
abbrev winFlds (n : Nat) : List Fld := [EJS_CLIPCNT_COUNT, EJS_STAT_CLIP, EJS_DROPCNT_COUNT, EJS_STAT_DROP,
  EJS_FIRECNT_COUNT, EJS_MERGECNT_COUNT, VLV_STAT_LASTDROP n] ++ queueFlds n

theorem winFlds_above (n : Nat) : ∀ g ∈ winFlds n, 32 * 0x1000 ≤ g.key := by
  rw [List.forall_mem_append]
  refine ⟨?_, queueFlds_above n⟩
  simp only [List.forall_mem_cons, Fld.key, EJS_CLIPCNT_COUNT, EJS_STAT_CLIP, EJS_DROPCNT_COUNT, EJS_STAT_DROP,
    EJS_FIRECNT_COUNT, EJS_MERGECNT_COUNT, VLV_STAT_LASTDROP]
  refine ⟨?_, ?_, ?_, ?_, ?_, ?_, ?_, List.forall_mem_nil _⟩ <;> omega

theorem State.bump_calm {l : List Fld} (hl : ∀ g ∈ l, 32 * 0x1000 ≤ g.key) (s : State) {f : Fld} (hf : f ∈ l) :
    Calm l s (s.bump f) := ((regsBut.refl l s).set hf).calm hl rfl

theorem State.schedDrop_calm (s : State) (n : Nat) : Calm (winFlds n) s (s.schedDrop n) := by
  have hshown : regsBut (winFlds n) s (((s.bump EJS_DROPCNT_COUNT).set EJS_STAT_DROP 1).set (VLV_STAT_LASTDROP n) 7) :=
    (((regsBut.refl _ s).set (by simp)).set (by simp)).set (by simp)
  exact (hshown.calm (winFlds_above n) rfl).trans (State.raise_calm _ _ (winFlds_above n))

theorem State.clipOne_calm (s : State) (n : Nat) : Calm (winFlds n) s s.clipOne :=
  (((regsBut.refl _ s).set (by simp)).set (by simp) : regsBut (winFlds n) s s.clipOne).calm (winFlds_above n) rfl

theorem State.setQueue_calm (s : State) (n : Nat) (q : List Entry) : Calm (winFlds n) s (s.setQueue n q) :=
  ((s.setQueue_regsBut n q).mono fun _ hf => List.mem_append_right _ hf).calm (winFlds_above n)
    (s.setQueue_keeps n q).fuses

theorem State.placeEntry_calm (s : State) (n : Nat) (w : Entry) : Calm (winFlds n) s (s.placeEntry n w).1 := by
  have hcount : ∀ t : State, Calm (winFlds n) t (t.bump EJS_FIRECNT_COUNT) := fun t =>
    t.bump_calm (winFlds_above n) (by simp)
  unfold State.placeEntry
  extract_lets q
  split
  · exact (s.setQueue_calm n _).trans (hcount _)
  · split
    · exact ((s.schedDrop_calm n).trans (State.setQueue_calm _ n _)).trans (hcount _)
    · exact s.schedDrop_calm n

theorem State.insertWin_calm (s : State) (n : Nat) (w : Entry) : Calm (winFlds n) s (s.insertWin n w).1 := by
  have hclip : ∀ b : Bool, Calm (winFlds n) s (if b then s.clipOne else s) := fun b => by
    cases b
    · exact .refl (winFlds_above n) s
    · exact s.clipOne_calm n
  have hplace : ∀ (p : Prop) [Decidable p] {u : State} (x : Entry), Calm (winFlds n) s u →
      Calm (winFlds n) s (if p then (u.schedDrop n, false) else u.placeEntry n x).1 := fun p _ u x hu => by
    split
    · exact hu.trans (u.schedDrop_calm n)
    · exact hu.trans (u.placeEntry_calm n x)
  unfold State.insertWin
  dsimp only
  split
  · exact s.placeEntry_calm n w
  · split
    · exact (s.setQueue_calm n _).trans (State.bump_calm (winFlds_above n) _ (by simp))
    · exact hplace _ _ (hclip _)

/-! ### What a step of the coil update finds unchanged -/

/-- Nothing that the coil temperatures rest on changes: θ, the profiles taken, and the register fields `P`; events and
their enables stand. -/
structure Cools (P : Fld → Prop) (s t : State) : Prop where
  theta : ∀ d, (t.drive d).theta = (s.drive d).theta
  prof : ∀ d, (t.drive d).prof = (s.drive d).prof
  held : ∀ f, P f → t.get f = s.get f
  status : ∀ n, s.srcStatus n = true → t.srcStatus n = true

theorem Cools.refl (P : Fld → Prop) (s : State) : Cools P s s := ⟨fun _ => rfl, fun _ => rfl, fun _ _ => rfl, fun _ h => h⟩

theorem Cools.trans {P : Fld → Prop} {s t u : State} (h : Cools P s t) (k : Cools P t u) : Cools P s u :=
  ⟨fun d => (k.theta d).trans (h.theta d), fun d => (k.prof d).trans (h.prof d),
    fun f hf => (k.held f hf).trans (h.held f hf), fun n hn => k.status n (h.status n hn)⟩

/-- θ and the profile of every channel's record. -/
def sameCoils (s t : State) : Prop := ∀ d, (t.drive d).theta = (s.drive d).theta ∧ (t.drive d).prof = (s.drive d).prof

theorem sameCoils.of_valves {s t : State} (h : t.valves = s.valves) : sameCoils s t := fun d => by
  rw [State.drive_congr h]
  exact ⟨rfl, rfl⟩

theorem Calm.cools {P : Fld → Prop} {l : List Fld} {s t : State} (h : Calm l s t) (hd : sameCoils s t)
    (hP : ∀ f, P f → f.calm) (hl : ∀ f, P f → ∀ g ∈ l, f.key ≠ g.key) : Cools P s t :=
  ⟨fun d => (hd d).1, fun d => (hd d).2, fun f hf => h.regs f (hP f hf) (hl f hf), h.status⟩

/-! ### A firing at the coil limit -/

theorem State.gateOff_coils (s : State) {c : Nat} (hc : c < 128) : sameCoils s (s.gateOff c) := fun d => by
  by_cases hd : d = c
  · rw [hd, s.gateOff_drive_self]
    exact ⟨rfl, rfl⟩
  · rw [(s.gateOff_drivesFollow hc d hd).1]
    exact ⟨rfl, rfl⟩

theorem sameCoils.trans {s t u : State} (h : sameCoils s t) (k : sameCoils t u) : sameCoils s u := fun d =>
  ⟨(k d).1.trans (h d).1, (k d).2.trans (h d).2⟩

theorem State.setDrive_coils {s : State} {c : Nat} {x : Drive} (ht : x.theta = (s.drive c).theta)
    (hp : x.prof = (s.drive c).prof) : sameCoils s (s.setDrive c x) := fun d => by
  rw [State.drive_setDrive]
  split
  next hd => rw [hd]; exact ⟨ht, hp⟩
  next => exact ⟨rfl, rfl⟩

/-- The register fields that the update of the coil temperatures reads or writes: of each channel its profile, TEMP, PEAK,
CWARN, CLIMIT and, but for channel `c`, its state; the limits, the profiles, LY's profile and LY's state; and the enables
of the events. -/
def coilHeld (c : Nat) (f : Fld) : Prop :=
  (0x8000 ≤ f.key / 32 ∧ f.key / 32 < 0xA000 ∧ (f.key / 32 % 64 = 0 ∨ f.key / 32 % 64 = 12 ∨ (f.key / 32 % 64 = 4 ∧
    (f.key % 32 = 6 ∨ f.key % 32 = 7 ∨ (f.key % 32 = 0 ∧ f.key / 32 ≠ 0x8004 + 64 * c))))) ∨
  (0xA820 ≤ f.key / 32 ∧ f.key / 32 < 0xAA08) ∨ f.key = 32 * 0xAA08 ∨ f.enables

theorem coilHeld_calm {c : Nat} {f : Fld} (h : coilHeld c f) : f.calm := by
  simp only [Fld.calm, Fld.noEvt, coilHeld, Fld.enables, Fld.key, MEM_TESTABORTS_COUNT] at h ⊢
  omega

theorem coilHeld_ne_follow {c : Nat} {f : Fld} (h : coilHeld c f) (b : Nat) : ∀ g ∈ followFlds b, f.key ≠ g.key := by
  simp only [coilHeld, Fld.enables, followFlds, List.forall_mem_cons, Fld.key, VBK_STAT_RAIL, VBK_STAT_PEAKING, VBK_STAT_HOLDING,
    VBK_STAT_LEADER, VBK_STAT_LEADVALID, VBK_PEAKMAX_MAX, ARB_STAT_TOKENS, ARB_STAT_FBUSED, ARB_STAT_NEFF,
    ARB_STAT_DIPCUT, ARB_TOKMAX_MAX] at h ⊢
  refine ⟨?_, ?_, ?_, ?_, ?_, ?_, ?_, ?_, ?_, ?_, ?_, List.forall_mem_nil _⟩ <;> omega

theorem coilHeld_ne_cut {c : Nat} {f : Fld} (h : coilHeld c f) (hc : c < 128) : ∀ g ∈ cutFlds c, f.key ≠ g.key := by
  rw [List.forall_mem_append]
  refine ⟨?_, coilHeld_ne_follow h c⟩
  simp only [coilHeld, Fld.enables, List.forall_mem_cons, Fld.key, VLV_STAT_STATE, VLV_STAT_UNMEAS, VLV_NMCNT_UNMEAS, VLV_STAT_QOCC,
    EJS_QOCC_MAX, EJS_QOCC_MAXCH] at h ⊢
  refine ⟨?_, ?_, ?_, ?_, ?_, ?_, List.forall_mem_nil _⟩ <;> omega

theorem coilHeld_ne_drop {c : Nat} {f : Fld} (h : coilHeld c f) : ∀ g ∈ dropFlds c, f.key ≠ g.key := by
  simp only [coilHeld, Fld.enables, dropFlds, List.forall_mem_cons, Fld.key, VLV_DROPCNT_COUNT, VLV_STAT_LASTDROP,
    VLV_TOKDROP_COUNT] at h ⊢
  refine ⟨?_, ?_, ?_, List.forall_mem_nil _⟩ <;> omega

theorem coilHeld_ne_win {c n : Nat} {f : Fld} (h : coilHeld c f) :
    ∀ g ∈ VLV_SHIFTCNT_COUNT c :: winFlds n, f.key ≠ g.key := by
  simp only [coilHeld, Fld.enables, List.cons_append, List.nil_append, List.forall_mem_cons, Fld.key, VLV_SHIFTCNT_COUNT,
    EJS_CLIPCNT_COUNT, EJS_STAT_CLIP, EJS_DROPCNT_COUNT, EJS_STAT_DROP, EJS_FIRECNT_COUNT, EJS_MERGECNT_COUNT,
    VLV_STAT_LASTDROP, VLV_STAT_QOCC, EJS_QOCC_MAX, EJS_QOCC_MAXCH] at h ⊢
  refine ⟨?_, ?_, ?_, ?_, ?_, ?_, ?_, ?_, ?_, ?_, ?_, List.forall_mem_nil _⟩ <;> omega

theorem State.driveDrop_cools (s : State) (c k : Nat) : Cools (coilHeld c) s (s.driveDrop c k) :=
  (s.driveDrop_calm c k).cools (.of_valves ((s.driveDrop_keeps c k).same.valves rfl)) (fun _ => coilHeld_calm)
    fun _ => coilHeld_ne_drop

/-- A shifted firing is counted and enters the neighbour's queue (R264). -/
theorem State.shifted_cools (s : State) (c n : Nat) (w : Entry) :
    Cools (coilHeld c) s ((s.bump (VLV_SHIFTCNT_COUNT c)).insertWin n w).1 := by
  have habove : ∀ g ∈ VLV_SHIFTCNT_COUNT c :: winFlds n, 32 * 0x1000 ≤ g.key := by
    refine List.forall_mem_cons.mpr ⟨?_, winFlds_above n⟩
    simp only [Fld.key, VLV_SHIFTCNT_COUNT]
    omega
  have hcalm := (s.bump_calm habove List.mem_cons_self).trans
    ((State.insertWin_calm (s.bump (VLV_SHIFTCNT_COUNT c)) n w).mono (fun f hf => .tail _ hf) habove)
  exact hcalm.cools (.of_valves ((State.insertWin_keeps _ n w).same.valves rfl)) (fun _ => coilHeld_calm)
    fun _ => coilHeld_ne_win

theorem State.shiftOrDrop_cools (s : State) (c : Nat) (e : Entry) (may : Bool) :
    Cools (coilHeld c) s (s.shiftOrDrop c e may) := by
  unfold State.shiftOrDrop
  split
  · split
    · exact s.shifted_cools c _ _
    · exact s.driveDrop_cools c 3
  · exact s.driveDrop_cools c 3

theorem State.gateOff_cools (s : State) {c : Nat} (hc : c < 128) : Cools (coilHeld c) s (s.gateOff c) := by
  have habove : ∀ g ∈ gateOffFlds c, g ∈ cutFlds c := fun g hg => by
    simp only [List.mem_append, List.mem_cons, List.not_mem_nil] at hg ⊢
    tauto
  have hcalm := (s.gateOff_regsBut hc).calm (fun g hg => cutFlds_above c g (habove g hg)) (s.gateOff_keeps c).fuses
  exact hcalm.cools (s.gateOff_coils hc) (fun _ => coilHeld_calm) fun f hf g hg => coilHeld_ne_cut hf hc g (habove g hg)

theorem State.cutFiring_cools (s : State) {c : Nat} (hc : c < 128) : Cools (coilHeld c) s (s.cutFiring c) :=
  (s.cutFiring_calm hc).cools (fun d => by rw [s.cutFiring_drive]; exact s.gateOff_coils hc d)
    (fun _ => coilHeld_calm) fun _ hf => coilHeld_ne_cut hf hc

/-- A firing at the coil limit leaves what the coil temperatures rest on, but for its channel's state (R264, R265). -/
theorem State.limitFiring_cools (s : State) {c : Nat} (hc : c < 128) : Cools (coilHeld c) s (s.limitFiring c) := by
  unfold State.limitFiring
  split
  · exact .refl _ s
  · split
    · refine (s.gateOff_cools hc).trans ?_
      have hcoils : sameCoils (s.gateOff c) ((s.gateOff c).setDrive c { (s.gateOff c).drive c with held := true }) :=
        State.setDrive_coils rfl rfl
      exact ⟨fun d => (hcoils d).1, fun d => (hcoils d).2, fun _ _ => rfl, fun _ h => h⟩
    · exact (s.cutFiring_cools hc).trans (State.shiftOrDrop_cools _ c _ _)

end Sys2Proof.Machine
end

section
/-! SUPPORT. LY fails at its coil limit: what the valve channels' coil temperatures find unchanged (R122, R269). -/

namespace Sys2Proof.Machine

open Reg

/-- The register fields of the valve channels, and LY's TEMP. -/
def lyHeld (f : Fld) : Prop := f.cls = 13 ∨ f = ARB_LYSTAT_TEMP

theorem Fld.cls_congr {f g : Fld} (h : f.key = g.key) : f.cls = g.cls := by
  unfold Fld.cls Fld.block
  rw [h]

theorem lyHeld_ne {f g : Fld} (h : lyHeld f) (hc : g.cls ≠ 13) (hk : ARB_LYSTAT_TEMP.key ≠ g.key) : f.key ≠ g.key := by
  rcases h with h | rfl
  · exact fun he => hc ((Fld.cls_congr he).symm.trans h)
  · exact hk

/-- A footprint without the valve channels' fields and LY's TEMP. -/
theorem Keeps.lyHeld {m : Nat} {s t : State} (k : Keeps m s t) (hv : m.testBit (32 + 13) = false)
    (ht : m.testBit (32 + ARB_LYSTAT_TEMP.cls) = false) {f : Fld} (h : lyHeld f) : t.get f = s.get f := by
  rcases h with h | rfl
  · exact k.fields f (by rwa [h])
  · exact k.fields _ ht

/-! ### Events stand -/

theorem State.srcStatus_of_stat {s t : State} (h : ∀ i, t.get (EVT_STAT_STAT i) = s.get (EVT_STAT_STAT i)) (n : Nat) :
    t.srcStatus n = s.srcStatus n := by
  rw [State.srcStatus, h, State.srcStatus]

theorem Keeps.status {m : Nat} {s t : State} (k : Keeps m s t) (hm : m.testBit (32 + 1) = false) (n : Nat) :
    t.srcStatus n = s.srcStatus n :=
  State.srcStatus_of_stat (fun i => k.fields _ (by rwa [Reg.EVT_STAT_STAT_cls])) n

theorem foldl_status {β : Type} {n : Nat} {g : State → β → State}
    (hg : ∀ s x, s.srcStatus n = true → (g s x).srcStatus n = true) (l : List β) (s : State) (h : s.srcStatus n = true) :
    (l.foldl g s).srcStatus n = true := by
  induction l generalizing s with
  | nil => exact h
  | cons x l ih => exact ih _ (hg s x h)

/-- The completion of an operation only adds events. -/
theorem State.opFinish_status (s : State) (opcode status : Nat) (det : List Nat) {n : Nat}
    (h : s.srcStatus n = true) : (s.opFinish opcode status det).srcStatus n = true :=
  foldl_status (fun t _ ht => State.raise_status_mono _ _ _
    (((State.sendReply_keeps t ..).status rfl n).trans ht)) _ _ h

theorem State.calFailed_status (s : State) (code : Nat) {n : Nat} (h : s.srcStatus n = true) :
    (s.calFailed code).srcStatus n = true := by
  rw [s.calFailed_eq]
  refine State.opFinish_status _ _ _ _ ?_
  rw [State.srcStatus_of_stat fun i => (s.failNoted_regsBut code).below (a := 32 * 0x6400) (by decide)
    ((statFld_below i).trans (by decide))]
  exact h

/-! ### LY's release -/

theorem State.gateOff_ly_coils (s : State) : sameCoils s (s.gateOff 128) := fun d => by
  by_cases hd : d = 128
  · rw [hd, s.gateOff_drive_self]
    exact ⟨rfl, rfl⟩
  · rw [s.gateOff_ly_drive_ne hd]
    exact ⟨rfl, rfl⟩

theorem releaseFlds_lyHeld {f : Fld} (h : lyHeld f) : ∀ g ∈ releaseFlds, f.key ≠ g.key := by
  simp only [List.forall_mem_cons]
  exact ⟨lyHeld_ne h (by decide +kernel) (by decide), lyHeld_ne h (by decide +kernel) (by decide),
    lyHeld_ne h (by decide +kernel) (by decide), List.forall_mem_nil _⟩

theorem State.lyOff_regsBut (s : State) : regsBut releaseFlds s s.lyOff := by
  unfold State.lyOff
  extract_lets u
  have hu : regsBut releaseFlds s u := (regsBut.refl _ s).set (by simp)
  split
  · have hset : regsBut releaseFlds s (u.setDrive ly { u.drive ly with loads := 0 }) := hu
    exact hset.trans ((State.gateOff_ly_regsBut _).mono fun f hf => by
      simp only [List.mem_cons, List.not_mem_nil] at hf ⊢
      tauto)
  · exact hu

theorem State.lyOff_coils (s : State) : sameCoils s s.lyOff := by
  unfold State.lyOff
  extract_lets u
  have hu : sameCoils s u := .of_valves rfl
  split
  · have hset : sameCoils u (u.setDrive ly { u.drive ly with loads := 0 }) := State.setDrive_coils rfl rfl
    exact (hu.trans hset).trans (State.gateOff_ly_coils _)
  · exact hu

theorem State.lyOff_status (s : State) (n : Nat) : s.lyOff.srcStatus n = s.srcStatus n :=
  State.srcStatus_of_stat (fun i => s.lyOff_regsBut.below (a := 32 * 0x4000) (by decide) (statFld_below i)) n

theorem State.lyOff_cools (s : State) : Cools lyHeld s s.lyOff :=
  ⟨fun d => (s.lyOff_coils d).1, fun d => (s.lyOff_coils d).2, fun f hf => s.lyOff_regsBut f (releaseFlds_lyHeld hf),
    fun n h => by rwa [s.lyOff_status]⟩

theorem State.raise_lyHeld (s : State) (n : Nat) {f : Fld} (h : lyHeld f) : (s.raise n).get f = s.get f :=
  (s.raise_keeps n).lyHeld rfl (by decide +kernel) h

theorem State.raise_cools (s : State) (n : Nat) : Cools lyHeld s (s.raise n) := by
  have hcoils : sameCoils s (s.raise n) := .of_valves ((s.raise_keeps n).same.valves rfl)
  exact ⟨fun d => (hcoils d).1, fun d => (hcoils d).2, fun f hf => s.raise_lyHeld n hf,
    fun m h => s.raise_status_mono n m h⟩

theorem State.calFailed_cools (s : State) (code : Nat) : Cools lyHeld s (s.calFailed code) := by
  have hcoils : sameCoils s (s.calFailed code) := .of_valves ((s.calFailed_keeps code).same.valves rfl)
  exact ⟨fun d => (hcoils d).1, fun d => (hcoils d).2,
    fun f hf => (s.calFailed_keeps code).lyHeld rfl (by decide +kernel) hf, fun m h => s.calFailed_status code h⟩

theorem State.setPhase_status (s : State) (p n : Nat) : (s.setPhase p).srcStatus n = s.srcStatus n :=
  State.srcStatus_of_stat (fun i => State.get_set_ne _ _ _ _ fun he => by
    have hstat := statFld_below i
    have hphase : 32 * 0x4000 ≤ CAL_STATUS_PHASE.key := by decide
    omega) n

theorem State.setPhase_cools (s : State) (p : Nat) : Cools lyHeld s (s.setPhase p) :=
  ⟨fun _ => rfl, fun _ => rfl, fun f hf => State.get_set_ne _ _ _ _ (lyHeld_ne hf (by decide +kernel) (by decide)),
    fun n h => by rwa [s.setPhase_status]⟩

theorem State.calRelease_cools (s : State) : Cools lyHeld s s.calRelease :=
  have hcal : Cools lyHeld s { s with cal := { s.cal with releasedAt := s.time, openAt := 0 } } :=
    ⟨fun _ => rfl, fun _ => rfl, fun _ _ => rfl, fun _ h => h⟩
  hcal.trans (State.lyOff_cools _)

theorem State.lyFailed_cools (s : State) : Cools lyHeld s s.lyFailed := by
  unfold State.lyFailed
  split
  · exact ((s.calRelease_cools.trans (State.calFailed_cools _ 2)).trans (State.raise_cools _ _)).trans (State.setPhase_cools _ 5)
  · exact s.lyOff_cools.trans (State.raise_cools _ _)

end Sys2Proof.Machine
end

section
/-! SUPPORT. The update of the coil temperatures, channel by channel (R262, R263, R265). -/

namespace Sys2Proof.Machine

open Reg

/-! ### The step of one valve channel -/

/-- θ of a channel after the update (R262). -/
def State.coilTheta (s : State) (amb : Int) (c i2 : Nat) : Int :=
  coilNext amb (s.drive c).theta i2 (s.coilParams c).1 (s.coilParams c).2.1 (s.coilParams c).2.2

/-- CWARN of a channel at a code (R263). -/
def State.coilWarn (s : State) (c code : Nat) : Bool :=
  coilLevel (s.get (VLV_STAT_CWARN c) == 1) code (s.get ARB_COILLIM_WARN) (s.get ARB_COILLIM_HYS)

/-- CLIMIT of a channel at a code (R263). -/
def State.coilLimit (s : State) (c code : Nat) : Bool :=
  coilLevel (s.get (VLV_STAT_CLIMIT c) == 1) code (s.get ARB_COILLIM_LIMIT) (s.get ARB_COILLIM_HYS)

/-- A valve channel shows θ, TEMP, PEAK, CWARN and CLIMIT. -/
def State.coilShown (s : State) (c : Nat) (th : Int) : State :=
  ((((s.setDrive c { s.drive c with theta := th }).set (VLV_COIL_TEMP c) (thetaCode th)).set (VLV_COIL_PEAK c)
    (max (thetaCode th) (s.get (VLV_COIL_PEAK c)))).set (VLV_STAT_CWARN c) (b2n (s.coilWarn c (thetaCode th)))).set
    (VLV_STAT_CLIMIT c) (b2n (s.coilLimit c (thetaCode th)))

theorem State.coilStep_valve (s : State) (amb : Int) {c : Nat} (i2 : Nat) (hc : c < 128) : s.coilStep amb c i2 =
    if s.coilLimit c (thetaCode (s.coilTheta amb c i2)) && !(s.get (VLV_STAT_CLIMIT c) == 1) then
      ((s.coilShown c (s.coilTheta amb c i2)).raise (Src.coilLimit c)).limitFiring c
    else s.coilShown c (s.coilTheta amb c i2) := by
  have hcoil : ∀ (t : State) (x y : Nat) (f : Fld), f.key / 32 ≠ 0x800C + 64 * c →
      ((t.set (VLV_COIL_TEMP c) x).set (VLV_COIL_PEAK c) y).get f = t.get f := fun t x y f hf => by
    rw [State.get_set_ne, State.get_set_ne] <;>
      simp only [Fld.key, VLV_COIL_PEAK, VLV_COIL_TEMP] at hf ⊢ <;> omega
  have hwarn : ∀ (t : State) (x : Nat), (t.set (VLV_STAT_CWARN c) x).get (VLV_STAT_CLIMIT c) =
      t.get (VLV_STAT_CLIMIT c) :=
    fun t x => State.get_set_ne _ _ _ _ (by simp only [Fld.key, VLV_STAT_CLIMIT, VLV_STAT_CWARN]; omega)
  have hlimit : ∀ (t : State) (x : Nat), (t.set (VLV_STAT_CWARN c) x).get ARB_COILLIM_LIMIT = t.get ARB_COILLIM_LIMIT :=
    fun t x => State.get_set_ne _ _ _ _ (by simp only [Fld.key, ARB_COILLIM_LIMIT, VLV_STAT_CWARN]; omega)
  have hstat : (VLV_STAT_CWARN c).key / 32 ≠ 0x800C + 64 * c ∧ (VLV_STAT_CLIMIT c).key / 32 ≠ 0x800C + 64 * c ∧
      ARB_COILLIM_WARN.key / 32 ≠ 0x800C + 64 * c ∧ ARB_COILLIM_LIMIT.key / 32 ≠ 0x800C + 64 * c := by
    simp only [Fld.key, VLV_STAT_CWARN, VLV_STAT_CLIMIT, ARB_COILLIM_WARN, ARB_COILLIM_LIMIT]
    omega
  obtain ⟨hcw, hcl, haw, hal⟩ := hstat
  simp only [State.coilStep, if_neg (ne_ly hc), State.flag, State.setB_eq, hwarn, hlimit, hcoil _ _ _ _ hcw,
    hcoil _ _ _ _ hcl, hcoil _ _ _ _ haw, hcoil _ _ _ _ hal, State.get_setDrive]
  rfl

/-! ### What the update shows of one channel -/

/-- What the update shows of channel `c`, whose record and registers were those of `s` (R262, R263, R265). -/
structure CoilDone (s : State) (amb : Int) (i2 c : Nat) (t : State) : Prop where
  theta : (t.drive c).theta = s.coilTheta amb c i2
  temp : t.get (VLV_COIL_TEMP c) = thetaCode (s.coilTheta amb c i2)
  peak : t.get (VLV_COIL_PEAK c) = max (thetaCode (s.coilTheta amb c i2)) (s.get (VLV_COIL_PEAK c)) % 2 ^ 12
  warn : t.get (VLV_STAT_CWARN c) = 1 ↔ s.coilWarn c (thetaCode (s.coilTheta amb c i2)) = true
  limit : t.get (VLV_STAT_CLIMIT c) = 1 ↔ s.coilLimit c (thetaCode (s.coilTheta amb c i2)) = true
  event : s.get (VLV_STAT_CLIMIT c) ≠ 1 → t.get (VLV_STAT_CLIMIT c) = 1 → raisedIn (Src.coilLimit c) s t

/-- The fields that the update shows of a channel. -/
abbrev coilOwn (c : Nat) : List Fld := [VLV_COIL_TEMP c, VLV_COIL_PEAK c, VLV_STAT_CWARN c, VLV_STAT_CLIMIT c]

/-- What was shown of a channel stays where θ, the fields shown and the events stand. -/
theorem CoilDone.after {s t u : State} {amb : Int} {i2 c : Nat} (h : CoilDone s amb i2 c t)
    (ht : (u.drive c).theta = (t.drive c).theta) (hf : ∀ f ∈ coilOwn c, u.get f = t.get f)
    (hs : ∀ n, t.srcStatus n = true → u.srcStatus n = true) : CoilDone s amb i2 c u := by
  simp only [List.forall_mem_cons] at hf
  obtain ⟨htemp, hpeak, hwarn, hlimit, -⟩ := hf
  exact ⟨ht.trans h.theta, htemp.trans h.temp, hpeak.trans h.peak, by rw [hwarn]; exact h.warn,
    by rw [hlimit]; exact h.limit, fun h0 h1 he hn => hs _ (h.event h0 (hlimit ▸ h1) he hn)⟩

theorem coilOwn_held (c d : Nat) : ∀ f ∈ coilOwn d, coilHeld c f := by
  simp only [List.forall_mem_cons, coilHeld, Fld.key, VLV_COIL_TEMP, VLV_COIL_PEAK, VLV_STAT_CWARN, VLV_STAT_CLIMIT]
  refine ⟨?_, ?_, ?_, ?_, List.forall_mem_nil _⟩ <;> omega

theorem thetaCode_lt (th : Int) : thetaCode th < 2 ^ 12 := by
  unfold thetaCode clampN clampI
  split_ifs <;> omega

theorem State.coilShown_regsBut (s : State) (c : Nat) (th : Int) : regsBut (coilOwn c) s (s.coilShown c th) := by
  have hset : regsBut (coilOwn c) s (s.setDrive c { s.drive c with theta := th }) := .refl _ s
  exact (((hset.set (by simp)).set (by simp)).set (by simp)).set (by simp)

theorem coilOwn_above (c : Nat) : ∀ g ∈ coilOwn c, 32 * 0x1000 ≤ g.key := by
  simp only [List.forall_mem_cons, Fld.key, VLV_COIL_TEMP, VLV_COIL_PEAK, VLV_STAT_CWARN, VLV_STAT_CLIMIT]
  refine ⟨?_, ?_, ?_, ?_, List.forall_mem_nil _⟩ <;> omega

theorem State.coilShown_calm (s : State) (c : Nat) (th : Int) : Calm (coilOwn c) s (s.coilShown c th) :=
  (s.coilShown_regsBut c th).calm (coilOwn_above c) rfl

theorem State.coilShown_drive (s : State) (c : Nat) (th : Int) (d : Nat) : (s.coilShown c th).drive d =
    if d = c then { s.drive c with theta := th } else s.drive d := by
  unfold State.coilShown
  simp only [State.drive_set, State.drive_setDrive]

theorem State.coilShown_temp (s : State) (c : Nat) (th : Int) :
    (s.coilShown c th).get (VLV_COIL_TEMP c) = thetaCode th := by
  unfold State.coilShown
  rw [State.get_set_ne, State.get_set_ne, State.get_set_ne, State.get_set]
  · exact Nat.mod_eq_of_lt (thetaCode_lt th)
  all_goals simp only [Fld.key, VLV_COIL_TEMP, VLV_COIL_PEAK, VLV_STAT_CWARN, VLV_STAT_CLIMIT]; omega

theorem State.coilShown_peak (s : State) (c : Nat) (th : Int) :
    (s.coilShown c th).get (VLV_COIL_PEAK c) = max (thetaCode th) (s.get (VLV_COIL_PEAK c)) % 2 ^ 12 := by
  unfold State.coilShown
  rw [State.get_set_ne, State.get_set_ne, State.get_set]
  · rfl
  all_goals simp only [Fld.key, VLV_COIL_PEAK, VLV_STAT_CWARN, VLV_STAT_CLIMIT]; omega

theorem State.coilShown_warn (s : State) (c : Nat) (th : Int) :
    (s.coilShown c th).get (VLV_STAT_CWARN c) = 1 ↔ s.coilWarn c (thetaCode th) = true := by
  unfold State.coilShown
  rw [State.get_set_ne, State.get_set]
  · exact b2n_eq_one _
  · simp only [Fld.key, VLV_STAT_CWARN, VLV_STAT_CLIMIT]
    omega

theorem State.coilShown_limit (s : State) (c : Nat) (th : Int) :
    (s.coilShown c th).get (VLV_STAT_CLIMIT c) = 1 ↔ s.coilLimit c (thetaCode th) = true := by
  unfold State.coilShown
  rw [State.get_set]
  exact b2n_eq_one _

/-- A newly met limit raises the channel's event; its firing ends then. -/
theorem State.coilLimited_raised (s : State) {c : Nat} (th : Int) (hc : c < 128) :
    raisedIn (Src.coilLimit c) s (((s.coilShown c th).raise (Src.coilLimit c)).limitFiring c) :=
  fun he hn => (State.limitFiring_cools _ hc).status _
    ((State.raise_status (s.coilShown c th) _).since (s.coilShown_calm c th) he hn)

theorem State.raise_coilHeld (s : State) (n c : Nat) : Cools (coilHeld c) s (s.raise n) :=
  (State.raise_calm s n (l := []) (List.forall_mem_nil _)).cools (.of_valves (s.raise_valves n))
    (fun _ => coilHeld_calm) fun _ _ => List.forall_mem_nil _

/-- From what it shows of a channel, a step of the update goes on to end its firing at most. -/
theorem State.coilStep_cools (s : State) (amb : Int) {c : Nat} (i2 : Nat) (hc : c < 128) :
    Cools (coilHeld c) (s.coilShown c (s.coilTheta amb c i2)) (s.coilStep amb c i2) := by
  rw [s.coilStep_valve amb i2 hc]
  split
  · exact (State.raise_coilHeld _ _ c).trans (State.limitFiring_cools _ hc)
  · exact .refl _ _

theorem State.coilStep_done (s : State) (amb : Int) {c : Nat} (i2 : Nat) (hc : c < 128) :
    CoilDone s amb i2 c (s.coilStep amb c i2) := by
  have hcools := s.coilStep_cools amb i2 hc
  have hown := fun f hf => hcools.held f (coilOwn_held c c f hf)
  simp only [List.forall_mem_cons] at hown
  obtain ⟨htemp, hpeak, hwarn, hlimit, -⟩ := hown
  have hlim : (s.coilStep amb c i2).get (VLV_STAT_CLIMIT c) = 1 ↔
      s.coilLimit c (thetaCode (s.coilTheta amb c i2)) = true := by rw [hlimit]; exact s.coilShown_limit c _
  refine ⟨?_, htemp.trans (s.coilShown_temp c _), hpeak.trans (s.coilShown_peak c _), ?_, hlim, fun h0 h1 => ?_⟩
  · rw [hcools.theta, State.coilShown_drive, if_pos rfl]
  · rw [hwarn]
    exact s.coilShown_warn c _
  · rw [s.coilStep_valve amb i2 hc, if_pos (by rw [hlim.mp h1, beq_eq_false_iff_ne.mpr h0]; rfl)]
    exact s.coilLimited_raised _ hc

/-! ### What the update of some channels leaves of the others -/

/-- A field that the step of valve channel `c` leaves. -/
def coilRest (c : Nat) (f : Fld) : Prop := coilHeld c f ∧ f.key / 32 ≠ 0x8004 + 64 * c ∧ f.key / 32 ≠ 0x800C + 64 * c

/-- What the update of the valve channels `l` leaves. -/
structure CoilKept (l : List Nat) (s t : State) : Prop where
  theta : ∀ d, d ∉ l → (t.drive d).theta = (s.drive d).theta
  prof : ∀ d, (t.drive d).prof = (s.drive d).prof
  held : ∀ f, (∀ c ∈ l, coilRest c f) → t.get f = s.get f
  status : ∀ n, s.srcStatus n = true → t.srcStatus n = true
  fuses : t.fuses = s.fuses

theorem CoilKept.nil (s : State) : CoilKept [] s s := ⟨fun _ _ => rfl, fun _ => rfl, fun _ _ => rfl, fun _ h => h, rfl⟩

theorem CoilKept.cons {c : Nat} {l : List Nat} {s t u : State} (h : CoilKept [c] s t) (k : CoilKept l t u) :
    CoilKept (c :: l) s u where
  theta d hd := by
    rw [List.mem_cons, not_or] at hd
    exact (k.theta d hd.2).trans (h.theta d (by simpa using hd.1))
  prof d := (k.prof d).trans (h.prof d)
  held f hf := by
    rw [List.forall_mem_cons] at hf
    exact (k.held f hf.2).trans (h.held f (by simpa using hf.1))
  status n hn := k.status n (h.status n hn)
  fuses := k.fuses.trans h.fuses

theorem State.coilStep_kept (s : State) (amb : Int) {c : Nat} (i2 : Nat) (hc : c < 128) :
    CoilKept [c] s (s.coilStep amb c i2) := by
  have hcools := s.coilStep_cools amb i2 hc
  have hdrive := s.coilShown_drive c (s.coilTheta amb c i2)
  refine ⟨fun d hd => ?_, fun d => ?_, fun f hf => ?_,
    fun n hn => hcools.status n ((s.coilShown_calm c _).status n hn), (s.coilStep_keeps amb c i2).fuses⟩
  · rw [hcools.theta, hdrive, if_neg (by simpa using hd)]
  · rw [hcools.prof, hdrive]
    split
    next h => rw [h]
    next => rfl
  · obtain ⟨hheld, hstat, hcoil⟩ := hf c List.mem_cons_self
    rw [hcools.held f hheld, s.coilShown_regsBut c _ f]
    simp only [List.forall_mem_cons, Fld.key, VLV_COIL_TEMP, VLV_COIL_PEAK, VLV_STAT_CWARN, VLV_STAT_CLIMIT] at hstat hcoil ⊢
    refine ⟨?_, ?_, ?_, ?_, List.forall_mem_nil _⟩ <;> omega

/-- The coil parameters of a channel with the fields they are read from kept (R245, R262). -/
theorem State.coilParams_congr {s t : State} {d : Nat} (hp : (t.drive d).prof = (s.drive d).prof)
    (hs : t.chState d = s.chState d) (hr : t.profOf d = s.profOf d)
    (hc : ∀ f : Fld, 0xA900 ≤ f.key / 32 → f.key / 32 < 0xAA00 → t.get f = s.get f) :
    t.coilParams d = s.coilParams d := by
  have hcoil : ∀ p : Nat, t.get (ARB_PROF_COIL_R20 p) = s.get (ARB_PROF_COIL_R20 p) ∧
      t.get (ARB_PROF_COIL_RTH p) = s.get (ARB_PROF_COIL_RTH p) ∧
      t.get (ARB_PROF_COIL_TAUTH p) = s.get (ARB_PROF_COIL_TAUTH p) := fun p => by
    refine ⟨hc _ ?_ ?_, hc _ ?_ ?_, hc _ ?_ ?_⟩ <;>
      simp only [Fld.key, ARB_PROF_COIL_R20, ARB_PROF_COIL_RTH, ARB_PROF_COIL_TAUTH] <;> omega
  obtain ⟨hr20, hrth, htauth⟩ := hcoil (s.profOf d)
  simp only [State.coilParams, hs, hr, hp, hr20, hrth, htauth]

/-- The fields that the coil of a channel which the update has not reached rests on. -/
abbrev coilReads (d : Nat) : List Fld :=
  [stateFld d, if d = ly then ARB_LYCFG_PROF else VLV_CTRL_PROF d, ARB_COILLIM_WARN, ARB_COILLIM_LIMIT, ARB_COILLIM_HYS]

theorem State.profOf_eq (s : State) (d : Nat) : s.profOf d = s.get (if d = ly then ARB_LYCFG_PROF else VLV_CTRL_PROF d) :=
  (apply_ite s.get _ _ _).symm

theorem coilReads_rest {c d : Nat} (hc : c < 128) (hd : d ≤ 128) (h : d ≠ c) : ∀ f ∈ coilReads d, coilRest c f := by
  unfold coilReads stateFld
  rcases eq_or_ne d ly with rfl | hv
  case' inl => simp only [if_pos]
  case' inr => simp only [if_neg hv]
  all_goals
    unfold ly at *
    simp only [List.forall_mem_cons, coilRest, coilHeld, true_or, or_true, true_and, Fld.enables, Fld.key,
      VLV_STAT_STATE, VLV_CTRL_PROF, ARB_LYSTAT_STATE, ARB_LYCFG_PROF, ARB_COILLIM_WARN, ARB_COILLIM_LIMIT,
      ARB_COILLIM_HYS]
    refine ⟨?_, ?_, ?_, ?_, ?_, List.forall_mem_nil _⟩ <;> omega

theorem coilOwn_rest {c d : Nat} (hd : d < 128) (h : d ≠ c) : ∀ f ∈ coilOwn d, coilRest c f := fun f hf => by
  refine ⟨coilOwn_held c d f hf, ?_⟩
  revert f
  simp only [List.forall_mem_cons, Fld.key, VLV_COIL_TEMP, VLV_COIL_PEAK, VLV_STAT_CWARN, VLV_STAT_CLIMIT]
  refine ⟨?_, ?_, ?_, ?_, List.forall_mem_nil _⟩ <;> omega

theorem prof_rest {c : Nat} (hc : c < 128) {f : Fld} (hlo : 0xA900 ≤ f.key / 32) (hhi : f.key / 32 < 0xAA00) :
    coilRest c f := by
  refine ⟨.inr (.inl ⟨?_, ?_⟩), ?_, ?_⟩ <;> omega

theorem CoilKept.own {l : List Nat} {s t : State} (h : CoilKept l s t) {d : Nat} (hd : d < 128) (hn : d ∉ l) :
    ∀ f ∈ coilOwn d, t.get f = s.get f := fun f hf =>
  h.held f fun _ hc => coilOwn_rest hd (fun he => hn (he ▸ hc)) f hf

section
variable {l : List Nat} {s t : State} (h : CoilKept l s t) (hl : ∀ c ∈ l, c < 128)
include h hl

theorem CoilKept.coilParams {d : Nat} (hd : d ≤ 128) (hn : d ∉ l) : t.coilParams d = s.coilParams d := by
  have hreads : ∀ f ∈ coilReads d, t.get f = s.get f := fun f hf =>
    h.held f fun c hc => coilReads_rest (hl c hc) hd (fun he => hn (he ▸ hc)) f hf
  refine State.coilParams_congr (h.prof d) (hreads _ (by simp)) ?_ fun f hlo hhi =>
    h.held f fun c hc => prof_rest (hl c hc) hlo hhi
  rw [State.profOf_eq, State.profOf_eq]
  exact hreads _ (by simp)

theorem CoilKept.coilTheta (amb : Int) {d : Nat} (i2 : Nat) (hd : d ≤ 128) (hn : d ∉ l) :
    t.coilTheta amb d i2 = s.coilTheta amb d i2 := by
  rw [State.coilTheta, h.theta d hn, h.coilParams hl hd hn, State.coilTheta]

/-- A channel that other channels' steps went before is as the update found it. -/
theorem CoilDone.since {u : State} {amb : Int} {i2 d : Nat} (k : CoilDone t amb i2 d u) (hd : d < 128) (hn : d ∉ l) :
    CoilDone s amb i2 d u := by
  have hown := h.own hd hn
  have hreads : ∀ f ∈ coilReads d, t.get f = s.get f := fun f hf =>
    h.held f fun c hc => coilReads_rest (hl c hc) hd.le (fun he => hn (he ▸ hc)) f hf
  have hen : t.get (enFld (Src.coilLimit d / 32)) = s.get (enFld (Src.coilLimit d / 32)) :=
    h.held _ fun c _ => by
      have hen := enFld_enables (Src.coilLimit d / 32)
      refine ⟨.inr (.inr (.inr hen)), ?_, ?_⟩ <;> omega
  simp only [List.forall_mem_cons] at hown hreads
  obtain ⟨-, hpeak, hwarn, hlimit, -⟩ := hown
  obtain ⟨-, -, haw, hal, hhys, -⟩ := hreads
  obtain ⟨ktheta, ktemp, kpeak, kwarn, klimit, kevent⟩ := k
  rw [h.coilTheta hl amb i2 hd.le hn] at ktheta ktemp kpeak kwarn klimit
  rw [hpeak] at kpeak
  rw [State.coilWarn, hwarn, haw, hhys] at kwarn
  rw [State.coilLimit, hlimit, hal, hhys] at klimit
  exact ⟨ktheta, ktemp, kpeak, kwarn, klimit, fun h0 h1 => (kevent (by rwa [hlimit]) h1).of_enables h.fuses hen⟩

end

/-! ### All valve channels -/

theorem foldl_coilStep_kept (amb : Int) (i2 : Nat → Nat) {l : List Nat} (hl : ∀ c ∈ l, c < 128) (s : State) :
    CoilKept l s (l.foldl (fun s c => s.coilStep amb c (i2 c)) s) := by
  induction l generalizing s with
  | nil => exact .nil s
  | cons c l ih =>
    rw [List.forall_mem_cons] at hl
    exact (s.coilStep_kept amb (i2 c) hl.1).cons (ih hl.2 _)

theorem foldl_coilStep_done (amb : Int) (i2 : Nat → Nat) {l : List Nat} (hl : ∀ c ∈ l, c < 128) (hn : l.Nodup) (s : State) :
    ∀ d ∈ l, CoilDone s amb (i2 d) d (l.foldl (fun s c => s.coilStep amb c (i2 c)) s) := by
  induction l generalizing s with
  | nil => exact List.forall_mem_nil _
  | cons c l ih =>
    rw [List.forall_mem_cons] at hl
    obtain ⟨hc, hl⟩ := hl
    obtain ⟨hcl, hn⟩ := List.nodup_cons.mp hn
    refine List.forall_mem_cons.mpr ⟨?_, fun d hd => ?_⟩
    · have hkept := foldl_coilStep_kept amb i2 hl (s.coilStep amb c (i2 c))
      exact (s.coilStep_done amb (i2 c) hc).after (hkept.theta c hcl) (hkept.own hc hcl) hkept.status
    · have hdc : d ∉ [c] := by
        rw [List.mem_singleton]
        rintro rfl
        exact hcl hd
      exact CoilDone.since (s.coilStep_kept amb (i2 c) hc) (by simpa using hc) (ih hl hn _ d hd) (hl d hd) hdc

/-- The update of the valve channels, before LY's. -/
def State.coilValves (s : State) (amb : Int) (i2 : List Nat) : State :=
  (List.range s.nChans).foldl (fun s c => s.coilStep amb c (i2.getD c 0)) s

theorem State.coilValves_kept (s : State) (amb : Int) (i2 : List Nat) :
    CoilKept (List.range s.nChans) s (s.coilValves amb i2) :=
  foldl_coilStep_kept amb (fun c => i2.getD c 0) (fun _ hc => (List.mem_range.mp hc).trans_le s.nChans_le) s

theorem State.coilUpdate_eq (s : State) (i2 : List Nat) :
    s.coilUpdate i2 = (s.coilValves s.ambient i2).coilStep s.ambient 128 (i2.getD s.nChans 0) := by
  have hchans : (s.coilValves s.ambient i2).nChans = s.nChans := by
    unfold State.nChans
    rw [(s.coilValves_kept s.ambient i2).fuses]
  rw [← hchans]
  rfl

theorem State.coilValves_done (s : State) (amb : Int) (i2 : List Nat) {c : Nat} (hc : c < s.nChans) :
    CoilDone s amb (i2.getD c 0) c (s.coilValves amb i2) :=
  foldl_coilStep_done amb (fun c => i2.getD c 0) (fun _ hc => (List.mem_range.mp hc).trans_le s.nChans_le)
    List.nodup_range s c (List.mem_range.mpr hc)

/-! ### LY -/

/-- LY's CLIMIT at a code (R263). -/
def State.lyLimit (s : State) (code : Nat) : Bool :=
  coilLevel (s.get ARB_LYSTAT_CLIMIT == 1) code (s.get ARB_COILLIM_LIMIT) (s.get ARB_COILLIM_HYS)

/-- LY shows θ, TEMP and CLIMIT. -/
def State.lyShown (s : State) (th : Int) : State :=
  ((s.setDrive 128 { s.drive 128 with theta := th }).set ARB_LYSTAT_TEMP (thetaCode th)).set ARB_LYSTAT_CLIMIT
    (b2n (s.lyLimit (thetaCode th)))

theorem State.coilStep_ly (s : State) (amb : Int) (i2 : Nat) : s.coilStep amb 128 i2 =
    if s.lyLimit (thetaCode (s.coilTheta amb 128 i2)) && (s.lyShown (s.coilTheta amb 128 i2)).flag ARB_LYCTRL_ENERGISE then
      (s.lyShown (s.coilTheta amb 128 i2)).lyFailed
    else s.lyShown (s.coilTheta amb 128 i2) := by
  unfold State.coilStep
  rw [if_pos (show (128 : Nat) = ly from rfl)]
  rfl

theorem State.lyShown_temp (s : State) (th : Int) : (s.lyShown th).get ARB_LYSTAT_TEMP = thetaCode th := by
  unfold State.lyShown
  rw [State.get_set_ne _ _ _ _ (by decide), State.get_set]
  exact Nat.mod_eq_of_lt (thetaCode_lt th)

theorem State.lyShown_drive (s : State) (th : Int) (d : Nat) : (s.lyShown th).drive d =
    if d = 128 then { s.drive 128 with theta := th } else s.drive d := by
  unfold State.lyShown
  simp only [State.drive_set, State.drive_setDrive]

theorem State.lyShown_regsBut (s : State) (th : Int) :
    regsBut [ARB_LYSTAT_TEMP, ARB_LYSTAT_CLIMIT] s (s.lyShown th) := by
  have hset : regsBut [ARB_LYSTAT_TEMP, ARB_LYSTAT_CLIMIT] s (s.setDrive 128 { s.drive 128 with theta := th }) := .refl _ s
  exact (hset.set (by simp)).set (by simp)

theorem State.coilStep_ly_cools (s : State) (amb : Int) (i2 : Nat) :
    Cools lyHeld (s.lyShown (s.coilTheta amb 128 i2)) (s.coilStep amb 128 i2) := by
  rw [s.coilStep_ly]
  split
  · exact State.lyFailed_cools _
  · exact .refl _ _

theorem coilOwn_lyHeld (c : Nat) : ∀ f ∈ coilOwn c, lyHeld f := by
  simp only [List.forall_mem_cons]
  exact ⟨.inl (VLV_COIL_TEMP_cls c), .inl (VLV_COIL_PEAK_cls c), .inl (VLV_STAT_CWARN_cls c), .inl (VLV_STAT_CLIMIT_cls c),
    List.forall_mem_nil _⟩

theorem coilOwn_below (c : Nat) : ∀ f ∈ coilOwn c, f.key < 32 * 0xA000 := by
  simp only [List.forall_mem_cons, Fld.key, VLV_COIL_TEMP, VLV_COIL_PEAK, VLV_STAT_CWARN, VLV_STAT_CLIMIT]
  refine ⟨?_, ?_, ?_, ?_, List.forall_mem_nil _⟩ <;> omega

/-- LY's step leaves what was shown of a valve channel. -/
theorem CoilDone.after_ly {s t : State} {amb : Int} {i2 c : Nat} (h : CoilDone s amb i2 c t) (hc : c < 128) (i : Nat) :
    CoilDone s amb i2 c (t.coilStep amb 128 i) := by
  have hcools := t.coilStep_ly_cools amb i
  have hregs := t.lyShown_regsBut (t.coilTheta amb 128 i)
  refine h.after ?_ (fun f hf => ?_) fun n hn => hcools.status n ?_
  · rw [hcools.theta, State.lyShown_drive, if_neg (by omega)]
  · rw [hcools.held f (coilOwn_lyHeld c f hf), hregs.below (a := 32 * 0xA000) (by decide) (coilOwn_below c f hf)]
  · rw [State.srcStatus_of_stat fun i => hregs.below (a := 32 * 0x4000) (by decide) (statFld_below i)]
    exact hn

/-- LY's step shows its θ and TEMP. -/
theorem State.coilStep_ly_shown (s : State) (amb : Int) (i2 : Nat) :
    ((s.coilStep amb 128 i2).drive 128).theta = s.coilTheta amb 128 i2 ∧
    (s.coilStep amb 128 i2).get ARB_LYSTAT_TEMP = thetaCode (s.coilTheta amb 128 i2) := by
  have hcools := s.coilStep_ly_cools amb i2
  refine ⟨?_, (hcools.held _ (.inr rfl)).trans (s.lyShown_temp _)⟩
  rw [hcools.theta, State.lyShown_drive, if_pos rfl]

end Sys2Proof.Machine

namespace Sys2Proof

open Sys2Proof.Machine Sys2Proof.Machine.Reg

/-- Settles O38: the channels' steps one after the other, each from what the steps before leave, then LY's. -/
theorem coilTemperaturesFollowTheirModel : Obligations.CoilTemperaturesFollowTheirModel := by
  unfold Obligations.CoilTemperaturesFollowTheirModel
  intro s i
  have hl : ∀ c ∈ List.range s.nChans, c < 128 := fun c hc => (List.mem_range.mp hc).trans_le s.nChans_le
  have hly : 128 ∉ List.range s.nChans := fun h => lt_irrefl _ (hl _ h)
  have hexec : exec (.coilThermalUpdate i) s = .next (s.coilUpdate i) := rfl
  rw [s.coilUpdate_eq] at hexec
  have hframe := everyCommandKeepsWhatIsOutsideItsFrame _ _ _ hexec
  obtain ⟨hlytheta, hlytemp⟩ := (s.coilValves s.ambient i).coilStep_ly_shown s.ambient (i.getD s.nChans 0)
  have hlykept := (s.coilValves_kept s.ambient i).coilTheta hl s.ambient (i.getD s.nChans 0) le_rfl hly
  refine ⟨_, hexec, fun c hc => ?_, hlytheta.trans hlykept, hlytemp.trans (congrArg thetaCode hlytheta.symm), hframe⟩
  obtain ⟨htheta, htemp, hpeak, hwarn, hlimit, hevent⟩ :=
    (s.coilValves_done s.ambient i hc).after_ly (hc.trans_le s.nChans_le) (i.getD s.nChans 0)
  rw [← htheta] at htemp hpeak hwarn hlimit
  exact ⟨htheta, htemp, hpeak, hwarn, hlimit, hevent⟩

end Sys2Proof
end

section
/-! SUPPORT. The release of a reset: which registers it leaves at their Reset values (R428, R432, R433; log entries 18, 32). -/

namespace Sys2Proof.Machine

open Reg

/-- A run of register writes leaves every key that none of them has. -/
theorem mget_foldl_put_ne (d : Nat) (l : List (Fld × Nat)) (m : List (Nat × Nat)) (k : Nat)
    (h : ∀ p ∈ l, k ≠ p.1.key) :
    mget d (l.foldl (fun m p => mset p.1.reset m p.1.key (p.2 % 2 ^ p.1.width)) m) k = mget d m k := by
  induction l generalizing m with
  | nil => rfl
  | cons p r ih =>
    obtain ⟨hp, hr⟩ := List.forall_mem_cons.mp h
    exact (ih _ hr).trans (mget_mset_ne' _ _ _ _ _ _ hp)

/-- The registers written at the release are those of `releaseFlds` but the last, in their order. -/
theorem State.fresh_get (f : Fuses) (fl : Flash) (cause free : Nat) (outs : List Out) {g : Fld}
    (h : ∀ x ∈ Sys2Proof.releaseFlds, g.key ≠ x.key) : (State.fresh f fl cause free outs).get g = g.reset := by
  refine (mget_foldl_put_ne _ _ _ _ fun p hp => h _ ?_).trans rfl
  exact List.mem_append_left [PWR_STAT_VIO33] (List.mem_map_of_mem (f := Prod.fst) hp)

theorem State.fresh_fault (f : Fuses) (fl : Flash) (cause free : Nat) (outs : List Out) :
    (State.fresh f fl cause free outs).get GLB_STAT_FAULT = 1 := by
  simp only [State.fresh, State.get, resetRegs, List.foldl_cons, List.foldl_nil]
  iterate 8 rw [mget_mset_ne' _ _ _ _ _ _ (by decide)]
  rw [mget_mset, if_pos rfl]
  rfl

theorem State.fresh_cause (f : Fuses) (fl : Flash) (cause free : Nat) (outs : List Out) :
    (State.fresh f fl cause free outs).get GLB_RSTCAUSE_CAUSE = cause % 16 := by
  simp only [State.fresh, State.get, resetRegs, List.foldl_cons, List.foldl_nil]
  iterate 7 rw [mget_mset_ne' _ _ _ _ _ _ (by decide)]
  rw [mget_mset, if_pos rfl]
  rfl

/-- Beside PWR_STAT.VIO33 a release shows the registers of the fresh state. -/
theorem State.release_get (s : State) {g : Fld} (h : g.key ≠ PWR_STAT_VIO33.key) :
    s.release.get g = (State.fresh s.fuses s.flash.afterReset s.power.latch s.free s.outs).get g :=
  State.get_set_ne _ _ _ _ h

theorem State.release_released (s : State) : resetReleased s s.release := by
  have hreset : ∀ g : Fld, (∀ x ∈ Sys2Proof.releaseFlds, g.key ≠ x.key) → s.release.get g = g.reset := fun g hg =>
    (s.release_get (hg _ (by simp [Sys2Proof.releaseFlds]))).trans (State.fresh_get _ _ _ _ _ hg)
  have hvio : s.release.get PWR_STAT_VIO33 = if s.power.vio33 then 1 else 0 := by
    rw [State.release]
    simp only [State.setB_eq, State.get_set]
    cases s.power.vio33 <;> rfl
  exact ⟨rfl, rfl, rfl, rfl, rfl, hvio, hreset GLB_STAT_STATE (by decide),
    (s.release_get (by decide)).trans (State.fresh_fault ..), (s.release_get (by decide)).trans (State.fresh_cause ..),
    hreset, rfl, rfl, rfl, rfl, rfl, rfl, rfl, rfl⟩

/-! ### The rail sequence -/

theorem State.railUp_counts (s : State) {g : Nat} (h : s.power.phase = .sequencing g) (hg : g + 1 < 9) :
    s.railUp = { s with power := { s.power with phase := .sequencing (g + 1) } } := by
  simp only [State.railUp, h]
  exact if_neg (by simp only [railCount]; omega)

theorem State.railUp_last (s : State) (h : s.power.phase = .sequencing 8) : s.railUp = s.release := by
  simp only [State.railUp, h]
  exact if_pos (by decide)

end Sys2Proof.Machine

namespace Sys2Proof

open Sys2Proof.Machine Sys2Proof.Machine.Reg

/-- Settles O8, command by command: the fresh state keeps what waits to be commanded (log entry 18), and its memories hold
nothing written (log entry 32). -/
theorem powerAndRailCommandsSequenceThePart : Obligations.PowerAndRailCommandsSequenceThePart := by
  unfold Obligations.PowerAndRailCommandsSequenceThePart
  refine ⟨fun s v h => ?_, fun s g h hg => ?_, fun s h => ?_, fun s h => ?_, fun s h => ?_⟩
  · exact ⟨s.powerUp v, rfl, if_pos h⟩
  · exact ⟨s.railUp, rfl, s.railUp_counts h hg⟩
  · exact ⟨s.railUp, rfl, s.railUp_last h ▸ s.release_released⟩
  · exact ⟨s.release, congrArg Host.Outcome.next (if_pos h), s.release_released⟩
  · have hoff : s.powered = false := by rw [State.powered, h]; rfl
    exact ⟨_, congrArg Host.Outcome.next (if_neg (by rw [hoff]; decide)), rfl⟩

end Sys2Proof
end

section
/-! SUPPORT. The housekeeping sequencer: its next entry, and what a result leaves in its channel's register (R295, R296; log
entry 8). -/

namespace Sys2Proof.Machine

open Reg

/-! ### Entries -/

theorem State.hkaSeq_congr {s t : State} (h : ∀ f : Fld, 32 * 0x1900 ≤ f.key → f.key < 32 * 0x1A00 → t.get f = s.get f)
    (p : Nat) : t.hkaSeq p = s.hkaSeq p := by
  unfold State.hkaSeq
  rw [h (HKA_SEQ_CH p), h (HKA_SEQ_REP p), h (HKA_SEQ_DELAY p), h (HKA_SEQ_AVG p), h (HKA_SEQ_GAIN p)] <;>
    simp only [Fld.key, HKA_SEQ_CH, HKA_SEQ_REP, HKA_SEQ_DELAY, HKA_SEQ_AVG, HKA_SEQ_GAIN] <;> omega

/-- The sequence has 64 entries. -/
theorem State.hkaSeq_mod (s : State) (p : Nat) : s.hkaSeq (p % 2 ^ 6) = s.hkaSeq p := by
  simp only [State.hkaSeq, HKA_SEQ_CH, HKA_SEQ_REP, HKA_SEQ_DELAY, HKA_SEQ_AVG, HKA_SEQ_GAIN, Nat.reducePow,
    Nat.mod_mod]

/-- The last entry of the round that runs (R295). -/
def State.hkaLast (s : State) : Nat := s.house.last.getD (s.get HKA_CTRL_LAST)

/-- The place that the sequencer goes on to (R295). -/
def State.hkaPlace (s : State) : Nat := if s.hkaLast ≤ s.get HKA_STAT_POS then 0 else s.get HKA_STAT_POS + 1

theorem State.hkaNext_again (s : State) {e : HkaEntry} (h : s.house.reps < e.rep) :
    s.hkaNext e = { s with house := { s.house with entry := some e, reps := s.house.reps + 1 } } := if_pos h

theorem State.hkaNext_on (s : State) {e : HkaEntry} (h : e.rep ≤ s.house.reps) :
    s.hkaNext e = { s.set HKA_STAT_POS s.hkaPlace with
      house := { s.house with
        entry := some (s.hkaSeq s.hkaPlace), reps := 0, prev := some (e.ch, e.gain),
        last := some (if s.hkaLast ≤ s.get HKA_STAT_POS then s.get HKA_CTRL_LAST else s.hkaLast) } } := by
  have hseq : ∀ p, (s.set HKA_STAT_POS p).hkaSeq p = s.hkaSeq p := fun p =>
    State.hkaSeq_congr (fun f hlo _ => State.get_set_ne _ _ _ _ fun hk => by
      simp only [Fld.key, HKA_STAT_POS] at hk hlo
      omega) p
  have hlast : ∀ p, (s.set HKA_STAT_POS p).get HKA_CTRL_LAST = s.get HKA_CTRL_LAST := fun p =>
    State.get_set_ne _ _ _ _ (by decide)
  rw [State.hkaNext, if_neg (by omega)]
  by_cases hw : s.hkaLast ≤ s.get HKA_STAT_POS
  · have hw' : s.house.last.getD (s.get HKA_CTRL_LAST) ≤ s.get HKA_STAT_POS := hw
    simp only [hseq, hlast, State.hkaPlace, if_pos hw, decide_eq_true hw', if_true, State.setHouse, State.set_house]
  · have hw' : ¬ s.house.last.getD (s.get HKA_CTRL_LAST) ≤ s.get HKA_STAT_POS := hw
    simp only [hseq, hlast, State.hkaPlace, if_neg hw, decide_eq_false hw', Bool.false_eq_true, if_false, State.setHouse,
      State.set_house]
    rfl

theorem State.hkaNext_regsBut (s : State) (e : HkaEntry) : regsBut [HKA_STAT_POS] s (s.hkaNext e) := by
  unfold State.hkaNext
  split
  · exact regsBut.refl _ s
  · exact ((regsBut.refl _ s).set (by simp)).of_regs_eq rfl

theorem State.hkaNext_frame (s : State) (e : HkaEntry) :
    s.hkaNext e = { s with regs := (s.hkaNext e).regs, house := (s.hkaNext e).house } := by
  unfold State.hkaNext
  split <;> rfl

/-! ### Values -/

theorem clampN_le (hi : Nat) (x : Int) : clampN hi x ≤ hi := by
  unfold clampN clampI
  split_ifs <;> omega

theorem State.hkaValue_mod (s : State) (codes : List Int) : s.hkaValue codes % 2 ^ 16 = s.hkaValue codes :=
  Nat.mod_eq_of_lt (Nat.lt_succ_of_le (clampN_le _ _))

/-- The fields of a channel's result. -/
def hkaResFlds (c : Nat) : List Fld := [HKA_RES_COUNT c, HKA_RES_LASTINV c, HKA_RES_VALUE c, HKA_RES_VALID c]

theorem hkaResFlds_above (c : Nat) : ∀ f ∈ hkaResFlds c, 32 * 0x1A00 ≤ f.key := by
  simp only [hkaResFlds, List.forall_mem_cons, Fld.key, HKA_RES_COUNT, HKA_RES_LASTINV, HKA_RES_VALUE, HKA_RES_VALID]
  refine ⟨?_, ?_, ?_, ?_, List.forall_mem_nil _⟩ <;> omega

/-! ### A result in its channel's register -/

/-- The channel's result is counted, and shown invalid or not. -/
def State.hkaCounted (s : State) (inv : Bool) : State :=
  (s.incr (HKA_RES_COUNT s.hkaEntry.ch)).setB (HKA_RES_LASTINV s.hkaEntry.ch) inv

/-- A valid result stands in its channel's register. -/
def State.hkaShown (s : State) (codes : List Int) : State :=
  ((s.hkaCounted false).set (HKA_RES_VALUE s.hkaEntry.ch) (s.hkaValue codes)).set (HKA_RES_VALID s.hkaEntry.ch) 1

/-- What a result does before the sequencer goes on (R295, R296). -/
def State.hkaTaken (s : State) (codes : List Int) : State :=
  if s.hkaInvalid s.hkaEntry then (s.hkaCounted true).set HKA_STAT_INVSEEN 1
  else (s.hkaShown codes).hkaUse s.hkaEntry (s.hkaValue codes)

theorem State.hkaCounted_regsBut (s : State) (inv : Bool) :
    regsBut [HKA_RES_COUNT s.hkaEntry.ch, HKA_RES_LASTINV s.hkaEntry.ch] s (s.hkaCounted inv) :=
  regsBut_set_pair _ _ _ _ _

theorem State.hkaShown_regsBut (s : State) (codes : List Int) :
    regsBut (hkaResFlds s.hkaEntry.ch) s (s.hkaShown codes) :=
  (((s.hkaCounted_regsBut false).mono (by simp [hkaResFlds])).set (by simp [hkaResFlds])).set (by simp [hkaResFlds])

theorem State.hkaCounted_shown (s : State) (inv : Bool) :
    (s.hkaCounted inv).get (HKA_RES_COUNT s.hkaEntry.ch) = (s.get (HKA_RES_COUNT s.hkaEntry.ch) + 1) % 2 ^ 12 ∧
    (s.hkaCounted inv).get (HKA_RES_LASTINV s.hkaEntry.ch) = b2n inv := by
  unfold State.hkaCounted
  rw [State.setB_eq, State.get_set, State.incr_eq]
  refine ⟨?_, by cases inv <;> rfl⟩
  rw [State.get_set_ne, State.get_set]
  · rfl
  · exact key_ne_of_lo rfl rfl

theorem State.hkaShown_shown (s : State) (codes : List Int) :
    (s.hkaShown codes).get (HKA_RES_COUNT s.hkaEntry.ch) = (s.get (HKA_RES_COUNT s.hkaEntry.ch) + 1) % 2 ^ 12 ∧
    (s.hkaShown codes).get (HKA_RES_LASTINV s.hkaEntry.ch) = 0 ∧
    (s.hkaShown codes).get (HKA_RES_VALID s.hkaEntry.ch) = 1 ∧
    (s.hkaShown codes).get (HKA_RES_VALUE s.hkaEntry.ch) = s.hkaValue codes := by
  obtain ⟨hcount, hinv⟩ := s.hkaCounted_shown false
  unfold State.hkaShown
  refine ⟨?_, ?_, State.get_set _ _ _, ?_⟩
  · rw [State.get_set_ne, State.get_set_ne, hcount] <;> exact key_ne_of_lo rfl rfl
  · rw [State.get_set_ne, State.get_set_ne, hinv]
    · rfl
    all_goals exact key_ne_of_lo rfl rfl
  · rw [State.get_set_ne, State.get_set]
    · exact s.hkaValue_mod codes
    · exact key_ne_of_lo rfl rfl

/-- The value is that of the factors in force, which the result's own register does not touch. -/
theorem State.hkaCounted_value (s : State) (inv : Bool) (codes : List Int) :
    (s.hkaCounted inv).hkaValue codes = s.hkaValue codes := by
  have hbelow : ∀ f : Fld, f.key < 32 * 0x1A00 → (s.hkaCounted inv).get f = s.get f := fun f hf =>
    ((s.hkaCounted_regsBut inv).mono (m := hkaResFlds s.hkaEntry.ch) (by simp [hkaResFlds])).below (hkaResFlds_above _) hf
  unfold State.hkaValue State.getS
  rw [hbelow HKA_CALGAIN_GAIN (by decide), hbelow HKA_CALOFS_OFS (by decide)]

/-! ### The command -/

theorem State.hkaResult_idle (s : State) (codes : List Int) (h : s.get HKA_CTRL_EN ≠ 1 ∨ s.get HKA_STAT_SCALBUSY = 1) :
    s.hkaResult codes = s := by
  refine if_pos ?_
  rcases h with h | h <;> simp [State.flag, h]

theorem State.hkaResult_running (s : State) (codes : List Int) (hen : s.get HKA_CTRL_EN = 1)
    (hbusy : s.get HKA_STAT_SCALBUSY ≠ 1) : s.hkaResult codes = (s.hkaTaken codes).hkaNext s.hkaEntry := by
  refine (if_neg (by simp [State.flag, hen, hbusy])).trans ?_
  simp only [State.hkaTaken, State.hkaShown, ← State.hkaCounted_value s (s.hkaInvalid s.hkaEntry) codes]
  split
  case isTrue h => simp only [h, State.hkaCounted]
  case isFalse h => simp only [Bool.not_eq_true] at h; simp only [h, State.hkaCounted]

end Sys2Proof.Machine
end

section
/-! SUPPORT. What a valid result gives beside its channel's register (R294, R298; log entry 88). -/

namespace Sys2Proof.Machine

open Reg

/-! ### The RTD -/

/-- What the RTD shows of a reading. -/
def rtdFlds : List Fld := [HKA_RTDTEMP_TEMP, HKA_RTDTEMP_RANGE, HKA_RTDTEMP_VALID]

/-- A reading shown in HKA_RTDTEMP (R298). -/
def State.rtdShown (s : State) (t : Nat) : State :=
  ((s.set HKA_RTDTEMP_TEMP t).setB HKA_RTDTEMP_RANGE (decide (t < 50000 ∨ 350000 < t))).setB HKA_RTDTEMP_VALID
    (!decide (t < 50000 ∨ 350000 < t))

theorem State.rtdShown_regsBut (s : State) (t : Nat) : regsBut rtdFlds s (s.rtdShown t) := by
  unfold State.rtdShown rtdFlds
  exact (((regsBut.refl _ s).set (by simp)).set (by simp)).set (by simp)

theorem State.rtdShown_shown (s : State) {t : Nat} (ht : t < 2 ^ 20) :
    (s.rtdShown t).get HKA_RTDTEMP_TEMP = t ∧
    (s.rtdShown t).get HKA_RTDTEMP_RANGE = b2n (decide (t < 50000 ∨ 350000 < t)) ∧
    (s.rtdShown t).get HKA_RTDTEMP_VALID = b2n (!decide (t < 50000 ∨ 350000 < t)) := by
  have hbit : ∀ b : Bool, b2n b % 2 ^ 1 = b2n b := by decide
  unfold State.rtdShown
  simp (disch := decide) only [State.setB_eq, State.get_set, State.get_set_ne]
  exact ⟨Nat.mod_eq_of_lt ht, hbit _, hbit _⟩

/-- Past the showing, a reading serves the backdrop loop and the gain refresh. -/
theorem State.rtdResult_outside (s : State) (t : Nat) :
    regsOutside [Blk.EVT] [MEM_TESTABORTS_COUNT, LOOP_STAT_BKOVER, LOOP_BKU_U] (s.rtdShown t) (s.rtdResult t) := by
  have hserved : Keeps (0x20000 ||| 0x4000 |||
      0x10010000000000000000000000000000000000000000000000000000000000000000000000000000000000000000000001000002000200C8)
      (s.rtdShown t) ((((s.rtdShown t).bkReading t).grefRtd t).bkLimit t) :=
    (State.bkLimit_keeps _ t).comp (by decide)
      ((State.grefRtd_keeps _ t).comp (by decide) ((State.bkReading_keeps _ t).comp (by decide) (Keeps.refl _ _)))
  unfold State.rtdResult
  extract_lets range s₁
  split
  · exact fun _ _ _ => rfl
  · exact hserved.leaves (by decide +kernel)

/-- The search adds each power of 2 at most once. -/
theorem foldl_pow_lt (f : Nat → Nat → Nat) (hf : ∀ c i, f c i ≤ c + 2 ^ i) (n c : Nat) :
    (List.range n).reverse.foldl f c < c + 2 ^ n := by
  induction n generalizing c with
  | zero => exact Nat.lt_succ_self c
  | succ n ih =>
    rw [List.range_succ, List.reverse_append, List.reverse_singleton, List.singleton_append, List.foldl_cons]
    have hstep := hf c n
    have hrest := ih (f c n)
    omega

theorem rtdCode_lt (r r0 : Nat) : rtdCode r r0 < 2 ^ 20 := by
  refine Nat.zero_add (2 ^ 20) ▸ foldl_pow_lt _ (fun c i => ?_) 20 0
  dsimp only
  split
  · exact Nat.le_refl _
  · exact Nat.le_add_right _ _

/-! ### Every channel -/

/-- What results write beside HKA_RES, with the engineering value of AINi. -/
def hkaUseFlds (i : Nat) : List Fld :=
  [PWR_VIN_VIN, PWR_VIN_VVAL, PWR_DIPMIN_V, MEM_TESTABORTS_COUNT, LOOP_STAT_BKOVER, LOOP_BKU_U, HKA_AINENG_VALUE i] ++
    rtdFlds

theorem State.hkaUse_mid (s : State) (e : HkaEntry) (v : Nat) (hlo : 2 ≤ e.ch) (hhi : e.ch ≤ 22) : s.hkaUse e v = s := by
  unfold State.hkaUse
  rw [if_neg (by omega), if_neg (by omega), if_neg (by omega), if_neg (by omega)]

/-- The temperature of the RTD whose voltage a result gives (R298; log entry 88). -/
def State.hkaTemp (s : State) (e : HkaEntry) (v : Nat) : Nat :=
  rtdCode (Config.hkaReading [23, v, e.gain, s.get HKA_RTD_TYPE, s.get HKA_RTD_FOURW])
    (if s.get HKA_RTD_TYPE = 1 then 1000 else 100)

theorem State.hkaTemp_lt (s : State) (e : HkaEntry) (v : Nat) : s.hkaTemp e v < 2 ^ 20 := rtdCode_lt _ _

theorem State.hkaUse_rtd (s : State) (e : HkaEntry) (v : Nat) (hch : e.ch = 23) (hen : s.get HKA_RTD_EN = 1) :
    s.hkaUse e v = s.rtdResult (s.hkaTemp e v) := by
  unfold State.hkaUse
  rw [if_neg (by omega), if_neg (by omega), if_pos hch, if_pos ((s.flag_iff _).mpr hen)]
  simp only [State.flag_iff]
  rfl

theorem State.hkaUse_outside (s : State) (e : HkaEntry) (v : Nat) :
    regsOutside [Blk.EVT] (hkaUseFlds (e.ch - 24)) s (s.hkaUse e v) := by
  intro f hf hl
  simp only [hkaUseFlds, List.forall_mem_append, List.forall_mem_cons] at hl
  obtain ⟨⟨hvin, hvval, hdip, hmem, hover, hu, hain, -⟩, hrtd⟩ := hl
  have hrtdGet : ∀ t, (s.rtdResult t).get f = s.get f := fun t =>
    (s.rtdResult_outside t f hf (by simp [hmem, hover, hu])).trans (s.rtdShown_regsBut t f hrtd)
  have hainGet : ∀ i, i = e.ch - 24 → (s.ainShow i v).get f = s.get f := by
    rintro i rfl
    unfold State.ainShow
    extract_lets x p
    split <;> exact State.get_set_ne _ _ _ _ hain
  unfold State.hkaUse
  extract_lets mv s₀
  have hs₀ : s₀.get f = s.get f := State.get_set_ne _ _ _ _ hvin
  by_cases h0 : e.ch = 0
  · rw [if_pos h0]
    split
    · exact (State.get_set_ne _ _ _ _ hdip).trans hs₀
    · exact hs₀
  · rw [if_neg h0]
    split
    · exact State.get_set_ne _ _ _ _ hvval
    · split
      · split
        · exact hrtdGet _
        · rfl
      · split
        · exact hainGet _ rfl
        · rfl

/-- Settings and results of the sequencer stand between the supply's registers and the engineering values. -/
theorem State.hkaUse_get (s : State) (e : HkaEntry) (v : Nat) {f : Fld} (hlo : 32 * 0x1800 ≤ f.key)
    (hhi : f.key < 32 * 0x1B00) (hr : f.key / 32 ≠ 0x1814) : (s.hkaUse e v).get f = s.get f := by
  have hblk : f.block = Blk.HKA := blockOf_eq _ _ 0x1800 0x2000 (by omega) (by omega) (by decide) rfl
  refine s.hkaUse_outside e v f (by rw [hblk]; decide) ?_
  simp only [hkaUseFlds, rtdFlds, List.forall_mem_append, List.forall_mem_cons, Fld.key, PWR_VIN_VIN, PWR_VIN_VVAL,
    PWR_DIPMIN_V, MEM_TESTABORTS_COUNT, LOOP_STAT_BKOVER, LOOP_BKU_U, HKA_AINENG_VALUE, HKA_RTDTEMP_TEMP,
    HKA_RTDTEMP_RANGE, HKA_RTDTEMP_VALID] at hlo hhi hr ⊢
  refine ⟨⟨?_, ?_, ?_, ?_, ?_, ?_, ?_, List.forall_mem_nil _⟩, ?_, ?_, ?_, List.forall_mem_nil _⟩ <;> omega

end Sys2Proof.Machine
end

section
/-! SUPPORT. A conversion in the registers of its channel, and what the sequencer goes on to (R295, R296, R298). -/

namespace Sys2Proof.Machine

open Reg

/-! ### A result taken -/

theorem State.hkaTaken_invalid (s : State) (codes : List Int) (h : s.hkaInvalid s.hkaEntry = true) :
    s.hkaTaken codes = (s.hkaCounted true).set HKA_STAT_INVSEEN 1 := if_pos h

theorem State.hkaTaken_valid (s : State) (codes : List Int) (h : s.hkaInvalid s.hkaEntry = false) :
    s.hkaTaken codes = (s.hkaShown codes).hkaUse s.hkaEntry (s.hkaValue codes) := if_neg (by rw [h]; decide)

theorem State.hkaTaken_house (s : State) (codes : List Int) : (s.hkaTaken codes).house = s.house := by
  unfold State.hkaTaken
  split
  · rfl
  · exact (State.hkaUse_keeps ..).same.house rfl

/-- A result leaves the sequencer's settings and place. -/
theorem State.hkaTaken_get (s : State) (codes : List Int) {f : Fld} (hlo : 32 * 0x1800 ≤ f.key)
    (hhi : f.key < 32 * 0x1A00) (hseen : f.key ≠ HKA_STAT_INVSEEN.key) (hr : f.key / 32 ≠ 0x1814) :
    (s.hkaTaken codes).get f = s.get f := by
  have hcounted : regsBut (hkaResFlds s.hkaEntry.ch) s (s.hkaCounted true) :=
    (s.hkaCounted_regsBut true).mono (by simp [hkaResFlds])
  unfold State.hkaTaken
  split
  · exact (State.get_set_ne _ _ _ _ hseen).trans (hcounted.below (hkaResFlds_above _) hhi)
  · exact (State.hkaUse_get _ _ _ hlo (by omega) hr).trans
      ((s.hkaShown_regsBut codes).below (hkaResFlds_above _) hhi)

theorem State.hkaTaken_seq (s : State) (codes : List Int) (p : Nat) : (s.hkaTaken codes).hkaSeq p = s.hkaSeq p :=
  State.hkaSeq_congr (fun f hlo hhi => s.hkaTaken_get codes (by omega) hhi
    (by simp only [Fld.key, HKA_STAT_INVSEEN] at hlo ⊢; omega) (by omega)) p

theorem State.hkaTaken_pos (s : State) (codes : List Int) : (s.hkaTaken codes).get HKA_STAT_POS = s.get HKA_STAT_POS :=
  s.hkaTaken_get codes (by decide) (by decide) (by decide) (by decide)

theorem State.hkaTaken_last (s : State) (codes : List Int) : (s.hkaTaken codes).hkaLast = s.hkaLast := by
  rw [State.hkaLast, State.hkaLast, s.hkaTaken_house, s.hkaTaken_get codes (f := HKA_CTRL_LAST) (by decide) (by decide)
    (by decide) (by decide)]

/-! ### The sequencer after a result -/

/-- The fields of results lie above the sequencer's place. -/
theorem State.hkaNext_get (s : State) (e : HkaEntry) {f : Fld} (h : f.key ≠ HKA_STAT_POS.key) :
    (s.hkaNext e).get f = s.get f :=
  s.hkaNext_regsBut e f (List.forall_mem_singleton.mpr h)

theorem hkaRes_ne_pos {c : Nat} {f : Fld} (h : f ∈ hkaResFlds c) : f.key ≠ HKA_STAT_POS.key := by
  have habove := hkaResFlds_above c f h
  simp only [Fld.key, HKA_STAT_POS] at habove ⊢
  omega

/-- Where a result wrote registers alone, the command wrote these and the sequencer's state. -/
theorem State.hkaNext_frame_of {s u : State} (e : HkaEntry) (h : u = { s with regs := u.regs }) :
    u.hkaNext e = { s with regs := (u.hkaNext e).regs, house := (u.hkaNext e).house } :=
  (u.hkaNext_frame e).trans
    (congrArg (fun x : State => { x with regs := (u.hkaNext e).regs, house := (u.hkaNext e).house }) h)

/-- The entry's last repetition takes the sequencer to its next place (R295). -/
theorem State.hkaResult_goesOn (s : State) (codes : List Int) (hen : s.get HKA_CTRL_EN = 1)
    (hbusy : s.get HKA_STAT_SCALBUSY ≠ 1) (hrep : s.hkaEntry.rep ≤ s.house.reps) :
    (s.hkaResult codes).get HKA_STAT_POS = s.hkaPlace % 2 ^ 6 ∧
    (s.hkaResult codes).house = { s.house with
        entry := some (s.hkaSeq s.hkaPlace), reps := 0, prev := some (s.hkaEntry.ch, s.hkaEntry.gain),
        last := some (if s.hkaLast ≤ s.get HKA_STAT_POS then s.get HKA_CTRL_LAST else s.hkaLast) } := by
  have hctrl : (s.hkaTaken codes).get HKA_CTRL_LAST = s.get HKA_CTRL_LAST :=
    s.hkaTaken_get codes (by decide) (by decide) (by decide) (by decide)
  have hplace : (s.hkaTaken codes).hkaPlace = s.hkaPlace := by
    rw [State.hkaPlace, State.hkaPlace, s.hkaTaken_last, s.hkaTaken_pos]
  rw [s.hkaResult_running codes hen hbusy, State.hkaNext_on _ ((s.hkaTaken_house codes).symm ▸ hrep), hplace,
    s.hkaTaken_house, s.hkaTaken_last, s.hkaTaken_pos, s.hkaTaken_seq, hctrl]
  exact ⟨State.get_set _ _ _, rfl⟩

theorem State.hkaResult_repeats (s : State) (codes : List Int) (hen : s.get HKA_CTRL_EN = 1)
    (hbusy : s.get HKA_STAT_SCALBUSY ≠ 1) (hrep : s.house.reps < s.hkaEntry.rep) :
    (s.hkaResult codes).get HKA_STAT_POS = s.get HKA_STAT_POS ∧
    (s.hkaResult codes).house = { s.house with entry := some s.hkaEntry, reps := s.house.reps + 1 } := by
  rw [s.hkaResult_running codes hen hbusy, State.hkaNext_again _ ((s.hkaTaken_house codes).symm ▸ hrep),
    s.hkaTaken_house]
  exact ⟨s.hkaTaken_pos codes, rfl⟩

/-! ### The result's own register -/

/-- An invalid result is counted and seen, and leaves the channel's value (R296). -/
theorem State.hkaResult_invalid (s : State) (codes : List Int) (hen : s.get HKA_CTRL_EN = 1)
    (hbusy : s.get HKA_STAT_SCALBUSY ≠ 1) (hinv : s.hkaInvalid s.hkaEntry = true) :
    (s.hkaResult codes).get (HKA_RES_COUNT s.hkaEntry.ch) = (s.get (HKA_RES_COUNT s.hkaEntry.ch) + 1) % 2 ^ 12 ∧
    (s.hkaResult codes).get (HKA_RES_LASTINV s.hkaEntry.ch) = 1 ∧
    (s.hkaResult codes).get HKA_STAT_INVSEEN = 1 ∧
    s.hkaResult codes = { s with regs := (s.hkaResult codes).regs, house := (s.hkaResult codes).house } ∧
    regsBut [HKA_RES_COUNT s.hkaEntry.ch, HKA_RES_LASTINV s.hkaEntry.ch, HKA_STAT_INVSEEN, HKA_STAT_POS] s
      (s.hkaResult codes) := by
  obtain ⟨hcount, hlast⟩ := s.hkaCounted_shown true
  have hseen : ∀ f ∈ hkaResFlds s.hkaEntry.ch, f.key ≠ HKA_STAT_INVSEEN.key := fun f hf => by
    have habove := hkaResFlds_above _ f hf
    simp only [Fld.key, HKA_STAT_INVSEEN] at habove ⊢
    omega
  have hshown : ∀ f ∈ hkaResFlds s.hkaEntry.ch, (s.hkaResult codes).get f = (s.hkaCounted true).get f := fun f hf => by
    rw [s.hkaResult_running codes hen hbusy, s.hkaTaken_invalid codes hinv, State.hkaNext_get _ _ (hkaRes_ne_pos hf),
      State.get_set_ne _ _ _ _ (hseen f hf)]
  refine ⟨(hshown _ (by simp [hkaResFlds])).trans hcount, (hshown _ (by simp [hkaResFlds])).trans hlast, ?_, ?_, ?_⟩ <;>
    rw [s.hkaResult_running codes hen hbusy, s.hkaTaken_invalid codes hinv]
  · exact (State.hkaNext_get _ _ (by decide)).trans (State.get_set _ _ _)
  · exact State.hkaNext_frame_of _ rfl
  · exact (((s.hkaCounted_regsBut true).mono (by simp)).set (by simp)).trans
      ((State.hkaNext_regsBut _ _).mono (by simp))

/-- A valid result stands in its channel's register, whatever else it gives (R295). -/
theorem State.hkaResult_value (s : State) (codes : List Int) (hen : s.get HKA_CTRL_EN = 1)
    (hbusy : s.get HKA_STAT_SCALBUSY ≠ 1) (hinv : s.hkaInvalid s.hkaEntry = false) :
    ∀ f ∈ hkaResFlds s.hkaEntry.ch, (s.hkaResult codes).get f = (s.hkaShown codes).get f := fun f hf => by
  have hrange : 32 * 0x1A00 ≤ f.key ∧ f.key < 32 * 0x1B00 := by
    refine ⟨hkaResFlds_above _ f hf, ?_⟩
    revert f
    simp only [hkaResFlds, List.forall_mem_cons, Fld.key, HKA_RES_COUNT, HKA_RES_LASTINV, HKA_RES_VALUE, HKA_RES_VALID]
    refine ⟨?_, ?_, ?_, ?_, List.forall_mem_nil _⟩ <;> omega
  rw [s.hkaResult_running codes hen hbusy, s.hkaTaken_valid codes hinv, State.hkaNext_get _ _ (hkaRes_ne_pos hf),
    State.hkaUse_get _ _ _ (by omega) hrange.2 (by omega)]

/-- A valid result of a channel with nothing beside it writes its channel's register alone. -/
theorem State.hkaResult_alone (s : State) (codes : List Int) (hen : s.get HKA_CTRL_EN = 1)
    (hbusy : s.get HKA_STAT_SCALBUSY ≠ 1) (hinv : s.hkaInvalid s.hkaEntry = false) (hlo : 2 ≤ s.hkaEntry.ch)
    (hhi : s.hkaEntry.ch ≤ 22) :
    s.hkaResult codes = { s with regs := (s.hkaResult codes).regs, house := (s.hkaResult codes).house } ∧
    regsBut (hkaResFlds s.hkaEntry.ch ++ [HKA_STAT_POS]) s (s.hkaResult codes) := by
  rw [s.hkaResult_running codes hen hbusy, s.hkaTaken_valid codes hinv, State.hkaUse_mid _ _ _ hlo hhi]
  exact ⟨State.hkaNext_frame_of _ rfl,
    ((s.hkaShown_regsBut codes).mono (fun _ => List.mem_append_left _)).trans
      ((State.hkaNext_regsBut _ _).mono (by simp))⟩

/-- The factors and RTD settings are those of the command's start, past the result's own register. -/
theorem State.hkaShown_below (s : State) (codes : List Int) {f : Fld} (h : f.key < 32 * 0x1A00) :
    (s.hkaShown codes).get f = s.get f := (s.hkaShown_regsBut codes).below (hkaResFlds_above _) h

/-- A valid result of channel 23 shows the temperature (R298; log entry 88). -/
theorem State.hkaResult_rtd (s : State) (codes : List Int) (hen : s.get HKA_CTRL_EN = 1)
    (hbusy : s.get HKA_STAT_SCALBUSY ≠ 1) (hinv : s.hkaInvalid s.hkaEntry = false) (hch : s.hkaEntry.ch = 23)
    (hrtd : s.get HKA_RTD_EN = 1) :
    ∀ f ∈ rtdFlds, (s.hkaResult codes).get f =
      ((s.hkaShown codes).rtdShown (s.hkaTemp s.hkaEntry (s.hkaValue codes))).get f := fun f hf => by
  have htemp : (s.hkaShown codes).hkaTemp s.hkaEntry (s.hkaValue codes) = s.hkaTemp s.hkaEntry (s.hkaValue codes) := by
    unfold State.hkaTemp
    rw [s.hkaShown_below codes (f := HKA_RTD_TYPE) (by decide), s.hkaShown_below codes (f := HKA_RTD_FOURW) (by decide)]
  have hpos : ∀ f ∈ rtdFlds, f.key ≠ HKA_STAT_POS.key := by decide
  have hserved : ∀ f ∈ rtdFlds, f.block ∉ [Blk.EVT] ∧
      ∀ g ∈ [MEM_TESTABORTS_COUNT, LOOP_STAT_BKOVER, LOOP_BKU_U], f.key ≠ g.key := by decide +kernel
  rw [s.hkaResult_running codes hen hbusy, s.hkaTaken_valid codes hinv, State.hkaNext_get _ _ (hpos f hf),
    State.hkaUse_rtd _ _ _ hch ((s.hkaShown_below codes (by decide)).trans hrtd), htemp,
    State.rtdResult_outside _ _ f (hserved f hf).1 (hserved f hf).2]

theorem State.hkaResult_temp (s : State) (codes : List Int) (hen : s.get HKA_CTRL_EN = 1)
    (hbusy : s.get HKA_STAT_SCALBUSY ≠ 1) (hinv : s.hkaInvalid s.hkaEntry = false) (hch : s.hkaEntry.ch = 23)
    (hrtd : s.get HKA_RTD_EN = 1) :
    (s.hkaResult codes).get HKA_RTDTEMP_TEMP = s.hkaTemp s.hkaEntry (s.hkaValue codes) ∧
    (s.hkaResult codes).get HKA_RTDTEMP_VALID + (s.hkaResult codes).get HKA_RTDTEMP_RANGE = 1 ∧
    ((s.hkaResult codes).get HKA_RTDTEMP_RANGE = 1 ↔ s.hkaTemp s.hkaEntry (s.hkaValue codes) < 50000 ∨
      350000 < s.hkaTemp s.hkaEntry (s.hkaValue codes)) := by
  have hone : ∀ b : Bool, b2n (!b) + b2n b = 1 ∧ (b2n b = 1 ↔ b = true) := by decide
  have hshow := s.hkaResult_rtd codes hen hbusy hinv hch hrtd
  obtain ⟨htemp, hrange, hvalid⟩ := (s.hkaShown codes).rtdShown_shown (s.hkaTemp_lt s.hkaEntry (s.hkaValue codes))
  rw [hshow _ (by simp [rtdFlds]), hshow _ (by simp [rtdFlds]), hshow _ (by simp [rtdFlds]), htemp, hrange, hvalid]
  exact ⟨rfl, (hone _).1, (hone _).2.trans decide_eq_true_iff⟩

end Sys2Proof.Machine
end

section
/-! SUPPORT. What a completion leaves of the long operations (R370, R371). -/

namespace Sys2Proof.Machine

open Reg

/-! ### Replies leave the list of operations -/

theorem State.mbxDown_ops (s : State) (c w0 : Nat) (p : List Nat) : (s.mbxDown c w0 p).baind.ops = s.baind.ops := by
  unfold State.mbxDown
  extract_lets m k at' msg s₀ b₀ s₁ s₂
  have h₁ : s₁.baind.ops = s.baind.ops := by
    unfold s₁
    split <;> rfl
  have h₂ : s₂.baind.ops = s.baind.ops := (congrArg Baind.ops ((State.setMbx_keeps ..).same.baind rfl)).trans h₁
  split <;> exact h₂

theorem State.mbxPump_ops (s : State) (c n : Nat) : (s.mbxPump c n).baind.ops = s.baind.ops := by
  induction n generalizing s with
  | zero => rfl
  | succ n ih =>
    unfold State.mbxPump
    split
    · split
      · exact (ih _).trans (State.mbxDown_ops ..)
      · rfl
    · rfl

theorem State.sendReply_ops (s : State) (src : Source) (tag : Nat) (compl : Bool) (p : List Nat) :
    (s.sendReply src tag compl p).baind.ops = s.baind.ops := by
  cases src with
  | udp _ _ => rfl
  | ssp => exact congrArg Baind.ops ((State.sspReply_keeps ..).same.baind rfl)
  | mbx c => exact State.mbxPump_ops _ c 8
  | chain i => rfl

/-! ### Completion -/

/-- A running request that a completion ends (R370). -/
def LongOp.ends (opcode : Nat) (o : LongOp) : Bool := o.opcode == opcode && o.status == 1 && !o.wait

/-- The status that a completed operation gives (R370). -/
def doneCode (status : Nat) : Nat := if status = 0 then 0 else if status = 2 then 0x41 else 0x40

theorem State.opFinish_ops (s : State) (opcode status : Nat) (det : List Nat) :
    (s.opFinish opcode status det).baind.ops =
      s.baind.ops.map fun o => if o.ends opcode then { o with status := doneCode status } else o := by
  unfold State.opFinish
  extract_lets code ends mine ops s₁
  refine List.foldlRecOn mine _ (motive := fun t : State => t.baind.ops = ops) rfl fun t ht o _ => ?_
  dsimp only
  rw [State.raise_baind, State.sendReply_ops, ht]

/-- Past a completion only requests that wait for a later run are running (R370, R371). -/
theorem State.opFinish_runs (s : State) (opcode status : Nat) (det : List Nat) :
    (s.opFinish opcode status det).opRuns opcode =
      s.baind.ops.any fun o => o.opcode == opcode && o.status == 1 && o.wait := by
  have hdone : doneCode status ≠ 1 := by
    unfold doneCode
    split_ifs <;> decide
  rw [State.opRuns, State.opFinish_ops, List.any_map]
  refine congrArg (fun p => List.any s.baind.ops p) (funext fun o => ?_)
  dsimp only [Function.comp]
  by_cases h : o.ends opcode = true
  · rw [if_pos h]
    simp only [LongOp.ends, Bool.and_eq_true, Bool.not_eq_true'] at h
    simp [h, hdone]
  · rw [if_neg h]
    simp only [LongOp.ends, Bool.not_eq_true] at h
    revert h
    cases o.opcode == opcode <;> cases o.status == 1 <;> cases o.wait <;> simp

/-! ### The end of self-calibration -/

/-- The factors and flags that the end of self-calibration writes (R297). -/
def State.scalFactors (s : State) (g o : Nat) : State :=
  (((s.set HKA_CALGAIN_GAIN g).set HKA_CALOFS_OFS o).set HKA_STAT_SCALBUSY 0).set HKA_STAT_SCALDONE 1

theorem State.scalFactors_shown (s : State) (g o : Nat) :
    (s.scalFactors g o).get HKA_CALGAIN_GAIN = g % 2 ^ 16 ∧ (s.scalFactors g o).get HKA_CALOFS_OFS = o % 2 ^ 12 ∧
    (s.scalFactors g o).get HKA_STAT_SCALBUSY = 0 ∧ (s.scalFactors g o).get HKA_STAT_SCALDONE = 1 := by
  unfold State.scalFactors
  simp (disch := decide) only [State.get_set, State.get_set_ne]
  exact ⟨rfl, rfl, rfl, rfl⟩

/-- The factors leave the sequencer's entry, which resumes from its start (R296, R297). -/
theorem State.scalFactors_fresh (s : State) (g o : Nat) : (s.scalFactors g o).hkaFresh.house =
    { s.house with entry := some s.hkaEntry, reps := 0, prev := none,
                   last := some (s.house.last.getD (s.get HKA_CTRL_LAST)) } := by
  have hkept : regsBut [HKA_CALGAIN_GAIN, HKA_CALOFS_OFS, HKA_STAT_SCALBUSY, HKA_STAT_SCALDONE] s
      (s.scalFactors g o) := by
    unfold State.scalFactors
    exact ((((regsBut.refl _ s).set (by simp)).set (by simp)).set (by simp)).set (by simp)
  have hpos : (s.scalFactors g o).get HKA_STAT_POS = s.get HKA_STAT_POS := hkept _ (by decide)
  have hlast : (s.scalFactors g o).get HKA_CTRL_LAST = s.get HKA_CTRL_LAST := hkept _ (by decide)
  have hseq : ∀ p, (s.scalFactors g o).hkaSeq p = s.hkaSeq p := State.hkaSeq_congr fun f hlo _ => hkept f (by
    simp only [List.forall_mem_cons, Fld.key, HKA_CALGAIN_GAIN, HKA_CALOFS_OFS, HKA_STAT_SCALBUSY,
      HKA_STAT_SCALDONE] at hlo ⊢
    refine ⟨?_, ?_, ?_, ?_, List.forall_mem_nil _⟩ <;> omega)
  have hhouse : (s.scalFactors g o).house = s.house := rfl
  simp only [State.hkaFresh, State.setHouse, State.hkaEntry, hhouse, hpos, hlast, hseq]

/-- A start of self-calibration shows it busy, also where it runs already (R297). -/
theorem State.hkaScal_shown (s : State) : s.hkaScal.get HKA_STAT_SCALBUSY = 1 ∧
    s.hkaScal = { s with regs := s.hkaScal.regs } ∧ regsBut [HKA_STAT_SCALBUSY] s s.hkaScal := by
  unfold State.hkaScal
  split
  case isTrue h => exact ⟨(s.flag_iff _).mp h, rfl, regsBut.refl _ s⟩
  case isFalse h => exact ⟨State.get_set _ _ 1, rfl, (regsBut.refl _ s).set (.head _)⟩

theorem State.hkaScalEnd_busy (s : State) (g o : Nat) (h : s.get HKA_STAT_SCALBUSY = 1) :
    s.hkaScalEnd g o = (s.scalFactors g o).hkaFresh.opFinish 0x0305 0 [] := if_pos ((s.flag_iff _).mpr h)

/-- What the end of self-calibration wrote stands past the replies of its completion. -/
theorem State.hkaScalEnd_get (s : State) (g o : Nat) (h : s.get HKA_STAT_SCALBUSY = 1) :
    ∀ f ∈ [HKA_CALGAIN_GAIN, HKA_CALOFS_OFS, HKA_STAT_SCALBUSY, HKA_STAT_SCALDONE],
      (s.hkaScalEnd g o).get f = (s.scalFactors g o).get f := by
  rw [s.hkaScalEnd_busy g o h]
  have hkept : ∀ f ∈ [HKA_CALGAIN_GAIN, HKA_CALOFS_OFS, HKA_STAT_SCALBUSY, HKA_STAT_SCALDONE],
      Nat.testBit 0x8000000700000000000000000000000000000000000000000000000000000000000000000000000001400002C30002C8
        (32 + f.cls) = false := by decide +kernel
  exact fun f hf => (State.opFinish_keeps ..).fields f (hkept f hf)

end Sys2Proof.Machine
end

namespace Sys2Proof

open Sys2Proof.Machine Sys2Proof.Machine.Reg

/-- Settles O41. A conversion is counted in its channel's register, gives what the channel stands for, and moves the
sequencer (log entries 7, 8, 88); an engineering value outside its format touches nothing that is stated (log entry 2). The
frames of the general clauses are those of the command. -/
theorem housekeepingResultsEnterTheirRegisters : Obligations.HousekeepingResultsEnterTheirRegisters := by
  unfold Obligations.HousekeepingResultsEnterTheirRegisters
  refine ⟨?_, ?_, ?_, ?_, ?_, ?_, ?_, ?_, ?_, ?_⟩
  · intro s l hen hbusy hinv
    obtain ⟨hcount, hlast, hseen, hframe, hregs⟩ := s.hkaResult_invalid l hen hbusy hinv
    refine ⟨_, rfl, hcount, hlast, hseen, hregs _ ?_, hframe, hregs⟩
    simp only [List.forall_mem_cons]
    exact ⟨key_ne_of_lo rfl rfl, key_ne_of_lo rfl rfl, by simp only [Fld.key, HKA_RES_VALUE, HKA_STAT_INVSEEN]; omega,
      hkaRes_ne_pos (c := s.hkaEntry.ch) (by simp [hkaResFlds]), List.forall_mem_nil _⟩
  · intro s l hen hbusy hinv hlo hhi
    obtain ⟨hcount, hlast, hvalid, hvalue⟩ := s.hkaShown_shown l
    obtain ⟨hframe, hregs⟩ := s.hkaResult_alone l hen hbusy hinv hlo hhi
    have hres := s.hkaResult_value l hen hbusy hinv
    exact ⟨_, rfl, (hres _ (by simp [hkaResFlds])).trans hcount, (hres _ (by simp [hkaResFlds])).trans hlast,
      (hres _ (by simp [hkaResFlds])).trans hvalid, (hres _ (by simp [hkaResFlds])).trans hvalue, hframe, hregs⟩
  · intro s l h
    exact ⟨_, rfl, s.hkaResult_idle l h⟩
  · intro s l hen hbusy hrep
    obtain ⟨hpos, hhouse⟩ := s.hkaResult_goesOn l hen hbusy hrep
    obtain ⟨hframe, hregs⟩ := everyCommandKeepsWhatIsOutsideItsFrame (.hkaConversion l) s _ rfl
    refine ⟨_, rfl, hpos.trans ?_, congrArg House.reps hhouse, congrArg House.prev hhouse, ?_,
      congrArg House.last hhouse, hframe, hregs⟩
    · rw [State.hkaPlace, State.hkaLast]
      split <;> rfl
    · rw [hhouse, hpos, s.hkaSeq_mod]
  · intro s l hen hbusy hrep
    obtain ⟨hpos, hhouse⟩ := s.hkaResult_repeats l hen hbusy hrep
    obtain ⟨hframe, hregs⟩ := everyCommandKeepsWhatIsOutsideItsFrame (.hkaConversion l) s _ rfl
    exact ⟨_, rfl, hpos, congrArg House.reps hhouse, congrArg House.entry hhouse, hframe, hregs⟩
  · intro s l hen hbusy hinv hch hrtd
    obtain ⟨hframe, hregs⟩ := everyCommandKeepsWhatIsOutsideItsFrame (.hkaConversion l) s _ rfl
    obtain ⟨-, -, -, hshown⟩ := s.hkaShown_shown l
    have hvalue := hch ▸ (s.hkaResult_value l hen hbusy hinv _ (by simp [hkaResFlds])).trans hshown
    obtain ⟨htemp, hone, hrange⟩ := s.hkaResult_temp l hen hbusy hinv hch hrtd
    exact ⟨_, rfl, hvalue, htemp.trans (Nat.mod_eq_of_lt (s.hkaTemp_lt _ _)).symm, hone, htemp.symm ▸ hrange,
      hframe, hregs⟩
  · exact fun s => ⟨_, rfl, State.get_set _ _ 0, rfl, (regsBut.refl _ s).set (.head _)⟩
  · intro s r hprot
    obtain ⟨hbusy, hframe, hregs⟩ := s.hkaScal_shown
    have hrun : s.guardW r 0x1800 (·.hkaScal) = s.hkaScal := s.guardW_of_unprotected r 0x1800 _ hprot
    exact ⟨_, congrArg ok hrun, hbusy, hframe, hregs⟩
  · intro s g o hbusy
    obtain ⟨hframe, hregs⟩ := everyCommandKeepsWhatIsOutsideItsFrame (.hkaScalDone g o) s _ rfl
    obtain ⟨hgain, hofs, hidle, hdone⟩ := s.scalFactors_shown g o
    have hget := s.hkaScalEnd_get g o hbusy
    refine ⟨_, rfl, (hget _ (by simp)).trans hgain, (hget _ (by simp)).trans hofs, (hget _ (by simp)).trans hidle,
      (hget _ (by simp)).trans hdone, ?_, ?_, hframe, hregs⟩
    · rw [s.hkaScalEnd_busy g o hbusy]
      exact ((State.opFinish_keeps ..).same.house rfl).trans (s.scalFactors_fresh g o)
    · rw [s.hkaScalEnd_busy g o hbusy]
      exact State.opFinish_runs _ _ _ _
  · intro s g o hbusy
    exact ⟨_, rfl, if_neg (by simpa [State.flag] using hbusy)⟩

end Sys2Proof

section
/-! SUPPORT. What a thermal shutdown does to events, registers and gates (R287). -/

namespace Sys2Proof.Machine

open Reg

/-! ### Status bits that stand -/

/-- Every status bit that is set stays set. -/
def statusStands (s t : State) : Prop := ∀ n, s.srcStatus n = true → t.srcStatus n = true

theorem statusStands.refl (s : State) : statusStands s s := fun _ h => h

theorem statusStands.trans {s t u : State} (h : statusStands s t) (k : statusStands t u) : statusStands s u :=
  fun n hn => k n (h n hn)

/-- What is raised stays raised. -/
theorem raisedIn.stands {n : Nat} {s t u : State} (h : raisedIn n s t) (k : statusStands t u) : raisedIn n s u :=
  fun he hn => k n (h he hn)

theorem Keeps.stands {m : Nat} {s t : State} (k : Keeps m s t) (hm : m.testBit (32 + 1) = false) : statusStands s t :=
  fun n h => (k.status hm n).trans h

/-- A field outside block EVT's status registers holds no status bit. -/
theorem State.set_stands (s : State) (f : Fld) (v : Nat) (hf : f.key < 32 * 0x500 ∨ 32 * 0x1000 ≤ f.key) :
    statusStands s (s.set f v) := fun n hn =>
  (State.srcStatus_of_stat (fun i => State.get_set_ne _ _ _ _ fun he => by
    simp only [Fld.key, EVT_STAT_STAT] at he hf
    omega) n).trans hn

theorem State.raise_stands (s : State) (n : Nat) : statusStands s (s.raise n) := fun m h => s.raise_status_mono n m h

theorem State.record_stands (s : State) (c x y z : Nat) : statusStands s (s.record c x y z) :=
  fun n h => s.record_status_mono c x y z n h

theorem State.opFinish_stands (s : State) (opcode status : Nat) (det : List Nat) :
    statusStands s (s.opFinish opcode status det) := fun _ h => s.opFinish_status opcode status det h

theorem statusStands.with_cal {s t : State} (h : statusStands s t) (c : Cal) : statusStands s { t with cal := c } := h

/-! ### An abort of the calibration -/

theorem State.abortNoted_stands (s : State) : statusStands s s.abortNoted := by
  have hshown : statusStands s s.abortShown :=
    ((s.set_stands _ _ (by decide)).trans ((State.calResult_keeps _ 8).stands rfl)).trans (State.raise_stands _ _)
  unfold State.abortNoted
  exact ((hshown.with_cal _).trans (State.set_stands _ CAL_STATUS_COMPUTE 0 (by decide))).trans
    (State.opFinish_stands _ _ _ _)

theorem State.calEnded_stands (s : State) : statusStands s s.calEnded := by
  unfold State.calEnded
  extract_lets code again done c t
  have ht : statusStands s t := (statusStands.refl s).with_cal _
  exact ht.trans (State.record_stands _ _ _ _ _)

theorem State.calRelease_stands (s : State) : statusStands s s.calRelease := s.calRelease_cools.status

theorem State.setPhase_stands (s : State) (p : Nat) : statusStands s (s.setPhase p) :=
  (s.setPhase_keeps p).stands rfl

theorem State.calAbort_stands (s : State) : statusStands s (s.calAbort 8) := by
  have hended : ∀ u : State, statusStands u (u.calEnded.setPhase 0) := fun u =>
    u.calEnded_stands.trans (State.setPhase_stands _ 0)
  unfold State.calAbort
  extract_lets p note s₁ c s₂
  have hnote : ∀ u : State, statusStands u (note u) := fun u => u.abortNoted_stands
  split
  · exact (((s.dropGrant_keeps).stands rfl).trans (hnote _)).trans (hended _)
  split
  · exact (s.calRelease_stands.trans (hnote _)).trans (State.setPhase_stands _ 5)
  split
  · split
    · exact hnote s
    · exact (hnote s).trans (hended _)
  split
  · exact ((s.blendAbort_keeps.stands rfl).trans (hnote _)).trans (State.setPhase_stands _ 9)
  split
  · split
    · refine .trans ?_ (State.raise_stands _ _)
      exact (s₂.set_stands CAL_ABORTS_COUNT _ (by decide)).trans (State.set_stands _ _ _ (by decide))
    · exact statusStands.refl s
  · exact statusStands.refl s

theorem State.calAbortW_stands (s : State) : statusStands s s.calAbortW := by
  unfold State.calAbortW
  split
  · exact ((s.grefEnd_keeps.stands rfl).trans (State.opFinish_stands _ _ _ _)).trans
      ((State.calNext_keeps _).stands rfl)
  · exact s.calAbort_stands

/-! ### Shutdown -/

/-- What the entry into STATE 5 makes of drive, preheat, calibration and pipeline (R287). -/
def State.closeDown (s : State) : State := (((s.driveDown.loopsDown false).calAbortW).pipelineDown).faultShow

theorem State.closeDown_keeps (s : State) : Keeps
    0x40000E00000008000000700000000000004C04FE00000000000000000000807880B00C0300000000000000000000029406002C3E276C8
    s s.closeDown :=
  (State.faultShow_keeps _).comp (by decide) ((State.pipelineDown_keeps _).comp (by decide)
    ((State.calAbortW_keeps _).comp (by decide) ((State.loopsDown_keeps _ false).comp (by decide)
      ((State.driveDown_keeps s).comp (by decide) (Keeps.refl _ _)))))

theorem State.closeDown_stands (s : State) : statusStands s s.closeDown :=
  (((((s.driveDown_keeps).stands rfl).trans ((State.loopsDown_keeps _ false).stands rfl)).trans
    (State.calAbortW_stands _)).trans ((State.pipelineDown_keeps _).stands rfl)).trans
    ((State.faultShow_keeps _).stands rfl)

/-- A shutdown shown, counted and logged, before the part follows it (R287). -/
def State.downShown (s : State) : State :=
  ((({ s with house := { s.house with shutdown := true } }.set THM_STAT_SDSEEN 1).bump THM_SDCNT_COUNT).ddrShow)

def State.downNoted (s : State) : State := s.downShown.record 0x808 0 (s.downShown.word 0x1404) 0

theorem State.thermalDown_eq (s : State) : s.thermalDown =
    if s.downNoted.mode = 1 ∨ s.downNoted.mode = 2 ∨ s.downNoted.mode = 3 then
      (s.downNoted.set GLB_STAT_STATE 5).closeDown
    else s.downNoted.faultShow := rfl

/-- A field that a shutdown may show, past its log entry. -/
theorem State.downNoted_get (s : State) {f : Fld} (hf : f.noEvt) (hd : f.key ≠ MEM_DDRSTAT_SELFREF.key) :
    s.downNoted.get f =
      ((s.set THM_STAT_SDSEEN 1).bump THM_SDCNT_COUNT).get f :=
  (State.record_get _ _ _ _ _ f hf).trans (State.get_set_ne _ _ _ _ hd)

theorem State.downNoted_house (s : State) : s.downNoted.house = { s.house with shutdown := true } :=
  State.record_house _ _ _ _ _

theorem State.downNoted_mode (s : State) : s.downNoted.mode = s.mode := by
  refine (s.downNoted_get (f := GLB_STAT_STATE) (by decide +kernel) (by decide)).trans ?_
  rw [State.bump_eq, State.get_set_ne _ _ _ _ (by decide), State.get_set_ne _ _ _ _ (by decide)]
  rfl

theorem State.downNoted_stands (s : State) : statusStands s s.downNoted := by
  have hseen : statusStands s ({ s with house := { s.house with shutdown := true } }.set THM_STAT_SDSEEN 1) :=
    State.set_stands s _ _ (by decide)
  exact ((hseen.trans (State.set_stands _ _ _ (by decide))).trans ((State.ddrShow_keeps _).stands rfl)).trans
    (State.record_stands _ _ _ _ _)

theorem State.thermalDown_stands (s : State) : statusStands s s.thermalDown := by
  rw [s.thermalDown_eq]
  split
  · exact (s.downNoted_stands.trans (State.set_stands _ _ _ (by decide))).trans (State.closeDown_stands _)
  · exact s.downNoted_stands.trans ((State.faultShow_keeps _).stands rfl)

/-- The fields that a shutdown from warm-up, ready or sorting shows, past all that follows it. -/
theorem State.thermalDown_get (s : State) {f : Fld} (hf : f.noEvt) (hd : f.key ≠ MEM_DDRSTAT_SELFREF.key)
    (hm : f.key ≠ GLB_STAT_STATE.key) (hfault : f.key ≠ GLB_STAT_FAULT.key) (hc : Nat.testBit
      0x40000E00000008000000700000000000004C04FE00000000000000000000807880B00C0300000000000000000000029406002C3E276C8
      (32 + f.cls) = false) : s.thermalDown.get f = ((s.set THM_STAT_SDSEEN 1).bump THM_SDCNT_COUNT).get f := by
  rw [s.thermalDown_eq, ← s.downNoted_get hf hd]
  split
  · exact ((State.closeDown_keeps _).fields f hc).trans (State.get_set_ne _ _ _ _ hm)
  · exact State.get_set_ne _ _ _ _ hfault

theorem State.thermalDown_house (s : State) : s.thermalDown.house = { s.house with shutdown := true } := by
  rw [s.thermalDown_eq, ← s.downNoted_house]
  split
  · exact (State.closeDown_keeps _).same.house rfl
  · rfl

theorem State.thermalDown_mode (s : State) (h : s.mode = 1 ∨ s.mode = 2 ∨ s.mode = 3) : s.thermalDown.mode = 5 := by
  rw [s.thermalDown_eq, s.downNoted_mode, if_pos h]
  exact ((State.closeDown_keeps _).fields GLB_STAT_STATE (by decide +kernel)).trans (State.get_set _ _ 5)

/-- In shutdown no gate is on (R439, R442). -/
theorem valvesClosed_of_mode {s : State} (h : s.mode = 5) : valvesClosed s := by
  have hpad : s.padState = .unpowered ∨ s.padState = .reset ∨ s.padState = .shutdown := by
    unfold State.padState
    cases s.power.phase <;> simp [h]
  intro c _
  unfold State.padGate
  split
  · exact .inl rfl
  · obtain hp | hp | hp := hpad <;> rw [hp]
    · exact .inl rfl
    · exact .inl rfl
    · exact .inr rfl

end Sys2Proof.Machine
end

section
/-! SUPPORT. THM_STAT, the throttle steps and the clocks, and the levels that they show (R284, R285, R291). -/

namespace Sys2Proof.Machine

open Reg

/-! ### The levels in force -/

theorem validFld_cls (d i : Nat) : (validFld d i).cls = 3 := by
  unfold validFld
  split
  · exact THM_TL_VALID_cls i
  · exact THM_TP_VALID_cls i

/-- Two states in which every die stands in the same levels: same levels entered, same valid sensors. -/
structure SameLevels (s t : State) : Prop where
  entered : t.house.entered = s.house.entered
  sampled : t.house.sampled = s.house.sampled
  valid : ∀ d i, t.get (validFld d i) = s.get (validFld d i)

theorem Keeps.sameLevels {m : Nat} {s t : State} (k : Keeps m s t) (hm : m.testBit 35 = false)
    (he : t.house.entered = s.house.entered) (hs : t.house.sampled = s.house.sampled) : SameLevels s t :=
  ⟨he, hs, fun d i => k.fields _ (by rwa [validFld_cls])⟩

theorem SameLevels.dieValid {s t : State} (h : SameLevels s t) (d : Nat) : t.dieValid d = s.dieValid d := by
  simp only [State.dieValid, State.flag, h.valid]

theorem SameLevels.hasLevel {s t : State} (h : SameLevels s t) (d l : Nat) : t.hasLevel d l = s.hasLevel d l := by
  rw [State.hasLevel, h.entered, State.hasLevel]

theorem SameLevels.inThrottle {s t : State} (h : SameLevels s t) (d : Nat) : t.inThrottle d = s.inThrottle d := by
  simp only [State.inThrottle, State.forced, h.hasLevel, h.sampled, h.dieValid]

theorem SameLevels.inShutdown {s t : State} (h : SameLevels s t) (d : Nat) : t.inShutdown d = s.inShutdown d := by
  simp only [State.inShutdown, State.blindDie, h.hasLevel, h.sampled, h.dieValid]

theorem SameLevels.dieState {s t : State} (h : SameLevels s t) (d : Nat) : t.dieState d = s.dieState d := by
  simp only [State.dieState, h.inShutdown, h.inThrottle, h.hasLevel]

theorem State.dieState_lt (s : State) (d : Nat) : s.dieState d < 2 ^ 2 := by
  unfold State.dieState
  split_ifs <;> decide

/-! ### The clocks -/

theorem State.clockShow_house (s : State) : s.clockShow.house = s.house := s.clockShow_keeps.same.house rfl

theorem State.thermStep_congr {s t : State} (h : t.house.steps = s.house.steps) : t.thermStep = s.thermStep := by
  simp only [State.thermStep, State.dieStep, h]

/-- The fields that clocks show of the throttle step (R280, R285). -/
def State.stepShown (s : State) : State :=
  let skip := if s.thermStep = 2 then max 128 s.house.tapSkip else s.house.tapSkip
  let t := (s.set THM_STAT_STEP s.thermStep).set PWR_CLKDIV_THMDIV s.thermStep
  ((t.set PWR_CLKDIV_DIV (max s.thermStep (t.get PWR_CLKDIV_BUDDIV))).set PWR_CLKDIV_TAPSKIP skip).setB
    PWR_CLKDIV_MGTSKIP (s.thermStep == 2)

theorem State.clockShow_eq (s : State) : s.clockShow = s.stepShown.heaterLimit.tapHaltShow := rfl

theorem State.clockShow_step (s : State) : s.clockShow.get THM_STAT_STEP = s.clockShow.thermStep % 4 := by
  rw [State.thermStep_congr (congrArg House.steps s.clockShow_house), s.clockShow_eq,
    (State.tapHaltShow_keeps _).fields THM_STAT_STEP (by decide +kernel),
    (State.heaterLimit_keeps _).fields THM_STAT_STEP (by decide +kernel), State.stepShown]
  simp (disch := decide) only [State.setB_eq, State.get_set_ne]
  exact State.get_set _ _ _

theorem State.clockShow_stands (s : State) : statusStands s s.clockShow := by
  have hshown : statusStands s s.stepShown := by
    unfold State.stepShown
    extract_lets skip t
    have ht : statusStands s t := (s.set_stands _ _ (by decide)).trans (State.set_stands _ _ _ (by decide))
    exact ((ht.trans (State.set_stands _ _ _ (by decide))).trans (State.set_stands _ _ _ (by decide))).trans
      (State.set_stands _ _ _ (by decide))
  have hhalt : ∀ u : State, statusStands u u.tapHaltShow := fun u => by
    unfold State.tapHaltShow
    extract_lets h was v
    have hv : statusStands u v := State.set_stands _ _ _ (by decide)
    split
    · exact hv.trans (State.raise_stands _ _)
    · exact hv
  rw [s.clockShow_eq]
  exact (hshown.trans ((State.heaterLimit_keeps _).stands rfl)).trans (hhalt _)

/-! ### The throttle steps -/

/-- Two records that differ in the throttle steps alone. -/
def House.sameButSteps (g h : House) : Prop := h = { g with steps := h.steps, since := h.since }

theorem House.sameButSteps.trans {g h k : House} (hg : g.sameButSteps h) (hk : h.sameButSteps k) : g.sameButSteps k :=
  Eq.trans hk (congrArg (fun x : House => { x with steps := k.steps, since := k.since }) hg)

theorem House.sameButSteps.entered {g h : House} (k : g.sameButSteps h) : h.entered = g.entered := by rw [k]

theorem House.sameButSteps.sampled {g h : House} (k : g.sameButSteps h) : h.sampled = g.sampled := by rw [k]

theorem State.stepFollow_get (s : State) (d : Nat) (f : Fld) : (s.stepFollow d).get f = s.get f := by
  unfold State.stepFollow
  split
  · split <;> rfl
  · rfl

/-- A die's step follows its throttle in its own record alone (R285). -/
theorem State.stepFollow_house (s : State) (d : Nat) : s.house.sameButSteps (s.stepFollow d).house := by
  unfold State.stepFollow
  split
  · split <;> rfl
  · rfl

theorem State.stepFollow_sameLevels (s : State) (d : Nat) : SameLevels s (s.stepFollow d) :=
  ⟨(s.stepFollow_house d).entered, (s.stepFollow_house d).sampled, fun _ _ => s.stepFollow_get d _⟩

/-- What a die's step is, once it follows its throttle. -/
def State.stepFits (s : State) (d : Nat) : Prop :=
  (s.inThrottle d = true → s.dieStep d ≠ 0) ∧ (s.inThrottle d = false → s.dieStep d = 0)

theorem State.stepFits_of {s t : State} {d : Nat} (h : SameLevels s t) (hd : t.dieStep d = s.dieStep d)
    (k : s.stepFits d) : t.stepFits d := by
  unfold State.stepFits
  rw [h.inThrottle, hd]
  exact k

theorem State.stepFollow_fits (s : State) (d : Nat) : (s.stepFollow d).stepFits d := by
  unfold State.stepFits
  rw [(s.stepFollow_sameLevels d).inThrottle]
  unfold State.stepFollow
  split
  case isTrue ht =>
    refine ⟨fun _ => ?_, fun hf => absurd ht (by rw [hf]; decide)⟩
    split
    · rw [State.dieStep, State.setHouse, mget_mset, if_pos rfl]
      decide
    · assumption
  case isFalse hf =>
    refine ⟨fun ht => absurd ht hf, fun _ => ?_⟩
    rw [State.dieStep, State.setHouse, mget_mset, if_pos rfl]

theorem State.stepFollow_step_ne (s : State) {d e : Nat} (h : e ≠ d) : (s.stepFollow d).dieStep e = s.dieStep e := by
  have hset : ∀ k, mget 0 (mset 0 s.house.steps d k) e = mget 0 s.house.steps e := fun k =>
    mget_mset_ne' _ _ _ _ _ _ h
  unfold State.stepFollow
  split
  · split
    · exact hset 1
    · rfl
  · exact hset 0

/-! ### THM_STAT -/

/-- The levels in THM_STAT. -/
def State.statesShown (s : State) : State :=
  (((s.set THM_STAT_LSTATE (s.dieState 0)).set THM_STAT_PSTATE (s.dieState 1)).setB THM_STAT_LFORCED
    (s.forced 0)).setB THM_STAT_PFORCED (s.forced 1)

/-- The valid sensors in THM_STAT. -/
def State.validShown (s : State) : State :=
  (s.set THM_STAT_LVALID (s.dieValid 0).length).set THM_STAT_PVALID (s.dieValid 1).length

/-- Both dies' steps follow their throttles, past what is shown of the levels. -/
def State.stepsFollowed (s : State) : State := (s.statesShown.validShown.stepFollow 0).stepFollow 1

theorem State.thmShow_eq (s : State) : s.thmShow = s.stepsFollowed.clockShow := rfl

theorem State.stepsFollowed_house (s : State) : s.house.sameButSteps s.stepsFollowed.house :=
  (State.stepFollow_house s.statesShown.validShown 0).trans (State.stepFollow_house _ 1)

theorem State.stepsFollowed_get (s : State) (f : Fld) : s.stepsFollowed.get f = s.statesShown.validShown.get f :=
  (State.stepFollow_get _ 1 f).trans (State.stepFollow_get _ 0 f)

theorem State.stepsFollowed_state (s : State) : s.stepsFollowed.get THM_STAT_LSTATE = s.dieState 0 ∧
    s.stepsFollowed.get THM_STAT_PSTATE = s.dieState 1 := by
  rw [s.stepsFollowed_get, s.stepsFollowed_get]
  unfold State.validShown State.statesShown
  simp (disch := decide) only [State.setB_eq, State.get_set, State.get_set_ne]
  exact ⟨Nat.mod_eq_of_lt (s.dieState_lt 0), Nat.mod_eq_of_lt (s.dieState_lt 1)⟩

theorem State.thmShow_house (s : State) : s.house.sameButSteps s.thmShow.house := by
  rw [s.thmShow_eq, State.clockShow_house]
  exact s.stepsFollowed_house

theorem State.thmShow_sameLevels (s : State) : SameLevels s s.thmShow :=
  s.thmShow_keeps.sameLevels rfl s.thmShow_house.entered s.thmShow_house.sampled

theorem State.thmShow_state (s : State) : s.thmShow.get THM_STAT_LSTATE = s.thmShow.dieState 0 ∧
    s.thmShow.get THM_STAT_PSTATE = s.thmShow.dieState 1 := by
  obtain ⟨hl, hp⟩ := s.stepsFollowed_state
  rw [s.thmShow_sameLevels.dieState, s.thmShow_sameLevels.dieState, ← hl, ← hp]
  exact ⟨(State.clockShow_keeps _).fields _ (by decide +kernel), (State.clockShow_keeps _).fields _ (by decide +kernel)⟩

theorem State.thmShow_step (s : State) : s.thmShow.get THM_STAT_STEP = s.thmShow.thermStep % 4 :=
  State.clockShow_step _

/-- The step of either die fits its throttle. -/
theorem State.thmShow_fits (s : State) {d : Nat} (hd : d < 2) : s.thmShow.stepFits d := by
  have hsame : SameLevels s.stepsFollowed s.thmShow := (State.clockShow_keeps _).sameLevels rfl
    (congrArg House.entered (State.clockShow_house _)) (congrArg House.sampled (State.clockShow_house _))
  have hstep : ∀ e, s.thmShow.dieStep e = s.stepsFollowed.dieStep e := fun e =>
    congrArg (fun h : House => mget 0 h.steps e) (State.clockShow_house _)
  refine State.stepFits_of hsame (hstep d) ?_
  obtain rfl | rfl : d = 0 ∨ d = 1 := by omega
  · exact State.stepFits_of (State.stepFollow_sameLevels _ 1) (State.stepFollow_step_ne _ (by decide))
      (State.stepFollow_fits _ 0)
  · exact State.stepFollow_fits _ 1

theorem State.statesShown_stands (s : State) : statusStands s s.statesShown := by
  unfold State.statesShown
  exact (((s.set_stands _ _ (by decide)).trans (State.set_stands _ _ _ (by decide))).trans
    (State.set_stands _ _ _ (by decide))).trans (State.set_stands _ _ _ (by decide))

theorem State.validShown_stands (s : State) : statusStands s s.validShown := by
  unfold State.validShown
  exact (s.set_stands _ _ (by decide)).trans (State.set_stands _ _ _ (by decide))

theorem State.thmShow_stands (s : State) : statusStands s s.thmShow := by
  have hfollow : ∀ (u : State) (d : Nat), statusStands u (u.stepFollow d) := fun u d =>
    (u.stepFollow_keeps d).stands rfl
  exact ((s.statesShown_stands.trans (State.validShown_stands _)).trans ((hfollow _ 0).trans (hfollow _ 1))).trans
    (State.clockShow_stands _)

end Sys2Proof.Machine
end

section
/-! SUPPORT. A die enters a level or leaves it, and its throttle goes to step 2 (R284, R285, R287). -/

namespace Sys2Proof.Machine

open Reg

/-! ### Entering -/

/-- What entering level `l` brings about has begun already: throttle or shutdown was forced (R291). -/
def State.levelWas (s : State) (d l : Nat) : Bool :=
  if l = 1 then s.inThrottle d else if l = 2 then s.inShutdown d else false

/-- The level is entered, without its event. -/
def State.levelSet (s : State) (d l : Nat) : State :=
  s.setHouse { s.house with entered := s.house.entered ||| 2 ^ (3 * d + l) }

/-- The level is entered, with its event where it is new (R284). -/
def State.levelRaised (s : State) (d l : Nat) : State :=
  if s.levelWas d l then s.levelSet d l else (s.levelSet d l).raise (Src.thm (d == 1) l)

theorem State.levelEnter_eq (s : State) {d l : Nat} (h : s.hasLevel d l = false)
    (hup : 8 ≤ mget 0 s.house.ups (3 * d + l)) : s.levelEnter d l =
      if l = 2 ∧ s.levelWas d l = false then (s.levelRaised d l).thmShow.thermalDown else (s.levelRaised d l).thmShow :=
  if_neg (by rw [h]; simp only [Bool.false_eq_true, false_or]; omega)

theorem State.levelEnter_stays (s : State) {d l : Nat}
    (h : s.hasLevel d l = true ∨ mget 0 s.house.ups (3 * d + l) < 8) : s.levelEnter d l = s := if_pos h

theorem State.levelRaised_house (s : State) (d l : Nat) :
    (s.levelRaised d l).house = { s.house with entered := s.house.entered ||| 2 ^ (3 * d + l) } := by
  unfold State.levelRaised
  split
  · rfl
  · exact State.raise_house _ _

theorem State.levelRaised_get (s : State) (d l : Nat) {f : Fld} (hf : f.noEvt) : (s.levelRaised d l).get f = s.get f := by
  unfold State.levelRaised
  split
  · rfl
  · exact State.raise_get _ _ _ hf

theorem State.levelRaised_raised (s : State) {d l : Nat} (h : s.levelWas d l = false) :
    raisedIn (Src.thm (d == 1) l) s (s.levelRaised d l) := by
  rw [State.levelRaised, if_neg (by rw [h]; decide)]
  exact (State.raise_status _ _).of_enables rfl rfl

theorem State.levelRaised_hasLevel (s : State) (d l : Nat) : (s.levelRaised d l).hasLevel d l = true := by
  rw [State.hasLevel, s.levelRaised_house, bitOf_eq_testBit, Nat.testBit_or, Nat.testBit_two_pow_self, Bool.or_true]

/-- A level's event and what THM_STAT shows leave the fields of other parts. -/
theorem State.levelRaised_shown (s : State) (d l : Nat) {f : Fld} (hf : f.noEvt) (hc : Nat.testBit
      0x800000000000000000000000000000000000000000000000000000000000000003000000063FD000000001000002200000C8
      (32 + f.cls) = false) : (s.levelRaised d l).thmShow.get f = s.get f :=
  ((State.thmShow_keeps _).fields f hc).trans (s.levelRaised_get d l hf)

/-- Warning or throttle is entered: shown, told where it is new, and the part goes on (R284, R285). -/
theorem State.levelEnter_below (s : State) {d l : Nat} (hd : d < 2) (h : s.hasLevel d l = false)
    (hup : 8 ≤ mget 0 s.house.ups (3 * d + l)) (hl : l ≠ 2) :
    (s.levelEnter d l).house.entered = s.house.entered ||| 2 ^ (3 * d + l) ∧
    (s.levelWas d l = false → raisedIn (Src.thm (d == 1) l) s (s.levelEnter d l)) ∧
    (s.levelEnter d l).mode = s.mode ∧
    (s.levelEnter d l).get THM_STAT_LSTATE = (s.levelEnter d l).dieState 0 ∧
    (s.levelEnter d l).get THM_STAT_PSTATE = (s.levelEnter d l).dieState 1 ∧
    (l = 1 → (s.levelEnter d l).dieStep d ≠ 0) ∧
    (s.levelEnter d l).get THM_STAT_STEP = (s.levelEnter d l).thermStep % 4 := by
  have hhouse : (s.levelRaised d l).house.entered = s.house.entered ||| 2 ^ (3 * d + l) :=
    congrArg House.entered (s.levelRaised_house d l)
  obtain ⟨hlogic, hpower⟩ := (s.levelRaised d l).thmShow_state
  rw [s.levelEnter_eq h hup, if_neg fun hdown => hl hdown.1]
  refine ⟨(State.thmShow_house _).entered.trans hhouse,
    fun hwas => (s.levelRaised_raised hwas).stands (State.thmShow_stands _),
    s.levelRaised_shown d l (by decide +kernel) (by decide +kernel), hlogic, hpower, ?_, State.thmShow_step _⟩
  rintro rfl
  refine ((s.levelRaised d 1).thmShow_fits hd).1 ?_
  rw [(State.thmShow_sameLevels _).inThrottle, State.inThrottle, s.levelRaised_hasLevel, Bool.true_or]

/-- Shutdown is entered from a state with drive or warm-up (R287). -/
theorem State.levelEnter_shutdown (s : State) {d : Nat} (h : s.hasLevel d 2 = false)
    (hup : 8 ≤ mget 0 s.house.ups (3 * d + 2)) (hblind : s.blindDie d = false)
    (hmode : s.mode = 1 ∨ s.mode = 2 ∨ s.mode = 3) :
    (s.levelEnter d 2).mode = 5 ∧ (s.levelEnter d 2).house.shutdown = true ∧
    raisedIn (Src.thm (d == 1) 2) s (s.levelEnter d 2) ∧
    (s.levelEnter d 2).get THM_SDCNT_COUNT = satAdd 16 (s.get THM_SDCNT_COUNT) 1 % 2 ^ 16 ∧
    (s.levelEnter d 2).get THM_STAT_SDSEEN = 1 := by
  have hwas : s.levelWas d 2 = false := by
    rw [State.levelWas, if_neg (by decide), if_pos rfl, State.inShutdown, h, hblind]
    rfl
  have hkept : ∀ f : Fld, f.noEvt → Nat.testBit
      0x800000000000000000000000000000000000000000000000000000000000000003000000063FD000000001000002200000C8
      (32 + f.cls) = false → (s.levelRaised d 2).thmShow.get f = s.get f := fun f hf hc => s.levelRaised_shown d 2 hf hc
  rw [s.levelEnter_eq h hup, if_pos ⟨rfl, hwas⟩]
  refine ⟨State.thermalDown_mode _ ?_, congrArg House.shutdown (State.thermalDown_house _),
    ((s.levelRaised_raised hwas).stands (State.thmShow_stands _)).stands (State.thermalDown_stands _), ?_, ?_⟩
  · rwa [State.mode, hkept _ (by decide +kernel) (by decide +kernel)]
  · rw [State.thermalDown_get _ (by decide +kernel) (by decide) (by decide) (by decide) (by decide +kernel),
      State.bump_eq, State.get_set, State.get_set_ne _ _ _ _ (by decide), hkept _ (by decide +kernel) (by decide +kernel)]
    rfl
  · rw [State.thermalDown_get _ (by decide +kernel) (by decide) (by decide) (by decide) (by decide +kernel),
      State.bump_eq, State.get_set_ne _ _ _ _ (by decide)]
    exact State.get_set _ _ 1

/-! ### Leaving -/

theorem State.levelLeave_eq (s : State) {d l : Nat} (h : s.hasLevel d l = true)
    (hdown : 8 ≤ mget 0 s.house.downs (3 * d + l)) : s.levelLeave d l =
      (s.setHouse { s.house with entered := andNot s.house.entered (2 ^ (3 * d + l)) }).thmShow :=
  if_neg (by rw [h]; simp only [Bool.true_eq_false, false_or]; omega)

theorem State.levelLeave_stays (s : State) {d l : Nat}
    (h : s.hasLevel d l = false ∨ mget 0 s.house.downs (3 * d + l) < 8) : s.levelLeave d l = s := if_pos h

theorem State.levelLeave_hasLevel (s : State) {d l : Nat} (h : s.hasLevel d l = true)
    (hdown : 8 ≤ mget 0 s.house.downs (3 * d + l)) : (s.levelLeave d l).hasLevel d l = false := by
  rw [s.levelLeave_eq h hdown, (State.thmShow_sameLevels _).hasLevel, State.hasLevel, State.setHouse, bitOf_eq_testBit,
    testBit_andNot, Nat.testBit_two_pow_self]
  simp

/-- A level left is shown, and with throttle over the die's step is 0 (R284, R285). -/
theorem State.levelLeave_shown (s : State) {d l : Nat} (hd : d < 2) (h : s.hasLevel d l = true)
    (hdown : 8 ≤ mget 0 s.house.downs (3 * d + l)) :
    (s.levelLeave d l).get THM_STAT_LSTATE = (s.levelLeave d l).dieState 0 ∧
    (s.levelLeave d l).get THM_STAT_PSTATE = (s.levelLeave d l).dieState 1 ∧
    ((s.levelLeave d l).inThrottle d = false → (s.levelLeave d l).dieStep d = 0) := by
  rw [s.levelLeave_eq h hdown]
  obtain ⟨hlogic, hpower⟩ :=
    (s.setHouse { s.house with entered := andNot s.house.entered (2 ^ (3 * d + l)) }).thmShow_state
  exact ⟨hlogic, hpower, (State.thmShow_fits _ hd).2⟩

/-! ### Step 2 -/

theorem State.step2_stays (s : State) {d : Nat} (h : s.dieStep d ≠ 1) : s.step2 d = s := if_neg h

theorem State.step2_shown (s : State) {d : Nat} (h : s.dieStep d = 1) : (s.step2 d).dieStep d = 2 ∧
    (s.step2 d).get THM_STAT_STEP = (s.step2 d).thermStep % 4 ∧
    (s.step2 d).time = max s.time (floor2 (mget 0 s.house.since d + s.get THM_CTRL_TSTEP * 10000000)) := by
  rw [State.step2, if_pos h]
  refine ⟨?_, State.clockShow_step _, (State.clockShow_keeps _).same.time rfl⟩
  rw [State.dieStep, State.clockShow_house]
  exact (mget_mset 0 s.house.steps d d 2).trans (if_pos rfl)

end Sys2Proof.Machine
end

section
/-! SUPPORT. Sensors enter and leave the valid ones, with the levels that this forces (R284, R289, R291). -/

namespace Sys2Proof.Machine

open Reg

/-! ### What follows a change of the valid sensors -/

/-- Forced throttle and shutdown of a die that was in throttle as `t` says and in shutdown as `x` says (R291). -/
def State.thmTold (s : State) (d : Nat) (t x : Bool) : State :=
  let u := if s.inThrottle d && !t then s.raise (Src.thm (d == 1) 1) else s
  let v := if u.inShutdown d && !x then u.raise (Src.thm (d == 1) 2) else u
  if u.inShutdown d && !x then v.thmShow.thermalDown else v.thmShow

/-- Past a change stand the levels as the sensors give them, and every field of other parts. -/
structure ThmTold (s t : State) : Prop where
  keeps : Keeps
    0x40000E00080008000000700080000000004C04FE00000000000000000000807880B00C03003000002067FD000000029C06002E3E276C8 s t
  stands : statusStands s t
  sampled : t.house.sampled = s.house.sampled

theorem ThmTold.trans {s t u : State} (h : ThmTold s t) (k : ThmTold t u) : ThmTold s u :=
  ⟨k.keeps.comp (by decide) h.keeps, h.stands.trans k.stands, k.sampled.trans h.sampled⟩

theorem ThmTold.refl (s : State) : ThmTold s s := ⟨Keeps.refl _ s, .refl s, rfl⟩

theorem State.raise_thmTold (s : State) (n : Nat) : ThmTold s (s.raise n) :=
  ⟨(s.raise_keeps n).comp (by decide) (Keeps.refl _ s), s.raise_stands n, by rw [State.raise_house]⟩

theorem State.thmShow_thmTold (s : State) : ThmTold s s.thmShow :=
  ⟨s.thmShow_keeps.comp (by decide) (Keeps.refl _ s), s.thmShow_stands, s.thmShow_house.sampled⟩

theorem State.thermalDown_thmTold (s : State) : ThmTold s s.thermalDown :=
  ⟨s.thermalDown_keeps.comp (by decide) (Keeps.refl _ s), s.thermalDown_stands, by rw [s.thermalDown_house]⟩

theorem State.thmTold_thmTold (s : State) (d : Nat) (t x : Bool) : ThmTold s (s.thmTold d t x) := by
  unfold State.thmTold
  extract_lets u v
  have hu : ThmTold s u := by
    unfold u
    split
    · exact s.raise_thmTold _
    · exact .refl s
  have hv : ThmTold u v := by
    unfold v
    split
    · exact u.raise_thmTold _
    · exact .refl u
  have hshown : ThmTold s v.thmShow := (hu.trans hv).trans v.thmShow_thmTold
  split
  · exact hshown.trans (State.thermalDown_thmTold _)
  · exact hshown

/-! ### The fields of a sensor -/

theorem tempFld_cls (d i : Nat) : (tempFld d i).cls = 3 := by
  unfold tempFld
  split
  · exact THM_TL_TEMP_cls i
  · exact THM_TP_TEMP_cls i

theorem suspFld_cls (d i : Nat) : (suspFld d i).cls = 3 := by
  unfold suspFld
  split
  · exact THM_TL_SUSPECT_cls i
  · exact THM_TP_SUSPECT_cls i

theorem exclFld_cls (d i : Nat) : (exclFld d i).cls = 3 := by
  unfold exclFld
  split
  · exact THM_TL_EXCL_cls i
  · exact THM_TP_EXCL_cls i

/-- The register of a sensor. -/
def sensorReg (d i : Nat) : Nat := if d = 0 then 0x1420 + 0x4 * (i % 8) else 0x1440 + 0x4 * (i % 6)

theorem sensorReg_range (d i : Nat) : 0x1420 ≤ sensorReg d i ∧ sensorReg d i < 0x1458 := by
  unfold sensorReg
  split <;> omega

theorem tempFld_key (d i : Nat) : (tempFld d i).key = 32 * sensorReg d i := by
  unfold tempFld sensorReg
  split <;> rfl

theorem suspFld_key (d i : Nat) : (suspFld d i).key = 32 * sensorReg d i + 29 := by
  unfold suspFld sensorReg
  split <;> rfl

theorem exclFld_key (d i : Nat) : (exclFld d i).key = 32 * sensorReg d i + 30 := by
  unfold exclFld sensorReg
  split <;> rfl

theorem validFld_key (d i : Nat) : (validFld d i).key = 32 * sensorReg d i + 31 := by
  unfold validFld sensorReg
  split <;> rfl

theorem exclFld_width (d i : Nat) : (exclFld d i).width = 1 := by
  unfold exclFld
  split <;> rfl

theorem validFld_width (d i : Nat) : (validFld d i).width = 1 := by
  unfold validFld
  split <;> rfl

/-- The fields of sensors are not those of events. -/
theorem sensorKey_noEvt {d i k : Nat} {f : Fld} (h : f.key = 32 * sensorReg d i + k) (hk : k < 32) :
    f.noEvt ∧ f.key ≠ THM_STAT_EXCLSEEN.key := by
  have hr := sensorReg_range d i
  simp only [Fld.noEvt, h]
  refine ⟨⟨.inr (by omega), ?_⟩, ?_⟩ <;> simp only [Fld.key, MEM_TESTABORTS_COUNT, THM_STAT_EXCLSEEN] <;> omega

/-! ### Exclusion and readmission -/

theorem State.record_en (s : State) (c x y z : Nat) {g : Fld} (h : g.enables) : (s.record c x y z).get g = s.get g := by
  simp only [State.record]
  split
  · exact (State.occurCore_en _ _ _ _ h).trans (s.pushLog_en _ _ _ _ _ _ _ _ h)
  · exact s.pushLog_en _ _ _ _ _ _ _ _ h

theorem State.flag_eq_false (s : State) (f : Fld) : s.flag f = false ↔ s.get f ≠ 1 := by
  rw [← Bool.not_eq_true, s.flag_iff]

/-- A suspect sensor is out, with its count started again (R289). -/
def State.sensorOut (s : State) (d i : Nat) : State :=
  let t := ((s.set (exclFld d i) 1).set (validFld d i) 0).set (suspFld d i) 0
  (t.setHouse { t.house with suspect := mset 0 t.house.suspect (8 * d + i) 0 }).set THM_STAT_EXCLSEEN 1

/-- Its exclusion is logged and raised (R289). -/
def State.outTold (s : State) (d i : Nat) : State := ((s.sensorOut d i).record 0x803 d i 1).raise Src.thmSensor

theorem State.thmExclude_eq (s : State) {d i : Nat} (hi : i < dieCount d) (hv : s.get (validFld d i) = 1)
    (h : 16 ≤ mget 0 s.house.suspect (8 * d + i)) :
    s.thmExclude d i = (s.outTold d i).thmTold d (s.inThrottle d) (s.inShutdown d) :=
  if_neg (by
    rw [(s.flag_iff _).mpr hv]
    simp only [Bool.true_eq_false, false_or]
    omega)

theorem State.thmExclude_stays (s : State) {d i : Nat} (h : dieCount d ≤ i ∨ s.get (validFld d i) ≠ 1 ∨
    mget 0 s.house.suspect (8 * d + i) < 16) : s.thmExclude d i = s :=
  if_pos (by simpa only [s.flag_eq_false] using h)

theorem State.outTold_shown (s : State) (d i : Nat) : (s.outTold d i).get (exclFld d i) = 1 ∧
    (s.outTold d i).get (validFld d i) = 0 ∧ (s.outTold d i).get (suspFld d i) = 0 ∧
    (s.outTold d i).get THM_STAT_EXCLSEEN = 1 := by
  have htold : ∀ {f : Fld}, f.noEvt → (s.outTold d i).get f = (s.sensorOut d i).get f := fun hf =>
    (State.raise_get _ _ _ hf).trans (State.record_get _ _ _ _ _ _ hf)
  obtain ⟨he, hes⟩ := sensorKey_noEvt (exclFld_key d i) (by decide)
  obtain ⟨hv, hvs⟩ := sensorKey_noEvt (validFld_key d i) (by decide)
  obtain ⟨hs, hss⟩ := sensorKey_noEvt (suspFld_key d i) (by decide)
  have hev : (exclFld d i).key ≠ (validFld d i).key := by rw [exclFld_key, validFld_key]; omega
  have hesu : (exclFld d i).key ≠ (suspFld d i).key := by rw [exclFld_key, suspFld_key]; omega
  have hvsu : (validFld d i).key ≠ (suspFld d i).key := by rw [validFld_key, suspFld_key]; omega
  rw [htold he, htold hv, htold hs, htold (by decide +kernel)]
  unfold State.sensorOut
  refine ⟨?_, ?_, ?_, State.get_set _ _ 1⟩
  · rw [State.get_set_ne _ _ _ _ hes]
    refine (State.get_set_ne _ _ _ _ hesu).trans ((State.get_set_ne _ _ _ _ hev).trans ((State.get_set _ _ 1).trans ?_))
    rw [exclFld_width]
    rfl
  · rw [State.get_set_ne _ _ _ _ hvs]
    exact (State.get_set_ne _ _ _ _ hvsu).trans ((State.get_set _ _ 0).trans (Nat.zero_mod _))
  · rw [State.get_set_ne _ _ _ _ hss]
    exact (State.get_set _ _ 0).trans (Nat.zero_mod _)

theorem State.outTold_raised (s : State) (d i : Nat) : raisedIn Src.thmSensor s (s.outTold d i) := by
  have hout : regsBut [exclFld d i, validFld d i, suspFld d i, THM_STAT_EXCLSEEN] s (s.sensorOut d i) :=
    ((((regsBut.refl _ s).set (by simp)).set (by simp)).set (by simp) : regsBut _ s _).of_regs_eq rfl |>.set (by simp)
  have hen : (enFld (Src.thmSensor / 32)).enables := enFld_enables _
  refine (State.raise_status _ _).of_enables (State.record_fuses _ _ _ _ _) ?_
  rw [State.record_en _ _ _ _ _ hen]
  refine hout.below (a := 32 * 0x1000) ?_ (hen.2.trans (by decide))
  have hr := sensorReg_range d i
  simp only [List.forall_mem_cons, exclFld_key, validFld_key, suspFld_key]
  exact ⟨by omega, by omega, by omega, by decide, List.forall_mem_nil _⟩

/-- An exclusion is shown and raised, past the levels that it forces (R289, R291). -/
theorem State.thmExclude_shown (s : State) {d i : Nat} (hi : i < dieCount d) (hv : s.get (validFld d i) = 1)
    (h : 16 ≤ mget 0 s.house.suspect (8 * d + i)) :
    (s.thmExclude d i).get (exclFld d i) = 1 ∧ (s.thmExclude d i).get (validFld d i) = 0 ∧
    (s.thmExclude d i).get (suspFld d i) = 0 ∧ (s.thmExclude d i).get THM_STAT_EXCLSEEN = 1 ∧
    raisedIn Src.thmSensor s (s.thmExclude d i) := by
  obtain ⟨hexcl, hvalid, hsusp, hseen⟩ := s.outTold_shown d i
  have htold := (s.outTold d i).thmTold_thmTold d (s.inThrottle d) (s.inShutdown d)
  rw [s.thmExclude_eq hi hv h]
  exact ⟨(htold.keeps.fields _ (by rw [exclFld_cls]; rfl)).trans hexcl,
    (htold.keeps.fields _ (by rw [validFld_cls]; rfl)).trans hvalid,
    (htold.keeps.fields _ (by rw [suspFld_cls]; rfl)).trans hsusp,
    (htold.keeps.fields _ (by decide +kernel)).trans hseen, (s.outTold_raised d i).stands htold.stands⟩

/-- A sensor that agreed again is in, with its count started again (R289). -/
def State.sensorIn (s : State) (d i : Nat) : State :=
  let t := (s.set (exclFld d i) 0).set (validFld d i) 1
  (t.setHouse { t.house with agree := mset 0 t.house.agree (8 * d + i) 0 }).record 0x803 d i 0

theorem State.thmReadmit_eq (s : State) {d i : Nat} (hi : i < dieCount d) (he : s.get (exclFld d i) = 1)
    (h : 8000 ≤ mget 0 s.house.agree (8 * d + i)) :
    s.thmReadmit d i = (s.sensorIn d i).thmTold d (s.inThrottle d) (s.inShutdown d) :=
  if_neg (by
    rw [(s.flag_iff _).mpr he]
    simp only [Bool.true_eq_false, false_or]
    omega)

theorem State.thmReadmit_stays (s : State) {d i : Nat} (h : dieCount d ≤ i ∨ s.get (exclFld d i) ≠ 1 ∨
    mget 0 s.house.agree (8 * d + i) < 8000) : s.thmReadmit d i = s :=
  if_pos (by simpa only [s.flag_eq_false] using h)

theorem State.sensorIn_shown (s : State) (d i : Nat) : (s.sensorIn d i).get (exclFld d i) = 0 ∧
    (s.sensorIn d i).get (validFld d i) = 1 := by
  have hev : (exclFld d i).key ≠ (validFld d i).key := by rw [exclFld_key, validFld_key]; omega
  unfold State.sensorIn
  extract_lets t h
  rw [State.record_get _ _ _ _ _ _ (sensorKey_noEvt (exclFld_key d i) (by decide)).1,
    State.record_get _ _ _ _ _ _ (sensorKey_noEvt (validFld_key d i) (by decide)).1]
  refine ⟨(State.get_set_ne _ _ _ _ hev).trans ((State.get_set _ _ 0).trans (Nat.zero_mod _)),
    (State.get_set _ _ 1).trans ?_⟩
  rw [validFld_width]
  rfl

theorem State.thmReadmit_shown (s : State) {d i : Nat} (hi : i < dieCount d) (he : s.get (exclFld d i) = 1)
    (h : 8000 ≤ mget 0 s.house.agree (8 * d + i)) :
    (s.thmReadmit d i).get (exclFld d i) = 0 ∧ (s.thmReadmit d i).get (validFld d i) = 1 := by
  obtain ⟨hexcl, hvalid⟩ := s.sensorIn_shown d i
  have htold := (s.sensorIn d i).thmTold_thmTold d (s.inThrottle d) (s.inShutdown d)
  rw [s.thmReadmit_eq hi he h]
  exact ⟨(htold.keeps.fields _ (by rw [exclFld_cls]; rfl)).trans hexcl,
    (htold.keeps.fields _ (by rw [validFld_cls]; rfl)).trans hvalid⟩

end Sys2Proof.Machine
end

section
/-! SUPPORT. A sample in the thermal registers (R282, R289, R290). -/

namespace Sys2Proof.Machine

open Reg

/-! ### One reading -/

/-- Sensor `i` takes its reading of a sample, or is invalid without one (R282). -/
def State.sensorRead (d : Nat) (ts : List Nat) (s : State) (i : Nat) : State :=
  match ts[i]? with
  | some t => (s.set (tempFld d i) t).setB (validFld d i) (!s.flag (exclFld d i))
  | none => s.set (validFld d i) 0

theorem State.dieRead_eq (s : State) (d : Nat) (ts : List Nat) :
    s.dieRead d ts = (List.range (dieCount d)).foldl (State.sensorRead d ts) s := rfl

/-- A sensor shows the same in two states. -/
structure SameSensor (d i : Nat) (s t : State) : Prop where
  temp : t.get (tempFld d i) = s.get (tempFld d i)
  valid : t.get (validFld d i) = s.get (validFld d i)
  excl : t.get (exclFld d i) = s.get (exclFld d i)

theorem SameSensor.refl (d i : Nat) (s : State) : SameSensor d i s s := ⟨rfl, rfl, rfl⟩

theorem SameSensor.trans {d i : Nat} {s t u : State} (h : SameSensor d i s t) (k : SameSensor d i t u) :
    SameSensor d i s u := ⟨k.temp.trans h.temp, k.valid.trans h.valid, k.excl.trans h.excl⟩

/-- In `t` a sensor shows its reading of a sample taken in `s`. -/
structure ReadAs (ts : List Nat) (d i : Nat) (s t : State) : Prop where
  temp : t.get (tempFld d i) = if h : i < ts.length then ts[i] % 2 ^ 10 else s.get (tempFld d i)
  valid : t.get (validFld d i) = if i < ts.length ∧ s.get (exclFld d i) ≠ 1 then 1 else 0
  excl : t.get (exclFld d i) = s.get (exclFld d i)

theorem ReadAs.after {ts : List Nat} {d i : Nat} {s t u : State} (h : ReadAs ts d i s t) (k : SameSensor d i t u) :
    ReadAs ts d i s u := ⟨k.temp.trans h.temp, k.valid.trans h.valid, k.excl.trans h.excl⟩

theorem ReadAs.before {ts : List Nat} {d i : Nat} {s t u : State} (h : SameSensor d i s t) (k : ReadAs ts d i t u) :
    ReadAs ts d i s u :=
  ⟨k.temp.trans (by rw [h.temp]), k.valid.trans (by rw [h.excl]), k.excl.trans h.excl⟩

theorem tempFld_width (d i : Nat) : (tempFld d i).width = 10 := by
  unfold tempFld
  split <;> rfl

theorem State.sensorRead_readAs (s : State) (d i : Nat) (ts : List Nat) : ReadAs ts d i s (State.sensorRead d ts s i) := by
  have hte : (tempFld d i).key ≠ (validFld d i).key := by rw [tempFld_key, validFld_key]; omega
  have hev : (exclFld d i).key ≠ (validFld d i).key := by rw [exclFld_key, validFld_key]; omega
  have het : (exclFld d i).key ≠ (tempFld d i).key := by rw [exclFld_key, tempFld_key]; omega
  unfold State.sensorRead
  by_cases hi : i < ts.length
  · rw [List.getElem?_eq_getElem hi]
    refine ⟨?_, ?_, (State.get_set_ne _ _ _ _ hev).trans (State.get_set_ne _ _ _ _ het)⟩
    · rw [dif_pos hi]
      refine (State.get_set_ne _ _ _ _ hte).trans ((State.get_set _ _ _).trans ?_)
      rw [tempFld_width]
    · refine (State.get_set _ _ _).trans ?_
      rw [validFld_width]
      by_cases he : s.get (exclFld d i) = 1
      · rw [(s.flag_iff _).mpr he, if_neg (fun h => h.2 he)]
        rfl
      · rw [(s.flag_eq_false _).mpr he, if_pos ⟨hi, he⟩]
        rfl
  · rw [List.getElem?_eq_none (by omega)]
    refine ⟨?_, ?_, State.get_set_ne _ _ _ _ hev⟩
    · rw [dif_neg hi]
      exact State.get_set_ne _ _ _ _ hte
    · rw [if_neg (fun h => hi h.1)]
      exact (State.get_set _ _ 0).trans (Nat.zero_mod _)

/-- A reading writes its sensor's register alone. -/
theorem State.sensorRead_get (s : State) (d i : Nat) (ts : List Nat) {f : Fld} (h : f.key / 32 ≠ sensorReg d i) :
    (State.sensorRead d ts s i).get f = s.get f := by
  have ht : f.key ≠ (tempFld d i).key := by rw [tempFld_key]; omega
  have hv : f.key ≠ (validFld d i).key := by rw [validFld_key]; omega
  unfold State.sensorRead
  split
  · exact (State.get_set_ne _ _ _ _ hv).trans (State.get_set_ne _ _ _ _ ht)
  · exact State.get_set_ne _ _ _ _ hv

theorem State.sensorRead_same (s : State) {d i e j : Nat} (ts : List Nat) (h : sensorReg e j ≠ sensorReg d i) :
    SameSensor e j s (State.sensorRead d ts s i) :=
  ⟨s.sensorRead_get d i ts (by rw [tempFld_key]; omega), s.sensorRead_get d i ts (by rw [validFld_key]; omega),
    s.sensorRead_get d i ts (by rw [exclFld_key]; omega)⟩

/-! ### The readings of a die -/

theorem sensorReg_inj {d i j : Nat} (hi : i < dieCount d) (hj : j < dieCount d) (h : i ≠ j) :
    sensorReg d i ≠ sensorReg d j := by
  by_cases hd : d = 0
  · rw [dieCount, if_pos hd] at hi hj
    rw [sensorReg, sensorReg, if_pos hd, if_pos hd]
    omega
  · rw [dieCount, if_neg hd] at hi hj
    rw [sensorReg, sensorReg, if_neg hd, if_neg hd]
    omega

theorem sensorReg_die {d e i j : Nat} (h : ¬(d = 0 ↔ e = 0)) : sensorReg d i ≠ sensorReg e j := by
  by_cases hd : d = 0
  · rw [sensorReg, sensorReg, if_pos hd, if_neg fun he => h (iff_of_true hd he)]
    omega
  · have he : e = 0 := by_contra fun he => h (iff_of_false hd he)
    rw [sensorReg, sensorReg, if_neg hd, if_pos he]
    omega

/-- The first `n` sensors show their readings, the others what they did. -/
theorem State.sensorsRead (s : State) (d : Nat) (ts : List Nat) {n : Nat} (hn : n ≤ dieCount d) {i : Nat}
    (hi : i < dieCount d) :
    (i < n → ReadAs ts d i s ((List.range n).foldl (State.sensorRead d ts) s)) ∧
    (n ≤ i → SameSensor d i s ((List.range n).foldl (State.sensorRead d ts) s)) := by
  induction n with
  | zero => exact ⟨fun h => absurd h (Nat.not_lt_zero i), fun _ => .refl d i s⟩
  | succ n ih =>
    obtain ⟨hread, hsame⟩ := ih (by omega)
    rw [List.range_succ, List.foldl_append, List.foldl_cons, List.foldl_nil]
    have hother : i ≠ n → SameSensor d i ((List.range n).foldl (State.sensorRead d ts) s)
        (State.sensorRead d ts ((List.range n).foldl (State.sensorRead d ts) s) n) := fun h =>
      State.sensorRead_same _ ts (sensorReg_inj hi (by omega) h)
    constructor
    · intro h
      by_cases hin : i = n
      · subst hin
        exact ReadAs.before (hsame (Nat.le_refl i)) (State.sensorRead_readAs _ d i ts)
      · exact (hread (by omega)).after (hother hin)
    · intro h
      exact (hsame (by omega)).trans (hother (by omega))

theorem State.dieRead_readAs (s : State) {d i : Nat} (ts : List Nat) (hi : i < dieCount d) :
    ReadAs ts d i s (s.dieRead d ts) := (s.sensorsRead d ts (Nat.le_refl _) hi).1 hi

/-- The readings of one die leave the other's sensors. -/
theorem State.dieRead_other (s : State) {d e i : Nat} (ts : List Nat) (h : ¬(e = 0 ↔ d = 0)) :
    SameSensor e i s (s.dieRead d ts) := by
  rw [s.dieRead_eq]
  exact List.foldlRecOn _ _ (motive := SameSensor e i s) (.refl e i s) fun t ht j _ =>
    ht.trans (t.sensorRead_same ts (sensorReg_die h))

/-! ### The maximum -/

theorem State.dieMax_congr {s t : State} {d : Nat} (h : ∀ i, SameSensor d i s t) : t.dieMax d false = s.dieMax d false := by
  simp only [State.dieMax, State.dieValid, State.flag, Bool.not_false, Bool.true_or, (h _).valid, (h _).temp]

theorem State.dieMax_lt {s : State} {d : Nat} (h : ∀ i < dieCount d, s.get (validFld d i) = 1 →
    s.get (tempFld d i) < 2 ^ 10) : s.dieMax d false < 2 ^ 10 := by
  unfold State.dieMax
  refine List.foldlRecOn _ _ (motive := fun m => m < 2 ^ 10) (by decide) fun m hm i hi => ?_
  simp only [State.dieValid, Bool.not_false, Bool.true_or, List.filter_true, List.mem_filter, List.mem_range,
    s.flag_iff] at hi
  exact Nat.max_lt.mpr ⟨hm, h i hi.1 hi.2⟩

theorem ReadAs.temp_lt {ts : List Nat} {d i : Nat} {s t : State} (h : ReadAs ts d i s t)
    (hv : t.get (validFld d i) = 1) : t.get (tempFld d i) < 2 ^ 10 := by
  rw [h.valid] at hv
  have hi : i < ts.length := by
    by_contra hi
    rw [if_neg (fun hh => hi hh.1)] at hv
    exact absurd hv (by decide)
  rw [h.temp, dif_pos hi]
  exact Nat.mod_lt _ (by decide)

/-! ### The sample -/

/-- Whether a sensor is suspect is shown in a field of its own. -/
theorem State.suspShown_same (s : State) (h : House) (d i e j v : Nat) :
    SameSensor e j s ((s.setHouse h).set (suspFld d i) v) := by
  refine ⟨State.get_set_ne _ _ _ _ ?_, State.get_set_ne _ _ _ _ ?_, State.get_set_ne _ _ _ _ ?_⟩
  · rw [tempFld_key, suspFld_key]; omega
  · rw [validFld_key, suspFld_key]; omega
  · rw [exclFld_key, suspFld_key]; omega

theorem State.dieSuspect_same (s : State) (d e j : Nat) : SameSensor e j s (s.dieSuspect d) := by
  unfold State.dieSuspect
  exact List.foldlRecOn _ _ (motive := SameSensor e j s) (.refl e j s) fun t ht i _ =>
    ht.trans (t.suspShown_same _ d i e j _)

theorem State.dieSuspect_sampled (s : State) (d : Nat) : (s.dieSuspect d).house.sampled = s.house.sampled := by
  unfold State.dieSuspect
  exact List.foldlRecOn _ _ (motive := fun t : State => t.house.sampled = s.house.sampled) rfl fun t ht i _ => ht

theorem State.dieLevels_sampled (s : State) (d : Nat) : (s.dieLevels d).house.sampled = s.house.sampled := by
  unfold State.dieLevels
  exact List.foldlRecOn _ _ (motive := fun t : State => t.house.sampled = s.house.sampled) rfl fun t ht i _ => ht

/-- A footprint that leaves block THM's sensors leaves what they show. -/
theorem Keeps.sameSensor {m : Nat} {s t : State} (k : Keeps m s t) (hm : m.testBit 35 = false) (d i : Nat) :
    SameSensor d i s t :=
  ⟨k.fields _ (by rwa [tempFld_cls]), k.fields _ (by rwa [validFld_cls]), k.fields _ (by rwa [exclFld_cls])⟩

/-- The maximum of a die and its peak (R290). -/
def State.maxShown (s : State) (d : Nat) : State :=
  let pk := if d = 0 then THM_LMAX_PEAK else THM_PMAX_PEAK
  (s.set (if d = 0 then THM_LMAX_MAX else THM_PMAX_MAX) (s.dieMax d false)).set pk (max (s.dieMax d false) (s.get pk))

theorem State.dieLevels_get (s : State) (d : Nat) (f : Fld) : (s.dieLevels d).get f = (s.maxShown d).get f := by
  unfold State.dieLevels
  extract_lets m mx pk t
  rw [foldl_get]
  · rfl
  · exact fun _ _ => rfl

theorem State.dieLevels_logic (s : State) : (s.dieLevels 0).get THM_LMAX_MAX = s.dieMax 0 false % 2 ^ 10 := by
  rw [s.dieLevels_get]
  exact (State.get_set_ne _ _ _ _ (by decide)).trans (State.get_set _ _ _)

theorem State.dieLevels_power (s : State) : (s.dieLevels 1).get THM_PMAX_MAX = s.dieMax 1 false % 2 ^ 10 ∧
    (s.dieLevels 1).get THM_LMAX_MAX = s.get THM_LMAX_MAX := by
  rw [s.dieLevels_get, s.dieLevels_get]
  exact ⟨(State.get_set_ne _ _ _ _ (by decide)).trans (State.get_set _ _ _),
    (State.get_set_ne _ _ _ _ (by decide)).trans (State.get_set_ne _ _ _ _ (by decide))⟩

/-- The readings of a sample (R282). -/
def State.readingsTaken (s : State) (tl tp : List Nat) : State := (s.dieRead 0 tl).dieRead 1 tp

def State.sampledNow (s : State) : State := s.setHouse { s.house with sampled := true }

/-- A sample's readings and suspects, before maxima and level counters (R282, R289). -/
def State.sampleTaken (s : State) (tl tp : List Nat) : State :=
  ((s.readingsTaken tl tp).sampledNow.dieSuspect 0).dieSuspect 1

theorem State.thermal_eq (s : State) (tl tp : List Nat) :
    s.thermal tl tp = (((s.sampleTaken tl tp).dieLevels 0).dieLevels 1).oscTrim := rfl

theorem State.sampledNow_same (s : State) (d i : Nat) : SameSensor d i s s.sampledNow := ⟨rfl, rfl, rfl⟩

theorem State.sampleTaken_same (s : State) (tl tp : List Nat) (d i : Nat) :
    SameSensor d i (s.readingsTaken tl tp) (s.sampleTaken tl tp) :=
  (((s.readingsTaken tl tp).sampledNow_same d i).trans (State.dieSuspect_same _ 0 d i)).trans
    (State.dieSuspect_same _ 1 d i)

theorem State.sampleTaken_logic (s : State) (tl tp : List Nat) {i : Nat} (hi : i < 8) :
    ReadAs tl 0 i s (s.sampleTaken tl tp) :=
  ((s.dieRead_readAs (d := 0) tl hi).after (State.dieRead_other _ tp (by decide))).after (s.sampleTaken_same tl tp 0 i)

theorem State.sampleTaken_power (s : State) (tl tp : List Nat) {i : Nat} (hi : i < 6) :
    ReadAs tp 1 i s (s.sampleTaken tl tp) :=
  (ReadAs.before (s.dieRead_other (e := 1) tl (by decide)) (State.dieRead_readAs _ (d := 1) tp hi)).after
    (s.sampleTaken_same tl tp 1 i)

theorem State.sampleTaken_max (s : State) (tl tp : List Nat) : (s.sampleTaken tl tp).dieMax 0 false < 2 ^ 10 ∧
    (s.sampleTaken tl tp).dieMax 1 false < 2 ^ 10 :=
  ⟨State.dieMax_lt fun _ hi hv => (s.sampleTaken_logic tl tp hi).temp_lt hv,
    State.dieMax_lt fun _ hi hv => (s.sampleTaken_power tl tp hi).temp_lt hv⟩

/-- Maxima, level counters and the oscillator's trim leave the sensors. -/
theorem State.thermal_same (s : State) (tl tp : List Nat) (d i : Nat) :
    SameSensor d i (s.sampleTaken tl tp) (s.thermal tl tp) :=
  (((State.dieLevels_keeps _ 0).sameSensor rfl d i).trans ((State.dieLevels_keeps _ 1).sameSensor rfl d i)).trans
    ((State.oscTrim_keeps _).sameSensor rfl d i)

theorem State.oscTrim_get (s : State) (f : Fld) : s.oscTrim.get f = s.get f := by
  unfold State.oscTrim
  extract_lets v
  split <;> rfl

theorem State.oscTrim_sampled (s : State) : s.oscTrim.house.sampled = s.house.sampled := by
  unfold State.oscTrim
  extract_lets v
  split <;> rfl

theorem State.thermal_sampled (s : State) (tl tp : List Nat) : (s.thermal tl tp).house.sampled = true := by
  rw [s.thermal_eq, State.oscTrim_sampled, State.dieLevels_sampled, State.dieLevels_sampled, State.sampleTaken,
    State.dieSuspect_sampled, State.dieSuspect_sampled]
  rfl

/-- The maxima are those of the sensors that the sample leaves (R282, R290). -/
theorem State.thermal_max (s : State) (tl tp : List Nat) :
    (s.thermal tl tp).get THM_LMAX_MAX = (s.sampleTaken tl tp).dieMax 0 false ∧
    (s.thermal tl tp).get THM_PMAX_MAX = (s.sampleTaken tl tp).dieMax 1 false := by
  obtain ⟨hl, hp⟩ := s.sampleTaken_max tl tp
  obtain ⟨hpower, hlogic⟩ := ((s.sampleTaken tl tp).dieLevels 0).dieLevels_power
  have hsame : ((s.sampleTaken tl tp).dieLevels 0).dieMax 1 false = (s.sampleTaken tl tp).dieMax 1 false :=
    State.dieMax_congr fun i => (State.dieLevels_keeps _ 0).sameSensor rfl 1 i
  rw [s.thermal_eq, State.oscTrim_get, State.oscTrim_get, hlogic, hpower, State.dieLevels_logic, hsame]
  exact ⟨Nat.mod_eq_of_lt hl, Nat.mod_eq_of_lt hp⟩

/-- The whole sample: the forced levels that it brings about (R291) leave sensors and maxima. -/
theorem State.thermalSample_told (s : State) (tl tp : List Nat) :
    ∃ t, exec (.thermalSample tl tp) s = .next t ∧ ThmTold (s.thermal tl tp) t :=
  ⟨_, rfl, (State.thmTold_thmTold _ 1 _ _).trans (State.thmTold_thmTold _ 0 _ _)⟩

end Sys2Proof.Machine
end

namespace Sys2Proof

open Sys2Proof.Machine Sys2Proof.Machine.Reg

theorem dieNum_lt (d : Die) : dieNum d < 2 := by cases d <;> decide

theorem levelNum_ne_two {l : Level} (h : l ≠ .shutdown) : levelNum l ≠ 2 := by
  cases l with
  | warning => decide
  | throttle => decide
  | shutdown => exact absurd rfl h

/-- A level below shutdown is new unless throttle was forced. -/
theorem levelWas_of_new {s : State} {d : Die} {l : Level} (hl : l ≠ .shutdown)
    (h : ¬(l = .throttle ∧ s.inThrottle (dieNum d) = true)) : s.levelWas (dieNum d) (levelNum l) = false := by
  cases l with
  | warning => rfl
  | throttle => exact Bool.eq_false_iff.mpr fun ht => h ⟨rfl, ht⟩
  | shutdown => exact absurd rfl hl

/-- Settles O40. The part of each clause that a later step could undo is carried past it by what that step keeps; the
frames are those of the commands. -/
theorem thermalLevelsStepsAndSensorsFollowTheSamples : Obligations.ThermalLevelsStepsAndSensorsFollowTheSamples := by
  unfold Obligations.ThermalLevelsStepsAndSensorsFollowTheSamples
  refine ⟨?_, ?_, ?_, ?_, ?_, ?_, ?_, ?_, ?_, ?_, ?_, ?_, ?_⟩
  · intro s l p
    obtain ⟨t, ht, htold⟩ := s.thermalSample_told l p
    obtain ⟨hframe, hregs⟩ := everyCommandKeepsWhatIsOutsideItsFrame _ _ _ ht
    have hsame : ∀ d i, SameSensor d i (s.sampleTaken l p) t := fun d i =>
      (s.thermal_same l p d i).trans (htold.keeps.sameSensor rfl d i)
    obtain ⟨hl, hp⟩ := s.thermal_max l p
    refine ⟨t, ht, fun i hi => ?_, fun i hi => ?_, htold.sampled.trans (s.thermal_sampled l p), ?_, ?_, hframe, hregs⟩
    · have hread := (s.sampleTaken_logic l p hi).after (hsame 0 i)
      exact ⟨hread.temp, hread.valid, hread.excl⟩
    · have hread := (s.sampleTaken_power l p hi).after (hsame 1 i)
      exact ⟨hread.temp, hread.valid, hread.excl⟩
    · rw [htold.keeps.fields THM_LMAX_MAX (by decide +kernel), hl, State.dieMax_congr (hsame 0)]
    · rw [htold.keeps.fields THM_PMAX_MAX (by decide +kernel), hp, State.dieMax_congr (hsame 1)]
  · intro s d l hlevel hup hl
    obtain ⟨hframe, hregs⟩ := everyCommandKeepsWhatIsOutsideItsFrame (.thermalLevelEnter d l) s _ rfl
    obtain ⟨hentered, hraised, hmode, hlogic, hpower, hstep, hshown⟩ :=
      s.levelEnter_below (dieNum_lt d) hlevel hup (levelNum_ne_two hl)
    exact ⟨_, rfl, hentered, fun h => hraised (levelWas_of_new hl h), hmode, hlogic, hpower,
      fun h => hstep (congrArg levelNum h), hshown, hframe, hregs⟩
  · intro s d hlevel hup hblind hmode
    obtain ⟨hframe, hregs⟩ := everyCommandKeepsWhatIsOutsideItsFrame (.thermalLevelEnter d .shutdown) s _ rfl
    obtain ⟨hfive, hdown, hraised, hcount, hseen⟩ := s.levelEnter_shutdown hlevel hup hblind hmode
    exact ⟨_, rfl, hfive, hdown, valvesClosed_of_mode hfive, hraised, hcount, hseen, hframe, hregs⟩
  · exact fun s d l h => ⟨_, rfl, s.levelEnter_stays h⟩
  · intro s d l hlevel hdown
    obtain ⟨hframe, hregs⟩ := everyCommandKeepsWhatIsOutsideItsFrame (.thermalLevelLeave d l) s _ rfl
    obtain ⟨hlogic, hpower, hstep⟩ := s.levelLeave_shown (dieNum_lt d) hlevel hdown
    exact ⟨_, rfl, s.levelLeave_hasLevel hlevel hdown, hlogic, hpower, hstep, hframe, hregs⟩
  · exact fun s d l h => ⟨_, rfl, s.levelLeave_stays h⟩
  · intro s d h
    obtain ⟨hframe, hregs⟩ := everyCommandKeepsWhatIsOutsideItsFrame (.throttleStep2 d) s _ rfl
    obtain ⟨hstep, hshown, htime⟩ := s.step2_shown h
    exact ⟨_, rfl, hstep, hshown, htime, hframe, hregs⟩
  · exact fun s d h => ⟨_, rfl, s.step2_stays h⟩
  · intro s d i hi hv hsusp
    obtain ⟨hframe, hregs⟩ := everyCommandKeepsWhatIsOutsideItsFrame (.thermalSensorExclude d i) s _ rfl
    obtain ⟨hexcl, hvalid, hshown, hseen, hraised⟩ := s.thmExclude_shown hi hv hsusp
    exact ⟨_, rfl, hexcl, hvalid, hshown, hseen, hraised, hframe, hregs⟩
  · exact fun s d i h => ⟨_, rfl, s.thmExclude_stays h⟩
  · intro s d i hi he hagree
    obtain ⟨hframe, hregs⟩ := everyCommandKeepsWhatIsOutsideItsFrame (.thermalSensorReadmit d i) s _ rfl
    obtain ⟨hexcl, hvalid⟩ := s.thmReadmit_shown hi he hagree
    exact ⟨_, rfl, hexcl, hvalid, hframe, hregs⟩
  · exact fun s d i h => ⟨_, rfl, s.thmReadmit_stays h⟩
  · intro s n
    exact ⟨_, rfl, (State.get_set_ne _ _ _ _ (by decide)).trans (State.get_set _ _ n), State.get_set _ _ 1, rfl,
      regsBut_set_pair _ _ _ _ _⟩

end Sys2Proof

section
/-! SUPPORT. The preheat loop at the end of a window: what it measures, and what a valid and an invalid window do (R301
to R303, R309, R311). -/

namespace Sys2Proof.Machine

open Reg

/-! ### The window closes -/

/-- What the measurement of a window is shown in. -/
abbrev phPvFlds : List Fld := [LOOP_PHPV_PV, LOOP_PHPV_N]

/-- What a window moves beside it. -/
abbrev phFlds : List Fld := [LOOP_PHU_U, LOOP_PHU_I, LOOP_STAT_PHSAT, LOOP_STAT_PHVALID, LOOP_STAT_PHSTALE,
  LOOP_STAT_PHINV]

/-- The window has ended and the next one is open. -/
def State.phEnded (s : State) : State :=
  { s.atSecond (s.secondOf s.loops.phDone) with
    loops := { s.loops with hist := s.loops.hist.filter (fun p => decide (s.secondOf s.loops.phDone < p.1)),
                            phDone := s.secondOf s.loops.phDone + 1 } }

/-- The window has ended and shows its median and the number of its knots. -/
def State.phMeasured (s : State) : State :=
  (s.phEnded.set LOOP_PHPV_PV (min 65535 (phMedian s))).set LOOP_PHPV_N (min 65535 (phCount s))

theorem State.phMeasured_regsBut (s : State) : regsBut phPvFlds s s.phMeasured := regsBut_set_pair s.phEnded _ _ _ _

theorem min_mod_two_pow_16 (x : Nat) : min 65535 x % 2 ^ 16 = min 65535 x :=
  Nat.mod_eq_of_lt (Nat.lt_succ_of_le (Nat.min_le_left _ _))

theorem State.phMeasured_closed (s : State) : windowClosed s s.phMeasured := by
  refine ⟨?_, ?_, rfl, rfl⟩
  · exact (State.get_set_ne _ _ _ _ (by decide)).trans ((State.get_set _ _ _).trans (min_mod_two_pow_16 _))
  · exact (State.get_set _ _ _).trans (min_mod_two_pow_16 _)

/-- What follows the measurement leaves the window closed. -/
theorem windowClosed_after {s t u : State} (h : windowClosed s t) (hregs : regsButEvt phFlds t u)
    (htime : u.time = t.time) (hloops : u.loops = t.loops) : windowClosed s u := by
  obtain ⟨hpv, hn, ht, hl⟩ := h
  exact ⟨(hregs _ (by decide) (by decide)).trans hpv, (hregs _ (by decide) (by decide)).trans hn, htime.trans ht,
    hloops.trans hl⟩

theorem State.phWindow_eq (s : State) : s.phWindow =
    if s.get LOOP_PHWIN_MINN ≤ phCount s then s.phMeasured.phValid (phMedian s) else s.phMeasured.phInvalid := by
  rw [← s.phMeasured_regsBut LOOP_PHWIN_MINN (by decide)]
  rfl

theorem State.phMeasured_frame (s : State) : s.phMeasured =
    { s with regs := s.phMeasured.regs, time := s.phMeasured.time, loops := s.phMeasured.loops } := rfl

/-- A change of registers after a change of registers, chain time and loops. -/
theorem loop_frame_regs {s t u : State} (ht : t = { s with regs := t.regs, time := t.time, loops := t.loops })
    (hu : u = { t with regs := u.regs }) : u = { s with regs := u.regs, time := u.time, loops := u.loops } := by
  rw [hu]
  generalize u.regs = m
  rw [ht]

/-! ### Who holds the loop -/

theorem State.phAuto_iff (s : State) : s.phAuto = true ↔
    s.get LOOP_CTRL_PHEN = 1 ∧ s.get LOOP_CTRL_PHMAN ≠ 1 ∧ (s.mode = 1 ∨ s.mode = 2 ∨ s.mode = 3) := by
  simp only [State.phAuto, State.phLive, State.flag, Bool.and_eq_true, Bool.or_eq_true, Bool.not_eq_true', beq_iff_eq,
    beq_eq_false_iff_ne, or_assoc, and_assoc]

theorem State.phAuto_eq_false (s : State)
    (h : s.get LOOP_CTRL_PHEN ≠ 1 ∨ s.get LOOP_CTRL_PHMAN = 1 ∨ s.phLive = false) : s.phAuto = false := by
  rcases h with h | h | h <;> simp [State.phAuto, State.flag, h]

/-- No window changes who holds the loop. -/
theorem State.phAuto_congr {s t : State} (h : regsButEvt (phPvFlds ++ phFlds) s t) : t.phAuto = s.phAuto := by
  simp only [State.phAuto, State.phLive, State.flag, State.mode, h LOOP_CTRL_PHEN (by decide) (by decide),
    h LOOP_CTRL_PHMAN (by decide) (by decide), h GLB_STAT_STATE (by decide) (by decide)]

/-! ### The controller's outcome -/

/-- The outcome of an update of R302 in a loop's duty, integrator and saturation. -/
def State.piMoved (s : State) (u i sat : Fld) (r : Nat × Nat × Bool) : State :=
  ((s.set u r.1).set i r.2.1).setB sat r.2.2

theorem State.piMoved_regsBut (s : State) (u i sat : Fld) (r : Nat × Nat × Bool) :
    regsBut [u, i, sat] s (s.piMoved u i sat r) :=
  (((regsBut.refl _ s).set (by simp)).set (by simp)).set (by simp)

theorem State.piMoved_frame (s : State) (u i sat : Fld) (r : Nat × Nat × Bool) :
    s.piMoved u i sat r = { s with regs := (s.piMoved u i sat r).regs } := rfl

theorem State.piMoved_shown (s : State) {u i sat : Fld} (r : Nat × Nat × Bool) (hui : u.key ≠ i.key)
    (hus : u.key ≠ sat.key) (his : i.key ≠ sat.key) (hsat : sat.width = 1) :
    (s.piMoved u i sat r).get u = r.1 % 2 ^ u.width ∧ (s.piMoved u i sat r).get i = r.2.1 % 2 ^ i.width ∧
    ((s.piMoved u i sat r).get sat = 1 ↔ r.2.2 = true) := by
  unfold State.piMoved
  rw [State.setB_eq]
  refine ⟨?_, ?_, ?_⟩
  · rw [State.get_set_ne _ _ _ _ hus, State.get_set_ne _ _ _ _ hui, State.get_set]
  · rw [State.get_set_ne _ _ _ _ his, State.get_set]
  · rw [State.get_set, hsat]
    exact b2n_eq_one _

/-! ### A valid window -/

/-- The update of R302 for the measured value `pv`: duty, integrator, and whether the duty was clamped. -/
def State.phStep (s : State) (pv : Nat) : Nat × Nat × Bool :=
  piStep ((s.get LOOP_PHSP_SP : Int) - pv) 128 (s.get LOOP_PHGAIN_KP) (s.get LOOP_PHGAIN_KI) (s.get LOOP_PHLIM_UMIN)
    (s.get LOOP_PHLIM_UMAX) (s.get LOOP_PHU_I)

/-- What a window shows of its being valid. -/
abbrev phGoodFlds : List Fld := [LOOP_STAT_PHVALID, LOOP_STAT_PHSTALE, LOOP_STAT_PHINV]

/-- A valid window as the status shows it (R303). -/
def State.phGood (s : State) : State := ((s.set LOOP_STAT_PHVALID 1).set LOOP_STAT_PHSTALE 0).set LOOP_STAT_PHINV 0

/-- The controller's outcome in the preheat loop's registers. -/
abbrev State.phMoved (s : State) (r : Nat × Nat × Bool) : State := s.piMoved LOOP_PHU_U LOOP_PHU_I LOOP_STAT_PHSAT r

theorem State.phGood_regsBut (s : State) : regsBut phGoodFlds s s.phGood :=
  (((regsBut.refl _ s).set (by simp)).set (by simp)).set (by simp)

theorem State.phGood_frame (s : State) : s.phGood = { s with regs := s.phGood.regs } := rfl

theorem State.phGood_shown (s : State) : s.phGood.get LOOP_STAT_PHVALID = 1 ∧ s.phGood.get LOOP_STAT_PHSTALE = 0 ∧
    s.phGood.get LOOP_STAT_PHINV = 0 := by
  unfold State.phGood
  simp (disch := decide) only [State.get_set, State.get_set_ne]
  decide

theorem State.phValid_eq (s : State) (pv : Nat) :
    s.phValid pv = if s.phAuto then s.phGood.phMoved (s.phStep pv) else s.phGood := by
  have hgood := s.phGood_regsBut
  have hauto : s.phGood.phAuto = s.phAuto := State.phAuto_congr (hgood.mono (by simp)).toEvt
  have hstep : s.phGood.phStep pv = s.phStep pv := by
    simp only [State.phStep, hgood LOOP_PHSP_SP (by decide), hgood LOOP_PHGAIN_KP (by decide),
      hgood LOOP_PHGAIN_KI (by decide), hgood LOOP_PHLIM_UMIN (by decide), hgood LOOP_PHLIM_UMAX (by decide),
      hgood LOOP_PHU_I (by decide)]
  rw [← hauto, ← hstep]
  rfl

/-- The measurement's registers are none of those that the controller goes by. -/
theorem State.phMeasured_step (s : State) (pv : Nat) : s.phMeasured.phStep pv = s.phStep pv := by
  have h := s.phMeasured_regsBut
  simp only [State.phStep, h LOOP_PHSP_SP (by decide), h LOOP_PHGAIN_KP (by decide), h LOOP_PHGAIN_KI (by decide),
    h LOOP_PHLIM_UMIN (by decide), h LOOP_PHLIM_UMAX (by decide), h LOOP_PHU_I (by decide)]

theorem State.phMeasured_auto (s : State) : s.phMeasured.phAuto = s.phAuto :=
  State.phAuto_congr (s.phMeasured_regsBut.mono (by simp)).toEvt

theorem State.phWindow_moves (s : State) (ha : s.phAuto = true) (hn : s.get LOOP_PHWIN_MINN ≤ phCount s) :
    s.phWindow = s.phMeasured.phGood.phMoved (s.phStep (phMedian s)) := by
  rw [s.phWindow_eq, if_pos hn, State.phValid_eq, s.phMeasured_auto, if_pos ha, s.phMeasured_step]

theorem State.phWindow_held (s : State) (ha : s.phAuto = false) (hn : s.get LOOP_PHWIN_MINN ≤ phCount s) :
    s.phWindow = s.phMeasured.phGood := by
  rw [s.phWindow_eq, if_pos hn, State.phValid_eq, s.phMeasured_auto, ha]
  rfl

/-! ### An invalid window -/

/-- An invalid window is counted (R303). -/
def State.phPoor (s : State) : State := (s.set LOOP_STAT_PHVALID 0).bump LOOP_STAT_PHINV

/-- The loop becomes stale now (R303; log entry 89). -/
abbrev State.phGoesStale (s : State) : Prop :=
  s.get LOOP_PHCFG_STALE ≤ s.get LOOP_STAT_PHINV ∧ s.flag LOOP_CTRL_PHEN ∧ !s.flag LOOP_STAT_PHSTALE

/-- A loop that becomes stale is shown so, and PH_STALE is raised. -/
def State.phStaled (s : State) : State :=
  if s.phGoesStale then (s.set LOOP_STAT_PHSTALE 1).raise Src.phStale else s

/-- The duty of a stale loop is SAFE while the controller has it. -/
def State.phSafe (s : State) : State :=
  if s.flag LOOP_STAT_PHSTALE && s.phAuto then s.set LOOP_PHU_U (s.get LOOP_PHCFG_SAFE) else s

theorem State.phInvalid_eq (s : State) : s.phInvalid = s.phPoor.phStaled.phSafe := rfl

theorem State.phPoor_regsBut (s : State) : regsBut [LOOP_STAT_PHVALID, LOOP_STAT_PHINV] s s.phPoor :=
  regsBut_set_pair s _ _ _ _

theorem State.phPoor_shown (s : State) : s.phPoor.get LOOP_STAT_PHVALID = 0 ∧
    s.phPoor.get LOOP_STAT_PHINV = satAdd 8 (s.get LOOP_STAT_PHINV) 1 % 2 ^ 8 := by
  unfold State.phPoor
  simp (disch := decide) only [State.bump_eq, State.get_set, State.get_set_ne]
  exact ⟨rfl, rfl⟩

theorem State.phStaled_calm (s : State) : Calm [LOOP_STAT_PHSTALE] s s.phStaled := by
  unfold State.phStaled
  split
  · exact (((regsBut.refl _ s).set (by simp)).calm (by decide) rfl).trans (State.raise_calm _ _ (by decide))
  · exact Calm.refl (by decide) s

theorem State.phStaled_stale (s : State) : s.phStaled.get LOOP_STAT_PHSTALE =
    if s.get LOOP_PHCFG_STALE ≤ s.get LOOP_STAT_PHINV ∧ s.get LOOP_CTRL_PHEN = 1 then 1
    else s.get LOOP_STAT_PHSTALE := by
  unfold State.phStaled
  split
  case isTrue h =>
    obtain ⟨hn, hen, -⟩ := h
    rw [if_pos ⟨hn, (s.flag_iff _).mp hen⟩, State.raise_get _ _ _ (by decide)]
    exact State.get_set _ _ 1
  case isFalse h =>
    split
    case isTrue hc =>
      have hstale : s.flag LOOP_STAT_PHSTALE = true := by
        by_contra hno
        exact h ⟨hc.1, (s.flag_iff _).mpr hc.2, by simpa using hno⟩
      exact (s.flag_iff _).mp hstale
    case isFalse => rfl

/-- PH_STALE comes when PHSTALE is newly set (R303). -/
theorem State.phStaled_raised (s : State) (h0 : s.get LOOP_STAT_PHSTALE = 0)
    (h1 : s.phStaled.get LOOP_STAT_PHSTALE = 1) : raisedIn Src.phStale s s.phStaled := by
  by_cases h : s.phGoesStale
  · rw [State.phStaled, if_pos h]
    exact (State.raise_status _ _).since (((regsBut.refl [LOOP_STAT_PHSTALE] s).set (by simp)).calm (by decide) rfl)
  · rw [State.phStaled, if_neg h, h0] at h1
    cases h1

theorem State.phStaled_parts (s : State) : s.phStaled.time = s.time ∧ s.phStaled.loops = s.loops := by
  unfold State.phStaled
  split <;> simp

theorem State.phSafe_regsBut (s : State) : regsBut [LOOP_PHU_U] s s.phSafe :=
  ((regsBut.refl _ s).set (by simp)).ite (regsBut.refl _ s)

theorem State.phSafe_frame (s : State) : s.phSafe = { s with regs := s.phSafe.regs } := by
  unfold State.phSafe
  split <;> rfl

theorem State.phSafe_duty (s : State) : s.phSafe.get LOOP_PHU_U =
    if s.get LOOP_STAT_PHSTALE = 1 ∧ s.phAuto = true then s.get LOOP_PHCFG_SAFE % 2 ^ 10 else s.get LOOP_PHU_U := by
  simp only [State.phSafe, Bool.and_eq_true, State.flag_iff]
  split
  · exact State.get_set _ _ _
  · rfl

/-- What an invalid window moves. -/
abbrev phMissFlds : List Fld := [LOOP_PHU_U, LOOP_STAT_PHVALID, LOOP_STAT_PHSTALE, LOOP_STAT_PHINV]

theorem State.phInvalid_calm (s : State) : Calm phMissFlds s s.phInvalid :=
  ((s.phPoor_regsBut.mono (by simp)).calm (by decide) rfl).trans
    ((s.phPoor.phStaled_calm.mono (by simp) (by decide)).trans
      ((s.phPoor.phStaled.phSafe_regsBut.mono (by simp)).calm (by decide) (by rw [State.phSafe_frame])))

theorem State.phInvalid_parts (s : State) : s.phInvalid.time = s.time ∧ s.phInvalid.loops = s.loops := by
  obtain ⟨htime, hloops⟩ := s.phPoor.phStaled_parts
  rw [s.phInvalid_eq, State.phSafe_frame]
  exact ⟨htime, hloops⟩

theorem State.phInvalid_counted (s : State) : s.phInvalid.get LOOP_STAT_PHVALID = 0 ∧
    s.phInvalid.get LOOP_STAT_PHINV = satAdd 8 (s.get LOOP_STAT_PHINV) 1 % 2 ^ 8 := by
  obtain ⟨hvalid, hinv⟩ := s.phPoor_shown
  have hstaled := s.phPoor.phStaled_calm
  have hsafe := s.phPoor.phStaled.phSafe_regsBut
  exact ⟨(hsafe _ (by decide)).trans ((hstaled.get (by decide) (by decide)).trans hvalid),
    (hsafe _ (by decide)).trans ((hstaled.get (by decide) (by decide)).trans hinv)⟩

theorem State.phInvalid_stale (s : State) : s.phInvalid.get LOOP_STAT_PHSTALE =
    if s.get LOOP_PHCFG_STALE ≤ satAdd 8 (s.get LOOP_STAT_PHINV) 1 % 2 ^ 8 ∧ s.get LOOP_CTRL_PHEN = 1 then 1
    else s.get LOOP_STAT_PHSTALE := by
  have hpoor := s.phPoor_regsBut
  rw [s.phInvalid_eq, State.phSafe_regsBut _ _ (by decide), State.phStaled_stale, s.phPoor_shown.2,
    hpoor LOOP_PHCFG_STALE (by decide), hpoor LOOP_CTRL_PHEN (by decide), hpoor LOOP_STAT_PHSTALE (by decide)]

theorem State.phInvalid_duty (s : State) : s.phInvalid.get LOOP_PHU_U =
    if s.phInvalid.get LOOP_STAT_PHSTALE = 1 ∧ s.phAuto = true then s.get LOOP_PHCFG_SAFE % 2 ^ 10
    else s.get LOOP_PHU_U := by
  have hpoor := s.phPoor_regsBut
  have hstaled := s.phPoor.phStaled_calm
  have hauto : s.phPoor.phStaled.phAuto = s.phAuto :=
    (State.phAuto_congr (hstaled.butEvt.mono (by simp))).trans (State.phAuto_congr (hpoor.mono (by simp)).toEvt)
  have hstale := s.phPoor.phStaled.phSafe_regsBut LOOP_STAT_PHSTALE (by decide)
  rw [s.phInvalid_eq, hstale, State.phSafe_duty, hauto, hstaled.get (f := LOOP_PHCFG_SAFE) (by decide) (by decide),
    hstaled.get (f := LOOP_PHU_U) (by decide) (by decide), hpoor LOOP_PHCFG_SAFE (by decide),
    hpoor LOOP_PHU_U (by decide)]

theorem State.phInvalid_raised (s : State) (h0 : s.get LOOP_STAT_PHSTALE = 0)
    (h1 : s.phInvalid.get LOOP_STAT_PHSTALE = 1) : raisedIn Src.phStale s s.phInvalid := by
  have hpoor := s.phPoor_regsBut
  have hsafe := s.phPoor.phStaled.phSafe_regsBut
  have hraised := s.phPoor.phStaled_raised ((hpoor _ (by decide)).trans h0) ((hsafe _ (by decide)).symm.trans h1)
  exact (hraised.since (hpoor.calm (by decide) rfl)).after (hsafe.calm (by decide) (by rw [State.phSafe_frame]))

end Sys2Proof.Machine
end

section
/-! SUPPORT. The backdrop loop at a whole second: the readings of the second just ended, and what the loop does
with them or without (R305 to R307, R309, R311). -/

namespace Sys2Proof.Machine

open Reg

/-! ### The second closes -/

/-- The second has ended and its readings are taken; `lost` seconds in a row have had none, `out` once BK_RTD is out. -/
def State.bkEnded (s : State) (lost : Nat) (out : Bool) : State :=
  { s.atSecond (s.secondOf s.loops.bkDone) with
    loops := { s.loops with rtd := s.loops.rtd.filter (fun p => decide (s.secondOf s.loops.bkDone < p.1)),
                            bkDone := s.secondOf s.loops.bkDone + 1, rtdLost := lost, rtdOut := out } }

/-- The mean of the second's readings (R305). -/
def State.bkMean (s : State) : Nat := (roundDiv (bkReads s).2 (bkReads s).1).toNat

theorem State.bkEnded_closed (s : State) (lost : Nat) (out : Bool) : secondClosed s (s.bkEnded lost out) lost out :=
  ⟨rfl, rfl⟩

/-- Register writes leave the second closed. -/
theorem secondClosed_after {s t u : State} {lost : Nat} {out : Bool} (h : secondClosed s t lost out)
    (htime : u.time = t.time) (hloops : u.loops = t.loops) : secondClosed s u lost out :=
  ⟨htime.trans h.1, hloops.trans h.2⟩

/-! ### Who holds the loop -/

/-- What a second writes. -/
abbrev bkFlds : List Fld := [LOOP_BKPV_PV, LOOP_STAT_BKVALID, LOOP_BKU_U, LOOP_BKU_I, LOOP_STAT_BKSAT]

theorem State.bkAuto_iff (s : State) : s.bkAuto = true ↔ s.get LOOP_CTRL_BKEN = 1 ∧ s.get LOOP_CTRL_BKMAN ≠ 1 ∧
    (s.mode = 1 ∨ s.mode = 2 ∨ s.mode = 3 ∨ s.mode = 5) := by
  simp only [State.bkAuto, State.bkLive, State.phLive, State.flag, Bool.and_eq_true, Bool.or_eq_true,
    Bool.not_eq_true', beq_iff_eq, beq_eq_false_iff_ne, or_assoc, and_assoc]

theorem State.bkAuto_eq_false (s : State)
    (h : s.get LOOP_CTRL_BKEN ≠ 1 ∨ s.get LOOP_CTRL_BKMAN = 1 ∨ s.bkLive = false) : s.bkAuto = false := by
  rcases h with h | h | h <;> simp [State.bkAuto, State.flag, h]

/-- No second changes who holds the loop. -/
theorem State.bkAuto_congr {s t : State} (h : regsBut bkFlds s t) : t.bkAuto = s.bkAuto := by
  simp only [State.bkAuto, State.bkLive, State.phLive, State.flag, State.mode, h LOOP_CTRL_BKEN (by decide),
    h LOOP_CTRL_BKMAN (by decide), h GLB_STAT_STATE (by decide)]

/-! ### A second with readings -/

/-- The second's mean reading is shown. -/
def State.bkMeasured (s : State) : State := ((s.bkEnded 0 false).set LOOP_STAT_BKVALID 1).set LOOP_BKPV_PV s.bkMean

/-- The update of R302 for the mean reading `pv`, with the refresh offset of R308. -/
def State.bkStep (s : State) (pv : Nat) : Nat × Nat × Bool :=
  piStep ((s.get LOOP_BKSP_SP : Int) + (if s.gref.raised = true then 5000 else 0) - pv) 1000 (s.get LOOP_BKGAIN_KP)
    (s.get LOOP_BKGAIN_KI) (s.get LOOP_BKLIM_UMIN) (s.get LOOP_BKLIM_UMAX) (s.get LOOP_BKU_I)

/-- The controller's outcome in the backdrop loop's registers. -/
abbrev State.bkMoved (s : State) (r : Nat × Nat × Bool) : State := s.piMoved LOOP_BKU_U LOOP_BKU_I LOOP_STAT_BKSAT r

/-- Over the high limit the duty is 0 all the same (R307). -/
def State.bkCut (s : State) : State := if s.flag LOOP_STAT_BKOVER then s.set LOOP_BKU_U 0 else s

theorem State.bkMeasured_regsBut (s : State) : regsBut [LOOP_STAT_BKVALID, LOOP_BKPV_PV] s s.bkMeasured :=
  regsBut_set_pair (s.bkEnded 0 false) _ _ _ _

theorem State.bkMeasured_frame (s : State) : s.bkMeasured =
    { s with regs := s.bkMeasured.regs, time := s.bkMeasured.time, loops := s.bkMeasured.loops } := rfl

theorem State.bkMeasured_shown (s : State) : s.bkMeasured.get LOOP_BKPV_PV = s.bkMean % 2 ^ 20 ∧
    s.bkMeasured.get LOOP_STAT_BKVALID = 1 :=
  ⟨State.get_set _ _ _, (State.get_set_ne _ _ _ _ (by decide)).trans (State.get_set _ _ 1)⟩

theorem State.bkMeasured_step (s : State) (pv : Nat) : s.bkMeasured.bkStep pv = s.bkStep pv := by
  have h := s.bkMeasured_regsBut
  have hgref : s.bkMeasured.gref = s.gref := rfl
  simp only [State.bkStep, hgref, h LOOP_BKSP_SP (by decide), h LOOP_BKGAIN_KP (by decide),
    h LOOP_BKGAIN_KI (by decide), h LOOP_BKLIM_UMIN (by decide), h LOOP_BKLIM_UMAX (by decide),
    h LOOP_BKU_I (by decide)]

theorem State.bkCut_regsBut (s : State) : regsBut [LOOP_BKU_U] s s.bkCut :=
  ((regsBut.refl _ s).set (by simp)).ite (regsBut.refl _ s)

theorem State.bkCut_frame (s : State) : s.bkCut = { s with regs := s.bkCut.regs } := by
  unfold State.bkCut
  split <;> rfl

theorem State.bkCut_duty (s : State) :
    s.bkCut.get LOOP_BKU_U = if s.get LOOP_STAT_BKOVER = 1 then 0 else s.get LOOP_BKU_U := by
  simp only [State.bkCut, State.flag_iff]
  split
  · exact State.get_set _ _ 0
  · rfl

theorem State.bkUpdate_measured (s : State) (hr : (bkReads s).1 ≠ 0) : s.bkUpdate =
    if s.bkMeasured.bkAuto then (s.bkMeasured.bkMoved (s.bkMeasured.bkStep s.bkMean)).bkCut else s.bkMeasured :=
  if_neg hr

theorem State.bkUpdate_moves (s : State) (ha : s.bkAuto = true) (hr : (bkReads s).1 ≠ 0) :
    s.bkUpdate = (s.bkMeasured.bkMoved (s.bkStep s.bkMean)).bkCut := by
  rw [s.bkUpdate_measured hr, State.bkAuto_congr (s.bkMeasured_regsBut.mono (by simp)), if_pos ha, s.bkMeasured_step]

theorem State.bkUpdate_held (s : State) (ha : s.bkAuto = false) (hr : (bkReads s).1 ≠ 0) :
    s.bkUpdate = s.bkMeasured := by
  rw [s.bkUpdate_measured hr, State.bkAuto_congr (s.bkMeasured_regsBut.mono (by simp)), ha]
  rfl

/-! ### A second without a reading -/

/-- A second without a reading is counted. -/
def State.bkMissed (s : State) : State := (s.bkEnded (s.loops.rtdLost + 1) s.loops.rtdOut).set LOOP_STAT_BKVALID 0

/-- The safe duty comes into force. -/
def State.bkSafeDuty (s : State) : State :=
  s.set LOOP_BKU_U (if s.flag LOOP_STAT_BKOVER then 0 else s.get LOOP_BKCFG_SAFE)

/-- BK_RTD is noted as raised. -/
def State.bkRtdOut (s : State) : State := { s with loops := { s.loops with rtdOut := true } }

/-- BK_RTD is raised once (R306). -/
def State.bkRtdTold (s : State) : State := if s.loops.rtdOut then s else s.bkRtdOut.raise Src.bkRtd

theorem State.bkMissed_regsBut (s : State) : regsBut [LOOP_STAT_BKVALID] s s.bkMissed :=
  (regsBut.refl _ (s.bkEnded _ _)).set List.mem_cons_self

theorem State.bkMissed_frame (s : State) : s.bkMissed =
    { s with regs := s.bkMissed.regs, time := s.bkMissed.time, loops := s.bkMissed.loops } := rfl

theorem State.bkSafeDuty_regsBut (s : State) : regsBut [LOOP_BKU_U] s s.bkSafeDuty :=
  (regsBut.refl _ s).set List.mem_cons_self

theorem State.bkSafeDuty_duty (s : State) : s.bkSafeDuty.get LOOP_BKU_U =
    if s.get LOOP_STAT_BKOVER = 1 then 0 else s.get LOOP_BKCFG_SAFE % 2 ^ 10 := by
  refine (State.get_set _ _ _).trans ?_
  simp only [State.flag_iff]
  split <;> rfl

theorem State.bkRtdOut_calm (s : State) : Calm [] s s.bkRtdOut :=
  regsBut.calm (fun _ _ => rfl) (List.forall_mem_nil _) rfl

theorem State.bkRtdTold_calm (s : State) : Calm [] s s.bkRtdTold := by
  unfold State.bkRtdTold
  split
  · exact Calm.refl (List.forall_mem_nil _) s
  · exact s.bkRtdOut_calm.trans (State.raise_calm _ _ (List.forall_mem_nil _))

theorem State.bkRtdTold_raised (s : State) (h : s.loops.rtdOut = false) : raisedIn Src.bkRtd s s.bkRtdTold := by
  rw [State.bkRtdTold, h]
  exact (State.raise_status s.bkRtdOut _).since s.bkRtdOut_calm

theorem State.bkRtdTold_parts (s : State) :
    s.bkRtdTold.time = s.time ∧ s.bkRtdTold.loops = { s.loops with rtdOut := true } := by
  unfold State.bkRtdTold
  split
  case isTrue h => exact ⟨rfl, h ▸ rfl⟩
  case isFalse => exact ⟨s.bkRtdOut.raise_time _, s.bkRtdOut.raise_loops _⟩

theorem State.bkUpdate_missed (s : State) (hr : (bkReads s).1 = 0) : s.bkUpdate =
    if 4 ≤ s.loops.rtdLost ∧ s.bkAuto = true then s.bkMissed.bkSafeDuty.bkRtdTold else s.bkMissed := by
  have hauto : s.bkMissed.bkAuto = s.bkAuto := State.bkAuto_congr (s.bkMissed_regsBut.mono (by simp))
  rw [← hauto]
  refine (if_pos hr).trans (if_congr ?_ rfl rfl)
  exact and_congr_left' (show 5 ≤ s.loops.rtdLost + 1 ↔ 4 ≤ s.loops.rtdLost by omega)

end Sys2Proof.Machine
end

section
/-! The preheat window and the backdrop second as commands (R301 to R307, R309, R311). -/

namespace Sys2Proof

open Sys2Proof.Machine Sys2Proof.Machine.Reg

theorem preheatWindowEnd_valid_moves {s : State} (ha : s.phAuto = true) (hn : s.get LOOP_PHWIN_MINN ≤ phCount s) :
    ∃ t, exec .preheatWindowEnd s = .next t ∧ windowClosed s t ∧
      t.get LOOP_PHU_U = (s.phStep (phMedian s)).1 % 2 ^ 10 ∧ t.get LOOP_PHU_I = (s.phStep (phMedian s)).2.1 % 2 ^ 10 ∧
      (t.get LOOP_STAT_PHSAT = 1 ↔ (s.phStep (phMedian s)).2.2 = true) ∧ t.get LOOP_STAT_PHVALID = 1 ∧
      t.get LOOP_STAT_PHSTALE = 0 ∧ t.get LOOP_STAT_PHINV = 0 ∧
      t = { s with regs := t.regs, time := t.time, loops := t.loops } ∧ regsBut (phPvFlds ++ phFlds) s t := by
  have hgood := s.phMeasured.phGood_regsBut
  have hmoved := s.phMeasured.phGood.piMoved_regsBut LOOP_PHU_U LOOP_PHU_I LOOP_STAT_PHSAT (s.phStep (phMedian s))
  obtain ⟨hu, hi, hsat⟩ := State.piMoved_shown s.phMeasured.phGood (u := LOOP_PHU_U) (i := LOOP_PHU_I)
    (sat := LOOP_STAT_PHSAT) (s.phStep (phMedian s)) (by decide) (by decide) (by decide) rfl
  obtain ⟨hvalid, hstale, hinv⟩ := s.phMeasured.phGood_shown
  have hall : regsBut phFlds s.phMeasured (s.phMeasured.phGood.phMoved (s.phStep (phMedian s))) :=
    (hgood.mono (by simp)).trans (hmoved.mono (by simp))
  exact ⟨_, congrArg ok (s.phWindow_moves ha hn), windowClosed_after s.phMeasured_closed hall.toEvt rfl rfl, hu, hi,
    hsat, (hmoved _ (by decide)).trans hvalid, (hmoved _ (by decide)).trans hstale,
    (hmoved _ (by decide)).trans hinv,
    loop_frame_regs (loop_frame_regs s.phMeasured_frame (State.phGood_frame _)) (State.piMoved_frame ..),
    (s.phMeasured_regsBut.mono (by simp)).trans (hall.mono (by simp))⟩

theorem preheatWindowEnd_valid_held {s : State} (ha : s.phAuto = false) (hn : s.get LOOP_PHWIN_MINN ≤ phCount s) :
    ∃ t, exec .preheatWindowEnd s = .next t ∧ windowClosed s t ∧ t.get LOOP_STAT_PHVALID = 1 ∧
      t.get LOOP_STAT_PHSTALE = 0 ∧ t.get LOOP_STAT_PHINV = 0 ∧
      t = { s with regs := t.regs, time := t.time, loops := t.loops } ∧ regsBut (phPvFlds ++ phGoodFlds) s t := by
  have hgood := s.phMeasured.phGood_regsBut
  obtain ⟨hvalid, hstale, hinv⟩ := s.phMeasured.phGood_shown
  exact ⟨_, congrArg ok (s.phWindow_held ha hn),
    windowClosed_after s.phMeasured_closed (hgood.mono (by simp)).toEvt rfl rfl, hvalid, hstale, hinv,
    loop_frame_regs s.phMeasured_frame (State.phGood_frame _),
    (s.phMeasured_regsBut.mono (by simp)).trans (hgood.mono (by simp))⟩

/-- A window with too few knots, whoever holds the loop (R303; log entry 89). -/
theorem preheatWindowEnd_invalid {s : State} (hn : phCount s < s.get LOOP_PHWIN_MINN) :
    ∃ t, exec .preheatWindowEnd s = .next t ∧ windowClosed s t ∧ t.get LOOP_STAT_PHVALID = 0 ∧
      t.get LOOP_STAT_PHINV = satAdd 8 (s.get LOOP_STAT_PHINV) 1 % 2 ^ 8 ∧
      t.get LOOP_STAT_PHSTALE = (if s.get LOOP_PHCFG_STALE ≤ satAdd 8 (s.get LOOP_STAT_PHINV) 1 % 2 ^ 8 ∧
        s.get LOOP_CTRL_PHEN = 1 then 1 else s.get LOOP_STAT_PHSTALE) ∧
      t.get LOOP_PHU_U = (if t.get LOOP_STAT_PHSTALE = 1 ∧ s.phAuto = true then s.get LOOP_PHCFG_SAFE % 2 ^ 10
        else s.get LOOP_PHU_U) ∧
      (s.get LOOP_STAT_PHSTALE = 0 → t.get LOOP_STAT_PHSTALE = 1 → raisedIn Src.phStale s t) ∧
      t = { s with regs := t.regs, evt := t.evt, mem := t.mem, time := t.time, loops := t.loops } ∧
      regsButEvt (phPvFlds ++ phMissFlds) s t := by
  have hexec : exec .preheatWindowEnd s = .next s.phMeasured.phInvalid :=
    congrArg ok (s.phWindow_eq.trans (if_neg (by omega)))
  obtain ⟨hframe, -⟩ := everyCommandKeepsWhatIsOutsideItsFrame _ _ _ hexec
  have hm := s.phMeasured_regsBut
  have hcalm := s.phMeasured.phInvalid_calm
  obtain ⟨htime, hloops⟩ := s.phMeasured.phInvalid_parts
  obtain ⟨hvalid, hinv⟩ := s.phMeasured.phInvalid_counted
  have hstale := s.phMeasured.phInvalid_stale
  have hduty := s.phMeasured.phInvalid_duty
  rw [hm _ (by decide)] at hinv
  rw [hm LOOP_PHCFG_STALE (by decide), hm LOOP_STAT_PHINV (by decide), hm LOOP_CTRL_PHEN (by decide),
    hm LOOP_STAT_PHSTALE (by decide)] at hstale
  rw [s.phMeasured_auto, hm LOOP_PHCFG_SAFE (by decide), hm LOOP_PHU_U (by decide)] at hduty
  refine ⟨_, hexec, windowClosed_after s.phMeasured_closed (hcalm.butEvt.mono (by simp)) htime hloops, hvalid, hinv,
    hstale, hduty, fun h0 h1 => ?_, hframe, (hm.toEvt.mono (by simp)).trans (hcalm.butEvt.mono (by simp))⟩
  exact (s.phMeasured.phInvalid_raised ((hm _ (by decide)).trans h0) h1).since (hm.calm (by decide) rfl)

theorem backdropLoopUpdate_moves {s : State} (ha : s.bkAuto = true) (hr : (bkReads s).1 ≠ 0) :
    ∃ t, exec .backdropLoopUpdate s = .next t ∧ secondClosed s t 0 false ∧ t.get LOOP_BKPV_PV = s.bkMean % 2 ^ 20 ∧
      t.get LOOP_STAT_BKVALID = 1 ∧
      t.get LOOP_BKU_U = (if s.get LOOP_STAT_BKOVER = 1 then 0 else (s.bkStep s.bkMean).1 % 2 ^ 10) ∧
      t.get LOOP_BKU_I = (s.bkStep s.bkMean).2.1 % 2 ^ 10 ∧
      (t.get LOOP_STAT_BKSAT = 1 ↔ (s.bkStep s.bkMean).2.2 = true) ∧
      t = { s with regs := t.regs, time := t.time, loops := t.loops } ∧ regsBut bkFlds s t := by
  obtain ⟨hpv, hvalid⟩ := s.bkMeasured_shown
  obtain ⟨hu, hi, hsat⟩ := State.piMoved_shown s.bkMeasured (u := LOOP_BKU_U) (i := LOOP_BKU_I)
    (sat := LOOP_STAT_BKSAT) (s.bkStep s.bkMean) (by decide) (by decide) (by decide) rfl
  have hmeasured := s.bkMeasured_regsBut
  have hmoved := s.bkMeasured.piMoved_regsBut LOOP_BKU_U LOOP_BKU_I LOOP_STAT_BKSAT (s.bkStep s.bkMean)
  have hcut := (s.bkMeasured.bkMoved (s.bkStep s.bkMean)).bkCut_regsBut
  have hover := (hmoved LOOP_STAT_BKOVER (by decide)).trans (hmeasured LOOP_STAT_BKOVER (by decide))
  have hframe := s.bkMeasured.piMoved_frame LOOP_BKU_U LOOP_BKU_I LOOP_STAT_BKSAT (s.bkStep s.bkMean)
  have hcutframe := (s.bkMeasured.bkMoved (s.bkStep s.bkMean)).bkCut_frame
  refine ⟨_, congrArg ok (s.bkUpdate_moves ha hr),
    secondClosed_after (s.bkEnded_closed 0 false) (by rw [hcutframe]; rfl) (by rw [hcutframe]; rfl),
    (hcut _ (by decide)).trans ((hmoved _ (by decide)).trans hpv),
    (hcut _ (by decide)).trans ((hmoved _ (by decide)).trans hvalid), ?_, (hcut _ (by decide)).trans hi, ?_,
    loop_frame_regs (loop_frame_regs s.bkMeasured_frame hframe) hcutframe,
    (hmeasured.mono (by simp)).trans ((hmoved.mono (by simp)).trans (hcut.mono (by simp)))⟩
  · rw [State.bkCut_duty, hover, hu]
    rfl
  · rw [hcut _ (by decide)]
    exact hsat

theorem backdropLoopUpdate_held {s : State} (ha : s.bkAuto = false) (hr : (bkReads s).1 ≠ 0) :
    ∃ t, exec .backdropLoopUpdate s = .next t ∧ secondClosed s t 0 false ∧ t.get LOOP_BKPV_PV = s.bkMean % 2 ^ 20 ∧
      t.get LOOP_STAT_BKVALID = 1 ∧ t = { s with regs := t.regs, time := t.time, loops := t.loops } ∧
      regsBut [LOOP_BKPV_PV, LOOP_STAT_BKVALID] s t := by
  obtain ⟨hpv, hvalid⟩ := s.bkMeasured_shown
  exact ⟨_, congrArg ok (s.bkUpdate_held ha hr), s.bkEnded_closed 0 false, hpv, hvalid, s.bkMeasured_frame,
    s.bkMeasured_regsBut.mono (by simp)⟩

/-- The fifth second in a row without a reading, or a later one, in a loop that its controller runs (R306). -/
theorem backdropLoopUpdate_lost {s : State} (ha : s.bkAuto = true) (hr : (bkReads s).1 = 0) (hl : 4 ≤ s.loops.rtdLost) :
    ∃ t, exec .backdropLoopUpdate s = .next t ∧ secondClosed s t (s.loops.rtdLost + 1) true ∧
      t.get LOOP_STAT_BKVALID = 0 ∧ t.get LOOP_BKU_I = s.get LOOP_BKU_I ∧
      t.get LOOP_BKU_U = (if s.get LOOP_STAT_BKOVER = 1 then 0 else s.get LOOP_BKCFG_SAFE % 2 ^ 10) ∧
      (s.loops.rtdOut = false → raisedIn Src.bkRtd s t) ∧ regsButEvt [LOOP_STAT_BKVALID, LOOP_BKU_U] s t := by
  have hmissed := s.bkMissed_regsBut
  have hsafe := s.bkMissed.bkSafeDuty_regsBut
  have htold := s.bkMissed.bkSafeDuty.bkRtdTold_calm
  obtain ⟨htime, hloops⟩ := s.bkMissed.bkSafeDuty.bkRtdTold_parts
  have hboth : regsBut [LOOP_STAT_BKVALID, LOOP_BKU_U] s s.bkMissed.bkSafeDuty :=
    (hmissed.mono (by simp)).trans (hsafe.mono (by simp))
  have hall : regsButEvt [LOOP_STAT_BKVALID, LOOP_BKU_U] s s.bkMissed.bkSafeDuty.bkRtdTold :=
    hboth.toEvt.trans (htold.butEvt.mono (by simp))
  refine ⟨_, congrArg ok ((s.bkUpdate_missed hr).trans (if_pos ⟨hl, ha⟩)), ⟨htime, hloops⟩, ?_,
    hall _ (by decide) (by decide), ?_, fun hout => ?_, hall⟩
  · rw [htold.get (by decide) (by simp), hsafe _ (by decide)]
    exact State.get_set _ _ 0
  · rw [htold.get (by decide) (by simp), State.bkSafeDuty_duty, hmissed LOOP_STAT_BKOVER (by decide),
      hmissed LOOP_BKCFG_SAFE (by decide)]
  · exact (s.bkMissed.bkSafeDuty.bkRtdTold_raised hout).since (hboth.calm (by decide) rfl)

/-- Any other second without a reading keeps duty and integrator (R306). -/
theorem backdropLoopUpdate_missed {s : State} (h : s.loops.rtdLost < 4 ∨ s.bkAuto = false) (hr : (bkReads s).1 = 0) :
    ∃ t, exec .backdropLoopUpdate s = .next t ∧ secondClosed s t (s.loops.rtdLost + 1) s.loops.rtdOut ∧
      t.get LOOP_STAT_BKVALID = 0 ∧ t = { s with regs := t.regs, time := t.time, loops := t.loops } ∧
      regsBut [LOOP_STAT_BKVALID] s t := by
  have hno : ¬(4 ≤ s.loops.rtdLost ∧ s.bkAuto = true) := by
    rintro ⟨h4, ha⟩
    rcases h with h | h
    · omega
    · rw [ha] at h
      cases h
  exact ⟨_, congrArg ok ((s.bkUpdate_missed hr).trans (if_neg hno)), s.bkEnded_closed _ _, State.get_set _ _ 0,
    s.bkMissed_frame, s.bkMissed_regsBut⟩

/-- Settles O42. A window or a second closes and shows its measurement; the controller or the safe duty moves the loop
where the controller has it. -/
theorem loopWindowsMoveTheirControllers : Obligations.LoopWindowsMoveTheirControllers := by
  refine ⟨fun s hen hman hmode hn => preheatWindowEnd_valid_moves (s.phAuto_iff.mpr ⟨hen, hman, hmode⟩) hn,
    fun s h hn => preheatWindowEnd_valid_held (s.phAuto_eq_false h) hn, fun s hn => preheatWindowEnd_invalid hn,
    fun s hen hman hmode hr => backdropLoopUpdate_moves (s.bkAuto_iff.mpr ⟨hen, hman, hmode⟩) hr,
    fun s h hr => backdropLoopUpdate_held (s.bkAuto_eq_false h) hr, fun s hen hman hmode hr => ?_,
    fun s h hr => backdropLoopUpdate_missed (.inr (s.bkAuto_eq_false h)) hr⟩
  by_cases hl : s.loops.rtdLost < 4
  · obtain ⟨t, hexec, hclosed, hvalid, hframe, hregs⟩ := backdropLoopUpdate_missed (.inl hl) hr
    obtain ⟨hpart, -⟩ := everyCommandKeepsWhatIsOutsideItsFrame _ _ _ hexec
    refine ⟨t, hexec, ?_, hvalid, hregs _ (by decide), ?_, fun h4 => absurd h4 (by omega), hpart,
      (hregs.mono (by simp)).toEvt⟩
    · rw [decide_eq_false (by omega), Bool.or_false]
      exact hclosed
    · rw [if_pos hl]
      exact hregs _ (by decide)
  · obtain ⟨t, hexec, hclosed, hvalid, hi, hu, hraised, hregs⟩ :=
      backdropLoopUpdate_lost (s.bkAuto_iff.mpr ⟨hen, hman, hmode⟩) hr (by omega)
    obtain ⟨hpart, -⟩ := everyCommandKeepsWhatIsOutsideItsFrame _ _ _ hexec
    refine ⟨t, hexec, ?_, hvalid, hi, ?_, fun _ => hraised, hpart, hregs⟩
    · rw [decide_eq_true (by omega), Bool.or_true]
      exact hclosed
    · rw [if_neg hl]
      exact hu

end Sys2Proof
end

section
/-! SUPPORT. The heater outputs' levels and periods, and LOOP_CTRL (R299, R300, R308 to R311). -/

namespace Sys2Proof.Machine

open Reg

/-! ### Levels -/

theorem bitOf_andNot_self (x i : Nat) : bitOf (andNot x (2 ^ i)) i = false := by
  rw [bitOf_eq_testBit, testBit_andNot, Nat.testBit_two_pow_self]
  exact Bool.and_false _

theorem bitOf_andNot_ne (x : Nat) {i o : Nat} (h : i ≠ o) : bitOf (andNot x (2 ^ o)) i = bitOf x i := by
  rw [bitOf_eq_testBit, bitOf_eq_testBit, testBit_andNot, Nat.testBit_two_pow_of_ne h.symm]
  exact Bool.and_true _

/-- An output goes high from low: its own bit is added without a carry, so clearing it again takes it away. -/
theorem bitOf_raised (x i o : Nat) : bitOf (andNot x (2 ^ o) + 2 ^ o) i = (decide (i = o) || bitOf x i) := by
  have hhigh : (andNot x (2 ^ o) + 2 ^ o).testBit o = true := by
    rw [Nat.add_comm, Nat.testBit_two_pow_add_eq, ← bitOf_eq_testBit, bitOf_andNot_self]
    rfl
  by_cases h : i = o
  · rw [h, bitOf_eq_testBit, hhigh, decide_eq_true rfl, Bool.true_or]
  · have hback : andNot (andNot x (2 ^ o) + 2 ^ o) (2 ^ o) = andNot x (2 ^ o) := by
      rw [andNot, Nat.and_two_pow, hhigh, Bool.toNat_true, Nat.one_mul, Nat.add_sub_cancel]
    rw [decide_eq_false h, Bool.false_or, ← bitOf_andNot_ne _ h, hback, bitOf_andNot_ne _ h]

/-- The four preheat outputs are low. -/
theorem bitOf_ph_low (x i : Nat) : bitOf (x / 16 * 16) i = (bitOf x i && decide (4 ≤ i)) := by
  rw [bitOf_eq_testBit, bitOf_eq_testBit, show x / 16 * 16 = x / 2 ^ 4 * 2 ^ 4 from rfl, Nat.testBit_mul_two_pow,
    Nat.testBit_div_two_pow, Bool.and_comm]
  by_cases h : 4 ≤ i
  · rw [Nat.sub_add_cancel h]
  · rw [decide_eq_false h, Bool.and_false, Bool.and_false]

/-- The backdrop output is low. -/
theorem bitOf_bk_low (x i : Nat) : bitOf (x % 16) i = (bitOf x i && decide (i < 4)) := by
  rw [bitOf_eq_testBit, bitOf_eq_testBit, show x % 16 = x % 2 ^ 4 from rfl, Nat.testBit_mod_two_pow, Bool.and_comm]

/-! ### Periods -/

theorem State.nextPeriod_phase (s : State) (o : Nat) : s.nextPeriod o % 1000000000 = phaseOf o := by
  have hlt : phaseOf o < 1000000000 := by
    unfold phaseOf
    split <;> omega
  unfold State.nextPeriod
  dsimp only
  split <;> omega

/-- The on-time that a period takes (R299, R310). -/
def State.periodMs (s : State) (o : Nat) : Nat := if s.outEnabled o = true then s.onTime o else 0

/-- The levels at the start of a period of output `o`. -/
def State.levelsAt (s : State) (o : Nat) : Nat :=
  if s.periodMs o = 0 then andNot s.loops.high (2 ^ o) else andNot s.loops.high (2 ^ o) + 2 ^ o

theorem State.periodStart_eq (s : State) {o : Nat} (h : o < 5) : s.periodStart o =
    { s.advance (s.nextPeriod o) with
      loops := { s.loops with onMs := mset 0 s.loops.onMs o (s.periodMs o), high := s.levelsAt o,
                              began := mset 0 s.loops.began o (s.nextPeriod o) } } :=
  if_neg (by omega)

theorem State.levelsAt_self (s : State) (o : Nat) : bitOf (s.levelsAt o) o = (s.outEnabled o && s.onTime o != 0) := by
  have hpos : (s.outEnabled o && s.onTime o != 0) = (s.periodMs o != 0) := by
    unfold State.periodMs
    cases s.outEnabled o <;> rfl
  rw [hpos, State.levelsAt]
  split
  next h => rw [bitOf_andNot_self, h]; rfl
  next h => rw [bitOf_raised, decide_eq_true rfl, bne_iff_ne.mpr h]; rfl

theorem State.levelsAt_ne (s : State) {i o : Nat} (h : i ≠ o) : bitOf (s.levelsAt o) i = bitOf s.loops.high i := by
  unfold State.levelsAt
  split
  · exact bitOf_andNot_ne _ h
  · rw [bitOf_raised, decide_eq_false h, Bool.false_or]

theorem State.outputOff_falls (s : State) {o : Nat} (hms : mget 0 s.loops.onMs o ≠ 1000)
    (hhigh : bitOf s.loops.high o = true) : s.outputOff o =
      { s.advance (mget 0 s.loops.began o + 1000000 * mget 0 s.loops.onMs o) with
        loops := { s.loops with high := andNot s.loops.high (2 ^ o) } } :=
  if_neg (by simp [hms, hhigh])

theorem State.outputOff_stays (s : State) {o : Nat} (h : mget 0 s.loops.onMs o = 1000 ∨ bitOf s.loops.high o = false) :
    s.outputOff o = s := if_pos h

/-! ### A write that depends on a condition -/

/-- A field is written where the condition holds. -/
theorem State.get_ite_set (s : State) (c : Prop) [Decidable c] (f : Fld) (v : Nat) :
    (if c then s.set f v else s).get f = if c then v % 2 ^ f.width else s.get f := by
  split
  · exact State.get_set _ _ _
  · rfl

theorem State.get_ite_set_ne (s : State) (c : Prop) [Decidable c] (f g : Fld) (v : Nat) (h : g.key ≠ f.key) :
    (if c then s.set f v else s).get g = s.get g := by
  split
  · exact State.get_set_ne _ _ _ _ h
  · rfl

theorem regsBut.ite_set {l : List Fld} {s t : State} (h : regsBut l s t) (c : Prop) [Decidable c] {f : Fld} (v : Nat)
    (hf : f ∈ l) : regsBut l s (if c then t.set f v else t) := (h.set hf).ite h

theorem set_frame {s t : State} (h : t = { s with regs := t.regs }) (f : Fld) (v : Nat) :
    t.set f v = { s with regs := (t.set f v).regs } := congrArg (fun u : State => { u with regs := (t.set f v).regs }) h

theorem ite_set_frame {s t : State} (h : t = { s with regs := t.regs }) (c : Prop) [Decidable c] (f : Fld) (v : Nat) :
    (if c then t.set f v else t) = { s with regs := (if c then t.set f v else t).regs } := by
  split
  · exact set_frame h f v
  · exact h

/-! ### LOOP_CTRL -/

/-- The fields of LOOP_CTRL that a write leaves as written. -/
abbrev loopCtrlFlds : List Fld := [LOOP_CTRL_PHEN, LOOP_CTRL_BKEN, LOOP_CTRL_PHMAN, LOOP_CTRL_BKMAN, LOOP_CTRL_MINON]

/-- LOOP_CTRL as a word is written to it. -/
def State.loopCtrlPut (s : State) (v : Word) : State :=
  ((((s.set LOOP_CTRL_PHEN (bits v.toNat 0 1)).set LOOP_CTRL_BKEN (bits v.toNat 1 1)).set LOOP_CTRL_PHMAN
    (bits v.toNat 2 1)).set LOOP_CTRL_BKMAN (bits v.toNat 3 1)).set LOOP_CTRL_MINON (bits v.toNat 8 8)

theorem fieldsAt_loopCtrl : fieldsAt 0xD000 = [LOOP_CTRL_PHEN, LOOP_CTRL_BKEN, LOOP_CTRL_PHMAN, LOOP_CTRL_BKMAN,
    LOOP_CTRL_PHCLR, LOOP_CTRL_BKCLR, LOOP_CTRL_MINON] := by decide +kernel

theorem State.implMask_loopCtrl (s : State) : s.implMask 0xD000 = 2 ^ 32 - 1 := by
  unfold State.implMask
  cases s.fuses.nk1024 <;> rfl

theorem State.writeFlds_loopCtrl (s : State) (v : Word) : s.writeFlds 0xD000 v.toNat 0 = s.loopCtrlPut v := by
  have hword : v.toNat &&& (2 ^ 32 - 1) = v.toNat := by
    rw [Nat.and_two_pow_sub_one_eq_mod]
    exact Nat.mod_eq_of_lt v.isLt
  unfold State.writeFlds
  rw [fieldsAt_loopCtrl]
  simp only [State.implMask_loopCtrl, hword]
  rfl

theorem State.loopCtrlPut_regsBut (s : State) (v : Word) : regsBut loopCtrlFlds s (s.loopCtrlPut v) :=
  (((((regsBut.refl _ s).set (by simp)).set (by simp)).set (by simp)).set (by simp)).set (by simp)

theorem State.loopCtrlPut_frame (s : State) (v : Word) : s.loopCtrlPut v = { s with regs := (s.loopCtrlPut v).regs } :=
  set_frame (set_frame (set_frame (set_frame (set_frame rfl _ _) _ _) _ _) _ _) _ _

theorem State.loopCtrlPut_shown (s : State) (v : Word) :
    (s.loopCtrlPut v).get LOOP_CTRL_PHEN = bits v.toNat 0 1 ∧ (s.loopCtrlPut v).get LOOP_CTRL_BKEN = bits v.toNat 1 1 ∧
    (s.loopCtrlPut v).get LOOP_CTRL_PHMAN = bits v.toNat 2 1 ∧
    (s.loopCtrlPut v).get LOOP_CTRL_BKMAN = bits v.toNat 3 1 ∧
    (s.loopCtrlPut v).get LOOP_CTRL_MINON = bits v.toNat 8 8 := by
  unfold State.loopCtrlPut
  simp (disch := decide) only [State.get_set, State.get_set_ne]
  exact ⟨Nat.mod_mod _ _, Nat.mod_mod _ _, Nat.mod_mod _ _, Nat.mod_mod _ _, Nat.mod_mod _ _⟩

/-- The integrators of the loops that the write takes out of manual mode, from where the manual duty stood (R309). -/
def State.manualLeft (s t : State) (v : Word) : State :=
  let t := if s.flag LOOP_CTRL_PHMAN && fldOf LOOP_CTRL_PHMAN v == 0 then
    t.set LOOP_PHU_I (min (max (t.get LOOP_PHCFG_MAN) (t.get LOOP_PHLIM_UMIN)) (t.get LOOP_PHLIM_UMAX)) else t
  if s.flag LOOP_CTRL_BKMAN && fldOf LOOP_CTRL_BKMAN v == 0 then
    t.set LOOP_BKU_I (min (max (t.get LOOP_BKCFG_MAN) (t.get LOOP_BKLIM_UMIN)) (t.get LOOP_BKLIM_UMAX)) else t

/-- The levels once the outputs of a loop that does not run are low (R310). -/
def State.levelsEnabled (s : State) : Nat :=
  let h := if s.flag LOOP_CTRL_PHEN then s.loops.high else s.loops.high / 16 * 16
  if s.flag LOOP_CTRL_BKEN then h else h % 16

def State.levelsShut (s : State) : State := { s with loops := { s.loops with high := s.levelsEnabled } }

/-- A write that the loops take, before what manual mode shows (R308 to R310). -/
def State.loopCtrlTaken (s : State) (v : Word) : State := (s.manualLeft (s.loopCtrlPut v) v).levelsShut

theorem State.loopCtrlW_taken (s : State) (v : Word) (hmin : bits v.toNat 8 8 ≤ 50)
    (href : s.get LOOP_STAT_GREF ≠ 1 ∨ (bits v.toNat 1 1 = 1 ∧ bits v.toNat 3 1 = 0)) (hclr : bits v.toNat 4 2 = 0) :
    s.loopCtrlW v = (s.loopCtrlTaken v).manShow := by
  have hbad : ¬((s.flag LOOP_STAT_GREF && (fldOf LOOP_CTRL_BKEN v == 0 || fldOf LOOP_CTRL_BKMAN v == 1)) = true ∨
      50 < fldOf LOOP_CTRL_MINON v) := by
    have hen : fldOf LOOP_CTRL_BKEN v = bits v.toNat 1 1 := rfl
    have hman : fldOf LOOP_CTRL_BKMAN v = bits v.toNat 3 1 := rfl
    have hon : fldOf LOOP_CTRL_MINON v = bits v.toNat 8 8 := rfl
    rw [hen, hman, hon, Bool.and_eq_true, Bool.or_eq_true, State.flag_iff, beq_iff_eq, beq_iff_eq]
    omega
  have hclr : v.toNat / 16 % 4 = 0 := hclr
  have hph : (fldOf LOOP_CTRL_PHCLR v == 1) = false := by
    rw [beq_eq_false_iff_ne, show fldOf LOOP_CTRL_PHCLR v = v.toNat / 16 % 2 from rfl]
    omega
  have hbk : (fldOf LOOP_CTRL_BKCLR v == 1) = false := by
    rw [beq_eq_false_iff_ne, show fldOf LOOP_CTRL_BKCLR v = v.toNat / 32 % 2 from rfl]
    omega
  have htaken : s.loopCtrlW v = ((s.manualLeft (s.writeFlds 0xD000 v.toNat 0) v).levelsShut.manShow).loopClr
      (fldOf LOOP_CTRL_PHCLR v == 1) (fldOf LOOP_CTRL_BKCLR v == 1) := if_neg hbad
  rw [htaken, hph, hbk, State.writeFlds_loopCtrl]
  rfl

theorem State.loopCtrlW_refused (s : State) (v : Word) (h : 50 < bits v.toNat 8 8 ∨
    (s.get LOOP_STAT_GREF = 1 ∧ (bits v.toNat 1 1 = 0 ∨ bits v.toNat 3 1 = 1))) :
    s.loopCtrlW v = s.set LOOP_STAT_WRERR 1 := by
  refine if_pos ?_
  rw [Bool.and_eq_true, Bool.or_eq_true, State.flag_iff, beq_iff_eq, beq_iff_eq]
  exact h.symm

/-! ### What a write of LOOP_CTRL shows -/

theorem State.manualLeft_frame (s t : State) (v : Word) :
    s.manualLeft t v = { t with regs := (s.manualLeft t v).regs } :=
  ite_set_frame (ite_set_frame rfl _ LOOP_PHU_I _) _ LOOP_BKU_I _

theorem State.manualLeft_regsBut (s t : State) (v : Word) : regsBut [LOOP_PHU_I, LOOP_BKU_I] t (s.manualLeft t v) :=
  ((regsBut.refl _ t).ite_set _ _ (f := LOOP_PHU_I) (by simp)).ite_set _ _ (f := LOOP_BKU_I) (by simp)

/-- Leaving manual mode sets I to the manual duty within the limits. -/
theorem State.manualLeft_shown (s t : State) (v : Word) :
    (s.manualLeft t v).get LOOP_PHU_I = (if s.get LOOP_CTRL_PHMAN = 1 ∧ bits v.toNat 2 1 = 0 then
      min (max (t.get LOOP_PHCFG_MAN) (t.get LOOP_PHLIM_UMIN)) (t.get LOOP_PHLIM_UMAX) % 2 ^ 10
      else t.get LOOP_PHU_I) ∧
    (s.manualLeft t v).get LOOP_BKU_I = (if s.get LOOP_CTRL_BKMAN = 1 ∧ bits v.toNat 3 1 = 0 then
      min (max (t.get LOOP_BKCFG_MAN) (t.get LOOP_BKLIM_UMIN)) (t.get LOOP_BKLIM_UMAX) % 2 ^ 10
      else t.get LOOP_BKU_I) := by
  have hph : fldOf LOOP_CTRL_PHMAN v = bits v.toNat 2 1 := rfl
  have hbk : fldOf LOOP_CTRL_BKMAN v = bits v.toNat 3 1 := rfl
  simp (disch := decide) only [State.manualLeft, State.get_ite_set, State.get_ite_set_ne, Bool.and_eq_true,
    State.flag_iff, beq_iff_eq, hph, hbk]
  exact ⟨rfl, rfl⟩

theorem State.levelsShut_level (s : State) (i : Nat) : bitOf s.levelsShut.loops.high i =
    (bitOf s.loops.high i && (if i < 4 then s.flag LOOP_CTRL_PHEN else s.flag LOOP_CTRL_BKEN)) := by
  have hph : bitOf (if s.flag LOOP_CTRL_PHEN then s.loops.high else s.loops.high / 16 * 16) i =
      (bitOf s.loops.high i && (s.flag LOOP_CTRL_PHEN || decide (4 ≤ i))) := by
    cases s.flag LOOP_CTRL_PHEN
    · exact bitOf_ph_low _ _
    · exact (Bool.and_true _).symm
  have hbk : bitOf s.levelsEnabled i =
      (bitOf s.loops.high i && (s.flag LOOP_CTRL_PHEN || decide (4 ≤ i)) &&
        (s.flag LOOP_CTRL_BKEN || decide (i < 4))) := by
    rw [← hph, State.levelsEnabled]
    cases s.flag LOOP_CTRL_BKEN
    · exact bitOf_bk_low _ _
    · exact (Bool.and_true _).symm
  refine hbk.trans ?_
  by_cases h : i < 4
  · rw [if_pos h, decide_eq_false (by omega), decide_eq_true h, Bool.or_false, Bool.or_true, Bool.and_true]
  · rw [if_neg h, decide_eq_true (by omega), decide_eq_false h, Bool.or_true, Bool.and_true, Bool.or_false]

theorem State.manShow_frame (s : State) : s.manShow = { s with regs := s.manShow.regs } :=
  ite_set_frame (ite_set_frame rfl _ LOOP_PHU_U _) _ LOOP_BKU_U _

theorem State.manShow_regsBut (s : State) : regsBut [LOOP_PHU_U, LOOP_BKU_U] s s.manShow :=
  ((regsBut.refl _ s).ite_set _ _ (f := LOOP_PHU_U) (by simp)).ite_set _ _ (f := LOOP_BKU_U) (by simp)

/-- In manual mode the duty is the manual one, over the high limit 0 all the same (R307, R309). -/
theorem State.manShow_shown (s : State) :
    s.manShow.get LOOP_PHU_U = (if s.get LOOP_CTRL_PHMAN = 1 then s.get LOOP_PHCFG_MAN % 2 ^ 10
      else s.get LOOP_PHU_U) ∧
    s.manShow.get LOOP_BKU_U = (if s.get LOOP_CTRL_BKMAN = 1 ∧ s.get LOOP_STAT_BKOVER ≠ 1 then
      s.get LOOP_BKCFG_MAN % 2 ^ 10 else s.get LOOP_BKU_U) := by
  simp (disch := decide) only [State.manShow, State.get_ite_set, State.get_ite_set_ne, State.flag, Bool.and_eq_true,
    Bool.not_eq_true', beq_iff_eq, beq_eq_false_iff_ne]
  exact ⟨rfl, rfl⟩

/-! ### A write that is taken -/

theorem State.loopCtrlTaken_regsBut (s : State) (v : Word) :
    regsBut [LOOP_PHU_I, LOOP_BKU_I] (s.loopCtrlPut v) (s.loopCtrlTaken v) := s.manualLeft_regsBut _ v

/-- What none of the loops' own fields holds reads as before. -/
theorem State.loopCtrlTaken_get (s : State) (v : Word) {f : Fld}
    (hf : ∀ g ∈ LOOP_PHU_I :: LOOP_BKU_I :: loopCtrlFlds, f.key ≠ g.key) : (s.loopCtrlTaken v).get f = s.get f :=
  (s.loopCtrlTaken_regsBut v f fun g hg => hf g (by simp at hg ⊢; tauto)).trans
    (s.loopCtrlPut_regsBut v f fun g hg => hf g (.tail _ (.tail _ hg)))

theorem State.loopCtrlTaken_shown (s : State) (v : Word) :
    (s.loopCtrlTaken v).get LOOP_CTRL_PHEN = bits v.toNat 0 1 ∧
    (s.loopCtrlTaken v).get LOOP_CTRL_BKEN = bits v.toNat 1 1 ∧
    (s.loopCtrlTaken v).get LOOP_CTRL_PHMAN = bits v.toNat 2 1 ∧
    (s.loopCtrlTaken v).get LOOP_CTRL_BKMAN = bits v.toNat 3 1 ∧
    (s.loopCtrlTaken v).get LOOP_CTRL_MINON = bits v.toNat 8 8 := by
  obtain ⟨h0, h1, h2, h3, h8⟩ := s.loopCtrlPut_shown v
  have h := s.loopCtrlTaken_regsBut v
  exact ⟨(h _ (by decide)).trans h0, (h _ (by decide)).trans h1, (h _ (by decide)).trans h2,
    (h _ (by decide)).trans h3, (h _ (by decide)).trans h8⟩

/-- The integrators that a write leaves (R309). -/
theorem State.loopCtrlTaken_integrators (s : State) (v : Word) :
    (s.loopCtrlTaken v).get LOOP_PHU_I = (if s.get LOOP_CTRL_PHMAN = 1 ∧ bits v.toNat 2 1 = 0 then
      min (max (s.get LOOP_PHCFG_MAN) (s.get LOOP_PHLIM_UMIN)) (s.get LOOP_PHLIM_UMAX) % 2 ^ 10
      else s.get LOOP_PHU_I) ∧
    (s.loopCtrlTaken v).get LOOP_BKU_I = (if s.get LOOP_CTRL_BKMAN = 1 ∧ bits v.toNat 3 1 = 0 then
      min (max (s.get LOOP_BKCFG_MAN) (s.get LOOP_BKLIM_UMIN)) (s.get LOOP_BKLIM_UMAX) % 2 ^ 10
      else s.get LOOP_BKU_I) := by
  have hput := s.loopCtrlPut_regsBut v
  obtain ⟨hph, hbk⟩ := s.manualLeft_shown (s.loopCtrlPut v) v
  rw [hput LOOP_PHCFG_MAN (by decide), hput LOOP_PHLIM_UMIN (by decide), hput LOOP_PHLIM_UMAX (by decide),
    hput LOOP_PHU_I (by decide)] at hph
  rw [hput LOOP_BKCFG_MAN (by decide), hput LOOP_BKLIM_UMIN (by decide), hput LOOP_BKLIM_UMAX (by decide),
    hput LOOP_BKU_I (by decide)] at hbk
  exact ⟨hph, hbk⟩

theorem State.loopCtrlTaken_frame (s : State) (v : Word) : s.loopCtrlTaken v =
    { s with regs := (s.loopCtrlTaken v).regs,
             loops := { s.loops with high := (s.loopCtrlTaken v).loops.high } } := by
  have hleft : s.manualLeft (s.loopCtrlPut v) v = { s with regs := (s.manualLeft (s.loopCtrlPut v) v).regs } :=
    (s.manualLeft_frame _ v).trans (congrArg (fun u : State =>
      { u with regs := (s.manualLeft (s.loopCtrlPut v) v).regs }) (s.loopCtrlPut_frame v))
  exact congrArg (fun u : State => { u with loops := { u.loops with high := (s.loopCtrlTaken v).loops.high } }) hleft

/-- A loop's outputs stay high only where the word enables it (R310). -/
theorem State.loopCtrlTaken_level (s : State) (v : Word) (i : Nat) :
    bitOf (s.loopCtrlTaken v).loops.high i =
      (bitOf s.loops.high i && (if i < 4 then bitOf v.toNat 0 else bitOf v.toNat 1)) := by
  obtain ⟨hph, hbk, -⟩ := s.loopCtrlTaken_shown v
  have hloops : (s.manualLeft (s.loopCtrlPut v) v).loops = s.loops := by
    rw [State.manualLeft_frame]
    rfl
  have hlevel := (s.manualLeft (s.loopCtrlPut v) v).levelsShut_level i
  have hphen : (s.manualLeft (s.loopCtrlPut v) v).flag LOOP_CTRL_PHEN = bitOf v.toNat 0 := congrArg (· == 1) hph
  have hbken : (s.manualLeft (s.loopCtrlPut v) v).flag LOOP_CTRL_BKEN = bitOf v.toNat 1 := congrArg (· == 1) hbk
  rw [hloops, hphen, hbken] at hlevel
  exact hlevel

end Sys2Proof.Machine
end

section
/-! The heater outputs and LOOP_CTRL as commands (R299, R300, R308 to R311). -/

namespace Sys2Proof

open Sys2Proof.Machine Sys2Proof.Machine.Reg

theorem heaterPeriodStart_takes_its_onTime (s : State) {o : Nat} (ho : o < 5) :
    ∃ t, exec (.heaterPeriodStart o) s = .next t ∧ mget 0 t.loops.onMs o = s.periodMs o ∧
      bitOf t.loops.high o = (s.outEnabled o && s.onTime o != 0) ∧
      (∀ i : Nat, i < 5 → i ≠ o → bitOf t.loops.high i = bitOf s.loops.high i ∧
        mget 0 t.loops.onMs i = mget 0 s.loops.onMs i) ∧
      mget 0 t.loops.began o = s.nextPeriod o ∧ t.time = max s.time (s.nextPeriod o) ∧
      s.nextPeriod o % 1000000000 = phaseOf o ∧
      t = { s with time := t.time, loops := { s.loops with high := t.loops.high, onMs := t.loops.onMs,
                                                           began := t.loops.began } } :=
  ⟨_, congrArg ok (s.periodStart_eq ho), (mget_mset _ _ _ _ _).trans (if_pos rfl), s.levelsAt_self o,
    fun _ _ h => ⟨s.levelsAt_ne h, mget_mset_ne' _ _ _ _ _ _ h⟩, (mget_mset _ _ _ _ _).trans (if_pos rfl), rfl,
    s.nextPeriod_phase o, rfl⟩

theorem heaterOutputOff_falls {s : State} {o : Nat} (hms : mget 0 s.loops.onMs o ≠ 1000)
    (hhigh : bitOf s.loops.high o = true) :
    ∃ t, exec (.heaterOutputOff o) s = .next t ∧ bitOf t.loops.high o = false ∧
      (∀ i : Nat, i < 5 → i ≠ o → bitOf t.loops.high i = bitOf s.loops.high i) ∧
      t.time = max s.time (mget 0 s.loops.began o + 1000000 * mget 0 s.loops.onMs o) ∧
      t = { s with time := t.time, loops := { s.loops with high := t.loops.high } } :=
  ⟨_, congrArg ok (s.outputOff_falls hms hhigh), bitOf_andNot_self _ _, fun _ _ h => bitOf_andNot_ne _ h, rfl, rfl⟩

theorem loopClr_shown (s : State) (p b : Bool) :
    (s.loopClr p b).get LOOP_PHU_I = (if p = true then s.get LOOP_PHLIM_UMIN % 2 ^ 10 else s.get LOOP_PHU_I) ∧
    (s.loopClr p b).get LOOP_BKU_I = (if b = true then s.get LOOP_BKLIM_UMIN % 2 ^ 10 else s.get LOOP_BKU_I) ∧
    s.loopClr p b = { s with regs := (s.loopClr p b).regs } ∧
    regsBut [LOOP_PHU_I, LOOP_BKU_I] s (s.loopClr p b) := by
  refine ⟨?_, ?_, ite_set_frame (ite_set_frame rfl _ LOOP_PHU_I _) _ LOOP_BKU_I _,
    ((regsBut.refl _ s).ite_set _ _ (f := LOOP_PHU_I) (by simp)).ite_set _ _ (f := LOOP_BKU_I) (by simp)⟩
  · exact (State.get_ite_set_ne _ _ _ _ _ (by decide)).trans (State.get_ite_set _ _ _ _)
  · refine (State.get_ite_set _ _ _ _).trans ?_
    rw [State.get_ite_set_ne _ _ _ _ _ (by decide), State.get_ite_set_ne _ _ _ _ _ (by decide)]
    rfl

theorem loopCtrlWritten_shown (s : State) (v : Word) :
    let t := (s.loopCtrlTaken v).manShow
    t.get LOOP_CTRL_PHEN = bits v.toNat 0 1 ∧ t.get LOOP_CTRL_BKEN = bits v.toNat 1 1 ∧
    t.get LOOP_CTRL_PHMAN = bits v.toNat 2 1 ∧ t.get LOOP_CTRL_BKMAN = bits v.toNat 3 1 ∧
    t.get LOOP_CTRL_MINON = bits v.toNat 8 8 := by
  obtain ⟨h0, h1, h2, h3, h8⟩ := s.loopCtrlTaken_shown v
  have h := (s.loopCtrlTaken v).manShow_regsBut
  exact ⟨(h _ (by decide)).trans h0, (h _ (by decide)).trans h1, (h _ (by decide)).trans h2,
    (h _ (by decide)).trans h3, (h _ (by decide)).trans h8⟩

/-- The duties after a write: the manual one in manual mode, but for the backdrop over its limit (R307, R309). -/
theorem loopCtrlWritten_duties (s : State) (v : Word) :
    let t := (s.loopCtrlTaken v).manShow
    t.get LOOP_PHU_U = (if bits v.toNat 2 1 = 1 then s.get LOOP_PHCFG_MAN % 2 ^ 10 else s.get LOOP_PHU_U) ∧
    t.get LOOP_BKU_U = (if bits v.toNat 3 1 = 1 ∧ s.get LOOP_STAT_BKOVER ≠ 1 then s.get LOOP_BKCFG_MAN % 2 ^ 10
      else s.get LOOP_BKU_U) := by
  obtain ⟨-, -, h2, h3, -⟩ := s.loopCtrlTaken_shown v
  obtain ⟨hph, hbk⟩ := (s.loopCtrlTaken v).manShow_shown
  rw [h2, s.loopCtrlTaken_get v (f := LOOP_PHCFG_MAN) (by decide), s.loopCtrlTaken_get v (f := LOOP_PHU_U) (by decide)]
    at hph
  rw [h3, s.loopCtrlTaken_get v (f := LOOP_STAT_BKOVER) (by decide),
    s.loopCtrlTaken_get v (f := LOOP_BKCFG_MAN) (by decide), s.loopCtrlTaken_get v (f := LOOP_BKU_U) (by decide)] at hbk
  exact ⟨hph, hbk⟩

theorem loopCtrlWritten_frame (s : State) (v : Word) :
    let t := (s.loopCtrlTaken v).manShow
    t = { s with regs := t.regs, loops := { s.loops with high := t.loops.high } } := by
  dsimp only
  rw [State.manShow_frame]
  generalize (s.loopCtrlTaken v).manShow.regs = m
  rw [s.loopCtrlTaken_frame v]

/-- Settles O43, by what each command leaves of levels, on-times, duties and integrators. -/
theorem heaterOutputsAndLoopControlFollowTheirSettings :
    Obligations.HeaterOutputsAndLoopControlFollowTheirSettings := by
  refine ⟨fun s _ ho => heaterPeriodStart_takes_its_onTime s ho,
    fun _ _ _ hms hhigh => heaterOutputOff_falls hms hhigh, fun s _ h => ⟨s, congrArg ok (s.outputOff_stays h), rfl⟩,
    fun s _ p b hp => State.guardW_answers hp (loopClr_shown s p b), fun s _ v hp hmin href hclr => ?_,
    fun s _ v hp hbad => ?_⟩
  · refine State.guardW_answers hp ?_
    rw [s.loopCtrlW_taken v hmin href hclr]
    obtain ⟨hphen, hbken, hphman, hbkman, hminon⟩ := loopCtrlWritten_shown s v
    obtain ⟨hphi, hbki⟩ := s.loopCtrlTaken_integrators v
    obtain ⟨hphu, hbku⟩ := loopCtrlWritten_duties s v
    have hshow := (s.loopCtrlTaken v).manShow_regsBut
    have hloops : (s.loopCtrlTaken v).manShow.loops = (s.loopCtrlTaken v).loops := by rw [State.manShow_frame]
    refine ⟨hphen, hbken, hphman, hbkman, hminon, (hshow _ (by decide)).trans hphi, (hshow _ (by decide)).trans hbki,
      hphu, hbku, fun i _ => ?_, loopCtrlWritten_frame s v, ?_⟩
    · rw [hloops]
      exact s.loopCtrlTaken_level v i
    · exact ((s.loopCtrlPut_regsBut v).mono (by simp)).trans
        (((s.loopCtrlTaken_regsBut v).mono (by simp)).trans (hshow.mono (by simp)))
  · refine State.guardW_answers hp ?_
    rw [s.loopCtrlW_refused v hbad]
    exact ⟨State.get_set s _ 1, rfl, (regsBut.refl _ s).set List.mem_cons_self⟩

end Sys2Proof
end
